-- ==== Sys2Proof/Word.lean ====
section
/-! DEFINITION. The word types of the SHN7192 model: bytes, registers and counters are bit vectors; register numbers,
counts, lengths and exact times are natural numbers or integers. -/

namespace Sys2Proof

/-- One byte, as frames, images and DMA records hold it. -/
abbrev Byte := BitVec 8
/-- A 32-bit register or a double word of one (R6). -/
abbrev Word32 := BitVec 32
/-- A register of any width: a 32-bit register leaves bits 63 to 32 zero, a counter uses all 64 (R6). -/
abbrev Reg64 := BitVec 64
/-- A 48-bit MAC address as an integer: bits 47 to 40 hold the first byte on the line (R133). -/
abbrev Mac := BitVec 48

end Sys2Proof
end

