-- ==== Sys2Proof/Syntax.lean ====
section
/-! DEFINITION. The commands of the SHN7192: one constructor of `Instr` for each row of spec/opcode_table.json, in the
table's order, with the row's operands. A command is one indivisible step (95_what_each_step_holds.md): a host access, an
event on a pin or a line, or the instant at which a timer or an engine of the device comes to its next step. Whatever a
step takes from outside the digital device (bytes fetched by DMA or from flash, levels, measured phases, temperatures, faults)
is an operand. -/

namespace Sys2Proof

/-- A host access (R368, R376): the window, the byte offset in it, its length in double words, and whether all byte enables
are set. -/
structure Access where
  bar2 : Bool
  ofs : Nat
  dws : Nat
  fullBe : Bool
  deriving DecidableEq, Repr

/-- The line bit of a received line event: the unit intervals from the last measured edge of its lane's receive word clock to the bit of
its stamp point, stuff bits included; negative where the bit came before that edge (R93, R285). -/
structure LineStamp where
  bit : Int
  deriving DecidableEq, Repr

/-- Where a full image was fetched from (R80, R82). -/
inductive ImgSource where
  | flashA
  | flashB
  | host
  deriving DecidableEq, Repr

/-- The two field copies of the calibration region as the flash holds them (R307, R308). -/
structure CalFlash where
  copy0 : List Byte
  copy1 : List Byte
  deriving DecidableEq, Repr

/-- The fields of a PTP message that an engine reads (R262, R267, R268); `cf` is correctionField in 2^-16 ns. `short` says
that the message is shorter than its type requires. -/
structure PtpMsg where
  kind : Nat
  domain : Nat
  major : Nat
  srcClock : BitVec 64
  srcPort : Nat
  seq : Nat
  twoStep : Bool
  cf : Int
  tsSec : Nat
  tsNs : Nat
  reqClock : BitVec 64
  reqPort : Nat
  short : Bool
  frame : List Byte
  deriving DecidableEq, Repr

/-- A host transmit descriptor as fetched (Table 14.8). -/
structure TxDesc where
  addr : BitVec 64
  len : Nat
  port : Nat
  cls : Nat
  lt : Bool
  launch : Nat
  frac : Nat
  deriving DecidableEq, Repr

/-- What a double-bit error met when its word was read (Table 13.4): the memory and, where the containment depends on it,
the holder. `quiet` is a word that the scrubber found unused, or one left for its reader (R357). -/
inductive EccHit where
  | table (slice : Nat)
  | packetFrame (port : Nat)
  | descriptor (port : Nat)
  | staging (slice : Nat)
  | spill (slice port cls : Nat)
  | shadow
  | caddyRecord (ring rseq : Nat)
  | caddyHeader (ring rseq : Nat)
  | caddyChunk (ring idx : Nat)
  | scanned (engine : Nat)
  | quiet (memory : Nat)
  deriving DecidableEq, Repr

/-- The commands, one constructor for each row of spec/opcode_table.json. -/
inductive Instr where
  /-- REGISTER_WRITE (R8): a host write. -/
  | registerWrite (a : Access) (v : BitVec 64)
  /-- UNUSED_PORT_WRITE (R3). -/
  | unusedPortWrite (a : Access) (v : BitVec 64)
  /-- UNMAPPED_WRITE (R367). -/
  | unmappedWrite (a : Access) (v : BitVec 64)
  /-- ALIAS_WRITE (R372). -/
  | aliasWrite (a : Access) (v : BitVec 64)
  /-- ALIAS_READ (R373). -/
  | aliasRead (a : Access)
  /-- ERR_STATUS_CLEAR (R374): a write of CLR = 1 to the ERR_STATUS register of the block or unit at `base`. -/
  | errStatusClear (base : Nat)
  /-- PG_AON_FALL (R58). -/
  | pgAonFall
  /-- PG_CORE_MEM_FALL (R33): which of the two inputs fell. -/
  | pgCoreMemFall (core mem : Bool)
  /-- RESET_N_ASSERT (R58). -/
  | resetNAssert
  /-- POWER_UP_START (R36): the inputs rise; the straps are sampled. -/
  | powerUpStart (bootSel : BitVec 2) (core mem : Bool)
  /-- SOFT_DEVICE_RESET (R58): a write of DEV_RESET with SOFT = 1. -/
  | softDeviceReset (key : BitVec 16)
  /-- SLICE_RESET (R59): a write of DEV_RESET with SLICE_RST = mask. -/
  | sliceReset (mask : BitVec 4) (key : BitVec 16)
  /-- PERST_N_ASSERT (R58). -/
  | perstNAssert
  /-- PERST_N_RELEASE (R415). -/
  | perstNRelease
  /-- FUNCTION_LEVEL_RESET (R365). -/
  | functionLevelReset
  /-- PCIE_LINK_UP (R366): the link is up; the values the host then gives Bus Master Enable, MSI-X Enable and Function Mask. -/
  | pcieLinkUp (bme msixEnable funcMask : Bool)
  /-- PCIE_LINK_DOWN (R397): the link is lost, or (`bmeOnly`) only Bus Master Enable is cleared. -/
  | pcieLinkDown (bmeOnly : Bool)
  /-- PORT_RESET (R58): a write of PRT_STATE.RESET. -/
  | portReset (p : Nat)
  /-- PORT_ADMIN_DOWN (R49). -/
  | portAdminDown (p : Nat)
  /-- PORT_ADMIN_UP (R48). -/
  | portAdminUp (p : Nat)
  /-- MODE_REQ_LULL (R53). -/
  | modeReqLull
  /-- MODE_REQ_BREEZE (R42). -/
  | modeReqBreeze
  /-- MODE_REQ_GALE (R44). -/
  | modeReqGale
  /-- MODE_REQ_CALM (R40). -/
  | modeReqCalm
  /-- MODE_REQ_PROBE (R34). -/
  | modeReqProbe
  /-- CALM_DROP_DONE (R40). -/
  | calmDropDone
  /-- CORE_PLL_LOSS (R30). -/
  | corePllLoss
  /-- SUPPLY_OUT_OF_RANGE (R406): rail number in the order of DEV_PWR_STATUS, above its maximum or below its minimum. -/
  | supplyOutOfRange (rail : Nat) (high : Bool)
  /-- AON_CLK_ABSENT (R52). -/
  | aonClkAbsent
  /-- AON_RATE_MEASURE (R51): AON cycles counted in the window that ends. -/
  | aonRateMeasure (aonCycles : Nat)
  /-- IMAGE_FETCH_COMPLETE (R81): the bytes fetched, and the calibration region of the flash. -/
  | imageFetchComplete (src : ImgSource) (img : List Byte) (cal : CalFlash)
  /-- LOADER_WATCHDOG_EXPIRY (R82). -/
  | loaderWatchdogExpiry
  /-- SHADOW_COPY (R82). -/
  | shadowCopy
  /-- FULL_IMAGE_FETCH (R83): a write of IMG_CMD.OP = 1. -/
  | fullImageFetch
  /-- PARTIAL_IMAGE_FETCH (R84): a write of IMG_CMD.OP = 2; INST of the image's segment. -/
  | partialImageFetch (s : Nat)
  /-- PARTIAL_IMAGE_ABORT (R85): a write of IMG_CMD.OP = 3. -/
  | partialImageAbort
  /-- PARTIAL_IMAGE_FETCHED (R85). -/
  | partialImageFetched (img : List Byte)
  /-- SLICE_PIPELINE_EMPTY (R85). -/
  | slicePipelineEmpty (s : Nat)
  /-- PARTIAL_IMAGE_APPLIED (R85). -/
  | partialImageApplied (s : Nat)
  /-- STEEP_PLLS_LOCKED (R37). -/
  | steepPllsLocked
  /-- LINEARISATION_DONE (R282): hits per tap of the first and of the second 2^19 hits. -/
  | linearisationDone (ch : Nat) (h1 h2 : List Nat)
  /-- ACQUISITION_LIMIT_EXPIRY (R37). -/
  | acquisitionLimitExpiry
  /-- STEEP_EXIT (R37). -/
  | steepExit
  /-- SLICE_DRAIN_DONE (R42). -/
  | sliceDrainDone (s : Nat)
  /-- SLICE_DRAIN_LIMIT_EXPIRY (R42). -/
  | sliceDrainLimitExpiry (s : Nat)
  /-- SLICE_POWER_UP_DONE (R44). -/
  | slicePowerUpDone (s : Nat) (cal : CalFlash)
  /-- LULL_DRAIN_DONE (R53). -/
  | lullDrainDone
  /-- LULL_COMMIT (R53). -/
  | lullCommit
  /-- LULL_SHUTDOWN_DONE (R53). -/
  | lullShutdownDone
  /-- WAKE_EVENT (R54): the sources that fired together. -/
  | wakeEvent (lanes : BitVec 8) (evts : BitVec 4) (wakeIn supply : Bool)
  /-- LULL_RAIL_TIMEOUT (R55). -/
  | lullRailTimeout
  /-- WAKE_RAILS_GOOD (R55). -/
  | wakeRailsGood
  /-- WAKE_PLL_LOCKED (R55). -/
  | wakePllLocked
  /-- AON_HANDOVER (R56): the interval from the AON edge to the next core-clock edge, in 2^-16 ns. -/
  | aonHandover (phi : Nat)
  /-- LANE_RESET (R123): a write of LN_CTRL.RESET. -/
  | laneReset (l : Nat)
  /-- TRUNK_IDLE_REQ (R117): a write of LN_TRUNK_CTRL.IDLE_REQ. -/
  | trunkIdleReq (l : Nat)
  /-- TRUNK_IDLE_EXIT (R119): a write of LN_TRUNK_CTRL.IDLE_EXIT. -/
  | trunkIdleExit (l : Nat)
  /-- MARKER_RECEIVED (R101): a marker at an expected position ends. What lane l received at its pins, first bit first: `pre` since its last
  such command up to the marker, and `m` the marker; and the instant of the marker's bit 0. -/
  | markerReceived (l : Nat) (pre m : List Bool) (t : LineStamp)
  /-- TRUNK_UNIT_RECEIVED (R104): a unit ends. What lane l received since its last such command, up to the end of the header where that came
  since then, and after it; the stamp point of the unit; `slots` as in INGRESS_FRAME. -/
  | trunkUnitReceived (l : Nat) (hdr body : List Bool) (t : LineStamp) (slots : Nat)
  /-- POINTER_RECEIVED (R105): the pointer of a superframe ends. What lane l received since its last such command, up to the pointer and the
  pointer. -/
  | pointerReceived (l : Nat) (pre ptr : List Bool)
  /-- REORDER_TIMEOUT (R107): port of a four-lane trunk; `slots` as in INGRESS_FRAME. -/
  | reorderTimeout (p : Nat) (slots : Nat)
  /-- CAP_RECEIVED (R113): a CAP message with argument ARG is received on the port's first lane, in the third of its markers or a later one, and
  RXA of that marker. -/
  | capReceived (l : Nat) (arg : BitVec 24) (rxa : Bool)
  /-- PROP_RECEIVED (R113). -/
  | propReceived (l : Nat) (arg : BitVec 24)
  /-- ACK_RECEIVED (R113). -/
  | ackReceived (l : Nat) (arg : BitVec 24)
  /-- NAK_RECEIVED (R113). -/
  | nakReceived (l : Nat) (arg : BitVec 24)
  /-- TRAIN_RECEIVED (R113). -/
  | trainReceived (l : Nat) (arg : BitVec 24) (rxa : Bool)
  /-- DATA_MARKER_RECEIVED (R113). -/
  | dataMarkerReceived (l : Nat)
  /-- IDLE_REQ_RECEIVED (R117). -/
  | idleReqReceived (l : Nat)
  /-- IDLE_ACK_RECEIVED (R118). -/
  | idleAckReceived (l : Nat)
  /-- IDLE_REQ_SEND (R117). -/
  | idleReqSend (l : Nat)
  /-- IDLE_HANDSHAKE_COMPLETE (R118). -/
  | idleHandshakeComplete (l : Nat)
  /-- IDLE_ACTIVITY_DETECTED (R119). -/
  | idleActivityDetected (l : Nat)
  /-- IDLE_EXIT_TIMEOUT (R119). -/
  | idleExitTimeout (l : Nat)
  /-- TRUNK_SWITCH_STEP (R113). -/
  | trunkSwitchStep (l : Nat)
  /-- CAP_TIMEOUT (R113). -/
  | capTimeout (l : Nat)
  /-- RESPONSE_TIMER_EXPIRY (R113). -/
  | responseTimerExpiry (l : Nat)
  /-- TRAINING_TIMER_EXPIRY (R113). -/
  | trainingTimerExpiry (l : Nat)
  /-- LOS_ASSERT (R120). -/
  | losAssert (l : Nat)
  /-- LOS_DEASSERT (R120). -/
  | losDeassert (l : Nat)
  /-- LOL_ASSERT (R120). -/
  | lolAssert (l : Nat)
  /-- LOS_LOL_PERSIST (R121). -/
  | losLolPersist (l : Nat)
  /-- LANE_LOCK_ACQUIRED (R115). -/
  | laneLockAcquired (l : Nat)
  /-- FIRST_ATTEMPT_TIMEOUT (R115). -/
  | firstAttemptTimeout (l : Nat)
  /-- EYE_MEASUREMENT (R122): width in 1/128 UI, height in mV. -/
  | eyeMeasurement (l width height : Nat)
  /-- INGRESS_FRAME (R124): the bytes from the destination address through the FCS, and the stamp point; `slots` is the
  number of spare pipeline slots for Caddy copies. -/
  | ingressFrame (p : Nat) (bytes : List Byte) (t : LineStamp) (slots : Nat)
  /-- LEARN_REQUEST_APPLY (R152): the oldest pending request of the slice. -/
  | learnRequestApply (s : Nat)
  /-- STASH_MOVE (R146). -/
  | stashMove (s : Nat)
  /-- MOVE_SECOND_END (R154). -/
  | moveSecondEnd (s : Nat)
  /-- AGEING_VISIT (R156): raw slot number, or FDB_ENTRIES + i for stash entry i. -/
  | ageingVisit (s slot : Nat)
  /-- TW_WRITE (R161): a write of TW_CMD with OP = 1. -/
  | twWrite (w : Nat) (table : BitVec 2)
  /-- TW_DELETE (R161): OP = 2. -/
  | twDelete (w : Nat) (table : BitVec 2)
  /-- TW_READ (R162): OP = 3. -/
  | twRead (w : Nat) (table : BitVec 2)
  /-- TW_RAW (R162): OP = 4. -/
  | twRaw (w : Nat) (table : BitVec 2)
  /-- TW_FLUSH (R162): OP = 5. -/
  | twFlush (w : Nat) (table : BitVec 2)
  /-- TW_COMMAND_DONE (R162). -/
  | twCommandDone (w : Nat)
  /-- FENCE_SET (R159): a write of SLC_FENCE with SET = 1 and FENCE_EV as given. -/
  | fenceSet (s : Nat) (fenceEv : Bool)
  /-- FENCE_DONE (R159). -/
  | fenceDone (s : Nat)
  /-- EPOCH_BOUNDARY (R182). -/
  | epochBoundary
  /-- RESIDUE_TIMEOUT (R189): the multicast frame numbered `id` on a plane of a slice. -/
  | residueTimeout (plane slice id : Nat)
  /-- SPILL_REFILL (R178): VOQ {slice, n, class}. -/
  | spillRefill (slice n cls : Nat)
  /-- AUDIT_ROUND_END (R176). -/
  | auditRoundEnd
  /-- RESIDENCE_SWEEP (R187). -/
  | residenceSweep
  /-- HOST_BUFFER_FREE (R173): a write of BPM_FREE. -/
  | hostBufferFree (handle : BitVec 32)
  /-- POOL_LOW_CLEAR (R163): a write of BPM_CTRL.LOW_CLR. -/
  | poolLowClear
  /-- EGRESS_SELECT (R198): the MAC of a port can start a frame; `dep` is the line bit at which the line code permits the
  stamp point, in unit intervals after the last measured edge of the transmit word clock, stuff bits included (R93, R210, R285). -/
  | egressSelect (p : Nat) (dep : Nat)
  /-- GATE_ENTRY_TRANSITION (R200). -/
  | gateEntryTransition (p : Nat)
  /-- GCL_COMMIT (R201): COMMIT = 1, OFF = 0. -/
  | gclCommit (p : Nat)
  /-- GCL_COMMIT_OFF (R201): COMMIT = 1, OFF = 1. -/
  | gclCommitOff (p : Nat)
  /-- GCL_ABORT (R201). -/
  | gclAbort (p : Nat)
  /-- GCL_SWITCH (R201). -/
  | gclSwitch (p : Nat)
  /-- PFC_FRAME_RECEIVED (R205): class-enable vector and the eight quanta. -/
  | pfcFrameReceived (p : Nat) (enable : BitVec 8) (quanta : List (BitVec 16))
  /-- MAC_CONTROL_RECEIVED (R205). -/
  | macControlReceived (p : Nat)
  /-- PAUSE_EXPIRY (R205). -/
  | pauseExpiry (p c : Nat)
  /-- PAUSE_WATCHDOG_EXPIRY (R206). -/
  | pauseWatchdogExpiry (p c : Nat)
  /-- WD_DROP_CLEAR (R206). -/
  | wdDropClear (p c : Nat)
  /-- FRER_WRITE (R217): a write of FAB_FRER_CMD.OP = 1. -/
  | frerWrite
  /-- FRER_READ (R217): OP = 2. -/
  | frerRead
  /-- FRER_RESET (R219): OP = 3. -/
  | frerReset
  /-- FRER_RECOVERY_TIMEOUT (R219). -/
  | frerRecoveryTimeout (inst : Nat)
  /-- CHANNEL_EXCLUSION (R249): the channels whose deviation exceeds the threshold in one cycle, A in bit 0. -/
  | channelExclusion (chs : BitVec 3)
  /-- KETTLE_WATCHDOG_EXPIRY (R249). -/
  | kettleWatchdogExpiry (ch : Nat)
  /-- CHANNEL_COPY (R250). -/
  | channelCopy (ch : Nat)
  /-- READMISSION (R250). -/
  | readmission (ch : Nat)
  /-- LEAD_HANDOVER (R252). -/
  | leadHandover
  /-- HANDOVER_FORCED (R252). -/
  | handoverForced
  /-- TIMEBASE_GATE_END (R231): core cycles in the gate. -/
  | timebaseGateEnd (cycles : Nat)
  /-- TIMEBASE_ABSENT (R232). -/
  | timebaseAbsent
  /-- TIMEBASE_PRESENT (R232). -/
  | timebasePresent
  /-- OCXO_WARM_FALL (R233). -/
  | ocxoWarmFall
  /-- PPS_EDGE (R234): PPS_IN_0 or PPS_IN_1. -/
  | ppsEdge (i : Nat)
  /-- OFFSET_FEED_PUSH (R236): a write of KT_OFS_FEED_HI_d. -/
  | offsetFeedPush (d : Nat) (hi : BitVec 32)
  /-- FEED_CREDIT_GRANT (R237). -/
  | feedCreditGrant (d n : Nat)
  /-- FEED_CREDIT_RECALL (R237). -/
  | feedCreditRecall (d : Nat)
  /-- SERVO_UPDATE (R238). -/
  | servoUpdate (d : Nat)
  /-- SOURCE_LOSS (R243). -/
  | sourceLoss (d : Nat)
  /-- PAIR_REVERT (R247). -/
  | pairRevert (k : Nat)
  /-- PAIR_HOLD_PARTNER (R248). -/
  | pairHoldPartner (k : Nat)
  /-- PAIR_USE_PRIMARY (R248). -/
  | pairUsePrimary (k : Nat)
  /-- INCREMENT_WRITE (R241): a write of KT_INC_HI_d. -/
  | incrementWrite (d : Nat) (hi : BitVec 32)
  /-- FHT_START (R254). -/
  | fhtStart (ch : Nat)
  /-- FHT_PERIODIC_DUE (R254). -/
  | fhtPeriodicDue
  /-- FHT_COMPLETE (R254): what a fault of the holdover path adds to the shadow counter, in ps (zero in a good path). -/
  | fhtComplete (fault : Int)
  /-- ALARM_ARM (R256): a write of KT_ALM_CFG_n with ARM = 1. -/
  | alarmArm (n : Nat) (domain : Nat) (spout : Bool)
  /-- ALARM_FIRE (R256). -/
  | alarmFire (n : Nat)
  /-- SNAPSHOT (R257). -/
  | snapshot
  /-- SYNC_RECEIVED (R267). -/
  | syncReceived (p : Nat) (m : PtpMsg) (t : LineStamp)
  /-- FOLLOW_UP_RECEIVED (R267). -/
  | followUpReceived (p : Nat) (m : PtpMsg) (t : LineStamp)
  /-- DELAY_REQ_RECEIVED (R265). -/
  | delayReqReceived (p : Nat) (m : PtpMsg) (t : LineStamp)
  /-- DELAY_RESP_RECEIVED (R267). -/
  | delayRespReceived (p : Nat) (m : PtpMsg) (t : LineStamp)
  /-- PDELAY_REQ_RECEIVED (R263). -/
  | pdelayReqReceived (p : Nat) (m : PtpMsg) (t : LineStamp)
  /-- PDELAY_RESP_RECEIVED (R268). -/
  | pdelayRespReceived (p : Nat) (m : PtpMsg) (t : LineStamp)
  /-- PDELAY_RESP_FU_RECEIVED (R268). -/
  | pdelayRespFuReceived (p : Nat) (m : PtpMsg) (t : LineStamp)
  /-- PTP_TO_HOST (R262). -/
  | ptpToHost (p : Nat) (frame : List Byte) (t : LineStamp)
  /-- SYNC_GRID_DUE (R264). -/
  | syncGridDue (p : Nat)
  /-- DELAY_REQ_DUE (R263). -/
  | delayReqDue (p : Nat)
  /-- FOLLOW_UP_SEND (R265). -/
  | followUpSend (p : Nat)
  /-- ENGINE_FRAME_SEND (R266): the line bit of the frame's stamp point, as in EGRESS_SELECT. -/
  | engineFrameSend (p : Nat) (dep : Nat)
  /-- DELAY_RESP_TIMEOUT (R267). -/
  | delayRespTimeout (p : Nat)
  /-- OFFSET_WINDOW_CLOSE (R272). -/
  | offsetWindowClose (p : Nat)
  /-- TRIM_WRITE (R269): a write of PRT_TT_TRIM_RX or PRT_TT_TRIM_TX. -/
  | trimWrite (p : Nat) (rx : Bool) (v : BitVec 32)
  /-- EVENT_INPUT_TRANSITION (R286): the pin's new level, and the tap its edge reached. -/
  | eventInputTransition (n : Nat) (level : Bool) (tap : Nat)
  /-- GLITCH_FILTER_EXPIRY (R286). -/
  | glitchFilterExpiry (n : Nat)
  /-- ROTATION_SLOT_BEGIN (R287): group 0 to 4. -/
  | rotationSlotBegin (g : Nat)
  /-- TAKEOVER_OVERLAP_END (R288): mean difference in 0.1 ps. -/
  | takeoverOverlapEnd (g : Nat) (meanDiff : Int)
  /-- RECONNECT_OVERLAP_END (R288): mean difference in 0.1 ps. -/
  | reconnectOverlapEnd (g : Nat) (meanDiff : Int)
  /-- SKEW_MEASUREMENT (R23): in 2^-16 ns. -/
  | skewMeasurement (s : Nat) (skew : BitVec 32)
  /-- DLL_ERROR_PERSIST (R283): loop residual error, in 0.1 ps. -/
  | dllErrorPersist (ch : Nat) (dll : Nat)
  /-- RECAL_REQUEST (R290). -/
  | recalRequest (ch : Nat)
  /-- STAMP_QUEUE_CONFIG (R293): a write of PH_SQ_CFG_n. -/
  | stampQueueConfig (ch : Nat) (v : BitVec 32)
  /-- STAMP_CREDIT_GRANT (R294). -/
  | stampCreditGrant (ch n : Nat) (bar2 : Bool)
  /-- STAMP_CREDIT_RECALL (R294). -/
  | stampCreditRecall (ch : Nat) (bar2 : Bool)
  /-- STAMP_POP (R295). -/
  | stampPop (ch : Nat) (bar2 : Bool)
  /-- FM_START (R297): a write of PH_FM_CFG_e with START = 1. -/
  | fmStart (e : Nat) (v : BitVec 32)
  /-- FM_GATE_CLOSE (R297). -/
  | fmGateClose (e : Nat)
  /-- PULSE_ARM (R301). -/
  | pulseArm (n : Nat)
  /-- PULSE_STOP (R302). -/
  | pulseStop (n : Nat)
  /-- PULSE_EDGE (R300). -/
  | pulseEdge (n : Nat)
  /-- CLOCK_OUT_ENABLE (R305). -/
  | clockOutEnable (k : Nat) (en : Bool)
  /-- CLOCK_OUT_FREQ_WRITE (R305). -/
  | clockOutFreqWrite (k : Nat) (hz : BitVec 32)
  /-- CLOCK_PLL_LOCK (R305). -/
  | clockPllLock (k : Nat)
  /-- CLOCK_PLL_LOL (R306). -/
  | clockPllLol (k : Nat)
  /-- CLOCK_REF_LOSS (R306). -/
  | clockRefLoss (k : Nat)
  /-- CANDIDATE_INACTIVE (R312). -/
  | candidateInactive (i : Nat)
  /-- CANDIDATE_ACTIVE (R312). -/
  | candidateActive (i : Nat)
  /-- FREQ_MEASUREMENT (R313): the candidate's cycles in the window of 1 s, in 2^-16 of a cycle, or none where the window was cut short. -/
  | freqMeasurement (i : Nat) (n : Option Nat)
  /-- WTR_EXPIRY (R314). -/
  | wtrExpiry (i : Nat)
  /-- ESMC_PDU_RECEIVED (R316): the port and the SSM byte. -/
  | esmcPduReceived (p : Nat) (ssm : BitVec 8)
  /-- ESMC_TIMEOUT (R316). -/
  | esmcTimeout (i : Nat)
  /-- SELECTION_TICK (R318): the phase difference to the best candidate, in 0.1 ns. -/
  | selectionTick (delta : Int)
  /-- PULL_COMPLETE (R320). -/
  | pullComplete
  /-- HOLDOVER_RECORD (R323): the steering word of this instant, in 2^-40. -/
  | holdoverRecord (steer : BitVec 32)
  /-- RECORD_WRITE (R333). -/
  | recordWrite
  /-- POST_WINDOW_END (R336). -/
  | postWindowEnd (n : Nat)
  /-- RING_HOST_TRIGGER (R337). -/
  | ringHostTrigger (n : Nat)
  /-- RING_RELEASE (R340). -/
  | ringRelease (n : Nat)
  /-- READOUT_GO (R339). -/
  | readoutGo
  /-- READOUT_ABORT (R339). -/
  | readoutAbort
  /-- READOUT_DONE (R339). -/
  | readoutDone
  /-- REPLAY_ARM (R342). -/
  | replayArm (r : Nat)
  /-- REPLAY_STOP (R346). -/
  | replayStop (r : Nat)
  /-- REPLAY_RECORD_SEND (R344). -/
  | replayRecordSend (r : Nat)
  /-- REPLAY_DONE (R346). -/
  | replayDone (r : Nat)
  /-- STRAINER_GO (R353). -/
  | strainerGo (k : Nat)
  /-- STRAINER_STOP (R353). -/
  | strainerStop (k : Nat)
  /-- SCAN_END (R352): what a miscorrected word adds to the computed value by XOR (zero where memory is sound). -/
  | scanEnd (k : Nat) (corrupt : BitVec 32)
  /-- SCAN_PERIOD_EXPIRY (R353). -/
  | scanPeriodExpiry (k : Nat)
  /-- ALIVE_EXP_WRITE (R354): a write of ST_ENG_ALIVE_EXP_k. -/
  | aliveExpWrite (k : Nat) (v : BitVec 32)
  /-- ALIVE_DEADLINE_EXPIRY (R354). -/
  | aliveDeadlineExpiry (k : Nat)
  /-- ECC_SINGLE_ERROR (R356): memory m of Table 13.4. -/
  | eccSingleError (m : Nat)
  /-- ECC_DOUBLE_ERROR (R356). -/
  | eccDoubleError (hit : EccHit) (word : Nat)
  /-- SCRUB_PASS (R357). -/
  | scrubPass (m : Nat)
  /-- SLICE_WATCHDOG_EXPIRY (R359). -/
  | sliceWatchdogExpiry (s : Nat)
  /-- SCHEDULER_WATCHDOG_EXPIRY (R359). -/
  | schedulerWatchdogExpiry
  /-- MSIX_UNMASK (R379): a write that clears the mask bit of vector v. -/
  | msixUnmask (v : Nat)
  /-- SPOUT_POP (R385). -/
  | spoutPop
  /-- SPOUT_CREDIT_GRANT (R384). -/
  | spoutCreditGrant (c n : Nat)
  /-- SPOUT_CREDIT_RECALL (R384). -/
  | spoutCreditRecall (c : Nat)
  /-- HTX_TAIL_WRITE (R386). -/
  | htxTailWrite (v : BitVec 32)
  /-- HTX_DESCRIPTOR_FETCHED (R387): the next descriptor and the frame it names. -/
  | htxDescriptorFetched (d : TxDesc) (frame : List Byte)
  /-- HTX_WRITE_BACK (R386): the descriptor index whose frame has left or been dropped. -/
  | htxWriteBack (idx : Nat)
  /-- PF_SELECT (R391): a write of PF_SEL_n. -/
  | pfSelect (n : Nat) (v : BitVec 32)
  /-- DUMP_SAMPLE (R393): whether the record before it has been written out. -/
  | dumpSample (prevWritten : Bool)
  /-- MDIO_ADDRESS (R394). -/
  | mdioAddress (m : Nat) (prtad devad : BitVec 5) (data : BitVec 16)
  /-- MDIO_WRITE (R394). -/
  | mdioWrite (m : Nat) (prtad devad : BitVec 5) (data : BitVec 16)
  /-- MDIO_READ_INC (R394). -/
  | mdioReadInc (m : Nat) (prtad devad : BitVec 5)
  /-- MDIO_READ (R394). -/
  | mdioRead (m : Nat) (prtad devad : BitVec 5)
  /-- MDIO_OP_DONE (R394): the 16 data bits the PHY returned. -/
  | mdioOpDone (m : Nat) (data : BitVec 16)
  /-- FLASH_READ (R395). -/
  | flashRead (len : BitVec 13)
  /-- FLASH_PAGE_PROGRAM (R395). -/
  | flashPageProgram (len : BitVec 13) (key : BitVec 16)
  /-- FLASH_ERASE_4K (R395). -/
  | flashErase4k (key : BitVec 16)
  /-- FLASH_ERASE_64K (R395). -/
  | flashErase64k (key : BitVec 16)
  /-- FLASH_READ_SFDP (R395). -/
  | flashReadSfdp (len : BitVec 13)
  /-- FLASH_OP_DONE (R395): the bytes the flash returned, whether it reported a failure, and the size discovery found. -/
  | flashOpDone (data : List Byte) (failed : Bool) (sizeMib : BitVec 32)
  /-- FLASH_OP_TIMEOUT (R395). -/
  | flashOpTimeout
  /-- TAP_EXTEST (R396). -/
  | tapExtest
  /-- TAP_IDCODE (R396). -/
  | tapIdcode
  /-- TAP_SAMPLE_PRELOAD (R396). -/
  | tapSamplePreload
  /-- TAP_CLAMP (R396). -/
  | tapClamp
  /-- TAP_HIGHZ (R396). -/
  | tapHighz
  /-- TAP_EXTEST_PULSE (R396). -/
  | tapExtestPulse
  /-- TAP_EXTEST_TRAIN (R396). -/
  | tapExtestTrain
  /-- TAP_PRIVATE_DEBUG (R396): a code from 0x80 to 0xFE. -/
  | tapPrivateDebug (code : BitVec 8)
  /-- TAP_BYPASS (R396): 0xFF or any code the table does not define. -/
  | tapBypass (code : BitVec 8)
  /-- TEMPERATURE_READ (R418): eight junction readings in 0.125 degrees, four stack readings in degrees. -/
  | temperatureRead (tj : List Int) (mem : List Int)
  /-- OCXO_WARM_RISE (R37). -/
  | ocxoWarmRise
  /-- AON_CLK_RETURN (R52). -/
  | aonClkReturn
  /-- SLICE_RESET_DONE (R58). -/
  | sliceResetDone (s : Nat)
  /-- LOL_DEASSERT (R120). -/
  | lolDeassert (l : Nat)
  /-- OBSERVE_DEVIATION (R250). -/
  | observeDeviation (ch : Nat)
  /-- FOLLOW_UP_TIMEOUT (R267). -/
  | followUpTimeout (p : Nat)
  /-- DLY_VALID_EXPIRY (R269). -/
  | dlyValidExpiry (p : Nat)
  /-- WORD_CLOCK_SAMPLE (R285): a lane channel's measured word-clock edge, receive or transmit, its count of unit intervals
  since the last one, and its tap. -/
  | wordClockSample (ch : Nat) (tx : Bool) (ui : Nat) (tap : Nat)
  /-- TT_ROLE_WRITE (R279): a write of PRT_TT_CFG. -/
  | ttRoleWrite (p : Nat) (v : BitVec 32)
  /-- LANE_LOOP_PRBS_WRITE (R123): a write of LN_CTRL with the given LOOP and PRBS. -/
  | laneLoopPrbsWrite (l : Nat) (loop prbs : BitVec 2)
  deriving DecidableEq, Repr

end Sys2Proof
end

