-- ==== Sys2Proof/Machine/Bits.lean ====
section
/-! DEFINITION. Bit fields, signs, byte order and the small numeric helpers that every family uses. -/

namespace Sys2Proof.Machine

/-- Bits `hi` to `lo` of a register, as a number. -/
def bitsOf (v : Reg64) (hi lo : Nat) : Nat := (v.toNat / 2 ^ lo) % 2 ^ (hi + 1 - lo)

/-- A register with bits `hi` to `lo` replaced. -/
def withBits (v : Reg64) (hi lo x : Nat) : Reg64 :=
  BitVec.ofNat 64 (v.toNat - bitsOf v hi lo * 2 ^ lo + (x % 2 ^ (hi + 1 - lo)) * 2 ^ lo)

/-- Bit `i` of a number. -/
def bitAt (n i : Nat) : Bool := (n / 2 ^ i) % 2 == 1

/-- Bits `hi` to `lo` of a number. -/
def nbits (v hi lo : Nat) : Nat := v / 2 ^ lo % 2 ^ (hi + 1 - lo)

/-- A Boolean as 0 or 1. -/
def b2n (b : Bool) : Nat := if b then 1 else 0

/-- Number `n` with bit `i` set to `b`. -/
def setBit (n i : Nat) (b : Bool) : Nat := n - b2n (bitAt n i) * 2 ^ i + b2n b * 2 ^ i

/-- The two's-complement reading of the low `w` bits of `n`. -/
def signed (w n : Nat) : Int :=
  let m := n % 2 ^ w
  if m < 2 ^ (w - 1) then (m : Int) else (m : Int) - (2 ^ w : Nat)

/-- The low `w` bits of an integer in two's complement. -/
def unsigned (w : Nat) (i : Int) : Nat := (i % ((2 ^ w : Nat) : Int)).toNat

/-- An integer held inside a symmetric or other range. -/
def clampInt (lo hi x : Int) : Int := max lo (min hi x)

/-- Integer quotient rounded to the nearest, halves away from zero. -/
def roundDiv (a : Int) (b : Nat) : Int :=
  if a < 0 then -(((-a).toNat * 2 + b) / (2 * b) : Nat) else ((a.toNat * 2 + b) / (2 * b) : Nat)

/-- The bytes of `n`, least significant first (R5). -/
def leBytes : Nat → Nat → List Byte
  | 0, _ => []
  | k + 1, n => BitVec.ofNat 8 n :: leBytes k (n / 256)

/-- The number that a byte string holds least significant byte first (R5). -/
def leNat : List Byte → Nat
  | [] => 0
  | b :: bs => b.toNat + 256 * leNat bs

/-- The number that a byte string holds most significant byte first (network order). -/
def beNat (bs : List Byte) : Nat := leNat bs.reverse

/-- The bytes of `n`, most significant first. -/
def beBytes (k n : Nat) : List Byte := (leBytes k n).reverse

/-- `len` bytes of a string from offset `o`. -/
def slice (bs : List Byte) (o len : Nat) : List Byte := (bs.drop o).take len

/-- The little-endian number in `len` bytes at offset `o`; bytes beyond the end read as zero. -/
def leAt (bs : List Byte) (o len : Nat) : Nat := leNat (slice bs o len)

/-- The network-order number in `len` bytes at offset `o`. -/
def beAt (bs : List Byte) (o len : Nat) : Nat := beNat (slice bs o len)

/-- A byte string with the bytes at offset `o` replaced. -/
def patch (bs : List Byte) (o : Nat) (new : List Byte) : List Byte :=
  bs.take o ++ new ++ bs.drop (o + new.length)

/-- The bits set in a mask of `n` bits, rising. -/
def bitList (n mask : Nat) : List Nat := (List.range n).filter (bitAt mask)

/-- Quotient rounded up. -/
def ceilDiv (a b : Nat) : Nat := (a + b - 1) / b

/-- Exclusive or of two byte strings as Boolean tests need it: whether every byte is zero. -/
def allZero (bs : List Byte) : Bool := bs.all (· == 0)

end Sys2Proof.Machine
end

