-- ==== Sys2Proof/Machine/Check.lean ====
section
/-! DEFINITION. Check words, digests and signatures: CRC-32C (R63), the Ethernet FCS of IEEE 802.3, SHA-256 (FIPS 180-4) and ECDSA on
P-256 (FIPS 186-5), which the spec names and does not repeat (PRESUMED, log entry 6). All work on natural numbers below 2^32 or 2^256. -/

namespace Sys2Proof.Machine

/-- One bit of a reflected CRC. -/
def crcStep (poly c : Nat) : Nat := if c % 2 = 1 then (c / 2) ^^^ poly else c / 2

/-- One byte of a reflected CRC. -/
def crcByte (poly c : Nat) (b : Byte) : Nat :=
  let c0 := c ^^^ b.toNat
  crcStep poly (crcStep poly (crcStep poly (crcStep poly (crcStep poly (crcStep poly (crcStep poly (crcStep poly c0)))))))

/-- The CRC register after a byte string. -/
def crcRun (poly : Nat) : List Byte → Nat → Nat
  | [], c => c
  | b :: bs, c => crcRun poly bs (crcByte poly c b)

/-- CRC-32C of a byte string (R63). -/
def crc32c (bs : List Byte) : Nat := crcRun 0x82F63B78 bs 0xFFFFFFFF ^^^ 0xFFFFFFFF

/-- The frame check sequence of IEEE 802.3, as the number whose bytes follow the frame least significant first. -/
def ethFcs (bs : List Byte) : Nat := crcRun 0xEDB88320 bs 0xFFFFFFFF ^^^ 0xFFFFFFFF

/-- A frame with its FCS appended. -/
def withFcs (bs : List Byte) : List Byte := bs ++ leBytes 4 (ethFcs bs)

/-- Whether the last four bytes of a frame are the FCS of the bytes before them. -/
def fcsGood (bs : List Byte) : Bool :=
  decide (4 < bs.length) && leNat (bs.drop (bs.length - 4)) == ethFcs (bs.take (bs.length - 4))

/-! ## SHA-256 -/

def shaMod (n : Nat) : Nat := n % 0x100000000
def shaRotr (n k : Nat) : Nat := (n >>> k) ||| shaMod (n <<< (32 - k))
def shaNot (n : Nat) : Nat := n ^^^ 0xFFFFFFFF

/-- The greatest number below 2^`bits` whose `k`-th power is at most `n`, found bit by bit. -/
def rootFloor (k n : Nat) : Nat → Nat
  | 0 => 0
  | b + 1 =>
    let r := rootFloor k (n / 2 ^ k) b
    if (2 * r + 1) ^ k ≤ n then 2 * r + 1 else 2 * r

/-- The primes up to 311, of which there are 64. -/
def shaPrimes : List Nat := (List.range 312).filter fun n => decide (1 < n) && [2, 3, 5, 7, 11, 13, 17].all fun d => n == d || n % d != 0

/-- The first 32 bits of the fraction of the `k`-th root of `p`: the integer part is at most 17. -/
def rootFrac (k p : Nat) : Nat := shaMod (rootFloor k (p * 2 ^ (32 * k)) 37)

/-- The 64 round constants: cube roots of the primes. -/
def shaK : List Nat := shaPrimes.map (rootFrac 3)

/-- The initial hash value: square roots of the first eight primes. -/
def shaH0 : List Nat := (shaPrimes.take 8).map (rootFrac 2)

/-- The message schedule: `w` holds the words so far, newest first. -/
def shaSched : Nat → List Nat → List Nat
  | 0, w => w
  | k + 1, w =>
    let w2 := w.getD 1 0
    let w7 := w.getD 6 0
    let w15 := w.getD 14 0
    let w16 := w.getD 15 0
    let s0 := shaRotr w15 7 ^^^ shaRotr w15 18 ^^^ (w15 >>> 3)
    let s1 := shaRotr w2 17 ^^^ shaRotr w2 19 ^^^ (w2 >>> 10)
    shaSched k (shaMod (w16 + s0 + w7 + s1) :: w)

/-- The 64 rounds on the eight working variables. -/
def shaRounds : List (Nat × Nat) → List Nat → List Nat
  | [], v => v
  | (k, w) :: r, [a, b, c, d, e, f, g, h] =>
    let s1 := shaRotr e 6 ^^^ shaRotr e 11 ^^^ shaRotr e 25
    let ch := (e &&& f) ^^^ (shaNot e &&& g)
    let t1 := h + s1 + ch + k + w
    let s0 := shaRotr a 2 ^^^ shaRotr a 13 ^^^ shaRotr a 22
    let maj := (a &&& b) ^^^ (a &&& c) ^^^ (b &&& c)
    shaRounds r [shaMod (t1 + s0 + maj), a, b, c, shaMod (d + t1), e, f, g]
  | _ :: _, v => v

/-- One 64-byte block, as 16 words. -/
def shaBlock (h : List Nat) (ws : List Nat) : List Nat :=
  let w := (shaSched 48 ws.reverse).reverse
  (h.zip (shaRounds (shaK.zip w) h)).map fun p => shaMod (p.1 + p.2)

/-- The big-endian words of a byte string. -/
def beWords : List Byte → List Nat
  | a :: b :: c :: d :: r => (((a.toNat * 256 + b.toNat) * 256 + c.toNat) * 256 + d.toNat) :: beWords r
  | _ => []

/-- All blocks; `fuel` counts them. -/
def shaBlocks : Nat → List Nat → List Nat → List Nat
  | 0, _, h => h
  | k + 1, ws, h => shaBlocks k (ws.drop 16) (shaBlock h (ws.take 16))

/-- The padded message. -/
def shaPad (bs : List Byte) : List Byte :=
  let z := (119 - bs.length % 64) % 64
  bs ++ 0x80 :: List.replicate z 0 ++ beBytes 8 (bs.length * 8)

/-- The SHA-256 digest as a number, first byte most significant. -/
def sha256 (bs : List Byte) : Nat :=
  let p := shaPad bs
  (shaBlocks (p.length / 64) (beWords p) shaH0).foldl (fun n w => n * 0x100000000 + w) 0

/-! ## ECDSA P-256 -/

def p256p : Nat := 0xFFFFFFFF00000001000000000000000000000000FFFFFFFFFFFFFFFFFFFFFFFF
def p256n : Nat := 0xFFFFFFFF00000000FFFFFFFFFFFFFFFFBCE6FAADA7179E84F3B9CAC2FC632551
def p256b : Nat := 0x5AC635D8AA3A93E7B3EBBD55769886BC651D06B0CC53B0F63BCE3C3E27D2604B
def p256gx : Nat := 0x6B17D1F2E12C4247F8BCE6E563A440F277037D812DEB33A0F4A13945D898C296
def p256gy : Nat := 0x4FE342E2FE1A7F9B8EE7EB4A7C0F9E162BCE33576B315ECECBB6406837BF51F5

/-- `b ^ e` modulo `m` by squaring; `fuel` bounds the exponent's bits. -/
def powMod (m : Nat) : Nat → Nat → Nat → Nat
  | 0, _, _ => 1 % m
  | k + 1, b, e =>
    let r := powMod m k (b * b % m) (e / 2)
    if e % 2 = 1 then b * r % m else r

/-- The inverse modulo a prime below 2^256. -/
def invMod (m a : Nat) : Nat := powMod m 256 (a % m) (m - 2)

/-- A point of the curve: none is the point at infinity. -/
abbrev EcPoint := Option (Nat × Nat)

/-- The sum of two points. -/
def ecAdd : EcPoint → EcPoint → EcPoint
  | none, q => q
  | p, none => p
  | some (x1, y1), some (x2, y2) =>
    if x1 = x2 then
      if (y1 + y2) % p256p = 0 then none
      else
        let l := (3 * x1 * x1 + (p256p - 3)) * invMod p256p (2 * y1) % p256p
        let x3 := (l * l + 2 * (p256p - x1)) % p256p
        some (x3, (l * ((x1 + (p256p - x3)) % p256p) + (p256p - y1)) % p256p)
    else
      let l := (y2 + (p256p - y1)) % p256p * invMod p256p ((x2 + (p256p - x1)) % p256p) % p256p
      let x3 := (l * l + (p256p - x1) + (p256p - x2)) % p256p
      some (x3, (l * ((x1 + (p256p - x3)) % p256p) + (p256p - y1)) % p256p)

/-- `k` times a point; `fuel` bounds the bits of `k`. -/
def ecMul : Nat → Nat → EcPoint → EcPoint
  | 0, _, _ => none
  | f + 1, k, q =>
    let r := ecMul f (k / 2) (ecAdd q q)
    if k % 2 = 1 then ecAdd q r else r

/-- Whether (x, y) is a point of the curve (Table 03.17). -/
def ecOnCurve (x y : Nat) : Bool :=
  decide (x < p256p) && decide (y < p256p) && (y * y % p256p == (x * x * x + (p256p - 3) * x + p256b) % p256p)

/-- Verification of a signature (r, s) of digest `e` under the key (x, y) (R78). -/
def ecdsaOk (x y e r s : Nat) : Bool :=
  if decide (1 ≤ r) && decide (r < p256n) && decide (1 ≤ s) && decide (s < p256n) && ecOnCurve x y then
    let w := invMod p256n s
    match ecAdd (ecMul 256 (e * w % p256n) (some (p256gx, p256gy))) (ecMul 256 (r * w % p256n) (some (x, y))) with
    | none => false
    | some (px, _) => px % p256n == r
  else false

end Sys2Proof.Machine
end

