-- ==== Sys2Proof/Config.lean ====
section
/-! DEFINITION. What a part fixes at manufacture (fuses and OTP), and the free values. Each constant that the spec leaves open is opaque: no proof
can use its value, so a theorem holds for every part and for every outcome the spec leaves open. -/

namespace Sys2Proof

/-- The n-th value that the spec leaves open (log entry 3). A meaning that needs one takes the next number of the state's counter. -/
opaque Config.freeValue : Nat → BitVec 64

/-- The debug fuse, DEV_ID.DBG_LOCK (R34). -/
opaque Config.dbgLock : Bool

/-- The revision fuses, DEV_ID.REV: the revision field of IDCODE, which R396 gives. -/
def Config.rev : BitVec 4 := 1

/-- The device identity, PH_UID. -/
opaque Config.uid : BitVec 64

/-- The OTP key hash (R79), byte 0 first. -/
opaque Config.keyHash : BitVec 256

/-- The factory calibration records in OTP (R307), as bytes. -/
opaque Config.otpCal : List (BitVec 8)

end Sys2Proof
end

