-- ==== Sys2Proof/Machine/SMap.lean ====
section
/-! DEFINITION. Sparse maps from natural numbers, as sorted lists of key and value pairs. A register file, a memory, the
ports, lanes and channels are held this way: a key that is not listed has its default value, and a write of the default value removes
the key, so that equal maps are equal data. -/

namespace Sys2Proof.Machine

/-- A sparse map: pairs of key and value, keys strictly rising. -/
structure SMap (α : Type) where
  entries : List (Nat × α)
  deriving DecidableEq, Repr

/-- The map that lists nothing. -/
def SMap.empty {α : Type} : SMap α := ⟨[]⟩

/-- The value listed for a key in a list of pairs. -/
def SMap.lookup {α : Type} : List (Nat × α) → Nat → Option α
  | [], _ => none
  | (k', v) :: t, k => if k' = k then some v else SMap.lookup t k

/-- The value listed for `k`, or none. -/
def SMap.get? {α : Type} (m : SMap α) (k : Nat) : Option α := SMap.lookup m.entries k

/-- The value of `k`, `d` where none is listed. -/
def SMap.getD {α : Type} (m : SMap α) (k : Nat) (d : α) : α := (m.get? k).getD d

/-- Insert a pair before the first larger key. -/
def SMap.insertEntry {α : Type} (k : Nat) (v : α) : List (Nat × α) → List (Nat × α)
  | [] => [(k, v)]
  | (k', v') :: t => if k < k' then (k, v) :: (k', v') :: t else (k', v') :: SMap.insertEntry k v t

/-- Remove every pair of a key. -/
def SMap.dropKey {α : Type} (k : Nat) : List (Nat × α) → List (Nat × α)
  | [] => []
  | (k', v') :: t => if k' = k then SMap.dropKey k t else (k', v') :: SMap.dropKey k t

/-- Remove `k`. -/
def SMap.del {α : Type} (m : SMap α) (k : Nat) : SMap α := ⟨SMap.dropKey k m.entries⟩

/-- List `v` for `k`. -/
def SMap.put {α : Type} (m : SMap α) (k : Nat) (v : α) : SMap α := ⟨SMap.insertEntry k v (SMap.dropKey k m.entries)⟩

/-- Give `k` the value `v` where `d` is its default: the default is not listed. -/
def SMap.setD {α : Type} [DecidableEq α] (m : SMap α) (k : Nat) (v d : α) : SMap α :=
  if v = d then m.del k else m.put k v

/-- The keys listed, rising. -/
def SMap.keys {α : Type} (m : SMap α) : List Nat := m.entries.map (·.1)

/-- The values listed, in the order of their keys. -/
def SMap.values {α : Type} (m : SMap α) : List α := m.entries.map (·.2)

/-- Keep the pairs that satisfy `p`. -/
def SMap.filter {α : Type} (m : SMap α) (p : Nat → α → Bool) : SMap α := ⟨m.entries.filter fun e => p e.1 e.2⟩

/-- Change every listed value. -/
def SMap.mapV {α : Type} (m : SMap α) (f : Nat → α → α) : SMap α := ⟨m.entries.map fun e => (e.1, f e.1 e.2)⟩

/-- Keys rise strictly. -/
def SMap.Sorted {α : Type} (m : SMap α) : Prop := List.Pairwise (· < ·) m.keys

/-- The canonical form: keys rise strictly and no listed value is its key's default. -/
def SMap.Canonical {α : Type} (m : SMap α) (d : Nat → α) : Prop := m.Sorted ∧ ∀ e ∈ m.entries, e.2 ≠ d e.1

end Sys2Proof.Machine
end

