-- ==== Sys2Proof/Machine/Regs.lean ====
section
/-! DEFINITION. Every register of the register cards: its BAR0 offset (R349, R364, Table 14.2, Table 14.3), its fields, its access
masks (R6) and its value after power-on reset. Registers have the spec's names. The number of an instance wraps at the size of its space, so
that every offset lies in its own card; no well-formed command reaches the wrap (log entry 4). -/

namespace Sys2Proof.Machine

/-- A field of a register: the register's BAR0 offset and the field's bits. -/
structure Fld where
  ofs : Nat
  hi : Nat
  lo : Nat
  deriving DecidableEq, Repr

/-- The access masks of one register card (R6): offset in its space, bytes, index dimensions (stride, first, last), and the bits
that are RW, W1C, WO and RSV. Every other bit is RO. -/
structure Card where
  ofs : Nat
  bytes : Nat
  dims : List (Nat × Nat × Nat)
  rw : Nat
  w1c : Nat
  wo : Nat
  rsv : Nat
  deriving DecidableEq, Repr

/-! ## Offsets and fields -/

def Reg.DEV_MODE : Nat := 0x100
def F.DEV_MODE.CUR : Fld := ⟨Reg.DEV_MODE, 2, 0⟩
def F.DEV_MODE.TARGET : Fld := ⟨Reg.DEV_MODE, 6, 4⟩
def F.DEV_MODE.TRANS : Fld := ⟨Reg.DEV_MODE, 7, 7⟩
def F.DEV_MODE.STEEP_TARGET : Fld := ⟨Reg.DEV_MODE, 10, 8⟩
def Reg.DEV_MODE_REQ : Nat := 0x104
def F.DEV_MODE_REQ.MODE : Fld := ⟨Reg.DEV_MODE_REQ, 2, 0⟩
def Reg.DEV_SLC_STATE : Nat := 0x108
def F.DEV_SLC_STATE.STATE : Fld := ⟨Reg.DEV_SLC_STATE, 7, 0⟩
def F.DEV_SLC_STATE.BREEZE_SET : Fld := ⟨Reg.DEV_SLC_STATE, 11, 8⟩
def F.DEV_SLC_STATE.POWERED : Fld := ⟨Reg.DEV_SLC_STATE, 15, 12⟩
def Reg.DEV_RESET : Nat := 0x110
def F.DEV_RESET.SLICE_RST : Fld := ⟨Reg.DEV_RESET, 3, 0⟩
def F.DEV_RESET.SOFT : Fld := ⟨Reg.DEV_RESET, 8, 8⟩
def F.DEV_RESET.KEY : Fld := ⟨Reg.DEV_RESET, 31, 16⟩
def Reg.DEV_RST_CAUSE : Nat := 0x114
def F.DEV_RST_CAUSE.POR : Fld := ⟨Reg.DEV_RST_CAUSE, 0, 0⟩
def F.DEV_RST_CAUSE.PIN : Fld := ⟨Reg.DEV_RST_CAUSE, 1, 1⟩
def F.DEV_RST_CAUSE.SOFT : Fld := ⟨Reg.DEV_RST_CAUSE, 2, 2⟩
def F.DEV_RST_CAUSE.WAKE : Fld := ⟨Reg.DEV_RST_CAUSE, 3, 3⟩
def Reg.DEV_WAKE_CFG : Nat := 0x120
def F.DEV_WAKE_CFG.LANE_EN : Fld := ⟨Reg.DEV_WAKE_CFG, 7, 0⟩
def F.DEV_WAKE_CFG.EVT_EN : Fld := ⟨Reg.DEV_WAKE_CFG, 11, 8⟩
def F.DEV_WAKE_CFG.EVT_EDGE : Fld := ⟨Reg.DEV_WAKE_CFG, 15, 12⟩
def F.DEV_WAKE_CFG.WAKE_IN_EN : Fld := ⟨Reg.DEV_WAKE_CFG, 16, 16⟩
def F.DEV_WAKE_CFG.SUPPLY_EN : Fld := ⟨Reg.DEV_WAKE_CFG, 17, 17⟩
def F.DEV_WAKE_CFG.RAIL_TO : Fld := ⟨Reg.DEV_WAKE_CFG, 27, 18⟩
def Reg.DEV_WAKE_SRC : Nat := 0x124
def F.DEV_WAKE_SRC.LANE : Fld := ⟨Reg.DEV_WAKE_SRC, 7, 0⟩
def F.DEV_WAKE_SRC.EVT : Fld := ⟨Reg.DEV_WAKE_SRC, 11, 8⟩
def F.DEV_WAKE_SRC.WAKE_IN : Fld := ⟨Reg.DEV_WAKE_SRC, 16, 16⟩
def F.DEV_WAKE_SRC.SUPPLY : Fld := ⟨Reg.DEV_WAKE_SRC, 17, 17⟩
def F.DEV_WAKE_SRC.RAIL_FAIL : Fld := ⟨Reg.DEV_WAKE_SRC, 24, 24⟩
def Reg.DEV_FATAL : Nat := 0x130
def F.DEV_FATAL.KT_DISAGREE : Fld := ⟨Reg.DEV_FATAL, 0, 0⟩
def F.DEV_FATAL.SUPPLY : Fld := ⟨Reg.DEV_FATAL, 1, 1⟩
def F.DEV_FATAL.CORE_PLL : Fld := ⟨Reg.DEV_FATAL, 2, 2⟩
def F.DEV_FATAL.SECOND_FAULT : Fld := ⟨Reg.DEV_FATAL, 3, 3⟩
def F.DEV_FATAL.DRAM : Fld := ⟨Reg.DEV_FATAL, 4, 4⟩
def F.DEV_FATAL.AON_CLK : Fld := ⟨Reg.DEV_FATAL, 5, 5⟩
def F.DEV_FATAL.HOST : Fld := ⟨Reg.DEV_FATAL, 8, 8⟩
def Reg.DEV_CTRL : Nat := 0x134
def F.DEV_CTRL.WARM_OVR : Fld := ⟨Reg.DEV_CTRL, 0, 0⟩
def F.DEV_CTRL.STEEP_HOLD : Fld := ⟨Reg.DEV_CTRL, 1, 1⟩
def Reg.PRT_STATE (p : Nat) : Nat := 0x2000000 + 0x10000 * (p % 256)
def F.PRT_STATE.ADMIN (p : Nat) : Fld := ⟨(Reg.PRT_STATE p), 1, 0⟩
def F.PRT_STATE.OPER (p : Nat) : Fld := ⟨(Reg.PRT_STATE p), 6, 4⟩
def F.PRT_STATE.RESET (p : Nat) : Fld := ⟨(Reg.PRT_STATE p), 8, 8⟩
def Reg.IMG_CMD : Nat := 0x100000
def F.IMG_CMD.OP : Fld := ⟨Reg.IMG_CMD, 2, 0⟩
def Reg.IMG_STATUS : Nat := 0x100004
def F.IMG_STATUS.STATE : Fld := ⟨Reg.IMG_STATUS, 2, 0⟩
def F.IMG_STATUS.SOURCE : Fld := ⟨Reg.IMG_STATUS, 5, 4⟩
def F.IMG_STATUS.FALLBACK : Fld := ⟨Reg.IMG_STATUS, 6, 6⟩
def F.IMG_STATUS.PARTIAL : Fld := ⟨Reg.IMG_STATUS, 7, 7⟩
def F.IMG_STATUS.CODE : Fld := ⟨Reg.IMG_STATUS, 15, 8⟩
def F.IMG_STATUS.DEV_KEY : Fld := ⟨Reg.IMG_STATUS, 16, 16⟩
def F.IMG_STATUS.SLICE : Fld := ⟨Reg.IMG_STATUS, 18, 17⟩
def Reg.IMG_DETAIL : Nat := 0x100008
def F.IMG_DETAIL.CHECK : Fld := ⟨Reg.IMG_DETAIL, 7, 0⟩
def F.IMG_DETAIL.SEG_TYPE : Fld := ⟨Reg.IMG_DETAIL, 15, 8⟩
def F.IMG_DETAIL.SEG_INST : Fld := ⟨Reg.IMG_DETAIL, 17, 16⟩
def Reg.IMG_DETAIL_OFS : Nat := 0x10000C
def F.IMG_DETAIL_OFS.OFS : Fld := ⟨Reg.IMG_DETAIL_OFS, 31, 0⟩
def Reg.IMG_HOST_ADDR_LO : Nat := 0x100010
def F.IMG_HOST_ADDR_LO.ADDR : Fld := ⟨Reg.IMG_HOST_ADDR_LO, 31, 3⟩
def Reg.IMG_HOST_ADDR_HI : Nat := 0x100014
def F.IMG_HOST_ADDR_HI.ADDR : Fld := ⟨Reg.IMG_HOST_ADDR_HI, 31, 0⟩
def Reg.IMG_HOST_LEN : Nat := 0x100018
def F.IMG_HOST_LEN.LEN : Fld := ⟨Reg.IMG_HOST_LEN, 25, 0⟩
def Reg.IMG_MUT_MASK : Nat := 0x100020
def F.IMG_MUT_MASK.MASK : Fld := ⟨Reg.IMG_MUT_MASK, 18, 0⟩
def Reg.IMG_BASE_SERIAL_LO : Nat := 0x100030
def F.IMG_BASE_SERIAL_LO.SERIAL : Fld := ⟨Reg.IMG_BASE_SERIAL_LO, 31, 0⟩
def Reg.IMG_BASE_SERIAL_HI : Nat := 0x100034
def F.IMG_BASE_SERIAL_HI.SERIAL : Fld := ⟨Reg.IMG_BASE_SERIAL_HI, 31, 0⟩
def Reg.IMG_SLC_SERIAL_LO (s : Nat) : Nat := 0x100040 + 0x8 * (s % 4)
def F.IMG_SLC_SERIAL_LO.SERIAL (s : Nat) : Fld := ⟨(Reg.IMG_SLC_SERIAL_LO s), 31, 0⟩
def Reg.IMG_SLC_SERIAL_HI (s : Nat) : Nat := 0x100044 + 0x8 * (s % 4)
def F.IMG_SLC_SERIAL_HI.SERIAL (s : Nat) : Fld := ⟨(Reg.IMG_SLC_SERIAL_HI s), 31, 0⟩
def Reg.IMG_KEY_HASH (i : Nat) : Nat := 0x100080 + 0x4 * (i % 8)
def F.IMG_KEY_HASH.HASH (i : Nat) : Fld := ⟨(Reg.IMG_KEY_HASH i), 31, 0⟩
def Reg.LN_CFG (l : Nat) : Nat := 0x3000000 + 0x4000 * (l % 256)
def F.LN_CFG.MODE (l : Nat) : Fld := ⟨(Reg.LN_CFG l), 2, 0⟩
def F.LN_CFG.FEC (l : Nat) : Fld := ⟨(Reg.LN_CFG l), 5, 4⟩
def F.LN_CFG.TRUNK_MAX (l : Nat) : Fld := ⟨(Reg.LN_CFG l), 10, 8⟩
def F.LN_CFG.POLARITY (l : Nat) : Fld := ⟨(Reg.LN_CFG l), 13, 12⟩
def F.LN_CFG.MEMBER (l : Nat) : Fld := ⟨(Reg.LN_CFG l), 15, 14⟩
def F.LN_CFG.PORT (l : Nat) : Fld := ⟨(Reg.LN_CFG l), 23, 16⟩
def Reg.LN_CTRL (l : Nat) : Nat := 0x3000004 + 0x4000 * (l % 256)
def F.LN_CTRL.RESET (l : Nat) : Fld := ⟨(Reg.LN_CTRL l), 0, 0⟩
def F.LN_CTRL.LOOP (l : Nat) : Fld := ⟨(Reg.LN_CTRL l), 2, 1⟩
def F.LN_CTRL.PRBS (l : Nat) : Fld := ⟨(Reg.LN_CTRL l), 4, 3⟩
def Reg.LN_STATUS (l : Nat) : Nat := 0x3000008 + 0x4000 * (l % 256)
def F.LN_STATUS.LOS (l : Nat) : Fld := ⟨(Reg.LN_STATUS l), 0, 0⟩
def F.LN_STATUS.LOL (l : Nat) : Fld := ⟨(Reg.LN_STATUS l), 1, 1⟩
def F.LN_STATUS.LOCK (l : Nat) : Fld := ⟨(Reg.LN_STATUS l), 2, 2⟩
def F.LN_STATUS.EYE_LOW (l : Nat) : Fld := ⟨(Reg.LN_STATUS l), 3, 3⟩
def F.LN_STATUS.FIRST_DONE (l : Nat) : Fld := ⟨(Reg.LN_STATUS l), 4, 4⟩
def Reg.LN_FLAGS (l : Nat) : Nat := 0x300000C + 0x4000 * (l % 256)
def F.LN_FLAGS.LOS (l : Nat) : Fld := ⟨(Reg.LN_FLAGS l), 0, 0⟩
def F.LN_FLAGS.LOL (l : Nat) : Fld := ⟨(Reg.LN_FLAGS l), 1, 1⟩
def F.LN_FLAGS.LOCK_LOST (l : Nat) : Fld := ⟨(Reg.LN_FLAGS l), 2, 2⟩
def F.LN_FLAGS.MRK_ERR (l : Nat) : Fld := ⟨(Reg.LN_FLAGS l), 3, 3⟩
def F.LN_FLAGS.STUFF_ERR (l : Nat) : Fld := ⟨(Reg.LN_FLAGS l), 4, 4⟩
def F.LN_FLAGS.UNIT_ERR (l : Nat) : Fld := ⟨(Reg.LN_FLAGS l), 5, 5⟩
def F.LN_FLAGS.FEC_UNCORR (l : Nat) : Fld := ⟨(Reg.LN_FLAGS l), 6, 6⟩
def F.LN_FLAGS.EYE_LOW (l : Nat) : Fld := ⟨(Reg.LN_FLAGS l), 7, 7⟩
def F.LN_FLAGS.DOWN (l : Nat) : Fld := ⟨(Reg.LN_FLAGS l), 8, 8⟩
def F.LN_FLAGS.STEP_FAIL (l : Nat) : Fld := ⟨(Reg.LN_FLAGS l), 9, 9⟩
def Reg.LN_EYE (l : Nat) : Nat := 0x3000010 + 0x4000 * (l % 256)
def F.LN_EYE.WIDTH (l : Nat) : Fld := ⟨(Reg.LN_EYE l), 7, 0⟩
def F.LN_EYE.HEIGHT (l : Nat) : Fld := ⟨(Reg.LN_EYE l), 17, 8⟩
def F.LN_EYE.VALID (l : Nat) : Fld := ⟨(Reg.LN_EYE l), 31, 31⟩
def Reg.LN_TRUNK_STATUS (l : Nat) : Nat := 0x3000020 + 0x4000 * (l % 256)
def F.LN_TRUNK_STATUS.STATE (l : Nat) : Fld := ⟨(Reg.LN_TRUNK_STATUS l), 3, 0⟩
def F.LN_TRUNK_STATUS.STEP (l : Nat) : Fld := ⟨(Reg.LN_TRUNK_STATUS l), 6, 4⟩
def F.LN_TRUNK_STATUS.LEADER (l : Nat) : Fld := ⟨(Reg.LN_TRUNK_STATUS l), 7, 7⟩
def F.LN_TRUNK_STATUS.CEIL (l : Nat) : Fld := ⟨(Reg.LN_TRUNK_STATUS l), 10, 8⟩
def F.LN_TRUNK_STATUS.FAIL_STEP (l : Nat) : Fld := ⟨(Reg.LN_TRUNK_STATUS l), 14, 12⟩
def F.LN_TRUNK_STATUS.PEER_IDLE (l : Nat) : Fld := ⟨(Reg.LN_TRUNK_STATUS l), 15, 15⟩
def F.LN_TRUNK_STATUS.PEER_MAX (l : Nat) : Fld := ⟨(Reg.LN_TRUNK_STATUS l), 18, 16⟩
def F.LN_TRUNK_STATUS.IDLE_HELD (l : Nat) : Fld := ⟨(Reg.LN_TRUNK_STATUS l), 19, 19⟩
def F.LN_TRUNK_STATUS.NAK (l : Nat) : Fld := ⟨(Reg.LN_TRUNK_STATUS l), 31, 24⟩
def Reg.LN_TRUNK_CTRL (l : Nat) : Nat := 0x3000024 + 0x4000 * (l % 256)
def F.LN_TRUNK_CTRL.IDLE_REQ (l : Nat) : Fld := ⟨(Reg.LN_TRUNK_CTRL l), 0, 0⟩
def F.LN_TRUNK_CTRL.IDLE_EXIT (l : Nat) : Fld := ⟨(Reg.LN_TRUNK_CTRL l), 1, 1⟩
def Reg.LN_CNT (l n : Nat) : Nat := 0x3000100 + 0x4000 * (l % 256) + 0x8 * (n % 16)
def F.LN_CNT.COUNT (l n : Nat) : Fld := ⟨(Reg.LN_CNT l n), 63, 0⟩
def Reg.TW_CMD (w : Nat) : Nat := 0x3400000 + 0x1000 * (w % 4)
def F.TW_CMD.OP (w : Nat) : Fld := ⟨(Reg.TW_CMD w), 2, 0⟩
def F.TW_CMD.TABLE (w : Nat) : Fld := ⟨(Reg.TW_CMD w), 5, 4⟩
def Reg.TW_STATUS (w : Nat) : Nat := 0x3400004 + 0x1000 * (w % 4)
def F.TW_STATUS.BUSY (w : Nat) : Fld := ⟨(Reg.TW_STATUS w), 0, 0⟩
def F.TW_STATUS.RESULT (w : Nat) : Fld := ⟨(Reg.TW_STATUS w), 6, 4⟩
def F.TW_STATUS.STASHED (w : Nat) : Fld := ⟨(Reg.TW_STATUS w), 7, 7⟩
def F.TW_STATUS.MOVES (w : Nat) : Fld := ⟨(Reg.TW_STATUS w), 13, 8⟩
def F.TW_STATUS.SEQ (w : Nat) : Fld := ⟨(Reg.TW_STATUS w), 31, 16⟩
def Reg.TW_INDEX (w : Nat) : Nat := 0x3400008 + 0x1000 * (w % 4)
def F.TW_INDEX.INDEX (w : Nat) : Fld := ⟨(Reg.TW_INDEX w), 17, 0⟩
def Reg.TW_KEY_LO (w : Nat) : Nat := 0x3400010 + 0x1000 * (w % 4)
def F.TW_KEY_LO.MAC_LO (w : Nat) : Fld := ⟨(Reg.TW_KEY_LO w), 31, 0⟩
def Reg.TW_KEY_HI (w : Nat) : Nat := 0x3400014 + 0x1000 * (w % 4)
def F.TW_KEY_HI.MAC_HI (w : Nat) : Fld := ⟨(Reg.TW_KEY_HI w), 15, 0⟩
def F.TW_KEY_HI.VLAN (w : Nat) : Fld := ⟨(Reg.TW_KEY_HI w), 27, 16⟩
def Reg.TW_FDB (w : Nat) : Nat := 0x3400018 + 0x1000 * (w % 4)
def F.TW_FDB.DEST (w : Nat) : Fld := ⟨(Reg.TW_FDB w), 10, 0⟩
def F.TW_FDB.GROUP (w : Nat) : Fld := ⟨(Reg.TW_FDB w), 11, 11⟩
def F.TW_FDB.STATIC (w : Nat) : Fld := ⟨(Reg.TW_FDB w), 12, 12⟩
def F.TW_FDB.MGEN (w : Nat) : Fld := ⟨(Reg.TW_FDB w), 13, 13⟩
def F.TW_FDB.VALID (w : Nat) : Fld := ⟨(Reg.TW_FDB w), 14, 14⟩
def F.TW_FDB.HIT (w : Nat) : Fld := ⟨(Reg.TW_FDB w), 15, 15⟩
def F.TW_FDB.AGE (w : Nat) : Fld := ⟨(Reg.TW_FDB w), 16, 16⟩
def F.TW_FDB.BANK (w : Nat) : Fld := ⟨(Reg.TW_FDB w), 17, 17⟩
def F.TW_FDB.STASH (w : Nat) : Fld := ⟨(Reg.TW_FDB w), 18, 18⟩
def Reg.TW_FLUSH (w : Nat) : Nat := 0x340001C + 0x1000 * (w % 4)
def F.TW_FLUSH.PORT (w : Nat) : Fld := ⟨(Reg.TW_FLUSH w), 7, 0⟩
def F.TW_FLUSH.PORT_EN (w : Nat) : Fld := ⟨(Reg.TW_FLUSH w), 8, 8⟩
def F.TW_FLUSH.VLAN (w : Nat) : Fld := ⟨(Reg.TW_FLUSH w), 20, 9⟩
def F.TW_FLUSH.VLAN_EN (w : Nat) : Fld := ⟨(Reg.TW_FLUSH w), 21, 21⟩
def F.TW_FLUSH.STATIC_TOO (w : Nat) : Fld := ⟨(Reg.TW_FLUSH w), 22, 22⟩
def Reg.TW_DATA (w i : Nat) : Nat := 0x3400040 + 0x1000 * (w % 4) + 0x4 * (i % 16)
def F.TW_DATA.DATA (w i : Nat) : Fld := ⟨(Reg.TW_DATA w i), 31, 0⟩
def Reg.SLC_LEARN (s : Nat) : Nat := 0x1000200 + 0x400000 * (s % 4)
def F.SLC_LEARN.ING (s : Nat) : Fld := ⟨(Reg.SLC_LEARN s), 0, 0⟩
def F.SLC_LEARN.EGR (s : Nat) : Fld := ⟨(Reg.SLC_LEARN s), 1, 1⟩
def Reg.SLC_AGE (s : Nat) : Nat := 0x1000204 + 0x400000 * (s % 4)
def F.SLC_AGE.AGE_S (s : Nat) : Fld := ⟨(Reg.SLC_AGE s), 11, 0⟩
def Reg.SLC_MOVE (s : Nat) : Nat := 0x1000208 + 0x400000 * (s % 4)
def F.SLC_MOVE.THRESH (s : Nat) : Fld := ⟨(Reg.SLC_MOVE s), 15, 0⟩
def F.SLC_MOVE.LAST (s : Nat) : Fld := ⟨(Reg.SLC_MOVE s), 31, 16⟩
def Reg.SLC_TBL_VER (s : Nat) : Nat := 0x1000210 + 0x400000 * (s % 4)
def F.SLC_TBL_VER.VER (s : Nat) : Fld := ⟨(Reg.SLC_TBL_VER s), 31, 0⟩
def Reg.SLC_FENCE (s : Nat) : Nat := 0x1000214 + 0x400000 * (s % 4)
def F.SLC_FENCE.SET (s : Nat) : Fld := ⟨(Reg.SLC_FENCE s), 0, 0⟩
def F.SLC_FENCE.DONE (s : Nat) : Fld := ⟨(Reg.SLC_FENCE s), 1, 1⟩
def F.SLC_FENCE.FENCE_EV (s : Nat) : Fld := ⟨(Reg.SLC_FENCE s), 2, 2⟩
def Reg.SLC_FENCE_VER (s : Nat) : Nat := 0x1000218 + 0x400000 * (s % 4)
def F.SLC_FENCE_VER.F (s : Nat) : Fld := ⟨(Reg.SLC_FENCE_VER s), 31, 0⟩
def Reg.SLC_CARVE (s : Nat) : Nat := 0x1000220 + 0x400000 * (s % 4)
def F.SLC_CARVE.FDB_LOG2 (s : Nat) : Fld := ⟨(Reg.SLC_CARVE s), 4, 0⟩
def F.SLC_CARVE.STREAM_K (s : Nat) : Fld := ⟨(Reg.SLC_CARVE s), 12, 5⟩
def F.SLC_CARVE.CLS_256 (s : Nat) : Fld := ⟨(Reg.SLC_CARVE s), 19, 13⟩
def Reg.SLC_CNT (s n : Nat) : Nat := 0x1000400 + 0x400000 * (s % 4) + 0x8 * (n % 16)
def F.SLC_CNT.COUNT (s n : Nat) : Fld := ⟨(Reg.SLC_CNT s n), 63, 0⟩
def Reg.PRT_RX_CNT (p n : Nat) : Nat := 0x2000200 + 0x10000 * (p % 256) + 0x8 * (n % 7)
def F.PRT_RX_CNT.COUNT (p n : Nat) : Fld := ⟨(Reg.PRT_RX_CNT p n), 63, 0⟩
def Reg.BPM_POOL_SIZE (k : Nat) : Nat := 0x800000 + 0x4 * (k % 5)
def F.BPM_POOL_SIZE.COUNT (k : Nat) : Fld := ⟨(Reg.BPM_POOL_SIZE k), 23, 0⟩
def Reg.BPM_POOL_FREE (k : Nat) : Nat := 0x800020 + 0x4 * (k % 5)
def F.BPM_POOL_FREE.FREE (k : Nat) : Fld := ⟨(Reg.BPM_POOL_FREE k), 23, 0⟩
def Reg.BPM_POOL_LOW (k : Nat) : Nat := 0x800040 + 0x4 * (k % 5)
def F.BPM_POOL_LOW.LOW (k : Nat) : Fld := ⟨(Reg.BPM_POOL_LOW k), 23, 0⟩
def Reg.BPM_P0_SPLIT : Nat := 0x800060
def F.BPM_P0_SPLIT.EG_MIN : Fld := ⟨Reg.BPM_P0_SPLIT, 10, 0⟩
def F.BPM_P0_SPLIT.HR_FREE : Fld := ⟨Reg.BPM_P0_SPLIT, 26, 16⟩
def Reg.BPM_SHARED_FREE : Nat := 0x800064
def F.BPM_SHARED_FREE.FREE : Fld := ⟨Reg.BPM_SHARED_FREE, 23, 0⟩
def Reg.BPM_CTRL : Nat := 0x800070
def F.BPM_CTRL.LOW_CLR : Fld := ⟨Reg.BPM_CTRL, 0, 0⟩
def Reg.BPM_FREE : Nat := 0x800080
def F.BPM_FREE.HANDLE : Fld := ⟨Reg.BPM_FREE, 31, 0⟩
def Reg.BPM_AUDIT : Nat := 0x800090
def F.BPM_AUDIT.ROUND : Fld := ⟨Reg.BPM_AUDIT, 15, 0⟩
def F.BPM_AUDIT.LAST_LEAKS : Fld := ⟨Reg.BPM_AUDIT, 31, 16⟩
def Reg.BPM_LEAK_LAST : Nat := 0x800094
def F.BPM_LEAK_LAST.HANDLE : Fld := ⟨Reg.BPM_LEAK_LAST, 31, 0⟩
def Reg.BPM_CNT (n : Nat) : Nat := 0x800100 + 0x8 * (n % 14)
def F.BPM_CNT.COUNT (n : Nat) : Fld := ⟨(Reg.BPM_CNT n), 63, 0⟩
def Reg.FAB_MC_RESIDUE : Nat := 0x900000
def F.FAB_MC_RESIDUE.US : Fld := ⟨Reg.FAB_MC_RESIDUE, 13, 0⟩
def Reg.FAB_RES_OCC (k : Nat) : Nat := 0x900010 + 0x4 * (k % 4)
def F.FAB_RES_OCC.S0 (k : Nat) : Fld := ⟨(Reg.FAB_RES_OCC k), 6, 0⟩
def F.FAB_RES_OCC.S1 (k : Nat) : Fld := ⟨(Reg.FAB_RES_OCC k), 14, 8⟩
def F.FAB_RES_OCC.S2 (k : Nat) : Fld := ⟨(Reg.FAB_RES_OCC k), 22, 16⟩
def F.FAB_RES_OCC.S3 (k : Nat) : Fld := ⟨(Reg.FAB_RES_OCC k), 30, 24⟩
def Reg.FAB_VOQ_SEL : Nat := 0x900040
def F.FAB_VOQ_SEL.SLICE : Fld := ⟨Reg.FAB_VOQ_SEL, 1, 0⟩
def F.FAB_VOQ_SEL.PORT : Fld := ⟨Reg.FAB_VOQ_SEL, 9, 2⟩
def F.FAB_VOQ_SEL.CLASS : Fld := ⟨Reg.FAB_VOQ_SEL, 12, 10⟩
def Reg.FAB_VOQ_OCC : Nat := 0x900044
def F.FAB_VOQ_OCC.SRAM_CELLS : Fld := ⟨Reg.FAB_VOQ_OCC, 23, 0⟩
def Reg.FAB_VOQ_SPILL : Nat := 0x900048
def F.FAB_VOQ_SPILL.BLOCKS : Fld := ⟨Reg.FAB_VOQ_SPILL, 19, 0⟩
def Reg.FAB_CNT (n : Nat) : Nat := 0x900100 + 0x8 * (n % 10)
def F.FAB_CNT.COUNT (n : Nat) : Fld := ⟨(Reg.FAB_CNT n), 63, 0⟩
def Reg.PRT_FAB_CNT (p n : Nat) : Nat := 0x2000280 + 0x10000 * (p % 256) + 0x8 * (n % 9)
def F.PRT_FAB_CNT.COUNT (p n : Nat) : Fld := ⟨(Reg.PRT_FAB_CNT p n), 63, 0⟩
def Reg.PRT_PFC (p : Nat) : Nat := 0x2001000 + 0x10000 * (p % 256)
def F.PRT_PFC.EN (p : Nat) : Fld := ⟨(Reg.PRT_PFC p), 7, 0⟩
def F.PRT_PFC.WD_MS (p : Nat) : Fld := ⟨(Reg.PRT_PFC p), 23, 8⟩
def Reg.PRT_WD (p : Nat) : Nat := 0x2001004 + 0x10000 * (p % 256)
def F.PRT_WD.DROP (p : Nat) : Fld := ⟨(Reg.PRT_WD p), 7, 0⟩
def F.PRT_WD.PAUSED (p : Nat) : Fld := ⟨(Reg.PRT_WD p), 15, 8⟩
def Reg.PRT_LT_CFG (p : Nat) : Nat := 0x2001010 + 0x10000 * (p % 256)
def F.PRT_LT_CFG.LT_CLASS (p : Nat) : Fld := ⟨(Reg.PRT_LT_CFG p), 7, 0⟩
def Reg.PRT_LT_HORIZON (p : Nat) : Nat := 0x2001014 + 0x10000 * (p % 256)
def F.PRT_LT_HORIZON.US (p : Nat) : Fld := ⟨(Reg.PRT_LT_HORIZON p), 20, 0⟩
def Reg.PRT_LT_STALE (p : Nat) : Nat := 0x2001018 + 0x10000 * (p % 256)
def F.PRT_LT_STALE.NS (p : Nat) : Fld := ⟨(Reg.PRT_LT_STALE p), 19, 0⟩
def Reg.PRT_LT_STATUS (p : Nat) : Nat := 0x200101C + 0x10000 * (p % 256)
def F.PRT_LT_STATUS.OCC (p : Nat) : Fld := ⟨(Reg.PRT_LT_STATUS p), 10, 0⟩
def Reg.PRT_LT_NEXT (p : Nat) : Nat := 0x2001020 + 0x10000 * (p % 256)
def F.PRT_LT_NEXT.NS32 (p : Nat) : Fld := ⟨(Reg.PRT_LT_NEXT p), 31, 0⟩
def Reg.PRT_CBS (p c : Nat) : Nat := 0x2001040 + 0x10000 * (p % 256) + 0x4 * (c % 8)
def F.PRT_CBS.IDLE_KBPS (p c : Nat) : Fld := ⟨(Reg.PRT_CBS p c), 26, 0⟩
def F.PRT_CBS.EN (p c : Nat) : Fld := ⟨(Reg.PRT_CBS p c), 31, 31⟩
def Reg.PRT_GCL_CTRL (p : Nat) : Nat := 0x2001100 + 0x10000 * (p % 256)
def F.PRT_GCL_CTRL.COMMIT (p : Nat) : Fld := ⟨(Reg.PRT_GCL_CTRL p), 0, 0⟩
def F.PRT_GCL_CTRL.ABORT (p : Nat) : Fld := ⟨(Reg.PRT_GCL_CTRL p), 1, 1⟩
def F.PRT_GCL_CTRL.OFF (p : Nat) : Fld := ⟨(Reg.PRT_GCL_CTRL p), 2, 2⟩
def Reg.PRT_GCL_CYCLE (p : Nat) : Nat := 0x2001104 + 0x10000 * (p % 256)
def F.PRT_GCL_CYCLE.NS (p : Nat) : Fld := ⟨(Reg.PRT_GCL_CYCLE p), 29, 0⟩
def Reg.PRT_GCL_LEN (p : Nat) : Nat := 0x2001108 + 0x10000 * (p % 256)
def F.PRT_GCL_LEN.ENTRIES (p : Nat) : Fld := ⟨(Reg.PRT_GCL_LEN p), 10, 0⟩
def Reg.PRT_GCL_BASE_NS (p : Nat) : Nat := 0x200110C + 0x10000 * (p % 256)
def F.PRT_GCL_BASE_NS.NS (p : Nat) : Fld := ⟨(Reg.PRT_GCL_BASE_NS p), 29, 0⟩
def Reg.PRT_GCL_BASE_S_LO (p : Nat) : Nat := 0x2001110 + 0x10000 * (p % 256)
def F.PRT_GCL_BASE_S_LO.S_LO (p : Nat) : Fld := ⟨(Reg.PRT_GCL_BASE_S_LO p), 31, 0⟩
def Reg.PRT_GCL_BASE_S_HI (p : Nat) : Nat := 0x2001114 + 0x10000 * (p % 256)
def F.PRT_GCL_BASE_S_HI.S_HI (p : Nat) : Fld := ⟨(Reg.PRT_GCL_BASE_S_HI p), 15, 0⟩
def Reg.PRT_GCL_STATUS (p : Nat) : Nat := 0x2001118 + 0x10000 * (p % 256)
def F.PRT_GCL_STATUS.BANK (p : Nat) : Fld := ⟨(Reg.PRT_GCL_STATUS p), 0, 0⟩
def F.PRT_GCL_STATUS.PENDING (p : Nat) : Fld := ⟨(Reg.PRT_GCL_STATUS p), 1, 1⟩
def F.PRT_GCL_STATUS.RUNNING (p : Nat) : Fld := ⟨(Reg.PRT_GCL_STATUS p), 2, 2⟩
def F.PRT_GCL_STATUS.ENTRY (p : Nat) : Fld := ⟨(Reg.PRT_GCL_STATUS p), 17, 8⟩
def F.PRT_GCL_STATUS.GATES (p : Nat) : Fld := ⟨(Reg.PRT_GCL_STATUS p), 31, 24⟩
def Reg.PRT_GCL_SWITCH (p : Nat) : Nat := 0x200111C + 0x10000 * (p % 256)
def F.PRT_GCL_SWITCH.NS32 (p : Nat) : Fld := ⟨(Reg.PRT_GCL_SWITCH p), 31, 0⟩
def Reg.PRT_GCL_A (p i : Nat) : Nat := 0x2002000 + 0x10000 * (p % 256) + 0x4 * (i % 1024)
def F.PRT_GCL_A.GATES (p i : Nat) : Fld := ⟨(Reg.PRT_GCL_A p i), 7, 0⟩
def F.PRT_GCL_A.INTERVAL_NS (p i : Nat) : Fld := ⟨(Reg.PRT_GCL_A p i), 31, 8⟩
def Reg.PRT_GCL_B (p i : Nat) : Nat := 0x2003000 + 0x10000 * (p % 256) + 0x4 * (i % 1024)
def F.PRT_GCL_B.GATES (p i : Nat) : Fld := ⟨(Reg.PRT_GCL_B p i), 7, 0⟩
def F.PRT_GCL_B.INTERVAL_NS (p i : Nat) : Fld := ⟨(Reg.PRT_GCL_B p i), 31, 8⟩
def Reg.PRT_EG_CNT (p n : Nat) : Nat := 0x2000300 + 0x10000 * (p % 256) + 0x8 * (n % 16)
def F.PRT_EG_CNT.COUNT (p n : Nat) : Fld := ⟨(Reg.PRT_EG_CNT p n), 63, 0⟩
def Reg.SLC_FLAT (s k : Nat) : Nat := 0x1001000 + 0x400000 * (s % 4) + 0x4 * (k % 257)
def F.SLC_FLAT.LAT_NS (s k : Nat) : Fld := ⟨(Reg.SLC_FLAT s k), 23, 0⟩
def F.SLC_FLAT.EN (s k : Nat) : Fld := ⟨(Reg.SLC_FLAT s k), 31, 31⟩
def Reg.FAB_FRER_IDX : Nat := 0x900200
def F.FAB_FRER_IDX.INST : Fld := ⟨Reg.FAB_FRER_IDX, 9, 0⟩
def Reg.FAB_FRER_CFG0 : Nat := 0x900204
def F.FAB_FRER_CFG0.GEN : Fld := ⟨Reg.FAB_FRER_CFG0, 0, 0⟩
def F.FAB_FRER_CFG0.RCV : Fld := ⟨Reg.FAB_FRER_CFG0, 1, 1⟩
def F.FAB_FRER_CFG0.ALG : Fld := ⟨Reg.FAB_FRER_CFG0, 2, 2⟩
def F.FAB_FRER_CFG0.TAKE_NO_SEQ : Fld := ⟨Reg.FAB_FRER_CFG0, 3, 3⟩
def F.FAB_FRER_CFG0.POP : Fld := ⟨Reg.FAB_FRER_CFG0, 4, 4⟩
def F.FAB_FRER_CFG0.HIST : Fld := ⟨Reg.FAB_FRER_CFG0, 14, 8⟩
def F.FAB_FRER_CFG0.RCV_PORT : Fld := ⟨Reg.FAB_FRER_CFG0, 23, 16⟩
def F.FAB_FRER_CFG0.EN : Fld := ⟨Reg.FAB_FRER_CFG0, 31, 31⟩
def Reg.FAB_FRER_CFG1 : Nat := 0x900208
def F.FAB_FRER_CFG1.RESET_MS : Fld := ⟨Reg.FAB_FRER_CFG1, 15, 0⟩
def Reg.FAB_FRER_CMD : Nat := 0x90020C
def F.FAB_FRER_CMD.OP : Fld := ⟨Reg.FAB_FRER_CMD, 1, 0⟩
def Reg.FAB_FRER_CNT (n : Nat) : Nat := 0x900300 + 0x8 * (n % 8)
def F.FAB_FRER_CNT.COUNT (n : Nat) : Fld := ⟨(Reg.FAB_FRER_CNT n), 63, 0⟩
def Reg.KT_TB_STATUS : Nat := 0x200000
def F.KT_TB_STATUS.TIMEBASE : Fld := ⟨Reg.KT_TB_STATUS, 1, 0⟩
def F.KT_TB_STATUS.VALID : Fld := ⟨Reg.KT_TB_STATUS, 2, 2⟩
def F.KT_TB_STATUS.ABSENT : Fld := ⟨Reg.KT_TB_STATUS, 3, 3⟩
def F.KT_TB_STATUS.WARM : Fld := ⟨Reg.KT_TB_STATUS, 4, 4⟩
def F.KT_TB_STATUS.GATES : Fld := ⟨Reg.KT_TB_STATUS, 12, 8⟩
def Reg.KT_TB_FLAGS : Nat := 0x200004
def F.KT_TB_FLAGS.ABSENT : Fld := ⟨Reg.KT_TB_FLAGS, 0, 0⟩
def F.KT_TB_FLAGS.WARM_LOST : Fld := ⟨Reg.KT_TB_FLAGS, 1, 1⟩
def Reg.KT_CFG : Nat := 0x200008
def F.KT_CFG.EXCL_PS : Fld := ⟨Reg.KT_CFG, 16, 0⟩
def F.KT_CFG.FHT_H : Fld := ⟨Reg.KT_CFG, 30, 17⟩
def Reg.KT_CH_STATUS : Nat := 0x200010
def F.KT_CH_STATUS.A : Fld := ⟨Reg.KT_CH_STATUS, 1, 0⟩
def F.KT_CH_STATUS.B : Fld := ⟨Reg.KT_CH_STATUS, 3, 2⟩
def F.KT_CH_STATUS.C : Fld := ⟨Reg.KT_CH_STATUS, 5, 4⟩
def F.KT_CH_STATUS.LEAD : Fld := ⟨Reg.KT_CH_STATUS, 7, 6⟩
def F.KT_CH_STATUS.PENDING_HO : Fld := ⟨Reg.KT_CH_STATUS, 8, 8⟩
def F.KT_CH_STATUS.HO_BAD : Fld := ⟨Reg.KT_CH_STATUS, 11, 9⟩
def Reg.KT_CH_FLAGS : Nat := 0x200014
def F.KT_CH_FLAGS.EXCL : Fld := ⟨Reg.KT_CH_FLAGS, 2, 0⟩
def F.KT_CH_FLAGS.WD : Fld := ⟨Reg.KT_CH_FLAGS, 5, 3⟩
def F.KT_CH_FLAGS.FORCED_HO : Fld := ⟨Reg.KT_CH_FLAGS, 6, 6⟩
def F.KT_CH_FLAGS.FHT_FAIL : Fld := ⟨Reg.KT_CH_FLAGS, 9, 7⟩
def Reg.KT_FHT_CTRL : Nat := 0x200020
def F.KT_FHT_CTRL.START : Fld := ⟨Reg.KT_FHT_CTRL, 0, 0⟩
def F.KT_FHT_CTRL.CH : Fld := ⟨Reg.KT_FHT_CTRL, 2, 1⟩
def Reg.KT_FHT_STATUS : Nat := 0x200024
def F.KT_FHT_STATUS.RUN : Fld := ⟨Reg.KT_FHT_STATUS, 0, 0⟩
def F.KT_FHT_STATUS.CH : Fld := ⟨Reg.KT_FHT_STATUS, 2, 1⟩
def F.KT_FHT_STATUS.LAST : Fld := ⟨Reg.KT_FHT_STATUS, 4, 3⟩
def Reg.KT_FHT_DEV : Nat := 0x200028
def F.KT_FHT_DEV.PS : Fld := ⟨Reg.KT_FHT_DEV, 31, 0⟩
def Reg.KT_CAP_CTRL : Nat := 0x200030
def F.KT_CAP_CTRL.SNAP : Fld := ⟨Reg.KT_CAP_CTRL, 0, 0⟩
def Reg.KT_CAP_SEL : Nat := 0x200034
def F.KT_CAP_SEL.SRC : Fld := ⟨Reg.KT_CAP_SEL, 1, 0⟩
def F.KT_CAP_SEL.DOMAIN : Fld := ⟨Reg.KT_CAP_SEL, 4, 2⟩
def Reg.KT_CAP_STATUS : Nat := 0x200038
def F.KT_CAP_STATUS.NEW : Fld := ⟨Reg.KT_CAP_STATUS, 2, 0⟩
def F.KT_CAP_STATUS.OVW : Fld := ⟨Reg.KT_CAP_STATUS, 5, 3⟩
def Reg.KT_CAP_NS : Nat := 0x200040
def F.KT_CAP_NS.NS : Fld := ⟨Reg.KT_CAP_NS, 29, 0⟩
def Reg.KT_CAP_FRAC : Nat := 0x200044
def F.KT_CAP_FRAC.FRAC : Fld := ⟨Reg.KT_CAP_FRAC, 15, 0⟩
def Reg.KT_CAP_S_LO : Nat := 0x200048
def F.KT_CAP_S_LO.S_LO : Fld := ⟨Reg.KT_CAP_S_LO, 31, 0⟩
def Reg.KT_CAP_S_HI : Nat := 0x20004C
def F.KT_CAP_S_HI.S_HI : Fld := ⟨Reg.KT_CAP_S_HI, 15, 0⟩
def Reg.KT_CNT (n : Nat) : Nat := 0x200100 + 0x8 * (n % 11)
def F.KT_CNT.COUNT (n : Nat) : Fld := ⟨(Reg.KT_CNT n), 63, 0⟩
def Reg.KT_ALM_CFG (n : Nat) : Nat := 0x200400 + 0x10 * (n % 8)
def F.KT_ALM_CFG.DOMAIN (n : Nat) : Fld := ⟨(Reg.KT_ALM_CFG n), 2, 0⟩
def F.KT_ALM_CFG.ARM (n : Nat) : Fld := ⟨(Reg.KT_ALM_CFG n), 4, 4⟩
def F.KT_ALM_CFG.SPOUT (n : Nat) : Fld := ⟨(Reg.KT_ALM_CFG n), 5, 5⟩
def Reg.KT_ALM_NS (n : Nat) : Nat := 0x200404 + 0x10 * (n % 8)
def F.KT_ALM_NS.NS32 (n : Nat) : Fld := ⟨(Reg.KT_ALM_NS n), 31, 0⟩
def Reg.KT_ALM_FRAC (n : Nat) : Nat := 0x200408 + 0x10 * (n % 8)
def F.KT_ALM_FRAC.FRAC (n : Nat) : Fld := ⟨(Reg.KT_ALM_FRAC n), 15, 0⟩
def Reg.KT_ALM_STATUS : Nat := 0x200480
def F.KT_ALM_STATUS.FIRED : Fld := ⟨Reg.KT_ALM_STATUS, 7, 0⟩
def Reg.KT_PAIR_CTRL (k : Nat) : Nat := 0x200500 + 0x8 * (k % 4)
def F.KT_PAIR_CTRL.HOLD_PARTNER (k : Nat) : Fld := ⟨(Reg.KT_PAIR_CTRL k), 0, 0⟩
def F.KT_PAIR_CTRL.USE_PRIMARY (k : Nat) : Fld := ⟨(Reg.KT_PAIR_CTRL k), 1, 1⟩
def Reg.KT_PAIR_STATUS (k : Nat) : Nat := 0x200504 + 0x8 * (k % 4)
def F.KT_PAIR_STATUS.ACTIVE (k : Nat) : Fld := ⟨(Reg.KT_PAIR_STATUS k), 0, 0⟩
def F.KT_PAIR_STATUS.ON_PARTNER (k : Nat) : Fld := ⟨(Reg.KT_PAIR_STATUS k), 1, 1⟩
def F.KT_PAIR_STATUS.HELD (k : Nat) : Fld := ⟨(Reg.KT_PAIR_STATUS k), 2, 2⟩
def Reg.KT_DOM_CFG (d : Nat) : Nat := 0x201000 + 0x100 * (d % 8)
def F.KT_DOM_CFG.KIND (d : Nat) : Fld := ⟨(Reg.KT_DOM_CFG d), 1, 0⟩
def F.KT_DOM_CFG.LOG2_RATE (d : Nat) : Fld := ⟨(Reg.KT_DOM_CFG d), 6, 4⟩
def F.KT_DOM_CFG.SLAVE_PORT (d : Nat) : Fld := ⟨(Reg.KT_DOM_CFG d), 15, 8⟩
def Reg.KT_DOM_STATUS (d : Nat) : Nat := 0x201004 + 0x100 * (d % 8)
def F.KT_DOM_STATUS.STATE (d : Nat) : Fld := ⟨(Reg.KT_DOM_STATUS d), 2, 0⟩
def F.KT_DOM_STATUS.ACQ (d : Nat) : Fld := ⟨(Reg.KT_DOM_STATUS d), 3, 3⟩
def F.KT_DOM_STATUS.FREQ_LIM (d : Nat) : Fld := ⟨(Reg.KT_DOM_STATUS d), 4, 4⟩
def F.KT_DOM_STATUS.SLEWING (d : Nat) : Fld := ⟨(Reg.KT_DOM_STATUS d), 5, 5⟩
def Reg.KT_DOM_FLAGS (d : Nat) : Nat := 0x201008 + 0x100 * (d % 8)
def F.KT_DOM_FLAGS.STEP (d : Nat) : Fld := ⟨(Reg.KT_DOM_FLAGS d), 0, 0⟩
def F.KT_DOM_FLAGS.HOLDOVER (d : Nat) : Fld := ⟨(Reg.KT_DOM_FLAGS d), 1, 1⟩
def F.KT_DOM_FLAGS.FREQ_LIM (d : Nat) : Fld := ⟨(Reg.KT_DOM_FLAGS d), 2, 2⟩
def F.KT_DOM_FLAGS.SWITCH (d : Nat) : Fld := ⟨(Reg.KT_DOM_FLAGS d), 3, 3⟩
def F.KT_DOM_FLAGS.LOST (d : Nat) : Fld := ⟨(Reg.KT_DOM_FLAGS d), 4, 4⟩
def Reg.KT_KP (d : Nat) : Nat := 0x20100C + 0x100 * (d % 8)
def F.KT_KP.GAIN (d : Nat) : Fld := ⟨(Reg.KT_KP d), 31, 0⟩
def Reg.KT_KI (d : Nat) : Nat := 0x201010 + 0x100 * (d % 8)
def F.KT_KI.GAIN (d : Nat) : Fld := ⟨(Reg.KT_KI d), 31, 0⟩
def Reg.KT_SLEW (d : Nat) : Nat := 0x201014 + 0x100 * (d % 8)
def F.KT_SLEW.PS_S (d : Nat) : Fld := ⟨(Reg.KT_SLEW d), 19, 0⟩
def Reg.KT_SERVO (d : Nat) : Nat := 0x201018 + 0x100 * (d % 8)
def F.KT_SERVO.MANUAL (d : Nat) : Fld := ⟨(Reg.KT_SERVO d), 0, 0⟩
def Reg.KT_INC_LO (d : Nat) : Nat := 0x201020 + 0x100 * (d % 8)
def F.KT_INC_LO.INC_LO (d : Nat) : Fld := ⟨(Reg.KT_INC_LO d), 31, 0⟩
def Reg.KT_INC_HI (d : Nat) : Nat := 0x201024 + 0x100 * (d % 8)
def F.KT_INC_HI.INC_HI (d : Nat) : Fld := ⟨(Reg.KT_INC_HI d), 23, 0⟩
def Reg.KT_FREQ (d : Nat) : Nat := 0x201028 + 0x100 * (d % 8)
def F.KT_FREQ.F_I (d : Nat) : Fld := ⟨(Reg.KT_FREQ d), 31, 0⟩
def Reg.KT_OFS_FEED_LO (d : Nat) : Nat := 0x201030 + 0x100 * (d % 8)
def F.KT_OFS_FEED_LO.OFS_LO (d : Nat) : Fld := ⟨(Reg.KT_OFS_FEED_LO d), 31, 0⟩
def Reg.KT_OFS_FEED_HI (d : Nat) : Nat := 0x201034 + 0x100 * (d % 8)
def F.KT_OFS_FEED_HI.OFS_HI (d : Nat) : Fld := ⟨(Reg.KT_OFS_FEED_HI d), 31, 0⟩
def Reg.KT_OFS_CREDIT (d : Nat) : Nat := 0x201038 + 0x100 * (d % 8)
def F.KT_OFS_CREDIT.HOST (d : Nat) : Fld := ⟨(Reg.KT_OFS_CREDIT d), 4, 0⟩
def F.KT_OFS_CREDIT.ENGINE (d : Nat) : Fld := ⟨(Reg.KT_OFS_CREDIT d), 12, 8⟩
def F.KT_OFS_CREDIT.GRANT (d : Nat) : Fld := ⟨(Reg.KT_OFS_CREDIT d), 20, 16⟩
def F.KT_OFS_CREDIT.RECALL (d : Nat) : Fld := ⟨(Reg.KT_OFS_CREDIT d), 24, 24⟩
def F.KT_OFS_CREDIT.RECALLED (d : Nat) : Fld := ⟨(Reg.KT_OFS_CREDIT d), 25, 25⟩
def Reg.KT_LAST_OFS_LO (d : Nat) : Nat := 0x201040 + 0x100 * (d % 8)
def F.KT_LAST_OFS_LO.OFS (d : Nat) : Fld := ⟨(Reg.KT_LAST_OFS_LO d), 31, 0⟩
def Reg.KT_LAST_OFS_HI (d : Nat) : Nat := 0x201044 + 0x100 * (d % 8)
def F.KT_LAST_OFS_HI.OFS (d : Nat) : Fld := ⟨(Reg.KT_LAST_OFS_HI d), 31, 0⟩
def Reg.KT_DOM_CNT (d n : Nat) : Nat := 0x201080 + 0x100 * (d % 8) + 0x8 * (n % 10)
def F.KT_DOM_CNT.COUNT (d n : Nat) : Fld := ⟨(Reg.KT_DOM_CNT d n), 63, 0⟩
def Reg.PRT_TT_CFG (p : Nat) : Nat := 0x2004000 + 0x10000 * (p % 256)
def F.PRT_TT_CFG.ROLE (p : Nat) : Fld := ⟨(Reg.PRT_TT_CFG p), 1, 0⟩
def F.PRT_TT_CFG.MECH (p : Nat) : Fld := ⟨(Reg.PRT_TT_CFG p), 2, 2⟩
def F.PRT_TT_CFG.ENCAP (p : Nat) : Fld := ⟨(Reg.PRT_TT_CFG p), 3, 3⟩
def F.PRT_TT_CFG.LOG_SYNC (p : Nat) : Fld := ⟨(Reg.PRT_TT_CFG p), 7, 4⟩
def F.PRT_TT_CFG.LOG_DREQ (p : Nat) : Fld := ⟨(Reg.PRT_TT_CFG p), 11, 8⟩
def F.PRT_TT_CFG.PTP_DOM (p : Nat) : Fld := ⟨(Reg.PRT_TT_CFG p), 19, 12⟩
def F.PRT_TT_CFG.MAJ_SDO (p : Nat) : Fld := ⟨(Reg.PRT_TT_CFG p), 23, 20⟩
def F.PRT_TT_CFG.DOMAIN (p : Nat) : Fld := ⟨(Reg.PRT_TT_CFG p), 26, 24⟩
def Reg.PRT_TT_ID_0 (p : Nat) : Nat := 0x2004004 + 0x10000 * (p % 256)
def F.PRT_TT_ID_0.CLKID_0 (p : Nat) : Fld := ⟨(Reg.PRT_TT_ID_0 p), 31, 0⟩
def Reg.PRT_TT_ID_1 (p : Nat) : Nat := 0x2004008 + 0x10000 * (p % 256)
def F.PRT_TT_ID_1.CLKID_1 (p : Nat) : Fld := ⟨(Reg.PRT_TT_ID_1 p), 31, 0⟩
def Reg.PRT_TT_ID_2 (p : Nat) : Nat := 0x200400C + 0x10000 * (p % 256)
def F.PRT_TT_ID_2.PORTNUM (p : Nat) : Fld := ⟨(Reg.PRT_TT_ID_2 p), 15, 0⟩
def F.PRT_TT_ID_2.FLAGS (p : Nat) : Fld := ⟨(Reg.PRT_TT_ID_2 p), 31, 16⟩
def Reg.PRT_TT_MID_0 (p : Nat) : Nat := 0x2004010 + 0x10000 * (p % 256)
def F.PRT_TT_MID_0.CLKID_0 (p : Nat) : Fld := ⟨(Reg.PRT_TT_MID_0 p), 31, 0⟩
def Reg.PRT_TT_MID_1 (p : Nat) : Nat := 0x2004014 + 0x10000 * (p % 256)
def F.PRT_TT_MID_1.CLKID_1 (p : Nat) : Fld := ⟨(Reg.PRT_TT_MID_1 p), 31, 0⟩
def Reg.PRT_TT_MID_2 (p : Nat) : Nat := 0x2004018 + 0x10000 * (p % 256)
def F.PRT_TT_MID_2.PORTNUM (p : Nat) : Fld := ⟨(Reg.PRT_TT_MID_2 p), 15, 0⟩
def F.PRT_TT_MID_2.ANY (p : Nat) : Fld := ⟨(Reg.PRT_TT_MID_2 p), 16, 16⟩
def Reg.PRT_TT_SMAC_0 (p : Nat) : Nat := 0x2004020 + 0x10000 * (p % 256)
def F.PRT_TT_SMAC_0.MAC_0 (p : Nat) : Fld := ⟨(Reg.PRT_TT_SMAC_0 p), 31, 0⟩
def Reg.PRT_TT_SMAC_1 (p : Nat) : Nat := 0x2004024 + 0x10000 * (p % 256)
def F.PRT_TT_SMAC_1.MAC_1 (p : Nat) : Fld := ⟨(Reg.PRT_TT_SMAC_1 p), 15, 0⟩
def Reg.PRT_TT_IP4 (p : Nat) : Nat := 0x2004028 + 0x10000 * (p % 256)
def F.PRT_TT_IP4.ADDR (p : Nat) : Fld := ⟨(Reg.PRT_TT_IP4 p), 31, 0⟩
def Reg.PRT_TT_ASYM (p : Nat) : Nat := 0x2004030 + 0x10000 * (p % 256)
def F.PRT_TT_ASYM.COEF (p : Nat) : Fld := ⟨(Reg.PRT_TT_ASYM p), 31, 0⟩
def Reg.PRT_TT_TRIM_TX (p : Nat) : Nat := 0x2004034 + 0x10000 * (p % 256)
def F.PRT_TT_TRIM_TX.TX (p : Nat) : Fld := ⟨(Reg.PRT_TT_TRIM_TX p), 31, 0⟩
def Reg.PRT_TT_TRIM_RX (p : Nat) : Nat := 0x2004038 + 0x10000 * (p % 256)
def F.PRT_TT_TRIM_RX.RX (p : Nat) : Fld := ⟨(Reg.PRT_TT_TRIM_RX p), 31, 0⟩
def Reg.PRT_TT_STATUS (p : Nat) : Nat := 0x2004040 + 0x10000 * (p % 256)
def F.PRT_TT_STATUS.L1 (p : Nat) : Fld := ⟨(Reg.PRT_TT_STATUS p), 0, 0⟩
def F.PRT_TT_STATUS.DLY_VALID (p : Nat) : Fld := ⟨(Reg.PRT_TT_STATUS p), 1, 1⟩
def F.PRT_TT_STATUS.PHV_OK (p : Nat) : Fld := ⟨(Reg.PRT_TT_STATUS p), 2, 2⟩
def F.PRT_TT_STATUS.NO_ID (p : Nat) : Fld := ⟨(Reg.PRT_TT_STATUS p), 3, 3⟩
def F.PRT_TT_STATUS.SRC (p : Nat) : Fld := ⟨(Reg.PRT_TT_STATUS p), 5, 4⟩
def F.PRT_TT_STATUS.NHIST (p : Nat) : Fld := ⟨(Reg.PRT_TT_STATUS p), 10, 6⟩
def Reg.PRT_TT_FLAGS (p : Nat) : Nat := 0x2004044 + 0x10000 * (p % 256)
def F.PRT_TT_FLAGS.FU_LOST (p : Nat) : Fld := ⟨(Reg.PRT_TT_FLAGS p), 0, 0⟩
def F.PRT_TT_FLAGS.RESP_LOST (p : Nat) : Fld := ⟨(Reg.PRT_TT_FLAGS p), 1, 1⟩
def F.PRT_TT_FLAGS.OUTLIER (p : Nat) : Fld := ⟨(Reg.PRT_TT_FLAGS p), 2, 2⟩
def F.PRT_TT_FLAGS.RANGE (p : Nat) : Fld := ⟨(Reg.PRT_TT_FLAGS p), 3, 3⟩
def F.PRT_TT_FLAGS.UNWRAP (p : Nat) : Fld := ⟨(Reg.PRT_TT_FLAGS p), 4, 4⟩
def F.PRT_TT_FLAGS.STEPPED (p : Nat) : Fld := ⟨(Reg.PRT_TT_FLAGS p), 5, 5⟩
def Reg.PRT_TT_DELAY_LO (p : Nat) : Nat := 0x2004050 + 0x10000 * (p % 256)
def F.PRT_TT_DELAY_LO.DELAY (p : Nat) : Fld := ⟨(Reg.PRT_TT_DELAY_LO p), 31, 0⟩
def Reg.PRT_TT_DELAY_HI (p : Nat) : Nat := 0x2004054 + 0x10000 * (p % 256)
def F.PRT_TT_DELAY_HI.DELAY (p : Nat) : Fld := ⟨(Reg.PRT_TT_DELAY_HI p), 31, 0⟩
def Reg.PRT_TT_OFS_LO (p : Nat) : Nat := 0x2004058 + 0x10000 * (p % 256)
def F.PRT_TT_OFS_LO.OFS (p : Nat) : Fld := ⟨(Reg.PRT_TT_OFS_LO p), 31, 0⟩
def Reg.PRT_TT_OFS_HI (p : Nat) : Nat := 0x200405C + 0x10000 * (p % 256)
def F.PRT_TT_OFS_HI.OFS (p : Nat) : Fld := ⟨(Reg.PRT_TT_OFS_HI p), 31, 0⟩
def Reg.PRT_TT_NRR (p : Nat) : Nat := 0x2004060 + 0x10000 * (p % 256)
def F.PRT_TT_NRR.NRR (p : Nat) : Fld := ⟨(Reg.PRT_TT_NRR p), 31, 0⟩
def Reg.PRT_TT_CNT (p n : Nat) : Nat := 0x2004100 + 0x10000 * (p % 256) + 0x8 * (n % 16)
def F.PRT_TT_CNT.COUNT (p n : Nat) : Fld := ⟨(Reg.PRT_TT_CNT p n), 63, 0⟩
def Reg.PH_RECAL : Nat := 0x400000
def F.PH_RECAL.CH : Fld := ⟨Reg.PH_RECAL, 7, 0⟩
def Reg.PH_ROT_STATUS (g : Nat) : Nat := 0x400010 + 0x4 * (g % 5)
def F.PH_ROT_STATUS.SLOT (g : Nat) : Fld := ⟨(Reg.PH_ROT_STATUS g), 6, 0⟩
def F.PH_ROT_STATUS.STATE (g : Nat) : Fld := ⟨(Reg.PH_ROT_STATUS g), 9, 8⟩
def F.PH_ROT_STATUS.HELD (g : Nat) : Fld := ⟨(Reg.PH_ROT_STATUS g), 10, 10⟩
def F.PH_ROT_STATUS.CH (g : Nat) : Fld := ⟨(Reg.PH_ROT_STATUS g), 23, 16⟩
def Reg.PH_SKEW (s : Nat) : Nat := 0x400030 + 0x4 * (s % 4)
def F.PH_SKEW.SKEW (s : Nat) : Fld := ⟨(Reg.PH_SKEW s), 31, 0⟩
def Reg.PH_UID_LO : Nat := 0x400040
def F.PH_UID_LO.UID : Fld := ⟨Reg.PH_UID_LO, 31, 0⟩
def Reg.PH_UID_HI : Nat := 0x400044
def F.PH_UID_HI.UID : Fld := ⟨Reg.PH_UID_HI, 31, 0⟩
def Reg.PH_CAL_STATUS : Nat := 0x400048
def F.PH_CAL_STATUS.COPY : Fld := ⟨Reg.PH_CAL_STATUS, 1, 0⟩
def F.PH_CAL_STATUS.FACT_BAD : Fld := ⟨Reg.PH_CAL_STATUS, 2, 2⟩
def F.PH_CAL_STATUS.FIELD_REC_BAD : Fld := ⟨Reg.PH_CAL_STATUS, 3, 3⟩
def F.PH_CAL_STATUS.UID_MISMATCH : Fld := ⟨Reg.PH_CAL_STATUS, 4, 4⟩
def Reg.PH_FM_CFG (e : Nat) : Nat := 0x400100 + 0x20 * (e % 5)
def F.PH_FM_CFG.CH (e : Nat) : Fld := ⟨(Reg.PH_FM_CFG e), 7, 0⟩
def F.PH_FM_CFG.SRC (e : Nat) : Fld := ⟨(Reg.PH_FM_CFG e), 8, 8⟩
def F.PH_FM_CFG.GATE_MS (e : Nat) : Fld := ⟨(Reg.PH_FM_CFG e), 29, 16⟩
def F.PH_FM_CFG.START (e : Nat) : Fld := ⟨(Reg.PH_FM_CFG e), 31, 31⟩
def Reg.PH_FM_NOM (e : Nat) : Nat := 0x400104 + 0x20 * (e % 5)
def F.PH_FM_NOM.NS (e : Nat) : Fld := ⟨(Reg.PH_FM_NOM e), 31, 0⟩
def Reg.PH_FM_STATUS (e : Nat) : Nat := 0x400108 + 0x20 * (e % 5)
def F.PH_FM_STATUS.RUN (e : Nat) : Fld := ⟨(Reg.PH_FM_STATUS e), 0, 0⟩
def F.PH_FM_STATUS.DONE (e : Nat) : Fld := ⟨(Reg.PH_FM_STATUS e), 1, 1⟩
def F.PH_FM_STATUS.RESULT (e : Nat) : Fld := ⟨(Reg.PH_FM_STATUS e), 3, 2⟩
def Reg.PH_FM_RES (e : Nat) : Nat := 0x400110 + 0x20 * (e % 5)
def F.PH_FM_RES.Y (e : Nat) : Fld := ⟨(Reg.PH_FM_RES e), 63, 0⟩
def Reg.PH_FM_N (e : Nat) : Nat := 0x400118 + 0x20 * (e % 5)
def F.PH_FM_N.N (e : Nat) : Fld := ⟨(Reg.PH_FM_N e), 63, 0⟩
def Reg.PH_FM_RMS (e : Nat) : Nat := 0x40010C + 0x20 * (e % 5)
def F.PH_FM_RMS.RMS (e : Nat) : Fld := ⟨(Reg.PH_FM_RMS e), 31, 0⟩
def Reg.PH_CH_STATUS (n : Nat) : Nat := 0x410000 + 0x80 * (n % 229)
def F.PH_CH_STATUS.STATE (n : Nat) : Fld := ⟨(Reg.PH_CH_STATUS n), 1, 0⟩
def F.PH_CH_STATUS.LIN (n : Nat) : Fld := ⟨(Reg.PH_CH_STATUS n), 2, 2⟩
def Reg.PH_CH_FLAGS (n : Nat) : Nat := 0x410004 + 0x80 * (n % 229)
def F.PH_CH_FLAGS.INL_HIGH (n : Nat) : Fld := ⟨(Reg.PH_CH_FLAGS n), 0, 0⟩
def F.PH_CH_FLAGS.DLL_HIGH (n : Nat) : Fld := ⟨(Reg.PH_CH_FLAGS n), 1, 1⟩
def F.PH_CH_FLAGS.MISMATCH (n : Nat) : Fld := ⟨(Reg.PH_CH_FLAGS n), 2, 2⟩
def F.PH_CH_FLAGS.BAD (n : Nat) : Fld := ⟨(Reg.PH_CH_FLAGS n), 3, 3⟩
def F.PH_CH_FLAGS.SKIP (n : Nat) : Fld := ⟨(Reg.PH_CH_FLAGS n), 4, 4⟩
def F.PH_CH_FLAGS.GLITCH (n : Nat) : Fld := ⟨(Reg.PH_CH_FLAGS n), 5, 5⟩
def Reg.PH_CH_QUAL (n : Nat) : Nat := 0x410008 + 0x80 * (n % 229)
def F.PH_CH_QUAL.INL (n : Nat) : Fld := ⟨(Reg.PH_CH_QUAL n), 9, 0⟩
def F.PH_CH_QUAL.DLL (n : Nat) : Fld := ⟨(Reg.PH_CH_QUAL n), 25, 16⟩
def Reg.PH_SQ_CFG (n : Nat) : Nat := 0x41000C + 0x80 * (n % 229)
def F.PH_SQ_CFG.CONS (n : Nat) : Fld := ⟨(Reg.PH_SQ_CFG n), 1, 0⟩
def F.PH_SQ_CFG.SRC (n : Nat) : Fld := ⟨(Reg.PH_SQ_CFG n), 3, 2⟩
def F.PH_SQ_CFG.DEC (n : Nat) : Fld := ⟨(Reg.PH_SQ_CFG n), 7, 4⟩
def Reg.PH_SQ_CREDIT (n : Nat) : Nat := 0x410010 + 0x80 * (n % 229)
def F.PH_SQ_CREDIT.HOST (n : Nat) : Fld := ⟨(Reg.PH_SQ_CREDIT n), 6, 0⟩
def F.PH_SQ_CREDIT.PROD (n : Nat) : Fld := ⟨(Reg.PH_SQ_CREDIT n), 14, 8⟩
def F.PH_SQ_CREDIT.OCC (n : Nat) : Fld := ⟨(Reg.PH_SQ_CREDIT n), 22, 16⟩
def F.PH_SQ_CREDIT.GRANT (n : Nat) : Fld := ⟨(Reg.PH_SQ_CREDIT n), 30, 24⟩
def F.PH_SQ_CREDIT.RECALL (n : Nat) : Fld := ⟨(Reg.PH_SQ_CREDIT n), 31, 31⟩
def Reg.PH_SQ_POP (n w : Nat) : Nat := 0x410020 + 0x80 * (n % 229) + 0x4 * (w % 4)
def F.PH_SQ_POP.DATA (n w : Nat) : Fld := ⟨(Reg.PH_SQ_POP n w), 31, 0⟩
def Reg.PH_CNT (n k : Nat) : Nat := 0x410040 + 0x80 * (n % 229) + 0x8 * (k % 7)
def F.PH_CNT.COUNT (n k : Nat) : Fld := ⟨(Reg.PH_CNT n k), 63, 0⟩
def Reg.PIN_EVT_CFG (n : Nat) : Nat := 0x500100 + 0x4 * (n % 32)
def F.PIN_EVT_CFG.FUNC (n : Nat) : Fld := ⟨(Reg.PIN_EVT_CFG n), 0, 0⟩
def F.PIN_EVT_CFG.EDGE (n : Nat) : Fld := ⟨(Reg.PIN_EVT_CFG n), 2, 1⟩
def F.PIN_EVT_CFG.GLITCH_NS (n : Nat) : Fld := ⟨(Reg.PIN_EVT_CFG n), 7, 4⟩
def F.PIN_EVT_CFG.DOMAIN (n : Nat) : Fld := ⟨(Reg.PIN_EVT_CFG n), 10, 8⟩
def Reg.PIN_EVT_LEVEL : Nat := 0x500180
def F.PIN_EVT_LEVEL.LEVEL : Fld := ⟨Reg.PIN_EVT_LEVEL, 31, 0⟩
def Reg.PIN_PLS_CFG (n : Nat) : Nat := 0x501000 + 0x40 * (n % 32)
def F.PIN_PLS_CFG.MODE (n : Nat) : Fld := ⟨(Reg.PIN_PLS_CFG n), 1, 0⟩
def F.PIN_PLS_CFG.PLEN (n : Nat) : Fld := ⟨(Reg.PIN_PLS_CFG n), 7, 2⟩
def F.PIN_PLS_CFG.COUNT (n : Nat) : Fld := ⟨(Reg.PIN_PLS_CFG n), 31, 8⟩
def Reg.PIN_PLS_START_NS (n : Nat) : Nat := 0x501004 + 0x40 * (n % 32)
def F.PIN_PLS_START_NS.NS32 (n : Nat) : Fld := ⟨(Reg.PIN_PLS_START_NS n), 31, 0⟩
def Reg.PIN_PLS_START_FRAC (n : Nat) : Nat := 0x501008 + 0x40 * (n % 32)
def F.PIN_PLS_START_FRAC.FRAC (n : Nat) : Fld := ⟨(Reg.PIN_PLS_START_FRAC n), 15, 0⟩
def Reg.PIN_PLS_PERIOD_NS (n : Nat) : Nat := 0x50100C + 0x40 * (n % 32)
def F.PIN_PLS_PERIOD_NS.NS (n : Nat) : Fld := ⟨(Reg.PIN_PLS_PERIOD_NS n), 30, 0⟩
def Reg.PIN_PLS_PERIOD_FRAC (n : Nat) : Nat := 0x501010 + 0x40 * (n % 32)
def F.PIN_PLS_PERIOD_FRAC.FRAC (n : Nat) : Fld := ⟨(Reg.PIN_PLS_PERIOD_FRAC n), 15, 0⟩
def Reg.PIN_PLS_WIDTH (n : Nat) : Nat := 0x501014 + 0x40 * (n % 32)
def F.PIN_PLS_WIDTH.NS (n : Nat) : Fld := ⟨(Reg.PIN_PLS_WIDTH n), 30, 0⟩
def Reg.PIN_PLS_PAT_LO (n : Nat) : Nat := 0x501018 + 0x40 * (n % 32)
def F.PIN_PLS_PAT_LO.PAT (n : Nat) : Fld := ⟨(Reg.PIN_PLS_PAT_LO n), 31, 0⟩
def Reg.PIN_PLS_PAT_HI (n : Nat) : Nat := 0x50101C + 0x40 * (n % 32)
def F.PIN_PLS_PAT_HI.PAT (n : Nat) : Fld := ⟨(Reg.PIN_PLS_PAT_HI n), 31, 0⟩
def Reg.PIN_PLS_FINE (n : Nat) : Nat := 0x501020 + 0x40 * (n % 32)
def F.PIN_PLS_FINE.TAPS (n : Nat) : Fld := ⟨(Reg.PIN_PLS_FINE n), 7, 0⟩
def Reg.PIN_PLS_CTRL (n : Nat) : Nat := 0x501024 + 0x40 * (n % 32)
def F.PIN_PLS_CTRL.ARM (n : Nat) : Fld := ⟨(Reg.PIN_PLS_CTRL n), 0, 0⟩
def F.PIN_PLS_CTRL.STOP (n : Nat) : Fld := ⟨(Reg.PIN_PLS_CTRL n), 1, 1⟩
def Reg.PIN_PLS_STATUS (n : Nat) : Nat := 0x501028 + 0x40 * (n % 32)
def F.PIN_PLS_STATUS.STATE (n : Nat) : Fld := ⟨(Reg.PIN_PLS_STATUS n), 1, 0⟩
def F.PIN_PLS_STATUS.DONE (n : Nat) : Fld := ⟨(Reg.PIN_PLS_STATUS n), 2, 2⟩
def F.PIN_PLS_STATUS.FUNC (n : Nat) : Fld := ⟨(Reg.PIN_PLS_STATUS n), 3, 3⟩
def F.PIN_PLS_STATUS.IDLE (n : Nat) : Fld := ⟨(Reg.PIN_PLS_STATUS n), 4, 4⟩
def F.PIN_PLS_STATUS.DOMAIN (n : Nat) : Fld := ⟨(Reg.PIN_PLS_STATUS n), 7, 5⟩
def Reg.PIN_PLS_CNT (n : Nat) : Nat := 0x501030 + 0x40 * (n % 32)
def F.PIN_PLS_CNT.COUNT (n : Nat) : Fld := ⟨(Reg.PIN_PLS_CNT n), 63, 0⟩
def Reg.PIN_CLK_FREQ (k : Nat) : Nat := 0x502000 + 0x10 * (k % 8)
def F.PIN_CLK_FREQ.HZ (k : Nat) : Fld := ⟨(Reg.PIN_CLK_FREQ k), 28, 0⟩
def Reg.PIN_CLK_CTRL (k : Nat) : Nat := 0x502004 + 0x10 * (k % 8)
def F.PIN_CLK_CTRL.EN (k : Nat) : Fld := ⟨(Reg.PIN_CLK_CTRL k), 0, 0⟩
def Reg.PIN_CLK_STATUS (k : Nat) : Nat := 0x502008 + 0x10 * (k % 8)
def F.PIN_CLK_STATUS.FUNC (k : Nat) : Fld := ⟨(Reg.PIN_CLK_STATUS k), 0, 0⟩
def F.PIN_CLK_STATUS.RUN (k : Nat) : Fld := ⟨(Reg.PIN_CLK_STATUS k), 1, 1⟩
def F.PIN_CLK_STATUS.LOCK (k : Nat) : Fld := ⟨(Reg.PIN_CLK_STATUS k), 2, 2⟩
def Reg.PIN_CLK_FLAGS : Nat := 0x502100
def F.PIN_CLK_FLAGS.LOL : Fld := ⟨Reg.PIN_CLK_FLAGS, 7, 0⟩
def F.PIN_CLK_FLAGS.REF_LOSS : Fld := ⟨Reg.PIN_CLK_FLAGS, 15, 8⟩
def Reg.VN_CFG : Nat := 0x300000
def F.VN_CFG.ACCEPT_PPB : Fld := ⟨Reg.VN_CFG, 15, 0⟩
def F.VN_CFG.REJECT_PPB : Fld := ⟨Reg.VN_CFG, 31, 16⟩
def Reg.VN_CFG1 : Nat := 0x300004
def F.VN_CFG1.WTR_S : Fld := ⟨Reg.VN_CFG1, 9, 0⟩
def F.VN_CFG1.SLOPE : Fld := ⟨Reg.VN_CFG1, 24, 16⟩
def Reg.VN_STATUS : Nat := 0x300010
def F.VN_STATUS.STATE : Fld := ⟨Reg.VN_STATUS, 1, 0⟩
def F.VN_STATUS.SEL : Fld := ⟨Reg.VN_STATUS, 7, 4⟩
def F.VN_STATUS.TARGET : Fld := ⟨Reg.VN_STATUS, 11, 8⟩
def F.VN_STATUS.HO_VALID : Fld := ⟨Reg.VN_STATUS, 12, 12⟩
def F.VN_STATUS.PEND : Fld := ⟨Reg.VN_STATUS, 13, 13⟩
def F.VN_STATUS.SEL_QL : Fld := ⟨Reg.VN_STATUS, 19, 16⟩
def Reg.VN_FLAGS : Nat := 0x300014
def F.VN_FLAGS.FREERUN : Fld := ⟨Reg.VN_FLAGS, 0, 0⟩
def F.VN_FLAGS.LOCKED : Fld := ⟨Reg.VN_FLAGS, 1, 1⟩
def F.VN_FLAGS.HOLDOVER : Fld := ⟨Reg.VN_FLAGS, 2, 2⟩
def F.VN_FLAGS.SWITCH : Fld := ⟨Reg.VN_FLAGS, 3, 3⟩
def F.VN_FLAGS.ABANDON : Fld := ⟨Reg.VN_FLAGS, 4, 4⟩
def Reg.VN_STEER : Nat := 0x300020
def F.VN_STEER.WORD : Fld := ⟨Reg.VN_STEER, 31, 0⟩
def Reg.VN_HO_WORD : Nat := 0x300024
def F.VN_HO_WORD.WORD : Fld := ⟨Reg.VN_HO_WORD, 31, 0⟩
def Reg.VN_PULL : Nat := 0x300028
def F.VN_PULL.DELTA : Fld := ⟨Reg.VN_PULL, 15, 0⟩
def F.VN_PULL.REMAIN : Fld := ⟨Reg.VN_PULL, 31, 16⟩
def Reg.VN_CNT (n : Nat) : Nat := 0x300100 + 0x8 * (n % 8)
def F.VN_CNT.COUNT (n : Nat) : Fld := ⟨(Reg.VN_CNT n), 63, 0⟩
def Reg.VN_CAND_CFG (i : Nat) : Nat := 0x301000 + 0x20 * (i % 11)
def F.VN_CAND_CFG.SOURCE (i : Nat) : Fld := ⟨(Reg.VN_CAND_CFG i), 7, 0⟩
def F.VN_CAND_CFG.PRIORITY (i : Nat) : Fld := ⟨(Reg.VN_CAND_CFG i), 15, 8⟩
def F.VN_CAND_CFG.QL_STATIC (i : Nat) : Fld := ⟨(Reg.VN_CAND_CFG i), 19, 16⟩
def F.VN_CAND_CFG.FREQ (i : Nat) : Fld := ⟨(Reg.VN_CAND_CFG i), 20, 20⟩
def Reg.VN_CAND_STATUS (i : Nat) : Nat := 0x301004 + 0x20 * (i % 11)
def F.VN_CAND_STATUS.STATE (i : Nat) : Fld := ⟨(Reg.VN_CAND_STATUS i), 2, 0⟩
def F.VN_CAND_STATUS.ACTIVE (i : Nat) : Fld := ⟨(Reg.VN_CAND_STATUS i), 3, 3⟩
def F.VN_CAND_STATUS.ELIGIBLE (i : Nat) : Fld := ⟨(Reg.VN_CAND_STATUS i), 4, 4⟩
def F.VN_CAND_STATUS.QL (i : Nat) : Fld := ⟨(Reg.VN_CAND_STATUS i), 11, 8⟩
def F.VN_CAND_STATUS.WTR_LEFT (i : Nat) : Fld := ⟨(Reg.VN_CAND_STATUS i), 25, 16⟩
def Reg.VN_CAND_FREQ (i : Nat) : Nat := 0x301008 + 0x20 * (i % 11)
def F.VN_CAND_FREQ.PPB (i : Nat) : Fld := ⟨(Reg.VN_CAND_FREQ i), 31, 0⟩
def Reg.VN_CAND_FLAGS (i : Nat) : Nat := 0x30100C + 0x20 * (i % 11)
def F.VN_CAND_FLAGS.INACTIVE (i : Nat) : Fld := ⟨(Reg.VN_CAND_FLAGS i), 0, 0⟩
def F.VN_CAND_FLAGS.REJECT (i : Nat) : Fld := ⟨(Reg.VN_CAND_FLAGS i), 1, 1⟩
def F.VN_CAND_FLAGS.MARGINAL (i : Nat) : Fld := ⟨(Reg.VN_CAND_FLAGS i), 2, 2⟩
def F.VN_CAND_FLAGS.QL_CHANGE (i : Nat) : Fld := ⟨(Reg.VN_CAND_FLAGS i), 3, 3⟩
def F.VN_CAND_FLAGS.ESMC_TO (i : Nat) : Fld := ⟨(Reg.VN_CAND_FLAGS i), 4, 4⟩
def Reg.CD_RD_ADDR_LO : Nat := 0xA00100
def F.CD_RD_ADDR_LO.ADDR : Fld := ⟨Reg.CD_RD_ADDR_LO, 31, 6⟩
def Reg.CD_RD_ADDR_HI : Nat := 0xA00104
def F.CD_RD_ADDR_HI.ADDR : Fld := ⟨Reg.CD_RD_ADDR_HI, 31, 0⟩
def Reg.CD_RD_RING : Nat := 0xA00108
def F.CD_RD_RING.RING : Fld := ⟨Reg.CD_RD_RING, 2, 0⟩
def Reg.CD_RD_FIRST : Nat := 0xA0010C
def F.CD_RD_FIRST.FIRST : Fld := ⟨Reg.CD_RD_FIRST, 15, 0⟩
def Reg.CD_RD_COUNT : Nat := 0xA00110
def F.CD_RD_COUNT.COUNT : Fld := ⟨Reg.CD_RD_COUNT, 16, 0⟩
def Reg.CD_RD_CMD : Nat := 0xA00114
def F.CD_RD_CMD.GO : Fld := ⟨Reg.CD_RD_CMD, 0, 0⟩
def F.CD_RD_CMD.ABORT : Fld := ⟨Reg.CD_RD_CMD, 1, 1⟩
def Reg.CD_RD_STATUS : Nat := 0xA00118
def F.CD_RD_STATUS.STATE : Fld := ⟨Reg.CD_RD_STATUS, 1, 0⟩
def F.CD_RD_STATUS.DONE_CH : Fld := ⟨Reg.CD_RD_STATUS, 17, 2⟩
def Reg.CD_RD_BAD : Nat := 0xA0011C
def F.CD_RD_BAD.BAD : Fld := ⟨Reg.CD_RD_BAD, 15, 0⟩
def Reg.CD_RING_CFG (n : Nat) : Nat := 0xA01000 + 0x100 * (n % 8)
def F.CD_RING_CFG.CHUNKS (n : Nat) : Fld := ⟨(Reg.CD_RING_CFG n), 15, 0⟩
def F.CD_RING_CFG.DOMAIN (n : Nat) : Fld := ⟨(Reg.CD_RING_CFG n), 18, 16⟩
def F.CD_RING_CFG.SEL_EN (n : Nat) : Fld := ⟨(Reg.CD_RING_CFG n), 20, 20⟩
def Reg.CD_RING_PRE (n : Nat) : Nat := 0xA01004 + 0x100 * (n % 8)
def F.CD_RING_PRE.US (n : Nat) : Fld := ⟨(Reg.CD_RING_PRE n), 26, 0⟩
def Reg.CD_RING_POST (n : Nat) : Nat := 0xA01008 + 0x100 * (n % 8)
def F.CD_RING_POST.US (n : Nat) : Fld := ⟨(Reg.CD_RING_POST n), 26, 0⟩
def Reg.CD_RING_TRIG_EVT (n : Nat) : Nat := 0xA0100C + 0x100 * (n % 8)
def F.CD_RING_TRIG_EVT.EVT (n : Nat) : Fld := ⟨(Reg.CD_RING_TRIG_EVT n), 31, 0⟩
def Reg.CD_RING_TRIG_SRC (n : Nat) : Nat := 0xA01010 + 0x100 * (n % 8)
def F.CD_RING_TRIG_SRC.ALM (n : Nat) : Fld := ⟨(Reg.CD_RING_TRIG_SRC n), 7, 0⟩
def F.CD_RING_TRIG_SRC.STR (n : Nat) : Fld := ⟨(Reg.CD_RING_TRIG_SRC n), 15, 8⟩
def F.CD_RING_TRIG_SRC.CLS (n : Nat) : Fld := ⟨(Reg.CD_RING_TRIG_SRC n), 16, 16⟩
def Reg.CD_RING_CTRL (n : Nat) : Nat := 0xA01014 + 0x100 * (n % 8)
def F.CD_RING_CTRL.TRIG (n : Nat) : Fld := ⟨(Reg.CD_RING_CTRL n), 0, 0⟩
def F.CD_RING_CTRL.RELEASE (n : Nat) : Fld := ⟨(Reg.CD_RING_CTRL n), 1, 1⟩
def Reg.CD_RING_STATUS (n : Nat) : Nat := 0xA01018 + 0x100 * (n % 8)
def F.CD_RING_STATUS.STATE (n : Nat) : Fld := ⟨(Reg.CD_RING_STATUS n), 2, 0⟩
def F.CD_RING_STATUS.EARLY (n : Nat) : Fld := ⟨(Reg.CD_RING_STATUS n), 3, 3⟩
def F.CD_RING_STATUS.CUT (n : Nat) : Fld := ⟨(Reg.CD_RING_STATUS n), 4, 4⟩
def F.CD_RING_STATUS.READING (n : Nat) : Fld := ⟨(Reg.CD_RING_STATUS n), 5, 5⟩
def F.CD_RING_STATUS.REPLAYING (n : Nat) : Fld := ⟨(Reg.CD_RING_STATUS n), 6, 6⟩
def F.CD_RING_STATUS.WRAPPED (n : Nat) : Fld := ⟨(Reg.CD_RING_STATUS n), 7, 7⟩
def Reg.CD_RING_TRIG_INFO (n : Nat) : Nat := 0xA0101C + 0x100 * (n % 8)
def F.CD_RING_TRIG_INFO.CAUSE (n : Nat) : Fld := ⟨(Reg.CD_RING_TRIG_INFO n), 2, 0⟩
def F.CD_RING_TRIG_INFO.INDEX (n : Nat) : Fld := ⟨(Reg.CD_RING_TRIG_INFO n), 15, 8⟩
def Reg.CD_RING_TRIG_NS (n : Nat) : Nat := 0xA01020 + 0x100 * (n % 8)
def F.CD_RING_TRIG_NS.NS (n : Nat) : Fld := ⟨(Reg.CD_RING_TRIG_NS n), 29, 0⟩
def Reg.CD_RING_TRIG_FRAC (n : Nat) : Nat := 0xA01024 + 0x100 * (n % 8)
def F.CD_RING_TRIG_FRAC.FRAC (n : Nat) : Fld := ⟨(Reg.CD_RING_TRIG_FRAC n), 15, 0⟩
def Reg.CD_RING_TRIG_S_LO (n : Nat) : Nat := 0xA01028 + 0x100 * (n % 8)
def F.CD_RING_TRIG_S_LO.S_LO (n : Nat) : Fld := ⟨(Reg.CD_RING_TRIG_S_LO n), 31, 0⟩
def Reg.CD_RING_TRIG_S_HI (n : Nat) : Nat := 0xA0102C + 0x100 * (n % 8)
def F.CD_RING_TRIG_S_HI.S_HI (n : Nat) : Fld := ⟨(Reg.CD_RING_TRIG_S_HI n), 15, 0⟩
def Reg.CD_RING_RANGE (n : Nat) : Nat := 0xA01030 + 0x100 * (n % 8)
def F.CD_RING_RANGE.FIRST_CHUNK (n : Nat) : Fld := ⟨(Reg.CD_RING_RANGE n), 15, 0⟩
def F.CD_RING_RANGE.NCHUNK (n : Nat) : Fld := ⟨(Reg.CD_RING_RANGE n), 31, 16⟩
def Reg.CD_RING_FIRST_RSEQ (n : Nat) : Nat := 0xA01034 + 0x100 * (n % 8)
def F.CD_RING_FIRST_RSEQ.RSEQ (n : Nat) : Fld := ⟨(Reg.CD_RING_FIRST_RSEQ n), 31, 0⟩
def Reg.CD_RING_LAST_RSEQ (n : Nat) : Nat := 0xA01038 + 0x100 * (n % 8)
def F.CD_RING_LAST_RSEQ.RSEQ (n : Nat) : Fld := ⟨(Reg.CD_RING_LAST_RSEQ n), 31, 0⟩
def Reg.CD_RING_CNT (n k : Nat) : Nat := 0xA01080 + 0x100 * (n % 8) + 0x8 * (k % 8)
def F.CD_RING_CNT.COUNT (n k : Nat) : Fld := ⟨(Reg.CD_RING_CNT n k), 63, 0⟩
def Reg.CD_RP_CFG (r : Nat) : Nat := 0xA02000 + 0x100 * (r % 8)
def F.CD_RP_CFG.RING (r : Nat) : Fld := ⟨(Reg.CD_RP_CFG r), 2, 0⟩
def F.CD_RP_CFG.PORT (r : Nat) : Fld := ⟨(Reg.CD_RP_CFG r), 11, 4⟩
def F.CD_RP_CFG.FILTER (r : Nat) : Fld := ⟨(Reg.CD_RP_CFG r), 13, 12⟩
def F.CD_RP_CFG.SCALE (r : Nat) : Fld := ⟨(Reg.CD_RP_CFG r), 31, 16⟩
def Reg.CD_RP_MATCH (r : Nat) : Nat := 0xA02004 + 0x100 * (r % 8)
def F.CD_RP_MATCH.STREAM (r : Nat) : Fld := ⟨(Reg.CD_RP_MATCH r), 16, 0⟩
def F.CD_RP_MATCH.IN_PORT (r : Nat) : Fld := ⟨(Reg.CD_RP_MATCH r), 31, 24⟩
def Reg.CD_RP_LEAD (r : Nat) : Nat := 0xA02008 + 0x100 * (r % 8)
def F.CD_RP_LEAD.US (r : Nat) : Fld := ⟨(Reg.CD_RP_LEAD r), 13, 0⟩
def Reg.CD_RP_START_NS (r : Nat) : Nat := 0xA0200C + 0x100 * (r % 8)
def F.CD_RP_START_NS.NS (r : Nat) : Fld := ⟨(Reg.CD_RP_START_NS r), 29, 0⟩
def Reg.CD_RP_START_FRAC (r : Nat) : Nat := 0xA02010 + 0x100 * (r % 8)
def F.CD_RP_START_FRAC.FRAC (r : Nat) : Fld := ⟨(Reg.CD_RP_START_FRAC r), 15, 0⟩
def Reg.CD_RP_START_S_LO (r : Nat) : Nat := 0xA02014 + 0x100 * (r % 8)
def F.CD_RP_START_S_LO.S_LO (r : Nat) : Fld := ⟨(Reg.CD_RP_START_S_LO r), 31, 0⟩
def Reg.CD_RP_START_S_HI (r : Nat) : Nat := 0xA02018 + 0x100 * (r % 8)
def F.CD_RP_START_S_HI.S_HI (r : Nat) : Fld := ⟨(Reg.CD_RP_START_S_HI r), 15, 0⟩
def Reg.CD_RP_CTRL (r : Nat) : Nat := 0xA0201C + 0x100 * (r % 8)
def F.CD_RP_CTRL.ARM (r : Nat) : Fld := ⟨(Reg.CD_RP_CTRL r), 0, 0⟩
def F.CD_RP_CTRL.STOP (r : Nat) : Fld := ⟨(Reg.CD_RP_CTRL r), 1, 1⟩
def Reg.CD_RP_STATUS (r : Nat) : Nat := 0xA02020 + 0x100 * (r % 8)
def F.CD_RP_STATUS.STATE (r : Nat) : Fld := ⟨(Reg.CD_RP_STATUS r), 2, 0⟩
def F.CD_RP_STATUS.INFLIGHT (r : Nat) : Fld := ⟨(Reg.CD_RP_STATUS r), 17, 8⟩
def Reg.CD_RP_NEXT_RSEQ (r : Nat) : Nat := 0xA02024 + 0x100 * (r % 8)
def F.CD_RP_NEXT_RSEQ.RSEQ (r : Nat) : Fld := ⟨(Reg.CD_RP_NEXT_RSEQ r), 31, 0⟩
def Reg.CD_RP_CNT (r k : Nat) : Nat := 0xA02080 + 0x100 * (r % 8) + 0x8 * (k % 4)
def F.CD_RP_CNT.COUNT (r k : Nat) : Fld := ⟨(Reg.CD_RP_CNT r k), 63, 0⟩
def Reg.ST_HEALTH : Nat := 0x700000
def F.ST_HEALTH.SHADOW_BAD : Fld := ⟨Reg.ST_HEALTH, 0, 0⟩
def F.ST_HEALTH.RECOVERING : Fld := ⟨Reg.ST_HEALTH, 1, 1⟩
def Reg.ST_IRQ : Nat := 0x700010
def F.ST_IRQ.MISMATCH : Fld := ⟨Reg.ST_IRQ, 7, 0⟩
def F.ST_IRQ.STUCK : Fld := ⟨Reg.ST_IRQ, 15, 8⟩
def Reg.ST_ENG_CFG (k : Nat) : Nat := 0x701000 + 0x40 * (k % 8)
def F.ST_ENG_CFG.MEM (k : Nat) : Fld := ⟨(Reg.ST_ENG_CFG k), 1, 0⟩
def F.ST_ENG_CFG.SLICE (k : Nat) : Fld := ⟨(Reg.ST_ENG_CFG k), 3, 2⟩
def F.ST_ENG_CFG.RING (k : Nat) : Fld := ⟨(Reg.ST_ENG_CFG k), 6, 4⟩
def F.ST_ENG_CFG.CONT (k : Nat) : Fld := ⟨(Reg.ST_ENG_CFG k), 7, 7⟩
def F.ST_ENG_CFG.CAPTURE (k : Nat) : Fld := ⟨(Reg.ST_ENG_CFG k), 8, 8⟩
def Reg.ST_ENG_START_LO (k : Nat) : Nat := 0x701004 + 0x40 * (k % 8)
def F.ST_ENG_START_LO.START (k : Nat) : Fld := ⟨(Reg.ST_ENG_START_LO k), 31, 0⟩
def Reg.ST_ENG_START_HI (k : Nat) : Nat := 0x701008 + 0x40 * (k % 8)
def F.ST_ENG_START_HI.START (k : Nat) : Fld := ⟨(Reg.ST_ENG_START_HI k), 2, 0⟩
def Reg.ST_ENG_LEN (k : Nat) : Nat := 0x70100C + 0x40 * (k % 8)
def F.ST_ENG_LEN.LEN (k : Nat) : Fld := ⟨(Reg.ST_ENG_LEN k), 26, 0⟩
def Reg.ST_ENG_EXP (k : Nat) : Nat := 0x701010 + 0x40 * (k % 8)
def F.ST_ENG_EXP.EXP (k : Nat) : Fld := ⟨(Reg.ST_ENG_EXP k), 31, 0⟩
def Reg.ST_ENG_PERIOD (k : Nat) : Nat := 0x701014 + 0x40 * (k % 8)
def F.ST_ENG_PERIOD.MS (k : Nat) : Fld := ⟨(Reg.ST_ENG_PERIOD k), 21, 0⟩
def Reg.ST_ENG_CTRL (k : Nat) : Nat := 0x701018 + 0x40 * (k % 8)
def F.ST_ENG_CTRL.GO (k : Nat) : Fld := ⟨(Reg.ST_ENG_CTRL k), 0, 0⟩
def F.ST_ENG_CTRL.STOP (k : Nat) : Fld := ⟨(Reg.ST_ENG_CTRL k), 1, 1⟩
def Reg.ST_ENG_RESULT (k : Nat) : Nat := 0x70101C + 0x40 * (k % 8)
def F.ST_ENG_RESULT.ALIVE (k : Nat) : Fld := ⟨(Reg.ST_ENG_RESULT k), 15, 0⟩
def F.ST_ENG_RESULT.RESULT (k : Nat) : Fld := ⟨(Reg.ST_ENG_RESULT k), 18, 16⟩
def F.ST_ENG_RESULT.STATE (k : Nat) : Fld := ⟨(Reg.ST_ENG_RESULT k), 21, 20⟩
def Reg.ST_ENG_CRC (k : Nat) : Nat := 0x701020 + 0x40 * (k % 8)
def F.ST_ENG_CRC.CRC (k : Nat) : Fld := ⟨(Reg.ST_ENG_CRC k), 31, 0⟩
def Reg.ST_ENG_ALIVE_EXP (k : Nat) : Nat := 0x701024 + 0x40 * (k % 8)
def F.ST_ENG_ALIVE_EXP.EXP (k : Nat) : Fld := ⟨(Reg.ST_ENG_ALIVE_EXP k), 15, 0⟩
def F.ST_ENG_ALIVE_EXP.DEADLINE_MS (k : Nat) : Fld := ⟨(Reg.ST_ENG_ALIVE_EXP k), 31, 16⟩
def Reg.ST_ENG_FLAGS (k : Nat) : Nat := 0x701028 + 0x40 * (k % 8)
def F.ST_ENG_FLAGS.MISMATCH (k : Nat) : Fld := ⟨(Reg.ST_ENG_FLAGS k), 0, 0⟩
def F.ST_ENG_FLAGS.STUCK (k : Nat) : Fld := ⟨(Reg.ST_ENG_FLAGS k), 1, 1⟩
def F.ST_ENG_FLAGS.STALE (k : Nat) : Fld := ⟨(Reg.ST_ENG_FLAGS k), 2, 2⟩
def F.ST_ENG_FLAGS.NO_BUFFER (k : Nat) : Fld := ⟨(Reg.ST_ENG_FLAGS k), 3, 3⟩
def F.ST_ENG_FLAGS.ECC (k : Nat) : Fld := ⟨(Reg.ST_ENG_FLAGS k), 4, 4⟩
def Reg.ST_ECC_CNT (m j : Nat) : Nat := 0x700100 + 0x10 * (m % 9) + 0x8 * (j % 2)
def F.ST_ECC_CNT.COUNT (m j : Nat) : Fld := ⟨(Reg.ST_ECC_CNT m j), 63, 0⟩
def Reg.ST_ECC_ADDR (m : Nat) : Nat := 0x700200 + 0x4 * (m % 9)
def F.ST_ECC_ADDR.WORD (m : Nat) : Fld := ⟨(Reg.ST_ECC_ADDR m), 31, 0⟩
def Reg.ST_SCRUB (m : Nat) : Nat := 0x700240 + 0x4 * (m % 9)
def F.ST_SCRUB.PASSES (m : Nat) : Fld := ⟨(Reg.ST_SCRUB m), 15, 0⟩
def Reg.ST_WD_CNT (n : Nat) : Nat := 0x700300 + 0x8 * (n % 10)
def F.ST_WD_CNT.COUNT (n : Nat) : Fld := ⟨(Reg.ST_WD_CNT n), 63, 0⟩
def Reg.DEV_ID : Nat := 0x0
def F.DEV_ID.PART : Fld := ⟨Reg.DEV_ID, 15, 0⟩
def F.DEV_ID.REV : Fld := ⟨Reg.DEV_ID, 19, 16⟩
def F.DEV_ID.DBG_LOCK : Fld := ⟨Reg.DEV_ID, 24, 24⟩
def Reg.DEV_IRQ_STATUS : Nat := 0x200
def F.DEV_IRQ_STATUS.CAUSE : Fld := ⟨Reg.DEV_IRQ_STATUS, 13, 0⟩
def Reg.DEV_IRQ_EN : Nat := 0x204
def F.DEV_IRQ_EN.EN : Fld := ⟨Reg.DEV_IRQ_EN, 13, 0⟩
def Reg.DEV_IRQ_PIN_EN : Nat := 0x208
def F.DEV_IRQ_PIN_EN.PIN : Fld := ⟨Reg.DEV_IRQ_PIN_EN, 13, 0⟩
def Reg.DEV_IRQ_VEC (c : Nat) : Nat := 0x240 + 0x4 * (c % 14)
def F.DEV_IRQ_VEC.VEC (c : Nat) : Fld := ⟨(Reg.DEV_IRQ_VEC c), 5, 0⟩
def Reg.DEV_ERR_SUMMARY : Nat := 0x300
def F.DEV_ERR_SUMMARY.BLOCK : Fld := ⟨Reg.DEV_ERR_SUMMARY, 11, 0⟩
def F.DEV_ERR_SUMMARY.SLC : Fld := ⟨Reg.DEV_ERR_SUMMARY, 15, 12⟩
def F.DEV_ERR_SUMMARY.TW : Fld := ⟨Reg.DEV_ERR_SUMMARY, 19, 16⟩
def F.DEV_ERR_SUMMARY.PRT : Fld := ⟨Reg.DEV_ERR_SUMMARY, 20, 20⟩
def F.DEV_ERR_SUMMARY.LN : Fld := ⟨Reg.DEV_ERR_SUMMARY, 21, 21⟩
def Reg.DEV_ERR_PORT (i : Nat) : Nat := 0x310 + 0x4 * (i % 6)
def F.DEV_ERR_PORT.BITS (i : Nat) : Fld := ⟨(Reg.DEV_ERR_PORT i), 31, 0⟩
def Reg.DEV_ERR_LANE (i : Nat) : Nat := 0x330 + 0x4 * (i % 6)
def F.DEV_ERR_LANE.BITS (i : Nat) : Fld := ⟨(Reg.DEV_ERR_LANE i), 31, 0⟩
def Reg.DEV_MDIO_CMD (m : Nat) : Nat := 0x400 + 0x10 * (m % 4)
def F.DEV_MDIO_CMD.OP (m : Nat) : Fld := ⟨(Reg.DEV_MDIO_CMD m), 1, 0⟩
def F.DEV_MDIO_CMD.PRTAD (m : Nat) : Fld := ⟨(Reg.DEV_MDIO_CMD m), 6, 2⟩
def F.DEV_MDIO_CMD.DEVAD (m : Nat) : Fld := ⟨(Reg.DEV_MDIO_CMD m), 11, 7⟩
def F.DEV_MDIO_CMD.DATA (m : Nat) : Fld := ⟨(Reg.DEV_MDIO_CMD m), 31, 16⟩
def Reg.DEV_MDIO_STATUS (m : Nat) : Nat := 0x404 + 0x10 * (m % 4)
def F.DEV_MDIO_STATUS.RDATA (m : Nat) : Fld := ⟨(Reg.DEV_MDIO_STATUS m), 15, 0⟩
def F.DEV_MDIO_STATUS.BUSY (m : Nat) : Fld := ⟨(Reg.DEV_MDIO_STATUS m), 16, 16⟩
def Reg.DEV_MDIO_CFG (m : Nat) : Nat := 0x408 + 0x10 * (m % 4)
def F.DEV_MDIO_CFG.DIV (m : Nat) : Fld := ⟨(Reg.DEV_MDIO_CFG m), 7, 0⟩
def Reg.DEV_FLASH_CMD : Nat := 0x500
def F.DEV_FLASH_CMD.OP : Fld := ⟨Reg.DEV_FLASH_CMD, 2, 0⟩
def F.DEV_FLASH_CMD.LEN : Fld := ⟨Reg.DEV_FLASH_CMD, 15, 3⟩
def F.DEV_FLASH_CMD.KEY : Fld := ⟨Reg.DEV_FLASH_CMD, 31, 16⟩
def Reg.DEV_FLASH_ADDR : Nat := 0x504
def F.DEV_FLASH_ADDR.ADDR : Fld := ⟨Reg.DEV_FLASH_ADDR, 31, 0⟩
def Reg.DEV_FLASH_STATUS : Nat := 0x508
def F.DEV_FLASH_STATUS.BUSY : Fld := ⟨Reg.DEV_FLASH_STATUS, 0, 0⟩
def F.DEV_FLASH_STATUS.RESULT : Fld := ⟨Reg.DEV_FLASH_STATUS, 2, 1⟩
def Reg.DEV_FLASH_INFO : Nat := 0x50C
def F.DEV_FLASH_INFO.SIZE_MIB : Fld := ⟨Reg.DEV_FLASH_INFO, 31, 0⟩
def Reg.DEV_FLASH_BUF (i : Nat) : Nat := 0x600 + 0x4 * (i % 64)
def F.DEV_FLASH_BUF.DATA (i : Nat) : Fld := ⟨(Reg.DEV_FLASH_BUF i), 31, 0⟩
def Reg.DEV_JTAG : Nat := 0x700
def F.DEV_JTAG.IR : Fld := ⟨Reg.DEV_JTAG, 7, 0⟩
def F.DEV_JTAG.REFUSED : Fld := ⟨Reg.DEV_JTAG, 8, 8⟩
def Reg.DEV_HTX_BASE_LO : Nat := 0x800
def F.DEV_HTX_BASE_LO.ADDR : Fld := ⟨Reg.DEV_HTX_BASE_LO, 31, 12⟩
def Reg.DEV_HTX_BASE_HI : Nat := 0x804
def F.DEV_HTX_BASE_HI.ADDR : Fld := ⟨Reg.DEV_HTX_BASE_HI, 31, 0⟩
def Reg.DEV_HTX_COUNT : Nat := 0x808
def F.DEV_HTX_COUNT.N : Fld := ⟨Reg.DEV_HTX_COUNT, 12, 0⟩
def Reg.DEV_HRX_BASE_LO : Nat := 0x840
def F.DEV_HRX_BASE_LO.ADDR : Fld := ⟨Reg.DEV_HRX_BASE_LO, 31, 12⟩
def Reg.DEV_HRX_BASE_HI : Nat := 0x844
def F.DEV_HRX_BASE_HI.ADDR : Fld := ⟨Reg.DEV_HRX_BASE_HI, 31, 0⟩
def Reg.DEV_HRX_COUNT : Nat := 0x848
def F.DEV_HRX_COUNT.N : Fld := ⟨Reg.DEV_HRX_COUNT, 12, 0⟩
def Reg.DEV_HTX_TAIL : Nat := 0x80C
def F.DEV_HTX_TAIL.IDX : Fld := ⟨Reg.DEV_HTX_TAIL, 11, 0⟩
def Reg.DEV_HTX_HEAD : Nat := 0x810
def F.DEV_HTX_HEAD.IDX : Fld := ⟨Reg.DEV_HTX_HEAD, 11, 0⟩
def Reg.DEV_HTX_CTRL : Nat := 0x814
def F.DEV_HTX_CTRL.EN : Fld := ⟨Reg.DEV_HTX_CTRL, 0, 0⟩
def Reg.DEV_HRX_TAIL : Nat := 0x84C
def F.DEV_HRX_TAIL.IDX : Fld := ⟨Reg.DEV_HRX_TAIL, 11, 0⟩
def Reg.DEV_HRX_HEAD : Nat := 0x850
def F.DEV_HRX_HEAD.IDX : Fld := ⟨Reg.DEV_HRX_HEAD, 11, 0⟩
def Reg.DEV_HRX_CTRL : Nat := 0x854
def F.DEV_HRX_CTRL.EN : Fld := ⟨Reg.DEV_HRX_CTRL, 0, 0⟩
def Reg.DEV_HI_CNT (n : Nat) : Nat := 0x900 + 0x8 * (n % 6)
def F.DEV_HI_CNT.COUNT (n : Nat) : Fld := ⟨(Reg.DEV_HI_CNT n), 63, 0⟩
def Reg.SP_POP (w : Nat) : Nat := 0x600000 + 0x4 * (w % 4)
def F.SP_POP.DATA (w : Nat) : Fld := ⟨(Reg.SP_POP w), 31, 0⟩
def Reg.SP_STATUS : Nat := 0x600010
def F.SP_STATUS.OCC : Fld := ⟨Reg.SP_STATUS, 31, 0⟩
def Reg.SP_CREDIT (n : Nat) : Nat := 0x600020 + 0x4 * (n % 4)
def F.SP_CREDIT.HOST (n : Nat) : Fld := ⟨(Reg.SP_CREDIT n), 6, 0⟩
def F.SP_CREDIT.PROD (n : Nat) : Fld := ⟨(Reg.SP_CREDIT n), 14, 8⟩
def F.SP_CREDIT.GRANT (n : Nat) : Fld := ⟨(Reg.SP_CREDIT n), 22, 16⟩
def F.SP_CREDIT.RECALL (n : Nat) : Fld := ⟨(Reg.SP_CREDIT n), 31, 31⟩
def Reg.SP_PEND : Nat := 0x600040
def F.SP_PEND.PEND : Fld := ⟨Reg.SP_PEND, 27, 1⟩
def Reg.SP_LOST_CNT (s : Nat) : Nat := 0x600100 + 0x8 * (s % 29)
def F.SP_LOST_CNT.COUNT (s : Nat) : Fld := ⟨(Reg.SP_LOST_CNT s), 63, 0⟩
def Reg.PF_SEL (n : Nat) : Nat := 0xB00100 + 0x4 * (n % 64)
def F.PF_SEL.EVENT (n : Nat) : Fld := ⟨(Reg.PF_SEL n), 11, 0⟩
def F.PF_SEL.INST (n : Nat) : Fld := ⟨(Reg.PF_SEL n), 23, 16⟩
def Reg.PF_CNT (n : Nat) : Nat := 0xB00200 + 0x8 * (n % 64)
def F.PF_CNT.COUNT (n : Nat) : Fld := ⟨(Reg.PF_CNT n), 47, 0⟩
def F.PF_CNT.OVF (n : Nat) : Fld := ⟨(Reg.PF_CNT n), 63, 63⟩
def Reg.PF_USER_LO : Nat := 0xB00400
def F.PF_USER_LO.USER : Fld := ⟨Reg.PF_USER_LO, 31, 0⟩
def Reg.PF_USER_HI : Nat := 0xB00404
def F.PF_USER_HI.USER : Fld := ⟨Reg.PF_USER_HI, 31, 0⟩
def Reg.PF_DUMP_ADDR_LO : Nat := 0xB00500
def F.PF_DUMP_ADDR_LO.ADDR : Fld := ⟨Reg.PF_DUMP_ADDR_LO, 31, 6⟩
def Reg.PF_DUMP_ADDR_HI : Nat := 0xB00504
def F.PF_DUMP_ADDR_HI.ADDR : Fld := ⟨Reg.PF_DUMP_ADDR_HI, 31, 0⟩
def Reg.PF_DUMP_COUNT : Nat := 0xB00508
def F.PF_DUMP_COUNT.N : Fld := ⟨Reg.PF_DUMP_COUNT, 16, 0⟩
def Reg.PF_DUMP_PERIOD : Nat := 0xB0050C
def F.PF_DUMP_PERIOD.US : Fld := ⟨Reg.PF_DUMP_PERIOD, 19, 0⟩
def Reg.PF_DUMP_CTRL : Nat := 0xB00510
def F.PF_DUMP_CTRL.EN : Fld := ⟨Reg.PF_DUMP_CTRL, 0, 0⟩
def Reg.PF_DUMP_STATUS : Nat := 0xB00514
def F.PF_DUMP_STATUS.SEQ : Fld := ⟨Reg.PF_DUMP_STATUS, 15, 0⟩
def F.PF_DUMP_STATUS.MISSED : Fld := ⟨Reg.PF_DUMP_STATUS, 31, 16⟩
def Reg.PH_SQ_USER (i : Nat) : Nat := 0x400060 + 0x4 * (i % 8)
def F.PH_SQ_USER.USER (i : Nat) : Fld := ⟨(Reg.PH_SQ_USER i), 31, 0⟩
def Reg.PRT_GROUP_MASK (p : Nat) : Nat := 0x200FF00 + 0x10000 * (p % 256)
def F.PRT_GROUP_MASK.MASK (p : Nat) : Fld := ⟨(Reg.PRT_GROUP_MASK p), 7, 0⟩
def Reg.LN_GROUP_MASK (l : Nat) : Nat := 0x3003F00 + 0x4000 * (l % 256)
def F.LN_GROUP_MASK.MASK (l : Nat) : Fld := ⟨(Reg.LN_GROUP_MASK l), 7, 0⟩
def Reg.DEV_TEMP : Nat := 0xA00
def F.DEV_TEMP.TJ_MAX : Fld := ⟨Reg.DEV_TEMP, 11, 0⟩
def F.DEV_TEMP.SENSOR : Fld := ⟨Reg.DEV_TEMP, 14, 12⟩
def F.DEV_TEMP.VALID : Fld := ⟨Reg.DEV_TEMP, 31, 31⟩
def Reg.DEV_TEMP_MEM : Nat := 0xA04
def F.DEV_TEMP_MEM.STACK : Fld := ⟨Reg.DEV_TEMP_MEM, 31, 0⟩
def Reg.DEV_TEMP_FLAGS : Nat := 0xA08
def F.DEV_TEMP_FLAGS.TJ_HIGH : Fld := ⟨Reg.DEV_TEMP_FLAGS, 0, 0⟩
def F.DEV_TEMP_FLAGS.MEM_HOT : Fld := ⟨Reg.DEV_TEMP_FLAGS, 4, 1⟩
def F.DEV_TEMP_FLAGS.MEM_OVER : Fld := ⟨Reg.DEV_TEMP_FLAGS, 8, 5⟩
def F.DEV_TEMP_FLAGS.REFRESH_2X : Fld := ⟨Reg.DEV_TEMP_FLAGS, 12, 9⟩
def Reg.DEV_PWR_STATUS : Nat := 0xA10
def F.DEV_PWR_STATUS.PG_AON : Fld := ⟨Reg.DEV_PWR_STATUS, 0, 0⟩
def F.DEV_PWR_STATUS.PG_CORE : Fld := ⟨Reg.DEV_PWR_STATUS, 1, 1⟩
def F.DEV_PWR_STATUS.PG_MEM : Fld := ⟨Reg.DEV_PWR_STATUS, 2, 2⟩
def F.DEV_PWR_STATUS.IN_RANGE : Fld := ⟨Reg.DEV_PWR_STATUS, 10, 4⟩
def Reg.DEV_PWR_FLAGS : Nat := 0xA14
def F.DEV_PWR_FLAGS.UNDER : Fld := ⟨Reg.DEV_PWR_FLAGS, 6, 0⟩
def F.DEV_PWR_FLAGS.OVER : Fld := ⟨Reg.DEV_PWR_FLAGS, 14, 8⟩

/-- ERR_STATUS of the block or instance whose registers begin at `base` (R374). -/
def Reg.ERR_STATUS (base : Nat) : Nat := base + 0xF0
def Reg.ERR_OFS (base : Nat) : Nat := base + 0xF4
def F.ERR_STATUS.CODE (base : Nat) : Fld := ⟨Reg.ERR_STATUS base, 7, 0⟩
def F.ERR_STATUS.OVF (base : Nat) : Fld := ⟨Reg.ERR_STATUS base, 15, 8⟩
def F.ERR_STATUS.WR (base : Nat) : Fld := ⟨Reg.ERR_STATUS base, 16, 16⟩
def F.ERR_STATUS.ALIAS (base : Nat) : Fld := ⟨Reg.ERR_STATUS base, 17, 17⟩
def F.ERR_STATUS.BAR2 (base : Nat) : Fld := ⟨Reg.ERR_STATUS base, 18, 18⟩
def F.ERR_OFS.OFS (base : Nat) : Fld := ⟨Reg.ERR_OFS base, 25, 0⟩

/-! ## Bases (Table 14.2, Table 14.3) -/


def Base.DEV : Nat := 0x0
def Base.IMG : Nat := 0x100000
def Base.KT : Nat := 0x200000
def Base.VN : Nat := 0x300000
def Base.PH : Nat := 0x400000
def Base.PIN : Nat := 0x500000
def Base.SP : Nat := 0x600000
def Base.ST : Nat := 0x700000
def Base.BPM : Nat := 0x800000
def Base.FAB : Nat := 0x900000
def Base.CD : Nat := 0xA00000
def Base.PF : Nat := 0xB00000
def Base.SLC (s : Nat) : Nat := 0x1000000 + 0x400000 * (s % 4)
def Base.PRT (p : Nat) : Nat := 0x2000000 + 0x10000 * (p % 256)
def Base.LN (l : Nat) : Nat := 0x3000000 + 0x4000 * (l % 256)
def Base.TW (w : Nat) : Nat := 0x3400000 + 0x1000 * (w % 4)

/-! ## Values after power-on reset -/

/-- POR value of the device-level register at BAR0 offset `x` (the POR column of its card). -/
def Reg.porBlock (x : Nat) : Reg64 :=
  if x = 0x100 then 0xB2 else -- DEV_MODE
  if x = 0x114 then 0x1 else -- DEV_RST_CAUSE
  if x = 0x120 then 0x1930000 else -- DEV_WAKE_CFG
  if x = 0x200000 then 0x8 else -- KT_TB_STATUS
  if 0x201000 ≤ x ∧ x < 0x201800 ∧ (x - 0x201000) % 0x100 = 0 then 0xFF00 else -- KT_DOM_CFG
  if 0x400010 ≤ x ∧ x < 0x400024 ∧ (x - 0x400010) % 0x4 = 0 then 0xFF0000 else -- PH_ROT_STATUS
  if 0x410010 ≤ x ∧ x < 0x417290 ∧ (x - 0x410010) % 0x80 = 0 then 0x40 else -- PH_SQ_CREDIT
  if x = 0x300010 then 0xF0FF0 else -- VN_STATUS
  if 0x301000 ≤ x ∧ x < 0x301160 ∧ (x - 0x301000) % 0x20 = 0 then 0xFF else -- VN_CAND_CFG
  if 0x301004 ≤ x ∧ x < 0x301164 ∧ (x - 0x301004) % 0x20 = 0 then 0xF07 else -- VN_CAND_STATUS
  if 0x301008 ≤ x ∧ x < 0x301168 ∧ (x - 0x301008) % 0x20 = 0 then 0x80000000 else -- VN_CAND_FREQ
  if x = 0x0 then 0x7192 else -- DEV_ID
  if 0x240 ≤ x ∧ x < 0x278 ∧ (x - 0x240) % 0x4 = 0 then BitVec.ofNat 64 ((x - 0x240) / 4) else -- DEV_IRQ_VEC
  if 0x408 ≤ x ∧ x < 0x448 ∧ (x - 0x408) % 0x10 = 0 then 0x32 else -- DEV_MDIO_CFG
  if x = 0x700 then 0x1 else -- DEV_JTAG
  if 0x600020 ≤ x ∧ x < 0x600030 ∧ (x - 0x600020) % 0x4 = 0 then 0x40 else -- SP_CREDIT
  if 0x8000 ≤ x ∧ x < 0x8400 ∧ (x - 0x8000) % 0x10 = 0xC then 0x1 else -- MSI-X vector control
  0

/-- POR value of the slice-space register at offset `x` of its slice. -/
def Reg.porSlice (x : Nat) : Reg64 :=
  if x = 0x214 then 0x2 else -- SLC_FENCE
  0

/-- POR value of the port-space register at offset `x` of its port. -/
def Reg.porPort (x : Nat) : Reg64 :=
  if x = 0x1010 then 0xFF else -- PRT_LT_CFG
  if x = 0x1118 then 0xFF000000 else -- PRT_GCL_STATUS
  if x = 0x4040 then 0x8 else -- PRT_TT_STATUS
  0

/-- POR value of the lane-space register at offset `x` of its lane. -/
def Reg.porLane (x : Nat) : Reg64 :=
  if x = 0x8 then 0x3 else -- LN_STATUS
  if x = 0x20 then 0x7000 else -- LN_TRUNK_STATUS
  0

/-- POR value of the register at BAR0 offset `a`; fuse-held fields are read from the fuses and stand here as zero. -/
def Reg.por (a : Nat) : Reg64 :=
  if a < 0x1000000 then Reg.porBlock a
  else if a < 0x2000000 then Reg.porSlice ((a - 0x1000000) % 0x400000)
  else if a < 0x3000000 then Reg.porPort ((a - 0x2000000) % 0x10000)
  else if a < 0x3400000 then Reg.porLane ((a - 0x3000000) % 0x4000)
  else 0

/-! ## Access masks -/

def cards.block0 : List Card :=
  [ ⟨0x100, 4, [], 0x0, 0x0, 0x0, 0xFFFFF808⟩,
    ⟨0x104, 4, [], 0x0, 0x0, 0x7, 0xFFFFFFF8⟩,
    ⟨0x108, 4, [], 0x0, 0x0, 0x0, 0xFFFF0000⟩,
    ⟨0x110, 4, [], 0x0, 0x0, 0xFFFF010F, 0xFEF0⟩,
    ⟨0x114, 4, [], 0x0, 0xF, 0x0, 0xFFFFFFF0⟩,
    ⟨0x120, 4, [], 0xFFFFFFF, 0x0, 0x0, 0xF0000000⟩,
    ⟨0x124, 4, [], 0x0, 0x1030FFF, 0x0, 0xFEFCF000⟩,
    ⟨0x130, 4, [], 0x0, 0x13F, 0x0, 0xFFFFFEC0⟩,
    ⟨0x134, 4, [], 0x3, 0x0, 0x0, 0xFFFFFFFC⟩,
    ⟨0x100000, 4, [], 0x0, 0x0, 0x7, 0xFFFFFFF8⟩,
    ⟨0x100004, 4, [], 0x0, 0x0, 0x0, 0xFFF80008⟩,
    ⟨0x100008, 4, [], 0x0, 0x0, 0x0, 0xFFFC0000⟩,
    ⟨0x10000C, 4, [], 0x0, 0x0, 0x0, 0x0⟩,
    ⟨0x100010, 4, [], 0xFFFFFFF8, 0x0, 0x0, 0x7⟩,
    ⟨0x100014, 4, [], 0xFFFFFFFF, 0x0, 0x0, 0x0⟩,
    ⟨0x100018, 4, [], 0x3FFFFFF, 0x0, 0x0, 0xFC000000⟩,
    ⟨0x100020, 4, [], 0x0, 0x0, 0x0, 0xFFF80000⟩,
    ⟨0x100030, 4, [], 0x0, 0x0, 0x0, 0x0⟩,
    ⟨0x100034, 4, [], 0x0, 0x0, 0x0, 0x0⟩,
    ⟨0x100040, 4, [(0x8, 0, 3)], 0x0, 0x0, 0x0, 0x0⟩,
    ⟨0x100044, 4, [(0x8, 0, 3)], 0x0, 0x0, 0x0, 0x0⟩,
    ⟨0x100080, 4, [(0x4, 0, 7)], 0x0, 0x0, 0x0, 0x0⟩,
    ⟨0x800000, 4, [(0x4, 0, 4)], 0x0, 0x0, 0x0, 0xFF000000⟩,
    ⟨0x800020, 4, [(0x4, 0, 4)], 0x0, 0x0, 0x0, 0xFF000000⟩,
    ⟨0x800040, 4, [(0x4, 0, 4)], 0x0, 0x0, 0x0, 0xFF000000⟩,
    ⟨0x800060, 4, [], 0x0, 0x0, 0x0, 0xF800F800⟩,
    ⟨0x800064, 4, [], 0x0, 0x0, 0x0, 0xFF000000⟩,
    ⟨0x800070, 4, [], 0x0, 0x0, 0x1, 0xFFFFFFFE⟩,
    ⟨0x800080, 4, [], 0x0, 0x0, 0xFFFFFFFF, 0x0⟩,
    ⟨0x800090, 4, [], 0x0, 0x0, 0x0, 0x0⟩,
    ⟨0x800094, 4, [], 0x0, 0x0, 0x0, 0x0⟩,
    ⟨0x800100, 8, [(0x8, 0, 13)], 0x0, 0x0, 0x0, 0x0⟩,
    ⟨0x900000, 4, [], 0x3FFF, 0x0, 0x0, 0xFFFFC000⟩,
    ⟨0x900010, 4, [(0x4, 0, 3)], 0x0, 0x0, 0x0, 0x80808080⟩,
    ⟨0x900040, 4, [], 0x1FFF, 0x0, 0x0, 0xFFFFE000⟩,
    ⟨0x900044, 4, [], 0x0, 0x0, 0x0, 0xFF000000⟩,
    ⟨0x900048, 4, [], 0x0, 0x0, 0x0, 0xFFF00000⟩,
    ⟨0x900100, 8, [(0x8, 0, 9)], 0x0, 0x0, 0x0, 0x0⟩,
    ⟨0x900200, 4, [], 0x3FF, 0x0, 0x0, 0xFFFFFC00⟩,
    ⟨0x900204, 4, [], 0x80FF7F1F, 0x0, 0x0, 0x7F0080E0⟩ ]
def cards.block1 : List Card :=
  [ ⟨0x900208, 4, [], 0xFFFF, 0x0, 0x0, 0xFFFF0000⟩,
    ⟨0x90020C, 4, [], 0x0, 0x0, 0x3, 0xFFFFFFFC⟩,
    ⟨0x900300, 8, [(0x8, 0, 7)], 0x0, 0x0, 0x0, 0x0⟩,
    ⟨0x200000, 4, [], 0x0, 0x0, 0x0, 0xFFFFE0E0⟩,
    ⟨0x200004, 4, [], 0x0, 0x3, 0x0, 0xFFFFFFFC⟩,
    ⟨0x200008, 4, [], 0x0, 0x0, 0x0, 0x80000000⟩,
    ⟨0x200010, 4, [], 0x0, 0x0, 0x0, 0xFFFFF000⟩,
    ⟨0x200014, 4, [], 0x0, 0x3FF, 0x0, 0xFFFFFC00⟩,
    ⟨0x200020, 4, [], 0x0, 0x0, 0x7, 0xFFFFFFF8⟩,
    ⟨0x200024, 4, [], 0x0, 0x0, 0x0, 0xFFFFFFE0⟩,
    ⟨0x200028, 4, [], 0x0, 0x0, 0x0, 0x0⟩,
    ⟨0x200030, 4, [], 0x0, 0x0, 0x1, 0xFFFFFFFE⟩,
    ⟨0x200034, 4, [], 0x1F, 0x0, 0x0, 0xFFFFFFE0⟩,
    ⟨0x200038, 4, [], 0x0, 0x3F, 0x0, 0xFFFFFFC0⟩,
    ⟨0x200040, 4, [], 0x0, 0x0, 0x0, 0xC0000000⟩,
    ⟨0x200044, 4, [], 0x0, 0x0, 0x0, 0xFFFF0000⟩,
    ⟨0x200048, 4, [], 0x0, 0x0, 0x0, 0x0⟩,
    ⟨0x20004C, 4, [], 0x0, 0x0, 0x0, 0xFFFF0000⟩,
    ⟨0x200100, 8, [(0x8, 0, 10)], 0x0, 0x0, 0x0, 0x0⟩,
    ⟨0x200400, 4, [(0x10, 0, 7)], 0x37, 0x0, 0x0, 0xFFFFFFC8⟩,
    ⟨0x200404, 4, [(0x10, 0, 7)], 0xFFFFFFFF, 0x0, 0x0, 0x0⟩,
    ⟨0x200408, 4, [(0x10, 0, 7)], 0xFFFF, 0x0, 0x0, 0xFFFF0000⟩,
    ⟨0x200480, 4, [], 0x0, 0xFF, 0x0, 0xFFFFFF00⟩,
    ⟨0x200500, 4, [(0x8, 0, 3)], 0x0, 0x0, 0x3, 0xFFFFFFFC⟩,
    ⟨0x200504, 4, [(0x8, 0, 3)], 0x0, 0x0, 0x0, 0xFFFFFFF8⟩,
    ⟨0x201000, 4, [(0x100, 0, 7)], 0x0, 0x0, 0x0, 0xFFFF008C⟩,
    ⟨0x201004, 4, [(0x100, 0, 7)], 0x0, 0x0, 0x0, 0xFFFFFFC0⟩,
    ⟨0x201008, 4, [(0x100, 0, 7)], 0x0, 0x1F, 0x0, 0xFFFFFFE0⟩,
    ⟨0x20100C, 4, [(0x100, 0, 7)], 0xFFFFFFFF, 0x0, 0x0, 0x0⟩,
    ⟨0x201010, 4, [(0x100, 0, 7)], 0xFFFFFFFF, 0x0, 0x0, 0x0⟩,
    ⟨0x201014, 4, [(0x100, 0, 7)], 0xFFFFF, 0x0, 0x0, 0xFFF00000⟩,
    ⟨0x201018, 4, [(0x100, 0, 7)], 0x1, 0x0, 0x0, 0xFFFFFFFE⟩,
    ⟨0x201020, 4, [(0x100, 0, 7)], 0xFFFFFFFF, 0x0, 0x0, 0x0⟩,
    ⟨0x201024, 4, [(0x100, 0, 7)], 0xFFFFFF, 0x0, 0x0, 0xFF000000⟩,
    ⟨0x201028, 4, [(0x100, 0, 7)], 0x0, 0x0, 0x0, 0x0⟩,
    ⟨0x201030, 4, [(0x100, 0, 7)], 0x0, 0x0, 0xFFFFFFFF, 0x0⟩,
    ⟨0x201034, 4, [(0x100, 0, 7)], 0x0, 0x0, 0xFFFFFFFF, 0x0⟩,
    ⟨0x201038, 4, [(0x100, 0, 7)], 0x0, 0x0, 0x11F0000, 0xFCE0E0E0⟩,
    ⟨0x201040, 4, [(0x100, 0, 7)], 0x0, 0x0, 0x0, 0x0⟩,
    ⟨0x201044, 4, [(0x100, 0, 7)], 0x0, 0x0, 0x0, 0x0⟩ ]
def cards.block2 : List Card :=
  [ ⟨0x201080, 8, [(0x100, 0, 7), (0x8, 0, 9)], 0x0, 0x0, 0x0, 0x0⟩,
    ⟨0x400000, 4, [], 0x0, 0x0, 0xFF, 0xFFFFFF00⟩,
    ⟨0x400010, 4, [(0x4, 0, 4)], 0x0, 0x0, 0x0, 0xFF00F880⟩,
    ⟨0x400030, 4, [(0x4, 0, 3)], 0x0, 0x0, 0x0, 0x0⟩,
    ⟨0x400040, 4, [], 0x0, 0x0, 0x0, 0x0⟩,
    ⟨0x400044, 4, [], 0x0, 0x0, 0x0, 0x0⟩,
    ⟨0x400048, 4, [], 0x0, 0x0, 0x0, 0xFFFFFFE0⟩,
    ⟨0x400100, 4, [(0x20, 0, 4)], 0x3FFF01FF, 0x0, 0x80000000, 0x4000FE00⟩,
    ⟨0x400104, 4, [(0x20, 0, 4)], 0xFFFFFFFF, 0x0, 0x0, 0x0⟩,
    ⟨0x400108, 4, [(0x20, 0, 4)], 0x0, 0x2, 0x0, 0xFFFFFFF0⟩,
    ⟨0x400110, 8, [(0x20, 0, 4)], 0x0, 0x0, 0x0, 0x0⟩,
    ⟨0x400118, 8, [(0x20, 0, 4)], 0x0, 0x0, 0x0, 0x0⟩,
    ⟨0x40010C, 4, [(0x20, 0, 4)], 0x0, 0x0, 0x0, 0x0⟩,
    ⟨0x410000, 4, [(0x80, 0, 228)], 0x0, 0x0, 0x0, 0xFFFFFFF8⟩,
    ⟨0x410004, 4, [(0x80, 0, 228)], 0x0, 0x3F, 0x0, 0xFFFFFFC0⟩,
    ⟨0x410008, 4, [(0x80, 0, 228)], 0x0, 0x0, 0x0, 0xFC00FC00⟩,
    ⟨0x41000C, 4, [(0x80, 0, 228)], 0xFF, 0x0, 0x0, 0xFFFFFF00⟩,
    ⟨0x410010, 4, [(0x80, 0, 228)], 0x0, 0x0, 0xFF000000, 0x808080⟩,
    ⟨0x410020, 4, [(0x80, 0, 228), (0x4, 0, 3)], 0x0, 0x0, 0x0, 0x0⟩,
    ⟨0x410040, 8, [(0x80, 0, 228), (0x8, 0, 6)], 0x0, 0x0, 0x0, 0x0⟩,
    ⟨0x500100, 4, [(0x4, 0, 31)], 0x7F6, 0x0, 0x0, 0xFFFFF808⟩,
    ⟨0x500180, 4, [], 0x0, 0x0, 0x0, 0x0⟩,
    ⟨0x501000, 4, [(0x40, 0, 31)], 0xFFFFFFFF, 0x0, 0x0, 0x0⟩,
    ⟨0x501004, 4, [(0x40, 0, 31)], 0xFFFFFFFF, 0x0, 0x0, 0x0⟩,
    ⟨0x501008, 4, [(0x40, 0, 31)], 0xFFFF, 0x0, 0x0, 0xFFFF0000⟩,
    ⟨0x50100C, 4, [(0x40, 0, 31)], 0x7FFFFFFF, 0x0, 0x0, 0x80000000⟩,
    ⟨0x501010, 4, [(0x40, 0, 31)], 0xFFFF, 0x0, 0x0, 0xFFFF0000⟩,
    ⟨0x501014, 4, [(0x40, 0, 31)], 0x7FFFFFFF, 0x0, 0x0, 0x80000000⟩,
    ⟨0x501018, 4, [(0x40, 0, 31)], 0xFFFFFFFF, 0x0, 0x0, 0x0⟩,
    ⟨0x50101C, 4, [(0x40, 0, 31)], 0xFFFFFFFF, 0x0, 0x0, 0x0⟩,
    ⟨0x501020, 4, [(0x40, 0, 31)], 0xFF, 0x0, 0x0, 0xFFFFFF00⟩,
    ⟨0x501024, 4, [(0x40, 0, 31)], 0x0, 0x0, 0x3, 0xFFFFFFFC⟩,
    ⟨0x501028, 4, [(0x40, 0, 31)], 0x0, 0x4, 0x0, 0xFFFFFF00⟩,
    ⟨0x501030, 8, [(0x40, 0, 31)], 0x0, 0x0, 0x0, 0x0⟩,
    ⟨0x502000, 4, [(0x10, 0, 7)], 0x1FFFFFFF, 0x0, 0x0, 0xE0000000⟩,
    ⟨0x502004, 4, [(0x10, 0, 7)], 0x1, 0x0, 0x0, 0xFFFFFFFE⟩,
    ⟨0x502008, 4, [(0x10, 0, 7)], 0x0, 0x0, 0x0, 0xFFFFFFF8⟩,
    ⟨0x502100, 4, [], 0x0, 0xFFFF, 0x0, 0xFFFF0000⟩,
    ⟨0x300000, 4, [], 0x0, 0x0, 0x0, 0x0⟩,
    ⟨0x300004, 4, [], 0x0, 0x0, 0x0, 0xFE00FC00⟩ ]
def cards.block3 : List Card :=
  [ ⟨0x300010, 4, [], 0x0, 0x0, 0x0, 0xFFF0C00C⟩,
    ⟨0x300014, 4, [], 0x0, 0x1F, 0x0, 0xFFFFFFE0⟩,
    ⟨0x300020, 4, [], 0x0, 0x0, 0x0, 0x0⟩,
    ⟨0x300024, 4, [], 0x0, 0x0, 0x0, 0x0⟩,
    ⟨0x300028, 4, [], 0x0, 0x0, 0x0, 0x0⟩,
    ⟨0x300100, 8, [(0x8, 0, 7)], 0x0, 0x0, 0x0, 0x0⟩,
    ⟨0x301000, 4, [(0x20, 0, 10)], 0x0, 0x0, 0x0, 0xFFE00000⟩,
    ⟨0x301004, 4, [(0x20, 0, 10)], 0x0, 0x0, 0x0, 0xFC00F0E0⟩,
    ⟨0x301008, 4, [(0x20, 0, 10)], 0x0, 0x0, 0x0, 0x0⟩,
    ⟨0x30100C, 4, [(0x20, 0, 10)], 0x0, 0x1F, 0x0, 0xFFFFFFE0⟩,
    ⟨0xA00100, 4, [], 0xFFFFFFC0, 0x0, 0x0, 0x3F⟩,
    ⟨0xA00104, 4, [], 0xFFFFFFFF, 0x0, 0x0, 0x0⟩,
    ⟨0xA00108, 4, [], 0x7, 0x0, 0x0, 0xFFFFFFF8⟩,
    ⟨0xA0010C, 4, [], 0xFFFF, 0x0, 0x0, 0xFFFF0000⟩,
    ⟨0xA00110, 4, [], 0x1FFFF, 0x0, 0x0, 0xFFFE0000⟩,
    ⟨0xA00114, 4, [], 0x0, 0x0, 0x3, 0xFFFFFFFC⟩,
    ⟨0xA00118, 4, [], 0x0, 0x0, 0x0, 0xFFFC0000⟩,
    ⟨0xA0011C, 4, [], 0x0, 0x0, 0x0, 0xFFFF0000⟩,
    ⟨0xA01000, 4, [(0x100, 0, 7)], 0x170000, 0x0, 0x0, 0xFFE80000⟩,
    ⟨0xA01004, 4, [(0x100, 0, 7)], 0x7FFFFFF, 0x0, 0x0, 0xF8000000⟩,
    ⟨0xA01008, 4, [(0x100, 0, 7)], 0x7FFFFFF, 0x0, 0x0, 0xF8000000⟩,
    ⟨0xA0100C, 4, [(0x100, 0, 7)], 0xFFFFFFFF, 0x0, 0x0, 0x0⟩,
    ⟨0xA01010, 4, [(0x100, 0, 7)], 0x1FFFF, 0x0, 0x0, 0xFFFE0000⟩,
    ⟨0xA01014, 4, [(0x100, 0, 7)], 0x0, 0x0, 0x3, 0xFFFFFFFC⟩,
    ⟨0xA01018, 4, [(0x100, 0, 7)], 0x0, 0x0, 0x0, 0xFFFFFF00⟩,
    ⟨0xA0101C, 4, [(0x100, 0, 7)], 0x0, 0x0, 0x0, 0xFFFF00F8⟩,
    ⟨0xA01020, 4, [(0x100, 0, 7)], 0x0, 0x0, 0x0, 0xC0000000⟩,
    ⟨0xA01024, 4, [(0x100, 0, 7)], 0x0, 0x0, 0x0, 0xFFFF0000⟩,
    ⟨0xA01028, 4, [(0x100, 0, 7)], 0x0, 0x0, 0x0, 0x0⟩,
    ⟨0xA0102C, 4, [(0x100, 0, 7)], 0x0, 0x0, 0x0, 0xFFFF0000⟩,
    ⟨0xA01030, 4, [(0x100, 0, 7)], 0x0, 0x0, 0x0, 0x0⟩,
    ⟨0xA01034, 4, [(0x100, 0, 7)], 0x0, 0x0, 0x0, 0x0⟩,
    ⟨0xA01038, 4, [(0x100, 0, 7)], 0x0, 0x0, 0x0, 0x0⟩,
    ⟨0xA01080, 8, [(0x100, 0, 7), (0x8, 0, 7)], 0x0, 0x0, 0x0, 0x0⟩,
    ⟨0xA02000, 4, [(0x100, 0, 7)], 0xFFFF3FF7, 0x0, 0x0, 0xC008⟩,
    ⟨0xA02004, 4, [(0x100, 0, 7)], 0xFF01FFFF, 0x0, 0x0, 0xFE0000⟩,
    ⟨0xA02008, 4, [(0x100, 0, 7)], 0x3FFF, 0x0, 0x0, 0xFFFFC000⟩,
    ⟨0xA0200C, 4, [(0x100, 0, 7)], 0x3FFFFFFF, 0x0, 0x0, 0xC0000000⟩,
    ⟨0xA02010, 4, [(0x100, 0, 7)], 0xFFFF, 0x0, 0x0, 0xFFFF0000⟩,
    ⟨0xA02014, 4, [(0x100, 0, 7)], 0xFFFFFFFF, 0x0, 0x0, 0x0⟩ ]
def cards.block4 : List Card :=
  [ ⟨0xA02018, 4, [(0x100, 0, 7)], 0xFFFF, 0x0, 0x0, 0xFFFF0000⟩,
    ⟨0xA0201C, 4, [(0x100, 0, 7)], 0x0, 0x0, 0x3, 0xFFFFFFFC⟩,
    ⟨0xA02020, 4, [(0x100, 0, 7)], 0x0, 0x0, 0x0, 0xFFFC00F8⟩,
    ⟨0xA02024, 4, [(0x100, 0, 7)], 0x0, 0x0, 0x0, 0x0⟩,
    ⟨0xA02080, 8, [(0x100, 0, 7), (0x8, 0, 3)], 0x0, 0x0, 0x0, 0x0⟩,
    ⟨0x700000, 4, [], 0x0, 0x0, 0x0, 0xFFFFFFFC⟩,
    ⟨0x700010, 4, [], 0x0, 0xFFFF, 0x0, 0xFFFF0000⟩,
    ⟨0x701000, 4, [(0x40, 0, 7)], 0x1FF, 0x0, 0x0, 0xFFFFFE00⟩,
    ⟨0x701004, 4, [(0x40, 0, 7)], 0xFFFFFFFF, 0x0, 0x0, 0x0⟩,
    ⟨0x701008, 4, [(0x40, 0, 7)], 0x7, 0x0, 0x0, 0xFFFFFFF8⟩,
    ⟨0x70100C, 4, [(0x40, 0, 7)], 0x7FFFFFF, 0x0, 0x0, 0xF8000000⟩,
    ⟨0x701010, 4, [(0x40, 0, 7)], 0xFFFFFFFF, 0x0, 0x0, 0x0⟩,
    ⟨0x701014, 4, [(0x40, 0, 7)], 0x3FFFFF, 0x0, 0x0, 0xFFC00000⟩,
    ⟨0x701018, 4, [(0x40, 0, 7)], 0x0, 0x0, 0x3, 0xFFFFFFFC⟩,
    ⟨0x70101C, 4, [(0x40, 0, 7)], 0x0, 0x0, 0x0, 0xFFC80000⟩,
    ⟨0x701020, 4, [(0x40, 0, 7)], 0x0, 0x0, 0x0, 0x0⟩,
    ⟨0x701024, 4, [(0x40, 0, 7)], 0xFFFFFFFF, 0x0, 0x0, 0x0⟩,
    ⟨0x701028, 4, [(0x40, 0, 7)], 0x0, 0x1F, 0x0, 0xFFFFFFE0⟩,
    ⟨0x700100, 8, [(0x10, 0, 8), (0x8, 0, 1)], 0x0, 0x0, 0x0, 0x0⟩,
    ⟨0x700200, 4, [(0x4, 0, 8)], 0x0, 0x0, 0x0, 0x0⟩,
    ⟨0x700240, 4, [(0x4, 0, 8)], 0x0, 0x0, 0x0, 0xFFFF0000⟩,
    ⟨0x700300, 8, [(0x8, 0, 9)], 0x0, 0x0, 0x0, 0x0⟩,
    ⟨0x0, 4, [], 0x0, 0x0, 0x0, 0xFEF00000⟩,
    ⟨0x200, 4, [], 0x0, 0x3FFF, 0x0, 0xFFFFC000⟩,
    ⟨0x204, 4, [], 0x3FFF, 0x0, 0x0, 0xFFFFC000⟩,
    ⟨0x208, 4, [], 0x3FFF, 0x0, 0x0, 0xFFFFC000⟩,
    ⟨0x240, 4, [(0x4, 0, 13)], 0x3F, 0x0, 0x0, 0xFFFFFFC0⟩,
    ⟨0x300, 4, [], 0x0, 0x0, 0x0, 0xFFC00000⟩,
    ⟨0x310, 4, [(0x4, 0, 5)], 0x0, 0x0, 0x0, 0x0⟩,
    ⟨0x330, 4, [(0x4, 0, 5)], 0x0, 0x0, 0x0, 0x0⟩,
    ⟨0x400, 4, [(0x10, 0, 3)], 0x0, 0x0, 0xFFFF0FFF, 0xF000⟩,
    ⟨0x404, 4, [(0x10, 0, 3)], 0x0, 0x0, 0x0, 0xFFFE0000⟩,
    ⟨0x408, 4, [(0x10, 0, 3)], 0xFF, 0x0, 0x0, 0xFFFFFF00⟩,
    ⟨0x500, 4, [], 0x0, 0x0, 0xFFFFFFFF, 0x0⟩,
    ⟨0x504, 4, [], 0xFFFFFFFF, 0x0, 0x0, 0x0⟩,
    ⟨0x508, 4, [], 0x0, 0x0, 0x0, 0xFFFFFFF8⟩,
    ⟨0x50C, 4, [], 0x0, 0x0, 0x0, 0x0⟩,
    ⟨0x600, 4, [(0x4, 0, 63)], 0xFFFFFFFF, 0x0, 0x0, 0x0⟩,
    ⟨0x700, 4, [], 0x0, 0x100, 0x0, 0xFFFFFE00⟩,
    ⟨0x800, 4, [], 0xFFFFF000, 0x0, 0x0, 0xFFF⟩ ]
def cards.block5 : List Card :=
  [ ⟨0x804, 4, [], 0xFFFFFFFF, 0x0, 0x0, 0x0⟩,
    ⟨0x808, 4, [], 0x1FFF, 0x0, 0x0, 0xFFFFE000⟩,
    ⟨0x840, 4, [], 0xFFFFF000, 0x0, 0x0, 0xFFF⟩,
    ⟨0x844, 4, [], 0xFFFFFFFF, 0x0, 0x0, 0x0⟩,
    ⟨0x848, 4, [], 0x1FFF, 0x0, 0x0, 0xFFFFE000⟩,
    ⟨0x80C, 4, [], 0xFFF, 0x0, 0x0, 0xFFFFF000⟩,
    ⟨0x810, 4, [], 0x0, 0x0, 0x0, 0xFFFFF000⟩,
    ⟨0x814, 4, [], 0x1, 0x0, 0x0, 0xFFFFFFFE⟩,
    ⟨0x84C, 4, [], 0xFFF, 0x0, 0x0, 0xFFFFF000⟩,
    ⟨0x850, 4, [], 0x0, 0x0, 0x0, 0xFFFFF000⟩,
    ⟨0x854, 4, [], 0x1, 0x0, 0x0, 0xFFFFFFFE⟩,
    ⟨0x900, 8, [(0x8, 0, 5)], 0x0, 0x0, 0x0, 0x0⟩,
    ⟨0x600000, 4, [(0x4, 0, 3)], 0x0, 0x0, 0x0, 0x0⟩,
    ⟨0x600010, 4, [], 0x0, 0x0, 0x0, 0x80808080⟩,
    ⟨0x600020, 4, [(0x4, 0, 3)], 0x0, 0x0, 0x807F0000, 0x7F808080⟩,
    ⟨0x600040, 4, [], 0x0, 0xFFFFFFE, 0x0, 0xF0000001⟩,
    ⟨0x600100, 8, [(0x8, 1, 27)], 0x0, 0x0, 0x0, 0x0⟩,
    ⟨0xB00100, 4, [(0x4, 0, 63)], 0xFF0FFF, 0x0, 0x0, 0xFF00F000⟩,
    ⟨0xB00200, 8, [(0x8, 0, 63)], 0x0, 0x0, 0x0, 0x7FFF000000000000⟩,
    ⟨0xB00400, 4, [], 0xFFFFFFFF, 0x0, 0x0, 0x0⟩,
    ⟨0xB00404, 4, [], 0xFFFFFFFF, 0x0, 0x0, 0x0⟩,
    ⟨0xB00500, 4, [], 0xFFFFFFC0, 0x0, 0x0, 0x3F⟩,
    ⟨0xB00504, 4, [], 0xFFFFFFFF, 0x0, 0x0, 0x0⟩,
    ⟨0xB00508, 4, [], 0x1FFFF, 0x0, 0x0, 0xFFFE0000⟩,
    ⟨0xB0050C, 4, [], 0xFFFFF, 0x0, 0x0, 0xFFF00000⟩,
    ⟨0xB00510, 4, [], 0x1, 0x0, 0x0, 0xFFFFFFFE⟩,
    ⟨0xB00514, 4, [], 0x0, 0x0, 0x0, 0x0⟩,
    ⟨0x400060, 4, [(0x4, 0, 7)], 0xFFFFFFFF, 0x0, 0x0, 0x0⟩,
    ⟨0xA00, 4, [], 0x0, 0x0, 0x0, 0x7FFF8000⟩,
    ⟨0xA04, 4, [], 0x0, 0x0, 0x0, 0x0⟩,
    ⟨0xA08, 4, [], 0x0, 0x1FF, 0x0, 0xFFFFE000⟩,
    ⟨0xA10, 4, [], 0x0, 0x0, 0x0, 0xFFFFF808⟩,
    ⟨0xA14, 4, [], 0x0, 0x7F7F, 0x0, 0xFFFF8080⟩,
    ⟨0xF0, 4, [], 0x0, 0x0, 0x80000000, 0x7FF80000⟩,
    ⟨0xF4, 4, [], 0x0, 0x0, 0x0, 0xFC000000⟩,
    ⟨0x1000F0, 4, [], 0x0, 0x0, 0x80000000, 0x7FF80000⟩,
    ⟨0x1000F4, 4, [], 0x0, 0x0, 0x0, 0xFC000000⟩,
    ⟨0x2000F0, 4, [], 0x0, 0x0, 0x80000000, 0x7FF80000⟩,
    ⟨0x2000F4, 4, [], 0x0, 0x0, 0x0, 0xFC000000⟩,
    ⟨0x3000F0, 4, [], 0x0, 0x0, 0x80000000, 0x7FF80000⟩ ]
def cards.block6 : List Card :=
  [ ⟨0x3000F4, 4, [], 0x0, 0x0, 0x0, 0xFC000000⟩,
    ⟨0x4000F0, 4, [], 0x0, 0x0, 0x80000000, 0x7FF80000⟩,
    ⟨0x4000F4, 4, [], 0x0, 0x0, 0x0, 0xFC000000⟩,
    ⟨0x5000F0, 4, [], 0x0, 0x0, 0x80000000, 0x7FF80000⟩,
    ⟨0x5000F4, 4, [], 0x0, 0x0, 0x0, 0xFC000000⟩,
    ⟨0x6000F0, 4, [], 0x0, 0x0, 0x80000000, 0x7FF80000⟩,
    ⟨0x6000F4, 4, [], 0x0, 0x0, 0x0, 0xFC000000⟩,
    ⟨0x7000F0, 4, [], 0x0, 0x0, 0x80000000, 0x7FF80000⟩,
    ⟨0x7000F4, 4, [], 0x0, 0x0, 0x0, 0xFC000000⟩,
    ⟨0x8000F0, 4, [], 0x0, 0x0, 0x80000000, 0x7FF80000⟩,
    ⟨0x8000F4, 4, [], 0x0, 0x0, 0x0, 0xFC000000⟩,
    ⟨0x9000F0, 4, [], 0x0, 0x0, 0x80000000, 0x7FF80000⟩,
    ⟨0x9000F4, 4, [], 0x0, 0x0, 0x0, 0xFC000000⟩,
    ⟨0xA000F0, 4, [], 0x0, 0x0, 0x80000000, 0x7FF80000⟩,
    ⟨0xA000F4, 4, [], 0x0, 0x0, 0x0, 0xFC000000⟩,
    ⟨0xB000F0, 4, [], 0x0, 0x0, 0x80000000, 0x7FF80000⟩,
    ⟨0xB000F4, 4, [], 0x0, 0x0, 0x0, 0xFC000000⟩ ]
/-- The register cards of the device-level blocks space. -/
def cards.block : List Card := cards.block0 ++ cards.block1 ++ cards.block2 ++ cards.block3 ++ cards.block4 ++ cards.block5 ++ cards.block6

def cards.slice0 : List Card :=
  [ ⟨0x200, 4, [], 0x3, 0x0, 0x0, 0xFFFFFFFC⟩,
    ⟨0x204, 4, [], 0xFFF, 0x0, 0x0, 0xFFFFF000⟩,
    ⟨0x208, 4, [], 0x0, 0x0, 0x0, 0x0⟩,
    ⟨0x210, 4, [], 0x0, 0x0, 0x0, 0x0⟩,
    ⟨0x214, 4, [], 0x4, 0x0, 0x1, 0xFFFFFFF8⟩,
    ⟨0x218, 4, [], 0x0, 0x0, 0x0, 0x0⟩,
    ⟨0x220, 4, [], 0x0, 0x0, 0x0, 0xFFF00000⟩,
    ⟨0x400, 8, [(0x8, 0, 15)], 0x0, 0x0, 0x0, 0x0⟩,
    ⟨0x1000, 4, [(0x4, 1, 255)], 0x80FFFFFF, 0x0, 0x0, 0x7F000000⟩,
    ⟨0xF0, 4, [], 0x0, 0x0, 0x80000000, 0x7FF80000⟩,
    ⟨0xF4, 4, [], 0x0, 0x0, 0x0, 0xFC000000⟩ ]
/-- The register cards of slice space. -/
def cards.slice : List Card := cards.slice0

def cards.port0 : List Card :=
  [ ⟨0x0, 4, [], 0x3, 0x0, 0x100, 0xFFFFFE8C⟩,
    ⟨0x200, 8, [(0x8, 0, 6)], 0x0, 0x0, 0x0, 0x0⟩,
    ⟨0x280, 8, [(0x8, 0, 8)], 0x0, 0x0, 0x0, 0x0⟩,
    ⟨0x1000, 4, [], 0xFFFFFF, 0x0, 0x0, 0xFF000000⟩,
    ⟨0x1004, 4, [], 0x0, 0x0, 0x0, 0xFFFF0000⟩,
    ⟨0x1010, 4, [], 0x0, 0x0, 0x0, 0xFFFFFF00⟩,
    ⟨0x1014, 4, [], 0x1FFFFF, 0x0, 0x0, 0xFFE00000⟩,
    ⟨0x1018, 4, [], 0xFFFFF, 0x0, 0x0, 0xFFF00000⟩,
    ⟨0x101C, 4, [], 0x0, 0x0, 0x0, 0xFFFFF800⟩,
    ⟨0x1020, 4, [], 0x0, 0x0, 0x0, 0x0⟩,
    ⟨0x1040, 4, [(0x4, 0, 7)], 0x87FFFFFF, 0x0, 0x0, 0x78000000⟩,
    ⟨0x1100, 4, [], 0x0, 0x0, 0x7, 0xFFFFFFF8⟩,
    ⟨0x1104, 4, [], 0x3FFFFFFF, 0x0, 0x0, 0xC0000000⟩,
    ⟨0x1108, 4, [], 0x7FF, 0x0, 0x0, 0xFFFFF800⟩,
    ⟨0x110C, 4, [], 0x3FFFFFFF, 0x0, 0x0, 0xC0000000⟩,
    ⟨0x1110, 4, [], 0xFFFFFFFF, 0x0, 0x0, 0x0⟩,
    ⟨0x1114, 4, [], 0xFFFF, 0x0, 0x0, 0xFFFF0000⟩,
    ⟨0x1118, 4, [], 0x0, 0x0, 0x0, 0xFC00F8⟩,
    ⟨0x111C, 4, [], 0x0, 0x0, 0x0, 0x0⟩,
    ⟨0x2000, 4, [(0x4, 0, 1023)], 0xFFFFFFFF, 0x0, 0x0, 0x0⟩,
    ⟨0x3000, 4, [(0x4, 0, 1023)], 0xFFFFFFFF, 0x0, 0x0, 0x0⟩,
    ⟨0x300, 8, [(0x8, 0, 15)], 0x0, 0x0, 0x0, 0x0⟩,
    ⟨0x4000, 4, [], 0xFFFFFF, 0x0, 0x0, 0xF8000000⟩,
    ⟨0x4004, 4, [], 0xFFFFFFFF, 0x0, 0x0, 0x0⟩,
    ⟨0x4008, 4, [], 0xFFFFFFFF, 0x0, 0x0, 0x0⟩,
    ⟨0x400C, 4, [], 0xFFFFFFFF, 0x0, 0x0, 0x0⟩,
    ⟨0x4010, 4, [], 0xFFFFFFFF, 0x0, 0x0, 0x0⟩,
    ⟨0x4014, 4, [], 0xFFFFFFFF, 0x0, 0x0, 0x0⟩,
    ⟨0x4018, 4, [], 0x1FFFF, 0x0, 0x0, 0xFFFE0000⟩,
    ⟨0x4020, 4, [], 0xFFFFFFFF, 0x0, 0x0, 0x0⟩,
    ⟨0x4024, 4, [], 0xFFFF, 0x0, 0x0, 0xFFFF0000⟩,
    ⟨0x4028, 4, [], 0xFFFFFFFF, 0x0, 0x0, 0x0⟩,
    ⟨0x4030, 4, [], 0xFFFFFFFF, 0x0, 0x0, 0x0⟩,
    ⟨0x4034, 4, [], 0xFFFFFFFF, 0x0, 0x0, 0x0⟩,
    ⟨0x4038, 4, [], 0xFFFFFFFF, 0x0, 0x0, 0x0⟩,
    ⟨0x4040, 4, [], 0x0, 0x0, 0x0, 0xFFFFF800⟩,
    ⟨0x4044, 4, [], 0x0, 0x3F, 0x0, 0xFFFFFFC0⟩,
    ⟨0x4050, 4, [], 0x0, 0x0, 0x0, 0x0⟩,
    ⟨0x4054, 4, [], 0x0, 0x0, 0x0, 0x0⟩,
    ⟨0x4058, 4, [], 0x0, 0x0, 0x0, 0x0⟩ ]
def cards.port1 : List Card :=
  [ ⟨0x405C, 4, [], 0x0, 0x0, 0x0, 0x0⟩,
    ⟨0x4060, 4, [], 0x0, 0x0, 0x0, 0x0⟩,
    ⟨0x4100, 8, [(0x8, 0, 15)], 0x0, 0x0, 0x0, 0x0⟩,
    ⟨0xFF00, 4, [], 0xFF, 0x0, 0x0, 0xFFFFFF00⟩,
    ⟨0xF0, 4, [], 0x0, 0x0, 0x80000000, 0x7FF80000⟩,
    ⟨0xF4, 4, [], 0x0, 0x0, 0x0, 0xFC000000⟩ ]
/-- The register cards of port space. -/
def cards.port : List Card := cards.port0 ++ cards.port1

def cards.lane0 : List Card :=
  [ ⟨0x0, 4, [], 0x0, 0x0, 0x0, 0xFF0008C8⟩,
    ⟨0x4, 4, [], 0x1E, 0x0, 0x1, 0xFFFFFFE0⟩,
    ⟨0x8, 4, [], 0x0, 0x0, 0x0, 0xFFFFFFE0⟩,
    ⟨0xC, 4, [], 0x0, 0x3FF, 0x0, 0xFFFFFC00⟩,
    ⟨0x10, 4, [], 0x0, 0x0, 0x0, 0x7FFC0000⟩,
    ⟨0x20, 4, [], 0x0, 0x0, 0x0, 0xF00800⟩,
    ⟨0x24, 4, [], 0x0, 0x0, 0x3, 0xFFFFFFFC⟩,
    ⟨0x100, 8, [(0x8, 0, 15)], 0x0, 0x0, 0x0, 0x0⟩,
    ⟨0x3F00, 4, [], 0xFF, 0x0, 0x0, 0xFFFFFF00⟩,
    ⟨0xF0, 4, [], 0x0, 0x0, 0x80000000, 0x7FF80000⟩,
    ⟨0xF4, 4, [], 0x0, 0x0, 0x0, 0xFC000000⟩ ]
/-- The register cards of lane space. -/
def cards.lane : List Card := cards.lane0

def cards.window0 : List Card :=
  [ ⟨0x0, 4, [], 0x0, 0x0, 0x37, 0xFFFFFFC8⟩,
    ⟨0x4, 4, [], 0x0, 0x0, 0x0, 0xC00E⟩,
    ⟨0x8, 4, [], 0x3FFFF, 0x0, 0x0, 0xFFFC0000⟩,
    ⟨0x10, 4, [], 0xFFFFFFFF, 0x0, 0x0, 0x0⟩,
    ⟨0x14, 4, [], 0xFFFFFFF, 0x0, 0x0, 0xF0000000⟩,
    ⟨0x18, 4, [], 0xFFF, 0x0, 0x0, 0xFFF80000⟩,
    ⟨0x1C, 4, [], 0x7FFFFF, 0x0, 0x0, 0xFF800000⟩,
    ⟨0x40, 4, [(0x4, 0, 15)], 0xFFFFFFFF, 0x0, 0x0, 0x0⟩,
    ⟨0xF0, 4, [], 0x0, 0x0, 0x80000000, 0x7FF80000⟩,
    ⟨0xF4, 4, [], 0x0, 0x0, 0x0, 0xFC000000⟩ ]
/-- The register cards of table-window space. -/
def cards.window : List Card := cards.window0

/-- Whether offset `x` (relative to `ofs`) is that of an element of the index dimensions. -/
def Card.hits : List (Nat × Nat × Nat) → Nat → Bool
  | [], x => x == 0
  | (st, lo, hi) :: ds, x => decide (lo ≤ x / st) && decide (x / st ≤ hi) && Card.hits ds (x % st)

/-- The card that occupies offset `x` of a space, a counter's high double word included. -/
def Card.find (cs : List Card) (x : Nat) : Option Card :=
  cs.find? fun c => decide (c.ofs ≤ x) &&
    (Card.hits c.dims (x - c.ofs) || (c.bytes == 8 && decide (c.ofs + 4 ≤ x) && Card.hits c.dims (x - c.ofs - 4)))

end Sys2Proof.Machine
end

