-- ==== Sys2Proof/Machine/Types.lean ====
section
/-! DEFINITION. The types of the parts of the state that no register holds: queues, memories, engines and timers. All are plain
data. -/

namespace Sys2Proof.Machine

/-- A TIME96 value as a count of 2^-16 ns, modulo 2^48 s (R226). -/
abbrev Time16 := Nat

/-! ## Outside world -/

/-- What the world outside the device sees it do, newest first in `State.out`: the model's own record (log entry 5). -/
inductive Output where
  /-- A message write of an MSI-X vector (R379). -/
  | msix (vector addr data : Nat)
  /-- A DMA write to host memory. -/
  | dma (addr : Nat) (bytes : List Byte)
  /-- A frame on the line of a port, from the destination address through the FCS, and its stamp point in the port's domain. -/
  | frame (port : Nat) (bytes : List Byte) (stamp : Time16)
  /-- A frame whose transmission ended with an inverted FCS or was squelched. -/
  | frameCut (port : Nat)
  /-- A PFC frame sent (R205). -/
  | pfc (port : Nat) (enable quanta : Nat)
  /-- An edge of a pulse output: the instant at which it reaches the pin in 2^-16 ns of the output's domain, FINE in taps of 3.125 ps, and the
  tap of the delay line that places it (R300). -/
  | pulse (n : Nat) (level : Bool) (at16 : Time16) (fine : Int) (tap : Nat)
  /-- The pin of a pulse output changes without an edge of its program: a level, or none where the pin is released (R302, R303). -/
  | pulsePin (n : Nat) (level : Option Bool)
  /-- A Clause 45 frame on MDIO master m. -/
  | mdio (m op prtad devad data : Nat)
  /-- A flash operation: code, address, bytes. -/
  | flash (op addr : Nat) (bytes : List Byte)
  /-- Bits that a native trunk lane sends at its pins, first bit first (R94). -/
  | line (lane : Nat) (bits : List Bool)
  /-- Instruction register of the test access port. -/
  | tap (code : Nat)
  /-- The value that a host read returned. -/
  | read (bar2 : Bool) (ofs value : Nat)
  deriving DecidableEq, Repr

/-! ## Host interface -/

/-- A Spout entry (Table 14.6). -/
structure SpEntry where
  source : Nat
  inst : Nat
  arg : Nat
  time : Nat
  data : Nat
  deriving DecidableEq, Repr

/-- A Spout class (R383, R384): credits, source latches in the order of their codes, and the chain as (stage, entry), head first; whether the head
reached stage 0 in the present cycle, and the cycle of the last grant (counted from 1) with the credits granted in it (R397). -/
structure SpClass where
  host : Nat
  prod : Nat
  latches : List SpEntry
  stages : List (Nat × SpEntry)
  arrived : Bool
  granted : Nat × Nat
  deriving DecidableEq, Repr

/-- A class after LOAD: the host holds all 64 credits (R384). -/
def SpClass.fresh : SpClass := ⟨64, 0, [], [], false, (0, 0)⟩

/-- The interrupt logic (R379): the enabled OR of each vector, and the pending-bit array. -/
structure Irq where
  vecOr : Nat
  pba : Nat
  deriving DecidableEq, Repr

/-- The PCIe endpoint as the model sees it (R365, R366). -/
structure Pcie where
  linkUp : Bool
  bme : Bool
  msixEn : Bool
  funcMask : Bool
  deriving DecidableEq, Repr

/-- The host transmit ring: a descriptor fetched and not yet written back, with what became of its frame (R386). -/
structure HtxSlot where
  idx : Nat
  desc : TxDesc
  result : Nat
  stamp : Time16
  ended : Bool
  deriving DecidableEq, Repr

/-- The host rings, the counter dump, MDIO and flash engines; by counter, the cycle of the last PF_SEL write, counted from 1 (R391); and whether a
program or erase of before a soft reset still runs in the flash (R397). -/
structure HostIf where
  htx : List HtxSlot
  htxWrote : List Nat
  htxNext : Nat
  hrxSeq : Nat
  dumpSeq : Nat
  dumpMissedPrev : Bool
  mdioOp : SMap (Nat × Nat × Nat × Nat)
  flashOp : Nat
  flashLen : Nat
  flashKnown : Bool
  pfClr : SMap Nat
  flashTail : Bool
  deriving DecidableEq, Repr

/-! ## Kettle -/

/-- One domain in one Kettle channel (R227 to R229, R239, R242). `ctr` counts 2^-48 ns modulo 2^48 s; `inc` is the 56-bit increment;
`fi` is the exact integral term; `mem` holds the increments of the last updates in LOCKED or FOLLOW, newest first. -/
structure KtDom where
  ctr : Nat
  inc : Nat
  fi : Rat
  mem : List Nat
  deriving DecidableEq, Repr

/-- An entry of an offset feed (R236): the offset in 2^-16 ns, whether the host pushed it, and the cycle in which it was pushed (R238). -/
structure FeedEntry where
  ofs : Int
  host : Bool
  cycle : Nat
  deriving DecidableEq, Repr

/-- What a FREE domain holds once for all channels (R236 to R238, R243). -/
structure KtFeed where
  feed : List FeedEntry
  lo : Nat
  incLo : Nat
  run : Nat
  fed : Bool
  lost : Bool
  deriving DecidableEq, Repr

/-- The time base (R231): core cycles of the gates in the present mean, newest first, and the increment computed. -/
structure TimeBase where
  gates : List Nat
  inc : Option Nat
  deriving DecidableEq, Repr

/-- The forced-holdover test (R254): its domain, shadow start value, shadow increment and start cycle; whose turn is next; whether
a periodic test is due. -/
structure Fht where
  domain : Nat
  seed : Nat
  inc : Nat
  cycle : Nat
  turn : Nat
  due : Bool
  deriving DecidableEq, Repr

/-- A stretch of a domain's published time without a change of rate (R21, R22): its first core cycle, the value published then in 2^-48 ns, and
the increment of every cycle of it. -/
structure KtSeg where
  start : Nat
  value : Nat
  inc : Nat
  deriving DecidableEq, Repr

/-- The edge generators of the lead that a handover replaced (R253): the handover's cycle, and value and increment of each domain then. -/
structure KtOld where
  start : Nat
  vals : SMap (Nat × Nat)
  deriving DecidableEq, Repr

/-- The Kettle: channels A, B, C as (channel × 8 + domain), feeds, the time base, the forced-holdover test, capture sets as
(source × 8 + domain), the start cycle of each agreement timer, the old lead's generators and the cycle at which their overlap ends (R253), and
what each domain published in the cycles before the present one, newest first. -/
structure Kettle where
  ch : SMap KtDom
  feeds : SMap KtFeed
  tb : TimeBase
  fht : Fht
  cap : SMap Time16
  obs : SMap Nat
  old : KtOld
  overlapEnd : Nat
  hist : SMap (List KtSeg)
  deriving DecidableEq, Repr

/-- A domain that has not started. -/
def KtDom.fresh : KtDom := ⟨0, 0, 0, []⟩
def KtFeed.fresh : KtFeed := ⟨[], 0, 0, 0, false, false⟩
def Kettle.fresh : Kettle := ⟨SMap.empty, SMap.empty, ⟨[], none⟩, ⟨0, 0, 0, 0, 0, false⟩, SMap.empty, SMap.empty, ⟨0, SMap.empty⟩, 0,
  SMap.empty⟩

/-- One AON copy (R50): the value in 2^-48 ns and the increment added at every AON cycle, in 2^-48 ns; of a DERIVED domain instead the offset to
domain 0 in 2^-48 ns and the rate ratio in 2^-40. -/
structure AonCopy where
  ctr : Nat
  inc : Nat
  drv : Option (Int × Int)
  deriving DecidableEq, Repr

/-- The always-on domain (R50 to R56, R323): copies as (channel × 8 + domain), whether it holds time, Vane's retained word and
candidate bits, and what each domain published when the window of R51 began. -/
structure Aon where
  copies : SMap AonCopy
  holds : Bool
  clkAbsent : Bool
  steer : BitVec 32
  steerOk : Bool
  candBad : Nat
  win : SMap Nat
  deriving DecidableEq, Repr

def AonCopy.fresh : AonCopy := ⟨0, 0, none⟩
def Aon.fresh : Aon := ⟨SMap.empty, false, false, 0, false, 0, SMap.empty⟩

/-! ## Vane -/

/-- What Vane holds besides its registers: whether it has started, whether the running switch has lost its target (R322), the records of
the holdover memory, newest first (R323), the milliseconds left of each wait-to-restore (R314), the cycle since which each active candidate is active
(R313), the milliseconds since the offset of the running switch reached zero (R320), and the cycle of each candidate's last restoration (R329). -/
structure Vane where
  started : Bool
  abandoned : Bool
  recs : List (BitVec 32)
  wtr : SMap Nat
  since : SMap Nat
  flat : Nat
  restored : SMap Nat
  deriving DecidableEq, Repr

def Vane.fresh : Vane := ⟨false, false, [], SMap.empty, SMap.empty, 0, SMap.empty⟩

/-! ## The image -/

/-- What the applied image fixes and no register shows (Table 03.4, Table 03.7, Table 03.10, Table 03.11, Table 03.14); bit d of `domServo` is SERVO of domain d. -/
structure ImgCfg where
  acqLimitS : Nat
  acqThreshPs : Nat
  stepThreshNs : Nat
  spillGib : Nat
  domOffset : SMap Int
  domRatio : SMap Int
  domServo : Nat
  domSlew : SMap Nat
  logSync : SMap Int
  wakeLanes : List Nat
  defVlan : SMap Nat
  defPcp : SMap Nat
  deriving DecidableEq, Repr

def ImgCfg.fresh : ImgCfg := ⟨0, 0, 0, 0, SMap.empty, SMap.empty, 0, SMap.empty, SMap.empty, [], SMap.empty, SMap.empty⟩

/-- What the loader holds (R67, R81 to R85): the held image (empty before one is applied), whether it is copied into the shadow, the
staged partial image, how far its application is (0 not begun, 1 slice in RECONF, 2 tables filled, 3 check 15 failed), the serial that
Table 02.11, note 3 compares, and whether the slice of the partial image in fetch is still to be read from it. -/
structure Img where
  held : List Byte
  shadowed : Bool
  part : List Byte
  placed : Nat
  prevSerial : Nat
  anySlice : Bool
  deriving DecidableEq, Repr

def Img.fresh : Img := ⟨[], false, [], 0, 0, false⟩

/-- A Strainer engine in SCAN or WAIT (R351 to R353): the dirty bit, its copy d0, whether the running scan read a double-bit error, whether
its cells were refused, the cells it holds, the cycle in which the dirty bit was set, and the cycle in which a STOP ended its scan (R363). -/
structure StScan where
  dirty : Bool
  d0 : Bool
  ecc : Bool
  noBuf : Bool
  cells : List Nat
  dirtyAt : Option Nat
  stopAt : Option Nat
  deriving DecidableEq, Repr

def StScan.fresh : StScan := ⟨false, false, false, false, [], none, none⟩

/-! ## Caddy -/

/-- A record of a ring (Table 12.2): `bad` marks a double-bit error in the frame bytes, `hdrBad` one in the record header. -/
structure CdRecord where
  port : Nat
  domain : Nat
  gap : Bool
  stream : Nat
  rseq : Nat
  stamp : Time16
  rt : Nat
  bytes : List Byte
  bad : Bool
  hdrBad : Bool
  deriving DecidableEq, Repr

/-- A chunk of a ring (Table 12.1): its place in the ring, its sequence and its records, oldest first. -/
structure CdChunk where
  idx : Nat
  cseq : Nat
  recs : List CdRecord
  hdrBad : Bool
  deriving DecidableEq, Repr

/-- A ring (R330 to R338): ring time, chunks oldest first (the last is the one being written), the next sequence numbers, whether the
last record was dropped, the trigger's ring time, the ring time at which its history begins, the post counter and the protected
chunk, and the cycle in which the trigger was latched (R337). -/
structure CdRing where
  rt : Nat
  chunks : List CdChunk
  nextIdx : Nat
  cseq : Nat
  rseq : Nat
  gap : Bool
  trt : Nat
  thr : Nat
  post : Nat
  prot : Nat
  trigAt : Option Nat
  deriving DecidableEq, Repr

/-- A replay engine (R343, R344): position in the retained records, first stamp and domain, frames in flight, and whether the last
record has been read. -/
structure CdReplay where
  pos : Nat
  s0 : Option (Time16 × Nat)
  allRead : Bool
  deriving DecidableEq, Repr

/-- The Caddy: rings, the four staging memories (oldest first, each with its ring and its staged bytes), the writer's rotation, the
replay engines, and whether BREEZE or GALE has been entered since LOAD (R331). -/
structure Caddy where
  rings : SMap CdRing
  staging : SMap (List (Nat × CdRecord))
  turn : Nat
  replay : SMap CdReplay
  lived : Bool
  deriving DecidableEq, Repr

def CdRing.fresh : CdRing := ⟨0, [], 0, 0, 0, false, 0, 0, 0, 0, none⟩
def CdReplay.fresh : CdReplay := ⟨0, none, false⟩
def Caddy.fresh : Caddy := ⟨SMap.empty, SMap.empty, 0, SMap.empty, false⟩

/-! ## Phase meters and pins -/

/-- A transition that the glitch filter holds (R286): its stamp, domain and level, the edge selection and the cycle it was sampled under,
and whether the spare or a BAD channel measured it. -/
structure PhPend where
  stamp : Time16
  dom : Nat
  level : Bool
  edge : Nat
  cycle : Nat
  spare : Bool
  qbad : Bool
  deriving DecidableEq, Repr

/-- The last 16 measurements of a word clock, newest first (R285): the count of unit intervals and the time on the core clock in tenths
of 2^-16 ns. -/
structure PhFit where
  ui : Nat
  samples : List (Nat × Int)
  deriving DecidableEq, Repr

/-- A channel (R280 to R295): its linearisation table, failures of steps 4 and 5 in succession, SEQ, the cycle of its last stamped
transition, the step count of each domain at its last stamp, whether an event was skipped since the last entry, the queue (16-byte
entries as little-endian numbers, oldest first), the grant of one cycle, the transition in the filter, the two fits, the decimation count, and
the last write of the input's PIN_EVT_CFG as its cycle and the value before it (R298). -/
structure PhChan where
  lin : List Nat
  fails : Nat
  seq : Nat
  last : Option Nat
  seen : SMap Nat
  skip : Bool
  queue : List Nat
  grant : Nat × Nat
  pend : Option PhPend
  rx : PhFit
  tx : PhFit
  dec : Nat
  cfgWas : Nat × Nat
  deriving DecidableEq, Repr

/-- A rotation (R287 to R290): the position after the present one, a requested channel, the unit in its slot (a channel number, or 256
plus a pulse output), whether that unit is to be tried again, and the cycle up to which a held spare is away to measure the skew (R289). -/
structure PhRot where
  next : Nat
  req : Option Nat
  cur : Option Nat
  retry : Bool
  away : Nat
  deriving DecidableEq, Repr

/-- A running regression (R297): its channel and clock, the start cycle, the published time of the domain at which the gate closes, the step count
of the domain at the start, whether the input has changed, the index, and the samples, newest first. -/
structure PhFm where
  ch : Nat
  src : Nat
  start : Nat
  stop : Time16
  steps : Nat
  dom : Nat
  changed : Bool
  k : Nat
  samples : List (Nat × Time16)
  deriving DecidableEq, Repr

/-- A pulse program (R299 to R302): START as TIME96, the present slot, whether a pulse is out, whether STOP was written, and the FINE and
the delay-line table that the last leading edge took. -/
structure PlsProg where
  start : Time16
  slot : Nat
  high : Bool
  stop : Bool
  fine : Int
  tab : List Nat
  deriving DecidableEq, Repr

/-- Phase meters, regression engines, pulse programs, one more than the cycle in which the last program of an output ended, the measured delay-line
tables of the pulse outputs (none: nominal), and one more than the cycle of an output's last edge. -/
structure Phase where
  ch : SMap PhChan
  rot : SMap PhRot
  fm : SMap PhFm
  pls : SMap PlsProg
  plsEnd : SMap Nat
  plsTab : SMap (List Nat)
  plsLast : SMap Nat
  deriving DecidableEq, Repr

def PhFit.fresh : PhFit := ⟨0, []⟩
def PhChan.fresh : PhChan := ⟨[], 0, 0, none, SMap.empty, false, [], (0, 0), none, PhFit.fresh, PhFit.fresh, 0, (0, 0)⟩
def PhRot.fresh : PhRot := ⟨0, none, none, false, 0⟩
def Phase.fresh : Phase := ⟨SMap.empty, SMap.empty, SMap.empty, SMap.empty, SMap.empty, SMap.empty, SMap.empty⟩

/-- The calibration values in force (R307, R308): per lane the TX and RX delays and the equaliser bytes in mode order, per event input
and pulse output the delay, in 2^-16 ns. -/
structure Cal where
  lane : SMap (List (Int × Int))
  eq : SMap (List Byte)
  evt : SMap Int
  pls : SMap Int
  deriving DecidableEq, Repr

def Cal.fresh : Cal := ⟨SMap.empty, SMap.empty, SMap.empty, SMap.empty⟩

/-! ## Slices -/

/-- An FDB entry (R141, R142): the 60-bit key, which bank, bucket and REM give, and the fields of Table 05.10. -/
structure FdbEntry where
  key : Nat
  isStatic : Bool
  group : Bool
  dest : Nat
  deriving DecidableEq, Repr

/-- A learning request (R150 to R152): key and ingress port. -/
structure LearnReq where
  key : Nat
  port : Nat
  deriving DecidableEq, Repr

/-- A window command that has run and is to report (R162): whether the slice was ACTIVE, its result, the moves and whether the stash took the entry where it inserted,
and what it read: the key, the read fields of TW_FDB, and a record of `words` double words. -/
structure TwPend where
  active : Bool
  result : Nat
  ins : Option (Nat × Bool)
  key : Option Nat
  fdb : Option Nat
  data : Option (Nat × Nat)
  deriving DecidableEq, Repr

/-- The two buckets of a flow meter (R140), in 10^-7 bytes, and the cycle of their last refill. -/
structure Meter where
  c : Nat
  e : Nat
  cycle : Nat
  deriving DecidableEq, Repr

/-- The tables of a slice: FDB entries by raw slot, with stash entry i at FDB_ENTRIES + i; hit (1) and age (2) marks; the rotating pointer
of R144; stream entries and classifier records by index, as little-endian numbers; meters; the learning queue, oldest first; the
moves of this second; the window command that runs; the frames with copies left whose egress-side request has been raised (R151). -/
structure Slice where
  fdb : SMap FdbEntry
  marks : SMap Nat
  rotor : Nat
  streams : SMap Nat
  cls : SMap Nat
  meters : SMap Meter
  learn : List LearnReq
  moves : Nat
  tw : Option TwPend
  eseen : List Nat
  deriving DecidableEq, Repr

def Slice.fresh : Slice := ⟨SMap.empty, SMap.empty, 0, SMap.empty, SMap.empty, SMap.empty, [], 0, none, []⟩

/-! ## Frames, buffers, fabric and egress -/

/-- A frame with its descriptor (Table 06.7). `src` is 0 for a frame from the line, 1 from the host ring, 2 from a replay engine; `tag` is the
descriptor index or the engine; `bytes` run from the destination address through the FCS; `inPort` is 0xFF where no port received it;
`tagged` says that the first tag after the source address is one that R130 replaces; `flow` is the term F of R180; `launch` is NS32 with
its fraction; `entryMs` and `entry` are the millisecond count and the cycle of VOQ entry; `bufs` are the handles of its buffers. -/
structure Frame where
  id : Nat
  src : Nat
  tag : Nat
  bytes : List Byte
  inPort : Nat
  slice : Nat
  cls : Nat
  de : Bool
  vlan : Nat
  pcp : Nat
  tagged : Bool
  stream : Option Nat
  flow : Nat
  ver : Nat
  stamp : Time16
  launch : Option Nat
  entryMs : Nat
  entry : Nat
  bufs : List Nat
  deriving DecidableEq, Repr

/-- Landing cells of a copy (R171): how many came from the port's reserve, the shared part and the headroom, and their handles. -/
structure Landing where
  res : Nat
  shr : Nat
  hdr : Nat
  cells : List Nat
  deriving DecidableEq, Repr

/-- A copy of a frame on its way to one port: whether it is a multicast copy, its 802.1CB sequence number, whether its R-tag is removed, and its
landing cells. -/
structure Copy where
  fr : Frame
  multi : Bool
  rseq : Option Nat
  pop : Bool
  land : Landing
  deriving DecidableEq, Repr

/-- A match of R183: output, copy, the multicast frame it belongs to, cells sent, and, where its port has left meanwhile, whether the port's slice
was dark then. -/
structure Crossing where
  out : Nat
  copy : Copy
  mc : Option Nat
  sent : Nat
  dead : Option Bool
  deriving DecidableEq, Repr

/-- A unicast VOQ (R177): frames in SRAM, then the spilled segment with the P3 handle of each frame (none: it stayed in SRAM for want of a block),
and the bytes used of the last block. -/
structure Voq where
  sram : List Frame
  seg : List (Option Nat × Frame)
  fill : Nat
  deriving DecidableEq, Repr

/-- A multicast frame (R188, R189): the outputs whose copies are outstanding, those of them whose port has left UP and IDLE since, the copies that
cross, the entry epoch on each plane, and the sequence number drawn for it (R218). -/
structure McFrame where
  fr : Frame
  todo : List Nat
  dead : List Nat
  live : Nat
  e0 : SMap Nat
  rseq : Option Nat
  deriving DecidableEq, Repr

/-- The credit of a shaped class in bits, accounted for up to cycle `upTo` (R203), and the instant in core cycles until which the class transmits. -/
structure CbsCredit where
  bits : Rat
  upTo : Nat
  txTo : Rat
  deriving DecidableEq, Repr

/-- The running gate list (R200): bank, entries, cycle time in ns, the TIME96 at which the present cycle began, and the entry in effect. -/
structure GclRun where
  bank : Nat
  len : Nat
  cycle : Nat
  start : Time16
  idx : Nat
  deriving DecidableEq, Repr

/-- An armed switch (R201): to no list, or to a bank with its entry count and cycle time; and its instant. -/
structure GclPend where
  off : Bool
  bank : Nat
  len : Nat
  cycle : Nat
  at16 : Time16
  deriving DecidableEq, Repr

/-- The egress of a port (R195): class queues in landing order, the launch-time queue in launch order, credits, gate lists, the quanta of the
running pause of each class, and the classes whose pause watchdog is in BLOCKED (Table 07.1). -/
structure EgPort where
  q : SMap (List Copy)
  lt : List Copy
  cbs : SMap CbsCredit
  run : Option GclRun
  pend : Option GclPend
  quanta : SMap Nat
  blk : List Nat
  deriving DecidableEq, Repr

/-- An 802.1CB recovery function: the last sequence number taken, the history as a bit mask with bit 0 the newest, and whether any number is
taken. -/
structure FrerRecov where
  seq : Nat
  hist : Nat
  takeAny : Bool
  deriving DecidableEq, Repr

/-- An 802.1CB entry (R217): its two records, the generator's next number, its recovery and its eight counters. -/
structure FrerInst where
  cfg0 : Nat
  cfg1 : Nat
  gen : Nat
  recov : FrerRecov
  cnt : SMap Nat
  deriving DecidableEq, Repr

/-- The fabric: VOQs by (slice × 192 + n) × 8 + class; multicast queues of frame identities by (slice × 4 + plane) × 8 + class; multicast frames by
identity; residue stores by slice × 4 + plane, oldest first; crossings; grant pointers by output and accept pointers by slice × 4 + plane;
the epoch count; the owner tag of each allocated buffer by handle shifted right by 5; cells in use of P0 by port as (reserve, shared,
headroom); the buffers of the auditor's snapshot not seen so far; egress by port; FRER by number; the epochs left of a scheduler reset; the buffer pool manager's rotation pointer and, by pool, cycle and requester of its
last grant (R172); port and part of P0 of each landing cell, by buffer; and the residue timeout in force, in epochs (R191). -/
structure Fabric where
  voq : SMap Voq
  mcq : SMap (List Nat)
  mc : SMap McFrame
  res : SMap (List Nat)
  cross : List Crossing
  grantPtr : SMap Nat
  acceptPtr : SMap Nat
  epoch : Nat
  alloc : SMap Nat
  p0use : SMap (Nat × Nat × Nat)
  snap : List Nat
  eg : SMap EgPort
  frer : SMap FrerInst
  hold : Nat
  bpmPtr : Nat
  won : SMap (Nat × Nat)
  cell : SMap (Nat × Nat)
  resLim : Nat
  deriving DecidableEq, Repr

def Voq.fresh : Voq := ⟨[], [], 0⟩
def CbsCredit.fresh : CbsCredit := ⟨0, 0, 0⟩
def EgPort.fresh : EgPort := ⟨SMap.empty, [], SMap.empty, none, none, SMap.empty, []⟩
def FrerRecov.fresh : FrerRecov := ⟨0, 0, true⟩
def FrerInst.fresh : FrerInst := ⟨0, 0, 0, FrerRecov.fresh, SMap.empty⟩
def Fabric.fresh : Fabric :=
  ⟨SMap.empty, SMap.empty, SMap.empty, SMap.empty, [], SMap.empty, SMap.empty, 0, SMap.empty, SMap.empty, [], SMap.empty, SMap.empty, 0,
    0, SMap.empty, SMap.empty, 0⟩

/-! ## Trunks -/

/-- A run of line bits (R96): the last bit, and how many of it came in succession; none yet with 0. -/
structure LineRun where
  bit : Bool
  n : Nat
  deriving DecidableEq, Repr

/-- The transmitter of a trunk lane (Table 04.3): scrambler state, run of its line, SEQ of the last marker, position in the superframe (0: the marker
is next, 1: the pointer, k from 3 to 512: payload byte k - 1), the bytes left of the unit in progress, the units that wait, and the line bits it is
behind its baud rate, in 10^-7 bits. -/
structure TrTx where
  scr : Nat
  run : LineRun
  seq : Nat
  pos : Nat
  part : List Byte
  units : List (List Byte)
  credit : Int
  deriving DecidableEq, Repr

/-- The receiver of a trunk lane (R97 to R107): good markers in succession while it seeks alignment and bad ones while it is aligned, the previous
SEQ, whether the payload of this superframe is discarded (R95), the position of the next unit header or of the unit in progress,
counted in unit bytes from the start of this superframe (none: discarding up to the next pointer); RXA of the last good marker, and the last
message: its type, its argument and in how many consecutive good markers it came, at most 3 (R111); the descrambler state, the run of the line,
the descrambled bits of the unit in progress, and how many bits are left before its header. -/
structure TrRx where
  good : Nat
  bad : Nat
  seq : Option Nat
  skip : Bool
  pos : Option Int
  rxa : Bool
  msg : Nat × Nat × Nat
  scr : Nat
  run : LineRun
  buf : List Bool
  drop : Nat
  deriving DecidableEq, Repr

/-- A trunk (R111 to R119): own NONCE, the message sent (marker type and argument) and the markers it is still to stand in, target step, expiries
of the response timer in succession, step being trained, whether an own IDLE_REQ or IDLE_ACK was sent and the peer's received, whether an
exit from idle runs, the cycle before which no IDLE_REQ is sent again (R117), the next USEQ to send and to deliver, and the frames waiting for
reorder. -/
structure Trunk where
  nonce : Nat
  msg : Nat × Nat
  left : Nat
  target : Nat
  tries : Nat
  train : Nat
  idleTx : Bool
  idleRx : Bool
  exiting : Bool
  retry : Nat
  useqTx : Nat
  useqRx : Nat
  waiting : List (Nat × List Byte × Time16)
  deriving DecidableEq, Repr

def LineRun.fresh : LineRun := ⟨false, 0⟩
def TrTx.fresh : TrTx := ⟨0, LineRun.fresh, 0, 0, [], [], 0⟩
def TrRx.fresh : TrRx := ⟨0, 0, none, false, none, false, (0, 0, 0), 0, LineRun.fresh, [], 0⟩
def Trunk.fresh : Trunk := ⟨0, (0, 0), 0, 0, 0, 0, false, false, false, 0, 0, 0, []⟩

/-- Trunks by port, receivers and transmitters by lane. -/
structure Lines where
  trunk : SMap Trunk
  rx : SMap TrRx
  tx : SMap TrTx
  deriving DecidableEq, Repr

def Lines.fresh : Lines := ⟨SMap.empty, SMap.empty, SMap.empty⟩

/-! ## Timing engines -/

/-- An engine frame that waits for a frame boundary (R266): messageType, sequenceId, the requester that its follow-up names, and its bytes through the
FCS. -/
structure TtOut where
  kind : Nat
  seq : Nat
  reqClock : Nat
  reqPort : Nat
  bytes : List Byte
  deriving DecidableEq, Repr

/-- A follow-up that is due (R265): messageType and sequenceId of the message that has left, its requester, and its egress stamp. -/
structure TtFu where
  kind : Nat
  seq : Nat
  reqClock : Nat
  reqPort : Nat
  stamp : Time16
  deriving DecidableEq, Repr

/-- A two-step Sync that awaits its Follow_Up (R267): its source and sequenceId, ingress stamp, correctionField, and the step count of the domain. -/
structure TtSync where
  clock : Nat
  port : Nat
  seq : Nat
  t2 : Time16
  cf : Int
  steps : Nat
  deriving DecidableEq, Repr

/-- The latest request (R267, R268): messageType and sequenceId; its egress stamp and the step count then; t1 and t2 of the last Sync used before it, with
their step count; and of a Pdelay_Resp its t2' and its ingress stamp t4'. -/
structure TtReq where
  kind : Nat
  seq : Nat
  sent : Option (Time16 × Nat)
  sync : Option (Int × Time16 × Nat)
  resp : Option (Int × Time16)
  deriving DecidableEq, Repr

/-- The open window of a SLAVE trunk (R272): sums and counts of its marker offsets and of its Sync offsets, the step count of the first, and whether a
step lies inside. -/
structure TtWin where
  mSum : Int
  mCnt : Nat
  sSum : Int
  sCnt : Nat
  steps : Nat
  split : Bool
  deriving DecidableEq, Repr

/-- The timing engine of a port: frames that wait and follow-ups due, oldest first; the next sequenceId of each message kind; exchanges; the last Sync used;
the delay history, newest first, and the rejections in succession; the last exchanges of R268 as (t3', t4'), newest first; the last offset formed with its
cycle (R271); the window; the grid point of the last Sync with the cycle it was queued in (R264); and the cycle of the next request (R263). -/
structure TtEng where
  queue : List TtOut
  fus : List TtFu
  next : SMap Nat
  sync : Option TtSync
  used : Option (Int × Time16 × Nat)
  req : Option TtReq
  hist : List Rat
  rejects : Nat
  exch : List (Int × Time16)
  ref : Option (Int × Nat)
  win : TtWin
  grid : Option (Nat × Nat)
  reqAt : Nat
  deriving DecidableEq, Repr

def TtWin.fresh : TtWin := ⟨0, 0, 0, 0, 0, false⟩
def TtEng.fresh : TtEng := ⟨[], [], SMap.empty, none, none, none, [], 0, [], none, TtWin.fresh, none, 0⟩

/-! ## Device level -/

/-- The device-level state that no register shows: straps and reset pins, persistent fatal conditions, the STEEP conditions reached,
the progress of each transition, and the levels of OCXO_WARM_IN, PG_CORE and PG_MEM; `rails` marks the rails that were flagged; bit k of
`aliveArm` that the deadline of Strainer engine k runs (R354). -/
structure Dev where
  bootSel : Nat
  resetN : Bool
  perstN : Bool
  lockedLoad : Bool
  conds : Nat
  steepPlls : Bool
  skewOk : Nat
  acqExpired : Bool
  slcPhase : SMap Nat
  calmDrop : Bool
  calmMark : Nat
  loadHalted : Bool
  recov : Nat
  lullStep : Nat
  lullFrom : Nat
  wakeLatched : Bool
  wakeStep : Nat
  softHold : Bool
  fhtStarted : Bool
  ocxoWarm : Bool
  pgCore : Bool
  pgMem : Bool
  rails : Nat
  aliveArm : Nat
  deriving DecidableEq, Repr

end Sys2Proof.Machine
end

