-- ==== Sys2Proof/Machine/State.lean ====
section
/-! DEFINITION. The state of the device, its faults and refusals, and the state right after power-on reset. -/

namespace Sys2Proof.Machine

/-- Why a step stops. -/
inductive Fault where
  /-- Raised by every meaning whose command names a lane, port, slice, domain, engine or other unit that the device does not have (log
  entry 4). Safe: no such event exists. -/
  | noSuchInstance
  deriving DecidableEq, Repr

/-- Why a command is not run. -/
inductive Refusal where
  /-- Raised by the dispatcher for a command that has no meaning yet. Safe. -/
  | notModelled (mnemonic : String)
  deriving DecidableEq, Repr

/-- The whole device. `regs` holds every register of the cards by BAR0 offset; an offset that is not listed holds its POR value. `setNow`
lists by offset the W1C bits that the device has set in the present cycle (R7), and of an error register the last error of the cycle (R374). -/
structure State where
  regs : SMap Reg64
  cycle : Nat
  dev : Dev
  pcie : Pcie
  irq : Irq
  spout : SMap SpClass
  host : HostIf
  cfg : ImgCfg
  img : Img
  scans : SMap StScan
  kettle : Kettle
  aon : Aon
  vane : Vane
  caddy : Caddy
  phase : Phase
  cal : Cal
  slices : SMap Slice
  fab : Fabric
  lines : Lines
  tt : SMap TtEng
  setNow : SMap Nat
  freeCtr : Nat
  uid : Nat
  out : List Output
  pending : List Instr
  deriving DecidableEq, Repr

/-- The device right after power-on reset: in LOAD, every register at its POR value. -/
def State.reset : State where
  regs := SMap.empty
  cycle := 0
  dev := ⟨0, true, true, false, 0, false, 0, false, SMap.empty, false, 0, false, 0, 0, 0, false, 0, false, false, false, true, true, 0, 0⟩
  pcie := ⟨false, false, false, false⟩
  irq := ⟨0, 0⟩
  spout := SMap.empty
  host := ⟨[], [], 0, 0, 0, false, SMap.empty, 0, 0, false, SMap.empty, false⟩
  cfg := ImgCfg.fresh
  img := Img.fresh
  scans := SMap.empty
  kettle := Kettle.fresh
  aon := Aon.fresh
  vane := Vane.fresh
  caddy := Caddy.fresh
  phase := Phase.fresh
  cal := Cal.fresh
  slices := SMap.empty
  fab := Fabric.fresh
  lines := Lines.fresh
  tt := SMap.empty
  setNow := SMap.empty
  freeCtr := 0
  uid := 0
  out := []
  pending := []

end Sys2Proof.Machine
end

