-- ==== Sys2Proof/Machine/Ops.lean ====
section
/-! DEFINITION. The named operations over the register file, the free values, the record of outputs, and the published time. -/

namespace Sys2Proof.Machine

/-! ## Registers -/

/-- The stored value of the register at BAR0 offset `a`. -/
def State.rd (s : State) (a : Nat) : Reg64 := s.regs.getD a (Reg.por a)

/-- Store `v` in the register at BAR0 offset `a`. -/
def State.wr (s : State) (a : Nat) (v : Reg64) : State := { s with regs := s.regs.setD a v (Reg.por a) }

/-- The value of a field. -/
def State.fld (s : State) (f : Fld) : Nat := bitsOf (s.rd f.ofs) f.hi f.lo

/-- Give a field a value; the value's bits beyond the field's width are lost. -/
def State.setFld (s : State) (f : Fld) (v : Nat) : State := s.wr f.ofs (withBits (s.rd f.ofs) f.hi f.lo v)

/-- Bit `i` of a field. -/
def State.fldBit (s : State) (f : Fld) (i : Nat) : Bool := bitAt (s.fld f) i

/-- Set bit `i` of a field to `b`. -/
def State.setFldBit (s : State) (f : Fld) (i : Nat) (b : Bool) : State := s.setFld f (setBit (s.fld f) i b)

/-- Note that the device itself sets the bits `m` of the register at `a` in this cycle: a host write of 1 does not clear them (R7). -/
def State.noteSet (s : State) (a m : Nat) : State := { s with setNow := s.setNow.put a (s.setNow.getD a 0 ||| m) }

/-- The device sets a one-bit W1C field. -/
def State.flag (s : State) (f : Fld) : State := (s.setFld f 1).noteSet f.ofs (2 ^ f.lo)

/-- The device sets bit `i` of a W1C field. -/
def State.flagBit (s : State) (f : Fld) (i : Nat) : State := (s.setFldBit f i true).noteSet f.ofs (2 ^ (f.lo + i))

/-- The device sets the bits `m` of a W1C field. -/
def State.flagBits (s : State) (f : Fld) (m : Nat) : State := (s.setFld f (s.fld f ||| m)).noteSet f.ofs (m * 2 ^ f.lo)

/-- A field that saturates at its maximum counts `n` more. -/
def State.satAdd (s : State) (f : Fld) (n : Nat) : State := s.setFld f (min (s.fld f + n) (2 ^ (f.hi + 1 - f.lo) - 1))

/-- A field that wraps counts `n` more. -/
def State.wrapAdd (s : State) (f : Fld) (n : Nat) : State := s.setFld f (s.fld f + n)

/-- A 64-bit counter counts `n` events; it wraps at 2^64. -/
def State.countN (s : State) (a n : Nat) : State := s.wr a (s.rd a + BitVec.ofNat 64 n)

/-- A 64-bit counter counts one event. -/
def State.count (s : State) (a : Nat) : State := s.countN a 1

/-- A signed 64-bit value held in a LO and a HI register. -/
def State.setPair (s : State) (lo hi : Nat) (v : Int) : State :=
  let u := unsigned 64 v
  (s.wr lo (BitVec.ofNat 64 (u % 2 ^ 32))).wr hi (BitVec.ofNat 64 (u / 2 ^ 32))

/-- Return every register whose offset satisfies `p` to its POR value. -/
def State.porWhere (s : State) (p : Nat → Bool) : State := { s with regs := s.regs.filter fun a _ => !p a }

/-! ## Free values and outputs -/

/-- The next free value (log entry 3). -/
def State.freeVal (s : State) : Nat := (Config.freeValue s.freeCtr).toNat

/-- The state after a free value has been taken. -/
def State.tookFree (s : State) : State := { s with freeCtr := s.freeCtr + 1 }

/-- A real value rounded down or up: the spec does not say which, so a free value decides; an exact value stays (log entry 3). -/
def State.roundOpen (s : State) (q : Rat) : Int :=
  if q.den = 1 then q.num else q.floor + (if s.freeVal % 2 = 0 then 0 else 1)

/-- Record what the outside world sees. -/
def State.emit (s : State) (o : Output) : State := { s with out := o :: s.out }

/-! ## Modes, slices and ports -/

def Mode.OFF : Nat := 0
def Mode.LULL : Nat := 1
def Mode.LOAD : Nat := 2
def Mode.STEEP : Nat := 3
def Mode.BREEZE : Nat := 4
def Mode.GALE : Nat := 5
def Mode.CALM : Nat := 6
def Mode.PROBE : Nat := 7

/-- DEV_MODE.CUR (R32). -/
def State.mode (s : State) : Nat := s.fld F.DEV_MODE.CUR

/-- Whether a transition is in progress (R33). -/
def State.trans (s : State) : Bool := s.fld F.DEV_MODE.TRANS == 1

/-- Slice states (Table 02.5). -/
def Slc.DARK : Nat := 0
def Slc.ACTIVE : Nat := 1
def Slc.RECONF : Nat := 2
def Slc.FAULT : Nat := 3

/-- State field of slice `i` in DEV_SLC_STATE. -/
def F.slcState (i : Nat) : Fld := ⟨Reg.DEV_SLC_STATE, 2 * i + 1, 2 * i⟩

/-- State of slice `i` (R47). -/
def State.slc (s : State) (i : Nat) : Nat := s.fld (F.slcState i)

/-- Whether slice `i` is powered (R46, R420). -/
def State.powered (s : State) (i : Nat) : Bool := s.fldBit F.DEV_SLC_STATE.POWERED i

/-- The slice of a lane or port. -/
def sliceOf (l : Nat) : Nat := l / 48

/-- Whether slice `i` belongs to mode `m`: GALE and PROBE have all four, BREEZE the BREEZE set (R45, R46). -/
def State.inMode (s : State) (m i : Nat) : Bool := m != Mode.BREEZE || s.fldBit F.DEV_SLC_STATE.BREEZE_SET i

/-- Whether slice `i` works although CUR still reads CALM: an accepted request for GALE or BREEZE is in progress (R421). -/
def State.resuming (s : State) (i : Nat) : Bool :=
  let m := s.fld F.DEV_MODE.TARGET
  s.mode == Mode.CALM && s.trans && (m == Mode.BREEZE || m == Mode.GALE) && s.inMode m i

/-- LANE MODE of a lane (Table 03.6). -/
def State.laneMode (s : State) (l : Nat) : Nat := s.fld (F.LN_CFG.MODE l)

/-- Whether port number `p` is in use (R1 to R3). -/
def State.portUsed (s : State) (p : Nat) : Bool :=
  decide (p < 192) && s.laneMode p != 0 && s.fld (F.LN_CFG.PORT p) == p

/-- Whether a port is a four-lane port. -/
def State.fourLane (s : State) (p : Nat) : Bool := s.laneMode p == 4 || s.laneMode p == 6

/-- Whether a lane or port runs the native trunk code. -/
def State.isTrunk (s : State) (p : Nat) : Bool := s.laneMode p == 5 || s.laneMode p == 6

/-- The lanes of a port. -/
def State.portLanes (s : State) (p : Nat) : List Nat := if s.fourLane p then [p, p + 1, p + 2, p + 3] else [p]

/-- The port of a lane. -/
def State.lanePort (s : State) (l : Nat) : Nat := s.fld (F.LN_CFG.PORT l)

/-- The ports in use, rising. -/
def State.ports (s : State) : List Nat := (List.range 192).filter s.portUsed

/-- Oper states (Table 02.6). -/
def Oper.DISABLED : Nat := 0
def Oper.DOWN : Nat := 1
def Oper.TRAINING : Nat := 2
def Oper.UP : Nat := 3
def Oper.IDLE : Nat := 4
def Oper.LOOPBACK : Nat := 5

def State.oper (s : State) (p : Nat) : Nat := s.fld (F.PRT_STATE.OPER p)

/-- Whether a port forwards (R48). -/
def State.operUp (s : State) (p : Nat) : Bool := s.oper p == Oper.UP || s.oper p == Oper.IDLE

/-- The time domain of a port (R70). -/
def State.portDomain (s : State) (p : Nat) : Nat := s.fld (F.PRT_TT_CFG.DOMAIN p)

/-- Whether a domain is enabled (R229). -/
def State.domEnabled (s : State) (d : Nat) : Bool := decide (d < 8) && s.fld (F.KT_DOM_CFG.KIND d) != 0

/-- The enabled domains, rising. -/
def State.domains (s : State) : List Nat := (List.range 8).filter s.domEnabled

/-! ## Published time (R227, R249, R251) -/

/-- 2^-48 ns in a second. -/
def secUnits : Nat := 1000000000 * 2 ^ 48

/-- The modulus of a counter: 2^48 s in 2^-48 ns. -/
def ctrMod : Nat := 2 ^ 48 * secUnits

/-- The modulus of a TIME96 value in 2^-16 ns. -/
def t16Mod : Nat := 2 ^ 48 * (1000000000 * 2 ^ 16)

/-- The domain state of one Kettle channel. -/
def State.ktDom (s : State) (ch d : Nat) : KtDom := s.kettle.ch.getD (ch * 8 + d) KtDom.fresh

/-- Change the domain state of one Kettle channel. -/
def State.setKtDom (s : State) (ch d : Nat) (k : KtDom) : State :=
  { s with kettle := { s.kettle with ch := s.kettle.ch.setD (ch * 8 + d) k KtDom.fresh } }

/-- State of Kettle channel `ch`: 0 HEALTHY, 1 EXCLUDED, 2 OBSERVE (Table 08.3). -/
def F.chState (ch : Nat) : Fld := ⟨Reg.KT_CH_STATUS, 2 * ch + 1, 2 * ch⟩
def State.chState (s : State) (ch : Nat) : Nat := s.fld (F.chState ch)
def State.healthy (s : State) (ch : Nat) : Bool := s.chState ch == 0

/-- The lead channel (R252). -/
def State.lead (s : State) : Nat := s.fld F.KT_CH_STATUS.LEAD

/-- The middle of three numbers. -/
def median3 (a b c : Nat) : Nat := max (min a b) (min (max a b) c)

/-- Whether all three channels are HEALTHY. -/
def State.allHealthy (s : State) : Bool := s.healthy 0 && s.healthy 1 && s.healthy 2

/-- The published value of a domain in 2^-48 ns (R251): the median while every channel is HEALTHY, else the lead's. -/
def State.published (s : State) (d : Nat) : Nat :=
  if s.allHealthy then median3 (s.ktDom 0 d).ctr (s.ktDom 1 d).ctr (s.ktDom 2 d).ctr else (s.ktDom s.lead d).ctr

/-- A counter value as TIME96, fraction truncated to 2^-16 ns (R227). -/
def toT16 (c : Nat) : Time16 := c / 2 ^ 32

/-- The published TIME96 of a domain. -/
def State.now16 (s : State) (d : Nat) : Time16 := toT16 (s.published d)

/-- NS32 of a TIME96 value (R196). -/
def ns32 (t : Time16) : Nat := (t / 2 ^ 16) % 2 ^ 32

/-- NS32 with its fraction, as one 48-bit count of 2^-16 ns. -/
def ns48 (t : Time16) : Nat := t % 2 ^ 48

/-- The signed difference of two NS32-plus-fraction values, in 2^-16 ns (R196). -/
def diff48 (a b : Nat) : Int := signed 48 (a + (2 ^ 48 - b % 2 ^ 48))

/-- A TIME96 value moved by a signed number of 2^-16 ns. -/
def addT16 (t : Time16) (d : Int) : Time16 := (((t : Int) + d) % (t16Mod : Int)).toNat

/-- The difference of two TIME96 values in full arithmetic, the shorter way round the modulus. -/
def subT16 (a b : Time16) : Int :=
  let d := (a + t16Mod - b % t16Mod) % t16Mod
  if 2 * d < t16Mod then (d : Int) else (d : Int) - (t16Mod : Int)

/-- The 12 bytes of a TIME96 value (Table 08.1). -/
def t96Bytes (t : Time16) : List Byte :=
  leBytes 2 (t % 2 ^ 16) ++ leBytes 4 (t / 2 ^ 16 % 1000000000) ++ leBytes 6 (t / 2 ^ 16 / 1000000000 % 2 ^ 48)

/-- The TIME96 value with the given seconds, nanoseconds and fraction. -/
def mkT16 (sec ns frac : Nat) : Time16 := ((sec * 1000000000 + ns) * 2 ^ 16 + frac) % t16Mod

/-- Seconds, nanoseconds and fraction of a TIME96 value. -/
def t16Sec (t : Time16) : Nat := t / 2 ^ 16 / 1000000000 % 2 ^ 48
def t16Ns (t : Time16) : Nat := t / 2 ^ 16 % 1000000000
def t16Frac (t : Time16) : Nat := t % 2 ^ 16

/-- The TIME field of a Spout entry (R381): domain 0's published NS32 from STEEP on; in LOAD the lead's AON copy, or zero where the AON
timekeeper holds no time. -/
def State.spoutTime (s : State) : Nat :=
  if s.mode = Mode.LOAD then
    if s.aon.holds then ns32 (toT16 (s.aon.copies.getD (s.lead * 8) AonCopy.fresh).ctr) else 0
  else ns32 (s.now16 0)

end Sys2Proof.Machine
end

