-- ==== Sys2Proof/Machine/Flags.lean ====
section
/-! DEFINITION. Every flag the device raises towards the host: interrupt causes (R378 to R380), Spout events (R381 to R385), error
registers (R8 to R11, R374, R375), performance events (R389 to R391) and fatal causes (R41). -/

namespace Sys2Proof.Machine

/-! ## Interrupts -/

/-- Interrupt causes (Table 14.5). -/
def Irq.SP_LOST : Nat := 4
def Irq.FATAL : Nat := 5
def Irq.STRAINER : Nat := 6
def Irq.ERR : Nat := 7
def Irq.PF_DUMP : Nat := 8
def Irq.HRX : Nat := 9
def Irq.HTX : Nat := 10
def Irq.MDIO : Nat := 11
def Irq.FLASH : Nat := 12
def Irq.IMG : Nat := 13

/-- The MSI-X table in BAR0 at 0x8000: address, data and vector control of vector `v`. -/
def Reg.MSIX (v w : Nat) : Nat := 0x8000 + 0x10 * (v % 64) + 0x4 * (w % 4)

/-- Whether vector `v` is masked: by its own mask bit, which is 1 after reset (PRESUMED, log entry 7), or by Function Mask. -/
def State.msixMasked (s : State) (v : Nat) : Bool := s.pcie.funcMask || s.fld ⟨Reg.MSIX v 3, 0, 0⟩ == 1

/-- Whether a DMA write can leave the device (R366). -/
def State.dmaOk (s : State) : Bool := s.pcie.linkUp && s.pcie.bme

/-- The levels that hold at present, as cause bits 4 to 6 (Table 14.5). -/
def State.levelCauses (s : State) : Nat :=
  (if s.rd Reg.SP_PEND = 0 then 0 else 2 ^ Irq.SP_LOST) + (if s.rd Reg.DEV_FATAL = 0 then 0 else 2 ^ Irq.FATAL) +
    (if s.rd Reg.ST_IRQ = 0 then 0 else 2 ^ Irq.STRAINER)

/-- Whether the OR of the enabled causes mapped to vector `v` is 1 (R379). -/
def State.vecHigh (s : State) (v : Nat) : Bool :=
  (List.range 14).any fun c =>
    s.fldBit F.DEV_IRQ_STATUS.CAUSE c && s.fldBit F.DEV_IRQ_EN.EN c && s.fld (F.DEV_IRQ_VEC.VEC c) == v

/-- Send the message of vector `v`, or hold it pending while the vector is masked (R379). -/
def State.sendMsix (s : State) (v : Nat) : State :=
  if !s.pcie.msixEn then s
  else if s.msixMasked v then { s with irq := { s.irq with pba := setBit s.irq.pba v true } }
  else if s.dmaOk then
    s.emit (.msix v ((s.rd (Reg.MSIX v 0)).toNat + (s.rd (Reg.MSIX v 1)).toNat * 2 ^ 32) (s.rd (Reg.MSIX v 2)).toNat)
  else s

/-- The vectors that some cause is mapped to, each once. -/
def State.vecsUsed (s : State) : List Nat := ((List.range 14).map fun c => s.fld (F.DEV_IRQ_VEC.VEC c)).dedup

/-- Bring one vector up to date: a rise of its OR sends its message. -/
def State.vecUpdate (s : State) (v : Nat) : State :=
  let h := s.vecHigh v
  let s' := { s with irq := { s.irq with vecOr := setBit s.irq.vecOr v h } }
  if h && !bitAt s.irq.vecOr v then s'.sendMsix v else s'

/-- Bring every vector up to date (R379). -/
def State.vecsEval (s : State) : State :=
  if s.fld F.DEV_IRQ_EN.EN = 0 && s.irq.vecOr == 0 then s else s.vecsUsed.foldl State.vecUpdate s

/-- Set the cause bits whose level holds, and send what rises (R378, R379). -/
def State.irqEval (s : State) : State :=
  let lv := s.levelCauses
  (if lv = 0 then s else s.setFld F.DEV_IRQ_STATUS.CAUSE (s.fld F.DEV_IRQ_STATUS.CAUSE ||| lv)).vecsEval

/-- An edge cause occurs (R378). -/
def State.raiseCause (s : State) (c : Nat) : State := (s.flagBit F.DEV_IRQ_STATUS.CAUSE c).irqEval

/-- Whether INT_N is driven low (R380). -/
def State.intLow (s : State) : Bool := (s.fld F.DEV_IRQ_STATUS.CAUSE &&& s.fld F.DEV_IRQ_PIN_EN.PIN) != 0

/-- Whether ALARM_N is driven low (R41). -/
def State.alarmLow (s : State) : Bool := s.fld ⟨Reg.DEV_FATAL, 5, 0⟩ != 0

/-- Whether WAKE_OUT_N is driven low (Table 15.10): from LOAD on, and in LULL from a wake until the rails fail to come (R33, R53, R55). -/
def State.wakeOutLow (s : State) : Bool := decide (Mode.LOAD ≤ s.mode) || (s.mode == Mode.LULL && s.dev.wakeStep != 0)

/-! ## Spout -/

/-- Sources of Table 14.7. -/
def Sp.FATAL : Nat := 0x01
def Sp.KT_CHANNEL : Nat := 0x02
def Sp.ST_MISMATCH : Nat := 0x03
def Sp.ECC : Nat := 0x04
def Sp.WD : Nat := 0x05
def Sp.ST_STUCK : Nat := 0x06
def Sp.KT_STEP : Nat := 0x07
def Sp.KT_HOLDOVER : Nat := 0x08
def Sp.KT_PAIR : Nat := 0x09
def Sp.KT_TB : Nat := 0x0A
def Sp.VN_STATE : Nat := 0x0B
def Sp.PH_BAD : Nat := 0x0C
def Sp.PH_CAL : Nat := 0x0D
def Sp.PFC_WD : Nat := 0x0E
def Sp.DEV_MODE : Nat := 0x0F
def Sp.KT_FHT : Nat := 0x10
def Sp.KT_ALARM : Nat := 0x11
def Sp.VN_CAND : Nat := 0x12
def Sp.TT_RANGE : Nat := 0x13
def Sp.BPM_FREE : Nat := 0x14
def Sp.BPM_LEAK : Nat := 0x15
def Sp.CD_FROZEN : Nat := 0x16
def Sp.FDB_MOVE : Nat := 0x17
def Sp.FENCE_DONE : Nat := 0x18
def Sp.CD_READOUT : Nat := 0x19
def Sp.CD_REPLAY : Nat := 0x1A
def Sp.PF_DUMP : Nat := 0x1B

/-- The class of a source (Table 14.7). -/
def Sp.classOf (src : Nat) : Nat := if src ≤ 3 then 0 else if src ≤ 0x0E then 1 else if src ≤ 0x16 then 2 else 3

/-- Class `c` of Spout. -/
def State.spClass (s : State) (c : Nat) : SpClass := s.spout.getD c SpClass.fresh
def State.setSpClass (s : State) (c : Nat) (k : SpClass) : State := { s with spout := s.spout.setD c k SpClass.fresh }

/-- Put an entry among the latches, lowest source code first. -/
def Sp.latch (e : SpEntry) : List SpEntry → List SpEntry
  | [] => [e]
  | f :: r => if e.source < f.source then e :: f :: r else f :: Sp.latch e r

/-- The producer credits that an event of cycle `now` can take: those granted in this cycle serve the next (R397). -/
def SpClass.usable (k : SpClass) (now : Nat) : Nat := k.prod - (if k.granted.1 = now + 1 then k.granted.2 else 0)

/-- `k` credits move from the host to the producer in cycle `now` (R384). -/
def SpClass.grant (c : SpClass) (now k : Nat) : SpClass :=
  let before := if c.granted.1 = now + 1 then c.granted.2 else 0
  { c with host := c.host - k, prod := c.prod + k, granted := (now + 1, before + k) }

/-- Every producer credit moves back to the host (R384). -/
def SpClass.recall (c : SpClass) : SpClass := { c with host := c.host + c.prod, prod := 0, granted := (0, 0) }

/-- An event of a source (R383, R384): it takes a producer credit of its class and enters its source's latch, or it is lost, counted
and marked pending. -/
def State.spoutEvent (s : State) (src inst arg : Nat) (data : Nat := 0) : State :=
  let c := Sp.classOf src
  let k := s.spClass c
  if k.usable s.cycle = 0 || k.latches.any (fun e => e.source == src) then
    ((s.flagBit ⟨Reg.SP_PEND, 31, 0⟩ src).count (Reg.SP_LOST_CNT src)).irqEval
  else
    (s.setSpClass c { k with prod := k.prod - 1, latches := Sp.latch ⟨src, inst, arg, s.spoutTime, data⟩ k.latches }).raiseCause c

/-- The data word of a signed argument. -/
def dataOf (i : Int) : Nat := unsigned 64 i

/-! ## Performance events -/

/-- Counter `n` adds `k` events (R390): 48 bits, and a sticky flag in bit 63 when it wraps. In the cycle of a write of its PF_SEL the increment is
lost (R391). -/
def State.pfAdd (s : State) (n k : Nat) : State :=
  let v := s.rd (Reg.PF_CNT n)
  let c := bitsOf v 47 0 + k
  if s.host.pfClr.getD n 0 = s.cycle + 1 then s
  else s.wr (Reg.PF_CNT n) (BitVec.ofNat 64 (c % 2 ^ 48 + (if c < 2 ^ 48 then bitsOf v 63 63 else 1) * 2 ^ 63))

/-- The counters whose PF_SEL selects event `ev` of instance `inst`, by the registers listed. -/
def State.pfCounters (s : State) (ev inst : Nat) : List Nat :=
  s.regs.entries.filterMap fun e =>
    if Reg.PF_SEL 0 ≤ e.1 ∧ e.1 ≤ Reg.PF_SEL 63 ∧ bitsOf e.2 11 0 = ev ∧ (bitsOf e.2 23 16 = inst ∨ bitsOf e.2 23 16 = 0xFF) then
      some ((e.1 - Reg.PF_SEL 0) / 4)
    else none

/-- `k` events of Table 14.10 occur. -/
def State.pfEvent (s : State) (ev inst k : Nat) : State := (s.pfCounters ev inst).foldl (fun t n => t.pfAdd n k) s

/-- `k` events that a 64-bit counter at `a` and the performance counters count. -/
def State.countEv (s : State) (a ev inst k : Nat) : State := (s.countN a k).pfEvent ev inst k

/-- A DMA write of `bs` to host memory, of which the device writes `n` bytes in all. -/
def State.dmaWrite (s : State) (addr : Nat) (bs : List Byte) (n : Nat) : State := (s.emit (.dma addr bs)).pfEvent 0x802 0 n

/-! ## Error registers -/

/-- The shared error codes (Table 00.5). -/
def Err.ILLEGAL_VALUE : Nat := 0x01
def Err.RESERVED_FIELD : Nat := 0x02
def Err.WRONG_MODE : Nat := 0x03
def Err.BUSY : Nat := 0x04
def Err.LOCKED : Nat := 0x05
def Err.BCAST_READ : Nat := 0x06
def Err.ZERO_LENGTH : Nat := 0x07
def Err.RANGE : Nat := 0x08
def Err.ALIGN : Nat := 0x09
def Err.OWNER : Nat := 0x0A
def Err.DOUBLE_FREE : Nat := 0x0B
def Err.NOT_PERMITTED : Nat := 0x0C
def Err.IMAGE_AUTH : Nat := 0x0D
def Err.IMAGE_CHECK : Nat := 0x0E
def Err.IMAGE_VERSION : Nat := 0x0F
def Err.NO_CREDIT : Nat := 0x10
def Err.STALE : Nat := 0x11

/-- The order of precedence of R11. -/
def Err.order : List Nat :=
  [Err.BCAST_READ, Err.NOT_PERMITTED, Err.WRONG_MODE, Err.LOCKED, Err.BUSY, Err.RESERVED_FIELD, Err.RANGE, Err.ALIGN,
    Err.ZERO_LENGTH, Err.ILLEGAL_VALUE, Err.NO_CREDIT, Err.STALE]

/-- Whether code `c` is among the rules broken. -/
def broke (checks : List (Bool × Nat)) (c : Nat) : Bool := checks.any fun k => k.1 && k.2 == c

/-- The one code that an access with these broken rules records: 0 where none is broken (R11). -/
def pickCode (checks : List (Bool × Nat)) : Nat := (Err.order.find? (broke checks)).getD 0

/-- How an access reached a register: the base of the block or instance it addresses, the offset it records, the flags of the error
register, whether it writes a bit of a reserved field (R8), and whether its shape is one that R368 rejects. -/
structure Acc where
  base : Nat
  ofs : Nat
  viaAlias : Bool
  bar2 : Bool
  isWrite : Bool
  rsv : Bool
  badShape : Bool
  deriving DecidableEq, Repr

/-- A direct write of the register at BAR0 offset `ofs` in the block or instance at `base`. -/
def Acc.direct (base ofs : Nat) : Acc := ⟨base, ofs, false, false, true, false, false⟩

/-- Note the last error of this cycle: a clear in the same cycle leaves it (R374). -/
def State.noteErr (s : State) (base v ofs : Nat) : State :=
  { s with setNow := (s.setNow.put (Reg.ERR_STATUS base) v).put (Reg.ERR_OFS base) ofs }

/-- Record an error in the ERR_STATUS of the access's block or instance (R8, R9, R375). -/
def State.recordErr (s : State) (a : Acc) (code : Nat) : State :=
  let v := code + b2n a.isWrite * 2 ^ 16 + b2n a.viaAlias * 2 ^ 17 + b2n a.bar2 * 2 ^ 18
  let t := s.noteErr a.base v (a.ofs % 2 ^ 26)
  if s.fld (F.ERR_STATUS.CODE a.base) = 0 then
    ((t.wr (Reg.ERR_STATUS a.base) (BitVec.ofNat 64 v)).wr (Reg.ERR_OFS a.base) (BitVec.ofNat 64 (a.ofs % 2 ^ 26))).raiseCause Irq.ERR
  else t.satAdd (F.ERR_STATUS.OVF a.base) 1

/-- A request is received: the performance events count it (Table 14.10); an access through an alias is counted once by its request. -/
def State.received (s : State) (a : Acc) : State :=
  if a.viaAlias then s else s.pfEvent (if a.isWrite then 0x801 else 0x800) 0 1

/-- A host read is answered. -/
def State.answer (s : State) (a : Acc) (v : Nat) : State := s.emit (.read a.bar2 a.ofs v)

/-- A rejected access: nothing changes but the error register, and a read returns zero (R8, R368). -/
def State.refuse (s : State) (a : Acc) (code : Nat) : State :=
  if a.isWrite then s.recordErr a code else (s.recordErr a code).answer a 0

/-- A host access that is checked before it acts (R8, R11): in OFF and LULL the host does not reach the device; while a soft device reset
holds, only the DEV block is reached, and a read elsewhere returns zero (R58). A broken rule is recorded and nothing else changes. -/
def State.guard (s : State) (a : Acc) (checks : List (Bool × Nat)) (act : State → State) : State :=
  if s.mode = Mode.OFF ∨ s.mode = Mode.LULL then s
  else
    let t := s.received a
    let closed := s.dev.softHold && a.base != Base.DEV
    if closed && !a.isWrite then t.answer a 0
    else
      let c := pickCode ((closed, Err.WRONG_MODE) :: (a.rsv, Err.RESERVED_FIELD) :: (a.badShape, Err.ALIGN) :: checks)
      if c = 0 then act t else t.refuse a c

/-! ## Fatal causes -/

/-- Bits of DEV_FATAL. -/
def Fatal.KT_DISAGREE : Nat := 0
def Fatal.SUPPLY : Nat := 1
def Fatal.CORE_PLL : Nat := 2
def Fatal.SECOND_FAULT : Nat := 3
def Fatal.DRAM : Nat := 4
def Fatal.AON_CLK : Nat := 5
def Fatal.HOST : Nat := 8

/-- Set a bit of DEV_FATAL; a bit that was clear raises the Spout event. In LULL the AON domain holds the bit and Spout has no power. -/
def State.markFatal (s : State) (b : Nat) : State :=
  if s.fldBit ⟨Reg.DEV_FATAL, 31, 0⟩ b then s.noteSet Reg.DEV_FATAL (2 ^ b)
  else
    let t := s.flagBit ⟨Reg.DEV_FATAL, 31, 0⟩ b
    if s.mode = Mode.LULL then t
    else (t.spoutEvent Sp.FATAL 0 (t.fld ⟨Reg.DEV_FATAL, 7, 0⟩)).irqEval

end Sys2Proof.Machine
end

