-- ==== Sys2Proof/Machine/Scan.lean ====
section
/-! DEFINITION. The dirty bits of the Strainer's engines (R352): every write of Table 13.1 into an engine's region sets its bit. -/

namespace Sys2Proof.Machine

/-- START of engine `k`. -/
def State.scanStart (s : State) (k : Nat) : Nat := s.fld (F.ST_ENG_START_LO.START k) + s.fld (F.ST_ENG_START_HI.START k) * 2 ^ 32

/-- Whether engine `k` scans region kind `mem` of slice or ring `sel`. -/
def State.scansKind (s : State) (k mem sel : Nat) : Bool :=
  s.fld (F.ST_ENG_CFG.MEM k) == mem &&
    (mem == 3 || (mem == 0 && s.fld (F.ST_ENG_CFG.SLICE k) == sel) || (mem == 2 && s.fld (F.ST_ENG_CFG.RING k) == sel))

/-- Bytes `lo` to `lo + len - 1` of a region kind are written: the engines whose regions hold one of them become dirty (R352). -/
def State.scanTouch (s : State) (mem sel lo len : Nat) : State :=
  { s with scans := s.scans.mapV fun k x =>
    if s.scansKind k mem sel && decide (lo < s.scanStart k + s.fld (F.ST_ENG_LEN.LEN k)) && decide (s.scanStart k < lo + len) then
      { x with dirty := true, dirtyAt := if x.dirty then x.dirtyAt else some s.cycle } else x }

/-- States of an engine (ST_ENG_RESULT.STATE). -/
def Scan.IDLE : Nat := 0
def Scan.SCAN : Nat := 1
def Scan.WAIT : Nat := 2

def State.scanState (s : State) (k : Nat) : Nat := s.fld (F.ST_ENG_RESULT.STATE k)
def State.scan (s : State) (k : Nat) : StScan := s.scans.getD k StScan.fresh

/-- The scan of engine `k` ends with result `r` (R353, R354): RESULT and ALIVE + 1 together, the flag of the result, and IDLE or WAIT. -/
def State.scanClose (s : State) (k r : Nat) : State :=
  let s1 := (s.setFld (F.ST_ENG_RESULT.RESULT k) r).setFld (F.ST_ENG_RESULT.ALIVE k) (s.fld (F.ST_ENG_RESULT.ALIVE k) + 1)
  let s2 := if r = 2 then s1.flag (F.ST_ENG_FLAGS.MISMATCH k)
    else if r = 3 then s1.flag (F.ST_ENG_FLAGS.STALE k)
    else if r = 4 then s1.flag (F.ST_ENG_FLAGS.NO_BUFFER k)
    else if r = 6 then s1.flag (F.ST_ENG_FLAGS.ECC k)
    else s1
  if s.fld (F.ST_ENG_CFG.CONT k) = 1 then s2.setFld (F.ST_ENG_RESULT.STATE k) Scan.WAIT
  else { s2.setFld (F.ST_ENG_RESULT.STATE k) Scan.IDLE with scans := s2.scans.del k }

/-- A slice leaves ACTIVE, or a ring leaves FROZEN and RUNNING: the running scans of it end as STALE (Table 13.3). -/
def State.scanStale (s : State) (mem sel : Nat) : State :=
  (List.range 8).foldl (fun t k =>
    if t.scanState k = Scan.SCAN ∧ t.scansKind k mem sel = true then t.scanClose k 3 else t) s

end Sys2Proof.Machine
end

