-- ==== Sys2Proof/Machine/Caddy.lean ====
section
/-! DEFINITION. Caddy rings: triggers, freezes, the record writer, release and readout (12_caddy_capture_replay.md). -/

namespace Sys2Proof.Machine

/-- States of a ring (Table 12.3) and of a replay engine (Table 12.7), as their registers show them. -/
def Ring.ABSENT : Nat := 0
def Ring.IDLE : Nat := 1
def Ring.RUNNING : Nat := 2
def Ring.POST : Nat := 3
def Ring.FROZEN : Nat := 4

def State.ringState (s : State) (n : Nat) : Nat := s.fld (F.CD_RING_STATUS.STATE n)
def State.ring (s : State) (n : Nat) : CdRing := s.caddy.rings.getD n CdRing.fresh
def State.setRing (s : State) (n : Nat) (r : CdRing) : State :=
  { s with caddy := { s.caddy with rings := s.caddy.rings.setD n r CdRing.fresh } }

/-- The domain of a ring (R331). -/
def State.ringDomain (s : State) (n : Nat) : Nat := s.fld (F.CD_RING_CFG.DOMAIN n)

/-- Bytes a record occupies (R335). -/
def CdRecord.size (r : CdRecord) : Nat := 32 + 8 * ceilDiv r.bytes.length 8

/-- Bytes of a chunk that are used (Table 12.1). -/
def CdChunk.used (c : CdChunk) : Nat := 64 + (c.recs.map CdRecord.size).sum

/-- The bytes of a record; `bad` is the BAD flag of a copy (Table 12.2). -/
def CdRecord.encode (r : CdRecord) (bad : Bool) : List Byte :=
  let h := leBytes 2 r.bytes.length ++ leBytes 1 r.port ++ leBytes 1 (r.domain % 8 + b2n r.gap * 8 + b2n bad * 16) ++
    leBytes 4 (r.stream % 2 ^ 17) ++ leBytes 4 r.rseq ++ t96Bytes r.stamp ++ leBytes 4 r.rt
  h ++ leBytes 4 (crc32c h) ++ r.bytes ++ List.replicate (8 * ceilDiv r.bytes.length 8 - r.bytes.length) 0

/-- The bytes of a chunk up to USED (Table 12.1), with the records given and the TRUNC flag of a copy. -/
def CdChunk.encode (n : Nat) (c : CdChunk) (recs : List CdRecord) (trunc : Bool) : List Byte :=
  let rt := match c.recs with | [] => 0 | r :: _ => r.rt
  let rs := match c.recs with | [] => 0 | r :: _ => r.rseq
  let h := leBytes 4 0x4B434443 ++ leBytes 1 n ++ leBytes 1 (b2n trunc) ++ leBytes 2 recs.length ++
    leBytes 4 (64 + (recs.map CdRecord.size).sum) ++ leBytes 4 c.cseq ++ leBytes 8 rt ++ leBytes 4 rs ++ List.replicate 32 0
  h ++ leBytes 4 (crc32c h) ++ (recs.map fun r => r.encode r.bad).flatten

/-! ## The writer (R333 to R335) -/

/-- Append a record to the chunk in use; a full chunk is closed and the next one opened, over the oldest where the ring is full. -/
def CdRing.append (r : CdRing) (chunks : Nat) (x : CdRecord) : CdRing :=
  let opened : CdRing → CdRing := fun q =>
    { q with chunks := (if q.chunks.length = chunks then q.chunks.drop 1 else q.chunks) ++ [⟨q.nextIdx, q.cseq, [x], false⟩],
             nextIdx := (q.nextIdx + 1) % chunks, cseq := (q.cseq + 1) % 2 ^ 32 }
  match r.chunks.getLast? with
  | some c =>
    if c.used + x.size ≤ 1048576 then { r with chunks := r.chunks.dropLast ++ [{ c with recs := c.recs ++ [x] }] } else opened r
  | none => opened r

/-- Whether the record makes the writer open a chunk. -/
def CdRing.mustOpen (r : CdRing) (x : CdRecord) : Bool :=
  match r.chunks.getLast? with
  | some c => decide (1048576 < c.used + x.size)
  | none => true

/-- Write a record to ring `n`; a full ring overwrites its oldest chunk (R334, R335). -/
def State.writeRecord (s : State) (n : Nat) (x : CdRecord) (full : Bool) : State :=
  let r := s.ring n
  let y := { x with rseq := r.rseq, gap := r.gap }
  let s1 := s.setRing n { (r.append (s.fld (F.CD_RING_CFG.CHUNKS n)) y) with rseq := (r.rseq + 1) % 2 ^ 32, gap := false }
  let s2 := if r.mustOpen x && full then s1.setFld (F.CD_RING_STATUS.WRAPPED n) 1 else s1
  let s3 := ((s2.count (Reg.CD_RING_CNT n 0)).countN (Reg.CD_RING_CNT n 1) y.size).pfEvent 0x700 n 1
  match (s3.ring n).chunks.getLast? with
  | some c => s3.scanTouch 2 n (c.idx * 1048576) c.used
  | none => s3

/-- A record dropped in stage 1 or 2 consumes a sequence number (R333). -/
def State.dropRecord (s : State) (n cnt : Nat) : State :=
  let r := s.ring n
  ((s.setRing n { r with rseq := (r.rseq + 1) % 2 ^ 32, gap := true }).count (Reg.CD_RING_CNT n cnt)).pfEvent 0x701 n 1

/-- Whether the writer must open the protected chunk of ring `n` for record `x` (R338, Table 12.3). -/
def State.meetsProt (s : State) (n : Nat) (x : CdRecord) : Bool :=
  let r := s.ring n
  r.mustOpen x && r.chunks.length == s.fld (F.CD_RING_CFG.CHUNKS n) && r.nextIdx == r.prot

/-- The first entry of a staging memory that is for ring `n`, and the others. -/
def pickStaged (n : Nat) : List (Nat × CdRecord) → Option (CdRecord × List (Nat × CdRecord))
  | [] => none
  | e :: r => if e.1 = n then some (e.2, r) else (pickStaged n r).map fun y => (y.1, e :: y.2)

/-- The next record staged for ring `n`, in the writer's rotation: its slice, the record, and what the slice's staging memory keeps. -/
def State.stagedFor (s : State) (n : Nat) : Option (Nat × CdRecord × List (Nat × CdRecord)) :=
  ([0, 1, 2, 3].map fun i => (s.caddy.turn + i) % 4).findSome? fun sl =>
    (pickStaged n (s.caddy.staging.getD sl [])).map fun y => (sl, y.1, y.2)

/-- The writer has taken a record of slice `sl`; the staging memory keeps `rest`, and the turn passes on. -/
def State.unstage (s : State) (sl : Nat) (rest : List (Nat × CdRecord)) : State :=
  { s with caddy := { s.caddy with staging := s.caddy.staging.setD sl rest [], turn := (sl + 1) % 4 } }

/-- The records that are staged for ring `n` when it freezes were accepted before: up to `fuel` of them are written. One for which the protected chunk would
have to be opened is dropped as where staging is full (log entry 89). -/
def State.flushRing (s : State) (n : Nat) : Nat → State
  | 0 => s
  | fuel + 1 =>
    match s.stagedFor n with
    | none => s
    | some (sl, x, rest) =>
      let s1 := s.unstage sl rest
      (if s1.meetsProt n x then s1.dropRecord n 3
        else s1.writeRecord n x ((s1.ring n).chunks.length == s1.fld (F.CD_RING_CFG.CHUNKS n))).flushRing n fuel

/-- Every record staged for ring `n` is written. -/
def State.flushAll (s : State) (n : Nat) : State := s.flushRing n (s.caddy.staging.values.map List.length).sum

/-! ## Freeze and triggers (R336 to R338) -/

/-- The records of the chunks, oldest first. -/
def chunkRecs (cs : List CdChunk) : List CdRecord := (cs.map CdChunk.recs).flatten

/-- The protected chunk of a trigger whose history begins at ring time `thr`: the chunk of the first record at or after it; with no such
record, the chunk in use, or the next to be opened. -/
def CdRing.protectedFor (r : CdRing) (thr : Nat) : Nat :=
  match r.chunks.find? (fun c => c.recs.any fun x => decide (thr ≤ x.rt)) with
  | some c => c.idx
  | none => match r.chunks.getLast? with
    | some c => c.idx
    | none => r.nextIdx

/-- Freeze ring `n` (R338): write what is staged for it, close the chunk in use, set the range and sequence registers, raise CD_FROZEN. -/
def State.ringFreeze (s : State) (n : Nat) (early cut : Bool) : State :=
  let t := s.flushAll n
  let r := t.ring n
  let kept := r.chunks.dropWhile fun c => c.idx != r.prot
  let last := (r.rseq + 2 ^ 32 - 1) % 2 ^ 32
  let lastWritten := match (chunkRecs r.chunks).getLast? with | some x => x.rseq | none => last
  let first := match (chunkRecs kept).find? (fun x => decide (r.thr ≤ x.rt)) with
    | some x => x.rseq
    | none => (lastWritten + 1) % 2 ^ 32
  let s1 := t.setRing n { r with chunks := kept }
  let s2 := (s1.setFld (F.CD_RING_STATUS.STATE n) Ring.FROZEN).setFld (F.CD_RING_STATUS.EARLY n) (b2n early)
  let s3 := s2.setFld (F.CD_RING_STATUS.CUT n) (b2n cut)
  let s4 := (s3.setFld (F.CD_RING_RANGE.FIRST_CHUNK n) r.prot).setFld (F.CD_RING_RANGE.NCHUNK n) kept.length
  let s5 := (s4.setFld (F.CD_RING_FIRST_RSEQ.RSEQ n) first).setFld (F.CD_RING_LAST_RSEQ.RSEQ n) lastWritten
  s5.spoutEvent Sp.CD_FROZEN n (s5.fld (F.CD_RING_TRIG_INFO.CAUSE n)) (b2n early + 2 * b2n cut)

/-- Latch a trigger in ring `n` (R337): T, the source, the ring time, and the protected chunk. -/
def State.ringLatch (s : State) (n cause index : Nat) : State :=
  let t := s.now16 (s.ringDomain n)
  let r := s.ring n
  let thr := r.rt - s.fld (F.CD_RING_PRE.US n)
  let s1 := (s.setFld (F.CD_RING_TRIG_NS.NS n) (t16Ns t)).setFld (F.CD_RING_TRIG_FRAC.FRAC n) (t16Frac t)
  let s2 := (s1.setFld (F.CD_RING_TRIG_S_LO.S_LO n) (t16Sec t)).setFld (F.CD_RING_TRIG_S_HI.S_HI n) (t16Sec t / 2 ^ 32)
  let s3 := (s2.setFld (F.CD_RING_TRIG_INFO.CAUSE n) cause).setFld (F.CD_RING_TRIG_INFO.INDEX n) index
  (s3.count (Reg.CD_RING_CNT n 5)).setRing n
    { r with trt := r.rt, thr := thr, post := s.fld (F.CD_RING_POST.US n), prot := r.protectedFor thr, trigAt := some s.cycle }

/-- A trigger reaches ring `n` (R336, R337). Of several in one cycle the lowest CAUSE is latched, in whatever order they come, and the others are counted. -/
def State.ringTrigger (s : State) (n cause index : Nat) : State :=
  let st := s.ringState n
  if st = Ring.RUNNING then
    let s1 := s.ringLatch n cause index
    if s.fld (F.CD_RING_POST.US n) = 0 then s1.ringFreeze n false false
    else (s1.setFld (F.CD_RING_STATUS.STATE n) Ring.POST).scanStale 2 n
  else if st = Ring.POST ∨ st = Ring.FROZEN then
    let s1 := s.count (Reg.CD_RING_CNT n 6)
    if (s.ring n).trigAt = some s.cycle ∧ cause < s.fld (F.CD_RING_TRIG_INFO.CAUSE n) then
      (s1.setFld (F.CD_RING_TRIG_INFO.CAUSE n) cause).setFld (F.CD_RING_TRIG_INFO.INDEX n) index
    else s1
  else s

/-- Offer a trigger source to every ring that enables it (Table 12.4). -/
def State.offerTrigger (s : State) (enabled : State → Nat → Bool) (cause index : Nat) : State :=
  (List.range 8).foldl (fun t n => if enabled s n then t.ringTrigger n cause index else t) s

/-- A soft device reset or a LULL entry freezes ring `n` at once; a frozen ring counts it as a trigger (Table 12.3, Table 12.4). -/
def State.ringCut (s : State) (n cause : Nat) : State :=
  let st := s.ringState n
  if st = Ring.RUNNING then (s.ringLatch n cause 0).ringFreeze n false false
  else if st = Ring.POST then s.ringFreeze n false true
  else if st = Ring.FROZEN then s.count (Reg.CD_RING_CNT n 6)
  else s

/-- Freeze every ring that records (R336). -/
def State.cutRings (s : State) (cause : Nat) : State := (List.range 8).foldl (fun t n => t.ringCut n cause) s

/-- Ring time advances by one microsecond: the post counter counts down (R331, R336). -/
def State.ringTick (s : State) (n : Nat) : State :=
  let r := s.ring n
  s.setRing n { r with rt := (r.rt + 1) % 2 ^ 64, post := if s.ringState n = Ring.POST then r.post - 1 else r.post }

/-- The rings enter RUNNING at the first entry to BREEZE or GALE after LOAD (Table 12.3). -/
def State.ringsStart (s : State) : State :=
  (List.range 8).foldl (fun t n =>
    if t.ringState n = Ring.IDLE then t.setFld (F.CD_RING_STATUS.STATE n) Ring.RUNNING else t)
    { s with caddy := { s.caddy with lived := true } }

/-- The writer takes the oldest record of the first staging memory, from its turn on, that holds one. -/
def State.nextStaged (s : State) : Option (Nat × Nat × CdRecord) :=
  ([0, 1, 2, 3].map fun i => (s.caddy.turn + i) % 4).findSome? fun sl =>
    match s.caddy.staging.getD sl [] with
    | [] => none
    | (n, x) :: _ => some (sl, n, x)

/-- RECORD_WRITE (R333): write the next staged record into its ring. A record for which the protected chunk would have to be opened freezes its ring, EARLY
unless the post counter has reached 0 as well (Table 12.8); it is dropped as where staging is full (log entry 89). -/
def execRecordWrite (s : State) : Host.Outcome State Fault Refusal :=
  match s.nextStaged with
  | none => .next s
  | some (sl, n, x) =>
    let s0 := s.unstage sl ((s.caddy.staging.getD sl []).drop 1)
    let st := s.ringState n
    if st = Ring.RUNNING ∨ st = Ring.POST then
      if st = Ring.POST ∧ s.meetsProt n x = true then
        .next ((s0.dropRecord n 3).ringFreeze n ((s.ring n).post != 0) false)
      else .next (s0.writeRecord n x ((s.ring n).chunks.length == s.fld (F.CD_RING_CFG.CHUNKS n)))
    else .next (s0.dropRecord n 3)

/-- Bytes staged in a slice's staging memory (R333). -/
def State.staged (s : State) (sl : Nat) : Nat := ((s.caddy.staging.getD sl []).map fun e => e.2.bytes.length).sum

/-- Offer a frame to ring `n` at step 5 (R332, R333); `slot` says whether a pipeline slot is left. -/
def State.offerRecord (s : State) (sl n : Nat) (x : CdRecord) (slot : Bool) : State :=
  let st := s.ringState n
  if !(st == Ring.RUNNING || st == Ring.POST) then s.count (Reg.CD_RING_CNT n 4)
  else if 262144 < s.staged sl + x.bytes.length then s.dropRecord n 3
  else if !slot then (s.dropRecord n 2).pfEvent 0x104 sl 1
  else { s with caddy := { s.caddy with
    staging := s.caddy.staging.setD sl (s.caddy.staging.getD sl [] ++ [(n, { x with rt := (s.ring n).rt })]) [] } }

/-! ## Window end, host trigger, release -/

/-- POST_WINDOW_END (R336): the post counter has reached 0. -/
def execPostWindowEnd (n : Nat) (s : State) : Host.Outcome State Fault Refusal :=
  if 8 ≤ n then .fault .noSuchInstance
  else if s.ringState n = Ring.POST ∧ (s.ring n).post = 0 then .next (s.ringFreeze n false false)
  else .next s

/-- A direct write of a CD register. -/
def Acc.cd (ofs : Nat) : Acc := Acc.direct Base.CD ofs

/-- Whether a readout reads ring `n`. -/
def State.readingRing (s : State) (n : Nat) : Bool := s.fld F.CD_RD_STATUS.STATE == 1 && s.fld F.CD_RD_RING.RING == n

/-- Whether replay engine `r` is ARMED or RUNNING. -/
def State.replayBusy (s : State) (r : Nat) : Bool :=
  s.fld (F.CD_RP_STATUS.STATE r) == 1 || s.fld (F.CD_RP_STATUS.STATE r) == 2

/-- Whether a replay engine is ARMED or RUNNING on ring `n`. -/
def State.replayOn (s : State) (n : Nat) : Bool :=
  (List.range 4).any fun r => s.replayBusy r && s.fld (F.CD_RP_CFG.RING r) == n

/-- Host trigger of ring `n` (CD_RING_CTRL.TRIG), and its checks. -/
def State.hostTrigger (s : State) (a : Acc) (n : Nat) : State :=
  s.guard a [(s.ringState n == Ring.ABSENT, Err.NOT_PERMITTED), (s.ringState n == Ring.IDLE, Err.WRONG_MODE)]
    fun t => t.ringTrigger n 1 0

/-- RING_HOST_TRIGGER (R337). -/
def execRingHostTrigger (n : Nat) (s : State) : Host.Outcome State Fault Refusal :=
  if 8 ≤ n then .fault .noSuchInstance else .next (s.hostTrigger (Acc.cd (Reg.CD_RING_CTRL n)) n)

/-- Release ring `n` (Table 12.5, Table 12.3). -/
def State.release (s : State) (a : Acc) (n : Nat) : State :=
  s.guard a [(s.ringState n == Ring.ABSENT, Err.NOT_PERMITTED),
      (decide (s.mode < Mode.BREEZE) || decide (Mode.CALM < s.mode), Err.WRONG_MODE),
      (s.ringState n != Ring.FROZEN, Err.WRONG_MODE), (s.readingRing n, Err.BUSY), (s.replayOn n, Err.BUSY)] fun t =>
    let t1 := t.setRing n { t.ring n with chunks := [], trigAt := none }
    ((t1.setFld (F.CD_RING_STATUS.STATE n) Ring.RUNNING).setFld (F.CD_RING_STATUS.EARLY n) 0).setFld (F.CD_RING_STATUS.CUT n) 0

/-- RING_RELEASE (R340). -/
def execRingRelease (n : Nat) (s : State) : Host.Outcome State Fault Refusal :=
  if 8 ≤ n then .fault .noSuchInstance else .next (s.release (Acc.cd (Reg.CD_RING_CTRL n)) n)

/-! ## Readout (R339 to R341) -/

/-- The records of a chunk that a walk copies: those before the first bad record header (R341). -/
def CdChunk.walk (c : CdChunk) : List CdRecord := if c.hdrBad then [] else c.recs.takeWhile fun r => !r.hdrBad

/-- The errors a walk marks: one for each bad record, one for a header that ends it. -/
def CdChunk.errors (c : CdChunk) : Nat :=
  (c.walk.filter CdRecord.bad).length + b2n (c.hdrBad || decide (c.walk.length < c.recs.length))

/-- Write chunk `i` of the running readout to host memory. The bytes past those given, to 1 MiB, are zero (R339). -/
def State.readoutChunk (s : State) (i : Nat) : State :=
  let n := s.fld F.CD_RD_RING.RING
  let base := (s.rd Reg.CD_RD_ADDR_LO).toNat + (s.rd Reg.CD_RD_ADDR_HI).toNat * 2 ^ 32
  match (s.ring n).chunks[s.fld F.CD_RD_FIRST.FIRST + i]? with
  | none => s
  | some c =>
    let trunc := c.hdrBad || decide (c.walk.length < c.recs.length)
    let s1 := s.dmaWrite (base + i * 1048576) (c.encode n c.walk trunc) 1048576
    (s1.countN (Reg.CD_RING_CNT n 7) c.errors).satAdd F.CD_RD_BAD.BAD c.errors

/-- End the running readout with `k` chunks written, in state `st` (2 DONE, 3 ABORTED). -/
def State.readoutEnd (s : State) (k st : Nat) : State :=
  let n := s.fld F.CD_RD_RING.RING
  let s1 := (List.range k).foldl State.readoutChunk s
  let s2 := (s1.setFld F.CD_RD_STATUS.STATE st).setFld F.CD_RD_STATUS.DONE_CH k
  (s2.setFld (F.CD_RING_STATUS.READING n) 0).spoutEvent Sp.CD_READOUT n st k

/-- Start a readout (Table 12.5). Where DMA is not possible it ends as aborted (R397). -/
def State.readoutStart (s : State) (a : Acc) : State :=
  let n := s.fld F.CD_RD_RING.RING
  s.guard a [(decide (s.mode < Mode.STEEP) || decide (Mode.CALM < s.mode), Err.WRONG_MODE),
      (s.ringState n != Ring.FROZEN && s.ringState n != Ring.ABSENT, Err.WRONG_MODE),
      (s.fld F.CD_RD_STATUS.STATE == 1, Err.BUSY),
      (s.ringState n != Ring.ABSENT &&
        decide ((s.ring n).chunks.length < s.fld F.CD_RD_FIRST.FIRST + s.fld F.CD_RD_COUNT.COUNT), Err.RANGE),
      (s.fld F.CD_RD_COUNT.COUNT == 0, Err.ZERO_LENGTH),
      (s.ringState n == Ring.ABSENT, Err.ILLEGAL_VALUE)] fun t =>
    let t1 := (t.setFld F.CD_RD_STATUS.STATE 1).setFld F.CD_RD_STATUS.DONE_CH 0
    let t2 := (t1.setFld F.CD_RD_BAD.BAD 0).setFld (F.CD_RING_STATUS.READING n) 1
    if t.dmaOk then t2 else t2.readoutEnd 0 3

/-- READOUT_GO (R339). -/
def execReadoutGo (s : State) : Host.Outcome State Fault Refusal := .next (s.readoutStart (Acc.cd Reg.CD_RD_CMD))

/-- End the readout after the chunk in progress: how many chunks that makes is open (log entry 3). -/
def State.readoutAbort (s : State) (a : Acc) : State :=
  s.guard a [] fun t =>
    if t.fld F.CD_RD_STATUS.STATE = 1 then t.tookFree.readoutEnd (1 + t.freeVal % t.fld F.CD_RD_COUNT.COUNT) 3 else t

/-- READOUT_ABORT (R339). -/
def execReadoutAbort (s : State) : Host.Outcome State Fault Refusal := .next (s.readoutAbort (Acc.cd Reg.CD_RD_CMD))

/-- READOUT_DONE (R339): the last chunk is written. -/
def execReadoutDone (s : State) : Host.Outcome State Fault Refusal :=
  if s.fld F.CD_RD_STATUS.STATE = 1 then .next (s.readoutEnd (s.fld F.CD_RD_COUNT.COUNT) 2) else .next s

/-! ## Ends of replays (Table 12.7) -/

/-- A replay that is ARMED or RUNNING ends in state `st` (3 DONE, 4 STOPPED, 5 ABORTED). -/
def State.replayEnd (s : State) (r st : Nat) : State :=
  if s.replayBusy r then
    let n := s.fld (F.CD_RP_CFG.RING r)
    let s1 := (s.setFld (F.CD_RP_STATUS.STATE r) st).setFld (F.CD_RING_STATUS.REPLAYING n) 0
    s1.spoutEvent Sp.CD_REPLAY r st (s1.rd (Reg.CD_RP_CNT r 0)).toNat
  else s

/-- CALM ends every replay as ABORTED. -/
def State.abortReplays (s : State) : State := (List.range 4).foldl (fun t r => t.replayEnd r 5) s

/-- The registers of replay engine `r` and the readout return to IDLE (R346, R349). -/
def State.replaysLost (s : State) : State :=
  let s1 := s.porWhere fun a => decide (0xA02000 ≤ a) && decide (a < 0xA02400)
  let s2 := s1.porWhere fun a => decide (0xA00100 ≤ a) && decide (a < 0xA00120)
  let s3 := (List.range 8).foldl (fun t n => (t.setFld (F.CD_RING_STATUS.READING n) 0).setFld (F.CD_RING_STATUS.REPLAYING n) 0) s2
  { s3 with caddy := { s3.caddy with replay := SMap.empty } }

end Sys2Proof.Machine
end

