-- ==== Sys2Proof/Machine/Calm.lean ====
section
/-! DEFINITION. CALM entry (R40), fatal causes and what they lead to (R41), and recovery intervals (R360). -/

namespace Sys2Proof.Machine

/-- The level of the pin PLS_OUT_n, none where the device releases it (R303, Table 15.10); in PROBE test control has the pin. -/
def State.plsPin (s : State) (n : Nat) : Option Bool :=
  if s.mode < Mode.STEEP ∨ s.mode = Mode.PROBE ∨ s.fld (F.PIN_PLS_STATUS.FUNC n) = 0 then none
  else if s.mode = Mode.STEEP then some false
  else
    let out := match s.phase.pls.get? n with
      | some p => p.high
      | none => false
    some ((s.fld (F.PIN_PLS_STATUS.IDLE n) == 1) != out)

/-- The pulse-output pins that a change of mode moves away from where they stood in `was` (R302, R303). -/
def State.pinsMoved (s was : State) : State :=
  (List.range 32).foldl (fun t n => if was.plsPin n = s.plsPin n then t else t.emit (.pulsePin n (s.plsPin n))) s

/-- The device reports the mode reached: DEV_MODE and its Spout event (R33, Table 14.7); `arg` is 1 for an abandoned LULL entry. -/
def State.setMode (s : State) (m : Nat) (arg : Nat := 0) : State :=
  let s1 := (s.setFld F.DEV_MODE.CUR m).setFld F.DEV_MODE.TARGET m
  ((s1.setFld F.DEV_MODE.TRANS 0).pinsMoved s).spoutEvent Sp.DEV_MODE m arg

/-- A transition to mode `m` begins (R33). -/
def State.beginTrans (s : State) (m : Nat) : State := (s.setFld F.DEV_MODE.TARGET m).setFld F.DEV_MODE.TRANS 1

/-- Stop a partial image that is being fetched or checked (R87): the result is BUSY and the slice is unchanged. -/
def State.abandonPartial (s : State) : State :=
  if s.fld F.IMG_STATUS.PARTIAL = 1 ∧ (s.fld F.IMG_STATUS.STATE = 1 ∨ s.fld F.IMG_STATUS.STATE = 2) then
    ((s.setFld F.IMG_STATUS.STATE 5).setFld F.IMG_STATUS.CODE Err.BUSY).raiseCause Irq.IMG
  else s

def State.slice (s : State) (i : Nat) : Slice := s.slices.getD i Slice.fresh
def State.setSlice (s : State) (i : Nat) (t : Slice) : State := { s with slices := s.slices.setD i t Slice.fresh }

/-- Learning halts in slice `i`: pending requests are discarded (R152). -/
def State.learnHalt (s : State) (i : Nat) : State := s.setSlice i { s.slice i with learn := [] }

/-- CALM entry (R40): a running transition is abandoned; frames held now are to be dropped; replays end as ABORTED; learning halts; a partial image in
fetch or check is abandoned. The device is in CALM at once. -/
def State.enterCalm (s : State) : State :=
  let s1 := { s with dev := { s.dev with calmDrop := true, calmMark := s.uid, lullStep := 0, slcPhase := SMap.empty } }
  (((List.range 4).foldl State.learnHalt s1).abortReplays.abandonPartial).setMode Mode.CALM

/-- A fatal cause occurs (R41): in LOAD the loader halts, in STEEP, BREEZE, GALE and a transition out of CALM the device enters CALM; in CALM it
abandons a partial image in fetch or check (R87, Table 03.21). -/
def State.fatal (s : State) (b : Nat) : State :=
  let s1 := s.markFatal b
  let m := s.mode
  if m = Mode.LOAD then { s1 with dev := { s1.dev with loadHalted := true } }
  else if m = Mode.STEEP ∨ m = Mode.BREEZE ∨ m = Mode.GALE ∨ (m = Mode.CALM ∧ s.trans = true) then
    if 3 ≤ s.dev.lullStep then s1 else s1.enterCalm
  else if m = Mode.CALM then s1.abandonPartial
  else s1

/-- A fatal cause whose condition persists: its bit is set again for as long as it lasts (the note to DEV_FATAL). -/
def State.fatalHeld (s : State) (b : Nat) : State :=
  { s with dev := { s.dev with conds := setBit s.dev.conds b true } }.fatal b

/-- The condition of a fatal cause ends. -/
def State.condEnds (s : State) (b : Nat) : State := { s with dev := { s.dev with conds := setBit s.dev.conds b false } }

/-- Recovery intervals, one bit each in `Dev.recov`: slices 0 to 3, scheduler 4, Kettle channels 5 to 7, descriptor stores 8. -/
def State.setRecov (s : State) (m : Nat) : State :=
  { s with dev := { s.dev with recov := m } }.setFld F.ST_HEALTH.RECOVERING (if m = 0 then 0 else 1)

def State.openRecov (s : State) (i : Nat) : State := s.setRecov (setBit s.dev.recov i true)
def State.closeRecov (s : State) (i : Nat) : State := s.setRecov (setBit s.dev.recov i false)

/-- A covered fault is detected: with an interval open, it is a second fault (R360). -/
def State.coveredFault (s : State) : State := if s.dev.recov = 0 then s else s.fatal Fatal.SECOND_FAULT

/-- Watchdog `n` expires (R359). -/
def State.watchdog (s : State) (n : Nat) : State := (s.count (Reg.ST_WD_CNT n)).spoutEvent Sp.WD n 0

end Sys2Proof.Machine
end

