-- ==== Sys2Proof/Machine/Kettle.lean ====
section
/-! DEFINITION. The Kettle (08_kettle_time_core.md): counters and their increments, time base, captures, servo, holdover, redundant
pairs, voting and lead, the forced-holdover test, and alarms. -/

namespace Sys2Proof.Machine

/-! ## Domains and their states (Table 08.2) -/

def Dom.DISABLED : Nat := 0
def Dom.FREERUN : Nat := 1
def Dom.ACQUIRING : Nat := 2
def Dom.LOCKED : Nat := 3
def Dom.HOLDOVER : Nat := 4
def Dom.FOLLOW : Nat := 5
def Dom.MANUAL : Nat := 6
def Dom.DERIVED : Nat := 7

/-- The nominal increment, 0.8 ns in 2^-48 ns (R228). -/
def incNom : Nat := 0xCCCCCCCCCCCC

/-- The least and the greatest increment applied: 0.7992 ns and 0.8008 ns (R228). -/
def incMin : Nat := ceilDiv (7992 * 2 ^ 48) 10000
def incMax : Nat := 8008 * 2 ^ 48 / 10000

def State.domState (s : State) (d : Nat) : Nat := s.fld (F.KT_DOM_STATUS.STATE d)
def State.domKind (s : State) (d : Nat) : Nat := s.fld (F.KT_DOM_CFG.KIND d)
def State.isFree (s : State) (d : Nat) : Bool := decide (d < 8) && s.domKind d == 1
def State.isDerived (s : State) (d : Nat) : Bool := decide (d < 8) && s.domKind d == 2

/-- Whether the Kettle counts at core resolution: STEEP to PROBE, up to the commit of a LULL entry (Table 02.1, Table 02.7). -/
def State.kettleRuns (s : State) : Bool := decide (Mode.STEEP ≤ s.mode) && decide (s.dev.lullStep < 3)

def State.feed (s : State) (d : Nat) : KtFeed := s.kettle.feeds.getD d KtFeed.fresh
def State.setFeed (s : State) (d : Nat) (f : KtFeed) : State :=
  { s with kettle := { s.kettle with feeds := s.kettle.feeds.setD d f KtFeed.fresh } }

/-- Change a domain in every channel that is not EXCLUDED (an excluded channel's logic is held in reset). -/
def State.eachCh (s : State) (d : Nat) (f : Nat → KtDom → KtDom) : State :=
  [0, 1, 2].foldl (fun t ch => if s.chState ch = 1 then t else t.setKtDom ch d (f ch (s.ktDom ch d))) s

/-- An increment limited to the range of R228. -/
def limitInc (i : Int) : Nat := (clampInt incMin incMax i).toNat

/-- A real increment as the hardware applies it: within one unit of the real value, which unit is open (R239, log entry 3), then
limited. -/
def State.incOf (s : State) (q : Rat) : Nat :=
  limitInc (if q.den = 1 then q.num + ((s.freeVal % 3 : Nat) : Int) - 1 else q.floor + ((s.freeVal % 2 : Nat) : Int))

/-- The nominal increment corrected by a fractional frequency. -/
def incReal (f : Rat) : Rat := (incNom : Rat) * (1 - f)

/-! ## The counters (R227, R229) -/

/-- What a ratio of 2^-40 adds to an increment: an arithmetic shift (R229). -/
def ratioPart (inc0 : Nat) (ratio : Int) : Int := ((inc0 : Int) * ratio) / 2 ^ 40

/-- The increment of a DERIVED domain in the channel whose domain-0 increment is `inc0`: R229's sum, held inside the range of R228, which every
increment applied keeps (DEDUCED, log entry 65). -/
def derivedInc (inc0 : Nat) (ratio : Int) : Nat := limitInc ((inc0 : Int) + ratioPart inc0 ratio)

/-- The increment of a domain in the present cycle, in 2^-48 ns (R229), as the lead has it. -/
def State.incNow (s : State) (d : Nat) : Nat :=
  if s.isDerived d then derivedInc (s.ktDom s.lead 0).inc (s.cfg.domRatio.getD d 0) else (s.ktDom s.lead d).inc

/-- Core cycles for which the time distribution's values are kept: more than the longest frame lasts at the lowest line rate (log entry 20). -/
def histCycles : Nat := 131072

/-- Stretches that no event can need any more are dropped: all that ended before `c`. -/
def histKeep (c : Nat) : List KtSeg → List KtSeg
  | [] => []
  | g :: r => if g.start ≤ c then [g] else g :: histKeep c r

/-- The value that a stretch gives for core cycle `c`. -/
def KtSeg.at (g : KtSeg) (c : Nat) : Nat := (g.value + g.inc * (c - g.start)) % ctrMod

/-- What domain `d` publishes in the cycle that ends joins its history: a new stretch begins where rate or value changed. -/
def State.histNote (s : State) (d : Nat) : State :=
  let l := s.kettle.hist.getD d []
  let new : KtSeg := ⟨s.cycle, s.published d, s.incNow d⟩
  let same := match l with
    | [] => false
    | g :: _ => g.inc == new.inc && g.at s.cycle == new.value
  if same then s
  else { s with kettle := { s.kettle with hist := s.kettle.hist.put d (histKeep (s.cycle - histCycles) (new :: l)) } }

/-- The value that domain `d` publishes in core cycle `c`, and its increment in that cycle (R21, R284): of an earlier cycle what was published
then. -/
def State.timeAt (s : State) (d c : Nat) : Nat × Nat :=
  let i := s.incNow d
  if s.cycle ≤ c then ((s.published d + i * (c - s.cycle)) % ctrMod, i)
  else match (s.kettle.hist.getD d []).find? fun g => decide (g.start ≤ c) with
    | some g => (g.at c, g.inc)
    | none => ((s.published d + (ctrMod - i * (s.cycle - c) % ctrMod)) % ctrMod, i)

/-- One channel's domain advances by its increment in one core cycle. -/
def KtDom.advance (k : KtDom) (inc : Nat) : KtDom := { k with ctr := (k.ctr + inc) % ctrMod }

/-- Every counter advances by one core cycle: in LOAD on the increment that the handover left (R56), from STEEP on by R229. -/
def State.kettleTick (s : State) : State :=
  if s.mode = Mode.LOAD then { s with kettle := { s.kettle with ch := s.kettle.ch.mapV fun _ k => k.advance k.inc } }
  else if s.kettleRuns then
    s.domains.foldl (fun t d => (t.histNote d).eachCh d fun ch k =>
      k.advance (if s.isDerived d then derivedInc (s.ktDom ch 0).inc (s.cfg.domRatio.getD d 0) else k.inc)) s
  else s

/-- Move a domain's counters by a signed number of 2^-48 ns. -/
def KtDom.move (k : KtDom) (x : Int) : KtDom := { k with ctr := (((k.ctr : Int) + x) % (ctrMod : Int)).toNat }

/-! ## Voting, exclusion and lead (R249 to R253) -/

/-- The lowest-lettered HEALTHY channel; none where there is none. -/
def State.lowestHealthy (s : State) : Option Nat := [0, 1, 2].find? s.healthy

/-- Start the overlap of R253: for 4 cycles from now the edge generators of the lead that is replaced run on from its values. -/
def State.overlap (s : State) : State :=
  let vals := s.domains.foldl (fun m d => m.put d ((s.ktDom s.lead d).ctr, s.incNow d)) (SMap.empty : SMap (Nat × Nat))
  { s with kettle := { s.kettle with old := ⟨s.cycle, vals⟩, overlapEnd := s.cycle + 4 } }

/-- How far the new lead is ahead of the old lead's generator for domain `d`, in 2^-48 ns, while the overlap lasts (R253). -/
def State.overlapLag (s : State) (d : Nat) : Option Int :=
  if s.cycle < s.kettle.overlapEnd then
    (s.kettle.old.vals.get? d).map fun v => ((s.ktDom s.lead d).ctr : Int) - ((v.1 + v.2 * (s.cycle - s.kettle.old.start) : Nat) : Int)
  else none

/-- The lead passes to the lowest-lettered HEALTHY channel (R252); each handover is counted. -/
def State.handover (s : State) : State :=
  match s.lowestHealthy with
  | some c =>
    let t := s.setFld F.KT_CH_STATUS.PENDING_HO 0
    if c = s.lead then t else (t.overlap.setFld F.KT_CH_STATUS.LEAD c).count (Reg.KT_CNT 5)
  | none => s.setFld F.KT_CH_STATUS.PENDING_HO 0

/-- The exclusion threshold in ps: 2,000 until an image is applied (R56). -/
def State.exclPs (s : State) : Nat := if s.fld F.KT_CFG.EXCL_PS = 0 then 2000 else s.fld F.KT_CFG.EXCL_PS

/-- Whether two channels differ by more than EXCL_THRESH_PS in some enabled domain (R251). -/
def State.disagree (s : State) (a b : Nat) : Bool :=
  s.domains.any fun d =>
    decide (s.exclPs * 2 ^ 48 < 1000 * (signed 160 (((s.ktDom a d).ctr + 2 ^ 160) - (s.ktDom b d).ctr)).natAbs)

/-- After an exclusion: no second HEALTHY channel, or disagreement of the two that remain, is fatal (R251). -/
def State.voteCheck (s : State) : State :=
  match [0, 1, 2].filter s.healthy with
  | [_, _, _] => s
  | [a, b] => if s.disagree a b then s.fatalHeld Fatal.KT_DISAGREE else s
  | _ => s.fatalHeld Fatal.KT_DISAGREE

/-- The increment of the holdover path (R242): the mean of the memory, whose rounding is open where it is no whole number (log entry 3), or with an
empty memory the increment of the present integral term. -/
def State.holdInc (s : State) (k : KtDom) : Nat :=
  if k.mem.isEmpty then s.incOf (incReal k.fi) else limitInc (s.roundOpen ((k.mem.sum : Rat) / (k.mem.length : Rat)))

/-- The lowest-numbered LOCKED FREE domain. -/
def State.fhtDomain (s : State) : Option Nat := (List.range 8).find? fun d => s.isFree d && s.domState d == Dom.LOCKED

/-- Start a test of channel `ch` on domain `d`: a shadow counter on the increment the holdover path would apply. -/
def State.fhtBegin (s : State) (ch d : Nat) : State :=
  let k := s.ktDom ch d
  let s1 := { s.tookFree with kettle := { s.kettle with
    fht := { s.kettle.fht with domain := d, seed := k.ctr, inc := s.holdInc k, cycle := s.cycle } } }
  (s1.setFld F.KT_FHT_STATUS.RUN 1).setFld F.KT_FHT_STATUS.CH ch

/-- Start the periodic test on the channel next in turn; with no LOCKED FREE domain it is postponed (R254). -/
def State.fhtPeriodic (s : State) : State :=
  let s0 := { s with kettle := { s.kettle with fht := { s.kettle.fht with due := false } } }
  match s.fhtDomain with
  | none => s0
  | some d =>
    let ch := s.kettle.fht.turn
    ({ s0 with kettle := { s0.kettle with fht := { s0.kettle.fht with turn := (ch + 1) % 3 } } }).fhtBegin ch d

/-- A test that has ended lets a periodic test that fell due meanwhile start (R254). -/
def State.fhtNext (s : State) : State :=
  if s.kettle.fht.due && s.fld F.KT_FHT_STATUS.RUN == 0 then s.fhtPeriodic else s

/-- A forced-holdover test that is running ends as abandoned (R255, Table 08.4). -/
def State.fhtAbandon (s : State) : State :=
  if s.fld F.KT_FHT_STATUS.RUN = 1 then
    (((s.setFld F.KT_FHT_STATUS.RUN 0).setFld F.KT_FHT_STATUS.LAST 3).spoutEvent Sp.KT_FHT (s.fld F.KT_FHT_STATUS.CH) 3
      (unsigned 64 (signed 32 (s.fld F.KT_FHT_DEV.PS)))).fhtNext
  else s

/-- Channel `ch` is excluded (R249): it leaves the vote and its logic is reset. -/
def State.exclude (s : State) (ch arg : Nat) : State :=
  let s1 := ((s.setFld (F.chState ch) 1).flagBit F.KT_CH_FLAGS.EXCL ch).count (Reg.KT_CNT ch)
  let s2 := (s1.spoutEvent Sp.KT_CHANNEL ch arg).openRecov (5 + ch)
  if s.fld F.KT_FHT_STATUS.CH = ch then s2.fhtAbandon else s2

/-- After exclusions: the lead passes at once where it was excluded, a pending handover is recomputed, and the vote is checked. -/
def State.afterExclusion (s : State) : State :=
  let t := if s.healthy s.lead then
      (if (s.lowestHealthy.getD s.lead) < s.lead then s else s.setFld F.KT_CH_STATUS.PENDING_HO 0)
    else s.handover
  t.voteCheck

/-- CHANNEL_EXCLUSION (R249 to R251): with all channels HEALTHY, or for a channel in OBSERVE, the channels named are excluded; a HEALTHY
channel that deviates once the median is gone is a disagreement. -/
def execChannelExclusion (chs : BitVec 3) (s : State) : Host.Outcome State Fault Refusal :=
  if s.mode < Mode.LOAD then .next s
  else
    let named := bitList 3 chs.toNat
    let ex := named.filter fun c => s.allHealthy || s.chState c == 2
    let s1 := ex.foldl (fun t c => t.exclude c 0) s
    let s2 := if ex.isEmpty then s1 else s1.afterExclusion
    if !s.allHealthy && named.any s.healthy then .next (s2.fatalHeld Fatal.KT_DISAGREE) else .next s2

/-- KETTLE_WATCHDOG_EXPIRY (R249, Table 13.5): a channel whose servo update is 10 ms late. -/
def execKettleWatchdogExpiry (ch : Nat) (s : State) : Host.Outcome State Fault Refusal :=
  if 3 ≤ ch then .fault .noSuchInstance
  else if s.chState ch = 1 ∨ s.mode < Mode.LOAD then .next s
  else
    let s1 := (s.watchdog (5 + ch)).flagBit F.KT_CH_FLAGS.WD ch
    .next ((s1.exclude ch 1).afterExclusion)

/-- CHANNEL_COPY (Table 08.3): the excluded channel is copied from the lead and enters OBSERVE; its agreement timer starts. -/
def execChannelCopy (ch : Nat) (s : State) : Host.Outcome State Fault Refusal :=
  if 3 ≤ ch then .fault .noSuchInstance
  else if s.chState ch = 1 then
    let s1 := (List.range 8).foldl (fun t d => t.setKtDom ch d (s.ktDom s.lead d)) s
    .next ({ s1 with kettle := { s1.kettle with obs := s1.kettle.obs.put ch s.cycle } }.setFld (F.chState ch) 2)
  else .next s

/-- OBSERVE_DEVIATION (Table 08.3): the agreement timer restarts. -/
def execObserveDeviation (ch : Nat) (s : State) : Host.Outcome State Fault Refusal :=
  if 3 ≤ ch then .fault .noSuchInstance
  else if s.chState ch = 2 then .next { s with kettle := { s.kettle with obs := s.kettle.obs.put ch s.cycle } }
  else .next s

/-- READMISSION (Table 08.3): the channel is HEALTHY again; a lower letter than the lead waits to take the lead back (R252). -/
def execReadmission (ch : Nat) (s : State) : Host.Outcome State Fault Refusal :=
  if 3 ≤ ch then .fault .noSuchInstance
  else if s.chState ch = 2 then
    let s1 := (s.setFld (F.chState ch) 0).count (Reg.KT_CNT 3)
    let s2 := { s1 with kettle := { s1.kettle with obs := s1.kettle.obs.del ch } }
    let s3 := ((s2.spoutEvent Sp.KT_CHANNEL ch 2).closeRecov (5 + ch)).condEnds Fatal.KT_DISAGREE
    .next (if !s.healthy s.lead then s3.handover
      else if ch < s.lead then s3.setFld F.KT_CH_STATUS.PENDING_HO 1 else s3)
  else .next s

/-- HANDOVER_FORCED (R252): the handover is made at the 1 µs limit. -/
def execHandoverForced (s : State) : Host.Outcome State Fault Refusal :=
  if s.fld F.KT_CH_STATUS.PENDING_HO = 1 then
    .next (((s.flag F.KT_CH_FLAGS.FORCED_HO).count (Reg.KT_CNT 4)).handover)
  else .next s

/-! ## Holdover and pairs (R242 to R248) -/

/-- The bound of f_i, 500 ppm. -/
def fiMax : Rat := 500 / 1000000

/-- Report f_i of the lead after it has changed: KT_FREQ in units of 2^-40, rounding open (log entry 3), and whether it is at its clamp (R239). -/
def State.reportFi (s : State) (d : Nat) : State :=
  let fi := (s.ktDom s.lead d).fi
  let lim := fi == fiMax || fi == -fiMax
  let s1 := s.setFld (F.KT_DOM_STATUS.FREQ_LIM d) (b2n lim)
  let s2 := if lim then s1.flag (F.KT_DOM_FLAGS.FREQ_LIM d) else s1
  (s2.tookFree).setFld (F.KT_FREQ.F_I d) (unsigned 32 (s2.roundOpen (fi * 2 ^ 40)))

/-- One channel's domain at entry to HOLDOVER: f_p is zero, f_i makes the increment equal to the mean. -/
def State.holdDom (s : State) (k : KtDom) : KtDom :=
  let i := s.holdInc k
  { k with inc := i, fi := if k.mem.isEmpty then k.fi else 1 - (i : Rat) / (incNom : Rat) }

/-- What every entry to HOLDOVER does besides (R242, R255): it is counted and flagged, HO_BAD channels are excluded, and a running
forced-holdover test is abandoned. -/
def State.holdoverMarks (s : State) (d : Nat) : State :=
  let s1 := ((s.flag (F.KT_DOM_FLAGS.HOLDOVER d)).count (Reg.KT_DOM_CNT d 6)).fhtAbandon
  match [0, 1, 2].filter fun c => s1.fldBit F.KT_CH_STATUS.HO_BAD c && s1.chState c != 1 with
  | [] => s1
  | bad => (bad.foldl (fun t c => t.exclude c 0) s1).afterExclusion

/-- Domain `d` enters HOLDOVER from a lost source (Table 08.2). -/
def State.toHoldover (s : State) (d : Nat) : State :=
  let s1 := (s.setFld (F.KT_DOM_STATUS.STATE d) Dom.HOLDOVER).holdoverMarks d
  (((s1.tookFree).eachCh d fun _ k => s1.holdDom k).reportFi d).spoutEvent Sp.KT_HOLDOVER d 0

/-- Whether pair `k` is active. -/
def State.pairActive (s : State) (k : Nat) : Bool := s.fld (F.KT_PAIR_STATUS.ACTIVE k) == 1

/-- Whether domain `d` may form a pair (R245): FREE, SERVO = 0 in the image, with a SLAVE port. -/
def State.pairable (s : State) (d : Nat) : Bool :=
  s.isFree d && !bitAt s.cfg.domServo d && s.fld (F.KT_DOM_CFG.SLAVE_PORT d) != 0xFF

/-- KT_PAIR_STATUS shows which pairs are active, after the image or a port's role has changed what R245 asks. -/
def State.pairsForm (s : State) : State :=
  [0, 1, 2, 3].foldl (fun t k => t.setFld (F.KT_PAIR_STATUS.ACTIVE k) (b2n (s.pairable (2 * k) && s.pairable (2 * k + 1)))) s

/-- Give a domain a state; where the partner of an active pair leaves LOCKED, a primary in FOLLOW enters HOLDOVER (Table 08.2). -/
def State.setDomState (s : State) (d st : Nat) : State :=
  let s1 := s.setFld (F.KT_DOM_STATUS.STATE d) st
  if d % 2 = 1 ∧ s.domState d = Dom.LOCKED ∧ st ≠ Dom.LOCKED ∧ s.domState (d - 1) = Dom.FOLLOW then
    (s1.setFld (F.KT_PAIR_STATUS.ON_PARTNER (d / 2)) 0).toHoldover (d - 1)
  else s1

/-- The primary of pair `k` enters FOLLOW (R246): it takes the partner's f_i and runs at that frequency; the phase term acts from the next update
on. -/
def State.toFollow (s : State) (k : Nat) : State :=
  let d := 2 * k
  let s1 := (s.setFld (F.KT_DOM_STATUS.STATE d) Dom.FOLLOW).setFld (F.KT_PAIR_STATUS.ON_PARTNER k) 1
  let s2 := (s1.count (Reg.KT_DOM_CNT d 7)).flag (F.KT_DOM_FLAGS.SWITCH d)
  let s3 := (s2.tookFree).eachCh d fun ch x =>
    { x with fi := (s.ktDom ch (d + 1)).fi, inc := s.incOf (incReal (s.ktDom ch (d + 1)).fi) }
  (s3.reportFi d).spoutEvent Sp.KT_PAIR k 0

/-- The source of domain `d` is lost (R243): FOLLOW where the pair is active and the partner LOCKED, else HOLDOVER. Of two domains of a pair that
lose theirs in one cycle the partner comes first, so that the primary enters HOLDOVER (Table 08.4, log entry 66). -/
def State.sourceLost (s : State) (d : Nat) : State :=
  if !s.isFree d || !s.kettleRuns then s
  else
    let s1 := (s.flag (F.KT_DOM_FLAGS.LOST d)).setFeed d { s.feed d with lost := true }
    let st := s.domState d
    if st = Dom.ACQUIRING ∨ st = Dom.LOCKED then
      if d % 2 = 0 ∧ s.pairActive (d / 2) = true ∧ s.domState (d + 1) = Dom.LOCKED then s1.toFollow (d / 2)
      else
        let s2 := s1.toHoldover d
        if d % 2 = 1 ∧ st = Dom.LOCKED ∧ s.domState (d - 1) = Dom.FOLLOW then
          (s2.setFld (F.KT_PAIR_STATUS.ON_PARTNER (d / 2)) 0).toHoldover (d - 1)
        else s2
    else s1

/-- SOURCE_LOSS (R243). -/
def execSourceLoss (d : Nat) (s : State) : Host.Outcome State Fault Refusal :=
  if 8 ≤ d then .fault .noSuchInstance else .next (s.sourceLost d)

/-- PAIR_REVERT (R247): the primary, whose feed has had entries since its source was lost and no loss since, returns to its own master. -/
def execPairRevert (k : Nat) (s : State) : Host.Outcome State Fault Refusal :=
  if 4 ≤ k then .fault .noSuchInstance
  else if s.domState (2 * k) = Dom.FOLLOW ∧ s.fld (F.KT_PAIR_STATUS.HELD k) = 0 ∧ (s.feed (2 * k)).lost = false then
    let s1 := (s.setFld (F.KT_DOM_STATUS.STATE (2 * k)) Dom.ACQUIRING).setFld (F.KT_PAIR_STATUS.ON_PARTNER k) 0
    let s2 := s1.setFeed (2 * k) { s1.feed (2 * k) with run := 0 }
    .next ((s2.count (Reg.KT_DOM_CNT (2 * k) 8)).spoutEvent Sp.KT_PAIR k 1)
  else .next s

/-- A direct write of a KT register. -/
def Acc.kt (ofs : Nat) : Acc := Acc.direct Base.KT ofs

/-- HOLD_PARTNER of pair `k` (R248). -/
def State.holdPartner (s : State) (a : Acc) (k : Nat) : State :=
  s.guard a [(!s.pairActive k, Err.NOT_PERMITTED), (s.domState (2 * k + 1) != Dom.LOCKED, Err.WRONG_MODE)]
    fun t => t.setFld (F.KT_PAIR_STATUS.HELD k) 1

/-- PAIR_HOLD_PARTNER (R248). -/
def execPairHoldPartner (k : Nat) (s : State) : Host.Outcome State Fault Refusal :=
  if 4 ≤ k then .fault .noSuchInstance else .next (s.holdPartner (Acc.kt (Reg.KT_PAIR_CTRL k)) k)

/-- USE_PRIMARY of pair `k` (R248): ends HOLD_PARTNER. -/
def State.usePrimary (s : State) (a : Acc) (k : Nat) : State :=
  s.guard a [] fun t => t.setFld (F.KT_PAIR_STATUS.HELD k) 0

/-- PAIR_USE_PRIMARY (R248). -/
def execPairUsePrimary (k : Nat) (s : State) : Host.Outcome State Fault Refusal :=
  if 4 ≤ k then .fault .noSuchInstance else .next (s.usePrimary (Acc.kt (Reg.KT_PAIR_CTRL k)) k)

/-! ## Offset feeds (R236, R237) -/

/-- Push an entry; the credit is the caller's. -/
def State.feedPush (s : State) (d : Nat) (e : FeedEntry) : State :=
  let f := s.feed d
  s.setFeed d { f with feed := f.feed ++ [e], fed := true, lost := false }

/-- The checks of a write to the servo, feed, credit, increment or slew registers of domain `d` (R259). -/
def State.freeOnly (s : State) (d : Nat) : Bool × Nat := (!s.isFree d, Err.NOT_PERMITTED)

/-- One second in 2^-16 ns. -/
def oneSec16 : Nat := 1000000000 * 2 ^ 16

/-- A write of KT_OFS_FEED_HI_d pushes a host entry (R236, R237). -/
def State.hostFeedPush (s : State) (a : Acc) (d hi : Nat) : State :=
  let v := signed 64 (hi * 2 ^ 32 + (s.feed d).lo)
  s.guard a [s.freeOnly d, (decide (oneSec16 < v.natAbs), Err.ILLEGAL_VALUE),
      (s.fld (F.KT_OFS_CREDIT.HOST d) == 0, Err.NO_CREDIT)] fun t =>
    ((t.feedPush d ⟨v, true, t.cycle⟩).setFld (F.KT_OFS_CREDIT.HOST d) (t.fld (F.KT_OFS_CREDIT.HOST d) - 1)).count (Reg.KT_DOM_CNT d 3)

/-- OFFSET_FEED_PUSH (R236). -/
def execOffsetFeedPush (d : Nat) (hi : BitVec 32) (s : State) : Host.Outcome State Fault Refusal :=
  if 8 ≤ d then .fault .noSuchInstance else .next (s.hostFeedPush (Acc.kt (Reg.KT_OFS_FEED_HI d)) d hi.toNat)

/-- The timing engine of the SLAVE port pushes an offset (R237): without a credit it is discarded and counted. -/
def State.engineFeedPush (s : State) (d : Nat) (v : Int) : State :=
  if s.fld (F.KT_OFS_CREDIT.ENGINE d) = 0 ∨ s.fld (F.KT_OFS_CREDIT.RECALLED d) = 1 then s.count (Reg.KT_DOM_CNT d 4)
  else ((s.feedPush d ⟨v, false, s.cycle⟩).setFld (F.KT_OFS_CREDIT.ENGINE d) (s.fld (F.KT_OFS_CREDIT.ENGINE d) - 1)).count (Reg.KT_DOM_CNT d 2)

/-- Grant `n` credits of domain `d` to the engine (R237). -/
def State.feedGrant (s : State) (a : Acc) (d n : Nat) : State :=
  s.guard a [s.freeOnly d, (decide (16 < n), Err.ILLEGAL_VALUE),
      (decide (n ≤ 16) && decide (s.fld (F.KT_OFS_CREDIT.HOST d) < n), Err.NO_CREDIT)] fun t =>
    if n = 0 then t
    else
      let t1 := t.setFld (F.KT_OFS_CREDIT.HOST d) (t.fld (F.KT_OFS_CREDIT.HOST d) - n)
      (t1.setFld (F.KT_OFS_CREDIT.ENGINE d) (t.fld (F.KT_OFS_CREDIT.ENGINE d) + n)).setFld (F.KT_OFS_CREDIT.RECALLED d) 0

/-- FEED_CREDIT_GRANT (R237). -/
def execFeedCreditGrant (d n : Nat) (s : State) : Host.Outcome State Fault Refusal :=
  if 8 ≤ d then .fault .noSuchInstance else .next (s.feedGrant (Acc.kt (Reg.KT_OFS_CREDIT d)) d n)

/-- Recall the engine's credits of domain `d` (R237). -/
def State.feedRecall (s : State) (a : Acc) (d : Nat) : State :=
  s.guard a [s.freeOnly d] fun t =>
    let t1 := t.setFld (F.KT_OFS_CREDIT.HOST d) (t.fld (F.KT_OFS_CREDIT.HOST d) + t.fld (F.KT_OFS_CREDIT.ENGINE d))
    (t1.setFld (F.KT_OFS_CREDIT.ENGINE d) 0).setFld (F.KT_OFS_CREDIT.RECALLED d) 1

/-- FEED_CREDIT_RECALL (R237). -/
def execFeedCreditRecall (d : Nat) (s : State) : Host.Outcome State Fault Refusal :=
  if 8 ≤ d then .fault .noSuchInstance else .next (s.feedRecall (Acc.kt (Reg.KT_OFS_CREDIT d)) d)

/-- The entries that an update in the present cycle takes: those pushed before it (R238). -/
def State.feedDue (s : State) (d : Nat) : List FeedEntry := (s.feed d).feed.filter fun e => decide (e.cycle < s.cycle)

/-- Consume the feed (R237, R238): each entry due returns a credit to its producer, an engine entry's to the host while RECALL is in force. -/
def State.feedConsume (s : State) (d : Nat) : State :=
  let es := s.feedDue d
  let byHost := (es.filter FeedEntry.host).length
  let byEng := es.length - byHost
  let rec' := s.fld (F.KT_OFS_CREDIT.RECALLED d) == 1
  let s1 := s.setFeed d { s.feed d with feed := (s.feed d).feed.filter fun e => !decide (e.cycle < s.cycle) }
  let s2 := s1.setFld (F.KT_OFS_CREDIT.HOST d) (s.fld (F.KT_OFS_CREDIT.HOST d) + byHost + (if rec' then byEng else 0))
  let s3 := s2.setFld (F.KT_OFS_CREDIT.ENGINE d) (s.fld (F.KT_OFS_CREDIT.ENGINE d) + (if rec' then 0 else byEng))
  s3.pfEvent 0x501 d es.length

/-! ## The servo (R238 to R241) -/

/-- The mean of a feed's entries, rounded towards zero (R238). -/
def feedMean (es : List FeedEntry) : Int := Int.tdiv (es.map FeedEntry.ofs).sum es.length

/-- A number of 2^-16 ns as seconds. -/
def secOf (x : Int) : Rat := (x : Rat) / (oneSec16 : Rat)

/-- A real value held inside ±`m`. -/
def clampRat (m x : Rat) : Rat := max (-m) (min m x)

/-- kp and ki of a domain (R239), and the update period in seconds. -/
def State.kp (s : State) (d : Nat) : Rat := (s.fld (F.KT_KP.GAIN d) : Rat) / 2 ^ 24
def State.ki (s : State) (d : Nat) : Rat := (s.fld (F.KT_KI.GAIN d) : Rat) / 2 ^ 24
def State.tu (s : State) (d : Nat) : Rat := 1 / 2 ^ (s.fld (F.KT_DOM_CFG.LOG2_RATE d))

/-- The slew limit as a fraction (R239). -/
def State.slew (s : State) (d : Nat) : Rat := (s.fld (F.KT_SLEW.PS_S d) : Rat) / 1000000000000

/-- A channel's view of θ, in 2^-48 ns (R239): zero difference while the channel agrees with the published value. -/
def State.thetaOf (s : State) (ch d : Nat) (theta : Int) : Int :=
  theta * 2 ^ 32 + ((s.ktDom ch d).ctr : Int) - (s.published d : Int)

/-- 2^-48 ns as seconds. -/
def secOf48 (x : Int) : Rat := (x : Rat) / (secUnits : Rat)

/-- The servo law of R239 outside a step, in one channel; `hist` says whether the increment enters the holdover memory. -/
def State.steer (s : State) (d : Nat) (th : Rat) (clampP hist : Bool) (k : KtDom) : KtDom :=
  let fi := clampRat fiMax (k.fi + s.ki d * th * s.tu d)
  let fp := if clampP then clampRat (s.slew d) (s.kp d * th) else s.kp d * th
  let inc := s.incOf (incReal (fi + fp))
  { k with fi := fi, inc := inc, mem := if hist then (inc :: k.mem).take 64 else k.mem }

/-- The law of R246 in FOLLOW: f_i is the partner's, the phase term is always clamped. -/
def State.follow (s : State) (d : Nat) (th : Rat) (fi : Rat) (k : KtDom) : KtDom :=
  let inc := s.incOf (incReal (fi + clampRat (s.slew d) (s.kp d * th)))
  { k with fi := fi, inc := inc, mem := (inc :: k.mem).take 64 }

/-- Show whether f_p was clamped at an update (R239), and f_i. -/
def State.reportClamps (s : State) (d : Nat) (slewing : Bool) : State :=
  let s1 := s.setFld (F.KT_DOM_STATUS.SLEWING d) (b2n slewing)
  (if slewing then s1.count (Reg.KT_DOM_CNT d 9) else s1).reportFi d

/-- Disarm the alarms of a domain without firing them (R256). -/
def State.disarmAlarms (s : State) (d : Nat) : State :=
  (List.range 8).foldl (fun t n => if t.fld (F.KT_ALM_CFG.DOMAIN n) = d then t.setFld (F.KT_ALM_CFG.ARM n) 0 else t) s

/-- The window of R51 measures a rate, so a step of domain `d` by `x` 2^-48 ns moves its beginning too (DEDUCED, log entry 51). -/
def State.winMove (s : State) (d : Nat) (x : Int) : State :=
  match s.aon.win.get? d with
  | none => s
  | some w => { s with aon := { s.aon with win := s.aon.win.put d (((w : Int) + x) % (ctrMod : Int)).toNat } }

/-- A single step of domain `d`, in channel `ch` by `x ch` 2^-48 ns (R39), with the DERIVED domains that follow domain 0 (R229). -/
def State.stepDomain (s : State) (d : Nat) (x : Nat → Int) : State :=
  let s1 := ((s.eachCh d fun ch k => k.move (x ch)).disarmAlarms d).winMove d (x s.lead)
  if d = 0 then
    (s.domains.filter s.isDerived).foldl (fun t e => ((t.eachCh e fun ch k => k.move (x ch)).disarmAlarms e).winMove e (x s.lead)) s1
  else s1

/-- The records of a step: flag, counter and KT_STEP event with the step of the published value (R39, R239); the acquisition run
restarts (R38). `arg` is 0 for a step under R39, 1 for a whole-second step (R273). -/
def State.noteStep (s : State) (d arg : Nat) (step16 : Int) : State :=
  let s1 := ((s.flag (F.KT_DOM_FLAGS.STEP d)).count (Reg.KT_DOM_CNT d 5)).setFeed d { s.feed d with run := 0 }
  s1.spoutEvent Sp.KT_STEP d arg (dataOf step16)

/-- The acquisition criterion of R38 after an update with entries. -/
def State.acquire (s : State) (d : Nat) (theta : Int) : State :=
  let f := s.feed d
  let ok := decide (theta.natAbs * 1000 ≤ s.cfg.acqThreshPs * 2 ^ 16)
  let run := if ok then f.run + 1 else 0
  let s1 := s.setFeed d { f with run := run }
  if s1.domState d = Dom.ACQUIRING ∧ 16 ≤ run then
    (s1.setFld (F.KT_DOM_STATUS.ACQ d) 1).setDomState d Dom.LOCKED
  else s1

/-- An update with entries in a state that the feed steers (R239). -/
def State.servoFeed (s : State) (d : Nat) (theta : Int) : State :=
  let st := s.domState d
  let s1 := if st = Dom.FREERUN ∨ st = Dom.HOLDOVER then s.setDomState d Dom.ACQUIRING else s
  let steep := s.mode == Mode.STEEP
  let thPub := s.thetaOf s.lead d theta
  if steep && decide (s.cfg.stepThreshNs * 2 ^ 48 < thPub.natAbs) then
    (s1.stepDomain d fun ch => -(s.thetaOf ch d theta)).noteStep d 0 (-theta)
  else
    let hist := st == Dom.LOCKED
    let s2 := (s1.tookFree).eachCh d fun ch k => s1.steer d (secOf48 (s.thetaOf ch d theta)) (!steep) hist k
    let slewing := !steep && decide (s.slew d < |s.kp d * secOf48 thPub|)
    (s2.reportClamps d slewing).acquire d theta

/-- An update of a primary in FOLLOW (R246). -/
def State.servoFollow (s : State) (d : Nat) : State :=
  let th := fun ch : Nat => secOf48 (((s.ktDom ch d).ctr : Int) - ((s.ktDom ch (d + 1)).ctr : Int))
  let s1 := (s.tookFree).eachCh d fun ch k => s.follow d (th ch) (s.ktDom ch (d + 1)).fi k
  s1.reportClamps d (decide (s.slew d < |s.kp d * th s.lead|))

/-- Leave MANUAL at an update (Table 08.2): f_i makes the increment unchanged; the domain is in HOLDOVER. -/
def State.leaveManual (s : State) (d : Nat) : State :=
  let s1 := s.eachCh d fun _ k => { k with fi := 1 - (k.inc : Rat) / (incNom : Rat) }
  ((s1.setDomState d Dom.HOLDOVER).holdoverMarks d).reportFi d

/-- One update of the servo of FREE domain `d` (R238). -/
def State.servoUpdate (s : State) (d : Nat) : State :=
  let es := s.feedDue d
  let s1 := ((s.count (Reg.KT_DOM_CNT d 0)).pfEvent 0x500 d 1).feedConsume d
  let theta := feedMean es
  let s2 := if es.isEmpty then s1.count (Reg.KT_DOM_CNT d 1)
    else s1.setPair (Reg.KT_LAST_OFS_LO d) (Reg.KT_LAST_OFS_HI d) theta
  let st := s.domState d
  let k := d / 2
  if s.fld (F.KT_SERVO.MANUAL d) = 1 then
    if st = Dom.MANUAL then s2
    else (if d % 2 = 0 then s2.setFld (F.KT_PAIR_STATUS.ON_PARTNER k) 0 else s2).setDomState d Dom.MANUAL
  else if st = Dom.MANUAL then s2.leaveManual d
  else if st = Dom.FOLLOW then s2.servoFollow d
  else if d % 2 = 0 ∧ s.pairActive k = true ∧ s.fld (F.KT_PAIR_STATUS.HELD k) = 1 ∧ s.domState (d + 1) = Dom.LOCKED then
    (s2.toFollow k).servoFollow d
  else if es.isEmpty then s2
  else s2.servoFeed d theta

/-- SERVO_UPDATE (R238). -/
def execServoUpdate (d : Nat) (s : State) : Host.Outcome State Fault Refusal :=
  if 8 ≤ d then .fault .noSuchInstance
  else if s.isFree d && s.kettleRuns then .next (s.servoUpdate d) else .next s

/-- Whether the image lets the host write fields of mutability class `c` (R68). -/
def State.isMutable (s : State) (c : Nat) : Bool := s.fldBit F.IMG_MUT_MASK.MASK c

/-- A write of KT_INC_HI_d applies the 56-bit increment in MANUAL (R241). -/
def State.incWrite (s : State) (a : Acc) (d hi : Nat) : State :=
  let v := (hi % 2 ^ 24) * 2 ^ 32 + (s.feed d).incLo
  s.guard a [s.freeOnly d, (!s.isMutable 9, Err.NOT_PERMITTED), (s.domState d != Dom.MANUAL, Err.WRONG_MODE),
      (decide (2 ^ 24 ≤ hi), Err.RESERVED_FIELD), (decide (v < incMin) || decide (incMax < v), Err.ILLEGAL_VALUE)] fun t =>
    t.eachCh d fun _ k => { k with inc := v }

/-- INCREMENT_WRITE (R241). -/
def execIncrementWrite (d : Nat) (hi : BitVec 32) (s : State) : Host.Outcome State Fault Refusal :=
  if 8 ≤ d then .fault .noSuchInstance else .next (s.incWrite (Acc.kt (Reg.KT_INC_HI d)) d hi.toNat)

/-! ## Time base (R231 to R233) -/

/-- The FREERUN domains run on the time-base increment once it is valid (Table 08.2). -/
def State.freerunInc (s : State) : State :=
  match s.kettle.tb.inc with
  | none => s
  | some i => s.domains.foldl (fun t d => if s.domState d = Dom.FREERUN then t.eachCh d fun _ k => { k with inc := i } else t) s

/-- TIMEBASE_GATE_END (R231, R232): a gate of `cycles` core cycles closes; while the reference is absent no gate runs, and one in which it was
absent is discarded (Table 08.4). -/
def execTimebaseGateEnd (cycles : Nat) (s : State) : Host.Outcome State Fault Refusal :=
  if !s.kettleRuns || cycles == 0 || s.fld F.KT_TB_STATUS.ABSENT == 1 then .next s
  else
    let gs := (cycles :: s.kettle.tb.gates).take 16
    let inc := limitInc (roundDiv ((1000000000 * gs.length * 2 ^ 48 : Nat) : Int) gs.sum)
    let s1 := { s with kettle := { s.kettle with tb := ⟨gs, some inc⟩ } }
    .next (((s1.setFld F.KT_TB_STATUS.VALID 1).setFld F.KT_TB_STATUS.GATES gs.length).freerunInc)

/-- OCXO_WARM_FALL (R233). -/
def execOcxoWarmFall (s : State) : Host.Outcome State Fault Refusal :=
  let s0 := { s with dev := { s.dev with ocxoWarm := false } }
  if s.fld F.KT_TB_STATUS.TIMEBASE = 2 then
    let s1 := s0.setFld F.KT_TB_STATUS.WARM 0
    if Mode.STEEP < s.mode then .next ((s1.flag F.KT_TB_FLAGS.WARM_LOST).spoutEvent Sp.KT_TB 0 1) else .next s1
  else .next s0

/-- OCXO_WARM_RISE (R37): the level is reported; in STEEP the acquisition limit is counted from here. -/
def execOcxoWarmRise (s : State) : Host.Outcome State Fault Refusal :=
  let s0 := { s with dev := { s.dev with ocxoWarm := true } }
  if s.fld F.KT_TB_STATUS.TIMEBASE = 2 then .next (s0.setFld F.KT_TB_STATUS.WARM 1) else .next s0

/-! ## Captures (R234, R257) -/

/-- Latch the published values of all enabled domains into capture set `src`. -/
def State.capture (s : State) (src : Nat) : State :=
  let c := (List.range 8).foldl (fun m d => m.setD (src * 8 + d) (if s.domEnabled d then s.now16 d else 0) 0) s.kettle.cap
  let s1 := { s with kettle := { s.kettle with cap := c } }
  let s2 := if s.fldBit F.KT_CAP_STATUS.NEW src then s1.flagBit F.KT_CAP_STATUS.OVW src else s1
  s2.flagBit F.KT_CAP_STATUS.NEW src

/-- PPS_EDGE (R234). -/
def execPpsEdge (i : Nat) (s : State) : Host.Outcome State Fault Refusal :=
  if 2 ≤ i then .fault .noSuchInstance
  else if s.kettleRuns then .next ((s.capture (1 + i)).count (Reg.KT_CNT (9 + i))) else .next s

/-- A host snapshot (R257). -/
def State.snap (s : State) (a : Acc) : State := s.guard a [] fun t => t.capture 0

/-- SNAPSHOT (R257). -/
def execSnapshot (s : State) : Host.Outcome State Fault Refusal := .next (s.snap (Acc.kt Reg.KT_CAP_CTRL))

/-! ## The forced-holdover test (R254, R255) -/

/-- A host start of a test (R254). -/
def State.fhtHost (s : State) (a : Acc) (ch : Nat) : State :=
  s.guard a [(s.mode != Mode.BREEZE && s.mode != Mode.GALE && s.mode != Mode.CALM, Err.WRONG_MODE),
      (s.fhtDomain.isNone, Err.WRONG_MODE), (s.fld F.KT_FHT_STATUS.RUN == 1, Err.BUSY), (decide (3 ≤ ch), Err.ILLEGAL_VALUE)]
    fun t => match t.fhtDomain with
      | some d => t.fhtBegin ch d
      | none => t

/-- FHT_START (R254). -/
def execFhtStart (ch : Nat) (s : State) : Host.Outcome State Fault Refusal :=
  if 4 ≤ ch then .fault .noSuchInstance else .next (s.fhtHost (Acc.kt Reg.KT_FHT_CTRL) ch)

/-- FHT_PERIODIC_DUE (R254): while a test runs, the periodic test waits for its end. -/
def execFhtPeriodicDue (s : State) : Host.Outcome State Fault Refusal :=
  if s.fld F.KT_CFG.FHT_H = 0 then .next s
  else if s.fld F.KT_FHT_STATUS.RUN = 1 then
    .next { s with kettle := { s.kettle with fht := { s.kettle.fht with due := true } } }
  else .next s.fhtPeriodic

/-- FHT_COMPLETE (R254, R255): compare the shadow counter with the live one after 10 s. -/
def execFhtComplete (fault : Int) (s : State) : Host.Outcome State Fault Refusal :=
  if s.fld F.KT_FHT_STATUS.RUN = 0 then .next s
  else
    let f := s.kettle.fht
    let ch := s.fld F.KT_FHT_STATUS.CH
    let shadow := (f.seed : Int) + f.inc * ((s.cycle - f.cycle : Nat) : Int)
    let diff : Rat := ((shadow - ((s.ktDom ch f.domain).ctr : Int) : Int) : Rat) + (fault : Rat) * 2 ^ 48 / 1000
    let ps := clampInt (-(2 ^ 31)) (2 ^ 31 - 1) (s.roundOpen (diff * 1000 / 2 ^ 48))
    let pass := decide (|diff| ≤ (100 * 2 ^ 48 : Nat))
    let s1 := ((s.tookFree.setFld F.KT_FHT_STATUS.RUN 0).setFld F.KT_FHT_STATUS.LAST (if pass then 1 else 2)).setFld F.KT_FHT_DEV.PS (unsigned 32 ps)
    let s2 := (s1.count (Reg.KT_CNT 6)).setFldBit F.KT_CH_STATUS.HO_BAD ch (!pass)
    let s3 := if pass then s2 else (s2.count (Reg.KT_CNT 7)).flagBit F.KT_CH_FLAGS.FHT_FAIL ch
    .next ((s3.spoutEvent Sp.KT_FHT ch (if pass then 1 else 2) (dataOf ps)).fhtNext)

/-! ## Alarms (R256) -/

/-- The target of alarm `n` as NS32 with its fraction. -/
def State.alarmTarget (s : State) (n : Nat) : Nat :=
  s.fld (F.KT_ALM_NS.NS32 n) * 2 ^ 16 + s.fld (F.KT_ALM_FRAC.FRAC n)

/-- Arm alarm `n` on a domain: a target beyond 2 s is RANGE, one more than 1 ms past is STALE. -/
def State.alarmArm (s : State) (a : Acc) (n dom : Nat) (sp : Bool) : State :=
  let d := diff48 (s.alarmTarget n) (ns48 (s.now16 dom))
  s.guard a [(decide ((2000000000 * 2 ^ 16 : Nat) < d), Err.RANGE), (decide (d < -((1000000 * 2 ^ 16 : Nat) : Int)), Err.STALE),
      (!s.domEnabled dom, Err.ILLEGAL_VALUE)] fun t =>
    ((t.setFld (F.KT_ALM_CFG.DOMAIN n) dom).setFld (F.KT_ALM_CFG.SPOUT n) (b2n sp)).setFld (F.KT_ALM_CFG.ARM n) 1

/-- ALARM_ARM (R256). -/
def execAlarmArm (n dom : Nat) (sp : Bool) (s : State) : Host.Outcome State Fault Refusal :=
  if 8 ≤ n ∨ 8 ≤ dom then .fault .noSuchInstance else .next (s.alarmArm (Acc.kt (Reg.KT_ALM_CFG n)) n dom sp)

/-- ALARM_FIRE (R256). -/
def execAlarmFire (n : Nat) (s : State) : Host.Outcome State Fault Refusal :=
  if 8 ≤ n then .fault .noSuchInstance
  else if s.fld (F.KT_ALM_CFG.ARM n) = 1 then
    let s1 := (s.flagBit F.KT_ALM_STATUS.FIRED n).setFld (F.KT_ALM_CFG.ARM n) 0
    let s2 := if s.fld (F.KT_ALM_CFG.SPOUT n) = 1 then s1.spoutEvent Sp.KT_ALARM n 0 else s1
    .next (s2.offerTrigger (fun t r => t.fldBit (F.CD_RING_TRIG_SRC.ALM r) n) 4 n)
  else .next s

/-! ## Entry to STEEP (Table 08.2, R229) -/

/-- A domain starts in STEEP. -/
def State.domSteep (s : State) (fresh : Bool) (d : Nat) : State :=
  let new := fresh || (s.aon.copies.get? d).isNone
  let s0 := ((s.setFld (F.KT_DOM_STATUS.ACQ d) 0).setFeed d { s.feed d with run := 0, fed := false, lost := false })
  if s.isDerived d then
    let s1 := s0.setFld (F.KT_DOM_STATUS.STATE d) Dom.DERIVED
    if new then
      s1.eachCh d fun ch k => { k with ctr := ((((s.ktDom ch 0).ctr : Int) + s.cfg.domOffset.getD d 0 * 2 ^ 32) % (ctrMod : Int)).toNat }
    else s1
  else
    let m := s.fld (F.KT_SERVO.MANUAL d)
    ((s0.eachCh d fun _ k => { k with fi := 0, inc := incNom, mem := [] }).setFld (F.KT_DOM_STATUS.STATE d)
      (if m = 1 then Dom.MANUAL else Dom.FREERUN)).reportFi d

/-- The window of R51 begins for every enabled domain. -/
def State.winBegin (s : State) : State :=
  { s with aon := { s.aon with win := s.domains.foldl (fun m d => m.put d (s.published d)) SMap.empty } }

/-- Every enabled domain starts; the gate history is empty. `fresh` says that no time was held over from before (R229). -/
def State.kettleSteep (s : State) (fresh : Bool) : State :=
  let s1 := { s with kettle := { s.kettle with tb := ⟨[], none⟩, hist := SMap.empty } }
  let s2 := ((s1.setFld F.KT_TB_STATUS.VALID 0).setFld F.KT_TB_STATUS.GATES 0).setFld F.KT_TB_STATUS.ABSENT 0
  (s.domains.foldl (fun t d => t.domSteep fresh d) s2).winBegin

/-- Whether a domain counts as acquired for the exit from STEEP (R244). -/
def State.domAcquired (s : State) (d : Nat) : Bool :=
  let st := s.domState d
  let one : Nat → Bool := fun e =>
    s.domState e == Dom.MANUAL || s.fld (F.KT_DOM_STATUS.ACQ e) == 1 ||
      (s.fld (F.KT_DOM_CFG.SLAVE_PORT e) == 0xFF && !(s.feed e).fed && s.fld F.KT_TB_STATUS.VALID == 1)
  if st = Dom.DERIVED then one 0 else one d

end Sys2Proof.Machine
end

