-- ==== Sys2Proof/Machine/Vane.lean ====
section
/-! DEFINITION. Vane (11_vane_reference_selection.md): candidates, their qualification and quality levels, selection, the DPLL's states,
switching and holdover. -/

namespace Sys2Proof.Machine

/-! ## Lines -/

/-- Trunk states (LN_TRUNK_STATUS.STATE). -/
def Tr.OFF : Nat := 0
def Tr.CAP : Nat := 1
def Tr.NEGO : Nat := 2
def Tr.SWITCH : Nat := 3
def Tr.TRAIN : Nat := 4
def Tr.FALLBACK : Nat := 5
def Tr.UP : Nat := 6
def Tr.IDLE : Nat := 7
def Tr.MISMATCH : Nat := 8

def State.trState (s : State) (p : Nat) : Nat := s.fld (F.LN_TRUNK_STATUS.STATE p)
def State.trunk (s : State) (p : Nat) : Trunk := s.lines.trunk.getD p Trunk.fresh

/-- The current step of a trunk (LN_TRUNK_STATUS.STEP). -/
def State.trunkStep (s : State) (p : Nat) : Nat := s.fld (F.LN_TRUNK_STATUS.STEP p)

/-- The step at which the line of a trunk runs: the one being trained, else the current one (Table 04.9). -/
def State.lineStep (s : State) (p : Nat) : Nat :=
  if s.trState p = Tr.TRAIN ∨ s.trState p = Tr.FALLBACK then (s.trunk p).train else s.trunkStep p

/-- The baud rate of a lane in its present mode or step, in kbaud (Table 04.1, Table 04.7). -/
def State.laneKbaud (s : State) (l : Nat) : Nat :=
  let m := s.laneMode l
  let k := s.lineStep (s.lanePort l)
  if m = 1 then 1250000 else if m = 2 then 10312500 else if m = 3 ∨ m = 4 then 25781250
  else if k = 0 then 1250000 else if k = 1 then 5156250 else if k = 2 then 10312500 else if k = 3 then 25781250 else 28125000

/-! ## Candidates (R310 to R317) -/

def Cand.NEW : Nat := 0
def Cand.QUALIFIED : Nat := 1
def Cand.MARGINAL : Nat := 2
def Cand.DISQUALIFIED : Nat := 3
def Cand.RESTORING : Nat := 4
def Cand.UNUSED : Nat := 7

def State.candState (s : State) (i : Nat) : Nat := s.fld (F.VN_CAND_STATUS.STATE i)
def State.candSource (s : State) (i : Nat) : Nat := s.fld (F.VN_CAND_CFG.SOURCE i)
def State.candActive (s : State) (i : Nat) : Bool := s.fld (F.VN_CAND_STATUS.ACTIVE i) == 1
def State.candQl (s : State) (i : Nat) : Nat := s.fld (F.VN_CAND_STATUS.QL i)

/-- Whether candidate `i` is a used record. -/
def State.candUsed (s : State) (i : Nat) : Bool := decide (i < 11) && s.candSource i != 0xFF

/-- Whether candidate `i` is a lane. -/
def State.candLane (s : State) (i : Nat) : Bool := decide (s.candSource i < 192)

/-- The rank of a quality level: 1 best, 5 not selectable (Table 11.3). -/
def qlRank (q : Nat) : Nat := if q = 2 then 1 else if q = 4 then 2 else if q = 8 then 3 else if q = 0xB then 4 else 5

/-- Whether candidate `i` is eligible (R318). -/
def State.eligible (s : State) (i : Nat) : Bool :=
  s.candUsed i && (s.candState i == Cand.QUALIFIED || s.candState i == Cand.MARGINAL) && decide (qlRank (s.candQl i) < 5)

/-- Whether candidate `i` is preferred to candidate `j` (R318). -/
def State.betterCand (s : State) (i j : Nat) : Bool :=
  let a := qlRank (s.candQl i)
  let b := qlRank (s.candQl j)
  let p := s.fld (F.VN_CAND_CFG.PRIORITY i)
  let q := s.fld (F.VN_CAND_CFG.PRIORITY j)
  decide (a < b) || (a == b && (decide (p < q) || (p == q && decide (i < j))))

/-- The best candidate (R318). -/
def State.bestCand (s : State) : Option Nat :=
  ((List.range 11).filter s.eligible).foldl (fun b i =>
    match b with
    | none => some i
    | some j => if s.betterCand i j then some i else some j) none

/-! ## The DPLL (R319, R323) -/

def Vn.FREERUN : Nat := 0
def Vn.LOCKED : Nat := 1
def Vn.HOLDOVER : Nat := 2
def Vn.SWITCHING : Nat := 3

def State.vnState (s : State) : Nat := s.fld F.VN_STATUS.STATE

/-- The port whose lane Vane has selected while LOCKED. -/
def State.vnPort (s : State) : Option Nat :=
  if s.vnState = Vn.LOCKED ∧ s.candSource (s.fld F.VN_STATUS.SEL) < 192 then
    some (s.lanePort (s.candSource (s.fld F.VN_STATUS.SEL))) else none

/-- Bring L1 of the timing engines up to date: it is in force only on the port whose lane Vane is LOCKED on (R270, R325). -/
def State.l1Update (s : State) : State :=
  s.ports.foldl (fun t p =>
    let v := b2n (s.vnPort == some p)
    if t.fld (F.PRT_TT_STATUS.L1 p) = v then t else t.setFld (F.PRT_TT_STATUS.L1 p) v) s

/-- Show the quality level of the selected candidate or of the target (VN_STATUS.SEL_QL). -/
def State.selQlUpdate (s : State) : State :=
  s.setFld F.VN_STATUS.SEL_QL
    (if s.vnState = Vn.LOCKED then s.candQl (s.fld F.VN_STATUS.SEL)
      else if s.vnState = Vn.SWITCHING then s.candQl (s.fld F.VN_STATUS.TARGET) else 0xF)

/-- Vane enters state `st` with `sel` selected or `target` aimed at (0xF none): flag, Spout event, L1. -/
def State.vnEnter (s : State) (st sel target : Nat) : State :=
  let s1 := ((s.setFld F.VN_STATUS.STATE st).setFld F.VN_STATUS.SEL sel).setFld F.VN_STATUS.TARGET target
  let s2 := (s1.flagBit ⟨Reg.VN_FLAGS, 31, 0⟩ st).selQlUpdate
  (s2.spoutEvent Sp.VN_STATE st (if st = Vn.SWITCHING then target else sel)).l1Update

/-- The mean of the holdover records older than 1 s, from the last 16 s (R323); none where there are none. -/
def State.hoMean (s : State) : Option Rat :=
  match (s.vane.recs.take 160).drop 10 with
  | [] => none
  | r :: rs => some ((((r :: rs).map BitVec.toInt).sum : Rat) / ((rs.length + 1 : Nat) : Rat))

/-- Bring the holdover word and its validity up to date. -/
def State.hoUpdate (s : State) : State :=
  match s.hoMean with
  | none => s.setFld F.VN_STATUS.HO_VALID 0
  | some q => (s.tookFree.setFld F.VN_HO_WORD.WORD (unsigned 32 (s.roundOpen q))).setFld F.VN_STATUS.HO_VALID 1

/-- Vane enters HOLDOVER on the holdover word, or FREERUN on word 0 where that is not valid (R319). -/
def State.vnHold (s : State) : State :=
  let s0 := ({ s with vane := { s.vane with abandoned := false } }.setFld F.VN_PULL.REMAIN 0).setFld F.VN_STATUS.PEND 0
  if s.fld F.VN_STATUS.HO_VALID = 1 then
    ((s0.setFld F.VN_STEER.WORD (s.fld F.VN_HO_WORD.WORD)).count (Reg.VN_CNT 1)).vnEnter Vn.HOLDOVER 0xF 0xF
  else ((s0.setFld F.VN_STEER.WORD 0).count (Reg.VN_CNT 2)).vnEnter Vn.FREERUN 0xF 0xF

/-- The largest steering word: 25 ppm in units of 2^-40 (R325). -/
def steerMax : Int := 27487790

/-- A phase difference in 0.1 ns as Vane compares it, at 1 MHz: in [-500, +500) ns (R320). -/
def phaseDiff (delta : Int) : Int := (delta + 5000) % 10000 - 5000

/-- A switch to candidate `i` begins with phase difference `delta` in 0.1 ns (R320). The loop then tracks the target, so the steering
word is open within its range of 25 ppm (R325, log entry 3). -/
def State.vnSwitch (s : State) (i : Nat) (delta : Int) : State :=
  let d := phaseDiff delta
  let w : Int := (s.freeVal : Int) % (2 * steerMax + 1) - steerMax
  let s0 := { s.tookFree with vane := { s.vane with abandoned := false, flat := 0 } }.setFld F.VN_STATUS.PEND 0
  let s1 := (s0.setFld F.VN_PULL.DELTA (unsigned 16 d)).setFld F.VN_PULL.REMAIN (unsigned 16 d)
  ((s1.setFld F.VN_STEER.WORD (unsigned 32 w)).count (Reg.VN_CNT 0)).vnEnter Vn.SWITCHING 0xF i

/-- Whether a better candidate than the target waits for the running switch (VN_STATUS.PEND, R321). -/
def State.pendUpdate (s : State) : State :=
  s.setFld F.VN_STATUS.PEND (b2n (match s.bestCand with | some b => b != s.fld F.VN_STATUS.TARGET | none => false))

/-- After a change of a candidate: its ELIGIBLE bit; a selected reference that is no longer eligible ends LOCKED (R319), a target that is
not abandons the switch (R322); a better candidate during a switch is pending (R321). -/
def State.vnRecheck (s : State) (i : Nat) : State :=
  let e := s.eligible i
  let s1 := (s.setFld (F.VN_CAND_STATUS.ELIGIBLE i) (b2n e)).selQlUpdate
  if !s.vane.started then s1
  else if s.vnState = Vn.LOCKED ∧ s.fld F.VN_STATUS.SEL = i ∧ e = false then s1.vnHold
  else if s.vnState = Vn.SWITCHING ∧ s.vane.abandoned = false then
    if s.fld F.VN_STATUS.TARGET = i ∧ e = false then
      { s1 with vane := { s1.vane with abandoned := true } }.flag F.VN_FLAGS.ABANDON
    else s1.pendUpdate
  else s1

/-- Candidate `i` changes state (Table 11.2): Spout event of source VN_CAND. -/
def State.candTo (s : State) (i st : Nat) : State :=
  let s1 := s.setFld (F.VN_CAND_STATUS.STATE i) st
  let s2 := if st = Cand.RESTORING then
      { s1 with vane := { s1.vane with wtr := s1.vane.wtr.put i (s.fld F.VN_CFG1.WTR_S * 1000) } }.setFld
        (F.VN_CAND_STATUS.WTR_LEFT i) (s.fld F.VN_CFG1.WTR_S)
    else { s1 with vane := { s1.vane with wtr := s1.vane.wtr.del i } }.setFld (F.VN_CAND_STATUS.WTR_LEFT i) 0
  (s2.spoutEvent Sp.VN_CAND i st (s.candQl i)).vnRecheck i

/-- The quality level of lane candidate `i` becomes `q` (R316): a change is counted, flagged and reported. -/
def State.setQl (s : State) (i q : Nat) : State :=
  if s.candQl i = q then s
  else
    let s1 := ((s.setFld (F.VN_CAND_STATUS.QL i) q).count (Reg.VN_CNT 5)).flag (F.VN_CAND_FLAGS.QL_CHANGE i)
    (s1.spoutEvent Sp.VN_CAND i (s.candState i) q).vnRecheck i

/-- Candidate `i` becomes inactive (R312, R314). -/
def State.candInactive (s : State) (i : Nat) : State :=
  if s.candUsed i && s.vane.started && s.candActive i then
    let s1 := ((s.setFld (F.VN_CAND_STATUS.ACTIVE i) 0).count (Reg.VN_CNT 3)).flag (F.VN_CAND_FLAGS.INACTIVE i)
    let st := s.candState i
    if st = Cand.QUALIFIED ∨ st = Cand.MARGINAL ∨ st = Cand.RESTORING then s1.candTo i Cand.DISQUALIFIED else s1
  else s

/-- The activity condition of a lane (Table 11.1). -/
def State.laneActive (s : State) (l : Nat) : Bool :=
  s.fld (F.LN_STATUS.LOS l) == 0 && s.fld (F.LN_STATUS.LOL l) == 0 && s.oper (s.lanePort l) == Oper.UP

/-- Whether the state shows the activity condition of candidate `i` (Table 11.1): a lane's, or of TIME_REF_IN that it is not absent; none for the two
reference inputs, whose edges no state holds. -/
def State.candHolds (s : State) (i : Nat) : Option Bool :=
  if s.candLane i then some (s.laneActive (s.candSource i))
  else if s.candSource i = 0xC2 then some (s.fld F.KT_TB_STATUS.ABSENT == 0)
  else none

/-- Candidate `i` becomes active (R312); the frequency monitor counts its window from here (R313). -/
def State.candActivate (s : State) (i : Nat) : State :=
  if s.candUsed i && s.vane.started && !s.candActive i then
    { s with vane := { s.vane with since := s.vane.since.put i s.cycle } }.setFld (F.VN_CAND_STATUS.ACTIVE i) 1
  else s

/-- The candidates that are TIME_REF_IN follow its absence in the same cycle (R232, R312). -/
def State.timeRefFollow (s : State) : State :=
  ((List.range 11).filter fun i => s.candSource i == 0xC2).foldl (fun t i =>
    if s.fld F.KT_TB_STATUS.ABSENT = 0 then t.candActivate i else t.candInactive i) s

/-- TIMEBASE_ABSENT (R232): the gates stop and the increment is held. -/
def execTimebaseAbsent (s : State) : Host.Outcome State Fault Refusal :=
  if !s.kettleRuns || s.fld F.KT_TB_STATUS.ABSENT == 1 then .next s
  else
    .next ((((s.setFld F.KT_TB_STATUS.ABSENT 1).flag F.KT_TB_FLAGS.ABSENT).count (Reg.KT_CNT 8)).spoutEvent Sp.KT_TB 0 0).timeRefFollow

/-- TIMEBASE_PRESENT (R232): ABSENT clears, the gate history is discarded, gating restarts; VALID stays. -/
def execTimebasePresent (s : State) : Host.Outcome State Fault Refusal :=
  if !s.kettleRuns || s.fld F.KT_TB_STATUS.ABSENT == 0 then .next s
  else
    let s1 := { s with kettle := { s.kettle with tb := { s.kettle.tb with gates := [] } } }
    .next ((s1.setFld F.KT_TB_STATUS.ABSENT 0).setFld F.KT_TB_STATUS.GATES 0).timeRefFollow

/-- The lane candidates of a port. -/
def State.candsOfPort (s : State) (p : Nat) : List Nat :=
  (List.range 11).filter fun i => s.candUsed i && s.candLane i && s.lanePort (s.candSource i) == p

/-- A port's oper state or a lane's LOS or LOL has changed: its lane candidates follow in the same cycle (R312), and off UP their quality
level is QL-DNU (R316). -/
def State.vnPortChange (s : State) (p : Nat) : State :=
  (s.candsOfPort p).foldl (fun t i =>
    let t1 := if t.laneActive (t.candSource i) then t.candActivate i else t.candInactive i
    if t1.oper p = Oper.UP then t1 else t1.setQl i 0xF) s

/-- CANDIDATE_INACTIVE (R312): where the state shows the condition, only while it fails. -/
def execCandidateInactive (i : Nat) (s : State) : Host.Outcome State Fault Refusal :=
  if 11 ≤ i then .fault .noSuchInstance
  else if s.candHolds i == some true then .next s
  else .next (s.candInactive i)

/-- CANDIDATE_ACTIVE (R312): where the state shows the condition, only while it holds. -/
def execCandidateActive (i : Nat) (s : State) : Host.Outcome State Fault Refusal :=
  if 11 ≤ i then .fault .noSuchInstance
  else if s.candHolds i == some false then .next s
  else .next (s.candActivate i)

/-- A measurement of candidate `i` (Table 11.2). One that is not within accept governs over a wait-to-restore that expired in the same cycle: the restoration
is taken back (R329). -/
def State.candMeasure (s : State) (i : Nat) (y : Int) : State :=
  let s0 := s.setFld (F.VN_CAND_FREQ.PPB i) (unsigned 32 y)
  let accept := decide (y.natAbs ≤ s.fld F.VN_CFG.ACCEPT_PPB)
  let beyond := decide (s.fld F.VN_CFG.REJECT_PPB < y.natAbs)
  let rejected := fun t : State => ((t.flag (F.VN_CAND_FLAGS.REJECT i)).count (Reg.VN_CNT 3)).candTo i Cand.DISQUALIFIED
  let st := s.candState i
  if st = Cand.NEW then
    if accept then s0.candTo i Cand.QUALIFIED else if beyond then rejected s0 else s0
  else if st = Cand.QUALIFIED ∧ accept = false ∧ s.vane.restored.get? i = some s.cycle then
    (s0.countN (Reg.VN_CNT 4) (2 ^ 64 - 1)).candTo i Cand.DISQUALIFIED
  else if st = Cand.QUALIFIED then
    if beyond then rejected s0 else if accept then s0 else (s0.flag (F.VN_CAND_FLAGS.MARGINAL i)).candTo i Cand.MARGINAL
  else if st = Cand.MARGINAL then
    if beyond then rejected s0 else if accept then s0.candTo i Cand.QUALIFIED else s0
  else if st = Cand.DISQUALIFIED then if accept then s0.candTo i Cand.RESTORING else s0
  else if st = Cand.RESTORING then if accept then s0 else s0.candTo i Cand.DISQUALIFIED
  else s0

/-- The nominal frequency of candidate `i` in Hz (Table 11.1): the line rate of a lane, or 10 MHz or 25 MHz by FREQ or TIMEBASE. -/
def State.candNominal (s : State) (i : Nat) : Nat :=
  if s.candLane i then s.laneKbaud (s.candSource i) * 1000
  else if s.candSource i = 0xC2 then (if s.fld F.KT_TB_STATUS.TIMEBASE = 1 then 25000000 else 10000000)
  else if s.fld (F.VN_CAND_CFG.FREQ i) = 1 then 25000000 else 10000000

/-- Whether the window of 1 s that ends now is complete: the candidate was active throughout it (R313). -/
def State.windowFull (s : State) (i : Nat) : Bool :=
  s.candActive i && decide (s.vane.since.getD i 0 + 1250000000 ≤ s.cycle)

/-- The fractional offset in ppb of `n` cycles of candidate `i`, in 2^-16 of a cycle, in a window of 1 s (R313). -/
def State.candOffset (s : State) (i n : Nat) : Int :=
  s.roundOpen (((n : Rat) / (65536 * (s.candNominal i : Rat)) - 1) * 1000000000)

/-- FREQ_MEASUREMENT (R313): the cycles of the candidate in the window of 1 s that ends now, in 2^-16 of a cycle; `none` is a window that was cut short. An
incomplete window gives no measurement. The rounding to 1 ppb is open (log entry 3). -/
def execFreqMeasurement (i : Nat) (n : Option Nat) (s : State) : Host.Outcome State Fault Refusal :=
  if 11 ≤ i then .fault .noSuchInstance
  else if s.candUsed i && s.vane.started then
    match n with
    | none => .next (s.setFld (F.VN_CAND_FREQ.PPB i) 0x80000000)
    | some v => .next (if s.windowFull i then s.tookFree.candMeasure i (s.candOffset i v) else s.setFld (F.VN_CAND_FREQ.PPB i) 0x80000000)
  else .next s

/-- WTR_EXPIRY (R314): it acts once the whole wait-to-restore has passed. -/
def execWtrExpiry (i : Nat) (s : State) : Host.Outcome State Fault Refusal :=
  if 11 ≤ i then .fault .noSuchInstance
  else if s.candState i = Cand.RESTORING ∧ s.vane.wtr.getD i 0 = 0 then
    .next (({ s with vane := { s.vane with restored := s.vane.restored.put i s.cycle } }.count (Reg.VN_CNT 4)).candTo i Cand.QUALIFIED)
  else .next s

/-- ESMC_PDU_RECEIVED (R316): bits 3 to 0 of the SSM byte are the quality level. -/
def State.esmcPdu (s : State) (p : Nat) (ssm : BitVec 8) : State :=
  if s.vane.started && s.oper p == Oper.UP then
    (s.candsOfPort p).foldl (fun t i => (t.count (Reg.VN_CNT 6)).setQl i (ssm.toNat % 16)) s
  else s

def execEsmcPduReceived (p : Nat) (ssm : BitVec 8) (s : State) : Host.Outcome State Fault Refusal :=
  if 192 ≤ p then .fault .noSuchInstance else if s.portUsed p then .next (s.esmcPdu p ssm) else .next s

/-- ESMC_TIMEOUT (R316). -/
def execEsmcTimeout (i : Nat) (s : State) : Host.Outcome State Fault Refusal :=
  if 11 ≤ i then .fault .noSuchInstance
  else if s.candUsed i && s.candLane i && s.vane.started then
    .next (((s.flag (F.VN_CAND_FLAGS.ESMC_TO i)).count (Reg.VN_CNT 7)).setQl i 0xF)
  else .next s

/-! ## Selection and switching (R318 to R323) -/

/-- The pull of one millisecond: the remaining offset moves towards zero by SLOPE (R320), and the milliseconds since it reached zero are counted. -/
def State.pullStep (s : State) : State :=
  let r := signed 16 (s.fld F.VN_PULL.REMAIN)
  let k : Int := s.fld F.VN_CFG1.SLOPE
  { s with vane := { s.vane with flat := if r = 0 then s.vane.flat + 1 else 0 } }.setFld F.VN_PULL.REMAIN (unsigned 16 (if 0 ≤ r then max 0 (r - k) else min 0 (r + k)))

/-- One millisecond of every wait-to-restore. -/
def State.wtrStep (s : State) : State :=
  s.vane.wtr.keys.foldl (fun t i =>
    let ms := t.vane.wtr.getD i 0 - 1
    let t1 := { t with vane := { t.vane with wtr := t.vane.wtr.put i ms } }
    t1.setFld (F.VN_CAND_STATUS.WTR_LEFT i) (ceilDiv ms 1000)) s

/-- The selection of a management-plane tick (R318, R319, R322); `delta` is the phase difference to the best candidate. -/
def State.selectionTick (s : State) (delta : Int) : State :=
  let s0 := s.wtrStep
  let st := s.vnState
  match s.bestCand with
  | none =>
    if st = Vn.SWITCHING then (if s.vane.abandoned then s0.vnHold else s0.pullStep.pendUpdate) else s0.setFld F.VN_STATUS.PEND 0
  | some b =>
    if st = Vn.SWITCHING then
      if s.vane.abandoned then s0.vnSwitch b delta
      else s0.pullStep.pendUpdate
    else if st = Vn.LOCKED ∧ b = s.fld F.VN_STATUS.SEL then s0.setFld F.VN_STATUS.PEND 0
    else (s0.setFld F.VN_STATUS.PEND 0).vnSwitch b delta

/-- SELECTION_TICK (R318). -/
def execSelectionTick (delta : Int) (s : State) : Host.Outcome State Fault Refusal :=
  if s.vane.started then .next (s.selectionTick delta) else .next s

/-- PULL_COMPLETE (R320): the offset has been zero, and the loop's phase error within 1 ns, for 10 ms: LOCKED on the target; the holdover memory starts
filling. -/
def execPullComplete (s : State) : Host.Outcome State Fault Refusal :=
  if s.vane.started && s.vnState == Vn.SWITCHING && !s.vane.abandoned && s.fld F.VN_PULL.REMAIN == 0 && decide (10 ≤ s.vane.flat) then
    let s1 := { s with vane := { s.vane with recs := [] } }.setFld F.VN_STATUS.HO_VALID 0
    .next (s1.vnEnter Vn.LOCKED (s.fld F.VN_STATUS.TARGET) 0xF)
  else .next s

/-- A steering word within its range (R325). -/
def steerLimit (w : BitVec 32) : BitVec 32 := BitVec.ofInt 32 (clampInt (-steerMax) steerMax w.toInt)

/-- HOLDOVER_RECORD (R323): the steering word of this instant, within its range, is recorded while Vane is LOCKED. -/
def execHoldoverRecord (steer : BitVec 32) (s : State) : Host.Outcome State Fault Refusal :=
  if s.vane.started && s.vnState == Vn.LOCKED then
    let w := steerLimit steer
    let s1 := { s with vane := { s.vane with recs := (w :: s.vane.recs).take 160 } }
    .next ((s1.setFld F.VN_STEER.WORD w.toNat).hoUpdate)
  else .next s

/-! ## Start and retention (R315, R319, R324) -/

/-- Copy the holdover word and its validity into the AON domain, not valid in FREERUN (R324), and the candidate bits (R315); the bits of a Vane that has not
started are those it retained before. -/
def State.vaneRetain (s : State) : State :=
  let bad := ((List.range 11).filter fun i => s.candState i == Cand.DISQUALIFIED || s.candState i == Cand.RESTORING).foldl
    (fun n i => n + 2 ^ i) 0
  let word := BitVec.ofNat 32 (s.fld F.VN_HO_WORD.WORD)
  let ok := s.fld F.VN_STATUS.HO_VALID == 1 && s.vnState != Vn.FREERUN
  { s with aon := { s.aon with steer := word, steerOk := ok, candBad := if s.vane.started then bad else s.aon.candBad } }

/-- Candidate `i` at the start of Vane. -/
def State.candStart (s : State) (i : Nat) : State :=
  if !s.candUsed i then s
  else
    let st := if bitAt s.aon.candBad i then Cand.DISQUALIFIED else Cand.NEW
    let ql := if s.candLane i then 0xF else s.fld (F.VN_CAND_CFG.QL_STATIC i)
    let act := s.candHolds i == some true
    let s0 := { s with vane := { s.vane with since := s.vane.since.put i s.cycle } }
    let s1 := ((s0.setFld (F.VN_CAND_STATUS.STATE i) st).setFld (F.VN_CAND_STATUS.QL i) ql).setFld (F.VN_CAND_STATUS.ACTIVE i) (b2n act)
    (s1.setFld (F.VN_CAND_STATUS.ELIGIBLE i) 0).setFld (F.VN_CAND_FREQ.PPB i) 0x80000000

/-- The levels of VANE_ST_1:0 and VANE_SEL_3:0 (R327, Table 11.5): driven from the start of Vane to the next LULL entry or reset, else released (R409). -/
def State.vanePins (s : State) : Option (Nat × Nat) :=
  if s.vane.started && decide (Mode.STEEP ≤ s.mode) then
    some (s.vnState, if s.vnState = Vn.LOCKED then s.fld F.VN_STATUS.SEL
      else if s.vnState = Vn.SWITCHING then s.fld F.VN_STATUS.TARGET else 0xF)
  else none

/-- Vane starts at step 1 of Table 02.4 (R315, R319): from the retained word where it is valid. -/
def State.vaneStart (s : State) : State :=
  let s1 := (List.range 11).foldl State.candStart { s with vane := { Vane.fresh with started := true } }
  if s.aon.steerOk then
    (((s1.setFld F.VN_STEER.WORD s.aon.steer.toNat).setFld F.VN_HO_WORD.WORD s.aon.steer.toNat).setFld
      F.VN_STATUS.HO_VALID 1).vnEnter Vn.HOLDOVER 0xF 0xF
  else (s1.setFld F.VN_STEER.WORD 0).vnEnter Vn.FREERUN 0xF 0xF

end Sys2Proof.Machine
end

