-- ==== Sys2Proof/Machine/Phase.lean ====
section
/-! DEFINITION. Phase meters (10_phase_meters_events_pulses.md): channels, linearisation, stamps, stamp queues and their credits,
spares and rotation, regression engines. -/

namespace Sys2Proof.Machine

/-! ## Channels (R280 to R283) -/

def State.chan (s : State) (n : Nat) : PhChan := s.phase.ch.getD n PhChan.fresh
def State.setChan (s : State) (n : Nat) (c : PhChan) : State :=
  { s with phase := { s.phase with ch := s.phase.ch.setD n c PhChan.fresh } }
def State.rot (s : State) (g : Nat) : PhRot := s.phase.rot.getD g PhRot.fresh
def State.setRot (s : State) (g : Nat) (r : PhRot) : State :=
  { s with phase := { s.phase with rot := s.phase.rot.setD g r PhRot.fresh } }

/-- The rotation group of a channel: 0 to 3 for a slice, 4 for the event channels. -/
def phGroup (n : Nat) : Nat := if n < 192 then n / 48 else if n < 196 then n - 192 else 4

/-- The spare of a group. -/
def phSpare (g : Nat) : Nat := if g < 4 then 192 + g else 228

/-- Whether a channel has a stamp queue (R291). -/
def hasQueue (n : Nat) : Bool := decide (n < 192) || (decide (196 ≤ n) && decide (n < 228))

/-- Whether channel `n` measures an input: a lane with a MODE and a powered slice, an event input with FUNC 1, or a spare. -/
def State.measures (s : State) (n : Nat) : Bool :=
  if n < 192 then s.laneMode n != 0 && s.powered (n / 48)
  else if 196 ≤ n ∧ n < 228 then s.fld (F.PIN_EVT_CFG.FUNC (n - 196)) == 1
  else true

/-- A lane channel whose lane has MODE 0 shows nothing in its registers (R280). -/
def State.shown (s : State) (n : Nat) : Bool := decide (192 ≤ n) || s.laneMode n != 0

/-- PIN_EVT_CFG of event input `n` as transitions of the present cycle see it: a write acts from the next cycle on (R298). -/
def State.evtCfg (s : State) (n : Nat) : Nat :=
  let w := (s.chan (196 + n)).cfgWas
  if w.1 = s.cycle + 1 then w.2 else (s.rd (Reg.PIN_EVT_CFG n)).toNat
def State.evtEdge (s : State) (n : Nat) : Nat := s.evtCfg n / 2 % 4
def State.evtGlitch (s : State) (n : Nat) : Nat := s.evtCfg n / 2 ^ 4 % 16
def State.evtDomain (s : State) (n : Nat) : Nat := s.evtCfg n / 2 ^ 8 % 8

/-- The domain of the stamps of channel `n` (Table 10.1). -/
def State.chanDomain (s : State) (n : Nat) : Nat := if n < 192 then s.portDomain (s.lanePort n) else s.evtDomain (n - 196)

/-- Whether channel `n` is BAD. -/
def State.chanBad (s : State) (n : Nat) : Bool := s.fld (F.PH_CH_STATUS.STATE n) == 3

/-- Whether the spare of its group produces the stamps of channel `n` (R288, R289): a held spare leaves it for a millisecond to measure the
skew. -/
def State.covered (s : State) (n : Nat) : Bool :=
  let g := phGroup n
  s.fld (F.PH_ROT_STATUS.CH g) == n &&
    (decide (2 ≤ s.fld (F.PH_ROT_STATUS.STATE g)) || (s.fld (F.PH_ROT_STATUS.HELD g) == 1 && decide ((s.rot g).away ≤ s.cycle)))

/-- The linearised phase of tap `t` of the unit that measures for channel `n`, in 2^-16 ns (R282). -/
def State.phiOf (s : State) (n t : Nat) : Nat :=
  (s.chan (if s.covered n then phSpare (phGroup n) else n)).lin.getD t 0

/-- The table of a code-density test with `d` hits per 2^-16 ns of twice the step: L[i] = round((2 S_i + h_i) ÷ d) (R282). -/
def linTable (d : Nat) : Nat → List Nat → List Nat
  | _, [] => []
  | sum, h :: r => (2 * (2 * sum + h) + d) / (2 * d) :: linTable d (sum + h) r

/-- The residual non-linearity: the largest difference of the two half tables, in 2^-16 ns. -/
def linInl (h1 h2 : List Nat) : Nat :=
  ((linTable 20 0 h1).zip (linTable 20 0 h2)).foldl (fun m p => max m (max (p.1 - p.2) (p.2 - p.1))) 0

/-- Whether a residual of 2^-16 ns is above 4.0 ps (R283). -/
def inlHigh (inl : Nat) : Bool := decide (40 * 2 ^ 16 < inl * 10000)

/-- Put a table and its quality into channel `n` (R282). The rounding of INL to 0.1 ps is open (log entry 3). A channel whose lane has MODE 0 is
linearised too (Table 02.4, step 2, asks for every channel); its registers read zero (R280). -/
def State.linearise (s : State) (n : Nat) (h1 h2 : List Nat) : State :=
  let inl := linInl h1 h2
  let s1 := s.setChan n { s.chan n with lin := linTable 40 0 (List.zipWith (· + ·) h1 h2) }
  let q := s.roundOpen ((inl * 10000 : Nat) / (2 ^ 16 : Nat))
  let s2 := (s1.tookFree).setFld (F.PH_CH_QUAL.INL n) (min 1023 q.toNat)
  let s3 := s2.setFld (F.PH_CH_STATUS.LIN n) 1
  if inlHigh inl then s3.flag (F.PH_CH_FLAGS.INL_HIGH n) else s3

/-- Step 2 of Table 02.4: every channel of the powered slices and of the device has been linearised, and the skews are measured. -/
def State.channelsReady (s : State) : Bool :=
  ((List.range 229).all fun n => (decide (phGroup n < 4) && !s.powered (phGroup n)) || s.fld (F.PH_CH_STATUS.LIN n) == 1) &&
    ((List.range 4).filter s.powered).all (bitAt s.dev.skewOk)

/-- The spare of group `g` is held for BAD channel `n` (R289). -/
def State.holdSpare (s : State) (g n : Nat) : State :=
  ((s.setFld (F.PH_ROT_STATUS.HELD g) 1).setFld (F.PH_ROT_STATUS.CH g) n).setFld (F.PH_ROT_STATUS.STATE g) 0

/-- The spare of group `g` is free: it is held for the lowest BAD channel of the group that it can cover. -/
def State.spareFree (s : State) (g : Nat) : State :=
  let s1 := (s.setFld (F.PH_ROT_STATUS.STATE g) 0).setRot g { s.rot g with cur := none, retry := false }
  let s2 := s1.setFld (F.PH_ROT_STATUS.CH g) 0xFF
  match (List.range 228).find? fun n => hasQueue n && phGroup n == g && s2.chanBad n with
  | some n => s2.holdSpare g n
  | none => s2

/-- Channel `n` becomes BAD (R283, R289). -/
def State.becomeBad (s : State) (n : Nat) : State :=
  let g := phGroup n
  let s1 := ((s.setFld (F.PH_CH_STATUS.STATE n) 3).flag (F.PH_CH_FLAGS.BAD n)).spoutEvent Sp.PH_BAD n 0
  if !hasQueue n || s1.fld (F.PH_ROT_STATUS.HELD g) == 1 then s1
  else if (s.rot g).cur == none || (s.rot g).cur == some n then
    (s1.setRot g { s1.rot g with cur := none, retry := false }).holdSpare g n
  else s1

/-! ## Stamps (R284, R285) -/

/-- A stamp in domain `d` of an event sampled in core cycle `c` (R284), by the value and the increment of that very cycle (R22): `x` is how far
the event lies after the edge that begins the cycle, on the core clock, in tenths of 2^-16 ns; `ofs` is the skew and the calibrated delay in
2^-16 ns. -/
def State.stampAt (s : State) (d c : Nat) (x : Rat) (ofs : Int) : Time16 :=
  let t := s.timeAt d c
  let v := (t.1 : Int) + ((t.2 : Rat) * x / 524288).floor + ofs * 2 ^ 32
  toT16 (v % (ctrMod : Int)).toNat

/-- A stamp in domain `d` of an instant of the core clock, in tenths of 2^-16 ns: the cycle that samples it ends at or after it. -/
def State.stampOn (s : State) (d : Nat) (t : Rat) (ofs : Int) : Time16 :=
  let c := ((t / 524288).ceil - 1).toNat
  s.stampAt d c (t - ((c * 524288 : Nat) : Rat)) ofs

/-- How far an event with linearised phase `phi` lies after the edge that begins its cycle (R284). -/
def sinceEdge (phi : Nat) : Int := 524288 - 10 * (phi : Int)

/-- The entry of Table 10.6 that the present mode of lane `l` selects; the step is that of the lane's port (R92). -/
def State.modeEntry (s : State) (l : Nat) : Nat :=
  let m := s.laneMode l
  if m = 1 then 0 else if m = 2 then 1 else if m = 3 then 2 + s.fld (F.LN_CFG.FEC l) else if m = 4 then 5
  else 6 + s.fld (F.LN_TRUNK_STATUS.STEP (s.lanePort l))

/-- The calibrated TX and RX delays of lane `l` in its present mode. -/
def State.laneDelay (s : State) (l : Nat) : Int × Int := (s.cal.lane.getD l []).getD (s.modeEntry l) (0, 0)

/-- The skew of a slice in 2^-16 ns (R23). -/
def State.skew (s : State) (sl : Nat) : Int := signed 32 (s.fld (F.PH_SKEW.SKEW sl))

/-- What the skew, the calibrated delay and the trim of lane `l` add to a receive-side stamp, and to a transmit-side stamp (R284). -/
def State.rxOfs (s : State) (l : Nat) : Int :=
  s.skew (sliceOf l) - (s.laneDelay l).2 - signed 32 (s.fld (F.PRT_TT_TRIM_RX.RX (s.lanePort l)))
def State.txOfs (s : State) (l : Nat) : Int :=
  s.skew (sliceOf l) + (s.laneDelay l).1 + signed 32 (s.fld (F.PRT_TT_TRIM_TX.TX (s.lanePort l)))

/-- The nominal unit interval of a lane in tenths of 2^-16 ns. -/
def State.nominalUi (s : State) (l : Nat) : Rat := ((10000000 * 2 ^ 16 : Nat) : Rat) / (s.laneKbaud l : Rat)

/-- The least-squares fit of samples: slope and mean squared residual, in 2^-16 ns; none where the samples do not fix a line. -/
def fmFit (xs : List (Int × Int)) : Option (Rat × Rat) :=
  let n : Int := xs.length
  let sk := (xs.map (·.1)).sum
  let st := (xs.map (·.2)).sum
  let skk := (xs.map fun p => p.1 * p.1).sum
  let skt := (xs.map fun p => p.1 * p.2).sum
  let stt := (xs.map fun p => p.2 * p.2).sum
  let dk := n * skk - sk * sk
  let dkt := n * skt - sk * st
  let dt := n * stt - st * st
  if dk = 0 ∨ dkt = 0 then none
  else some ((dkt : Rat) / (dk : Rat), ((dt : Rat) - (dkt : Rat) * (dkt : Rat) / (dk : Rat)) / ((n * n : Int) : Rat))

/-- The straight line through the measurements of a word clock, `bit` unit intervals after the latest of them, in tenths of 2^-16 ns on the core
clock (R285); one measurement gives its instant and `nom`, the nominal unit interval, the slope (log entry 67); none without measurements. -/
def PhFit.at (f : PhFit) (nom : Rat) (bit : Int) : Option Rat :=
  match f.samples with
  | [] => none
  | p :: r =>
    match fmFit ((p :: r).map fun q => ((q.1 : Int) - (p.1 : Int), q.2 - p.2)) with
    | none => some ((p.2 : Rat) + nom * (bit : Rat))
    | some (b, _) =>
      let n : Rat := ((r.length + 1 : Nat) : Rat)
      let mk : Rat := ((((p :: r).map fun q => (q.1 : Int) - (p.1 : Int)).sum : Int) : Rat) / n
      let mt : Rat := ((((p :: r).map fun q => q.2 - p.2).sum : Int) : Rat) / n
      some ((p.2 : Rat) + mt + b * ((bit : Rat) - mk))

/-- The instant of a line bit of lane `l` on the core clock: `bit` unit intervals, stuff bits included, after the last measured receive or transmit
word-clock edge (R93, R285). Before the first measurement the bits count from the present cycle (log entry 67). -/
def State.lineTime (s : State) (l : Nat) (tx : Bool) (bit : Int) : Rat :=
  let f := if tx then (s.chan l).tx else (s.chan l).rx
  (f.at (s.nominalUi l) bit).getD (((s.cycle * 524288 : Nat) : Rat) + s.nominalUi l * (bit : Rat))

/-- The stamp of a line event received, or sent, on lane `l` (R284, R285). -/
def State.rxStamp (s : State) (l : Nat) (t : LineStamp) : Time16 :=
  s.stampOn (s.portDomain (s.lanePort l)) (s.lineTime l false t.bit) (s.rxOfs l)
def State.txStamp (s : State) (l bit : Nat) : Time16 :=
  s.stampOn (s.portDomain (s.lanePort l)) (s.lineTime l true bit) (s.txOfs l)

/-- The input delay of event input `n`. -/
def State.evtDelay (s : State) (n : Nat) : Int := s.cal.evt.getD n 0

/-! ## Stamp queues (R291 to R296) -/

/-- How often domain `d` has stepped (R39); a DERIVED domain steps with domain 0 (R229). -/
def State.stepCount (s : State) (d : Nat) : Nat := (s.rd (Reg.KT_DOM_CNT (if s.isDerived d then 0 else d) 5)).toNat

/-- An entry: a TIME96 and the tag of Table 10.3, as a number (R291). -/
def sqEntry (t : Time16) (tag : Nat) : Nat := leNat (t96Bytes t) + tag * 2 ^ 96

/-- Set the occupancy that PH_SQ_CREDIT shows. -/
def State.setOcc (s : State) (n : Nat) : State := s.setFld (F.PH_SQ_CREDIT.OCC n) (s.chan n).queue.length

/-- A stamped event of channel `n` (R291 to R294): SEQ counts it; the consumer's queue takes it, or it is skipped for want of credit. The
timing engine holds every credit and consumes the entry at once (R293). -/
def State.stampEvent (s : State) (n dom : Nat) (edge : Bool) (t : Time16) (spare qbad : Bool) : State :=
  let c := s.chan n
  let step := decide (c.seen.getD dom 0 < s.stepCount dom)
  let c1 := { c with seq := (c.seq + 1) % 2 ^ 16, seen := c.seen.setD dom (s.stepCount dom) 0 }
  let cons := s.fld (F.PH_SQ_CFG.CONS n)
  let tag := dom + 8 * b2n edge + 16 * b2n c.skip + 32 * b2n spare + 64 * b2n step + 128 * b2n qbad + 2 ^ 15 + c.seq * 2 ^ 16
  let prod := s.fld (F.PH_SQ_CREDIT.PROD n)
  let usable := prod - (if c.grant.1 = s.cycle then c.grant.2 else 0)
  if cons = 2 then (s.setChan n { c1 with skip := false }).countEv (Reg.PH_CNT n 0) 0x600 n 1
  else if cons = 0 then s.setChan n c1
  else if usable = 0 then
    ((s.setChan n { c1 with skip := true }).countEv (Reg.PH_CNT n 1) 0x601 n 1).flag (F.PH_CH_FLAGS.SKIP n)
  else
    let s1 := s.setChan n { c1 with skip := false, queue := c.queue ++ [sqEntry t tag] }
    ((s1.countEv (Reg.PH_CNT n 0) 0x600 n 1).setFld (F.PH_SQ_CREDIT.PROD n) (prod - 1)).setOcc n

/-- Flush a queue (R293): its entries are counted; `host` and `prod` hold the credits. -/
def State.sqFlush (s : State) (n host prod : Nat) : State :=
  let c := s.chan n
  let s1 := (s.countN (Reg.PH_CNT n 6) c.queue.length).setChan n { c with queue := [], skip := false, grant := (0, 0) }
  ((s1.setFld (F.PH_SQ_CREDIT.HOST n) host).setFld (F.PH_SQ_CREDIT.PROD n) prod).setOcc n

/-- The timing engine takes the queue of lane `l`, or gives it up (R293). -/
def State.engineTakes (s : State) (l : Nat) : State :=
  if s.fld (F.PH_SQ_CFG.CONS l) = 2 then s
  else ((s.setFld (F.PH_SQ_CFG.CONS l) 2).setFld (F.PH_SQ_CFG.SRC l) 0).sqFlush l 0 64
def State.engineLeaves (s : State) (l : Nat) : State :=
  if s.fld (F.PH_SQ_CFG.CONS l) = 2 then (s.setFld (F.PH_SQ_CFG.CONS l) 0).sqFlush l 64 0 else s

def Acc.ph (ofs : Nat) : Acc := Acc.direct Base.PH ofs

/-- The access of a queue item by BAR0 or by its BAR2 equivalent (R376). -/
def Acc.sq (ofs : Nat) (bar2 write : Bool) : Acc := ⟨Base.PH, ofs, false, bar2, write, false, false⟩

/-- BAR0 offset and BAR2 offset of a queue item: 0 the pop words, 16 the credit word. -/
def sqOfs (n item : Nat) (bar2 : Bool) : Nat :=
  if bar2 then 0x1000 + 0x20 * n + item else if item = 16 then Reg.PH_SQ_CREDIT n else Reg.PH_SQ_POP n 0

/-- A BAR2 access needs the USER bit of its channel (R377). -/
def State.sqUser (s : State) (n : Nat) : Bool := s.fldBit (F.PH_SQ_USER.USER (n / 32)) (n % 32)
def State.userCheck (s : State) (a : Acc) (n : Nat) : Bool × Nat := (a.bar2 && !s.sqUser n, Err.NOT_PERMITTED)

/-- A write to a register of a lane channel whose lane has MODE 0 (R280). -/
def State.chanCheck (s : State) (n : Nat) : Bool × Nat := (!s.shown n, Err.NOT_PERMITTED)

/-- A channel whose registers cannot be written: a lane with MODE 0 (R280), or a spare, which has no queue. -/
def State.noQueue (s : State) (n : Nat) : Bool × Nat := (!s.shown n || !hasQueue n, Err.NOT_PERMITTED)

/-- A host write of PH_SQ_CFG_n (R292, R293). -/
def State.sqConfig (s : State) (a : Acc) (n v : Nat) : State :=
  let cons := v % 4
  let src := v / 4 % 4
  s.guard a [s.noQueue n, (!s.isMutable (if n < 192 then 15 else 12), Err.NOT_PERMITTED),
      (s.fld (F.PH_SQ_CFG.CONS n) == 2, Err.LOCKED), (decide (256 ≤ v), Err.RESERVED_FIELD),
      (decide (2 ≤ cons) || src == 3 || (decide (192 ≤ n) && src != 0) || (decide (n < 192) && src == 0 && !s.isTrunk n),
        Err.ILLEGAL_VALUE)] fun t =>
    (((t.setFld (F.PH_SQ_CFG.CONS n) cons).setFld (F.PH_SQ_CFG.SRC n) src).setFld (F.PH_SQ_CFG.DEC n) (v / 16)).sqFlush n 64 0

/-- STAMP_QUEUE_CONFIG (R293). -/
def execStampQueueConfig (n : Nat) (v : BitVec 32) (s : State) : Host.Outcome State Fault Refusal :=
  if 229 ≤ n then .fault .noSuchInstance else .next (s.sqConfig (Acc.ph (Reg.PH_SQ_CFG n)) n v.toNat)

/-- A host write of PH_SQ_CREDIT_n (R294): grant and recall. -/
def State.sqCredit (s : State) (a : Acc) (n k : Nat) (back rsv : Bool) : State :=
  let host := s.fld (F.PH_SQ_CREDIT.HOST n)
  let cons := s.fld (F.PH_SQ_CFG.CONS n)
  s.guard a [s.userCheck a n, s.chanCheck n, s.noQueue n, (decide (0 < k) && cons == 0, Err.WRONG_MODE), (cons == 2, Err.LOCKED),
      (rsv, Err.RESERVED_FIELD), (decide (64 < k) || (back && decide (0 < k)), Err.ILLEGAL_VALUE),
      (decide (host < k), Err.NO_CREDIT)] fun t =>
    let prod := t.fld (F.PH_SQ_CREDIT.PROD n)
    if back then
      ((t.setFld (F.PH_SQ_CREDIT.HOST n) (host + prod)).setFld (F.PH_SQ_CREDIT.PROD n) 0).setChan n { t.chan n with grant := (0, 0) }
    else if k = 0 then t
    else
      let c := t.chan n
      let now := if c.grant.1 = t.cycle then c.grant.2 else 0
      ((t.setFld (F.PH_SQ_CREDIT.HOST n) (host - k)).setFld (F.PH_SQ_CREDIT.PROD n) (prod + k)).setChan n
        { c with grant := (t.cycle, now + k) }

/-- STAMP_CREDIT_GRANT (R294). -/
def execStampCreditGrant (n k : Nat) (bar2 : Bool) (s : State) : Host.Outcome State Fault Refusal :=
  if !hasQueue n then .fault .noSuchInstance
  else .next (s.sqCredit (Acc.sq (sqOfs n 16 bar2) bar2 true) n k false false)

/-- STAMP_CREDIT_RECALL (R294). -/
def execStampCreditRecall (n : Nat) (bar2 : Bool) (s : State) : Host.Outcome State Fault Refusal :=
  if !hasQueue n then .fault .noSuchInstance
  else .next (s.sqCredit (Acc.sq (sqOfs n 16 bar2) bar2 true) n 0 true false)

/-- A pop (R295): the entry is latched in the four pop words; an empty queue, or one that the host does not consume, latches zero. -/
def State.sqPop (s : State) (a : Acc) (n : Nat) : State :=
  s.guard a [s.userCheck a n] fun t =>
    let c := t.chan n
    let words : State → Nat → State := fun u e =>
      ((List.range 4).foldl (fun x w => x.setFld (F.PH_SQ_POP.DATA n w) (e / 2 ^ (32 * w))) u).answer a (e % 2 ^ 32)
    match c.queue with
    | e :: r =>
      if t.fld (F.PH_SQ_CFG.CONS n) = 1 then
        ((words (t.setChan n { c with queue := r }) e).satAdd (F.PH_SQ_CREDIT.HOST n) 1).setOcc n
      else words t 0
    | [] => words t 0

/-- STAMP_POP (R295). -/
def execStampPop (n : Nat) (bar2 : Bool) (s : State) : Host.Outcome State Fault Refusal :=
  if !hasQueue n then .fault .noSuchInstance else .next (s.sqPop (Acc.sq (sqOfs n 0 bar2) bar2 false) n)

/-- PERST_N: the credits that the host granted return to it (R296). -/
def State.sqPerst (s : State) : State :=
  (s.phase.ch.keys.filter fun n => s.fld (F.PH_SQ_CFG.CONS n) == 1).foldl (fun t n =>
    let p := t.fld (F.PH_SQ_CREDIT.PROD n)
    ((t.setFld (F.PH_SQ_CREDIT.PROD n) 0).satAdd (F.PH_SQ_CREDIT.HOST n) p).setChan n { t.chan n with grant := (0, 0) }) s

/-! ## Regression engines (R297) -/

/-- Whether core cycle `c` lies inside the gate of a regression: from the cycle after the start until the domain has advanced by the gate (R297). -/
def State.fmInGate (s : State) (r : PhFm) (c : Nat) : Bool :=
  decide (r.start < c) && decide (subT16 (toT16 (s.timeAt r.dom c).1) r.stop < 0)

/-- A sample of channel `n` (clock `src`) taken in core cycle `c`: a running engine on it takes it where the cycle lies inside its gate. -/
def State.fmSample (s : State) (n src adv c : Nat) (t : Time16) : State :=
  let e := if n < 192 then n / 48 else 4
  match s.phase.fm.get? e with
  | some r =>
    if r.ch = n ∧ r.src = src ∧ s.fmInGate r c then
      let r1 := { r with k := r.k + adv, samples := (r.k + adv, t) :: r.samples }
      { s with phase := { s.phase with fm := s.phase.fm.put e r1 } }
    else s
  | none => s

/-- The input of channel `n` has changed: its port's oper state, lane mode, trunk step or pin configuration. -/
def State.fmChanged (s : State) (n : Nat) : State :=
  let e := if n < 192 then n / 48 else 4
  match s.phase.fm.get? e with
  | some r => if r.ch = n then { s with phase := { s.phase with fm := s.phase.fm.put e { r with changed := true } } } else s
  | none => s

/-- The nominal unit interval or period, in 2^-16 ns. -/
def State.fmNominal (s : State) (e : Nat) (r : PhFm) : Rat :=
  if r.ch < 192 then s.nominalUi r.ch / 10
  else ((s.fld (F.PH_FM_NOM.NS e) * 2 ^ 16 : Nat) : Rat)

/-- A host write of PH_FM_CFG_e (R297); START = 1 opens a gate. -/
def State.fmConfig (s : State) (a : Acc) (e v : Nat) : State :=
  let ch := v % 256
  let gate := v / 2 ^ 16 % 2 ^ 14
  let start := bitAt v 31
  let evt := decide (196 ≤ ch)
  let nom := s.fld (F.PH_FM_NOM.NS e)
  s.guard a [(start && (decide (s.mode < Mode.STEEP)), Err.WRONG_MODE), (start && s.fld (F.PH_FM_STATUS.RUN e) == 1, Err.BUSY),
      (v / 2 ^ 9 % 2 ^ 7 != 0 || bitAt v 30, Err.RESERVED_FIELD),
      (if e < 4 then decide (ch < 48 * e) || decide (48 * e + 48 ≤ ch) else decide (ch < 196) || decide (228 ≤ ch), Err.RANGE),
      (gate == 0 || (start && evt && nom == 0), Err.ZERO_LENGTH),
      (decide (10000 < gate) || (evt && bitAt v 8) || (start && evt && decide (4000000000 < nom)), Err.ILLEGAL_VALUE)] fun t =>
    let t1 := ((t.setFld (F.PH_FM_CFG.CH e) ch).setFld (F.PH_FM_CFG.SRC e) (v / 256)).setFld (F.PH_FM_CFG.GATE_MS e) gate
    if start then
      let dom := t.chanDomain ch
      let open16 := toT16 (t.timeAt dom (t.cycle + 1)).1
      let run : PhFm := ⟨ch, v / 256 % 2, t.cycle, addT16 open16 (gate * 1000000 * 2 ^ 16 : Nat), t.stepCount dom, dom, false, 0, []⟩
      let t2 := t1.setFld (F.PH_FM_STATUS.RUN e) 1
      { t2 with phase := { t2.phase with fm := t2.phase.fm.put e run } }
    else t1

/-- FM_START (R297): a write of PH_FM_CFG_e whose START is 1. -/
def execFmStart (e : Nat) (v : BitVec 32) (s : State) : Host.Outcome State Fault Refusal :=
  if 5 ≤ e then .fault .noSuchInstance
  else .next (s.fmConfig (Acc.ph (Reg.PH_FM_CFG e)) e (setBit v.toNat 31 true))

/-- y in units of 2^-60, or a free value where the fit does not give one that the register holds (log entry 3). -/
def State.fmY (s : State) (nom b : Rat) : Nat :=
  let y := s.roundOpen ((nom / b - 1) * 2 ^ 60)
  if -(2 ^ 63 : Int) ≤ y ∧ y < 2 ^ 63 then unsigned 64 y else s.freeVal

/-- The rms residual in 0.01 ps, rounding open (log entry 3). -/
def State.fmRms (s : State) (v : Rat) : Nat :=
  let q := (v * ((100000 : Rat) / 65536) ^ 2).floor.toNat
  min (2 ^ 32 - 1) (Nat.sqrt q + (if Nat.sqrt q ^ 2 = q then 0 else s.freeVal % 2))

/-- FM_GATE_CLOSE (R297): the result of a gate that has closed. -/
def execFmGateClose (e : Nat) (s : State) : Host.Outcome State Fault Refusal :=
  if 5 ≤ e then .fault .noSuchInstance
  else match s.phase.fm.get? e with
    | none => .next s
    | some r =>
      if s.fmInGate r (s.cycle + 1) then .next s else
      let n := r.samples.length
      let t0 := (r.samples.getLast?.map (·.2)).getD 0
      let fit := fmFit (r.samples.map fun p => ((p.1 : Int), subT16 p.2 t0))
      let res := if s.stepCount r.dom != r.steps then 1 else if n < 16 then 2 else if r.changed then 3 else 0
      let s1 := { s with phase := { s.phase with fm := s.phase.fm.del e } }
      let s2 := ((s1.setFld (F.PH_FM_STATUS.RUN e) 0).flag (F.PH_FM_STATUS.DONE e)).setFld (F.PH_FM_STATUS.RESULT e) res
      let s3 := s2.wr (Reg.PH_FM_N e) (BitVec.ofNat 64 n)
      match fit with
      | some (b, v) =>
        let y := s3.fmY (s.fmNominal e r) b
        let s4 := (s3.tookFree).wr (Reg.PH_FM_RES e) (BitVec.ofNat 64 y)
        .next ((s4.tookFree).setFld (F.PH_FM_RMS.RMS e) (s4.fmRms v))
      | none =>
        let s4 := (s3.tookFree).wr (Reg.PH_FM_RES e) (BitVec.ofNat 64 s3.freeVal)
        .next ((s4.tookFree).setFld (F.PH_FM_RMS.RMS e) s4.freeVal)

/-! ## Linearisation, rotation and recalibration (R282, R287 to R290) -/

/-- The unit at position `i` of the rotation of group `g` (R287): a channel, or 256 plus a pulse output. -/
def rotUnit (g i : Nat) : Nat :=
  if g < 4 then (if i < 48 then 48 * g + i else 192 + g) else if i < 32 then 196 + i else if i = 32 then 228 else 256 + (i - 33)

/-- Slots of a round. -/
def rotSlots (g : Nat) : Nat := if g < 4 then 49 else 65

/-- Whether rotation runs (R287). -/
def State.rotates (s : State) : Bool := s.mode == Mode.BREEZE || s.mode == Mode.GALE || s.mode == Mode.CALM

/-- Whether unit `u` is recalibrated with the takeover of Table 10.2: a channel in service. -/
def State.takeover (s : State) (u : Nat) : Bool := hasQueue u && s.measures u && (decide (192 ≤ u) || s.slc (u / 48) != Slc.DARK)

/-- A slot of group `g` begins for unit `u`. -/
def State.slotFor (s : State) (g u : Nat) : State :=
  let s1 := s.setRot g { s.rot g with cur := some u }
  s1.setFld (F.PH_ROT_STATUS.STATE g) (if s.takeover u then 1 else 2)

/-- A slot begins (R287, R290, Table 10.2): a channel to be tried again comes first, then a requested one, then the rotation. -/
def State.slotBegin (s : State) (g : Nat) : State :=
  let r := s.rot g
  let u := r.cur.getD 256
  if r.retry then s.setRot g { r with retry := false }
  else if s.fld (F.PH_ROT_STATUS.STATE g) ≠ 0 ∧ u < 256 then s
  else
    let s0 := s.spareFree g
    if s0.fld (F.PH_ROT_STATUS.HELD g) = 1 then s0
    else
      let r0 := s0.rot g
      match r.req with
      | some u => (s0.setRot g { r0 with req := none }).slotFor g u
      | none =>
        ((s0.setRot g { r0 with next := (r.next + 1) % rotSlots g }).setFld (F.PH_ROT_STATUS.SLOT g) r.next).slotFor g
          (rotUnit g r.next)

/-- ROTATION_SLOT_BEGIN (R287). -/
def execRotationSlotBegin (g : Nat) (s : State) : Host.Outcome State Fault Refusal :=
  if 5 ≤ g then .fault .noSuchInstance
  else if s.rotates && s.fld (F.PH_ROT_STATUS.HELD g) == 0 then .next (s.slotBegin g) else .next s

/-- TAKEOVER_OVERLAP_END (Table 10.2, steps 2 and 2'): mean difference in 0.1 ps. -/
def execTakeoverOverlapEnd (g : Nat) (d : Int) (s : State) : Host.Outcome State Fault Refusal :=
  if 5 ≤ g then .fault .noSuchInstance
  else match (s.rot g).cur with
    | none => .next s
    | some u =>
      if s.fld (F.PH_ROT_STATUS.STATE g) = 1 then
        if d.natAbs ≤ 40 then
          let s1 := (s.setFld (F.PH_ROT_STATUS.STATE g) 2).setFld (F.PH_ROT_STATUS.CH g) u
          .next (s1.setFld (F.PH_CH_STATUS.STATE u) 2)
        else .next (((s.flag (F.PH_CH_FLAGS.MISMATCH u)).count (Reg.PH_CNT u 5)).spareFree g)
      else .next s

/-- A recalibration of channel `u` that fails at step 4 or 5 (Table 10.2, step 5'). -/
def State.recalFails (s : State) (g u : Nat) : State :=
  let c := s.chan u
  if c.fails = 0 then
    ((s.setChan u { c with fails := 1 }).setRot g { s.rot g with retry := true }).setFld (F.PH_ROT_STATUS.STATE g) 2
  else (s.setChan u { c with fails := 0 }).becomeBad u

/-- LINEARISATION_DONE (R282, R283, R44): in STEEP, and while a slice is powered up, every channel; later the unit whose slot is running. A BAD
channel stays BAD until the next STEEP (R289). For the delay line of a pulse output the event spare reports hits per tap setting, and the table
built from them is the output's from its next leading edge on (R290, log entry 68). -/
def State.lineariseDone (s : State) (n : Nat) (h1 h2 : List Nat) : State :=
  let g := phGroup n
  let bad := inlHigh (linInl h1 h2)
  if s.mode = Mode.STEEP ∨ (g < 4 ∧ s.dev.slcPhase.getD g 0 = 1) then
    let s1 := s.linearise n h1 h2
    if !s1.shown n || s.chanBad n then s1
    else if bad then s1.becomeBad n else s1.setFld (F.PH_CH_STATUS.STATE n) (b2n (s1.measures n && hasQueue n))
  else if s.fld (F.PH_ROT_STATUS.STATE g) = 2 && !(s.rot g).retry then
    match (s.rot g).cur with
    | none => s
    | some u =>
      if u = n then
        let s1 := s.linearise n h1 h2
        if s.fld (F.PH_CH_STATUS.STATE n) = 2 then
          if bad then s1.recalFails g n else s1.setFld (F.PH_ROT_STATUS.STATE g) 3
        else
          let s2 := if s1.shown n then s1.count (Reg.PH_CNT n 4) else s1
          (if bad && s1.shown n then s2.becomeBad n else s2).spareFree g
      else if 256 ≤ u ∧ n = 228 then
        let s1 := s.spareFree g
        if bad then (s1.flag (F.PH_CH_FLAGS.BAD 228)).setFld (F.PH_ROT_STATUS.CH 4) (u - 256)
        else { s1 with phase := { s1.phase with plsTab := s1.phase.plsTab.put (u - 256) (linTable 40 0 (List.zipWith (· + ·) h1 h2)) } }
      else s
  else s

def execLinearisationDone (n : Nat) (h1 h2 : List Nat) (s : State) : Host.Outcome State Fault Refusal :=
  if 229 ≤ n then .fault .noSuchInstance else .next (s.lineariseDone n h1 h2)

/-- RECONNECT_OVERLAP_END (Table 10.2, step 5): mean difference in 0.1 ps. -/
def execReconnectOverlapEnd (g : Nat) (d : Int) (s : State) : Host.Outcome State Fault Refusal :=
  if 5 ≤ g then .fault .noSuchInstance
  else match (s.rot g).cur with
    | none => .next s
    | some u =>
      if s.fld (F.PH_ROT_STATUS.STATE g) = 3 then
        if d.natAbs ≤ 40 then
          let s1 := (s.setChan u { s.chan u with fails := 0 }).setFld (F.PH_CH_STATUS.STATE u) 1
          .next ((s1.count (Reg.PH_CNT u 4)).spareFree g)
        else .next (s.recalFails g u)
      else .next s

/-- The core cycles of a millisecond at the nominal rate. -/
def msCycles : Nat := 1250000

/-- Whether the spare of slice `sl` can measure the slice's skew (R23): in STEEP, while the slice is powered up, and later between two slots, or
from the BAD channel that holds it (R287, R289). -/
def State.skewDue (s : State) (sl : Nat) : Bool :=
  s.powered sl && (s.mode == Mode.STEEP || s.dev.slcPhase.getD sl 0 == 1 || (s.rotates && s.fld (F.PH_ROT_STATUS.STATE sl) == 0))

/-- SKEW_MEASUREMENT (R23, R287, R289): a held spare is away from its channel for the millisecond that begins here (log entry 69). -/
def execSkewMeasurement (sl : Nat) (skew : BitVec 32) (s : State) : Host.Outcome State Fault Refusal :=
  if 4 ≤ sl then .fault .noSuchInstance
  else if s.skewDue sl then
    let s1 := s.setFld (F.PH_SKEW.SKEW sl) skew.toNat
    let s2 := { s1 with dev := { s1.dev with skewOk := setBit s1.dev.skewOk sl true } }
    .next (if s.fld (F.PH_ROT_STATUS.HELD sl) = 1 then s2.setRot sl { s2.rot sl with away := s.cycle + msCycles } else s2)
  else .next s

/-- DLL_ERROR_PERSIST (R283): the residual error of the loop in 0.1 ps. -/
def execDllErrorPersist (n dll : Nat) (s : State) : Host.Outcome State Fault Refusal :=
  if 229 ≤ n then .fault .noSuchInstance
  else if s.shown n && decide (Mode.STEEP ≤ s.mode) then
    let s1 := s.setFld (F.PH_CH_QUAL.DLL n) (min 1023 dll)
    if 31 < dll then
      let s2 := s1.flag (F.PH_CH_FLAGS.DLL_HIGH n)
      .next (if s2.chanBad n then s2 else s2.becomeBad n)
    else .next s1
  else .next s

/-- A write of PH_RECAL (R290). -/
def State.recal (s : State) (a : Acc) (n : Nat) (rsv : Bool) : State :=
  let g := phGroup n
  s.guard a [(!s.rotates || (decide (n < 229) && s.fld (F.PH_ROT_STATUS.HELD g) == 1), Err.WRONG_MODE),
      (decide (n < 229) && ((s.rot g).cur == some n || (s.rot g).req != none), Err.BUSY),
      (rsv, Err.RESERVED_FIELD), (decide (229 ≤ n), Err.ILLEGAL_VALUE)] fun t => t.setRot g { t.rot g with req := some n }

/-- RECAL_REQUEST (R290). -/
def execRecalRequest (n : Nat) (s : State) : Host.Outcome State Fault Refusal :=
  if 256 ≤ n then .fault .noSuchInstance else .next (s.recal (Acc.ph Reg.PH_RECAL) n false)

/-! ## Word clocks (R285, R292) -/

/-- WORD_CLOCK_SAMPLE (R285): a measurement joins the fit, the regression, and one in 2^DEC the queue. -/
def State.wordClock (s : State) (n : Nat) (tx : Bool) (ui tap : Nat) : State :=
  let phi := s.phiOf n tap
  let x := sinceEdge phi
  let c := s.chan n
  let f := if tx then c.tx else c.rx
  let f1 : PhFit := ⟨f.ui + ui, ((f.ui + ui, (s.cycle : Int) * 524288 + x) :: f.samples).take 16⟩
  let c1 := if tx then { c with tx := f1 } else { c with rx := f1 }
  let dom := s.chanDomain n
  let ofs := if tx then s.txOfs n else s.rxOfs n
  let s1 := (s.setChan n c1).fmSample n (b2n tx) ui s.cycle (s.stampAt dom s.cycle x ofs)
  if s.fld (F.PH_SQ_CFG.SRC n) = (if tx then 2 else 1) then
    let dec := (c.dec + 1) % 2 ^ (s.fld (F.PH_SQ_CFG.DEC n))
    let s2 := s1.setChan n { s1.chan n with dec := dec }
    if dec = 0 then
      s2.stampEvent n dom tx (s2.stampOn dom (s2.lineTime n tx 0) ofs) (s.covered n) (s.chanBad n && !s.covered n)
    else s2
  else s1

def execWordClockSample (n : Nat) (tx : Bool) (ui tap : Nat) (s : State) : Host.Outcome State Fault Refusal :=
  if 192 ≤ n then .fault .noSuchInstance
  else if s.measures n && (s.chan n).lin != [] && decide (Mode.STEEP ≤ s.mode) then .next (s.wordClock n tx ui tap) else .next s

/-! ## Event inputs (R286, R298) -/

/-- Whether event input `n` stamps: FUNC 1, and from step 2 of Table 02.4 on (R298). -/
def State.evtStamps (s : State) (n : Nat) : Bool :=
  decide (Mode.STEEP ≤ s.mode) && s.fld (F.PIN_EVT_CFG.FUNC n) == 1 && s.fld (F.PH_CH_STATUS.LIN (196 + n)) == 1 &&
    (s.mode != Mode.STEEP || s.channelsReady)

/-- A qualified transition (R286, R297, R298). -/
def State.evtQualified (s : State) (n : Nat) (p : PhPend) : State :=
  let ch := 196 + n
  let edge := p.edge
  let s1 := s.setFldBit F.PIN_EVT_LEVEL.LEVEL n p.level
  let s2 := if p.level == (edge != 1) then s1.fmSample ch 0 1 p.cycle p.stamp else s1
  if edge = 2 ∨ edge = b2n (!p.level) then
    let s3 := s2.offerTrigger (fun t r => t.fldBit (F.CD_RING_TRIG_EVT.EVT r) n) 2 n
    let dead := match (s3.chan ch).last with
      | none => false
      | some c => decide (p.cycle ≤ c + 4)
    if dead then s3.count (Reg.PH_CNT ch 3)
    else
      (s3.setChan ch { s3.chan ch with last := some p.cycle }).stampEvent ch p.dom (!p.level) p.stamp p.spare p.qbad
  else s2

/-- A transition of the pin of event input `n` to `level`, at tap `tap` (R286). -/
def State.evtTransition (s : State) (n : Nat) (level : Bool) (tap : Nat) : State :=
  let ch := 196 + n
  let c := s.chan ch
  if !s.evtStamps n then (s.setFldBit F.PIN_EVT_LEVEL.LEVEL n level).setChan ch { c with pend := none }
  else if s.fldBit F.PIN_EVT_LEVEL.LEVEL n = level then
    if c.pend = none then s
    else ((s.setChan ch { c with pend := none }).count (Reg.PH_CNT ch 2)).flag (F.PH_CH_FLAGS.GLITCH ch)
  else if c.pend ≠ none then s
  else
    let dom := s.chanDomain ch
    let stamp := s.stampAt dom s.cycle (sinceEdge (s.phiOf ch tap)) (-(s.evtDelay n))
    let p : PhPend := ⟨stamp, dom, level, s.evtEdge n, s.cycle, s.covered ch, s.chanBad ch && !s.covered ch⟩
    if s.evtGlitch n = 0 then s.evtQualified n p else s.setChan ch { c with pend := some p }

/-- EVENT_INPUT_TRANSITION (R286). -/
def execEventInputTransition (n : Nat) (level : Bool) (tap : Nat) (s : State) : Host.Outcome State Fault Refusal :=
  if 32 ≤ n ∨ 256 ≤ tap then .fault .noSuchInstance
  else if s.fld (F.PIN_EVT_CFG.FUNC n) = 1 ∧ Mode.LOAD ≤ s.mode then .next (s.evtTransition n level tap) else .next s

/-- GLITCH_FILTER_EXPIRY (R286): the pin has held its new level. -/
def execGlitchFilterExpiry (n : Nat) (s : State) : Host.Outcome State Fault Refusal :=
  if 32 ≤ n then .fault .noSuchInstance
  else match (s.chan (196 + n)).pend with
    | none => .next s
    | some p => .next ((s.setChan (196 + n) { s.chan (196 + n) with pend := none }).evtQualified n p)

end Sys2Proof.Machine
end

