-- ==== Sys2Proof/Machine/Pins.lean ====
section
/-! DEFINITION. Event-input configuration, pulse outputs and clock outputs (10_phase_meters_events_pulses.md, R298 to R306, R422). -/

namespace Sys2Proof.Machine

def Acc.pin (ofs : Nat) : Acc := Acc.direct Base.PIN ofs

/-- A host write of PIN_EVT_CFG_n (R298): transitions of this cycle still see what stood before it; a regression's input has changed only where the
write changes something (R297). -/
def State.evtConfig (s : State) (a : Acc) (n v : Nat) : State :=
  s.guard a [(s.fld (F.PIN_EVT_CFG.FUNC n) == 0 || !s.isMutable 12, Err.NOT_PERMITTED),
      (bitAt v 3 || decide (2 ^ 11 ≤ v), Err.RESERVED_FIELD),
      (v / 2 % 4 == 3 || !s.domEnabled (v / 2 ^ 8 % 8), Err.ILLEGAL_VALUE)] fun t =>
    let t1 := (t.setFld (F.PIN_EVT_CFG.EDGE n) (v / 2)).setFld (F.PIN_EVT_CFG.GLITCH_NS n) (v / 16)
    let t2 := t1.setFld (F.PIN_EVT_CFG.DOMAIN n) (v / 2 ^ 8)
    let c := t2.chan (196 + n)
    let t3 := t2.setChan (196 + n) { c with cfgWas := (t.cycle + 1, t.evtCfg n) }
    if t2.rd (Reg.PIN_EVT_CFG n) = t.rd (Reg.PIN_EVT_CFG n) then t3 else t3.fmChanged (196 + n)

/-! ## Pulse outputs (R299 to R303, R422) -/

/-- Whether pulse output `n` is enabled. -/
def State.plsFunc (s : State) (n : Nat) : Bool := s.fld (F.PIN_PLS_STATUS.FUNC n) == 1

/-- Whether a program is armed or running. -/
def State.plsBusy (s : State) (n : Nat) : Bool := s.fld (F.PIN_PLS_STATUS.STATE n) != 0

/-- PERIOD in 2^-16 ns. -/
def State.plsPeriod (s : State) (n : Nat) : Nat :=
  s.fld (F.PIN_PLS_PERIOD_NS.NS n) * 2 ^ 16 + s.fld (F.PIN_PLS_PERIOD_FRAC.FRAC n)

/-- WIDTH in 2^-16 ns. -/
def State.plsWidth (s : State) (n : Nat) : Nat := s.fld (F.PIN_PLS_WIDTH.NS n) * 2 ^ 16

/-- A host write of a program register of output `n` (R422): the register at `ofs` takes `v` where `bad` names no broken rule. `live` is
PIN_PLS_FINE, which may be written at any time. -/
def State.plsWrite (s : State) (a : Acc) (n ofs v : Nat) (live : Bool) (bad : List (Bool × Nat)) : State :=
  s.guard a ((!s.plsFunc n || !s.isMutable 13, Err.NOT_PERMITTED) :: (!live && s.plsBusy n, Err.BUSY) :: bad) fun t =>
    t.wr ofs (BitVec.ofNat 64 v)

/-- The checks of a length in ns that must be `lo` to 2 s (the PERIOD_NS and WIDTH registers). -/
def nsChecks (lo v : Nat) : List (Bool × Nat) :=
  [(bitAt v 31, Err.RESERVED_FIELD), (v % 2 ^ 31 == 0, Err.ZERO_LENGTH),
    (decide (v % 2 ^ 31 < lo) || decide (2000000000 < v % 2 ^ 31), Err.ILLEGAL_VALUE)]

/-- The end of the program of output `n` (R299). -/
def State.plsEndProg (s : State) (n : Nat) : State :=
  let s1 := { s with phase := { s.phase with pls := s.phase.pls.del n, plsEnd := s.phase.plsEnd.put n (s.cycle + 1) } }
  (s1.setFld (F.PIN_PLS_STATUS.STATE n) 0).flag (F.PIN_PLS_STATUS.DONE n)

/-- Change the program of output `n`. -/
def State.setPls (s : State) (n : Nat) (p : PlsProg) : State := { s with phase := { s.phase with pls := s.phase.pls.put n p } }

/-- ARM checks the staged program and arms it (R301). -/
def State.plsArm (s : State) (a : Acc) (n : Nat) : State :=
  let mode := s.fld (F.PIN_PLS_CFG.MODE n)
  let per := decide (2 ≤ mode)
  let now := s.now16 (s.fld (F.PIN_PLS_STATUS.DOMAIN n))
  let start := s.fld (F.PIN_PLS_START_NS.NS32 n) * 2 ^ 16 + s.fld (F.PIN_PLS_START_FRAC.FRAC n)
  let d := diff48 start (ns48 now)
  s.guard a [(!s.plsFunc n, Err.NOT_PERMITTED),
      (!(s.mode == Mode.BREEZE || s.mode == Mode.GALE || s.mode == Mode.CALM), Err.WRONG_MODE),
      (s.plsBusy n || s.phase.plsEnd.getD n 0 == s.cycle + 1, Err.BUSY),
      (decide (((2000000000 * 2 ^ 16 : Nat) : Int) < d), Err.RANGE),
      (s.plsWidth n == 0 || (per && s.fld (F.PIN_PLS_PERIOD_NS.NS n) == 0), Err.ZERO_LENGTH),
      (mode == 0 || (per && decide (s.plsPeriod n < s.plsWidth n + 2 * 2 ^ 16)), Err.ILLEGAL_VALUE),
      (decide (d < ((128 * 2 ^ 16 : Nat) : Int)), Err.STALE)] fun t =>
    (t.setPls n ⟨addT16 now d, 0, false, false, 0, []⟩).setFld (F.PIN_PLS_STATUS.STATE n) 1

/-- PULSE_ARM (R301). -/
def execPulseArm (n : Nat) (s : State) : Host.Outcome State Fault Refusal :=
  if 32 ≤ n then .fault .noSuchInstance else .next (s.plsArm (Acc.pin (Reg.PIN_PLS_CTRL n)) n)

/-- Whether slot `k` holds a pulse (Table of R299). -/
def State.plsHas (s : State) (n k : Nat) : Bool :=
  let pat := s.fld (F.PIN_PLS_PAT_LO.PAT n) + s.fld (F.PIN_PLS_PAT_HI.PAT n) * 2 ^ 32
  s.fld (F.PIN_PLS_CFG.MODE n) != 3 || bitAt pat (k % (s.fld (F.PIN_PLS_CFG.PLEN n) + 1))

/-- The next slot from `k` on that holds a pulse; a pattern repeats within 64 slots. -/
def State.plsNextSlot (s : State) (n k : Nat) : Option Nat :=
  let count := if s.fld (F.PIN_PLS_CFG.MODE n) = 1 then 1 else s.fld (F.PIN_PLS_CFG.COUNT n)
  ((List.range 64).map (k + ·)).find? fun j => s.plsHas n j && (count == 0 || decide (j < count))

/-- The instant of slot `k` (R299). -/
def State.plsSlotAt (s : State) (n : Nat) (p : PlsProg) (k : Nat) : Time16 :=
  if s.fld (F.PIN_PLS_CFG.MODE n) = 1 then p.start else addT16 p.start (k * s.plsPeriod n : Nat)

/-- The target of the next edge of the program of output `n`, and its slot: the trailing edge of the pulse that is out, or the next leading edge. -/
def State.plsNext (s : State) (n : Nat) (p : PlsProg) : Option (Nat × Time16) :=
  if p.high then some (p.slot, addT16 (s.plsSlotAt n p p.slot) (s.plsWidth n))
  else (s.plsNextSlot n p.slot).map fun k => (k, s.plsSlotAt n p k)

/-- How far an instant of output `n`'s domain lies after the lead channel's value of this cycle, in 2^-48 ns (R300). -/
def State.leadAhead (s : State) (n : Nat) (t : Time16) : Int :=
  let d := ((t * 2 ^ 32 : Nat) - ((s.ktDom s.lead (s.fld (F.PIN_PLS_STATUS.DOMAIN n))).ctr : Int)) % (ctrMod : Int)
  if 2 * d < (ctrMod : Int) then d else d - (ctrMod : Int)

/-- The same of T′ = T − d_out − FINE × 3.125 ps for an edge with target `t` (R300); 3.125 ps are 204.8 of 2^-16 ns. -/
def State.plsAhead (s : State) (n : Nat) (t : Time16) (fine : Int) : Rat :=
  ((s.leadAhead n t - s.cal.pls.getD n 0 * 2 ^ 32 : Int) : Rat) - ((fine * 1024 * 2 ^ 32 : Int) : Rat) / 5

/-- Whether the core cycle in which the lead reaches an instant `x` after its value has come (R300). A command that reports an edge later than
its cycle acts as in it (log entry 70). -/
def State.plsDue (s : State) (n : Nat) (x : Rat) : Bool := decide (x < (s.incNow (s.fld (F.PIN_PLS_STATUS.DOMAIN n)) : Rat))

/-- The FINE that the next edge takes: that of its pulse, or the register's for a leading edge (R422). -/
def State.plsFine (s : State) (n : Nat) (p : PlsProg) : Int := if p.high then p.fine else signed 8 (s.fld (F.PIN_PLS_FINE.TAPS n))

/-- The delay-line table of output `n` in 2^-16 ns: measured, or that of the nominal tap of 3.125 ps (R281, R290, log entry 68). -/
def State.plsTable (s : State) (n : Nat) : List Nat := s.phase.plsTab.getD n ((List.range 256).map fun i => (2048 * i + 5) / 10)

/-- The tap whose delay lies closest to `v` 2^-16 ns; of two equally close the lower (log entry 68). -/
def nearestTap (tab : List Nat) (v : Rat) : Nat :=
  let far : Nat → Rat := fun d => max ((d : Rat) - v) (v - (d : Rat))
  (tab.zipIdx.foldl (fun b e => if far e.1 < far b.1 then e else b) (tab.headD 0, 0)).2

/-- Whether the next edge of output `n` is a leading edge that falls due in this cycle. -/
def State.plsLeadsNow (s : State) (n : Nat) (p : PlsProg) : Bool :=
  !p.high && (match s.plsNext n p with
    | some e => s.plsDue n (s.plsAhead n e.2 (s.plsFine n p))
    | none => false)

/-- STOP lets a pulse that has started end, and one whose leading edge falls into this cycle run (R302, R309). -/
def State.plsStop (s : State) (a : Acc) (n : Nat) : State :=
  s.guard a [(!s.plsFunc n, Err.NOT_PERMITTED)] fun t =>
    match t.phase.pls.get? n with
    | none => t
    | some p => if p.high || t.plsLeadsNow n p then t.setPls n { p with stop := true } else t.plsEndProg n

/-- PULSE_STOP (R302). -/
def execPulseStop (n : Nat) (s : State) : Host.Outcome State Fault Refusal :=
  if 32 ≤ n then .fault .noSuchInstance else .next (s.plsStop (Acc.pin (Reg.PIN_PLS_CTRL n)) n)

/-- A write of PIN_PLS_CTRL_n. -/
def State.plsCtrl (s : State) (a : Acc) (n v : Nat) : State :=
  if 4 ≤ v ∨ v = 3 ∨ v = 0 then
    s.guard a [(!s.plsFunc n, Err.NOT_PERMITTED), (decide (4 ≤ v), Err.RESERVED_FIELD), (v % 4 == 3, Err.ILLEGAL_VALUE)] id
  else if v = 1 then s.plsArm a n else s.plsStop a n

/-- An edge of output `n` with target `t` leaves the generator. While a lead handover's overlap lasts, the old lead's generator may place it once
more, as far away as its value lies from the new lead's and at most EXCL_THRESH_PS (R29, R253): whether it does is open, so a free value
decides. -/
def State.plsFire (s : State) (n : Nat) (level : Bool) (t : Time16) (fine : Int) (tap : Nat) : State :=
  let s1 := s.emit (.pulse n level t fine tap)
  let s2 := { s1 with phase := { s1.phase with plsLast := s1.phase.plsLast.put n (s.cycle + 1) } }
  match s.overlapLag (s.fld (F.PIN_PLS_STATUS.DOMAIN n)) with
  | none => s2
  | some lag =>
    let most : Int := (s.exclPs * 2 ^ 48 / 1000 : Nat)
    if s.freeVal % 2 = 0 then s2.tookFree
    else s2.tookFree.emit (.pulse n level (addT16 t (clampInt (-most) most lag / 2 ^ 32)) fine tap)

/-- The next scheduled instant of the program of output `n` has come (R299, R300): a leading edge, its trailing edge, or the end of the last
slot. A leading edge takes FINE and the delay-line table for its pulse (R290, R422). -/
def State.plsEdge (s : State) (n : Nat) (p : PlsProg) : State :=
  let idle := s.fld (F.PIN_PLS_STATUS.IDLE n) == 1
  let mode := s.fld (F.PIN_PLS_CFG.MODE n)
  let fine := s.plsFine n p
  match s.plsNext n p with
  | some (k, t) =>
    let x := s.plsAhead n t fine
    if s.plsDue n x then
      let tab := if p.high then p.tab else s.plsTable n
      let delay := x * 524288 / (10 * (s.incNow (s.fld (F.PIN_PLS_STATUS.DOMAIN n)) : Rat))
      let s1 := s.plsFire n (idle == p.high) t fine (nearestTap tab delay)
      if p.high then
        if p.stop || mode == 1 then s1.plsEndProg n else s1.setPls n { p with slot := p.slot + 1, high := false }
      else ((s1.setPls n { p with slot := k, high := true, fine := fine, tab := tab }).count (Reg.PIN_PLS_CNT n)).setFld
        (F.PIN_PLS_STATUS.STATE n) 2
    else s
  | none =>
    let count := s.fld (F.PIN_PLS_CFG.COUNT n)
    if s.plsDue n (s.leadAhead n (s.plsSlotAt n p count)) then
      (if count = 0 then s.setFld (F.PIN_PLS_STATUS.STATE n) 2 else s.plsEndProg n)
    else s

/-- PULSE_EDGE (R300). -/
def execPulseEdge (n : Nat) (s : State) : Host.Outcome State Fault Refusal :=
  if 32 ≤ n then .fault .noSuchInstance
  else match s.phase.pls.get? n with
    | none => .next s
    | some p => .next (s.plsEdge n p)

/-- Whether output `n` has an edge within 50 ns before or after this cycle: one scheduled, or one of the last 62 cycles (R252). -/
def State.plsNear (s : State) (n : Nat) : Bool :=
  s.plsFunc n && ((match s.phase.pls.get? n with
    | some p => (match s.plsNext n p with
      | some e => decide (s.leadAhead n e.2 ≤ 50 * 2 ^ 48)
      | none => false)
    | none => false) || decide (s.cycle < s.phase.plsLast.getD n 0 + 62 && 0 < s.phase.plsLast.getD n 0))

/-- LEAD_HANDOVER (R252): a readmission handover waits for a cycle at which no enabled pulse output has an edge within 50 ns. -/
def execLeadHandover (s : State) : Host.Outcome State Fault Refusal :=
  .next (if s.fld F.KT_CH_STATUS.PENDING_HO = 1 && !(List.range 32).any s.plsNear then s.handover else s)

/-! ## Clock outputs (R304 to R306) -/

/-- Whether clock output `k` is enabled by the image. -/
def State.clkFunc (s : State) (k : Nat) : Bool := s.fld (F.PIN_CLK_STATUS.FUNC k) == 1

/-- The output stops, and its PLL has to lock before it starts again (R305). -/
def State.clkRetune (s : State) (k : Nat) : State := (s.setFld (F.PIN_CLK_STATUS.RUN k) 0).setFld (F.PIN_CLK_STATUS.LOCK k) 0

/-- A host write of PIN_CLK_CTRL_k (R305). -/
def State.clkEnable (s : State) (a : Acc) (k v : Nat) : State :=
  s.guard a [(!s.clkFunc k || !s.isMutable 14, Err.NOT_PERMITTED), (decide (2 ≤ v), Err.RESERVED_FIELD)] fun t =>
    if v = t.fld (F.PIN_CLK_CTRL.EN k) then t
    else if v = 1 then (t.setFld (F.PIN_CLK_CTRL.EN k) 1).clkRetune k
    else (t.setFld (F.PIN_CLK_CTRL.EN k) 0).setFld (F.PIN_CLK_STATUS.RUN k) 0

/-- CLOCK_OUT_ENABLE (R305). -/
def execClockOutEnable (k : Nat) (en : Bool) (s : State) : Host.Outcome State Fault Refusal :=
  if 8 ≤ k then .fault .noSuchInstance else .next (s.clkEnable (Acc.pin (Reg.PIN_CLK_CTRL k)) k (b2n en))

/-- A host write of PIN_CLK_FREQ_k (R304, R305). -/
def State.clkFreq (s : State) (a : Acc) (k hz : Nat) : State :=
  s.guard a [(!s.clkFunc k || !s.isMutable 14, Err.NOT_PERMITTED), (decide (2 ^ 29 ≤ hz), Err.RESERVED_FIELD),
      (decide (hz < 1000) || decide (350000000 < hz), Err.ILLEGAL_VALUE)] fun t =>
    let t1 := t.setFld (F.PIN_CLK_FREQ.HZ k) hz
    if t.fld (F.PIN_CLK_CTRL.EN k) = 1 then t1.clkRetune k else t1

/-- CLOCK_OUT_FREQ_WRITE (R305). -/
def execClockOutFreqWrite (k : Nat) (hz : BitVec 32) (s : State) : Host.Outcome State Fault Refusal :=
  if 8 ≤ k then .fault .noSuchInstance else .next (s.clkFreq (Acc.pin (Reg.PIN_CLK_FREQ k)) k hz.toNat)

/-- CLOCK_PLL_LOCK (R305): the output starts if it is enabled. -/
def execClockPllLock (k : Nat) (s : State) : Host.Outcome State Fault Refusal :=
  if 8 ≤ k then .fault .noSuchInstance
  else if s.clkFunc k && decide (Mode.STEEP ≤ s.mode) then
    .next ((s.setFld (F.PIN_CLK_STATUS.LOCK k) 1).setFld (F.PIN_CLK_STATUS.RUN k) (s.fld (F.PIN_CLK_CTRL.EN k)))
  else .next s

/-- CLOCK_PLL_LOL (R306): the output keeps running. -/
def execClockPllLol (k : Nat) (s : State) : Host.Outcome State Fault Refusal :=
  if 8 ≤ k then .fault .noSuchInstance
  else if s.clkFunc k then .next ((s.flagBit F.PIN_CLK_FLAGS.LOL k).setFld (F.PIN_CLK_STATUS.LOCK k) 0) else .next s

/-- CLOCK_REF_LOSS (R306). -/
def execClockRefLoss (k : Nat) (s : State) : Host.Outcome State Fault Refusal :=
  if 8 ≤ k then .fault .noSuchInstance
  else if s.clkFunc k then .next (s.flagBit F.PIN_CLK_FLAGS.REF_LOSS k) else .next s

end Sys2Proof.Machine
end

