-- ==== Sys2Proof/Machine/Line.lean ====
section
/-! DEFINITION. The line of a native trunk lane (04_lanes_and_trunk_code.md, R91, R94 to R103, R106, R118, R119): polarity, stuffing, scrambling,
markers, pointers and units, in both directions. The transmitter sends as many line bits in a core cycle as its baud rate gives. -/

namespace Sys2Proof.Machine

/-! ## Bits -/

/-- The low `k` bits of `v`, bit 0 first. -/
def bitsLsb : Nat → Nat → List Bool
  | 0, _ => []
  | k + 1, v => (v % 2 == 1) :: bitsLsb k (v / 2)

/-- The number that bits hold, bit 0 first. -/
def ofBits : List Bool → Nat
  | [] => 0
  | b :: r => b2n b + 2 * ofBits r

/-- The bits of bytes, each least significant bit first (Table 04.3). -/
def byteBits (bs : List Byte) : List Bool := bs.flatMap fun b => bitsLsb 8 b.toNat

/-- The first `k` bytes that bits hold. -/
def bitBytes : Nat → List Bool → List Byte
  | 0, _ => []
  | k + 1, l => BitVec.ofNat 8 (ofBits (l.take 8)) :: bitBytes k (l.drop 8)

/-! ## The scrambler (R95) -/

/-- What the scrambler adds to the next bit: the bits sent 39 and 58 payload bits before it. -/
def scrTap (st : Nat) : Bool := bitAt st 38 != bitAt st 57

/-- The scrambler state after scrambled bit `b`. -/
def scrNext (st : Nat) (b : Bool) : Nat := (st * 2 + b2n b) % 2 ^ 58

/-- Scramble payload bits: the state after them, and the scrambled bits. -/
def scramble : Nat → List Bool → Nat × List Bool
  | st, [] => (st, [])
  | st, b :: r => ((scramble (scrNext st (b != scrTap st)) r).1, (b != scrTap st) :: (scramble (scrNext st (b != scrTap st)) r).2)

/-- Undo it. -/
def descramble : Nat → List Bool → Nat × List Bool
  | st, [] => (st, [])
  | st, b :: r => ((descramble (scrNext st b) r).1, (b != scrTap st) :: (descramble (scrNext st b) r).2)

/-! ## Stuffing (R96, R97) -/

/-- The run after a further bit `b` that is no stuff bit. -/
def LineRun.next (r : LineRun) (b : Bool) : LineRun := if r.n ≠ 0 ∧ r.bit = b then ⟨b, r.n + 1⟩ else ⟨b, 1⟩

/-- Insert the stuff bits: the run after the bits, and the line bits. -/
def stuff : LineRun → List Bool → LineRun × List Bool
  | r, [] => (r, [])
  | r, b :: l =>
    if r.n = 31 then ((stuff (LineRun.next ⟨!r.bit, 1⟩ b) l).1, (!r.bit) :: b :: (stuff (LineRun.next ⟨!r.bit, 1⟩ b) l).2)
    else ((stuff (r.next b) l).1, b :: (stuff (r.next b) l).2)

/-- Remove the stuff bits: the run after the line bits, the bits that stay, and how many of the removed ones did not have the opposite value. -/
def destuff : LineRun → List Bool → LineRun × List Bool × Nat
  | r, [] => (r, [], 0)
  | r, b :: l =>
    if r.n = 31 then ((destuff ⟨b, 1⟩ l).1, (destuff ⟨b, 1⟩ l).2.1, b2n (b == r.bit) + (destuff ⟨b, 1⟩ l).2.2)
    else ((destuff (r.next b) l).1, b :: (destuff (r.next b) l).2.1, (destuff (r.next b) l).2.2)

/-! ## Checks (R99, R102) -/

/-- The CRC-8 of R99 over the low `n` bits of `v`, fed bit 0 first. -/
def crc8 (v : Nat) : Nat → Nat
  | 0 => 0
  | n + 1 =>
    let c := crc8 v n
    let fb := bitAt c 7 != bitAt v n
    (c * 2 % 256) ^^^ (if fb then 0x07 else 0)

/-- An 8-bit number with its bits in reverse order. -/
def rev8 (c : Nat) : Nat := ((List.range 8).map fun i => b2n (bitAt c (7 - i)) * 2 ^ i).sum

/-- The CRC-6 of R102 over PTR, fed bit 0 first. -/
def crc6 (v : Nat) : Nat → Nat
  | 0 => 0
  | n + 1 =>
    let c := crc6 v n
    let fb := bitAt c 5 != bitAt v n
    (c * 2 % 64) ^^^ (if fb then 0x03 else 0)

/-- A 6-bit number with its bits in reverse order. -/
def rev6 (c : Nat) : Nat := ((List.range 6).map fun i => b2n (bitAt c (5 - i)) * 2 ^ i).sum

/-! ## Words (Tables 04.4 and 04.6, R102) -/

/-- A marker. -/
def markerWord (seq type : Nat) (rxa phv : Bool) (arg : Nat) : Nat :=
  let w := 0x6B28 + seq % 256 * 2 ^ 16 + type % 16 * 2 ^ 24 + b2n rxa * 2 ^ 28 + b2n phv * 2 ^ 29 + arg % 2 ^ 24 * 2 ^ 32
  w + rev8 (crc8 (nbits w 55 16) 40) * 2 ^ 56

/-- A pointer. -/
def pointerWord (ptr : Nat) : Nat := ptr % 2 ^ 10 + rev6 (crc6 (ptr % 2 ^ 10) 10) * 2 ^ 10

/-- A unit header. -/
def unitWord (len kind useq : Nat) : Nat :=
  let h := len % 2 ^ 14 + kind % 4 * 2 ^ 14 + useq % 256 * 2 ^ 16
  h + rev8 (crc8 h 24) * 2 ^ 24

/-! ## Trunk state -/

def State.setTrunk (s : State) (p : Nat) (t : Trunk) : State := { s with lines := { s.lines with trunk := s.lines.trunk.setD p t Trunk.fresh } }
def State.rx (s : State) (l : Nat) : TrRx := s.lines.rx.getD l TrRx.fresh
def State.setRx (s : State) (l : Nat) (r : TrRx) : State := { s with lines := { s.lines with rx := s.lines.rx.setD l r TrRx.fresh } }
def State.tx (s : State) (l : Nat) : TrTx := s.lines.tx.getD l TrTx.fresh
def State.setTx (s : State) (l : Nat) (x : TrTx) : State := { s with lines := { s.lines with tx := s.lines.tx.put l x } }

/-- Marker types (Table 04.5). -/
def Mt.DATA : Nat := 0
def Mt.CAP : Nat := 1
def Mt.PROP : Nat := 2
def Mt.ACK : Nat := 3
def Mt.NAK : Nat := 4
def Mt.TRAIN : Nat := 5
def Mt.IDLE_REQ : Nat := 6
def Mt.IDLE_ACK : Nat := 7

def State.setTrState (s : State) (p st : Nat) : State := s.setFld (F.LN_TRUNK_STATUS.STATE p) st

/-- Whether every lane of the port is aligned, or locked (R111). -/
def State.allLocked (s : State) (p : Nat) : Bool := (s.portLanes p).all fun l => s.fld (F.LN_STATUS.LOCK l) == 1

/-- Change every lane of a port. -/
def State.eachLane (s : State) (p : Nat) (f : State → Nat → State) : State := (s.portLanes p).foldl f s

/-! ## Transmit (Table 04.3) -/

/-- Lane `l` sends bits of its line stream: stuffing, then polarity (R91, R96). -/
def State.lineOut (s : State) (l : Nat) (bits : List Bool) : State :=
  let x := s.tx l
  let o := stuff x.run bits
  (s.setTx l { x with run := o.1, credit := x.credit - 10000000 * (o.2.length : Int) }).emit
    (.line l (o.2.map (· != s.fldBit (F.LN_CFG.POLARITY l) 0)))

/-- Lane `l` sends payload bits: they are scrambled (R95). -/
def State.payOut (s : State) (l : Nat) (bits : List Bool) : State :=
  let o := scramble (s.tx l).scr bits
  (s.setTx l { s.tx l with scr := o.1 }).lineOut l o.2

/-- The message of the next marker of port `p` (R111): the message being sent, in CAP, MISMATCH and SWITCH that of the state for as long as it
lasts, in UP and IDLE DATA, else TRAIN. -/
def State.markerMsg (s : State) (p : Nat) : Nat × Nat :=
  let t := s.trunk p
  let st := s.trState p
  if 0 < t.left ∨ st = Tr.CAP ∨ st = Tr.MISMATCH ∨ st = Tr.SWITCH then t.msg
  else if st = Tr.UP ∨ st = Tr.IDLE then (Mt.DATA, 0)
  else (Mt.TRAIN, s.lineStep p)

/-- How far the next line bit of lane `l` lies after the edge that begins the present cycle, in tenths of 2^-16 ns. -/
def State.bitOfs (s : State) (l : Nat) : Rat :=
  524288 * ((8 * s.laneKbaud l : Nat) - ((s.tx l).credit : Rat)) / (8 * s.laneKbaud l : Nat)

/-- The phase word of a marker that leaves now (R100). -/
def State.phaseWord (s : State) (l : Nat) : Nat :=
  nbits (s.stampAt (s.portDomain (s.lanePort l)) s.cycle (s.bitOfs l) (s.txOfs l)) 31 8

/-- Lane `l` sends the next marker (R98); with the first lane's the message has been sent once more. -/
def State.markerOut (s : State) (l : Nat) : State :=
  let p := s.lanePort l
  let x := s.tx l
  let m := s.markerMsg p
  let dat := m.1 == Mt.DATA
  let w := markerWord (x.seq + 1) m.1 (s.allLocked p) (dat && decide (Mode.STEEP ≤ s.mode)) (if dat then s.phaseWord l else m.2)
  let s1 := (s.setTx l { x with seq := (x.seq + 1) % 256, pos := 1 }).lineOut l (bitsLsb 64 w)
  if l = p then s1.setTrunk p { s1.trunk p with left := (s1.trunk p).left - 1 } else s1

/-- Lane `l` sends the pointer of its superframe (R102): the next unit header begins after what is left of the unit in progress. -/
def State.pointerOut (s : State) (l : Nat) : State :=
  let x := s.tx l
  let n := x.part.length
  (s.setTx l { x with pos := 3 }).payOut l (bitsLsb 16 (pointerWord (if n ≤ 509 then n + 2 else 0x3FF)))

/-- What lane `l` sends next, and the units that wait then: an IDLE unit without a body where none waits (R103). -/
def TrTx.take (x : TrTx) : List Byte × List (List Byte) :=
  match x.part, x.units with
  | [], [] => (leBytes 4 (unitWord 0 0 0), [])
  | [], u :: r => (u, r)
  | u, r => (u, r)

/-- Lane `l` sends the next byte of its unit stream; a superframe has 512 payload bytes. -/
def State.byteOut (s : State) (l : Nat) : State :=
  let x := s.tx l
  let u := x.take
  (s.setTx l { x with part := u.1.drop 1, units := u.2, pos := if x.pos = 512 then 0 else x.pos + 1 }).payOut l (byteBits (u.1.take 1))

/-- The next item of the line stream of lane `l`. -/
def State.txItem (s : State) (l : Nat) : State :=
  if (s.tx l).pos = 0 then s.markerOut l else if (s.tx l).pos = 1 then s.pointerOut l else s.byteOut l

/-- Items while the lane is behind its baud rate. -/
def State.txItems (s : State) (l : Nat) : Nat → State
  | 0 => s
  | n + 1 => if 0 < (s.tx l).credit then (s.txItem l).txItems l n else s

/-- Whether lane `l` sends its line stream: not in electrical idle, nor while it sends PRBS31. -/
def State.txRuns (s : State) (l : Nat) : Bool :=
  let p := s.lanePort l
  s.trState p != Tr.OFF && (s.trState p != Tr.IDLE || (s.trunk p).exiting) && s.fld (F.LN_CTRL.PRBS l) == 0

/-- One core cycle of the transmitter of lane `l`: 0.8 ns at its baud rate. -/
def State.txTick (s : State) (l : Nat) : State :=
  if s.txRuns l then (s.setTx l { s.tx l with credit := (s.tx l).credit + 8 * (s.laneKbaud l : Int) }).txItems l 6 else s

/-- One core cycle of every trunk transmitter. -/
def State.txTicks (s : State) : State := s.lines.tx.keys.foldl State.txTick s

/-- The transmitters of port `p` begin, or drop the units that wait: the first scrambler state is not specified (R95), nor is the first SEQ
(log entry 3). -/
def State.txBegin (s : State) (p : Nat) : State :=
  s.eachLane p fun u l =>
    match u.lines.tx.get? l with
    | some x => u.setTx l { x with units := [] }
    | none => (u.tookFree.tookFree).setTx l { TrTx.fresh with scr := u.freeVal % 2 ^ 58, seq := u.tookFree.freeVal % 256 }

/-- The transmitters of port `p` stop. -/
def State.txStop (s : State) (p : Nat) : State := s.eachLane p fun u l => { u with lines := { u.lines with tx := u.lines.tx.del l } }

/-! ## Frames and messages -/

/-- Line bits before a further unit can begin on a lane, in 10^-7 bits: the rest of the unit in progress, the units that wait, and the markers and
pointers between them. Stuff bits to come are not foreseen (log entry 74). -/
def TrTx.ahead (x : TrTx) : Int :=
  let n := x.part.length + (x.units.map List.length).sum
  let head := if x.pos = 0 then 80 else if x.pos = 1 then 16 else 0
  ((10000000 * (head + 8 * n + 80 * ((x.pos - 3 + n) / 510)) : Nat) : Int) - x.credit

/-- The lane of port `p` on which a unit can begin earliest; the lower one of equals (R106). -/
def State.txLane (s : State) (p : Nat) : Nat := (s.portLanes p).foldl (fun b l => if (s.tx l).ahead < (s.tx b).ahead then l else b) p

/-- A trunk takes a frame into its unit stream; on four lanes its USEQ counts (R103, R106). -/
def State.txFrame (s : State) (p : Nat) (bs : List Byte) : State :=
  if s.isTrunk p then
    let t := s.trunk p
    let x4 := s.laneMode p == 6
    let l := s.txLane p
    let u := leBytes 4 (unitWord bs.length 1 (if x4 then t.useqTx else 0)) ++ bs
    (s.setTx l { s.tx l with units := (s.tx l).units ++ [u] }).setTrunk p { t with useqTx := if x4 then (t.useqTx + 1) % 256 else t.useqTx }
  else s

/-- A trunk begins a message, in three consecutive markers on all of its lanes (R111). -/
def State.trSend (s : State) (p mt arg : Nat) : State := s.setTrunk p { s.trunk p with msg := (mt, arg), left := 3 }

/-! ## Electrical idle (R118, R119) -/

/-- Items up to the end of the superframe. -/
def State.txFill (s : State) (l : Nat) : Nat → State
  | 0 => s
  | n + 1 => if (s.tx l).pos = 0 then s else (s.txItem l).txFill l n

/-- The transmitters of port `p` complete their superframe and stop; scrambler and SEQ stay (R118). -/
def State.txFinish (s : State) (p : Nat) : State := s.eachLane p fun u l => u.txFill l 512

/-- The training burst (R119): 0b0011 repeated 64 times, the first bit 0. -/
def burst : List Bool := (List.replicate 64 [false, false, true, true]).flatten

/-- The transmitters of port `p` send the burst; both directions count runs from it (R96, R119). -/
def State.txBurst (s : State) (p : Nat) : State :=
  s.eachLane p fun u l =>
    let v := u.setRx l { u.rx l with run := LineRun.fresh }
    (v.setTx l { v.tx l with run := LineRun.fresh, credit := 0 }).lineOut l burst

/-! ## Receive -/

/-- Lane `l` receives line bits: polarity, and the stuff bits removed; every violation counts (R91, R97). -/
def State.lineIn (s : State) (l : Nat) (line : List Bool) : State × List Bool :=
  let r := s.rx l
  let o := destuff r.run (line.map (· != s.fldBit (F.LN_CFG.POLARITY l) 1))
  let s1 := s.setRx l { r with run := o.1 }
  (if o.2.2 = 0 then s1 else (s1.countN (Reg.LN_CNT l 5) o.2.2).flag (F.LN_FLAGS.STUFF_ERR l), o.2.1)

/-- Descrambled payload bits join the unit in progress; those before its header are dropped, and all while the stream is discarded. -/
def TrRx.keep (r : TrRx) (d : List Bool) : TrRx :=
  if r.pos.isNone then { r with buf := [], drop := 0 }
  else { r with buf := (r.buf ++ d).drop r.drop, drop := r.drop - (r.buf ++ d).length }

/-- Lane `l` takes payload bits of its destuffed line. -/
def State.payIn (s : State) (l : Nat) (bits : List Bool) : State :=
  let o := descramble (s.rx l).scr bits
  s.setRx l ({ s.rx l with scr := o.1 }.keep o.2)

end Sys2Proof.Machine
end

