-- ==== Sys2Proof/Machine/Tables.lean ====
section
/-! DEFINITION. The tables of a slice (05_ingress_and_tables.md): forwarding database, stream table, classifier, filters and meters,
learning, ageing, table versions and the table access windows. -/

namespace Sys2Proof.Machine

/-- Number `v` with bits `hi` to `lo` replaced. -/
def nset (v hi lo x : Nat) : Nat := v - nbits v hi lo * 2 ^ lo + x % 2 ^ (hi + 1 - lo) * 2 ^ lo

/-- The carve of slice `i`: log2 of FDB_ENTRIES, STREAM_ENTRIES and CLS_ENTRIES. -/
def State.fdbLg (s : State) (i : Nat) : Nat := s.fld (F.SLC_CARVE.FDB_LOG2 i)
def State.streamEntries (s : State) (i : Nat) : Nat := s.fld (F.SLC_CARVE.STREAM_K i) * 1024
def State.clsEntries (s : State) (i : Nat) : Nat := s.fld (F.SLC_CARVE.CLS_256 i) * 256

/-- `n` committed changes of the tables of slice `i` (R157). -/
def State.commitN (s : State) (i n : Nat) : State :=
  if n = 0 then s else (s.setFld (F.SLC_TBL_VER.VER i) (s.fld (F.SLC_TBL_VER.VER i) + n)).pfEvent 0x106 i n

/-! ## Forwarding database (R141 to R148) -/

/-- The key of {VLAN, MAC} (R141). -/
def fdbKey (vlan mac : Nat) : Nat := vlan % 4096 * 2 ^ 48 + mac % 2 ^ 48

/-- The hash Pi of R141, for bank 0 (P1) or bank 1 (P2). -/
def fdbHash (bank k : Nat) : Nat :=
  (k ^^^ (k / 2 ^ 30)) * (if bank = 0 then 0x0A5C3B97E1D24F6B else 0x06F1D4A92C8B37E5) % 2 ^ 60

/-- The bucket of key `k` in a bank of an FDB of 2^lg entries. -/
def fdbBucket (lg bank k : Nat) : Nat := fdbHash bank k / 2 ^ (60 - (lg - 3))

/-- The raw slot number of a way (R141). -/
def fdbSlot (lg bank bucket way : Nat) : Nat := bank * 2 ^ (lg - 1) + bucket * 4 + way

/-- The four slots of key `k`'s bucket in a bank. -/
def fdbWays (lg bank k : Nat) : List Nat := (List.range 4).map (fdbSlot lg bank (fdbBucket lg bank k))

/-- The slots of the stash. -/
def fdbStash (lg : Nat) : List Nat := (List.range 8).map (2 ^ lg + ·)

/-- The slot that a lookup of key `k` uses: bank 0, then bank 1, then the stash (R143). -/
def Slice.fdbFind (t : Slice) (lg k : Nat) : Option Nat :=
  (fdbWays lg 0 k ++ fdbWays lg 1 k ++ fdbStash lg).find? fun n =>
    match t.fdb.get? n with
    | some e => e.key == k
    | none => false

/-- The lowest free slot of a list. -/
def Slice.freeOf (t : Slice) (slots : List Nat) : Option Nat := slots.find? fun n => (t.fdb.get? n).isNone

def markHit (m : Nat) : Nat := setBit m 0 true

/-- A source lookup sets the hit mark of its slot (R149). -/
def Slice.hit (t : Slice) (n : Nat) : Slice := { t with marks := t.marks.put n (markHit (t.marks.getD n 0)) }

/-- Whether slot `n` holds a STATIC entry. -/
def Slice.fdbStatic (t : Slice) (n : Nat) : Bool := match t.fdb.get? n with | some e => e.isStatic | none => false

/-- The search for a relocation path (R144, step 3): at most `fuel` more moves; `path` holds the slots so far, last first. With `fixed` no STATIC entry
may move, as R153 asks of learning (log entry 81). -/
def Slice.fdbPath (t : Slice) (lg : Nat) (fixed : Bool) : Nat → Nat → List Nat → Nat → Nat → Option (List Nat) × Nat
  | 0, rotor, _, _, _ => (none, rotor)
  | fuel + 1, rotor, path, bank, bucket =>
    match ((List.range 4).map fun i => (rotor + i) % 4).find? fun w =>
        !path.contains (fdbSlot lg bank bucket w) && !(fixed && t.fdbStatic (fdbSlot lg bank bucket w)) with
    | none => (none, rotor)
    | some w =>
      let u := fdbSlot lg bank bucket w
      let x := ((t.fdb.get? u).map FdbEntry.key).getD 0
      let bank' := 1 - bank
      match t.freeOf (fdbWays lg bank' x) with
      | some f => (some (f :: u :: path), (w + 1) % 4)
      | none => t.fdbPath lg fixed fuel ((w + 1) % 4) (u :: path) bank' (fdbBucket lg bank' x)

/-- One step of a relocation (R145): the entry of slot `u` moves to slot `v` with its marks. -/
def Slice.fdbMove (t : Slice) (u v : Nat) : Slice :=
  match t.fdb.get? u with
  | none => t
  | some e =>
    { t with fdb := (t.fdb.put v e).del u, marks := (t.marks.setD v (t.marks.getD v 0 ||| t.marks.getD u 0) 0).del u }

/-- Execute a path backwards (R145): it is given last slot first. -/
def Slice.fdbMoves (t : Slice) : List Nat → Slice
  | v :: u :: r => (t.fdbMove u v).fdbMoves (u :: r)
  | _ => t

/-- Insert an entry (R144): `none` is FULL; else the number of moves and whether the stash took it. An entry that is not STATIC comes from learning. -/
def Slice.fdbPlace (t : Slice) (lg : Nat) (e : FdbEntry) : Slice × Option (Nat × Bool) :=
  if lg < 3 then (t, none)
  else match t.fdbFind lg e.key with
    | some n => ({ t with fdb := t.fdb.put n e }, some (0, false))
    | none =>
      match t.freeOf (fdbWays lg 0 e.key ++ fdbWays lg 1 e.key) with
      | some n => ({ t with fdb := t.fdb.put n e, marks := t.marks.del n }, some (0, false))
      | none =>
        match t.fdbPath lg (!e.isStatic) 32 t.rotor [] 0 (fdbBucket lg 0 e.key) with
        | (some path, r) =>
          let t1 := { t with rotor := r }.fdbMoves path
          let n := path.getLastD 0
          ({ t1 with fdb := t1.fdb.put n e, marks := t1.marks.del n }, some (path.length - 1, false))
        | (none, r) =>
          match t.freeOf (fdbStash lg) with
          | some n => ({ t with fdb := t.fdb.put n e, marks := t.marks.del n, rotor := r }, some (0, true))
          | none => ({ t with rotor := r }, none)

/-- Slots of the FDB of slice `i` are written: a Strainer engine over one of them becomes dirty (R352). -/
def State.touchSlots (s : State) (i : Nat) (slots : List Nat) : State :=
  slots.foldl (fun t n => if n < 2 ^ t.fdbLg i then t.scanTouch 0 i (8 * n) 8 else t) s

/-- The slots that an insertion of key `k` wrote, which led from `t0` to `t1`. -/
def Slice.written (t0 t1 : Slice) (k : Nat) : List Nat :=
  (t0.fdb.keys ++ t1.fdb.keys).filter fun n =>
    t0.fdb.get? n != t1.fdb.get? n || (match t1.fdb.get? n with | some e => e.key == k | none => false)

/-- The byte offsets of stream entry and classifier record `n` in the carve of slice `i` (R76). -/
def State.streamOfs (s : State) (i n : Nat) : Nat := 8 * 2 ^ s.fdbLg i + 16 * n
def State.clsOfs (s : State) (i n : Nat) : Nat := 8 * 2 ^ s.fdbLg i + 16 * s.streamEntries i + 64 * n

/-- Insert an entry into the FDB of slice `i` as one committed change. -/
def State.fdbInsert (s : State) (i : Nat) (e : FdbEntry) : State × Option (Nat × Bool) :=
  match (s.slice i).fdbPlace (s.fdbLg i) e with
  | (t, none) => (s.setSlice i t, none)
  | (t, some (m, st)) =>
    let s0 := if s.scans.entries.isEmpty then s.setSlice i t else (s.setSlice i t).touchSlots i ((s.slice i).written t e.key)
    let s1 := (s0.countN (Reg.SLC_CNT i 13) m).commitN i 1
    ((if st then s1.count (Reg.SLC_CNT i 7) else s1), some (m, st))

/-- Remove the entries of slice `i` that satisfy `p`, each as a committed change; the number removed is returned. -/
def State.fdbRemove (s : State) (i : Nat) (p : Nat → FdbEntry → Bool) : State × Nat :=
  let t := s.slice i
  let gone := (t.fdb.filter p).keys
  let s1 := s.setSlice i { t with fdb := t.fdb.filter fun n e => !p n e, marks := t.marks.filter fun n _ => !gone.contains n }
  ((s1.touchSlots i gone).commitN i gone.length, gone.length)

/-- A port has left UP and IDLE: every slice removes its non-static entries towards it (R155). -/
def State.fdbPortFlush (s : State) (p : Nat) : State :=
  (List.range 4).foldl (fun s i =>
    match s.fdbRemove i fun _ e => !e.isStatic && !e.group && e.dest == p with
    | (s1, n) => s1.countN (Reg.SLC_CNT i 6) n) s

/-- STASH_MOVE (R146): each stash entry moves to a free way of its buckets. -/
def State.stashMove (s : State) (i : Nat) : State :=
  let lg := s.fdbLg i
  (fdbStash lg).foldl (fun s n =>
    let t := s.slice i
    match t.fdb.get? n with
    | none => s
    | some e =>
      match t.freeOf (fdbWays lg 0 e.key ++ fdbWays lg 1 e.key) with
      | some v => ((s.setSlice i (t.fdbMove n v)).touchSlots i [v]).count (Reg.SLC_CNT i 8)
      | none => s) s

def execStashMove (i : Nat) (s : State) : Host.Outcome State Fault Refusal :=
  if 4 ≤ i then .fault .noSuchInstance else .next (s.stashMove i)

/-! ## Stream table (R136) -/

def strMac (v : Nat) : Nat := nbits v 47 0
def strVlan (v : Nat) : Nat := nbits v 59 48
def strFunc (v : Nat) : Nat := nbits v 60 60
def strDirect (v : Nat) : Bool := bitAt v 62
def strValid (v : Nat) : Bool := bitAt v 63

/-- The entry at a stream index; an index that lists none is not VALID. -/
def State.streamEntry (s : State) (i n : Nat) : Nat := (s.slice i).streams.getD n 0

/-- The bucket of a probe: FUNC 0 by P2, FUNC 1 by P1 (R136). -/
def strBucket (entries func k : Nat) : Nat := fdbHash (1 - func) k * (entries / 4) / 2 ^ 60

/-- The stream index that a probe with function `func` finds; of two entries that match, the one in the lowest way (log entry 82). -/
def State.streamProbe (s : State) (i func k : Nat) : Option Nat :=
  let b := strBucket (s.streamEntries i) func k
  ((List.range 4).map (4 * b + ·)).find? fun n =>
    let v := s.streamEntry i n
    strValid v && !strDirect v && strFunc v == func && fdbKey (strVlan v) (strMac v) == k

/-- Whether a data image is not a legal stream entry for index `n` (R136). -/
def strIllegal (entries n v : Nat) : Bool :=
  bitAt v 61 || nbits v 127 104 != 0 || (strDirect v && nbits v 59 0 != 0) ||
    (strValid v && !strDirect v && n / 4 != strBucket entries (strFunc v) (fdbKey (strVlan v) (strMac v)))

/-! ## Classifier (R131 to R135), filters and meters (R138 to R140) -/

def clsType (v : Nat) : Nat := v % 256

/-- The record at a classifier index. -/
def State.clsRecord (s : State) (i n : Nat) : Nat := (s.slice i).cls.getD n 0

/-- The index limit of a record type (Table 05.4). -/
def clsLimit (entries ty : Nat) : Nat := if ty = 3 then min entries 2048 else if ty = 4 ∨ ty = 5 then min entries 1023 else entries

/-- The ports of a GROUP record. -/
def groupPorts (v : Nat) : List Nat := bitList 192 (nbits v 255 64)

/-- Whether a data image is not a legal classifier record (R131, R133 to R135, R139, R140), in a slice of `entries` stream entries
and with the ports that satisfy `used`. STREAM must be in range only with STREAM_EN; in an image, reserved bits of a record are judged here, at check
14 (log entry 83). -/
def clsIllegalWith (entries : Nat) (used : Nat → Bool) (v : Nat) : Bool :=
  let ty := clsType v
  let act := nbits v 511 448
  nbits v 63 8 != 0 ||
    (if ty = 0 then nbits v 511 64 != 0
    else if ty = 1 ∨ ty = 2 then
      nbits v 255 208 != 0 || nbits v 447 400 != 0 || (ty == 2 && (nbits v 111 110 != 0 || nbits v 303 302 != 0)) ||
        nbits act 63 44 != 0 || (bitAt act 18 && decide (entries ≤ nbits act 35 19))
    else if ty = 3 then (groupPorts v).any (fun p => !used p) || nbits v 511 256 != 0
    else if ty = 4 then
      decide (nbits v 79 64 < 64) || decide (10240 < nbits v 79 64) || nbits v 87 85 != 0 || nbits v 95 88 != 0 ||
        decide (1023 < nbits v 111 96) || nbits v 511 112 != 0
    else if ty = 5 then
      decide (100000000 < nbits v 95 64) || decide (nbits v 127 96 < 10240) || decide (16777215 < nbits v 127 96) ||
        decide (100000000 < nbits v 159 128) || decide (nbits v 191 160 < 10240) || decide (16777215 < nbits v 191 160) ||
        nbits v 199 195 != 0 || nbits v 511 200 != 0
    else true)

/-- Whether a data image holds a zero length limit or a zero burst size (R12). -/
def clsZero (v : Nat) : Bool :=
  (clsType v == 4 && nbits v 79 64 == 0) || (clsType v == 5 && (nbits v 127 96 == 0 || nbits v 191 160 == 0))

def State.clsIllegal (s : State) (i v : Nat) : Bool := clsIllegalWith (s.streamEntries i) s.portUsed v

/-- The first rule whose key matches (R132): `k2` and `k3` are the frame's keys as RULE_L2 and RULE_L3. -/
def State.clsMatch (s : State) (i k2 k3 : Nat) : Option Nat :=
  ((s.slice i).cls.entries.find? fun e =>
    (clsType e.2 == 1 || clsType e.2 == 2) &&
      ((if clsType e.2 = 1 then k2 else k3) ^^^ nbits e.2 255 64) &&& nbits e.2 447 256 == 0).map (·.2)

/-- Full buckets of a METER record. -/
def meterFull (v cycle : Nat) : Meter := ⟨nbits v 127 96 * 10 ^ 7, nbits v 191 160 * 10 ^ 7, cycle⟩

/-- Put a record at a classifier index (R139, R140): a FILTER keeps the counters of a FILTER, a METER is refilled. -/
def Slice.clsPut (t : Slice) (n v cycle : Nat) : Slice :=
  let old := t.cls.getD n 0
  let v1 := if clsType v = 4 ∧ clsType old = 4 then nset v 511 256 (nbits old 511 256) else v
  { t with cls := t.cls.setD n v1 0, meters := if clsType v = 5 then t.meters.put n (meterFull v cycle) else t.meters.del n }

/-- Charge a meter with a frame of `len` bytes (R140): 0 green, 1 yellow, 2 red; and whether yellow is dropped. The bandwidth-profile
algorithm behind CF is PRESUMED (log entry 8). -/
def State.meter (s : State) (i m len : Nat) : State × Nat × Bool :=
  let t := s.slice i
  let v := t.cls.getD m 0
  if clsType v = 5 then
    let b := t.meters.getD m (meterFull v s.cycle)
    let dt := s.cycle - b.cycle
    let cbs := nbits v 127 96 * 10 ^ 7
    let ebs := nbits v 191 160 * 10 ^ 7
    let c0 := b.c + nbits v 95 64 * dt
    let e0 := b.e + nbits v 159 128 * dt + (if bitAt v 192 then c0 - cbs else 0)
    let c1 := min cbs c0
    let e1 := min ebs e0
    let need := len * 10 ^ 7
    let col := if bitAt v 195 then 2 else if need ≤ c1 then 0 else if need ≤ e1 then 1 else 2
    let b1 : Meter := ⟨if col = 0 then c1 - need else c1, if col = 1 then e1 - need else e1, s.cycle⟩
    let v1 := if col = 2 ∧ bitAt v 194 = true then nset v 195 195 1 else v
    (s.setSlice i { t with meters := t.meters.put m b1, cls := t.cls.put m v1 }, col, bitAt v 193)
  else (s, 0, false)

/-- One of the four counters of a FILTER record counts. -/
def filterCount (v n : Nat) : Nat := nset v (319 + 64 * n) (256 + 64 * n) (nbits v (319 + 64 * n) (256 + 64 * n) + 1)

/-- The stream filter at index `f` judges a frame (R139): whether it is discarded, and whether its meter found it yellow. -/
def State.police (s : State) (i f len pcp : Nat) : State × Bool × Bool :=
  let v := s.clsRecord i f
  let put : State → Nat → State := fun u r => u.setSlice i { u.slice i with cls := (u.slice i).cls.put f r }
  if clsType v ≠ 4 ∨ (bitAt v 80 = true ∧ nbits v 83 81 ≠ pcp) then (s, false, false)
  else
    let v0 := filterCount v 0
    if bitAt v 85 then (put s (filterCount v0 2), true, false)
    else if nbits v 79 64 < len then
      (put s (filterCount (if bitAt v 84 then nset v0 85 85 1 else v0) 2), true, false)
    else
      match s.meter i (nbits v 111 96) len with
      | (s1, col, dropYellow) =>
        if col = 2 ∨ (col = 1 ∧ dropYellow = true) then (put s1 (filterCount v0 3), true, false)
        else (put s1 (filterCount v0 1), false, col == 1)

/-! ## Learning (R149 to R155) -/

/-- Whether the sweeper of slice `i` runs: not in CALM (R40), nor in RECONF (R85). -/
def State.sweeps (s : State) (i : Nat) : Bool :=
  (s.slc i == Slc.ACTIVE || s.slc i == Slc.FAULT) && decide (Mode.STEEP ≤ s.mode) && (s.mode != Mode.CALM || s.resuming i)

/-- Whether the learning engine of slice `i` runs (R40, R150, R152). -/
def State.learns (s : State) (i : Nat) : Bool :=
  s.slc i == Slc.ACTIVE && decide (Mode.STEEP ≤ s.mode) && (s.mode != Mode.CALM || s.resuming i)

/-- A station move of slice `i` (R152, R154). -/
def State.stationMove (s : State) (i : Nat) : State :=
  (s.setSlice i { s.slice i with moves := (s.slice i).moves + 1 }).count (Reg.SLC_CNT i 3)

/-- A learning request enters the queue of slice `i` (R152). -/
def State.learnRequest (s : State) (i k port : Nat) : State :=
  let t := s.slice i
  match t.learn.find? fun r => r.key == k with
  | some r =>
    let s1 := s.setSlice i { t with learn := t.learn.map fun q => if q.key = k then ⟨k, port⟩ else q }
    if r.port = port then s1 else s1.stationMove i
  | none =>
    if 64 ≤ t.learn.length then s.count (Reg.SLC_CNT i 1) else s.setSlice i { t with learn := t.learn ++ [⟨k, port⟩] }

/-- A request is applied (R152, R153). -/
def State.learnApply (s : State) (i : Nat) (r : LearnReq) : State :=
  let t := s.slice i
  let found := (t.fdbFind (s.fdbLg i) r.key).bind t.fdb.get?
  let ins := fun u : State =>
    match u.fdbInsert i ⟨r.key, false, false, r.port⟩ with
    | (v, none) => v.count (Reg.SLC_CNT i 2)
    | (v, some _) => v.countEv (Reg.SLC_CNT i 0) 0x102 i 1
  match found with
  | none => ins s
  | some e =>
    if e.isStatic then s.count (Reg.SLC_CNT i 4)
    else if !e.group && e.dest == r.port then s
    else (ins s).stationMove i

/-- LEARN_REQUEST_APPLY (R152): the oldest request of slice `i`. -/
def execLearnRequestApply (i : Nat) (s : State) : Host.Outcome State Fault Refusal :=
  if 4 ≤ i then .fault .noSuchInstance
  else match (s.slice i).learn with
    | [] => .next s
    | r :: rest =>
      let s1 := s.setSlice i { s.slice i with learn := rest }
      .next (if s.learns i then s1.learnApply i r else s1)

/-- MOVE_SECOND_END (R154). -/
def execMoveSecondEnd (i : Nat) (s : State) : Host.Outcome State Fault Refusal :=
  if 4 ≤ i then .fault .noSuchInstance
  else
    let n := (s.slice i).moves
    let s1 := (s.setSlice i { s.slice i with moves := 0 }).setFld (F.SLC_MOVE.LAST i) (min n 0xFFFF)
    .next (if s.fld (F.SLC_MOVE.THRESH i) < n then s1.spoutEvent Sp.FDB_MOVE i 0 n else s1)

/-- AGEING_VISIT (R156): raw slot `n`, or FDB_ENTRIES + k for stash entry k. -/
def State.ageingVisit (s : State) (i n : Nat) : State :=
  let t := s.slice i
  match t.fdb.get? n with
  | none => s
  | some e =>
    if e.isStatic then s
    else
      let m := t.marks.getD n 0
      if bitAt m 0 then s.setSlice i { t with marks := t.marks.del n }
      else if bitAt m 1 then ((s.fdbRemove i fun k _ => k == n).1).count (Reg.SLC_CNT i 5)
      else s.setSlice i { t with marks := t.marks.put n 2 }

def execAgeingVisit (i n : Nat) (s : State) : Host.Outcome State Fault Refusal :=
  if 4 ≤ i then .fault .noSuchInstance else if s.sweeps i then .next (s.ageingVisit i n) else .next s

/-! ## Table access windows (R161, R162) -/

def Acc.tw (w : Nat) : Acc := Acc.direct (Base.TW w) (Reg.TW_CMD w)

/-- The key in TW_KEY_LO and TW_KEY_HI. -/
def State.twKey (s : State) (w : Nat) : Nat :=
  fdbKey (s.fld (F.TW_KEY_HI.VLAN w)) (s.fld (F.TW_KEY_LO.MAC_LO w) + s.fld (F.TW_KEY_HI.MAC_HI w) * 2 ^ 32)

/-- The data image of `n` double words. -/
def State.twData (s : State) (w n : Nat) : Nat :=
  ((List.range n).map fun i => s.fld (F.TW_DATA.DATA w i) * 2 ^ (32 * i)).sum

/-- The read fields of TW_FDB for the entry in slot `n`. -/
def Slice.twFdb (t : Slice) (lg n : Nat) (e : FdbEntry) : Nat :=
  let m := t.marks.getD n 0
  let stash := decide (2 ^ lg ≤ n)
  e.dest + b2n e.group * 2 ^ 11 + b2n e.isStatic * 2 ^ 12 + 2 ^ 14 + b2n (bitAt m 0) * 2 ^ 15 + b2n (bitAt m 1) * 2 ^ 16 +
    b2n (!stash && decide (2 ^ (lg - 1) ≤ n)) * 2 ^ 17 + b2n stash * 2 ^ 18

/-- Begin a command that reports `p` at its completion. -/
def State.twPend (s : State) (w : Nat) (p : TwPend) : State :=
  (s.setSlice w { s.slice w with tw := some p }).setFld (F.TW_STATUS.BUSY w) 1

/-- A report of `result` that reads nothing. -/
def State.twPlain (s : State) (w result : Nat) : State := s.twPend w ⟨s.slc w == Slc.ACTIVE, result, none, none, none, none⟩

/-- The checks of a window command (R12, R161, R420). -/
def State.twChecks (s : State) (w op table : Nat) (rsv : Bool) : List (Bool × Nat) :=
  let slc := s.slc w
  let change := op == 1 || op == 2 || op == 5
  let idx := s.fld (F.TW_INDEX.INDEX w)
  let legal := (table == 0 && decide (1 ≤ op) && decide (op ≤ 5)) || ((table == 1 || table == 2) && decide (1 ≤ op) && decide (op ≤ 3)) ||
    (table == 3 && op == 4)
  let dest := s.fld (F.TW_FDB.DEST w)
  let rec512 := s.twData w 16
  [(s.fld (F.TW_STATUS.BUSY w) == 1, Err.BUSY),
    (change && !s.isMutable (if table = 0 ∨ table = 3 then 0 else 1), Err.NOT_PERMITTED),
    (!s.powered w || slc == Slc.RECONF || (slc == Slc.FAULT && change), Err.WRONG_MODE), (rsv, Err.RESERVED_FIELD),
    (op == 1 && table == 2 && clsZero rec512, Err.ZERO_LENGTH),
    (legal && ((table == 0 && op == 4 && decide (2 ^ s.fdbLg w ≤ idx)) || (table == 3 && decide (8 ≤ idx)) ||
      (table == 1 && decide (s.streamEntries w ≤ idx)) || (table == 2 && decide (s.clsEntries w ≤ idx)) ||
      (table == 2 && op == 1 && decide (clsLimit (s.clsEntries w) (clsType rec512) ≤ idx))), Err.RANGE),
    (!legal || (op == 1 &&
      ((table == 0 && (if s.fld (F.TW_FDB.GROUP w) = 1 then false else !s.portUsed dest)) ||
        (table == 1 && strIllegal (s.streamEntries w) idx (s.twData w 4)) || (table == 2 && s.clsIllegal w rec512))),
      Err.ILLEGAL_VALUE)]

/-- WRITE: an FDB entry by key as STATIC, a stream entry or a classifier record by index. An insertion that ends in FULL leaves MOVES and STASHED as
they are (log entry 84). -/
def State.twDoWrite (s : State) (w table : Nat) : State :=
  let idx := s.fld (F.TW_INDEX.INDEX w)
  if table = 0 then
    match s.fdbInsert w ⟨s.twKey w, true, s.fld (F.TW_FDB.GROUP w) == 1, s.fld (F.TW_FDB.DEST w)⟩ with
    | (s1, none) => s1.twPlain w 2
    | (s1, some r) => s1.twPend w ⟨s.slc w == Slc.ACTIVE, 0, some r, none, none, none⟩
  else if table = 1 then
    let s1 := s.setSlice w { s.slice w with streams := (s.slice w).streams.setD idx (s.twData w 4) 0 }
    ((s1.scanTouch 0 w (s.streamOfs w idx) 16).commitN w 1).twPlain w 0
  else
    let s1 := s.setSlice w ((s.slice w).clsPut idx (s.twData w 16) s.cycle)
    ((s1.scanTouch 0 w (s.clsOfs w idx) 64).commitN w 1).twPlain w 0

/-- DELETE: an FDB entry by key; a record becomes EMPTY or invalid. -/
def State.twDoDelete (s : State) (w table : Nat) : State :=
  let idx := s.fld (F.TW_INDEX.INDEX w)
  if table = 0 then
    match (s.slice w).fdbFind (s.fdbLg w) (s.twKey w) with
    | none => s.twPlain w 1
    | some n => ((s.fdbRemove w fun k _ => k == n).1).twPlain w 0
  else if table = 1 then
    let s1 := s.setSlice w { s.slice w with streams := (s.slice w).streams.del idx }
    ((s1.scanTouch 0 w (s.streamOfs w idx) 16).commitN w 1).twPlain w 0
  else ((s.setSlice w ((s.slice w).clsPut idx 0 s.cycle)).scanTouch 0 w (s.clsOfs w idx) 64 |>.commitN w 1).twPlain w 0

/-- READ: FDB by key, others by index. An FDB read that finds nothing reads zero. -/
def State.twDoRead (s : State) (w table : Nat) : State :=
  let t := s.slice w
  let act := s.slc w == Slc.ACTIVE
  let idx := s.fld (F.TW_INDEX.INDEX w)
  if table = 0 then
    match t.fdbFind (s.fdbLg w) (s.twKey w) with
    | none => s.twPend w ⟨act, 1, none, none, some 0, none⟩
    | some n => s.twPend w ⟨act, 0, none, none, (t.fdb.get? n).map (t.twFdb (s.fdbLg w) n), none⟩
  else if table = 1 then s.twPend w ⟨act, 0, none, none, none, some (4, s.streamEntry w idx)⟩
  else s.twPend w ⟨act, 0, none, none, none, some (16, s.clsRecord w idx)⟩

/-- RAW: an FDB slot, or a stash entry. -/
def State.twDoRaw (s : State) (w table : Nat) : State :=
  let t := s.slice w
  let lg := s.fdbLg w
  let idx := s.fld (F.TW_INDEX.INDEX w)
  let n := if table = 3 then 2 ^ lg + idx else idx
  match t.fdb.get? n with
  | none => s.twPend w ⟨s.slc w == Slc.ACTIVE, 0, none, some 0, some 0, none⟩
  | some e => s.twPend w ⟨s.slc w == Slc.ACTIVE, 0, none, some e.key, some (t.twFdb lg n e), none⟩

/-- FLUSH by port, by VLAN or both; static entries only with STATIC_TOO. -/
def State.twDoFlush (s : State) (w : Nat) : State :=
  let port := s.fld (F.TW_FLUSH.PORT w)
  let vlan := s.fld (F.TW_FLUSH.VLAN w)
  match s.fdbRemove w fun _ e =>
    (!e.isStatic || s.fld (F.TW_FLUSH.STATIC_TOO w) == 1) &&
      (s.fld (F.TW_FLUSH.PORT_EN w) == 0 || (!e.group && e.dest == port)) &&
      (s.fld (F.TW_FLUSH.VLAN_EN w) == 0 || e.key / 2 ^ 48 == vlan) with
  | (s1, n) => (s1.countN (Reg.SLC_CNT w 6) n).twPlain w 0

/-- A write of TW_CMD (R161). -/
def State.twCmd (s : State) (a : Acc) (w op table : Nat) (rsv : Bool) : State :=
  s.guard a (s.twChecks w op table rsv) fun t =>
    if op = 1 then t.twDoWrite w table
    else if op = 2 then t.twDoDelete w table
    else if op = 3 then t.twDoRead w table
    else if op = 4 then t.twDoRaw w table
    else t.twDoFlush w

/-- TW_WRITE (R161). -/
def execTwWrite (w : Nat) (table : BitVec 2) (s : State) : Host.Outcome State Fault Refusal :=
  if 4 ≤ w then .fault .noSuchInstance else .next (s.twCmd (Acc.tw w) w 1 table.toNat false)

/-- TW_DELETE (R161). -/
def execTwDelete (w : Nat) (table : BitVec 2) (s : State) : Host.Outcome State Fault Refusal :=
  if 4 ≤ w then .fault .noSuchInstance else .next (s.twCmd (Acc.tw w) w 2 table.toNat false)

/-- TW_READ (R162). -/
def execTwRead (w : Nat) (table : BitVec 2) (s : State) : Host.Outcome State Fault Refusal :=
  if 4 ≤ w then .fault .noSuchInstance else .next (s.twCmd (Acc.tw w) w 3 table.toNat false)

/-- TW_RAW (R162). -/
def execTwRaw (w : Nat) (table : BitVec 2) (s : State) : Host.Outcome State Fault Refusal :=
  if 4 ≤ w then .fault .noSuchInstance else .next (s.twCmd (Acc.tw w) w 4 table.toNat false)

/-- TW_FLUSH (R162). -/
def execTwFlush (w : Nat) (table : BitVec 2) (s : State) : Host.Outcome State Fault Refusal :=
  if 4 ≤ w then .fault .noSuchInstance else .next (s.twCmd (Acc.tw w) w 5 table.toNat false)

/-- A window command ends (R162): its results replace the registers; ABORTED where the slice has left ACTIVE. -/
def State.twDone (s : State) (w : Nat) (p : TwPend) : State :=
  let s1 := ((s.setSlice w { s.slice w with tw := none }).setFld (F.TW_STATUS.BUSY w) 0).wrapAdd (F.TW_STATUS.SEQ w) 1
  if p.active && s.slc w != Slc.ACTIVE then s1.setFld (F.TW_STATUS.RESULT w) 3
  else
    let s2 := s1.setFld (F.TW_STATUS.RESULT w) p.result
    let s3 := match p.ins with
      | none => s2
      | some (m, st) => (s2.setFld (F.TW_STATUS.MOVES w) m).setFld (F.TW_STATUS.STASHED w) (b2n st)
    let s4 := match p.key with
      | none => s3
      | some k =>
        ((s3.setFld (F.TW_KEY_LO.MAC_LO w) k).setFld (F.TW_KEY_HI.MAC_HI w) (k / 2 ^ 32)).setFld (F.TW_KEY_HI.VLAN w) (k / 2 ^ 48)
    let s5 := match p.fdb with
      | none => s4
      | some v => s4.wr (Reg.TW_FDB w) (BitVec.ofNat 64 v)
    match p.data with
    | none => s5
    | some (n, v) => (List.range n).foldl (fun t i => t.setFld (F.TW_DATA.DATA w i) (v / 2 ^ (32 * i))) s5

/-- TW_COMMAND_DONE (R162). -/
def execTwCommandDone (w : Nat) (s : State) : Host.Outcome State Fault Refusal :=
  if 4 ≤ w then .fault .noSuchInstance
  else match (s.slice w).tw with
    | none => .next s
    | some p => .next (s.twDone w p)

/-- A fence is set (R159). -/
def State.fenceSet (s : State) (a : Acc) (i : Nat) (ev rsv : Bool) : State :=
  s.guard a [(s.slc i == Slc.DARK, Err.WRONG_MODE), (rsv, Err.RESERVED_FIELD)] fun t =>
    ((t.setFld (F.SLC_FENCE_VER.F i) (t.fld (F.SLC_TBL_VER.VER i))).setFld (F.SLC_FENCE.DONE i) 0).setFld
      (F.SLC_FENCE.FENCE_EV i) (b2n ev)

/-- FENCE_SET (R159). -/
def execFenceSet (i : Nat) (ev : Bool) (s : State) : Host.Outcome State Fault Refusal :=
  if 4 ≤ i then .fault .noSuchInstance
  else .next (s.fenceSet (Acc.direct (Base.SLC i) (Reg.SLC_FENCE i)) i ev false)

end Sys2Proof.Machine
end

