-- ==== Sys2Proof/Machine/Buffers.lean ====
section
/-! DEFINITION. The buffer pool manager (06_fabric_and_buffers.md, R163 to R176): handles, allocation, freeing, landing cells, and the auditor's
view of the records. -/

namespace Sys2Proof.Machine

/-- Index unit of a pool in 256-byte cells (Table 06.1): 1, 8, 40; spill blocks and chunks count one each. -/
def poolUnit (k : Nat) : Nat := if k = 1 then 8 else if k = 2 then 40 else 1

/-- Bytes of a buffer of a frame pool. -/
def poolBytes (k : Nat) : Nat := 256 * poolUnit k

/-- Owner tags (Table 06.3). -/
def Own.FABRIC : Nat := 4
def Own.EGRESS : Nat := 5
def Own.HOST : Nat := 6
def Own.CADDY : Nat := 7
def Own.STRAINER : Nat := 8

/-- A handle (Table 06.2). -/
def mkHandle (pool idx tag : Nat) : Nat := pool * 2 ^ 29 + idx * 2 ^ 5 + tag

/-- POOL and INDEX of a handle, as one number. -/
def bufKey (h : Nat) : Nat := h / 32 % 2 ^ 27
def bufPool (h : Nat) : Nat := h / 2 ^ 29 % 8
def bufIndex (h : Nat) : Nat := h / 32 % 2 ^ 24

def State.poolSize (s : State) (k : Nat) : Nat := s.fld (F.BPM_POOL_SIZE.COUNT k)
def State.poolFree (s : State) (k : Nat) : Nat := s.fld (F.BPM_POOL_FREE.FREE k)

/-- Change the fabric. -/
def State.setFab (s : State) (f : Fabric) : State := { s with fab := f }

/-- Chunks of P4 that the rings hold (R330). -/
def State.ringChunks (s : State) : Nat := ((List.range 8).map fun n => s.fld (F.CD_RING_CFG.CHUNKS n)).sum

/-- The recorded owner of a buffer (R166): the rings hold the first chunks of P4. -/
def State.bufOwner (s : State) (key : Nat) : Option Nat :=
  if key / 2 ^ 24 = 4 then if key % 2 ^ 24 < s.ringChunks then some Own.CADDY else none else s.fab.alloc.get? key

/-- A buffer has been seen in the auditor's round (R175). -/
def State.bufSeen (s : State) (key : Nat) : State := s.setFab { s.fab with snap := s.fab.snap.filter (· != key) }

/-- The first free buffer of a pool of `n`, from number `j` on and around. -/
def State.firstFree (s : State) (pool n : Nat) : Nat → Nat → Nat
  | 0, j => j % n
  | k + 1, j =>
    if s.fab.alloc.get? (pool * 2 ^ 24 + j % n * poolUnit pool) = none then j % n else s.firstFree pool n k (j + 1)

/-- FREE of a pool changes; LOW follows it downwards. -/
def State.setPoolFree (s : State) (k v : Nat) : State :=
  let s1 := s.setFld (F.BPM_POOL_FREE.FREE k) v
  if v < s1.fld (F.BPM_POOL_LOW.LOW k) then s1.setFld (F.BPM_POOL_LOW.LOW k) v else s1

/-- The place of a requester in the rotation of R172: slice ingress 0 to 3, fabric, egress, host DMA, Caddy, Strainer are the owner tags 0 to 8. The
pointer is the requester after the one last granted, and the grant is noted with its cycle. -/
def Fabric.granted (f : Fabric) (pool cycle tag : Nat) : Fabric :=
  { f with bpmPtr := (tag + 1) % 9, won := f.won.put pool (cycle, tag) }

/-- A request that finds pool `k` without a free buffer, where another requester was granted one in this same cycle, lost the contention for the
pool's last buffers (R172, log entry 35). -/
def State.bufLost (s : State) (k tag : Nat) : State :=
  match s.fab.won.get? k with
  | some (c, w) => if c = s.cycle ∧ w ≠ tag then s.count (Reg.BPM_CNT 3) else s
  | none => s

/-- Hand out one buffer of a pool that has one: which one is open (log entry 3). -/
def State.bufTake (s : State) (pool tag : Nat) : State × Nat :=
  let n := s.poolSize pool
  let idx := s.firstFree pool n n (s.freeVal % max n 1) * poolUnit pool
  let key := pool * 2 ^ 24 + idx
  let s1 := (s.tookFree.bufSeen key)
  let s2 := s1.setFab ({ s1.fab with alloc := s1.fab.alloc.put key tag }.granted pool s.cycle tag)
  ((s2.setPoolFree pool (s.poolFree pool - 1)).pfEvent 0x400 pool 1, mkHandle pool idx tag)

/-- Free cells of the shared part of P0 (R164). -/
def State.sharedFree (s : State) : Nat := s.fld F.BPM_SHARED_FREE.FREE
def State.setShared (s : State) (n : Nat) : State := s.setFld F.BPM_SHARED_FREE.FREE n

/-- Whether a requester that may use only the shared part of P0 finds a free buffer in a frame pool. -/
def State.hasFree (s : State) (k : Nat) : Bool := if k = 0 then decide (0 < s.sharedFree) else decide (0 < s.poolFree k)

/-- Hand out a buffer of a frame pool; a cell of P0 comes from the shared part (R169). -/
def State.bufTakeFrame (s : State) (k tag : Nat) : State × Nat :=
  (if k = 0 then s.setShared (s.sharedFree - 1) else s).bufTake k tag

/-- An EMPTY answer to a request for pool `k`. -/
def State.bufEmpty (s : State) (k : Nat) : State := s.pfEvent 0x402 k 1

/-- A fallback from pool `k` (R167). -/
def State.bufFallback (s : State) (k : Nat) : State := (s.count (Reg.BPM_CNT k)).pfEvent 0x403 k 1

/-- A request for a frame buffer of `need` bytes (R167). -/
def State.bufAlloc (s : State) (need tag : Nat) : State × Option Nat :=
  let k := if need ≤ 256 then 0 else if need ≤ 2048 then 1 else 2
  let give : State → Nat → State × Option Nat := fun t j => match t.bufTakeFrame j tag with | (u, h) => (u, some h)
  if s.hasFree k then give s k
  else if k = 2 then ((s.bufLost 2 tag).bufEmpty 2, none)
  else
    let s1 := (s.bufLost k tag).bufFallback k
    if k = 0 ∧ s1.hasFree 1 = true then give s1 1
    else
      let s2 := if k = 0 then s1.bufFallback 1 else s1
      if s2.hasFree 2 then give s2 2 else (s2.bufEmpty k, none)

/-- A free or transfer of handle `h` by a requester with tag `tag` is checked (Table 06.5); 0 where it passes. -/
def State.bufCheck (s : State) (h tag : Nat) : Nat :=
  let k := bufPool h
  if 4 < k ∨ s.poolSize k * poolUnit k ≤ bufIndex h then Err.RANGE
  else if bufIndex h % poolUnit k ≠ 0 then Err.ALIGN
  else match s.bufOwner (bufKey h) with
    | none => Err.DOUBLE_FREE
    | some o => if h % 32 = tag ∧ o = tag then 0 else Err.OWNER

/-- A hardware operation failed a check (R173). -/
def State.bufFails (s : State) (tag h code : Nat) : State :=
  let n := if code = Err.RANGE then 4 else if code = Err.ALIGN then 5 else if code = Err.OWNER then 6 else 7
  (s.count (Reg.BPM_CNT n)).spoutEvent Sp.BPM_FREE tag code h

/-- A buffer returns to its pool. -/
def State.bufReturn (s : State) (key : Nat) : State :=
  let k := key / 2 ^ 24
  let s1 := s.bufSeen key
  let s2 := s1.setFab { s1.fab with alloc := s1.fab.alloc.del key, cell := s1.fab.cell.del key }
  (s2.setFld (F.BPM_POOL_FREE.FREE k) (s.poolFree k + 1)).pfEvent 0x401 k 1

/-- A frame buffer is freed by its holder (R173); a P0 cell returns to the shared part. -/
def State.bufFree (s : State) (tag h : Nat) : State :=
  let c := s.bufCheck h tag
  if c = 0 then (if bufPool h = 0 then s.setShared (s.sharedFree + 1) else s).bufReturn (bufKey h) else s.bufFails tag h c

/-- Free every buffer of a list. -/
def State.bufFreeAll (s : State) (tag : Nat) (hs : List Nat) : State := hs.foldl (fun t h => t.bufFree tag h) s

/-- A buffer passes from owner `src` to owner `dst` (R174): the handle with its new tag is returned. -/
def State.bufMove (s : State) (src dst h : Nat) : State × Nat :=
  let c := s.bufCheck h src
  let s1 := if c = 0 then (s.bufSeen (bufKey h)).setFab { (s.bufSeen (bufKey h)).fab with alloc := s.fab.alloc.put (bufKey h) dst }
    else s.bufFails src h c
  (s1, h / 32 * 32 + dst)

/-- Every buffer of a list passes to a new owner. -/
def State.bufMoveAll (s : State) (src dst : Nat) : List Nat → State × List Nat
  | [] => (s, [])
  | h :: hs =>
    match s.bufMove src dst h with
    | (s1, h') => match s1.bufMoveAll src dst hs with
      | (s2, hs') => (s2, h' :: hs')

/-- The extents of a frame of `len` bytes (R168): `fuel` more, `held` bytes so far in extents `hs`; `top` is 10,240 where the length is not known. An
EMPTY answer returns the extents at once (R169). -/
def State.bufExtents (s : State) (top len tag : Nat) : Nat → Nat → List Nat → State × Option (List Nat)
  | 0, _, hs => (s, some hs)
  | fuel + 1, held, hs =>
    if len ≤ held then (s, some hs)
    else
      let lim := if hs.length = 0 then 256 else if hs.length = 1 then 2048 else 10240
      match s.bufAlloc (min (top - held) lim) tag with
      | (s1, none) => (s1.bufFreeAll tag hs, none)
      | (s1, some h) => s1.bufExtents top len tag fuel (held + poolBytes (bufPool h)) (hs ++ [h])

/-- The ingress extents of a frame from the line. -/
def State.ingressExtents (s : State) (len tag : Nat) : State × Option (List Nat) := s.bufExtents 10240 len tag 3 0 []

/-- Whether the ingress of slice `i` forwards: it is ACTIVE in BREEZE or GALE, or resumes from CALM, and neither drains nor enters LULL (R42, R53, R421). -/
def State.forwards (s : State) (i : Nat) : Bool :=
  s.slc i == Slc.ACTIVE && (s.mode == Mode.BREEZE || s.mode == Mode.GALE || s.resuming i) && s.dev.slcPhase.getD i 0 == 0 &&
    s.dev.lullStep == 0

/-- The bytes of a frame of `len` bytes are written into extents as they arrive (R168); an EMPTY answer is counted (R169). A frame of the line takes
them whatever becomes of it; only MAC control frames, which end at the MAC, and frames of a slice that does not forward take none (log entry 88). -/
def State.takeExtents (s : State) (i p len : Nat) : State × Option (List Nat) :=
  if !s.forwards i then (s, some [])
  else match s.ingressExtents (min len 10240) i with
    | (s1, none) => ((s1.count (Reg.PRT_FAB_CNT p 0)).count (Reg.BPM_CNT 2), none)
    | r => r

/-- Return the extents of a frame that goes no further. -/
def State.cutFrame (s : State) (i : Nat) (hs : List Nat) : State := s.bufFreeAll i hs

/-- A frame that ends in the timing engine or at the host passes through its extents; false where EMPTY dropped it. -/
def State.passCells (s : State) (p len : Nat) : State × Bool :=
  match s.takeExtents (sliceOf p) p len with
  | (s1, some hs) => (s1.cutFrame (sliceOf p) hs, true)
  | (s1, none) => (s1, false)

/-! ## Landing (R171) -/

def State.p0use (s : State) (p : Nat) : Nat × Nat × Nat := s.fab.p0use.getD p (0, 0, 0)
def State.setP0use (s : State) (p : Nat) (u : Nat × Nat × Nat) : State :=
  s.setFab { s.fab with p0use := s.fab.p0use.setD p u (0, 0, 0) }

/-- Free cells of the landing headroom. -/
def State.headFree (s : State) : Nat := s.fld F.BPM_P0_SPLIT.HR_FREE

/-- How a landing of `n` cells towards port `p` is secured: cells from the reserve, the shared part and the headroom, or none. -/
def State.landPlan (s : State) (p n : Nat) : Option (Nat × Nat × Nat) :=
  match s.p0use p with
  | (r, sh, hd) =>
    let a := min n (s.fld F.BPM_P0_SPLIT.EG_MIN - r)
    let m := n - a
    if m = 0 then some (a, 0, 0)
    else if m ≤ s.sharedFree ∧ sh + m ≤ s.sharedFree - m then some (a, m, 0)
    else if m ≤ s.headFree ∧ hd + m ≤ 40 then some (a, 0, m)
    else none

/-- Hand out `n` landing cells. -/
def State.takeCells (s : State) : Nat → State × List Nat
  | 0 => (s, [])
  | n + 1 => match s.bufTake 0 Own.EGRESS with
    | (s1, h) => match s1.takeCells n with
      | (s2, hs) => (s2, h :: hs)

/-- Note of each landing cell its port and its part of P0 (R164): the first `a` cells are of the reserve (0), the next `b` of the shared part (1), the
rest of the headroom (2). -/
def State.markCells (s : State) (p a b : Nat) (hs : List Nat) : State :=
  s.setFab { s.fab with
    cell := hs.zipIdx.foldl (fun m x => m.put (bufKey x.1) (p, if x.2 < a then 0 else if x.2 < a + b then 1 else 2)) s.fab.cell }

/-- Secure a landing that `landPlan` found. -/
def State.landSecure (s : State) (p : Nat) (x : Nat × Nat × Nat) : State × Landing :=
  match s.p0use p, x with
  | (r, sh, hd), (a, b, c) =>
    let s1 := (s.setP0use p (r + a, sh + b, hd + c)).setShared (s.sharedFree - b)
    let s2 := s1.setFld F.BPM_P0_SPLIT.HR_FREE (s.headFree - c)
    match s2.takeCells (a + b + c) with
    | (s3, hs) => (s3.markCells p a b hs, ⟨a, b, c, hs⟩)

/-- Return the landing cells of a copy towards port `p`. -/
def State.landFree (s : State) (p : Nat) (l : Landing) : State :=
  match s.p0use p with
  | (r, sh, hd) =>
    let s1 := (s.setP0use p (r - l.res, sh - l.shr, hd - l.hdr)).setShared (s.sharedFree + l.shr)
    let s2 := s1.setFld F.BPM_P0_SPLIT.HR_FREE (s.headFree + l.hdr)
    l.cells.foldl (fun t h =>
      let c := t.bufCheck h Own.EGRESS
      if c = 0 then t.bufReturn (bufKey h) else t.bufFails Own.EGRESS h c) s2

/-! ## Host commands -/

def Acc.bpm (ofs : Nat) : Acc := Acc.direct Base.BPM ofs

/-- A host free (R173). -/
def State.hostFree (s : State) (a : Acc) (h : Nat) : State :=
  s.guard a [(s.mode == Mode.LOAD, Err.WRONG_MODE)] fun t =>
    let c := t.bufCheck h Own.HOST
    if c = 0 then t.bufFree Own.HOST h else t.recordErr a c

/-- HOST_BUFFER_FREE (R173). -/
def execHostBufferFree (h : BitVec 32) (s : State) : Host.Outcome State Fault Refusal :=
  .next (s.hostFree (Acc.bpm Reg.BPM_FREE) h.toNat)

/-- Every BPM_POOL_LOW_k takes its FREE. -/
def State.lowClear (s : State) (a : Acc) (rsv : Bool) : State :=
  s.guard a [(rsv, Err.RESERVED_FIELD)] fun t =>
    (List.range 5).foldl (fun u k => u.setFld (F.BPM_POOL_LOW.LOW k) (u.poolFree k)) t

/-- POOL_LOW_CLEAR (R163). -/
def execPoolLowClear (s : State) : Host.Outcome State Fault Refusal := .next (s.lowClear (Acc.bpm Reg.BPM_CTRL) false)

end Sys2Proof.Machine
end

