-- ==== Sys2Proof/Machine/Landing.lean ====
section
/-! DEFINITION. What lands at a port (R183, R195, R207, R209, R216 to R220): line rates, the bytes of a copy, drops, FRER, and the queues of the
egress. -/

namespace Sys2Proof.Machine

/-! ## Lines -/

/-- Baud rate of a trunk step in kbaud (Table 04.7). -/
def stepKbaud (k : Nat) : Nat := [1250000, 5156250, 10312500, 25781250, 28125000].getD k 1250000

/-- Minimum payload rate of one trunk lane at a step, in bit/s (R109). -/
def payloadRate (k : Nat) : Rat := (stepKbaud k : Rat) * 1000 * 4096 / 4160 * 30 / 31

/-- The data rate of an Ethernet port in bit/s, by LANE MODE (R197). -/
def ethRate (m : Nat) : Rat := if m = 1 then 1000000000 else if m = 2 then 10000000000 else if m = 3 then 25000000000 else 100000000000

/-- The rate that an occupancy of the line is reckoned with (R197). -/
def State.lineRate (s : State) (p : Nat) : Rat := if s.isTrunk p then payloadRate (s.trunkStep p) else ethRate (s.laneMode p)

/-- R of R203 and R204: on a trunk, the minimum payload rate at TRUNK_MAX. -/
def State.shapeRate (s : State) (p : Nat) : Rat :=
  if s.isTrunk p then payloadRate (s.fld (F.LN_CFG.TRUNK_MAX p)) else ethRate (s.laneMode p)

/-- Line occupancy of `len` bytes in 2^-16 ns (R197). -/
def State.occupancy (s : State) (p len : Nat) : Rat :=
  ((len + (if s.isTrunk p then 4 else 20)) * 8 : Nat) * 65536 * 1000000000 / s.lineRate p

/-- DEF_VLAN of a port. -/
def State.defVlan (s : State) (p : Nat) : Nat := s.cfg.defVlan.getD p 0

/-! ## Frame bytes -/

/-- Whether two bytes are the TPID of a tag (Table 05.2). -/
def isTpid (n : Nat) : Bool := n == 0x8100 || n == 0x88A8

/-- The bytes after the source address, without the first tag. -/
def Frame.inner (f : Frame) : List Byte := f.bytes.drop (if f.tagged then 16 else 12)

/-- Whether the frame carries an R-tag, given its bytes after the first tag. -/
def rtagOfs (f : Frame) : Option Nat :=
  let o := if f.tagged && isTpid (beAt f.inner 0 2) then 4 else 0
  if beAt f.inner o 2 = 0xF1C1 ∧ o + 10 ≤ f.inner.length then some o else none

/-- The sequence number of the R-tag a frame arrived with. -/
def Frame.rtag (f : Frame) : Option Nat := (rtagOfs f).map fun o => beAt f.inner (o + 4) 2

/-- The tag of a copy at port `p` (R130). -/
def State.vlanTag (s : State) (p : Nat) (f : Frame) : List Byte :=
  if f.vlan = s.defVlan p then [] else beBytes 2 0x8100 ++ beBytes 2 (f.pcp * 2 ^ 13 + b2n f.de * 2 ^ 12 + f.vlan)

/-- The bytes of a copy on the line of port `p` before any residence correction, through its FCS (R130, R218 to R220, R345, R387). A frame that loses its tag is not padded (log entry 87). -/
def State.copyBytes (s : State) (p : Nat) (c : Copy) : List Byte :=
  let f := c.fr
  if f.src ≠ 0 then f.bytes
  else
    let body := f.inner.take (f.inner.length - 4)
    let body1 := match c.pop, rtagOfs f with
      | true, some o => body.take o ++ body.drop (o + 6)
      | _, _ => body
    let rt := match c.rseq with
      | some n => if c.pop then [] else beBytes 2 0xF1C1 ++ beBytes 2 0 ++ beBytes 2 n
      | none => []
    withFcs (f.bytes.take 12 ++ s.vlanTag p f ++ rt ++ body1)

/-! ## Ends of frames -/

/-- Results of a host descriptor (Table 14.8). -/
def Htx.SENT : Nat := 0
def Htx.NO_BUFFER : Nat := 1
def Htx.PORT_DOWN : Nat := 2
def Htx.HORIZON : Nat := 3
def Htx.STALE : Nat := 4
def Htx.LTQ_FULL : Nat := 5
def Htx.BAD_LEN : Nat := 6
def Htx.BAD_PORT : Nat := 7
def Htx.EGRESS_DROP : Nat := 8

/-- A frame has left or been dropped: a host frame notes its result for the write-back (R386), a replayed frame is no longer in flight (R344). -/
def State.frameEnd (s : State) (f : Frame) (result : Nat) (stamp : Time16) : State :=
  if f.src = 1 then
    { s with host := { s.host with htx := s.host.htx.map fun h =>
      if h.idx = f.tag then { h with result := result, stamp := stamp, ended := true } else h } }
  else if f.src = 2 then s.setFld (F.CD_RP_STATUS.INFLIGHT f.tag) (s.fld (F.CD_RP_STATUS.INFLIGHT f.tag) - 1)
  else s

/-- A landed copy towards port `p` is dropped: counter `cnt` counts it, and its landing cells return. -/
def State.copyDrop (s : State) (p : Nat) (c : Copy) (cnt result : Nat) : State :=
  (((s.count cnt).landFree p c.land).frameEnd c.fr result 0)

/-- Every frame held when the device last entered CALM is dropped, wherever it is (R40). -/
def State.doomed (s : State) (f : Frame) : Bool := decide (f.id < s.dev.calmMark)

/-- The counter of a drop for want of a port (R184, R43): the ingress slice's dark-egress counter where the port's slice is not powered. -/
def downAt (dark : Bool) (p : Nat) (f : Frame) (multi : Bool) : Nat :=
  if dark then Reg.SLC_CNT f.slice 14 else if multi then Reg.PRT_FAB_CNT p 3 else Reg.PRT_FAB_CNT p 2
def State.downCnt (s : State) (p : Nat) (f : Frame) (multi : Bool) : Nat := downAt (!s.powered (sliceOf p)) p f multi

/-! ## Egress queues -/

def State.egp (s : State) (p : Nat) : EgPort := s.fab.eg.getD p EgPort.fresh

/-- Replace the egress of a port; PRT_LT_STATUS and PRT_LT_NEXT follow the launch-time queue. -/
def State.setEgp (s : State) (p : Nat) (e : EgPort) : State :=
  let s1 := s.setFab { s.fab with eg := s.fab.eg.setD p e EgPort.fresh }
  let s2 := s1.setFld (F.PRT_LT_STATUS.OCC p) e.lt.length
  match e.lt with
  | [] => s2
  | c :: _ => s2.setFld (F.PRT_LT_NEXT.NS32 p) (c.fr.launch.getD 0 / 2 ^ 16)

def EgPort.cls (e : EgPort) (c : Nat) : List Copy := e.q.getD c []
def EgPort.setCls (e : EgPort) (c : Nat) (l : List Copy) : EgPort := { e with q := e.q.setD c l [] }

/-- LT_CLASS of a port; 0xFF is none. -/
def State.ltClass (s : State) (p : Nat) : Nat := s.fld (F.PRT_LT_CFG.LT_CLASS p)

/-- Whether the gate of a class is open (R199, R200). -/
def State.gateOpen (s : State) (p c : Nat) : Bool := s.fldBit (F.PRT_GCL_STATUS.GATES p) c

/-- Whether a class is paused (R205). -/
def State.pausedCls (s : State) (p c : Nat) : Bool := s.fldBit (F.PRT_WD.PAUSED p) c

/-- Idle slope of a class in bit/s. -/
def State.idleSlope (s : State) (p c : Nat) : Rat := (s.fld (F.PRT_CBS.IDLE_KBPS p c) : Rat) * 1000

/-- The credit of a class in cycle `now`, a core cycle being 0.8 ns (R203): it falls at the send slope while a frame of the class is on the line, rises at
the idle slope while one waits, is held while the class is paused, and is zero where it is positive and the queue is empty. -/
def State.creditAt (s : State) (p c : Nat) (k : CbsCredit) (now : Nat) : Rat :=
  let sent : Rat := max (min (now : Rat) k.txTo - (k.upTo : Rat)) 0
  let rest : Rat := (now : Rat) - (k.upTo : Rat) - sent
  let empty := ((s.egp p).cls c).isEmpty
  let fall := (s.idleSlope p c - s.shapeRate p) * sent * 8 / 10000000000
  let rise := if empty then 0 else s.idleSlope p c * rest * 8 / 10000000000
  let b := if s.pausedCls p c then k.bits else k.bits + fall + rise
  if empty && decide (k.txTo ≤ (now : Rat)) && decide (0 < b) then 0 else b

/-- Bring the credit of a class up to the present cycle. -/
def State.cbsAdvance (s : State) (p c : Nat) : State :=
  if s.fld (F.PRT_CBS.EN p c) = 0 then s
  else
    let e := s.egp p
    let k := e.cbs.getD c CbsCredit.fresh
    if s.cycle ≤ k.upTo then s else s.setEgp p { e with cbs := e.cbs.put c { k with bits := s.creditAt p c k s.cycle, upTo := s.cycle } }

/-- Whether a class has a landed frame: in its class queue or, for LT_CLASS, in the launch-time queue. -/
def State.landedIn (s : State) (p c : Nat) : Bool := !((s.egp p).cls c).isEmpty || (c == s.ltClass p && !(s.egp p).lt.isEmpty)

/-- Whether a class is blocked (R206): it has a landed frame that cannot start because the class is paused or its gate is closed. -/
def State.blocked (s : State) (p c : Nat) : Bool :=
  let e := s.egp p
  let due := match e.lt with
    | x :: _ => c == s.ltClass p && decide (0 ≤ diff48 (ns48 (s.now16 (s.portDomain p))) (x.fr.launch.getD 0))
    | [] => false
  (!(e.cls c).isEmpty || due) && (s.pausedCls p c || !s.gateOpen p c)

/-- The watchdogs of a port follow its classes (Table 07.1): one that becomes blocked enters BLOCKED, and stays there until it starts a frame or its
queues empty. -/
def State.wdWatch (s : State) (p : Nat) : State :=
  let e := s.egp p
  let m := (List.range 8).filter fun c => s.landedIn p c && (e.blk.contains c || s.blocked p c)
  if m = e.blk then s else s.setEgp p { e with blk := m }

/-- A class starts a frame: its watchdog returns to RUN. -/
def State.wdStart (s : State) (p c : Nat) : State := s.setEgp p { s.egp p with blk := (s.egp p).blk.filter (· != c) }

/-- A trunk in electrical idle begins its exit: the training burst, then DATA markers (R119). -/
def State.trunkWake (s : State) (p : Nat) : State :=
  if s.isTrunk p && s.oper p == Oper.IDLE && !(s.trunk p).exiting then
    (s.setTrunk p { s.trunk p with exiting := true, left := 0 }).txBurst p
  else s

/-- Insert a copy into the launch-time queue: launch order, then landing order (R195). -/
def ltInsert (x : Copy) : List Copy → List Copy
  | [] => [x]
  | c :: r => if 0 < diff48 (c.fr.launch.getD 0) (x.fr.launch.getD 0) then x :: c :: r else c :: ltInsert x r

/-- The class a copy competes in at port `p` (R207). -/
def State.egClass (s : State) (p : Nat) (c : Copy) : Nat :=
  if c.fr.launch.isSome && s.ltClass p != 0xFF then s.ltClass p else c.fr.cls

/-- A copy joins its queue (R207, R209, Table 07.1). -/
def State.egQueue (s : State) (p : Nat) (c : Copy) : State :=
  let lt := s.ltClass p
  let k := s.egClass p c
  let s0 := if c.fr.launch.isSome && lt == 0xFF then s.count (Reg.PRT_EG_CNT p 7) else s
  if s0.fldBit (F.PRT_WD.DROP p) k then s0.copyDrop p c (Reg.PRT_EG_CNT p 9) Htx.EGRESS_DROP
  else match (if lt = 0xFF then none else c.fr.launch) with
    | none =>
      let s1 := s0.cbsAdvance p k
      ((s1.setEgp p ((s1.egp p).setCls k ((s1.egp p).cls k ++ [c]))).wdWatch p).trunkWake p
    | some l =>
      let d := diff48 l (ns48 (s0.now16 (s0.portDomain p)))
      if ((s0.fld (F.PRT_LT_HORIZON.US p) * 1000 * 2 ^ 16 : Nat) : Int) < d then s0.copyDrop p c (Reg.PRT_EG_CNT p 4) Htx.HORIZON
      else if d < -((s0.fld (F.PRT_LT_STALE.NS p) * 2 ^ 16 : Nat) : Int) then s0.copyDrop p c (Reg.PRT_EG_CNT p 5) Htx.STALE
      else if 1024 ≤ (s0.egp p).lt.length then s0.copyDrop p c (Reg.PRT_EG_CNT p 6) Htx.LTQ_FULL
      else ((s0.setEgp p { s0.egp p with lt := ltInsert c (s0.egp p).lt }).wdWatch p).trunkWake p

/-! ## FRER (R216 to R219) -/

def State.frer (s : State) (i : Nat) : FrerInst := s.fab.frer.getD i FrerInst.fresh
def State.setFrer (s : State) (i : Nat) (x : FrerInst) : State := s.setFab { s.fab with frer := s.fab.frer.setD i x FrerInst.fresh }

/-- Fields of the two FRER records, as FAB_FRER_CFG0 and FAB_FRER_CFG1 lay them out. -/
def FrerInst.en (x : FrerInst) : Bool := bitAt x.cfg0 31
def FrerInst.genOn (x : FrerInst) : Bool := x.en && bitAt x.cfg0 0
def FrerInst.rcvAt (x : FrerInst) (p : Nat) : Bool := x.en && bitAt x.cfg0 1 && nbits x.cfg0 23 16 == p
def FrerInst.isMatch (x : FrerInst) : Bool := bitAt x.cfg0 2
def FrerInst.takeNoSeq (x : FrerInst) : Bool := bitAt x.cfg0 3
def FrerInst.popOn (x : FrerInst) : Bool := bitAt x.cfg0 4
def FrerInst.histLen (x : FrerInst) : Nat := nbits x.cfg0 14 8

/-- A FRER counter counts; FAB_FRER_CNT shows the selected entry (Table 07.5). -/
def State.frerCount (s : State) (i n k : Nat) : State :=
  let x := s.frer i
  let v := (x.cnt.getD n 0 + k) % 2 ^ 64
  let s1 := s.setFrer i { x with cnt := x.cnt.setD n v 0 }
  if s.fld F.FAB_FRER_IDX.INST = i then s1.wr (Reg.FAB_FRER_CNT n) (BitVec.ofNat 64 v) else s1

/-- The FRER entry of a frame: the map follows the stream entry of the source slice (R137, R217). -/
def State.frerOf (s : State) (f : Frame) : Nat :=
  match f.stream with
  | none => 0
  | some n => let v := s.streamEntry f.slice n; if f.src = 0 ∧ strValid v = true then nbits v 99 90 else 0

/-- Shift the history by `n` places; every zero shifted out of its end is a lost frame. -/
def frerShift (len : Nat) : Nat → Nat → Nat × Nat
  | 0, h => (h, 0)
  | n + 1, h =>
    match frerShift len n (h * 2 % 2 ^ len) with
    | (h', lost) => (h', lost + b2n (!bitAt h (len - 1)))

/-- What a recovery function makes of sequence number `q` (PRESUMED from IEEE 802.1CB, log entry 9): whether it passes, the new recovery, and the
counters that count with their amounts. -/
def FrerInst.recover (x : FrerInst) (q : Nat) : Bool × FrerRecov × List (Nat × Nat) :=
  let r := x.recov
  let d := signed 16 (q + 65536 - r.seq)
  let len := x.histLen
  if r.takeAny then (true, ⟨q, 1, false⟩, [(1, 1)])
  else if x.isMatch then
    if d = 0 then (false, r, [(2, 1)]) else (true, ⟨q, 0, false⟩, (1, 1) :: (if d = 1 then [] else [(3, 1)]))
  else if (len : Int) ≤ d ∨ d ≤ -(len : Int) then (false, r, [(4, 1)])
  else if d ≤ 0 then
    if bitAt r.hist (-d).toNat then (false, r, [(2, 1)])
    else (true, { r with hist := setBit r.hist (-d).toNat true }, [(1, 1), (3, 1)])
  else
    match frerShift len d.toNat r.hist with
    | (h, lost) => (true, ⟨q, setBit h 0 true, false⟩, [(1, 1), (5, lost)] ++ (if d = 1 then [] else [(3, 1)]))

/-- A copy towards port `p` passes FRER: the copy as it is queued, or none where recovery discards it, and the number that its frame holds from now
on (R218); `drawn` is the number that an earlier copy of the frame drew. -/
def State.frerLand (s : State) (p : Nat) (c : Copy) (drawn : Option Nat) : State × Option Copy × Option Nat :=
  let i := s.frerOf c.fr
  let x := s.frer i
  if i = 0 ∨ x.en = false then (s, some { c with rseq := drawn }, drawn)
  else
    let own := c.fr.rtag
    let draw := x.genOn && own.isNone && drawn.isNone
    let s1 := if draw then (s.setFrer i { x with gen := (x.gen + 1) % 65536 }).frerCount i 0 1 else s
    let num := if draw then some x.gen else drawn
    let c1 := { c with rseq := num }
    if x.rcvAt p then
      match (if own.isSome then own else c1.rseq) with
      | none =>
        let s2 := s1.frerCount i 6 1
        (s2, if x.takeNoSeq then some c1 else none, num)
      | some q =>
        match x.recover q with
        | (ok, r, cs) =>
          let s2 := s1.setFrer i { s1.frer i with recov := r }
          let s3 := cs.foldl (fun t k => t.frerCount i k.1 k.2) s2
          (s3, if ok then some { c1 with pop := x.popOn } else none, num)
    else (s1, some c1, num)

/-- A copy lands at port `p` (R183): the state, and the sequence number its frame now holds. -/
def State.landCopy (s : State) (p : Nat) (c : Copy) (dead : Option Bool) (drawn : Option Nat) : State × Option Nat :=
  let s1 := s.count (Reg.PRT_FAB_CNT p 1)
  if s.doomed c.fr then (s1.copyDrop p c (Reg.PRT_FAB_CNT p 6) Htx.EGRESS_DROP, drawn)
  else match dead with
    | some dark => (s1.copyDrop p c (downAt dark p c.fr c.multi) Htx.PORT_DOWN, drawn)
    | none =>
      if !s.operUp p then (s1.copyDrop p c (s.downCnt p c.fr c.multi) Htx.PORT_DOWN, drawn)
      else match s1.frerLand p c drawn with
        | (s2, none, num) => ((s2.landFree p c.land).frameEnd c.fr Htx.EGRESS_DROP 0, num)
        | (s2, some c1, num) => (s2.egQueue p c1, num)

/-! ## FRER commands -/

def Acc.fab (ofs : Nat) : Acc := Acc.direct Base.FAB ofs

/-- A FRER_CMD write (R217): OP 1 WRITE, 2 READ, 3 RESET. -/
def State.frerCmd (s : State) (a : Acc) (op : Nat) (rsv : Bool) : State :=
  let i := s.fld F.FAB_FRER_IDX.INST
  let c0 := (s.rd Reg.FAB_FRER_CFG0).toNat
  let c1 := (s.rd Reg.FAB_FRER_CFG1).toNat
  let en := bitAt c0 31
  let rcv := en && bitAt c0 1
  let wrt := op == 1
  s.guard a [((wrt || op == 3) && !s.isMutable 1, Err.NOT_PERMITTED), (rsv, Err.RESERVED_FIELD),
      (wrt && ((en && nbits c0 14 8 == 0) || (rcv && nbits c1 15 0 == 0)), Err.ZERO_LENGTH),
      (op == 0 || i == 0 || (wrt && bitAt c0 1 && !s.portUsed (nbits c0 23 16)), Err.ILLEGAL_VALUE)] fun t =>
    let x := t.frer i
    if op = 1 then t.setFrer i { x with cfg0 := c0, cfg1 := c1 }
    else if op = 2 then (t.wr Reg.FAB_FRER_CFG0 (BitVec.ofNat 64 x.cfg0)).wr Reg.FAB_FRER_CFG1 (BitVec.ofNat 64 x.cfg1)
    else (t.setFrer i { x with gen := 0, recov := FrerRecov.fresh }).frerCount i 7 1

/-- FRER_WRITE (R217). -/
def execFrerWrite (s : State) : Host.Outcome State Fault Refusal := .next (s.frerCmd (Acc.fab Reg.FAB_FRER_CMD) 1 false)

/-- FRER_READ (R217). -/
def execFrerRead (s : State) : Host.Outcome State Fault Refusal := .next (s.frerCmd (Acc.fab Reg.FAB_FRER_CMD) 2 false)

/-- FRER_RESET (R219). -/
def execFrerReset (s : State) : Host.Outcome State Fault Refusal := .next (s.frerCmd (Acc.fab Reg.FAB_FRER_CMD) 3 false)

/-- FRER_RECOVERY_TIMEOUT (R219): no frame has passed for RESET_MS. -/
def execFrerRecoveryTimeout (i : Nat) (s : State) : Host.Outcome State Fault Refusal :=
  if i = 0 ∨ 1024 ≤ i then .fault .noSuchInstance
  else
    let x := s.frer i
    if x.en && bitAt x.cfg0 1 then .next ((s.setFrer i { x with recov := FrerRecov.fresh }).frerCount i 7 1) else .next s

end Sys2Proof.Machine
end

