-- ==== Sys2Proof/Machine/Fabric.lean ====
section
/-! DEFINITION. The store-and-forward fabric (06_fabric_and_buffers.md, R177 to R194): virtual output queues, spill, multicast, epochs, the
residence sweep, the auditor and the drain fence. -/

namespace Sys2Proof.Machine

/-! ## Outputs (R179, R180) -/

/-- The output that a frame towards port `p` uses: a four-lane port has one on every plane (R180). -/
def State.outputOf (s : State) (f : Frame) (p : Nat) : Nat :=
  if s.fourLane p then
    let k := (f.flow ^^^ f.slice * 2 ^ 30 ^^^ p * 2 ^ 22 ^^^ f.cls * 2 ^ 19) % 2 ^ 32
    p + k * 0x9E3779B9 % 2 ^ 32 / 2 ^ 30
  else p

/-- Cells of a frame (R168). -/
def Frame.cells (f : Frame) : Nat := ceilDiv f.bytes.length 256

/-- The management-plane millisecond count modulo 2^16: one millisecond is 1,250,000 core cycles. -/
def State.msNow (s : State) : Nat := s.cycle / 1250000 % 65536

/-! ## Queues -/

def voqKey (slice n cls : Nat) : Nat := (slice * 192 + n) * 8 + cls
def mcqKey (slice plane cls : Nat) : Nat := (slice * 4 + plane) * 8 + cls

def State.voqAt (s : State) (key : Nat) : Voq := s.fab.voq.getD key Voq.fresh

/-- Cells that a VOQ holds in SRAM and P3 blocks of its segment. -/
def Voq.sramCells (v : Voq) : Nat :=
  (v.sram.map Frame.cells).sum + ((v.seg.filter fun e => e.1.isNone).map fun e => e.2.cells).sum
def Voq.blocks (v : Voq) : List Nat := (v.seg.filterMap (·.1)).dedup

/-- Replace a VOQ; FAB_VOQ_OCC and FAB_VOQ_SPILL follow the selected one. -/
def State.setVoq (s : State) (key : Nat) (v : Voq) : State :=
  let v1 : Voq := if v.seg.isEmpty then { v with fill := 0 } else v
  let s1 := s.setFab { s.fab with voq := s.fab.voq.setD key v1 Voq.fresh }
  if voqKey (s.fld F.FAB_VOQ_SEL.SLICE) (s.fld F.FAB_VOQ_SEL.PORT) (s.fld F.FAB_VOQ_SEL.CLASS) = key then
    (s1.setFld F.FAB_VOQ_OCC.SRAM_CELLS v.sramCells).setFld F.FAB_VOQ_SPILL.BLOCKS v.blocks.length
  else s1

/-- FAB_VOQ_OCC and FAB_VOQ_SPILL show the VOQ that FAB_VOQ_SEL now selects. -/
def State.voqShow (s : State) : State :=
  let k := voqKey (s.fld F.FAB_VOQ_SEL.SLICE) (s.fld F.FAB_VOQ_SEL.PORT) (s.fld F.FAB_VOQ_SEL.CLASS)
  s.setVoq k (s.voqAt k)

def Voq.sramBytes (v : Voq) : Nat := (v.sram.map fun f => f.bytes.length).sum

/-- The block that a frame of `len` bytes is appended to (R177): the last one where it fits, else a new one; none where P3 is exhausted. -/
def State.spillBlock (s : State) (v : Voq) (len : Nat) : State × Option (Nat × Nat) :=
  let need := 16 + len
  match (v.seg.filterMap (·.1)).getLast? with
  | some h =>
    if v.fill + need ≤ 65536 then (s, some (h, v.fill + need))
    else if s.poolFree 3 = 0 then (s.bufEmpty 3, none)
    else match s.bufTake 3 Own.FABRIC with | (s1, h') => (s1, some (h', need))
  | none =>
    if s.poolFree 3 = 0 then (s.bufEmpty 3, none)
    else match s.bufTake 3 Own.FABRIC with | (s1, h') => (s1, some (h', need))

/-- A frame enters its VOQ (R177, R179): it is spilled where the VOQ has a segment or holds more than 256 KiB. -/
def State.voqPush (s : State) (key : Nat) (f : Frame) : State :=
  let v := s.voqAt key
  if v.seg.isEmpty && decide (v.sramBytes ≤ 262144) then s.setVoq key { v with sram := v.sram ++ [f] }
  else match s.spillBlock v f.bytes.length with
    | (s1, some (h, fill)) =>
      let s2 := s1.bufFreeAll Own.FABRIC f.bufs
      (s2.count (Reg.BPM_CNT 10)).setVoq key { v with seg := v.seg ++ [(some h, { f with bufs := [] })], fill := fill }
    | (s1, none) =>
      let s2 := s1.count (Reg.BPM_CNT 12)
      if v.seg.isEmpty then s2.setVoq key { v with sram := v.sram ++ [f] } else s2.setVoq key { v with seg := v.seg ++ [(none, f)] }

/-- Free the P3 blocks of a VOQ that no frame of its segment uses any more. -/
def State.freeBlocks (s : State) (before after : Voq) : State :=
  s.bufFreeAll Own.FABRIC (before.blocks.filter fun h => !after.blocks.contains h)

/-- SPILL_REFILL (R178): the oldest frame of the segment returns to SRAM while the head holds less than 64 KiB; EMPTY is tried again. -/
def State.spillRefill (s : State) (key : Nat) : State :=
  let v := s.voqAt key
  if 65536 ≤ v.sramBytes then s
  else match v.seg with
    | [] => s
    | (none, f) :: r => s.setVoq key { v with sram := v.sram ++ [f], seg := r }
    | (some _, f) :: r =>
      match s.bufExtents f.bytes.length f.bytes.length Own.FABRIC 3 0 [] with
      | (s1, none) => s1
      | (s1, some hs) =>
        let v1 : Voq := { v with sram := v.sram ++ [{ f with bufs := hs }], seg := r }
        ((s1.count (Reg.BPM_CNT 11)).freeBlocks v v1).setVoq key v1

def execSpillRefill (i n c : Nat) (s : State) : Host.Outcome State Fault Refusal :=
  if 4 ≤ i ∨ 192 ≤ n ∨ 8 ≤ c then .fault .noSuchInstance else .next (s.spillRefill (voqKey i n c))

/-! ## VOQ entry -/

/-- The stamp of VOQ entry (R187). -/
def State.enterStamp (s : State) (f : Frame) : Frame := { f with entryMs := s.msNow, entry := s.cycle }

/-- A unicast frame reaches VOQ entry towards port `p` (R174, R184); its buffers have owner `own`. -/
def State.enqueue (s : State) (own : Nat) (f : Frame) (p : Nat) : State :=
  if !s.operUp p then ((s.count (s.downCnt p f false)).bufFreeAll own f.bufs).frameEnd f Htx.PORT_DOWN 0
  else match s.bufMoveAll own Own.FABRIC f.bufs with
    | (s1, hs) => s1.voqPush (voqKey f.slice (s.outputOf f p) f.cls) (s.enterStamp { f with bufs := hs })

def State.mcAt (s : State) (id : Nat) : Option McFrame := s.fab.mc.get? id
def State.setMc (s : State) (id : Nat) (m : McFrame) : State := s.setFab { s.fab with mc := s.fab.mc.put id m }
def State.mcq (s : State) (key : Nat) : List Nat := s.fab.mcq.getD key []
def State.setMcq (s : State) (key : Nat) (l : List Nat) : State := s.setFab { s.fab with mcq := s.fab.mcq.setD key l [] }

/-- The residue store of a slice on a plane; FAB_RES_OCC follows it. -/
def State.residue (s : State) (slice plane : Nat) : List Nat := s.fab.res.getD (slice * 4 + plane) []
def State.setResidue (s : State) (slice plane : Nat) (l : List Nat) : State :=
  (s.setFab { s.fab with res := s.fab.res.setD (slice * 4 + plane) l [] }).setFld
    ⟨Reg.FAB_RES_OCC plane, 8 * slice + 6, 8 * slice⟩ l.length

/-- A multicast frame enters the queue of every plane that has one of its copies (R188). A copy towards a port that is not ready at entry is
never sent (R184). -/
def State.enqueueMulti (s : State) (own : Nat) (f : Frame) (ports : List Nat) : State :=
  match s.bufMoveAll own Own.FABRIC f.bufs with
  | (s1, hs) =>
    let outs := ports.map (s.outputOf f)
    let dead := (ports.filter fun p => !s.operUp p).map (s.outputOf f)
    let s2 := s1.setMc f.id ⟨s.enterStamp { f with bufs := hs }, outs, dead, 0, SMap.empty, none⟩
    ([0, 1, 2, 3].filter fun k => outs.any fun n => n % 4 == k).foldl
      (fun t k => t.setMcq (mcqKey f.slice k f.cls) (t.mcq (mcqKey f.slice k f.cls) ++ [f.id])) s2

/-- A multicast frame with no copy outstanding or crossing is done: its buffers return (Table 06.8). -/
def State.mcFinish (s : State) (id : Nat) : State :=
  match s.mcAt id with
  | none => s
  | some m =>
    if m.todo.isEmpty && m.live == 0 then
      (s.setFab { s.fab with mc := s.fab.mc.del id }).bufFreeAll Own.FABRIC m.fr.bufs
    else s

/-- Drop outstanding copies of a multicast frame: those `sel` names, each counted at the counter it gives. -/
def State.mcDrop (s : State) (id : Nat) (sel : McFrame → Nat → Option Nat) : State :=
  match s.mcAt id with
  | none => s
  | some m =>
    let gone := m.todo.filter fun n => (sel m n).isSome
    let s1 := gone.foldl (fun t n => match sel m n with | some c => t.count c | none => t) s
    (s1.setMc id { m with todo := m.todo.filter fun n => !gone.contains n }).mcFinish id

/-- Whether a multicast frame still has a copy outstanding on a plane. -/
def State.mcOn (s : State) (plane id : Nat) : Bool :=
  match s.mcAt id with
  | none => false
  | some m => m.todo.any fun n => n % 4 == plane

/-- Take frames with nothing outstanding on a plane out of its queues and residue stores. -/
def State.mcClean (s : State) : State :=
  let s1 := s.fab.mcq.keys.foldl (fun t k =>
    let l := t.mcq k
    let l1 := l.filter (t.mcOn (k / 8 % 4))
    if l1.length = l.length then t else t.setMcq k l1) s
  s1.fab.res.keys.foldl (fun t k =>
    let l := t.fab.res.getD k []
    let l1 := l.filter (t.mcOn (k % 4))
    if l1.length = l.length then t else t.setResidue (k / 4) (k % 4) l1) s1

/-! ## Drops from queues -/

/-- Drop every frame held in VOQs, spilled segments, multicast queues, residue stores and egress queues that `why` gives a counter for: frame, egress
port, whether a multicast copy, whether it has landed. -/
def State.purgeVoqs (s : State) (why : Frame → Nat → Bool → Bool → Option Nat) (result : Nat) : State :=
  s.fab.voq.keys.foldl (fun t key =>
    let p := s.lanePort (key / 8 % 192)
    let v := t.voqAt key
    let gone : Frame → Bool := fun f => (why f p false false).isSome
    let dropped := v.sram.filter gone ++ ((v.seg.map (·.2)).filter gone)
    if dropped.isEmpty then t
    else
      let v1 : Voq := { v with sram := v.sram.filter fun f => !gone f, seg := v.seg.filter fun e => !gone e.2 }
      let t1 := dropped.foldl (fun u f =>
        ((match why f p false false with | some c => u.count c | none => u).bufFreeAll Own.FABRIC f.bufs).frameEnd f result 0) t
      (t1.freeBlocks v v1).setVoq key v1) s

def State.purgeMulti (s : State) (why : Frame → Nat → Bool → Bool → Option Nat) : State :=
  (s.fab.mc.keys.foldl (fun t id => t.mcDrop id fun m n => why m.fr (s.lanePort n) true false) s).mcClean

/-- A class queue has lost frames: a positive credit of an empty queue becomes zero (R203). -/
def State.cbsSettle (s : State) (p c : Nat) : State :=
  let e := s.egp p
  let k := e.cbs.getD c CbsCredit.fresh
  if (e.cls c).isEmpty && decide (k.txTo ≤ (s.cycle : Rat)) && decide (0 < k.bits) then s.setEgp p { e with cbs := e.cbs.put c { k with bits := 0 } } else s

/-- Drop landed copies of one port. -/
def State.purgePort (s : State) (p : Nat) (why : Copy → Option Nat) (result : Nat) : State :=
  let e := s.egp p
  let all := (e.q.values.flatten ++ e.lt).filter fun c => (why c).isSome
  if all.isEmpty then s
  else
    let s1 := e.q.keys.foldl (fun t c => t.cbsAdvance p c) s
    let e1 := s1.egp p
    let keep : List Copy → List Copy := fun l => l.filter fun c => (why c).isNone
    let s2 := s1.setEgp p { e1 with q := e1.q.keys.foldl (fun q c => q.setD c (keep (q.getD c [])) []) e1.q, lt := keep e1.lt }
    let s3 := e1.q.keys.foldl (fun t c => t.cbsSettle p c) (s2.wdWatch p)
    all.foldl (fun t c => match why c with | some k => t.copyDrop p c k result | none => t) s3

def State.purgeEgress (s : State) (why : Frame → Nat → Bool → Bool → Option Nat) (result : Nat) : State :=
  s.fab.eg.keys.foldl (fun t p => t.purgePort p (fun c => why c.fr p c.multi true) result) s

def State.purge (s : State) (why : Frame → Nat → Bool → Bool → Option Nat) (result : Nat) : State :=
  ((s.purgeVoqs why result).purgeMulti why).purgeEgress why result

/-- A port leaves UP and IDLE (R184): every frame held towards it is dropped; a crossing one is dropped when it lands; outstanding
multicast copies are dropped at the next epoch boundary, or at once where the port's slice has lost its power (R42). -/
def State.portDrops (s : State) (p : Nat) : State :=
  let dark := !s.powered (sliceOf p)
  let why : Frame → Nat → Bool → Bool → Option Nat := fun f q multi landed =>
    if q = p && (dark || landed || !multi) then some (s.downCnt p f multi) else none
  let s1 := s.setFab { s.fab with
    cross := s.fab.cross.map fun x =>
      if s.lanePort x.out = p && x.dead.isNone then { x with dead := some dark } else x,
    mc := s.fab.mc.mapV fun _ m => { m with dead := (m.dead ++ m.todo.filter fun n => s.lanePort n == p).dedup } }
  s1.purge why Htx.PORT_DOWN

/-! ## Epochs (R182, R183, R189 to R191) -/

/-- Multicast heads and residue entries of a plane: entry epochs begin, and copies towards ports that do not accept them are dropped. -/
def State.epochHeads (s : State) (k : Nat) : State :=
  let ids := ((List.range 4).map fun i => s.residue i k ++ ((List.range 8).filterMap fun c => (s.mcq (mcqKey i k c)).head?)).flatten
  (ids.foldl (fun t id =>
    match t.mcAt id with
    | none => t
    | some m =>
      let t1 := if (m.e0.get? k).isSome then t else t.setMc id { m with e0 := m.e0.put k s.fab.epoch }
      t1.mcDrop id fun m n =>
        if n % 4 = k && (m.dead.contains n || !s.operUp (s.lanePort n)) && !s.doomed m.fr then some (s.downCnt (s.lanePort n) m.fr true)
        else none) s).mcClean

/-- The frame that requester `r` offers to output `n` in class `c`: the unicast head, or the oldest residue entry or the multicast head
with a copy towards `n` (R182, R190). -/
def State.offer (s : State) (n r c : Nat) : Option (Frame × Option Nat) :=
  let i := r / 2
  let k := n % 4
  let live : Frame × Option Nat → Bool := fun x => !s.doomed x.1
  if r % 2 = 0 then (((s.voqAt (voqKey i n c)).sram.head?).map fun f => (f, none)).filter live
  else
    let has : Nat → Option (Frame × Option Nat) := fun id =>
      match s.mcAt id with
      | some m => if m.fr.cls = c && m.todo.contains n then some (m.fr, some id) else none
      | none => none
    let head := match (s.mcq (mcqKey i k c)).head? with | some id => [id] | none => []
    ((s.residue i k ++ head).findSome? has).filter live

/-- A grant: output, requester, frame, multicast identity, landing. -/
structure Grant where
  out : Nat
  req : Nat
  fr : Frame
  mc : Option Nat
  land : Landing
  deriving DecidableEq, Repr

/-- The request that an unmatched output grants: highest class, then the grant pointer; only requests whose landing can be secured are made. -/
def State.grantOf (s : State) (n : Nat) : Option (Nat × Frame × Option Nat × (Nat × Nat × Nat)) :=
  let p := s.lanePort n
  let g := s.fab.grantPtr.getD n 0
  [7, 6, 5, 4, 3, 2, 1, 0].findSome? fun c =>
    ((List.range 8).map fun i => (g + i) % 8).findSome? fun r =>
      match s.offer n r c with
      | none => none
      | some (f, id) => (s.landPlan p f.cells).map fun x => (r, f, id, x)

/-- Whether any requester has a request for an output. -/
def State.wanted (s : State) (n : Nat) : Bool :=
  (List.range 8).any fun c => (List.range 8).any fun r => (s.offer n r c).isSome

/-- The unmatched outputs of a plane that a queue names, rising. -/
def State.openOutputs (s : State) (k : Nat) : List Nat :=
  let named := (s.fab.voq.keys.map fun key => key / 8 % 192) ++ (s.fab.mc.values.map McFrame.todo).flatten
  (List.range 192).filter fun n =>
    n % 4 == k && named.contains n && s.operUp (s.lanePort n) && !(s.fab.cross.any fun x => x.out == n)

/-- Grant phase: each output in turn; the flag says that an output could not grant for want of landing. -/
def State.grantPhase (s : State) : List Nat → State × List Grant × Bool
  | [] => (s, [], false)
  | n :: ns =>
    match s.grantOf n with
    | none => match s.grantPhase ns with
      | (s1, gs, b) => (s1, gs, b || s.wanted n)
    | some (r, f, id, x) => match s.landSecure (s.lanePort n) x with
      | (s1, l) => match s1.grantPhase ns with
        | (s2, gs, b) => (s2, ⟨n, r, f, id, l⟩ :: gs, b)

/-- Insert by a key, ascending. -/
def insertBy (key : Grant → Nat) (x : Grant) : List Grant → List Grant
  | [] => [x]
  | y :: r => if key x < key y then x :: y :: r else y :: insertBy key x r

/-- An accepted match begins (R183). -/
def State.beginMatch (s : State) (g : Grant) : State :=
  let x : Crossing := ⟨g.out, ⟨g.fr, g.mc.isSome, none, false, g.land⟩, g.mc, 0, none⟩
  let s1 := s.setFab { s.fab with cross := s.fab.cross ++ [x] }
  match g.mc with
  | none =>
    let key := voqKey (g.req / 2) g.out g.fr.cls
    s1.setVoq key { s1.voqAt key with sram := (s1.voqAt key).sram.drop 1 }
  | some id => match s1.mcAt id with
    | none => s1
    | some m => s1.setMc id { m with todo := m.todo.filter (· != g.out), live := m.live + 1 }

/-- Accept phase of one slice on a plane: up to its free capacity, in the order of its accept pointer; `first` is the first iteration. -/
def State.acceptPhase (s : State) (k : Nat) (first : Bool) (gs : List Grant) (i : Nat) : State :=
  let a := s.fab.acceptPtr.getD (i * 4 + k) 0
  let mine := (gs.filter fun g => g.req / 2 == i).foldr (insertBy fun g => (g.out / 4 + 48 - a) % 48) []
  let cap := 12 - (s.fab.cross.filter fun x => x.out % 4 == k && x.copy.fr.slice == i).length
  let yes := mine.take cap
  let s1 := yes.foldl (fun t g =>
    let t1 := t.beginMatch g
    if first then (t1.setFab { t1.fab with grantPtr := t1.fab.grantPtr.setD g.out ((g.req + 1) % 8) 0 }).pfEvent 0x301 k 1 else t1) s
  let s2 := (mine.drop cap).foldl (fun t g => t.landFree (t.lanePort g.out) g.land) s1
  match yes.getLast? with
  | some g => if first then s2.setFab { s2.fab with acceptPtr := s2.fab.acceptPtr.setD (i * 4 + k) ((g.out / 4 + 1) % 48) 0 } else s2
  | none => s2

/-- One request-grant-accept iteration of a plane. -/
def State.rgaIter (s : State) (k : Nat) (first : Bool) : State × Bool :=
  match s.grantPhase (s.openOutputs k) with
  | (s1, gs, b) => ([0, 1, 2, 3].foldl (fun t i => t.acceptPhase k first gs i) s1, b)

/-- After the iterations, a head with copies left moves to the residue store or stays (Table 06.8); the flag says that one stays. -/
def State.epochHeadsAfter (s : State) (k : Nat) : State × Bool :=
  let s0 := s.mcClean
  (List.range 32).foldl (fun (tb : State × Bool) j =>
    let t := tb.1
    let i := j / 8
    let key := mcqKey i k (j % 8)
    match t.mcq key with
    | [] => tb
    | id :: rest =>
      if ((t.mcAt id).bind fun m => m.e0.get? k).isNone then tb
      else if (t.residue i k).length < 64 then
        (((t.setMcq key rest).setResidue i k (t.residue i k ++ [id])).countEv (Reg.FAB_CNT 5) 0x302 k 1, tb.2)
      else (t, true)) (s0, false)

/-- Drop the frames at VOQ heads that have waited for 1 s (R186). -/
def State.ageVoqs (s : State) (k : Nat) : State :=
  s.fab.voq.keys.foldl (fun t key =>
    let n := key / 8 % 192
    let v := t.voqAt key
    let old := v.sram.takeWhile fun f => decide (f.entry + 1250000000 ≤ s.cycle)
    if n % 4 ≠ k ∨ old.isEmpty = true then t
    else
      let t1 := old.foldl (fun u f => ((u.count (Reg.PRT_FAB_CNT (s.lanePort n) 7)).bufFreeAll Own.FABRIC f.bufs).frameEnd f Htx.EGRESS_DROP 0) t
      t1.setVoq key { v with sram := v.sram.drop old.length }) s

/-- A match sends one cell; with the last one its frame lands (R183). -/
def State.crossCell (s : State) (x : Crossing) : State :=
  let k := x.out % 4
  let s1 := s.countEv (Reg.FAB_CNT (1 + k)) 0x300 k 1
  let y : Crossing := { x with sent := x.sent + 1 }
  let s2 := s1.setFab { s1.fab with cross := s1.fab.cross.map fun z => if z.out = x.out then y else z }
  if y.sent < x.copy.fr.cells then s2
  else
    let p := s.lanePort x.out
    let m := x.mc.bind s2.mcAt
    match s2.landCopy p x.copy x.dead (m.bind McFrame.rseq) with
    | (s3, drawn) =>
      match x.mc with
      | none => s3.bufFreeAll Own.FABRIC x.copy.fr.bufs
      | some id => match s3.mcAt id with
        | none => s3
        | some m => (s3.setMc id { m with live := m.live - 1, rseq := drawn }).mcFinish id

/-- One plane at an epoch boundary, up to its iterations: whether a multicast head was held and whether landing was wanting. -/
def State.planeEpoch (s : State) (k : Nat) : State × Bool × Bool :=
  match (s.epochHeads k).rgaIter k true with
  | (s1, b1) => match s1.rgaIter k false with
    | (s2, b2) => match s2.rgaIter k false with
      | (s3, b3) => match s3.epochHeadsAfter k with
        | (s4, held) => (s4.ageVoqs k, held, b1 || b2 || b3)

/-- The residue timeout in epochs of 25.6 ns: MC_RESIDUE_US × 1,000 ÷ 25.6, rounded up (R189). -/
def State.residueEpochs (s : State) : Nat := ceilDiv (s.fld F.FAB_MC_RESIDUE.US * 10000) 256

/-- EPOCH_BOUNDARY (R182): finished matches are released, every plane runs three iterations, and every older match crosses one cell. FAB_MC_RESIDUE takes effect here, for every frame (R191). -/
def State.epochStep (s : State) : State :=
  let s0 := (s.setFab { s.fab with resLim := s.residueEpochs, epoch := s.fab.epoch + 1, cross := s.fab.cross.filter fun x => decide (x.sent < x.copy.fr.cells) }).countEv
    (Reg.FAB_CNT 0) 0x002 0 1
  if 0 < s0.fab.hold then s0.setFab { s0.fab with hold := s0.fab.hold - 1 }
  else
    let old := s0.fab.cross
    let s1 := if bitAt s0.dev.recov 4 then s0.closeRecov 4 else s0
    let r := [0, 1, 2, 3].foldl (fun (a : State × Bool × Bool) k =>
      match a.1.planeEpoch k with | (t, h, b) => (t, a.2.1 || h, a.2.2 || b)) (s1, false, false)
    let s2 := old.foldl State.crossCell r.1
    let s3 := if r.2.1 then s2.count (Reg.FAB_CNT 6) else s2
    if r.2.2 then s3.count (Reg.FAB_CNT 9) else s3

def execEpochBoundary (s : State) : Host.Outcome State Fault Refusal :=
  if s.mode < Mode.STEEP then .next s else .next s.epochStep

/-- Whether a multicast frame has reached its timeout epoch on a plane, counted from its entry epoch there (R189, R191). -/
def State.residueOver (s : State) (plane : Nat) (m : McFrame) : Bool :=
  match m.e0.get? plane with
  | some e => decide (e + s.fab.resLim ≤ s.fab.epoch)
  | none => false

/-- RESIDUE_TIMEOUT (R189): once its timeout epoch is reached, the outstanding copies of a frame in HEAD or RESIDUE on a plane are dropped; the grants
of that epoch have been made with its boundary and stand (R191). -/
def execResidueTimeout (plane slice id : Nat) (s : State) : Host.Outcome State Fault Refusal :=
  if 4 ≤ plane ∨ 4 ≤ slice then .fault .noSuchInstance
  else if (s.residue slice plane).contains id || (List.range 8).any fun c => (s.mcq (mcqKey slice plane c)).head? == some id then
    .next (s.mcDrop id fun m n => if n % 4 = plane ∧ s.residueOver plane m = true then some (Reg.PRT_FAB_CNT (s.lanePort n) 4) else none).mcClean
  else .next s

/-! ## Scheduler reset, residence sweep, audit, fence -/

/-- SCHEDULER_WATCHDOG_EXPIRY (R359, Table 06.10): crossing frames are cut and dropped whole; their source buffers stay in place; no
cell crosses for 16 epochs. -/
def execSchedulerWatchdogExpiry (s : State) : Host.Outcome State Fault Refusal :=
  if s.mode < Mode.STEEP then .next s
  else
    let cut := s.fab.cross.filter fun x => decide (x.sent < x.copy.fr.cells)
    let s1 := ((s.watchdog 4).count (Reg.FAB_CNT 7)).coveredFault.openRecov 4
    let s2 := s1.setFab { s1.fab with cross := [], hold := 16 }
    .next (cut.foldl (fun t x =>
      let t1 := (t.copyDrop (t.lanePort x.out) x.copy (Reg.FAB_CNT 8) Htx.EGRESS_DROP)
      match x.mc with
      | none => t1
      | some id => match t1.mcAt id with
        | none => t1
        | some m =>
          let m1 : McFrame := { m with live := m.live - 1 }
          if m1.todo.isEmpty && m1.live == 0 then t1.setFab { t1.fab with mc := t1.fab.mc.del id } else t1.setMc id m1) s2)

/-- Whether the residence of a frame exceeds 63 s (R187). -/
def State.overdue (s : State) (f : Frame) : Bool := decide (63000 < (s.msNow + 65536 - f.entryMs) % 65536)

/-- RESIDENCE_SWEEP (R187). -/
def execResidenceSweep (s : State) : Host.Outcome State Fault Refusal :=
  .next (s.purge (fun f p _ _ => if s.overdue f then some (Reg.PRT_FAB_CNT p 8) else none) Htx.EGRESS_DROP)

/-- Every buffer that a holder holds (R175). -/
def State.heldBufs (s : State) : List Nat :=
  let v := s.fab.voq.values
  let frames := (v.map fun q => q.sram ++ q.seg.map (·.2)).flatten ++ s.fab.mc.values.map McFrame.fr ++
    (s.fab.cross.filter fun x => x.mc.isNone && decide (x.sent < x.copy.fr.cells)).map fun x => x.copy.fr
  let landed := (s.fab.eg.values.map fun e => e.q.values.flatten ++ e.lt).flatten ++
    (s.fab.cross.filter fun x => decide (x.sent < x.copy.fr.cells)).map Crossing.copy
  ((frames.map Frame.bufs).flatten ++ (landed.map fun c => c.land.cells).flatten ++ (v.map Voq.blocks).flatten).map bufKey

/-- The buffers of the snapshot that are leaked at the end of a round (R176). -/
def State.leaked (s : State) : List Nat :=
  let held := s.heldBufs
  s.fab.snap.filter fun k => match s.fab.alloc.get? k with
    | none => false
    | some o => o != Own.STRAINER && !held.contains k

/-- A leaked cell of P0 goes back to its part: the reserve or the headroom share of the port it was to land at, or the shared part (R164). -/
def State.leakPart (s : State) (k : Nat) : State :=
  match s.fab.cell.get? k with
  | some (p, part) =>
    match s.p0use p with
    | (r, sh, hd) =>
      if part = 0 then s.setP0use p (r - 1, sh, hd)
      else if part = 1 then (s.setP0use p (r, sh - 1, hd)).setShared (s.sharedFree + 1)
      else (s.setP0use p (r, sh, hd - 1)).setFld F.BPM_P0_SPLIT.HR_FREE (s.headFree + 1)
  | none => if k / 2 ^ 24 = 0 then s.setShared (s.sharedFree + 1) else s

/-- A leaked buffer is returned. -/
def State.leakReturn (s : State) (k : Nat) : State :=
  let h := k * 32 + (s.fab.alloc.get? k).getD 0
  let s1 := (s.leakPart k).bufReturn k
  ((s1.count (Reg.BPM_CNT 8)).setFld F.BPM_LEAK_LAST.HANDLE h).spoutEvent Sp.BPM_LEAK 0 0 h

/-- AUDIT_ROUND_END (R176): leaked buffers return, and the next round begins with a new snapshot. -/
def execAuditRoundEnd (s : State) : Host.Outcome State Fault Refusal :=
  if s.mode < Mode.STEEP then .next s
  else
    let l := s.leaked
    let s1 := l.foldl State.leakReturn s
    let s2 := if l.isEmpty then s1 else s1.closeRecov 8
    let s3 := ((s2.count (Reg.BPM_CNT 9)).wrapAdd F.BPM_AUDIT.ROUND 1).setFld F.BPM_AUDIT.LAST_LEAKS (min l.length 65535)
    .next (s3.setFab { s3.fab with snap := s3.fab.alloc.keys })

/-- Every frame in the device, once for each copy. -/
def State.framesHeld (s : State) : List Frame :=
  (s.fab.voq.values.map fun q => q.sram ++ q.seg.map (·.2)).flatten ++ s.fab.mc.values.map McFrame.fr ++
    ((s.fab.cross.filter fun x => decide (x.sent < x.copy.fr.cells)).map fun x => x.copy.fr) ++
    ((s.fab.eg.values.map fun e => e.q.values.flatten ++ e.lt).flatten.map Copy.fr)

/-- Whether no frame that slice `i` decided before version `v` is left (R159). -/
def State.fenceClear (s : State) (i v : Nat) : Bool :=
  !(s.framesHeld.any fun f => f.src == 0 && f.slice == i && decide (signed 32 (f.ver + 2 ^ 32 - v) < 0))

/-- FENCE_DONE (R159). -/
def execFenceDone (i : Nat) (s : State) : Host.Outcome State Fault Refusal :=
  if 4 ≤ i then .fault .noSuchInstance
  else
    let v := s.fld (F.SLC_FENCE_VER.F i)
    if s.fld (F.SLC_FENCE.DONE i) = 1 ∨ s.fenceClear i v = false then .next s
    else
      let s1 := s.setFld (F.SLC_FENCE.DONE i) 1
      .next (if s.fld (F.SLC_FENCE.FENCE_EV i) = 1 then s1.spoutEvent Sp.FENCE_DONE i 0 v else s1)

end Sys2Proof.Machine
end

