-- ==== Sys2Proof/Machine/Parse.lean ====
section
/-! DEFINITION. The parser (R125, Table 05.2), the keys it gives (R133, R141, R180), and the PTP fields of a frame. -/

namespace Sys2Proof.Machine

/-- The parsed items of a frame. `ptp` is the offset of the PTP header, and whether it came over Ethernet (0), UDP on IPv4 (1) or UDP on IPv6 (2);
`udp` is the offset of the UDP header; `dport` its destination port. -/
structure Parsed where
  da : Nat
  sa : Nat
  tagged : Bool
  vlan : Nat
  pcp : Nat
  dei : Bool
  ethType : Nat
  rtag : Bool
  v4 : Bool
  v6 : Bool
  later : Bool
  proto : Nat
  dscp : Nat
  src : Nat
  dst : Nat
  sport : Nat
  dport : Nat
  l3 : Nat
  udp : Nat
  ptp : Option (Nat × Nat)
  deriving DecidableEq, Repr

/-- The big-endian number in `n` bytes at offset `o` of the parse window; none where it lies partly beyond it (R125). -/
def winAt (w : List Byte) (o n : Nat) : Option Nat := if o + n ≤ w.length then some (beAt w o n) else none

/-- The parse window: the first 256 bytes, without the FCS. -/
def parseWindow (bs : List Byte) : List Byte := (bs.take (bs.length - 4)).take 256

/-- Follow the extension headers of IPv6: next header, its offset, and whether a later fragment was found. Where an extension header lies partly beyond
the window, its own number stays the next header (log entry 85). -/
def v6Follow (w : List Byte) : Nat → Nat → Nat → Bool → Nat × Option Nat × Bool
  | 0, nh, _, lt => (nh, none, lt)
  | fuel + 1, nh, o, lt =>
    if nh = 0 ∨ nh = 43 ∨ nh = 60 ∨ nh = 44 then
      match winAt w o 8 with
      | none => (nh, none, lt)
      | some _ =>
        let nx := beAt w o 1
        if nh = 44 then v6Follow w fuel nx (o + 8) (beAt w (o + 2) 2 / 8 != 0)
        else v6Follow w fuel nx (o + 8 * (beAt w (o + 1) 1 + 1)) lt
    else (nh, some o, lt)

/-- Layer 4 of a parsed frame: ports only in a first fragment. -/
def Parsed.layer4 (p : Parsed) (w : List Byte) (ofs : Option Nat) : Parsed :=
  match ofs with
  | none => p
  | some o =>
    if p.later || !(p.proto == 6 || p.proto == 17) || (winAt w o 4).isNone then p
    else
      let dp := beAt w (o + 2) 2
      { p with
        sport := beAt w o 2
        dport := dp
        udp := o
        ptp := if p.proto = 17 ∧ (dp = 319 ∨ dp = 320) then some (o + 8, if p.v4 then 1 else 2) else none }

/-- Layer 3 of a parsed frame. -/
def Parsed.layer3 (p : Parsed) (w : List Byte) : Parsed :=
  let o := p.l3
  if p.ethType = 0x0800 ∧ (winAt w o 20).isSome = true ∧ 5 ≤ beAt w o 1 % 16 then
    { p with
      v4 := true
      later := beAt w (o + 6) 2 % 8192 != 0
      proto := beAt w (o + 9) 1
      dscp := beAt w (o + 1) 1 / 4
      src := beAt w (o + 12) 4
      dst := beAt w (o + 16) 4 }.layer4 w (some (o + 4 * (beAt w o 1 % 16)))
  else if p.ethType = 0x86DD ∧ (winAt w o 40).isSome = true then
    match v6Follow w 32 (beAt w (o + 6) 1) (o + 40) false with
    | (nh, l4, lt) =>
      { p with
        v6 := true
        later := lt
        proto := nh
        dscp := beAt w o 4 / 2 ^ 22 % 64
        src := beAt w (o + 20) 4
        dst := beAt w (o + 36) 4 }.layer4 w l4
  else if p.ethType = 0x88F7 then { p with ptp := some (o, 0) }
  else p

/-- Parse a frame that arrived on a port with DEF_VLAN `dv` and DEF_PCP `dp`. -/
def parseFrame (bs : List Byte) (dv dp : Nat) : Parsed :=
  let w := parseWindow bs
  let has := isTpid (beAt w 12 2) && (winAt w 14 2).isSome
  let tci := beAt w 14 2
  let o1 := if has then 16 else 12
  let o2 := if has && isTpid (beAt w o1 2) then o1 + 4 else o1
  let rt := beAt w o2 2 == 0xF1C1 && (winAt w o2 2).isSome
  let o3 := if rt then o2 + 6 else o2
  let et := (winAt w o3 2).getD 0
  let p : Parsed :=
    ⟨beAt w 0 6, beAt w 6 6, has, if has && tci % 4096 != 0 then tci % 4096 else dv, if has then tci / 8192 else dp,
      has && bitAt tci 12, et, rt, false, false, false, 0, 0, 0, 0, 0, 0, o3 + 2, 0, none⟩
  p.layer3 w

/-- Whether an address is a group address: bit 40 of the integer of R133. -/
def isGroup (mac : Nat) : Bool := bitAt mac 40

/-- FLAGS of the rule key (Table 05.5). -/
def Parsed.flags (p : Parsed) : Nat :=
  b2n p.tagged + b2n p.v4 * 2 + b2n p.v6 * 4 + b2n p.ptp.isSome * 8 + b2n p.rtag * 16 + b2n (isGroup p.da) * 32 + b2n (isGroup p.sa) * 64 +
    b2n p.later * 128

/-- Bits 31 to 0 of both keys (Table 05.5). -/
def Parsed.keyHead (p : Parsed) (port : Nat) : Nat :=
  port + p.vlan * 2 ^ 8 + p.pcp * 2 ^ 20 + b2n p.dei * 2 ^ 23 + p.flags * 2 ^ 24

/-- The frame's key as RULE_L2 and as RULE_L3 (Table 05.5). -/
def Parsed.keyL2 (p : Parsed) (port : Nat) : Nat := p.keyHead port + p.ethType * 2 ^ 32 + p.da * 2 ^ 48 + p.sa * 2 ^ 96
def Parsed.keyL3 (p : Parsed) (port : Nat) : Nat :=
  p.keyHead port + p.proto % 256 * 2 ^ 32 + p.dscp * 2 ^ 40 + p.sport * 2 ^ 48 + p.dport * 2 ^ 64 + p.src % 2 ^ 16 * 2 ^ 80 +
    p.src / 2 ^ 16 * 2 ^ 96 + p.dst * 2 ^ 112

/-- The term F of R180 for a frame without a stream. -/
def Parsed.flow (p : Parsed) : Nat :=
  if p.v4 || p.v6 then
    crc32c (leBytes 4 p.src ++ leBytes 4 p.dst ++ leBytes 2 p.sport ++ leBytes 2 p.dport ++ leBytes 1 p.proto)
  else crc32c (leBytes 6 p.da ++ leBytes 6 p.sa ++ leBytes 2 p.vlan)

/-- The PTP header offset of a 1588 event message that a forwarded frame holds (R221). -/
def Parsed.event (p : Parsed) (bs : List Byte) : Option Nat :=
  match p.ptp with
  | none => none
  | some (o, tr) => if o + 16 ≤ bs.length - 4 ∧ beAt bs o 1 % 16 ≤ 3 ∧ (tr = 0 ∨ p.dport = 319) then some o else none

end Sys2Proof.Machine
end

