-- ==== Sys2Proof/Machine/Egress.lean ====
section
/-! DEFINITION. The egress scheduler of a port (07_egress_and_deterministic_delivery.md): gate lists, pause, the pause watchdog, the choice of the
next frame, launch time, residence-time correction and transmission. -/

namespace Sys2Proof.Machine

/-! ## Port access -/

/-- A direct write of a port-space register. -/
def Acc.prt (p ofs : Nat) : Acc := Acc.direct (Base.PRT p) ofs

/-- A checked host write in the space of port `p`: a write to an unused port is NOT_PERMITTED in the error register of the DEV block (R3). -/
def State.portGuard (s : State) (a : Acc) (p : Nat) (checks : List (Bool × Nat)) (act : State → State) : State :=
  if s.portUsed p then s.guard a checks act else s.guard { a with base := Base.DEV } [(true, Err.NOT_PERMITTED)] id

/-! ## Gate lists (R199 to R202) -/

/-- Gates and interval of entry `i` of a bank. -/
def State.gclGates (s : State) (p bank i : Nat) : Nat := if bank = 0 then s.fld (F.PRT_GCL_A.GATES p i) else s.fld (F.PRT_GCL_B.GATES p i)
def State.gclInterval (s : State) (p bank i : Nat) : Nat :=
  if bank = 0 then s.fld (F.PRT_GCL_A.INTERVAL_NS p i) else s.fld (F.PRT_GCL_B.INTERVAL_NS p i)

/-- The segments of a cycle, in ns from its start, as (begin, end, gates): the last entry holds to the cycle's end, and entries beyond it
are not applied (R200). `n` entries are left from entry `i` at `acc`. -/
def State.gclSegs (s : State) (p bank cycle : Nat) : Nat → Nat → Nat → List (Nat × Nat × Nat)
  | 0, _, _ => []
  | n + 1, i, acc =>
    if cycle ≤ acc then []
    else
      let e := acc + s.gclInterval p bank i
      let e1 := if n = 0 then cycle else min e cycle
      (acc, e1, s.gclGates p bank i) :: s.gclSegs p bank cycle n (i + 1) e

def State.runSegs (s : State) (p : Nat) (r : GclRun) : List (Nat × Nat × Nat) := s.gclSegs p r.bank r.cycle r.len 0 0

/-- When the gate of class `c` next closes, in 2^-16 ns from the start of the present cycle; none where it never does. -/
def State.gateCloses (s : State) (p c : Nat) (r : GclRun) : Option Nat :=
  let g := s.runSegs p r
  let two := g ++ g.map fun x => (x.1 + r.cycle, x.2.1 + r.cycle, x.2.2)
  ((two.drop r.idx).find? fun x => !bitAt x.2.2 c).map fun x => x.1 * 2 ^ 16

/-- The longest continuous open interval of class `c` in ns, the wrap included; none where the class is always open (R202). -/
def State.longestOpen (s : State) (p c : Nat) (r : GclRun) : Option Nat :=
  let g := s.runSegs p r
  if g.all fun x => bitAt x.2.2 c then none
  else
    let step : Nat × Nat → Nat × Nat × Nat → Nat × Nat := fun a x =>
      let run := if bitAt x.2.2 c then a.1 + (x.2.1 - x.1) else 0
      (run, max a.2 run)
    some ((g ++ g).foldl step (0, 0)).2

/-- Show the gate list that runs (PRT_GCL_STATUS); a class whose gate closes may be blocked by it. -/
def State.gclShow (s : State) (p : Nat) : State :=
  let e := s.egp p
  let s1 := s.setFld (F.PRT_GCL_STATUS.PENDING p) (b2n e.pend.isSome)
  let s2 := match e.run with
    | none => ((s1.setFld (F.PRT_GCL_STATUS.RUNNING p) 0).setFld (F.PRT_GCL_STATUS.ENTRY p) 0).setFld (F.PRT_GCL_STATUS.GATES p) 0xFF
    | some r =>
      (((s1.setFld (F.PRT_GCL_STATUS.RUNNING p) 1).setFld (F.PRT_GCL_STATUS.BANK p) r.bank).setFld (F.PRT_GCL_STATUS.ENTRY p) r.idx).setFld
        (F.PRT_GCL_STATUS.GATES p) (s.gclGates p r.bank r.idx)
  s2.wdWatch p

/-- GATE_ENTRY_TRANSITION (R200): the next entry takes effect; after the last, the next cycle begins. -/
def execGateEntryTransition (p : Nat) (s : State) : Host.Outcome State Fault Refusal :=
  if 192 ≤ p then .fault .noSuchInstance
  else match (s.egp p).run with
    | none => .next s
    | some r =>
      let r1 : GclRun := if r.idx + 1 < (s.runSegs p r).length then { r with idx := r.idx + 1 }
        else { r with idx := 0, start := addT16 r.start ((r.cycle * 2 ^ 16 : Nat) : Int) }
      .next ((s.setEgp p { s.egp p with run := some r1 }).gclShow p)

/-- The base time of a port (R201). -/
def State.gclBase (s : State) (p : Nat) : Time16 :=
  mkT16 (s.fld (F.PRT_GCL_BASE_S_LO.S_LO p) + s.fld (F.PRT_GCL_BASE_S_HI.S_HI p) * 2 ^ 32) (s.fld (F.PRT_GCL_BASE_NS.NS p)) 0

/-- The switch instant of a commit now: the first base + N × cycle at least 1 ms away, in full TIME96 arithmetic. -/
def State.gclInstant (s : State) (p cycle : Nat) : Time16 :=
  let base := s.gclBase p
  let goal := s.now16 (s.portDomain p) + 1000000 * 2 ^ 16
  let cq := cycle * 2 ^ 16
  if goal ≤ base then base else base + ceilDiv (goal - base) cq * cq

/-- Whether any of the first `n` entries of a bank has a zero interval. -/
def State.gclZero (s : State) (p bank n : Nat) : Bool := (List.range n).any fun i => s.gclInterval p bank i == 0

/-- The bank that is staged: the one that is not running. -/
def State.gclStaged (s : State) (p : Nat) : Nat := 1 - s.fld (F.PRT_GCL_STATUS.BANK p)

/-- A write of PRT_GCL_CTRL (R201, R204, R224). -/
def State.gclCtrl (s : State) (a : Acc) (p : Nat) (commit abort off rsv : Bool) : State :=
  let e := s.egp p
  let cyc := s.fld (F.PRT_GCL_CYCLE.NS p)
  let len := s.fld (F.PRT_GCL_LEN.ENTRIES p)
  let bank := s.gclStaged p
  let inst := s.gclInstant p cyc
  let now := s.now16 (s.portDomain p)
  s.portGuard a p [(commit && !s.isMutable 3, Err.NOT_PERMITTED), (commit && e.pend.isSome, Err.BUSY), (rsv, Err.RESERVED_FIELD),
      (commit && cyc != 0 && decide (now + 2000000000 * 2 ^ 16 < inst), Err.RANGE),
      (commit && (cyc == 0 || (!off && (len == 0 || s.gclZero p bank len))), Err.ZERO_LENGTH),
      ((commit && abort) || (commit && !off && (List.range len).any fun i => (List.range 8).any fun c =>
        s.fld (F.PRT_CBS.EN p c) == 1 && !bitAt (s.gclGates p bank i) c), Err.ILLEGAL_VALUE)] fun t =>
    if commit then
      let t1 := t.setEgp p { t.egp p with pend := some ⟨off, bank, len, cyc, inst⟩ }
      (t1.setFld (F.PRT_GCL_SWITCH.NS32 p) (ns32 inst)).gclShow p
    else if abort then (t.setEgp p { t.egp p with pend := none }).gclShow p
    else t

/-- GCL_COMMIT (R201). -/
def execGclCommit (p : Nat) (s : State) : Host.Outcome State Fault Refusal :=
  if 192 ≤ p then .fault .noSuchInstance else .next (s.gclCtrl (Acc.prt p (Reg.PRT_GCL_CTRL p)) p true false false false)

/-- GCL_COMMIT_OFF (R201). -/
def execGclCommitOff (p : Nat) (s : State) : Host.Outcome State Fault Refusal :=
  if 192 ≤ p then .fault .noSuchInstance else .next (s.gclCtrl (Acc.prt p (Reg.PRT_GCL_CTRL p)) p true false true false)

/-- GCL_ABORT (R201). -/
def execGclAbort (p : Nat) (s : State) : Host.Outcome State Fault Refusal :=
  if 192 ≤ p then .fault .noSuchInstance else .next (s.gclCtrl (Acc.prt p (Reg.PRT_GCL_CTRL p)) p false true false false)

/-- An armed switch takes effect (R201): the list starts at entry 0 of a cycle that begins at the switch instant, or no list runs. -/
def State.gclTake (s : State) (p : Nat) (d : GclPend) : State :=
  s.setEgp p { s.egp p with run := if d.off then none else some ⟨d.bank, d.len, d.cycle, d.at16 % t16Mod, 0⟩, pend := none }

/-- GCL_SWITCH (R201): the armed list starts at entry 0, or no list runs. -/
def execGclSwitch (p : Nat) (s : State) : Host.Outcome State Fault Refusal :=
  if 192 ≤ p then .fault .noSuchInstance
  else match (s.egp p).pend with
    | none => .next s
    | some d => .next ((s.gclTake p d).gclShow p)

/-- The cycle and the entry of a running list that its base and its cycle time give at the instant `now` (R60, R200). -/
def State.gclAt (s : State) (p : Nat) (now : Time16) (r : GclRun) : GclRun :=
  let cq := r.cycle * 2 ^ 16
  let past := (subT16 now r.start).toNat
  let ns := past % cq / 2 ^ 16
  { r with start := addT16 r.start (past / cq * cq : Nat), idx := ((s.runSegs p r).filter fun g => decide (g.1 ≤ ns)).length - 1 }

/-- The gate list of a port whose slice returns from DARK (R60): a switch whose instant passed has taken effect, and the list that runs stands where
the present time puts it. -/
def State.gclCatch (s : State) (p : Nat) : State :=
  let now := s.now16 (s.portDomain p)
  let s1 := match (s.egp p).pend with
    | some d => if 0 ≤ subT16 now (d.at16 % t16Mod) then s.gclTake p d else s
    | none => s
  match (s1.egp p).run with
  | some r => (s1.setEgp p { s1.egp p with run := some (s1.gclAt p now r) }).gclShow p
  | none => s1.gclShow p

/-! ## Pause (R205, R206) -/

/-- A class begins or ends a pause; its credit is held while it is paused. -/
def State.setPause (s : State) (p c quanta : Nat) : State :=
  let s1 := s.cbsAdvance p c
  let s2 := s1.setEgp p { s1.egp p with quanta := (s1.egp p).quanta.setD c quanta 0 }
  (s2.setFldBit (F.PRT_WD.PAUSED p) c (quanta != 0)).wdWatch p

/-- A PFC frame acts on the classes it enables and PFC_EN enables (R205). -/
def State.pfcAct (s : State) (p enable : Nat) (quanta : List Nat) : State :=
  let en := s.fld (F.PRT_PFC.EN p)
  (List.range 8).foldl (fun t c => if bitAt enable c && bitAt en c then t.setPause p c (quanta.getD c 0) else t) (s.count (Reg.PRT_EG_CNT p 10))

/-- A frame of legal length with good FCS was received (Table 05.15, rows 0 and 1). -/
def State.rxGood (s : State) (p len : Nat) : State :=
  (s.countEv (Reg.PRT_RX_CNT p 0) 0x200 p 1).countEv (Reg.PRT_RX_CNT p 1) 0x201 p len

/-- Whether a port receives frames: it is UP, or IDLE and leaving idle. -/
def State.receives (s : State) (p : Nat) : Bool := s.portUsed p && s.operUp p

/-- PFC_FRAME_RECEIVED (R205): a MAC control frame is 64 bytes long (PRESUMED from IEEE 802.3, log entry 10). -/
def execPfcFrameReceived (p : Nat) (enable : BitVec 8) (quanta : List (BitVec 16)) (s : State) : Host.Outcome State Fault Refusal :=
  if 192 ≤ p then .fault .noSuchInstance
  else if s.receives p then .next ((s.rxGood p 64).pfcAct p enable.toNat (quanta.map BitVec.toNat)) else .next s

/-- MAC_CONTROL_RECEIVED (R205): it has no effect. -/
def execMacControlReceived (p : Nat) (s : State) : Host.Outcome State Fault Refusal :=
  if 192 ≤ p then .fault .noSuchInstance
  else if s.receives p then .next ((s.rxGood p 64).count (Reg.PRT_EG_CNT p 11)) else .next s

/-- A received MAC control frame, from its bytes: PFC has opcode 0x0101. -/
def State.macControl (s : State) (p : Nat) (bs : List Byte) (o : Nat) : State :=
  if beAt bs o 2 = 0x0101 ∧ o + 20 ≤ bs.length - 4 then
    s.pfcAct p (beAt bs (o + 2) 2 % 256) ((List.range 8).map fun c => beAt bs (o + 4 + 2 * c) 2)
  else s.count (Reg.PRT_EG_CNT p 11)

/-- PAUSE_EXPIRY (R205). -/
def execPauseExpiry (p c : Nat) (s : State) : Host.Outcome State Fault Refusal :=
  if 192 ≤ p ∨ 8 ≤ c then .fault .noSuchInstance else .next (s.setPause p c 0)

/-- PAUSE_WATCHDOG_EXPIRY (Table 07.1): it acts in BLOCKED, also where the class could start again but has started nothing. -/
def execPauseWatchdogExpiry (p c : Nat) (s : State) : Host.Outcome State Fault Refusal :=
  if 192 ≤ p ∨ 8 ≤ c then .fault .noSuchInstance
  else if (s.egp p).blk.contains c && !s.fldBit (F.PRT_WD.DROP p) c then
    let s1 := s.purgePort p (fun x => if s.egClass p x = c then some (Reg.PRT_EG_CNT p 9) else none) Htx.EGRESS_DROP
    .next ((s1.setFldBit (F.PRT_WD.DROP p) c true).spoutEvent Sp.PFC_WD p c)
  else .next s

/-- WD_DROP_CLEAR (Table 07.1): a management tick at which the class is neither paused nor gated closed. -/
def execWdDropClear (p c : Nat) (s : State) : Host.Outcome State Fault Refusal :=
  if 192 ≤ p ∨ 8 ≤ c then .fault .noSuchInstance
  else if !s.pausedCls p c && s.gateOpen p c then .next (s.setFldBit (F.PRT_WD.DROP p) c false) else .next s

/-! ## Departure (R210, R212) -/

/-- The maximum departure error of a port in 2^-16 ns: the ordinary one, and the one in codewords with alignment markers (Table 07.2). -/
def State.depError (s : State) (p : Nat) : Rat × Rat :=
  let m := s.laneMode p
  let fec := s.fld (F.LN_CFG.FEC p)
  let ps : Rat × Rat :=
    if m = 1 then (16000, 16000) else if m = 2 then (3400, 3400)
    else if m = 3 then (if fec = 0 then (1320, 1320) else if fec = 1 then (2560, 2560) else (6800, 16800))
    else if m = 4 then (2200, 12200)
    else
      let k := s.trunkStep p
      let e : Rat := if k = 4 then 3240 else if k = 3 then 3530 else 91 * 1000000000 / (stepKbaud k : Rat)
      (e, e)
  (ps.1 * 65536 / 1000, ps.2 * 65536 / 1000)

/-- The guard instant NL of R211, relative to now, in 2^-16 ns; none with an empty launch-time queue. -/
def State.launchGuard (s : State) (p : Nat) : Option Rat :=
  match (s.egp p).lt with
  | [] => none
  | x :: _ => some ((diff48 (x.fr.launch.getD 0) (ns48 (s.now16 (s.portDomain p))) : Rat) - (s.depError p).1)

/-! ## Transmission -/

/-- The residence-time correction of a forwarded 1588 event message (R221 to R223): the bytes to send, or none where it is dropped, and what the
egress counters note: 0 nothing, 1 other domains, 2 a residence above 1 s, 3 a correction. Whether it is one, and where its headers lie, is as it was
parsed (R125): tags and R-tag that the copy gained or lost only move them. The limit of 1 s is held against the whole stamps, so that no wrap of R196 hides
a longer residence. -/
def State.correct (s : State) (p : Nat) (f : Frame) (bs : List Byte) (dep : Time16) : Option (List Byte) × Nat :=
  let q := parseFrame f.bytes (s.defVlan f.inPort) 0
  if f.src ≠ 0 then (some bs, 0)
  else match q.event f.bytes with
    | none => (some bs, 0)
    | some o0 =>
      let o := o0 + bs.length - f.bytes.length
      let u := q.udp + bs.length - f.bytes.length
      let r := diff48 (ns48 dep) (ns48 f.stamp)
      if s.portDomain f.inPort ≠ s.portDomain p then (some bs, 1)
      else if ((1000000000 * 2 ^ 16 : Nat) : Int) < max r (subT16 dep f.stamp) then (none, 2)
      else
        let old := beAt bs (o + 8) 8
        let new := unsigned 64 (signed 64 old + r)
        let b1 := patch bs (o + 8) (beBytes 8 new)
        let words : Nat → Nat := fun n => n % 2 ^ 16 + n / 2 ^ 16 % 2 ^ 16 + n / 2 ^ 32 % 2 ^ 16 + n / 2 ^ 48 % 2 ^ 16
        let ck := beAt bs (u + 6) 2
        let sum := (65535 - ck) + (4 * 65535 - words old) + words new
        let fold1 := sum % 2 ^ 16 + sum / 2 ^ 16
        let fold2 := fold1 % 2 ^ 16 + fold1 / 2 ^ 16
        let ck1 := if fold2 = 65535 then 65535 else 65535 - fold2
        let b2 := if q.udp = 0 ∨ (q.v4 = true ∧ ck = 0) then b1 else patch b1 (u + 6) (beBytes 2 ck1)
        (some (withFcs (b2.take (b2.length - 4))), 3)

/-- Egress-side learning from a frame that leaves on port `p` (R149, R151); the copies of one frame raise one request in a slice. -/
def State.egressLearn (s : State) (p : Nat) (f : Frame) : State :=
  let i := sliceOf p
  let sa := beAt f.bytes 6 6
  if f.src = 0 ∧ sliceOf f.inPort ≠ i ∧ s.fld (F.SLC_LEARN.EGR i) = 1 ∧ isGroup sa = false ∧ sa ≠ 0 ∧ (s.slice i).eseen.contains f.id = false then
    let k := fdbKey f.vlan sa
    let left := s.framesHeld.map Frame.id
    let t := s.slice i
    let t1 : Slice := { t with eseen := (if left.contains f.id then [f.id] else []) ++ t.eseen.filter fun n => left.contains n }
    let s0 := s.setSlice i t1
    match t1.fdbFind (s.fdbLg i) k with
    | none => if s.learns i then s0.learnRequest i k f.inPort else s
    | some n =>
      let same := match t1.fdb.get? n with | some e => !e.group && e.dest == f.inPort | none => true
      if same || !s.learns i then s.setSlice i (t.hit n) else (s0.setSlice i (t1.hit n)).learnRequest i k f.inPort
  else s

/-- The line carries a frame: counters and the record of the line. -/
def State.sendBytes (s : State) (p : Nat) (bs : List Byte) (dep : Time16) : State :=
  let s1 := (s.countEv (Reg.PRT_EG_CNT p 0) 0x202 p 1).countEv (Reg.PRT_EG_CNT p 1) 0x203 p bs.length
  (s1.emit (.frame p bs dep)).txFrame p bs

/-- A copy chosen by the scheduler is transmitted with its stamp point at `dep` (R198, R221, R386); its landing cells return. -/
def State.transmit (s : State) (p : Nat) (c : Copy) (dep : Time16) : State :=
  match s.correct p c.fr (s.copyBytes p c) dep with
  | (none, _) => s.copyDrop p c (Reg.PRT_EG_CNT p 14) Htx.EGRESS_DROP
  | (some bs, note) =>
    let s1 := if note = 3 then s.count (Reg.PRT_EG_CNT p 12) else if note = 1 then s.count (Reg.PRT_EG_CNT p 13) else s
    (((s1.sendBytes p bs dep).landFree p c.land).frameEnd c.fr Htx.SENT dep).egressLearn p c.fr

/-! ## Timing engines (R262, R266) -/

def State.ttEng (s : State) (p : Nat) : TtEng := s.tt.getD p TtEng.fresh
def State.setTt (s : State) (p : Nat) (e : TtEng) : State := { s with tt := s.tt.setD p e TtEng.fresh }

/-- Roles of a timing engine (PRT_TT_CFG.ROLE). -/
def TtRole.MASTER : Nat := 1
def TtRole.SLAVE : Nat := 2
def TtRole.PASSIVE : Nat := 3

def State.ttRole (s : State) (p : Nat) : Nat := s.fld (F.PRT_TT_CFG.ROLE p)
def State.ttMech (s : State) (p : Nat) : Nat := s.fld (F.PRT_TT_CFG.MECH p)

/-- Whether the engine of port `p` works (R262): a role, a port that is UP or IDLE, and STEEP, BREEZE, GALE or CALM. -/
def State.ttWorks (s : State) (p : Nat) : Bool :=
  s.portUsed p && s.ttRole p != 0 && s.operUp p && decide (Mode.STEEP ≤ s.mode) && decide (s.mode ≤ Mode.CALM)

/-- Whether the engine has an identity (R263). -/
def State.ttHasId (s : State) (p : Nat) : Bool := s.fld (F.PRT_TT_ID_0.CLKID_0 p) != 0 || s.fld (F.PRT_TT_ID_1.CLKID_1 p) != 0

/-- Whether an engine frame takes the next frame boundary of port `p`: one waits, and the guard of R211 lets it start (R263, R266). -/
def State.ttFirst (s : State) (p : Nat) : Bool :=
  s.ttWorks p && s.ttHasId p &&
    match (s.ttEng p).queue with
    | [] => false
    | o :: _ => match s.launchGuard p with | none => true | some g => decide (s.occupancy p o.bytes.length ≤ g)

/-! ## The choice (R198) -/

/-- Length of a copy on the line. -/
def State.copyLen (s : State) (p : Nat) (c : Copy) : Nat := (s.copyBytes p c).length

/-- Drop the heads of class `c` that are too long after tagging (R220) or for any open window of the class (R202). -/
def State.trimHead (s : State) (p c : Nat) : Nat → State
  | 0 => s
  | fuel + 1 =>
    let e := s.egp p
    match e.cls c with
    | [] => s
    | x :: r =>
      let len := s.copyLen p x
      let never := match e.run with
        | none => false
        | some g => match s.longestOpen p c g with
          | none => false
          | some m => decide (((m * 2 ^ 16 : Nat) : Rat) < s.occupancy p len)
      if x.fr.src = 0 ∧ 10240 < len then (((s.setEgp p (e.setCls c r)).copyDrop p x (Reg.PRT_EG_CNT p 15) Htx.EGRESS_DROP).cbsSettle p c).trimHead p c fuel
      else if never then (((s.setEgp p (e.setCls c r)).copyDrop p x (Reg.PRT_EG_CNT p 8) Htx.EGRESS_DROP).cbsSettle p c).trimHead p c fuel
      else s

/-- Whether an occupancy of `t` (2^-16 ns) from now ends before the gate of class `c` closes and before an armed switch (R202). -/
def State.fitsGate (s : State) (p c : Nat) (t : Rat) : Bool :=
  let e := s.egp p
  let now := s.now16 (s.portDomain p)
  (match e.run with
    | none => true
    | some g => match s.gateCloses p c g with
      | none => true
      | some o => decide (t ≤ (subT16 (addT16 g.start (o : Int)) now : Rat))) &&
  (match e.pend with
    | none => true
    | some d => decide (t ≤ (subT16 (d.at16 % t16Mod) now : Rat)))

/-- Whether the head of class `c` may start now (R198, step 2). -/
def State.headQualifies (s : State) (p c : Nat) : Bool :=
  match (s.egp p).cls c with
  | [] => false
  | x :: _ =>
    let t := s.occupancy p (s.copyLen p x)
    s.gateOpen p c && !s.pausedCls p c && s.fitsGate p c t &&
      (s.fld (F.PRT_CBS.EN p c) == 0 || decide (0 ≤ ((s.egp p).cbs.getD c CbsCredit.fresh).bits)) &&
      (match s.launchGuard p with | none => true | some g => decide (t ≤ g))

/-- A shaped class that starts a frame of occupancy `t` (2^-16 ns) transmits until it ends (R203). -/
def State.cbsCharge (s : State) (p c : Nat) (t : Rat) : State :=
  if s.fld (F.PRT_CBS.EN p c) = 0 then s
  else
    let e := s.egp p
    let k := e.cbs.getD c CbsCredit.fresh
    s.setEgp p { e with cbs := e.cbs.put c { k with txTo := (s.cycle : Rat) + t * 10 / (8 * 65536) } }

/-- Drop stale launch-time heads that could otherwise start (R210); `t` more are looked at. -/
def State.ltStale (s : State) (p : Nat) : Nat → State
  | 0 => s
  | fuel + 1 =>
    match (s.egp p).lt with
    | [] => s
    | x :: r =>
      if ((s.fld (F.PRT_LT_STALE.NS p) * 2 ^ 16 : Nat) : Int) < diff48 (ns48 (s.now16 (s.portDomain p))) (x.fr.launch.getD 0) then
        ((s.setEgp p { s.egp p with lt := r }).copyDrop p x (Reg.PRT_EG_CNT p 5) Htx.STALE).ltStale p fuel
      else s

/-- Whether the chosen copy leaves: it is not dropped for its residence (R223). -/
def State.leaves (s : State) (p : Nat) (c : Copy) (dep : Time16) : Bool := (s.correct p c.fr (s.copyBytes p c) dep).1.isSome

/-- Whether a launch-time frame with departure error `e` is late (R210): beyond the larger maximum of Table 07.2 it is, within the smaller it is not, and
between them it depends on whether it lies in a codeword with alignment markers, which no state here holds: a free value (log entry 36). -/
def State.lateBy (s : State) (p : Nat) (e : Int) : State × Bool :=
  if (s.depError p).2 < (e : Rat) then (s, true)
  else if (e : Rat) ≤ (s.depError p).1 then (s, false)
  else (s.tookFree, s.freeVal % 2 == 1)

/-- A launch-time frame leaves with departure error `e`: it is counted as late or not (R210), and its class has started a frame. -/
def State.launchAt (s : State) (p : Nat) (x : Copy) (e : Int) (out : Time16) : State :=
  if !s.leaves p x out then s.transmit p x out
  else match s.lateBy p e with
    | (s1, late) => (((s1.countEv (Reg.PRT_EG_CNT p (if late then 3 else 2)) 0x204 p 1).wdStart p (s.ltClass p)).transmit p x out).wdWatch p

/-- The head `x` of class `c`, taken off its queue, starts: a shaped class is charged, unless the frame does not leave (R203, R223). -/
def State.startHead (s : State) (p c : Nat) (x : Copy) (out : Time16) : State :=
  if !s.leaves p x out then (s.cbsSettle p c).transmit p x out
  else (((s.cbsCharge p c (s.occupancy p (s.copyLen p x))).wdStart p c).transmit p x out).wdWatch p

/-- The scheduler of port `p` when its MAC can start a frame whose stamp point is line bit `dep` (R198). -/
def State.egressSelect (s : State) (p dep : Nat) : State :=
  let s0 := s.purgePort p (fun c => if s.doomed c.fr then some (Reg.PRT_FAB_CNT p 6) else none) Htx.EGRESS_DROP
  let lt := s0.ltClass p
  let out := s0.txStamp (s0.txLane p) dep
  let free := s0.gateOpen p lt && !s0.pausedCls p lt
  let s1 := if free then s0.ltStale p 1024 else s0
  let due := match (s1.egp p).lt with
    | [] => none
    | x :: _ => if free && decide (0 ≤ diff48 (ns48 out) (x.fr.launch.getD 0)) then some x else none
  match due with
  | some x =>
    let e := diff48 (ns48 out) (x.fr.launch.getD 0)
    let s2 := s1.setEgp p { s1.egp p with lt := (s1.egp p).lt.drop 1 }
    if x.fr.src = 0 ∧ 10240 < s1.copyLen p x then s2.copyDrop p x (Reg.PRT_EG_CNT p 15) Htx.EGRESS_DROP
    else s2.launchAt p x e out
  | none =>
    let s2 := (List.range 8).foldl (fun t c => (t.cbsAdvance p c).trimHead p c ((t.egp p).cls c).length) s1
    match [7, 6, 5, 4, 3, 2, 1, 0].find? fun c => s2.headQualifies p c with
    | none => s2
    | some c => match (s2.egp p).cls c with
      | [] => s2
      | x :: r => (s2.setEgp p ((s2.egp p).setCls c r)).startHead p c x out

/-- Whether the idle handshake of a trunk is through on this side, so that it starts no further frame (R118, R119). -/
def State.idling (s : State) (p : Nat) : Bool := (s.trunk p).idleTx && (s.trunk p).idleRx

/-- EGRESS_SELECT (R198). A port that is not UP, or about to enter electrical idle, starts no frame, and a due engine frame goes first (R266). -/
def execEgressSelect (p dep : Nat) (s : State) : Host.Outcome State Fault Refusal :=
  if 192 ≤ p then .fault .noSuchInstance
  else if s.portUsed p && s.oper p == Oper.UP && !s.idling p && !s.ttFirst p then
    .next (s.egressSelect p dep) else .next s

end Sys2Proof.Machine
end

