-- ==== Sys2Proof/Machine/TimeTransfer.lean ====
section
/-! DEFINITION. Timing engines (09_time_transfer.md): which messages an engine takes, what it sends, path delay and offsets, marker offsets of native
trunks, and the delivery of messages to the host receive ring (R388). -/

namespace Sys2Proof.Machine

/-! ## The host receive ring (R388) -/

/-- The header of a slot (Table 14.9). -/
def hrxHeader (p dom seq : Nat) (frame : List Byte) (stamp : Time16) : List Byte :=
  leBytes 2 frame.length ++ leBytes 1 p ++ leBytes 1 (b2n (decide (480 < frame.length)) + 128) ++ leBytes 4 seq ++ t96Bytes stamp ++
    leBytes 1 dom ++ List.replicate 11 0

/-- Deliver a message to the host receive ring; the frame bytes are written before the header. -/
def State.hrxDeliver (s : State) (p : Nat) (frame : List Byte) (stamp : Time16) : State :=
  let seq := s.host.hrxSeq
  let s0 := { s with host := { s.host with hrxSeq := (seq + 1) % 2 ^ 32 } }
  let head := s.fld F.DEV_HRX_HEAD.IDX
  let n := s.fld F.DEV_HRX_COUNT.N
  if s.fld F.DEV_HRX_CTRL.EN = 0 ∨ s.dmaOk = false ∨ n = 0 ∨ (head + 1) % n = s.fld F.DEV_HRX_TAIL.IDX then s0.count (Reg.DEV_HI_CNT 3)
  else
    let base := (s.rd Reg.DEV_HRX_BASE_LO).toNat + (s.rd Reg.DEV_HRX_BASE_HI).toNat * 2 ^ 32 + 512 * head
    let s1 := (s0.dmaWrite (base + 32) (frame.take 480) (min 480 frame.length)).dmaWrite base (hrxHeader p (s.portDomain p) seq frame stamp) 32
    let s2 := (s1.setFld F.DEV_HRX_HEAD.IDX ((head + 1) % n)).count (Reg.DEV_HI_CNT 2)
    (if 480 < frame.length then s2.count (Reg.DEV_HI_CNT 4) else s2).raiseCause Irq.HRX

/-- A message goes to the host (R262): it is counted, and carries its ingress stamp. -/
def State.ttToHost (s : State) (p : Nat) (frame : List Byte) (stamp : Time16) : State :=
  (s.count (Reg.PRT_TT_CNT p 14)).hrxDeliver p frame stamp

/-- A good frame of the line that is for the host passes its extents and goes to the receive ring, unless EMPTY dropped it (R168, R169). -/
def State.hostBound (s : State) (p : Nat) (frame : List Byte) (stamp : Time16) : State :=
  match s.passCells p frame.length with
  | (s1, true) => (s1.rxGood p frame.length).ttToHost p frame stamp
  | (s1, false) => s1.rxGood p frame.length

/-- PTP_TO_HOST (R262). -/
def execPtpToHost (p : Nat) (frame : List Byte) (t : LineStamp) (s : State) : Host.Outcome State Fault Refusal :=
  if 192 ≤ p then .fault .noSuchInstance
  else if s.receives p then .next (s.hostBound p frame (s.rxStamp p t)) else .next s

/-! ## Identities and messages -/

/-- The clockIdentity that two registers hold, first byte in bits 7 to 0 of the first. -/
def clockOf (w0 w1 : Nat) : Nat := beNat (leBytes 4 w0 ++ leBytes 4 w1)

def State.ttClock (s : State) (p : Nat) : Nat := clockOf (s.fld (F.PRT_TT_ID_0.CLKID_0 p)) (s.fld (F.PRT_TT_ID_1.CLKID_1 p))
def State.ttPortNum (s : State) (p : Nat) : Nat := s.fld (F.PRT_TT_ID_2.PORTNUM p)

/-- Whether a source is the selected master (R262). -/
def State.ttMaster (s : State) (p clock port : Nat) : Bool :=
  s.fld (F.PRT_TT_MID_2.ANY p) == 1 ||
    (clock == clockOf (s.fld (F.PRT_TT_MID_0.CLKID_0 p)) (s.fld (F.PRT_TT_MID_1.CLKID_1 p)) && port == s.fld (F.PRT_TT_MID_2.PORTNUM p))

/-- LOG_SYNC or LOG_DREQ as a signed number. -/
def log4 (v : Nat) : Int := signed 4 v

/-- The least length of each message type from its header on (IEEE 1588-2019, PRESUMED, log entry 11). -/
def ptpLen (kind : Nat) : Nat :=
  if kind = 0 ∨ kind = 1 ∨ kind = 8 then 44 else if kind = 2 ∨ kind = 3 ∨ kind = 9 ∨ kind = 0xA then 54
  else if kind = 0xB then 64 else if kind = 0xC then 44 else if kind = 0xD then 48 else 34

/-- The message whose PTP header lies at offset `o` of a frame (through its FCS). -/
def ptpMsg (bs : List Byte) (o : Nat) : PtpMsg :=
  let kind := beAt bs o 1 % 16
  let room := bs.length - 4 - o
  ⟨kind, beAt bs (o + 4) 1, beAt bs o 1 / 16, BitVec.ofNat 64 (beAt bs (o + 20) 8), beAt bs (o + 28) 2, beAt bs (o + 30) 2,
    bitAt (beAt bs (o + 6) 1) 1, signed 64 (beAt bs (o + 8) 8), beAt bs (o + 34) 6, beAt bs (o + 40) 4, BitVec.ofNat 64 (beAt bs (o + 44) 8),
    beAt bs (o + 52) 2, decide (room < ptpLen kind) || decide (beAt bs (o + 2) 2 < ptpLen kind), bs⟩

/-- Whether the domain fields of a message are the engine's (R262). -/
def State.ttOurs (s : State) (p domain major : Nat) : Bool :=
  domain == s.fld (F.PRT_TT_CFG.PTP_DOM p) && major == s.fld (F.PRT_TT_CFG.MAJ_SDO p)

/-- Whether the engine of port `p` takes a parsed frame, and the message (R262, R265). -/
def State.ttTakes (s : State) (p : Nat) (q : Parsed) (bs : List Byte) : Option PtpMsg :=
  match q.ptp with
  | none => none
  | some (o, tr) =>
    if s.ttWorks p && decide (tr ≤ 1) && decide (o + 5 ≤ bs.length - 4) && beAt bs (o + 1) 1 % 16 == 2 && q.vlan == s.defVlan p &&
        s.ttOurs p (beAt bs (o + 4) 1) (beAt bs o 1 / 16) then some (ptpMsg bs o)
    else none

/-! ## Frames that the engine sends (R263, R265) -/

/-- The ones' complement sum of 16-bit words, folded. -/
def ipSum : List Byte → Nat
  | a :: b :: r => let t := a.toNat * 256 + b.toNat + ipSum r; t % 65536 + t / 65536
  | [a] => a.toNat * 256
  | [] => 0

/-- The frame around a PTP message (R265): multicast MAC addresses, IPv4 fields that the spec does not name, and padding to 64 bytes are PRESUMED from
the standards (log entry 11). -/
def State.ttFrame (s : State) (p kind : Nat) (msg : List Byte) : List Byte :=
  let sa := leBytes 4 (s.fld (F.PRT_TT_SMAC_0.MAC_0 p)) ++ leBytes 2 (s.fld (F.PRT_TT_SMAC_1.MAC_1 p))
  let p2p := s.ttMech p == 1
  let body :=
    if s.fld (F.PRT_TT_CFG.ENCAP p) = 0 then
      (if p2p then beBytes 6 0x0180C200000E else beBytes 6 0x011B19000000) ++ sa ++ beBytes 2 0x88F7 ++ msg
    else
      let port := if kind ≤ 3 then 319 else 320
      let src := leBytes 4 (s.fld (F.PRT_TT_IP4.ADDR p))
      let dst := if p2p then beBytes 4 0xE000006B else beBytes 4 0xE0000181
      let head := beBytes 2 0x4500 ++ beBytes 2 (28 + msg.length) ++ beBytes 4 0 ++ beBytes 2 0x0111
      let ck := 65535 - ipSum (head ++ [0, 0] ++ src ++ dst)
      (if p2p then beBytes 6 0x01005E00006B else beBytes 6 0x01005E000181) ++ sa ++ beBytes 2 0x0800 ++ head ++ beBytes 2 ck ++ src ++ dst ++
        beBytes 2 port ++ beBytes 2 port ++ beBytes 2 (8 + msg.length) ++ [0, 0] ++ msg
  withFcs (body ++ List.replicate (60 - body.length) 0)

/-- A PTP message: header (R263) and body. controlField and the intervals of messages for which R265 gives none are PRESUMED (log entry 11). -/
def State.ttMsg (s : State) (p kind seq : Nat) (cf log : Int) (body : List Byte) : List Byte :=
  let flags := s.fld (F.PRT_TT_ID_2.FLAGS p)
  let two := kind == 0 || kind == 3
  let ctl := if kind = 0 then 0 else if kind = 1 then 1 else if kind = 8 then 2 else if kind = 9 then 3 else 5
  beBytes 1 (s.fld (F.PRT_TT_CFG.MAJ_SDO p) * 16 + kind) ++ beBytes 1 0x12 ++ beBytes 2 (34 + body.length) ++
    beBytes 1 (s.fld (F.PRT_TT_CFG.PTP_DOM p)) ++ [0] ++ leBytes 2 (setBit flags 1 two) ++ beBytes 8 (unsigned 64 cf) ++ beBytes 4 0 ++
    beBytes 8 (s.ttClock p) ++ beBytes 2 (s.ttPortNum p) ++ beBytes 2 seq ++ beBytes 1 ctl ++ beBytes 1 (unsigned 8 log) ++ body

/-- A timestamp of ten bytes: seconds and whole nanoseconds. -/
def ptpTime (t : Time16) : List Byte := beBytes 6 (t16Sec t) ++ beBytes 4 (t16Ns t)

/-- The Follow_Up information TLV of 802.1AS with all of its fields zero (R265). -/
def asTlv : List Byte := beBytes 2 3 ++ beBytes 2 28 ++ beBytes 3 0x0080C2 ++ beBytes 3 1 ++ List.replicate 22 0

/-- Queue an engine frame: a Sync goes ahead of a waiting request (R278); an idle trunk wakes (R119). -/
def State.ttQueue (s : State) (p : Nat) (o : TtOut) : State :=
  let e := s.ttEng p
  let q := if o.kind = 0 then
      e.queue.takeWhile (fun x => x.kind != 1 && x.kind != 2) ++ [o] ++ e.queue.dropWhile (fun x => x.kind != 1 && x.kind != 2)
    else e.queue ++ [o]
  (s.setTt p { e with queue := q }).trunkWake p

/-- Queue a message of a kind; it takes the next sequenceId of its kind. -/
def State.ttSendNew (s : State) (p kind : Nat) (log : Int) (body : List Byte) : State × Nat :=
  let e := s.ttEng p
  let seq := e.next.getD kind 0
  let s1 := s.setTt p { e with next := e.next.setD kind ((seq + 1) % 65536) 0 }
  (s1.ttQueue p ⟨kind, seq, 0, 0, s.ttFrame p kind (s.ttMsg p kind seq 0 log body)⟩, seq)

/-- I of R264 in ns: 10^9 × 2^LOG_SYNC. -/
def State.gridNs (s : State) (p : Nat) : Nat := 1000000000 / 2 ^ (-(log4 (s.fld (F.PRT_TT_CFG.LOG_SYNC p)))).toNat

/-- How far a time of the port's domain lies past the last grid point, in ns: its nanoseconds less g, modulo I (R264). -/
def State.gridPast (s : State) (p : Nat) (t : Time16) : Nat :=
  let i := s.gridNs p
  (t16Ns t + (i - p * 40000 % i)) % i

/-- The grid point that a time of the port's domain has reached, counted from second 0. -/
def State.gridPoint (s : State) (p : Nat) (t : Time16) : Nat := (t / 2 ^ 16 + (s.gridNs p - p * 40000 % s.gridNs p)) / s.gridNs p

/-- Whether a Sync may leave now: a grid point that the last Sync did not serve, and no Sync within I ÷ 2 before, which at 0.8 ns a cycle is
I × 5 ÷ 8 cycles (R264). -/
def State.gridDue (s : State) (p : Nat) : Bool :=
  match (s.ttEng p).grid with
  | none => true
  | some (g, c) => s.gridPoint p (s.now16 (s.portDomain p)) != g && decide (c + s.gridNs p * 5 / 8 ≤ s.cycle)

/-- Whether a frame of the port's engine is due or pending within 10 µs (R117): the next grid point of a MASTER, or the next request. -/
def State.ttSoon (s : State) (p : Nat) : Bool :=
  s.ttWorks p && s.ttHasId p &&
    ((s.ttRole p == TtRole.MASTER && decide (s.gridNs p ≤ s.gridPast p (s.now16 (s.portDomain p)) + 10000)) ||
      ((s.ttMech p == 1 || s.ttRole p == TtRole.SLAVE) && decide (s.cycle ≤ (s.ttEng p).reqAt) && decide ((s.ttEng p).reqAt ≤ s.cycle + 12500)))

/-- SYNC_GRID_DUE (R264): a MASTER queues a Sync. -/
def execSyncGridDue (p : Nat) (s : State) : Host.Outcome State Fault Refusal :=
  if 192 ≤ p then .fault .noSuchInstance
  else if s.ttWorks p && s.ttRole p == TtRole.MASTER && s.ttHasId p && s.gridDue p then
    let s1 := s.setTt p { s.ttEng p with grid := some (s.gridPoint p (s.now16 (s.portDomain p)), s.cycle) }
    .next (s1.ttSendNew p 0 (log4 (s.fld (F.PRT_TT_CFG.LOG_SYNC p))) (List.replicate 10 0)).1
  else .next s

/-- A request that has no answer is discarded and counted (R267). -/
def State.ttUnanswered (s : State) (p : Nat) : State :=
  let e := s.ttEng p
  match e.req with
  | none => s
  | some _ => ((s.setTt p { e with req := none }).count (Reg.PRT_TT_CNT p 6)).flag (F.PRT_TT_FLAGS.RESP_LOST p)

/-- The interval to the next request in core cycles, drawn from 0.5 to 1.5 times 2^LOG_DREQ s; the draw is a free value (log entry 3). -/
def State.reqCycles (s : State) (p : Nat) : Nat :=
  let d := log4 (s.fld (F.PRT_TT_CFG.LOG_DREQ p))
  let n := 1250000000 * 2 ^ d.toNat / 2 ^ (-d).toNat
  n / 2 + s.freeVal % n

/-- DELAY_REQ_DUE (R263): a Delay_Req of a SLAVE, or a Pdelay_Req; it abandons the one before it (R267). The interval to the next begins; its end
is the sender's (log entry 79). -/
def execDelayReqDue (p : Nat) (s : State) : Host.Outcome State Fault Refusal :=
  if 192 ≤ p then .fault .noSuchInstance
  else if s.ttWorks p && s.ttHasId p && (s.ttMech p == 1 || s.ttRole p == TtRole.SLAVE) then
    let kind := if s.ttMech p = 1 then 2 else 1
    match (s.ttUnanswered p).ttSendNew p kind 127 (List.replicate (if kind = 2 then 20 else 10) 0) with
    | (s1, seq) =>
      .next ((s1.tookFree).setTt p { s1.ttEng p with req := some ⟨kind, seq, none, none, none⟩, reqAt := s1.cycle + s1.reqCycles p })
  else .next s

/-- FOLLOW_UP_SEND (R265): the follow-up of the oldest message that has left is queued; an engine without identity sends nothing (R263). -/
def execFollowUpSend (p : Nat) (s : State) : Host.Outcome State Fault Refusal :=
  if 192 ≤ p then .fault .noSuchInstance
  else
    let e := s.ttEng p
    match e.fus with
    | [] => .next s
    | f :: r =>
      if !s.ttHasId p then .next s else
      let s1 := s.setTt p { e with fus := r }
      let cf : Int := t16Frac f.stamp
      if f.kind = 0 then
        let tlv := if s.ttMech p = 1 then asTlv else []
        let m := s.ttMsg p 8 f.seq cf (log4 (s.fld (F.PRT_TT_CFG.LOG_SYNC p))) (ptpTime f.stamp ++ tlv)
        .next (s1.ttQueue p ⟨8, f.seq, 0, 0, s.ttFrame p 8 m⟩)
      else
        let m := s.ttMsg p 0xA f.seq cf 127 (ptpTime f.stamp ++ beBytes 8 f.reqClock ++ beBytes 2 f.reqPort)
        .next (s1.ttQueue p ⟨0xA, f.seq, 0, 0, s.ttFrame p 0xA m⟩)

/-- The step count of the domain of port `p` (R273). -/
def State.ttSteps (s : State) (p : Nat) : Nat := s.stepCount (s.portDomain p)

/-- What the engine notes when its frame has left with stamp `out`. -/
def State.ttSent (s : State) (p : Nat) (o : TtOut) (out : Time16) : State :=
  let e := s.ttEng p
  if o.kind = 0 ∨ o.kind = 3 then s.setTt p { e with fus := e.fus ++ [⟨o.kind, o.seq, o.reqClock, o.reqPort, out⟩] }
  else if o.kind = 1 ∨ o.kind = 2 then
    match e.req with
    | none => s
    | some r => if r.kind = o.kind ∧ r.seq = o.seq then s.setTt p { e with req := some { r with sent := some (out, s.ttSteps p), sync := e.used } } else s
  else s

/-- The counter of an engine frame (Table 09.9). -/
def ttSentCnt (kind : Nat) : Nat := if kind = 0 then 0 else if kind = 8 then 1 else if kind = 1 ∨ kind = 2 then 2 else 3

/-- Send the oldest engine frame, if it may start (R266); `dep` is the line bit of its stamp point. -/
def State.ttSend (s : State) (p dep : Nat) : State :=
  let e := s.ttEng p
  match e.queue with
  | [] => s
  | o :: r =>
    if s.ttFirst p then
      let out := s.txStamp (s.txLane p) dep
      let s1 := ((s.setTt p { e with queue := r }).count (Reg.PRT_TT_CNT p (ttSentCnt o.kind))).emit (.frame p o.bytes out)
      (s1.txFrame p o.bytes).ttSent p o out
    else s

/-- ENGINE_FRAME_SEND (R266): a frame boundary of the port. -/
def execEngineFrameSend (p dep : Nat) (s : State) : Host.Outcome State Fault Refusal :=
  if 192 ≤ p then .fault .noSuchInstance
  else if s.ttWorks p && s.oper p == Oper.UP && !s.idling p then .next (s.ttSend p dep) else .next s

/-! ## Path delay (R269) -/

/-- D, in 2^-16 ns. -/
def State.ttD (s : State) (p : Nat) : Int :=
  signed 64 ((s.rd (Reg.PRT_TT_DELAY_LO p)).toNat + (s.rd (Reg.PRT_TT_DELAY_HI p)).toNat * 2 ^ 32)

/-- The delay history is cleared; no accepted result is held (R269). -/
def State.ttClearHist (s : State) (p : Nat) : State :=
  ((s.setTt p { s.ttEng p with hist := [], rejects := 0 }).setFld (F.PRT_TT_STATUS.NHIST p) 0).setFld (F.PRT_TT_STATUS.DLY_VALID p) 0

/-- The mean of a history. -/
def ttMean (h : List Rat) : Rat := h.sum / (h.length : Rat)

/-- A path-delay result is accepted or rejected (R269). The rounding of D is open (log entry 3). -/
def State.ttResult (s : State) (p : Nat) (r : Rat) : State :=
  let e := s.ttEng p
  if e.hist.length = 16 ∧ (100 * 2 ^ 16 : Nat) < |r - ttMean e.hist| then
    let s1 := (s.count (Reg.PRT_TT_CNT p 8)).flag (F.PRT_TT_FLAGS.OUTLIER p)
    if 15 ≤ e.rejects then s1.ttClearHist p else s1.setTt p { e with rejects := e.rejects + 1 }
  else
    let h := (r :: e.hist).take 16
    let s1 := ((s.setTt p { e with hist := h, rejects := 0 }).count (Reg.PRT_TT_CNT p 7)).setFld (F.PRT_TT_STATUS.DLY_VALID p) 1
    let s2 := (s1.setFld (F.PRT_TT_STATUS.NHIST p) h.length).setPair (Reg.PRT_TT_DELAY_LO p) (Reg.PRT_TT_DELAY_HI p) (s.roundOpen (ttMean h))
    s2.tookFree

/-- DLY_VALID_EXPIRY (R269). -/
def execDlyValidExpiry (p : Nat) (s : State) : Host.Outcome State Fault Refusal :=
  if 192 ≤ p then .fault .noSuchInstance else .next (s.setFld (F.PRT_TT_STATUS.DLY_VALID p) 0)

/-! ## Offsets (R267, R272, R273) -/

/-- An offset or a window that is not pushed (Table 09.9, row 10). -/
def State.ttNotPushed (s : State) (p : Nat) : State := s.count (Reg.PRT_TT_CNT p 10)

/-- An entry for the feed of the port's domain, in 2^-16 ns (R273). -/
def State.ttPush (s : State) (p : Nat) (o : Int) : State :=
  let d := s.portDomain p
  if s.ttRole p ≠ TtRole.SLAVE ∨ s.isFree d = false then s
  else if s.fld (F.KT_OFS_CREDIT.ENGINE d) = 0 ∨ s.fld (F.KT_OFS_CREDIT.RECALLED d) = 1 then (s.ttNotPushed p).engineFeedPush d o
  else if oneSec16 ≤ o.natAbs then
    if s.mode = Mode.STEEP then
      let k := -(roundDiv o oneSec16)
      (((s.ttNotPushed p).flag (F.PRT_TT_FLAGS.STEPPED p)).stepDomain d fun _ => k * (secUnits : Int)).noteStep d 1 (k * (oneSec16 : Int))
    else ((s.ttNotPushed p).flag (F.PRT_TT_FLAGS.RANGE p)).spoutEvent Sp.TT_RANGE p 0 (dataOf o)
  else (s.count (Reg.PRT_TT_CNT p 9)).engineFeedPush d o

/-- An offset is formed: it is the reference of R271, and PRT_TT_OFS shows it. -/
def State.ttNote (s : State) (p : Nat) (o : Int) : State :=
  (s.setTt p { s.ttEng p with ref := some (o, s.cycle) }).setPair (Reg.PRT_TT_OFS_LO p) (Reg.PRT_TT_OFS_HI p) o

/-- The window with one more member whose step count is `k`. -/
def TtWin.join (w : TtWin) (k : Nat) : TtWin :=
  if w.mCnt + w.sCnt = 0 then { w with steps := k } else if w.steps = k then w else { w with split := true }

/-- A Sync offset: an entry at once on a standard port, a member of the window on a trunk (R272). -/
def State.ttSyncOfs (s : State) (p : Nat) (o : Int) : State :=
  let s1 := s.ttNote p o
  if s.isTrunk p then
    let e := s1.ttEng p
    let w := e.win.join (s.ttSteps p)
    s1.setTt p { e with win := { w with sSum := w.sSum + o, sCnt := w.sCnt + 1 } }
  else (s1.setFld (F.PRT_TT_STATUS.SRC p) 1).ttPush p o

/-- A Sync of the selected master with its t1 is used (R267). A step between its stamp and now discards it (Table 09.8). -/
def State.ttUseSync (s : State) (p : Nat) (t1 : Int) (t2 : Time16) (steps : Nat) : State :=
  if steps ≠ s.ttSteps p then s.ttNotPushed p
  else
    let s1 := (s.setTt p { s.ttEng p with used := some (t1, t2, steps) }).count (Reg.PRT_TT_CNT p 4)
    if s.fld (F.PRT_TT_STATUS.DLY_VALID p) = 0 then s1
    else
      let c : Rat := (signed 32 (s.fld (F.PRT_TT_ASYM.COEF p)) : Rat) / 2 ^ 32
      let o := (subT16 t2 (t1 % (t16Mod : Int)).toNat : Rat) - (s.ttD p : Rat) * (1 + c)
      (s1.tookFree).ttSyncOfs p (s.roundOpen o)

/-- The waiting Sync is discarded for want of its Follow_Up (R267). -/
def State.ttSyncLost (s : State) (p : Nat) : State :=
  let e := s.ttEng p
  match e.sync with
  | none => s
  | some _ => ((s.setTt p { e with sync := none }).count (Reg.PRT_TT_CNT p 5)).flag (F.PRT_TT_FLAGS.FU_LOST p)

/-- A message's timestamp as 2^-16 ns. -/
def ptpTs (m : PtpMsg) : Int := ((m.tsSec * 1000000000 + m.tsNs) * 2 ^ 16 : Nat)

/-- Sync on a SLAVE port (R267). -/
def State.ttSync (s : State) (p : Nat) (m : PtpMsg) (t2 : Time16) : State :=
  let s1 := s.ttSyncLost p
  if m.twoStep then s1.setTt p { s1.ttEng p with sync := some ⟨m.srcClock.toNat, m.srcPort, m.seq, t2, m.cf, s.ttSteps p⟩ }
  else s1.ttUseSync p (ptpTs m + m.cf) t2 (s.ttSteps p)

/-- Follow_Up on a SLAVE port: used with its Sync; one that belongs to no waiting Sync has no use. -/
def State.ttFollowUp (s : State) (p : Nat) (m : PtpMsg) : State :=
  let e := s.ttEng p
  match e.sync with
  | none => s
  | some y =>
    if y.clock = m.srcClock.toNat ∧ y.port = m.srcPort ∧ y.seq = m.seq then
      (s.setTt p { e with sync := none }).ttUseSync p (ptpTs m + y.cf + m.cf) y.t2 y.steps
    else s

/-- Whether a response answers the engine's own latest request of a kind, and has its stamp. -/
def State.ttAnswers (s : State) (p kind : Nat) (m : PtpMsg) : Option (TtReq × Time16 × Nat) :=
  match (s.ttEng p).req with
  | none => none
  | some r =>
    if r.kind = kind ∧ r.seq = m.seq ∧ m.reqClock.toNat = s.ttClock p ∧ m.reqPort = s.ttPortNum p then r.sent.map fun x => (r, x.1, x.2)
    else none

/-- Delay_Resp to the latest Delay_Req (R267). -/
def State.ttDelayResp (s : State) (p : Nat) (m : PtpMsg) (r : TtReq) (t3 : Time16) (k3 : Nat) : State :=
  let s1 := s.setTt p { s.ttEng p with req := none }
  match r.sync with
  | none => s1
  | some (t1, t2, k2) =>
    if k2 ≠ k3 then s1.ttNotPushed p
    else
      let t4 := ((ptpTs m - m.cf) % (t16Mod : Int)).toNat
      s1.ttResult p (((subT16 t2 (t1 % (t16Mod : Int)).toNat + subT16 t4 t3 : Int) : Rat) / 2)

/-- Pdelay_Resp to the latest Pdelay_Req (R268). With R265 the responder's receipt time is requestReceiptTimestamp less correctionField. -/
def State.ttPdelayResp (s : State) (p : Nat) (m : PtpMsg) (r : TtReq) (t4 : Time16) : State :=
  s.setTt p { s.ttEng p with req := some { r with resp := some (ptpTs m - m.cf, t4) } }

/-- NRR with the responder time and the arrival of the present exchange (R268); equal arrivals leave it open (log entry 3). -/
def State.ttNrr (s : State) (p : Nat) (t3 : Int) (t4 : Time16) : Rat :=
  match (s.ttEng p).exch[7]? with
  | none => 1
  | some (t3', t4') => if subT16 t4 t4' = 0 then (s.freeVal : Rat) else ((t3 - t3' : Int) : Rat) / (subT16 t4 t4' : Rat)

/-- Pdelay_Resp_Follow_Up completes a peer-delay exchange (R268). -/
def State.ttPdelayFu (s : State) (p : Nat) (m : PtpMsg) (r : TtReq) (t1 : Time16) (k1 : Nat) : State :=
  match r.resp with
  | none => s
  | some (t2, t4) =>
    let s0 := s.setTt p { s.ttEng p with req := none }
    if k1 ≠ s.ttSteps p then s0.ttNotPushed p
    else
      let t3 := ptpTs m + m.cf
      let nrr := s.ttNrr p t3 t4
      let s1 := (s0.tookFree).setTt p { s0.ttEng p with exch := ((t3, t4) :: (s0.ttEng p).exch).take 8 }
      let s2 := (s1.tookFree).setFld (F.PRT_TT_NRR.NRR p) (unsigned 32 (s1.roundOpen ((nrr - 1) * 2 ^ 40)))
      s2.ttResult p (((subT16 t4 t1 : Rat) * nrr - ((t3 - t2 : Int) : Rat)) / 2)

/-- Delay_Resp in answer to a Delay_Req with ingress stamp `t4` (R265). -/
def State.ttAnswerDelay (s : State) (p : Nat) (m : PtpMsg) (t4 : Time16) : State :=
  if s.ttHasId p then
    let body := ptpTime t4 ++ beBytes 8 m.srcClock.toNat ++ beBytes 2 m.srcPort
    let msg := s.ttMsg p 9 m.seq (m.cf - (t16Frac t4 : Int)) (log4 (s.fld (F.PRT_TT_CFG.LOG_DREQ p))) body
    s.ttQueue p ⟨9, m.seq, 0, 0, s.ttFrame p 9 msg⟩
  else s

/-- Pdelay_Resp in answer to a Pdelay_Req with ingress stamp `t2` (R265); its follow-up repeats the requester. -/
def State.ttAnswerPdelay (s : State) (p : Nat) (m : PtpMsg) (t2 : Time16) : State :=
  if s.ttHasId p then
    let body := List.replicate 10 0 ++ beBytes 8 m.srcClock.toNat ++ beBytes 2 m.srcPort
    let msg := s.ttMsg p 3 m.seq (-(t16Frac t2 : Int)) 127 body
    s.ttQueue p ⟨3, m.seq, m.srcClock.toNat, m.srcPort, s.ttFrame p 3 msg⟩
  else s

/-- A taken message (Table 09.2). -/
def State.ttMessage (s : State) (p : Nat) (m : PtpMsg) (t : Time16) : State :=
  let role := s.ttRole p
  let p2p := s.ttMech p == 1
  let slave := role == TtRole.SLAVE
  if m.short then s.count (Reg.PRT_TT_CNT p 15)
  else if m.kind = 0 ∧ slave = true ∧ s.ttMaster p m.srcClock.toNat m.srcPort = true then s.ttSync p m t
  else if m.kind = 8 ∧ slave = true then s.ttFollowUp p m
  else if m.kind = 1 ∧ role = TtRole.MASTER ∧ p2p = false then s.ttAnswerDelay p m t
  else if m.kind = 2 ∧ p2p = true then s.ttAnswerPdelay p m t
  else if m.kind = 3 ∧ p2p = true then
    match s.ttAnswers p 2 m with
    | some (r, _, _) => s.ttPdelayResp p m r t
    | none => s
  else if m.kind = 0xA ∧ p2p = true then
    match s.ttAnswers p 2 m with
    | some (r, t1, k1) => s.ttPdelayFu p m r t1 k1
    | none => s
  else if m.kind = 9 ∧ slave = true ∧ p2p = false then
    match s.ttAnswers p 1 m with
    | some (r, t3, k3) => s.ttDelayResp p m r t3 k3
    | none => s.ttToHost p m.frame t
  else s.ttToHost p m.frame t

/-- A received PTP message of a kind, where the engine takes it (R262). A message that is not taken comes as INGRESS_FRAME. -/
def State.ttReceived (s : State) (p kind : Nat) (m : PtpMsg) (t : LineStamp) : State :=
  if s.ttWorks p && s.ttOurs p m.domain m.major then
    match s.passCells p m.frame.length with
    | (s1, true) => (s1.rxGood p m.frame.length).ttMessage p { m with kind := kind } (s.rxStamp p t)
    | (s1, false) => s1.rxGood p m.frame.length
  else s

/-- SYNC_RECEIVED (R267). -/
def execSyncReceived (p : Nat) (m : PtpMsg) (t : LineStamp) (s : State) : Host.Outcome State Fault Refusal :=
  if 192 ≤ p then .fault .noSuchInstance else .next (s.ttReceived p 0 m t)

/-- FOLLOW_UP_RECEIVED (R267). -/
def execFollowUpReceived (p : Nat) (m : PtpMsg) (t : LineStamp) (s : State) : Host.Outcome State Fault Refusal :=
  if 192 ≤ p then .fault .noSuchInstance else .next (s.ttReceived p 8 m t)

/-- DELAY_REQ_RECEIVED (R265). -/
def execDelayReqReceived (p : Nat) (m : PtpMsg) (t : LineStamp) (s : State) : Host.Outcome State Fault Refusal :=
  if 192 ≤ p then .fault .noSuchInstance else .next (s.ttReceived p 1 m t)

/-- DELAY_RESP_RECEIVED (R267). -/
def execDelayRespReceived (p : Nat) (m : PtpMsg) (t : LineStamp) (s : State) : Host.Outcome State Fault Refusal :=
  if 192 ≤ p then .fault .noSuchInstance else .next (s.ttReceived p 9 m t)

/-- PDELAY_REQ_RECEIVED (R263). -/
def execPdelayReqReceived (p : Nat) (m : PtpMsg) (t : LineStamp) (s : State) : Host.Outcome State Fault Refusal :=
  if 192 ≤ p then .fault .noSuchInstance else .next (s.ttReceived p 2 m t)

/-- PDELAY_RESP_RECEIVED (R268). -/
def execPdelayRespReceived (p : Nat) (m : PtpMsg) (t : LineStamp) (s : State) : Host.Outcome State Fault Refusal :=
  if 192 ≤ p then .fault .noSuchInstance else .next (s.ttReceived p 3 m t)

/-- PDELAY_RESP_FU_RECEIVED (R268). -/
def execPdelayRespFuReceived (p : Nat) (m : PtpMsg) (t : LineStamp) (s : State) : Host.Outcome State Fault Refusal :=
  if 192 ≤ p then .fault .noSuchInstance else .next (s.ttReceived p 0xA m t)

/-- FOLLOW_UP_TIMEOUT (R267). -/
def execFollowUpTimeout (p : Nat) (s : State) : Host.Outcome State Fault Refusal :=
  if 192 ≤ p then .fault .noSuchInstance else .next (s.ttSyncLost p)

/-- DELAY_RESP_TIMEOUT (R267). -/
def execDelayRespTimeout (p : Nat) (s : State) : Host.Outcome State Fault Refusal :=
  if 192 ≤ p then .fault .noSuchInstance else .next (s.ttUnanswered p)

/-! ## Native trunks (R271, R272) -/

/-- Candidate `i` of the unwrapping: its e and d, where it is acceptable. -/
def unwrapCand (w : Nat) (e : Int) : Option (Int × Int) :=
  let d := signed 24 (((w : Int) - e) % 2 ^ 24).toNat
  let n := e + d
  if 0 ≤ n ∧ n < 256000000000 ∧ d.natAbs ≤ 4194304 then some (e, d) else none

/-- The departure time of a marker with phase word `w` estimated to have left at `est`; none where no candidate is acceptable (R271). -/
def unwrap (w : Nat) (est : Time16) : Option Time16 :=
  let e0 : Int := ((t16Ns est * 256 + t16Frac est / 256 : Nat) : Int)
  let pick : Option (Nat × Int × Int) → Nat → Int → Option (Nat × Int × Int) := fun b i e =>
    match unwrapCand w e, b with
    | none, _ => b
    | some (x, d), none => some (i, x, d)
    | some (x, d), some (j, y, c) => if d.natAbs < c.natAbs then some (i, x, d) else some (j, y, c)
  let best := pick (pick (pick none 0 e0) 1 (e0 - 256000000000)) 2 (e0 + 256000000000)
  match best with
  | none => none
  | some (i, e, d) =>
    let sec : Int := (t16Sec est : Int) + (if i = 1 then 1 else 0) - (if i = 2 then 1 else 0)
    some ((sec * (oneSec16 : Int) + (e + d) * 256 + 128) % (t16Mod : Int)).toNat

/-- Whether a marker of a trunk SLAVE can be used: its port has a valid delay, and its last offset, formed at cycle `cyc`, is at most 1 s old
(R271). -/
def State.ttMarkerOk (s : State) (p cyc : Nat) : Bool :=
  s.ttWorks p && s.isTrunk p && s.ttRole p == TtRole.SLAVE && s.fld (F.PRT_TT_STATUS.DLY_VALID p) == 1 && decide (s.cycle ≤ cyc + 1250000000)

/-- A marker offset joins the window. -/
def State.ttMarkerUse (s : State) (p : Nat) (o : Int) : State :=
  let s1 := s.ttNote p o
  let e := s1.ttEng p
  let w1 := e.win.join (s.ttSteps p)
  s1.setTt p { e with win := { w1 with mSum := w1.mSum + o, mCnt := w1.mCnt + 1 } }

/-- A DATA marker with a valid phase word `w` arrives on a SLAVE trunk with stamp `a` (R271). -/
def State.ttMarker (s : State) (p w : Nat) (a : Time16) : State :=
  match (s.ttEng p).ref with
  | none => s
  | some (oref, cyc) =>
    if s.ttMarkerOk p cyc then
      let d := s.ttD p
      let dms := d + (d * signed 32 (s.fld (F.PRT_TT_ASYM.COEF p))) / 2 ^ 32
      match unwrap w (addT16 a (-(dms + oref))) with
      | none => (s.count (Reg.PRT_TT_CNT p 13)).flag (F.PRT_TT_FLAGS.UNWRAP p)
      | some dep => s.ttMarkerUse p (subT16 a dep - dms)
    else s

/-- The window of a SLAVE trunk closes (R272, R273). The rounding of the mean of Sync offsets is open (log entry 3). -/
def State.ttClose (s : State) (p : Nat) : State :=
  let w := (s.ttEng p).win
  let s0 := s.setTt p { s.ttEng p with win := TtWin.fresh }
  if w.split || (decide (0 < w.mCnt + w.sCnt) && w.steps != s.ttSteps p) then s0.ttNotPushed p
  else if 64 ≤ w.mCnt then
    let s1 := (s0.setFld (F.PRT_TT_STATUS.SRC p) 2).setFld (F.PRT_TT_STATUS.PHV_OK p) 1
    (s1.countN (Reg.PRT_TT_CNT p 11) w.mCnt).ttPush p (Int.tdiv w.mSum w.mCnt)
  else
    let s1 := (s0.setFld (F.PRT_TT_STATUS.PHV_OK p) 0).count (Reg.PRT_TT_CNT p 12)
    if w.sCnt = 0 then s1.setFld (F.PRT_TT_STATUS.SRC p) 0
    else ((s1.tookFree).setFld (F.PRT_TT_STATUS.SRC p) 1).ttPush p (s.roundOpen ((w.sSum : Rat) / (w.sCnt : Rat)))

/-- OFFSET_WINDOW_CLOSE (R272). -/
def execOffsetWindowClose (p : Nat) (s : State) : Host.Outcome State Fault Refusal :=
  if 192 ≤ p then .fault .noSuchInstance
  else if s.ttWorks p && s.isTrunk p && s.ttRole p == TtRole.SLAVE then .next (s.ttClose p) else .next s

/-! ## Events that end exchanges (R269, R278) -/

/-- Exchanges are abandoned and the frames of them that wait are discarded. -/
def State.ttAbandon (s : State) (p : Nat) : State :=
  s.setTt p { s.ttEng p with queue := [], fus := [], sync := none, used := none, req := none }

/-- The port leaves UP or IDLE (R278). -/
def State.ttPortDown (s : State) (p : Nat) : State :=
  let s1 := s.ttAbandon p
  (s1.setTt p { s1.ttEng p with win := TtWin.fresh, ref := none, exch := [] }).ttClearHist p

/-- The trunk of the port changes step (R269, R278): the history is cleared, and the markers of the old step in the open window are discarded. -/
def State.ttStepChange (s : State) (p : Nat) : State :=
  let e := s.ttEng p
  (s.setTt p { e with win := { e.win with mSum := 0, mCnt := 0 } }).ttClearHist p

/-- The stamp queue of a native trunk's first lane belongs to the engine of a SLAVE port (R293). -/
def State.ttConsumer (s : State) (p : Nat) : State :=
  if s.isTrunk p && s.ttRole p == TtRole.SLAVE then s.engineTakes p else s.engineLeaves p

/-! ## Host writes (R269, R279) -/

/-- A write of a calibration register of class 16 (R274, R275); `trim` clears the history. -/
def State.ttCalWrite (s : State) (a : Acc) (p ofs v : Nat) (trim : Bool) : State :=
  s.portGuard a p [(!s.isMutable 16, Err.NOT_PERMITTED)] fun t =>
    let t1 := t.wr ofs (BitVec.ofNat 64 v)
    if trim then t1.ttClearHist p else t1

/-- TRIM_WRITE (R269). -/
def execTrimWrite (p : Nat) (rx : Bool) (v : BitVec 32) (s : State) : Host.Outcome State Fault Refusal :=
  let ofs := if rx then Reg.PRT_TT_TRIM_RX p else Reg.PRT_TT_TRIM_TX p
  if 192 ≤ p then .fault .noSuchInstance else .next (s.ttCalWrite (Acc.prt p ofs) p ofs v.toNat true)

/-- Whether another port of a domain is SLAVE. -/
def State.otherSlave (s : State) (p : Nat) : Bool :=
  s.ports.any fun q => q != p && s.ttRole q == TtRole.SLAVE && s.portDomain q == s.portDomain p

/-- A write of PRT_TT_CFG (R279); PRT_TT_NRR reads 0 with MECH = 0. -/
def State.ttCfgWrite (s : State) (a : Acc) (p v : Nat) : State :=
  let old := s.ttRole p
  let new := v % 4
  let d := s.portDomain p
  let turns := decide (old ≠ new) && (old == TtRole.SLAVE || new == TtRole.SLAVE)
  let ls := log4 (v / 2 ^ 4)
  let ld := log4 (v / 2 ^ 8)
  s.portGuard a p [(!s.isMutable 15, Err.NOT_PERMITTED),
      (turns && s.isFree d && !(s.fld (F.KT_OFS_CREDIT.RECALLED d) == 1 && s.fld (F.KT_OFS_CREDIT.ENGINE d) == 0), Err.BUSY),
      (decide (2 ^ 27 ≤ v), Err.RESERVED_FIELD),
      (decide (ls < -7) || decide (0 < ls) || decide (ld < -7) || decide (4 < ld) ||
        (new == TtRole.SLAVE && (s.otherSlave p || s.isDerived d)), Err.ILLEGAL_VALUE)] fun t =>
    let t0 := t.setFld ⟨Reg.PRT_TT_CFG p, 23, 0⟩ v
    let t1 := if bitAt v 2 then t0 else t0.setFld (F.PRT_TT_NRR.NRR p) 0
    if old = new then t1
    else
      let t2 := (t1.ttAbandon p).ttConsumer p
      if new = TtRole.SLAVE then (t2.setFld (F.KT_DOM_CFG.SLAVE_PORT d) p).pairsForm
      else if old = TtRole.SLAVE then (t2.setFld (F.KT_DOM_CFG.SLAVE_PORT d) 0xFF).pairsForm
      else t2

/-- TT_ROLE_WRITE (R279). -/
def execTtRoleWrite (p : Nat) (v : BitVec 32) (s : State) : Host.Outcome State Fault Refusal :=
  if 192 ≤ p then .fault .noSuchInstance else .next (s.ttCfgWrite (Acc.prt p (Reg.PRT_TT_CFG p)) p v.toNat)

/-- A write of a class 15 register of port `p`; `bad` names the broken rules. NO_ID follows the identity. -/
def State.ttIdWrite (s : State) (a : Acc) (p ofs v : Nat) (bad : List (Bool × Nat)) : State :=
  s.portGuard a p ((!s.isMutable 15, Err.NOT_PERMITTED) :: bad) fun t =>
    let t1 := t.wr ofs (BitVec.ofNat 64 v)
    t1.setFld (F.PRT_TT_STATUS.NO_ID p) (b2n (!t1.ttHasId p))

end Sys2Proof.Machine
end

