-- ==== Sys2Proof/Machine/Ingress.lean ====
section
/-! DEFINITION. The ingress pipeline (05_ingress_and_tables.md, R124 to R140): reception, the forwarding decision, and VOQ entry. -/

namespace Sys2Proof.Machine

/-! ## Rule actions and stream entries -/

/-- Fields of a rule action (Table 05.6), by its bit in the action word. -/
def ruleAct (v : Nat) : Nat := nbits v 511 448

/-- What the tables make of a frame at step 3 and 4 (Table 05.3): rule action, stream index and entry, class, destination set, and how it came about. -/
structure Decision where
  act : Nat
  stream : Option Nat
  entry : Nat
  cls : Nat
  flood : Bool
  group : Bool
  empty : Bool
  ports : List Nat
  deriving DecidableEq, Repr

/-- The stream of a frame (Table 05.3, order 2): a rule that names one decides, VALID or not. -/
def State.streamOf (s : State) (i act : Nat) (q : Parsed) : Option Nat :=
  if bitAt act 18 then
    let n := nbits act 35 19
    if strValid (s.streamEntry i n) then some n else none
  else match s.streamProbe i 0 (fdbKey q.vlan q.da) with
    | some n => some n
    | none => s.streamProbe i 1 (fdbKey q.vlan q.sa)

/-- The ports of the GROUP record at index `n`; none where there is no such record (R131). -/
def State.groupAt (s : State) (i n : Nat) : List Nat :=
  let v := s.clsRecord i n
  if clsType v = 3 then groupPorts v else []

/-- The implicit set of a VLAN (R128). -/
def State.vlanSet (s : State) (vlan : Nat) : List Nat := s.ports.filter fun p => s.defVlan p == vlan

/-- The decision of a frame that arrived on port `p` (R127 to R129). -/
def State.decideFrame (s : State) (i p : Nat) (q : Parsed) : Decision :=
  let act := match s.clsMatch i (q.keyL2 p) (q.keyL3 p) with | some v => ruleAct v | none => 0
  let st := s.streamOf i act q
  let e := match st with | some n => s.streamEntry i n | none => 0
  let cls := if bitAt e 103 then nbits e 102 100 else if bitAt act 2 then nbits act 5 3 else q.pcp
  let hit := ((s.slice i).fdbFind (s.fdbLg i) (fdbKey q.vlan q.da)).bind (s.slice i).fdb.get?
  match hit with
  | some x =>
    if x.group then
      let all := s.groupAt i x.dest
      ⟨act, st, e, cls, false, true, all.isEmpty, all.filter (· != p)⟩
    else ⟨act, st, e, cls, false, false, false, if x.dest = p then [] else [x.dest]⟩
  | none =>
    if bitAt act 6 then
      let all := s.groupAt i (nbits act 17 7)
      ⟨act, st, e, cls, true, true, all.isEmpty, all.filter (· != p)⟩
    else ⟨act, st, e, cls, true, true, false, (s.vlanSet q.vlan).filter (· != p)⟩

/-- Steps 2 to 4 of Table 05.1: the rule's Caddy triggers, the source lookup's hit mark (R149) and the performance events. -/
def State.lookups (s : State) (i p : Nat) (q : Parsed) : State :=
  let rule := s.clsMatch i (q.keyL2 p) (q.keyL3 p)
  let act := match rule with | some v => ruleAct v | none => 0
  let t := s.slice i
  let lg := s.fdbLg i
  let s1 := match t.fdbFind lg (fdbKey q.vlan q.sa) with | some n => s.setSlice i (t.hit n) | none => s
  let s2 := (s1.pfEvent 0x100 i 1).pfEvent 0x103 i (b2n rule.isSome)
  let s3 := s2.pfEvent 0x101 i (b2n (t.fdbFind lg (fdbKey q.vlan q.da)).isNone)
  if nbits act 43 36 = 0 then s3
  else s3.offerTrigger (fun u n => bitAt act (36 + n) && u.fld (F.CD_RING_TRIG_SRC.CLS n) == 1) 3 i

/-- Ingress learning at step 5 (R150). -/
def State.ingressLearn (s : State) (i p : Nat) (q : Parsed) (act : Nat) : State :=
  if s.fld (F.SLC_LEARN.ING i) = 1 ∧ bitAt act 1 = false ∧ isGroup q.sa = false ∧ q.sa ≠ 0 ∧ s.learns i = true then
    let k := fdbKey q.vlan q.sa
    match ((s.slice i).fdbFind (s.fdbLg i) k).bind (s.slice i).fdb.get? with
    | none => s.learnRequest i k p
    | some e => if e.isStatic || (!e.group && e.dest == p) then s else s.learnRequest i k p
  else s

/-- Offer the frame to the rings that its stream selects, lowest first, while `slots` are left (R332, R333). -/
def State.offerRings (s : State) (i sel : Nat) (x : CdRecord) (slots : Nat) : State :=
  ((List.range 8).foldl (fun (a : State × Nat) n =>
    if bitAt sel n && a.1.fld (F.CD_RING_CFG.SEL_EN n) == 1 then
      let t := a.1.offerRecord i n { x with domain := s.portDomain x.port } (decide (0 < a.2))
      (t, if t.staged i = a.1.staged i then a.2 else a.2 - 1)
    else a) (s, slots)).1

/-- The fixed-latency launch time of a frame (R213), as NS32 with its fraction. -/
def State.flatLaunch (s : State) (i e : Nat) (stamp : Time16) : Option Nat :=
  let k := nbits e 89 82
  if k ≠ 0 ∧ s.fld (F.SLC_FLAT.EN i k) = 1 then some ((ns48 stamp + s.fld (F.SLC_FLAT.LAT_NS i k) * 2 ^ 16) % 2 ^ 48) else none

/-- A frame goes into the queues of its egress ports (R84, R97): a group's copies for ports of slices without power are counted as
discarded, and a frame with no copy left frees its buffer. -/
def State.forwardTo (s : State) (i : Nat) (d : Decision) (f : Frame) (hs : List Nat) : State :=
  if d.group then
    let lit := d.ports.filter fun n => s.powered (sliceOf n)
    let s5 := s.countN (Reg.SLC_CNT i 14) (d.ports.length - lit.length)
    if lit.isEmpty then s5.cutFrame i hs else s5.enqueueMulti i f lit
  else s.enqueue i f (d.ports.headD 0)

/-- Step 5 of Table 05.1 for a good frame with extents `hs`. A flood set that is left empty counts as R129 says, and not as a flooded frame (log entry
86). -/
def State.forward (s : State) (i p : Nat) (bs : List Byte) (q : Parsed) (d : Decision) (stamp : Time16) (slots : Nat) (hs : List Nat) : State :=
  let s0 := if d.stream.isNone then s.count (Reg.SLC_CNT i 15) else s
  if bitAt d.act 0 then (s0.count (Reg.SLC_CNT i 11)).cutFrame i hs
  else
    let pol := if d.stream.isSome && nbits d.entry 73 64 != 1023 then s0.police i (nbits d.entry 73 64) bs.length q.pcp else (s0, false, false)
    if pol.2.1 then (pol.1.count (Reg.SLC_CNT i 12)).cutFrame i hs
    else
      let s1 := pol.1.ingressLearn i p q d.act
      let s2 := if d.stream.isSome && nbits d.entry 81 74 != 0 then
          s1.offerRings i (nbits d.entry 81 74) ⟨p, 0, false, d.stream.getD 0, 0, stamp, 0, bs, false, false⟩ slots
        else s1
      if d.empty then (s2.count (Reg.SLC_CNT i 11)).cutFrame i hs
      else if d.ports.isEmpty then (s2.count (Reg.SLC_CNT i 10)).cutFrame i hs
      else
        let s3 := if d.flood then s2.count (Reg.SLC_CNT i 9) else s2
        let f : Frame :=
          ⟨s3.uid, 0, 0, bs, p, i, d.cls, q.dei || pol.2.2, q.vlan, q.pcp, q.tagged, d.stream,
            (match d.stream with | some n => n | none => q.flow), s.fld (F.SLC_TBL_VER.VER i), stamp, s3.flatLaunch i d.entry stamp, 0, 0, hs⟩
        State.forwardTo { s3 with uid := s3.uid + 1 } i d f hs

/-! ## Reception -/

/-- Whether a discard is one of CALM (R40): no request that resumes is in progress. -/
def State.calmDiscards (s : State) : Bool :=
  s.mode == Mode.CALM && !(s.trans && (s.fld F.DEV_MODE.TARGET == Mode.BREEZE || s.fld F.DEV_MODE.TARGET == Mode.GALE))

/-- A good frame in extents `hs` that is neither a MAC control frame nor one for the timing engine or the host. -/
def State.goodFrame (s : State) (p : Nat) (bs : List Byte) (q : Parsed) (d : Decision) (stamp : Time16) (slots : Nat) (hs : List Nat) : State :=
  let i := sliceOf p
  if s.calmDiscards then s.count (Reg.PRT_RX_CNT p 6)
  else if !s.forwards i then s.count (Reg.PRT_RX_CNT p 5)
  else s.forward i p bs q d stamp slots hs

/-- The SSM byte of an ESMC PDU (R316); its layout is that of ITU-T G.8264 (PRESUMED, log entry 11). -/
def esmcOf (bs : List Byte) (q : Parsed) : Option (BitVec 8) :=
  let o := q.l3
  if q.da = 0x0180C2000002 ∧ q.ethType = 0x8809 ∧ o + 14 ≤ bs.length - 4 ∧ beAt bs o 6 = 0x0A0019A70001 ∧ beAt bs (o + 6) 1 / 16 = 1 ∧
      beAt bs (o + 10) 1 = 1 then some (BitVec.ofNat 8 (beAt bs (o + 13) 1))
  else none

/-- Whether a frame passes its length and FCS checks (R126). -/
def frameGood (bs : List Byte) : Bool := decide (64 ≤ bs.length) && decide (bs.length ≤ 10240) && fcsGood bs

/-- The MAC counts a received frame, good or by the check it fails (R126). -/
def State.macCount (s : State) (p : Nat) (bs : List Byte) : State :=
  if bs.length < 64 then s.count (Reg.PRT_RX_CNT p 3)
  else if 10240 < bs.length then s.count (Reg.PRT_RX_CNT p 4)
  else if !fcsGood bs then s.count (Reg.PRT_RX_CNT p 2)
  else s.rxGood p bs.length

/-- Step 5 of Table 05.1 for a good frame in extents `hs`: an ESMC PDU is heard, and the frame goes to the timing engine, to the host or on. -/
def State.ingressEnd (s : State) (p : Nat) (bs : List Byte) (q : Parsed) (d : Decision) (stamp : Time16) (slots : Nat) (hs : List Nat) : State :=
  let i := sliceOf p
  let s1 := match esmcOf bs q with
    | some b => s.esmcPdu p b
    | none => s
  match s1.ttTakes p q bs with
  | some m => (s1.cutFrame i hs).ttMessage p m stamp
  | none =>
    if q.ptp.isSome && q.da == 0x0180C200000E then (s1.cutFrame i hs).ttToHost p bs stamp
    else s1.goodFrame p bs q d stamp slots hs

/-- A frame of bytes `bs` arrives on port `p` with ingress stamp `stamp` (R124 to R129, R205, R262). Its bytes go into extents as they arrive; the
lookups are made once the parse window is held, so where extent 0 was granted; after an EMPTY answer nothing more is done with it (R169). -/
def State.ingress (s : State) (p : Nat) (bs : List Byte) (stamp : Time16) (slots : Nat) : State :=
  let i := sliceOf p
  let q := parseFrame bs (s.defVlan p) (s.cfg.defPcp.getD p 0)
  if frameGood bs && q.ethType == 0x8808 then (s.rxGood p bs.length).macControl p bs q.l3
  else
    let d := s.decideFrame i p q
    match s.takeExtents i p bs.length with
    | (s1, none) => (if (s.bufAlloc 256 i).2.isSome then s1.lookups i p q else s1).macCount p bs
    | (s1, some hs) =>
      let s2 := (if s.forwards i then s1.lookups i p q else s1).macCount p bs
      if frameGood bs then s2.ingressEnd p bs q d stamp slots hs else s2.cutFrame i hs

/-- INGRESS_FRAME (R124). -/
def execIngressFrame (p : Nat) (bs : List Byte) (t : LineStamp) (slots : Nat) (s : State) : Host.Outcome State Fault Refusal :=
  if 192 ≤ p then .fault .noSuchInstance
  else if s.receives p then .next (s.ingress p bs (s.rxStamp p t) slots) else .next s

end Sys2Proof.Machine
end

