-- ==== Sys2Proof/Machine/Lanes.lean ====
section
/-! DEFINITION. Lanes, ports and native trunks (04_lanes_and_trunk_code.md; R48, R49): oper states, training, the marker receiver, units and
pointers, trunk bring-up, electrical idle, signal quality, and the host controls of ports and lanes. -/

namespace Sys2Proof.Machine

/-! ## Ports and messages -/

/-- Whether the messages on lane `l` decide for its trunk: it is the first lane of a native trunk (R111). -/
def State.trunkFirst (s : State) (l : Nat) : Bool := s.portUsed l && s.isTrunk l

/-- Whether the receivers of all lanes of the port saw RXA = 1 in their last good markers (R111). -/
def State.allRxa (s : State) (p : Nat) : Bool := (s.portLanes p).all fun l => (s.rx l).rxa

/-- Whether lane `l` has received the message (R111): the same type and argument in three consecutive good markers. -/
def State.heard (s : State) (l mt arg : Nat) : Bool := (s.rx l).msg == (mt, arg, 3)

/-! ## Oper states (R48, Table 02.6) -/

/-- Whether the lanes of slice `i` run: it is powered and not being powered up, and in STEEP, or in CALM entered from it, the TX PLLs are
locked (R46, R49, R115, R420). -/
def State.lanesRun (s : State) (i : Nat) : Bool :=
  s.powered i && s.dev.slcPhase.getD i 0 != 1 &&
    (((s.mode == Mode.STEEP || s.mode == Mode.CALM) && s.dev.steepPlls) || (decide (Mode.STEEP < s.mode) && s.slc i != Slc.DARK))

/-- Whether port `p` trains or runs: it is admin UP and its lanes run. -/
def State.trains (s : State) (p : Nat) : Bool := s.portUsed p && s.fld (F.PRT_STATE.ADMIN p) == 1 && s.lanesRun (sliceOf p)

/-- Whether a lane of the port has a loopback set (LN_CTRL.LOOP). -/
def State.looped (s : State) (p : Nat) : Bool := (s.portLanes p).any fun l => s.fld (F.LN_CTRL.LOOP l) != 0

/-- The port leaves UP and IDLE: learned entries (R155), held frames (R184), exchanges (R278), and the source of its domain (R243). -/
def State.portLeft (s : State) (p : Nat) : State :=
  let s1 := ((s.fdbPortFlush p).portDrops p).ttPortDown p
  let s2 := s1.setTrunk p { s1.trunk p with waiting := [] }
  if s.ttRole p = TtRole.SLAVE then s2.sourceLost (s.portDomain p) else s2

/-- The oper state of port `p` becomes `st`; while a loopback is set, LOOPBACK in place of it. -/
def State.setOper (s : State) (p st : Nat) : State :=
  let st1 := if s.looped p && st != Oper.DISABLED then Oper.LOOPBACK else st
  if s.oper p = st1 then s
  else
    let s1 := (s.eachLane p State.fmChanged).setFld (F.PRT_STATE.OPER p) st1
    let s2 := if s.operUp p && !s1.operUp p then s1.portLeft p else s1
    s2.vnPortChange p

/-- The port is UP: the first attempt of its lanes has ended (R115), and a trunk sends DATA. -/
def State.goUp (s : State) (p : Nat) : State :=
  let s1 := s.eachLane p fun u l => (u.setFld (F.LN_STATUS.FIRST_DONE l) 1).setRx l { u.rx l with pos := none, buf := [], drop := 0 }
  let s2 := if s.isTrunk p then
      let u := s1.setTrState p Tr.UP
      u.setTrunk p { u.trunk p with left := 0, idleTx := false, idleRx := false, exiting := false, waiting := [], useqRx := 0 }
    else s1
  s2.setOper p Oper.UP

/-! ## Entry to CAP (R111 to R114) -/

/-- The receivers of a port start again. -/
def State.rxRestart (s : State) (p : Nat) : State := s.eachLane p fun u l => (u.setRx l TrRx.fresh).setFld (F.LN_STATUS.LOCK l) 0

/-- The argument of a CAP marker (Table 04.8). -/
def capArg (maxStep nonce : Nat) (x4 : Bool) : Nat := maxStep + 2 ^ 3 + b2n x4 * 2 ^ 4 + 2 ^ 5 + nonce * 2 ^ 8

/-- The current step of a trunk changes; the timing engine and a running regression note it. -/
def State.setStep (s : State) (p k : Nat) : State :=
  if s.trunkStep p = k then s else ((s.setFld (F.LN_TRUNK_STATUS.STEP p) k).ttStepChange p).eachLane p State.fmChanged

/-- The trunk draws a new NONCE (a free value, log entry 3) and sends CAP. -/
def State.capSend (s : State) (p : Nat) : State :=
  let n := s.freeVal % 65536
  let s1 := (s.tookFree).setTrunk p { s.trunk p with nonce := n, tries := 0, train := 0, idleTx := false, idleRx := false, exiting := false, useqTx := 0 }
  s1.trSend p Mt.CAP (capArg (s.fld (F.LN_CFG.TRUNK_MAX p)) n (s.laneMode p == 6))

/-- The trunk enters CAP at step 0: no failed step and no standing idle request are left (R114, R117); its transmitters run. -/
def State.capState (s : State) (p : Nat) : State :=
  let s1 := ((s.setTrState p Tr.CAP).setFld (F.LN_TRUNK_STATUS.FAIL_STEP p) 7).setFld (F.LN_TRUNK_STATUS.IDLE_HELD p) 0
  ((s1.setStep p 0).txBegin p).capSend p

def State.enterCap (s : State) (p : Nat) : State := (s.rxRestart p).capState p

/-- The port starts training (R113, R115): standard lanes acquire lock, a trunk enters CAP. -/
def State.retrain (s : State) (p : Nat) : State :=
  if s.trains p then
    let s1 := (s.rxRestart p).eachLane p fun u l => u.setFld (F.LN_EYE.VALID l) 0
    (if s.isTrunk p then s1.capState p else s1).setOper p Oper.TRAINING
  else s

/-- A lane or port reset begins: a new first attempt of the port's lanes (R115), and no standing idle request (R117), whether the port trains or not. -/
def State.firstAttempt (s : State) (p : Nat) : State :=
  (s.eachLane p fun u l => u.setFld (F.LN_STATUS.FIRST_DONE l) 0).setFld (F.LN_TRUNK_STATUS.IDLE_HELD p) 0

/-- The port stops: DISABLED, its trunk OFF, its receivers without lock (R49, R120). LOL that reads asserted because of it is neither flagged nor
counted (log entry 75). -/
def State.portOff (s : State) (p : Nat) : State :=
  let s1 := (s.setOper p Oper.DISABLED).rxRestart p
  let s2 := s1.eachLane p fun u l => u.setFld (F.LN_STATUS.LOL l) 1
  if s.isTrunk p then (s2.setTrState p Tr.OFF).txStop p else s2

/-- The trunk goes DOWN and returns to CAP. -/
def State.trunkDown (s : State) (p : Nat) : State := (s.setOper p Oper.DOWN).enterCap p

/-! ## Negotiation (Table 04.9) -/

/-- CEIL of a trunk. -/
def State.trCeil (s : State) (p : Nat) : Nat := s.fld (F.LN_TRUNK_STATUS.CEIL p)

/-- Whether this side leads. -/
def State.leads (s : State) (p : Nat) : Bool := s.fld (F.LN_TRUNK_STATUS.LEADER p) == 1

/-- The trunk is in NEGO: a leader below CEIL proposes the next step, and at CEIL the port is UP; a follower sends TRAIN. -/
def State.negoEnter (s : State) (p : Nat) : State :=
  let s1 := (s.setTrState p Tr.NEGO).setOper p Oper.TRAINING
  let k := s1.trunkStep p
  if !s1.leads p then s1.trSend p Mt.TRAIN k
  else if k < s1.trCeil p then s1.trSend p Mt.PROP (k + 1 + (s1.trunk p).nonce * 2 ^ 8)
  else s1.goUp p

/-- A CAP message is received in CAP or MISMATCH. -/
def State.capMsg (s : State) (p arg : Nat) (rxa : Bool) : State :=
  let own := s.laneMode p == 6
  let st := s.trState p
  if bitAt arg 4 ≠ own ∨ arg / 2 ^ 5 % 8 ≠ 1 then
    if st = Tr.CAP then
      ((s.setTrState p Tr.MISMATCH).setOper p Oper.TRAINING).trSend p Mt.NAK (if bitAt arg 4 ≠ own then 1 else 2)
    else s
  else if st = Tr.MISMATCH then s.capState p
  else
    let t := s.trunk p
    let peer := arg / 2 ^ 8 % 65536
    if peer = t.nonce then s.capSend p
    else if rxa && s.allRxa p && s.allLocked p then
      let top := min (s.fld (F.LN_CFG.TRUNK_MAX p)) (arg % 8)
      let s1 := (s.setFld (F.LN_TRUNK_STATUS.PEER_MAX p) (arg % 8)).setFld (F.LN_TRUNK_STATUS.PEER_IDLE p) (arg / 2 ^ 3)
      let s2 := (s1.setFld (F.LN_TRUNK_STATUS.CEIL p) top).setFld (F.LN_TRUNK_STATUS.LEADER p) (b2n (decide (peer < t.nonce)))
      (s2.setTrunk p { t with target := top, tries := 0 }).negoEnter p
    else s

/-- CAP_RECEIVED (R111, R113). -/
def execCapReceived (l : Nat) (arg : BitVec 24) (rxa : Bool) (s : State) : Host.Outcome State Fault Refusal :=
  if 192 ≤ l then .fault .noSuchInstance
  else if s.trunkFirst l && s.heard l Mt.CAP arg.toNat && (s.trState l == Tr.CAP || s.trState l == Tr.MISMATCH) then .next (s.capMsg l arg.toNat rxa)
  else .next s

/-- CAP_TIMEOUT (R113): CAP continues. -/
def execCapTimeout (l : Nat) (s : State) : Host.Outcome State Fault Refusal :=
  if 192 ≤ l then .fault .noSuchInstance
  else if s.trunkFirst l && s.trState l == Tr.CAP then .next (s.setOper l Oper.DOWN) else .next s

/-- Both sides have agreed on step `k`: ACK is sent, and SWITCH follows. -/
def State.switchTo (s : State) (p k nonce : Nat) : State :=
  let s1 := s.setTrunk p { s.trunk p with train := k }
  (s1.trSend p Mt.ACK (k + nonce * 2 ^ 8)).setTrState p Tr.SWITCH

/-- PROP_RECEIVED (R113): a follower. -/
def execPropReceived (l : Nat) (arg : BitVec 24) (s : State) : Host.Outcome State Fault Refusal :=
  if 192 ≤ l then .fault .noSuchInstance
  else if s.trunkFirst l && s.heard l Mt.PROP arg.toNat && s.trState l == Tr.NEGO && !s.leads l then
    let k := arg.toNat % 8
    if k = s.trunkStep l + 1 ∧ k ≤ (s.trunk l).target then .next (s.switchTo l k (arg.toNat / 2 ^ 8)) else .next (s.trSend l Mt.NAK 3)
  else .next s

/-- ACK_RECEIVED (R113): a leader. -/
def execAckReceived (l : Nat) (arg : BitVec 24) (s : State) : Host.Outcome State Fault Refusal :=
  if 192 ≤ l then .fault .noSuchInstance
  else if s.trunkFirst l && s.heard l Mt.ACK arg.toNat && s.trState l == Tr.NEGO && s.leads l && arg.toNat % 8 == s.trunkStep l + 1 then
    .next (s.switchTo l (arg.toNat % 8) (s.trunk l).nonce)
  else .next s

/-- The leader gives up the next step: CEIL is the current one (R113). -/
def State.ceilHere (s : State) (p : Nat) : State := (s.setFld (F.LN_TRUNK_STATUS.CEIL p) (s.trunkStep p)).negoEnter p

/-- 10 µs in core cycles: no IDLE_REQ is sent again sooner after NAK(0xFF) (R117). -/
def idleRetry : Nat := 12500

/-- NAK_RECEIVED (R113, R117). -/
def execNakReceived (l : Nat) (arg : BitVec 24) (s : State) : Host.Outcome State Fault Refusal :=
  if 192 ≤ l then .fault .noSuchInstance
  else if s.trunkFirst l && s.heard l Mt.NAK arg.toNat && s.trState l != Tr.OFF then
    let s1 := s.setFld (F.LN_TRUNK_STATUS.NAK l) arg.toNat
    if s.trState l = Tr.NEGO ∧ s.leads l = true then .next (s1.ceilHere l)
    else if s.trState l = Tr.UP ∧ arg.toNat % 256 = 0xFF then .next (s1.setTrunk l { s.trunk l with idleTx := false, idleRx := false, retry := s.cycle + idleRetry })
    else .next s1
  else .next s

/-- RESPONSE_TIMER_EXPIRY (R113): the third in succession sets CEIL. -/
def execResponseTimerExpiry (l : Nat) (s : State) : Host.Outcome State Fault Refusal :=
  if 192 ≤ l then .fault .noSuchInstance
  else if s.trunkFirst l && s.trState l == Tr.NEGO && s.leads l then
    let t := s.trunk l
    if 2 ≤ t.tries then .next ((s.setTrunk l { t with tries := 0 }).ceilHere l)
    else .next ((s.setTrunk l { t with tries := t.tries + 1 }).negoEnter l)
  else .next s

/-- TRUNK_SWITCH_STEP (R113): the superframe of the third ACK has been sent, and TX and RX run at step k. -/
def execTrunkSwitchStep (l : Nat) (s : State) : Host.Outcome State Fault Refusal :=
  if 192 ≤ l then .fault .noSuchInstance
  else if s.trunkFirst l && s.trState l == Tr.SWITCH && (s.trunk l).left == 0 then
    .next (((s.rxRestart l).setTrState l Tr.TRAIN).trSend l Mt.TRAIN (s.trunk l).train)
  else .next s

/-- TRAIN_RECEIVED (R113): step k, or k − 1 in FALLBACK, is current. -/
def execTrainReceived (l : Nat) (arg : BitVec 24) (rxa : Bool) (s : State) : Host.Outcome State Fault Refusal :=
  if 192 ≤ l then .fault .noSuchInstance
  else
    let k := (s.trunk l).train
    if s.trunkFirst l && s.heard l Mt.TRAIN arg.toNat && (s.trState l == Tr.TRAIN || s.trState l == Tr.FALLBACK) && rxa && s.allRxa l && s.allLocked l &&
        arg.toNat % 8 == k then
      .next ((s.setStep l k).setTrunk l { s.trunk l with tries := 0 } |>.negoEnter l)
    else .next s

/-- DATA_MARKER_RECEIVED (R113): a follower; the last good marker was DATA. -/
def execDataMarkerReceived (l : Nat) (s : State) : Host.Outcome State Fault Refusal :=
  if 192 ≤ l then .fault .noSuchInstance
  else if s.trunkFirst l && (s.rx l).msg.1 == Mt.DATA && (s.rx l).msg.2.2 != 0 && s.trState l == Tr.NEGO && !s.leads l then .next (s.goUp l)
  else .next s

/-- A step failure is counted and flagged. -/
def State.stepFail (s : State) (p : Nat) : State := (s.count (Reg.LN_CNT p 11)).flag (F.LN_FLAGS.STEP_FAIL p)

/-- Step k fails in TRAIN: the trunk falls back to step k − 1 (R113). -/
def State.trainFail (s : State) (p : Nat) : State :=
  let t := s.trunk p
  let k := t.train
  let s1 := ((s.stepFail p).setFld (F.LN_TRUNK_STATUS.CEIL p) (k - 1)).setFld (F.LN_TRUNK_STATUS.FAIL_STEP p) k
  (((s1.setTrunk p { t with train := k - 1 }).rxRestart p).setTrState p Tr.FALLBACK).trSend p Mt.TRAIN (k - 1)

/-- TRAINING_TIMER_EXPIRY (R113). -/
def execTrainingTimerExpiry (l : Nat) (s : State) : Host.Outcome State Fault Refusal :=
  if 192 ≤ l then .fault .noSuchInstance
  else if s.trunkFirst l && s.trState l == Tr.TRAIN then .next (s.trainFail l)
  else if s.trunkFirst l && s.trState l == Tr.FALLBACK then .next ((s.stepFail l).enterCap l)
  else .next s

/-! ## Markers (R97 to R101) -/

/-- Fields of a marker (Table 04.4). -/
def mkRxa (m : Nat) : Bool := bitAt m 28
def mkSeq (m : Nat) : Nat := nbits m 23 16
def mkType (m : Nat) : Nat := nbits m 27 24
def mkPhv (m : Nat) : Bool := bitAt m 29
def mkArg (m : Nat) : Nat := nbits m 55 32

/-- Whether a marker is good (R101). -/
def mkGood (m : Nat) : Bool := nbits m 15 0 == 0x6B28 && nbits m 63 56 == rev8 (crc8 (nbits m 55 16) 40) && decide (mkType m ≤ 7)

/-- Lane `l` loses alignment (R101, R113). -/
def State.alignLost (s : State) (l : Nat) : State :=
  let p := s.lanePort l
  let s1 := ((s.count (Reg.LN_CNT l 2)).flag (F.LN_FLAGS.LOCK_LOST l)).setFld (F.LN_STATUS.LOCK l) 0
  let s2 := s1.setRx l TrRx.fresh
  if s.trState p = Tr.TRAIN then s2.trainFail p
  else if s.trState p = Tr.UP then s2.trunkDown p
  else s2

/-- A good DATA marker on an aligned lane: its stamp enters the lane's queue (R292), and a SLAVE trunk forms a marker offset (R271). The exit from
idle is complete with the first on the port's first lane (R119). -/
def State.dataMarker (s : State) (l m : Nat) (t : LineStamp) : State :=
  let p := s.lanePort l
  let a := s.rxStamp l t
  let s1 := if s.fld (F.PH_SQ_CFG.SRC l) = 0 then s.stampEvent l (s.portDomain p) false a (s.covered l) (s.chanBad l && !s.covered l) else s
  let s2 := if l = p ∧ mkPhv m = true then s1.ttMarker p (mkArg m) a else s1
  if l = p ∧ s.trState p = Tr.IDLE ∧ (s.trunk p).exiting = true then
    let k := s2.setTrunk p { s2.trunk p with exiting := false, idleTx := false, idleRx := false }
    (k.setTrState p Tr.UP).setOper p Oper.UP
  else s2

/-- A receiver notes the message and RXA of a marker: a bad one ends the succession (R111). -/
def TrRx.note (r : TrRx) (m : Nat) : TrRx :=
  if mkGood m then
    { r with rxa := mkRxa m,
             msg := (mkType m, mkArg m, if r.msg.1 = mkType m ∧ r.msg.2.1 = mkArg m then min 3 (r.msg.2.2 + 1) else 1) }
  else { r with msg := (r.msg.1, r.msg.2.1, 0) }

/-- A marker arrives at an aligned lane (R101). After a bad one the next SEQ is expected one further on (log entry 76). -/
def State.alignedMarker (s : State) (l m : Nat) (t : LineStamp) : State :=
  let r := s.rx l
  if mkGood m then
    let brk := match r.seq with
      | some q => mkSeq m != (q + 1) % 256
      | none => false
    let s1 := s.setRx l { r with bad := 0, seq := some (mkSeq m), skip := false }
    let s2 := if brk then (s1.count (Reg.LN_CNT l 4)).flag (F.LN_FLAGS.MRK_ERR l) else s1
    if mkType m = Mt.DATA then s2.dataMarker l m t else s2
  else
    let s1 := (s.count (Reg.LN_CNT l 3)).flag (F.LN_FLAGS.MRK_ERR l)
    if 3 ≤ r.bad then s1.alignLost l
    else s1.setRx l { r with bad := r.bad + 1, seq := r.seq.map fun q => (q + 1) % 256, skip := false }

/-- A marker at a lane that seeks alignment: the fourth good one in succession gives it, and the payload after it is discarded (R95, R101). -/
def State.seekMarker (s : State) (l m : Nat) : State :=
  let r := s.rx l
  if mkGood m then
    if 3 ≤ r.good then
      (s.setRx l { r with good := 0, bad := 0, seq := some (mkSeq m), skip := true, pos := none, buf := [], drop := 0 }).setFld (F.LN_STATUS.LOCK l) 1
    else s.setRx l { r with good := r.good + 1 }
  else s.setRx l { r with good := 0 }

/-- A lane takes marker `m`. -/
def State.marker (s : State) (l m : Nat) (t : LineStamp) : State :=
  let s1 := s.setRx l ((s.rx l).note m)
  if s1.fld (F.LN_STATUS.LOCK l) = 1 then s1.alignedMarker l m t else s1.seekMarker l m

/-- Lane `l` receives line bits up to a marker, which are payload, or the burst of an exit from idle, and the marker. -/
def State.markerLine (s : State) (l : Nat) (pre m : List Bool) (t : LineStamp) : State :=
  let o := s.lineIn l pre
  let s1 := if s.trState (s.lanePort l) = Tr.IDLE then o.1 else o.1.payIn l o.2
  let k := s1.lineIn l m
  k.1.marker l (ofBits k.2) t

/-- Whether the trunk receiver of lane `l` takes line bits: its trunk runs, and in electrical idle an exit does (R118, R119). -/
def State.takesMarkers (s : State) (l : Nat) : Bool :=
  let p := s.lanePort l
  s.isTrunk l && s.trState p != Tr.OFF && (s.trState p != Tr.IDLE || (s.trunk p).exiting)

/-- MARKER_RECEIVED (R101). -/
def execMarkerReceived (l : Nat) (pre m : List Bool) (t : LineStamp) (s : State) : Host.Outcome State Fault Refusal :=
  if 192 ≤ l then .fault .noSuchInstance
  else if s.takesMarkers l then .next (s.markerLine l pre m t) else .next s

/-! ## Pointers and units (R102 to R107) -/

/-- Fields of a unit header (Table 04.6). -/
def unitLen (h : Nat) : Nat := h % 2 ^ 14
def unitKind (h : Nat) : Nat := nbits h 15 14
def unitSeq (h : Nat) : Nat := nbits h 23 16

/-- Whether a unit header is right (R104). -/
def unitOk (h : Nat) : Bool :=
  nbits h 31 24 == rev8 (crc8 (h % 2 ^ 24) 24) &&
    ((unitKind h == 0 && decide (unitLen h ≤ 1020)) || (unitKind h == 1 && decide (64 ≤ unitLen h) && decide (unitLen h ≤ 10240)))

/-- Whether lane `l` delivers units: its trunk is UP, it is aligned, and its superframe is not discarded (R95, R102). -/
def State.delivers (s : State) (l : Nat) : Bool :=
  s.isTrunk l && s.trState (s.lanePort l) == Tr.UP && s.fld (F.LN_STATUS.LOCK l) == 1 && !(s.rx l).skip

/-- Whether a pointer is valid (R102). -/
def ptrOk (v : Nat) : Bool :=
  let q := v % 2 ^ 10
  nbits v 15 10 == rev6 (crc6 q 10) && ((decide (2 ≤ q) && decide (q ≤ 511)) || q == 0x3FF)

/-- Delivery resumes at the next unit header, `q` unit bytes into the superframe; with none the stream is discarded. -/
def TrRx.resume (r : TrRx) (q : Option Nat) : TrRx := { r with pos := q.map fun n => (n : Int), buf := [], drop := 8 * q.getD 0 }

/-- A pointer at the start of a superframe (R105); 510 unit bytes have passed since the last one. The header of the unit in progress, where it is
complete, gives the position to compare with. -/
def State.pointer (s : State) (l v : Nat) : State :=
  let r := s.rx l
  let here := r.pos.map (· - 510)
  let q : Nat := v % 2 ^ 10
  let fresh : Option Nat := if q = 0x3FF then none else some (q - 2)
  let err := fun u : State => (u.count (Reg.LN_CNT l 7)).flag (F.LN_FLAGS.UNIT_ERR l)
  if !ptrOk v then err (s.setRx l { r with pos := here })
  else match here with
    | none => s.setRx l (r.resume fresh)
    | some x =>
      let h := ofBits (r.buf.take 32)
      let next : Option Int :=
        if 32 ≤ r.buf.length then (if unitOk h then some (x + 4 + (unitLen h : Int)) else none)
        else if 0 ≤ x then some x else none
      match next with
      | none => s.setRx l { r with pos := here }
      | some n =>
        if (if n < 510 then some n else none) = fresh.map (fun k => (k : Int)) then s.setRx l { r with pos := here }
        else err (s.setRx l (r.resume fresh))

/-- Lane `l` receives payload bits up to a pointer, and the pointer, which is no part of the unit stream (R102). -/
def State.pointerLine (s : State) (l : Nat) (pre ptr : List Bool) : State :=
  let o := s.lineIn l pre
  let k := (o.1.payIn l o.2).lineIn l ptr
  let d := descramble (k.1.rx l).scr k.2
  let s1 := k.1.setRx l { k.1.rx l with scr := d.1 }
  if s.delivers l then s1.pointer l (ofBits d.2) else s1

/-- POINTER_RECEIVED (R105). -/
def execPointerReceived (l : Nat) (pre ptr : List Bool) (s : State) : Host.Outcome State Fault Refusal :=
  if 192 ≤ l then .fault .noSuchInstance
  else if s.takesMarkers l then .next (s.pointerLine l pre ptr) else .next s

/-- Deliver the frames that wait in USEQ order (R107). -/
def State.reorderDrain (s : State) (p slots : Nat) : Nat → State
  | 0 => s
  | fuel + 1 =>
    let t := s.trunk p
    match t.waiting.find? (fun x => x.1 == t.useqRx) with
    | none => s
    | some x =>
      let s1 := s.setTrunk p { t with useqRx := (t.useqRx + 1) % 256, waiting := t.waiting.filter fun y => y.1 != t.useqRx }
      (s1.ingress p x.2.1 x.2.2 slots).reorderDrain p slots fuel

/-- A frame of a four-lane trunk with USEQ `q`: in order it is delivered, ahead of its turn it waits, and one declared lost is dropped. A number less
than 128 ahead modulo 256 is ahead of its turn, any other one late (log entry 77). -/
def State.reorder (s : State) (p q : Nat) (bs : List Byte) (stamp : Time16) (slots : Nat) : State :=
  let t := s.trunk p
  if (q + 256 - t.useqRx) % 256 < 128 then
    (s.setTrunk p { t with waiting := t.waiting ++ [(q, bs, stamp)] }).reorderDrain p slots (t.waiting.length + 1)
  else s

/-- The unit in progress ends, if the bits received hold all of it (R104). -/
def State.unit (s : State) (l : Nat) (t : LineStamp) (slots : Nat) : State :=
  let p := s.lanePort l
  let r := s.rx l
  let h := ofBits (r.buf.take 32)
  match r.pos with
  | none => s
  | some x =>
    if r.buf.length < 32 then s
    else if unitOk h then
      if r.buf.length < 32 + 8 * unitLen h then s
      else
        let s1 := s.setRx l { r with pos := some (x + 4 + (unitLen h : Int)), buf := r.buf.drop (32 + 8 * unitLen h) }
        let body := bitBytes (unitLen h) (r.buf.drop 32)
        if unitKind h = 0 then s1
        else if s.laneMode l = 6 then s1.reorder p (unitSeq h) body (s.rxStamp l t) slots
        else s1.ingress p body (s.rxStamp l t) slots
    else ((s.setRx l { r with pos := none, buf := [], drop := 0 }).count (Reg.LN_CNT l 6)).flag (F.LN_FLAGS.UNIT_ERR l)

/-- Lane `l` receives payload bits up to the end of a unit. -/
def State.unitLine (s : State) (l : Nat) (line : List Bool) (t : LineStamp) (slots : Nat) : State :=
  let o := s.lineIn l line
  let s1 := o.1.payIn l o.2
  if s.delivers l then s1.unit l t slots else s1

/-- TRUNK_UNIT_RECEIVED (R104). -/
def execTrunkUnitReceived (l : Nat) (hdr body : List Bool) (t : LineStamp) (slots : Nat) (s : State) : Host.Outcome State Fault Refusal :=
  if 192 ≤ l then .fault .noSuchInstance
  else if s.takesMarkers l then .next (s.unitLine l (hdr ++ body) t slots) else .next s

/-- REORDER_TIMEOUT (R107): the missing frames before the first that waits are lost, also when the trunk has become idle meanwhile. -/
def execReorderTimeout (p slots : Nat) (s : State) : Host.Outcome State Fault Refusal :=
  if 192 ≤ p then .fault .noSuchInstance
  else
    let t := s.trunk p
    if s.portUsed p && s.laneMode p == 6 && (s.trState p == Tr.UP || s.trState p == Tr.IDLE) && !t.waiting.isEmpty then
      let n : Nat := (t.waiting.map fun x => (x.1 + 256 - t.useqRx) % 256).foldl min 255
      let s1 := (s.countN (Reg.LN_CNT p 6) n).flag (F.LN_FLAGS.UNIT_ERR p)
      .next ((s1.setTrunk p { t with useqRx := (t.useqRx + n) % 256 }).reorderDrain p slots (t.waiting.length + 1))
    else .next s

/-! ## Electrical idle (R116 to R119) -/

/-- Whether idle is available (R116). -/
def State.idleOk (s : State) (p : Nat) : Bool := decide (3 ≤ s.trunkStep p) && s.fld (F.LN_TRUNK_STATUS.PEER_IDLE p) == 1

/-- Whether nothing is queued for the port or in its unit stream, and no frame of its timing engine is due or pending within 10 µs (R117). -/
def State.quiet (s : State) (p : Nat) : Bool :=
  let e := s.egp p
  (List.range 8).all (fun c => (e.cls c).isEmpty) && e.lt.isEmpty && (s.ttEng p).queue.isEmpty && (s.ttEng p).fus.isEmpty &&
    (s.portLanes p).all (fun l => (s.tx l).units.isEmpty) && !s.ttSoon p

/-- IDLE_REQ_SEND (R117). -/
def execIdleReqSend (l : Nat) (s : State) : Host.Outcome State Fault Refusal :=
  if 192 ≤ l then .fault .noSuchInstance
  else if s.trunkFirst l && s.trState l == Tr.UP && s.fld (F.LN_TRUNK_STATUS.IDLE_HELD l) == 1 && s.idleOk l && s.quiet l &&
      decide ((s.trunk l).retry ≤ s.cycle) then
    .next ((s.trSend l Mt.IDLE_REQ 0).setTrunk l { (s.trSend l Mt.IDLE_REQ 0).trunk l with idleTx := true })
  else .next s

/-- IDLE_REQ_RECEIVED (R117). -/
def execIdleReqReceived (l : Nat) (s : State) : Host.Outcome State Fault Refusal :=
  if 192 ≤ l then .fault .noSuchInstance
  else if s.trunkFirst l && s.heard l Mt.IDLE_REQ 0 && s.trState l == Tr.UP then
    if (s.trunk l).idleTx then .next (s.setTrunk l { s.trunk l with idleRx := true })
    else if s.idleOk l && s.quiet l then
      let s1 := s.trSend l Mt.IDLE_ACK 0
      .next (s1.setTrunk l { s1.trunk l with idleTx := true, idleRx := true })
    else .next (s.trSend l Mt.NAK 0xFF)
  else .next s

/-- IDLE_ACK_RECEIVED (R118). -/
def execIdleAckReceived (l : Nat) (s : State) : Host.Outcome State Fault Refusal :=
  if 192 ≤ l then .fault .noSuchInstance
  else if s.trunkFirst l && s.heard l Mt.IDLE_ACK 0 && s.trState l == Tr.UP && (s.trunk l).idleTx then
    .next (s.setTrunk l { s.trunk l with idleRx := true })
  else .next s

/-- IDLE_HANDSHAKE_COMPLETE (R118): the third message has been sent. The transmitters complete their superframe, and the trunk is in electrical idle;
what was queued meanwhile ends it at once (R119). -/
def execIdleHandshakeComplete (l : Nat) (s : State) : Host.Outcome State Fault Refusal :=
  if 192 ≤ l then .fault .noSuchInstance
  else if s.trunkFirst l && s.trState l == Tr.UP && s.idling l && (s.trunk l).left == 0 then
    let s1 := ((s.txFinish l).setTrState l Tr.IDLE).setTrunk l { s.trunk l with idleTx := false, idleRx := false, exiting := false }
    let s2 := (s1.eachLane l fun u k => u.count (Reg.LN_CNT k 12)).setOper l Oper.IDLE
    .next (if s2.quiet l then s2 else s2.trunkWake l)
  else .next s

/-- IDLE_ACTIVITY_DETECTED (R119). -/
def execIdleActivityDetected (l : Nat) (s : State) : Host.Outcome State Fault Refusal :=
  if 192 ≤ l then .fault .noSuchInstance
  else if s.isTrunk l then .next (s.trunkWake (s.lanePort l)) else .next s

/-- IDLE_EXIT_TIMEOUT (R119): the exit has failed. -/
def execIdleExitTimeout (l : Nat) (s : State) : Host.Outcome State Fault Refusal :=
  if 192 ≤ l then .fault .noSuchInstance
  else if s.trunkFirst l && s.trState l == Tr.IDLE && (s.trunk l).exiting then .next ((s.count (Reg.LN_CNT l 13)).trunkDown l)
  else .next s

/-! ## Host controls of lanes (R117, R119, R123) -/

def Acc.lane (l ofs : Nat) : Acc := Acc.direct (Base.LN l) ofs

/-- The checks of R123. -/
def State.laneChecks (s : State) (l : Nat) : List (Bool × Nat) :=
  [(s.laneMode l == 0, Err.NOT_PERMITTED), (!s.powered (sliceOf l), Err.WRONG_MODE)]

/-- A write of LN_TRUNK_CTRL. -/
def State.trunkCtrl (s : State) (a : Acc) (l : Nat) (req exit rsv : Bool) : State :=
  let ready := (s.trState l == Tr.UP || s.trState l == Tr.IDLE) && decide (3 ≤ s.trunkStep l)
  s.guard a (s.laneChecks l ++ [(!s.trunkFirst l, Err.NOT_PERMITTED), (req && !ready, Err.WRONG_MODE), (rsv, Err.RESERVED_FIELD),
      (req && exit, Err.ILLEGAL_VALUE)]) fun t =>
    if req then t.setFld (F.LN_TRUNK_STATUS.IDLE_HELD l) 1
    else if exit then (t.setFld (F.LN_TRUNK_STATUS.IDLE_HELD l) 0).trunkWake l
    else t

/-- TRUNK_IDLE_REQ (R117). -/
def execTrunkIdleReq (l : Nat) (s : State) : Host.Outcome State Fault Refusal :=
  if 192 ≤ l then .fault .noSuchInstance else .next (s.trunkCtrl (Acc.lane l (Reg.LN_TRUNK_CTRL l)) l true false false)

/-- TRUNK_IDLE_EXIT (R119). -/
def execTrunkIdleExit (l : Nat) (s : State) : Host.Outcome State Fault Refusal :=
  if 192 ≤ l then .fault .noSuchInstance else .next (s.trunkCtrl (Acc.lane l (Reg.LN_TRUNK_CTRL l)) l false true false)

/-- A write of LN_CTRL: reset, loopback and PRBS of lane `l`. -/
def State.laneCtrl (s : State) (a : Acc) (l : Nat) (reset : Bool) (loop prbs : Nat) (rsv : Bool) : State :=
  let p := s.lanePort l
  s.guard a (s.laneChecks l ++ [((loop != 0 || prbs != 0) && s.mode != Mode.PROBE, Err.WRONG_MODE), (rsv, Err.RESERVED_FIELD),
      (loop == 3 || decide (2 ≤ prbs), Err.ILLEGAL_VALUE)]) fun t =>
    let was := t.looped p
    let t1 := (t.setFld (F.LN_CTRL.LOOP l) loop).setFld (F.LN_CTRL.PRBS l) prbs
    let t2 := if reset then (t1.firstAttempt p).retrain p else t1
    if t2.looped p && t2.oper p != Oper.DISABLED then t2.setOper p Oper.LOOPBACK
    else if was && !t2.looped p && t2.oper p == Oper.LOOPBACK then t2.retrain p
    else t2

/-- LANE_RESET (R123); LOOP and PRBS stay. -/
def execLaneReset (l : Nat) (s : State) : Host.Outcome State Fault Refusal :=
  if 192 ≤ l then .fault .noSuchInstance
  else .next (s.laneCtrl (Acc.lane l (Reg.LN_CTRL l)) l true (s.fld (F.LN_CTRL.LOOP l)) (s.fld (F.LN_CTRL.PRBS l)) false)

/-- LANE_LOOP_PRBS_WRITE (R123). -/
def execLaneLoopPrbsWrite (l : Nat) (loop prbs : BitVec 2) (s : State) : Host.Outcome State Fault Refusal :=
  if 192 ≤ l then .fault .noSuchInstance
  else .next (s.laneCtrl (Acc.lane l (Reg.LN_CTRL l)) l false loop.toNat prbs.toNat false)

/-! ## Signal quality (R120 to R122) -/

/-- LOL of a lane asserts: counted and flagged, but not in electrical idle (R118, R120). -/
def State.lolAssert (s : State) (l : Nat) : State :=
  if s.fld (F.LN_STATUS.LOL l) = 1 then s
  else
    let s1 := s.setFld (F.LN_STATUS.LOL l) 1
    if s.oper (s.lanePort l) = Oper.IDLE then s1 else (s1.count (Reg.LN_CNT l 1)).flag (F.LN_FLAGS.LOL l)

/-- LOS_ASSERT (R120): LOL reads asserted with it. -/
def execLosAssert (l : Nat) (s : State) : Host.Outcome State Fault Refusal :=
  if 192 ≤ l then .fault .noSuchInstance
  else if s.laneMode l ≠ 0 ∧ s.powered (sliceOf l) = true ∧ s.fld (F.LN_STATUS.LOS l) = 0 then
    let s1 := s.setFld (F.LN_STATUS.LOS l) 1
    let s2 := if s.oper (s.lanePort l) = Oper.IDLE then s1 else (s1.count (Reg.LN_CNT l 0)).flag (F.LN_FLAGS.LOS l)
    .next ((s2.lolAssert l).vnPortChange (s.lanePort l))
  else .next s

/-- LOS_DEASSERT (R120): the lane has a signal, and a port that is DOWN trains again. -/
def execLosDeassert (l : Nat) (s : State) : Host.Outcome State Fault Refusal :=
  if 192 ≤ l then .fault .noSuchInstance
  else if s.laneMode l ≠ 0 ∧ s.powered (sliceOf l) = true then
    let s1 := s.setFld (F.LN_STATUS.LOS l) 0
    if s.oper (s.lanePort l) = Oper.DOWN then .next (s1.setOper (s.lanePort l) Oper.TRAINING) else .next s1
  else .next s

/-- LOL_ASSERT (R120). -/
def execLolAssert (l : Nat) (s : State) : Host.Outcome State Fault Refusal :=
  if 192 ≤ l then .fault .noSuchInstance
  else if s.laneMode l ≠ 0 ∧ s.powered (sliceOf l) = true then .next ((s.lolAssert l).vnPortChange (s.lanePort l))
  else .next s

/-- LOL_DEASSERT (R120): the CDR has locked, so the receive fit of R285 starts. LOL stays with LOS and on a DISABLED port. -/
def execLolDeassert (l : Nat) (s : State) : Host.Outcome State Fault Refusal :=
  if 192 ≤ l then .fault .noSuchInstance
  else if s.laneMode l ≠ 0 ∧ s.powered (sliceOf l) = true ∧ s.fld (F.LN_STATUS.LOS l) = 0 ∧ s.oper (s.lanePort l) ≠ Oper.DISABLED then
    let s1 := (s.setFld (F.LN_STATUS.LOL l) 0).setChan l { s.chan l with rx := PhFit.fresh }
    .next (s1.vnPortChange (s.lanePort l))
  else .next s

/-- The lanes of a port that have lock lose it (LN_CNT_2). -/
def State.locksLost (s : State) (p : Nat) : State :=
  s.eachLane p fun u l =>
    if u.fld (F.LN_STATUS.LOCK l) = 1 then
      ((u.count (Reg.LN_CNT l 2)).flag (F.LN_FLAGS.LOCK_LOST l)).setFld (F.LN_STATUS.LOCK l) 0
    else u

/-- LOS_LOL_PERSIST (R121): the port of lane `l` goes DOWN and retrains. -/
def execLosLolPersist (l : Nat) (s : State) : Host.Outcome State Fault Refusal :=
  if 192 ≤ l then .fault .noSuchInstance
  else
    let p := s.lanePort l
    if s.portUsed p && s.oper p == Oper.UP && (s.fld (F.LN_STATUS.LOS l) == 1 || s.fld (F.LN_STATUS.LOL l) == 1) then
      let s1 := ((s.count (Reg.LN_CNT p 15)).flag (F.LN_FLAGS.DOWN p)).locksLost p
      if s.isTrunk p then .next (s1.trunkDown p) else .next (s1.setOper p Oper.DOWN)
    else .next s

/-- LANE_LOCK_ACQUIRED (R115): a standard lane has its PCS and FEC lock; with the last lane of its port, the port is UP. -/
def execLaneLockAcquired (l : Nat) (s : State) : Host.Outcome State Fault Refusal :=
  if 192 ≤ l then .fault .noSuchInstance
  else
    let p := s.lanePort l
    if s.laneMode l ≠ 0 ∧ s.isTrunk l = false ∧ s.trains p = true ∧ s.fld (F.LN_STATUS.LOS l) = 0 then
      let s1 := s.setFld (F.LN_STATUS.LOCK l) 1
      if s1.allLocked p && s.oper p != Oper.UP then .next (s1.goUp p) else .next s1
    else .next s

/-- FIRST_ATTEMPT_TIMEOUT (R115): the first attempt has ended. A standard port that is still training is DOWN (Table 02.4, step 3); a trunk is in STEEP
only, where that table says so, and stays TRAINING otherwise (R113, log entry 78). -/
def execFirstAttemptTimeout (l : Nat) (s : State) : Host.Outcome State Fault Refusal :=
  if 192 ≤ l then .fault .noSuchInstance
  else
    let p := s.lanePort l
    if s.laneMode l ≠ 0 ∧ s.trains p = true ∧ s.fld (F.LN_STATUS.FIRST_DONE l) = 0 then
      let s1 := s.setFld (F.LN_STATUS.FIRST_DONE l) 1
      if s.oper p = Oper.TRAINING ∧ (s.isTrunk p = false ∨ s.mode = Mode.STEEP) then .next (s1.setOper p Oper.DOWN) else .next s1
    else .next s

/-- EYE_MEASUREMENT (R122): the last value is held in idle, in reset and in OFF. -/
def execEyeMeasurement (l width height : Nat) (s : State) : Host.Outcome State Fault Refusal :=
  if 192 ≤ l then .fault .noSuchInstance
  else
    let o := s.oper (s.lanePort l)
    if s.laneMode l ≠ 0 ∧ o ≠ Oper.IDLE ∧ o ≠ Oper.DISABLED then
      let low := decide (width < 32) || decide (height < 30)
      let s1 := ((s.setFld (F.LN_EYE.WIDTH l) (min 128 width)).setFld (F.LN_EYE.HEIGHT l) (min 1023 height)).setFld (F.LN_EYE.VALID l) 1
      let s2 := s1.setFld (F.LN_STATUS.EYE_LOW l) (b2n low)
      .next (if low then s2.flag (F.LN_FLAGS.EYE_LOW l) else s2)
    else .next s

/-! ## Port controls (R48, R49, R58, R59) -/

/-- The queued frames towards a port are dropped by its reset, and counted in PRT_FAB_CNT_6 (R194, Tables 06.10 and 06.13). -/
def State.resetDrops (s : State) (p : Nat) : State :=
  s.purge (fun _ q _ _ => if q = p then some (Reg.PRT_FAB_CNT p 6) else none) Htx.PORT_DOWN

/-- A port reset (Table 02.10): queued frames and learned entries go, the timing engine's exchanges end, and the port retrains. A frame that crosses to
it completes its landing and is dropped there (R184). -/
def State.portReset (s : State) (p : Nat) : State :=
  let t := s.resetDrops p
  let s1 := if t.operUp p then t.setOper p Oper.TRAINING else ((t.fdbPortFlush p).portDrops p).ttPortDown p
  (s1.firstAttempt p).retrain p

/-- A write of PRT_STATE; `skip` is a broadcast, which passes over ports of slices that are not powered. -/
def State.portState (s : State) (a : Acc) (p admin : Nat) (reset skip rsv : Bool) : State :=
  s.portGuard a p [(reset && !s.powered (sliceOf p) && !skip, Err.WRONG_MODE), (rsv, Err.RESERVED_FIELD),
      (decide (2 ≤ admin), Err.ILLEGAL_VALUE)] fun t =>
    let was := t.fld (F.PRT_STATE.ADMIN p)
    let t1 := t.setFld (F.PRT_STATE.ADMIN p) admin
    let t2 := if reset && t.powered (sliceOf p) then t1.portReset p else t1
    if admin = 0 then (if was = 0 then t2 else t2.portOff p)
    else if was = 0 then t2.retrain p
    else t2

/-- PORT_RESET (R58); the admin state stays. -/
def execPortReset (p : Nat) (s : State) : Host.Outcome State Fault Refusal :=
  if 192 ≤ p then .fault .noSuchInstance
  else .next (s.portState (Acc.prt p (Reg.PRT_STATE p)) p (s.fld (F.PRT_STATE.ADMIN p)) true false false)

/-- PORT_ADMIN_DOWN (R49). -/
def execPortAdminDown (p : Nat) (s : State) : Host.Outcome State Fault Refusal :=
  if 192 ≤ p then .fault .noSuchInstance else .next (s.portState (Acc.prt p (Reg.PRT_STATE p)) p 0 false false false)

/-- PORT_ADMIN_UP (R48, R49). -/
def execPortAdminUp (p : Nat) (s : State) : Host.Outcome State Fault Refusal :=
  if 192 ≤ p then .fault .noSuchInstance else .next (s.portState (Acc.prt p (Reg.PRT_STATE p)) p 1 false false false)

end Sys2Proof.Machine
end

