-- ==== Sys2Proof/Machine/Replay.lean ====
section
/-! DEFINITION. Caddy replay (12_caddy_capture_replay.md, R342 to R347). -/

namespace Sys2Proof.Machine

def State.replay (s : State) (r : Nat) : CdReplay := s.caddy.replay.getD r CdReplay.fresh
def State.setReplay (s : State) (r : Nat) (x : CdReplay) : State :=
  { s with caddy := { s.caddy with replay := s.caddy.replay.setD r x CdReplay.fresh } }

/-- A record as a replay reads it: whether a double-bit error lies in its chunk's header, in its own header or in its bytes. -/
structure RpItem where
  it : CdRecord
  hdrBad : Bool
  bad : Bool
  deriving DecidableEq, Repr

/-- The records from FIRST_RSEQ to LAST_RSEQ of ring `n`, in ring order (R343). -/
def State.rpRecords (s : State) (n : Nat) : List RpItem :=
  let all := ((s.ring n).chunks.map fun c => c.recs.map fun x => (⟨x, c.hdrBad || x.hdrBad, x.bad⟩ : RpItem)).flatten
  all.dropWhile fun x => x.it.rseq != s.fld (F.CD_RING_FIRST_RSEQ.RSEQ n)

/-- Whether a record passes FILTER of engine `r` (CD_RP_CFG, CD_RP_MATCH). -/
def State.rpPasses (s : State) (r : Nat) (x : CdRecord) : Bool :=
  let f := s.fld (F.CD_RP_CFG.FILTER r)
  f == 0 || (f == 1 && x.port == s.fld (F.CD_RP_MATCH.IN_PORT r)) || (f == 2 && x.stream == s.fld (F.CD_RP_MATCH.STREAM r))

/-- START of engine `r`. -/
def State.rpStart (s : State) (r : Nat) : Time16 :=
  mkT16 (s.fld (F.CD_RP_START_S_LO.S_LO r) + s.fld (F.CD_RP_START_S_HI.S_HI r) * 2 ^ 32) (s.fld (F.CD_RP_START_NS.NS r))
    (s.fld (F.CD_RP_START_FRAC.FRAC r))

/-- The launch time of a record stamped `t` in a replay whose first stamp is `s0` (R343): NS32 with its fraction. -/
def State.rpLaunch (s : State) (r : Nat) (s0 t : Time16) : Nat :=
  let ofs := Int.tdiv (subT16 t s0 * (s.fld (F.CD_RP_CFG.SCALE r) : Int)) 4096
  ((((ns48 (s.rpStart r) : Nat) : Int) + ofs) % ((2 ^ 48 : Nat) : Int)).toNat

/-- ARM and STOP of engine `r` (R342, R346). -/
def State.replayCtrl (s : State) (a : Acc) (r : Nat) (arm stop rsv : Bool) : State :=
  let n := s.fld (F.CD_RP_CFG.RING r)
  let p := s.fld (F.CD_RP_CFG.PORT r)
  let d := diff48 (ns48 (s.rpStart r)) (ns48 (s.now16 (s.portDomain p)))
  let lead : Nat := s.fld (F.CD_RP_LEAD.US r) * 1000 * 2 ^ 16
  let far : Nat := 2000000000 * 2 ^ 16
  s.guard a [(rsv, Err.RESERVED_FIELD), (arm && stop, Err.ILLEGAL_VALUE),
      (arm && (decide (s.mode < Mode.BREEZE) || decide (Mode.GALE < s.mode)), Err.WRONG_MODE),
      (arm && s.ringState n != Ring.FROZEN && s.ringState n != Ring.ABSENT, Err.WRONG_MODE),
      (arm && decide (p < 192) && !s.powered (sliceOf p), Err.WRONG_MODE), (arm && (s.replayBusy r || s.replayOn n), Err.BUSY),
      (arm && decide ((far : Int) < d), Err.RANGE),
      (arm && (s.ringState n == Ring.ABSENT || !s.portUsed p || s.ltClass p == 0xFF || decide (s.fld (F.CD_RP_CFG.SCALE r) < 512) ||
        decide (32768 < s.fld (F.CD_RP_CFG.SCALE r)) || s.fld (F.CD_RP_CFG.FILTER r) == 3), Err.ILLEGAL_VALUE),
      (arm && decide (d < (lead : Int)), Err.STALE)] fun t =>
    if arm then
      let t1 := (t.setReplay r CdReplay.fresh).setFld (F.CD_RP_STATUS.STATE r) 1
      (t1.setFld (F.CD_RING_STATUS.REPLAYING n) 1).setFld (F.CD_RP_NEXT_RSEQ.RSEQ r) (t.fld (F.CD_RING_FIRST_RSEQ.RSEQ n))
    else if stop then t.replayEnd r 4
    else t

/-- REPLAY_ARM (R342). -/
def execReplayArm (r : Nat) (s : State) : Host.Outcome State Fault Refusal :=
  if 4 ≤ r then .fault .noSuchInstance else .next (s.replayCtrl (Acc.cd (Reg.CD_RP_CTRL r)) r true false false)

/-- REPLAY_STOP (R346). -/
def execReplayStop (r : Nat) (s : State) : Host.Outcome State Fault Refusal :=
  if 4 ≤ r then .fault .noSuchInstance else .next (s.replayCtrl (Acc.cd (Reg.CD_RP_CTRL r)) r false true false)

/-- Engine `r` passes on to the record at position `pos`. -/
def State.rpAdvance (s : State) (r pos : Nat) (rest : List RpItem) : State :=
  let n := s.fld (F.CD_RP_CFG.RING r)
  let next := match rest with | x :: _ => x.it.rseq | [] => (s.fld (F.CD_RING_LAST_RSEQ.RSEQ n) + 1) % 2 ^ 32
  (s.setReplay r { s.replay r with pos := pos, allRead := rest.isEmpty }).setFld (F.CD_RP_NEXT_RSEQ.RSEQ r) next

/-- Send record `x`, of launch time `l`, out of engine `r`'s target port (R344, R345); false where no buffer is free and the launch time has not
come. -/
def State.rpSend (s : State) (r : Nat) (x : CdRecord) (l : Nat) : State × Bool :=
  let p := s.fld (F.CD_RP_CFG.PORT r)
  match s.bufAlloc x.bytes.length Own.CADDY with
  | (s1, none) =>
    if diff48 l (ns48 (s.now16 (s.portDomain p))) ≤ 0 then (s1.count (Reg.CD_RP_CNT r 3), true) else (s1, false)
  | (s1, some h) =>
    let f : Frame := ⟨s.uid, 2, r, x.bytes, 0xFF, sliceOf p, s.ltClass p, false, 0, 0, false, none, r, 0, x.stamp, some l, 0, 0, [h]⟩
    let s2 := ({ s1 with uid := s.uid + 1 }.setFld (F.CD_RP_STATUS.INFLIGHT r) (s.fld (F.CD_RP_STATUS.INFLIGHT r) + 1)).count (Reg.CD_RP_CNT r 0)
    ((s2.setFld (F.CD_RP_STATUS.STATE r) 2).enqueue Own.CADDY f p, true)

/-- Whether launch time `l` is within LEAD_US of now (R344). -/
def State.rpNear (s : State) (r l : Nat) : Bool :=
  decide (diff48 l (ns48 (s.now16 (s.portDomain (s.fld (F.CD_RP_CFG.PORT r))))) ≤ ((s.fld (F.CD_RP_LEAD.US r) * 1000 * 2 ^ 16 : Nat) : Int))

/-- Read on from the records `l`, the first of which has position `pos`, until one is sent or none is left (R343). -/
def State.rpRead (s : State) (r : Nat) : Nat → List RpItem → State
  | pos, [] => s.rpAdvance r pos []
  | pos, x :: rest =>
    let e := s.replay r
    let n := s.fld (F.CD_RP_CFG.RING r)
    if x.hdrBad || (s.rpPasses r x.it && x.bad) then
      (((s.count (Reg.CD_RP_CNT r 2)).count (Reg.CD_RING_CNT n 7)).rpAdvance r (pos + 1) rest).rpRead r (pos + 1) rest
    else if !s.rpPasses r x.it then (s.rpAdvance r (pos + 1) rest).rpRead r (pos + 1) rest
    else
      let first := e.s0.getD (x.it.stamp, x.it.domain)
      if x.it.domain ≠ first.2 then ((s.count (Reg.CD_RP_CNT r 1)).rpAdvance r (pos + 1) rest).rpRead r (pos + 1) rest
      else
        let s1 := s.setReplay r { e with s0 := some first }
        let l := s1.rpLaunch r first.1 x.it.stamp
        if !s1.rpNear r l then s1
        else match s1.rpSend r x.it l with
          | (s2, true) => s2.rpAdvance r (pos + 1) rest
          | (s2, false) => s2

/-- REPLAY_RECORD_SEND (R344): the next record is sent where its launch time is within LEAD_US and fewer than 512 frames are in flight. -/
def execReplayRecordSend (r : Nat) (s : State) : Host.Outcome State Fault Refusal :=
  if 4 ≤ r then .fault .noSuchInstance
  else if s.replayBusy r && decide (s.fld (F.CD_RP_STATUS.INFLIGHT r) < 512) then
    let pos := (s.replay r).pos
    .next (s.rpRead r pos ((s.rpRecords (s.fld (F.CD_RP_CFG.RING r))).drop pos))
  else .next s

/-- Whether a record would still be sent: it passes FILTER, is sound, and has the domain of the first one. -/
def State.rpSendable (s : State) (r : Nat) : Option Nat → List RpItem → Bool
  | _, [] => false
  | dom, x :: rest =>
    if x.hdrBad || x.bad || !s.rpPasses r x.it then s.rpSendable r dom rest
    else match dom with
      | none => true
      | some d => x.it.domain == d || s.rpSendable r dom rest

/-- REPLAY_DONE (R346): the last record has been read and no frame is in flight. Records that are skipped are read first. -/
def execReplayDone (r : Nat) (s : State) : Host.Outcome State Fault Refusal :=
  if 4 ≤ r then .fault .noSuchInstance
  else
    let e := s.replay r
    let rest := (s.rpRecords (s.fld (F.CD_RP_CFG.RING r))).drop e.pos
    if s.replayBusy r && s.fld (F.CD_RP_STATUS.INFLIGHT r) == 0 && !s.rpSendable r (e.s0.map (·.2)) rest then
      .next ((s.rpRead r e.pos rest).replayEnd r 3)
    else .next s

end Sys2Proof.Machine
end

