-- ==== Sys2Proof/Machine/ImageCheck.lean ====
section
/-! DEFINITION. Checks 1 to 14 of an image (03_damivo_image.md, R61 to R79, Table 03.18). Within a check the fields are tested in the order of
Table 03.18's columns and of their offsets (DEDUCED, log entry 12). -/

namespace Sys2Proof.Machine

/-- A failed check (R81): its number and code, type and INST of the segment being checked, and the offset in the image. -/
structure ImgFail where
  check : Nat
  code : Nat
  segType : Nat
  segInst : Nat
  ofs : Nat
  deriving DecidableEq, Repr

/-- A segment found by the walk of check 7: type, INST, offset of its header and body length. -/
structure ImgSeg where
  ty : Nat
  inst : Nat
  ofs : Nat
  len : Nat
  deriving DecidableEq, Repr

/-- What an image is judged against: the fetched length, and for a partial image the serial of the running full image and the slice asked for. -/
structure ImgJudge where
  fetched : Nat
  part : Option (Nat × Nat)
  used : List Nat
  deriving DecidableEq, Repr

/-- The first broken test of a list of (offset, broken). -/
def imgFirst (check code ty inst : Nat) (ts : List (Nat × Bool)) : Option ImgFail :=
  (ts.find? (·.2)).map fun t => ⟨check, code, ty, inst, t.1⟩

/-- The `n`-byte field at `o` is outside a range; a signed field likewise; a reserved field is not zero. -/
def imgRange (img : List Byte) (o n lo hi : Nat) : Nat × Bool := (o, decide (leAt img o n < lo) || decide (hi < leAt img o n))
def imgSigned (img : List Byte) (o n : Nat) (lo hi : Int) : Nat × Bool :=
  (o, decide (signed (8 * n) (leAt img o n) < lo) || decide (hi < signed (8 * n) (leAt img o n)))
def imgZero (img : List Byte) (o n : Nat) : Nat × Bool := (o, !allZero (slice img o n))

/-! ## Layout (Table 03.3) -/

/-- Body offsets of the segments of fixed length in a full image. -/
def ImgAt.STRUCT : Nat := 80
def ImgAt.LANE : Nat := 112
def ImgAt.PORT : Nat := 1664
def ImgAt.POOL : Nat := 7824
def ImgAt.CADDY : Nat := 7872
def ImgAt.TIME : Nat := 8016
def ImgAt.VANE : Nat := 8320
def ImgAt.PINS : Nat := 8440
/-- Offset of the first SLICE segment's header. -/
def ImgAt.SLICES : Nat := 8776

/-- Offset of the domain record `d`. -/
def imgDom (d : Nat) : Nat := ImgAt.TIME + 32 + 32 * d

/-- TRAILER_OFS, and IMAGE_SERIAL. -/
def imgTrailer (img : List Byte) : Nat := leAt img 0x28 4
def imgSerial (img : List Byte) : Nat := leAt img 0x10 8

/-- The segments an image must hold, in order: type, INST (none: any slice) and fixed length. -/
def imgPlan (partialImg : Bool) : List (Nat × Option Nat × Option Nat) :=
  if partialImg then [(0x10, none, none)]
  else
    [(1, some 0, some 16), (2, some 0, some 1536), (3, some 0, some 6144), (4, some 0, some 32), (5, some 0, some 128), (6, some 0, some 288),
      (7, some 0, some 104), (8, some 0, some 336), (0x10, some 0, none), (0x10, some 1, none), (0x10, some 2, none), (0x10, some 3, none)]

/-- MODE of lane `l`, and whether port number `p` is in use (R1 to R3). -/
def imgMode (img : List Byte) (l : Nat) : Nat := leAt img (ImgAt.LANE + 8 * l) 1
def imgFour (m : Nat) : Bool := m == 4 || m == 6
def imgUsed (img : List Byte) (p : Nat) : Bool := imgMode img p != 0 && (!imgFour (imgMode img p) || p % 4 == 0)

/-! ## Checks 1 to 11 -/

/-- The tests of a segment header at `o` (check 7). -/
def imgHeadTests (img : List Byte) (tr o ty : Nat) (inst len : Option Nat) : List (Nat × Bool) :=
  let n := leAt img (o + 4) 4
  [(o, decide (tr < o + 16) || leAt img o 2 != ty),
    (o + 2, match inst with | some i => leAt img (o + 2) 1 != i | none => decide (3 < leAt img (o + 2) 1)),
    (o + 3, leAt img (o + 3) 1 != 1),
    (o + 4, n % 8 != 0 || (match len with | some k => n != k | none => false) || decide (tr < o + 16 + n))]

/-- The segment walk (check 7). A SLICE body holds its header and one nested TABLE segment to its end (R76). -/
def imgWalk (img : List Byte) (tr : Nat) : List (Nat × Option Nat × Option Nat) → Nat → List ImgSeg → Option ImgFail × List ImgSeg
  | [], o, acc => if o = tr then (none, acc.reverse) else (some ⟨7, Err.IMAGE_CHECK, 0, 0, o⟩, acc.reverse)
  | (ty, inst, len) :: rest, o, acc =>
    let n := leAt img (o + 4) 4
    let i := leAt img (o + 2) 1
    let here := ImgSeg.mk ty i o n
    match imgFirst 7 Err.IMAGE_CHECK (if tr < o + 16 then 0 else leAt img o 1) (if tr < o + 16 then 0 else i % 4)
        (imgHeadTests img tr o ty inst len ++ [(o + 4, ty == 0x10 && decide (n < 48))]) with
    | some f => (some f, acc.reverse)
    | none =>
      if ty = 0x10 then
        match imgFirst 7 Err.IMAGE_CHECK (leAt img (o + 48) 1) (leAt img (o + 50) 1 % 4)
            (imgHeadTests img tr (o + 48) 0x20 (some 0) (some (n - 48))) with
        | some f => (some f, acc.reverse)
        | none => imgWalk img tr rest (o + 16 + n) (ImgSeg.mk 0x20 0 (o + 48) (n - 48) :: here :: acc)
      else imgWalk img tr rest (o + 16 + n) (here :: acc)

/-- The segment's CRC does not match (R64). -/
def imgCrcBad (img : List Byte) (g : ImgSeg) : Bool :=
  crc32c (slice img g.ofs 12 ++ slice img (g.ofs + 16) g.len) != leAt img (g.ofs + 12) 4

/-- The first failure among segments. -/
def imgEach (gs : List ImgSeg) (check : Nat) (tests : ImgSeg → List (Nat × Bool)) : Option ImgFail :=
  gs.findSome? fun g => imgFirst check Err.IMAGE_CHECK (g.ty % 256) g.inst (tests g)

/-- Checks 1 to 6, on the header (Table 03.1). -/
def imgHeader (img : List Byte) (j : ImgJudge) : Option ImgFail :=
  let total := leAt img 8 4
  let part := j.part.isSome
  imgFirst 1 Err.IMAGE_CHECK 0 0 [(0x3C, decide (img.length < 64) || crc32c (slice img 0 0x3C) != leAt img 0x3C 4)] <|>
  imgFirst 2 Err.IMAGE_CHECK 0 0
    [(0, leAt img 0 4 != 0x444D5649), (0x10, imgSerial img == 0), (0x20, leAt img 0x20 4 != 0x7192), (0x24, leAt img 0x24 4 != 64),
      (0x28, imgTrailer img + 144 != total)] <|>
  imgFirst 3 Err.IMAGE_VERSION 0 0 [(4, leAt img 4 2 != 1)] <|>
  imgFirst 4 Err.IMAGE_CHECK 0 0 [(6, leAt img 6 1 != (if part then 2 else 1)), (0xC, leAt img 0xC 2 != (if part then 1 else 12))] <|>
  imgFirst 5 Err.IMAGE_VERSION 0 0
    [(0x18, match j.part with
      | some (base, _) => leAt img 0x18 8 != base || leAt img 0x18 8 == imgSerial img
      | none => leAt img 0x18 8 != 0)] <|>
  imgFirst 6 Err.IMAGE_CHECK 0 0 [(8, total != j.fetched || total != img.length || total % 8 != 0 || decide (2 ^ 25 < total))]

/-- Checks 9 to 11, on the trailer (Table 03.17, R78, R79). -/
def imgTrailerChecks (img : List Byte) : Option ImgFail :=
  let t := imgTrailer img
  let x := leAt img (t + 0x10) 32
  let y := leAt img (t + 0x30) 32
  imgFirst 9 Err.IMAGE_CHECK 0 0 [(t, leAt img t 4 != 0x5349474E), (t + 4, leAt img (t + 4) 2 != 1)] <|>
  imgFirst 10 Err.IMAGE_AUTH 0 0
    [(t + 0x10, Config.keyHash != 0 && sha256 (slice img (t + 0x10) 64) != Config.keyHash.toNat)] <|>
  imgFirst 11 Err.IMAGE_AUTH 0 0
    [(t + 0x10, !ecOnCurve x y),
      (t + 0x50, !ecdsaOk x y (sha256 (img.take (t + 0x50))) (leAt img (t + 0x50) 32) (leAt img (t + 0x70) 32))]

/-! ## Check 12: ranges and reserved fields -/

def imgStruct (img : List Byte) (b : Nat) : List (Nat × Bool) :=
  [imgRange img b 1 4 5, imgRange img (b + 1) 1 1 15, imgRange img (b + 2) 1 1 32, imgZero img (b + 3) 1, imgRange img (b + 4) 4 0 0x7FFFF,
    imgZero img (b + 8) 8]

/-- A LANE record (Table 03.6). -/
def imgLane (img : List Byte) (o : Nat) : List (Nat × Bool) :=
  let m := leAt img o 1
  let f := leAt img (o + 1) 1
  [imgRange img o 1 0 6, (o + 1, if m = 3 then decide (2 < f) else if m = 4 then f != 3 else f != 0),
    (o + 2, decide ((if m = 5 ∨ m = 6 then 4 else 0) < leAt img (o + 2) 1)), imgRange img (o + 3) 1 0 3, imgZero img (o + 4) 4]

/-- A PORT record (Table 03.7): the record of a port number in use has its ranges. -/
def imgPort (img : List Byte) (used : Bool) (o : Nat) : List (Nat × Bool) :=
  (if used then
    [imgRange img o 1 0 1, imgRange img (o + 1) 1 0 7, imgRange img (o + 2) 1 0 3, imgSigned img (o + 3) 1 (-7) 0,
      imgRange img (o + 8) 4 1 2000000, imgRange img (o + 12) 4 1 1000000, imgRange img (o + 16) 2 1 60000,
      (o + 19, decide (7 < leAt img (o + 19) 1) && leAt img (o + 19) 1 != 0xFF), imgRange img (o + 20) 2 1 4094, imgRange img (o + 22) 1 0 7]
  else []) ++ [imgZero img (o + 23) 9]

def imgPool (img : List Byte) (b : Nat) : List (Nat × Bool) :=
  [imgRange img b 4 65536 393216, imgRange img (b + 4) 4 1024 49152, imgRange img (b + 8) 4 256 9830, imgRange img (b + 12) 2 16 1024,
    imgZero img (b + 14) 2, imgRange img (b + 16) 4 10 10000, imgZero img (b + 20) 12]

/-- A CADDY record (Table 03.9). -/
def imgRing (img : List Byte) (o : Nat) : List (Nat × Bool) :=
  let n := leAt img o 4
  [(o, n != 0 && (decide (n < 4) || decide (32768 < n))), (o + 4, decide ((if n = 0 then 0 else 100000000) < leAt img (o + 4) 4)),
    (o + 8, decide ((if n = 0 then 0 else 100000000) < leAt img (o + 8) 4)), imgZero img (o + 12) 4]

/-- The TIME header (Table 03.10) and a domain record (Table 03.11). -/
def imgTime (img : List Byte) (b : Nat) : List (Nat × Bool) :=
  [imgRange img b 1 0 2, imgZero img (b + 1) 1, imgRange img (b + 2) 2 1 600, imgRange img (b + 4) 4 10 1000000,
    imgRange img (b + 8) 4 100 1000000000, imgRange img (b + 12) 4 600 100000, imgRange img (b + 16) 2 0 8760, imgZero img (b + 18) 14] ++
  (List.range 8).flatMap fun d =>
    let o := b + 32 + 32 * d
    [imgRange img o 1 0 2, imgRange img (o + 1) 1 0 1, imgRange img (o + 2) 1 0 7, imgZero img (o + 3) 1, imgRange img (o + 12) 4 1000 1000000,
      imgZero img (o + 28) 4]

/-- A VANE candidate record (Table 03.13). -/
def imgCand (img : List Byte) (o : Nat) : List (Nat × Bool) :=
  let src := leAt img o 1
  if src = 0xFF then [imgZero img (o + 1) 7]
  else
    [(o, decide (191 < src) && (decide (src < 0xC0) || decide (0xC2 < src))), imgRange img (o + 1) 1 1 255,
      imgRange img (o + 2) 1 0 (if src < 192 then 0 else 15), imgRange img (o + 3) 1 0 (if src < 192 then 0 else 1), imgZero img (o + 4) 4]

def imgVane (img : List Byte) (b : Nat) : List (Nat × Bool) :=
  [imgRange img b 2 100 19900, imgRange img (b + 2) 2 200 20000, imgRange img (b + 4) 2 1 720, imgRange img (b + 6) 2 1 500,
    imgZero img (b + 8) 8] ++ (List.range 11).flatMap fun i => imgCand img (b + 16 + 8 * i)

/-- The PINS body (Table 03.14). -/
def imgPins (img : List Byte) (b : Nat) : List (Nat × Bool) :=
  ((List.range 32).flatMap fun n =>
    let o := b + 4 * n
    if leAt img o 1 = 0 then [imgZero img o 4]
    else [imgRange img o 1 0 1, imgRange img (o + 1) 1 0 2, imgRange img (o + 2) 1 0 15, imgRange img (o + 3) 1 0 7]) ++
  ((List.range 32).flatMap fun n =>
    let o := b + 0x80 + 4 * n
    if leAt img o 1 = 0 then [imgZero img o 4]
    else [imgRange img o 1 0 1, imgRange img (o + 1) 1 0 7, imgRange img (o + 2) 1 0 1, imgZero img (o + 3) 1]) ++
  ((List.range 8).flatMap fun k =>
    let o := b + 0x100 + 8 * k
    [imgRange img o 1 0 1, imgZero img (o + 1) 3,
      if leAt img o 1 = 1 then imgRange img (o + 4) 4 1000 350000000 else imgZero img (o + 4) 4]) ++
  ((List.range 8).map fun i => (b + 0x140 + i, decide (191 < leAt img (b + 0x140 + i) 1) && leAt img (b + 0x140 + i) 1 != 0xFF)) ++
  [imgRange img (b + 0x148) 2 1 1000, imgZero img (b + 0x14A) 6]

/-- The slice header (Table 03.15). -/
def imgSlice (img : List Byte) (b : Nat) : List (Nat × Bool) :=
  let f := leAt img b 4
  let n := leAt img (b + 4) 4
  let c := leAt img (b + 8) 4
  [(b, !(List.range 5).any fun i => f == 2 ^ (14 + i)), (b + 4, n % 1024 != 0 || decide (n < 1024) || decide (131072 < n)),
    (b + 8, c % 256 != 0 || decide (c < 256) || decide (16384 < c)), imgRange img (b + 12) 2 1 3600, imgRange img (b + 14) 2 1 65535,
    imgRange img (b + 16) 1 0 3, imgZero img (b + 17) 15]

/-- Length of a preload record of each kind (Table 03.16). -/
def preLen (kind : Nat) : Nat := if kind = 1 then 16 else if kind = 2 then 24 else if kind = 3 then 72 else 8

/-- Preload records of a TABLE body from `o` to `e`; `fuel` bounds them. -/
def imgRecords (img : List Byte) (e : Nat) : Nat → Nat → List Nat
  | 0, _ => []
  | fuel + 1, o => if e ≤ o then [] else o :: imgRecords img e fuel (o + preLen (leAt img o 1))

def ImgSeg.records (g : ImgSeg) (img : List Byte) : List Nat := imgRecords img (g.ofs + 16 + g.len) (g.len / 8 + 1) (g.ofs + 16)

/-- Form of a preload record (Table 03.16). -/
def imgRecord (img : List Byte) (e o : Nat) : List (Nat × Bool) :=
  let k := leAt img o 1
  [(o, decide (e < o + 8) || k == 0 || decide (3 < k)), (o + 1, decide ((if k = 1 then 1 else 0) < leAt img (o + 1) 1)),
    (o + 2, leAt img (o + 2) 2 != preLen k || decide (e < o + preLen k))] ++
    (if k = 1 then [imgRange img (o + 4) 2 0 4095, imgZero img (o + 14) 2] else [])

/-- Ranges and reserved fields of a segment. -/
def imgRanges (img : List Byte) (g : ImgSeg) : List (Nat × Bool) :=
  let b := g.ofs + 16
  imgZero img (g.ofs + 8) 4 ::
    (if g.ty = 1 then imgStruct img b
    else if g.ty = 2 then (List.range 192).flatMap fun l => imgLane img (b + 8 * l)
    else if g.ty = 3 then (List.range 192).flatMap fun p => imgPort img (imgUsed img p) (b + 32 * p)
    else if g.ty = 4 then imgPool img b
    else if g.ty = 5 then (List.range 8).flatMap fun n => imgRing img (b + 16 * n)
    else if g.ty = 6 then imgTime img b
    else if g.ty = 7 then imgVane img b
    else if g.ty = 8 then imgPins img b
    else if g.ty = 0x10 then imgSlice img b
    else (g.records img).flatMap fun o => imgRecord img (b + g.len) o)

/-! ## Check 13: cross-checks -/

/-- Bonding (R2, R69): lanes 4k to 4k + 3 of a four-lane mode carry the same MODE, FEC and TRUNK_MAX. -/
def imgBonding (img : List Byte) : List (Nat × Bool) :=
  (List.range 48).map fun k =>
    let o := ImgAt.LANE + 32 * k
    (o, ((List.range 4).any fun i => imgFour (leAt img (o + 8 * i) 1)) && (List.range 4).any fun i => leAt img (o + 8 * i) 3 != leAt img o 3)

/-- Fields of the PORT record of port `p`, and KIND of domain `d`. -/
def imgPortDom (img : List Byte) (p : Nat) : Nat := leAt img (ImgAt.PORT + 32 * p + 1) 1
def imgPortRole (img : List Byte) (p : Nat) : Nat := leAt img (ImgAt.PORT + 32 * p + 2) 1
def imgKind (img : List Byte) (d : Nat) : Nat := leAt img (imgDom d) 1

/-- Port records (R70): all zero where unused; one SLAVE per domain. -/
def imgPortRecs (img : List Byte) : List (Nat × Bool) :=
  (List.range 192).map fun p =>
    let o := ImgAt.PORT + 32 * p
    if imgUsed img p then
      (o + 2, imgPortRole img p == 2 &&
        (List.range p).any fun q => imgUsed img q && imgPortRole img q == 2 && imgPortDom img q == imgPortDom img p)
    else imgZero img o 32

/-- Domain use in the TIME segment (R73, R230). -/
def imgDomains (img : List Byte) : List (Nat × Bool) :=
  (imgDom 0, imgKind img 0 != 1) :: (List.range 8).flatMap fun d =>
    let o := imgDom d
    [(o + 1, imgKind img d == 2 && leAt img (o + 1) 1 == 1), (o + 4, decide (2 ^ 24 * 2 ^ leAt img (o + 2) 1 ≤ leAt img (o + 4) 4)),
      (o + 12, d % 2 == 1 && leAt img (o + 12) 4 != leAt img (imgDom (d - 1) + 12) 4),
      (o + 16, imgKind img d == 1 && leAt img (o + 16) 12 != 0)]

/-- Domain use in the PORT segment (R70, R230) and in the PINS segment (R75). -/
def imgPortUse (img : List Byte) : List (Nat × Bool) :=
  ((List.range 192).filter (imgUsed img)).flatMap fun p =>
    let o := ImgAt.PORT + 32 * p
    [(o + 1, imgKind img (imgPortDom img p) == 0), (o + 2, imgPortRole img p == 2 && imgKind img (imgPortDom img p) == 2)]
def imgPinUse (img : List Byte) : List (Nat × Bool) :=
  (List.range 32).map (fun n =>
    let o := ImgAt.PINS + 4 * n
    (o + 3, leAt img o 1 == 1 && imgKind img (leAt img (o + 3) 1) == 0)) ++
  (List.range 32).map fun n =>
    let o := ImgAt.PINS + 0x80 + 4 * n
    (o + 1, leAt img o 1 == 1 && imgKind img (leAt img (o + 1) 1) == 0)

/-- Vane candidates (R74, R311). -/
def imgCands (img : List Byte) : List (Nat × Bool) :=
  let b := ImgAt.VANE
  let src : Nat → Nat := fun i => leAt img (b + 16 + 8 * i) 1
  let tb := leAt img ImgAt.TIME 1
  [(b, decide (leAt img (b + 2) 2 ≤ leAt img b 2)), (b + 16, (List.range 11).all fun i => src i == 0xFF)] ++
    ((List.range 11).filter fun i => src i != 0xFF).flatMap fun i =>
      let o := b + 16 + 8 * i
      let q := leAt img (o + 2) 1
      [(o, (List.range i).any fun k => src k == src i),
        (o, decide (src i < 192) && (imgMode img (src i) == 0 || decide (8 ≤ ((List.range i).filter fun k => decide (src k < 192)).length))),
        (o, src i == 0xC2 && tb == 2),
        (o + 2, decide (192 ≤ src i) && q != 2 && q != 4 && q != 8 && q != 0xB),
        (o + 3, src i == 0xC2 && leAt img (o + 3) 1 != tb)]

/-- Wake lanes (R75): the used entries come first and name lanes that are in use. -/
def imgWake (img : List Byte) (i : Nat) : Nat := leAt img (ImgAt.PINS + 0x140 + i) 1
def imgWakes (img : List Byte) : List (Nat × Bool) :=
  (List.range 8).map fun i =>
    (ImgAt.PINS + 0x140 + i, imgWake img i != 0xFF &&
      (imgMode img (imgWake img i) == 0 || (List.range i).any fun k => imgWake img k == 0xFF))

/-- The pool sum and the egress reserve (R71), and the ring sum (R72). -/
def imgPoolSum (img : List Byte) : List (Nat × Bool) :=
  let b := ImgAt.POOL
  [(b, decide (100663296 < leAt img b 4 * 256 + leAt img (b + 4) 4 * 2048 + leAt img (b + 8) 4 * 10240)),
    (b + 12, decide (leAt img b 4 < 2 * (leAt img (b + 12) 2 * ((List.range 192).filter (imgUsed img)).length)))]
def imgChunks (img : List Byte) (n : Nat) : Nat := leAt img (ImgAt.CADDY + 16 * n) 4
def imgRingSum (img : List Byte) : List (Nat × Bool) :=
  [(ImgAt.CADDY, decide ((32 - leAt img (ImgAt.STRUCT + 2) 1) * 1024 < ((List.range 8).map (imgChunks img)).sum))]

/-- The table carve of a slice (R76). -/
def imgCarve (img : List Byte) (b : Nat) : List (Nat × Bool) :=
  [(b, decide (3670016 < leAt img b 4 * 8 + leAt img (b + 4) 4 * 16 + leAt img (b + 8) 4 * 64))]

/-- Check 13. -/
def imgCross (img : List Byte) (full : Bool) (gs : List ImgSeg) : Option ImgFail :=
  let t : Nat → List (Nat × Bool) → Option ImgFail := fun ty ts => if full then imgFirst 13 Err.IMAGE_CHECK ty 0 ts else none
  t 2 (imgBonding img) <|> t 3 (imgPortRecs img) <|> t 6 (imgDomains img) <|> t 3 (imgPortUse img) <|> t 8 (imgPinUse img) <|>
    t 7 (imgCands img) <|> t 8 (imgWakes img) <|> t 4 (imgPoolSum img) <|> t 5 (imgRingSum img) <|>
    imgEach gs 13 fun g => if g.ty = 0x10 then imgCarve img (g.ofs + 16) else []

/-! ## Check 14: preload records (R77) -/

/-- Key of an FDB record; the data of a stream or classifier record. -/
def preKey (img : List Byte) (o : Nat) : Nat := fdbKey (leAt img (o + 4) 2) (beAt img (o + 8) 6)
def preIndex (img : List Byte) (o : Nat) : Nat := leAt img (o + 4) 4
def preData (img : List Byte) (o : Nat) : Nat := leAt img (o + 8) (if leAt img o 1 = 2 then 16 else 64)

/-- Tests of one record; `seen` lists kind and key or index of the records before it, `b` is the slice header. -/
def imgPreload (img : List Byte) (used : Nat → Bool) (b o : Nat) (seen : List (Nat × Nat)) : List (Nat × Bool) :=
  let k := leAt img o 1
  let streams := leAt img (b + 4) 4
  let classes := leAt img (b + 8) 4
  if k = 1 then
    let d := leAt img (o + 6) 2
    [(o + 4, seen.contains (1, preKey img o)), (o + 6, if bitAt (leAt img (o + 1) 1) 0 then decide (2047 < d) else !used d)]
  else
    let i := preIndex img o
    let v := preData img o
    [(o + 4, decide ((if k = 2 then streams else clsLimit classes (clsType v)) ≤ i) || seen.contains (k, i)),
      (o + 8, if k = 2 then strIllegal streams i v else clsIllegalWith streams used v)]

def imgPreloads (img : List Byte) (used : Nat → Bool) (b : Nat) : List Nat → List (Nat × Nat) → List (Nat × Bool)
  | [], _ => []
  | o :: r, seen =>
    let k := leAt img o 1
    imgPreload img used b o seen ++ imgPreloads img used b r ((k, if k = 1 then preKey img o else preIndex img o) :: seen)

/-! ## All checks -/

/-- Checks 7 to 14, once the header has passed. -/
def imgBody (img : List Byte) (j : ImgJudge) : Option ImgFail :=
  let tr := imgTrailer img
  let full := j.part.isNone
  let w := imgWalk img tr (imgPlan j.part.isSome) 64 []
  let gs := w.2
  let used : Nat → Bool := fun p => if full then decide (p < 192) && imgUsed img p else j.used.contains p
  w.1 <|>
  (match j.part with
    | some (_, sl) => imgFirst 7 Err.IMAGE_CHECK 0x10 (leAt img 66 1) [(66, leAt img 66 1 != sl)]
    | none => none) <|>
  imgEach gs 8 (fun g => [(g.ofs + 12, imgCrcBad img g)]) <|>
  imgTrailerChecks img <|>
  imgFirst 12 Err.IMAGE_CHECK 0 0 [imgZero img 7 1, imgZero img 0xE 2] <|>
  imgEach gs 12 (imgRanges img) <|>
  imgFirst 12 Err.IMAGE_CHECK 0 0 [imgZero img (tr + 6) 10] <|>
  imgCross img full gs <|>
  imgEach gs 14 fun g => if g.ty = 0x20 then imgPreloads img used (g.ofs - 32) (g.records img) [] else []

/-- The first of checks 1 to 14 that fails (R81). -/
def imgCheck (img : List Byte) (j : ImgJudge) : Option ImgFail := imgHeader img j <|> imgBody img j

end Sys2Proof.Machine
end

