-- ==== Sys2Proof/Machine/Image.lean ====
section
/-! DEFINITION. LOAD and partial images (03_damivo_image.md, R80 to R87), the calibration records (R307, R308), and the entry to STEEP. -/

namespace Sys2Proof.Machine

/-! ## Calibration (R307, R308) -/

/-- Whether the header of a record set is valid but for its UID (Table 10.4): a factory header has SEQ 0, and a set keeps within its place (R307). -/
def calValid (bs : List Byte) (src : Nat) : Bool :=
  leAt bs 0 4 == 0x43414C21 && leAt bs 4 2 == 1 && leAt bs 6 1 == src && leAt bs 7 1 == 0 && leAt bs 8 4 % 8 == 0 && leAt bs 14 2 == 0 &&
    decide (leAt bs 8 4 ≤ bs.length) && decide (leAt bs 8 4 ≤ (if src = 0 then 2 ^ 16 else 2 ^ 20)) && (src == 1 || leAt bs 0x18 4 == 0) &&
    crc32c (slice bs 0 0x1C) == leAt bs 0x1C 4

def calUidOk (bs : List Byte) : Bool := leAt bs 0x10 8 == Config.uid.toNat

/-- The records of a set: whether the CRC is good, TYPE, INST and body. -/
def calRecords (bs : List Byte) : Nat → Nat → List (Bool × Nat × Nat × List Byte)
  | 0, _ => []
  | k + 1, o =>
    let n := leAt bs (o + 4) 4
    if bs.length < o + n + 12 then [(false, 0, 0, [])]
    else
      (crc32c (slice bs o (8 + n)) == leAt bs (o + 8 + n) 4, leAt bs o 2, leAt bs (o + 2) 2, slice bs (o + 8) n) ::
        calRecords bs k (o + 8 * ceilDiv (n + 12) 8)

def calAll (bs : List Byte) : List (Bool × Nat × Nat × List Byte) := calRecords (bs.take (leAt bs 8 4)) (leAt bs 12 2) 0x20

/-- Take the value of one record (Table 10.5). A TYPE, an INST or a length that the table does not give is passed over (log entry 13). -/
def Cal.take (c : Cal) (r : Nat × Nat × List Byte) : Cal :=
  let i := r.2.1
  let b := r.2.2
  if r.1 = 1 ∧ i < 192 ∧ b.length = 88 then
    { c with lane := c.lane.put i ((List.range 11).map fun k => (signed 32 (leAt b (8 * k) 4), signed 32 (leAt b (8 * k + 4) 4))) }
  else if r.1 = 2 ∧ i < 192 ∧ b.length = 88 then { c with eq := c.eq.put i b }
  else if r.1 = 3 ∧ i < 32 ∧ b.length = 4 then { c with evt := c.evt.setD i (signed 32 (leNat b)) 0 }
  else if r.1 = 4 ∧ i < 32 ∧ b.length = 4 then { c with pls := c.pls.setD i (signed 32 (leNat b)) 0 }
  else c

/-- Every good record in turn. -/
def Cal.takeAll (c : Cal) (rs : List (Bool × Nat × Nat × List Byte)) : Cal :=
  rs.foldl (fun c r => if r.1 then c.take r.2 else c) c

/-- The copy chosen (R308, step 2): 0 none, 1 copy 0, 2 copy 1. Of two copies with the same SEQ, copy 0 (log entry 13). -/
def calChoice (c : CalFlash) : Nat :=
  let ok0 := calValid c.copy0 1 && calUidOk c.copy0
  let ok1 := calValid c.copy1 1 && calUidOk c.copy1
  if ok0 && ok1 then (if leAt c.copy0 0x18 4 < leAt c.copy1 0x18 4 then 2 else 1) else if ok0 then 1 else if ok1 then 2 else 0

/-- Calibration is read (R308): the values of lanes that satisfy `lanes`, and of the pins where `pins`, are replaced. -/
def State.readCal (s : State) (c : CalFlash) (lanes : Nat → Bool) (pins : Bool) : State :=
  let factOk := calValid Config.otpCal 0 && calUidOk Config.otpCal
  let fact := if factOk then calAll Config.otpCal else []
  let bad := !factOk || fact.any fun r => !r.1
  let n := calChoice c
  let field := if n = 1 then calAll c.copy0 else if n = 2 then calAll c.copy1 else []
  let new := (Cal.fresh.takeAll fact).takeAll field
  let old := s.cal
  let laneMap := (new.lane.filter fun l _ => lanes l).entries.foldl (fun m e => m.put e.1 e.2) (old.lane.filter fun l _ => !lanes l)
  let eqMap := (new.eq.filter fun l _ => lanes l).entries.foldl (fun m e => m.put e.1 e.2) (old.eq.filter fun l _ => !lanes l)
  let s1 := { s with cal := ⟨laneMap, eqMap, if pins then new.evt else old.evt, if pins then new.pls else old.pls⟩ }
  let uid := (calValid c.copy0 1 && !calUidOk c.copy0) || (calValid c.copy1 1 && !calUidOk c.copy1)
  let s2 := ((s1.setFld F.PH_CAL_STATUS.COPY n).setFld F.PH_CAL_STATUS.FACT_BAD (b2n bad)).setFld F.PH_CAL_STATUS.FIELD_REC_BAD
    (b2n (field.any fun r => !r.1))
  let s3 := s2.setFld F.PH_CAL_STATUS.UID_MISMATCH (b2n uid)
  if bad then s3.spoutEvent Sp.PH_CAL 0 1 else s3

/-! ## Tables of a slice (R76, R77, R85) -/

/-- One preload record is inserted; `false` is a failure of check 15. -/
def State.preload (s : State) (i : Nat) (img : List Byte) (o : Nat) : State × Bool :=
  let k := leAt img o 1
  let t := s.slice i
  if k = 1 then
    match t.fdbPlace (s.fdbLg i) ⟨preKey img o, true, bitAt (leAt img (o + 1) 1) 0, leAt img (o + 6) 2⟩ with
    | (t1, none) => (s.setSlice i t1, false)
    | (t1, some (m, st)) =>
      let s1 := (s.setSlice i t1).countN (Reg.SLC_CNT i 13) m
      (if st then s1.count (Reg.SLC_CNT i 7) else s1, true)
  else if k = 2 then (s.setSlice i { t with streams := t.streams.setD (preIndex img o) (preData img o) 0 }, true)
  else (s.setSlice i (t.clsPut (preIndex img o) (preData img o) s.cycle), true)

/-- The slice-space runtime registers of slice `i` take the values of the SLICE segment whose body is at `b`; every fixed-latency profile is disabled
with latency 0 (R85, R213). -/
def State.slcRegs (s : State) (i : Nat) (img : List Byte) (b : Nat) : State :=
  let s1 := s.porWhere fun a => decide (Reg.SLC_FLAT i 1 ≤ a) && decide (a ≤ Reg.SLC_FLAT i 255)
  let s2 := (s1.setFld (F.SLC_AGE.AGE_S i) (leAt img (b + 12) 2)).setFld (F.SLC_MOVE.THRESH i) (leAt img (b + 14) 2)
  (s2.setFld (F.SLC_LEARN.ING i) (leAt img (b + 16) 1)).setFld (F.SLC_LEARN.EGR i) (leAt img (b + 16) 1 / 2)

/-- The SLICE segment whose body is at `b` is applied to slice `i`: its tables are cleared, carved and filled. -/
def State.carve (s : State) (i : Nat) (img : List Byte) (b : Nat) : State × Bool :=
  let t := s.slice i
  let s1 := s.setSlice i { Slice.fresh with moves := t.moves, tw := t.tw, eseen := t.eseen }
  let lg := Nat.log2 (leAt img b 4)
  let s2 := s1.wr (Reg.SLC_CARVE i) (BitVec.ofNat 64 (lg + leAt img (b + 4) 4 / 1024 * 2 ^ 5 + leAt img (b + 8) 4 / 256 * 2 ^ 13))
  let g : ImgSeg := ⟨0x20, 0, b + 32, leAt img (b + 36) 4⟩
  (g.records img).foldl (fun r o => if r.2 then r.1.preload i img o else r) (s2.scanTouch 0 i 0 (2 ^ 40), true)

/-- Offset of SLICE_i's header in the held image. -/
def heldSlice (img : List Byte) : Nat → Nat
  | 0 => ImgAt.SLICES
  | i + 1 => let o := heldSlice img i; o + 16 + leAt img (o + 4) 4

/-- SLICE_i of the held image is applied to slice `i` again (R44, R59). -/
def State.reapply (s : State) (i : Nat) : State × Bool :=
  let b := heldSlice s.img.held i + 16
  (s.slcRegs i s.img.held b).carve i s.img.held b

/-- The state of slice `i` changes: a slice that leaves ACTIVE stops learning, and scans of its tables end as STALE (R152, Table 13.3); its
recovery interval ends when it is ACTIVE again (Table 01.8). -/
def State.setSlc (s : State) (i st : Nat) : State :=
  let s1 := s.setFld (F.slcState i) st
  if st = Slc.ACTIVE then s1.closeRecov i
  else if s.slc i = Slc.ACTIVE then (s1.scanStale 0 i).learnHalt i
  else s1

/-! ## Application of a full image (Table 03.19, step 5) -/

/-- STRUCT and LANE. -/
def State.applyStruct (s : State) (img : List Byte) : State :=
  let b := ImgAt.STRUCT
  let s1 := (s.setFld F.DEV_MODE.STEEP_TARGET (leAt img b 1)).setFld F.DEV_SLC_STATE.BREEZE_SET (leAt img (b + 1) 1)
  let all := s.dev.bootSel == 3 || leAt img b 1 == Mode.GALE
  let s2 := s1.setFld F.DEV_SLC_STATE.POWERED (if all then 15 else leAt img (b + 1) 1)
  { s2.setFld F.IMG_MUT_MASK.MASK (leAt img (b + 4) 4) with cfg := { s2.cfg with spillGib := leAt img (b + 2) 1 } }

def State.applyLanes (s : State) (img : List Byte) : State :=
  (List.range 192).foldl (fun t l =>
    let o := ImgAt.LANE + 8 * l
    let m := leAt img o 1
    let port := if m = 0 then 0xFF else if imgFour m then l - l % 4 else l
    t.wr (Reg.LN_CFG l) (BitVec.ofNat 64 (m + leAt img (o + 1) 1 * 2 ^ 4 + leAt img (o + 2) 1 * 2 ^ 8 + leAt img (o + 3) 1 * 2 ^ 12 +
      (if imgFour m then l % 4 else 0) * 2 ^ 14 + port * 2 ^ 16))) s

/-- The PORT record of a port in use (R70, R224, R279). -/
def State.applyPort (s : State) (img : List Byte) (p : Nat) : State :=
  let o := ImgAt.PORT + 32 * p
  let ls := leAt img (o + 3) 1 % 16
  let s1 := s.setFld (F.PRT_STATE.ADMIN p) (leAt img o 1)
  let s2 := s1.wr (Reg.PRT_TT_CFG p)
    (BitVec.ofNat 64 (leAt img (o + 2) 1 + ls * 2 ^ 4 + ls * 2 ^ 8 + leAt img (o + 1) 1 * 2 ^ 24))
  let s3 := (s2.setFld (F.PRT_TT_ASYM.COEF p) (leAt img (o + 4) 4)).setFld (F.PRT_TT_MID_2.ANY p) 1
  let s4 := (s3.setFld (F.PRT_LT_HORIZON.US p) (leAt img (o + 8) 4)).setFld (F.PRT_LT_STALE.NS p) (leAt img (o + 12) 4)
  let s5 := (s4.setFld (F.PRT_PFC.WD_MS p) (leAt img (o + 16) 2)).setFld (F.PRT_PFC.EN p) (leAt img (o + 18) 1)
  let s6 := s5.setFld (F.PRT_LT_CFG.LT_CLASS p) (leAt img (o + 19) 1)
  { s6 with cfg := { s6.cfg with
      defVlan := s6.cfg.defVlan.put p (leAt img (o + 20) 2), defPcp := s6.cfg.defPcp.put p (leAt img (o + 22) 1) } }

/-- The pools (R71, R163, R164). -/
def State.applyPool (s : State) (img : List Byte) : State :=
  let b := ImgAt.POOL
  let p0 := leAt img b 4
  let eg := leAt img (b + 12) 2
  let gib := s.cfg.spillGib
  let sizes : List Nat := [p0, leAt img (b + 4) 4, leAt img (b + 8) 4, gib * 16384 - 1024, (32 - gib) * 1024]
  let chunks := ((List.range 8).map (imgChunks img)).sum
  let s1 := (List.range 5).foldl (fun t k =>
    let n := sizes.getD k 0
    let free := if k = 4 then n - chunks else n
    ((t.setFld (F.BPM_POOL_SIZE.COUNT k) n).setFld (F.BPM_POOL_FREE.FREE k) free).setFld (F.BPM_POOL_LOW.LOW k) free) s
  let s2 := (s1.setFld F.BPM_P0_SPLIT.EG_MIN eg).setFld F.BPM_P0_SPLIT.HR_FREE 1024
  let s3 := s2.setFld F.BPM_SHARED_FREE.FREE (p0 - 1024 - eg * s.ports.length)
  (s3.setFld F.FAB_MC_RESIDUE.US (leAt img (b + 16) 4)).setFab Fabric.fresh

/-- Whether frozen ring `n` survives the LOAD (Table 02.11, note 3). -/
def State.ringSurvives (s : State) (img : List Byte) (n : Nat) : Bool :=
  s.ringState n == Ring.FROZEN && s.img.prevSerial == imgSerial img

/-- The CADDY records, the replay leads, and rings that do not survive (R72, R330, R348). -/
def State.applyCaddy (s : State) (img : List Byte) : State :=
  let s1 := (List.range 8).foldl (fun t n =>
    let o := ImgAt.CADDY + 16 * n
    let c := imgChunks img n
    let keep := s.ringSurvives img n
    let u := if keep then t
      else { t.porWhere (fun a => decide (Reg.CD_RING_CFG n ≤ a) && decide (a ≤ Reg.CD_RING_CNT n 7)) with
        caddy := { t.caddy with rings := t.caddy.rings.del n } }
    let v := u.wr (Reg.CD_RING_CFG n) (BitVec.ofNat 64 (c + (if c = 0 then 0 else 2 ^ 20)))
    let w := (v.setFld (F.CD_RING_PRE.US n) (leAt img (o + 4) 4)).setFld (F.CD_RING_POST.US n) (leAt img (o + 8) 4)
    if keep then w else w.setFld (F.CD_RING_STATUS.STATE n) (if c = 0 then Ring.ABSENT else Ring.IDLE)) s
  (List.range 4).foldl (fun t r => t.setFld (F.CD_RP_LEAD.US r) 100) s1

/-- The TIME segment (R73, R228, R237, R239), and the pairs that it forms (R245). -/
def State.applyTime (s : State) (img : List Byte) : State :=
  let b := ImgAt.TIME
  let warm := leAt img b 1 == 2 && s.dev.ocxoWarm
  let s1 := ((s.setFld F.KT_TB_STATUS.TIMEBASE (leAt img b 1)).setFld F.KT_TB_STATUS.WARM (b2n warm)).wr Reg.KT_CFG
    (BitVec.ofNat 64 (leAt img (b + 12) 4 + leAt img (b + 16) 2 * 2 ^ 17))
  let s2 := { s1 with cfg := { s1.cfg with
      acqLimitS := leAt img (b + 2) 2, acqThreshPs := leAt img (b + 4) 4, stepThreshNs := leAt img (b + 8) 4 } }
  ((List.range 8).foldl (fun t d =>
    let o := imgDom d
    let slave := ((List.range 192).find? fun p => imgUsed img p && imgPortRole img p == 2 && imgPortDom img p == d).getD 0xFF
    let manual := leAt img (o + 1) 1
    let u := t.wr (Reg.KT_DOM_CFG d) (BitVec.ofNat 64 (leAt img o 1 + leAt img (o + 2) 1 * 2 ^ 4 + slave * 2 ^ 8))
    let v := ((u.setFld (F.KT_KP.GAIN d) (leAt img (o + 4) 4)).setFld (F.KT_KI.GAIN d) (leAt img (o + 8) 4)).setFld (F.KT_SLEW.PS_S d)
      (leAt img (o + 12) 4)
    let w := v.setFld (F.KT_SERVO.MANUAL d) manual
    let x := if leAt img o 1 = 1 then
        w.wr (Reg.KT_OFS_CREDIT d) (if slave = 0xFF ∨ manual = 1 then 16 else 16 * 2 ^ 8)
      else w
    { x with cfg := { x.cfg with
        domOffset := x.cfg.domOffset.setD d (signed 64 (leAt img (o + 16) 8)) 0,
        domRatio := x.cfg.domRatio.setD d (signed 32 (leAt img (o + 24) 4)) 0,
        domServo := setBit x.cfg.domServo d (manual == 1) } }) s2).pairsForm

/-- The VANE segment (R74). -/
def State.applyVane (s : State) (img : List Byte) : State :=
  let b := ImgAt.VANE
  let s1 := (s.wr Reg.VN_CFG (BitVec.ofNat 64 (leAt img b 2 + leAt img (b + 2) 2 * 2 ^ 16))).wr Reg.VN_CFG1
    (BitVec.ofNat 64 (leAt img (b + 4) 2 + leAt img (b + 6) 2 * 2 ^ 16))
  (List.range 11).foldl (fun t i =>
    let o := b + 16 + 8 * i
    t.wr (Reg.VN_CAND_CFG i) (BitVec.ofNat 64 (leAt img o 3 % 2 ^ 20 + leAt img (o + 3) 1 % 2 * 2 ^ 20))) s1

/-- The event inputs and pulse outputs of an image's pin section. -/
def State.applyEvents (s : State) (img : List Byte) : State :=
  let b := ImgAt.PINS
  (List.range 32).foldl (fun t n =>
    let o := b + 4 * n
    let q := b + 0x80 + 4 * n
    let u := t.wr (Reg.PIN_EVT_CFG n)
      (BitVec.ofNat 64 (leAt img o 1 + leAt img (o + 1) 1 * 2 + leAt img (o + 2) 1 * 2 ^ 4 + leAt img (o + 3) 1 * 2 ^ 8))
    u.wr (Reg.PIN_PLS_STATUS n)
      (BitVec.ofNat 64 (leAt img q 1 * 2 ^ 3 + leAt img (q + 2) 1 * 2 ^ 4 + leAt img (q + 1) 1 * 2 ^ 5))) s

/-- The clock outputs of an image's pin section. -/
def State.applyClocks (s : State) (img : List Byte) : State :=
  (List.range 8).foldl (fun t k =>
    let o := ImgAt.PINS + 0x100 + 8 * k
    ((t.setFld (F.PIN_CLK_STATUS.FUNC k) (leAt img o 1)).setFld (F.PIN_CLK_CTRL.EN k) (leAt img o 1)).setFld (F.PIN_CLK_FREQ.HZ k)
      (leAt img (o + 4) 4)) s

/-- The wake settings of an image's pin section. -/
def State.applyWake (s : State) (img : List Byte) : State :=
  { s with cfg := { s.cfg with wakeLanes := ((List.range 8).map (imgWake img)).filter (· != 0xFF) } }

/-- The PINS segment (R75). -/
def State.applyPins (s : State) (img : List Byte) : State :=
  (((s.applyEvents img).applyClocks img).setFld F.DEV_WAKE_CFG.RAIL_TO (leAt img (ImgAt.PINS + 0x148) 2)).applyWake img

/-- The serials of a full image (R83). -/
def State.applySerial (s : State) (img : List Byte) : State :=
  let lo := BitVec.ofNat 64 (imgSerial img % 2 ^ 32)
  let hi := BitVec.ofNat 64 (imgSerial img / 2 ^ 32)
  (List.range 4).foldl (fun t i => (t.wr (Reg.IMG_SLC_SERIAL_LO i) lo).wr (Reg.IMG_SLC_SERIAL_HI i) hi)
    ((s.wr Reg.IMG_BASE_SERIAL_LO lo).wr Reg.IMG_BASE_SERIAL_HI hi)

/-- Steps 5 and 6: structure, runtime registers, tables of the powered slices and calibration. The number is the slice whose check 15 failed. -/
def State.applyImage (s : State) (img : List Byte) (cal : CalFlash) : State × Option Nat :=
  let s1 := ({ s with cfg := ImgCfg.fresh }.applyStruct img).applyLanes img
  let s2 := (s1.ports.foldl (fun t p => t.applyPort img p) s1).applyPool img
  let s3 := (((s2.applyCaddy img).applyTime img).applyVane img).applyPins img
  let s4 := { s3.applySerial img with img := { s3.img with held := img, shadowed := false, part := [], placed := 0 } }
  let r := (List.range 4).foldl (fun (r : State × Option Nat) i =>
    match r.2 with
    | some _ => r
    | none =>
      if r.1.powered i then
        match r.1.reapply i with
        | (t, true) => (t, none)
        | (t, false) => (t, some i)
      else r) (s4, none)
  let s5 := r.1.readCal cal (fun _ => true) true
  (s5.ports.foldl State.ttConsumer s5, r.2)

/-! ## Entry to STEEP (R33, R37) -/

/-- STEEP is entered: every enabled domain starts, and lanes wait for their PLLs. `fresh` time is none held by the AON timekeeper (R229). -/
def State.enterSteep (s : State) : State :=
  let s1 := { s with dev := { s.dev with steepPlls := false, skewOk := 0, acqExpired := false } }
  (s1.setMode Mode.STEEP).kettleSteep (!s.aon.holds)

/-- Slice `i` is powered and calibrated (R44). -/
def State.powerUp (s : State) (i : Nat) : State :=
  let s1 := s.setFldBit F.DEV_SLC_STATE.POWERED i true
  { s1 with dev := { s1.dev with slcPhase := s1.dev.slcPhase.setD i 1 0 } }

/-- PROBE is entered (R33): all four slices serve, and their lanes train; nothing is calibrated or acquired. From LOAD time starts as in STEEP. -/
def State.enterProbe (s : State) : State :=
  let s1 := s.setMode Mode.PROBE
  let s2 := (List.range 4).foldl (fun t i =>
    if t.slc i ≠ Slc.DARK then t else if t.powered i then t.setSlc i Slc.ACTIVE else t.powerUp i) s1
  let s3 := if s.mode = Mode.LOAD then s2.kettleSteep (!s.aon.holds) else s2
  s3.ports.foldl (fun t p => if t.oper p = Oper.DISABLED then (t.firstAttempt p).retrain p else t) s3

/-! ## The loader (R80 to R83) -/

/-- States of IMG_STATUS. -/
def ImgSt.FETCH : Nat := 1
def ImgSt.APPLY : Nat := 3
def ImgSt.DONE : Nat := 4
def ImgSt.FAILED : Nat := 5
def ImgSt.WAIT_HOST : Nat := 6

def State.imgState (s : State) : Nat := s.fld F.IMG_STATUS.STATE
def State.imgSource (s : State) : Nat := s.fld F.IMG_STATUS.SOURCE

/-- Whether the loader works on a flash slot in LOAD. -/
def State.flashLoading (s : State) : Bool :=
  s.mode == Mode.LOAD && !s.dev.softHold && !s.dev.loadHalted && !s.dev.lockedLoad && s.dev.bootSel != 1 &&
    (s.imgState == 0 || (s.imgState == ImgSt.FETCH && s.imgSource != 2))

/-- Whether the loader is busy. -/
def State.loaderBusy (s : State) : Bool :=
  s.flashLoading || s.dev.loadHalted || (decide (ImgSt.FETCH ≤ s.imgState) && decide (s.imgState ≤ ImgSt.APPLY))

/-- An operation starts: STATE, CODE and the detail registers are cleared, then it fetches. -/
def State.imgBegin (s : State) (source : Nat) (part : Bool) : State :=
  let s1 := (s.wr Reg.IMG_DETAIL 0).wr Reg.IMG_DETAIL_OFS 0
  (((s1.setFld F.IMG_STATUS.STATE ImgSt.FETCH).setFld F.IMG_STATUS.CODE 0).setFld F.IMG_STATUS.SOURCE source).setFld F.IMG_STATUS.PARTIAL
    (b2n part)

/-- The failure of an operation in the detail registers. -/
def State.imgDetail (s : State) (f : ImgFail) : State :=
  (s.wr Reg.IMG_DETAIL (BitVec.ofNat 64 (f.check + f.segType % 256 * 2 ^ 8 + f.segInst % 4 * 2 ^ 16))).wr Reg.IMG_DETAIL_OFS
    (BitVec.ofNat 64 (f.ofs % 2 ^ 32))

/-- An operation ends with a state and a code (R378). -/
def State.imgEnd (s : State) (st code : Nat) : State :=
  ((s.setFld F.IMG_STATUS.STATE st).setFld F.IMG_STATUS.CODE code).raiseCause Irq.IMG

/-- An attempt of LOAD fails (R80): after slot A, slot B; after slot B, the host; after the host, FAILED. -/
def State.loadFails (s : State) (source : Nat) (f : ImgFail) : State :=
  if source = 0 then
    let s1 := (s.imgDetail f).setFld F.IMG_STATUS.FALLBACK 1
    (s1.setFld F.IMG_STATUS.STATE ImgSt.FETCH).setFld F.IMG_STATUS.SOURCE 1
  else if source = 1 then s.imgEnd ImgSt.WAIT_HOST f.code
  else (s.imgDetail f).imgEnd ImgSt.FAILED f.code

/-- A full image has been fetched from `source`. A failure of check 15 names the header of the TABLE segment (log entry 72). -/
def State.loadImage (s : State) (source fetched : Nat) (img : List Byte) (cal : CalFlash) : State :=
  let s0 := (s.setFld F.IMG_STATUS.SOURCE source).setFld F.IMG_STATUS.DEV_KEY (b2n (Config.keyHash == 0))
  match imgCheck img ⟨fetched, none, []⟩ with
  | some f => s0.loadFails source f
  | none =>
    if s.dev.bootSel = 3 ∧ Config.dbgLock = true then
      let s1 := { s0 with dev := { s0.dev with lockedLoad := true } }
      ((s1.wr Reg.IMG_DETAIL 0).imgEnd ImgSt.FAILED Err.LOCKED).recordErr ⟨Base.DEV, Reg.DEV_MODE, false, false, false, false, false⟩ Err.LOCKED
    else
      match s0.applyImage img cal with
      | (_, some i) => s0.loadFails source ⟨15, Err.IMAGE_CHECK, 0x20, 0, heldSlice img i + 48⟩
      | (s1, none) =>
        let s2 := s1.imgEnd ImgSt.DONE 0
        if s.dev.bootSel = 3 then s2.enterProbe else s2.enterSteep

/-- Source number of IMG_STATUS. -/
def imgSourceCode : ImgSource → Nat
  | .flashA => 0
  | .flashB => 1
  | .host => 2

/-- Whether LOAD awaits an image from this source. -/
def State.loadAwaits (s : State) (src : ImgSource) : Bool :=
  match src with
  | .flashA => s.flashLoading && s.fld F.IMG_STATUS.FALLBACK == 0
  | .flashB => s.flashLoading && s.fld F.IMG_STATUS.FALLBACK == 1
  | .host =>
    s.mode == Mode.LOAD && !s.dev.softHold && !s.dev.loadHalted && !s.dev.lockedLoad && s.imgState == ImgSt.FETCH && s.imgSource == 2

/-- The first flash fetch of a LOAD discovers the flash (R395); the size it finds is a free value (log entry 3). -/
def State.discover (s : State) (src : ImgSource) : State :=
  if src = .host ∨ s.host.flashKnown = true then s
  else { s.tookFree with host := { s.host with flashKnown := true } }.setFld F.DEV_FLASH_INFO.SIZE_MIB s.freeVal

/-- IMAGE_FETCH_COMPLETE (R81, R82): LOAD reads the flash once an operation of before a soft reset has ended in it (R397). -/
def execImageFetchComplete (src : ImgSource) (img : List Byte) (cal : CalFlash) (s : State) : Host.Outcome State Fault Refusal :=
  if s.loadAwaits src && (src == .host || !s.host.flashTail) then
    .next ((s.discover src).loadImage (imgSourceCode src) (if src = .host then s.fld F.IMG_HOST_LEN.LEN else img.length) img cal)
  else .next s

/-- LOADER_WATCHDOG_EXPIRY (R82, R359): check number 0; a covered fault that opens no interval. -/
def execLoaderWatchdogExpiry (s : State) : Host.Outcome State Fault Refusal :=
  let src : Option ImgSource := [ImgSource.flashA, .flashB, .host].find? s.loadAwaits
  match src with
  | none => .next s
  | some x => .next ((s.loadFails (imgSourceCode x) ⟨0, Err.IMAGE_CHECK, 0, 0, 0⟩).watchdog 8).coveredFault

/-- SHADOW_COPY (R82, step 6). -/
def execShadowCopy (s : State) : Host.Outcome State Fault Refusal :=
  if decide (Mode.STEEP ≤ s.mode) && !s.img.held.isEmpty && !s.img.shadowed then .next { s with img := { s.img with shadowed := true } }
  else .next s

/-! ## IMG_CMD (R83 to R85) -/

def Acc.img (ofs : Nat) : Acc := Acc.direct Base.IMG ofs

/-- OP = 1 (R83). Without a way to fetch, the operation fails at once with BUSY (log entry 14). -/
def State.imgFull (s : State) (a : Acc) (rsv : Bool) : State :=
  s.guard a [(s.dev.lockedLoad, Err.LOCKED), (s.mode != Mode.LOAD, Err.WRONG_MODE), (s.loaderBusy, Err.BUSY), (rsv, Err.RESERVED_FIELD)] fun t =>
    let t1 := t.imgBegin 2 false
    if t.dmaOk then t1 else t1.imgEnd ImgSt.FAILED Err.BUSY

/-- FULL_IMAGE_FETCH (R83). -/
def execFullImageFetch (s : State) : Host.Outcome State Fault Refusal := .next (s.imgFull (Acc.img Reg.IMG_CMD) false)

/-- Whether some slice is in RECONF. -/
def State.anyReconf (s : State) : Bool := (List.range 4).any fun i => s.slc i == Slc.RECONF

/-- What stands against a partial image for slice `i`: a mode or a slice state in which none is accepted, and a transition or a slice in RECONF
(R84). -/
def State.partChecks (s : State) (i : Nat) : List (Bool × Nat) :=
  let m := s.mode
  [((m != Mode.BREEZE && m != Mode.GALE && m != Mode.CALM) || s.slc i == Slc.DARK, Err.WRONG_MODE), (s.trans || s.anyReconf, Err.BUSY)]

/-- OP = 2 for slice `i` (R84). Where the slice is to be read from the image (`any`), its own state is judged then, and IMG_STATUS.SLICE shows a
free value up to then (log entry 73). -/
def State.imgPartial (s : State) (a : Acc) (i : Nat) (any rsv : Bool) : State :=
  let m := s.mode
  s.guard a ((s.dev.lockedLoad, Err.LOCKED) :: (s.loaderBusy, Err.BUSY) :: (rsv, Err.RESERVED_FIELD) ::
      (if any then [(m != Mode.BREEZE && m != Mode.GALE && m != Mode.CALM, Err.WRONG_MODE), (s.trans || s.anyReconf, Err.BUSY)]
        else s.partChecks i)) fun t =>
    let t1 := { (t.imgBegin 2 true).setFld F.IMG_STATUS.SLICE i with img := { t.img with anySlice := any } }
    if t.dmaOk then t1 else t1.imgEnd ImgSt.FAILED Err.BUSY

/-- PARTIAL_IMAGE_FETCH (R84). -/
def execPartialImageFetch (i : Nat) (s : State) : Host.Outcome State Fault Refusal :=
  if 4 ≤ i then .fault .noSuchInstance else .next (s.imgPartial (Acc.img Reg.IMG_CMD) i false false)

/-- Whether a partial image is being fetched or checked (Table 03.20, steps 1 and 2). -/
def State.partFetching (s : State) : Bool := s.fld F.IMG_STATUS.PARTIAL == 1 && (s.imgState == 1 || s.imgState == 2)

/-- Whether the partial image for slice `i` is being applied (steps 3 to 6). -/
def State.partApplying (s : State) (i : Nat) : Bool :=
  s.fld F.IMG_STATUS.PARTIAL == 1 && s.imgState == ImgSt.APPLY && s.fld F.IMG_STATUS.SLICE == i

/-- OP = 3 (R85). -/
def State.imgAbort (s : State) (a : Acc) (rsv : Bool) : State :=
  s.guard a [(s.dev.lockedLoad, Err.LOCKED), (!s.partFetching, Err.BUSY), (rsv, Err.RESERVED_FIELD)] fun t => t.imgEnd ImgSt.FAILED Err.BUSY

/-- PARTIAL_IMAGE_ABORT (R85). -/
def execPartialImageAbort (s : State) : Host.Outcome State Fault Refusal := .next (s.imgAbort (Acc.img Reg.IMG_CMD) false)

/-- A write of IMG_CMD; the slice of a partial image stands in the image, in host memory, and is read when it is fetched. -/
def State.imgCmd (s : State) (a : Acc) (op : Nat) (rsv : Bool) : State :=
  if op = 1 then s.imgFull a rsv
  else if op = 2 then s.tookFree.imgPartial a (s.freeVal % 4) true rsv
  else if op = 3 then s.imgAbort a rsv
  else s.guard a [(s.dev.lockedLoad, Err.LOCKED), (rsv, Err.RESERVED_FIELD), (true, Err.ILLEGAL_VALUE)] id

/-- The slice of the partial image in fetch: the one asked for, or INST of its SLICE segment (Table 03.2). -/
def State.partSlice (s : State) (img : List Byte) : Nat := if s.img.anySlice then leAt img 66 1 % 4 else s.fld F.IMG_STATUS.SLICE

/-- PARTIAL_IMAGE_FETCHED (R85, steps 2 and 3): the image is accepted only where R84 still holds. -/
def execPartialImageFetched (img : List Byte) (s : State) : Host.Outcome State Fault Refusal :=
  if s.partFetching then
    let i := s.partSlice img
    let base := s.fld F.IMG_BASE_SERIAL_LO.SERIAL + s.fld F.IMG_BASE_SERIAL_HI.SERIAL * 2 ^ 32
    let s0 := { s with img := { s.img with anySlice := false } }.setFld F.IMG_STATUS.SLICE i
    match imgCheck img ⟨s.fld F.IMG_HOST_LEN.LEN, some (base, i), s.ports⟩ with
    | some f => .next ((s0.imgDetail f).imgEnd ImgSt.FAILED f.code)
    | none =>
      let c := pickCode (s.partChecks i)
      if c = 0 then
        let s1 := (s0.setSlc i Slc.RECONF).setFld F.IMG_STATUS.STATE ImgSt.APPLY
        .next { s1 with img := { s1.img with part := img, placed := 1 } }
      else .next (s0.imgEnd ImgSt.FAILED c)
  else .next s

/-- SLICE_PIPELINE_EMPTY (R85, steps 4 and 5). -/
def execSlicePipelineEmpty (i : Nat) (s : State) : Host.Outcome State Fault Refusal :=
  if 4 ≤ i then .fault .noSuchInstance
  else if s.partApplying i && s.img.placed == 1 then
    match s.carve i s.img.part 80 with
    | (t, ok) => .next { t with img := { t.img with placed := if ok then 2 else 3 } }
  else .next s

/-- The staged SLICE segment replaces slice `i`'s segment in the held image (step 6). The header of the held image is left as it is (log entry 15). -/
def heldReplace (held part : List Byte) (i : Nat) : List Byte :=
  let o := heldSlice held i
  held.take o ++ slice part 64 (16 + leAt part 68 4) ++ held.drop (heldSlice held (i + 1))

/-- CUR becomes the requested mode when every slice of it is ACTIVE or FAULT and every other slice is DARK (R42, R44, R421). -/
def State.settle (s : State) : State :=
  let m := s.fld F.DEV_MODE.TARGET
  let there : Nat → Bool := fun i =>
    if s.inMode m i then s.slc i == Slc.ACTIVE || s.slc i == Slc.FAULT else s.slc i == Slc.DARK
  if s.trans && decide (Mode.STEEP < s.mode) && (m == Mode.BREEZE || m == Mode.GALE) && (List.range 4).all there then
    (s.setMode m).ringsStart
  else s

/-- The partial image in the buffer is gone. -/
def State.dropPart (s : State) : State := { s with img := { s.img with part := [], placed := 0 } }

/-- The staged segment takes slice `i`'s place in the held image. -/
def State.replaceHeld (s : State) (i : Nat) : State := { s with img := { s.img with held := heldReplace s.img.held s.img.part i } }

/-- Step 6 of a partial image: the slice's new table version, its slice-space runtime registers from the new segment, the segment's place in the
held image and IMG_SLC_SERIAL_s (R85). -/
def State.commitPart (s : State) (i : Nat) : State :=
  let part := s.img.part
  let s1 := ((((s.commitN i 1).slcRegs i part 80).scanTouch 3 0 (heldSlice s.img.held i) (2 ^ 40)).replaceHeld i).dropPart
  (s1.wr (Reg.IMG_SLC_SERIAL_LO i) (BitVec.ofNat 64 (imgSerial part % 2 ^ 32))).wr (Reg.IMG_SLC_SERIAL_HI i)
    (BitVec.ofNat 64 (imgSerial part / 2 ^ 32))

/-- PARTIAL_IMAGE_APPLIED (R85, steps 6 and 6′). A failure of check 15 names the header of the TABLE segment (log entry 72). -/
def execPartialImageApplied (i : Nat) (s : State) : Host.Outcome State Fault Refusal :=
  if 4 ≤ i then .fault .noSuchInstance
  else if s.partApplying i && decide (2 ≤ s.img.placed) then
    if s.img.placed = 3 then
      .next (((s.setSlc i Slc.FAULT).dropPart.imgDetail ⟨15, Err.IMAGE_CHECK, 0x20, 0, 112⟩).imgEnd ImgSt.FAILED Err.IMAGE_CHECK).settle
    else .next (((s.commitPart i).setSlc i Slc.ACTIVE).imgEnd ImgSt.DONE 0).settle
  else .next s

end Sys2Proof.Machine
end

