-- ==== Sys2Proof/Machine/Modes.lean ====
section
/-! DEFINITION. Operating modes, LULL, resets and what survives them (02_modes.md), but for PERST_N and the port and lane resets. -/

namespace Sys2Proof.Machine

/-! ## OFF and the starts of LULL and LOAD (Table 02.2, R36) -/

/-- The core and the AON domain at their reset values in mode `m`; the pins keep their levels, and the model's own counters go on. -/
def State.blank (s : State) (m : Nat) : State :=
  let d := State.reset.dev
  let dev : Dev := { d with
    bootSel := s.dev.bootSel, resetN := s.dev.resetN, perstN := s.dev.perstN, ocxoWarm := s.dev.ocxoWarm, pgCore := s.dev.pgCore,
    pgMem := s.dev.pgMem }
  let s1 := { State.reset with
    regs := s.regs.filter fun a _ => a == Reg.PIN_EVT_LEVEL, cycle := s.cycle, dev := dev, freeCtr := s.freeCtr, uid := s.uid, out := s.out,
    pending := s.pending }
  (((s1.setFld F.DEV_MODE.CUR m).setFld F.DEV_MODE.TARGET m).setFld F.DEV_MODE.TRANS 0).pinsMoved s

/-- LOAD begins on a device whose core is at its reset values (R34, R36). -/
def State.loadStart (s : State) : State :=
  let s1 := (s.setFld F.DEV_MODE.CUR Mode.LOAD).setFld F.DEV_MODE.TARGET (if s.dev.bootSel = 3 then Mode.PROBE else Mode.STEEP)
  let s2 := s1.setFld F.DEV_MODE.TRANS 1
  if s.dev.bootSel = 1 then (s2.setFld F.IMG_STATUS.SOURCE 2).setFld F.IMG_STATUS.STATE ImgSt.WAIT_HOST else s2

/-- PG_AON_FALL (R58). -/
def execPgAonFall (s : State) : Host.Outcome State Fault Refusal := .next (s.blank Mode.OFF)

/-- PG_CORE_MEM_FALL (R33, R58): in LULL, and from the commit of its entry on (R419), the inputs may fall; a wake then waits for them again. -/
def execPgCoreMemFall (core mem : Bool) (s : State) : Host.Outcome State Fault Refusal :=
  let s1 := { s with dev := { s.dev with pgCore := s.dev.pgCore && !core, pgMem := s.dev.pgMem && !mem } }
  if s.mode = Mode.OFF ∨ s.dev.lullStep = 3 ∨ (!core && !mem) = true then .next s1
  else if s.mode = Mode.LULL then .next { s1 with dev := { s1.dev with wakeStep := min s1.dev.wakeStep 1 } }
  else .next (s1.blank Mode.OFF)

/-- RESET_N_ASSERT (R58; Table 02.11, note 4). -/
def execResetNAssert (s : State) : Host.Outcome State Fault Refusal :=
  let s1 := s.blank Mode.OFF
  .next ({ s1 with dev := { s1.dev with resetN := false } }.wr Reg.DEV_RST_CAUSE 2)

/-- POWER_UP_START (R36): the straps are sampled; LULL needs only the AON rails. -/
def execPowerUpStart (bootSel : BitVec 2) (core mem : Bool) (s : State) : Host.Outcome State Fault Refusal :=
  if s.mode = Mode.OFF then
    let s1 := { s with dev := { s.dev with bootSel := bootSel.toNat, resetN := true, pgCore := core, pgMem := mem } }
    if bootSel = 2 then .next ((s1.setFld F.DEV_MODE.CUR Mode.LULL).setFld F.DEV_MODE.TARGET Mode.LULL)
    else if core && mem then .next s1.loadStart
    else .next s1
  else .next s

/-! ## The AON timekeeper (R50 to R52, R56) -/

/-- 100 ns in 2^-48 ns: the increment of an AON copy that no measurement has set. -/
def aonNominal : Nat := 100 * 2 ^ 48

/-- The (channel × 8 + domain) numbers that hold time: from STEEP on those of the enabled domains, in LOAD those of the last handover. -/
def State.timeKeys (s : State) : List Nat :=
  if s.mode = Mode.LOAD then s.kettle.ch.keys else ([0, 1, 2].map fun ch => s.domains.map fun d => ch * 8 + d).flatten

/-- The rate ratio to domain 0 under which the copies of domain `d` are held, in 2^-40 (R50): that of a DERIVED domain, or in LOAD of one whose
copies were so held before. -/
def State.aonRatio (s : State) (d : Nat) : Option Int :=
  if s.isDerived d then some (s.cfg.domRatio.getD d 0)
  else if s.mode = Mode.LOAD then ((s.aon.copies.getD d AonCopy.fresh).drv).map (·.2) else none

/-- The copies are taken (R56): a HEALTHY channel supplies its own, another receives the lead's. A DERIVED domain is held as its offset and rate
ratio to domain 0 (R50). -/
def State.takeCopies (s : State) : State :=
  let copies := s.timeKeys.foldl (fun m k =>
    let ch := k / 8
    let src := if s.healthy ch then ch else s.lead
    let n := (s.aon.copies.getD (src * 8 + k % 8) AonCopy.fresh).inc
    let c := (s.ktDom src (k % 8)).ctr
    m.put k (match s.aonRatio (k % 8) with
      | some r => ⟨0, 0, some ((c : Int) - ((s.ktDom src 0).ctr : Int), r)⟩
      | none => ⟨c, if n = 0 then aonNominal else n, none⟩)) (SMap.empty : SMap AonCopy)
  if s.timeKeys.isEmpty then s else { s with aon := { s.aon with copies := copies, holds := true } }

/-- The copy of domain 0 in the channel of copy `k`. -/
def Aon.base (a : Aon) (k : Nat) : AonCopy := a.copies.getD (k / 8 * 8) AonCopy.fresh

/-- Every copy advances by one AON cycle, while the clock is present and the copies hold time: from the commit of a LULL entry to the handover
(R50, R52, R56). -/
def State.aonEdge (s : State) : State :=
  if s.aon.holds && !s.aon.clkAbsent && (s.mode == Mode.LULL || s.mode == Mode.LOAD || s.dev.lullStep == 3) then
    { s with aon := { s.aon with copies := s.aon.copies.mapV fun k c => match c.drv with
      | some (o, r) => { c with drv := some (o + ratioPart (s.aon.base k).inc r, r) }
      | none => { c with ctr := (c.ctr + c.inc) % ctrMod } } }
  else s

/-- What a copy stands for: the value of its domain and the increment of an AON cycle. -/
def Aon.value (a : Aon) (k : Nat) (c : AonCopy) : Nat × Nat :=
  match c.drv with
  | some (o, r) =>
    let b := a.base k
    (((((b.ctr : Int) + o) % (ctrMod : Int)).toNat), ((b.inc : Int) + ratioPart b.inc r).toNat)
  | none => (c.ctr, c.inc)

/-- AON_CLK_ABSENT (R52). -/
def State.clkAbsent (s : State) : State :=
  if s.mode = Mode.OFF then s else { s with aon := { s.aon with clkAbsent := true } }.fatalHeld Fatal.AON_CLK

def execAonClkAbsent (s : State) : Host.Outcome State Fault Refusal := .next s.clkAbsent

/-- AON_CLK_RETURN (R52). -/
def execAonClkReturn (s : State) : Host.Outcome State Fault Refusal :=
  .next ({ s with aon := { s.aon with clkAbsent := false } }.condEnds Fatal.AON_CLK)

/-- The increment of domain `d` measured over a window of `n` AON cycles (R51): what its published time advanced by, in each cycle. It goes to its
three copies; a DERIVED domain's copies hold no increment. The rounding is open (log entry 3). -/
def State.aonRate (s : State) (n d : Nat) : State :=
  let went := (s.published d + ctrMod - s.aon.win.getD d (s.published d)) % ctrMod
  if s.isDerived d || went == 0 then s
  else
    let inc := (s.roundOpen ((went : Rat) / (n : Rat))).toNat % 2 ^ 56
    let copies := [0, 1, 2].foldl (fun m ch => m.put (ch * 8 + d) { m.getD (ch * 8 + d) AonCopy.fresh with inc := inc, drv := none })
      s.aon.copies
    { s.tookFree with aon := { s.aon with copies := copies } }

/-- AON_RATE_MEASURE (R51, R52): a window ended, in which `n` AON cycles were counted; the next begins. -/
def execAonRateMeasure (n : Nat) (s : State) : Host.Outcome State Fault Refusal :=
  if !s.kettleRuns then .next s
  else
    let s1 := (if n = 0 then s else s.domains.foldl (fun t d => t.aonRate n d) s).winBegin
    .next (if 2000 < ((n : Int) - 10000000).natAbs then s1.clkAbsent else s1)

/-- What ends a hold of time: every counter is loaded with its copy, advanced by `phi` 2^-16 ns at the AON rate, and counts at that rate
(R56). The rounding is open (log entry 3). -/
def State.handTime (s : State) (phi : Nat) : State :=
  let start : Nat × Nat → KtDom := fun c =>
    let adv := if s.aon.clkAbsent then 0 else (s.roundOpen (((c.2 * phi : Nat) : Rat) / ((100 * 2 ^ 16 : Nat) : Rat))).toNat
    ⟨(c.1 + adv) % ctrMod, (s.roundOpen ((c.2 : Rat) / 125)).toNat, 0, []⟩
  let ch : SMap KtDom := ⟨s.aon.copies.entries.map fun e => (e.1, start (s.aon.value e.1 e.2))⟩
  { s.tookFree with kettle := { Kettle.fresh with ch := ch } }

/-! ## Slices (Table 02.5, R42 to R46, R420) -/

def State.slcStep (s : State) (i : Nat) : Nat := s.dev.slcPhase.getD i 0
def State.setSlcStep (s : State) (i k : Nat) : State := { s with dev := { s.dev with slcPhase := s.dev.slcPhase.setD i k 0 } }

/-- Slice `i` loses its power (R42): its ports are DISABLED, its channels and its skew are to be measured again. -/
def State.darkNow (s : State) (i : Nat) : State :=
  let s1 := ((s.setFldBit F.DEV_SLC_STATE.POWERED i false).setSlcStep i 0).setSlc i Slc.DARK
  let s2 := (s.ports.filter fun p => sliceOf p == i).foldl State.portOff s1
  let s3 := (((List.range 48).map (48 * i + ·)) ++ [192 + i]).foldl (fun t n => t.setFld (F.PH_CH_STATUS.LIN n) 0) s2
  let s4 := if s3.fld (F.PH_ROT_STATUS.HELD i) = 1 then s3 else s3.spareFree i
  { s4 with dev := { s4.dev with skewOk := setBit s4.dev.skewOk i false } }

/-- Slice `i` begins to drain (R42, step 1). -/
def State.drainBegin (s : State) (i : Nat) : State := (s.setSlcStep i 2).learnHalt i

/-- The slices of the requested mode that are DARK are powered; the others drain, or lose their power at once where they forward nothing. -/
def State.moveTo (s : State) (m : Nat) : State :=
  ((List.range 4).foldl (fun t i =>
    if s.inMode m i then (if s.slc i = Slc.DARK then t.powerUp i else t)
    else if s.slc i = Slc.DARK then (if s.powered i then t.darkNow i else t)
    else t.drainBegin i) (s.beginTrans m)).settle

/-- Whether slice `i` holds no frame that waits to cross. -/
def State.sliceEmpty (s : State) (i : Nat) : Bool :=
  !(s.fab.voq.keys.any fun k => k / 8 / 192 == i) && !(s.fab.mc.values.any fun m => m.fr.slice == i && !m.todo.isEmpty)

/-- SLICE_DRAIN_DONE (R42, steps 3 and 4). -/
def execSliceDrainDone (i : Nat) (s : State) : Host.Outcome State Fault Refusal :=
  if 4 ≤ i then .fault .noSuchInstance
  else if s.slcStep i = 2 ∧ s.sliceEmpty i = true then .next (s.darkNow i).settle
  else .next s

/-- SLICE_DRAIN_LIMIT_EXPIRY (R42, step 2). -/
def execSliceDrainLimitExpiry (i : Nat) (s : State) : Host.Outcome State Fault Refusal :=
  if 4 ≤ i then .fault .noSuchInstance
  else if s.slcStep i = 2 then
    let s1 := s.purge (fun f p _ landed => if f.slice = i && !landed then some (Reg.PRT_FAB_CNT p 6) else none) Htx.EGRESS_DROP
    .next (s1.darkNow i).settle
  else .next s

/-- Ports of slice `i` that are DISABLED train. -/
def State.portsTrain (s : State) (i : Nat) : State :=
  (s.ports.filter fun p => sliceOf p == i).foldl (fun t p =>
    if t.oper p = Oper.DISABLED then (t.firstAttempt p).retrain p else t) s

/-- The tables of slice `i` are filled from the held image, and it enters state `st`; where the shadow is bad or a record cannot be placed it
enters FAULT (Table 02.5, R358). -/
def State.refill (s : State) (i st : Nat) : State :=
  if s.fld F.ST_HEALTH.SHADOW_BAD = 1 then (s.setSlc i Slc.FAULT).watchdog 9
  else match s.reapply i with
    | (t, true) => t.setSlc i st
    | (t, false) => t.setSlc i Slc.FAULT

/-- Whether the 49 channels of slice `i` are linearised and its skew is measured. -/
def State.sliceCalibrated (s : State) (i : Nat) : Bool :=
  (((List.range 48).map (48 * i + ·)) ++ [192 + i]).all (fun n => s.fld (F.PH_CH_STATUS.LIN n) == 1) && bitAt s.dev.skewOk i

/-- SLICE_POWER_UP_DONE (R44): the segments are applied again and the lanes take their calibration values, once the channels are calibrated; in STEEP
the slice stays DARK up to the exit, which waits for its channels (R46, R420). Gate lists stand where the time puts them (R60). -/
def execSlicePowerUpDone (i : Nat) (cal : CalFlash) (s : State) : Host.Outcome State Fault Refusal :=
  if 4 ≤ i then .fault .noSuchInstance
  else if s.slcStep i = 1 ∧ (s.mode = Mode.STEEP ∨ s.sliceCalibrated i = true) then
    let s1 := s.refill i (if s.mode = Mode.STEEP then Slc.DARK else Slc.ACTIVE)
    let s2 := (s1.readCal cal (fun l => sliceOf l == i) false).setSlcStep i 0
    let s3 := (s2.ports.filter fun p => sliceOf p == i).foldl State.gclCatch (s2.portsTrain i)
    .next s3.settle
  else .next s

/-! ## Slice reset (R58, R59) -/

def Acc.dev (ofs : Nat) : Acc := Acc.direct Base.DEV ofs

/-- A slice reset of the slice whose bit `mask` sets. A slice that drains or is powered up, of which R59 says nothing, is BUSY (log entry 71). -/
def State.sliceReset (s : State) (a : Acc) (mask key : Nat) (rsv : Bool) : State :=
  let named := bitList 4 mask
  let i := named.headD 0
  let one := named.length == 1
  s.guard a [(one && s.slc i == Slc.DARK, Err.WRONG_MODE),
      (one && (s.anyReconf || s.partFetching || s.slcStep i != 0), Err.BUSY), (rsv, Err.RESERVED_FIELD),
      (key != 0x5AFE || !one, Err.ILLEGAL_VALUE)] fun t =>
    if t.fld F.ST_HEALTH.SHADOW_BAD = 1 then (t.setSlc i Slc.FAULT).watchdog 9 else t.setSlc i Slc.RECONF

/-- SLICE_RESET (R59). -/
def execSliceReset (mask : BitVec 4) (key : BitVec 16) (s : State) : Host.Outcome State Fault Refusal :=
  if mask = 0 then .next s else .next (s.sliceReset (Acc.dev Reg.DEV_RESET) mask.toNat key.toNat false)

/-- SLICE_RESET_DONE (R58, Table 02.5). -/
def execSliceResetDone (i : Nat) (s : State) : Host.Outcome State Fault Refusal :=
  if 4 ≤ i then .fault .noSuchInstance
  else if s.slc i = Slc.RECONF ∧ s.partApplying i = false then .next (s.refill i Slc.ACTIVE).settle
  else .next s

/-! ## Soft device reset (R58, Table 02.11) -/

/-- Whether a register of frozen ring `n` is kept: its status, trigger, range and RSEQ registers (Table 02.11, note 3). -/
def ringKept (s : State) (a : Nat) : Bool :=
  (List.range 8).any fun n => decide (Reg.CD_RING_STATUS n ≤ a) && decide (a ≤ Reg.CD_RING_LAST_RSEQ n) && s.ringState n == Ring.FROZEN

/-- The conditions of the AON domain outlast a reset of the core; those of the core do not. -/
def State.aonConds (s : State) : Nat := b2n (bitAt s.dev.conds Fatal.AON_CLK) * 2 ^ Fatal.AON_CLK

/-- Give registers that a reset keeps their values back. -/
def State.putRegs (s : State) (l : List (Nat × Reg64)) : State := l.foldl (fun t e => t.wr e.1 e.2) s

/-- The core at its reset values in mode `m`, with what Table 02.11 keeps through LULL: the AON domain. -/
def State.coreReset (s : State) (m : Nat) : State :=
  let b := s.blank m
  let kept := (s.regs.filter fun a _ => a == Reg.DEV_RST_CAUSE || a == Reg.DEV_WAKE_CFG || a == Reg.DEV_WAKE_SRC).entries
  let b1 := { b.putRegs kept with aon := s.aon, dev := { b.dev with conds := s.aonConds } }
  b1.setFld F.KT_CH_STATUS.HO_BAD (s.fld F.KT_CH_STATUS.HO_BAD)

/-- The soft device reset: time goes to the AON timekeeper, rings freeze, and LOAD waits for the handover (R56, R58). -/
def State.softGo (s : State) : State :=
  let s1 := ((s.takeCopies).vaneRetain).cutRings 6
  let b := (s1.coreReset Mode.LOAD).loadStart
  let kept : List (Nat × Reg64) := (s1.regs.filter fun a _ => (decide (0x8000 ≤ a) && decide (a < 0xA000)) || ringKept s1 a).entries
  let serial := s1.fld F.IMG_BASE_SERIAL_LO.SERIAL + s1.fld F.IMG_BASE_SERIAL_HI.SERIAL * 2 ^ 32
  let b1 : State := { b.putRegs kept with
    pcie := s1.pcie, irq := { b.irq with pba := s1.irq.pba },
    img := { b.img with prevSerial := if s1.img.held.isEmpty then s1.img.prevSerial else serial },
    caddy := { b.caddy with rings := s1.caddy.rings.filter fun n _ => s1.ringState n == Ring.FROZEN },
    host := { b.host with flashTail := s1.host.flashTail || (decide (2 ≤ s1.host.flashOp) && decide (s1.host.flashOp ≤ 4)) },
    dev := { b.dev with softHold := true } }
  let b2 := (List.range 8).foldl (fun t n => (t.setFld (F.CD_RING_STATUS.READING n) 0).setFld (F.CD_RING_STATUS.REPLAYING n) 0) b1
  let b3 := b2.flag F.DEV_RST_CAUSE.SOFT
  if s1.aonConds = 0 then b3 else b3.fatal Fatal.AON_CLK

/-- A write of DEV_RESET with SOFT = 1; while the reset runs, another one changes nothing. -/
def State.softReset (s : State) (a : Acc) (key : Nat) (rsv : Bool) : State :=
  s.guard a [(rsv, Err.RESERVED_FIELD), (key != 0x5AFE, Err.ILLEGAL_VALUE)] fun t => if t.dev.softHold then t else t.softGo

/-- SOFT_DEVICE_RESET (R58). -/
def execSoftDeviceReset (key : BitVec 16) (s : State) : Host.Outcome State Fault Refusal :=
  .next (s.softReset (Acc.dev Reg.DEV_RESET) key.toNat false)

/-- A write of DEV_RESET: SOFT takes precedence, and a write that sets neither does nothing. -/
def State.devReset (s : State) (a : Acc) (v : Nat) (rsv : Bool) : State :=
  if bitAt v 8 then s.softReset a (v / 2 ^ 16 % 2 ^ 16) rsv
  else if v % 16 = 0 then s.guard a [(rsv, Err.RESERVED_FIELD)] id
  else s.sliceReset a (v % 16) (v / 2 ^ 16 % 2 ^ 16) rsv

/-- AON_HANDOVER (R56): after a soft device reset or the PLL lock of a wake, with the measured interval `phi` in 2^-16 ns. -/
def execAonHandover (phi : Nat) (s : State) : Host.Outcome State Fault Refusal :=
  if s.dev.softHold then
    let s1 := s.handTime phi
    .next { s1 with dev := { s1.dev with softHold := false } }
  else if s.mode = Mode.LULL ∧ s.dev.wakeStep = 3 then
    let s1 := (s.handTime phi).flag F.DEV_RST_CAUSE.WAKE
    .next { s1 with dev := { s1.dev with wakeStep := 0 } }.loadStart
  else .next s

/-! ## Mode requests (R34, R35, Table 02.3) -/

/-- Whether some wake source is enabled (R35). -/
def State.wakeEnabled (s : State) : Bool := s.fld ⟨Reg.DEV_WAKE_CFG, 17, 16⟩ != 0 || s.fld ⟨Reg.DEV_WAKE_CFG, 11, 0⟩ != 0

/-- Whether a change to BREEZE would darken a slice that is in RECONF or takes a partial image (R59, Table 03.21). -/
def State.breezeBusy (s : State) : Bool :=
  (List.range 4).any fun i => !s.inMode Mode.BREEZE i &&
    (s.slc i == Slc.RECONF || (s.partFetching && s.fld F.IMG_STATUS.SLICE == i))

/-- The rules that a request for mode `m` may break. -/
def State.modeChecks (s : State) (m : Nat) (rsv : Bool) : List (Bool × Nat) :=
  let c := s.mode
  let run := m == Mode.BREEZE || m == Mode.GALE
  [(c == Mode.LOAD || (m == Mode.LULL && (c == Mode.STEEP || c == Mode.PROBE)) || ((run || m == Mode.CALM) && c == Mode.PROBE) ||
      (m == Mode.PROBE && (c == Mode.BREEZE || c == Mode.GALE)), Err.WRONG_MODE),
    ((m == Mode.PROBE && Config.dbgLock && (c == Mode.STEEP || c == Mode.CALM)) ||
      (run && c == Mode.CALM && s.fld ⟨Reg.DEV_FATAL, 5, 0⟩ != 0), Err.LOCKED),
    (s.trans || (m == Mode.BREEZE && c != Mode.BREEZE && s.breezeBusy) || (m == Mode.LULL && s.anyReconf), Err.BUSY),
    (rsv, Err.RESERVED_FIELD),
    (!(run || m == Mode.LULL || m == Mode.CALM || m == Mode.PROBE) || (m == Mode.LULL && !s.wakeEnabled), Err.ILLEGAL_VALUE)]

/-- An accepted request for BREEZE or GALE: in STEEP it sets the target (R34, R420). -/
def State.runReq (s : State) (m : Nat) : State :=
  if s.mode = m then s
  else if s.mode = Mode.STEEP then
    (List.range 4).foldl (fun t i =>
      if s.inMode m i then (if s.powered i then t else t.powerUp i) else if s.powered i then t.darkNow i else t)
      (s.setFld F.DEV_MODE.STEEP_TARGET m)
  else s.moveTo m

/-- An accepted request for LULL (Table 02.7, step 1). -/
def State.lullReq (s : State) : State :=
  let s1 := s.beginTrans Mode.LULL
  { s1 with dev := { s1.dev with lullFrom := s.mode, lullStep := 1, wakeLatched := false } }

/-- An accepted request for CALM (R40). -/
def State.calmReq (s : State) : State := if s.mode = Mode.CALM then s else (s.markFatal Fatal.HOST).enterCalm

/-- A request for mode `m` (Table 02.3). -/
def State.modeReq (s : State) (a : Acc) (m : Nat) (rsv : Bool) : State :=
  s.guard a (s.modeChecks m rsv) fun t =>
    if m = Mode.LULL then t.lullReq
    else if m = Mode.CALM then t.calmReq
    else if m = Mode.PROBE then (if t.mode = Mode.PROBE then t else t.enterProbe)
    else t.runReq m

/-- MODE_REQ_LULL (R53). -/
def execModeReqLull (s : State) : Host.Outcome State Fault Refusal := .next (s.modeReq (Acc.dev Reg.DEV_MODE_REQ) Mode.LULL false)

/-- MODE_REQ_BREEZE (R42). -/
def execModeReqBreeze (s : State) : Host.Outcome State Fault Refusal := .next (s.modeReq (Acc.dev Reg.DEV_MODE_REQ) Mode.BREEZE false)

/-- MODE_REQ_GALE (R44). -/
def execModeReqGale (s : State) : Host.Outcome State Fault Refusal := .next (s.modeReq (Acc.dev Reg.DEV_MODE_REQ) Mode.GALE false)

/-- MODE_REQ_CALM (R40). -/
def execModeReqCalm (s : State) : Host.Outcome State Fault Refusal := .next (s.modeReq (Acc.dev Reg.DEV_MODE_REQ) Mode.CALM false)

/-- MODE_REQ_PROBE (R34). -/
def execModeReqProbe (s : State) : Host.Outcome State Fault Refusal := .next (s.modeReq (Acc.dev Reg.DEV_MODE_REQ) Mode.PROBE false)

/-! ## CALM and fatal causes (R40, R41) -/

/-- Every frame held since before `mark` is dropped and counted at its egress port. -/
def State.dropHeld (s : State) (mark : Nat) : State :=
  s.purge (fun f p _ _ => if f.id < mark then some (Reg.PRT_FAB_CNT p 6) else none) Htx.EGRESS_DROP

/-- The dropping at the end of CALM is over. -/
def State.calmDropEnd (s : State) : State := { s with dev := { s.dev with calmDrop := false } }

/-- CALM_DROP_DONE (R40, step 3). -/
def execCalmDropDone (s : State) : Host.Outcome State Fault Refusal :=
  if s.dev.calmDrop then
    .next (s.dropHeld s.dev.calmMark).calmDropEnd
  else .next s

/-- CORE_PLL_LOSS (R30). -/
def execCorePllLoss (s : State) : Host.Outcome State Fault Refusal :=
  if s.mode < Mode.LOAD then .next s else .next (s.fatal Fatal.CORE_PLL)

/-! ## STEEP (R37, Table 02.4) -/

/-- STEEP_PLLS_LOCKED (step 1): Vane starts, and the lanes of powered slices train. -/
def execSteepPllsLocked (s : State) : Host.Outcome State Fault Refusal :=
  if s.mode = Mode.STEEP ∧ s.dev.steepPlls = false then
    let s1 := { s with dev := { s.dev with steepPlls := true } }.vaneStart
    .next (s1.ports.foldl (fun t p => (t.firstAttempt p).retrain p) s1)
  else .next s

/-- Step 4: OCXO mode is not selected, or the oscillator is warm, or the host overrides. -/
def State.warm (s : State) : Bool :=
  s.fld F.KT_TB_STATUS.TIMEBASE != 2 || s.fld F.KT_TB_STATUS.WARM == 1 || s.fld F.DEV_CTRL.WARM_OVR == 1

/-- ACQUISITION_LIMIT_EXPIRY (step 5). -/
def execAcquisitionLimitExpiry (s : State) : Host.Outcome State Fault Refusal :=
  if s.mode = Mode.STEEP ∧ s.warm = true then .next { s with dev := { s.dev with acqExpired := true } } else .next s

/-- Step 3: the lanes of ports that train have finished their first attempt. -/
def State.lanesTried (s : State) : Bool :=
  (s.ports.filter s.trains).all fun p => (s.portLanes p).all fun l => s.fld (F.LN_STATUS.FIRST_DONE l) == 1

/-- Every condition of Table 02.4. -/
def State.steepReady (s : State) : Bool :=
  s.dev.steepPlls && s.channelsReady && !((List.range 4).any fun i => s.slcStep i == 1) && s.lanesTried && s.warm &&
    (s.domains.all s.domAcquired || s.dev.acqExpired) && s.fld F.DEV_CTRL.STEEP_HOLD == 0

/-- STEEP_EXIT (R37). A powered slice whose tables could not be filled again stays in FAULT (R45). -/
def execSteepExit (s : State) : Host.Outcome State Fault Refusal :=
  if s.mode = Mode.STEEP ∧ s.steepReady = true then
    let s1 := (List.range 4).foldl (fun t i => if s.powered i && s.slc i == Slc.DARK then t.setSlc i Slc.ACTIVE else t) s
    .next (s1.setMode (s.fld F.DEV_MODE.STEEP_TARGET)).ringsStart
  else .next s

/-! ## LULL (R53 to R55) -/

/-- LULL_DRAIN_DONE (Table 02.7, step 2): a frame that still crosses is dropped when it lands. -/
def execLullDrainDone (s : State) : Host.Outcome State Fault Refusal :=
  if s.dev.lullStep = 1 then
    let s1 := (s.dropHeld s.uid).cutRings 7
    let s2 := { s1.vaneRetain with dev := { s1.vaneRetain.dev with lullStep := 2, calmMark := s.uid, calmDrop := false } }
    .next s2
  else .next s

/-- LULL_COMMIT (step 3). -/
def execLullCommit (s : State) : Host.Outcome State Fault Refusal :=
  if s.dev.lullStep = 2 then
    let s1 := s.takeCopies
    .next { s1 with dev := { s1.dev with lullStep := 3 } }
  else .next s

/-- LULL_SHUTDOWN_DONE (steps 4 and 5): only the AON domain is left; a latched wake event starts the exit. -/
def execLullShutdownDone (s : State) : Host.Outcome State Fault Refusal :=
  if s.dev.lullStep = 3 then
    let s1 := s.coreReset Mode.LULL
    let s2 := if s1.dev.conds = 0 then s1 else s1.flag F.DEV_FATAL.AON_CLK
    .next { s2 with dev := { s2.dev with wakeStep := b2n s.dev.wakeLatched } }
  else .next s

/-- WAKE_EVENT (R53, R54): the sources that fire together. -/
def execWakeEvent (lanes : BitVec 8) (evts : BitVec 4) (wakeIn supply : Bool) (s : State) : Host.Outcome State Fault Refusal :=
  let l := lanes.toNat &&& s.fld F.DEV_WAKE_CFG.LANE_EN
  let e := evts.toNat &&& s.fld F.DEV_WAKE_CFG.EVT_EN
  let w := wakeIn && s.fld F.DEV_WAKE_CFG.WAKE_IN_EN == 1
  let v := supply && s.fld F.DEV_WAKE_CFG.SUPPLY_EN == 1 && s.mode == Mode.LULL
  let fires := l != 0 || e != 0 || w || v
  if fires && (s.mode == Mode.LULL || s.dev.lullStep != 0) then
    let s1 := s.flagBits ⟨Reg.DEV_WAKE_SRC, 31, 0⟩ (l + e * 2 ^ 8 + b2n w * 2 ^ 16 + b2n v * 2 ^ 17)
    if s.mode = Mode.LULL then .next { s1 with dev := { s1.dev with wakeStep := max s.dev.wakeStep 1 } }
    else if s.dev.lullStep < 3 then .next ({ s1 with dev := { s1.dev with lullStep := 0 } }.setMode s.dev.lullFrom 1)
    else .next { s1 with dev := { s1.dev with wakeLatched := true } }
  else .next s

/-- LULL_RAIL_TIMEOUT (R55). -/
def execLullRailTimeout (s : State) : Host.Outcome State Fault Refusal :=
  if s.mode = Mode.LULL ∧ s.dev.wakeStep = 1 then
    .next ({ s with dev := { s.dev with wakeStep := 0 } }.flag F.DEV_WAKE_SRC.RAIL_FAIL)
  else .next s

/-- WAKE_RAILS_GOOD (Table 02.8, step 2). -/
def execWakeRailsGood (s : State) : Host.Outcome State Fault Refusal :=
  if s.mode = Mode.LULL then
    .next { s with dev := { s.dev with pgCore := true, pgMem := true, wakeStep := if s.dev.wakeStep = 1 then 2 else s.dev.wakeStep } }
  else .next s

/-- WAKE_PLL_LOCKED (Table 02.8, step 3). -/
def execWakePllLocked (s : State) : Host.Outcome State Fault Refusal :=
  if s.mode = Mode.LULL ∧ s.dev.wakeStep = 2 then .next { s with dev := { s.dev with wakeStep := 3 } } else .next s

end Sys2Proof.Machine
end

