-- ==== Sys2Proof/Machine/Integrity.lean ====
section
/-! DEFINITION. The Strainer, error-correcting codes, scrubbing and watchdogs (13_integrity_and_faults.md). -/

namespace Sys2Proof.Machine

/-! ## The bytes of a region (R350, Table 13.1) -/

/-- The 64-bit word of FDB slot `n` (Table 05.10); an empty slot is zero. -/
def State.fdbWord (s : State) (i n : Nat) : Nat :=
  let lg := s.fdbLg i
  match (s.slice i).fdb.get? n with
  | none => 0
  | some e =>
    let rem := fdbHash (n / 2 ^ (lg - 1)) e.key % 2 ^ (60 - (lg - 3))
    rem + 2 ^ 49 + b2n e.isStatic * 2 ^ 50 + b2n e.group * 2 ^ 52 + e.dest * 2 ^ 53

/-- A classifier record as a scan reads it: counters and BLOCKED of a FILTER and MR of a METER are zero. -/
def clsScanned (v : Nat) : Nat :=
  if clsType v = 4 then nset (nset v 511 256 0) 85 85 0 else if clsType v = 5 then nset v 195 195 0 else v

/-- Byte `o` of the carve of slice `i`. -/
def State.tableByte (s : State) (i o : Nat) : Byte :=
  let f := 8 * 2 ^ s.fdbLg i
  let g := f + 16 * s.streamEntries i
  let at8 : Nat → Nat → Byte := fun v k => BitVec.ofNat 8 (v / 2 ^ (8 * k))
  if o < f then at8 (s.fdbWord i (o / 8)) (o % 8)
  else if o < g then at8 (s.streamEntry i ((o - f) / 16)) ((o - f) % 16)
  else at8 (clsScanned (s.clsRecord i ((o - g) / 64))) ((o - g) % 64)

/-- The test pattern of a PKT scan (R351): `n` words from number `j` on. -/
def pktPattern (seed : Nat) : Nat → Nat → List Byte
  | 0, _ => []
  | n + 1, j => leBytes 4 (seed ^^^ (j * 0x9E3779B9 % 2 ^ 32)) ++ pktPattern seed n (j + 1)

/-- Bytes `lo` to `hi - 1` of chunk `j` of ring `n`; none where the spec does not give them: beyond USED, in an unused chunk, and in the chunk
that a RUNNING ring writes. -/
def State.chunkBytes (s : State) (n j lo hi : Nat) : Option (List Byte) :=
  let r := s.ring n
  match r.chunks.find? fun c => c.idx == j with
  | none => none
  | some c =>
    if hi ≤ c.used ∧ (s.ringState n ≠ Ring.RUNNING ∨ (r.chunks.getLast?.map CdChunk.idx) ≠ some j) then
      some (Sys2Proof.Machine.slice (c.encode n c.recs false) lo (hi - lo))
    else none

/-- The bytes of ring `n` from `start` on; `fuel` counts chunks. -/
def State.ringBytes (s : State) (n : Nat) : Nat → Nat → Nat → Option (List Byte)
  | 0, _, _ => some []
  | fuel + 1, start, len =>
    if len = 0 then some []
    else
      let j := start / 1048576
      let k := min len ((j + 1) * 1048576 - start)
      match s.chunkBytes n j (start % 1048576) (start % 1048576 + k), s.ringBytes n fuel (start + k) (len - k) with
      | some a, some b => some (a ++ b)
      | _, _ => none

/-- LEN of engine `k`. -/
def State.scanLen (s : State) (k : Nat) : Nat := s.fld (F.ST_ENG_LEN.LEN k)

/-- The bytes of the region of engine `k`; none where the spec does not give them all. -/
def State.regionBytes (s : State) (k : Nat) : Option (List Byte) :=
  let m := s.fld (F.ST_ENG_CFG.MEM k)
  let a := s.scanStart k
  let n := s.scanLen k
  if m = 0 then some ((List.range n).map fun o => s.tableByte (s.fld (F.ST_ENG_CFG.SLICE k)) (a + o))
  else if m = 1 then some (pktPattern (s.fld (F.ST_ENG_START_LO.START k)) (n / 4) 0)
  else if m = 2 then s.ringBytes (s.fld (F.ST_ENG_CFG.RING k)) 65 a n
  else if a + n ≤ s.img.held.length then some (Sys2Proof.Machine.slice s.img.held a n) else none

/-! ## Engines (R351 to R355) -/

def State.setScan (s : State) (k : Nat) (x : StScan) : State := { s with scans := s.scans.put k x }

/-- Take `n` cells from the shared part of P0 for a PKT scan; fewer where it has fewer. -/
def State.pktCells (s : State) : Nat → State × List Nat
  | 0 => (s, [])
  | n + 1 =>
    if s.hasFree 0 then
      match s.bufTakeFrame 0 Own.STRAINER with
      | (s1, h) => match s1.pktCells n with | (s2, hs) => (s2, h :: hs)
    else (s.bufEmpty 0, [])

/-- A scan of engine `k` begins: the dirty bit is copied and cleared (R352); a PKT scan takes its cells. -/
def State.scanBegin (s : State) (k : Nat) : State :=
  let x := s.scan k
  let s1 := s.setFld (F.ST_ENG_RESULT.STATE k) Scan.SCAN
  if s.fld (F.ST_ENG_CFG.MEM k) = 1 then
    let n := ceilDiv (s.scanLen k) 256
    match s1.pktCells n with
    | (s2, hs) =>
      if hs.length = n then s2.setScan k { StScan.fresh with d0 := x.dirty, cells := hs }
      else (s2.bufFreeAll Own.STRAINER hs).setScan k { StScan.fresh with d0 := x.dirty, noBuf := true }
  else s1.setScan k { StScan.fresh with d0 := x.dirty }

def Acc.st (ofs : Nat) : Acc := Acc.direct Base.ST ofs

/-- The rules that GO of engine `k` may break (ST_ENG_CTRL_k; LEN 0 by R12). -/
def State.goChecks (s : State) (k : Nat) : List (Bool × Nat) :=
  let m := s.fld (F.ST_ENG_CFG.MEM k)
  let sl := s.fld (F.ST_ENG_CFG.SLICE k)
  let rs := s.ringState (s.fld (F.ST_ENG_CFG.RING k))
  let n := s.scanLen k
  let top := s.scanStart k + n
  let limit := if m = 0 then 3670016 else if m = 1 then 65536 else if m = 2 then 67108864 else 33554432
  let space := if m = 0 then 8 * 2 ^ s.fdbLg sl + 16 * s.streamEntries sl + 64 * s.clsEntries sl
    else if m = 2 then s.fld (F.CD_RING_CFG.CHUNKS (s.fld (F.ST_ENG_CFG.RING k))) * 1048576 else 33554432
  let cont := s.fld (F.ST_ENG_CFG.CONT k) == 1
  let ms := s.fld (F.ST_ENG_PERIOD.MS k)
  [(s.mode == Mode.LOAD || (m == 0 && s.slc sl != Slc.ACTIVE) ||
      (m == 2 && rs != Ring.RUNNING && rs != Ring.FROZEN && rs != Ring.ABSENT), Err.WRONG_MODE),
    (s.scanState k != Scan.IDLE || (m == 3 && !s.img.shadowed), Err.BUSY),
    (decide (limit < n) || (m != 1 && decide (space < top)), Err.RANGE),
    ((m != 1 && s.scanStart k % 8 != 0) || n % (if m = 1 then 256 else 8) != 0, Err.ALIGN),
    (n == 0 || (cont && ms == 0), Err.ZERO_LENGTH),
    ((cont && decide (3600000 < ms)) || (m == 2 && rs == Ring.ABSENT), Err.ILLEGAL_VALUE)]

/-- GO of engine `k`. -/
def State.scanGo (s : State) (a : Acc) (k : Nat) (rsv : Bool) : State :=
  s.guard a ((rsv, Err.RESERVED_FIELD) :: s.goChecks k) fun t => (t.setScan k { t.scan k with dirty := true }).scanBegin k

/-- STRAINER_GO (R353). -/
def execStrainerGo (k : Nat) (s : State) : Host.Outcome State Fault Refusal :=
  if 8 ≤ k then .fault .noSuchInstance else .next (s.scanGo (Acc.st (Reg.ST_ENG_CTRL k)) k false)

/-- STOP of engine `k`: a scan is abandoned without a result, and its cells return; its end in this same cycle still gives the result (R363). -/
def State.scanStop (s : State) (a : Acc) (k : Nat) (rsv : Bool) : State :=
  s.guard a [(rsv, Err.RESERVED_FIELD)] fun t =>
    if t.scanState k = Scan.IDLE then t
    else
      let t1 := t.bufFreeAll Own.STRAINER (t.scan k).cells
      let x := t1.scan k
      let t2 := if t.scanState k = Scan.SCAN then t1.setScan k { x with cells := [], stopAt := some t.cycle } else { t1 with scans := t1.scans.del k }
      t2.setFld (F.ST_ENG_RESULT.STATE k) Scan.IDLE

/-- STRAINER_STOP (R353). -/
def execStrainerStop (k : Nat) (s : State) : Host.Outcome State Fault Refusal :=
  if 8 ≤ k then .fault .noSuchInstance else .next (s.scanStop (Acc.st (Reg.ST_ENG_CTRL k)) k false)

/-- A write of ST_ENG_CTRL_k. -/
def State.scanCtrl (s : State) (a : Acc) (k v : Nat) (rsv : Bool) : State :=
  if bitAt v 0 && bitAt v 1 then s.guard a [(rsv, Err.RESERVED_FIELD), (true, Err.ILLEGAL_VALUE)] id
  else if bitAt v 0 then s.scanGo a k rsv
  else if bitAt v 1 then s.scanStop a k rsv
  else s.guard a [(rsv, Err.RESERVED_FIELD)] id

/-- The actions of a MISMATCH (R355). -/
def State.mismatch (s : State) (k crc : Nat) : State :=
  let expect := s.fld (F.ST_ENG_EXP.EXP k)
  let s1 := (s.scanClose k 2).flagBit F.ST_IRQ.MISMATCH k
  let s2 := (s1.spoutEvent Sp.ST_MISMATCH k 0 (crc + expect * 2 ^ 32)).irqEval
  s2.offerTrigger (fun t n => t.fldBit (F.CD_RING_TRIG_SRC.STR n) k) 5 k

/-- Whether the region was written while the scan ran (R352); a write in the cycle of its end counts for the next scan (R363). -/
def State.scanDirty (s : State) (k : Nat) : Bool := (s.scan k).dirty && (s.scan k).dirtyAt != some s.cycle

/-- Whether the value that a scan computes follows from the spec: every byte of the region is known, was not written during the scan, and read without a
double-bit error. -/
def State.scanKnown (s : State) (k : Nat) : Bool := !s.scanDirty k && !(s.scan k).ecc && (s.regionBytes k).isSome

/-- The value that a scan computes, with what a miscorrected word changes; else a free value (log entry 3). -/
def State.scanCrc (s : State) (k corrupt : Nat) : Nat :=
  if s.scanKnown k then crc32c ((s.regionBytes k).getD []) ^^^ corrupt else s.freeVal % 2 ^ 32

/-- A scan ends with the first result of Table 13.2 that applies; `corrupt` is what a miscorrected word changes. ST_ENG_CRC shows the value of every scan
that read its whole region. -/
def State.scanEnd (s : State) (k corrupt : Nat) : State :=
  let x := s.scan k
  let s0 := (s.bufFreeAll Own.STRAINER x.cells).setScan k { x with cells := [] }
  let crc := s.scanCrc k corrupt
  let s1 := if s.scanKnown k || x.noBuf then s0 else s0.tookFree
  let s2 := if x.noBuf then s1 else s1.setFld (F.ST_ENG_CRC.CRC k) crc
  if s.scanDirty k then s2.scanClose k 3
  else if x.noBuf then s2.scanClose k 4
  else if x.ecc then s2.scanClose k 6
  else if x.d0 && s.fld (F.ST_ENG_CFG.CAPTURE k) == 1 then (s2.setFld (F.ST_ENG_EXP.EXP k) crc).scanClose k 5
  else if crc = s.fld (F.ST_ENG_EXP.EXP k) then s2.scanClose k 1
  else s2.mismatch k crc

/-- A scan that STOP ended in this very cycle ends with its result; the engine stays IDLE (R363). -/
def State.scanStopped (s : State) (k corrupt : Nat) : State :=
  let t := s.scanEnd k corrupt
  { t with scans := t.scans.del k }.setFld (F.ST_ENG_RESULT.STATE k) Scan.IDLE

/-- SCAN_END (R352). -/
def execScanEnd (k : Nat) (corrupt : BitVec 32) (s : State) : Host.Outcome State Fault Refusal :=
  if 8 ≤ k then .fault .noSuchInstance
  else if s.scanState k = Scan.SCAN then .next (s.scanEnd k corrupt.toNat)
  else if (s.scan k).stopAt = some s.cycle then .next (s.scanStopped k corrupt.toNat)
  else .next s

/-- SCAN_PERIOD_EXPIRY (R353). -/
def execScanPeriodExpiry (k : Nat) (s : State) : Host.Outcome State Fault Refusal :=
  if 8 ≤ k then .fault .noSuchInstance
  else if s.scanState k = Scan.WAIT then .next (s.scanBegin k)
  else .next s

/-- A write of ST_ENG_ALIVE_EXP_k starts its timer (R354). -/
def State.aliveExp (s : State) (a : Acc) (k v : Nat) : State :=
  s.guard a [(v / 2 ^ 16 == 0, Err.ZERO_LENGTH)] fun t =>
    { t with dev := { t.dev with aliveArm := setBit t.dev.aliveArm k true } }.wr (Reg.ST_ENG_ALIVE_EXP k) (BitVec.ofNat 64 v)

/-- ALIVE_EXP_WRITE (R354). -/
def execAliveExpWrite (k : Nat) (v : BitVec 32) (s : State) : Host.Outcome State Fault Refusal :=
  if 8 ≤ k then .fault .noSuchInstance else .next (s.aliveExp (Acc.st (Reg.ST_ENG_ALIVE_EXP k)) k v.toNat)

/-- ALIVE_DEADLINE_EXPIRY (R354): the timer that the last write started expires. -/
def execAliveDeadlineExpiry (k : Nat) (s : State) : Host.Outcome State Fault Refusal :=
  if 8 ≤ k then .fault .noSuchInstance
  else
    let behind := signed 16 (s.fld (F.ST_ENG_RESULT.ALIVE k) + 2 ^ 16 - s.fld (F.ST_ENG_ALIVE_EXP.EXP k))
    let s0 := { s with dev := { s.dev with aliveArm := setBit s.dev.aliveArm k false } }
    if bitAt s.dev.aliveArm k = false then .next s
    else if behind < 0 then
      let s1 := (s0.flag (F.ST_ENG_FLAGS.STUCK k)).flagBit F.ST_IRQ.STUCK k
      .next (s1.spoutEvent Sp.ST_STUCK k 0 (s.fld (F.ST_ENG_RESULT.ALIVE k) + s.fld (F.ST_ENG_ALIVE_EXP.EXP k) * 2 ^ 16)).irqEval
    else .next s0

/-! ## Error-correcting codes (R356 to R358, Table 13.4) -/

/-- A corrected word of memory `m` is counted. -/
def execEccSingleError (m : Nat) (s : State) : Host.Outcome State Fault Refusal :=
  if 9 ≤ m then .fault .noSuchInstance
  else if s.mode < Mode.LOAD then .next s
  else .next (s.count (Reg.ST_ECC_CNT m 0))

/-- A double-bit error at word `w` of memory `m` is counted, its address kept, and reported. -/
def State.eccNote (s : State) (m w : Nat) : State :=
  ((s.count (Reg.ST_ECC_CNT m 1)).setFld (F.ST_ECC_ADDR.WORD m) w).spoutEvent Sp.ECC m 0 (w % 2 ^ 32)

/-- A table error or watchdog expiry of slice `i` (R359, R360): an ACTIVE slice goes to FAULT; in FAULT and RECONF nothing more happens. -/
def State.sliceFault (s : State) (i : Nat) : State :=
  if s.slc i = Slc.ACTIVE then (s.coveredFault.openRecov i).setSlc i Slc.FAULT else s

/-- A landed copy at a queue head of port `p` is dropped before its first bit leaves: from the launch-time queue or a class queue; where several
hold one, which was read is open (log entry 3). -/
def State.dropHead (s : State) (p : Nat) : State :=
  let e := s.egp p
  let qs := (if e.lt.isEmpty then [] else [8]) ++ (List.range 8).filter fun c => !(e.cls c).isEmpty
  if qs.isEmpty then s
  else
    let c := qs.getD (s.freeVal % qs.length) 0
    let s1 := s.tookFree
    if c = 8 then
      match e.lt with
      | [] => s1
      | x :: r => (s1.setEgp p { e with lt := r }).copyDrop p x (Reg.PRT_FAB_CNT p 5) Htx.EGRESS_DROP
    else
      match e.cls c with
      | [] => s1
      | x :: r => ((s1.setEgp p (e.setCls c r)).copyDrop p x (Reg.PRT_FAB_CNT p 5) Htx.EGRESS_DROP).cbsSettle p c

/-- A frame whose descriptor is lost is dropped whole; its buffers stay for the auditor (Table 13.4). The queue is one that holds a frame
towards port `p`: a VOQ, a multicast queue, a class queue or the launch-time queue; which is open (log entry 3). -/
def State.loseDescriptor (s : State) (p : Nat) : State :=
  let e := s.egp p
  let voqs := s.fab.voq.keys.filter fun k => s.lanePort (k / 8 % 192) == p && !(s.voqAt k).sram.isEmpty
  let mcs := (s.fab.mc.entries.filter fun m => m.2.todo.any fun n => s.lanePort n == p).map (·.1)
  let qs : List (Nat × Nat) := voqs.map (fun k => (0, k)) ++ mcs.map (fun i => (1, i)) ++
    ((List.range 8).filter fun c => !(e.cls c).isEmpty).map (fun c => (2, c)) ++ (if e.lt.isEmpty then [] else [(3, 0)])
  match qs[s.freeVal % qs.length]? with
  | none => s
  | some (0, k) =>
    let v := s.voqAt k
    let s1 := (s.tookFree.setVoq k { v with sram := v.sram.drop 1 }).count (Reg.PRT_FAB_CNT p 5)
    match v.sram with
    | [] => s1
    | f :: _ => s1.frameEnd f Htx.EGRESS_DROP 0
  | some (1, i) =>
    match s.mcAt i with
    | none => s
    | some m =>
      let s1 := m.todo.foldl (fun t n => t.count (Reg.PRT_FAB_CNT (s.lanePort n) 5)) s.tookFree
      let m1 : McFrame := { m with todo := [] }
      (if m.live = 0 then s1.setFab { s1.fab with mc := s1.fab.mc.del i }
        else s1.setMc i { m1 with fr := { m.fr with bufs := [] } }).mcClean
  | some (2, c) =>
    let s1 := (s.tookFree.setEgp p (e.setCls c ((e.cls c).drop 1))).count (Reg.PRT_FAB_CNT p 5)
    match e.cls c with
    | [] => s1
    | x :: _ => (s1.frameEnd x.fr Htx.EGRESS_DROP 0).cbsSettle p c
  | some (_, _) =>
    let s1 := (s.tookFree.setEgp p { e with lt := e.lt.drop 1 }).count (Reg.PRT_FAB_CNT p 5)
    match e.lt with
    | [] => s1
    | x :: _ => s1.frameEnd x.fr Htx.EGRESS_DROP 0

/-- A staged record is lost: the oldest of slice `i`'s staging memory; its RSEQ is consumed (R333). -/
def State.loseStaged (s : State) (i : Nat) : State :=
  match s.caddy.staging.getD i [] with
  | [] => s
  | (n, _) :: rest =>
    let s1 := { s with caddy := { s.caddy with staging := s.caddy.staging.setD i rest [] } }
    let r := s1.ring n
    s1.setRing n { r with rseq := (r.rseq + 1) % 2 ^ 32, gap := true }

/-- The oldest spilled frame of a VOQ of slice `i` towards port `p` in class `c` is dropped before refill (R178). -/
def State.loseSpilled (s : State) (i p c : Nat) : State :=
  match s.fab.voq.keys.find? fun k => k / 8 / 192 == i && s.lanePort (k / 8 % 192) == p && k % 8 == c &&
      (s.voqAt k).seg.any fun e => e.1.isSome with
  | none => s
  | some k =>
    let v := s.voqAt k
    let before := v.seg.takeWhile fun e => e.1.isNone
    let v1 : Voq := { v with seg := before ++ (v.seg.drop (before.length + 1)) }
    let s1 := ((s.count (Reg.BPM_CNT 13)).freeBlocks v v1).setVoq k v1
    match (v.seg.drop before.length).head? with
    | none => s1
    | some e => s1.frameEnd e.2 Htx.EGRESS_DROP 0

/-- Change the chunks of ring `n`. -/
def State.mapChunks (s : State) (n : Nat) (f : CdChunk → CdChunk) : State :=
  let r := s.ring n
  if r.chunks.isEmpty then s else s.setRing n { r with chunks := r.chunks.map f }

/-- Change the record `rseq` of ring `n`. -/
def State.mapRecord (s : State) (n rseq : Nat) (f : CdRecord → CdRecord) : State :=
  s.mapChunks n fun c => { c with recs := c.recs.map fun x => if x.rseq = rseq then f x else x }

/-- A double-bit error in a word of the region that engine `k` scans (R352): in a table it is a table error, in the held image a damaged shadow. -/
def State.scanHit (s : State) (k w : Nat) : State :=
  let m := s.fld (F.ST_ENG_CFG.MEM k)
  let sl := s.fld (F.ST_ENG_CFG.SLICE k)
  let s1 := s.setScan k { s.scan k with ecc := true }
  if m = 0 then (s1.eccNote sl w).sliceFault sl
  else if m = 1 then s1.eccNote 4 w
  else if m = 2 then s1.eccNote 8 w
  else (s1.eccNote 7 w).setFld F.ST_HEALTH.SHADOW_BAD 1

/-- Containment of a double-bit error (Table 13.4, R358, R360). -/
def State.eccDouble (s : State) (hit : EccHit) (w : Nat) : State :=
  match hit with
  | .table i => (s.eccNote i w).sliceFault i
  | .packetFrame p => (s.eccNote 4 w).coveredFault.dropHead p
  | .descriptor p => ((s.eccNote 5 w).coveredFault.openRecov 8).loseDescriptor p
  | .staging i => (s.eccNote 6 w).loseStaged i
  | .spill i p c => (s.eccNote 7 w).coveredFault.loseSpilled i p c
  | .shadow => if s.img.shadowed then (s.eccNote 7 w).setFld F.ST_HEALTH.SHADOW_BAD 1 else s.eccNote 7 w
  | .caddyRecord n q => (s.eccNote 8 w).coveredFault.mapRecord n q fun x => { x with bad := true }
  | .caddyHeader n q => (s.eccNote 8 w).coveredFault.mapRecord n q fun x => { x with hdrBad := true }
  | .caddyChunk n j => (s.eccNote 8 w).coveredFault.mapChunks n fun c => if c.idx = j then { c with hdrBad := true } else c
  | .scanned k => if s.scanState k = Scan.SCAN then s.scanHit k w else s
  | .quiet m => s.eccNote m w

/-- Whether the device has the unit that a double-bit error names. -/
def eccUnit (hit : EccHit) : Bool :=
  match hit with
  | .table i => decide (i < 4)
  | .packetFrame p => decide (p < 192)
  | .descriptor p => decide (p < 192)
  | .staging i => decide (i < 4)
  | .spill i p c => decide (i < 4) && decide (p < 192) && decide (c < 8)
  | .shadow => true
  | .caddyRecord n _ => decide (n < 8)
  | .caddyHeader n _ => decide (n < 8)
  | .caddyChunk n _ => decide (n < 8)
  | .scanned k => decide (k < 8)
  | .quiet m => decide (m < 9)

/-- ECC_DOUBLE_ERROR (R356). -/
def execEccDoubleError (hit : EccHit) (w : Nat) (s : State) : Host.Outcome State Fault Refusal :=
  if !eccUnit hit then .fault .noSuchInstance
  else if s.mode < Mode.LOAD then .next s
  else .next (s.eccDouble hit w)

/-- SCRUB_PASS (R357). -/
def execScrubPass (m : Nat) (s : State) : Host.Outcome State Fault Refusal :=
  if 9 ≤ m then .fault .noSuchInstance
  else if s.mode < Mode.LOAD then .next s
  else .next (s.wrapAdd (F.ST_SCRUB.PASSES m) 1)

/-- SLICE_WATCHDOG_EXPIRY (R359). A slice without power has no pipeline. -/
def execSliceWatchdogExpiry (i : Nat) (s : State) : Host.Outcome State Fault Refusal :=
  if 4 ≤ i then .fault .noSuchInstance
  else if s.powered i then .next ((s.watchdog i).sliceFault i)
  else .next s

end Sys2Proof.Machine
end

