-- ==== Sys2Proof/Machine/Host.lean ====
section
/-! DEFINITION. The host interface (14_host_interface.md): PCIe, MSI-X, Spout, the host transmit ring, performance counters and the dump, MDIO,
flash and the test access port; temperature and supply monitors (15_pins_power_package.md). -/

namespace Sys2Proof.Machine

/-! ## MSI-X (R379) -/

/-- Messages held pending whose vectors are no longer masked: each is sent if its OR is still 1. -/
def State.msixRelease (s : State) : State :=
  if !s.pcie.msixEn then s
  else
    ((bitList 64 s.irq.pba).filter fun v => !s.msixMasked v).foldl (fun t v =>
      let t1 := { t with irq := { t.irq with pba := setBit t.irq.pba v false } }
      if t1.vecHigh v then t1.sendMsix v else t1) s

/-- A write of word `w` of vector `v`'s entry in the MSI-X table. Only the mask bit of the vector control is writable. -/
def State.msixWrite (s : State) (a : Acc) (v w x : Nat) : State :=
  s.guard a [] fun t =>
    let y := if w = 0 then x / 4 * 4 else if w = 3 then x % 2 else x
    (t.wr (Reg.MSIX v w) (BitVec.ofNat 64 y)).msixRelease

/-- MSIX_UNMASK (R379). -/
def execMsixUnmask (v : Nat) (s : State) : Host.Outcome State Fault Refusal :=
  if 64 ≤ v then .fault .noSuchInstance else .next (s.msixWrite (Acc.dev (Reg.MSIX v 3)) v 3 0)

/-! ## The PCIe endpoint (R365, R366, R397) -/

/-- DMA is no longer possible: a readout and an image fetch end as aborted. How many chunks a readout had written is open (log entry 3). -/
def State.dmaLost (s : State) : State :=
  let s1 := if s.fld F.CD_RD_STATUS.STATE = 1 then
      (s.tookFree.readoutEnd (s.freeVal % max 1 (s.fld F.CD_RD_COUNT.COUNT)) 3).count (Reg.DEV_HI_CNT 5)
    else s
  if s1.imgState = ImgSt.FETCH ∧ s1.imgSource = 2 then s1.imgEnd ImgSt.FAILED Err.BUSY else s1

/-- Configuration space and the MSI-X table return to their power-on values; credits that the host granted return to it (Table 02.11). -/
def State.endpointReset (s : State) (link : Bool) : State :=
  let s1 := if s.dmaOk then s.dmaLost else s
  let s2 := (s1.porWhere fun a => decide (0x8000 ≤ a) && decide (a < 0xA000)).sqPerst
  { s2 with
    pcie := ⟨link, false, false, false⟩, irq := { s2.irq with pba := 0 },
    spout := s2.spout.mapV fun _ k => k.recall }

/-- PERST_N_ASSERT (R58). Without power in the core the endpoint is held in reset already. -/
def execPerstNAssert (s : State) : Host.Outcome State Fault Refusal :=
  let s1 := { s with dev := { s.dev with perstN := false } }
  if s.mode < Mode.LOAD then .next s1 else .next (s1.endpointReset false)

/-- PERST_N_RELEASE (R415). -/
def execPerstNRelease (s : State) : Host.Outcome State Fault Refusal := .next { s with dev := { s.dev with perstN := true } }

/-- FUNCTION_LEVEL_RESET (R365): it reaches the device over the link, which stays up. -/
def execFunctionLevelReset (s : State) : Host.Outcome State Fault Refusal :=
  if s.pcie.linkUp then .next (s.endpointReset true) else .next s

/-- PCIE_LINK_UP (R366): the host has set Bus Master Enable, MSI-X Enable and Function Mask as given. -/
def execPcieLinkUp (bme msix mask : Bool) (s : State) : Host.Outcome State Fault Refusal :=
  if s.mode < Mode.LOAD ∨ s.dev.perstN = false then .next s
  else
    let s1 := if s.dmaOk && !bme then s.dmaLost else s
    .next { s1 with pcie := ⟨true, bme, msix, mask⟩ }.msixRelease

/-- PCIE_LINK_DOWN (R397): the link, or Bus Master Enable alone. -/
def execPcieLinkDown (bmeOnly : Bool) (s : State) : Host.Outcome State Fault Refusal :=
  let s1 := if s.dmaOk then s.dmaLost else s
  .next { s1 with pcie := { s1.pcie with linkUp := s1.pcie.linkUp && bmeOnly, bme := s1.pcie.bme && !bmeOnly } }

/-! ## Spout (R381 to R385) -/

def Acc.sp (ofs : Nat) : Acc := Acc.direct Base.SP ofs

/-- The four words of an entry (Table 14.6). -/
def SpEntry.words (e : SpEntry) : List Nat :=
  [e.source + Sp.classOf e.source * 2 ^ 8 + 2 ^ 15 + e.inst % 256 * 2 ^ 16 + e.arg % 256 * 2 ^ 24, e.time % 2 ^ 32, e.data % 2 ^ 32,
    e.data / 2 ^ 32 % 2 ^ 32]

/-- The entry at the head stage of a class; one that reached it in this cycle is not yet seen (R397). -/
def SpClass.head (k : SpClass) : Option SpEntry :=
  match k.stages with
  | (0, e) :: _ => if k.arrived then none else some e
  | _ => none

/-- Latch four words for the pop registers. -/
def State.popLatch (s : State) (ws : List Nat) : State :=
  (List.range 4).foldl (fun t w => t.wr (Reg.SP_POP w) (BitVec.ofNat 64 (ws.getD w 0))) s

/-- A read of SP_POP_0 (R385): the head of the lowest-numbered class that has one is popped, and its credit returns to the host. -/
def State.popSpout (s : State) (a : Acc) : State :=
  s.guard a [] fun t =>
    match [0, 1, 2, 3].find? fun c => (t.spClass c).head.isSome with
    | none => (t.popLatch []).answer a 0
    | some c =>
      let k := t.spClass c
      match k.stages with
      | (_, e) :: r => ((t.setSpClass c { k with host := k.host + 1, stages := r }).popLatch e.words).answer a (e.words.getD 0 0)
      | [] => t

/-- SPOUT_POP (R385). -/
def execSpoutPop (s : State) : Host.Outcome State Fault Refusal :=
  .next (s.popSpout { Acc.sp (Reg.SP_POP 0) with isWrite := false })

/-- A write of SP_CREDIT_n (R384): grant and recall. -/
def State.spCredit (s : State) (a : Acc) (n k : Nat) (back rsv : Bool) : State :=
  let c := s.spClass n
  s.guard a [(rsv, Err.RESERVED_FIELD), (decide (64 < k) || (back && decide (0 < k)), Err.ILLEGAL_VALUE),
      (decide (c.host < k), Err.NO_CREDIT)] fun t =>
    t.setSpClass n (if back then (t.spClass n).recall else (t.spClass n).grant t.cycle k)

/-- SPOUT_CREDIT_GRANT (R384). -/
def execSpoutCreditGrant (c n : Nat) (s : State) : Host.Outcome State Fault Refusal :=
  if 4 ≤ c then .fault .noSuchInstance else .next (s.spCredit (Acc.sp (Reg.SP_CREDIT c)) c n false false)

/-- SPOUT_CREDIT_RECALL (R384). -/
def execSpoutCreditRecall (c : Nat) (s : State) : Host.Outcome State Fault Refusal :=
  if 4 ≤ c then .fault .noSuchInstance else .next (s.spCredit (Acc.sp (Reg.SP_CREDIT c)) c 0 true false)

/-- The stages of a class in the next cycle: each entry moves forward until the stage ahead of it is occupied (R383). -/
def spAdvance : Option Nat → List (Nat × SpEntry) → List (Nat × SpEntry)
  | _, [] => []
  | none, (k, e) :: r => (k - 1, e) :: spAdvance (some (k - 1)) r
  | some p, (k, e) :: r => let q := max (k - 1) (p + 1); (q, e) :: spAdvance (some q) r

/-- One cycle of a class: the chain moves, and the latch of the lowest source code enters stage 63 (R383). -/
def SpClass.tick (k : SpClass) : SpClass :=
  let st := spAdvance none k.stages
  let at0 : List (Nat × SpEntry) → Bool := fun l => (l.head?.map (·.1)) == some 0
  let k1 := { k with stages := st, arrived := at0 st && !at0 k.stages }
  match k.latches with
  | [] => k1
  | e :: r => if (st.getLast?.map (·.1)) = some 63 then k1 else { k1 with latches := r, stages := st ++ [(63, e)] }

/-- One cycle of Spout. -/
def State.spoutTick (s : State) : State := { s with spout := s.spout.mapV fun _ k => k.tick }

/-! ## The host transmit ring (R386, R387) -/

/-- A write of DEV_HTX_TAIL. -/
def State.htxTail (s : State) (a : Acc) (v : Nat) : State :=
  s.guard a [(decide (4096 ≤ v), Err.RESERVED_FIELD), (decide (s.fld F.DEV_HTX_COUNT.N ≤ v % 4096), Err.RANGE)] fun t =>
    t.setFld F.DEV_HTX_TAIL.IDX v

/-- HTX_TAIL_WRITE (R386). -/
def execHtxTailWrite (v : BitVec 32) (s : State) : Host.Outcome State Fault Refusal :=
  .next (s.htxTail (Acc.dev Reg.DEV_HTX_TAIL) v.toNat)

/-- Descriptor `i`, fetched with its frame, ends with a result and sends none. -/
def State.htxEnds (s : State) (i : Nat) (d : TxDesc) (result : Nat) : State :=
  { s with host := { s.host with htx := s.host.htx ++ [⟨i, d, result, 0, true⟩] } }

/-- A fetched descriptor (R387): its length and port are checked, one buffer is requested, and the frame reaches VOQ entry. -/
def State.htxFetch (s : State) (d : TxDesc) (frame : List Byte) : State :=
  let i := s.host.htxNext
  let n := s.fld F.DEV_HTX_COUNT.N
  let s0 := { s with host := { s.host with htxNext := (i + 1) % max 1 n } }
  if d.len < 60 ∨ 10236 < d.len then s0.htxEnds i d Htx.BAD_LEN
  else if !s.portUsed d.port then s0.htxEnds i d Htx.BAD_PORT
  else match s0.bufAlloc (d.len + 4) Own.HOST with
    | (s1, none) => s1.htxEnds i d Htx.NO_BUFFER
    | (s1, some h) =>
      let sl := sliceOf d.port
      if !s.powered sl then (s1.bufFree Own.HOST h).htxEnds i d Htx.PORT_DOWN
      else if d.lt && (s.mode == Mode.STEEP || (s.mode == Mode.CALM && !s.resuming sl)) then
        (s1.bufFree Own.HOST h).htxEnds i d Htx.EGRESS_DROP
      else
        let launch := if d.lt then some (d.launch % 2 ^ 32 * 2 ^ 16 + d.frac % 2 ^ 16) else none
        let f : Frame := ⟨s1.uid, 1, i, withFcs frame, 0xFF, sl, d.cls % 8, false, 0, 0, false, none, 0, 0, 0, launch, 0, 0, [h]⟩
        let s2 : State := { s1 with
          uid := s1.uid + 1, host := { s1.host with htx := s1.host.htx ++ [⟨i, d, Htx.EGRESS_DROP, 0, false⟩] } }
        s2.enqueue Own.HOST f d.port

/-- HTX_DESCRIPTOR_FETCHED (R386, R387): the ring is enabled, DMA is possible, the device transmits, TAIL is ahead, and fewer than 256 frames are in
flight. -/
def execHtxDescriptorFetched (d : TxDesc) (frame : List Byte) (s : State) : Host.Outcome State Fault Refusal :=
  if s.fld F.DEV_HTX_CTRL.EN == 1 && s.dmaOk && decide (Mode.STEEP ≤ s.mode) && decide (s.mode ≤ Mode.CALM) &&
      s.host.htxNext != s.fld F.DEV_HTX_TAIL.IDX && decide (s.host.htx.length < 256) then .next (s.htxFetch d frame)
  else .next s

/-- A descriptor as it is written back (Table 14.8). -/
def HtxSlot.bytes (h : HtxSlot) : List Byte :=
  leBytes 8 h.desc.addr.toNat ++ leBytes 2 h.desc.len ++ leBytes 1 h.desc.port ++ leBytes 1 (h.desc.cls % 8 + b2n h.desc.lt * 8 + 128) ++
    leBytes 4 h.desc.launch ++ leBytes 2 h.desc.frac ++ leBytes 1 h.result ++ leBytes 1 0 ++ t96Bytes (if h.result = 0 then h.stamp else 0)

/-- HEAD passes over the descriptors that have been written back; `fuel` counts them. -/
def State.htxAdvance (s : State) : Nat → State
  | 0 => s
  | fuel + 1 =>
    let h := s.fld F.DEV_HTX_HEAD.IDX
    if s.host.htxWrote.contains h then
      ({ s with host := { s.host with htxWrote := s.host.htxWrote.filter (· != h) } }.setFld F.DEV_HTX_HEAD.IDX
        ((h + 1) % max 1 (s.fld F.DEV_HTX_COUNT.N))).htxAdvance fuel
    else s

/-- A descriptor leaves the slots. -/
def State.htxGone (s : State) (idx : Nat) : State :=
  { s with host := { s.host with htx := s.host.htx.filter fun x => x.idx != idx } }

/-- A descriptor has been written back. -/
def State.htxWritten (s : State) (idx : Nat) : State := { s with host := { s.host with htxWrote := s.host.htxWrote ++ [idx] } }

/-- A descriptor whose frame has left or been dropped is written back (R386); where DMA is not possible the write-back is lost (R397). -/
def State.htxDone (s : State) (h : HtxSlot) : State :=
  let s1 := (s.htxGone h.idx).count (Reg.DEV_HI_CNT (if h.result = 0 then 0 else 1))
  if s.dmaOk then
    let base := (s.rd Reg.DEV_HTX_BASE_LO).toNat + (s.rd Reg.DEV_HTX_BASE_HI).toNat * 2 ^ 32
    let s2 := (s1.dmaWrite (base + 32 * h.idx) h.bytes 32).htxWritten h.idx
    (s2.htxAdvance s2.host.htxWrote.length).raiseCause Irq.HTX
  else s1.count (Reg.DEV_HI_CNT 5)

/-- HTX_WRITE_BACK (R386). -/
def execHtxWriteBack (idx : Nat) (s : State) : Host.Outcome State Fault Refusal :=
  match s.host.htx.find? fun h => h.idx == idx && h.ended with
  | none => .next s
  | some h => .next (s.htxDone h)

/-! ## Performance counters and the dump (R389 to R393) -/

def Acc.pf (ofs : Nat) : Acc := Acc.direct Base.PF ofs

/-- How many instances an event has: none where the table does not define it, 0 where it has none (Table 14.10). -/
def pfInstances (ev : Nat) : Option Nat :=
  if ev ≤ 3 ∨ (0x800 ≤ ev ∧ ev ≤ 0x802) then some 0
  else if 0x100 ≤ ev ∧ ev ≤ 0x106 then some 4
  else if 0x200 ≤ ev ∧ ev ≤ 0x206 then some 192
  else if 0x300 ≤ ev ∧ ev ≤ 0x302 then some 4
  else if 0x400 ≤ ev ∧ ev ≤ 0x403 then some 5
  else if ev = 0x500 ∨ ev = 0x501 then some 8
  else if ev = 0x600 ∨ ev = 0x601 then some 229
  else if ev = 0x700 ∨ ev = 0x701 then some 8
  else none

/-- Whether {event, instance} is not one that PF_SEL_n takes (R389). -/
def pfIllegal (ev inst : Nat) : Bool :=
  match pfInstances ev with
  | none => true
  | some 0 => inst != 0
  | some n => decide (n ≤ inst) && inst != 0xFF

/-- A write of PF_SEL_n (R389, R391). -/
def State.pfSelect (s : State) (a : Acc) (n v : Nat) : State :=
  s.guard a [(v / 2 ^ 12 % 16 != 0 || v / 2 ^ 24 != 0, Err.RESERVED_FIELD),
      (pfIllegal (v % 2 ^ 12) (v / 2 ^ 16 % 2 ^ 8), Err.ILLEGAL_VALUE)] fun t =>
    let t1 := (t.wr (Reg.PF_SEL n) (BitVec.ofNat 64 v)).wr (Reg.PF_CNT n) 0
    { t1 with host := { t1.host with pfClr := t1.host.pfClr.put n (t.cycle + 1) } }

/-- PF_SELECT (R391). -/
def execPfSelect (n : Nat) (v : BitVec 32) (s : State) : Host.Outcome State Fault Refusal :=
  if 64 ≤ n then .fault .noSuchInstance else .next (s.pfSelect (Acc.pf (Reg.PF_SEL n)) n v.toNat)

/-- A dump record (Table 14.11). -/
def State.dumpRecord (s : State) : List Byte :=
  leBytes 4 0x504D5544 ++ leBytes 4 s.host.dumpSeq ++ leBytes 1 s.mode ++ leBytes 1 (b2n s.host.dumpMissedPrev) ++ leBytes 2 0 ++
    t96Bytes (s.now16 0) ++ List.replicate 40 0 ++ ((List.range 64).map fun n => leBytes 8 (s.rd (Reg.PF_CNT n)).toNat).flatten

/-- DUMP_SAMPLE (R393). -/
def execDumpSample (prevWritten : Bool) (s : State) : Host.Outcome State Fault Refusal :=
  if s.fld F.PF_DUMP_CTRL.EN = 0 ∨ !(s.mode == Mode.STEEP || s.mode == Mode.PROBE || s.mode == Mode.CALM) = true then .next s
  else
    let q := s.host.dumpSeq
    let missed := !prevWritten || !s.dmaOk
    let s1 := { s with host := { s.host with dumpSeq := (q + 1) % 2 ^ 32, dumpMissedPrev := missed } }.setFld F.PF_DUMP_STATUS.SEQ q
    if missed then .next ((s1.satAdd F.PF_DUMP_STATUS.MISSED 1).spoutEvent Sp.PF_DUMP 0 0 q)
    else
      let base := (s.rd Reg.PF_DUMP_ADDR_LO).toNat + (s.rd Reg.PF_DUMP_ADDR_HI).toNat * 2 ^ 32
      .next ((s1.dmaWrite (base + 576 * (q % max 1 (s.fld F.PF_DUMP_COUNT.N))) s.dumpRecord 576).raiseCause Irq.PF_DUMP)

/-! ## MDIO (R394) -/

/-- A write of DEV_MDIO_CMD_m. -/
def State.mdioCmd (s : State) (a : Acc) (m v : Nat) : State :=
  s.guard a [(s.fld (F.DEV_MDIO_STATUS.BUSY m) == 1, Err.BUSY), (v / 2 ^ 12 % 16 != 0, Err.RESERVED_FIELD)] fun t =>
    let op := v % 4
    let t1 := { t with host := { t.host with
      mdioOp := t.host.mdioOp.put m (op, v / 4 % 32, v / 2 ^ 7 % 32, v / 2 ^ 16 % 2 ^ 16) } }
    (t1.setFld (F.DEV_MDIO_STATUS.BUSY m) 1).emit (.mdio m op (v / 4 % 32) (v / 2 ^ 7 % 32) (v / 2 ^ 16 % 2 ^ 16))

/-- The value of DEV_MDIO_CMD_m for an operation. -/
def mdioWord (op : Nat) (prtad devad : BitVec 5) (data : BitVec 16) : Nat :=
  op + prtad.toNat * 4 + devad.toNat * 2 ^ 7 + data.toNat * 2 ^ 16

/-- MDIO_ADDRESS (R394). -/
def execMdioAddress (m : Nat) (prtad devad : BitVec 5) (data : BitVec 16) (s : State) : Host.Outcome State Fault Refusal :=
  if 4 ≤ m then .fault .noSuchInstance else .next (s.mdioCmd (Acc.dev (Reg.DEV_MDIO_CMD m)) m (mdioWord 0 prtad devad data))

/-- MDIO_WRITE (R394). -/
def execMdioWrite (m : Nat) (prtad devad : BitVec 5) (data : BitVec 16) (s : State) : Host.Outcome State Fault Refusal :=
  if 4 ≤ m then .fault .noSuchInstance else .next (s.mdioCmd (Acc.dev (Reg.DEV_MDIO_CMD m)) m (mdioWord 1 prtad devad data))

/-- MDIO_READ_INC (R394). -/
def execMdioReadInc (m : Nat) (prtad devad : BitVec 5) (s : State) : Host.Outcome State Fault Refusal :=
  if 4 ≤ m then .fault .noSuchInstance else .next (s.mdioCmd (Acc.dev (Reg.DEV_MDIO_CMD m)) m (mdioWord 2 prtad devad 0))

/-- MDIO_READ (R394). -/
def execMdioRead (m : Nat) (prtad devad : BitVec 5) (s : State) : Host.Outcome State Fault Refusal :=
  if 4 ≤ m then .fault .noSuchInstance else .next (s.mdioCmd (Acc.dev (Reg.DEV_MDIO_CMD m)) m (mdioWord 3 prtad devad 0))

/-- MDIO_OP_DONE (R394): a read leaves its data in RDATA. -/
def execMdioOpDone (m : Nat) (data : BitVec 16) (s : State) : Host.Outcome State Fault Refusal :=
  if 4 ≤ m then .fault .noSuchInstance
  else match s.host.mdioOp.get? m with
    | none => .next s
    | some (op, _) =>
      let s1 := { s with host := { s.host with mdioOp := s.host.mdioOp.del m } }.setFld (F.DEV_MDIO_STATUS.BUSY m) 0
      .next ((if 2 ≤ op then s1.setFld (F.DEV_MDIO_STATUS.RDATA m) data.toNat else s1).raiseCause Irq.MDIO)

/-! ## Flash (R395) -/

/-- The discovered size in bytes, 0 before discovery or where it failed. -/
def State.flashSize (s : State) : Nat := s.fld F.DEV_FLASH_INFO.SIZE_MIB * 2 ^ 20

/-- Whether a flash address lies beyond the discovered size. -/
def State.flashBeyond (s : State) (x : Nat) : Bool := s.flashSize != 0 && decide (s.flashSize ≤ x)

/-- A write of DEV_FLASH_CMD: 1 read, 2 page program, 3 and 4 erase, 5 read SFDP. -/
def State.flashCmd (s : State) (a : Acc) (op len key : Nat) : State :=
  let x := s.fld F.DEV_FLASH_ADDR.ADDR
  let withLen := op == 1 || op == 2 || op == 5
  let size := if op = 3 then 4096 else 65536
  s.guard a [(s.fld F.DEV_FLASH_STATUS.BUSY == 1 || s.flashLoading, Err.BUSY),
      ((op != 5 && s.flashBeyond x) || (op == 2 && decide (256 < x % 256 + len)), Err.RANGE),
      ((op == 3 || op == 4) && x % size != 0, Err.ALIGN), (withLen && len == 0, Err.ZERO_LENGTH),
      (op == 0 || decide (5 < op) || (withLen && decide (256 < len)) || (!(op == 1 || op == 5) && key != 0xF1A5), Err.ILLEGAL_VALUE)] fun t =>
    let data := if op = 2 then (((List.range 64).map fun i => leBytes 4 (t.rd (Reg.DEV_FLASH_BUF i)).toNat).flatten).take len else []
    let t1 := { t with host := { t.host with flashOp := op, flashLen := len } }.setFld F.DEV_FLASH_STATUS.BUSY 1
    t1.emit (.flash op x data)

def Acc.flash : Acc := Acc.dev Reg.DEV_FLASH_CMD

/-- FLASH_READ (R395). -/
def execFlashRead (len : BitVec 13) (s : State) : Host.Outcome State Fault Refusal := .next (s.flashCmd Acc.flash 1 len.toNat 0)

/-- FLASH_PAGE_PROGRAM (R395). -/
def execFlashPageProgram (len : BitVec 13) (key : BitVec 16) (s : State) : Host.Outcome State Fault Refusal :=
  .next (s.flashCmd Acc.flash 2 len.toNat key.toNat)

/-- FLASH_ERASE_4K (R395). -/
def execFlashErase4k (key : BitVec 16) (s : State) : Host.Outcome State Fault Refusal := .next (s.flashCmd Acc.flash 3 0 key.toNat)

/-- FLASH_ERASE_64K (R395). -/
def execFlashErase64k (key : BitVec 16) (s : State) : Host.Outcome State Fault Refusal := .next (s.flashCmd Acc.flash 4 0 key.toNat)

/-- FLASH_READ_SFDP (R395). -/
def execFlashReadSfdp (len : BitVec 13) (s : State) : Host.Outcome State Fault Refusal := .next (s.flashCmd Acc.flash 5 len.toNat 0)

/-- The running flash operation ends with a result. -/
def State.flashEnd (s : State) (result : Nat) : State :=
  let s1 := { s with host := { s.host with flashOp := 0, flashLen := 0 } }
  ((s1.setFld F.DEV_FLASH_STATUS.BUSY 0).setFld F.DEV_FLASH_STATUS.RESULT result).raiseCause Irq.FLASH

/-- The bytes that a read returned, in the buffer; the buffer's other bytes stay. -/
def State.flashFill (s : State) (data : List Byte) : State :=
  let old := ((List.range 64).map fun i => leBytes 4 (s.rd (Reg.DEV_FLASH_BUF i)).toNat).flatten
  let new := data ++ old.drop data.length
  (List.range 64).foldl (fun t i => t.wr (Reg.DEV_FLASH_BUF i) (BitVec.ofNat 64 (leAt new (4 * i) 4))) s

/-- An operation of before a soft reset ends in the flash: LOAD may read (R397). -/
def State.flashRests (s : State) : State := { s with host := { s.host with flashTail := false } }

/-- FLASH_OP_DONE (R395): the first host operation discovers the flash where no fetch of LOAD has. -/
def execFlashOpDone (data : List Byte) (failed : Bool) (sizeMib : BitVec 32) (s : State) : Host.Outcome State Fault Refusal :=
  if s.host.flashOp = 0 then .next s.flashRests
  else
    let s1 := if s.host.flashKnown then s
      else { s with host := { s.host with flashKnown := true } }.setFld F.DEV_FLASH_INFO.SIZE_MIB sizeMib.toNat
    let rd := s.host.flashOp == 1 || s.host.flashOp == 5
    .next ((if rd && !failed then s1.flashFill (data.take s.host.flashLen) else s1).flashEnd (b2n failed))

/-- FLASH_OP_TIMEOUT (R395): a program or an erase has exceeded its limit. -/
def execFlashOpTimeout (s : State) : Host.Outcome State Fault Refusal :=
  if 2 ≤ s.host.flashOp ∧ s.host.flashOp ≤ 4 then .next (s.flashEnd 2) else .next s

/-! ## The test access port (R396) -/

/-- The word that IDCODE shifts out: revision field, part, manufacturer and bit 0; the revision field equals DEV_ID.REV. -/
def idcode : Nat := 1 + 0x5A3 * 2 + 0x7192 * 2 ^ 12 + Config.rev.toNat * 2 ^ 28

/-- Whether the instruction in effect takes the pins: the five that do, in PROBE. -/
def State.tapPins (s : State) : Bool := s.mode == Mode.PROBE && [0, 4, 5, 6, 7].contains (s.fld F.DEV_JTAG.IR)

/-- Instruction `code` is loaded; one that takes pins outside PROBE, and private debug where it is fused off, act as BYPASS. -/
def State.tapLoad (s : State) (code : Nat) (pins debug : Bool) : State :=
  if s.mode < Mode.LOAD then s
  else
    let refused := pins && s.mode != Mode.PROBE
    let eff := if refused || (debug && Config.dbgLock) then 0xFF else code
    let s1 := (s.setFld F.DEV_JTAG.IR eff).emit (.tap eff)
    if refused then s1.flag F.DEV_JTAG.REFUSED else s1

/-- TAP_EXTEST (R396). -/
def execTapExtest (s : State) : Host.Outcome State Fault Refusal := .next (s.tapLoad 0x00 true false)

/-- TAP_IDCODE (R396). -/
def execTapIdcode (s : State) : Host.Outcome State Fault Refusal := .next (s.tapLoad 0x01 false false)

/-- TAP_SAMPLE_PRELOAD (R396). -/
def execTapSamplePreload (s : State) : Host.Outcome State Fault Refusal := .next (s.tapLoad 0x02 false false)

/-- TAP_CLAMP (R396). -/
def execTapClamp (s : State) : Host.Outcome State Fault Refusal := .next (s.tapLoad 0x04 true false)

/-- TAP_HIGHZ (R396). -/
def execTapHighz (s : State) : Host.Outcome State Fault Refusal := .next (s.tapLoad 0x05 true false)

/-- TAP_EXTEST_PULSE (R396). -/
def execTapExtestPulse (s : State) : Host.Outcome State Fault Refusal := .next (s.tapLoad 0x06 true false)

/-- TAP_EXTEST_TRAIN (R396). -/
def execTapExtestTrain (s : State) : Host.Outcome State Fault Refusal := .next (s.tapLoad 0x07 true false)

/-- TAP_PRIVATE_DEBUG (R396). -/
def execTapPrivateDebug (code : BitVec 8) (s : State) : Host.Outcome State Fault Refusal :=
  if 0x80 ≤ code.toNat ∧ code.toNat ≤ 0xFE then .next (s.tapLoad code.toNat false true) else .fault .noSuchInstance

/-- Codes of Table 14.12 that are not BYPASS. -/
def tapDefined (code : Nat) : Bool := [0, 1, 2, 4, 5, 6, 7].contains code || (decide (0x80 ≤ code) && decide (code ≤ 0xFE))

/-- TAP_BYPASS (R396): 0xFF and every code that the table does not define. -/
def execTapBypass (code : BitVec 8) (s : State) : Host.Outcome State Fault Refusal :=
  if tapDefined code.toNat then .fault .noSuchInstance else .next (s.tapLoad 0xFF false false)

/-! ## Temperature and supplies (R406, R416 to R418) -/

/-- The hottest of the readings from index `i` on, given the hottest before, lowest index first. -/
def hottest : List Int → Nat → Int × Nat → Int × Nat
  | [], _, b => b
  | t :: r, i, b => hottest r (i + 1) (if b.1 < t then (t, i) else b)

/-- The four stack flags, bit k for the stacks that satisfy `p`. -/
def stackBits (mem : List Int) (p : Int → Bool) : Nat := ((List.range 4).map fun k => b2n (p (mem.getD k 0)) * 2 ^ k).sum

/-- TEMPERATURE_READ (R418): junctions in 0.125 degrees, stacks in degrees. -/
def execTemperatureRead (tj mem : List Int) (s : State) : Host.Outcome State Fault Refusal :=
  if tj.length ≠ 8 ∨ mem.length ≠ 4 then .fault .noSuchInstance
  else if s.mode < Mode.LOAD then .next s
  else
    let h := hottest (tj.drop 1) 1 (tj.getD 0 0, 0)
    let s1 := s.wr Reg.DEV_TEMP (BitVec.ofNat 64 (unsigned 12 h.1 + h.2 * 2 ^ 12 + 2 ^ 31))
    let s2 := s1.setFld F.DEV_TEMP_MEM.STACK ((List.range 4).map fun k => unsigned 8 (mem.getD k 0) * 2 ^ (8 * k)).sum
    let hot := stackBits mem fun t => decide (85 < t)
    let s3 := if tj.any fun t => decide (1000 < t) then s2.flag F.DEV_TEMP_FLAGS.TJ_HIGH else s2
    let s4 := s3.flagBits F.DEV_TEMP_FLAGS.MEM_HOT hot
    let s5 := s4.flagBits F.DEV_TEMP_FLAGS.MEM_OVER (stackBits mem fun t => decide (105 < t))
    .next (s5.setFld F.DEV_TEMP_FLAGS.REFRESH_2X hot)

/-- Whether the supply monitor watches rail `r` (R406): VDD_AON and VDDIO_AON in every mode but OFF, the others with power good outside LULL. -/
def State.railWatched (s : State) (r : Nat) : Bool :=
  s.mode != Mode.OFF && (r == 1 || r == 6 || (s.dev.pgCore && s.dev.pgMem && s.mode != Mode.LULL))

/-- SUPPLY_OUT_OF_RANGE (R406). -/
def execSupplyOutOfRange (r : Nat) (high : Bool) (s : State) : Host.Outcome State Fault Refusal :=
  if 7 ≤ r then .fault .noSuchInstance
  else if s.railWatched r then
    let s1 := s.flagBit (if high then F.DEV_PWR_FLAGS.OVER else F.DEV_PWR_FLAGS.UNDER) r
    .next ({ s1 with dev := { s1.dev with rails := setBit s1.dev.rails r true } }.fatal Fatal.SUPPLY)
  else .next s

end Sys2Proof.Machine
end

