-- ==== Sys2Proof/Machine/HostWrite.lean ====
section
/-! DEFINITION. Host accesses by address (R3, R6, R8, R367 to R377): which register an offset names, what a write of it checks and does, the
broadcast and group aliases, and the BAR2 window. A write with behaviour of its own goes to the operation that its command also uses. -/

namespace Sys2Proof.Machine

/-! ## Plain registers (R6) -/

/-- The value after a write over `old`: RW bits take `v`, and a 1 clears a W1C bit (Table 00.4). -/
def Card.merge (c : Card) (old v : Nat) : Nat := old - (old &&& (c.rw ||| (c.w1c &&& v))) + (v &&& c.rw)

/-- A host write of `v` to the register at `x`: W1C bits that the device sets in this cycle stay set (R7). -/
def State.store (s : State) (c : Card) (x v : Nat) : State :=
  let old := (s.rd x).toNat
  s.wr x (BitVec.ofNat 64 (c.merge old v + (old &&& c.w1c &&& v &&& s.setNow.getD x 0)))

/-- The rules that every register of a unit shares: a disabled domain (R259), an absent ring (R330), a lane channel without a lane (R280), the
trunk registers of a lane that starts no trunk, and a window of a slice in RECONF (R86). -/
def State.unitChecks (s : State) (x : Nat) : List (Bool × Nat) :=
  if 0x201000 ≤ x ∧ x < 0x201800 then [(!s.domEnabled ((x - 0x201000) / 0x100), Err.NOT_PERMITTED)]
  else if 0x410000 ≤ x ∧ x < 0x417280 then [(!s.shown ((x - 0x410000) / 0x80), Err.NOT_PERMITTED)]
  else if 0xA01000 ≤ x ∧ x < 0xA01800 then [(s.ringState ((x - 0xA01000) / 0x100) == Ring.ABSENT, Err.NOT_PERMITTED)]
  else if 0x3000000 ≤ x ∧ x < 0x3300000 ∧ (x % 0x4000 = 0x20 ∨ x % 0x4000 = 0x24) then
    [(!s.trunkFirst ((x - 0x3000000) / 0x4000), Err.NOT_PERMITTED)]
  else if 0x3400000 ≤ x ∧ x < 0x3404000 then [(s.slc ((x - 0x3400000) / 0x1000) == Slc.RECONF, Err.WRONG_MODE)]
  else []

/-- A write of a register without behaviour of its own. RO bits ignore it. -/
def State.plain (s : State) (a : Acc) (x v : Nat) (c : Card) (checks : List (Bool × Nat)) : State :=
  s.guard a (s.unitChecks x ++ checks) fun t => t.store c x v

/-- The check of a length or a time `v` that must be `lo` to `hi`: zero breaks R12 only. -/
def spanChecks (v lo hi : Nat) : List (Bool × Nat) :=
  [(v == 0, Err.ZERO_LENGTH), (v != 0 && (decide (v < lo) || decide (hi < v)), Err.ILLEGAL_VALUE)]

/-- The check of a field of mutability class `c` (R68). -/
def State.classCheck (s : State) (c : Nat) : Bool × Nat := (!s.isMutable c, Err.NOT_PERMITTED)

/-- CLR of an ERR_STATUS register clears it and its ERR_OFS; an error of the same cycle stays as the first after the clear (R374). -/
def State.errClear (s : State) (a : Acc) (v : Nat) : State :=
  s.guard a [] fun t =>
    let new : Nat → Reg64 := fun x => BitVec.ofNat 64 (t.setNow.getD x 0)
    if bitAt v 31 then (t.wr (Reg.ERR_STATUS a.base) (new (Reg.ERR_STATUS a.base))).wr (Reg.ERR_OFS a.base) (new (Reg.ERR_OFS a.base)) else t

/-! ## DEV -/

/-- A write of DEV_FATAL: a cause whose condition persists is set again (the note to DEV_FATAL). -/
def State.fatalClear (s : State) (a : Acc) (v : Nat) (c : Card) : State :=
  s.guard a [] fun t =>
    let t1 := t.store c Reg.DEV_FATAL v
    (List.range 6).foldl (fun u b => if bitAt u.dev.conds b then u.fatal b else u) t1

/-- A write of a host ring register at `x`: it waits for a disabled ring. -/
def State.ringBusy (s : State) (en : Fld) : Bool × Nat := (s.fld en == 1, Err.BUSY)

/-- The legality of a ring's COUNT: a power of two from 16 to 4,096. -/
def ringCount (v : Nat) : List (Bool × Nat) :=
  [(v == 0, Err.ZERO_LENGTH), (v != 0 && !([16, 32, 64, 128, 256, 512, 1024, 2048, 4096].contains v), Err.ILLEGAL_VALUE)]

/-- Registers of the host rings; `b` is 0x800 for transmit and 0x840 for receive. -/
def State.ringWrite (s : State) (a : Acc) (o v : Nat) (c : Card) : State :=
  let rx := decide (0x840 ≤ o)
  let en := if rx then F.DEV_HRX_CTRL.EN else F.DEV_HTX_CTRL.EN
  let n := if rx then s.fld F.DEV_HRX_COUNT.N else s.fld F.DEV_HTX_COUNT.N
  let r := o % 0x40
  if r < 8 then s.plain a o v c [s.ringBusy en]
  else if r = 8 then s.plain a o v c (s.ringBusy en :: ringCount (v % 2 ^ 13))
  else if r = 0xC then (if rx then s.plain a o v c [(decide (n ≤ v % 4096), Err.RANGE)] else s.htxTail a v)
  else if r = 0x14 then s.plain a o v c [(bitAt v 0 && n == 0, Err.ZERO_LENGTH)]
  else s.plain a o v c []

/-- A write of the interrupt registers: the vectors follow (R378, R379). A level cause that is cleared is set again in the next cycle. -/
def State.irqWrite (s : State) (a : Acc) (o v : Nat) (c : Card) : State :=
  s.guard a [] fun t =>
    let old := bitsOf (t.rd o) 5 0
    let t1 := t.store c o v
    let t2 := if 0x240 ≤ o then t1.vecUpdate old else t1
    t2.vecsEval

/-- A write of a DEV register. -/
def State.devWrite (s : State) (a : Acc) (o v : Nat) (c : Card) : State :=
  if o = Reg.DEV_MODE_REQ then s.modeReq a (v % 8) false
  else if o = Reg.DEV_RESET then s.devReset a v false
  else if o = Reg.DEV_WAKE_CFG then
    s.plain a o v c ((decide (2 ^ s.cfg.wakeLanes.length ≤ v % 256), Err.ILLEGAL_VALUE) :: spanChecks (v / 2 ^ 18 % 1024) 1 1000)
  else if o = Reg.DEV_FATAL then s.fatalClear a v c
  else if 0x200 ≤ o ∧ o < 0x280 then s.irqWrite a o v c
  else if 0x400 ≤ o ∧ o < 0x440 then
    let m := (o - 0x400) / 0x10
    if o % 0x10 = 0 then s.mdioCmd a m v
    else if o % 0x10 = 8 then s.plain a o v c [(decide (v % 256 < 10) || decide (200 < v % 256), Err.ILLEGAL_VALUE)]
    else s.plain a o v c []
  else if o = Reg.DEV_FLASH_CMD then s.flashCmd a (v % 8) (v / 8 % 2 ^ 13) (v / 2 ^ 16)
  else if o = Reg.DEV_FLASH_ADDR then s.plain a o v c [(s.flashBeyond v, Err.RANGE)]
  else if 0x600 ≤ o ∧ o < 0x700 then s.plain a o v c [(s.fld F.DEV_FLASH_STATUS.BUSY == 1, Err.BUSY)]
  else if 0x800 ≤ o ∧ o < 0x880 then s.ringWrite a o v c
  else s.plain a o v c []

/-! ## IMG, KT, PH, PIN -/

/-- A write of an IMG register. -/
def State.imgWrite (s : State) (a : Acc) (x v : Nat) (c : Card) : State :=
  let busy := s.imgState == ImgSt.FETCH || s.imgState == 2 || s.imgState == ImgSt.APPLY
  if x = Reg.IMG_CMD then s.imgCmd a (v % 8) false
  else if x = Reg.IMG_HOST_LEN then
    let n := v % 2 ^ 26
    s.plain a x v c [(busy, Err.BUSY), (n != 0 && (decide (n < 224) || decide (33554432 < n)), Err.RANGE), (n % 8 != 0, Err.ALIGN),
      (n == 0, Err.ZERO_LENGTH)]
  else if x = Reg.IMG_HOST_ADDR_LO ∨ x = Reg.IMG_HOST_ADDR_HI then s.plain a x v c [(busy, Err.BUSY)]
  else s.plain a x v c []

/-- A write of KT_ALM_CFG_n: ARM = 1 arms, ARM = 0 disarms (R256). -/
def State.alarmCfg (s : State) (a : Acc) (n v : Nat) : State :=
  if bitAt v 4 then s.alarmArm a n (v % 8) (bitAt v 5)
  else s.guard a [] fun t => ((t.setFld (F.KT_ALM_CFG.DOMAIN n) v).setFld (F.KT_ALM_CFG.SPOUT n) (v / 32)).setFld (F.KT_ALM_CFG.ARM n) 0

/-- A write of KT_PAIR_CTRL_k (R248). -/
def State.pairCtrl (s : State) (a : Acc) (k v : Nat) : State :=
  if bitAt v 0 && bitAt v 1 then
    s.guard a [(!s.pairActive k, Err.NOT_PERMITTED), (s.domState (2 * k + 1) != Dom.LOCKED, Err.WRONG_MODE), (true, Err.ILLEGAL_VALUE)] id
  else if bitAt v 0 then s.holdPartner a k
  else if bitAt v 1 then s.usePrimary a k
  else s.guard a [] id

/-- A write of KT_OFS_CREDIT_d (R237). -/
def State.ofsCredit (s : State) (a : Acc) (d v : Nat) : State :=
  let n := v / 2 ^ 16 % 32
  if bitAt v 24 && n != 0 then s.guard a [s.freeOnly d, (true, Err.ILLEGAL_VALUE)] id
  else if bitAt v 24 then s.feedRecall a d
  else s.feedGrant a d n

/-- A write of a register of domain `d`. -/
def State.domWrite (s : State) (a : Acc) (x d v : Nat) (c : Card) : State :=
  let r := x % 0x100
  if r = 0x0C then
    s.plain a x v c [s.freeOnly d, s.classCheck 8, (decide (2 ^ (24 + s.fld (F.KT_DOM_CFG.LOG2_RATE d)) ≤ v), Err.ILLEGAL_VALUE)]
  else if r = 0x10 then s.plain a x v c [s.freeOnly d, s.classCheck 8]
  else if r = 0x14 then
    s.guard a (s.freeOnly d :: s.classCheck 10 :: spanChecks (v % 2 ^ 20) 1000 1000000) fun t =>
      (t.setFld (F.KT_SLEW.PS_S (d / 2 * 2)) v).setFld (F.KT_SLEW.PS_S (d / 2 * 2 + 1)) v
  else if r = 0x18 then s.plain a x v c [s.freeOnly d, s.classCheck 9]
  else if r = 0x20 then s.guard a [s.freeOnly d, s.classCheck 9] fun t => t.setFeed d { t.feed d with incLo := v }
  else if r = 0x24 then s.incWrite a d v
  else if r = 0x30 then s.guard a [s.freeOnly d] fun t => t.setFeed d { t.feed d with lo := v }
  else if r = 0x34 then s.hostFeedPush a d v
  else if r = 0x38 then s.ofsCredit a d v
  else s.plain a x v c []

/-- A write of a KT register (R259). -/
def State.ktWrite (s : State) (a : Acc) (x v : Nat) (c : Card) : State :=
  if 0x201000 ≤ x then s.domWrite a x ((x - 0x201000) / 0x100) v c
  else if x = Reg.KT_FHT_CTRL then
    (if bitAt v 0 then s.fhtHost a (v / 2 % 4) else s.guard a [(v / 2 % 4 == 3, Err.ILLEGAL_VALUE)] id)
  else if x = Reg.KT_CAP_CTRL then (if bitAt v 0 then s.snap a else s.guard a [] id)
  else if x = Reg.KT_CAP_SEL then s.plain a x v c [(v % 4 == 3, Err.ILLEGAL_VALUE)]
  else if Reg.KT_ALM_CFG 0 ≤ x ∧ x < Reg.KT_ALM_STATUS then
    let n := (x - Reg.KT_ALM_CFG 0) / 16
    if x % 16 = 0 then s.alarmCfg a n v else s.plain a x v c [(s.fld (F.KT_ALM_CFG.ARM n) == 1, Err.BUSY)]
  else if Reg.KT_PAIR_CTRL 0 ≤ x ∧ x < Reg.KT_PAIR_CTRL 4 ∧ x % 8 = 0 then s.pairCtrl a ((x - Reg.KT_PAIR_CTRL 0) / 8) v
  else s.plain a x v c []

/-- A write of a PH register (R280, R289 to R297, R377). -/
def State.phWrite (s : State) (a : Acc) (x v : Nat) (c : Card) : State :=
  if x = Reg.PH_RECAL then s.recal a (v % 256) false
  else if Reg.PH_SQ_USER 0 ≤ x ∧ x < Reg.PH_SQ_USER 8 then
    let i := (x - Reg.PH_SQ_USER 0) / 4
    s.plain a x v c [s.classCheck 17, ((List.range 32).any fun j => bitAt v j && !hasQueue (32 * i + j), Err.ILLEGAL_VALUE)]
  else if Reg.PH_FM_CFG 0 ≤ x ∧ x < Reg.PH_FM_CFG 5 ∧ x % 32 = 0 then s.fmConfig a ((x - Reg.PH_FM_CFG 0) / 32) v
  else if 0x410000 ≤ x then
    let n := (x - 0x410000) / 0x80
    if x % 0x80 = 0x0C then s.sqConfig a n v
    else if x % 0x80 = 0x10 then s.sqCredit a n (v / 2 ^ 24 % 128) (bitAt v 31) false
    else s.plain a x v c []
  else s.plain a x v c []

/-- A write of a program register of pulse output `n` (R422). -/
def State.plsReg (s : State) (a : Acc) (x n v : Nat) (c : Card) : State :=
  let r := x % 0x40
  if r = 0x0C then s.plsWrite a n x v false (nsChecks 4 v)
  else if r = 0x14 then s.plsWrite a n x v false (nsChecks 2 v)
  else if r = 0x20 then s.plsWrite a n x v true []
  else if r = 0x24 then s.plsCtrl a n v
  else if r < 0x20 then s.plsWrite a n x v false []
  else s.plain a x v c []

/-- A write of a PIN register. -/
def State.pinWrite (s : State) (a : Acc) (x v : Nat) (c : Card) : State :=
  if Reg.PIN_EVT_CFG 0 ≤ x ∧ x < Reg.PIN_EVT_CFG 32 then s.evtConfig a ((x - Reg.PIN_EVT_CFG 0) / 4) v
  else if Reg.PIN_PLS_CFG 0 ≤ x ∧ x < Reg.PIN_PLS_CFG 32 then s.plsReg a x ((x - Reg.PIN_PLS_CFG 0) / 0x40) v c
  else if Reg.PIN_CLK_FREQ 0 ≤ x ∧ x < Reg.PIN_CLK_FREQ 8 then
    let k := (x - Reg.PIN_CLK_FREQ 0) / 16
    if x % 16 = 0 then s.clkFreq a k v else if x % 16 = 4 then s.clkEnable a k v else s.plain a x v c []
  else s.plain a x v c []

/-! ## SP, ST, BPM, FAB, CD, PF -/

/-- A write of an SP register. -/
def State.spWrite (s : State) (a : Acc) (x v : Nat) (c : Card) : State :=
  if Reg.SP_CREDIT 0 ≤ x ∧ x < Reg.SP_CREDIT 4 then
    s.spCredit a ((x - Reg.SP_CREDIT 0) / 4) (v / 2 ^ 16 % 128) (bitAt v 31) false
  else s.plain a x v c []

/-- A write of an ST register (R364). -/
def State.stWrite (s : State) (a : Acc) (x v : Nat) (c : Card) : State :=
  if 0x701000 ≤ x then
    let k := (x - 0x701000) / 0x40
    let r := x % 0x40
    let busy : Bool × Nat := (s.scanState k != Scan.IDLE, Err.BUSY)
    if r = 0x0C then
      s.plain a x v c [busy, (v % 8 != 0 || (s.fld (F.ST_ENG_CFG.MEM k) == 1 && v % 256 != 0), Err.ALIGN), (v % 2 ^ 27 == 0, Err.ZERO_LENGTH)]
    else if r ≤ 0x14 then s.plain a x v c [busy]
    else if r = 0x18 then s.scanCtrl a k v false
    else if r = 0x24 then s.aliveExp a k v
    else s.plain a x v c []
  else s.plain a x v c []

/-- A write of a BPM register. -/
def State.bpmWrite (s : State) (a : Acc) (x v : Nat) (c : Card) : State :=
  if x = Reg.BPM_CTRL then (if bitAt v 0 then s.lowClear a false else s.guard a [] id)
  else if x = Reg.BPM_FREE then s.hostFree a v
  else s.plain a x v c []

/-- FAB_FRER_CNT shows the selected 802.1CB entry. -/
def State.frerShow (s : State) : State :=
  let i := s.fld F.FAB_FRER_IDX.INST
  (List.range 8).foldl (fun t n => t.wr (Reg.FAB_FRER_CNT n) (BitVec.ofNat 64 ((s.frer i).cnt.getD n 0))) s

/-- A write of a FAB register. A selector shows what it selects. -/
def State.fabWrite (s : State) (a : Acc) (x v : Nat) (c : Card) : State :=
  if x = Reg.FAB_MC_RESIDUE then s.plain a x v c (s.classCheck 7 :: spanChecks (v % 2 ^ 14) 10 10000)
  else if x = Reg.FAB_VOQ_SEL then
    s.guard a [(decide (191 < v / 4 % 256), Err.ILLEGAL_VALUE)] fun t => (t.wr x (BitVec.ofNat 64 v)).voqShow
  else if x = Reg.FAB_FRER_IDX then
    s.guard a [(v % 2 ^ 10 == 0, Err.ILLEGAL_VALUE)] fun t => (t.wr x (BitVec.ofNat 64 v)).frerShow
  else if x = Reg.FAB_FRER_CFG0 then s.plain a x v c [(decide (64 < v / 2 ^ 8 % 128), Err.ILLEGAL_VALUE)]
  else if x = Reg.FAB_FRER_CMD then s.frerCmd a (v % 4) false
  else s.plain a x v c []

/-- A write of CD_RD_CMD: GO and ABORT. -/
def State.readoutCmd (s : State) (a : Acc) (v : Nat) : State :=
  if bitAt v 0 && bitAt v 1 then s.guard a [(true, Err.ILLEGAL_VALUE)] id
  else if bitAt v 0 then s.readoutStart a
  else if bitAt v 1 then s.readoutAbort a
  else s.guard a [] id

/-- A write of CD_RING_CTRL_n: TRIG and RELEASE. -/
def State.ringCtrl (s : State) (a : Acc) (n v : Nat) : State :=
  if bitAt v 0 && bitAt v 1 then
    s.guard a [(s.ringState n == Ring.ABSENT, Err.NOT_PERMITTED), (s.ringState n == Ring.IDLE, Err.WRONG_MODE), (true, Err.ILLEGAL_VALUE)] id
  else if bitAt v 0 then s.hostTrigger a n
  else if bitAt v 1 then s.release a n
  else s.guard a [(s.ringState n == Ring.ABSENT, Err.NOT_PERMITTED)] id

/-- A write of a register of ring `n`. -/
def State.cdRing (s : State) (a : Acc) (x n v : Nat) (c : Card) : State :=
  let r := x % 0x100
  if r = 0 then
    s.plain a x v c [s.classCheck 11, (s.ringState n == Ring.POST && v / 2 ^ 16 % 8 != s.fld (F.CD_RING_CFG.DOMAIN n), Err.BUSY),
      (!s.domEnabled (v / 2 ^ 16 % 8), Err.ILLEGAL_VALUE)]
  else if r = 4 ∨ r = 8 then s.plain a x v c [s.classCheck 11, (decide (100000000 < v % 2 ^ 27), Err.ILLEGAL_VALUE)]
  else if r = 0x0C then
    s.plain a x v c [s.classCheck 11,
      ((List.range 32).any fun k => bitAt v k && s.fld (F.PIN_EVT_CFG.FUNC k) == 0, Err.ILLEGAL_VALUE)]
  else if r = 0x10 then s.plain a x v c [s.classCheck 11]
  else if r = 0x14 then s.ringCtrl a n v
  else s.plain a x v c []

/-- A write of a CD register. -/
def State.cdWrite (s : State) (a : Acc) (x v : Nat) (c : Card) : State :=
  let run : Bool × Nat := (s.fld F.CD_RD_STATUS.STATE == 1, Err.BUSY)
  if 0xA02000 ≤ x then
    let r := (x - 0xA02000) / 0x100
    let o := x % 0x100
    let busy : Bool × Nat := (s.replayBusy r, Err.BUSY)
    if o = 0 then s.plain a x v c [busy, (v / 2 ^ 12 % 4 == 3, Err.ILLEGAL_VALUE)]
    else if o = 8 then s.plain a x v c (busy :: spanChecks (v % 2 ^ 14) 10 10000)
    else if o = 0x0C then s.plain a x v c [busy, (decide (1000000000 ≤ v % 2 ^ 30), Err.ILLEGAL_VALUE)]
    else if o = 0x1C then s.replayCtrl a r (bitAt v 0) (bitAt v 1) false
    else if o < 0x1C then s.plain a x v c [busy]
    else s.plain a x v c []
  else if 0xA01000 ≤ x then s.cdRing a x ((x - 0xA01000) / 0x100) v c
  else if x = Reg.CD_RD_COUNT then s.plain a x v c (run :: spanChecks (v % 2 ^ 17) 1 32768)
  else if x = Reg.CD_RD_CMD then s.readoutCmd a v
  else if Reg.CD_RD_ADDR_LO ≤ x ∧ x < Reg.CD_RD_CMD then s.plain a x v c [run]
  else s.plain a x v c []

/-- A write of PF_DUMP_CTRL (R393): EN = 1 starts the samples anew. -/
def State.dumpCtrl (s : State) (a : Acc) (v : Nat) : State :=
  s.guard a [(bitAt v 0 && (s.fld F.PF_DUMP_COUNT.N == 0 || s.fld F.PF_DUMP_PERIOD.US == 0), Err.ZERO_LENGTH)] fun t =>
    let t1 := t.setFld F.PF_DUMP_CTRL.EN v
    if bitAt v 0 then
      ({ t1 with host := { t1.host with dumpSeq := 0, dumpMissedPrev := false } }.setFld F.PF_DUMP_STATUS.SEQ 0).setFld
        F.PF_DUMP_STATUS.MISSED 0
    else t1

/-- A write of a PF register. -/
def State.pfWrite (s : State) (a : Acc) (x v : Nat) (c : Card) : State :=
  let busy : Bool × Nat := (s.fld F.PF_DUMP_CTRL.EN == 1, Err.BUSY)
  if Reg.PF_SEL 0 ≤ x ∧ x < Reg.PF_SEL 64 then s.pfSelect a ((x - Reg.PF_SEL 0) / 4) v
  else if x = Reg.PF_USER_LO ∨ x = Reg.PF_USER_HI then s.plain a x v c [s.classCheck 17]
  else if x = Reg.PF_DUMP_COUNT then s.plain a x v c (busy :: spanChecks (v % 2 ^ 17) 1 65536)
  else if x = Reg.PF_DUMP_PERIOD then s.plain a x v c (busy :: spanChecks (v % 2 ^ 20) 1 1000000)
  else if x = Reg.PF_DUMP_ADDR_LO ∨ x = Reg.PF_DUMP_ADDR_HI then s.plain a x v c [busy]
  else if x = Reg.PF_DUMP_CTRL then s.dumpCtrl a v
  else s.plain a x v c []

/-- A write of a device-level register at BAR0 offset `x`. -/
def State.blockWrite (s : State) (a : Acc) (x v : Nat) (c : Card) : State :=
  let b := x / 0x100000
  if b = 0 then s.devWrite a x v c
  else if b = 1 then s.imgWrite a x v c
  else if b = 2 then s.ktWrite a x v c
  else if b = 4 then s.phWrite a x v c
  else if b = 5 then s.pinWrite a x v c
  else if b = 6 then s.spWrite a x v c
  else if b = 7 then s.stWrite a x v c
  else if b = 8 then s.bpmWrite a x v c
  else if b = 9 then s.fabWrite a x v c
  else if b = 10 then s.cdWrite a x v c
  else if b = 11 then s.pfWrite a x v c
  else s.plain a x v c []

/-! ## Slices, ports, lanes and windows -/

/-- A write of register `o` of slice `i`. -/
def State.slcWrite (s : State) (a : Acc) (i o v : Nat) (c : Card) : State :=
  let x := Base.SLC i + o
  if o = 0x200 then s.plain a x v c [s.classCheck 0]
  else if o = 0x204 then s.plain a x v c (s.classCheck 2 :: spanChecks (v % 2 ^ 12) 1 3600)
  else if o = 0x214 then
    (if bitAt v 0 then s.fenceSet a i (bitAt v 2) false else s.guard a [] fun t => t.setFld (F.SLC_FENCE.FENCE_EV i) (v / 4))
  else if 0x1004 ≤ o ∧ o < 0x1400 then s.plain a x v c (s.classCheck 5 :: spanChecks (v % 2 ^ 24) 2000 10000000)
  else s.plain a x v c []

/-- A write of PRT_CBS_c (R203, R204). The credit of a shaper that is enabled starts at zero. -/
def State.cbsWrite (s : State) (a : Acc) (p k v : Nat) : State :=
  let kbps := v % 2 ^ 27
  let en := bitAt v 31
  let e := s.egp p
  let closed : Nat → Nat → Bool := fun bank n => (List.range n).any fun i => !bitAt (s.gclGates p bank i) k
  let run := match e.run with | some r => closed r.bank r.len | none => false
  let pend := match e.pend with | some d => !d.off && closed d.bank d.len | none => false
  let others := (((List.range 8).filter fun j => j != k && s.fld (F.PRT_CBS.EN p j) == 1).map fun j => s.fld (F.PRT_CBS.IDLE_KBPS p j)).sum
  s.portGuard a p [s.classCheck 3,
      (en && (run || pend || k == s.ltClass p || kbps == 0 || decide (s.shapeRate p < ((kbps + others) * 1000 : Nat))), Err.ILLEGAL_VALUE)]
    fun t =>
      let t0 := t.cbsAdvance p k
      let was := t0.fld (F.PRT_CBS.EN p k) == 1
      let t1 := t0.wr (Reg.PRT_CBS p k) (BitVec.ofNat 64 (kbps + b2n en * 2 ^ 31))
      if en && !was then t1.setEgp p { t1.egp p with cbs := (t1.egp p).cbs.setD k ⟨0, t1.cycle, 0⟩ CbsCredit.fresh } else t1

/-- A write of an entry of a gate bank: the running bank is LOCKED, a pending one BUSY. -/
def State.gclEntry (s : State) (a : Acc) (p x v : Nat) (c : Card) : State :=
  let bank := if x % 0x10000 < 0x3000 then 0 else 1
  let e := s.egp p
  let running := match e.run with | some r => r.bank == bank | none => false
  let armed := match e.pend with | some d => !d.off && d.bank == bank | none => false
  s.plain a x v c (s.classCheck 3 :: (running, Err.LOCKED) :: (armed, Err.BUSY) :: spanChecks (v / 256) 64 16777215)

/-- A write of register `o` of port `p`, which is in use. -/
def State.prtWrite (s : State) (a : Acc) (p o v : Nat) (c : Card) : State :=
  let x := Base.PRT p + o
  let staged : Bool × Nat := ((s.egp p).pend.isSome, Err.BUSY)
  if o = 0 then s.portState a p (v % 4) (bitAt v 8) false false
  else if o = 0x1000 then s.plain a x v c (s.classCheck 6 :: spanChecks (v / 256 % 2 ^ 16) 1 60000)
  else if o = 0x1014 then s.plain a x v c (s.classCheck 4 :: spanChecks (v % 2 ^ 21) 1 2000000)
  else if o = 0x1018 then s.plain a x v c (s.classCheck 4 :: spanChecks (v % 2 ^ 20) 1 1000000)
  else if 0x1040 ≤ o ∧ o < 0x1060 then s.cbsWrite a p ((o - 0x1040) / 4) v
  else if o = 0x1100 then s.gclCtrl a p (bitAt v 0) (bitAt v 1) (bitAt v 2) false
  else if o = 0x1104 then s.plain a x v c (s.classCheck 3 :: staged :: spanChecks (v % 2 ^ 30) 1000 1000000000)
  else if o = 0x1108 then s.plain a x v c (s.classCheck 3 :: staged :: spanChecks (v % 2 ^ 11) 1 1024)
  else if o = 0x110C then s.plain a x v c [s.classCheck 3, staged, (decide (1000000000 ≤ v % 2 ^ 30), Err.ILLEGAL_VALUE)]
  else if o = 0x1110 ∨ o = 0x1114 then s.plain a x v c [s.classCheck 3, staged]
  else if 0x2000 ≤ o ∧ o < 0x4000 then s.gclEntry a p x v c
  else if o = 0x4000 then s.ttCfgWrite a p v
  else if o = 0x4020 then s.ttIdWrite a p x v [(bitAt v 0, Err.ILLEGAL_VALUE)]
  else if 0x4004 ≤ o ∧ o ≤ 0x4028 then s.ttIdWrite a p x v []
  else if o = 0x4030 then s.ttCalWrite a p x v false
  else if o = 0x4034 ∨ o = 0x4038 then s.ttCalWrite a p x v true
  else s.plain a x v c []

/-- A write of register `o` of lane `l` (R123). -/
def State.lnWrite (s : State) (a : Acc) (l o v : Nat) (c : Card) : State :=
  if o = 4 then s.laneCtrl a l (bitAt v 0) (v / 2 % 4) (v / 8 % 4) false
  else if o = 0x24 then s.trunkCtrl a l (bitAt v 0) (bitAt v 1) false
  else s.plain a (Base.LN l + o) v c []

/-- A write of register `o` of window `w` (R161). -/
def State.twWrite (s : State) (a : Acc) (w o v : Nat) (c : Card) : State :=
  if o = 0 then s.twCmd a w (v % 8) (v / 16 % 4) false else s.plain a (Base.TW w + o) v c []

/-! ## Addresses (Table 14.2, Table 14.3) -/

/-- What a BAR0 offset names: a unit with its base and the offset in it, members of an alias, or nothing. `group` is none for a
broadcast. -/
inductive Place where
  | block (k : Nat)
  | unit (space i o : Nat)
  | aliased (space o : Nat) (group : Option Nat)
  | gap (base : Nat)
  deriving DecidableEq, Repr

/-- The place of offset `x`; spaces are 0 slices, 1 ports, 2 lanes, 3 windows. -/
def placeOf (x : Nat) : Place :=
  if x < 0xC00000 then .block (x / 0x100000)
  else if x < 0x1000000 then .gap Base.DEV
  else if x < 0x2000000 then
    let i := (x - 0x1000000) / 0x400000
    let o := x % 0x400000
    if 4 ≤ i then .gap Base.DEV
    else if o < 0x300000 then .unit 0 i o
    else if i = 3 then .aliased 0 (o - 0x300000) none
    else .gap (Base.SLC i)
  else if x < 0x3000000 then
    let i := (x - 0x2000000) / 0x10000
    let o := x % 0x10000
    if i < 192 then .unit 1 i o else if i = 0xFF then .aliased 1 o none
    else if 0xF0 ≤ i ∧ i ≤ 0xF7 then .aliased 1 o (some (i - 0xF0)) else .gap Base.DEV
  else if x < 0x3400000 then
    let i := (x - 0x3000000) / 0x4000
    let o := x % 0x4000
    if i < 192 then .unit 2 i o else if i = 0xFF then .aliased 2 o none
    else if 0xF0 ≤ i ∧ i ≤ 0xF7 then .aliased 2 o (some (i - 0xF0)) else .gap Base.DEV
  else if x < 0x3410000 then
    let i := (x - 0x3400000) / 0x1000
    let o := x % 0x1000
    if i < 4 then .unit 3 i o else if i = 15 then .aliased 3 o none else .gap Base.DEV
  else .gap Base.DEV

/-- The cards of a space. -/
def spaceCards (sp : Nat) : List Card :=
  if sp = 0 then cards.slice else if sp = 1 then cards.port else if sp = 2 then cards.lane else cards.window

/-- The base of unit `i` of a space. -/
def spaceBase (sp i : Nat) : Nat := if sp = 0 then Base.SLC i else if sp = 1 then Base.PRT i else if sp = 2 then Base.LN i else Base.TW i

/-- The members of an alias (R372, R420): every powered unit that is in use, and of a group those whose mask has the bit. -/
def State.aliasMembers (s : State) (sp : Nat) (group : Option Nat) : List Nat :=
  let inGroup : Fld → Bool := fun f => match group with | none => true | some g => s.fldBit f g
  if sp = 0 then List.range 4
  else if sp = 1 then s.ports.filter fun p => s.powered (sliceOf p) && inGroup (F.PRT_GROUP_MASK.MASK p)
  else if sp = 2 then
    (List.range 192).filter fun l => s.laneMode l != 0 && s.powered (sliceOf l) && inGroup (F.LN_GROUP_MASK.MASK l)
  else (List.range 4).filter s.powered

/-- The bits of a card that a write of `v` at offset `x` meets: a 64-bit register is written whole where `wide`, else by its half. -/
def Card.rsvHit (c : Card) (o v : Nat) (wide : Bool) : Bool :=
  (v &&& (if c.bytes = 8 && !wide && decide (o % 8 = 4) then c.rsv / 2 ^ 32 else c.rsv)) != 0

/-- A write of a register that has a card. Registers of 64 bits hold no field that a write changes. -/
def State.cardWrite (s : State) (a : Acc) (sp i o v : Nat) (wide : Bool) (c : Card) : State :=
  let a1 := { a with rsv := c.rsvHit o v wide }
  let x := if sp = 4 then o else spaceBase sp i + o
  if x = Reg.ERR_STATUS a.base then s.errClear a1 v
  else if c.bytes = 8 then s.guard a1 (s.unitChecks x) id
  else if sp = 4 then s.blockWrite a1 x v c
  else if sp = 0 then s.slcWrite a1 i o v c
  else if sp = 1 then s.prtWrite a1 i o v c
  else if sp = 2 then s.lnWrite a1 i o v c
  else s.twWrite a1 i o v c

/-- A write of unit `i` of a space at offset `o` (space 4: a block, `o` from the start of BAR0). -/
def State.unitWrite (s : State) (a : Acc) (sp i o v : Nat) (wide : Bool) : State :=
  match Card.find (if sp = 4 then cards.block else spaceCards sp) o with
  | some c => s.cardWrite a sp i o v wide c
  | none => s.guard a [(true, Err.RANGE)] id

/-- A write through an alias reaches every member, each under its own rules (R372); a GROUP_MASK cannot be written through a group
(R373). -/
def State.writeAlias (s : State) (a : Acc) (sp o v : Nat) (group : Option Nat) (wide : Bool) : State :=
  if s.mode = Mode.OFF ∨ s.mode = Mode.LULL then s
  else
    let s1 := s.received a
    let b := { a with viaAlias := true }
    if group.isSome && ((sp == 1 && o == 0xFF00) || (sp == 2 && o == 0x3F00)) then
      s1.guard { b with base := Base.DEV } [(true, Err.NOT_PERMITTED)] id
    else (s.aliasMembers sp group).foldl (fun t i => t.unitWrite { b with base := spaceBase sp i } sp i o v wide) s1

/-- One write in BAR0. -/
def State.write0 (s : State) (x v : Nat) (wide bad : Bool) : State :=
  let a : Acc := ⟨Base.DEV, x, false, false, true, false, bad⟩
  match placeOf x with
  | .block k =>
    if 0x8000 ≤ x ∧ x < 0x8400 then s.msixWrite a ((x - 0x8000) / 16) (x / 4 % 4) v
    else if 0x9000 ≤ x ∧ x < 0x9008 then s.guard a [] id
    else s.unitWrite { a with base := k * 0x100000 } 4 0 x v wide
  | .unit sp i o =>
    if sp = 1 ∧ s.portUsed i = false then s.guard a [(true, Err.NOT_PERMITTED)] id
    else s.unitWrite { a with base := spaceBase sp i } sp i o v wide
  | .aliased sp o g => s.writeAlias a sp o v g wide
  | .gap b => s.guard { a with base := b } [(true, Err.RANGE)] id

/-- One write in BAR2 (R376, R377). -/
def State.write2 (s : State) (o v : Nat) (bad : Bool) : State :=
  let a : Acc := ⟨Base.DEV, o, false, true, true, false, bad⟩
  let n := (o - 0x1000) / 0x20
  let r := (o - 0x1000) % 0x20
  if o < 0x200 then
    let user := if o < 0x100 then s.fldBit F.PF_USER_LO.USER (o / 8) else s.fldBit F.PF_USER_HI.USER (o / 8 - 32)
    s.guard { a with base := Base.PF } [(!user, Err.NOT_PERMITTED)] id
  else if 0x1000 ≤ o ∧ hasQueue n = true ∧ r < 0x10 then
    s.guard { a with base := Base.PH } [s.userCheck a n, s.chanCheck n] id
  else if 0x1000 ≤ o ∧ hasQueue n = true ∧ r = 0x10 then
    s.sqCredit { a with base := Base.PH, rsv := v &&& 0x808080 != 0 } n (v / 2 ^ 24 % 128) (bitAt v 31) false
  else s.guard a [(true, Err.RANGE)] id

/-- Whether a 64-bit register starts at an offset. -/
def wide64 (bar2 : Bool) (x : Nat) : Bool :=
  if bar2 then decide (x < 0x200)
  else
    let c := match placeOf x with
      | .block _ => Card.find cards.block x
      | .unit sp _ o => Card.find (spaceCards sp) o
      | .aliased sp o _ => Card.find (spaceCards sp) o
      | .gap _ => none
    match c with
    | some d => d.bytes == 8
    | none => false

/-- The shapes that the device accepts (R368). -/
def accShaped (a : Access) : Bool :=
  a.fullBe && ((a.dws == 1 && a.ofs % 4 == 0) || (a.dws == 2 && a.ofs % 8 == 0))

/-- One write of a window. -/
def State.writeAt (s : State) (bar2 : Bool) (x v : Nat) (wide bad : Bool) : State :=
  if bar2 then s.write2 x v bad else s.write0 x v wide bad

/-- A host write (R368): a 2-DW request that covers two 32-bit registers acts as two accesses, the lower offset first. -/
def State.hostWrite (s : State) (a : Access) (v : BitVec 64) : State :=
  let lo := v.toNat % 2 ^ 32
  if !accShaped a then s.writeAt a.bar2 (a.ofs / 4 * 4) lo false true
  else if a.dws = 1 then s.writeAt a.bar2 a.ofs lo false false
  else if wide64 a.bar2 a.ofs then s.writeAt a.bar2 a.ofs v.toNat true false
  else (s.writeAt a.bar2 a.ofs lo false false).writeAt a.bar2 (a.ofs + 4) (v.toNat / 2 ^ 32) false false

/-- Whether an access lies in its window (Table 14.1). -/
def accInWindow (a : Access) : Bool := decide (a.ofs < if a.bar2 then 0x10000 else 0x4000000)

/-- REGISTER_WRITE (R8). -/
def execRegisterWrite (a : Access) (v : BitVec 64) (s : State) : Host.Outcome State Fault Refusal :=
  if accInWindow a then .next (s.hostWrite a v) else .fault .noSuchInstance

/-- UNUSED_PORT_WRITE (R3). -/
def execUnusedPortWrite (a : Access) (v : BitVec 64) (s : State) : Host.Outcome State Fault Refusal :=
  if accInWindow a then .next (s.hostWrite a v) else .fault .noSuchInstance

/-- UNMAPPED_WRITE (R367). -/
def execUnmappedWrite (a : Access) (v : BitVec 64) (s : State) : Host.Outcome State Fault Refusal :=
  if accInWindow a then .next (s.hostWrite a v) else .fault .noSuchInstance

/-- ALIAS_WRITE (R372). -/
def execAliasWrite (a : Access) (v : BitVec 64) (s : State) : Host.Outcome State Fault Refusal :=
  if accInWindow a then .next (s.hostWrite a v) else .fault .noSuchInstance

/-- Whether an access addresses an alias. -/
def accIsAlias (a : Access) : Bool :=
  !a.bar2 && match placeOf a.ofs with | .aliased _ _ _ => true | _ => false

/-- ALIAS_READ (R373): it returns zero and is recorded in the DEV block. -/
def execAliasRead (a : Access) (s : State) : Host.Outcome State Fault Refusal :=
  if accIsAlias a then .next ((s.received ⟨Base.DEV, a.ofs, false, false, false, false, false⟩).guard
    ⟨Base.DEV, a.ofs, true, false, false, false, !accShaped a⟩ [(true, Err.BCAST_READ)] id)
  else .fault .noSuchInstance

/-- Whether an error register stands at `base` (R374). -/
def hasErrStatus (base : Nat) : Bool :=
  match placeOf base with
  | .block _ => base % 0x100000 == 0
  | .unit _ _ o => o == 0
  | _ => false

/-- ERR_STATUS_CLEAR (R374). -/
def execErrStatusClear (base : Nat) (s : State) : Host.Outcome State Fault Refusal :=
  if hasErrStatus base then .next (s.write0 (Reg.ERR_STATUS base) (2 ^ 31) false false) else .fault .noSuchInstance

/-! ## Registers that show what other state holds -/

/-- Whether the ERR_STATUS at `base` holds a code. -/
def State.hasCode (s : State) (base : Nat) : Bool := s.fld (F.ERR_STATUS.CODE base) != 0

/-- Bits `lo` on of a summary. -/
def bitsFrom (n lo : Nat) (p : Nat → Bool) : Nat := ((List.range n).map fun i => b2n (p i) * 2 ^ (lo + i)).sum

/-- DEV_ERR_SUMMARY (R375). -/
def State.errSummary (s : State) : Nat :=
  bitsFrom 12 0 (fun k => s.hasCode (k * 0x100000)) + bitsFrom 4 12 (fun i => s.hasCode (Base.SLC i)) +
    bitsFrom 4 16 (fun w => s.hasCode (Base.TW w)) + b2n ((List.range 192).any fun p => s.hasCode (Base.PRT p)) * 2 ^ 20 +
    b2n ((List.range 192).any fun l => s.hasCode (Base.LN l)) * 2 ^ 21

/-- DEV_PWR_STATUS. -/
def State.pwrStatus (s : State) : Nat :=
  b2n (s.mode != Mode.OFF) + b2n s.dev.pgCore * 2 + b2n s.dev.pgMem * 4 +
    bitsFrom 7 4 fun r => s.railWatched r && !bitAt s.dev.rails r

/-- SP_STATUS: entries of each class in latches and stages. -/
def State.spOcc (s : State) : Nat :=
  ((List.range 4).map fun c => ((s.spClass c).latches.length + (s.spClass c).stages.length) * 2 ^ (8 * c)).sum

/-- SP_CREDIT_n. -/
def State.spCreditWord (s : State) (n : Nat) : Nat := (s.spClass n).host + (s.spClass n).prod * 2 ^ 8

/-- The capture set and domain that KT_CAP_SEL shows. -/
def State.capShown (s : State) : Time16 := s.kettle.cap.getD (s.fld F.KT_CAP_SEL.SRC * 8 + s.fld F.KT_CAP_SEL.DOMAIN) 0

/-- Whether the register at BAR0 offset `x` belongs to a unit that is not there and so reads zero: a port number that is unused (R3), a channel
of a MODE 0 lane (R280), or an absent ring (R330). -/
def State.absentUnit (s : State) (x : Nat) : Bool :=
  match placeOf x with
  | .unit 1 i _ => !s.portUsed i
  | _ => (decide (0x410000 ≤ x) && decide (x < 0x417280) && !s.shown ((x - 0x410000) / 0x80)) ||
    (decide (0xA01000 ≤ x) && decide (x < 0xA01800) && s.ringState ((x - 0xA01000) / 0x100) == Ring.ABSENT)

/-- The value that the register at BAR0 offset `x` shows: registers that summarise other state are computed here, the others hold it. KT_INC_LO_d
and KT_INC_HI_d show the lead's increment. -/
def State.readBack (s : State) (x : Nat) : Nat :=
  if s.absentUnit x then 0
  else if 0x201000 ≤ x ∧ x < 0x201800 ∧ x % 0x100 = 0x20 then (s.ktDom s.lead ((x - 0x201000) / 0x100)).inc % 2 ^ 32
  else if 0x201000 ≤ x ∧ x < 0x201800 ∧ x % 0x100 = 0x24 then (s.ktDom s.lead ((x - 0x201000) / 0x100)).inc / 2 ^ 32
  else if x = Reg.DEV_ID then 0x7192 + Config.rev.toNat * 2 ^ 16 + b2n Config.dbgLock * 2 ^ 24
  else if x = Reg.DEV_ERR_SUMMARY then s.errSummary
  else if Reg.DEV_ERR_PORT 0 ≤ x ∧ x < Reg.DEV_ERR_PORT 6 then bitsFrom 32 0 fun j => s.hasCode (Base.PRT ((x - Reg.DEV_ERR_PORT 0) / 4 * 32 + j))
  else if Reg.DEV_ERR_LANE 0 ≤ x ∧ x < Reg.DEV_ERR_LANE 6 then bitsFrom 32 0 fun j => s.hasCode (Base.LN ((x - Reg.DEV_ERR_LANE 0) / 4 * 32 + j))
  else if x = Reg.DEV_PWR_STATUS then s.pwrStatus
  else if x = Reg.SP_STATUS then s.spOcc
  else if Reg.SP_CREDIT 0 ≤ x ∧ x < Reg.SP_CREDIT 4 then s.spCreditWord ((x - Reg.SP_CREDIT 0) / 4)
  else if x = Reg.PH_UID_LO then Config.uid.toNat % 2 ^ 32
  else if x = Reg.PH_UID_HI then Config.uid.toNat / 2 ^ 32
  else if Reg.IMG_KEY_HASH 0 ≤ x ∧ x < Reg.IMG_KEY_HASH 8 then leNat ((beBytes 32 Config.keyHash.toNat).drop (x - Reg.IMG_KEY_HASH 0)) % 2 ^ 32
  else if x = Reg.KT_CAP_NS then t16Ns s.capShown
  else if x = Reg.KT_CAP_FRAC then t16Frac s.capShown
  else if x = Reg.KT_CAP_S_LO then t16Sec s.capShown % 2 ^ 32
  else if x = Reg.KT_CAP_S_HI then t16Sec s.capShown / 2 ^ 32
  else if 0x9000 ≤ x ∧ x < 0x9008 then s.irq.pba / 2 ^ ((x - 0x9000) * 8) % 2 ^ 32
  else (s.rd x).toNat

end Sys2Proof.Machine
end

