-- ==== Sys2Proof/Machine/Dispatch.lean ====
section
/-! DEFINITION. The meaning of every command: one arm for each constructor of Instr. -/

namespace Sys2Proof.Machine

def exec (i : Instr) (s : State) : Host.Outcome State Fault Refusal :=
  match i with
  | .registerWrite a v => Sys2Proof.Machine.execRegisterWrite a v s
  | .unusedPortWrite a v => Sys2Proof.Machine.execUnusedPortWrite a v s
  | .unmappedWrite a v => Sys2Proof.Machine.execUnmappedWrite a v s
  | .aliasWrite a v => Sys2Proof.Machine.execAliasWrite a v s
  | .aliasRead a => Sys2Proof.Machine.execAliasRead a s
  | .errStatusClear base => Sys2Proof.Machine.execErrStatusClear base s
  | .pgAonFall => Sys2Proof.Machine.execPgAonFall s
  | .pgCoreMemFall core mem => Sys2Proof.Machine.execPgCoreMemFall core mem s
  | .resetNAssert => Sys2Proof.Machine.execResetNAssert s
  | .powerUpStart bootSel core mem => Sys2Proof.Machine.execPowerUpStart bootSel core mem s
  | .softDeviceReset key => Sys2Proof.Machine.execSoftDeviceReset key s
  | .sliceReset mask key => Sys2Proof.Machine.execSliceReset mask key s
  | .perstNAssert => Sys2Proof.Machine.execPerstNAssert s
  | .perstNRelease => Sys2Proof.Machine.execPerstNRelease s
  | .functionLevelReset => Sys2Proof.Machine.execFunctionLevelReset s
  | .pcieLinkUp bme msixEnable funcMask => Sys2Proof.Machine.execPcieLinkUp bme msixEnable funcMask s
  | .pcieLinkDown bmeOnly => Sys2Proof.Machine.execPcieLinkDown bmeOnly s
  | .portReset p => Sys2Proof.Machine.execPortReset p s
  | .portAdminDown p => Sys2Proof.Machine.execPortAdminDown p s
  | .portAdminUp p => Sys2Proof.Machine.execPortAdminUp p s
  | .modeReqLull => Sys2Proof.Machine.execModeReqLull s
  | .modeReqBreeze => Sys2Proof.Machine.execModeReqBreeze s
  | .modeReqGale => Sys2Proof.Machine.execModeReqGale s
  | .modeReqCalm => Sys2Proof.Machine.execModeReqCalm s
  | .modeReqProbe => Sys2Proof.Machine.execModeReqProbe s
  | .calmDropDone => Sys2Proof.Machine.execCalmDropDone s
  | .corePllLoss => Sys2Proof.Machine.execCorePllLoss s
  | .supplyOutOfRange rail high => Sys2Proof.Machine.execSupplyOutOfRange rail high s
  | .aonClkAbsent => Sys2Proof.Machine.execAonClkAbsent s
  | .aonRateMeasure aonCycles => Sys2Proof.Machine.execAonRateMeasure aonCycles s
  | .imageFetchComplete src img cal => Sys2Proof.Machine.execImageFetchComplete src img cal s
  | .loaderWatchdogExpiry => Sys2Proof.Machine.execLoaderWatchdogExpiry s
  | .shadowCopy => Sys2Proof.Machine.execShadowCopy s
  | .fullImageFetch => Sys2Proof.Machine.execFullImageFetch s
  | .partialImageFetch sl => Sys2Proof.Machine.execPartialImageFetch sl s
  | .partialImageAbort => Sys2Proof.Machine.execPartialImageAbort s
  | .partialImageFetched img => Sys2Proof.Machine.execPartialImageFetched img s
  | .slicePipelineEmpty sl => Sys2Proof.Machine.execSlicePipelineEmpty sl s
  | .partialImageApplied sl => Sys2Proof.Machine.execPartialImageApplied sl s
  | .steepPllsLocked => Sys2Proof.Machine.execSteepPllsLocked s
  | .linearisationDone ch h1 h2 => Sys2Proof.Machine.execLinearisationDone ch h1 h2 s
  | .acquisitionLimitExpiry => Sys2Proof.Machine.execAcquisitionLimitExpiry s
  | .steepExit => Sys2Proof.Machine.execSteepExit s
  | .sliceDrainDone sl => Sys2Proof.Machine.execSliceDrainDone sl s
  | .sliceDrainLimitExpiry sl => Sys2Proof.Machine.execSliceDrainLimitExpiry sl s
  | .slicePowerUpDone sl cal => Sys2Proof.Machine.execSlicePowerUpDone sl cal s
  | .lullDrainDone => Sys2Proof.Machine.execLullDrainDone s
  | .lullCommit => Sys2Proof.Machine.execLullCommit s
  | .lullShutdownDone => Sys2Proof.Machine.execLullShutdownDone s
  | .wakeEvent lanes evts wakeIn supply => Sys2Proof.Machine.execWakeEvent lanes evts wakeIn supply s
  | .lullRailTimeout => Sys2Proof.Machine.execLullRailTimeout s
  | .wakeRailsGood => Sys2Proof.Machine.execWakeRailsGood s
  | .wakePllLocked => Sys2Proof.Machine.execWakePllLocked s
  | .aonHandover phi => Sys2Proof.Machine.execAonHandover phi s
  | .laneReset l => Sys2Proof.Machine.execLaneReset l s
  | .trunkIdleReq l => Sys2Proof.Machine.execTrunkIdleReq l s
  | .trunkIdleExit l => Sys2Proof.Machine.execTrunkIdleExit l s
  | .markerReceived l pre m t => Sys2Proof.Machine.execMarkerReceived l pre m t s
  | .trunkUnitReceived l hdr body t slots => Sys2Proof.Machine.execTrunkUnitReceived l hdr body t slots s
  | .pointerReceived l pre ptr => Sys2Proof.Machine.execPointerReceived l pre ptr s
  | .reorderTimeout p slots => Sys2Proof.Machine.execReorderTimeout p slots s
  | .capReceived l arg rxa => Sys2Proof.Machine.execCapReceived l arg rxa s
  | .propReceived l arg => Sys2Proof.Machine.execPropReceived l arg s
  | .ackReceived l arg => Sys2Proof.Machine.execAckReceived l arg s
  | .nakReceived l arg => Sys2Proof.Machine.execNakReceived l arg s
  | .trainReceived l arg rxa => Sys2Proof.Machine.execTrainReceived l arg rxa s
  | .dataMarkerReceived l => Sys2Proof.Machine.execDataMarkerReceived l s
  | .idleReqReceived l => Sys2Proof.Machine.execIdleReqReceived l s
  | .idleAckReceived l => Sys2Proof.Machine.execIdleAckReceived l s
  | .idleReqSend l => Sys2Proof.Machine.execIdleReqSend l s
  | .idleHandshakeComplete l => Sys2Proof.Machine.execIdleHandshakeComplete l s
  | .idleActivityDetected l => Sys2Proof.Machine.execIdleActivityDetected l s
  | .idleExitTimeout l => Sys2Proof.Machine.execIdleExitTimeout l s
  | .trunkSwitchStep l => Sys2Proof.Machine.execTrunkSwitchStep l s
  | .capTimeout l => Sys2Proof.Machine.execCapTimeout l s
  | .responseTimerExpiry l => Sys2Proof.Machine.execResponseTimerExpiry l s
  | .trainingTimerExpiry l => Sys2Proof.Machine.execTrainingTimerExpiry l s
  | .losAssert l => Sys2Proof.Machine.execLosAssert l s
  | .losDeassert l => Sys2Proof.Machine.execLosDeassert l s
  | .lolAssert l => Sys2Proof.Machine.execLolAssert l s
  | .losLolPersist l => Sys2Proof.Machine.execLosLolPersist l s
  | .laneLockAcquired l => Sys2Proof.Machine.execLaneLockAcquired l s
  | .firstAttemptTimeout l => Sys2Proof.Machine.execFirstAttemptTimeout l s
  | .eyeMeasurement l width height => Sys2Proof.Machine.execEyeMeasurement l width height s
  | .ingressFrame p bytes t slots => Sys2Proof.Machine.execIngressFrame p bytes t slots s
  | .learnRequestApply sl => Sys2Proof.Machine.execLearnRequestApply sl s
  | .stashMove sl => Sys2Proof.Machine.execStashMove sl s
  | .moveSecondEnd sl => Sys2Proof.Machine.execMoveSecondEnd sl s
  | .ageingVisit sl slot => Sys2Proof.Machine.execAgeingVisit sl slot s
  | .twWrite w table => Sys2Proof.Machine.execTwWrite w table s
  | .twDelete w table => Sys2Proof.Machine.execTwDelete w table s
  | .twRead w table => Sys2Proof.Machine.execTwRead w table s
  | .twRaw w table => Sys2Proof.Machine.execTwRaw w table s
  | .twFlush w table => Sys2Proof.Machine.execTwFlush w table s
  | .twCommandDone w => Sys2Proof.Machine.execTwCommandDone w s
  | .fenceSet sl fenceEv => Sys2Proof.Machine.execFenceSet sl fenceEv s
  | .fenceDone sl => Sys2Proof.Machine.execFenceDone sl s
  | .epochBoundary => Sys2Proof.Machine.execEpochBoundary s
  | .residueTimeout plane slice id => Sys2Proof.Machine.execResidueTimeout plane slice id s
  | .spillRefill slice n cls => Sys2Proof.Machine.execSpillRefill slice n cls s
  | .auditRoundEnd => Sys2Proof.Machine.execAuditRoundEnd s
  | .residenceSweep => Sys2Proof.Machine.execResidenceSweep s
  | .hostBufferFree handle => Sys2Proof.Machine.execHostBufferFree handle s
  | .poolLowClear => Sys2Proof.Machine.execPoolLowClear s
  | .egressSelect p dep => Sys2Proof.Machine.execEgressSelect p dep s
  | .gateEntryTransition p => Sys2Proof.Machine.execGateEntryTransition p s
  | .gclCommit p => Sys2Proof.Machine.execGclCommit p s
  | .gclCommitOff p => Sys2Proof.Machine.execGclCommitOff p s
  | .gclAbort p => Sys2Proof.Machine.execGclAbort p s
  | .gclSwitch p => Sys2Proof.Machine.execGclSwitch p s
  | .pfcFrameReceived p enable quanta => Sys2Proof.Machine.execPfcFrameReceived p enable quanta s
  | .macControlReceived p => Sys2Proof.Machine.execMacControlReceived p s
  | .pauseExpiry p c => Sys2Proof.Machine.execPauseExpiry p c s
  | .pauseWatchdogExpiry p c => Sys2Proof.Machine.execPauseWatchdogExpiry p c s
  | .wdDropClear p c => Sys2Proof.Machine.execWdDropClear p c s
  | .frerWrite => Sys2Proof.Machine.execFrerWrite s
  | .frerRead => Sys2Proof.Machine.execFrerRead s
  | .frerReset => Sys2Proof.Machine.execFrerReset s
  | .frerRecoveryTimeout inst => Sys2Proof.Machine.execFrerRecoveryTimeout inst s
  | .channelExclusion chs => Sys2Proof.Machine.execChannelExclusion chs s
  | .kettleWatchdogExpiry ch => Sys2Proof.Machine.execKettleWatchdogExpiry ch s
  | .channelCopy ch => Sys2Proof.Machine.execChannelCopy ch s
  | .readmission ch => Sys2Proof.Machine.execReadmission ch s
  | .leadHandover => Sys2Proof.Machine.execLeadHandover s
  | .handoverForced => Sys2Proof.Machine.execHandoverForced s
  | .timebaseGateEnd cycles => Sys2Proof.Machine.execTimebaseGateEnd cycles s
  | .timebaseAbsent => Sys2Proof.Machine.execTimebaseAbsent s
  | .timebasePresent => Sys2Proof.Machine.execTimebasePresent s
  | .ocxoWarmFall => Sys2Proof.Machine.execOcxoWarmFall s
  | .ppsEdge n => Sys2Proof.Machine.execPpsEdge n s
  | .offsetFeedPush d hi => Sys2Proof.Machine.execOffsetFeedPush d hi s
  | .feedCreditGrant d n => Sys2Proof.Machine.execFeedCreditGrant d n s
  | .feedCreditRecall d => Sys2Proof.Machine.execFeedCreditRecall d s
  | .servoUpdate d => Sys2Proof.Machine.execServoUpdate d s
  | .sourceLoss d => Sys2Proof.Machine.execSourceLoss d s
  | .pairRevert k => Sys2Proof.Machine.execPairRevert k s
  | .pairHoldPartner k => Sys2Proof.Machine.execPairHoldPartner k s
  | .pairUsePrimary k => Sys2Proof.Machine.execPairUsePrimary k s
  | .incrementWrite d hi => Sys2Proof.Machine.execIncrementWrite d hi s
  | .fhtStart ch => Sys2Proof.Machine.execFhtStart ch s
  | .fhtPeriodicDue => Sys2Proof.Machine.execFhtPeriodicDue s
  | .fhtComplete fault => Sys2Proof.Machine.execFhtComplete fault s
  | .alarmArm n domain spout => Sys2Proof.Machine.execAlarmArm n domain spout s
  | .alarmFire n => Sys2Proof.Machine.execAlarmFire n s
  | .snapshot => Sys2Proof.Machine.execSnapshot s
  | .syncReceived p m t => Sys2Proof.Machine.execSyncReceived p m t s
  | .followUpReceived p m t => Sys2Proof.Machine.execFollowUpReceived p m t s
  | .delayReqReceived p m t => Sys2Proof.Machine.execDelayReqReceived p m t s
  | .delayRespReceived p m t => Sys2Proof.Machine.execDelayRespReceived p m t s
  | .pdelayReqReceived p m t => Sys2Proof.Machine.execPdelayReqReceived p m t s
  | .pdelayRespReceived p m t => Sys2Proof.Machine.execPdelayRespReceived p m t s
  | .pdelayRespFuReceived p m t => Sys2Proof.Machine.execPdelayRespFuReceived p m t s
  | .ptpToHost p frame t => Sys2Proof.Machine.execPtpToHost p frame t s
  | .syncGridDue p => Sys2Proof.Machine.execSyncGridDue p s
  | .delayReqDue p => Sys2Proof.Machine.execDelayReqDue p s
  | .followUpSend p => Sys2Proof.Machine.execFollowUpSend p s
  | .engineFrameSend p dep => Sys2Proof.Machine.execEngineFrameSend p dep s
  | .delayRespTimeout p => Sys2Proof.Machine.execDelayRespTimeout p s
  | .offsetWindowClose p => Sys2Proof.Machine.execOffsetWindowClose p s
  | .trimWrite p rx v => Sys2Proof.Machine.execTrimWrite p rx v s
  | .eventInputTransition n level tap => Sys2Proof.Machine.execEventInputTransition n level tap s
  | .glitchFilterExpiry n => Sys2Proof.Machine.execGlitchFilterExpiry n s
  | .rotationSlotBegin g => Sys2Proof.Machine.execRotationSlotBegin g s
  | .takeoverOverlapEnd g meanDiff => Sys2Proof.Machine.execTakeoverOverlapEnd g meanDiff s
  | .reconnectOverlapEnd g meanDiff => Sys2Proof.Machine.execReconnectOverlapEnd g meanDiff s
  | .skewMeasurement sl skew => Sys2Proof.Machine.execSkewMeasurement sl skew s
  | .dllErrorPersist ch dll => Sys2Proof.Machine.execDllErrorPersist ch dll s
  | .recalRequest ch => Sys2Proof.Machine.execRecalRequest ch s
  | .stampQueueConfig ch v => Sys2Proof.Machine.execStampQueueConfig ch v s
  | .stampCreditGrant ch n bar2 => Sys2Proof.Machine.execStampCreditGrant ch n bar2 s
  | .stampCreditRecall ch bar2 => Sys2Proof.Machine.execStampCreditRecall ch bar2 s
  | .stampPop ch bar2 => Sys2Proof.Machine.execStampPop ch bar2 s
  | .fmStart e v => Sys2Proof.Machine.execFmStart e v s
  | .fmGateClose e => Sys2Proof.Machine.execFmGateClose e s
  | .pulseArm n => Sys2Proof.Machine.execPulseArm n s
  | .pulseStop n => Sys2Proof.Machine.execPulseStop n s
  | .pulseEdge n => Sys2Proof.Machine.execPulseEdge n s
  | .clockOutEnable k en => Sys2Proof.Machine.execClockOutEnable k en s
  | .clockOutFreqWrite k hz => Sys2Proof.Machine.execClockOutFreqWrite k hz s
  | .clockPllLock k => Sys2Proof.Machine.execClockPllLock k s
  | .clockPllLol k => Sys2Proof.Machine.execClockPllLol k s
  | .clockRefLoss k => Sys2Proof.Machine.execClockRefLoss k s
  | .candidateInactive n => Sys2Proof.Machine.execCandidateInactive n s
  | .candidateActive n => Sys2Proof.Machine.execCandidateActive n s
  | .freqMeasurement n y => Sys2Proof.Machine.execFreqMeasurement n y s
  | .wtrExpiry n => Sys2Proof.Machine.execWtrExpiry n s
  | .esmcPduReceived p ssm => Sys2Proof.Machine.execEsmcPduReceived p ssm s
  | .esmcTimeout n => Sys2Proof.Machine.execEsmcTimeout n s
  | .selectionTick delta => Sys2Proof.Machine.execSelectionTick delta s
  | .pullComplete => Sys2Proof.Machine.execPullComplete s
  | .holdoverRecord steer => Sys2Proof.Machine.execHoldoverRecord steer s
  | .recordWrite => Sys2Proof.Machine.execRecordWrite s
  | .postWindowEnd n => Sys2Proof.Machine.execPostWindowEnd n s
  | .ringHostTrigger n => Sys2Proof.Machine.execRingHostTrigger n s
  | .ringRelease n => Sys2Proof.Machine.execRingRelease n s
  | .readoutGo => Sys2Proof.Machine.execReadoutGo s
  | .readoutAbort => Sys2Proof.Machine.execReadoutAbort s
  | .readoutDone => Sys2Proof.Machine.execReadoutDone s
  | .replayArm r => Sys2Proof.Machine.execReplayArm r s
  | .replayStop r => Sys2Proof.Machine.execReplayStop r s
  | .replayRecordSend r => Sys2Proof.Machine.execReplayRecordSend r s
  | .replayDone r => Sys2Proof.Machine.execReplayDone r s
  | .strainerGo k => Sys2Proof.Machine.execStrainerGo k s
  | .strainerStop k => Sys2Proof.Machine.execStrainerStop k s
  | .scanEnd k corrupt => Sys2Proof.Machine.execScanEnd k corrupt s
  | .scanPeriodExpiry k => Sys2Proof.Machine.execScanPeriodExpiry k s
  | .aliveExpWrite k v => Sys2Proof.Machine.execAliveExpWrite k v s
  | .aliveDeadlineExpiry k => Sys2Proof.Machine.execAliveDeadlineExpiry k s
  | .eccSingleError m => Sys2Proof.Machine.execEccSingleError m s
  | .eccDoubleError hit word => Sys2Proof.Machine.execEccDoubleError hit word s
  | .scrubPass m => Sys2Proof.Machine.execScrubPass m s
  | .sliceWatchdogExpiry sl => Sys2Proof.Machine.execSliceWatchdogExpiry sl s
  | .schedulerWatchdogExpiry => Sys2Proof.Machine.execSchedulerWatchdogExpiry s
  | .msixUnmask v => Sys2Proof.Machine.execMsixUnmask v s
  | .spoutPop => Sys2Proof.Machine.execSpoutPop s
  | .spoutCreditGrant c n => Sys2Proof.Machine.execSpoutCreditGrant c n s
  | .spoutCreditRecall c => Sys2Proof.Machine.execSpoutCreditRecall c s
  | .htxTailWrite v => Sys2Proof.Machine.execHtxTailWrite v s
  | .htxDescriptorFetched d frame => Sys2Proof.Machine.execHtxDescriptorFetched d frame s
  | .htxWriteBack idx => Sys2Proof.Machine.execHtxWriteBack idx s
  | .pfSelect n v => Sys2Proof.Machine.execPfSelect n v s
  | .dumpSample prevWritten => Sys2Proof.Machine.execDumpSample prevWritten s
  | .mdioAddress m prtad devad data => Sys2Proof.Machine.execMdioAddress m prtad devad data s
  | .mdioWrite m prtad devad data => Sys2Proof.Machine.execMdioWrite m prtad devad data s
  | .mdioReadInc m prtad devad => Sys2Proof.Machine.execMdioReadInc m prtad devad s
  | .mdioRead m prtad devad => Sys2Proof.Machine.execMdioRead m prtad devad s
  | .mdioOpDone m data => Sys2Proof.Machine.execMdioOpDone m data s
  | .flashRead len => Sys2Proof.Machine.execFlashRead len s
  | .flashPageProgram len key => Sys2Proof.Machine.execFlashPageProgram len key s
  | .flashErase4k key => Sys2Proof.Machine.execFlashErase4k key s
  | .flashErase64k key => Sys2Proof.Machine.execFlashErase64k key s
  | .flashReadSfdp len => Sys2Proof.Machine.execFlashReadSfdp len s
  | .flashOpDone data failed sizeMib => Sys2Proof.Machine.execFlashOpDone data failed sizeMib s
  | .flashOpTimeout => Sys2Proof.Machine.execFlashOpTimeout s
  | .tapExtest => Sys2Proof.Machine.execTapExtest s
  | .tapIdcode => Sys2Proof.Machine.execTapIdcode s
  | .tapSamplePreload => Sys2Proof.Machine.execTapSamplePreload s
  | .tapClamp => Sys2Proof.Machine.execTapClamp s
  | .tapHighz => Sys2Proof.Machine.execTapHighz s
  | .tapExtestPulse => Sys2Proof.Machine.execTapExtestPulse s
  | .tapExtestTrain => Sys2Proof.Machine.execTapExtestTrain s
  | .tapPrivateDebug code => Sys2Proof.Machine.execTapPrivateDebug code s
  | .tapBypass code => Sys2Proof.Machine.execTapBypass code s
  | .temperatureRead tj mem => Sys2Proof.Machine.execTemperatureRead tj mem s
  | .ocxoWarmRise => Sys2Proof.Machine.execOcxoWarmRise s
  | .aonClkReturn => Sys2Proof.Machine.execAonClkReturn s
  | .sliceResetDone sl => Sys2Proof.Machine.execSliceResetDone sl s
  | .lolDeassert l => Sys2Proof.Machine.execLolDeassert l s
  | .observeDeviation ch => Sys2Proof.Machine.execObserveDeviation ch s
  | .followUpTimeout p => Sys2Proof.Machine.execFollowUpTimeout p s
  | .dlyValidExpiry p => Sys2Proof.Machine.execDlyValidExpiry p s
  | .wordClockSample ch tx ui tap => Sys2Proof.Machine.execWordClockSample ch tx ui tap s
  | .ttRoleWrite p v => Sys2Proof.Machine.execTtRoleWrite p v s
  | .laneLoopPrbsWrite l loop prbs => Sys2Proof.Machine.execLaneLoopPrbsWrite l loop prbs s

end Sys2Proof.Machine
end

