-- ==== Sys2Proof/Machine/Tick.lean ====
section
/-! DEFINITION. One core cycle without a command: what happens in every cycle whatever is commanded (log entry 2). Events of longer periods
(epochs, edges, expiries, selections) are commands of their own. -/

namespace Sys2Proof.Machine

/-- Core cycles in a millisecond, the management tick outside LULL (R4). -/
def tickCycles : Nat := 1250000

/-- Core cycles in one AON cycle of 100 ns. -/
def aonCycles : Nat := 125

/-- Whether a domain's published nanoseconds pass a multiple of 1,000 between two states (R331). -/
def microPassed (before after : State) (d : Nat) : Bool := before.now16 d / (65536 * 1000) != after.now16 d / (65536 * 1000)

/-- Ring time in the cycle that leads from `before` to `s`: it runs in BREEZE, GALE and CALM for every ring that has left IDLE, in CALM only once BREEZE or
GALE has been entered since LOAD (R331). -/
def State.ringTicks (before s : State) : State :=
  if s.mode = Mode.BREEZE ∨ s.mode = Mode.GALE ∨ (s.mode = Mode.CALM ∧ s.caddy.lived = true) then
    (List.range 8).foldl (fun t n =>
      if t.ringState n != Ring.IDLE && microPassed before t (t.fld (F.CD_RING_CFG.DOMAIN n)) then t.ringTick n else t) s
  else s

/-- The per-port cycle events: cycles with any class paused and cycles with oper UP (Table 14.10). -/
def State.portCycle (s : State) (p : Nat) : State :=
  let s1 := if s.fld (F.PRT_WD.PAUSED p) = 0 then s else s.pfEvent 0x205 p 1
  if s.oper p = Oper.UP then s1.pfEvent 0x206 p 1 else s1

/-- The performance events of one core cycle (Table 14.10). -/
def State.cycleEvents (s : State) : State :=
  let s1 := s.pfEvent 0x001 0 1
  let s2 := if s.cycle % tickCycles = 0 then s1.pfEvent 0x003 0 1 else s1
  if Mode.STEEP ≤ s.mode then s2.ports.foldl State.portCycle s2 else s2

/-- A launch time that comes while its class is paused or its gate closed blocks the class (R206). -/
def State.wdTicks (s : State) : State := s.fab.eg.keys.foldl (fun t p => if (t.egp p).lt.isEmpty then t else t.wdWatch p) s

/-- One core cycle: the cycle count, the W1C bits of the cycle that ends (R7), the AON copies at each tenth of a microsecond, and, where the core
runs, the Kettle counters, the Spout chain, ring time, the lines of the native trunks, the pause watchdogs, the performance counters and the level
causes that a write has cleared (R378). -/
def State.tick (s : State) : State :=
  let s1 := { s with cycle := s.cycle + 1, setNow := SMap.empty }
  let s2 := if s1.cycle % aonCycles = 0 then s1.aonEdge else s1
  if s2.mode < Mode.LOAD then s2
  else (s2.ringTicks s2.kettleTick.spoutTick).txTicks.wdTicks.cycleEvents.irqEval

end Sys2Proof.Machine
end

