-- ==== Sys2Proof/WellFormed.lean ====
section
/-! DEFINITION. Well-formed commands: every unit that a command names exists (192 lanes and ports, 4 slices, 8 domains, 8 rings, 229 phase-meter
channels and so on), an address lies in its window, and the record of a reading has all its entries. Every well-formed command has a next
state in every state; an ill-formed one is the fault `noSuchInstance` (log entry 4). -/

namespace Sys2Proof

open Sys2Proof.Machine in
/-- Whether a command names only what the device has. -/
def Instr.wf (c : Instr) : Bool :=
  match c with
  | .registerWrite a _ => accInWindow a
  | .unusedPortWrite a _ => accInWindow a
  | .unmappedWrite a _ => accInWindow a
  | .aliasWrite a _ => accInWindow a
  | .aliasRead a => accIsAlias a
  | .errStatusClear base => hasErrStatus base
  | .pgAonFall => true
  | .pgCoreMemFall _ _ => true
  | .resetNAssert => true
  | .powerUpStart _ _ _ => true
  | .softDeviceReset _ => true
  | .sliceReset _ _ => true
  | .perstNAssert => true
  | .perstNRelease => true
  | .functionLevelReset => true
  | .pcieLinkUp _ _ _ => true
  | .pcieLinkDown _ => true
  | .portReset p => decide (p < 192)
  | .portAdminDown p => decide (p < 192)
  | .portAdminUp p => decide (p < 192)
  | .modeReqLull => true
  | .modeReqBreeze => true
  | .modeReqGale => true
  | .modeReqCalm => true
  | .modeReqProbe => true
  | .calmDropDone => true
  | .corePllLoss => true
  | .supplyOutOfRange r _ => decide (r < 7)
  | .aonClkAbsent => true
  | .aonRateMeasure _ => true
  | .imageFetchComplete _ _ _ => true
  | .loaderWatchdogExpiry => true
  | .shadowCopy => true
  | .fullImageFetch => true
  | .partialImageFetch i => decide (i < 4)
  | .partialImageAbort => true
  | .partialImageFetched _ => true
  | .slicePipelineEmpty i => decide (i < 4)
  | .partialImageApplied i => decide (i < 4)
  | .steepPllsLocked => true
  | .linearisationDone n _ _ => decide (n < 229)
  | .acquisitionLimitExpiry => true
  | .steepExit => true
  | .sliceDrainDone i => decide (i < 4)
  | .sliceDrainLimitExpiry i => decide (i < 4)
  | .slicePowerUpDone i _ => decide (i < 4)
  | .lullDrainDone => true
  | .lullCommit => true
  | .lullShutdownDone => true
  | .wakeEvent _ _ _ _ => true
  | .lullRailTimeout => true
  | .wakeRailsGood => true
  | .wakePllLocked => true
  | .aonHandover _ => true
  | .laneReset l => decide (l < 192)
  | .trunkIdleReq l => decide (l < 192)
  | .trunkIdleExit l => decide (l < 192)
  | .markerReceived l _ _ _ => decide (l < 192)
  | .trunkUnitReceived l _ _ _ _ => decide (l < 192)
  | .pointerReceived l _ _ => decide (l < 192)
  | .reorderTimeout p _ => decide (p < 192)
  | .capReceived l _ _ => decide (l < 192)
  | .propReceived l _ => decide (l < 192)
  | .ackReceived l _ => decide (l < 192)
  | .nakReceived l _ => decide (l < 192)
  | .trainReceived l _ _ => decide (l < 192)
  | .dataMarkerReceived l => decide (l < 192)
  | .idleReqReceived l => decide (l < 192)
  | .idleAckReceived l => decide (l < 192)
  | .idleReqSend l => decide (l < 192)
  | .idleHandshakeComplete l => decide (l < 192)
  | .idleActivityDetected l => decide (l < 192)
  | .idleExitTimeout l => decide (l < 192)
  | .trunkSwitchStep l => decide (l < 192)
  | .capTimeout l => decide (l < 192)
  | .responseTimerExpiry l => decide (l < 192)
  | .trainingTimerExpiry l => decide (l < 192)
  | .losAssert l => decide (l < 192)
  | .losDeassert l => decide (l < 192)
  | .lolAssert l => decide (l < 192)
  | .losLolPersist l => decide (l < 192)
  | .laneLockAcquired l => decide (l < 192)
  | .firstAttemptTimeout l => decide (l < 192)
  | .eyeMeasurement l _ _ => decide (l < 192)
  | .ingressFrame p _ _ _ => decide (p < 192)
  | .learnRequestApply i => decide (i < 4)
  | .stashMove i => decide (i < 4)
  | .moveSecondEnd i => decide (i < 4)
  | .ageingVisit i _ => decide (i < 4)
  | .twWrite w _ => decide (w < 4)
  | .twDelete w _ => decide (w < 4)
  | .twRead w _ => decide (w < 4)
  | .twRaw w _ => decide (w < 4)
  | .twFlush w _ => decide (w < 4)
  | .twCommandDone w => decide (w < 4)
  | .fenceSet i _ => decide (i < 4)
  | .fenceDone i => decide (i < 4)
  | .epochBoundary => true
  | .residueTimeout plane slice _ => decide (plane < 4) && decide (slice < 4)
  | .spillRefill i n c => decide (i < 4) && decide (n < 192) && decide (c < 8)
  | .auditRoundEnd => true
  | .residenceSweep => true
  | .hostBufferFree _ => true
  | .poolLowClear => true
  | .egressSelect p _ => decide (p < 192)
  | .gateEntryTransition p => decide (p < 192)
  | .gclCommit p => decide (p < 192)
  | .gclCommitOff p => decide (p < 192)
  | .gclAbort p => decide (p < 192)
  | .gclSwitch p => decide (p < 192)
  | .pfcFrameReceived p _ _ => decide (p < 192)
  | .macControlReceived p => decide (p < 192)
  | .pauseExpiry p c => decide (p < 192) && decide (c < 8)
  | .pauseWatchdogExpiry p c => decide (p < 192) && decide (c < 8)
  | .wdDropClear p c => decide (p < 192) && decide (c < 8)
  | .frerWrite => true
  | .frerRead => true
  | .frerReset => true
  | .frerRecoveryTimeout i => i != 0 && decide (i < 1024)
  | .channelExclusion _ => true
  | .kettleWatchdogExpiry ch => decide (ch < 3)
  | .channelCopy ch => decide (ch < 3)
  | .readmission ch => decide (ch < 3)
  | .leadHandover => true
  | .handoverForced => true
  | .timebaseGateEnd _ => true
  | .timebaseAbsent => true
  | .timebasePresent => true
  | .ocxoWarmFall => true
  | .ppsEdge i => decide (i < 2)
  | .offsetFeedPush d _ => decide (d < 8)
  | .feedCreditGrant d _ => decide (d < 8)
  | .feedCreditRecall d => decide (d < 8)
  | .servoUpdate d => decide (d < 8)
  | .sourceLoss d => decide (d < 8)
  | .pairRevert k => decide (k < 4)
  | .pairHoldPartner k => decide (k < 4)
  | .pairUsePrimary k => decide (k < 4)
  | .incrementWrite d _ => decide (d < 8)
  | .fhtStart ch => decide (ch < 4)
  | .fhtPeriodicDue => true
  | .fhtComplete _ => true
  | .alarmArm n dom _ => decide (n < 8) && decide (dom < 8)
  | .alarmFire n => decide (n < 8)
  | .snapshot => true
  | .syncReceived p _ _ => decide (p < 192)
  | .followUpReceived p _ _ => decide (p < 192)
  | .delayReqReceived p _ _ => decide (p < 192)
  | .delayRespReceived p _ _ => decide (p < 192)
  | .pdelayReqReceived p _ _ => decide (p < 192)
  | .pdelayRespReceived p _ _ => decide (p < 192)
  | .pdelayRespFuReceived p _ _ => decide (p < 192)
  | .ptpToHost p _ _ => decide (p < 192)
  | .syncGridDue p => decide (p < 192)
  | .delayReqDue p => decide (p < 192)
  | .followUpSend p => decide (p < 192)
  | .engineFrameSend p _ => decide (p < 192)
  | .delayRespTimeout p => decide (p < 192)
  | .offsetWindowClose p => decide (p < 192)
  | .trimWrite p _ _ => decide (p < 192)
  | .eventInputTransition n _ tap => decide (n < 32) && decide (tap < 256)
  | .glitchFilterExpiry n => decide (n < 32)
  | .rotationSlotBegin g => decide (g < 5)
  | .takeoverOverlapEnd g _ => decide (g < 5)
  | .reconnectOverlapEnd g _ => decide (g < 5)
  | .skewMeasurement sl _ => decide (sl < 4)
  | .dllErrorPersist n _ => decide (n < 229)
  | .recalRequest n => decide (n < 256)
  | .stampQueueConfig n _ => decide (n < 229)
  | .stampCreditGrant n _ _ => hasQueue n
  | .stampCreditRecall n _ => hasQueue n
  | .stampPop n _ => hasQueue n
  | .fmStart e _ => decide (e < 5)
  | .fmGateClose e => decide (e < 5)
  | .pulseArm n => decide (n < 32)
  | .pulseStop n => decide (n < 32)
  | .pulseEdge n => decide (n < 32)
  | .clockOutEnable k _ => decide (k < 8)
  | .clockOutFreqWrite k _ => decide (k < 8)
  | .clockPllLock k => decide (k < 8)
  | .clockPllLol k => decide (k < 8)
  | .clockRefLoss k => decide (k < 8)
  | .candidateInactive i => decide (i < 11)
  | .candidateActive i => decide (i < 11)
  | .freqMeasurement i _ => decide (i < 11)
  | .wtrExpiry i => decide (i < 11)
  | .esmcPduReceived p _ => decide (p < 192)
  | .esmcTimeout i => decide (i < 11)
  | .selectionTick _ => true
  | .pullComplete => true
  | .holdoverRecord _ => true
  | .recordWrite => true
  | .postWindowEnd n => decide (n < 8)
  | .ringHostTrigger n => decide (n < 8)
  | .ringRelease n => decide (n < 8)
  | .readoutGo => true
  | .readoutAbort => true
  | .readoutDone => true
  | .replayArm r => decide (r < 4)
  | .replayStop r => decide (r < 4)
  | .replayRecordSend r => decide (r < 4)
  | .replayDone r => decide (r < 4)
  | .strainerGo k => decide (k < 8)
  | .strainerStop k => decide (k < 8)
  | .scanEnd k _ => decide (k < 8)
  | .scanPeriodExpiry k => decide (k < 8)
  | .aliveExpWrite k _ => decide (k < 8)
  | .aliveDeadlineExpiry k => decide (k < 8)
  | .eccSingleError m => decide (m < 9)
  | .eccDoubleError hit _ => eccUnit hit
  | .scrubPass m => decide (m < 9)
  | .sliceWatchdogExpiry i => decide (i < 4)
  | .schedulerWatchdogExpiry => true
  | .msixUnmask v => decide (v < 64)
  | .spoutPop => true
  | .spoutCreditGrant c _ => decide (c < 4)
  | .spoutCreditRecall c => decide (c < 4)
  | .htxTailWrite _ => true
  | .htxDescriptorFetched _ _ => true
  | .htxWriteBack _ => true
  | .pfSelect n _ => decide (n < 64)
  | .dumpSample _ => true
  | .mdioAddress m _ _ _ => decide (m < 4)
  | .mdioWrite m _ _ _ => decide (m < 4)
  | .mdioReadInc m _ _ => decide (m < 4)
  | .mdioRead m _ _ => decide (m < 4)
  | .mdioOpDone m _ => decide (m < 4)
  | .flashRead _ => true
  | .flashPageProgram _ _ => true
  | .flashErase4k _ => true
  | .flashErase64k _ => true
  | .flashReadSfdp _ => true
  | .flashOpDone _ _ _ => true
  | .flashOpTimeout => true
  | .tapExtest => true
  | .tapIdcode => true
  | .tapSamplePreload => true
  | .tapClamp => true
  | .tapHighz => true
  | .tapExtestPulse => true
  | .tapExtestTrain => true
  | .tapPrivateDebug code => decide (0x80 ≤ code.toNat) && decide (code.toNat ≤ 0xFE)
  | .tapBypass code => !tapDefined code.toNat
  | .temperatureRead tj mem => tj.length == 8 && mem.length == 4
  | .ocxoWarmRise => true
  | .aonClkReturn => true
  | .sliceResetDone i => decide (i < 4)
  | .lolDeassert l => decide (l < 192)
  | .observeDeviation ch => decide (ch < 3)
  | .followUpTimeout p => decide (p < 192)
  | .dlyValidExpiry p => decide (p < 192)
  | .wordClockSample n _ _ _ => decide (n < 192)
  | .ttRoleWrite p _ => decide (p < 192)
  | .laneLoopPrbsWrite l _ _ => decide (l < 192)

end Sys2Proof
end

