-- ==== Sys2Proof/Safety.lean ====
section
/-! DEFINITION. What claims call a safe run: the conditions on a state under which every step answers a next state, and the invariants
that steps keep. -/

namespace Sys2Proof.Machine

/-- Every waiting command names only what the device has. -/
def State.pendingWf (s : State) : Prop := ∀ c ∈ s.pending, c.wf = true

/-- The register file is in its canonical form: offsets rise strictly, and no register is listed with its POR value. -/
def State.regsCanonical (s : State) : Prop := s.regs.Canonical Reg.por

/-- A set of registers of one card: the offsets `base + s1 * i + s2 * j` of its instances `i < n1`, `j < n2`. -/
structure RegSet where
  base : Nat
  s1 : Nat
  n1 : Nat
  s2 : Nat
  n2 : Nat
  deriving DecidableEq, Repr

/-- Whether an offset belongs to a set of registers. -/
def RegSet.Has (r : RegSet) (a : Nat) : Prop := ∃ i j, i < r.n1 ∧ j < r.n2 ∧ a = r.base + r.s1 * i + r.s2 * j

/-- The parts of the state besides the registers, the queue, the cycle count and the note of what the cycle has set. -/
inductive Part where
  | dev | pcie | irq | spout | host | cfg | img | scans | kettle | aon | vane | caddy | phase | cal | slices | fab | lines | tt
  | freeCtr | uid | out
  deriving DecidableEq, Repr

/-- Whether a part is the same in two states. -/
def Part.Same : Part → State → State → Prop
  | .dev, s, t => t.dev = s.dev
  | .pcie, s, t => t.pcie = s.pcie
  | .irq, s, t => t.irq = s.irq
  | .spout, s, t => t.spout = s.spout
  | .host, s, t => t.host = s.host
  | .cfg, s, t => t.cfg = s.cfg
  | .img, s, t => t.img = s.img
  | .scans, s, t => t.scans = s.scans
  | .kettle, s, t => t.kettle = s.kettle
  | .aon, s, t => t.aon = s.aon
  | .vane, s, t => t.vane = s.vane
  | .caddy, s, t => t.caddy = s.caddy
  | .phase, s, t => t.phase = s.phase
  | .cal, s, t => t.cal = s.cal
  | .slices, s, t => t.slices = s.slices
  | .fab, s, t => t.fab = s.fab
  | .lines, s, t => t.lines = s.lines
  | .tt, s, t => t.tt = s.tt
  | .freeCtr, s, t => t.freeCtr = s.freeCtr
  | .uid, s, t => t.uid = s.uid
  | .out, s, t => t.out = s.out

/-- The registers that report an event to the host, and the event counters: any command may change them beside its own effect. -/
def Reporting (a : Nat) : Prop :=
  a = Reg.DEV_IRQ_STATUS ∨ a = Reg.SP_PEND ∨ (∃ n, a = Reg.SP_LOST_CNT n) ∨ ∃ n, a = Reg.PF_CNT n

/-- Nothing but the registers `own` and the parts `ps` differs. -/
def Keeps (own : List Nat) (ps : List Part) (s t : State) : Prop :=
  (∀ a, a ∉ own → t.rd a = s.rd a) ∧ ∀ p, p ∉ ps → p.Same s t

/-- Nothing but the registers `own`, the parts `ps` and the report of an event differs. -/
def KeepsRep (own : List Nat) (ps : List Part) (s t : State) : Prop :=
  (∀ a, a ∉ own → ¬ Reporting a → t.rd a = s.rd a) ∧ ∀ p, p ∉ ps ++ [.irq, .spout, .out] → p.Same s t

/-- One register. -/
def RegSet.one (a : Nat) : RegSet := ⟨a, 0, 1, 0, 1⟩

/-- The `n` registers from `a` on, `step` apart. -/
def RegSet.each (a step n : Nat) : RegSet := ⟨a, step, n, 0, 1⟩

/-- Nothing but the registers of the sets `own`, the parts `ps` and the report of an event differs. -/
def KeepsIn (own : List RegSet) (ps : List Part) (s t : State) : Prop :=
  (∀ a, (∀ r ∈ own, ¬ r.Has a) → ¬ Reporting a → t.rd a = s.rd a) ∧ ∀ p, p ∉ ps ++ [.irq, .spout, .out] → p.Same s t

/-! ### Registers that change together -/

/-- What an entry into CALM changes (R40): the fatal cause, the mode, the rings' and engines' replays and a partial image. -/
def Scope.calm : List RegSet :=
  [RegSet.one Reg.DEV_FATAL, RegSet.each (Reg.CD_RING_STATUS 0) 0x100 8, RegSet.each (Reg.CD_RP_STATUS 0) 0x100 8,
    RegSet.one Reg.DEV_MODE, RegSet.one Reg.IMG_STATUS]

/-- What a candidate that comes or goes changes in Vane (R312 to R322), with the status of the ports that follow it. -/
def Scope.vane : List RegSet :=
  [RegSet.each (Reg.PRT_TT_STATUS 0) 0x10000 256, RegSet.one Reg.VN_STATUS, RegSet.one Reg.VN_FLAGS, RegSet.one Reg.VN_PULL,
    RegSet.one Reg.VN_STEER, RegSet.one (Reg.VN_CNT 1), RegSet.one (Reg.VN_CNT 2), RegSet.each (Reg.VN_CAND_STATUS 0) 0x20 11,
    RegSet.one (Reg.VN_CNT 5), RegSet.each (Reg.VN_CAND_FLAGS 0) 0x20 11, RegSet.one (Reg.VN_CNT 3)]

/-- What the loss of a source changes in the Kettle (R243 to R252). -/
def Scope.kettle : List RegSet :=
  [RegSet.one Reg.KT_CH_STATUS, RegSet.one (Reg.KT_CNT 5), RegSet.one Reg.KT_FHT_STATUS, RegSet.one Reg.KT_CH_FLAGS,
    RegSet.each (Reg.KT_CNT 0) 0x8 11, RegSet.each (Reg.KT_DOM_FLAGS 0) 0x100 8, RegSet.each (Reg.KT_DOM_CNT 0 6) 0x100 8,
    RegSet.each (Reg.KT_DOM_STATUS 0) 0x100 8, RegSet.each (Reg.KT_PAIR_STATUS 0) 0x8 4, RegSet.each (Reg.KT_DOM_CNT 0 7) 0x100 8]

/-- What a buffer that is taken or returned changes (R166 to R171). -/
def Scope.buffers : List RegSet :=
  [RegSet.one Reg.KT_CAP_STATUS, RegSet.each (Reg.BPM_POOL_FREE 0) 0x4 5, RegSet.one Reg.BPM_SHARED_FREE,
    RegSet.each (Reg.BPM_CNT 0) 0x8 14]

/-- What frames that leave the fabric and egress queues change: occupancies, launch times, and the counters of their end. -/
def Scope.queues : List RegSet :=
  [RegSet.one Reg.BPM_P0_SPLIT, RegSet.each (Reg.PRT_LT_STATUS 0) 0x10000 256, RegSet.each (Reg.PRT_LT_NEXT 0) 0x10000 256,
    RegSet.one Reg.FAB_VOQ_OCC, RegSet.one Reg.FAB_VOQ_SPILL, RegSet.each (Reg.FAB_RES_OCC 0) 0x4 4]

/-- What the purge of a port's frames and entries counts (R48, R49, R156). -/
def Scope.purge : List RegSet :=
  [RegSet.one Reg.ST_HEALTH, RegSet.each (Reg.SLC_TBL_VER 0) 0x400000 4, RegSet.each (Reg.SLC_CNT 0 6) 0x400000 4,
    RegSet.each (Reg.PRT_FAB_CNT 0 3) 0x10000 256, RegSet.each (Reg.PRT_FAB_CNT 0 2) 0x10000 256,
    RegSet.each (Reg.SLC_CNT 0 14) 0x400000 4, RegSet.each (Reg.PRT_STATE 0) 0x10000 256]

/-- What a port that goes down or up changes: the sum of the six scopes before it. -/
def Scope.link : List RegSet :=
  Scope.calm ++ Scope.vane ++ Scope.kettle ++ Scope.buffers ++ Scope.queues ++ Scope.purge

/-- What a scan that ends changes (R353). -/
def Scope.scans : List RegSet :=
  [RegSet.each (Reg.ST_ENG_RESULT 0) 0x40 8, RegSet.each (Reg.ST_ENG_FLAGS 0) 0x40 8]

/-- What a trigger changes in the Caddy rings (R337). -/
def Scope.freeze : List RegSet :=
  [RegSet.each (Reg.CD_RING_STATUS 0) 0x100 8, RegSet.each (Reg.CD_RING_RANGE 0) 0x100 8, RegSet.each (Reg.CD_RING_FIRST_RSEQ 0) 0x100 8,
    RegSet.each (Reg.CD_RING_LAST_RSEQ 0) 0x100 8, RegSet.each (Reg.CD_RING_TRIG_NS 0) 0x100 8,
    RegSet.each (Reg.CD_RING_TRIG_FRAC 0) 0x100 8, RegSet.each (Reg.CD_RING_TRIG_S_LO 0) 0x100 8,
    RegSet.each (Reg.CD_RING_TRIG_S_HI 0) 0x100 8, RegSet.each (Reg.CD_RING_TRIG_INFO 0) 0x100 8,
    RegSet.each (Reg.CD_RING_CNT 0 5) 0x100 8]

/-- What a stamp that enters a queue changes (R291 to R296). -/
def Scope.stamps : List RegSet :=
  [RegSet.each (Reg.PH_CH_FLAGS 0) 0x80 229, RegSet.each (Reg.PH_SQ_CREDIT 0) 0x80 229, RegSet.each (Reg.PH_CNT 0 0) 0x80 229,
    RegSet.each (Reg.PH_CNT 0 1) 0x80 229]

/-- What an offset that enters a feed changes (R236, R241). -/
def Scope.feed : List RegSet :=
  [RegSet.each (Reg.KT_OFS_CREDIT 0) 0x100 8, RegSet.each (Reg.KT_DOM_CNT 0 4) 0x100 8, RegSet.each (Reg.KT_DOM_CNT 0 2) 0x100 8,
    RegSet.each (Reg.KT_ALM_CFG 0) 0x10 8, RegSet.each (Reg.KT_DOM_CNT 0 5) 0x100 8]

/-- The negotiation and state of lanes and trunks. -/
def Scope.lanes : List RegSet :=
  [RegSet.each (Reg.LN_TRUNK_STATUS 0) 0x4000 256, RegSet.each (Reg.LN_STATUS 0) 0x4000 256]

/-- What an abandoned step of a trunk and lanes that lose their lock count. -/
def Scope.steps : List RegSet :=
  [RegSet.each (Reg.LN_CNT 0 11) 0x4000 256, RegSet.each (Reg.LN_FLAGS 0) 0x4000 256, RegSet.each (Reg.LN_CNT 0 2) 0x4000 256,
    RegSet.each (Reg.LN_CNT 0 4) 0x4000 256, RegSet.each (Reg.LN_CNT 0 3) 0x4000 256, RegSet.each (Reg.LN_CNT 0 5) 0x4000 256]

/-- What a message of the timing engine of a port changes (R262 to R273), with its copy to the host. -/
def Scope.engine : List RegSet :=
  [RegSet.one (Reg.DEV_HI_CNT 3), RegSet.one Reg.DEV_HRX_HEAD, RegSet.one (Reg.DEV_HI_CNT 2),
    RegSet.each (Reg.PRT_TT_CNT 0 14) 0x10000 256, RegSet.each (Reg.PRT_TT_FLAGS 0) 0x10000 256,
    RegSet.each (Reg.PRT_TT_CNT 0 8) 0x10000 256, RegSet.each (Reg.PRT_TT_CNT 0 7) 0x10000 256,
    RegSet.each (Reg.PRT_TT_DELAY_LO 0) 0x10000 256, RegSet.each (Reg.PRT_TT_DELAY_HI 0) 0x10000 256,
    RegSet.each (Reg.PRT_TT_CNT 0 10) 0x10000 256, RegSet.each (Reg.PRT_TT_CNT 0 9) 0x10000 256,
    RegSet.each (Reg.PRT_TT_OFS_LO 0) 0x10000 256, RegSet.each (Reg.PRT_TT_OFS_HI 0) 0x10000 256,
    RegSet.each (Reg.PRT_TT_CNT 0 4) 0x10000 256, RegSet.each (Reg.PRT_TT_CNT 0 5) 0x10000 256,
    RegSet.each (Reg.PRT_TT_NRR 0) 0x10000 256, RegSet.each (Reg.PRT_TT_CNT 0 15) 0x10000 256,
    RegSet.each (Reg.PRT_TT_CNT 0 13) 0x10000 256, RegSet.one (Reg.DEV_HI_CNT 4)]

/-! ### States and outcomes -/

/-- A state in which the host reaches every block (R8, R58). -/
abbrev State.hostOpen (s : State) : Prop := s.mode ≠ Mode.OFF ∧ s.mode ≠ Mode.LULL ∧ s.dev.softHold = false

/-- The core of `t` is at its reset values in mode `m`; DEV_MODE shows the mode, the registers `kept` are not spoken of, and the pin levels are
those of `s` (R58, Table 02.11). -/
def CoreAtReset (m : Nat) (kept : List Nat) (s t : State) : Prop :=
  t.mode = m ∧ t.fld F.DEV_MODE.TARGET = m ∧ t.fld F.DEV_MODE.TRANS = 0 ∧ t.rd Reg.PIN_EVT_LEVEL = s.rd Reg.PIN_EVT_LEVEL ∧
    (∀ a, a ∉ Reg.DEV_MODE :: Reg.PIN_EVT_LEVEL :: kept → t.rd a = Reg.por a) ∧
    ∀ p ∈ [Part.pcie, .irq, .spout, .host, .cfg, .img, .scans, .kettle, .vane, .caddy, .phase, .cal, .slices, .fab, .lines, .tt],
      p.Same State.reset t

/-- The mode of `n` may follow mode `m` in one step (Table 02.2): it stays, a reset or a supply leads to OFF, a soft device reset to LOAD. -/
def ModeNext (m n : Nat) : Prop :=
  n = m ∨ n = Mode.OFF ∨ (n = Mode.LOAD ∧ Mode.LOAD ≤ m) ∨
    (m, n) ∈ [(Mode.OFF, Mode.LULL), (Mode.OFF, Mode.LOAD), (Mode.LULL, Mode.LOAD), (Mode.LOAD, Mode.STEEP), (Mode.LOAD, Mode.PROBE),
      (Mode.STEEP, Mode.BREEZE), (Mode.STEEP, Mode.GALE), (Mode.STEEP, Mode.PROBE), (Mode.BREEZE, Mode.GALE), (Mode.GALE, Mode.BREEZE),
      (Mode.STEEP, Mode.CALM), (Mode.BREEZE, Mode.CALM), (Mode.GALE, Mode.CALM), (Mode.CALM, Mode.GALE), (Mode.CALM, Mode.BREEZE),
      (Mode.CALM, Mode.PROBE), (Mode.BREEZE, Mode.LULL), (Mode.GALE, Mode.LULL), (Mode.CALM, Mode.LULL)]

/-- What holds of the mode fields in every state that a run reaches: STEEP has a target that it may exit to (R37), PROBE is no transition, and
an entry into LULL is a transition out of BREEZE, GALE or CALM (R53). -/
def State.modeSound (s : State) : Prop :=
  (s.mode = Mode.STEEP → s.fld F.DEV_MODE.STEEP_TARGET = Mode.BREEZE ∨ s.fld F.DEV_MODE.STEEP_TARGET = Mode.GALE) ∧
    (s.mode = Mode.PROBE → s.trans = false) ∧
    (s.dev.lullStep ≠ 0 →
      (s.mode = Mode.BREEZE ∨ s.mode = Mode.GALE ∨ s.mode = Mode.CALM) ∧ s.dev.lullFrom = s.mode ∧ s.trans = true ∧
        s.fld F.DEV_MODE.TARGET = Mode.LULL)

/-- An outcome that is a next state satisfying `P`. -/
def NextWith (o : Host.Outcome State Fault Refusal) (P : State → Prop) : Prop := ∃ t, o = .next t ∧ P t

/-- An outcome that is some next state. -/
def Completes (o : Host.Outcome State Fault Refusal) : Prop := ∃ t, o = .next t

end Sys2Proof.Machine
end

