-- ==== Sys2Proof/Certificates/Slice0/Obligations.lean ====
section
/-! DEFINITION. What is claimed of the device, for the provers: first what every step does, then the effect of every command, family by
family in the order of the spec's files. A clause names the conditions under which a command completes, what the next state holds, and what
it keeps: `Keeps own ps s t` says that nothing but the registers `own` and the parts `ps` of the state differs; `KeepsRep` leaves out the report of
an event to the host, and `KeepsIn` names the registers by sets. -/

open Sys2Proof Sys2Proof.Machine

/-- A step runs the command at the front of the queue, and with none waiting one cycle passes. With command c at the front of its queue,
step is exec of c on the state with the rest of the queue; with an empty queue, step answers a next state whose queue is empty and whose
cycle count is one more. It rests on INDEX.md, 95_what_each_step_holds.md, R7. -/
def Obligations.StepRunsTheFrontCommand : Prop :=
  (∀ (s : State) (c : Instr) (q : List Instr), s.pending = c :: q → step s = exec c { s with pending := q }) ∧
  (∀ s : State, s.pending = [] → NextWith (step s) fun t => t.pending = [] ∧ t.cycle = s.cycle + 1)

/-- Reset leaves every register at its POR value, LOAD running, every slice DARK and nothing waiting. State.reset: the mode is LOAD with a
transition to STEEP in progress, every register reads its POR value, every slice is DARK and unpowered, the queue is empty, and the
invariants that steps keep hold. That the model starts in LOAD is the choice of log entry 18. It rests on R33, R34, R46, R47, R58. -/
def Obligations.ResetLeavesTheResetState : Prop :=
  State.reset.mode = Mode.LOAD ∧ State.reset.trans = true ∧ State.reset.fld F.DEV_MODE.TARGET = Mode.STEEP ∧
  (∀ a, State.reset.rd a = Reg.por a) ∧ (∀ i < 4, State.reset.slc i = Slc.DARK ∧ State.reset.powered i = false) ∧ State.reset.pending = [] ∧
  State.reset.pendingWf ∧ State.reset.regsCanonical ∧ State.reset.modeSound

/-- Every command that names what the device has answers a next state, and every other one stops. For every command and state: a
well-formed command has a next state, and one that names a unit that the device does not have is the fault noSuchInstance. So every step
of a well-formed queue has a next state. That a unit outside the device stops by name is the choice of log entry 4. It rests on
00_scope.md, R1, R2, Table 14.10 (14_host_interface.md). -/
def Obligations.WellFormedCommandsComplete : Prop :=
  (∀ (c : Instr) (s : State), (c.wf = true → Completes (exec c s)) ∧ (c.wf = false → exec c s = .fault .noSuchInstance)) ∧
  (∀ s : State, s.pendingWf → Completes (step s))

/-- Every step takes one command and keeps the queue well-formed and the register file canonical. For every state whose queue is
well-formed and whose register file is canonical: if step answers a next state, its queue is the rest of the queue and well-formed, its
register file is canonical, and the cycle count grows exactly when the queue was empty. The queue and the idle cycle are the model's (log
entries 2 and 64). It rests on R6, R58, Table 00.4 (00_scope.md). -/
def Obligations.StepsKeepTheQueueAndTheRegisterFile : Prop :=
  ∀ s t : State, s.pendingWf → s.regsCanonical → step s = .next t →
    t.pendingWf ∧ t.regsCanonical ∧ t.pending = s.pending.tail ∧ t.cycle = s.cycle + (if s.pending = [] then 1 else 0)

/-- The device changes mode only as Table 02.2 states. For every state whose mode fields are sound (STEEP has a target it may exit to,
PROBE is no transition, a LULL entry is a transition out of BREEZE, GALE or CALM): the mode after a step is one that Table 02.2 allows
after the mode before it, and the mode fields are sound again. That the fields are sound at reset is part of
`Obligations.ResetLeavesTheResetState`. It rests on R33, R34, R37, R41, R53, R58, Table 02.2 (02_modes_power_resets.md). -/
def Obligations.ModeChangesOnlyByTable : Prop :=
  ∀ s t : State, s.modeSound → step s = .next t → ModeNext s.mode t.mode ∧ t.modeSound

/-- A Strainer engine changes state only as Table 13.3 states. For every state, step and engine k: if the state of the engine changes, it
is IDLE, or it is SCAN after IDLE, or SCAN after WAIT by SCAN_PERIOD_EXPIRY of k, or WAIT after SCAN. It rests on R58, R353, Table 13.3
(13_integrity_and_recovery.md). -/
def Obligations.StrainerStateChangesOnlyByTable : Prop :=
  ∀ (s t : State) (k : Nat), k < 8 → step s = .next t → t.scanState k ≠ s.scanState k →
    t.scanState k = Scan.IDLE ∨ (t.scanState k = Scan.SCAN ∧ s.scanState k = Scan.IDLE) ∨
    (t.scanState k = Scan.SCAN ∧ s.scanState k = Scan.WAIT ∧ s.pending.head? = some (.scanPeriodExpiry k)) ∨
    (t.scanState k = Scan.WAIT ∧ s.scanState k = Scan.SCAN)

/-- An ERR_STATUS holds the first error, and a later one adds to a saturating overflow count. Recording an error in a block or instance
that has an ERR_STATUS: where it holds none, it takes the code, the offset and the flags of the access; where it holds one, code, offset
and flags stay and the overflow count grows by one, up to 255. It formalises R9. -/
def Obligations.ErrorRegisterHoldsTheFirstError : Prop :=
  ∀ (s : State) (a : Acc) (code : Nat), hasErrStatus a.base = true → 0 < code → code < 256 →
    (s.fld (F.ERR_STATUS.CODE a.base) = 0 →
      (s.recordErr a code).fld (F.ERR_STATUS.CODE a.base) = code ∧ (s.recordErr a code).fld (F.ERR_OFS.OFS a.base) = a.ofs % 2 ^ 26 ∧
      (s.recordErr a code).fld (F.ERR_STATUS.WR a.base) = b2n a.isWrite ∧ (s.recordErr a code).fld (F.ERR_STATUS.ALIAS a.base) = b2n a.viaAlias ∧
      (s.recordErr a code).fld (F.ERR_STATUS.BAR2 a.base) = b2n a.bar2 ∧ (s.recordErr a code).fld (F.ERR_STATUS.OVF a.base) = 0) ∧
    (s.fld (F.ERR_STATUS.CODE a.base) ≠ 0 →
      (s.recordErr a code).fld (F.ERR_STATUS.CODE a.base) = s.fld (F.ERR_STATUS.CODE a.base) ∧
      (s.recordErr a code).rd (Reg.ERR_OFS a.base) = s.rd (Reg.ERR_OFS a.base) ∧
      (s.recordErr a code).fld (F.ERR_STATUS.WR a.base) = s.fld (F.ERR_STATUS.WR a.base) ∧
      (s.recordErr a code).fld (F.ERR_STATUS.ALIAS a.base) = s.fld (F.ERR_STATUS.ALIAS a.base) ∧
      (s.recordErr a code).fld (F.ERR_STATUS.BAR2 a.base) = s.fld (F.ERR_STATUS.BAR2 a.base) ∧
      (s.recordErr a code).fld (F.ERR_STATUS.OVF a.base) = min (s.fld (F.ERR_STATUS.OVF a.base) + 1) 255)

/-- An access that breaks rules records one code, the first of R11, and nothing else changes. A checked host access: among the broken
rules the code that stands first in the order of R11 is the one recorded, the access has no other effect, and a read returns zero; with no
rule broken it acts. It rests on R8, R11, R368. -/
def Obligations.BrokenRulesAreRecordedByPrecedence : Prop :=
  ∀ (s : State) (a : Acc) (checks : List (Bool × Nat)) (act : State → State), s.hostOpen →
    (∀ (before after : List Nat) (c : Nat),
      [Err.BCAST_READ, Err.NOT_PERMITTED, Err.WRONG_MODE, Err.LOCKED, Err.BUSY, Err.RESERVED_FIELD, Err.RANGE, Err.ALIGN, Err.ZERO_LENGTH,
        Err.ILLEGAL_VALUE, Err.NO_CREDIT, Err.STALE] = before ++ c :: after →
      (true, c) ∈ (a.rsv, Err.RESERVED_FIELD) :: (a.badShape, Err.ALIGN) :: checks →
      (∀ x ∈ before, (true, x) ∉ (a.rsv, Err.RESERVED_FIELD) :: (a.badShape, Err.ALIGN) :: checks) →
      s.guard a checks act =
        (if a.isWrite then (s.received a).recordErr a c else ((s.received a).recordErr a c).answer a 0)) ∧
    (a.rsv = false → a.badShape = false → (∀ k ∈ checks, k.1 = false) → s.guard a checks act = act (s.received a))

/-- A supply or reset event leaves the device at its reset values, and power-up starts LOAD. PG_AON_FALL, PG_CORE_MEM_FALL outside LULL
and its entry, and RESET_N_ASSERT put the core at its reset values in OFF; PIN is the cause that RESET_N leaves; POWER_UP_START in OFF
samples the straps and begins LOAD with the target that BOOT_SEL gives, or LULL for BOOT_SEL = 2. It rests on R33, R34, R36, R58, Table
02.11 (02_modes_power_resets.md). Beside the spec it rests on the model's choices of log entries 16, 18, 54. -/
def Obligations.PowerAndResetPinsRestart : Prop :=
  (∀ (s : State),
    NextWith (exec (.pgAonFall) s) fun t =>
      CoreAtReset Mode.OFF [] s t ∧ t.aon = Aon.fresh) ∧
  (∀ (s : State) (core mem : Bool),
    (core || mem) = true → s.mode ≠ Mode.OFF → s.mode ≠ Mode.LULL → s.dev.lullStep ≠ 3 →
    NextWith (exec (.pgCoreMemFall core mem) s) fun t =>
      CoreAtReset Mode.OFF [] s t ∧ t.dev.pgCore = (s.dev.pgCore && !core) ∧ t.dev.pgMem = (s.dev.pgMem && !mem)) ∧
  (∀ (s : State),
    NextWith (exec (.resetNAssert) s) fun t =>
      CoreAtReset Mode.OFF [Reg.DEV_RST_CAUSE] s t ∧ t.fld F.DEV_RST_CAUSE.PIN = 1 ∧ t.dev.resetN = false) ∧
  (∀ (s : State) (b : BitVec 2),
    s.mode = Mode.OFF → b ≠ 2 →
    NextWith (exec (.powerUpStart b true true) s) fun t =>
      t.mode = Mode.LOAD ∧ t.fld F.DEV_MODE.TRANS = 1 ∧ (t.fld F.DEV_MODE.TARGET = (if b = 3 then Mode.PROBE else Mode.STEEP)) ∧
      t.dev.bootSel = b.toNat ∧ (b = 1 → t.fld F.IMG_STATUS.SOURCE = 2) ∧ Keeps [Reg.DEV_MODE, Reg.IMG_STATUS] [.dev] s t) ∧
  (∀ (s : State) (core mem : Bool),
    s.mode = Mode.OFF →
    NextWith (exec (.powerUpStart 2 core mem) s) fun t =>
      t.mode = Mode.LULL ∧ t.dev.pgCore = core ∧ t.dev.pgMem = mem ∧ Keeps [Reg.DEV_MODE] [.dev] s t)

/-- A soft device reset restarts LOAD, and a slice reset puts its slice into RECONF. SOFT_DEVICE_RESET with its key restarts LOAD, marks
SOFT and holds time until the handover; SLICE_RESET of one slice outside DARK, with none in RECONF, puts it into RECONF; SLICE_RESET_DONE
makes it ACTIVE when its tables could be filled from the held image, else FAULT. Beside this, each clause names the registers and parts
that may change; everything else is kept. It rests on R56, R58, R59, Table 02.5 (02_modes_power_resets.md), Table 02.11
(02_modes_power_resets.md). Beside the spec it rests on the model's choices of log entry 54. -/
def Obligations.SoftAndSliceResetsTakeTheirScope : Prop :=
  (∀ (s : State),
    s.hostOpen → bitAt s.dev.conds Fatal.AON_CLK = false →
    NextWith (exec (.softDeviceReset 0x5AFE) s) fun t =>
      t.mode = Mode.LOAD ∧ t.fld F.DEV_MODE.TRANS = 1 ∧ t.fld F.DEV_RST_CAUSE.SOFT = 1 ∧ t.dev.softHold = true ∧
      t.pcie = s.pcie ∧ t.lines = Lines.fresh ∧ t.fab = Fabric.fresh ∧
      (∀ a, a ∉ [Reg.DEV_MODE, Reg.DEV_RST_CAUSE, Reg.DEV_WAKE_CFG, Reg.DEV_WAKE_SRC, Reg.KT_CH_STATUS, Reg.PIN_EVT_LEVEL, Reg.IMG_STATUS] → (a < 0x8000 ∨ 0xA000 ≤ a) → (a < Reg.CD_RING_CFG 0 ∨ Reg.CD_RP_CFG 0 ≤ a) → t.rd a = Reg.por a) ∧
      (∀ a, 0x8000 ≤ a → a < 0xA000 → t.rd a = s.rd a) ∧ t.irq.pba = s.irq.pba ∧
      (∀ p ∈ [Part.spout, .host, .cfg, .scans, .kettle, .vane, .phase, .cal, .slices, .tt], p.Same State.reset t)) ∧
  (∀ (s : State) (i : Nat) (mask : BitVec 4),
    i < 4 → bitList 4 mask.toNat = [i] → s.hostOpen → s.slc i ≠ Slc.DARK → s.anyReconf = false → s.partFetching = false →
    s.slcStep i = 0 → s.fld F.ST_HEALTH.SHADOW_BAD = 0 →
    NextWith (exec (.sliceReset mask 0x5AFE) s) fun t =>
      t.slc i = Slc.RECONF ∧ (∀ j < 4, j ≠ i → t.slc j = s.slc j) ∧ t.mode = s.mode ∧
      KeepsIn (Scope.scans ++ [RegSet.one Reg.DEV_SLC_STATE]) [.dev, .scans, .slices] s t) ∧
  (∀ (s : State) (i : Nat),
    i < 4 → s.slc i = Slc.RECONF → s.partApplying i = false → s.fld F.ST_HEALTH.SHADOW_BAD = 0 →
    NextWith (exec (.sliceResetDone i) s) fun t =>
      (t.slc i = (if (s.reapply i).2 then Slc.ACTIVE else Slc.FAULT)) ∧
      KeepsIn (Scope.scans ++ [RegSet.each (Reg.CD_RING_STATUS 0) 0x100 8, RegSet.one Reg.DEV_MODE, RegSet.one Reg.ST_HEALTH, RegSet.one (Reg.SLC_CNT i 13), RegSet.one (Reg.SLC_CNT i 7), RegSet.one (Reg.SLC_CARVE i), RegSet.one Reg.DEV_SLC_STATE, RegSet.each (Reg.SLC_FLAT i 1) 4 255, RegSet.one (Reg.SLC_AGE i), RegSet.one (Reg.SLC_MOVE i), RegSet.one (Reg.SLC_LEARN i)]) [.dev, .scans, .caddy, .slices] s t)

/-- The AON timekeeper takes, measures and hands over time. AON_CLK_ABSENT marks the clock absent and sets its fatal bit, AON_CLK_RETURN
ends the condition; AON_RATE_MEASURE sets the copies of a domain that is not DERIVED to the increment by which its published time advanced
in each counted cycle (the rounding is free, log entry 3); LULL_COMMIT copies the counters of healthy channels, a DERIVED domain as its
offset and rate ratio to domain 0; AON_HANDOVER loads each counter with what its copy stands for, advanced by the measured interval, and
ends the hold. Beside this, each clause names the registers and parts that may change; everything else is kept. It rests on R50, R51, R52,
R53, R56. Beside the spec it rests on the model's choices of log entries 3, 51. -/
def Obligations.AonTimekeeperKeepsTime : Prop :=
  (∀ (s : State),
    s.mode ≠ Mode.OFF →
    NextWith (exec (.aonClkAbsent) s) fun t =>
      t.aon.clkAbsent = true ∧ t.fldBit ⟨Reg.DEV_FATAL, 31, 0⟩ Fatal.AON_CLK = true ∧
      (s.mode = Mode.LULL → t.mode = Mode.LULL) ∧ KeepsIn Scope.calm [.dev, .aon, .slices] s t) ∧
  (∀ (s : State),
    NextWith (exec (.aonClkReturn) s) fun t =>
      t.aon.clkAbsent = false ∧ bitAt t.dev.conds Fatal.AON_CLK = false ∧ Keeps [] [.dev, .aon] s t) ∧
  (∀ (s : State) (n d ch went : Nat),
    s.kettleRuns = true → 0 < n → ((n : Int) - 10000000).natAbs ≤ 2000 → d ∈ s.domains → s.isDerived d = false → ch < 3 →
    (s.published d + ctrMod - s.aon.win.getD d (s.published d)) % ctrMod = went → went ≠ 0 →
    NextWith (exec (.aonRateMeasure n) s) fun t =>
      (∃ r < 2, (t.aon.copies.getD (ch * 8 + d) AonCopy.fresh).inc = (went / n + r) % 2 ^ 56) ∧
      (t.aon.copies.getD (ch * 8 + d) AonCopy.fresh).drv = none ∧ t.aon.win.getD d 0 = s.published d ∧
      t.aon.clkAbsent = s.aon.clkAbsent ∧ Keeps [] [.aon, .freeCtr] s t) ∧
  (∀ (s : State) (k : Nat),
    s.dev.lullStep = 2 → k ∈ s.timeKeys → s.healthy (k / 8) = true → s.aonRatio (k % 8) = none →
    NextWith (exec (.lullCommit) s) fun t =>
      t.dev.lullStep = 3 ∧ t.aon.holds = true ∧ (t.aon.copies.getD k AonCopy.fresh).ctr = (s.ktDom (k / 8) (k % 8)).ctr ∧
      (t.aon.copies.getD k AonCopy.fresh).drv = none ∧ Keeps [] [.dev, .aon] s t) ∧
  (∀ (s : State) (k : Nat) (r : Int),
    s.dev.lullStep = 2 → k ∈ s.timeKeys → s.healthy (k / 8) = true → s.aonRatio (k % 8) = some r →
    NextWith (exec (.lullCommit) s) fun t =>
      t.dev.lullStep = 3 ∧
      (t.aon.copies.getD k AonCopy.fresh).drv = some (((s.ktDom (k / 8) (k % 8)).ctr : Int) - ((s.ktDom (k / 8) 0).ctr : Int), r) ∧
      Keeps [] [.dev, .aon] s t) ∧
  (∀ (s : State) (phi k : Nat),
    s.dev.softHold = true → s.aon.clkAbsent = false → (s.aon.copies.get? k).isSome = true →
    NextWith (exec (.aonHandover phi) s) fun t =>
      t.dev.softHold = false ∧
      (∃ r < 2, (t.ktDom (k / 8) (k % 8)).ctr = ((s.aon.value k (s.aon.copies.getD k AonCopy.fresh)).1 + (s.aon.value k (s.aon.copies.getD k AonCopy.fresh)).2 * phi / (100 * 2 ^ 16) + r) % ctrMod) ∧
      Keeps [] [.dev, .kettle, .freeCtr] s t) ∧
  (∀ (s : State) (phi : Nat),
    s.mode = Mode.LULL → s.dev.wakeStep = 3 → s.dev.softHold = false →
    NextWith (exec (.aonHandover phi) s) fun t =>
      t.mode = Mode.LOAD ∧ t.fld F.DEV_MODE.TRANS = 1 ∧ t.fld F.DEV_RST_CAUSE.WAKE = 1 ∧ t.dev.wakeStep = 0 ∧
      KeepsIn (Scope.calm ++ [RegSet.one Reg.DEV_RST_CAUSE]) [.dev, .kettle, .aon, .slices, .freeCtr] s t)

/-- The entry into LULL and the exit from it go through their steps. MODE_REQ_LULL with a wake source enabled begins the entry;
LULL_DRAIN_DONE and LULL_SHUTDOWN_DONE take its steps, the last leaving only the AON domain; WAKE_EVENT latches its sources and starts the
exit, or abandons an entry before step 3; LULL_RAIL_TIMEOUT leaves the device in LULL with RAIL_FAIL; WAKE_RAILS_GOOD and WAKE_PLL_LOCKED
go on. Beside this, each clause names the registers and parts that may change; everything else is kept. It rests on R35, R53, R54, R55,
Table 02.7 (02_modes_power_resets.md), Table 02.8 (02_modes_power_resets.md). Beside the spec it rests on the model's choices of log
entries 17, 51, 53. -/
def Obligations.LullIsEnteredAndLeft : Prop :=
  (∀ (s : State),
    s.hostOpen → (s.mode = Mode.BREEZE ∨ s.mode = Mode.GALE ∨ s.mode = Mode.CALM) → s.trans = false → s.wakeEnabled = true →
    s.anyReconf = false →
    NextWith (exec (.modeReqLull) s) fun t =>
      t.mode = s.mode ∧ t.fld F.DEV_MODE.TARGET = Mode.LULL ∧ t.fld F.DEV_MODE.TRANS = 1 ∧ t.dev.lullStep = 1 ∧
      t.dev.lullFrom = s.mode ∧ KeepsRep [Reg.DEV_MODE] [.dev] s t) ∧
  (∀ (s : State),
    s.dev.lullStep = 1 →
    NextWith (exec (.lullDrainDone) s) fun t =>
      t.dev.lullStep = 2 ∧ t.dev.calmMark = s.uid ∧ t.mode = s.mode ∧
      KeepsIn (Scope.buffers ++ Scope.queues ++ Scope.freeze ++ [⟨Reg.CD_RING_CNT 0 0, 0x100, 8, 0x8, 8⟩, RegSet.each (Reg.CD_RP_STATUS 0) 0x100 8, RegSet.each (Reg.PRT_FAB_CNT 0 6) 0x10000 256]) [.dev, .host, .scans, .kettle, .aon, .caddy, .fab] s t) ∧
  (∀ (s : State),
    s.dev.lullStep = 3 →
    NextWith (exec (.lullShutdownDone) s) fun t =>
      t.mode = Mode.LULL ∧ t.dev.lullStep = 0 ∧ t.dev.wakeStep = b2n s.dev.wakeLatched ∧ t.aon = s.aon ∧
      t.rd Reg.DEV_WAKE_CFG = s.rd Reg.DEV_WAKE_CFG ∧ t.rd Reg.DEV_WAKE_SRC = s.rd Reg.DEV_WAKE_SRC ∧ t.fab = Fabric.fresh ∧
      t.kettle = Kettle.fresh ∧
      CoreAtReset Mode.LULL [Reg.DEV_RST_CAUSE, Reg.DEV_WAKE_CFG, Reg.DEV_WAKE_SRC, Reg.KT_CH_STATUS, Reg.DEV_FATAL] s t) ∧
  (∀ (s : State) (lanes : BitVec 8) (evts : BitVec 4) (w v : Bool),
    s.mode = Mode.LULL → lanes.toNat &&& s.fld F.DEV_WAKE_CFG.LANE_EN ≠ 0 →
    NextWith (exec (.wakeEvent lanes evts w v) s) fun t =>
      t.fld F.DEV_WAKE_SRC.LANE = s.fld F.DEV_WAKE_SRC.LANE ||| (lanes.toNat &&& s.fld F.DEV_WAKE_CFG.LANE_EN) ∧
      t.fld F.DEV_WAKE_SRC.EVT = s.fld F.DEV_WAKE_SRC.EVT ||| (evts.toNat &&& s.fld F.DEV_WAKE_CFG.EVT_EN) ∧
      t.dev.wakeStep = max s.dev.wakeStep 1 ∧ Keeps [Reg.DEV_WAKE_SRC] [.dev] s t) ∧
  (∀ (s : State) (lanes : BitVec 8) (evts : BitVec 4) (v : Bool),
    s.mode ≠ Mode.LULL → (s.dev.lullStep = 1 ∨ s.dev.lullStep = 2) → s.dev.lullFrom < 8 → s.fld F.DEV_WAKE_CFG.WAKE_IN_EN = 1 →
    NextWith (exec (.wakeEvent lanes evts true v) s) fun t =>
      t.mode = s.dev.lullFrom ∧ t.fld F.DEV_MODE.TARGET = s.dev.lullFrom ∧ t.fld F.DEV_MODE.TRANS = 0 ∧ t.dev.lullStep = 0 ∧
      t.fld F.DEV_WAKE_SRC.WAKE_IN = 1 ∧ KeepsIn [RegSet.one Reg.DEV_MODE, RegSet.one Reg.DEV_WAKE_SRC] [.dev] s t) ∧
  (∀ (s : State) (lanes : BitVec 8) (evts : BitVec 4) (v : Bool),
    s.mode ≠ Mode.LULL → s.dev.lullStep = 3 → s.fld F.DEV_WAKE_CFG.WAKE_IN_EN = 1 →
    NextWith (exec (.wakeEvent lanes evts true v) s) fun t =>
      t.dev.wakeLatched = true ∧ t.mode = s.mode ∧ t.fld F.DEV_WAKE_SRC.WAKE_IN = 1 ∧ Keeps [Reg.DEV_WAKE_SRC] [.dev] s t) ∧
  (∀ (s : State),
    s.mode = Mode.LULL → s.dev.wakeStep = 1 →
    NextWith (exec (.lullRailTimeout) s) fun t =>
      t.mode = Mode.LULL ∧ t.fld F.DEV_WAKE_SRC.RAIL_FAIL = 1 ∧ t.dev.wakeStep = 0 ∧ Keeps [Reg.DEV_WAKE_SRC] [.dev] s t) ∧
  (∀ (s : State),
    s.mode = Mode.LULL → s.dev.wakeStep = 1 →
    NextWith (exec (.wakeRailsGood) s) fun t =>
      t.dev.wakeStep = 2 ∧ t.dev.pgCore = true ∧ t.dev.pgMem = true ∧ Keeps [] [.dev] s t) ∧
  (∀ (s : State),
    s.mode = Mode.LULL → s.dev.wakeStep = 2 →
    NextWith (exec (.wakePllLocked) s) fun t =>
      t.dev.wakeStep = 3 ∧ t.mode = Mode.LULL ∧ Keeps [] [.dev] s t)

/-- A mode request that no rule refuses acts at once or begins its transition. MODE_REQ_BREEZE makes the ACTIVE slices outside the BREEZE
set drain, MODE_REQ_GALE powers every slice that is DARK, both with TARGET naming the mode; in STEEP the request only sets the target;
MODE_REQ_CALM sets the HOST bit of DEV_FATAL and enters CALM; MODE_REQ_PROBE powers every slice, where the fuse does not lock it. Beside
this, each clause names the registers and parts that may change; everything else is kept. It rests on R33, R34, R40, R42, R44, R45, R420,
Table 02.3 (02_modes_power_resets.md). Beside the spec it rests on the model's choices of log entries 19, 52, 53. -/
def Obligations.ModeRequestsAct : Prop :=
  (∀ (s : State) (i : Nat),
    i < 4 → s.hostOpen → s.mode = Mode.GALE → s.trans = false → s.breezeBusy = false →
    (∀ j < 4, s.slc j = Slc.DARK → s.powered j = false) → s.inMode Mode.BREEZE i = false → s.slc i ≠ Slc.DARK →
    NextWith (exec (.modeReqBreeze) s) fun t =>
      t.fld F.DEV_MODE.TARGET = Mode.BREEZE ∧ t.slcStep i = 2 ∧ t.slc i = s.slc i ∧ t.mode = Mode.GALE ∧
      t.fld F.DEV_MODE.TRANS = 1 ∧
      KeepsIn [RegSet.each (Reg.CD_RING_STATUS 0) 0x100 8, RegSet.one Reg.DEV_MODE, RegSet.one Reg.DEV_SLC_STATE] [.dev, .caddy, .slices] s t) ∧
  (∀ (s : State),
    s.hostOpen → s.mode = Mode.STEEP → s.trans = false → s.breezeBusy = false →
    (∀ j < 4, s.inMode Mode.BREEZE j = s.powered j) →
    NextWith (exec (.modeReqBreeze) s) fun t =>
      t.fld F.DEV_MODE.STEEP_TARGET = Mode.BREEZE ∧ t.mode = Mode.STEEP ∧ KeepsRep [Reg.DEV_MODE] [] s t) ∧
  (∀ (s : State) (i : Nat),
    i < 4 → s.hostOpen → s.mode = Mode.BREEZE → s.trans = false → s.slc i = Slc.DARK →
    NextWith (exec (.modeReqGale) s) fun t =>
      t.fld F.DEV_MODE.TARGET = Mode.GALE ∧ t.fld F.DEV_MODE.TRANS = 1 ∧ t.mode = Mode.BREEZE ∧ t.powered i = true ∧
      t.slcStep i = 1 ∧ t.slc i = Slc.DARK ∧
      KeepsIn [RegSet.each (Reg.CD_RING_STATUS 0) 0x100 8, RegSet.one Reg.DEV_MODE, RegSet.one Reg.DEV_SLC_STATE] [.dev, .caddy] s t) ∧
  (∀ (s : State),
    s.hostOpen → (s.mode = Mode.STEEP ∨ s.mode = Mode.BREEZE ∨ s.mode = Mode.GALE) → s.trans = false →
    NextWith (exec (.modeReqCalm) s) fun t =>
      t.mode = Mode.CALM ∧ t.fld F.DEV_MODE.TARGET = Mode.CALM ∧ t.fld F.DEV_MODE.TRANS = 0 ∧
      t.fldBit ⟨Reg.DEV_FATAL, 31, 0⟩ Fatal.HOST = true ∧ t.dev.calmDrop = true ∧ t.dev.calmMark = s.uid ∧
      KeepsIn Scope.calm [.dev, .slices] s t) ∧
  (∀ (s : State) (i : Nat),
    i < 4 → s.hostOpen → (s.mode = Mode.STEEP ∨ s.mode = Mode.CALM) → s.trans = false →
    NextWith (exec (.modeReqProbe) s) fun t =>
      (Config.dbgLock = false → t.mode = Mode.PROBE ∧ t.fld F.DEV_MODE.TRANS = 0 ∧ t.powered i = true) ∧
      (Config.dbgLock = true → t.mode = s.mode ∧ KeepsRep [Reg.ERR_STATUS Base.DEV, Reg.ERR_OFS Base.DEV] [] s t))

/-- A fatal cause enters CALM, halts the loader, or leaves the mode. CORE_PLL_LOSS and SUPPLY_OUT_OF_RANGE of a watched rail set their bit
of DEV_FATAL; in STEEP, BREEZE and GALE the device is then in CALM, in LOAD the loader is halted, and in PROBE the mode stays. ALARM_N is
low. CALM_DROP_DONE ends the dropping of the frames that CALM found. Beside this, each clause names the registers and parts that may
change; everything else is kept. It rests on R30, R40, R41, R406. Beside the spec it rests on the model's choices of log entries 32, 50. -/
def Obligations.FatalCausesActByMode : Prop :=
  (∀ (s : State),
    (s.mode = Mode.STEEP ∨ s.mode = Mode.BREEZE ∨ s.mode = Mode.GALE) → s.dev.lullStep < 3 →
    NextWith (exec (.corePllLoss) s) fun t =>
      t.mode = Mode.CALM ∧ t.fld F.DEV_MODE.TRANS = 0 ∧ t.fldBit ⟨Reg.DEV_FATAL, 31, 0⟩ Fatal.CORE_PLL = true ∧
      t.alarmLow = true ∧ t.dev.calmDrop = true ∧ t.dev.calmMark = s.uid ∧ KeepsIn Scope.calm [.dev, .slices] s t) ∧
  (∀ (s : State),
    s.mode = Mode.LOAD →
    NextWith (exec (.corePllLoss) s) fun t =>
      t.mode = Mode.LOAD ∧ t.dev.loadHalted = true ∧ t.fldBit ⟨Reg.DEV_FATAL, 31, 0⟩ Fatal.CORE_PLL = true ∧
      KeepsRep [Reg.DEV_FATAL] [.dev] s t) ∧
  (∀ (s : State),
    s.mode = Mode.PROBE →
    NextWith (exec (.corePllLoss) s) fun t =>
      t.mode = Mode.PROBE ∧ t.fldBit ⟨Reg.DEV_FATAL, 31, 0⟩ Fatal.CORE_PLL = true ∧ t.alarmLow = true ∧
      KeepsRep [Reg.DEV_FATAL] [] s t) ∧
  (∀ (s : State) (r : Nat) (high : Bool),
    r < 7 → s.railWatched r = true → (s.mode = Mode.STEEP ∨ s.mode = Mode.BREEZE ∨ s.mode = Mode.GALE) → s.dev.lullStep < 3 →
    NextWith (exec (.supplyOutOfRange r high) s) fun t =>
      t.mode = Mode.CALM ∧ t.fldBit ⟨Reg.DEV_FATAL, 31, 0⟩ Fatal.SUPPLY = true ∧
      (t.fldBit (if high then F.DEV_PWR_FLAGS.OVER else F.DEV_PWR_FLAGS.UNDER) r = true) ∧ bitAt t.dev.rails r = true ∧
      KeepsIn (Scope.calm ++ [RegSet.one Reg.DEV_PWR_FLAGS]) [.dev, .slices] s t) ∧
  (∀ (s : State),
    s.dev.calmDrop = true →
    NextWith (exec (.calmDropDone) s) fun t =>
      t.dev.calmDrop = false ∧ t.mode = s.mode ∧
      KeepsIn (Scope.buffers ++ Scope.queues ++ [RegSet.each (Reg.CD_RP_STATUS 0) 0x100 8, RegSet.each (Reg.PRT_FAB_CNT 0 6) 0x10000 256]) [.dev, .host, .kettle, .fab] s t)

/-- STEEP goes through its conditions to the target mode, and a slice drains to DARK and comes back. STEEP_PLLS_LOCKED starts Vane,
ACQUISITION_LIMIT_EXPIRY ends the wait for domains once the oscillator is warm, OCXO_WARM_RISE and OCXO_WARM_FALL follow the pin;
STEEP_EXIT with every condition of Table 02.4 enters the target mode, makes the powered DARK slices ACTIVE and starts the idle rings.
SLICE_DRAIN_DONE of an empty slice and SLICE_DRAIN_LIMIT_EXPIRY remove its power; SLICE_POWER_UP_DONE fills its tables from the held
image, and once its channels are calibrated the slice is ACTIVE, or FAULT where the tables cannot be filled; in STEEP it stays DARK up to
the exit. Beside this, each clause names the registers and parts that may change; everything else is kept. It rests on R37, R46, R233,
R330, Table 02.4 (02_modes_power_resets.md), R42, R44, R45, R358, Table 02.5 (02_modes_power_resets.md). Beside the spec it rests on the
model's choices of log entries 17, 52. -/
def Obligations.SteepEndsAndSlicesDrainAndReturn : Prop :=
  (∀ (s : State),
    s.mode = Mode.STEEP → s.dev.steepPlls = false → (∀ p ∈ s.ports, s.operUp p = false) →
    NextWith (exec (.steepPllsLocked) s) fun t =>
      t.dev.steepPlls = true ∧ t.vane.started = true ∧ t.mode = Mode.STEEP ∧
      KeepsIn (Scope.link ++ Scope.lanes ++ [RegSet.each (Reg.KT_FREQ 0) 0x100 8, RegSet.one Reg.VN_HO_WORD, RegSet.each (Reg.VN_CAND_FREQ 0) 0x20 11, RegSet.each (Reg.LN_EYE 0) 0x4000 256]) [.dev, .host, .scans, .kettle, .vane, .phase, .slices, .fab, .lines, .tt, .freeCtr] s t) ∧
  (∀ (s : State),
    s.mode = Mode.STEEP → s.warm = true →
    NextWith (exec (.acquisitionLimitExpiry) s) fun t =>
      t.dev.acqExpired = true ∧ Keeps [] [.dev] s t) ∧
  (∀ (s : State) (i n : Nat),
    s.mode = Mode.STEEP → s.steepReady = true → i < 4 → n < 8 → s.powered i = true → s.slc i = Slc.DARK →
    s.ringState n = Ring.IDLE →
    NextWith (exec (.steepExit) s) fun t =>
      t.mode = s.fld F.DEV_MODE.STEEP_TARGET ∧ t.fld F.DEV_MODE.TRANS = 0 ∧ t.slc i = Slc.ACTIVE ∧
      t.ringState n = Ring.RUNNING ∧
      KeepsIn (Scope.scans ++ [RegSet.each (Reg.CD_RING_STATUS 0) 0x100 8, RegSet.one Reg.DEV_MODE, RegSet.one Reg.ST_HEALTH, RegSet.one Reg.DEV_SLC_STATE]) [.dev, .scans, .caddy, .slices] s t) ∧
  (∀ (s : State) (i : Nat),
    i < 4 → s.slcStep i = 2 → s.sliceEmpty i = true →
    NextWith (exec (.sliceDrainDone i) s) fun t =>
      t.slc i = Slc.DARK ∧ t.powered i = false ∧
      KeepsIn (Scope.link ++ Scope.scans ++ Scope.lanes ++ [RegSet.each (Reg.KT_FREQ 0) 0x100 8, RegSet.each (Reg.PH_CH_STATUS 0) 0x80 229, RegSet.each (Reg.PH_ROT_STATUS 0) 0x4 5, RegSet.one Reg.DEV_SLC_STATE]) [.dev, .host, .scans, .kettle, .vane, .caddy, .phase, .slices, .fab, .lines, .tt, .freeCtr] s t) ∧
  (∀ (s : State) (i : Nat),
    i < 4 → s.slcStep i = 2 →
    NextWith (exec (.sliceDrainLimitExpiry i) s) fun t =>
      t.slc i = Slc.DARK ∧ t.powered i = false ∧
      KeepsIn (Scope.link ++ Scope.scans ++ Scope.lanes ++ [RegSet.each (Reg.KT_FREQ 0) 0x100 8, RegSet.each (Reg.PH_CH_STATUS 0) 0x80 229, RegSet.each (Reg.PH_ROT_STATUS 0) 0x4 5, RegSet.each (Reg.PRT_FAB_CNT 0 6) 0x10000 256, RegSet.one Reg.DEV_SLC_STATE]) [.dev, .host, .scans, .kettle, .vane, .caddy, .phase, .slices, .fab, .lines, .tt, .freeCtr] s t) ∧
  (∀ (s : State) (i : Nat) (cal : CalFlash),
    i < 4 → s.slcStep i = 1 → (s.mode = Mode.STEEP ∨ s.sliceCalibrated i = true) → s.fld F.ST_HEALTH.SHADOW_BAD = 0 →
    NextWith (exec (.slicePowerUpDone i cal) s) fun t =>
      (t.slc i = (if (s.reapply i).2 then (if s.mode = Mode.STEEP then Slc.DARK else Slc.ACTIVE) else Slc.FAULT)) ∧
      KeepsIn (Scope.link ++ Scope.scans ++ Scope.lanes ++ [RegSet.each (Reg.KT_FREQ 0) 0x100 8, RegSet.each (Reg.SLC_CNT 0 13) 0x400000 4, RegSet.each (Reg.SLC_CNT 0 7) 0x400000 4, RegSet.each (Reg.PRT_GCL_STATUS 0) 0x10000 256, RegSet.each (Reg.LN_EYE 0) 0x4000 256, RegSet.one Reg.PH_CAL_STATUS, RegSet.one (Reg.SLC_CARVE i), RegSet.one Reg.DEV_SLC_STATE, RegSet.each (Reg.SLC_FLAT i 1) 4 255, RegSet.one (Reg.SLC_AGE i), RegSet.one (Reg.SLC_MOVE i), RegSet.one (Reg.SLC_LEARN i)]) [.dev, .host, .scans, .kettle, .vane, .caddy, .phase, .cal, .slices, .fab, .lines, .tt, .freeCtr] s t)

/-- A fetched image is checked, and placed only if every check passes. IMAGE_FETCH_COMPLETE with an image that fails a check falls back
from flash copy A to copy B, from copy B to the host, and ends a host load in FAILED with the code and the check; with an image that
passes every check up to 14 and whose records are all placed, the device holds it, shows DONE and enters STEEP, or PROBE where the boot
straps ask for it and the fuse allows it (else the load ends in LOCKED); where a record is not placed, the load fails as check 15.
LOADER_WATCHDOG_EXPIRY ends the fetch from each source as a failed one with check number 0. SHADOW_COPY copies the held image, once.
Beside this, each clause names the registers and parts that may change; everything else is kept (of an image, where it is rejected). It
rests on R80, R81, R82, R359, Table 03.18 (03_damivo_image.md), Table 03.19 (03_damivo_image.md). Beside the spec it rests on the model's
choices of log entries 6, 12, 13, 15. -/
def Obligations.LoaderJudgesAndPlacesImages : Prop :=
  (∀ (s : State) (src : ImgSource) (img : List Byte) (cal : CalFlash),
    s.loadAwaits src = true → (src = .host ∨ s.host.flashTail = false) →
    NextWith (exec (.imageFetchComplete src img cal) s) fun t =>
      (∀ f, imgCheck img ⟨if src = .host then s.fld F.IMG_HOST_LEN.LEN else img.length, none, []⟩ = some f → src = .flashA → t.fld F.IMG_STATUS.FALLBACK = 1 ∧ t.fld F.IMG_STATUS.SOURCE = 1 ∧ t.fld F.IMG_STATUS.STATE = ImgSt.FETCH ∧ t.mode = s.mode) ∧
      (∀ f, imgCheck img ⟨if src = .host then s.fld F.IMG_HOST_LEN.LEN else img.length, none, []⟩ = some f → src = .flashB → t.fld F.IMG_STATUS.STATE = ImgSt.WAIT_HOST ∧ t.fld F.IMG_STATUS.CODE = f.code % 256 ∧ t.mode = s.mode) ∧
      (∀ f, imgCheck img ⟨if src = .host then s.fld F.IMG_HOST_LEN.LEN else img.length, none, []⟩ = some f → src = .host → t.fld F.IMG_STATUS.STATE = ImgSt.FAILED ∧ t.fld F.IMG_STATUS.CODE = f.code % 256 ∧ t.fld F.IMG_DETAIL.CHECK = f.check % 256 ∧ t.mode = s.mode) ∧
      (imgCheck img ⟨if src = .host then s.fld F.IMG_HOST_LEN.LEN else img.length, none, []⟩ = none → s.dev.bootSel ≠ 3 → ((((s.discover src).setFld F.IMG_STATUS.SOURCE (imgSourceCode src)).setFld F.IMG_STATUS.DEV_KEY (b2n (Config.keyHash == 0))).applyImage img cal).2 = none → t.mode = Mode.STEEP ∧ t.img.held = img ∧ t.fld F.IMG_STATUS.STATE = ImgSt.DONE ∧ t.fld F.IMG_STATUS.CODE = 0) ∧
      (imgCheck img ⟨if src = .host then s.fld F.IMG_HOST_LEN.LEN else img.length, none, []⟩ = none → s.dev.bootSel ≠ 3 → ((((s.discover src).setFld F.IMG_STATUS.SOURCE (imgSourceCode src)).setFld F.IMG_STATUS.DEV_KEY (b2n (Config.keyHash == 0))).applyImage img cal).2 ≠ none → t.mode = s.mode ∧ t.fld F.IMG_STATUS.STATE = (if src = .flashA then ImgSt.FETCH else if src = .flashB then ImgSt.WAIT_HOST else ImgSt.FAILED)) ∧
      (imgCheck img ⟨if src = .host then s.fld F.IMG_HOST_LEN.LEN else img.length, none, []⟩ = none → s.dev.bootSel = 3 → Config.dbgLock = true → t.mode = s.mode ∧ t.fld F.IMG_STATUS.STATE = ImgSt.FAILED ∧ t.fld F.IMG_STATUS.CODE = Err.LOCKED) ∧
      (imgCheck img ⟨if src = .host then s.fld F.IMG_HOST_LEN.LEN else img.length, none, []⟩ = none → s.dev.bootSel = 3 → Config.dbgLock = false → ((((s.discover src).setFld F.IMG_STATUS.SOURCE (imgSourceCode src)).setFld F.IMG_STATUS.DEV_KEY (b2n (Config.keyHash == 0))).applyImage img cal).2 = none → t.mode = Mode.PROBE ∧ t.img.held = img ∧ t.fld F.IMG_STATUS.STATE = ImgSt.DONE) ∧
      (∀ f, imgCheck img ⟨if src = .host then s.fld F.IMG_HOST_LEN.LEN else img.length, none, []⟩ = some f → KeepsIn [RegSet.one Reg.IMG_STATUS, RegSet.one Reg.IMG_DETAIL, RegSet.one Reg.IMG_DETAIL_OFS, RegSet.one Reg.DEV_FLASH_INFO] [.host, .freeCtr] s t)) ∧
  (∀ (s : State),
    s.loadAwaits .flashA = true →
    NextWith (exec (.loaderWatchdogExpiry) s) fun t =>
      t.rd (Reg.ST_WD_CNT 8) = s.rd (Reg.ST_WD_CNT 8) + 1 ∧ t.mode = s.mode ∧ t.fld F.IMG_STATUS.FALLBACK = 1 ∧
      t.fld F.IMG_STATUS.SOURCE = 1 ∧ t.fld F.IMG_STATUS.STATE = ImgSt.FETCH ∧ t.fld F.IMG_DETAIL.CHECK = 0 ∧
      (s.dev.recov = 0 → KeepsRep [Reg.IMG_STATUS, Reg.IMG_DETAIL, Reg.IMG_DETAIL_OFS, Reg.ST_WD_CNT 8] [] s t) ∧
      (s.dev.recov ≠ 0 → KeepsRep [Reg.IMG_STATUS, Reg.IMG_DETAIL, Reg.IMG_DETAIL_OFS, Reg.ST_WD_CNT 8, Reg.DEV_FATAL] [.dev] s t)) ∧
  (∀ (s : State),
    s.loadAwaits .flashB = true →
    NextWith (exec (.loaderWatchdogExpiry) s) fun t =>
      t.rd (Reg.ST_WD_CNT 8) = s.rd (Reg.ST_WD_CNT 8) + 1 ∧ t.mode = s.mode ∧ t.fld F.IMG_STATUS.STATE = ImgSt.WAIT_HOST ∧
      t.fld F.IMG_STATUS.CODE = Err.IMAGE_CHECK ∧
      (s.dev.recov = 0 → KeepsRep [Reg.IMG_STATUS, Reg.IMG_DETAIL, Reg.IMG_DETAIL_OFS, Reg.ST_WD_CNT 8] [] s t) ∧
      (s.dev.recov ≠ 0 → KeepsRep [Reg.IMG_STATUS, Reg.IMG_DETAIL, Reg.IMG_DETAIL_OFS, Reg.ST_WD_CNT 8, Reg.DEV_FATAL] [.dev] s t)) ∧
  (∀ (s : State),
    s.loadAwaits .host = true →
    NextWith (exec (.loaderWatchdogExpiry) s) fun t =>
      t.rd (Reg.ST_WD_CNT 8) = s.rd (Reg.ST_WD_CNT 8) + 1 ∧ t.mode = s.mode ∧ t.fld F.IMG_STATUS.STATE = ImgSt.FAILED ∧
      t.fld F.IMG_STATUS.CODE = Err.IMAGE_CHECK ∧ t.fld F.IMG_DETAIL.CHECK = 0 ∧
      (s.dev.recov = 0 → KeepsRep [Reg.IMG_STATUS, Reg.IMG_DETAIL, Reg.IMG_DETAIL_OFS, Reg.ST_WD_CNT 8] [] s t) ∧
      (s.dev.recov ≠ 0 → KeepsRep [Reg.IMG_STATUS, Reg.IMG_DETAIL, Reg.IMG_DETAIL_OFS, Reg.ST_WD_CNT 8, Reg.DEV_FATAL] [.dev] s t)) ∧
  (∀ (s : State),
    Mode.STEEP ≤ s.mode → s.img.held ≠ [] → s.img.shadowed = false →
    NextWith (exec (.shadowCopy) s) fun t =>
      t.img.shadowed = true ∧ t.img.held = s.img.held ∧ Keeps [] [.img] s t) ∧
  (∀ (s : State),
    (s.mode < Mode.STEEP ∨ s.img.held = [] ∨ s.img.shadowed = true) →
    NextWith (exec (.shadowCopy) s) fun t =>
      t = s)

/-- Image commands start and stop a load, and a partial image replaces its slice. FULL_IMAGE_FETCH in LOAD and PARTIAL_IMAGE_FETCH for a
slice that is not DARK start a fetch from the host; PARTIAL_IMAGE_ABORT ends a partial fetch in FAILED with BUSY. PARTIAL_IMAGE_FETCHED
puts the slice of the image into RECONF, or ends in FAILED with the failed check, or with the code of what R84 no longer allows;
SLICE_PIPELINE_EMPTY fills the tables; PARTIAL_IMAGE_APPLIED makes the slice ACTIVE with its table version one higher and the serial of
the image, or FAULT after a failed check 15. Beside this, each clause names the registers and parts that may change; everything else is
kept. It rests on R83, R84, R85, Table 03.21 (03_damivo_image.md). Beside the spec it rests on the model's choices of log entries 14, 48,
49. -/
def Obligations.ImageCommandsActAndPartialImagesApply : Prop :=
  (∀ (s : State),
    s.hostOpen → s.mode = Mode.LOAD → s.dev.lockedLoad = false → s.loaderBusy = false → s.dmaOk = true →
    NextWith (exec (.fullImageFetch) s) fun t =>
      t.fld F.IMG_STATUS.STATE = ImgSt.FETCH ∧ t.fld F.IMG_STATUS.SOURCE = 2 ∧ t.fld F.IMG_STATUS.PARTIAL = 0 ∧
      t.fld F.IMG_STATUS.CODE = 0 ∧ t.rd Reg.IMG_DETAIL = 0 ∧
      KeepsRep [Reg.IMG_STATUS, Reg.IMG_DETAIL, Reg.IMG_DETAIL_OFS] [] s t) ∧
  (∀ (s : State) (i : Nat),
    i < 4 → s.hostOpen → (s.mode = Mode.BREEZE ∨ s.mode = Mode.GALE ∨ s.mode = Mode.CALM) → s.dev.lockedLoad = false →
    s.slc i ≠ Slc.DARK → s.trans = false → s.anyReconf = false → s.loaderBusy = false → s.dmaOk = true →
    NextWith (exec (.partialImageFetch i) s) fun t =>
      t.fld F.IMG_STATUS.STATE = ImgSt.FETCH ∧ t.fld F.IMG_STATUS.SOURCE = 2 ∧ t.fld F.IMG_STATUS.PARTIAL = 1 ∧
      t.fld F.IMG_STATUS.SLICE = i ∧ KeepsRep [Reg.IMG_STATUS, Reg.IMG_DETAIL, Reg.IMG_DETAIL_OFS] [] s t) ∧
  (∀ (s : State),
    s.hostOpen → s.dev.lockedLoad = false → s.partFetching = true →
    NextWith (exec (.partialImageAbort) s) fun t =>
      t.fld F.IMG_STATUS.STATE = ImgSt.FAILED ∧ t.fld F.IMG_STATUS.CODE = Err.BUSY ∧ KeepsRep [Reg.IMG_STATUS] [] s t) ∧
  (∀ (s : State) (img : List Byte),
    s.partFetching = true →
    NextWith (exec (.partialImageFetched img) s) fun t =>
      (∀ f, imgCheck img (ImgJudge.mk (s.fld F.IMG_HOST_LEN.LEN) (some (s.fld F.IMG_BASE_SERIAL_LO.SERIAL + s.fld F.IMG_BASE_SERIAL_HI.SERIAL * 2 ^ 32, s.partSlice img)) s.ports) = some f → t.fld F.IMG_STATUS.STATE = ImgSt.FAILED ∧ t.fld F.IMG_STATUS.CODE = f.code % 256 ∧ t.fld F.IMG_DETAIL.CHECK = f.check % 256) ∧
      (imgCheck img (ImgJudge.mk (s.fld F.IMG_HOST_LEN.LEN) (some (s.fld F.IMG_BASE_SERIAL_LO.SERIAL + s.fld F.IMG_BASE_SERIAL_HI.SERIAL * 2 ^ 32, s.partSlice img)) s.ports) = none → pickCode (s.partChecks (s.partSlice img)) = 0 → t.slc (s.partSlice img) = Slc.RECONF ∧ t.fld F.IMG_STATUS.STATE = ImgSt.APPLY ∧ t.img.part = img ∧ t.img.placed = 1) ∧
      (imgCheck img (ImgJudge.mk (s.fld F.IMG_HOST_LEN.LEN) (some (s.fld F.IMG_BASE_SERIAL_LO.SERIAL + s.fld F.IMG_BASE_SERIAL_HI.SERIAL * 2 ^ 32, s.partSlice img)) s.ports) = none → pickCode (s.partChecks (s.partSlice img)) ≠ 0 → t.fld F.IMG_STATUS.STATE = ImgSt.FAILED ∧ t.fld F.IMG_STATUS.CODE = pickCode (s.partChecks (s.partSlice img))) ∧
      t.fld F.IMG_STATUS.SLICE = s.partSlice img ∧
      KeepsIn (Scope.scans ++ [RegSet.one Reg.IMG_STATUS, RegSet.one Reg.ST_HEALTH, RegSet.one Reg.DEV_SLC_STATE, RegSet.one Reg.IMG_DETAIL, RegSet.one Reg.IMG_DETAIL_OFS]) [.dev, .img, .scans, .slices] s t) ∧
  (∀ (s : State) (i : Nat),
    i < 4 → s.partApplying i = true → s.img.placed = 1 →
    NextWith (exec (.slicePipelineEmpty i) s) fun t =>
      (t.img.placed = (if (s.carve i s.img.part 80).2 then 2 else 3)) ∧ t.img.part = s.img.part ∧ t.slc i = s.slc i ∧
      KeepsIn [RegSet.one (Reg.SLC_CNT i 13), RegSet.one (Reg.SLC_CNT i 7), RegSet.one (Reg.SLC_CARVE i)] [.img, .scans, .slices] s t) ∧
  (∀ (s : State) (i : Nat),
    i < 4 → s.partApplying i = true → s.img.placed = 2 →
    NextWith (exec (.partialImageApplied i) s) fun t =>
      t.slc i = Slc.ACTIVE ∧ t.fld F.IMG_STATUS.STATE = ImgSt.DONE ∧ t.fld F.IMG_STATUS.CODE = 0 ∧
      t.fld (F.SLC_TBL_VER.VER i) = (s.fld (F.SLC_TBL_VER.VER i) + 1) % 2 ^ 32 ∧
      t.fld (F.IMG_SLC_SERIAL_LO.SERIAL i) = imgSerial s.img.part % 2 ^ 32 ∧ t.img.part = [] ∧
      t.img.held = heldReplace s.img.held s.img.part i ∧
      KeepsIn (Scope.scans ++ [RegSet.each (Reg.CD_RING_STATUS 0) 0x100 8, RegSet.one Reg.DEV_MODE, RegSet.one Reg.IMG_STATUS, RegSet.one Reg.ST_HEALTH, RegSet.one (Reg.SLC_TBL_VER i), RegSet.one Reg.DEV_SLC_STATE, RegSet.each (Reg.SLC_FLAT i 1) 4 255, RegSet.one (Reg.SLC_AGE i), RegSet.one (Reg.SLC_MOVE i), RegSet.one (Reg.SLC_LEARN i), RegSet.one (Reg.IMG_SLC_SERIAL_LO i), RegSet.one (Reg.IMG_SLC_SERIAL_HI i)]) [.dev, .img, .scans, .caddy, .slices] s t) ∧
  (∀ (s : State) (i : Nat),
    i < 4 → s.partApplying i = true → s.img.placed = 3 →
    NextWith (exec (.partialImageApplied i) s) fun t =>
      t.slc i = Slc.FAULT ∧ t.fld F.IMG_STATUS.STATE = ImgSt.FAILED ∧ t.fld F.IMG_STATUS.CODE = Err.IMAGE_CHECK ∧
      t.fld F.IMG_DETAIL.CHECK = 15 ∧ t.img.part = [] ∧ t.img.held = s.img.held ∧
      KeepsIn (Scope.scans ++ [RegSet.each (Reg.CD_RING_STATUS 0) 0x100 8, RegSet.one Reg.DEV_MODE, RegSet.one Reg.IMG_STATUS, RegSet.one Reg.ST_HEALTH, RegSet.one Reg.DEV_SLC_STATE, RegSet.one Reg.IMG_DETAIL, RegSet.one Reg.IMG_DETAIL_OFS]) [.dev, .img, .scans, .caddy, .slices] s t)

/-- Trunks compare capabilities, negotiate, switch and train by Table 04.9. CAP_RECEIVED in CAP with a matching capability sets CEIL, the
peer fields and the leader and enters NEGO, or UP for a leader at CEIL; a mismatch enters MISMATCH; an equal nonce draws a new one. PROP,
ACK, NAK, TRAIN and DATA messages, the response and training timers and the switch of the step act as the table says. Beside this, each
clause names the registers and parts that may change; everything else is kept. It rests on R111, R113, R114, Table 04.9
(04_lanes_and_trunk_code.md). Beside the spec it rests on the model's choices of log entries 3, 17, 44. -/
def Obligations.TrunksNegotiateByTable : Prop :=
  (∀ (s : State) (l : Nat) (arg : BitVec 24),
    l < 192 → s.trunkFirst l = true → s.trState l = 1 → s.heard l 1 arg.toNat = true → bitAt arg.toNat 4 = (s.laneMode l == 6) →
    arg.toNat / 2 ^ 5 % 8 = 1 → arg.toNat / 2 ^ 8 % 65536 ≠ (s.trunk l).nonce → s.allRxa l = true → s.allLocked l = true →
    NextWith (exec (.capReceived l arg true) s) fun t =>
      t.fld (F.LN_TRUNK_STATUS.CEIL l) = min (s.fld (F.LN_CFG.TRUNK_MAX l)) (arg.toNat % 8) ∧
      t.fld (F.LN_TRUNK_STATUS.PEER_MAX l) = arg.toNat % 8 ∧ t.fld (F.LN_TRUNK_STATUS.PEER_IDLE l) = arg.toNat / 2 ^ 3 % 2 ∧
      t.leads l = decide (arg.toNat / 2 ^ 8 % 65536 < (s.trunk l).nonce) ∧
      (t.trState l = (if arg.toNat / 2 ^ 8 % 65536 < (s.trunk l).nonce ∧ min (s.fld (F.LN_CFG.TRUNK_MAX l)) (arg.toNat % 8) ≤ s.trunkStep l then 6 else 2)) ∧
      (t.trunk l).target = min (s.fld (F.LN_CFG.TRUNK_MAX l)) (arg.toNat % 8) ∧ t.trunkStep l = s.trunkStep l ∧
      KeepsIn (Scope.link ++ Scope.lanes ++ [RegSet.each (Reg.KT_FREQ 0) 0x100 8]) [.dev, .host, .scans, .kettle, .vane, .phase, .slices, .fab, .lines, .tt, .freeCtr] s t) ∧
  (∀ (s : State) (l : Nat) (arg : BitVec 24) (rxa : Bool),
    l < 192 → s.trunkFirst l = true → s.trState l = 1 → s.heard l 1 arg.toNat = true → bitAt arg.toNat 4 ≠ (s.laneMode l == 6) →
    NextWith (exec (.capReceived l arg rxa) s) fun t =>
      t.trState l = 8 ∧ (t.trunk l).msg = (4, 1) ∧
      KeepsIn (Scope.link ++ Scope.lanes ++ [RegSet.each (Reg.KT_FREQ 0) 0x100 8]) [.dev, .host, .scans, .kettle, .vane, .phase, .slices, .fab, .lines, .tt, .freeCtr] s t) ∧
  (∀ (s : State) (l : Nat) (arg : BitVec 24) (rxa : Bool),
    l < 192 → s.trunkFirst l = true → s.trState l = 1 → s.heard l 1 arg.toNat = true → bitAt arg.toNat 4 = (s.laneMode l == 6) →
    arg.toNat / 2 ^ 5 % 8 = 1 → arg.toNat / 2 ^ 8 % 65536 = (s.trunk l).nonce →
    NextWith (exec (.capReceived l arg rxa) s) fun t =>
      t.trState l = 1 ∧ (t.trunk l).msg.1 = 1 ∧ t.freeCtr = s.freeCtr + 1 ∧ Keeps [] [.lines, .freeCtr, .out] s t) ∧
  (∀ (s : State) (l : Nat),
    l < 192 → s.trunkFirst l = true → s.trState l = 1 → s.looped l = false →
    NextWith (exec (.capTimeout l) s) fun t =>
      t.oper l = 1 ∧ t.trState l = 1 ∧
      KeepsIn (Scope.link ++ [RegSet.each (Reg.KT_FREQ 0) 0x100 8]) [.dev, .host, .scans, .kettle, .vane, .phase, .slices, .fab, .lines, .tt, .freeCtr] s t) ∧
  (∀ (s : State) (l : Nat) (arg : BitVec 24),
    l < 192 → s.trunkFirst l = true → s.trState l = 2 → s.heard l 2 arg.toNat = true → s.leads l = false →
    arg.toNat % 8 = s.trunkStep l + 1 → arg.toNat % 8 ≤ (s.trunk l).target →
    NextWith (exec (.propReceived l arg) s) fun t =>
      t.trState l = 3 ∧ (t.trunk l).train = arg.toNat % 8 ∧ (t.trunk l).msg = (3, arg.toNat % 8 + arg.toNat / 2 ^ 8 * 2 ^ 8) ∧
      Keeps [Reg.LN_TRUNK_STATUS l] [.lines, .out] s t) ∧
  (∀ (s : State) (l : Nat) (arg : BitVec 24),
    l < 192 → s.trunkFirst l = true → s.trState l = 2 → s.heard l 2 arg.toNat = true → s.leads l = false →
    (arg.toNat % 8 ≠ s.trunkStep l + 1 ∨ (s.trunk l).target < arg.toNat % 8) →
    NextWith (exec (.propReceived l arg) s) fun t =>
      t.trState l = 2 ∧ (t.trunk l).msg = (4, 3) ∧ Keeps [] [.lines, .out] s t) ∧
  (∀ (s : State) (l : Nat) (arg : BitVec 24),
    l < 192 → s.trunkFirst l = true → s.trState l = 2 → s.heard l 3 arg.toNat = true → s.leads l = true →
    arg.toNat % 8 = s.trunkStep l + 1 →
    NextWith (exec (.ackReceived l arg) s) fun t =>
      t.trState l = 3 ∧ (t.trunk l).train = arg.toNat % 8 ∧ (t.trunk l).msg.1 = 3 ∧
      Keeps [Reg.LN_TRUNK_STATUS l] [.lines, .out] s t) ∧
  (∀ (s : State) (l : Nat) (arg : BitVec 24),
    l < 192 → s.trunkFirst l = true → s.trState l = 2 → s.heard l 4 arg.toNat = true → s.leads l = true →
    NextWith (exec (.nakReceived l arg) s) fun t =>
      t.fld (F.LN_TRUNK_STATUS.NAK l) = arg.toNat % 2 ^ 8 ∧ t.fld (F.LN_TRUNK_STATUS.CEIL l) = s.trunkStep l ∧ t.trState l = 6 ∧
      t.markerMsg l = (0, 0) ∧
      KeepsIn (Scope.link ++ Scope.lanes ++ [RegSet.each (Reg.KT_FREQ 0) 0x100 8]) [.dev, .host, .scans, .kettle, .vane, .phase, .slices, .fab, .lines, .tt, .freeCtr] s t) ∧
  (∀ (s : State) (l : Nat),
    l < 192 → s.trunkFirst l = true → s.trState l = 2 → s.leads l = true → (s.trunk l).tries < 2 → s.trunkStep l < s.trCeil l →
    NextWith (exec (.responseTimerExpiry l) s) fun t =>
      (t.trunk l).tries = (s.trunk l).tries + 1 ∧ t.trState l = 2 ∧
      (t.trunk l).msg = (2, s.trunkStep l + 1 + (s.trunk l).nonce * 2 ^ 8) ∧ t.trCeil l = s.trCeil l ∧
      KeepsIn (Scope.link ++ Scope.lanes ++ [RegSet.each (Reg.KT_FREQ 0) 0x100 8]) [.dev, .host, .scans, .kettle, .vane, .phase, .slices, .fab, .lines, .tt, .freeCtr] s t) ∧
  (∀ (s : State) (l : Nat),
    l < 192 → s.trunkFirst l = true → s.trState l = 2 → s.leads l = true → 2 ≤ (s.trunk l).tries →
    NextWith (exec (.responseTimerExpiry l) s) fun t =>
      (t.trunk l).tries = 0 ∧ t.trState l = 6 ∧ t.trCeil l = s.trunkStep l ∧
      KeepsIn (Scope.link ++ Scope.lanes ++ [RegSet.each (Reg.KT_FREQ 0) 0x100 8]) [.dev, .host, .scans, .kettle, .vane, .phase, .slices, .fab, .lines, .tt, .freeCtr] s t) ∧
  (∀ (s : State) (l : Nat),
    l < 192 → s.trunkFirst l = true → s.trState l = 3 → (s.trunk l).left = 0 → s.portLanes l = [l] →
    NextWith (exec (.trunkSwitchStep l) s) fun t =>
      t.trState l = 4 ∧ (t.trunk l).msg = (5, (s.trunk l).train) ∧ t.fld (F.LN_STATUS.LOCK l) = 0 ∧ t.rx l = TrRx.fresh ∧
      Keeps [Reg.LN_TRUNK_STATUS l, Reg.LN_STATUS l] [.lines, .out] s t) ∧
  (∀ (s : State) (l : Nat) (arg : BitVec 24),
    l < 192 → s.trunkFirst l = true → (s.trState l = 4 ∨ s.trState l = 5) → s.heard l 5 arg.toNat = true → s.allRxa l = true →
    s.allLocked l = true → arg.toNat % 8 = (s.trunk l).train →
    NextWith (exec (.trainReceived l arg true) s) fun t =>
      t.trunkStep l = (s.trunk l).train ∧ (t.trunk l).tries = 0 ∧
      (t.trState l = (if s.leads l = true ∧ s.trCeil l ≤ (s.trunk l).train then 6 else 2)) ∧
      KeepsIn (Scope.link ++ Scope.lanes ++ [RegSet.each (Reg.KT_FREQ 0) 0x100 8]) [.dev, .host, .scans, .kettle, .vane, .phase, .slices, .fab, .lines, .tt, .freeCtr] s t) ∧
  (∀ (s : State) (l : Nat),
    l < 192 → s.trunkFirst l = true → s.trState l = 2 → (s.rx l).msg.1 = 0 → (s.rx l).msg.2.2 ≠ 0 → s.leads l = false →
    s.looped l = false →
    NextWith (exec (.dataMarkerReceived l) s) fun t =>
      t.trState l = 6 ∧ t.oper l = 3 ∧ t.markerMsg l = (0, 0) ∧
      KeepsIn (Scope.link ++ Scope.lanes ++ [RegSet.each (Reg.KT_FREQ 0) 0x100 8]) [.dev, .host, .scans, .kettle, .vane, .phase, .slices, .fab, .lines, .tt, .freeCtr] s t) ∧
  (∀ (s : State) (l : Nat),
    l < 192 → s.trunkFirst l = true → s.trState l = 4 → (s.trunk l).train < 8 →
    NextWith (exec (.trainingTimerExpiry l) s) fun t =>
      t.trState l = 5 ∧ t.trCeil l = (s.trunk l).train - 1 ∧ t.fld (F.LN_TRUNK_STATUS.FAIL_STEP l) = (s.trunk l).train ∧
      (t.trunk l).train = (s.trunk l).train - 1 ∧ t.rd (Reg.LN_CNT l 11) = s.rd (Reg.LN_CNT l 11) + 1 ∧
      t.fld (F.LN_FLAGS.STEP_FAIL l) = 1 ∧
      KeepsIn (Scope.lanes ++ [RegSet.each (Reg.PRT_TT_STATUS 0) 0x10000 256, RegSet.each (Reg.LN_FLAGS 0) 0x4000 256, RegSet.each (Reg.LN_CNT 0 11) 0x4000 256]) [.phase, .lines, .tt, .freeCtr] s t) ∧
  (∀ (s : State) (l : Nat),
    l < 192 → s.trunkFirst l = true → s.trState l = 5 →
    NextWith (exec (.trainingTimerExpiry l) s) fun t =>
      t.trState l = 1 ∧ t.trunkStep l = 0 ∧ t.rd (Reg.LN_CNT l 11) = s.rd (Reg.LN_CNT l 11) + 1 ∧ (t.trunk l).msg.1 = 1 ∧
      KeepsIn (Scope.lanes ++ [RegSet.each (Reg.PRT_TT_STATUS 0) 0x10000 256, RegSet.each (Reg.LN_FLAGS 0) 0x4000 256, RegSet.each (Reg.LN_CNT 0 11) 0x4000 256]) [.phase, .lines, .tt, .freeCtr] s t)

/-- The trunk receiver undoes stuffing and scrambling, aligns, follows pointers and takes units. MARKER_RECEIVED destuffs its line bits,
counting every stuff bit violation, gives alignment with the fourth good marker in succession, follows SEQ on an aligned lane, and loses
alignment with the fourth bad one, counted. POINTER_RECEIVED descrambles the pointer and sets the position at a superframe start; a bad
one is counted. TRUNK_UNIT_RECEIVED descrambles its bits, moves past a padding or frame unit, hands the frame to the parser or the reorder
stage, and discards after a bad header. REORDER_TIMEOUT delivers the frame that waits and counts the missing ones. Beside this, each
clause names the registers and parts that may change; everything else is kept. It rests on R91, R95, R97, R99, R101, R102, R104, R105,
R107. Beside the spec it rests on the model's choices of log entry 44. -/
def Obligations.MarkersPointersAndUnitsAreReceived : Prop :=
  (∀ (s : State) (l w : Nat) (pre m : List Bool) (ts : LineStamp),
    l < 192 → s.takesMarkers l = true → ofBits ((s.lineIn l pre).1.lineIn l m).2 = w → s.fld (F.LN_STATUS.LOCK l) = 0 →
    mkGood w = true → 3 ≤ (s.rx l).good →
    NextWith (exec (.markerReceived l pre m ts) s) fun t =>
      t.fld (F.LN_STATUS.LOCK l) = 1 ∧ (t.rx l).seq = some (mkSeq w) ∧ (t.rx l).rxa = mkRxa w ∧ (t.rx l).pos = none ∧
      (t.rx l).skip = true ∧
      t.rd (Reg.LN_CNT l 5) = s.rd (Reg.LN_CNT l 5) + BitVec.ofNat 64 (destuff (s.rx l).run ((pre ++ m).map (· != s.fldBit (F.LN_CFG.POLARITY l) 1))).2.2 ∧
      KeepsIn [RegSet.one (Reg.LN_STATUS l), RegSet.one (Reg.LN_CNT l 5), RegSet.one (Reg.LN_FLAGS l)] [.lines] s t) ∧
  (∀ (s : State) (l w : Nat) (pre m : List Bool) (ts : LineStamp),
    l < 192 → s.takesMarkers l = true → ofBits ((s.lineIn l pre).1.lineIn l m).2 = w → s.fld (F.LN_STATUS.LOCK l) = 0 →
    mkGood w = false →
    NextWith (exec (.markerReceived l pre m ts) s) fun t =>
      (t.rx l).good = 0 ∧ (t.rx l).msg.2.2 = 0 ∧
      t.rd (Reg.LN_CNT l 5) = s.rd (Reg.LN_CNT l 5) + BitVec.ofNat 64 (destuff (s.rx l).run ((pre ++ m).map (· != s.fldBit (F.LN_CFG.POLARITY l) 1))).2.2 ∧
      ((destuff (s.rx l).run ((pre ++ m).map (· != s.fldBit (F.LN_CFG.POLARITY l) 1))).2.2 ≠ 0 → t.fld (F.LN_FLAGS.STUFF_ERR l) = 1) ∧
      KeepsIn [RegSet.one (Reg.LN_CNT l 5), RegSet.one (Reg.LN_FLAGS l)] [.lines] s t) ∧
  (∀ (s : State) (l w : Nat) (pre m : List Bool) (ts : LineStamp),
    l < 192 → s.takesMarkers l = true → ofBits ((s.lineIn l pre).1.lineIn l m).2 = w → s.fld (F.LN_STATUS.LOCK l) = 1 →
    mkGood w = true → mkType w ≠ 0 → (∀ q < 256, (s.rx l).seq = some q → mkSeq w = (q + 1) % 256) →
    (∀ q, (s.rx l).seq = some q → q < 256) →
    NextWith (exec (.markerReceived l pre m ts) s) fun t =>
      (t.rx l).bad = 0 ∧ (t.rx l).seq = some (mkSeq w) ∧
      ((t.rx l).msg = (mkType w, mkArg w, if (s.rx l).msg.1 = mkType w ∧ (s.rx l).msg.2.1 = mkArg w then min 3 ((s.rx l).msg.2.2 + 1) else 1)) ∧
      (t.rx l).pos = (s.rx l).pos ∧
      t.rd (Reg.LN_CNT l 5) = s.rd (Reg.LN_CNT l 5) + BitVec.ofNat 64 (destuff (s.rx l).run ((pre ++ m).map (· != s.fldBit (F.LN_CFG.POLARITY l) 1))).2.2 ∧
      ((destuff (s.rx l).run ((pre ++ m).map (· != s.fldBit (F.LN_CFG.POLARITY l) 1))).2.2 ≠ 0 → t.fld (F.LN_FLAGS.STUFF_ERR l) = 1) ∧
      KeepsIn [RegSet.one (Reg.LN_CNT l 5), RegSet.one (Reg.LN_FLAGS l)] [.lines] s t) ∧
  (∀ (s : State) (l w : Nat) (pre m : List Bool) (ts : LineStamp),
    l < 192 → s.takesMarkers l = true → ofBits ((s.lineIn l pre).1.lineIn l m).2 = w → s.fld (F.LN_STATUS.LOCK l) = 1 →
    mkGood w = false → 3 ≤ (s.rx l).bad → s.trState (s.lanePort l) ≠ 4 → s.trState (s.lanePort l) ≠ 6 →
    NextWith (exec (.markerReceived l pre m ts) s) fun t =>
      t.fld (F.LN_STATUS.LOCK l) = 0 ∧ t.rx l = TrRx.fresh ∧ t.rd (Reg.LN_CNT l 2) = s.rd (Reg.LN_CNT l 2) + 1 ∧
      t.rd (Reg.LN_CNT l 3) = s.rd (Reg.LN_CNT l 3) + 1 ∧ t.fld (F.LN_FLAGS.LOCK_LOST l) = 1 ∧
      t.rd (Reg.LN_CNT l 5) = s.rd (Reg.LN_CNT l 5) + BitVec.ofNat 64 (destuff (s.rx l).run ((pre ++ m).map (· != s.fldBit (F.LN_CFG.POLARITY l) 1))).2.2 ∧
      KeepsIn [RegSet.one (Reg.LN_CNT l 2), RegSet.one (Reg.LN_CNT l 3), RegSet.one (Reg.LN_CNT l 5), RegSet.one (Reg.LN_FLAGS l), RegSet.one (Reg.LN_STATUS l)] [.lines] s t) ∧
  (∀ (s : State) (l v : Nat) (u : State) (pre ptr : List Bool),
    l < 192 → s.delivers l = true → u = (s.lineIn l pre).1.payIn l (s.lineIn l pre).2 →
    ofBits (descramble (u.rx l).scr (u.lineIn l ptr).2).2 = v → ptrOk v = true → (s.rx l).pos = none →
    NextWith (exec (.pointerReceived l pre ptr) s) fun t =>
      ((t.rx l).pos = (if v % 2 ^ 10 = 0x3FF then none else some ((v % 2 ^ 10 : Nat) - 2 : Int))) ∧
      t.rd (Reg.LN_CNT l 5) = s.rd (Reg.LN_CNT l 5) + BitVec.ofNat 64 (destuff (s.rx l).run ((pre ++ ptr).map (· != s.fldBit (F.LN_CFG.POLARITY l) 1))).2.2 ∧
      KeepsIn [RegSet.one (Reg.LN_CNT l 5), RegSet.one (Reg.LN_FLAGS l)] [.lines] s t) ∧
  (∀ (s : State) (l v : Nat) (u : State) (pre ptr : List Bool),
    l < 192 → s.delivers l = true → u = (s.lineIn l pre).1.payIn l (s.lineIn l pre).2 →
    ofBits (descramble (u.rx l).scr (u.lineIn l ptr).2).2 = v → ptrOk v = false →
    NextWith (exec (.pointerReceived l pre ptr) s) fun t =>
      (t.rx l).pos = (s.rx l).pos.map (· - 510) ∧ t.rd (Reg.LN_CNT l 7) = s.rd (Reg.LN_CNT l 7) + 1 ∧
      t.fld (F.LN_FLAGS.UNIT_ERR l) = 1 ∧
      KeepsIn [RegSet.one (Reg.LN_CNT l 5), RegSet.one (Reg.LN_CNT l 7), RegSet.one (Reg.LN_FLAGS l)] [.lines] s t) ∧
  (∀ (s : State) (l slots h : Nat) (u : State) (hdr body : List Bool) (ts : LineStamp) (x : Int),
    l < 192 → s.delivers l = true → (s.rx l).pos = some x →
    u = (s.lineIn l (hdr ++ body)).1.payIn l (s.lineIn l (hdr ++ body)).2 → 32 ≤ (u.rx l).buf.length →
    ofBits ((u.rx l).buf.take 32) = h → unitOk h = false →
    NextWith (exec (.trunkUnitReceived l hdr body ts slots) s) fun t =>
      (t.rx l).pos = none ∧ t.rd (Reg.LN_CNT l 6) = s.rd (Reg.LN_CNT l 6) + 1 ∧ t.fld (F.LN_FLAGS.UNIT_ERR l) = 1 ∧
      t.rd (Reg.LN_CNT l 5) = s.rd (Reg.LN_CNT l 5) + BitVec.ofNat 64 (destuff (s.rx l).run ((hdr ++ body).map (· != s.fldBit (F.LN_CFG.POLARITY l) 1))).2.2 ∧
      KeepsIn [RegSet.one (Reg.LN_CNT l 5), RegSet.one (Reg.LN_CNT l 6), RegSet.one (Reg.LN_FLAGS l)] [.lines] s t) ∧
  (∀ (s : State) (l slots h : Nat) (u : State) (hdr body : List Bool) (ts : LineStamp) (x : Int),
    l < 192 → s.delivers l = true → (s.rx l).pos = some x →
    u = (s.lineIn l (hdr ++ body)).1.payIn l (s.lineIn l (hdr ++ body)).2 → 32 ≤ (u.rx l).buf.length →
    ofBits ((u.rx l).buf.take 32) = h → unitOk h = true → unitKind h = 0 → 32 + 8 * unitLen h ≤ (u.rx l).buf.length →
    NextWith (exec (.trunkUnitReceived l hdr body ts slots) s) fun t =>
      (t.rx l).pos = some (x + 4 + (unitLen h : Int)) ∧ (t.rx l).buf = (u.rx l).buf.drop (32 + 8 * unitLen h) ∧
      t.rd (Reg.LN_CNT l 5) = s.rd (Reg.LN_CNT l 5) + BitVec.ofNat 64 (destuff (s.rx l).run ((hdr ++ body).map (· != s.fldBit (F.LN_CFG.POLARITY l) 1))).2.2 ∧
      KeepsIn [RegSet.one (Reg.LN_CNT l 5), RegSet.one (Reg.LN_FLAGS l)] [.lines] s t) ∧
  (∀ (s : State) (l slots h : Nat) (u : State) (hdr body : List Bool) (ts : LineStamp) (x : Int),
    l < 192 → s.delivers l = true → (s.rx l).pos = some x →
    u = (s.lineIn l (hdr ++ body)).1.payIn l (s.lineIn l (hdr ++ body)).2 → 32 ≤ (u.rx l).buf.length →
    ofBits ((u.rx l).buf.take 32) = h → unitOk h = true → unitKind h = 1 → 32 + 8 * unitLen h ≤ (u.rx l).buf.length →
    s.laneMode l ≠ 6 →
    NextWith (exec (.trunkUnitReceived l hdr body ts slots) s) fun t =>
      t = (u.setRx l { u.rx l with pos := some (x + 4 + (unitLen h : Int)), buf := (u.rx l).buf.drop (32 + 8 * unitLen h) }).ingress (s.lanePort l) (bitBytes (unitLen h) ((u.rx l).buf.drop 32)) (u.rxStamp l ts) slots) ∧
  (∀ (s : State) (l slots h : Nat) (u : State) (hdr body : List Bool) (ts : LineStamp) (x : Int),
    l < 192 → s.delivers l = true → (s.rx l).pos = some x →
    u = (s.lineIn l (hdr ++ body)).1.payIn l (s.lineIn l (hdr ++ body)).2 → 32 ≤ (u.rx l).buf.length →
    ofBits ((u.rx l).buf.take 32) = h → unitOk h = true → unitKind h = 1 → 32 + 8 * unitLen h ≤ (u.rx l).buf.length →
    s.laneMode l = 6 →
    NextWith (exec (.trunkUnitReceived l hdr body ts slots) s) fun t =>
      t = (u.setRx l { u.rx l with pos := some (x + 4 + (unitLen h : Int)), buf := (u.rx l).buf.drop (32 + 8 * unitLen h) }).reorder (s.lanePort l) (unitSeq h) (bitBytes (unitLen h) ((u.rx l).buf.drop 32)) (u.rxStamp l ts) slots) ∧
  (∀ (s : State) (p slots q : Nat) (bs : List Byte) (a : Time16),
    p < 192 → s.portUsed p = true → s.laneMode p = 6 → (s.trState p = 6 ∨ s.trState p = 7) →
    (s.trunk p).waiting = [(q, bs, a)] → q < 256 → (s.trunk p).useqRx < 256 →
    NextWith (exec (.reorderTimeout p slots) s) fun t =>
      (t.trunk p).waiting = [] ∧ (t.trunk p).useqRx = (q + 1) % 256 ∧
      t.rd (Reg.LN_CNT p 6) = s.rd (Reg.LN_CNT p 6) + BitVec.ofNat 64 ((q + 256 - (s.trunk p).useqRx) % 256) ∧
      t.fld (F.LN_FLAGS.UNIT_ERR p) = 1 ∧
      KeepsIn (Scope.buffers ++ Scope.scans ++ Scope.freeze ++ Scope.feed ++ [⟨Reg.CD_RING_CNT 0 0, 0x100, 8, 0x8, 8⟩, RegSet.each (Reg.CD_RP_STATUS 0) 0x100 8, RegSet.each (Reg.KT_DOM_FLAGS 0) 0x100 8, RegSet.each (Reg.PRT_TT_STATUS 0) 0x10000 256, RegSet.one Reg.VN_STATUS, RegSet.one Reg.VN_FLAGS, RegSet.one Reg.VN_PULL, RegSet.one Reg.VN_STEER, RegSet.one (Reg.VN_CNT 1), RegSet.one (Reg.VN_CNT 2), RegSet.each (Reg.VN_CAND_STATUS 0) 0x20 11, RegSet.one (Reg.VN_CNT 5), RegSet.each (Reg.VN_CAND_FLAGS 0) 0x20 11, RegSet.one (Reg.VN_CNT 6), RegSet.each (Reg.LN_FLAGS 0) 0x4000 256, RegSet.each (Reg.BPM_POOL_LOW 0) 0x4 5, RegSet.each (Reg.PRT_FAB_CNT 0 0) 0x10000 256, RegSet.each (Reg.PRT_LT_STATUS 0) 0x10000 256, RegSet.each (Reg.PRT_LT_NEXT 0) 0x10000 256, RegSet.each (Reg.PRT_FAB_CNT 0 3) 0x10000 256, RegSet.each (Reg.PRT_FAB_CNT 0 2) 0x10000 256, RegSet.one Reg.FAB_VOQ_OCC, RegSet.one Reg.FAB_VOQ_SPILL, RegSet.each (Reg.PRT_WD 0) 0x10000 256, RegSet.each (Reg.PRT_EG_CNT 0 10) 0x10000 256, RegSet.each (Reg.PRT_RX_CNT 0 0) 0x10000 256, RegSet.each (Reg.PRT_RX_CNT 0 1) 0x10000 256, RegSet.each (Reg.PRT_EG_CNT 0 11) 0x10000 256, RegSet.one (Reg.DEV_HI_CNT 3), RegSet.one Reg.DEV_HRX_HEAD, RegSet.one (Reg.DEV_HI_CNT 2), RegSet.each (Reg.PRT_TT_CNT 0 14) 0x10000 256, RegSet.each (Reg.PRT_TT_FLAGS 0) 0x10000 256, RegSet.each (Reg.PRT_TT_CNT 0 8) 0x10000 256, RegSet.each (Reg.PRT_TT_CNT 0 7) 0x10000 256, RegSet.each (Reg.PRT_TT_DELAY_LO 0) 0x10000 256, RegSet.each (Reg.PRT_TT_DELAY_HI 0) 0x10000 256, RegSet.each (Reg.PRT_TT_CNT 0 10) 0x10000 256, RegSet.each (Reg.PRT_TT_CNT 0 9) 0x10000 256, RegSet.each (Reg.PRT_TT_OFS_LO 0) 0x10000 256, RegSet.each (Reg.PRT_TT_OFS_HI 0) 0x10000 256, RegSet.each (Reg.PRT_TT_CNT 0 4) 0x10000 256, RegSet.each (Reg.PRT_TT_CNT 0 5) 0x10000 256, RegSet.each (Reg.PRT_TT_NRR 0) 0x10000 256, RegSet.each (Reg.PRT_TT_CNT 0 15) 0x10000 256, RegSet.each (Reg.PRT_RX_CNT 0 6) 0x10000 256, RegSet.each (Reg.PRT_RX_CNT 0 5) 0x10000 256, RegSet.each (Reg.PRT_RX_CNT 0 3) 0x10000 256, RegSet.each (Reg.PRT_RX_CNT 0 4) 0x10000 256, RegSet.each (Reg.PRT_RX_CNT 0 2) 0x10000 256, RegSet.each (Reg.LN_CNT 0 6) 0x4000 256, RegSet.one (Reg.DEV_HI_CNT 4), ⟨Reg.SLC_CNT 0 0, 0x400000, 4, 0x8, 16⟩]) [.host, .scans, .kettle, .aon, .vane, .caddy, .slices, .fab, .lines, .tt, .freeCtr, .uid] s t)

/-- Electrical idle, loss of signal, loss of lock, lock and eye measurements act by R115 to R122. TRUNK_IDLE_REQ and TRUNK_IDLE_EXIT set
and clear the standing request; IDLE_REQ_SEND, IDLE_REQ_RECEIVED and IDLE_ACK_RECEIVED carry the handshake, with NAK where idle is not
available; IDLE_HANDSHAKE_COMPLETE enters IDLE and counts it; IDLE_ACTIVITY_DETECTED begins the exit; IDLE_EXIT_TIMEOUT takes the trunk
down to CAP. LOS_ASSERT and LOL_ASSERT set their bits, flag and count outside electrical idle; LOS_DEASSERT and LOL_DEASSERT clear them;
LOS_LOL_PERSIST takes an UP port DOWN and counts it; LANE_LOCK_ACQUIRED takes a standard port with every lane locked UP;
FIRST_ATTEMPT_TIMEOUT ends the first attempt; EYE_MEASUREMENT shows the clipped values and EYE_LOW. Beside this, each clause names the
registers and parts that may change; everything else is kept. It rests on R116, R117, R118, R119, R115, R120, R121, R122. Beside the spec
it rests on the model's choices of log entries 17, 45. -/
def Obligations.LaneSignalsAndElectricalIdleAct : Prop :=
  (∀ (s : State) (l : Nat),
    l < 192 → s.trunkFirst l = true → s.hostOpen → s.laneMode l ≠ 0 → s.powered (sliceOf l) = true →
    (s.trState l = 6 ∨ s.trState l = 7) → 3 ≤ s.trunkStep l →
    NextWith (exec (.trunkIdleReq l) s) fun t =>
      t.fld (F.LN_TRUNK_STATUS.IDLE_HELD l) = 1 ∧ t.trState l = s.trState l ∧ KeepsRep [Reg.LN_TRUNK_STATUS l] [] s t) ∧
  (∀ (s : State) (l : Nat),
    l < 192 → s.trunkFirst l = true → s.hostOpen → s.laneMode l ≠ 0 → s.powered (sliceOf l) = true →
    NextWith (exec (.trunkIdleExit l) s) fun t =>
      t.fld (F.LN_TRUNK_STATUS.IDLE_HELD l) = 0 ∧ (s.oper l = 4 → (t.trunk l).exiting = true) ∧ t.trState l = s.trState l ∧
      KeepsRep [Reg.LN_TRUNK_STATUS l] [.lines] s t) ∧
  (∀ (s : State) (l : Nat),
    l < 192 → s.trunkFirst l = true → s.trState l = 6 → s.fld (F.LN_TRUNK_STATUS.IDLE_HELD l) = 1 → s.idleOk l = true →
    s.quiet l = true → (s.trunk l).retry ≤ s.cycle →
    NextWith (exec (.idleReqSend l) s) fun t =>
      (t.trunk l).msg = (6, 0) ∧ (t.trunk l).idleTx = true ∧ Keeps [] [.lines, .out] s t) ∧
  (∀ (s : State) (l : Nat),
    l < 192 → s.trunkFirst l = true → s.trState l = 6 → s.heard l 6 0 = true →
    NextWith (exec (.idleReqReceived l) s) fun t =>
      (t.trunk l).idleRx = ((s.trunk l).idleRx || (s.trunk l).idleTx || (s.idleOk l && s.quiet l)) ∧
      ((s.trunk l).idleTx = false → (t.trunk l).msg = (if s.idleOk l && s.quiet l then (7, 0) else (4, 0xFF))) ∧
      Keeps [] [.lines, .out] s t) ∧
  (∀ (s : State) (l : Nat),
    l < 192 → s.trunkFirst l = true → s.trState l = 6 → s.heard l 7 0 = true → (s.trunk l).idleTx = true →
    NextWith (exec (.idleAckReceived l) s) fun t =>
      (t.trunk l).idleRx = true ∧ Keeps [] [.lines] s t) ∧
  (∀ (s : State) (l : Nat),
    l < 192 → s.trunkFirst l = true → s.trState l = 6 → (s.trunk l).idleTx = true → (s.trunk l).idleRx = true →
    (s.trunk l).left = 0 → s.quiet l = true → s.portLanes l = [l] → s.looped l = false →
    NextWith (exec (.idleHandshakeComplete l) s) fun t =>
      t.trState l = 7 ∧ t.oper l = 4 ∧ t.rd (Reg.LN_CNT l 12) = s.rd (Reg.LN_CNT l 12) + 1 ∧ (t.trunk l).exiting = false ∧
      KeepsIn (Scope.link ++ [RegSet.each (Reg.KT_FREQ 0) 0x100 8, RegSet.each (Reg.LN_TRUNK_STATUS 0) 0x4000 256, RegSet.each (Reg.LN_CNT 0 12) 0x4000 256]) [.dev, .host, .scans, .kettle, .vane, .phase, .slices, .fab, .lines, .tt, .freeCtr] s t) ∧
  (∀ (s : State) (l : Nat),
    l < 192 → s.isTrunk l = true → s.isTrunk (s.lanePort l) = true → s.oper (s.lanePort l) = 4 →
    (s.trunk (s.lanePort l)).exiting = false →
    NextWith (exec (.idleActivityDetected l) s) fun t =>
      (t.trunk (s.lanePort l)).exiting = true ∧ Keeps [] [.lines, .out] s t) ∧
  (∀ (s : State) (l : Nat),
    l < 192 → s.trunkFirst l = true → s.trState l = 7 → (s.trunk l).exiting = true → s.looped l = false →
    NextWith (exec (.idleExitTimeout l) s) fun t =>
      t.trState l = 1 ∧ t.oper l = 1 ∧ t.trunkStep l = 0 ∧ t.rd (Reg.LN_CNT l 13) = s.rd (Reg.LN_CNT l 13) + 1 ∧
      KeepsIn (Scope.link ++ Scope.lanes ++ [RegSet.each (Reg.KT_FREQ 0) 0x100 8, RegSet.each (Reg.LN_CNT 0 13) 0x4000 256]) [.dev, .host, .scans, .kettle, .vane, .phase, .slices, .fab, .lines, .tt, .freeCtr] s t) ∧
  (∀ (s : State) (l : Nat),
    l < 192 → s.laneMode l ≠ 0 → s.powered (sliceOf l) = true → s.fld (F.LN_STATUS.LOS l) = 0 → s.fld (F.LN_STATUS.LOL l) = 0 →
    s.oper (s.lanePort l) ≠ 4 →
    NextWith (exec (.losAssert l) s) fun t =>
      t.fld (F.LN_STATUS.LOS l) = 1 ∧ t.fld (F.LN_STATUS.LOL l) = 1 ∧ t.rd (Reg.LN_CNT l 0) = s.rd (Reg.LN_CNT l 0) + 1 ∧
      t.rd (Reg.LN_CNT l 1) = s.rd (Reg.LN_CNT l 1) + 1 ∧ t.fld (F.LN_FLAGS.LOS l) = 1 ∧
      t.oper (s.lanePort l) = s.oper (s.lanePort l) ∧
      KeepsIn (Scope.vane ++ [RegSet.each (Reg.LN_FLAGS 0) 0x4000 256, RegSet.each (Reg.LN_STATUS 0) 0x4000 256, RegSet.each (Reg.LN_CNT 0 1) 0x4000 256, RegSet.each (Reg.LN_CNT 0 0) 0x4000 256]) [.vane] s t) ∧
  (∀ (s : State) (l : Nat),
    l < 192 → s.laneMode l ≠ 0 → s.powered (sliceOf l) = true → s.oper (s.lanePort l) ≠ 1 →
    NextWith (exec (.losDeassert l) s) fun t =>
      t.fld (F.LN_STATUS.LOS l) = 0 ∧ Keeps [Reg.LN_STATUS l] [] s t) ∧
  (∀ (s : State) (l : Nat),
    l < 192 → s.laneMode l ≠ 0 → s.powered (sliceOf l) = true → s.oper (s.lanePort l) = 1 → s.looped (s.lanePort l) = false →
    NextWith (exec (.losDeassert l) s) fun t =>
      t.fld (F.LN_STATUS.LOS l) = 0 ∧ t.oper (s.lanePort l) = 2 ∧
      KeepsIn (Scope.link ++ [RegSet.each (Reg.KT_FREQ 0) 0x100 8, RegSet.each (Reg.LN_STATUS 0) 0x4000 256]) [.dev, .host, .scans, .kettle, .vane, .phase, .slices, .fab, .lines, .tt, .freeCtr] s t) ∧
  (∀ (s : State) (l : Nat),
    l < 192 → s.laneMode l ≠ 0 → s.powered (sliceOf l) = true → s.fld (F.LN_STATUS.LOL l) = 0 → s.oper (s.lanePort l) ≠ 4 →
    NextWith (exec (.lolAssert l) s) fun t =>
      t.fld (F.LN_STATUS.LOL l) = 1 ∧ t.rd (Reg.LN_CNT l 1) = s.rd (Reg.LN_CNT l 1) + 1 ∧ t.fld (F.LN_FLAGS.LOL l) = 1 ∧
      KeepsIn (Scope.vane ++ [RegSet.each (Reg.LN_FLAGS 0) 0x4000 256, RegSet.each (Reg.LN_STATUS 0) 0x4000 256, RegSet.each (Reg.LN_CNT 0 1) 0x4000 256]) [.vane] s t) ∧
  (∀ (s : State) (l : Nat),
    l < 192 → s.laneMode l ≠ 0 → s.powered (sliceOf l) = true → s.fld (F.LN_STATUS.LOS l) = 0 → s.oper (s.lanePort l) ≠ 0 →
    NextWith (exec (.lolDeassert l) s) fun t =>
      t.fld (F.LN_STATUS.LOL l) = 0 ∧ (t.chan l).rx = PhFit.fresh ∧
      KeepsIn (Scope.vane ++ [RegSet.each (Reg.LN_STATUS 0) 0x4000 256]) [.vane, .phase] s t) ∧
  (∀ (s : State) (l : Nat),
    l < 192 → s.portUsed (s.lanePort l) = true → s.oper (s.lanePort l) = 3 →
    (s.fld (F.LN_STATUS.LOS l) = 1 ∨ s.fld (F.LN_STATUS.LOL l) = 1) → s.looped (s.lanePort l) = false →
    NextWith (exec (.losLolPersist l) s) fun t =>
      t.oper (s.lanePort l) = 1 ∧ t.rd (Reg.LN_CNT (s.lanePort l) 15) = s.rd (Reg.LN_CNT (s.lanePort l) 15) + 1 ∧
      t.fld (F.LN_FLAGS.DOWN (s.lanePort l)) = 1 ∧ (s.isTrunk (s.lanePort l) = true → t.trState (s.lanePort l) = 1) ∧
      KeepsIn (Scope.link ++ Scope.lanes ++ [RegSet.each (Reg.KT_FREQ 0) 0x100 8, RegSet.each (Reg.LN_FLAGS 0) 0x4000 256, RegSet.each (Reg.LN_CNT 0 2) 0x4000 256, RegSet.each (Reg.LN_CNT 0 15) 0x4000 256]) [.dev, .host, .scans, .kettle, .vane, .phase, .slices, .fab, .lines, .tt, .freeCtr] s t) ∧
  (∀ (s : State) (l : Nat),
    l < 192 → s.laneMode l ≠ 0 → s.isTrunk l = false → s.lanePort l = l → s.portLanes l = [l] → s.trains l = true →
    s.fld (F.LN_STATUS.LOS l) = 0 → s.looped l = false →
    NextWith (exec (.laneLockAcquired l) s) fun t =>
      t.fld (F.LN_STATUS.LOCK l) = 1 ∧ t.oper l = 3 ∧
      KeepsIn (Scope.link ++ Scope.lanes ++ [RegSet.each (Reg.KT_FREQ 0) 0x100 8]) [.dev, .host, .scans, .kettle, .vane, .phase, .slices, .fab, .lines, .tt, .freeCtr] s t) ∧
  (∀ (s : State) (l : Nat),
    l < 192 → s.laneMode l ≠ 0 → s.trains (s.lanePort l) = true → s.fld (F.LN_STATUS.FIRST_DONE l) = 0 →
    s.looped (s.lanePort l) = false →
    NextWith (exec (.firstAttemptTimeout l) s) fun t =>
      t.fld (F.LN_STATUS.FIRST_DONE l) = 1 ∧
      (t.oper (s.lanePort l) = (if s.oper (s.lanePort l) = 2 ∧ (s.isTrunk (s.lanePort l) = false ∨ s.mode = 3) then 1 else s.oper (s.lanePort l))) ∧
      KeepsIn (Scope.link ++ [RegSet.each (Reg.KT_FREQ 0) 0x100 8, RegSet.each (Reg.LN_STATUS 0) 0x4000 256]) [.dev, .host, .scans, .kettle, .vane, .phase, .slices, .fab, .lines, .tt, .freeCtr] s t) ∧
  (∀ (s : State) (l width height : Nat),
    l < 192 → s.laneMode l ≠ 0 → s.oper (s.lanePort l) ≠ 4 → s.oper (s.lanePort l) ≠ 0 →
    NextWith (exec (.eyeMeasurement l width height) s) fun t =>
      t.fld (F.LN_EYE.WIDTH l) = min 128 width ∧ t.fld (F.LN_EYE.HEIGHT l) = min 1023 height ∧ t.fld (F.LN_EYE.VALID l) = 1 ∧
      (t.fld (F.LN_STATUS.EYE_LOW l) = (if width < 32 ∨ height < 30 then 1 else 0)) ∧
      (width < 32 ∨ height < 30 → t.fld (F.LN_FLAGS.EYE_LOW l) = 1) ∧
      Keeps [Reg.LN_EYE l, Reg.LN_STATUS l, Reg.LN_FLAGS l] [] s t)

/-- Lane resets, loopbacks, port resets and admin states act by R48, R49 and R123. LANE_RESET of a standard port that trains retrains it
with a new first attempt; LANE_LOOP_PRBS_WRITE in PROBE sets both fields and shows LOOPBACK while a loopback is set; PORT_RESET flushes
and retrains; PORT_ADMIN_DOWN disables the port and PORT_ADMIN_UP starts its training. Beside this, each clause names the registers and
parts that may change; everything else is kept. It rests on R48, R49, R58, R115, R123, Table 02.10 (02_modes_power_resets.md). Beside the
spec it rests on the model's choices of log entries 32, 45, 54. -/
def Obligations.HostControlsLanesAndPorts : Prop :=
  (∀ (s : State) (l : Nat),
    l < 192 → s.hostOpen → s.laneMode l ≠ 0 → s.powered (sliceOf l) = true → s.fld (F.LN_CTRL.LOOP l) = 0 →
    s.fld (F.LN_CTRL.PRBS l) = 0 → s.trains (s.lanePort l) = true → s.isTrunk (s.lanePort l) = false →
    s.portLanes (s.lanePort l) = [l] → s.oper (s.lanePort l) ≠ 5 →
    NextWith (exec (.laneReset l) s) fun t =>
      t.oper (s.lanePort l) = 2 ∧ t.fld (F.LN_STATUS.FIRST_DONE l) = 0 ∧ t.fld (F.LN_STATUS.LOCK l) = 0 ∧
      t.fld (F.LN_EYE.VALID l) = 0 ∧
      KeepsIn (Scope.link ++ Scope.lanes ++ [RegSet.each (Reg.KT_FREQ 0) 0x100 8, RegSet.each (Reg.LN_EYE 0) 0x4000 256, RegSet.each (Reg.LN_CTRL 0) 0x4000 256]) [.dev, .host, .scans, .kettle, .vane, .phase, .slices, .fab, .lines, .tt, .freeCtr] s t) ∧
  (∀ (s : State) (l : Nat) (loop prbs : BitVec 2),
    l < 192 → s.hostOpen → s.laneMode l ≠ 0 → s.powered (sliceOf l) = true → s.mode = Mode.PROBE → loop ≠ 0 → loop ≠ 3 →
    prbs.toNat < 2 → s.portLanes (s.lanePort l) = [l] → s.oper (s.lanePort l) ≠ 0 →
    NextWith (exec (.laneLoopPrbsWrite l loop prbs) s) fun t =>
      t.fld (F.LN_CTRL.LOOP l) = loop.toNat ∧ t.fld (F.LN_CTRL.PRBS l) = prbs.toNat ∧ t.oper (s.lanePort l) = 5 ∧
      KeepsIn (Scope.link ++ Scope.lanes ++ [RegSet.each (Reg.KT_FREQ 0) 0x100 8, RegSet.each (Reg.LN_EYE 0) 0x4000 256, RegSet.each (Reg.LN_CTRL 0) 0x4000 256]) [.dev, .host, .scans, .kettle, .vane, .phase, .slices, .fab, .lines, .tt, .freeCtr] s t) ∧
  (∀ (s : State) (p : Nat),
    p < 192 → s.hostOpen → s.portUsed p = true → s.powered (sliceOf p) = true → s.fld (F.PRT_STATE.ADMIN p) = 1 →
    s.trains p = true → s.portLanes p = [p] → s.looped p = false →
    NextWith (exec (.portReset p) s) fun t =>
      t.oper p = 2 ∧ t.fld (F.LN_STATUS.FIRST_DONE p) = 0 ∧ t.fld (F.PRT_STATE.ADMIN p) = 1 ∧
      (∀ i < 4, ∀ e ∈ (t.slice i).fdb.entries, e.2.isStatic = false → e.2.group = false → e.2.dest ≠ p) ∧
      KeepsIn (Scope.link ++ Scope.lanes ++ [RegSet.each (Reg.KT_FREQ 0) 0x100 8, RegSet.each (Reg.PRT_FAB_CNT 0 6) 0x10000 256, RegSet.each (Reg.LN_EYE 0) 0x4000 256]) [.dev, .host, .scans, .kettle, .vane, .phase, .slices, .fab, .lines, .tt, .freeCtr] s t) ∧
  (∀ (s : State) (p : Nat),
    p < 192 → s.hostOpen → s.portUsed p = true → s.fld (F.PRT_STATE.ADMIN p) ≠ 0 →
    NextWith (exec (.portAdminDown p) s) fun t =>
      t.fld (F.PRT_STATE.ADMIN p) = 0 ∧ t.oper p = 0 ∧ (s.isTrunk p = true → t.trState p = 0) ∧
      KeepsIn (Scope.link ++ Scope.lanes ++ [RegSet.each (Reg.KT_FREQ 0) 0x100 8, RegSet.each (Reg.PRT_FAB_CNT 0 6) 0x10000 256, RegSet.each (Reg.LN_EYE 0) 0x4000 256]) [.dev, .host, .scans, .kettle, .vane, .phase, .slices, .fab, .lines, .tt, .freeCtr] s t) ∧
  (∀ (s : State) (p : Nat),
    p < 192 → s.hostOpen → s.portUsed p = true → s.fld (F.PRT_STATE.ADMIN p) = 0 → s.powered (sliceOf p) = true →
    s.slc (sliceOf p) ≠ Slc.DARK → s.dev.slcPhase.getD (sliceOf p) 0 ≠ 1 → Mode.STEEP < s.mode → s.looped p = false →
    NextWith (exec (.portAdminUp p) s) fun t =>
      t.fld (F.PRT_STATE.ADMIN p) = 1 ∧ t.oper p = 2 ∧ (s.isTrunk p = true → t.trState p = 1 ∧ t.trunkStep p = 0) ∧
      KeepsIn (Scope.link ++ Scope.lanes ++ [RegSet.each (Reg.KT_FREQ 0) 0x100 8, RegSet.each (Reg.PRT_FAB_CNT 0 6) 0x10000 256, RegSet.each (Reg.LN_EYE 0) 0x4000 256]) [.dev, .host, .scans, .kettle, .vane, .phase, .slices, .fab, .lines, .tt, .freeCtr] s t)

/-- Learning requests are applied, stash entries move, entries age, moves are reported, and a fence waits. LEARN_REQUEST_APPLY takes the
oldest request: a new key is placed in a free way and counted; a static entry stays and is counted; an entry to another destination is
replaced and counted as a station move; an entry to the same port stays; where the slice does not learn the request is lost. STASH_MOVE
takes the one stash entry into a free way of its buckets; AGEING_VISIT clears a hit mark and the age mark, sets the age mark of an
unmarked entry, and removes an entry whose age mark stands, never a static one; MOVE_SECOND_END shows the moves of the second and starts
again at zero. FENCE_SET in a slice that is not DARK takes the table version and clears DONE; FENCE_DONE sets DONE once no frame that the
slice decided before that version is left. It rests on R144, R152, R153, R154, R146, R156, R157, R159. Beside the spec it rests on the
model's choices of log entries 17, 28. -/
def Obligations.StashLearningAgeingAndFences : Prop :=
  (∀ (s : State) (i n : Nat) (r : LearnReq) (rest : List LearnReq),
    i < 4 → (s.slice i).learn = r :: rest → s.learns i = true → 3 ≤ s.fdbLg i → (s.slice i).fdbFind (s.fdbLg i) r.key = none →
    (s.slice i).freeOf (fdbWays (s.fdbLg i) 0 r.key ++ fdbWays (s.fdbLg i) 1 r.key) = some n →
    NextWith (exec (.learnRequestApply i) s) fun t =>
      (t.slice i).fdb.get? n = some ⟨r.key, false, false, r.port⟩ ∧ (t.slice i).marks.get? n = none ∧ (t.slice i).learn = rest ∧
      t.rd (Reg.SLC_CNT i 0) = s.rd (Reg.SLC_CNT i 0) + 1 ∧
      t.fld (F.SLC_TBL_VER.VER i) = (s.fld (F.SLC_TBL_VER.VER i) + 1) % 2 ^ 32 ∧
      KeepsRep [Reg.SLC_CNT i 0, Reg.SLC_TBL_VER i] [.slices, .scans] s t) ∧
  (∀ (s : State) (i n : Nat) (e : FdbEntry) (r : LearnReq) (rest : List LearnReq),
    i < 4 → (s.slice i).learn = r :: rest → s.learns i = true → 3 ≤ s.fdbLg i → (s.slice i).fdbFind (s.fdbLg i) r.key = some n →
    (s.slice i).fdb.get? n = some e → e.isStatic = false → (e.group = true ∨ e.dest ≠ r.port) →
    NextWith (exec (.learnRequestApply i) s) fun t =>
      (t.slice i).fdb.get? n = some ⟨r.key, false, false, r.port⟩ ∧ (t.slice i).moves = (s.slice i).moves + 1 ∧
      (t.slice i).learn = rest ∧ t.rd (Reg.SLC_CNT i 0) = s.rd (Reg.SLC_CNT i 0) + 1 ∧
      t.rd (Reg.SLC_CNT i 3) = s.rd (Reg.SLC_CNT i 3) + 1 ∧
      t.fld (F.SLC_TBL_VER.VER i) = (s.fld (F.SLC_TBL_VER.VER i) + 1) % 2 ^ 32 ∧
      KeepsRep [Reg.SLC_CNT i 0, Reg.SLC_CNT i 3, Reg.SLC_TBL_VER i] [.slices, .scans] s t) ∧
  (∀ (s : State) (i n : Nat) (e : FdbEntry) (r : LearnReq) (rest : List LearnReq),
    i < 4 → (s.slice i).learn = r :: rest → s.learns i = true → (s.slice i).fdbFind (s.fdbLg i) r.key = some n →
    (s.slice i).fdb.get? n = some e → e.isStatic = true →
    NextWith (exec (.learnRequestApply i) s) fun t =>
      (t.slice i).fdb = (s.slice i).fdb ∧ (t.slice i).learn = rest ∧ t.rd (Reg.SLC_CNT i 4) = s.rd (Reg.SLC_CNT i 4) + 1 ∧
      Keeps [Reg.SLC_CNT i 4] [.slices] s t) ∧
  (∀ (s : State) (i n : Nat) (e : FdbEntry) (r : LearnReq) (rest : List LearnReq),
    i < 4 → (s.slice i).learn = r :: rest → (s.slice i).fdbFind (s.fdbLg i) r.key = some n → (s.slice i).fdb.get? n = some e →
    e.isStatic = false → e.group = false → e.dest = r.port →
    NextWith (exec (.learnRequestApply i) s) fun t =>
      (t.slice i).fdb = (s.slice i).fdb ∧ (t.slice i).learn = rest ∧ Keeps [] [.slices] s t) ∧
  (∀ (s : State) (i : Nat) (r : LearnReq) (rest : List LearnReq),
    i < 4 → (s.slice i).learn = r :: rest → s.learns i = false →
    NextWith (exec (.learnRequestApply i) s) fun t =>
      (t.slice i).fdb = (s.slice i).fdb ∧ (t.slice i).learn = rest ∧ Keeps [] [.slices] s t) ∧
  (∀ (s : State) (i n v : Nat) (e : FdbEntry),
    i < 4 → 3 ≤ s.fdbLg i → n ∈ fdbStash (s.fdbLg i) → (s.slice i).fdb.get? n = some e →
    (∀ m ∈ fdbStash (s.fdbLg i), m ≠ n → (s.slice i).fdb.get? m = none) →
    (s.slice i).freeOf (fdbWays (s.fdbLg i) 0 e.key ++ fdbWays (s.fdbLg i) 1 e.key) = some v →
    NextWith (exec (.stashMove i) s) fun t =>
      (t.slice i).fdb.get? v = some e ∧ (t.slice i).fdb.get? n = none ∧ t.rd (Reg.SLC_CNT i 8) = s.rd (Reg.SLC_CNT i 8) + 1 ∧
      Keeps [Reg.SLC_CNT i 8] [.slices, .scans] s t) ∧
  (∀ (s : State) (i n : Nat) (e : FdbEntry),
    i < 4 → s.learns i = true → (s.slice i).fdb.get? n = some e → e.isStatic = false →
    bitAt ((s.slice i).marks.getD n 0) 0 = true →
    NextWith (exec (.ageingVisit i n) s) fun t =>
      (t.slice i).marks.get? n = none ∧ (t.slice i).fdb = (s.slice i).fdb ∧ Keeps [] [.slices] s t) ∧
  (∀ (s : State) (i n : Nat) (e : FdbEntry),
    i < 4 → s.learns i = true → (s.slice i).fdb.get? n = some e → e.isStatic = false →
    bitAt ((s.slice i).marks.getD n 0) 0 = false → bitAt ((s.slice i).marks.getD n 0) 1 = false →
    NextWith (exec (.ageingVisit i n) s) fun t =>
      (t.slice i).marks.get? n = some 2 ∧ (t.slice i).fdb = (s.slice i).fdb ∧ Keeps [] [.slices] s t) ∧
  (∀ (s : State) (i n : Nat) (e : FdbEntry),
    i < 4 → s.learns i = true → (s.slice i).fdb.get? n = some e → e.isStatic = false →
    bitAt ((s.slice i).marks.getD n 0) 0 = false → bitAt ((s.slice i).marks.getD n 0) 1 = true →
    NextWith (exec (.ageingVisit i n) s) fun t =>
      (t.slice i).fdb.get? n = none ∧ (∀ m < 1024, m ≠ n → (t.slice i).fdb.get? m = (s.slice i).fdb.get? m) ∧
      t.rd (Reg.SLC_CNT i 5) = s.rd (Reg.SLC_CNT i 5) + 1 ∧ KeepsRep [Reg.SLC_CNT i 5, Reg.SLC_TBL_VER i] [.slices, .scans] s t) ∧
  (∀ (s : State) (i n : Nat) (e : FdbEntry),
    i < 4 → (s.slice i).fdb.get? n = some e → e.isStatic = true →
    NextWith (exec (.ageingVisit i n) s) fun t =>
      t = s) ∧
  (∀ (s : State) (i : Nat),
    i < 4 →
    NextWith (exec (.moveSecondEnd i) s) fun t =>
      (t.slice i).moves = 0 ∧ t.fld (F.SLC_MOVE.LAST i) = min (s.slice i).moves 0xFFFF ∧ (t.slice i).fdb = (s.slice i).fdb ∧
      ((s.slice i).moves ≤ s.fld (F.SLC_MOVE.THRESH i) → t.irq = s.irq ∧ t.spout = s.spout) ∧
      KeepsRep [Reg.SLC_MOVE i] [.slices] s t) ∧
  (∀ (s : State) (i : Nat) (ev : Bool),
    i < 4 → s.hostOpen → s.slc i ≠ Slc.DARK →
    NextWith (exec (.fenceSet i ev) s) fun t =>
      t.fld (F.SLC_FENCE_VER.F i) = s.fld (F.SLC_TBL_VER.VER i) ∧ t.fld (F.SLC_FENCE.DONE i) = 0 ∧
      t.fld (F.SLC_FENCE.FENCE_EV i) = b2n ev ∧ KeepsRep [Reg.SLC_FENCE_VER i, Reg.SLC_FENCE i] [] s t) ∧
  (∀ (s : State) (i : Nat),
    i < 4 → s.fld (F.SLC_FENCE.DONE i) = 0 → s.fenceClear i (s.fld (F.SLC_FENCE_VER.F i)) = true →
    NextWith (exec (.fenceDone i) s) fun t =>
      t.fld (F.SLC_FENCE.DONE i) = 1 ∧ (s.fld (F.SLC_FENCE.FENCE_EV i) = 0 → t.irq = s.irq ∧ t.spout = s.spout) ∧
      KeepsRep [Reg.SLC_FENCE i] [] s t) ∧
  (∀ (s : State) (i : Nat),
    i < 4 → s.fenceClear i (s.fld (F.SLC_FENCE_VER.F i)) = false →
    NextWith (exec (.fenceDone i) s) fun t =>
      t = s)

/-- Table access windows run WRITE, DELETE, READ, RAW and FLUSH. A legal window command for a powered slice outside RECONF, and for a
change outside FAULT, takes effect at once and is busy until TW_COMMAND_DONE, which shows its result, or ABORTED where the slice has left
ACTIVE: WRITE stores a static FDB entry by key, a stream entry or a classifier record by index; DELETE removes them; READ and RAW report
them; FLUSH removes the entries it selects. Beside this, each clause names the registers and parts that may change; everything else is
kept. It rests on R157, R161, R162. Beside the spec it rests on the model's choices of log entry 29. -/
def Obligations.TableWindowsRunTheirCommands : Prop :=
  (∀ (s : State) (w n : Nat),
    w < 4 → s.hostOpen → s.fld (F.TW_STATUS.BUSY w) = 0 → s.powered w = true → s.slc w ≠ Slc.RECONF → s.slc w ≠ Slc.FAULT →
    s.isMutable 0 = true → 3 ≤ s.fdbLg w → (s.fld (F.TW_FDB.GROUP w) = 1 ∨ s.portUsed (s.fld (F.TW_FDB.DEST w)) = true) →
    ((s.slice w).fdbFind (s.fdbLg w) (s.twKey w) = some n ∨ ((s.slice w).fdbFind (s.fdbLg w) (s.twKey w) = none ∧ (s.slice w).freeOf (fdbWays (s.fdbLg w) 0 (s.twKey w) ++ fdbWays (s.fdbLg w) 1 (s.twKey w)) = some n)) →
    NextWith (exec (.twWrite w 0) s) fun t =>
      (t.slice w).fdb.get? n = some ⟨s.twKey w, true, s.fld (F.TW_FDB.GROUP w) == 1, s.fld (F.TW_FDB.DEST w)⟩ ∧
      t.fld (F.TW_STATUS.BUSY w) = 1 ∧ (t.slice w).tw = some ⟨s.slc w == Slc.ACTIVE, 0, some (0, false), none, none, none⟩ ∧
      t.fld (F.SLC_TBL_VER.VER w) = (s.fld (F.SLC_TBL_VER.VER w) + 1) % 2 ^ 32 ∧
      KeepsRep [Reg.TW_STATUS w, Reg.SLC_TBL_VER w] [.slices, .scans] s t) ∧
  (∀ (s : State) (w : Nat),
    w < 4 → s.hostOpen → s.fld (F.TW_STATUS.BUSY w) = 0 → s.powered w = true → s.slc w ≠ Slc.RECONF → s.slc w ≠ Slc.FAULT →
    s.isMutable 1 = true → s.fld (F.TW_INDEX.INDEX w) < s.streamEntries w →
    strIllegal (s.streamEntries w) (s.fld (F.TW_INDEX.INDEX w)) (s.twData w 4) = false →
    NextWith (exec (.twWrite w 1) s) fun t =>
      (t.slice w).streams.getD (s.fld (F.TW_INDEX.INDEX w)) 0 = s.twData w 4 ∧ (t.slice w).fdb = (s.slice w).fdb ∧
      t.fld (F.TW_STATUS.BUSY w) = 1 ∧ t.fld (F.SLC_TBL_VER.VER w) = (s.fld (F.SLC_TBL_VER.VER w) + 1) % 2 ^ 32 ∧
      KeepsRep [Reg.TW_STATUS w, Reg.SLC_TBL_VER w] [.slices, .scans] s t) ∧
  (∀ (s : State) (w : Nat),
    w < 4 → s.hostOpen → s.fld (F.TW_STATUS.BUSY w) = 0 → s.powered w = true → s.slc w ≠ Slc.RECONF → s.slc w ≠ Slc.FAULT →
    s.isMutable 1 = true → s.fld (F.TW_INDEX.INDEX w) < clsLimit (s.clsEntries w) (clsType (s.twData w 16)) →
    s.fld (F.TW_INDEX.INDEX w) < s.clsEntries w → clsZero (s.twData w 16) = false → s.clsIllegal w (s.twData w 16) = false →
    clsType (s.twData w 16) ≠ 4 →
    NextWith (exec (.twWrite w 2) s) fun t =>
      (t.slice w).cls.getD (s.fld (F.TW_INDEX.INDEX w)) 0 = s.twData w 16 ∧
      (clsType (s.twData w 16) = 5 → (t.slice w).meters.get? (s.fld (F.TW_INDEX.INDEX w)) = some (meterFull (s.twData w 16) s.cycle)) ∧
      (t.slice w).fdb = (s.slice w).fdb ∧ t.fld (F.TW_STATUS.BUSY w) = 1 ∧
      KeepsRep [Reg.TW_STATUS w, Reg.SLC_TBL_VER w] [.slices, .scans] s t) ∧
  (∀ (s : State) (w n : Nat),
    w < 4 → s.hostOpen → s.fld (F.TW_STATUS.BUSY w) = 0 → s.powered w = true → s.slc w ≠ Slc.RECONF → s.slc w ≠ Slc.FAULT →
    s.isMutable 0 = true → (s.slice w).fdbFind (s.fdbLg w) (s.twKey w) = some n →
    NextWith (exec (.twDelete w 0) s) fun t =>
      (t.slice w).fdb.get? n = none ∧ t.fld (F.TW_STATUS.BUSY w) = 1 ∧
      (t.slice w).tw = some ⟨s.slc w == Slc.ACTIVE, 0, none, none, none, none⟩ ∧
      KeepsRep [Reg.TW_STATUS w, Reg.SLC_TBL_VER w] [.slices, .scans] s t) ∧
  (∀ (s : State) (w : Nat) (k : BitVec 2),
    w < 4 → s.hostOpen → s.fld (F.TW_STATUS.BUSY w) = 0 → s.powered w = true → s.slc w ≠ Slc.RECONF → s.slc w ≠ Slc.FAULT →
    s.isMutable 1 = true → (k = 1 → s.fld (F.TW_INDEX.INDEX w) < s.streamEntries w) →
    (k = 2 → s.fld (F.TW_INDEX.INDEX w) < s.clsEntries w) → (k = 1 ∨ k = 2) →
    NextWith (exec (.twDelete w k) s) fun t =>
      (k = 1 → (t.slice w).streams.getD (s.fld (F.TW_INDEX.INDEX w)) 0 = 0) ∧
      (k = 2 → (t.slice w).cls.getD (s.fld (F.TW_INDEX.INDEX w)) 0 = 0) ∧ t.fld (F.TW_STATUS.BUSY w) = 1 ∧
      (t.slice w).fdb = (s.slice w).fdb ∧ KeepsRep [Reg.TW_STATUS w, Reg.SLC_TBL_VER w] [.slices, .scans] s t) ∧
  (∀ (s : State) (w : Nat),
    w < 4 → s.hostOpen → s.fld (F.TW_STATUS.BUSY w) = 0 → s.powered w = true → s.slc w ≠ Slc.RECONF →
    NextWith (exec (.twRead w 0) s) fun t =>
      ((t.slice w).tw = some (match (s.slice w).fdbFind (s.fdbLg w) (s.twKey w) with | none => ⟨s.slc w == Slc.ACTIVE, 1, none, none, some 0, none⟩ | some n => ⟨s.slc w == Slc.ACTIVE, 0, none, none, ((s.slice w).fdb.get? n).map ((s.slice w).twFdb (s.fdbLg w) n), none⟩)) ∧
      t.fld (F.TW_STATUS.BUSY w) = 1 ∧ (t.slice w).fdb = (s.slice w).fdb ∧ KeepsRep [Reg.TW_STATUS w] [.slices] s t) ∧
  (∀ (s : State) (w : Nat) (k : BitVec 2),
    w < 4 → s.hostOpen → s.fld (F.TW_STATUS.BUSY w) = 0 → s.powered w = true → s.slc w ≠ Slc.RECONF → (k = 1 ∨ k = 2) →
    (k = 1 → s.fld (F.TW_INDEX.INDEX w) < s.streamEntries w) → (k = 2 → s.fld (F.TW_INDEX.INDEX w) < s.clsEntries w) →
    NextWith (exec (.twRead w k) s) fun t =>
      ((t.slice w).tw = some ⟨s.slc w == Slc.ACTIVE, 0, none, none, none, some (if k = 1 then (4, s.streamEntry w (s.fld (F.TW_INDEX.INDEX w))) else (16, s.clsRecord w (s.fld (F.TW_INDEX.INDEX w))))⟩) ∧
      t.fld (F.TW_STATUS.BUSY w) = 1 ∧ KeepsRep [Reg.TW_STATUS w] [.slices] s t) ∧
  (∀ (s : State) (w : Nat) (k : BitVec 2),
    w < 4 → s.hostOpen → s.fld (F.TW_STATUS.BUSY w) = 0 → s.powered w = true → s.slc w ≠ Slc.RECONF → (k = 0 ∨ k = 3) →
    (k = 0 → s.fld (F.TW_INDEX.INDEX w) < 2 ^ s.fdbLg w) → (k = 3 → s.fld (F.TW_INDEX.INDEX w) < 8) →
    NextWith (exec (.twRaw w k) s) fun t =>
      t.fld (F.TW_STATUS.BUSY w) = 1 ∧
      ((t.slice w).tw.map (·.key) = some (some ((((s.slice w).fdb.get? (if k = 3 then 2 ^ s.fdbLg w + s.fld (F.TW_INDEX.INDEX w) else s.fld (F.TW_INDEX.INDEX w))).map (·.key)).getD 0))) ∧
      (t.slice w).fdb = (s.slice w).fdb ∧ KeepsRep [Reg.TW_STATUS w] [.slices] s t) ∧
  (∀ (s : State) (w : Nat),
    w < 4 → s.hostOpen → s.fld (F.TW_STATUS.BUSY w) = 0 → s.powered w = true → s.slc w ≠ Slc.RECONF → s.slc w ≠ Slc.FAULT →
    s.isMutable 0 = true →
    NextWith (exec (.twFlush w 0) s) fun t =>
      (∀ e ∈ (t.slice w).fdb.entries, e ∈ (s.slice w).fdb.entries ∧ ((e.2.isStatic = true ∧ s.fld (F.TW_FLUSH.STATIC_TOO w) = 0) ∨ (s.fld (F.TW_FLUSH.PORT_EN w) = 1 ∧ (e.2.group = true ∨ e.2.dest ≠ s.fld (F.TW_FLUSH.PORT w))) ∨ (s.fld (F.TW_FLUSH.VLAN_EN w) = 1 ∧ e.2.key / 2 ^ 48 ≠ s.fld (F.TW_FLUSH.VLAN w)))) ∧
      t.fld (F.TW_STATUS.BUSY w) = 1 ∧
      t.rd (Reg.SLC_CNT w 6) = s.rd (Reg.SLC_CNT w 6) + BitVec.ofNat 64 ((s.slice w).fdb.entries.length - (t.slice w).fdb.entries.length) ∧
      KeepsRep [Reg.TW_STATUS w, Reg.SLC_TBL_VER w, Reg.SLC_CNT w 6] [.slices, .scans] s t) ∧
  (∀ (s : State) (w : Nat) (p : TwPend),
    w < 4 → (s.slice w).tw = some p → (p.active = true → s.slc w = Slc.ACTIVE) → p.result < 4 →
    NextWith (exec (.twCommandDone w) s) fun t =>
      t.fld (F.TW_STATUS.BUSY w) = 0 ∧ t.fld (F.TW_STATUS.RESULT w) = p.result ∧
      t.fld (F.TW_STATUS.SEQ w) = (s.fld (F.TW_STATUS.SEQ w) + 1) % 2 ^ 16 ∧ (t.slice w).tw = none ∧
      (t.slice w).fdb = (s.slice w).fdb ∧ (∀ v, p.fdb = some v → t.rd (Reg.TW_FDB w) = BitVec.ofNat 64 v) ∧
      (∀ k, p.key = some k → t.twKey w = k % 2 ^ 60) ∧
      (p.data.map Prod.fst = some 16 → t.twData w 16 = (p.data.map Prod.snd).getD 0 % 2 ^ 512) ∧
      (p.data.map Prod.fst = some 4 → t.twData w 4 = (p.data.map Prod.snd).getD 0 % 2 ^ 128) ∧
      KeepsIn [RegSet.one (Reg.TW_STATUS w), RegSet.one (Reg.TW_KEY_LO w), RegSet.one (Reg.TW_KEY_HI w), RegSet.one (Reg.TW_FDB w), RegSet.each (Reg.TW_DATA w 0) 0x4 16] [.slices] s t) ∧
  (∀ (s : State) (w : Nat) (p : TwPend),
    w < 4 → (s.slice w).tw = some p → p.active = true → s.slc w ≠ Slc.ACTIVE →
    NextWith (exec (.twCommandDone w) s) fun t =>
      t.fld (F.TW_STATUS.BUSY w) = 0 ∧ t.fld (F.TW_STATUS.RESULT w) = 3 ∧ (t.slice w).tw = none ∧
      Keeps [Reg.TW_STATUS w] [.slices] s t)

/-- Epoch boundaries match outputs and move cells. EPOCH_BOUNDARY counts an epoch in every mode from STEEP on; during a scheduler reset
nothing else happens but that its epochs run down; one waiting frame for a free UP output whose landing can be secured is matched and
leaves its queue; a crossing frame with cells left sends one. Beside this, each clause names the registers and parts that may change;
everything else is kept. It rests on R181, R182, R183, R359. Beside the spec it rests on the model's choices of log entry 35. -/
def Obligations.EpochsMatchAndCross : Prop :=
  (∀ (s : State),
    Mode.STEEP ≤ s.mode → 0 < s.fab.hold →
    NextWith (exec (.epochBoundary) s) fun t =>
      t.fab.hold = s.fab.hold - 1 ∧ t.fab.epoch = s.fab.epoch + 1 ∧ t.fab.voq = s.fab.voq ∧
      t.rd (Reg.FAB_CNT 0) = s.rd (Reg.FAB_CNT 0) + 1 ∧ KeepsRep [Reg.FAB_CNT 0] [.fab] s t) ∧
  (∀ (s : State) (i n c : Nat) (f : Frame) (x : Nat × Nat × Nat),
    Mode.STEEP ≤ s.mode → i < 4 → n < 192 → c < 8 → s.fab.hold = 0 → s.fab.cross = [] →
    s.fab.voq = SMap.empty.put (voqKey i n c) ⟨[f], [], 0⟩ → f.slice = i → f.cls = c → s.fab.mc = SMap.empty →
    s.fab.mcq = SMap.empty → s.fab.res = SMap.empty → bitAt s.dev.recov 4 = false → s.operUp (s.lanePort n) = true →
    s.doomed f = false → s.landPlan (s.lanePort n) f.cells = some x → s.cycle < f.entry + 1250000000 →
    NextWith (exec (.epochBoundary) s) fun t =>
      (t.fab.cross.map (fun y => (y.out, y.copy.fr, y.mc, y.sent)) = [(n, f, none, 0)]) ∧ (t.voqAt (voqKey i n c)).sram = [] ∧
      t.fab.epoch = s.fab.epoch + 1 ∧ t.rd (Reg.FAB_CNT 0) = s.rd (Reg.FAB_CNT 0) + 1 ∧ t.fab.eg = s.fab.eg ∧
      KeepsIn (Scope.buffers ++ Scope.queues ++ [RegSet.each (Reg.CD_RP_STATUS 0) 0x100 8, RegSet.one Reg.ST_HEALTH, RegSet.each (Reg.BPM_POOL_LOW 0) 0x4 5, RegSet.each (Reg.PRT_EG_CNT 0 7) 0x10000 256, RegSet.each (Reg.PRT_EG_CNT 0 9) 0x10000 256, RegSet.each (Reg.PRT_EG_CNT 0 4) 0x10000 256, RegSet.each (Reg.PRT_EG_CNT 0 5) 0x10000 256, RegSet.each (Reg.PRT_EG_CNT 0 6) 0x10000 256, RegSet.each (Reg.FAB_FRER_CNT 0) 0x8 8, RegSet.each (Reg.PRT_FAB_CNT 0 1) 0x10000 256, RegSet.each (Reg.PRT_FAB_CNT 0 3) 0x10000 256, RegSet.each (Reg.PRT_FAB_CNT 0 2) 0x10000 256, RegSet.each (Reg.SLC_CNT 0 14) 0x400000 4, RegSet.each (Reg.PRT_FAB_CNT 0 6) 0x10000 256, RegSet.each (Reg.PRT_FAB_CNT 0 7) 0x10000 256, RegSet.each (Reg.FAB_CNT 0) 0x8 10]) [.dev, .host, .kettle, .fab, .lines, .freeCtr] s t) ∧
  (∀ (s : State) (x : Crossing),
    Mode.STEEP ≤ s.mode → s.fab.hold = 0 → s.fab.voq = SMap.empty → s.fab.cross = [x] → x.out < 192 →
    x.sent + 1 < x.copy.fr.cells → s.fab.mc = SMap.empty → s.fab.mcq = SMap.empty → s.fab.res = SMap.empty →
    bitAt s.dev.recov 4 = false →
    NextWith (exec (.epochBoundary) s) fun t =>
      t.fab.cross = [{ x with sent := x.sent + 1 }] ∧ t.rd (Reg.FAB_CNT 0) = s.rd (Reg.FAB_CNT 0) + 1 ∧
      t.rd (Reg.FAB_CNT (1 + x.out % 4)) = s.rd (Reg.FAB_CNT (1 + x.out % 4)) + 1 ∧
      KeepsRep [Reg.FAB_CNT 0, Reg.FAB_CNT (1 + x.out % 4)] [.fab] s t) ∧
  (∀ (s : State),
    s.mode < Mode.STEEP →
    NextWith (exec (.epochBoundary) s) fun t =>
      t = s)

/-- The scheduler reset, the residence sweep and the residue timeout end frames. SCHEDULER_WATCHDOG_EXPIRY cuts every unfinished crossing,
counts each cut frame and holds crossing for 16 epochs; RESIDENCE_SWEEP leaves no overdue frame in a VOQ; RESIDUE_TIMEOUT of a frame whose
one outstanding copy is on the plane drops and counts that copy and ends the frame. Beside this, each clause names the registers and parts
that may change; everything else is kept. It rests on R187, R189, R359, Table 06.10 (06_fabric_and_buffers.md). Beside the spec it rests
on the model's choices of log entries 34, 38. -/
def Obligations.SchedulerResetsAndSweepsBound : Prop :=
  (∀ (s : State),
    Mode.STEEP ≤ s.mode → s.dev.recov = 0 → (∀ x ∈ s.fab.cross, x.mc = none) →
    NextWith (exec (.schedulerWatchdogExpiry) s) fun t =>
      t.fab.cross = [] ∧ t.fab.hold = 16 ∧ bitAt t.dev.recov 4 = true ∧ t.mode = s.mode ∧
      t.rd (Reg.FAB_CNT 7) = s.rd (Reg.FAB_CNT 7) + 1 ∧ t.rd (Reg.ST_WD_CNT 4) = s.rd (Reg.ST_WD_CNT 4) + 1 ∧
      (t.rd (Reg.FAB_CNT 8) = s.rd (Reg.FAB_CNT 8) + BitVec.ofNat 64 (s.fab.cross.filter (fun x => decide (x.sent < x.copy.fr.cells))).length) ∧
      t.fab.voq = s.fab.voq ∧
      KeepsIn (Scope.calm ++ Scope.buffers ++ [RegSet.one Reg.ST_HEALTH, RegSet.each (Reg.ST_WD_CNT 0) 0x8 10, RegSet.one Reg.BPM_P0_SPLIT, RegSet.one (Reg.FAB_CNT 7), RegSet.one (Reg.FAB_CNT 8)]) [.dev, .host, .kettle, .slices, .fab] s t) ∧
  (∀ (s : State),
    NextWith (exec (.residenceSweep) s) fun t =>
      (∀ key ∈ s.fab.voq.keys, ∀ f ∈ (t.voqAt key).sram, s.overdue f = false) ∧ t.fab.cross = s.fab.cross ∧ t.mode = s.mode ∧
      KeepsIn (Scope.buffers ++ Scope.queues ++ [RegSet.each (Reg.CD_RP_STATUS 0) 0x100 8, RegSet.each (Reg.PRT_FAB_CNT 0 8) 0x10000 256]) [.host, .kettle, .fab] s t) ∧
  (∀ (s : State) (plane slice id n : Nat) (m : McFrame),
    plane < 4 → slice < 4 → id ∈ s.residue slice plane → s.mcAt id = some m → m.todo = [n] → n < 192 → n % 4 = plane →
    m.live = 0 → (m.e0.get? plane).isSome = true →
    NextWith (exec (.residueTimeout plane slice id) s) fun t =>
      t.mcAt id = none ∧ id ∉ t.residue slice plane ∧
      t.rd (Reg.PRT_FAB_CNT (s.lanePort n) 4) = s.rd (Reg.PRT_FAB_CNT (s.lanePort n) 4) + 1 ∧
      KeepsIn (Scope.buffers ++ [RegSet.each (Reg.FAB_RES_OCC 0) 0x4 4, RegSet.each (Reg.PRT_FAB_CNT 0 4) 0x10000 256]) [.kettle, .fab] s t)

/-- Buffers are spilled, refilled, returned and audited, and 802.1CB entries are written, read and reset. SPILL_REFILL returns the oldest
spilled frame to SRAM while the head has room; HOST_BUFFER_FREE of a buffer the host holds returns it to its pool; POOL_LOW_CLEAR sets
every low mark to the free count; AUDIT_ROUND_END returns each leaked buffer, counts them, and takes a new snapshot. FRER_WRITE with a
legal record stores both records in the selected entry; FRER_READ shows them; FRER_RESET and FRER_RECOVERY_TIMEOUT restart the recovery
function and count it, and a reset restarts the sequence generator too. Beside this, each clause names the registers and parts that may
change; everything else is kept. It rests on R163, R166, R173, R175, R176, R178, R217, R219. Beside the spec it rests on the model's
choices of log entries 9, 33, 37. -/
def Obligations.BuffersReturnAndFrerEntriesReset : Prop :=
  (∀ (s : State) (i n c : Nat) (f : Frame) (r : List (Option Nat × Frame)),
    i < 4 → n < 192 → c < 8 → (s.voqAt (voqKey i n c)).sramBytes < 65536 → (s.voqAt (voqKey i n c)).seg = (none, f) :: r →
    NextWith (exec (.spillRefill i n c) s) fun t =>
      (t.voqAt (voqKey i n c)).sram = (s.voqAt (voqKey i n c)).sram ++ [f] ∧ (t.voqAt (voqKey i n c)).seg = r ∧
      Keeps [Reg.FAB_VOQ_OCC, Reg.FAB_VOQ_SPILL] [.fab] s t) ∧
  (∀ (s : State) (i n c h : Nat) (f : Frame) (r : List (Option Nat × Frame)),
    i < 4 → n < 192 → c < 8 → (s.voqAt (voqKey i n c)).sramBytes < 65536 → (s.voqAt (voqKey i n c)).seg = (some h, f) :: r →
    (s.bufExtents f.bytes.length f.bytes.length Own.FABRIC 3 0 []).2.isSome = true →
    NextWith (exec (.spillRefill i n c) s) fun t =>
      ((t.voqAt (voqKey i n c)).sram.map (fun g => (g.id, g.bytes)) = ((s.voqAt (voqKey i n c)).sram ++ [f]).map (fun g => (g.id, g.bytes))) ∧
      (t.voqAt (voqKey i n c)).seg = r ∧ t.rd (Reg.BPM_CNT 11) = s.rd (Reg.BPM_CNT 11) + 1 ∧
      KeepsIn (Scope.buffers ++ [RegSet.each (Reg.BPM_POOL_LOW 0) 0x4 5, RegSet.one Reg.FAB_VOQ_OCC, RegSet.one Reg.FAB_VOQ_SPILL]) [.kettle, .fab, .freeCtr] s t) ∧
  (∀ (s : State) (h : BitVec 32),
    s.hostOpen → s.mode ≠ Mode.LOAD → s.bufCheck h.toNat Own.HOST = 0 →
    NextWith (exec (.hostBufferFree h) s) fun t =>
      t.fab.alloc.get? (bufKey h.toNat) = none ∧ t.poolFree (bufPool h.toNat) = (s.poolFree (bufPool h.toNat) + 1) % 2 ^ 24 ∧
      (t.sharedFree = (if bufPool h.toNat = 0 then (s.sharedFree + 1) % 2 ^ 24 else s.sharedFree)) ∧
      KeepsRep [Reg.BPM_POOL_FREE (bufPool h.toNat), Reg.BPM_SHARED_FREE] [.fab] s t) ∧
  (∀ (s : State),
    s.hostOpen →
    NextWith (exec (.poolLowClear) s) fun t =>
      (∀ k < 5, t.fld (F.BPM_POOL_LOW.LOW k) = s.poolFree k) ∧
      KeepsRep [Reg.BPM_POOL_LOW 0, Reg.BPM_POOL_LOW 1, Reg.BPM_POOL_LOW 2, Reg.BPM_POOL_LOW 3, Reg.BPM_POOL_LOW 4] [] s t) ∧
  (∀ (s : State),
    Mode.STEEP ≤ s.mode → bitAt s.dev.recov 8 = false → s.fab.snap.Nodup → (∀ k ∈ s.leaked, k / 2 ^ 24 < 5) →
    NextWith (exec (.auditRoundEnd) s) fun t =>
      t.rd (Reg.BPM_CNT 8) = s.rd (Reg.BPM_CNT 8) + BitVec.ofNat 64 s.leaked.length ∧
      t.rd (Reg.BPM_CNT 9) = s.rd (Reg.BPM_CNT 9) + 1 ∧ t.fld F.BPM_AUDIT.LAST_LEAKS = min s.leaked.length 65535 ∧
      t.fld F.BPM_AUDIT.ROUND = (s.fld F.BPM_AUDIT.ROUND + 1) % 2 ^ 16 ∧ (∀ k ∈ s.leaked, t.fab.alloc.get? k = none) ∧
      t.fab.snap = t.fab.alloc.keys ∧ t.fab.voq = s.fab.voq ∧
      KeepsIn [RegSet.one Reg.ST_HEALTH, RegSet.one Reg.KT_CAP_STATUS, RegSet.each (Reg.BPM_POOL_FREE 0) 0x4 5, RegSet.one Reg.BPM_SHARED_FREE, RegSet.one Reg.BPM_P0_SPLIT, RegSet.one (Reg.BPM_CNT 8), RegSet.one Reg.BPM_LEAK_LAST, RegSet.one (Reg.BPM_CNT 9), RegSet.one Reg.BPM_AUDIT] [.dev, .kettle, .fab] s t) ∧
  (∀ (s : State),
    s.hostOpen → s.isMutable 1 = true → s.fld F.FAB_FRER_IDX.INST ≠ 0 →
    (s.fld F.FAB_FRER_CFG0.EN = 1 → s.fld F.FAB_FRER_CFG0.HIST ≠ 0) →
    (s.fld F.FAB_FRER_CFG0.EN = 1 → s.fld F.FAB_FRER_CFG0.RCV = 1 → s.fld F.FAB_FRER_CFG1.RESET_MS ≠ 0) →
    (s.fld F.FAB_FRER_CFG0.RCV = 1 → s.portUsed (s.fld F.FAB_FRER_CFG0.RCV_PORT) = true) →
    NextWith (exec (.frerWrite) s) fun t =>
      (t.frer (s.fld F.FAB_FRER_IDX.INST)).cfg0 = (s.rd Reg.FAB_FRER_CFG0).toNat ∧
      (t.frer (s.fld F.FAB_FRER_IDX.INST)).cfg1 = (s.rd Reg.FAB_FRER_CFG1).toNat ∧
      (t.frer (s.fld F.FAB_FRER_IDX.INST)).gen = (s.frer (s.fld F.FAB_FRER_IDX.INST)).gen ∧
      (t.frer (s.fld F.FAB_FRER_IDX.INST)).recov = (s.frer (s.fld F.FAB_FRER_IDX.INST)).recov ∧ KeepsRep [] [.fab] s t) ∧
  (∀ (s : State),
    s.hostOpen → s.fld F.FAB_FRER_IDX.INST ≠ 0 →
    NextWith (exec (.frerRead) s) fun t =>
      t.rd Reg.FAB_FRER_CFG0 = BitVec.ofNat 64 (s.frer (s.fld F.FAB_FRER_IDX.INST)).cfg0 ∧
      t.rd Reg.FAB_FRER_CFG1 = BitVec.ofNat 64 (s.frer (s.fld F.FAB_FRER_IDX.INST)).cfg1 ∧
      KeepsRep [Reg.FAB_FRER_CFG0, Reg.FAB_FRER_CFG1] [] s t) ∧
  (∀ (s : State),
    s.hostOpen → s.isMutable 1 = true → s.fld F.FAB_FRER_IDX.INST ≠ 0 →
    NextWith (exec (.frerReset) s) fun t =>
      (t.frer (s.fld F.FAB_FRER_IDX.INST)).gen = 0 ∧ (t.frer (s.fld F.FAB_FRER_IDX.INST)).recov = FrerRecov.fresh ∧
      (t.frer (s.fld F.FAB_FRER_IDX.INST)).cnt.getD 7 0 = ((s.frer (s.fld F.FAB_FRER_IDX.INST)).cnt.getD 7 0 + 1) % 2 ^ 64 ∧
      (t.frer (s.fld F.FAB_FRER_IDX.INST)).cfg0 = (s.frer (s.fld F.FAB_FRER_IDX.INST)).cfg0 ∧
      KeepsRep [Reg.FAB_FRER_CNT 7] [.fab] s t) ∧
  (∀ (s : State) (i : Nat),
    i ≠ 0 → i < 1024 → (s.frer i).en = true → bitAt (s.frer i).cfg0 1 = true →
    NextWith (exec (.frerRecoveryTimeout i) s) fun t =>
      (t.frer i).recov = FrerRecov.fresh ∧ (t.frer i).gen = (s.frer i).gen ∧
      (t.frer i).cnt.getD 7 0 = ((s.frer i).cnt.getD 7 0 + 1) % 2 ^ 64 ∧ Keeps [Reg.FAB_FRER_CNT 7] [.fab] s t)

/-- Gate lists are committed, switched and run. GCL_COMMIT and GCL_COMMIT_OFF with legal values arm a switch at the first instant of the
base-time grid at least 1 ms away; GCL_ABORT disarms it; GCL_SWITCH starts the armed list at entry 0 or ends the running one;
GATE_ENTRY_TRANSITION takes the next entry and shows its gates, and starts the next cycle after the last. It rests on R199, R200, R201.
Beside the spec it rests on the model's choices of log entry 39. -/
def Obligations.GateListsCommitSwitchAndRun : Prop :=
  (∀ (s : State) (p : Nat),
    p < 192 → s.hostOpen → s.portUsed p = true → s.isMutable 3 = true → (s.egp p).pend = none →
    s.fld (F.PRT_GCL_CYCLE.NS p) ≠ 0 →
    s.gclInstant p (s.fld (F.PRT_GCL_CYCLE.NS p)) ≤ s.now16 (s.portDomain p) + 2000000000 * 2 ^ 16 →
    s.fld (F.PRT_GCL_LEN.ENTRIES p) ≠ 0 →
    (∀ i < 1024, i < s.fld (F.PRT_GCL_LEN.ENTRIES p) → s.gclInterval p (s.gclStaged p) i ≠ 0) →
    s.fld (F.PRT_GCL_LEN.ENTRIES p) ≤ 1024 → (∀ c < 8, s.fld (F.PRT_CBS.EN p c) = 0) →
    NextWith (exec (.gclCommit p) s) fun t =>
      (t.egp p).pend = some ⟨false, s.gclStaged p, s.fld (F.PRT_GCL_LEN.ENTRIES p), s.fld (F.PRT_GCL_CYCLE.NS p), s.gclInstant p (s.fld (F.PRT_GCL_CYCLE.NS p))⟩ ∧
      (t.egp p).run = (s.egp p).run ∧ t.fld (F.PRT_GCL_STATUS.PENDING p) = 1 ∧
      t.fld (F.PRT_GCL_SWITCH.NS32 p) = ns32 (s.gclInstant p (s.fld (F.PRT_GCL_CYCLE.NS p))) % 2 ^ 32 ∧
      KeepsRep [Reg.PRT_GCL_STATUS p, Reg.PRT_LT_STATUS p, Reg.PRT_LT_NEXT p, Reg.PRT_GCL_SWITCH p] [.fab] s t) ∧
  (∀ (s : State) (p : Nat),
    p < 192 → s.hostOpen → s.portUsed p = true → s.isMutable 3 = true → (s.egp p).pend = none →
    s.fld (F.PRT_GCL_CYCLE.NS p) ≠ 0 →
    s.gclInstant p (s.fld (F.PRT_GCL_CYCLE.NS p)) ≤ s.now16 (s.portDomain p) + 2000000000 * 2 ^ 16 →
    NextWith (exec (.gclCommitOff p) s) fun t =>
      (t.egp p).pend = some ⟨true, s.gclStaged p, s.fld (F.PRT_GCL_LEN.ENTRIES p), s.fld (F.PRT_GCL_CYCLE.NS p), s.gclInstant p (s.fld (F.PRT_GCL_CYCLE.NS p))⟩ ∧
      (t.egp p).run = (s.egp p).run ∧ t.fld (F.PRT_GCL_STATUS.PENDING p) = 1 ∧
      KeepsRep [Reg.PRT_GCL_STATUS p, Reg.PRT_LT_STATUS p, Reg.PRT_LT_NEXT p, Reg.PRT_GCL_SWITCH p] [.fab] s t) ∧
  (∀ (s : State) (p : Nat),
    p < 192 → s.hostOpen → s.portUsed p = true →
    NextWith (exec (.gclAbort p) s) fun t =>
      (t.egp p).pend = none ∧ (t.egp p).run = (s.egp p).run ∧ t.fld (F.PRT_GCL_STATUS.PENDING p) = 0 ∧
      KeepsRep [Reg.PRT_GCL_STATUS p, Reg.PRT_LT_STATUS p, Reg.PRT_LT_NEXT p] [.fab] s t) ∧
  (∀ (s : State) (p : Nat) (d : GclPend),
    p < 192 → (s.egp p).pend = some d →
    NextWith (exec (.gclSwitch p) s) fun t =>
      (t.egp p).pend = none ∧ ((t.egp p).run = (if d.off then none else some ⟨d.bank, d.len, d.cycle, d.at16 % t16Mod, 0⟩)) ∧
      t.fld (F.PRT_GCL_STATUS.RUNNING p) = b2n (!d.off) ∧
      (t.fld (F.PRT_GCL_STATUS.GATES p) = (if d.off then 0xFF else s.gclGates p d.bank 0)) ∧
      t.fld (F.PRT_GCL_STATUS.PENDING p) = 0 ∧
      KeepsRep [Reg.PRT_GCL_STATUS p, Reg.PRT_LT_STATUS p, Reg.PRT_LT_NEXT p] [.fab] s t) ∧
  (∀ (s : State) (p : Nat) (r : GclRun),
    p < 192 → (s.egp p).run = some r → r.idx + 1 < (s.runSegs p r).length → r.idx < 1023 →
    NextWith (exec (.gateEntryTransition p) s) fun t =>
      (t.egp p).run = some { r with idx := r.idx + 1 } ∧ t.fld (F.PRT_GCL_STATUS.ENTRY p) = r.idx + 1 ∧
      t.fld (F.PRT_GCL_STATUS.GATES p) = s.gclGates p r.bank (r.idx + 1) ∧
      KeepsRep [Reg.PRT_GCL_STATUS p, Reg.PRT_LT_STATUS p, Reg.PRT_LT_NEXT p] [.fab] s t) ∧
  (∀ (s : State) (p : Nat) (r : GclRun),
    p < 192 → (s.egp p).run = some r → (s.runSegs p r).length ≤ r.idx + 1 →
    NextWith (exec (.gateEntryTransition p) s) fun t =>
      (t.egp p).run = some { r with idx := 0, start := addT16 r.start ((r.cycle * 2 ^ 16 : Nat) : Int) } ∧
      t.fld (F.PRT_GCL_STATUS.ENTRY p) = 0 ∧ t.fld (F.PRT_GCL_STATUS.GATES p) = s.gclGates p r.bank 0 ∧
      KeepsRep [Reg.PRT_GCL_STATUS p, Reg.PRT_LT_STATUS p, Reg.PRT_LT_NEXT p] [.fab] s t)

/-- Pauses begin, end and are watched by R205 and R206. PFC_FRAME_RECEIVED pauses each class that it and the port enable for its quanta,
and counts; another MAC control frame is only counted; PAUSE_EXPIRY ends a pause; PAUSE_WATCHDOG_EXPIRY of a blocked class starts dropping
it and empties it; WD_DROP_CLEAR ends that when the class is neither paused nor gated. Beside this, each clause names the registers and
parts that may change; everything else is kept. It rests on R205, R206, Table 07.1 (07_egress_and_deterministic_delivery.md). Beside the
spec it rests on the model's choices of log entries 10, 17. -/
def Obligations.PauseAndItsWatchdogAct : Prop :=
  (∀ (s : State) (p : Nat) (enable : BitVec 8) (q : List (BitVec 16)),
    p < 192 → s.receives p = true →
    NextWith (exec (.pfcFrameReceived p enable q) s) fun t =>
      (∀ c < 8, bitAt enable.toNat c = true → bitAt (s.fld (F.PRT_PFC.EN p)) c = true → t.pausedCls p c = ((q.map BitVec.toNat).getD c 0 != 0) ∧ (t.egp p).quanta.getD c 0 = (q.map BitVec.toNat).getD c 0) ∧
      (∀ c < 8, bitAt enable.toNat c = false ∨ bitAt (s.fld (F.PRT_PFC.EN p)) c = false → t.pausedCls p c = s.pausedCls p c) ∧
      t.rd (Reg.PRT_EG_CNT p 10) = s.rd (Reg.PRT_EG_CNT p 10) + 1 ∧ t.rd (Reg.PRT_RX_CNT p 0) = s.rd (Reg.PRT_RX_CNT p 0) + 1 ∧
      KeepsRep [Reg.PRT_WD p, Reg.PRT_EG_CNT p 10, Reg.PRT_RX_CNT p 0, Reg.PRT_RX_CNT p 1, Reg.PRT_LT_STATUS p, Reg.PRT_LT_NEXT p] [.fab] s t) ∧
  (∀ (s : State) (p : Nat),
    p < 192 → s.receives p = true →
    NextWith (exec (.macControlReceived p) s) fun t =>
      t.rd (Reg.PRT_EG_CNT p 11) = s.rd (Reg.PRT_EG_CNT p 11) + 1 ∧ t.rd (Reg.PRT_RX_CNT p 0) = s.rd (Reg.PRT_RX_CNT p 0) + 1 ∧
      t.rd (Reg.PRT_RX_CNT p 1) = s.rd (Reg.PRT_RX_CNT p 1) + 64 ∧
      KeepsRep [Reg.PRT_EG_CNT p 11, Reg.PRT_RX_CNT p 0, Reg.PRT_RX_CNT p 1] [] s t) ∧
  (∀ (s : State) (p c : Nat),
    p < 192 → c < 8 →
    NextWith (exec (.pauseExpiry p c) s) fun t =>
      t.pausedCls p c = false ∧ (t.egp p).quanta.getD c 0 = 0 ∧ (t.egp p).q = (s.egp p).q ∧
      (∀ d < 8, d ≠ c → t.pausedCls p d = s.pausedCls p d) ∧
      Keeps [Reg.PRT_WD p, Reg.PRT_LT_STATUS p, Reg.PRT_LT_NEXT p] [.fab] s t) ∧
  (∀ (s : State) (p c : Nat),
    p < 192 → c < 8 → (s.egp p).blk.contains c = true → s.fldBit (F.PRT_WD.DROP p) c = false →
    NextWith (exec (.pauseWatchdogExpiry p c) s) fun t =>
      t.fldBit (F.PRT_WD.DROP p) c = true ∧ (∀ x ∈ (t.egp p).cls c, s.egClass p x ≠ c) ∧ t.pausedCls p c = s.pausedCls p c ∧
      KeepsIn (Scope.buffers ++ [RegSet.each (Reg.CD_RP_STATUS 0) 0x100 8, RegSet.one Reg.BPM_P0_SPLIT, RegSet.each (Reg.PRT_LT_STATUS 0) 0x10000 256, RegSet.each (Reg.PRT_LT_NEXT 0) 0x10000 256, RegSet.one (Reg.PRT_EG_CNT p 9), RegSet.one (Reg.PRT_WD p)]) [.host, .kettle, .fab] s t) ∧
  (∀ (s : State) (p c : Nat),
    p < 192 → c < 8 → s.pausedCls p c = false → s.gateOpen p c = true →
    NextWith (exec (.wdDropClear p c) s) fun t =>
      t.fldBit (F.PRT_WD.DROP p) c = false ∧ (∀ d < 8, d ≠ c → t.fldBit (F.PRT_WD.DROP p) d = s.fldBit (F.PRT_WD.DROP p) d) ∧
      Keeps [Reg.PRT_WD p] [] s t)

/-- A port sends the frame that R198 chooses. EGRESS_SELECT on an UP port with one landed frame whose gate is open, whose class is neither
paused nor shaped and whose bytes need no correction sends that frame with its stamp point, counts it, and empties the queue; with nothing
landed it does nothing. Beside this, each clause names the registers and parts that may change; everything else is kept. It rests on R198,
R221. Beside the spec it rests on the model's choices of log entries 36, 40. -/
def Obligations.PortsSendTheChosenFrame : Prop :=
  (∀ (s : State) (p c dep : Nat) (x : Copy) (bs : List Byte),
    p < 192 → c < 8 → s.portUsed p = true → s.oper p = Oper.UP → s.idling p = false → s.ttFirst p = false →
    (s.egp p).q = SMap.empty.put c [x] → (s.egp p).lt = [] → (s.egp p).run = none → (s.egp p).pend = none →
    (∀ d < 8, s.fld (F.PRT_CBS.EN p d) = 0) → s.gateOpen p c = true → s.pausedCls p c = false → s.doomed x.fr = false →
    s.copyBytes p x = bs → bs.length ≤ 10240 → s.correct p x.fr bs (s.txStamp (s.txLane p) dep) = (some bs, 0) →
    NextWith (exec (.egressSelect p dep) s) fun t =>
      Output.frame p bs (s.txStamp (s.txLane p) dep) ∈ t.out ∧ (t.egp p).cls c = [] ∧
      t.rd (Reg.PRT_EG_CNT p 0) = s.rd (Reg.PRT_EG_CNT p 0) + 1 ∧
      t.rd (Reg.PRT_EG_CNT p 1) = s.rd (Reg.PRT_EG_CNT p 1) + BitVec.ofNat 64 bs.length ∧ t.mode = s.mode ∧
      KeepsIn (Scope.buffers ++ [RegSet.each (Reg.CD_RP_STATUS 0) 0x100 8, RegSet.each (Reg.SLC_CNT 0 3) 0x400000 4, RegSet.each (Reg.SLC_CNT 0 1) 0x400000 4, RegSet.one Reg.BPM_P0_SPLIT, RegSet.one (Reg.PRT_LT_STATUS p), RegSet.one (Reg.PRT_LT_NEXT p), RegSet.each (Reg.PRT_FAB_CNT 0 6) 0x10000 256, RegSet.each (Reg.PRT_EG_CNT p 0) 0x8 16]) [.host, .kettle, .slices, .fab, .lines, .freeCtr] s t) ∧
  (∀ (s : State) (p dep : Nat),
    p < 192 → s.portUsed p = true → s.oper p = Oper.UP → s.egp p = EgPort.fresh → (∀ d < 8, s.fld (F.PRT_CBS.EN p d) = 0) →
    NextWith (exec (.egressSelect p dep) s) fun t =>
      t = s)

/-- A received frame is judged and forwarded by R124 to R129. INGRESS_FRAME on a receiving port counts a runt, a long frame and a frame of
bad FCS and forwards none of them; a good frame is counted with its length; one that the slice does not forward is counted as discarded;
one with a single UP destination and buffers for it enters the virtual output queue of that port and its class with its stamp and ingress
port. A port that does not receive takes nothing. Beside this, each clause names the registers and parts that may change; everything else
is kept. It rests on R124, R126, R127, R128, R129. Beside the spec it rests on the model's choices of log entries 8, 20, 41. -/
def Obligations.IngressJudgesAndForwardsFrames : Prop :=
  (∀ (s : State) (p slots : Nat) (bs : List Byte) (ts : LineStamp),
    p < 192 → s.receives p = false →
    NextWith (exec (.ingressFrame p bs ts slots) s) fun t =>
      t = s) ∧
  (∀ (s : State) (p slots : Nat) (bs : List Byte) (ts : LineStamp),
    p < 192 → s.receives p = true → bs.length < 64 → s.forwards (sliceOf p) = false →
    ((parseFrame bs (s.defVlan p) (s.cfg.defPcp.getD p 0)).ethType ≠ 0x8808 ∨ fcsGood bs = false ∨ bs.length < 64) →
    NextWith (exec (.ingressFrame p bs ts slots) s) fun t =>
      t.rd (Reg.PRT_RX_CNT p 3) = s.rd (Reg.PRT_RX_CNT p 3) + 1 ∧ Keeps [Reg.PRT_RX_CNT p 3] [] s t) ∧
  (∀ (s : State) (p slots : Nat) (bs : List Byte) (ts : LineStamp),
    p < 192 → s.receives p = true → 10240 < bs.length → s.forwards (sliceOf p) = false →
    NextWith (exec (.ingressFrame p bs ts slots) s) fun t =>
      t.rd (Reg.PRT_RX_CNT p 4) = s.rd (Reg.PRT_RX_CNT p 4) + 1 ∧ Keeps [Reg.PRT_RX_CNT p 4] [] s t) ∧
  (∀ (s : State) (p slots : Nat) (bs : List Byte) (ts : LineStamp),
    p < 192 → s.receives p = true → 64 ≤ bs.length → bs.length ≤ 10240 → fcsGood bs = false → s.forwards (sliceOf p) = false →
    NextWith (exec (.ingressFrame p bs ts slots) s) fun t =>
      t.rd (Reg.PRT_RX_CNT p 2) = s.rd (Reg.PRT_RX_CNT p 2) + 1 ∧ Keeps [Reg.PRT_RX_CNT p 2] [] s t) ∧
  (∀ (s : State) (p slots : Nat) (bs : List Byte) (ts : LineStamp),
    p < 192 → s.receives p = true → frameGood bs = false →
    NextWith (exec (.ingressFrame p bs ts slots) s) fun t =>
      (t.rd (Reg.PRT_RX_CNT p (if bs.length < 64 then 3 else if 10240 < bs.length then 4 else 2)) = s.rd (Reg.PRT_RX_CNT p (if bs.length < 64 then 3 else if 10240 < bs.length then 4 else 2)) + 1) ∧
      (∀ k, t.voqAt k = s.voqAt k) ∧ t.uid = s.uid ∧ t.mode = s.mode ∧
      (KeepsIn (Scope.buffers ++ Scope.scans ++ Scope.freeze ++ [⟨Reg.CD_RING_CNT 0 0, 0x100, 8, 0x8, 8⟩, RegSet.each (Reg.BPM_POOL_LOW 0) 0x4 5, RegSet.each (Reg.PRT_FAB_CNT 0 0) 0x10000 256, RegSet.one (Reg.PRT_RX_CNT p (if bs.length < 64 then 3 else if 10240 < bs.length then 4 else 2))]) [.scans, .kettle, .caddy, .slices, .fab, .freeCtr] s t)) ∧
  (∀ (s : State) (p slots : Nat) (bs : List Byte) (ts : LineStamp),
    p < 192 → s.receives p = true → 64 ≤ bs.length → bs.length ≤ 10240 → fcsGood bs = true →
    (parseFrame bs (s.defVlan p) (s.cfg.defPcp.getD p 0)).ethType ≠ 0x8808 →
    esmcOf bs (parseFrame bs (s.defVlan p) (s.cfg.defPcp.getD p 0)) = none →
    (parseFrame bs (s.defVlan p) (s.cfg.defPcp.getD p 0)).ptp = none → s.forwards (sliceOf p) = false →
    NextWith (exec (.ingressFrame p bs ts slots) s) fun t =>
      t.rd (Reg.PRT_RX_CNT p 0) = s.rd (Reg.PRT_RX_CNT p 0) + 1 ∧
      t.rd (Reg.PRT_RX_CNT p 1) = s.rd (Reg.PRT_RX_CNT p 1) + BitVec.ofNat 64 bs.length ∧
      (t.rd (Reg.PRT_RX_CNT p (if s.calmDiscards then 6 else 5)) = s.rd (Reg.PRT_RX_CNT p (if s.calmDiscards then 6 else 5)) + 1) ∧
      (KeepsRep [Reg.PRT_RX_CNT p 0, Reg.PRT_RX_CNT p 1, Reg.PRT_RX_CNT p (if s.calmDiscards then 6 else 5)] [] s t)) ∧
  (∀ (s : State) (p slots : Nat) (bs : List Byte) (ts : LineStamp) (r : Nat),
    p < 192 → s.receives p = true → 64 ≤ bs.length → bs.length ≤ 10240 → fcsGood bs = true →
    (parseFrame bs (s.defVlan p) (s.cfg.defPcp.getD p 0)).ethType ≠ 0x8808 →
    esmcOf bs (parseFrame bs (s.defVlan p) (s.cfg.defPcp.getD p 0)) = none →
    (parseFrame bs (s.defVlan p) (s.cfg.defPcp.getD p 0)).ptp = none → s.forwards (sliceOf p) = true → s.calmDiscards = false →
    (s.decideFrame (sliceOf p) p (parseFrame bs (s.defVlan p) (s.cfg.defPcp.getD p 0))).act = 0 →
    (s.decideFrame (sliceOf p) p (parseFrame bs (s.defVlan p) (s.cfg.defPcp.getD p 0))).stream = none →
    (s.decideFrame (sliceOf p) p (parseFrame bs (s.defVlan p) (s.cfg.defPcp.getD p 0))).group = false →
    (s.decideFrame (sliceOf p) p (parseFrame bs (s.defVlan p) (s.cfg.defPcp.getD p 0))).empty = false →
    (s.decideFrame (sliceOf p) p (parseFrame bs (s.defVlan p) (s.cfg.defPcp.getD p 0))).ports = [r] → r < 192 →
    s.fourLane r = false → s.operUp r = true →
    s.voqAt (voqKey (sliceOf p) r (s.decideFrame (sliceOf p) p (parseFrame bs (s.defVlan p) (s.cfg.defPcp.getD p 0))).cls) = Voq.fresh →
    (s.ingressExtents bs.length (sliceOf p)).2.isSome = true →
    NextWith (exec (.ingressFrame p bs ts slots) s) fun t =>
      t.rd (Reg.PRT_RX_CNT p 0) = s.rd (Reg.PRT_RX_CNT p 0) + 1 ∧
      t.rd (Reg.PRT_RX_CNT p 1) = s.rd (Reg.PRT_RX_CNT p 1) + BitVec.ofNat 64 bs.length ∧
      t.rd (Reg.SLC_CNT (sliceOf p) 15) = s.rd (Reg.SLC_CNT (sliceOf p) 15) + 1 ∧
      ((t.voqAt (voqKey (sliceOf p) r (s.decideFrame (sliceOf p) p (parseFrame bs (s.defVlan p) (s.cfg.defPcp.getD p 0))).cls)).sram.map (fun f => (f.bytes, f.inPort, f.stamp, f.entry)) = [(bs, p, s.rxStamp p ts, s.cycle)]) ∧
      t.uid = s.uid + 1 ∧
      KeepsIn (Scope.buffers ++ [RegSet.each (Reg.CD_RP_STATUS 0) 0x100 8, RegSet.one (Reg.SLC_CNT (sliceOf p) 3), RegSet.one (Reg.SLC_CNT (sliceOf p) 1), RegSet.each (Reg.BPM_POOL_LOW 0) 0x4 5, RegSet.each (Reg.PRT_FAB_CNT 0 0) 0x10000 256, RegSet.each (Reg.PRT_FAB_CNT 0 3) 0x10000 256, RegSet.each (Reg.PRT_FAB_CNT 0 2) 0x10000 256, RegSet.one (Reg.SLC_CNT (sliceOf p) 14), RegSet.one Reg.FAB_VOQ_OCC, RegSet.one Reg.FAB_VOQ_SPILL, RegSet.one (Reg.PRT_RX_CNT p 0), RegSet.one (Reg.PRT_RX_CNT p 1), RegSet.one (Reg.SLC_CNT (sliceOf p) 15)]) [.host, .kettle, .slices, .fab, .freeCtr, .uid] s t)

/-- A Kettle channel is excluded, copied, observed and readmitted, and the lead moves. CHANNEL_EXCLUSION of one channel while all are
HEALTHY, and KETTLE_WATCHDOG_EXPIRY of a channel in use, exclude it, with its flag, its counter and, where it led, a new lead;
CHANNEL_COPY copies the lead into it and starts its agreement timer, OBSERVE_DEVIATION restarts the timer, READMISSION makes it HEALTHY;
LEAD_HANDOVER, with no pulse edge within 50 ns, and HANDOVER_FORCED give the lead to the lowest HEALTHY channel. Beside this, each clause
names the registers and parts that may change; everything else is kept. It rests on R249, R250, R251, R252, Table 08.3
(08_kettle_time_core.md). Beside the spec it rests on the model's choices of log entry 17. -/
def Obligations.KettleChannelsAreExcludedAndReadmitted : Prop :=
  (∀ (s : State) (chs : BitVec 3) (c : Nat),
    Mode.LOAD ≤ s.mode → s.allHealthy = true → bitList 3 chs.toNat = [c] →
    NextWith (exec (.channelExclusion chs) s) fun t =>
      t.chState c = 1 ∧ (∀ e < 3, e ≠ c → t.chState e = 0) ∧ t.fldBit F.KT_CH_FLAGS.EXCL c = true ∧
      t.rd (Reg.KT_CNT c) = s.rd (Reg.KT_CNT c) + 1 ∧ (c = s.lead → t.lead = (if c = 0 then 1 else 0)) ∧
      (c ≠ s.lead → t.lead = s.lead) ∧
      KeepsIn (Scope.calm ++ [RegSet.one Reg.ST_HEALTH, RegSet.one Reg.KT_CH_STATUS, RegSet.one Reg.KT_FHT_STATUS, RegSet.one Reg.KT_CH_FLAGS, RegSet.each (Reg.KT_CNT 0) 0x8 11]) [.dev, .kettle, .slices, .freeCtr] s t) ∧
  (∀ (s : State) (c : Nat),
    c < 3 → Mode.LOAD ≤ s.mode → s.chState c ≠ 1 →
    NextWith (exec (.kettleWatchdogExpiry c) s) fun t =>
      t.chState c = 1 ∧ t.fldBit F.KT_CH_FLAGS.WD c = true ∧ t.fldBit F.KT_CH_FLAGS.EXCL c = true ∧
      t.rd (Reg.ST_WD_CNT (5 + c)) = s.rd (Reg.ST_WD_CNT (5 + c)) + 1 ∧ t.rd (Reg.KT_CNT c) = s.rd (Reg.KT_CNT c) + 1 ∧
      KeepsIn (Scope.calm ++ [RegSet.one Reg.ST_HEALTH, RegSet.each (Reg.ST_WD_CNT 0) 0x8 10, RegSet.one Reg.KT_CH_STATUS, RegSet.one Reg.KT_FHT_STATUS, RegSet.one Reg.KT_CH_FLAGS, RegSet.each (Reg.KT_CNT 0) 0x8 11]) [.dev, .kettle, .slices, .freeCtr] s t) ∧
  (∀ (s : State) (c : Nat),
    c < 3 → s.chState c = 1 →
    NextWith (exec (.channelCopy c) s) fun t =>
      t.chState c = 2 ∧ (∀ d < 8, t.ktDom c d = s.ktDom s.lead d) ∧ t.kettle.obs.getD c 0 = s.cycle ∧
      Keeps [Reg.KT_CH_STATUS] [.kettle] s t) ∧
  (∀ (s : State) (c : Nat),
    c < 3 → s.chState c = 2 →
    NextWith (exec (.observeDeviation c) s) fun t =>
      t.kettle.obs.getD c 0 = s.cycle ∧ t.chState c = 2 ∧ Keeps [] [.kettle] s t) ∧
  (∀ (s : State) (c : Nat),
    c < 3 → s.chState c = 2 → s.healthy s.lead = true →
    NextWith (exec (.readmission c) s) fun t =>
      t.chState c = 0 ∧ t.rd (Reg.KT_CNT 3) = s.rd (Reg.KT_CNT 3) + 1 ∧ t.kettle.obs.getD c 0 = 0 ∧
      (c < s.lead → t.fld F.KT_CH_STATUS.PENDING_HO = 1) ∧ t.lead = s.lead ∧
      KeepsRep [Reg.KT_CH_STATUS, Reg.KT_CNT 3, Reg.ST_HEALTH] [.kettle, .dev] s t) ∧
  (∀ (s : State) (c : Nat),
    s.fld F.KT_CH_STATUS.PENDING_HO = 1 → s.lowestHealthy = some c → c ≠ s.lead → (∀ n < 32, s.plsNear n = false) →
    NextWith (exec (.leadHandover) s) fun t =>
      t.lead = c ∧ t.fld F.KT_CH_STATUS.PENDING_HO = 0 ∧ t.rd (Reg.KT_CNT 5) = s.rd (Reg.KT_CNT 5) + 1 ∧
      Keeps [Reg.KT_CH_STATUS, Reg.KT_CNT 5] [.kettle] s t) ∧
  (∀ (s : State) (c : Nat),
    s.fld F.KT_CH_STATUS.PENDING_HO = 1 → s.lowestHealthy = some c → c ≠ s.lead →
    NextWith (exec (.handoverForced) s) fun t =>
      t.lead = c ∧ t.fld F.KT_CH_STATUS.PENDING_HO = 0 ∧ t.fld F.KT_CH_FLAGS.FORCED_HO = 1 ∧
      t.rd (Reg.KT_CNT 4) = s.rd (Reg.KT_CNT 4) + 1 ∧ t.rd (Reg.KT_CNT 5) = s.rd (Reg.KT_CNT 5) + 1 ∧
      Keeps [Reg.KT_CH_STATUS, Reg.KT_CH_FLAGS, Reg.KT_CNT 4, Reg.KT_CNT 5] [.kettle] s t)

/-- A servo update consumes its feed, and the loss of a source holds the domain over. SERVO_UPDATE of a FREE domain counts the update,
consumes every entry pushed before its cycle, shows their mean, and leaves the domain alone when there is none and nothing else acts;
SOURCE_LOSS of a steered domain without an active pair is HOLDOVER with its flag; PAIR_REVERT, PAIR_HOLD_PARTNER and PAIR_USE_PRIMARY move
a pair. Beside this, each clause names the registers and parts that may change; everything else is kept. It rests on R238, R239, R243,
R246, R247, R248, Table 08.2 (08_kettle_time_core.md). Beside the spec it rests on the model's choices of log entry 17. -/
def Obligations.ServoUpdatesConsumeTheFeed : Prop :=
  (∀ (s : State) (d : Nat),
    d < 8 → s.isFree d = true → s.kettleRuns = true →
    NextWith (exec (.servoUpdate d) s) fun t =>
      t.rd (Reg.KT_DOM_CNT d 0) = s.rd (Reg.KT_DOM_CNT d 0) + 1 ∧
      ((t.feed d).feed = (s.feed d).feed.filter fun e => !decide (e.cycle < s.cycle)) ∧
      (s.feedDue d = [] → t.rd (Reg.KT_DOM_CNT d 1) = s.rd (Reg.KT_DOM_CNT d 1) + 1) ∧
      (s.feedDue d ≠ [] → t.rd (Reg.KT_LAST_OFS_LO d) = BitVec.ofNat 64 (unsigned 64 (feedMean (s.feedDue d)) % 2 ^ 32) ∧ t.rd (Reg.KT_LAST_OFS_HI d) = BitVec.ofNat 64 (unsigned 64 (feedMean (s.feedDue d)) / 2 ^ 32)) ∧
      KeepsIn (Scope.calm ++ Scope.kettle ++ [RegSet.one Reg.ST_HEALTH, RegSet.each (Reg.KT_FREQ 0) 0x100 8, RegSet.each (Reg.KT_OFS_CREDIT 0) 0x100 8, RegSet.each (Reg.KT_DOM_CNT 0 9) 0x100 8, RegSet.each (Reg.KT_ALM_CFG 0) 0x10 8, RegSet.each (Reg.KT_DOM_CNT 0 5) 0x100 8, RegSet.each (Reg.KT_DOM_CNT 0 0) 0x100 8, RegSet.each (Reg.KT_DOM_CNT 0 1) 0x100 8, RegSet.one (Reg.KT_LAST_OFS_LO d), RegSet.one (Reg.KT_LAST_OFS_HI d)]) [.dev, .kettle, .aon, .slices, .freeCtr] s t) ∧
  (∀ (s : State) (d : Nat),
    d < 8 → s.isFree d = true → s.kettleRuns = true → s.feedDue d = [] → s.fld (F.KT_SERVO.MANUAL d) = 0 →
    s.domState d = Dom.LOCKED → s.pairActive (d / 2) = false →
    NextWith (exec (.servoUpdate d) s) fun t =>
      t.domState d = Dom.LOCKED ∧ (∀ c < 3, t.ktDom c d = s.ktDom c d) ∧
      KeepsRep [Reg.KT_DOM_CNT d 0, Reg.KT_DOM_CNT d 1, Reg.KT_OFS_CREDIT d] [.kettle] s t) ∧
  (∀ (s : State) (d : Nat),
    d < 8 → s.isFree d = true → s.kettleRuns = true → (s.domState d = Dom.LOCKED ∨ s.domState d = Dom.ACQUIRING) →
    s.pairActive (d / 2) = false →
    NextWith (exec (.sourceLoss d) s) fun t =>
      t.domState d = Dom.HOLDOVER ∧ t.fld (F.KT_DOM_FLAGS.LOST d) = 1 ∧ (t.feed d).lost = true ∧
      KeepsIn (Scope.calm ++ Scope.kettle ++ [RegSet.one Reg.ST_HEALTH, RegSet.each (Reg.KT_FREQ 0) 0x100 8]) [.dev, .kettle, .slices, .freeCtr] s t) ∧
  (∀ (s : State) (k : Nat),
    k < 4 → s.domState (2 * k) = Dom.FOLLOW → s.fld (F.KT_PAIR_STATUS.HELD k) = 0 →
    NextWith (exec (.pairRevert k) s) fun t =>
      t.domState (2 * k) = Dom.ACQUIRING ∧ t.fld (F.KT_PAIR_STATUS.ON_PARTNER k) = 0 ∧
      t.rd (Reg.KT_DOM_CNT (2 * k) 8) = s.rd (Reg.KT_DOM_CNT (2 * k) 8) + 1 ∧ (t.feed (2 * k)).run = 0 ∧
      KeepsRep [Reg.KT_DOM_STATUS (2 * k), Reg.KT_PAIR_STATUS k, Reg.KT_DOM_CNT (2 * k) 8] [.kettle] s t) ∧
  (∀ (s : State) (k : Nat),
    k < 4 → s.hostOpen → s.pairActive k = true → s.domState (2 * k + 1) = Dom.LOCKED →
    NextWith (exec (.pairHoldPartner k) s) fun t =>
      t.fld (F.KT_PAIR_STATUS.HELD k) = 1 ∧ KeepsRep [Reg.KT_PAIR_STATUS k] [] s t) ∧
  (∀ (s : State) (k : Nat),
    k < 4 → s.hostOpen →
    NextWith (exec (.pairUsePrimary k) s) fun t =>
      t.fld (F.KT_PAIR_STATUS.HELD k) = 0 ∧ KeepsRep [Reg.KT_PAIR_STATUS k] [] s t)

/-- The host feeds offsets, moves feed credits and writes increments. OFFSET_FEED_PUSH of a value up to one second appends it to the feed
of a FREE domain against one host credit; FEED_CREDIT_GRANT moves credits from the host to the engine, FEED_CREDIT_RECALL takes them back;
INCREMENT_WRITE in MANUAL gives every channel that is not excluded the 56-bit increment. It rests on R236, R237, R241. Beside the spec it
rests on the model's choices of log entry 26. -/
def Obligations.HostFeedsAndCreditsMove : Prop :=
  (∀ (s : State) (d : Nat) (hi : BitVec 32),
    d < 8 → s.hostOpen → (s.freeOnly d).1 = false → (signed 64 (hi.toNat * 2 ^ 32 + (s.feed d).lo)).natAbs ≤ oneSec16 →
    0 < s.fld (F.KT_OFS_CREDIT.HOST d) →
    NextWith (exec (.offsetFeedPush d hi) s) fun t =>
      (t.feed d).feed = (s.feed d).feed ++ [⟨signed 64 (hi.toNat * 2 ^ 32 + (s.feed d).lo), true, s.cycle⟩] ∧
      t.fld (F.KT_OFS_CREDIT.HOST d) + 1 = s.fld (F.KT_OFS_CREDIT.HOST d) ∧
      t.rd (Reg.KT_DOM_CNT d 3) = s.rd (Reg.KT_DOM_CNT d 3) + 1 ∧
      KeepsRep [Reg.KT_OFS_CREDIT d, Reg.KT_DOM_CNT d 3] [.kettle] s t) ∧
  (∀ (s : State) (d n : Nat),
    d < 8 → s.hostOpen → (s.freeOnly d).1 = false → 0 < n → n ≤ 16 → n ≤ s.fld (F.KT_OFS_CREDIT.HOST d) →
    s.fld (F.KT_OFS_CREDIT.ENGINE d) + n ≤ 16 →
    NextWith (exec (.feedCreditGrant d n) s) fun t =>
      t.fld (F.KT_OFS_CREDIT.HOST d) + n = s.fld (F.KT_OFS_CREDIT.HOST d) ∧
      t.fld (F.KT_OFS_CREDIT.ENGINE d) = s.fld (F.KT_OFS_CREDIT.ENGINE d) + n ∧ t.fld (F.KT_OFS_CREDIT.RECALLED d) = 0 ∧
      KeepsRep [Reg.KT_OFS_CREDIT d] [] s t) ∧
  (∀ (s : State) (d : Nat),
    d < 8 → s.hostOpen → (s.freeOnly d).1 = false → s.fld (F.KT_OFS_CREDIT.HOST d) + s.fld (F.KT_OFS_CREDIT.ENGINE d) ≤ 16 →
    NextWith (exec (.feedCreditRecall d) s) fun t =>
      t.fld (F.KT_OFS_CREDIT.HOST d) = s.fld (F.KT_OFS_CREDIT.HOST d) + s.fld (F.KT_OFS_CREDIT.ENGINE d) ∧
      t.fld (F.KT_OFS_CREDIT.ENGINE d) = 0 ∧ t.fld (F.KT_OFS_CREDIT.RECALLED d) = 1 ∧ KeepsRep [Reg.KT_OFS_CREDIT d] [] s t) ∧
  (∀ (s : State) (d : Nat) (hi : BitVec 32),
    d < 8 → s.hostOpen → (s.freeOnly d).1 = false → s.isMutable 9 = true → s.domState d = Dom.MANUAL → hi.toNat < 2 ^ 24 →
    incMin ≤ hi.toNat * 2 ^ 32 + (s.feed d).incLo → hi.toNat * 2 ^ 32 + (s.feed d).incLo ≤ incMax →
    NextWith (exec (.incrementWrite d hi) s) fun t =>
      (∀ c < 3, s.chState c ≠ 1 → (t.ktDom c d).inc = hi.toNat * 2 ^ 32 + (s.feed d).incLo) ∧
      (∀ c < 3, (t.ktDom c d).ctr = (s.ktDom c d).ctr) ∧ KeepsRep [] [.kettle] s t)

/-- The time base, captures, alarms and forced-holdover tests of the Kettle. TIMEBASE_GATE_END while the reference is present keeps at
most 16 gates and makes the time base valid; TIMEBASE_ABSENT and TIMEBASE_PRESENT follow it; OCXO_WARM_FALL and OCXO_WARM_RISE follow the
pin; PPS_EDGE and SNAPSHOT capture every enabled domain; ALARM_ARM arms an alarm for a time at most 2 s ahead and 1 ms past, ALARM_FIRE
disarms it and shows it. FHT_START of a channel in a running mode, and FHT_PERIODIC_DUE with no test running, start a shadow counter at
the channel value; a periodic test that is due while one runs waits; FHT_COMPLETE passes exactly when the shadow differs from the live
counter by at most 100 ns. Beside this, each clause names the registers and parts that may change; everything else is kept. It rests on
R231, R232, R233, R234, R256, R257, R254, R255. Beside the spec it rests on the model's choices of log entry 17. -/
def Obligations.TimeBaseCapturesAlarmsAndHoldoverTests : Prop :=
  (∀ (s : State) (n : Nat),
    s.kettleRuns = true → 0 < n → s.fld F.KT_TB_STATUS.ABSENT = 0 →
    NextWith (exec (.timebaseGateEnd n) s) fun t =>
      t.kettle.tb.gates = (n :: s.kettle.tb.gates).take 16 ∧ t.fld F.KT_TB_STATUS.VALID = 1 ∧
      t.fld F.KT_TB_STATUS.GATES = ((n :: s.kettle.tb.gates).take 16).length ∧ Keeps [Reg.KT_TB_STATUS] [.kettle] s t) ∧
  (∀ (s : State),
    s.kettleRuns = true → s.fld F.KT_TB_STATUS.ABSENT = 0 →
    NextWith (exec (.timebaseAbsent) s) fun t =>
      t.fld F.KT_TB_STATUS.ABSENT = 1 ∧ t.fld F.KT_TB_FLAGS.ABSENT = 1 ∧ t.rd (Reg.KT_CNT 8) = s.rd (Reg.KT_CNT 8) + 1 ∧
      (∀ i < 11, s.candUsed i = true → s.vane.started = true → s.candSource i = 0xC2 → t.candActive i = false) ∧
      KeepsIn [RegSet.one Reg.KT_TB_STATUS, RegSet.each (Reg.PRT_TT_STATUS 0) 0x10000 256, RegSet.one Reg.VN_STATUS, RegSet.one Reg.VN_FLAGS, RegSet.one Reg.VN_PULL, RegSet.one Reg.VN_STEER, RegSet.one (Reg.VN_CNT 1), RegSet.one (Reg.VN_CNT 2), RegSet.each (Reg.VN_CAND_STATUS 0) 0x20 11, RegSet.each (Reg.VN_CAND_FLAGS 0) 0x20 11, RegSet.one (Reg.VN_CNT 3), RegSet.one Reg.KT_TB_FLAGS, RegSet.one (Reg.KT_CNT 8)] [.vane] s t) ∧
  (∀ (s : State),
    s.kettleRuns = true → s.fld F.KT_TB_STATUS.ABSENT = 1 →
    NextWith (exec (.timebasePresent) s) fun t =>
      t.fld F.KT_TB_STATUS.ABSENT = 0 ∧ t.kettle.tb.gates = [] ∧ t.fld F.KT_TB_STATUS.GATES = 0 ∧
      t.fld F.KT_TB_STATUS.VALID = s.fld F.KT_TB_STATUS.VALID ∧
      (∀ i < 11, s.candUsed i = true → s.vane.started = true → s.candSource i = 0xC2 → t.candActive i = true) ∧
      KeepsIn [RegSet.one Reg.KT_TB_STATUS, RegSet.each (Reg.PRT_TT_STATUS 0) 0x10000 256, RegSet.one Reg.VN_STATUS, RegSet.one Reg.VN_FLAGS, RegSet.one Reg.VN_PULL, RegSet.one Reg.VN_STEER, RegSet.one (Reg.VN_CNT 1), RegSet.one (Reg.VN_CNT 2), RegSet.each (Reg.VN_CAND_STATUS 0) 0x20 11, RegSet.each (Reg.VN_CAND_FLAGS 0) 0x20 11, RegSet.one (Reg.VN_CNT 3)] [.kettle, .vane] s t) ∧
  (∀ (s : State),
    s.fld F.KT_TB_STATUS.TIMEBASE = 2 →
    NextWith (exec (.ocxoWarmFall) s) fun t =>
      t.dev.ocxoWarm = false ∧ t.fld F.KT_TB_STATUS.WARM = 0 ∧ (Mode.STEEP < s.mode → t.fld F.KT_TB_FLAGS.WARM_LOST = 1) ∧
      KeepsRep [Reg.KT_TB_STATUS, Reg.KT_TB_FLAGS] [.dev] s t) ∧
  (∀ (s : State),
    s.fld F.KT_TB_STATUS.TIMEBASE = 2 →
    NextWith (exec (.ocxoWarmRise) s) fun t =>
      t.dev.ocxoWarm = true ∧ t.fld F.KT_TB_STATUS.WARM = 1 ∧ Keeps [Reg.KT_TB_STATUS] [.dev] s t) ∧
  (∀ (s : State) (i d : Nat),
    i < 2 → d < 8 → s.kettleRuns = true →
    NextWith (exec (.ppsEdge i) s) fun t =>
      (t.kettle.cap.getD ((1 + i) * 8 + d) 0 = (if s.domEnabled d then s.now16 d else 0)) ∧
      t.fldBit F.KT_CAP_STATUS.NEW (1 + i) = true ∧
      (s.fldBit F.KT_CAP_STATUS.NEW (1 + i) = true → t.fldBit F.KT_CAP_STATUS.OVW (1 + i) = true) ∧
      t.rd (Reg.KT_CNT (9 + i)) = s.rd (Reg.KT_CNT (9 + i)) + 1 ∧ Keeps [Reg.KT_CAP_STATUS, Reg.KT_CNT (9 + i)] [.kettle] s t) ∧
  (∀ (s : State) (d : Nat),
    d < 8 → s.hostOpen →
    NextWith (exec (.snapshot) s) fun t =>
      (t.kettle.cap.getD d 0 = (if s.domEnabled d then s.now16 d else 0)) ∧ t.fldBit F.KT_CAP_STATUS.NEW 0 = true ∧
      KeepsRep [Reg.KT_CAP_STATUS] [.kettle] s t) ∧
  (∀ (s : State) (n dom : Nat) (sp : Bool),
    n < 8 → dom < 8 → s.hostOpen → s.domEnabled dom = true →
    diff48 (s.alarmTarget n) (ns48 (s.now16 dom)) ≤ 2000000000 * 2 ^ 16 →
    -(1000000 * 2 ^ 16) ≤ diff48 (s.alarmTarget n) (ns48 (s.now16 dom)) →
    NextWith (exec (.alarmArm n dom sp) s) fun t =>
      t.fld (F.KT_ALM_CFG.ARM n) = 1 ∧ t.fld (F.KT_ALM_CFG.DOMAIN n) = dom ∧ t.fld (F.KT_ALM_CFG.SPOUT n) = b2n sp ∧
      KeepsRep [Reg.KT_ALM_CFG n] [] s t) ∧
  (∀ (s : State) (n : Nat),
    n < 8 → s.fld (F.KT_ALM_CFG.ARM n) = 1 →
    NextWith (exec (.alarmFire n) s) fun t =>
      t.fldBit F.KT_ALM_STATUS.FIRED n = true ∧ t.fld (F.KT_ALM_CFG.ARM n) = 0 ∧
      KeepsIn (Scope.scans ++ Scope.freeze ++ [⟨Reg.CD_RING_CNT 0 0, 0x100, 8, 0x8, 8⟩, RegSet.one (Reg.KT_ALM_CFG n), RegSet.one Reg.KT_ALM_STATUS]) [.scans, .caddy] s t) ∧
  (∀ (s : State) (ch d : Nat),
    ch < 3 → s.hostOpen → (s.mode = Mode.BREEZE ∨ s.mode = Mode.GALE ∨ s.mode = Mode.CALM) → s.fhtDomain = some d →
    s.fld F.KT_FHT_STATUS.RUN = 0 →
    NextWith (exec (.fhtStart ch) s) fun t =>
      t.fld F.KT_FHT_STATUS.RUN = 1 ∧ t.fld F.KT_FHT_STATUS.CH = ch ∧ t.kettle.fht.seed = (s.ktDom ch d).ctr ∧
      t.kettle.fht.domain = d ∧ t.kettle.fht.cycle = s.cycle ∧ KeepsRep [Reg.KT_FHT_STATUS] [.kettle, .freeCtr] s t) ∧
  (∀ (s : State),
    s.fld F.KT_CFG.FHT_H ≠ 0 → s.fld F.KT_FHT_STATUS.RUN = 1 →
    NextWith (exec (.fhtPeriodicDue) s) fun t =>
      t.kettle.fht.due = true ∧ t.kettle.fht.seed = s.kettle.fht.seed ∧ Keeps [] [.kettle] s t) ∧
  (∀ (s : State) (d : Nat),
    s.fld F.KT_CFG.FHT_H ≠ 0 → s.fld F.KT_FHT_STATUS.RUN = 0 → s.fhtDomain = some d → s.kettle.fht.turn < 3 →
    NextWith (exec (.fhtPeriodicDue) s) fun t =>
      t.fld F.KT_FHT_STATUS.RUN = 1 ∧ t.fld F.KT_FHT_STATUS.CH = s.kettle.fht.turn ∧
      t.kettle.fht.turn = (s.kettle.fht.turn + 1) % 3 ∧ t.kettle.fht.seed = (s.ktDom s.kettle.fht.turn d).ctr ∧
      Keeps [Reg.KT_FHT_STATUS] [.kettle, .freeCtr] s t) ∧
  (∀ (s : State) (fault : Int),
    s.fld F.KT_FHT_STATUS.RUN = 1 → s.kettle.fht.due = false → s.fld F.KT_FHT_STATUS.CH < 3 →
    NextWith (exec (.fhtComplete fault) s) fun t =>
      t.fld F.KT_FHT_STATUS.RUN = 0 ∧
      (t.fld F.KT_FHT_STATUS.LAST = (if |(((s.kettle.fht.seed : Int) + s.kettle.fht.inc * ((s.cycle - s.kettle.fht.cycle : Nat) : Int) - ((s.ktDom (s.fld F.KT_FHT_STATUS.CH) s.kettle.fht.domain).ctr : Int) : Int) : Rat) + (fault : Rat) * 2 ^ 48 / 1000| ≤ ((100 * 2 ^ 48 : Nat) : Rat) then 1 else 2)) ∧
      t.rd (Reg.KT_CNT 6) = s.rd (Reg.KT_CNT 6) + 1 ∧
      t.fldBit F.KT_CH_STATUS.HO_BAD (s.fld F.KT_FHT_STATUS.CH) = !decide (|(((s.kettle.fht.seed : Int) + s.kettle.fht.inc * ((s.cycle - s.kettle.fht.cycle : Nat) : Int) - ((s.ktDom (s.fld F.KT_FHT_STATUS.CH) s.kettle.fht.domain).ctr : Int) : Int) : Rat) + (fault : Rat) * 2 ^ 48 / 1000| ≤ ((100 * 2 ^ 48 : Nat) : Rat)) ∧
      KeepsIn [RegSet.one Reg.KT_CH_STATUS, RegSet.one Reg.KT_FHT_STATUS, RegSet.one Reg.KT_CH_FLAGS, RegSet.one Reg.KT_FHT_DEV, RegSet.one (Reg.KT_CNT 6), RegSet.one (Reg.KT_CNT 7)] [.kettle, .freeCtr] s t)

/-- A received PTP message has the effect of its kind. On a port whose engine works and whose domain fields the message matches, where the
frame is not dropped for want of buffers: a two-step Sync of the selected master waits for its Follow_Up and a one-step Sync is used; a
Follow_Up of the waiting Sync uses it; a Delay_Req is answered by a Delay_Resp with its ingress stamp, a Pdelay_Req by a Pdelay_Resp; a
Delay_Resp, Pdelay_Resp or Pdelay_Resp_Follow_Up that answers the latest request takes it further. Beside this, each clause names the
registers and parts that may change; everything else is kept. It rests on R262, R263, R265, R267, R268, Table 09.2 (09_time_transfer.md).
Beside the spec it rests on the model's choices of log entries 11, 42, 43. -/
def Obligations.TimingEngineTakesMessages : Prop :=
  (∀ (s : State) (p : Nat) (m : PtpMsg) (ts : LineStamp),
    p < 192 → s.ttWorks p = true → s.ttOurs p m.domain m.major = true → m.short = false →
    (s.passCells p m.frame.length).2 = true → s.ttRole p = TtRole.SLAVE → s.ttMaster p m.srcClock.toNat m.srcPort = true →
    m.twoStep = true →
    NextWith (exec (.syncReceived p m ts) s) fun t =>
      (t.ttEng p).sync = some ⟨m.srcClock.toNat, m.srcPort, m.seq, s.rxStamp p ts, m.cf, s.ttSteps p⟩ ∧
      t.rd (Reg.PRT_RX_CNT p 0) = s.rd (Reg.PRT_RX_CNT p 0) + 1 ∧
      ((s.ttEng p).sync ≠ none → t.rd (Reg.PRT_TT_CNT p 5) = s.rd (Reg.PRT_TT_CNT p 5) + 1) ∧
      KeepsIn (Scope.buffers ++ [RegSet.each (Reg.BPM_POOL_LOW 0) 0x4 5, RegSet.one (Reg.PRT_FAB_CNT p 0), RegSet.one (Reg.PRT_RX_CNT p 0), RegSet.one (Reg.PRT_RX_CNT p 1), RegSet.one (Reg.PRT_TT_FLAGS p), RegSet.each (Reg.PRT_TT_CNT p 0) 0x8 16]) [.kettle, .fab, .tt, .freeCtr] s t) ∧
  (∀ (s : State) (p : Nat) (m : PtpMsg) (ts : LineStamp),
    p < 192 → s.ttWorks p = true → s.ttOurs p m.domain m.major = true → m.short = false →
    (s.passCells p m.frame.length).2 = true → s.ttRole p = TtRole.SLAVE → s.ttMaster p m.srcClock.toNat m.srcPort = true →
    m.twoStep = false →
    NextWith (exec (.syncReceived p m ts) s) fun t =>
      (t.ttEng p).used = some (ptpTs m + m.cf, s.rxStamp p ts, s.ttSteps p) ∧
      t.rd (Reg.PRT_RX_CNT p 0) = s.rd (Reg.PRT_RX_CNT p 0) + 1 ∧ t.rd (Reg.PRT_TT_CNT p 4) = s.rd (Reg.PRT_TT_CNT p 4) + 1 ∧
      KeepsIn (Scope.buffers ++ Scope.feed ++ [RegSet.each (Reg.KT_DOM_FLAGS 0) 0x100 8, RegSet.one (Reg.PRT_TT_STATUS p), RegSet.each (Reg.BPM_POOL_LOW 0) 0x4 5, RegSet.one (Reg.PRT_FAB_CNT p 0), RegSet.one (Reg.PRT_RX_CNT p 0), RegSet.one (Reg.PRT_RX_CNT p 1), RegSet.one (Reg.PRT_TT_FLAGS p), RegSet.one (Reg.PRT_TT_CNT p 10), RegSet.one (Reg.PRT_TT_CNT p 9), RegSet.one (Reg.PRT_TT_OFS_LO p), RegSet.one (Reg.PRT_TT_OFS_HI p), RegSet.one (Reg.PRT_TT_CNT p 4), RegSet.one (Reg.PRT_TT_CNT p 5)]) [.kettle, .aon, .fab, .tt, .freeCtr] s t) ∧
  (∀ (s : State) (p : Nat) (m : PtpMsg) (ts : LineStamp) (y : TtSync),
    p < 192 → s.ttWorks p = true → s.ttOurs p m.domain m.major = true → m.short = false →
    (s.passCells p m.frame.length).2 = true → s.ttRole p = TtRole.SLAVE → (s.ttEng p).sync = some y →
    y.clock = m.srcClock.toNat → y.port = m.srcPort → y.seq = m.seq → y.steps = s.ttSteps p →
    NextWith (exec (.followUpReceived p m ts) s) fun t =>
      (t.ttEng p).used = some (ptpTs m + y.cf + m.cf, y.t2, y.steps) ∧ (t.ttEng p).sync = none ∧
      t.rd (Reg.PRT_RX_CNT p 0) = s.rd (Reg.PRT_RX_CNT p 0) + 1 ∧ t.rd (Reg.PRT_TT_CNT p 4) = s.rd (Reg.PRT_TT_CNT p 4) + 1 ∧
      KeepsIn (Scope.buffers ++ Scope.feed ++ [RegSet.each (Reg.KT_DOM_FLAGS 0) 0x100 8, RegSet.one (Reg.PRT_TT_STATUS p), RegSet.each (Reg.BPM_POOL_LOW 0) 0x4 5, RegSet.one (Reg.PRT_FAB_CNT p 0), RegSet.one (Reg.PRT_RX_CNT p 0), RegSet.one (Reg.PRT_RX_CNT p 1), RegSet.one (Reg.PRT_TT_FLAGS p), RegSet.one (Reg.PRT_TT_CNT p 10), RegSet.one (Reg.PRT_TT_CNT p 9), RegSet.one (Reg.PRT_TT_OFS_LO p), RegSet.one (Reg.PRT_TT_OFS_HI p), RegSet.one (Reg.PRT_TT_CNT p 4)]) [.kettle, .aon, .fab, .tt, .freeCtr] s t) ∧
  (∀ (s : State) (p : Nat) (m : PtpMsg) (ts : LineStamp),
    p < 192 → s.ttWorks p = true → s.ttOurs p m.domain m.major = true → m.short = false →
    (s.passCells p m.frame.length).2 = true → s.ttRole p = TtRole.MASTER → s.ttMech p ≠ 1 → s.ttHasId p = true →
    NextWith (exec (.delayReqReceived p m ts) s) fun t =>
      (t.ttEng p).queue = (s.ttEng p).queue ++ [⟨9, m.seq, 0, 0, s.ttFrame p 9 (s.ttMsg p 9 m.seq (m.cf - (t16Frac (s.rxStamp p ts) : Int)) (log4 (s.fld (F.PRT_TT_CFG.LOG_DREQ p))) (ptpTime (s.rxStamp p ts) ++ beBytes 8 m.srcClock.toNat ++ beBytes 2 m.srcPort))⟩] ∧
      t.rd (Reg.PRT_RX_CNT p 0) = s.rd (Reg.PRT_RX_CNT p 0) + 1 ∧
      KeepsIn (Scope.buffers ++ [RegSet.each (Reg.BPM_POOL_LOW 0) 0x4 5, RegSet.one (Reg.PRT_FAB_CNT p 0), RegSet.one (Reg.PRT_RX_CNT p 0), RegSet.one (Reg.PRT_RX_CNT p 1)]) [.kettle, .fab, .lines, .tt, .freeCtr] s t) ∧
  (∀ (s : State) (p : Nat) (m : PtpMsg) (ts : LineStamp),
    p < 192 → s.ttWorks p = true → s.ttOurs p m.domain m.major = true → m.short = false →
    (s.passCells p m.frame.length).2 = true → s.ttMech p = 1 → s.ttHasId p = true →
    NextWith (exec (.pdelayReqReceived p m ts) s) fun t =>
      (t.ttEng p).queue = (s.ttEng p).queue ++ [⟨3, m.seq, m.srcClock.toNat, m.srcPort, s.ttFrame p 3 (s.ttMsg p 3 m.seq (-(t16Frac (s.rxStamp p ts) : Int)) 127 (List.replicate 10 0 ++ beBytes 8 m.srcClock.toNat ++ beBytes 2 m.srcPort))⟩] ∧
      t.rd (Reg.PRT_RX_CNT p 0) = s.rd (Reg.PRT_RX_CNT p 0) + 1 ∧
      KeepsIn (Scope.buffers ++ [RegSet.each (Reg.BPM_POOL_LOW 0) 0x4 5, RegSet.one (Reg.PRT_FAB_CNT p 0), RegSet.one (Reg.PRT_RX_CNT p 0), RegSet.one (Reg.PRT_RX_CNT p 1)]) [.kettle, .fab, .lines, .tt, .freeCtr] s t) ∧
  (∀ (s : State) (p : Nat) (m : PtpMsg) (ts : LineStamp) (r : TtReq) (t3 : Time16) (k3 : Nat),
    p < 192 → s.ttWorks p = true → s.ttOurs p m.domain m.major = true → m.short = false →
    (s.passCells p m.frame.length).2 = true → s.ttRole p = TtRole.SLAVE → s.ttMech p ≠ 1 →
    s.ttAnswers p 1 m = some (r, t3, k3) →
    NextWith (exec (.delayRespReceived p m ts) s) fun t =>
      (t.ttEng p).req = none ∧ t.rd (Reg.PRT_RX_CNT p 0) = s.rd (Reg.PRT_RX_CNT p 0) + 1 ∧
      (∀ y, r.sync = some y → y.2.2 = k3 → t.rd (Reg.PRT_TT_CNT p 7) + t.rd (Reg.PRT_TT_CNT p 8) = s.rd (Reg.PRT_TT_CNT p 7) + s.rd (Reg.PRT_TT_CNT p 8) + 1) ∧
      KeepsIn (Scope.buffers ++ [RegSet.one (Reg.PRT_TT_STATUS p), RegSet.each (Reg.BPM_POOL_LOW 0) 0x4 5, RegSet.one (Reg.PRT_FAB_CNT p 0), RegSet.one (Reg.PRT_RX_CNT p 0), RegSet.one (Reg.PRT_RX_CNT p 1), RegSet.one (Reg.PRT_TT_FLAGS p), RegSet.one (Reg.PRT_TT_CNT p 8), RegSet.one (Reg.PRT_TT_CNT p 7), RegSet.one (Reg.PRT_TT_DELAY_LO p), RegSet.one (Reg.PRT_TT_DELAY_HI p), RegSet.one (Reg.PRT_TT_CNT p 10)]) [.kettle, .fab, .tt, .freeCtr] s t) ∧
  (∀ (s : State) (p : Nat) (m : PtpMsg) (ts : LineStamp) (r : TtReq) (t1 : Time16) (k1 : Nat),
    p < 192 → s.ttWorks p = true → s.ttOurs p m.domain m.major = true → m.short = false →
    (s.passCells p m.frame.length).2 = true → s.ttMech p = 1 → s.ttAnswers p 2 m = some (r, t1, k1) →
    NextWith (exec (.pdelayRespReceived p m ts) s) fun t =>
      (t.ttEng p).req = some { r with resp := some (ptpTs m - m.cf, s.rxStamp p ts) } ∧
      t.rd (Reg.PRT_RX_CNT p 0) = s.rd (Reg.PRT_RX_CNT p 0) + 1 ∧
      KeepsIn (Scope.buffers ++ [RegSet.each (Reg.BPM_POOL_LOW 0) 0x4 5, RegSet.one (Reg.PRT_FAB_CNT p 0), RegSet.one (Reg.PRT_RX_CNT p 0), RegSet.one (Reg.PRT_RX_CNT p 1)]) [.kettle, .fab, .tt, .freeCtr] s t) ∧
  (∀ (s : State) (p : Nat) (m : PtpMsg) (ts : LineStamp) (r : TtReq) (t1 : Time16) (k1 : Nat),
    p < 192 → s.ttWorks p = true → s.ttOurs p m.domain m.major = true → m.short = false →
    (s.passCells p m.frame.length).2 = true → s.ttMech p = 1 → s.ttAnswers p 2 m = some (r, t1, k1) → r.resp ≠ none →
    k1 = s.ttSteps p →
    NextWith (exec (.pdelayRespFuReceived p m ts) s) fun t =>
      (t.ttEng p).req = none ∧ t.rd (Reg.PRT_RX_CNT p 0) = s.rd (Reg.PRT_RX_CNT p 0) + 1 ∧
      t.rd (Reg.PRT_TT_CNT p 7) + t.rd (Reg.PRT_TT_CNT p 8) = s.rd (Reg.PRT_TT_CNT p 7) + s.rd (Reg.PRT_TT_CNT p 8) + 1 ∧
      KeepsIn (Scope.buffers ++ [RegSet.one (Reg.PRT_TT_STATUS p), RegSet.each (Reg.BPM_POOL_LOW 0) 0x4 5, RegSet.one (Reg.PRT_FAB_CNT p 0), RegSet.one (Reg.PRT_RX_CNT p 0), RegSet.one (Reg.PRT_RX_CNT p 1), RegSet.one (Reg.PRT_TT_FLAGS p), RegSet.one (Reg.PRT_TT_CNT p 8), RegSet.one (Reg.PRT_TT_CNT p 7), RegSet.one (Reg.PRT_TT_DELAY_LO p), RegSet.one (Reg.PRT_TT_DELAY_HI p), RegSet.one (Reg.PRT_TT_CNT p 10), RegSet.one (Reg.PRT_TT_NRR p)]) [.kettle, .fab, .tt, .freeCtr] s t)

/-- The timing engine queues and sends its messages, and gives up exchanges that get no answer. SYNC_GRID_DUE of a MASTER at a grid point
that no Sync has served, and DELAY_REQ_DUE, queue a message with the next sequenceId of its kind; FOLLOW_UP_SEND queues the follow-up of
the oldest message that has left; ENGINE_FRAME_SEND sends the oldest frame, where it takes the frame boundary, with the stamp of its line
bit and counts it; FOLLOW_UP_TIMEOUT and DELAY_RESP_TIMEOUT discard the exchange, count it and set the flag; DLY_VALID_EXPIRY clears
DLY_VALID. It rests on R263, R264, R265, R266, R267, R269, Table 09.9 (09_time_transfer.md). Beside the spec it rests on the model's
choices of log entries 11, 17, 43. -/
def Obligations.TimingEngineSends : Prop :=
  (∀ (s : State) (p : Nat),
    p < 192 → s.ttWorks p = true → s.ttRole p = TtRole.MASTER → s.ttHasId p = true → s.gridDue p = true →
    NextWith (exec (.syncGridDue p) s) fun t =>
      (t.ttEng p).next.getD 0 0 = ((s.ttEng p).next.getD 0 0 + 1) % 65536 ∧
      ((0, (s.ttEng p).next.getD 0 0) ∈ (t.ttEng p).queue.map fun o => (o.kind, o.seq)) ∧
      (t.ttEng p).queue.length = (s.ttEng p).queue.length + 1 ∧ KeepsRep [] [.tt, .lines] s t) ∧
  (∀ (s : State) (p : Nat),
    p < 192 → s.ttWorks p = true → s.ttHasId p = true → (s.ttMech p = 1 ∨ s.ttRole p = TtRole.SLAVE) →
    NextWith (exec (.delayReqDue p) s) fun t =>
      ((t.ttEng p).req = some ⟨if s.ttMech p = 1 then 2 else 1, (s.ttEng p).next.getD (if s.ttMech p = 1 then 2 else 1) 0, none, none, none⟩) ∧
      (t.ttEng p).queue.length = (s.ttEng p).queue.length + 1 ∧
      ((s.ttEng p).req ≠ none → t.rd (Reg.PRT_TT_CNT p 6) = s.rd (Reg.PRT_TT_CNT p 6) + 1 ∧ t.fld (F.PRT_TT_FLAGS.RESP_LOST p) = 1) ∧
      (t.ttEng p).reqAt = s.cycle + s.reqCycles p ∧
      KeepsRep [Reg.PRT_TT_CNT p 6, Reg.PRT_TT_FLAGS p] [.tt, .lines, .freeCtr] s t) ∧
  (∀ (s : State) (p : Nat) (f : TtFu) (r : List TtFu),
    p < 192 → s.ttHasId p = true → (s.ttEng p).fus = f :: r →
    NextWith (exec (.followUpSend p) s) fun t =>
      (t.ttEng p).fus = r ∧
      ((t.ttEng p).queue.map (fun o => (o.kind, o.seq)) = (s.ttEng p).queue.map (fun o => (o.kind, o.seq)) ++ [(if f.kind = 0 then 8 else 0xA, f.seq)]) ∧
      KeepsRep [] [.tt, .lines] s t) ∧
  (∀ (s : State) (p dep : Nat) (o : TtOut) (r : List TtOut),
    p < 192 → s.ttWorks p = true → s.oper p = Oper.UP → s.idling p = false → (s.ttEng p).queue = o :: r → s.ttFirst p = true →
    NextWith (exec (.engineFrameSend p dep) s) fun t =>
      (t.ttEng p).queue = r ∧ t.rd (Reg.PRT_TT_CNT p (ttSentCnt o.kind)) = s.rd (Reg.PRT_TT_CNT p (ttSentCnt o.kind)) + 1 ∧
      t.out = .frame p o.bytes (s.txStamp (s.txLane p) dep) :: s.out ∧
      KeepsRep [Reg.PRT_TT_CNT p (ttSentCnt o.kind)] [.tt, .lines] s t) ∧
  (∀ (s : State) (p : Nat),
    p < 192 → (s.ttEng p).sync ≠ none →
    NextWith (exec (.followUpTimeout p) s) fun t =>
      (t.ttEng p).sync = none ∧ t.rd (Reg.PRT_TT_CNT p 5) = s.rd (Reg.PRT_TT_CNT p 5) + 1 ∧
      t.fld (F.PRT_TT_FLAGS.FU_LOST p) = 1 ∧ Keeps [Reg.PRT_TT_CNT p 5, Reg.PRT_TT_FLAGS p] [.tt] s t) ∧
  (∀ (s : State) (p : Nat),
    p < 192 → (s.ttEng p).req ≠ none →
    NextWith (exec (.delayRespTimeout p) s) fun t =>
      (t.ttEng p).req = none ∧ t.rd (Reg.PRT_TT_CNT p 6) = s.rd (Reg.PRT_TT_CNT p 6) + 1 ∧
      t.fld (F.PRT_TT_FLAGS.RESP_LOST p) = 1 ∧ Keeps [Reg.PRT_TT_CNT p 6, Reg.PRT_TT_FLAGS p] [.tt] s t) ∧
  (∀ (s : State) (p : Nat),
    p < 192 →
    NextWith (exec (.dlyValidExpiry p) s) fun t =>
      t.fld (F.PRT_TT_STATUS.DLY_VALID p) = 0 ∧ Keeps [Reg.PRT_TT_STATUS p] [] s t)

/-- Offset windows close, messages go to the host, and the host sets trims and roles. OFFSET_WINDOW_CLOSE empties the window, and with at
least 64 markers of one step SRC names the markers and PHV_OK is 1; PTP_TO_HOST counts the message and, where the ring has room, advances
its head; TRIM_WRITE stores the trim and clears the delay history; TT_ROLE_WRITE of a role that no rule forbids stores it. Beside this,
each clause names the registers and parts that may change; everything else is kept. It rests on R262, R269, R272, R279, R388, Table 09.9
(09_time_transfer.md). Beside the spec it rests on the model's choices of log entries 17, 43. -/
def Obligations.WindowsHostMessagesAndRoles : Prop :=
  (∀ (s : State) (p : Nat),
    p < 192 → s.ttWorks p = true → s.isTrunk p = true → s.ttRole p = TtRole.SLAVE →
    NextWith (exec (.offsetWindowClose p) s) fun t =>
      (t.ttEng p).win = TtWin.fresh ∧
      (64 ≤ (s.ttEng p).win.mCnt → (s.ttEng p).win.split = false → (s.ttEng p).win.steps = s.ttSteps p → t.fld (F.PRT_TT_STATUS.SRC p) = 2 ∧ t.fld (F.PRT_TT_STATUS.PHV_OK p) = 1 ∧ t.rd (Reg.PRT_TT_CNT p 11) = s.rd (Reg.PRT_TT_CNT p 11) + BitVec.ofNat 64 (s.ttEng p).win.mCnt) ∧
      KeepsIn (Scope.feed ++ [RegSet.each (Reg.KT_DOM_FLAGS 0) 0x100 8, RegSet.one (Reg.PRT_TT_STATUS p), RegSet.one (Reg.PRT_TT_FLAGS p), RegSet.one (Reg.PRT_TT_CNT p 10), RegSet.one (Reg.PRT_TT_CNT p 9), RegSet.one (Reg.PRT_TT_CNT p 11), RegSet.one (Reg.PRT_TT_CNT p 12)]) [.kettle, .aon, .tt, .freeCtr] s t) ∧
  (∀ (s : State) (p : Nat) (frame : List Byte) (ts : LineStamp),
    p < 192 → s.receives p = true → (s.passCells p frame.length).2 = true →
    NextWith (exec (.ptpToHost p frame ts) s) fun t =>
      t.rd (Reg.PRT_RX_CNT p 0) = s.rd (Reg.PRT_RX_CNT p 0) + 1 ∧ t.rd (Reg.PRT_TT_CNT p 14) = s.rd (Reg.PRT_TT_CNT p 14) + 1 ∧
      t.host.hrxSeq = (s.host.hrxSeq + 1) % 2 ^ 32 ∧
      (s.fld F.DEV_HRX_CTRL.EN = 1 → s.dmaOk = true → s.fld F.DEV_HRX_COUNT.N ≠ 0 → (s.fld F.DEV_HRX_HEAD.IDX + 1) % s.fld F.DEV_HRX_COUNT.N ≠ s.fld F.DEV_HRX_TAIL.IDX → t.fld F.DEV_HRX_HEAD.IDX = (s.fld F.DEV_HRX_HEAD.IDX + 1) % s.fld F.DEV_HRX_COUNT.N ∧ t.rd (Reg.DEV_HI_CNT 2) = s.rd (Reg.DEV_HI_CNT 2) + 1) ∧
      KeepsIn (Scope.buffers ++ [RegSet.each (Reg.BPM_POOL_LOW 0) 0x4 5, RegSet.one (Reg.PRT_FAB_CNT p 0), RegSet.one (Reg.PRT_RX_CNT p 0), RegSet.one (Reg.PRT_RX_CNT p 1), RegSet.one (Reg.DEV_HI_CNT 3), RegSet.one Reg.DEV_HRX_HEAD, RegSet.one (Reg.DEV_HI_CNT 2), RegSet.each (Reg.PRT_TT_CNT p 0) 0x8 16, RegSet.one (Reg.DEV_HI_CNT 4)]) [.host, .kettle, .fab, .freeCtr] s t) ∧
  (∀ (s : State) (p : Nat) (rx : Bool) (v : BitVec 32),
    p < 192 → s.hostOpen → s.portUsed p = true → s.isMutable 16 = true →
    NextWith (exec (.trimWrite p rx v) s) fun t =>
      (t.rd (if rx then Reg.PRT_TT_TRIM_RX p else Reg.PRT_TT_TRIM_TX p) = v.setWidth 64) ∧ t.fld (F.PRT_TT_STATUS.NHIST p) = 0 ∧
      t.fld (F.PRT_TT_STATUS.DLY_VALID p) = 0 ∧ (t.ttEng p).hist = [] ∧
      (KeepsRep [if rx then Reg.PRT_TT_TRIM_RX p else Reg.PRT_TT_TRIM_TX p, Reg.PRT_TT_STATUS p] [.tt] s t)) ∧
  (∀ (s : State) (p : Nat) (v : BitVec 32),
    p < 192 → s.hostOpen → s.portUsed p = true → s.isMutable 15 = true → v.toNat % 4 = s.ttRole p → v.toNat < 2 ^ 24 →
    -7 ≤ log4 (v.toNat / 2 ^ 4) → log4 (v.toNat / 2 ^ 4) ≤ 0 → -7 ≤ log4 (v.toNat / 2 ^ 8) → log4 (v.toNat / 2 ^ 8) ≤ 4 →
    v.toNat % 4 ≠ TtRole.SLAVE →
    NextWith (exec (.ttRoleWrite p v) s) fun t =>
      t.fld ⟨Reg.PRT_TT_CFG p, 23, 0⟩ = v.toNat ∧ KeepsRep [Reg.PRT_TT_CFG p] [] s t) ∧
  (∀ (s : State) (p : Nat) (v : BitVec 32),
    p < 192 → s.hostOpen → s.portUsed p = true → s.isMutable 15 = true → s.ttRole p ≠ TtRole.SLAVE →
    v.toNat % 4 = TtRole.SLAVE → s.fld (F.KT_OFS_CREDIT.RECALLED (s.portDomain p)) = 1 →
    s.fld (F.KT_OFS_CREDIT.ENGINE (s.portDomain p)) = 0 → s.otherSlave p = false → s.isDerived (s.portDomain p) = false →
    v.toNat < 2 ^ 24 → -7 ≤ log4 (v.toNat / 2 ^ 4) → log4 (v.toNat / 2 ^ 4) ≤ 0 → -7 ≤ log4 (v.toNat / 2 ^ 8) →
    log4 (v.toNat / 2 ^ 8) ≤ 4 →
    NextWith (exec (.ttRoleWrite p v) s) fun t =>
      t.ttRole p = TtRole.SLAVE ∧ t.fld ⟨Reg.PRT_TT_CFG p, 23, 0⟩ = v.toNat ∧
      t.fld (F.KT_DOM_CFG.SLAVE_PORT (s.portDomain p)) = p ∧ (t.ttEng p).queue = [] ∧
      KeepsIn [RegSet.each (Reg.KT_PAIR_STATUS 0) 0x8 4, RegSet.each (Reg.PH_SQ_CREDIT 0) 0x80 229, RegSet.each (Reg.PH_CNT 0 6) 0x80 229, RegSet.each (Reg.PH_SQ_CFG 0) 0x80 229, RegSet.one (Reg.PRT_TT_NRR p), RegSet.one (Reg.PRT_TT_CFG p), RegSet.one (Reg.KT_DOM_CFG (s.portDomain p))] [.phase, .tt] s t)

/-- Stamp queues are configured, credited, filled and popped. STAMP_QUEUE_CONFIG stores the consumer and source, empties the queue and
gives the host all 64 credits; STAMP_CREDIT_GRANT moves credits from the host to the producer, STAMP_CREDIT_RECALL takes all of them back;
STAMP_POP of a host queue returns its oldest entry and one credit; WORD_CLOCK_SAMPLE adds its unit intervals to the fit of its clock.
Beside this, each clause names the registers and parts that may change; everything else is kept. It rests on R285, R293, R294, R295, R296.
Beside the spec it rests on the model's choices of log entry 31. -/
def Obligations.StampQueuesMoveCreditsAndStamps : Prop :=
  (∀ (s : State) (n : Nat) (v : BitVec 32),
    n < 229 → s.hostOpen → (s.noQueue n).1 = false → (s.isMutable (if n < 192 then 15 else 12) = true) →
    s.fld (F.PH_SQ_CFG.CONS n) ≠ 2 → v.toNat < 256 → v.toNat % 4 < 2 → (192 ≤ n → v.toNat / 4 % 4 = 0) →
    (n < 192 → v.toNat / 4 % 4 = 1 ∨ v.toNat / 4 % 4 = 2) →
    NextWith (exec (.stampQueueConfig n v) s) fun t =>
      t.fld (F.PH_SQ_CFG.CONS n) = v.toNat % 4 ∧ t.fld (F.PH_SQ_CFG.SRC n) = v.toNat / 4 % 4 ∧
      t.fld (F.PH_SQ_CFG.DEC n) = v.toNat / 16 ∧ t.fld (F.PH_SQ_CREDIT.HOST n) = 64 ∧ t.fld (F.PH_SQ_CREDIT.PROD n) = 0 ∧
      t.fld (F.PH_SQ_CREDIT.OCC n) = 0 ∧ (t.chan n).queue = [] ∧
      t.rd (Reg.PH_CNT n 6) = s.rd (Reg.PH_CNT n 6) + BitVec.ofNat 64 (s.chan n).queue.length ∧
      KeepsRep [Reg.PH_SQ_CFG n, Reg.PH_SQ_CREDIT n, Reg.PH_CNT n 6] [.phase] s t) ∧
  (∀ (s : State) (n k : Nat) (bar2 : Bool),
    hasQueue n = true → s.hostOpen → s.shown n = true → (bar2 = true → s.sqUser n = true) → s.fld (F.PH_SQ_CFG.CONS n) = 1 →
    0 < k → k ≤ 64 → k ≤ s.fld (F.PH_SQ_CREDIT.HOST n) → s.fld (F.PH_SQ_CREDIT.PROD n) + k ≤ 64 →
    NextWith (exec (.stampCreditGrant n k bar2) s) fun t =>
      t.fld (F.PH_SQ_CREDIT.HOST n) + k = s.fld (F.PH_SQ_CREDIT.HOST n) ∧
      t.fld (F.PH_SQ_CREDIT.PROD n) = s.fld (F.PH_SQ_CREDIT.PROD n) + k ∧ (t.chan n).queue = (s.chan n).queue ∧
      KeepsRep [Reg.PH_SQ_CREDIT n] [.phase] s t) ∧
  (∀ (s : State) (n : Nat) (bar2 : Bool),
    hasQueue n = true → s.hostOpen → s.shown n = true → (bar2 = true → s.sqUser n = true) → s.fld (F.PH_SQ_CFG.CONS n) ≠ 2 →
    s.fld (F.PH_SQ_CREDIT.HOST n) + s.fld (F.PH_SQ_CREDIT.PROD n) ≤ 64 →
    NextWith (exec (.stampCreditRecall n bar2) s) fun t =>
      t.fld (F.PH_SQ_CREDIT.HOST n) = s.fld (F.PH_SQ_CREDIT.HOST n) + s.fld (F.PH_SQ_CREDIT.PROD n) ∧
      t.fld (F.PH_SQ_CREDIT.PROD n) = 0 ∧ (t.chan n).queue = (s.chan n).queue ∧ KeepsRep [Reg.PH_SQ_CREDIT n] [.phase] s t) ∧
  (∀ (s : State) (n e : Nat) (r : List Nat) (bar2 : Bool),
    hasQueue n = true → s.hostOpen → (bar2 = true → s.sqUser n = true) → s.fld (F.PH_SQ_CFG.CONS n) = 1 →
    (s.chan n).queue = e :: r →
    NextWith (exec (.stampPop n bar2) s) fun t =>
      (t.chan n).queue = r ∧ t.fld (F.PH_SQ_POP.DATA n 0) = e % 2 ^ 32 ∧ t.fld (F.PH_SQ_POP.DATA n 3) = e / 2 ^ 96 % 2 ^ 32 ∧
      t.fld (F.PH_SQ_CREDIT.HOST n) = min (s.fld (F.PH_SQ_CREDIT.HOST n) + 1) 127 ∧
      (r.length < 128 → t.fld (F.PH_SQ_CREDIT.OCC n) = r.length) ∧ t.out = .read bar2 (sqOfs n 0 bar2) (e % 2 ^ 32) :: s.out ∧
      KeepsRep [Reg.PH_SQ_CREDIT n, Reg.PH_SQ_POP n 0, Reg.PH_SQ_POP n 1, Reg.PH_SQ_POP n 2, Reg.PH_SQ_POP n 3] [.phase] s t) ∧
  (∀ (s : State) (n ui tap : Nat) (tx : Bool),
    n < 192 → s.measures n = true → (s.chan n).lin ≠ [] → Mode.STEEP ≤ s.mode →
    NextWith (exec (.wordClockSample n tx ui tap) s) fun t =>
      ((if tx then (t.chan n).tx else (t.chan n).rx).ui = (if tx then (s.chan n).tx else (s.chan n).rx).ui + ui) ∧
      ((if tx then (t.chan n).tx else (t.chan n).rx).samples.length = min 16 ((if tx then (s.chan n).tx else (s.chan n).rx).samples.length + 1)) ∧
      (s.fld (F.PH_SQ_CFG.SRC n) = 0 → (t.chan n).queue = (s.chan n).queue) ∧
      KeepsIn [RegSet.one (Reg.PH_CH_FLAGS n), RegSet.one (Reg.PH_SQ_CREDIT n), RegSet.one (Reg.PH_CNT n 0), RegSet.one (Reg.PH_CNT n 1)] [.phase] s t)

/-- Rotation and recalibration take channels through Table 10.2. LINEARISATION_DONE in STEEP makes a shown channel valid or BAD;
ROTATION_SLOT_BEGIN of a free spare gives the slot to the requested channel, else to the next of the rotation; TAKEOVER_OVERLAP_END and
RECONNECT_OVERLAP_END go on at a mean difference up to 4 ps and otherwise flag the mismatch or the failure; DLL_ERROR_PERSIST above 3.1 ps
makes the channel BAD; SKEW_MEASUREMENT of a spare that is free to measure stores the skew, and a held one is away for its millisecond;
RECAL_REQUEST requests a channel. Beside this, each clause names the registers and parts that may change; everything else is kept. It
rests on R23, R282, R283, R287, R288, R289, R290, Table 10.2 (10_phase_meters_events_pulses.md). Beside the spec it rests on the model's
choices of log entries 17, 31. -/
def Obligations.RotationKeepsChannelsCalibrated : Prop :=
  (∀ (s : State) (n : Nat) (h1 h2 : List Nat),
    n < 229 → s.mode = Mode.STEEP → s.shown n = true → inlHigh (linInl h1 h2) = true →
    NextWith (exec (.linearisationDone n h1 h2) s) fun t =>
      t.fld (F.PH_CH_STATUS.STATE n) = 3 ∧ t.fld (F.PH_CH_FLAGS.BAD n) = 1 ∧
      KeepsIn [RegSet.each (Reg.PH_CH_QUAL 0) 0x80 229, RegSet.each (Reg.PH_CH_STATUS 0) 0x80 229, RegSet.each (Reg.PH_CH_FLAGS 0) 0x80 229, RegSet.each (Reg.PH_ROT_STATUS 0) 0x4 5, RegSet.each (Reg.PH_CNT 0 4) 0x80 229, RegSet.one 0x417204] [.phase, .freeCtr] s t) ∧
  (∀ (s : State) (n : Nat) (h1 h2 : List Nat),
    n < 229 → s.mode = Mode.STEEP → s.shown n = true → inlHigh (linInl h1 h2) = false →
    NextWith (exec (.linearisationDone n h1 h2) s) fun t =>
      t.fld (F.PH_CH_STATUS.STATE n) = b2n (s.measures n && hasQueue n) ∧ t.fld (F.PH_CH_STATUS.LIN n) = 1 ∧
      KeepsIn [RegSet.each (Reg.PH_CH_QUAL 0) 0x80 229, RegSet.each (Reg.PH_CH_STATUS 0) 0x80 229, RegSet.each (Reg.PH_CH_FLAGS 0) 0x80 229, RegSet.each (Reg.PH_ROT_STATUS 0) 0x4 5, RegSet.each (Reg.PH_CNT 0 4) 0x80 229, RegSet.one 0x417204] [.phase, .freeCtr] s t) ∧
  (∀ (s : State) (g : Nat),
    g < 5 → s.rotates = true → s.fld (F.PH_ROT_STATUS.HELD g) = 0 → (s.rot g).retry = false →
    s.fld (F.PH_ROT_STATUS.STATE g) = 0 → (∀ n < 228, s.chanBad n = false) →
    NextWith (exec (.rotationSlotBegin g) s) fun t =>
      (t.rot g).cur = some ((s.rot g).req.getD (rotUnit g (s.rot g).next)) ∧ (t.rot g).req = none ∧
      ((s.rot g).req = none → (t.rot g).next = ((s.rot g).next + 1) % rotSlots g) ∧ Keeps [Reg.PH_ROT_STATUS g] [.phase] s t) ∧
  (∀ (s : State) (g u : Nat) (d : Int),
    g < 5 → (s.rot g).cur = some u → s.fld (F.PH_ROT_STATUS.STATE g) = 1 → d.natAbs ≤ 40 → u < 256 →
    NextWith (exec (.takeoverOverlapEnd g d) s) fun t =>
      t.fld (F.PH_ROT_STATUS.STATE g) = 2 ∧ t.fld (F.PH_ROT_STATUS.CH g) = u ∧ t.fld (F.PH_CH_STATUS.STATE u) = 2 ∧
      Keeps [Reg.PH_ROT_STATUS g, Reg.PH_CH_STATUS u] [] s t) ∧
  (∀ (s : State) (g u : Nat) (d : Int),
    g < 5 → (s.rot g).cur = some u → s.fld (F.PH_ROT_STATUS.STATE g) = 1 → 40 < d.natAbs →
    NextWith (exec (.takeoverOverlapEnd g d) s) fun t =>
      t.fld (F.PH_CH_FLAGS.MISMATCH u) = 1 ∧ t.rd (Reg.PH_CNT u 5) = s.rd (Reg.PH_CNT u 5) + 1 ∧
      t.fld (F.PH_ROT_STATUS.STATE g) = 0 ∧ (t.rot g).cur = none ∧
      Keeps [Reg.PH_ROT_STATUS g, Reg.PH_CH_FLAGS u, Reg.PH_CNT u 5] [.phase] s t) ∧
  (∀ (s : State) (g u : Nat) (d : Int),
    g < 5 → (s.rot g).cur = some u → s.fld (F.PH_ROT_STATUS.STATE g) = 3 → d.natAbs ≤ 40 →
    NextWith (exec (.reconnectOverlapEnd g d) s) fun t =>
      t.fld (F.PH_CH_STATUS.STATE u) = 1 ∧ t.rd (Reg.PH_CNT u 4) = s.rd (Reg.PH_CNT u 4) + 1 ∧ (t.chan u).fails = 0 ∧
      (t.rot g).cur = none ∧ t.fld (F.PH_ROT_STATUS.STATE g) = 0 ∧
      Keeps [Reg.PH_ROT_STATUS g, Reg.PH_CH_STATUS u, Reg.PH_CNT u 4] [.phase] s t) ∧
  (∀ (s : State) (g u : Nat) (d : Int),
    g < 5 → (s.rot g).cur = some u → s.fld (F.PH_ROT_STATUS.STATE g) = 3 → 40 < d.natAbs → (s.chan u).fails = 0 →
    NextWith (exec (.reconnectOverlapEnd g d) s) fun t =>
      (t.chan u).fails = 1 ∧ (t.rot g).retry = true ∧ t.fld (F.PH_ROT_STATUS.STATE g) = 2 ∧
      Keeps [Reg.PH_ROT_STATUS g] [.phase] s t) ∧
  (∀ (s : State) (n dll : Nat),
    n < 229 → s.shown n = true → Mode.STEEP ≤ s.mode →
    NextWith (exec (.dllErrorPersist n dll) s) fun t =>
      t.fld (F.PH_CH_QUAL.DLL n) = min 1023 dll ∧
      (31 < dll → t.fld (F.PH_CH_FLAGS.DLL_HIGH n) = 1 ∧ t.fld (F.PH_CH_STATUS.STATE n) = 3) ∧
      KeepsIn [RegSet.each (Reg.PH_CH_QUAL 0) 0x80 229, RegSet.each (Reg.PH_CH_STATUS 0) 0x80 229, RegSet.each (Reg.PH_CH_FLAGS 0) 0x80 229, RegSet.each (Reg.PH_ROT_STATUS 0) 0x4 5] [.phase] s t) ∧
  (∀ (s : State) (i : Nat) (skew : BitVec 32),
    i < 4 → s.skewDue i = true →
    NextWith (exec (.skewMeasurement i skew) s) fun t =>
      t.fld (F.PH_SKEW.SKEW i) = skew.toNat ∧ bitAt t.dev.skewOk i = true ∧
      (s.fld (F.PH_ROT_STATUS.HELD i) = 1 → (t.rot i).away = s.cycle + msCycles) ∧ Keeps [Reg.PH_SKEW i] [.dev, .phase] s t) ∧
  (∀ (s : State) (n : Nat),
    n < 229 → s.hostOpen → s.rotates = true → s.fld (F.PH_ROT_STATUS.HELD (phGroup n)) = 0 → (s.rot (phGroup n)).cur ≠ some n →
    (s.rot (phGroup n)).req = none →
    NextWith (exec (.recalRequest n) s) fun t =>
      (t.rot (phGroup n)).req = some n ∧ (t.rot (phGroup n)).cur = (s.rot (phGroup n)).cur ∧ KeepsRep [] [.phase] s t)

/-- Event inputs, their filter, and the frequency meters. EVENT_INPUT_TRANSITION of a new level waits in the filter, or with no filter
shows the level at once; GLITCH_FILTER_EXPIRY shows the level that held; FM_START begins a measurement and FM_GATE_CLOSE ends it with the
number of samples and the result code; the values of a gate with no fit are free (log entry 3). Beside this, each clause names the
registers and parts that may change; everything else is kept. It rests on R286, R297, R298. Beside the spec it rests on the model's
choices of log entries 3, 31. -/
def Obligations.EventInputsAndRegressions : Prop :=
  (∀ (s : State) (n tap : Nat) (level : Bool),
    n < 32 → tap < 256 → s.evtStamps n = true → s.fldBit F.PIN_EVT_LEVEL.LEVEL n ≠ level → (s.chan (196 + n)).pend = none →
    s.fld (F.PIN_EVT_CFG.GLITCH_NS n) ≠ 0 →
    NextWith (exec (.eventInputTransition n level tap) s) fun t =>
      ((t.chan (196 + n)).pend.map (fun q => (q.level, q.dom, q.cycle)) = some (level, s.chanDomain (196 + n), s.cycle)) ∧
      t.fldBit F.PIN_EVT_LEVEL.LEVEL n ≠ level ∧ Keeps [] [.phase] s t) ∧
  (∀ (s : State) (n tap : Nat) (level : Bool),
    n < 32 → tap < 256 → s.evtStamps n = true → s.fldBit F.PIN_EVT_LEVEL.LEVEL n ≠ level → (s.chan (196 + n)).pend = none →
    s.fld (F.PIN_EVT_CFG.GLITCH_NS n) = 0 →
    NextWith (exec (.eventInputTransition n level tap) s) fun t =>
      t.fldBit F.PIN_EVT_LEVEL.LEVEL n = level ∧ (t.chan (196 + n)).pend = none ∧
      KeepsIn (Scope.scans ++ Scope.freeze ++ Scope.stamps ++ [⟨Reg.CD_RING_CNT 0 0, 0x100, 8, 0x8, 8⟩, RegSet.one Reg.PIN_EVT_LEVEL, RegSet.each (Reg.PH_CNT 0 3) 0x80 229, RegSet.each (Reg.PH_CNT 0 2) 0x80 229]) [.scans, .caddy, .phase] s t) ∧
  (∀ (s : State) (n tap : Nat) (level : Bool),
    n < 32 → tap < 256 → s.evtStamps n = true → s.fldBit F.PIN_EVT_LEVEL.LEVEL n = level → (s.chan (196 + n)).pend ≠ none →
    NextWith (exec (.eventInputTransition n level tap) s) fun t =>
      (t.chan (196 + n)).pend = none ∧ t.rd (Reg.PH_CNT (196 + n) 2) = s.rd (Reg.PH_CNT (196 + n) 2) + 1 ∧
      t.fld (F.PH_CH_FLAGS.GLITCH (196 + n)) = 1 ∧ Keeps [Reg.PH_CNT (196 + n) 2, Reg.PH_CH_FLAGS (196 + n)] [.phase] s t) ∧
  (∀ (s : State) (n : Nat) (q : PhPend),
    n < 32 → (s.chan (196 + n)).pend = some q →
    NextWith (exec (.glitchFilterExpiry n) s) fun t =>
      t.fldBit F.PIN_EVT_LEVEL.LEVEL n = q.level ∧ (t.chan (196 + n)).pend = none ∧
      KeepsIn (Scope.scans ++ Scope.freeze ++ Scope.stamps ++ [⟨Reg.CD_RING_CNT 0 0, 0x100, 8, 0x8, 8⟩, RegSet.one Reg.PIN_EVT_LEVEL, RegSet.each (Reg.PH_CNT 0 3) 0x80 229]) [.scans, .caddy, .phase] s t) ∧
  (∀ (s : State) (e : Nat) (v : BitVec 32),
    e < 5 → s.hostOpen → Mode.STEEP ≤ s.mode → s.fld (F.PH_FM_STATUS.RUN e) = 0 → v.toNat / 2 ^ 9 % 2 ^ 7 = 0 →
    bitAt v.toNat 30 = false →
    (if e < 4 then 48 * e ≤ v.toNat % 256 ∧ v.toNat % 256 < 48 * e + 48 else 196 ≤ v.toNat % 256 ∧ v.toNat % 256 < 228 ∧ bitAt v.toNat 8 = false ∧ 0 < s.fld (F.PH_FM_NOM.NS e) ∧ s.fld (F.PH_FM_NOM.NS e) ≤ 4000000000) →
    0 < v.toNat / 2 ^ 16 % 2 ^ 14 → v.toNat / 2 ^ 16 % 2 ^ 14 ≤ 10000 →
    NextWith (exec (.fmStart e v) s) fun t =>
      t.fld (F.PH_FM_STATUS.RUN e) = 1 ∧ t.fld (F.PH_FM_CFG.CH e) = v.toNat % 256 ∧
      t.fld (F.PH_FM_CFG.GATE_MS e) = v.toNat / 2 ^ 16 % 2 ^ 14 ∧
      ((t.phase.fm.get? e).map (fun r => (r.ch, r.start, r.samples)) = some (v.toNat % 256, s.cycle, [])) ∧
      KeepsRep [Reg.PH_FM_CFG e, Reg.PH_FM_STATUS e] [.phase] s t) ∧
  (∀ (s : State) (e : Nat) (r : PhFm),
    e < 5 → s.phase.fm.get? e = some r → s.fmInGate r (s.cycle + 1) = false → r.samples.length < 2 ^ 32 →
    NextWith (exec (.fmGateClose e) s) fun t =>
      t.fld (F.PH_FM_STATUS.RUN e) = 0 ∧ t.fld (F.PH_FM_STATUS.DONE e) = 1 ∧
      t.rd (Reg.PH_FM_N e) = BitVec.ofNat 64 r.samples.length ∧
      (t.fld (F.PH_FM_STATUS.RESULT e) = (if s.stepCount r.dom ≠ r.steps then 1 else if r.samples.length < 16 then 2 else if r.changed then 3 else 0)) ∧
      t.phase.fm.get? e = none ∧
      Keeps [Reg.PH_FM_STATUS e, Reg.PH_FM_N e, Reg.PH_FM_RES e, Reg.PH_FM_RMS e] [.phase, .freeCtr] s t)

/-- Pulse programs and clock outputs start, run and stop. PULSE_ARM with a start at least 128 ns and at most 2 s ahead arms the output;
PULSE_EDGE of an output whose next edge falls due, outside a lead overlap, emits it with its target, FINE and the nearest tap: a leading
edge is counted, a trailing edge ends a single pulse or a stopped program and else goes on to the next slot, and the end of the last slot
ends the program; PULSE_STOP ends a program, after the pulse that is out or whose leading edge falls due; the clock-output commands set
EN, RUN, LOCK and the flags. It rests on R299, R300, R301, R302, R305, R306. Beside the spec it rests on the model's choices of log entry
30. -/
def Obligations.PulseAndClockOutputsRun : Prop :=
  (∀ (s : State) (n : Nat),
    n < 32 → s.hostOpen → s.plsFunc n = true → (s.mode = Mode.BREEZE ∨ s.mode = Mode.GALE ∨ s.mode = Mode.CALM) →
    s.plsBusy n = false → s.phase.plsEnd.getD n 0 ≠ s.cycle + 1 → s.fld (F.PIN_PLS_CFG.MODE n) = 1 → s.plsWidth n ≠ 0 →
    128 * 2 ^ 16 ≤ diff48 (s.fld (F.PIN_PLS_START_NS.NS32 n) * 2 ^ 16 + s.fld (F.PIN_PLS_START_FRAC.FRAC n)) (ns48 (s.now16 (s.fld (F.PIN_PLS_STATUS.DOMAIN n)))) →
    diff48 (s.fld (F.PIN_PLS_START_NS.NS32 n) * 2 ^ 16 + s.fld (F.PIN_PLS_START_FRAC.FRAC n)) (ns48 (s.now16 (s.fld (F.PIN_PLS_STATUS.DOMAIN n)))) ≤ 2000000000 * 2 ^ 16 →
    NextWith (exec (.pulseArm n) s) fun t =>
      t.phase.pls.get? n = some ⟨addT16 (s.now16 (s.fld (F.PIN_PLS_STATUS.DOMAIN n))) (diff48 (s.fld (F.PIN_PLS_START_NS.NS32 n) * 2 ^ 16 + s.fld (F.PIN_PLS_START_FRAC.FRAC n)) (ns48 (s.now16 (s.fld (F.PIN_PLS_STATUS.DOMAIN n))))), 0, false, false, 0, []⟩ ∧
      t.fld (F.PIN_PLS_STATUS.STATE n) = 1 ∧ KeepsRep [Reg.PIN_PLS_STATUS n] [.phase] s t) ∧
  (∀ (s : State) (n k : Nat) (q : PlsProg) (e : Time16) (a : Rat),
    n < 32 → s.phase.pls.get? n = some q → s.plsNext n q = some (k, e) → s.plsAhead n e (s.plsFine n q) = a →
    s.plsDue n a = true → s.overlapLag (s.fld (F.PIN_PLS_STATUS.DOMAIN n)) = none → q.high = false →
    NextWith (exec (.pulseEdge n) s) fun t =>
      t.out = .pulse n (s.fld (F.PIN_PLS_STATUS.IDLE n) == 0) e (signed 8 (s.fld (F.PIN_PLS_FINE.TAPS n))) (nearestTap (s.plsTable n) (a * 524288 / (10 * (s.incNow (s.fld (F.PIN_PLS_STATUS.DOMAIN n)) : Rat)))) :: s.out ∧
      t.rd (Reg.PIN_PLS_CNT n) = s.rd (Reg.PIN_PLS_CNT n) + 1 ∧ t.fld (F.PIN_PLS_STATUS.STATE n) = 2 ∧
      t.phase.pls.get? n = some { q with slot := k, high := true, fine := signed 8 (s.fld (F.PIN_PLS_FINE.TAPS n)), tab := s.plsTable n } ∧
      KeepsRep [Reg.PIN_PLS_CNT n, Reg.PIN_PLS_STATUS n] [.phase] s t) ∧
  (∀ (s : State) (n k : Nat) (q : PlsProg) (e : Time16) (a : Rat),
    n < 32 → s.phase.pls.get? n = some q → s.plsNext n q = some (k, e) → s.plsAhead n e (s.plsFine n q) = a →
    s.plsDue n a = true → s.overlapLag (s.fld (F.PIN_PLS_STATUS.DOMAIN n)) = none → q.high = true →
    (q.stop = true ∨ s.fld (F.PIN_PLS_CFG.MODE n) = 1) →
    NextWith (exec (.pulseEdge n) s) fun t =>
      t.out = .pulse n (s.fld (F.PIN_PLS_STATUS.IDLE n) == 1) e q.fine (nearestTap q.tab (a * 524288 / (10 * (s.incNow (s.fld (F.PIN_PLS_STATUS.DOMAIN n)) : Rat)))) :: s.out ∧
      t.fld (F.PIN_PLS_STATUS.STATE n) = 0 ∧ t.fld (F.PIN_PLS_STATUS.DONE n) = 1 ∧ t.phase.pls.get? n = none ∧
      KeepsRep [Reg.PIN_PLS_STATUS n] [.phase] s t) ∧
  (∀ (s : State) (n k : Nat) (q : PlsProg) (e : Time16) (a : Rat),
    n < 32 → s.phase.pls.get? n = some q → s.plsNext n q = some (k, e) → s.plsAhead n e (s.plsFine n q) = a →
    s.plsDue n a = true → s.overlapLag (s.fld (F.PIN_PLS_STATUS.DOMAIN n)) = none → q.high = true → q.stop = false →
    s.fld (F.PIN_PLS_CFG.MODE n) ≠ 1 →
    NextWith (exec (.pulseEdge n) s) fun t =>
      t.out = .pulse n (s.fld (F.PIN_PLS_STATUS.IDLE n) == 1) e q.fine (nearestTap q.tab (a * 524288 / (10 * (s.incNow (s.fld (F.PIN_PLS_STATUS.DOMAIN n)) : Rat)))) :: s.out ∧
      t.phase.pls.get? n = some { q with slot := q.slot + 1, high := false } ∧ KeepsRep [] [.phase] s t) ∧
  (∀ (s : State) (n : Nat) (q : PlsProg),
    n < 32 → s.phase.pls.get? n = some q → s.plsNext n q = none → s.fld (F.PIN_PLS_CFG.COUNT n) ≠ 0 →
    s.plsDue n (s.leadAhead n (s.plsSlotAt n q (s.fld (F.PIN_PLS_CFG.COUNT n)))) = true →
    NextWith (exec (.pulseEdge n) s) fun t =>
      t.out = s.out ∧ t.fld (F.PIN_PLS_STATUS.STATE n) = 0 ∧ t.fld (F.PIN_PLS_STATUS.DONE n) = 1 ∧ t.phase.pls.get? n = none ∧
      KeepsRep [Reg.PIN_PLS_STATUS n] [.phase] s t) ∧
  (∀ (s : State) (n : Nat) (q : PlsProg),
    n < 32 → s.hostOpen → s.plsFunc n = true → s.phase.pls.get? n = some q →
    NextWith (exec (.pulseStop n) s) fun t =>
      (q.high = true ∨ s.plsLeadsNow n q = true → t.phase.pls.get? n = some { q with stop := true }) ∧
      (q.high = false → s.plsLeadsNow n q = false → t.phase.pls.get? n = none ∧ t.fld (F.PIN_PLS_STATUS.STATE n) = 0 ∧ t.fld (F.PIN_PLS_STATUS.DONE n) = 1) ∧
      KeepsRep [Reg.PIN_PLS_STATUS n] [.phase] s t) ∧
  (∀ (s : State) (k : Nat),
    k < 8 → s.hostOpen → s.clkFunc k = true → s.isMutable 14 = true → s.fld (F.PIN_CLK_CTRL.EN k) = 0 →
    NextWith (exec (.clockOutEnable k true) s) fun t =>
      t.fld (F.PIN_CLK_CTRL.EN k) = 1 ∧ t.fld (F.PIN_CLK_STATUS.RUN k) = 0 ∧ t.fld (F.PIN_CLK_STATUS.LOCK k) = 0 ∧
      KeepsRep [Reg.PIN_CLK_CTRL k, Reg.PIN_CLK_STATUS k] [] s t) ∧
  (∀ (s : State) (k : Nat),
    k < 8 → s.hostOpen → s.clkFunc k = true → s.isMutable 14 = true → s.fld (F.PIN_CLK_CTRL.EN k) = 1 →
    NextWith (exec (.clockOutEnable k false) s) fun t =>
      t.fld (F.PIN_CLK_CTRL.EN k) = 0 ∧ t.fld (F.PIN_CLK_STATUS.RUN k) = 0 ∧
      t.fld (F.PIN_CLK_STATUS.LOCK k) = s.fld (F.PIN_CLK_STATUS.LOCK k) ∧
      KeepsRep [Reg.PIN_CLK_CTRL k, Reg.PIN_CLK_STATUS k] [] s t) ∧
  (∀ (s : State) (k : Nat) (hz : BitVec 32),
    k < 8 → s.hostOpen → s.clkFunc k = true → s.isMutable 14 = true → 1000 ≤ hz.toNat → hz.toNat ≤ 350000000 →
    NextWith (exec (.clockOutFreqWrite k hz) s) fun t =>
      t.fld (F.PIN_CLK_FREQ.HZ k) = hz.toNat ∧
      (s.fld (F.PIN_CLK_CTRL.EN k) = 1 → t.fld (F.PIN_CLK_STATUS.RUN k) = 0 ∧ t.fld (F.PIN_CLK_STATUS.LOCK k) = 0) ∧
      KeepsRep [Reg.PIN_CLK_FREQ k, Reg.PIN_CLK_STATUS k] [] s t) ∧
  (∀ (s : State) (k : Nat),
    k < 8 → s.clkFunc k = true → Mode.STEEP ≤ s.mode →
    NextWith (exec (.clockPllLock k) s) fun t =>
      t.fld (F.PIN_CLK_STATUS.LOCK k) = 1 ∧ t.fld (F.PIN_CLK_STATUS.RUN k) = s.fld (F.PIN_CLK_CTRL.EN k) ∧
      Keeps [Reg.PIN_CLK_STATUS k] [] s t) ∧
  (∀ (s : State) (k : Nat),
    k < 8 → s.clkFunc k = true →
    NextWith (exec (.clockPllLol k) s) fun t =>
      t.fldBit F.PIN_CLK_FLAGS.LOL k = true ∧ t.fld (F.PIN_CLK_STATUS.LOCK k) = 0 ∧
      t.fld (F.PIN_CLK_STATUS.RUN k) = s.fld (F.PIN_CLK_STATUS.RUN k) ∧ Keeps [Reg.PIN_CLK_STATUS k, Reg.PIN_CLK_FLAGS] [] s t) ∧
  (∀ (s : State) (k : Nat),
    k < 8 → s.clkFunc k = true →
    NextWith (exec (.clockRefLoss k) s) fun t =>
      t.fldBit F.PIN_CLK_FLAGS.REF_LOSS k = true ∧ Keeps [Reg.PIN_CLK_FLAGS] [] s t)

/-- Vane candidates follow Table 11.2, and quality levels follow received SSMs and their timeout. CANDIDATE_INACTIVE of an active
candidate ends its activity, counts and flags it, and disqualifies it unless it was new; CANDIDATE_ACTIVE makes it active;
FREQ_MEASUREMENT of a complete window stores the fractional offset and changes the state by the acceptance and rejection thresholds, also
over a restoration of the same cycle, and an incomplete window gives no measurement; WTR_EXPIRY requalifies a candidate whose wait has
passed. Losing the selected candidate takes a locked Vane to HOLDOVER on the holdover word, or to FREERUN on word 0. ESMC_PDU_RECEIVED on
an UP port gives each of its lane candidates the quality level of the SSM byte and counts it; ESMC_TIMEOUT gives a candidate QL-DNU, flags
and counts it. Beside this, each clause names the registers and parts that may change; everything else is kept. It rests on R312, R313,
R314, R319, Table 11.2 (11_vane_reference_selection.md), R316. Beside the spec it rests on the model's choices of log entry 17. -/
def Obligations.CandidatesAndQualityLevelsFollowTheirTables : Prop :=
  (∀ (s : State) (i : Nat),
    i < 11 → s.candUsed i = true → s.vane.started = true → s.candHolds i ≠ some true → s.candActive i = true →
    NextWith (exec (.candidateInactive i) s) fun t =>
      t.candActive i = false ∧ t.fld (F.VN_CAND_FLAGS.INACTIVE i) = 1 ∧ t.rd (Reg.VN_CNT 3) = s.rd (Reg.VN_CNT 3) + 1 ∧
      (t.candState i = (if s.candState i = 1 ∨ s.candState i = 2 ∨ s.candState i = 4 then 3 else s.candState i)) ∧
      (s.vnState = 1 → s.fld F.VN_STATUS.SEL = i → s.candState i = 1 ∨ s.candState i = 2 → t.vnState = (if s.fld F.VN_STATUS.HO_VALID = 1 then 2 else 0) ∧ t.fld F.VN_STEER.WORD = (if s.fld F.VN_STATUS.HO_VALID = 1 then s.fld F.VN_HO_WORD.WORD else 0)) ∧
      KeepsRep ([Reg.VN_STATUS, Reg.VN_FLAGS, Reg.VN_STEER, Reg.VN_PULL, Reg.VN_CNT 1, Reg.VN_CNT 2, Reg.VN_CAND_STATUS i, Reg.VN_CAND_FLAGS i, Reg.VN_CNT 3] ++ (List.range 192).map Reg.PRT_TT_STATUS) [.vane, .freeCtr] s t) ∧
  (∀ (s : State) (i : Nat),
    i < 11 → s.candUsed i = true → s.vane.started = true → s.candHolds i ≠ some false →
    NextWith (exec (.candidateActive i) s) fun t =>
      t.candActive i = true ∧ t.candState i = s.candState i ∧ (s.candActive i = false → t.vane.since.getD i 0 = s.cycle) ∧
      Keeps [Reg.VN_CAND_STATUS i] [.vane] s t) ∧
  (∀ (s : State) (i v : Nat) (y : Int),
    i < 11 → s.candUsed i = true → s.vane.started = true → s.windowFull i = true → s.candOffset i v = y →
    s.vane.restored.get? i ≠ some s.cycle → y.natAbs ≤ s.fld F.VN_CFG.REJECT_PPB →
    NextWith (exec (.freqMeasurement i (some v)) s) fun t =>
      t.fld (F.VN_CAND_FREQ.PPB i) = unsigned 32 y ∧
      (y.natAbs ≤ s.fld F.VN_CFG.ACCEPT_PPB → t.candState i = (if s.candState i ≤ 2 then 1 else if s.candState i = 3 then 4 else s.candState i)) ∧
      (s.fld F.VN_CFG.ACCEPT_PPB < y.natAbs → t.candState i = (if s.candState i = 1 then 2 else if s.candState i = 4 then 3 else s.candState i)) ∧
      KeepsRep ([Reg.VN_STATUS, Reg.VN_FLAGS, Reg.VN_STEER, Reg.VN_PULL, Reg.VN_CNT 1, Reg.VN_CNT 2, Reg.VN_CAND_STATUS i, Reg.VN_CAND_FLAGS i, Reg.VN_CAND_FREQ i] ++ (List.range 192).map Reg.PRT_TT_STATUS) [.vane, .freeCtr] s t) ∧
  (∀ (s : State) (i v : Nat) (y : Int),
    i < 11 → s.candUsed i = true → s.vane.started = true → s.windowFull i = true → s.candOffset i v = y →
    s.vane.restored.get? i ≠ some s.cycle → s.fld F.VN_CFG.ACCEPT_PPB < y.natAbs → s.fld F.VN_CFG.REJECT_PPB < y.natAbs →
    NextWith (exec (.freqMeasurement i (some v)) s) fun t =>
      t.fld (F.VN_CAND_FREQ.PPB i) = unsigned 32 y ∧ (t.candState i = (if s.candState i ≤ 4 then 3 else s.candState i)) ∧
      (s.candState i ≤ 2 → t.rd (Reg.VN_CNT 3) = s.rd (Reg.VN_CNT 3) + 1 ∧ t.fld (F.VN_CAND_FLAGS.REJECT i) = 1) ∧
      KeepsRep ([Reg.VN_STATUS, Reg.VN_FLAGS, Reg.VN_STEER, Reg.VN_PULL, Reg.VN_CNT 1, Reg.VN_CNT 2, Reg.VN_CAND_STATUS i, Reg.VN_CAND_FLAGS i, Reg.VN_CAND_FREQ i, Reg.VN_CNT 3] ++ (List.range 192).map Reg.PRT_TT_STATUS) [.vane, .freeCtr] s t) ∧
  (∀ (s : State) (i v : Nat) (y : Int),
    i < 11 → s.candUsed i = true → s.vane.started = true → s.windowFull i = true → s.candOffset i v = y →
    s.vane.restored.get? i = some s.cycle → s.candState i = 1 → s.fld F.VN_CFG.ACCEPT_PPB < y.natAbs →
    NextWith (exec (.freqMeasurement i (some v)) s) fun t =>
      t.fld (F.VN_CAND_FREQ.PPB i) = unsigned 32 y ∧ t.candState i = 3 ∧ t.rd (Reg.VN_CNT 4) = s.rd (Reg.VN_CNT 4) - 1 ∧
      KeepsRep ([Reg.VN_STATUS, Reg.VN_FLAGS, Reg.VN_STEER, Reg.VN_PULL, Reg.VN_CNT 1, Reg.VN_CNT 2, Reg.VN_CAND_STATUS i, Reg.VN_CAND_FREQ i, Reg.VN_CNT 4] ++ (List.range 192).map Reg.PRT_TT_STATUS) [.vane, .freeCtr] s t) ∧
  (∀ (s : State) (i v : Nat),
    i < 11 → s.candUsed i = true → s.vane.started = true → s.windowFull i = false →
    NextWith (exec (.freqMeasurement i (some v)) s) fun t =>
      t.fld (F.VN_CAND_FREQ.PPB i) = 0x80000000 ∧ Keeps [Reg.VN_CAND_FREQ i] [] s t) ∧
  (∀ (s : State) (i : Nat),
    i < 11 → s.candUsed i = true → s.vane.started = true →
    NextWith (exec (.freqMeasurement i none) s) fun t =>
      t.fld (F.VN_CAND_FREQ.PPB i) = 0x80000000 ∧ Keeps [Reg.VN_CAND_FREQ i] [] s t) ∧
  (∀ (s : State) (i : Nat),
    i < 11 → s.candState i = 4 → s.vane.wtr.getD i 0 = 0 →
    NextWith (exec (.wtrExpiry i) s) fun t =>
      t.candState i = 1 ∧ t.fld (F.VN_CAND_STATUS.WTR_LEFT i) = 0 ∧ t.vane.wtr.get? i = none ∧
      t.vane.restored.get? i = some s.cycle ∧ t.rd (Reg.VN_CNT 4) = s.rd (Reg.VN_CNT 4) + 1 ∧
      KeepsRep ([Reg.VN_STATUS, Reg.VN_FLAGS, Reg.VN_STEER, Reg.VN_PULL, Reg.VN_CNT 1, Reg.VN_CNT 2, Reg.VN_CAND_STATUS i, Reg.VN_CNT 4] ++ (List.range 192).map Reg.PRT_TT_STATUS) [.vane, .freeCtr] s t) ∧
  (∀ (s : State) (p i : Nat) (ssm : BitVec 8),
    p < 192 → s.portUsed p = true → s.vane.started = true → s.oper p = Oper.UP → i ∈ s.candsOfPort p →
    NextWith (exec (.esmcPduReceived p ssm) s) fun t =>
      t.candQl i = ssm.toNat % 16 ∧ t.rd (Reg.VN_CNT 6) = s.rd (Reg.VN_CNT 6) + BitVec.ofNat 64 (s.candsOfPort p).length ∧
      (∀ j < 11, t.candState j = s.candState j ∧ (j ∉ s.candsOfPort p → t.candQl j = s.candQl j)) ∧
      KeepsIn [RegSet.each (Reg.PRT_TT_STATUS 0) 0x10000 256, RegSet.one Reg.VN_STATUS, RegSet.one Reg.VN_FLAGS, RegSet.one Reg.VN_PULL, RegSet.one Reg.VN_STEER, RegSet.one (Reg.VN_CNT 1), RegSet.one (Reg.VN_CNT 2), RegSet.each (Reg.VN_CAND_STATUS 0) 0x20 11, RegSet.one (Reg.VN_CNT 5), RegSet.each (Reg.VN_CAND_FLAGS 0) 0x20 11, RegSet.one (Reg.VN_CNT 6)] [.vane] s t) ∧
  (∀ (s : State) (i : Nat),
    i < 11 → s.candUsed i = true → s.candLane i = true → s.vane.started = true →
    NextWith (exec (.esmcTimeout i) s) fun t =>
      t.candQl i = 0xF ∧ t.fld (F.VN_CAND_FLAGS.ESMC_TO i) = 1 ∧ t.rd (Reg.VN_CNT 7) = s.rd (Reg.VN_CNT 7) + 1 ∧
      t.candState i = s.candState i ∧
      KeepsRep ([Reg.VN_STATUS, Reg.VN_FLAGS, Reg.VN_STEER, Reg.VN_PULL, Reg.VN_CNT 1, Reg.VN_CNT 2, Reg.VN_CAND_STATUS i, Reg.VN_CAND_FLAGS i, Reg.VN_CNT 5, Reg.VN_CNT 7] ++ (List.range 192).map Reg.PRT_TT_STATUS) [.vane, .freeCtr] s t)

/-- The DPLL selects, switches and holds over by R318 to R323. SELECTION_TICK keeps a locked best candidate, begins a switch to a better
one with the phase difference taken into its range, and during a switch pulls the remaining offset towards zero by SLOPE; an abandoned
switch with no candidate holds over; PULL_COMPLETE after 10 ms at zero locks on the target and empties the holdover memory;
HOLDOVER_RECORD records the steering word within 25 ppm. Beside this, each clause names the registers and parts that may change;
everything else is kept. It rests on R318, R319, R320, R321, R322, R323. Beside the spec it rests on the model's choices of log entry 17. -/
def Obligations.DpllSelectsSwitchesAndHolds : Prop :=
  (∀ (s : State) (b : Nat) (d : Int),
    s.vane.started = true → s.bestCand = some b → s.vnState = 1 → s.fld F.VN_STATUS.SEL = b →
    NextWith (exec (.selectionTick d) s) fun t =>
      t.vnState = 1 ∧ t.fld F.VN_STATUS.SEL = b ∧ t.fld F.VN_STATUS.PEND = 0 ∧ t.rd Reg.VN_STEER = s.rd Reg.VN_STEER ∧
      KeepsIn [RegSet.each (Reg.PRT_TT_STATUS 0) 0x10000 256, RegSet.one Reg.VN_STATUS, RegSet.one Reg.VN_FLAGS, RegSet.one Reg.VN_PULL, RegSet.one Reg.VN_STEER, RegSet.one (Reg.VN_CNT 1), RegSet.one (Reg.VN_CNT 2), RegSet.one (Reg.VN_CNT 0), RegSet.each (Reg.VN_CAND_STATUS 0) 0x20 11] [.vane, .freeCtr] s t) ∧
  (∀ (s : State) (b : Nat) (d : Int),
    s.vane.started = true → s.bestCand = some b → s.vnState ≠ 3 → (s.vnState = 1 → s.fld F.VN_STATUS.SEL ≠ b) →
    NextWith (exec (.selectionTick d) s) fun t =>
      t.vnState = 3 ∧ t.fld F.VN_STATUS.TARGET = b ∧ t.fld F.VN_STATUS.SEL = 0xF ∧
      t.fld F.VN_PULL.DELTA = unsigned 16 (phaseDiff d) ∧ t.fld F.VN_PULL.REMAIN = unsigned 16 (phaseDiff d) ∧
      t.fld F.VN_STATUS.PEND = 0 ∧ t.rd (Reg.VN_CNT 0) = s.rd (Reg.VN_CNT 0) + 1 ∧
      (∀ p < 192, p ∈ s.ports → t.fld (F.PRT_TT_STATUS.L1 p) = 0) ∧
      KeepsIn [RegSet.each (Reg.PRT_TT_STATUS 0) 0x10000 256, RegSet.one Reg.VN_STATUS, RegSet.one Reg.VN_FLAGS, RegSet.one Reg.VN_PULL, RegSet.one Reg.VN_STEER, RegSet.one (Reg.VN_CNT 1), RegSet.one (Reg.VN_CNT 2), RegSet.one (Reg.VN_CNT 0), RegSet.each (Reg.VN_CAND_STATUS 0) 0x20 11] [.vane, .freeCtr] s t) ∧
  (∀ (s : State) (b : Nat) (d : Int),
    s.vane.started = true → s.bestCand = some b → s.vnState = 3 → s.vane.abandoned = false →
    NextWith (exec (.selectionTick d) s) fun t =>
      t.vnState = 3 ∧ t.fld F.VN_STATUS.TARGET = s.fld F.VN_STATUS.TARGET ∧
      (t.fld F.VN_STATUS.PEND = (if b = s.fld F.VN_STATUS.TARGET then 0 else 1)) ∧
      (signed 16 (t.fld F.VN_PULL.REMAIN)).natAbs = (signed 16 (s.fld F.VN_PULL.REMAIN)).natAbs - s.fld F.VN_CFG1.SLOPE ∧
      KeepsIn [RegSet.each (Reg.PRT_TT_STATUS 0) 0x10000 256, RegSet.one Reg.VN_STATUS, RegSet.one Reg.VN_FLAGS, RegSet.one Reg.VN_PULL, RegSet.one Reg.VN_STEER, RegSet.one (Reg.VN_CNT 1), RegSet.one (Reg.VN_CNT 2), RegSet.one (Reg.VN_CNT 0), RegSet.each (Reg.VN_CAND_STATUS 0) 0x20 11] [.vane, .freeCtr] s t) ∧
  (∀ (s : State) (d : Int),
    s.vane.started = true → s.bestCand = none → s.vnState = 3 → s.vane.abandoned = true →
    NextWith (exec (.selectionTick d) s) fun t =>
      (t.vnState = (if s.fld F.VN_STATUS.HO_VALID = 1 then 2 else 0)) ∧ t.vane.abandoned = false ∧ t.fld F.VN_PULL.REMAIN = 0 ∧
      KeepsIn [RegSet.each (Reg.PRT_TT_STATUS 0) 0x10000 256, RegSet.one Reg.VN_STATUS, RegSet.one Reg.VN_FLAGS, RegSet.one Reg.VN_PULL, RegSet.one Reg.VN_STEER, RegSet.one (Reg.VN_CNT 1), RegSet.one (Reg.VN_CNT 2), RegSet.one (Reg.VN_CNT 0), RegSet.each (Reg.VN_CAND_STATUS 0) 0x20 11] [.vane, .freeCtr] s t) ∧
  (∀ (s : State) (d : Int),
    s.vane.started = true → s.bestCand = none → s.vnState ≠ 3 →
    NextWith (exec (.selectionTick d) s) fun t =>
      t.vnState = s.vnState ∧ t.fld F.VN_STATUS.PEND = 0 ∧ t.rd Reg.VN_STEER = s.rd Reg.VN_STEER ∧
      KeepsIn [RegSet.each (Reg.PRT_TT_STATUS 0) 0x10000 256, RegSet.one Reg.VN_STATUS, RegSet.one Reg.VN_FLAGS, RegSet.one Reg.VN_PULL, RegSet.one Reg.VN_STEER, RegSet.one (Reg.VN_CNT 1), RegSet.one (Reg.VN_CNT 2), RegSet.one (Reg.VN_CNT 0), RegSet.each (Reg.VN_CAND_STATUS 0) 0x20 11] [.vane, .freeCtr] s t) ∧
  (∀ (s : State),
    s.vane.started = true → s.vnState = 3 → s.vane.abandoned = false → s.fld F.VN_PULL.REMAIN = 0 → 10 ≤ s.vane.flat →
    NextWith (exec (.pullComplete) s) fun t =>
      t.vnState = 1 ∧ t.fld F.VN_STATUS.SEL = s.fld F.VN_STATUS.TARGET ∧ t.fld F.VN_STATUS.TARGET = 0xF ∧
      t.fld F.VN_STATUS.HO_VALID = 0 ∧ t.fld F.VN_PULL.REMAIN = 0 ∧ t.vane.recs = [] ∧
      KeepsRep ([Reg.VN_STATUS, Reg.VN_FLAGS, Reg.VN_STEER, Reg.VN_PULL, Reg.VN_CNT 1, Reg.VN_CNT 2] ++ (List.range 192).map Reg.PRT_TT_STATUS) [.vane, .freeCtr] s t) ∧
  (∀ (s : State) (w : BitVec 32),
    s.vane.started = true → s.vnState = 1 →
    NextWith (exec (.holdoverRecord w) s) fun t =>
      t.vane.recs = (steerLimit w :: s.vane.recs).take 160 ∧ t.fld F.VN_STEER.WORD = (steerLimit w).toNat ∧
      (t.fld F.VN_STEER.WORD : Int) = unsigned 32 (max (-27487790) (min 27487790 w.toInt)) ∧
      (t.fld F.VN_STATUS.HO_VALID = (if s.vane.recs.length < 10 then 0 else 1)) ∧ t.vnState = 1 ∧
      Keeps [Reg.VN_STEER, Reg.VN_HO_WORD, Reg.VN_STATUS] [.vane, .freeCtr] s t)

/-- Caddy rings are triggered, freeze and are released by Table 12.3. RING_HOST_TRIGGER of a RUNNING ring latches the trigger and either
freezes the ring or starts its post window; a further trigger is counted only; POST_WINDOW_END of a ring whose post counter has reached 0
freezes it, keeping the chunks from the protected one on; RING_RELEASE of a FROZEN ring that nothing reads empties it and sets it RUNNING.
Beside this, each clause names the registers and parts that may change; everything else is kept. It rests on R336, R337, R338, R340, Table
12.3 (12_caddy_capture_replay.md). Beside the spec it rests on the model's choices of log entry 61. -/
def Obligations.CaddyRingsTriggerFreezeAndRelease : Prop :=
  (∀ (s : State) (n : Nat),
    n < 8 → s.hostOpen → s.ringState n = 2 →
    NextWith (exec (.ringHostTrigger n) s) fun t =>
      (t.ringState n = (if s.fld (F.CD_RING_POST.US n) = 0 then 4 else 3)) ∧
      t.fld (F.CD_RING_TRIG_NS.NS n) = t16Ns (s.now16 (s.ringDomain n)) ∧ t.fld (F.CD_RING_TRIG_INFO.CAUSE n) = 1 ∧
      t.rd (Reg.CD_RING_CNT n 5) = s.rd (Reg.CD_RING_CNT n 5) + 1 ∧ (t.ring n).trt = (s.ring n).rt ∧
      (t.ring n).post = s.fld (F.CD_RING_POST.US n) ∧ (t.ring n).trigAt = some s.cycle ∧
      KeepsIn (Scope.scans ++ Scope.freeze ++ [⟨Reg.CD_RING_CNT 0 0, 0x100, 8, 0x8, 8⟩, RegSet.one 0xa000f0, RegSet.one 0xa000f4]) [.scans, .caddy] s t) ∧
  (∀ (s : State) (n : Nat),
    n < 8 → s.hostOpen → (s.ringState n = 3 ∨ s.ringState n = 4) →
    NextWith (exec (.ringHostTrigger n) s) fun t =>
      t.rd (Reg.CD_RING_CNT n 6) = s.rd (Reg.CD_RING_CNT n 6) + 1 ∧
      ((s.ring n).trigAt ≠ some s.cycle → t.rd (Reg.CD_RING_TRIG_INFO n) = s.rd (Reg.CD_RING_TRIG_INFO n)) ∧
      KeepsRep [Reg.CD_RING_CNT n 6, Reg.CD_RING_TRIG_INFO n] [] s t) ∧
  (∀ (s : State) (n : Nat),
    n < 8 → s.ringState n = 3 → (s.ring n).post = 0 →
    NextWith (exec (.postWindowEnd n) s) fun t =>
      t.ringState n = 4 ∧ t.fld (F.CD_RING_STATUS.EARLY n) = 0 ∧ t.fld (F.CD_RING_STATUS.CUT n) = 0 ∧
      (s.stagedFor n = none → (t.ring n).chunks = (s.ring n).chunks.dropWhile (fun c => c.idx != (s.ring n).prot)) ∧
      t.fld (F.CD_RING_RANGE.FIRST_CHUNK n) = (s.ring n).prot % 2 ^ 16 ∧
      t.fld (F.CD_RING_RANGE.NCHUNK n) = (t.ring n).chunks.length % 2 ^ 16 ∧
      (s.stagedFor n = none → KeepsRep [Reg.CD_RING_STATUS n, Reg.CD_RING_RANGE n, Reg.CD_RING_FIRST_RSEQ n, Reg.CD_RING_LAST_RSEQ n] [.caddy] s t)) ∧
  (∀ (s : State) (n : Nat),
    n < 8 → (s.mode = Mode.BREEZE ∨ s.mode = Mode.GALE ∨ s.mode = Mode.CALM) → s.dev.softHold = false → s.ringState n = 4 →
    s.readingRing n = false → s.replayOn n = false →
    NextWith (exec (.ringRelease n) s) fun t =>
      t.ringState n = 2 ∧ (t.ring n).chunks = [] ∧ (t.ring n).rseq = (s.ring n).rseq ∧ t.fld (F.CD_RING_STATUS.EARLY n) = 0 ∧
      t.fld (F.CD_RING_STATUS.CUT n) = 0 ∧ KeepsRep [Reg.CD_RING_STATUS n] [.caddy] s t)

/-- The Caddy writer writes staged records in turn, and a readout runs over a frozen ring. RECORD_WRITE takes the next staged record; into
a RUNNING ring, or in the post window where no protected chunk is met, it appends the record with the next record sequence number and the
gap mark, and counts it; for a ring that records no longer, or where the protected chunk would have to be opened, the record is dropped as
where staging is full, and in the second case the ring freezes, early while its post counter runs. READOUT_GO with legal values on a
FROZEN ring starts a readout, or ends it as aborted where DMA is not possible; READOUT_DONE writes the chunks and ends it as done;
READOUT_ABORT ends a running readout as aborted, after a number of chunks that is open (log entry 3). Beside this, each clause names the
registers and parts that may change; everything else is kept. It rests on R333, R334, R335, R336, R339, R341, R397. Beside the spec it
rests on the model's choices of log entries 3, 55, 61. -/
def Obligations.CaddyWriterAndReadoutMoveRecords : Prop :=
  (∀ (s : State) (sl n : Nat) (x : CdRecord),
    s.nextStaged = some (sl, n, x) → n < 8 → (s.ringState n = 2 ∨ (s.ringState n = 3 ∧ s.meetsProt n x = false)) →
    NextWith (exec (.recordWrite) s) fun t =>
      (t.ring n).rseq = ((s.ring n).rseq + 1) % 2 ^ 32 ∧ (t.ring n).gap = false ∧
      ((((t.ring n).chunks.getLast?).bind (fun c => c.recs.getLast?)).map (fun y => (y.rseq, y.gap, y.stamp, y.bytes)) = some ((s.ring n).rseq, (s.ring n).gap, x.stamp, x.bytes)) ∧
      t.rd (Reg.CD_RING_CNT n 0) = s.rd (Reg.CD_RING_CNT n 0) + 1 ∧
      t.rd (Reg.CD_RING_CNT n 1) = s.rd (Reg.CD_RING_CNT n 1) + BitVec.ofNat 64 (32 + 8 * ((x.bytes.length + 7) / 8)) ∧
      t.caddy.turn = (sl + 1) % 4 ∧ t.ringState n = s.ringState n ∧
      KeepsRep [Reg.CD_RING_STATUS n, Reg.CD_RING_CNT n 0, Reg.CD_RING_CNT n 1] [.caddy, .scans] s t) ∧
  (∀ (s : State) (sl n : Nat) (x : CdRecord),
    s.nextStaged = some (sl, n, x) → s.ringState n ≠ 2 → s.ringState n ≠ 3 → n < 8 →
    NextWith (exec (.recordWrite) s) fun t =>
      t.rd (Reg.CD_RING_CNT n 3) = s.rd (Reg.CD_RING_CNT n 3) + 1 ∧ (t.ring n).chunks = (s.ring n).chunks ∧
      (t.ring n).rseq = ((s.ring n).rseq + 1) % 2 ^ 32 ∧ (t.ring n).gap = true ∧ t.caddy.turn = (sl + 1) % 4 ∧
      KeepsRep [Reg.CD_RING_CNT n 3] [.caddy] s t) ∧
  (∀ (s : State) (sl n : Nat) (x : CdRecord),
    s.nextStaged = some (sl, n, x) → n < 8 → s.ringState n = 3 → s.meetsProt n x = true →
    (s.unstage sl ((s.caddy.staging.getD sl []).drop 1)).stagedFor n = none →
    NextWith (exec (.recordWrite) s) fun t =>
      t.ringState n = 4 ∧ t.fld (F.CD_RING_STATUS.EARLY n) = b2n ((s.ring n).post != 0) ∧
      t.rd (Reg.CD_RING_CNT n 3) = s.rd (Reg.CD_RING_CNT n 3) + 1 ∧ (t.ring n).rseq = ((s.ring n).rseq + 1) % 2 ^ 32 ∧
      t.caddy.turn = (sl + 1) % 4 ∧
      KeepsIn [RegSet.each (Reg.CD_RING_STATUS 0) 0x100 8, ⟨Reg.CD_RING_CNT 0 0, 0x100, 8, 0x8, 8⟩, RegSet.each (Reg.CD_RING_RANGE 0) 0x100 8, RegSet.each (Reg.CD_RING_FIRST_RSEQ 0) 0x100 8, RegSet.each (Reg.CD_RING_LAST_RSEQ 0) 0x100 8] [.scans, .caddy] s t) ∧
  (∀ (s : State),
    Mode.STEEP ≤ s.mode → s.mode ≤ Mode.CALM → s.mode ≠ Mode.OFF → s.mode ≠ Mode.LULL → s.dev.softHold = false →
    s.fld F.CD_RD_RING.RING < 8 → s.ringState (s.fld F.CD_RD_RING.RING) = 4 → s.fld F.CD_RD_STATUS.STATE ≠ 1 →
    s.fld F.CD_RD_FIRST.FIRST + s.fld F.CD_RD_COUNT.COUNT ≤ (s.ring (s.fld F.CD_RD_RING.RING)).chunks.length →
    s.fld F.CD_RD_COUNT.COUNT ≠ 0 →
    NextWith (exec (.readoutGo) s) fun t =>
      (t.fld F.CD_RD_STATUS.STATE = (if s.dmaOk then 1 else 3)) ∧ t.fld F.CD_RD_STATUS.DONE_CH = 0 ∧ t.fld F.CD_RD_BAD.BAD = 0 ∧
      t.fld (F.CD_RING_STATUS.READING (s.fld F.CD_RD_RING.RING)) = b2n s.dmaOk ∧
      t.ring (s.fld F.CD_RD_RING.RING) = s.ring (s.fld F.CD_RD_RING.RING) ∧
      KeepsRep [Reg.CD_RD_STATUS, Reg.CD_RD_BAD, Reg.CD_RING_STATUS (s.fld F.CD_RD_RING.RING)] [] s t) ∧
  (∀ (s : State),
    s.fld F.CD_RD_STATUS.STATE = 1 → s.fld F.CD_RD_RING.RING < 8 →
    NextWith (exec (.readoutDone) s) fun t =>
      t.fld F.CD_RD_STATUS.STATE = 2 ∧ t.fld F.CD_RD_STATUS.DONE_CH = s.fld F.CD_RD_COUNT.COUNT % 2 ^ 16 ∧
      t.fld (F.CD_RING_STATUS.READING (s.fld F.CD_RD_RING.RING)) = 0 ∧
      t.ringState (s.fld F.CD_RD_RING.RING) = s.ringState (s.fld F.CD_RD_RING.RING) ∧ t.caddy = s.caddy ∧
      KeepsRep [Reg.CD_RD_STATUS, Reg.CD_RD_BAD, Reg.CD_RING_STATUS (s.fld F.CD_RD_RING.RING), Reg.CD_RING_CNT (s.fld F.CD_RD_RING.RING) 7] [] s t) ∧
  (∀ (s : State),
    s.hostOpen → s.fld F.CD_RD_STATUS.STATE = 1 → s.fld F.CD_RD_RING.RING < 8 →
    NextWith (exec (.readoutAbort) s) fun t =>
      t.fld F.CD_RD_STATUS.STATE = 3 ∧ t.fld (F.CD_RING_STATUS.READING (s.fld F.CD_RD_RING.RING)) = 0 ∧ t.caddy = s.caddy ∧
      KeepsIn [RegSet.each (Reg.CD_RING_STATUS 0) 0x100 8, RegSet.each (Reg.CD_RING_CNT 0 7) 0x100 8, RegSet.one Reg.CD_RD_BAD, RegSet.one Reg.CD_RD_STATUS] [.freeCtr] s t)

/-- Replay engines are armed, send records at their launch times, and end. REPLAY_ARM with legal values arms the engine from the first
retained record; REPLAY_STOP ends a busy engine as stopped; REPLAY_RECORD_SEND of a sound passing record with a free buffer takes one
buffer, counts the record and leaves the engine RUNNING; REPLAY_DONE ends an engine with nothing left as done. Beside this, each clause
names the registers and parts that may change; everything else is kept. It rests on R342, R343, R344, R345, R346, Table 12.7
(12_caddy_capture_replay.md). Beside the spec it rests on the model's choices of log entry 46. -/
def Obligations.ReplayEnginesSendRecords : Prop :=
  (∀ (s : State) (r : Nat),
    r < 4 → s.hostOpen → (s.mode = Mode.BREEZE ∨ s.mode = Mode.GALE) → s.fld (F.CD_RP_CFG.RING r) < 8 →
    s.ringState (s.fld (F.CD_RP_CFG.RING r)) = 4 → s.portUsed (s.fld (F.CD_RP_CFG.PORT r)) = true →
    s.powered (sliceOf (s.fld (F.CD_RP_CFG.PORT r))) = true → s.replayBusy r = false →
    s.replayOn (s.fld (F.CD_RP_CFG.RING r)) = false → s.ltClass (s.fld (F.CD_RP_CFG.PORT r)) ≠ 0xFF →
    512 ≤ s.fld (F.CD_RP_CFG.SCALE r) → s.fld (F.CD_RP_CFG.SCALE r) ≤ 32768 → s.fld (F.CD_RP_CFG.FILTER r) ≠ 3 →
    (s.fld (F.CD_RP_LEAD.US r) * 1000 * 2 ^ 16 : Nat) ≤ diff48 (ns48 (s.rpStart r)) (ns48 (s.now16 (s.portDomain (s.fld (F.CD_RP_CFG.PORT r))))) →
    diff48 (ns48 (s.rpStart r)) (ns48 (s.now16 (s.portDomain (s.fld (F.CD_RP_CFG.PORT r))))) ≤ 2000000000 * 2 ^ 16 →
    NextWith (exec (.replayArm r) s) fun t =>
      t.fld (F.CD_RP_STATUS.STATE r) = 1 ∧ t.replay r = CdReplay.fresh ∧
      t.fld (F.CD_RING_STATUS.REPLAYING (s.fld (F.CD_RP_CFG.RING r))) = 1 ∧
      t.fld (F.CD_RP_NEXT_RSEQ.RSEQ r) = s.fld (F.CD_RING_FIRST_RSEQ.RSEQ (s.fld (F.CD_RP_CFG.RING r))) ∧
      KeepsRep [Reg.CD_RP_STATUS r, Reg.CD_RP_NEXT_RSEQ r, Reg.CD_RING_STATUS (s.fld (F.CD_RP_CFG.RING r))] [.caddy] s t) ∧
  (∀ (s : State) (r : Nat),
    r < 4 → s.hostOpen → s.replayBusy r = true → s.fld (F.CD_RP_CFG.RING r) < 8 →
    NextWith (exec (.replayStop r) s) fun t =>
      t.fld (F.CD_RP_STATUS.STATE r) = 4 ∧ t.fld (F.CD_RING_STATUS.REPLAYING (s.fld (F.CD_RP_CFG.RING r))) = 0 ∧
      KeepsRep [Reg.CD_RP_STATUS r, Reg.CD_RING_STATUS (s.fld (F.CD_RP_CFG.RING r))] [] s t) ∧
  (∀ (s : State) (r : Nat) (x : RpItem) (rest : List RpItem),
    r < 4 → s.replayBusy r = true → s.fld (F.CD_RP_STATUS.INFLIGHT r) < 512 →
    (s.rpRecords (s.fld (F.CD_RP_CFG.RING r))).drop (s.replay r).pos = x :: rest → x.hdrBad = false → x.bad = false →
    s.rpPasses r x.it = true → ((s.replay r).s0.map (·.2)).getD x.it.domain = x.it.domain →
    (s.bufAlloc x.it.bytes.length Own.CADDY).2.isSome = true → s.operUp (s.fld (F.CD_RP_CFG.PORT r)) = true →
    NextWith (exec (.replayRecordSend r) s) fun t =>
      t.fld (F.CD_RP_STATUS.STATE r) = 2 ∧ t.fld (F.CD_RP_STATUS.INFLIGHT r) = s.fld (F.CD_RP_STATUS.INFLIGHT r) + 1 ∧
      t.rd (Reg.CD_RP_CNT r 0) = s.rd (Reg.CD_RP_CNT r 0) + 1 ∧ (t.replay r).pos = (s.replay r).pos + 1 ∧
      (t.replay r).s0 = some ((s.replay r).s0.getD (x.it.stamp, x.it.domain)) ∧ t.uid = s.uid + 1 ∧
      KeepsIn (Scope.buffers ++ [RegSet.each (Reg.CD_RING_CNT 0 7) 0x100 8, RegSet.each (Reg.CD_RP_STATUS 0) 0x100 8, RegSet.each (Reg.BPM_POOL_LOW 0) 0x4 5, RegSet.each (Reg.PRT_FAB_CNT 0 3) 0x10000 256, RegSet.each (Reg.PRT_FAB_CNT 0 2) 0x10000 256, RegSet.each (Reg.SLC_CNT 0 14) 0x400000 4, RegSet.one Reg.FAB_VOQ_OCC, RegSet.one Reg.FAB_VOQ_SPILL, RegSet.one (Reg.CD_RP_NEXT_RSEQ r), RegSet.one (Reg.CD_RP_CNT r 3), RegSet.one (Reg.CD_RP_CNT r 0), RegSet.one (Reg.CD_RP_CNT r 2), RegSet.one (Reg.CD_RP_CNT r 1)]) [.host, .kettle, .caddy, .fab, .freeCtr, .uid] s t) ∧
  (∀ (s : State) (r : Nat),
    r < 4 → s.replayBusy r = true → s.fld (F.CD_RP_STATUS.INFLIGHT r) = 0 →
    (s.rpRecords (s.fld (F.CD_RP_CFG.RING r))).length ≤ (s.replay r).pos → s.fld (F.CD_RP_CFG.RING r) < 8 →
    NextWith (exec (.replayDone r) s) fun t =>
      t.fld (F.CD_RP_STATUS.STATE r) = 3 ∧ t.fld (F.CD_RING_STATUS.REPLAYING (s.fld (F.CD_RP_CFG.RING r))) = 0 ∧
      KeepsRep [Reg.CD_RP_STATUS r, Reg.CD_RP_NEXT_RSEQ r, Reg.CD_RING_STATUS (s.fld (F.CD_RP_CFG.RING r))] [.caddy] s t)

/-- Strainer engines scan and close with the first result of Table 13.2. STRAINER_GO with legal values begins a scan; STRAINER_STOP
abandons it without a result; SCAN_END closes a scan as STALE, NO_BUFFER, CAPTURED, MATCH or MISMATCH and counts ALIVE; SCAN_PERIOD_EXPIRY
begins the next scan of a continuous engine; ALIVE_EXP_WRITE sets the expected count and deadline, and ALIVE_DEADLINE_EXPIRY of an engine
that is behind flags and reports STUCK. Beside this, each clause names the registers and parts that may change; everything else is kept.
It rests on R350, R351, R352, R353, R354, R355, Table 13.2 (13_integrity_and_recovery.md). Beside the spec it rests on the model's choices
of log entry 47. -/
def Obligations.StrainerEnginesScanAndReport : Prop :=
  (∀ (s : State) (k : Nat),
    k < 8 → s.hostOpen → s.mode ≠ Mode.LOAD → s.scanState k = 0 →
    (s.fld (F.ST_ENG_CFG.CONT k) = 1 → 0 < s.fld (F.ST_ENG_PERIOD.MS k) ∧ s.fld (F.ST_ENG_PERIOD.MS k) ≤ 3600000) →
    s.scanLen k ≠ 0 → s.fld (F.ST_ENG_CFG.MEM k) = 0 → s.slc (s.fld (F.ST_ENG_CFG.SLICE k)) = Slc.ACTIVE →
    s.scanLen k ≤ 3670016 →
    s.scanStart k + s.scanLen k ≤ 8 * 2 ^ s.fdbLg (s.fld (F.ST_ENG_CFG.SLICE k)) + 16 * s.streamEntries (s.fld (F.ST_ENG_CFG.SLICE k)) + 64 * s.clsEntries (s.fld (F.ST_ENG_CFG.SLICE k)) →
    s.scanStart k % 8 = 0 → s.scanLen k % 8 = 0 →
    NextWith (exec (.strainerGo k) s) fun t =>
      t.scanState k = 1 ∧ t.scan k = ⟨false, true, false, false, [], none, none⟩ ∧
      t.fld (F.ST_ENG_RESULT.ALIVE k) = s.fld (F.ST_ENG_RESULT.ALIVE k) ∧ KeepsRep [Reg.ST_ENG_RESULT k] [.scans] s t) ∧
  (∀ (s : State) (k : Nat),
    k < 8 → s.hostOpen → s.mode ≠ Mode.LOAD → s.scanState k = 0 →
    (s.fld (F.ST_ENG_CFG.CONT k) = 1 → 0 < s.fld (F.ST_ENG_PERIOD.MS k) ∧ s.fld (F.ST_ENG_PERIOD.MS k) ≤ 3600000) →
    s.scanLen k ≠ 0 → s.fld (F.ST_ENG_CFG.MEM k) = 1 → s.scanLen k ≤ 65536 → s.scanLen k % 256 = 0 →
    s.scanLen k / 256 ≤ s.sharedFree →
    NextWith (exec (.strainerGo k) s) fun t =>
      t.scanState k = 1 ∧ (t.scan k).cells.length = s.scanLen k / 256 ∧ (t.scan k).noBuf = false ∧
      t.sharedFree = s.sharedFree - s.scanLen k / 256 ∧
      KeepsIn (Scope.buffers ++ [RegSet.one (Reg.ST_ENG_RESULT k), RegSet.each (Reg.BPM_POOL_LOW 0) 0x4 5]) [.scans, .kettle, .fab, .freeCtr] s t) ∧
  (∀ (s : State) (k : Nat),
    k < 8 → s.hostOpen → s.scanState k ≠ 0 → (s.scan k).cells = [] →
    NextWith (exec (.strainerStop k) s) fun t =>
      t.scanState k = 0 ∧ ((s.scanState k = 1 → (t.scan k).stopAt = some s.cycle)) ∧
      t.fld (F.ST_ENG_RESULT.ALIVE k) = s.fld (F.ST_ENG_RESULT.ALIVE k) ∧ KeepsRep [Reg.ST_ENG_RESULT k] [.scans] s t) ∧
  (∀ (s : State) (k : Nat) (c : BitVec 32),
    k < 8 → s.scanState k = 1 → s.scanDirty k = true → (s.scan k).cells = [] →
    NextWith (exec (.scanEnd k c) s) fun t =>
      t.fld (F.ST_ENG_RESULT.RESULT k) = 3 ∧ t.fld (F.ST_ENG_RESULT.ALIVE k) = (s.fld (F.ST_ENG_RESULT.ALIVE k) + 1) % 2 ^ 16 ∧
      (t.scanState k = (if s.fld (F.ST_ENG_CFG.CONT k) = 1 then 2 else 0)) ∧ t.fld (F.ST_ENG_FLAGS.STALE k) = 1 ∧
      KeepsRep [Reg.ST_ENG_RESULT k, Reg.ST_ENG_FLAGS k, Reg.ST_ENG_CRC k, Reg.ST_ENG_EXP k, Reg.ST_IRQ] [.scans, .freeCtr] s t) ∧
  (∀ (s : State) (k : Nat) (c : BitVec 32),
    k < 8 → s.scanState k = 1 → s.scanDirty k = false → (s.scan k).noBuf = true →
    NextWith (exec (.scanEnd k c) s) fun t =>
      t.fld (F.ST_ENG_RESULT.RESULT k) = 4 ∧ t.fld (F.ST_ENG_RESULT.ALIVE k) = (s.fld (F.ST_ENG_RESULT.ALIVE k) + 1) % 2 ^ 16 ∧
      (t.scanState k = (if s.fld (F.ST_ENG_CFG.CONT k) = 1 then 2 else 0)) ∧ t.fld (F.ST_ENG_FLAGS.NO_BUFFER k) = 1 ∧
      KeepsIn (Scope.buffers ++ Scope.scans ++ Scope.freeze ++ [⟨Reg.CD_RING_CNT 0 0, 0x100, 8, 0x8, 8⟩, RegSet.one Reg.ST_IRQ, RegSet.one (Reg.ST_ENG_CRC k), RegSet.one (Reg.ST_ENG_EXP k)]) [.scans, .kettle, .caddy, .fab, .freeCtr] s t) ∧
  (∀ (s : State) (k : Nat) (c : BitVec 32) (bs : List Byte),
    k < 8 → s.scanState k = 1 → s.scanDirty k = false → (s.scan k).noBuf = false → (s.scan k).ecc = false →
    s.regionBytes k = some bs → (s.scan k).d0 = true → s.fld (F.ST_ENG_CFG.CAPTURE k) = 1 →
    NextWith (exec (.scanEnd k c) s) fun t =>
      t.fld (F.ST_ENG_RESULT.RESULT k) = 5 ∧ t.fld (F.ST_ENG_RESULT.ALIVE k) = (s.fld (F.ST_ENG_RESULT.ALIVE k) + 1) % 2 ^ 16 ∧
      (t.scanState k = (if s.fld (F.ST_ENG_CFG.CONT k) = 1 then 2 else 0)) ∧
      t.fld (F.ST_ENG_EXP.EXP k) = (crc32c bs ^^^ c.toNat) % 2 ^ 32 ∧
      t.fld (F.ST_ENG_CRC.CRC k) = (crc32c bs ^^^ c.toNat) % 2 ^ 32 ∧
      KeepsIn (Scope.buffers ++ Scope.scans ++ Scope.freeze ++ [⟨Reg.CD_RING_CNT 0 0, 0x100, 8, 0x8, 8⟩, RegSet.one Reg.ST_IRQ, RegSet.one (Reg.ST_ENG_CRC k), RegSet.one (Reg.ST_ENG_EXP k)]) [.scans, .kettle, .caddy, .fab, .freeCtr] s t) ∧
  (∀ (s : State) (k : Nat) (c : BitVec 32) (bs : List Byte),
    k < 8 → s.scanState k = 1 → s.scanDirty k = false → (s.scan k).noBuf = false → (s.scan k).ecc = false →
    s.regionBytes k = some bs → s.fld (F.ST_ENG_CFG.CAPTURE k) = 0 →
    NextWith (exec (.scanEnd k c) s) fun t =>
      (t.fld (F.ST_ENG_RESULT.RESULT k) = (if crc32c bs ^^^ c.toNat = s.fld (F.ST_ENG_EXP.EXP k) then 1 else 2)) ∧
      (crc32c bs ^^^ c.toNat ≠ s.fld (F.ST_ENG_EXP.EXP k) → t.fldBit F.ST_IRQ.MISMATCH k = true ∧ t.fld (F.ST_ENG_FLAGS.MISMATCH k) = 1) ∧
      t.fld (F.ST_ENG_EXP.EXP k) = s.fld (F.ST_ENG_EXP.EXP k) ∧
      t.fld (F.ST_ENG_RESULT.ALIVE k) = (s.fld (F.ST_ENG_RESULT.ALIVE k) + 1) % 2 ^ 16 ∧
      KeepsIn (Scope.buffers ++ Scope.scans ++ Scope.freeze ++ [⟨Reg.CD_RING_CNT 0 0, 0x100, 8, 0x8, 8⟩, RegSet.one Reg.ST_IRQ, RegSet.one (Reg.ST_ENG_CRC k), RegSet.one (Reg.ST_ENG_EXP k)]) [.scans, .kettle, .caddy, .fab, .freeCtr] s t) ∧
  (∀ (s : State) (k : Nat),
    k < 8 → s.scanState k = 2 → s.fld (F.ST_ENG_CFG.MEM k) ≠ 1 →
    NextWith (exec (.scanPeriodExpiry k) s) fun t =>
      t.scanState k = 1 ∧ t.scan k = ⟨false, (s.scan k).dirty, false, false, [], none, none⟩ ∧
      Keeps [Reg.ST_ENG_RESULT k] [.scans] s t) ∧
  (∀ (s : State) (k : Nat) (v : BitVec 32),
    k < 8 → s.hostOpen → 2 ^ 16 ≤ v.toNat →
    NextWith (exec (.aliveExpWrite k v) s) fun t =>
      t.fld (F.ST_ENG_ALIVE_EXP.EXP k) = v.toNat % 2 ^ 16 ∧ t.fld (F.ST_ENG_ALIVE_EXP.DEADLINE_MS k) = v.toNat / 2 ^ 16 ∧
      t.dev.aliveArm = setBit s.dev.aliveArm k true ∧ KeepsRep [Reg.ST_ENG_ALIVE_EXP k] [.dev] s t) ∧
  (∀ (s : State) (k : Nat),
    k < 8 → bitAt s.dev.aliveArm k = true →
    signed 16 (s.fld (F.ST_ENG_RESULT.ALIVE k) + 2 ^ 16 - s.fld (F.ST_ENG_ALIVE_EXP.EXP k)) < 0 →
    NextWith (exec (.aliveDeadlineExpiry k) s) fun t =>
      t.fld (F.ST_ENG_FLAGS.STUCK k) = 1 ∧ t.fldBit F.ST_IRQ.STUCK k = true ∧ bitAt t.dev.aliveArm k = false ∧
      KeepsRep [Reg.ST_ENG_FLAGS k, Reg.ST_IRQ] [.dev] s t)

/-- Memory errors, scrubs and slice watchdogs are counted and contained by Table 13.4. ECC_SINGLE_ERROR and ECC_DOUBLE_ERROR are counted
with their memory and the double error keeps its word; a table error or a slice watchdog takes an ACTIVE slice to FAULT and opens its
recovery; a shadow error marks a held shadow; SCRUB_PASS counts a pass. Beside this, each clause names the registers and parts that may
change; everything else is kept. It rests on R356, R357, R358, R359, R360, Table 13.4 (13_integrity_and_recovery.md). Beside the spec it
rests on the model's choices of log entry 56. -/
def Obligations.MemoryErrorsAndWatchdogsAreContained : Prop :=
  (∀ (s : State) (m : Nat),
    m < 9 → Mode.LOAD ≤ s.mode →
    NextWith (exec (.eccSingleError m) s) fun t =>
      t.rd (Reg.ST_ECC_CNT m 0) = s.rd (Reg.ST_ECC_CNT m 0) + 1 ∧ Keeps [Reg.ST_ECC_CNT m 0] [] s t) ∧
  (∀ (s : State) (i w : Nat),
    i < 4 → Mode.LOAD ≤ s.mode → s.slc i = Slc.ACTIVE → s.dev.recov = 0 →
    NextWith (exec (.eccDoubleError (.table i) w) s) fun t =>
      t.slc i = Slc.FAULT ∧ (∀ j < 4, j ≠ i → t.slc j = s.slc j) ∧ t.rd (Reg.ST_ECC_CNT i 1) = s.rd (Reg.ST_ECC_CNT i 1) + 1 ∧
      t.fld (F.ST_ECC_ADDR.WORD i) = w % 2 ^ 32 ∧ bitAt t.dev.recov i = true ∧ t.fld F.ST_HEALTH.RECOVERING = 1 ∧
      (t.slice i).learn = [] ∧ t.mode = s.mode ∧
      KeepsIn (Scope.calm ++ Scope.buffers ++ Scope.queues ++ Scope.scans ++ [RegSet.one Reg.ST_HEALTH, RegSet.one Reg.DEV_SLC_STATE, RegSet.each (Reg.ST_ECC_CNT 0 1) 0x10 9, RegSet.each (Reg.ST_ECC_ADDR 0) 0x4 9, RegSet.each (Reg.PRT_FAB_CNT 0 5) 0x10000 256]) [.dev, .host, .scans, .kettle, .caddy, .slices, .fab, .freeCtr] s t) ∧
  (∀ (s : State) (m w : Nat),
    m < 9 → Mode.LOAD ≤ s.mode →
    NextWith (exec (.eccDoubleError (.quiet m) w) s) fun t =>
      t.rd (Reg.ST_ECC_CNT m 1) = s.rd (Reg.ST_ECC_CNT m 1) + 1 ∧ t.fld (F.ST_ECC_ADDR.WORD m) = w % 2 ^ 32 ∧
      KeepsRep [Reg.ST_ECC_CNT m 1, Reg.ST_ECC_ADDR m] [] s t) ∧
  (∀ (s : State) (w : Nat),
    Mode.LOAD ≤ s.mode →
    NextWith (exec (.eccDoubleError .shadow w) s) fun t =>
      (t.fld F.ST_HEALTH.SHADOW_BAD = (if s.img.shadowed then 1 else s.fld F.ST_HEALTH.SHADOW_BAD)) ∧
      t.rd (Reg.ST_ECC_CNT 7 1) = s.rd (Reg.ST_ECC_CNT 7 1) + 1 ∧
      KeepsRep [Reg.ST_ECC_CNT 7 1, Reg.ST_ECC_ADDR 7, Reg.ST_HEALTH] [] s t) ∧
  (∀ (s : State) (k w : Nat),
    k < 8 → Mode.LOAD ≤ s.mode → s.scanState k = 1 → s.fld (F.ST_ENG_CFG.MEM k) = 1 →
    NextWith (exec (.eccDoubleError (.scanned k) w) s) fun t =>
      (t.scan k).ecc = true ∧ t.rd (Reg.ST_ECC_CNT 4 1) = s.rd (Reg.ST_ECC_CNT 4 1) + 1 ∧
      KeepsRep [Reg.ST_ECC_CNT 4 1, Reg.ST_ECC_ADDR 4] [.scans] s t) ∧
  (∀ (s : State) (m : Nat),
    m < 9 → Mode.LOAD ≤ s.mode →
    NextWith (exec (.scrubPass m) s) fun t =>
      t.fld (F.ST_SCRUB.PASSES m) = (s.fld (F.ST_SCRUB.PASSES m) + 1) % 2 ^ 16 ∧ Keeps [Reg.ST_SCRUB m] [] s t) ∧
  (∀ (s : State) (i : Nat),
    i < 4 → s.powered i = true → s.slc i = Slc.ACTIVE → s.dev.recov = 0 →
    NextWith (exec (.sliceWatchdogExpiry i) s) fun t =>
      t.slc i = Slc.FAULT ∧ (∀ j < 4, j ≠ i → t.slc j = s.slc j) ∧ t.rd (Reg.ST_WD_CNT i) = s.rd (Reg.ST_WD_CNT i) + 1 ∧
      bitAt t.dev.recov i = true ∧ t.mode = s.mode ∧
      KeepsIn (Scope.calm ++ Scope.scans ++ [RegSet.one Reg.ST_HEALTH, RegSet.each (Reg.ST_WD_CNT 0) 0x8 10, RegSet.one Reg.DEV_SLC_STATE]) [.dev, .scans, .slices] s t) ∧
  (∀ (s : State) (i : Nat),
    i < 4 → s.powered i = true → (s.slc i = Slc.FAULT ∨ s.slc i = Slc.RECONF) →
    NextWith (exec (.sliceWatchdogExpiry i) s) fun t =>
      t.slc i = s.slc i ∧ t.rd (Reg.ST_WD_CNT i) = s.rd (Reg.ST_WD_CNT i) + 1 ∧ KeepsRep [Reg.ST_WD_CNT i] [] s t)

/-- The endpoint follows the PCIe events, and Spout entries and credits move. MSIX_UNMASK clears the mask bit, and a pending vector whose
OR is 1 sends its message; PERST_N_ASSERT and FUNCTION_LEVEL_RESET clear the configuration state and take the producer credits back;
PERST_N_RELEASE ends the hold; PCIE_LINK_UP takes the settings of the host and PCIE_LINK_DOWN ends the link or Bus Master Enable.
SPOUT_POP returns the head of the lowest-numbered class that has one, latches its words and returns its credit, or zero where no class has
one; SPOUT_CREDIT_GRANT moves credits to the producer and SPOUT_CREDIT_RECALL takes all of them back. Beside this, each clause names the
registers and parts that may change; everything else is kept. It rests on R58, R365, R366, R379, R382, R384, R385, R397, R415, Table 02.11
(02_modes_power_resets.md), Table 14.6 (14_host_interface.md). Beside the spec it rests on the model's choices of log entries 7, 25. -/
def Obligations.EndpointAndSpoutMoveNotifications : Prop :=
  (∀ (s : State) (v : Nat),
    v < 64 → s.hostOpen → s.pcie.msixEn = true → s.pcie.funcMask = false → s.irq.pba = 2 ^ v → s.dmaOk = true →
    s.vecHigh v = true →
    NextWith (exec (.msixUnmask v) s) fun t =>
      t.rd (Reg.MSIX v 3) = 0 ∧ bitAt t.irq.pba v = false ∧
      Output.msix v ((s.rd (Reg.MSIX v 0)).toNat + (s.rd (Reg.MSIX v 1)).toNat * 2 ^ 32) (s.rd (Reg.MSIX v 2)).toNat ∈ t.out ∧
      KeepsRep [Reg.MSIX v 3] [] s t) ∧
  (∀ (s : State) (v : Nat),
    v < 64 → s.hostOpen → s.irq.pba = 0 →
    NextWith (exec (.msixUnmask v) s) fun t =>
      t.rd (Reg.MSIX v 3) = 0 ∧ t.irq = s.irq ∧ t.out = s.out ∧ KeepsRep [Reg.MSIX v 3] [] s t) ∧
  (∀ (s : State),
    Mode.LOAD ≤ s.mode →
    NextWith (exec (.perstNAssert) s) fun t =>
      t.pcie = ⟨false, false, false, false⟩ ∧ t.dev.perstN = false ∧ t.irq.pba = 0 ∧
      (∀ v < 64, t.rd (Reg.MSIX v 3) = Reg.por (Reg.MSIX v 3)) ∧ (∀ c < 4, (t.spClass c).prod = 0) ∧ t.mode = s.mode ∧
      KeepsIn [RegSet.each (Reg.CD_RING_STATUS 0) 0x100 8, RegSet.each (Reg.CD_RING_CNT 0 7) 0x100 8, RegSet.one Reg.CD_RD_BAD, RegSet.one Reg.CD_RD_STATUS, RegSet.one Reg.IMG_STATUS, RegSet.each (Reg.PH_SQ_CREDIT 0) 0x80 229, RegSet.one (Reg.DEV_HI_CNT 5), RegSet.each 0x8000 0x1 8192] [.dev, .pcie, .phase, .freeCtr] s t) ∧
  (∀ (s : State),
    s.mode < Mode.LOAD →
    NextWith (exec (.perstNAssert) s) fun t =>
      t.dev.perstN = false ∧ Keeps [] [.dev] s t) ∧
  (∀ (s : State),
    NextWith (exec (.perstNRelease) s) fun t =>
      t.dev.perstN = true ∧ Keeps [] [.dev] s t) ∧
  (∀ (s : State),
    s.pcie.linkUp = true → s.dmaOk = false →
    NextWith (exec (.functionLevelReset) s) fun t =>
      t.pcie = ⟨true, false, false, false⟩ ∧ t.irq.pba = 0 ∧
      (∀ c < 4, (t.spClass c).prod = 0 ∧ (t.spClass c).host = (s.spClass c).host + (s.spClass c).prod) ∧ t.mode = s.mode ∧
      t.dev = s.dev ∧
      KeepsIn [RegSet.each (Reg.CD_RING_STATUS 0) 0x100 8, RegSet.each (Reg.CD_RING_CNT 0 7) 0x100 8, RegSet.one Reg.CD_RD_BAD, RegSet.one Reg.CD_RD_STATUS, RegSet.one Reg.IMG_STATUS, RegSet.each (Reg.PH_SQ_CREDIT 0) 0x80 229, RegSet.one (Reg.DEV_HI_CNT 5), RegSet.each 0x8000 0x1 8192] [.pcie, .phase, .freeCtr] s t) ∧
  (∀ (s : State),
    s.pcie.linkUp = true → s.dmaOk = true →
    NextWith (exec (.functionLevelReset) s) fun t =>
      t.pcie = ⟨true, false, false, false⟩ ∧ t.irq.pba = 0 ∧ (∀ c < 4, (t.spClass c).prod = 0) ∧
      (s.fld F.CD_RD_STATUS.STATE = 1 → t.fld F.CD_RD_STATUS.STATE = 3) ∧ t.mode = s.mode ∧
      KeepsIn [RegSet.each (Reg.CD_RING_STATUS 0) 0x100 8, RegSet.each (Reg.CD_RING_CNT 0 7) 0x100 8, RegSet.one Reg.CD_RD_BAD, RegSet.one Reg.CD_RD_STATUS, RegSet.one Reg.IMG_STATUS, RegSet.each (Reg.PH_SQ_CREDIT 0) 0x80 229, RegSet.one (Reg.DEV_HI_CNT 5), RegSet.each 0x8000 0x1 8192] [.pcie, .phase, .freeCtr] s t) ∧
  (∀ (s : State) (bme msix mask : Bool),
    Mode.LOAD ≤ s.mode → s.dev.perstN = true → s.irq.pba = 0 → s.dmaOk = false →
    NextWith (exec (.pcieLinkUp bme msix mask) s) fun t =>
      t.pcie = ⟨true, bme, msix, mask⟩ ∧ Keeps [] [.pcie] s t) ∧
  (∀ (s : State) (b : Bool),
    s.dmaOk = false →
    NextWith (exec (.pcieLinkDown b) s) fun t =>
      t.pcie.linkUp = (s.pcie.linkUp && b) ∧ t.pcie.bme = (s.pcie.bme && !b) ∧ t.pcie.msixEn = s.pcie.msixEn ∧
      Keeps [] [.pcie] s t) ∧
  (∀ (s : State) (b : Bool),
    s.dmaOk = true → s.fld F.CD_RD_STATUS.STATE ≠ 1 → s.imgState ≠ 1 →
    NextWith (exec (.pcieLinkDown b) s) fun t =>
      t.dmaOk = false ∧ t.pcie.linkUp = b ∧ Keeps [] [.pcie] s t) ∧
  (∀ (s : State) (c : Nat) (e : SpEntry) (r : List (Nat × SpEntry)),
    c < 4 → s.hostOpen → (s.spClass c).stages = (0, e) :: r → (s.spClass c).arrived = false →
    (∀ d < 4, d < c → (s.spClass d).head = none) →
    NextWith (exec (.spoutPop) s) fun t =>
      t.spClass c = { s.spClass c with host := (s.spClass c).host + 1, stages := r } ∧
      (∀ w < 4, (t.rd (Reg.SP_POP w)).toNat = e.words.getD w 0 % 2 ^ 64) ∧
      t.out = .read false (Reg.SP_POP 0) (e.words.getD 0 0) :: s.out ∧
      KeepsRep [Reg.SP_POP 0, Reg.SP_POP 1, Reg.SP_POP 2, Reg.SP_POP 3] [] s t) ∧
  (∀ (s : State),
    s.hostOpen → (∀ d < 4, (s.spClass d).head = none) →
    NextWith (exec (.spoutPop) s) fun t =>
      (∀ w < 4, t.rd (Reg.SP_POP w) = 0) ∧ t.spout = s.spout ∧ t.out = .read false (Reg.SP_POP 0) 0 :: s.out ∧
      KeepsIn [RegSet.each (Reg.SP_POP 0) 0x4 4] [.host] s t) ∧
  (∀ (s : State) (c n : Nat),
    c < 4 → s.hostOpen → n ≤ 64 → n ≤ (s.spClass c).host →
    NextWith (exec (.spoutCreditGrant c n) s) fun t =>
      (t.spClass c).host + n = (s.spClass c).host ∧ (t.spClass c).prod = (s.spClass c).prod + n ∧
      (t.spClass c).stages = (s.spClass c).stages ∧ (∀ d < 4, d ≠ c → t.spClass d = s.spClass d) ∧ KeepsIn [] [] s t) ∧
  (∀ (s : State) (c : Nat),
    c < 4 → s.hostOpen →
    NextWith (exec (.spoutCreditRecall c) s) fun t =>
      (t.spClass c).host = (s.spClass c).host + (s.spClass c).prod ∧ (t.spClass c).prod = 0 ∧
      (∀ d < 4, d ≠ c → t.spClass d = s.spClass d) ∧ KeepsIn [] [] s t)

/-- The transmit ring and the dump move data. HTX_TAIL_WRITE below COUNT stores the tail; HTX_DESCRIPTOR_FETCHED with a bad length or port
ends with that result, and a good one with a free buffer takes one and enters flight; HTX_WRITE_BACK counts the frame, writes the
descriptor back and passes HEAD over it; DUMP_SAMPLE writes a record or counts a missed one. Beside this, each clause names the registers
and parts that may change; everything else is kept. It rests on R386, R387, R389, R393, Table 14.8 (14_host_interface.md). Beside the spec
it rests on the model's choices of log entries 5, 57. -/
def Obligations.HostTransmitsAndDumps : Prop :=
  (∀ (s : State) (v : BitVec 32),
    s.hostOpen → v.toNat < 4096 → v.toNat < s.fld F.DEV_HTX_COUNT.N →
    NextWith (exec (.htxTailWrite v) s) fun t =>
      t.fld F.DEV_HTX_TAIL.IDX = v.toNat ∧ KeepsRep [Reg.DEV_HTX_TAIL] [] s t) ∧
  (∀ (s : State) (d : TxDesc) (bs : List Byte),
    s.fld F.DEV_HTX_CTRL.EN = 1 → s.dmaOk = true → Mode.STEEP ≤ s.mode → s.mode ≤ Mode.CALM →
    s.host.htxNext ≠ s.fld F.DEV_HTX_TAIL.IDX → s.host.htx.length < 256 → (d.len < 60 ∨ 10236 < d.len) →
    NextWith (exec (.htxDescriptorFetched d bs) s) fun t =>
      t.host.htx = s.host.htx ++ [⟨s.host.htxNext, d, 6, 0, true⟩] ∧
      t.host.htxNext = (s.host.htxNext + 1) % max 1 (s.fld F.DEV_HTX_COUNT.N) ∧ Keeps [] [.host] s t) ∧
  (∀ (s : State) (d : TxDesc) (bs : List Byte),
    s.fld F.DEV_HTX_CTRL.EN = 1 → s.dmaOk = true → Mode.STEEP ≤ s.mode → s.mode ≤ Mode.CALM →
    s.host.htxNext ≠ s.fld F.DEV_HTX_TAIL.IDX → s.host.htx.length < 256 → 60 ≤ d.len → d.len ≤ 10236 →
    s.portUsed d.port = false →
    NextWith (exec (.htxDescriptorFetched d bs) s) fun t =>
      t.host.htx = s.host.htx ++ [⟨s.host.htxNext, d, 7, 0, true⟩] ∧ Keeps [] [.host] s t) ∧
  (∀ (s : State) (d : TxDesc) (bs : List Byte),
    s.fld F.DEV_HTX_CTRL.EN = 1 → s.dmaOk = true → Mode.STEEP ≤ s.mode → s.mode ≤ Mode.CALM →
    s.host.htxNext ≠ s.fld F.DEV_HTX_TAIL.IDX → s.host.htx.length < 256 → 60 ≤ d.len → d.len ≤ 10236 →
    s.portUsed d.port = true → s.powered (sliceOf d.port) = true → d.lt = false → s.operUp d.port = true →
    (s.bufAlloc (d.len + 4) Own.HOST).2.isSome = true →
    NextWith (exec (.htxDescriptorFetched d bs) s) fun t =>
      t.host.htx = s.host.htx ++ [⟨s.host.htxNext, d, 8, 0, false⟩] ∧ t.uid = s.uid + 1 ∧
      t.host.htxNext = (s.host.htxNext + 1) % max 1 (s.fld F.DEV_HTX_COUNT.N) ∧ t.mode = s.mode ∧
      KeepsIn (Scope.buffers ++ [RegSet.each (Reg.CD_RP_STATUS 0) 0x100 8, RegSet.each (Reg.BPM_POOL_LOW 0) 0x4 5, RegSet.each (Reg.PRT_FAB_CNT 0 3) 0x10000 256, RegSet.each (Reg.PRT_FAB_CNT 0 2) 0x10000 256, RegSet.each (Reg.SLC_CNT 0 14) 0x400000 4, RegSet.one Reg.FAB_VOQ_OCC, RegSet.one Reg.FAB_VOQ_SPILL]) [.host, .kettle, .fab, .freeCtr, .uid] s t) ∧
  (∀ (s : State) (i : Nat) (h : HtxSlot),
    s.host.htx = [h] → h.idx = i → h.ended = true → s.dmaOk = true → s.host.htxWrote = [] → s.fld F.DEV_HTX_HEAD.IDX = i →
    i < s.fld F.DEV_HTX_COUNT.N → s.fld F.DEV_HTX_COUNT.N ≤ 4096 →
    NextWith (exec (.htxWriteBack i) s) fun t =>
      t.host.htx = [] ∧ t.host.htxWrote = [] ∧ t.fld F.DEV_HTX_HEAD.IDX = (i + 1) % s.fld F.DEV_HTX_COUNT.N ∧
      (t.rd (Reg.DEV_HI_CNT (if h.result = 0 then 0 else 1)) = s.rd (Reg.DEV_HI_CNT (if h.result = 0 then 0 else 1)) + 1) ∧
      Output.dma ((s.rd Reg.DEV_HTX_BASE_LO).toNat + (s.rd Reg.DEV_HTX_BASE_HI).toNat * 2 ^ 32 + 32 * i) h.bytes ∈ t.out ∧
      (KeepsRep [Reg.DEV_HTX_HEAD, Reg.DEV_HI_CNT (if h.result = 0 then 0 else 1)] [.host] s t)) ∧
  (∀ (s : State) (i : Nat) (h : HtxSlot),
    s.host.htx = [h] → h.idx = i → h.ended = true → s.dmaOk = false →
    NextWith (exec (.htxWriteBack i) s) fun t =>
      t.host.htx = [] ∧ t.rd (Reg.DEV_HI_CNT 5) = s.rd (Reg.DEV_HI_CNT 5) + 1 ∧
      t.fld F.DEV_HTX_HEAD.IDX = s.fld F.DEV_HTX_HEAD.IDX ∧
      (Keeps [Reg.DEV_HI_CNT (if h.result = 0 then 0 else 1), Reg.DEV_HI_CNT 5] [.host] s t)) ∧
  (∀ (s : State) (w : Bool),
    s.fld F.PF_DUMP_CTRL.EN = 1 → (s.mode = Mode.STEEP ∨ s.mode = Mode.PROBE ∨ s.mode = Mode.CALM) →
    (w = false ∨ s.dmaOk = false) →
    NextWith (exec (.dumpSample w) s) fun t =>
      t.fld F.PF_DUMP_STATUS.MISSED = min (s.fld F.PF_DUMP_STATUS.MISSED + 1) 0xFFFF ∧
      t.fld F.PF_DUMP_STATUS.SEQ = s.host.dumpSeq % 2 ^ 16 ∧ t.host.dumpMissedPrev = true ∧
      t.host.dumpSeq = (s.host.dumpSeq + 1) % 2 ^ 32 ∧ KeepsRep [Reg.PF_DUMP_STATUS] [.host] s t) ∧
  (∀ (s : State),
    s.fld F.PF_DUMP_CTRL.EN = 1 → (s.mode = Mode.STEEP ∨ s.mode = Mode.PROBE ∨ s.mode = Mode.CALM) → s.dmaOk = true →
    NextWith (exec (.dumpSample true) s) fun t =>
      t.fld F.PF_DUMP_STATUS.MISSED = s.fld F.PF_DUMP_STATUS.MISSED ∧ t.fld F.PF_DUMP_STATUS.SEQ = s.host.dumpSeq % 2 ^ 16 ∧
      t.host.dumpMissedPrev = false ∧
      Output.dma ((s.rd Reg.PF_DUMP_ADDR_LO).toNat + (s.rd Reg.PF_DUMP_ADDR_HI).toNat * 2 ^ 32 + 576 * (s.host.dumpSeq % max 1 (s.fld F.PF_DUMP_COUNT.N))) s.dumpRecord ∈ t.out ∧
      KeepsRep [Reg.PF_DUMP_STATUS] [.host] s t)

/-- MDIO masters and the flash engine run one operation at a time. MDIO_ADDRESS, MDIO_WRITE, MDIO_READ_INC and MDIO_READ of an idle master
make it busy and send the frame with its operation, port, device and data; MDIO_OP_DONE ends it and leaves the data of a read. FLASH_READ,
FLASH_PAGE_PROGRAM, FLASH_ERASE_4K, FLASH_ERASE_64K and FLASH_READ_SFDP with legal length, address and key make the engine busy and send
the operation; FLASH_OP_DONE ends it with its result and a read fills the buffer; FLASH_OP_TIMEOUT ends a program or an erase with result
2. Beside this, each clause names the registers and parts that may change; everything else is kept. It rests on R394, R395. Beside the
spec it rests on the model's choices of log entries 5, 59. -/
def Obligations.SerialMastersRunOneOperation : Prop :=
  (∀ (s : State) (m : Nat) (a b : BitVec 5) (d : BitVec 16),
    m < 4 → s.hostOpen → s.fld (F.DEV_MDIO_STATUS.BUSY m) = 0 →
    NextWith (exec (.mdioAddress m a b d) s) fun t =>
      t.fld (F.DEV_MDIO_STATUS.BUSY m) = 1 ∧ t.out = .mdio m 0 a.toNat b.toNat d.toNat :: s.out ∧
      t.host.mdioOp.get? m = some (0, a.toNat, b.toNat, d.toNat) ∧ KeepsRep [Reg.DEV_MDIO_STATUS m] [.host] s t) ∧
  (∀ (s : State) (m : Nat) (a b : BitVec 5) (d : BitVec 16),
    m < 4 → s.hostOpen → s.fld (F.DEV_MDIO_STATUS.BUSY m) = 0 →
    NextWith (exec (.mdioWrite m a b d) s) fun t =>
      t.fld (F.DEV_MDIO_STATUS.BUSY m) = 1 ∧ t.out = .mdio m 1 a.toNat b.toNat d.toNat :: s.out ∧
      t.host.mdioOp.get? m = some (1, a.toNat, b.toNat, d.toNat) ∧ KeepsRep [Reg.DEV_MDIO_STATUS m] [.host] s t) ∧
  (∀ (s : State) (m : Nat) (a b : BitVec 5),
    m < 4 → s.hostOpen → s.fld (F.DEV_MDIO_STATUS.BUSY m) = 0 →
    NextWith (exec (.mdioReadInc m a b) s) fun t =>
      t.fld (F.DEV_MDIO_STATUS.BUSY m) = 1 ∧ t.out = .mdio m 2 a.toNat b.toNat 0 :: s.out ∧
      t.host.mdioOp.get? m = some (2, a.toNat, b.toNat, 0) ∧ KeepsRep [Reg.DEV_MDIO_STATUS m] [.host] s t) ∧
  (∀ (s : State) (m : Nat) (a b : BitVec 5),
    m < 4 → s.hostOpen → s.fld (F.DEV_MDIO_STATUS.BUSY m) = 0 →
    NextWith (exec (.mdioRead m a b) s) fun t =>
      t.fld (F.DEV_MDIO_STATUS.BUSY m) = 1 ∧ t.out = .mdio m 3 a.toNat b.toNat 0 :: s.out ∧
      t.host.mdioOp.get? m = some (3, a.toNat, b.toNat, 0) ∧ KeepsRep [Reg.DEV_MDIO_STATUS m] [.host] s t) ∧
  (∀ (s : State) (m op : Nat) (x : Nat × Nat × Nat) (d : BitVec 16),
    m < 4 → s.host.mdioOp.get? m = some (op, x) →
    NextWith (exec (.mdioOpDone m d) s) fun t =>
      t.fld (F.DEV_MDIO_STATUS.BUSY m) = 0 ∧
      (t.fld (F.DEV_MDIO_STATUS.RDATA m) = (if 2 ≤ op then d.toNat else s.fld (F.DEV_MDIO_STATUS.RDATA m))) ∧
      t.host.mdioOp.get? m = none ∧ KeepsRep [Reg.DEV_MDIO_STATUS m] [.host] s t) ∧
  (∀ (s : State) (n : BitVec 13),
    s.hostOpen → s.fld F.DEV_FLASH_STATUS.BUSY = 0 → s.flashLoading = false →
    s.flashBeyond (s.fld F.DEV_FLASH_ADDR.ADDR) = false → n ≠ 0 → n.toNat ≤ 256 →
    NextWith (exec (.flashRead n) s) fun t =>
      t.fld F.DEV_FLASH_STATUS.BUSY = 1 ∧ t.host.flashOp = 1 ∧ t.host.flashLen = n.toNat ∧
      t.out = .flash 1 (s.fld F.DEV_FLASH_ADDR.ADDR) [] :: s.out ∧ KeepsRep [Reg.DEV_FLASH_STATUS] [.host] s t) ∧
  (∀ (s : State) (n : BitVec 13),
    s.hostOpen → s.fld F.DEV_FLASH_STATUS.BUSY = 0 → s.flashLoading = false →
    s.flashBeyond (s.fld F.DEV_FLASH_ADDR.ADDR) = false → n ≠ 0 → s.fld F.DEV_FLASH_ADDR.ADDR % 256 + n.toNat ≤ 256 →
    NextWith (exec (.flashPageProgram n 0xF1A5) s) fun t =>
      t.fld F.DEV_FLASH_STATUS.BUSY = 1 ∧ t.host.flashOp = 2 ∧ t.host.flashLen = n.toNat ∧
      (t.out = .flash 2 (s.fld F.DEV_FLASH_ADDR.ADDR) ((((List.range 64).map fun i => leBytes 4 (s.rd (Reg.DEV_FLASH_BUF i)).toNat).flatten).take n.toNat) :: s.out) ∧
      KeepsRep [Reg.DEV_FLASH_STATUS] [.host] s t) ∧
  (∀ (s : State),
    s.hostOpen → s.fld F.DEV_FLASH_STATUS.BUSY = 0 → s.flashLoading = false →
    s.flashBeyond (s.fld F.DEV_FLASH_ADDR.ADDR) = false → s.fld F.DEV_FLASH_ADDR.ADDR % 4096 = 0 →
    NextWith (exec (.flashErase4k 0xF1A5) s) fun t =>
      t.fld F.DEV_FLASH_STATUS.BUSY = 1 ∧ t.host.flashOp = 3 ∧ t.host.flashLen = 0 ∧
      t.out = .flash 3 (s.fld F.DEV_FLASH_ADDR.ADDR) [] :: s.out ∧ KeepsRep [Reg.DEV_FLASH_STATUS] [.host] s t) ∧
  (∀ (s : State),
    s.hostOpen → s.fld F.DEV_FLASH_STATUS.BUSY = 0 → s.flashLoading = false →
    s.flashBeyond (s.fld F.DEV_FLASH_ADDR.ADDR) = false → s.fld F.DEV_FLASH_ADDR.ADDR % 65536 = 0 →
    NextWith (exec (.flashErase64k 0xF1A5) s) fun t =>
      t.fld F.DEV_FLASH_STATUS.BUSY = 1 ∧ t.host.flashOp = 4 ∧ t.host.flashLen = 0 ∧
      t.out = .flash 4 (s.fld F.DEV_FLASH_ADDR.ADDR) [] :: s.out ∧ KeepsRep [Reg.DEV_FLASH_STATUS] [.host] s t) ∧
  (∀ (s : State) (n : BitVec 13),
    s.hostOpen → s.fld F.DEV_FLASH_STATUS.BUSY = 0 → s.flashLoading = false → n ≠ 0 → n.toNat ≤ 256 →
    NextWith (exec (.flashReadSfdp n) s) fun t =>
      t.fld F.DEV_FLASH_STATUS.BUSY = 1 ∧ t.host.flashOp = 5 ∧ t.host.flashLen = n.toNat ∧
      t.out = .flash 5 (s.fld F.DEV_FLASH_ADDR.ADDR) [] :: s.out ∧ KeepsRep [Reg.DEV_FLASH_STATUS] [.host] s t) ∧
  (∀ (s : State) (bs : List Byte) (b : Bool) (m : BitVec 32),
    (s.host.flashOp = 1 ∨ s.host.flashOp = 5) → s.host.flashKnown = true → bs.length = s.host.flashLen → bs.length = 256 →
    NextWith (exec (.flashOpDone bs b m) s) fun t =>
      t.fld F.DEV_FLASH_STATUS.BUSY = 0 ∧ t.fld F.DEV_FLASH_STATUS.RESULT = b2n b ∧ t.host.flashOp = 0 ∧
      (b = false → ∀ i < 64, t.rd (Reg.DEV_FLASH_BUF i) = BitVec.ofNat 64 (leAt bs (4 * i) 4)) ∧
      t.fld F.DEV_FLASH_INFO.SIZE_MIB = s.fld F.DEV_FLASH_INFO.SIZE_MIB ∧
      KeepsIn [RegSet.one Reg.DEV_FLASH_INFO, RegSet.one Reg.DEV_FLASH_STATUS, RegSet.each (Reg.DEV_FLASH_BUF 0) 0x4 64] [.host] s t) ∧
  (∀ (s : State) (bs : List Byte) (b : Bool) (m : BitVec 32),
    2 ≤ s.host.flashOp → s.host.flashOp ≤ 4 → s.host.flashKnown = false →
    NextWith (exec (.flashOpDone bs b m) s) fun t =>
      t.fld F.DEV_FLASH_STATUS.BUSY = 0 ∧ t.fld F.DEV_FLASH_STATUS.RESULT = b2n b ∧ t.host.flashOp = 0 ∧
      t.host.flashKnown = true ∧ t.fld F.DEV_FLASH_INFO.SIZE_MIB = m.toNat ∧
      KeepsRep [Reg.DEV_FLASH_STATUS, Reg.DEV_FLASH_INFO] [.host] s t) ∧
  (∀ (s : State),
    2 ≤ s.host.flashOp → s.host.flashOp ≤ 4 →
    NextWith (exec (.flashOpTimeout) s) fun t =>
      t.fld F.DEV_FLASH_STATUS.BUSY = 0 ∧ t.fld F.DEV_FLASH_STATUS.RESULT = 2 ∧ t.host.flashOp = 0 ∧
      KeepsRep [Reg.DEV_FLASH_STATUS] [.host] s t)

/-- The test access port loads its instructions, and a reading shows the hottest sensor and sets the flags. In PROBE the pin instructions
load; in every other mode from LOAD on they load as BYPASS and mark REFUSED. IDCODE, SAMPLE and BYPASS load in every such mode, and
private debug loads as its code, or as BYPASS where the fuse locks it. TEMPERATURE_READ shows the hottest junction and its sensor, the
lowest-numbered of equals, the four stacks, and sets TJ_HIGH above 125 degrees, MEM_HOT and REFRESH_2X above 85 and MEM_OVER above 105. It
rests on R396, Table 14.12 (14_host_interface.md), R418, R416, R417. Beside the spec it rests on the model's choices of log entries 5, 58,
60. -/
def Obligations.TestPortLoadsAndTemperaturesAreShown : Prop :=
  (∀ (s : State),
    s.mode = Mode.PROBE →
    NextWith (exec (.tapExtest) s) fun t =>
      t.fld F.DEV_JTAG.IR = 0 ∧ t.fld F.DEV_JTAG.REFUSED = s.fld F.DEV_JTAG.REFUSED ∧ t.out = .tap 0 :: s.out ∧
      Keeps [Reg.DEV_JTAG] [.out] s t) ∧
  (∀ (s : State),
    s.mode = Mode.PROBE →
    NextWith (exec (.tapClamp) s) fun t =>
      t.fld F.DEV_JTAG.IR = 4 ∧ t.fld F.DEV_JTAG.REFUSED = s.fld F.DEV_JTAG.REFUSED ∧ t.out = .tap 4 :: s.out ∧
      Keeps [Reg.DEV_JTAG] [.out] s t) ∧
  (∀ (s : State),
    s.mode = Mode.PROBE →
    NextWith (exec (.tapHighz) s) fun t =>
      t.fld F.DEV_JTAG.IR = 5 ∧ t.fld F.DEV_JTAG.REFUSED = s.fld F.DEV_JTAG.REFUSED ∧ t.out = .tap 5 :: s.out ∧
      Keeps [Reg.DEV_JTAG] [.out] s t) ∧
  (∀ (s : State),
    s.mode = Mode.PROBE →
    NextWith (exec (.tapExtestPulse) s) fun t =>
      t.fld F.DEV_JTAG.IR = 6 ∧ t.fld F.DEV_JTAG.REFUSED = s.fld F.DEV_JTAG.REFUSED ∧ t.out = .tap 6 :: s.out ∧
      Keeps [Reg.DEV_JTAG] [.out] s t) ∧
  (∀ (s : State),
    s.mode = Mode.PROBE →
    NextWith (exec (.tapExtestTrain) s) fun t =>
      t.fld F.DEV_JTAG.IR = 7 ∧ t.fld F.DEV_JTAG.REFUSED = s.fld F.DEV_JTAG.REFUSED ∧ t.out = .tap 7 :: s.out ∧
      Keeps [Reg.DEV_JTAG] [.out] s t) ∧
  (∀ (s : State),
    Mode.LOAD ≤ s.mode → s.mode ≠ Mode.PROBE →
    NextWith (exec (.tapExtest) s) fun t =>
      t.fld F.DEV_JTAG.IR = 0xFF ∧ t.fld F.DEV_JTAG.REFUSED = 1 ∧ t.out = .tap 0xFF :: s.out ∧ Keeps [Reg.DEV_JTAG] [.out] s t) ∧
  (∀ (s : State),
    Mode.LOAD ≤ s.mode → s.mode ≠ Mode.PROBE →
    NextWith (exec (.tapClamp) s) fun t =>
      t.fld F.DEV_JTAG.IR = 0xFF ∧ t.fld F.DEV_JTAG.REFUSED = 1 ∧ t.out = .tap 0xFF :: s.out ∧ Keeps [Reg.DEV_JTAG] [.out] s t) ∧
  (∀ (s : State),
    Mode.LOAD ≤ s.mode → s.mode ≠ Mode.PROBE →
    NextWith (exec (.tapHighz) s) fun t =>
      t.fld F.DEV_JTAG.IR = 0xFF ∧ t.fld F.DEV_JTAG.REFUSED = 1 ∧ t.out = .tap 0xFF :: s.out ∧ Keeps [Reg.DEV_JTAG] [.out] s t) ∧
  (∀ (s : State),
    Mode.LOAD ≤ s.mode → s.mode ≠ Mode.PROBE →
    NextWith (exec (.tapExtestPulse) s) fun t =>
      t.fld F.DEV_JTAG.IR = 0xFF ∧ t.fld F.DEV_JTAG.REFUSED = 1 ∧ t.out = .tap 0xFF :: s.out ∧ Keeps [Reg.DEV_JTAG] [.out] s t) ∧
  (∀ (s : State),
    Mode.LOAD ≤ s.mode → s.mode ≠ Mode.PROBE →
    NextWith (exec (.tapExtestTrain) s) fun t =>
      t.fld F.DEV_JTAG.IR = 0xFF ∧ t.fld F.DEV_JTAG.REFUSED = 1 ∧ t.out = .tap 0xFF :: s.out ∧ Keeps [Reg.DEV_JTAG] [.out] s t) ∧
  (∀ (s : State),
    Mode.LOAD ≤ s.mode →
    NextWith (exec (.tapIdcode) s) fun t =>
      t.fld F.DEV_JTAG.IR = 1 ∧ t.fld F.DEV_JTAG.REFUSED = s.fld F.DEV_JTAG.REFUSED ∧ t.out = .tap 1 :: s.out ∧
      Keeps [Reg.DEV_JTAG] [.out] s t) ∧
  (∀ (s : State),
    Mode.LOAD ≤ s.mode →
    NextWith (exec (.tapSamplePreload) s) fun t =>
      t.fld F.DEV_JTAG.IR = 2 ∧ t.fld F.DEV_JTAG.REFUSED = s.fld F.DEV_JTAG.REFUSED ∧ t.out = .tap 2 :: s.out ∧
      Keeps [Reg.DEV_JTAG] [.out] s t) ∧
  (∀ (s : State) (code : BitVec 8),
    Mode.LOAD ≤ s.mode → 0x80 ≤ code.toNat → code.toNat ≤ 0xFE →
    NextWith (exec (.tapPrivateDebug code) s) fun t =>
      (Config.dbgLock = false → t.fld F.DEV_JTAG.IR = code.toNat) ∧ (Config.dbgLock = true → t.fld F.DEV_JTAG.IR = 0xFF) ∧
      Keeps [Reg.DEV_JTAG] [.out] s t) ∧
  (∀ (s : State) (code : BitVec 8),
    Mode.LOAD ≤ s.mode → tapDefined code.toNat = false →
    NextWith (exec (.tapBypass code) s) fun t =>
      t.fld F.DEV_JTAG.IR = 0xFF ∧ t.fld F.DEV_JTAG.REFUSED = s.fld F.DEV_JTAG.REFUSED ∧ Keeps [Reg.DEV_JTAG] [.out] s t) ∧
  (∀ (s : State) (tj mem : List Int) (k : Nat),
    Mode.LOAD ≤ s.mode → tj.length = 8 → mem.length = 4 → k < 8 → (∀ j < 8, tj.getD j 0 ≤ tj.getD k 0) →
    (∀ j < 8, j < k → tj.getD j 0 < tj.getD k 0) →
    NextWith (exec (.temperatureRead tj mem) s) fun t =>
      t.fld F.DEV_TEMP.TJ_MAX = unsigned 12 (tj.getD k 0) ∧ t.fld F.DEV_TEMP.SENSOR = k ∧ t.fld F.DEV_TEMP.VALID = 1 ∧
      (1000 < tj.getD k 0 → t.fld F.DEV_TEMP_FLAGS.TJ_HIGH = 1) ∧
      (∀ j < 4, bitAt (t.fld F.DEV_TEMP_FLAGS.REFRESH_2X) j = decide (85 < mem.getD j 0)) ∧
      (∀ j < 4, bitAt (t.fld F.DEV_TEMP_FLAGS.MEM_OVER) j = (bitAt (s.fld F.DEV_TEMP_FLAGS.MEM_OVER) j || decide (105 < mem.getD j 0))) ∧
      (∀ j < 4, bitAt (t.fld F.DEV_TEMP_FLAGS.MEM_HOT) j = (bitAt (s.fld F.DEV_TEMP_FLAGS.MEM_HOT) j || decide (85 < mem.getD j 0))) ∧
      (∀ j < 4, t.fld F.DEV_TEMP_MEM.STACK / 2 ^ (8 * j) % 2 ^ 8 = unsigned 8 (mem.getD j 0)) ∧
      Keeps [Reg.DEV_TEMP, Reg.DEV_TEMP_MEM, Reg.DEV_TEMP_FLAGS] [] s t)

/-- A host write reaches the register it names, by that register's access type. REGISTER_WRITE of one aligned double word to an RW
register stores the written bits: the expected value of an idle Strainer engine, the group mask of a lane, the ageing time of a slice and
the launch horizon of a port where their fields are mutable and the value is legal; a W1C register loses the bits written as 1; a 64-bit
counter keeps its value; a 2-DW request over two registers writes both. It rests on R6, R8, R68, R368, Table 00.4 (00_scope.md). Beside
the spec it rests on the model's choices of log entries 21, 24, 26. -/
def Obligations.HostWritesReachRegisters : Prop :=
  (∀ (s : State) (k : Nat) (v : BitVec 32),
    k < 8 → s.hostOpen → s.scanState k = 0 →
    NextWith (exec (.registerWrite ⟨false, Reg.ST_ENG_EXP k, 1, true⟩ (v.setWidth 64)) s) fun t =>
      t.rd (Reg.ST_ENG_EXP k) = v.setWidth 64 ∧ KeepsRep [Reg.ST_ENG_EXP k] [] s t) ∧
  (∀ (s : State) (l : Nat) (v : BitVec 32),
    l < 192 → s.hostOpen → v.toNat < 256 →
    NextWith (exec (.registerWrite ⟨false, Reg.LN_GROUP_MASK l, 1, true⟩ (v.setWidth 64)) s) fun t =>
      t.fld (F.LN_GROUP_MASK.MASK l) = v.toNat ∧ KeepsRep [Reg.LN_GROUP_MASK l] [] s t) ∧
  (∀ (s : State) (i : Nat) (v : BitVec 32),
    i < 4 → s.hostOpen → s.isMutable 2 = true → 1 ≤ v.toNat → v.toNat ≤ 3600 →
    NextWith (exec (.registerWrite ⟨false, Reg.SLC_AGE i, 1, true⟩ (v.setWidth 64)) s) fun t =>
      t.fld (F.SLC_AGE.AGE_S i) = v.toNat ∧ KeepsRep [Reg.SLC_AGE i] [] s t) ∧
  (∀ (s : State) (p : Nat) (v : BitVec 32),
    p < 192 → s.hostOpen → s.portUsed p = true → s.isMutable 4 = true → 1 ≤ v.toNat → v.toNat ≤ 2000000 →
    NextWith (exec (.registerWrite ⟨false, Reg.PRT_LT_HORIZON p, 1, true⟩ (v.setWidth 64)) s) fun t =>
      t.fld (F.PRT_LT_HORIZON.US p) = v.toNat ∧ KeepsRep [Reg.PRT_LT_HORIZON p] [] s t) ∧
  (∀ (s : State) (p : Nat) (v : BitVec 32),
    p < 192 → s.hostOpen → s.portUsed p = true → s.isMutable 4 = false → v.toNat < 2 ^ 21 →
    NextWith (exec (.registerWrite ⟨false, Reg.PRT_LT_HORIZON p, 1, true⟩ (v.setWidth 64)) s) fun t =>
      t.rd (Reg.PRT_LT_HORIZON p) = s.rd (Reg.PRT_LT_HORIZON p) ∧
      (s.fld (F.ERR_STATUS.CODE (Base.PRT p)) = 0 → t.fld (F.ERR_STATUS.CODE (Base.PRT p)) = Err.NOT_PERMITTED ∧ t.fld (F.ERR_OFS.OFS (Base.PRT p)) = Reg.PRT_LT_HORIZON p ∧ t.fld (F.ERR_STATUS.WR (Base.PRT p)) = 1) ∧
      (s.fld (F.ERR_STATUS.CODE (Base.PRT p)) ≠ 0 → t.fld (F.ERR_STATUS.CODE (Base.PRT p)) = s.fld (F.ERR_STATUS.CODE (Base.PRT p)) ∧ t.fld (F.ERR_STATUS.OVF (Base.PRT p)) = min (s.fld (F.ERR_STATUS.OVF (Base.PRT p)) + 1) 255) ∧
      KeepsRep [Reg.ERR_STATUS (Base.PRT p), Reg.ERR_OFS (Base.PRT p)] [] s t) ∧
  (∀ (s : State) (v : BitVec 32),
    s.hostOpen → v.toNat < 2 →
    NextWith (exec (.registerWrite ⟨false, Reg.ST_HEALTH, 1, true⟩ (v.setWidth 64)) s) fun t =>
      t.rd Reg.ST_HEALTH = s.rd Reg.ST_HEALTH ∧ KeepsRep [] [] s t) ∧
  (∀ (s : State) (m : Nat) (v : BitVec 32),
    m < 9 → s.hostOpen →
    NextWith (exec (.registerWrite ⟨false, Reg.ST_ECC_CNT m 1, 2, true⟩ (v.setWidth 64)) s) fun t =>
      t.rd (Reg.ST_ECC_CNT m 1) = s.rd (Reg.ST_ECC_CNT m 1) ∧ KeepsRep [] [] s t) ∧
  (∀ (s : State) (k : Nat) (lo hi : BitVec 32),
    k < 8 → s.hostOpen → s.scanState k = 0 → 1 ≤ hi.toNat → hi.toNat ≤ 3600000 →
    NextWith (exec (.registerWrite ⟨false, Reg.ST_ENG_EXP k, 2, true⟩ (hi ++ lo)) s) fun t =>
      t.rd (Reg.ST_ENG_EXP k) = lo.setWidth 64 ∧ t.rd (Reg.ST_ENG_PERIOD k) = hi.setWidth 64 ∧
      KeepsRep [Reg.ST_ENG_EXP k, Reg.ST_ENG_PERIOD k] [] s t)

/-- Writes outside the registers are rejected and recorded. A write to an unused port records NOT_PERMITTED in the DEV block, an unmapped
write records RANGE there, and a misaligned write records ALIGN: code, offset and WR where the register held none, else one more overflow;
nothing else changes but the event counters. It rests on R3, R8, R9, R367, R368. Beside the spec it rests on the model's choices of log
entries 19, 21. -/
def Obligations.WritesOutsideRegistersAreRecorded : Prop :=
  (∀ (s : State) (p o : Nat) (v : BitVec 32),
    p < 192 → o < 0x10000 → o % 4 = 0 → s.hostOpen → s.portUsed p = false →
    NextWith (exec (.unusedPortWrite ⟨false, Base.PRT p + o, 1, true⟩ (v.setWidth 64)) s) fun t =>
      (s.fld (F.ERR_STATUS.CODE (Base.DEV)) = 0 → t.fld (F.ERR_STATUS.CODE (Base.DEV)) = Err.NOT_PERMITTED ∧ t.fld (F.ERR_OFS.OFS (Base.DEV)) = Base.PRT p + o ∧ t.fld (F.ERR_STATUS.WR (Base.DEV)) = 1) ∧
      (s.fld (F.ERR_STATUS.CODE (Base.DEV)) ≠ 0 → t.fld (F.ERR_STATUS.CODE (Base.DEV)) = s.fld (F.ERR_STATUS.CODE (Base.DEV)) ∧ t.fld (F.ERR_STATUS.OVF (Base.DEV)) = min (s.fld (F.ERR_STATUS.OVF (Base.DEV)) + 1) 255) ∧
      KeepsRep [Reg.ERR_STATUS (Base.DEV), Reg.ERR_OFS (Base.DEV)] [] s t) ∧
  (∀ (s : State) (x : Nat) (v : BitVec 32),
    ((0xC00000 ≤ x ∧ x < 0x1000000) ∨ (0x3410000 ≤ x ∧ x < 0x4000000)) → x % 4 = 0 → s.hostOpen →
    NextWith (exec (.unmappedWrite ⟨false, x, 1, true⟩ (v.setWidth 64)) s) fun t =>
      (s.fld (F.ERR_STATUS.CODE (Base.DEV)) = 0 → t.fld (F.ERR_STATUS.CODE (Base.DEV)) = Err.RANGE ∧ t.fld (F.ERR_OFS.OFS (Base.DEV)) = x ∧ t.fld (F.ERR_STATUS.WR (Base.DEV)) = 1) ∧
      (s.fld (F.ERR_STATUS.CODE (Base.DEV)) ≠ 0 → t.fld (F.ERR_STATUS.CODE (Base.DEV)) = s.fld (F.ERR_STATUS.CODE (Base.DEV)) ∧ t.fld (F.ERR_STATUS.OVF (Base.DEV)) = min (s.fld (F.ERR_STATUS.OVF (Base.DEV)) + 1) 255) ∧
      KeepsRep [Reg.ERR_STATUS (Base.DEV), Reg.ERR_OFS (Base.DEV)] [] s t) ∧
  (∀ (s : State) (k d : Nat) (v : BitVec 32) (b : Bool),
    k < 8 → 1 ≤ d → d < 4 → s.hostOpen → s.scanState k = 0 →
    NextWith (exec (.registerWrite ⟨false, Reg.ST_ENG_EXP k + d, 1, b⟩ (v.setWidth 64)) s) fun t =>
      (s.fld (F.ERR_STATUS.CODE (Base.ST)) = 0 → t.fld (F.ERR_STATUS.CODE (Base.ST)) = Err.ALIGN ∧ t.fld (F.ERR_OFS.OFS (Base.ST)) = Reg.ST_ENG_EXP k ∧ t.fld (F.ERR_STATUS.WR (Base.ST)) = 1) ∧
      (s.fld (F.ERR_STATUS.CODE (Base.ST)) ≠ 0 → t.fld (F.ERR_STATUS.CODE (Base.ST)) = s.fld (F.ERR_STATUS.CODE (Base.ST)) ∧ t.fld (F.ERR_STATUS.OVF (Base.ST)) = min (s.fld (F.ERR_STATUS.OVF (Base.ST)) + 1) 255) ∧
      KeepsRep [Reg.ERR_STATUS (Base.ST), Reg.ERR_OFS (Base.ST)] [] s t)

/-- A broadcast write reaches every member, a broadcast read is an error, and a clear ends one. ALIAS_WRITE of the port broadcast stores a
legal launch horizon in every used port of a powered slice and in no other; the slice broadcast stores a legal ageing time in every slice;
ALIAS_READ records BCAST_READ and reads zero; ERR_STATUS_CLEAR clears the error register and its offset. It rests on R369, R372, R373,
R374, R420. Beside the spec it rests on the model's choices of log entries 21, 22. -/
def Obligations.AliasesReachTheirMembers : Prop :=
  (∀ (s : State) (v : BitVec 32),
    s.hostOpen → s.isMutable 4 = true → 1 ≤ v.toNat → v.toNat ≤ 2000000 →
    NextWith (exec (.aliasWrite ⟨false, 0x2FF1014, 1, true⟩ (v.setWidth 64)) s) fun t =>
      (∀ p < 192, t.fld (F.PRT_LT_HORIZON.US p) = (if s.portUsed p = true ∧ s.powered (sliceOf p) = true then v.toNat else s.fld (F.PRT_LT_HORIZON.US p))) ∧
      KeepsRep ((List.range 192).map Reg.PRT_LT_HORIZON) [] s t) ∧
  (∀ (s : State) (v : BitVec 32),
    s.hostOpen → s.isMutable 2 = true → 1 ≤ v.toNat → v.toNat ≤ 3600 →
    NextWith (exec (.aliasWrite ⟨false, 0x1F00204, 1, true⟩ (v.setWidth 64)) s) fun t =>
      (∀ i < 4, t.fld (F.SLC_AGE.AGE_S i) = v.toNat) ∧
      KeepsRep [Reg.SLC_AGE 0, Reg.SLC_AGE 1, Reg.SLC_AGE 2, Reg.SLC_AGE 3] [] s t) ∧
  (∀ (s : State) (o : Nat),
    o < 0x10000 → o % 4 = 0 → s.hostOpen →
    NextWith (exec (.aliasRead ⟨false, 0x2FF0000 + o, 1, true⟩) s) fun t =>
      t.out.head? = some (.read false (0x2FF0000 + o) 0) ∧
      (s.fld (F.ERR_STATUS.CODE (Base.DEV)) = 0 → t.fld (F.ERR_STATUS.CODE (Base.DEV)) = Err.BCAST_READ ∧ t.fld (F.ERR_OFS.OFS (Base.DEV)) = 0x2FF0000 + o ∧ t.fld (F.ERR_STATUS.WR (Base.DEV)) = 0) ∧
      (s.fld (F.ERR_STATUS.CODE (Base.DEV)) ≠ 0 → t.fld (F.ERR_STATUS.CODE (Base.DEV)) = s.fld (F.ERR_STATUS.CODE (Base.DEV)) ∧ t.fld (F.ERR_STATUS.OVF (Base.DEV)) = min (s.fld (F.ERR_STATUS.OVF (Base.DEV)) + 1) 255) ∧
      KeepsRep [Reg.ERR_STATUS (Base.DEV), Reg.ERR_OFS (Base.DEV)] [] s t) ∧
  (∀ (s : State) (k : Nat),
    k < 12 → s.mode ≠ Mode.OFF → s.mode ≠ Mode.LULL → s.dev.softHold = false →
    NextWith (exec (.errStatusClear (k * 0x100000)) s) fun t =>
      t.rd (Reg.ERR_STATUS (k * 0x100000)) = 0 ∧ t.rd (Reg.ERR_OFS (k * 0x100000)) = 0 ∧
      KeepsRep [Reg.ERR_STATUS (k * 0x100000), Reg.ERR_OFS (k * 0x100000)] [] s t) ∧
  (∀ (s : State) (p : Nat),
    p < 192 → s.hostOpen → s.portUsed p = true →
    NextWith (exec (.errStatusClear (Base.PRT p)) s) fun t =>
      t.rd (Reg.ERR_STATUS (Base.PRT p)) = 0 ∧ t.rd (Reg.ERR_OFS (Base.PRT p)) = 0 ∧
      KeepsRep [Reg.ERR_STATUS (Base.PRT p), Reg.ERR_OFS (Base.PRT p)] [] s t)

/-- A LULL request with no wake source enabled is rejected with ILLEGAL_VALUE. MODE_REQ_LULL in BREEZE, GALE or CALM that breaks no other
rule, with every enable of DEV_WAKE_CFG at 0, records ILLEGAL_VALUE at DEV_MODE_REQ, or one more overflow where an error is held, and
changes nothing else but the event counters. It formalises R35. -/
def Obligations.LullNeedsAWakeSource : Prop :=
  (∀ (s : State),
    s.hostOpen → (s.mode = Mode.BREEZE ∨ s.mode = Mode.GALE ∨ s.mode = Mode.CALM) → s.trans = false → s.anyReconf = false →
    s.fld F.DEV_WAKE_CFG.LANE_EN = 0 → s.fld F.DEV_WAKE_CFG.EVT_EN = 0 → s.fld F.DEV_WAKE_CFG.WAKE_IN_EN = 0 →
    s.fld F.DEV_WAKE_CFG.SUPPLY_EN = 0 →
    NextWith (exec (.modeReqLull) s) fun t =>
      t.mode = s.mode ∧ t.trans = false ∧
      (s.fld (F.ERR_STATUS.CODE (Base.DEV)) = 0 → t.fld (F.ERR_STATUS.CODE (Base.DEV)) = Err.ILLEGAL_VALUE ∧ t.fld (F.ERR_OFS.OFS (Base.DEV)) = Reg.DEV_MODE_REQ ∧ t.fld (F.ERR_STATUS.WR (Base.DEV)) = 1) ∧
      (s.fld (F.ERR_STATUS.CODE (Base.DEV)) ≠ 0 → t.fld (F.ERR_STATUS.CODE (Base.DEV)) = s.fld (F.ERR_STATUS.CODE (Base.DEV)) ∧ t.fld (F.ERR_STATUS.OVF (Base.DEV)) = min (s.fld (F.ERR_STATUS.OVF (Base.DEV)) + 1) 255) ∧
      KeepsRep [Reg.ERR_STATUS (Base.DEV), Reg.ERR_OFS (Base.DEV)] [] s t)

/-- A write of PF_SEL clears the count and the overflow flag of its counter. PF_SELECT with a legal value, also one that selects the event
already selected or the event that counts this very write, leaves the count and the overflow flag of its counter at 0 and the register
with the value; a value that no event has is rejected and changes neither. It formalises R391. -/
def Obligations.SelectingAnEventClearsItsCounter : Prop :=
  (∀ (s : State) (n : Nat) (v : BitVec 32),
    n < 64 → s.hostOpen → v.toNat / 2 ^ 12 % 16 = 0 → v.toNat / 2 ^ 24 = 0 →
    pfIllegal (v.toNat % 2 ^ 12) (v.toNat / 2 ^ 16 % 2 ^ 8) = false →
    NextWith (exec (.pfSelect n v) s) fun t =>
      t.rd (Reg.PF_SEL n) = BitVec.ofNat 64 v.toNat ∧ t.fld (F.PF_CNT.COUNT n) = 0 ∧ t.fld (F.PF_CNT.OVF n) = 0 ∧
      KeepsRep [Reg.PF_SEL n] [.host] s t)

/-- Image fetches, the loader watchdog, the shadow copy and received frames complete with their effect. IMAGE_FETCH_COMPLETE of an awaited
source with an image that fails a check leaves FETCH, WAIT_HOST or FAILED by its source and marks the source; LOADER_WATCHDOG_EXPIRY of an
awaited fetch does so with its watchdog counted; SHADOW_COPY of a held image shadows it; INGRESS_FRAME on a port that receives counts each
frame by the check that it fails or as good, a MAC control frame included. It rests on R80, R81, R82, R126, R359. Beside the spec it rests
on the model's choices of log entries 6, 88. -/
def Obligations.LoaderAndIngressCommandsComplete : Prop :=
  (∀ (s : State) (src : ImgSource) (img : List Byte) (cal : CalFlash) (f : ImgFail),
    s.loadAwaits src = true → (src = .host ∨ s.host.flashTail = false) →
    (imgCheck img ⟨if src = .host then s.fld F.IMG_HOST_LEN.LEN else img.length, none, []⟩ = some f) →
    NextWith (exec (.imageFetchComplete src img cal) s) fun t =>
      (t.fld F.IMG_STATUS.STATE = (if src = .flashA then ImgSt.FETCH else if src = .flashB then ImgSt.WAIT_HOST else ImgSt.FAILED)) ∧
      (t.fld F.IMG_STATUS.SOURCE = (if src = .flashA then 1 else imgSourceCode src)) ∧ t.mode = s.mode ∧ t.img = s.img) ∧
  (∀ (s : State) (src : ImgSource),
    s.loadAwaits src = true →
    NextWith (exec (.loaderWatchdogExpiry) s) fun t =>
      t.rd (Reg.ST_WD_CNT 8) = s.rd (Reg.ST_WD_CNT 8) + 1 ∧
      (t.fld F.IMG_STATUS.STATE = (if src = .flashA then ImgSt.FETCH else if src = .flashB then ImgSt.WAIT_HOST else ImgSt.FAILED)) ∧
      t.mode = s.mode) ∧
  (∀ (s : State),
    Mode.STEEP ≤ s.mode → s.img.held ≠ [] →
    NextWith (exec (.shadowCopy) s) fun t =>
      t.img.shadowed = true ∧ t.img.held = s.img.held ∧ Keeps [] [.img] s t) ∧
  (∀ (s : State) (p slots : Nat) (bs : List Byte) (ts : LineStamp),
    p < 192 → s.receives p = true → frameGood bs = false →
    NextWith (exec (.ingressFrame p bs ts slots) s) fun t =>
      (t.rd (Reg.PRT_RX_CNT p (if bs.length < 64 then 3 else if 10240 < bs.length then 4 else 2)) = s.rd (Reg.PRT_RX_CNT p (if bs.length < 64 then 3 else if 10240 < bs.length then 4 else 2)) + 1) ∧
      t.uid = s.uid) ∧
  (∀ (s : State) (p slots : Nat) (bs : List Byte) (ts : LineStamp),
    p < 192 → s.receives p = true → frameGood bs = true →
    NextWith (exec (.ingressFrame p bs ts slots) s) fun t =>
      t.rd (Reg.PRT_RX_CNT p 0) = s.rd (Reg.PRT_RX_CNT p 0) + 1 ∧
      t.rd (Reg.PRT_RX_CNT p 1) = s.rd (Reg.PRT_RX_CNT p 1) + BitVec.ofNat 64 bs.length)

/-- Every command of the time base, of captures, of alarms and of holdover tests completes with its effect. TIMEBASE_GATE_END takes a gate
while the reference is present; TIMEBASE_ABSENT and TIMEBASE_PRESENT set and clear ABSENT; the OCXO pin is followed; PPS_EDGE and SNAPSHOT
mark their capture new; ALARM_ARM arms and ALARM_FIRE fires and disarms; FHT_START and FHT_PERIODIC_DUE run a test on a channel, and
FHT_COMPLETE judges it and counts it, also where a periodic test waits. It rests on R231, R232, R233, R234, R254, R256, R257. Beside the
spec it rests on the model's choices of log entry 17. -/
def Obligations.TimeBaseCommandsComplete : Prop :=
  (∀ (s : State) (n : Nat),
    s.kettleRuns = true → 0 < n → s.fld F.KT_TB_STATUS.ABSENT = 0 →
    NextWith (exec (.timebaseGateEnd n) s) fun t =>
      t.kettle.tb.gates = (n :: s.kettle.tb.gates).take 16 ∧ t.fld F.KT_TB_STATUS.VALID = 1) ∧
  (∀ (s : State),
    s.kettleRuns = true → s.fld F.KT_TB_STATUS.ABSENT = 0 →
    NextWith (exec (.timebaseAbsent) s) fun t =>
      t.fld F.KT_TB_STATUS.ABSENT = 1 ∧ t.kettle.tb = s.kettle.tb) ∧
  (∀ (s : State),
    s.kettleRuns = true → s.fld F.KT_TB_STATUS.ABSENT = 1 →
    NextWith (exec (.timebasePresent) s) fun t =>
      t.fld F.KT_TB_STATUS.ABSENT = 0 ∧ t.kettle.tb.gates = [] ∧ t.kettle.tb.inc = s.kettle.tb.inc) ∧
  (∀ (s : State),
    NextWith (exec (.ocxoWarmFall) s) fun t =>
      t.dev.ocxoWarm = false ∧ (s.fld F.KT_TB_STATUS.TIMEBASE = 2 → t.fld F.KT_TB_STATUS.WARM = 0)) ∧
  (∀ (s : State),
    NextWith (exec (.ocxoWarmRise) s) fun t =>
      t.dev.ocxoWarm = true ∧ (s.fld F.KT_TB_STATUS.TIMEBASE = 2 → t.fld F.KT_TB_STATUS.WARM = 1)) ∧
  (∀ (s : State) (i : Nat),
    i < 2 → s.kettleRuns = true →
    NextWith (exec (.ppsEdge i) s) fun t =>
      t.fldBit F.KT_CAP_STATUS.NEW (1 + i) = true ∧ t.rd (Reg.KT_CNT (9 + i)) = s.rd (Reg.KT_CNT (9 + i)) + 1) ∧
  (∀ (s : State),
    s.hostOpen →
    NextWith (exec (.snapshot) s) fun t =>
      t.fldBit F.KT_CAP_STATUS.NEW 0 = true) ∧
  (∀ (s : State) (n dom : Nat) (sp : Bool),
    n < 8 → dom < 8 → s.hostOpen → s.domEnabled dom = true →
    diff48 (s.alarmTarget n) (ns48 (s.now16 dom)) ≤ 2000000000 * 2 ^ 16 →
    -(1000000 * 2 ^ 16) ≤ diff48 (s.alarmTarget n) (ns48 (s.now16 dom)) →
    NextWith (exec (.alarmArm n dom sp) s) fun t =>
      t.fld (F.KT_ALM_CFG.ARM n) = 1 ∧ t.fld (F.KT_ALM_CFG.DOMAIN n) = dom) ∧
  (∀ (s : State) (n : Nat),
    n < 8 → s.fld (F.KT_ALM_CFG.ARM n) = 1 →
    NextWith (exec (.alarmFire n) s) fun t =>
      t.fldBit F.KT_ALM_STATUS.FIRED n = true ∧ t.fld (F.KT_ALM_CFG.ARM n) = 0) ∧
  (∀ (s : State) (ch d : Nat),
    ch < 3 → s.hostOpen → (s.mode = Mode.BREEZE ∨ s.mode = Mode.GALE ∨ s.mode = Mode.CALM) → s.fhtDomain = some d →
    s.fld F.KT_FHT_STATUS.RUN = 0 →
    NextWith (exec (.fhtStart ch) s) fun t =>
      t.fld F.KT_FHT_STATUS.RUN = 1 ∧ t.fld F.KT_FHT_STATUS.CH = ch) ∧
  (∀ (s : State) (d : Nat),
    s.fld F.KT_CFG.FHT_H ≠ 0 → s.fld F.KT_FHT_STATUS.RUN = 0 → s.fhtDomain = some d →
    NextWith (exec (.fhtPeriodicDue) s) fun t =>
      t.fld F.KT_FHT_STATUS.RUN = 1 ∧ t.fld F.KT_FHT_STATUS.CH = s.kettle.fht.turn % 4) ∧
  (∀ (s : State) (fault : Int),
    s.fld F.KT_FHT_STATUS.RUN = 1 →
    NextWith (exec (.fhtComplete fault) s) fun t =>
      (t.fld F.KT_FHT_STATUS.LAST = 1 ∨ t.fld F.KT_FHT_STATUS.LAST = 2) ∧ t.rd (Reg.KT_CNT 6) = s.rd (Reg.KT_CNT 6) + 1 ∧
      t.kettle.fht.due = false ∧ t.fld F.KT_FHT_STATUS.RUN = b2n (s.kettle.fht.due && s.fhtDomain.isSome))

/-- Every command of the MDIO masters and of the flash engine completes with its effect. The four MDIO operations make an idle master busy
and MDIO_OP_DONE ends the one that runs; the five flash operations make an idle engine busy where their length, address and key are legal,
FLASH_OP_DONE ends the one that runs with its result, and FLASH_OP_TIMEOUT ends a program or an erase. It rests on R394, R395. Beside the
spec it rests on the model's choices of log entry 59. -/
def Obligations.SerialCommandsComplete : Prop :=
  (∀ (s : State) (m : Nat) (a b : BitVec 5) (d : BitVec 16),
    m < 4 → s.hostOpen → s.fld (F.DEV_MDIO_STATUS.BUSY m) = 0 →
    NextWith (exec (.mdioAddress m a b d) s) fun t =>
      t.fld (F.DEV_MDIO_STATUS.BUSY m) = 1 ∧ (t.host.mdioOp.get? m).map (·.1) = some 0) ∧
  (∀ (s : State) (m : Nat) (a b : BitVec 5) (d : BitVec 16),
    m < 4 → s.hostOpen → s.fld (F.DEV_MDIO_STATUS.BUSY m) = 0 →
    NextWith (exec (.mdioWrite m a b d) s) fun t =>
      t.fld (F.DEV_MDIO_STATUS.BUSY m) = 1 ∧ (t.host.mdioOp.get? m).map (·.1) = some 1) ∧
  (∀ (s : State) (m : Nat) (a b : BitVec 5),
    m < 4 → s.hostOpen → s.fld (F.DEV_MDIO_STATUS.BUSY m) = 0 →
    NextWith (exec (.mdioReadInc m a b) s) fun t =>
      t.fld (F.DEV_MDIO_STATUS.BUSY m) = 1 ∧ (t.host.mdioOp.get? m).map (·.1) = some 2) ∧
  (∀ (s : State) (m : Nat) (a b : BitVec 5),
    m < 4 → s.hostOpen → s.fld (F.DEV_MDIO_STATUS.BUSY m) = 0 →
    NextWith (exec (.mdioRead m a b) s) fun t =>
      t.fld (F.DEV_MDIO_STATUS.BUSY m) = 1 ∧ (t.host.mdioOp.get? m).map (·.1) = some 3) ∧
  (∀ (s : State) (m : Nat) (d : BitVec 16),
    m < 4 → (s.host.mdioOp.get? m).isSome = true →
    NextWith (exec (.mdioOpDone m d) s) fun t =>
      t.fld (F.DEV_MDIO_STATUS.BUSY m) = 0 ∧ t.host.mdioOp.get? m = none) ∧
  (∀ (s : State) (n : BitVec 13),
    s.hostOpen → s.fld F.DEV_FLASH_STATUS.BUSY = 0 → s.flashLoading = false →
    s.flashBeyond (s.fld F.DEV_FLASH_ADDR.ADDR) = false → n ≠ 0 → n.toNat ≤ 256 →
    NextWith (exec (.flashRead n) s) fun t =>
      t.fld F.DEV_FLASH_STATUS.BUSY = 1 ∧ t.host.flashOp = 1) ∧
  (∀ (s : State) (n : BitVec 13) (key : BitVec 16),
    s.hostOpen → s.fld F.DEV_FLASH_STATUS.BUSY = 0 → s.flashLoading = false →
    s.flashBeyond (s.fld F.DEV_FLASH_ADDR.ADDR) = false → n ≠ 0 → s.fld F.DEV_FLASH_ADDR.ADDR % 256 + n.toNat ≤ 256 →
    key = 0xF1A5 →
    NextWith (exec (.flashPageProgram n key) s) fun t =>
      t.fld F.DEV_FLASH_STATUS.BUSY = 1 ∧ t.host.flashOp = 2) ∧
  (∀ (s : State) (key : BitVec 16),
    s.hostOpen → s.fld F.DEV_FLASH_STATUS.BUSY = 0 → s.flashLoading = false →
    s.flashBeyond (s.fld F.DEV_FLASH_ADDR.ADDR) = false → s.fld F.DEV_FLASH_ADDR.ADDR % 4096 = 0 → key = 0xF1A5 →
    NextWith (exec (.flashErase4k key) s) fun t =>
      t.fld F.DEV_FLASH_STATUS.BUSY = 1 ∧ t.host.flashOp = 3) ∧
  (∀ (s : State) (key : BitVec 16),
    s.hostOpen → s.fld F.DEV_FLASH_STATUS.BUSY = 0 → s.flashLoading = false →
    s.flashBeyond (s.fld F.DEV_FLASH_ADDR.ADDR) = false → s.fld F.DEV_FLASH_ADDR.ADDR % 65536 = 0 → key = 0xF1A5 →
    NextWith (exec (.flashErase64k key) s) fun t =>
      t.fld F.DEV_FLASH_STATUS.BUSY = 1 ∧ t.host.flashOp = 4) ∧
  (∀ (s : State) (n : BitVec 13),
    s.hostOpen → s.fld F.DEV_FLASH_STATUS.BUSY = 0 → s.flashLoading = false → n ≠ 0 → n.toNat ≤ 256 →
    NextWith (exec (.flashReadSfdp n) s) fun t =>
      t.fld F.DEV_FLASH_STATUS.BUSY = 1 ∧ t.host.flashOp = 5) ∧
  (∀ (s : State) (bs : List Byte) (b : Bool) (m : BitVec 32),
    s.host.flashOp ≠ 0 →
    NextWith (exec (.flashOpDone bs b m) s) fun t =>
      t.fld F.DEV_FLASH_STATUS.BUSY = 0 ∧ t.fld F.DEV_FLASH_STATUS.RESULT = b2n b ∧ t.host.flashOp = 0) ∧
  (∀ (s : State),
    2 ≤ s.host.flashOp → s.host.flashOp ≤ 4 →
    NextWith (exec (.flashOpTimeout) s) fun t =>
      t.fld F.DEV_FLASH_STATUS.BUSY = 0 ∧ t.fld F.DEV_FLASH_STATUS.RESULT = 2 ∧ t.host.flashOp = 0)
end

