-- ==== Sys2Proof/Laws/Bits.lean ====
section
/-! SUPPORT. Bit fields of a register: a field that is replaced reads as the new value, and every disjoint field reads as before. -/

namespace Sys2Proof.Machine

/-- The three parts of a number at a field of `w` bits from bit `lo`. -/
theorem nat_parts (n lo w : Nat) : n = (n / 2 ^ lo / 2 ^ w) * 2 ^ (lo + w) + (n / 2 ^ lo % 2 ^ w) * 2 ^ lo + n % 2 ^ lo := by
  have h1 := Nat.div_add_mod n (2 ^ lo)
  have h2 := Nat.div_add_mod (n / 2 ^ lo) (2 ^ w)
  rw [pow_add]
  generalize n / 2 ^ lo / 2 ^ w = a at *
  generalize n / 2 ^ lo % 2 ^ w = b at *
  generalize n % 2 ^ lo = c at *
  rw [← h1, ← h2]; ring

/-- The number a replaced field leaves: the parts above and below stay. -/
theorem withBits_parts (v : Reg64) (hi lo x : Nat) :
    v.toNat - bitsOf v hi lo * 2 ^ lo + (x % 2 ^ (hi + 1 - lo)) * 2 ^ lo =
      (v.toNat / 2 ^ lo / 2 ^ (hi + 1 - lo)) * 2 ^ (lo + (hi + 1 - lo)) + (x % 2 ^ (hi + 1 - lo)) * 2 ^ lo + v.toNat % 2 ^ lo := by
  have h := nat_parts v.toNat lo (hi + 1 - lo)
  unfold bitsOf
  generalize hi + 1 - lo = w at *
  have hle : v.toNat / 2 ^ lo % 2 ^ w * 2 ^ lo ≤ v.toNat := by omega
  omega

theorem parts_lt {a y c lo w m : Nat} (hy : y < 2 ^ w) (hc : c < 2 ^ lo) (ha : a < 2 ^ m) : a * 2 ^ (lo + w) + y * 2 ^ lo + c < 2 ^ (lo + w + m) := by
  have h1 : y * 2 ^ lo + c < 2 ^ (lo + w) := by
    have : (y + 1) * 2 ^ lo ≤ 2 ^ w * 2 ^ lo := Nat.mul_le_mul_right _ hy
    rw [← pow_add, Nat.add_comm w lo] at this
    have h2 : (y + 1) * 2 ^ lo = y * 2 ^ lo + 2 ^ lo := by ring
    omega
  have h3 : (a + 1) * 2 ^ (lo + w) ≤ 2 ^ m * 2 ^ (lo + w) := Nat.mul_le_mul_right _ ha
  rw [← pow_add, Nat.add_comm m (lo + w)] at h3
  have h4 : (a + 1) * 2 ^ (lo + w) = a * 2 ^ (lo + w) + 2 ^ (lo + w) := by ring
  omega

theorem toNat_withBits (v : Reg64) {hi lo : Nat} (x : Nat) (h : hi < 64) (hl : lo ≤ hi) :
    (withBits v hi lo x).toNat =
      (v.toNat / 2 ^ lo / 2 ^ (hi + 1 - lo)) * 2 ^ (lo + (hi + 1 - lo)) + (x % 2 ^ (hi + 1 - lo)) * 2 ^ lo + v.toNat % 2 ^ lo := by
  unfold withBits
  rw [withBits_parts, BitVec.toNat_ofNat]
  refine Nat.mod_eq_of_lt ?_
  have e : 64 = lo + (hi + 1 - lo) + (64 - (hi + 1)) := by omega
  have hv : v.toNat / 2 ^ lo / 2 ^ (hi + 1 - lo) < 2 ^ (64 - (hi + 1)) := by
    rw [Nat.div_div_eq_div_mul, ← pow_add]
    refine Nat.div_lt_of_lt_mul ?_
    rw [← pow_add, ← e]; exact v.isLt
  rw [show (2 ^ 64 : Nat) = 2 ^ (lo + (hi + 1 - lo) + (64 - (hi + 1))) by rw [← e]]
  exact parts_lt (Nat.mod_lt _ (by positivity)) (Nat.mod_lt _ (by positivity)) hv

/-- A replaced field reads as the new value, cut to its width. -/
theorem bitsOf_withBits_self (v : Reg64) {hi lo : Nat} (x : Nat) (h : hi < 64) (hl : lo ≤ hi) :
    bitsOf (withBits v hi lo x) hi lo = x % 2 ^ (hi + 1 - lo) := by
  conv_lhs => unfold bitsOf
  rw [toNat_withBits v x h hl]
  generalize hi + 1 - lo = w
  have hc : v.toNat % 2 ^ lo < 2 ^ lo := Nat.mod_lt _ (by positivity)
  generalize v.toNat % 2 ^ lo = c at *
  generalize v.toNat / 2 ^ lo / 2 ^ w = a
  have : a * 2 ^ (lo + w) + x % 2 ^ w * 2 ^ lo + c = 2 ^ lo * (2 ^ w * a + x % 2 ^ w) + c := by rw [pow_add]; ring
  rw [this, Nat.mul_add_div (by positivity), Nat.div_eq_of_lt hc, Nat.add_zero, Nat.mul_add_mod, Nat.mod_mod]

/-- A field above or below a replaced one reads as before. -/
theorem bitsOf_withBits_disjoint (v : Reg64) {hi lo hi' lo' : Nat} (x : Nat) (h : hi < 64) (hl : lo ≤ hi) (hl' : lo' ≤ hi')
    (hd : hi' < lo ∨ hi < lo') : bitsOf (withBits v hi lo x) hi' lo' = bitsOf v hi' lo' := by
  unfold bitsOf
  rw [toNat_withBits v x h hl]
  have hp := nat_parts v.toNat lo (hi + 1 - lo)
  have hw : lo + (hi + 1 - lo) = hi + 1 := by omega
  have hb : v.toNat / 2 ^ lo % 2 ^ (hi + 1 - lo) < 2 ^ (hi + 1 - lo) := Nat.mod_lt _ (by positivity)
  have hy : x % 2 ^ (hi + 1 - lo) < 2 ^ (hi + 1 - lo) := Nat.mod_lt _ (by positivity)
  have hc : v.toNat % 2 ^ lo < 2 ^ lo := Nat.mod_lt _ (by positivity)
  generalize v.toNat / 2 ^ lo % 2 ^ (hi + 1 - lo) = b at *
  generalize x % 2 ^ (hi + 1 - lo) = y at *
  generalize v.toNat / 2 ^ lo / 2 ^ (hi + 1 - lo) = a at *
  generalize v.toNat % 2 ^ lo = c at *
  conv_rhs => rw [hp]
  rcases hd with hd | hd
  · have key : ∀ z, (a * 2 ^ (lo + (hi + 1 - lo)) + z * 2 ^ lo + c) / 2 ^ lo' % 2 ^ (hi' + 1 - lo') = c / 2 ^ lo' % 2 ^ (hi' + 1 - lo') := by
      intro z
      rw [← Nat.mod_mul_right_div_self, ← Nat.mod_mul_right_div_self (m := c), ← pow_add]
      congr 1
      have e1 : 2 ^ (lo' + (hi' + 1 - lo')) ∣ 2 ^ lo := pow_dvd_pow 2 (by omega)
      obtain ⟨q, hq⟩ := e1
      rw [pow_add 2 lo, hq]
      have : a * (2 ^ (lo' + (hi' + 1 - lo')) * q * 2 ^ (hi + 1 - lo)) + z * (2 ^ (lo' + (hi' + 1 - lo')) * q) + c =
        2 ^ (lo' + (hi' + 1 - lo')) * (a * q * 2 ^ (hi + 1 - lo) + z * q) + c := by ring
      rw [this, Nat.mul_add_mod]
    rw [key, key]
  · have key : ∀ z, z < 2 ^ (hi + 1 - lo) → (a * 2 ^ (lo + (hi + 1 - lo)) + z * 2 ^ lo + c) / 2 ^ lo' = a / 2 ^ (lo' - (hi + 1)) := by
      intro z hz
      have e : lo' = (lo + (hi + 1 - lo)) + (lo' - (hi + 1)) := by omega
      have hs : z * 2 ^ lo + c < 2 ^ (lo + (hi + 1 - lo)) := by
        have := parts_lt (a := 0) (m := 0) hz hc (by norm_num)
        simpa using this
      conv_lhs => rw [e]
      rw [pow_add 2 (lo + (hi + 1 - lo)), ← Nat.div_div_eq_div_mul, Nat.add_assoc, Nat.mul_comm a, Nat.mul_add_div (by positivity),
        Nat.div_eq_of_lt hs, Nat.add_zero]
    rw [key y hy, key b hb]

theorem bitsOf_lt (v : Reg64) (hi lo : Nat) : bitsOf v hi lo < 2 ^ (hi + 1 - lo) := Nat.mod_lt _ (by positivity)

end Sys2Proof.Machine
end

