-- ==== Sys2Proof/Laws/Families.lean ====
section
/-! SUPPORT. The register families: the offsets that one register of a card has over its instances, numbered as the masks of the laws number
them. Family 0 is every offset. -/

namespace Sys2Proof.Machine

theorem RegSet.has_of {b s1 n1 s2 n2 a : Nat} (i j : Nat) (hi : i < n1) (hj : j < n2) (h : a = b + s1 * i + s2 * j) :
    RegSet.Has ⟨b, s1, n1, s2, n2⟩ a := ⟨i, j, hi, hj, h⟩

def families0 : List RegSet :=
  [⟨0, 1, 0x4000000, 0, 1⟩, ⟨0x200, 0x0, 1, 0x0, 1⟩, ⟨0x600040, 0x0, 1, 0x0, 1⟩, ⟨0x600100, 0x8, 29, 0x0, 1⟩,
    ⟨0xb00200, 0x8, 64, 0x0, 1⟩, ⟨0x130, 0x0, 1, 0x0, 1⟩, ⟨0x70101c, 0x40, 8, 0x0, 1⟩, ⟨0x701028, 0x40, 8, 0x0, 1⟩,
    ⟨0xa01018, 0x100, 8, 0x0, 1⟩, ⟨0xa01080, 0x100, 8, 0x0, 1⟩, ⟨0xa01088, 0x100, 8, 0x0, 1⟩, ⟨0xa01080, 0x100, 8, 0x8, 8⟩,
    ⟨0xa01030, 0x100, 8, 0x0, 1⟩, ⟨0xa01034, 0x100, 8, 0x0, 1⟩, ⟨0xa01038, 0x100, 8, 0x0, 1⟩, ⟨0xa01020, 0x100, 8, 0x0, 1⟩,
    ⟨0xa01024, 0x100, 8, 0x0, 1⟩, ⟨0xa01028, 0x100, 8, 0x0, 1⟩, ⟨0xa0102c, 0x100, 8, 0x0, 1⟩, ⟨0xa0101c, 0x100, 8, 0x0, 1⟩,
    ⟨0xa010a8, 0x100, 8, 0x0, 1⟩, ⟨0xa010b0, 0x100, 8, 0x0, 1⟩, ⟨0xa010a0, 0x100, 8, 0x0, 1⟩, ⟨0xa010b8, 0x100, 8, 0x0, 1⟩,
    ⟨0xa0011c, 0x0, 1, 0x0, 1⟩, ⟨0xa00118, 0x0, 1, 0x0, 1⟩, ⟨0xa02020, 0x100, 8, 0x0, 1⟩, ⟨0x100, 0x0, 1, 0x0, 1⟩,
    ⟨0x100004, 0x0, 1, 0x0, 1⟩, ⟨0x700000, 0x0, 1, 0x0, 1⟩, ⟨0x700300, 0x8, 10, 0x0, 1⟩, ⟨0x200010, 0x0, 1, 0x0, 1⟩,
    ⟨0x200128, 0x0, 1, 0x0, 1⟩, ⟨0x200024, 0x0, 1, 0x0, 1⟩, ⟨0x200014, 0x0, 1, 0x0, 1⟩, ⟨0x200100, 0x8, 11, 0x0, 1⟩,
    ⟨0x201004, 0x100, 8, 0x0, 1⟩, ⟨0x201008, 0x100, 8, 0x0, 1⟩, ⟨0x201028, 0x100, 8, 0x0, 1⟩, ⟨0x2010b0, 0x100, 8, 0x0, 1⟩]
def families1 : List RegSet :=
  [⟨0x200504, 0x8, 4, 0x0, 1⟩, ⟨0x2010b8, 0x100, 8, 0x0, 1⟩, ⟨0x201038, 0x100, 8, 0x0, 1⟩, ⟨0x201098, 0x100, 8, 0x0, 1⟩,
    ⟨0x2010a0, 0x100, 8, 0x0, 1⟩, ⟨0x201090, 0x100, 8, 0x0, 1⟩, ⟨0x2010c8, 0x100, 8, 0x0, 1⟩, ⟨0x200400, 0x10, 8, 0x0, 1⟩,
    ⟨0x2010a8, 0x100, 8, 0x0, 1⟩, ⟨0x201080, 0x100, 8, 0x0, 1⟩, ⟨0x201088, 0x100, 8, 0x0, 1⟩, ⟨0x201040, 0x100, 8, 0x0, 1⟩,
    ⟨0x201044, 0x100, 8, 0x0, 1⟩, ⟨0x200038, 0x0, 1, 0x0, 1⟩, ⟨0x200000, 0x0, 1, 0x0, 1⟩, ⟨0x2004040, 0x10000, 256, 0x0, 1⟩,
    ⟨0x300010, 0x0, 1, 0x0, 1⟩, ⟨0x300014, 0x0, 1, 0x0, 1⟩, ⟨0x300024, 0x0, 1, 0x0, 1⟩, ⟨0x300028, 0x0, 1, 0x0, 1⟩,
    ⟨0x300020, 0x0, 1, 0x0, 1⟩, ⟨0x300108, 0x0, 1, 0x0, 1⟩, ⟨0x300110, 0x0, 1, 0x0, 1⟩, ⟨0x300100, 0x0, 1, 0x0, 1⟩,
    ⟨0x301004, 0x20, 11, 0x0, 1⟩, ⟨0x300128, 0x0, 1, 0x0, 1⟩, ⟨0x30100c, 0x20, 11, 0x0, 1⟩, ⟨0x300118, 0x0, 1, 0x0, 1⟩,
    ⟨0x301008, 0x20, 11, 0x0, 1⟩, ⟨0x300120, 0x0, 1, 0x0, 1⟩, ⟨0x300130, 0x0, 1, 0x0, 1⟩, ⟨0x410008, 0x80, 229, 0x0, 1⟩,
    ⟨0x410000, 0x80, 229, 0x0, 1⟩, ⟨0x410004, 0x80, 229, 0x0, 1⟩, ⟨0x400010, 0x4, 5, 0x0, 1⟩, ⟨0x410010, 0x80, 229, 0x0, 1⟩,
    ⟨0x410040, 0x80, 229, 0x0, 1⟩, ⟨0x410048, 0x80, 229, 0x0, 1⟩, ⟨0x410070, 0x80, 229, 0x0, 1⟩, ⟨0x41000c, 0x80, 229, 0x0, 1⟩]
def families2 : List RegSet :=
  [⟨0x410020, 0x80, 229, 0x4, 4⟩, ⟨0x400100, 0x20, 5, 0x0, 1⟩, ⟨0x400108, 0x20, 5, 0x0, 1⟩, ⟨0x410060, 0x80, 229, 0x0, 1⟩,
    ⟨0x417204, 0x0, 1, 0x0, 1⟩, ⟨0x400020, 0x0, 1, 0x0, 1⟩, ⟨0x500180, 0x0, 1, 0x0, 1⟩, ⟨0x410058, 0x80, 229, 0x0, 1⟩,
    ⟨0x410050, 0x80, 229, 0x0, 1⟩, ⟨0x500100, 0x4, 32, 0x0, 1⟩, ⟨0x501028, 0x40, 32, 0x0, 1⟩, ⟨0x501030, 0x40, 32, 0x0, 1⟩,
    ⟨0x502008, 0x10, 8, 0x0, 1⟩, ⟨0x502004, 0x10, 8, 0x0, 1⟩, ⟨0x502000, 0x10, 8, 0x0, 1⟩, ⟨0x3000020, 0x4000, 256, 0x0, 1⟩,
    ⟨0x3000128, 0x4000, 256, 0x0, 1⟩, ⟨0x300000c, 0x4000, 256, 0x0, 1⟩, ⟨0x1000210, 0x400000, 4, 0x0, 1⟩, ⟨0x1000468, 0x400000, 4, 0x0, 1⟩,
    ⟨0x1000438, 0x400000, 4, 0x0, 1⟩, ⟨0x1000430, 0x400000, 4, 0x0, 1⟩, ⟨0x1000440, 0x400000, 4, 0x0, 1⟩, ⟨0x1000418, 0x400000, 4, 0x0, 1⟩,
    ⟨0x1000408, 0x400000, 4, 0x0, 1⟩, ⟨0x1000410, 0x400000, 4, 0x0, 1⟩, ⟨0x1000400, 0x400000, 4, 0x0, 1⟩, ⟨0x1000420, 0x400000, 4, 0x0, 1⟩,
    ⟨0x1000428, 0x400000, 4, 0x0, 1⟩, ⟨0x3400004, 0x1000, 4, 0x0, 1⟩, ⟨0x3400010, 0x1000, 4, 0x0, 1⟩, ⟨0x3400014, 0x1000, 4, 0x0, 1⟩,
    ⟨0x3400018, 0x1000, 4, 0x0, 1⟩, ⟨0x3400040, 0x1000, 4, 0x4, 16⟩, ⟨0x1000218, 0x400000, 4, 0x0, 1⟩, ⟨0x1000214, 0x400000, 4, 0x0, 1⟩,
    ⟨0x800020, 0x4, 5, 0x0, 1⟩, ⟨0x800040, 0x4, 5, 0x0, 1⟩, ⟨0x800118, 0x0, 1, 0x0, 1⟩, ⟨0x800064, 0x0, 1, 0x0, 1⟩]
def families3 : List RegSet :=
  [⟨0x800100, 0x8, 14, 0x0, 1⟩, ⟨0x2000280, 0x10000, 256, 0x0, 1⟩, ⟨0x800110, 0x0, 1, 0x0, 1⟩, ⟨0x800060, 0x0, 1, 0x0, 1⟩,
    ⟨0x200101c, 0x10000, 256, 0x0, 1⟩, ⟨0x2001020, 0x10000, 256, 0x0, 1⟩, ⟨0x2000338, 0x10000, 256, 0x0, 1⟩, ⟨0x2000348, 0x10000, 256, 0x0, 1⟩,
    ⟨0x2000320, 0x10000, 256, 0x0, 1⟩, ⟨0x2000328, 0x10000, 256, 0x0, 1⟩, ⟨0x2000330, 0x10000, 256, 0x0, 1⟩, ⟨0x900300, 0x8, 8, 0x0, 1⟩,
    ⟨0x2000288, 0x10000, 256, 0x0, 1⟩, ⟨0x2000298, 0x10000, 256, 0x0, 1⟩, ⟨0x2000290, 0x10000, 256, 0x0, 1⟩, ⟨0x1000470, 0x400000, 4, 0x0, 1⟩,
    ⟨0x20002b0, 0x10000, 256, 0x0, 1⟩, ⟨0x900204, 0x0, 1, 0x0, 1⟩, ⟨0x900208, 0x0, 1, 0x0, 1⟩, ⟨0x900044, 0x0, 1, 0x0, 1⟩,
    ⟨0x900048, 0x0, 1, 0x0, 1⟩, ⟨0x800150, 0x0, 1, 0x0, 1⟩, ⟨0x800160, 0x0, 1, 0x0, 1⟩, ⟨0x800158, 0x0, 1, 0x0, 1⟩,
    ⟨0x900010, 0x4, 4, 0x0, 1⟩, ⟨0x900128, 0x0, 1, 0x0, 1⟩, ⟨0x20002b8, 0x10000, 256, 0x0, 1⟩, ⟨0x900100, 0x8, 10, 0x0, 1⟩,
    ⟨0x900100, 0x0, 1, 0x0, 1⟩, ⟨0x900130, 0x0, 1, 0x0, 1⟩, ⟨0x900148, 0x0, 1, 0x0, 1⟩, ⟨0x800140, 0x0, 1, 0x0, 1⟩,
    ⟨0x800094, 0x0, 1, 0x0, 1⟩, ⟨0x2001118, 0x10000, 256, 0x0, 1⟩, ⟨0x200111c, 0x10000, 256, 0x0, 1⟩, ⟨0x2001004, 0x10000, 256, 0x0, 1⟩,
    ⟨0x2000350, 0x10000, 256, 0x0, 1⟩, ⟨0x2000200, 0x10000, 256, 0x0, 1⟩, ⟨0x2000208, 0x10000, 256, 0x0, 1⟩, ⟨0x2000358, 0x10000, 256, 0x0, 1⟩]
def families4 : List RegSet :=
  [⟨0x2000300, 0x10000, 256, 0x0, 1⟩, ⟨0x2000308, 0x10000, 256, 0x0, 1⟩, ⟨0x2000360, 0x10000, 256, 0x0, 1⟩, ⟨0x2000368, 0x10000, 256, 0x0, 1⟩,
    ⟨0x2000370, 0x10000, 256, 0x0, 1⟩, ⟨0x2000378, 0x10000, 256, 0x0, 1⟩, ⟨0x2000340, 0x10000, 256, 0x0, 1⟩, ⟨0x2000300, 0x10000, 256, 0x8, 16⟩,
    ⟨0x918, 0x0, 1, 0x0, 1⟩, ⟨0x850, 0x0, 1, 0x0, 1⟩, ⟨0x910, 0x0, 1, 0x0, 1⟩, ⟨0x2004170, 0x10000, 256, 0x0, 1⟩,
    ⟨0x2004130, 0x10000, 256, 0x0, 1⟩, ⟨0x2004044, 0x10000, 256, 0x0, 1⟩, ⟨0x2004100, 0x10000, 256, 0x8, 16⟩, ⟨0x2004140, 0x10000, 256, 0x0, 1⟩,
    ⟨0x2004138, 0x10000, 256, 0x0, 1⟩, ⟨0x2004050, 0x10000, 256, 0x0, 1⟩, ⟨0x2004054, 0x10000, 256, 0x0, 1⟩, ⟨0x2004150, 0x10000, 256, 0x0, 1⟩,
    ⟨0x2004148, 0x10000, 256, 0x0, 1⟩, ⟨0x2004058, 0x10000, 256, 0x0, 1⟩, ⟨0x200405c, 0x10000, 256, 0x0, 1⟩, ⟨0x2004120, 0x10000, 256, 0x0, 1⟩,
    ⟨0x2004128, 0x10000, 256, 0x0, 1⟩, ⟨0x2004060, 0x10000, 256, 0x0, 1⟩, ⟨0x2004178, 0x10000, 256, 0x0, 1⟩, ⟨0x2004168, 0x10000, 256, 0x0, 1⟩,
    ⟨0x2004158, 0x10000, 256, 0x0, 1⟩, ⟨0x2004160, 0x10000, 256, 0x0, 1⟩, ⟨0x2004000, 0x10000, 256, 0x0, 1⟩, ⟨0x201000, 0x100, 8, 0x0, 1⟩,
    ⟨0x1000478, 0x400000, 4, 0x0, 1⟩, ⟨0x1000458, 0x400000, 4, 0x0, 1⟩, ⟨0x1000460, 0x400000, 4, 0x0, 1⟩, ⟨0x1000450, 0x400000, 4, 0x0, 1⟩,
    ⟨0x1000448, 0x400000, 4, 0x0, 1⟩, ⟨0x2000230, 0x10000, 256, 0x0, 1⟩, ⟨0x2000228, 0x10000, 256, 0x0, 1⟩, ⟨0x2000218, 0x10000, 256, 0x0, 1⟩]
def families5 : List RegSet :=
  [⟨0x2000220, 0x10000, 256, 0x0, 1⟩, ⟨0x2000210, 0x10000, 256, 0x0, 1⟩, ⟨0x2000000, 0x10000, 256, 0x0, 1⟩, ⟨0x3000008, 0x4000, 256, 0x0, 1⟩,
    ⟨0x3000010, 0x4000, 256, 0x0, 1⟩, ⟨0x3000158, 0x4000, 256, 0x0, 1⟩, ⟨0x3000110, 0x4000, 256, 0x0, 1⟩, ⟨0x3000120, 0x4000, 256, 0x0, 1⟩,
    ⟨0x3000118, 0x4000, 256, 0x0, 1⟩, ⟨0x3000138, 0x4000, 256, 0x0, 1⟩, ⟨0x3000130, 0x4000, 256, 0x0, 1⟩, ⟨0x3000004, 0x4000, 256, 0x0, 1⟩,
    ⟨0x3000108, 0x4000, 256, 0x0, 1⟩, ⟨0xa02024, 0x100, 8, 0x0, 1⟩, ⟨0xa02098, 0x100, 8, 0x0, 1⟩, ⟨0xa02080, 0x100, 8, 0x0, 1⟩,
    ⟨0xa02090, 0x100, 8, 0x0, 1⟩, ⟨0xa02088, 0x100, 8, 0x0, 1⟩, ⟨0x400048, 0x0, 1, 0x0, 1⟩, ⟨0x1000204, 0x400000, 4, 0x0, 1⟩,
    ⟨0x1000208, 0x400000, 4, 0x0, 1⟩, ⟨0x1000200, 0x400000, 4, 0x0, 1⟩, ⟨0x1000220, 0x400000, 4, 0x0, 1⟩, ⟨0x108, 0x0, 1, 0x0, 1⟩,
    ⟨0x100020, 0x0, 1, 0x0, 1⟩, ⟨0x3000000, 0x4000, 256, 0x0, 1⟩, ⟨0x2004030, 0x10000, 256, 0x0, 1⟩, ⟨0x2004018, 0x10000, 256, 0x0, 1⟩,
    ⟨0x2001014, 0x10000, 256, 0x0, 1⟩, ⟨0x2001018, 0x10000, 256, 0x0, 1⟩, ⟨0x2001000, 0x10000, 256, 0x0, 1⟩, ⟨0x2001010, 0x10000, 256, 0x0, 1⟩,
    ⟨0x800000, 0x4, 5, 0x0, 1⟩, ⟨0x900000, 0x0, 1, 0x0, 1⟩, ⟨0xa01000, 0x100, 8, 0x0, 1⟩, ⟨0xa01004, 0x100, 8, 0x0, 1⟩,
    ⟨0xa01008, 0x100, 8, 0x0, 1⟩, ⟨0xa02008, 0x100, 8, 0x0, 1⟩, ⟨0x200008, 0x0, 1, 0x0, 1⟩, ⟨0x20100c, 0x100, 8, 0x0, 1⟩]
def families6 : List RegSet :=
  [⟨0x201010, 0x100, 8, 0x0, 1⟩, ⟨0x201014, 0x100, 8, 0x0, 1⟩, ⟨0x201018, 0x100, 8, 0x0, 1⟩, ⟨0x300000, 0x0, 1, 0x0, 1⟩,
    ⟨0x300004, 0x0, 1, 0x0, 1⟩, ⟨0x301000, 0x20, 11, 0x0, 1⟩, ⟨0x120, 0x0, 1, 0x0, 1⟩, ⟨0x100040, 0x8, 4, 0x0, 1⟩,
    ⟨0x100044, 0x8, 4, 0x0, 1⟩, ⟨0x100030, 0x0, 1, 0x0, 1⟩, ⟨0x100034, 0x0, 1, 0x0, 1⟩, ⟨0x100008, 0x0, 1, 0x0, 1⟩,
    ⟨0x10000c, 0x0, 1, 0x0, 1⟩, ⟨0x50c, 0x0, 1, 0x0, 1⟩, ⟨0x114, 0x0, 1, 0x0, 1⟩, ⟨0x700010, 0x0, 1, 0x0, 1⟩,
    ⟨0x701020, 0x40, 8, 0x0, 1⟩, ⟨0x701010, 0x40, 8, 0x0, 1⟩, ⟨0x701024, 0x40, 8, 0x0, 1⟩, ⟨0x700108, 0x10, 9, 0x0, 1⟩,
    ⟨0x700200, 0x4, 9, 0x0, 1⟩, ⟨0x20002a8, 0x10000, 256, 0x0, 1⟩, ⟨0x800168, 0x0, 1, 0x0, 1⟩, ⟨0x8000, 0x10, 64, 0x4, 4⟩,
    ⟨0x928, 0x0, 1, 0x0, 1⟩, ⟨0x600000, 0x4, 4, 0x0, 1⟩, ⟨0x80c, 0x0, 1, 0x0, 1⟩, ⟨0x810, 0x0, 1, 0x0, 1⟩,
    ⟨0x900, 0x8, 6, 0x0, 1⟩, ⟨0xb00100, 0x4, 64, 0x0, 1⟩, ⟨0x404, 0x10, 4, 0x0, 1⟩, ⟨0x508, 0x0, 1, 0x0, 1⟩,
    ⟨0x600, 0x4, 64, 0x0, 1⟩, ⟨0x700, 0x0, 1, 0x0, 1⟩, ⟨0xb00510, 0x0, 1, 0x0, 1⟩, ⟨0xb00514, 0x0, 1, 0x0, 1⟩,
    ⟨0x2001040, 0x10000, 256, 0x4, 8⟩, ⟨0x200118, 0x0, 1, 0x0, 1⟩, ⟨0x200120, 0x0, 1, 0x0, 1⟩, ⟨0x2010c0, 0x100, 8, 0x0, 1⟩]
def families7 : List RegSet :=
  [⟨0x200004, 0x0, 1, 0x0, 1⟩, ⟨0x200028, 0x0, 1, 0x0, 1⟩, ⟨0x200130, 0x0, 1, 0x0, 1⟩, ⟨0x200138, 0x0, 1, 0x0, 1⟩,
    ⟨0x200480, 0x0, 1, 0x0, 1⟩, ⟨0x200140, 0x0, 1, 0x0, 1⟩, ⟨0x300138, 0x0, 1, 0x0, 1⟩, ⟨0x400118, 0x20, 5, 0x0, 1⟩,
    ⟨0x400110, 0x20, 5, 0x0, 1⟩, ⟨0x40010c, 0x20, 5, 0x0, 1⟩, ⟨0x410068, 0x80, 229, 0x0, 1⟩, ⟨0x400030, 0x4, 4, 0x0, 1⟩,
    ⟨0x502100, 0x0, 1, 0x0, 1⟩, ⟨0x20002a0, 0x10000, 256, 0x0, 1⟩, ⟨0x900138, 0x0, 1, 0x0, 1⟩, ⟨0x900140, 0x0, 1, 0x0, 1⟩,
    ⟨0x20002c0, 0x10000, 256, 0x0, 1⟩, ⟨0x800148, 0x0, 1, 0x0, 1⟩, ⟨0x800090, 0x0, 1, 0x0, 1⟩, ⟨0x3000160, 0x4000, 256, 0x0, 1⟩,
    ⟨0x3000168, 0x4000, 256, 0x0, 1⟩, ⟨0x3000100, 0x4000, 256, 0x0, 1⟩, ⟨0x3000178, 0x4000, 256, 0x0, 1⟩, ⟨0x124, 0x0, 1, 0x0, 1⟩,
    ⟨0x700100, 0x10, 9, 0x0, 1⟩, ⟨0x700240, 0x4, 9, 0x0, 1⟩, ⟨0xa00, 0x0, 1, 0x0, 1⟩, ⟨0xa04, 0x0, 1, 0x0, 1⟩,
    ⟨0xa08, 0x0, 1, 0x0, 1⟩, ⟨0xa02000, 0x1, 1024, 0x0, 1⟩, ⟨0xa00100, 0x1, 32, 0x0, 1⟩, ⟨0x8000, 0x1, 8192, 0x0, 1⟩,
    ⟨0x2004038, 0x10000, 256, 0x0, 1⟩, ⟨0x2004034, 0x10000, 256, 0x0, 1⟩, ⟨0x920, 0x0, 1, 0x0, 1⟩, ⟨0xa14, 0x0, 1, 0x0, 1⟩,
    ⟨0x1000400, 0x400000, 4, 0x8, 16⟩, ⟨0xf0, 0x0, 1, 0x0, 1⟩, ⟨0xf4, 0x0, 1, 0x0, 1⟩, ⟨0x1000f0, 0x0, 1, 0x0, 1⟩]
def families8 : List RegSet :=
  [⟨0x1000f4, 0x0, 1, 0x0, 1⟩, ⟨0x2000f0, 0x0, 1, 0x0, 1⟩, ⟨0x2000f4, 0x0, 1, 0x0, 1⟩, ⟨0x3000f0, 0x0, 1, 0x0, 1⟩,
    ⟨0x3000f4, 0x0, 1, 0x0, 1⟩, ⟨0x4000f0, 0x0, 1, 0x0, 1⟩, ⟨0x4000f4, 0x0, 1, 0x0, 1⟩, ⟨0x5000f0, 0x0, 1, 0x0, 1⟩,
    ⟨0x5000f4, 0x0, 1, 0x0, 1⟩, ⟨0x6000f0, 0x0, 1, 0x0, 1⟩, ⟨0x6000f4, 0x0, 1, 0x0, 1⟩, ⟨0x7000f0, 0x0, 1, 0x0, 1⟩,
    ⟨0x7000f4, 0x0, 1, 0x0, 1⟩, ⟨0x8000f0, 0x0, 1, 0x0, 1⟩, ⟨0x8000f4, 0x0, 1, 0x0, 1⟩, ⟨0x9000f0, 0x0, 1, 0x0, 1⟩,
    ⟨0x9000f4, 0x0, 1, 0x0, 1⟩, ⟨0xa000f0, 0x0, 1, 0x0, 1⟩, ⟨0xa000f4, 0x0, 1, 0x0, 1⟩, ⟨0xb000f0, 0x0, 1, 0x0, 1⟩,
    ⟨0xb000f4, 0x0, 1, 0x0, 1⟩, ⟨0x10000f0, 0x400000, 4, 0x0, 1⟩, ⟨0x10000f4, 0x400000, 4, 0x0, 1⟩, ⟨0x20000f0, 0x10000, 256, 0x0, 1⟩,
    ⟨0x20000f4, 0x10000, 256, 0x0, 1⟩, ⟨0x30000f0, 0x4000, 256, 0x0, 1⟩, ⟨0x30000f4, 0x4000, 256, 0x0, 1⟩, ⟨0x34000f0, 0x1000, 4, 0x0, 1⟩,
    ⟨0x34000f4, 0x1000, 4, 0x0, 1⟩]

/-- The families by number. -/
def families : List RegSet := families0 ++ families1 ++ families2 ++ families3 ++ families4 ++ families5 ++ families6 ++ families7 ++ families8

theorem Reg.DEV_IRQ_STATUS_has : RegSet.Has ⟨0x200, 0x0, 1, 0x0, 1⟩ Reg.DEV_IRQ_STATUS :=
  RegSet.has_of 0 0 (by omega) (by omega) (by unfold Reg.DEV_IRQ_STATUS; omega)
theorem Reg.SP_PEND_has : RegSet.Has ⟨0x600040, 0x0, 1, 0x0, 1⟩ Reg.SP_PEND :=
  RegSet.has_of 0 0 (by omega) (by omega) (by unfold Reg.SP_PEND; omega)
theorem Reg.SP_LOST_CNT_has (s : Nat) : RegSet.Has ⟨0x600100, 0x8, 29, 0x0, 1⟩ (Reg.SP_LOST_CNT s) :=
  RegSet.has_of (s % 29) 0 (by omega) (by omega) (by unfold Reg.SP_LOST_CNT; omega)
theorem Reg.PF_CNT_has (n : Nat) : RegSet.Has ⟨0xb00200, 0x8, 64, 0x0, 1⟩ (Reg.PF_CNT n) :=
  RegSet.has_of (n % 64) 0 (by omega) (by omega) (by unfold Reg.PF_CNT; omega)
theorem Reg.DEV_FATAL_has : RegSet.Has ⟨0x130, 0x0, 1, 0x0, 1⟩ Reg.DEV_FATAL :=
  RegSet.has_of 0 0 (by omega) (by omega) (by unfold Reg.DEV_FATAL; omega)
theorem Reg.ST_ENG_RESULT_has (k : Nat) : RegSet.Has ⟨0x70101c, 0x40, 8, 0x0, 1⟩ (Reg.ST_ENG_RESULT k) :=
  RegSet.has_of (k % 8) 0 (by omega) (by omega) (by unfold Reg.ST_ENG_RESULT; omega)
theorem Reg.ST_ENG_FLAGS_has (k : Nat) : RegSet.Has ⟨0x701028, 0x40, 8, 0x0, 1⟩ (Reg.ST_ENG_FLAGS k) :=
  RegSet.has_of (k % 8) 0 (by omega) (by omega) (by unfold Reg.ST_ENG_FLAGS; omega)
theorem Reg.CD_RING_STATUS_has (n : Nat) : RegSet.Has ⟨0xa01018, 0x100, 8, 0x0, 1⟩ (Reg.CD_RING_STATUS n) :=
  RegSet.has_of (n % 8) 0 (by omega) (by omega) (by unfold Reg.CD_RING_STATUS; omega)
theorem Reg.CD_RING_CNT_has_0 (n : Nat) : RegSet.Has ⟨0xa01080, 0x100, 8, 0x0, 1⟩ (Reg.CD_RING_CNT n 0) :=
  RegSet.has_of (n % 8) 0 (by omega) (by omega) (by unfold Reg.CD_RING_CNT; omega)
theorem Reg.CD_RING_CNT_has_1 (n : Nat) : RegSet.Has ⟨0xa01088, 0x100, 8, 0x0, 1⟩ (Reg.CD_RING_CNT n 1) :=
  RegSet.has_of (n % 8) 0 (by omega) (by omega) (by unfold Reg.CD_RING_CNT; omega)
theorem Reg.CD_RING_CNT_has (n k : Nat) : RegSet.Has ⟨0xa01080, 0x100, 8, 0x8, 8⟩ (Reg.CD_RING_CNT n k) :=
  RegSet.has_of (n % 8) (k % 8) (by omega) (by omega) (by unfold Reg.CD_RING_CNT; omega)
theorem Reg.CD_RING_RANGE_has (n : Nat) : RegSet.Has ⟨0xa01030, 0x100, 8, 0x0, 1⟩ (Reg.CD_RING_RANGE n) :=
  RegSet.has_of (n % 8) 0 (by omega) (by omega) (by unfold Reg.CD_RING_RANGE; omega)
theorem Reg.CD_RING_FIRST_RSEQ_has (n : Nat) : RegSet.Has ⟨0xa01034, 0x100, 8, 0x0, 1⟩ (Reg.CD_RING_FIRST_RSEQ n) :=
  RegSet.has_of (n % 8) 0 (by omega) (by omega) (by unfold Reg.CD_RING_FIRST_RSEQ; omega)
theorem Reg.CD_RING_LAST_RSEQ_has (n : Nat) : RegSet.Has ⟨0xa01038, 0x100, 8, 0x0, 1⟩ (Reg.CD_RING_LAST_RSEQ n) :=
  RegSet.has_of (n % 8) 0 (by omega) (by omega) (by unfold Reg.CD_RING_LAST_RSEQ; omega)
theorem Reg.CD_RING_TRIG_NS_has (n : Nat) : RegSet.Has ⟨0xa01020, 0x100, 8, 0x0, 1⟩ (Reg.CD_RING_TRIG_NS n) :=
  RegSet.has_of (n % 8) 0 (by omega) (by omega) (by unfold Reg.CD_RING_TRIG_NS; omega)
theorem Reg.CD_RING_TRIG_FRAC_has (n : Nat) : RegSet.Has ⟨0xa01024, 0x100, 8, 0x0, 1⟩ (Reg.CD_RING_TRIG_FRAC n) :=
  RegSet.has_of (n % 8) 0 (by omega) (by omega) (by unfold Reg.CD_RING_TRIG_FRAC; omega)
theorem Reg.CD_RING_TRIG_S_LO_has (n : Nat) : RegSet.Has ⟨0xa01028, 0x100, 8, 0x0, 1⟩ (Reg.CD_RING_TRIG_S_LO n) :=
  RegSet.has_of (n % 8) 0 (by omega) (by omega) (by unfold Reg.CD_RING_TRIG_S_LO; omega)
theorem Reg.CD_RING_TRIG_S_HI_has (n : Nat) : RegSet.Has ⟨0xa0102c, 0x100, 8, 0x0, 1⟩ (Reg.CD_RING_TRIG_S_HI n) :=
  RegSet.has_of (n % 8) 0 (by omega) (by omega) (by unfold Reg.CD_RING_TRIG_S_HI; omega)
theorem Reg.CD_RING_TRIG_INFO_has (n : Nat) : RegSet.Has ⟨0xa0101c, 0x100, 8, 0x0, 1⟩ (Reg.CD_RING_TRIG_INFO n) :=
  RegSet.has_of (n % 8) 0 (by omega) (by omega) (by unfold Reg.CD_RING_TRIG_INFO; omega)
theorem Reg.CD_RING_CNT_has_5 (n : Nat) : RegSet.Has ⟨0xa010a8, 0x100, 8, 0x0, 1⟩ (Reg.CD_RING_CNT n 5) :=
  RegSet.has_of (n % 8) 0 (by omega) (by omega) (by unfold Reg.CD_RING_CNT; omega)
theorem Reg.CD_RING_CNT_has_6 (n : Nat) : RegSet.Has ⟨0xa010b0, 0x100, 8, 0x0, 1⟩ (Reg.CD_RING_CNT n 6) :=
  RegSet.has_of (n % 8) 0 (by omega) (by omega) (by unfold Reg.CD_RING_CNT; omega)
theorem Reg.CD_RING_CNT_has_4 (n : Nat) : RegSet.Has ⟨0xa010a0, 0x100, 8, 0x0, 1⟩ (Reg.CD_RING_CNT n 4) :=
  RegSet.has_of (n % 8) 0 (by omega) (by omega) (by unfold Reg.CD_RING_CNT; omega)
theorem Reg.CD_RING_CNT_has_7 (n : Nat) : RegSet.Has ⟨0xa010b8, 0x100, 8, 0x0, 1⟩ (Reg.CD_RING_CNT n 7) :=
  RegSet.has_of (n % 8) 0 (by omega) (by omega) (by unfold Reg.CD_RING_CNT; omega)
theorem Reg.CD_RD_BAD_has : RegSet.Has ⟨0xa0011c, 0x0, 1, 0x0, 1⟩ Reg.CD_RD_BAD :=
  RegSet.has_of 0 0 (by omega) (by omega) (by unfold Reg.CD_RD_BAD; omega)
theorem Reg.CD_RD_STATUS_has : RegSet.Has ⟨0xa00118, 0x0, 1, 0x0, 1⟩ Reg.CD_RD_STATUS :=
  RegSet.has_of 0 0 (by omega) (by omega) (by unfold Reg.CD_RD_STATUS; omega)
theorem Reg.CD_RP_STATUS_has (r : Nat) : RegSet.Has ⟨0xa02020, 0x100, 8, 0x0, 1⟩ (Reg.CD_RP_STATUS r) :=
  RegSet.has_of (r % 8) 0 (by omega) (by omega) (by unfold Reg.CD_RP_STATUS; omega)
theorem Reg.DEV_MODE_has : RegSet.Has ⟨0x100, 0x0, 1, 0x0, 1⟩ Reg.DEV_MODE :=
  RegSet.has_of 0 0 (by omega) (by omega) (by unfold Reg.DEV_MODE; omega)
theorem Reg.IMG_STATUS_has : RegSet.Has ⟨0x100004, 0x0, 1, 0x0, 1⟩ Reg.IMG_STATUS :=
  RegSet.has_of 0 0 (by omega) (by omega) (by unfold Reg.IMG_STATUS; omega)
theorem Reg.ST_HEALTH_has : RegSet.Has ⟨0x700000, 0x0, 1, 0x0, 1⟩ Reg.ST_HEALTH :=
  RegSet.has_of 0 0 (by omega) (by omega) (by unfold Reg.ST_HEALTH; omega)
theorem Reg.ST_WD_CNT_has (n : Nat) : RegSet.Has ⟨0x700300, 0x8, 10, 0x0, 1⟩ (Reg.ST_WD_CNT n) :=
  RegSet.has_of (n % 10) 0 (by omega) (by omega) (by unfold Reg.ST_WD_CNT; omega)
theorem Reg.KT_CH_STATUS_has : RegSet.Has ⟨0x200010, 0x0, 1, 0x0, 1⟩ Reg.KT_CH_STATUS :=
  RegSet.has_of 0 0 (by omega) (by omega) (by unfold Reg.KT_CH_STATUS; omega)
theorem Reg.KT_CNT_has_5 : RegSet.Has ⟨0x200128, 0x0, 1, 0x0, 1⟩ (Reg.KT_CNT 5) :=
  RegSet.has_of 0 0 (by omega) (by omega) (by unfold Reg.KT_CNT; omega)
theorem Reg.KT_FHT_STATUS_has : RegSet.Has ⟨0x200024, 0x0, 1, 0x0, 1⟩ Reg.KT_FHT_STATUS :=
  RegSet.has_of 0 0 (by omega) (by omega) (by unfold Reg.KT_FHT_STATUS; omega)
theorem Reg.KT_CH_FLAGS_has : RegSet.Has ⟨0x200014, 0x0, 1, 0x0, 1⟩ Reg.KT_CH_FLAGS :=
  RegSet.has_of 0 0 (by omega) (by omega) (by unfold Reg.KT_CH_FLAGS; omega)
theorem Reg.KT_CNT_has (n : Nat) : RegSet.Has ⟨0x200100, 0x8, 11, 0x0, 1⟩ (Reg.KT_CNT n) :=
  RegSet.has_of (n % 11) 0 (by omega) (by omega) (by unfold Reg.KT_CNT; omega)
theorem Reg.KT_DOM_STATUS_has (d : Nat) : RegSet.Has ⟨0x201004, 0x100, 8, 0x0, 1⟩ (Reg.KT_DOM_STATUS d) :=
  RegSet.has_of (d % 8) 0 (by omega) (by omega) (by unfold Reg.KT_DOM_STATUS; omega)
theorem Reg.KT_DOM_FLAGS_has (d : Nat) : RegSet.Has ⟨0x201008, 0x100, 8, 0x0, 1⟩ (Reg.KT_DOM_FLAGS d) :=
  RegSet.has_of (d % 8) 0 (by omega) (by omega) (by unfold Reg.KT_DOM_FLAGS; omega)
theorem Reg.KT_FREQ_has (d : Nat) : RegSet.Has ⟨0x201028, 0x100, 8, 0x0, 1⟩ (Reg.KT_FREQ d) :=
  RegSet.has_of (d % 8) 0 (by omega) (by omega) (by unfold Reg.KT_FREQ; omega)
theorem Reg.KT_DOM_CNT_has_6 (d : Nat) : RegSet.Has ⟨0x2010b0, 0x100, 8, 0x0, 1⟩ (Reg.KT_DOM_CNT d 6) :=
  RegSet.has_of (d % 8) 0 (by omega) (by omega) (by unfold Reg.KT_DOM_CNT; omega)
theorem Reg.KT_PAIR_STATUS_has (k : Nat) : RegSet.Has ⟨0x200504, 0x8, 4, 0x0, 1⟩ (Reg.KT_PAIR_STATUS k) :=
  RegSet.has_of (k % 4) 0 (by omega) (by omega) (by unfold Reg.KT_PAIR_STATUS; omega)
theorem Reg.KT_DOM_CNT_has_7 (d : Nat) : RegSet.Has ⟨0x2010b8, 0x100, 8, 0x0, 1⟩ (Reg.KT_DOM_CNT d 7) :=
  RegSet.has_of (d % 8) 0 (by omega) (by omega) (by unfold Reg.KT_DOM_CNT; omega)
theorem Reg.KT_OFS_CREDIT_has (d : Nat) : RegSet.Has ⟨0x201038, 0x100, 8, 0x0, 1⟩ (Reg.KT_OFS_CREDIT d) :=
  RegSet.has_of (d % 8) 0 (by omega) (by omega) (by unfold Reg.KT_OFS_CREDIT; omega)
theorem Reg.KT_DOM_CNT_has_3 (d : Nat) : RegSet.Has ⟨0x201098, 0x100, 8, 0x0, 1⟩ (Reg.KT_DOM_CNT d 3) :=
  RegSet.has_of (d % 8) 0 (by omega) (by omega) (by unfold Reg.KT_DOM_CNT; omega)
theorem Reg.KT_DOM_CNT_has_4 (d : Nat) : RegSet.Has ⟨0x2010a0, 0x100, 8, 0x0, 1⟩ (Reg.KT_DOM_CNT d 4) :=
  RegSet.has_of (d % 8) 0 (by omega) (by omega) (by unfold Reg.KT_DOM_CNT; omega)
theorem Reg.KT_DOM_CNT_has_2 (d : Nat) : RegSet.Has ⟨0x201090, 0x100, 8, 0x0, 1⟩ (Reg.KT_DOM_CNT d 2) :=
  RegSet.has_of (d % 8) 0 (by omega) (by omega) (by unfold Reg.KT_DOM_CNT; omega)
theorem Reg.KT_DOM_CNT_has_9 (d : Nat) : RegSet.Has ⟨0x2010c8, 0x100, 8, 0x0, 1⟩ (Reg.KT_DOM_CNT d 9) :=
  RegSet.has_of (d % 8) 0 (by omega) (by omega) (by unfold Reg.KT_DOM_CNT; omega)
theorem Reg.KT_ALM_CFG_has (n : Nat) : RegSet.Has ⟨0x200400, 0x10, 8, 0x0, 1⟩ (Reg.KT_ALM_CFG n) :=
  RegSet.has_of (n % 8) 0 (by omega) (by omega) (by unfold Reg.KT_ALM_CFG; omega)
theorem Reg.KT_DOM_CNT_has_5 (d : Nat) : RegSet.Has ⟨0x2010a8, 0x100, 8, 0x0, 1⟩ (Reg.KT_DOM_CNT d 5) :=
  RegSet.has_of (d % 8) 0 (by omega) (by omega) (by unfold Reg.KT_DOM_CNT; omega)
theorem Reg.KT_DOM_CNT_has_0 (d : Nat) : RegSet.Has ⟨0x201080, 0x100, 8, 0x0, 1⟩ (Reg.KT_DOM_CNT d 0) :=
  RegSet.has_of (d % 8) 0 (by omega) (by omega) (by unfold Reg.KT_DOM_CNT; omega)
theorem Reg.KT_DOM_CNT_has_1 (d : Nat) : RegSet.Has ⟨0x201088, 0x100, 8, 0x0, 1⟩ (Reg.KT_DOM_CNT d 1) :=
  RegSet.has_of (d % 8) 0 (by omega) (by omega) (by unfold Reg.KT_DOM_CNT; omega)
theorem Reg.KT_LAST_OFS_LO_has (d : Nat) : RegSet.Has ⟨0x201040, 0x100, 8, 0x0, 1⟩ (Reg.KT_LAST_OFS_LO d) :=
  RegSet.has_of (d % 8) 0 (by omega) (by omega) (by unfold Reg.KT_LAST_OFS_LO; omega)
theorem Reg.KT_LAST_OFS_HI_has (d : Nat) : RegSet.Has ⟨0x201044, 0x100, 8, 0x0, 1⟩ (Reg.KT_LAST_OFS_HI d) :=
  RegSet.has_of (d % 8) 0 (by omega) (by omega) (by unfold Reg.KT_LAST_OFS_HI; omega)
theorem Reg.KT_CAP_STATUS_has : RegSet.Has ⟨0x200038, 0x0, 1, 0x0, 1⟩ Reg.KT_CAP_STATUS :=
  RegSet.has_of 0 0 (by omega) (by omega) (by unfold Reg.KT_CAP_STATUS; omega)
theorem Reg.KT_TB_STATUS_has : RegSet.Has ⟨0x200000, 0x0, 1, 0x0, 1⟩ Reg.KT_TB_STATUS :=
  RegSet.has_of 0 0 (by omega) (by omega) (by unfold Reg.KT_TB_STATUS; omega)
theorem Reg.PRT_TT_STATUS_has (p : Nat) : RegSet.Has ⟨0x2004040, 0x10000, 256, 0x0, 1⟩ (Reg.PRT_TT_STATUS p) :=
  RegSet.has_of (p % 256) 0 (by omega) (by omega) (by unfold Reg.PRT_TT_STATUS; omega)
theorem Reg.VN_STATUS_has : RegSet.Has ⟨0x300010, 0x0, 1, 0x0, 1⟩ Reg.VN_STATUS :=
  RegSet.has_of 0 0 (by omega) (by omega) (by unfold Reg.VN_STATUS; omega)
theorem Reg.VN_FLAGS_has : RegSet.Has ⟨0x300014, 0x0, 1, 0x0, 1⟩ Reg.VN_FLAGS :=
  RegSet.has_of 0 0 (by omega) (by omega) (by unfold Reg.VN_FLAGS; omega)
theorem Reg.VN_HO_WORD_has : RegSet.Has ⟨0x300024, 0x0, 1, 0x0, 1⟩ Reg.VN_HO_WORD :=
  RegSet.has_of 0 0 (by omega) (by omega) (by unfold Reg.VN_HO_WORD; omega)
theorem Reg.VN_PULL_has : RegSet.Has ⟨0x300028, 0x0, 1, 0x0, 1⟩ Reg.VN_PULL :=
  RegSet.has_of 0 0 (by omega) (by omega) (by unfold Reg.VN_PULL; omega)
theorem Reg.VN_STEER_has : RegSet.Has ⟨0x300020, 0x0, 1, 0x0, 1⟩ Reg.VN_STEER :=
  RegSet.has_of 0 0 (by omega) (by omega) (by unfold Reg.VN_STEER; omega)
theorem Reg.VN_CNT_has_1 : RegSet.Has ⟨0x300108, 0x0, 1, 0x0, 1⟩ (Reg.VN_CNT 1) :=
  RegSet.has_of 0 0 (by omega) (by omega) (by unfold Reg.VN_CNT; omega)
theorem Reg.VN_CNT_has_2 : RegSet.Has ⟨0x300110, 0x0, 1, 0x0, 1⟩ (Reg.VN_CNT 2) :=
  RegSet.has_of 0 0 (by omega) (by omega) (by unfold Reg.VN_CNT; omega)
theorem Reg.VN_CNT_has_0 : RegSet.Has ⟨0x300100, 0x0, 1, 0x0, 1⟩ (Reg.VN_CNT 0) :=
  RegSet.has_of 0 0 (by omega) (by omega) (by unfold Reg.VN_CNT; omega)
theorem Reg.VN_CAND_STATUS_has (i : Nat) : RegSet.Has ⟨0x301004, 0x20, 11, 0x0, 1⟩ (Reg.VN_CAND_STATUS i) :=
  RegSet.has_of (i % 11) 0 (by omega) (by omega) (by unfold Reg.VN_CAND_STATUS; omega)
theorem Reg.VN_CNT_has_5 : RegSet.Has ⟨0x300128, 0x0, 1, 0x0, 1⟩ (Reg.VN_CNT 5) :=
  RegSet.has_of 0 0 (by omega) (by omega) (by unfold Reg.VN_CNT; omega)
theorem Reg.VN_CAND_FLAGS_has (i : Nat) : RegSet.Has ⟨0x30100c, 0x20, 11, 0x0, 1⟩ (Reg.VN_CAND_FLAGS i) :=
  RegSet.has_of (i % 11) 0 (by omega) (by omega) (by unfold Reg.VN_CAND_FLAGS; omega)
theorem Reg.VN_CNT_has_3 : RegSet.Has ⟨0x300118, 0x0, 1, 0x0, 1⟩ (Reg.VN_CNT 3) :=
  RegSet.has_of 0 0 (by omega) (by omega) (by unfold Reg.VN_CNT; omega)
theorem Reg.VN_CAND_FREQ_has (i : Nat) : RegSet.Has ⟨0x301008, 0x20, 11, 0x0, 1⟩ (Reg.VN_CAND_FREQ i) :=
  RegSet.has_of (i % 11) 0 (by omega) (by omega) (by unfold Reg.VN_CAND_FREQ; omega)
theorem Reg.VN_CNT_has_4 : RegSet.Has ⟨0x300120, 0x0, 1, 0x0, 1⟩ (Reg.VN_CNT 4) :=
  RegSet.has_of 0 0 (by omega) (by omega) (by unfold Reg.VN_CNT; omega)
theorem Reg.VN_CNT_has_6 : RegSet.Has ⟨0x300130, 0x0, 1, 0x0, 1⟩ (Reg.VN_CNT 6) :=
  RegSet.has_of 0 0 (by omega) (by omega) (by unfold Reg.VN_CNT; omega)
theorem Reg.PH_CH_QUAL_has (n : Nat) : RegSet.Has ⟨0x410008, 0x80, 229, 0x0, 1⟩ (Reg.PH_CH_QUAL n) :=
  RegSet.has_of (n % 229) 0 (by omega) (by omega) (by unfold Reg.PH_CH_QUAL; omega)
theorem Reg.PH_CH_STATUS_has (n : Nat) : RegSet.Has ⟨0x410000, 0x80, 229, 0x0, 1⟩ (Reg.PH_CH_STATUS n) :=
  RegSet.has_of (n % 229) 0 (by omega) (by omega) (by unfold Reg.PH_CH_STATUS; omega)
theorem Reg.PH_CH_FLAGS_has (n : Nat) : RegSet.Has ⟨0x410004, 0x80, 229, 0x0, 1⟩ (Reg.PH_CH_FLAGS n) :=
  RegSet.has_of (n % 229) 0 (by omega) (by omega) (by unfold Reg.PH_CH_FLAGS; omega)
theorem Reg.PH_ROT_STATUS_has (g : Nat) : RegSet.Has ⟨0x400010, 0x4, 5, 0x0, 1⟩ (Reg.PH_ROT_STATUS g) :=
  RegSet.has_of (g % 5) 0 (by omega) (by omega) (by unfold Reg.PH_ROT_STATUS; omega)
theorem Reg.PH_SQ_CREDIT_has (n : Nat) : RegSet.Has ⟨0x410010, 0x80, 229, 0x0, 1⟩ (Reg.PH_SQ_CREDIT n) :=
  RegSet.has_of (n % 229) 0 (by omega) (by omega) (by unfold Reg.PH_SQ_CREDIT; omega)
theorem Reg.PH_CNT_has_0 (n : Nat) : RegSet.Has ⟨0x410040, 0x80, 229, 0x0, 1⟩ (Reg.PH_CNT n 0) :=
  RegSet.has_of (n % 229) 0 (by omega) (by omega) (by unfold Reg.PH_CNT; omega)
theorem Reg.PH_CNT_has_1 (n : Nat) : RegSet.Has ⟨0x410048, 0x80, 229, 0x0, 1⟩ (Reg.PH_CNT n 1) :=
  RegSet.has_of (n % 229) 0 (by omega) (by omega) (by unfold Reg.PH_CNT; omega)
theorem Reg.PH_CNT_has_6 (n : Nat) : RegSet.Has ⟨0x410070, 0x80, 229, 0x0, 1⟩ (Reg.PH_CNT n 6) :=
  RegSet.has_of (n % 229) 0 (by omega) (by omega) (by unfold Reg.PH_CNT; omega)
theorem Reg.PH_SQ_CFG_has (n : Nat) : RegSet.Has ⟨0x41000c, 0x80, 229, 0x0, 1⟩ (Reg.PH_SQ_CFG n) :=
  RegSet.has_of (n % 229) 0 (by omega) (by omega) (by unfold Reg.PH_SQ_CFG; omega)
theorem Reg.PH_SQ_POP_has (n w : Nat) : RegSet.Has ⟨0x410020, 0x80, 229, 0x4, 4⟩ (Reg.PH_SQ_POP n w) :=
  RegSet.has_of (n % 229) (w % 4) (by omega) (by omega) (by unfold Reg.PH_SQ_POP; omega)
theorem Reg.PH_FM_CFG_has (e : Nat) : RegSet.Has ⟨0x400100, 0x20, 5, 0x0, 1⟩ (Reg.PH_FM_CFG e) :=
  RegSet.has_of (e % 5) 0 (by omega) (by omega) (by unfold Reg.PH_FM_CFG; omega)
theorem Reg.PH_FM_STATUS_has (e : Nat) : RegSet.Has ⟨0x400108, 0x20, 5, 0x0, 1⟩ (Reg.PH_FM_STATUS e) :=
  RegSet.has_of (e % 5) 0 (by omega) (by omega) (by unfold Reg.PH_FM_STATUS; omega)
theorem Reg.PH_CNT_has_4 (n : Nat) : RegSet.Has ⟨0x410060, 0x80, 229, 0x0, 1⟩ (Reg.PH_CNT n 4) :=
  RegSet.has_of (n % 229) 0 (by omega) (by omega) (by unfold Reg.PH_CNT; omega)
theorem Reg.PH_CH_FLAGS_has_228 : RegSet.Has ⟨0x417204, 0x0, 1, 0x0, 1⟩ (Reg.PH_CH_FLAGS 228) :=
  RegSet.has_of 0 0 (by omega) (by omega) (by unfold Reg.PH_CH_FLAGS; omega)
theorem Reg.PH_ROT_STATUS_has_4 : RegSet.Has ⟨0x400020, 0x0, 1, 0x0, 1⟩ (Reg.PH_ROT_STATUS 4) :=
  RegSet.has_of 0 0 (by omega) (by omega) (by unfold Reg.PH_ROT_STATUS; omega)
theorem Reg.PIN_EVT_LEVEL_has : RegSet.Has ⟨0x500180, 0x0, 1, 0x0, 1⟩ Reg.PIN_EVT_LEVEL :=
  RegSet.has_of 0 0 (by omega) (by omega) (by unfold Reg.PIN_EVT_LEVEL; omega)
theorem Reg.PH_CNT_has_3 (n : Nat) : RegSet.Has ⟨0x410058, 0x80, 229, 0x0, 1⟩ (Reg.PH_CNT n 3) :=
  RegSet.has_of (n % 229) 0 (by omega) (by omega) (by unfold Reg.PH_CNT; omega)
theorem Reg.PH_CNT_has_2 (n : Nat) : RegSet.Has ⟨0x410050, 0x80, 229, 0x0, 1⟩ (Reg.PH_CNT n 2) :=
  RegSet.has_of (n % 229) 0 (by omega) (by omega) (by unfold Reg.PH_CNT; omega)
theorem Reg.PIN_EVT_CFG_has (n : Nat) : RegSet.Has ⟨0x500100, 0x4, 32, 0x0, 1⟩ (Reg.PIN_EVT_CFG n) :=
  RegSet.has_of (n % 32) 0 (by omega) (by omega) (by unfold Reg.PIN_EVT_CFG; omega)
theorem Reg.PIN_PLS_STATUS_has (n : Nat) : RegSet.Has ⟨0x501028, 0x40, 32, 0x0, 1⟩ (Reg.PIN_PLS_STATUS n) :=
  RegSet.has_of (n % 32) 0 (by omega) (by omega) (by unfold Reg.PIN_PLS_STATUS; omega)
theorem Reg.PIN_PLS_CNT_has (n : Nat) : RegSet.Has ⟨0x501030, 0x40, 32, 0x0, 1⟩ (Reg.PIN_PLS_CNT n) :=
  RegSet.has_of (n % 32) 0 (by omega) (by omega) (by unfold Reg.PIN_PLS_CNT; omega)
theorem Reg.PIN_CLK_STATUS_has (k : Nat) : RegSet.Has ⟨0x502008, 0x10, 8, 0x0, 1⟩ (Reg.PIN_CLK_STATUS k) :=
  RegSet.has_of (k % 8) 0 (by omega) (by omega) (by unfold Reg.PIN_CLK_STATUS; omega)
theorem Reg.PIN_CLK_CTRL_has (k : Nat) : RegSet.Has ⟨0x502004, 0x10, 8, 0x0, 1⟩ (Reg.PIN_CLK_CTRL k) :=
  RegSet.has_of (k % 8) 0 (by omega) (by omega) (by unfold Reg.PIN_CLK_CTRL; omega)
theorem Reg.PIN_CLK_FREQ_has (k : Nat) : RegSet.Has ⟨0x502000, 0x10, 8, 0x0, 1⟩ (Reg.PIN_CLK_FREQ k) :=
  RegSet.has_of (k % 8) 0 (by omega) (by omega) (by unfold Reg.PIN_CLK_FREQ; omega)
theorem Reg.LN_TRUNK_STATUS_has (l : Nat) : RegSet.Has ⟨0x3000020, 0x4000, 256, 0x0, 1⟩ (Reg.LN_TRUNK_STATUS l) :=
  RegSet.has_of (l % 256) 0 (by omega) (by omega) (by unfold Reg.LN_TRUNK_STATUS; omega)
theorem Reg.LN_CNT_has_5 (l : Nat) : RegSet.Has ⟨0x3000128, 0x4000, 256, 0x0, 1⟩ (Reg.LN_CNT l 5) :=
  RegSet.has_of (l % 256) 0 (by omega) (by omega) (by unfold Reg.LN_CNT; omega)
theorem Reg.LN_FLAGS_has (l : Nat) : RegSet.Has ⟨0x300000c, 0x4000, 256, 0x0, 1⟩ (Reg.LN_FLAGS l) :=
  RegSet.has_of (l % 256) 0 (by omega) (by omega) (by unfold Reg.LN_FLAGS; omega)
theorem Reg.SLC_TBL_VER_has (s : Nat) : RegSet.Has ⟨0x1000210, 0x400000, 4, 0x0, 1⟩ (Reg.SLC_TBL_VER s) :=
  RegSet.has_of (s % 4) 0 (by omega) (by omega) (by unfold Reg.SLC_TBL_VER; omega)
theorem Reg.SLC_CNT_has_13 (s : Nat) : RegSet.Has ⟨0x1000468, 0x400000, 4, 0x0, 1⟩ (Reg.SLC_CNT s 13) :=
  RegSet.has_of (s % 4) 0 (by omega) (by omega) (by unfold Reg.SLC_CNT; omega)
theorem Reg.SLC_CNT_has_7 (s : Nat) : RegSet.Has ⟨0x1000438, 0x400000, 4, 0x0, 1⟩ (Reg.SLC_CNT s 7) :=
  RegSet.has_of (s % 4) 0 (by omega) (by omega) (by unfold Reg.SLC_CNT; omega)
theorem Reg.SLC_CNT_has_6 (s : Nat) : RegSet.Has ⟨0x1000430, 0x400000, 4, 0x0, 1⟩ (Reg.SLC_CNT s 6) :=
  RegSet.has_of (s % 4) 0 (by omega) (by omega) (by unfold Reg.SLC_CNT; omega)
theorem Reg.SLC_CNT_has_8 (s : Nat) : RegSet.Has ⟨0x1000440, 0x400000, 4, 0x0, 1⟩ (Reg.SLC_CNT s 8) :=
  RegSet.has_of (s % 4) 0 (by omega) (by omega) (by unfold Reg.SLC_CNT; omega)
theorem Reg.SLC_CNT_has_3 (s : Nat) : RegSet.Has ⟨0x1000418, 0x400000, 4, 0x0, 1⟩ (Reg.SLC_CNT s 3) :=
  RegSet.has_of (s % 4) 0 (by omega) (by omega) (by unfold Reg.SLC_CNT; omega)
theorem Reg.SLC_CNT_has_1 (s : Nat) : RegSet.Has ⟨0x1000408, 0x400000, 4, 0x0, 1⟩ (Reg.SLC_CNT s 1) :=
  RegSet.has_of (s % 4) 0 (by omega) (by omega) (by unfold Reg.SLC_CNT; omega)
theorem Reg.SLC_CNT_has_2 (s : Nat) : RegSet.Has ⟨0x1000410, 0x400000, 4, 0x0, 1⟩ (Reg.SLC_CNT s 2) :=
  RegSet.has_of (s % 4) 0 (by omega) (by omega) (by unfold Reg.SLC_CNT; omega)
theorem Reg.SLC_CNT_has_0 (s : Nat) : RegSet.Has ⟨0x1000400, 0x400000, 4, 0x0, 1⟩ (Reg.SLC_CNT s 0) :=
  RegSet.has_of (s % 4) 0 (by omega) (by omega) (by unfold Reg.SLC_CNT; omega)
theorem Reg.SLC_CNT_has_4 (s : Nat) : RegSet.Has ⟨0x1000420, 0x400000, 4, 0x0, 1⟩ (Reg.SLC_CNT s 4) :=
  RegSet.has_of (s % 4) 0 (by omega) (by omega) (by unfold Reg.SLC_CNT; omega)
theorem Reg.SLC_CNT_has_5 (s : Nat) : RegSet.Has ⟨0x1000428, 0x400000, 4, 0x0, 1⟩ (Reg.SLC_CNT s 5) :=
  RegSet.has_of (s % 4) 0 (by omega) (by omega) (by unfold Reg.SLC_CNT; omega)
theorem Reg.TW_STATUS_has (w : Nat) : RegSet.Has ⟨0x3400004, 0x1000, 4, 0x0, 1⟩ (Reg.TW_STATUS w) :=
  RegSet.has_of (w % 4) 0 (by omega) (by omega) (by unfold Reg.TW_STATUS; omega)
theorem Reg.TW_KEY_LO_has (w : Nat) : RegSet.Has ⟨0x3400010, 0x1000, 4, 0x0, 1⟩ (Reg.TW_KEY_LO w) :=
  RegSet.has_of (w % 4) 0 (by omega) (by omega) (by unfold Reg.TW_KEY_LO; omega)
theorem Reg.TW_KEY_HI_has (w : Nat) : RegSet.Has ⟨0x3400014, 0x1000, 4, 0x0, 1⟩ (Reg.TW_KEY_HI w) :=
  RegSet.has_of (w % 4) 0 (by omega) (by omega) (by unfold Reg.TW_KEY_HI; omega)
theorem Reg.TW_FDB_has (w : Nat) : RegSet.Has ⟨0x3400018, 0x1000, 4, 0x0, 1⟩ (Reg.TW_FDB w) :=
  RegSet.has_of (w % 4) 0 (by omega) (by omega) (by unfold Reg.TW_FDB; omega)
theorem Reg.TW_DATA_has (w i : Nat) : RegSet.Has ⟨0x3400040, 0x1000, 4, 0x4, 16⟩ (Reg.TW_DATA w i) :=
  RegSet.has_of (w % 4) (i % 16) (by omega) (by omega) (by unfold Reg.TW_DATA; omega)
theorem Reg.SLC_FENCE_VER_has (s : Nat) : RegSet.Has ⟨0x1000218, 0x400000, 4, 0x0, 1⟩ (Reg.SLC_FENCE_VER s) :=
  RegSet.has_of (s % 4) 0 (by omega) (by omega) (by unfold Reg.SLC_FENCE_VER; omega)
theorem Reg.SLC_FENCE_has (s : Nat) : RegSet.Has ⟨0x1000214, 0x400000, 4, 0x0, 1⟩ (Reg.SLC_FENCE s) :=
  RegSet.has_of (s % 4) 0 (by omega) (by omega) (by unfold Reg.SLC_FENCE; omega)
theorem Reg.BPM_POOL_FREE_has (k : Nat) : RegSet.Has ⟨0x800020, 0x4, 5, 0x0, 1⟩ (Reg.BPM_POOL_FREE k) :=
  RegSet.has_of (k % 5) 0 (by omega) (by omega) (by unfold Reg.BPM_POOL_FREE; omega)
theorem Reg.BPM_POOL_LOW_has (k : Nat) : RegSet.Has ⟨0x800040, 0x4, 5, 0x0, 1⟩ (Reg.BPM_POOL_LOW k) :=
  RegSet.has_of (k % 5) 0 (by omega) (by omega) (by unfold Reg.BPM_POOL_LOW; omega)
theorem Reg.BPM_CNT_has_3 : RegSet.Has ⟨0x800118, 0x0, 1, 0x0, 1⟩ (Reg.BPM_CNT 3) :=
  RegSet.has_of 0 0 (by omega) (by omega) (by unfold Reg.BPM_CNT; omega)
theorem Reg.BPM_SHARED_FREE_has : RegSet.Has ⟨0x800064, 0x0, 1, 0x0, 1⟩ Reg.BPM_SHARED_FREE :=
  RegSet.has_of 0 0 (by omega) (by omega) (by unfold Reg.BPM_SHARED_FREE; omega)
theorem Reg.BPM_CNT_has (n : Nat) : RegSet.Has ⟨0x800100, 0x8, 14, 0x0, 1⟩ (Reg.BPM_CNT n) :=
  RegSet.has_of (n % 14) 0 (by omega) (by omega) (by unfold Reg.BPM_CNT; omega)
theorem Reg.PRT_FAB_CNT_has_0 (p : Nat) : RegSet.Has ⟨0x2000280, 0x10000, 256, 0x0, 1⟩ (Reg.PRT_FAB_CNT p 0) :=
  RegSet.has_of (p % 256) 0 (by omega) (by omega) (by unfold Reg.PRT_FAB_CNT; omega)
theorem Reg.BPM_CNT_has_2 : RegSet.Has ⟨0x800110, 0x0, 1, 0x0, 1⟩ (Reg.BPM_CNT 2) :=
  RegSet.has_of 0 0 (by omega) (by omega) (by unfold Reg.BPM_CNT; omega)
theorem Reg.BPM_P0_SPLIT_has : RegSet.Has ⟨0x800060, 0x0, 1, 0x0, 1⟩ Reg.BPM_P0_SPLIT :=
  RegSet.has_of 0 0 (by omega) (by omega) (by unfold Reg.BPM_P0_SPLIT; omega)
theorem Reg.PRT_LT_STATUS_has (p : Nat) : RegSet.Has ⟨0x200101c, 0x10000, 256, 0x0, 1⟩ (Reg.PRT_LT_STATUS p) :=
  RegSet.has_of (p % 256) 0 (by omega) (by omega) (by unfold Reg.PRT_LT_STATUS; omega)
theorem Reg.PRT_LT_NEXT_has (p : Nat) : RegSet.Has ⟨0x2001020, 0x10000, 256, 0x0, 1⟩ (Reg.PRT_LT_NEXT p) :=
  RegSet.has_of (p % 256) 0 (by omega) (by omega) (by unfold Reg.PRT_LT_NEXT; omega)
theorem Reg.PRT_EG_CNT_has_7 (p : Nat) : RegSet.Has ⟨0x2000338, 0x10000, 256, 0x0, 1⟩ (Reg.PRT_EG_CNT p 7) :=
  RegSet.has_of (p % 256) 0 (by omega) (by omega) (by unfold Reg.PRT_EG_CNT; omega)
theorem Reg.PRT_EG_CNT_has_9 (p : Nat) : RegSet.Has ⟨0x2000348, 0x10000, 256, 0x0, 1⟩ (Reg.PRT_EG_CNT p 9) :=
  RegSet.has_of (p % 256) 0 (by omega) (by omega) (by unfold Reg.PRT_EG_CNT; omega)
theorem Reg.PRT_EG_CNT_has_4 (p : Nat) : RegSet.Has ⟨0x2000320, 0x10000, 256, 0x0, 1⟩ (Reg.PRT_EG_CNT p 4) :=
  RegSet.has_of (p % 256) 0 (by omega) (by omega) (by unfold Reg.PRT_EG_CNT; omega)
theorem Reg.PRT_EG_CNT_has_5 (p : Nat) : RegSet.Has ⟨0x2000328, 0x10000, 256, 0x0, 1⟩ (Reg.PRT_EG_CNT p 5) :=
  RegSet.has_of (p % 256) 0 (by omega) (by omega) (by unfold Reg.PRT_EG_CNT; omega)
theorem Reg.PRT_EG_CNT_has_6 (p : Nat) : RegSet.Has ⟨0x2000330, 0x10000, 256, 0x0, 1⟩ (Reg.PRT_EG_CNT p 6) :=
  RegSet.has_of (p % 256) 0 (by omega) (by omega) (by unfold Reg.PRT_EG_CNT; omega)
theorem Reg.FAB_FRER_CNT_has (n : Nat) : RegSet.Has ⟨0x900300, 0x8, 8, 0x0, 1⟩ (Reg.FAB_FRER_CNT n) :=
  RegSet.has_of (n % 8) 0 (by omega) (by omega) (by unfold Reg.FAB_FRER_CNT; omega)
theorem Reg.PRT_FAB_CNT_has_1 (p : Nat) : RegSet.Has ⟨0x2000288, 0x10000, 256, 0x0, 1⟩ (Reg.PRT_FAB_CNT p 1) :=
  RegSet.has_of (p % 256) 0 (by omega) (by omega) (by unfold Reg.PRT_FAB_CNT; omega)
theorem Reg.PRT_FAB_CNT_has_3 (p : Nat) : RegSet.Has ⟨0x2000298, 0x10000, 256, 0x0, 1⟩ (Reg.PRT_FAB_CNT p 3) :=
  RegSet.has_of (p % 256) 0 (by omega) (by omega) (by unfold Reg.PRT_FAB_CNT; omega)
theorem Reg.PRT_FAB_CNT_has_2 (p : Nat) : RegSet.Has ⟨0x2000290, 0x10000, 256, 0x0, 1⟩ (Reg.PRT_FAB_CNT p 2) :=
  RegSet.has_of (p % 256) 0 (by omega) (by omega) (by unfold Reg.PRT_FAB_CNT; omega)
theorem Reg.SLC_CNT_has_14 (s : Nat) : RegSet.Has ⟨0x1000470, 0x400000, 4, 0x0, 1⟩ (Reg.SLC_CNT s 14) :=
  RegSet.has_of (s % 4) 0 (by omega) (by omega) (by unfold Reg.SLC_CNT; omega)
theorem Reg.PRT_FAB_CNT_has_6 (p : Nat) : RegSet.Has ⟨0x20002b0, 0x10000, 256, 0x0, 1⟩ (Reg.PRT_FAB_CNT p 6) :=
  RegSet.has_of (p % 256) 0 (by omega) (by omega) (by unfold Reg.PRT_FAB_CNT; omega)
theorem Reg.FAB_FRER_CFG0_has : RegSet.Has ⟨0x900204, 0x0, 1, 0x0, 1⟩ Reg.FAB_FRER_CFG0 :=
  RegSet.has_of 0 0 (by omega) (by omega) (by unfold Reg.FAB_FRER_CFG0; omega)
theorem Reg.FAB_FRER_CFG1_has : RegSet.Has ⟨0x900208, 0x0, 1, 0x0, 1⟩ Reg.FAB_FRER_CFG1 :=
  RegSet.has_of 0 0 (by omega) (by omega) (by unfold Reg.FAB_FRER_CFG1; omega)
theorem Reg.FAB_VOQ_OCC_has : RegSet.Has ⟨0x900044, 0x0, 1, 0x0, 1⟩ Reg.FAB_VOQ_OCC :=
  RegSet.has_of 0 0 (by omega) (by omega) (by unfold Reg.FAB_VOQ_OCC; omega)
theorem Reg.FAB_VOQ_SPILL_has : RegSet.Has ⟨0x900048, 0x0, 1, 0x0, 1⟩ Reg.FAB_VOQ_SPILL :=
  RegSet.has_of 0 0 (by omega) (by omega) (by unfold Reg.FAB_VOQ_SPILL; omega)
theorem Reg.BPM_CNT_has_10 : RegSet.Has ⟨0x800150, 0x0, 1, 0x0, 1⟩ (Reg.BPM_CNT 10) :=
  RegSet.has_of 0 0 (by omega) (by omega) (by unfold Reg.BPM_CNT; omega)
theorem Reg.BPM_CNT_has_12 : RegSet.Has ⟨0x800160, 0x0, 1, 0x0, 1⟩ (Reg.BPM_CNT 12) :=
  RegSet.has_of 0 0 (by omega) (by omega) (by unfold Reg.BPM_CNT; omega)
theorem Reg.BPM_CNT_has_11 : RegSet.Has ⟨0x800158, 0x0, 1, 0x0, 1⟩ (Reg.BPM_CNT 11) :=
  RegSet.has_of 0 0 (by omega) (by omega) (by unfold Reg.BPM_CNT; omega)
theorem Reg.FAB_RES_OCC_has (k : Nat) : RegSet.Has ⟨0x900010, 0x4, 4, 0x0, 1⟩ (Reg.FAB_RES_OCC k) :=
  RegSet.has_of (k % 4) 0 (by omega) (by omega) (by unfold Reg.FAB_RES_OCC; omega)
theorem Reg.FAB_CNT_has_5 : RegSet.Has ⟨0x900128, 0x0, 1, 0x0, 1⟩ (Reg.FAB_CNT 5) :=
  RegSet.has_of 0 0 (by omega) (by omega) (by unfold Reg.FAB_CNT; omega)
theorem Reg.PRT_FAB_CNT_has_7 (p : Nat) : RegSet.Has ⟨0x20002b8, 0x10000, 256, 0x0, 1⟩ (Reg.PRT_FAB_CNT p 7) :=
  RegSet.has_of (p % 256) 0 (by omega) (by omega) (by unfold Reg.PRT_FAB_CNT; omega)
theorem Reg.FAB_CNT_has (n : Nat) : RegSet.Has ⟨0x900100, 0x8, 10, 0x0, 1⟩ (Reg.FAB_CNT n) :=
  RegSet.has_of (n % 10) 0 (by omega) (by omega) (by unfold Reg.FAB_CNT; omega)
theorem Reg.FAB_CNT_has_0 : RegSet.Has ⟨0x900100, 0x0, 1, 0x0, 1⟩ (Reg.FAB_CNT 0) :=
  RegSet.has_of 0 0 (by omega) (by omega) (by unfold Reg.FAB_CNT; omega)
theorem Reg.FAB_CNT_has_6 : RegSet.Has ⟨0x900130, 0x0, 1, 0x0, 1⟩ (Reg.FAB_CNT 6) :=
  RegSet.has_of 0 0 (by omega) (by omega) (by unfold Reg.FAB_CNT; omega)
theorem Reg.FAB_CNT_has_9 : RegSet.Has ⟨0x900148, 0x0, 1, 0x0, 1⟩ (Reg.FAB_CNT 9) :=
  RegSet.has_of 0 0 (by omega) (by omega) (by unfold Reg.FAB_CNT; omega)
theorem Reg.BPM_CNT_has_8 : RegSet.Has ⟨0x800140, 0x0, 1, 0x0, 1⟩ (Reg.BPM_CNT 8) :=
  RegSet.has_of 0 0 (by omega) (by omega) (by unfold Reg.BPM_CNT; omega)
theorem Reg.BPM_LEAK_LAST_has : RegSet.Has ⟨0x800094, 0x0, 1, 0x0, 1⟩ Reg.BPM_LEAK_LAST :=
  RegSet.has_of 0 0 (by omega) (by omega) (by unfold Reg.BPM_LEAK_LAST; omega)
theorem Reg.PRT_GCL_STATUS_has (p : Nat) : RegSet.Has ⟨0x2001118, 0x10000, 256, 0x0, 1⟩ (Reg.PRT_GCL_STATUS p) :=
  RegSet.has_of (p % 256) 0 (by omega) (by omega) (by unfold Reg.PRT_GCL_STATUS; omega)
theorem Reg.PRT_GCL_SWITCH_has (p : Nat) : RegSet.Has ⟨0x200111c, 0x10000, 256, 0x0, 1⟩ (Reg.PRT_GCL_SWITCH p) :=
  RegSet.has_of (p % 256) 0 (by omega) (by omega) (by unfold Reg.PRT_GCL_SWITCH; omega)
theorem Reg.PRT_WD_has (p : Nat) : RegSet.Has ⟨0x2001004, 0x10000, 256, 0x0, 1⟩ (Reg.PRT_WD p) :=
  RegSet.has_of (p % 256) 0 (by omega) (by omega) (by unfold Reg.PRT_WD; omega)
theorem Reg.PRT_EG_CNT_has_10 (p : Nat) : RegSet.Has ⟨0x2000350, 0x10000, 256, 0x0, 1⟩ (Reg.PRT_EG_CNT p 10) :=
  RegSet.has_of (p % 256) 0 (by omega) (by omega) (by unfold Reg.PRT_EG_CNT; omega)
theorem Reg.PRT_RX_CNT_has_0 (p : Nat) : RegSet.Has ⟨0x2000200, 0x10000, 256, 0x0, 1⟩ (Reg.PRT_RX_CNT p 0) :=
  RegSet.has_of (p % 256) 0 (by omega) (by omega) (by unfold Reg.PRT_RX_CNT; omega)
theorem Reg.PRT_RX_CNT_has_1 (p : Nat) : RegSet.Has ⟨0x2000208, 0x10000, 256, 0x0, 1⟩ (Reg.PRT_RX_CNT p 1) :=
  RegSet.has_of (p % 256) 0 (by omega) (by omega) (by unfold Reg.PRT_RX_CNT; omega)
theorem Reg.PRT_EG_CNT_has_11 (p : Nat) : RegSet.Has ⟨0x2000358, 0x10000, 256, 0x0, 1⟩ (Reg.PRT_EG_CNT p 11) :=
  RegSet.has_of (p % 256) 0 (by omega) (by omega) (by unfold Reg.PRT_EG_CNT; omega)
theorem Reg.PRT_EG_CNT_has_0 (p : Nat) : RegSet.Has ⟨0x2000300, 0x10000, 256, 0x0, 1⟩ (Reg.PRT_EG_CNT p 0) :=
  RegSet.has_of (p % 256) 0 (by omega) (by omega) (by unfold Reg.PRT_EG_CNT; omega)
theorem Reg.PRT_EG_CNT_has_1 (p : Nat) : RegSet.Has ⟨0x2000308, 0x10000, 256, 0x0, 1⟩ (Reg.PRT_EG_CNT p 1) :=
  RegSet.has_of (p % 256) 0 (by omega) (by omega) (by unfold Reg.PRT_EG_CNT; omega)
theorem Reg.PRT_EG_CNT_has_12 (p : Nat) : RegSet.Has ⟨0x2000360, 0x10000, 256, 0x0, 1⟩ (Reg.PRT_EG_CNT p 12) :=
  RegSet.has_of (p % 256) 0 (by omega) (by omega) (by unfold Reg.PRT_EG_CNT; omega)
theorem Reg.PRT_EG_CNT_has_13 (p : Nat) : RegSet.Has ⟨0x2000368, 0x10000, 256, 0x0, 1⟩ (Reg.PRT_EG_CNT p 13) :=
  RegSet.has_of (p % 256) 0 (by omega) (by omega) (by unfold Reg.PRT_EG_CNT; omega)
theorem Reg.PRT_EG_CNT_has_14 (p : Nat) : RegSet.Has ⟨0x2000370, 0x10000, 256, 0x0, 1⟩ (Reg.PRT_EG_CNT p 14) :=
  RegSet.has_of (p % 256) 0 (by omega) (by omega) (by unfold Reg.PRT_EG_CNT; omega)
theorem Reg.PRT_EG_CNT_has_15 (p : Nat) : RegSet.Has ⟨0x2000378, 0x10000, 256, 0x0, 1⟩ (Reg.PRT_EG_CNT p 15) :=
  RegSet.has_of (p % 256) 0 (by omega) (by omega) (by unfold Reg.PRT_EG_CNT; omega)
theorem Reg.PRT_EG_CNT_has_8 (p : Nat) : RegSet.Has ⟨0x2000340, 0x10000, 256, 0x0, 1⟩ (Reg.PRT_EG_CNT p 8) :=
  RegSet.has_of (p % 256) 0 (by omega) (by omega) (by unfold Reg.PRT_EG_CNT; omega)
theorem Reg.PRT_EG_CNT_has (p n : Nat) : RegSet.Has ⟨0x2000300, 0x10000, 256, 0x8, 16⟩ (Reg.PRT_EG_CNT p n) :=
  RegSet.has_of (p % 256) (n % 16) (by omega) (by omega) (by unfold Reg.PRT_EG_CNT; omega)
theorem Reg.DEV_HI_CNT_has_3 : RegSet.Has ⟨0x918, 0x0, 1, 0x0, 1⟩ (Reg.DEV_HI_CNT 3) :=
  RegSet.has_of 0 0 (by omega) (by omega) (by unfold Reg.DEV_HI_CNT; omega)
theorem Reg.DEV_HRX_HEAD_has : RegSet.Has ⟨0x850, 0x0, 1, 0x0, 1⟩ Reg.DEV_HRX_HEAD :=
  RegSet.has_of 0 0 (by omega) (by omega) (by unfold Reg.DEV_HRX_HEAD; omega)
theorem Reg.DEV_HI_CNT_has_2 : RegSet.Has ⟨0x910, 0x0, 1, 0x0, 1⟩ (Reg.DEV_HI_CNT 2) :=
  RegSet.has_of 0 0 (by omega) (by omega) (by unfold Reg.DEV_HI_CNT; omega)
theorem Reg.PRT_TT_CNT_has_14 (p : Nat) : RegSet.Has ⟨0x2004170, 0x10000, 256, 0x0, 1⟩ (Reg.PRT_TT_CNT p 14) :=
  RegSet.has_of (p % 256) 0 (by omega) (by omega) (by unfold Reg.PRT_TT_CNT; omega)
theorem Reg.PRT_TT_CNT_has_6 (p : Nat) : RegSet.Has ⟨0x2004130, 0x10000, 256, 0x0, 1⟩ (Reg.PRT_TT_CNT p 6) :=
  RegSet.has_of (p % 256) 0 (by omega) (by omega) (by unfold Reg.PRT_TT_CNT; omega)
theorem Reg.PRT_TT_FLAGS_has (p : Nat) : RegSet.Has ⟨0x2004044, 0x10000, 256, 0x0, 1⟩ (Reg.PRT_TT_FLAGS p) :=
  RegSet.has_of (p % 256) 0 (by omega) (by omega) (by unfold Reg.PRT_TT_FLAGS; omega)
theorem Reg.PRT_TT_CNT_has (p n : Nat) : RegSet.Has ⟨0x2004100, 0x10000, 256, 0x8, 16⟩ (Reg.PRT_TT_CNT p n) :=
  RegSet.has_of (p % 256) (n % 16) (by omega) (by omega) (by unfold Reg.PRT_TT_CNT; omega)
theorem Reg.PRT_TT_CNT_has_8 (p : Nat) : RegSet.Has ⟨0x2004140, 0x10000, 256, 0x0, 1⟩ (Reg.PRT_TT_CNT p 8) :=
  RegSet.has_of (p % 256) 0 (by omega) (by omega) (by unfold Reg.PRT_TT_CNT; omega)
theorem Reg.PRT_TT_CNT_has_7 (p : Nat) : RegSet.Has ⟨0x2004138, 0x10000, 256, 0x0, 1⟩ (Reg.PRT_TT_CNT p 7) :=
  RegSet.has_of (p % 256) 0 (by omega) (by omega) (by unfold Reg.PRT_TT_CNT; omega)
theorem Reg.PRT_TT_DELAY_LO_has (p : Nat) : RegSet.Has ⟨0x2004050, 0x10000, 256, 0x0, 1⟩ (Reg.PRT_TT_DELAY_LO p) :=
  RegSet.has_of (p % 256) 0 (by omega) (by omega) (by unfold Reg.PRT_TT_DELAY_LO; omega)
theorem Reg.PRT_TT_DELAY_HI_has (p : Nat) : RegSet.Has ⟨0x2004054, 0x10000, 256, 0x0, 1⟩ (Reg.PRT_TT_DELAY_HI p) :=
  RegSet.has_of (p % 256) 0 (by omega) (by omega) (by unfold Reg.PRT_TT_DELAY_HI; omega)
theorem Reg.PRT_TT_CNT_has_10 (p : Nat) : RegSet.Has ⟨0x2004150, 0x10000, 256, 0x0, 1⟩ (Reg.PRT_TT_CNT p 10) :=
  RegSet.has_of (p % 256) 0 (by omega) (by omega) (by unfold Reg.PRT_TT_CNT; omega)
theorem Reg.PRT_TT_CNT_has_9 (p : Nat) : RegSet.Has ⟨0x2004148, 0x10000, 256, 0x0, 1⟩ (Reg.PRT_TT_CNT p 9) :=
  RegSet.has_of (p % 256) 0 (by omega) (by omega) (by unfold Reg.PRT_TT_CNT; omega)
theorem Reg.PRT_TT_OFS_LO_has (p : Nat) : RegSet.Has ⟨0x2004058, 0x10000, 256, 0x0, 1⟩ (Reg.PRT_TT_OFS_LO p) :=
  RegSet.has_of (p % 256) 0 (by omega) (by omega) (by unfold Reg.PRT_TT_OFS_LO; omega)
theorem Reg.PRT_TT_OFS_HI_has (p : Nat) : RegSet.Has ⟨0x200405c, 0x10000, 256, 0x0, 1⟩ (Reg.PRT_TT_OFS_HI p) :=
  RegSet.has_of (p % 256) 0 (by omega) (by omega) (by unfold Reg.PRT_TT_OFS_HI; omega)
theorem Reg.PRT_TT_CNT_has_4 (p : Nat) : RegSet.Has ⟨0x2004120, 0x10000, 256, 0x0, 1⟩ (Reg.PRT_TT_CNT p 4) :=
  RegSet.has_of (p % 256) 0 (by omega) (by omega) (by unfold Reg.PRT_TT_CNT; omega)
theorem Reg.PRT_TT_CNT_has_5 (p : Nat) : RegSet.Has ⟨0x2004128, 0x10000, 256, 0x0, 1⟩ (Reg.PRT_TT_CNT p 5) :=
  RegSet.has_of (p % 256) 0 (by omega) (by omega) (by unfold Reg.PRT_TT_CNT; omega)
theorem Reg.PRT_TT_NRR_has (p : Nat) : RegSet.Has ⟨0x2004060, 0x10000, 256, 0x0, 1⟩ (Reg.PRT_TT_NRR p) :=
  RegSet.has_of (p % 256) 0 (by omega) (by omega) (by unfold Reg.PRT_TT_NRR; omega)
theorem Reg.PRT_TT_CNT_has_15 (p : Nat) : RegSet.Has ⟨0x2004178, 0x10000, 256, 0x0, 1⟩ (Reg.PRT_TT_CNT p 15) :=
  RegSet.has_of (p % 256) 0 (by omega) (by omega) (by unfold Reg.PRT_TT_CNT; omega)
theorem Reg.PRT_TT_CNT_has_13 (p : Nat) : RegSet.Has ⟨0x2004168, 0x10000, 256, 0x0, 1⟩ (Reg.PRT_TT_CNT p 13) :=
  RegSet.has_of (p % 256) 0 (by omega) (by omega) (by unfold Reg.PRT_TT_CNT; omega)
theorem Reg.PRT_TT_CNT_has_11 (p : Nat) : RegSet.Has ⟨0x2004158, 0x10000, 256, 0x0, 1⟩ (Reg.PRT_TT_CNT p 11) :=
  RegSet.has_of (p % 256) 0 (by omega) (by omega) (by unfold Reg.PRT_TT_CNT; omega)
theorem Reg.PRT_TT_CNT_has_12 (p : Nat) : RegSet.Has ⟨0x2004160, 0x10000, 256, 0x0, 1⟩ (Reg.PRT_TT_CNT p 12) :=
  RegSet.has_of (p % 256) 0 (by omega) (by omega) (by unfold Reg.PRT_TT_CNT; omega)
theorem Reg.PRT_TT_CFG_has (p : Nat) : RegSet.Has ⟨0x2004000, 0x10000, 256, 0x0, 1⟩ (Reg.PRT_TT_CFG p) :=
  RegSet.has_of (p % 256) 0 (by omega) (by omega) (by unfold Reg.PRT_TT_CFG; omega)
theorem Reg.KT_DOM_CFG_has (d : Nat) : RegSet.Has ⟨0x201000, 0x100, 8, 0x0, 1⟩ (Reg.KT_DOM_CFG d) :=
  RegSet.has_of (d % 8) 0 (by omega) (by omega) (by unfold Reg.KT_DOM_CFG; omega)
theorem Reg.SLC_CNT_has_15 (s : Nat) : RegSet.Has ⟨0x1000478, 0x400000, 4, 0x0, 1⟩ (Reg.SLC_CNT s 15) :=
  RegSet.has_of (s % 4) 0 (by omega) (by omega) (by unfold Reg.SLC_CNT; omega)
theorem Reg.SLC_CNT_has_11 (s : Nat) : RegSet.Has ⟨0x1000458, 0x400000, 4, 0x0, 1⟩ (Reg.SLC_CNT s 11) :=
  RegSet.has_of (s % 4) 0 (by omega) (by omega) (by unfold Reg.SLC_CNT; omega)
theorem Reg.SLC_CNT_has_12 (s : Nat) : RegSet.Has ⟨0x1000460, 0x400000, 4, 0x0, 1⟩ (Reg.SLC_CNT s 12) :=
  RegSet.has_of (s % 4) 0 (by omega) (by omega) (by unfold Reg.SLC_CNT; omega)
theorem Reg.SLC_CNT_has_10 (s : Nat) : RegSet.Has ⟨0x1000450, 0x400000, 4, 0x0, 1⟩ (Reg.SLC_CNT s 10) :=
  RegSet.has_of (s % 4) 0 (by omega) (by omega) (by unfold Reg.SLC_CNT; omega)
theorem Reg.SLC_CNT_has_9 (s : Nat) : RegSet.Has ⟨0x1000448, 0x400000, 4, 0x0, 1⟩ (Reg.SLC_CNT s 9) :=
  RegSet.has_of (s % 4) 0 (by omega) (by omega) (by unfold Reg.SLC_CNT; omega)
theorem Reg.PRT_RX_CNT_has_6 (p : Nat) : RegSet.Has ⟨0x2000230, 0x10000, 256, 0x0, 1⟩ (Reg.PRT_RX_CNT p 6) :=
  RegSet.has_of (p % 256) 0 (by omega) (by omega) (by unfold Reg.PRT_RX_CNT; omega)
theorem Reg.PRT_RX_CNT_has_5 (p : Nat) : RegSet.Has ⟨0x2000228, 0x10000, 256, 0x0, 1⟩ (Reg.PRT_RX_CNT p 5) :=
  RegSet.has_of (p % 256) 0 (by omega) (by omega) (by unfold Reg.PRT_RX_CNT; omega)
theorem Reg.PRT_RX_CNT_has_3 (p : Nat) : RegSet.Has ⟨0x2000218, 0x10000, 256, 0x0, 1⟩ (Reg.PRT_RX_CNT p 3) :=
  RegSet.has_of (p % 256) 0 (by omega) (by omega) (by unfold Reg.PRT_RX_CNT; omega)
theorem Reg.PRT_RX_CNT_has_4 (p : Nat) : RegSet.Has ⟨0x2000220, 0x10000, 256, 0x0, 1⟩ (Reg.PRT_RX_CNT p 4) :=
  RegSet.has_of (p % 256) 0 (by omega) (by omega) (by unfold Reg.PRT_RX_CNT; omega)
theorem Reg.PRT_RX_CNT_has_2 (p : Nat) : RegSet.Has ⟨0x2000210, 0x10000, 256, 0x0, 1⟩ (Reg.PRT_RX_CNT p 2) :=
  RegSet.has_of (p % 256) 0 (by omega) (by omega) (by unfold Reg.PRT_RX_CNT; omega)
theorem Reg.PRT_STATE_has (p : Nat) : RegSet.Has ⟨0x2000000, 0x10000, 256, 0x0, 1⟩ (Reg.PRT_STATE p) :=
  RegSet.has_of (p % 256) 0 (by omega) (by omega) (by unfold Reg.PRT_STATE; omega)
theorem Reg.LN_STATUS_has (l : Nat) : RegSet.Has ⟨0x3000008, 0x4000, 256, 0x0, 1⟩ (Reg.LN_STATUS l) :=
  RegSet.has_of (l % 256) 0 (by omega) (by omega) (by unfold Reg.LN_STATUS; omega)
theorem Reg.LN_EYE_has (l : Nat) : RegSet.Has ⟨0x3000010, 0x4000, 256, 0x0, 1⟩ (Reg.LN_EYE l) :=
  RegSet.has_of (l % 256) 0 (by omega) (by omega) (by unfold Reg.LN_EYE; omega)
theorem Reg.LN_CNT_has_11 (l : Nat) : RegSet.Has ⟨0x3000158, 0x4000, 256, 0x0, 1⟩ (Reg.LN_CNT l 11) :=
  RegSet.has_of (l % 256) 0 (by omega) (by omega) (by unfold Reg.LN_CNT; omega)
theorem Reg.LN_CNT_has_2 (l : Nat) : RegSet.Has ⟨0x3000110, 0x4000, 256, 0x0, 1⟩ (Reg.LN_CNT l 2) :=
  RegSet.has_of (l % 256) 0 (by omega) (by omega) (by unfold Reg.LN_CNT; omega)
theorem Reg.LN_CNT_has_4 (l : Nat) : RegSet.Has ⟨0x3000120, 0x4000, 256, 0x0, 1⟩ (Reg.LN_CNT l 4) :=
  RegSet.has_of (l % 256) 0 (by omega) (by omega) (by unfold Reg.LN_CNT; omega)
theorem Reg.LN_CNT_has_3 (l : Nat) : RegSet.Has ⟨0x3000118, 0x4000, 256, 0x0, 1⟩ (Reg.LN_CNT l 3) :=
  RegSet.has_of (l % 256) 0 (by omega) (by omega) (by unfold Reg.LN_CNT; omega)
theorem Reg.LN_CNT_has_7 (l : Nat) : RegSet.Has ⟨0x3000138, 0x4000, 256, 0x0, 1⟩ (Reg.LN_CNT l 7) :=
  RegSet.has_of (l % 256) 0 (by omega) (by omega) (by unfold Reg.LN_CNT; omega)
theorem Reg.LN_CNT_has_6 (l : Nat) : RegSet.Has ⟨0x3000130, 0x4000, 256, 0x0, 1⟩ (Reg.LN_CNT l 6) :=
  RegSet.has_of (l % 256) 0 (by omega) (by omega) (by unfold Reg.LN_CNT; omega)
theorem Reg.LN_CTRL_has (l : Nat) : RegSet.Has ⟨0x3000004, 0x4000, 256, 0x0, 1⟩ (Reg.LN_CTRL l) :=
  RegSet.has_of (l % 256) 0 (by omega) (by omega) (by unfold Reg.LN_CTRL; omega)
theorem Reg.LN_CNT_has_1 (l : Nat) : RegSet.Has ⟨0x3000108, 0x4000, 256, 0x0, 1⟩ (Reg.LN_CNT l 1) :=
  RegSet.has_of (l % 256) 0 (by omega) (by omega) (by unfold Reg.LN_CNT; omega)
theorem Reg.CD_RP_NEXT_RSEQ_has (r : Nat) : RegSet.Has ⟨0xa02024, 0x100, 8, 0x0, 1⟩ (Reg.CD_RP_NEXT_RSEQ r) :=
  RegSet.has_of (r % 8) 0 (by omega) (by omega) (by unfold Reg.CD_RP_NEXT_RSEQ; omega)
theorem Reg.CD_RP_CNT_has_3 (r : Nat) : RegSet.Has ⟨0xa02098, 0x100, 8, 0x0, 1⟩ (Reg.CD_RP_CNT r 3) :=
  RegSet.has_of (r % 8) 0 (by omega) (by omega) (by unfold Reg.CD_RP_CNT; omega)
theorem Reg.CD_RP_CNT_has_0 (r : Nat) : RegSet.Has ⟨0xa02080, 0x100, 8, 0x0, 1⟩ (Reg.CD_RP_CNT r 0) :=
  RegSet.has_of (r % 8) 0 (by omega) (by omega) (by unfold Reg.CD_RP_CNT; omega)
theorem Reg.CD_RP_CNT_has_2 (r : Nat) : RegSet.Has ⟨0xa02090, 0x100, 8, 0x0, 1⟩ (Reg.CD_RP_CNT r 2) :=
  RegSet.has_of (r % 8) 0 (by omega) (by omega) (by unfold Reg.CD_RP_CNT; omega)
theorem Reg.CD_RP_CNT_has_1 (r : Nat) : RegSet.Has ⟨0xa02088, 0x100, 8, 0x0, 1⟩ (Reg.CD_RP_CNT r 1) :=
  RegSet.has_of (r % 8) 0 (by omega) (by omega) (by unfold Reg.CD_RP_CNT; omega)
theorem Reg.PH_CAL_STATUS_has : RegSet.Has ⟨0x400048, 0x0, 1, 0x0, 1⟩ Reg.PH_CAL_STATUS :=
  RegSet.has_of 0 0 (by omega) (by omega) (by unfold Reg.PH_CAL_STATUS; omega)
theorem Reg.SLC_AGE_has (s : Nat) : RegSet.Has ⟨0x1000204, 0x400000, 4, 0x0, 1⟩ (Reg.SLC_AGE s) :=
  RegSet.has_of (s % 4) 0 (by omega) (by omega) (by unfold Reg.SLC_AGE; omega)
theorem Reg.SLC_MOVE_has (s : Nat) : RegSet.Has ⟨0x1000208, 0x400000, 4, 0x0, 1⟩ (Reg.SLC_MOVE s) :=
  RegSet.has_of (s % 4) 0 (by omega) (by omega) (by unfold Reg.SLC_MOVE; omega)
theorem Reg.SLC_LEARN_has (s : Nat) : RegSet.Has ⟨0x1000200, 0x400000, 4, 0x0, 1⟩ (Reg.SLC_LEARN s) :=
  RegSet.has_of (s % 4) 0 (by omega) (by omega) (by unfold Reg.SLC_LEARN; omega)
theorem Reg.SLC_CARVE_has (s : Nat) : RegSet.Has ⟨0x1000220, 0x400000, 4, 0x0, 1⟩ (Reg.SLC_CARVE s) :=
  RegSet.has_of (s % 4) 0 (by omega) (by omega) (by unfold Reg.SLC_CARVE; omega)
theorem Reg.DEV_SLC_STATE_has : RegSet.Has ⟨0x108, 0x0, 1, 0x0, 1⟩ Reg.DEV_SLC_STATE :=
  RegSet.has_of 0 0 (by omega) (by omega) (by unfold Reg.DEV_SLC_STATE; omega)
theorem Reg.IMG_MUT_MASK_has : RegSet.Has ⟨0x100020, 0x0, 1, 0x0, 1⟩ Reg.IMG_MUT_MASK :=
  RegSet.has_of 0 0 (by omega) (by omega) (by unfold Reg.IMG_MUT_MASK; omega)
theorem Reg.LN_CFG_has (l : Nat) : RegSet.Has ⟨0x3000000, 0x4000, 256, 0x0, 1⟩ (Reg.LN_CFG l) :=
  RegSet.has_of (l % 256) 0 (by omega) (by omega) (by unfold Reg.LN_CFG; omega)
theorem Reg.PRT_TT_ASYM_has (p : Nat) : RegSet.Has ⟨0x2004030, 0x10000, 256, 0x0, 1⟩ (Reg.PRT_TT_ASYM p) :=
  RegSet.has_of (p % 256) 0 (by omega) (by omega) (by unfold Reg.PRT_TT_ASYM; omega)
theorem Reg.PRT_TT_MID_2_has (p : Nat) : RegSet.Has ⟨0x2004018, 0x10000, 256, 0x0, 1⟩ (Reg.PRT_TT_MID_2 p) :=
  RegSet.has_of (p % 256) 0 (by omega) (by omega) (by unfold Reg.PRT_TT_MID_2; omega)
theorem Reg.PRT_LT_HORIZON_has (p : Nat) : RegSet.Has ⟨0x2001014, 0x10000, 256, 0x0, 1⟩ (Reg.PRT_LT_HORIZON p) :=
  RegSet.has_of (p % 256) 0 (by omega) (by omega) (by unfold Reg.PRT_LT_HORIZON; omega)
theorem Reg.PRT_LT_STALE_has (p : Nat) : RegSet.Has ⟨0x2001018, 0x10000, 256, 0x0, 1⟩ (Reg.PRT_LT_STALE p) :=
  RegSet.has_of (p % 256) 0 (by omega) (by omega) (by unfold Reg.PRT_LT_STALE; omega)
theorem Reg.PRT_PFC_has (p : Nat) : RegSet.Has ⟨0x2001000, 0x10000, 256, 0x0, 1⟩ (Reg.PRT_PFC p) :=
  RegSet.has_of (p % 256) 0 (by omega) (by omega) (by unfold Reg.PRT_PFC; omega)
theorem Reg.PRT_LT_CFG_has (p : Nat) : RegSet.Has ⟨0x2001010, 0x10000, 256, 0x0, 1⟩ (Reg.PRT_LT_CFG p) :=
  RegSet.has_of (p % 256) 0 (by omega) (by omega) (by unfold Reg.PRT_LT_CFG; omega)
theorem Reg.BPM_POOL_SIZE_has (k : Nat) : RegSet.Has ⟨0x800000, 0x4, 5, 0x0, 1⟩ (Reg.BPM_POOL_SIZE k) :=
  RegSet.has_of (k % 5) 0 (by omega) (by omega) (by unfold Reg.BPM_POOL_SIZE; omega)
theorem Reg.FAB_MC_RESIDUE_has : RegSet.Has ⟨0x900000, 0x0, 1, 0x0, 1⟩ Reg.FAB_MC_RESIDUE :=
  RegSet.has_of 0 0 (by omega) (by omega) (by unfold Reg.FAB_MC_RESIDUE; omega)
theorem Reg.CD_RING_CFG_has (n : Nat) : RegSet.Has ⟨0xa01000, 0x100, 8, 0x0, 1⟩ (Reg.CD_RING_CFG n) :=
  RegSet.has_of (n % 8) 0 (by omega) (by omega) (by unfold Reg.CD_RING_CFG; omega)
theorem Reg.CD_RING_PRE_has (n : Nat) : RegSet.Has ⟨0xa01004, 0x100, 8, 0x0, 1⟩ (Reg.CD_RING_PRE n) :=
  RegSet.has_of (n % 8) 0 (by omega) (by omega) (by unfold Reg.CD_RING_PRE; omega)
theorem Reg.CD_RING_POST_has (n : Nat) : RegSet.Has ⟨0xa01008, 0x100, 8, 0x0, 1⟩ (Reg.CD_RING_POST n) :=
  RegSet.has_of (n % 8) 0 (by omega) (by omega) (by unfold Reg.CD_RING_POST; omega)
theorem Reg.CD_RP_LEAD_has (r : Nat) : RegSet.Has ⟨0xa02008, 0x100, 8, 0x0, 1⟩ (Reg.CD_RP_LEAD r) :=
  RegSet.has_of (r % 8) 0 (by omega) (by omega) (by unfold Reg.CD_RP_LEAD; omega)
theorem Reg.KT_CFG_has : RegSet.Has ⟨0x200008, 0x0, 1, 0x0, 1⟩ Reg.KT_CFG :=
  RegSet.has_of 0 0 (by omega) (by omega) (by unfold Reg.KT_CFG; omega)
theorem Reg.KT_KP_has (d : Nat) : RegSet.Has ⟨0x20100c, 0x100, 8, 0x0, 1⟩ (Reg.KT_KP d) :=
  RegSet.has_of (d % 8) 0 (by omega) (by omega) (by unfold Reg.KT_KP; omega)
theorem Reg.KT_KI_has (d : Nat) : RegSet.Has ⟨0x201010, 0x100, 8, 0x0, 1⟩ (Reg.KT_KI d) :=
  RegSet.has_of (d % 8) 0 (by omega) (by omega) (by unfold Reg.KT_KI; omega)
theorem Reg.KT_SLEW_has (d : Nat) : RegSet.Has ⟨0x201014, 0x100, 8, 0x0, 1⟩ (Reg.KT_SLEW d) :=
  RegSet.has_of (d % 8) 0 (by omega) (by omega) (by unfold Reg.KT_SLEW; omega)
theorem Reg.KT_SERVO_has (d : Nat) : RegSet.Has ⟨0x201018, 0x100, 8, 0x0, 1⟩ (Reg.KT_SERVO d) :=
  RegSet.has_of (d % 8) 0 (by omega) (by omega) (by unfold Reg.KT_SERVO; omega)
theorem Reg.VN_CFG_has : RegSet.Has ⟨0x300000, 0x0, 1, 0x0, 1⟩ Reg.VN_CFG :=
  RegSet.has_of 0 0 (by omega) (by omega) (by unfold Reg.VN_CFG; omega)
theorem Reg.VN_CFG1_has : RegSet.Has ⟨0x300004, 0x0, 1, 0x0, 1⟩ Reg.VN_CFG1 :=
  RegSet.has_of 0 0 (by omega) (by omega) (by unfold Reg.VN_CFG1; omega)
theorem Reg.VN_CAND_CFG_has (i : Nat) : RegSet.Has ⟨0x301000, 0x20, 11, 0x0, 1⟩ (Reg.VN_CAND_CFG i) :=
  RegSet.has_of (i % 11) 0 (by omega) (by omega) (by unfold Reg.VN_CAND_CFG; omega)
theorem Reg.DEV_WAKE_CFG_has : RegSet.Has ⟨0x120, 0x0, 1, 0x0, 1⟩ Reg.DEV_WAKE_CFG :=
  RegSet.has_of 0 0 (by omega) (by omega) (by unfold Reg.DEV_WAKE_CFG; omega)
theorem Reg.IMG_SLC_SERIAL_LO_has (s : Nat) : RegSet.Has ⟨0x100040, 0x8, 4, 0x0, 1⟩ (Reg.IMG_SLC_SERIAL_LO s) :=
  RegSet.has_of (s % 4) 0 (by omega) (by omega) (by unfold Reg.IMG_SLC_SERIAL_LO; omega)
theorem Reg.IMG_SLC_SERIAL_HI_has (s : Nat) : RegSet.Has ⟨0x100044, 0x8, 4, 0x0, 1⟩ (Reg.IMG_SLC_SERIAL_HI s) :=
  RegSet.has_of (s % 4) 0 (by omega) (by omega) (by unfold Reg.IMG_SLC_SERIAL_HI; omega)
theorem Reg.IMG_BASE_SERIAL_LO_has : RegSet.Has ⟨0x100030, 0x0, 1, 0x0, 1⟩ Reg.IMG_BASE_SERIAL_LO :=
  RegSet.has_of 0 0 (by omega) (by omega) (by unfold Reg.IMG_BASE_SERIAL_LO; omega)
theorem Reg.IMG_BASE_SERIAL_HI_has : RegSet.Has ⟨0x100034, 0x0, 1, 0x0, 1⟩ Reg.IMG_BASE_SERIAL_HI :=
  RegSet.has_of 0 0 (by omega) (by omega) (by unfold Reg.IMG_BASE_SERIAL_HI; omega)
theorem Reg.IMG_DETAIL_has : RegSet.Has ⟨0x100008, 0x0, 1, 0x0, 1⟩ Reg.IMG_DETAIL :=
  RegSet.has_of 0 0 (by omega) (by omega) (by unfold Reg.IMG_DETAIL; omega)
theorem Reg.IMG_DETAIL_OFS_has : RegSet.Has ⟨0x10000c, 0x0, 1, 0x0, 1⟩ Reg.IMG_DETAIL_OFS :=
  RegSet.has_of 0 0 (by omega) (by omega) (by unfold Reg.IMG_DETAIL_OFS; omega)
theorem Reg.DEV_FLASH_INFO_has : RegSet.Has ⟨0x50c, 0x0, 1, 0x0, 1⟩ Reg.DEV_FLASH_INFO :=
  RegSet.has_of 0 0 (by omega) (by omega) (by unfold Reg.DEV_FLASH_INFO; omega)
theorem Reg.DEV_RST_CAUSE_has : RegSet.Has ⟨0x114, 0x0, 1, 0x0, 1⟩ Reg.DEV_RST_CAUSE :=
  RegSet.has_of 0 0 (by omega) (by omega) (by unfold Reg.DEV_RST_CAUSE; omega)
theorem Reg.ST_IRQ_has : RegSet.Has ⟨0x700010, 0x0, 1, 0x0, 1⟩ Reg.ST_IRQ :=
  RegSet.has_of 0 0 (by omega) (by omega) (by unfold Reg.ST_IRQ; omega)
theorem Reg.ST_ENG_CRC_has (k : Nat) : RegSet.Has ⟨0x701020, 0x40, 8, 0x0, 1⟩ (Reg.ST_ENG_CRC k) :=
  RegSet.has_of (k % 8) 0 (by omega) (by omega) (by unfold Reg.ST_ENG_CRC; omega)
theorem Reg.ST_ENG_EXP_has (k : Nat) : RegSet.Has ⟨0x701010, 0x40, 8, 0x0, 1⟩ (Reg.ST_ENG_EXP k) :=
  RegSet.has_of (k % 8) 0 (by omega) (by omega) (by unfold Reg.ST_ENG_EXP; omega)
theorem Reg.ST_ENG_ALIVE_EXP_has (k : Nat) : RegSet.Has ⟨0x701024, 0x40, 8, 0x0, 1⟩ (Reg.ST_ENG_ALIVE_EXP k) :=
  RegSet.has_of (k % 8) 0 (by omega) (by omega) (by unfold Reg.ST_ENG_ALIVE_EXP; omega)
theorem Reg.ST_ECC_CNT_has_1 (m : Nat) : RegSet.Has ⟨0x700108, 0x10, 9, 0x0, 1⟩ (Reg.ST_ECC_CNT m 1) :=
  RegSet.has_of (m % 9) 0 (by omega) (by omega) (by unfold Reg.ST_ECC_CNT; omega)
theorem Reg.ST_ECC_ADDR_has (m : Nat) : RegSet.Has ⟨0x700200, 0x4, 9, 0x0, 1⟩ (Reg.ST_ECC_ADDR m) :=
  RegSet.has_of (m % 9) 0 (by omega) (by omega) (by unfold Reg.ST_ECC_ADDR; omega)
theorem Reg.PRT_FAB_CNT_has_5 (p : Nat) : RegSet.Has ⟨0x20002a8, 0x10000, 256, 0x0, 1⟩ (Reg.PRT_FAB_CNT p 5) :=
  RegSet.has_of (p % 256) 0 (by omega) (by omega) (by unfold Reg.PRT_FAB_CNT; omega)
theorem Reg.BPM_CNT_has_13 : RegSet.Has ⟨0x800168, 0x0, 1, 0x0, 1⟩ (Reg.BPM_CNT 13) :=
  RegSet.has_of 0 0 (by omega) (by omega) (by unfold Reg.BPM_CNT; omega)
theorem Reg.MSIX_has (v w : Nat) : RegSet.Has ⟨0x8000, 0x10, 64, 0x4, 4⟩ (Reg.MSIX v w) :=
  RegSet.has_of (v % 64) (w % 4) (by omega) (by omega) (by unfold Reg.MSIX; omega)
theorem Reg.DEV_HI_CNT_has_5 : RegSet.Has ⟨0x928, 0x0, 1, 0x0, 1⟩ (Reg.DEV_HI_CNT 5) :=
  RegSet.has_of 0 0 (by omega) (by omega) (by unfold Reg.DEV_HI_CNT; omega)
theorem Reg.SP_POP_has (w : Nat) : RegSet.Has ⟨0x600000, 0x4, 4, 0x0, 1⟩ (Reg.SP_POP w) :=
  RegSet.has_of (w % 4) 0 (by omega) (by omega) (by unfold Reg.SP_POP; omega)
theorem Reg.DEV_HTX_TAIL_has : RegSet.Has ⟨0x80c, 0x0, 1, 0x0, 1⟩ Reg.DEV_HTX_TAIL :=
  RegSet.has_of 0 0 (by omega) (by omega) (by unfold Reg.DEV_HTX_TAIL; omega)
theorem Reg.DEV_HTX_HEAD_has : RegSet.Has ⟨0x810, 0x0, 1, 0x0, 1⟩ Reg.DEV_HTX_HEAD :=
  RegSet.has_of 0 0 (by omega) (by omega) (by unfold Reg.DEV_HTX_HEAD; omega)
theorem Reg.DEV_HI_CNT_has (n : Nat) : RegSet.Has ⟨0x900, 0x8, 6, 0x0, 1⟩ (Reg.DEV_HI_CNT n) :=
  RegSet.has_of (n % 6) 0 (by omega) (by omega) (by unfold Reg.DEV_HI_CNT; omega)
theorem Reg.PF_SEL_has (n : Nat) : RegSet.Has ⟨0xb00100, 0x4, 64, 0x0, 1⟩ (Reg.PF_SEL n) :=
  RegSet.has_of (n % 64) 0 (by omega) (by omega) (by unfold Reg.PF_SEL; omega)
theorem Reg.DEV_MDIO_STATUS_has (m : Nat) : RegSet.Has ⟨0x404, 0x10, 4, 0x0, 1⟩ (Reg.DEV_MDIO_STATUS m) :=
  RegSet.has_of (m % 4) 0 (by omega) (by omega) (by unfold Reg.DEV_MDIO_STATUS; omega)
theorem Reg.DEV_FLASH_STATUS_has : RegSet.Has ⟨0x508, 0x0, 1, 0x0, 1⟩ Reg.DEV_FLASH_STATUS :=
  RegSet.has_of 0 0 (by omega) (by omega) (by unfold Reg.DEV_FLASH_STATUS; omega)
theorem Reg.DEV_FLASH_BUF_has (i : Nat) : RegSet.Has ⟨0x600, 0x4, 64, 0x0, 1⟩ (Reg.DEV_FLASH_BUF i) :=
  RegSet.has_of (i % 64) 0 (by omega) (by omega) (by unfold Reg.DEV_FLASH_BUF; omega)
theorem Reg.DEV_JTAG_has : RegSet.Has ⟨0x700, 0x0, 1, 0x0, 1⟩ Reg.DEV_JTAG :=
  RegSet.has_of 0 0 (by omega) (by omega) (by unfold Reg.DEV_JTAG; omega)
theorem Reg.PF_DUMP_CTRL_has : RegSet.Has ⟨0xb00510, 0x0, 1, 0x0, 1⟩ Reg.PF_DUMP_CTRL :=
  RegSet.has_of 0 0 (by omega) (by omega) (by unfold Reg.PF_DUMP_CTRL; omega)
theorem Reg.PF_DUMP_STATUS_has : RegSet.Has ⟨0xb00514, 0x0, 1, 0x0, 1⟩ Reg.PF_DUMP_STATUS :=
  RegSet.has_of 0 0 (by omega) (by omega) (by unfold Reg.PF_DUMP_STATUS; omega)
theorem Reg.PRT_CBS_has (p c : Nat) : RegSet.Has ⟨0x2001040, 0x10000, 256, 0x4, 8⟩ (Reg.PRT_CBS p c) :=
  RegSet.has_of (p % 256) (c % 8) (by omega) (by omega) (by unfold Reg.PRT_CBS; omega)
theorem Reg.KT_CNT_has_3 : RegSet.Has ⟨0x200118, 0x0, 1, 0x0, 1⟩ (Reg.KT_CNT 3) :=
  RegSet.has_of 0 0 (by omega) (by omega) (by unfold Reg.KT_CNT; omega)
theorem Reg.KT_CNT_has_4 : RegSet.Has ⟨0x200120, 0x0, 1, 0x0, 1⟩ (Reg.KT_CNT 4) :=
  RegSet.has_of 0 0 (by omega) (by omega) (by unfold Reg.KT_CNT; omega)
theorem Reg.KT_DOM_CNT_has_8 (d : Nat) : RegSet.Has ⟨0x2010c0, 0x100, 8, 0x0, 1⟩ (Reg.KT_DOM_CNT d 8) :=
  RegSet.has_of (d % 8) 0 (by omega) (by omega) (by unfold Reg.KT_DOM_CNT; omega)
theorem Reg.KT_TB_FLAGS_has : RegSet.Has ⟨0x200004, 0x0, 1, 0x0, 1⟩ Reg.KT_TB_FLAGS :=
  RegSet.has_of 0 0 (by omega) (by omega) (by unfold Reg.KT_TB_FLAGS; omega)
theorem Reg.KT_FHT_DEV_has : RegSet.Has ⟨0x200028, 0x0, 1, 0x0, 1⟩ Reg.KT_FHT_DEV :=
  RegSet.has_of 0 0 (by omega) (by omega) (by unfold Reg.KT_FHT_DEV; omega)
theorem Reg.KT_CNT_has_6 : RegSet.Has ⟨0x200130, 0x0, 1, 0x0, 1⟩ (Reg.KT_CNT 6) :=
  RegSet.has_of 0 0 (by omega) (by omega) (by unfold Reg.KT_CNT; omega)
theorem Reg.KT_CNT_has_7 : RegSet.Has ⟨0x200138, 0x0, 1, 0x0, 1⟩ (Reg.KT_CNT 7) :=
  RegSet.has_of 0 0 (by omega) (by omega) (by unfold Reg.KT_CNT; omega)
theorem Reg.KT_ALM_STATUS_has : RegSet.Has ⟨0x200480, 0x0, 1, 0x0, 1⟩ Reg.KT_ALM_STATUS :=
  RegSet.has_of 0 0 (by omega) (by omega) (by unfold Reg.KT_ALM_STATUS; omega)
theorem Reg.KT_CNT_has_8 : RegSet.Has ⟨0x200140, 0x0, 1, 0x0, 1⟩ (Reg.KT_CNT 8) :=
  RegSet.has_of 0 0 (by omega) (by omega) (by unfold Reg.KT_CNT; omega)
theorem Reg.VN_CNT_has_7 : RegSet.Has ⟨0x300138, 0x0, 1, 0x0, 1⟩ (Reg.VN_CNT 7) :=
  RegSet.has_of 0 0 (by omega) (by omega) (by unfold Reg.VN_CNT; omega)
theorem Reg.PH_FM_N_has (e : Nat) : RegSet.Has ⟨0x400118, 0x20, 5, 0x0, 1⟩ (Reg.PH_FM_N e) :=
  RegSet.has_of (e % 5) 0 (by omega) (by omega) (by unfold Reg.PH_FM_N; omega)
theorem Reg.PH_FM_RES_has (e : Nat) : RegSet.Has ⟨0x400110, 0x20, 5, 0x0, 1⟩ (Reg.PH_FM_RES e) :=
  RegSet.has_of (e % 5) 0 (by omega) (by omega) (by unfold Reg.PH_FM_RES; omega)
theorem Reg.PH_FM_RMS_has (e : Nat) : RegSet.Has ⟨0x40010c, 0x20, 5, 0x0, 1⟩ (Reg.PH_FM_RMS e) :=
  RegSet.has_of (e % 5) 0 (by omega) (by omega) (by unfold Reg.PH_FM_RMS; omega)
theorem Reg.PH_CNT_has_5 (n : Nat) : RegSet.Has ⟨0x410068, 0x80, 229, 0x0, 1⟩ (Reg.PH_CNT n 5) :=
  RegSet.has_of (n % 229) 0 (by omega) (by omega) (by unfold Reg.PH_CNT; omega)
theorem Reg.PH_SKEW_has (s : Nat) : RegSet.Has ⟨0x400030, 0x4, 4, 0x0, 1⟩ (Reg.PH_SKEW s) :=
  RegSet.has_of (s % 4) 0 (by omega) (by omega) (by unfold Reg.PH_SKEW; omega)
theorem Reg.PIN_CLK_FLAGS_has : RegSet.Has ⟨0x502100, 0x0, 1, 0x0, 1⟩ Reg.PIN_CLK_FLAGS :=
  RegSet.has_of 0 0 (by omega) (by omega) (by unfold Reg.PIN_CLK_FLAGS; omega)
theorem Reg.PRT_FAB_CNT_has_4 (p : Nat) : RegSet.Has ⟨0x20002a0, 0x10000, 256, 0x0, 1⟩ (Reg.PRT_FAB_CNT p 4) :=
  RegSet.has_of (p % 256) 0 (by omega) (by omega) (by unfold Reg.PRT_FAB_CNT; omega)
theorem Reg.FAB_CNT_has_7 : RegSet.Has ⟨0x900138, 0x0, 1, 0x0, 1⟩ (Reg.FAB_CNT 7) :=
  RegSet.has_of 0 0 (by omega) (by omega) (by unfold Reg.FAB_CNT; omega)
theorem Reg.FAB_CNT_has_8 : RegSet.Has ⟨0x900140, 0x0, 1, 0x0, 1⟩ (Reg.FAB_CNT 8) :=
  RegSet.has_of 0 0 (by omega) (by omega) (by unfold Reg.FAB_CNT; omega)
theorem Reg.PRT_FAB_CNT_has_8 (p : Nat) : RegSet.Has ⟨0x20002c0, 0x10000, 256, 0x0, 1⟩ (Reg.PRT_FAB_CNT p 8) :=
  RegSet.has_of (p % 256) 0 (by omega) (by omega) (by unfold Reg.PRT_FAB_CNT; omega)
theorem Reg.BPM_CNT_has_9 : RegSet.Has ⟨0x800148, 0x0, 1, 0x0, 1⟩ (Reg.BPM_CNT 9) :=
  RegSet.has_of 0 0 (by omega) (by omega) (by unfold Reg.BPM_CNT; omega)
theorem Reg.BPM_AUDIT_has : RegSet.Has ⟨0x800090, 0x0, 1, 0x0, 1⟩ Reg.BPM_AUDIT :=
  RegSet.has_of 0 0 (by omega) (by omega) (by unfold Reg.BPM_AUDIT; omega)
theorem Reg.LN_CNT_has_12 (l : Nat) : RegSet.Has ⟨0x3000160, 0x4000, 256, 0x0, 1⟩ (Reg.LN_CNT l 12) :=
  RegSet.has_of (l % 256) 0 (by omega) (by omega) (by unfold Reg.LN_CNT; omega)
theorem Reg.LN_CNT_has_13 (l : Nat) : RegSet.Has ⟨0x3000168, 0x4000, 256, 0x0, 1⟩ (Reg.LN_CNT l 13) :=
  RegSet.has_of (l % 256) 0 (by omega) (by omega) (by unfold Reg.LN_CNT; omega)
theorem Reg.LN_CNT_has_0 (l : Nat) : RegSet.Has ⟨0x3000100, 0x4000, 256, 0x0, 1⟩ (Reg.LN_CNT l 0) :=
  RegSet.has_of (l % 256) 0 (by omega) (by omega) (by unfold Reg.LN_CNT; omega)
theorem Reg.LN_CNT_has_15 (l : Nat) : RegSet.Has ⟨0x3000178, 0x4000, 256, 0x0, 1⟩ (Reg.LN_CNT l 15) :=
  RegSet.has_of (l % 256) 0 (by omega) (by omega) (by unfold Reg.LN_CNT; omega)
theorem Reg.DEV_WAKE_SRC_has : RegSet.Has ⟨0x124, 0x0, 1, 0x0, 1⟩ Reg.DEV_WAKE_SRC :=
  RegSet.has_of 0 0 (by omega) (by omega) (by unfold Reg.DEV_WAKE_SRC; omega)
theorem Reg.ST_ECC_CNT_has_0 (m : Nat) : RegSet.Has ⟨0x700100, 0x10, 9, 0x0, 1⟩ (Reg.ST_ECC_CNT m 0) :=
  RegSet.has_of (m % 9) 0 (by omega) (by omega) (by unfold Reg.ST_ECC_CNT; omega)
theorem Reg.ST_SCRUB_has (m : Nat) : RegSet.Has ⟨0x700240, 0x4, 9, 0x0, 1⟩ (Reg.ST_SCRUB m) :=
  RegSet.has_of (m % 9) 0 (by omega) (by omega) (by unfold Reg.ST_SCRUB; omega)
theorem Reg.DEV_TEMP_has : RegSet.Has ⟨0xa00, 0x0, 1, 0x0, 1⟩ Reg.DEV_TEMP :=
  RegSet.has_of 0 0 (by omega) (by omega) (by unfold Reg.DEV_TEMP; omega)
theorem Reg.DEV_TEMP_MEM_has : RegSet.Has ⟨0xa04, 0x0, 1, 0x0, 1⟩ Reg.DEV_TEMP_MEM :=
  RegSet.has_of 0 0 (by omega) (by omega) (by unfold Reg.DEV_TEMP_MEM; omega)
theorem Reg.DEV_TEMP_FLAGS_has : RegSet.Has ⟨0xa08, 0x0, 1, 0x0, 1⟩ Reg.DEV_TEMP_FLAGS :=
  RegSet.has_of 0 0 (by omega) (by omega) (by unfold Reg.DEV_TEMP_FLAGS; omega)
theorem Reg.PRT_TT_TRIM_RX_has (p : Nat) : RegSet.Has ⟨0x2004038, 0x10000, 256, 0x0, 1⟩ (Reg.PRT_TT_TRIM_RX p) :=
  RegSet.has_of (p % 256) 0 (by omega) (by omega) (by unfold Reg.PRT_TT_TRIM_RX; omega)
theorem Reg.PRT_TT_TRIM_TX_has (p : Nat) : RegSet.Has ⟨0x2004034, 0x10000, 256, 0x0, 1⟩ (Reg.PRT_TT_TRIM_TX p) :=
  RegSet.has_of (p % 256) 0 (by omega) (by omega) (by unfold Reg.PRT_TT_TRIM_TX; omega)
theorem Reg.DEV_HI_CNT_has_4 : RegSet.Has ⟨0x920, 0x0, 1, 0x0, 1⟩ (Reg.DEV_HI_CNT 4) :=
  RegSet.has_of 0 0 (by omega) (by omega) (by unfold Reg.DEV_HI_CNT; omega)
theorem Reg.DEV_PWR_FLAGS_has : RegSet.Has ⟨0xa14, 0x0, 1, 0x0, 1⟩ Reg.DEV_PWR_FLAGS :=
  RegSet.has_of 0 0 (by omega) (by omega) (by unfold Reg.DEV_PWR_FLAGS; omega)
theorem Reg.SLC_CNT_has (s n : Nat) : RegSet.Has ⟨0x1000400, 0x400000, 4, 0x8, 16⟩ (Reg.SLC_CNT s n) :=
  RegSet.has_of (s % 4) (n % 16) (by omega) (by omega) (by unfold Reg.SLC_CNT; omega)
theorem Reg.ERR_STATUS_has_DEV : RegSet.Has ⟨0xf0, 0x0, 1, 0x0, 1⟩ (Reg.ERR_STATUS Base.DEV) := RegSet.has_of 0 0 (by omega) (by omega) rfl
theorem Reg.ERR_OFS_has_DEV : RegSet.Has ⟨0xf4, 0x0, 1, 0x0, 1⟩ (Reg.ERR_OFS Base.DEV) := RegSet.has_of 0 0 (by omega) (by omega) rfl
theorem Reg.ERR_STATUS_has_IMG : RegSet.Has ⟨0x1000f0, 0x0, 1, 0x0, 1⟩ (Reg.ERR_STATUS Base.IMG) := RegSet.has_of 0 0 (by omega) (by omega) rfl
theorem Reg.ERR_OFS_has_IMG : RegSet.Has ⟨0x1000f4, 0x0, 1, 0x0, 1⟩ (Reg.ERR_OFS Base.IMG) := RegSet.has_of 0 0 (by omega) (by omega) rfl
theorem Reg.ERR_STATUS_has_KT : RegSet.Has ⟨0x2000f0, 0x0, 1, 0x0, 1⟩ (Reg.ERR_STATUS Base.KT) := RegSet.has_of 0 0 (by omega) (by omega) rfl
theorem Reg.ERR_OFS_has_KT : RegSet.Has ⟨0x2000f4, 0x0, 1, 0x0, 1⟩ (Reg.ERR_OFS Base.KT) := RegSet.has_of 0 0 (by omega) (by omega) rfl
theorem Reg.ERR_STATUS_has_VN : RegSet.Has ⟨0x3000f0, 0x0, 1, 0x0, 1⟩ (Reg.ERR_STATUS Base.VN) := RegSet.has_of 0 0 (by omega) (by omega) rfl
theorem Reg.ERR_OFS_has_VN : RegSet.Has ⟨0x3000f4, 0x0, 1, 0x0, 1⟩ (Reg.ERR_OFS Base.VN) := RegSet.has_of 0 0 (by omega) (by omega) rfl
theorem Reg.ERR_STATUS_has_PH : RegSet.Has ⟨0x4000f0, 0x0, 1, 0x0, 1⟩ (Reg.ERR_STATUS Base.PH) := RegSet.has_of 0 0 (by omega) (by omega) rfl
theorem Reg.ERR_OFS_has_PH : RegSet.Has ⟨0x4000f4, 0x0, 1, 0x0, 1⟩ (Reg.ERR_OFS Base.PH) := RegSet.has_of 0 0 (by omega) (by omega) rfl
theorem Reg.ERR_STATUS_has_PIN : RegSet.Has ⟨0x5000f0, 0x0, 1, 0x0, 1⟩ (Reg.ERR_STATUS Base.PIN) := RegSet.has_of 0 0 (by omega) (by omega) rfl
theorem Reg.ERR_OFS_has_PIN : RegSet.Has ⟨0x5000f4, 0x0, 1, 0x0, 1⟩ (Reg.ERR_OFS Base.PIN) := RegSet.has_of 0 0 (by omega) (by omega) rfl
theorem Reg.ERR_STATUS_has_SP : RegSet.Has ⟨0x6000f0, 0x0, 1, 0x0, 1⟩ (Reg.ERR_STATUS Base.SP) := RegSet.has_of 0 0 (by omega) (by omega) rfl
theorem Reg.ERR_OFS_has_SP : RegSet.Has ⟨0x6000f4, 0x0, 1, 0x0, 1⟩ (Reg.ERR_OFS Base.SP) := RegSet.has_of 0 0 (by omega) (by omega) rfl
theorem Reg.ERR_STATUS_has_ST : RegSet.Has ⟨0x7000f0, 0x0, 1, 0x0, 1⟩ (Reg.ERR_STATUS Base.ST) := RegSet.has_of 0 0 (by omega) (by omega) rfl
theorem Reg.ERR_OFS_has_ST : RegSet.Has ⟨0x7000f4, 0x0, 1, 0x0, 1⟩ (Reg.ERR_OFS Base.ST) := RegSet.has_of 0 0 (by omega) (by omega) rfl
theorem Reg.ERR_STATUS_has_BPM : RegSet.Has ⟨0x8000f0, 0x0, 1, 0x0, 1⟩ (Reg.ERR_STATUS Base.BPM) := RegSet.has_of 0 0 (by omega) (by omega) rfl
theorem Reg.ERR_OFS_has_BPM : RegSet.Has ⟨0x8000f4, 0x0, 1, 0x0, 1⟩ (Reg.ERR_OFS Base.BPM) := RegSet.has_of 0 0 (by omega) (by omega) rfl
theorem Reg.ERR_STATUS_has_FAB : RegSet.Has ⟨0x9000f0, 0x0, 1, 0x0, 1⟩ (Reg.ERR_STATUS Base.FAB) := RegSet.has_of 0 0 (by omega) (by omega) rfl
theorem Reg.ERR_OFS_has_FAB : RegSet.Has ⟨0x9000f4, 0x0, 1, 0x0, 1⟩ (Reg.ERR_OFS Base.FAB) := RegSet.has_of 0 0 (by omega) (by omega) rfl
theorem Reg.ERR_STATUS_has_CD : RegSet.Has ⟨0xa000f0, 0x0, 1, 0x0, 1⟩ (Reg.ERR_STATUS Base.CD) := RegSet.has_of 0 0 (by omega) (by omega) rfl
theorem Reg.ERR_OFS_has_CD : RegSet.Has ⟨0xa000f4, 0x0, 1, 0x0, 1⟩ (Reg.ERR_OFS Base.CD) := RegSet.has_of 0 0 (by omega) (by omega) rfl
theorem Reg.ERR_STATUS_has_PF : RegSet.Has ⟨0xb000f0, 0x0, 1, 0x0, 1⟩ (Reg.ERR_STATUS Base.PF) := RegSet.has_of 0 0 (by omega) (by omega) rfl
theorem Reg.ERR_OFS_has_PF : RegSet.Has ⟨0xb000f4, 0x0, 1, 0x0, 1⟩ (Reg.ERR_OFS Base.PF) := RegSet.has_of 0 0 (by omega) (by omega) rfl
theorem Reg.ERR_STATUS_has_SLC (i : Nat) : RegSet.Has ⟨0x10000f0, 0x400000, 4, 0x0, 1⟩ (Reg.ERR_STATUS (Base.SLC i)) :=
  RegSet.has_of (i % 4) 0 (by omega) (by omega) (by unfold Reg.ERR_STATUS Base.SLC; omega)
theorem Reg.ERR_OFS_has_SLC (i : Nat) : RegSet.Has ⟨0x10000f4, 0x400000, 4, 0x0, 1⟩ (Reg.ERR_OFS (Base.SLC i)) :=
  RegSet.has_of (i % 4) 0 (by omega) (by omega) (by unfold Reg.ERR_OFS Base.SLC; omega)
theorem Reg.ERR_STATUS_has_PRT (i : Nat) : RegSet.Has ⟨0x20000f0, 0x10000, 256, 0x0, 1⟩ (Reg.ERR_STATUS (Base.PRT i)) :=
  RegSet.has_of (i % 256) 0 (by omega) (by omega) (by unfold Reg.ERR_STATUS Base.PRT; omega)
theorem Reg.ERR_OFS_has_PRT (i : Nat) : RegSet.Has ⟨0x20000f4, 0x10000, 256, 0x0, 1⟩ (Reg.ERR_OFS (Base.PRT i)) :=
  RegSet.has_of (i % 256) 0 (by omega) (by omega) (by unfold Reg.ERR_OFS Base.PRT; omega)
theorem Reg.ERR_STATUS_has_LN (i : Nat) : RegSet.Has ⟨0x30000f0, 0x4000, 256, 0x0, 1⟩ (Reg.ERR_STATUS (Base.LN i)) :=
  RegSet.has_of (i % 256) 0 (by omega) (by omega) (by unfold Reg.ERR_STATUS Base.LN; omega)
theorem Reg.ERR_OFS_has_LN (i : Nat) : RegSet.Has ⟨0x30000f4, 0x4000, 256, 0x0, 1⟩ (Reg.ERR_OFS (Base.LN i)) :=
  RegSet.has_of (i % 256) 0 (by omega) (by omega) (by unfold Reg.ERR_OFS Base.LN; omega)
theorem Reg.ERR_STATUS_has_TW (i : Nat) : RegSet.Has ⟨0x34000f0, 0x1000, 4, 0x0, 1⟩ (Reg.ERR_STATUS (Base.TW i)) :=
  RegSet.has_of (i % 4) 0 (by omega) (by omega) (by unfold Reg.ERR_STATUS Base.TW; omega)
theorem Reg.ERR_OFS_has_TW (i : Nat) : RegSet.Has ⟨0x34000f4, 0x1000, 4, 0x0, 1⟩ (Reg.ERR_OFS (Base.TW i)) :=
  RegSet.has_of (i % 4) 0 (by omega) (by omega) (by unfold Reg.ERR_OFS Base.TW; omega)

end Sys2Proof.Machine
end

