-- ==== Sys2Proof/Laws/SMap.lean ====
section
/-! SUPPORT. Sparse maps: a read after a write gives the value written, a write leaves every other key alone, and every operation keeps the
canonical form. -/

namespace Sys2Proof.Machine

variable {α : Type}

/-! ## Reads after writes -/

theorem SMap.lookup_insertEntry_self (k : Nat) (v : α) (l : List (Nat × α)) (h : SMap.lookup l k = none) :
    SMap.lookup (SMap.insertEntry k v l) k = some v := by
  induction l with
  | nil => simp [SMap.insertEntry, SMap.lookup]
  | cons e t ih =>
    obtain ⟨k', v'⟩ := e
    simp only [SMap.lookup] at h
    split at h
    · cases h
    · rename_i hk
      simp only [SMap.insertEntry]
      split
      · simp [SMap.lookup]
      · simp [SMap.lookup, hk, ih h]

theorem SMap.lookup_insertEntry_ne {k j : Nat} (v : α) (l : List (Nat × α)) (h : j ≠ k) :
    SMap.lookup (SMap.insertEntry k v l) j = SMap.lookup l j := by
  induction l with
  | nil => simp [SMap.insertEntry, SMap.lookup, h.symm]
  | cons e t ih =>
    obtain ⟨k', v'⟩ := e
    simp only [SMap.insertEntry]
    split
    · simp [SMap.lookup, h.symm]
    · simp [SMap.lookup, ih]

theorem SMap.lookup_dropKey_self (k : Nat) (l : List (Nat × α)) : SMap.lookup (SMap.dropKey k l) k = none := by
  induction l with
  | nil => rfl
  | cons e t ih =>
    obtain ⟨k', v'⟩ := e
    simp only [SMap.dropKey]
    split
    · exact ih
    · simp_all [SMap.lookup]

theorem SMap.lookup_dropKey_ne {k j : Nat} (l : List (Nat × α)) (h : j ≠ k) :
    SMap.lookup (SMap.dropKey k l) j = SMap.lookup l j := by
  induction l with
  | nil => rfl
  | cons e t ih =>
    obtain ⟨k', v'⟩ := e
    simp only [SMap.dropKey]
    split
    · subst_vars; simp [SMap.lookup, ih, h.symm]
    · simp [SMap.lookup, ih]

@[simp] theorem SMap.get?_empty (k : Nat) : (SMap.empty : SMap α).get? k = none := rfl
@[simp] theorem SMap.getD_empty (k : Nat) (d : α) : (SMap.empty : SMap α).getD k d = d := rfl

@[simp] theorem SMap.get?_put_self (m : SMap α) (k : Nat) (v : α) : (m.put k v).get? k = some v :=
  SMap.lookup_insertEntry_self k v _ (SMap.lookup_dropKey_self k _)

theorem SMap.get?_put_ne (m : SMap α) {k j : Nat} (v : α) (h : j ≠ k) : (m.put k v).get? j = m.get? j := by
  simp [SMap.get?, SMap.put, SMap.lookup_insertEntry_ne v _ h, SMap.lookup_dropKey_ne _ h]

@[simp] theorem SMap.get?_del_self (m : SMap α) (k : Nat) : (m.del k).get? k = none := SMap.lookup_dropKey_self k _

theorem SMap.get?_del_ne (m : SMap α) {k j : Nat} (h : j ≠ k) : (m.del k).get? j = m.get? j :=
  SMap.lookup_dropKey_ne _ h

@[simp] theorem SMap.getD_put_self (m : SMap α) (k : Nat) (v d : α) : (m.put k v).getD k d = v := by
  simp [SMap.getD]

theorem SMap.getD_put_ne (m : SMap α) {k j : Nat} (v d : α) (h : j ≠ k) : (m.put k v).getD j d = m.getD j d := by
  simp [SMap.getD, SMap.get?_put_ne m v h]

@[simp] theorem SMap.getD_setD_self [DecidableEq α] (m : SMap α) (k : Nat) (v d : α) : (m.setD k v d).getD k d = v := by
  unfold SMap.setD
  split
  · subst_vars; simp [SMap.getD]
  · simp

theorem SMap.getD_setD_ne [DecidableEq α] (m : SMap α) {k j : Nat} (v d e : α) (h : j ≠ k) :
    (m.setD k v d).getD j e = m.getD j e := by
  unfold SMap.setD
  split
  · simp [SMap.getD, SMap.get?_del_ne m h]
  · exact SMap.getD_put_ne m v e h

theorem SMap.lookup_filter (l : List (Nat × α)) (p : Nat → α → Bool) (k : Nat) (hp : ∀ v, p k v = true) :
    SMap.lookup (l.filter fun e => p e.1 e.2) k = SMap.lookup l k := by
  induction l with
  | nil => rfl
  | cons e t ih =>
    obtain ⟨k', v'⟩ := e
    simp only [List.filter]
    split
    · simp [SMap.lookup, ih]
    · rename_i hf
      have : k' ≠ k := by rintro rfl; simp [hp] at hf
      simp [SMap.lookup, ih, this]

theorem SMap.lookup_filter_out (l : List (Nat × α)) (p : Nat → α → Bool) (k : Nat) (hp : ∀ v, p k v = false) :
    SMap.lookup (l.filter fun e => p e.1 e.2) k = none := by
  induction l with
  | nil => rfl
  | cons e t ih =>
    obtain ⟨k', v'⟩ := e
    simp only [List.filter]
    split
    · rename_i hf
      have : k' ≠ k := by rintro rfl; simp [hp] at hf
      simp [SMap.lookup, ih, this]
    · exact ih

/-! ## The canonical form -/

theorem SMap.mem_dropKey {k : Nat} {l : List (Nat × α)} {e : Nat × α} (h : e ∈ SMap.dropKey k l) : e ∈ l ∧ e.1 ≠ k := by
  induction l with
  | nil => cases h
  | cons x t ih =>
    obtain ⟨k', v'⟩ := x
    simp only [SMap.dropKey] at h
    split at h
    · exact ⟨List.mem_cons_of_mem _ (ih h).1, (ih h).2⟩
    · rcases List.mem_cons.mp h with rfl | h
      · exact ⟨by simp, by assumption⟩
      · exact ⟨List.mem_cons_of_mem _ (ih h).1, (ih h).2⟩

theorem SMap.mem_insertEntry {k : Nat} {v : α} {l : List (Nat × α)} {e : Nat × α} (h : e ∈ SMap.insertEntry k v l) :
    e = (k, v) ∨ e ∈ l := by
  induction l with
  | nil => simpa [SMap.insertEntry] using h
  | cons x t ih =>
    obtain ⟨k', v'⟩ := x
    simp only [SMap.insertEntry] at h
    split at h
    · simpa using h
    · rcases List.mem_cons.mp h with rfl | h
      · exact .inr (by simp)
      · rcases ih h with rfl | h
        · exact .inl rfl
        · exact .inr (List.mem_cons_of_mem _ h)

theorem SMap.dropKey_sorted (k : Nat) (l : List (Nat × α)) (h : (l.map (·.1)).Pairwise (· < ·)) :
    ((SMap.dropKey k l).map (·.1)).Pairwise (· < ·) := by
  induction l with
  | nil => simp [SMap.dropKey]
  | cons x t ih =>
    obtain ⟨k', v'⟩ := x
    simp only [List.map_cons, List.pairwise_cons] at h
    simp only [SMap.dropKey]
    split
    · exact ih h.2
    · simp only [List.map_cons, List.pairwise_cons]
      refine ⟨fun a ha => ?_, ih h.2⟩
      obtain ⟨e, he, rfl⟩ := List.mem_map.mp ha
      exact h.1 _ (List.mem_map_of_mem (SMap.mem_dropKey he).1)

theorem SMap.insertEntry_sorted (k : Nat) (v : α) (l : List (Nat × α)) (h : (l.map (·.1)).Pairwise (· < ·))
    (hk : ∀ e ∈ l, e.1 ≠ k) : ((SMap.insertEntry k v l).map (·.1)).Pairwise (· < ·) := by
  induction l with
  | nil => simp [SMap.insertEntry]
  | cons x t ih =>
    obtain ⟨k', v'⟩ := x
    simp only [List.map_cons, List.pairwise_cons] at h
    simp only [SMap.insertEntry]
    have hne : k' ≠ k := hk (k', v') (by simp)
    split
    · simp only [List.map_cons, List.pairwise_cons, List.mem_cons, forall_eq_or_imp]
      refine ⟨⟨by assumption, fun a ha => lt_trans (by assumption) (h.1 a ha)⟩, h.1, h.2⟩
    · simp only [List.map_cons, List.pairwise_cons]
      refine ⟨fun a ha => ?_, ih h.2 fun e he => hk e (List.mem_cons_of_mem _ he)⟩
      obtain ⟨e, he, rfl⟩ := List.mem_map.mp ha
      rcases SMap.mem_insertEntry he with rfl | he
      · simp only; omega
      · exact h.1 _ (List.mem_map_of_mem he)

theorem SMap.del_sorted {m : SMap α} (k : Nat) (h : m.Sorted) : (m.del k).Sorted := SMap.dropKey_sorted k _ h

theorem SMap.put_sorted {m : SMap α} (k : Nat) (v : α) (h : m.Sorted) : (m.put k v).Sorted :=
  SMap.insertEntry_sorted k v _ (SMap.dropKey_sorted k _ h) fun _ he => (SMap.mem_dropKey he).2

theorem SMap.setD_sorted [DecidableEq α] {m : SMap α} (k : Nat) (v d : α) (h : m.Sorted) : (m.setD k v d).Sorted := by
  unfold SMap.setD
  split
  · exact SMap.del_sorted k h
  · exact SMap.put_sorted k v h

theorem SMap.filter_sorted {m : SMap α} (p : Nat → α → Bool) (h : m.Sorted) : (m.filter p).Sorted :=
  List.Pairwise.sublist (List.filter_sublist.map _) h

theorem SMap.mapV_sorted {m : SMap α} (f : Nat → α → α) (h : m.Sorted) : (m.mapV f).Sorted := by
  simpa [SMap.Sorted, SMap.keys, SMap.mapV, Function.comp_def] using h

theorem SMap.empty_canonical (d : Nat → α) : (SMap.empty : SMap α).Canonical d :=
  ⟨List.Pairwise.nil, by simp [SMap.empty]⟩

theorem SMap.setD_canonical [DecidableEq α] {m : SMap α} {d : Nat → α} (k : Nat) (v : α) (h : m.Canonical d) :
    (m.setD k v (d k)).Canonical d := by
  refine ⟨SMap.setD_sorted k v _ h.1, fun e he => ?_⟩
  unfold SMap.setD at he
  split at he
  · exact h.2 e (SMap.mem_dropKey he).1
  · rcases SMap.mem_insertEntry he with rfl | he
    · assumption
    · exact h.2 e (SMap.mem_dropKey he).1

theorem SMap.filter_canonical {m : SMap α} {d : Nat → α} (p : Nat → α → Bool) (h : m.Canonical d) : (m.filter p).Canonical d :=
  ⟨SMap.filter_sorted p h.1, fun e he => h.2 e (List.mem_of_mem_filter he)⟩

end Sys2Proof.Machine
end

