-- ==== Sys2Proof/Laws/Regs.lean ====
section
/-! SUPPORT. Registers and fields: a read after a write gives the value written, a write leaves every other register alone. -/

namespace Sys2Proof.Machine

@[simp] theorem State.rd_wr_self (s : State) (a : Nat) (v : Reg64) : (s.wr a v).rd a = v := by
  simp [State.rd, State.wr]

theorem State.rd_wr_ne (s : State) {a b : Nat} (v : Reg64) (h : b ≠ a) : (s.wr a v).rd b = s.rd b := by
  simp [State.rd, State.wr, SMap.getD_setD_ne _ _ _ _ h]

theorem State.rd_wr (s : State) (a b : Nat) (v : Reg64) : (s.wr a v).rd b = if b = a then v else s.rd b := by
  split
  · subst_vars; simp
  · exact s.rd_wr_ne v (by assumption)

/-- A register that no write names keeps its value. -/
theorem State.rd_setFld_ne (s : State) (f : Fld) {b : Nat} (v : Nat) (h : b ≠ f.ofs) : (s.setFld f v).rd b = s.rd b :=
  s.rd_wr_ne _ h

/-- A field reads as the value given to it, cut to its width. -/
theorem State.fld_setFld_self (s : State) (f : Fld) (v : Nat) (h : f.hi < 64) (hl : f.lo ≤ f.hi) :
    (s.setFld f v).fld f = v % 2 ^ (f.hi + 1 - f.lo) := by
  simp [State.fld, State.setFld, bitsOf_withBits_self _ _ h hl]

/-- A field of another register reads as before. -/
theorem State.fld_setFld_ofs (s : State) (f g : Fld) (v : Nat) (h : g.ofs ≠ f.ofs) : (s.setFld f v).fld g = s.fld g := by
  simp [State.fld, s.rd_setFld_ne f v h]

/-- A disjoint field of the same register reads as before. -/
theorem State.fld_setFld_bits (s : State) (f g : Fld) (v : Nat) (h : f.hi < 64) (hl : f.lo ≤ f.hi) (hg : g.lo ≤ g.hi) (ho : g.ofs = f.ofs)
    (hd : g.hi < f.lo ∨ f.hi < g.lo) : (s.setFld f v).fld g = s.fld g := by
  simp [State.fld, State.setFld, ho, bitsOf_withBits_disjoint _ _ h hl hg hd]

/-- A register that reads the same has the same fields. -/
theorem State.fld_of_rd {s t : State} (f : Fld) (h : t.rd f.ofs = s.rd f.ofs) : t.fld f = s.fld f := by
  simp [State.fld, h]

@[simp] theorem State.rd_countN_self (s : State) (a n : Nat) : (s.countN a n).rd a = s.rd a + BitVec.ofNat 64 n := by
  simp [State.countN]

@[simp] theorem State.rd_count_self (s : State) (a : Nat) : (s.count a).rd a = s.rd a + 1 := by
  simp [State.count]

theorem State.rd_count_ne (s : State) {a b : Nat} (h : b ≠ a) : (s.count a).rd b = s.rd b := s.rd_wr_ne _ h

theorem State.wr_canonical {s : State} (a : Nat) (v : Reg64) (h : s.regs.Canonical Reg.por) : (s.wr a v).regs.Canonical Reg.por :=
  SMap.setD_canonical a v h

/-- Registers returned to POR: those of the predicate read as POR, the others as before. -/
theorem State.rd_porWhere (s : State) (p : Nat → Bool) (a : Nat) : (s.porWhere p).rd a = if p a then Reg.por a else s.rd a := by
  change (SMap.lookup (s.regs.entries.filter fun e => !p e.1) a).getD (Reg.por a) = _
  split
  · rw [SMap.lookup_filter_out _ (fun k _ => !p k) a (by simp_all)]; rfl
  · rw [SMap.lookup_filter _ (fun k _ => !p k) a (by simp_all)]; rfl

end Sys2Proof.Machine
end

