-- ==== Sys2Proof/Laws/Law.lean ====
section
/-! SUPPORT. What an operation may change: `Law W P s t` says that from `s` to `t` only registers of the families in mask `W` and parts in mask
`P` change, that the queue and the cycle count stay, and that the register file keeps its canonical form. Every operation of the
model has one law; a caller cites it in place of unfolding the operation. -/

namespace Sys2Proof.Machine

/-- Whether offset `a` belongs to a register family whose bit is set in `W`; bit 0 stands for every offset. -/
def InMask (W a : Nat) : Prop := W.testBit 0 = true ∨ ∃ k r, W.testBit k = true ∧ families[k]? = some r ∧ RegSet.Has r a

/-- The parts by bit number. -/
def parts : List Part :=
  [.dev, .pcie, .irq, .spout, .host, .cfg, .img, .scans, .kettle, .aon, .vane, .caddy, .phase, .cal, .slices, .fab, .lines, .tt, .freeCtr, .uid, .out]

/-- Whether a part's bit is set in `P`. -/
def PartIn (P : Nat) (p : Part) : Prop := P.testBit (parts.idxOf p) = true

/-- The law of a change: registers in `W`, parts in `P`. -/
structure Law (W P : Nat) (s t : State) : Prop where
  regs : ∀ a, ¬ InMask W a → t.rd a = s.rd a
  parts : ∀ p, ¬ PartIn P p → p.Same s t
  pending : t.pending = s.pending
  cycle : t.cycle = s.cycle
  canon : s.regsCanonical → t.regsCanonical

theorem sub_trans {c m W : Nat} (h1 : c &&& m = c) (h2 : m &&& W = m) : c &&& W = c := by
  rw [← h1, Nat.and_assoc, h2]

theorem testBit_of_sub {c W k : Nat} (h : c &&& W = c) (hk : c.testBit k = true) : W.testBit k = true := by
  have := Nat.testBit_and c W k
  rw [h, hk] at this; simpa using this.symm

theorem InMask.mono {V W a : Nat} (h : V &&& W = V) (ha : InMask V a) : InMask W a := by
  rcases ha with h0 | ⟨k, r, h1, h2, h3⟩
  · exact .inl (testBit_of_sub h h0)
  · exact .inr ⟨k, r, testBit_of_sub h h1, h2, h3⟩

theorem InMask.mk {m W a : Nat} (k : Nat) {r : RegSet} (hm : m &&& W = m) (hk : m.testBit k = true) (hr : families[k]? = some r)
    (h : RegSet.Has r a) : InMask W a := .inr ⟨k, r, testBit_of_sub hm hk, hr, h⟩

/-- An offset in a family that is one range of offsets. -/
theorem InMask.range {m W a b n : Nat} (k : Nat) (hm : m &&& W = m) (hk : m.testBit k = true) (hr : families[k]? = some ⟨b, 1, n, 0, 1⟩) (h1 : b ≤ a)
    (h2 : a < b + n) : InMask W a := .inr ⟨k, _, testBit_of_sub hm hk, hr, a - b, 0, by dsimp only; omega, by dsimp only; omega, by dsimp only; omega⟩

theorem Law.refl (W P : Nat) (s : State) : Law W P s s := by
  refine ⟨fun _ _ => rfl, fun p _ => ?_, rfl, rfl, id⟩
  cases p <;> rfl

theorem Part.Same.trans {p : Part} {s t u : State} (h1 : p.Same s t) (h2 : p.Same t u) : p.Same s u := by
  cases p <;> exact Eq.trans h2 h1

theorem Law.trans {W P : Nat} {s t u : State} (h1 : Law W P s t) (h2 : Law W P t u) : Law W P s u :=
  ⟨fun a ha => (h2.regs a ha).trans (h1.regs a ha), fun p hp => (h1.parts p hp).trans (h2.parts p hp), h2.pending.trans h1.pending,
    h2.cycle.trans h1.cycle, fun h => h2.canon (h1.canon h)⟩

theorem Law.mono {W P W' P' : Nat} {s t : State} (h : Law W P s t) (hW : W &&& W' = W) (hP : P &&& P' = P) : Law W' P' s t :=
  ⟨fun a ha => h.regs a fun hi => ha (hi.mono hW), fun p hp => h.parts p fun hi => hp (testBit_of_sub hP hi), h.pending, h.cycle, h.canon⟩

/-! ## Shapes of code -/

theorem Law.ite {W P : Nat} {s t u : State} {c : Prop} [Decidable c] (h1 : c → Law W P s t) (h2 : ¬ c → Law W P s u) :
    Law W P s (if c then t else u) := by
  split <;> simp_all

theorem Law.bite {W P : Nat} {s t u : State} {c : Bool} (h1 : Law W P s t) (h2 : Law W P s u) : Law W P s (bif c then t else u) := by
  cases c <;> simp_all

theorem Law.foldl {α : Type} {W P : Nat} {s0 : State} (l : List α) {f : State → α → State} {s : State} (h : Law W P s0 s)
    (hf : ∀ t x, Law W P s0 t → Law W P s0 (f t x)) : Law W P s0 (l.foldl f s) := by
  induction l generalizing s with
  | nil => exact h
  | cons x l ih => exact ih (hf s x h)

theorem Law.foldl_fst {α β : Type} {W P : Nat} {s0 : State} (l : List α) {f : State × β → α → State × β} {a : State × β} (h : Law W P s0 a.1)
    (hf : ∀ t b x, Law W P s0 t → Law W P s0 (f (t, b) x).1) : Law W P s0 (l.foldl f a).1 := by
  induction l generalizing a with
  | nil => exact h
  | cons x l ih => exact ih (hf a.1 a.2 x h)

theorem Law.of_fst {β : Type} {W P : Nat} {s0 t : State} {r : State × β} {b : β} (e : r = (t, b)) (h : Law W P s0 r.1) : Law W P s0 t := by
  rw [e] at h; exact h

theorem Law.ite_fst {β : Type} {W P : Nat} {s : State} {x y : State × β} {c : Prop} [Decidable c] (h1 : c → Law W P s x.1) (h2 : ¬ c → Law W P s y.1) :
    Law W P s (if c then x else y).1 := by
  split <;> simp_all

/-- A record update of parts; the note of what this cycle has set is free. -/
theorem Law.put {W P : Nat} {s0 s : State} (h : Law W P s0 s) {dev : Dev} {pcie : Pcie} {irq : Irq} {spout : SMap SpClass} {host : HostIf} {cfg : ImgCfg}
    {img : Img} {scans : SMap StScan} {kettle : Kettle} {aon : Aon} {vane : Vane} {caddy : Caddy} {phase : Phase} {cal : Cal}
    {slices : SMap Slice} {fab : Fabric} {lines : Lines} {tt : SMap TtEng} {setNow : SMap Nat} {freeCtr uid : Nat} {out : List Output}
    (h0 : dev = s.dev ∨ PartIn P .dev) (h1 : pcie = s.pcie ∨ PartIn P .pcie) (h2 : irq = s.irq ∨ PartIn P .irq)
    (h3 : spout = s.spout ∨ PartIn P .spout) (h4 : host = s.host ∨ PartIn P .host) (h5 : cfg = s.cfg ∨ PartIn P .cfg)
    (h6 : img = s.img ∨ PartIn P .img) (h7 : scans = s.scans ∨ PartIn P .scans) (h8 : kettle = s.kettle ∨ PartIn P .kettle)
    (h9 : aon = s.aon ∨ PartIn P .aon) (h10 : vane = s.vane ∨ PartIn P .vane) (h11 : caddy = s.caddy ∨ PartIn P .caddy)
    (h12 : phase = s.phase ∨ PartIn P .phase) (h13 : cal = s.cal ∨ PartIn P .cal) (h14 : slices = s.slices ∨ PartIn P .slices)
    (h15 : fab = s.fab ∨ PartIn P .fab) (h16 : lines = s.lines ∨ PartIn P .lines) (h17 : tt = s.tt ∨ PartIn P .tt)
    (h18 : freeCtr = s.freeCtr ∨ PartIn P .freeCtr) (h19 : uid = s.uid ∨ PartIn P .uid) (h20 : out = s.out ∨ PartIn P .out) :
    Law W P s0 ⟨s.regs, s.cycle, dev, pcie, irq, spout, host, cfg, img, scans, kettle, aon, vane, caddy, phase, cal, slices, fab, lines, tt,
      setNow, freeCtr, uid, out, s.pending⟩ := by
  refine h.trans ⟨fun _ _ => rfl, fun p hp => ?_, rfl, rfl, id⟩
  cases p <;> simp only [Part.Same] <;> simp_all

/-- A part whose bit is set in a smaller mask. -/
theorem partIn {m P : Nat} {p : Part} (hm : m &&& P = m) (hk : m.testBit (parts.idxOf p) = true) : PartIn P p := testBit_of_sub hm hk

/-! ## Outcomes -/

/-- The law of an outcome: it holds of the next state. -/
def OutLaw (W P : Nat) (s : State) : Host.Outcome State Fault Refusal → Prop
  | .next t => Law W P s t
  | _ => True

theorem OutLaw.ite {W P : Nat} {s : State} {x y : Host.Outcome State Fault Refusal} {c : Prop} [Decidable c] (h1 : c → OutLaw W P s x)
    (h2 : ¬ c → OutLaw W P s y) : OutLaw W P s (if c then x else y) := by
  split <;> simp_all

theorem OutLaw.next {W P : Nat} {s t : State} (h : Law W P s t) : OutLaw W P s (.next t) := h
theorem OutLaw.fault {W P : Nat} {s : State} (r : Fault) : OutLaw W P s (.fault r) := trivial

/-! ## Registers -/

theorem State.wr_law {W P : Nat} {s0 s : State} (h : Law W P s0 s) (a : Nat) (v : Reg64) (ha : InMask W a) : Law W P s0 (s.wr a v) := by
  refine h.trans ⟨fun b hb => s.rd_wr_ne v (by rintro rfl; exact hb ha), fun p _ => ?_, rfl, rfl, State.wr_canonical a v⟩
  cases p <;> rfl

theorem State.setFld_law {W P : Nat} {s0 s : State} (h : Law W P s0 s) (f : Fld) (v : Nat) (ha : InMask W f.ofs) : Law W P s0 (s.setFld f v) :=
  State.wr_law h _ _ ha
theorem State.setFldBit_law {W P : Nat} {s0 s : State} (h : Law W P s0 s) (f : Fld) (i : Nat) (b : Bool) (ha : InMask W f.ofs) :
    Law W P s0 (s.setFldBit f i b) := State.wr_law h _ _ ha
theorem State.satAdd_law {W P : Nat} {s0 s : State} (h : Law W P s0 s) (f : Fld) (n : Nat) (ha : InMask W f.ofs) : Law W P s0 (s.satAdd f n) :=
  State.wr_law h _ _ ha
theorem State.wrapAdd_law {W P : Nat} {s0 s : State} (h : Law W P s0 s) (f : Fld) (n : Nat) (ha : InMask W f.ofs) : Law W P s0 (s.wrapAdd f n) :=
  State.wr_law h _ _ ha
theorem State.countN_law {W P : Nat} {s0 s : State} (h : Law W P s0 s) (a n : Nat) (ha : InMask W a) : Law W P s0 (s.countN a n) :=
  State.wr_law h _ _ ha
theorem State.count_law {W P : Nat} {s0 s : State} (h : Law W P s0 s) (a : Nat) (ha : InMask W a) : Law W P s0 (s.count a) :=
  State.wr_law h _ _ ha
theorem State.setPair_law {W P : Nat} {s0 s : State} (h : Law W P s0 s) (lo hi : Nat) (v : Int) (hl : InMask W lo) (hh : InMask W hi) :
    Law W P s0 (s.setPair lo hi v) := State.wr_law (State.wr_law h _ _ hl) _ _ hh

theorem State.noteSet_law {W P : Nat} {s0 s : State} (h : Law W P s0 s) (a m : Nat) : Law W P s0 (s.noteSet a m) := by
  refine h.trans ⟨fun _ _ => rfl, fun p _ => ?_, rfl, rfl, id⟩
  cases p <;> rfl
theorem State.noteErr_law {W P : Nat} {s0 s : State} (h : Law W P s0 s) (base v ofs : Nat) : Law W P s0 (s.noteErr base v ofs) := by
  refine h.trans ⟨fun _ _ => rfl, fun p _ => ?_, rfl, rfl, id⟩
  cases p <;> rfl
theorem State.flag_law {W P : Nat} {s0 s : State} (h : Law W P s0 s) (f : Fld) (ha : InMask W f.ofs) : Law W P s0 (s.flag f) :=
  State.noteSet_law (State.setFld_law h _ _ ha) _ _
theorem State.flagBit_law {W P : Nat} {s0 s : State} (h : Law W P s0 s) (f : Fld) (i : Nat) (ha : InMask W f.ofs) : Law W P s0 (s.flagBit f i) :=
  State.noteSet_law (State.setFldBit_law h _ _ _ ha) _ _
theorem State.flagBits_law {W P : Nat} {s0 s : State} (h : Law W P s0 s) (f : Fld) (m : Nat) (ha : InMask W f.ofs) : Law W P s0 (s.flagBits f m) :=
  State.noteSet_law (State.setFld_law h _ _ ha) _ _

theorem State.porWhere_law {W P : Nat} {s0 s : State} (h : Law W P s0 s) (p : Nat → Bool) (hp : ∀ a, p a = true → InMask W a) :
    Law W P s0 (s.porWhere p) := by
  refine h.trans ⟨fun b hb => ?_, fun q _ => ?_, rfl, rfl, fun hc => SMap.filter_canonical _ hc⟩
  · rw [State.rd_porWhere, if_neg]; exact fun hb' => hb (hp b hb')
  · cases q <;> rfl

/-- The mask of every offset. -/
theorem InMask.all {m W : Nat} (hm : m &&& W = m) (hk : m.testBit 0 = true) (a : Nat) : InMask W a := .inl (testBit_of_sub hm hk)

/-- A repeated change. -/
theorem Law.iter {α : Type} {W P : Nat} {s0 : State} {f : State → α → State} (hf : ∀ t x, Law W P s0 t → Law W P s0 (f t x)) {s : State} (h : Law W P s0 s)
    (l : List α) : Law W P s0 (l.foldl f s) := Law.foldl l h hf

end Sys2Proof.Machine
end

