-- ==== Sys2Proof/Laws/LawOps.lean ====
section
/-! SUPPORT. The law of every operation of Machine/Ops.lean: what it may change (Laws/Law.lean). -/

set_option linter.all false

namespace Sys2Proof.Machine

theorem State.tookFree_law {W P : Nat} {s0 s : State} (h : Law W P s0 s) (hW : 0x0 &&& W = 0x0) (hP : 0x40000 &&& P = 0x40000) :
    Law W P s0 (State.tookFree s) := by
  unfold State.tookFree
  try dsimp only
  repeat' first
    | with_reducible assumption
    | with_reducible exact Law.refl _ _ _
    | exact sub_trans rfl hW
    | exact sub_trans rfl hP
    | dsimp only [id]
    | with_reducible refine Law.put ?_ ?_ ?_ ?_ ?_ ?_ ?_ ?_ ?_ ?_ ?_ ?_ ?_ ?_ ?_ ?_ ?_ ?_ ?_ ?_ ?_ ?_
    | with_reducible exact Or.inl rfl
    | exact Or.inr (partIn hP rfl)

theorem State.emit_law {W P : Nat} {s0 s : State} (h : Law W P s0 s) (o : Output) (hW : 0x0 &&& W = 0x0) (hP : 0x100000 &&& P = 0x100000) :
    Law W P s0 (State.emit s o) := by
  unfold State.emit
  try dsimp only
  repeat' first
    | with_reducible assumption
    | with_reducible exact Law.refl _ _ _
    | exact sub_trans rfl hW
    | exact sub_trans rfl hP
    | dsimp only [id]
    | with_reducible refine Law.put ?_ ?_ ?_ ?_ ?_ ?_ ?_ ?_ ?_ ?_ ?_ ?_ ?_ ?_ ?_ ?_ ?_ ?_ ?_ ?_ ?_ ?_
    | with_reducible exact Or.inl rfl
    | exact Or.inr (partIn hP rfl)

theorem State.setKtDom_law {W P : Nat} {s0 s : State} (h : Law W P s0 s) (ch d : Nat) (k : KtDom) (hW : 0x0 &&& W = 0x0) (hP : 0x100 &&& P = 0x100) :
    Law W P s0 (State.setKtDom s ch d k) := by
  unfold State.setKtDom
  try dsimp only
  repeat' first
    | with_reducible assumption
    | with_reducible exact Law.refl _ _ _
    | exact sub_trans rfl hW
    | exact sub_trans rfl hP
    | dsimp only [id]
    | with_reducible refine Law.put ?_ ?_ ?_ ?_ ?_ ?_ ?_ ?_ ?_ ?_ ?_ ?_ ?_ ?_ ?_ ?_ ?_ ?_ ?_ ?_ ?_ ?_
    | with_reducible exact Or.inl rfl
    | exact Or.inr (partIn hP rfl)

end Sys2Proof.Machine
end

