-- ==== Sys2Proof/Laws/LawFlags.lean ====
section
/-! SUPPORT. The law of every operation of Machine/Flags.lean: what it may change (Laws/Law.lean). -/

set_option linter.all false

namespace Sys2Proof.Machine

theorem State.sendMsix_law {W P : Nat} {s0 s : State} (h : Law W P s0 s) (v : Nat) (hW : 0x0 &&& W = 0x0) (hP : 0x100004 &&& P = 0x100004) :
    Law W P s0 (State.sendMsix s v) := by
  unfold State.sendMsix
  try dsimp only
  repeat' first
    | with_reducible assumption
    | with_reducible exact Law.refl _ _ _
    | exact sub_trans rfl hW
    | exact sub_trans rfl hP
    | with_reducible refine Law.ite (fun _ => ?_) (fun _ => ?_)
    | with_reducible refine State.emit_law ?_ _  ?_ ?_
    | split
    | dsimp only [id]
    | with_reducible refine Law.put ?_ ?_ ?_ ?_ ?_ ?_ ?_ ?_ ?_ ?_ ?_ ?_ ?_ ?_ ?_ ?_ ?_ ?_ ?_ ?_ ?_ ?_
    | with_reducible exact Or.inl rfl
    | exact Or.inr (partIn hP rfl)

theorem State.vecUpdate_law {W P : Nat} {s0 s : State} (h : Law W P s0 s) (v : Nat) (hW : 0x0 &&& W = 0x0) (hP : 0x100004 &&& P = 0x100004) :
    Law W P s0 (State.vecUpdate s v) := by
  unfold State.vecUpdate
  try dsimp only
  repeat' first
    | with_reducible assumption
    | with_reducible exact Law.refl _ _ _
    | exact sub_trans rfl hW
    | exact sub_trans rfl hP
    | with_reducible refine Law.ite (fun _ => ?_) (fun _ => ?_)
    | with_reducible refine State.sendMsix_law ?_ _  ?_ ?_
    | split
    | dsimp only [id]
    | with_reducible refine Law.put ?_ ?_ ?_ ?_ ?_ ?_ ?_ ?_ ?_ ?_ ?_ ?_ ?_ ?_ ?_ ?_ ?_ ?_ ?_ ?_ ?_ ?_
    | with_reducible exact Or.inl rfl
    | exact Or.inr (partIn hP rfl)

theorem State.vecsEval_law {W P : Nat} {s0 s : State} (h : Law W P s0 s) (hW : 0x0 &&& W = 0x0) (hP : 0x100004 &&& P = 0x100004) :
    Law W P s0 (State.vecsEval s) := by
  unfold State.vecsEval
  try dsimp only
  repeat' first
    | with_reducible assumption
    | with_reducible exact Law.refl _ _ _
    | exact sub_trans rfl hW
    | exact sub_trans rfl hP
    | with_reducible refine Law.ite (fun _ => ?_) (fun _ => ?_)
    | with_reducible refine State.vecUpdate_law ?_ _  ?_ ?_
    | with_reducible refine Law.foldl _ ?_ (fun _ _ _ => ?_)
    | with_reducible refine Law.foldl_fst _ ?_ (fun _ _ _ _ => ?_)
    | split
    | dsimp only [id]

theorem State.irqEval_law {W P : Nat} {s0 s : State} (h : Law W P s0 s) (hW : 0x2 &&& W = 0x2) (hP : 0x100004 &&& P = 0x100004) :
    Law W P s0 (State.irqEval s) := by
  unfold State.irqEval
  try dsimp only
  repeat' first
    | with_reducible assumption
    | with_reducible exact Law.refl _ _ _
    | exact sub_trans rfl hW
    | exact sub_trans rfl hP
    | with_reducible refine Law.ite (fun _ => ?_) (fun _ => ?_)
    | with_reducible refine State.setFld_law ?_ _ _ ?_
    | with_reducible refine State.vecsEval_law ?_   ?_ ?_
    | exact InMask.mk 1 hW rfl rfl (Reg.DEV_IRQ_STATUS_has)
    | split
    | dsimp only [id]

theorem State.raiseCause_law {W P : Nat} {s0 s : State} (h : Law W P s0 s) (c : Nat) (hW : 0x2 &&& W = 0x2) (hP : 0x100004 &&& P = 0x100004) :
    Law W P s0 (State.raiseCause s c) := by
  unfold State.raiseCause
  try dsimp only
  repeat' first
    | with_reducible assumption
    | with_reducible exact Law.refl _ _ _
    | exact sub_trans rfl hW
    | exact sub_trans rfl hP
    | with_reducible refine State.flagBit_law ?_ _ _ ?_
    | with_reducible refine State.irqEval_law ?_   ?_ ?_
    | exact InMask.mk 1 hW rfl rfl (Reg.DEV_IRQ_STATUS_has)
    | dsimp only [id]

theorem State.setSpClass_law {W P : Nat} {s0 s : State} (h : Law W P s0 s) (c : Nat) (k : SpClass) (hW : 0x0 &&& W = 0x0) (hP : 0x8 &&& P = 0x8) :
    Law W P s0 (State.setSpClass s c k) := by
  unfold State.setSpClass
  try dsimp only
  repeat' first
    | with_reducible assumption
    | with_reducible exact Law.refl _ _ _
    | exact sub_trans rfl hW
    | exact sub_trans rfl hP
    | dsimp only [id]
    | with_reducible refine Law.put ?_ ?_ ?_ ?_ ?_ ?_ ?_ ?_ ?_ ?_ ?_ ?_ ?_ ?_ ?_ ?_ ?_ ?_ ?_ ?_ ?_ ?_
    | with_reducible exact Or.inl rfl
    | exact Or.inr (partIn hP rfl)

theorem State.spoutEvent_law {W P : Nat} {s0 s : State} (h : Law W P s0 s) (src inst arg : Nat) (data : Nat) (hW : 0xe &&& W = 0xe) (hP : 0x10000c &&& P = 0x10000c) :
    Law W P s0 (State.spoutEvent s src inst arg data) := by
  unfold State.spoutEvent
  try dsimp only
  repeat' first
    | with_reducible assumption
    | with_reducible exact Law.refl _ _ _
    | exact sub_trans rfl hW
    | exact sub_trans rfl hP
    | with_reducible refine Law.ite (fun _ => ?_) (fun _ => ?_)
    | with_reducible refine State.count_law ?_ _ ?_
    | with_reducible refine State.flagBit_law ?_ _ _ ?_
    | with_reducible refine State.irqEval_law ?_   ?_ ?_
    | with_reducible refine State.setSpClass_law ?_ _ _  ?_ ?_
    | with_reducible refine State.raiseCause_law ?_ _  ?_ ?_
    | exact InMask.mk 2 hW rfl rfl (Reg.SP_PEND_has)
    | exact InMask.mk 3 hW rfl rfl (Reg.SP_LOST_CNT_has _)
    | split
    | dsimp only [id]

theorem State.pfAdd_law {W P : Nat} {s0 s : State} (h : Law W P s0 s) (n k : Nat) (hW : 0x10 &&& W = 0x10) (hP : 0x0 &&& P = 0x0) :
    Law W P s0 (State.pfAdd s n k) := by
  unfold State.pfAdd
  try dsimp only
  repeat' first
    | with_reducible assumption
    | with_reducible exact Law.refl _ _ _
    | exact sub_trans rfl hW
    | exact sub_trans rfl hP
    | with_reducible refine Law.ite (fun _ => ?_) (fun _ => ?_)
    | with_reducible refine State.wr_law ?_ _ _ ?_
    | exact InMask.mk 4 hW rfl rfl (Reg.PF_CNT_has _)
    | split
    | dsimp only [id]

theorem State.pfEvent_law {W P : Nat} {s0 s : State} (h : Law W P s0 s) (ev inst k : Nat) (hW : 0x10 &&& W = 0x10) (hP : 0x0 &&& P = 0x0) :
    Law W P s0 (State.pfEvent s ev inst k) := by
  unfold State.pfEvent
  try dsimp only
  repeat' first
    | with_reducible assumption
    | with_reducible exact Law.refl _ _ _
    | exact sub_trans rfl hW
    | exact sub_trans rfl hP
    | with_reducible refine State.pfAdd_law ?_ _ _  ?_ ?_
    | with_reducible refine Law.foldl _ ?_ (fun _ _ _ => ?_)
    | with_reducible refine Law.foldl_fst _ ?_ (fun _ _ _ _ => ?_)
    | dsimp only [id]

theorem State.countEv_law {W P : Nat} {s0 s : State} (h : Law W P s0 s) (a ev inst k : Nat) (ha : InMask W a) (hW : 0x10 &&& W = 0x10) (hP : 0x0 &&& P = 0x0) :
    Law W P s0 (State.countEv s a ev inst k) := by
  unfold State.countEv
  try dsimp only
  repeat' first
    | with_reducible assumption
    | with_reducible exact Law.refl _ _ _
    | exact sub_trans rfl hW
    | exact sub_trans rfl hP
    | exact ha
    | with_reducible refine State.countN_law ?_ _ _ ?_
    | with_reducible refine State.pfEvent_law ?_ _ _ _  ?_ ?_
    | dsimp only [id]

theorem State.dmaWrite_law {W P : Nat} {s0 s : State} (h : Law W P s0 s) (addr : Nat) (bs : List Byte) (n : Nat) (hW : 0x10 &&& W = 0x10) (hP : 0x100000 &&& P = 0x100000) :
    Law W P s0 (State.dmaWrite s addr bs n) := by
  unfold State.dmaWrite
  try dsimp only
  repeat' first
    | with_reducible assumption
    | with_reducible exact Law.refl _ _ _
    | exact sub_trans rfl hW
    | exact sub_trans rfl hP
    | with_reducible refine State.emit_law ?_ _  ?_ ?_
    | with_reducible refine State.pfEvent_law ?_ _ _ _  ?_ ?_
    | dsimp only [id]

theorem State.recordErr_law {W P : Nat} {s0 s : State} (h : Law W P s0 s) (a : Acc) (code : Nat) (hE : InMask W (Reg.ERR_STATUS a.base)) (hO : InMask W (Reg.ERR_OFS a.base)) (hW : 0x2 &&& W = 0x2) (hP : 0x100004 &&& P = 0x100004) :
    Law W P s0 (State.recordErr s a code) := by
  unfold State.recordErr
  try dsimp only
  repeat' first
    | with_reducible assumption
    | with_reducible exact Law.refl _ _ _
    | exact sub_trans rfl hW
    | exact sub_trans rfl hP
    | exact hE
    | exact hO
    | with_reducible refine Law.ite (fun _ => ?_) (fun _ => ?_)
    | with_reducible refine State.wr_law ?_ _ _ ?_
    | with_reducible refine State.satAdd_law ?_ _ _ ?_
    | with_reducible refine State.noteErr_law ?_ _ _ _ 
    | with_reducible refine State.raiseCause_law ?_ _  ?_ ?_
    | split
    | dsimp only [id]

theorem State.received_law {W P : Nat} {s0 s : State} (h : Law W P s0 s) (a : Acc) (hE : InMask W (Reg.ERR_STATUS a.base)) (hO : InMask W (Reg.ERR_OFS a.base)) (hW : 0x10 &&& W = 0x10) (hP : 0x0 &&& P = 0x0) :
    Law W P s0 (State.received s a) := by
  unfold State.received
  try dsimp only
  repeat' first
    | with_reducible assumption
    | with_reducible exact Law.refl _ _ _
    | exact sub_trans rfl hW
    | exact sub_trans rfl hP
    | exact hE
    | exact hO
    | with_reducible refine Law.ite (fun _ => ?_) (fun _ => ?_)
    | with_reducible refine State.pfEvent_law ?_ _ _ _  ?_ ?_
    | split
    | dsimp only [id]

theorem State.answer_law {W P : Nat} {s0 s : State} (h : Law W P s0 s) (a : Acc) (v : Nat) (hE : InMask W (Reg.ERR_STATUS a.base)) (hO : InMask W (Reg.ERR_OFS a.base)) (hW : 0x0 &&& W = 0x0) (hP : 0x100000 &&& P = 0x100000) :
    Law W P s0 (State.answer s a v) := by
  unfold State.answer
  try dsimp only
  repeat' first
    | with_reducible assumption
    | with_reducible exact Law.refl _ _ _
    | exact sub_trans rfl hW
    | exact sub_trans rfl hP
    | exact hE
    | exact hO
    | with_reducible refine State.emit_law ?_ _  ?_ ?_
    | dsimp only [id]

theorem State.refuse_law {W P : Nat} {s0 s : State} (h : Law W P s0 s) (a : Acc) (code : Nat) (hE : InMask W (Reg.ERR_STATUS a.base)) (hO : InMask W (Reg.ERR_OFS a.base)) (hW : 0x2 &&& W = 0x2) (hP : 0x100004 &&& P = 0x100004) :
    Law W P s0 (State.refuse s a code) := by
  unfold State.refuse
  try dsimp only
  repeat' first
    | with_reducible assumption
    | with_reducible exact Law.refl _ _ _
    | exact sub_trans rfl hW
    | exact sub_trans rfl hP
    | exact hE
    | exact hO
    | with_reducible refine Law.ite (fun _ => ?_) (fun _ => ?_)
    | with_reducible refine State.recordErr_law ?_ _ _ ?_ ?_ ?_ ?_
    | with_reducible refine State.answer_law ?_ _ _ ?_ ?_ ?_ ?_
    | split
    | dsimp only [id]

theorem State.guard_law {W P : Nat} {s0 s : State} (h : Law W P s0 s) (a : Acc) (checks : List (Bool × Nat)) (act : State → State) (hE : InMask W (Reg.ERR_STATUS a.base)) (hO : InMask W (Reg.ERR_OFS a.base)) (hf : ∀ t, Law W P s0 t → Law W P s0 (act t)) (hW : 0x12 &&& W = 0x12) (hP : 0x100004 &&& P = 0x100004) :
    Law W P s0 (State.guard s a checks act) := by
  unfold State.guard
  try dsimp only
  repeat' first
    | with_reducible assumption
    | with_reducible exact Law.refl _ _ _
    | exact sub_trans rfl hW
    | exact sub_trans rfl hP
    | exact hE
    | exact hO
    | refine hf _ ?_
    | with_reducible refine Law.ite (fun _ => ?_) (fun _ => ?_)
    | with_reducible refine State.received_law ?_ _ ?_ ?_ ?_ ?_
    | with_reducible refine State.answer_law ?_ _ _ ?_ ?_ ?_ ?_
    | with_reducible refine State.refuse_law ?_ _ _ ?_ ?_ ?_ ?_
    | split
    | dsimp only [id]

theorem State.markFatal_law {W P : Nat} {s0 s : State} (h : Law W P s0 s) (b : Nat) (hW : 0x2e &&& W = 0x2e) (hP : 0x10000c &&& P = 0x10000c) :
    Law W P s0 (State.markFatal s b) := by
  unfold State.markFatal
  try dsimp only
  repeat' first
    | with_reducible assumption
    | with_reducible exact Law.refl _ _ _
    | exact sub_trans rfl hW
    | exact sub_trans rfl hP
    | with_reducible refine Law.ite (fun _ => ?_) (fun _ => ?_)
    | with_reducible refine State.flagBit_law ?_ _ _ ?_
    | with_reducible refine State.noteSet_law ?_ _ _ 
    | with_reducible refine State.spoutEvent_law ?_ _ _ _ _  ?_ ?_
    | with_reducible refine State.irqEval_law ?_   ?_ ?_
    | exact InMask.mk 5 hW rfl rfl (Reg.DEV_FATAL_has)
    | split
    | dsimp only [id]

end Sys2Proof.Machine
end

