-- ==== Sys2Proof/Laws/LawScan.lean ====
section
/-! SUPPORT. The law of every operation of Machine/Scan.lean: what it may change (Laws/Law.lean). -/

set_option linter.all false

namespace Sys2Proof.Machine

theorem State.scanTouch_law {W P : Nat} {s0 s : State} (h : Law W P s0 s) (mem sel lo len : Nat) (hW : 0x0 &&& W = 0x0) (hP : 0x80 &&& P = 0x80) :
    Law W P s0 (State.scanTouch s mem sel lo len) := by
  unfold State.scanTouch
  try dsimp only
  repeat' first
    | with_reducible assumption
    | with_reducible exact Law.refl _ _ _
    | exact sub_trans rfl hW
    | exact sub_trans rfl hP
    | with_reducible refine Law.ite (fun _ => ?_) (fun _ => ?_)
    | split
    | dsimp only [id]
    | with_reducible refine Law.put ?_ ?_ ?_ ?_ ?_ ?_ ?_ ?_ ?_ ?_ ?_ ?_ ?_ ?_ ?_ ?_ ?_ ?_ ?_ ?_ ?_ ?_
    | with_reducible exact Or.inl rfl
    | exact Or.inr (partIn hP rfl)

theorem State.scanClose_law {W P : Nat} {s0 s : State} (h : Law W P s0 s) (k r : Nat) (hW : 0xc0 &&& W = 0xc0) (hP : 0x80 &&& P = 0x80) :
    Law W P s0 (State.scanClose s k r) := by
  unfold State.scanClose
  try dsimp only
  repeat' first
    | with_reducible assumption
    | with_reducible exact Law.refl _ _ _
    | exact sub_trans rfl hW
    | exact sub_trans rfl hP
    | with_reducible refine Law.ite (fun _ => ?_) (fun _ => ?_)
    | with_reducible refine State.setFld_law ?_ _ _ ?_
    | with_reducible refine State.flag_law ?_ _ ?_
    | exact InMask.mk 6 hW rfl rfl (Reg.ST_ENG_RESULT_has _)
    | exact InMask.mk 7 hW rfl rfl (Reg.ST_ENG_FLAGS_has _)
    | split
    | dsimp only [id]
    | with_reducible refine Law.put ?_ ?_ ?_ ?_ ?_ ?_ ?_ ?_ ?_ ?_ ?_ ?_ ?_ ?_ ?_ ?_ ?_ ?_ ?_ ?_ ?_ ?_
    | with_reducible exact Or.inl rfl
    | exact Or.inr (partIn hP rfl)

theorem State.scanStale_law {W P : Nat} {s0 s : State} (h : Law W P s0 s) (mem sel : Nat) (hW : 0xc0 &&& W = 0xc0) (hP : 0x80 &&& P = 0x80) :
    Law W P s0 (State.scanStale s mem sel) := by
  unfold State.scanStale
  try dsimp only
  repeat' first
    | with_reducible assumption
    | with_reducible exact Law.refl _ _ _
    | exact sub_trans rfl hW
    | exact sub_trans rfl hP
    | with_reducible refine Law.ite (fun _ => ?_) (fun _ => ?_)
    | with_reducible refine State.scanClose_law ?_ _ _  ?_ ?_
    | with_reducible refine Law.foldl _ ?_ (fun _ _ _ => ?_)
    | with_reducible refine Law.foldl_fst _ ?_ (fun _ _ _ _ => ?_)
    | split
    | dsimp only [id]

end Sys2Proof.Machine
end

