-- ==== Sys2Proof/Laws/LawCaddy.lean ====
section
/-! SUPPORT. The law of every operation of Machine/Caddy.lean: what it may change (Laws/Law.lean). -/

set_option linter.all false

namespace Sys2Proof.Machine

theorem State.setRing_law {W P : Nat} {s0 s : State} (h : Law W P s0 s) (n : Nat) (r : CdRing) (hW : 0x0 &&& W = 0x0) (hP : 0x800 &&& P = 0x800) :
    Law W P s0 (State.setRing s n r) := by
  unfold State.setRing
  try dsimp only
  repeat' first
    | with_reducible assumption
    | with_reducible exact Law.refl _ _ _
    | exact sub_trans rfl hW
    | exact sub_trans rfl hP
    | dsimp only [id]
    | with_reducible refine Law.put ?_ ?_ ?_ ?_ ?_ ?_ ?_ ?_ ?_ ?_ ?_ ?_ ?_ ?_ ?_ ?_ ?_ ?_ ?_ ?_ ?_ ?_
    | with_reducible exact Or.inl rfl
    | exact Or.inr (partIn hP rfl)

theorem State.writeRecord_law {W P : Nat} {s0 s : State} (h : Law W P s0 s) (n : Nat) (x : CdRecord) (full : Bool) (hW : 0x710 &&& W = 0x710) (hP : 0x880 &&& P = 0x880) :
    Law W P s0 (State.writeRecord s n x full) := by
  unfold State.writeRecord
  try dsimp only
  repeat' first
    | with_reducible assumption
    | with_reducible exact Law.refl _ _ _
    | exact sub_trans rfl hW
    | exact sub_trans rfl hP
    | with_reducible refine Law.ite (fun _ => ?_) (fun _ => ?_)
    | with_reducible refine State.setFld_law ?_ _ _ ?_
    | with_reducible refine State.countN_law ?_ _ _ ?_
    | with_reducible refine State.count_law ?_ _ ?_
    | with_reducible refine State.setRing_law ?_ _ _  ?_ ?_
    | with_reducible refine State.pfEvent_law ?_ _ _ _  ?_ ?_
    | with_reducible refine State.scanTouch_law ?_ _ _ _ _  ?_ ?_
    | exact InMask.mk 8 hW rfl rfl (Reg.CD_RING_STATUS_has _)
    | exact InMask.mk 9 hW rfl rfl (Reg.CD_RING_CNT_has_0 _)
    | exact InMask.mk 10 hW rfl rfl (Reg.CD_RING_CNT_has_1 _)
    | with_reducible refine Law.of_fst (by assumption) ?_
    | split
    | dsimp only [id]

theorem State.dropRecord_law {W P : Nat} {s0 s : State} (h : Law W P s0 s) (n cnt : Nat) (hW : 0x810 &&& W = 0x810) (hP : 0x800 &&& P = 0x800) :
    Law W P s0 (State.dropRecord s n cnt) := by
  unfold State.dropRecord
  try dsimp only
  repeat' first
    | with_reducible assumption
    | with_reducible exact Law.refl _ _ _
    | exact sub_trans rfl hW
    | exact sub_trans rfl hP
    | with_reducible refine State.count_law ?_ _ ?_
    | with_reducible refine State.setRing_law ?_ _ _  ?_ ?_
    | with_reducible refine State.pfEvent_law ?_ _ _ _  ?_ ?_
    | exact InMask.mk 11 hW rfl rfl (Reg.CD_RING_CNT_has _ _)
    | dsimp only [id]

theorem State.unstage_law {W P : Nat} {s0 s : State} (h : Law W P s0 s) (sl : Nat) (rest : List (Nat × CdRecord)) (hW : 0x0 &&& W = 0x0) (hP : 0x800 &&& P = 0x800) :
    Law W P s0 (State.unstage s sl rest) := by
  unfold State.unstage
  try dsimp only
  repeat' first
    | with_reducible assumption
    | with_reducible exact Law.refl _ _ _
    | exact sub_trans rfl hW
    | exact sub_trans rfl hP
    | dsimp only [id]
    | with_reducible refine Law.put ?_ ?_ ?_ ?_ ?_ ?_ ?_ ?_ ?_ ?_ ?_ ?_ ?_ ?_ ?_ ?_ ?_ ?_ ?_ ?_ ?_ ?_
    | with_reducible exact Or.inl rfl
    | exact Or.inr (partIn hP rfl)

theorem State.flushRing_law {W P : Nat} {s0 s : State} (h : Law W P s0 s) (n : Nat) (x1 : Nat) (hW : 0xf10 &&& W = 0xf10) (hP : 0x880 &&& P = 0x880) :
    Law W P s0 (State.flushRing s n x1) := by
  induction x1 generalizing s with
  | zero =>
    unfold State.flushRing
    try dsimp only
    repeat' first
      | with_reducible assumption
      | with_reducible exact Law.refl _ _ _
      | exact sub_trans rfl hW
      | exact sub_trans rfl hP
      | with_reducible refine Law.ite (fun _ => ?_) (fun _ => ?_)
      | with_reducible refine State.unstage_law ?_ _ _  ?_ ?_
      | with_reducible refine State.dropRecord_law ?_ _ _  ?_ ?_
      | with_reducible refine State.writeRecord_law ?_ _ _ _  ?_ ?_
      | with_reducible refine Law.of_fst (by assumption) ?_
      | split
      | dsimp only [id]
  | succ n ih =>
    unfold State.flushRing
    try dsimp only
    repeat' first
      | with_reducible assumption
      | with_reducible apply ih
      | with_reducible exact Law.refl _ _ _
      | exact sub_trans rfl hW
      | exact sub_trans rfl hP
      | with_reducible refine Law.ite (fun _ => ?_) (fun _ => ?_)
      | with_reducible refine State.unstage_law ?_ _ _  ?_ ?_
      | with_reducible refine State.dropRecord_law ?_ _ _  ?_ ?_
      | with_reducible refine State.writeRecord_law ?_ _ _ _  ?_ ?_
      | with_reducible refine Law.of_fst (by assumption) ?_
      | split
      | dsimp only [id]

theorem State.flushAll_law {W P : Nat} {s0 s : State} (h : Law W P s0 s) (n : Nat) (hW : 0xf10 &&& W = 0xf10) (hP : 0x880 &&& P = 0x880) :
    Law W P s0 (State.flushAll s n) := by
  unfold State.flushAll
  try dsimp only
  repeat' first
    | with_reducible assumption
    | with_reducible exact Law.refl _ _ _
    | exact sub_trans rfl hW
    | exact sub_trans rfl hP
    | with_reducible refine State.flushRing_law ?_ _ _  ?_ ?_
    | dsimp only [id]

theorem State.ringFreeze_law {W P : Nat} {s0 s : State} (h : Law W P s0 s) (n : Nat) (early cut : Bool) (hW : 0x7f1e &&& W = 0x7f1e) (hP : 0x10088c &&& P = 0x10088c) :
    Law W P s0 (State.ringFreeze s n early cut) := by
  unfold State.ringFreeze
  try dsimp only
  repeat' first
    | with_reducible assumption
    | with_reducible exact Law.refl _ _ _
    | exact sub_trans rfl hW
    | exact sub_trans rfl hP
    | with_reducible refine State.setFld_law ?_ _ _ ?_
    | with_reducible refine State.flushAll_law ?_ _  ?_ ?_
    | with_reducible refine State.setRing_law ?_ _ _  ?_ ?_
    | with_reducible refine State.spoutEvent_law ?_ _ _ _ _  ?_ ?_
    | exact InMask.mk 8 hW rfl rfl (Reg.CD_RING_STATUS_has _)
    | exact InMask.mk 12 hW rfl rfl (Reg.CD_RING_RANGE_has _)
    | exact InMask.mk 13 hW rfl rfl (Reg.CD_RING_FIRST_RSEQ_has _)
    | exact InMask.mk 14 hW rfl rfl (Reg.CD_RING_LAST_RSEQ_has _)
    | with_reducible refine Law.of_fst (by assumption) ?_
    | split
    | dsimp only [id]

theorem State.ringLatch_law {W P : Nat} {s0 s : State} (h : Law W P s0 s) (n cause index : Nat) (hW : 0x1f8000 &&& W = 0x1f8000) (hP : 0x800 &&& P = 0x800) :
    Law W P s0 (State.ringLatch s n cause index) := by
  unfold State.ringLatch
  try dsimp only
  repeat' first
    | with_reducible assumption
    | with_reducible exact Law.refl _ _ _
    | exact sub_trans rfl hW
    | exact sub_trans rfl hP
    | with_reducible refine State.setFld_law ?_ _ _ ?_
    | with_reducible refine State.count_law ?_ _ ?_
    | with_reducible refine State.setRing_law ?_ _ _  ?_ ?_
    | exact InMask.mk 15 hW rfl rfl (Reg.CD_RING_TRIG_NS_has _)
    | exact InMask.mk 16 hW rfl rfl (Reg.CD_RING_TRIG_FRAC_has _)
    | exact InMask.mk 17 hW rfl rfl (Reg.CD_RING_TRIG_S_LO_has _)
    | exact InMask.mk 18 hW rfl rfl (Reg.CD_RING_TRIG_S_HI_has _)
    | exact InMask.mk 19 hW rfl rfl (Reg.CD_RING_TRIG_INFO_has _)
    | exact InMask.mk 20 hW rfl rfl (Reg.CD_RING_CNT_has_5 _)
    | dsimp only [id]

theorem State.ringTrigger_law {W P : Nat} {s0 s : State} (h : Law W P s0 s) (n cause index : Nat) (hW : 0x3fffde &&& W = 0x3fffde) (hP : 0x10088c &&& P = 0x10088c) :
    Law W P s0 (State.ringTrigger s n cause index) := by
  unfold State.ringTrigger
  try dsimp only
  repeat' first
    | with_reducible assumption
    | with_reducible exact Law.refl _ _ _
    | exact sub_trans rfl hW
    | exact sub_trans rfl hP
    | with_reducible refine Law.ite (fun _ => ?_) (fun _ => ?_)
    | with_reducible refine State.setFld_law ?_ _ _ ?_
    | with_reducible refine State.count_law ?_ _ ?_
    | with_reducible refine State.ringLatch_law ?_ _ _ _  ?_ ?_
    | with_reducible refine State.ringFreeze_law ?_ _ _ _  ?_ ?_
    | with_reducible refine State.scanStale_law ?_ _ _  ?_ ?_
    | exact InMask.mk 8 hW rfl rfl (Reg.CD_RING_STATUS_has _)
    | exact InMask.mk 19 hW rfl rfl (Reg.CD_RING_TRIG_INFO_has _)
    | exact InMask.mk 21 hW rfl rfl (Reg.CD_RING_CNT_has_6 _)
    | split
    | dsimp only [id]

theorem State.offerTrigger_law {W P : Nat} {s0 s : State} (h : Law W P s0 s) (enabled : State → Nat → Bool) (cause index : Nat) (hW : 0x3fffde &&& W = 0x3fffde) (hP : 0x10088c &&& P = 0x10088c) :
    Law W P s0 (State.offerTrigger s enabled cause index) := by
  unfold State.offerTrigger
  try dsimp only
  repeat' first
    | with_reducible assumption
    | with_reducible exact Law.refl _ _ _
    | exact sub_trans rfl hW
    | exact sub_trans rfl hP
    | with_reducible refine Law.ite (fun _ => ?_) (fun _ => ?_)
    | with_reducible refine State.ringTrigger_law ?_ _ _ _  ?_ ?_
    | with_reducible refine Law.foldl _ ?_ (fun _ _ _ => ?_)
    | with_reducible refine Law.foldl_fst _ ?_ (fun _ _ _ _ => ?_)
    | split
    | dsimp only [id]

theorem State.ringCut_law {W P : Nat} {s0 s : State} (h : Law W P s0 s) (n cause : Nat) (hW : 0x3fff1e &&& W = 0x3fff1e) (hP : 0x10088c &&& P = 0x10088c) :
    Law W P s0 (State.ringCut s n cause) := by
  unfold State.ringCut
  try dsimp only
  repeat' first
    | with_reducible assumption
    | with_reducible exact Law.refl _ _ _
    | exact sub_trans rfl hW
    | exact sub_trans rfl hP
    | with_reducible refine Law.ite (fun _ => ?_) (fun _ => ?_)
    | with_reducible refine State.count_law ?_ _ ?_
    | with_reducible refine State.ringLatch_law ?_ _ _ _  ?_ ?_
    | with_reducible refine State.ringFreeze_law ?_ _ _ _  ?_ ?_
    | exact InMask.mk 21 hW rfl rfl (Reg.CD_RING_CNT_has_6 _)
    | split
    | dsimp only [id]

theorem State.cutRings_law {W P : Nat} {s0 s : State} (h : Law W P s0 s) (cause : Nat) (hW : 0x3fff1e &&& W = 0x3fff1e) (hP : 0x10088c &&& P = 0x10088c) :
    Law W P s0 (State.cutRings s cause) := by
  unfold State.cutRings
  try dsimp only
  repeat' first
    | with_reducible assumption
    | with_reducible exact Law.refl _ _ _
    | exact sub_trans rfl hW
    | exact sub_trans rfl hP
    | with_reducible refine State.ringCut_law ?_ _ _  ?_ ?_
    | with_reducible refine Law.foldl _ ?_ (fun _ _ _ => ?_)
    | with_reducible refine Law.foldl_fst _ ?_ (fun _ _ _ _ => ?_)
    | dsimp only [id]

theorem State.ringTick_law {W P : Nat} {s0 s : State} (h : Law W P s0 s) (n : Nat) (hW : 0x0 &&& W = 0x0) (hP : 0x800 &&& P = 0x800) :
    Law W P s0 (State.ringTick s n) := by
  unfold State.ringTick
  try dsimp only
  repeat' first
    | with_reducible assumption
    | with_reducible exact Law.refl _ _ _
    | exact sub_trans rfl hW
    | exact sub_trans rfl hP
    | with_reducible refine Law.ite (fun _ => ?_) (fun _ => ?_)
    | with_reducible refine State.setRing_law ?_ _ _  ?_ ?_
    | split
    | dsimp only [id]

theorem State.ringsStart_law {W P : Nat} {s0 s : State} (h : Law W P s0 s) (hW : 0x100 &&& W = 0x100) (hP : 0x800 &&& P = 0x800) :
    Law W P s0 (State.ringsStart s) := by
  unfold State.ringsStart
  try dsimp only
  repeat' first
    | with_reducible assumption
    | with_reducible exact Law.refl _ _ _
    | exact sub_trans rfl hW
    | exact sub_trans rfl hP
    | with_reducible refine Law.ite (fun _ => ?_) (fun _ => ?_)
    | with_reducible refine State.setFld_law ?_ _ _ ?_
    | exact InMask.mk 8 hW rfl rfl (Reg.CD_RING_STATUS_has _)
    | with_reducible refine Law.foldl _ ?_ (fun _ _ _ => ?_)
    | with_reducible refine Law.foldl_fst _ ?_ (fun _ _ _ _ => ?_)
    | split
    | dsimp only [id]
    | with_reducible refine Law.put ?_ ?_ ?_ ?_ ?_ ?_ ?_ ?_ ?_ ?_ ?_ ?_ ?_ ?_ ?_ ?_ ?_ ?_ ?_ ?_ ?_ ?_
    | with_reducible exact Or.inl rfl
    | exact Or.inr (partIn hP rfl)

theorem execRecordWrite_law {W P : Nat} (s : State)  (hW : 0x7f1e &&& W = 0x7f1e) (hP : 0x10088c &&& P = 0x10088c) :
    OutLaw W P s (execRecordWrite s) := by
  unfold execRecordWrite
  try dsimp only
  repeat' first
    | with_reducible assumption
    | with_reducible exact OutLaw.fault _
    | with_reducible refine OutLaw.ite (fun _ => ?_) (fun _ => ?_)
    | with_reducible refine OutLaw.next ?_
    | with_reducible exact Law.refl _ _ _
    | exact sub_trans rfl hW
    | exact sub_trans rfl hP
    | with_reducible refine Law.ite (fun _ => ?_) (fun _ => ?_)
    | with_reducible refine State.unstage_law ?_ _ _  ?_ ?_
    | with_reducible refine State.dropRecord_law ?_ _ _  ?_ ?_
    | with_reducible refine State.ringFreeze_law ?_ _ _ _  ?_ ?_
    | with_reducible refine State.writeRecord_law ?_ _ _ _  ?_ ?_
    | with_reducible refine Law.of_fst (by assumption) ?_
    | split
    | dsimp only [id]

theorem State.offerRecord_law {W P : Nat} {s0 s : State} (h : Law W P s0 s) (sl n : Nat) (x : CdRecord) (slot : Bool) (hW : 0x400810 &&& W = 0x400810) (hP : 0x800 &&& P = 0x800) :
    Law W P s0 (State.offerRecord s sl n x slot) := by
  unfold State.offerRecord
  try dsimp only
  repeat' first
    | with_reducible assumption
    | with_reducible exact Law.refl _ _ _
    | exact sub_trans rfl hW
    | exact sub_trans rfl hP
    | with_reducible refine Law.ite (fun _ => ?_) (fun _ => ?_)
    | with_reducible refine State.count_law ?_ _ ?_
    | with_reducible refine State.dropRecord_law ?_ _ _  ?_ ?_
    | with_reducible refine State.pfEvent_law ?_ _ _ _  ?_ ?_
    | exact InMask.mk 22 hW rfl rfl (Reg.CD_RING_CNT_has_4 _)
    | split
    | dsimp only [id]
    | with_reducible refine Law.put ?_ ?_ ?_ ?_ ?_ ?_ ?_ ?_ ?_ ?_ ?_ ?_ ?_ ?_ ?_ ?_ ?_ ?_ ?_ ?_ ?_ ?_
    | with_reducible exact Or.inl rfl
    | exact Or.inr (partIn hP rfl)

theorem execPostWindowEnd_law {W P : Nat} (s : State) (n : Nat) (hW : 0x7f1e &&& W = 0x7f1e) (hP : 0x10088c &&& P = 0x10088c) :
    OutLaw W P s (execPostWindowEnd n s) := by
  unfold execPostWindowEnd
  try dsimp only
  repeat' first
    | with_reducible assumption
    | with_reducible exact OutLaw.fault _
    | with_reducible refine OutLaw.ite (fun _ => ?_) (fun _ => ?_)
    | with_reducible refine OutLaw.next ?_
    | with_reducible exact Law.refl _ _ _
    | exact sub_trans rfl hW
    | exact sub_trans rfl hP
    | with_reducible refine Law.ite (fun _ => ?_) (fun _ => ?_)
    | with_reducible refine State.ringFreeze_law ?_ _ _ _  ?_ ?_
    | split
    | dsimp only [id]

theorem State.hostTrigger_law {W P : Nat} {s0 s : State} (h : Law W P s0 s) (a : Acc) (n : Nat) (hE : InMask W (Reg.ERR_STATUS a.base)) (hO : InMask W (Reg.ERR_OFS a.base)) (hW : 0x3fffde &&& W = 0x3fffde) (hP : 0x10088c &&& P = 0x10088c) :
    Law W P s0 (State.hostTrigger s a n) := by
  unfold State.hostTrigger
  try dsimp only
  repeat' first
    | with_reducible assumption
    | with_reducible exact Law.refl _ _ _
    | exact sub_trans rfl hW
    | exact sub_trans rfl hP
    | exact hE
    | exact hO
    | with_reducible refine State.guard_law ?_ _ _ _ ?_ ?_ (fun _ _ => ?_) ?_ ?_
    | with_reducible refine State.ringTrigger_law ?_ _ _ _  ?_ ?_
    | dsimp only [id]

theorem execRingHostTrigger_law {W P : Nat} (s : State) (n : Nat) (hW : 0x60000000000000000000000000000000000000000000000000000000000000000000000000000003fffde &&& W = 0x60000000000000000000000000000000000000000000000000000000000000000000000000000003fffde) (hP : 0x10088c &&& P = 0x10088c) :
    OutLaw W P s (execRingHostTrigger n s) := by
  unfold execRingHostTrigger
  try dsimp only
  repeat' first
    | with_reducible assumption
    | with_reducible exact OutLaw.fault _
    | with_reducible refine OutLaw.ite (fun _ => ?_) (fun _ => ?_)
    | with_reducible refine OutLaw.next ?_
    | with_reducible exact Law.refl _ _ _
    | exact sub_trans rfl hW
    | exact sub_trans rfl hP
    | with_reducible refine Law.ite (fun _ => ?_) (fun _ => ?_)
    | with_reducible refine State.hostTrigger_law ?_ _ _ ?_ ?_ ?_ ?_
    | exact InMask.mk 337 hW rfl rfl (Reg.ERR_STATUS_has_CD)
    | exact InMask.mk 338 hW rfl rfl (Reg.ERR_OFS_has_CD)
    | split
    | dsimp only [id]

theorem State.release_law {W P : Nat} {s0 s : State} (h : Law W P s0 s) (a : Acc) (n : Nat) (hE : InMask W (Reg.ERR_STATUS a.base)) (hO : InMask W (Reg.ERR_OFS a.base)) (hW : 0x112 &&& W = 0x112) (hP : 0x100804 &&& P = 0x100804) :
    Law W P s0 (State.release s a n) := by
  unfold State.release
  try dsimp only
  repeat' first
    | with_reducible assumption
    | with_reducible exact Law.refl _ _ _
    | exact sub_trans rfl hW
    | exact sub_trans rfl hP
    | exact hE
    | exact hO
    | with_reducible refine State.setFld_law ?_ _ _ ?_
    | with_reducible refine State.guard_law ?_ _ _ _ ?_ ?_ (fun _ _ => ?_) ?_ ?_
    | with_reducible refine State.setRing_law ?_ _ _  ?_ ?_
    | exact InMask.mk 8 hW rfl rfl (Reg.CD_RING_STATUS_has _)
    | dsimp only [id]

theorem execRingRelease_law {W P : Nat} (s : State) (n : Nat) (hW : 0x6000000000000000000000000000000000000000000000000000000000000000000000000000000000112 &&& W = 0x6000000000000000000000000000000000000000000000000000000000000000000000000000000000112) (hP : 0x100804 &&& P = 0x100804) :
    OutLaw W P s (execRingRelease n s) := by
  unfold execRingRelease
  try dsimp only
  repeat' first
    | with_reducible assumption
    | with_reducible exact OutLaw.fault _
    | with_reducible refine OutLaw.ite (fun _ => ?_) (fun _ => ?_)
    | with_reducible refine OutLaw.next ?_
    | with_reducible exact Law.refl _ _ _
    | exact sub_trans rfl hW
    | exact sub_trans rfl hP
    | with_reducible refine Law.ite (fun _ => ?_) (fun _ => ?_)
    | with_reducible refine State.release_law ?_ _ _ ?_ ?_ ?_ ?_
    | exact InMask.mk 337 hW rfl rfl (Reg.ERR_STATUS_has_CD)
    | exact InMask.mk 338 hW rfl rfl (Reg.ERR_OFS_has_CD)
    | split
    | dsimp only [id]

theorem State.readoutChunk_law {W P : Nat} {s0 s : State} (h : Law W P s0 s) (i : Nat) (hW : 0x1800010 &&& W = 0x1800010) (hP : 0x100000 &&& P = 0x100000) :
    Law W P s0 (State.readoutChunk s i) := by
  unfold State.readoutChunk
  try dsimp only
  repeat' first
    | with_reducible assumption
    | with_reducible exact Law.refl _ _ _
    | exact sub_trans rfl hW
    | exact sub_trans rfl hP
    | with_reducible refine State.countN_law ?_ _ _ ?_
    | with_reducible refine State.satAdd_law ?_ _ _ ?_
    | with_reducible refine State.dmaWrite_law ?_ _ _ _  ?_ ?_
    | exact InMask.mk 23 hW rfl rfl (Reg.CD_RING_CNT_has_7 _)
    | exact InMask.mk 24 hW rfl rfl (Reg.CD_RD_BAD_has)
    | with_reducible refine Law.of_fst (by assumption) ?_
    | split
    | dsimp only [id]

theorem State.readoutEnd_law {W P : Nat} {s0 s : State} (h : Law W P s0 s) (k st : Nat) (hW : 0x380011e &&& W = 0x380011e) (hP : 0x10000c &&& P = 0x10000c) :
    Law W P s0 (State.readoutEnd s k st) := by
  unfold State.readoutEnd
  try dsimp only
  repeat' first
    | with_reducible assumption
    | with_reducible exact Law.refl _ _ _
    | exact sub_trans rfl hW
    | exact sub_trans rfl hP
    | with_reducible refine State.setFld_law ?_ _ _ ?_
    | with_reducible refine State.readoutChunk_law ?_ _  ?_ ?_
    | with_reducible refine State.spoutEvent_law ?_ _ _ _ _  ?_ ?_
    | exact InMask.mk 8 hW rfl rfl (Reg.CD_RING_STATUS_has _)
    | exact InMask.mk 25 hW rfl rfl (Reg.CD_RD_STATUS_has)
    | with_reducible refine Law.foldl _ ?_ (fun _ _ _ => ?_)
    | with_reducible refine Law.foldl_fst _ ?_ (fun _ _ _ _ => ?_)
    | dsimp only [id]

theorem State.readoutStart_law {W P : Nat} {s0 s : State} (h : Law W P s0 s) (a : Acc) (hE : InMask W (Reg.ERR_STATUS a.base)) (hO : InMask W (Reg.ERR_OFS a.base)) (hW : 0x380011e &&& W = 0x380011e) (hP : 0x10000c &&& P = 0x10000c) :
    Law W P s0 (State.readoutStart s a) := by
  unfold State.readoutStart
  try dsimp only
  repeat' first
    | with_reducible assumption
    | with_reducible exact Law.refl _ _ _
    | exact sub_trans rfl hW
    | exact sub_trans rfl hP
    | exact hE
    | exact hO
    | with_reducible refine Law.ite (fun _ => ?_) (fun _ => ?_)
    | with_reducible refine State.setFld_law ?_ _ _ ?_
    | with_reducible refine State.guard_law ?_ _ _ _ ?_ ?_ (fun _ _ => ?_) ?_ ?_
    | with_reducible refine State.readoutEnd_law ?_ _ _  ?_ ?_
    | exact InMask.mk 8 hW rfl rfl (Reg.CD_RING_STATUS_has _)
    | exact InMask.mk 24 hW rfl rfl (Reg.CD_RD_BAD_has)
    | exact InMask.mk 25 hW rfl rfl (Reg.CD_RD_STATUS_has)
    | split
    | dsimp only [id]

theorem execReadoutGo_law {W P : Nat} (s : State)  (hW : 0x600000000000000000000000000000000000000000000000000000000000000000000000000000380011e &&& W = 0x600000000000000000000000000000000000000000000000000000000000000000000000000000380011e) (hP : 0x10000c &&& P = 0x10000c) :
    OutLaw W P s (execReadoutGo s) := by
  unfold execReadoutGo
  try dsimp only
  repeat' first
    | with_reducible assumption
    | with_reducible exact OutLaw.fault _
    | with_reducible refine OutLaw.ite (fun _ => ?_) (fun _ => ?_)
    | with_reducible refine OutLaw.next ?_
    | with_reducible exact Law.refl _ _ _
    | exact sub_trans rfl hW
    | exact sub_trans rfl hP
    | with_reducible refine State.readoutStart_law ?_ _ ?_ ?_ ?_ ?_
    | exact InMask.mk 337 hW rfl rfl (Reg.ERR_STATUS_has_CD)
    | exact InMask.mk 338 hW rfl rfl (Reg.ERR_OFS_has_CD)
    | dsimp only [id]

theorem State.readoutAbort_law {W P : Nat} {s0 s : State} (h : Law W P s0 s) (a : Acc) (hE : InMask W (Reg.ERR_STATUS a.base)) (hO : InMask W (Reg.ERR_OFS a.base)) (hW : 0x380011e &&& W = 0x380011e) (hP : 0x14000c &&& P = 0x14000c) :
    Law W P s0 (State.readoutAbort s a) := by
  unfold State.readoutAbort
  try dsimp only
  repeat' first
    | with_reducible assumption
    | with_reducible exact Law.refl _ _ _
    | exact sub_trans rfl hW
    | exact sub_trans rfl hP
    | exact hE
    | exact hO
    | with_reducible refine Law.ite (fun _ => ?_) (fun _ => ?_)
    | with_reducible refine State.guard_law ?_ _ _ _ ?_ ?_ (fun _ _ => ?_) ?_ ?_
    | with_reducible refine State.tookFree_law ?_   ?_ ?_
    | with_reducible refine State.readoutEnd_law ?_ _ _  ?_ ?_
    | split
    | dsimp only [id]

theorem execReadoutAbort_law {W P : Nat} (s : State)  (hW : 0x600000000000000000000000000000000000000000000000000000000000000000000000000000380011e &&& W = 0x600000000000000000000000000000000000000000000000000000000000000000000000000000380011e) (hP : 0x14000c &&& P = 0x14000c) :
    OutLaw W P s (execReadoutAbort s) := by
  unfold execReadoutAbort
  try dsimp only
  repeat' first
    | with_reducible assumption
    | with_reducible exact OutLaw.fault _
    | with_reducible refine OutLaw.ite (fun _ => ?_) (fun _ => ?_)
    | with_reducible refine OutLaw.next ?_
    | with_reducible exact Law.refl _ _ _
    | exact sub_trans rfl hW
    | exact sub_trans rfl hP
    | with_reducible refine State.readoutAbort_law ?_ _ ?_ ?_ ?_ ?_
    | exact InMask.mk 337 hW rfl rfl (Reg.ERR_STATUS_has_CD)
    | exact InMask.mk 338 hW rfl rfl (Reg.ERR_OFS_has_CD)
    | dsimp only [id]

theorem execReadoutDone_law {W P : Nat} (s : State)  (hW : 0x380011e &&& W = 0x380011e) (hP : 0x10000c &&& P = 0x10000c) :
    OutLaw W P s (execReadoutDone s) := by
  unfold execReadoutDone
  try dsimp only
  repeat' first
    | with_reducible assumption
    | with_reducible exact OutLaw.fault _
    | with_reducible refine OutLaw.ite (fun _ => ?_) (fun _ => ?_)
    | with_reducible refine OutLaw.next ?_
    | with_reducible exact Law.refl _ _ _
    | exact sub_trans rfl hW
    | exact sub_trans rfl hP
    | with_reducible refine Law.ite (fun _ => ?_) (fun _ => ?_)
    | with_reducible refine State.readoutEnd_law ?_ _ _  ?_ ?_
    | split
    | dsimp only [id]

theorem State.replayEnd_law {W P : Nat} {s0 s : State} (h : Law W P s0 s) (r st : Nat) (hW : 0x400010e &&& W = 0x400010e) (hP : 0x10000c &&& P = 0x10000c) :
    Law W P s0 (State.replayEnd s r st) := by
  unfold State.replayEnd
  try dsimp only
  repeat' first
    | with_reducible assumption
    | with_reducible exact Law.refl _ _ _
    | exact sub_trans rfl hW
    | exact sub_trans rfl hP
    | with_reducible refine Law.ite (fun _ => ?_) (fun _ => ?_)
    | with_reducible refine State.setFld_law ?_ _ _ ?_
    | with_reducible refine State.spoutEvent_law ?_ _ _ _ _  ?_ ?_
    | exact InMask.mk 8 hW rfl rfl (Reg.CD_RING_STATUS_has _)
    | exact InMask.mk 26 hW rfl rfl (Reg.CD_RP_STATUS_has _)
    | split
    | dsimp only [id]

theorem State.abortReplays_law {W P : Nat} {s0 s : State} (h : Law W P s0 s) (hW : 0x400010e &&& W = 0x400010e) (hP : 0x10000c &&& P = 0x10000c) :
    Law W P s0 (State.abortReplays s) := by
  unfold State.abortReplays
  try dsimp only
  repeat' first
    | with_reducible assumption
    | with_reducible exact Law.refl _ _ _
    | exact sub_trans rfl hW
    | exact sub_trans rfl hP
    | with_reducible refine State.replayEnd_law ?_ _ _  ?_ ?_
    | with_reducible refine Law.foldl _ ?_ (fun _ _ _ => ?_)
    | with_reducible refine Law.foldl_fst _ ?_ (fun _ _ _ _ => ?_)
    | dsimp only [id]

theorem State.replaysLost_law {W P : Nat} {s0 s : State} (h : Law W P s0 s) (hW : 0x600000000000000000000000000000000000000000000000000000000000000000000000000100 &&& W = 0x600000000000000000000000000000000000000000000000000000000000000000000000000100) (hP : 0x800 &&& P = 0x800) :
    Law W P s0 (State.replaysLost s) := by
  unfold State.replaysLost
  try dsimp only
  repeat' first
    | with_reducible assumption
    | with_reducible exact Law.refl _ _ _
    | exact sub_trans rfl hW
    | exact sub_trans rfl hP
    | with_reducible refine State.setFld_law ?_ _ _ ?_
    | with_reducible refine State.porWhere_law ?_ _ (fun _ _ => ?_)
    | exact InMask.mk 8 hW rfl rfl (Reg.CD_RING_STATUS_has _)
    | (rename_i he; simp only [Bool.and_eq_true, decide_eq_true_eq] at he; exact InMask.range 309 hW rfl rfl he.1 he.2)
    | (rename_i he; simp only [Bool.and_eq_true, decide_eq_true_eq] at he; exact InMask.range 310 hW rfl rfl he.1 he.2)
    | with_reducible refine Law.foldl _ ?_ (fun _ _ _ => ?_)
    | with_reducible refine Law.foldl_fst _ ?_ (fun _ _ _ _ => ?_)
    | dsimp only [id]
    | with_reducible refine Law.put ?_ ?_ ?_ ?_ ?_ ?_ ?_ ?_ ?_ ?_ ?_ ?_ ?_ ?_ ?_ ?_ ?_ ?_ ?_ ?_ ?_ ?_
    | with_reducible exact Or.inl rfl
    | exact Or.inr (partIn hP rfl)

end Sys2Proof.Machine
end

