-- ==== Sys2Proof/Laws/LawCalm.lean ====
section
/-! SUPPORT. The law of every operation of Machine/Calm.lean: what it may change (Laws/Law.lean). -/

set_option linter.all false

namespace Sys2Proof.Machine

theorem State.pinsMoved_law {W P : Nat} {s0 s : State} (h : Law W P s0 s) (was : State) (hW : 0x0 &&& W = 0x0) (hP : 0x100000 &&& P = 0x100000) :
    Law W P s0 (State.pinsMoved s was) := by
  unfold State.pinsMoved
  try dsimp only
  repeat' first
    | with_reducible assumption
    | with_reducible exact Law.refl _ _ _
    | exact sub_trans rfl hW
    | exact sub_trans rfl hP
    | with_reducible refine Law.ite (fun _ => ?_) (fun _ => ?_)
    | with_reducible refine State.emit_law ?_ _  ?_ ?_
    | with_reducible refine Law.foldl _ ?_ (fun _ _ _ => ?_)
    | with_reducible refine Law.foldl_fst _ ?_ (fun _ _ _ _ => ?_)
    | split
    | dsimp only [id]

theorem State.setMode_law {W P : Nat} {s0 s : State} (h : Law W P s0 s) (m : Nat) (arg : Nat) (hW : 0x800000e &&& W = 0x800000e) (hP : 0x10000c &&& P = 0x10000c) :
    Law W P s0 (State.setMode s m arg) := by
  unfold State.setMode
  try dsimp only
  repeat' first
    | with_reducible assumption
    | with_reducible exact Law.refl _ _ _
    | exact sub_trans rfl hW
    | exact sub_trans rfl hP
    | with_reducible refine State.setFld_law ?_ _ _ ?_
    | with_reducible refine State.pinsMoved_law ?_ _  ?_ ?_
    | with_reducible refine State.spoutEvent_law ?_ _ _ _ _  ?_ ?_
    | exact InMask.mk 27 hW rfl rfl (Reg.DEV_MODE_has)
    | dsimp only [id]

theorem State.beginTrans_law {W P : Nat} {s0 s : State} (h : Law W P s0 s) (m : Nat) (hW : 0x8000000 &&& W = 0x8000000) (hP : 0x0 &&& P = 0x0) :
    Law W P s0 (State.beginTrans s m) := by
  unfold State.beginTrans
  try dsimp only
  repeat' first
    | with_reducible assumption
    | with_reducible exact Law.refl _ _ _
    | exact sub_trans rfl hW
    | exact sub_trans rfl hP
    | with_reducible refine State.setFld_law ?_ _ _ ?_
    | exact InMask.mk 27 hW rfl rfl (Reg.DEV_MODE_has)
    | dsimp only [id]

theorem State.abandonPartial_law {W P : Nat} {s0 s : State} (h : Law W P s0 s) (hW : 0x10000002 &&& W = 0x10000002) (hP : 0x100004 &&& P = 0x100004) :
    Law W P s0 (State.abandonPartial s) := by
  unfold State.abandonPartial
  try dsimp only
  repeat' first
    | with_reducible assumption
    | with_reducible exact Law.refl _ _ _
    | exact sub_trans rfl hW
    | exact sub_trans rfl hP
    | with_reducible refine Law.ite (fun _ => ?_) (fun _ => ?_)
    | with_reducible refine State.setFld_law ?_ _ _ ?_
    | with_reducible refine State.raiseCause_law ?_ _  ?_ ?_
    | exact InMask.mk 28 hW rfl rfl (Reg.IMG_STATUS_has)
    | split
    | dsimp only [id]

theorem State.setSlice_law {W P : Nat} {s0 s : State} (h : Law W P s0 s) (i : Nat) (t : Slice) (hW : 0x0 &&& W = 0x0) (hP : 0x4000 &&& P = 0x4000) :
    Law W P s0 (State.setSlice s i t) := by
  unfold State.setSlice
  try dsimp only
  repeat' first
    | with_reducible assumption
    | with_reducible exact Law.refl _ _ _
    | exact sub_trans rfl hW
    | exact sub_trans rfl hP
    | dsimp only [id]
    | with_reducible refine Law.put ?_ ?_ ?_ ?_ ?_ ?_ ?_ ?_ ?_ ?_ ?_ ?_ ?_ ?_ ?_ ?_ ?_ ?_ ?_ ?_ ?_ ?_
    | with_reducible exact Or.inl rfl
    | exact Or.inr (partIn hP rfl)

theorem State.learnHalt_law {W P : Nat} {s0 s : State} (h : Law W P s0 s) (i : Nat) (hW : 0x0 &&& W = 0x0) (hP : 0x4000 &&& P = 0x4000) :
    Law W P s0 (State.learnHalt s i) := by
  unfold State.learnHalt
  try dsimp only
  repeat' first
    | with_reducible assumption
    | with_reducible exact Law.refl _ _ _
    | exact sub_trans rfl hW
    | exact sub_trans rfl hP
    | with_reducible refine State.setSlice_law ?_ _ _  ?_ ?_
    | dsimp only [id]

theorem State.enterCalm_law {W P : Nat} {s0 s : State} (h : Law W P s0 s) (hW : 0x1c00010e &&& W = 0x1c00010e) (hP : 0x10400d &&& P = 0x10400d) :
    Law W P s0 (State.enterCalm s) := by
  unfold State.enterCalm
  try dsimp only
  repeat' first
    | with_reducible assumption
    | with_reducible exact Law.refl _ _ _
    | exact sub_trans rfl hW
    | exact sub_trans rfl hP
    | with_reducible refine State.learnHalt_law ?_ _  ?_ ?_
    | with_reducible refine State.abortReplays_law ?_   ?_ ?_
    | with_reducible refine State.abandonPartial_law ?_   ?_ ?_
    | with_reducible refine State.setMode_law ?_ _ _  ?_ ?_
    | with_reducible refine Law.foldl _ ?_ (fun _ _ _ => ?_)
    | with_reducible refine Law.foldl_fst _ ?_ (fun _ _ _ _ => ?_)
    | dsimp only [id]
    | with_reducible refine Law.put ?_ ?_ ?_ ?_ ?_ ?_ ?_ ?_ ?_ ?_ ?_ ?_ ?_ ?_ ?_ ?_ ?_ ?_ ?_ ?_ ?_ ?_
    | with_reducible exact Or.inl rfl
    | exact Or.inr (partIn hP rfl)

theorem State.fatal_law {W P : Nat} {s0 s : State} (h : Law W P s0 s) (b : Nat) (hW : 0x1c00012e &&& W = 0x1c00012e) (hP : 0x10400d &&& P = 0x10400d) :
    Law W P s0 (State.fatal s b) := by
  unfold State.fatal
  try dsimp only
  repeat' first
    | with_reducible assumption
    | with_reducible exact Law.refl _ _ _
    | exact sub_trans rfl hW
    | exact sub_trans rfl hP
    | with_reducible refine Law.ite (fun _ => ?_) (fun _ => ?_)
    | with_reducible refine State.markFatal_law ?_ _  ?_ ?_
    | with_reducible refine State.enterCalm_law ?_   ?_ ?_
    | with_reducible refine State.abandonPartial_law ?_   ?_ ?_
    | split
    | dsimp only [id]
    | with_reducible refine Law.put ?_ ?_ ?_ ?_ ?_ ?_ ?_ ?_ ?_ ?_ ?_ ?_ ?_ ?_ ?_ ?_ ?_ ?_ ?_ ?_ ?_ ?_
    | with_reducible exact Or.inl rfl
    | exact Or.inr (partIn hP rfl)

theorem State.fatalHeld_law {W P : Nat} {s0 s : State} (h : Law W P s0 s) (b : Nat) (hW : 0x1c00012e &&& W = 0x1c00012e) (hP : 0x10400d &&& P = 0x10400d) :
    Law W P s0 (State.fatalHeld s b) := by
  unfold State.fatalHeld
  try dsimp only
  repeat' first
    | with_reducible assumption
    | with_reducible exact Law.refl _ _ _
    | exact sub_trans rfl hW
    | exact sub_trans rfl hP
    | with_reducible refine State.fatal_law ?_ _  ?_ ?_
    | dsimp only [id]
    | with_reducible refine Law.put ?_ ?_ ?_ ?_ ?_ ?_ ?_ ?_ ?_ ?_ ?_ ?_ ?_ ?_ ?_ ?_ ?_ ?_ ?_ ?_ ?_ ?_
    | with_reducible exact Or.inl rfl
    | exact Or.inr (partIn hP rfl)

theorem State.condEnds_law {W P : Nat} {s0 s : State} (h : Law W P s0 s) (b : Nat) (hW : 0x0 &&& W = 0x0) (hP : 0x1 &&& P = 0x1) :
    Law W P s0 (State.condEnds s b) := by
  unfold State.condEnds
  try dsimp only
  repeat' first
    | with_reducible assumption
    | with_reducible exact Law.refl _ _ _
    | exact sub_trans rfl hW
    | exact sub_trans rfl hP
    | dsimp only [id]
    | with_reducible refine Law.put ?_ ?_ ?_ ?_ ?_ ?_ ?_ ?_ ?_ ?_ ?_ ?_ ?_ ?_ ?_ ?_ ?_ ?_ ?_ ?_ ?_ ?_
    | with_reducible exact Or.inl rfl
    | exact Or.inr (partIn hP rfl)

theorem State.setRecov_law {W P : Nat} {s0 s : State} (h : Law W P s0 s) (m : Nat) (hW : 0x20000000 &&& W = 0x20000000) (hP : 0x1 &&& P = 0x1) :
    Law W P s0 (State.setRecov s m) := by
  unfold State.setRecov
  try dsimp only
  repeat' first
    | with_reducible assumption
    | with_reducible exact Law.refl _ _ _
    | exact sub_trans rfl hW
    | exact sub_trans rfl hP
    | with_reducible refine Law.ite (fun _ => ?_) (fun _ => ?_)
    | with_reducible refine State.setFld_law ?_ _ _ ?_
    | exact InMask.mk 29 hW rfl rfl (Reg.ST_HEALTH_has)
    | split
    | dsimp only [id]
    | with_reducible refine Law.put ?_ ?_ ?_ ?_ ?_ ?_ ?_ ?_ ?_ ?_ ?_ ?_ ?_ ?_ ?_ ?_ ?_ ?_ ?_ ?_ ?_ ?_
    | with_reducible exact Or.inl rfl
    | exact Or.inr (partIn hP rfl)

theorem State.openRecov_law {W P : Nat} {s0 s : State} (h : Law W P s0 s) (i : Nat) (hW : 0x20000000 &&& W = 0x20000000) (hP : 0x1 &&& P = 0x1) :
    Law W P s0 (State.openRecov s i) := by
  unfold State.openRecov
  try dsimp only
  repeat' first
    | with_reducible assumption
    | with_reducible exact Law.refl _ _ _
    | exact sub_trans rfl hW
    | exact sub_trans rfl hP
    | with_reducible refine State.setRecov_law ?_ _  ?_ ?_
    | dsimp only [id]

theorem State.closeRecov_law {W P : Nat} {s0 s : State} (h : Law W P s0 s) (i : Nat) (hW : 0x20000000 &&& W = 0x20000000) (hP : 0x1 &&& P = 0x1) :
    Law W P s0 (State.closeRecov s i) := by
  unfold State.closeRecov
  try dsimp only
  repeat' first
    | with_reducible assumption
    | with_reducible exact Law.refl _ _ _
    | exact sub_trans rfl hW
    | exact sub_trans rfl hP
    | with_reducible refine State.setRecov_law ?_ _  ?_ ?_
    | dsimp only [id]

theorem State.coveredFault_law {W P : Nat} {s0 s : State} (h : Law W P s0 s) (hW : 0x1c00012e &&& W = 0x1c00012e) (hP : 0x10400d &&& P = 0x10400d) :
    Law W P s0 (State.coveredFault s) := by
  unfold State.coveredFault
  try dsimp only
  repeat' first
    | with_reducible assumption
    | with_reducible exact Law.refl _ _ _
    | exact sub_trans rfl hW
    | exact sub_trans rfl hP
    | with_reducible refine Law.ite (fun _ => ?_) (fun _ => ?_)
    | with_reducible refine State.fatal_law ?_ _  ?_ ?_
    | split
    | dsimp only [id]

theorem State.watchdog_law {W P : Nat} {s0 s : State} (h : Law W P s0 s) (n : Nat) (hW : 0x4000000e &&& W = 0x4000000e) (hP : 0x10000c &&& P = 0x10000c) :
    Law W P s0 (State.watchdog s n) := by
  unfold State.watchdog
  try dsimp only
  repeat' first
    | with_reducible assumption
    | with_reducible exact Law.refl _ _ _
    | exact sub_trans rfl hW
    | exact sub_trans rfl hP
    | with_reducible refine State.count_law ?_ _ ?_
    | with_reducible refine State.spoutEvent_law ?_ _ _ _ _  ?_ ?_
    | exact InMask.mk 30 hW rfl rfl (Reg.ST_WD_CNT_has _)
    | dsimp only [id]

end Sys2Proof.Machine
end

