-- ==== Sys2Proof/Laws/LawKettle.lean ====
section
/-! SUPPORT. The law of every operation of Machine/Kettle.lean: what it may change (Laws/Law.lean). -/

set_option linter.all false

namespace Sys2Proof.Machine

theorem State.setFeed_law {W P : Nat} {s0 s : State} (h : Law W P s0 s) (d : Nat) (f : KtFeed) (hW : 0x0 &&& W = 0x0) (hP : 0x100 &&& P = 0x100) :
    Law W P s0 (State.setFeed s d f) := by
  unfold State.setFeed
  try dsimp only
  repeat' first
    | with_reducible assumption
    | with_reducible exact Law.refl _ _ _
    | exact sub_trans rfl hW
    | exact sub_trans rfl hP
    | dsimp only [id]
    | with_reducible refine Law.put ?_ ?_ ?_ ?_ ?_ ?_ ?_ ?_ ?_ ?_ ?_ ?_ ?_ ?_ ?_ ?_ ?_ ?_ ?_ ?_ ?_ ?_
    | with_reducible exact Or.inl rfl
    | exact Or.inr (partIn hP rfl)

theorem State.eachCh_law {W P : Nat} {s0 s : State} (h : Law W P s0 s) (d : Nat) (f : Nat → KtDom → KtDom) (hW : 0x0 &&& W = 0x0) (hP : 0x100 &&& P = 0x100) :
    Law W P s0 (State.eachCh s d f) := by
  unfold State.eachCh
  try dsimp only
  repeat' first
    | with_reducible assumption
    | with_reducible exact Law.refl _ _ _
    | exact sub_trans rfl hW
    | exact sub_trans rfl hP
    | with_reducible refine Law.ite (fun _ => ?_) (fun _ => ?_)
    | with_reducible refine State.setKtDom_law ?_ _ _ _  ?_ ?_
    | with_reducible refine Law.foldl _ ?_ (fun _ _ _ => ?_)
    | with_reducible refine Law.foldl_fst _ ?_ (fun _ _ _ _ => ?_)
    | split
    | dsimp only [id]

theorem State.histNote_law {W P : Nat} {s0 s : State} (h : Law W P s0 s) (d : Nat) (hW : 0x0 &&& W = 0x0) (hP : 0x100 &&& P = 0x100) :
    Law W P s0 (State.histNote s d) := by
  unfold State.histNote
  try dsimp only
  repeat' first
    | with_reducible assumption
    | with_reducible exact Law.refl _ _ _
    | exact sub_trans rfl hW
    | exact sub_trans rfl hP
    | with_reducible refine Law.ite (fun _ => ?_) (fun _ => ?_)
    | with_reducible refine Law.of_fst (by assumption) ?_
    | split
    | dsimp only [id]
    | with_reducible refine Law.put ?_ ?_ ?_ ?_ ?_ ?_ ?_ ?_ ?_ ?_ ?_ ?_ ?_ ?_ ?_ ?_ ?_ ?_ ?_ ?_ ?_ ?_
    | with_reducible exact Or.inl rfl
    | exact Or.inr (partIn hP rfl)

theorem State.kettleTick_law {W P : Nat} {s0 s : State} (h : Law W P s0 s) (hW : 0x0 &&& W = 0x0) (hP : 0x100 &&& P = 0x100) :
    Law W P s0 (State.kettleTick s) := by
  unfold State.kettleTick
  try dsimp only
  repeat' first
    | with_reducible assumption
    | with_reducible exact Law.refl _ _ _
    | exact sub_trans rfl hW
    | exact sub_trans rfl hP
    | with_reducible refine Law.ite (fun _ => ?_) (fun _ => ?_)
    | with_reducible refine State.histNote_law ?_ _  ?_ ?_
    | with_reducible refine State.eachCh_law ?_ _ _  ?_ ?_
    | with_reducible refine Law.foldl _ ?_ (fun _ _ _ => ?_)
    | with_reducible refine Law.foldl_fst _ ?_ (fun _ _ _ _ => ?_)
    | split
    | dsimp only [id]
    | with_reducible refine Law.put ?_ ?_ ?_ ?_ ?_ ?_ ?_ ?_ ?_ ?_ ?_ ?_ ?_ ?_ ?_ ?_ ?_ ?_ ?_ ?_ ?_ ?_
    | with_reducible exact Or.inl rfl
    | exact Or.inr (partIn hP rfl)

theorem State.overlap_law {W P : Nat} {s0 s : State} (h : Law W P s0 s) (hW : 0x0 &&& W = 0x0) (hP : 0x100 &&& P = 0x100) :
    Law W P s0 (State.overlap s) := by
  unfold State.overlap
  try dsimp only
  repeat' first
    | with_reducible assumption
    | with_reducible exact Law.refl _ _ _
    | exact sub_trans rfl hW
    | exact sub_trans rfl hP
    | with_reducible refine Law.foldl _ ?_ (fun _ _ _ => ?_)
    | with_reducible refine Law.foldl_fst _ ?_ (fun _ _ _ _ => ?_)
    | dsimp only [id]
    | with_reducible refine Law.put ?_ ?_ ?_ ?_ ?_ ?_ ?_ ?_ ?_ ?_ ?_ ?_ ?_ ?_ ?_ ?_ ?_ ?_ ?_ ?_ ?_ ?_
    | with_reducible exact Or.inl rfl
    | exact Or.inr (partIn hP rfl)

theorem State.handover_law {W P : Nat} {s0 s : State} (h : Law W P s0 s) (hW : 0x180000000 &&& W = 0x180000000) (hP : 0x100 &&& P = 0x100) :
    Law W P s0 (State.handover s) := by
  unfold State.handover
  try dsimp only
  repeat' first
    | with_reducible assumption
    | with_reducible exact Law.refl _ _ _
    | exact sub_trans rfl hW
    | exact sub_trans rfl hP
    | with_reducible refine Law.ite (fun _ => ?_) (fun _ => ?_)
    | with_reducible refine State.setFld_law ?_ _ _ ?_
    | with_reducible refine State.count_law ?_ _ ?_
    | with_reducible refine State.overlap_law ?_   ?_ ?_
    | exact InMask.mk 31 hW rfl rfl (Reg.KT_CH_STATUS_has)
    | exact InMask.mk 32 hW rfl rfl (Reg.KT_CNT_has_5)
    | with_reducible refine Law.of_fst (by assumption) ?_
    | split
    | dsimp only [id]

theorem State.voteCheck_law {W P : Nat} {s0 s : State} (h : Law W P s0 s) (hW : 0x1c00012e &&& W = 0x1c00012e) (hP : 0x10400d &&& P = 0x10400d) :
    Law W P s0 (State.voteCheck s) := by
  unfold State.voteCheck
  try dsimp only
  repeat' first
    | with_reducible assumption
    | with_reducible exact Law.refl _ _ _
    | exact sub_trans rfl hW
    | exact sub_trans rfl hP
    | with_reducible refine Law.ite (fun _ => ?_) (fun _ => ?_)
    | with_reducible refine State.fatalHeld_law ?_ _  ?_ ?_
    | with_reducible refine Law.of_fst (by assumption) ?_
    | split
    | dsimp only [id]

theorem State.fhtBegin_law {W P : Nat} {s0 s : State} (h : Law W P s0 s) (ch d : Nat) (hW : 0x200000000 &&& W = 0x200000000) (hP : 0x40100 &&& P = 0x40100) :
    Law W P s0 (State.fhtBegin s ch d) := by
  unfold State.fhtBegin
  try dsimp only
  repeat' first
    | with_reducible assumption
    | with_reducible exact Law.refl _ _ _
    | exact sub_trans rfl hW
    | exact sub_trans rfl hP
    | with_reducible refine State.setFld_law ?_ _ _ ?_
    | with_reducible refine State.tookFree_law ?_   ?_ ?_
    | exact InMask.mk 33 hW rfl rfl (Reg.KT_FHT_STATUS_has)
    | dsimp only [id]
    | with_reducible refine Law.put ?_ ?_ ?_ ?_ ?_ ?_ ?_ ?_ ?_ ?_ ?_ ?_ ?_ ?_ ?_ ?_ ?_ ?_ ?_ ?_ ?_ ?_
    | with_reducible exact Or.inl rfl
    | exact Or.inr (partIn hP rfl)

theorem State.fhtPeriodic_law {W P : Nat} {s0 s : State} (h : Law W P s0 s) (hW : 0x200000000 &&& W = 0x200000000) (hP : 0x40100 &&& P = 0x40100) :
    Law W P s0 (State.fhtPeriodic s) := by
  unfold State.fhtPeriodic
  try dsimp only
  repeat' first
    | with_reducible assumption
    | with_reducible exact Law.refl _ _ _
    | exact sub_trans rfl hW
    | exact sub_trans rfl hP
    | with_reducible refine State.fhtBegin_law ?_ _ _  ?_ ?_
    | with_reducible refine Law.of_fst (by assumption) ?_
    | split
    | dsimp only [id]
    | with_reducible refine Law.put ?_ ?_ ?_ ?_ ?_ ?_ ?_ ?_ ?_ ?_ ?_ ?_ ?_ ?_ ?_ ?_ ?_ ?_ ?_ ?_ ?_ ?_
    | with_reducible exact Or.inl rfl
    | exact Or.inr (partIn hP rfl)

theorem State.fhtNext_law {W P : Nat} {s0 s : State} (h : Law W P s0 s) (hW : 0x200000000 &&& W = 0x200000000) (hP : 0x40100 &&& P = 0x40100) :
    Law W P s0 (State.fhtNext s) := by
  unfold State.fhtNext
  try dsimp only
  repeat' first
    | with_reducible assumption
    | with_reducible exact Law.refl _ _ _
    | exact sub_trans rfl hW
    | exact sub_trans rfl hP
    | with_reducible refine Law.ite (fun _ => ?_) (fun _ => ?_)
    | with_reducible refine State.fhtPeriodic_law ?_   ?_ ?_
    | split
    | dsimp only [id]

theorem State.fhtAbandon_law {W P : Nat} {s0 s : State} (h : Law W P s0 s) (hW : 0x20000000e &&& W = 0x20000000e) (hP : 0x14010c &&& P = 0x14010c) :
    Law W P s0 (State.fhtAbandon s) := by
  unfold State.fhtAbandon
  try dsimp only
  repeat' first
    | with_reducible assumption
    | with_reducible exact Law.refl _ _ _
    | exact sub_trans rfl hW
    | exact sub_trans rfl hP
    | with_reducible refine Law.ite (fun _ => ?_) (fun _ => ?_)
    | with_reducible refine State.setFld_law ?_ _ _ ?_
    | with_reducible refine State.spoutEvent_law ?_ _ _ _ _  ?_ ?_
    | with_reducible refine State.fhtNext_law ?_   ?_ ?_
    | exact InMask.mk 33 hW rfl rfl (Reg.KT_FHT_STATUS_has)
    | split
    | dsimp only [id]

theorem State.exclude_law {W P : Nat} {s0 s : State} (h : Law W P s0 s) (ch arg : Nat) (hW : 0xea000000e &&& W = 0xea000000e) (hP : 0x14010d &&& P = 0x14010d) :
    Law W P s0 (State.exclude s ch arg) := by
  unfold State.exclude
  try dsimp only
  repeat' first
    | with_reducible assumption
    | with_reducible exact Law.refl _ _ _
    | exact sub_trans rfl hW
    | exact sub_trans rfl hP
    | with_reducible refine Law.ite (fun _ => ?_) (fun _ => ?_)
    | with_reducible refine State.setFld_law ?_ _ _ ?_
    | with_reducible refine State.count_law ?_ _ ?_
    | with_reducible refine State.flagBit_law ?_ _ _ ?_
    | with_reducible refine State.spoutEvent_law ?_ _ _ _ _  ?_ ?_
    | with_reducible refine State.openRecov_law ?_ _  ?_ ?_
    | with_reducible refine State.fhtAbandon_law ?_   ?_ ?_
    | exact InMask.mk 31 hW rfl rfl (Reg.KT_CH_STATUS_has)
    | exact InMask.mk 34 hW rfl rfl (Reg.KT_CH_FLAGS_has)
    | exact InMask.mk 35 hW rfl rfl (Reg.KT_CNT_has _)
    | split
    | dsimp only [id]

theorem State.afterExclusion_law {W P : Nat} {s0 s : State} (h : Law W P s0 s) (hW : 0x19c00012e &&& W = 0x19c00012e) (hP : 0x10410d &&& P = 0x10410d) :
    Law W P s0 (State.afterExclusion s) := by
  unfold State.afterExclusion
  try dsimp only
  repeat' first
    | with_reducible assumption
    | with_reducible exact Law.refl _ _ _
    | exact sub_trans rfl hW
    | exact sub_trans rfl hP
    | with_reducible refine Law.ite (fun _ => ?_) (fun _ => ?_)
    | with_reducible refine State.setFld_law ?_ _ _ ?_
    | with_reducible refine State.handover_law ?_   ?_ ?_
    | with_reducible refine State.voteCheck_law ?_   ?_ ?_
    | exact InMask.mk 31 hW rfl rfl (Reg.KT_CH_STATUS_has)
    | split
    | dsimp only [id]

theorem execChannelExclusion_law {W P : Nat} (s : State) (chs : BitVec 3) (hW : 0xfbc00012e &&& W = 0xfbc00012e) (hP : 0x14410d &&& P = 0x14410d) :
    OutLaw W P s (execChannelExclusion chs s) := by
  unfold execChannelExclusion
  try dsimp only
  repeat' first
    | with_reducible assumption
    | with_reducible exact OutLaw.fault _
    | with_reducible refine OutLaw.ite (fun _ => ?_) (fun _ => ?_)
    | with_reducible refine OutLaw.next ?_
    | with_reducible exact Law.refl _ _ _
    | exact sub_trans rfl hW
    | exact sub_trans rfl hP
    | with_reducible refine Law.ite (fun _ => ?_) (fun _ => ?_)
    | with_reducible refine State.exclude_law ?_ _ _  ?_ ?_
    | with_reducible refine State.afterExclusion_law ?_   ?_ ?_
    | with_reducible refine State.fatalHeld_law ?_ _  ?_ ?_
    | with_reducible refine Law.foldl _ ?_ (fun _ _ _ => ?_)
    | with_reducible refine Law.foldl_fst _ ?_ (fun _ _ _ _ => ?_)
    | split
    | dsimp only [id]

theorem execKettleWatchdogExpiry_law {W P : Nat} (s : State) (ch : Nat) (hW : 0xffc00012e &&& W = 0xffc00012e) (hP : 0x14410d &&& P = 0x14410d) :
    OutLaw W P s (execKettleWatchdogExpiry ch s) := by
  unfold execKettleWatchdogExpiry
  try dsimp only
  repeat' first
    | with_reducible assumption
    | with_reducible exact OutLaw.fault _
    | with_reducible refine OutLaw.ite (fun _ => ?_) (fun _ => ?_)
    | with_reducible refine OutLaw.next ?_
    | with_reducible exact Law.refl _ _ _
    | exact sub_trans rfl hW
    | exact sub_trans rfl hP
    | with_reducible refine Law.ite (fun _ => ?_) (fun _ => ?_)
    | with_reducible refine State.flagBit_law ?_ _ _ ?_
    | with_reducible refine State.watchdog_law ?_ _  ?_ ?_
    | with_reducible refine State.exclude_law ?_ _ _  ?_ ?_
    | with_reducible refine State.afterExclusion_law ?_   ?_ ?_
    | exact InMask.mk 34 hW rfl rfl (Reg.KT_CH_FLAGS_has)
    | split
    | dsimp only [id]

theorem execChannelCopy_law {W P : Nat} (s : State) (ch : Nat) (hW : 0x80000000 &&& W = 0x80000000) (hP : 0x100 &&& P = 0x100) :
    OutLaw W P s (execChannelCopy ch s) := by
  unfold execChannelCopy
  try dsimp only
  repeat' first
    | with_reducible assumption
    | with_reducible exact OutLaw.fault _
    | with_reducible refine OutLaw.ite (fun _ => ?_) (fun _ => ?_)
    | with_reducible refine OutLaw.next ?_
    | with_reducible exact Law.refl _ _ _
    | exact sub_trans rfl hW
    | exact sub_trans rfl hP
    | with_reducible refine Law.ite (fun _ => ?_) (fun _ => ?_)
    | with_reducible refine State.setFld_law ?_ _ _ ?_
    | with_reducible refine State.setKtDom_law ?_ _ _ _  ?_ ?_
    | exact InMask.mk 31 hW rfl rfl (Reg.KT_CH_STATUS_has)
    | with_reducible refine Law.foldl _ ?_ (fun _ _ _ => ?_)
    | with_reducible refine Law.foldl_fst _ ?_ (fun _ _ _ _ => ?_)
    | split
    | dsimp only [id]
    | with_reducible refine Law.put ?_ ?_ ?_ ?_ ?_ ?_ ?_ ?_ ?_ ?_ ?_ ?_ ?_ ?_ ?_ ?_ ?_ ?_ ?_ ?_ ?_ ?_
    | with_reducible exact Or.inl rfl
    | exact Or.inr (partIn hP rfl)

theorem execObserveDeviation_law {W P : Nat} (s : State) (ch : Nat) (hW : 0x0 &&& W = 0x0) (hP : 0x100 &&& P = 0x100) :
    OutLaw W P s (execObserveDeviation ch s) := by
  unfold execObserveDeviation
  try dsimp only
  repeat' first
    | with_reducible assumption
    | with_reducible exact OutLaw.fault _
    | with_reducible refine OutLaw.ite (fun _ => ?_) (fun _ => ?_)
    | with_reducible refine OutLaw.next ?_
    | with_reducible exact Law.refl _ _ _
    | exact sub_trans rfl hW
    | exact sub_trans rfl hP
    | with_reducible refine Law.ite (fun _ => ?_) (fun _ => ?_)
    | split
    | dsimp only [id]
    | with_reducible refine Law.put ?_ ?_ ?_ ?_ ?_ ?_ ?_ ?_ ?_ ?_ ?_ ?_ ?_ ?_ ?_ ?_ ?_ ?_ ?_ ?_ ?_ ?_
    | with_reducible exact Or.inl rfl
    | exact Or.inr (partIn hP rfl)

theorem execReadmission_law {W P : Nat} (s : State) (ch : Nat) (hW : 0x20000000000000000000000000000000000000000000000000000000000001a000000e &&& W = 0x20000000000000000000000000000000000000000000000000000000000001a000000e) (hP : 0x10010d &&& P = 0x10010d) :
    OutLaw W P s (execReadmission ch s) := by
  unfold execReadmission
  try dsimp only
  repeat' first
    | with_reducible assumption
    | with_reducible exact OutLaw.fault _
    | with_reducible refine OutLaw.ite (fun _ => ?_) (fun _ => ?_)
    | with_reducible refine OutLaw.next ?_
    | with_reducible exact Law.refl _ _ _
    | exact sub_trans rfl hW
    | exact sub_trans rfl hP
    | with_reducible refine Law.ite (fun _ => ?_) (fun _ => ?_)
    | with_reducible refine State.setFld_law ?_ _ _ ?_
    | with_reducible refine State.count_law ?_ _ ?_
    | with_reducible refine State.spoutEvent_law ?_ _ _ _ _  ?_ ?_
    | with_reducible refine State.closeRecov_law ?_ _  ?_ ?_
    | with_reducible refine State.condEnds_law ?_ _  ?_ ?_
    | with_reducible refine State.handover_law ?_   ?_ ?_
    | exact InMask.mk 31 hW rfl rfl (Reg.KT_CH_STATUS_has)
    | exact InMask.mk 277 hW rfl rfl (Reg.KT_CNT_has_3)
    | split
    | dsimp only [id]
    | with_reducible refine Law.put ?_ ?_ ?_ ?_ ?_ ?_ ?_ ?_ ?_ ?_ ?_ ?_ ?_ ?_ ?_ ?_ ?_ ?_ ?_ ?_ ?_ ?_
    | with_reducible exact Or.inl rfl
    | exact Or.inr (partIn hP rfl)

theorem execHandoverForced_law {W P : Nat} (s : State)  (hW : 0x4000000000000000000000000000000000000000000000000000000000000580000000 &&& W = 0x4000000000000000000000000000000000000000000000000000000000000580000000) (hP : 0x100 &&& P = 0x100) :
    OutLaw W P s (execHandoverForced s) := by
  unfold execHandoverForced
  try dsimp only
  repeat' first
    | with_reducible assumption
    | with_reducible exact OutLaw.fault _
    | with_reducible refine OutLaw.ite (fun _ => ?_) (fun _ => ?_)
    | with_reducible refine OutLaw.next ?_
    | with_reducible exact Law.refl _ _ _
    | exact sub_trans rfl hW
    | exact sub_trans rfl hP
    | with_reducible refine Law.ite (fun _ => ?_) (fun _ => ?_)
    | with_reducible refine State.count_law ?_ _ ?_
    | with_reducible refine State.flag_law ?_ _ ?_
    | with_reducible refine State.handover_law ?_   ?_ ?_
    | exact InMask.mk 34 hW rfl rfl (Reg.KT_CH_FLAGS_has)
    | exact InMask.mk 278 hW rfl rfl (Reg.KT_CNT_has_4)
    | split
    | dsimp only [id]

theorem State.reportFi_law {W P : Nat} {s0 s : State} (h : Law W P s0 s) (d : Nat) (hW : 0x7000000000 &&& W = 0x7000000000) (hP : 0x40000 &&& P = 0x40000) :
    Law W P s0 (State.reportFi s d) := by
  unfold State.reportFi
  try dsimp only
  repeat' first
    | with_reducible assumption
    | with_reducible exact Law.refl _ _ _
    | exact sub_trans rfl hW
    | exact sub_trans rfl hP
    | with_reducible refine Law.ite (fun _ => ?_) (fun _ => ?_)
    | with_reducible refine State.setFld_law ?_ _ _ ?_
    | with_reducible refine State.flag_law ?_ _ ?_
    | with_reducible refine State.tookFree_law ?_   ?_ ?_
    | exact InMask.mk 36 hW rfl rfl (Reg.KT_DOM_STATUS_has _)
    | exact InMask.mk 37 hW rfl rfl (Reg.KT_DOM_FLAGS_has _)
    | exact InMask.mk 38 hW rfl rfl (Reg.KT_FREQ_has _)
    | split
    | dsimp only [id]

theorem State.holdoverMarks_law {W P : Nat} {s0 s : State} (h : Law W P s0 s) (d : Nat) (hW : 0xafbc00012e &&& W = 0xafbc00012e) (hP : 0x14410d &&& P = 0x14410d) :
    Law W P s0 (State.holdoverMarks s d) := by
  unfold State.holdoverMarks
  try dsimp only
  repeat' first
    | with_reducible assumption
    | with_reducible exact Law.refl _ _ _
    | exact sub_trans rfl hW
    | exact sub_trans rfl hP
    | with_reducible refine State.count_law ?_ _ ?_
    | with_reducible refine State.flag_law ?_ _ ?_
    | with_reducible refine State.fhtAbandon_law ?_   ?_ ?_
    | with_reducible refine State.exclude_law ?_ _ _  ?_ ?_
    | with_reducible refine State.afterExclusion_law ?_   ?_ ?_
    | exact InMask.mk 37 hW rfl rfl (Reg.KT_DOM_FLAGS_has _)
    | exact InMask.mk 39 hW rfl rfl (Reg.KT_DOM_CNT_has_6 _)
    | with_reducible refine Law.foldl _ ?_ (fun _ _ _ => ?_)
    | with_reducible refine Law.foldl_fst _ ?_ (fun _ _ _ _ => ?_)
    | with_reducible refine Law.of_fst (by assumption) ?_
    | split
    | dsimp only [id]

theorem State.toHoldover_law {W P : Nat} {s0 s : State} (h : Law W P s0 s) (d : Nat) (hW : 0xffbc00012e &&& W = 0xffbc00012e) (hP : 0x14410d &&& P = 0x14410d) :
    Law W P s0 (State.toHoldover s d) := by
  unfold State.toHoldover
  try dsimp only
  repeat' first
    | with_reducible assumption
    | with_reducible exact Law.refl _ _ _
    | exact sub_trans rfl hW
    | exact sub_trans rfl hP
    | with_reducible refine State.setFld_law ?_ _ _ ?_
    | with_reducible refine State.holdoverMarks_law ?_ _  ?_ ?_
    | with_reducible refine State.tookFree_law ?_   ?_ ?_
    | with_reducible refine State.eachCh_law ?_ _ _  ?_ ?_
    | with_reducible refine State.reportFi_law ?_ _  ?_ ?_
    | with_reducible refine State.spoutEvent_law ?_ _ _ _ _  ?_ ?_
    | exact InMask.mk 36 hW rfl rfl (Reg.KT_DOM_STATUS_has _)
    | dsimp only [id]

theorem State.pairsForm_law {W P : Nat} {s0 s : State} (h : Law W P s0 s) (hW : 0x10000000000 &&& W = 0x10000000000) (hP : 0x0 &&& P = 0x0) :
    Law W P s0 (State.pairsForm s) := by
  unfold State.pairsForm
  try dsimp only
  repeat' first
    | with_reducible assumption
    | with_reducible exact Law.refl _ _ _
    | exact sub_trans rfl hW
    | exact sub_trans rfl hP
    | with_reducible refine State.setFld_law ?_ _ _ ?_
    | exact InMask.mk 40 hW rfl rfl (Reg.KT_PAIR_STATUS_has _)
    | with_reducible refine Law.foldl _ ?_ (fun _ _ _ => ?_)
    | with_reducible refine Law.foldl_fst _ ?_ (fun _ _ _ _ => ?_)
    | dsimp only [id]

theorem State.setDomState_law {W P : Nat} {s0 s : State} (h : Law W P s0 s) (d st : Nat) (hW : 0x1ffbc00012e &&& W = 0x1ffbc00012e) (hP : 0x14410d &&& P = 0x14410d) :
    Law W P s0 (State.setDomState s d st) := by
  unfold State.setDomState
  try dsimp only
  repeat' first
    | with_reducible assumption
    | with_reducible exact Law.refl _ _ _
    | exact sub_trans rfl hW
    | exact sub_trans rfl hP
    | with_reducible refine Law.ite (fun _ => ?_) (fun _ => ?_)
    | with_reducible refine State.setFld_law ?_ _ _ ?_
    | with_reducible refine State.toHoldover_law ?_ _  ?_ ?_
    | exact InMask.mk 36 hW rfl rfl (Reg.KT_DOM_STATUS_has _)
    | exact InMask.mk 40 hW rfl rfl (Reg.KT_PAIR_STATUS_has _)
    | split
    | dsimp only [id]

theorem State.toFollow_law {W P : Nat} {s0 s : State} (h : Law W P s0 s) (k : Nat) (hW : 0x3700000000e &&& W = 0x3700000000e) (hP : 0x14010c &&& P = 0x14010c) :
    Law W P s0 (State.toFollow s k) := by
  unfold State.toFollow
  try dsimp only
  repeat' first
    | with_reducible assumption
    | with_reducible exact Law.refl _ _ _
    | exact sub_trans rfl hW
    | exact sub_trans rfl hP
    | with_reducible refine State.setFld_law ?_ _ _ ?_
    | with_reducible refine State.count_law ?_ _ ?_
    | with_reducible refine State.flag_law ?_ _ ?_
    | with_reducible refine State.tookFree_law ?_   ?_ ?_
    | with_reducible refine State.eachCh_law ?_ _ _  ?_ ?_
    | with_reducible refine State.reportFi_law ?_ _  ?_ ?_
    | with_reducible refine State.spoutEvent_law ?_ _ _ _ _  ?_ ?_
    | exact InMask.mk 36 hW rfl rfl (Reg.KT_DOM_STATUS_has _)
    | exact InMask.mk 37 hW rfl rfl (Reg.KT_DOM_FLAGS_has _)
    | exact InMask.mk 40 hW rfl rfl (Reg.KT_PAIR_STATUS_has _)
    | exact InMask.mk 41 hW rfl rfl (Reg.KT_DOM_CNT_has_7 _)
    | dsimp only [id]

theorem State.sourceLost_law {W P : Nat} {s0 s : State} (h : Law W P s0 s) (d : Nat) (hW : 0x3ffbc00012e &&& W = 0x3ffbc00012e) (hP : 0x14410d &&& P = 0x14410d) :
    Law W P s0 (State.sourceLost s d) := by
  unfold State.sourceLost
  try dsimp only
  repeat' first
    | with_reducible assumption
    | with_reducible exact Law.refl _ _ _
    | exact sub_trans rfl hW
    | exact sub_trans rfl hP
    | with_reducible refine Law.ite (fun _ => ?_) (fun _ => ?_)
    | with_reducible refine State.setFld_law ?_ _ _ ?_
    | with_reducible refine State.flag_law ?_ _ ?_
    | with_reducible refine State.setFeed_law ?_ _ _  ?_ ?_
    | with_reducible refine State.toFollow_law ?_ _  ?_ ?_
    | with_reducible refine State.toHoldover_law ?_ _  ?_ ?_
    | exact InMask.mk 37 hW rfl rfl (Reg.KT_DOM_FLAGS_has _)
    | exact InMask.mk 40 hW rfl rfl (Reg.KT_PAIR_STATUS_has _)
    | split
    | dsimp only [id]

theorem execSourceLoss_law {W P : Nat} (s : State) (d : Nat) (hW : 0x3ffbc00012e &&& W = 0x3ffbc00012e) (hP : 0x14410d &&& P = 0x14410d) :
    OutLaw W P s (execSourceLoss d s) := by
  unfold execSourceLoss
  try dsimp only
  repeat' first
    | with_reducible assumption
    | with_reducible exact OutLaw.fault _
    | with_reducible refine OutLaw.ite (fun _ => ?_) (fun _ => ?_)
    | with_reducible refine OutLaw.next ?_
    | with_reducible exact Law.refl _ _ _
    | exact sub_trans rfl hW
    | exact sub_trans rfl hP
    | with_reducible refine Law.ite (fun _ => ?_) (fun _ => ?_)
    | with_reducible refine State.sourceLost_law ?_ _  ?_ ?_
    | split
    | dsimp only [id]

theorem execPairRevert_law {W P : Nat} (s : State) (k : Nat) (hW : 0x800000000000000000000000000000000000000000000000000000000001100000000e &&& W = 0x800000000000000000000000000000000000000000000000000000000001100000000e) (hP : 0x10010c &&& P = 0x10010c) :
    OutLaw W P s (execPairRevert k s) := by
  unfold execPairRevert
  try dsimp only
  repeat' first
    | with_reducible assumption
    | with_reducible exact OutLaw.fault _
    | with_reducible refine OutLaw.ite (fun _ => ?_) (fun _ => ?_)
    | with_reducible refine OutLaw.next ?_
    | with_reducible exact Law.refl _ _ _
    | exact sub_trans rfl hW
    | exact sub_trans rfl hP
    | with_reducible refine Law.ite (fun _ => ?_) (fun _ => ?_)
    | with_reducible refine State.setFld_law ?_ _ _ ?_
    | with_reducible refine State.count_law ?_ _ ?_
    | with_reducible refine State.setFeed_law ?_ _ _  ?_ ?_
    | with_reducible refine State.spoutEvent_law ?_ _ _ _ _  ?_ ?_
    | exact InMask.mk 36 hW rfl rfl (Reg.KT_DOM_STATUS_has _)
    | exact InMask.mk 40 hW rfl rfl (Reg.KT_PAIR_STATUS_has _)
    | exact InMask.mk 279 hW rfl rfl (Reg.KT_DOM_CNT_has_8 _)
    | split
    | dsimp only [id]

theorem State.holdPartner_law {W P : Nat} {s0 s : State} (h : Law W P s0 s) (a : Acc) (k : Nat) (hE : InMask W (Reg.ERR_STATUS a.base)) (hO : InMask W (Reg.ERR_OFS a.base)) (hW : 0x10000000012 &&& W = 0x10000000012) (hP : 0x100004 &&& P = 0x100004) :
    Law W P s0 (State.holdPartner s a k) := by
  unfold State.holdPartner
  try dsimp only
  repeat' first
    | with_reducible assumption
    | with_reducible exact Law.refl _ _ _
    | exact sub_trans rfl hW
    | exact sub_trans rfl hP
    | exact hE
    | exact hO
    | with_reducible refine State.setFld_law ?_ _ _ ?_
    | with_reducible refine State.guard_law ?_ _ _ _ ?_ ?_ (fun _ _ => ?_) ?_ ?_
    | exact InMask.mk 40 hW rfl rfl (Reg.KT_PAIR_STATUS_has _)
    | dsimp only [id]

theorem execPairHoldPartner_law {W P : Nat} (s : State) (k : Nat) (hW : 0x600000000000000000000000000000000000000000000000000000000000000000000010000000012 &&& W = 0x600000000000000000000000000000000000000000000000000000000000000000000010000000012) (hP : 0x100004 &&& P = 0x100004) :
    OutLaw W P s (execPairHoldPartner k s) := by
  unfold execPairHoldPartner
  try dsimp only
  repeat' first
    | with_reducible assumption
    | with_reducible exact OutLaw.fault _
    | with_reducible refine OutLaw.ite (fun _ => ?_) (fun _ => ?_)
    | with_reducible refine OutLaw.next ?_
    | with_reducible exact Law.refl _ _ _
    | exact sub_trans rfl hW
    | exact sub_trans rfl hP
    | with_reducible refine Law.ite (fun _ => ?_) (fun _ => ?_)
    | with_reducible refine State.holdPartner_law ?_ _ _ ?_ ?_ ?_ ?_
    | exact InMask.mk 321 hW rfl rfl (Reg.ERR_STATUS_has_KT)
    | exact InMask.mk 322 hW rfl rfl (Reg.ERR_OFS_has_KT)
    | split
    | dsimp only [id]

theorem State.usePrimary_law {W P : Nat} {s0 s : State} (h : Law W P s0 s) (a : Acc) (k : Nat) (hE : InMask W (Reg.ERR_STATUS a.base)) (hO : InMask W (Reg.ERR_OFS a.base)) (hW : 0x10000000012 &&& W = 0x10000000012) (hP : 0x100004 &&& P = 0x100004) :
    Law W P s0 (State.usePrimary s a k) := by
  unfold State.usePrimary
  try dsimp only
  repeat' first
    | with_reducible assumption
    | with_reducible exact Law.refl _ _ _
    | exact sub_trans rfl hW
    | exact sub_trans rfl hP
    | exact hE
    | exact hO
    | with_reducible refine State.setFld_law ?_ _ _ ?_
    | with_reducible refine State.guard_law ?_ _ _ _ ?_ ?_ (fun _ _ => ?_) ?_ ?_
    | exact InMask.mk 40 hW rfl rfl (Reg.KT_PAIR_STATUS_has _)
    | dsimp only [id]

theorem execPairUsePrimary_law {W P : Nat} (s : State) (k : Nat) (hW : 0x600000000000000000000000000000000000000000000000000000000000000000000010000000012 &&& W = 0x600000000000000000000000000000000000000000000000000000000000000000000010000000012) (hP : 0x100004 &&& P = 0x100004) :
    OutLaw W P s (execPairUsePrimary k s) := by
  unfold execPairUsePrimary
  try dsimp only
  repeat' first
    | with_reducible assumption
    | with_reducible exact OutLaw.fault _
    | with_reducible refine OutLaw.ite (fun _ => ?_) (fun _ => ?_)
    | with_reducible refine OutLaw.next ?_
    | with_reducible exact Law.refl _ _ _
    | exact sub_trans rfl hW
    | exact sub_trans rfl hP
    | with_reducible refine Law.ite (fun _ => ?_) (fun _ => ?_)
    | with_reducible refine State.usePrimary_law ?_ _ _ ?_ ?_ ?_ ?_
    | exact InMask.mk 321 hW rfl rfl (Reg.ERR_STATUS_has_KT)
    | exact InMask.mk 322 hW rfl rfl (Reg.ERR_OFS_has_KT)
    | split
    | dsimp only [id]

theorem State.feedPush_law {W P : Nat} {s0 s : State} (h : Law W P s0 s) (d : Nat) (e : FeedEntry) (hW : 0x0 &&& W = 0x0) (hP : 0x100 &&& P = 0x100) :
    Law W P s0 (State.feedPush s d e) := by
  unfold State.feedPush
  try dsimp only
  repeat' first
    | with_reducible assumption
    | with_reducible exact Law.refl _ _ _
    | exact sub_trans rfl hW
    | exact sub_trans rfl hP
    | with_reducible refine State.setFeed_law ?_ _ _  ?_ ?_
    | dsimp only [id]

theorem State.hostFeedPush_law {W P : Nat} {s0 s : State} (h : Law W P s0 s) (a : Acc) (d hi : Nat) (hE : InMask W (Reg.ERR_STATUS a.base)) (hO : InMask W (Reg.ERR_OFS a.base)) (hW : 0xc0000000012 &&& W = 0xc0000000012) (hP : 0x100104 &&& P = 0x100104) :
    Law W P s0 (State.hostFeedPush s a d hi) := by
  unfold State.hostFeedPush
  try dsimp only
  repeat' first
    | with_reducible assumption
    | with_reducible exact Law.refl _ _ _
    | exact sub_trans rfl hW
    | exact sub_trans rfl hP
    | exact hE
    | exact hO
    | with_reducible refine State.setFld_law ?_ _ _ ?_
    | with_reducible refine State.count_law ?_ _ ?_
    | with_reducible refine State.guard_law ?_ _ _ _ ?_ ?_ (fun _ _ => ?_) ?_ ?_
    | with_reducible refine State.feedPush_law ?_ _ _  ?_ ?_
    | exact InMask.mk 42 hW rfl rfl (Reg.KT_OFS_CREDIT_has _)
    | exact InMask.mk 43 hW rfl rfl (Reg.KT_DOM_CNT_has_3 _)
    | dsimp only [id]

theorem execOffsetFeedPush_law {W P : Nat} (s : State) (d : Nat) (hi : BitVec 32) (hW : 0x6000000000000000000000000000000000000000000000000000000000000000000000c0000000012 &&& W = 0x6000000000000000000000000000000000000000000000000000000000000000000000c0000000012) (hP : 0x100104 &&& P = 0x100104) :
    OutLaw W P s (execOffsetFeedPush d hi s) := by
  unfold execOffsetFeedPush
  try dsimp only
  repeat' first
    | with_reducible assumption
    | with_reducible exact OutLaw.fault _
    | with_reducible refine OutLaw.ite (fun _ => ?_) (fun _ => ?_)
    | with_reducible refine OutLaw.next ?_
    | with_reducible exact Law.refl _ _ _
    | exact sub_trans rfl hW
    | exact sub_trans rfl hP
    | with_reducible refine Law.ite (fun _ => ?_) (fun _ => ?_)
    | with_reducible refine State.hostFeedPush_law ?_ _ _ _ ?_ ?_ ?_ ?_
    | exact InMask.mk 321 hW rfl rfl (Reg.ERR_STATUS_has_KT)
    | exact InMask.mk 322 hW rfl rfl (Reg.ERR_OFS_has_KT)
    | split
    | dsimp only [id]

theorem State.engineFeedPush_law {W P : Nat} {s0 s : State} (h : Law W P s0 s) (d : Nat) (v : Int) (hW : 0x340000000000 &&& W = 0x340000000000) (hP : 0x100 &&& P = 0x100) :
    Law W P s0 (State.engineFeedPush s d v) := by
  unfold State.engineFeedPush
  try dsimp only
  repeat' first
    | with_reducible assumption
    | with_reducible exact Law.refl _ _ _
    | exact sub_trans rfl hW
    | exact sub_trans rfl hP
    | with_reducible refine Law.ite (fun _ => ?_) (fun _ => ?_)
    | with_reducible refine State.setFld_law ?_ _ _ ?_
    | with_reducible refine State.count_law ?_ _ ?_
    | with_reducible refine State.feedPush_law ?_ _ _  ?_ ?_
    | exact InMask.mk 42 hW rfl rfl (Reg.KT_OFS_CREDIT_has _)
    | exact InMask.mk 44 hW rfl rfl (Reg.KT_DOM_CNT_has_4 _)
    | exact InMask.mk 45 hW rfl rfl (Reg.KT_DOM_CNT_has_2 _)
    | split
    | dsimp only [id]

theorem State.feedGrant_law {W P : Nat} {s0 s : State} (h : Law W P s0 s) (a : Acc) (d n : Nat) (hE : InMask W (Reg.ERR_STATUS a.base)) (hO : InMask W (Reg.ERR_OFS a.base)) (hW : 0x40000000012 &&& W = 0x40000000012) (hP : 0x100004 &&& P = 0x100004) :
    Law W P s0 (State.feedGrant s a d n) := by
  unfold State.feedGrant
  try dsimp only
  repeat' first
    | with_reducible assumption
    | with_reducible exact Law.refl _ _ _
    | exact sub_trans rfl hW
    | exact sub_trans rfl hP
    | exact hE
    | exact hO
    | with_reducible refine Law.ite (fun _ => ?_) (fun _ => ?_)
    | with_reducible refine State.setFld_law ?_ _ _ ?_
    | with_reducible refine State.guard_law ?_ _ _ _ ?_ ?_ (fun _ _ => ?_) ?_ ?_
    | exact InMask.mk 42 hW rfl rfl (Reg.KT_OFS_CREDIT_has _)
    | split
    | dsimp only [id]

theorem execFeedCreditGrant_law {W P : Nat} (s : State) (d n : Nat) (hW : 0x600000000000000000000000000000000000000000000000000000000000000000000040000000012 &&& W = 0x600000000000000000000000000000000000000000000000000000000000000000000040000000012) (hP : 0x100004 &&& P = 0x100004) :
    OutLaw W P s (execFeedCreditGrant d n s) := by
  unfold execFeedCreditGrant
  try dsimp only
  repeat' first
    | with_reducible assumption
    | with_reducible exact OutLaw.fault _
    | with_reducible refine OutLaw.ite (fun _ => ?_) (fun _ => ?_)
    | with_reducible refine OutLaw.next ?_
    | with_reducible exact Law.refl _ _ _
    | exact sub_trans rfl hW
    | exact sub_trans rfl hP
    | with_reducible refine Law.ite (fun _ => ?_) (fun _ => ?_)
    | with_reducible refine State.feedGrant_law ?_ _ _ _ ?_ ?_ ?_ ?_
    | exact InMask.mk 321 hW rfl rfl (Reg.ERR_STATUS_has_KT)
    | exact InMask.mk 322 hW rfl rfl (Reg.ERR_OFS_has_KT)
    | split
    | dsimp only [id]

theorem State.feedRecall_law {W P : Nat} {s0 s : State} (h : Law W P s0 s) (a : Acc) (d : Nat) (hE : InMask W (Reg.ERR_STATUS a.base)) (hO : InMask W (Reg.ERR_OFS a.base)) (hW : 0x40000000012 &&& W = 0x40000000012) (hP : 0x100004 &&& P = 0x100004) :
    Law W P s0 (State.feedRecall s a d) := by
  unfold State.feedRecall
  try dsimp only
  repeat' first
    | with_reducible assumption
    | with_reducible exact Law.refl _ _ _
    | exact sub_trans rfl hW
    | exact sub_trans rfl hP
    | exact hE
    | exact hO
    | with_reducible refine State.setFld_law ?_ _ _ ?_
    | with_reducible refine State.guard_law ?_ _ _ _ ?_ ?_ (fun _ _ => ?_) ?_ ?_
    | exact InMask.mk 42 hW rfl rfl (Reg.KT_OFS_CREDIT_has _)
    | dsimp only [id]

theorem execFeedCreditRecall_law {W P : Nat} (s : State) (d : Nat) (hW : 0x600000000000000000000000000000000000000000000000000000000000000000000040000000012 &&& W = 0x600000000000000000000000000000000000000000000000000000000000000000000040000000012) (hP : 0x100004 &&& P = 0x100004) :
    OutLaw W P s (execFeedCreditRecall d s) := by
  unfold execFeedCreditRecall
  try dsimp only
  repeat' first
    | with_reducible assumption
    | with_reducible exact OutLaw.fault _
    | with_reducible refine OutLaw.ite (fun _ => ?_) (fun _ => ?_)
    | with_reducible refine OutLaw.next ?_
    | with_reducible exact Law.refl _ _ _
    | exact sub_trans rfl hW
    | exact sub_trans rfl hP
    | with_reducible refine Law.ite (fun _ => ?_) (fun _ => ?_)
    | with_reducible refine State.feedRecall_law ?_ _ _ ?_ ?_ ?_ ?_
    | exact InMask.mk 321 hW rfl rfl (Reg.ERR_STATUS_has_KT)
    | exact InMask.mk 322 hW rfl rfl (Reg.ERR_OFS_has_KT)
    | split
    | dsimp only [id]

theorem State.feedConsume_law {W P : Nat} {s0 s : State} (h : Law W P s0 s) (d : Nat) (hW : 0x40000000010 &&& W = 0x40000000010) (hP : 0x100 &&& P = 0x100) :
    Law W P s0 (State.feedConsume s d) := by
  unfold State.feedConsume
  try dsimp only
  repeat' first
    | with_reducible assumption
    | with_reducible exact Law.refl _ _ _
    | exact sub_trans rfl hW
    | exact sub_trans rfl hP
    | with_reducible refine Law.ite (fun _ => ?_) (fun _ => ?_)
    | with_reducible refine State.setFld_law ?_ _ _ ?_
    | with_reducible refine State.setFeed_law ?_ _ _  ?_ ?_
    | with_reducible refine State.pfEvent_law ?_ _ _ _  ?_ ?_
    | exact InMask.mk 42 hW rfl rfl (Reg.KT_OFS_CREDIT_has _)
    | split
    | dsimp only [id]

theorem State.reportClamps_law {W P : Nat} {s0 s : State} (h : Law W P s0 s) (d : Nat) (slewing : Bool) (hW : 0x407000000000 &&& W = 0x407000000000) (hP : 0x40000 &&& P = 0x40000) :
    Law W P s0 (State.reportClamps s d slewing) := by
  unfold State.reportClamps
  try dsimp only
  repeat' first
    | with_reducible assumption
    | with_reducible exact Law.refl _ _ _
    | exact sub_trans rfl hW
    | exact sub_trans rfl hP
    | with_reducible refine Law.ite (fun _ => ?_) (fun _ => ?_)
    | with_reducible refine State.setFld_law ?_ _ _ ?_
    | with_reducible refine State.count_law ?_ _ ?_
    | with_reducible refine State.reportFi_law ?_ _  ?_ ?_
    | exact InMask.mk 36 hW rfl rfl (Reg.KT_DOM_STATUS_has _)
    | exact InMask.mk 46 hW rfl rfl (Reg.KT_DOM_CNT_has_9 _)
    | split
    | dsimp only [id]

theorem State.disarmAlarms_law {W P : Nat} {s0 s : State} (h : Law W P s0 s) (d : Nat) (hW : 0x800000000000 &&& W = 0x800000000000) (hP : 0x0 &&& P = 0x0) :
    Law W P s0 (State.disarmAlarms s d) := by
  unfold State.disarmAlarms
  try dsimp only
  repeat' first
    | with_reducible assumption
    | with_reducible exact Law.refl _ _ _
    | exact sub_trans rfl hW
    | exact sub_trans rfl hP
    | with_reducible refine Law.ite (fun _ => ?_) (fun _ => ?_)
    | with_reducible refine State.setFld_law ?_ _ _ ?_
    | exact InMask.mk 47 hW rfl rfl (Reg.KT_ALM_CFG_has _)
    | with_reducible refine Law.foldl _ ?_ (fun _ _ _ => ?_)
    | with_reducible refine Law.foldl_fst _ ?_ (fun _ _ _ _ => ?_)
    | split
    | dsimp only [id]

theorem State.winMove_law {W P : Nat} {s0 s : State} (h : Law W P s0 s) (d : Nat) (x : Int) (hW : 0x0 &&& W = 0x0) (hP : 0x200 &&& P = 0x200) :
    Law W P s0 (State.winMove s d x) := by
  unfold State.winMove
  try dsimp only
  repeat' first
    | with_reducible assumption
    | with_reducible exact Law.refl _ _ _
    | exact sub_trans rfl hW
    | exact sub_trans rfl hP
    | with_reducible refine Law.of_fst (by assumption) ?_
    | split
    | dsimp only [id]
    | with_reducible refine Law.put ?_ ?_ ?_ ?_ ?_ ?_ ?_ ?_ ?_ ?_ ?_ ?_ ?_ ?_ ?_ ?_ ?_ ?_ ?_ ?_ ?_ ?_
    | with_reducible exact Or.inl rfl
    | exact Or.inr (partIn hP rfl)

theorem State.stepDomain_law {W P : Nat} {s0 s : State} (h : Law W P s0 s) (d : Nat) (x : Nat → Int) (hW : 0x800000000000 &&& W = 0x800000000000) (hP : 0x300 &&& P = 0x300) :
    Law W P s0 (State.stepDomain s d x) := by
  unfold State.stepDomain
  try dsimp only
  repeat' first
    | with_reducible assumption
    | with_reducible exact Law.refl _ _ _
    | exact sub_trans rfl hW
    | exact sub_trans rfl hP
    | with_reducible refine Law.ite (fun _ => ?_) (fun _ => ?_)
    | with_reducible refine State.eachCh_law ?_ _ _  ?_ ?_
    | with_reducible refine State.disarmAlarms_law ?_ _  ?_ ?_
    | with_reducible refine State.winMove_law ?_ _ _  ?_ ?_
    | with_reducible refine Law.foldl _ ?_ (fun _ _ _ => ?_)
    | with_reducible refine Law.foldl_fst _ ?_ (fun _ _ _ _ => ?_)
    | split
    | dsimp only [id]

theorem State.noteStep_law {W P : Nat} {s0 s : State} (h : Law W P s0 s) (d arg : Nat) (step16 : Int) (hW : 0x100200000000e &&& W = 0x100200000000e) (hP : 0x10010c &&& P = 0x10010c) :
    Law W P s0 (State.noteStep s d arg step16) := by
  unfold State.noteStep
  try dsimp only
  repeat' first
    | with_reducible assumption
    | with_reducible exact Law.refl _ _ _
    | exact sub_trans rfl hW
    | exact sub_trans rfl hP
    | with_reducible refine State.count_law ?_ _ ?_
    | with_reducible refine State.flag_law ?_ _ ?_
    | with_reducible refine State.setFeed_law ?_ _ _  ?_ ?_
    | with_reducible refine State.spoutEvent_law ?_ _ _ _ _  ?_ ?_
    | exact InMask.mk 37 hW rfl rfl (Reg.KT_DOM_FLAGS_has _)
    | exact InMask.mk 48 hW rfl rfl (Reg.KT_DOM_CNT_has_5 _)
    | dsimp only [id]

theorem State.acquire_law {W P : Nat} {s0 s : State} (h : Law W P s0 s) (d : Nat) (theta : Int) (hW : 0x1ffbc00012e &&& W = 0x1ffbc00012e) (hP : 0x14410d &&& P = 0x14410d) :
    Law W P s0 (State.acquire s d theta) := by
  unfold State.acquire
  try dsimp only
  repeat' first
    | with_reducible assumption
    | with_reducible exact Law.refl _ _ _
    | exact sub_trans rfl hW
    | exact sub_trans rfl hP
    | with_reducible refine Law.ite (fun _ => ?_) (fun _ => ?_)
    | with_reducible refine State.setFld_law ?_ _ _ ?_
    | with_reducible refine State.setFeed_law ?_ _ _  ?_ ?_
    | with_reducible refine State.setDomState_law ?_ _ _  ?_ ?_
    | exact InMask.mk 36 hW rfl rfl (Reg.KT_DOM_STATUS_has _)
    | split
    | dsimp only [id]

theorem State.servoFeed_law {W P : Nat} {s0 s : State} (h : Law W P s0 s) (d : Nat) (theta : Int) (hW : 0x1c1ffbc00012e &&& W = 0x1c1ffbc00012e) (hP : 0x14430d &&& P = 0x14430d) :
    Law W P s0 (State.servoFeed s d theta) := by
  unfold State.servoFeed
  try dsimp only
  repeat' first
    | with_reducible assumption
    | with_reducible exact Law.refl _ _ _
    | exact sub_trans rfl hW
    | exact sub_trans rfl hP
    | with_reducible refine Law.ite (fun _ => ?_) (fun _ => ?_)
    | with_reducible refine State.setDomState_law ?_ _ _  ?_ ?_
    | with_reducible refine State.stepDomain_law ?_ _ _  ?_ ?_
    | with_reducible refine State.noteStep_law ?_ _ _ _  ?_ ?_
    | with_reducible refine State.tookFree_law ?_   ?_ ?_
    | with_reducible refine State.eachCh_law ?_ _ _  ?_ ?_
    | with_reducible refine State.reportClamps_law ?_ _ _  ?_ ?_
    | with_reducible refine State.acquire_law ?_ _ _  ?_ ?_
    | split
    | dsimp only [id]

theorem State.servoFollow_law {W P : Nat} {s0 s : State} (h : Law W P s0 s) (d : Nat) (hW : 0x407000000000 &&& W = 0x407000000000) (hP : 0x40100 &&& P = 0x40100) :
    Law W P s0 (State.servoFollow s d) := by
  unfold State.servoFollow
  try dsimp only
  repeat' first
    | with_reducible assumption
    | with_reducible exact Law.refl _ _ _
    | exact sub_trans rfl hW
    | exact sub_trans rfl hP
    | with_reducible refine State.tookFree_law ?_   ?_ ?_
    | with_reducible refine State.eachCh_law ?_ _ _  ?_ ?_
    | with_reducible refine State.reportClamps_law ?_ _ _  ?_ ?_
    | dsimp only [id]

theorem State.leaveManual_law {W P : Nat} {s0 s : State} (h : Law W P s0 s) (d : Nat) (hW : 0x1ffbc00012e &&& W = 0x1ffbc00012e) (hP : 0x14410d &&& P = 0x14410d) :
    Law W P s0 (State.leaveManual s d) := by
  unfold State.leaveManual
  try dsimp only
  repeat' first
    | with_reducible assumption
    | with_reducible exact Law.refl _ _ _
    | exact sub_trans rfl hW
    | exact sub_trans rfl hP
    | with_reducible refine State.eachCh_law ?_ _ _  ?_ ?_
    | with_reducible refine State.setDomState_law ?_ _ _  ?_ ?_
    | with_reducible refine State.holdoverMarks_law ?_ _  ?_ ?_
    | with_reducible refine State.reportFi_law ?_ _  ?_ ?_
    | dsimp only [id]

theorem State.servoUpdate_law {W P : Nat} {s0 s : State} (h : Law W P s0 s) (d : Nat) (hW : 0x1fc7ffbc00013e &&& W = 0x1fc7ffbc00013e) (hP : 0x14430d &&& P = 0x14430d) :
    Law W P s0 (State.servoUpdate s d) := by
  unfold State.servoUpdate
  try dsimp only
  repeat' first
    | with_reducible assumption
    | with_reducible exact Law.refl _ _ _
    | exact sub_trans rfl hW
    | exact sub_trans rfl hP
    | with_reducible refine Law.ite (fun _ => ?_) (fun _ => ?_)
    | with_reducible refine State.setFld_law ?_ _ _ ?_
    | with_reducible refine State.count_law ?_ _ ?_
    | with_reducible refine State.setPair_law ?_ _ _ _ ?_ ?_
    | with_reducible refine State.pfEvent_law ?_ _ _ _  ?_ ?_
    | with_reducible refine State.feedConsume_law ?_ _  ?_ ?_
    | with_reducible refine State.setDomState_law ?_ _ _  ?_ ?_
    | with_reducible refine State.leaveManual_law ?_ _  ?_ ?_
    | with_reducible refine State.servoFollow_law ?_ _  ?_ ?_
    | with_reducible refine State.toFollow_law ?_ _  ?_ ?_
    | with_reducible refine State.servoFeed_law ?_ _ _  ?_ ?_
    | exact InMask.mk 40 hW rfl rfl (Reg.KT_PAIR_STATUS_has _)
    | exact InMask.mk 49 hW rfl rfl (Reg.KT_DOM_CNT_has_0 _)
    | exact InMask.mk 50 hW rfl rfl (Reg.KT_DOM_CNT_has_1 _)
    | exact InMask.mk 51 hW rfl rfl (Reg.KT_LAST_OFS_LO_has _)
    | exact InMask.mk 52 hW rfl rfl (Reg.KT_LAST_OFS_HI_has _)
    | split
    | dsimp only [id]

theorem execServoUpdate_law {W P : Nat} (s : State) (d : Nat) (hW : 0x1fc7ffbc00013e &&& W = 0x1fc7ffbc00013e) (hP : 0x14430d &&& P = 0x14430d) :
    OutLaw W P s (execServoUpdate d s) := by
  unfold execServoUpdate
  try dsimp only
  repeat' first
    | with_reducible assumption
    | with_reducible exact OutLaw.fault _
    | with_reducible refine OutLaw.ite (fun _ => ?_) (fun _ => ?_)
    | with_reducible refine OutLaw.next ?_
    | with_reducible exact Law.refl _ _ _
    | exact sub_trans rfl hW
    | exact sub_trans rfl hP
    | with_reducible refine Law.ite (fun _ => ?_) (fun _ => ?_)
    | with_reducible refine State.servoUpdate_law ?_ _  ?_ ?_
    | split
    | dsimp only [id]

theorem State.incWrite_law {W P : Nat} {s0 s : State} (h : Law W P s0 s) (a : Acc) (d hi : Nat) (hE : InMask W (Reg.ERR_STATUS a.base)) (hO : InMask W (Reg.ERR_OFS a.base)) (hW : 0x12 &&& W = 0x12) (hP : 0x100104 &&& P = 0x100104) :
    Law W P s0 (State.incWrite s a d hi) := by
  unfold State.incWrite
  try dsimp only
  repeat' first
    | with_reducible assumption
    | with_reducible exact Law.refl _ _ _
    | exact sub_trans rfl hW
    | exact sub_trans rfl hP
    | exact hE
    | exact hO
    | with_reducible refine State.guard_law ?_ _ _ _ ?_ ?_ (fun _ _ => ?_) ?_ ?_
    | with_reducible refine State.eachCh_law ?_ _ _  ?_ ?_
    | dsimp only [id]

theorem execIncrementWrite_law {W P : Nat} (s : State) (d : Nat) (hi : BitVec 32) (hW : 0x600000000000000000000000000000000000000000000000000000000000000000000000000000012 &&& W = 0x600000000000000000000000000000000000000000000000000000000000000000000000000000012) (hP : 0x100104 &&& P = 0x100104) :
    OutLaw W P s (execIncrementWrite d hi s) := by
  unfold execIncrementWrite
  try dsimp only
  repeat' first
    | with_reducible assumption
    | with_reducible exact OutLaw.fault _
    | with_reducible refine OutLaw.ite (fun _ => ?_) (fun _ => ?_)
    | with_reducible refine OutLaw.next ?_
    | with_reducible exact Law.refl _ _ _
    | exact sub_trans rfl hW
    | exact sub_trans rfl hP
    | with_reducible refine Law.ite (fun _ => ?_) (fun _ => ?_)
    | with_reducible refine State.incWrite_law ?_ _ _ _ ?_ ?_ ?_ ?_
    | exact InMask.mk 321 hW rfl rfl (Reg.ERR_STATUS_has_KT)
    | exact InMask.mk 322 hW rfl rfl (Reg.ERR_OFS_has_KT)
    | split
    | dsimp only [id]

theorem State.freerunInc_law {W P : Nat} {s0 s : State} (h : Law W P s0 s) (hW : 0x0 &&& W = 0x0) (hP : 0x100 &&& P = 0x100) :
    Law W P s0 (State.freerunInc s) := by
  unfold State.freerunInc
  try dsimp only
  repeat' first
    | with_reducible assumption
    | with_reducible exact Law.refl _ _ _
    | exact sub_trans rfl hW
    | exact sub_trans rfl hP
    | with_reducible refine Law.ite (fun _ => ?_) (fun _ => ?_)
    | with_reducible refine State.eachCh_law ?_ _ _  ?_ ?_
    | with_reducible refine Law.foldl _ ?_ (fun _ _ _ => ?_)
    | with_reducible refine Law.foldl_fst _ ?_ (fun _ _ _ _ => ?_)
    | with_reducible refine Law.of_fst (by assumption) ?_
    | split
    | dsimp only [id]

theorem execTimebaseGateEnd_law {W P : Nat} (s : State) (cycles : Nat) (hW : 0x40000000000000 &&& W = 0x40000000000000) (hP : 0x100 &&& P = 0x100) :
    OutLaw W P s (execTimebaseGateEnd cycles s) := by
  unfold execTimebaseGateEnd
  try dsimp only
  repeat' first
    | with_reducible assumption
    | with_reducible exact OutLaw.fault _
    | with_reducible refine OutLaw.ite (fun _ => ?_) (fun _ => ?_)
    | with_reducible refine OutLaw.next ?_
    | with_reducible exact Law.refl _ _ _
    | exact sub_trans rfl hW
    | exact sub_trans rfl hP
    | with_reducible refine Law.ite (fun _ => ?_) (fun _ => ?_)
    | with_reducible refine State.setFld_law ?_ _ _ ?_
    | with_reducible refine State.freerunInc_law ?_   ?_ ?_
    | exact InMask.mk 54 hW rfl rfl (Reg.KT_TB_STATUS_has)
    | split
    | dsimp only [id]
    | with_reducible refine Law.put ?_ ?_ ?_ ?_ ?_ ?_ ?_ ?_ ?_ ?_ ?_ ?_ ?_ ?_ ?_ ?_ ?_ ?_ ?_ ?_ ?_ ?_
    | with_reducible exact Or.inl rfl
    | exact Or.inr (partIn hP rfl)

theorem execOcxoWarmFall_law {W P : Nat} (s : State)  (hW : 0x1000000000000000000000000000000000000000000000000000000004000000000000e &&& W = 0x1000000000000000000000000000000000000000000000000000000004000000000000e) (hP : 0x10000d &&& P = 0x10000d) :
    OutLaw W P s (execOcxoWarmFall s) := by
  unfold execOcxoWarmFall
  try dsimp only
  repeat' first
    | with_reducible assumption
    | with_reducible exact OutLaw.fault _
    | with_reducible refine OutLaw.ite (fun _ => ?_) (fun _ => ?_)
    | with_reducible refine OutLaw.next ?_
    | with_reducible exact Law.refl _ _ _
    | exact sub_trans rfl hW
    | exact sub_trans rfl hP
    | with_reducible refine Law.ite (fun _ => ?_) (fun _ => ?_)
    | with_reducible refine State.setFld_law ?_ _ _ ?_
    | with_reducible refine State.flag_law ?_ _ ?_
    | with_reducible refine State.spoutEvent_law ?_ _ _ _ _  ?_ ?_
    | exact InMask.mk 54 hW rfl rfl (Reg.KT_TB_STATUS_has)
    | exact InMask.mk 280 hW rfl rfl (Reg.KT_TB_FLAGS_has)
    | split
    | dsimp only [id]
    | with_reducible refine Law.put ?_ ?_ ?_ ?_ ?_ ?_ ?_ ?_ ?_ ?_ ?_ ?_ ?_ ?_ ?_ ?_ ?_ ?_ ?_ ?_ ?_ ?_
    | with_reducible exact Or.inl rfl
    | exact Or.inr (partIn hP rfl)

theorem execOcxoWarmRise_law {W P : Nat} (s : State)  (hW : 0x40000000000000 &&& W = 0x40000000000000) (hP : 0x1 &&& P = 0x1) :
    OutLaw W P s (execOcxoWarmRise s) := by
  unfold execOcxoWarmRise
  try dsimp only
  repeat' first
    | with_reducible assumption
    | with_reducible exact OutLaw.fault _
    | with_reducible refine OutLaw.ite (fun _ => ?_) (fun _ => ?_)
    | with_reducible refine OutLaw.next ?_
    | with_reducible exact Law.refl _ _ _
    | exact sub_trans rfl hW
    | exact sub_trans rfl hP
    | with_reducible refine Law.ite (fun _ => ?_) (fun _ => ?_)
    | with_reducible refine State.setFld_law ?_ _ _ ?_
    | exact InMask.mk 54 hW rfl rfl (Reg.KT_TB_STATUS_has)
    | split
    | dsimp only [id]
    | with_reducible refine Law.put ?_ ?_ ?_ ?_ ?_ ?_ ?_ ?_ ?_ ?_ ?_ ?_ ?_ ?_ ?_ ?_ ?_ ?_ ?_ ?_ ?_ ?_
    | with_reducible exact Or.inl rfl
    | exact Or.inr (partIn hP rfl)

theorem State.capture_law {W P : Nat} {s0 s : State} (h : Law W P s0 s) (src : Nat) (hW : 0x20000000000000 &&& W = 0x20000000000000) (hP : 0x100 &&& P = 0x100) :
    Law W P s0 (State.capture s src) := by
  unfold State.capture
  try dsimp only
  repeat' first
    | with_reducible assumption
    | with_reducible exact Law.refl _ _ _
    | exact sub_trans rfl hW
    | exact sub_trans rfl hP
    | with_reducible refine Law.ite (fun _ => ?_) (fun _ => ?_)
    | with_reducible refine State.flagBit_law ?_ _ _ ?_
    | exact InMask.mk 53 hW rfl rfl (Reg.KT_CAP_STATUS_has)
    | with_reducible refine Law.foldl _ ?_ (fun _ _ _ => ?_)
    | with_reducible refine Law.foldl_fst _ ?_ (fun _ _ _ _ => ?_)
    | split
    | dsimp only [id]
    | with_reducible refine Law.put ?_ ?_ ?_ ?_ ?_ ?_ ?_ ?_ ?_ ?_ ?_ ?_ ?_ ?_ ?_ ?_ ?_ ?_ ?_ ?_ ?_ ?_
    | with_reducible exact Or.inl rfl
    | exact Or.inr (partIn hP rfl)

theorem execPpsEdge_law {W P : Nat} (s : State) (i : Nat) (hW : 0x20000800000000 &&& W = 0x20000800000000) (hP : 0x100 &&& P = 0x100) :
    OutLaw W P s (execPpsEdge i s) := by
  unfold execPpsEdge
  try dsimp only
  repeat' first
    | with_reducible assumption
    | with_reducible exact OutLaw.fault _
    | with_reducible refine OutLaw.ite (fun _ => ?_) (fun _ => ?_)
    | with_reducible refine OutLaw.next ?_
    | with_reducible exact Law.refl _ _ _
    | exact sub_trans rfl hW
    | exact sub_trans rfl hP
    | with_reducible refine Law.ite (fun _ => ?_) (fun _ => ?_)
    | with_reducible refine State.count_law ?_ _ ?_
    | with_reducible refine State.capture_law ?_ _  ?_ ?_
    | exact InMask.mk 35 hW rfl rfl (Reg.KT_CNT_has _)
    | split
    | dsimp only [id]

theorem State.snap_law {W P : Nat} {s0 s : State} (h : Law W P s0 s) (a : Acc) (hE : InMask W (Reg.ERR_STATUS a.base)) (hO : InMask W (Reg.ERR_OFS a.base)) (hW : 0x20000000000012 &&& W = 0x20000000000012) (hP : 0x100104 &&& P = 0x100104) :
    Law W P s0 (State.snap s a) := by
  unfold State.snap
  try dsimp only
  repeat' first
    | with_reducible assumption
    | with_reducible exact Law.refl _ _ _
    | exact sub_trans rfl hW
    | exact sub_trans rfl hP
    | exact hE
    | exact hO
    | with_reducible refine State.guard_law ?_ _ _ _ ?_ ?_ (fun _ _ => ?_) ?_ ?_
    | with_reducible refine State.capture_law ?_ _  ?_ ?_
    | dsimp only [id]

theorem execSnapshot_law {W P : Nat} (s : State)  (hW : 0x600000000000000000000000000000000000000000000000000000000000000000020000000000012 &&& W = 0x600000000000000000000000000000000000000000000000000000000000000000020000000000012) (hP : 0x100104 &&& P = 0x100104) :
    OutLaw W P s (execSnapshot s) := by
  unfold execSnapshot
  try dsimp only
  repeat' first
    | with_reducible assumption
    | with_reducible exact OutLaw.fault _
    | with_reducible refine OutLaw.ite (fun _ => ?_) (fun _ => ?_)
    | with_reducible refine OutLaw.next ?_
    | with_reducible exact Law.refl _ _ _
    | exact sub_trans rfl hW
    | exact sub_trans rfl hP
    | with_reducible refine State.snap_law ?_ _ ?_ ?_ ?_ ?_
    | exact InMask.mk 321 hW rfl rfl (Reg.ERR_STATUS_has_KT)
    | exact InMask.mk 322 hW rfl rfl (Reg.ERR_OFS_has_KT)
    | dsimp only [id]

theorem State.fhtHost_law {W P : Nat} {s0 s : State} (h : Law W P s0 s) (a : Acc) (ch : Nat) (hE : InMask W (Reg.ERR_STATUS a.base)) (hO : InMask W (Reg.ERR_OFS a.base)) (hW : 0x200000012 &&& W = 0x200000012) (hP : 0x140104 &&& P = 0x140104) :
    Law W P s0 (State.fhtHost s a ch) := by
  unfold State.fhtHost
  try dsimp only
  repeat' first
    | with_reducible assumption
    | with_reducible exact Law.refl _ _ _
    | exact sub_trans rfl hW
    | exact sub_trans rfl hP
    | exact hE
    | exact hO
    | with_reducible refine State.guard_law ?_ _ _ _ ?_ ?_ (fun _ _ => ?_) ?_ ?_
    | with_reducible refine State.fhtBegin_law ?_ _ _  ?_ ?_
    | with_reducible refine Law.of_fst (by assumption) ?_
    | split
    | dsimp only [id]

theorem execFhtStart_law {W P : Nat} (s : State) (ch : Nat) (hW : 0x600000000000000000000000000000000000000000000000000000000000000000000000200000012 &&& W = 0x600000000000000000000000000000000000000000000000000000000000000000000000200000012) (hP : 0x140104 &&& P = 0x140104) :
    OutLaw W P s (execFhtStart ch s) := by
  unfold execFhtStart
  try dsimp only
  repeat' first
    | with_reducible assumption
    | with_reducible exact OutLaw.fault _
    | with_reducible refine OutLaw.ite (fun _ => ?_) (fun _ => ?_)
    | with_reducible refine OutLaw.next ?_
    | with_reducible exact Law.refl _ _ _
    | exact sub_trans rfl hW
    | exact sub_trans rfl hP
    | with_reducible refine Law.ite (fun _ => ?_) (fun _ => ?_)
    | with_reducible refine State.fhtHost_law ?_ _ _ ?_ ?_ ?_ ?_
    | exact InMask.mk 321 hW rfl rfl (Reg.ERR_STATUS_has_KT)
    | exact InMask.mk 322 hW rfl rfl (Reg.ERR_OFS_has_KT)
    | split
    | dsimp only [id]

theorem execFhtPeriodicDue_law {W P : Nat} (s : State)  (hW : 0x200000000 &&& W = 0x200000000) (hP : 0x40100 &&& P = 0x40100) :
    OutLaw W P s (execFhtPeriodicDue s) := by
  unfold execFhtPeriodicDue
  try dsimp only
  repeat' first
    | with_reducible assumption
    | with_reducible exact OutLaw.fault _
    | with_reducible refine OutLaw.ite (fun _ => ?_) (fun _ => ?_)
    | with_reducible refine OutLaw.next ?_
    | with_reducible exact Law.refl _ _ _
    | exact sub_trans rfl hW
    | exact sub_trans rfl hP
    | with_reducible refine Law.ite (fun _ => ?_) (fun _ => ?_)
    | with_reducible refine State.fhtPeriodic_law ?_   ?_ ?_
    | split
    | dsimp only [id]
    | with_reducible refine Law.put ?_ ?_ ?_ ?_ ?_ ?_ ?_ ?_ ?_ ?_ ?_ ?_ ?_ ?_ ?_ ?_ ?_ ?_ ?_ ?_ ?_ ?_
    | with_reducible exact Or.inl rfl
    | exact Or.inr (partIn hP rfl)

theorem execFhtComplete_law {W P : Nat} (s : State) (fault : Int) (hW : 0xe000000000000000000000000000000000000000000000000000000000000068000000e &&& W = 0xe000000000000000000000000000000000000000000000000000000000000068000000e) (hP : 0x14010c &&& P = 0x14010c) :
    OutLaw W P s (execFhtComplete fault s) := by
  unfold execFhtComplete
  try dsimp only
  repeat' first
    | with_reducible assumption
    | with_reducible exact OutLaw.fault _
    | with_reducible refine OutLaw.ite (fun _ => ?_) (fun _ => ?_)
    | with_reducible refine OutLaw.next ?_
    | with_reducible exact Law.refl _ _ _
    | exact sub_trans rfl hW
    | exact sub_trans rfl hP
    | with_reducible refine Law.ite (fun _ => ?_) (fun _ => ?_)
    | with_reducible refine State.setFldBit_law ?_ _ _ _ ?_
    | with_reducible refine State.setFld_law ?_ _ _ ?_
    | with_reducible refine State.count_law ?_ _ ?_
    | with_reducible refine State.flagBit_law ?_ _ _ ?_
    | with_reducible refine State.tookFree_law ?_   ?_ ?_
    | with_reducible refine State.spoutEvent_law ?_ _ _ _ _  ?_ ?_
    | with_reducible refine State.fhtNext_law ?_   ?_ ?_
    | exact InMask.mk 31 hW rfl rfl (Reg.KT_CH_STATUS_has)
    | exact InMask.mk 33 hW rfl rfl (Reg.KT_FHT_STATUS_has)
    | exact InMask.mk 34 hW rfl rfl (Reg.KT_CH_FLAGS_has)
    | exact InMask.mk 281 hW rfl rfl (Reg.KT_FHT_DEV_has)
    | exact InMask.mk 282 hW rfl rfl (Reg.KT_CNT_has_6)
    | exact InMask.mk 283 hW rfl rfl (Reg.KT_CNT_has_7)
    | split
    | dsimp only [id]

theorem State.alarmArm_law {W P : Nat} {s0 s : State} (h : Law W P s0 s) (a : Acc) (n dom : Nat) (sp : Bool) (hE : InMask W (Reg.ERR_STATUS a.base)) (hO : InMask W (Reg.ERR_OFS a.base)) (hW : 0x800000000012 &&& W = 0x800000000012) (hP : 0x100004 &&& P = 0x100004) :
    Law W P s0 (State.alarmArm s a n dom sp) := by
  unfold State.alarmArm
  try dsimp only
  repeat' first
    | with_reducible assumption
    | with_reducible exact Law.refl _ _ _
    | exact sub_trans rfl hW
    | exact sub_trans rfl hP
    | exact hE
    | exact hO
    | with_reducible refine State.setFld_law ?_ _ _ ?_
    | with_reducible refine State.guard_law ?_ _ _ _ ?_ ?_ (fun _ _ => ?_) ?_ ?_
    | exact InMask.mk 47 hW rfl rfl (Reg.KT_ALM_CFG_has _)
    | dsimp only [id]

theorem execAlarmArm_law {W P : Nat} (s : State) (n dom : Nat) (sp : Bool) (hW : 0x600000000000000000000000000000000000000000000000000000000000000000000800000000012 &&& W = 0x600000000000000000000000000000000000000000000000000000000000000000000800000000012) (hP : 0x100004 &&& P = 0x100004) :
    OutLaw W P s (execAlarmArm n dom sp s) := by
  unfold execAlarmArm
  try dsimp only
  repeat' first
    | with_reducible assumption
    | with_reducible exact OutLaw.fault _
    | with_reducible refine OutLaw.ite (fun _ => ?_) (fun _ => ?_)
    | with_reducible refine OutLaw.next ?_
    | with_reducible exact Law.refl _ _ _
    | exact sub_trans rfl hW
    | exact sub_trans rfl hP
    | with_reducible refine Law.ite (fun _ => ?_) (fun _ => ?_)
    | with_reducible refine State.alarmArm_law ?_ _ _ _ _ ?_ ?_ ?_ ?_
    | exact InMask.mk 321 hW rfl rfl (Reg.ERR_STATUS_has_KT)
    | exact InMask.mk 322 hW rfl rfl (Reg.ERR_OFS_has_KT)
    | split
    | dsimp only [id]

theorem execAlarmFire_law {W P : Nat} (s : State) (n : Nat) (hW : 0x1000000000000000000000000000000000000000000000000000000000008000003fffde &&& W = 0x1000000000000000000000000000000000000000000000000000000000008000003fffde) (hP : 0x10088c &&& P = 0x10088c) :
    OutLaw W P s (execAlarmFire n s) := by
  unfold execAlarmFire
  try dsimp only
  repeat' first
    | with_reducible assumption
    | with_reducible exact OutLaw.fault _
    | with_reducible refine OutLaw.ite (fun _ => ?_) (fun _ => ?_)
    | with_reducible refine OutLaw.next ?_
    | with_reducible exact Law.refl _ _ _
    | exact sub_trans rfl hW
    | exact sub_trans rfl hP
    | with_reducible refine Law.ite (fun _ => ?_) (fun _ => ?_)
    | with_reducible refine State.setFld_law ?_ _ _ ?_
    | with_reducible refine State.flagBit_law ?_ _ _ ?_
    | with_reducible refine State.spoutEvent_law ?_ _ _ _ _  ?_ ?_
    | with_reducible refine State.offerTrigger_law ?_ _ _ _  ?_ ?_
    | exact InMask.mk 47 hW rfl rfl (Reg.KT_ALM_CFG_has _)
    | exact InMask.mk 284 hW rfl rfl (Reg.KT_ALM_STATUS_has)
    | split
    | dsimp only [id]

theorem State.domSteep_law {W P : Nat} {s0 s : State} (h : Law W P s0 s) (fresh : Bool) (d : Nat) (hW : 0x7000000000 &&& W = 0x7000000000) (hP : 0x40100 &&& P = 0x40100) :
    Law W P s0 (State.domSteep s fresh d) := by
  unfold State.domSteep
  try dsimp only
  repeat' first
    | with_reducible assumption
    | with_reducible exact Law.refl _ _ _
    | exact sub_trans rfl hW
    | exact sub_trans rfl hP
    | with_reducible refine Law.ite (fun _ => ?_) (fun _ => ?_)
    | with_reducible refine State.setFld_law ?_ _ _ ?_
    | with_reducible refine State.setFeed_law ?_ _ _  ?_ ?_
    | with_reducible refine State.eachCh_law ?_ _ _  ?_ ?_
    | with_reducible refine State.reportFi_law ?_ _  ?_ ?_
    | exact InMask.mk 36 hW rfl rfl (Reg.KT_DOM_STATUS_has _)
    | split
    | dsimp only [id]

theorem State.winBegin_law {W P : Nat} {s0 s : State} (h : Law W P s0 s) (hW : 0x0 &&& W = 0x0) (hP : 0x200 &&& P = 0x200) :
    Law W P s0 (State.winBegin s) := by
  unfold State.winBegin
  try dsimp only
  repeat' first
    | with_reducible assumption
    | with_reducible exact Law.refl _ _ _
    | exact sub_trans rfl hW
    | exact sub_trans rfl hP
    | with_reducible refine Law.foldl _ ?_ (fun _ _ _ => ?_)
    | with_reducible refine Law.foldl_fst _ ?_ (fun _ _ _ _ => ?_)
    | dsimp only [id]
    | with_reducible refine Law.put ?_ ?_ ?_ ?_ ?_ ?_ ?_ ?_ ?_ ?_ ?_ ?_ ?_ ?_ ?_ ?_ ?_ ?_ ?_ ?_ ?_ ?_
    | with_reducible exact Or.inl rfl
    | exact Or.inr (partIn hP rfl)

theorem State.kettleSteep_law {W P : Nat} {s0 s : State} (h : Law W P s0 s) (fresh : Bool) (hW : 0x40007000000000 &&& W = 0x40007000000000) (hP : 0x40300 &&& P = 0x40300) :
    Law W P s0 (State.kettleSteep s fresh) := by
  unfold State.kettleSteep
  try dsimp only
  repeat' first
    | with_reducible assumption
    | with_reducible exact Law.refl _ _ _
    | exact sub_trans rfl hW
    | exact sub_trans rfl hP
    | with_reducible refine State.setFld_law ?_ _ _ ?_
    | with_reducible refine State.domSteep_law ?_ _ _  ?_ ?_
    | with_reducible refine State.winBegin_law ?_   ?_ ?_
    | exact InMask.mk 54 hW rfl rfl (Reg.KT_TB_STATUS_has)
    | with_reducible refine Law.foldl _ ?_ (fun _ _ _ => ?_)
    | with_reducible refine Law.foldl_fst _ ?_ (fun _ _ _ _ => ?_)
    | dsimp only [id]
    | with_reducible refine Law.put ?_ ?_ ?_ ?_ ?_ ?_ ?_ ?_ ?_ ?_ ?_ ?_ ?_ ?_ ?_ ?_ ?_ ?_ ?_ ?_ ?_ ?_
    | with_reducible exact Or.inl rfl
    | exact Or.inr (partIn hP rfl)

end Sys2Proof.Machine
end

