-- ==== Sys2Proof/Laws/LawVane.lean ====
section
/-! SUPPORT. The law of every operation of Machine/Vane.lean: what it may change (Laws/Law.lean). -/

set_option linter.all false

namespace Sys2Proof.Machine

theorem State.l1Update_law {W P : Nat} {s0 s : State} (h : Law W P s0 s) (hW : 0x80000000000000 &&& W = 0x80000000000000) (hP : 0x0 &&& P = 0x0) :
    Law W P s0 (State.l1Update s) := by
  unfold State.l1Update
  try dsimp only
  repeat' first
    | with_reducible assumption
    | with_reducible exact Law.refl _ _ _
    | exact sub_trans rfl hW
    | exact sub_trans rfl hP
    | with_reducible refine Law.ite (fun _ => ?_) (fun _ => ?_)
    | with_reducible refine State.setFld_law ?_ _ _ ?_
    | exact InMask.mk 55 hW rfl rfl (Reg.PRT_TT_STATUS_has _)
    | with_reducible refine Law.foldl _ ?_ (fun _ _ _ => ?_)
    | with_reducible refine Law.foldl_fst _ ?_ (fun _ _ _ _ => ?_)
    | split
    | dsimp only [id]

theorem State.selQlUpdate_law {W P : Nat} {s0 s : State} (h : Law W P s0 s) (hW : 0x100000000000000 &&& W = 0x100000000000000) (hP : 0x0 &&& P = 0x0) :
    Law W P s0 (State.selQlUpdate s) := by
  unfold State.selQlUpdate
  try dsimp only
  repeat' first
    | with_reducible assumption
    | with_reducible exact Law.refl _ _ _
    | exact sub_trans rfl hW
    | exact sub_trans rfl hP
    | with_reducible refine Law.ite (fun _ => ?_) (fun _ => ?_)
    | with_reducible refine State.setFld_law ?_ _ _ ?_
    | exact InMask.mk 56 hW rfl rfl (Reg.VN_STATUS_has)
    | split
    | dsimp only [id]

theorem State.vnEnter_law {W P : Nat} {s0 s : State} (h : Law W P s0 s) (st sel target : Nat) (hW : 0x38000000000000e &&& W = 0x38000000000000e) (hP : 0x10000c &&& P = 0x10000c) :
    Law W P s0 (State.vnEnter s st sel target) := by
  unfold State.vnEnter
  try dsimp only
  repeat' first
    | with_reducible assumption
    | with_reducible exact Law.refl _ _ _
    | exact sub_trans rfl hW
    | exact sub_trans rfl hP
    | with_reducible refine Law.ite (fun _ => ?_) (fun _ => ?_)
    | with_reducible refine State.setFld_law ?_ _ _ ?_
    | with_reducible refine State.flagBit_law ?_ _ _ ?_
    | with_reducible refine State.selQlUpdate_law ?_   ?_ ?_
    | with_reducible refine State.spoutEvent_law ?_ _ _ _ _  ?_ ?_
    | with_reducible refine State.l1Update_law ?_   ?_ ?_
    | exact InMask.mk 56 hW rfl rfl (Reg.VN_STATUS_has)
    | exact InMask.mk 57 hW rfl rfl (Reg.VN_FLAGS_has)
    | split
    | dsimp only [id]

theorem State.hoUpdate_law {W P : Nat} {s0 s : State} (h : Law W P s0 s) (hW : 0x500000000000000 &&& W = 0x500000000000000) (hP : 0x40000 &&& P = 0x40000) :
    Law W P s0 (State.hoUpdate s) := by
  unfold State.hoUpdate
  try dsimp only
  repeat' first
    | with_reducible assumption
    | with_reducible exact Law.refl _ _ _
    | exact sub_trans rfl hW
    | exact sub_trans rfl hP
    | with_reducible refine State.setFld_law ?_ _ _ ?_
    | with_reducible refine State.tookFree_law ?_   ?_ ?_
    | exact InMask.mk 56 hW rfl rfl (Reg.VN_STATUS_has)
    | exact InMask.mk 58 hW rfl rfl (Reg.VN_HO_WORD_has)
    | with_reducible refine Law.of_fst (by assumption) ?_
    | split
    | dsimp only [id]

theorem State.vnHold_law {W P : Nat} {s0 s : State} (h : Law W P s0 s) (hW : 0x7b8000000000000e &&& W = 0x7b8000000000000e) (hP : 0x10040c &&& P = 0x10040c) :
    Law W P s0 (State.vnHold s) := by
  unfold State.vnHold
  try dsimp only
  repeat' first
    | with_reducible assumption
    | with_reducible exact Law.refl _ _ _
    | exact sub_trans rfl hW
    | exact sub_trans rfl hP
    | with_reducible refine Law.ite (fun _ => ?_) (fun _ => ?_)
    | with_reducible refine State.setFld_law ?_ _ _ ?_
    | with_reducible refine State.count_law ?_ _ ?_
    | with_reducible refine State.vnEnter_law ?_ _ _ _  ?_ ?_
    | exact InMask.mk 56 hW rfl rfl (Reg.VN_STATUS_has)
    | exact InMask.mk 59 hW rfl rfl (Reg.VN_PULL_has)
    | exact InMask.mk 60 hW rfl rfl (Reg.VN_STEER_has)
    | exact InMask.mk 61 hW rfl rfl (Reg.VN_CNT_has_1)
    | exact InMask.mk 62 hW rfl rfl (Reg.VN_CNT_has_2)
    | split
    | dsimp only [id]
    | with_reducible refine Law.put ?_ ?_ ?_ ?_ ?_ ?_ ?_ ?_ ?_ ?_ ?_ ?_ ?_ ?_ ?_ ?_ ?_ ?_ ?_ ?_ ?_ ?_
    | with_reducible exact Or.inl rfl
    | exact Or.inr (partIn hP rfl)

theorem State.vnSwitch_law {W P : Nat} {s0 s : State} (h : Law W P s0 s) (i : Nat) (delta : Int) (hW : 0x9b8000000000000e &&& W = 0x9b8000000000000e) (hP : 0x14040c &&& P = 0x14040c) :
    Law W P s0 (State.vnSwitch s i delta) := by
  unfold State.vnSwitch
  try dsimp only
  repeat' first
    | with_reducible assumption
    | with_reducible exact Law.refl _ _ _
    | exact sub_trans rfl hW
    | exact sub_trans rfl hP
    | with_reducible refine State.setFld_law ?_ _ _ ?_
    | with_reducible refine State.count_law ?_ _ ?_
    | with_reducible refine State.tookFree_law ?_   ?_ ?_
    | with_reducible refine State.vnEnter_law ?_ _ _ _  ?_ ?_
    | exact InMask.mk 56 hW rfl rfl (Reg.VN_STATUS_has)
    | exact InMask.mk 59 hW rfl rfl (Reg.VN_PULL_has)
    | exact InMask.mk 60 hW rfl rfl (Reg.VN_STEER_has)
    | exact InMask.mk 63 hW rfl rfl (Reg.VN_CNT_has_0)
    | dsimp only [id]
    | with_reducible refine Law.put ?_ ?_ ?_ ?_ ?_ ?_ ?_ ?_ ?_ ?_ ?_ ?_ ?_ ?_ ?_ ?_ ?_ ?_ ?_ ?_ ?_ ?_
    | with_reducible exact Or.inl rfl
    | exact Or.inr (partIn hP rfl)

theorem State.pendUpdate_law {W P : Nat} {s0 s : State} (h : Law W P s0 s) (hW : 0x100000000000000 &&& W = 0x100000000000000) (hP : 0x0 &&& P = 0x0) :
    Law W P s0 (State.pendUpdate s) := by
  unfold State.pendUpdate
  try dsimp only
  repeat' first
    | with_reducible assumption
    | with_reducible exact Law.refl _ _ _
    | exact sub_trans rfl hW
    | exact sub_trans rfl hP
    | with_reducible refine State.setFld_law ?_ _ _ ?_
    | exact InMask.mk 56 hW rfl rfl (Reg.VN_STATUS_has)
    | with_reducible refine Law.of_fst (by assumption) ?_
    | split
    | dsimp only [id]

theorem State.vnRecheck_law {W P : Nat} {s0 s : State} (h : Law W P s0 s) (i : Nat) (hW : 0x17b8000000000000e &&& W = 0x17b8000000000000e) (hP : 0x10040c &&& P = 0x10040c) :
    Law W P s0 (State.vnRecheck s i) := by
  unfold State.vnRecheck
  try dsimp only
  repeat' first
    | with_reducible assumption
    | with_reducible exact Law.refl _ _ _
    | exact sub_trans rfl hW
    | exact sub_trans rfl hP
    | with_reducible refine Law.ite (fun _ => ?_) (fun _ => ?_)
    | with_reducible refine State.setFld_law ?_ _ _ ?_
    | with_reducible refine State.flag_law ?_ _ ?_
    | with_reducible refine State.selQlUpdate_law ?_   ?_ ?_
    | with_reducible refine State.vnHold_law ?_   ?_ ?_
    | with_reducible refine State.pendUpdate_law ?_   ?_ ?_
    | exact InMask.mk 57 hW rfl rfl (Reg.VN_FLAGS_has)
    | exact InMask.mk 64 hW rfl rfl (Reg.VN_CAND_STATUS_has _)
    | split
    | dsimp only [id]
    | with_reducible refine Law.put ?_ ?_ ?_ ?_ ?_ ?_ ?_ ?_ ?_ ?_ ?_ ?_ ?_ ?_ ?_ ?_ ?_ ?_ ?_ ?_ ?_ ?_
    | with_reducible exact Or.inl rfl
    | exact Or.inr (partIn hP rfl)

theorem State.candTo_law {W P : Nat} {s0 s : State} (h : Law W P s0 s) (i st : Nat) (hW : 0x17b8000000000000e &&& W = 0x17b8000000000000e) (hP : 0x10040c &&& P = 0x10040c) :
    Law W P s0 (State.candTo s i st) := by
  unfold State.candTo
  try dsimp only
  repeat' first
    | with_reducible assumption
    | with_reducible exact Law.refl _ _ _
    | exact sub_trans rfl hW
    | exact sub_trans rfl hP
    | with_reducible refine Law.ite (fun _ => ?_) (fun _ => ?_)
    | with_reducible refine State.setFld_law ?_ _ _ ?_
    | with_reducible refine State.spoutEvent_law ?_ _ _ _ _  ?_ ?_
    | with_reducible refine State.vnRecheck_law ?_ _  ?_ ?_
    | exact InMask.mk 64 hW rfl rfl (Reg.VN_CAND_STATUS_has _)
    | split
    | dsimp only [id]
    | with_reducible refine Law.put ?_ ?_ ?_ ?_ ?_ ?_ ?_ ?_ ?_ ?_ ?_ ?_ ?_ ?_ ?_ ?_ ?_ ?_ ?_ ?_ ?_ ?_
    | with_reducible exact Or.inl rfl
    | exact Or.inr (partIn hP rfl)

theorem State.setQl_law {W P : Nat} {s0 s : State} (h : Law W P s0 s) (i q : Nat) (hW : 0x77b8000000000000e &&& W = 0x77b8000000000000e) (hP : 0x10040c &&& P = 0x10040c) :
    Law W P s0 (State.setQl s i q) := by
  unfold State.setQl
  try dsimp only
  repeat' first
    | with_reducible assumption
    | with_reducible exact Law.refl _ _ _
    | exact sub_trans rfl hW
    | exact sub_trans rfl hP
    | with_reducible refine Law.ite (fun _ => ?_) (fun _ => ?_)
    | with_reducible refine State.setFld_law ?_ _ _ ?_
    | with_reducible refine State.count_law ?_ _ ?_
    | with_reducible refine State.flag_law ?_ _ ?_
    | with_reducible refine State.spoutEvent_law ?_ _ _ _ _  ?_ ?_
    | with_reducible refine State.vnRecheck_law ?_ _  ?_ ?_
    | exact InMask.mk 64 hW rfl rfl (Reg.VN_CAND_STATUS_has _)
    | exact InMask.mk 65 hW rfl rfl (Reg.VN_CNT_has_5)
    | exact InMask.mk 66 hW rfl rfl (Reg.VN_CAND_FLAGS_has _)
    | split
    | dsimp only [id]

theorem State.candInactive_law {W P : Nat} {s0 s : State} (h : Law W P s0 s) (i : Nat) (hW : 0xd7b8000000000000e &&& W = 0xd7b8000000000000e) (hP : 0x10040c &&& P = 0x10040c) :
    Law W P s0 (State.candInactive s i) := by
  unfold State.candInactive
  try dsimp only
  repeat' first
    | with_reducible assumption
    | with_reducible exact Law.refl _ _ _
    | exact sub_trans rfl hW
    | exact sub_trans rfl hP
    | with_reducible refine Law.ite (fun _ => ?_) (fun _ => ?_)
    | with_reducible refine State.setFld_law ?_ _ _ ?_
    | with_reducible refine State.count_law ?_ _ ?_
    | with_reducible refine State.flag_law ?_ _ ?_
    | with_reducible refine State.candTo_law ?_ _ _  ?_ ?_
    | exact InMask.mk 64 hW rfl rfl (Reg.VN_CAND_STATUS_has _)
    | exact InMask.mk 66 hW rfl rfl (Reg.VN_CAND_FLAGS_has _)
    | exact InMask.mk 67 hW rfl rfl (Reg.VN_CNT_has_3)
    | split
    | dsimp only [id]

theorem State.candActivate_law {W P : Nat} {s0 s : State} (h : Law W P s0 s) (i : Nat) (hW : 0x10000000000000000 &&& W = 0x10000000000000000) (hP : 0x400 &&& P = 0x400) :
    Law W P s0 (State.candActivate s i) := by
  unfold State.candActivate
  try dsimp only
  repeat' first
    | with_reducible assumption
    | with_reducible exact Law.refl _ _ _
    | exact sub_trans rfl hW
    | exact sub_trans rfl hP
    | with_reducible refine Law.ite (fun _ => ?_) (fun _ => ?_)
    | with_reducible refine State.setFld_law ?_ _ _ ?_
    | exact InMask.mk 64 hW rfl rfl (Reg.VN_CAND_STATUS_has _)
    | split
    | dsimp only [id]
    | with_reducible refine Law.put ?_ ?_ ?_ ?_ ?_ ?_ ?_ ?_ ?_ ?_ ?_ ?_ ?_ ?_ ?_ ?_ ?_ ?_ ?_ ?_ ?_ ?_
    | with_reducible exact Or.inl rfl
    | exact Or.inr (partIn hP rfl)

theorem State.timeRefFollow_law {W P : Nat} {s0 s : State} (h : Law W P s0 s) (hW : 0xd7b8000000000000e &&& W = 0xd7b8000000000000e) (hP : 0x10040c &&& P = 0x10040c) :
    Law W P s0 (State.timeRefFollow s) := by
  unfold State.timeRefFollow
  try dsimp only
  repeat' first
    | with_reducible assumption
    | with_reducible exact Law.refl _ _ _
    | exact sub_trans rfl hW
    | exact sub_trans rfl hP
    | with_reducible refine Law.ite (fun _ => ?_) (fun _ => ?_)
    | with_reducible refine State.candActivate_law ?_ _  ?_ ?_
    | with_reducible refine State.candInactive_law ?_ _  ?_ ?_
    | with_reducible refine Law.foldl _ ?_ (fun _ _ _ => ?_)
    | with_reducible refine Law.foldl_fst _ ?_ (fun _ _ _ _ => ?_)
    | split
    | dsimp only [id]

theorem execTimebaseAbsent_law {W P : Nat} (s : State)  (hW : 0x2100000000000000000000000000000000000000000000000000000d7bc000000000000e &&& W = 0x2100000000000000000000000000000000000000000000000000000d7bc000000000000e) (hP : 0x10040c &&& P = 0x10040c) :
    OutLaw W P s (execTimebaseAbsent s) := by
  unfold execTimebaseAbsent
  try dsimp only
  repeat' first
    | with_reducible assumption
    | with_reducible exact OutLaw.fault _
    | with_reducible refine OutLaw.ite (fun _ => ?_) (fun _ => ?_)
    | with_reducible refine OutLaw.next ?_
    | with_reducible exact Law.refl _ _ _
    | exact sub_trans rfl hW
    | exact sub_trans rfl hP
    | with_reducible refine Law.ite (fun _ => ?_) (fun _ => ?_)
    | with_reducible refine State.setFld_law ?_ _ _ ?_
    | with_reducible refine State.count_law ?_ _ ?_
    | with_reducible refine State.flag_law ?_ _ ?_
    | with_reducible refine State.spoutEvent_law ?_ _ _ _ _  ?_ ?_
    | with_reducible refine State.timeRefFollow_law ?_   ?_ ?_
    | exact InMask.mk 54 hW rfl rfl (Reg.KT_TB_STATUS_has)
    | exact InMask.mk 280 hW rfl rfl (Reg.KT_TB_FLAGS_has)
    | exact InMask.mk 285 hW rfl rfl (Reg.KT_CNT_has_8)
    | split
    | dsimp only [id]

theorem execTimebasePresent_law {W P : Nat} (s : State)  (hW : 0xd7bc000000000000e &&& W = 0xd7bc000000000000e) (hP : 0x10050c &&& P = 0x10050c) :
    OutLaw W P s (execTimebasePresent s) := by
  unfold execTimebasePresent
  try dsimp only
  repeat' first
    | with_reducible assumption
    | with_reducible exact OutLaw.fault _
    | with_reducible refine OutLaw.ite (fun _ => ?_) (fun _ => ?_)
    | with_reducible refine OutLaw.next ?_
    | with_reducible exact Law.refl _ _ _
    | exact sub_trans rfl hW
    | exact sub_trans rfl hP
    | with_reducible refine Law.ite (fun _ => ?_) (fun _ => ?_)
    | with_reducible refine State.setFld_law ?_ _ _ ?_
    | with_reducible refine State.timeRefFollow_law ?_   ?_ ?_
    | exact InMask.mk 54 hW rfl rfl (Reg.KT_TB_STATUS_has)
    | split
    | dsimp only [id]
    | with_reducible refine Law.put ?_ ?_ ?_ ?_ ?_ ?_ ?_ ?_ ?_ ?_ ?_ ?_ ?_ ?_ ?_ ?_ ?_ ?_ ?_ ?_ ?_ ?_
    | with_reducible exact Or.inl rfl
    | exact Or.inr (partIn hP rfl)

theorem State.vnPortChange_law {W P : Nat} {s0 s : State} (h : Law W P s0 s) (p : Nat) (hW : 0xf7b8000000000000e &&& W = 0xf7b8000000000000e) (hP : 0x10040c &&& P = 0x10040c) :
    Law W P s0 (State.vnPortChange s p) := by
  unfold State.vnPortChange
  try dsimp only
  repeat' first
    | with_reducible assumption
    | with_reducible exact Law.refl _ _ _
    | exact sub_trans rfl hW
    | exact sub_trans rfl hP
    | with_reducible refine Law.ite (fun _ => ?_) (fun _ => ?_)
    | with_reducible refine State.candActivate_law ?_ _  ?_ ?_
    | with_reducible refine State.candInactive_law ?_ _  ?_ ?_
    | with_reducible refine State.setQl_law ?_ _ _  ?_ ?_
    | with_reducible refine Law.foldl _ ?_ (fun _ _ _ => ?_)
    | with_reducible refine Law.foldl_fst _ ?_ (fun _ _ _ _ => ?_)
    | split
    | dsimp only [id]

theorem execCandidateInactive_law {W P : Nat} (s : State) (i : Nat) (hW : 0xd7b8000000000000e &&& W = 0xd7b8000000000000e) (hP : 0x10040c &&& P = 0x10040c) :
    OutLaw W P s (execCandidateInactive i s) := by
  unfold execCandidateInactive
  try dsimp only
  repeat' first
    | with_reducible assumption
    | with_reducible exact OutLaw.fault _
    | with_reducible refine OutLaw.ite (fun _ => ?_) (fun _ => ?_)
    | with_reducible refine OutLaw.next ?_
    | with_reducible exact Law.refl _ _ _
    | exact sub_trans rfl hW
    | exact sub_trans rfl hP
    | with_reducible refine Law.ite (fun _ => ?_) (fun _ => ?_)
    | with_reducible refine State.candInactive_law ?_ _  ?_ ?_
    | split
    | dsimp only [id]

theorem execCandidateActive_law {W P : Nat} (s : State) (i : Nat) (hW : 0x10000000000000000 &&& W = 0x10000000000000000) (hP : 0x400 &&& P = 0x400) :
    OutLaw W P s (execCandidateActive i s) := by
  unfold execCandidateActive
  try dsimp only
  repeat' first
    | with_reducible assumption
    | with_reducible exact OutLaw.fault _
    | with_reducible refine OutLaw.ite (fun _ => ?_) (fun _ => ?_)
    | with_reducible refine OutLaw.next ?_
    | with_reducible exact Law.refl _ _ _
    | exact sub_trans rfl hW
    | exact sub_trans rfl hP
    | with_reducible refine Law.ite (fun _ => ?_) (fun _ => ?_)
    | with_reducible refine State.candActivate_law ?_ _  ?_ ?_
    | split
    | dsimp only [id]

theorem State.candMeasure_law {W P : Nat} {s0 s : State} (h : Law W P s0 s) (i : Nat) (y : Int) (hW : 0x3d7b8000000000000e &&& W = 0x3d7b8000000000000e) (hP : 0x10040c &&& P = 0x10040c) :
    Law W P s0 (State.candMeasure s i y) := by
  unfold State.candMeasure
  try dsimp only
  repeat' first
    | with_reducible assumption
    | with_reducible exact Law.refl _ _ _
    | exact sub_trans rfl hW
    | exact sub_trans rfl hP
    | with_reducible refine Law.ite (fun _ => ?_) (fun _ => ?_)
    | with_reducible refine State.setFld_law ?_ _ _ ?_
    | with_reducible refine State.countN_law ?_ _ _ ?_
    | with_reducible refine State.count_law ?_ _ ?_
    | with_reducible refine State.flag_law ?_ _ ?_
    | with_reducible refine State.candTo_law ?_ _ _  ?_ ?_
    | exact InMask.mk 66 hW rfl rfl (Reg.VN_CAND_FLAGS_has _)
    | exact InMask.mk 67 hW rfl rfl (Reg.VN_CNT_has_3)
    | exact InMask.mk 68 hW rfl rfl (Reg.VN_CAND_FREQ_has _)
    | exact InMask.mk 69 hW rfl rfl (Reg.VN_CNT_has_4)
    | split
    | dsimp only [id]

theorem execFreqMeasurement_law {W P : Nat} (s : State) (i : Nat) (n : Option Nat) (hW : 0x3d7b8000000000000e &&& W = 0x3d7b8000000000000e) (hP : 0x14040c &&& P = 0x14040c) :
    OutLaw W P s (execFreqMeasurement i n s) := by
  unfold execFreqMeasurement
  try dsimp only
  repeat' first
    | with_reducible assumption
    | with_reducible exact OutLaw.fault _
    | with_reducible refine OutLaw.ite (fun _ => ?_) (fun _ => ?_)
    | with_reducible refine OutLaw.next ?_
    | with_reducible exact Law.refl _ _ _
    | exact sub_trans rfl hW
    | exact sub_trans rfl hP
    | with_reducible refine Law.ite (fun _ => ?_) (fun _ => ?_)
    | with_reducible refine State.setFld_law ?_ _ _ ?_
    | with_reducible refine State.tookFree_law ?_   ?_ ?_
    | with_reducible refine State.candMeasure_law ?_ _ _  ?_ ?_
    | exact InMask.mk 68 hW rfl rfl (Reg.VN_CAND_FREQ_has _)
    | with_reducible refine Law.of_fst (by assumption) ?_
    | split
    | dsimp only [id]

theorem execWtrExpiry_law {W P : Nat} (s : State) (i : Nat) (hW : 0x217b8000000000000e &&& W = 0x217b8000000000000e) (hP : 0x10040c &&& P = 0x10040c) :
    OutLaw W P s (execWtrExpiry i s) := by
  unfold execWtrExpiry
  try dsimp only
  repeat' first
    | with_reducible assumption
    | with_reducible exact OutLaw.fault _
    | with_reducible refine OutLaw.ite (fun _ => ?_) (fun _ => ?_)
    | with_reducible refine OutLaw.next ?_
    | with_reducible exact Law.refl _ _ _
    | exact sub_trans rfl hW
    | exact sub_trans rfl hP
    | with_reducible refine Law.ite (fun _ => ?_) (fun _ => ?_)
    | with_reducible refine State.count_law ?_ _ ?_
    | with_reducible refine State.candTo_law ?_ _ _  ?_ ?_
    | exact InMask.mk 69 hW rfl rfl (Reg.VN_CNT_has_4)
    | split
    | dsimp only [id]
    | with_reducible refine Law.put ?_ ?_ ?_ ?_ ?_ ?_ ?_ ?_ ?_ ?_ ?_ ?_ ?_ ?_ ?_ ?_ ?_ ?_ ?_ ?_ ?_ ?_
    | with_reducible exact Or.inl rfl
    | exact Or.inr (partIn hP rfl)

theorem State.esmcPdu_law {W P : Nat} {s0 s : State} (h : Law W P s0 s) (p : Nat) (ssm : BitVec 8) (hW : 0x477b8000000000000e &&& W = 0x477b8000000000000e) (hP : 0x10040c &&& P = 0x10040c) :
    Law W P s0 (State.esmcPdu s p ssm) := by
  unfold State.esmcPdu
  try dsimp only
  repeat' first
    | with_reducible assumption
    | with_reducible exact Law.refl _ _ _
    | exact sub_trans rfl hW
    | exact sub_trans rfl hP
    | with_reducible refine Law.ite (fun _ => ?_) (fun _ => ?_)
    | with_reducible refine State.count_law ?_ _ ?_
    | with_reducible refine State.setQl_law ?_ _ _  ?_ ?_
    | exact InMask.mk 70 hW rfl rfl (Reg.VN_CNT_has_6)
    | with_reducible refine Law.foldl _ ?_ (fun _ _ _ => ?_)
    | with_reducible refine Law.foldl_fst _ ?_ (fun _ _ _ _ => ?_)
    | split
    | dsimp only [id]

theorem execEsmcPduReceived_law {W P : Nat} (s : State) (p : Nat) (ssm : BitVec 8) (hW : 0x477b8000000000000e &&& W = 0x477b8000000000000e) (hP : 0x10040c &&& P = 0x10040c) :
    OutLaw W P s (execEsmcPduReceived p ssm s) := by
  unfold execEsmcPduReceived
  try dsimp only
  repeat' first
    | with_reducible assumption
    | with_reducible exact OutLaw.fault _
    | with_reducible refine OutLaw.ite (fun _ => ?_) (fun _ => ?_)
    | with_reducible refine OutLaw.next ?_
    | with_reducible exact Law.refl _ _ _
    | exact sub_trans rfl hW
    | exact sub_trans rfl hP
    | with_reducible refine Law.ite (fun _ => ?_) (fun _ => ?_)
    | with_reducible refine State.esmcPdu_law ?_ _ _  ?_ ?_
    | split
    | dsimp only [id]

theorem execEsmcTimeout_law {W P : Nat} (s : State) (i : Nat) (hW : 0x400000000000000000000000000000000000000000000000000000077b8000000000000e &&& W = 0x400000000000000000000000000000000000000000000000000000077b8000000000000e) (hP : 0x10040c &&& P = 0x10040c) :
    OutLaw W P s (execEsmcTimeout i s) := by
  unfold execEsmcTimeout
  try dsimp only
  repeat' first
    | with_reducible assumption
    | with_reducible exact OutLaw.fault _
    | with_reducible refine OutLaw.ite (fun _ => ?_) (fun _ => ?_)
    | with_reducible refine OutLaw.next ?_
    | with_reducible exact Law.refl _ _ _
    | exact sub_trans rfl hW
    | exact sub_trans rfl hP
    | with_reducible refine Law.ite (fun _ => ?_) (fun _ => ?_)
    | with_reducible refine State.count_law ?_ _ ?_
    | with_reducible refine State.flag_law ?_ _ ?_
    | with_reducible refine State.setQl_law ?_ _ _  ?_ ?_
    | exact InMask.mk 66 hW rfl rfl (Reg.VN_CAND_FLAGS_has _)
    | exact InMask.mk 286 hW rfl rfl (Reg.VN_CNT_has_7)
    | split
    | dsimp only [id]

theorem State.pullStep_law {W P : Nat} {s0 s : State} (h : Law W P s0 s) (hW : 0x800000000000000 &&& W = 0x800000000000000) (hP : 0x400 &&& P = 0x400) :
    Law W P s0 (State.pullStep s) := by
  unfold State.pullStep
  try dsimp only
  repeat' first
    | with_reducible assumption
    | with_reducible exact Law.refl _ _ _
    | exact sub_trans rfl hW
    | exact sub_trans rfl hP
    | with_reducible refine Law.ite (fun _ => ?_) (fun _ => ?_)
    | with_reducible refine State.setFld_law ?_ _ _ ?_
    | exact InMask.mk 59 hW rfl rfl (Reg.VN_PULL_has)
    | split
    | dsimp only [id]
    | with_reducible refine Law.put ?_ ?_ ?_ ?_ ?_ ?_ ?_ ?_ ?_ ?_ ?_ ?_ ?_ ?_ ?_ ?_ ?_ ?_ ?_ ?_ ?_ ?_
    | with_reducible exact Or.inl rfl
    | exact Or.inr (partIn hP rfl)

theorem State.wtrStep_law {W P : Nat} {s0 s : State} (h : Law W P s0 s) (hW : 0x10000000000000000 &&& W = 0x10000000000000000) (hP : 0x400 &&& P = 0x400) :
    Law W P s0 (State.wtrStep s) := by
  unfold State.wtrStep
  try dsimp only
  repeat' first
    | with_reducible assumption
    | with_reducible exact Law.refl _ _ _
    | exact sub_trans rfl hW
    | exact sub_trans rfl hP
    | with_reducible refine State.setFld_law ?_ _ _ ?_
    | exact InMask.mk 64 hW rfl rfl (Reg.VN_CAND_STATUS_has _)
    | with_reducible refine Law.foldl _ ?_ (fun _ _ _ => ?_)
    | with_reducible refine Law.foldl_fst _ ?_ (fun _ _ _ _ => ?_)
    | dsimp only [id]
    | with_reducible refine Law.put ?_ ?_ ?_ ?_ ?_ ?_ ?_ ?_ ?_ ?_ ?_ ?_ ?_ ?_ ?_ ?_ ?_ ?_ ?_ ?_ ?_ ?_
    | with_reducible exact Or.inl rfl
    | exact Or.inr (partIn hP rfl)

theorem State.selectionTick_law {W P : Nat} {s0 s : State} (h : Law W P s0 s) (delta : Int) (hW : 0x1fb8000000000000e &&& W = 0x1fb8000000000000e) (hP : 0x14040c &&& P = 0x14040c) :
    Law W P s0 (State.selectionTick s delta) := by
  unfold State.selectionTick
  try dsimp only
  repeat' first
    | with_reducible assumption
    | with_reducible exact Law.refl _ _ _
    | exact sub_trans rfl hW
    | exact sub_trans rfl hP
    | with_reducible refine Law.ite (fun _ => ?_) (fun _ => ?_)
    | with_reducible refine State.setFld_law ?_ _ _ ?_
    | with_reducible refine State.wtrStep_law ?_   ?_ ?_
    | with_reducible refine State.vnHold_law ?_   ?_ ?_
    | with_reducible refine State.pullStep_law ?_   ?_ ?_
    | with_reducible refine State.pendUpdate_law ?_   ?_ ?_
    | with_reducible refine State.vnSwitch_law ?_ _ _  ?_ ?_
    | exact InMask.mk 56 hW rfl rfl (Reg.VN_STATUS_has)
    | with_reducible refine Law.of_fst (by assumption) ?_
    | split
    | dsimp only [id]

theorem execSelectionTick_law {W P : Nat} (s : State) (delta : Int) (hW : 0x1fb8000000000000e &&& W = 0x1fb8000000000000e) (hP : 0x14040c &&& P = 0x14040c) :
    OutLaw W P s (execSelectionTick delta s) := by
  unfold execSelectionTick
  try dsimp only
  repeat' first
    | with_reducible assumption
    | with_reducible exact OutLaw.fault _
    | with_reducible refine OutLaw.ite (fun _ => ?_) (fun _ => ?_)
    | with_reducible refine OutLaw.next ?_
    | with_reducible exact Law.refl _ _ _
    | exact sub_trans rfl hW
    | exact sub_trans rfl hP
    | with_reducible refine Law.ite (fun _ => ?_) (fun _ => ?_)
    | with_reducible refine State.selectionTick_law ?_ _  ?_ ?_
    | split
    | dsimp only [id]

theorem execPullComplete_law {W P : Nat} (s : State)  (hW : 0x38000000000000e &&& W = 0x38000000000000e) (hP : 0x10040c &&& P = 0x10040c) :
    OutLaw W P s (execPullComplete s) := by
  unfold execPullComplete
  try dsimp only
  repeat' first
    | with_reducible assumption
    | with_reducible exact OutLaw.fault _
    | with_reducible refine OutLaw.ite (fun _ => ?_) (fun _ => ?_)
    | with_reducible refine OutLaw.next ?_
    | with_reducible exact Law.refl _ _ _
    | exact sub_trans rfl hW
    | exact sub_trans rfl hP
    | with_reducible refine Law.ite (fun _ => ?_) (fun _ => ?_)
    | with_reducible refine State.setFld_law ?_ _ _ ?_
    | with_reducible refine State.vnEnter_law ?_ _ _ _  ?_ ?_
    | exact InMask.mk 56 hW rfl rfl (Reg.VN_STATUS_has)
    | split
    | dsimp only [id]
    | with_reducible refine Law.put ?_ ?_ ?_ ?_ ?_ ?_ ?_ ?_ ?_ ?_ ?_ ?_ ?_ ?_ ?_ ?_ ?_ ?_ ?_ ?_ ?_ ?_
    | with_reducible exact Or.inl rfl
    | exact Or.inr (partIn hP rfl)

theorem execHoldoverRecord_law {W P : Nat} (s : State) (steer : BitVec 32) (hW : 0x1500000000000000 &&& W = 0x1500000000000000) (hP : 0x40400 &&& P = 0x40400) :
    OutLaw W P s (execHoldoverRecord steer s) := by
  unfold execHoldoverRecord
  try dsimp only
  repeat' first
    | with_reducible assumption
    | with_reducible exact OutLaw.fault _
    | with_reducible refine OutLaw.ite (fun _ => ?_) (fun _ => ?_)
    | with_reducible refine OutLaw.next ?_
    | with_reducible exact Law.refl _ _ _
    | exact sub_trans rfl hW
    | exact sub_trans rfl hP
    | with_reducible refine Law.ite (fun _ => ?_) (fun _ => ?_)
    | with_reducible refine State.setFld_law ?_ _ _ ?_
    | with_reducible refine State.hoUpdate_law ?_   ?_ ?_
    | exact InMask.mk 60 hW rfl rfl (Reg.VN_STEER_has)
    | split
    | dsimp only [id]
    | with_reducible refine Law.put ?_ ?_ ?_ ?_ ?_ ?_ ?_ ?_ ?_ ?_ ?_ ?_ ?_ ?_ ?_ ?_ ?_ ?_ ?_ ?_ ?_ ?_
    | with_reducible exact Or.inl rfl
    | exact Or.inr (partIn hP rfl)

theorem State.vaneRetain_law {W P : Nat} {s0 s : State} (h : Law W P s0 s) (hW : 0x0 &&& W = 0x0) (hP : 0x200 &&& P = 0x200) :
    Law W P s0 (State.vaneRetain s) := by
  unfold State.vaneRetain
  try dsimp only
  repeat' first
    | with_reducible assumption
    | with_reducible exact Law.refl _ _ _
    | exact sub_trans rfl hW
    | exact sub_trans rfl hP
    | with_reducible refine Law.ite (fun _ => ?_) (fun _ => ?_)
    | with_reducible refine Law.foldl _ ?_ (fun _ _ _ => ?_)
    | with_reducible refine Law.foldl_fst _ ?_ (fun _ _ _ _ => ?_)
    | split
    | dsimp only [id]
    | with_reducible refine Law.put ?_ ?_ ?_ ?_ ?_ ?_ ?_ ?_ ?_ ?_ ?_ ?_ ?_ ?_ ?_ ?_ ?_ ?_ ?_ ?_ ?_ ?_
    | with_reducible exact Or.inl rfl
    | exact Or.inr (partIn hP rfl)

theorem State.candStart_law {W P : Nat} {s0 s : State} (h : Law W P s0 s) (i : Nat) (hW : 0x110000000000000000 &&& W = 0x110000000000000000) (hP : 0x400 &&& P = 0x400) :
    Law W P s0 (State.candStart s i) := by
  unfold State.candStart
  try dsimp only
  repeat' first
    | with_reducible assumption
    | with_reducible exact Law.refl _ _ _
    | exact sub_trans rfl hW
    | exact sub_trans rfl hP
    | with_reducible refine Law.ite (fun _ => ?_) (fun _ => ?_)
    | with_reducible refine State.setFld_law ?_ _ _ ?_
    | exact InMask.mk 64 hW rfl rfl (Reg.VN_CAND_STATUS_has _)
    | exact InMask.mk 68 hW rfl rfl (Reg.VN_CAND_FREQ_has _)
    | split
    | dsimp only [id]
    | with_reducible refine Law.put ?_ ?_ ?_ ?_ ?_ ?_ ?_ ?_ ?_ ?_ ?_ ?_ ?_ ?_ ?_ ?_ ?_ ?_ ?_ ?_ ?_ ?_
    | with_reducible exact Or.inl rfl
    | exact Or.inr (partIn hP rfl)

theorem State.vaneStart_law {W P : Nat} {s0 s : State} (h : Law W P s0 s) (hW : 0x11178000000000000e &&& W = 0x11178000000000000e) (hP : 0x10040c &&& P = 0x10040c) :
    Law W P s0 (State.vaneStart s) := by
  unfold State.vaneStart
  try dsimp only
  repeat' first
    | with_reducible assumption
    | with_reducible exact Law.refl _ _ _
    | exact sub_trans rfl hW
    | exact sub_trans rfl hP
    | with_reducible refine Law.ite (fun _ => ?_) (fun _ => ?_)
    | with_reducible refine State.setFld_law ?_ _ _ ?_
    | with_reducible refine State.candStart_law ?_ _  ?_ ?_
    | with_reducible refine State.vnEnter_law ?_ _ _ _  ?_ ?_
    | exact InMask.mk 56 hW rfl rfl (Reg.VN_STATUS_has)
    | exact InMask.mk 58 hW rfl rfl (Reg.VN_HO_WORD_has)
    | exact InMask.mk 60 hW rfl rfl (Reg.VN_STEER_has)
    | with_reducible refine Law.foldl _ ?_ (fun _ _ _ => ?_)
    | with_reducible refine Law.foldl_fst _ ?_ (fun _ _ _ _ => ?_)
    | split
    | dsimp only [id]
    | with_reducible refine Law.put ?_ ?_ ?_ ?_ ?_ ?_ ?_ ?_ ?_ ?_ ?_ ?_ ?_ ?_ ?_ ?_ ?_ ?_ ?_ ?_ ?_ ?_
    | with_reducible exact Or.inl rfl
    | exact Or.inr (partIn hP rfl)

end Sys2Proof.Machine
end

