-- ==== Sys2Proof/Laws/LawPhase.lean ====
section
/-! SUPPORT. The law of every operation of Machine/Phase.lean: what it may change (Laws/Law.lean). -/

set_option linter.all false

namespace Sys2Proof.Machine

theorem State.setChan_law {W P : Nat} {s0 s : State} (h : Law W P s0 s) (n : Nat) (c : PhChan) (hW : 0x0 &&& W = 0x0) (hP : 0x1000 &&& P = 0x1000) :
    Law W P s0 (State.setChan s n c) := by
  unfold State.setChan
  try dsimp only
  repeat' first
    | with_reducible assumption
    | with_reducible exact Law.refl _ _ _
    | exact sub_trans rfl hW
    | exact sub_trans rfl hP
    | dsimp only [id]
    | with_reducible refine Law.put ?_ ?_ ?_ ?_ ?_ ?_ ?_ ?_ ?_ ?_ ?_ ?_ ?_ ?_ ?_ ?_ ?_ ?_ ?_ ?_ ?_ ?_
    | with_reducible exact Or.inl rfl
    | exact Or.inr (partIn hP rfl)

theorem State.setRot_law {W P : Nat} {s0 s : State} (h : Law W P s0 s) (g : Nat) (r : PhRot) (hW : 0x0 &&& W = 0x0) (hP : 0x1000 &&& P = 0x1000) :
    Law W P s0 (State.setRot s g r) := by
  unfold State.setRot
  try dsimp only
  repeat' first
    | with_reducible assumption
    | with_reducible exact Law.refl _ _ _
    | exact sub_trans rfl hW
    | exact sub_trans rfl hP
    | dsimp only [id]
    | with_reducible refine Law.put ?_ ?_ ?_ ?_ ?_ ?_ ?_ ?_ ?_ ?_ ?_ ?_ ?_ ?_ ?_ ?_ ?_ ?_ ?_ ?_ ?_ ?_
    | with_reducible exact Or.inl rfl
    | exact Or.inr (partIn hP rfl)

theorem State.linearise_law {W P : Nat} {s0 s : State} (h : Law W P s0 s) (n : Nat) (h1 h2 : List Nat) (hW : 0x3800000000000000000 &&& W = 0x3800000000000000000) (hP : 0x41000 &&& P = 0x41000) :
    Law W P s0 (State.linearise s n h1 h2) := by
  unfold State.linearise
  try dsimp only
  repeat' first
    | with_reducible assumption
    | with_reducible exact Law.refl _ _ _
    | exact sub_trans rfl hW
    | exact sub_trans rfl hP
    | with_reducible refine Law.ite (fun _ => ?_) (fun _ => ?_)
    | with_reducible refine State.setFld_law ?_ _ _ ?_
    | with_reducible refine State.flag_law ?_ _ ?_
    | with_reducible refine State.setChan_law ?_ _ _  ?_ ?_
    | with_reducible refine State.tookFree_law ?_   ?_ ?_
    | exact InMask.mk 71 hW rfl rfl (Reg.PH_CH_QUAL_has _)
    | exact InMask.mk 72 hW rfl rfl (Reg.PH_CH_STATUS_has _)
    | exact InMask.mk 73 hW rfl rfl (Reg.PH_CH_FLAGS_has _)
    | split
    | dsimp only [id]

theorem State.holdSpare_law {W P : Nat} {s0 s : State} (h : Law W P s0 s) (g n : Nat) (hW : 0x4000000000000000000 &&& W = 0x4000000000000000000) (hP : 0x0 &&& P = 0x0) :
    Law W P s0 (State.holdSpare s g n) := by
  unfold State.holdSpare
  try dsimp only
  repeat' first
    | with_reducible assumption
    | with_reducible exact Law.refl _ _ _
    | exact sub_trans rfl hW
    | exact sub_trans rfl hP
    | with_reducible refine State.setFld_law ?_ _ _ ?_
    | exact InMask.mk 74 hW rfl rfl (Reg.PH_ROT_STATUS_has _)
    | dsimp only [id]

theorem State.spareFree_law {W P : Nat} {s0 s : State} (h : Law W P s0 s) (g : Nat) (hW : 0x4000000000000000000 &&& W = 0x4000000000000000000) (hP : 0x1000 &&& P = 0x1000) :
    Law W P s0 (State.spareFree s g) := by
  unfold State.spareFree
  try dsimp only
  repeat' first
    | with_reducible assumption
    | with_reducible exact Law.refl _ _ _
    | exact sub_trans rfl hW
    | exact sub_trans rfl hP
    | with_reducible refine State.setFld_law ?_ _ _ ?_
    | with_reducible refine State.setRot_law ?_ _ _  ?_ ?_
    | with_reducible refine State.holdSpare_law ?_ _ _  ?_ ?_
    | exact InMask.mk 74 hW rfl rfl (Reg.PH_ROT_STATUS_has _)
    | with_reducible refine Law.of_fst (by assumption) ?_
    | split
    | dsimp only [id]

theorem State.becomeBad_law {W P : Nat} {s0 s : State} (h : Law W P s0 s) (n : Nat) (hW : 0x700000000000000000e &&& W = 0x700000000000000000e) (hP : 0x10100c &&& P = 0x10100c) :
    Law W P s0 (State.becomeBad s n) := by
  unfold State.becomeBad
  try dsimp only
  repeat' first
    | with_reducible assumption
    | with_reducible exact Law.refl _ _ _
    | exact sub_trans rfl hW
    | exact sub_trans rfl hP
    | with_reducible refine Law.ite (fun _ => ?_) (fun _ => ?_)
    | with_reducible refine State.setFld_law ?_ _ _ ?_
    | with_reducible refine State.flag_law ?_ _ ?_
    | with_reducible refine State.spoutEvent_law ?_ _ _ _ _  ?_ ?_
    | with_reducible refine State.setRot_law ?_ _ _  ?_ ?_
    | with_reducible refine State.holdSpare_law ?_ _ _  ?_ ?_
    | exact InMask.mk 72 hW rfl rfl (Reg.PH_CH_STATUS_has _)
    | exact InMask.mk 73 hW rfl rfl (Reg.PH_CH_FLAGS_has _)
    | split
    | dsimp only [id]

theorem State.setOcc_law {W P : Nat} {s0 s : State} (h : Law W P s0 s) (n : Nat) (hW : 0x8000000000000000000 &&& W = 0x8000000000000000000) (hP : 0x0 &&& P = 0x0) :
    Law W P s0 (State.setOcc s n) := by
  unfold State.setOcc
  try dsimp only
  repeat' first
    | with_reducible assumption
    | with_reducible exact Law.refl _ _ _
    | exact sub_trans rfl hW
    | exact sub_trans rfl hP
    | with_reducible refine State.setFld_law ?_ _ _ ?_
    | exact InMask.mk 75 hW rfl rfl (Reg.PH_SQ_CREDIT_has _)
    | dsimp only [id]

theorem State.stampEvent_law {W P : Nat} {s0 s : State} (h : Law W P s0 s) (n dom : Nat) (edge : Bool) (t : Time16) (spare qbad : Bool) (hW : 0x3a000000000000000010 &&& W = 0x3a000000000000000010) (hP : 0x1000 &&& P = 0x1000) :
    Law W P s0 (State.stampEvent s n dom edge t spare qbad) := by
  unfold State.stampEvent
  try dsimp only
  repeat' first
    | with_reducible assumption
    | with_reducible exact Law.refl _ _ _
    | exact sub_trans rfl hW
    | exact sub_trans rfl hP
    | with_reducible refine Law.ite (fun _ => ?_) (fun _ => ?_)
    | with_reducible refine State.setFld_law ?_ _ _ ?_
    | with_reducible refine State.flag_law ?_ _ ?_
    | with_reducible refine State.setChan_law ?_ _ _  ?_ ?_
    | with_reducible refine State.countEv_law ?_ _ _ _ _ ?_ ?_ ?_
    | with_reducible refine State.setOcc_law ?_ _  ?_ ?_
    | exact InMask.mk 73 hW rfl rfl (Reg.PH_CH_FLAGS_has _)
    | exact InMask.mk 75 hW rfl rfl (Reg.PH_SQ_CREDIT_has _)
    | exact InMask.mk 76 hW rfl rfl (Reg.PH_CNT_has_0 _)
    | exact InMask.mk 77 hW rfl rfl (Reg.PH_CNT_has_1 _)
    | with_reducible refine Law.of_fst (by assumption) ?_
    | split
    | dsimp only [id]

theorem State.sqFlush_law {W P : Nat} {s0 s : State} (h : Law W P s0 s) (n host prod : Nat) (hW : 0x48000000000000000000 &&& W = 0x48000000000000000000) (hP : 0x1000 &&& P = 0x1000) :
    Law W P s0 (State.sqFlush s n host prod) := by
  unfold State.sqFlush
  try dsimp only
  repeat' first
    | with_reducible assumption
    | with_reducible exact Law.refl _ _ _
    | exact sub_trans rfl hW
    | exact sub_trans rfl hP
    | with_reducible refine State.setFld_law ?_ _ _ ?_
    | with_reducible refine State.countN_law ?_ _ _ ?_
    | with_reducible refine State.setChan_law ?_ _ _  ?_ ?_
    | with_reducible refine State.setOcc_law ?_ _  ?_ ?_
    | exact InMask.mk 75 hW rfl rfl (Reg.PH_SQ_CREDIT_has _)
    | exact InMask.mk 78 hW rfl rfl (Reg.PH_CNT_has_6 _)
    | dsimp only [id]

theorem State.engineTakes_law {W P : Nat} {s0 s : State} (h : Law W P s0 s) (l : Nat) (hW : 0xc8000000000000000000 &&& W = 0xc8000000000000000000) (hP : 0x1000 &&& P = 0x1000) :
    Law W P s0 (State.engineTakes s l) := by
  unfold State.engineTakes
  try dsimp only
  repeat' first
    | with_reducible assumption
    | with_reducible exact Law.refl _ _ _
    | exact sub_trans rfl hW
    | exact sub_trans rfl hP
    | with_reducible refine Law.ite (fun _ => ?_) (fun _ => ?_)
    | with_reducible refine State.setFld_law ?_ _ _ ?_
    | with_reducible refine State.sqFlush_law ?_ _ _ _  ?_ ?_
    | exact InMask.mk 79 hW rfl rfl (Reg.PH_SQ_CFG_has _)
    | split
    | dsimp only [id]

theorem State.engineLeaves_law {W P : Nat} {s0 s : State} (h : Law W P s0 s) (l : Nat) (hW : 0xc8000000000000000000 &&& W = 0xc8000000000000000000) (hP : 0x1000 &&& P = 0x1000) :
    Law W P s0 (State.engineLeaves s l) := by
  unfold State.engineLeaves
  try dsimp only
  repeat' first
    | with_reducible assumption
    | with_reducible exact Law.refl _ _ _
    | exact sub_trans rfl hW
    | exact sub_trans rfl hP
    | with_reducible refine Law.ite (fun _ => ?_) (fun _ => ?_)
    | with_reducible refine State.setFld_law ?_ _ _ ?_
    | with_reducible refine State.sqFlush_law ?_ _ _ _  ?_ ?_
    | exact InMask.mk 79 hW rfl rfl (Reg.PH_SQ_CFG_has _)
    | split
    | dsimp only [id]

theorem State.sqConfig_law {W P : Nat} {s0 s : State} (h : Law W P s0 s) (a : Acc) (n v : Nat) (hE : InMask W (Reg.ERR_STATUS a.base)) (hO : InMask W (Reg.ERR_OFS a.base)) (hW : 0xc8000000000000000012 &&& W = 0xc8000000000000000012) (hP : 0x101004 &&& P = 0x101004) :
    Law W P s0 (State.sqConfig s a n v) := by
  unfold State.sqConfig
  try dsimp only
  repeat' first
    | with_reducible assumption
    | with_reducible exact Law.refl _ _ _
    | exact sub_trans rfl hW
    | exact sub_trans rfl hP
    | exact hE
    | exact hO
    | with_reducible refine Law.ite (fun _ => ?_) (fun _ => ?_)
    | with_reducible refine State.setFld_law ?_ _ _ ?_
    | with_reducible refine State.guard_law ?_ _ _ _ ?_ ?_ (fun _ _ => ?_) ?_ ?_
    | with_reducible refine State.sqFlush_law ?_ _ _ _  ?_ ?_
    | exact InMask.mk 79 hW rfl rfl (Reg.PH_SQ_CFG_has _)
    | split
    | dsimp only [id]

theorem execStampQueueConfig_law {W P : Nat} (s : State) (n : Nat) (v : BitVec 32) (hW : 0x60000000000000000000000000000000000000000000000000000000000000c8000000000000000012 &&& W = 0x60000000000000000000000000000000000000000000000000000000000000c8000000000000000012) (hP : 0x101004 &&& P = 0x101004) :
    OutLaw W P s (execStampQueueConfig n v s) := by
  unfold execStampQueueConfig
  try dsimp only
  repeat' first
    | with_reducible assumption
    | with_reducible exact OutLaw.fault _
    | with_reducible refine OutLaw.ite (fun _ => ?_) (fun _ => ?_)
    | with_reducible refine OutLaw.next ?_
    | with_reducible exact Law.refl _ _ _
    | exact sub_trans rfl hW
    | exact sub_trans rfl hP
    | with_reducible refine Law.ite (fun _ => ?_) (fun _ => ?_)
    | with_reducible refine State.sqConfig_law ?_ _ _ _ ?_ ?_ ?_ ?_
    | exact InMask.mk 325 hW rfl rfl (Reg.ERR_STATUS_has_PH)
    | exact InMask.mk 326 hW rfl rfl (Reg.ERR_OFS_has_PH)
    | split
    | dsimp only [id]

theorem State.sqCredit_law {W P : Nat} {s0 s : State} (h : Law W P s0 s) (a : Acc) (n k : Nat) (back rsv : Bool) (hE : InMask W (Reg.ERR_STATUS a.base)) (hO : InMask W (Reg.ERR_OFS a.base)) (hW : 0x8000000000000000012 &&& W = 0x8000000000000000012) (hP : 0x101004 &&& P = 0x101004) :
    Law W P s0 (State.sqCredit s a n k back rsv) := by
  unfold State.sqCredit
  try dsimp only
  repeat' first
    | with_reducible assumption
    | with_reducible exact Law.refl _ _ _
    | exact sub_trans rfl hW
    | exact sub_trans rfl hP
    | exact hE
    | exact hO
    | with_reducible refine Law.ite (fun _ => ?_) (fun _ => ?_)
    | with_reducible refine State.setFld_law ?_ _ _ ?_
    | with_reducible refine State.guard_law ?_ _ _ _ ?_ ?_ (fun _ _ => ?_) ?_ ?_
    | with_reducible refine State.setChan_law ?_ _ _  ?_ ?_
    | exact InMask.mk 75 hW rfl rfl (Reg.PH_SQ_CREDIT_has _)
    | with_reducible refine Law.of_fst (by assumption) ?_
    | split
    | dsimp only [id]

theorem execStampCreditGrant_law {W P : Nat} (s : State) (n k : Nat) (bar2 : Bool) (hW : 0x6000000000000000000000000000000000000000000000000000000000000008000000000000000012 &&& W = 0x6000000000000000000000000000000000000000000000000000000000000008000000000000000012) (hP : 0x101004 &&& P = 0x101004) :
    OutLaw W P s (execStampCreditGrant n k bar2 s) := by
  unfold execStampCreditGrant
  try dsimp only
  repeat' first
    | with_reducible assumption
    | with_reducible exact OutLaw.fault _
    | with_reducible refine OutLaw.ite (fun _ => ?_) (fun _ => ?_)
    | with_reducible refine OutLaw.next ?_
    | with_reducible exact Law.refl _ _ _
    | exact sub_trans rfl hW
    | exact sub_trans rfl hP
    | with_reducible refine Law.ite (fun _ => ?_) (fun _ => ?_)
    | with_reducible refine State.sqCredit_law ?_ _ _ _ _ _ ?_ ?_ ?_ ?_
    | exact InMask.mk 325 hW rfl rfl (Reg.ERR_STATUS_has_PH)
    | exact InMask.mk 326 hW rfl rfl (Reg.ERR_OFS_has_PH)
    | split
    | dsimp only [id]

theorem execStampCreditRecall_law {W P : Nat} (s : State) (n : Nat) (bar2 : Bool) (hW : 0x6000000000000000000000000000000000000000000000000000000000000008000000000000000012 &&& W = 0x6000000000000000000000000000000000000000000000000000000000000008000000000000000012) (hP : 0x101004 &&& P = 0x101004) :
    OutLaw W P s (execStampCreditRecall n bar2 s) := by
  unfold execStampCreditRecall
  try dsimp only
  repeat' first
    | with_reducible assumption
    | with_reducible exact OutLaw.fault _
    | with_reducible refine OutLaw.ite (fun _ => ?_) (fun _ => ?_)
    | with_reducible refine OutLaw.next ?_
    | with_reducible exact Law.refl _ _ _
    | exact sub_trans rfl hW
    | exact sub_trans rfl hP
    | with_reducible refine Law.ite (fun _ => ?_) (fun _ => ?_)
    | with_reducible refine State.sqCredit_law ?_ _ _ _ _ _ ?_ ?_ ?_ ?_
    | exact InMask.mk 325 hW rfl rfl (Reg.ERR_STATUS_has_PH)
    | exact InMask.mk 326 hW rfl rfl (Reg.ERR_OFS_has_PH)
    | split
    | dsimp only [id]

theorem State.sqPop_law {W P : Nat} {s0 s : State} (h : Law W P s0 s) (a : Acc) (n : Nat) (hE : InMask W (Reg.ERR_STATUS a.base)) (hO : InMask W (Reg.ERR_OFS a.base)) (hW : 0x108000000000000000012 &&& W = 0x108000000000000000012) (hP : 0x101004 &&& P = 0x101004) :
    Law W P s0 (State.sqPop s a n) := by
  unfold State.sqPop
  try dsimp only
  repeat' first
    | with_reducible assumption
    | with_reducible exact Law.refl _ _ _
    | exact sub_trans rfl hW
    | exact sub_trans rfl hP
    | exact hE
    | exact hO
    | with_reducible refine Law.ite (fun _ => ?_) (fun _ => ?_)
    | with_reducible refine State.setFld_law ?_ _ _ ?_
    | with_reducible refine State.satAdd_law ?_ _ _ ?_
    | with_reducible refine State.guard_law ?_ _ _ _ ?_ ?_ (fun _ _ => ?_) ?_ ?_
    | with_reducible refine State.answer_law ?_ _ _ ?_ ?_ ?_ ?_
    | with_reducible refine State.setChan_law ?_ _ _  ?_ ?_
    | with_reducible refine State.setOcc_law ?_ _  ?_ ?_
    | exact InMask.mk 75 hW rfl rfl (Reg.PH_SQ_CREDIT_has _)
    | exact InMask.mk 80 hW rfl rfl (Reg.PH_SQ_POP_has _ _)
    | with_reducible refine Law.foldl _ ?_ (fun _ _ _ => ?_)
    | with_reducible refine Law.foldl_fst _ ?_ (fun _ _ _ _ => ?_)
    | with_reducible refine Law.of_fst (by assumption) ?_
    | split
    | dsimp only [id]

theorem execStampPop_law {W P : Nat} (s : State) (n : Nat) (bar2 : Bool) (hW : 0x6000000000000000000000000000000000000000000000000000000000000108000000000000000012 &&& W = 0x6000000000000000000000000000000000000000000000000000000000000108000000000000000012) (hP : 0x101004 &&& P = 0x101004) :
    OutLaw W P s (execStampPop n bar2 s) := by
  unfold execStampPop
  try dsimp only
  repeat' first
    | with_reducible assumption
    | with_reducible exact OutLaw.fault _
    | with_reducible refine OutLaw.ite (fun _ => ?_) (fun _ => ?_)
    | with_reducible refine OutLaw.next ?_
    | with_reducible exact Law.refl _ _ _
    | exact sub_trans rfl hW
    | exact sub_trans rfl hP
    | with_reducible refine Law.ite (fun _ => ?_) (fun _ => ?_)
    | with_reducible refine State.sqPop_law ?_ _ _ ?_ ?_ ?_ ?_
    | exact InMask.mk 325 hW rfl rfl (Reg.ERR_STATUS_has_PH)
    | exact InMask.mk 326 hW rfl rfl (Reg.ERR_OFS_has_PH)
    | split
    | dsimp only [id]

theorem State.sqPerst_law {W P : Nat} {s0 s : State} (h : Law W P s0 s) (hW : 0x8000000000000000000 &&& W = 0x8000000000000000000) (hP : 0x1000 &&& P = 0x1000) :
    Law W P s0 (State.sqPerst s) := by
  unfold State.sqPerst
  try dsimp only
  repeat' first
    | with_reducible assumption
    | with_reducible exact Law.refl _ _ _
    | exact sub_trans rfl hW
    | exact sub_trans rfl hP
    | with_reducible refine State.setFld_law ?_ _ _ ?_
    | with_reducible refine State.satAdd_law ?_ _ _ ?_
    | with_reducible refine State.setChan_law ?_ _ _  ?_ ?_
    | exact InMask.mk 75 hW rfl rfl (Reg.PH_SQ_CREDIT_has _)
    | with_reducible refine Law.foldl _ ?_ (fun _ _ _ => ?_)
    | with_reducible refine Law.foldl_fst _ ?_ (fun _ _ _ _ => ?_)
    | dsimp only [id]

theorem State.fmSample_law {W P : Nat} {s0 s : State} (h : Law W P s0 s) (n src adv c : Nat) (t : Time16) (hW : 0x0 &&& W = 0x0) (hP : 0x1000 &&& P = 0x1000) :
    Law W P s0 (State.fmSample s n src adv c t) := by
  unfold State.fmSample
  try dsimp only
  repeat' first
    | with_reducible assumption
    | with_reducible exact Law.refl _ _ _
    | exact sub_trans rfl hW
    | exact sub_trans rfl hP
    | with_reducible refine Law.ite (fun _ => ?_) (fun _ => ?_)
    | with_reducible refine Law.of_fst (by assumption) ?_
    | split
    | dsimp only [id]
    | with_reducible refine Law.put ?_ ?_ ?_ ?_ ?_ ?_ ?_ ?_ ?_ ?_ ?_ ?_ ?_ ?_ ?_ ?_ ?_ ?_ ?_ ?_ ?_ ?_
    | with_reducible exact Or.inl rfl
    | exact Or.inr (partIn hP rfl)

theorem State.fmChanged_law {W P : Nat} {s0 s : State} (h : Law W P s0 s) (n : Nat) (hW : 0x0 &&& W = 0x0) (hP : 0x1000 &&& P = 0x1000) :
    Law W P s0 (State.fmChanged s n) := by
  unfold State.fmChanged
  try dsimp only
  repeat' first
    | with_reducible assumption
    | with_reducible exact Law.refl _ _ _
    | exact sub_trans rfl hW
    | exact sub_trans rfl hP
    | with_reducible refine Law.ite (fun _ => ?_) (fun _ => ?_)
    | with_reducible refine Law.of_fst (by assumption) ?_
    | split
    | dsimp only [id]
    | with_reducible refine Law.put ?_ ?_ ?_ ?_ ?_ ?_ ?_ ?_ ?_ ?_ ?_ ?_ ?_ ?_ ?_ ?_ ?_ ?_ ?_ ?_ ?_ ?_
    | with_reducible exact Or.inl rfl
    | exact Or.inr (partIn hP rfl)

theorem State.fmConfig_law {W P : Nat} {s0 s : State} (h : Law W P s0 s) (a : Acc) (e v : Nat) (hE : InMask W (Reg.ERR_STATUS a.base)) (hO : InMask W (Reg.ERR_OFS a.base)) (hW : 0x600000000000000000012 &&& W = 0x600000000000000000012) (hP : 0x101004 &&& P = 0x101004) :
    Law W P s0 (State.fmConfig s a e v) := by
  unfold State.fmConfig
  try dsimp only
  repeat' first
    | with_reducible assumption
    | with_reducible exact Law.refl _ _ _
    | exact sub_trans rfl hW
    | exact sub_trans rfl hP
    | exact hE
    | exact hO
    | with_reducible refine Law.ite (fun _ => ?_) (fun _ => ?_)
    | with_reducible refine State.setFld_law ?_ _ _ ?_
    | with_reducible refine State.guard_law ?_ _ _ _ ?_ ?_ (fun _ _ => ?_) ?_ ?_
    | exact InMask.mk 81 hW rfl rfl (Reg.PH_FM_CFG_has _)
    | exact InMask.mk 82 hW rfl rfl (Reg.PH_FM_STATUS_has _)
    | with_reducible refine Law.of_fst (by assumption) ?_
    | split
    | dsimp only [id]
    | with_reducible refine Law.put ?_ ?_ ?_ ?_ ?_ ?_ ?_ ?_ ?_ ?_ ?_ ?_ ?_ ?_ ?_ ?_ ?_ ?_ ?_ ?_ ?_ ?_
    | with_reducible exact Or.inl rfl
    | exact Or.inr (partIn hP rfl)

theorem execFmStart_law {W P : Nat} (s : State) (e : Nat) (v : BitVec 32) (hW : 0x6000000000000000000000000000000000000000000000000000000000000600000000000000000012 &&& W = 0x6000000000000000000000000000000000000000000000000000000000000600000000000000000012) (hP : 0x101004 &&& P = 0x101004) :
    OutLaw W P s (execFmStart e v s) := by
  unfold execFmStart
  try dsimp only
  repeat' first
    | with_reducible assumption
    | with_reducible exact OutLaw.fault _
    | with_reducible refine OutLaw.ite (fun _ => ?_) (fun _ => ?_)
    | with_reducible refine OutLaw.next ?_
    | with_reducible exact Law.refl _ _ _
    | exact sub_trans rfl hW
    | exact sub_trans rfl hP
    | with_reducible refine Law.ite (fun _ => ?_) (fun _ => ?_)
    | with_reducible refine State.fmConfig_law ?_ _ _ _ ?_ ?_ ?_ ?_
    | exact InMask.mk 325 hW rfl rfl (Reg.ERR_STATUS_has_PH)
    | exact InMask.mk 326 hW rfl rfl (Reg.ERR_OFS_has_PH)
    | split
    | dsimp only [id]

theorem execFmGateClose_law {W P : Nat} (s : State) (e : Nat) (hW : 0x3800000000000000000000000000000000000000000000000000400000000000000000000 &&& W = 0x3800000000000000000000000000000000000000000000000000400000000000000000000) (hP : 0x41000 &&& P = 0x41000) :
    OutLaw W P s (execFmGateClose e s) := by
  unfold execFmGateClose
  try dsimp only
  repeat' first
    | with_reducible assumption
    | with_reducible exact OutLaw.fault _
    | with_reducible refine OutLaw.ite (fun _ => ?_) (fun _ => ?_)
    | with_reducible refine OutLaw.next ?_
    | with_reducible exact Law.refl _ _ _
    | exact sub_trans rfl hW
    | exact sub_trans rfl hP
    | with_reducible refine Law.ite (fun _ => ?_) (fun _ => ?_)
    | with_reducible refine State.setFld_law ?_ _ _ ?_
    | with_reducible refine State.wr_law ?_ _ _ ?_
    | with_reducible refine State.flag_law ?_ _ ?_
    | with_reducible refine State.tookFree_law ?_   ?_ ?_
    | exact InMask.mk 82 hW rfl rfl (Reg.PH_FM_STATUS_has _)
    | exact InMask.mk 287 hW rfl rfl (Reg.PH_FM_N_has _)
    | exact InMask.mk 288 hW rfl rfl (Reg.PH_FM_RES_has _)
    | exact InMask.mk 289 hW rfl rfl (Reg.PH_FM_RMS_has _)
    | with_reducible refine Law.of_fst (by assumption) ?_
    | split
    | dsimp only [id]
    | with_reducible refine Law.put ?_ ?_ ?_ ?_ ?_ ?_ ?_ ?_ ?_ ?_ ?_ ?_ ?_ ?_ ?_ ?_ ?_ ?_ ?_ ?_ ?_ ?_
    | with_reducible exact Or.inl rfl
    | exact Or.inr (partIn hP rfl)

theorem State.slotFor_law {W P : Nat} {s0 s : State} (h : Law W P s0 s) (g u : Nat) (hW : 0x4000000000000000000 &&& W = 0x4000000000000000000) (hP : 0x1000 &&& P = 0x1000) :
    Law W P s0 (State.slotFor s g u) := by
  unfold State.slotFor
  try dsimp only
  repeat' first
    | with_reducible assumption
    | with_reducible exact Law.refl _ _ _
    | exact sub_trans rfl hW
    | exact sub_trans rfl hP
    | with_reducible refine Law.ite (fun _ => ?_) (fun _ => ?_)
    | with_reducible refine State.setFld_law ?_ _ _ ?_
    | with_reducible refine State.setRot_law ?_ _ _  ?_ ?_
    | exact InMask.mk 74 hW rfl rfl (Reg.PH_ROT_STATUS_has _)
    | split
    | dsimp only [id]

theorem State.slotBegin_law {W P : Nat} {s0 s : State} (h : Law W P s0 s) (g : Nat) (hW : 0x4000000000000000000 &&& W = 0x4000000000000000000) (hP : 0x1000 &&& P = 0x1000) :
    Law W P s0 (State.slotBegin s g) := by
  unfold State.slotBegin
  try dsimp only
  repeat' first
    | with_reducible assumption
    | with_reducible exact Law.refl _ _ _
    | exact sub_trans rfl hW
    | exact sub_trans rfl hP
    | with_reducible refine Law.ite (fun _ => ?_) (fun _ => ?_)
    | with_reducible refine State.setFld_law ?_ _ _ ?_
    | with_reducible refine State.setRot_law ?_ _ _  ?_ ?_
    | with_reducible refine State.spareFree_law ?_ _  ?_ ?_
    | with_reducible refine State.slotFor_law ?_ _ _  ?_ ?_
    | exact InMask.mk 74 hW rfl rfl (Reg.PH_ROT_STATUS_has _)
    | with_reducible refine Law.of_fst (by assumption) ?_
    | split
    | dsimp only [id]

theorem execRotationSlotBegin_law {W P : Nat} (s : State) (g : Nat) (hW : 0x4000000000000000000 &&& W = 0x4000000000000000000) (hP : 0x1000 &&& P = 0x1000) :
    OutLaw W P s (execRotationSlotBegin g s) := by
  unfold execRotationSlotBegin
  try dsimp only
  repeat' first
    | with_reducible assumption
    | with_reducible exact OutLaw.fault _
    | with_reducible refine OutLaw.ite (fun _ => ?_) (fun _ => ?_)
    | with_reducible refine OutLaw.next ?_
    | with_reducible exact Law.refl _ _ _
    | exact sub_trans rfl hW
    | exact sub_trans rfl hP
    | with_reducible refine Law.ite (fun _ => ?_) (fun _ => ?_)
    | with_reducible refine State.slotBegin_law ?_ _  ?_ ?_
    | split
    | dsimp only [id]

theorem execTakeoverOverlapEnd_law {W P : Nat} (s : State) (g : Nat) (d : Int) (hW : 0x4000000000000000000000000000000000000000000000000000007000000000000000000 &&& W = 0x4000000000000000000000000000000000000000000000000000007000000000000000000) (hP : 0x1000 &&& P = 0x1000) :
    OutLaw W P s (execTakeoverOverlapEnd g d s) := by
  unfold execTakeoverOverlapEnd
  try dsimp only
  repeat' first
    | with_reducible assumption
    | with_reducible exact OutLaw.fault _
    | with_reducible refine OutLaw.ite (fun _ => ?_) (fun _ => ?_)
    | with_reducible refine OutLaw.next ?_
    | with_reducible exact Law.refl _ _ _
    | exact sub_trans rfl hW
    | exact sub_trans rfl hP
    | with_reducible refine Law.ite (fun _ => ?_) (fun _ => ?_)
    | with_reducible refine State.setFld_law ?_ _ _ ?_
    | with_reducible refine State.count_law ?_ _ ?_
    | with_reducible refine State.flag_law ?_ _ ?_
    | with_reducible refine State.spareFree_law ?_ _  ?_ ?_
    | exact InMask.mk 72 hW rfl rfl (Reg.PH_CH_STATUS_has _)
    | exact InMask.mk 73 hW rfl rfl (Reg.PH_CH_FLAGS_has _)
    | exact InMask.mk 74 hW rfl rfl (Reg.PH_ROT_STATUS_has _)
    | exact InMask.mk 290 hW rfl rfl (Reg.PH_CNT_has_5 _)
    | with_reducible refine Law.of_fst (by assumption) ?_
    | split
    | dsimp only [id]

theorem State.recalFails_law {W P : Nat} {s0 s : State} (h : Law W P s0 s) (g u : Nat) (hW : 0x700000000000000000e &&& W = 0x700000000000000000e) (hP : 0x10100c &&& P = 0x10100c) :
    Law W P s0 (State.recalFails s g u) := by
  unfold State.recalFails
  try dsimp only
  repeat' first
    | with_reducible assumption
    | with_reducible exact Law.refl _ _ _
    | exact sub_trans rfl hW
    | exact sub_trans rfl hP
    | with_reducible refine Law.ite (fun _ => ?_) (fun _ => ?_)
    | with_reducible refine State.setFld_law ?_ _ _ ?_
    | with_reducible refine State.setChan_law ?_ _ _  ?_ ?_
    | with_reducible refine State.setRot_law ?_ _ _  ?_ ?_
    | with_reducible refine State.becomeBad_law ?_ _  ?_ ?_
    | exact InMask.mk 74 hW rfl rfl (Reg.PH_ROT_STATUS_has _)
    | split
    | dsimp only [id]

theorem State.lineariseDone_law {W P : Nat} {s0 s : State} (h : Law W P s0 s) (n : Nat) (h1 h2 : List Nat) (hW : 0x380780000000000000000e &&& W = 0x380780000000000000000e) (hP : 0x14100c &&& P = 0x14100c) :
    Law W P s0 (State.lineariseDone s n h1 h2) := by
  unfold State.lineariseDone
  try dsimp only
  repeat' first
    | with_reducible assumption
    | with_reducible exact Law.refl _ _ _
    | exact sub_trans rfl hW
    | exact sub_trans rfl hP
    | with_reducible refine Law.ite (fun _ => ?_) (fun _ => ?_)
    | with_reducible refine State.setFld_law ?_ _ _ ?_
    | with_reducible refine State.count_law ?_ _ ?_
    | with_reducible refine State.flag_law ?_ _ ?_
    | with_reducible refine State.linearise_law ?_ _ _ _  ?_ ?_
    | with_reducible refine State.becomeBad_law ?_ _  ?_ ?_
    | with_reducible refine State.recalFails_law ?_ _ _  ?_ ?_
    | with_reducible refine State.spareFree_law ?_ _  ?_ ?_
    | exact InMask.mk 72 hW rfl rfl (Reg.PH_CH_STATUS_has _)
    | exact InMask.mk 74 hW rfl rfl (Reg.PH_ROT_STATUS_has _)
    | exact InMask.mk 83 hW rfl rfl (Reg.PH_CNT_has_4 _)
    | exact InMask.mk 84 hW rfl rfl (Reg.PH_CH_FLAGS_has_228)
    | exact InMask.mk 85 hW rfl rfl (Reg.PH_ROT_STATUS_has_4)
    | with_reducible refine Law.of_fst (by assumption) ?_
    | split
    | dsimp only [id]
    | with_reducible refine Law.put ?_ ?_ ?_ ?_ ?_ ?_ ?_ ?_ ?_ ?_ ?_ ?_ ?_ ?_ ?_ ?_ ?_ ?_ ?_ ?_ ?_ ?_
    | with_reducible exact Or.inl rfl
    | exact Or.inr (partIn hP rfl)

theorem execLinearisationDone_law {W P : Nat} (s : State) (n : Nat) (h1 h2 : List Nat) (hW : 0x380780000000000000000e &&& W = 0x380780000000000000000e) (hP : 0x14100c &&& P = 0x14100c) :
    OutLaw W P s (execLinearisationDone n h1 h2 s) := by
  unfold execLinearisationDone
  try dsimp only
  repeat' first
    | with_reducible assumption
    | with_reducible exact OutLaw.fault _
    | with_reducible refine OutLaw.ite (fun _ => ?_) (fun _ => ?_)
    | with_reducible refine OutLaw.next ?_
    | with_reducible exact Law.refl _ _ _
    | exact sub_trans rfl hW
    | exact sub_trans rfl hP
    | with_reducible refine Law.ite (fun _ => ?_) (fun _ => ?_)
    | with_reducible refine State.lineariseDone_law ?_ _ _ _  ?_ ?_
    | split
    | dsimp only [id]

theorem execReconnectOverlapEnd_law {W P : Nat} (s : State) (g : Nat) (d : Int) (hW : 0x80700000000000000000e &&& W = 0x80700000000000000000e) (hP : 0x10100c &&& P = 0x10100c) :
    OutLaw W P s (execReconnectOverlapEnd g d s) := by
  unfold execReconnectOverlapEnd
  try dsimp only
  repeat' first
    | with_reducible assumption
    | with_reducible exact OutLaw.fault _
    | with_reducible refine OutLaw.ite (fun _ => ?_) (fun _ => ?_)
    | with_reducible refine OutLaw.next ?_
    | with_reducible exact Law.refl _ _ _
    | exact sub_trans rfl hW
    | exact sub_trans rfl hP
    | with_reducible refine Law.ite (fun _ => ?_) (fun _ => ?_)
    | with_reducible refine State.setFld_law ?_ _ _ ?_
    | with_reducible refine State.count_law ?_ _ ?_
    | with_reducible refine State.setChan_law ?_ _ _  ?_ ?_
    | with_reducible refine State.spareFree_law ?_ _  ?_ ?_
    | with_reducible refine State.recalFails_law ?_ _ _  ?_ ?_
    | exact InMask.mk 72 hW rfl rfl (Reg.PH_CH_STATUS_has _)
    | exact InMask.mk 83 hW rfl rfl (Reg.PH_CNT_has_4 _)
    | with_reducible refine Law.of_fst (by assumption) ?_
    | split
    | dsimp only [id]

theorem execSkewMeasurement_law {W P : Nat} (s : State) (sl : Nat) (skew : BitVec 32) (hW : 0x8000000000000000000000000000000000000000000000000000000000000000000000000 &&& W = 0x8000000000000000000000000000000000000000000000000000000000000000000000000) (hP : 0x1001 &&& P = 0x1001) :
    OutLaw W P s (execSkewMeasurement sl skew s) := by
  unfold execSkewMeasurement
  try dsimp only
  repeat' first
    | with_reducible assumption
    | with_reducible exact OutLaw.fault _
    | with_reducible refine OutLaw.ite (fun _ => ?_) (fun _ => ?_)
    | with_reducible refine OutLaw.next ?_
    | with_reducible exact Law.refl _ _ _
    | exact sub_trans rfl hW
    | exact sub_trans rfl hP
    | with_reducible refine Law.ite (fun _ => ?_) (fun _ => ?_)
    | with_reducible refine State.setFld_law ?_ _ _ ?_
    | with_reducible refine State.setRot_law ?_ _ _  ?_ ?_
    | exact InMask.mk 291 hW rfl rfl (Reg.PH_SKEW_has _)
    | split
    | dsimp only [id]
    | with_reducible refine Law.put ?_ ?_ ?_ ?_ ?_ ?_ ?_ ?_ ?_ ?_ ?_ ?_ ?_ ?_ ?_ ?_ ?_ ?_ ?_ ?_ ?_ ?_
    | with_reducible exact Or.inl rfl
    | exact Or.inr (partIn hP rfl)

theorem execDllErrorPersist_law {W P : Nat} (s : State) (n dll : Nat) (hW : 0x780000000000000000e &&& W = 0x780000000000000000e) (hP : 0x10100c &&& P = 0x10100c) :
    OutLaw W P s (execDllErrorPersist n dll s) := by
  unfold execDllErrorPersist
  try dsimp only
  repeat' first
    | with_reducible assumption
    | with_reducible exact OutLaw.fault _
    | with_reducible refine OutLaw.ite (fun _ => ?_) (fun _ => ?_)
    | with_reducible refine OutLaw.next ?_
    | with_reducible exact Law.refl _ _ _
    | exact sub_trans rfl hW
    | exact sub_trans rfl hP
    | with_reducible refine Law.ite (fun _ => ?_) (fun _ => ?_)
    | with_reducible refine State.setFld_law ?_ _ _ ?_
    | with_reducible refine State.flag_law ?_ _ ?_
    | with_reducible refine State.becomeBad_law ?_ _  ?_ ?_
    | exact InMask.mk 71 hW rfl rfl (Reg.PH_CH_QUAL_has _)
    | exact InMask.mk 73 hW rfl rfl (Reg.PH_CH_FLAGS_has _)
    | split
    | dsimp only [id]

theorem State.recal_law {W P : Nat} {s0 s : State} (h : Law W P s0 s) (a : Acc) (n : Nat) (rsv : Bool) (hE : InMask W (Reg.ERR_STATUS a.base)) (hO : InMask W (Reg.ERR_OFS a.base)) (hW : 0x12 &&& W = 0x12) (hP : 0x101004 &&& P = 0x101004) :
    Law W P s0 (State.recal s a n rsv) := by
  unfold State.recal
  try dsimp only
  repeat' first
    | with_reducible assumption
    | with_reducible exact Law.refl _ _ _
    | exact sub_trans rfl hW
    | exact sub_trans rfl hP
    | exact hE
    | exact hO
    | with_reducible refine State.guard_law ?_ _ _ _ ?_ ?_ (fun _ _ => ?_) ?_ ?_
    | with_reducible refine State.setRot_law ?_ _ _  ?_ ?_
    | dsimp only [id]

theorem execRecalRequest_law {W P : Nat} (s : State) (n : Nat) (hW : 0x6000000000000000000000000000000000000000000000000000000000000000000000000000000012 &&& W = 0x6000000000000000000000000000000000000000000000000000000000000000000000000000000012) (hP : 0x101004 &&& P = 0x101004) :
    OutLaw W P s (execRecalRequest n s) := by
  unfold execRecalRequest
  try dsimp only
  repeat' first
    | with_reducible assumption
    | with_reducible exact OutLaw.fault _
    | with_reducible refine OutLaw.ite (fun _ => ?_) (fun _ => ?_)
    | with_reducible refine OutLaw.next ?_
    | with_reducible exact Law.refl _ _ _
    | exact sub_trans rfl hW
    | exact sub_trans rfl hP
    | with_reducible refine Law.ite (fun _ => ?_) (fun _ => ?_)
    | with_reducible refine State.recal_law ?_ _ _ _ ?_ ?_ ?_ ?_
    | exact InMask.mk 325 hW rfl rfl (Reg.ERR_STATUS_has_PH)
    | exact InMask.mk 326 hW rfl rfl (Reg.ERR_OFS_has_PH)
    | split
    | dsimp only [id]

theorem State.wordClock_law {W P : Nat} {s0 s : State} (h : Law W P s0 s) (n : Nat) (tx : Bool) (ui tap : Nat) (hW : 0x3a000000000000000010 &&& W = 0x3a000000000000000010) (hP : 0x1000 &&& P = 0x1000) :
    Law W P s0 (State.wordClock s n tx ui tap) := by
  unfold State.wordClock
  try dsimp only
  repeat' first
    | with_reducible assumption
    | with_reducible exact Law.refl _ _ _
    | exact sub_trans rfl hW
    | exact sub_trans rfl hP
    | with_reducible refine Law.ite (fun _ => ?_) (fun _ => ?_)
    | with_reducible refine State.setChan_law ?_ _ _  ?_ ?_
    | with_reducible refine State.fmSample_law ?_ _ _ _ _ _  ?_ ?_
    | with_reducible refine State.stampEvent_law ?_ _ _ _ _ _ _  ?_ ?_
    | split
    | dsimp only [id]

theorem execWordClockSample_law {W P : Nat} (s : State) (n : Nat) (tx : Bool) (ui tap : Nat) (hW : 0x3a000000000000000010 &&& W = 0x3a000000000000000010) (hP : 0x1000 &&& P = 0x1000) :
    OutLaw W P s (execWordClockSample n tx ui tap s) := by
  unfold execWordClockSample
  try dsimp only
  repeat' first
    | with_reducible assumption
    | with_reducible exact OutLaw.fault _
    | with_reducible refine OutLaw.ite (fun _ => ?_) (fun _ => ?_)
    | with_reducible refine OutLaw.next ?_
    | with_reducible exact Law.refl _ _ _
    | exact sub_trans rfl hW
    | exact sub_trans rfl hP
    | with_reducible refine Law.ite (fun _ => ?_) (fun _ => ?_)
    | with_reducible refine State.wordClock_law ?_ _ _ _ _  ?_ ?_
    | split
    | dsimp only [id]

theorem State.evtQualified_law {W P : Nat} {s0 s : State} (h : Law W P s0 s) (n : Nat) (p : PhPend) (hW : 0xc03a0000000000003fffde &&& W = 0xc03a0000000000003fffde) (hP : 0x10188c &&& P = 0x10188c) :
    Law W P s0 (State.evtQualified s n p) := by
  unfold State.evtQualified
  try dsimp only
  repeat' first
    | with_reducible assumption
    | with_reducible exact Law.refl _ _ _
    | exact sub_trans rfl hW
    | exact sub_trans rfl hP
    | with_reducible refine Law.ite (fun _ => ?_) (fun _ => ?_)
    | with_reducible refine State.setFldBit_law ?_ _ _ _ ?_
    | with_reducible refine State.count_law ?_ _ ?_
    | with_reducible refine State.fmSample_law ?_ _ _ _ _ _  ?_ ?_
    | with_reducible refine State.offerTrigger_law ?_ _ _ _  ?_ ?_
    | with_reducible refine State.setChan_law ?_ _ _  ?_ ?_
    | with_reducible refine State.stampEvent_law ?_ _ _ _ _ _ _  ?_ ?_
    | exact InMask.mk 86 hW rfl rfl (Reg.PIN_EVT_LEVEL_has)
    | exact InMask.mk 87 hW rfl rfl (Reg.PH_CNT_has_3 _)
    | with_reducible refine Law.of_fst (by assumption) ?_
    | split
    | dsimp only [id]

theorem State.evtTransition_law {W P : Nat} {s0 s : State} (h : Law W P s0 s) (n : Nat) (level : Bool) (tap : Nat) (hW : 0x1c03a0000000000003fffde &&& W = 0x1c03a0000000000003fffde) (hP : 0x10188c &&& P = 0x10188c) :
    Law W P s0 (State.evtTransition s n level tap) := by
  unfold State.evtTransition
  try dsimp only
  repeat' first
    | with_reducible assumption
    | with_reducible exact Law.refl _ _ _
    | exact sub_trans rfl hW
    | exact sub_trans rfl hP
    | with_reducible refine Law.ite (fun _ => ?_) (fun _ => ?_)
    | with_reducible refine State.setFldBit_law ?_ _ _ _ ?_
    | with_reducible refine State.count_law ?_ _ ?_
    | with_reducible refine State.flag_law ?_ _ ?_
    | with_reducible refine State.setChan_law ?_ _ _  ?_ ?_
    | with_reducible refine State.evtQualified_law ?_ _ _  ?_ ?_
    | exact InMask.mk 73 hW rfl rfl (Reg.PH_CH_FLAGS_has _)
    | exact InMask.mk 86 hW rfl rfl (Reg.PIN_EVT_LEVEL_has)
    | exact InMask.mk 88 hW rfl rfl (Reg.PH_CNT_has_2 _)
    | split
    | dsimp only [id]

theorem execEventInputTransition_law {W P : Nat} (s : State) (n : Nat) (level : Bool) (tap : Nat) (hW : 0x1c03a0000000000003fffde &&& W = 0x1c03a0000000000003fffde) (hP : 0x10188c &&& P = 0x10188c) :
    OutLaw W P s (execEventInputTransition n level tap s) := by
  unfold execEventInputTransition
  try dsimp only
  repeat' first
    | with_reducible assumption
    | with_reducible exact OutLaw.fault _
    | with_reducible refine OutLaw.ite (fun _ => ?_) (fun _ => ?_)
    | with_reducible refine OutLaw.next ?_
    | with_reducible exact Law.refl _ _ _
    | exact sub_trans rfl hW
    | exact sub_trans rfl hP
    | with_reducible refine Law.ite (fun _ => ?_) (fun _ => ?_)
    | with_reducible refine State.evtTransition_law ?_ _ _ _  ?_ ?_
    | split
    | dsimp only [id]

theorem execGlitchFilterExpiry_law {W P : Nat} (s : State) (n : Nat) (hW : 0xc03a0000000000003fffde &&& W = 0xc03a0000000000003fffde) (hP : 0x10188c &&& P = 0x10188c) :
    OutLaw W P s (execGlitchFilterExpiry n s) := by
  unfold execGlitchFilterExpiry
  try dsimp only
  repeat' first
    | with_reducible assumption
    | with_reducible exact OutLaw.fault _
    | with_reducible refine OutLaw.ite (fun _ => ?_) (fun _ => ?_)
    | with_reducible refine OutLaw.next ?_
    | with_reducible exact Law.refl _ _ _
    | exact sub_trans rfl hW
    | exact sub_trans rfl hP
    | with_reducible refine Law.ite (fun _ => ?_) (fun _ => ?_)
    | with_reducible refine State.setChan_law ?_ _ _  ?_ ?_
    | with_reducible refine State.evtQualified_law ?_ _ _  ?_ ?_
    | with_reducible refine Law.of_fst (by assumption) ?_
    | split
    | dsimp only [id]

end Sys2Proof.Machine
end

