-- ==== Sys2Proof/Laws/LawPins.lean ====
section
/-! SUPPORT. The law of every operation of Machine/Pins.lean: what it may change (Laws/Law.lean). -/

set_option linter.all false

namespace Sys2Proof.Machine

theorem State.evtConfig_law {W P : Nat} {s0 s : State} (h : Law W P s0 s) (a : Acc) (n v : Nat) (hE : InMask W (Reg.ERR_STATUS a.base)) (hO : InMask W (Reg.ERR_OFS a.base)) (hW : 0x20000000000000000000012 &&& W = 0x20000000000000000000012) (hP : 0x101004 &&& P = 0x101004) :
    Law W P s0 (State.evtConfig s a n v) := by
  unfold State.evtConfig
  try dsimp only
  repeat' first
    | with_reducible assumption
    | with_reducible exact Law.refl _ _ _
    | exact sub_trans rfl hW
    | exact sub_trans rfl hP
    | exact hE
    | exact hO
    | with_reducible refine Law.ite (fun _ => ?_) (fun _ => ?_)
    | with_reducible refine State.setFld_law ?_ _ _ ?_
    | with_reducible refine State.guard_law ?_ _ _ _ ?_ ?_ (fun _ _ => ?_) ?_ ?_
    | with_reducible refine State.setChan_law ?_ _ _  ?_ ?_
    | with_reducible refine State.fmChanged_law ?_ _  ?_ ?_
    | exact InMask.mk 89 hW rfl rfl (Reg.PIN_EVT_CFG_has _)
    | split
    | dsimp only [id]

theorem State.plsWrite_law {W P : Nat} {s0 s : State} (h : Law W P s0 s) (a : Acc) (n ofs v : Nat) (live : Bool) (bad : List (Bool × Nat)) (hE : InMask W (Reg.ERR_STATUS a.base)) (hO : InMask W (Reg.ERR_OFS a.base)) (ha : InMask W ofs) (hW : 0x12 &&& W = 0x12) (hP : 0x100004 &&& P = 0x100004) :
    Law W P s0 (State.plsWrite s a n ofs v live bad) := by
  unfold State.plsWrite
  try dsimp only
  repeat' first
    | with_reducible assumption
    | with_reducible exact Law.refl _ _ _
    | exact sub_trans rfl hW
    | exact sub_trans rfl hP
    | exact hE
    | exact hO
    | exact ha
    | with_reducible refine State.wr_law ?_ _ _ ?_
    | with_reducible refine State.guard_law ?_ _ _ _ ?_ ?_ (fun _ _ => ?_) ?_ ?_
    | dsimp only [id]

theorem State.plsEndProg_law {W P : Nat} {s0 s : State} (h : Law W P s0 s) (n : Nat) (hW : 0x40000000000000000000000 &&& W = 0x40000000000000000000000) (hP : 0x1000 &&& P = 0x1000) :
    Law W P s0 (State.plsEndProg s n) := by
  unfold State.plsEndProg
  try dsimp only
  repeat' first
    | with_reducible assumption
    | with_reducible exact Law.refl _ _ _
    | exact sub_trans rfl hW
    | exact sub_trans rfl hP
    | with_reducible refine State.setFld_law ?_ _ _ ?_
    | with_reducible refine State.flag_law ?_ _ ?_
    | exact InMask.mk 90 hW rfl rfl (Reg.PIN_PLS_STATUS_has _)
    | dsimp only [id]
    | with_reducible refine Law.put ?_ ?_ ?_ ?_ ?_ ?_ ?_ ?_ ?_ ?_ ?_ ?_ ?_ ?_ ?_ ?_ ?_ ?_ ?_ ?_ ?_ ?_
    | with_reducible exact Or.inl rfl
    | exact Or.inr (partIn hP rfl)

theorem State.setPls_law {W P : Nat} {s0 s : State} (h : Law W P s0 s) (n : Nat) (p : PlsProg) (hW : 0x0 &&& W = 0x0) (hP : 0x1000 &&& P = 0x1000) :
    Law W P s0 (State.setPls s n p) := by
  unfold State.setPls
  try dsimp only
  repeat' first
    | with_reducible assumption
    | with_reducible exact Law.refl _ _ _
    | exact sub_trans rfl hW
    | exact sub_trans rfl hP
    | dsimp only [id]
    | with_reducible refine Law.put ?_ ?_ ?_ ?_ ?_ ?_ ?_ ?_ ?_ ?_ ?_ ?_ ?_ ?_ ?_ ?_ ?_ ?_ ?_ ?_ ?_ ?_
    | with_reducible exact Or.inl rfl
    | exact Or.inr (partIn hP rfl)

theorem State.plsArm_law {W P : Nat} {s0 s : State} (h : Law W P s0 s) (a : Acc) (n : Nat) (hE : InMask W (Reg.ERR_STATUS a.base)) (hO : InMask W (Reg.ERR_OFS a.base)) (hW : 0x40000000000000000000012 &&& W = 0x40000000000000000000012) (hP : 0x101004 &&& P = 0x101004) :
    Law W P s0 (State.plsArm s a n) := by
  unfold State.plsArm
  try dsimp only
  repeat' first
    | with_reducible assumption
    | with_reducible exact Law.refl _ _ _
    | exact sub_trans rfl hW
    | exact sub_trans rfl hP
    | exact hE
    | exact hO
    | with_reducible refine State.setFld_law ?_ _ _ ?_
    | with_reducible refine State.guard_law ?_ _ _ _ ?_ ?_ (fun _ _ => ?_) ?_ ?_
    | with_reducible refine State.setPls_law ?_ _ _  ?_ ?_
    | exact InMask.mk 90 hW rfl rfl (Reg.PIN_PLS_STATUS_has _)
    | dsimp only [id]

theorem execPulseArm_law {W P : Nat} (s : State) (n : Nat) (hW : 0x18000000000000000000000000000000000000000000000000000000000040000000000000000000012 &&& W = 0x18000000000000000000000000000000000000000000000000000000000040000000000000000000012) (hP : 0x101004 &&& P = 0x101004) :
    OutLaw W P s (execPulseArm n s) := by
  unfold execPulseArm
  try dsimp only
  repeat' first
    | with_reducible assumption
    | with_reducible exact OutLaw.fault _
    | with_reducible refine OutLaw.ite (fun _ => ?_) (fun _ => ?_)
    | with_reducible refine OutLaw.next ?_
    | with_reducible exact Law.refl _ _ _
    | exact sub_trans rfl hW
    | exact sub_trans rfl hP
    | with_reducible refine Law.ite (fun _ => ?_) (fun _ => ?_)
    | with_reducible refine State.plsArm_law ?_ _ _ ?_ ?_ ?_ ?_
    | exact InMask.mk 327 hW rfl rfl (Reg.ERR_STATUS_has_PIN)
    | exact InMask.mk 328 hW rfl rfl (Reg.ERR_OFS_has_PIN)
    | split
    | dsimp only [id]

theorem State.plsStop_law {W P : Nat} {s0 s : State} (h : Law W P s0 s) (a : Acc) (n : Nat) (hE : InMask W (Reg.ERR_STATUS a.base)) (hO : InMask W (Reg.ERR_OFS a.base)) (hW : 0x40000000000000000000012 &&& W = 0x40000000000000000000012) (hP : 0x101004 &&& P = 0x101004) :
    Law W P s0 (State.plsStop s a n) := by
  unfold State.plsStop
  try dsimp only
  repeat' first
    | with_reducible assumption
    | with_reducible exact Law.refl _ _ _
    | exact sub_trans rfl hW
    | exact sub_trans rfl hP
    | exact hE
    | exact hO
    | with_reducible refine Law.ite (fun _ => ?_) (fun _ => ?_)
    | with_reducible refine State.guard_law ?_ _ _ _ ?_ ?_ (fun _ _ => ?_) ?_ ?_
    | with_reducible refine State.setPls_law ?_ _ _  ?_ ?_
    | with_reducible refine State.plsEndProg_law ?_ _  ?_ ?_
    | with_reducible refine Law.of_fst (by assumption) ?_
    | split
    | dsimp only [id]

theorem execPulseStop_law {W P : Nat} (s : State) (n : Nat) (hW : 0x18000000000000000000000000000000000000000000000000000000000040000000000000000000012 &&& W = 0x18000000000000000000000000000000000000000000000000000000000040000000000000000000012) (hP : 0x101004 &&& P = 0x101004) :
    OutLaw W P s (execPulseStop n s) := by
  unfold execPulseStop
  try dsimp only
  repeat' first
    | with_reducible assumption
    | with_reducible exact OutLaw.fault _
    | with_reducible refine OutLaw.ite (fun _ => ?_) (fun _ => ?_)
    | with_reducible refine OutLaw.next ?_
    | with_reducible exact Law.refl _ _ _
    | exact sub_trans rfl hW
    | exact sub_trans rfl hP
    | with_reducible refine Law.ite (fun _ => ?_) (fun _ => ?_)
    | with_reducible refine State.plsStop_law ?_ _ _ ?_ ?_ ?_ ?_
    | exact InMask.mk 327 hW rfl rfl (Reg.ERR_STATUS_has_PIN)
    | exact InMask.mk 328 hW rfl rfl (Reg.ERR_OFS_has_PIN)
    | split
    | dsimp only [id]

theorem State.plsCtrl_law {W P : Nat} {s0 s : State} (h : Law W P s0 s) (a : Acc) (n v : Nat) (hE : InMask W (Reg.ERR_STATUS a.base)) (hO : InMask W (Reg.ERR_OFS a.base)) (hW : 0x40000000000000000000012 &&& W = 0x40000000000000000000012) (hP : 0x101004 &&& P = 0x101004) :
    Law W P s0 (State.plsCtrl s a n v) := by
  unfold State.plsCtrl
  try dsimp only
  repeat' first
    | with_reducible assumption
    | with_reducible exact Law.refl _ _ _
    | exact sub_trans rfl hW
    | exact sub_trans rfl hP
    | exact hE
    | exact hO
    | with_reducible refine Law.ite (fun _ => ?_) (fun _ => ?_)
    | with_reducible refine State.guard_law ?_ _ _ _ ?_ ?_ (fun _ _ => ?_) ?_ ?_
    | with_reducible refine State.plsArm_law ?_ _ _ ?_ ?_ ?_ ?_
    | with_reducible refine State.plsStop_law ?_ _ _ ?_ ?_ ?_ ?_
    | split
    | dsimp only [id]

theorem State.plsFire_law {W P : Nat} {s0 s : State} (h : Law W P s0 s) (n : Nat) (level : Bool) (t : Time16) (fine : Int) (tap : Nat) (hW : 0x0 &&& W = 0x0) (hP : 0x141000 &&& P = 0x141000) :
    Law W P s0 (State.plsFire s n level t fine tap) := by
  unfold State.plsFire
  try dsimp only
  repeat' first
    | with_reducible assumption
    | with_reducible exact Law.refl _ _ _
    | exact sub_trans rfl hW
    | exact sub_trans rfl hP
    | with_reducible refine Law.ite (fun _ => ?_) (fun _ => ?_)
    | with_reducible refine State.emit_law ?_ _  ?_ ?_
    | with_reducible refine State.tookFree_law ?_   ?_ ?_
    | with_reducible refine Law.of_fst (by assumption) ?_
    | split
    | dsimp only [id]
    | with_reducible refine Law.put ?_ ?_ ?_ ?_ ?_ ?_ ?_ ?_ ?_ ?_ ?_ ?_ ?_ ?_ ?_ ?_ ?_ ?_ ?_ ?_ ?_ ?_
    | with_reducible exact Or.inl rfl
    | exact Or.inr (partIn hP rfl)

theorem State.plsEdge_law {W P : Nat} {s0 s : State} (h : Law W P s0 s) (n : Nat) (p : PlsProg) (hW : 0xc0000000000000000000000 &&& W = 0xc0000000000000000000000) (hP : 0x141000 &&& P = 0x141000) :
    Law W P s0 (State.plsEdge s n p) := by
  unfold State.plsEdge
  try dsimp only
  repeat' first
    | with_reducible assumption
    | with_reducible exact Law.refl _ _ _
    | exact sub_trans rfl hW
    | exact sub_trans rfl hP
    | with_reducible refine Law.ite (fun _ => ?_) (fun _ => ?_)
    | with_reducible refine State.setFld_law ?_ _ _ ?_
    | with_reducible refine State.count_law ?_ _ ?_
    | with_reducible refine State.plsFire_law ?_ _ _ _ _ _  ?_ ?_
    | with_reducible refine State.plsEndProg_law ?_ _  ?_ ?_
    | with_reducible refine State.setPls_law ?_ _ _  ?_ ?_
    | exact InMask.mk 90 hW rfl rfl (Reg.PIN_PLS_STATUS_has _)
    | exact InMask.mk 91 hW rfl rfl (Reg.PIN_PLS_CNT_has _)
    | with_reducible refine Law.of_fst (by assumption) ?_
    | split
    | dsimp only [id]

theorem execPulseEdge_law {W P : Nat} (s : State) (n : Nat) (hW : 0xc0000000000000000000000 &&& W = 0xc0000000000000000000000) (hP : 0x141000 &&& P = 0x141000) :
    OutLaw W P s (execPulseEdge n s) := by
  unfold execPulseEdge
  try dsimp only
  repeat' first
    | with_reducible assumption
    | with_reducible exact OutLaw.fault _
    | with_reducible refine OutLaw.ite (fun _ => ?_) (fun _ => ?_)
    | with_reducible refine OutLaw.next ?_
    | with_reducible exact Law.refl _ _ _
    | exact sub_trans rfl hW
    | exact sub_trans rfl hP
    | with_reducible refine Law.ite (fun _ => ?_) (fun _ => ?_)
    | with_reducible refine State.plsEdge_law ?_ _ _  ?_ ?_
    | with_reducible refine Law.of_fst (by assumption) ?_
    | split
    | dsimp only [id]

theorem execLeadHandover_law {W P : Nat} (s : State)  (hW : 0x180000000 &&& W = 0x180000000) (hP : 0x100 &&& P = 0x100) :
    OutLaw W P s (execLeadHandover s) := by
  unfold execLeadHandover
  try dsimp only
  repeat' first
    | with_reducible assumption
    | with_reducible exact OutLaw.fault _
    | with_reducible refine OutLaw.ite (fun _ => ?_) (fun _ => ?_)
    | with_reducible refine OutLaw.next ?_
    | with_reducible exact Law.refl _ _ _
    | exact sub_trans rfl hW
    | exact sub_trans rfl hP
    | with_reducible refine Law.ite (fun _ => ?_) (fun _ => ?_)
    | with_reducible refine State.handover_law ?_   ?_ ?_
    | split
    | dsimp only [id]

theorem State.clkRetune_law {W P : Nat} {s0 s : State} (h : Law W P s0 s) (k : Nat) (hW : 0x100000000000000000000000 &&& W = 0x100000000000000000000000) (hP : 0x0 &&& P = 0x0) :
    Law W P s0 (State.clkRetune s k) := by
  unfold State.clkRetune
  try dsimp only
  repeat' first
    | with_reducible assumption
    | with_reducible exact Law.refl _ _ _
    | exact sub_trans rfl hW
    | exact sub_trans rfl hP
    | with_reducible refine State.setFld_law ?_ _ _ ?_
    | exact InMask.mk 92 hW rfl rfl (Reg.PIN_CLK_STATUS_has _)
    | dsimp only [id]

theorem State.clkEnable_law {W P : Nat} {s0 s : State} (h : Law W P s0 s) (a : Acc) (k v : Nat) (hE : InMask W (Reg.ERR_STATUS a.base)) (hO : InMask W (Reg.ERR_OFS a.base)) (hW : 0x300000000000000000000012 &&& W = 0x300000000000000000000012) (hP : 0x100004 &&& P = 0x100004) :
    Law W P s0 (State.clkEnable s a k v) := by
  unfold State.clkEnable
  try dsimp only
  repeat' first
    | with_reducible assumption
    | with_reducible exact Law.refl _ _ _
    | exact sub_trans rfl hW
    | exact sub_trans rfl hP
    | exact hE
    | exact hO
    | with_reducible refine Law.ite (fun _ => ?_) (fun _ => ?_)
    | with_reducible refine State.setFld_law ?_ _ _ ?_
    | with_reducible refine State.guard_law ?_ _ _ _ ?_ ?_ (fun _ _ => ?_) ?_ ?_
    | with_reducible refine State.clkRetune_law ?_ _  ?_ ?_
    | exact InMask.mk 92 hW rfl rfl (Reg.PIN_CLK_STATUS_has _)
    | exact InMask.mk 93 hW rfl rfl (Reg.PIN_CLK_CTRL_has _)
    | split
    | dsimp only [id]

theorem execClockOutEnable_law {W P : Nat} (s : State) (k : Nat) (en : Bool) (hW : 0x18000000000000000000000000000000000000000000000000000000000300000000000000000000012 &&& W = 0x18000000000000000000000000000000000000000000000000000000000300000000000000000000012) (hP : 0x100004 &&& P = 0x100004) :
    OutLaw W P s (execClockOutEnable k en s) := by
  unfold execClockOutEnable
  try dsimp only
  repeat' first
    | with_reducible assumption
    | with_reducible exact OutLaw.fault _
    | with_reducible refine OutLaw.ite (fun _ => ?_) (fun _ => ?_)
    | with_reducible refine OutLaw.next ?_
    | with_reducible exact Law.refl _ _ _
    | exact sub_trans rfl hW
    | exact sub_trans rfl hP
    | with_reducible refine Law.ite (fun _ => ?_) (fun _ => ?_)
    | with_reducible refine State.clkEnable_law ?_ _ _ _ ?_ ?_ ?_ ?_
    | exact InMask.mk 327 hW rfl rfl (Reg.ERR_STATUS_has_PIN)
    | exact InMask.mk 328 hW rfl rfl (Reg.ERR_OFS_has_PIN)
    | split
    | dsimp only [id]

theorem State.clkFreq_law {W P : Nat} {s0 s : State} (h : Law W P s0 s) (a : Acc) (k hz : Nat) (hE : InMask W (Reg.ERR_STATUS a.base)) (hO : InMask W (Reg.ERR_OFS a.base)) (hW : 0x500000000000000000000012 &&& W = 0x500000000000000000000012) (hP : 0x100004 &&& P = 0x100004) :
    Law W P s0 (State.clkFreq s a k hz) := by
  unfold State.clkFreq
  try dsimp only
  repeat' first
    | with_reducible assumption
    | with_reducible exact Law.refl _ _ _
    | exact sub_trans rfl hW
    | exact sub_trans rfl hP
    | exact hE
    | exact hO
    | with_reducible refine Law.ite (fun _ => ?_) (fun _ => ?_)
    | with_reducible refine State.setFld_law ?_ _ _ ?_
    | with_reducible refine State.guard_law ?_ _ _ _ ?_ ?_ (fun _ _ => ?_) ?_ ?_
    | with_reducible refine State.clkRetune_law ?_ _  ?_ ?_
    | exact InMask.mk 94 hW rfl rfl (Reg.PIN_CLK_FREQ_has _)
    | split
    | dsimp only [id]

theorem execClockOutFreqWrite_law {W P : Nat} (s : State) (k : Nat) (hz : BitVec 32) (hW : 0x18000000000000000000000000000000000000000000000000000000000500000000000000000000012 &&& W = 0x18000000000000000000000000000000000000000000000000000000000500000000000000000000012) (hP : 0x100004 &&& P = 0x100004) :
    OutLaw W P s (execClockOutFreqWrite k hz s) := by
  unfold execClockOutFreqWrite
  try dsimp only
  repeat' first
    | with_reducible assumption
    | with_reducible exact OutLaw.fault _
    | with_reducible refine OutLaw.ite (fun _ => ?_) (fun _ => ?_)
    | with_reducible refine OutLaw.next ?_
    | with_reducible exact Law.refl _ _ _
    | exact sub_trans rfl hW
    | exact sub_trans rfl hP
    | with_reducible refine Law.ite (fun _ => ?_) (fun _ => ?_)
    | with_reducible refine State.clkFreq_law ?_ _ _ _ ?_ ?_ ?_ ?_
    | exact InMask.mk 327 hW rfl rfl (Reg.ERR_STATUS_has_PIN)
    | exact InMask.mk 328 hW rfl rfl (Reg.ERR_OFS_has_PIN)
    | split
    | dsimp only [id]

theorem execClockPllLock_law {W P : Nat} (s : State) (k : Nat) (hW : 0x100000000000000000000000 &&& W = 0x100000000000000000000000) (hP : 0x0 &&& P = 0x0) :
    OutLaw W P s (execClockPllLock k s) := by
  unfold execClockPllLock
  try dsimp only
  repeat' first
    | with_reducible assumption
    | with_reducible exact OutLaw.fault _
    | with_reducible refine OutLaw.ite (fun _ => ?_) (fun _ => ?_)
    | with_reducible refine OutLaw.next ?_
    | with_reducible exact Law.refl _ _ _
    | exact sub_trans rfl hW
    | exact sub_trans rfl hP
    | with_reducible refine Law.ite (fun _ => ?_) (fun _ => ?_)
    | with_reducible refine State.setFld_law ?_ _ _ ?_
    | exact InMask.mk 92 hW rfl rfl (Reg.PIN_CLK_STATUS_has _)
    | split
    | dsimp only [id]

theorem execClockPllLol_law {W P : Nat} (s : State) (k : Nat) (hW : 0x10000000000000000000000000000000000000000000000000100000000000000000000000 &&& W = 0x10000000000000000000000000000000000000000000000000100000000000000000000000) (hP : 0x0 &&& P = 0x0) :
    OutLaw W P s (execClockPllLol k s) := by
  unfold execClockPllLol
  try dsimp only
  repeat' first
    | with_reducible assumption
    | with_reducible exact OutLaw.fault _
    | with_reducible refine OutLaw.ite (fun _ => ?_) (fun _ => ?_)
    | with_reducible refine OutLaw.next ?_
    | with_reducible exact Law.refl _ _ _
    | exact sub_trans rfl hW
    | exact sub_trans rfl hP
    | with_reducible refine Law.ite (fun _ => ?_) (fun _ => ?_)
    | with_reducible refine State.setFld_law ?_ _ _ ?_
    | with_reducible refine State.flagBit_law ?_ _ _ ?_
    | exact InMask.mk 92 hW rfl rfl (Reg.PIN_CLK_STATUS_has _)
    | exact InMask.mk 292 hW rfl rfl (Reg.PIN_CLK_FLAGS_has)
    | split
    | dsimp only [id]

theorem execClockRefLoss_law {W P : Nat} (s : State) (k : Nat) (hW : 0x10000000000000000000000000000000000000000000000000000000000000000000000000 &&& W = 0x10000000000000000000000000000000000000000000000000000000000000000000000000) (hP : 0x0 &&& P = 0x0) :
    OutLaw W P s (execClockRefLoss k s) := by
  unfold execClockRefLoss
  try dsimp only
  repeat' first
    | with_reducible assumption
    | with_reducible exact OutLaw.fault _
    | with_reducible refine OutLaw.ite (fun _ => ?_) (fun _ => ?_)
    | with_reducible refine OutLaw.next ?_
    | with_reducible exact Law.refl _ _ _
    | exact sub_trans rfl hW
    | exact sub_trans rfl hP
    | with_reducible refine Law.ite (fun _ => ?_) (fun _ => ?_)
    | with_reducible refine State.flagBit_law ?_ _ _ ?_
    | exact InMask.mk 292 hW rfl rfl (Reg.PIN_CLK_FLAGS_has)
    | split
    | dsimp only [id]

end Sys2Proof.Machine
end

