-- ==== Sys2Proof/Laws/LawLine.lean ====
section
/-! SUPPORT. The law of every operation of Machine/Line.lean: what it may change (Laws/Law.lean). -/

set_option linter.all false

namespace Sys2Proof.Machine

theorem State.setTrunk_law {W P : Nat} {s0 s : State} (h : Law W P s0 s) (p : Nat) (t : Trunk) (hW : 0x0 &&& W = 0x0) (hP : 0x10000 &&& P = 0x10000) :
    Law W P s0 (State.setTrunk s p t) := by
  unfold State.setTrunk
  try dsimp only
  repeat' first
    | with_reducible assumption
    | with_reducible exact Law.refl _ _ _
    | exact sub_trans rfl hW
    | exact sub_trans rfl hP
    | dsimp only [id]
    | with_reducible refine Law.put ?_ ?_ ?_ ?_ ?_ ?_ ?_ ?_ ?_ ?_ ?_ ?_ ?_ ?_ ?_ ?_ ?_ ?_ ?_ ?_ ?_ ?_
    | with_reducible exact Or.inl rfl
    | exact Or.inr (partIn hP rfl)

theorem State.setRx_law {W P : Nat} {s0 s : State} (h : Law W P s0 s) (l : Nat) (r : TrRx) (hW : 0x0 &&& W = 0x0) (hP : 0x10000 &&& P = 0x10000) :
    Law W P s0 (State.setRx s l r) := by
  unfold State.setRx
  try dsimp only
  repeat' first
    | with_reducible assumption
    | with_reducible exact Law.refl _ _ _
    | exact sub_trans rfl hW
    | exact sub_trans rfl hP
    | dsimp only [id]
    | with_reducible refine Law.put ?_ ?_ ?_ ?_ ?_ ?_ ?_ ?_ ?_ ?_ ?_ ?_ ?_ ?_ ?_ ?_ ?_ ?_ ?_ ?_ ?_ ?_
    | with_reducible exact Or.inl rfl
    | exact Or.inr (partIn hP rfl)

theorem State.setTx_law {W P : Nat} {s0 s : State} (h : Law W P s0 s) (l : Nat) (x : TrTx) (hW : 0x0 &&& W = 0x0) (hP : 0x10000 &&& P = 0x10000) :
    Law W P s0 (State.setTx s l x) := by
  unfold State.setTx
  try dsimp only
  repeat' first
    | with_reducible assumption
    | with_reducible exact Law.refl _ _ _
    | exact sub_trans rfl hW
    | exact sub_trans rfl hP
    | dsimp only [id]
    | with_reducible refine Law.put ?_ ?_ ?_ ?_ ?_ ?_ ?_ ?_ ?_ ?_ ?_ ?_ ?_ ?_ ?_ ?_ ?_ ?_ ?_ ?_ ?_ ?_
    | with_reducible exact Or.inl rfl
    | exact Or.inr (partIn hP rfl)

theorem State.setTrState_law {W P : Nat} {s0 s : State} (h : Law W P s0 s) (p st : Nat) (hW : 0x800000000000000000000000 &&& W = 0x800000000000000000000000) (hP : 0x0 &&& P = 0x0) :
    Law W P s0 (State.setTrState s p st) := by
  unfold State.setTrState
  try dsimp only
  repeat' first
    | with_reducible assumption
    | with_reducible exact Law.refl _ _ _
    | exact sub_trans rfl hW
    | exact sub_trans rfl hP
    | with_reducible refine State.setFld_law ?_ _ _ ?_
    | exact InMask.mk 95 hW rfl rfl (Reg.LN_TRUNK_STATUS_has _)
    | dsimp only [id]

theorem State.eachLane_law {W P : Nat} {s0 s : State} (h : Law W P s0 s) (p : Nat) (f : State → Nat → State) (hf : ∀ t l, Law W P s0 t → Law W P s0 (f t l)) (hW : 0x0 &&& W = 0x0) (hP : 0x0 &&& P = 0x0) :
    Law W P s0 (State.eachLane s p f) := by
  unfold State.eachLane
  try dsimp only
  repeat' first
    | with_reducible assumption
    | with_reducible exact Law.refl _ _ _
    | exact sub_trans rfl hW
    | exact sub_trans rfl hP
    | refine hf _ _ ?_
    | with_reducible refine Law.foldl _ ?_ (fun _ _ _ => ?_)
    | with_reducible refine Law.foldl_fst _ ?_ (fun _ _ _ _ => ?_)
    | dsimp only [id]

theorem State.lineOut_law {W P : Nat} {s0 s : State} (h : Law W P s0 s) (l : Nat) (bits : List Bool) (hW : 0x0 &&& W = 0x0) (hP : 0x110000 &&& P = 0x110000) :
    Law W P s0 (State.lineOut s l bits) := by
  unfold State.lineOut
  try dsimp only
  repeat' first
    | with_reducible assumption
    | with_reducible exact Law.refl _ _ _
    | exact sub_trans rfl hW
    | exact sub_trans rfl hP
    | with_reducible refine State.setTx_law ?_ _ _  ?_ ?_
    | with_reducible refine State.emit_law ?_ _  ?_ ?_
    | with_reducible refine Law.of_fst (by assumption) ?_
    | dsimp only [id]

theorem State.payOut_law {W P : Nat} {s0 s : State} (h : Law W P s0 s) (l : Nat) (bits : List Bool) (hW : 0x0 &&& W = 0x0) (hP : 0x110000 &&& P = 0x110000) :
    Law W P s0 (State.payOut s l bits) := by
  unfold State.payOut
  try dsimp only
  repeat' first
    | with_reducible assumption
    | with_reducible exact Law.refl _ _ _
    | exact sub_trans rfl hW
    | exact sub_trans rfl hP
    | with_reducible refine State.setTx_law ?_ _ _  ?_ ?_
    | with_reducible refine State.lineOut_law ?_ _ _  ?_ ?_
    | with_reducible refine Law.of_fst (by assumption) ?_
    | dsimp only [id]

theorem State.markerOut_law {W P : Nat} {s0 s : State} (h : Law W P s0 s) (l : Nat) (hW : 0x0 &&& W = 0x0) (hP : 0x110000 &&& P = 0x110000) :
    Law W P s0 (State.markerOut s l) := by
  unfold State.markerOut
  try dsimp only
  repeat' first
    | with_reducible assumption
    | with_reducible exact Law.refl _ _ _
    | exact sub_trans rfl hW
    | exact sub_trans rfl hP
    | with_reducible refine Law.ite (fun _ => ?_) (fun _ => ?_)
    | with_reducible refine State.setTx_law ?_ _ _  ?_ ?_
    | with_reducible refine State.lineOut_law ?_ _ _  ?_ ?_
    | with_reducible refine State.setTrunk_law ?_ _ _  ?_ ?_
    | with_reducible refine Law.of_fst (by assumption) ?_
    | split
    | dsimp only [id]

theorem State.pointerOut_law {W P : Nat} {s0 s : State} (h : Law W P s0 s) (l : Nat) (hW : 0x0 &&& W = 0x0) (hP : 0x110000 &&& P = 0x110000) :
    Law W P s0 (State.pointerOut s l) := by
  unfold State.pointerOut
  try dsimp only
  repeat' first
    | with_reducible assumption
    | with_reducible exact Law.refl _ _ _
    | exact sub_trans rfl hW
    | exact sub_trans rfl hP
    | with_reducible refine Law.ite (fun _ => ?_) (fun _ => ?_)
    | with_reducible refine State.setTx_law ?_ _ _  ?_ ?_
    | with_reducible refine State.payOut_law ?_ _ _  ?_ ?_
    | split
    | dsimp only [id]

theorem State.byteOut_law {W P : Nat} {s0 s : State} (h : Law W P s0 s) (l : Nat) (hW : 0x0 &&& W = 0x0) (hP : 0x110000 &&& P = 0x110000) :
    Law W P s0 (State.byteOut s l) := by
  unfold State.byteOut
  try dsimp only
  repeat' first
    | with_reducible assumption
    | with_reducible exact Law.refl _ _ _
    | exact sub_trans rfl hW
    | exact sub_trans rfl hP
    | with_reducible refine Law.ite (fun _ => ?_) (fun _ => ?_)
    | with_reducible refine State.setTx_law ?_ _ _  ?_ ?_
    | with_reducible refine State.payOut_law ?_ _ _  ?_ ?_
    | with_reducible refine Law.of_fst (by assumption) ?_
    | split
    | dsimp only [id]

theorem State.txItem_law {W P : Nat} {s0 s : State} (h : Law W P s0 s) (l : Nat) (hW : 0x0 &&& W = 0x0) (hP : 0x110000 &&& P = 0x110000) :
    Law W P s0 (State.txItem s l) := by
  unfold State.txItem
  try dsimp only
  repeat' first
    | with_reducible assumption
    | with_reducible exact Law.refl _ _ _
    | exact sub_trans rfl hW
    | exact sub_trans rfl hP
    | with_reducible refine Law.ite (fun _ => ?_) (fun _ => ?_)
    | with_reducible refine State.markerOut_law ?_ _  ?_ ?_
    | with_reducible refine State.pointerOut_law ?_ _  ?_ ?_
    | with_reducible refine State.byteOut_law ?_ _  ?_ ?_
    | split
    | dsimp only [id]

theorem State.txItems_law {W P : Nat} {s0 s : State} (h : Law W P s0 s) (l : Nat) (x1 : Nat) (hW : 0x0 &&& W = 0x0) (hP : 0x110000 &&& P = 0x110000) :
    Law W P s0 (State.txItems s l x1) := by
  induction x1 generalizing s with
  | zero =>
    unfold State.txItems
    try dsimp only
    repeat' first
      | with_reducible assumption
      | with_reducible exact Law.refl _ _ _
      | exact sub_trans rfl hW
      | exact sub_trans rfl hP
      | with_reducible refine Law.ite (fun _ => ?_) (fun _ => ?_)
      | with_reducible refine State.txItem_law ?_ _  ?_ ?_
      | split
      | dsimp only [id]
  | succ n ih =>
    unfold State.txItems
    try dsimp only
    repeat' first
      | with_reducible assumption
      | with_reducible apply ih
      | with_reducible exact Law.refl _ _ _
      | exact sub_trans rfl hW
      | exact sub_trans rfl hP
      | with_reducible refine Law.ite (fun _ => ?_) (fun _ => ?_)
      | with_reducible refine State.txItem_law ?_ _  ?_ ?_
      | split
      | dsimp only [id]

theorem State.txTick_law {W P : Nat} {s0 s : State} (h : Law W P s0 s) (l : Nat) (hW : 0x0 &&& W = 0x0) (hP : 0x110000 &&& P = 0x110000) :
    Law W P s0 (State.txTick s l) := by
  unfold State.txTick
  try dsimp only
  repeat' first
    | with_reducible assumption
    | with_reducible exact Law.refl _ _ _
    | exact sub_trans rfl hW
    | exact sub_trans rfl hP
    | with_reducible refine Law.ite (fun _ => ?_) (fun _ => ?_)
    | with_reducible refine State.setTx_law ?_ _ _  ?_ ?_
    | with_reducible refine State.txItems_law ?_ _ _  ?_ ?_
    | split
    | dsimp only [id]

theorem State.txTicks_law {W P : Nat} {s0 s : State} (h : Law W P s0 s) (hW : 0x0 &&& W = 0x0) (hP : 0x110000 &&& P = 0x110000) :
    Law W P s0 (State.txTicks s) := by
  unfold State.txTicks
  try dsimp only
  repeat' first
    | with_reducible assumption
    | with_reducible exact Law.refl _ _ _
    | exact sub_trans rfl hW
    | exact sub_trans rfl hP
    | with_reducible refine State.txTick_law ?_ _  ?_ ?_
    | with_reducible refine Law.foldl _ ?_ (fun _ _ _ => ?_)
    | with_reducible refine Law.foldl_fst _ ?_ (fun _ _ _ _ => ?_)
    | dsimp only [id]

theorem State.txBegin_law {W P : Nat} {s0 s : State} (h : Law W P s0 s) (p : Nat) (hW : 0x0 &&& W = 0x0) (hP : 0x50000 &&& P = 0x50000) :
    Law W P s0 (State.txBegin s p) := by
  unfold State.txBegin
  try dsimp only
  repeat' first
    | with_reducible assumption
    | with_reducible exact Law.refl _ _ _
    | exact sub_trans rfl hW
    | exact sub_trans rfl hP
    | with_reducible refine State.eachLane_law ?_ _ _ (fun _ _ _ => ?_) ?_ ?_
    | with_reducible refine State.setTx_law ?_ _ _  ?_ ?_
    | with_reducible refine State.tookFree_law ?_   ?_ ?_
    | with_reducible refine Law.of_fst (by assumption) ?_
    | split
    | dsimp only [id]

theorem State.txStop_law {W P : Nat} {s0 s : State} (h : Law W P s0 s) (p : Nat) (hW : 0x0 &&& W = 0x0) (hP : 0x10000 &&& P = 0x10000) :
    Law W P s0 (State.txStop s p) := by
  unfold State.txStop
  try dsimp only
  repeat' first
    | with_reducible assumption
    | with_reducible exact Law.refl _ _ _
    | exact sub_trans rfl hW
    | exact sub_trans rfl hP
    | with_reducible refine State.eachLane_law ?_ _ _ (fun _ _ _ => ?_) ?_ ?_
    | dsimp only [id]
    | with_reducible refine Law.put ?_ ?_ ?_ ?_ ?_ ?_ ?_ ?_ ?_ ?_ ?_ ?_ ?_ ?_ ?_ ?_ ?_ ?_ ?_ ?_ ?_ ?_
    | with_reducible exact Or.inl rfl
    | exact Or.inr (partIn hP rfl)

theorem State.txFrame_law {W P : Nat} {s0 s : State} (h : Law W P s0 s) (p : Nat) (bs : List Byte) (hW : 0x0 &&& W = 0x0) (hP : 0x10000 &&& P = 0x10000) :
    Law W P s0 (State.txFrame s p bs) := by
  unfold State.txFrame
  try dsimp only
  repeat' first
    | with_reducible assumption
    | with_reducible exact Law.refl _ _ _
    | exact sub_trans rfl hW
    | exact sub_trans rfl hP
    | with_reducible refine Law.ite (fun _ => ?_) (fun _ => ?_)
    | with_reducible refine State.setTx_law ?_ _ _  ?_ ?_
    | with_reducible refine State.setTrunk_law ?_ _ _  ?_ ?_
    | split
    | dsimp only [id]

theorem State.trSend_law {W P : Nat} {s0 s : State} (h : Law W P s0 s) (p mt arg : Nat) (hW : 0x0 &&& W = 0x0) (hP : 0x10000 &&& P = 0x10000) :
    Law W P s0 (State.trSend s p mt arg) := by
  unfold State.trSend
  try dsimp only
  repeat' first
    | with_reducible assumption
    | with_reducible exact Law.refl _ _ _
    | exact sub_trans rfl hW
    | exact sub_trans rfl hP
    | with_reducible refine State.setTrunk_law ?_ _ _  ?_ ?_
    | dsimp only [id]

theorem State.txFill_law {W P : Nat} {s0 s : State} (h : Law W P s0 s) (l : Nat) (x1 : Nat) (hW : 0x0 &&& W = 0x0) (hP : 0x110000 &&& P = 0x110000) :
    Law W P s0 (State.txFill s l x1) := by
  induction x1 generalizing s with
  | zero =>
    unfold State.txFill
    try dsimp only
    repeat' first
      | with_reducible assumption
      | with_reducible exact Law.refl _ _ _
      | exact sub_trans rfl hW
      | exact sub_trans rfl hP
      | with_reducible refine Law.ite (fun _ => ?_) (fun _ => ?_)
      | with_reducible refine State.txItem_law ?_ _  ?_ ?_
      | split
      | dsimp only [id]
  | succ n ih =>
    unfold State.txFill
    try dsimp only
    repeat' first
      | with_reducible assumption
      | with_reducible apply ih
      | with_reducible exact Law.refl _ _ _
      | exact sub_trans rfl hW
      | exact sub_trans rfl hP
      | with_reducible refine Law.ite (fun _ => ?_) (fun _ => ?_)
      | with_reducible refine State.txItem_law ?_ _  ?_ ?_
      | split
      | dsimp only [id]

theorem State.txFinish_law {W P : Nat} {s0 s : State} (h : Law W P s0 s) (p : Nat) (hW : 0x0 &&& W = 0x0) (hP : 0x110000 &&& P = 0x110000) :
    Law W P s0 (State.txFinish s p) := by
  unfold State.txFinish
  try dsimp only
  repeat' first
    | with_reducible assumption
    | with_reducible exact Law.refl _ _ _
    | exact sub_trans rfl hW
    | exact sub_trans rfl hP
    | with_reducible refine State.eachLane_law ?_ _ _ (fun _ _ _ => ?_) ?_ ?_
    | with_reducible refine State.txFill_law ?_ _ _  ?_ ?_
    | dsimp only [id]

theorem State.txBurst_law {W P : Nat} {s0 s : State} (h : Law W P s0 s) (p : Nat) (hW : 0x0 &&& W = 0x0) (hP : 0x110000 &&& P = 0x110000) :
    Law W P s0 (State.txBurst s p) := by
  unfold State.txBurst
  try dsimp only
  repeat' first
    | with_reducible assumption
    | with_reducible exact Law.refl _ _ _
    | exact sub_trans rfl hW
    | exact sub_trans rfl hP
    | with_reducible refine State.eachLane_law ?_ _ _ (fun _ _ _ => ?_) ?_ ?_
    | with_reducible refine State.setRx_law ?_ _ _  ?_ ?_
    | with_reducible refine State.setTx_law ?_ _ _  ?_ ?_
    | with_reducible refine State.lineOut_law ?_ _ _  ?_ ?_
    | dsimp only [id]

theorem State.lineIn_law {W P : Nat} {s0 s : State} (h : Law W P s0 s) (l : Nat) (line : List Bool) (hW : 0x3000000000000000000000000 &&& W = 0x3000000000000000000000000) (hP : 0x10000 &&& P = 0x10000) :
    Law W P s0 (State.lineIn s l line).1 := by
  unfold State.lineIn
  try dsimp only
  repeat' first
    | with_reducible assumption
    | with_reducible exact Law.refl _ _ _
    | exact sub_trans rfl hW
    | exact sub_trans rfl hP
    | with_reducible refine Law.ite (fun _ => ?_) (fun _ => ?_)
    | with_reducible refine State.countN_law ?_ _ _ ?_
    | with_reducible refine State.flag_law ?_ _ ?_
    | with_reducible refine State.setRx_law ?_ _ _  ?_ ?_
    | exact InMask.mk 96 hW rfl rfl (Reg.LN_CNT_has_5 _)
    | exact InMask.mk 97 hW rfl rfl (Reg.LN_FLAGS_has _)
    | with_reducible refine Law.of_fst (by assumption) ?_
    | split
    | dsimp only [id]

theorem State.payIn_law {W P : Nat} {s0 s : State} (h : Law W P s0 s) (l : Nat) (bits : List Bool) (hW : 0x0 &&& W = 0x0) (hP : 0x10000 &&& P = 0x10000) :
    Law W P s0 (State.payIn s l bits) := by
  unfold State.payIn
  try dsimp only
  repeat' first
    | with_reducible assumption
    | with_reducible exact Law.refl _ _ _
    | exact sub_trans rfl hW
    | exact sub_trans rfl hP
    | with_reducible refine State.setRx_law ?_ _ _  ?_ ?_
    | with_reducible refine Law.of_fst (by assumption) ?_
    | dsimp only [id]

end Sys2Proof.Machine
end

