-- ==== Sys2Proof/Laws/LawTables.lean ====
section
/-! SUPPORT. The law of every operation of Machine/Tables.lean: what it may change (Laws/Law.lean). -/

set_option linter.all false

namespace Sys2Proof.Machine

theorem State.commitN_law {W P : Nat} {s0 s : State} (h : Law W P s0 s) (i n : Nat) (hW : 0x4000000000000000000000010 &&& W = 0x4000000000000000000000010) (hP : 0x0 &&& P = 0x0) :
    Law W P s0 (State.commitN s i n) := by
  unfold State.commitN
  try dsimp only
  repeat' first
    | with_reducible assumption
    | with_reducible exact Law.refl _ _ _
    | exact sub_trans rfl hW
    | exact sub_trans rfl hP
    | with_reducible refine Law.ite (fun _ => ?_) (fun _ => ?_)
    | with_reducible refine State.setFld_law ?_ _ _ ?_
    | with_reducible refine State.pfEvent_law ?_ _ _ _  ?_ ?_
    | exact InMask.mk 98 hW rfl rfl (Reg.SLC_TBL_VER_has _)
    | split
    | dsimp only [id]

theorem State.touchSlots_law {W P : Nat} {s0 s : State} (h : Law W P s0 s) (i : Nat) (slots : List Nat) (hW : 0x0 &&& W = 0x0) (hP : 0x80 &&& P = 0x80) :
    Law W P s0 (State.touchSlots s i slots) := by
  unfold State.touchSlots
  try dsimp only
  repeat' first
    | with_reducible assumption
    | with_reducible exact Law.refl _ _ _
    | exact sub_trans rfl hW
    | exact sub_trans rfl hP
    | with_reducible refine Law.ite (fun _ => ?_) (fun _ => ?_)
    | with_reducible refine State.scanTouch_law ?_ _ _ _ _  ?_ ?_
    | with_reducible refine Law.foldl _ ?_ (fun _ _ _ => ?_)
    | with_reducible refine Law.foldl_fst _ ?_ (fun _ _ _ _ => ?_)
    | split
    | dsimp only [id]

theorem State.fdbInsert_law {W P : Nat} {s0 s : State} (h : Law W P s0 s) (i : Nat) (e : FdbEntry) (hW : 0x1c000000000000000000000010 &&& W = 0x1c000000000000000000000010) (hP : 0x4080 &&& P = 0x4080) :
    Law W P s0 (State.fdbInsert s i e).1 := by
  unfold State.fdbInsert
  try dsimp only
  repeat' first
    | with_reducible assumption
    | with_reducible exact Law.refl _ _ _
    | exact sub_trans rfl hW
    | exact sub_trans rfl hP
    | with_reducible refine Law.ite (fun _ => ?_) (fun _ => ?_)
    | with_reducible refine State.countN_law ?_ _ _ ?_
    | with_reducible refine State.count_law ?_ _ ?_
    | with_reducible refine State.setSlice_law ?_ _ _  ?_ ?_
    | with_reducible refine State.touchSlots_law ?_ _ _  ?_ ?_
    | with_reducible refine State.commitN_law ?_ _ _  ?_ ?_
    | exact InMask.mk 99 hW rfl rfl (Reg.SLC_CNT_has_13 _)
    | exact InMask.mk 100 hW rfl rfl (Reg.SLC_CNT_has_7 _)
    | with_reducible refine Law.of_fst (by assumption) ?_
    | split
    | dsimp only [id]

theorem State.fdbRemove_law {W P : Nat} {s0 s : State} (h : Law W P s0 s) (i : Nat) (p : Nat → FdbEntry → Bool) (hW : 0x4000000000000000000000010 &&& W = 0x4000000000000000000000010) (hP : 0x4080 &&& P = 0x4080) :
    Law W P s0 (State.fdbRemove s i p).1 := by
  unfold State.fdbRemove
  try dsimp only
  repeat' first
    | with_reducible assumption
    | with_reducible exact Law.refl _ _ _
    | exact sub_trans rfl hW
    | exact sub_trans rfl hP
    | with_reducible refine State.setSlice_law ?_ _ _  ?_ ?_
    | with_reducible refine State.touchSlots_law ?_ _ _  ?_ ?_
    | with_reducible refine State.commitN_law ?_ _ _  ?_ ?_
    | split
    | dsimp only [id]

theorem State.fdbPortFlush_law {W P : Nat} {s0 s : State} (h : Law W P s0 s) (p : Nat) (hW : 0x24000000000000000000000010 &&& W = 0x24000000000000000000000010) (hP : 0x4080 &&& P = 0x4080) :
    Law W P s0 (State.fdbPortFlush s p) := by
  unfold State.fdbPortFlush
  try dsimp only
  repeat' first
    | with_reducible assumption
    | with_reducible exact Law.refl _ _ _
    | exact sub_trans rfl hW
    | exact sub_trans rfl hP
    | with_reducible refine State.countN_law ?_ _ _ ?_
    | with_reducible refine State.fdbRemove_law ?_ _ _  ?_ ?_
    | exact InMask.mk 101 hW rfl rfl (Reg.SLC_CNT_has_6 _)
    | with_reducible refine Law.foldl _ ?_ (fun _ _ _ => ?_)
    | with_reducible refine Law.foldl_fst _ ?_ (fun _ _ _ _ => ?_)
    | with_reducible refine Law.of_fst (by assumption) ?_
    | split
    | dsimp only [id]

theorem State.stashMove_law {W P : Nat} {s0 s : State} (h : Law W P s0 s) (i : Nat) (hW : 0x40000000000000000000000000 &&& W = 0x40000000000000000000000000) (hP : 0x4080 &&& P = 0x4080) :
    Law W P s0 (State.stashMove s i) := by
  unfold State.stashMove
  try dsimp only
  repeat' first
    | with_reducible assumption
    | with_reducible exact Law.refl _ _ _
    | exact sub_trans rfl hW
    | exact sub_trans rfl hP
    | with_reducible refine State.count_law ?_ _ ?_
    | with_reducible refine State.setSlice_law ?_ _ _  ?_ ?_
    | with_reducible refine State.touchSlots_law ?_ _ _  ?_ ?_
    | exact InMask.mk 102 hW rfl rfl (Reg.SLC_CNT_has_8 _)
    | with_reducible refine Law.foldl _ ?_ (fun _ _ _ => ?_)
    | with_reducible refine Law.foldl_fst _ ?_ (fun _ _ _ _ => ?_)
    | with_reducible refine Law.of_fst (by assumption) ?_
    | split
    | dsimp only [id]

theorem execStashMove_law {W P : Nat} (s : State) (i : Nat) (hW : 0x40000000000000000000000000 &&& W = 0x40000000000000000000000000) (hP : 0x4080 &&& P = 0x4080) :
    OutLaw W P s (execStashMove i s) := by
  unfold execStashMove
  try dsimp only
  repeat' first
    | with_reducible assumption
    | with_reducible exact OutLaw.fault _
    | with_reducible refine OutLaw.ite (fun _ => ?_) (fun _ => ?_)
    | with_reducible refine OutLaw.next ?_
    | with_reducible exact Law.refl _ _ _
    | exact sub_trans rfl hW
    | exact sub_trans rfl hP
    | with_reducible refine Law.ite (fun _ => ?_) (fun _ => ?_)
    | with_reducible refine State.stashMove_law ?_ _  ?_ ?_
    | split
    | dsimp only [id]

theorem State.meter_law {W P : Nat} {s0 s : State} (h : Law W P s0 s) (i m len : Nat) (hW : 0x0 &&& W = 0x0) (hP : 0x4000 &&& P = 0x4000) :
    Law W P s0 (State.meter s i m len).1 := by
  unfold State.meter
  try dsimp only
  repeat' first
    | with_reducible assumption
    | with_reducible exact Law.refl _ _ _
    | exact sub_trans rfl hW
    | exact sub_trans rfl hP
    | with_reducible refine Law.ite (fun _ => ?_) (fun _ => ?_)
    | with_reducible refine State.setSlice_law ?_ _ _  ?_ ?_
    | split
    | dsimp only [id]

theorem State.police_law {W P : Nat} {s0 s : State} (h : Law W P s0 s) (i f len pcp : Nat) (hW : 0x0 &&& W = 0x0) (hP : 0x4000 &&& P = 0x4000) :
    Law W P s0 (State.police s i f len pcp).1 := by
  unfold State.police
  try dsimp only
  repeat' first
    | with_reducible assumption
    | with_reducible exact Law.refl _ _ _
    | exact sub_trans rfl hW
    | exact sub_trans rfl hP
    | with_reducible refine Law.ite (fun _ => ?_) (fun _ => ?_)
    | with_reducible refine State.setSlice_law ?_ _ _  ?_ ?_
    | with_reducible refine State.meter_law ?_ _ _ _  ?_ ?_
    | with_reducible refine Law.of_fst (by assumption) ?_
    | split
    | dsimp only [id]

theorem State.stationMove_law {W P : Nat} {s0 s : State} (h : Law W P s0 s) (i : Nat) (hW : 0x80000000000000000000000000 &&& W = 0x80000000000000000000000000) (hP : 0x4000 &&& P = 0x4000) :
    Law W P s0 (State.stationMove s i) := by
  unfold State.stationMove
  try dsimp only
  repeat' first
    | with_reducible assumption
    | with_reducible exact Law.refl _ _ _
    | exact sub_trans rfl hW
    | exact sub_trans rfl hP
    | with_reducible refine State.count_law ?_ _ ?_
    | with_reducible refine State.setSlice_law ?_ _ _  ?_ ?_
    | exact InMask.mk 103 hW rfl rfl (Reg.SLC_CNT_has_3 _)
    | dsimp only [id]

theorem State.learnRequest_law {W P : Nat} {s0 s : State} (h : Law W P s0 s) (i k port : Nat) (hW : 0x180000000000000000000000000 &&& W = 0x180000000000000000000000000) (hP : 0x4000 &&& P = 0x4000) :
    Law W P s0 (State.learnRequest s i k port) := by
  unfold State.learnRequest
  try dsimp only
  repeat' first
    | with_reducible assumption
    | with_reducible exact Law.refl _ _ _
    | exact sub_trans rfl hW
    | exact sub_trans rfl hP
    | with_reducible refine Law.ite (fun _ => ?_) (fun _ => ?_)
    | with_reducible refine State.count_law ?_ _ ?_
    | with_reducible refine State.setSlice_law ?_ _ _  ?_ ?_
    | with_reducible refine State.stationMove_law ?_ _  ?_ ?_
    | exact InMask.mk 104 hW rfl rfl (Reg.SLC_CNT_has_1 _)
    | with_reducible refine Law.of_fst (by assumption) ?_
    | split
    | dsimp only [id]

theorem State.learnApply_law {W P : Nat} {s0 s : State} (h : Law W P s0 s) (i : Nat) (r : LearnReq) (hW : 0xe9c000000000000000000000010 &&& W = 0xe9c000000000000000000000010) (hP : 0x4080 &&& P = 0x4080) :
    Law W P s0 (State.learnApply s i r) := by
  unfold State.learnApply
  try dsimp only
  repeat' first
    | with_reducible assumption
    | with_reducible exact Law.refl _ _ _
    | exact sub_trans rfl hW
    | exact sub_trans rfl hP
    | with_reducible refine Law.ite (fun _ => ?_) (fun _ => ?_)
    | with_reducible refine State.count_law ?_ _ ?_
    | with_reducible refine State.fdbInsert_law ?_ _ _  ?_ ?_
    | with_reducible refine State.countEv_law ?_ _ _ _ _ ?_ ?_ ?_
    | with_reducible refine State.stationMove_law ?_ _  ?_ ?_
    | exact InMask.mk 105 hW rfl rfl (Reg.SLC_CNT_has_2 _)
    | exact InMask.mk 106 hW rfl rfl (Reg.SLC_CNT_has_0 _)
    | exact InMask.mk 107 hW rfl rfl (Reg.SLC_CNT_has_4 _)
    | with_reducible refine Law.of_fst (by assumption) ?_
    | split
    | dsimp only [id]

theorem execLearnRequestApply_law {W P : Nat} (s : State) (i : Nat) (hW : 0xe9c000000000000000000000010 &&& W = 0xe9c000000000000000000000010) (hP : 0x4080 &&& P = 0x4080) :
    OutLaw W P s (execLearnRequestApply i s) := by
  unfold execLearnRequestApply
  try dsimp only
  repeat' first
    | with_reducible assumption
    | with_reducible exact OutLaw.fault _
    | with_reducible refine OutLaw.ite (fun _ => ?_) (fun _ => ?_)
    | with_reducible refine OutLaw.next ?_
    | with_reducible exact Law.refl _ _ _
    | exact sub_trans rfl hW
    | exact sub_trans rfl hP
    | with_reducible refine Law.ite (fun _ => ?_) (fun _ => ?_)
    | with_reducible refine State.setSlice_law ?_ _ _  ?_ ?_
    | with_reducible refine State.learnApply_law ?_ _ _  ?_ ?_
    | with_reducible refine Law.of_fst (by assumption) ?_
    | split
    | dsimp only [id]

theorem execMoveSecondEnd_law {W P : Nat} (s : State) (i : Nat) (hW : 0x1000000000000000000000000000000000000000000000000000000e &&& W = 0x1000000000000000000000000000000000000000000000000000000e) (hP : 0x10400c &&& P = 0x10400c) :
    OutLaw W P s (execMoveSecondEnd i s) := by
  unfold execMoveSecondEnd
  try dsimp only
  repeat' first
    | with_reducible assumption
    | with_reducible exact OutLaw.fault _
    | with_reducible refine OutLaw.ite (fun _ => ?_) (fun _ => ?_)
    | with_reducible refine OutLaw.next ?_
    | with_reducible exact Law.refl _ _ _
    | exact sub_trans rfl hW
    | exact sub_trans rfl hP
    | with_reducible refine Law.ite (fun _ => ?_) (fun _ => ?_)
    | with_reducible refine State.setFld_law ?_ _ _ ?_
    | with_reducible refine State.setSlice_law ?_ _ _  ?_ ?_
    | with_reducible refine State.spoutEvent_law ?_ _ _ _ _  ?_ ?_
    | exact InMask.mk 220 hW rfl rfl (Reg.SLC_MOVE_has _)
    | split
    | dsimp only [id]

theorem State.ageingVisit_law {W P : Nat} {s0 s : State} (h : Law W P s0 s) (i n : Nat) (hW : 0x1004000000000000000000000010 &&& W = 0x1004000000000000000000000010) (hP : 0x4080 &&& P = 0x4080) :
    Law W P s0 (State.ageingVisit s i n) := by
  unfold State.ageingVisit
  try dsimp only
  repeat' first
    | with_reducible assumption
    | with_reducible exact Law.refl _ _ _
    | exact sub_trans rfl hW
    | exact sub_trans rfl hP
    | with_reducible refine Law.ite (fun _ => ?_) (fun _ => ?_)
    | with_reducible refine State.count_law ?_ _ ?_
    | with_reducible refine State.setSlice_law ?_ _ _  ?_ ?_
    | with_reducible refine State.fdbRemove_law ?_ _ _  ?_ ?_
    | exact InMask.mk 108 hW rfl rfl (Reg.SLC_CNT_has_5 _)
    | with_reducible refine Law.of_fst (by assumption) ?_
    | split
    | dsimp only [id]

theorem execAgeingVisit_law {W P : Nat} (s : State) (i n : Nat) (hW : 0x1004000000000000000000000010 &&& W = 0x1004000000000000000000000010) (hP : 0x4080 &&& P = 0x4080) :
    OutLaw W P s (execAgeingVisit i n s) := by
  unfold execAgeingVisit
  try dsimp only
  repeat' first
    | with_reducible assumption
    | with_reducible exact OutLaw.fault _
    | with_reducible refine OutLaw.ite (fun _ => ?_) (fun _ => ?_)
    | with_reducible refine OutLaw.next ?_
    | with_reducible exact Law.refl _ _ _
    | exact sub_trans rfl hW
    | exact sub_trans rfl hP
    | with_reducible refine Law.ite (fun _ => ?_) (fun _ => ?_)
    | with_reducible refine State.ageingVisit_law ?_ _ _  ?_ ?_
    | split
    | dsimp only [id]

theorem State.twPend_law {W P : Nat} {s0 s : State} (h : Law W P s0 s) (w : Nat) (p : TwPend) (hW : 0x2000000000000000000000000000 &&& W = 0x2000000000000000000000000000) (hP : 0x4000 &&& P = 0x4000) :
    Law W P s0 (State.twPend s w p) := by
  unfold State.twPend
  try dsimp only
  repeat' first
    | with_reducible assumption
    | with_reducible exact Law.refl _ _ _
    | exact sub_trans rfl hW
    | exact sub_trans rfl hP
    | with_reducible refine State.setFld_law ?_ _ _ ?_
    | with_reducible refine State.setSlice_law ?_ _ _  ?_ ?_
    | exact InMask.mk 109 hW rfl rfl (Reg.TW_STATUS_has _)
    | dsimp only [id]

theorem State.twPlain_law {W P : Nat} {s0 s : State} (h : Law W P s0 s) (w result : Nat) (hW : 0x2000000000000000000000000000 &&& W = 0x2000000000000000000000000000) (hP : 0x4000 &&& P = 0x4000) :
    Law W P s0 (State.twPlain s w result) := by
  unfold State.twPlain
  try dsimp only
  repeat' first
    | with_reducible assumption
    | with_reducible exact Law.refl _ _ _
    | exact sub_trans rfl hW
    | exact sub_trans rfl hP
    | with_reducible refine State.twPend_law ?_ _ _  ?_ ?_
    | dsimp only [id]

theorem State.twDoWrite_law {W P : Nat} {s0 s : State} (h : Law W P s0 s) (w table : Nat) (hW : 0x201c000000000000000000000010 &&& W = 0x201c000000000000000000000010) (hP : 0x4080 &&& P = 0x4080) :
    Law W P s0 (State.twDoWrite s w table) := by
  unfold State.twDoWrite
  try dsimp only
  repeat' first
    | with_reducible assumption
    | with_reducible exact Law.refl _ _ _
    | exact sub_trans rfl hW
    | exact sub_trans rfl hP
    | with_reducible refine Law.ite (fun _ => ?_) (fun _ => ?_)
    | with_reducible refine State.fdbInsert_law ?_ _ _  ?_ ?_
    | with_reducible refine State.twPlain_law ?_ _ _  ?_ ?_
    | with_reducible refine State.twPend_law ?_ _ _  ?_ ?_
    | with_reducible refine State.setSlice_law ?_ _ _  ?_ ?_
    | with_reducible refine State.scanTouch_law ?_ _ _ _ _  ?_ ?_
    | with_reducible refine State.commitN_law ?_ _ _  ?_ ?_
    | with_reducible refine Law.of_fst (by assumption) ?_
    | split
    | dsimp only [id]

theorem State.twDoDelete_law {W P : Nat} {s0 s : State} (h : Law W P s0 s) (w table : Nat) (hW : 0x2004000000000000000000000010 &&& W = 0x2004000000000000000000000010) (hP : 0x4080 &&& P = 0x4080) :
    Law W P s0 (State.twDoDelete s w table) := by
  unfold State.twDoDelete
  try dsimp only
  repeat' first
    | with_reducible assumption
    | with_reducible exact Law.refl _ _ _
    | exact sub_trans rfl hW
    | exact sub_trans rfl hP
    | with_reducible refine Law.ite (fun _ => ?_) (fun _ => ?_)
    | with_reducible refine State.twPlain_law ?_ _ _  ?_ ?_
    | with_reducible refine State.fdbRemove_law ?_ _ _  ?_ ?_
    | with_reducible refine State.setSlice_law ?_ _ _  ?_ ?_
    | with_reducible refine State.scanTouch_law ?_ _ _ _ _  ?_ ?_
    | with_reducible refine State.commitN_law ?_ _ _  ?_ ?_
    | with_reducible refine Law.of_fst (by assumption) ?_
    | split
    | dsimp only [id]

theorem State.twDoRead_law {W P : Nat} {s0 s : State} (h : Law W P s0 s) (w table : Nat) (hW : 0x2000000000000000000000000000 &&& W = 0x2000000000000000000000000000) (hP : 0x4000 &&& P = 0x4000) :
    Law W P s0 (State.twDoRead s w table) := by
  unfold State.twDoRead
  try dsimp only
  repeat' first
    | with_reducible assumption
    | with_reducible exact Law.refl _ _ _
    | exact sub_trans rfl hW
    | exact sub_trans rfl hP
    | with_reducible refine Law.ite (fun _ => ?_) (fun _ => ?_)
    | with_reducible refine State.twPend_law ?_ _ _  ?_ ?_
    | with_reducible refine Law.of_fst (by assumption) ?_
    | split
    | dsimp only [id]

theorem State.twDoRaw_law {W P : Nat} {s0 s : State} (h : Law W P s0 s) (w table : Nat) (hW : 0x2000000000000000000000000000 &&& W = 0x2000000000000000000000000000) (hP : 0x4000 &&& P = 0x4000) :
    Law W P s0 (State.twDoRaw s w table) := by
  unfold State.twDoRaw
  try dsimp only
  repeat' first
    | with_reducible assumption
    | with_reducible exact Law.refl _ _ _
    | exact sub_trans rfl hW
    | exact sub_trans rfl hP
    | with_reducible refine Law.ite (fun _ => ?_) (fun _ => ?_)
    | with_reducible refine State.twPend_law ?_ _ _  ?_ ?_
    | with_reducible refine Law.of_fst (by assumption) ?_
    | split
    | dsimp only [id]

theorem State.twDoFlush_law {W P : Nat} {s0 s : State} (h : Law W P s0 s) (w : Nat) (hW : 0x2024000000000000000000000010 &&& W = 0x2024000000000000000000000010) (hP : 0x4080 &&& P = 0x4080) :
    Law W P s0 (State.twDoFlush s w) := by
  unfold State.twDoFlush
  try dsimp only
  repeat' first
    | with_reducible assumption
    | with_reducible exact Law.refl _ _ _
    | exact sub_trans rfl hW
    | exact sub_trans rfl hP
    | with_reducible refine State.countN_law ?_ _ _ ?_
    | with_reducible refine State.fdbRemove_law ?_ _ _  ?_ ?_
    | with_reducible refine State.twPlain_law ?_ _ _  ?_ ?_
    | exact InMask.mk 101 hW rfl rfl (Reg.SLC_CNT_has_6 _)
    | with_reducible refine Law.of_fst (by assumption) ?_
    | split
    | dsimp only [id]

theorem State.twCmd_law {W P : Nat} {s0 s : State} (h : Law W P s0 s) (a : Acc) (w op table : Nat) (rsv : Bool) (hE : InMask W (Reg.ERR_STATUS a.base)) (hO : InMask W (Reg.ERR_OFS a.base)) (hW : 0x203c000000000000000000000012 &&& W = 0x203c000000000000000000000012) (hP : 0x104084 &&& P = 0x104084) :
    Law W P s0 (State.twCmd s a w op table rsv) := by
  unfold State.twCmd
  try dsimp only
  repeat' first
    | with_reducible assumption
    | with_reducible exact Law.refl _ _ _
    | exact sub_trans rfl hW
    | exact sub_trans rfl hP
    | exact hE
    | exact hO
    | with_reducible refine Law.ite (fun _ => ?_) (fun _ => ?_)
    | with_reducible refine State.guard_law ?_ _ _ _ ?_ ?_ (fun _ _ => ?_) ?_ ?_
    | with_reducible refine State.twDoWrite_law ?_ _ _  ?_ ?_
    | with_reducible refine State.twDoDelete_law ?_ _ _  ?_ ?_
    | with_reducible refine State.twDoRead_law ?_ _ _  ?_ ?_
    | with_reducible refine State.twDoRaw_law ?_ _ _  ?_ ?_
    | with_reducible refine State.twDoFlush_law ?_ _  ?_ ?_
    | split
    | dsimp only [id]

theorem execTwWrite_law {W P : Nat} (s : State) (w : Nat) (table : BitVec 2) (hW : 0x180000000000000000000000000000000000000000000000000000000000203c000000000000000000000012 &&& W = 0x180000000000000000000000000000000000000000000000000000000000203c000000000000000000000012) (hP : 0x104084 &&& P = 0x104084) :
    OutLaw W P s (execTwWrite w table s) := by
  unfold execTwWrite
  try dsimp only
  repeat' first
    | with_reducible assumption
    | with_reducible exact OutLaw.fault _
    | with_reducible refine OutLaw.ite (fun _ => ?_) (fun _ => ?_)
    | with_reducible refine OutLaw.next ?_
    | with_reducible exact Law.refl _ _ _
    | exact sub_trans rfl hW
    | exact sub_trans rfl hP
    | with_reducible refine Law.ite (fun _ => ?_) (fun _ => ?_)
    | with_reducible refine State.twCmd_law ?_ _ _ _ _ _ ?_ ?_ ?_ ?_
    | exact InMask.mk 347 hW rfl rfl (Reg.ERR_STATUS_has_TW _)
    | exact InMask.mk 348 hW rfl rfl (Reg.ERR_OFS_has_TW _)
    | split
    | dsimp only [id]

theorem execTwDelete_law {W P : Nat} (s : State) (w : Nat) (table : BitVec 2) (hW : 0x180000000000000000000000000000000000000000000000000000000000203c000000000000000000000012 &&& W = 0x180000000000000000000000000000000000000000000000000000000000203c000000000000000000000012) (hP : 0x104084 &&& P = 0x104084) :
    OutLaw W P s (execTwDelete w table s) := by
  unfold execTwDelete
  try dsimp only
  repeat' first
    | with_reducible assumption
    | with_reducible exact OutLaw.fault _
    | with_reducible refine OutLaw.ite (fun _ => ?_) (fun _ => ?_)
    | with_reducible refine OutLaw.next ?_
    | with_reducible exact Law.refl _ _ _
    | exact sub_trans rfl hW
    | exact sub_trans rfl hP
    | with_reducible refine Law.ite (fun _ => ?_) (fun _ => ?_)
    | with_reducible refine State.twCmd_law ?_ _ _ _ _ _ ?_ ?_ ?_ ?_
    | exact InMask.mk 347 hW rfl rfl (Reg.ERR_STATUS_has_TW _)
    | exact InMask.mk 348 hW rfl rfl (Reg.ERR_OFS_has_TW _)
    | split
    | dsimp only [id]

theorem execTwRead_law {W P : Nat} (s : State) (w : Nat) (table : BitVec 2) (hW : 0x180000000000000000000000000000000000000000000000000000000000203c000000000000000000000012 &&& W = 0x180000000000000000000000000000000000000000000000000000000000203c000000000000000000000012) (hP : 0x104084 &&& P = 0x104084) :
    OutLaw W P s (execTwRead w table s) := by
  unfold execTwRead
  try dsimp only
  repeat' first
    | with_reducible assumption
    | with_reducible exact OutLaw.fault _
    | with_reducible refine OutLaw.ite (fun _ => ?_) (fun _ => ?_)
    | with_reducible refine OutLaw.next ?_
    | with_reducible exact Law.refl _ _ _
    | exact sub_trans rfl hW
    | exact sub_trans rfl hP
    | with_reducible refine Law.ite (fun _ => ?_) (fun _ => ?_)
    | with_reducible refine State.twCmd_law ?_ _ _ _ _ _ ?_ ?_ ?_ ?_
    | exact InMask.mk 347 hW rfl rfl (Reg.ERR_STATUS_has_TW _)
    | exact InMask.mk 348 hW rfl rfl (Reg.ERR_OFS_has_TW _)
    | split
    | dsimp only [id]

theorem execTwRaw_law {W P : Nat} (s : State) (w : Nat) (table : BitVec 2) (hW : 0x180000000000000000000000000000000000000000000000000000000000203c000000000000000000000012 &&& W = 0x180000000000000000000000000000000000000000000000000000000000203c000000000000000000000012) (hP : 0x104084 &&& P = 0x104084) :
    OutLaw W P s (execTwRaw w table s) := by
  unfold execTwRaw
  try dsimp only
  repeat' first
    | with_reducible assumption
    | with_reducible exact OutLaw.fault _
    | with_reducible refine OutLaw.ite (fun _ => ?_) (fun _ => ?_)
    | with_reducible refine OutLaw.next ?_
    | with_reducible exact Law.refl _ _ _
    | exact sub_trans rfl hW
    | exact sub_trans rfl hP
    | with_reducible refine Law.ite (fun _ => ?_) (fun _ => ?_)
    | with_reducible refine State.twCmd_law ?_ _ _ _ _ _ ?_ ?_ ?_ ?_
    | exact InMask.mk 347 hW rfl rfl (Reg.ERR_STATUS_has_TW _)
    | exact InMask.mk 348 hW rfl rfl (Reg.ERR_OFS_has_TW _)
    | split
    | dsimp only [id]

theorem execTwFlush_law {W P : Nat} (s : State) (w : Nat) (table : BitVec 2) (hW : 0x180000000000000000000000000000000000000000000000000000000000203c000000000000000000000012 &&& W = 0x180000000000000000000000000000000000000000000000000000000000203c000000000000000000000012) (hP : 0x104084 &&& P = 0x104084) :
    OutLaw W P s (execTwFlush w table s) := by
  unfold execTwFlush
  try dsimp only
  repeat' first
    | with_reducible assumption
    | with_reducible exact OutLaw.fault _
    | with_reducible refine OutLaw.ite (fun _ => ?_) (fun _ => ?_)
    | with_reducible refine OutLaw.next ?_
    | with_reducible exact Law.refl _ _ _
    | exact sub_trans rfl hW
    | exact sub_trans rfl hP
    | with_reducible refine Law.ite (fun _ => ?_) (fun _ => ?_)
    | with_reducible refine State.twCmd_law ?_ _ _ _ _ _ ?_ ?_ ?_ ?_
    | exact InMask.mk 347 hW rfl rfl (Reg.ERR_STATUS_has_TW _)
    | exact InMask.mk 348 hW rfl rfl (Reg.ERR_OFS_has_TW _)
    | split
    | dsimp only [id]

theorem State.twDone_law {W P : Nat} {s0 s : State} (h : Law W P s0 s) (w : Nat) (p : TwPend) (hW : 0x3e000000000000000000000000000 &&& W = 0x3e000000000000000000000000000) (hP : 0x4000 &&& P = 0x4000) :
    Law W P s0 (State.twDone s w p) := by
  unfold State.twDone
  try dsimp only
  repeat' first
    | with_reducible assumption
    | with_reducible exact Law.refl _ _ _
    | exact sub_trans rfl hW
    | exact sub_trans rfl hP
    | with_reducible refine Law.ite (fun _ => ?_) (fun _ => ?_)
    | with_reducible refine State.setFld_law ?_ _ _ ?_
    | with_reducible refine State.wr_law ?_ _ _ ?_
    | with_reducible refine State.wrapAdd_law ?_ _ _ ?_
    | with_reducible refine State.setSlice_law ?_ _ _  ?_ ?_
    | exact InMask.mk 109 hW rfl rfl (Reg.TW_STATUS_has _)
    | exact InMask.mk 110 hW rfl rfl (Reg.TW_KEY_LO_has _)
    | exact InMask.mk 111 hW rfl rfl (Reg.TW_KEY_HI_has _)
    | exact InMask.mk 112 hW rfl rfl (Reg.TW_FDB_has _)
    | exact InMask.mk 113 hW rfl rfl (Reg.TW_DATA_has _ _)
    | with_reducible refine Law.foldl _ ?_ (fun _ _ _ => ?_)
    | with_reducible refine Law.foldl_fst _ ?_ (fun _ _ _ _ => ?_)
    | with_reducible refine Law.of_fst (by assumption) ?_
    | split
    | dsimp only [id]

theorem execTwCommandDone_law {W P : Nat} (s : State) (w : Nat) (hW : 0x3e000000000000000000000000000 &&& W = 0x3e000000000000000000000000000) (hP : 0x4000 &&& P = 0x4000) :
    OutLaw W P s (execTwCommandDone w s) := by
  unfold execTwCommandDone
  try dsimp only
  repeat' first
    | with_reducible assumption
    | with_reducible exact OutLaw.fault _
    | with_reducible refine OutLaw.ite (fun _ => ?_) (fun _ => ?_)
    | with_reducible refine OutLaw.next ?_
    | with_reducible exact Law.refl _ _ _
    | exact sub_trans rfl hW
    | exact sub_trans rfl hP
    | with_reducible refine Law.ite (fun _ => ?_) (fun _ => ?_)
    | with_reducible refine State.twDone_law ?_ _ _  ?_ ?_
    | with_reducible refine Law.of_fst (by assumption) ?_
    | split
    | dsimp only [id]

theorem State.fenceSet_law {W P : Nat} {s0 s : State} (h : Law W P s0 s) (a : Acc) (i : Nat) (ev rsv : Bool) (hE : InMask W (Reg.ERR_STATUS a.base)) (hO : InMask W (Reg.ERR_OFS a.base)) (hW : 0xc0000000000000000000000000012 &&& W = 0xc0000000000000000000000000012) (hP : 0x100004 &&& P = 0x100004) :
    Law W P s0 (State.fenceSet s a i ev rsv) := by
  unfold State.fenceSet
  try dsimp only
  repeat' first
    | with_reducible assumption
    | with_reducible exact Law.refl _ _ _
    | exact sub_trans rfl hW
    | exact sub_trans rfl hP
    | exact hE
    | exact hO
    | with_reducible refine State.setFld_law ?_ _ _ ?_
    | with_reducible refine State.guard_law ?_ _ _ _ ?_ ?_ (fun _ _ => ?_) ?_ ?_
    | exact InMask.mk 114 hW rfl rfl (Reg.SLC_FENCE_VER_has _)
    | exact InMask.mk 115 hW rfl rfl (Reg.SLC_FENCE_has _)
    | dsimp only [id]

theorem execFenceSet_law {W P : Nat} (s : State) (i : Nat) (ev : Bool) (hW : 0x600000000000000000000000000000000000000000000000000000000c0000000000000000000000000012 &&& W = 0x600000000000000000000000000000000000000000000000000000000c0000000000000000000000000012) (hP : 0x100004 &&& P = 0x100004) :
    OutLaw W P s (execFenceSet i ev s) := by
  unfold execFenceSet
  try dsimp only
  repeat' first
    | with_reducible assumption
    | with_reducible exact OutLaw.fault _
    | with_reducible refine OutLaw.ite (fun _ => ?_) (fun _ => ?_)
    | with_reducible refine OutLaw.next ?_
    | with_reducible exact Law.refl _ _ _
    | exact sub_trans rfl hW
    | exact sub_trans rfl hP
    | with_reducible refine Law.ite (fun _ => ?_) (fun _ => ?_)
    | with_reducible refine State.fenceSet_law ?_ _ _ _ _ ?_ ?_ ?_ ?_
    | exact InMask.mk 341 hW rfl rfl (Reg.ERR_STATUS_has_SLC _)
    | exact InMask.mk 342 hW rfl rfl (Reg.ERR_OFS_has_SLC _)
    | split
    | dsimp only [id]

end Sys2Proof.Machine
end

