-- ==== Sys2Proof/Laws/LawBuffers.lean ====
section
/-! SUPPORT. The law of every operation of Machine/Buffers.lean: what it may change (Laws/Law.lean). -/

set_option linter.all false

namespace Sys2Proof.Machine

theorem State.setFab_law {W P : Nat} {s0 s : State} (h : Law W P s0 s) (f : Fabric) (hW : 0x0 &&& W = 0x0) (hP : 0x8000 &&& P = 0x8000) :
    Law W P s0 (State.setFab s f) := by
  unfold State.setFab
  try dsimp only
  repeat' first
    | with_reducible assumption
    | with_reducible exact Law.refl _ _ _
    | exact sub_trans rfl hW
    | exact sub_trans rfl hP
    | dsimp only [id]
    | with_reducible refine Law.put ?_ ?_ ?_ ?_ ?_ ?_ ?_ ?_ ?_ ?_ ?_ ?_ ?_ ?_ ?_ ?_ ?_ ?_ ?_ ?_ ?_ ?_
    | with_reducible exact Or.inl rfl
    | exact Or.inr (partIn hP rfl)

theorem State.bufSeen_law {W P : Nat} {s0 s : State} (h : Law W P s0 s) (key : Nat) (hW : 0x20000000000012 &&& W = 0x20000000000012) (hP : 0x108104 &&& P = 0x108104) :
    Law W P s0 (State.bufSeen s key) := by
  unfold State.bufSeen
  try dsimp only
  repeat' first
    | with_reducible assumption
    | with_reducible exact Law.refl _ _ _
    | exact sub_trans rfl hW
    | exact sub_trans rfl hP
    | with_reducible refine State.setFab_law ?_ _  ?_ ?_
    | with_reducible refine State.snap_law ?_ _ ?_ ?_ ?_ ?_
    | dsimp only [id]

theorem State.setPoolFree_law {W P : Nat} {s0 s : State} (h : Law W P s0 s) (k v : Nat) (hW : 0x300000000000000000000000000000 &&& W = 0x300000000000000000000000000000) (hP : 0x0 &&& P = 0x0) :
    Law W P s0 (State.setPoolFree s k v) := by
  unfold State.setPoolFree
  try dsimp only
  repeat' first
    | with_reducible assumption
    | with_reducible exact Law.refl _ _ _
    | exact sub_trans rfl hW
    | exact sub_trans rfl hP
    | with_reducible refine Law.ite (fun _ => ?_) (fun _ => ?_)
    | with_reducible refine State.setFld_law ?_ _ _ ?_
    | exact InMask.mk 116 hW rfl rfl (Reg.BPM_POOL_FREE_has _)
    | exact InMask.mk 117 hW rfl rfl (Reg.BPM_POOL_LOW_has _)
    | split
    | dsimp only [id]

theorem State.bufLost_law {W P : Nat} {s0 s : State} (h : Law W P s0 s) (k tag : Nat) (hW : 0x400000000000000000000000000000 &&& W = 0x400000000000000000000000000000) (hP : 0x0 &&& P = 0x0) :
    Law W P s0 (State.bufLost s k tag) := by
  unfold State.bufLost
  try dsimp only
  repeat' first
    | with_reducible assumption
    | with_reducible exact Law.refl _ _ _
    | exact sub_trans rfl hW
    | exact sub_trans rfl hP
    | with_reducible refine Law.ite (fun _ => ?_) (fun _ => ?_)
    | with_reducible refine State.count_law ?_ _ ?_
    | exact InMask.mk 118 hW rfl rfl (Reg.BPM_CNT_has_3)
    | with_reducible refine Law.of_fst (by assumption) ?_
    | split
    | dsimp only [id]

theorem State.bufTake_law {W P : Nat} {s0 s : State} (h : Law W P s0 s) (pool tag : Nat) (hW : 0x300000000000000020000000000012 &&& W = 0x300000000000000020000000000012) (hP : 0x148104 &&& P = 0x148104) :
    Law W P s0 (State.bufTake s pool tag).1 := by
  unfold State.bufTake
  try dsimp only
  repeat' first
    | with_reducible assumption
    | with_reducible exact Law.refl _ _ _
    | exact sub_trans rfl hW
    | exact sub_trans rfl hP
    | with_reducible refine State.tookFree_law ?_   ?_ ?_
    | with_reducible refine State.bufSeen_law ?_ _  ?_ ?_
    | with_reducible refine State.setFab_law ?_ _  ?_ ?_
    | with_reducible refine State.setPoolFree_law ?_ _ _  ?_ ?_
    | with_reducible refine State.pfEvent_law ?_ _ _ _  ?_ ?_
    | split
    | dsimp only [id]

theorem State.setShared_law {W P : Nat} {s0 s : State} (h : Law W P s0 s) (n : Nat) (hW : 0x800000000000000000000000000000 &&& W = 0x800000000000000000000000000000) (hP : 0x0 &&& P = 0x0) :
    Law W P s0 (State.setShared s n) := by
  unfold State.setShared
  try dsimp only
  repeat' first
    | with_reducible assumption
    | with_reducible exact Law.refl _ _ _
    | exact sub_trans rfl hW
    | exact sub_trans rfl hP
    | with_reducible refine State.setFld_law ?_ _ _ ?_
    | exact InMask.mk 119 hW rfl rfl (Reg.BPM_SHARED_FREE_has)
    | dsimp only [id]

theorem State.bufTakeFrame_law {W P : Nat} {s0 s : State} (h : Law W P s0 s) (k tag : Nat) (hW : 0xb00000000000000020000000000012 &&& W = 0xb00000000000000020000000000012) (hP : 0x148104 &&& P = 0x148104) :
    Law W P s0 (State.bufTakeFrame s k tag).1 := by
  unfold State.bufTakeFrame
  try dsimp only
  repeat' first
    | with_reducible assumption
    | with_reducible exact Law.refl _ _ _
    | exact sub_trans rfl hW
    | exact sub_trans rfl hP
    | with_reducible refine Law.ite (fun _ => ?_) (fun _ => ?_)
    | with_reducible refine State.setShared_law ?_ _  ?_ ?_
    | with_reducible refine State.bufTake_law ?_ _ _  ?_ ?_
    | split
    | dsimp only [id]

theorem State.bufEmpty_law {W P : Nat} {s0 s : State} (h : Law W P s0 s) (k : Nat) (hW : 0x10 &&& W = 0x10) (hP : 0x0 &&& P = 0x0) :
    Law W P s0 (State.bufEmpty s k) := by
  unfold State.bufEmpty
  try dsimp only
  repeat' first
    | with_reducible assumption
    | with_reducible exact Law.refl _ _ _
    | exact sub_trans rfl hW
    | exact sub_trans rfl hP
    | with_reducible refine State.pfEvent_law ?_ _ _ _  ?_ ?_
    | dsimp only [id]

theorem State.bufFallback_law {W P : Nat} {s0 s : State} (h : Law W P s0 s) (k : Nat) (hW : 0x1000000000000000000000000000010 &&& W = 0x1000000000000000000000000000010) (hP : 0x0 &&& P = 0x0) :
    Law W P s0 (State.bufFallback s k) := by
  unfold State.bufFallback
  try dsimp only
  repeat' first
    | with_reducible assumption
    | with_reducible exact Law.refl _ _ _
    | exact sub_trans rfl hW
    | exact sub_trans rfl hP
    | with_reducible refine State.count_law ?_ _ ?_
    | with_reducible refine State.pfEvent_law ?_ _ _ _  ?_ ?_
    | exact InMask.mk 120 hW rfl rfl (Reg.BPM_CNT_has _)
    | dsimp only [id]

theorem State.bufAlloc_law {W P : Nat} {s0 s : State} (h : Law W P s0 s) (need tag : Nat) (hW : 0x1f00000000000000020000000000012 &&& W = 0x1f00000000000000020000000000012) (hP : 0x148104 &&& P = 0x148104) :
    Law W P s0 (State.bufAlloc s need tag).1 := by
  unfold State.bufAlloc
  try dsimp only
  repeat' first
    | with_reducible assumption
    | with_reducible exact Law.refl _ _ _
    | exact sub_trans rfl hW
    | exact sub_trans rfl hP
    | with_reducible refine Law.ite (fun _ => ?_) (fun _ => ?_)
    | with_reducible refine State.bufTakeFrame_law ?_ _ _  ?_ ?_
    | with_reducible refine State.bufLost_law ?_ _ _  ?_ ?_
    | with_reducible refine State.bufEmpty_law ?_ _  ?_ ?_
    | with_reducible refine State.bufFallback_law ?_ _  ?_ ?_
    | with_reducible refine Law.of_fst (by assumption) ?_
    | split
    | dsimp only [id]

theorem State.bufFails_law {W P : Nat} {s0 s : State} (h : Law W P s0 s) (tag h code : Nat) (hW : 0x100000000000000000000000000000e &&& W = 0x100000000000000000000000000000e) (hP : 0x10000c &&& P = 0x10000c) :
    Law W P s0 (State.bufFails s tag h code) := by
  unfold State.bufFails
  try dsimp only
  repeat' first
    | with_reducible assumption
    | with_reducible exact Law.refl _ _ _
    | exact sub_trans rfl hW
    | exact sub_trans rfl hP
    | with_reducible refine Law.ite (fun _ => ?_) (fun _ => ?_)
    | with_reducible refine State.count_law ?_ _ ?_
    | with_reducible refine State.spoutEvent_law ?_ _ _ _ _  ?_ ?_
    | exact InMask.mk 120 hW rfl rfl (Reg.BPM_CNT_has _)
    | split
    | dsimp only [id]

theorem State.bufReturn_law {W P : Nat} {s0 s : State} (h : Law W P s0 s) (key : Nat) (hW : 0x100000000000000020000000000012 &&& W = 0x100000000000000020000000000012) (hP : 0x108104 &&& P = 0x108104) :
    Law W P s0 (State.bufReturn s key) := by
  unfold State.bufReturn
  try dsimp only
  repeat' first
    | with_reducible assumption
    | with_reducible exact Law.refl _ _ _
    | exact sub_trans rfl hW
    | exact sub_trans rfl hP
    | with_reducible refine State.setFld_law ?_ _ _ ?_
    | with_reducible refine State.bufSeen_law ?_ _  ?_ ?_
    | with_reducible refine State.setFab_law ?_ _  ?_ ?_
    | with_reducible refine State.pfEvent_law ?_ _ _ _  ?_ ?_
    | exact InMask.mk 116 hW rfl rfl (Reg.BPM_POOL_FREE_has _)
    | dsimp only [id]

theorem State.bufFree_law {W P : Nat} {s0 s : State} (h : Law W P s0 s) (tag h : Nat) (hW : 0x190000000000000002000000000001e &&& W = 0x190000000000000002000000000001e) (hP : 0x10810c &&& P = 0x10810c) :
    Law W P s0 (State.bufFree s tag h) := by
  unfold State.bufFree
  try dsimp only
  repeat' first
    | with_reducible assumption
    | with_reducible exact Law.refl _ _ _
    | exact sub_trans rfl hW
    | exact sub_trans rfl hP
    | with_reducible refine Law.ite (fun _ => ?_) (fun _ => ?_)
    | with_reducible refine State.setShared_law ?_ _  ?_ ?_
    | with_reducible refine State.bufReturn_law ?_ _  ?_ ?_
    | with_reducible refine State.bufFails_law ?_ _ _ _  ?_ ?_
    | split
    | dsimp only [id]

theorem State.bufFreeAll_law {W P : Nat} {s0 s : State} (h : Law W P s0 s) (tag : Nat) (hs : List Nat) (hW : 0x190000000000000002000000000001e &&& W = 0x190000000000000002000000000001e) (hP : 0x10810c &&& P = 0x10810c) :
    Law W P s0 (State.bufFreeAll s tag hs) := by
  unfold State.bufFreeAll
  try dsimp only
  repeat' first
    | with_reducible assumption
    | with_reducible exact Law.refl _ _ _
    | exact sub_trans rfl hW
    | exact sub_trans rfl hP
    | with_reducible refine State.bufFree_law ?_ _ _  ?_ ?_
    | with_reducible refine Law.foldl _ ?_ (fun _ _ _ => ?_)
    | with_reducible refine Law.foldl_fst _ ?_ (fun _ _ _ _ => ?_)
    | dsimp only [id]

theorem State.bufMove_law {W P : Nat} {s0 s : State} (h : Law W P s0 s) (src dst h : Nat) (hW : 0x100000000000000002000000000001e &&& W = 0x100000000000000002000000000001e) (hP : 0x10810c &&& P = 0x10810c) :
    Law W P s0 (State.bufMove s src dst h).1 := by
  unfold State.bufMove
  try dsimp only
  repeat' first
    | with_reducible assumption
    | with_reducible exact Law.refl _ _ _
    | exact sub_trans rfl hW
    | exact sub_trans rfl hP
    | with_reducible refine Law.ite (fun _ => ?_) (fun _ => ?_)
    | with_reducible refine State.bufSeen_law ?_ _  ?_ ?_
    | with_reducible refine State.setFab_law ?_ _  ?_ ?_
    | with_reducible refine State.bufFails_law ?_ _ _ _  ?_ ?_
    | split
    | dsimp only [id]

theorem State.bufMoveAll_law {W P : Nat} {s0 s : State} (h : Law W P s0 s) (src dst : Nat) (x1 : List Nat) (hW : 0x100000000000000002000000000001e &&& W = 0x100000000000000002000000000001e) (hP : 0x10810c &&& P = 0x10810c) :
    Law W P s0 (State.bufMoveAll s src dst x1).1 := by
  induction x1 generalizing s with
  | nil =>
    unfold State.bufMoveAll
    try dsimp only
    repeat' first
      | with_reducible assumption
      | with_reducible exact Law.refl _ _ _
      | exact sub_trans rfl hW
      | exact sub_trans rfl hP
      | with_reducible refine State.bufMove_law ?_ _ _ _  ?_ ?_
      | with_reducible refine Law.of_fst (by assumption) ?_
      | split
      | dsimp only [id]
  | cons x l ih =>
    unfold State.bufMoveAll
    try dsimp only
    repeat' first
      | with_reducible assumption
      | with_reducible apply ih
      | with_reducible exact Law.refl _ _ _
      | exact sub_trans rfl hW
      | exact sub_trans rfl hP
      | with_reducible refine State.bufMove_law ?_ _ _ _  ?_ ?_
      | with_reducible refine Law.of_fst (by assumption) ?_
      | split
      | dsimp only [id]

theorem State.bufExtents_law {W P : Nat} {s0 s : State} (h : Law W P s0 s) (top len tag : Nat) (x1 : Nat) (x2 : Nat) (x3 : List Nat) (hW : 0x1f0000000000000002000000000001e &&& W = 0x1f0000000000000002000000000001e) (hP : 0x14810c &&& P = 0x14810c) :
    Law W P s0 (State.bufExtents s top len tag x1 x2 x3).1 := by
  induction x1 generalizing s x2 x3 with
  | zero =>
    unfold State.bufExtents
    try dsimp only
    repeat' first
      | with_reducible assumption
      | with_reducible exact Law.refl _ _ _
      | exact sub_trans rfl hW
      | exact sub_trans rfl hP
      | with_reducible refine Law.ite (fun _ => ?_) (fun _ => ?_)
      | with_reducible refine State.bufAlloc_law ?_ _ _  ?_ ?_
      | with_reducible refine State.bufFreeAll_law ?_ _ _  ?_ ?_
      | with_reducible refine Law.of_fst (by assumption) ?_
      | split
      | dsimp only [id]
  | succ n ih =>
    unfold State.bufExtents
    try dsimp only
    repeat' first
      | with_reducible assumption
      | with_reducible apply ih
      | with_reducible exact Law.refl _ _ _
      | exact sub_trans rfl hW
      | exact sub_trans rfl hP
      | with_reducible refine Law.ite (fun _ => ?_) (fun _ => ?_)
      | with_reducible refine State.bufAlloc_law ?_ _ _  ?_ ?_
      | with_reducible refine State.bufFreeAll_law ?_ _ _  ?_ ?_
      | with_reducible refine Law.of_fst (by assumption) ?_
      | split
      | dsimp only [id]

theorem State.ingressExtents_law {W P : Nat} {s0 s : State} (h : Law W P s0 s) (len tag : Nat) (hW : 0x1f0000000000000002000000000001e &&& W = 0x1f0000000000000002000000000001e) (hP : 0x14810c &&& P = 0x14810c) :
    Law W P s0 (State.ingressExtents s len tag).1 := by
  unfold State.ingressExtents
  try dsimp only
  repeat' first
    | with_reducible assumption
    | with_reducible exact Law.refl _ _ _
    | exact sub_trans rfl hW
    | exact sub_trans rfl hP
    | with_reducible refine State.bufExtents_law ?_ _ _ _ _ _ _  ?_ ?_
    | split
    | dsimp only [id]

theorem State.takeExtents_law {W P : Nat} {s0 s : State} (h : Law W P s0 s) (i p len : Nat) (hW : 0x7f0000000000000002000000000001e &&& W = 0x7f0000000000000002000000000001e) (hP : 0x14810c &&& P = 0x14810c) :
    Law W P s0 (State.takeExtents s i p len).1 := by
  unfold State.takeExtents
  try dsimp only
  repeat' first
    | with_reducible assumption
    | with_reducible exact Law.refl _ _ _
    | exact sub_trans rfl hW
    | exact sub_trans rfl hP
    | with_reducible refine Law.ite (fun _ => ?_) (fun _ => ?_)
    | with_reducible refine State.count_law ?_ _ ?_
    | with_reducible refine State.ingressExtents_law ?_ _ _  ?_ ?_
    | exact InMask.mk 121 hW rfl rfl (Reg.PRT_FAB_CNT_has_0 _)
    | exact InMask.mk 122 hW rfl rfl (Reg.BPM_CNT_has_2)
    | with_reducible refine Law.of_fst (by assumption) ?_
    | split
    | dsimp only [id]

theorem State.cutFrame_law {W P : Nat} {s0 s : State} (h : Law W P s0 s) (i : Nat) (hs : List Nat) (hW : 0x190000000000000002000000000001e &&& W = 0x190000000000000002000000000001e) (hP : 0x10810c &&& P = 0x10810c) :
    Law W P s0 (State.cutFrame s i hs) := by
  unfold State.cutFrame
  try dsimp only
  repeat' first
    | with_reducible assumption
    | with_reducible exact Law.refl _ _ _
    | exact sub_trans rfl hW
    | exact sub_trans rfl hP
    | with_reducible refine State.bufFreeAll_law ?_ _ _  ?_ ?_
    | dsimp only [id]

theorem State.passCells_law {W P : Nat} {s0 s : State} (h : Law W P s0 s) (p len : Nat) (hW : 0x7f0000000000000002000000000001e &&& W = 0x7f0000000000000002000000000001e) (hP : 0x14810c &&& P = 0x14810c) :
    Law W P s0 (State.passCells s p len).1 := by
  unfold State.passCells
  try dsimp only
  repeat' first
    | with_reducible assumption
    | with_reducible exact Law.refl _ _ _
    | exact sub_trans rfl hW
    | exact sub_trans rfl hP
    | with_reducible refine State.takeExtents_law ?_ _ _ _  ?_ ?_
    | with_reducible refine State.cutFrame_law ?_ _ _  ?_ ?_
    | with_reducible refine Law.of_fst (by assumption) ?_
    | split
    | dsimp only [id]

theorem State.setP0use_law {W P : Nat} {s0 s : State} (h : Law W P s0 s) (p : Nat) (u : Nat × Nat × Nat) (hW : 0x0 &&& W = 0x0) (hP : 0x8000 &&& P = 0x8000) :
    Law W P s0 (State.setP0use s p u) := by
  unfold State.setP0use
  try dsimp only
  repeat' first
    | with_reducible assumption
    | with_reducible exact Law.refl _ _ _
    | exact sub_trans rfl hW
    | exact sub_trans rfl hP
    | with_reducible refine State.setFab_law ?_ _  ?_ ?_
    | dsimp only [id]

theorem State.takeCells_law {W P : Nat} {s0 s : State} (h : Law W P s0 s) (x1 : Nat) (hW : 0x300000000000000020000000000012 &&& W = 0x300000000000000020000000000012) (hP : 0x148104 &&& P = 0x148104) :
    Law W P s0 (State.takeCells s x1).1 := by
  induction x1 generalizing s with
  | zero =>
    unfold State.takeCells
    try dsimp only
    repeat' first
      | with_reducible assumption
      | with_reducible exact Law.refl _ _ _
      | exact sub_trans rfl hW
      | exact sub_trans rfl hP
      | with_reducible refine State.bufTake_law ?_ _ _  ?_ ?_
      | with_reducible refine Law.of_fst (by assumption) ?_
      | split
      | dsimp only [id]
  | succ n ih =>
    unfold State.takeCells
    try dsimp only
    repeat' first
      | with_reducible assumption
      | with_reducible apply ih
      | with_reducible exact Law.refl _ _ _
      | exact sub_trans rfl hW
      | exact sub_trans rfl hP
      | with_reducible refine State.bufTake_law ?_ _ _  ?_ ?_
      | with_reducible refine Law.of_fst (by assumption) ?_
      | split
      | dsimp only [id]

theorem State.markCells_law {W P : Nat} {s0 s : State} (h : Law W P s0 s) (p a b : Nat) (hs : List Nat) (hW : 0x0 &&& W = 0x0) (hP : 0x8000 &&& P = 0x8000) :
    Law W P s0 (State.markCells s p a b hs) := by
  unfold State.markCells
  try dsimp only
  repeat' first
    | with_reducible assumption
    | with_reducible exact Law.refl _ _ _
    | exact sub_trans rfl hW
    | exact sub_trans rfl hP
    | with_reducible refine Law.ite (fun _ => ?_) (fun _ => ?_)
    | with_reducible refine State.setFab_law ?_ _  ?_ ?_
    | with_reducible refine Law.foldl _ ?_ (fun _ _ _ => ?_)
    | with_reducible refine Law.foldl_fst _ ?_ (fun _ _ _ _ => ?_)
    | with_reducible refine Law.of_fst (by assumption) ?_
    | split
    | dsimp only [id]

theorem State.landSecure_law {W P : Nat} {s0 s : State} (h : Law W P s0 s) (p : Nat) (x : Nat × Nat × Nat) (hW : 0x8b00000000000000020000000000012 &&& W = 0x8b00000000000000020000000000012) (hP : 0x148104 &&& P = 0x148104) :
    Law W P s0 (State.landSecure s p x).1 := by
  unfold State.landSecure
  try dsimp only
  repeat' first
    | with_reducible assumption
    | with_reducible exact Law.refl _ _ _
    | exact sub_trans rfl hW
    | exact sub_trans rfl hP
    | with_reducible refine State.setFld_law ?_ _ _ ?_
    | with_reducible refine State.setP0use_law ?_ _ _  ?_ ?_
    | with_reducible refine State.setShared_law ?_ _  ?_ ?_
    | with_reducible refine State.takeCells_law ?_ _  ?_ ?_
    | with_reducible refine State.markCells_law ?_ _ _ _ _  ?_ ?_
    | exact InMask.mk 123 hW rfl rfl (Reg.BPM_P0_SPLIT_has)
    | with_reducible refine Law.of_fst (by assumption) ?_
    | split
    | dsimp only [id]

theorem State.landFree_law {W P : Nat} {s0 s : State} (h : Law W P s0 s) (p : Nat) (l : Landing) (hW : 0x990000000000000002000000000001e &&& W = 0x990000000000000002000000000001e) (hP : 0x10810c &&& P = 0x10810c) :
    Law W P s0 (State.landFree s p l) := by
  unfold State.landFree
  try dsimp only
  repeat' first
    | with_reducible assumption
    | with_reducible exact Law.refl _ _ _
    | exact sub_trans rfl hW
    | exact sub_trans rfl hP
    | with_reducible refine Law.ite (fun _ => ?_) (fun _ => ?_)
    | with_reducible refine State.setFld_law ?_ _ _ ?_
    | with_reducible refine State.setP0use_law ?_ _ _  ?_ ?_
    | with_reducible refine State.setShared_law ?_ _  ?_ ?_
    | with_reducible refine State.bufReturn_law ?_ _  ?_ ?_
    | with_reducible refine State.bufFails_law ?_ _ _ _  ?_ ?_
    | exact InMask.mk 123 hW rfl rfl (Reg.BPM_P0_SPLIT_has)
    | with_reducible refine Law.foldl _ ?_ (fun _ _ _ => ?_)
    | with_reducible refine Law.foldl_fst _ ?_ (fun _ _ _ _ => ?_)
    | with_reducible refine Law.of_fst (by assumption) ?_
    | split
    | dsimp only [id]

theorem State.hostFree_law {W P : Nat} {s0 s : State} (h : Law W P s0 s) (a : Acc) (h : Nat) (hE : InMask W (Reg.ERR_STATUS a.base)) (hO : InMask W (Reg.ERR_OFS a.base)) (hW : 0x190000000000000002000000000001e &&& W = 0x190000000000000002000000000001e) (hP : 0x10810c &&& P = 0x10810c) :
    Law W P s0 (State.hostFree s a h) := by
  unfold State.hostFree
  try dsimp only
  repeat' first
    | with_reducible assumption
    | with_reducible exact Law.refl _ _ _
    | exact sub_trans rfl hW
    | exact sub_trans rfl hP
    | exact hE
    | exact hO
    | with_reducible refine Law.ite (fun _ => ?_) (fun _ => ?_)
    | with_reducible refine State.guard_law ?_ _ _ _ ?_ ?_ (fun _ _ => ?_) ?_ ?_
    | with_reducible refine State.bufFree_law ?_ _ _  ?_ ?_
    | with_reducible refine State.recordErr_law ?_ _ _ ?_ ?_ ?_ ?_
    | split
    | dsimp only [id]

theorem execHostBufferFree_law {W P : Nat} (s : State) (h : BitVec 32) (hW : 0x60000000000000000000000000000000000000000000000000000190000000000000002000000000001e &&& W = 0x60000000000000000000000000000000000000000000000000000190000000000000002000000000001e) (hP : 0x10810c &&& P = 0x10810c) :
    OutLaw W P s (execHostBufferFree h s) := by
  unfold execHostBufferFree
  try dsimp only
  repeat' first
    | with_reducible assumption
    | with_reducible exact OutLaw.fault _
    | with_reducible refine OutLaw.ite (fun _ => ?_) (fun _ => ?_)
    | with_reducible refine OutLaw.next ?_
    | with_reducible exact Law.refl _ _ _
    | exact sub_trans rfl hW
    | exact sub_trans rfl hP
    | with_reducible refine State.hostFree_law ?_ _ _ ?_ ?_ ?_ ?_
    | exact InMask.mk 333 hW rfl rfl (Reg.ERR_STATUS_has_BPM)
    | exact InMask.mk 334 hW rfl rfl (Reg.ERR_OFS_has_BPM)
    | dsimp only [id]

theorem State.lowClear_law {W P : Nat} {s0 s : State} (h : Law W P s0 s) (a : Acc) (rsv : Bool) (hE : InMask W (Reg.ERR_STATUS a.base)) (hO : InMask W (Reg.ERR_OFS a.base)) (hW : 0x200000000000000000000000000012 &&& W = 0x200000000000000000000000000012) (hP : 0x100004 &&& P = 0x100004) :
    Law W P s0 (State.lowClear s a rsv) := by
  unfold State.lowClear
  try dsimp only
  repeat' first
    | with_reducible assumption
    | with_reducible exact Law.refl _ _ _
    | exact sub_trans rfl hW
    | exact sub_trans rfl hP
    | exact hE
    | exact hO
    | with_reducible refine State.setFld_law ?_ _ _ ?_
    | with_reducible refine State.guard_law ?_ _ _ _ ?_ ?_ (fun _ _ => ?_) ?_ ?_
    | exact InMask.mk 117 hW rfl rfl (Reg.BPM_POOL_LOW_has _)
    | with_reducible refine Law.foldl _ ?_ (fun _ _ _ => ?_)
    | with_reducible refine Law.foldl_fst _ ?_ (fun _ _ _ _ => ?_)
    | dsimp only [id]

theorem execPoolLowClear_law {W P : Nat} (s : State)  (hW : 0x600000000000000000000000000000000000000000000000000000200000000000000000000000000012 &&& W = 0x600000000000000000000000000000000000000000000000000000200000000000000000000000000012) (hP : 0x100004 &&& P = 0x100004) :
    OutLaw W P s (execPoolLowClear s) := by
  unfold execPoolLowClear
  try dsimp only
  repeat' first
    | with_reducible assumption
    | with_reducible exact OutLaw.fault _
    | with_reducible refine OutLaw.ite (fun _ => ?_) (fun _ => ?_)
    | with_reducible refine OutLaw.next ?_
    | with_reducible exact Law.refl _ _ _
    | exact sub_trans rfl hW
    | exact sub_trans rfl hP
    | with_reducible refine State.lowClear_law ?_ _ _ ?_ ?_ ?_ ?_
    | exact InMask.mk 333 hW rfl rfl (Reg.ERR_STATUS_has_BPM)
    | exact InMask.mk 334 hW rfl rfl (Reg.ERR_OFS_has_BPM)
    | dsimp only [id]

end Sys2Proof.Machine
end

