-- ==== Sys2Proof/Laws/LawLanding.lean ====
section
/-! SUPPORT. The law of every operation of Machine/Landing.lean: what it may change (Laws/Law.lean). -/

set_option linter.all false

namespace Sys2Proof.Machine

theorem downAt_in {m W : Nat} (dark : Bool) (p : Nat) (f : Frame) (multi : Bool) (hm : m &&& W = m) (h3 : m.testBit 133 = true) (h2 : m.testBit 134 = true)
    (h14 : m.testBit 135 = true) : InMask W (downAt dark p f multi) := by
  unfold downAt
  split
  · exact InMask.mk 135 hm h14 rfl (Reg.SLC_CNT_has_14 _)
  · split
    · exact InMask.mk 133 hm h3 rfl (Reg.PRT_FAB_CNT_has_3 _)
    · exact InMask.mk 134 hm h2 rfl (Reg.PRT_FAB_CNT_has_2 _)

theorem State.frameEnd_law {W P : Nat} {s0 s : State} (h : Law W P s0 s) (f : Frame) (result : Nat) (stamp : Time16) (hW : 0x4000000 &&& W = 0x4000000) (hP : 0x10 &&& P = 0x10) :
    Law W P s0 (State.frameEnd s f result stamp) := by
  unfold State.frameEnd
  try dsimp only
  repeat' first
    | with_reducible assumption
    | with_reducible exact Law.refl _ _ _
    | exact sub_trans rfl hW
    | exact sub_trans rfl hP
    | with_reducible refine Law.ite (fun _ => ?_) (fun _ => ?_)
    | with_reducible refine State.setFld_law ?_ _ _ ?_
    | exact InMask.mk 26 hW rfl rfl (Reg.CD_RP_STATUS_has _)
    | split
    | dsimp only [id]
    | with_reducible refine Law.put ?_ ?_ ?_ ?_ ?_ ?_ ?_ ?_ ?_ ?_ ?_ ?_ ?_ ?_ ?_ ?_ ?_ ?_ ?_ ?_ ?_ ?_
    | with_reducible exact Or.inl rfl
    | exact Or.inr (partIn hP rfl)

theorem State.copyDrop_law {W P : Nat} {s0 s : State} (h : Law W P s0 s) (p : Nat) (c : Copy) (cnt result : Nat) (ha : InMask W cnt) (hW : 0x990000000000000002000000400001e &&& W = 0x990000000000000002000000400001e) (hP : 0x10811c &&& P = 0x10811c) :
    Law W P s0 (State.copyDrop s p c cnt result) := by
  unfold State.copyDrop
  try dsimp only
  repeat' first
    | with_reducible assumption
    | with_reducible exact Law.refl _ _ _
    | exact sub_trans rfl hW
    | exact sub_trans rfl hP
    | exact ha
    | with_reducible refine State.count_law ?_ _ ?_
    | with_reducible refine State.landFree_law ?_ _ _  ?_ ?_
    | with_reducible refine State.frameEnd_law ?_ _ _ _  ?_ ?_
    | dsimp only [id]

theorem State.setEgp_law {W P : Nat} {s0 s : State} (h : Law W P s0 s) (p : Nat) (e : EgPort) (hW : 0x30000000000000000000000000000000 &&& W = 0x30000000000000000000000000000000) (hP : 0x8000 &&& P = 0x8000) :
    Law W P s0 (State.setEgp s p e) := by
  unfold State.setEgp
  try dsimp only
  repeat' first
    | with_reducible assumption
    | with_reducible exact Law.refl _ _ _
    | exact sub_trans rfl hW
    | exact sub_trans rfl hP
    | with_reducible refine State.setFld_law ?_ _ _ ?_
    | with_reducible refine State.setFab_law ?_ _  ?_ ?_
    | exact InMask.mk 124 hW rfl rfl (Reg.PRT_LT_STATUS_has _)
    | exact InMask.mk 125 hW rfl rfl (Reg.PRT_LT_NEXT_has _)
    | with_reducible refine Law.of_fst (by assumption) ?_
    | split
    | dsimp only [id]

theorem State.cbsAdvance_law {W P : Nat} {s0 s : State} (h : Law W P s0 s) (p c : Nat) (hW : 0x30000000000000000000000000000000 &&& W = 0x30000000000000000000000000000000) (hP : 0x8000 &&& P = 0x8000) :
    Law W P s0 (State.cbsAdvance s p c) := by
  unfold State.cbsAdvance
  try dsimp only
  repeat' first
    | with_reducible assumption
    | with_reducible exact Law.refl _ _ _
    | exact sub_trans rfl hW
    | exact sub_trans rfl hP
    | with_reducible refine Law.ite (fun _ => ?_) (fun _ => ?_)
    | with_reducible refine State.setEgp_law ?_ _ _  ?_ ?_
    | split
    | dsimp only [id]

theorem State.wdWatch_law {W P : Nat} {s0 s : State} (h : Law W P s0 s) (p : Nat) (hW : 0x30000000000000000000000000000000 &&& W = 0x30000000000000000000000000000000) (hP : 0x8000 &&& P = 0x8000) :
    Law W P s0 (State.wdWatch s p) := by
  unfold State.wdWatch
  try dsimp only
  repeat' first
    | with_reducible assumption
    | with_reducible exact Law.refl _ _ _
    | exact sub_trans rfl hW
    | exact sub_trans rfl hP
    | with_reducible refine Law.ite (fun _ => ?_) (fun _ => ?_)
    | with_reducible refine State.setEgp_law ?_ _ _  ?_ ?_
    | split
    | dsimp only [id]

theorem State.wdStart_law {W P : Nat} {s0 s : State} (h : Law W P s0 s) (p c : Nat) (hW : 0x30000000000000000000000000000000 &&& W = 0x30000000000000000000000000000000) (hP : 0x8000 &&& P = 0x8000) :
    Law W P s0 (State.wdStart s p c) := by
  unfold State.wdStart
  try dsimp only
  repeat' first
    | with_reducible assumption
    | with_reducible exact Law.refl _ _ _
    | exact sub_trans rfl hW
    | exact sub_trans rfl hP
    | with_reducible refine State.setEgp_law ?_ _ _  ?_ ?_
    | dsimp only [id]

theorem State.trunkWake_law {W P : Nat} {s0 s : State} (h : Law W P s0 s) (p : Nat) (hW : 0x0 &&& W = 0x0) (hP : 0x110000 &&& P = 0x110000) :
    Law W P s0 (State.trunkWake s p) := by
  unfold State.trunkWake
  try dsimp only
  repeat' first
    | with_reducible assumption
    | with_reducible exact Law.refl _ _ _
    | exact sub_trans rfl hW
    | exact sub_trans rfl hP
    | with_reducible refine Law.ite (fun _ => ?_) (fun _ => ?_)
    | with_reducible refine State.setTrunk_law ?_ _ _  ?_ ?_
    | with_reducible refine State.txBurst_law ?_ _  ?_ ?_
    | split
    | dsimp only [id]

theorem State.egQueue_law {W P : Nat} {s0 s : State} (h : Law W P s0 s) (p : Nat) (c : Copy) (hW : 0x7f990000000000000002000000400001e &&& W = 0x7f990000000000000002000000400001e) (hP : 0x11811c &&& P = 0x11811c) :
    Law W P s0 (State.egQueue s p c) := by
  unfold State.egQueue
  try dsimp only
  repeat' first
    | with_reducible assumption
    | with_reducible exact Law.refl _ _ _
    | exact sub_trans rfl hW
    | exact sub_trans rfl hP
    | with_reducible refine Law.ite (fun _ => ?_) (fun _ => ?_)
    | with_reducible refine State.count_law ?_ _ ?_
    | with_reducible refine State.copyDrop_law ?_ _ _ _ _ ?_ ?_ ?_
    | with_reducible refine State.cbsAdvance_law ?_ _ _  ?_ ?_
    | with_reducible refine State.setEgp_law ?_ _ _  ?_ ?_
    | with_reducible refine State.wdWatch_law ?_ _  ?_ ?_
    | with_reducible refine State.trunkWake_law ?_ _  ?_ ?_
    | exact InMask.mk 126 hW rfl rfl (Reg.PRT_EG_CNT_has_7 _)
    | exact InMask.mk 127 hW rfl rfl (Reg.PRT_EG_CNT_has_9 _)
    | exact InMask.mk 128 hW rfl rfl (Reg.PRT_EG_CNT_has_4 _)
    | exact InMask.mk 129 hW rfl rfl (Reg.PRT_EG_CNT_has_5 _)
    | exact InMask.mk 130 hW rfl rfl (Reg.PRT_EG_CNT_has_6 _)
    | with_reducible refine Law.of_fst (by assumption) ?_
    | split
    | dsimp only [id]

theorem State.setFrer_law {W P : Nat} {s0 s : State} (h : Law W P s0 s) (i : Nat) (x : FrerInst) (hW : 0x0 &&& W = 0x0) (hP : 0x8000 &&& P = 0x8000) :
    Law W P s0 (State.setFrer s i x) := by
  unfold State.setFrer
  try dsimp only
  repeat' first
    | with_reducible assumption
    | with_reducible exact Law.refl _ _ _
    | exact sub_trans rfl hW
    | exact sub_trans rfl hP
    | with_reducible refine State.setFab_law ?_ _  ?_ ?_
    | dsimp only [id]

theorem State.frerCount_law {W P : Nat} {s0 s : State} (h : Law W P s0 s) (i n k : Nat) (hW : 0x800000000000000000000000000000000 &&& W = 0x800000000000000000000000000000000) (hP : 0x8000 &&& P = 0x8000) :
    Law W P s0 (State.frerCount s i n k) := by
  unfold State.frerCount
  try dsimp only
  repeat' first
    | with_reducible assumption
    | with_reducible exact Law.refl _ _ _
    | exact sub_trans rfl hW
    | exact sub_trans rfl hP
    | with_reducible refine Law.ite (fun _ => ?_) (fun _ => ?_)
    | with_reducible refine State.wr_law ?_ _ _ ?_
    | with_reducible refine State.setFrer_law ?_ _ _  ?_ ?_
    | exact InMask.mk 131 hW rfl rfl (Reg.FAB_FRER_CNT_has _)
    | split
    | dsimp only [id]

theorem State.frerLand_law {W P : Nat} {s0 s : State} (h : Law W P s0 s) (p : Nat) (c : Copy) (drawn : Option Nat) (hW : 0x800000000000000000000000000000000 &&& W = 0x800000000000000000000000000000000) (hP : 0x8000 &&& P = 0x8000) :
    Law W P s0 (State.frerLand s p c drawn).1 := by
  unfold State.frerLand
  try dsimp only
  repeat' first
    | with_reducible assumption
    | with_reducible exact Law.refl _ _ _
    | exact sub_trans rfl hW
    | exact sub_trans rfl hP
    | with_reducible refine Law.ite (fun _ => ?_) (fun _ => ?_)
    | with_reducible refine State.setFrer_law ?_ _ _  ?_ ?_
    | with_reducible refine State.frerCount_law ?_ _ _ _  ?_ ?_
    | with_reducible refine Law.foldl _ ?_ (fun _ _ _ => ?_)
    | with_reducible refine Law.foldl_fst _ ?_ (fun _ _ _ _ => ?_)
    | with_reducible refine Law.of_fst (by assumption) ?_
    | split
    | dsimp only [id]

theorem State.landCopy_law {W P : Nat} {s0 s : State} (h : Law W P s0 s) (p : Nat) (c : Copy) (dead : Option Bool) (drawn : Option Nat) (hW : 0x1fff990000000000000002000000400001e &&& W = 0x1fff990000000000000002000000400001e) (hP : 0x11811c &&& P = 0x11811c) :
    Law W P s0 (State.landCopy s p c dead drawn).1 := by
  unfold State.landCopy
  try dsimp only
  repeat' first
    | with_reducible assumption
    | with_reducible exact Law.refl _ _ _
    | exact sub_trans rfl hW
    | exact sub_trans rfl hP
    | with_reducible refine Law.ite (fun _ => ?_) (fun _ => ?_)
    | with_reducible refine State.count_law ?_ _ ?_
    | with_reducible refine State.copyDrop_law ?_ _ _ _ _ ?_ ?_ ?_
    | with_reducible refine State.frerLand_law ?_ _ _ _  ?_ ?_
    | with_reducible refine State.landFree_law ?_ _ _  ?_ ?_
    | with_reducible refine State.frameEnd_law ?_ _ _ _  ?_ ?_
    | with_reducible refine State.egQueue_law ?_ _ _  ?_ ?_
    | exact InMask.mk 132 hW rfl rfl (Reg.PRT_FAB_CNT_has_1 _)
    | exact InMask.mk 133 hW rfl rfl (Reg.PRT_FAB_CNT_has_3 _)
    | exact InMask.mk 134 hW rfl rfl (Reg.PRT_FAB_CNT_has_2 _)
    | exact InMask.mk 135 hW rfl rfl (Reg.SLC_CNT_has_14 _)
    | exact InMask.mk 136 hW rfl rfl (Reg.PRT_FAB_CNT_has_6 _)
    | exact downAt_in _ _ _ _ hW rfl rfl rfl
    | with_reducible refine Law.of_fst (by assumption) ?_
    | split
    | dsimp only [id]

theorem State.frerCmd_law {W P : Nat} {s0 s : State} (h : Law W P s0 s) (a : Acc) (op : Nat) (rsv : Bool) (hE : InMask W (Reg.ERR_STATUS a.base)) (hO : InMask W (Reg.ERR_OFS a.base)) (hW : 0x60800000000000000000000000000000012 &&& W = 0x60800000000000000000000000000000012) (hP : 0x108004 &&& P = 0x108004) :
    Law W P s0 (State.frerCmd s a op rsv) := by
  unfold State.frerCmd
  try dsimp only
  repeat' first
    | with_reducible assumption
    | with_reducible exact Law.refl _ _ _
    | exact sub_trans rfl hW
    | exact sub_trans rfl hP
    | exact hE
    | exact hO
    | with_reducible refine Law.ite (fun _ => ?_) (fun _ => ?_)
    | with_reducible refine State.wr_law ?_ _ _ ?_
    | with_reducible refine State.guard_law ?_ _ _ _ ?_ ?_ (fun _ _ => ?_) ?_ ?_
    | with_reducible refine State.setFrer_law ?_ _ _  ?_ ?_
    | with_reducible refine State.frerCount_law ?_ _ _ _  ?_ ?_
    | exact InMask.mk 137 hW rfl rfl (Reg.FAB_FRER_CFG0_has)
    | exact InMask.mk 138 hW rfl rfl (Reg.FAB_FRER_CFG1_has)
    | split
    | dsimp only [id]

theorem execFrerWrite_law {W P : Nat} (s : State)  (hW : 0x1800000000000000000000000000000000000000000000000060800000000000000000000000000000012 &&& W = 0x1800000000000000000000000000000000000000000000000060800000000000000000000000000000012) (hP : 0x108004 &&& P = 0x108004) :
    OutLaw W P s (execFrerWrite s) := by
  unfold execFrerWrite
  try dsimp only
  repeat' first
    | with_reducible assumption
    | with_reducible exact OutLaw.fault _
    | with_reducible refine OutLaw.ite (fun _ => ?_) (fun _ => ?_)
    | with_reducible refine OutLaw.next ?_
    | with_reducible exact Law.refl _ _ _
    | exact sub_trans rfl hW
    | exact sub_trans rfl hP
    | with_reducible refine State.frerCmd_law ?_ _ _ _ ?_ ?_ ?_ ?_
    | exact InMask.mk 335 hW rfl rfl (Reg.ERR_STATUS_has_FAB)
    | exact InMask.mk 336 hW rfl rfl (Reg.ERR_OFS_has_FAB)
    | dsimp only [id]

theorem execFrerRead_law {W P : Nat} (s : State)  (hW : 0x1800000000000000000000000000000000000000000000000060800000000000000000000000000000012 &&& W = 0x1800000000000000000000000000000000000000000000000060800000000000000000000000000000012) (hP : 0x108004 &&& P = 0x108004) :
    OutLaw W P s (execFrerRead s) := by
  unfold execFrerRead
  try dsimp only
  repeat' first
    | with_reducible assumption
    | with_reducible exact OutLaw.fault _
    | with_reducible refine OutLaw.ite (fun _ => ?_) (fun _ => ?_)
    | with_reducible refine OutLaw.next ?_
    | with_reducible exact Law.refl _ _ _
    | exact sub_trans rfl hW
    | exact sub_trans rfl hP
    | with_reducible refine State.frerCmd_law ?_ _ _ _ ?_ ?_ ?_ ?_
    | exact InMask.mk 335 hW rfl rfl (Reg.ERR_STATUS_has_FAB)
    | exact InMask.mk 336 hW rfl rfl (Reg.ERR_OFS_has_FAB)
    | dsimp only [id]

theorem execFrerReset_law {W P : Nat} (s : State)  (hW : 0x1800000000000000000000000000000000000000000000000060800000000000000000000000000000012 &&& W = 0x1800000000000000000000000000000000000000000000000060800000000000000000000000000000012) (hP : 0x108004 &&& P = 0x108004) :
    OutLaw W P s (execFrerReset s) := by
  unfold execFrerReset
  try dsimp only
  repeat' first
    | with_reducible assumption
    | with_reducible exact OutLaw.fault _
    | with_reducible refine OutLaw.ite (fun _ => ?_) (fun _ => ?_)
    | with_reducible refine OutLaw.next ?_
    | with_reducible exact Law.refl _ _ _
    | exact sub_trans rfl hW
    | exact sub_trans rfl hP
    | with_reducible refine State.frerCmd_law ?_ _ _ _ ?_ ?_ ?_ ?_
    | exact InMask.mk 335 hW rfl rfl (Reg.ERR_STATUS_has_FAB)
    | exact InMask.mk 336 hW rfl rfl (Reg.ERR_OFS_has_FAB)
    | dsimp only [id]

theorem execFrerRecoveryTimeout_law {W P : Nat} (s : State) (i : Nat) (hW : 0x800000000000000000000000000000000 &&& W = 0x800000000000000000000000000000000) (hP : 0x8000 &&& P = 0x8000) :
    OutLaw W P s (execFrerRecoveryTimeout i s) := by
  unfold execFrerRecoveryTimeout
  try dsimp only
  repeat' first
    | with_reducible assumption
    | with_reducible exact OutLaw.fault _
    | with_reducible refine OutLaw.ite (fun _ => ?_) (fun _ => ?_)
    | with_reducible refine OutLaw.next ?_
    | with_reducible exact Law.refl _ _ _
    | exact sub_trans rfl hW
    | exact sub_trans rfl hP
    | with_reducible refine Law.ite (fun _ => ?_) (fun _ => ?_)
    | with_reducible refine State.setFrer_law ?_ _ _  ?_ ?_
    | with_reducible refine State.frerCount_law ?_ _ _ _  ?_ ?_
    | split
    | dsimp only [id]

end Sys2Proof.Machine
end

