-- ==== Sys2Proof/Laws/LawFabric.lean ====
section
/-! SUPPORT. The law of every operation of Machine/Fabric.lean: what it may change (Laws/Law.lean). -/

set_option linter.all false

namespace Sys2Proof.Machine

theorem State.setVoq_law {W P : Nat} {s0 s : State} (h : Law W P s0 s) (key : Nat) (v : Voq) (hW : 0x180000000000000000000000000000000000 &&& W = 0x180000000000000000000000000000000000) (hP : 0x8000 &&& P = 0x8000) :
    Law W P s0 (State.setVoq s key v) := by
  unfold State.setVoq
  try dsimp only
  repeat' first
    | with_reducible assumption
    | with_reducible exact Law.refl _ _ _
    | exact sub_trans rfl hW
    | exact sub_trans rfl hP
    | with_reducible refine Law.ite (fun _ => ?_) (fun _ => ?_)
    | with_reducible refine State.setFld_law ?_ _ _ ?_
    | with_reducible refine State.setFab_law ?_ _  ?_ ?_
    | exact InMask.mk 139 hW rfl rfl (Reg.FAB_VOQ_OCC_has)
    | exact InMask.mk 140 hW rfl rfl (Reg.FAB_VOQ_SPILL_has)
    | split
    | dsimp only [id]

theorem State.voqShow_law {W P : Nat} {s0 s : State} (h : Law W P s0 s) (hW : 0x180000000000000000000000000000000000 &&& W = 0x180000000000000000000000000000000000) (hP : 0x8000 &&& P = 0x8000) :
    Law W P s0 (State.voqShow s) := by
  unfold State.voqShow
  try dsimp only
  repeat' first
    | with_reducible assumption
    | with_reducible exact Law.refl _ _ _
    | exact sub_trans rfl hW
    | exact sub_trans rfl hP
    | with_reducible refine State.setVoq_law ?_ _ _  ?_ ?_
    | dsimp only [id]

theorem State.spillBlock_law {W P : Nat} {s0 s : State} (h : Law W P s0 s) (v : Voq) (len : Nat) (hW : 0x300000000000000020000000000012 &&& W = 0x300000000000000020000000000012) (hP : 0x148104 &&& P = 0x148104) :
    Law W P s0 (State.spillBlock s v len).1 := by
  unfold State.spillBlock
  try dsimp only
  repeat' first
    | with_reducible assumption
    | with_reducible exact Law.refl _ _ _
    | exact sub_trans rfl hW
    | exact sub_trans rfl hP
    | with_reducible refine Law.ite (fun _ => ?_) (fun _ => ?_)
    | with_reducible refine State.bufEmpty_law ?_ _  ?_ ?_
    | with_reducible refine State.bufTake_law ?_ _ _  ?_ ?_
    | with_reducible refine Law.of_fst (by assumption) ?_
    | split
    | dsimp only [id]

theorem State.voqPush_law {W P : Nat} {s0 s : State} (h : Law W P s0 s) (key : Nat) (f : Frame) (hW : 0x780001b0000000000000002000000000001e &&& W = 0x780001b0000000000000002000000000001e) (hP : 0x14810c &&& P = 0x14810c) :
    Law W P s0 (State.voqPush s key f) := by
  unfold State.voqPush
  try dsimp only
  repeat' first
    | with_reducible assumption
    | with_reducible exact Law.refl _ _ _
    | exact sub_trans rfl hW
    | exact sub_trans rfl hP
    | with_reducible refine Law.ite (fun _ => ?_) (fun _ => ?_)
    | with_reducible refine State.count_law ?_ _ ?_
    | with_reducible refine State.setVoq_law ?_ _ _  ?_ ?_
    | with_reducible refine State.spillBlock_law ?_ _ _  ?_ ?_
    | with_reducible refine State.bufFreeAll_law ?_ _ _  ?_ ?_
    | exact InMask.mk 141 hW rfl rfl (Reg.BPM_CNT_has_10)
    | exact InMask.mk 142 hW rfl rfl (Reg.BPM_CNT_has_12)
    | with_reducible refine Law.of_fst (by assumption) ?_
    | split
    | dsimp only [id]

theorem State.freeBlocks_law {W P : Nat} {s0 s : State} (h : Law W P s0 s) (before after : Voq) (hW : 0x190000000000000002000000000001e &&& W = 0x190000000000000002000000000001e) (hP : 0x10810c &&& P = 0x10810c) :
    Law W P s0 (State.freeBlocks s before after) := by
  unfold State.freeBlocks
  try dsimp only
  repeat' first
    | with_reducible assumption
    | with_reducible exact Law.refl _ _ _
    | exact sub_trans rfl hW
    | exact sub_trans rfl hP
    | with_reducible refine State.bufFreeAll_law ?_ _ _  ?_ ?_
    | dsimp only [id]

theorem State.spillRefill_law {W P : Nat} {s0 s : State} (h : Law W P s0 s) (key : Nat) (hW : 0x980001f0000000000000002000000000001e &&& W = 0x980001f0000000000000002000000000001e) (hP : 0x14810c &&& P = 0x14810c) :
    Law W P s0 (State.spillRefill s key) := by
  unfold State.spillRefill
  try dsimp only
  repeat' first
    | with_reducible assumption
    | with_reducible exact Law.refl _ _ _
    | exact sub_trans rfl hW
    | exact sub_trans rfl hP
    | with_reducible refine Law.ite (fun _ => ?_) (fun _ => ?_)
    | with_reducible refine State.count_law ?_ _ ?_
    | with_reducible refine State.setVoq_law ?_ _ _  ?_ ?_
    | with_reducible refine State.bufExtents_law ?_ _ _ _ _ _ _  ?_ ?_
    | with_reducible refine State.freeBlocks_law ?_ _ _  ?_ ?_
    | exact InMask.mk 143 hW rfl rfl (Reg.BPM_CNT_has_11)
    | with_reducible refine Law.of_fst (by assumption) ?_
    | split
    | dsimp only [id]

theorem execSpillRefill_law {W P : Nat} (s : State) (i n c : Nat) (hW : 0x980001f0000000000000002000000000001e &&& W = 0x980001f0000000000000002000000000001e) (hP : 0x14810c &&& P = 0x14810c) :
    OutLaw W P s (execSpillRefill i n c s) := by
  unfold execSpillRefill
  try dsimp only
  repeat' first
    | with_reducible assumption
    | with_reducible exact OutLaw.fault _
    | with_reducible refine OutLaw.ite (fun _ => ?_) (fun _ => ?_)
    | with_reducible refine OutLaw.next ?_
    | with_reducible exact Law.refl _ _ _
    | exact sub_trans rfl hW
    | exact sub_trans rfl hP
    | with_reducible refine Law.ite (fun _ => ?_) (fun _ => ?_)
    | with_reducible refine State.spillRefill_law ?_ _  ?_ ?_
    | split
    | dsimp only [id]

theorem State.enqueue_law {W P : Nat} {s0 s : State} (h : Law W P s0 s) (own : Nat) (f : Frame) (p : Nat) (hW : 0x78e001b0000000000000002000000400001e &&& W = 0x78e001b0000000000000002000000400001e) (hP : 0x14811c &&& P = 0x14811c) :
    Law W P s0 (State.enqueue s own f p) := by
  unfold State.enqueue
  try dsimp only
  repeat' first
    | with_reducible assumption
    | with_reducible exact Law.refl _ _ _
    | exact sub_trans rfl hW
    | exact sub_trans rfl hP
    | with_reducible refine Law.ite (fun _ => ?_) (fun _ => ?_)
    | with_reducible refine State.count_law ?_ _ ?_
    | with_reducible refine State.bufFreeAll_law ?_ _ _  ?_ ?_
    | with_reducible refine State.frameEnd_law ?_ _ _ _  ?_ ?_
    | with_reducible refine State.bufMoveAll_law ?_ _ _ _  ?_ ?_
    | with_reducible refine State.voqPush_law ?_ _ _  ?_ ?_
    | exact InMask.mk 133 hW rfl rfl (Reg.PRT_FAB_CNT_has_3 _)
    | exact InMask.mk 134 hW rfl rfl (Reg.PRT_FAB_CNT_has_2 _)
    | exact InMask.mk 135 hW rfl rfl (Reg.SLC_CNT_has_14 _)
    | exact downAt_in _ _ _ _ hW rfl rfl rfl
    | with_reducible refine Law.of_fst (by assumption) ?_
    | split
    | dsimp only [id]

theorem State.setMc_law {W P : Nat} {s0 s : State} (h : Law W P s0 s) (id : Nat) (m : McFrame) (hW : 0x0 &&& W = 0x0) (hP : 0x8000 &&& P = 0x8000) :
    Law W P s0 (State.setMc s id m) := by
  unfold State.setMc
  try dsimp only
  repeat' first
    | with_reducible assumption
    | with_reducible exact Law.refl _ _ _
    | exact sub_trans rfl hW
    | exact sub_trans rfl hP
    | with_reducible refine State.setFab_law ?_ _  ?_ ?_
    | dsimp only [id]

theorem State.setMcq_law {W P : Nat} {s0 s : State} (h : Law W P s0 s) (key : Nat) (l : List Nat) (hW : 0x0 &&& W = 0x0) (hP : 0x8000 &&& P = 0x8000) :
    Law W P s0 (State.setMcq s key l) := by
  unfold State.setMcq
  try dsimp only
  repeat' first
    | with_reducible assumption
    | with_reducible exact Law.refl _ _ _
    | exact sub_trans rfl hW
    | exact sub_trans rfl hP
    | with_reducible refine State.setFab_law ?_ _  ?_ ?_
    | dsimp only [id]

theorem State.setResidue_law {W P : Nat} {s0 s : State} (h : Law W P s0 s) (slice plane : Nat) (l : List Nat) (hW : 0x1000000000000000000000000000000000000 &&& W = 0x1000000000000000000000000000000000000) (hP : 0x8000 &&& P = 0x8000) :
    Law W P s0 (State.setResidue s slice plane l) := by
  unfold State.setResidue
  try dsimp only
  repeat' first
    | with_reducible assumption
    | with_reducible exact Law.refl _ _ _
    | exact sub_trans rfl hW
    | exact sub_trans rfl hP
    | with_reducible refine State.setFld_law ?_ _ _ ?_
    | with_reducible refine State.setFab_law ?_ _  ?_ ?_
    | exact InMask.mk 144 hW rfl rfl (Reg.FAB_RES_OCC_has _)
    | dsimp only [id]

theorem State.enqueueMulti_law {W P : Nat} {s0 s : State} (h : Law W P s0 s) (own : Nat) (f : Frame) (ports : List Nat) (hW : 0x100000000000000002000000000001e &&& W = 0x100000000000000002000000000001e) (hP : 0x10810c &&& P = 0x10810c) :
    Law W P s0 (State.enqueueMulti s own f ports) := by
  unfold State.enqueueMulti
  try dsimp only
  repeat' first
    | with_reducible assumption
    | with_reducible exact Law.refl _ _ _
    | exact sub_trans rfl hW
    | exact sub_trans rfl hP
    | with_reducible refine State.bufMoveAll_law ?_ _ _ _  ?_ ?_
    | with_reducible refine State.setMc_law ?_ _ _  ?_ ?_
    | with_reducible refine State.setMcq_law ?_ _ _  ?_ ?_
    | with_reducible refine Law.foldl _ ?_ (fun _ _ _ => ?_)
    | with_reducible refine Law.foldl_fst _ ?_ (fun _ _ _ _ => ?_)
    | with_reducible refine Law.of_fst (by assumption) ?_
    | split
    | dsimp only [id]

theorem State.mcFinish_law {W P : Nat} {s0 s : State} (h : Law W P s0 s) (id : Nat) (hW : 0x190000000000000002000000000001e &&& W = 0x190000000000000002000000000001e) (hP : 0x10810c &&& P = 0x10810c) :
    Law W P s0 (State.mcFinish s id) := by
  unfold State.mcFinish
  try dsimp only
  repeat' first
    | with_reducible assumption
    | with_reducible exact Law.refl _ _ _
    | exact sub_trans rfl hW
    | exact sub_trans rfl hP
    | with_reducible refine Law.ite (fun _ => ?_) (fun _ => ?_)
    | with_reducible refine State.setFab_law ?_ _  ?_ ?_
    | with_reducible refine State.bufFreeAll_law ?_ _ _  ?_ ?_
    | with_reducible refine Law.of_fst (by assumption) ?_
    | split
    | dsimp only [id]

theorem State.mcDrop_law {W P : Nat} {s0 s : State} (h : Law W P s0 s) (id : Nat) (sel : McFrame → Nat → Option Nat) (hs : ∀ m n c, sel m n = some c → InMask W c) (hW : 0x190000000000000002000000000001e &&& W = 0x190000000000000002000000000001e) (hP : 0x10810c &&& P = 0x10810c) :
    Law W P s0 (State.mcDrop s id sel) := by
  unfold State.mcDrop
  try dsimp only
  repeat' first
    | with_reducible assumption
    | with_reducible exact Law.refl _ _ _
    | exact sub_trans rfl hW
    | exact sub_trans rfl hP
    | exact hs
    | exact hs _ _ _ (by assumption)
    | with_reducible refine State.count_law ?_ _ ?_
    | with_reducible refine State.setMc_law ?_ _ _  ?_ ?_
    | with_reducible refine State.mcFinish_law ?_ _  ?_ ?_
    | with_reducible refine Law.foldl _ ?_ (fun _ _ _ => ?_)
    | with_reducible refine Law.foldl_fst _ ?_ (fun _ _ _ _ => ?_)
    | with_reducible refine Law.of_fst (by assumption) ?_
    | split
    | dsimp only [id]

theorem State.mcClean_law {W P : Nat} {s0 s : State} (h : Law W P s0 s) (hW : 0x1000000000000000000000000000000000000 &&& W = 0x1000000000000000000000000000000000000) (hP : 0x8000 &&& P = 0x8000) :
    Law W P s0 (State.mcClean s) := by
  unfold State.mcClean
  try dsimp only
  repeat' first
    | with_reducible assumption
    | with_reducible exact Law.refl _ _ _
    | exact sub_trans rfl hW
    | exact sub_trans rfl hP
    | with_reducible refine Law.ite (fun _ => ?_) (fun _ => ?_)
    | with_reducible refine State.setMcq_law ?_ _ _  ?_ ?_
    | with_reducible refine State.setResidue_law ?_ _ _ _  ?_ ?_
    | with_reducible refine Law.foldl _ ?_ (fun _ _ _ => ?_)
    | with_reducible refine Law.foldl_fst _ ?_ (fun _ _ _ _ => ?_)
    | split
    | dsimp only [id]

theorem State.purgeVoqs_law {W P : Nat} {s0 s : State} (h : Law W P s0 s) (why : Frame → Nat → Bool → Bool → Option Nat) (result : Nat) (hy : ∀ f p m l c, why f p m l = some c → InMask W c) (hW : 0x18000190000000000000002000000400001e &&& W = 0x18000190000000000000002000000400001e) (hP : 0x10811c &&& P = 0x10811c) :
    Law W P s0 (State.purgeVoqs s why result) := by
  unfold State.purgeVoqs
  try dsimp only
  repeat' first
    | with_reducible assumption
    | with_reducible exact Law.refl _ _ _
    | exact sub_trans rfl hW
    | exact sub_trans rfl hP
    | exact hy
    | exact hy _ _ _ _ _ (by assumption)
    | exact fun _ _ _ he => hy _ _ _ _ _ he
    | exact fun _ _ he => hy _ _ _ _ _ he
    | exact hy
    | with_reducible refine Law.ite (fun _ => ?_) (fun _ => ?_)
    | with_reducible refine State.count_law ?_ _ ?_
    | with_reducible refine State.bufFreeAll_law ?_ _ _  ?_ ?_
    | with_reducible refine State.frameEnd_law ?_ _ _ _  ?_ ?_
    | with_reducible refine State.freeBlocks_law ?_ _ _  ?_ ?_
    | with_reducible refine State.setVoq_law ?_ _ _  ?_ ?_
    | with_reducible refine Law.foldl _ ?_ (fun _ _ _ => ?_)
    | with_reducible refine Law.foldl_fst _ ?_ (fun _ _ _ _ => ?_)
    | with_reducible refine Law.of_fst (by assumption) ?_
    | split
    | dsimp only [id]

theorem State.purgeMulti_law {W P : Nat} {s0 s : State} (h : Law W P s0 s) (why : Frame → Nat → Bool → Bool → Option Nat) (hy : ∀ f p m l c, why f p m l = some c → InMask W c) (hW : 0x100000190000000000000002000000000001e &&& W = 0x100000190000000000000002000000000001e) (hP : 0x10810c &&& P = 0x10810c) :
    Law W P s0 (State.purgeMulti s why) := by
  unfold State.purgeMulti
  try dsimp only
  repeat' first
    | with_reducible assumption
    | with_reducible exact Law.refl _ _ _
    | exact sub_trans rfl hW
    | exact sub_trans rfl hP
    | exact hy
    | exact hy _ _ _ _ _ (by assumption)
    | exact fun _ _ _ he => hy _ _ _ _ _ he
    | exact fun _ _ he => hy _ _ _ _ _ he
    | exact hy
    | (intros; rename_i he; (try dsimp only at he); split at he <;> simp only [Option.some.injEq, reduceCtorEq] at he; subst he)
    | with_reducible refine State.mcDrop_law ?_ _ _ ?_ ?_ ?_
    | with_reducible refine State.mcClean_law ?_   ?_ ?_
    | with_reducible refine Law.foldl _ ?_ (fun _ _ _ => ?_)
    | with_reducible refine Law.foldl_fst _ ?_ (fun _ _ _ _ => ?_)
    | dsimp only [id]

theorem State.cbsSettle_law {W P : Nat} {s0 s : State} (h : Law W P s0 s) (p c : Nat) (hW : 0x30000000000000000000000000000000 &&& W = 0x30000000000000000000000000000000) (hP : 0x8000 &&& P = 0x8000) :
    Law W P s0 (State.cbsSettle s p c) := by
  unfold State.cbsSettle
  try dsimp only
  repeat' first
    | with_reducible assumption
    | with_reducible exact Law.refl _ _ _
    | exact sub_trans rfl hW
    | exact sub_trans rfl hP
    | with_reducible refine Law.ite (fun _ => ?_) (fun _ => ?_)
    | with_reducible refine State.setEgp_law ?_ _ _  ?_ ?_
    | split
    | dsimp only [id]

theorem State.purgePort_law {W P : Nat} {s0 s : State} (h : Law W P s0 s) (p : Nat) (why : Copy → Option Nat) (result : Nat) (hz : ∀ x c, why x = some c → InMask W c) (hW : 0x3990000000000000002000000400001e &&& W = 0x3990000000000000002000000400001e) (hP : 0x10811c &&& P = 0x10811c) :
    Law W P s0 (State.purgePort s p why result) := by
  unfold State.purgePort
  try dsimp only
  repeat' first
    | with_reducible assumption
    | with_reducible exact Law.refl _ _ _
    | exact sub_trans rfl hW
    | exact sub_trans rfl hP
    | exact hz
    | exact hz _ _ (by assumption)
    | with_reducible refine Law.ite (fun _ => ?_) (fun _ => ?_)
    | with_reducible refine State.cbsAdvance_law ?_ _ _  ?_ ?_
    | with_reducible refine State.setEgp_law ?_ _ _  ?_ ?_
    | with_reducible refine State.cbsSettle_law ?_ _ _  ?_ ?_
    | with_reducible refine State.wdWatch_law ?_ _  ?_ ?_
    | with_reducible refine State.copyDrop_law ?_ _ _ _ _ ?_ ?_ ?_
    | with_reducible refine Law.foldl _ ?_ (fun _ _ _ => ?_)
    | with_reducible refine Law.foldl_fst _ ?_ (fun _ _ _ _ => ?_)
    | with_reducible refine Law.of_fst (by assumption) ?_
    | split
    | dsimp only [id]

theorem State.purgeEgress_law {W P : Nat} {s0 s : State} (h : Law W P s0 s) (why : Frame → Nat → Bool → Bool → Option Nat) (result : Nat) (hy : ∀ f p m l c, why f p m l = some c → InMask W c) (hW : 0x3990000000000000002000000400001e &&& W = 0x3990000000000000002000000400001e) (hP : 0x10811c &&& P = 0x10811c) :
    Law W P s0 (State.purgeEgress s why result) := by
  unfold State.purgeEgress
  try dsimp only
  repeat' first
    | with_reducible assumption
    | with_reducible exact Law.refl _ _ _
    | exact sub_trans rfl hW
    | exact sub_trans rfl hP
    | exact hy
    | exact hy _ _ _ _ _ (by assumption)
    | exact fun _ _ _ he => hy _ _ _ _ _ he
    | exact fun _ _ he => hy _ _ _ _ _ he
    | exact hy
    | (intros; rename_i he; (try dsimp only at he); split at he <;> simp only [Option.some.injEq, reduceCtorEq] at he; subst he)
    | with_reducible refine State.purgePort_law ?_ _ _ _ ?_ ?_ ?_
    | with_reducible refine Law.foldl _ ?_ (fun _ _ _ => ?_)
    | with_reducible refine Law.foldl_fst _ ?_ (fun _ _ _ _ => ?_)
    | dsimp only [id]

theorem State.purge_law {W P : Nat} {s0 s : State} (h : Law W P s0 s) (why : Frame → Nat → Bool → Bool → Option Nat) (result : Nat) (hy : ∀ f p m l c, why f p m l = some c → InMask W c) (hW : 0x118003990000000000000002000000400001e &&& W = 0x118003990000000000000002000000400001e) (hP : 0x10811c &&& P = 0x10811c) :
    Law W P s0 (State.purge s why result) := by
  unfold State.purge
  try dsimp only
  repeat' first
    | with_reducible assumption
    | with_reducible exact Law.refl _ _ _
    | exact sub_trans rfl hW
    | exact sub_trans rfl hP
    | exact hy
    | exact hy _ _ _ _ _ (by assumption)
    | exact fun _ _ _ he => hy _ _ _ _ _ he
    | exact fun _ _ he => hy _ _ _ _ _ he
    | exact hy
    | (intros; rename_i he; (try dsimp only at he); split at he <;> simp only [Option.some.injEq, reduceCtorEq] at he; subst he)
    | (intros; rename_i he; (try dsimp only at he); split at he <;> simp only [Option.some.injEq, reduceCtorEq] at he; subst he)
    | (intros; rename_i he; (try dsimp only at he); split at he <;> simp only [Option.some.injEq, reduceCtorEq] at he; subst he)
    | with_reducible refine State.purgeVoqs_law ?_ _ _ ?_ ?_ ?_
    | with_reducible refine State.purgeMulti_law ?_ _ ?_ ?_ ?_
    | with_reducible refine State.purgeEgress_law ?_ _ _ ?_ ?_ ?_
    | dsimp only [id]

theorem State.portDrops_law {W P : Nat} {s0 s : State} (h : Law W P s0 s) (p : Nat) (hW : 0x118e03990000000000000002000000400001e &&& W = 0x118e03990000000000000002000000400001e) (hP : 0x10811c &&& P = 0x10811c) :
    Law W P s0 (State.portDrops s p) := by
  unfold State.portDrops
  try dsimp only
  repeat' first
    | with_reducible assumption
    | with_reducible exact Law.refl _ _ _
    | exact sub_trans rfl hW
    | exact sub_trans rfl hP
    | (intros; rename_i he; (try dsimp only at he); split at he <;> simp only [Option.some.injEq, reduceCtorEq] at he; subst he)
    | with_reducible refine Law.ite (fun _ => ?_) (fun _ => ?_)
    | with_reducible refine State.setFab_law ?_ _  ?_ ?_
    | with_reducible refine State.purge_law ?_ _ _ ?_ ?_ ?_
    | exact InMask.mk 133 hW rfl rfl (Reg.PRT_FAB_CNT_has_3 _)
    | exact InMask.mk 134 hW rfl rfl (Reg.PRT_FAB_CNT_has_2 _)
    | exact InMask.mk 135 hW rfl rfl (Reg.SLC_CNT_has_14 _)
    | exact downAt_in _ _ _ _ hW rfl rfl rfl
    | split
    | dsimp only [id]

theorem State.epochHeads_law {W P : Nat} {s0 s : State} (h : Law W P s0 s) (k : Nat) (hW : 0x100e00190000000000000002000000000001e &&& W = 0x100e00190000000000000002000000000001e) (hP : 0x10810c &&& P = 0x10810c) :
    Law W P s0 (State.epochHeads s k) := by
  unfold State.epochHeads
  try dsimp only
  repeat' first
    | with_reducible assumption
    | with_reducible exact Law.refl _ _ _
    | exact sub_trans rfl hW
    | exact sub_trans rfl hP
    | (intros; rename_i he; (try dsimp only at he); split at he <;> simp only [Option.some.injEq, reduceCtorEq] at he; subst he)
    | with_reducible refine Law.ite (fun _ => ?_) (fun _ => ?_)
    | with_reducible refine State.setMc_law ?_ _ _  ?_ ?_
    | with_reducible refine State.mcDrop_law ?_ _ _ ?_ ?_ ?_
    | with_reducible refine State.mcClean_law ?_   ?_ ?_
    | exact InMask.mk 133 hW rfl rfl (Reg.PRT_FAB_CNT_has_3 _)
    | exact InMask.mk 134 hW rfl rfl (Reg.PRT_FAB_CNT_has_2 _)
    | exact InMask.mk 135 hW rfl rfl (Reg.SLC_CNT_has_14 _)
    | exact downAt_in _ _ _ _ hW rfl rfl rfl
    | with_reducible refine Law.foldl _ ?_ (fun _ _ _ => ?_)
    | with_reducible refine Law.foldl_fst _ ?_ (fun _ _ _ _ => ?_)
    | with_reducible refine Law.of_fst (by assumption) ?_
    | split
    | dsimp only [id]

theorem State.grantPhase_law {W P : Nat} {s0 s : State} (h : Law W P s0 s) (x1 : List Nat) (hW : 0x8b00000000000000020000000000012 &&& W = 0x8b00000000000000020000000000012) (hP : 0x148104 &&& P = 0x148104) :
    Law W P s0 (State.grantPhase s x1).1 := by
  induction x1 generalizing s with
  | nil =>
    unfold State.grantPhase
    try dsimp only
    repeat' first
      | with_reducible assumption
      | with_reducible exact Law.refl _ _ _
      | exact sub_trans rfl hW
      | exact sub_trans rfl hP
      | with_reducible refine State.landSecure_law ?_ _ _  ?_ ?_
      | with_reducible refine Law.of_fst (by assumption) ?_
      | split
      | dsimp only [id]
  | cons x l ih =>
    unfold State.grantPhase
    try dsimp only
    repeat' first
      | with_reducible assumption
      | with_reducible apply ih
      | with_reducible exact Law.refl _ _ _
      | exact sub_trans rfl hW
      | exact sub_trans rfl hP
      | with_reducible refine State.landSecure_law ?_ _ _  ?_ ?_
      | with_reducible refine Law.of_fst (by assumption) ?_
      | split
      | dsimp only [id]

theorem State.beginMatch_law {W P : Nat} {s0 s : State} (h : Law W P s0 s) (g : Grant) (hW : 0x180000000000000000000000000000000000 &&& W = 0x180000000000000000000000000000000000) (hP : 0x8000 &&& P = 0x8000) :
    Law W P s0 (State.beginMatch s g) := by
  unfold State.beginMatch
  try dsimp only
  repeat' first
    | with_reducible assumption
    | with_reducible exact Law.refl _ _ _
    | exact sub_trans rfl hW
    | exact sub_trans rfl hP
    | with_reducible refine State.setFab_law ?_ _  ?_ ?_
    | with_reducible refine State.setVoq_law ?_ _ _  ?_ ?_
    | with_reducible refine State.setMc_law ?_ _ _  ?_ ?_
    | with_reducible refine Law.of_fst (by assumption) ?_
    | split
    | dsimp only [id]

theorem State.acceptPhase_law {W P : Nat} {s0 s : State} (h : Law W P s0 s) (k : Nat) (first : Bool) (gs : List Grant) (i : Nat) (hW : 0x18000990000000000000002000000000001e &&& W = 0x18000990000000000000002000000000001e) (hP : 0x10810c &&& P = 0x10810c) :
    Law W P s0 (State.acceptPhase s k first gs i) := by
  unfold State.acceptPhase
  try dsimp only
  repeat' first
    | with_reducible assumption
    | with_reducible exact Law.refl _ _ _
    | exact sub_trans rfl hW
    | exact sub_trans rfl hP
    | with_reducible refine Law.ite (fun _ => ?_) (fun _ => ?_)
    | with_reducible refine State.beginMatch_law ?_ _  ?_ ?_
    | with_reducible refine State.setFab_law ?_ _  ?_ ?_
    | with_reducible refine State.pfEvent_law ?_ _ _ _  ?_ ?_
    | with_reducible refine State.landFree_law ?_ _ _  ?_ ?_
    | with_reducible refine Law.foldl _ ?_ (fun _ _ _ => ?_)
    | with_reducible refine Law.foldl_fst _ ?_ (fun _ _ _ _ => ?_)
    | with_reducible refine Law.of_fst (by assumption) ?_
    | split
    | dsimp only [id]

theorem State.rgaIter_law {W P : Nat} {s0 s : State} (h : Law W P s0 s) (k : Nat) (first : Bool) (hW : 0x180009b0000000000000002000000000001e &&& W = 0x180009b0000000000000002000000000001e) (hP : 0x14810c &&& P = 0x14810c) :
    Law W P s0 (State.rgaIter s k first).1 := by
  unfold State.rgaIter
  try dsimp only
  repeat' first
    | with_reducible assumption
    | with_reducible exact Law.refl _ _ _
    | exact sub_trans rfl hW
    | exact sub_trans rfl hP
    | with_reducible refine State.grantPhase_law ?_ _  ?_ ?_
    | with_reducible refine State.acceptPhase_law ?_ _ _ _ _  ?_ ?_
    | with_reducible refine Law.foldl _ ?_ (fun _ _ _ => ?_)
    | with_reducible refine Law.foldl_fst _ ?_ (fun _ _ _ _ => ?_)
    | with_reducible refine Law.of_fst (by assumption) ?_
    | split
    | dsimp only [id]

theorem State.epochHeadsAfter_law {W P : Nat} {s0 s : State} (h : Law W P s0 s) (k : Nat) (hW : 0x3000000000000000000000000000000000010 &&& W = 0x3000000000000000000000000000000000010) (hP : 0x8000 &&& P = 0x8000) :
    Law W P s0 (State.epochHeadsAfter s k).1 := by
  unfold State.epochHeadsAfter
  try dsimp only
  repeat' first
    | with_reducible assumption
    | with_reducible exact Law.refl _ _ _
    | exact sub_trans rfl hW
    | exact sub_trans rfl hP
    | with_reducible refine Law.ite (fun _ => ?_) (fun _ => ?_)
    | with_reducible refine State.mcClean_law ?_   ?_ ?_
    | with_reducible refine State.setMcq_law ?_ _ _  ?_ ?_
    | with_reducible refine State.setResidue_law ?_ _ _ _  ?_ ?_
    | with_reducible refine State.countEv_law ?_ _ _ _ _ ?_ ?_ ?_
    | exact InMask.mk 145 hW rfl rfl (Reg.FAB_CNT_has_5)
    | with_reducible refine Law.foldl _ ?_ (fun _ _ _ => ?_)
    | with_reducible refine Law.foldl_fst _ ?_ (fun _ _ _ _ => ?_)
    | with_reducible refine Law.of_fst (by assumption) ?_
    | split
    | dsimp only [id]

theorem State.ageVoqs_law {W P : Nat} {s0 s : State} (h : Law W P s0 s) (k : Nat) (hW : 0x418000190000000000000002000000400001e &&& W = 0x418000190000000000000002000000400001e) (hP : 0x10811c &&& P = 0x10811c) :
    Law W P s0 (State.ageVoqs s k) := by
  unfold State.ageVoqs
  try dsimp only
  repeat' first
    | with_reducible assumption
    | with_reducible exact Law.refl _ _ _
    | exact sub_trans rfl hW
    | exact sub_trans rfl hP
    | with_reducible refine Law.ite (fun _ => ?_) (fun _ => ?_)
    | with_reducible refine State.count_law ?_ _ ?_
    | with_reducible refine State.bufFreeAll_law ?_ _ _  ?_ ?_
    | with_reducible refine State.frameEnd_law ?_ _ _ _  ?_ ?_
    | with_reducible refine State.setVoq_law ?_ _ _  ?_ ?_
    | exact InMask.mk 146 hW rfl rfl (Reg.PRT_FAB_CNT_has_7 _)
    | with_reducible refine Law.foldl _ ?_ (fun _ _ _ => ?_)
    | with_reducible refine Law.foldl_fst _ ?_ (fun _ _ _ _ => ?_)
    | split
    | dsimp only [id]

theorem State.crossCell_law {W P : Nat} {s0 s : State} (h : Law W P s0 s) (x : Crossing) (hW : 0x801fff990000000000000002000000400001e &&& W = 0x801fff990000000000000002000000400001e) (hP : 0x11811c &&& P = 0x11811c) :
    Law W P s0 (State.crossCell s x) := by
  unfold State.crossCell
  try dsimp only
  repeat' first
    | with_reducible assumption
    | with_reducible exact Law.refl _ _ _
    | exact sub_trans rfl hW
    | exact sub_trans rfl hP
    | with_reducible refine Law.ite (fun _ => ?_) (fun _ => ?_)
    | with_reducible refine State.countEv_law ?_ _ _ _ _ ?_ ?_ ?_
    | with_reducible refine State.setFab_law ?_ _  ?_ ?_
    | with_reducible refine State.landCopy_law ?_ _ _ _ _  ?_ ?_
    | with_reducible refine State.bufFreeAll_law ?_ _ _  ?_ ?_
    | with_reducible refine State.setMc_law ?_ _ _  ?_ ?_
    | with_reducible refine State.mcFinish_law ?_ _  ?_ ?_
    | exact InMask.mk 147 hW rfl rfl (Reg.FAB_CNT_has _)
    | with_reducible refine Law.of_fst (by assumption) ?_
    | split
    | dsimp only [id]

theorem State.planeEpoch_law {W P : Nat} {s0 s : State} (h : Law W P s0 s) (k : Nat) (hW : 0x718e009b0000000000000002000000400001e &&& W = 0x718e009b0000000000000002000000400001e) (hP : 0x14811c &&& P = 0x14811c) :
    Law W P s0 (State.planeEpoch s k).1 := by
  unfold State.planeEpoch
  try dsimp only
  repeat' first
    | with_reducible assumption
    | with_reducible exact Law.refl _ _ _
    | exact sub_trans rfl hW
    | exact sub_trans rfl hP
    | with_reducible refine State.epochHeads_law ?_ _  ?_ ?_
    | with_reducible refine State.rgaIter_law ?_ _ _  ?_ ?_
    | with_reducible refine State.epochHeadsAfter_law ?_ _  ?_ ?_
    | with_reducible refine State.ageVoqs_law ?_ _  ?_ ?_
    | with_reducible refine Law.of_fst (by assumption) ?_
    | split
    | dsimp only [id]

theorem State.epochStep_law {W P : Nat} {s0 s : State} (h : Law W P s0 s) (hW : 0x7f19fff9b0000000000000002000002400001e &&& W = 0x7f19fff9b0000000000000002000002400001e) (hP : 0x15811d &&& P = 0x15811d) :
    Law W P s0 (State.epochStep s) := by
  unfold State.epochStep
  try dsimp only
  repeat' first
    | with_reducible assumption
    | with_reducible exact Law.refl _ _ _
    | exact sub_trans rfl hW
    | exact sub_trans rfl hP
    | with_reducible refine Law.ite (fun _ => ?_) (fun _ => ?_)
    | with_reducible refine State.count_law ?_ _ ?_
    | with_reducible refine State.setFab_law ?_ _  ?_ ?_
    | with_reducible refine State.countEv_law ?_ _ _ _ _ ?_ ?_ ?_
    | with_reducible refine State.closeRecov_law ?_ _  ?_ ?_
    | with_reducible refine State.planeEpoch_law ?_ _  ?_ ?_
    | with_reducible refine State.crossCell_law ?_ _  ?_ ?_
    | exact InMask.mk 148 hW rfl rfl (Reg.FAB_CNT_has_0)
    | exact InMask.mk 149 hW rfl rfl (Reg.FAB_CNT_has_6)
    | exact InMask.mk 150 hW rfl rfl (Reg.FAB_CNT_has_9)
    | with_reducible refine Law.foldl _ ?_ (fun _ _ _ => ?_)
    | with_reducible refine Law.foldl_fst _ ?_ (fun _ _ _ _ => ?_)
    | with_reducible refine Law.of_fst (by assumption) ?_
    | split
    | dsimp only [id]

theorem execEpochBoundary_law {W P : Nat} (s : State)  (hW : 0x7f19fff9b0000000000000002000002400001e &&& W = 0x7f19fff9b0000000000000002000002400001e) (hP : 0x15811d &&& P = 0x15811d) :
    OutLaw W P s (execEpochBoundary s) := by
  unfold execEpochBoundary
  try dsimp only
  repeat' first
    | with_reducible assumption
    | with_reducible exact OutLaw.fault _
    | with_reducible refine OutLaw.ite (fun _ => ?_) (fun _ => ?_)
    | with_reducible refine OutLaw.next ?_
    | with_reducible exact Law.refl _ _ _
    | exact sub_trans rfl hW
    | exact sub_trans rfl hP
    | with_reducible refine Law.ite (fun _ => ?_) (fun _ => ?_)
    | with_reducible refine State.epochStep_law ?_   ?_ ?_
    | split
    | dsimp only [id]

theorem execResidueTimeout_law {W P : Nat} (s : State) (plane slice id : Nat) (hW : 0x2000000000000000000000000000000000000100000190000000000000002000000000001e &&& W = 0x2000000000000000000000000000000000000100000190000000000000002000000000001e) (hP : 0x10810c &&& P = 0x10810c) :
    OutLaw W P s (execResidueTimeout plane slice id s) := by
  unfold execResidueTimeout
  try dsimp only
  repeat' first
    | with_reducible assumption
    | with_reducible exact OutLaw.fault _
    | with_reducible refine OutLaw.ite (fun _ => ?_) (fun _ => ?_)
    | with_reducible refine OutLaw.next ?_
    | with_reducible exact Law.refl _ _ _
    | exact sub_trans rfl hW
    | exact sub_trans rfl hP
    | (intros; rename_i he; (try dsimp only at he); split at he <;> simp only [Option.some.injEq, reduceCtorEq] at he; subst he)
    | with_reducible refine Law.ite (fun _ => ?_) (fun _ => ?_)
    | with_reducible refine State.mcDrop_law ?_ _ _ ?_ ?_ ?_
    | with_reducible refine State.mcClean_law ?_   ?_ ?_
    | exact InMask.mk 293 hW rfl rfl (Reg.PRT_FAB_CNT_has_4 _)
    | split
    | dsimp only [id]

theorem execSchedulerWatchdogExpiry_law {W P : Nat} (s : State)  (hW : 0xc000000000000000000000000000000000000000000990000000000000002000007c00013e &&& W = 0xc000000000000000000000000000000000000000000990000000000000002000007c00013e) (hP : 0x10c11d &&& P = 0x10c11d) :
    OutLaw W P s (execSchedulerWatchdogExpiry s) := by
  unfold execSchedulerWatchdogExpiry
  try dsimp only
  repeat' first
    | with_reducible assumption
    | with_reducible exact OutLaw.fault _
    | with_reducible refine OutLaw.ite (fun _ => ?_) (fun _ => ?_)
    | with_reducible refine OutLaw.next ?_
    | with_reducible exact Law.refl _ _ _
    | exact sub_trans rfl hW
    | exact sub_trans rfl hP
    | with_reducible refine Law.ite (fun _ => ?_) (fun _ => ?_)
    | with_reducible refine State.count_law ?_ _ ?_
    | with_reducible refine State.watchdog_law ?_ _  ?_ ?_
    | with_reducible refine State.coveredFault_law ?_   ?_ ?_
    | with_reducible refine State.openRecov_law ?_ _  ?_ ?_
    | with_reducible refine State.setFab_law ?_ _  ?_ ?_
    | with_reducible refine State.copyDrop_law ?_ _ _ _ _ ?_ ?_ ?_
    | with_reducible refine State.setMc_law ?_ _ _  ?_ ?_
    | exact InMask.mk 294 hW rfl rfl (Reg.FAB_CNT_has_7)
    | exact InMask.mk 295 hW rfl rfl (Reg.FAB_CNT_has_8)
    | with_reducible refine Law.foldl _ ?_ (fun _ _ _ => ?_)
    | with_reducible refine Law.foldl_fst _ ?_ (fun _ _ _ _ => ?_)
    | with_reducible refine Law.of_fst (by assumption) ?_
    | split
    | dsimp only [id]

theorem execResidenceSweep_law {W P : Nat} (s : State)  (hW : 0x10000000000000000000000000000000000000118003990000000000000002000000400001e &&& W = 0x10000000000000000000000000000000000000118003990000000000000002000000400001e) (hP : 0x10811c &&& P = 0x10811c) :
    OutLaw W P s (execResidenceSweep s) := by
  unfold execResidenceSweep
  try dsimp only
  repeat' first
    | with_reducible assumption
    | with_reducible exact OutLaw.fault _
    | with_reducible refine OutLaw.ite (fun _ => ?_) (fun _ => ?_)
    | with_reducible refine OutLaw.next ?_
    | with_reducible exact Law.refl _ _ _
    | exact sub_trans rfl hW
    | exact sub_trans rfl hP
    | (intros; rename_i he; (try dsimp only at he); split at he <;> simp only [Option.some.injEq, reduceCtorEq] at he; subst he)
    | with_reducible refine Law.ite (fun _ => ?_) (fun _ => ?_)
    | with_reducible refine State.purge_law ?_ _ _ ?_ ?_ ?_
    | exact InMask.mk 296 hW rfl rfl (Reg.PRT_FAB_CNT_has_8 _)
    | split
    | dsimp only [id]

theorem State.leakPart_law {W P : Nat} {s0 s : State} (h : Law W P s0 s) (k : Nat) (hW : 0x8800000000000000000000000000000 &&& W = 0x8800000000000000000000000000000) (hP : 0x8000 &&& P = 0x8000) :
    Law W P s0 (State.leakPart s k) := by
  unfold State.leakPart
  try dsimp only
  repeat' first
    | with_reducible assumption
    | with_reducible exact Law.refl _ _ _
    | exact sub_trans rfl hW
    | exact sub_trans rfl hP
    | with_reducible refine Law.ite (fun _ => ?_) (fun _ => ?_)
    | with_reducible refine State.setFld_law ?_ _ _ ?_
    | with_reducible refine State.setP0use_law ?_ _ _  ?_ ?_
    | with_reducible refine State.setShared_law ?_ _  ?_ ?_
    | exact InMask.mk 123 hW rfl rfl (Reg.BPM_P0_SPLIT_has)
    | with_reducible refine Law.of_fst (by assumption) ?_
    | split
    | dsimp only [id]

theorem State.leakReturn_law {W P : Nat} {s0 s : State} (h : Law W P s0 s) (k : Nat) (hW : 0x18000000890000000000000002000000000001e &&& W = 0x18000000890000000000000002000000000001e) (hP : 0x10810c &&& P = 0x10810c) :
    Law W P s0 (State.leakReturn s k) := by
  unfold State.leakReturn
  try dsimp only
  repeat' first
    | with_reducible assumption
    | with_reducible exact Law.refl _ _ _
    | exact sub_trans rfl hW
    | exact sub_trans rfl hP
    | with_reducible refine State.setFld_law ?_ _ _ ?_
    | with_reducible refine State.count_law ?_ _ ?_
    | with_reducible refine State.leakPart_law ?_ _  ?_ ?_
    | with_reducible refine State.bufReturn_law ?_ _  ?_ ?_
    | with_reducible refine State.spoutEvent_law ?_ _ _ _ _  ?_ ?_
    | exact InMask.mk 151 hW rfl rfl (Reg.BPM_CNT_has_8)
    | exact InMask.mk 152 hW rfl rfl (Reg.BPM_LEAK_LAST_has)
    | dsimp only [id]

theorem execAuditRoundEnd_law {W P : Nat} (s : State)  (hW : 0x60000000000000000000000000000000000018000000890000000000000002000002000001e &&& W = 0x60000000000000000000000000000000000018000000890000000000000002000002000001e) (hP : 0x10810d &&& P = 0x10810d) :
    OutLaw W P s (execAuditRoundEnd s) := by
  unfold execAuditRoundEnd
  try dsimp only
  repeat' first
    | with_reducible assumption
    | with_reducible exact OutLaw.fault _
    | with_reducible refine OutLaw.ite (fun _ => ?_) (fun _ => ?_)
    | with_reducible refine OutLaw.next ?_
    | with_reducible exact Law.refl _ _ _
    | exact sub_trans rfl hW
    | exact sub_trans rfl hP
    | with_reducible refine Law.ite (fun _ => ?_) (fun _ => ?_)
    | with_reducible refine State.setFld_law ?_ _ _ ?_
    | with_reducible refine State.count_law ?_ _ ?_
    | with_reducible refine State.wrapAdd_law ?_ _ _ ?_
    | with_reducible refine State.leakReturn_law ?_ _  ?_ ?_
    | with_reducible refine State.closeRecov_law ?_ _  ?_ ?_
    | with_reducible refine State.setFab_law ?_ _  ?_ ?_
    | exact InMask.mk 297 hW rfl rfl (Reg.BPM_CNT_has_9)
    | exact InMask.mk 298 hW rfl rfl (Reg.BPM_AUDIT_has)
    | with_reducible refine Law.foldl _ ?_ (fun _ _ _ => ?_)
    | with_reducible refine Law.foldl_fst _ ?_ (fun _ _ _ _ => ?_)
    | split
    | dsimp only [id]

theorem execFenceDone_law {W P : Nat} (s : State) (i : Nat) (hW : 0x8000000000000000000000000000e &&& W = 0x8000000000000000000000000000e) (hP : 0x10000c &&& P = 0x10000c) :
    OutLaw W P s (execFenceDone i s) := by
  unfold execFenceDone
  try dsimp only
  repeat' first
    | with_reducible assumption
    | with_reducible exact OutLaw.fault _
    | with_reducible refine OutLaw.ite (fun _ => ?_) (fun _ => ?_)
    | with_reducible refine OutLaw.next ?_
    | with_reducible exact Law.refl _ _ _
    | exact sub_trans rfl hW
    | exact sub_trans rfl hP
    | with_reducible refine Law.ite (fun _ => ?_) (fun _ => ?_)
    | with_reducible refine State.setFld_law ?_ _ _ ?_
    | with_reducible refine State.spoutEvent_law ?_ _ _ _ _  ?_ ?_
    | exact InMask.mk 115 hW rfl rfl (Reg.SLC_FENCE_has _)
    | split
    | dsimp only [id]

end Sys2Proof.Machine
end

