-- ==== Sys2Proof/Laws/LawEgress.lean ====
section
/-! SUPPORT. The law of every operation of Machine/Egress.lean: what it may change (Laws/Law.lean). -/

set_option linter.all false

namespace Sys2Proof.Machine

theorem State.portGuard_law {W P : Nat} {s0 s : State} (h : Law W P s0 s) (a : Acc) (p : Nat) (checks : List (Bool × Nat)) (act : State → State) (hE : InMask W (Reg.ERR_STATUS a.base)) (hO : InMask W (Reg.ERR_OFS a.base)) (hf : ∀ t, Law W P s0 t → Law W P s0 (act t)) (hW : 0x60000000000000000000000000000000000000000000000000000000000000000000000000000012 &&& W = 0x60000000000000000000000000000000000000000000000000000000000000000000000000000012) (hP : 0x100004 &&& P = 0x100004) :
    Law W P s0 (State.portGuard s a p checks act) := by
  unfold State.portGuard
  try dsimp only
  repeat' first
    | with_reducible assumption
    | with_reducible exact Law.refl _ _ _
    | exact sub_trans rfl hW
    | exact sub_trans rfl hP
    | exact hE
    | exact hO
    | refine hf _ ?_
    | with_reducible refine Law.ite (fun _ => ?_) (fun _ => ?_)
    | with_reducible refine State.guard_law ?_ _ _ _ ?_ ?_ (fun _ _ => ?_) ?_ ?_
    | exact InMask.mk 317 hW rfl rfl (Reg.ERR_STATUS_has_DEV)
    | exact InMask.mk 318 hW rfl rfl (Reg.ERR_OFS_has_DEV)
    | split
    | dsimp only [id]

theorem State.gclShow_law {W P : Nat} {s0 s : State} (h : Law W P s0 s) (p : Nat) (hW : 0x200000030000000000000000000000000000000 &&& W = 0x200000030000000000000000000000000000000) (hP : 0x8000 &&& P = 0x8000) :
    Law W P s0 (State.gclShow s p) := by
  unfold State.gclShow
  try dsimp only
  repeat' first
    | with_reducible assumption
    | with_reducible exact Law.refl _ _ _
    | exact sub_trans rfl hW
    | exact sub_trans rfl hP
    | with_reducible refine State.setFld_law ?_ _ _ ?_
    | with_reducible refine State.wdWatch_law ?_ _  ?_ ?_
    | exact InMask.mk 153 hW rfl rfl (Reg.PRT_GCL_STATUS_has _)
    | with_reducible refine Law.of_fst (by assumption) ?_
    | split
    | dsimp only [id]

theorem execGateEntryTransition_law {W P : Nat} (s : State) (p : Nat) (hW : 0x200000030000000000000000000000000000000 &&& W = 0x200000030000000000000000000000000000000) (hP : 0x8000 &&& P = 0x8000) :
    OutLaw W P s (execGateEntryTransition p s) := by
  unfold execGateEntryTransition
  try dsimp only
  repeat' first
    | with_reducible assumption
    | with_reducible exact OutLaw.fault _
    | with_reducible refine OutLaw.ite (fun _ => ?_) (fun _ => ?_)
    | with_reducible refine OutLaw.next ?_
    | with_reducible exact Law.refl _ _ _
    | exact sub_trans rfl hW
    | exact sub_trans rfl hP
    | with_reducible refine Law.ite (fun _ => ?_) (fun _ => ?_)
    | with_reducible refine State.setEgp_law ?_ _ _  ?_ ?_
    | with_reducible refine State.gclShow_law ?_ _  ?_ ?_
    | with_reducible refine Law.of_fst (by assumption) ?_
    | split
    | dsimp only [id]

theorem State.gclCtrl_law {W P : Nat} {s0 s : State} (h : Law W P s0 s) (a : Acc) (p : Nat) (commit abort off rsv : Bool) (hE : InMask W (Reg.ERR_STATUS a.base)) (hO : InMask W (Reg.ERR_OFS a.base)) (hW : 0x60000000000000000000000000000000000000000600000030000000000000000000000000000012 &&& W = 0x60000000000000000000000000000000000000000600000030000000000000000000000000000012) (hP : 0x108004 &&& P = 0x108004) :
    Law W P s0 (State.gclCtrl s a p commit abort off rsv) := by
  unfold State.gclCtrl
  try dsimp only
  repeat' first
    | with_reducible assumption
    | with_reducible exact Law.refl _ _ _
    | exact sub_trans rfl hW
    | exact sub_trans rfl hP
    | exact hE
    | exact hO
    | with_reducible refine Law.ite (fun _ => ?_) (fun _ => ?_)
    | with_reducible refine State.setFld_law ?_ _ _ ?_
    | with_reducible refine State.portGuard_law ?_ _ _ _ _ ?_ ?_ (fun _ _ => ?_) ?_ ?_
    | with_reducible refine State.setEgp_law ?_ _ _  ?_ ?_
    | with_reducible refine State.gclShow_law ?_ _  ?_ ?_
    | exact InMask.mk 154 hW rfl rfl (Reg.PRT_GCL_SWITCH_has _)
    | split
    | dsimp only [id]

theorem execGclCommit_law {W P : Nat} (s : State) (p : Nat) (hW : 0x180000060000000000000000000000000000000000000000600000030000000000000000000000000000012 &&& W = 0x180000060000000000000000000000000000000000000000600000030000000000000000000000000000012) (hP : 0x108004 &&& P = 0x108004) :
    OutLaw W P s (execGclCommit p s) := by
  unfold execGclCommit
  try dsimp only
  repeat' first
    | with_reducible assumption
    | with_reducible exact OutLaw.fault _
    | with_reducible refine OutLaw.ite (fun _ => ?_) (fun _ => ?_)
    | with_reducible refine OutLaw.next ?_
    | with_reducible exact Law.refl _ _ _
    | exact sub_trans rfl hW
    | exact sub_trans rfl hP
    | with_reducible refine Law.ite (fun _ => ?_) (fun _ => ?_)
    | with_reducible refine State.gclCtrl_law ?_ _ _ _ _ _ _ ?_ ?_ ?_ ?_
    | exact InMask.mk 343 hW rfl rfl (Reg.ERR_STATUS_has_PRT _)
    | exact InMask.mk 344 hW rfl rfl (Reg.ERR_OFS_has_PRT _)
    | split
    | dsimp only [id]

theorem execGclCommitOff_law {W P : Nat} (s : State) (p : Nat) (hW : 0x180000060000000000000000000000000000000000000000600000030000000000000000000000000000012 &&& W = 0x180000060000000000000000000000000000000000000000600000030000000000000000000000000000012) (hP : 0x108004 &&& P = 0x108004) :
    OutLaw W P s (execGclCommitOff p s) := by
  unfold execGclCommitOff
  try dsimp only
  repeat' first
    | with_reducible assumption
    | with_reducible exact OutLaw.fault _
    | with_reducible refine OutLaw.ite (fun _ => ?_) (fun _ => ?_)
    | with_reducible refine OutLaw.next ?_
    | with_reducible exact Law.refl _ _ _
    | exact sub_trans rfl hW
    | exact sub_trans rfl hP
    | with_reducible refine Law.ite (fun _ => ?_) (fun _ => ?_)
    | with_reducible refine State.gclCtrl_law ?_ _ _ _ _ _ _ ?_ ?_ ?_ ?_
    | exact InMask.mk 343 hW rfl rfl (Reg.ERR_STATUS_has_PRT _)
    | exact InMask.mk 344 hW rfl rfl (Reg.ERR_OFS_has_PRT _)
    | split
    | dsimp only [id]

theorem execGclAbort_law {W P : Nat} (s : State) (p : Nat) (hW : 0x180000060000000000000000000000000000000000000000600000030000000000000000000000000000012 &&& W = 0x180000060000000000000000000000000000000000000000600000030000000000000000000000000000012) (hP : 0x108004 &&& P = 0x108004) :
    OutLaw W P s (execGclAbort p s) := by
  unfold execGclAbort
  try dsimp only
  repeat' first
    | with_reducible assumption
    | with_reducible exact OutLaw.fault _
    | with_reducible refine OutLaw.ite (fun _ => ?_) (fun _ => ?_)
    | with_reducible refine OutLaw.next ?_
    | with_reducible exact Law.refl _ _ _
    | exact sub_trans rfl hW
    | exact sub_trans rfl hP
    | with_reducible refine Law.ite (fun _ => ?_) (fun _ => ?_)
    | with_reducible refine State.gclCtrl_law ?_ _ _ _ _ _ _ ?_ ?_ ?_ ?_
    | exact InMask.mk 343 hW rfl rfl (Reg.ERR_STATUS_has_PRT _)
    | exact InMask.mk 344 hW rfl rfl (Reg.ERR_OFS_has_PRT _)
    | split
    | dsimp only [id]

theorem State.gclTake_law {W P : Nat} {s0 s : State} (h : Law W P s0 s) (p : Nat) (d : GclPend) (hW : 0x30000000000000000000000000000000 &&& W = 0x30000000000000000000000000000000) (hP : 0x8000 &&& P = 0x8000) :
    Law W P s0 (State.gclTake s p d) := by
  unfold State.gclTake
  try dsimp only
  repeat' first
    | with_reducible assumption
    | with_reducible exact Law.refl _ _ _
    | exact sub_trans rfl hW
    | exact sub_trans rfl hP
    | with_reducible refine Law.ite (fun _ => ?_) (fun _ => ?_)
    | with_reducible refine State.setEgp_law ?_ _ _  ?_ ?_
    | split
    | dsimp only [id]

theorem execGclSwitch_law {W P : Nat} (s : State) (p : Nat) (hW : 0x200000030000000000000000000000000000000 &&& W = 0x200000030000000000000000000000000000000) (hP : 0x8000 &&& P = 0x8000) :
    OutLaw W P s (execGclSwitch p s) := by
  unfold execGclSwitch
  try dsimp only
  repeat' first
    | with_reducible assumption
    | with_reducible exact OutLaw.fault _
    | with_reducible refine OutLaw.ite (fun _ => ?_) (fun _ => ?_)
    | with_reducible refine OutLaw.next ?_
    | with_reducible exact Law.refl _ _ _
    | exact sub_trans rfl hW
    | exact sub_trans rfl hP
    | with_reducible refine Law.ite (fun _ => ?_) (fun _ => ?_)
    | with_reducible refine State.gclTake_law ?_ _ _  ?_ ?_
    | with_reducible refine State.gclShow_law ?_ _  ?_ ?_
    | with_reducible refine Law.of_fst (by assumption) ?_
    | split
    | dsimp only [id]

theorem State.gclCatch_law {W P : Nat} {s0 s : State} (h : Law W P s0 s) (p : Nat) (hW : 0x200000030000000000000000000000000000000 &&& W = 0x200000030000000000000000000000000000000) (hP : 0x8000 &&& P = 0x8000) :
    Law W P s0 (State.gclCatch s p) := by
  unfold State.gclCatch
  try dsimp only
  repeat' first
    | with_reducible assumption
    | with_reducible exact Law.refl _ _ _
    | exact sub_trans rfl hW
    | exact sub_trans rfl hP
    | with_reducible refine Law.ite (fun _ => ?_) (fun _ => ?_)
    | with_reducible refine State.gclTake_law ?_ _ _  ?_ ?_
    | with_reducible refine State.setEgp_law ?_ _ _  ?_ ?_
    | with_reducible refine State.gclShow_law ?_ _  ?_ ?_
    | with_reducible refine Law.of_fst (by assumption) ?_
    | split
    | dsimp only [id]

theorem State.setPause_law {W P : Nat} {s0 s : State} (h : Law W P s0 s) (p c quanta : Nat) (hW : 0x800000030000000000000000000000000000000 &&& W = 0x800000030000000000000000000000000000000) (hP : 0x8000 &&& P = 0x8000) :
    Law W P s0 (State.setPause s p c quanta) := by
  unfold State.setPause
  try dsimp only
  repeat' first
    | with_reducible assumption
    | with_reducible exact Law.refl _ _ _
    | exact sub_trans rfl hW
    | exact sub_trans rfl hP
    | with_reducible refine State.setFldBit_law ?_ _ _ _ ?_
    | with_reducible refine State.cbsAdvance_law ?_ _ _  ?_ ?_
    | with_reducible refine State.setEgp_law ?_ _ _  ?_ ?_
    | with_reducible refine State.wdWatch_law ?_ _  ?_ ?_
    | exact InMask.mk 155 hW rfl rfl (Reg.PRT_WD_has _)
    | dsimp only [id]

theorem State.pfcAct_law {W P : Nat} {s0 s : State} (h : Law W P s0 s) (p enable : Nat) (quanta : List Nat) (hW : 0x1800000030000000000000000000000000000000 &&& W = 0x1800000030000000000000000000000000000000) (hP : 0x8000 &&& P = 0x8000) :
    Law W P s0 (State.pfcAct s p enable quanta) := by
  unfold State.pfcAct
  try dsimp only
  repeat' first
    | with_reducible assumption
    | with_reducible exact Law.refl _ _ _
    | exact sub_trans rfl hW
    | exact sub_trans rfl hP
    | with_reducible refine Law.ite (fun _ => ?_) (fun _ => ?_)
    | with_reducible refine State.count_law ?_ _ ?_
    | with_reducible refine State.setPause_law ?_ _ _ _  ?_ ?_
    | exact InMask.mk 156 hW rfl rfl (Reg.PRT_EG_CNT_has_10 _)
    | with_reducible refine Law.foldl _ ?_ (fun _ _ _ => ?_)
    | with_reducible refine Law.foldl_fst _ ?_ (fun _ _ _ _ => ?_)
    | split
    | dsimp only [id]

theorem State.rxGood_law {W P : Nat} {s0 s : State} (h : Law W P s0 s) (p len : Nat) (hW : 0x6000000000000000000000000000000000000010 &&& W = 0x6000000000000000000000000000000000000010) (hP : 0x0 &&& P = 0x0) :
    Law W P s0 (State.rxGood s p len) := by
  unfold State.rxGood
  try dsimp only
  repeat' first
    | with_reducible assumption
    | with_reducible exact Law.refl _ _ _
    | exact sub_trans rfl hW
    | exact sub_trans rfl hP
    | with_reducible refine State.countEv_law ?_ _ _ _ _ ?_ ?_ ?_
    | exact InMask.mk 157 hW rfl rfl (Reg.PRT_RX_CNT_has_0 _)
    | exact InMask.mk 158 hW rfl rfl (Reg.PRT_RX_CNT_has_1 _)
    | dsimp only [id]

theorem execPfcFrameReceived_law {W P : Nat} (s : State) (p : Nat) (enable : BitVec 8) (quanta : List (BitVec 16)) (hW : 0x7800000030000000000000000000000000000010 &&& W = 0x7800000030000000000000000000000000000010) (hP : 0x8000 &&& P = 0x8000) :
    OutLaw W P s (execPfcFrameReceived p enable quanta s) := by
  unfold execPfcFrameReceived
  try dsimp only
  repeat' first
    | with_reducible assumption
    | with_reducible exact OutLaw.fault _
    | with_reducible refine OutLaw.ite (fun _ => ?_) (fun _ => ?_)
    | with_reducible refine OutLaw.next ?_
    | with_reducible exact Law.refl _ _ _
    | exact sub_trans rfl hW
    | exact sub_trans rfl hP
    | with_reducible refine Law.ite (fun _ => ?_) (fun _ => ?_)
    | with_reducible refine State.rxGood_law ?_ _ _  ?_ ?_
    | with_reducible refine State.pfcAct_law ?_ _ _ _  ?_ ?_
    | split
    | dsimp only [id]

theorem execMacControlReceived_law {W P : Nat} (s : State) (p : Nat) (hW : 0xe000000000000000000000000000000000000010 &&& W = 0xe000000000000000000000000000000000000010) (hP : 0x0 &&& P = 0x0) :
    OutLaw W P s (execMacControlReceived p s) := by
  unfold execMacControlReceived
  try dsimp only
  repeat' first
    | with_reducible assumption
    | with_reducible exact OutLaw.fault _
    | with_reducible refine OutLaw.ite (fun _ => ?_) (fun _ => ?_)
    | with_reducible refine OutLaw.next ?_
    | with_reducible exact Law.refl _ _ _
    | exact sub_trans rfl hW
    | exact sub_trans rfl hP
    | with_reducible refine Law.ite (fun _ => ?_) (fun _ => ?_)
    | with_reducible refine State.count_law ?_ _ ?_
    | with_reducible refine State.rxGood_law ?_ _ _  ?_ ?_
    | exact InMask.mk 159 hW rfl rfl (Reg.PRT_EG_CNT_has_11 _)
    | split
    | dsimp only [id]

theorem State.macControl_law {W P : Nat} {s0 s : State} (h : Law W P s0 s) (p : Nat) (bs : List Byte) (o : Nat) (hW : 0x9800000030000000000000000000000000000000 &&& W = 0x9800000030000000000000000000000000000000) (hP : 0x8000 &&& P = 0x8000) :
    Law W P s0 (State.macControl s p bs o) := by
  unfold State.macControl
  try dsimp only
  repeat' first
    | with_reducible assumption
    | with_reducible exact Law.refl _ _ _
    | exact sub_trans rfl hW
    | exact sub_trans rfl hP
    | with_reducible refine Law.ite (fun _ => ?_) (fun _ => ?_)
    | with_reducible refine State.count_law ?_ _ ?_
    | with_reducible refine State.pfcAct_law ?_ _ _ _  ?_ ?_
    | exact InMask.mk 159 hW rfl rfl (Reg.PRT_EG_CNT_has_11 _)
    | split
    | dsimp only [id]

theorem execPauseExpiry_law {W P : Nat} (s : State) (p c : Nat) (hW : 0x800000030000000000000000000000000000000 &&& W = 0x800000030000000000000000000000000000000) (hP : 0x8000 &&& P = 0x8000) :
    OutLaw W P s (execPauseExpiry p c s) := by
  unfold execPauseExpiry
  try dsimp only
  repeat' first
    | with_reducible assumption
    | with_reducible exact OutLaw.fault _
    | with_reducible refine OutLaw.ite (fun _ => ?_) (fun _ => ?_)
    | with_reducible refine OutLaw.next ?_
    | with_reducible exact Law.refl _ _ _
    | exact sub_trans rfl hW
    | exact sub_trans rfl hP
    | with_reducible refine Law.ite (fun _ => ?_) (fun _ => ?_)
    | with_reducible refine State.setPause_law ?_ _ _ _  ?_ ?_
    | split
    | dsimp only [id]

theorem execPauseWatchdogExpiry_law {W P : Nat} (s : State) (p c : Nat) (hW : 0x8000000b990000000000000002000000400001e &&& W = 0x8000000b990000000000000002000000400001e) (hP : 0x10811c &&& P = 0x10811c) :
    OutLaw W P s (execPauseWatchdogExpiry p c s) := by
  unfold execPauseWatchdogExpiry
  try dsimp only
  repeat' first
    | with_reducible assumption
    | with_reducible exact OutLaw.fault _
    | with_reducible refine OutLaw.ite (fun _ => ?_) (fun _ => ?_)
    | with_reducible refine OutLaw.next ?_
    | with_reducible exact Law.refl _ _ _
    | exact sub_trans rfl hW
    | exact sub_trans rfl hP
    | (intros; rename_i he; (try dsimp only at he); split at he <;> simp only [Option.some.injEq, reduceCtorEq] at he; subst he)
    | with_reducible refine Law.ite (fun _ => ?_) (fun _ => ?_)
    | with_reducible refine State.setFldBit_law ?_ _ _ _ ?_
    | with_reducible refine State.purgePort_law ?_ _ _ _ ?_ ?_ ?_
    | with_reducible refine State.spoutEvent_law ?_ _ _ _ _  ?_ ?_
    | exact InMask.mk 127 hW rfl rfl (Reg.PRT_EG_CNT_has_9 _)
    | exact InMask.mk 155 hW rfl rfl (Reg.PRT_WD_has _)
    | split
    | dsimp only [id]

theorem execWdDropClear_law {W P : Nat} (s : State) (p c : Nat) (hW : 0x800000000000000000000000000000000000000 &&& W = 0x800000000000000000000000000000000000000) (hP : 0x0 &&& P = 0x0) :
    OutLaw W P s (execWdDropClear p c s) := by
  unfold execWdDropClear
  try dsimp only
  repeat' first
    | with_reducible assumption
    | with_reducible exact OutLaw.fault _
    | with_reducible refine OutLaw.ite (fun _ => ?_) (fun _ => ?_)
    | with_reducible refine OutLaw.next ?_
    | with_reducible exact Law.refl _ _ _
    | exact sub_trans rfl hW
    | exact sub_trans rfl hP
    | with_reducible refine Law.ite (fun _ => ?_) (fun _ => ?_)
    | with_reducible refine State.setFldBit_law ?_ _ _ _ ?_
    | exact InMask.mk 155 hW rfl rfl (Reg.PRT_WD_has _)
    | split
    | dsimp only [id]

theorem State.egressLearn_law {W P : Nat} {s0 s : State} (h : Law W P s0 s) (p : Nat) (f : Frame) (hW : 0x180000000000000000000000000 &&& W = 0x180000000000000000000000000) (hP : 0x4000 &&& P = 0x4000) :
    Law W P s0 (State.egressLearn s p f) := by
  unfold State.egressLearn
  try dsimp only
  repeat' first
    | with_reducible assumption
    | with_reducible exact Law.refl _ _ _
    | exact sub_trans rfl hW
    | exact sub_trans rfl hP
    | with_reducible refine Law.ite (fun _ => ?_) (fun _ => ?_)
    | with_reducible refine State.setSlice_law ?_ _ _  ?_ ?_
    | with_reducible refine State.learnRequest_law ?_ _ _ _  ?_ ?_
    | with_reducible refine Law.of_fst (by assumption) ?_
    | split
    | dsimp only [id]

theorem State.sendBytes_law {W P : Nat} {s0 s : State} (h : Law W P s0 s) (p : Nat) (bs : List Byte) (dep : Time16) (hW : 0x30000000000000000000000000000000000000010 &&& W = 0x30000000000000000000000000000000000000010) (hP : 0x110000 &&& P = 0x110000) :
    Law W P s0 (State.sendBytes s p bs dep) := by
  unfold State.sendBytes
  try dsimp only
  repeat' first
    | with_reducible assumption
    | with_reducible exact Law.refl _ _ _
    | exact sub_trans rfl hW
    | exact sub_trans rfl hP
    | with_reducible refine State.countEv_law ?_ _ _ _ _ ?_ ?_ ?_
    | with_reducible refine State.emit_law ?_ _  ?_ ?_
    | with_reducible refine State.txFrame_law ?_ _ _  ?_ ?_
    | exact InMask.mk 160 hW rfl rfl (Reg.PRT_EG_CNT_has_0 _)
    | exact InMask.mk 161 hW rfl rfl (Reg.PRT_EG_CNT_has_1 _)
    | dsimp only [id]

theorem State.transmit_law {W P : Nat} {s0 s : State} (h : Law W P s0 s) (p : Nat) (c : Copy) (dep : Time16) (hW : 0x1f000000000990018000000000002000000400001e &&& W = 0x1f000000000990018000000000002000000400001e) (hP : 0x11c11c &&& P = 0x11c11c) :
    Law W P s0 (State.transmit s p c dep) := by
  unfold State.transmit
  try dsimp only
  repeat' first
    | with_reducible assumption
    | with_reducible exact Law.refl _ _ _
    | exact sub_trans rfl hW
    | exact sub_trans rfl hP
    | with_reducible refine Law.ite (fun _ => ?_) (fun _ => ?_)
    | with_reducible refine State.count_law ?_ _ ?_
    | with_reducible refine State.copyDrop_law ?_ _ _ _ _ ?_ ?_ ?_
    | with_reducible refine State.sendBytes_law ?_ _ _ _  ?_ ?_
    | with_reducible refine State.landFree_law ?_ _ _  ?_ ?_
    | with_reducible refine State.frameEnd_law ?_ _ _ _  ?_ ?_
    | with_reducible refine State.egressLearn_law ?_ _ _  ?_ ?_
    | exact InMask.mk 162 hW rfl rfl (Reg.PRT_EG_CNT_has_12 _)
    | exact InMask.mk 163 hW rfl rfl (Reg.PRT_EG_CNT_has_13 _)
    | exact InMask.mk 164 hW rfl rfl (Reg.PRT_EG_CNT_has_14 _)
    | with_reducible refine Law.of_fst (by assumption) ?_
    | split
    | dsimp only [id]

theorem State.setTt_law {W P : Nat} {s0 s : State} (h : Law W P s0 s) (p : Nat) (e : TtEng) (hW : 0x0 &&& W = 0x0) (hP : 0x20000 &&& P = 0x20000) :
    Law W P s0 (State.setTt s p e) := by
  unfold State.setTt
  try dsimp only
  repeat' first
    | with_reducible assumption
    | with_reducible exact Law.refl _ _ _
    | exact sub_trans rfl hW
    | exact sub_trans rfl hP
    | dsimp only [id]
    | with_reducible refine Law.put ?_ ?_ ?_ ?_ ?_ ?_ ?_ ?_ ?_ ?_ ?_ ?_ ?_ ?_ ?_ ?_ ?_ ?_ ?_ ?_ ?_ ?_
    | with_reducible exact Or.inl rfl
    | exact Or.inr (partIn hP rfl)

theorem State.trimHead_law {W P : Nat} {s0 s : State} (h : Law W P s0 s) (p c : Nat) (x1 : Nat) (hW : 0x60000000003990000000000000002000000400001e &&& W = 0x60000000003990000000000000002000000400001e) (hP : 0x10811c &&& P = 0x10811c) :
    Law W P s0 (State.trimHead s p c x1) := by
  induction x1 generalizing s with
  | zero =>
    unfold State.trimHead
    try dsimp only
    repeat' first
      | with_reducible assumption
      | with_reducible exact Law.refl _ _ _
      | exact sub_trans rfl hW
      | exact sub_trans rfl hP
      | with_reducible refine Law.ite (fun _ => ?_) (fun _ => ?_)
      | with_reducible refine State.setEgp_law ?_ _ _  ?_ ?_
      | with_reducible refine State.copyDrop_law ?_ _ _ _ _ ?_ ?_ ?_
      | with_reducible refine State.cbsSettle_law ?_ _ _  ?_ ?_
      | exact InMask.mk 165 hW rfl rfl (Reg.PRT_EG_CNT_has_15 _)
      | exact InMask.mk 166 hW rfl rfl (Reg.PRT_EG_CNT_has_8 _)
      | with_reducible refine Law.of_fst (by assumption) ?_
      | split
      | dsimp only [id]
  | succ n ih =>
    unfold State.trimHead
    try dsimp only
    repeat' first
      | with_reducible assumption
      | with_reducible apply ih
      | with_reducible exact Law.refl _ _ _
      | exact sub_trans rfl hW
      | exact sub_trans rfl hP
      | with_reducible refine Law.ite (fun _ => ?_) (fun _ => ?_)
      | with_reducible refine State.setEgp_law ?_ _ _  ?_ ?_
      | with_reducible refine State.copyDrop_law ?_ _ _ _ _ ?_ ?_ ?_
      | with_reducible refine State.cbsSettle_law ?_ _ _  ?_ ?_
      | exact InMask.mk 165 hW rfl rfl (Reg.PRT_EG_CNT_has_15 _)
      | exact InMask.mk 166 hW rfl rfl (Reg.PRT_EG_CNT_has_8 _)
      | with_reducible refine Law.of_fst (by assumption) ?_
      | split
      | dsimp only [id]

theorem State.cbsCharge_law {W P : Nat} {s0 s : State} (h : Law W P s0 s) (p c : Nat) (t : Rat) (hW : 0x30000000000000000000000000000000 &&& W = 0x30000000000000000000000000000000) (hP : 0x8000 &&& P = 0x8000) :
    Law W P s0 (State.cbsCharge s p c t) := by
  unfold State.cbsCharge
  try dsimp only
  repeat' first
    | with_reducible assumption
    | with_reducible exact Law.refl _ _ _
    | exact sub_trans rfl hW
    | exact sub_trans rfl hP
    | with_reducible refine Law.ite (fun _ => ?_) (fun _ => ?_)
    | with_reducible refine State.setEgp_law ?_ _ _  ?_ ?_
    | split
    | dsimp only [id]

theorem State.ltStale_law {W P : Nat} {s0 s : State} (h : Law W P s0 s) (p : Nat) (x1 : Nat) (hW : 0x23990000000000000002000000400001e &&& W = 0x23990000000000000002000000400001e) (hP : 0x10811c &&& P = 0x10811c) :
    Law W P s0 (State.ltStale s p x1) := by
  induction x1 generalizing s with
  | zero =>
    unfold State.ltStale
    try dsimp only
    repeat' first
      | with_reducible assumption
      | with_reducible exact Law.refl _ _ _
      | exact sub_trans rfl hW
      | exact sub_trans rfl hP
      | with_reducible refine Law.ite (fun _ => ?_) (fun _ => ?_)
      | with_reducible refine State.setEgp_law ?_ _ _  ?_ ?_
      | with_reducible refine State.copyDrop_law ?_ _ _ _ _ ?_ ?_ ?_
      | exact InMask.mk 129 hW rfl rfl (Reg.PRT_EG_CNT_has_5 _)
      | with_reducible refine Law.of_fst (by assumption) ?_
      | split
      | dsimp only [id]
  | succ n ih =>
    unfold State.ltStale
    try dsimp only
    repeat' first
      | with_reducible assumption
      | with_reducible apply ih
      | with_reducible exact Law.refl _ _ _
      | exact sub_trans rfl hW
      | exact sub_trans rfl hP
      | with_reducible refine Law.ite (fun _ => ?_) (fun _ => ?_)
      | with_reducible refine State.setEgp_law ?_ _ _  ?_ ?_
      | with_reducible refine State.copyDrop_law ?_ _ _ _ _ ?_ ?_ ?_
      | exact InMask.mk 129 hW rfl rfl (Reg.PRT_EG_CNT_has_5 _)
      | with_reducible refine Law.of_fst (by assumption) ?_
      | split
      | dsimp only [id]

theorem State.lateBy_law {W P : Nat} {s0 s : State} (h : Law W P s0 s) (p : Nat) (e : Int) (hW : 0x0 &&& W = 0x0) (hP : 0x40000 &&& P = 0x40000) :
    Law W P s0 (State.lateBy s p e).1 := by
  unfold State.lateBy
  try dsimp only
  repeat' first
    | with_reducible assumption
    | with_reducible exact Law.refl _ _ _
    | exact sub_trans rfl hW
    | exact sub_trans rfl hP
    | with_reducible refine Law.ite (fun _ => ?_) (fun _ => ?_)
    | with_reducible refine State.tookFree_law ?_   ?_ ?_
    | with_reducible refine Law.of_fst (by assumption) ?_
    | split
    | dsimp only [id]

theorem State.launchAt_law {W P : Nat} {s0 s : State} (h : Law W P s0 s) (p : Nat) (x : Copy) (e : Int) (out : Time16) (hW : 0x9f000000003990018000000000002000000400001e &&& W = 0x9f000000003990018000000000002000000400001e) (hP : 0x15c11c &&& P = 0x15c11c) :
    Law W P s0 (State.launchAt s p x e out) := by
  unfold State.launchAt
  try dsimp only
  repeat' first
    | with_reducible assumption
    | with_reducible exact Law.refl _ _ _
    | exact sub_trans rfl hW
    | exact sub_trans rfl hP
    | with_reducible refine Law.ite (fun _ => ?_) (fun _ => ?_)
    | with_reducible refine State.transmit_law ?_ _ _ _  ?_ ?_
    | with_reducible refine State.lateBy_law ?_ _ _  ?_ ?_
    | with_reducible refine State.countEv_law ?_ _ _ _ _ ?_ ?_ ?_
    | with_reducible refine State.wdStart_law ?_ _ _  ?_ ?_
    | with_reducible refine State.wdWatch_law ?_ _  ?_ ?_
    | exact InMask.mk 167 hW rfl rfl (Reg.PRT_EG_CNT_has _ _)
    | with_reducible refine Law.of_fst (by assumption) ?_
    | split
    | dsimp only [id]

theorem State.startHead_law {W P : Nat} {s0 s : State} (h : Law W P s0 s) (p c : Nat) (x : Copy) (out : Time16) (hW : 0x1f000000003990018000000000002000000400001e &&& W = 0x1f000000003990018000000000002000000400001e) (hP : 0x11c11c &&& P = 0x11c11c) :
    Law W P s0 (State.startHead s p c x out) := by
  unfold State.startHead
  try dsimp only
  repeat' first
    | with_reducible assumption
    | with_reducible exact Law.refl _ _ _
    | exact sub_trans rfl hW
    | exact sub_trans rfl hP
    | with_reducible refine Law.ite (fun _ => ?_) (fun _ => ?_)
    | with_reducible refine State.cbsSettle_law ?_ _ _  ?_ ?_
    | with_reducible refine State.transmit_law ?_ _ _ _  ?_ ?_
    | with_reducible refine State.cbsCharge_law ?_ _ _ _  ?_ ?_
    | with_reducible refine State.wdStart_law ?_ _ _  ?_ ?_
    | with_reducible refine State.wdWatch_law ?_ _  ?_ ?_
    | split
    | dsimp only [id]

theorem State.egressSelect_law {W P : Nat} {s0 s : State} (h : Law W P s0 s) (p dep : Nat) (hW : 0xff000001023990018000000000002000000400001e &&& W = 0xff000001023990018000000000002000000400001e) (hP : 0x15c11c &&& P = 0x15c11c) :
    Law W P s0 (State.egressSelect s p dep) := by
  unfold State.egressSelect
  try dsimp only
  repeat' first
    | with_reducible assumption
    | with_reducible exact Law.refl _ _ _
    | exact sub_trans rfl hW
    | exact sub_trans rfl hP
    | (intros; rename_i he; (try dsimp only at he); split at he <;> simp only [Option.some.injEq, reduceCtorEq] at he; subst he)
    | with_reducible refine Law.ite (fun _ => ?_) (fun _ => ?_)
    | with_reducible refine State.purgePort_law ?_ _ _ _ ?_ ?_ ?_
    | with_reducible refine State.ltStale_law ?_ _ _  ?_ ?_
    | with_reducible refine State.setEgp_law ?_ _ _  ?_ ?_
    | with_reducible refine State.copyDrop_law ?_ _ _ _ _ ?_ ?_ ?_
    | with_reducible refine State.launchAt_law ?_ _ _ _ _  ?_ ?_
    | with_reducible refine State.cbsAdvance_law ?_ _ _  ?_ ?_
    | with_reducible refine State.trimHead_law ?_ _ _ _  ?_ ?_
    | with_reducible refine State.startHead_law ?_ _ _ _ _  ?_ ?_
    | exact InMask.mk 136 hW rfl rfl (Reg.PRT_FAB_CNT_has_6 _)
    | exact InMask.mk 165 hW rfl rfl (Reg.PRT_EG_CNT_has_15 _)
    | with_reducible refine Law.foldl _ ?_ (fun _ _ _ => ?_)
    | with_reducible refine Law.foldl_fst _ ?_ (fun _ _ _ _ => ?_)
    | with_reducible refine Law.of_fst (by assumption) ?_
    | split
    | dsimp only [id]

theorem execEgressSelect_law {W P : Nat} (s : State) (p dep : Nat) (hW : 0xff000001023990018000000000002000000400001e &&& W = 0xff000001023990018000000000002000000400001e) (hP : 0x15c11c &&& P = 0x15c11c) :
    OutLaw W P s (execEgressSelect p dep s) := by
  unfold execEgressSelect
  try dsimp only
  repeat' first
    | with_reducible assumption
    | with_reducible exact OutLaw.fault _
    | with_reducible refine OutLaw.ite (fun _ => ?_) (fun _ => ?_)
    | with_reducible refine OutLaw.next ?_
    | with_reducible exact Law.refl _ _ _
    | exact sub_trans rfl hW
    | exact sub_trans rfl hP
    | with_reducible refine Law.ite (fun _ => ?_) (fun _ => ?_)
    | with_reducible refine State.egressSelect_law ?_ _ _  ?_ ?_
    | split
    | dsimp only [id]

end Sys2Proof.Machine
end

