-- ==== Sys2Proof/Laws/LawTimeTransfer.lean ====
section
/-! SUPPORT. The law of every operation of Machine/TimeTransfer.lean: what it may change (Laws/Law.lean). -/

set_option linter.all false

namespace Sys2Proof.Machine

theorem State.hrxDeliver_law {W P : Nat} {s0 s : State} (h : Law W P s0 s) (p : Nat) (frame : List Byte) (stamp : Time16) (hW : 0x4000000000000000000000000000000000007000000000000000000000000000000000000000012 &&& W = 0x4000000000000000000000000000000000007000000000000000000000000000000000000000012) (hP : 0x100014 &&& P = 0x100014) :
    Law W P s0 (State.hrxDeliver s p frame stamp) := by
  unfold State.hrxDeliver
  try dsimp only
  repeat' first
    | with_reducible assumption
    | with_reducible exact Law.refl _ _ _
    | exact sub_trans rfl hW
    | exact sub_trans rfl hP
    | with_reducible refine Law.ite (fun _ => ?_) (fun _ => ?_)
    | with_reducible refine State.setFld_law ?_ _ _ ?_
    | with_reducible refine State.count_law ?_ _ ?_
    | with_reducible refine State.dmaWrite_law ?_ _ _ _  ?_ ?_
    | with_reducible refine State.raiseCause_law ?_ _  ?_ ?_
    | exact InMask.mk 168 hW rfl rfl (Reg.DEV_HI_CNT_has_3)
    | exact InMask.mk 169 hW rfl rfl (Reg.DEV_HRX_HEAD_has)
    | exact InMask.mk 170 hW rfl rfl (Reg.DEV_HI_CNT_has_2)
    | exact InMask.mk 314 hW rfl rfl (Reg.DEV_HI_CNT_has_4)
    | split
    | dsimp only [id]
    | with_reducible refine Law.put ?_ ?_ ?_ ?_ ?_ ?_ ?_ ?_ ?_ ?_ ?_ ?_ ?_ ?_ ?_ ?_ ?_ ?_ ?_ ?_ ?_ ?_
    | with_reducible exact Or.inl rfl
    | exact Or.inr (partIn hP rfl)

theorem State.ttToHost_law {W P : Nat} {s0 s : State} (h : Law W P s0 s) (p : Nat) (frame : List Byte) (stamp : Time16) (hW : 0x400000000000000000000000000000000000f000000000000000000000000000000000000000012 &&& W = 0x400000000000000000000000000000000000f000000000000000000000000000000000000000012) (hP : 0x100014 &&& P = 0x100014) :
    Law W P s0 (State.ttToHost s p frame stamp) := by
  unfold State.ttToHost
  try dsimp only
  repeat' first
    | with_reducible assumption
    | with_reducible exact Law.refl _ _ _
    | exact sub_trans rfl hW
    | exact sub_trans rfl hP
    | with_reducible refine State.count_law ?_ _ ?_
    | with_reducible refine State.hrxDeliver_law ?_ _ _ _  ?_ ?_
    | exact InMask.mk 171 hW rfl rfl (Reg.PRT_TT_CNT_has_14 _)
    | dsimp only [id]

theorem State.hostBound_law {W P : Nat} {s0 s : State} (h : Law W P s0 s) (p : Nat) (frame : List Byte) (stamp : Time16) (hW : 0x400000000000000000000000000000000000f006000000007f0000000000000002000000000001e &&& W = 0x400000000000000000000000000000000000f006000000007f0000000000000002000000000001e) (hP : 0x14811c &&& P = 0x14811c) :
    Law W P s0 (State.hostBound s p frame stamp) := by
  unfold State.hostBound
  try dsimp only
  repeat' first
    | with_reducible assumption
    | with_reducible exact Law.refl _ _ _
    | exact sub_trans rfl hW
    | exact sub_trans rfl hP
    | with_reducible refine State.passCells_law ?_ _ _  ?_ ?_
    | with_reducible refine State.rxGood_law ?_ _ _  ?_ ?_
    | with_reducible refine State.ttToHost_law ?_ _ _ _  ?_ ?_
    | with_reducible refine Law.of_fst (by assumption) ?_
    | split
    | dsimp only [id]

theorem execPtpToHost_law {W P : Nat} (s : State) (p : Nat) (frame : List Byte) (t : LineStamp) (hW : 0x400000000000000000000000000000000000f006000000007f0000000000000002000000000001e &&& W = 0x400000000000000000000000000000000000f006000000007f0000000000000002000000000001e) (hP : 0x14811c &&& P = 0x14811c) :
    OutLaw W P s (execPtpToHost p frame t s) := by
  unfold execPtpToHost
  try dsimp only
  repeat' first
    | with_reducible assumption
    | with_reducible exact OutLaw.fault _
    | with_reducible refine OutLaw.ite (fun _ => ?_) (fun _ => ?_)
    | with_reducible refine OutLaw.next ?_
    | with_reducible exact Law.refl _ _ _
    | exact sub_trans rfl hW
    | exact sub_trans rfl hP
    | with_reducible refine Law.ite (fun _ => ?_) (fun _ => ?_)
    | with_reducible refine State.hostBound_law ?_ _ _ _  ?_ ?_
    | split
    | dsimp only [id]

theorem State.ttQueue_law {W P : Nat} {s0 s : State} (h : Law W P s0 s) (p : Nat) (o : TtOut) (hW : 0x0 &&& W = 0x0) (hP : 0x130000 &&& P = 0x130000) :
    Law W P s0 (State.ttQueue s p o) := by
  unfold State.ttQueue
  try dsimp only
  repeat' first
    | with_reducible assumption
    | with_reducible exact Law.refl _ _ _
    | exact sub_trans rfl hW
    | exact sub_trans rfl hP
    | with_reducible refine Law.ite (fun _ => ?_) (fun _ => ?_)
    | with_reducible refine State.setTt_law ?_ _ _  ?_ ?_
    | with_reducible refine State.trunkWake_law ?_ _  ?_ ?_
    | split
    | dsimp only [id]

theorem State.ttSendNew_law {W P : Nat} {s0 s : State} (h : Law W P s0 s) (p kind : Nat) (log : Int) (body : List Byte) (hW : 0x0 &&& W = 0x0) (hP : 0x130000 &&& P = 0x130000) :
    Law W P s0 (State.ttSendNew s p kind log body).1 := by
  unfold State.ttSendNew
  try dsimp only
  repeat' first
    | with_reducible assumption
    | with_reducible exact Law.refl _ _ _
    | exact sub_trans rfl hW
    | exact sub_trans rfl hP
    | with_reducible refine State.setTt_law ?_ _ _  ?_ ?_
    | with_reducible refine State.ttQueue_law ?_ _ _  ?_ ?_
    | split
    | dsimp only [id]

theorem execSyncGridDue_law {W P : Nat} (s : State) (p : Nat) (hW : 0x0 &&& W = 0x0) (hP : 0x130000 &&& P = 0x130000) :
    OutLaw W P s (execSyncGridDue p s) := by
  unfold execSyncGridDue
  try dsimp only
  repeat' first
    | with_reducible assumption
    | with_reducible exact OutLaw.fault _
    | with_reducible refine OutLaw.ite (fun _ => ?_) (fun _ => ?_)
    | with_reducible refine OutLaw.next ?_
    | with_reducible exact Law.refl _ _ _
    | exact sub_trans rfl hW
    | exact sub_trans rfl hP
    | with_reducible refine Law.ite (fun _ => ?_) (fun _ => ?_)
    | with_reducible refine State.setTt_law ?_ _ _  ?_ ?_
    | with_reducible refine State.ttSendNew_law ?_ _ _ _ _  ?_ ?_
    | with_reducible refine Law.of_fst (by assumption) ?_
    | split
    | dsimp only [id]

theorem State.ttUnanswered_law {W P : Nat} {s0 s : State} (h : Law W P s0 s) (p : Nat) (hW : 0x30000000000000000000000000000000000000000000 &&& W = 0x30000000000000000000000000000000000000000000) (hP : 0x20000 &&& P = 0x20000) :
    Law W P s0 (State.ttUnanswered s p) := by
  unfold State.ttUnanswered
  try dsimp only
  repeat' first
    | with_reducible assumption
    | with_reducible exact Law.refl _ _ _
    | exact sub_trans rfl hW
    | exact sub_trans rfl hP
    | with_reducible refine State.count_law ?_ _ ?_
    | with_reducible refine State.flag_law ?_ _ ?_
    | with_reducible refine State.setTt_law ?_ _ _  ?_ ?_
    | exact InMask.mk 172 hW rfl rfl (Reg.PRT_TT_CNT_has_6 _)
    | exact InMask.mk 173 hW rfl rfl (Reg.PRT_TT_FLAGS_has _)
    | with_reducible refine Law.of_fst (by assumption) ?_
    | split
    | dsimp only [id]

theorem execDelayReqDue_law {W P : Nat} (s : State) (p : Nat) (hW : 0x30000000000000000000000000000000000000000000 &&& W = 0x30000000000000000000000000000000000000000000) (hP : 0x170000 &&& P = 0x170000) :
    OutLaw W P s (execDelayReqDue p s) := by
  unfold execDelayReqDue
  try dsimp only
  repeat' first
    | with_reducible assumption
    | with_reducible exact OutLaw.fault _
    | with_reducible refine OutLaw.ite (fun _ => ?_) (fun _ => ?_)
    | with_reducible refine OutLaw.next ?_
    | with_reducible exact Law.refl _ _ _
    | exact sub_trans rfl hW
    | exact sub_trans rfl hP
    | with_reducible refine Law.ite (fun _ => ?_) (fun _ => ?_)
    | with_reducible refine State.ttUnanswered_law ?_ _  ?_ ?_
    | with_reducible refine State.ttSendNew_law ?_ _ _ _ _  ?_ ?_
    | with_reducible refine State.tookFree_law ?_   ?_ ?_
    | with_reducible refine State.setTt_law ?_ _ _  ?_ ?_
    | with_reducible refine Law.of_fst (by assumption) ?_
    | split
    | dsimp only [id]

theorem execFollowUpSend_law {W P : Nat} (s : State) (p : Nat) (hW : 0x0 &&& W = 0x0) (hP : 0x130000 &&& P = 0x130000) :
    OutLaw W P s (execFollowUpSend p s) := by
  unfold execFollowUpSend
  try dsimp only
  repeat' first
    | with_reducible assumption
    | with_reducible exact OutLaw.fault _
    | with_reducible refine OutLaw.ite (fun _ => ?_) (fun _ => ?_)
    | with_reducible refine OutLaw.next ?_
    | with_reducible exact Law.refl _ _ _
    | exact sub_trans rfl hW
    | exact sub_trans rfl hP
    | with_reducible refine Law.ite (fun _ => ?_) (fun _ => ?_)
    | with_reducible refine State.setTt_law ?_ _ _  ?_ ?_
    | with_reducible refine State.ttQueue_law ?_ _ _  ?_ ?_
    | with_reducible refine Law.of_fst (by assumption) ?_
    | split
    | dsimp only [id]

theorem State.ttSent_law {W P : Nat} {s0 s : State} (h : Law W P s0 s) (p : Nat) (o : TtOut) (out : Time16) (hW : 0x0 &&& W = 0x0) (hP : 0x20000 &&& P = 0x20000) :
    Law W P s0 (State.ttSent s p o out) := by
  unfold State.ttSent
  try dsimp only
  repeat' first
    | with_reducible assumption
    | with_reducible exact Law.refl _ _ _
    | exact sub_trans rfl hW
    | exact sub_trans rfl hP
    | with_reducible refine Law.ite (fun _ => ?_) (fun _ => ?_)
    | with_reducible refine State.setTt_law ?_ _ _  ?_ ?_
    | with_reducible refine Law.of_fst (by assumption) ?_
    | split
    | dsimp only [id]

theorem State.ttSend_law {W P : Nat} {s0 s : State} (h : Law W P s0 s) (p dep : Nat) (hW : 0x40000000000000000000000000000000000000000000 &&& W = 0x40000000000000000000000000000000000000000000) (hP : 0x130000 &&& P = 0x130000) :
    Law W P s0 (State.ttSend s p dep) := by
  unfold State.ttSend
  try dsimp only
  repeat' first
    | with_reducible assumption
    | with_reducible exact Law.refl _ _ _
    | exact sub_trans rfl hW
    | exact sub_trans rfl hP
    | with_reducible refine Law.ite (fun _ => ?_) (fun _ => ?_)
    | with_reducible refine State.count_law ?_ _ ?_
    | with_reducible refine State.setTt_law ?_ _ _  ?_ ?_
    | with_reducible refine State.emit_law ?_ _  ?_ ?_
    | with_reducible refine State.txFrame_law ?_ _ _  ?_ ?_
    | with_reducible refine State.ttSent_law ?_ _ _ _  ?_ ?_
    | exact InMask.mk 174 hW rfl rfl (Reg.PRT_TT_CNT_has _ _)
    | with_reducible refine Law.of_fst (by assumption) ?_
    | split
    | dsimp only [id]
    | with_reducible refine Law.put ?_ ?_ ?_ ?_ ?_ ?_ ?_ ?_ ?_ ?_ ?_ ?_ ?_ ?_ ?_ ?_ ?_ ?_ ?_ ?_ ?_ ?_
    | with_reducible exact Or.inl rfl
    | exact Or.inr (partIn hP rfl)

theorem execEngineFrameSend_law {W P : Nat} (s : State) (p dep : Nat) (hW : 0x40000000000000000000000000000000000000000000 &&& W = 0x40000000000000000000000000000000000000000000) (hP : 0x130000 &&& P = 0x130000) :
    OutLaw W P s (execEngineFrameSend p dep s) := by
  unfold execEngineFrameSend
  try dsimp only
  repeat' first
    | with_reducible assumption
    | with_reducible exact OutLaw.fault _
    | with_reducible refine OutLaw.ite (fun _ => ?_) (fun _ => ?_)
    | with_reducible refine OutLaw.next ?_
    | with_reducible exact Law.refl _ _ _
    | exact sub_trans rfl hW
    | exact sub_trans rfl hP
    | with_reducible refine Law.ite (fun _ => ?_) (fun _ => ?_)
    | with_reducible refine State.ttSend_law ?_ _ _  ?_ ?_
    | split
    | dsimp only [id]

theorem State.ttClearHist_law {W P : Nat} {s0 s : State} (h : Law W P s0 s) (p : Nat) (hW : 0x80000000000000 &&& W = 0x80000000000000) (hP : 0x20000 &&& P = 0x20000) :
    Law W P s0 (State.ttClearHist s p) := by
  unfold State.ttClearHist
  try dsimp only
  repeat' first
    | with_reducible assumption
    | with_reducible exact Law.refl _ _ _
    | exact sub_trans rfl hW
    | exact sub_trans rfl hP
    | with_reducible refine State.setFld_law ?_ _ _ ?_
    | with_reducible refine State.setTt_law ?_ _ _  ?_ ?_
    | exact InMask.mk 55 hW rfl rfl (Reg.PRT_TT_STATUS_has _)
    | dsimp only [id]

theorem State.ttResult_law {W P : Nat} {s0 s : State} (h : Law W P s0 s) (p : Nat) (r : Rat) (hW : 0x7a0000000000000000000000000000080000000000000 &&& W = 0x7a0000000000000000000000000000080000000000000) (hP : 0x60000 &&& P = 0x60000) :
    Law W P s0 (State.ttResult s p r) := by
  unfold State.ttResult
  try dsimp only
  repeat' first
    | with_reducible assumption
    | with_reducible exact Law.refl _ _ _
    | exact sub_trans rfl hW
    | exact sub_trans rfl hP
    | with_reducible refine Law.ite (fun _ => ?_) (fun _ => ?_)
    | with_reducible refine State.setFld_law ?_ _ _ ?_
    | with_reducible refine State.count_law ?_ _ ?_
    | with_reducible refine State.setPair_law ?_ _ _ _ ?_ ?_
    | with_reducible refine State.flag_law ?_ _ ?_
    | with_reducible refine State.ttClearHist_law ?_ _  ?_ ?_
    | with_reducible refine State.setTt_law ?_ _ _  ?_ ?_
    | with_reducible refine State.tookFree_law ?_   ?_ ?_
    | exact InMask.mk 55 hW rfl rfl (Reg.PRT_TT_STATUS_has _)
    | exact InMask.mk 173 hW rfl rfl (Reg.PRT_TT_FLAGS_has _)
    | exact InMask.mk 175 hW rfl rfl (Reg.PRT_TT_CNT_has_8 _)
    | exact InMask.mk 176 hW rfl rfl (Reg.PRT_TT_CNT_has_7 _)
    | exact InMask.mk 177 hW rfl rfl (Reg.PRT_TT_DELAY_LO_has _)
    | exact InMask.mk 178 hW rfl rfl (Reg.PRT_TT_DELAY_HI_has _)
    | split
    | dsimp only [id]

theorem execDlyValidExpiry_law {W P : Nat} (s : State) (p : Nat) (hW : 0x80000000000000 &&& W = 0x80000000000000) (hP : 0x0 &&& P = 0x0) :
    OutLaw W P s (execDlyValidExpiry p s) := by
  unfold execDlyValidExpiry
  try dsimp only
  repeat' first
    | with_reducible assumption
    | with_reducible exact OutLaw.fault _
    | with_reducible refine OutLaw.ite (fun _ => ?_) (fun _ => ?_)
    | with_reducible refine OutLaw.next ?_
    | with_reducible exact Law.refl _ _ _
    | exact sub_trans rfl hW
    | exact sub_trans rfl hP
    | with_reducible refine Law.ite (fun _ => ?_) (fun _ => ?_)
    | with_reducible refine State.setFld_law ?_ _ _ ?_
    | exact InMask.mk 55 hW rfl rfl (Reg.PRT_TT_STATUS_has _)
    | split
    | dsimp only [id]

theorem State.ttNotPushed_law {W P : Nat} {s0 s : State} (h : Law W P s0 s) (p : Nat) (hW : 0x800000000000000000000000000000000000000000000 &&& W = 0x800000000000000000000000000000000000000000000) (hP : 0x0 &&& P = 0x0) :
    Law W P s0 (State.ttNotPushed s p) := by
  unfold State.ttNotPushed
  try dsimp only
  repeat' first
    | with_reducible assumption
    | with_reducible exact Law.refl _ _ _
    | exact sub_trans rfl hW
    | exact sub_trans rfl hP
    | with_reducible refine State.count_law ?_ _ ?_
    | exact InMask.mk 179 hW rfl rfl (Reg.PRT_TT_CNT_has_10 _)
    | dsimp only [id]

theorem State.ttPush_law {W P : Nat} {s0 s : State} (h : Law W P s0 s) (p : Nat) (o : Int) (hW : 0x1820000000000000000000000000000001b4200000000e &&& W = 0x1820000000000000000000000000000001b4200000000e) (hP : 0x10030c &&& P = 0x10030c) :
    Law W P s0 (State.ttPush s p o) := by
  unfold State.ttPush
  try dsimp only
  repeat' first
    | with_reducible assumption
    | with_reducible exact Law.refl _ _ _
    | exact sub_trans rfl hW
    | exact sub_trans rfl hP
    | with_reducible refine Law.ite (fun _ => ?_) (fun _ => ?_)
    | with_reducible refine State.count_law ?_ _ ?_
    | with_reducible refine State.flag_law ?_ _ ?_
    | with_reducible refine State.ttNotPushed_law ?_ _  ?_ ?_
    | with_reducible refine State.engineFeedPush_law ?_ _ _  ?_ ?_
    | with_reducible refine State.stepDomain_law ?_ _ _  ?_ ?_
    | with_reducible refine State.noteStep_law ?_ _ _ _  ?_ ?_
    | with_reducible refine State.spoutEvent_law ?_ _ _ _ _  ?_ ?_
    | exact InMask.mk 173 hW rfl rfl (Reg.PRT_TT_FLAGS_has _)
    | exact InMask.mk 180 hW rfl rfl (Reg.PRT_TT_CNT_has_9 _)
    | split
    | dsimp only [id]

theorem State.ttNote_law {W P : Nat} {s0 s : State} (h : Law W P s0 s) (p : Nat) (o : Int) (hW : 0x6000000000000000000000000000000000000000000000 &&& W = 0x6000000000000000000000000000000000000000000000) (hP : 0x20000 &&& P = 0x20000) :
    Law W P s0 (State.ttNote s p o) := by
  unfold State.ttNote
  try dsimp only
  repeat' first
    | with_reducible assumption
    | with_reducible exact Law.refl _ _ _
    | exact sub_trans rfl hW
    | exact sub_trans rfl hP
    | with_reducible refine State.setPair_law ?_ _ _ _ ?_ ?_
    | with_reducible refine State.setTt_law ?_ _ _  ?_ ?_
    | exact InMask.mk 181 hW rfl rfl (Reg.PRT_TT_OFS_LO_has _)
    | exact InMask.mk 182 hW rfl rfl (Reg.PRT_TT_OFS_HI_has _)
    | dsimp only [id]

theorem State.ttSyncOfs_law {W P : Nat} {s0 s : State} (h : Law W P s0 s) (p : Nat) (o : Int) (hW : 0x7820000000000000000000000000000081b4200000000e &&& W = 0x7820000000000000000000000000000081b4200000000e) (hP : 0x12030c &&& P = 0x12030c) :
    Law W P s0 (State.ttSyncOfs s p o) := by
  unfold State.ttSyncOfs
  try dsimp only
  repeat' first
    | with_reducible assumption
    | with_reducible exact Law.refl _ _ _
    | exact sub_trans rfl hW
    | exact sub_trans rfl hP
    | with_reducible refine Law.ite (fun _ => ?_) (fun _ => ?_)
    | with_reducible refine State.setFld_law ?_ _ _ ?_
    | with_reducible refine State.ttNote_law ?_ _ _  ?_ ?_
    | with_reducible refine State.setTt_law ?_ _ _  ?_ ?_
    | with_reducible refine State.ttPush_law ?_ _ _  ?_ ?_
    | exact InMask.mk 55 hW rfl rfl (Reg.PRT_TT_STATUS_has _)
    | split
    | dsimp only [id]

theorem State.ttUseSync_law {W P : Nat} {s0 s : State} (h : Law W P s0 s) (p : Nat) (t1 : Int) (t2 : Time16) (steps : Nat) (hW : 0xf820000000000000000000000000000081b4200000000e &&& W = 0xf820000000000000000000000000000081b4200000000e) (hP : 0x16030c &&& P = 0x16030c) :
    Law W P s0 (State.ttUseSync s p t1 t2 steps) := by
  unfold State.ttUseSync
  try dsimp only
  repeat' first
    | with_reducible assumption
    | with_reducible exact Law.refl _ _ _
    | exact sub_trans rfl hW
    | exact sub_trans rfl hP
    | with_reducible refine Law.ite (fun _ => ?_) (fun _ => ?_)
    | with_reducible refine State.count_law ?_ _ ?_
    | with_reducible refine State.ttNotPushed_law ?_ _  ?_ ?_
    | with_reducible refine State.setTt_law ?_ _ _  ?_ ?_
    | with_reducible refine State.tookFree_law ?_   ?_ ?_
    | with_reducible refine State.ttSyncOfs_law ?_ _ _  ?_ ?_
    | exact InMask.mk 183 hW rfl rfl (Reg.PRT_TT_CNT_has_4 _)
    | split
    | dsimp only [id]

theorem State.ttSyncLost_law {W P : Nat} {s0 s : State} (h : Law W P s0 s) (p : Nat) (hW : 0x10020000000000000000000000000000000000000000000 &&& W = 0x10020000000000000000000000000000000000000000000) (hP : 0x20000 &&& P = 0x20000) :
    Law W P s0 (State.ttSyncLost s p) := by
  unfold State.ttSyncLost
  try dsimp only
  repeat' first
    | with_reducible assumption
    | with_reducible exact Law.refl _ _ _
    | exact sub_trans rfl hW
    | exact sub_trans rfl hP
    | with_reducible refine State.count_law ?_ _ ?_
    | with_reducible refine State.flag_law ?_ _ ?_
    | with_reducible refine State.setTt_law ?_ _ _  ?_ ?_
    | exact InMask.mk 173 hW rfl rfl (Reg.PRT_TT_FLAGS_has _)
    | exact InMask.mk 184 hW rfl rfl (Reg.PRT_TT_CNT_has_5 _)
    | with_reducible refine Law.of_fst (by assumption) ?_
    | split
    | dsimp only [id]

theorem State.ttSync_law {W P : Nat} {s0 s : State} (h : Law W P s0 s) (p : Nat) (m : PtpMsg) (t2 : Time16) (hW : 0x1f820000000000000000000000000000081b4200000000e &&& W = 0x1f820000000000000000000000000000081b4200000000e) (hP : 0x16030c &&& P = 0x16030c) :
    Law W P s0 (State.ttSync s p m t2) := by
  unfold State.ttSync
  try dsimp only
  repeat' first
    | with_reducible assumption
    | with_reducible exact Law.refl _ _ _
    | exact sub_trans rfl hW
    | exact sub_trans rfl hP
    | with_reducible refine Law.ite (fun _ => ?_) (fun _ => ?_)
    | with_reducible refine State.ttSyncLost_law ?_ _  ?_ ?_
    | with_reducible refine State.setTt_law ?_ _ _  ?_ ?_
    | with_reducible refine State.ttUseSync_law ?_ _ _ _ _  ?_ ?_
    | split
    | dsimp only [id]

theorem State.ttFollowUp_law {W P : Nat} {s0 s : State} (h : Law W P s0 s) (p : Nat) (m : PtpMsg) (hW : 0xf820000000000000000000000000000081b4200000000e &&& W = 0xf820000000000000000000000000000081b4200000000e) (hP : 0x16030c &&& P = 0x16030c) :
    Law W P s0 (State.ttFollowUp s p m) := by
  unfold State.ttFollowUp
  try dsimp only
  repeat' first
    | with_reducible assumption
    | with_reducible exact Law.refl _ _ _
    | exact sub_trans rfl hW
    | exact sub_trans rfl hP
    | with_reducible refine Law.ite (fun _ => ?_) (fun _ => ?_)
    | with_reducible refine State.setTt_law ?_ _ _  ?_ ?_
    | with_reducible refine State.ttUseSync_law ?_ _ _ _ _  ?_ ?_
    | with_reducible refine Law.of_fst (by assumption) ?_
    | split
    | dsimp only [id]

theorem State.ttDelayResp_law {W P : Nat} {s0 s : State} (h : Law W P s0 s) (p : Nat) (m : PtpMsg) (r : TtReq) (t3 : Time16) (k3 : Nat) (hW : 0xfa0000000000000000000000000000080000000000000 &&& W = 0xfa0000000000000000000000000000080000000000000) (hP : 0x60000 &&& P = 0x60000) :
    Law W P s0 (State.ttDelayResp s p m r t3 k3) := by
  unfold State.ttDelayResp
  try dsimp only
  repeat' first
    | with_reducible assumption
    | with_reducible exact Law.refl _ _ _
    | exact sub_trans rfl hW
    | exact sub_trans rfl hP
    | with_reducible refine Law.ite (fun _ => ?_) (fun _ => ?_)
    | with_reducible refine State.setTt_law ?_ _ _  ?_ ?_
    | with_reducible refine State.ttNotPushed_law ?_ _  ?_ ?_
    | with_reducible refine State.ttResult_law ?_ _ _  ?_ ?_
    | with_reducible refine Law.of_fst (by assumption) ?_
    | split
    | dsimp only [id]

theorem State.ttPdelayResp_law {W P : Nat} {s0 s : State} (h : Law W P s0 s) (p : Nat) (m : PtpMsg) (r : TtReq) (t4 : Time16) (hW : 0x0 &&& W = 0x0) (hP : 0x20000 &&& P = 0x20000) :
    Law W P s0 (State.ttPdelayResp s p m r t4) := by
  unfold State.ttPdelayResp
  try dsimp only
  repeat' first
    | with_reducible assumption
    | with_reducible exact Law.refl _ _ _
    | exact sub_trans rfl hW
    | exact sub_trans rfl hP
    | with_reducible refine State.setTt_law ?_ _ _  ?_ ?_
    | dsimp only [id]

theorem State.ttPdelayFu_law {W P : Nat} {s0 s : State} (h : Law W P s0 s) (p : Nat) (m : PtpMsg) (r : TtReq) (t1 : Time16) (k1 : Nat) (hW : 0x20fa0000000000000000000000000000080000000000000 &&& W = 0x20fa0000000000000000000000000000080000000000000) (hP : 0x60000 &&& P = 0x60000) :
    Law W P s0 (State.ttPdelayFu s p m r t1 k1) := by
  unfold State.ttPdelayFu
  try dsimp only
  repeat' first
    | with_reducible assumption
    | with_reducible exact Law.refl _ _ _
    | exact sub_trans rfl hW
    | exact sub_trans rfl hP
    | with_reducible refine Law.ite (fun _ => ?_) (fun _ => ?_)
    | with_reducible refine State.setFld_law ?_ _ _ ?_
    | with_reducible refine State.setTt_law ?_ _ _  ?_ ?_
    | with_reducible refine State.ttNotPushed_law ?_ _  ?_ ?_
    | with_reducible refine State.tookFree_law ?_   ?_ ?_
    | with_reducible refine State.ttResult_law ?_ _ _  ?_ ?_
    | exact InMask.mk 185 hW rfl rfl (Reg.PRT_TT_NRR_has _)
    | with_reducible refine Law.of_fst (by assumption) ?_
    | split
    | dsimp only [id]

theorem State.ttAnswerDelay_law {W P : Nat} {s0 s : State} (h : Law W P s0 s) (p : Nat) (m : PtpMsg) (t4 : Time16) (hW : 0x0 &&& W = 0x0) (hP : 0x130000 &&& P = 0x130000) :
    Law W P s0 (State.ttAnswerDelay s p m t4) := by
  unfold State.ttAnswerDelay
  try dsimp only
  repeat' first
    | with_reducible assumption
    | with_reducible exact Law.refl _ _ _
    | exact sub_trans rfl hW
    | exact sub_trans rfl hP
    | with_reducible refine Law.ite (fun _ => ?_) (fun _ => ?_)
    | with_reducible refine State.ttQueue_law ?_ _ _  ?_ ?_
    | split
    | dsimp only [id]

theorem State.ttAnswerPdelay_law {W P : Nat} {s0 s : State} (h : Law W P s0 s) (p : Nat) (m : PtpMsg) (t2 : Time16) (hW : 0x0 &&& W = 0x0) (hP : 0x130000 &&& P = 0x130000) :
    Law W P s0 (State.ttAnswerPdelay s p m t2) := by
  unfold State.ttAnswerPdelay
  try dsimp only
  repeat' first
    | with_reducible assumption
    | with_reducible exact Law.refl _ _ _
    | exact sub_trans rfl hW
    | exact sub_trans rfl hP
    | with_reducible refine Law.ite (fun _ => ?_) (fun _ => ?_)
    | with_reducible refine State.ttQueue_law ?_ _ _  ?_ ?_
    | split
    | dsimp only [id]

theorem State.ttMessage_law {W P : Nat} {s0 s : State} (h : Law W P s0 s) (p : Nat) (m : PtpMsg) (t : Time16) (hW : 0x400000000000000000000000000000007ffaf000000000000000000000000000081b4200000001e &&& W = 0x400000000000000000000000000000007ffaf000000000000000000000000000081b4200000001e) (hP : 0x17031c &&& P = 0x17031c) :
    Law W P s0 (State.ttMessage s p m t) := by
  unfold State.ttMessage
  try dsimp only
  repeat' first
    | with_reducible assumption
    | with_reducible exact Law.refl _ _ _
    | exact sub_trans rfl hW
    | exact sub_trans rfl hP
    | with_reducible refine Law.ite (fun _ => ?_) (fun _ => ?_)
    | with_reducible refine State.count_law ?_ _ ?_
    | with_reducible refine State.ttSync_law ?_ _ _ _  ?_ ?_
    | with_reducible refine State.ttFollowUp_law ?_ _ _  ?_ ?_
    | with_reducible refine State.ttAnswerDelay_law ?_ _ _ _  ?_ ?_
    | with_reducible refine State.ttAnswerPdelay_law ?_ _ _ _  ?_ ?_
    | with_reducible refine State.ttPdelayResp_law ?_ _ _ _ _  ?_ ?_
    | with_reducible refine State.ttPdelayFu_law ?_ _ _ _ _ _  ?_ ?_
    | with_reducible refine State.ttDelayResp_law ?_ _ _ _ _ _  ?_ ?_
    | with_reducible refine State.ttToHost_law ?_ _ _ _  ?_ ?_
    | exact InMask.mk 186 hW rfl rfl (Reg.PRT_TT_CNT_has_15 _)
    | with_reducible refine Law.of_fst (by assumption) ?_
    | split
    | dsimp only [id]

theorem State.ttReceived_law {W P : Nat} {s0 s : State} (h : Law W P s0 s) (p kind : Nat) (m : PtpMsg) (t : LineStamp) (hW : 0x400000000000000000000000000000007ffaf006000000007f000000000000000a1b4200000001e &&& W = 0x400000000000000000000000000000007ffaf006000000007f000000000000000a1b4200000001e) (hP : 0x17831c &&& P = 0x17831c) :
    Law W P s0 (State.ttReceived s p kind m t) := by
  unfold State.ttReceived
  try dsimp only
  repeat' first
    | with_reducible assumption
    | with_reducible exact Law.refl _ _ _
    | exact sub_trans rfl hW
    | exact sub_trans rfl hP
    | with_reducible refine Law.ite (fun _ => ?_) (fun _ => ?_)
    | with_reducible refine State.passCells_law ?_ _ _  ?_ ?_
    | with_reducible refine State.rxGood_law ?_ _ _  ?_ ?_
    | with_reducible refine State.ttMessage_law ?_ _ _ _  ?_ ?_
    | with_reducible refine Law.of_fst (by assumption) ?_
    | split
    | dsimp only [id]

theorem execSyncReceived_law {W P : Nat} (s : State) (p : Nat) (m : PtpMsg) (t : LineStamp) (hW : 0x400000000000000000000000000000007ffaf006000000007f000000000000000a1b4200000001e &&& W = 0x400000000000000000000000000000007ffaf006000000007f000000000000000a1b4200000001e) (hP : 0x17831c &&& P = 0x17831c) :
    OutLaw W P s (execSyncReceived p m t s) := by
  unfold execSyncReceived
  try dsimp only
  repeat' first
    | with_reducible assumption
    | with_reducible exact OutLaw.fault _
    | with_reducible refine OutLaw.ite (fun _ => ?_) (fun _ => ?_)
    | with_reducible refine OutLaw.next ?_
    | with_reducible exact Law.refl _ _ _
    | exact sub_trans rfl hW
    | exact sub_trans rfl hP
    | with_reducible refine Law.ite (fun _ => ?_) (fun _ => ?_)
    | with_reducible refine State.ttReceived_law ?_ _ _ _ _  ?_ ?_
    | split
    | dsimp only [id]

theorem execFollowUpReceived_law {W P : Nat} (s : State) (p : Nat) (m : PtpMsg) (t : LineStamp) (hW : 0x400000000000000000000000000000007ffaf006000000007f000000000000000a1b4200000001e &&& W = 0x400000000000000000000000000000007ffaf006000000007f000000000000000a1b4200000001e) (hP : 0x17831c &&& P = 0x17831c) :
    OutLaw W P s (execFollowUpReceived p m t s) := by
  unfold execFollowUpReceived
  try dsimp only
  repeat' first
    | with_reducible assumption
    | with_reducible exact OutLaw.fault _
    | with_reducible refine OutLaw.ite (fun _ => ?_) (fun _ => ?_)
    | with_reducible refine OutLaw.next ?_
    | with_reducible exact Law.refl _ _ _
    | exact sub_trans rfl hW
    | exact sub_trans rfl hP
    | with_reducible refine Law.ite (fun _ => ?_) (fun _ => ?_)
    | with_reducible refine State.ttReceived_law ?_ _ _ _ _  ?_ ?_
    | split
    | dsimp only [id]

theorem execDelayReqReceived_law {W P : Nat} (s : State) (p : Nat) (m : PtpMsg) (t : LineStamp) (hW : 0x400000000000000000000000000000007ffaf006000000007f000000000000000a1b4200000001e &&& W = 0x400000000000000000000000000000007ffaf006000000007f000000000000000a1b4200000001e) (hP : 0x17831c &&& P = 0x17831c) :
    OutLaw W P s (execDelayReqReceived p m t s) := by
  unfold execDelayReqReceived
  try dsimp only
  repeat' first
    | with_reducible assumption
    | with_reducible exact OutLaw.fault _
    | with_reducible refine OutLaw.ite (fun _ => ?_) (fun _ => ?_)
    | with_reducible refine OutLaw.next ?_
    | with_reducible exact Law.refl _ _ _
    | exact sub_trans rfl hW
    | exact sub_trans rfl hP
    | with_reducible refine Law.ite (fun _ => ?_) (fun _ => ?_)
    | with_reducible refine State.ttReceived_law ?_ _ _ _ _  ?_ ?_
    | split
    | dsimp only [id]

theorem execDelayRespReceived_law {W P : Nat} (s : State) (p : Nat) (m : PtpMsg) (t : LineStamp) (hW : 0x400000000000000000000000000000007ffaf006000000007f000000000000000a1b4200000001e &&& W = 0x400000000000000000000000000000007ffaf006000000007f000000000000000a1b4200000001e) (hP : 0x17831c &&& P = 0x17831c) :
    OutLaw W P s (execDelayRespReceived p m t s) := by
  unfold execDelayRespReceived
  try dsimp only
  repeat' first
    | with_reducible assumption
    | with_reducible exact OutLaw.fault _
    | with_reducible refine OutLaw.ite (fun _ => ?_) (fun _ => ?_)
    | with_reducible refine OutLaw.next ?_
    | with_reducible exact Law.refl _ _ _
    | exact sub_trans rfl hW
    | exact sub_trans rfl hP
    | with_reducible refine Law.ite (fun _ => ?_) (fun _ => ?_)
    | with_reducible refine State.ttReceived_law ?_ _ _ _ _  ?_ ?_
    | split
    | dsimp only [id]

theorem execPdelayReqReceived_law {W P : Nat} (s : State) (p : Nat) (m : PtpMsg) (t : LineStamp) (hW : 0x400000000000000000000000000000007ffaf006000000007f000000000000000a1b4200000001e &&& W = 0x400000000000000000000000000000007ffaf006000000007f000000000000000a1b4200000001e) (hP : 0x17831c &&& P = 0x17831c) :
    OutLaw W P s (execPdelayReqReceived p m t s) := by
  unfold execPdelayReqReceived
  try dsimp only
  repeat' first
    | with_reducible assumption
    | with_reducible exact OutLaw.fault _
    | with_reducible refine OutLaw.ite (fun _ => ?_) (fun _ => ?_)
    | with_reducible refine OutLaw.next ?_
    | with_reducible exact Law.refl _ _ _
    | exact sub_trans rfl hW
    | exact sub_trans rfl hP
    | with_reducible refine Law.ite (fun _ => ?_) (fun _ => ?_)
    | with_reducible refine State.ttReceived_law ?_ _ _ _ _  ?_ ?_
    | split
    | dsimp only [id]

theorem execPdelayRespReceived_law {W P : Nat} (s : State) (p : Nat) (m : PtpMsg) (t : LineStamp) (hW : 0x400000000000000000000000000000007ffaf006000000007f000000000000000a1b4200000001e &&& W = 0x400000000000000000000000000000007ffaf006000000007f000000000000000a1b4200000001e) (hP : 0x17831c &&& P = 0x17831c) :
    OutLaw W P s (execPdelayRespReceived p m t s) := by
  unfold execPdelayRespReceived
  try dsimp only
  repeat' first
    | with_reducible assumption
    | with_reducible exact OutLaw.fault _
    | with_reducible refine OutLaw.ite (fun _ => ?_) (fun _ => ?_)
    | with_reducible refine OutLaw.next ?_
    | with_reducible exact Law.refl _ _ _
    | exact sub_trans rfl hW
    | exact sub_trans rfl hP
    | with_reducible refine Law.ite (fun _ => ?_) (fun _ => ?_)
    | with_reducible refine State.ttReceived_law ?_ _ _ _ _  ?_ ?_
    | split
    | dsimp only [id]

theorem execPdelayRespFuReceived_law {W P : Nat} (s : State) (p : Nat) (m : PtpMsg) (t : LineStamp) (hW : 0x400000000000000000000000000000007ffaf006000000007f000000000000000a1b4200000001e &&& W = 0x400000000000000000000000000000007ffaf006000000007f000000000000000a1b4200000001e) (hP : 0x17831c &&& P = 0x17831c) :
    OutLaw W P s (execPdelayRespFuReceived p m t s) := by
  unfold execPdelayRespFuReceived
  try dsimp only
  repeat' first
    | with_reducible assumption
    | with_reducible exact OutLaw.fault _
    | with_reducible refine OutLaw.ite (fun _ => ?_) (fun _ => ?_)
    | with_reducible refine OutLaw.next ?_
    | with_reducible exact Law.refl _ _ _
    | exact sub_trans rfl hW
    | exact sub_trans rfl hP
    | with_reducible refine Law.ite (fun _ => ?_) (fun _ => ?_)
    | with_reducible refine State.ttReceived_law ?_ _ _ _ _  ?_ ?_
    | split
    | dsimp only [id]

theorem execFollowUpTimeout_law {W P : Nat} (s : State) (p : Nat) (hW : 0x10020000000000000000000000000000000000000000000 &&& W = 0x10020000000000000000000000000000000000000000000) (hP : 0x20000 &&& P = 0x20000) :
    OutLaw W P s (execFollowUpTimeout p s) := by
  unfold execFollowUpTimeout
  try dsimp only
  repeat' first
    | with_reducible assumption
    | with_reducible exact OutLaw.fault _
    | with_reducible refine OutLaw.ite (fun _ => ?_) (fun _ => ?_)
    | with_reducible refine OutLaw.next ?_
    | with_reducible exact Law.refl _ _ _
    | exact sub_trans rfl hW
    | exact sub_trans rfl hP
    | with_reducible refine Law.ite (fun _ => ?_) (fun _ => ?_)
    | with_reducible refine State.ttSyncLost_law ?_ _  ?_ ?_
    | split
    | dsimp only [id]

theorem execDelayRespTimeout_law {W P : Nat} (s : State) (p : Nat) (hW : 0x30000000000000000000000000000000000000000000 &&& W = 0x30000000000000000000000000000000000000000000) (hP : 0x20000 &&& P = 0x20000) :
    OutLaw W P s (execDelayRespTimeout p s) := by
  unfold execDelayRespTimeout
  try dsimp only
  repeat' first
    | with_reducible assumption
    | with_reducible exact OutLaw.fault _
    | with_reducible refine OutLaw.ite (fun _ => ?_) (fun _ => ?_)
    | with_reducible refine OutLaw.next ?_
    | with_reducible exact Law.refl _ _ _
    | exact sub_trans rfl hW
    | exact sub_trans rfl hP
    | with_reducible refine Law.ite (fun _ => ?_) (fun _ => ?_)
    | with_reducible refine State.ttUnanswered_law ?_ _  ?_ ?_
    | split
    | dsimp only [id]

theorem State.ttMarkerUse_law {W P : Nat} {s0 s : State} (h : Law W P s0 s) (p : Nat) (o : Int) (hW : 0x6000000000000000000000000000000000000000000000 &&& W = 0x6000000000000000000000000000000000000000000000) (hP : 0x20000 &&& P = 0x20000) :
    Law W P s0 (State.ttMarkerUse s p o) := by
  unfold State.ttMarkerUse
  try dsimp only
  repeat' first
    | with_reducible assumption
    | with_reducible exact Law.refl _ _ _
    | exact sub_trans rfl hW
    | exact sub_trans rfl hP
    | with_reducible refine State.ttNote_law ?_ _ _  ?_ ?_
    | with_reducible refine State.setTt_law ?_ _ _  ?_ ?_
    | dsimp only [id]

theorem State.ttMarker_law {W P : Nat} {s0 s : State} (h : Law W P s0 s) (p w : Nat) (a : Time16) (hW : 0x86020000000000000000000000000000000000000000000 &&& W = 0x86020000000000000000000000000000000000000000000) (hP : 0x20000 &&& P = 0x20000) :
    Law W P s0 (State.ttMarker s p w a) := by
  unfold State.ttMarker
  try dsimp only
  repeat' first
    | with_reducible assumption
    | with_reducible exact Law.refl _ _ _
    | exact sub_trans rfl hW
    | exact sub_trans rfl hP
    | with_reducible refine Law.ite (fun _ => ?_) (fun _ => ?_)
    | with_reducible refine State.count_law ?_ _ ?_
    | with_reducible refine State.flag_law ?_ _ ?_
    | with_reducible refine State.ttMarkerUse_law ?_ _ _  ?_ ?_
    | exact InMask.mk 173 hW rfl rfl (Reg.PRT_TT_FLAGS_has _)
    | exact InMask.mk 187 hW rfl rfl (Reg.PRT_TT_CNT_has_13 _)
    | with_reducible refine Law.of_fst (by assumption) ?_
    | split
    | dsimp only [id]

theorem State.ttClose_law {W P : Nat} {s0 s : State} (h : Law W P s0 s) (p : Nat) (hW : 0x301820000000000000000000000000000081b4200000000e &&& W = 0x301820000000000000000000000000000081b4200000000e) (hP : 0x16030c &&& P = 0x16030c) :
    Law W P s0 (State.ttClose s p) := by
  unfold State.ttClose
  try dsimp only
  repeat' first
    | with_reducible assumption
    | with_reducible exact Law.refl _ _ _
    | exact sub_trans rfl hW
    | exact sub_trans rfl hP
    | with_reducible refine Law.ite (fun _ => ?_) (fun _ => ?_)
    | with_reducible refine State.setFld_law ?_ _ _ ?_
    | with_reducible refine State.countN_law ?_ _ _ ?_
    | with_reducible refine State.count_law ?_ _ ?_
    | with_reducible refine State.setTt_law ?_ _ _  ?_ ?_
    | with_reducible refine State.ttNotPushed_law ?_ _  ?_ ?_
    | with_reducible refine State.ttPush_law ?_ _ _  ?_ ?_
    | with_reducible refine State.tookFree_law ?_   ?_ ?_
    | exact InMask.mk 55 hW rfl rfl (Reg.PRT_TT_STATUS_has _)
    | exact InMask.mk 188 hW rfl rfl (Reg.PRT_TT_CNT_has_11 _)
    | exact InMask.mk 189 hW rfl rfl (Reg.PRT_TT_CNT_has_12 _)
    | split
    | dsimp only [id]

theorem execOffsetWindowClose_law {W P : Nat} (s : State) (p : Nat) (hW : 0x301820000000000000000000000000000081b4200000000e &&& W = 0x301820000000000000000000000000000081b4200000000e) (hP : 0x16030c &&& P = 0x16030c) :
    OutLaw W P s (execOffsetWindowClose p s) := by
  unfold execOffsetWindowClose
  try dsimp only
  repeat' first
    | with_reducible assumption
    | with_reducible exact OutLaw.fault _
    | with_reducible refine OutLaw.ite (fun _ => ?_) (fun _ => ?_)
    | with_reducible refine OutLaw.next ?_
    | with_reducible exact Law.refl _ _ _
    | exact sub_trans rfl hW
    | exact sub_trans rfl hP
    | with_reducible refine Law.ite (fun _ => ?_) (fun _ => ?_)
    | with_reducible refine State.ttClose_law ?_ _  ?_ ?_
    | split
    | dsimp only [id]

theorem State.ttAbandon_law {W P : Nat} {s0 s : State} (h : Law W P s0 s) (p : Nat) (hW : 0x0 &&& W = 0x0) (hP : 0x20000 &&& P = 0x20000) :
    Law W P s0 (State.ttAbandon s p) := by
  unfold State.ttAbandon
  try dsimp only
  repeat' first
    | with_reducible assumption
    | with_reducible exact Law.refl _ _ _
    | exact sub_trans rfl hW
    | exact sub_trans rfl hP
    | with_reducible refine State.setTt_law ?_ _ _  ?_ ?_
    | dsimp only [id]

theorem State.ttPortDown_law {W P : Nat} {s0 s : State} (h : Law W P s0 s) (p : Nat) (hW : 0x80000000000000 &&& W = 0x80000000000000) (hP : 0x20000 &&& P = 0x20000) :
    Law W P s0 (State.ttPortDown s p) := by
  unfold State.ttPortDown
  try dsimp only
  repeat' first
    | with_reducible assumption
    | with_reducible exact Law.refl _ _ _
    | exact sub_trans rfl hW
    | exact sub_trans rfl hP
    | with_reducible refine State.ttAbandon_law ?_ _  ?_ ?_
    | with_reducible refine State.setTt_law ?_ _ _  ?_ ?_
    | with_reducible refine State.ttClearHist_law ?_ _  ?_ ?_
    | dsimp only [id]

theorem State.ttStepChange_law {W P : Nat} {s0 s : State} (h : Law W P s0 s) (p : Nat) (hW : 0x80000000000000 &&& W = 0x80000000000000) (hP : 0x20000 &&& P = 0x20000) :
    Law W P s0 (State.ttStepChange s p) := by
  unfold State.ttStepChange
  try dsimp only
  repeat' first
    | with_reducible assumption
    | with_reducible exact Law.refl _ _ _
    | exact sub_trans rfl hW
    | exact sub_trans rfl hP
    | with_reducible refine State.setTt_law ?_ _ _  ?_ ?_
    | with_reducible refine State.ttClearHist_law ?_ _  ?_ ?_
    | dsimp only [id]

theorem State.ttConsumer_law {W P : Nat} {s0 s : State} (h : Law W P s0 s) (p : Nat) (hW : 0xc8000000000000000000 &&& W = 0xc8000000000000000000) (hP : 0x1000 &&& P = 0x1000) :
    Law W P s0 (State.ttConsumer s p) := by
  unfold State.ttConsumer
  try dsimp only
  repeat' first
    | with_reducible assumption
    | with_reducible exact Law.refl _ _ _
    | exact sub_trans rfl hW
    | exact sub_trans rfl hP
    | with_reducible refine Law.ite (fun _ => ?_) (fun _ => ?_)
    | with_reducible refine State.engineTakes_law ?_ _  ?_ ?_
    | with_reducible refine State.engineLeaves_law ?_ _  ?_ ?_
    | split
    | dsimp only [id]

theorem State.ttCalWrite_law {W P : Nat} {s0 s : State} (h : Law W P s0 s) (a : Acc) (p ofs v : Nat) (trim : Bool) (hE : InMask W (Reg.ERR_STATUS a.base)) (hO : InMask W (Reg.ERR_OFS a.base)) (ha : InMask W ofs) (hW : 0x60000000000000000000000000000000000000000000000000000000000000000080000000000012 &&& W = 0x60000000000000000000000000000000000000000000000000000000000000000080000000000012) (hP : 0x120004 &&& P = 0x120004) :
    Law W P s0 (State.ttCalWrite s a p ofs v trim) := by
  unfold State.ttCalWrite
  try dsimp only
  repeat' first
    | with_reducible assumption
    | with_reducible exact Law.refl _ _ _
    | exact sub_trans rfl hW
    | exact sub_trans rfl hP
    | exact hE
    | exact hO
    | exact ha
    | with_reducible refine Law.ite (fun _ => ?_) (fun _ => ?_)
    | with_reducible refine State.wr_law ?_ _ _ ?_
    | with_reducible refine State.portGuard_law ?_ _ _ _ _ ?_ ?_ (fun _ _ => ?_) ?_ ?_
    | with_reducible refine State.ttClearHist_law ?_ _  ?_ ?_
    | split
    | dsimp only [id]

theorem execTrimWrite_law {W P : Nat} (s : State) (p : Nat) (rx : Bool) (v : BitVec 32) (hW : 0x180000063000000000000000000000000000000000000000000000000000000000000000080000000000012 &&& W = 0x180000063000000000000000000000000000000000000000000000000000000000000000080000000000012) (hP : 0x120004 &&& P = 0x120004) :
    OutLaw W P s (execTrimWrite p rx v s) := by
  unfold execTrimWrite
  try dsimp only
  repeat' first
    | with_reducible assumption
    | with_reducible exact OutLaw.fault _
    | with_reducible refine OutLaw.ite (fun _ => ?_) (fun _ => ?_)
    | with_reducible refine OutLaw.next ?_
    | with_reducible exact Law.refl _ _ _
    | exact sub_trans rfl hW
    | exact sub_trans rfl hP
    | with_reducible refine Law.ite (fun _ => ?_) (fun _ => ?_)
    | with_reducible refine State.ttCalWrite_law ?_ _ _ _ _ _ ?_ ?_ ?_ ?_ ?_
    | exact InMask.mk 312 hW rfl rfl (Reg.PRT_TT_TRIM_RX_has _)
    | exact InMask.mk 313 hW rfl rfl (Reg.PRT_TT_TRIM_TX_has _)
    | exact InMask.mk 343 hW rfl rfl (Reg.ERR_STATUS_has_PRT _)
    | exact InMask.mk 344 hW rfl rfl (Reg.ERR_OFS_has_PRT _)
    | split
    | dsimp only [id]

theorem State.ttCfgWrite_law {W P : Nat} {s0 s : State} (h : Law W P s0 s) (a : Acc) (p v : Nat) (hE : InMask W (Reg.ERR_STATUS a.base)) (hO : InMask W (Reg.ERR_OFS a.base)) (hW : 0x60000000000000000000000000000000c200000000000000000000000000c8000000010000000012 &&& W = 0x60000000000000000000000000000000c200000000000000000000000000c8000000010000000012) (hP : 0x121004 &&& P = 0x121004) :
    Law W P s0 (State.ttCfgWrite s a p v) := by
  unfold State.ttCfgWrite
  try dsimp only
  repeat' first
    | with_reducible assumption
    | with_reducible exact Law.refl _ _ _
    | exact sub_trans rfl hW
    | exact sub_trans rfl hP
    | exact hE
    | exact hO
    | with_reducible refine Law.ite (fun _ => ?_) (fun _ => ?_)
    | with_reducible refine State.setFld_law ?_ _ _ ?_
    | with_reducible refine State.portGuard_law ?_ _ _ _ _ ?_ ?_ (fun _ _ => ?_) ?_ ?_
    | with_reducible refine State.ttAbandon_law ?_ _  ?_ ?_
    | with_reducible refine State.ttConsumer_law ?_ _  ?_ ?_
    | with_reducible refine State.pairsForm_law ?_   ?_ ?_
    | exact InMask.mk 185 hW rfl rfl (Reg.PRT_TT_NRR_has _)
    | exact InMask.mk 190 hW rfl rfl (Reg.PRT_TT_CFG_has _)
    | exact InMask.mk 191 hW rfl rfl (Reg.KT_DOM_CFG_has _)
    | split
    | dsimp only [id]

theorem execTtRoleWrite_law {W P : Nat} (s : State) (p : Nat) (v : BitVec 32) (hW : 0x180000060000000000000000000000000000000c200000000000000000000000000c8000000010000000012 &&& W = 0x180000060000000000000000000000000000000c200000000000000000000000000c8000000010000000012) (hP : 0x121004 &&& P = 0x121004) :
    OutLaw W P s (execTtRoleWrite p v s) := by
  unfold execTtRoleWrite
  try dsimp only
  repeat' first
    | with_reducible assumption
    | with_reducible exact OutLaw.fault _
    | with_reducible refine OutLaw.ite (fun _ => ?_) (fun _ => ?_)
    | with_reducible refine OutLaw.next ?_
    | with_reducible exact Law.refl _ _ _
    | exact sub_trans rfl hW
    | exact sub_trans rfl hP
    | with_reducible refine Law.ite (fun _ => ?_) (fun _ => ?_)
    | with_reducible refine State.ttCfgWrite_law ?_ _ _ _ ?_ ?_ ?_ ?_
    | exact InMask.mk 343 hW rfl rfl (Reg.ERR_STATUS_has_PRT _)
    | exact InMask.mk 344 hW rfl rfl (Reg.ERR_OFS_has_PRT _)
    | split
    | dsimp only [id]

theorem State.ttIdWrite_law {W P : Nat} {s0 s : State} (h : Law W P s0 s) (a : Acc) (p ofs v : Nat) (bad : List (Bool × Nat)) (hE : InMask W (Reg.ERR_STATUS a.base)) (hO : InMask W (Reg.ERR_OFS a.base)) (ha : InMask W ofs) (hW : 0x60000000000000000000000000000000000000000000000000000000000000000080000000000012 &&& W = 0x60000000000000000000000000000000000000000000000000000000000000000080000000000012) (hP : 0x100004 &&& P = 0x100004) :
    Law W P s0 (State.ttIdWrite s a p ofs v bad) := by
  unfold State.ttIdWrite
  try dsimp only
  repeat' first
    | with_reducible assumption
    | with_reducible exact Law.refl _ _ _
    | exact sub_trans rfl hW
    | exact sub_trans rfl hP
    | exact hE
    | exact hO
    | exact ha
    | with_reducible refine State.setFld_law ?_ _ _ ?_
    | with_reducible refine State.wr_law ?_ _ _ ?_
    | with_reducible refine State.portGuard_law ?_ _ _ _ _ ?_ ?_ (fun _ _ => ?_) ?_ ?_
    | exact InMask.mk 55 hW rfl rfl (Reg.PRT_TT_STATUS_has _)
    | dsimp only [id]

end Sys2Proof.Machine
end

