-- ==== Sys2Proof/Laws/LawIngress.lean ====
section
/-! SUPPORT. The law of every operation of Machine/Ingress.lean: what it may change (Laws/Law.lean). -/

set_option linter.all false

namespace Sys2Proof.Machine

theorem slcCnt_in {m W : Nat} (i k : Nat) (hm : m &&& W = m) (hk : m.testBit 316 = true) : InMask W (Reg.SLC_CNT i k) :=
  InMask.mk 316 hm hk rfl (Reg.SLC_CNT_has _ _)

theorem State.lookups_law {W P : Nat} {s0 s : State} (h : Law W P s0 s) (i p : Nat) (q : Parsed) (hW : 0x3fffde &&& W = 0x3fffde) (hP : 0x10488c &&& P = 0x10488c) :
    Law W P s0 (State.lookups s i p q) := by
  unfold State.lookups
  try dsimp only
  repeat' first
    | with_reducible assumption
    | with_reducible exact Law.refl _ _ _
    | exact sub_trans rfl hW
    | exact sub_trans rfl hP
    | with_reducible refine Law.ite (fun _ => ?_) (fun _ => ?_)
    | with_reducible refine State.setSlice_law ?_ _ _  ?_ ?_
    | with_reducible refine State.pfEvent_law ?_ _ _ _  ?_ ?_
    | with_reducible refine State.offerTrigger_law ?_ _ _ _  ?_ ?_
    | with_reducible refine Law.of_fst (by assumption) ?_
    | split
    | dsimp only [id]

theorem State.ingressLearn_law {W P : Nat} {s0 s : State} (h : Law W P s0 s) (i p : Nat) (q : Parsed) (act : Nat) (hW : 0x180000000000000000000000000 &&& W = 0x180000000000000000000000000) (hP : 0x4000 &&& P = 0x4000) :
    Law W P s0 (State.ingressLearn s i p q act) := by
  unfold State.ingressLearn
  try dsimp only
  repeat' first
    | with_reducible assumption
    | with_reducible exact Law.refl _ _ _
    | exact sub_trans rfl hW
    | exact sub_trans rfl hP
    | with_reducible refine Law.ite (fun _ => ?_) (fun _ => ?_)
    | with_reducible refine State.learnRequest_law ?_ _ _ _  ?_ ?_
    | with_reducible refine Law.of_fst (by assumption) ?_
    | split
    | dsimp only [id]

theorem State.offerRings_law {W P : Nat} {s0 s : State} (h : Law W P s0 s) (i sel : Nat) (x : CdRecord) (slots : Nat) (hW : 0x400810 &&& W = 0x400810) (hP : 0x800 &&& P = 0x800) :
    Law W P s0 (State.offerRings s i sel x slots) := by
  unfold State.offerRings
  try dsimp only
  repeat' first
    | with_reducible assumption
    | with_reducible exact Law.refl _ _ _
    | exact sub_trans rfl hW
    | exact sub_trans rfl hP
    | with_reducible refine Law.ite (fun _ => ?_) (fun _ => ?_)
    | with_reducible refine State.offerRecord_law ?_ _ _ _ _  ?_ ?_
    | with_reducible refine Law.foldl _ ?_ (fun _ _ _ => ?_)
    | with_reducible refine Law.foldl_fst _ ?_ (fun _ _ _ _ => ?_)
    | with_reducible refine Law.of_fst (by assumption) ?_
    | split
    | dsimp only [id]

theorem State.forwardTo_law {W P : Nat} {s0 s : State} (h : Law W P s0 s) (i : Nat) (d : Decision) (f : Frame) (hs : List Nat) (hW : 0x78e001b0000000000000002000000400001e &&& W = 0x78e001b0000000000000002000000400001e) (hP : 0x14811c &&& P = 0x14811c) :
    Law W P s0 (State.forwardTo s i d f hs) := by
  unfold State.forwardTo
  try dsimp only
  repeat' first
    | with_reducible assumption
    | with_reducible exact Law.refl _ _ _
    | exact sub_trans rfl hW
    | exact sub_trans rfl hP
    | with_reducible refine Law.ite (fun _ => ?_) (fun _ => ?_)
    | with_reducible refine State.countN_law ?_ _ _ ?_
    | with_reducible refine State.cutFrame_law ?_ _ _  ?_ ?_
    | with_reducible refine State.enqueueMulti_law ?_ _ _ _  ?_ ?_
    | with_reducible refine State.enqueue_law ?_ _ _ _  ?_ ?_
    | exact InMask.mk 135 hW rfl rfl (Reg.SLC_CNT_has_14 _)
    | split
    | dsimp only [id]

theorem State.forward_law {W P : Nat} {s0 s : State} (h : Law W P s0 s) (i p : Nat) (bs : List Byte) (q : Parsed) (d : Decision) (stamp : Time16) (slots : Nat)
    (hs : List Nat) (hW : 0x1000000000000000000000000000001f00000000000078e001b0018000000000002000000440081e &&& W = 0x1000000000000000000000000000001f00000000000078e001b0018000000000002000000440081e) (hP : 0x1cc91c &&& P = 0x1cc91c) : Law W P s0 (State.forward s i p bs q d stamp slots hs) := by
  have hc : ∀ t k, Law W P s0 t → Law W P s0 (t.count (Reg.SLC_CNT i k)) := fun t k ht => State.count_law ht _ (slcCnt_in i k hW rfl)
  have hcut : ∀ t, Law W P s0 t → Law W P s0 (t.cutFrame i hs) := fun t ht => State.cutFrame_law ht _ _ (sub_trans rfl hW) (sub_trans rfl hP)
  unfold State.forward
  extract_lets +onlyGivenNames t0
  have h0 : Law W P s0 t0 := Law.ite (fun _ => hc _ _ h) (fun _ => h)
  clear_value t0
  refine Law.ite (fun _ => hcut _ (hc _ _ h0)) (fun _ => ?_)
  extract_lets +onlyGivenNames pol
  have h1 : Law W P s0 pol.1 := Law.ite_fst (fun _ => State.police_law h0 _ _ _ _ (sub_trans rfl hW) (sub_trans rfl hP)) (fun _ => h0)
  clear_value pol
  refine Law.ite (fun _ => hcut _ (hc _ _ h1)) (fun _ => ?_)
  extract_lets +onlyGivenNames t1 t2
  have h2 : Law W P s0 t1 := State.ingressLearn_law h1 _ _ _ _ (sub_trans rfl hW) (sub_trans rfl hP)
  clear_value t1
  have h3 : Law W P s0 t2 := Law.ite (fun _ => State.offerRings_law h2 _ _ _ _ (sub_trans rfl hW) (sub_trans rfl hP)) (fun _ => h2)
  clear_value t2
  refine Law.ite (fun _ => hcut _ (hc _ _ h3)) (fun _ => Law.ite (fun _ => hcut _ (hc _ _ h3)) (fun _ => ?_))
  extract_lets +onlyGivenNames t3 f
  have h4 : Law W P s0 t3 := Law.ite (fun _ => hc _ _ h3) (fun _ => h3)
  clear_value f
  clear_value t3
  refine State.forwardTo_law ?_ _ _ _ _ (sub_trans rfl hW) (sub_trans rfl hP)
  with_reducible refine Law.put h4 ?_ ?_ ?_ ?_ ?_ ?_ ?_ ?_ ?_ ?_ ?_ ?_ ?_ ?_ ?_ ?_ ?_ ?_ ?_ ?_ ?_
  all_goals first | with_reducible exact Or.inl rfl | exact Or.inr (partIn hP rfl)

theorem State.goodFrame_law {W P : Nat} {s0 s : State} (h : Law W P s0 s) (p : Nat) (bs : List Byte) (q : Parsed) (d : Decision) (stamp : Time16) (slots : Nat) (hs : List Nat) (hW : 0x1000000000000000000000000000007f00000000000078e001b0018000000000002000000440081e &&& W = 0x1000000000000000000000000000007f00000000000078e001b0018000000000002000000440081e) (hP : 0x1cc91c &&& P = 0x1cc91c) :
    Law W P s0 (State.goodFrame s p bs q d stamp slots hs) := by
  unfold State.goodFrame
  try dsimp only
  repeat' first
    | with_reducible assumption
    | with_reducible exact Law.refl _ _ _
    | exact sub_trans rfl hW
    | exact sub_trans rfl hP
    | with_reducible refine Law.ite (fun _ => ?_) (fun _ => ?_)
    | with_reducible refine State.count_law ?_ _ ?_
    | with_reducible refine State.forward_law ?_ _ _ _ _ _ _ _ _  ?_ ?_
    | exact InMask.mk 197 hW rfl rfl (Reg.PRT_RX_CNT_has_6 _)
    | exact InMask.mk 198 hW rfl rfl (Reg.PRT_RX_CNT_has_5 _)
    | split
    | dsimp only [id]

theorem State.macCount_law {W P : Nat} {s0 s : State} (h : Law W P s0 s) (p : Nat) (bs : List Byte) (hW : 0x380000000006000000000000000000000000000000000000010 &&& W = 0x380000000006000000000000000000000000000000000000010) (hP : 0x0 &&& P = 0x0) :
    Law W P s0 (State.macCount s p bs) := by
  unfold State.macCount
  try dsimp only
  repeat' first
    | with_reducible assumption
    | with_reducible exact Law.refl _ _ _
    | exact sub_trans rfl hW
    | exact sub_trans rfl hP
    | with_reducible refine Law.ite (fun _ => ?_) (fun _ => ?_)
    | with_reducible refine State.count_law ?_ _ ?_
    | with_reducible refine State.rxGood_law ?_ _ _  ?_ ?_
    | exact InMask.mk 199 hW rfl rfl (Reg.PRT_RX_CNT_has_3 _)
    | exact InMask.mk 200 hW rfl rfl (Reg.PRT_RX_CNT_has_4 _)
    | exact InMask.mk 201 hW rfl rfl (Reg.PRT_RX_CNT_has_2 _)
    | split
    | dsimp only [id]

theorem State.ingressEnd_law {W P : Nat} {s0 s : State} (h : Law W P s0 s) (p : Nat) (bs : List Byte) (q : Parsed) (d : Decision) (stamp : Time16) (slots : Nat) (hs : List Nat) (hW : 0x1400000000000000000000000000007f07ffaf00000078e001b00180000000477ba1b4200440081e &&& W = 0x1400000000000000000000000000007f07ffaf00000078e001b00180000000477ba1b4200440081e) (hP : 0x1fcf1c &&& P = 0x1fcf1c) :
    Law W P s0 (State.ingressEnd s p bs q d stamp slots hs) := by
  unfold State.ingressEnd
  try dsimp only
  repeat' first
    | with_reducible assumption
    | with_reducible exact Law.refl _ _ _
    | exact sub_trans rfl hW
    | exact sub_trans rfl hP
    | with_reducible refine Law.ite (fun _ => ?_) (fun _ => ?_)
    | with_reducible refine State.esmcPdu_law ?_ _ _  ?_ ?_
    | with_reducible refine State.cutFrame_law ?_ _ _  ?_ ?_
    | with_reducible refine State.ttMessage_law ?_ _ _ _  ?_ ?_
    | with_reducible refine State.ttToHost_law ?_ _ _ _  ?_ ?_
    | with_reducible refine State.goodFrame_law ?_ _ _ _ _ _ _ _  ?_ ?_
    | with_reducible refine Law.of_fst (by assumption) ?_
    | split
    | dsimp only [id]

theorem State.ingress_law {W P : Nat} {s0 s : State} (h : Law W P s0 s) (p : Nat) (bs : List Byte) (stamp : Time16) (slots : Nat) (hW : 0x140000000000000000000000000003ff07ffaf00f80078e037f00180000000477ba1b420047fffde &&& W = 0x140000000000000000000000000003ff07ffaf00f80078e037f00180000000477ba1b420047fffde) (hP : 0x1fcf9c &&& P = 0x1fcf9c) :
    Law W P s0 (State.ingress s p bs stamp slots) := by
  unfold State.ingress
  try dsimp only
  repeat' first
    | with_reducible assumption
    | with_reducible exact Law.refl _ _ _
    | exact sub_trans rfl hW
    | exact sub_trans rfl hP
    | with_reducible refine Law.ite (fun _ => ?_) (fun _ => ?_)
    | with_reducible refine State.rxGood_law ?_ _ _  ?_ ?_
    | with_reducible refine State.macControl_law ?_ _ _ _  ?_ ?_
    | with_reducible refine State.takeExtents_law ?_ _ _ _  ?_ ?_
    | with_reducible refine State.bufAlloc_law ?_ _ _  ?_ ?_
    | with_reducible refine State.lookups_law ?_ _ _ _  ?_ ?_
    | with_reducible refine State.macCount_law ?_ _ _  ?_ ?_
    | with_reducible refine State.ingressEnd_law ?_ _ _ _ _ _ _ _  ?_ ?_
    | with_reducible refine State.cutFrame_law ?_ _ _  ?_ ?_
    | with_reducible refine Law.of_fst (by assumption) ?_
    | split
    | dsimp only [id]

theorem execIngressFrame_law {W P : Nat} (s : State) (p : Nat) (bs : List Byte) (t : LineStamp) (slots : Nat) (hW : 0x140000000000000000000000000003ff07ffaf00f80078e037f00180000000477ba1b420047fffde &&& W = 0x140000000000000000000000000003ff07ffaf00f80078e037f00180000000477ba1b420047fffde) (hP : 0x1fcf9c &&& P = 0x1fcf9c) :
    OutLaw W P s (execIngressFrame p bs t slots s) := by
  unfold execIngressFrame
  try dsimp only
  repeat' first
    | with_reducible assumption
    | with_reducible exact OutLaw.fault _
    | with_reducible refine OutLaw.ite (fun _ => ?_) (fun _ => ?_)
    | with_reducible refine OutLaw.next ?_
    | with_reducible exact Law.refl _ _ _
    | exact sub_trans rfl hW
    | exact sub_trans rfl hP
    | with_reducible refine Law.ite (fun _ => ?_) (fun _ => ?_)
    | with_reducible refine State.ingress_law ?_ _ _ _ _  ?_ ?_
    | split
    | dsimp only [id]

end Sys2Proof.Machine
end

