-- ==== Sys2Proof/Laws/LawLanes.lean ====
section
/-! SUPPORT. The law of every operation of Machine/Lanes.lean: what it may change (Laws/Law.lean). -/

set_option linter.all false

namespace Sys2Proof.Machine

theorem State.portLeft_law {W P : Nat} {s0 s : State} (h : Law W P s0 s) (p : Nat) (hW : 0x118e0399000240000000000a003ffbc00013e &&& W = 0x118e0399000240000000000a003ffbc00013e) (hP : 0x17c19d &&& P = 0x17c19d) :
    Law W P s0 (State.portLeft s p) := by
  unfold State.portLeft
  try dsimp only
  repeat' first
    | with_reducible assumption
    | with_reducible exact Law.refl _ _ _
    | exact sub_trans rfl hW
    | exact sub_trans rfl hP
    | with_reducible refine Law.ite (fun _ => ?_) (fun _ => ?_)
    | with_reducible refine State.fdbPortFlush_law ?_ _  ?_ ?_
    | with_reducible refine State.portDrops_law ?_ _  ?_ ?_
    | with_reducible refine State.ttPortDown_law ?_ _  ?_ ?_
    | with_reducible refine State.setTrunk_law ?_ _ _  ?_ ?_
    | with_reducible refine State.sourceLost_law ?_ _  ?_ ?_
    | split
    | dsimp only [id]

theorem State.setOper_law {W P : Nat} {s0 s : State} (h : Law W P s0 s) (p st : Nat) (hW : 0x40000000000000118e0399000240000000f7ba003ffbc00013e &&& W = 0x40000000000000118e0399000240000000f7ba003ffbc00013e) (hP : 0x17d59d &&& P = 0x17d59d) :
    Law W P s0 (State.setOper s p st) := by
  unfold State.setOper
  try dsimp only
  repeat' first
    | with_reducible assumption
    | with_reducible exact Law.refl _ _ _
    | exact sub_trans rfl hW
    | exact sub_trans rfl hP
    | with_reducible refine Law.ite (fun _ => ?_) (fun _ => ?_)
    | with_reducible refine State.setFld_law ?_ _ _ ?_
    | with_reducible refine State.eachLane_law ?_ _ _ (fun _ _ _ => ?_) ?_ ?_
    | with_reducible refine State.fmChanged_law ?_ _  ?_ ?_
    | with_reducible refine State.portLeft_law ?_ _  ?_ ?_
    | with_reducible refine State.vnPortChange_law ?_ _  ?_ ?_
    | exact InMask.mk 202 hW rfl rfl (Reg.PRT_STATE_has _)
    | split
    | dsimp only [id]

theorem State.goUp_law {W P : Nat} {s0 s : State} (h : Law W P s0 s) (p : Nat) (hW : 0xc0000000000000118e0399000248000000f7ba003ffbc00013e &&& W = 0xc0000000000000118e0399000248000000f7ba003ffbc00013e) (hP : 0x17d59d &&& P = 0x17d59d) :
    Law W P s0 (State.goUp s p) := by
  unfold State.goUp
  try dsimp only
  repeat' first
    | with_reducible assumption
    | with_reducible exact Law.refl _ _ _
    | exact sub_trans rfl hW
    | exact sub_trans rfl hP
    | with_reducible refine Law.ite (fun _ => ?_) (fun _ => ?_)
    | with_reducible refine State.setFld_law ?_ _ _ ?_
    | with_reducible refine State.eachLane_law ?_ _ _ (fun _ _ _ => ?_) ?_ ?_
    | with_reducible refine State.setRx_law ?_ _ _  ?_ ?_
    | with_reducible refine State.setTrState_law ?_ _ _  ?_ ?_
    | with_reducible refine State.setTrunk_law ?_ _ _  ?_ ?_
    | with_reducible refine State.setOper_law ?_ _ _  ?_ ?_
    | exact InMask.mk 203 hW rfl rfl (Reg.LN_STATUS_has _)
    | split
    | dsimp only [id]

theorem State.rxRestart_law {W P : Nat} {s0 s : State} (h : Law W P s0 s) (p : Nat) (hW : 0x800000000000000000000000000000000000000000000000000 &&& W = 0x800000000000000000000000000000000000000000000000000) (hP : 0x10000 &&& P = 0x10000) :
    Law W P s0 (State.rxRestart s p) := by
  unfold State.rxRestart
  try dsimp only
  repeat' first
    | with_reducible assumption
    | with_reducible exact Law.refl _ _ _
    | exact sub_trans rfl hW
    | exact sub_trans rfl hP
    | with_reducible refine State.setFld_law ?_ _ _ ?_
    | with_reducible refine State.eachLane_law ?_ _ _ (fun _ _ _ => ?_) ?_ ?_
    | with_reducible refine State.setRx_law ?_ _ _  ?_ ?_
    | exact InMask.mk 203 hW rfl rfl (Reg.LN_STATUS_has _)
    | dsimp only [id]

theorem State.setStep_law {W P : Nat} {s0 s : State} (h : Law W P s0 s) (p k : Nat) (hW : 0x800000000080000000000000 &&& W = 0x800000000080000000000000) (hP : 0x21000 &&& P = 0x21000) :
    Law W P s0 (State.setStep s p k) := by
  unfold State.setStep
  try dsimp only
  repeat' first
    | with_reducible assumption
    | with_reducible exact Law.refl _ _ _
    | exact sub_trans rfl hW
    | exact sub_trans rfl hP
    | with_reducible refine Law.ite (fun _ => ?_) (fun _ => ?_)
    | with_reducible refine State.setFld_law ?_ _ _ ?_
    | with_reducible refine State.ttStepChange_law ?_ _  ?_ ?_
    | with_reducible refine State.eachLane_law ?_ _ _ (fun _ _ _ => ?_) ?_ ?_
    | with_reducible refine State.fmChanged_law ?_ _  ?_ ?_
    | exact InMask.mk 95 hW rfl rfl (Reg.LN_TRUNK_STATUS_has _)
    | split
    | dsimp only [id]

theorem State.capSend_law {W P : Nat} {s0 s : State} (h : Law W P s0 s) (p : Nat) (hW : 0x0 &&& W = 0x0) (hP : 0x50000 &&& P = 0x50000) :
    Law W P s0 (State.capSend s p) := by
  unfold State.capSend
  try dsimp only
  repeat' first
    | with_reducible assumption
    | with_reducible exact Law.refl _ _ _
    | exact sub_trans rfl hW
    | exact sub_trans rfl hP
    | with_reducible refine State.tookFree_law ?_   ?_ ?_
    | with_reducible refine State.setTrunk_law ?_ _ _  ?_ ?_
    | with_reducible refine State.trSend_law ?_ _ _ _  ?_ ?_
    | dsimp only [id]

theorem State.capState_law {W P : Nat} {s0 s : State} (h : Law W P s0 s) (p : Nat) (hW : 0x800000000080000000000000 &&& W = 0x800000000080000000000000) (hP : 0x71000 &&& P = 0x71000) :
    Law W P s0 (State.capState s p) := by
  unfold State.capState
  try dsimp only
  repeat' first
    | with_reducible assumption
    | with_reducible exact Law.refl _ _ _
    | exact sub_trans rfl hW
    | exact sub_trans rfl hP
    | with_reducible refine State.setFld_law ?_ _ _ ?_
    | with_reducible refine State.setTrState_law ?_ _ _  ?_ ?_
    | with_reducible refine State.setStep_law ?_ _ _  ?_ ?_
    | with_reducible refine State.txBegin_law ?_ _  ?_ ?_
    | with_reducible refine State.capSend_law ?_ _  ?_ ?_
    | exact InMask.mk 95 hW rfl rfl (Reg.LN_TRUNK_STATUS_has _)
    | dsimp only [id]

theorem State.enterCap_law {W P : Nat} {s0 s : State} (h : Law W P s0 s) (p : Nat) (hW : 0x800000000000000000000000000800000000080000000000000 &&& W = 0x800000000000000000000000000800000000080000000000000) (hP : 0x71000 &&& P = 0x71000) :
    Law W P s0 (State.enterCap s p) := by
  unfold State.enterCap
  try dsimp only
  repeat' first
    | with_reducible assumption
    | with_reducible exact Law.refl _ _ _
    | exact sub_trans rfl hW
    | exact sub_trans rfl hP
    | with_reducible refine State.rxRestart_law ?_ _  ?_ ?_
    | with_reducible refine State.capState_law ?_ _  ?_ ?_
    | dsimp only [id]

theorem State.retrain_law {W P : Nat} {s0 s : State} (h : Law W P s0 s) (p : Nat) (hW : 0x1c0000000000000118e0399000248000000f7ba003ffbc00013e &&& W = 0x1c0000000000000118e0399000248000000f7ba003ffbc00013e) (hP : 0x17d59d &&& P = 0x17d59d) :
    Law W P s0 (State.retrain s p) := by
  unfold State.retrain
  try dsimp only
  repeat' first
    | with_reducible assumption
    | with_reducible exact Law.refl _ _ _
    | exact sub_trans rfl hW
    | exact sub_trans rfl hP
    | with_reducible refine Law.ite (fun _ => ?_) (fun _ => ?_)
    | with_reducible refine State.setFld_law ?_ _ _ ?_
    | with_reducible refine State.rxRestart_law ?_ _  ?_ ?_
    | with_reducible refine State.eachLane_law ?_ _ _ (fun _ _ _ => ?_) ?_ ?_
    | with_reducible refine State.capState_law ?_ _  ?_ ?_
    | with_reducible refine State.setOper_law ?_ _ _  ?_ ?_
    | exact InMask.mk 204 hW rfl rfl (Reg.LN_EYE_has _)
    | split
    | dsimp only [id]

theorem State.firstAttempt_law {W P : Nat} {s0 s : State} (h : Law W P s0 s) (p : Nat) (hW : 0x800000000000000000000000000800000000000000000000000 &&& W = 0x800000000000000000000000000800000000000000000000000) (hP : 0x0 &&& P = 0x0) :
    Law W P s0 (State.firstAttempt s p) := by
  unfold State.firstAttempt
  try dsimp only
  repeat' first
    | with_reducible assumption
    | with_reducible exact Law.refl _ _ _
    | exact sub_trans rfl hW
    | exact sub_trans rfl hP
    | with_reducible refine State.setFld_law ?_ _ _ ?_
    | with_reducible refine State.eachLane_law ?_ _ _ (fun _ _ _ => ?_) ?_ ?_
    | exact InMask.mk 95 hW rfl rfl (Reg.LN_TRUNK_STATUS_has _)
    | exact InMask.mk 203 hW rfl rfl (Reg.LN_STATUS_has _)
    | dsimp only [id]

theorem State.portOff_law {W P : Nat} {s0 s : State} (h : Law W P s0 s) (p : Nat) (hW : 0xc0000000000000118e0399000248000000f7ba003ffbc00013e &&& W = 0xc0000000000000118e0399000248000000f7ba003ffbc00013e) (hP : 0x17d59d &&& P = 0x17d59d) :
    Law W P s0 (State.portOff s p) := by
  unfold State.portOff
  try dsimp only
  repeat' first
    | with_reducible assumption
    | with_reducible exact Law.refl _ _ _
    | exact sub_trans rfl hW
    | exact sub_trans rfl hP
    | with_reducible refine Law.ite (fun _ => ?_) (fun _ => ?_)
    | with_reducible refine State.setFld_law ?_ _ _ ?_
    | with_reducible refine State.setOper_law ?_ _ _  ?_ ?_
    | with_reducible refine State.rxRestart_law ?_ _  ?_ ?_
    | with_reducible refine State.eachLane_law ?_ _ _ (fun _ _ _ => ?_) ?_ ?_
    | with_reducible refine State.setTrState_law ?_ _ _  ?_ ?_
    | with_reducible refine State.txStop_law ?_ _  ?_ ?_
    | exact InMask.mk 203 hW rfl rfl (Reg.LN_STATUS_has _)
    | split
    | dsimp only [id]

theorem State.trunkDown_law {W P : Nat} {s0 s : State} (h : Law W P s0 s) (p : Nat) (hW : 0xc0000000000000118e0399000248000000f7ba003ffbc00013e &&& W = 0xc0000000000000118e0399000248000000f7ba003ffbc00013e) (hP : 0x17d59d &&& P = 0x17d59d) :
    Law W P s0 (State.trunkDown s p) := by
  unfold State.trunkDown
  try dsimp only
  repeat' first
    | with_reducible assumption
    | with_reducible exact Law.refl _ _ _
    | exact sub_trans rfl hW
    | exact sub_trans rfl hP
    | with_reducible refine State.setOper_law ?_ _ _  ?_ ?_
    | with_reducible refine State.enterCap_law ?_ _  ?_ ?_
    | dsimp only [id]

theorem State.negoEnter_law {W P : Nat} {s0 s : State} (h : Law W P s0 s) (p : Nat) (hW : 0xc0000000000000118e0399000248000000f7ba003ffbc00013e &&& W = 0xc0000000000000118e0399000248000000f7ba003ffbc00013e) (hP : 0x17d59d &&& P = 0x17d59d) :
    Law W P s0 (State.negoEnter s p) := by
  unfold State.negoEnter
  try dsimp only
  repeat' first
    | with_reducible assumption
    | with_reducible exact Law.refl _ _ _
    | exact sub_trans rfl hW
    | exact sub_trans rfl hP
    | with_reducible refine Law.ite (fun _ => ?_) (fun _ => ?_)
    | with_reducible refine State.setTrState_law ?_ _ _  ?_ ?_
    | with_reducible refine State.setOper_law ?_ _ _  ?_ ?_
    | with_reducible refine State.trSend_law ?_ _ _ _  ?_ ?_
    | with_reducible refine State.goUp_law ?_ _  ?_ ?_
    | split
    | dsimp only [id]

theorem State.capMsg_law {W P : Nat} {s0 s : State} (h : Law W P s0 s) (p arg : Nat) (rxa : Bool) (hW : 0xc0000000000000118e0399000248000000f7ba003ffbc00013e &&& W = 0xc0000000000000118e0399000248000000f7ba003ffbc00013e) (hP : 0x17d59d &&& P = 0x17d59d) :
    Law W P s0 (State.capMsg s p arg rxa) := by
  unfold State.capMsg
  try dsimp only
  repeat' first
    | with_reducible assumption
    | with_reducible exact Law.refl _ _ _
    | exact sub_trans rfl hW
    | exact sub_trans rfl hP
    | with_reducible refine Law.ite (fun _ => ?_) (fun _ => ?_)
    | with_reducible refine State.setFld_law ?_ _ _ ?_
    | with_reducible refine State.setTrState_law ?_ _ _  ?_ ?_
    | with_reducible refine State.setOper_law ?_ _ _  ?_ ?_
    | with_reducible refine State.trSend_law ?_ _ _ _  ?_ ?_
    | with_reducible refine State.capState_law ?_ _  ?_ ?_
    | with_reducible refine State.capSend_law ?_ _  ?_ ?_
    | with_reducible refine State.setTrunk_law ?_ _ _  ?_ ?_
    | with_reducible refine State.negoEnter_law ?_ _  ?_ ?_
    | exact InMask.mk 95 hW rfl rfl (Reg.LN_TRUNK_STATUS_has _)
    | split
    | dsimp only [id]

theorem execCapReceived_law {W P : Nat} (s : State) (l : Nat) (arg : BitVec 24) (rxa : Bool) (hW : 0xc0000000000000118e0399000248000000f7ba003ffbc00013e &&& W = 0xc0000000000000118e0399000248000000f7ba003ffbc00013e) (hP : 0x17d59d &&& P = 0x17d59d) :
    OutLaw W P s (execCapReceived l arg rxa s) := by
  unfold execCapReceived
  try dsimp only
  repeat' first
    | with_reducible assumption
    | with_reducible exact OutLaw.fault _
    | with_reducible refine OutLaw.ite (fun _ => ?_) (fun _ => ?_)
    | with_reducible refine OutLaw.next ?_
    | with_reducible exact Law.refl _ _ _
    | exact sub_trans rfl hW
    | exact sub_trans rfl hP
    | with_reducible refine Law.ite (fun _ => ?_) (fun _ => ?_)
    | with_reducible refine State.capMsg_law ?_ _ _ _  ?_ ?_
    | split
    | dsimp only [id]

theorem execCapTimeout_law {W P : Nat} (s : State) (l : Nat) (hW : 0x40000000000000118e0399000240000000f7ba003ffbc00013e &&& W = 0x40000000000000118e0399000240000000f7ba003ffbc00013e) (hP : 0x17d59d &&& P = 0x17d59d) :
    OutLaw W P s (execCapTimeout l s) := by
  unfold execCapTimeout
  try dsimp only
  repeat' first
    | with_reducible assumption
    | with_reducible exact OutLaw.fault _
    | with_reducible refine OutLaw.ite (fun _ => ?_) (fun _ => ?_)
    | with_reducible refine OutLaw.next ?_
    | with_reducible exact Law.refl _ _ _
    | exact sub_trans rfl hW
    | exact sub_trans rfl hP
    | with_reducible refine Law.ite (fun _ => ?_) (fun _ => ?_)
    | with_reducible refine State.setOper_law ?_ _ _  ?_ ?_
    | split
    | dsimp only [id]

theorem State.switchTo_law {W P : Nat} {s0 s : State} (h : Law W P s0 s) (p k nonce : Nat) (hW : 0x800000000000000000000000 &&& W = 0x800000000000000000000000) (hP : 0x10000 &&& P = 0x10000) :
    Law W P s0 (State.switchTo s p k nonce) := by
  unfold State.switchTo
  try dsimp only
  repeat' first
    | with_reducible assumption
    | with_reducible exact Law.refl _ _ _
    | exact sub_trans rfl hW
    | exact sub_trans rfl hP
    | with_reducible refine State.setTrunk_law ?_ _ _  ?_ ?_
    | with_reducible refine State.trSend_law ?_ _ _ _  ?_ ?_
    | with_reducible refine State.setTrState_law ?_ _ _  ?_ ?_
    | dsimp only [id]

theorem execPropReceived_law {W P : Nat} (s : State) (l : Nat) (arg : BitVec 24) (hW : 0x800000000000000000000000 &&& W = 0x800000000000000000000000) (hP : 0x10000 &&& P = 0x10000) :
    OutLaw W P s (execPropReceived l arg s) := by
  unfold execPropReceived
  try dsimp only
  repeat' first
    | with_reducible assumption
    | with_reducible exact OutLaw.fault _
    | with_reducible refine OutLaw.ite (fun _ => ?_) (fun _ => ?_)
    | with_reducible refine OutLaw.next ?_
    | with_reducible exact Law.refl _ _ _
    | exact sub_trans rfl hW
    | exact sub_trans rfl hP
    | with_reducible refine Law.ite (fun _ => ?_) (fun _ => ?_)
    | with_reducible refine State.switchTo_law ?_ _ _ _  ?_ ?_
    | with_reducible refine State.trSend_law ?_ _ _ _  ?_ ?_
    | split
    | dsimp only [id]

theorem execAckReceived_law {W P : Nat} (s : State) (l : Nat) (arg : BitVec 24) (hW : 0x800000000000000000000000 &&& W = 0x800000000000000000000000) (hP : 0x10000 &&& P = 0x10000) :
    OutLaw W P s (execAckReceived l arg s) := by
  unfold execAckReceived
  try dsimp only
  repeat' first
    | with_reducible assumption
    | with_reducible exact OutLaw.fault _
    | with_reducible refine OutLaw.ite (fun _ => ?_) (fun _ => ?_)
    | with_reducible refine OutLaw.next ?_
    | with_reducible exact Law.refl _ _ _
    | exact sub_trans rfl hW
    | exact sub_trans rfl hP
    | with_reducible refine Law.ite (fun _ => ?_) (fun _ => ?_)
    | with_reducible refine State.switchTo_law ?_ _ _ _  ?_ ?_
    | split
    | dsimp only [id]

theorem State.ceilHere_law {W P : Nat} {s0 s : State} (h : Law W P s0 s) (p : Nat) (hW : 0xc0000000000000118e0399000248000000f7ba003ffbc00013e &&& W = 0xc0000000000000118e0399000248000000f7ba003ffbc00013e) (hP : 0x17d59d &&& P = 0x17d59d) :
    Law W P s0 (State.ceilHere s p) := by
  unfold State.ceilHere
  try dsimp only
  repeat' first
    | with_reducible assumption
    | with_reducible exact Law.refl _ _ _
    | exact sub_trans rfl hW
    | exact sub_trans rfl hP
    | with_reducible refine State.setFld_law ?_ _ _ ?_
    | with_reducible refine State.negoEnter_law ?_ _  ?_ ?_
    | exact InMask.mk 95 hW rfl rfl (Reg.LN_TRUNK_STATUS_has _)
    | dsimp only [id]

theorem execNakReceived_law {W P : Nat} (s : State) (l : Nat) (arg : BitVec 24) (hW : 0xc0000000000000118e0399000248000000f7ba003ffbc00013e &&& W = 0xc0000000000000118e0399000248000000f7ba003ffbc00013e) (hP : 0x17d59d &&& P = 0x17d59d) :
    OutLaw W P s (execNakReceived l arg s) := by
  unfold execNakReceived
  try dsimp only
  repeat' first
    | with_reducible assumption
    | with_reducible exact OutLaw.fault _
    | with_reducible refine OutLaw.ite (fun _ => ?_) (fun _ => ?_)
    | with_reducible refine OutLaw.next ?_
    | with_reducible exact Law.refl _ _ _
    | exact sub_trans rfl hW
    | exact sub_trans rfl hP
    | with_reducible refine Law.ite (fun _ => ?_) (fun _ => ?_)
    | with_reducible refine State.setFld_law ?_ _ _ ?_
    | with_reducible refine State.ceilHere_law ?_ _  ?_ ?_
    | with_reducible refine State.setTrunk_law ?_ _ _  ?_ ?_
    | exact InMask.mk 95 hW rfl rfl (Reg.LN_TRUNK_STATUS_has _)
    | split
    | dsimp only [id]

theorem execResponseTimerExpiry_law {W P : Nat} (s : State) (l : Nat) (hW : 0xc0000000000000118e0399000248000000f7ba003ffbc00013e &&& W = 0xc0000000000000118e0399000248000000f7ba003ffbc00013e) (hP : 0x17d59d &&& P = 0x17d59d) :
    OutLaw W P s (execResponseTimerExpiry l s) := by
  unfold execResponseTimerExpiry
  try dsimp only
  repeat' first
    | with_reducible assumption
    | with_reducible exact OutLaw.fault _
    | with_reducible refine OutLaw.ite (fun _ => ?_) (fun _ => ?_)
    | with_reducible refine OutLaw.next ?_
    | with_reducible exact Law.refl _ _ _
    | exact sub_trans rfl hW
    | exact sub_trans rfl hP
    | with_reducible refine Law.ite (fun _ => ?_) (fun _ => ?_)
    | with_reducible refine State.setTrunk_law ?_ _ _  ?_ ?_
    | with_reducible refine State.ceilHere_law ?_ _  ?_ ?_
    | with_reducible refine State.negoEnter_law ?_ _  ?_ ?_
    | split
    | dsimp only [id]

theorem execTrunkSwitchStep_law {W P : Nat} (s : State) (l : Nat) (hW : 0x800000000000000000000000000800000000000000000000000 &&& W = 0x800000000000000000000000000800000000000000000000000) (hP : 0x10000 &&& P = 0x10000) :
    OutLaw W P s (execTrunkSwitchStep l s) := by
  unfold execTrunkSwitchStep
  try dsimp only
  repeat' first
    | with_reducible assumption
    | with_reducible exact OutLaw.fault _
    | with_reducible refine OutLaw.ite (fun _ => ?_) (fun _ => ?_)
    | with_reducible refine OutLaw.next ?_
    | with_reducible exact Law.refl _ _ _
    | exact sub_trans rfl hW
    | exact sub_trans rfl hP
    | with_reducible refine Law.ite (fun _ => ?_) (fun _ => ?_)
    | with_reducible refine State.rxRestart_law ?_ _  ?_ ?_
    | with_reducible refine State.setTrState_law ?_ _ _  ?_ ?_
    | with_reducible refine State.trSend_law ?_ _ _ _  ?_ ?_
    | split
    | dsimp only [id]

theorem execTrainReceived_law {W P : Nat} (s : State) (l : Nat) (arg : BitVec 24) (rxa : Bool) (hW : 0xc0000000000000118e0399000248000000f7ba003ffbc00013e &&& W = 0xc0000000000000118e0399000248000000f7ba003ffbc00013e) (hP : 0x17d59d &&& P = 0x17d59d) :
    OutLaw W P s (execTrainReceived l arg rxa s) := by
  unfold execTrainReceived
  try dsimp only
  repeat' first
    | with_reducible assumption
    | with_reducible exact OutLaw.fault _
    | with_reducible refine OutLaw.ite (fun _ => ?_) (fun _ => ?_)
    | with_reducible refine OutLaw.next ?_
    | with_reducible exact Law.refl _ _ _
    | exact sub_trans rfl hW
    | exact sub_trans rfl hP
    | with_reducible refine Law.ite (fun _ => ?_) (fun _ => ?_)
    | with_reducible refine State.setStep_law ?_ _ _  ?_ ?_
    | with_reducible refine State.setTrunk_law ?_ _ _  ?_ ?_
    | with_reducible refine State.negoEnter_law ?_ _  ?_ ?_
    | split
    | dsimp only [id]

theorem execDataMarkerReceived_law {W P : Nat} (s : State) (l : Nat) (hW : 0xc0000000000000118e0399000248000000f7ba003ffbc00013e &&& W = 0xc0000000000000118e0399000248000000f7ba003ffbc00013e) (hP : 0x17d59d &&& P = 0x17d59d) :
    OutLaw W P s (execDataMarkerReceived l s) := by
  unfold execDataMarkerReceived
  try dsimp only
  repeat' first
    | with_reducible assumption
    | with_reducible exact OutLaw.fault _
    | with_reducible refine OutLaw.ite (fun _ => ?_) (fun _ => ?_)
    | with_reducible refine OutLaw.next ?_
    | with_reducible exact Law.refl _ _ _
    | exact sub_trans rfl hW
    | exact sub_trans rfl hP
    | with_reducible refine Law.ite (fun _ => ?_) (fun _ => ?_)
    | with_reducible refine State.goUp_law ?_ _  ?_ ?_
    | with_reducible refine Law.of_fst (by assumption) ?_
    | split
    | dsimp only [id]

theorem State.stepFail_law {W P : Nat} {s0 s : State} (h : Law W P s0 s) (p : Nat) (hW : 0x2000000000000000000000000002000000000000000000000000 &&& W = 0x2000000000000000000000000002000000000000000000000000) (hP : 0x0 &&& P = 0x0) :
    Law W P s0 (State.stepFail s p) := by
  unfold State.stepFail
  try dsimp only
  repeat' first
    | with_reducible assumption
    | with_reducible exact Law.refl _ _ _
    | exact sub_trans rfl hW
    | exact sub_trans rfl hP
    | with_reducible refine State.count_law ?_ _ ?_
    | with_reducible refine State.flag_law ?_ _ ?_
    | exact InMask.mk 97 hW rfl rfl (Reg.LN_FLAGS_has _)
    | exact InMask.mk 205 hW rfl rfl (Reg.LN_CNT_has_11 _)
    | dsimp only [id]

theorem State.trainFail_law {W P : Nat} {s0 s : State} (h : Law W P s0 s) (p : Nat) (hW : 0x2800000000000000000000000002800000000000000000000000 &&& W = 0x2800000000000000000000000002800000000000000000000000) (hP : 0x10000 &&& P = 0x10000) :
    Law W P s0 (State.trainFail s p) := by
  unfold State.trainFail
  try dsimp only
  repeat' first
    | with_reducible assumption
    | with_reducible exact Law.refl _ _ _
    | exact sub_trans rfl hW
    | exact sub_trans rfl hP
    | with_reducible refine State.setFld_law ?_ _ _ ?_
    | with_reducible refine State.stepFail_law ?_ _  ?_ ?_
    | with_reducible refine State.setTrunk_law ?_ _ _  ?_ ?_
    | with_reducible refine State.rxRestart_law ?_ _  ?_ ?_
    | with_reducible refine State.setTrState_law ?_ _ _  ?_ ?_
    | with_reducible refine State.trSend_law ?_ _ _ _  ?_ ?_
    | exact InMask.mk 95 hW rfl rfl (Reg.LN_TRUNK_STATUS_has _)
    | dsimp only [id]

theorem execTrainingTimerExpiry_law {W P : Nat} (s : State) (l : Nat) (hW : 0x2800000000000000000000000002800000000080000000000000 &&& W = 0x2800000000000000000000000002800000000080000000000000) (hP : 0x71000 &&& P = 0x71000) :
    OutLaw W P s (execTrainingTimerExpiry l s) := by
  unfold execTrainingTimerExpiry
  try dsimp only
  repeat' first
    | with_reducible assumption
    | with_reducible exact OutLaw.fault _
    | with_reducible refine OutLaw.ite (fun _ => ?_) (fun _ => ?_)
    | with_reducible refine OutLaw.next ?_
    | with_reducible exact Law.refl _ _ _
    | exact sub_trans rfl hW
    | exact sub_trans rfl hP
    | with_reducible refine Law.ite (fun _ => ?_) (fun _ => ?_)
    | with_reducible refine State.trainFail_law ?_ _  ?_ ?_
    | with_reducible refine State.stepFail_law ?_ _  ?_ ?_
    | with_reducible refine State.enterCap_law ?_ _  ?_ ?_
    | split
    | dsimp only [id]

theorem State.alignLost_law {W P : Nat} {s0 s : State} (h : Law W P s0 s) (l : Nat) (hW : 0x6c0000000000000118e0399000268000000f7ba003ffbc00013e &&& W = 0x6c0000000000000118e0399000268000000f7ba003ffbc00013e) (hP : 0x17d59d &&& P = 0x17d59d) :
    Law W P s0 (State.alignLost s l) := by
  unfold State.alignLost
  try dsimp only
  repeat' first
    | with_reducible assumption
    | with_reducible exact Law.refl _ _ _
    | exact sub_trans rfl hW
    | exact sub_trans rfl hP
    | with_reducible refine Law.ite (fun _ => ?_) (fun _ => ?_)
    | with_reducible refine State.setFld_law ?_ _ _ ?_
    | with_reducible refine State.count_law ?_ _ ?_
    | with_reducible refine State.flag_law ?_ _ ?_
    | with_reducible refine State.setRx_law ?_ _ _  ?_ ?_
    | with_reducible refine State.trainFail_law ?_ _  ?_ ?_
    | with_reducible refine State.trunkDown_law ?_ _  ?_ ?_
    | exact InMask.mk 97 hW rfl rfl (Reg.LN_FLAGS_has _)
    | exact InMask.mk 203 hW rfl rfl (Reg.LN_STATUS_has _)
    | exact InMask.mk 206 hW rfl rfl (Reg.LN_CNT_has_2 _)
    | split
    | dsimp only [id]

theorem State.dataMarker_law {W P : Nat} {s0 s : State} (h : Law W P s0 s) (l m : Nat) (t : LineStamp) (hW : 0x40008602000000118e03990002480003a0f7ba003ffbc00013e &&& W = 0x40008602000000118e03990002480003a0f7ba003ffbc00013e) (hP : 0x17d59d &&& P = 0x17d59d) :
    Law W P s0 (State.dataMarker s l m t) := by
  unfold State.dataMarker
  try dsimp only
  repeat' first
    | with_reducible assumption
    | with_reducible exact Law.refl _ _ _
    | exact sub_trans rfl hW
    | exact sub_trans rfl hP
    | with_reducible refine Law.ite (fun _ => ?_) (fun _ => ?_)
    | with_reducible refine State.stampEvent_law ?_ _ _ _ _ _ _  ?_ ?_
    | with_reducible refine State.ttMarker_law ?_ _ _ _  ?_ ?_
    | with_reducible refine State.setTrunk_law ?_ _ _  ?_ ?_
    | with_reducible refine State.setTrState_law ?_ _ _  ?_ ?_
    | with_reducible refine State.setOper_law ?_ _ _  ?_ ?_
    | split
    | dsimp only [id]

theorem State.alignedMarker_law {W P : Nat} {s0 s : State} (h : Law W P s0 s) (l m : Nat) (t : LineStamp) (hW : 0x1ec0008602000000118e03990002680003a0f7ba003ffbc00013e &&& W = 0x1ec0008602000000118e03990002680003a0f7ba003ffbc00013e) (hP : 0x17d59d &&& P = 0x17d59d) :
    Law W P s0 (State.alignedMarker s l m t) := by
  unfold State.alignedMarker
  try dsimp only
  repeat' first
    | with_reducible assumption
    | with_reducible exact Law.refl _ _ _
    | exact sub_trans rfl hW
    | exact sub_trans rfl hP
    | with_reducible refine Law.ite (fun _ => ?_) (fun _ => ?_)
    | with_reducible refine State.count_law ?_ _ ?_
    | with_reducible refine State.flag_law ?_ _ ?_
    | with_reducible refine State.setRx_law ?_ _ _  ?_ ?_
    | with_reducible refine State.dataMarker_law ?_ _ _ _  ?_ ?_
    | with_reducible refine State.alignLost_law ?_ _  ?_ ?_
    | exact InMask.mk 97 hW rfl rfl (Reg.LN_FLAGS_has _)
    | exact InMask.mk 207 hW rfl rfl (Reg.LN_CNT_has_4 _)
    | exact InMask.mk 208 hW rfl rfl (Reg.LN_CNT_has_3 _)
    | with_reducible refine Law.of_fst (by assumption) ?_
    | split
    | dsimp only [id]

theorem State.seekMarker_law {W P : Nat} {s0 s : State} (h : Law W P s0 s) (l m : Nat) (hW : 0x800000000000000000000000000000000000000000000000000 &&& W = 0x800000000000000000000000000000000000000000000000000) (hP : 0x10000 &&& P = 0x10000) :
    Law W P s0 (State.seekMarker s l m) := by
  unfold State.seekMarker
  try dsimp only
  repeat' first
    | with_reducible assumption
    | with_reducible exact Law.refl _ _ _
    | exact sub_trans rfl hW
    | exact sub_trans rfl hP
    | with_reducible refine Law.ite (fun _ => ?_) (fun _ => ?_)
    | with_reducible refine State.setFld_law ?_ _ _ ?_
    | with_reducible refine State.setRx_law ?_ _ _  ?_ ?_
    | exact InMask.mk 203 hW rfl rfl (Reg.LN_STATUS_has _)
    | split
    | dsimp only [id]

theorem State.marker_law {W P : Nat} {s0 s : State} (h : Law W P s0 s) (l m : Nat) (t : LineStamp) (hW : 0x1ec0008602000000118e03990002680003a0f7ba003ffbc00013e &&& W = 0x1ec0008602000000118e03990002680003a0f7ba003ffbc00013e) (hP : 0x17d59d &&& P = 0x17d59d) :
    Law W P s0 (State.marker s l m t) := by
  unfold State.marker
  try dsimp only
  repeat' first
    | with_reducible assumption
    | with_reducible exact Law.refl _ _ _
    | exact sub_trans rfl hW
    | exact sub_trans rfl hP
    | with_reducible refine Law.ite (fun _ => ?_) (fun _ => ?_)
    | with_reducible refine State.setRx_law ?_ _ _  ?_ ?_
    | with_reducible refine State.alignedMarker_law ?_ _ _ _  ?_ ?_
    | with_reducible refine State.seekMarker_law ?_ _ _  ?_ ?_
    | split
    | dsimp only [id]

theorem State.markerLine_law {W P : Nat} {s0 s : State} (h : Law W P s0 s) (l : Nat) (pre m : List Bool) (t : LineStamp) (hW : 0x1ec0008602000000118e03990002780003a0f7ba003ffbc00013e &&& W = 0x1ec0008602000000118e03990002780003a0f7ba003ffbc00013e) (hP : 0x17d59d &&& P = 0x17d59d) :
    Law W P s0 (State.markerLine s l pre m t) := by
  unfold State.markerLine
  try dsimp only
  repeat' first
    | with_reducible assumption
    | with_reducible exact Law.refl _ _ _
    | exact sub_trans rfl hW
    | exact sub_trans rfl hP
    | with_reducible refine Law.ite (fun _ => ?_) (fun _ => ?_)
    | with_reducible refine State.lineIn_law ?_ _ _  ?_ ?_
    | with_reducible refine State.payIn_law ?_ _ _  ?_ ?_
    | with_reducible refine State.marker_law ?_ _ _ _  ?_ ?_
    | with_reducible refine Law.of_fst (by assumption) ?_
    | split
    | dsimp only [id]

theorem execMarkerReceived_law {W P : Nat} (s : State) (l : Nat) (pre m : List Bool) (t : LineStamp) (hW : 0x1ec0008602000000118e03990002780003a0f7ba003ffbc00013e &&& W = 0x1ec0008602000000118e03990002780003a0f7ba003ffbc00013e) (hP : 0x17d59d &&& P = 0x17d59d) :
    OutLaw W P s (execMarkerReceived l pre m t s) := by
  unfold execMarkerReceived
  try dsimp only
  repeat' first
    | with_reducible assumption
    | with_reducible exact OutLaw.fault _
    | with_reducible refine OutLaw.ite (fun _ => ?_) (fun _ => ?_)
    | with_reducible refine OutLaw.next ?_
    | with_reducible exact Law.refl _ _ _
    | exact sub_trans rfl hW
    | exact sub_trans rfl hP
    | with_reducible refine Law.ite (fun _ => ?_) (fun _ => ?_)
    | with_reducible refine State.markerLine_law ?_ _ _ _ _  ?_ ?_
    | split
    | dsimp only [id]

theorem State.pointer_law {W P : Nat} {s0 s : State} (h : Law W P s0 s) (l v : Nat) (hW : 0x20000000000000000000000000002000000000000000000000000 &&& W = 0x20000000000000000000000000002000000000000000000000000) (hP : 0x10000 &&& P = 0x10000) :
    Law W P s0 (State.pointer s l v) := by
  unfold State.pointer
  try dsimp only
  repeat' first
    | with_reducible assumption
    | with_reducible exact Law.refl _ _ _
    | exact sub_trans rfl hW
    | exact sub_trans rfl hP
    | with_reducible refine Law.ite (fun _ => ?_) (fun _ => ?_)
    | with_reducible refine State.count_law ?_ _ ?_
    | with_reducible refine State.flag_law ?_ _ ?_
    | with_reducible refine State.setRx_law ?_ _ _  ?_ ?_
    | exact InMask.mk 97 hW rfl rfl (Reg.LN_FLAGS_has _)
    | exact InMask.mk 209 hW rfl rfl (Reg.LN_CNT_has_7 _)
    | with_reducible refine Law.of_fst (by assumption) ?_
    | split
    | dsimp only [id]

theorem State.pointerLine_law {W P : Nat} {s0 s : State} (h : Law W P s0 s) (l : Nat) (pre ptr : List Bool) (hW : 0x20000000000000000000000000003000000000000000000000000 &&& W = 0x20000000000000000000000000003000000000000000000000000) (hP : 0x10000 &&& P = 0x10000) :
    Law W P s0 (State.pointerLine s l pre ptr) := by
  unfold State.pointerLine
  try dsimp only
  repeat' first
    | with_reducible assumption
    | with_reducible exact Law.refl _ _ _
    | exact sub_trans rfl hW
    | exact sub_trans rfl hP
    | with_reducible refine Law.ite (fun _ => ?_) (fun _ => ?_)
    | with_reducible refine State.lineIn_law ?_ _ _  ?_ ?_
    | with_reducible refine State.payIn_law ?_ _ _  ?_ ?_
    | with_reducible refine State.setRx_law ?_ _ _  ?_ ?_
    | with_reducible refine State.pointer_law ?_ _ _  ?_ ?_
    | with_reducible refine Law.of_fst (by assumption) ?_
    | split
    | dsimp only [id]

theorem execPointerReceived_law {W P : Nat} (s : State) (l : Nat) (pre ptr : List Bool) (hW : 0x20000000000000000000000000003000000000000000000000000 &&& W = 0x20000000000000000000000000003000000000000000000000000) (hP : 0x10000 &&& P = 0x10000) :
    OutLaw W P s (execPointerReceived l pre ptr s) := by
  unfold execPointerReceived
  try dsimp only
  repeat' first
    | with_reducible assumption
    | with_reducible exact OutLaw.fault _
    | with_reducible refine OutLaw.ite (fun _ => ?_) (fun _ => ?_)
    | with_reducible refine OutLaw.next ?_
    | with_reducible exact Law.refl _ _ _
    | exact sub_trans rfl hW
    | exact sub_trans rfl hP
    | with_reducible refine Law.ite (fun _ => ?_) (fun _ => ?_)
    | with_reducible refine State.pointerLine_law ?_ _ _ _  ?_ ?_
    | split
    | dsimp only [id]

theorem State.reorderDrain_law {W P : Nat} {s0 s : State} (h : Law W P s0 s) (p slots : Nat) (x1 : Nat) (hW : 0x140000000000000000000000000003ff07ffaf00f80078e037f00180000000477ba1b420047fffde &&& W = 0x140000000000000000000000000003ff07ffaf00f80078e037f00180000000477ba1b420047fffde) (hP : 0x1fcf9c &&& P = 0x1fcf9c) :
    Law W P s0 (State.reorderDrain s p slots x1) := by
  induction x1 generalizing s with
  | zero =>
    unfold State.reorderDrain
    try dsimp only
    repeat' first
      | with_reducible assumption
      | with_reducible exact Law.refl _ _ _
      | exact sub_trans rfl hW
      | exact sub_trans rfl hP
      | with_reducible refine State.setTrunk_law ?_ _ _  ?_ ?_
      | with_reducible refine State.ingress_law ?_ _ _ _ _  ?_ ?_
      | with_reducible refine Law.of_fst (by assumption) ?_
      | split
      | dsimp only [id]
  | succ n ih =>
    unfold State.reorderDrain
    try dsimp only
    repeat' first
      | with_reducible assumption
      | with_reducible apply ih
      | with_reducible exact Law.refl _ _ _
      | exact sub_trans rfl hW
      | exact sub_trans rfl hP
      | with_reducible refine State.setTrunk_law ?_ _ _  ?_ ?_
      | with_reducible refine State.ingress_law ?_ _ _ _ _  ?_ ?_
      | with_reducible refine Law.of_fst (by assumption) ?_
      | split
      | dsimp only [id]

theorem State.reorder_law {W P : Nat} {s0 s : State} (h : Law W P s0 s) (p q : Nat) (bs : List Byte) (stamp : Time16) (slots : Nat) (hW : 0x140000000000000000000000000003ff07ffaf00f80078e037f00180000000477ba1b420047fffde &&& W = 0x140000000000000000000000000003ff07ffaf00f80078e037f00180000000477ba1b420047fffde) (hP : 0x1fcf9c &&& P = 0x1fcf9c) :
    Law W P s0 (State.reorder s p q bs stamp slots) := by
  unfold State.reorder
  try dsimp only
  repeat' first
    | with_reducible assumption
    | with_reducible exact Law.refl _ _ _
    | exact sub_trans rfl hW
    | exact sub_trans rfl hP
    | with_reducible refine Law.ite (fun _ => ?_) (fun _ => ?_)
    | with_reducible refine State.setTrunk_law ?_ _ _  ?_ ?_
    | with_reducible refine State.reorderDrain_law ?_ _ _ _  ?_ ?_
    | split
    | dsimp only [id]

theorem State.unit_law {W P : Nat} {s0 s : State} (h : Law W P s0 s) (l : Nat) (t : LineStamp) (slots : Nat) (hW : 0x140000000000000000000000000403ff07ffaf00f80078e037f00182000000477ba1b420047fffde &&& W = 0x140000000000000000000000000403ff07ffaf00f80078e037f00182000000477ba1b420047fffde) (hP : 0x1fcf9c &&& P = 0x1fcf9c) :
    Law W P s0 (State.unit s l t slots) := by
  unfold State.unit
  try dsimp only
  repeat' first
    | with_reducible assumption
    | with_reducible exact Law.refl _ _ _
    | exact sub_trans rfl hW
    | exact sub_trans rfl hP
    | with_reducible refine Law.ite (fun _ => ?_) (fun _ => ?_)
    | with_reducible refine State.count_law ?_ _ ?_
    | with_reducible refine State.flag_law ?_ _ ?_
    | with_reducible refine State.setRx_law ?_ _ _  ?_ ?_
    | with_reducible refine State.reorder_law ?_ _ _ _ _ _  ?_ ?_
    | with_reducible refine State.ingress_law ?_ _ _ _ _  ?_ ?_
    | exact InMask.mk 97 hW rfl rfl (Reg.LN_FLAGS_has _)
    | exact InMask.mk 210 hW rfl rfl (Reg.LN_CNT_has_6 _)
    | with_reducible refine Law.of_fst (by assumption) ?_
    | split
    | dsimp only [id]

theorem State.unitLine_law {W P : Nat} {s0 s : State} (h : Law W P s0 s) (l : Nat) (line : List Bool) (t : LineStamp) (slots : Nat) (hW : 0x140000000000000000000000000403ff07ffaf00f80078e037f00183000000477ba1b420047fffde &&& W = 0x140000000000000000000000000403ff07ffaf00f80078e037f00183000000477ba1b420047fffde) (hP : 0x1fcf9c &&& P = 0x1fcf9c) :
    Law W P s0 (State.unitLine s l line t slots) := by
  unfold State.unitLine
  try dsimp only
  repeat' first
    | with_reducible assumption
    | with_reducible exact Law.refl _ _ _
    | exact sub_trans rfl hW
    | exact sub_trans rfl hP
    | with_reducible refine Law.ite (fun _ => ?_) (fun _ => ?_)
    | with_reducible refine State.lineIn_law ?_ _ _  ?_ ?_
    | with_reducible refine State.payIn_law ?_ _ _  ?_ ?_
    | with_reducible refine State.unit_law ?_ _ _ _  ?_ ?_
    | with_reducible refine Law.of_fst (by assumption) ?_
    | split
    | dsimp only [id]

theorem execTrunkUnitReceived_law {W P : Nat} (s : State) (l : Nat) (hdr body : List Bool) (t : LineStamp) (slots : Nat) (hW : 0x140000000000000000000000000403ff07ffaf00f80078e037f00183000000477ba1b420047fffde &&& W = 0x140000000000000000000000000403ff07ffaf00f80078e037f00183000000477ba1b420047fffde) (hP : 0x1fcf9c &&& P = 0x1fcf9c) :
    OutLaw W P s (execTrunkUnitReceived l hdr body t slots s) := by
  unfold execTrunkUnitReceived
  try dsimp only
  repeat' first
    | with_reducible assumption
    | with_reducible exact OutLaw.fault _
    | with_reducible refine OutLaw.ite (fun _ => ?_) (fun _ => ?_)
    | with_reducible refine OutLaw.next ?_
    | with_reducible exact Law.refl _ _ _
    | exact sub_trans rfl hW
    | exact sub_trans rfl hP
    | with_reducible refine Law.ite (fun _ => ?_) (fun _ => ?_)
    | with_reducible refine State.unitLine_law ?_ _ _ _ _  ?_ ?_
    | split
    | dsimp only [id]

theorem execReorderTimeout_law {W P : Nat} (s : State) (p slots : Nat) (hW : 0x140000000000000000000000000403ff07ffaf00f80078e037f00182000000477ba1b420047fffde &&& W = 0x140000000000000000000000000403ff07ffaf00f80078e037f00182000000477ba1b420047fffde) (hP : 0x1fcf9c &&& P = 0x1fcf9c) :
    OutLaw W P s (execReorderTimeout p slots s) := by
  unfold execReorderTimeout
  try dsimp only
  repeat' first
    | with_reducible assumption
    | with_reducible exact OutLaw.fault _
    | with_reducible refine OutLaw.ite (fun _ => ?_) (fun _ => ?_)
    | with_reducible refine OutLaw.next ?_
    | with_reducible exact Law.refl _ _ _
    | exact sub_trans rfl hW
    | exact sub_trans rfl hP
    | with_reducible refine Law.ite (fun _ => ?_) (fun _ => ?_)
    | with_reducible refine State.countN_law ?_ _ _ ?_
    | with_reducible refine State.flag_law ?_ _ ?_
    | with_reducible refine State.setTrunk_law ?_ _ _  ?_ ?_
    | with_reducible refine State.reorderDrain_law ?_ _ _ _  ?_ ?_
    | exact InMask.mk 97 hW rfl rfl (Reg.LN_FLAGS_has _)
    | exact InMask.mk 210 hW rfl rfl (Reg.LN_CNT_has_6 _)
    | with_reducible refine Law.foldl _ ?_ (fun _ _ _ => ?_)
    | with_reducible refine Law.foldl_fst _ ?_ (fun _ _ _ _ => ?_)
    | with_reducible refine Law.of_fst (by assumption) ?_
    | split
    | dsimp only [id]

theorem execIdleReqSend_law {W P : Nat} (s : State) (l : Nat) (hW : 0x0 &&& W = 0x0) (hP : 0x10000 &&& P = 0x10000) :
    OutLaw W P s (execIdleReqSend l s) := by
  unfold execIdleReqSend
  try dsimp only
  repeat' first
    | with_reducible assumption
    | with_reducible exact OutLaw.fault _
    | with_reducible refine OutLaw.ite (fun _ => ?_) (fun _ => ?_)
    | with_reducible refine OutLaw.next ?_
    | with_reducible exact Law.refl _ _ _
    | exact sub_trans rfl hW
    | exact sub_trans rfl hP
    | with_reducible refine Law.ite (fun _ => ?_) (fun _ => ?_)
    | with_reducible refine State.trSend_law ?_ _ _ _  ?_ ?_
    | with_reducible refine State.setTrunk_law ?_ _ _  ?_ ?_
    | split
    | dsimp only [id]

theorem execIdleReqReceived_law {W P : Nat} (s : State) (l : Nat) (hW : 0x0 &&& W = 0x0) (hP : 0x10000 &&& P = 0x10000) :
    OutLaw W P s (execIdleReqReceived l s) := by
  unfold execIdleReqReceived
  try dsimp only
  repeat' first
    | with_reducible assumption
    | with_reducible exact OutLaw.fault _
    | with_reducible refine OutLaw.ite (fun _ => ?_) (fun _ => ?_)
    | with_reducible refine OutLaw.next ?_
    | with_reducible exact Law.refl _ _ _
    | exact sub_trans rfl hW
    | exact sub_trans rfl hP
    | with_reducible refine Law.ite (fun _ => ?_) (fun _ => ?_)
    | with_reducible refine State.setTrunk_law ?_ _ _  ?_ ?_
    | with_reducible refine State.trSend_law ?_ _ _ _  ?_ ?_
    | split
    | dsimp only [id]

theorem execIdleAckReceived_law {W P : Nat} (s : State) (l : Nat) (hW : 0x0 &&& W = 0x0) (hP : 0x10000 &&& P = 0x10000) :
    OutLaw W P s (execIdleAckReceived l s) := by
  unfold execIdleAckReceived
  try dsimp only
  repeat' first
    | with_reducible assumption
    | with_reducible exact OutLaw.fault _
    | with_reducible refine OutLaw.ite (fun _ => ?_) (fun _ => ?_)
    | with_reducible refine OutLaw.next ?_
    | with_reducible exact Law.refl _ _ _
    | exact sub_trans rfl hW
    | exact sub_trans rfl hP
    | with_reducible refine Law.ite (fun _ => ?_) (fun _ => ?_)
    | with_reducible refine State.setTrunk_law ?_ _ _  ?_ ?_
    | split
    | dsimp only [id]

theorem execIdleHandshakeComplete_law {W P : Nat} (s : State) (l : Nat) (hW : 0x80000000000000000000000040000000000000118e0399000248000000f7ba003ffbc00013e &&& W = 0x80000000000000000000000040000000000000118e0399000248000000f7ba003ffbc00013e) (hP : 0x17d59d &&& P = 0x17d59d) :
    OutLaw W P s (execIdleHandshakeComplete l s) := by
  unfold execIdleHandshakeComplete
  try dsimp only
  repeat' first
    | with_reducible assumption
    | with_reducible exact OutLaw.fault _
    | with_reducible refine OutLaw.ite (fun _ => ?_) (fun _ => ?_)
    | with_reducible refine OutLaw.next ?_
    | with_reducible exact Law.refl _ _ _
    | exact sub_trans rfl hW
    | exact sub_trans rfl hP
    | with_reducible refine Law.ite (fun _ => ?_) (fun _ => ?_)
    | with_reducible refine State.count_law ?_ _ ?_
    | with_reducible refine State.txFinish_law ?_ _  ?_ ?_
    | with_reducible refine State.setTrState_law ?_ _ _  ?_ ?_
    | with_reducible refine State.setTrunk_law ?_ _ _  ?_ ?_
    | with_reducible refine State.eachLane_law ?_ _ _ (fun _ _ _ => ?_) ?_ ?_
    | with_reducible refine State.setOper_law ?_ _ _  ?_ ?_
    | with_reducible refine State.trunkWake_law ?_ _  ?_ ?_
    | exact InMask.mk 299 hW rfl rfl (Reg.LN_CNT_has_12 _)
    | split
    | dsimp only [id]

theorem execIdleActivityDetected_law {W P : Nat} (s : State) (l : Nat) (hW : 0x0 &&& W = 0x0) (hP : 0x110000 &&& P = 0x110000) :
    OutLaw W P s (execIdleActivityDetected l s) := by
  unfold execIdleActivityDetected
  try dsimp only
  repeat' first
    | with_reducible assumption
    | with_reducible exact OutLaw.fault _
    | with_reducible refine OutLaw.ite (fun _ => ?_) (fun _ => ?_)
    | with_reducible refine OutLaw.next ?_
    | with_reducible exact Law.refl _ _ _
    | exact sub_trans rfl hW
    | exact sub_trans rfl hP
    | with_reducible refine Law.ite (fun _ => ?_) (fun _ => ?_)
    | with_reducible refine State.trunkWake_law ?_ _  ?_ ?_
    | split
    | dsimp only [id]

theorem execIdleExitTimeout_law {W P : Nat} (s : State) (l : Nat) (hW : 0x1000000000000000000000000c0000000000000118e0399000248000000f7ba003ffbc00013e &&& W = 0x1000000000000000000000000c0000000000000118e0399000248000000f7ba003ffbc00013e) (hP : 0x17d59d &&& P = 0x17d59d) :
    OutLaw W P s (execIdleExitTimeout l s) := by
  unfold execIdleExitTimeout
  try dsimp only
  repeat' first
    | with_reducible assumption
    | with_reducible exact OutLaw.fault _
    | with_reducible refine OutLaw.ite (fun _ => ?_) (fun _ => ?_)
    | with_reducible refine OutLaw.next ?_
    | with_reducible exact Law.refl _ _ _
    | exact sub_trans rfl hW
    | exact sub_trans rfl hP
    | with_reducible refine Law.ite (fun _ => ?_) (fun _ => ?_)
    | with_reducible refine State.count_law ?_ _ ?_
    | with_reducible refine State.trunkDown_law ?_ _  ?_ ?_
    | exact InMask.mk 300 hW rfl rfl (Reg.LN_CNT_has_13 _)
    | split
    | dsimp only [id]

theorem State.trunkCtrl_law {W P : Nat} {s0 s : State} (h : Law W P s0 s) (a : Acc) (l : Nat) (req exit rsv : Bool) (hE : InMask W (Reg.ERR_STATUS a.base)) (hO : InMask W (Reg.ERR_OFS a.base)) (hW : 0x800000000000000000000012 &&& W = 0x800000000000000000000012) (hP : 0x110004 &&& P = 0x110004) :
    Law W P s0 (State.trunkCtrl s a l req exit rsv) := by
  unfold State.trunkCtrl
  try dsimp only
  repeat' first
    | with_reducible assumption
    | with_reducible exact Law.refl _ _ _
    | exact sub_trans rfl hW
    | exact sub_trans rfl hP
    | exact hE
    | exact hO
    | with_reducible refine Law.ite (fun _ => ?_) (fun _ => ?_)
    | with_reducible refine State.setFld_law ?_ _ _ ?_
    | with_reducible refine State.guard_law ?_ _ _ _ ?_ ?_ (fun _ _ => ?_) ?_ ?_
    | with_reducible refine State.trunkWake_law ?_ _  ?_ ?_
    | exact InMask.mk 95 hW rfl rfl (Reg.LN_TRUNK_STATUS_has _)
    | split
    | dsimp only [id]

theorem execTrunkIdleReq_law {W P : Nat} (s : State) (l : Nat) (hW : 0x600000000000000000000000000000000000000000000000000000000000000800000000000000000000012 &&& W = 0x600000000000000000000000000000000000000000000000000000000000000800000000000000000000012) (hP : 0x110004 &&& P = 0x110004) :
    OutLaw W P s (execTrunkIdleReq l s) := by
  unfold execTrunkIdleReq
  try dsimp only
  repeat' first
    | with_reducible assumption
    | with_reducible exact OutLaw.fault _
    | with_reducible refine OutLaw.ite (fun _ => ?_) (fun _ => ?_)
    | with_reducible refine OutLaw.next ?_
    | with_reducible exact Law.refl _ _ _
    | exact sub_trans rfl hW
    | exact sub_trans rfl hP
    | with_reducible refine Law.ite (fun _ => ?_) (fun _ => ?_)
    | with_reducible refine State.trunkCtrl_law ?_ _ _ _ _ _ ?_ ?_ ?_ ?_
    | exact InMask.mk 345 hW rfl rfl (Reg.ERR_STATUS_has_LN _)
    | exact InMask.mk 346 hW rfl rfl (Reg.ERR_OFS_has_LN _)
    | split
    | dsimp only [id]

theorem execTrunkIdleExit_law {W P : Nat} (s : State) (l : Nat) (hW : 0x600000000000000000000000000000000000000000000000000000000000000800000000000000000000012 &&& W = 0x600000000000000000000000000000000000000000000000000000000000000800000000000000000000012) (hP : 0x110004 &&& P = 0x110004) :
    OutLaw W P s (execTrunkIdleExit l s) := by
  unfold execTrunkIdleExit
  try dsimp only
  repeat' first
    | with_reducible assumption
    | with_reducible exact OutLaw.fault _
    | with_reducible refine OutLaw.ite (fun _ => ?_) (fun _ => ?_)
    | with_reducible refine OutLaw.next ?_
    | with_reducible exact Law.refl _ _ _
    | exact sub_trans rfl hW
    | exact sub_trans rfl hP
    | with_reducible refine Law.ite (fun _ => ?_) (fun _ => ?_)
    | with_reducible refine State.trunkCtrl_law ?_ _ _ _ _ _ ?_ ?_ ?_ ?_
    | exact InMask.mk 345 hW rfl rfl (Reg.ERR_STATUS_has_LN _)
    | exact InMask.mk 346 hW rfl rfl (Reg.ERR_OFS_has_LN _)
    | split
    | dsimp only [id]

theorem State.laneCtrl_law {W P : Nat} {s0 s : State} (h : Law W P s0 s) (a : Acc) (l : Nat) (reset : Bool) (loop prbs : Nat) (rsv : Bool) (hE : InMask W (Reg.ERR_STATUS a.base)) (hO : InMask W (Reg.ERR_OFS a.base)) (hW : 0x81c0000000000000118e0399000248000000f7ba003ffbc00013e &&& W = 0x81c0000000000000118e0399000248000000f7ba003ffbc00013e) (hP : 0x17d59d &&& P = 0x17d59d) :
    Law W P s0 (State.laneCtrl s a l reset loop prbs rsv) := by
  unfold State.laneCtrl
  try dsimp only
  repeat' first
    | with_reducible assumption
    | with_reducible exact Law.refl _ _ _
    | exact sub_trans rfl hW
    | exact sub_trans rfl hP
    | exact hE
    | exact hO
    | with_reducible refine Law.ite (fun _ => ?_) (fun _ => ?_)
    | with_reducible refine State.setFld_law ?_ _ _ ?_
    | with_reducible refine State.guard_law ?_ _ _ _ ?_ ?_ (fun _ _ => ?_) ?_ ?_
    | with_reducible refine State.firstAttempt_law ?_ _  ?_ ?_
    | with_reducible refine State.retrain_law ?_ _  ?_ ?_
    | with_reducible refine State.setOper_law ?_ _ _  ?_ ?_
    | exact InMask.mk 211 hW rfl rfl (Reg.LN_CTRL_has _)
    | split
    | dsimp only [id]

theorem execLaneReset_law {W P : Nat} (s : State) (l : Nat) (hW : 0x600000000000000000000000000000000081c0000000000000118e0399000248000000f7ba003ffbc00013e &&& W = 0x600000000000000000000000000000000081c0000000000000118e0399000248000000f7ba003ffbc00013e) (hP : 0x17d59d &&& P = 0x17d59d) :
    OutLaw W P s (execLaneReset l s) := by
  unfold execLaneReset
  try dsimp only
  repeat' first
    | with_reducible assumption
    | with_reducible exact OutLaw.fault _
    | with_reducible refine OutLaw.ite (fun _ => ?_) (fun _ => ?_)
    | with_reducible refine OutLaw.next ?_
    | with_reducible exact Law.refl _ _ _
    | exact sub_trans rfl hW
    | exact sub_trans rfl hP
    | with_reducible refine Law.ite (fun _ => ?_) (fun _ => ?_)
    | with_reducible refine State.laneCtrl_law ?_ _ _ _ _ _ _ ?_ ?_ ?_ ?_
    | exact InMask.mk 345 hW rfl rfl (Reg.ERR_STATUS_has_LN _)
    | exact InMask.mk 346 hW rfl rfl (Reg.ERR_OFS_has_LN _)
    | split
    | dsimp only [id]

theorem execLaneLoopPrbsWrite_law {W P : Nat} (s : State) (l : Nat) (loop prbs : BitVec 2) (hW : 0x600000000000000000000000000000000081c0000000000000118e0399000248000000f7ba003ffbc00013e &&& W = 0x600000000000000000000000000000000081c0000000000000118e0399000248000000f7ba003ffbc00013e) (hP : 0x17d59d &&& P = 0x17d59d) :
    OutLaw W P s (execLaneLoopPrbsWrite l loop prbs s) := by
  unfold execLaneLoopPrbsWrite
  try dsimp only
  repeat' first
    | with_reducible assumption
    | with_reducible exact OutLaw.fault _
    | with_reducible refine OutLaw.ite (fun _ => ?_) (fun _ => ?_)
    | with_reducible refine OutLaw.next ?_
    | with_reducible exact Law.refl _ _ _
    | exact sub_trans rfl hW
    | exact sub_trans rfl hP
    | with_reducible refine Law.ite (fun _ => ?_) (fun _ => ?_)
    | with_reducible refine State.laneCtrl_law ?_ _ _ _ _ _ _ ?_ ?_ ?_ ?_
    | exact InMask.mk 345 hW rfl rfl (Reg.ERR_STATUS_has_LN _)
    | exact InMask.mk 346 hW rfl rfl (Reg.ERR_OFS_has_LN _)
    | split
    | dsimp only [id]

theorem State.lolAssert_law {W P : Nat} {s0 s : State} (h : Law W P s0 s) (l : Nat) (hW : 0x100800000000000000000000000002000000000000000000000000 &&& W = 0x100800000000000000000000000002000000000000000000000000) (hP : 0x0 &&& P = 0x0) :
    Law W P s0 (State.lolAssert s l) := by
  unfold State.lolAssert
  try dsimp only
  repeat' first
    | with_reducible assumption
    | with_reducible exact Law.refl _ _ _
    | exact sub_trans rfl hW
    | exact sub_trans rfl hP
    | with_reducible refine Law.ite (fun _ => ?_) (fun _ => ?_)
    | with_reducible refine State.setFld_law ?_ _ _ ?_
    | with_reducible refine State.count_law ?_ _ ?_
    | with_reducible refine State.flag_law ?_ _ ?_
    | exact InMask.mk 97 hW rfl rfl (Reg.LN_FLAGS_has _)
    | exact InMask.mk 203 hW rfl rfl (Reg.LN_STATUS_has _)
    | exact InMask.mk 212 hW rfl rfl (Reg.LN_CNT_has_1 _)
    | split
    | dsimp only [id]

theorem execLosAssert_law {W P : Nat} (s : State) (l : Nat) (hW : 0x20000000000000000000001008000000000000000000000000020000000f7b8000000000000e &&& W = 0x20000000000000000000001008000000000000000000000000020000000f7b8000000000000e) (hP : 0x10040c &&& P = 0x10040c) :
    OutLaw W P s (execLosAssert l s) := by
  unfold execLosAssert
  try dsimp only
  repeat' first
    | with_reducible assumption
    | with_reducible exact OutLaw.fault _
    | with_reducible refine OutLaw.ite (fun _ => ?_) (fun _ => ?_)
    | with_reducible refine OutLaw.next ?_
    | with_reducible exact Law.refl _ _ _
    | exact sub_trans rfl hW
    | exact sub_trans rfl hP
    | with_reducible refine Law.ite (fun _ => ?_) (fun _ => ?_)
    | with_reducible refine State.setFld_law ?_ _ _ ?_
    | with_reducible refine State.count_law ?_ _ ?_
    | with_reducible refine State.flag_law ?_ _ ?_
    | with_reducible refine State.lolAssert_law ?_ _  ?_ ?_
    | with_reducible refine State.vnPortChange_law ?_ _  ?_ ?_
    | exact InMask.mk 97 hW rfl rfl (Reg.LN_FLAGS_has _)
    | exact InMask.mk 203 hW rfl rfl (Reg.LN_STATUS_has _)
    | exact InMask.mk 301 hW rfl rfl (Reg.LN_CNT_has_0 _)
    | split
    | dsimp only [id]

theorem execLosDeassert_law {W P : Nat} (s : State) (l : Nat) (hW : 0xc0000000000000118e0399000240000000f7ba003ffbc00013e &&& W = 0xc0000000000000118e0399000240000000f7ba003ffbc00013e) (hP : 0x17d59d &&& P = 0x17d59d) :
    OutLaw W P s (execLosDeassert l s) := by
  unfold execLosDeassert
  try dsimp only
  repeat' first
    | with_reducible assumption
    | with_reducible exact OutLaw.fault _
    | with_reducible refine OutLaw.ite (fun _ => ?_) (fun _ => ?_)
    | with_reducible refine OutLaw.next ?_
    | with_reducible exact Law.refl _ _ _
    | exact sub_trans rfl hW
    | exact sub_trans rfl hP
    | with_reducible refine Law.ite (fun _ => ?_) (fun _ => ?_)
    | with_reducible refine State.setFld_law ?_ _ _ ?_
    | with_reducible refine State.setOper_law ?_ _ _  ?_ ?_
    | exact InMask.mk 203 hW rfl rfl (Reg.LN_STATUS_has _)
    | split
    | dsimp only [id]

theorem execLolAssert_law {W P : Nat} (s : State) (l : Nat) (hW : 0x1008000000000000000000000000020000000f7b8000000000000e &&& W = 0x1008000000000000000000000000020000000f7b8000000000000e) (hP : 0x10040c &&& P = 0x10040c) :
    OutLaw W P s (execLolAssert l s) := by
  unfold execLolAssert
  try dsimp only
  repeat' first
    | with_reducible assumption
    | with_reducible exact OutLaw.fault _
    | with_reducible refine OutLaw.ite (fun _ => ?_) (fun _ => ?_)
    | with_reducible refine OutLaw.next ?_
    | with_reducible exact Law.refl _ _ _
    | exact sub_trans rfl hW
    | exact sub_trans rfl hP
    | with_reducible refine Law.ite (fun _ => ?_) (fun _ => ?_)
    | with_reducible refine State.lolAssert_law ?_ _  ?_ ?_
    | with_reducible refine State.vnPortChange_law ?_ _  ?_ ?_
    | split
    | dsimp only [id]

theorem execLolDeassert_law {W P : Nat} (s : State) (l : Nat) (hW : 0x8000000000000000000000000000000000f7b8000000000000e &&& W = 0x8000000000000000000000000000000000f7b8000000000000e) (hP : 0x10140c &&& P = 0x10140c) :
    OutLaw W P s (execLolDeassert l s) := by
  unfold execLolDeassert
  try dsimp only
  repeat' first
    | with_reducible assumption
    | with_reducible exact OutLaw.fault _
    | with_reducible refine OutLaw.ite (fun _ => ?_) (fun _ => ?_)
    | with_reducible refine OutLaw.next ?_
    | with_reducible exact Law.refl _ _ _
    | exact sub_trans rfl hW
    | exact sub_trans rfl hP
    | with_reducible refine Law.ite (fun _ => ?_) (fun _ => ?_)
    | with_reducible refine State.setFld_law ?_ _ _ ?_
    | with_reducible refine State.setChan_law ?_ _ _  ?_ ?_
    | with_reducible refine State.vnPortChange_law ?_ _  ?_ ?_
    | exact InMask.mk 203 hW rfl rfl (Reg.LN_STATUS_has _)
    | split
    | dsimp only [id]

theorem State.locksLost_law {W P : Nat} {s0 s : State} (h : Law W P s0 s) (p : Nat) (hW : 0x4800000000000000000000000002000000000000000000000000 &&& W = 0x4800000000000000000000000002000000000000000000000000) (hP : 0x0 &&& P = 0x0) :
    Law W P s0 (State.locksLost s p) := by
  unfold State.locksLost
  try dsimp only
  repeat' first
    | with_reducible assumption
    | with_reducible exact Law.refl _ _ _
    | exact sub_trans rfl hW
    | exact sub_trans rfl hP
    | with_reducible refine Law.ite (fun _ => ?_) (fun _ => ?_)
    | with_reducible refine State.setFld_law ?_ _ _ ?_
    | with_reducible refine State.count_law ?_ _ ?_
    | with_reducible refine State.flag_law ?_ _ ?_
    | with_reducible refine State.eachLane_law ?_ _ _ (fun _ _ _ => ?_) ?_ ?_
    | exact InMask.mk 97 hW rfl rfl (Reg.LN_FLAGS_has _)
    | exact InMask.mk 203 hW rfl rfl (Reg.LN_STATUS_has _)
    | exact InMask.mk 206 hW rfl rfl (Reg.LN_CNT_has_2 _)
    | split
    | dsimp only [id]

theorem execLosLolPersist_law {W P : Nat} (s : State) (l : Nat) (hW : 0x4000000000000000000000004c0000000000000118e0399000268000000f7ba003ffbc00013e &&& W = 0x4000000000000000000000004c0000000000000118e0399000268000000f7ba003ffbc00013e) (hP : 0x17d59d &&& P = 0x17d59d) :
    OutLaw W P s (execLosLolPersist l s) := by
  unfold execLosLolPersist
  try dsimp only
  repeat' first
    | with_reducible assumption
    | with_reducible exact OutLaw.fault _
    | with_reducible refine OutLaw.ite (fun _ => ?_) (fun _ => ?_)
    | with_reducible refine OutLaw.next ?_
    | with_reducible exact Law.refl _ _ _
    | exact sub_trans rfl hW
    | exact sub_trans rfl hP
    | with_reducible refine Law.ite (fun _ => ?_) (fun _ => ?_)
    | with_reducible refine State.count_law ?_ _ ?_
    | with_reducible refine State.flag_law ?_ _ ?_
    | with_reducible refine State.locksLost_law ?_ _  ?_ ?_
    | with_reducible refine State.trunkDown_law ?_ _  ?_ ?_
    | with_reducible refine State.setOper_law ?_ _ _  ?_ ?_
    | exact InMask.mk 97 hW rfl rfl (Reg.LN_FLAGS_has _)
    | exact InMask.mk 302 hW rfl rfl (Reg.LN_CNT_has_15 _)
    | split
    | dsimp only [id]

theorem execLaneLockAcquired_law {W P : Nat} (s : State) (l : Nat) (hW : 0xc0000000000000118e0399000248000000f7ba003ffbc00013e &&& W = 0xc0000000000000118e0399000248000000f7ba003ffbc00013e) (hP : 0x17d59d &&& P = 0x17d59d) :
    OutLaw W P s (execLaneLockAcquired l s) := by
  unfold execLaneLockAcquired
  try dsimp only
  repeat' first
    | with_reducible assumption
    | with_reducible exact OutLaw.fault _
    | with_reducible refine OutLaw.ite (fun _ => ?_) (fun _ => ?_)
    | with_reducible refine OutLaw.next ?_
    | with_reducible exact Law.refl _ _ _
    | exact sub_trans rfl hW
    | exact sub_trans rfl hP
    | with_reducible refine Law.ite (fun _ => ?_) (fun _ => ?_)
    | with_reducible refine State.setFld_law ?_ _ _ ?_
    | with_reducible refine State.goUp_law ?_ _  ?_ ?_
    | exact InMask.mk 203 hW rfl rfl (Reg.LN_STATUS_has _)
    | split
    | dsimp only [id]

theorem execFirstAttemptTimeout_law {W P : Nat} (s : State) (l : Nat) (hW : 0xc0000000000000118e0399000240000000f7ba003ffbc00013e &&& W = 0xc0000000000000118e0399000240000000f7ba003ffbc00013e) (hP : 0x17d59d &&& P = 0x17d59d) :
    OutLaw W P s (execFirstAttemptTimeout l s) := by
  unfold execFirstAttemptTimeout
  try dsimp only
  repeat' first
    | with_reducible assumption
    | with_reducible exact OutLaw.fault _
    | with_reducible refine OutLaw.ite (fun _ => ?_) (fun _ => ?_)
    | with_reducible refine OutLaw.next ?_
    | with_reducible exact Law.refl _ _ _
    | exact sub_trans rfl hW
    | exact sub_trans rfl hP
    | with_reducible refine Law.ite (fun _ => ?_) (fun _ => ?_)
    | with_reducible refine State.setFld_law ?_ _ _ ?_
    | with_reducible refine State.setOper_law ?_ _ _  ?_ ?_
    | exact InMask.mk 203 hW rfl rfl (Reg.LN_STATUS_has _)
    | split
    | dsimp only [id]

theorem execEyeMeasurement_law {W P : Nat} (s : State) (l width height : Nat) (hW : 0x1800000000000000000000000002000000000000000000000000 &&& W = 0x1800000000000000000000000002000000000000000000000000) (hP : 0x0 &&& P = 0x0) :
    OutLaw W P s (execEyeMeasurement l width height s) := by
  unfold execEyeMeasurement
  try dsimp only
  repeat' first
    | with_reducible assumption
    | with_reducible exact OutLaw.fault _
    | with_reducible refine OutLaw.ite (fun _ => ?_) (fun _ => ?_)
    | with_reducible refine OutLaw.next ?_
    | with_reducible exact Law.refl _ _ _
    | exact sub_trans rfl hW
    | exact sub_trans rfl hP
    | with_reducible refine Law.ite (fun _ => ?_) (fun _ => ?_)
    | with_reducible refine State.setFld_law ?_ _ _ ?_
    | with_reducible refine State.flag_law ?_ _ ?_
    | exact InMask.mk 97 hW rfl rfl (Reg.LN_FLAGS_has _)
    | exact InMask.mk 203 hW rfl rfl (Reg.LN_STATUS_has _)
    | exact InMask.mk 204 hW rfl rfl (Reg.LN_EYE_has _)
    | split
    | dsimp only [id]

theorem State.resetDrops_law {W P : Nat} {s0 s : State} (h : Law W P s0 s) (p : Nat) (hW : 0x119003990000000000000002000000400001e &&& W = 0x119003990000000000000002000000400001e) (hP : 0x10811c &&& P = 0x10811c) :
    Law W P s0 (State.resetDrops s p) := by
  unfold State.resetDrops
  try dsimp only
  repeat' first
    | with_reducible assumption
    | with_reducible exact Law.refl _ _ _
    | exact sub_trans rfl hW
    | exact sub_trans rfl hP
    | (intros; rename_i he; (try dsimp only at he); split at he <;> simp only [Option.some.injEq, reduceCtorEq] at he; subst he)
    | with_reducible refine Law.ite (fun _ => ?_) (fun _ => ?_)
    | with_reducible refine State.purge_law ?_ _ _ ?_ ?_ ?_
    | exact InMask.mk 136 hW rfl rfl (Reg.PRT_FAB_CNT_has_6 _)
    | split
    | dsimp only [id]

theorem State.portReset_law {W P : Nat} {s0 s : State} (h : Law W P s0 s) (p : Nat) (hW : 0x1c0000000000000119e0399000248000000f7ba003ffbc00013e &&& W = 0x1c0000000000000119e0399000248000000f7ba003ffbc00013e) (hP : 0x17d59d &&& P = 0x17d59d) :
    Law W P s0 (State.portReset s p) := by
  unfold State.portReset
  try dsimp only
  repeat' first
    | with_reducible assumption
    | with_reducible exact Law.refl _ _ _
    | exact sub_trans rfl hW
    | exact sub_trans rfl hP
    | with_reducible refine Law.ite (fun _ => ?_) (fun _ => ?_)
    | with_reducible refine State.resetDrops_law ?_ _  ?_ ?_
    | with_reducible refine State.setOper_law ?_ _ _  ?_ ?_
    | with_reducible refine State.fdbPortFlush_law ?_ _  ?_ ?_
    | with_reducible refine State.portDrops_law ?_ _  ?_ ?_
    | with_reducible refine State.ttPortDown_law ?_ _  ?_ ?_
    | with_reducible refine State.firstAttempt_law ?_ _  ?_ ?_
    | with_reducible refine State.retrain_law ?_ _  ?_ ?_
    | split
    | dsimp only [id]

theorem State.portState_law {W P : Nat} {s0 s : State} (h : Law W P s0 s) (a : Acc) (p admin : Nat) (reset skip rsv : Bool) (hE : InMask W (Reg.ERR_STATUS a.base)) (hO : InMask W (Reg.ERR_OFS a.base)) (hW : 0x60000000000000000000000000001c0000000000000119e0399000248000000f7ba003ffbc00013e &&& W = 0x60000000000000000000000000001c0000000000000119e0399000248000000f7ba003ffbc00013e) (hP : 0x17d59d &&& P = 0x17d59d) :
    Law W P s0 (State.portState s a p admin reset skip rsv) := by
  unfold State.portState
  try dsimp only
  repeat' first
    | with_reducible assumption
    | with_reducible exact Law.refl _ _ _
    | exact sub_trans rfl hW
    | exact sub_trans rfl hP
    | exact hE
    | exact hO
    | with_reducible refine Law.ite (fun _ => ?_) (fun _ => ?_)
    | with_reducible refine State.setFld_law ?_ _ _ ?_
    | with_reducible refine State.portGuard_law ?_ _ _ _ _ ?_ ?_ (fun _ _ => ?_) ?_ ?_
    | with_reducible refine State.portReset_law ?_ _  ?_ ?_
    | with_reducible refine State.portOff_law ?_ _  ?_ ?_
    | with_reducible refine State.retrain_law ?_ _  ?_ ?_
    | exact InMask.mk 202 hW rfl rfl (Reg.PRT_STATE_has _)
    | split
    | dsimp only [id]

theorem execPortReset_law {W P : Nat} (s : State) (p : Nat) (hW : 0x180000060000000000000000000000000001c0000000000000119e0399000248000000f7ba003ffbc00013e &&& W = 0x180000060000000000000000000000000001c0000000000000119e0399000248000000f7ba003ffbc00013e) (hP : 0x17d59d &&& P = 0x17d59d) :
    OutLaw W P s (execPortReset p s) := by
  unfold execPortReset
  try dsimp only
  repeat' first
    | with_reducible assumption
    | with_reducible exact OutLaw.fault _
    | with_reducible refine OutLaw.ite (fun _ => ?_) (fun _ => ?_)
    | with_reducible refine OutLaw.next ?_
    | with_reducible exact Law.refl _ _ _
    | exact sub_trans rfl hW
    | exact sub_trans rfl hP
    | with_reducible refine Law.ite (fun _ => ?_) (fun _ => ?_)
    | with_reducible refine State.portState_law ?_ _ _ _ _ _ _ ?_ ?_ ?_ ?_
    | exact InMask.mk 343 hW rfl rfl (Reg.ERR_STATUS_has_PRT _)
    | exact InMask.mk 344 hW rfl rfl (Reg.ERR_OFS_has_PRT _)
    | split
    | dsimp only [id]

theorem execPortAdminDown_law {W P : Nat} (s : State) (p : Nat) (hW : 0x180000060000000000000000000000000001c0000000000000119e0399000248000000f7ba003ffbc00013e &&& W = 0x180000060000000000000000000000000001c0000000000000119e0399000248000000f7ba003ffbc00013e) (hP : 0x17d59d &&& P = 0x17d59d) :
    OutLaw W P s (execPortAdminDown p s) := by
  unfold execPortAdminDown
  try dsimp only
  repeat' first
    | with_reducible assumption
    | with_reducible exact OutLaw.fault _
    | with_reducible refine OutLaw.ite (fun _ => ?_) (fun _ => ?_)
    | with_reducible refine OutLaw.next ?_
    | with_reducible exact Law.refl _ _ _
    | exact sub_trans rfl hW
    | exact sub_trans rfl hP
    | with_reducible refine Law.ite (fun _ => ?_) (fun _ => ?_)
    | with_reducible refine State.portState_law ?_ _ _ _ _ _ _ ?_ ?_ ?_ ?_
    | exact InMask.mk 343 hW rfl rfl (Reg.ERR_STATUS_has_PRT _)
    | exact InMask.mk 344 hW rfl rfl (Reg.ERR_OFS_has_PRT _)
    | split
    | dsimp only [id]

theorem execPortAdminUp_law {W P : Nat} (s : State) (p : Nat) (hW : 0x180000060000000000000000000000000001c0000000000000119e0399000248000000f7ba003ffbc00013e &&& W = 0x180000060000000000000000000000000001c0000000000000119e0399000248000000f7ba003ffbc00013e) (hP : 0x17d59d &&& P = 0x17d59d) :
    OutLaw W P s (execPortAdminUp p s) := by
  unfold execPortAdminUp
  try dsimp only
  repeat' first
    | with_reducible assumption
    | with_reducible exact OutLaw.fault _
    | with_reducible refine OutLaw.ite (fun _ => ?_) (fun _ => ?_)
    | with_reducible refine OutLaw.next ?_
    | with_reducible exact Law.refl _ _ _
    | exact sub_trans rfl hW
    | exact sub_trans rfl hP
    | with_reducible refine Law.ite (fun _ => ?_) (fun _ => ?_)
    | with_reducible refine State.portState_law ?_ _ _ _ _ _ _ ?_ ?_ ?_ ?_
    | exact InMask.mk 343 hW rfl rfl (Reg.ERR_STATUS_has_PRT _)
    | exact InMask.mk 344 hW rfl rfl (Reg.ERR_OFS_has_PRT _)
    | split
    | dsimp only [id]

end Sys2Proof.Machine
end

