-- ==== Sys2Proof/Laws/LawReplay.lean ====
section
/-! SUPPORT. The law of every operation of Machine/Replay.lean: what it may change (Laws/Law.lean). -/

set_option linter.all false

namespace Sys2Proof.Machine

theorem State.setReplay_law {W P : Nat} {s0 s : State} (h : Law W P s0 s) (r : Nat) (x : CdReplay) (hW : 0x0 &&& W = 0x0) (hP : 0x800 &&& P = 0x800) :
    Law W P s0 (State.setReplay s r x) := by
  unfold State.setReplay
  try dsimp only
  repeat' first
    | with_reducible assumption
    | with_reducible exact Law.refl _ _ _
    | exact sub_trans rfl hW
    | exact sub_trans rfl hP
    | dsimp only [id]
    | with_reducible refine Law.put ?_ ?_ ?_ ?_ ?_ ?_ ?_ ?_ ?_ ?_ ?_ ?_ ?_ ?_ ?_ ?_ ?_ ?_ ?_ ?_ ?_ ?_
    | with_reducible exact Or.inl rfl
    | exact Or.inr (partIn hP rfl)

theorem State.replayCtrl_law {W P : Nat} {s0 s : State} (h : Law W P s0 s) (a : Acc) (r : Nat) (arm stop rsv : Bool) (hE : InMask W (Reg.ERR_STATUS a.base)) (hO : InMask W (Reg.ERR_OFS a.base)) (hW : 0x20000000000000000000000000000000000000000000000400011e &&& W = 0x20000000000000000000000000000000000000000000000400011e) (hP : 0x10080c &&& P = 0x10080c) :
    Law W P s0 (State.replayCtrl s a r arm stop rsv) := by
  unfold State.replayCtrl
  try dsimp only
  repeat' first
    | with_reducible assumption
    | with_reducible exact Law.refl _ _ _
    | exact sub_trans rfl hW
    | exact sub_trans rfl hP
    | exact hE
    | exact hO
    | with_reducible refine Law.ite (fun _ => ?_) (fun _ => ?_)
    | with_reducible refine State.setFld_law ?_ _ _ ?_
    | with_reducible refine State.guard_law ?_ _ _ _ ?_ ?_ (fun _ _ => ?_) ?_ ?_
    | with_reducible refine State.setReplay_law ?_ _ _  ?_ ?_
    | with_reducible refine State.replayEnd_law ?_ _ _  ?_ ?_
    | exact InMask.mk 8 hW rfl rfl (Reg.CD_RING_STATUS_has _)
    | exact InMask.mk 26 hW rfl rfl (Reg.CD_RP_STATUS_has _)
    | exact InMask.mk 213 hW rfl rfl (Reg.CD_RP_NEXT_RSEQ_has _)
    | split
    | dsimp only [id]

theorem execReplayArm_law {W P : Nat} (s : State) (r : Nat) (hW : 0x600000000000000000000000000000020000000000000000000000000000000000000000000000400011e &&& W = 0x600000000000000000000000000000020000000000000000000000000000000000000000000000400011e) (hP : 0x10080c &&& P = 0x10080c) :
    OutLaw W P s (execReplayArm r s) := by
  unfold execReplayArm
  try dsimp only
  repeat' first
    | with_reducible assumption
    | with_reducible exact OutLaw.fault _
    | with_reducible refine OutLaw.ite (fun _ => ?_) (fun _ => ?_)
    | with_reducible refine OutLaw.next ?_
    | with_reducible exact Law.refl _ _ _
    | exact sub_trans rfl hW
    | exact sub_trans rfl hP
    | with_reducible refine Law.ite (fun _ => ?_) (fun _ => ?_)
    | with_reducible refine State.replayCtrl_law ?_ _ _ _ _ _ ?_ ?_ ?_ ?_
    | exact InMask.mk 337 hW rfl rfl (Reg.ERR_STATUS_has_CD)
    | exact InMask.mk 338 hW rfl rfl (Reg.ERR_OFS_has_CD)
    | split
    | dsimp only [id]

theorem execReplayStop_law {W P : Nat} (s : State) (r : Nat) (hW : 0x600000000000000000000000000000020000000000000000000000000000000000000000000000400011e &&& W = 0x600000000000000000000000000000020000000000000000000000000000000000000000000000400011e) (hP : 0x10080c &&& P = 0x10080c) :
    OutLaw W P s (execReplayStop r s) := by
  unfold execReplayStop
  try dsimp only
  repeat' first
    | with_reducible assumption
    | with_reducible exact OutLaw.fault _
    | with_reducible refine OutLaw.ite (fun _ => ?_) (fun _ => ?_)
    | with_reducible refine OutLaw.next ?_
    | with_reducible exact Law.refl _ _ _
    | exact sub_trans rfl hW
    | exact sub_trans rfl hP
    | with_reducible refine Law.ite (fun _ => ?_) (fun _ => ?_)
    | with_reducible refine State.replayCtrl_law ?_ _ _ _ _ _ ?_ ?_ ?_ ?_
    | exact InMask.mk 337 hW rfl rfl (Reg.ERR_STATUS_has_CD)
    | exact InMask.mk 338 hW rfl rfl (Reg.ERR_OFS_has_CD)
    | split
    | dsimp only [id]

theorem State.rpAdvance_law {W P : Nat} {s0 s : State} (h : Law W P s0 s) (r pos : Nat) (rest : List RpItem) (hW : 0x200000000000000000000000000000000000000000000000000000 &&& W = 0x200000000000000000000000000000000000000000000000000000) (hP : 0x800 &&& P = 0x800) :
    Law W P s0 (State.rpAdvance s r pos rest) := by
  unfold State.rpAdvance
  try dsimp only
  repeat' first
    | with_reducible assumption
    | with_reducible exact Law.refl _ _ _
    | exact sub_trans rfl hW
    | exact sub_trans rfl hP
    | with_reducible refine State.setFld_law ?_ _ _ ?_
    | with_reducible refine State.setReplay_law ?_ _ _  ?_ ?_
    | exact InMask.mk 213 hW rfl rfl (Reg.CD_RP_NEXT_RSEQ_has _)
    | with_reducible refine Law.of_fst (by assumption) ?_
    | split
    | dsimp only [id]

theorem State.rpSend_law {W P : Nat} {s0 s : State} (h : Law W P s0 s) (r : Nat) (x : CdRecord) (l : Nat) (hW : 0xc0000000000000000078e001f0000000000000002000000400001e &&& W = 0xc0000000000000000078e001f0000000000000002000000400001e) (hP : 0x1c811c &&& P = 0x1c811c) :
    Law W P s0 (State.rpSend s r x l).1 := by
  unfold State.rpSend
  try dsimp only
  repeat' first
    | with_reducible assumption
    | with_reducible exact Law.refl _ _ _
    | exact sub_trans rfl hW
    | exact sub_trans rfl hP
    | with_reducible refine Law.ite (fun _ => ?_) (fun _ => ?_)
    | with_reducible refine State.setFld_law ?_ _ _ ?_
    | with_reducible refine State.count_law ?_ _ ?_
    | with_reducible refine State.bufAlloc_law ?_ _ _  ?_ ?_
    | with_reducible refine State.enqueue_law ?_ _ _ _  ?_ ?_
    | exact InMask.mk 26 hW rfl rfl (Reg.CD_RP_STATUS_has _)
    | exact InMask.mk 214 hW rfl rfl (Reg.CD_RP_CNT_has_3 _)
    | exact InMask.mk 215 hW rfl rfl (Reg.CD_RP_CNT_has_0 _)
    | with_reducible refine Law.of_fst (by assumption) ?_
    | split
    | dsimp only [id]
    | with_reducible refine Law.put ?_ ?_ ?_ ?_ ?_ ?_ ?_ ?_ ?_ ?_ ?_ ?_ ?_ ?_ ?_ ?_ ?_ ?_ ?_ ?_ ?_ ?_
    | with_reducible exact Or.inl rfl
    | exact Or.inr (partIn hP rfl)

theorem State.rpRead_law {W P : Nat} {s0 s : State} (h : Law W P s0 s) (r : Nat) (x1 : Nat) (x2 : List RpItem) (hW : 0x3e0000000000000000078e001f0000000000000002000000480001e &&& W = 0x3e0000000000000000078e001f0000000000000002000000480001e) (hP : 0x1c891c &&& P = 0x1c891c) :
    Law W P s0 (State.rpRead s r x1 x2) := by
  induction x2 generalizing s x1 with
  | nil =>
    unfold State.rpRead
    try dsimp only
    repeat' first
      | with_reducible assumption
      | with_reducible exact Law.refl _ _ _
      | exact sub_trans rfl hW
      | exact sub_trans rfl hP
      | with_reducible refine Law.ite (fun _ => ?_) (fun _ => ?_)
      | with_reducible refine State.count_law ?_ _ ?_
      | with_reducible refine State.rpAdvance_law ?_ _ _ _  ?_ ?_
      | with_reducible refine State.setReplay_law ?_ _ _  ?_ ?_
      | with_reducible refine State.rpSend_law ?_ _ _ _  ?_ ?_
      | exact InMask.mk 23 hW rfl rfl (Reg.CD_RING_CNT_has_7 _)
      | exact InMask.mk 216 hW rfl rfl (Reg.CD_RP_CNT_has_2 _)
      | exact InMask.mk 217 hW rfl rfl (Reg.CD_RP_CNT_has_1 _)
      | with_reducible refine Law.of_fst (by assumption) ?_
      | split
      | dsimp only [id]
  | cons x l ih =>
    unfold State.rpRead
    try dsimp only
    repeat' first
      | with_reducible assumption
      | with_reducible apply ih
      | with_reducible exact Law.refl _ _ _
      | exact sub_trans rfl hW
      | exact sub_trans rfl hP
      | with_reducible refine Law.ite (fun _ => ?_) (fun _ => ?_)
      | with_reducible refine State.count_law ?_ _ ?_
      | with_reducible refine State.rpAdvance_law ?_ _ _ _  ?_ ?_
      | with_reducible refine State.setReplay_law ?_ _ _  ?_ ?_
      | with_reducible refine State.rpSend_law ?_ _ _ _  ?_ ?_
      | exact InMask.mk 23 hW rfl rfl (Reg.CD_RING_CNT_has_7 _)
      | exact InMask.mk 216 hW rfl rfl (Reg.CD_RP_CNT_has_2 _)
      | exact InMask.mk 217 hW rfl rfl (Reg.CD_RP_CNT_has_1 _)
      | with_reducible refine Law.of_fst (by assumption) ?_
      | split
      | dsimp only [id]

theorem execReplayRecordSend_law {W P : Nat} (s : State) (r : Nat) (hW : 0x3e0000000000000000078e001f0000000000000002000000480001e &&& W = 0x3e0000000000000000078e001f0000000000000002000000480001e) (hP : 0x1c891c &&& P = 0x1c891c) :
    OutLaw W P s (execReplayRecordSend r s) := by
  unfold execReplayRecordSend
  try dsimp only
  repeat' first
    | with_reducible assumption
    | with_reducible exact OutLaw.fault _
    | with_reducible refine OutLaw.ite (fun _ => ?_) (fun _ => ?_)
    | with_reducible refine OutLaw.next ?_
    | with_reducible exact Law.refl _ _ _
    | exact sub_trans rfl hW
    | exact sub_trans rfl hP
    | with_reducible refine Law.ite (fun _ => ?_) (fun _ => ?_)
    | with_reducible refine State.rpRead_law ?_ _ _ _  ?_ ?_
    | split
    | dsimp only [id]

theorem execReplayDone_law {W P : Nat} (s : State) (r : Nat) (hW : 0x3e0000000000000000078e001f0000000000000002000000480011e &&& W = 0x3e0000000000000000078e001f0000000000000002000000480011e) (hP : 0x1c891c &&& P = 0x1c891c) :
    OutLaw W P s (execReplayDone r s) := by
  unfold execReplayDone
  try dsimp only
  repeat' first
    | with_reducible assumption
    | with_reducible exact OutLaw.fault _
    | with_reducible refine OutLaw.ite (fun _ => ?_) (fun _ => ?_)
    | with_reducible refine OutLaw.next ?_
    | with_reducible exact Law.refl _ _ _
    | exact sub_trans rfl hW
    | exact sub_trans rfl hP
    | with_reducible refine Law.ite (fun _ => ?_) (fun _ => ?_)
    | with_reducible refine State.rpRead_law ?_ _ _ _  ?_ ?_
    | with_reducible refine State.replayEnd_law ?_ _ _  ?_ ?_
    | split
    | dsimp only [id]

end Sys2Proof.Machine
end

