-- ==== Sys2Proof/Laws/LawImage.lean ====
section
/-! SUPPORT. The law of every operation of Machine/Image.lean: what it may change (Laws/Law.lean). -/

set_option linter.all false

namespace Sys2Proof.Machine

theorem State.readCal_law {W P : Nat} {s0 s : State} (h : Law W P s0 s) (c : CalFlash) (lanes : Nat → Bool) (pins : Bool) (hW : 0x400000000000000000000000000000000000000000000000000000e &&& W = 0x400000000000000000000000000000000000000000000000000000e) (hP : 0x10200c &&& P = 0x10200c) :
    Law W P s0 (State.readCal s c lanes pins) := by
  unfold State.readCal
  repeat' first
    | with_reducible assumption
    | extract_lets
    | with_reducible exact Law.refl _ _ _
    | exact sub_trans rfl hW
    | exact sub_trans rfl hP
    | with_reducible refine Law.ite (fun _ => ?_) (fun _ => ?_)
    | with_reducible refine State.setFld_law ?_ _ _ ?_
    | with_reducible refine State.spoutEvent_law ?_ _ _ _ _  ?_ ?_
    | exact InMask.mk 218 hW rfl rfl (Reg.PH_CAL_STATUS_has)
    | with_reducible refine Law.foldl _ ?_ (fun _ _ _ => ?_)
    | with_reducible refine Law.foldl_fst _ ?_ (fun _ _ _ _ => ?_)
    | with_reducible refine Law.of_fst (by assumption) ?_
    | split
    | with_reducible refine Law.put ?_ ?_ ?_ ?_ ?_ ?_ ?_ ?_ ?_ ?_ ?_ ?_ ?_ ?_ ?_ ?_ ?_ ?_ ?_ ?_ ?_ ?_
    | with_reducible exact Or.inl rfl
    | exact Or.inr (partIn hP rfl)

theorem State.preload_law {W P : Nat} {s0 s : State} (h : Law W P s0 s) (i : Nat) (img : List Byte) (o : Nat) (hW : 0x18000000000000000000000000 &&& W = 0x18000000000000000000000000) (hP : 0x4000 &&& P = 0x4000) :
    Law W P s0 (State.preload s i img o).1 := by
  unfold State.preload
  try dsimp only
  repeat' first
    | with_reducible assumption
    | with_reducible exact Law.refl _ _ _
    | exact sub_trans rfl hW
    | exact sub_trans rfl hP
    | with_reducible refine Law.ite (fun _ => ?_) (fun _ => ?_)
    | with_reducible refine State.countN_law ?_ _ _ ?_
    | with_reducible refine State.count_law ?_ _ ?_
    | with_reducible refine State.setSlice_law ?_ _ _  ?_ ?_
    | exact InMask.mk 99 hW rfl rfl (Reg.SLC_CNT_has_13 _)
    | exact InMask.mk 100 hW rfl rfl (Reg.SLC_CNT_has_7 _)
    | with_reducible refine Law.of_fst (by assumption) ?_
    | split
    | dsimp only [id]

theorem State.slcRegs_law {W P : Nat} {s0 s : State} (h : Law W P s0 s) (i : Nat) (img : List Byte) (b : Nat) (hW : 0x1fffffffffffffffffffffffffffffffffffffffffffffffffffffffffffffffffffffffffffffffffffffff &&& W = 0x1fffffffffffffffffffffffffffffffffffffffffffffffffffffffffffffffffffffffffffffffffffffff) (hP : 0x0 &&& P = 0x0) :
    Law W P s0 (State.slcRegs s i img b) := by
  unfold State.slcRegs
  try dsimp only
  repeat' first
    | with_reducible assumption
    | with_reducible exact Law.refl _ _ _
    | exact sub_trans rfl hW
    | exact sub_trans rfl hP
    | with_reducible refine State.setFld_law ?_ _ _ ?_
    | with_reducible refine State.porWhere_law ?_ _ (fun _ _ => ?_)
    | exact InMask.all hW rfl _
    | exact InMask.mk 219 hW rfl rfl (Reg.SLC_AGE_has _)
    | exact InMask.mk 220 hW rfl rfl (Reg.SLC_MOVE_has _)
    | exact InMask.mk 221 hW rfl rfl (Reg.SLC_LEARN_has _)
    | dsimp only [id]

theorem State.carve_law {W P : Nat} {s0 s : State} (h : Law W P s0 s) (i : Nat) (img : List Byte) (b : Nat) (hW : 0x40000000000000000000000000000018000000000000000000000000 &&& W = 0x40000000000000000000000000000018000000000000000000000000) (hP : 0x4080 &&& P = 0x4080) :
    Law W P s0 (State.carve s i img b).1 := by
  unfold State.carve
  try dsimp only
  repeat' first
    | with_reducible assumption
    | with_reducible exact Law.refl _ _ _
    | exact sub_trans rfl hW
    | exact sub_trans rfl hP
    | with_reducible refine Law.ite (fun _ => ?_) (fun _ => ?_)
    | with_reducible refine State.wr_law ?_ _ _ ?_
    | with_reducible refine State.setSlice_law ?_ _ _  ?_ ?_
    | with_reducible refine State.preload_law ?_ _ _ _  ?_ ?_
    | with_reducible refine State.scanTouch_law ?_ _ _ _ _  ?_ ?_
    | exact InMask.mk 222 hW rfl rfl (Reg.SLC_CARVE_has _)
    | with_reducible refine Law.foldl _ ?_ (fun _ _ _ => ?_)
    | with_reducible refine Law.foldl_fst _ ?_ (fun _ _ _ _ => ?_)
    | with_reducible refine Law.of_fst (by assumption) ?_
    | split
    | dsimp only [id]

theorem State.reapply_law {W P : Nat} {s0 s : State} (h : Law W P s0 s) (i : Nat) (hW : 0x1fffffffffffffffffffffffffffffffffffffffffffffffffffffffffffffffffffffffffffffffffffffff &&& W = 0x1fffffffffffffffffffffffffffffffffffffffffffffffffffffffffffffffffffffffffffffffffffffff) (hP : 0x4080 &&& P = 0x4080) :
    Law W P s0 (State.reapply s i).1 := by
  unfold State.reapply
  try dsimp only
  repeat' first
    | with_reducible assumption
    | with_reducible exact Law.refl _ _ _
    | exact sub_trans rfl hW
    | exact sub_trans rfl hP
    | with_reducible refine State.slcRegs_law ?_ _ _ _  ?_ ?_
    | with_reducible refine State.carve_law ?_ _ _ _  ?_ ?_
    | exact InMask.all hW rfl _
    | split
    | dsimp only [id]

theorem State.setSlc_law {W P : Nat} {s0 s : State} (h : Law W P s0 s) (i st : Nat) (hW : 0x800000000000000000000000000000000000000000000000200000c0 &&& W = 0x800000000000000000000000000000000000000000000000200000c0) (hP : 0x4081 &&& P = 0x4081) :
    Law W P s0 (State.setSlc s i st) := by
  unfold State.setSlc
  try dsimp only
  repeat' first
    | with_reducible assumption
    | with_reducible exact Law.refl _ _ _
    | exact sub_trans rfl hW
    | exact sub_trans rfl hP
    | with_reducible refine Law.ite (fun _ => ?_) (fun _ => ?_)
    | with_reducible refine State.setFld_law ?_ _ _ ?_
    | with_reducible refine State.closeRecov_law ?_ _  ?_ ?_
    | with_reducible refine State.scanStale_law ?_ _ _  ?_ ?_
    | with_reducible refine State.learnHalt_law ?_ _  ?_ ?_
    | exact InMask.mk 223 hW rfl rfl (Reg.DEV_SLC_STATE_has)
    | split
    | dsimp only [id]

theorem State.applyStruct_law {W P : Nat} {s0 s : State} (h : Law W P s0 s) (img : List Byte) (hW : 0x180000000000000000000000000000000000000000000000008000000 &&& W = 0x180000000000000000000000000000000000000000000000008000000) (hP : 0x20 &&& P = 0x20) :
    Law W P s0 (State.applyStruct s img) := by
  unfold State.applyStruct
  try dsimp only
  repeat' first
    | with_reducible assumption
    | with_reducible exact Law.refl _ _ _
    | exact sub_trans rfl hW
    | exact sub_trans rfl hP
    | with_reducible refine Law.ite (fun _ => ?_) (fun _ => ?_)
    | with_reducible refine State.setFld_law ?_ _ _ ?_
    | exact InMask.mk 27 hW rfl rfl (Reg.DEV_MODE_has)
    | exact InMask.mk 223 hW rfl rfl (Reg.DEV_SLC_STATE_has)
    | exact InMask.mk 224 hW rfl rfl (Reg.IMG_MUT_MASK_has)
    | split
    | dsimp only [id]
    | with_reducible refine Law.put ?_ ?_ ?_ ?_ ?_ ?_ ?_ ?_ ?_ ?_ ?_ ?_ ?_ ?_ ?_ ?_ ?_ ?_ ?_ ?_ ?_ ?_
    | with_reducible exact Or.inl rfl
    | exact Or.inr (partIn hP rfl)

theorem State.applyLanes_law {W P : Nat} {s0 s : State} (h : Law W P s0 s) (img : List Byte) (hW : 0x200000000000000000000000000000000000000000000000000000000 &&& W = 0x200000000000000000000000000000000000000000000000000000000) (hP : 0x0 &&& P = 0x0) :
    Law W P s0 (State.applyLanes s img) := by
  unfold State.applyLanes
  try dsimp only
  repeat' first
    | with_reducible assumption
    | with_reducible exact Law.refl _ _ _
    | exact sub_trans rfl hW
    | exact sub_trans rfl hP
    | with_reducible refine Law.ite (fun _ => ?_) (fun _ => ?_)
    | with_reducible refine State.wr_law ?_ _ _ ?_
    | exact InMask.mk 225 hW rfl rfl (Reg.LN_CFG_has _)
    | with_reducible refine Law.foldl _ ?_ (fun _ _ _ => ?_)
    | with_reducible refine Law.foldl_fst _ ?_ (fun _ _ _ _ => ?_)
    | split
    | dsimp only [id]

theorem State.applyPort_law {W P : Nat} {s0 s : State} (h : Law W P s0 s) (img : List Byte) (p : Nat) (hW : 0xfc00000400400000000000000000000000000000000000000000000000 &&& W = 0xfc00000400400000000000000000000000000000000000000000000000) (hP : 0x20 &&& P = 0x20) :
    Law W P s0 (State.applyPort s img p) := by
  unfold State.applyPort
  try dsimp only
  repeat' first
    | with_reducible assumption
    | with_reducible exact Law.refl _ _ _
    | exact sub_trans rfl hW
    | exact sub_trans rfl hP
    | with_reducible refine State.setFld_law ?_ _ _ ?_
    | with_reducible refine State.wr_law ?_ _ _ ?_
    | exact InMask.mk 190 hW rfl rfl (Reg.PRT_TT_CFG_has _)
    | exact InMask.mk 202 hW rfl rfl (Reg.PRT_STATE_has _)
    | exact InMask.mk 226 hW rfl rfl (Reg.PRT_TT_ASYM_has _)
    | exact InMask.mk 227 hW rfl rfl (Reg.PRT_TT_MID_2_has _)
    | exact InMask.mk 228 hW rfl rfl (Reg.PRT_LT_HORIZON_has _)
    | exact InMask.mk 229 hW rfl rfl (Reg.PRT_LT_STALE_has _)
    | exact InMask.mk 230 hW rfl rfl (Reg.PRT_PFC_has _)
    | exact InMask.mk 231 hW rfl rfl (Reg.PRT_LT_CFG_has _)
    | dsimp only [id]
    | with_reducible refine Law.put ?_ ?_ ?_ ?_ ?_ ?_ ?_ ?_ ?_ ?_ ?_ ?_ ?_ ?_ ?_ ?_ ?_ ?_ ?_ ?_ ?_ ?_
    | with_reducible exact Or.inl rfl
    | exact Or.inr (partIn hP rfl)

theorem State.applyPool_law {W P : Nat} {s0 s : State} (h : Law W P s0 s) (img : List Byte) (hW : 0x30000000000000000000000000008b00000000000000000000000000000 &&& W = 0x30000000000000000000000000008b00000000000000000000000000000) (hP : 0x8000 &&& P = 0x8000) :
    Law W P s0 (State.applyPool s img) := by
  unfold State.applyPool
  try dsimp only
  repeat' first
    | with_reducible assumption
    | with_reducible exact Law.refl _ _ _
    | exact sub_trans rfl hW
    | exact sub_trans rfl hP
    | with_reducible refine Law.ite (fun _ => ?_) (fun _ => ?_)
    | with_reducible refine State.setFld_law ?_ _ _ ?_
    | with_reducible refine State.setFab_law ?_ _  ?_ ?_
    | exact InMask.mk 116 hW rfl rfl (Reg.BPM_POOL_FREE_has _)
    | exact InMask.mk 117 hW rfl rfl (Reg.BPM_POOL_LOW_has _)
    | exact InMask.mk 119 hW rfl rfl (Reg.BPM_SHARED_FREE_has)
    | exact InMask.mk 123 hW rfl rfl (Reg.BPM_P0_SPLIT_has)
    | exact InMask.mk 232 hW rfl rfl (Reg.BPM_POOL_SIZE_has _)
    | exact InMask.mk 233 hW rfl rfl (Reg.FAB_MC_RESIDUE_has)
    | with_reducible refine Law.foldl _ ?_ (fun _ _ _ => ?_)
    | with_reducible refine Law.foldl_fst _ ?_ (fun _ _ _ _ => ?_)
    | split
    | dsimp only [id]

theorem State.applyCaddy_law {W P : Nat} {s0 s : State} (h : Law W P s0 s) (img : List Byte) (hW : 0x1fffffffffffffffffffffffffffffffffffffffffffffffffffffffffffffffffffffffffffffffffffffff &&& W = 0x1fffffffffffffffffffffffffffffffffffffffffffffffffffffffffffffffffffffffffffffffffffffff) (hP : 0x800 &&& P = 0x800) :
    Law W P s0 (State.applyCaddy s img) := by
  unfold State.applyCaddy
  try dsimp only
  repeat' first
    | with_reducible assumption
    | with_reducible exact Law.refl _ _ _
    | exact sub_trans rfl hW
    | exact sub_trans rfl hP
    | with_reducible refine Law.ite (fun _ => ?_) (fun _ => ?_)
    | with_reducible refine State.setFld_law ?_ _ _ ?_
    | with_reducible refine State.wr_law ?_ _ _ ?_
    | with_reducible refine State.porWhere_law ?_ _ (fun _ _ => ?_)
    | exact InMask.all hW rfl _
    | exact InMask.mk 8 hW rfl rfl (Reg.CD_RING_STATUS_has _)
    | exact InMask.mk 234 hW rfl rfl (Reg.CD_RING_CFG_has _)
    | exact InMask.mk 235 hW rfl rfl (Reg.CD_RING_PRE_has _)
    | exact InMask.mk 236 hW rfl rfl (Reg.CD_RING_POST_has _)
    | exact InMask.mk 237 hW rfl rfl (Reg.CD_RP_LEAD_has _)
    | with_reducible refine Law.foldl _ ?_ (fun _ _ _ => ?_)
    | with_reducible refine Law.foldl_fst _ ?_ (fun _ _ _ _ => ?_)
    | split
    | dsimp only [id]
    | with_reducible refine Law.put ?_ ?_ ?_ ?_ ?_ ?_ ?_ ?_ ?_ ?_ ?_ ?_ ?_ ?_ ?_ ?_ ?_ ?_ ?_ ?_ ?_ ?_
    | with_reducible exact Or.inl rfl
    | exact Or.inr (partIn hP rfl)

theorem State.applyTime_law {W P : Nat} {s0 s : State} (h : Law W P s0 s) (img : List Byte) (hW : 0x7c00000000000800000000000000000000000000000000040050000000000 &&& W = 0x7c00000000000800000000000000000000000000000000040050000000000) (hP : 0x20 &&& P = 0x20) :
    Law W P s0 (State.applyTime s img) := by
  unfold State.applyTime
  repeat' first
    | with_reducible assumption
    | extract_lets
    | with_reducible exact Law.refl _ _ _
    | exact sub_trans rfl hW
    | exact sub_trans rfl hP
    | with_reducible refine Law.ite (fun _ => ?_) (fun _ => ?_)
    | with_reducible refine State.setFld_law ?_ _ _ ?_
    | with_reducible refine State.wr_law ?_ _ _ ?_
    | with_reducible refine State.pairsForm_law ?_   ?_ ?_
    | exact InMask.mk 42 hW rfl rfl (Reg.KT_OFS_CREDIT_has _)
    | exact InMask.mk 54 hW rfl rfl (Reg.KT_TB_STATUS_has)
    | exact InMask.mk 191 hW rfl rfl (Reg.KT_DOM_CFG_has _)
    | exact InMask.mk 238 hW rfl rfl (Reg.KT_CFG_has)
    | exact InMask.mk 239 hW rfl rfl (Reg.KT_KP_has _)
    | exact InMask.mk 240 hW rfl rfl (Reg.KT_KI_has _)
    | exact InMask.mk 241 hW rfl rfl (Reg.KT_SLEW_has _)
    | exact InMask.mk 242 hW rfl rfl (Reg.KT_SERVO_has _)
    | with_reducible refine Law.foldl _ ?_ (fun _ _ _ => ?_)
    | with_reducible refine Law.foldl_fst _ ?_ (fun _ _ _ _ => ?_)
    | split
    | with_reducible refine Law.put ?_ ?_ ?_ ?_ ?_ ?_ ?_ ?_ ?_ ?_ ?_ ?_ ?_ ?_ ?_ ?_ ?_ ?_ ?_ ?_ ?_ ?_
    | with_reducible exact Or.inl rfl
    | exact Or.inr (partIn hP rfl)

theorem State.applyVane_law {W P : Nat} {s0 s : State} (h : Law W P s0 s) (img : List Byte) (hW : 0x38000000000000000000000000000000000000000000000000000000000000 &&& W = 0x38000000000000000000000000000000000000000000000000000000000000) (hP : 0x0 &&& P = 0x0) :
    Law W P s0 (State.applyVane s img) := by
  unfold State.applyVane
  try dsimp only
  repeat' first
    | with_reducible assumption
    | with_reducible exact Law.refl _ _ _
    | exact sub_trans rfl hW
    | exact sub_trans rfl hP
    | with_reducible refine State.wr_law ?_ _ _ ?_
    | exact InMask.mk 243 hW rfl rfl (Reg.VN_CFG_has)
    | exact InMask.mk 244 hW rfl rfl (Reg.VN_CFG1_has)
    | exact InMask.mk 245 hW rfl rfl (Reg.VN_CAND_CFG_has _)
    | with_reducible refine Law.foldl _ ?_ (fun _ _ _ => ?_)
    | with_reducible refine Law.foldl_fst _ ?_ (fun _ _ _ _ => ?_)
    | dsimp only [id]

theorem State.applyEvents_law {W P : Nat} {s0 s : State} (h : Law W P s0 s) (img : List Byte) (hW : 0x60000000000000000000000 &&& W = 0x60000000000000000000000) (hP : 0x0 &&& P = 0x0) :
    Law W P s0 (State.applyEvents s img) := by
  unfold State.applyEvents
  try dsimp only
  repeat' first
    | with_reducible assumption
    | with_reducible exact Law.refl _ _ _
    | exact sub_trans rfl hW
    | exact sub_trans rfl hP
    | with_reducible refine State.wr_law ?_ _ _ ?_
    | exact InMask.mk 89 hW rfl rfl (Reg.PIN_EVT_CFG_has _)
    | exact InMask.mk 90 hW rfl rfl (Reg.PIN_PLS_STATUS_has _)
    | with_reducible refine Law.foldl _ ?_ (fun _ _ _ => ?_)
    | with_reducible refine Law.foldl_fst _ ?_ (fun _ _ _ _ => ?_)
    | dsimp only [id]

theorem State.applyClocks_law {W P : Nat} {s0 s : State} (h : Law W P s0 s) (img : List Byte) (hW : 0x700000000000000000000000 &&& W = 0x700000000000000000000000) (hP : 0x0 &&& P = 0x0) :
    Law W P s0 (State.applyClocks s img) := by
  unfold State.applyClocks
  try dsimp only
  repeat' first
    | with_reducible assumption
    | with_reducible exact Law.refl _ _ _
    | exact sub_trans rfl hW
    | exact sub_trans rfl hP
    | with_reducible refine State.setFld_law ?_ _ _ ?_
    | exact InMask.mk 92 hW rfl rfl (Reg.PIN_CLK_STATUS_has _)
    | exact InMask.mk 93 hW rfl rfl (Reg.PIN_CLK_CTRL_has _)
    | exact InMask.mk 94 hW rfl rfl (Reg.PIN_CLK_FREQ_has _)
    | with_reducible refine Law.foldl _ ?_ (fun _ _ _ => ?_)
    | with_reducible refine Law.foldl_fst _ ?_ (fun _ _ _ _ => ?_)
    | dsimp only [id]

theorem State.applyWake_law {W P : Nat} {s0 s : State} (h : Law W P s0 s) (img : List Byte) (hW : 0x0 &&& W = 0x0) (hP : 0x20 &&& P = 0x20) :
    Law W P s0 (State.applyWake s img) := by
  unfold State.applyWake
  try dsimp only
  repeat' first
    | with_reducible assumption
    | with_reducible exact Law.refl _ _ _
    | exact sub_trans rfl hW
    | exact sub_trans rfl hP
    | dsimp only [id]
    | with_reducible refine Law.put ?_ ?_ ?_ ?_ ?_ ?_ ?_ ?_ ?_ ?_ ?_ ?_ ?_ ?_ ?_ ?_ ?_ ?_ ?_ ?_ ?_ ?_
    | with_reducible exact Or.inl rfl
    | exact Or.inr (partIn hP rfl)

theorem State.applyPins_law {W P : Nat} {s0 s : State} (h : Law W P s0 s) (img : List Byte) (hW : 0x40000000000000000000000000000000000000760000000000000000000000 &&& W = 0x40000000000000000000000000000000000000760000000000000000000000) (hP : 0x20 &&& P = 0x20) :
    Law W P s0 (State.applyPins s img) := by
  unfold State.applyPins
  try dsimp only
  repeat' first
    | with_reducible assumption
    | with_reducible exact Law.refl _ _ _
    | exact sub_trans rfl hW
    | exact sub_trans rfl hP
    | with_reducible refine State.setFld_law ?_ _ _ ?_
    | with_reducible refine State.applyEvents_law ?_ _  ?_ ?_
    | with_reducible refine State.applyClocks_law ?_ _  ?_ ?_
    | with_reducible refine State.applyWake_law ?_ _  ?_ ?_
    | exact InMask.mk 246 hW rfl rfl (Reg.DEV_WAKE_CFG_has)
    | dsimp only [id]

theorem State.applySerial_law {W P : Nat} {s0 s : State} (h : Law W P s0 s) (img : List Byte) (hW : 0x780000000000000000000000000000000000000000000000000000000000000 &&& W = 0x780000000000000000000000000000000000000000000000000000000000000) (hP : 0x0 &&& P = 0x0) :
    Law W P s0 (State.applySerial s img) := by
  unfold State.applySerial
  try dsimp only
  repeat' first
    | with_reducible assumption
    | with_reducible exact Law.refl _ _ _
    | exact sub_trans rfl hW
    | exact sub_trans rfl hP
    | with_reducible refine State.wr_law ?_ _ _ ?_
    | exact InMask.mk 247 hW rfl rfl (Reg.IMG_SLC_SERIAL_LO_has _)
    | exact InMask.mk 248 hW rfl rfl (Reg.IMG_SLC_SERIAL_HI_has _)
    | exact InMask.mk 249 hW rfl rfl (Reg.IMG_BASE_SERIAL_LO_has)
    | exact InMask.mk 250 hW rfl rfl (Reg.IMG_BASE_SERIAL_HI_has)
    | with_reducible refine Law.foldl _ ?_ (fun _ _ _ => ?_)
    | with_reducible refine Law.foldl_fst _ ?_ (fun _ _ _ _ => ?_)
    | dsimp only [id]

theorem State.applyImage_law {W P : Nat} {s0 s : State} (h : Law W P s0 s) (img : List Byte) (cal : CalFlash) (hW : 0x1fffffffffffffffffffffffffffffffffffffffffffffffffffffffffffffffffffffffffffffffffffffff &&& W = 0x1fffffffffffffffffffffffffffffffffffffffffffffffffffffffffffffffffffffffffffffffffffffff) (hP : 0x10f8ec &&& P = 0x10f8ec) :
    Law W P s0 (State.applyImage s img cal).1 := by
  unfold State.applyImage
  try dsimp only
  repeat' first
    | with_reducible assumption
    | with_reducible exact Law.refl _ _ _
    | exact sub_trans rfl hW
    | exact sub_trans rfl hP
    | with_reducible refine Law.ite (fun _ => ?_) (fun _ => ?_)
    | with_reducible refine State.applyStruct_law ?_ _  ?_ ?_
    | with_reducible refine State.applyLanes_law ?_ _  ?_ ?_
    | with_reducible refine State.applyPort_law ?_ _ _  ?_ ?_
    | with_reducible refine State.applyPool_law ?_ _  ?_ ?_
    | with_reducible refine State.applyCaddy_law ?_ _  ?_ ?_
    | with_reducible refine State.applyTime_law ?_ _  ?_ ?_
    | with_reducible refine State.applyVane_law ?_ _  ?_ ?_
    | with_reducible refine State.applyPins_law ?_ _  ?_ ?_
    | with_reducible refine State.applySerial_law ?_ _  ?_ ?_
    | with_reducible refine State.reapply_law ?_ _  ?_ ?_
    | with_reducible refine State.readCal_law ?_ _ _ _  ?_ ?_
    | with_reducible refine State.ttConsumer_law ?_ _  ?_ ?_
    | exact InMask.all hW rfl _
    | with_reducible refine Law.foldl _ ?_ (fun _ _ _ => ?_)
    | with_reducible refine Law.foldl_fst _ ?_ (fun _ _ _ _ => ?_)
    | with_reducible refine Law.of_fst (by assumption) ?_
    | split
    | dsimp only [id]
    | with_reducible refine Law.put ?_ ?_ ?_ ?_ ?_ ?_ ?_ ?_ ?_ ?_ ?_ ?_ ?_ ?_ ?_ ?_ ?_ ?_ ?_ ?_ ?_ ?_
    | with_reducible exact Or.inl rfl
    | exact Or.inr (partIn hP rfl)

theorem State.enterSteep_law {W P : Nat} {s0 s : State} (h : Law W P s0 s) (hW : 0x4000700800000e &&& W = 0x4000700800000e) (hP : 0x14030d &&& P = 0x14030d) :
    Law W P s0 (State.enterSteep s) := by
  unfold State.enterSteep
  try dsimp only
  repeat' first
    | with_reducible assumption
    | with_reducible exact Law.refl _ _ _
    | exact sub_trans rfl hW
    | exact sub_trans rfl hP
    | with_reducible refine State.setMode_law ?_ _ _  ?_ ?_
    | with_reducible refine State.kettleSteep_law ?_ _  ?_ ?_
    | dsimp only [id]
    | with_reducible refine Law.put ?_ ?_ ?_ ?_ ?_ ?_ ?_ ?_ ?_ ?_ ?_ ?_ ?_ ?_ ?_ ?_ ?_ ?_ ?_ ?_ ?_ ?_
    | with_reducible exact Or.inl rfl
    | exact Or.inr (partIn hP rfl)

theorem State.powerUp_law {W P : Nat} {s0 s : State} (h : Law W P s0 s) (i : Nat) (hW : 0x80000000000000000000000000000000000000000000000000000000 &&& W = 0x80000000000000000000000000000000000000000000000000000000) (hP : 0x1 &&& P = 0x1) :
    Law W P s0 (State.powerUp s i) := by
  unfold State.powerUp
  try dsimp only
  repeat' first
    | with_reducible assumption
    | with_reducible exact Law.refl _ _ _
    | exact sub_trans rfl hW
    | exact sub_trans rfl hP
    | with_reducible refine State.setFldBit_law ?_ _ _ _ ?_
    | exact InMask.mk 223 hW rfl rfl (Reg.DEV_SLC_STATE_has)
    | dsimp only [id]
    | with_reducible refine Law.put ?_ ?_ ?_ ?_ ?_ ?_ ?_ ?_ ?_ ?_ ?_ ?_ ?_ ?_ ?_ ?_ ?_ ?_ ?_ ?_ ?_ ?_
    | with_reducible exact Or.inl rfl
    | exact Or.inr (partIn hP rfl)

theorem State.enterProbe_law {W P : Nat} {s0 s : State} (h : Law W P s0 s) (hW : 0x80001c0000000000000118e0399000248000000f7be003ffbc0001fe &&& W = 0x80001c0000000000000118e0399000248000000f7be003ffbc0001fe) (hP : 0x17d79d &&& P = 0x17d79d) :
    Law W P s0 (State.enterProbe s) := by
  unfold State.enterProbe
  try dsimp only
  repeat' first
    | with_reducible assumption
    | with_reducible exact Law.refl _ _ _
    | exact sub_trans rfl hW
    | exact sub_trans rfl hP
    | with_reducible refine Law.ite (fun _ => ?_) (fun _ => ?_)
    | with_reducible refine State.setMode_law ?_ _ _  ?_ ?_
    | with_reducible refine State.setSlc_law ?_ _ _  ?_ ?_
    | with_reducible refine State.powerUp_law ?_ _  ?_ ?_
    | with_reducible refine State.kettleSteep_law ?_ _  ?_ ?_
    | with_reducible refine State.firstAttempt_law ?_ _  ?_ ?_
    | with_reducible refine State.retrain_law ?_ _  ?_ ?_
    | with_reducible refine Law.foldl _ ?_ (fun _ _ _ => ?_)
    | with_reducible refine Law.foldl_fst _ ?_ (fun _ _ _ _ => ?_)
    | split
    | dsimp only [id]

theorem State.imgBegin_law {W P : Nat} {s0 s : State} (h : Law W P s0 s) (source : Nat) (part : Bool) (hW : 0x1800000000000000000000000000000000000000000000000000000010000000 &&& W = 0x1800000000000000000000000000000000000000000000000000000010000000) (hP : 0x0 &&& P = 0x0) :
    Law W P s0 (State.imgBegin s source part) := by
  unfold State.imgBegin
  try dsimp only
  repeat' first
    | with_reducible assumption
    | with_reducible exact Law.refl _ _ _
    | exact sub_trans rfl hW
    | exact sub_trans rfl hP
    | with_reducible refine State.setFld_law ?_ _ _ ?_
    | with_reducible refine State.wr_law ?_ _ _ ?_
    | exact InMask.mk 28 hW rfl rfl (Reg.IMG_STATUS_has)
    | exact InMask.mk 251 hW rfl rfl (Reg.IMG_DETAIL_has)
    | exact InMask.mk 252 hW rfl rfl (Reg.IMG_DETAIL_OFS_has)
    | dsimp only [id]

theorem State.imgDetail_law {W P : Nat} {s0 s : State} (h : Law W P s0 s) (f : ImgFail) (hW : 0x1800000000000000000000000000000000000000000000000000000000000000 &&& W = 0x1800000000000000000000000000000000000000000000000000000000000000) (hP : 0x0 &&& P = 0x0) :
    Law W P s0 (State.imgDetail s f) := by
  unfold State.imgDetail
  try dsimp only
  repeat' first
    | with_reducible assumption
    | with_reducible exact Law.refl _ _ _
    | exact sub_trans rfl hW
    | exact sub_trans rfl hP
    | with_reducible refine State.wr_law ?_ _ _ ?_
    | exact InMask.mk 251 hW rfl rfl (Reg.IMG_DETAIL_has)
    | exact InMask.mk 252 hW rfl rfl (Reg.IMG_DETAIL_OFS_has)
    | dsimp only [id]

theorem State.imgEnd_law {W P : Nat} {s0 s : State} (h : Law W P s0 s) (st code : Nat) (hW : 0x10000002 &&& W = 0x10000002) (hP : 0x100004 &&& P = 0x100004) :
    Law W P s0 (State.imgEnd s st code) := by
  unfold State.imgEnd
  try dsimp only
  repeat' first
    | with_reducible assumption
    | with_reducible exact Law.refl _ _ _
    | exact sub_trans rfl hW
    | exact sub_trans rfl hP
    | with_reducible refine State.setFld_law ?_ _ _ ?_
    | with_reducible refine State.raiseCause_law ?_ _  ?_ ?_
    | exact InMask.mk 28 hW rfl rfl (Reg.IMG_STATUS_has)
    | dsimp only [id]

theorem State.loadFails_law {W P : Nat} {s0 s : State} (h : Law W P s0 s) (source : Nat) (f : ImgFail) (hW : 0x1800000000000000000000000000000000000000000000000000000010000002 &&& W = 0x1800000000000000000000000000000000000000000000000000000010000002) (hP : 0x100004 &&& P = 0x100004) :
    Law W P s0 (State.loadFails s source f) := by
  unfold State.loadFails
  try dsimp only
  repeat' first
    | with_reducible assumption
    | with_reducible exact Law.refl _ _ _
    | exact sub_trans rfl hW
    | exact sub_trans rfl hP
    | with_reducible refine Law.ite (fun _ => ?_) (fun _ => ?_)
    | with_reducible refine State.setFld_law ?_ _ _ ?_
    | with_reducible refine State.imgDetail_law ?_ _  ?_ ?_
    | with_reducible refine State.imgEnd_law ?_ _ _  ?_ ?_
    | exact InMask.mk 28 hW rfl rfl (Reg.IMG_STATUS_has)
    | split
    | dsimp only [id]

theorem State.loadImage_law {W P : Nat} {s0 s : State} (h : Law W P s0 s) (source fetched : Nat) (img : List Byte) (cal : CalFlash) (hW : 0x1fffffffffffffffffffffffffffffffffffffffffffffffffffffffffffffffffffffffffffffffffffffff &&& W = 0x1fffffffffffffffffffffffffffffffffffffffffffffffffffffffffffffffffffffffffffffffffffffff) (hP : 0x17fffd &&& P = 0x17fffd) :
    Law W P s0 (State.loadImage s source fetched img cal) := by
  unfold State.loadImage
  try dsimp only
  repeat' first
    | with_reducible assumption
    | with_reducible exact Law.refl _ _ _
    | exact sub_trans rfl hW
    | exact sub_trans rfl hP
    | with_reducible refine Law.ite (fun _ => ?_) (fun _ => ?_)
    | with_reducible refine State.setFld_law ?_ _ _ ?_
    | with_reducible refine State.wr_law ?_ _ _ ?_
    | with_reducible refine State.loadFails_law ?_ _ _  ?_ ?_
    | with_reducible refine State.imgEnd_law ?_ _ _  ?_ ?_
    | with_reducible refine State.recordErr_law ?_ _ _ ?_ ?_ ?_ ?_
    | with_reducible refine State.applyImage_law ?_ _ _  ?_ ?_
    | with_reducible refine State.enterProbe_law ?_   ?_ ?_
    | with_reducible refine State.enterSteep_law ?_   ?_ ?_
    | exact InMask.all hW rfl _
    | exact InMask.mk 28 hW rfl rfl (Reg.IMG_STATUS_has)
    | exact InMask.mk 251 hW rfl rfl (Reg.IMG_DETAIL_has)
    | exact InMask.mk 317 hW rfl rfl (Reg.ERR_STATUS_has_DEV)
    | exact InMask.mk 318 hW rfl rfl (Reg.ERR_OFS_has_DEV)
    | with_reducible refine Law.of_fst (by assumption) ?_
    | split
    | dsimp only [id]
    | with_reducible refine Law.put ?_ ?_ ?_ ?_ ?_ ?_ ?_ ?_ ?_ ?_ ?_ ?_ ?_ ?_ ?_ ?_ ?_ ?_ ?_ ?_ ?_ ?_
    | with_reducible exact Or.inl rfl
    | exact Or.inr (partIn hP rfl)

theorem State.discover_law {W P : Nat} {s0 s : State} (h : Law W P s0 s) (src : ImgSource) (hW : 0x2000000000000000000000000000000000000000000000000000000000000000 &&& W = 0x2000000000000000000000000000000000000000000000000000000000000000) (hP : 0x40010 &&& P = 0x40010) :
    Law W P s0 (State.discover s src) := by
  unfold State.discover
  try dsimp only
  repeat' first
    | with_reducible assumption
    | with_reducible exact Law.refl _ _ _
    | exact sub_trans rfl hW
    | exact sub_trans rfl hP
    | with_reducible refine Law.ite (fun _ => ?_) (fun _ => ?_)
    | with_reducible refine State.setFld_law ?_ _ _ ?_
    | with_reducible refine State.tookFree_law ?_   ?_ ?_
    | exact InMask.mk 253 hW rfl rfl (Reg.DEV_FLASH_INFO_has)
    | split
    | dsimp only [id]
    | with_reducible refine Law.put ?_ ?_ ?_ ?_ ?_ ?_ ?_ ?_ ?_ ?_ ?_ ?_ ?_ ?_ ?_ ?_ ?_ ?_ ?_ ?_ ?_ ?_
    | with_reducible exact Or.inl rfl
    | exact Or.inr (partIn hP rfl)

theorem execImageFetchComplete_law {W P : Nat} (s : State) (src : ImgSource) (img : List Byte) (cal : CalFlash) (hW : 0x1fffffffffffffffffffffffffffffffffffffffffffffffffffffffffffffffffffffffffffffffffffffff &&& W = 0x1fffffffffffffffffffffffffffffffffffffffffffffffffffffffffffffffffffffffffffffffffffffff) (hP : 0x17fffd &&& P = 0x17fffd) :
    OutLaw W P s (execImageFetchComplete src img cal s) := by
  unfold execImageFetchComplete
  try dsimp only
  repeat' first
    | with_reducible assumption
    | with_reducible exact OutLaw.fault _
    | with_reducible refine OutLaw.ite (fun _ => ?_) (fun _ => ?_)
    | with_reducible refine OutLaw.next ?_
    | with_reducible exact Law.refl _ _ _
    | exact sub_trans rfl hW
    | exact sub_trans rfl hP
    | with_reducible refine Law.ite (fun _ => ?_) (fun _ => ?_)
    | with_reducible refine State.discover_law ?_ _  ?_ ?_
    | with_reducible refine State.loadImage_law ?_ _ _ _ _  ?_ ?_
    | exact InMask.all hW rfl _
    | split
    | dsimp only [id]

theorem execLoaderWatchdogExpiry_law {W P : Nat} (s : State)  (hW : 0x180000000000000000000000000000000000000000000000000000005c00012e &&& W = 0x180000000000000000000000000000000000000000000000000000005c00012e) (hP : 0x10400d &&& P = 0x10400d) :
    OutLaw W P s (execLoaderWatchdogExpiry s) := by
  unfold execLoaderWatchdogExpiry
  try dsimp only
  repeat' first
    | with_reducible assumption
    | with_reducible exact OutLaw.fault _
    | with_reducible refine OutLaw.ite (fun _ => ?_) (fun _ => ?_)
    | with_reducible refine OutLaw.next ?_
    | with_reducible exact Law.refl _ _ _
    | exact sub_trans rfl hW
    | exact sub_trans rfl hP
    | with_reducible refine State.loadFails_law ?_ _ _  ?_ ?_
    | with_reducible refine State.watchdog_law ?_ _  ?_ ?_
    | with_reducible refine State.coveredFault_law ?_   ?_ ?_
    | with_reducible refine Law.of_fst (by assumption) ?_
    | split
    | dsimp only [id]

theorem execShadowCopy_law {W P : Nat} (s : State)  (hW : 0x0 &&& W = 0x0) (hP : 0x40 &&& P = 0x40) :
    OutLaw W P s (execShadowCopy s) := by
  unfold execShadowCopy
  try dsimp only
  repeat' first
    | with_reducible assumption
    | with_reducible exact OutLaw.fault _
    | with_reducible refine OutLaw.ite (fun _ => ?_) (fun _ => ?_)
    | with_reducible refine OutLaw.next ?_
    | with_reducible exact Law.refl _ _ _
    | exact sub_trans rfl hW
    | exact sub_trans rfl hP
    | with_reducible refine Law.ite (fun _ => ?_) (fun _ => ?_)
    | split
    | dsimp only [id]
    | with_reducible refine Law.put ?_ ?_ ?_ ?_ ?_ ?_ ?_ ?_ ?_ ?_ ?_ ?_ ?_ ?_ ?_ ?_ ?_ ?_ ?_ ?_ ?_ ?_
    | with_reducible exact Or.inl rfl
    | exact Or.inr (partIn hP rfl)

theorem State.imgFull_law {W P : Nat} {s0 s : State} (h : Law W P s0 s) (a : Acc) (rsv : Bool) (hE : InMask W (Reg.ERR_STATUS a.base)) (hO : InMask W (Reg.ERR_OFS a.base)) (hW : 0x1800000000000000000000000000000000000000000000000000000010000012 &&& W = 0x1800000000000000000000000000000000000000000000000000000010000012) (hP : 0x100004 &&& P = 0x100004) :
    Law W P s0 (State.imgFull s a rsv) := by
  unfold State.imgFull
  try dsimp only
  repeat' first
    | with_reducible assumption
    | with_reducible exact Law.refl _ _ _
    | exact sub_trans rfl hW
    | exact sub_trans rfl hP
    | exact hE
    | exact hO
    | with_reducible refine Law.ite (fun _ => ?_) (fun _ => ?_)
    | with_reducible refine State.guard_law ?_ _ _ _ ?_ ?_ (fun _ _ => ?_) ?_ ?_
    | with_reducible refine State.imgBegin_law ?_ _ _  ?_ ?_
    | with_reducible refine State.imgEnd_law ?_ _ _  ?_ ?_
    | split
    | dsimp only [id]

theorem execFullImageFetch_law {W P : Nat} (s : State)  (hW : 0x180000000000000001800000000000000000000000000000000000000000000000000000010000012 &&& W = 0x180000000000000001800000000000000000000000000000000000000000000000000000010000012) (hP : 0x100004 &&& P = 0x100004) :
    OutLaw W P s (execFullImageFetch s) := by
  unfold execFullImageFetch
  try dsimp only
  repeat' first
    | with_reducible assumption
    | with_reducible exact OutLaw.fault _
    | with_reducible refine OutLaw.ite (fun _ => ?_) (fun _ => ?_)
    | with_reducible refine OutLaw.next ?_
    | with_reducible exact Law.refl _ _ _
    | exact sub_trans rfl hW
    | exact sub_trans rfl hP
    | with_reducible refine State.imgFull_law ?_ _ _ ?_ ?_ ?_ ?_
    | exact InMask.mk 319 hW rfl rfl (Reg.ERR_STATUS_has_IMG)
    | exact InMask.mk 320 hW rfl rfl (Reg.ERR_OFS_has_IMG)
    | dsimp only [id]

theorem State.imgPartial_law {W P : Nat} {s0 s : State} (h : Law W P s0 s) (a : Acc) (i : Nat) (any rsv : Bool) (hE : InMask W (Reg.ERR_STATUS a.base)) (hO : InMask W (Reg.ERR_OFS a.base)) (hW : 0x1800000000000000000000000000000000000000000000000000000010000012 &&& W = 0x1800000000000000000000000000000000000000000000000000000010000012) (hP : 0x100044 &&& P = 0x100044) :
    Law W P s0 (State.imgPartial s a i any rsv) := by
  unfold State.imgPartial
  try dsimp only
  repeat' first
    | with_reducible assumption
    | with_reducible exact Law.refl _ _ _
    | exact sub_trans rfl hW
    | exact sub_trans rfl hP
    | exact hE
    | exact hO
    | with_reducible refine Law.ite (fun _ => ?_) (fun _ => ?_)
    | with_reducible refine State.setFld_law ?_ _ _ ?_
    | with_reducible refine State.guard_law ?_ _ _ _ ?_ ?_ (fun _ _ => ?_) ?_ ?_
    | with_reducible refine State.imgBegin_law ?_ _ _  ?_ ?_
    | with_reducible refine State.imgEnd_law ?_ _ _  ?_ ?_
    | exact InMask.mk 28 hW rfl rfl (Reg.IMG_STATUS_has)
    | split
    | dsimp only [id]
    | with_reducible refine Law.put ?_ ?_ ?_ ?_ ?_ ?_ ?_ ?_ ?_ ?_ ?_ ?_ ?_ ?_ ?_ ?_ ?_ ?_ ?_ ?_ ?_ ?_
    | with_reducible exact Or.inl rfl
    | exact Or.inr (partIn hP rfl)

theorem execPartialImageFetch_law {W P : Nat} (s : State) (i : Nat) (hW : 0x180000000000000001800000000000000000000000000000000000000000000000000000010000012 &&& W = 0x180000000000000001800000000000000000000000000000000000000000000000000000010000012) (hP : 0x100044 &&& P = 0x100044) :
    OutLaw W P s (execPartialImageFetch i s) := by
  unfold execPartialImageFetch
  try dsimp only
  repeat' first
    | with_reducible assumption
    | with_reducible exact OutLaw.fault _
    | with_reducible refine OutLaw.ite (fun _ => ?_) (fun _ => ?_)
    | with_reducible refine OutLaw.next ?_
    | with_reducible exact Law.refl _ _ _
    | exact sub_trans rfl hW
    | exact sub_trans rfl hP
    | with_reducible refine Law.ite (fun _ => ?_) (fun _ => ?_)
    | with_reducible refine State.imgPartial_law ?_ _ _ _ _ ?_ ?_ ?_ ?_
    | exact InMask.mk 319 hW rfl rfl (Reg.ERR_STATUS_has_IMG)
    | exact InMask.mk 320 hW rfl rfl (Reg.ERR_OFS_has_IMG)
    | split
    | dsimp only [id]

theorem State.imgAbort_law {W P : Nat} {s0 s : State} (h : Law W P s0 s) (a : Acc) (rsv : Bool) (hE : InMask W (Reg.ERR_STATUS a.base)) (hO : InMask W (Reg.ERR_OFS a.base)) (hW : 0x10000012 &&& W = 0x10000012) (hP : 0x100004 &&& P = 0x100004) :
    Law W P s0 (State.imgAbort s a rsv) := by
  unfold State.imgAbort
  try dsimp only
  repeat' first
    | with_reducible assumption
    | with_reducible exact Law.refl _ _ _
    | exact sub_trans rfl hW
    | exact sub_trans rfl hP
    | exact hE
    | exact hO
    | with_reducible refine State.guard_law ?_ _ _ _ ?_ ?_ (fun _ _ => ?_) ?_ ?_
    | with_reducible refine State.imgEnd_law ?_ _ _  ?_ ?_
    | dsimp only [id]

theorem execPartialImageAbort_law {W P : Nat} (s : State)  (hW : 0x180000000000000000000000000000000000000000000000000000000000000000000000010000012 &&& W = 0x180000000000000000000000000000000000000000000000000000000000000000000000010000012) (hP : 0x100004 &&& P = 0x100004) :
    OutLaw W P s (execPartialImageAbort s) := by
  unfold execPartialImageAbort
  try dsimp only
  repeat' first
    | with_reducible assumption
    | with_reducible exact OutLaw.fault _
    | with_reducible refine OutLaw.ite (fun _ => ?_) (fun _ => ?_)
    | with_reducible refine OutLaw.next ?_
    | with_reducible exact Law.refl _ _ _
    | exact sub_trans rfl hW
    | exact sub_trans rfl hP
    | with_reducible refine State.imgAbort_law ?_ _ _ ?_ ?_ ?_ ?_
    | exact InMask.mk 319 hW rfl rfl (Reg.ERR_STATUS_has_IMG)
    | exact InMask.mk 320 hW rfl rfl (Reg.ERR_OFS_has_IMG)
    | dsimp only [id]

theorem State.imgCmd_law {W P : Nat} {s0 s : State} (h : Law W P s0 s) (a : Acc) (op : Nat) (rsv : Bool) (hE : InMask W (Reg.ERR_STATUS a.base)) (hO : InMask W (Reg.ERR_OFS a.base)) (hW : 0x1800000000000000000000000000000000000000000000000000000010000012 &&& W = 0x1800000000000000000000000000000000000000000000000000000010000012) (hP : 0x140044 &&& P = 0x140044) :
    Law W P s0 (State.imgCmd s a op rsv) := by
  unfold State.imgCmd
  try dsimp only
  repeat' first
    | with_reducible assumption
    | with_reducible exact Law.refl _ _ _
    | exact sub_trans rfl hW
    | exact sub_trans rfl hP
    | exact hE
    | exact hO
    | with_reducible refine Law.ite (fun _ => ?_) (fun _ => ?_)
    | with_reducible refine State.imgFull_law ?_ _ _ ?_ ?_ ?_ ?_
    | with_reducible refine State.tookFree_law ?_   ?_ ?_
    | with_reducible refine State.imgPartial_law ?_ _ _ _ _ ?_ ?_ ?_ ?_
    | with_reducible refine State.imgAbort_law ?_ _ _ ?_ ?_ ?_ ?_
    | with_reducible refine State.guard_law ?_ _ _ _ ?_ ?_ (fun _ _ => ?_) ?_ ?_
    | split
    | dsimp only [id]

theorem execPartialImageFetched_law {W P : Nat} (s : State) (img : List Byte) (hW : 0x18000000800000000000000000000000000000000000000000000000300000c2 &&& W = 0x18000000800000000000000000000000000000000000000000000000300000c2) (hP : 0x1040c5 &&& P = 0x1040c5) :
    OutLaw W P s (execPartialImageFetched img s) := by
  unfold execPartialImageFetched
  try dsimp only
  repeat' first
    | with_reducible assumption
    | with_reducible exact OutLaw.fault _
    | with_reducible refine OutLaw.ite (fun _ => ?_) (fun _ => ?_)
    | with_reducible refine OutLaw.next ?_
    | with_reducible exact Law.refl _ _ _
    | exact sub_trans rfl hW
    | exact sub_trans rfl hP
    | with_reducible refine Law.ite (fun _ => ?_) (fun _ => ?_)
    | with_reducible refine State.setFld_law ?_ _ _ ?_
    | with_reducible refine State.imgDetail_law ?_ _  ?_ ?_
    | with_reducible refine State.imgEnd_law ?_ _ _  ?_ ?_
    | with_reducible refine State.setSlc_law ?_ _ _  ?_ ?_
    | exact InMask.mk 28 hW rfl rfl (Reg.IMG_STATUS_has)
    | with_reducible refine Law.of_fst (by assumption) ?_
    | split
    | dsimp only [id]
    | with_reducible refine Law.put ?_ ?_ ?_ ?_ ?_ ?_ ?_ ?_ ?_ ?_ ?_ ?_ ?_ ?_ ?_ ?_ ?_ ?_ ?_ ?_ ?_ ?_
    | with_reducible exact Or.inl rfl
    | exact Or.inr (partIn hP rfl)

theorem execSlicePipelineEmpty_law {W P : Nat} (s : State) (i : Nat) (hW : 0x40000000000000000000000000000018000000000000000000000000 &&& W = 0x40000000000000000000000000000018000000000000000000000000) (hP : 0x40c0 &&& P = 0x40c0) :
    OutLaw W P s (execSlicePipelineEmpty i s) := by
  unfold execSlicePipelineEmpty
  try dsimp only
  repeat' first
    | with_reducible assumption
    | with_reducible exact OutLaw.fault _
    | with_reducible refine OutLaw.ite (fun _ => ?_) (fun _ => ?_)
    | with_reducible refine OutLaw.next ?_
    | with_reducible exact Law.refl _ _ _
    | exact sub_trans rfl hW
    | exact sub_trans rfl hP
    | with_reducible refine Law.ite (fun _ => ?_) (fun _ => ?_)
    | with_reducible refine State.carve_law ?_ _ _ _  ?_ ?_
    | with_reducible refine Law.of_fst (by assumption) ?_
    | split
    | dsimp only [id]
    | with_reducible refine Law.put ?_ ?_ ?_ ?_ ?_ ?_ ?_ ?_ ?_ ?_ ?_ ?_ ?_ ?_ ?_ ?_ ?_ ?_ ?_ ?_ ?_ ?_
    | with_reducible exact Or.inl rfl
    | exact Or.inr (partIn hP rfl)

theorem State.settle_law {W P : Nat} {s0 s : State} (h : Law W P s0 s) (hW : 0x800010e &&& W = 0x800010e) (hP : 0x10080c &&& P = 0x10080c) :
    Law W P s0 (State.settle s) := by
  unfold State.settle
  try dsimp only
  repeat' first
    | with_reducible assumption
    | with_reducible exact Law.refl _ _ _
    | exact sub_trans rfl hW
    | exact sub_trans rfl hP
    | with_reducible refine Law.ite (fun _ => ?_) (fun _ => ?_)
    | with_reducible refine State.setMode_law ?_ _ _  ?_ ?_
    | with_reducible refine State.ringsStart_law ?_   ?_ ?_
    | split
    | dsimp only [id]

theorem State.dropPart_law {W P : Nat} {s0 s : State} (h : Law W P s0 s) (hW : 0x0 &&& W = 0x0) (hP : 0x40 &&& P = 0x40) :
    Law W P s0 (State.dropPart s) := by
  unfold State.dropPart
  try dsimp only
  repeat' first
    | with_reducible assumption
    | with_reducible exact Law.refl _ _ _
    | exact sub_trans rfl hW
    | exact sub_trans rfl hP
    | dsimp only [id]
    | with_reducible refine Law.put ?_ ?_ ?_ ?_ ?_ ?_ ?_ ?_ ?_ ?_ ?_ ?_ ?_ ?_ ?_ ?_ ?_ ?_ ?_ ?_ ?_ ?_
    | with_reducible exact Or.inl rfl
    | exact Or.inr (partIn hP rfl)

theorem State.replaceHeld_law {W P : Nat} {s0 s : State} (h : Law W P s0 s) (i : Nat) (hW : 0x0 &&& W = 0x0) (hP : 0x40 &&& P = 0x40) :
    Law W P s0 (State.replaceHeld s i) := by
  unfold State.replaceHeld
  try dsimp only
  repeat' first
    | with_reducible assumption
    | with_reducible exact Law.refl _ _ _
    | exact sub_trans rfl hW
    | exact sub_trans rfl hP
    | dsimp only [id]
    | with_reducible refine Law.put ?_ ?_ ?_ ?_ ?_ ?_ ?_ ?_ ?_ ?_ ?_ ?_ ?_ ?_ ?_ ?_ ?_ ?_ ?_ ?_ ?_ ?_
    | with_reducible exact Or.inl rfl
    | exact Or.inr (partIn hP rfl)

theorem State.commitPart_law {W P : Nat} {s0 s : State} (h : Law W P s0 s) (i : Nat) (hW : 0x1fffffffffffffffffffffffffffffffffffffffffffffffffffffffffffffffffffffffffffffffffffffff &&& W = 0x1fffffffffffffffffffffffffffffffffffffffffffffffffffffffffffffffffffffffffffffffffffffff) (hP : 0xc0 &&& P = 0xc0) :
    Law W P s0 (State.commitPart s i) := by
  unfold State.commitPart
  repeat' first
    | with_reducible assumption
    | extract_lets
    | with_reducible exact Law.refl _ _ _
    | exact sub_trans rfl hW
    | exact sub_trans rfl hP
    | with_reducible refine State.wr_law ?_ _ _ ?_
    | with_reducible refine State.commitN_law ?_ _ _  ?_ ?_
    | with_reducible refine State.slcRegs_law ?_ _ _ _  ?_ ?_
    | with_reducible refine State.scanTouch_law ?_ _ _ _ _  ?_ ?_
    | with_reducible refine State.replaceHeld_law ?_ _  ?_ ?_
    | with_reducible refine State.dropPart_law ?_   ?_ ?_
    | exact InMask.all hW rfl _
    | exact InMask.mk 247 hW rfl rfl (Reg.IMG_SLC_SERIAL_LO_has _)
    | exact InMask.mk 248 hW rfl rfl (Reg.IMG_SLC_SERIAL_HI_has _)

theorem execPartialImageApplied_law {W P : Nat} (s : State) (i : Nat) (hW : 0x1fffffffffffffffffffffffffffffffffffffffffffffffffffffffffffffffffffffffffffffffffffffff &&& W = 0x1fffffffffffffffffffffffffffffffffffffffffffffffffffffffffffffffffffffffffffffffffffffff) (hP : 0x1048cd &&& P = 0x1048cd) :
    OutLaw W P s (execPartialImageApplied i s) := by
  unfold execPartialImageApplied
  try dsimp only
  repeat' first
    | with_reducible assumption
    | with_reducible exact OutLaw.fault _
    | with_reducible refine OutLaw.ite (fun _ => ?_) (fun _ => ?_)
    | with_reducible refine OutLaw.next ?_
    | with_reducible exact Law.refl _ _ _
    | exact sub_trans rfl hW
    | exact sub_trans rfl hP
    | with_reducible refine Law.ite (fun _ => ?_) (fun _ => ?_)
    | with_reducible refine State.setSlc_law ?_ _ _  ?_ ?_
    | with_reducible refine State.dropPart_law ?_   ?_ ?_
    | with_reducible refine State.imgDetail_law ?_ _  ?_ ?_
    | with_reducible refine State.imgEnd_law ?_ _ _  ?_ ?_
    | with_reducible refine State.settle_law ?_   ?_ ?_
    | with_reducible refine State.commitPart_law ?_ _  ?_ ?_
    | exact InMask.all hW rfl _
    | split
    | dsimp only [id]

end Sys2Proof.Machine
end

