-- ==== Sys2Proof/Laws/LawModes.lean ====
section
/-! SUPPORT. The law of every operation of Machine/Modes.lean: what it may change (Laws/Law.lean). -/

set_option linter.all false

namespace Sys2Proof.Machine

theorem State.blank_law {W P : Nat} {s0 s : State} (h : Law W P s0 s) (m : Nat) (hW : 0x1fffffffffffffffffffffffffffffffffffffffffffffffffffffffffffffffffffffffffffffffffffffff &&& W = 0x1fffffffffffffffffffffffffffffffffffffffffffffffffffffffffffffffffffffffffffffffffffffff) (hP : 0x1fffff &&& P = 0x1fffff) :
    Law W P s0 (State.blank s m) := by
  unfold State.blank
  dsimp only
  refine State.pinsMoved_law ?_ _ (sub_trans rfl hW) (sub_trans rfl hP)
  refine h.trans ⟨fun a ha => absurd (InMask.all hW rfl a) ha, fun p hp => absurd ?_ hp, rfl, rfl, fun hc => ?_⟩
  · cases p <;> exact partIn hP rfl
  · exact State.wr_canonical _ _ (State.wr_canonical _ _ (State.wr_canonical _ _ (SMap.filter_canonical _ hc)))

theorem State.loadStart_law {W P : Nat} {s0 s : State} (h : Law W P s0 s) (hW : 0x18000000 &&& W = 0x18000000) (hP : 0x0 &&& P = 0x0) :
    Law W P s0 (State.loadStart s) := by
  unfold State.loadStart
  try dsimp only
  repeat' first
    | with_reducible assumption
    | with_reducible exact Law.refl _ _ _
    | exact sub_trans rfl hW
    | exact sub_trans rfl hP
    | with_reducible refine Law.ite (fun _ => ?_) (fun _ => ?_)
    | with_reducible refine State.setFld_law ?_ _ _ ?_
    | exact InMask.mk 27 hW rfl rfl (Reg.DEV_MODE_has)
    | exact InMask.mk 28 hW rfl rfl (Reg.IMG_STATUS_has)
    | split
    | dsimp only [id]

theorem execPgAonFall_law {W P : Nat} (s : State)  (hW : 0x1fffffffffffffffffffffffffffffffffffffffffffffffffffffffffffffffffffffffffffffffffffffff &&& W = 0x1fffffffffffffffffffffffffffffffffffffffffffffffffffffffffffffffffffffffffffffffffffffff) (hP : 0x1fffff &&& P = 0x1fffff) :
    OutLaw W P s (execPgAonFall s) := by
  unfold execPgAonFall
  try dsimp only
  repeat' first
    | with_reducible assumption
    | with_reducible exact OutLaw.fault _
    | with_reducible refine OutLaw.ite (fun _ => ?_) (fun _ => ?_)
    | with_reducible refine OutLaw.next ?_
    | with_reducible exact Law.refl _ _ _
    | exact sub_trans rfl hW
    | exact sub_trans rfl hP
    | with_reducible refine State.blank_law ?_ _  ?_ ?_
    | exact InMask.all hW rfl _
    | dsimp only [id]

theorem execPgCoreMemFall_law {W P : Nat} (s : State) (core mem : Bool) (hW : 0x1fffffffffffffffffffffffffffffffffffffffffffffffffffffffffffffffffffffffffffffffffffffff &&& W = 0x1fffffffffffffffffffffffffffffffffffffffffffffffffffffffffffffffffffffffffffffffffffffff) (hP : 0x1fffff &&& P = 0x1fffff) :
    OutLaw W P s (execPgCoreMemFall core mem s) := by
  unfold execPgCoreMemFall
  try dsimp only
  repeat' first
    | with_reducible assumption
    | with_reducible exact OutLaw.fault _
    | with_reducible refine OutLaw.ite (fun _ => ?_) (fun _ => ?_)
    | with_reducible refine OutLaw.next ?_
    | with_reducible exact Law.refl _ _ _
    | exact sub_trans rfl hW
    | exact sub_trans rfl hP
    | with_reducible refine Law.ite (fun _ => ?_) (fun _ => ?_)
    | with_reducible refine State.blank_law ?_ _  ?_ ?_
    | exact InMask.all hW rfl _
    | split
    | dsimp only [id]
    | with_reducible refine Law.put ?_ ?_ ?_ ?_ ?_ ?_ ?_ ?_ ?_ ?_ ?_ ?_ ?_ ?_ ?_ ?_ ?_ ?_ ?_ ?_ ?_ ?_
    | with_reducible exact Or.inl rfl
    | exact Or.inr (partIn hP rfl)

theorem execResetNAssert_law {W P : Nat} (s : State)  (hW : 0x1fffffffffffffffffffffffffffffffffffffffffffffffffffffffffffffffffffffffffffffffffffffff &&& W = 0x1fffffffffffffffffffffffffffffffffffffffffffffffffffffffffffffffffffffffffffffffffffffff) (hP : 0x1fffff &&& P = 0x1fffff) :
    OutLaw W P s (execResetNAssert s) := by
  unfold execResetNAssert
  try dsimp only
  repeat' first
    | with_reducible assumption
    | with_reducible exact OutLaw.fault _
    | with_reducible refine OutLaw.ite (fun _ => ?_) (fun _ => ?_)
    | with_reducible refine OutLaw.next ?_
    | with_reducible exact Law.refl _ _ _
    | exact sub_trans rfl hW
    | exact sub_trans rfl hP
    | with_reducible refine State.wr_law ?_ _ _ ?_
    | with_reducible refine State.blank_law ?_ _  ?_ ?_
    | exact InMask.all hW rfl _
    | exact InMask.mk 254 hW rfl rfl (Reg.DEV_RST_CAUSE_has)
    | dsimp only [id]
    | with_reducible refine Law.put ?_ ?_ ?_ ?_ ?_ ?_ ?_ ?_ ?_ ?_ ?_ ?_ ?_ ?_ ?_ ?_ ?_ ?_ ?_ ?_ ?_ ?_
    | with_reducible exact Or.inl rfl
    | exact Or.inr (partIn hP rfl)

theorem execPowerUpStart_law {W P : Nat} (s : State) (bootSel : BitVec 2) (core mem : Bool) (hW : 0x18000000 &&& W = 0x18000000) (hP : 0x1 &&& P = 0x1) :
    OutLaw W P s (execPowerUpStart bootSel core mem s) := by
  unfold execPowerUpStart
  try dsimp only
  repeat' first
    | with_reducible assumption
    | with_reducible exact OutLaw.fault _
    | with_reducible refine OutLaw.ite (fun _ => ?_) (fun _ => ?_)
    | with_reducible refine OutLaw.next ?_
    | with_reducible exact Law.refl _ _ _
    | exact sub_trans rfl hW
    | exact sub_trans rfl hP
    | with_reducible refine Law.ite (fun _ => ?_) (fun _ => ?_)
    | with_reducible refine State.setFld_law ?_ _ _ ?_
    | with_reducible refine State.loadStart_law ?_   ?_ ?_
    | exact InMask.mk 27 hW rfl rfl (Reg.DEV_MODE_has)
    | split
    | dsimp only [id]
    | with_reducible refine Law.put ?_ ?_ ?_ ?_ ?_ ?_ ?_ ?_ ?_ ?_ ?_ ?_ ?_ ?_ ?_ ?_ ?_ ?_ ?_ ?_ ?_ ?_
    | with_reducible exact Or.inl rfl
    | exact Or.inr (partIn hP rfl)

theorem State.takeCopies_law {W P : Nat} {s0 s : State} (h : Law W P s0 s) (hW : 0x0 &&& W = 0x0) (hP : 0x200 &&& P = 0x200) :
    Law W P s0 (State.takeCopies s) := by
  unfold State.takeCopies
  try dsimp only
  repeat' first
    | with_reducible assumption
    | with_reducible exact Law.refl _ _ _
    | exact sub_trans rfl hW
    | exact sub_trans rfl hP
    | with_reducible refine Law.ite (fun _ => ?_) (fun _ => ?_)
    | with_reducible refine Law.foldl _ ?_ (fun _ _ _ => ?_)
    | with_reducible refine Law.foldl_fst _ ?_ (fun _ _ _ _ => ?_)
    | with_reducible refine Law.of_fst (by assumption) ?_
    | split
    | dsimp only [id]
    | with_reducible refine Law.put ?_ ?_ ?_ ?_ ?_ ?_ ?_ ?_ ?_ ?_ ?_ ?_ ?_ ?_ ?_ ?_ ?_ ?_ ?_ ?_ ?_ ?_
    | with_reducible exact Or.inl rfl
    | exact Or.inr (partIn hP rfl)

theorem State.aonEdge_law {W P : Nat} {s0 s : State} (h : Law W P s0 s) (hW : 0x1c00012e &&& W = 0x1c00012e) (hP : 0x10420d &&& P = 0x10420d) :
    Law W P s0 (State.aonEdge s) := by
  unfold State.aonEdge
  try dsimp only
  repeat' first
    | with_reducible assumption
    | with_reducible exact Law.refl _ _ _
    | exact sub_trans rfl hW
    | exact sub_trans rfl hP
    | with_reducible refine Law.ite (fun _ => ?_) (fun _ => ?_)
    | with_reducible refine State.clkAbsent_law ?_   ?_ ?_
    | with_reducible refine Law.of_fst (by assumption) ?_
    | split
    | dsimp only [id]
    | with_reducible refine Law.put ?_ ?_ ?_ ?_ ?_ ?_ ?_ ?_ ?_ ?_ ?_ ?_ ?_ ?_ ?_ ?_ ?_ ?_ ?_ ?_ ?_ ?_
    | with_reducible exact Or.inl rfl
    | exact Or.inr (partIn hP rfl)

theorem State.clkAbsent_law {W P : Nat} {s0 s : State} (h : Law W P s0 s) (hW : 0x1c00012e &&& W = 0x1c00012e) (hP : 0x10420d &&& P = 0x10420d) :
    Law W P s0 (State.clkAbsent s) := by
  unfold State.clkAbsent
  try dsimp only
  repeat' first
    | with_reducible assumption
    | with_reducible exact Law.refl _ _ _
    | exact sub_trans rfl hW
    | exact sub_trans rfl hP
    | with_reducible refine Law.ite (fun _ => ?_) (fun _ => ?_)
    | with_reducible refine State.fatalHeld_law ?_ _  ?_ ?_
    | split
    | dsimp only [id]
    | with_reducible refine Law.put ?_ ?_ ?_ ?_ ?_ ?_ ?_ ?_ ?_ ?_ ?_ ?_ ?_ ?_ ?_ ?_ ?_ ?_ ?_ ?_ ?_ ?_
    | with_reducible exact Or.inl rfl
    | exact Or.inr (partIn hP rfl)

theorem execAonClkAbsent_law {W P : Nat} (s : State)  (hW : 0x1c00012e &&& W = 0x1c00012e) (hP : 0x10420d &&& P = 0x10420d) :
    OutLaw W P s (execAonClkAbsent s) := by
  unfold execAonClkAbsent
  try dsimp only
  repeat' first
    | with_reducible assumption
    | with_reducible exact OutLaw.fault _
    | with_reducible refine OutLaw.ite (fun _ => ?_) (fun _ => ?_)
    | with_reducible refine OutLaw.next ?_
    | with_reducible exact Law.refl _ _ _
    | exact sub_trans rfl hW
    | exact sub_trans rfl hP
    | with_reducible refine State.clkAbsent_law ?_   ?_ ?_
    | dsimp only [id]

theorem execAonClkReturn_law {W P : Nat} (s : State)  (hW : 0x0 &&& W = 0x0) (hP : 0x201 &&& P = 0x201) :
    OutLaw W P s (execAonClkReturn s) := by
  unfold execAonClkReturn
  try dsimp only
  repeat' first
    | with_reducible assumption
    | with_reducible exact OutLaw.fault _
    | with_reducible refine OutLaw.ite (fun _ => ?_) (fun _ => ?_)
    | with_reducible refine OutLaw.next ?_
    | with_reducible exact Law.refl _ _ _
    | exact sub_trans rfl hW
    | exact sub_trans rfl hP
    | with_reducible refine State.condEnds_law ?_ _  ?_ ?_
    | dsimp only [id]
    | with_reducible refine Law.put ?_ ?_ ?_ ?_ ?_ ?_ ?_ ?_ ?_ ?_ ?_ ?_ ?_ ?_ ?_ ?_ ?_ ?_ ?_ ?_ ?_ ?_
    | with_reducible exact Or.inl rfl
    | exact Or.inr (partIn hP rfl)

theorem State.aonRate_law {W P : Nat} {s0 s : State} (h : Law W P s0 s) (n d : Nat) (hW : 0x0 &&& W = 0x0) (hP : 0x40200 &&& P = 0x40200) :
    Law W P s0 (State.aonRate s n d) := by
  unfold State.aonRate
  try dsimp only
  repeat' first
    | with_reducible assumption
    | with_reducible exact Law.refl _ _ _
    | exact sub_trans rfl hW
    | exact sub_trans rfl hP
    | with_reducible refine Law.ite (fun _ => ?_) (fun _ => ?_)
    | with_reducible refine State.tookFree_law ?_   ?_ ?_
    | with_reducible refine Law.foldl _ ?_ (fun _ _ _ => ?_)
    | with_reducible refine Law.foldl_fst _ ?_ (fun _ _ _ _ => ?_)
    | split
    | dsimp only [id]
    | with_reducible refine Law.put ?_ ?_ ?_ ?_ ?_ ?_ ?_ ?_ ?_ ?_ ?_ ?_ ?_ ?_ ?_ ?_ ?_ ?_ ?_ ?_ ?_ ?_
    | with_reducible exact Or.inl rfl
    | exact Or.inr (partIn hP rfl)

theorem execAonRateMeasure_law {W P : Nat} (s : State) (n : Nat) (hW : 0x1c00012e &&& W = 0x1c00012e) (hP : 0x14420d &&& P = 0x14420d) :
    OutLaw W P s (execAonRateMeasure n s) := by
  unfold execAonRateMeasure
  try dsimp only
  repeat' first
    | with_reducible assumption
    | with_reducible exact OutLaw.fault _
    | with_reducible refine OutLaw.ite (fun _ => ?_) (fun _ => ?_)
    | with_reducible refine OutLaw.next ?_
    | with_reducible exact Law.refl _ _ _
    | exact sub_trans rfl hW
    | exact sub_trans rfl hP
    | with_reducible refine Law.ite (fun _ => ?_) (fun _ => ?_)
    | with_reducible refine State.aonRate_law ?_ _ _  ?_ ?_
    | with_reducible refine State.winBegin_law ?_   ?_ ?_
    | with_reducible refine State.clkAbsent_law ?_   ?_ ?_
    | with_reducible refine Law.foldl _ ?_ (fun _ _ _ => ?_)
    | with_reducible refine Law.foldl_fst _ ?_ (fun _ _ _ _ => ?_)
    | split
    | dsimp only [id]

theorem State.handTime_law {W P : Nat} {s0 s : State} (h : Law W P s0 s) (phi : Nat) (hW : 0x1c00012e &&& W = 0x1c00012e) (hP : 0x14430d &&& P = 0x14430d) :
    Law W P s0 (State.handTime s phi) := by
  unfold State.handTime
  try dsimp only
  repeat' first
    | with_reducible assumption
    | with_reducible exact Law.refl _ _ _
    | exact sub_trans rfl hW
    | exact sub_trans rfl hP
    | with_reducible refine Law.ite (fun _ => ?_) (fun _ => ?_)
    | with_reducible refine State.clkAbsent_law ?_   ?_ ?_
    | with_reducible refine State.tookFree_law ?_   ?_ ?_
    | with_reducible refine Law.of_fst (by assumption) ?_
    | split
    | dsimp only [id]
    | with_reducible refine Law.put ?_ ?_ ?_ ?_ ?_ ?_ ?_ ?_ ?_ ?_ ?_ ?_ ?_ ?_ ?_ ?_ ?_ ?_ ?_ ?_ ?_ ?_
    | with_reducible exact Or.inl rfl
    | exact Or.inr (partIn hP rfl)

theorem State.setSlcStep_law {W P : Nat} {s0 s : State} (h : Law W P s0 s) (i k : Nat) (hW : 0x0 &&& W = 0x0) (hP : 0x1 &&& P = 0x1) :
    Law W P s0 (State.setSlcStep s i k) := by
  unfold State.setSlcStep
  try dsimp only
  repeat' first
    | with_reducible assumption
    | with_reducible exact Law.refl _ _ _
    | exact sub_trans rfl hW
    | exact sub_trans rfl hP
    | dsimp only [id]
    | with_reducible refine Law.put ?_ ?_ ?_ ?_ ?_ ?_ ?_ ?_ ?_ ?_ ?_ ?_ ?_ ?_ ?_ ?_ ?_ ?_ ?_ ?_ ?_ ?_
    | with_reducible exact Or.inl rfl
    | exact Or.inr (partIn hP rfl)

theorem State.darkNow_law {W P : Nat} {s0 s : State} (h : Law W P s0 s) (i : Nat) (hW : 0x80000c0000000000000118e0399000248000050f7ba003ffbc0001fe &&& W = 0x80000c0000000000000118e0399000248000050f7ba003ffbc0001fe) (hP : 0x17d59d &&& P = 0x17d59d) :
    Law W P s0 (State.darkNow s i) := by
  unfold State.darkNow
  try dsimp only
  repeat' first
    | with_reducible assumption
    | with_reducible exact Law.refl _ _ _
    | exact sub_trans rfl hW
    | exact sub_trans rfl hP
    | with_reducible refine Law.ite (fun _ => ?_) (fun _ => ?_)
    | with_reducible refine State.setFldBit_law ?_ _ _ _ ?_
    | with_reducible refine State.setFld_law ?_ _ _ ?_
    | with_reducible refine State.setSlcStep_law ?_ _ _  ?_ ?_
    | with_reducible refine State.setSlc_law ?_ _ _  ?_ ?_
    | with_reducible refine State.portOff_law ?_ _  ?_ ?_
    | with_reducible refine State.spareFree_law ?_ _  ?_ ?_
    | exact InMask.mk 72 hW rfl rfl (Reg.PH_CH_STATUS_has _)
    | exact InMask.mk 223 hW rfl rfl (Reg.DEV_SLC_STATE_has)
    | with_reducible refine Law.foldl _ ?_ (fun _ _ _ => ?_)
    | with_reducible refine Law.foldl_fst _ ?_ (fun _ _ _ _ => ?_)
    | split
    | dsimp only [id]
    | with_reducible refine Law.put ?_ ?_ ?_ ?_ ?_ ?_ ?_ ?_ ?_ ?_ ?_ ?_ ?_ ?_ ?_ ?_ ?_ ?_ ?_ ?_ ?_ ?_
    | with_reducible exact Or.inl rfl
    | exact Or.inr (partIn hP rfl)

theorem State.drainBegin_law {W P : Nat} {s0 s : State} (h : Law W P s0 s) (i : Nat) (hW : 0x0 &&& W = 0x0) (hP : 0x4001 &&& P = 0x4001) :
    Law W P s0 (State.drainBegin s i) := by
  unfold State.drainBegin
  try dsimp only
  repeat' first
    | with_reducible assumption
    | with_reducible exact Law.refl _ _ _
    | exact sub_trans rfl hW
    | exact sub_trans rfl hP
    | with_reducible refine State.setSlcStep_law ?_ _ _  ?_ ?_
    | with_reducible refine State.learnHalt_law ?_ _  ?_ ?_
    | dsimp only [id]

theorem State.moveTo_law {W P : Nat} {s0 s : State} (h : Law W P s0 s) (m : Nat) (hW : 0x80000c0000000000000118e0399000248000050f7ba003ffbc0001fe &&& W = 0x80000c0000000000000118e0399000248000050f7ba003ffbc0001fe) (hP : 0x17dd9d &&& P = 0x17dd9d) :
    Law W P s0 (State.moveTo s m) := by
  unfold State.moveTo
  try dsimp only
  repeat' first
    | with_reducible assumption
    | with_reducible exact Law.refl _ _ _
    | exact sub_trans rfl hW
    | exact sub_trans rfl hP
    | with_reducible refine Law.ite (fun _ => ?_) (fun _ => ?_)
    | with_reducible refine State.powerUp_law ?_ _  ?_ ?_
    | with_reducible refine State.darkNow_law ?_ _  ?_ ?_
    | with_reducible refine State.drainBegin_law ?_ _  ?_ ?_
    | with_reducible refine State.beginTrans_law ?_ _  ?_ ?_
    | with_reducible refine State.settle_law ?_   ?_ ?_
    | with_reducible refine Law.foldl _ ?_ (fun _ _ _ => ?_)
    | with_reducible refine Law.foldl_fst _ ?_ (fun _ _ _ _ => ?_)
    | split
    | dsimp only [id]

theorem execSliceDrainDone_law {W P : Nat} (s : State) (i : Nat) (hW : 0x80000c0000000000000118e0399000248000050f7ba003ffbc0001fe &&& W = 0x80000c0000000000000118e0399000248000050f7ba003ffbc0001fe) (hP : 0x17dd9d &&& P = 0x17dd9d) :
    OutLaw W P s (execSliceDrainDone i s) := by
  unfold execSliceDrainDone
  try dsimp only
  repeat' first
    | with_reducible assumption
    | with_reducible exact OutLaw.fault _
    | with_reducible refine OutLaw.ite (fun _ => ?_) (fun _ => ?_)
    | with_reducible refine OutLaw.next ?_
    | with_reducible exact Law.refl _ _ _
    | exact sub_trans rfl hW
    | exact sub_trans rfl hP
    | with_reducible refine Law.ite (fun _ => ?_) (fun _ => ?_)
    | with_reducible refine State.darkNow_law ?_ _  ?_ ?_
    | with_reducible refine State.settle_law ?_   ?_ ?_
    | split
    | dsimp only [id]

theorem execSliceDrainLimitExpiry_law {W P : Nat} (s : State) (i : Nat) (hW : 0x80000c0000000000000119e0399000248000050f7ba003ffbc0001fe &&& W = 0x80000c0000000000000119e0399000248000050f7ba003ffbc0001fe) (hP : 0x17dd9d &&& P = 0x17dd9d) :
    OutLaw W P s (execSliceDrainLimitExpiry i s) := by
  unfold execSliceDrainLimitExpiry
  try dsimp only
  repeat' first
    | with_reducible assumption
    | with_reducible exact OutLaw.fault _
    | with_reducible refine OutLaw.ite (fun _ => ?_) (fun _ => ?_)
    | with_reducible refine OutLaw.next ?_
    | with_reducible exact Law.refl _ _ _
    | exact sub_trans rfl hW
    | exact sub_trans rfl hP
    | (intros; rename_i he; (try dsimp only at he); split at he <;> simp only [Option.some.injEq, reduceCtorEq] at he; subst he)
    | with_reducible refine Law.ite (fun _ => ?_) (fun _ => ?_)
    | with_reducible refine State.purge_law ?_ _ _ ?_ ?_ ?_
    | with_reducible refine State.darkNow_law ?_ _  ?_ ?_
    | with_reducible refine State.settle_law ?_   ?_ ?_
    | exact InMask.mk 136 hW rfl rfl (Reg.PRT_FAB_CNT_has_6 _)
    | split
    | dsimp only [id]

theorem State.portsTrain_law {W P : Nat} {s0 s : State} (h : Law W P s0 s) (i : Nat) (hW : 0x1c0000000000000118e0399000248000000f7ba003ffbc00013e &&& W = 0x1c0000000000000118e0399000248000000f7ba003ffbc00013e) (hP : 0x17d59d &&& P = 0x17d59d) :
    Law W P s0 (State.portsTrain s i) := by
  unfold State.portsTrain
  try dsimp only
  repeat' first
    | with_reducible assumption
    | with_reducible exact Law.refl _ _ _
    | exact sub_trans rfl hW
    | exact sub_trans rfl hP
    | with_reducible refine Law.ite (fun _ => ?_) (fun _ => ?_)
    | with_reducible refine State.firstAttempt_law ?_ _  ?_ ?_
    | with_reducible refine State.retrain_law ?_ _  ?_ ?_
    | with_reducible refine Law.foldl _ ?_ (fun _ _ _ => ?_)
    | with_reducible refine Law.foldl_fst _ ?_ (fun _ _ _ _ => ?_)
    | split
    | dsimp only [id]

theorem State.refill_law {W P : Nat} {s0 s : State} (h : Law W P s0 s) (i st : Nat) (hW : 0x1fffffffffffffffffffffffffffffffffffffffffffffffffffffffffffffffffffffffffffffffffffffff &&& W = 0x1fffffffffffffffffffffffffffffffffffffffffffffffffffffffffffffffffffffffffffffffffffffff) (hP : 0x10408d &&& P = 0x10408d) :
    Law W P s0 (State.refill s i st) := by
  unfold State.refill
  try dsimp only
  repeat' first
    | with_reducible assumption
    | with_reducible exact Law.refl _ _ _
    | exact sub_trans rfl hW
    | exact sub_trans rfl hP
    | with_reducible refine Law.ite (fun _ => ?_) (fun _ => ?_)
    | with_reducible refine State.setSlc_law ?_ _ _  ?_ ?_
    | with_reducible refine State.watchdog_law ?_ _  ?_ ?_
    | with_reducible refine State.reapply_law ?_ _  ?_ ?_
    | exact InMask.all hW rfl _
    | with_reducible refine Law.of_fst (by assumption) ?_
    | split
    | dsimp only [id]

theorem execSlicePowerUpDone_law {W P : Nat} (s : State) (i : Nat) (cal : CalFlash) (hW : 0x1fffffffffffffffffffffffffffffffffffffffffffffffffffffffffffffffffffffffffffffffffffffff &&& W = 0x1fffffffffffffffffffffffffffffffffffffffffffffffffffffffffffffffffffffffffffffffffffffff) (hP : 0x17fd9d &&& P = 0x17fd9d) :
    OutLaw W P s (execSlicePowerUpDone i cal s) := by
  unfold execSlicePowerUpDone
  try dsimp only
  repeat' first
    | with_reducible assumption
    | with_reducible exact OutLaw.fault _
    | with_reducible refine OutLaw.ite (fun _ => ?_) (fun _ => ?_)
    | with_reducible refine OutLaw.next ?_
    | with_reducible exact Law.refl _ _ _
    | exact sub_trans rfl hW
    | exact sub_trans rfl hP
    | with_reducible refine Law.ite (fun _ => ?_) (fun _ => ?_)
    | with_reducible refine State.refill_law ?_ _ _  ?_ ?_
    | with_reducible refine State.readCal_law ?_ _ _ _  ?_ ?_
    | with_reducible refine State.setSlcStep_law ?_ _ _  ?_ ?_
    | with_reducible refine State.gclCatch_law ?_ _  ?_ ?_
    | with_reducible refine State.portsTrain_law ?_ _  ?_ ?_
    | with_reducible refine State.settle_law ?_   ?_ ?_
    | exact InMask.all hW rfl _
    | with_reducible refine Law.foldl _ ?_ (fun _ _ _ => ?_)
    | with_reducible refine Law.foldl_fst _ ?_ (fun _ _ _ _ => ?_)
    | split
    | dsimp only [id]

theorem State.sliceReset_law {W P : Nat} {s0 s : State} (h : Law W P s0 s) (a : Acc) (mask key : Nat) (rsv : Bool) (hE : InMask W (Reg.ERR_STATUS a.base)) (hO : InMask W (Reg.ERR_OFS a.base)) (hW : 0x800000000000000000000000000000000000000000000000600000de &&& W = 0x800000000000000000000000000000000000000000000000600000de) (hP : 0x10408d &&& P = 0x10408d) :
    Law W P s0 (State.sliceReset s a mask key rsv) := by
  unfold State.sliceReset
  try dsimp only
  repeat' first
    | with_reducible assumption
    | with_reducible exact Law.refl _ _ _
    | exact sub_trans rfl hW
    | exact sub_trans rfl hP
    | exact hE
    | exact hO
    | with_reducible refine Law.ite (fun _ => ?_) (fun _ => ?_)
    | with_reducible refine State.guard_law ?_ _ _ _ ?_ ?_ (fun _ _ => ?_) ?_ ?_
    | with_reducible refine State.setSlc_law ?_ _ _  ?_ ?_
    | with_reducible refine State.watchdog_law ?_ _  ?_ ?_
    | split
    | dsimp only [id]

theorem execSliceReset_law {W P : Nat} (s : State) (mask : BitVec 4) (key : BitVec 16) (hW : 0x600000000000000000000000800000000000000000000000000000000000000000000000600000de &&& W = 0x600000000000000000000000800000000000000000000000000000000000000000000000600000de) (hP : 0x10408d &&& P = 0x10408d) :
    OutLaw W P s (execSliceReset mask key s) := by
  unfold execSliceReset
  try dsimp only
  repeat' first
    | with_reducible assumption
    | with_reducible exact OutLaw.fault _
    | with_reducible refine OutLaw.ite (fun _ => ?_) (fun _ => ?_)
    | with_reducible refine OutLaw.next ?_
    | with_reducible exact Law.refl _ _ _
    | exact sub_trans rfl hW
    | exact sub_trans rfl hP
    | with_reducible refine Law.ite (fun _ => ?_) (fun _ => ?_)
    | with_reducible refine State.sliceReset_law ?_ _ _ _ _ ?_ ?_ ?_ ?_
    | exact InMask.mk 317 hW rfl rfl (Reg.ERR_STATUS_has_DEV)
    | exact InMask.mk 318 hW rfl rfl (Reg.ERR_OFS_has_DEV)
    | split
    | dsimp only [id]

theorem execSliceResetDone_law {W P : Nat} (s : State) (i : Nat) (hW : 0x1fffffffffffffffffffffffffffffffffffffffffffffffffffffffffffffffffffffffffffffffffffffff &&& W = 0x1fffffffffffffffffffffffffffffffffffffffffffffffffffffffffffffffffffffffffffffffffffffff) (hP : 0x10488d &&& P = 0x10488d) :
    OutLaw W P s (execSliceResetDone i s) := by
  unfold execSliceResetDone
  try dsimp only
  repeat' first
    | with_reducible assumption
    | with_reducible exact OutLaw.fault _
    | with_reducible refine OutLaw.ite (fun _ => ?_) (fun _ => ?_)
    | with_reducible refine OutLaw.next ?_
    | with_reducible exact Law.refl _ _ _
    | exact sub_trans rfl hW
    | exact sub_trans rfl hP
    | with_reducible refine Law.ite (fun _ => ?_) (fun _ => ?_)
    | with_reducible refine State.refill_law ?_ _ _  ?_ ?_
    | with_reducible refine State.settle_law ?_   ?_ ?_
    | exact InMask.all hW rfl _
    | split
    | dsimp only [id]

theorem State.putRegs_law {W P : Nat} {s0 s : State} (h : Law W P s0 s) (l : List (Nat × Reg64)) (hW : 0x1fffffffffffffffffffffffffffffffffffffffffffffffffffffffffffffffffffffffffffffffffffffff &&& W = 0x1fffffffffffffffffffffffffffffffffffffffffffffffffffffffffffffffffffffffffffffffffffffff) (hP : 0x0 &&& P = 0x0) :
    Law W P s0 (State.putRegs s l) := by
  unfold State.putRegs
  try dsimp only
  repeat' first
    | with_reducible assumption
    | with_reducible exact Law.refl _ _ _
    | exact sub_trans rfl hW
    | exact sub_trans rfl hP
    | with_reducible refine State.wr_law ?_ _ _ ?_
    | exact InMask.all hW rfl _
    | with_reducible refine Law.foldl _ ?_ (fun _ _ _ => ?_)
    | with_reducible refine Law.foldl_fst _ ?_ (fun _ _ _ _ => ?_)
    | with_reducible refine Law.of_fst (by assumption) ?_
    | dsimp only [id]

theorem State.coreReset_law {W P : Nat} {s0 s : State} (h : Law W P s0 s) (m : Nat) (hW : 0x1fffffffffffffffffffffffffffffffffffffffffffffffffffffffffffffffffffffffffffffffffffffff &&& W = 0x1fffffffffffffffffffffffffffffffffffffffffffffffffffffffffffffffffffffffffffffffffffffff) (hP : 0x1fffff &&& P = 0x1fffff) :
    Law W P s0 (State.coreReset s m) := by
  unfold State.coreReset
  try dsimp only
  repeat' first
    | with_reducible assumption
    | with_reducible exact Law.refl _ _ _
    | exact sub_trans rfl hW
    | exact sub_trans rfl hP
    | with_reducible refine State.setFld_law ?_ _ _ ?_
    | with_reducible refine State.blank_law ?_ _  ?_ ?_
    | with_reducible refine State.putRegs_law ?_ _  ?_ ?_
    | exact InMask.all hW rfl _
    | exact InMask.mk 31 hW rfl rfl (Reg.KT_CH_STATUS_has)
    | dsimp only [id]
    | with_reducible refine Law.put ?_ ?_ ?_ ?_ ?_ ?_ ?_ ?_ ?_ ?_ ?_ ?_ ?_ ?_ ?_ ?_ ?_ ?_ ?_ ?_ ?_ ?_
    | with_reducible exact Or.inl rfl
    | exact Or.inr (partIn hP rfl)

theorem State.softGo_law {W P : Nat} {s0 s : State} (h : Law W P s0 s) (hW : 0x1fffffffffffffffffffffffffffffffffffffffffffffffffffffffffffffffffffffffffffffffffffffff &&& W = 0x1fffffffffffffffffffffffffffffffffffffffffffffffffffffffffffffffffffffffffffffffffffffff) (hP : 0x1fffff &&& P = 0x1fffff) :
    Law W P s0 (State.softGo s) := by
  unfold State.softGo
  repeat' first
    | with_reducible assumption
    | extract_lets
    | with_reducible exact Law.refl _ _ _
    | exact sub_trans rfl hW
    | exact sub_trans rfl hP
    | with_reducible refine Law.ite (fun _ => ?_) (fun _ => ?_)
    | with_reducible refine State.setFld_law ?_ _ _ ?_
    | with_reducible refine State.flag_law ?_ _ ?_
    | with_reducible refine State.takeCopies_law ?_   ?_ ?_
    | with_reducible refine State.vaneRetain_law ?_   ?_ ?_
    | with_reducible refine State.cutRings_law ?_ _  ?_ ?_
    | with_reducible refine State.coreReset_law ?_ _  ?_ ?_
    | with_reducible refine State.loadStart_law ?_   ?_ ?_
    | with_reducible refine State.putRegs_law ?_ _  ?_ ?_
    | with_reducible refine State.fatal_law ?_ _  ?_ ?_
    | exact InMask.all hW rfl _
    | exact InMask.mk 8 hW rfl rfl (Reg.CD_RING_STATUS_has _)
    | exact InMask.mk 254 hW rfl rfl (Reg.DEV_RST_CAUSE_has)
    | with_reducible refine Law.foldl _ ?_ (fun _ _ _ => ?_)
    | with_reducible refine Law.foldl_fst _ ?_ (fun _ _ _ _ => ?_)
    | split
    | with_reducible refine Law.put ?_ ?_ ?_ ?_ ?_ ?_ ?_ ?_ ?_ ?_ ?_ ?_ ?_ ?_ ?_ ?_ ?_ ?_ ?_ ?_ ?_ ?_
    | with_reducible exact Or.inl rfl
    | exact Or.inr (partIn hP rfl)

theorem State.softReset_law {W P : Nat} {s0 s : State} (h : Law W P s0 s) (a : Acc) (key : Nat) (rsv : Bool) (hE : InMask W (Reg.ERR_STATUS a.base)) (hO : InMask W (Reg.ERR_OFS a.base)) (hW : 0x1fffffffffffffffffffffffffffffffffffffffffffffffffffffffffffffffffffffffffffffffffffffff &&& W = 0x1fffffffffffffffffffffffffffffffffffffffffffffffffffffffffffffffffffffffffffffffffffffff) (hP : 0x1fffff &&& P = 0x1fffff) :
    Law W P s0 (State.softReset s a key rsv) := by
  unfold State.softReset
  try dsimp only
  repeat' first
    | with_reducible assumption
    | with_reducible exact Law.refl _ _ _
    | exact sub_trans rfl hW
    | exact sub_trans rfl hP
    | exact hE
    | exact hO
    | with_reducible refine Law.ite (fun _ => ?_) (fun _ => ?_)
    | with_reducible refine State.guard_law ?_ _ _ _ ?_ ?_ (fun _ _ => ?_) ?_ ?_
    | with_reducible refine State.softGo_law ?_   ?_ ?_
    | exact InMask.all hW rfl _
    | split
    | dsimp only [id]

theorem execSoftDeviceReset_law {W P : Nat} (s : State) (key : BitVec 16) (hW : 0x1fffffffffffffffffffffffffffffffffffffffffffffffffffffffffffffffffffffffffffffffffffffff &&& W = 0x1fffffffffffffffffffffffffffffffffffffffffffffffffffffffffffffffffffffffffffffffffffffff) (hP : 0x1fffff &&& P = 0x1fffff) :
    OutLaw W P s (execSoftDeviceReset key s) := by
  unfold execSoftDeviceReset
  try dsimp only
  repeat' first
    | with_reducible assumption
    | with_reducible exact OutLaw.fault _
    | with_reducible refine OutLaw.ite (fun _ => ?_) (fun _ => ?_)
    | with_reducible refine OutLaw.next ?_
    | with_reducible exact Law.refl _ _ _
    | exact sub_trans rfl hW
    | exact sub_trans rfl hP
    | with_reducible refine State.softReset_law ?_ _ _ _ ?_ ?_ ?_ ?_
    | exact InMask.all hW rfl _
    | exact InMask.mk 317 hW rfl rfl (Reg.ERR_STATUS_has_DEV)
    | exact InMask.mk 318 hW rfl rfl (Reg.ERR_OFS_has_DEV)
    | dsimp only [id]

theorem State.devReset_law {W P : Nat} {s0 s : State} (h : Law W P s0 s) (a : Acc) (v : Nat) (rsv : Bool) (hE : InMask W (Reg.ERR_STATUS a.base)) (hO : InMask W (Reg.ERR_OFS a.base)) (hW : 0x1fffffffffffffffffffffffffffffffffffffffffffffffffffffffffffffffffffffffffffffffffffffff &&& W = 0x1fffffffffffffffffffffffffffffffffffffffffffffffffffffffffffffffffffffffffffffffffffffff) (hP : 0x1fffff &&& P = 0x1fffff) :
    Law W P s0 (State.devReset s a v rsv) := by
  unfold State.devReset
  try dsimp only
  repeat' first
    | with_reducible assumption
    | with_reducible exact Law.refl _ _ _
    | exact sub_trans rfl hW
    | exact sub_trans rfl hP
    | exact hE
    | exact hO
    | with_reducible refine Law.ite (fun _ => ?_) (fun _ => ?_)
    | with_reducible refine State.softReset_law ?_ _ _ _ ?_ ?_ ?_ ?_
    | with_reducible refine State.guard_law ?_ _ _ _ ?_ ?_ (fun _ _ => ?_) ?_ ?_
    | with_reducible refine State.sliceReset_law ?_ _ _ _ _ ?_ ?_ ?_ ?_
    | exact InMask.all hW rfl _
    | split
    | dsimp only [id]

theorem execAonHandover_law {W P : Nat} (s : State) (phi : Nat) (hW : 0x400000000000000000000000000000000000000000000000000000001c00012e &&& W = 0x400000000000000000000000000000000000000000000000000000001c00012e) (hP : 0x14430d &&& P = 0x14430d) :
    OutLaw W P s (execAonHandover phi s) := by
  unfold execAonHandover
  try dsimp only
  repeat' first
    | with_reducible assumption
    | with_reducible exact OutLaw.fault _
    | with_reducible refine OutLaw.ite (fun _ => ?_) (fun _ => ?_)
    | with_reducible refine OutLaw.next ?_
    | with_reducible exact Law.refl _ _ _
    | exact sub_trans rfl hW
    | exact sub_trans rfl hP
    | with_reducible refine Law.ite (fun _ => ?_) (fun _ => ?_)
    | with_reducible refine State.flag_law ?_ _ ?_
    | with_reducible refine State.handTime_law ?_ _  ?_ ?_
    | with_reducible refine State.loadStart_law ?_   ?_ ?_
    | exact InMask.mk 254 hW rfl rfl (Reg.DEV_RST_CAUSE_has)
    | split
    | dsimp only [id]
    | with_reducible refine Law.put ?_ ?_ ?_ ?_ ?_ ?_ ?_ ?_ ?_ ?_ ?_ ?_ ?_ ?_ ?_ ?_ ?_ ?_ ?_ ?_ ?_ ?_
    | with_reducible exact Or.inl rfl
    | exact Or.inr (partIn hP rfl)

theorem State.runReq_law {W P : Nat} {s0 s : State} (h : Law W P s0 s) (m : Nat) (hW : 0x80000c0000000000000118e0399000248000050f7ba003ffbc0001fe &&& W = 0x80000c0000000000000118e0399000248000050f7ba003ffbc0001fe) (hP : 0x17dd9d &&& P = 0x17dd9d) :
    Law W P s0 (State.runReq s m) := by
  unfold State.runReq
  try dsimp only
  repeat' first
    | with_reducible assumption
    | with_reducible exact Law.refl _ _ _
    | exact sub_trans rfl hW
    | exact sub_trans rfl hP
    | with_reducible refine Law.ite (fun _ => ?_) (fun _ => ?_)
    | with_reducible refine State.setFld_law ?_ _ _ ?_
    | with_reducible refine State.powerUp_law ?_ _  ?_ ?_
    | with_reducible refine State.darkNow_law ?_ _  ?_ ?_
    | with_reducible refine State.moveTo_law ?_ _  ?_ ?_
    | exact InMask.mk 27 hW rfl rfl (Reg.DEV_MODE_has)
    | with_reducible refine Law.foldl _ ?_ (fun _ _ _ => ?_)
    | with_reducible refine Law.foldl_fst _ ?_ (fun _ _ _ _ => ?_)
    | split
    | dsimp only [id]

theorem State.lullReq_law {W P : Nat} {s0 s : State} (h : Law W P s0 s) (hW : 0x8000000 &&& W = 0x8000000) (hP : 0x1 &&& P = 0x1) :
    Law W P s0 (State.lullReq s) := by
  unfold State.lullReq
  try dsimp only
  repeat' first
    | with_reducible assumption
    | with_reducible exact Law.refl _ _ _
    | exact sub_trans rfl hW
    | exact sub_trans rfl hP
    | with_reducible refine State.beginTrans_law ?_ _  ?_ ?_
    | dsimp only [id]
    | with_reducible refine Law.put ?_ ?_ ?_ ?_ ?_ ?_ ?_ ?_ ?_ ?_ ?_ ?_ ?_ ?_ ?_ ?_ ?_ ?_ ?_ ?_ ?_ ?_
    | with_reducible exact Or.inl rfl
    | exact Or.inr (partIn hP rfl)

theorem State.calmReq_law {W P : Nat} {s0 s : State} (h : Law W P s0 s) (hW : 0x1c00012e &&& W = 0x1c00012e) (hP : 0x10400d &&& P = 0x10400d) :
    Law W P s0 (State.calmReq s) := by
  unfold State.calmReq
  try dsimp only
  repeat' first
    | with_reducible assumption
    | with_reducible exact Law.refl _ _ _
    | exact sub_trans rfl hW
    | exact sub_trans rfl hP
    | with_reducible refine Law.ite (fun _ => ?_) (fun _ => ?_)
    | with_reducible refine State.markFatal_law ?_ _  ?_ ?_
    | with_reducible refine State.enterCalm_law ?_   ?_ ?_
    | split
    | dsimp only [id]

theorem State.modeReq_law {W P : Nat} {s0 s : State} (h : Law W P s0 s) (a : Acc) (m : Nat) (rsv : Bool) (hE : InMask W (Reg.ERR_STATUS a.base)) (hO : InMask W (Reg.ERR_OFS a.base)) (hW : 0x80001c0000000000000118e0399000248000050f7be003ffbc0001fe &&& W = 0x80001c0000000000000118e0399000248000050f7be003ffbc0001fe) (hP : 0x17df9d &&& P = 0x17df9d) :
    Law W P s0 (State.modeReq s a m rsv) := by
  unfold State.modeReq
  try dsimp only
  repeat' first
    | with_reducible assumption
    | with_reducible exact Law.refl _ _ _
    | exact sub_trans rfl hW
    | exact sub_trans rfl hP
    | exact hE
    | exact hO
    | with_reducible refine Law.ite (fun _ => ?_) (fun _ => ?_)
    | with_reducible refine State.guard_law ?_ _ _ _ ?_ ?_ (fun _ _ => ?_) ?_ ?_
    | with_reducible refine State.lullReq_law ?_   ?_ ?_
    | with_reducible refine State.calmReq_law ?_   ?_ ?_
    | with_reducible refine State.enterProbe_law ?_   ?_ ?_
    | with_reducible refine State.runReq_law ?_ _  ?_ ?_
    | split
    | dsimp only [id]

theorem execModeReqLull_law {W P : Nat} (s : State)  (hW : 0x60000000000000000000000080001c0000000000000118e0399000248000050f7be003ffbc0001fe &&& W = 0x60000000000000000000000080001c0000000000000118e0399000248000050f7be003ffbc0001fe) (hP : 0x17df9d &&& P = 0x17df9d) :
    OutLaw W P s (execModeReqLull s) := by
  unfold execModeReqLull
  try dsimp only
  repeat' first
    | with_reducible assumption
    | with_reducible exact OutLaw.fault _
    | with_reducible refine OutLaw.ite (fun _ => ?_) (fun _ => ?_)
    | with_reducible refine OutLaw.next ?_
    | with_reducible exact Law.refl _ _ _
    | exact sub_trans rfl hW
    | exact sub_trans rfl hP
    | with_reducible refine State.modeReq_law ?_ _ _ _ ?_ ?_ ?_ ?_
    | exact InMask.mk 317 hW rfl rfl (Reg.ERR_STATUS_has_DEV)
    | exact InMask.mk 318 hW rfl rfl (Reg.ERR_OFS_has_DEV)
    | dsimp only [id]

theorem execModeReqBreeze_law {W P : Nat} (s : State)  (hW : 0x60000000000000000000000080001c0000000000000118e0399000248000050f7be003ffbc0001fe &&& W = 0x60000000000000000000000080001c0000000000000118e0399000248000050f7be003ffbc0001fe) (hP : 0x17df9d &&& P = 0x17df9d) :
    OutLaw W P s (execModeReqBreeze s) := by
  unfold execModeReqBreeze
  try dsimp only
  repeat' first
    | with_reducible assumption
    | with_reducible exact OutLaw.fault _
    | with_reducible refine OutLaw.ite (fun _ => ?_) (fun _ => ?_)
    | with_reducible refine OutLaw.next ?_
    | with_reducible exact Law.refl _ _ _
    | exact sub_trans rfl hW
    | exact sub_trans rfl hP
    | with_reducible refine State.modeReq_law ?_ _ _ _ ?_ ?_ ?_ ?_
    | exact InMask.mk 317 hW rfl rfl (Reg.ERR_STATUS_has_DEV)
    | exact InMask.mk 318 hW rfl rfl (Reg.ERR_OFS_has_DEV)
    | dsimp only [id]

theorem execModeReqGale_law {W P : Nat} (s : State)  (hW : 0x60000000000000000000000080001c0000000000000118e0399000248000050f7be003ffbc0001fe &&& W = 0x60000000000000000000000080001c0000000000000118e0399000248000050f7be003ffbc0001fe) (hP : 0x17df9d &&& P = 0x17df9d) :
    OutLaw W P s (execModeReqGale s) := by
  unfold execModeReqGale
  try dsimp only
  repeat' first
    | with_reducible assumption
    | with_reducible exact OutLaw.fault _
    | with_reducible refine OutLaw.ite (fun _ => ?_) (fun _ => ?_)
    | with_reducible refine OutLaw.next ?_
    | with_reducible exact Law.refl _ _ _
    | exact sub_trans rfl hW
    | exact sub_trans rfl hP
    | with_reducible refine State.modeReq_law ?_ _ _ _ ?_ ?_ ?_ ?_
    | exact InMask.mk 317 hW rfl rfl (Reg.ERR_STATUS_has_DEV)
    | exact InMask.mk 318 hW rfl rfl (Reg.ERR_OFS_has_DEV)
    | dsimp only [id]

theorem execModeReqCalm_law {W P : Nat} (s : State)  (hW : 0x60000000000000000000000080001c0000000000000118e0399000248000050f7be003ffbc0001fe &&& W = 0x60000000000000000000000080001c0000000000000118e0399000248000050f7be003ffbc0001fe) (hP : 0x17df9d &&& P = 0x17df9d) :
    OutLaw W P s (execModeReqCalm s) := by
  unfold execModeReqCalm
  try dsimp only
  repeat' first
    | with_reducible assumption
    | with_reducible exact OutLaw.fault _
    | with_reducible refine OutLaw.ite (fun _ => ?_) (fun _ => ?_)
    | with_reducible refine OutLaw.next ?_
    | with_reducible exact Law.refl _ _ _
    | exact sub_trans rfl hW
    | exact sub_trans rfl hP
    | with_reducible refine State.modeReq_law ?_ _ _ _ ?_ ?_ ?_ ?_
    | exact InMask.mk 317 hW rfl rfl (Reg.ERR_STATUS_has_DEV)
    | exact InMask.mk 318 hW rfl rfl (Reg.ERR_OFS_has_DEV)
    | dsimp only [id]

theorem execModeReqProbe_law {W P : Nat} (s : State)  (hW : 0x60000000000000000000000080001c0000000000000118e0399000248000050f7be003ffbc0001fe &&& W = 0x60000000000000000000000080001c0000000000000118e0399000248000050f7be003ffbc0001fe) (hP : 0x17df9d &&& P = 0x17df9d) :
    OutLaw W P s (execModeReqProbe s) := by
  unfold execModeReqProbe
  try dsimp only
  repeat' first
    | with_reducible assumption
    | with_reducible exact OutLaw.fault _
    | with_reducible refine OutLaw.ite (fun _ => ?_) (fun _ => ?_)
    | with_reducible refine OutLaw.next ?_
    | with_reducible exact Law.refl _ _ _
    | exact sub_trans rfl hW
    | exact sub_trans rfl hP
    | with_reducible refine State.modeReq_law ?_ _ _ _ ?_ ?_ ?_ ?_
    | exact InMask.mk 317 hW rfl rfl (Reg.ERR_STATUS_has_DEV)
    | exact InMask.mk 318 hW rfl rfl (Reg.ERR_OFS_has_DEV)
    | dsimp only [id]

theorem State.dropHeld_law {W P : Nat} {s0 s : State} (h : Law W P s0 s) (mark : Nat) (hW : 0x119003990000000000000002000000400001e &&& W = 0x119003990000000000000002000000400001e) (hP : 0x10811c &&& P = 0x10811c) :
    Law W P s0 (State.dropHeld s mark) := by
  unfold State.dropHeld
  try dsimp only
  repeat' first
    | with_reducible assumption
    | with_reducible exact Law.refl _ _ _
    | exact sub_trans rfl hW
    | exact sub_trans rfl hP
    | (intros; rename_i he; (try dsimp only at he); split at he <;> simp only [Option.some.injEq, reduceCtorEq] at he; subst he)
    | with_reducible refine Law.ite (fun _ => ?_) (fun _ => ?_)
    | with_reducible refine State.purge_law ?_ _ _ ?_ ?_ ?_
    | exact InMask.mk 136 hW rfl rfl (Reg.PRT_FAB_CNT_has_6 _)
    | split
    | dsimp only [id]

theorem State.calmDropEnd_law {W P : Nat} {s0 s : State} (h : Law W P s0 s) (hW : 0x0 &&& W = 0x0) (hP : 0x1 &&& P = 0x1) :
    Law W P s0 (State.calmDropEnd s) := by
  unfold State.calmDropEnd
  try dsimp only
  repeat' first
    | with_reducible assumption
    | with_reducible exact Law.refl _ _ _
    | exact sub_trans rfl hW
    | exact sub_trans rfl hP
    | dsimp only [id]
    | with_reducible refine Law.put ?_ ?_ ?_ ?_ ?_ ?_ ?_ ?_ ?_ ?_ ?_ ?_ ?_ ?_ ?_ ?_ ?_ ?_ ?_ ?_ ?_ ?_
    | with_reducible exact Or.inl rfl
    | exact Or.inr (partIn hP rfl)

theorem execCalmDropDone_law {W P : Nat} (s : State)  (hW : 0x119003990000000000000002000000400001e &&& W = 0x119003990000000000000002000000400001e) (hP : 0x10811d &&& P = 0x10811d) :
    OutLaw W P s (execCalmDropDone s) := by
  unfold execCalmDropDone
  try dsimp only
  repeat' first
    | with_reducible assumption
    | with_reducible exact OutLaw.fault _
    | with_reducible refine OutLaw.ite (fun _ => ?_) (fun _ => ?_)
    | with_reducible refine OutLaw.next ?_
    | with_reducible exact Law.refl _ _ _
    | exact sub_trans rfl hW
    | exact sub_trans rfl hP
    | with_reducible refine Law.ite (fun _ => ?_) (fun _ => ?_)
    | with_reducible refine State.dropHeld_law ?_ _  ?_ ?_
    | with_reducible refine State.calmDropEnd_law ?_   ?_ ?_
    | split
    | dsimp only [id]

theorem execCorePllLoss_law {W P : Nat} (s : State)  (hW : 0x1c00012e &&& W = 0x1c00012e) (hP : 0x10400d &&& P = 0x10400d) :
    OutLaw W P s (execCorePllLoss s) := by
  unfold execCorePllLoss
  try dsimp only
  repeat' first
    | with_reducible assumption
    | with_reducible exact OutLaw.fault _
    | with_reducible refine OutLaw.ite (fun _ => ?_) (fun _ => ?_)
    | with_reducible refine OutLaw.next ?_
    | with_reducible exact Law.refl _ _ _
    | exact sub_trans rfl hW
    | exact sub_trans rfl hP
    | with_reducible refine Law.ite (fun _ => ?_) (fun _ => ?_)
    | with_reducible refine State.fatal_law ?_ _  ?_ ?_
    | split
    | dsimp only [id]

theorem execSteepPllsLocked_law {W P : Nat} (s : State)  (hW : 0x1c0000000000000118e0399000248000001f7fa003ffbc00013e &&& W = 0x1c0000000000000118e0399000248000001f7fa003ffbc00013e) (hP : 0x17d59d &&& P = 0x17d59d) :
    OutLaw W P s (execSteepPllsLocked s) := by
  unfold execSteepPllsLocked
  try dsimp only
  repeat' first
    | with_reducible assumption
    | with_reducible exact OutLaw.fault _
    | with_reducible refine OutLaw.ite (fun _ => ?_) (fun _ => ?_)
    | with_reducible refine OutLaw.next ?_
    | with_reducible exact Law.refl _ _ _
    | exact sub_trans rfl hW
    | exact sub_trans rfl hP
    | with_reducible refine Law.ite (fun _ => ?_) (fun _ => ?_)
    | with_reducible refine State.vaneStart_law ?_   ?_ ?_
    | with_reducible refine State.firstAttempt_law ?_ _  ?_ ?_
    | with_reducible refine State.retrain_law ?_ _  ?_ ?_
    | with_reducible refine Law.foldl _ ?_ (fun _ _ _ => ?_)
    | with_reducible refine Law.foldl_fst _ ?_ (fun _ _ _ _ => ?_)
    | split
    | dsimp only [id]
    | with_reducible refine Law.put ?_ ?_ ?_ ?_ ?_ ?_ ?_ ?_ ?_ ?_ ?_ ?_ ?_ ?_ ?_ ?_ ?_ ?_ ?_ ?_ ?_ ?_
    | with_reducible exact Or.inl rfl
    | exact Or.inr (partIn hP rfl)

theorem execAcquisitionLimitExpiry_law {W P : Nat} (s : State)  (hW : 0x0 &&& W = 0x0) (hP : 0x1 &&& P = 0x1) :
    OutLaw W P s (execAcquisitionLimitExpiry s) := by
  unfold execAcquisitionLimitExpiry
  try dsimp only
  repeat' first
    | with_reducible assumption
    | with_reducible exact OutLaw.fault _
    | with_reducible refine OutLaw.ite (fun _ => ?_) (fun _ => ?_)
    | with_reducible refine OutLaw.next ?_
    | with_reducible exact Law.refl _ _ _
    | exact sub_trans rfl hW
    | exact sub_trans rfl hP
    | with_reducible refine Law.ite (fun _ => ?_) (fun _ => ?_)
    | split
    | dsimp only [id]
    | with_reducible refine Law.put ?_ ?_ ?_ ?_ ?_ ?_ ?_ ?_ ?_ ?_ ?_ ?_ ?_ ?_ ?_ ?_ ?_ ?_ ?_ ?_ ?_ ?_
    | with_reducible exact Or.inl rfl
    | exact Or.inr (partIn hP rfl)

theorem execSteepExit_law {W P : Nat} (s : State)  (hW : 0x800000000000000000000000000000000000000000000000280001ce &&& W = 0x800000000000000000000000000000000000000000000000280001ce) (hP : 0x10488d &&& P = 0x10488d) :
    OutLaw W P s (execSteepExit s) := by
  unfold execSteepExit
  try dsimp only
  repeat' first
    | with_reducible assumption
    | with_reducible exact OutLaw.fault _
    | with_reducible refine OutLaw.ite (fun _ => ?_) (fun _ => ?_)
    | with_reducible refine OutLaw.next ?_
    | with_reducible exact Law.refl _ _ _
    | exact sub_trans rfl hW
    | exact sub_trans rfl hP
    | with_reducible refine Law.ite (fun _ => ?_) (fun _ => ?_)
    | with_reducible refine State.setSlc_law ?_ _ _  ?_ ?_
    | with_reducible refine State.setMode_law ?_ _ _  ?_ ?_
    | with_reducible refine State.ringsStart_law ?_   ?_ ?_
    | with_reducible refine Law.foldl _ ?_ (fun _ _ _ => ?_)
    | with_reducible refine Law.foldl_fst _ ?_ (fun _ _ _ _ => ?_)
    | split
    | dsimp only [id]

theorem execLullDrainDone_law {W P : Nat} (s : State)  (hW : 0x11900399000000000000000200000043fff1e &&& W = 0x11900399000000000000000200000043fff1e) (hP : 0x108b9d &&& P = 0x108b9d) :
    OutLaw W P s (execLullDrainDone s) := by
  unfold execLullDrainDone
  try dsimp only
  repeat' first
    | with_reducible assumption
    | with_reducible exact OutLaw.fault _
    | with_reducible refine OutLaw.ite (fun _ => ?_) (fun _ => ?_)
    | with_reducible refine OutLaw.next ?_
    | with_reducible exact Law.refl _ _ _
    | exact sub_trans rfl hW
    | exact sub_trans rfl hP
    | with_reducible refine Law.ite (fun _ => ?_) (fun _ => ?_)
    | with_reducible refine State.dropHeld_law ?_ _  ?_ ?_
    | with_reducible refine State.cutRings_law ?_ _  ?_ ?_
    | with_reducible refine State.vaneRetain_law ?_   ?_ ?_
    | split
    | dsimp only [id]
    | with_reducible refine Law.put ?_ ?_ ?_ ?_ ?_ ?_ ?_ ?_ ?_ ?_ ?_ ?_ ?_ ?_ ?_ ?_ ?_ ?_ ?_ ?_ ?_ ?_
    | with_reducible exact Or.inl rfl
    | exact Or.inr (partIn hP rfl)

theorem execLullCommit_law {W P : Nat} (s : State)  (hW : 0x0 &&& W = 0x0) (hP : 0x201 &&& P = 0x201) :
    OutLaw W P s (execLullCommit s) := by
  unfold execLullCommit
  try dsimp only
  repeat' first
    | with_reducible assumption
    | with_reducible exact OutLaw.fault _
    | with_reducible refine OutLaw.ite (fun _ => ?_) (fun _ => ?_)
    | with_reducible refine OutLaw.next ?_
    | with_reducible exact Law.refl _ _ _
    | exact sub_trans rfl hW
    | exact sub_trans rfl hP
    | with_reducible refine Law.ite (fun _ => ?_) (fun _ => ?_)
    | with_reducible refine State.takeCopies_law ?_   ?_ ?_
    | split
    | dsimp only [id]
    | with_reducible refine Law.put ?_ ?_ ?_ ?_ ?_ ?_ ?_ ?_ ?_ ?_ ?_ ?_ ?_ ?_ ?_ ?_ ?_ ?_ ?_ ?_ ?_ ?_
    | with_reducible exact Or.inl rfl
    | exact Or.inr (partIn hP rfl)

theorem execLullShutdownDone_law {W P : Nat} (s : State)  (hW : 0x1fffffffffffffffffffffffffffffffffffffffffffffffffffffffffffffffffffffffffffffffffffffff &&& W = 0x1fffffffffffffffffffffffffffffffffffffffffffffffffffffffffffffffffffffffffffffffffffffff) (hP : 0x1fffff &&& P = 0x1fffff) :
    OutLaw W P s (execLullShutdownDone s) := by
  unfold execLullShutdownDone
  try dsimp only
  repeat' first
    | with_reducible assumption
    | with_reducible exact OutLaw.fault _
    | with_reducible refine OutLaw.ite (fun _ => ?_) (fun _ => ?_)
    | with_reducible refine OutLaw.next ?_
    | with_reducible exact Law.refl _ _ _
    | exact sub_trans rfl hW
    | exact sub_trans rfl hP
    | with_reducible refine Law.ite (fun _ => ?_) (fun _ => ?_)
    | with_reducible refine State.flag_law ?_ _ ?_
    | with_reducible refine State.coreReset_law ?_ _  ?_ ?_
    | exact InMask.all hW rfl _
    | exact InMask.mk 5 hW rfl rfl (Reg.DEV_FATAL_has)
    | split
    | dsimp only [id]
    | with_reducible refine Law.put ?_ ?_ ?_ ?_ ?_ ?_ ?_ ?_ ?_ ?_ ?_ ?_ ?_ ?_ ?_ ?_ ?_ ?_ ?_ ?_ ?_ ?_
    | with_reducible exact Or.inl rfl
    | exact Or.inr (partIn hP rfl)

theorem execWakeEvent_law {W P : Nat} (s : State) (lanes : BitVec 8) (evts : BitVec 4) (wakeIn supply : Bool) (hW : 0x800000000000000000000000000000000000000000000000000000000000000000000800000e &&& W = 0x800000000000000000000000000000000000000000000000000000000000000000000800000e) (hP : 0x10000d &&& P = 0x10000d) :
    OutLaw W P s (execWakeEvent lanes evts wakeIn supply s) := by
  unfold execWakeEvent
  try dsimp only
  repeat' first
    | with_reducible assumption
    | with_reducible exact OutLaw.fault _
    | with_reducible refine OutLaw.ite (fun _ => ?_) (fun _ => ?_)
    | with_reducible refine OutLaw.next ?_
    | with_reducible exact Law.refl _ _ _
    | exact sub_trans rfl hW
    | exact sub_trans rfl hP
    | with_reducible refine Law.ite (fun _ => ?_) (fun _ => ?_)
    | with_reducible refine State.flagBits_law ?_ _ _ ?_
    | with_reducible refine State.setMode_law ?_ _ _  ?_ ?_
    | exact InMask.mk 303 hW rfl rfl (Reg.DEV_WAKE_SRC_has)
    | split
    | dsimp only [id]
    | with_reducible refine Law.put ?_ ?_ ?_ ?_ ?_ ?_ ?_ ?_ ?_ ?_ ?_ ?_ ?_ ?_ ?_ ?_ ?_ ?_ ?_ ?_ ?_ ?_
    | with_reducible exact Or.inl rfl
    | exact Or.inr (partIn hP rfl)

theorem execLullRailTimeout_law {W P : Nat} (s : State)  (hW : 0x8000000000000000000000000000000000000000000000000000000000000000000000000000 &&& W = 0x8000000000000000000000000000000000000000000000000000000000000000000000000000) (hP : 0x1 &&& P = 0x1) :
    OutLaw W P s (execLullRailTimeout s) := by
  unfold execLullRailTimeout
  try dsimp only
  repeat' first
    | with_reducible assumption
    | with_reducible exact OutLaw.fault _
    | with_reducible refine OutLaw.ite (fun _ => ?_) (fun _ => ?_)
    | with_reducible refine OutLaw.next ?_
    | with_reducible exact Law.refl _ _ _
    | exact sub_trans rfl hW
    | exact sub_trans rfl hP
    | with_reducible refine Law.ite (fun _ => ?_) (fun _ => ?_)
    | with_reducible refine State.flag_law ?_ _ ?_
    | exact InMask.mk 303 hW rfl rfl (Reg.DEV_WAKE_SRC_has)
    | split
    | dsimp only [id]
    | with_reducible refine Law.put ?_ ?_ ?_ ?_ ?_ ?_ ?_ ?_ ?_ ?_ ?_ ?_ ?_ ?_ ?_ ?_ ?_ ?_ ?_ ?_ ?_ ?_
    | with_reducible exact Or.inl rfl
    | exact Or.inr (partIn hP rfl)

theorem execWakeRailsGood_law {W P : Nat} (s : State)  (hW : 0x0 &&& W = 0x0) (hP : 0x1 &&& P = 0x1) :
    OutLaw W P s (execWakeRailsGood s) := by
  unfold execWakeRailsGood
  try dsimp only
  repeat' first
    | with_reducible assumption
    | with_reducible exact OutLaw.fault _
    | with_reducible refine OutLaw.ite (fun _ => ?_) (fun _ => ?_)
    | with_reducible refine OutLaw.next ?_
    | with_reducible exact Law.refl _ _ _
    | exact sub_trans rfl hW
    | exact sub_trans rfl hP
    | with_reducible refine Law.ite (fun _ => ?_) (fun _ => ?_)
    | split
    | dsimp only [id]
    | with_reducible refine Law.put ?_ ?_ ?_ ?_ ?_ ?_ ?_ ?_ ?_ ?_ ?_ ?_ ?_ ?_ ?_ ?_ ?_ ?_ ?_ ?_ ?_ ?_
    | with_reducible exact Or.inl rfl
    | exact Or.inr (partIn hP rfl)

theorem execWakePllLocked_law {W P : Nat} (s : State)  (hW : 0x0 &&& W = 0x0) (hP : 0x1 &&& P = 0x1) :
    OutLaw W P s (execWakePllLocked s) := by
  unfold execWakePllLocked
  try dsimp only
  repeat' first
    | with_reducible assumption
    | with_reducible exact OutLaw.fault _
    | with_reducible refine OutLaw.ite (fun _ => ?_) (fun _ => ?_)
    | with_reducible refine OutLaw.next ?_
    | with_reducible exact Law.refl _ _ _
    | exact sub_trans rfl hW
    | exact sub_trans rfl hP
    | with_reducible refine Law.ite (fun _ => ?_) (fun _ => ?_)
    | split
    | dsimp only [id]
    | with_reducible refine Law.put ?_ ?_ ?_ ?_ ?_ ?_ ?_ ?_ ?_ ?_ ?_ ?_ ?_ ?_ ?_ ?_ ?_ ?_ ?_ ?_ ?_ ?_
    | with_reducible exact Or.inl rfl
    | exact Or.inr (partIn hP rfl)

end Sys2Proof.Machine
end

