-- ==== Sys2Proof/Laws/LawIntegrity.lean ====
section
/-! SUPPORT. The law of every operation of Machine/Integrity.lean: what it may change (Laws/Law.lean). -/

set_option linter.all false

namespace Sys2Proof.Machine

theorem State.setScan_law {W P : Nat} {s0 s : State} (h : Law W P s0 s) (k : Nat) (x : StScan) (hW : 0x0 &&& W = 0x0) (hP : 0x80 &&& P = 0x80) :
    Law W P s0 (State.setScan s k x) := by
  unfold State.setScan
  try dsimp only
  repeat' first
    | with_reducible assumption
    | with_reducible exact Law.refl _ _ _
    | exact sub_trans rfl hW
    | exact sub_trans rfl hP
    | dsimp only [id]
    | with_reducible refine Law.put ?_ ?_ ?_ ?_ ?_ ?_ ?_ ?_ ?_ ?_ ?_ ?_ ?_ ?_ ?_ ?_ ?_ ?_ ?_ ?_ ?_ ?_
    | with_reducible exact Or.inl rfl
    | exact Or.inr (partIn hP rfl)

theorem State.pktCells_law {W P : Nat} {s0 s : State} (h : Law W P s0 s) (x1 : Nat) (hW : 0xb00000000000000020000000000012 &&& W = 0xb00000000000000020000000000012) (hP : 0x148104 &&& P = 0x148104) :
    Law W P s0 (State.pktCells s x1).1 := by
  induction x1 generalizing s with
  | zero =>
    unfold State.pktCells
    try dsimp only
    repeat' first
      | with_reducible assumption
      | with_reducible exact Law.refl _ _ _
      | exact sub_trans rfl hW
      | exact sub_trans rfl hP
      | with_reducible refine Law.ite (fun _ => ?_) (fun _ => ?_)
      | with_reducible refine State.bufTakeFrame_law ?_ _ _  ?_ ?_
      | with_reducible refine State.bufEmpty_law ?_ _  ?_ ?_
      | with_reducible refine Law.of_fst (by assumption) ?_
      | split
      | dsimp only [id]
  | succ n ih =>
    unfold State.pktCells
    try dsimp only
    repeat' first
      | with_reducible assumption
      | with_reducible apply ih
      | with_reducible exact Law.refl _ _ _
      | exact sub_trans rfl hW
      | exact sub_trans rfl hP
      | with_reducible refine Law.ite (fun _ => ?_) (fun _ => ?_)
      | with_reducible refine State.bufTakeFrame_law ?_ _ _  ?_ ?_
      | with_reducible refine State.bufEmpty_law ?_ _  ?_ ?_
      | with_reducible refine Law.of_fst (by assumption) ?_
      | split
      | dsimp only [id]

theorem State.scanBegin_law {W P : Nat} {s0 s : State} (h : Law W P s0 s) (k : Nat) (hW : 0x1b0000000000000002000000000005e &&& W = 0x1b0000000000000002000000000005e) (hP : 0x14818c &&& P = 0x14818c) :
    Law W P s0 (State.scanBegin s k) := by
  unfold State.scanBegin
  try dsimp only
  repeat' first
    | with_reducible assumption
    | with_reducible exact Law.refl _ _ _
    | exact sub_trans rfl hW
    | exact sub_trans rfl hP
    | with_reducible refine Law.ite (fun _ => ?_) (fun _ => ?_)
    | with_reducible refine State.setFld_law ?_ _ _ ?_
    | with_reducible refine State.pktCells_law ?_ _  ?_ ?_
    | with_reducible refine State.setScan_law ?_ _ _  ?_ ?_
    | with_reducible refine State.bufFreeAll_law ?_ _ _  ?_ ?_
    | exact InMask.mk 6 hW rfl rfl (Reg.ST_ENG_RESULT_has _)
    | with_reducible refine Law.of_fst (by assumption) ?_
    | split
    | dsimp only [id]

theorem State.scanGo_law {W P : Nat} {s0 s : State} (h : Law W P s0 s) (a : Acc) (k : Nat) (rsv : Bool) (hE : InMask W (Reg.ERR_STATUS a.base)) (hO : InMask W (Reg.ERR_OFS a.base)) (hW : 0x1b0000000000000002000000000005e &&& W = 0x1b0000000000000002000000000005e) (hP : 0x14818c &&& P = 0x14818c) :
    Law W P s0 (State.scanGo s a k rsv) := by
  unfold State.scanGo
  try dsimp only
  repeat' first
    | with_reducible assumption
    | with_reducible exact Law.refl _ _ _
    | exact sub_trans rfl hW
    | exact sub_trans rfl hP
    | exact hE
    | exact hO
    | with_reducible refine State.guard_law ?_ _ _ _ ?_ ?_ (fun _ _ => ?_) ?_ ?_
    | with_reducible refine State.setScan_law ?_ _ _  ?_ ?_
    | with_reducible refine State.scanBegin_law ?_ _  ?_ ?_
    | dsimp only [id]

theorem execStrainerGo_law {W P : Nat} (s : State) (k : Nat) (hW : 0x180000000000000000000000000000000000000000000000000001b0000000000000002000000000005e &&& W = 0x180000000000000000000000000000000000000000000000000001b0000000000000002000000000005e) (hP : 0x14818c &&& P = 0x14818c) :
    OutLaw W P s (execStrainerGo k s) := by
  unfold execStrainerGo
  try dsimp only
  repeat' first
    | with_reducible assumption
    | with_reducible exact OutLaw.fault _
    | with_reducible refine OutLaw.ite (fun _ => ?_) (fun _ => ?_)
    | with_reducible refine OutLaw.next ?_
    | with_reducible exact Law.refl _ _ _
    | exact sub_trans rfl hW
    | exact sub_trans rfl hP
    | with_reducible refine Law.ite (fun _ => ?_) (fun _ => ?_)
    | with_reducible refine State.scanGo_law ?_ _ _ _ ?_ ?_ ?_ ?_
    | exact InMask.mk 331 hW rfl rfl (Reg.ERR_STATUS_has_ST)
    | exact InMask.mk 332 hW rfl rfl (Reg.ERR_OFS_has_ST)
    | split
    | dsimp only [id]

theorem State.scanStop_law {W P : Nat} {s0 s : State} (h : Law W P s0 s) (a : Acc) (k : Nat) (rsv : Bool) (hE : InMask W (Reg.ERR_STATUS a.base)) (hO : InMask W (Reg.ERR_OFS a.base)) (hW : 0x190000000000000002000000000005e &&& W = 0x190000000000000002000000000005e) (hP : 0x10818c &&& P = 0x10818c) :
    Law W P s0 (State.scanStop s a k rsv) := by
  unfold State.scanStop
  try dsimp only
  repeat' first
    | with_reducible assumption
    | with_reducible exact Law.refl _ _ _
    | exact sub_trans rfl hW
    | exact sub_trans rfl hP
    | exact hE
    | exact hO
    | with_reducible refine Law.ite (fun _ => ?_) (fun _ => ?_)
    | with_reducible refine State.setFld_law ?_ _ _ ?_
    | with_reducible refine State.guard_law ?_ _ _ _ ?_ ?_ (fun _ _ => ?_) ?_ ?_
    | with_reducible refine State.bufFreeAll_law ?_ _ _  ?_ ?_
    | with_reducible refine State.setScan_law ?_ _ _  ?_ ?_
    | exact InMask.mk 6 hW rfl rfl (Reg.ST_ENG_RESULT_has _)
    | split
    | dsimp only [id]
    | with_reducible refine Law.put ?_ ?_ ?_ ?_ ?_ ?_ ?_ ?_ ?_ ?_ ?_ ?_ ?_ ?_ ?_ ?_ ?_ ?_ ?_ ?_ ?_ ?_
    | with_reducible exact Or.inl rfl
    | exact Or.inr (partIn hP rfl)

theorem execStrainerStop_law {W P : Nat} (s : State) (k : Nat) (hW : 0x18000000000000000000000000000000000000000000000000000190000000000000002000000000005e &&& W = 0x18000000000000000000000000000000000000000000000000000190000000000000002000000000005e) (hP : 0x10818c &&& P = 0x10818c) :
    OutLaw W P s (execStrainerStop k s) := by
  unfold execStrainerStop
  try dsimp only
  repeat' first
    | with_reducible assumption
    | with_reducible exact OutLaw.fault _
    | with_reducible refine OutLaw.ite (fun _ => ?_) (fun _ => ?_)
    | with_reducible refine OutLaw.next ?_
    | with_reducible exact Law.refl _ _ _
    | exact sub_trans rfl hW
    | exact sub_trans rfl hP
    | with_reducible refine Law.ite (fun _ => ?_) (fun _ => ?_)
    | with_reducible refine State.scanStop_law ?_ _ _ _ ?_ ?_ ?_ ?_
    | exact InMask.mk 331 hW rfl rfl (Reg.ERR_STATUS_has_ST)
    | exact InMask.mk 332 hW rfl rfl (Reg.ERR_OFS_has_ST)
    | split
    | dsimp only [id]

theorem State.scanCtrl_law {W P : Nat} {s0 s : State} (h : Law W P s0 s) (a : Acc) (k v : Nat) (rsv : Bool) (hE : InMask W (Reg.ERR_STATUS a.base)) (hO : InMask W (Reg.ERR_OFS a.base)) (hW : 0x1b0000000000000002000000000005e &&& W = 0x1b0000000000000002000000000005e) (hP : 0x14818c &&& P = 0x14818c) :
    Law W P s0 (State.scanCtrl s a k v rsv) := by
  unfold State.scanCtrl
  try dsimp only
  repeat' first
    | with_reducible assumption
    | with_reducible exact Law.refl _ _ _
    | exact sub_trans rfl hW
    | exact sub_trans rfl hP
    | exact hE
    | exact hO
    | with_reducible refine Law.ite (fun _ => ?_) (fun _ => ?_)
    | with_reducible refine State.guard_law ?_ _ _ _ ?_ ?_ (fun _ _ => ?_) ?_ ?_
    | with_reducible refine State.scanGo_law ?_ _ _ _ ?_ ?_ ?_ ?_
    | with_reducible refine State.scanStop_law ?_ _ _ _ ?_ ?_ ?_ ?_
    | split
    | dsimp only [id]

theorem State.mismatch_law {W P : Nat} {s0 s : State} (h : Law W P s0 s) (k crc : Nat) (hW : 0x80000000000000000000000000000000000000000000000000000000003fffde &&& W = 0x80000000000000000000000000000000000000000000000000000000003fffde) (hP : 0x10088c &&& P = 0x10088c) :
    Law W P s0 (State.mismatch s k crc) := by
  unfold State.mismatch
  try dsimp only
  repeat' first
    | with_reducible assumption
    | with_reducible exact Law.refl _ _ _
    | exact sub_trans rfl hW
    | exact sub_trans rfl hP
    | with_reducible refine State.flagBit_law ?_ _ _ ?_
    | with_reducible refine State.scanClose_law ?_ _ _  ?_ ?_
    | with_reducible refine State.spoutEvent_law ?_ _ _ _ _  ?_ ?_
    | with_reducible refine State.irqEval_law ?_   ?_ ?_
    | with_reducible refine State.offerTrigger_law ?_ _ _ _  ?_ ?_
    | exact InMask.mk 255 hW rfl rfl (Reg.ST_IRQ_has)
    | dsimp only [id]

theorem State.scanEnd_law {W P : Nat} {s0 s : State} (h : Law W P s0 s) (k corrupt : Nat) (hW : 0x380000000000000000000000000000000019000000000000000200000003fffde &&& W = 0x380000000000000000000000000000000019000000000000000200000003fffde) (hP : 0x14898c &&& P = 0x14898c) :
    Law W P s0 (State.scanEnd s k corrupt) := by
  unfold State.scanEnd
  try dsimp only
  repeat' first
    | with_reducible assumption
    | with_reducible exact Law.refl _ _ _
    | exact sub_trans rfl hW
    | exact sub_trans rfl hP
    | with_reducible refine Law.ite (fun _ => ?_) (fun _ => ?_)
    | with_reducible refine State.setFld_law ?_ _ _ ?_
    | with_reducible refine State.bufFreeAll_law ?_ _ _  ?_ ?_
    | with_reducible refine State.setScan_law ?_ _ _  ?_ ?_
    | with_reducible refine State.tookFree_law ?_   ?_ ?_
    | with_reducible refine State.scanClose_law ?_ _ _  ?_ ?_
    | with_reducible refine State.mismatch_law ?_ _ _  ?_ ?_
    | exact InMask.mk 256 hW rfl rfl (Reg.ST_ENG_CRC_has _)
    | exact InMask.mk 257 hW rfl rfl (Reg.ST_ENG_EXP_has _)
    | with_reducible refine Law.of_fst (by assumption) ?_
    | split
    | dsimp only [id]

theorem State.scanStopped_law {W P : Nat} {s0 s : State} (h : Law W P s0 s) (k corrupt : Nat) (hW : 0x380000000000000000000000000000000019000000000000000200000003fffde &&& W = 0x380000000000000000000000000000000019000000000000000200000003fffde) (hP : 0x14898c &&& P = 0x14898c) :
    Law W P s0 (State.scanStopped s k corrupt) := by
  unfold State.scanStopped
  try dsimp only
  repeat' first
    | with_reducible assumption
    | with_reducible exact Law.refl _ _ _
    | exact sub_trans rfl hW
    | exact sub_trans rfl hP
    | with_reducible refine State.setFld_law ?_ _ _ ?_
    | with_reducible refine State.scanEnd_law ?_ _ _  ?_ ?_
    | exact InMask.mk 6 hW rfl rfl (Reg.ST_ENG_RESULT_has _)
    | dsimp only [id]
    | with_reducible refine Law.put ?_ ?_ ?_ ?_ ?_ ?_ ?_ ?_ ?_ ?_ ?_ ?_ ?_ ?_ ?_ ?_ ?_ ?_ ?_ ?_ ?_ ?_
    | with_reducible exact Or.inl rfl
    | exact Or.inr (partIn hP rfl)

theorem execScanEnd_law {W P : Nat} (s : State) (k : Nat) (corrupt : BitVec 32) (hW : 0x380000000000000000000000000000000019000000000000000200000003fffde &&& W = 0x380000000000000000000000000000000019000000000000000200000003fffde) (hP : 0x14898c &&& P = 0x14898c) :
    OutLaw W P s (execScanEnd k corrupt s) := by
  unfold execScanEnd
  try dsimp only
  repeat' first
    | with_reducible assumption
    | with_reducible exact OutLaw.fault _
    | with_reducible refine OutLaw.ite (fun _ => ?_) (fun _ => ?_)
    | with_reducible refine OutLaw.next ?_
    | with_reducible exact Law.refl _ _ _
    | exact sub_trans rfl hW
    | exact sub_trans rfl hP
    | with_reducible refine Law.ite (fun _ => ?_) (fun _ => ?_)
    | with_reducible refine State.scanEnd_law ?_ _ _  ?_ ?_
    | with_reducible refine State.scanStopped_law ?_ _ _  ?_ ?_
    | split
    | dsimp only [id]

theorem execScanPeriodExpiry_law {W P : Nat} (s : State) (k : Nat) (hW : 0x1b0000000000000002000000000005e &&& W = 0x1b0000000000000002000000000005e) (hP : 0x14818c &&& P = 0x14818c) :
    OutLaw W P s (execScanPeriodExpiry k s) := by
  unfold execScanPeriodExpiry
  try dsimp only
  repeat' first
    | with_reducible assumption
    | with_reducible exact OutLaw.fault _
    | with_reducible refine OutLaw.ite (fun _ => ?_) (fun _ => ?_)
    | with_reducible refine OutLaw.next ?_
    | with_reducible exact Law.refl _ _ _
    | exact sub_trans rfl hW
    | exact sub_trans rfl hP
    | with_reducible refine Law.ite (fun _ => ?_) (fun _ => ?_)
    | with_reducible refine State.scanBegin_law ?_ _  ?_ ?_
    | split
    | dsimp only [id]

theorem State.aliveExp_law {W P : Nat} {s0 s : State} (h : Law W P s0 s) (a : Acc) (k v : Nat) (hE : InMask W (Reg.ERR_STATUS a.base)) (hO : InMask W (Reg.ERR_OFS a.base)) (hW : 0x40000000000000000000000000000000000000000000000000000000000000012 &&& W = 0x40000000000000000000000000000000000000000000000000000000000000012) (hP : 0x100005 &&& P = 0x100005) :
    Law W P s0 (State.aliveExp s a k v) := by
  unfold State.aliveExp
  try dsimp only
  repeat' first
    | with_reducible assumption
    | with_reducible exact Law.refl _ _ _
    | exact sub_trans rfl hW
    | exact sub_trans rfl hP
    | exact hE
    | exact hO
    | with_reducible refine State.wr_law ?_ _ _ ?_
    | with_reducible refine State.guard_law ?_ _ _ _ ?_ ?_ (fun _ _ => ?_) ?_ ?_
    | exact InMask.mk 258 hW rfl rfl (Reg.ST_ENG_ALIVE_EXP_has _)
    | dsimp only [id]
    | with_reducible refine Law.put ?_ ?_ ?_ ?_ ?_ ?_ ?_ ?_ ?_ ?_ ?_ ?_ ?_ ?_ ?_ ?_ ?_ ?_ ?_ ?_ ?_ ?_
    | with_reducible exact Or.inl rfl
    | exact Or.inr (partIn hP rfl)

theorem execAliveExpWrite_law {W P : Nat} (s : State) (k : Nat) (v : BitVec 32) (hW : 0x180000000000000000040000000000000000000000000000000000000000000000000000000000000012 &&& W = 0x180000000000000000040000000000000000000000000000000000000000000000000000000000000012) (hP : 0x100005 &&& P = 0x100005) :
    OutLaw W P s (execAliveExpWrite k v s) := by
  unfold execAliveExpWrite
  try dsimp only
  repeat' first
    | with_reducible assumption
    | with_reducible exact OutLaw.fault _
    | with_reducible refine OutLaw.ite (fun _ => ?_) (fun _ => ?_)
    | with_reducible refine OutLaw.next ?_
    | with_reducible exact Law.refl _ _ _
    | exact sub_trans rfl hW
    | exact sub_trans rfl hP
    | with_reducible refine Law.ite (fun _ => ?_) (fun _ => ?_)
    | with_reducible refine State.aliveExp_law ?_ _ _ _ ?_ ?_ ?_ ?_
    | exact InMask.mk 331 hW rfl rfl (Reg.ERR_STATUS_has_ST)
    | exact InMask.mk 332 hW rfl rfl (Reg.ERR_OFS_has_ST)
    | split
    | dsimp only [id]

theorem execAliveDeadlineExpiry_law {W P : Nat} (s : State) (k : Nat) (hW : 0x800000000000000000000000000000000000000000000000000000000000008e &&& W = 0x800000000000000000000000000000000000000000000000000000000000008e) (hP : 0x10000d &&& P = 0x10000d) :
    OutLaw W P s (execAliveDeadlineExpiry k s) := by
  unfold execAliveDeadlineExpiry
  try dsimp only
  repeat' first
    | with_reducible assumption
    | with_reducible exact OutLaw.fault _
    | with_reducible refine OutLaw.ite (fun _ => ?_) (fun _ => ?_)
    | with_reducible refine OutLaw.next ?_
    | with_reducible exact Law.refl _ _ _
    | exact sub_trans rfl hW
    | exact sub_trans rfl hP
    | with_reducible refine Law.ite (fun _ => ?_) (fun _ => ?_)
    | with_reducible refine State.flagBit_law ?_ _ _ ?_
    | with_reducible refine State.flag_law ?_ _ ?_
    | with_reducible refine State.spoutEvent_law ?_ _ _ _ _  ?_ ?_
    | with_reducible refine State.irqEval_law ?_   ?_ ?_
    | exact InMask.mk 7 hW rfl rfl (Reg.ST_ENG_FLAGS_has _)
    | exact InMask.mk 255 hW rfl rfl (Reg.ST_IRQ_has)
    | split
    | dsimp only [id]
    | with_reducible refine Law.put ?_ ?_ ?_ ?_ ?_ ?_ ?_ ?_ ?_ ?_ ?_ ?_ ?_ ?_ ?_ ?_ ?_ ?_ ?_ ?_ ?_ ?_
    | with_reducible exact Or.inl rfl
    | exact Or.inr (partIn hP rfl)

theorem execEccSingleError_law {W P : Nat} (s : State) (m : Nat) (hW : 0x10000000000000000000000000000000000000000000000000000000000000000000000000000 &&& W = 0x10000000000000000000000000000000000000000000000000000000000000000000000000000) (hP : 0x0 &&& P = 0x0) :
    OutLaw W P s (execEccSingleError m s) := by
  unfold execEccSingleError
  try dsimp only
  repeat' first
    | with_reducible assumption
    | with_reducible exact OutLaw.fault _
    | with_reducible refine OutLaw.ite (fun _ => ?_) (fun _ => ?_)
    | with_reducible refine OutLaw.next ?_
    | with_reducible exact Law.refl _ _ _
    | exact sub_trans rfl hW
    | exact sub_trans rfl hP
    | with_reducible refine Law.ite (fun _ => ?_) (fun _ => ?_)
    | with_reducible refine State.count_law ?_ _ ?_
    | exact InMask.mk 304 hW rfl rfl (Reg.ST_ECC_CNT_has_0 _)
    | split
    | dsimp only [id]

theorem State.eccNote_law {W P : Nat} {s0 s : State} (h : Law W P s0 s) (m w : Nat) (hW : 0x18000000000000000000000000000000000000000000000000000000000000000e &&& W = 0x18000000000000000000000000000000000000000000000000000000000000000e) (hP : 0x10000c &&& P = 0x10000c) :
    Law W P s0 (State.eccNote s m w) := by
  unfold State.eccNote
  try dsimp only
  repeat' first
    | with_reducible assumption
    | with_reducible exact Law.refl _ _ _
    | exact sub_trans rfl hW
    | exact sub_trans rfl hP
    | with_reducible refine State.setFld_law ?_ _ _ ?_
    | with_reducible refine State.count_law ?_ _ ?_
    | with_reducible refine State.spoutEvent_law ?_ _ _ _ _  ?_ ?_
    | exact InMask.mk 259 hW rfl rfl (Reg.ST_ECC_CNT_has_1 _)
    | exact InMask.mk 260 hW rfl rfl (Reg.ST_ECC_ADDR_has _)
    | dsimp only [id]

theorem State.sliceFault_law {W P : Nat} {s0 s : State} (h : Law W P s0 s) (i : Nat) (hW : 0x8000000000000000000000000000000000000000000000003c0001ee &&& W = 0x8000000000000000000000000000000000000000000000003c0001ee) (hP : 0x10408d &&& P = 0x10408d) :
    Law W P s0 (State.sliceFault s i) := by
  unfold State.sliceFault
  try dsimp only
  repeat' first
    | with_reducible assumption
    | with_reducible exact Law.refl _ _ _
    | exact sub_trans rfl hW
    | exact sub_trans rfl hP
    | with_reducible refine Law.ite (fun _ => ?_) (fun _ => ?_)
    | with_reducible refine State.coveredFault_law ?_   ?_ ?_
    | with_reducible refine State.openRecov_law ?_ _  ?_ ?_
    | with_reducible refine State.setSlc_law ?_ _ _  ?_ ?_
    | split
    | dsimp only [id]

theorem State.dropHead_law {W P : Nat} {s0 s : State} (h : Law W P s0 s) (p : Nat) (hW : 0x20000000000000000000000000000000003990000000000000002000000400001e &&& W = 0x20000000000000000000000000000000003990000000000000002000000400001e) (hP : 0x14811c &&& P = 0x14811c) :
    Law W P s0 (State.dropHead s p) := by
  unfold State.dropHead
  try dsimp only
  repeat' first
    | with_reducible assumption
    | with_reducible exact Law.refl _ _ _
    | exact sub_trans rfl hW
    | exact sub_trans rfl hP
    | with_reducible refine Law.ite (fun _ => ?_) (fun _ => ?_)
    | with_reducible refine State.tookFree_law ?_   ?_ ?_
    | with_reducible refine State.setEgp_law ?_ _ _  ?_ ?_
    | with_reducible refine State.copyDrop_law ?_ _ _ _ _ ?_ ?_ ?_
    | with_reducible refine State.cbsSettle_law ?_ _ _  ?_ ?_
    | exact InMask.mk 261 hW rfl rfl (Reg.PRT_FAB_CNT_has_5 _)
    | with_reducible refine Law.of_fst (by assumption) ?_
    | split
    | dsimp only [id]

theorem State.loseDescriptor_law {W P : Nat} {s0 s : State} (h : Law W P s0 s) (p : Nat) (hW : 0x200000000000000000000000000001180030000000000000000000000004000000 &&& W = 0x200000000000000000000000000001180030000000000000000000000004000000) (hP : 0x48010 &&& P = 0x48010) :
    Law W P s0 (State.loseDescriptor s p) := by
  unfold State.loseDescriptor
  try dsimp only
  repeat' first
    | with_reducible assumption
    | with_reducible exact Law.refl _ _ _
    | exact sub_trans rfl hW
    | exact sub_trans rfl hP
    | with_reducible refine Law.ite (fun _ => ?_) (fun _ => ?_)
    | with_reducible refine State.count_law ?_ _ ?_
    | with_reducible refine State.tookFree_law ?_   ?_ ?_
    | with_reducible refine State.setVoq_law ?_ _ _  ?_ ?_
    | with_reducible refine State.frameEnd_law ?_ _ _ _  ?_ ?_
    | with_reducible refine State.setFab_law ?_ _  ?_ ?_
    | with_reducible refine State.setMc_law ?_ _ _  ?_ ?_
    | with_reducible refine State.mcClean_law ?_   ?_ ?_
    | with_reducible refine State.setEgp_law ?_ _ _  ?_ ?_
    | with_reducible refine State.cbsSettle_law ?_ _ _  ?_ ?_
    | exact InMask.mk 261 hW rfl rfl (Reg.PRT_FAB_CNT_has_5 _)
    | with_reducible refine Law.foldl _ ?_ (fun _ _ _ => ?_)
    | with_reducible refine Law.foldl_fst _ ?_ (fun _ _ _ _ => ?_)
    | with_reducible refine Law.of_fst (by assumption) ?_
    | split
    | dsimp only [id]

theorem State.loseStaged_law {W P : Nat} {s0 s : State} (h : Law W P s0 s) (i : Nat) (hW : 0x0 &&& W = 0x0) (hP : 0x800 &&& P = 0x800) :
    Law W P s0 (State.loseStaged s i) := by
  unfold State.loseStaged
  try dsimp only
  repeat' first
    | with_reducible assumption
    | with_reducible exact Law.refl _ _ _
    | exact sub_trans rfl hW
    | exact sub_trans rfl hP
    | with_reducible refine State.setRing_law ?_ _ _  ?_ ?_
    | with_reducible refine Law.of_fst (by assumption) ?_
    | split
    | dsimp only [id]
    | with_reducible refine Law.put ?_ ?_ ?_ ?_ ?_ ?_ ?_ ?_ ?_ ?_ ?_ ?_ ?_ ?_ ?_ ?_ ?_ ?_ ?_ ?_ ?_ ?_
    | with_reducible exact Or.inl rfl
    | exact Or.inr (partIn hP rfl)

theorem State.loseSpilled_law {W P : Nat} {s0 s : State} (h : Law W P s0 s) (i p c : Nat) (hW : 0x40000000000000000000000000000018000190000000000000002000000400001e &&& W = 0x40000000000000000000000000000018000190000000000000002000000400001e) (hP : 0x10811c &&& P = 0x10811c) :
    Law W P s0 (State.loseSpilled s i p c) := by
  unfold State.loseSpilled
  try dsimp only
  repeat' first
    | with_reducible assumption
    | with_reducible exact Law.refl _ _ _
    | exact sub_trans rfl hW
    | exact sub_trans rfl hP
    | with_reducible refine State.count_law ?_ _ ?_
    | with_reducible refine State.freeBlocks_law ?_ _ _  ?_ ?_
    | with_reducible refine State.setVoq_law ?_ _ _  ?_ ?_
    | with_reducible refine State.frameEnd_law ?_ _ _ _  ?_ ?_
    | exact InMask.mk 262 hW rfl rfl (Reg.BPM_CNT_has_13)
    | with_reducible refine Law.of_fst (by assumption) ?_
    | split
    | dsimp only [id]

theorem State.mapChunks_law {W P : Nat} {s0 s : State} (h : Law W P s0 s) (n : Nat) (f : CdChunk → CdChunk) (hW : 0x0 &&& W = 0x0) (hP : 0x800 &&& P = 0x800) :
    Law W P s0 (State.mapChunks s n f) := by
  unfold State.mapChunks
  try dsimp only
  repeat' first
    | with_reducible assumption
    | with_reducible exact Law.refl _ _ _
    | exact sub_trans rfl hW
    | exact sub_trans rfl hP
    | with_reducible refine Law.ite (fun _ => ?_) (fun _ => ?_)
    | with_reducible refine State.setRing_law ?_ _ _  ?_ ?_
    | split
    | dsimp only [id]

theorem State.mapRecord_law {W P : Nat} {s0 s : State} (h : Law W P s0 s) (n rseq : Nat) (f : CdRecord → CdRecord) (hW : 0x0 &&& W = 0x0) (hP : 0x800 &&& P = 0x800) :
    Law W P s0 (State.mapRecord s n rseq f) := by
  unfold State.mapRecord
  try dsimp only
  repeat' first
    | with_reducible assumption
    | with_reducible exact Law.refl _ _ _
    | exact sub_trans rfl hW
    | exact sub_trans rfl hP
    | with_reducible refine Law.ite (fun _ => ?_) (fun _ => ?_)
    | with_reducible refine State.mapChunks_law ?_ _ _  ?_ ?_
    | split
    | dsimp only [id]

theorem State.scanHit_law {W P : Nat} {s0 s : State} (h : Law W P s0 s) (k w : Nat) (hW : 0x18000000008000000000000000000000000000000000000000000000003c0001ee &&& W = 0x18000000008000000000000000000000000000000000000000000000003c0001ee) (hP : 0x10408d &&& P = 0x10408d) :
    Law W P s0 (State.scanHit s k w) := by
  unfold State.scanHit
  try dsimp only
  repeat' first
    | with_reducible assumption
    | with_reducible exact Law.refl _ _ _
    | exact sub_trans rfl hW
    | exact sub_trans rfl hP
    | with_reducible refine Law.ite (fun _ => ?_) (fun _ => ?_)
    | with_reducible refine State.setFld_law ?_ _ _ ?_
    | with_reducible refine State.setScan_law ?_ _ _  ?_ ?_
    | with_reducible refine State.eccNote_law ?_ _ _  ?_ ?_
    | with_reducible refine State.sliceFault_law ?_ _  ?_ ?_
    | exact InMask.mk 29 hW rfl rfl (Reg.ST_HEALTH_has)
    | split
    | dsimp only [id]

theorem State.eccDouble_law {W P : Nat} {s0 s : State} (h : Law W P s0 s) (hit : EccHit) (w : Nat) (hW : 0x78000000008000000000000000000118003990000000000000002000003c0001fe &&& W = 0x78000000008000000000000000000118003990000000000000002000003c0001fe) (hP : 0x14c99d &&& P = 0x14c99d) :
    Law W P s0 (State.eccDouble s hit w) := by
  unfold State.eccDouble
  try dsimp only
  repeat' first
    | with_reducible assumption
    | with_reducible exact Law.refl _ _ _
    | exact sub_trans rfl hW
    | exact sub_trans rfl hP
    | with_reducible refine Law.ite (fun _ => ?_) (fun _ => ?_)
    | with_reducible refine State.setFld_law ?_ _ _ ?_
    | with_reducible refine State.eccNote_law ?_ _ _  ?_ ?_
    | with_reducible refine State.sliceFault_law ?_ _  ?_ ?_
    | with_reducible refine State.coveredFault_law ?_   ?_ ?_
    | with_reducible refine State.dropHead_law ?_ _  ?_ ?_
    | with_reducible refine State.openRecov_law ?_ _  ?_ ?_
    | with_reducible refine State.loseDescriptor_law ?_ _  ?_ ?_
    | with_reducible refine State.loseStaged_law ?_ _  ?_ ?_
    | with_reducible refine State.loseSpilled_law ?_ _ _ _  ?_ ?_
    | with_reducible refine State.mapRecord_law ?_ _ _ _  ?_ ?_
    | with_reducible refine State.mapChunks_law ?_ _ _  ?_ ?_
    | with_reducible refine State.scanHit_law ?_ _ _  ?_ ?_
    | exact InMask.mk 29 hW rfl rfl (Reg.ST_HEALTH_has)
    | with_reducible refine Law.of_fst (by assumption) ?_
    | split
    | dsimp only [id]

theorem execEccDoubleError_law {W P : Nat} (s : State) (hit : EccHit) (w : Nat) (hW : 0x78000000008000000000000000000118003990000000000000002000003c0001fe &&& W = 0x78000000008000000000000000000118003990000000000000002000003c0001fe) (hP : 0x14c99d &&& P = 0x14c99d) :
    OutLaw W P s (execEccDoubleError hit w s) := by
  unfold execEccDoubleError
  try dsimp only
  repeat' first
    | with_reducible assumption
    | with_reducible exact OutLaw.fault _
    | with_reducible refine OutLaw.ite (fun _ => ?_) (fun _ => ?_)
    | with_reducible refine OutLaw.next ?_
    | with_reducible exact Law.refl _ _ _
    | exact sub_trans rfl hW
    | exact sub_trans rfl hP
    | with_reducible refine Law.ite (fun _ => ?_) (fun _ => ?_)
    | with_reducible refine State.eccDouble_law ?_ _ _  ?_ ?_
    | split
    | dsimp only [id]

theorem execScrubPass_law {W P : Nat} (s : State) (m : Nat) (hW : 0x20000000000000000000000000000000000000000000000000000000000000000000000000000 &&& W = 0x20000000000000000000000000000000000000000000000000000000000000000000000000000) (hP : 0x0 &&& P = 0x0) :
    OutLaw W P s (execScrubPass m s) := by
  unfold execScrubPass
  try dsimp only
  repeat' first
    | with_reducible assumption
    | with_reducible exact OutLaw.fault _
    | with_reducible refine OutLaw.ite (fun _ => ?_) (fun _ => ?_)
    | with_reducible refine OutLaw.next ?_
    | with_reducible exact Law.refl _ _ _
    | exact sub_trans rfl hW
    | exact sub_trans rfl hP
    | with_reducible refine Law.ite (fun _ => ?_) (fun _ => ?_)
    | with_reducible refine State.wrapAdd_law ?_ _ _ ?_
    | exact InMask.mk 305 hW rfl rfl (Reg.ST_SCRUB_has _)
    | split
    | dsimp only [id]

theorem execSliceWatchdogExpiry_law {W P : Nat} (s : State) (i : Nat) (hW : 0x8000000000000000000000000000000000000000000000007c0001ee &&& W = 0x8000000000000000000000000000000000000000000000007c0001ee) (hP : 0x10408d &&& P = 0x10408d) :
    OutLaw W P s (execSliceWatchdogExpiry i s) := by
  unfold execSliceWatchdogExpiry
  try dsimp only
  repeat' first
    | with_reducible assumption
    | with_reducible exact OutLaw.fault _
    | with_reducible refine OutLaw.ite (fun _ => ?_) (fun _ => ?_)
    | with_reducible refine OutLaw.next ?_
    | with_reducible exact Law.refl _ _ _
    | exact sub_trans rfl hW
    | exact sub_trans rfl hP
    | with_reducible refine Law.ite (fun _ => ?_) (fun _ => ?_)
    | with_reducible refine State.watchdog_law ?_ _  ?_ ?_
    | with_reducible refine State.sliceFault_law ?_ _  ?_ ?_
    | split
    | dsimp only [id]

end Sys2Proof.Machine
end

