-- ==== Sys2Proof/Laws/LawHost.lean ====
section
/-! SUPPORT. The law of every operation of Machine/Host.lean: what it may change (Laws/Law.lean). -/

set_option linter.all false

namespace Sys2Proof.Machine

theorem State.msixRelease_law {W P : Nat} {s0 s : State} (h : Law W P s0 s) (hW : 0x0 &&& W = 0x0) (hP : 0x100004 &&& P = 0x100004) :
    Law W P s0 (State.msixRelease s) := by
  unfold State.msixRelease
  try dsimp only
  repeat' first
    | with_reducible assumption
    | with_reducible exact Law.refl _ _ _
    | exact sub_trans rfl hW
    | exact sub_trans rfl hP
    | with_reducible refine Law.ite (fun _ => ?_) (fun _ => ?_)
    | with_reducible refine State.sendMsix_law ?_ _  ?_ ?_
    | with_reducible refine Law.foldl _ ?_ (fun _ _ _ => ?_)
    | with_reducible refine Law.foldl_fst _ ?_ (fun _ _ _ _ => ?_)
    | split
    | dsimp only [id]
    | with_reducible refine Law.put ?_ ?_ ?_ ?_ ?_ ?_ ?_ ?_ ?_ ?_ ?_ ?_ ?_ ?_ ?_ ?_ ?_ ?_ ?_ ?_ ?_ ?_
    | with_reducible exact Or.inl rfl
    | exact Or.inr (partIn hP rfl)

theorem State.msixWrite_law {W P : Nat} {s0 s : State} (h : Law W P s0 s) (a : Acc) (v w x : Nat) (hE : InMask W (Reg.ERR_STATUS a.base)) (hO : InMask W (Reg.ERR_OFS a.base)) (hW : 0x800000000000000000000000000000000000000000000000000000000000000012 &&& W = 0x800000000000000000000000000000000000000000000000000000000000000012) (hP : 0x100004 &&& P = 0x100004) :
    Law W P s0 (State.msixWrite s a v w x) := by
  unfold State.msixWrite
  try dsimp only
  repeat' first
    | with_reducible assumption
    | with_reducible exact Law.refl _ _ _
    | exact sub_trans rfl hW
    | exact sub_trans rfl hP
    | exact hE
    | exact hO
    | with_reducible refine Law.ite (fun _ => ?_) (fun _ => ?_)
    | with_reducible refine State.wr_law ?_ _ _ ?_
    | with_reducible refine State.guard_law ?_ _ _ _ ?_ ?_ (fun _ _ => ?_) ?_ ?_
    | with_reducible refine State.msixRelease_law ?_   ?_ ?_
    | exact InMask.mk 263 hW rfl rfl (Reg.MSIX_has _ _)
    | split
    | dsimp only [id]

theorem execMsixUnmask_law {W P : Nat} (s : State) (v : Nat) (hW : 0x60000000000000800000000000000000000000000000000000000000000000000000000000000012 &&& W = 0x60000000000000800000000000000000000000000000000000000000000000000000000000000012) (hP : 0x100004 &&& P = 0x100004) :
    OutLaw W P s (execMsixUnmask v s) := by
  unfold execMsixUnmask
  try dsimp only
  repeat' first
    | with_reducible assumption
    | with_reducible exact OutLaw.fault _
    | with_reducible refine OutLaw.ite (fun _ => ?_) (fun _ => ?_)
    | with_reducible refine OutLaw.next ?_
    | with_reducible exact Law.refl _ _ _
    | exact sub_trans rfl hW
    | exact sub_trans rfl hP
    | with_reducible refine Law.ite (fun _ => ?_) (fun _ => ?_)
    | with_reducible refine State.msixWrite_law ?_ _ _ _ _ ?_ ?_ ?_ ?_
    | exact InMask.mk 317 hW rfl rfl (Reg.ERR_STATUS_has_DEV)
    | exact InMask.mk 318 hW rfl rfl (Reg.ERR_OFS_has_DEV)
    | split
    | dsimp only [id]

theorem State.dmaLost_law {W P : Nat} {s0 s : State} (h : Law W P s0 s) (hW : 0x100000000000000000000000000000000000000000000000000000000001380011e &&& W = 0x100000000000000000000000000000000000000000000000000000000001380011e) (hP : 0x14000c &&& P = 0x14000c) :
    Law W P s0 (State.dmaLost s) := by
  unfold State.dmaLost
  try dsimp only
  repeat' first
    | with_reducible assumption
    | with_reducible exact Law.refl _ _ _
    | exact sub_trans rfl hW
    | exact sub_trans rfl hP
    | with_reducible refine Law.ite (fun _ => ?_) (fun _ => ?_)
    | with_reducible refine State.count_law ?_ _ ?_
    | with_reducible refine State.tookFree_law ?_   ?_ ?_
    | with_reducible refine State.readoutEnd_law ?_ _ _  ?_ ?_
    | with_reducible refine State.imgEnd_law ?_ _ _  ?_ ?_
    | exact InMask.mk 264 hW rfl rfl (Reg.DEV_HI_CNT_has_5)
    | split
    | dsimp only [id]

theorem State.endpointReset_law {W P : Nat} {s0 s : State} (h : Law W P s0 s) (link : Bool) (hW : 0x80000000000100000000000000000000000000000000000000000000000800000000001380011e &&& W = 0x80000000000100000000000000000000000000000000000000000000000800000000001380011e) (hP : 0x14100e &&& P = 0x14100e) :
    Law W P s0 (State.endpointReset s link) := by
  unfold State.endpointReset
  try dsimp only
  repeat' first
    | with_reducible assumption
    | with_reducible exact Law.refl _ _ _
    | exact sub_trans rfl hW
    | exact sub_trans rfl hP
    | with_reducible refine Law.ite (fun _ => ?_) (fun _ => ?_)
    | with_reducible refine State.porWhere_law ?_ _ (fun _ _ => ?_)
    | with_reducible refine State.dmaLost_law ?_   ?_ ?_
    | with_reducible refine State.sqPerst_law ?_   ?_ ?_
    | (rename_i he; simp only [Bool.and_eq_true, decide_eq_true_eq] at he; exact InMask.range 311 hW rfl rfl he.1 he.2)
    | split
    | dsimp only [id]
    | with_reducible refine Law.put ?_ ?_ ?_ ?_ ?_ ?_ ?_ ?_ ?_ ?_ ?_ ?_ ?_ ?_ ?_ ?_ ?_ ?_ ?_ ?_ ?_ ?_
    | with_reducible exact Or.inl rfl
    | exact Or.inr (partIn hP rfl)

theorem execPerstNAssert_law {W P : Nat} (s : State)  (hW : 0x80000000000100000000000000000000000000000000000000000000000800000000001380011e &&& W = 0x80000000000100000000000000000000000000000000000000000000000800000000001380011e) (hP : 0x14100f &&& P = 0x14100f) :
    OutLaw W P s (execPerstNAssert s) := by
  unfold execPerstNAssert
  try dsimp only
  repeat' first
    | with_reducible assumption
    | with_reducible exact OutLaw.fault _
    | with_reducible refine OutLaw.ite (fun _ => ?_) (fun _ => ?_)
    | with_reducible refine OutLaw.next ?_
    | with_reducible exact Law.refl _ _ _
    | exact sub_trans rfl hW
    | exact sub_trans rfl hP
    | with_reducible refine Law.ite (fun _ => ?_) (fun _ => ?_)
    | with_reducible refine State.endpointReset_law ?_ _  ?_ ?_
    | split
    | dsimp only [id]
    | with_reducible refine Law.put ?_ ?_ ?_ ?_ ?_ ?_ ?_ ?_ ?_ ?_ ?_ ?_ ?_ ?_ ?_ ?_ ?_ ?_ ?_ ?_ ?_ ?_
    | with_reducible exact Or.inl rfl
    | exact Or.inr (partIn hP rfl)

theorem execPerstNRelease_law {W P : Nat} (s : State)  (hW : 0x0 &&& W = 0x0) (hP : 0x1 &&& P = 0x1) :
    OutLaw W P s (execPerstNRelease s) := by
  unfold execPerstNRelease
  try dsimp only
  repeat' first
    | with_reducible assumption
    | with_reducible exact OutLaw.fault _
    | with_reducible refine OutLaw.ite (fun _ => ?_) (fun _ => ?_)
    | with_reducible refine OutLaw.next ?_
    | with_reducible exact Law.refl _ _ _
    | exact sub_trans rfl hW
    | exact sub_trans rfl hP
    | dsimp only [id]
    | with_reducible refine Law.put ?_ ?_ ?_ ?_ ?_ ?_ ?_ ?_ ?_ ?_ ?_ ?_ ?_ ?_ ?_ ?_ ?_ ?_ ?_ ?_ ?_ ?_
    | with_reducible exact Or.inl rfl
    | exact Or.inr (partIn hP rfl)

theorem execFunctionLevelReset_law {W P : Nat} (s : State)  (hW : 0x80000000000100000000000000000000000000000000000000000000000800000000001380011e &&& W = 0x80000000000100000000000000000000000000000000000000000000000800000000001380011e) (hP : 0x14100e &&& P = 0x14100e) :
    OutLaw W P s (execFunctionLevelReset s) := by
  unfold execFunctionLevelReset
  try dsimp only
  repeat' first
    | with_reducible assumption
    | with_reducible exact OutLaw.fault _
    | with_reducible refine OutLaw.ite (fun _ => ?_) (fun _ => ?_)
    | with_reducible refine OutLaw.next ?_
    | with_reducible exact Law.refl _ _ _
    | exact sub_trans rfl hW
    | exact sub_trans rfl hP
    | with_reducible refine Law.ite (fun _ => ?_) (fun _ => ?_)
    | with_reducible refine State.endpointReset_law ?_ _  ?_ ?_
    | split
    | dsimp only [id]

theorem execPcieLinkUp_law {W P : Nat} (s : State) (bme msix mask : Bool) (hW : 0x100000000000000000000000000000000000000000000000000000000001380011e &&& W = 0x100000000000000000000000000000000000000000000000000000000001380011e) (hP : 0x14000e &&& P = 0x14000e) :
    OutLaw W P s (execPcieLinkUp bme msix mask s) := by
  unfold execPcieLinkUp
  try dsimp only
  repeat' first
    | with_reducible assumption
    | with_reducible exact OutLaw.fault _
    | with_reducible refine OutLaw.ite (fun _ => ?_) (fun _ => ?_)
    | with_reducible refine OutLaw.next ?_
    | with_reducible exact Law.refl _ _ _
    | exact sub_trans rfl hW
    | exact sub_trans rfl hP
    | with_reducible refine Law.ite (fun _ => ?_) (fun _ => ?_)
    | with_reducible refine State.dmaLost_law ?_   ?_ ?_
    | with_reducible refine State.msixRelease_law ?_   ?_ ?_
    | split
    | dsimp only [id]
    | with_reducible refine Law.put ?_ ?_ ?_ ?_ ?_ ?_ ?_ ?_ ?_ ?_ ?_ ?_ ?_ ?_ ?_ ?_ ?_ ?_ ?_ ?_ ?_ ?_
    | with_reducible exact Or.inl rfl
    | exact Or.inr (partIn hP rfl)

theorem execPcieLinkDown_law {W P : Nat} (s : State) (bmeOnly : Bool) (hW : 0x100000000000000000000000000000000000000000000000000000000001380011e &&& W = 0x100000000000000000000000000000000000000000000000000000000001380011e) (hP : 0x14000e &&& P = 0x14000e) :
    OutLaw W P s (execPcieLinkDown bmeOnly s) := by
  unfold execPcieLinkDown
  try dsimp only
  repeat' first
    | with_reducible assumption
    | with_reducible exact OutLaw.fault _
    | with_reducible refine OutLaw.ite (fun _ => ?_) (fun _ => ?_)
    | with_reducible refine OutLaw.next ?_
    | with_reducible exact Law.refl _ _ _
    | exact sub_trans rfl hW
    | exact sub_trans rfl hP
    | with_reducible refine Law.ite (fun _ => ?_) (fun _ => ?_)
    | with_reducible refine State.dmaLost_law ?_   ?_ ?_
    | split
    | dsimp only [id]
    | with_reducible refine Law.put ?_ ?_ ?_ ?_ ?_ ?_ ?_ ?_ ?_ ?_ ?_ ?_ ?_ ?_ ?_ ?_ ?_ ?_ ?_ ?_ ?_ ?_
    | with_reducible exact Or.inl rfl
    | exact Or.inr (partIn hP rfl)

theorem State.popLatch_law {W P : Nat} {s0 s : State} (h : Law W P s0 s) (ws : List Nat) (hW : 0x2000000000000000000000000000000000000000000000000000000000000000000 &&& W = 0x2000000000000000000000000000000000000000000000000000000000000000000) (hP : 0x0 &&& P = 0x0) :
    Law W P s0 (State.popLatch s ws) := by
  unfold State.popLatch
  try dsimp only
  repeat' first
    | with_reducible assumption
    | with_reducible exact Law.refl _ _ _
    | exact sub_trans rfl hW
    | exact sub_trans rfl hP
    | with_reducible refine State.wr_law ?_ _ _ ?_
    | exact InMask.mk 265 hW rfl rfl (Reg.SP_POP_has _)
    | with_reducible refine Law.foldl _ ?_ (fun _ _ _ => ?_)
    | with_reducible refine Law.foldl_fst _ ?_ (fun _ _ _ _ => ?_)
    | dsimp only [id]

theorem State.popSpout_law {W P : Nat} {s0 s : State} (h : Law W P s0 s) (a : Acc) (hE : InMask W (Reg.ERR_STATUS a.base)) (hO : InMask W (Reg.ERR_OFS a.base)) (hW : 0x2000000000000000000000000000000000000000000000000000000000000000012 &&& W = 0x2000000000000000000000000000000000000000000000000000000000000000012) (hP : 0x10001c &&& P = 0x10001c) :
    Law W P s0 (State.popSpout s a) := by
  unfold State.popSpout
  try dsimp only
  repeat' first
    | with_reducible assumption
    | with_reducible exact Law.refl _ _ _
    | exact sub_trans rfl hW
    | exact sub_trans rfl hP
    | exact hE
    | exact hO
    | with_reducible refine State.guard_law ?_ _ _ _ ?_ ?_ (fun _ _ => ?_) ?_ ?_
    | with_reducible refine State.popLatch_law ?_ _  ?_ ?_
    | with_reducible refine State.answer_law ?_ _ _ ?_ ?_ ?_ ?_
    | with_reducible refine State.setSpClass_law ?_ _ _  ?_ ?_
    | with_reducible refine Law.of_fst (by assumption) ?_
    | split
    | dsimp only [id]
    | with_reducible refine Law.put ?_ ?_ ?_ ?_ ?_ ?_ ?_ ?_ ?_ ?_ ?_ ?_ ?_ ?_ ?_ ?_ ?_ ?_ ?_ ?_ ?_ ?_
    | with_reducible exact Or.inl rfl
    | exact Or.inr (partIn hP rfl)

theorem execSpoutPop_law {W P : Nat} (s : State)  (hW : 0x60000000000000002000000000000000000000000000000000000000000000000000000000000000012 &&& W = 0x60000000000000002000000000000000000000000000000000000000000000000000000000000000012) (hP : 0x10001c &&& P = 0x10001c) :
    OutLaw W P s (execSpoutPop s) := by
  unfold execSpoutPop
  try dsimp only
  repeat' first
    | with_reducible assumption
    | with_reducible exact OutLaw.fault _
    | with_reducible refine OutLaw.ite (fun _ => ?_) (fun _ => ?_)
    | with_reducible refine OutLaw.next ?_
    | with_reducible exact Law.refl _ _ _
    | exact sub_trans rfl hW
    | exact sub_trans rfl hP
    | with_reducible refine State.popSpout_law ?_ _ ?_ ?_ ?_ ?_
    | exact InMask.mk 329 hW rfl rfl (Reg.ERR_STATUS_has_SP)
    | exact InMask.mk 330 hW rfl rfl (Reg.ERR_OFS_has_SP)
    | dsimp only [id]

theorem State.spCredit_law {W P : Nat} {s0 s : State} (h : Law W P s0 s) (a : Acc) (n k : Nat) (back rsv : Bool) (hE : InMask W (Reg.ERR_STATUS a.base)) (hO : InMask W (Reg.ERR_OFS a.base)) (hW : 0x12 &&& W = 0x12) (hP : 0x10000c &&& P = 0x10000c) :
    Law W P s0 (State.spCredit s a n k back rsv) := by
  unfold State.spCredit
  try dsimp only
  repeat' first
    | with_reducible assumption
    | with_reducible exact Law.refl _ _ _
    | exact sub_trans rfl hW
    | exact sub_trans rfl hP
    | exact hE
    | exact hO
    | with_reducible refine Law.ite (fun _ => ?_) (fun _ => ?_)
    | with_reducible refine State.guard_law ?_ _ _ _ ?_ ?_ (fun _ _ => ?_) ?_ ?_
    | with_reducible refine State.setSpClass_law ?_ _ _  ?_ ?_
    | split
    | dsimp only [id]

theorem execSpoutCreditGrant_law {W P : Nat} (s : State) (c n : Nat) (hW : 0x60000000000000000000000000000000000000000000000000000000000000000000000000000000012 &&& W = 0x60000000000000000000000000000000000000000000000000000000000000000000000000000000012) (hP : 0x10000c &&& P = 0x10000c) :
    OutLaw W P s (execSpoutCreditGrant c n s) := by
  unfold execSpoutCreditGrant
  try dsimp only
  repeat' first
    | with_reducible assumption
    | with_reducible exact OutLaw.fault _
    | with_reducible refine OutLaw.ite (fun _ => ?_) (fun _ => ?_)
    | with_reducible refine OutLaw.next ?_
    | with_reducible exact Law.refl _ _ _
    | exact sub_trans rfl hW
    | exact sub_trans rfl hP
    | with_reducible refine Law.ite (fun _ => ?_) (fun _ => ?_)
    | with_reducible refine State.spCredit_law ?_ _ _ _ _ _ ?_ ?_ ?_ ?_
    | exact InMask.mk 329 hW rfl rfl (Reg.ERR_STATUS_has_SP)
    | exact InMask.mk 330 hW rfl rfl (Reg.ERR_OFS_has_SP)
    | split
    | dsimp only [id]

theorem execSpoutCreditRecall_law {W P : Nat} (s : State) (c : Nat) (hW : 0x60000000000000000000000000000000000000000000000000000000000000000000000000000000012 &&& W = 0x60000000000000000000000000000000000000000000000000000000000000000000000000000000012) (hP : 0x10000c &&& P = 0x10000c) :
    OutLaw W P s (execSpoutCreditRecall c s) := by
  unfold execSpoutCreditRecall
  try dsimp only
  repeat' first
    | with_reducible assumption
    | with_reducible exact OutLaw.fault _
    | with_reducible refine OutLaw.ite (fun _ => ?_) (fun _ => ?_)
    | with_reducible refine OutLaw.next ?_
    | with_reducible exact Law.refl _ _ _
    | exact sub_trans rfl hW
    | exact sub_trans rfl hP
    | with_reducible refine Law.ite (fun _ => ?_) (fun _ => ?_)
    | with_reducible refine State.spCredit_law ?_ _ _ _ _ _ ?_ ?_ ?_ ?_
    | exact InMask.mk 329 hW rfl rfl (Reg.ERR_STATUS_has_SP)
    | exact InMask.mk 330 hW rfl rfl (Reg.ERR_OFS_has_SP)
    | split
    | dsimp only [id]

theorem State.spoutTick_law {W P : Nat} {s0 s : State} (h : Law W P s0 s) (hW : 0x3000000000000000000000001c00013e &&& W = 0x3000000000000000000000001c00013e) (hP : 0x11cb0d &&& P = 0x11cb0d) :
    Law W P s0 (State.spoutTick s) := by
  unfold State.spoutTick
  try dsimp only
  repeat' first
    | with_reducible assumption
    | with_reducible exact Law.refl _ _ _
    | exact sub_trans rfl hW
    | exact sub_trans rfl hP
    | with_reducible refine State.tick_law ?_   ?_ ?_
    | dsimp only [id]
    | with_reducible refine Law.put ?_ ?_ ?_ ?_ ?_ ?_ ?_ ?_ ?_ ?_ ?_ ?_ ?_ ?_ ?_ ?_ ?_ ?_ ?_ ?_ ?_ ?_
    | with_reducible exact Or.inl rfl
    | exact Or.inr (partIn hP rfl)

theorem State.htxTail_law {W P : Nat} {s0 s : State} (h : Law W P s0 s) (a : Acc) (v : Nat) (hE : InMask W (Reg.ERR_STATUS a.base)) (hO : InMask W (Reg.ERR_OFS a.base)) (hW : 0x4000000000000000000000000000000000000000000000000000000000000000012 &&& W = 0x4000000000000000000000000000000000000000000000000000000000000000012) (hP : 0x100004 &&& P = 0x100004) :
    Law W P s0 (State.htxTail s a v) := by
  unfold State.htxTail
  try dsimp only
  repeat' first
    | with_reducible assumption
    | with_reducible exact Law.refl _ _ _
    | exact sub_trans rfl hW
    | exact sub_trans rfl hP
    | exact hE
    | exact hO
    | with_reducible refine State.setFld_law ?_ _ _ ?_
    | with_reducible refine State.guard_law ?_ _ _ _ ?_ ?_ (fun _ _ => ?_) ?_ ?_
    | exact InMask.mk 266 hW rfl rfl (Reg.DEV_HTX_TAIL_has)
    | dsimp only [id]

theorem execHtxTailWrite_law {W P : Nat} (s : State) (v : BitVec 32) (hW : 0x60000000000004000000000000000000000000000000000000000000000000000000000000000012 &&& W = 0x60000000000004000000000000000000000000000000000000000000000000000000000000000012) (hP : 0x100004 &&& P = 0x100004) :
    OutLaw W P s (execHtxTailWrite v s) := by
  unfold execHtxTailWrite
  try dsimp only
  repeat' first
    | with_reducible assumption
    | with_reducible exact OutLaw.fault _
    | with_reducible refine OutLaw.ite (fun _ => ?_) (fun _ => ?_)
    | with_reducible refine OutLaw.next ?_
    | with_reducible exact Law.refl _ _ _
    | exact sub_trans rfl hW
    | exact sub_trans rfl hP
    | with_reducible refine State.htxTail_law ?_ _ _ ?_ ?_ ?_ ?_
    | exact InMask.mk 317 hW rfl rfl (Reg.ERR_STATUS_has_DEV)
    | exact InMask.mk 318 hW rfl rfl (Reg.ERR_OFS_has_DEV)
    | dsimp only [id]

theorem State.htxEnds_law {W P : Nat} {s0 s : State} (h : Law W P s0 s) (i : Nat) (d : TxDesc) (result : Nat) (hW : 0x0 &&& W = 0x0) (hP : 0x10 &&& P = 0x10) :
    Law W P s0 (State.htxEnds s i d result) := by
  unfold State.htxEnds
  try dsimp only
  repeat' first
    | with_reducible assumption
    | with_reducible exact Law.refl _ _ _
    | exact sub_trans rfl hW
    | exact sub_trans rfl hP
    | dsimp only [id]
    | with_reducible refine Law.put ?_ ?_ ?_ ?_ ?_ ?_ ?_ ?_ ?_ ?_ ?_ ?_ ?_ ?_ ?_ ?_ ?_ ?_ ?_ ?_ ?_ ?_
    | with_reducible exact Or.inl rfl
    | exact Or.inr (partIn hP rfl)

theorem State.htxFetch_law {W P : Nat} {s0 s : State} (h : Law W P s0 s) (d : TxDesc) (frame : List Byte) (hW : 0x78e001f0000000000000002000000400001e &&& W = 0x78e001f0000000000000002000000400001e) (hP : 0x1c811c &&& P = 0x1c811c) :
    Law W P s0 (State.htxFetch s d frame) := by
  unfold State.htxFetch
  try dsimp only
  repeat' first
    | with_reducible assumption
    | with_reducible exact Law.refl _ _ _
    | exact sub_trans rfl hW
    | exact sub_trans rfl hP
    | with_reducible refine Law.ite (fun _ => ?_) (fun _ => ?_)
    | with_reducible refine State.htxEnds_law ?_ _ _ _  ?_ ?_
    | with_reducible refine State.bufAlloc_law ?_ _ _  ?_ ?_
    | with_reducible refine State.bufFree_law ?_ _ _  ?_ ?_
    | with_reducible refine State.enqueue_law ?_ _ _ _  ?_ ?_
    | with_reducible refine Law.of_fst (by assumption) ?_
    | split
    | dsimp only [id]
    | with_reducible refine Law.put ?_ ?_ ?_ ?_ ?_ ?_ ?_ ?_ ?_ ?_ ?_ ?_ ?_ ?_ ?_ ?_ ?_ ?_ ?_ ?_ ?_ ?_
    | with_reducible exact Or.inl rfl
    | exact Or.inr (partIn hP rfl)

theorem execHtxDescriptorFetched_law {W P : Nat} (s : State) (d : TxDesc) (frame : List Byte) (hW : 0x78e001f0000000000000002000000400001e &&& W = 0x78e001f0000000000000002000000400001e) (hP : 0x1c811c &&& P = 0x1c811c) :
    OutLaw W P s (execHtxDescriptorFetched d frame s) := by
  unfold execHtxDescriptorFetched
  try dsimp only
  repeat' first
    | with_reducible assumption
    | with_reducible exact OutLaw.fault _
    | with_reducible refine OutLaw.ite (fun _ => ?_) (fun _ => ?_)
    | with_reducible refine OutLaw.next ?_
    | with_reducible exact Law.refl _ _ _
    | exact sub_trans rfl hW
    | exact sub_trans rfl hP
    | with_reducible refine Law.ite (fun _ => ?_) (fun _ => ?_)
    | with_reducible refine State.htxFetch_law ?_ _ _  ?_ ?_
    | split
    | dsimp only [id]

theorem State.htxAdvance_law {W P : Nat} {s0 s : State} (h : Law W P s0 s) (x1 : Nat) (hW : 0x8000000000000000000000000000000000000000000000000000000000000000000 &&& W = 0x8000000000000000000000000000000000000000000000000000000000000000000) (hP : 0x10 &&& P = 0x10) :
    Law W P s0 (State.htxAdvance s x1) := by
  induction x1 generalizing s with
  | zero =>
    unfold State.htxAdvance
    try dsimp only
    repeat' first
      | with_reducible assumption
      | with_reducible exact Law.refl _ _ _
      | exact sub_trans rfl hW
      | exact sub_trans rfl hP
      | with_reducible refine Law.ite (fun _ => ?_) (fun _ => ?_)
      | with_reducible refine State.setFld_law ?_ _ _ ?_
      | exact InMask.mk 267 hW rfl rfl (Reg.DEV_HTX_HEAD_has)
      | split
      | dsimp only [id]
      | with_reducible refine Law.put ?_ ?_ ?_ ?_ ?_ ?_ ?_ ?_ ?_ ?_ ?_ ?_ ?_ ?_ ?_ ?_ ?_ ?_ ?_ ?_ ?_ ?_
      | with_reducible exact Or.inl rfl
      | exact Or.inr (partIn hP rfl)
  | succ n ih =>
    unfold State.htxAdvance
    try dsimp only
    repeat' first
      | with_reducible assumption
      | with_reducible apply ih
      | with_reducible exact Law.refl _ _ _
      | exact sub_trans rfl hW
      | exact sub_trans rfl hP
      | with_reducible refine Law.ite (fun _ => ?_) (fun _ => ?_)
      | with_reducible refine State.setFld_law ?_ _ _ ?_
      | exact InMask.mk 267 hW rfl rfl (Reg.DEV_HTX_HEAD_has)
      | split
      | dsimp only [id]
      | with_reducible refine Law.put ?_ ?_ ?_ ?_ ?_ ?_ ?_ ?_ ?_ ?_ ?_ ?_ ?_ ?_ ?_ ?_ ?_ ?_ ?_ ?_ ?_ ?_
      | with_reducible exact Or.inl rfl
      | exact Or.inr (partIn hP rfl)

theorem State.htxGone_law {W P : Nat} {s0 s : State} (h : Law W P s0 s) (idx : Nat) (hW : 0x0 &&& W = 0x0) (hP : 0x10 &&& P = 0x10) :
    Law W P s0 (State.htxGone s idx) := by
  unfold State.htxGone
  try dsimp only
  repeat' first
    | with_reducible assumption
    | with_reducible exact Law.refl _ _ _
    | exact sub_trans rfl hW
    | exact sub_trans rfl hP
    | dsimp only [id]
    | with_reducible refine Law.put ?_ ?_ ?_ ?_ ?_ ?_ ?_ ?_ ?_ ?_ ?_ ?_ ?_ ?_ ?_ ?_ ?_ ?_ ?_ ?_ ?_ ?_
    | with_reducible exact Or.inl rfl
    | exact Or.inr (partIn hP rfl)

theorem State.htxWritten_law {W P : Nat} {s0 s : State} (h : Law W P s0 s) (idx : Nat) (hW : 0x0 &&& W = 0x0) (hP : 0x10 &&& P = 0x10) :
    Law W P s0 (State.htxWritten s idx) := by
  unfold State.htxWritten
  try dsimp only
  repeat' first
    | with_reducible assumption
    | with_reducible exact Law.refl _ _ _
    | exact sub_trans rfl hW
    | exact sub_trans rfl hP
    | dsimp only [id]
    | with_reducible refine Law.put ?_ ?_ ?_ ?_ ?_ ?_ ?_ ?_ ?_ ?_ ?_ ?_ ?_ ?_ ?_ ?_ ?_ ?_ ?_ ?_ ?_ ?_
    | with_reducible exact Or.inl rfl
    | exact Or.inr (partIn hP rfl)

theorem State.htxDone_law {W P : Nat} {s0 s : State} (h : Law W P s0 s) (h : HtxSlot) (hW : 0x19000000000000000000000000000000000000000000000000000000000000000012 &&& W = 0x19000000000000000000000000000000000000000000000000000000000000000012) (hP : 0x100014 &&& P = 0x100014) :
    Law W P s0 (State.htxDone s h) := by
  unfold State.htxDone
  try dsimp only
  repeat' first
    | with_reducible assumption
    | with_reducible exact Law.refl _ _ _
    | exact sub_trans rfl hW
    | exact sub_trans rfl hP
    | with_reducible refine Law.ite (fun _ => ?_) (fun _ => ?_)
    | with_reducible refine State.count_law ?_ _ ?_
    | with_reducible refine State.htxGone_law ?_ _  ?_ ?_
    | with_reducible refine State.dmaWrite_law ?_ _ _ _  ?_ ?_
    | with_reducible refine State.htxWritten_law ?_ _  ?_ ?_
    | with_reducible refine State.htxAdvance_law ?_ _  ?_ ?_
    | with_reducible refine State.raiseCause_law ?_ _  ?_ ?_
    | exact InMask.mk 264 hW rfl rfl (Reg.DEV_HI_CNT_has_5)
    | exact InMask.mk 268 hW rfl rfl (Reg.DEV_HI_CNT_has _)
    | split
    | dsimp only [id]

theorem execHtxWriteBack_law {W P : Nat} (s : State) (idx : Nat) (hW : 0x19000000000000000000000000000000000000000000000000000000000000000012 &&& W = 0x19000000000000000000000000000000000000000000000000000000000000000012) (hP : 0x100014 &&& P = 0x100014) :
    OutLaw W P s (execHtxWriteBack idx s) := by
  unfold execHtxWriteBack
  try dsimp only
  repeat' first
    | with_reducible assumption
    | with_reducible exact OutLaw.fault _
    | with_reducible refine OutLaw.ite (fun _ => ?_) (fun _ => ?_)
    | with_reducible refine OutLaw.next ?_
    | with_reducible exact Law.refl _ _ _
    | exact sub_trans rfl hW
    | exact sub_trans rfl hP
    | with_reducible refine State.htxDone_law ?_ _  ?_ ?_
    | with_reducible refine Law.of_fst (by assumption) ?_
    | split
    | dsimp only [id]

theorem State.pfSelect_law {W P : Nat} {s0 s : State} (h : Law W P s0 s) (a : Acc) (n v : Nat) (hE : InMask W (Reg.ERR_STATUS a.base)) (hO : InMask W (Reg.ERR_OFS a.base)) (hW : 0x20000000000000000000000000000000000000000000000000000000000000000012 &&& W = 0x20000000000000000000000000000000000000000000000000000000000000000012) (hP : 0x100014 &&& P = 0x100014) :
    Law W P s0 (State.pfSelect s a n v) := by
  unfold State.pfSelect
  try dsimp only
  repeat' first
    | with_reducible assumption
    | with_reducible exact Law.refl _ _ _
    | exact sub_trans rfl hW
    | exact sub_trans rfl hP
    | exact hE
    | exact hO
    | with_reducible refine State.wr_law ?_ _ _ ?_
    | with_reducible refine State.guard_law ?_ _ _ _ ?_ ?_ (fun _ _ => ?_) ?_ ?_
    | exact InMask.mk 4 hW rfl rfl (Reg.PF_CNT_has _)
    | exact InMask.mk 269 hW rfl rfl (Reg.PF_SEL_has _)
    | dsimp only [id]
    | with_reducible refine Law.put ?_ ?_ ?_ ?_ ?_ ?_ ?_ ?_ ?_ ?_ ?_ ?_ ?_ ?_ ?_ ?_ ?_ ?_ ?_ ?_ ?_ ?_
    | with_reducible exact Or.inl rfl
    | exact Or.inr (partIn hP rfl)

theorem execPfSelect_law {W P : Nat} (s : State) (n : Nat) (v : BitVec 32) (hW : 0x18000000000000000020000000000000000000000000000000000000000000000000000000000000000012 &&& W = 0x18000000000000000020000000000000000000000000000000000000000000000000000000000000000012) (hP : 0x100014 &&& P = 0x100014) :
    OutLaw W P s (execPfSelect n v s) := by
  unfold execPfSelect
  try dsimp only
  repeat' first
    | with_reducible assumption
    | with_reducible exact OutLaw.fault _
    | with_reducible refine OutLaw.ite (fun _ => ?_) (fun _ => ?_)
    | with_reducible refine OutLaw.next ?_
    | with_reducible exact Law.refl _ _ _
    | exact sub_trans rfl hW
    | exact sub_trans rfl hP
    | with_reducible refine Law.ite (fun _ => ?_) (fun _ => ?_)
    | with_reducible refine State.pfSelect_law ?_ _ _ _ ?_ ?_ ?_ ?_
    | exact InMask.mk 339 hW rfl rfl (Reg.ERR_STATUS_has_PF)
    | exact InMask.mk 340 hW rfl rfl (Reg.ERR_OFS_has_PF)
    | split
    | dsimp only [id]

theorem execDumpSample_law {W P : Nat} (s : State) (prevWritten : Bool) (hW : 0x80000000000000000000000000000000000000000000000000000000000000000001e &&& W = 0x80000000000000000000000000000000000000000000000000000000000000000001e) (hP : 0x10001c &&& P = 0x10001c) :
    OutLaw W P s (execDumpSample prevWritten s) := by
  unfold execDumpSample
  try dsimp only
  repeat' first
    | with_reducible assumption
    | with_reducible exact OutLaw.fault _
    | with_reducible refine OutLaw.ite (fun _ => ?_) (fun _ => ?_)
    | with_reducible refine OutLaw.next ?_
    | with_reducible exact Law.refl _ _ _
    | exact sub_trans rfl hW
    | exact sub_trans rfl hP
    | with_reducible refine Law.ite (fun _ => ?_) (fun _ => ?_)
    | with_reducible refine State.setFld_law ?_ _ _ ?_
    | with_reducible refine State.satAdd_law ?_ _ _ ?_
    | with_reducible refine State.spoutEvent_law ?_ _ _ _ _  ?_ ?_
    | with_reducible refine State.dmaWrite_law ?_ _ _ _  ?_ ?_
    | with_reducible refine State.raiseCause_law ?_ _  ?_ ?_
    | exact InMask.mk 275 hW rfl rfl (Reg.PF_DUMP_STATUS_has)
    | split
    | dsimp only [id]
    | with_reducible refine Law.put ?_ ?_ ?_ ?_ ?_ ?_ ?_ ?_ ?_ ?_ ?_ ?_ ?_ ?_ ?_ ?_ ?_ ?_ ?_ ?_ ?_ ?_
    | with_reducible exact Or.inl rfl
    | exact Or.inr (partIn hP rfl)

theorem State.mdioCmd_law {W P : Nat} {s0 s : State} (h : Law W P s0 s) (a : Acc) (m v : Nat) (hE : InMask W (Reg.ERR_STATUS a.base)) (hO : InMask W (Reg.ERR_OFS a.base)) (hW : 0x40000000000000000000000000000000000000000000000000000000000000000012 &&& W = 0x40000000000000000000000000000000000000000000000000000000000000000012) (hP : 0x100014 &&& P = 0x100014) :
    Law W P s0 (State.mdioCmd s a m v) := by
  unfold State.mdioCmd
  try dsimp only
  repeat' first
    | with_reducible assumption
    | with_reducible exact Law.refl _ _ _
    | exact sub_trans rfl hW
    | exact sub_trans rfl hP
    | exact hE
    | exact hO
    | with_reducible refine State.setFld_law ?_ _ _ ?_
    | with_reducible refine State.guard_law ?_ _ _ _ ?_ ?_ (fun _ _ => ?_) ?_ ?_
    | with_reducible refine State.emit_law ?_ _  ?_ ?_
    | exact InMask.mk 270 hW rfl rfl (Reg.DEV_MDIO_STATUS_has _)
    | dsimp only [id]
    | with_reducible refine Law.put ?_ ?_ ?_ ?_ ?_ ?_ ?_ ?_ ?_ ?_ ?_ ?_ ?_ ?_ ?_ ?_ ?_ ?_ ?_ ?_ ?_ ?_
    | with_reducible exact Or.inl rfl
    | exact Or.inr (partIn hP rfl)

theorem execMdioAddress_law {W P : Nat} (s : State) (m : Nat) (prtad devad : BitVec 5) (data : BitVec 16) (hW : 0x60000000000040000000000000000000000000000000000000000000000000000000000000000012 &&& W = 0x60000000000040000000000000000000000000000000000000000000000000000000000000000012) (hP : 0x100014 &&& P = 0x100014) :
    OutLaw W P s (execMdioAddress m prtad devad data s) := by
  unfold execMdioAddress
  try dsimp only
  repeat' first
    | with_reducible assumption
    | with_reducible exact OutLaw.fault _
    | with_reducible refine OutLaw.ite (fun _ => ?_) (fun _ => ?_)
    | with_reducible refine OutLaw.next ?_
    | with_reducible exact Law.refl _ _ _
    | exact sub_trans rfl hW
    | exact sub_trans rfl hP
    | with_reducible refine Law.ite (fun _ => ?_) (fun _ => ?_)
    | with_reducible refine State.mdioCmd_law ?_ _ _ _ ?_ ?_ ?_ ?_
    | exact InMask.mk 317 hW rfl rfl (Reg.ERR_STATUS_has_DEV)
    | exact InMask.mk 318 hW rfl rfl (Reg.ERR_OFS_has_DEV)
    | split
    | dsimp only [id]

theorem execMdioWrite_law {W P : Nat} (s : State) (m : Nat) (prtad devad : BitVec 5) (data : BitVec 16) (hW : 0x60000000000040000000000000000000000000000000000000000000000000000000000000000012 &&& W = 0x60000000000040000000000000000000000000000000000000000000000000000000000000000012) (hP : 0x100014 &&& P = 0x100014) :
    OutLaw W P s (execMdioWrite m prtad devad data s) := by
  unfold execMdioWrite
  try dsimp only
  repeat' first
    | with_reducible assumption
    | with_reducible exact OutLaw.fault _
    | with_reducible refine OutLaw.ite (fun _ => ?_) (fun _ => ?_)
    | with_reducible refine OutLaw.next ?_
    | with_reducible exact Law.refl _ _ _
    | exact sub_trans rfl hW
    | exact sub_trans rfl hP
    | with_reducible refine Law.ite (fun _ => ?_) (fun _ => ?_)
    | with_reducible refine State.mdioCmd_law ?_ _ _ _ ?_ ?_ ?_ ?_
    | exact InMask.mk 317 hW rfl rfl (Reg.ERR_STATUS_has_DEV)
    | exact InMask.mk 318 hW rfl rfl (Reg.ERR_OFS_has_DEV)
    | split
    | dsimp only [id]

theorem execMdioReadInc_law {W P : Nat} (s : State) (m : Nat) (prtad devad : BitVec 5) (hW : 0x60000000000040000000000000000000000000000000000000000000000000000000000000000012 &&& W = 0x60000000000040000000000000000000000000000000000000000000000000000000000000000012) (hP : 0x100014 &&& P = 0x100014) :
    OutLaw W P s (execMdioReadInc m prtad devad s) := by
  unfold execMdioReadInc
  try dsimp only
  repeat' first
    | with_reducible assumption
    | with_reducible exact OutLaw.fault _
    | with_reducible refine OutLaw.ite (fun _ => ?_) (fun _ => ?_)
    | with_reducible refine OutLaw.next ?_
    | with_reducible exact Law.refl _ _ _
    | exact sub_trans rfl hW
    | exact sub_trans rfl hP
    | with_reducible refine Law.ite (fun _ => ?_) (fun _ => ?_)
    | with_reducible refine State.mdioCmd_law ?_ _ _ _ ?_ ?_ ?_ ?_
    | exact InMask.mk 317 hW rfl rfl (Reg.ERR_STATUS_has_DEV)
    | exact InMask.mk 318 hW rfl rfl (Reg.ERR_OFS_has_DEV)
    | split
    | dsimp only [id]

theorem execMdioRead_law {W P : Nat} (s : State) (m : Nat) (prtad devad : BitVec 5) (hW : 0x60000000000040000000000000000000000000000000000000000000000000000000000000000012 &&& W = 0x60000000000040000000000000000000000000000000000000000000000000000000000000000012) (hP : 0x100014 &&& P = 0x100014) :
    OutLaw W P s (execMdioRead m prtad devad s) := by
  unfold execMdioRead
  try dsimp only
  repeat' first
    | with_reducible assumption
    | with_reducible exact OutLaw.fault _
    | with_reducible refine OutLaw.ite (fun _ => ?_) (fun _ => ?_)
    | with_reducible refine OutLaw.next ?_
    | with_reducible exact Law.refl _ _ _
    | exact sub_trans rfl hW
    | exact sub_trans rfl hP
    | with_reducible refine Law.ite (fun _ => ?_) (fun _ => ?_)
    | with_reducible refine State.mdioCmd_law ?_ _ _ _ ?_ ?_ ?_ ?_
    | exact InMask.mk 317 hW rfl rfl (Reg.ERR_STATUS_has_DEV)
    | exact InMask.mk 318 hW rfl rfl (Reg.ERR_OFS_has_DEV)
    | split
    | dsimp only [id]

theorem execMdioOpDone_law {W P : Nat} (s : State) (m : Nat) (data : BitVec 16) (hW : 0x40000000000000000000000000000000000000000000000000000000000000000002 &&& W = 0x40000000000000000000000000000000000000000000000000000000000000000002) (hP : 0x100014 &&& P = 0x100014) :
    OutLaw W P s (execMdioOpDone m data s) := by
  unfold execMdioOpDone
  try dsimp only
  repeat' first
    | with_reducible assumption
    | with_reducible exact OutLaw.fault _
    | with_reducible refine OutLaw.ite (fun _ => ?_) (fun _ => ?_)
    | with_reducible refine OutLaw.next ?_
    | with_reducible exact Law.refl _ _ _
    | exact sub_trans rfl hW
    | exact sub_trans rfl hP
    | with_reducible refine Law.ite (fun _ => ?_) (fun _ => ?_)
    | with_reducible refine State.setFld_law ?_ _ _ ?_
    | with_reducible refine State.raiseCause_law ?_ _  ?_ ?_
    | exact InMask.mk 270 hW rfl rfl (Reg.DEV_MDIO_STATUS_has _)
    | with_reducible refine Law.of_fst (by assumption) ?_
    | split
    | dsimp only [id]
    | with_reducible refine Law.put ?_ ?_ ?_ ?_ ?_ ?_ ?_ ?_ ?_ ?_ ?_ ?_ ?_ ?_ ?_ ?_ ?_ ?_ ?_ ?_ ?_ ?_
    | with_reducible exact Or.inl rfl
    | exact Or.inr (partIn hP rfl)

theorem State.flashCmd_law {W P : Nat} {s0 s : State} (h : Law W P s0 s) (a : Acc) (op len key : Nat) (hE : InMask W (Reg.ERR_STATUS a.base)) (hO : InMask W (Reg.ERR_OFS a.base)) (hW : 0x80000000000000000000000000000000000000000000000000000000000000000012 &&& W = 0x80000000000000000000000000000000000000000000000000000000000000000012) (hP : 0x100014 &&& P = 0x100014) :
    Law W P s0 (State.flashCmd s a op len key) := by
  unfold State.flashCmd
  try dsimp only
  repeat' first
    | with_reducible assumption
    | with_reducible exact Law.refl _ _ _
    | exact sub_trans rfl hW
    | exact sub_trans rfl hP
    | exact hE
    | exact hO
    | with_reducible refine Law.ite (fun _ => ?_) (fun _ => ?_)
    | with_reducible refine State.setFld_law ?_ _ _ ?_
    | with_reducible refine State.guard_law ?_ _ _ _ ?_ ?_ (fun _ _ => ?_) ?_ ?_
    | with_reducible refine State.emit_law ?_ _  ?_ ?_
    | exact InMask.mk 271 hW rfl rfl (Reg.DEV_FLASH_STATUS_has)
    | split
    | dsimp only [id]
    | with_reducible refine Law.put ?_ ?_ ?_ ?_ ?_ ?_ ?_ ?_ ?_ ?_ ?_ ?_ ?_ ?_ ?_ ?_ ?_ ?_ ?_ ?_ ?_ ?_
    | with_reducible exact Or.inl rfl
    | exact Or.inr (partIn hP rfl)

theorem execFlashRead_law {W P : Nat} (s : State) (len : BitVec 13) (hW : 0x60000000000080000000000000000000000000000000000000000000000000000000000000000012 &&& W = 0x60000000000080000000000000000000000000000000000000000000000000000000000000000012) (hP : 0x100014 &&& P = 0x100014) :
    OutLaw W P s (execFlashRead len s) := by
  unfold execFlashRead
  try dsimp only
  repeat' first
    | with_reducible assumption
    | with_reducible exact OutLaw.fault _
    | with_reducible refine OutLaw.ite (fun _ => ?_) (fun _ => ?_)
    | with_reducible refine OutLaw.next ?_
    | with_reducible exact Law.refl _ _ _
    | exact sub_trans rfl hW
    | exact sub_trans rfl hP
    | with_reducible refine State.flashCmd_law ?_ _ _ _ _ ?_ ?_ ?_ ?_
    | exact InMask.mk 317 hW rfl rfl (Reg.ERR_STATUS_has_DEV)
    | exact InMask.mk 318 hW rfl rfl (Reg.ERR_OFS_has_DEV)
    | dsimp only [id]

theorem execFlashPageProgram_law {W P : Nat} (s : State) (len : BitVec 13) (key : BitVec 16) (hW : 0x60000000000080000000000000000000000000000000000000000000000000000000000000000012 &&& W = 0x60000000000080000000000000000000000000000000000000000000000000000000000000000012) (hP : 0x100014 &&& P = 0x100014) :
    OutLaw W P s (execFlashPageProgram len key s) := by
  unfold execFlashPageProgram
  try dsimp only
  repeat' first
    | with_reducible assumption
    | with_reducible exact OutLaw.fault _
    | with_reducible refine OutLaw.ite (fun _ => ?_) (fun _ => ?_)
    | with_reducible refine OutLaw.next ?_
    | with_reducible exact Law.refl _ _ _
    | exact sub_trans rfl hW
    | exact sub_trans rfl hP
    | with_reducible refine State.flashCmd_law ?_ _ _ _ _ ?_ ?_ ?_ ?_
    | exact InMask.mk 317 hW rfl rfl (Reg.ERR_STATUS_has_DEV)
    | exact InMask.mk 318 hW rfl rfl (Reg.ERR_OFS_has_DEV)
    | dsimp only [id]

theorem execFlashErase4k_law {W P : Nat} (s : State) (key : BitVec 16) (hW : 0x60000000000080000000000000000000000000000000000000000000000000000000000000000012 &&& W = 0x60000000000080000000000000000000000000000000000000000000000000000000000000000012) (hP : 0x100014 &&& P = 0x100014) :
    OutLaw W P s (execFlashErase4k key s) := by
  unfold execFlashErase4k
  try dsimp only
  repeat' first
    | with_reducible assumption
    | with_reducible exact OutLaw.fault _
    | with_reducible refine OutLaw.ite (fun _ => ?_) (fun _ => ?_)
    | with_reducible refine OutLaw.next ?_
    | with_reducible exact Law.refl _ _ _
    | exact sub_trans rfl hW
    | exact sub_trans rfl hP
    | with_reducible refine State.flashCmd_law ?_ _ _ _ _ ?_ ?_ ?_ ?_
    | exact InMask.mk 317 hW rfl rfl (Reg.ERR_STATUS_has_DEV)
    | exact InMask.mk 318 hW rfl rfl (Reg.ERR_OFS_has_DEV)
    | dsimp only [id]

theorem execFlashErase64k_law {W P : Nat} (s : State) (key : BitVec 16) (hW : 0x60000000000080000000000000000000000000000000000000000000000000000000000000000012 &&& W = 0x60000000000080000000000000000000000000000000000000000000000000000000000000000012) (hP : 0x100014 &&& P = 0x100014) :
    OutLaw W P s (execFlashErase64k key s) := by
  unfold execFlashErase64k
  try dsimp only
  repeat' first
    | with_reducible assumption
    | with_reducible exact OutLaw.fault _
    | with_reducible refine OutLaw.ite (fun _ => ?_) (fun _ => ?_)
    | with_reducible refine OutLaw.next ?_
    | with_reducible exact Law.refl _ _ _
    | exact sub_trans rfl hW
    | exact sub_trans rfl hP
    | with_reducible refine State.flashCmd_law ?_ _ _ _ _ ?_ ?_ ?_ ?_
    | exact InMask.mk 317 hW rfl rfl (Reg.ERR_STATUS_has_DEV)
    | exact InMask.mk 318 hW rfl rfl (Reg.ERR_OFS_has_DEV)
    | dsimp only [id]

theorem execFlashReadSfdp_law {W P : Nat} (s : State) (len : BitVec 13) (hW : 0x60000000000080000000000000000000000000000000000000000000000000000000000000000012 &&& W = 0x60000000000080000000000000000000000000000000000000000000000000000000000000000012) (hP : 0x100014 &&& P = 0x100014) :
    OutLaw W P s (execFlashReadSfdp len s) := by
  unfold execFlashReadSfdp
  try dsimp only
  repeat' first
    | with_reducible assumption
    | with_reducible exact OutLaw.fault _
    | with_reducible refine OutLaw.ite (fun _ => ?_) (fun _ => ?_)
    | with_reducible refine OutLaw.next ?_
    | with_reducible exact Law.refl _ _ _
    | exact sub_trans rfl hW
    | exact sub_trans rfl hP
    | with_reducible refine State.flashCmd_law ?_ _ _ _ _ ?_ ?_ ?_ ?_
    | exact InMask.mk 317 hW rfl rfl (Reg.ERR_STATUS_has_DEV)
    | exact InMask.mk 318 hW rfl rfl (Reg.ERR_OFS_has_DEV)
    | dsimp only [id]

theorem State.flashEnd_law {W P : Nat} {s0 s : State} (h : Law W P s0 s) (result : Nat) (hW : 0x80000000000000000000000000000000000000000000000000000000000000000002 &&& W = 0x80000000000000000000000000000000000000000000000000000000000000000002) (hP : 0x100014 &&& P = 0x100014) :
    Law W P s0 (State.flashEnd s result) := by
  unfold State.flashEnd
  try dsimp only
  repeat' first
    | with_reducible assumption
    | with_reducible exact Law.refl _ _ _
    | exact sub_trans rfl hW
    | exact sub_trans rfl hP
    | with_reducible refine State.setFld_law ?_ _ _ ?_
    | with_reducible refine State.raiseCause_law ?_ _  ?_ ?_
    | exact InMask.mk 271 hW rfl rfl (Reg.DEV_FLASH_STATUS_has)
    | dsimp only [id]
    | with_reducible refine Law.put ?_ ?_ ?_ ?_ ?_ ?_ ?_ ?_ ?_ ?_ ?_ ?_ ?_ ?_ ?_ ?_ ?_ ?_ ?_ ?_ ?_ ?_
    | with_reducible exact Or.inl rfl
    | exact Or.inr (partIn hP rfl)

theorem State.flashFill_law {W P : Nat} {s0 s : State} (h : Law W P s0 s) (data : List Byte) (hW : 0x100000000000000000000000000000000000000000000000000000000000000000000 &&& W = 0x100000000000000000000000000000000000000000000000000000000000000000000) (hP : 0x0 &&& P = 0x0) :
    Law W P s0 (State.flashFill s data) := by
  unfold State.flashFill
  try dsimp only
  repeat' first
    | with_reducible assumption
    | with_reducible exact Law.refl _ _ _
    | exact sub_trans rfl hW
    | exact sub_trans rfl hP
    | with_reducible refine State.wr_law ?_ _ _ ?_
    | exact InMask.mk 272 hW rfl rfl (Reg.DEV_FLASH_BUF_has _)
    | with_reducible refine Law.foldl _ ?_ (fun _ _ _ => ?_)
    | with_reducible refine Law.foldl_fst _ ?_ (fun _ _ _ _ => ?_)
    | dsimp only [id]

theorem State.flashRests_law {W P : Nat} {s0 s : State} (h : Law W P s0 s) (hW : 0x0 &&& W = 0x0) (hP : 0x10 &&& P = 0x10) :
    Law W P s0 (State.flashRests s) := by
  unfold State.flashRests
  try dsimp only
  repeat' first
    | with_reducible assumption
    | with_reducible exact Law.refl _ _ _
    | exact sub_trans rfl hW
    | exact sub_trans rfl hP
    | dsimp only [id]
    | with_reducible refine Law.put ?_ ?_ ?_ ?_ ?_ ?_ ?_ ?_ ?_ ?_ ?_ ?_ ?_ ?_ ?_ ?_ ?_ ?_ ?_ ?_ ?_ ?_
    | with_reducible exact Or.inl rfl
    | exact Or.inr (partIn hP rfl)

theorem execFlashOpDone_law {W P : Nat} (s : State) (data : List Byte) (failed : Bool) (sizeMib : BitVec 32) (hW : 0x180002000000000000000000000000000000000000000000000000000000000000002 &&& W = 0x180002000000000000000000000000000000000000000000000000000000000000002) (hP : 0x100014 &&& P = 0x100014) :
    OutLaw W P s (execFlashOpDone data failed sizeMib s) := by
  unfold execFlashOpDone
  try dsimp only
  repeat' first
    | with_reducible assumption
    | with_reducible exact OutLaw.fault _
    | with_reducible refine OutLaw.ite (fun _ => ?_) (fun _ => ?_)
    | with_reducible refine OutLaw.next ?_
    | with_reducible exact Law.refl _ _ _
    | exact sub_trans rfl hW
    | exact sub_trans rfl hP
    | with_reducible refine Law.ite (fun _ => ?_) (fun _ => ?_)
    | with_reducible refine State.setFld_law ?_ _ _ ?_
    | with_reducible refine State.flashRests_law ?_   ?_ ?_
    | with_reducible refine State.flashFill_law ?_ _  ?_ ?_
    | with_reducible refine State.flashEnd_law ?_ _  ?_ ?_
    | exact InMask.mk 253 hW rfl rfl (Reg.DEV_FLASH_INFO_has)
    | split
    | dsimp only [id]
    | with_reducible refine Law.put ?_ ?_ ?_ ?_ ?_ ?_ ?_ ?_ ?_ ?_ ?_ ?_ ?_ ?_ ?_ ?_ ?_ ?_ ?_ ?_ ?_ ?_
    | with_reducible exact Or.inl rfl
    | exact Or.inr (partIn hP rfl)

theorem execFlashOpTimeout_law {W P : Nat} (s : State)  (hW : 0x80000000000000000000000000000000000000000000000000000000000000000002 &&& W = 0x80000000000000000000000000000000000000000000000000000000000000000002) (hP : 0x100014 &&& P = 0x100014) :
    OutLaw W P s (execFlashOpTimeout s) := by
  unfold execFlashOpTimeout
  try dsimp only
  repeat' first
    | with_reducible assumption
    | with_reducible exact OutLaw.fault _
    | with_reducible refine OutLaw.ite (fun _ => ?_) (fun _ => ?_)
    | with_reducible refine OutLaw.next ?_
    | with_reducible exact Law.refl _ _ _
    | exact sub_trans rfl hW
    | exact sub_trans rfl hP
    | with_reducible refine Law.ite (fun _ => ?_) (fun _ => ?_)
    | with_reducible refine State.flashEnd_law ?_ _  ?_ ?_
    | split
    | dsimp only [id]

theorem State.tapLoad_law {W P : Nat} {s0 s : State} (h : Law W P s0 s) (code : Nat) (pins debug : Bool) (hW : 0x200000000000000000000000000000000000000000000000000000000000000000000 &&& W = 0x200000000000000000000000000000000000000000000000000000000000000000000) (hP : 0x100000 &&& P = 0x100000) :
    Law W P s0 (State.tapLoad s code pins debug) := by
  unfold State.tapLoad
  try dsimp only
  repeat' first
    | with_reducible assumption
    | with_reducible exact Law.refl _ _ _
    | exact sub_trans rfl hW
    | exact sub_trans rfl hP
    | with_reducible refine Law.ite (fun _ => ?_) (fun _ => ?_)
    | with_reducible refine State.setFld_law ?_ _ _ ?_
    | with_reducible refine State.flag_law ?_ _ ?_
    | with_reducible refine State.emit_law ?_ _  ?_ ?_
    | exact InMask.mk 273 hW rfl rfl (Reg.DEV_JTAG_has)
    | split
    | dsimp only [id]

theorem execTapExtest_law {W P : Nat} (s : State)  (hW : 0x200000000000000000000000000000000000000000000000000000000000000000000 &&& W = 0x200000000000000000000000000000000000000000000000000000000000000000000) (hP : 0x100000 &&& P = 0x100000) :
    OutLaw W P s (execTapExtest s) := by
  unfold execTapExtest
  try dsimp only
  repeat' first
    | with_reducible assumption
    | with_reducible exact OutLaw.fault _
    | with_reducible refine OutLaw.ite (fun _ => ?_) (fun _ => ?_)
    | with_reducible refine OutLaw.next ?_
    | with_reducible exact Law.refl _ _ _
    | exact sub_trans rfl hW
    | exact sub_trans rfl hP
    | with_reducible refine State.tapLoad_law ?_ _ _ _  ?_ ?_
    | dsimp only [id]

theorem execTapIdcode_law {W P : Nat} (s : State)  (hW : 0x200000000000000000000000000000000000000000000000000000000000000000000 &&& W = 0x200000000000000000000000000000000000000000000000000000000000000000000) (hP : 0x100000 &&& P = 0x100000) :
    OutLaw W P s (execTapIdcode s) := by
  unfold execTapIdcode
  try dsimp only
  repeat' first
    | with_reducible assumption
    | with_reducible exact OutLaw.fault _
    | with_reducible refine OutLaw.ite (fun _ => ?_) (fun _ => ?_)
    | with_reducible refine OutLaw.next ?_
    | with_reducible exact Law.refl _ _ _
    | exact sub_trans rfl hW
    | exact sub_trans rfl hP
    | with_reducible refine State.tapLoad_law ?_ _ _ _  ?_ ?_
    | dsimp only [id]

theorem execTapSamplePreload_law {W P : Nat} (s : State)  (hW : 0x200000000000000000000000000000000000000000000000000000000000000000000 &&& W = 0x200000000000000000000000000000000000000000000000000000000000000000000) (hP : 0x100000 &&& P = 0x100000) :
    OutLaw W P s (execTapSamplePreload s) := by
  unfold execTapSamplePreload
  try dsimp only
  repeat' first
    | with_reducible assumption
    | with_reducible exact OutLaw.fault _
    | with_reducible refine OutLaw.ite (fun _ => ?_) (fun _ => ?_)
    | with_reducible refine OutLaw.next ?_
    | with_reducible exact Law.refl _ _ _
    | exact sub_trans rfl hW
    | exact sub_trans rfl hP
    | with_reducible refine State.tapLoad_law ?_ _ _ _  ?_ ?_
    | dsimp only [id]

theorem execTapClamp_law {W P : Nat} (s : State)  (hW : 0x200000000000000000000000000000000000000000000000000000000000000000000 &&& W = 0x200000000000000000000000000000000000000000000000000000000000000000000) (hP : 0x100000 &&& P = 0x100000) :
    OutLaw W P s (execTapClamp s) := by
  unfold execTapClamp
  try dsimp only
  repeat' first
    | with_reducible assumption
    | with_reducible exact OutLaw.fault _
    | with_reducible refine OutLaw.ite (fun _ => ?_) (fun _ => ?_)
    | with_reducible refine OutLaw.next ?_
    | with_reducible exact Law.refl _ _ _
    | exact sub_trans rfl hW
    | exact sub_trans rfl hP
    | with_reducible refine State.tapLoad_law ?_ _ _ _  ?_ ?_
    | dsimp only [id]

theorem execTapHighz_law {W P : Nat} (s : State)  (hW : 0x200000000000000000000000000000000000000000000000000000000000000000000 &&& W = 0x200000000000000000000000000000000000000000000000000000000000000000000) (hP : 0x100000 &&& P = 0x100000) :
    OutLaw W P s (execTapHighz s) := by
  unfold execTapHighz
  try dsimp only
  repeat' first
    | with_reducible assumption
    | with_reducible exact OutLaw.fault _
    | with_reducible refine OutLaw.ite (fun _ => ?_) (fun _ => ?_)
    | with_reducible refine OutLaw.next ?_
    | with_reducible exact Law.refl _ _ _
    | exact sub_trans rfl hW
    | exact sub_trans rfl hP
    | with_reducible refine State.tapLoad_law ?_ _ _ _  ?_ ?_
    | dsimp only [id]

theorem execTapExtestPulse_law {W P : Nat} (s : State)  (hW : 0x200000000000000000000000000000000000000000000000000000000000000000000 &&& W = 0x200000000000000000000000000000000000000000000000000000000000000000000) (hP : 0x100000 &&& P = 0x100000) :
    OutLaw W P s (execTapExtestPulse s) := by
  unfold execTapExtestPulse
  try dsimp only
  repeat' first
    | with_reducible assumption
    | with_reducible exact OutLaw.fault _
    | with_reducible refine OutLaw.ite (fun _ => ?_) (fun _ => ?_)
    | with_reducible refine OutLaw.next ?_
    | with_reducible exact Law.refl _ _ _
    | exact sub_trans rfl hW
    | exact sub_trans rfl hP
    | with_reducible refine State.tapLoad_law ?_ _ _ _  ?_ ?_
    | dsimp only [id]

theorem execTapExtestTrain_law {W P : Nat} (s : State)  (hW : 0x200000000000000000000000000000000000000000000000000000000000000000000 &&& W = 0x200000000000000000000000000000000000000000000000000000000000000000000) (hP : 0x100000 &&& P = 0x100000) :
    OutLaw W P s (execTapExtestTrain s) := by
  unfold execTapExtestTrain
  try dsimp only
  repeat' first
    | with_reducible assumption
    | with_reducible exact OutLaw.fault _
    | with_reducible refine OutLaw.ite (fun _ => ?_) (fun _ => ?_)
    | with_reducible refine OutLaw.next ?_
    | with_reducible exact Law.refl _ _ _
    | exact sub_trans rfl hW
    | exact sub_trans rfl hP
    | with_reducible refine State.tapLoad_law ?_ _ _ _  ?_ ?_
    | dsimp only [id]

theorem execTapPrivateDebug_law {W P : Nat} (s : State) (code : BitVec 8) (hW : 0x200000000000000000000000000000000000000000000000000000000000000000000 &&& W = 0x200000000000000000000000000000000000000000000000000000000000000000000) (hP : 0x100000 &&& P = 0x100000) :
    OutLaw W P s (execTapPrivateDebug code s) := by
  unfold execTapPrivateDebug
  try dsimp only
  repeat' first
    | with_reducible assumption
    | with_reducible exact OutLaw.fault _
    | with_reducible refine OutLaw.ite (fun _ => ?_) (fun _ => ?_)
    | with_reducible refine OutLaw.next ?_
    | with_reducible exact Law.refl _ _ _
    | exact sub_trans rfl hW
    | exact sub_trans rfl hP
    | with_reducible refine Law.ite (fun _ => ?_) (fun _ => ?_)
    | with_reducible refine State.tapLoad_law ?_ _ _ _  ?_ ?_
    | split
    | dsimp only [id]

theorem execTapBypass_law {W P : Nat} (s : State) (code : BitVec 8) (hW : 0x200000000000000000000000000000000000000000000000000000000000000000000 &&& W = 0x200000000000000000000000000000000000000000000000000000000000000000000) (hP : 0x100000 &&& P = 0x100000) :
    OutLaw W P s (execTapBypass code s) := by
  unfold execTapBypass
  try dsimp only
  repeat' first
    | with_reducible assumption
    | with_reducible exact OutLaw.fault _
    | with_reducible refine OutLaw.ite (fun _ => ?_) (fun _ => ?_)
    | with_reducible refine OutLaw.next ?_
    | with_reducible exact Law.refl _ _ _
    | exact sub_trans rfl hW
    | exact sub_trans rfl hP
    | with_reducible refine Law.ite (fun _ => ?_) (fun _ => ?_)
    | with_reducible refine State.tapLoad_law ?_ _ _ _  ?_ ?_
    | split
    | dsimp only [id]

theorem execTemperatureRead_law {W P : Nat} (s : State) (tj mem : List Int) (hW : 0x1c0000000000000000000000000000000000000000000000000000000000000000000000000000 &&& W = 0x1c0000000000000000000000000000000000000000000000000000000000000000000000000000) (hP : 0x0 &&& P = 0x0) :
    OutLaw W P s (execTemperatureRead tj mem s) := by
  unfold execTemperatureRead
  try dsimp only
  repeat' first
    | with_reducible assumption
    | with_reducible exact OutLaw.fault _
    | with_reducible refine OutLaw.ite (fun _ => ?_) (fun _ => ?_)
    | with_reducible refine OutLaw.next ?_
    | with_reducible exact Law.refl _ _ _
    | exact sub_trans rfl hW
    | exact sub_trans rfl hP
    | with_reducible refine Law.ite (fun _ => ?_) (fun _ => ?_)
    | with_reducible refine State.setFld_law ?_ _ _ ?_
    | with_reducible refine State.wr_law ?_ _ _ ?_
    | with_reducible refine State.flagBits_law ?_ _ _ ?_
    | with_reducible refine State.flag_law ?_ _ ?_
    | exact InMask.mk 306 hW rfl rfl (Reg.DEV_TEMP_has)
    | exact InMask.mk 307 hW rfl rfl (Reg.DEV_TEMP_MEM_has)
    | exact InMask.mk 308 hW rfl rfl (Reg.DEV_TEMP_FLAGS_has)
    | with_reducible refine Law.of_fst (by assumption) ?_
    | split
    | dsimp only [id]

theorem execSupplyOutOfRange_law {W P : Nat} (s : State) (r : Nat) (high : Bool) (hW : 0x800000000000000000000000000000000000000000000000000000000000000000000001c00012e &&& W = 0x800000000000000000000000000000000000000000000000000000000000000000000001c00012e) (hP : 0x10400d &&& P = 0x10400d) :
    OutLaw W P s (execSupplyOutOfRange r high s) := by
  unfold execSupplyOutOfRange
  try dsimp only
  repeat' first
    | with_reducible assumption
    | with_reducible exact OutLaw.fault _
    | with_reducible refine OutLaw.ite (fun _ => ?_) (fun _ => ?_)
    | with_reducible refine OutLaw.next ?_
    | with_reducible exact Law.refl _ _ _
    | exact sub_trans rfl hW
    | exact sub_trans rfl hP
    | with_reducible refine Law.ite (fun _ => ?_) (fun _ => ?_)
    | with_reducible refine State.flagBit_law ?_ _ _ ?_
    | with_reducible refine State.fatal_law ?_ _  ?_ ?_
    | exact InMask.mk 315 hW rfl rfl (Reg.DEV_PWR_FLAGS_has)
    | split
    | dsimp only [id]
    | with_reducible refine Law.put ?_ ?_ ?_ ?_ ?_ ?_ ?_ ?_ ?_ ?_ ?_ ?_ ?_ ?_ ?_ ?_ ?_ ?_ ?_ ?_ ?_ ?_
    | with_reducible exact Or.inl rfl
    | exact Or.inr (partIn hP rfl)

end Sys2Proof.Machine
end

