-- ==== Sys2Proof/Laws/LawHostWrite.lean ====
section
/-! SUPPORT. The law of every operation of Machine/HostWrite.lean: what it may change (Laws/Law.lean). -/

set_option linter.all false

namespace Sys2Proof.Machine

theorem State.store_law {W P : Nat} {s0 s : State} (h : Law W P s0 s) (c : Card) (x v : Nat) (ha : InMask W x) (hW : 0x0 &&& W = 0x0) (hP : 0x0 &&& P = 0x0) :
    Law W P s0 (State.store s c x v) := by
  unfold State.store
  try dsimp only
  repeat' first
    | with_reducible assumption
    | with_reducible exact Law.refl _ _ _
    | exact sub_trans rfl hW
    | exact sub_trans rfl hP
    | exact ha
    | with_reducible refine State.wr_law ?_ _ _ ?_
    | dsimp only [id]

theorem State.plain_law {W P : Nat} {s0 s : State} (h : Law W P s0 s) (a : Acc) (x v : Nat) (c : Card) (checks : List (Bool × Nat)) (hE : InMask W (Reg.ERR_STATUS a.base)) (hO : InMask W (Reg.ERR_OFS a.base)) (hW : 0x1fffffffffffffffffffffffffffffffffffffffffffffffffffffffffffffffffffffffffffffffffffffff &&& W = 0x1fffffffffffffffffffffffffffffffffffffffffffffffffffffffffffffffffffffffffffffffffffffff) (hP : 0x100004 &&& P = 0x100004) :
    Law W P s0 (State.plain s a x v c checks) := by
  unfold State.plain
  try dsimp only
  repeat' first
    | with_reducible assumption
    | with_reducible exact Law.refl _ _ _
    | exact sub_trans rfl hW
    | exact sub_trans rfl hP
    | exact hE
    | exact hO
    | with_reducible refine State.guard_law ?_ _ _ _ ?_ ?_ (fun _ _ => ?_) ?_ ?_
    | with_reducible refine State.store_law ?_ _ _ _ ?_ ?_ ?_
    | exact InMask.all hW rfl _
    | dsimp only [id]

theorem State.errClear_law {W P : Nat} {s0 s : State} (h : Law W P s0 s) (a : Acc) (v : Nat) (hE : InMask W (Reg.ERR_STATUS a.base)) (hO : InMask W (Reg.ERR_OFS a.base)) (hW : 0x12 &&& W = 0x12) (hP : 0x100004 &&& P = 0x100004) :
    Law W P s0 (State.errClear s a v) := by
  unfold State.errClear
  try dsimp only
  repeat' first
    | with_reducible assumption
    | with_reducible exact Law.refl _ _ _
    | exact sub_trans rfl hW
    | exact sub_trans rfl hP
    | exact hE
    | exact hO
    | with_reducible refine Law.ite (fun _ => ?_) (fun _ => ?_)
    | with_reducible refine State.wr_law ?_ _ _ ?_
    | with_reducible refine State.guard_law ?_ _ _ _ ?_ ?_ (fun _ _ => ?_) ?_ ?_
    | split
    | dsimp only [id]

theorem State.fatalClear_law {W P : Nat} {s0 s : State} (h : Law W P s0 s) (a : Acc) (v : Nat) (c : Card) (hE : InMask W (Reg.ERR_STATUS a.base)) (hO : InMask W (Reg.ERR_OFS a.base)) (hW : 0x1c00013e &&& W = 0x1c00013e) (hP : 0x10400d &&& P = 0x10400d) :
    Law W P s0 (State.fatalClear s a v c) := by
  unfold State.fatalClear
  try dsimp only
  repeat' first
    | with_reducible assumption
    | with_reducible exact Law.refl _ _ _
    | exact sub_trans rfl hW
    | exact sub_trans rfl hP
    | exact hE
    | exact hO
    | with_reducible refine Law.ite (fun _ => ?_) (fun _ => ?_)
    | with_reducible refine State.guard_law ?_ _ _ _ ?_ ?_ (fun _ _ => ?_) ?_ ?_
    | with_reducible refine State.store_law ?_ _ _ _ ?_ ?_ ?_
    | with_reducible refine State.fatal_law ?_ _  ?_ ?_
    | exact InMask.mk 5 hW rfl rfl (Reg.DEV_FATAL_has)
    | with_reducible refine Law.foldl _ ?_ (fun _ _ _ => ?_)
    | with_reducible refine Law.foldl_fst _ ?_ (fun _ _ _ _ => ?_)
    | split
    | dsimp only [id]

theorem State.ringWrite_law {W P : Nat} {s0 s : State} (h : Law W P s0 s) (a : Acc) (o v : Nat) (c : Card) (hE : InMask W (Reg.ERR_STATUS a.base)) (hO : InMask W (Reg.ERR_OFS a.base)) (hW : 0x1fffffffffffffffffffffffffffffffffffffffffffffffffffffffffffffffffffffffffffffffffffffff &&& W = 0x1fffffffffffffffffffffffffffffffffffffffffffffffffffffffffffffffffffffffffffffffffffffff) (hP : 0x100004 &&& P = 0x100004) :
    Law W P s0 (State.ringWrite s a o v c) := by
  unfold State.ringWrite
  try dsimp only
  repeat' first
    | with_reducible assumption
    | with_reducible exact Law.refl _ _ _
    | exact sub_trans rfl hW
    | exact sub_trans rfl hP
    | exact hE
    | exact hO
    | with_reducible refine Law.ite (fun _ => ?_) (fun _ => ?_)
    | with_reducible refine State.plain_law ?_ _ _ _ _ _ ?_ ?_ ?_ ?_
    | with_reducible refine State.htxTail_law ?_ _ _ ?_ ?_ ?_ ?_
    | exact InMask.all hW rfl _
    | split
    | dsimp only [id]

theorem State.irqWrite_law {W P : Nat} {s0 s : State} (h : Law W P s0 s) (a : Acc) (o v : Nat) (c : Card) (hE : InMask W (Reg.ERR_STATUS a.base)) (hO : InMask W (Reg.ERR_OFS a.base)) (hW : 0x1fffffffffffffffffffffffffffffffffffffffffffffffffffffffffffffffffffffffffffffffffffffff &&& W = 0x1fffffffffffffffffffffffffffffffffffffffffffffffffffffffffffffffffffffffffffffffffffffff) (hP : 0x100004 &&& P = 0x100004) :
    Law W P s0 (State.irqWrite s a o v c) := by
  unfold State.irqWrite
  try dsimp only
  repeat' first
    | with_reducible assumption
    | with_reducible exact Law.refl _ _ _
    | exact sub_trans rfl hW
    | exact sub_trans rfl hP
    | exact hE
    | exact hO
    | with_reducible refine Law.ite (fun _ => ?_) (fun _ => ?_)
    | with_reducible refine State.guard_law ?_ _ _ _ ?_ ?_ (fun _ _ => ?_) ?_ ?_
    | with_reducible refine State.store_law ?_ _ _ _ ?_ ?_ ?_
    | with_reducible refine State.vecUpdate_law ?_ _  ?_ ?_
    | with_reducible refine State.vecsEval_law ?_   ?_ ?_
    | exact InMask.all hW rfl _
    | split
    | dsimp only [id]

theorem State.devWrite_law {W P : Nat} {s0 s : State} (h : Law W P s0 s) (a : Acc) (o v : Nat) (c : Card) (hE : InMask W (Reg.ERR_STATUS a.base)) (hO : InMask W (Reg.ERR_OFS a.base)) (hW : 0x1fffffffffffffffffffffffffffffffffffffffffffffffffffffffffffffffffffffffffffffffffffffff &&& W = 0x1fffffffffffffffffffffffffffffffffffffffffffffffffffffffffffffffffffffffffffffffffffffff) (hP : 0x1fffff &&& P = 0x1fffff) :
    Law W P s0 (State.devWrite s a o v c) := by
  unfold State.devWrite
  try dsimp only
  repeat' first
    | with_reducible assumption
    | with_reducible exact Law.refl _ _ _
    | exact sub_trans rfl hW
    | exact sub_trans rfl hP
    | exact hE
    | exact hO
    | with_reducible refine Law.ite (fun _ => ?_) (fun _ => ?_)
    | with_reducible refine State.modeReq_law ?_ _ _ _ ?_ ?_ ?_ ?_
    | with_reducible refine State.devReset_law ?_ _ _ _ ?_ ?_ ?_ ?_
    | with_reducible refine State.plain_law ?_ _ _ _ _ _ ?_ ?_ ?_ ?_
    | with_reducible refine State.fatalClear_law ?_ _ _ _ ?_ ?_ ?_ ?_
    | with_reducible refine State.irqWrite_law ?_ _ _ _ _ ?_ ?_ ?_ ?_
    | with_reducible refine State.mdioCmd_law ?_ _ _ _ ?_ ?_ ?_ ?_
    | with_reducible refine State.flashCmd_law ?_ _ _ _ _ ?_ ?_ ?_ ?_
    | with_reducible refine State.ringWrite_law ?_ _ _ _ _ ?_ ?_ ?_ ?_
    | exact InMask.all hW rfl _
    | split
    | dsimp only [id]

theorem State.imgWrite_law {W P : Nat} {s0 s : State} (h : Law W P s0 s) (a : Acc) (x v : Nat) (c : Card) (hE : InMask W (Reg.ERR_STATUS a.base)) (hO : InMask W (Reg.ERR_OFS a.base)) (hW : 0x1fffffffffffffffffffffffffffffffffffffffffffffffffffffffffffffffffffffffffffffffffffffff &&& W = 0x1fffffffffffffffffffffffffffffffffffffffffffffffffffffffffffffffffffffffffffffffffffffff) (hP : 0x140044 &&& P = 0x140044) :
    Law W P s0 (State.imgWrite s a x v c) := by
  unfold State.imgWrite
  try dsimp only
  repeat' first
    | with_reducible assumption
    | with_reducible exact Law.refl _ _ _
    | exact sub_trans rfl hW
    | exact sub_trans rfl hP
    | exact hE
    | exact hO
    | with_reducible refine Law.ite (fun _ => ?_) (fun _ => ?_)
    | with_reducible refine State.imgCmd_law ?_ _ _ _ ?_ ?_ ?_ ?_
    | with_reducible refine State.plain_law ?_ _ _ _ _ _ ?_ ?_ ?_ ?_
    | exact InMask.all hW rfl _
    | split
    | dsimp only [id]

theorem State.alarmCfg_law {W P : Nat} {s0 s : State} (h : Law W P s0 s) (a : Acc) (n v : Nat) (hE : InMask W (Reg.ERR_STATUS a.base)) (hO : InMask W (Reg.ERR_OFS a.base)) (hW : 0x800000000012 &&& W = 0x800000000012) (hP : 0x100004 &&& P = 0x100004) :
    Law W P s0 (State.alarmCfg s a n v) := by
  unfold State.alarmCfg
  try dsimp only
  repeat' first
    | with_reducible assumption
    | with_reducible exact Law.refl _ _ _
    | exact sub_trans rfl hW
    | exact sub_trans rfl hP
    | exact hE
    | exact hO
    | with_reducible refine Law.ite (fun _ => ?_) (fun _ => ?_)
    | with_reducible refine State.setFld_law ?_ _ _ ?_
    | with_reducible refine State.alarmArm_law ?_ _ _ _ _ ?_ ?_ ?_ ?_
    | with_reducible refine State.guard_law ?_ _ _ _ ?_ ?_ (fun _ _ => ?_) ?_ ?_
    | exact InMask.mk 47 hW rfl rfl (Reg.KT_ALM_CFG_has _)
    | split
    | dsimp only [id]

theorem State.pairCtrl_law {W P : Nat} {s0 s : State} (h : Law W P s0 s) (a : Acc) (k v : Nat) (hE : InMask W (Reg.ERR_STATUS a.base)) (hO : InMask W (Reg.ERR_OFS a.base)) (hW : 0x10000000012 &&& W = 0x10000000012) (hP : 0x100004 &&& P = 0x100004) :
    Law W P s0 (State.pairCtrl s a k v) := by
  unfold State.pairCtrl
  try dsimp only
  repeat' first
    | with_reducible assumption
    | with_reducible exact Law.refl _ _ _
    | exact sub_trans rfl hW
    | exact sub_trans rfl hP
    | exact hE
    | exact hO
    | with_reducible refine Law.ite (fun _ => ?_) (fun _ => ?_)
    | with_reducible refine State.guard_law ?_ _ _ _ ?_ ?_ (fun _ _ => ?_) ?_ ?_
    | with_reducible refine State.holdPartner_law ?_ _ _ ?_ ?_ ?_ ?_
    | with_reducible refine State.usePrimary_law ?_ _ _ ?_ ?_ ?_ ?_
    | split
    | dsimp only [id]

theorem State.ofsCredit_law {W P : Nat} {s0 s : State} (h : Law W P s0 s) (a : Acc) (d v : Nat) (hE : InMask W (Reg.ERR_STATUS a.base)) (hO : InMask W (Reg.ERR_OFS a.base)) (hW : 0x40000000012 &&& W = 0x40000000012) (hP : 0x100004 &&& P = 0x100004) :
    Law W P s0 (State.ofsCredit s a d v) := by
  unfold State.ofsCredit
  try dsimp only
  repeat' first
    | with_reducible assumption
    | with_reducible exact Law.refl _ _ _
    | exact sub_trans rfl hW
    | exact sub_trans rfl hP
    | exact hE
    | exact hO
    | with_reducible refine Law.ite (fun _ => ?_) (fun _ => ?_)
    | with_reducible refine State.guard_law ?_ _ _ _ ?_ ?_ (fun _ _ => ?_) ?_ ?_
    | with_reducible refine State.feedRecall_law ?_ _ _ ?_ ?_ ?_ ?_
    | with_reducible refine State.feedGrant_law ?_ _ _ _ ?_ ?_ ?_ ?_
    | split
    | dsimp only [id]

theorem State.domWrite_law {W P : Nat} {s0 s : State} (h : Law W P s0 s) (a : Acc) (x d v : Nat) (c : Card) (hE : InMask W (Reg.ERR_STATUS a.base)) (hO : InMask W (Reg.ERR_OFS a.base)) (hW : 0x1fffffffffffffffffffffffffffffffffffffffffffffffffffffffffffffffffffffffffffffffffffffff &&& W = 0x1fffffffffffffffffffffffffffffffffffffffffffffffffffffffffffffffffffffffffffffffffffffff) (hP : 0x100104 &&& P = 0x100104) :
    Law W P s0 (State.domWrite s a x d v c) := by
  unfold State.domWrite
  try dsimp only
  repeat' first
    | with_reducible assumption
    | with_reducible exact Law.refl _ _ _
    | exact sub_trans rfl hW
    | exact sub_trans rfl hP
    | exact hE
    | exact hO
    | with_reducible refine Law.ite (fun _ => ?_) (fun _ => ?_)
    | with_reducible refine State.setFld_law ?_ _ _ ?_
    | with_reducible refine State.plain_law ?_ _ _ _ _ _ ?_ ?_ ?_ ?_
    | with_reducible refine State.guard_law ?_ _ _ _ ?_ ?_ (fun _ _ => ?_) ?_ ?_
    | with_reducible refine State.setFeed_law ?_ _ _  ?_ ?_
    | with_reducible refine State.incWrite_law ?_ _ _ _ ?_ ?_ ?_ ?_
    | with_reducible refine State.hostFeedPush_law ?_ _ _ _ ?_ ?_ ?_ ?_
    | with_reducible refine State.ofsCredit_law ?_ _ _ _ ?_ ?_ ?_ ?_
    | exact InMask.all hW rfl _
    | exact InMask.mk 241 hW rfl rfl (Reg.KT_SLEW_has _)
    | split
    | dsimp only [id]

theorem State.ktWrite_law {W P : Nat} {s0 s : State} (h : Law W P s0 s) (a : Acc) (x v : Nat) (c : Card) (hE : InMask W (Reg.ERR_STATUS a.base)) (hO : InMask W (Reg.ERR_OFS a.base)) (hW : 0x1fffffffffffffffffffffffffffffffffffffffffffffffffffffffffffffffffffffffffffffffffffffff &&& W = 0x1fffffffffffffffffffffffffffffffffffffffffffffffffffffffffffffffffffffffffffffffffffffff) (hP : 0x140104 &&& P = 0x140104) :
    Law W P s0 (State.ktWrite s a x v c) := by
  unfold State.ktWrite
  try dsimp only
  repeat' first
    | with_reducible assumption
    | with_reducible exact Law.refl _ _ _
    | exact sub_trans rfl hW
    | exact sub_trans rfl hP
    | exact hE
    | exact hO
    | with_reducible refine Law.ite (fun _ => ?_) (fun _ => ?_)
    | with_reducible refine State.domWrite_law ?_ _ _ _ _ _ ?_ ?_ ?_ ?_
    | with_reducible refine State.fhtHost_law ?_ _ _ ?_ ?_ ?_ ?_
    | with_reducible refine State.guard_law ?_ _ _ _ ?_ ?_ (fun _ _ => ?_) ?_ ?_
    | with_reducible refine State.snap_law ?_ _ ?_ ?_ ?_ ?_
    | with_reducible refine State.plain_law ?_ _ _ _ _ _ ?_ ?_ ?_ ?_
    | with_reducible refine State.alarmCfg_law ?_ _ _ _ ?_ ?_ ?_ ?_
    | with_reducible refine State.pairCtrl_law ?_ _ _ _ ?_ ?_ ?_ ?_
    | exact InMask.all hW rfl _
    | split
    | dsimp only [id]

theorem State.phWrite_law {W P : Nat} {s0 s : State} (h : Law W P s0 s) (a : Acc) (x v : Nat) (c : Card) (hE : InMask W (Reg.ERR_STATUS a.base)) (hO : InMask W (Reg.ERR_OFS a.base)) (hW : 0x1fffffffffffffffffffffffffffffffffffffffffffffffffffffffffffffffffffffffffffffffffffffff &&& W = 0x1fffffffffffffffffffffffffffffffffffffffffffffffffffffffffffffffffffffffffffffffffffffff) (hP : 0x101004 &&& P = 0x101004) :
    Law W P s0 (State.phWrite s a x v c) := by
  unfold State.phWrite
  try dsimp only
  repeat' first
    | with_reducible assumption
    | with_reducible exact Law.refl _ _ _
    | exact sub_trans rfl hW
    | exact sub_trans rfl hP
    | exact hE
    | exact hO
    | with_reducible refine Law.ite (fun _ => ?_) (fun _ => ?_)
    | with_reducible refine State.recal_law ?_ _ _ _ ?_ ?_ ?_ ?_
    | with_reducible refine State.plain_law ?_ _ _ _ _ _ ?_ ?_ ?_ ?_
    | with_reducible refine State.fmConfig_law ?_ _ _ _ ?_ ?_ ?_ ?_
    | with_reducible refine State.sqConfig_law ?_ _ _ _ ?_ ?_ ?_ ?_
    | with_reducible refine State.sqCredit_law ?_ _ _ _ _ _ ?_ ?_ ?_ ?_
    | exact InMask.all hW rfl _
    | split
    | dsimp only [id]

theorem State.plsReg_law {W P : Nat} {s0 s : State} (h : Law W P s0 s) (a : Acc) (x n v : Nat) (c : Card) (hE : InMask W (Reg.ERR_STATUS a.base)) (hO : InMask W (Reg.ERR_OFS a.base)) (hW : 0x1fffffffffffffffffffffffffffffffffffffffffffffffffffffffffffffffffffffffffffffffffffffff &&& W = 0x1fffffffffffffffffffffffffffffffffffffffffffffffffffffffffffffffffffffffffffffffffffffff) (hP : 0x101004 &&& P = 0x101004) :
    Law W P s0 (State.plsReg s a x n v c) := by
  unfold State.plsReg
  try dsimp only
  repeat' first
    | with_reducible assumption
    | with_reducible exact Law.refl _ _ _
    | exact sub_trans rfl hW
    | exact sub_trans rfl hP
    | exact hE
    | exact hO
    | with_reducible refine Law.ite (fun _ => ?_) (fun _ => ?_)
    | with_reducible refine State.plsWrite_law ?_ _ _ _ _ _ _ ?_ ?_ ?_ ?_ ?_
    | with_reducible refine State.plsCtrl_law ?_ _ _ _ ?_ ?_ ?_ ?_
    | with_reducible refine State.plain_law ?_ _ _ _ _ _ ?_ ?_ ?_ ?_
    | exact InMask.all hW rfl _
    | split
    | dsimp only [id]

theorem State.pinWrite_law {W P : Nat} {s0 s : State} (h : Law W P s0 s) (a : Acc) (x v : Nat) (c : Card) (hE : InMask W (Reg.ERR_STATUS a.base)) (hO : InMask W (Reg.ERR_OFS a.base)) (hW : 0x1fffffffffffffffffffffffffffffffffffffffffffffffffffffffffffffffffffffffffffffffffffffff &&& W = 0x1fffffffffffffffffffffffffffffffffffffffffffffffffffffffffffffffffffffffffffffffffffffff) (hP : 0x101004 &&& P = 0x101004) :
    Law W P s0 (State.pinWrite s a x v c) := by
  unfold State.pinWrite
  try dsimp only
  repeat' first
    | with_reducible assumption
    | with_reducible exact Law.refl _ _ _
    | exact sub_trans rfl hW
    | exact sub_trans rfl hP
    | exact hE
    | exact hO
    | with_reducible refine Law.ite (fun _ => ?_) (fun _ => ?_)
    | with_reducible refine State.evtConfig_law ?_ _ _ _ ?_ ?_ ?_ ?_
    | with_reducible refine State.plsReg_law ?_ _ _ _ _ _ ?_ ?_ ?_ ?_
    | with_reducible refine State.clkFreq_law ?_ _ _ _ ?_ ?_ ?_ ?_
    | with_reducible refine State.clkEnable_law ?_ _ _ _ ?_ ?_ ?_ ?_
    | with_reducible refine State.plain_law ?_ _ _ _ _ _ ?_ ?_ ?_ ?_
    | exact InMask.all hW rfl _
    | split
    | dsimp only [id]

theorem State.spWrite_law {W P : Nat} {s0 s : State} (h : Law W P s0 s) (a : Acc) (x v : Nat) (c : Card) (hE : InMask W (Reg.ERR_STATUS a.base)) (hO : InMask W (Reg.ERR_OFS a.base)) (hW : 0x1fffffffffffffffffffffffffffffffffffffffffffffffffffffffffffffffffffffffffffffffffffffff &&& W = 0x1fffffffffffffffffffffffffffffffffffffffffffffffffffffffffffffffffffffffffffffffffffffff) (hP : 0x10000c &&& P = 0x10000c) :
    Law W P s0 (State.spWrite s a x v c) := by
  unfold State.spWrite
  try dsimp only
  repeat' first
    | with_reducible assumption
    | with_reducible exact Law.refl _ _ _
    | exact sub_trans rfl hW
    | exact sub_trans rfl hP
    | exact hE
    | exact hO
    | with_reducible refine Law.ite (fun _ => ?_) (fun _ => ?_)
    | with_reducible refine State.spCredit_law ?_ _ _ _ _ _ ?_ ?_ ?_ ?_
    | with_reducible refine State.plain_law ?_ _ _ _ _ _ ?_ ?_ ?_ ?_
    | exact InMask.all hW rfl _
    | split
    | dsimp only [id]

theorem State.stWrite_law {W P : Nat} {s0 s : State} (h : Law W P s0 s) (a : Acc) (x v : Nat) (c : Card) (hE : InMask W (Reg.ERR_STATUS a.base)) (hO : InMask W (Reg.ERR_OFS a.base)) (hW : 0x1fffffffffffffffffffffffffffffffffffffffffffffffffffffffffffffffffffffffffffffffffffffff &&& W = 0x1fffffffffffffffffffffffffffffffffffffffffffffffffffffffffffffffffffffffffffffffffffffff) (hP : 0x14818d &&& P = 0x14818d) :
    Law W P s0 (State.stWrite s a x v c) := by
  unfold State.stWrite
  try dsimp only
  repeat' first
    | with_reducible assumption
    | with_reducible exact Law.refl _ _ _
    | exact sub_trans rfl hW
    | exact sub_trans rfl hP
    | exact hE
    | exact hO
    | with_reducible refine Law.ite (fun _ => ?_) (fun _ => ?_)
    | with_reducible refine State.plain_law ?_ _ _ _ _ _ ?_ ?_ ?_ ?_
    | with_reducible refine State.scanCtrl_law ?_ _ _ _ _ ?_ ?_ ?_ ?_
    | with_reducible refine State.aliveExp_law ?_ _ _ _ ?_ ?_ ?_ ?_
    | exact InMask.all hW rfl _
    | split
    | dsimp only [id]

theorem State.bpmWrite_law {W P : Nat} {s0 s : State} (h : Law W P s0 s) (a : Acc) (x v : Nat) (c : Card) (hE : InMask W (Reg.ERR_STATUS a.base)) (hO : InMask W (Reg.ERR_OFS a.base)) (hW : 0x1fffffffffffffffffffffffffffffffffffffffffffffffffffffffffffffffffffffffffffffffffffffff &&& W = 0x1fffffffffffffffffffffffffffffffffffffffffffffffffffffffffffffffffffffffffffffffffffffff) (hP : 0x10810c &&& P = 0x10810c) :
    Law W P s0 (State.bpmWrite s a x v c) := by
  unfold State.bpmWrite
  try dsimp only
  repeat' first
    | with_reducible assumption
    | with_reducible exact Law.refl _ _ _
    | exact sub_trans rfl hW
    | exact sub_trans rfl hP
    | exact hE
    | exact hO
    | with_reducible refine Law.ite (fun _ => ?_) (fun _ => ?_)
    | with_reducible refine State.lowClear_law ?_ _ _ ?_ ?_ ?_ ?_
    | with_reducible refine State.guard_law ?_ _ _ _ ?_ ?_ (fun _ _ => ?_) ?_ ?_
    | with_reducible refine State.hostFree_law ?_ _ _ ?_ ?_ ?_ ?_
    | with_reducible refine State.plain_law ?_ _ _ _ _ _ ?_ ?_ ?_ ?_
    | exact InMask.all hW rfl _
    | split
    | dsimp only [id]

theorem State.frerShow_law {W P : Nat} {s0 s : State} (h : Law W P s0 s) (hW : 0x800000000000000000000000000000000 &&& W = 0x800000000000000000000000000000000) (hP : 0x0 &&& P = 0x0) :
    Law W P s0 (State.frerShow s) := by
  unfold State.frerShow
  try dsimp only
  repeat' first
    | with_reducible assumption
    | with_reducible exact Law.refl _ _ _
    | exact sub_trans rfl hW
    | exact sub_trans rfl hP
    | with_reducible refine State.wr_law ?_ _ _ ?_
    | exact InMask.mk 131 hW rfl rfl (Reg.FAB_FRER_CNT_has _)
    | with_reducible refine Law.foldl _ ?_ (fun _ _ _ => ?_)
    | with_reducible refine Law.foldl_fst _ ?_ (fun _ _ _ _ => ?_)
    | dsimp only [id]

theorem State.fabWrite_law {W P : Nat} {s0 s : State} (h : Law W P s0 s) (a : Acc) (x v : Nat) (c : Card) (hE : InMask W (Reg.ERR_STATUS a.base)) (hO : InMask W (Reg.ERR_OFS a.base)) (hW : 0x1fffffffffffffffffffffffffffffffffffffffffffffffffffffffffffffffffffffffffffffffffffffff &&& W = 0x1fffffffffffffffffffffffffffffffffffffffffffffffffffffffffffffffffffffffffffffffffffffff) (hP : 0x108004 &&& P = 0x108004) :
    Law W P s0 (State.fabWrite s a x v c) := by
  unfold State.fabWrite
  try dsimp only
  repeat' first
    | with_reducible assumption
    | with_reducible exact Law.refl _ _ _
    | exact sub_trans rfl hW
    | exact sub_trans rfl hP
    | exact hE
    | exact hO
    | with_reducible refine Law.ite (fun _ => ?_) (fun _ => ?_)
    | with_reducible refine State.wr_law ?_ _ _ ?_
    | with_reducible refine State.plain_law ?_ _ _ _ _ _ ?_ ?_ ?_ ?_
    | with_reducible refine State.guard_law ?_ _ _ _ ?_ ?_ (fun _ _ => ?_) ?_ ?_
    | with_reducible refine State.voqShow_law ?_   ?_ ?_
    | with_reducible refine State.frerShow_law ?_   ?_ ?_
    | with_reducible refine State.frerCmd_law ?_ _ _ _ ?_ ?_ ?_ ?_
    | exact InMask.all hW rfl _
    | split
    | dsimp only [id]

theorem State.readoutCmd_law {W P : Nat} {s0 s : State} (h : Law W P s0 s) (a : Acc) (v : Nat) (hE : InMask W (Reg.ERR_STATUS a.base)) (hO : InMask W (Reg.ERR_OFS a.base)) (hW : 0x380011e &&& W = 0x380011e) (hP : 0x14000c &&& P = 0x14000c) :
    Law W P s0 (State.readoutCmd s a v) := by
  unfold State.readoutCmd
  try dsimp only
  repeat' first
    | with_reducible assumption
    | with_reducible exact Law.refl _ _ _
    | exact sub_trans rfl hW
    | exact sub_trans rfl hP
    | exact hE
    | exact hO
    | with_reducible refine Law.ite (fun _ => ?_) (fun _ => ?_)
    | with_reducible refine State.guard_law ?_ _ _ _ ?_ ?_ (fun _ _ => ?_) ?_ ?_
    | with_reducible refine State.readoutStart_law ?_ _ ?_ ?_ ?_ ?_
    | with_reducible refine State.readoutAbort_law ?_ _ ?_ ?_ ?_ ?_
    | split
    | dsimp only [id]

theorem State.ringCtrl_law {W P : Nat} {s0 s : State} (h : Law W P s0 s) (a : Acc) (n v : Nat) (hE : InMask W (Reg.ERR_STATUS a.base)) (hO : InMask W (Reg.ERR_OFS a.base)) (hW : 0x3fffde &&& W = 0x3fffde) (hP : 0x10088c &&& P = 0x10088c) :
    Law W P s0 (State.ringCtrl s a n v) := by
  unfold State.ringCtrl
  try dsimp only
  repeat' first
    | with_reducible assumption
    | with_reducible exact Law.refl _ _ _
    | exact sub_trans rfl hW
    | exact sub_trans rfl hP
    | exact hE
    | exact hO
    | with_reducible refine Law.ite (fun _ => ?_) (fun _ => ?_)
    | with_reducible refine State.guard_law ?_ _ _ _ ?_ ?_ (fun _ _ => ?_) ?_ ?_
    | with_reducible refine State.hostTrigger_law ?_ _ _ ?_ ?_ ?_ ?_
    | with_reducible refine State.release_law ?_ _ _ ?_ ?_ ?_ ?_
    | split
    | dsimp only [id]

theorem State.cdRing_law {W P : Nat} {s0 s : State} (h : Law W P s0 s) (a : Acc) (x n v : Nat) (c : Card) (hE : InMask W (Reg.ERR_STATUS a.base)) (hO : InMask W (Reg.ERR_OFS a.base)) (hW : 0x1fffffffffffffffffffffffffffffffffffffffffffffffffffffffffffffffffffffffffffffffffffffff &&& W = 0x1fffffffffffffffffffffffffffffffffffffffffffffffffffffffffffffffffffffffffffffffffffffff) (hP : 0x10088c &&& P = 0x10088c) :
    Law W P s0 (State.cdRing s a x n v c) := by
  unfold State.cdRing
  try dsimp only
  repeat' first
    | with_reducible assumption
    | with_reducible exact Law.refl _ _ _
    | exact sub_trans rfl hW
    | exact sub_trans rfl hP
    | exact hE
    | exact hO
    | with_reducible refine Law.ite (fun _ => ?_) (fun _ => ?_)
    | with_reducible refine State.plain_law ?_ _ _ _ _ _ ?_ ?_ ?_ ?_
    | with_reducible refine State.ringCtrl_law ?_ _ _ _ ?_ ?_ ?_ ?_
    | exact InMask.all hW rfl _
    | split
    | dsimp only [id]

theorem State.cdWrite_law {W P : Nat} {s0 s : State} (h : Law W P s0 s) (a : Acc) (x v : Nat) (c : Card) (hE : InMask W (Reg.ERR_STATUS a.base)) (hO : InMask W (Reg.ERR_OFS a.base)) (hW : 0x1fffffffffffffffffffffffffffffffffffffffffffffffffffffffffffffffffffffffffffffffffffffff &&& W = 0x1fffffffffffffffffffffffffffffffffffffffffffffffffffffffffffffffffffffffffffffffffffffff) (hP : 0x14088c &&& P = 0x14088c) :
    Law W P s0 (State.cdWrite s a x v c) := by
  unfold State.cdWrite
  try dsimp only
  repeat' first
    | with_reducible assumption
    | with_reducible exact Law.refl _ _ _
    | exact sub_trans rfl hW
    | exact sub_trans rfl hP
    | exact hE
    | exact hO
    | with_reducible refine Law.ite (fun _ => ?_) (fun _ => ?_)
    | with_reducible refine State.plain_law ?_ _ _ _ _ _ ?_ ?_ ?_ ?_
    | with_reducible refine State.replayCtrl_law ?_ _ _ _ _ _ ?_ ?_ ?_ ?_
    | with_reducible refine State.cdRing_law ?_ _ _ _ _ _ ?_ ?_ ?_ ?_
    | with_reducible refine State.readoutCmd_law ?_ _ _ ?_ ?_ ?_ ?_
    | exact InMask.all hW rfl _
    | split
    | dsimp only [id]

theorem State.dumpCtrl_law {W P : Nat} {s0 s : State} (h : Law W P s0 s) (a : Acc) (v : Nat) (hE : InMask W (Reg.ERR_STATUS a.base)) (hO : InMask W (Reg.ERR_OFS a.base)) (hW : 0xc00000000000000000000000000000000000000000000000000000000000000000012 &&& W = 0xc00000000000000000000000000000000000000000000000000000000000000000012) (hP : 0x100014 &&& P = 0x100014) :
    Law W P s0 (State.dumpCtrl s a v) := by
  unfold State.dumpCtrl
  try dsimp only
  repeat' first
    | with_reducible assumption
    | with_reducible exact Law.refl _ _ _
    | exact sub_trans rfl hW
    | exact sub_trans rfl hP
    | exact hE
    | exact hO
    | with_reducible refine Law.ite (fun _ => ?_) (fun _ => ?_)
    | with_reducible refine State.setFld_law ?_ _ _ ?_
    | with_reducible refine State.guard_law ?_ _ _ _ ?_ ?_ (fun _ _ => ?_) ?_ ?_
    | exact InMask.mk 274 hW rfl rfl (Reg.PF_DUMP_CTRL_has)
    | exact InMask.mk 275 hW rfl rfl (Reg.PF_DUMP_STATUS_has)
    | split
    | dsimp only [id]
    | with_reducible refine Law.put ?_ ?_ ?_ ?_ ?_ ?_ ?_ ?_ ?_ ?_ ?_ ?_ ?_ ?_ ?_ ?_ ?_ ?_ ?_ ?_ ?_ ?_
    | with_reducible exact Or.inl rfl
    | exact Or.inr (partIn hP rfl)

theorem State.pfWrite_law {W P : Nat} {s0 s : State} (h : Law W P s0 s) (a : Acc) (x v : Nat) (c : Card) (hE : InMask W (Reg.ERR_STATUS a.base)) (hO : InMask W (Reg.ERR_OFS a.base)) (hW : 0x1fffffffffffffffffffffffffffffffffffffffffffffffffffffffffffffffffffffffffffffffffffffff &&& W = 0x1fffffffffffffffffffffffffffffffffffffffffffffffffffffffffffffffffffffffffffffffffffffff) (hP : 0x100014 &&& P = 0x100014) :
    Law W P s0 (State.pfWrite s a x v c) := by
  unfold State.pfWrite
  try dsimp only
  repeat' first
    | with_reducible assumption
    | with_reducible exact Law.refl _ _ _
    | exact sub_trans rfl hW
    | exact sub_trans rfl hP
    | exact hE
    | exact hO
    | with_reducible refine Law.ite (fun _ => ?_) (fun _ => ?_)
    | with_reducible refine State.pfSelect_law ?_ _ _ _ ?_ ?_ ?_ ?_
    | with_reducible refine State.plain_law ?_ _ _ _ _ _ ?_ ?_ ?_ ?_
    | with_reducible refine State.dumpCtrl_law ?_ _ _ ?_ ?_ ?_ ?_
    | exact InMask.all hW rfl _
    | split
    | dsimp only [id]

theorem State.blockWrite_law {W P : Nat} {s0 s : State} (h : Law W P s0 s) (a : Acc) (x v : Nat) (c : Card) (hE : InMask W (Reg.ERR_STATUS a.base)) (hO : InMask W (Reg.ERR_OFS a.base)) (hW : 0x1fffffffffffffffffffffffffffffffffffffffffffffffffffffffffffffffffffffffffffffffffffffff &&& W = 0x1fffffffffffffffffffffffffffffffffffffffffffffffffffffffffffffffffffffffffffffffffffffff) (hP : 0x1fffff &&& P = 0x1fffff) :
    Law W P s0 (State.blockWrite s a x v c) := by
  unfold State.blockWrite
  try dsimp only
  repeat' first
    | with_reducible assumption
    | with_reducible exact Law.refl _ _ _
    | exact sub_trans rfl hW
    | exact sub_trans rfl hP
    | exact hE
    | exact hO
    | with_reducible refine Law.ite (fun _ => ?_) (fun _ => ?_)
    | with_reducible refine State.devWrite_law ?_ _ _ _ _ ?_ ?_ ?_ ?_
    | with_reducible refine State.imgWrite_law ?_ _ _ _ _ ?_ ?_ ?_ ?_
    | with_reducible refine State.ktWrite_law ?_ _ _ _ _ ?_ ?_ ?_ ?_
    | with_reducible refine State.phWrite_law ?_ _ _ _ _ ?_ ?_ ?_ ?_
    | with_reducible refine State.pinWrite_law ?_ _ _ _ _ ?_ ?_ ?_ ?_
    | with_reducible refine State.spWrite_law ?_ _ _ _ _ ?_ ?_ ?_ ?_
    | with_reducible refine State.stWrite_law ?_ _ _ _ _ ?_ ?_ ?_ ?_
    | with_reducible refine State.bpmWrite_law ?_ _ _ _ _ ?_ ?_ ?_ ?_
    | with_reducible refine State.fabWrite_law ?_ _ _ _ _ ?_ ?_ ?_ ?_
    | with_reducible refine State.cdWrite_law ?_ _ _ _ _ ?_ ?_ ?_ ?_
    | with_reducible refine State.pfWrite_law ?_ _ _ _ _ ?_ ?_ ?_ ?_
    | with_reducible refine State.plain_law ?_ _ _ _ _ _ ?_ ?_ ?_ ?_
    | exact InMask.all hW rfl _
    | split
    | dsimp only [id]

theorem State.slcWrite_law {W P : Nat} {s0 s : State} (h : Law W P s0 s) (a : Acc) (i o v : Nat) (c : Card) (hE : InMask W (Reg.ERR_STATUS a.base)) (hO : InMask W (Reg.ERR_OFS a.base)) (hW : 0x1fffffffffffffffffffffffffffffffffffffffffffffffffffffffffffffffffffffffffffffffffffffff &&& W = 0x1fffffffffffffffffffffffffffffffffffffffffffffffffffffffffffffffffffffffffffffffffffffff) (hP : 0x100004 &&& P = 0x100004) :
    Law W P s0 (State.slcWrite s a i o v c) := by
  unfold State.slcWrite
  try dsimp only
  repeat' first
    | with_reducible assumption
    | with_reducible exact Law.refl _ _ _
    | exact sub_trans rfl hW
    | exact sub_trans rfl hP
    | exact hE
    | exact hO
    | with_reducible refine Law.ite (fun _ => ?_) (fun _ => ?_)
    | with_reducible refine State.setFld_law ?_ _ _ ?_
    | with_reducible refine State.plain_law ?_ _ _ _ _ _ ?_ ?_ ?_ ?_
    | with_reducible refine State.fenceSet_law ?_ _ _ _ _ ?_ ?_ ?_ ?_
    | with_reducible refine State.guard_law ?_ _ _ _ ?_ ?_ (fun _ _ => ?_) ?_ ?_
    | exact InMask.all hW rfl _
    | exact InMask.mk 115 hW rfl rfl (Reg.SLC_FENCE_has _)
    | split
    | dsimp only [id]

theorem State.cbsWrite_law {W P : Nat} {s0 s : State} (h : Law W P s0 s) (a : Acc) (p k v : Nat) (hE : InMask W (Reg.ERR_STATUS a.base)) (hO : InMask W (Reg.ERR_OFS a.base)) (hW : 0x60000000001000000000000000000000000000000000000030000000000000000000000000000012 &&& W = 0x60000000001000000000000000000000000000000000000030000000000000000000000000000012) (hP : 0x108004 &&& P = 0x108004) :
    Law W P s0 (State.cbsWrite s a p k v) := by
  unfold State.cbsWrite
  try dsimp only
  repeat' first
    | with_reducible assumption
    | with_reducible exact Law.refl _ _ _
    | exact sub_trans rfl hW
    | exact sub_trans rfl hP
    | exact hE
    | exact hO
    | with_reducible refine Law.ite (fun _ => ?_) (fun _ => ?_)
    | with_reducible refine State.wr_law ?_ _ _ ?_
    | with_reducible refine State.portGuard_law ?_ _ _ _ _ ?_ ?_ (fun _ _ => ?_) ?_ ?_
    | with_reducible refine State.cbsAdvance_law ?_ _ _  ?_ ?_
    | with_reducible refine State.setEgp_law ?_ _ _  ?_ ?_
    | exact InMask.mk 276 hW rfl rfl (Reg.PRT_CBS_has _ _)
    | with_reducible refine Law.of_fst (by assumption) ?_
    | split
    | dsimp only [id]

theorem State.gclEntry_law {W P : Nat} {s0 s : State} (h : Law W P s0 s) (a : Acc) (p x v : Nat) (c : Card) (hE : InMask W (Reg.ERR_STATUS a.base)) (hO : InMask W (Reg.ERR_OFS a.base)) (hW : 0x1fffffffffffffffffffffffffffffffffffffffffffffffffffffffffffffffffffffffffffffffffffffff &&& W = 0x1fffffffffffffffffffffffffffffffffffffffffffffffffffffffffffffffffffffffffffffffffffffff) (hP : 0x100004 &&& P = 0x100004) :
    Law W P s0 (State.gclEntry s a p x v c) := by
  unfold State.gclEntry
  try dsimp only
  repeat' first
    | with_reducible assumption
    | with_reducible exact Law.refl _ _ _
    | exact sub_trans rfl hW
    | exact sub_trans rfl hP
    | exact hE
    | exact hO
    | with_reducible refine Law.ite (fun _ => ?_) (fun _ => ?_)
    | with_reducible refine State.plain_law ?_ _ _ _ _ _ ?_ ?_ ?_ ?_
    | exact InMask.all hW rfl _
    | with_reducible refine Law.of_fst (by assumption) ?_
    | split
    | dsimp only [id]

theorem State.prtWrite_law {W P : Nat} {s0 s : State} (h : Law W P s0 s) (a : Acc) (p o v : Nat) (c : Card) (hE : InMask W (Reg.ERR_STATUS a.base)) (hO : InMask W (Reg.ERR_OFS a.base)) (hW : 0x1fffffffffffffffffffffffffffffffffffffffffffffffffffffffffffffffffffffffffffffffffffffff &&& W = 0x1fffffffffffffffffffffffffffffffffffffffffffffffffffffffffffffffffffffffffffffffffffffff) (hP : 0x17d59d &&& P = 0x17d59d) :
    Law W P s0 (State.prtWrite s a p o v c) := by
  unfold State.prtWrite
  try dsimp only
  repeat' first
    | with_reducible assumption
    | with_reducible exact Law.refl _ _ _
    | exact sub_trans rfl hW
    | exact sub_trans rfl hP
    | exact hE
    | exact hO
    | with_reducible refine Law.ite (fun _ => ?_) (fun _ => ?_)
    | with_reducible refine State.portState_law ?_ _ _ _ _ _ _ ?_ ?_ ?_ ?_
    | with_reducible refine State.plain_law ?_ _ _ _ _ _ ?_ ?_ ?_ ?_
    | with_reducible refine State.cbsWrite_law ?_ _ _ _ _ ?_ ?_ ?_ ?_
    | with_reducible refine State.gclCtrl_law ?_ _ _ _ _ _ _ ?_ ?_ ?_ ?_
    | with_reducible refine State.gclEntry_law ?_ _ _ _ _ _ ?_ ?_ ?_ ?_
    | with_reducible refine State.ttCfgWrite_law ?_ _ _ _ ?_ ?_ ?_ ?_
    | with_reducible refine State.ttIdWrite_law ?_ _ _ _ _ _ ?_ ?_ ?_ ?_ ?_
    | with_reducible refine State.ttCalWrite_law ?_ _ _ _ _ _ ?_ ?_ ?_ ?_ ?_
    | exact InMask.all hW rfl _
    | split
    | dsimp only [id]

theorem State.lnWrite_law {W P : Nat} {s0 s : State} (h : Law W P s0 s) (a : Acc) (l o v : Nat) (c : Card) (hE : InMask W (Reg.ERR_STATUS a.base)) (hO : InMask W (Reg.ERR_OFS a.base)) (hW : 0x1fffffffffffffffffffffffffffffffffffffffffffffffffffffffffffffffffffffffffffffffffffffff &&& W = 0x1fffffffffffffffffffffffffffffffffffffffffffffffffffffffffffffffffffffffffffffffffffffff) (hP : 0x17d59d &&& P = 0x17d59d) :
    Law W P s0 (State.lnWrite s a l o v c) := by
  unfold State.lnWrite
  try dsimp only
  repeat' first
    | with_reducible assumption
    | with_reducible exact Law.refl _ _ _
    | exact sub_trans rfl hW
    | exact sub_trans rfl hP
    | exact hE
    | exact hO
    | with_reducible refine Law.ite (fun _ => ?_) (fun _ => ?_)
    | with_reducible refine State.laneCtrl_law ?_ _ _ _ _ _ _ ?_ ?_ ?_ ?_
    | with_reducible refine State.trunkCtrl_law ?_ _ _ _ _ _ ?_ ?_ ?_ ?_
    | with_reducible refine State.plain_law ?_ _ _ _ _ _ ?_ ?_ ?_ ?_
    | exact InMask.all hW rfl _
    | split
    | dsimp only [id]

theorem State.twWrite_law {W P : Nat} {s0 s : State} (h : Law W P s0 s) (a : Acc) (w o v : Nat) (c : Card) (hE : InMask W (Reg.ERR_STATUS a.base)) (hO : InMask W (Reg.ERR_OFS a.base)) (hW : 0x1fffffffffffffffffffffffffffffffffffffffffffffffffffffffffffffffffffffffffffffffffffffff &&& W = 0x1fffffffffffffffffffffffffffffffffffffffffffffffffffffffffffffffffffffffffffffffffffffff) (hP : 0x104084 &&& P = 0x104084) :
    Law W P s0 (State.twWrite s a w o v c) := by
  unfold State.twWrite
  try dsimp only
  repeat' first
    | with_reducible assumption
    | with_reducible exact Law.refl _ _ _
    | exact sub_trans rfl hW
    | exact sub_trans rfl hP
    | exact hE
    | exact hO
    | with_reducible refine Law.ite (fun _ => ?_) (fun _ => ?_)
    | with_reducible refine State.twCmd_law ?_ _ _ _ _ _ ?_ ?_ ?_ ?_
    | with_reducible refine State.plain_law ?_ _ _ _ _ _ ?_ ?_ ?_ ?_
    | exact InMask.all hW rfl _
    | split
    | dsimp only [id]

theorem State.cardWrite_law {W P : Nat} {s0 s : State} (h : Law W P s0 s) (a : Acc) (sp i o v : Nat) (wide : Bool) (c : Card) (hE : InMask W (Reg.ERR_STATUS a.base)) (hO : InMask W (Reg.ERR_OFS a.base)) (hW : 0x1fffffffffffffffffffffffffffffffffffffffffffffffffffffffffffffffffffffffffffffffffffffff &&& W = 0x1fffffffffffffffffffffffffffffffffffffffffffffffffffffffffffffffffffffffffffffffffffffff) (hP : 0x1fffff &&& P = 0x1fffff) :
    Law W P s0 (State.cardWrite s a sp i o v wide c) := by
  unfold State.cardWrite
  try dsimp only
  repeat' first
    | with_reducible assumption
    | with_reducible exact Law.refl _ _ _
    | exact sub_trans rfl hW
    | exact sub_trans rfl hP
    | exact hE
    | exact hO
    | with_reducible refine Law.ite (fun _ => ?_) (fun _ => ?_)
    | with_reducible refine State.errClear_law ?_ _ _ ?_ ?_ ?_ ?_
    | with_reducible refine State.guard_law ?_ _ _ _ ?_ ?_ (fun _ _ => ?_) ?_ ?_
    | with_reducible refine State.blockWrite_law ?_ _ _ _ _ ?_ ?_ ?_ ?_
    | with_reducible refine State.slcWrite_law ?_ _ _ _ _ _ ?_ ?_ ?_ ?_
    | with_reducible refine State.prtWrite_law ?_ _ _ _ _ _ ?_ ?_ ?_ ?_
    | with_reducible refine State.lnWrite_law ?_ _ _ _ _ _ ?_ ?_ ?_ ?_
    | with_reducible refine State.twWrite_law ?_ _ _ _ _ _ ?_ ?_ ?_ ?_
    | exact InMask.all hW rfl _
    | split
    | dsimp only [id]

theorem State.unitWrite_law {W P : Nat} {s0 s : State} (h : Law W P s0 s) (a : Acc) (sp i o v : Nat) (wide : Bool) (hE : InMask W (Reg.ERR_STATUS a.base)) (hO : InMask W (Reg.ERR_OFS a.base)) (hW : 0x1fffffffffffffffffffffffffffffffffffffffffffffffffffffffffffffffffffffffffffffffffffffff &&& W = 0x1fffffffffffffffffffffffffffffffffffffffffffffffffffffffffffffffffffffffffffffffffffffff) (hP : 0x1fffff &&& P = 0x1fffff) :
    Law W P s0 (State.unitWrite s a sp i o v wide) := by
  unfold State.unitWrite
  try dsimp only
  repeat' first
    | with_reducible assumption
    | with_reducible exact Law.refl _ _ _
    | exact sub_trans rfl hW
    | exact sub_trans rfl hP
    | exact hE
    | exact hO
    | with_reducible refine Law.ite (fun _ => ?_) (fun _ => ?_)
    | with_reducible refine State.cardWrite_law ?_ _ _ _ _ _ _ _ ?_ ?_ ?_ ?_
    | with_reducible refine State.guard_law ?_ _ _ _ ?_ ?_ (fun _ _ => ?_) ?_ ?_
    | exact InMask.all hW rfl _
    | with_reducible refine Law.of_fst (by assumption) ?_
    | split
    | dsimp only [id]

theorem State.writeAlias_law {W P : Nat} {s0 s : State} (h : Law W P s0 s) (a : Acc) (sp o v : Nat) (group : Option Nat) (wide : Bool) (hE : InMask W (Reg.ERR_STATUS a.base)) (hO : InMask W (Reg.ERR_OFS a.base)) (hW : 0x1fffffffffffffffffffffffffffffffffffffffffffffffffffffffffffffffffffffffffffffffffffffff &&& W = 0x1fffffffffffffffffffffffffffffffffffffffffffffffffffffffffffffffffffffffffffffffffffffff) (hP : 0x1fffff &&& P = 0x1fffff) :
    Law W P s0 (State.writeAlias s a sp o v group wide) := by
  unfold State.writeAlias
  try dsimp only
  repeat' first
    | with_reducible assumption
    | with_reducible exact Law.refl _ _ _
    | exact sub_trans rfl hW
    | exact sub_trans rfl hP
    | exact hE
    | exact hO
    | with_reducible refine Law.ite (fun _ => ?_) (fun _ => ?_)
    | with_reducible refine State.received_law ?_ _ ?_ ?_ ?_ ?_
    | with_reducible refine State.guard_law ?_ _ _ _ ?_ ?_ (fun _ _ => ?_) ?_ ?_
    | with_reducible refine State.unitWrite_law ?_ _ _ _ _ _ _ ?_ ?_ ?_ ?_
    | exact InMask.all hW rfl _
    | exact InMask.mk 317 hW rfl rfl (Reg.ERR_STATUS_has_DEV)
    | exact InMask.mk 318 hW rfl rfl (Reg.ERR_OFS_has_DEV)
    | with_reducible refine Law.foldl _ ?_ (fun _ _ _ => ?_)
    | with_reducible refine Law.foldl_fst _ ?_ (fun _ _ _ _ => ?_)
    | split
    | dsimp only [id]

theorem State.write0_law {W P : Nat} {s0 s : State} (h : Law W P s0 s) (x v : Nat) (wide bad : Bool) (hW : 0x1fffffffffffffffffffffffffffffffffffffffffffffffffffffffffffffffffffffffffffffffffffffff &&& W = 0x1fffffffffffffffffffffffffffffffffffffffffffffffffffffffffffffffffffffffffffffffffffffff) (hP : 0x1fffff &&& P = 0x1fffff) :
    Law W P s0 (State.write0 s x v wide bad) := by
  unfold State.write0
  try dsimp only
  repeat' first
    | with_reducible assumption
    | with_reducible exact Law.refl _ _ _
    | exact sub_trans rfl hW
    | exact sub_trans rfl hP
    | with_reducible refine Law.ite (fun _ => ?_) (fun _ => ?_)
    | with_reducible refine State.msixWrite_law ?_ _ _ _ _ ?_ ?_ ?_ ?_
    | with_reducible refine State.guard_law ?_ _ _ _ ?_ ?_ (fun _ _ => ?_) ?_ ?_
    | with_reducible refine State.unitWrite_law ?_ _ _ _ _ _ _ ?_ ?_ ?_ ?_
    | with_reducible refine State.unit_law ?_ _ _ _  ?_ ?_
    | with_reducible refine State.writeAlias_law ?_ _ _ _ _ _ _ ?_ ?_ ?_ ?_
    | exact InMask.all hW rfl _
    | exact InMask.mk 317 hW rfl rfl (Reg.ERR_STATUS_has_DEV)
    | exact InMask.mk 318 hW rfl rfl (Reg.ERR_OFS_has_DEV)
    | with_reducible refine Law.of_fst (by assumption) ?_
    | split
    | dsimp only [id]

theorem State.write2_law {W P : Nat} {s0 s : State} (h : Law W P s0 s) (o v : Nat) (bad : Bool) (hW : 0x18006060000000000000000000000000000000000000000000000000000000000008000000000000000012 &&& W = 0x18006060000000000000000000000000000000000000000000000000000000000008000000000000000012) (hP : 0x101004 &&& P = 0x101004) :
    Law W P s0 (State.write2 s o v bad) := by
  unfold State.write2
  try dsimp only
  repeat' first
    | with_reducible assumption
    | with_reducible exact Law.refl _ _ _
    | exact sub_trans rfl hW
    | exact sub_trans rfl hP
    | with_reducible refine Law.ite (fun _ => ?_) (fun _ => ?_)
    | with_reducible refine State.guard_law ?_ _ _ _ ?_ ?_ (fun _ _ => ?_) ?_ ?_
    | with_reducible refine State.sqCredit_law ?_ _ _ _ _ _ ?_ ?_ ?_ ?_
    | exact InMask.mk 317 hW rfl rfl (Reg.ERR_STATUS_has_DEV)
    | exact InMask.mk 318 hW rfl rfl (Reg.ERR_OFS_has_DEV)
    | exact InMask.mk 339 hW rfl rfl (Reg.ERR_STATUS_has_PF)
    | exact InMask.mk 340 hW rfl rfl (Reg.ERR_OFS_has_PF)
    | exact InMask.mk 325 hW rfl rfl (Reg.ERR_STATUS_has_PH)
    | exact InMask.mk 326 hW rfl rfl (Reg.ERR_OFS_has_PH)
    | split
    | dsimp only [id]

theorem State.writeAt_law {W P : Nat} {s0 s : State} (h : Law W P s0 s) (bar2 : Bool) (x v : Nat) (wide bad : Bool) (hW : 0x1fffffffffffffffffffffffffffffffffffffffffffffffffffffffffffffffffffffffffffffffffffffff &&& W = 0x1fffffffffffffffffffffffffffffffffffffffffffffffffffffffffffffffffffffffffffffffffffffff) (hP : 0x1fffff &&& P = 0x1fffff) :
    Law W P s0 (State.writeAt s bar2 x v wide bad) := by
  unfold State.writeAt
  try dsimp only
  repeat' first
    | with_reducible assumption
    | with_reducible exact Law.refl _ _ _
    | exact sub_trans rfl hW
    | exact sub_trans rfl hP
    | with_reducible refine Law.ite (fun _ => ?_) (fun _ => ?_)
    | with_reducible refine State.write2_law ?_ _ _ _  ?_ ?_
    | with_reducible refine State.write0_law ?_ _ _ _ _  ?_ ?_
    | exact InMask.all hW rfl _
    | split
    | dsimp only [id]

theorem State.hostWrite_law {W P : Nat} {s0 s : State} (h : Law W P s0 s) (a : Access) (v : BitVec 64) (hW : 0x1fffffffffffffffffffffffffffffffffffffffffffffffffffffffffffffffffffffffffffffffffffffff &&& W = 0x1fffffffffffffffffffffffffffffffffffffffffffffffffffffffffffffffffffffffffffffffffffffff) (hP : 0x1fffff &&& P = 0x1fffff) :
    Law W P s0 (State.hostWrite s a v) := by
  unfold State.hostWrite
  try dsimp only
  repeat' first
    | with_reducible assumption
    | with_reducible exact Law.refl _ _ _
    | exact sub_trans rfl hW
    | exact sub_trans rfl hP
    | with_reducible refine Law.ite (fun _ => ?_) (fun _ => ?_)
    | with_reducible refine State.writeAt_law ?_ _ _ _ _ _  ?_ ?_
    | exact InMask.all hW rfl _
    | split
    | dsimp only [id]

theorem execRegisterWrite_law {W P : Nat} (s : State) (a : Access) (v : BitVec 64) (hW : 0x1fffffffffffffffffffffffffffffffffffffffffffffffffffffffffffffffffffffffffffffffffffffff &&& W = 0x1fffffffffffffffffffffffffffffffffffffffffffffffffffffffffffffffffffffffffffffffffffffff) (hP : 0x1fffff &&& P = 0x1fffff) :
    OutLaw W P s (execRegisterWrite a v s) := by
  unfold execRegisterWrite
  try dsimp only
  repeat' first
    | with_reducible assumption
    | with_reducible exact OutLaw.fault _
    | with_reducible refine OutLaw.ite (fun _ => ?_) (fun _ => ?_)
    | with_reducible refine OutLaw.next ?_
    | with_reducible exact Law.refl _ _ _
    | exact sub_trans rfl hW
    | exact sub_trans rfl hP
    | with_reducible refine Law.ite (fun _ => ?_) (fun _ => ?_)
    | with_reducible refine State.hostWrite_law ?_ _ _  ?_ ?_
    | exact InMask.all hW rfl _
    | split
    | dsimp only [id]

theorem execUnusedPortWrite_law {W P : Nat} (s : State) (a : Access) (v : BitVec 64) (hW : 0x1fffffffffffffffffffffffffffffffffffffffffffffffffffffffffffffffffffffffffffffffffffffff &&& W = 0x1fffffffffffffffffffffffffffffffffffffffffffffffffffffffffffffffffffffffffffffffffffffff) (hP : 0x1fffff &&& P = 0x1fffff) :
    OutLaw W P s (execUnusedPortWrite a v s) := by
  unfold execUnusedPortWrite
  try dsimp only
  repeat' first
    | with_reducible assumption
    | with_reducible exact OutLaw.fault _
    | with_reducible refine OutLaw.ite (fun _ => ?_) (fun _ => ?_)
    | with_reducible refine OutLaw.next ?_
    | with_reducible exact Law.refl _ _ _
    | exact sub_trans rfl hW
    | exact sub_trans rfl hP
    | with_reducible refine Law.ite (fun _ => ?_) (fun _ => ?_)
    | with_reducible refine State.hostWrite_law ?_ _ _  ?_ ?_
    | exact InMask.all hW rfl _
    | split
    | dsimp only [id]

theorem execUnmappedWrite_law {W P : Nat} (s : State) (a : Access) (v : BitVec 64) (hW : 0x1fffffffffffffffffffffffffffffffffffffffffffffffffffffffffffffffffffffffffffffffffffffff &&& W = 0x1fffffffffffffffffffffffffffffffffffffffffffffffffffffffffffffffffffffffffffffffffffffff) (hP : 0x1fffff &&& P = 0x1fffff) :
    OutLaw W P s (execUnmappedWrite a v s) := by
  unfold execUnmappedWrite
  try dsimp only
  repeat' first
    | with_reducible assumption
    | with_reducible exact OutLaw.fault _
    | with_reducible refine OutLaw.ite (fun _ => ?_) (fun _ => ?_)
    | with_reducible refine OutLaw.next ?_
    | with_reducible exact Law.refl _ _ _
    | exact sub_trans rfl hW
    | exact sub_trans rfl hP
    | with_reducible refine Law.ite (fun _ => ?_) (fun _ => ?_)
    | with_reducible refine State.hostWrite_law ?_ _ _  ?_ ?_
    | exact InMask.all hW rfl _
    | split
    | dsimp only [id]

theorem execAliasWrite_law {W P : Nat} (s : State) (a : Access) (v : BitVec 64) (hW : 0x1fffffffffffffffffffffffffffffffffffffffffffffffffffffffffffffffffffffffffffffffffffffff &&& W = 0x1fffffffffffffffffffffffffffffffffffffffffffffffffffffffffffffffffffffffffffffffffffffff) (hP : 0x1fffff &&& P = 0x1fffff) :
    OutLaw W P s (execAliasWrite a v s) := by
  unfold execAliasWrite
  try dsimp only
  repeat' first
    | with_reducible assumption
    | with_reducible exact OutLaw.fault _
    | with_reducible refine OutLaw.ite (fun _ => ?_) (fun _ => ?_)
    | with_reducible refine OutLaw.next ?_
    | with_reducible exact Law.refl _ _ _
    | exact sub_trans rfl hW
    | exact sub_trans rfl hP
    | with_reducible refine Law.ite (fun _ => ?_) (fun _ => ?_)
    | with_reducible refine State.hostWrite_law ?_ _ _  ?_ ?_
    | exact InMask.all hW rfl _
    | split
    | dsimp only [id]

theorem execAliasRead_law {W P : Nat} (s : State) (a : Access) (hW : 0x60000000000000000000000000000000000000000000000000000000000000000000000000000012 &&& W = 0x60000000000000000000000000000000000000000000000000000000000000000000000000000012) (hP : 0x100004 &&& P = 0x100004) :
    OutLaw W P s (execAliasRead a s) := by
  unfold execAliasRead
  try dsimp only
  repeat' first
    | with_reducible assumption
    | with_reducible exact OutLaw.fault _
    | with_reducible refine OutLaw.ite (fun _ => ?_) (fun _ => ?_)
    | with_reducible refine OutLaw.next ?_
    | with_reducible exact Law.refl _ _ _
    | exact sub_trans rfl hW
    | exact sub_trans rfl hP
    | with_reducible refine Law.ite (fun _ => ?_) (fun _ => ?_)
    | with_reducible refine State.received_law ?_ _ ?_ ?_ ?_ ?_
    | with_reducible refine State.guard_law ?_ _ _ _ ?_ ?_ (fun _ _ => ?_) ?_ ?_
    | exact InMask.mk 317 hW rfl rfl (Reg.ERR_STATUS_has_DEV)
    | exact InMask.mk 318 hW rfl rfl (Reg.ERR_OFS_has_DEV)
    | split
    | dsimp only [id]

theorem execErrStatusClear_law {W P : Nat} (s : State) (base : Nat) (hW : 0x1fffffffffffffffffffffffffffffffffffffffffffffffffffffffffffffffffffffffffffffffffffffff &&& W = 0x1fffffffffffffffffffffffffffffffffffffffffffffffffffffffffffffffffffffffffffffffffffffff) (hP : 0x1fffff &&& P = 0x1fffff) :
    OutLaw W P s (execErrStatusClear base s) := by
  unfold execErrStatusClear
  try dsimp only
  repeat' first
    | with_reducible assumption
    | with_reducible exact OutLaw.fault _
    | with_reducible refine OutLaw.ite (fun _ => ?_) (fun _ => ?_)
    | with_reducible refine OutLaw.next ?_
    | with_reducible exact Law.refl _ _ _
    | exact sub_trans rfl hW
    | exact sub_trans rfl hP
    | with_reducible refine Law.ite (fun _ => ?_) (fun _ => ?_)
    | with_reducible refine State.write0_law ?_ _ _ _ _  ?_ ?_
    | exact InMask.all hW rfl _
    | split
    | dsimp only [id]

end Sys2Proof.Machine
end

