-- ==== Sys2Proof/Laws/LawTick.lean ====
section
/-! SUPPORT. The law of every operation of Machine/Tick.lean: what it may change (Laws/Law.lean). -/

set_option linter.all false

namespace Sys2Proof.Machine

theorem State.ringTicks_law {W P : Nat} {s0 s : State} (h : Law W P s0 s) (before : State) (hW : 0x0 &&& W = 0x0) (hP : 0x800 &&& P = 0x800) :
    Law W P s0 (State.ringTicks before s) := by
  unfold State.ringTicks
  try dsimp only
  repeat' first
    | with_reducible assumption
    | with_reducible exact Law.refl _ _ _
    | exact sub_trans rfl hW
    | exact sub_trans rfl hP
    | with_reducible refine Law.ite (fun _ => ?_) (fun _ => ?_)
    | with_reducible refine State.ringTick_law ?_ _  ?_ ?_
    | with_reducible refine Law.foldl _ ?_ (fun _ _ _ => ?_)
    | with_reducible refine Law.foldl_fst _ ?_ (fun _ _ _ _ => ?_)
    | split
    | dsimp only [id]

theorem State.portCycle_law {W P : Nat} {s0 s : State} (h : Law W P s0 s) (p : Nat) (hW : 0x10 &&& W = 0x10) (hP : 0x0 &&& P = 0x0) :
    Law W P s0 (State.portCycle s p) := by
  unfold State.portCycle
  try dsimp only
  repeat' first
    | with_reducible assumption
    | with_reducible exact Law.refl _ _ _
    | exact sub_trans rfl hW
    | exact sub_trans rfl hP
    | with_reducible refine Law.ite (fun _ => ?_) (fun _ => ?_)
    | with_reducible refine State.pfEvent_law ?_ _ _ _  ?_ ?_
    | split
    | dsimp only [id]

theorem State.cycleEvents_law {W P : Nat} {s0 s : State} (h : Law W P s0 s) (hW : 0x10 &&& W = 0x10) (hP : 0x0 &&& P = 0x0) :
    Law W P s0 (State.cycleEvents s) := by
  unfold State.cycleEvents
  try dsimp only
  repeat' first
    | with_reducible assumption
    | with_reducible exact Law.refl _ _ _
    | exact sub_trans rfl hW
    | exact sub_trans rfl hP
    | with_reducible refine Law.ite (fun _ => ?_) (fun _ => ?_)
    | with_reducible refine State.pfEvent_law ?_ _ _ _  ?_ ?_
    | with_reducible refine State.portCycle_law ?_ _  ?_ ?_
    | with_reducible refine Law.foldl _ ?_ (fun _ _ _ => ?_)
    | with_reducible refine Law.foldl_fst _ ?_ (fun _ _ _ _ => ?_)
    | split
    | dsimp only [id]

theorem State.wdTicks_law {W P : Nat} {s0 s : State} (h : Law W P s0 s) (hW : 0x30000000000000000000000000000000 &&& W = 0x30000000000000000000000000000000) (hP : 0x8000 &&& P = 0x8000) :
    Law W P s0 (State.wdTicks s) := by
  unfold State.wdTicks
  try dsimp only
  repeat' first
    | with_reducible assumption
    | with_reducible exact Law.refl _ _ _
    | exact sub_trans rfl hW
    | exact sub_trans rfl hP
    | with_reducible refine Law.ite (fun _ => ?_) (fun _ => ?_)
    | with_reducible refine State.wdWatch_law ?_ _  ?_ ?_
    | with_reducible refine Law.foldl _ ?_ (fun _ _ _ => ?_)
    | with_reducible refine Law.foldl_fst _ ?_ (fun _ _ _ _ => ?_)
    | split
    | dsimp only [id]

theorem State.tick_law {W P : Nat} (s : State) (hW : 0x3000000000000000000000001c00013e &&& W = 0x3000000000000000000000001c00013e) (hP : 0x11cb0d &&& P = 0x11cb0d) :
    Law W P { s with cycle := s.cycle + 1 } s.tick := by
  have h0 : Law W P { s with cycle := s.cycle + 1 } { s with cycle := s.cycle + 1, setNow := SMap.empty } :=
    ⟨fun _ _ => rfl, fun p _ => by cases p <;> rfl, rfl, rfl, id⟩
  unfold State.tick
  extract_lets +onlyGivenNames s1
  have h1 : Law W P { s with cycle := s.cycle + 1 } s1 := h0
  clear_value s1
  generalize ({ s with cycle := s.cycle + 1 } : State) = u at h1 ⊢
  repeat' first
    | with_reducible assumption
    | with_reducible exact Law.refl _ _ _
    | extract_lets
    | exact sub_trans rfl hW
    | exact sub_trans rfl hP
    | with_reducible refine Law.ite (fun _ => ?_) (fun _ => ?_)
    | with_reducible refine State.irqEval_law ?_ ?_ ?_
    | with_reducible refine State.cycleEvents_law ?_ ?_ ?_
    | with_reducible refine State.wdTicks_law ?_ ?_ ?_
    | with_reducible refine State.txTicks_law ?_ ?_ ?_
    | with_reducible refine State.ringTicks_law ?_ _ ?_ ?_
    | with_reducible refine State.spoutTick_law ?_ ?_ ?_
    | with_reducible refine State.kettleTick_law ?_ ?_ ?_
    | with_reducible refine State.aonEdge_law ?_ ?_ ?_

end Sys2Proof.Machine
end

