-- ==== Sys2Proof/Laws/State.lean ====
section
/-! SUPPORT. The fields of State after each basic update: all true by unfolding once, so that no later proof unfolds a record update. -/

namespace Sys2Proof.Machine

@[simp] theorem State.wr_cycle (s : State) (a : Nat) (v : Reg64) : (s.wr a v).cycle = s.cycle := rfl
@[simp] theorem State.wr_dev (s : State) (a : Nat) (v : Reg64) : (s.wr a v).dev = s.dev := rfl
@[simp] theorem State.wr_pcie (s : State) (a : Nat) (v : Reg64) : (s.wr a v).pcie = s.pcie := rfl
@[simp] theorem State.wr_irq (s : State) (a : Nat) (v : Reg64) : (s.wr a v).irq = s.irq := rfl
@[simp] theorem State.wr_spout (s : State) (a : Nat) (v : Reg64) : (s.wr a v).spout = s.spout := rfl
@[simp] theorem State.wr_host (s : State) (a : Nat) (v : Reg64) : (s.wr a v).host = s.host := rfl
@[simp] theorem State.wr_cfg (s : State) (a : Nat) (v : Reg64) : (s.wr a v).cfg = s.cfg := rfl
@[simp] theorem State.wr_img (s : State) (a : Nat) (v : Reg64) : (s.wr a v).img = s.img := rfl
@[simp] theorem State.wr_scans (s : State) (a : Nat) (v : Reg64) : (s.wr a v).scans = s.scans := rfl
@[simp] theorem State.wr_kettle (s : State) (a : Nat) (v : Reg64) : (s.wr a v).kettle = s.kettle := rfl
@[simp] theorem State.wr_aon (s : State) (a : Nat) (v : Reg64) : (s.wr a v).aon = s.aon := rfl
@[simp] theorem State.wr_vane (s : State) (a : Nat) (v : Reg64) : (s.wr a v).vane = s.vane := rfl
@[simp] theorem State.wr_caddy (s : State) (a : Nat) (v : Reg64) : (s.wr a v).caddy = s.caddy := rfl
@[simp] theorem State.wr_phase (s : State) (a : Nat) (v : Reg64) : (s.wr a v).phase = s.phase := rfl
@[simp] theorem State.wr_cal (s : State) (a : Nat) (v : Reg64) : (s.wr a v).cal = s.cal := rfl
@[simp] theorem State.wr_slices (s : State) (a : Nat) (v : Reg64) : (s.wr a v).slices = s.slices := rfl
@[simp] theorem State.wr_fab (s : State) (a : Nat) (v : Reg64) : (s.wr a v).fab = s.fab := rfl
@[simp] theorem State.wr_lines (s : State) (a : Nat) (v : Reg64) : (s.wr a v).lines = s.lines := rfl
@[simp] theorem State.wr_tt (s : State) (a : Nat) (v : Reg64) : (s.wr a v).tt = s.tt := rfl
@[simp] theorem State.wr_setNow (s : State) (a : Nat) (v : Reg64) : (s.wr a v).setNow = s.setNow := rfl
@[simp] theorem State.wr_freeCtr (s : State) (a : Nat) (v : Reg64) : (s.wr a v).freeCtr = s.freeCtr := rfl
@[simp] theorem State.wr_uid (s : State) (a : Nat) (v : Reg64) : (s.wr a v).uid = s.uid := rfl
@[simp] theorem State.wr_out (s : State) (a : Nat) (v : Reg64) : (s.wr a v).out = s.out := rfl
@[simp] theorem State.wr_pending (s : State) (a : Nat) (v : Reg64) : (s.wr a v).pending = s.pending := rfl
@[simp] theorem State.setFld_cycle (s : State) (f : Fld) (v : Nat) : (s.setFld f v).cycle = s.cycle := rfl
@[simp] theorem State.setFld_dev (s : State) (f : Fld) (v : Nat) : (s.setFld f v).dev = s.dev := rfl
@[simp] theorem State.setFld_pcie (s : State) (f : Fld) (v : Nat) : (s.setFld f v).pcie = s.pcie := rfl
@[simp] theorem State.setFld_irq (s : State) (f : Fld) (v : Nat) : (s.setFld f v).irq = s.irq := rfl
@[simp] theorem State.setFld_spout (s : State) (f : Fld) (v : Nat) : (s.setFld f v).spout = s.spout := rfl
@[simp] theorem State.setFld_host (s : State) (f : Fld) (v : Nat) : (s.setFld f v).host = s.host := rfl
@[simp] theorem State.setFld_cfg (s : State) (f : Fld) (v : Nat) : (s.setFld f v).cfg = s.cfg := rfl
@[simp] theorem State.setFld_img (s : State) (f : Fld) (v : Nat) : (s.setFld f v).img = s.img := rfl
@[simp] theorem State.setFld_scans (s : State) (f : Fld) (v : Nat) : (s.setFld f v).scans = s.scans := rfl
@[simp] theorem State.setFld_kettle (s : State) (f : Fld) (v : Nat) : (s.setFld f v).kettle = s.kettle := rfl
@[simp] theorem State.setFld_aon (s : State) (f : Fld) (v : Nat) : (s.setFld f v).aon = s.aon := rfl
@[simp] theorem State.setFld_vane (s : State) (f : Fld) (v : Nat) : (s.setFld f v).vane = s.vane := rfl
@[simp] theorem State.setFld_caddy (s : State) (f : Fld) (v : Nat) : (s.setFld f v).caddy = s.caddy := rfl
@[simp] theorem State.setFld_phase (s : State) (f : Fld) (v : Nat) : (s.setFld f v).phase = s.phase := rfl
@[simp] theorem State.setFld_cal (s : State) (f : Fld) (v : Nat) : (s.setFld f v).cal = s.cal := rfl
@[simp] theorem State.setFld_slices (s : State) (f : Fld) (v : Nat) : (s.setFld f v).slices = s.slices := rfl
@[simp] theorem State.setFld_fab (s : State) (f : Fld) (v : Nat) : (s.setFld f v).fab = s.fab := rfl
@[simp] theorem State.setFld_lines (s : State) (f : Fld) (v : Nat) : (s.setFld f v).lines = s.lines := rfl
@[simp] theorem State.setFld_tt (s : State) (f : Fld) (v : Nat) : (s.setFld f v).tt = s.tt := rfl
@[simp] theorem State.setFld_setNow (s : State) (f : Fld) (v : Nat) : (s.setFld f v).setNow = s.setNow := rfl
@[simp] theorem State.setFld_freeCtr (s : State) (f : Fld) (v : Nat) : (s.setFld f v).freeCtr = s.freeCtr := rfl
@[simp] theorem State.setFld_uid (s : State) (f : Fld) (v : Nat) : (s.setFld f v).uid = s.uid := rfl
@[simp] theorem State.setFld_out (s : State) (f : Fld) (v : Nat) : (s.setFld f v).out = s.out := rfl
@[simp] theorem State.setFld_pending (s : State) (f : Fld) (v : Nat) : (s.setFld f v).pending = s.pending := rfl
@[simp] theorem State.setFldBit_cycle (s : State) (f : Fld) (i : Nat) (b : Bool) : (s.setFldBit f i b).cycle = s.cycle := rfl
@[simp] theorem State.setFldBit_dev (s : State) (f : Fld) (i : Nat) (b : Bool) : (s.setFldBit f i b).dev = s.dev := rfl
@[simp] theorem State.setFldBit_pcie (s : State) (f : Fld) (i : Nat) (b : Bool) : (s.setFldBit f i b).pcie = s.pcie := rfl
@[simp] theorem State.setFldBit_irq (s : State) (f : Fld) (i : Nat) (b : Bool) : (s.setFldBit f i b).irq = s.irq := rfl
@[simp] theorem State.setFldBit_spout (s : State) (f : Fld) (i : Nat) (b : Bool) : (s.setFldBit f i b).spout = s.spout := rfl
@[simp] theorem State.setFldBit_host (s : State) (f : Fld) (i : Nat) (b : Bool) : (s.setFldBit f i b).host = s.host := rfl
@[simp] theorem State.setFldBit_cfg (s : State) (f : Fld) (i : Nat) (b : Bool) : (s.setFldBit f i b).cfg = s.cfg := rfl
@[simp] theorem State.setFldBit_img (s : State) (f : Fld) (i : Nat) (b : Bool) : (s.setFldBit f i b).img = s.img := rfl
@[simp] theorem State.setFldBit_scans (s : State) (f : Fld) (i : Nat) (b : Bool) : (s.setFldBit f i b).scans = s.scans := rfl
@[simp] theorem State.setFldBit_kettle (s : State) (f : Fld) (i : Nat) (b : Bool) : (s.setFldBit f i b).kettle = s.kettle := rfl
@[simp] theorem State.setFldBit_aon (s : State) (f : Fld) (i : Nat) (b : Bool) : (s.setFldBit f i b).aon = s.aon := rfl
@[simp] theorem State.setFldBit_vane (s : State) (f : Fld) (i : Nat) (b : Bool) : (s.setFldBit f i b).vane = s.vane := rfl
@[simp] theorem State.setFldBit_caddy (s : State) (f : Fld) (i : Nat) (b : Bool) : (s.setFldBit f i b).caddy = s.caddy := rfl
@[simp] theorem State.setFldBit_phase (s : State) (f : Fld) (i : Nat) (b : Bool) : (s.setFldBit f i b).phase = s.phase := rfl
@[simp] theorem State.setFldBit_cal (s : State) (f : Fld) (i : Nat) (b : Bool) : (s.setFldBit f i b).cal = s.cal := rfl
@[simp] theorem State.setFldBit_slices (s : State) (f : Fld) (i : Nat) (b : Bool) : (s.setFldBit f i b).slices = s.slices := rfl
@[simp] theorem State.setFldBit_fab (s : State) (f : Fld) (i : Nat) (b : Bool) : (s.setFldBit f i b).fab = s.fab := rfl
@[simp] theorem State.setFldBit_lines (s : State) (f : Fld) (i : Nat) (b : Bool) : (s.setFldBit f i b).lines = s.lines := rfl
@[simp] theorem State.setFldBit_tt (s : State) (f : Fld) (i : Nat) (b : Bool) : (s.setFldBit f i b).tt = s.tt := rfl
@[simp] theorem State.setFldBit_setNow (s : State) (f : Fld) (i : Nat) (b : Bool) : (s.setFldBit f i b).setNow = s.setNow := rfl
@[simp] theorem State.setFldBit_freeCtr (s : State) (f : Fld) (i : Nat) (b : Bool) : (s.setFldBit f i b).freeCtr = s.freeCtr := rfl
@[simp] theorem State.setFldBit_uid (s : State) (f : Fld) (i : Nat) (b : Bool) : (s.setFldBit f i b).uid = s.uid := rfl
@[simp] theorem State.setFldBit_out (s : State) (f : Fld) (i : Nat) (b : Bool) : (s.setFldBit f i b).out = s.out := rfl
@[simp] theorem State.setFldBit_pending (s : State) (f : Fld) (i : Nat) (b : Bool) : (s.setFldBit f i b).pending = s.pending := rfl
@[simp] theorem State.satAdd_cycle (s : State) (f : Fld) (n : Nat) : (s.satAdd f n).cycle = s.cycle := rfl
@[simp] theorem State.satAdd_dev (s : State) (f : Fld) (n : Nat) : (s.satAdd f n).dev = s.dev := rfl
@[simp] theorem State.satAdd_pcie (s : State) (f : Fld) (n : Nat) : (s.satAdd f n).pcie = s.pcie := rfl
@[simp] theorem State.satAdd_irq (s : State) (f : Fld) (n : Nat) : (s.satAdd f n).irq = s.irq := rfl
@[simp] theorem State.satAdd_spout (s : State) (f : Fld) (n : Nat) : (s.satAdd f n).spout = s.spout := rfl
@[simp] theorem State.satAdd_host (s : State) (f : Fld) (n : Nat) : (s.satAdd f n).host = s.host := rfl
@[simp] theorem State.satAdd_cfg (s : State) (f : Fld) (n : Nat) : (s.satAdd f n).cfg = s.cfg := rfl
@[simp] theorem State.satAdd_img (s : State) (f : Fld) (n : Nat) : (s.satAdd f n).img = s.img := rfl
@[simp] theorem State.satAdd_scans (s : State) (f : Fld) (n : Nat) : (s.satAdd f n).scans = s.scans := rfl
@[simp] theorem State.satAdd_kettle (s : State) (f : Fld) (n : Nat) : (s.satAdd f n).kettle = s.kettle := rfl
@[simp] theorem State.satAdd_aon (s : State) (f : Fld) (n : Nat) : (s.satAdd f n).aon = s.aon := rfl
@[simp] theorem State.satAdd_vane (s : State) (f : Fld) (n : Nat) : (s.satAdd f n).vane = s.vane := rfl
@[simp] theorem State.satAdd_caddy (s : State) (f : Fld) (n : Nat) : (s.satAdd f n).caddy = s.caddy := rfl
@[simp] theorem State.satAdd_phase (s : State) (f : Fld) (n : Nat) : (s.satAdd f n).phase = s.phase := rfl
@[simp] theorem State.satAdd_cal (s : State) (f : Fld) (n : Nat) : (s.satAdd f n).cal = s.cal := rfl
@[simp] theorem State.satAdd_slices (s : State) (f : Fld) (n : Nat) : (s.satAdd f n).slices = s.slices := rfl
@[simp] theorem State.satAdd_fab (s : State) (f : Fld) (n : Nat) : (s.satAdd f n).fab = s.fab := rfl
@[simp] theorem State.satAdd_lines (s : State) (f : Fld) (n : Nat) : (s.satAdd f n).lines = s.lines := rfl
@[simp] theorem State.satAdd_tt (s : State) (f : Fld) (n : Nat) : (s.satAdd f n).tt = s.tt := rfl
@[simp] theorem State.satAdd_setNow (s : State) (f : Fld) (n : Nat) : (s.satAdd f n).setNow = s.setNow := rfl
@[simp] theorem State.satAdd_freeCtr (s : State) (f : Fld) (n : Nat) : (s.satAdd f n).freeCtr = s.freeCtr := rfl
@[simp] theorem State.satAdd_uid (s : State) (f : Fld) (n : Nat) : (s.satAdd f n).uid = s.uid := rfl
@[simp] theorem State.satAdd_out (s : State) (f : Fld) (n : Nat) : (s.satAdd f n).out = s.out := rfl
@[simp] theorem State.satAdd_pending (s : State) (f : Fld) (n : Nat) : (s.satAdd f n).pending = s.pending := rfl
@[simp] theorem State.wrapAdd_cycle (s : State) (f : Fld) (n : Nat) : (s.wrapAdd f n).cycle = s.cycle := rfl
@[simp] theorem State.wrapAdd_dev (s : State) (f : Fld) (n : Nat) : (s.wrapAdd f n).dev = s.dev := rfl
@[simp] theorem State.wrapAdd_pcie (s : State) (f : Fld) (n : Nat) : (s.wrapAdd f n).pcie = s.pcie := rfl
@[simp] theorem State.wrapAdd_irq (s : State) (f : Fld) (n : Nat) : (s.wrapAdd f n).irq = s.irq := rfl
@[simp] theorem State.wrapAdd_spout (s : State) (f : Fld) (n : Nat) : (s.wrapAdd f n).spout = s.spout := rfl
@[simp] theorem State.wrapAdd_host (s : State) (f : Fld) (n : Nat) : (s.wrapAdd f n).host = s.host := rfl
@[simp] theorem State.wrapAdd_cfg (s : State) (f : Fld) (n : Nat) : (s.wrapAdd f n).cfg = s.cfg := rfl
@[simp] theorem State.wrapAdd_img (s : State) (f : Fld) (n : Nat) : (s.wrapAdd f n).img = s.img := rfl
@[simp] theorem State.wrapAdd_scans (s : State) (f : Fld) (n : Nat) : (s.wrapAdd f n).scans = s.scans := rfl
@[simp] theorem State.wrapAdd_kettle (s : State) (f : Fld) (n : Nat) : (s.wrapAdd f n).kettle = s.kettle := rfl
@[simp] theorem State.wrapAdd_aon (s : State) (f : Fld) (n : Nat) : (s.wrapAdd f n).aon = s.aon := rfl
@[simp] theorem State.wrapAdd_vane (s : State) (f : Fld) (n : Nat) : (s.wrapAdd f n).vane = s.vane := rfl
@[simp] theorem State.wrapAdd_caddy (s : State) (f : Fld) (n : Nat) : (s.wrapAdd f n).caddy = s.caddy := rfl
@[simp] theorem State.wrapAdd_phase (s : State) (f : Fld) (n : Nat) : (s.wrapAdd f n).phase = s.phase := rfl
@[simp] theorem State.wrapAdd_cal (s : State) (f : Fld) (n : Nat) : (s.wrapAdd f n).cal = s.cal := rfl
@[simp] theorem State.wrapAdd_slices (s : State) (f : Fld) (n : Nat) : (s.wrapAdd f n).slices = s.slices := rfl
@[simp] theorem State.wrapAdd_fab (s : State) (f : Fld) (n : Nat) : (s.wrapAdd f n).fab = s.fab := rfl
@[simp] theorem State.wrapAdd_lines (s : State) (f : Fld) (n : Nat) : (s.wrapAdd f n).lines = s.lines := rfl
@[simp] theorem State.wrapAdd_tt (s : State) (f : Fld) (n : Nat) : (s.wrapAdd f n).tt = s.tt := rfl
@[simp] theorem State.wrapAdd_setNow (s : State) (f : Fld) (n : Nat) : (s.wrapAdd f n).setNow = s.setNow := rfl
@[simp] theorem State.wrapAdd_freeCtr (s : State) (f : Fld) (n : Nat) : (s.wrapAdd f n).freeCtr = s.freeCtr := rfl
@[simp] theorem State.wrapAdd_uid (s : State) (f : Fld) (n : Nat) : (s.wrapAdd f n).uid = s.uid := rfl
@[simp] theorem State.wrapAdd_out (s : State) (f : Fld) (n : Nat) : (s.wrapAdd f n).out = s.out := rfl
@[simp] theorem State.wrapAdd_pending (s : State) (f : Fld) (n : Nat) : (s.wrapAdd f n).pending = s.pending := rfl
@[simp] theorem State.countN_cycle (s : State) (a n : Nat) : (s.countN a n).cycle = s.cycle := rfl
@[simp] theorem State.countN_dev (s : State) (a n : Nat) : (s.countN a n).dev = s.dev := rfl
@[simp] theorem State.countN_pcie (s : State) (a n : Nat) : (s.countN a n).pcie = s.pcie := rfl
@[simp] theorem State.countN_irq (s : State) (a n : Nat) : (s.countN a n).irq = s.irq := rfl
@[simp] theorem State.countN_spout (s : State) (a n : Nat) : (s.countN a n).spout = s.spout := rfl
@[simp] theorem State.countN_host (s : State) (a n : Nat) : (s.countN a n).host = s.host := rfl
@[simp] theorem State.countN_cfg (s : State) (a n : Nat) : (s.countN a n).cfg = s.cfg := rfl
@[simp] theorem State.countN_img (s : State) (a n : Nat) : (s.countN a n).img = s.img := rfl
@[simp] theorem State.countN_scans (s : State) (a n : Nat) : (s.countN a n).scans = s.scans := rfl
@[simp] theorem State.countN_kettle (s : State) (a n : Nat) : (s.countN a n).kettle = s.kettle := rfl
@[simp] theorem State.countN_aon (s : State) (a n : Nat) : (s.countN a n).aon = s.aon := rfl
@[simp] theorem State.countN_vane (s : State) (a n : Nat) : (s.countN a n).vane = s.vane := rfl
@[simp] theorem State.countN_caddy (s : State) (a n : Nat) : (s.countN a n).caddy = s.caddy := rfl
@[simp] theorem State.countN_phase (s : State) (a n : Nat) : (s.countN a n).phase = s.phase := rfl
@[simp] theorem State.countN_cal (s : State) (a n : Nat) : (s.countN a n).cal = s.cal := rfl
@[simp] theorem State.countN_slices (s : State) (a n : Nat) : (s.countN a n).slices = s.slices := rfl
@[simp] theorem State.countN_fab (s : State) (a n : Nat) : (s.countN a n).fab = s.fab := rfl
@[simp] theorem State.countN_lines (s : State) (a n : Nat) : (s.countN a n).lines = s.lines := rfl
@[simp] theorem State.countN_tt (s : State) (a n : Nat) : (s.countN a n).tt = s.tt := rfl
@[simp] theorem State.countN_setNow (s : State) (a n : Nat) : (s.countN a n).setNow = s.setNow := rfl
@[simp] theorem State.countN_freeCtr (s : State) (a n : Nat) : (s.countN a n).freeCtr = s.freeCtr := rfl
@[simp] theorem State.countN_uid (s : State) (a n : Nat) : (s.countN a n).uid = s.uid := rfl
@[simp] theorem State.countN_out (s : State) (a n : Nat) : (s.countN a n).out = s.out := rfl
@[simp] theorem State.countN_pending (s : State) (a n : Nat) : (s.countN a n).pending = s.pending := rfl
@[simp] theorem State.count_cycle (s : State) (a : Nat) : (s.count a).cycle = s.cycle := rfl
@[simp] theorem State.count_dev (s : State) (a : Nat) : (s.count a).dev = s.dev := rfl
@[simp] theorem State.count_pcie (s : State) (a : Nat) : (s.count a).pcie = s.pcie := rfl
@[simp] theorem State.count_irq (s : State) (a : Nat) : (s.count a).irq = s.irq := rfl
@[simp] theorem State.count_spout (s : State) (a : Nat) : (s.count a).spout = s.spout := rfl
@[simp] theorem State.count_host (s : State) (a : Nat) : (s.count a).host = s.host := rfl
@[simp] theorem State.count_cfg (s : State) (a : Nat) : (s.count a).cfg = s.cfg := rfl
@[simp] theorem State.count_img (s : State) (a : Nat) : (s.count a).img = s.img := rfl
@[simp] theorem State.count_scans (s : State) (a : Nat) : (s.count a).scans = s.scans := rfl
@[simp] theorem State.count_kettle (s : State) (a : Nat) : (s.count a).kettle = s.kettle := rfl
@[simp] theorem State.count_aon (s : State) (a : Nat) : (s.count a).aon = s.aon := rfl
@[simp] theorem State.count_vane (s : State) (a : Nat) : (s.count a).vane = s.vane := rfl
@[simp] theorem State.count_caddy (s : State) (a : Nat) : (s.count a).caddy = s.caddy := rfl
@[simp] theorem State.count_phase (s : State) (a : Nat) : (s.count a).phase = s.phase := rfl
@[simp] theorem State.count_cal (s : State) (a : Nat) : (s.count a).cal = s.cal := rfl
@[simp] theorem State.count_slices (s : State) (a : Nat) : (s.count a).slices = s.slices := rfl
@[simp] theorem State.count_fab (s : State) (a : Nat) : (s.count a).fab = s.fab := rfl
@[simp] theorem State.count_lines (s : State) (a : Nat) : (s.count a).lines = s.lines := rfl
@[simp] theorem State.count_tt (s : State) (a : Nat) : (s.count a).tt = s.tt := rfl
@[simp] theorem State.count_setNow (s : State) (a : Nat) : (s.count a).setNow = s.setNow := rfl
@[simp] theorem State.count_freeCtr (s : State) (a : Nat) : (s.count a).freeCtr = s.freeCtr := rfl
@[simp] theorem State.count_uid (s : State) (a : Nat) : (s.count a).uid = s.uid := rfl
@[simp] theorem State.count_out (s : State) (a : Nat) : (s.count a).out = s.out := rfl
@[simp] theorem State.count_pending (s : State) (a : Nat) : (s.count a).pending = s.pending := rfl
@[simp] theorem State.setPair_cycle (s : State) (lo hi : Nat) (v : Int) : (s.setPair lo hi v).cycle = s.cycle := rfl
@[simp] theorem State.setPair_dev (s : State) (lo hi : Nat) (v : Int) : (s.setPair lo hi v).dev = s.dev := rfl
@[simp] theorem State.setPair_pcie (s : State) (lo hi : Nat) (v : Int) : (s.setPair lo hi v).pcie = s.pcie := rfl
@[simp] theorem State.setPair_irq (s : State) (lo hi : Nat) (v : Int) : (s.setPair lo hi v).irq = s.irq := rfl
@[simp] theorem State.setPair_spout (s : State) (lo hi : Nat) (v : Int) : (s.setPair lo hi v).spout = s.spout := rfl
@[simp] theorem State.setPair_host (s : State) (lo hi : Nat) (v : Int) : (s.setPair lo hi v).host = s.host := rfl
@[simp] theorem State.setPair_cfg (s : State) (lo hi : Nat) (v : Int) : (s.setPair lo hi v).cfg = s.cfg := rfl
@[simp] theorem State.setPair_img (s : State) (lo hi : Nat) (v : Int) : (s.setPair lo hi v).img = s.img := rfl
@[simp] theorem State.setPair_scans (s : State) (lo hi : Nat) (v : Int) : (s.setPair lo hi v).scans = s.scans := rfl
@[simp] theorem State.setPair_kettle (s : State) (lo hi : Nat) (v : Int) : (s.setPair lo hi v).kettle = s.kettle := rfl
@[simp] theorem State.setPair_aon (s : State) (lo hi : Nat) (v : Int) : (s.setPair lo hi v).aon = s.aon := rfl
@[simp] theorem State.setPair_vane (s : State) (lo hi : Nat) (v : Int) : (s.setPair lo hi v).vane = s.vane := rfl
@[simp] theorem State.setPair_caddy (s : State) (lo hi : Nat) (v : Int) : (s.setPair lo hi v).caddy = s.caddy := rfl
@[simp] theorem State.setPair_phase (s : State) (lo hi : Nat) (v : Int) : (s.setPair lo hi v).phase = s.phase := rfl
@[simp] theorem State.setPair_cal (s : State) (lo hi : Nat) (v : Int) : (s.setPair lo hi v).cal = s.cal := rfl
@[simp] theorem State.setPair_slices (s : State) (lo hi : Nat) (v : Int) : (s.setPair lo hi v).slices = s.slices := rfl
@[simp] theorem State.setPair_fab (s : State) (lo hi : Nat) (v : Int) : (s.setPair lo hi v).fab = s.fab := rfl
@[simp] theorem State.setPair_lines (s : State) (lo hi : Nat) (v : Int) : (s.setPair lo hi v).lines = s.lines := rfl
@[simp] theorem State.setPair_tt (s : State) (lo hi : Nat) (v : Int) : (s.setPair lo hi v).tt = s.tt := rfl
@[simp] theorem State.setPair_setNow (s : State) (lo hi : Nat) (v : Int) : (s.setPair lo hi v).setNow = s.setNow := rfl
@[simp] theorem State.setPair_freeCtr (s : State) (lo hi : Nat) (v : Int) : (s.setPair lo hi v).freeCtr = s.freeCtr := rfl
@[simp] theorem State.setPair_uid (s : State) (lo hi : Nat) (v : Int) : (s.setPair lo hi v).uid = s.uid := rfl
@[simp] theorem State.setPair_out (s : State) (lo hi : Nat) (v : Int) : (s.setPair lo hi v).out = s.out := rfl
@[simp] theorem State.setPair_pending (s : State) (lo hi : Nat) (v : Int) : (s.setPair lo hi v).pending = s.pending := rfl
@[simp] theorem State.porWhere_cycle (s : State) (p : Nat → Bool) : (s.porWhere p).cycle = s.cycle := rfl
@[simp] theorem State.porWhere_dev (s : State) (p : Nat → Bool) : (s.porWhere p).dev = s.dev := rfl
@[simp] theorem State.porWhere_pcie (s : State) (p : Nat → Bool) : (s.porWhere p).pcie = s.pcie := rfl
@[simp] theorem State.porWhere_irq (s : State) (p : Nat → Bool) : (s.porWhere p).irq = s.irq := rfl
@[simp] theorem State.porWhere_spout (s : State) (p : Nat → Bool) : (s.porWhere p).spout = s.spout := rfl
@[simp] theorem State.porWhere_host (s : State) (p : Nat → Bool) : (s.porWhere p).host = s.host := rfl
@[simp] theorem State.porWhere_cfg (s : State) (p : Nat → Bool) : (s.porWhere p).cfg = s.cfg := rfl
@[simp] theorem State.porWhere_img (s : State) (p : Nat → Bool) : (s.porWhere p).img = s.img := rfl
@[simp] theorem State.porWhere_scans (s : State) (p : Nat → Bool) : (s.porWhere p).scans = s.scans := rfl
@[simp] theorem State.porWhere_kettle (s : State) (p : Nat → Bool) : (s.porWhere p).kettle = s.kettle := rfl
@[simp] theorem State.porWhere_aon (s : State) (p : Nat → Bool) : (s.porWhere p).aon = s.aon := rfl
@[simp] theorem State.porWhere_vane (s : State) (p : Nat → Bool) : (s.porWhere p).vane = s.vane := rfl
@[simp] theorem State.porWhere_caddy (s : State) (p : Nat → Bool) : (s.porWhere p).caddy = s.caddy := rfl
@[simp] theorem State.porWhere_phase (s : State) (p : Nat → Bool) : (s.porWhere p).phase = s.phase := rfl
@[simp] theorem State.porWhere_cal (s : State) (p : Nat → Bool) : (s.porWhere p).cal = s.cal := rfl
@[simp] theorem State.porWhere_slices (s : State) (p : Nat → Bool) : (s.porWhere p).slices = s.slices := rfl
@[simp] theorem State.porWhere_fab (s : State) (p : Nat → Bool) : (s.porWhere p).fab = s.fab := rfl
@[simp] theorem State.porWhere_lines (s : State) (p : Nat → Bool) : (s.porWhere p).lines = s.lines := rfl
@[simp] theorem State.porWhere_tt (s : State) (p : Nat → Bool) : (s.porWhere p).tt = s.tt := rfl
@[simp] theorem State.porWhere_setNow (s : State) (p : Nat → Bool) : (s.porWhere p).setNow = s.setNow := rfl
@[simp] theorem State.porWhere_freeCtr (s : State) (p : Nat → Bool) : (s.porWhere p).freeCtr = s.freeCtr := rfl
@[simp] theorem State.porWhere_uid (s : State) (p : Nat → Bool) : (s.porWhere p).uid = s.uid := rfl
@[simp] theorem State.porWhere_out (s : State) (p : Nat → Bool) : (s.porWhere p).out = s.out := rfl
@[simp] theorem State.porWhere_pending (s : State) (p : Nat → Bool) : (s.porWhere p).pending = s.pending := rfl
@[simp] theorem State.tookFree_regs (s : State) : (s.tookFree).regs = s.regs := rfl
@[simp] theorem State.tookFree_cycle (s : State) : (s.tookFree).cycle = s.cycle := rfl
@[simp] theorem State.tookFree_dev (s : State) : (s.tookFree).dev = s.dev := rfl
@[simp] theorem State.tookFree_pcie (s : State) : (s.tookFree).pcie = s.pcie := rfl
@[simp] theorem State.tookFree_irq (s : State) : (s.tookFree).irq = s.irq := rfl
@[simp] theorem State.tookFree_spout (s : State) : (s.tookFree).spout = s.spout := rfl
@[simp] theorem State.tookFree_host (s : State) : (s.tookFree).host = s.host := rfl
@[simp] theorem State.tookFree_cfg (s : State) : (s.tookFree).cfg = s.cfg := rfl
@[simp] theorem State.tookFree_img (s : State) : (s.tookFree).img = s.img := rfl
@[simp] theorem State.tookFree_scans (s : State) : (s.tookFree).scans = s.scans := rfl
@[simp] theorem State.tookFree_kettle (s : State) : (s.tookFree).kettle = s.kettle := rfl
@[simp] theorem State.tookFree_aon (s : State) : (s.tookFree).aon = s.aon := rfl
@[simp] theorem State.tookFree_vane (s : State) : (s.tookFree).vane = s.vane := rfl
@[simp] theorem State.tookFree_caddy (s : State) : (s.tookFree).caddy = s.caddy := rfl
@[simp] theorem State.tookFree_phase (s : State) : (s.tookFree).phase = s.phase := rfl
@[simp] theorem State.tookFree_cal (s : State) : (s.tookFree).cal = s.cal := rfl
@[simp] theorem State.tookFree_slices (s : State) : (s.tookFree).slices = s.slices := rfl
@[simp] theorem State.tookFree_fab (s : State) : (s.tookFree).fab = s.fab := rfl
@[simp] theorem State.tookFree_lines (s : State) : (s.tookFree).lines = s.lines := rfl
@[simp] theorem State.tookFree_tt (s : State) : (s.tookFree).tt = s.tt := rfl
@[simp] theorem State.tookFree_setNow (s : State) : (s.tookFree).setNow = s.setNow := rfl
@[simp] theorem State.tookFree_uid (s : State) : (s.tookFree).uid = s.uid := rfl
@[simp] theorem State.tookFree_out (s : State) : (s.tookFree).out = s.out := rfl
@[simp] theorem State.tookFree_pending (s : State) : (s.tookFree).pending = s.pending := rfl
@[simp] theorem State.emit_regs (s : State) (o : Output) : (s.emit o).regs = s.regs := rfl
@[simp] theorem State.emit_cycle (s : State) (o : Output) : (s.emit o).cycle = s.cycle := rfl
@[simp] theorem State.emit_dev (s : State) (o : Output) : (s.emit o).dev = s.dev := rfl
@[simp] theorem State.emit_pcie (s : State) (o : Output) : (s.emit o).pcie = s.pcie := rfl
@[simp] theorem State.emit_irq (s : State) (o : Output) : (s.emit o).irq = s.irq := rfl
@[simp] theorem State.emit_spout (s : State) (o : Output) : (s.emit o).spout = s.spout := rfl
@[simp] theorem State.emit_host (s : State) (o : Output) : (s.emit o).host = s.host := rfl
@[simp] theorem State.emit_cfg (s : State) (o : Output) : (s.emit o).cfg = s.cfg := rfl
@[simp] theorem State.emit_img (s : State) (o : Output) : (s.emit o).img = s.img := rfl
@[simp] theorem State.emit_scans (s : State) (o : Output) : (s.emit o).scans = s.scans := rfl
@[simp] theorem State.emit_kettle (s : State) (o : Output) : (s.emit o).kettle = s.kettle := rfl
@[simp] theorem State.emit_aon (s : State) (o : Output) : (s.emit o).aon = s.aon := rfl
@[simp] theorem State.emit_vane (s : State) (o : Output) : (s.emit o).vane = s.vane := rfl
@[simp] theorem State.emit_caddy (s : State) (o : Output) : (s.emit o).caddy = s.caddy := rfl
@[simp] theorem State.emit_phase (s : State) (o : Output) : (s.emit o).phase = s.phase := rfl
@[simp] theorem State.emit_cal (s : State) (o : Output) : (s.emit o).cal = s.cal := rfl
@[simp] theorem State.emit_slices (s : State) (o : Output) : (s.emit o).slices = s.slices := rfl
@[simp] theorem State.emit_fab (s : State) (o : Output) : (s.emit o).fab = s.fab := rfl
@[simp] theorem State.emit_lines (s : State) (o : Output) : (s.emit o).lines = s.lines := rfl
@[simp] theorem State.emit_tt (s : State) (o : Output) : (s.emit o).tt = s.tt := rfl
@[simp] theorem State.emit_setNow (s : State) (o : Output) : (s.emit o).setNow = s.setNow := rfl
@[simp] theorem State.emit_freeCtr (s : State) (o : Output) : (s.emit o).freeCtr = s.freeCtr := rfl
@[simp] theorem State.emit_uid (s : State) (o : Output) : (s.emit o).uid = s.uid := rfl
@[simp] theorem State.emit_pending (s : State) (o : Output) : (s.emit o).pending = s.pending := rfl
@[simp] theorem State.setKtDom_regs (s : State) (ch d : Nat) (k : KtDom) : (s.setKtDom ch d k).regs = s.regs := rfl
@[simp] theorem State.setKtDom_cycle (s : State) (ch d : Nat) (k : KtDom) : (s.setKtDom ch d k).cycle = s.cycle := rfl
@[simp] theorem State.setKtDom_dev (s : State) (ch d : Nat) (k : KtDom) : (s.setKtDom ch d k).dev = s.dev := rfl
@[simp] theorem State.setKtDom_pcie (s : State) (ch d : Nat) (k : KtDom) : (s.setKtDom ch d k).pcie = s.pcie := rfl
@[simp] theorem State.setKtDom_irq (s : State) (ch d : Nat) (k : KtDom) : (s.setKtDom ch d k).irq = s.irq := rfl
@[simp] theorem State.setKtDom_spout (s : State) (ch d : Nat) (k : KtDom) : (s.setKtDom ch d k).spout = s.spout := rfl
@[simp] theorem State.setKtDom_host (s : State) (ch d : Nat) (k : KtDom) : (s.setKtDom ch d k).host = s.host := rfl
@[simp] theorem State.setKtDom_cfg (s : State) (ch d : Nat) (k : KtDom) : (s.setKtDom ch d k).cfg = s.cfg := rfl
@[simp] theorem State.setKtDom_img (s : State) (ch d : Nat) (k : KtDom) : (s.setKtDom ch d k).img = s.img := rfl
@[simp] theorem State.setKtDom_scans (s : State) (ch d : Nat) (k : KtDom) : (s.setKtDom ch d k).scans = s.scans := rfl
@[simp] theorem State.setKtDom_aon (s : State) (ch d : Nat) (k : KtDom) : (s.setKtDom ch d k).aon = s.aon := rfl
@[simp] theorem State.setKtDom_vane (s : State) (ch d : Nat) (k : KtDom) : (s.setKtDom ch d k).vane = s.vane := rfl
@[simp] theorem State.setKtDom_caddy (s : State) (ch d : Nat) (k : KtDom) : (s.setKtDom ch d k).caddy = s.caddy := rfl
@[simp] theorem State.setKtDom_phase (s : State) (ch d : Nat) (k : KtDom) : (s.setKtDom ch d k).phase = s.phase := rfl
@[simp] theorem State.setKtDom_cal (s : State) (ch d : Nat) (k : KtDom) : (s.setKtDom ch d k).cal = s.cal := rfl
@[simp] theorem State.setKtDom_slices (s : State) (ch d : Nat) (k : KtDom) : (s.setKtDom ch d k).slices = s.slices := rfl
@[simp] theorem State.setKtDom_fab (s : State) (ch d : Nat) (k : KtDom) : (s.setKtDom ch d k).fab = s.fab := rfl
@[simp] theorem State.setKtDom_lines (s : State) (ch d : Nat) (k : KtDom) : (s.setKtDom ch d k).lines = s.lines := rfl
@[simp] theorem State.setKtDom_tt (s : State) (ch d : Nat) (k : KtDom) : (s.setKtDom ch d k).tt = s.tt := rfl
@[simp] theorem State.setKtDom_setNow (s : State) (ch d : Nat) (k : KtDom) : (s.setKtDom ch d k).setNow = s.setNow := rfl
@[simp] theorem State.setKtDom_freeCtr (s : State) (ch d : Nat) (k : KtDom) : (s.setKtDom ch d k).freeCtr = s.freeCtr := rfl
@[simp] theorem State.setKtDom_uid (s : State) (ch d : Nat) (k : KtDom) : (s.setKtDom ch d k).uid = s.uid := rfl
@[simp] theorem State.setKtDom_out (s : State) (ch d : Nat) (k : KtDom) : (s.setKtDom ch d k).out = s.out := rfl
@[simp] theorem State.setKtDom_pending (s : State) (ch d : Nat) (k : KtDom) : (s.setKtDom ch d k).pending = s.pending := rfl
@[simp] theorem State.noteSet_regs (s : State) (a m : Nat) : (s.noteSet a m).regs = s.regs := rfl
@[simp] theorem State.noteSet_cycle (s : State) (a m : Nat) : (s.noteSet a m).cycle = s.cycle := rfl
@[simp] theorem State.noteSet_dev (s : State) (a m : Nat) : (s.noteSet a m).dev = s.dev := rfl
@[simp] theorem State.noteSet_pcie (s : State) (a m : Nat) : (s.noteSet a m).pcie = s.pcie := rfl
@[simp] theorem State.noteSet_irq (s : State) (a m : Nat) : (s.noteSet a m).irq = s.irq := rfl
@[simp] theorem State.noteSet_spout (s : State) (a m : Nat) : (s.noteSet a m).spout = s.spout := rfl
@[simp] theorem State.noteSet_host (s : State) (a m : Nat) : (s.noteSet a m).host = s.host := rfl
@[simp] theorem State.noteSet_cfg (s : State) (a m : Nat) : (s.noteSet a m).cfg = s.cfg := rfl
@[simp] theorem State.noteSet_img (s : State) (a m : Nat) : (s.noteSet a m).img = s.img := rfl
@[simp] theorem State.noteSet_scans (s : State) (a m : Nat) : (s.noteSet a m).scans = s.scans := rfl
@[simp] theorem State.noteSet_kettle (s : State) (a m : Nat) : (s.noteSet a m).kettle = s.kettle := rfl
@[simp] theorem State.noteSet_aon (s : State) (a m : Nat) : (s.noteSet a m).aon = s.aon := rfl
@[simp] theorem State.noteSet_vane (s : State) (a m : Nat) : (s.noteSet a m).vane = s.vane := rfl
@[simp] theorem State.noteSet_caddy (s : State) (a m : Nat) : (s.noteSet a m).caddy = s.caddy := rfl
@[simp] theorem State.noteSet_phase (s : State) (a m : Nat) : (s.noteSet a m).phase = s.phase := rfl
@[simp] theorem State.noteSet_cal (s : State) (a m : Nat) : (s.noteSet a m).cal = s.cal := rfl
@[simp] theorem State.noteSet_slices (s : State) (a m : Nat) : (s.noteSet a m).slices = s.slices := rfl
@[simp] theorem State.noteSet_fab (s : State) (a m : Nat) : (s.noteSet a m).fab = s.fab := rfl
@[simp] theorem State.noteSet_lines (s : State) (a m : Nat) : (s.noteSet a m).lines = s.lines := rfl
@[simp] theorem State.noteSet_tt (s : State) (a m : Nat) : (s.noteSet a m).tt = s.tt := rfl
@[simp] theorem State.noteSet_freeCtr (s : State) (a m : Nat) : (s.noteSet a m).freeCtr = s.freeCtr := rfl
@[simp] theorem State.noteSet_uid (s : State) (a m : Nat) : (s.noteSet a m).uid = s.uid := rfl
@[simp] theorem State.noteSet_out (s : State) (a m : Nat) : (s.noteSet a m).out = s.out := rfl
@[simp] theorem State.noteSet_pending (s : State) (a m : Nat) : (s.noteSet a m).pending = s.pending := rfl
@[simp] theorem State.noteSet_rd (s : State) (a m x : Nat) : (s.noteSet a m).rd x = s.rd x := rfl
@[simp] theorem State.noteSet_fld (s : State) (a m : Nat) (f : Fld) : (s.noteSet a m).fld f = s.fld f := rfl
@[simp] theorem State.noteErr_regs (s : State) (base v ofs : Nat) : (s.noteErr base v ofs).regs = s.regs := rfl
@[simp] theorem State.noteErr_cycle (s : State) (base v ofs : Nat) : (s.noteErr base v ofs).cycle = s.cycle := rfl
@[simp] theorem State.noteErr_dev (s : State) (base v ofs : Nat) : (s.noteErr base v ofs).dev = s.dev := rfl
@[simp] theorem State.noteErr_pcie (s : State) (base v ofs : Nat) : (s.noteErr base v ofs).pcie = s.pcie := rfl
@[simp] theorem State.noteErr_irq (s : State) (base v ofs : Nat) : (s.noteErr base v ofs).irq = s.irq := rfl
@[simp] theorem State.noteErr_spout (s : State) (base v ofs : Nat) : (s.noteErr base v ofs).spout = s.spout := rfl
@[simp] theorem State.noteErr_host (s : State) (base v ofs : Nat) : (s.noteErr base v ofs).host = s.host := rfl
@[simp] theorem State.noteErr_cfg (s : State) (base v ofs : Nat) : (s.noteErr base v ofs).cfg = s.cfg := rfl
@[simp] theorem State.noteErr_img (s : State) (base v ofs : Nat) : (s.noteErr base v ofs).img = s.img := rfl
@[simp] theorem State.noteErr_scans (s : State) (base v ofs : Nat) : (s.noteErr base v ofs).scans = s.scans := rfl
@[simp] theorem State.noteErr_kettle (s : State) (base v ofs : Nat) : (s.noteErr base v ofs).kettle = s.kettle := rfl
@[simp] theorem State.noteErr_aon (s : State) (base v ofs : Nat) : (s.noteErr base v ofs).aon = s.aon := rfl
@[simp] theorem State.noteErr_vane (s : State) (base v ofs : Nat) : (s.noteErr base v ofs).vane = s.vane := rfl
@[simp] theorem State.noteErr_caddy (s : State) (base v ofs : Nat) : (s.noteErr base v ofs).caddy = s.caddy := rfl
@[simp] theorem State.noteErr_phase (s : State) (base v ofs : Nat) : (s.noteErr base v ofs).phase = s.phase := rfl
@[simp] theorem State.noteErr_cal (s : State) (base v ofs : Nat) : (s.noteErr base v ofs).cal = s.cal := rfl
@[simp] theorem State.noteErr_slices (s : State) (base v ofs : Nat) : (s.noteErr base v ofs).slices = s.slices := rfl
@[simp] theorem State.noteErr_fab (s : State) (base v ofs : Nat) : (s.noteErr base v ofs).fab = s.fab := rfl
@[simp] theorem State.noteErr_lines (s : State) (base v ofs : Nat) : (s.noteErr base v ofs).lines = s.lines := rfl
@[simp] theorem State.noteErr_tt (s : State) (base v ofs : Nat) : (s.noteErr base v ofs).tt = s.tt := rfl
@[simp] theorem State.noteErr_freeCtr (s : State) (base v ofs : Nat) : (s.noteErr base v ofs).freeCtr = s.freeCtr := rfl
@[simp] theorem State.noteErr_uid (s : State) (base v ofs : Nat) : (s.noteErr base v ofs).uid = s.uid := rfl
@[simp] theorem State.noteErr_out (s : State) (base v ofs : Nat) : (s.noteErr base v ofs).out = s.out := rfl
@[simp] theorem State.noteErr_pending (s : State) (base v ofs : Nat) : (s.noteErr base v ofs).pending = s.pending := rfl
@[simp] theorem State.noteErr_rd (s : State) (base v ofs x : Nat) : (s.noteErr base v ofs).rd x = s.rd x := rfl
@[simp] theorem State.noteErr_fld (s : State) (base v ofs : Nat) (f : Fld) : (s.noteErr base v ofs).fld f = s.fld f := rfl
@[simp] theorem State.flag_cycle (s : State) (f : Fld) : (s.flag f).cycle = s.cycle := rfl
@[simp] theorem State.flag_dev (s : State) (f : Fld) : (s.flag f).dev = s.dev := rfl
@[simp] theorem State.flag_pcie (s : State) (f : Fld) : (s.flag f).pcie = s.pcie := rfl
@[simp] theorem State.flag_irq (s : State) (f : Fld) : (s.flag f).irq = s.irq := rfl
@[simp] theorem State.flag_spout (s : State) (f : Fld) : (s.flag f).spout = s.spout := rfl
@[simp] theorem State.flag_host (s : State) (f : Fld) : (s.flag f).host = s.host := rfl
@[simp] theorem State.flag_cfg (s : State) (f : Fld) : (s.flag f).cfg = s.cfg := rfl
@[simp] theorem State.flag_img (s : State) (f : Fld) : (s.flag f).img = s.img := rfl
@[simp] theorem State.flag_scans (s : State) (f : Fld) : (s.flag f).scans = s.scans := rfl
@[simp] theorem State.flag_kettle (s : State) (f : Fld) : (s.flag f).kettle = s.kettle := rfl
@[simp] theorem State.flag_aon (s : State) (f : Fld) : (s.flag f).aon = s.aon := rfl
@[simp] theorem State.flag_vane (s : State) (f : Fld) : (s.flag f).vane = s.vane := rfl
@[simp] theorem State.flag_caddy (s : State) (f : Fld) : (s.flag f).caddy = s.caddy := rfl
@[simp] theorem State.flag_phase (s : State) (f : Fld) : (s.flag f).phase = s.phase := rfl
@[simp] theorem State.flag_cal (s : State) (f : Fld) : (s.flag f).cal = s.cal := rfl
@[simp] theorem State.flag_slices (s : State) (f : Fld) : (s.flag f).slices = s.slices := rfl
@[simp] theorem State.flag_fab (s : State) (f : Fld) : (s.flag f).fab = s.fab := rfl
@[simp] theorem State.flag_lines (s : State) (f : Fld) : (s.flag f).lines = s.lines := rfl
@[simp] theorem State.flag_tt (s : State) (f : Fld) : (s.flag f).tt = s.tt := rfl
@[simp] theorem State.flag_freeCtr (s : State) (f : Fld) : (s.flag f).freeCtr = s.freeCtr := rfl
@[simp] theorem State.flag_uid (s : State) (f : Fld) : (s.flag f).uid = s.uid := rfl
@[simp] theorem State.flag_out (s : State) (f : Fld) : (s.flag f).out = s.out := rfl
@[simp] theorem State.flag_pending (s : State) (f : Fld) : (s.flag f).pending = s.pending := rfl
@[simp] theorem State.flagBit_cycle (s : State) (f : Fld) (i : Nat) : (s.flagBit f i).cycle = s.cycle := rfl
@[simp] theorem State.flagBit_dev (s : State) (f : Fld) (i : Nat) : (s.flagBit f i).dev = s.dev := rfl
@[simp] theorem State.flagBit_pcie (s : State) (f : Fld) (i : Nat) : (s.flagBit f i).pcie = s.pcie := rfl
@[simp] theorem State.flagBit_irq (s : State) (f : Fld) (i : Nat) : (s.flagBit f i).irq = s.irq := rfl
@[simp] theorem State.flagBit_spout (s : State) (f : Fld) (i : Nat) : (s.flagBit f i).spout = s.spout := rfl
@[simp] theorem State.flagBit_host (s : State) (f : Fld) (i : Nat) : (s.flagBit f i).host = s.host := rfl
@[simp] theorem State.flagBit_cfg (s : State) (f : Fld) (i : Nat) : (s.flagBit f i).cfg = s.cfg := rfl
@[simp] theorem State.flagBit_img (s : State) (f : Fld) (i : Nat) : (s.flagBit f i).img = s.img := rfl
@[simp] theorem State.flagBit_scans (s : State) (f : Fld) (i : Nat) : (s.flagBit f i).scans = s.scans := rfl
@[simp] theorem State.flagBit_kettle (s : State) (f : Fld) (i : Nat) : (s.flagBit f i).kettle = s.kettle := rfl
@[simp] theorem State.flagBit_aon (s : State) (f : Fld) (i : Nat) : (s.flagBit f i).aon = s.aon := rfl
@[simp] theorem State.flagBit_vane (s : State) (f : Fld) (i : Nat) : (s.flagBit f i).vane = s.vane := rfl
@[simp] theorem State.flagBit_caddy (s : State) (f : Fld) (i : Nat) : (s.flagBit f i).caddy = s.caddy := rfl
@[simp] theorem State.flagBit_phase (s : State) (f : Fld) (i : Nat) : (s.flagBit f i).phase = s.phase := rfl
@[simp] theorem State.flagBit_cal (s : State) (f : Fld) (i : Nat) : (s.flagBit f i).cal = s.cal := rfl
@[simp] theorem State.flagBit_slices (s : State) (f : Fld) (i : Nat) : (s.flagBit f i).slices = s.slices := rfl
@[simp] theorem State.flagBit_fab (s : State) (f : Fld) (i : Nat) : (s.flagBit f i).fab = s.fab := rfl
@[simp] theorem State.flagBit_lines (s : State) (f : Fld) (i : Nat) : (s.flagBit f i).lines = s.lines := rfl
@[simp] theorem State.flagBit_tt (s : State) (f : Fld) (i : Nat) : (s.flagBit f i).tt = s.tt := rfl
@[simp] theorem State.flagBit_freeCtr (s : State) (f : Fld) (i : Nat) : (s.flagBit f i).freeCtr = s.freeCtr := rfl
@[simp] theorem State.flagBit_uid (s : State) (f : Fld) (i : Nat) : (s.flagBit f i).uid = s.uid := rfl
@[simp] theorem State.flagBit_out (s : State) (f : Fld) (i : Nat) : (s.flagBit f i).out = s.out := rfl
@[simp] theorem State.flagBit_pending (s : State) (f : Fld) (i : Nat) : (s.flagBit f i).pending = s.pending := rfl
@[simp] theorem State.flagBits_cycle (s : State) (f : Fld) (m : Nat) : (s.flagBits f m).cycle = s.cycle := rfl
@[simp] theorem State.flagBits_dev (s : State) (f : Fld) (m : Nat) : (s.flagBits f m).dev = s.dev := rfl
@[simp] theorem State.flagBits_pcie (s : State) (f : Fld) (m : Nat) : (s.flagBits f m).pcie = s.pcie := rfl
@[simp] theorem State.flagBits_irq (s : State) (f : Fld) (m : Nat) : (s.flagBits f m).irq = s.irq := rfl
@[simp] theorem State.flagBits_spout (s : State) (f : Fld) (m : Nat) : (s.flagBits f m).spout = s.spout := rfl
@[simp] theorem State.flagBits_host (s : State) (f : Fld) (m : Nat) : (s.flagBits f m).host = s.host := rfl
@[simp] theorem State.flagBits_cfg (s : State) (f : Fld) (m : Nat) : (s.flagBits f m).cfg = s.cfg := rfl
@[simp] theorem State.flagBits_img (s : State) (f : Fld) (m : Nat) : (s.flagBits f m).img = s.img := rfl
@[simp] theorem State.flagBits_scans (s : State) (f : Fld) (m : Nat) : (s.flagBits f m).scans = s.scans := rfl
@[simp] theorem State.flagBits_kettle (s : State) (f : Fld) (m : Nat) : (s.flagBits f m).kettle = s.kettle := rfl
@[simp] theorem State.flagBits_aon (s : State) (f : Fld) (m : Nat) : (s.flagBits f m).aon = s.aon := rfl
@[simp] theorem State.flagBits_vane (s : State) (f : Fld) (m : Nat) : (s.flagBits f m).vane = s.vane := rfl
@[simp] theorem State.flagBits_caddy (s : State) (f : Fld) (m : Nat) : (s.flagBits f m).caddy = s.caddy := rfl
@[simp] theorem State.flagBits_phase (s : State) (f : Fld) (m : Nat) : (s.flagBits f m).phase = s.phase := rfl
@[simp] theorem State.flagBits_cal (s : State) (f : Fld) (m : Nat) : (s.flagBits f m).cal = s.cal := rfl
@[simp] theorem State.flagBits_slices (s : State) (f : Fld) (m : Nat) : (s.flagBits f m).slices = s.slices := rfl
@[simp] theorem State.flagBits_fab (s : State) (f : Fld) (m : Nat) : (s.flagBits f m).fab = s.fab := rfl
@[simp] theorem State.flagBits_lines (s : State) (f : Fld) (m : Nat) : (s.flagBits f m).lines = s.lines := rfl
@[simp] theorem State.flagBits_tt (s : State) (f : Fld) (m : Nat) : (s.flagBits f m).tt = s.tt := rfl
@[simp] theorem State.flagBits_freeCtr (s : State) (f : Fld) (m : Nat) : (s.flagBits f m).freeCtr = s.freeCtr := rfl
@[simp] theorem State.flagBits_uid (s : State) (f : Fld) (m : Nat) : (s.flagBits f m).uid = s.uid := rfl
@[simp] theorem State.flagBits_out (s : State) (f : Fld) (m : Nat) : (s.flagBits f m).out = s.out := rfl
@[simp] theorem State.flagBits_pending (s : State) (f : Fld) (m : Nat) : (s.flagBits f m).pending = s.pending := rfl

end Sys2Proof.Machine
end

