-- ==== Sys2Proof/Machine/Balls.lean ====
section
/-! DEFINITION. The state of each pin group (R409, Table 15.10), read from the state of the device. In OFF no ball is driven (R408). -/

namespace Sys2Proof.Machine

/-- What a ball or a pair shows: high impedance; an input, terminated or not; held low or high; a pair held at its common mode; driven with
data or a clock; or under test control. -/
inductive Ball where
  | z
  | input
  | low
  | high
  | common
  | driven
  | test
  deriving DecidableEq, Repr

/-- Whether test control may act on a lane: a loopback or a pattern runs on it, or an instruction of the test access port has the pins. -/
def State.laneTest (s : State) (l : Nat) : Bool :=
  s.mode == Mode.PROBE && (s.tapPins || s.fld (F.LN_CTRL.LOOP l) != 0 || s.fld (F.LN_CTRL.PRBS l) != 0)

/-- LANE_TXP/N of lane `l`. -/
def State.laneTxBall (s : State) (l : Nat) : Ball :=
  if s.mode < Mode.STEEP ∨ s.laneMode l = 0 ∨ s.powered (sliceOf l) = false then .z
  else if s.laneTest l then .test
  else if s.fld (F.PRT_STATE.ADMIN (s.lanePort l)) = 0 then .common
  else .driven

/-- LANE_RXP/N of lane `l`; in LULL a nominated lane is sensed. -/
def State.laneRxBall (s : State) (l : Nat) : Ball :=
  if s.mode = Mode.LULL then (if s.cfg.wakeLanes.contains l then .input else .z)
  else if s.mode < Mode.STEEP ∨ s.laneMode l = 0 ∨ s.powered (sliceOf l) = false then .z
  else if s.laneTest l then .test
  else .input

/-- LREFCLK_P/N and PCIE_REFCLK_P/N. -/
def State.refClkBall (s : State) : Ball := if s.mode < Mode.LOAD then .z else .input

/-- PCIE_TXP/N and PCIE_RXP/N: active while PERST_N is high. -/
def State.pcieBall (s : State) : Ball :=
  if s.mode < Mode.LOAD then .z else if s.tapPins then .test else if s.dev.perstN then .driven else .z

/-- The P ball of CLK_OUT_k: low until lock, then running, or stopped low. -/
def State.clkOutBall (s : State) (k : Nat) : Ball :=
  if s.mode < Mode.STEEP ∨ s.clkFunc k = false then .z
  else if s.mode = Mode.PROBE then .test
  else if s.fld (F.PIN_CLK_STATUS.RUN k) = 1 then .driven
  else .low

/-- PLS_OUT_n. -/
def State.plsBall (s : State) (n : Nat) : Ball :=
  if s.mode = Mode.PROBE ∧ s.plsFunc n = true then .test
  else match s.plsPin n with
    | none => .z
    | some b => if b then .high else .low

/-- An open-drain output: low or released. -/
def openDrain (low : Bool) : Ball := if low then .low else .z

/-- INT_N, which the core drives. -/
def State.intBall (s : State) : Ball := openDrain (decide (Mode.LOAD ≤ s.mode) && s.intLow)

/-- ALARM_N, which the AON domain drives. -/
def State.alarmBall (s : State) : Ball := openDrain (s.mode != Mode.OFF && s.alarmLow)

/-- WAKE_OUT_N. -/
def State.wakeOutBall (s : State) : Ball := openDrain s.wakeOutLow

/-- FLASH_SCK and FLASH_CS_N: idle with SCK low and CS_N high, or in an operation of the host or the loader. -/
def State.flashBalls (s : State) : Ball × Ball :=
  if s.mode < Mode.LOAD then (.z, .z)
  else if s.host.flashOp != 0 || s.flashLoading then (.driven, .low)
  else (.low, .high)

/-- MDC_m and MDIO_m: MDC high when idle. -/
def State.mdioBalls (s : State) (m : Nat) : Ball × Ball :=
  if s.mode < Mode.LOAD then (.z, .z) else if (s.host.mdioOp.get? m).isSome then (.driven, .driven) else (.high, .z)

/-- Each pin of VANE_ST and VANE_SEL: driven as R327 says, or released. -/
def State.vaneBall (s : State) : Ball := if s.vanePins.isSome then .driven else .z

end Sys2Proof.Machine
end

