-- ==== Sys2Proof/Tests/Slice0.lean ====
section
/-! SUPPORT. Tests: the well-formedness check refuses an ill-formed term of each kind; worked values of the spec; and for every statement with
hypotheses a concrete state and operands that meet them, clause by clause, at boundary values. -/

set_option linter.all false

namespace Sys2Proof.Tests

set_option Elab.async false

open Sys2Proof Sys2Proof.Machine

/-- The state after reset with some fields set. -/
def st (l : List (Fld × Nat)) : State := l.foldl (fun t e => t.setFld e.1 e.2) State.reset

/-- A field after a command; `none` where there is no next state. -/
def after (c : Instr) (s : State) (f : Fld) : Option Nat :=
  match exec c s with
  | .next t => some (t.fld f)
  | _ => none

/-! ## Well-formedness -/

theorem test_wf_refuses_0 : ([
    .registerWrite ⟨true, 0x10000, 1, true⟩ 0,
    .unusedPortWrite ⟨false, 0x4000000, 1, true⟩ 0,
    .unmappedWrite ⟨false, 0x4000000, 1, true⟩ 0,
    .aliasWrite ⟨false, 0x4000000, 1, true⟩ 0,
    .aliasRead ⟨false, 0x100, 1, true⟩,
    .errStatusClear 0xF0,
    .portReset 192,
    .portAdminDown 192,
    .portAdminUp 192,
    .supplyOutOfRange 7 false,
    .partialImageFetch 4,
    .slicePipelineEmpty 4,
    .partialImageApplied 4,
    .linearisationDone 229 [] [],
    .sliceDrainDone 4,
    .sliceDrainLimitExpiry 4,
    .slicePowerUpDone 4 ⟨[], []⟩,
    .laneReset 192,
    .trunkIdleReq 192,
    .trunkIdleExit 192,
    .markerReceived 192 [] [] ⟨0⟩,
    .trunkUnitReceived 192 [] [] ⟨0⟩ 0,
    .pointerReceived 192 [] [],
    .reorderTimeout 192 0] : List Instr).all (fun c => !c.wf) = true := by decide +kernel

theorem test_wf_refuses_1 : ([
    .capReceived 192 0 false,
    .propReceived 192 0,
    .ackReceived 192 0,
    .nakReceived 192 0,
    .trainReceived 192 0 false,
    .dataMarkerReceived 192,
    .idleReqReceived 192,
    .idleAckReceived 192,
    .idleReqSend 192,
    .idleHandshakeComplete 192,
    .idleActivityDetected 192,
    .idleExitTimeout 192,
    .trunkSwitchStep 192,
    .capTimeout 192,
    .responseTimerExpiry 192,
    .trainingTimerExpiry 192,
    .losAssert 192,
    .losDeassert 192,
    .lolAssert 192,
    .losLolPersist 192,
    .laneLockAcquired 192,
    .firstAttemptTimeout 192,
    .eyeMeasurement 192 0 0,
    .ingressFrame 192 [] ⟨0⟩ 0] : List Instr).all (fun c => !c.wf) = true := by decide +kernel

theorem test_wf_refuses_2 : ([
    .learnRequestApply 4,
    .stashMove 4,
    .moveSecondEnd 4,
    .ageingVisit 4 0,
    .twWrite 4 0,
    .twDelete 4 0,
    .twRead 4 0,
    .twRaw 4 0,
    .twFlush 4 0,
    .twCommandDone 4,
    .fenceSet 4 false,
    .fenceDone 4,
    .residueTimeout 4 0 0,
    .residueTimeout 0 4 0,
    .spillRefill 4 0 0,
    .spillRefill 0 192 0,
    .spillRefill 0 0 8,
    .egressSelect 192 0,
    .gateEntryTransition 192,
    .gclCommit 192,
    .gclCommitOff 192,
    .gclAbort 192,
    .gclSwitch 192,
    .pfcFrameReceived 192 0 []] : List Instr).all (fun c => !c.wf) = true := by decide +kernel

theorem test_wf_refuses_3 : ([
    .macControlReceived 192,
    .pauseExpiry 192 0,
    .pauseExpiry 0 8,
    .pauseWatchdogExpiry 192 0,
    .pauseWatchdogExpiry 0 8,
    .wdDropClear 192 0,
    .wdDropClear 0 8,
    .frerRecoveryTimeout 0,
    .frerRecoveryTimeout 1024,
    .kettleWatchdogExpiry 3,
    .channelCopy 3,
    .readmission 3,
    .ppsEdge 2,
    .offsetFeedPush 8 0,
    .feedCreditGrant 8 0,
    .feedCreditRecall 8,
    .servoUpdate 8,
    .sourceLoss 8,
    .pairRevert 4,
    .pairHoldPartner 4,
    .pairUsePrimary 4,
    .incrementWrite 8 0,
    .fhtStart 4,
    .alarmArm 8 0 false] : List Instr).all (fun c => !c.wf) = true := by decide +kernel

theorem test_wf_refuses_4 : ([
    .alarmArm 0 8 false,
    .alarmFire 8,
    .syncReceived 192 ⟨0, 0, 2, 0, 0, 0, false, 0, 0, 0, 0, 0, false, []⟩ ⟨0⟩,
    .followUpReceived 192 ⟨0, 0, 2, 0, 0, 0, false, 0, 0, 0, 0, 0, false, []⟩ ⟨0⟩,
    .delayReqReceived 192 ⟨0, 0, 2, 0, 0, 0, false, 0, 0, 0, 0, 0, false, []⟩ ⟨0⟩,
    .delayRespReceived 192 ⟨0, 0, 2, 0, 0, 0, false, 0, 0, 0, 0, 0, false, []⟩ ⟨0⟩,
    .pdelayReqReceived 192 ⟨0, 0, 2, 0, 0, 0, false, 0, 0, 0, 0, 0, false, []⟩ ⟨0⟩,
    .pdelayRespReceived 192 ⟨0, 0, 2, 0, 0, 0, false, 0, 0, 0, 0, 0, false, []⟩ ⟨0⟩,
    .pdelayRespFuReceived 192 ⟨0, 0, 2, 0, 0, 0, false, 0, 0, 0, 0, 0, false, []⟩ ⟨0⟩,
    .ptpToHost 192 [] ⟨0⟩,
    .syncGridDue 192,
    .delayReqDue 192,
    .followUpSend 192,
    .engineFrameSend 192 0,
    .delayRespTimeout 192,
    .offsetWindowClose 192,
    .trimWrite 192 false 0,
    .eventInputTransition 32 false 0,
    .eventInputTransition 0 false 256,
    .glitchFilterExpiry 32,
    .rotationSlotBegin 5,
    .takeoverOverlapEnd 5 0,
    .reconnectOverlapEnd 5 0,
    .skewMeasurement 4 0] : List Instr).all (fun c => !c.wf) = true := by decide +kernel

theorem test_wf_refuses_5 : ([
    .dllErrorPersist 229 0,
    .recalRequest 256,
    .stampQueueConfig 229 0,
    .stampCreditGrant 192 0 false,
    .stampCreditRecall 195 false,
    .stampPop 228 false,
    .fmStart 5 0,
    .fmGateClose 5,
    .pulseArm 32,
    .pulseStop 32,
    .pulseEdge 32,
    .clockOutEnable 8 false,
    .clockOutFreqWrite 8 0,
    .clockPllLock 8,
    .clockPllLol 8,
    .clockRefLoss 8,
    .candidateInactive 11,
    .candidateActive 11,
    .freqMeasurement 11 none,
    .wtrExpiry 11,
    .esmcPduReceived 192 0,
    .esmcTimeout 11,
    .postWindowEnd 8,
    .ringHostTrigger 8] : List Instr).all (fun c => !c.wf) = true := by decide +kernel

theorem test_wf_refuses_6 : ([
    .ringRelease 8,
    .replayArm 4,
    .replayStop 4,
    .replayRecordSend 4,
    .replayDone 4,
    .strainerGo 8,
    .strainerStop 8,
    .scanEnd 8 0,
    .scanPeriodExpiry 8,
    .aliveExpWrite 8 0,
    .aliveDeadlineExpiry 8,
    .eccSingleError 9,
    .eccDoubleError (.table 4) 0,
    .eccDoubleError (.packetFrame 192) 0,
    .eccDoubleError (.descriptor 192) 0,
    .eccDoubleError (.staging 4) 0,
    .eccDoubleError (.spill 4 0 0) 0,
    .eccDoubleError (.spill 0 192 0) 0,
    .eccDoubleError (.spill 0 0 8) 0,
    .eccDoubleError (.caddyRecord 8 0) 0,
    .eccDoubleError (.caddyHeader 8 0) 0,
    .eccDoubleError (.caddyChunk 8 0) 0,
    .eccDoubleError (.scanned 8) 0,
    .eccDoubleError (.quiet 9) 0] : List Instr).all (fun c => !c.wf) = true := by decide +kernel

theorem test_wf_refuses_7 : ([
    .scrubPass 9,
    .sliceWatchdogExpiry 4,
    .msixUnmask 64,
    .spoutCreditGrant 4 0,
    .spoutCreditRecall 4,
    .pfSelect 64 0,
    .mdioAddress 4 0 0 0,
    .mdioWrite 4 0 0 0,
    .mdioReadInc 4 0 0,
    .mdioRead 4 0 0,
    .mdioOpDone 4 0,
    .tapPrivateDebug 0x7F,
    .tapPrivateDebug 0xFF,
    .tapBypass 1,
    .temperatureRead [0] [],
    .temperatureRead [0, 0, 0, 0, 0, 0, 0, 0] [0],
    .sliceResetDone 4,
    .lolDeassert 192,
    .observeDeviation 3,
    .followUpTimeout 192,
    .dlyValidExpiry 192,
    .wordClockSample 192 false 0 0,
    .ttRoleWrite 192 0,
    .laneLoopPrbsWrite 192 0 0] : List Instr).all (fun c => !c.wf) = true := by decide +kernel

/-! ## Buffers: which one a pool gives is free, so a request is not evaluated -/

theorem poolBytes_ge (k : Nat) : 256 ≤ poolBytes k := by
  unfold poolBytes poolUnit; split <;> (try split) <;> omega

/-- A request for a frame of at most 256 bytes is met where the shared part of P0 has a free cell. -/
theorem extents_small (s : State) (top len tag : Nat) (h1 : len ≤ 256) (h2 : s.hasFree 0 = true) :
    (s.bufExtents top len tag 3 0 []).2.isSome = true := by
  unfold State.bufExtents
  split
  · rfl
  · have hn : min (top - 0) 256 ≤ 256 := by omega
    simp only [List.length_nil, if_true, State.bufAlloc, hn, h2, State.bufTakeFrame]
    generalize (s.setShared (s.sharedFree - 1)).bufTake 0 tag = r
    obtain ⟨u, h⟩ := r
    have := poolBytes_ge (bufPool h)
    unfold State.bufExtents
    simp only [Nat.zero_add]
    rw [if_pos (by omega)]
    rfl

theorem ingress_small (s : State) (len tag : Nat) (h1 : len ≤ 256) (h2 : s.hasFree 0 = true) : (s.ingressExtents len tag).2.isSome = true :=
  extents_small s 10240 len tag h1 h2

/-! ## Worked values of the spec -/

/-- Domain 0 at one value in the three channels. -/
def all3 (x : KtDom) : SMap KtDom := ((SMap.empty.put 0 x).put 8 x).put 16 x

/-- R63: the check value of the nine bytes "123456789". -/
theorem test_crc32c_check_value : crc32c [0x31, 0x32, 0x33, 0x34, 0x35, 0x36, 0x37, 0x38, 0x39] = 0xE3069283 := by decide +kernel

/-- R11: zero written to the length of a Strainer engine that scans is BUSY. -/
theorem test_zero_length_while_scanning_is_busy :
    after (.registerWrite ⟨false, Reg.ST_ENG_LEN 3, 1, true⟩ 0) (st [(F.DEV_MODE.CUR, 5), (F.ST_ENG_RESULT.STATE 3, 1)])
      (F.ERR_STATUS.CODE Base.ST) = some Err.BUSY := by decide +kernel

/-- R11: after the scan the same write is ZERO_LENGTH. -/
theorem test_zero_length_when_idle_is_zero_length :
    after (.registerWrite ⟨false, Reg.ST_ENG_LEN 3, 1, true⟩ 0) (st [(F.DEV_MODE.CUR, 5)]) (F.ERR_STATUS.CODE Base.ST) = some Err.ZERO_LENGTH := by
  decide +kernel

/-- R196, the worked case of the camera stream: the launch time wraps. -/
theorem test_launch_time_wraps : signed 32 ((12704 + 2 ^ 32 - 4294962900) % 2 ^ 32) = 17100 := by decide +kernel

/-- R201, the worked case of port[24]: the switch instant of a commit. -/
theorem test_gate_list_switch_instant :
    ({ st [(F.PRT_GCL_BASE_S_LO.S_LO 24, 1700)] with
      kettle := { Kettle.fresh with ch := all3 ⟨(1723 * 1000000000 + 401120000) * 2 ^ 48, 0, 0, []⟩ } } : State).gclInstant 24 250000 =
      mkT16 1723 402250000 0 := by decide +kernel

/-- R284, the worked case of EVT_IN_5: NS 412,337,904 and FRAC 34,612. -/
theorem test_stamp_of_an_edge :
    (({ State.reset with
      kettle := { Kettle.fresh with
        ch := all3 ⟨(1723 * 1000000000 + 412337905) * 2 ^ 48 + 2 ^ 46, 800016 * 2 ^ 48 / 1000000, 0, []⟩ } } : State).stampAt 0 0
      (sinceEdge 20070) (-79667)) = mkT16 1723 412337904 34612 := by decide +kernel

/-- R396: the word of IDCODE. -/
theorem test_idcode : idcode = 0x17192B47 := by decide +kernel

/-- R95, R96: a payload of equal bits comes back from the scrambler and the stuffing as it was. -/
theorem test_line_round_trip :
    let sent := stuff ⟨false, 0⟩ (scramble 0 (List.replicate 200 true)).2
    (descramble 0 (destuff ⟨false, 0⟩ sent.2).2.1).2 = List.replicate 200 true := by decide +kernel

/-- R409, Table 15.10: in LULL a lane that is not nominated is at high impedance. -/
theorem test_lane_ball_in_lull : (st [(F.DEV_MODE.CUR, 1)]).laneRxBall 0 = .z := by decide +kernel

/-! ## Witnesses -/

theorem test_meets_StepRunsTheFrontCommand :
    (∃ s : State, s.pending = [.snapshot, .spoutPop]) ∧ ∃ s : State, s.pending = [] :=
  ⟨⟨{ State.reset with pending := [.snapshot, .spoutPop] }, rfl⟩, State.reset, rfl⟩

theorem test_meets_WellFormedCommandsComplete :
    (∃ c : Instr, c.wf = true) ∧ (∃ c : Instr, c.wf = false) ∧ ∃ s : State, s.pendingWf ∧ s.pending ≠ [] :=
  ⟨⟨.strainerGo 7, by decide +kernel⟩, ⟨.strainerGo 8, by decide +kernel⟩, { State.reset with pending := [.strainerGo 7] }, by unfold State.pendingWf; decide, by simp⟩

theorem test_meets_StepsKeepTheQueueAndTheRegisterFile :
    ∃ s t : State, s.pendingWf ∧ s.regsCanonical ∧ s.pending ≠ [] ∧ step s = .next t :=
  ⟨{ State.reset with pending := [.resetNAssert] }, _, by unfold State.pendingWf; decide, SMap.empty_canonical _, by simp, rfl⟩

theorem test_meets_ModeChangesOnlyByTable :
    ∃ s t : State, s.modeSound ∧ step s = .next t ∧ s.mode ≠ t.mode :=
  ⟨{ State.reset with pending := [.resetNAssert] }, _, by unfold State.modeSound; decide, rfl, by decide +kernel⟩

theorem test_meets_StrainerStateChangesOnlyByTable :
    ∃ (s t : State) (k : Nat), k < 8 ∧ step s = .next t ∧ t.scanState k ≠ s.scanState k :=
  ⟨{ st [(F.ST_ENG_RESULT.STATE 7, 2)] with pending := [.scanPeriodExpiry 7] }, _, 7, by decide +kernel, rfl, by decide +kernel⟩

theorem test_meets_ErrorRegisterHoldsTheFirstError :
    (∃ (s : State) (a : Acc) (code : Nat), hasErrStatus a.base = true ∧ 0 < code ∧ code < 256 ∧ s.fld (F.ERR_STATUS.CODE a.base) = 0) ∧
    ∃ (s : State) (a : Acc) (code : Nat), hasErrStatus a.base = true ∧ 0 < code ∧ code < 256 ∧ s.fld (F.ERR_STATUS.CODE a.base) ≠ 0 ∧ s.fld (F.ERR_STATUS.OVF a.base) = 255 :=
  ⟨⟨st [], Acc.direct (Base.PRT 191) (Base.PRT 191), 255, by decide +kernel⟩, ⟨st [(F.ERR_STATUS.CODE 0xB00000, 3), (F.ERR_STATUS.OVF 0xB00000, 255)], Acc.direct 0xB00000 0, 1, by decide +kernel⟩⟩

theorem test_meets_BrokenRulesAreRecordedByPrecedence :
    (∃ (s : State) (a : Acc) (checks : List (Bool × Nat)) (before after : List Nat) (c : Nat), s.hostOpen ∧
      [Err.BCAST_READ, Err.NOT_PERMITTED, Err.WRONG_MODE, Err.LOCKED, Err.BUSY, Err.RESERVED_FIELD, Err.RANGE, Err.ALIGN, Err.ZERO_LENGTH,
        Err.ILLEGAL_VALUE, Err.NO_CREDIT, Err.STALE] = before ++ c :: after ∧
      (true, c) ∈ (a.rsv, Err.RESERVED_FIELD) :: (a.badShape, Err.ALIGN) :: checks ∧
      ∀ x ∈ before, (true, x) ∉ (a.rsv, Err.RESERVED_FIELD) :: (a.badShape, Err.ALIGN) :: checks) ∧
    ∃ (s : State) (a : Acc) (checks : List (Bool × Nat)), s.hostOpen ∧ a.rsv = false ∧ a.badShape = false ∧ ∀ k ∈ checks, k.1 = false :=
  ⟨⟨State.reset, Acc.direct 0x700000 0x70101C, [(true, Err.BUSY), (true, Err.ZERO_LENGTH)], [Err.BCAST_READ, Err.NOT_PERMITTED, Err.WRONG_MODE, Err.LOCKED], [Err.RESERVED_FIELD, Err.RANGE, Err.ALIGN, Err.ZERO_LENGTH, Err.ILLEGAL_VALUE, Err.NO_CREDIT, Err.STALE], Err.BUSY, by decide +kernel⟩, State.reset, Acc.direct 0x700000 0x70101C, [(false, Err.BUSY)], by decide +kernel⟩

theorem test_meets_PowerAndResetPinsRestart :
    (∃ (s : State) (core mem : Bool), (core || mem) = true ∧ s.mode ≠ Mode.OFF ∧ s.mode ≠ Mode.LULL ∧ s.dev.lullStep ≠ 3) ∧
    (∃ (s : State) (b : BitVec 2), s.mode = Mode.OFF ∧ b ≠ 2) ∧
    (∃ (s : State) (core mem : Bool), s.mode = Mode.OFF) :=
  ⟨⟨st [(F.DEV_MODE.CUR, 5), (F.DEV_MODE.TRANS, 0)], true, false, by decide +kernel⟩,
    ⟨st [(F.DEV_MODE.CUR, 0), (F.DEV_MODE.TRANS, 0)], 3, by decide +kernel⟩,
    ⟨st [(F.DEV_MODE.CUR, 0), (F.DEV_MODE.TRANS, 0)], false, false, by decide +kernel⟩⟩

theorem test_meets_SoftAndSliceResetsTakeTheirScope :
    (∃ (s : State), s.hostOpen ∧ bitAt s.dev.conds Fatal.AON_CLK = false) ∧
    (∃ (s : State) (i : Nat) (mask : BitVec 4), i < 4 ∧ bitList 4 mask.toNat = [i] ∧ s.hostOpen ∧ s.slc i ≠ Slc.DARK ∧ s.anyReconf = false ∧ s.partFetching = false ∧ s.slcStep i = 0 ∧ s.fld F.ST_HEALTH.SHADOW_BAD = 0) ∧
    (∃ (s : State) (i : Nat), i < 4 ∧ s.slc i = Slc.RECONF ∧ s.partApplying i = false ∧ s.fld F.ST_HEALTH.SHADOW_BAD = 0) :=
  ⟨⟨st [(F.DEV_MODE.CUR, 5), (F.DEV_MODE.TRANS, 0)], by decide +kernel⟩,
    ⟨st [(F.DEV_MODE.CUR, 5), (F.DEV_MODE.TRANS, 0), (F.slcState 2, 1)], 2, 4, by decide +kernel⟩,
    ⟨st [(F.DEV_MODE.CUR, 5), (F.DEV_MODE.TRANS, 0), (F.slcState 2, 2)], 2, by decide +kernel⟩⟩

theorem test_meets_AonTimekeeperKeepsTime :
    (∃ (s : State), s.mode ≠ Mode.OFF) ∧
    (∃ (s : State) (n d ch went : Nat), s.kettleRuns = true ∧ 0 < n ∧ ((n : Int) - 10000000).natAbs ≤ 2000 ∧ d ∈ s.domains ∧ s.isDerived d = false ∧ ch < 3 ∧ (s.published d + ctrMod - s.aon.win.getD d (s.published d)) % ctrMod = went ∧ went ≠ 0) ∧
    (∃ (s : State) (k : Nat), s.dev.lullStep = 2 ∧ k ∈ s.timeKeys ∧ s.healthy (k / 8) = true ∧ s.aonRatio (k % 8) = none) ∧
    (∃ (s : State) (k : Nat) (r : Int), s.dev.lullStep = 2 ∧ k ∈ s.timeKeys ∧ s.healthy (k / 8) = true ∧ s.aonRatio (k % 8) = some r) ∧
    (∃ (s : State) (phi k : Nat), s.dev.softHold = true ∧ s.aon.clkAbsent = false ∧ (s.aon.copies.get? k).isSome = true) ∧
    (∃ (s : State) (phi : Nat), s.mode = Mode.LULL ∧ s.dev.wakeStep = 3 ∧ s.dev.softHold = false) :=
  ⟨⟨st [(F.DEV_MODE.CUR, 1), (F.DEV_MODE.TRANS, 0)], by decide +kernel⟩,
    ⟨{ st [(F.DEV_MODE.CUR, 5), (F.DEV_MODE.TRANS, 0), (F.KT_DOM_CFG.KIND 0, 1)] with aon := { Aon.fresh with win := SMap.empty.put 0 (ctrMod - 10000001 * 2 ^ 50) } }, 10000001, 0, 2, 10000001 * 2 ^ 50, by decide +kernel⟩,
    ⟨{ st [(F.DEV_MODE.CUR, 5), (F.DEV_MODE.TRANS, 0), (F.KT_DOM_CFG.KIND 0, 1)] with dev := { State.reset.dev with lullStep := 2 } }, 8, by decide +kernel⟩,
    ⟨{ st [(F.DEV_MODE.CUR, 5), (F.DEV_MODE.TRANS, 0), (F.KT_DOM_CFG.KIND 0, 1), (F.KT_DOM_CFG.KIND 1, 2)] with dev := { State.reset.dev with lullStep := 2 }, cfg := { State.reset.cfg with domRatio := SMap.empty.put 1 (-5) } }, 9, -5, by decide +kernel⟩,
    ⟨{ st [(F.DEV_MODE.CUR, 2)] with dev := { State.reset.dev with softHold := true }, aon := { Aon.fresh with copies := SMap.empty.put 8 ⟨5, aonNominal, none⟩ } }, 6553601, 8, by decide +kernel⟩,
    ⟨{ st [(F.DEV_MODE.CUR, 1)] with dev := { State.reset.dev with wakeStep := 3 } }, 0, by decide +kernel⟩⟩

theorem test_meets_LullIsEnteredAndLeft :
    (∃ (s : State), s.hostOpen ∧ (s.mode = Mode.BREEZE ∨ s.mode = Mode.GALE ∨ s.mode = Mode.CALM) ∧ s.trans = false ∧ s.wakeEnabled = true ∧ s.anyReconf = false) ∧
    (∃ (s : State), s.dev.lullStep = 1) ∧
    (∃ (s : State), s.dev.lullStep = 3) ∧
    (∃ (s : State) (lanes : BitVec 8) (evts : BitVec 4) (w v : Bool), s.mode = Mode.LULL ∧ lanes.toNat &&& s.fld F.DEV_WAKE_CFG.LANE_EN ≠ 0) ∧
    (∃ (s : State) (lanes : BitVec 8) (evts : BitVec 4) (v : Bool), s.mode ≠ Mode.LULL ∧ (s.dev.lullStep = 1 ∨ s.dev.lullStep = 2) ∧ s.dev.lullFrom < 8 ∧ s.fld F.DEV_WAKE_CFG.WAKE_IN_EN = 1) ∧
    (∃ (s : State) (lanes : BitVec 8) (evts : BitVec 4) (v : Bool), s.mode ≠ Mode.LULL ∧ s.dev.lullStep = 3 ∧ s.fld F.DEV_WAKE_CFG.WAKE_IN_EN = 1) ∧
    (∃ (s : State), s.mode = Mode.LULL ∧ s.dev.wakeStep = 1) ∧
    (∃ (s : State), s.mode = Mode.LULL ∧ s.dev.wakeStep = 1) ∧
    (∃ (s : State), s.mode = Mode.LULL ∧ s.dev.wakeStep = 2) :=
  ⟨⟨st [(F.DEV_MODE.CUR, 5), (F.DEV_MODE.TRANS, 0), (F.DEV_WAKE_CFG.WAKE_IN_EN, 1)], by decide +kernel⟩,
    ⟨{ st [(F.DEV_MODE.CUR, 5), (F.DEV_MODE.TRANS, 0)] with dev := { State.reset.dev with lullStep := 1 } }, by decide +kernel⟩,
    ⟨{ st [(F.DEV_MODE.CUR, 5), (F.DEV_MODE.TRANS, 0)] with dev := { State.reset.dev with lullStep := 3, wakeLatched := true } }, by decide +kernel⟩,
    ⟨st [(F.DEV_MODE.CUR, 1), (F.DEV_MODE.TRANS, 0), (F.DEV_WAKE_CFG.LANE_EN, 128)], 255, 3, false, true, by decide +kernel⟩,
    ⟨{ st [(F.DEV_MODE.CUR, 5), (F.DEV_MODE.TRANS, 0), (F.DEV_WAKE_CFG.WAKE_IN_EN, 1)] with dev := { State.reset.dev with lullStep := 2, lullFrom := 5 } }, 0, 0, false, by decide +kernel⟩,
    ⟨{ st [(F.DEV_MODE.CUR, 5), (F.DEV_MODE.TRANS, 0), (F.DEV_WAKE_CFG.WAKE_IN_EN, 1)] with dev := { State.reset.dev with lullStep := 3 } }, 0, 0, false, by decide +kernel⟩,
    ⟨{ st [(F.DEV_MODE.CUR, 1), (F.DEV_MODE.TRANS, 0)] with dev := { State.reset.dev with wakeStep := 1 } }, by decide +kernel⟩,
    ⟨{ st [(F.DEV_MODE.CUR, 1), (F.DEV_MODE.TRANS, 0)] with dev := { State.reset.dev with wakeStep := 1, pgCore := false } }, by decide +kernel⟩,
    ⟨{ st [(F.DEV_MODE.CUR, 1), (F.DEV_MODE.TRANS, 0)] with dev := { State.reset.dev with wakeStep := 2 } }, by decide +kernel⟩⟩

theorem test_meets_ModeRequestsAct :
    (∃ (s : State) (i : Nat), i < 4 ∧ s.hostOpen ∧ s.mode = Mode.GALE ∧ s.trans = false ∧ s.breezeBusy = false ∧ (∀ j < (4 : Nat), s.slc j = Slc.DARK → s.powered j = false) ∧ s.inMode Mode.BREEZE i = false ∧ s.slc i ≠ Slc.DARK) ∧
    (∃ (s : State), s.hostOpen ∧ s.mode = Mode.STEEP ∧ s.trans = false ∧ s.breezeBusy = false ∧ (∀ j < (4 : Nat), s.inMode Mode.BREEZE j = s.powered j)) ∧
    (∃ (s : State) (i : Nat), i < 4 ∧ s.hostOpen ∧ s.mode = Mode.BREEZE ∧ s.trans = false ∧ s.slc i = Slc.DARK) ∧
    (∃ (s : State), s.hostOpen ∧ (s.mode = Mode.STEEP ∨ s.mode = Mode.BREEZE ∨ s.mode = Mode.GALE) ∧ s.trans = false) ∧
    (∃ (s : State) (i : Nat), i < 4 ∧ s.hostOpen ∧ (s.mode = Mode.STEEP ∨ s.mode = Mode.CALM) ∧ s.trans = false) :=
  ⟨⟨st [(F.DEV_MODE.CUR, 5), (F.DEV_MODE.TRANS, 0), (F.DEV_SLC_STATE.BREEZE_SET, 3), (F.DEV_SLC_STATE.STATE, 0x55), (F.DEV_SLC_STATE.POWERED, 15)], 2, by decide +kernel⟩,
    ⟨st [(F.DEV_MODE.CUR, 3), (F.DEV_MODE.TRANS, 0), (F.DEV_SLC_STATE.BREEZE_SET, 3), (F.DEV_SLC_STATE.POWERED, 3)], by decide +kernel⟩,
    ⟨st [(F.DEV_MODE.CUR, 4), (F.DEV_MODE.TRANS, 0), (F.DEV_SLC_STATE.BREEZE_SET, 3), (F.DEV_SLC_STATE.STATE, 5), (F.DEV_SLC_STATE.POWERED, 3)], 3, by decide +kernel⟩,
    ⟨st [(F.DEV_MODE.CUR, 4), (F.DEV_MODE.TRANS, 0)], by decide +kernel⟩,
    ⟨st [(F.DEV_MODE.CUR, 6), (F.DEV_MODE.TRANS, 0)], 1, by decide +kernel⟩⟩

theorem test_meets_FatalCausesActByMode :
    (∃ (s : State), (s.mode = Mode.STEEP ∨ s.mode = Mode.BREEZE ∨ s.mode = Mode.GALE) ∧ s.dev.lullStep < 3) ∧
    (∃ (s : State), s.mode = Mode.LOAD) ∧
    (∃ (s : State), s.mode = Mode.PROBE) ∧
    (∃ (s : State) (r : Nat) (high : Bool), r < 7 ∧ s.railWatched r = true ∧ (s.mode = Mode.STEEP ∨ s.mode = Mode.BREEZE ∨ s.mode = Mode.GALE) ∧ s.dev.lullStep < 3) ∧
    (∃ (s : State), s.dev.calmDrop = true) :=
  ⟨⟨st [(F.DEV_MODE.CUR, 3), (F.DEV_MODE.TRANS, 0)], by decide +kernel⟩,
    ⟨st [(F.DEV_MODE.CUR, 2), (F.DEV_MODE.TRANS, 0)], by decide +kernel⟩,
    ⟨st [(F.DEV_MODE.CUR, 7), (F.DEV_MODE.TRANS, 0)], by decide +kernel⟩,
    ⟨st [(F.DEV_MODE.CUR, 5), (F.DEV_MODE.TRANS, 0)], 3, true, by decide +kernel⟩,
    ⟨{ st [(F.DEV_MODE.CUR, 6), (F.DEV_MODE.TRANS, 0)] with dev := { State.reset.dev with calmDrop := true } }, by decide +kernel⟩⟩

theorem test_meets_SteepEndsAndSlicesDrainAndReturn :
    (∃ (s : State), s.mode = Mode.STEEP ∧ s.dev.steepPlls = false ∧ (∀ p ∈ s.ports, s.operUp p = false)) ∧
    (∃ (s : State), s.mode = Mode.STEEP ∧ s.warm = true) ∧
    (∃ (s : State) (i n : Nat), s.mode = Mode.STEEP ∧ s.steepReady = true ∧ i < 4 ∧ n < 8 ∧ s.powered i = true ∧ s.slc i = Slc.DARK ∧ s.ringState n = Ring.IDLE) ∧
    (∃ (s : State) (i : Nat), i < 4 ∧ s.slcStep i = 2 ∧ s.sliceEmpty i = true) ∧
    (∃ (s : State) (i : Nat), i < 4 ∧ s.slcStep i = 2) ∧
    (∃ (s : State) (i : Nat) (cal : CalFlash), i < 4 ∧ s.slcStep i = 1 ∧ (s.mode = Mode.STEEP ∨ s.sliceCalibrated i = true) ∧ s.fld F.ST_HEALTH.SHADOW_BAD = 0) :=
  ⟨⟨st [(F.DEV_MODE.CUR, 3), (F.DEV_MODE.TRANS, 0)], by decide +kernel⟩,
    ⟨st [(F.DEV_MODE.CUR, 3), (F.DEV_MODE.TRANS, 0)], by decide +kernel⟩,
    ⟨{ (List.range 48).foldl (fun t n => t.setFld (F.PH_CH_STATUS.LIN (96 + n)) 1) ((List.range 33).foldl (fun t n => t.setFld (F.PH_CH_STATUS.LIN (196 + n)) 1) (st [(F.DEV_MODE.CUR, 3), (F.DEV_MODE.TRANS, 0), (F.DEV_SLC_STATE.POWERED, 4), (F.PH_CH_STATUS.LIN 194, 1), (F.DEV_MODE.STEEP_TARGET, 5), (F.CD_RING_STATUS.STATE 7, 1)])) with dev := { State.reset.dev with steepPlls := true, skewOk := 4 } }, 2, 7, by decide +kernel⟩,
    ⟨{ st [(F.DEV_MODE.CUR, 5), (F.DEV_MODE.TRANS, 0), (F.DEV_SLC_STATE.STATE, 0x55), (F.DEV_SLC_STATE.POWERED, 15)] with dev := { State.reset.dev with slcPhase := SMap.empty.put 3 2 } }, 3, by decide +kernel⟩,
    ⟨{ st [(F.DEV_MODE.CUR, 5), (F.DEV_MODE.TRANS, 0), (F.DEV_SLC_STATE.STATE, 0x55), (F.DEV_SLC_STATE.POWERED, 15)] with dev := { State.reset.dev with slcPhase := SMap.empty.put 3 2 } }, 3, by decide +kernel⟩,
    ⟨{ (List.range 48).foldl (fun t n => t.setFld (F.PH_CH_STATUS.LIN (144 + n)) 1) (st [(F.DEV_MODE.CUR, 5), (F.DEV_MODE.TRANS, 0), (F.DEV_SLC_STATE.STATE, 0x15), (F.DEV_SLC_STATE.POWERED, 15), (F.PH_CH_STATUS.LIN 195, 1)]) with dev := { State.reset.dev with slcPhase := SMap.empty.put 3 1, skewOk := 8 } }, 3, ⟨[], []⟩, by decide +kernel⟩⟩

theorem test_meets_LoaderJudgesAndPlacesImages :
    (∃ (s : State) (src : ImgSource) (img : List Byte) (cal : CalFlash), s.loadAwaits src = true ∧ (src = .host ∨ s.host.flashTail = false)) ∧
    (∃ (s : State), s.loadAwaits .flashA = true) ∧
    (∃ (s : State), s.loadAwaits .flashB = true) ∧
    (∃ (s : State), s.loadAwaits .host = true) ∧
    (∃ (s : State), Mode.STEEP ≤ s.mode ∧ s.img.held ≠ [] ∧ s.img.shadowed = false) ∧
    (∃ (s : State), (s.mode < Mode.STEEP ∨ s.img.held = [] ∨ s.img.shadowed = true)) :=
  ⟨⟨st [(F.IMG_STATUS.FALLBACK, 1)], .flashB, [0, 1], ⟨[], []⟩, by decide +kernel⟩,
    ⟨State.reset, by decide +kernel⟩,
    ⟨st [(F.IMG_STATUS.FALLBACK, 1)], by decide +kernel⟩,
    ⟨st [(F.IMG_STATUS.STATE, 1), (F.IMG_STATUS.SOURCE, 2)], by decide +kernel⟩,
    ⟨{ st [(F.DEV_MODE.CUR, 3), (F.DEV_MODE.TRANS, 0)] with img := { Img.fresh with held := [0] } }, by decide +kernel⟩,
    ⟨st [(F.DEV_MODE.CUR, 3), (F.DEV_MODE.TRANS, 0)], by decide +kernel⟩⟩

theorem test_meets_ImageCommandsActAndPartialImagesApply :
    (∃ (s : State), s.hostOpen ∧ s.mode = Mode.LOAD ∧ s.dev.lockedLoad = false ∧ s.loaderBusy = false ∧ s.dmaOk = true) ∧
    (∃ (s : State) (i : Nat), i < 4 ∧ s.hostOpen ∧ (s.mode = Mode.BREEZE ∨ s.mode = Mode.GALE ∨ s.mode = Mode.CALM) ∧ s.dev.lockedLoad = false ∧ s.slc i ≠ Slc.DARK ∧ s.trans = false ∧ s.anyReconf = false ∧ s.loaderBusy = false ∧ s.dmaOk = true) ∧
    (∃ (s : State), s.hostOpen ∧ s.dev.lockedLoad = false ∧ s.partFetching = true) ∧
    (∃ (s : State) (img : List Byte), s.partFetching = true) ∧
    (∃ (s : State) (i : Nat), i < 4 ∧ s.partApplying i = true ∧ s.img.placed = 1) ∧
    (∃ (s : State) (i : Nat), i < 4 ∧ s.partApplying i = true ∧ s.img.placed = 2) ∧
    (∃ (s : State) (i : Nat), i < 4 ∧ s.partApplying i = true ∧ s.img.placed = 3) :=
  ⟨⟨{ st [(F.IMG_STATUS.STATE, 6)] with pcie := ⟨true, true, false, false⟩ }, by decide +kernel⟩,
    ⟨{ st [(F.DEV_MODE.CUR, 6), (F.DEV_MODE.TRANS, 0), (F.IMG_STATUS.STATE, 4), (F.slcState 3, 3)] with pcie := ⟨true, true, false, false⟩ }, 3, by decide +kernel⟩,
    ⟨st [(F.DEV_MODE.CUR, 5), (F.DEV_MODE.TRANS, 0), (F.IMG_STATUS.STATE, 2), (F.IMG_STATUS.PARTIAL, 1)], by decide +kernel⟩,
    ⟨st [(F.DEV_MODE.CUR, 5), (F.DEV_MODE.TRANS, 0), (F.IMG_STATUS.STATE, 2), (F.IMG_STATUS.PARTIAL, 1)], [1], by decide +kernel⟩,
    ⟨{ st [(F.DEV_MODE.CUR, 5), (F.DEV_MODE.TRANS, 0), (F.IMG_STATUS.STATE, 3), (F.IMG_STATUS.PARTIAL, 1)] with img := { Img.fresh with placed := 1 } }, 0, by decide +kernel⟩,
    ⟨{ st [(F.DEV_MODE.CUR, 5), (F.DEV_MODE.TRANS, 0), (F.IMG_STATUS.STATE, 3), (F.IMG_STATUS.PARTIAL, 1), (F.IMG_STATUS.SLICE, 2), (F.SLC_TBL_VER.VER 2, 0xFFFFFFFF)] with img := { Img.fresh with placed := 2 } }, 2, by decide +kernel⟩,
    ⟨{ st [(F.DEV_MODE.CUR, 5), (F.DEV_MODE.TRANS, 0), (F.IMG_STATUS.STATE, 3), (F.IMG_STATUS.PARTIAL, 1), (F.IMG_STATUS.SLICE, 2)] with img := { Img.fresh with placed := 3 } }, 2, by decide +kernel⟩⟩

theorem test_meets_TrunksNegotiateByTable :
    (∃ (s : State) (l : Nat) (arg : BitVec 24), l < 192 ∧ s.trunkFirst l = true ∧ s.trState l = 1 ∧ s.heard l 1 arg.toNat = true ∧ bitAt arg.toNat 4 = (s.laneMode l == 6) ∧ arg.toNat / 2 ^ 5 % 8 = 1 ∧ arg.toNat / 2 ^ 8 % 65536 ≠ (s.trunk l).nonce ∧ s.allRxa l = true ∧ s.allLocked l = true) ∧
    (∃ (s : State) (l : Nat) (arg : BitVec 24) (rxa : Bool), l < 192 ∧ s.trunkFirst l = true ∧ s.trState l = 1 ∧ s.heard l 1 arg.toNat = true ∧ bitAt arg.toNat 4 ≠ (s.laneMode l == 6)) ∧
    (∃ (s : State) (l : Nat) (arg : BitVec 24) (rxa : Bool), l < 192 ∧ s.trunkFirst l = true ∧ s.trState l = 1 ∧ s.heard l 1 arg.toNat = true ∧ bitAt arg.toNat 4 = (s.laneMode l == 6) ∧ arg.toNat / 2 ^ 5 % 8 = 1 ∧ arg.toNat / 2 ^ 8 % 65536 = (s.trunk l).nonce) ∧
    (∃ (s : State) (l : Nat), l < 192 ∧ s.trunkFirst l = true ∧ s.trState l = 1 ∧ s.looped l = false) ∧
    (∃ (s : State) (l : Nat) (arg : BitVec 24), l < 192 ∧ s.trunkFirst l = true ∧ s.trState l = 2 ∧ s.heard l 2 arg.toNat = true ∧ s.leads l = false ∧ arg.toNat % 8 = s.trunkStep l + 1 ∧ arg.toNat % 8 ≤ (s.trunk l).target) ∧
    (∃ (s : State) (l : Nat) (arg : BitVec 24), l < 192 ∧ s.trunkFirst l = true ∧ s.trState l = 2 ∧ s.heard l 2 arg.toNat = true ∧ s.leads l = false ∧ (arg.toNat % 8 ≠ s.trunkStep l + 1 ∨ (s.trunk l).target < arg.toNat % 8)) ∧
    (∃ (s : State) (l : Nat) (arg : BitVec 24), l < 192 ∧ s.trunkFirst l = true ∧ s.trState l = 2 ∧ s.heard l 3 arg.toNat = true ∧ s.leads l = true ∧ arg.toNat % 8 = s.trunkStep l + 1) ∧
    (∃ (s : State) (l : Nat) (arg : BitVec 24), l < 192 ∧ s.trunkFirst l = true ∧ s.trState l = 2 ∧ s.heard l 4 arg.toNat = true ∧ s.leads l = true) ∧
    (∃ (s : State) (l : Nat), l < 192 ∧ s.trunkFirst l = true ∧ s.trState l = 2 ∧ s.leads l = true ∧ (s.trunk l).tries < 2 ∧ s.trunkStep l < s.trCeil l) ∧
    (∃ (s : State) (l : Nat), l < 192 ∧ s.trunkFirst l = true ∧ s.trState l = 2 ∧ s.leads l = true ∧ 2 ≤ (s.trunk l).tries) ∧
    (∃ (s : State) (l : Nat), l < 192 ∧ s.trunkFirst l = true ∧ s.trState l = 3 ∧ (s.trunk l).left = 0 ∧ s.portLanes l = [l]) ∧
    (∃ (s : State) (l : Nat) (arg : BitVec 24), l < 192 ∧ s.trunkFirst l = true ∧ (s.trState l = 4 ∨ s.trState l = 5) ∧ s.heard l 5 arg.toNat = true ∧ s.allRxa l = true ∧ s.allLocked l = true ∧ arg.toNat % 8 = (s.trunk l).train) ∧
    (∃ (s : State) (l : Nat), l < 192 ∧ s.trunkFirst l = true ∧ s.trState l = 2 ∧ (s.rx l).msg.1 = 0 ∧ (s.rx l).msg.2.2 ≠ 0 ∧ s.leads l = false ∧ s.looped l = false) ∧
    (∃ (s : State) (l : Nat), l < 192 ∧ s.trunkFirst l = true ∧ s.trState l = 4 ∧ (s.trunk l).train < 8) ∧
    (∃ (s : State) (l : Nat), l < 192 ∧ s.trunkFirst l = true ∧ s.trState l = 5) :=
  ⟨⟨{ st [(F.DEV_MODE.CUR, 5), (F.DEV_MODE.TRANS, 0), (F.LN_CFG.MODE 188, 5), (F.LN_CFG.PORT 188, 188), (F.DEV_SLC_STATE.POWERED, 15), (F.slcState 3, 1), (F.LN_TRUNK_STATUS.STATE 188, 1), (F.LN_STATUS.LOCK 188, 1), (F.LN_CFG.TRUNK_MAX 188, 4)] with lines := { Lines.fresh with trunk := SMap.empty.put 188 { Trunk.fresh with nonce := 7 }, rx := SMap.empty.put 188 { TrRx.fresh with msg := (1, 0x00062B, 3), rxa := true } } }, 188, 0x00062B, by decide +kernel⟩,
    ⟨{ st [(F.DEV_MODE.CUR, 5), (F.DEV_MODE.TRANS, 0), (F.LN_CFG.MODE 188, 5), (F.LN_CFG.PORT 188, 188), (F.DEV_SLC_STATE.POWERED, 15), (F.slcState 3, 1), (F.LN_TRUNK_STATUS.STATE 188, 1)] with lines := { Lines.fresh with rx := SMap.empty.put 188 { TrRx.fresh with msg := (1, 0x30, 3) } } }, 188, 0x30, true, by decide +kernel⟩,
    ⟨{ st [(F.DEV_MODE.CUR, 5), (F.DEV_MODE.TRANS, 0), (F.LN_CFG.MODE 188, 5), (F.LN_CFG.PORT 188, 188), (F.DEV_SLC_STATE.POWERED, 15), (F.slcState 3, 1), (F.LN_TRUNK_STATUS.STATE 188, 1)] with lines := { Lines.fresh with trunk := SMap.empty.put 188 { Trunk.fresh with nonce := 7 }, rx := SMap.empty.put 188 { TrRx.fresh with msg := (1, 0x00072B, 3) } } }, 188, 0x00072B, false, by decide +kernel⟩,
    ⟨st [(F.DEV_MODE.CUR, 5), (F.DEV_MODE.TRANS, 0), (F.LN_CFG.MODE 188, 5), (F.LN_CFG.PORT 188, 188), (F.DEV_SLC_STATE.POWERED, 15), (F.slcState 3, 1), (F.LN_TRUNK_STATUS.STATE 188, 1), (F.PRT_STATE.OPER 188, 2)], 188, by decide +kernel⟩,
    ⟨{ st [(F.DEV_MODE.CUR, 5), (F.DEV_MODE.TRANS, 0), (F.LN_CFG.MODE 188, 5), (F.LN_CFG.PORT 188, 188), (F.DEV_SLC_STATE.POWERED, 15), (F.slcState 3, 1), (F.LN_TRUNK_STATUS.STATE 188, 2)] with lines := { Lines.fresh with trunk := SMap.empty.put 188 { Trunk.fresh with target := 4 }, rx := SMap.empty.put 188 { TrRx.fresh with msg := (2, 0xABCD01, 3) } } }, 188, 0xABCD01, by decide +kernel⟩,
    ⟨{ st [(F.DEV_MODE.CUR, 5), (F.DEV_MODE.TRANS, 0), (F.LN_CFG.MODE 188, 5), (F.LN_CFG.PORT 188, 188), (F.DEV_SLC_STATE.POWERED, 15), (F.slcState 3, 1), (F.LN_TRUNK_STATUS.STATE 188, 2)] with lines := { Lines.fresh with trunk := SMap.empty.put 188 { Trunk.fresh with target := 4 }, rx := SMap.empty.put 188 { TrRx.fresh with msg := (2, 0xABCD02, 3) } } }, 188, 0xABCD02, by decide +kernel⟩,
    ⟨{ st [(F.DEV_MODE.CUR, 5), (F.DEV_MODE.TRANS, 0), (F.LN_CFG.MODE 188, 5), (F.LN_CFG.PORT 188, 188), (F.DEV_SLC_STATE.POWERED, 15), (F.slcState 3, 1), (F.LN_TRUNK_STATUS.STATE 188, 2), (F.LN_TRUNK_STATUS.LEADER 188, 1)] with lines := { Lines.fresh with rx := SMap.empty.put 188 { TrRx.fresh with msg := (3, 0xABCD01, 3) } } }, 188, 0xABCD01, by decide +kernel⟩,
    ⟨{ st [(F.DEV_MODE.CUR, 5), (F.DEV_MODE.TRANS, 0), (F.LN_CFG.MODE 188, 5), (F.LN_CFG.PORT 188, 188), (F.DEV_SLC_STATE.POWERED, 15), (F.slcState 3, 1), (F.LN_TRUNK_STATUS.STATE 188, 2), (F.LN_TRUNK_STATUS.LEADER 188, 1)] with lines := { Lines.fresh with rx := SMap.empty.put 188 { TrRx.fresh with msg := (4, 0x000103, 3) } } }, 188, 0x000103, by decide +kernel⟩,
    ⟨{ st [(F.DEV_MODE.CUR, 5), (F.DEV_MODE.TRANS, 0), (F.LN_CFG.MODE 188, 5), (F.LN_CFG.PORT 188, 188), (F.DEV_SLC_STATE.POWERED, 15), (F.slcState 3, 1), (F.LN_TRUNK_STATUS.STATE 188, 2), (F.LN_TRUNK_STATUS.LEADER 188, 1), (F.LN_TRUNK_STATUS.CEIL 188, 4)] with lines := { Lines.fresh with trunk := SMap.empty.put 188 { Trunk.fresh with tries := 1, nonce := 9 } } }, 188, by decide +kernel⟩,
    ⟨{ st [(F.DEV_MODE.CUR, 5), (F.DEV_MODE.TRANS, 0), (F.LN_CFG.MODE 188, 5), (F.LN_CFG.PORT 188, 188), (F.DEV_SLC_STATE.POWERED, 15), (F.slcState 3, 1), (F.LN_TRUNK_STATUS.STATE 188, 2), (F.LN_TRUNK_STATUS.LEADER 188, 1), (F.LN_TRUNK_STATUS.CEIL 188, 4)] with lines := { Lines.fresh with trunk := SMap.empty.put 188 { Trunk.fresh with tries := 2 } } }, 188, by decide +kernel⟩,
    ⟨{ st [(F.DEV_MODE.CUR, 5), (F.DEV_MODE.TRANS, 0), (F.LN_CFG.MODE 188, 5), (F.LN_CFG.PORT 188, 188), (F.DEV_SLC_STATE.POWERED, 15), (F.slcState 3, 1), (F.LN_TRUNK_STATUS.STATE 188, 3), (F.LN_STATUS.LOCK 188, 1)] with lines := { Lines.fresh with trunk := SMap.empty.put 188 { Trunk.fresh with train := 2 } } }, 188, by decide +kernel⟩,
    ⟨{ st [(F.DEV_MODE.CUR, 5), (F.DEV_MODE.TRANS, 0), (F.LN_CFG.MODE 188, 5), (F.LN_CFG.PORT 188, 188), (F.DEV_SLC_STATE.POWERED, 15), (F.slcState 3, 1), (F.LN_TRUNK_STATUS.STATE 188, 5), (F.LN_STATUS.LOCK 188, 1)] with lines := { Lines.fresh with trunk := SMap.empty.put 188 { Trunk.fresh with train := 3 }, rx := SMap.empty.put 188 { TrRx.fresh with msg := (5, 0xFFFF03, 3), rxa := true } } }, 188, 0xFFFF03, by decide +kernel⟩,
    ⟨{ st [(F.DEV_MODE.CUR, 5), (F.DEV_MODE.TRANS, 0), (F.LN_CFG.MODE 188, 5), (F.LN_CFG.PORT 188, 188), (F.DEV_SLC_STATE.POWERED, 15), (F.slcState 3, 1), (F.LN_TRUNK_STATUS.STATE 188, 2)] with lines := { Lines.fresh with rx := SMap.empty.put 188 { TrRx.fresh with msg := (0, 9, 1) } } }, 188, by decide +kernel⟩,
    ⟨{ st [(F.DEV_MODE.CUR, 5), (F.DEV_MODE.TRANS, 0), (F.LN_CFG.MODE 188, 5), (F.LN_CFG.PORT 188, 188), (F.DEV_SLC_STATE.POWERED, 15), (F.slcState 3, 1), (F.LN_TRUNK_STATUS.STATE 188, 4)] with lines := { Lines.fresh with trunk := SMap.empty.put 188 { Trunk.fresh with train := 3 } } }, 188, by decide +kernel⟩,
    ⟨{ st [(F.DEV_MODE.CUR, 5), (F.DEV_MODE.TRANS, 0), (F.LN_CFG.MODE 188, 5), (F.LN_CFG.PORT 188, 188), (F.DEV_SLC_STATE.POWERED, 15), (F.slcState 3, 1), (F.LN_TRUNK_STATUS.STATE 188, 5), (F.LN_TRUNK_STATUS.STEP 188, 3)] with lines := { Lines.fresh with trunk := SMap.empty.put 188 { Trunk.fresh with train := 3 } } }, 188, by decide +kernel⟩⟩

theorem test_meets_MarkersPointersAndUnitsAreReceived :
    (∃ (s : State) (l w : Nat) (pre m : List Bool) (ts : LineStamp), l < 192 ∧ s.takesMarkers l = true ∧ ofBits ((s.lineIn l pre).1.lineIn l m).2 = w ∧ s.fld (F.LN_STATUS.LOCK l) = 0 ∧ mkGood w = true ∧ 3 ≤ (s.rx l).good) ∧
    (∃ (s : State) (l w : Nat) (pre m : List Bool) (ts : LineStamp), l < 192 ∧ s.takesMarkers l = true ∧ ofBits ((s.lineIn l pre).1.lineIn l m).2 = w ∧ s.fld (F.LN_STATUS.LOCK l) = 0 ∧ mkGood w = false) ∧
    (∃ (s : State) (l w : Nat) (pre m : List Bool) (ts : LineStamp), l < 192 ∧ s.takesMarkers l = true ∧ ofBits ((s.lineIn l pre).1.lineIn l m).2 = w ∧ s.fld (F.LN_STATUS.LOCK l) = 1 ∧ mkGood w = true ∧ mkType w ≠ 0 ∧ (∀ q < (256 : Nat), (s.rx l).seq = some q → mkSeq w = (q + 1) % 256) ∧ (∀ q, (s.rx l).seq = some q → q < 256)) ∧
    (∃ (s : State) (l w : Nat) (pre m : List Bool) (ts : LineStamp), l < 192 ∧ s.takesMarkers l = true ∧ ofBits ((s.lineIn l pre).1.lineIn l m).2 = w ∧ s.fld (F.LN_STATUS.LOCK l) = 1 ∧ mkGood w = false ∧ 3 ≤ (s.rx l).bad ∧ s.trState (s.lanePort l) ≠ 4 ∧ s.trState (s.lanePort l) ≠ 6) ∧
    (∃ (s : State) (l v : Nat) (u : State) (pre ptr : List Bool), l < 192 ∧ s.delivers l = true ∧ u = (s.lineIn l pre).1.payIn l (s.lineIn l pre).2 ∧ ofBits (descramble (u.rx l).scr (u.lineIn l ptr).2).2 = v ∧ ptrOk v = true ∧ (s.rx l).pos = none) ∧
    (∃ (s : State) (l v : Nat) (u : State) (pre ptr : List Bool), l < 192 ∧ s.delivers l = true ∧ u = (s.lineIn l pre).1.payIn l (s.lineIn l pre).2 ∧ ofBits (descramble (u.rx l).scr (u.lineIn l ptr).2).2 = v ∧ ptrOk v = false) ∧
    (∃ (s : State) (l slots h : Nat) (u : State) (hdr body : List Bool) (ts : LineStamp) (x : Int), l < 192 ∧ s.delivers l = true ∧ (s.rx l).pos = some x ∧ u = (s.lineIn l (hdr ++ body)).1.payIn l (s.lineIn l (hdr ++ body)).2 ∧ 32 ≤ (u.rx l).buf.length ∧ ofBits ((u.rx l).buf.take 32) = h ∧ unitOk h = false) ∧
    (∃ (s : State) (l slots h : Nat) (u : State) (hdr body : List Bool) (ts : LineStamp) (x : Int), l < 192 ∧ s.delivers l = true ∧ (s.rx l).pos = some x ∧ u = (s.lineIn l (hdr ++ body)).1.payIn l (s.lineIn l (hdr ++ body)).2 ∧ 32 ≤ (u.rx l).buf.length ∧ ofBits ((u.rx l).buf.take 32) = h ∧ unitOk h = true ∧ unitKind h = 0 ∧ 32 + 8 * unitLen h ≤ (u.rx l).buf.length) ∧
    (∃ (s : State) (l slots h : Nat) (u : State) (hdr body : List Bool) (ts : LineStamp) (x : Int), l < 192 ∧ s.delivers l = true ∧ (s.rx l).pos = some x ∧ u = (s.lineIn l (hdr ++ body)).1.payIn l (s.lineIn l (hdr ++ body)).2 ∧ 32 ≤ (u.rx l).buf.length ∧ ofBits ((u.rx l).buf.take 32) = h ∧ unitOk h = true ∧ unitKind h = 1 ∧ 32 + 8 * unitLen h ≤ (u.rx l).buf.length ∧ s.laneMode l ≠ 6) ∧
    (∃ (s : State) (l slots h : Nat) (u : State) (hdr body : List Bool) (ts : LineStamp) (x : Int), l < 192 ∧ s.delivers l = true ∧ (s.rx l).pos = some x ∧ u = (s.lineIn l (hdr ++ body)).1.payIn l (s.lineIn l (hdr ++ body)).2 ∧ 32 ≤ (u.rx l).buf.length ∧ ofBits ((u.rx l).buf.take 32) = h ∧ unitOk h = true ∧ unitKind h = 1 ∧ 32 + 8 * unitLen h ≤ (u.rx l).buf.length ∧ s.laneMode l = 6) ∧
    (∃ (s : State) (p slots q : Nat) (bs : List Byte) (a : Time16), p < 192 ∧ s.portUsed p = true ∧ s.laneMode p = 6 ∧ (s.trState p = 6 ∨ s.trState p = 7) ∧ (s.trunk p).waiting = [(q, bs, a)] ∧ q < 256 ∧ (s.trunk p).useqRx < 256) :=
  ⟨⟨{ st [(F.DEV_MODE.CUR, 5), (F.DEV_MODE.TRANS, 0), (F.LN_CFG.MODE 188, 5), (F.LN_CFG.PORT 188, 188), (F.DEV_SLC_STATE.POWERED, 15), (F.slcState 3, 1), (F.LN_TRUNK_STATUS.STATE 188, 4)] with lines := { Lines.fresh with rx := SMap.empty.put 188 { TrRx.fresh with good := 3 } } }, 188, markerWord 5 1 true false 5, [], (stuff LineRun.fresh (bitsLsb 64 (markerWord 5 1 true false 5))).2, ⟨0⟩, by decide +kernel⟩,
    ⟨{ st [(F.DEV_MODE.CUR, 5), (F.DEV_MODE.TRANS, 0), (F.LN_CFG.MODE 188, 5), (F.LN_CFG.PORT 188, 188), (F.DEV_SLC_STATE.POWERED, 15), (F.slcState 3, 1), (F.LN_TRUNK_STATUS.STATE 188, 4)] with lines := { Lines.fresh with rx := SMap.empty.put 188 { TrRx.fresh with good := 3 } } }, 188, 0x0000000100000001, [], (stuff LineRun.fresh (bitsLsb 64 (0x0000000100000001))).2, ⟨0⟩, by decide +kernel⟩,
    ⟨{ st [(F.DEV_MODE.CUR, 5), (F.DEV_MODE.TRANS, 0), (F.LN_CFG.MODE 188, 5), (F.LN_CFG.PORT 188, 188), (F.DEV_SLC_STATE.POWERED, 15), (F.slcState 3, 1), (F.LN_TRUNK_STATUS.STATE 188, 4), (F.LN_STATUS.LOCK 188, 1)] with lines := { Lines.fresh with rx := SMap.empty.put 188 { TrRx.fresh with bad := 3, seq := some 4 } } }, 188, markerWord 5 1 true false 5, [], (stuff LineRun.fresh (bitsLsb 64 (markerWord 5 1 true false 5))).2, ⟨0⟩, by decide +kernel⟩,
    ⟨{ st [(F.DEV_MODE.CUR, 5), (F.DEV_MODE.TRANS, 0), (F.LN_CFG.MODE 188, 5), (F.LN_CFG.PORT 188, 188), (F.DEV_SLC_STATE.POWERED, 15), (F.slcState 3, 1), (F.LN_TRUNK_STATUS.STATE 188, 2), (F.LN_STATUS.LOCK 188, 1)] with lines := { Lines.fresh with rx := SMap.empty.put 188 { TrRx.fresh with bad := 3, seq := some 4 } } }, 188, 0x0000000100000001, [], (stuff LineRun.fresh (bitsLsb 64 (0x0000000100000001))).2, ⟨0⟩, by decide +kernel⟩,
    ⟨st [(F.DEV_MODE.CUR, 5), (F.DEV_MODE.TRANS, 0), (F.LN_CFG.MODE 188, 5), (F.LN_CFG.PORT 188, 188), (F.DEV_SLC_STATE.POWERED, 15), (F.slcState 3, 1), (F.LN_TRUNK_STATUS.STATE 188, 6), (F.LN_STATUS.LOCK 188, 1)], 188, pointerWord 2, ((st [(F.DEV_MODE.CUR, 5), (F.DEV_MODE.TRANS, 0), (F.LN_CFG.MODE 188, 5), (F.LN_CFG.PORT 188, 188), (F.DEV_SLC_STATE.POWERED, 15), (F.slcState 3, 1), (F.LN_TRUNK_STATUS.STATE 188, 6), (F.LN_STATUS.LOCK 188, 1)]).lineIn 188 []).1.payIn 188 ((st [(F.DEV_MODE.CUR, 5), (F.DEV_MODE.TRANS, 0), (F.LN_CFG.MODE 188, 5), (F.LN_CFG.PORT 188, 188), (F.DEV_SLC_STATE.POWERED, 15), (F.slcState 3, 1), (F.LN_TRUNK_STATUS.STATE 188, 6), (F.LN_STATUS.LOCK 188, 1)]).lineIn 188 []).2, [], (stuff LineRun.fresh (scramble 0 (bitsLsb 16 (pointerWord 2))).2).2, by decide +kernel⟩,
    ⟨{ st [(F.DEV_MODE.CUR, 5), (F.DEV_MODE.TRANS, 0), (F.LN_CFG.MODE 188, 5), (F.LN_CFG.PORT 188, 188), (F.DEV_SLC_STATE.POWERED, 15), (F.slcState 3, 1), (F.LN_TRUNK_STATUS.STATE 188, 6), (F.LN_STATUS.LOCK 188, 1)] with lines := { Lines.fresh with rx := SMap.empty.put 188 { TrRx.fresh with pos := some 3 } } }, 188, 5, (({ st [(F.DEV_MODE.CUR, 5), (F.DEV_MODE.TRANS, 0), (F.LN_CFG.MODE 188, 5), (F.LN_CFG.PORT 188, 188), (F.DEV_SLC_STATE.POWERED, 15), (F.slcState 3, 1), (F.LN_TRUNK_STATUS.STATE 188, 6), (F.LN_STATUS.LOCK 188, 1)] with lines := { Lines.fresh with rx := SMap.empty.put 188 { TrRx.fresh with pos := some 3 } } }).lineIn 188 []).1.payIn 188 (({ st [(F.DEV_MODE.CUR, 5), (F.DEV_MODE.TRANS, 0), (F.LN_CFG.MODE 188, 5), (F.LN_CFG.PORT 188, 188), (F.DEV_SLC_STATE.POWERED, 15), (F.slcState 3, 1), (F.LN_TRUNK_STATUS.STATE 188, 6), (F.LN_STATUS.LOCK 188, 1)] with lines := { Lines.fresh with rx := SMap.empty.put 188 { TrRx.fresh with pos := some 3 } } }).lineIn 188 []).2, [], (stuff LineRun.fresh (scramble 0 (bitsLsb 16 (5))).2).2, by decide +kernel⟩,
    ⟨{ st [(F.DEV_MODE.CUR, 5), (F.DEV_MODE.TRANS, 0), (F.LN_CFG.MODE 188, 5), (F.LN_CFG.PORT 188, 188), (F.DEV_SLC_STATE.POWERED, 15), (F.slcState 3, 1), (F.LN_TRUNK_STATUS.STATE 188, 6), (F.LN_STATUS.LOCK 188, 1)] with lines := { Lines.fresh with rx := SMap.empty.put 188 { TrRx.fresh with pos := some 3 } } }, 188, 0, 0x00012345, (({ st [(F.DEV_MODE.CUR, 5), (F.DEV_MODE.TRANS, 0), (F.LN_CFG.MODE 188, 5), (F.LN_CFG.PORT 188, 188), (F.DEV_SLC_STATE.POWERED, 15), (F.slcState 3, 1), (F.LN_TRUNK_STATUS.STATE 188, 6), (F.LN_STATUS.LOCK 188, 1)] with lines := { Lines.fresh with rx := SMap.empty.put 188 { TrRx.fresh with pos := some 3 } } }).lineIn 188 ((stuff LineRun.fresh (scramble 0 (bitsLsb 32 (0x00012345) ++ [])).2).2 ++ [])).1.payIn 188 (({ st [(F.DEV_MODE.CUR, 5), (F.DEV_MODE.TRANS, 0), (F.LN_CFG.MODE 188, 5), (F.LN_CFG.PORT 188, 188), (F.DEV_SLC_STATE.POWERED, 15), (F.slcState 3, 1), (F.LN_TRUNK_STATUS.STATE 188, 6), (F.LN_STATUS.LOCK 188, 1)] with lines := { Lines.fresh with rx := SMap.empty.put 188 { TrRx.fresh with pos := some 3 } } }).lineIn 188 ((stuff LineRun.fresh (scramble 0 (bitsLsb 32 (0x00012345) ++ [])).2).2 ++ [])).2, (stuff LineRun.fresh (scramble 0 (bitsLsb 32 (0x00012345) ++ [])).2).2, [], ⟨0⟩, 3, by decide +kernel⟩,
    ⟨{ st [(F.DEV_MODE.CUR, 5), (F.DEV_MODE.TRANS, 0), (F.LN_CFG.MODE 188, 5), (F.LN_CFG.PORT 188, 188), (F.DEV_SLC_STATE.POWERED, 15), (F.slcState 3, 1), (F.LN_TRUNK_STATUS.STATE 188, 6), (F.LN_STATUS.LOCK 188, 1)] with lines := { Lines.fresh with rx := SMap.empty.put 188 { TrRx.fresh with pos := some 3 } } }, 188, 0, unitWord 2 0 0, (({ st [(F.DEV_MODE.CUR, 5), (F.DEV_MODE.TRANS, 0), (F.LN_CFG.MODE 188, 5), (F.LN_CFG.PORT 188, 188), (F.DEV_SLC_STATE.POWERED, 15), (F.slcState 3, 1), (F.LN_TRUNK_STATUS.STATE 188, 6), (F.LN_STATUS.LOCK 188, 1)] with lines := { Lines.fresh with rx := SMap.empty.put 188 { TrRx.fresh with pos := some 3 } } }).lineIn 188 ((stuff LineRun.fresh (scramble 0 (bitsLsb 32 (unitWord 2 0 0) ++ bitsLsb 16 0x1234)).2).2 ++ [])).1.payIn 188 (({ st [(F.DEV_MODE.CUR, 5), (F.DEV_MODE.TRANS, 0), (F.LN_CFG.MODE 188, 5), (F.LN_CFG.PORT 188, 188), (F.DEV_SLC_STATE.POWERED, 15), (F.slcState 3, 1), (F.LN_TRUNK_STATUS.STATE 188, 6), (F.LN_STATUS.LOCK 188, 1)] with lines := { Lines.fresh with rx := SMap.empty.put 188 { TrRx.fresh with pos := some 3 } } }).lineIn 188 ((stuff LineRun.fresh (scramble 0 (bitsLsb 32 (unitWord 2 0 0) ++ bitsLsb 16 0x1234)).2).2 ++ [])).2, (stuff LineRun.fresh (scramble 0 (bitsLsb 32 (unitWord 2 0 0) ++ bitsLsb 16 0x1234)).2).2, [], ⟨0⟩, 3, by decide +kernel⟩,
    ⟨{ st [(F.DEV_MODE.CUR, 5), (F.DEV_MODE.TRANS, 0), (F.LN_CFG.MODE 188, 5), (F.LN_CFG.PORT 188, 188), (F.DEV_SLC_STATE.POWERED, 15), (F.slcState 3, 1), (F.LN_TRUNK_STATUS.STATE 188, 6), (F.LN_STATUS.LOCK 188, 1)] with lines := { Lines.fresh with rx := SMap.empty.put 188 { TrRx.fresh with pos := some 3 } } }, 188, 0, unitWord 64 1 0, (({ st [(F.DEV_MODE.CUR, 5), (F.DEV_MODE.TRANS, 0), (F.LN_CFG.MODE 188, 5), (F.LN_CFG.PORT 188, 188), (F.DEV_SLC_STATE.POWERED, 15), (F.slcState 3, 1), (F.LN_TRUNK_STATUS.STATE 188, 6), (F.LN_STATUS.LOCK 188, 1)] with lines := { Lines.fresh with rx := SMap.empty.put 188 { TrRx.fresh with pos := some 3 } } }).lineIn 188 ((stuff LineRun.fresh (scramble 0 (bitsLsb 32 (unitWord 64 1 0) ++ bitsLsb 512 0x123456789ABCDEF13579)).2).2 ++ [])).1.payIn 188 (({ st [(F.DEV_MODE.CUR, 5), (F.DEV_MODE.TRANS, 0), (F.LN_CFG.MODE 188, 5), (F.LN_CFG.PORT 188, 188), (F.DEV_SLC_STATE.POWERED, 15), (F.slcState 3, 1), (F.LN_TRUNK_STATUS.STATE 188, 6), (F.LN_STATUS.LOCK 188, 1)] with lines := { Lines.fresh with rx := SMap.empty.put 188 { TrRx.fresh with pos := some 3 } } }).lineIn 188 ((stuff LineRun.fresh (scramble 0 (bitsLsb 32 (unitWord 64 1 0) ++ bitsLsb 512 0x123456789ABCDEF13579)).2).2 ++ [])).2, (stuff LineRun.fresh (scramble 0 (bitsLsb 32 (unitWord 64 1 0) ++ bitsLsb 512 0x123456789ABCDEF13579)).2).2, [], ⟨0⟩, 3, by decide +kernel⟩,
    ⟨{ st [(F.DEV_MODE.CUR, 5), (F.DEV_MODE.TRANS, 0), (F.LN_CFG.MODE 188, 6), (F.LN_CFG.PORT 188, 188), (F.DEV_SLC_STATE.POWERED, 15), (F.slcState 3, 1), (F.LN_TRUNK_STATUS.STATE 188, 6), (F.LN_STATUS.LOCK 188, 1)] with lines := { Lines.fresh with rx := SMap.empty.put 188 { TrRx.fresh with pos := some 3 } } }, 188, 0, unitWord 64 1 7, (({ st [(F.DEV_MODE.CUR, 5), (F.DEV_MODE.TRANS, 0), (F.LN_CFG.MODE 188, 6), (F.LN_CFG.PORT 188, 188), (F.DEV_SLC_STATE.POWERED, 15), (F.slcState 3, 1), (F.LN_TRUNK_STATUS.STATE 188, 6), (F.LN_STATUS.LOCK 188, 1)] with lines := { Lines.fresh with rx := SMap.empty.put 188 { TrRx.fresh with pos := some 3 } } }).lineIn 188 ((stuff LineRun.fresh (scramble 0 (bitsLsb 32 (unitWord 64 1 7) ++ bitsLsb 512 0x123456789ABCDEF13579)).2).2 ++ [])).1.payIn 188 (({ st [(F.DEV_MODE.CUR, 5), (F.DEV_MODE.TRANS, 0), (F.LN_CFG.MODE 188, 6), (F.LN_CFG.PORT 188, 188), (F.DEV_SLC_STATE.POWERED, 15), (F.slcState 3, 1), (F.LN_TRUNK_STATUS.STATE 188, 6), (F.LN_STATUS.LOCK 188, 1)] with lines := { Lines.fresh with rx := SMap.empty.put 188 { TrRx.fresh with pos := some 3 } } }).lineIn 188 ((stuff LineRun.fresh (scramble 0 (bitsLsb 32 (unitWord 64 1 7) ++ bitsLsb 512 0x123456789ABCDEF13579)).2).2 ++ [])).2, (stuff LineRun.fresh (scramble 0 (bitsLsb 32 (unitWord 64 1 7) ++ bitsLsb 512 0x123456789ABCDEF13579)).2).2, [], ⟨0⟩, 3, by decide +kernel⟩,
    ⟨{ st [(F.DEV_MODE.CUR, 5), (F.DEV_MODE.TRANS, 0), (F.LN_CFG.MODE 188, 6), (F.LN_CFG.PORT 188, 188), (F.DEV_SLC_STATE.POWERED, 15), (F.slcState 3, 1), (F.LN_TRUNK_STATUS.STATE 188, 6)] with lines := { Lines.fresh with trunk := SMap.empty.put 188 { Trunk.fresh with useqRx := 254, waiting := [(1, [], 5)] } } }, 188, 0, 1, [], 5, by decide +kernel⟩⟩

theorem test_meets_LaneSignalsAndElectricalIdleAct :
    (∃ (s : State) (l : Nat), l < 192 ∧ s.trunkFirst l = true ∧ s.hostOpen ∧ s.laneMode l ≠ 0 ∧ s.powered (sliceOf l) = true ∧ (s.trState l = 6 ∨ s.trState l = 7) ∧ 3 ≤ s.trunkStep l) ∧
    (∃ (s : State) (l : Nat), l < 192 ∧ s.trunkFirst l = true ∧ s.hostOpen ∧ s.laneMode l ≠ 0 ∧ s.powered (sliceOf l) = true) ∧
    (∃ (s : State) (l : Nat), l < 192 ∧ s.trunkFirst l = true ∧ s.trState l = 6 ∧ s.fld (F.LN_TRUNK_STATUS.IDLE_HELD l) = 1 ∧ s.idleOk l = true ∧ s.quiet l = true ∧ (s.trunk l).retry ≤ s.cycle) ∧
    (∃ (s : State) (l : Nat), l < 192 ∧ s.trunkFirst l = true ∧ s.trState l = 6 ∧ s.heard l 6 0 = true) ∧
    (∃ (s : State) (l : Nat), l < 192 ∧ s.trunkFirst l = true ∧ s.trState l = 6 ∧ s.heard l 7 0 = true ∧ (s.trunk l).idleTx = true) ∧
    (∃ (s : State) (l : Nat), l < 192 ∧ s.trunkFirst l = true ∧ s.trState l = 6 ∧ (s.trunk l).idleTx = true ∧ (s.trunk l).idleRx = true ∧ (s.trunk l).left = 0 ∧ s.quiet l = true ∧ s.portLanes l = [l] ∧ s.looped l = false) ∧
    (∃ (s : State) (l : Nat), l < 192 ∧ s.isTrunk l = true ∧ s.isTrunk (s.lanePort l) = true ∧ s.oper (s.lanePort l) = 4 ∧ (s.trunk (s.lanePort l)).exiting = false) ∧
    (∃ (s : State) (l : Nat), l < 192 ∧ s.trunkFirst l = true ∧ s.trState l = 7 ∧ (s.trunk l).exiting = true ∧ s.looped l = false) ∧
    (∃ (s : State) (l : Nat), l < 192 ∧ s.laneMode l ≠ 0 ∧ s.powered (sliceOf l) = true ∧ s.fld (F.LN_STATUS.LOS l) = 0 ∧ s.fld (F.LN_STATUS.LOL l) = 0 ∧ s.oper (s.lanePort l) ≠ 4) ∧
    (∃ (s : State) (l : Nat), l < 192 ∧ s.laneMode l ≠ 0 ∧ s.powered (sliceOf l) = true ∧ s.oper (s.lanePort l) ≠ 1) ∧
    (∃ (s : State) (l : Nat), l < 192 ∧ s.laneMode l ≠ 0 ∧ s.powered (sliceOf l) = true ∧ s.oper (s.lanePort l) = 1 ∧ s.looped (s.lanePort l) = false) ∧
    (∃ (s : State) (l : Nat), l < 192 ∧ s.laneMode l ≠ 0 ∧ s.powered (sliceOf l) = true ∧ s.fld (F.LN_STATUS.LOL l) = 0 ∧ s.oper (s.lanePort l) ≠ 4) ∧
    (∃ (s : State) (l : Nat), l < 192 ∧ s.laneMode l ≠ 0 ∧ s.powered (sliceOf l) = true ∧ s.fld (F.LN_STATUS.LOS l) = 0 ∧ s.oper (s.lanePort l) ≠ 0) ∧
    (∃ (s : State) (l : Nat), l < 192 ∧ s.portUsed (s.lanePort l) = true ∧ s.oper (s.lanePort l) = 3 ∧ (s.fld (F.LN_STATUS.LOS l) = 1 ∨ s.fld (F.LN_STATUS.LOL l) = 1) ∧ s.looped (s.lanePort l) = false) ∧
    (∃ (s : State) (l : Nat), l < 192 ∧ s.laneMode l ≠ 0 ∧ s.isTrunk l = false ∧ s.lanePort l = l ∧ s.portLanes l = [l] ∧ s.trains l = true ∧ s.fld (F.LN_STATUS.LOS l) = 0 ∧ s.looped l = false) ∧
    (∃ (s : State) (l : Nat), l < 192 ∧ s.laneMode l ≠ 0 ∧ s.trains (s.lanePort l) = true ∧ s.fld (F.LN_STATUS.FIRST_DONE l) = 0 ∧ s.looped (s.lanePort l) = false) ∧
    (∃ (s : State) (l width height : Nat), l < 192 ∧ s.laneMode l ≠ 0 ∧ s.oper (s.lanePort l) ≠ 4 ∧ s.oper (s.lanePort l) ≠ 0) :=
  ⟨⟨st [(F.DEV_MODE.CUR, 5), (F.DEV_MODE.TRANS, 0), (F.LN_CFG.MODE 188, 5), (F.LN_CFG.PORT 188, 188), (F.DEV_SLC_STATE.POWERED, 15), (F.slcState 3, 1), (F.LN_TRUNK_STATUS.STATE 188, 6), (F.LN_TRUNK_STATUS.STEP 188, 3)], 188, by decide +kernel⟩,
    ⟨st [(F.DEV_MODE.CUR, 5), (F.DEV_MODE.TRANS, 0), (F.LN_CFG.MODE 188, 5), (F.LN_CFG.PORT 188, 188), (F.DEV_SLC_STATE.POWERED, 15), (F.slcState 3, 1), (F.LN_TRUNK_STATUS.STATE 188, 7), (F.LN_TRUNK_STATUS.IDLE_HELD 188, 1), (F.PRT_STATE.OPER 188, 4)], 188, by decide +kernel⟩,
    ⟨st [(F.DEV_MODE.CUR, 5), (F.DEV_MODE.TRANS, 0), (F.LN_CFG.MODE 188, 5), (F.LN_CFG.PORT 188, 188), (F.DEV_SLC_STATE.POWERED, 15), (F.slcState 3, 1), (F.LN_TRUNK_STATUS.STATE 188, 6), (F.LN_TRUNK_STATUS.IDLE_HELD 188, 1), (F.LN_TRUNK_STATUS.STEP 188, 3), (F.LN_TRUNK_STATUS.PEER_IDLE 188, 1)], 188, by decide +kernel⟩,
    ⟨{ st [(F.DEV_MODE.CUR, 5), (F.DEV_MODE.TRANS, 0), (F.LN_CFG.MODE 188, 5), (F.LN_CFG.PORT 188, 188), (F.DEV_SLC_STATE.POWERED, 15), (F.slcState 3, 1), (F.LN_TRUNK_STATUS.STATE 188, 6)] with lines := { Lines.fresh with rx := SMap.empty.put 188 { TrRx.fresh with msg := (6, 0, 3) } } }, 188, by decide +kernel⟩,
    ⟨{ st [(F.DEV_MODE.CUR, 5), (F.DEV_MODE.TRANS, 0), (F.LN_CFG.MODE 188, 5), (F.LN_CFG.PORT 188, 188), (F.DEV_SLC_STATE.POWERED, 15), (F.slcState 3, 1), (F.LN_TRUNK_STATUS.STATE 188, 6)] with lines := { Lines.fresh with trunk := SMap.empty.put 188 { Trunk.fresh with idleTx := true }, rx := SMap.empty.put 188 { TrRx.fresh with msg := (7, 0, 3) } } }, 188, by decide +kernel⟩,
    ⟨{ st [(F.DEV_MODE.CUR, 5), (F.DEV_MODE.TRANS, 0), (F.LN_CFG.MODE 188, 5), (F.LN_CFG.PORT 188, 188), (F.DEV_SLC_STATE.POWERED, 15), (F.slcState 3, 1), (F.LN_TRUNK_STATUS.STATE 188, 6), (F.PRT_STATE.OPER 188, 3)] with lines := { Lines.fresh with trunk := SMap.empty.put 188 { Trunk.fresh with idleTx := true, idleRx := true } } }, 188, by decide +kernel⟩,
    ⟨st [(F.DEV_MODE.CUR, 5), (F.DEV_MODE.TRANS, 0), (F.LN_CFG.MODE 188, 5), (F.LN_CFG.PORT 188, 188), (F.DEV_SLC_STATE.POWERED, 15), (F.slcState 3, 1), (F.LN_TRUNK_STATUS.STATE 188, 7), (F.PRT_STATE.OPER 188, 4)], 188, by decide +kernel⟩,
    ⟨{ st [(F.DEV_MODE.CUR, 5), (F.DEV_MODE.TRANS, 0), (F.LN_CFG.MODE 188, 5), (F.LN_CFG.PORT 188, 188), (F.DEV_SLC_STATE.POWERED, 15), (F.slcState 3, 1), (F.LN_TRUNK_STATUS.STATE 188, 7), (F.PRT_STATE.OPER 188, 4), (F.LN_TRUNK_STATUS.STEP 188, 4)] with lines := { Lines.fresh with trunk := SMap.empty.put 188 { Trunk.fresh with exiting := true } } }, 188, by decide +kernel⟩,
    ⟨st [(F.DEV_MODE.CUR, 5), (F.DEV_MODE.TRANS, 0), (F.LN_CFG.MODE 188, 2), (F.LN_CFG.PORT 188, 188), (F.DEV_SLC_STATE.POWERED, 15), (F.slcState 3, 1), (F.PRT_STATE.OPER 188, 3), (F.LN_STATUS.LOL 188, 0), (F.LN_STATUS.LOS 188, 0)], 188, by decide +kernel⟩,
    ⟨st [(F.DEV_MODE.CUR, 5), (F.DEV_MODE.TRANS, 0), (F.LN_CFG.MODE 188, 2), (F.LN_CFG.PORT 188, 188), (F.DEV_SLC_STATE.POWERED, 15), (F.slcState 3, 1), (F.PRT_STATE.OPER 188, 2)], 188, by decide +kernel⟩,
    ⟨st [(F.DEV_MODE.CUR, 5), (F.DEV_MODE.TRANS, 0), (F.LN_CFG.MODE 188, 2), (F.LN_CFG.PORT 188, 188), (F.DEV_SLC_STATE.POWERED, 15), (F.slcState 3, 1), (F.PRT_STATE.OPER 188, 1)], 188, by decide +kernel⟩,
    ⟨st [(F.DEV_MODE.CUR, 5), (F.DEV_MODE.TRANS, 0), (F.LN_CFG.MODE 188, 2), (F.LN_CFG.PORT 188, 188), (F.DEV_SLC_STATE.POWERED, 15), (F.slcState 3, 1), (F.PRT_STATE.OPER 188, 3), (F.LN_STATUS.LOL 188, 0)], 188, by decide +kernel⟩,
    ⟨st [(F.DEV_MODE.CUR, 5), (F.DEV_MODE.TRANS, 0), (F.LN_CFG.MODE 188, 2), (F.LN_CFG.PORT 188, 188), (F.DEV_SLC_STATE.POWERED, 15), (F.slcState 3, 1), (F.PRT_STATE.OPER 188, 2), (F.LN_STATUS.LOS 188, 0), (F.LN_STATUS.LOL 188, 1)], 188, by decide +kernel⟩,
    ⟨st [(F.DEV_MODE.CUR, 5), (F.DEV_MODE.TRANS, 0), (F.LN_CFG.MODE 188, 5), (F.LN_CFG.PORT 188, 188), (F.DEV_SLC_STATE.POWERED, 15), (F.slcState 3, 1), (F.PRT_STATE.OPER 188, 3), (F.LN_STATUS.LOS 188, 1)], 188, by decide +kernel⟩,
    ⟨st [(F.DEV_MODE.CUR, 5), (F.DEV_MODE.TRANS, 0), (F.LN_CFG.MODE 188, 2), (F.LN_CFG.PORT 188, 188), (F.DEV_SLC_STATE.POWERED, 15), (F.slcState 3, 1), (F.PRT_STATE.OPER 188, 2), (F.PRT_STATE.ADMIN 188, 1), (F.LN_STATUS.LOS 188, 0)], 188, by decide +kernel⟩,
    ⟨st [(F.DEV_MODE.CUR, 5), (F.DEV_MODE.TRANS, 0), (F.LN_CFG.MODE 188, 2), (F.LN_CFG.PORT 188, 188), (F.DEV_SLC_STATE.POWERED, 15), (F.slcState 3, 1), (F.PRT_STATE.OPER 188, 2), (F.PRT_STATE.ADMIN 188, 1)], 188, by decide +kernel⟩,
    ⟨st [(F.DEV_MODE.CUR, 5), (F.DEV_MODE.TRANS, 0), (F.LN_CFG.MODE 188, 2), (F.LN_CFG.PORT 188, 188), (F.DEV_SLC_STATE.POWERED, 15), (F.slcState 3, 1), (F.PRT_STATE.OPER 188, 3)], 188, 32, 29, by decide +kernel⟩⟩

theorem test_meets_HostControlsLanesAndPorts :
    (∃ (s : State) (l : Nat), l < 192 ∧ s.hostOpen ∧ s.laneMode l ≠ 0 ∧ s.powered (sliceOf l) = true ∧ s.fld (F.LN_CTRL.LOOP l) = 0 ∧ s.fld (F.LN_CTRL.PRBS l) = 0 ∧ s.trains (s.lanePort l) = true ∧ s.isTrunk (s.lanePort l) = false ∧ s.portLanes (s.lanePort l) = [l] ∧ s.oper (s.lanePort l) ≠ 5) ∧
    (∃ (s : State) (l : Nat) (loop prbs : BitVec 2), l < 192 ∧ s.hostOpen ∧ s.laneMode l ≠ 0 ∧ s.powered (sliceOf l) = true ∧ s.mode = Mode.PROBE ∧ loop ≠ 0 ∧ loop ≠ 3 ∧ prbs.toNat < 2 ∧ s.portLanes (s.lanePort l) = [l] ∧ s.oper (s.lanePort l) ≠ 0) ∧
    (∃ (s : State) (p : Nat), p < 192 ∧ s.hostOpen ∧ s.portUsed p = true ∧ s.powered (sliceOf p) = true ∧ s.fld (F.PRT_STATE.ADMIN p) = 1 ∧ s.trains p = true ∧ s.portLanes p = [p] ∧ s.looped p = false) ∧
    (∃ (s : State) (p : Nat), p < 192 ∧ s.hostOpen ∧ s.portUsed p = true ∧ s.fld (F.PRT_STATE.ADMIN p) ≠ 0) ∧
    (∃ (s : State) (p : Nat), p < 192 ∧ s.hostOpen ∧ s.portUsed p = true ∧ s.fld (F.PRT_STATE.ADMIN p) = 0 ∧ s.powered (sliceOf p) = true ∧ s.slc (sliceOf p) ≠ Slc.DARK ∧ s.dev.slcPhase.getD (sliceOf p) 0 ≠ 1 ∧ Mode.STEEP < s.mode ∧ s.looped p = false) :=
  ⟨⟨st [(F.DEV_MODE.CUR, 5), (F.DEV_MODE.TRANS, 0), (F.LN_CFG.MODE 188, 2), (F.LN_CFG.PORT 188, 188), (F.DEV_SLC_STATE.POWERED, 15), (F.slcState 3, 1), (F.PRT_STATE.OPER 188, 3), (F.PRT_STATE.ADMIN 188, 1), (F.LN_STATUS.LOCK 188, 1), (F.LN_STATUS.FIRST_DONE 188, 1)], 188, by decide +kernel⟩,
    ⟨st [(F.DEV_MODE.CUR, 7), (F.DEV_MODE.TRANS, 0), (F.LN_CFG.MODE 188, 2), (F.LN_CFG.PORT 188, 188), (F.DEV_SLC_STATE.POWERED, 15), (F.slcState 3, 1), (F.PRT_STATE.OPER 188, 3)], 188, 2, 1, by decide +kernel⟩,
    ⟨st [(F.DEV_MODE.CUR, 5), (F.DEV_MODE.TRANS, 0), (F.LN_CFG.MODE 188, 2), (F.LN_CFG.PORT 188, 188), (F.DEV_SLC_STATE.POWERED, 15), (F.slcState 3, 1), (F.PRT_STATE.OPER 188, 3), (F.PRT_STATE.ADMIN 188, 1), (F.LN_STATUS.FIRST_DONE 188, 1)], 188, by decide +kernel⟩,
    ⟨st [(F.DEV_MODE.CUR, 5), (F.DEV_MODE.TRANS, 0), (F.LN_CFG.MODE 188, 5), (F.LN_CFG.PORT 188, 188), (F.DEV_SLC_STATE.POWERED, 15), (F.slcState 3, 1), (F.LN_TRUNK_STATUS.STATE 188, 6), (F.PRT_STATE.OPER 188, 3), (F.PRT_STATE.ADMIN 188, 1)], 188, by decide +kernel⟩,
    ⟨st [(F.DEV_MODE.CUR, 5), (F.DEV_MODE.TRANS, 0), (F.LN_CFG.MODE 188, 5), (F.LN_CFG.PORT 188, 188), (F.DEV_SLC_STATE.POWERED, 15), (F.slcState 3, 1), (F.LN_TRUNK_STATUS.STATE 188, 0), (F.PRT_STATE.OPER 188, 0), (F.PRT_STATE.ADMIN 188, 0)], 188, by decide +kernel⟩⟩

theorem test_meets_StashLearningAgeingAndFences :
    (∃ (s : State) (i n : Nat) (r : LearnReq) (rest : List LearnReq), i < 4 ∧ (s.slice i).learn = r :: rest ∧ s.learns i = true ∧ 3 ≤ s.fdbLg i ∧ (s.slice i).fdbFind (s.fdbLg i) r.key = none ∧ (s.slice i).freeOf (fdbWays (s.fdbLg i) 0 r.key ++ fdbWays (s.fdbLg i) 1 r.key) = some n) ∧
    (∃ (s : State) (i n : Nat) (e : FdbEntry) (r : LearnReq) (rest : List LearnReq), i < 4 ∧ (s.slice i).learn = r :: rest ∧ s.learns i = true ∧ 3 ≤ s.fdbLg i ∧ (s.slice i).fdbFind (s.fdbLg i) r.key = some n ∧ (s.slice i).fdb.get? n = some e ∧ e.isStatic = false ∧ (e.group = true ∨ e.dest ≠ r.port)) ∧
    (∃ (s : State) (i n : Nat) (e : FdbEntry) (r : LearnReq) (rest : List LearnReq), i < 4 ∧ (s.slice i).learn = r :: rest ∧ s.learns i = true ∧ (s.slice i).fdbFind (s.fdbLg i) r.key = some n ∧ (s.slice i).fdb.get? n = some e ∧ e.isStatic = true) ∧
    (∃ (s : State) (i n : Nat) (e : FdbEntry) (r : LearnReq) (rest : List LearnReq), i < 4 ∧ (s.slice i).learn = r :: rest ∧ (s.slice i).fdbFind (s.fdbLg i) r.key = some n ∧ (s.slice i).fdb.get? n = some e ∧ e.isStatic = false ∧ e.group = false ∧ e.dest = r.port) ∧
    (∃ (s : State) (i : Nat) (r : LearnReq) (rest : List LearnReq), i < 4 ∧ (s.slice i).learn = r :: rest ∧ s.learns i = false) ∧
    (∃ (s : State) (i n v : Nat) (e : FdbEntry), i < 4 ∧ 3 ≤ s.fdbLg i ∧ n ∈ fdbStash (s.fdbLg i) ∧ (s.slice i).fdb.get? n = some e ∧ (∀ m ∈ fdbStash (s.fdbLg i), m ≠ n → (s.slice i).fdb.get? m = none) ∧ (s.slice i).freeOf (fdbWays (s.fdbLg i) 0 e.key ++ fdbWays (s.fdbLg i) 1 e.key) = some v) ∧
    (∃ (s : State) (i n : Nat) (e : FdbEntry), i < 4 ∧ s.learns i = true ∧ (s.slice i).fdb.get? n = some e ∧ e.isStatic = false ∧ bitAt ((s.slice i).marks.getD n 0) 0 = true) ∧
    (∃ (s : State) (i n : Nat) (e : FdbEntry), i < 4 ∧ s.learns i = true ∧ (s.slice i).fdb.get? n = some e ∧ e.isStatic = false ∧ bitAt ((s.slice i).marks.getD n 0) 0 = false ∧ bitAt ((s.slice i).marks.getD n 0) 1 = false) ∧
    (∃ (s : State) (i n : Nat) (e : FdbEntry), i < 4 ∧ s.learns i = true ∧ (s.slice i).fdb.get? n = some e ∧ e.isStatic = false ∧ bitAt ((s.slice i).marks.getD n 0) 0 = false ∧ bitAt ((s.slice i).marks.getD n 0) 1 = true) ∧
    (∃ (s : State) (i n : Nat) (e : FdbEntry), i < 4 ∧ (s.slice i).fdb.get? n = some e ∧ e.isStatic = true) ∧
    (∃ (s : State) (i : Nat), i < 4) ∧
    (∃ (s : State) (i : Nat) (ev : Bool), i < 4 ∧ s.hostOpen ∧ s.slc i ≠ Slc.DARK) ∧
    (∃ (s : State) (i : Nat), i < 4 ∧ s.fld (F.SLC_FENCE.DONE i) = 0 ∧ s.fenceClear i (s.fld (F.SLC_FENCE_VER.F i)) = true) ∧
    (∃ (s : State) (i : Nat), i < 4 ∧ s.fenceClear i (s.fld (F.SLC_FENCE_VER.F i)) = false) :=
  ⟨⟨{ st [(F.DEV_MODE.CUR, 5), (F.DEV_MODE.TRANS, 0), (F.slcState 3, 1), (F.SLC_CARVE.FDB_LOG2 3, 10), (F.SLC_TBL_VER.VER 3, 0xFFFFFFFF)] with slices := SMap.empty.put 3 { Slice.fresh with learn := [⟨fdbKey 5 77, 191⟩] } }, 3, (fdbWays 10 0 (fdbKey 5 77)).headD 0, ⟨fdbKey 5 77, 191⟩, [], by decide +kernel⟩,
    ⟨{ st [(F.DEV_MODE.CUR, 5), (F.DEV_MODE.TRANS, 0), (F.slcState 3, 1), (F.SLC_CARVE.FDB_LOG2 3, 10)] with slices := SMap.empty.put 3 { Slice.fresh with learn := [⟨fdbKey 5 77, 191⟩], fdb := SMap.empty.put ((fdbWays 10 0 (fdbKey 5 77)).headD 0) ⟨fdbKey 5 77, false, false, 3⟩ } }, 3, (fdbWays 10 0 (fdbKey 5 77)).headD 0, ⟨fdbKey 5 77, false, false, 3⟩, ⟨fdbKey 5 77, 191⟩, [], by decide +kernel⟩,
    ⟨{ st [(F.DEV_MODE.CUR, 5), (F.DEV_MODE.TRANS, 0), (F.slcState 3, 1), (F.SLC_CARVE.FDB_LOG2 3, 10)] with slices := SMap.empty.put 3 { Slice.fresh with learn := [⟨fdbKey 5 77, 191⟩], fdb := SMap.empty.put ((fdbWays 10 0 (fdbKey 5 77)).headD 0) ⟨fdbKey 5 77, true, false, 3⟩ } }, 3, (fdbWays 10 0 (fdbKey 5 77)).headD 0, ⟨fdbKey 5 77, true, false, 3⟩, ⟨fdbKey 5 77, 191⟩, [], by decide +kernel⟩,
    ⟨{ st [(F.DEV_MODE.CUR, 5), (F.DEV_MODE.TRANS, 0), (F.slcState 3, 1), (F.SLC_CARVE.FDB_LOG2 3, 10)] with slices := SMap.empty.put 3 { Slice.fresh with learn := [⟨fdbKey 5 77, 191⟩], fdb := SMap.empty.put ((fdbWays 10 0 (fdbKey 5 77)).headD 0) ⟨fdbKey 5 77, false, false, 191⟩ } }, 3, (fdbWays 10 0 (fdbKey 5 77)).headD 0, ⟨fdbKey 5 77, false, false, 191⟩, ⟨fdbKey 5 77, 191⟩, [], by decide +kernel⟩,
    ⟨{ st [(F.DEV_MODE.CUR, 5), (F.DEV_MODE.TRANS, 0), (F.slcState 3, 0), (F.SLC_CARVE.FDB_LOG2 3, 10)] with slices := SMap.empty.put 3 { Slice.fresh with learn := [⟨fdbKey 5 77, 191⟩] } }, 3, ⟨fdbKey 5 77, 191⟩, [], by decide +kernel⟩,
    ⟨{ st [(F.DEV_MODE.CUR, 5), (F.DEV_MODE.TRANS, 0), (F.slcState 3, 1), (F.SLC_CARVE.FDB_LOG2 3, 10)] with slices := SMap.empty.put 3 { Slice.fresh with fdb := SMap.empty.put 1031 ⟨fdbKey 5 77, false, false, 191⟩ } }, 3, 1031, (fdbWays 10 0 (fdbKey 5 77)).headD 0, ⟨fdbKey 5 77, false, false, 191⟩, by decide +kernel⟩,
    ⟨{ st [(F.DEV_MODE.CUR, 5), (F.DEV_MODE.TRANS, 0), (F.slcState 3, 1), (F.SLC_CARVE.FDB_LOG2 3, 10)] with slices := SMap.empty.put 3 { Slice.fresh with fdb := SMap.empty.put 1023 ⟨5, false, false, 191⟩, marks := SMap.empty.put 1023 3 } }, 3, 1023, ⟨5, false, false, 191⟩, by decide +kernel⟩,
    ⟨{ st [(F.DEV_MODE.CUR, 5), (F.DEV_MODE.TRANS, 0), (F.slcState 3, 1), (F.SLC_CARVE.FDB_LOG2 3, 10)] with slices := SMap.empty.put 3 { Slice.fresh with fdb := SMap.empty.put 1023 ⟨5, false, false, 191⟩ } }, 3, 1023, ⟨5, false, false, 191⟩, by decide +kernel⟩,
    ⟨{ st [(F.DEV_MODE.CUR, 5), (F.DEV_MODE.TRANS, 0), (F.slcState 3, 1), (F.SLC_CARVE.FDB_LOG2 3, 10)] with slices := SMap.empty.put 3 { Slice.fresh with fdb := SMap.empty.put 1023 ⟨5, false, false, 191⟩, marks := SMap.empty.put 1023 2 } }, 3, 1023, ⟨5, false, false, 191⟩, by decide +kernel⟩,
    ⟨{ st [(F.DEV_MODE.CUR, 5), (F.DEV_MODE.TRANS, 0), (F.slcState 3, 1), (F.SLC_CARVE.FDB_LOG2 3, 10)] with slices := SMap.empty.put 3 { Slice.fresh with fdb := SMap.empty.put 1023 ⟨5, true, false, 191⟩ } }, 3, 1023, ⟨5, true, false, 191⟩, by decide +kernel⟩,
    ⟨{ st [(F.DEV_MODE.CUR, 5), (F.DEV_MODE.TRANS, 0), (F.slcState 3, 1), (F.SLC_CARVE.FDB_LOG2 3, 10), (F.SLC_MOVE.THRESH 3, 5)] with slices := SMap.empty.put 3 { Slice.fresh with moves := 70000 } }, 3, by decide +kernel⟩,
    ⟨st [(F.DEV_MODE.CUR, 5), (F.DEV_MODE.TRANS, 0), (F.slcState 3, 1), (F.SLC_CARVE.FDB_LOG2 3, 10), (F.SLC_TBL_VER.VER 3, 0xFFFFFFFF)], 3, true, by decide +kernel⟩,
    ⟨st [(F.DEV_MODE.CUR, 5), (F.DEV_MODE.TRANS, 0), (F.slcState 3, 1), (F.SLC_CARVE.FDB_LOG2 3, 10), (F.SLC_FENCE.FENCE_EV 3, 1), (F.SLC_FENCE.DONE 3, 0)], 3, by decide +kernel⟩,
    ⟨{ st [(F.DEV_MODE.CUR, 5), (F.DEV_MODE.TRANS, 0), (F.slcState 3, 1), (F.SLC_CARVE.FDB_LOG2 3, 10), (F.SLC_FENCE_VER.F 3, 6)] with fab := { Fabric.fresh with voq := SMap.empty.put 5 ⟨[⟨1, 0, 0, [], 5, 3, 0, false, 0, 0, false, none, 5, 0, 0, none, 0, 0, []⟩], [], 0⟩ } }, 3, by decide +kernel⟩⟩

theorem test_meets_TableWindowsRunTheirCommands :
    (∃ (s : State) (w n : Nat), w < 4 ∧ s.hostOpen ∧ s.fld (F.TW_STATUS.BUSY w) = 0 ∧ s.powered w = true ∧ s.slc w ≠ Slc.RECONF ∧ s.slc w ≠ Slc.FAULT ∧ s.isMutable 0 = true ∧ 3 ≤ s.fdbLg w ∧ (s.fld (F.TW_FDB.GROUP w) = 1 ∨ s.portUsed (s.fld (F.TW_FDB.DEST w)) = true) ∧ ((s.slice w).fdbFind (s.fdbLg w) (s.twKey w) = some n ∨ ((s.slice w).fdbFind (s.fdbLg w) (s.twKey w) = none ∧ (s.slice w).freeOf (fdbWays (s.fdbLg w) 0 (s.twKey w) ++ fdbWays (s.fdbLg w) 1 (s.twKey w)) = some n))) ∧
    (∃ (s : State) (w : Nat), w < 4 ∧ s.hostOpen ∧ s.fld (F.TW_STATUS.BUSY w) = 0 ∧ s.powered w = true ∧ s.slc w ≠ Slc.RECONF ∧ s.slc w ≠ Slc.FAULT ∧ s.isMutable 1 = true ∧ s.fld (F.TW_INDEX.INDEX w) < s.streamEntries w ∧ strIllegal (s.streamEntries w) (s.fld (F.TW_INDEX.INDEX w)) (s.twData w 4) = false) ∧
    (∃ (s : State) (w : Nat), w < 4 ∧ s.hostOpen ∧ s.fld (F.TW_STATUS.BUSY w) = 0 ∧ s.powered w = true ∧ s.slc w ≠ Slc.RECONF ∧ s.slc w ≠ Slc.FAULT ∧ s.isMutable 1 = true ∧ s.fld (F.TW_INDEX.INDEX w) < clsLimit (s.clsEntries w) (clsType (s.twData w 16)) ∧ s.fld (F.TW_INDEX.INDEX w) < s.clsEntries w ∧ clsZero (s.twData w 16) = false ∧ s.clsIllegal w (s.twData w 16) = false ∧ clsType (s.twData w 16) ≠ 4) ∧
    (∃ (s : State) (w n : Nat), w < 4 ∧ s.hostOpen ∧ s.fld (F.TW_STATUS.BUSY w) = 0 ∧ s.powered w = true ∧ s.slc w ≠ Slc.RECONF ∧ s.slc w ≠ Slc.FAULT ∧ s.isMutable 0 = true ∧ (s.slice w).fdbFind (s.fdbLg w) (s.twKey w) = some n) ∧
    (∃ (s : State) (w : Nat) (k : BitVec 2), w < 4 ∧ s.hostOpen ∧ s.fld (F.TW_STATUS.BUSY w) = 0 ∧ s.powered w = true ∧ s.slc w ≠ Slc.RECONF ∧ s.slc w ≠ Slc.FAULT ∧ s.isMutable 1 = true ∧ (k = 1 → s.fld (F.TW_INDEX.INDEX w) < s.streamEntries w) ∧ (k = 2 → s.fld (F.TW_INDEX.INDEX w) < s.clsEntries w) ∧ (k = 1 ∨ k = 2)) ∧
    (∃ (s : State) (w : Nat), w < 4 ∧ s.hostOpen ∧ s.fld (F.TW_STATUS.BUSY w) = 0 ∧ s.powered w = true ∧ s.slc w ≠ Slc.RECONF) ∧
    (∃ (s : State) (w : Nat) (k : BitVec 2), w < 4 ∧ s.hostOpen ∧ s.fld (F.TW_STATUS.BUSY w) = 0 ∧ s.powered w = true ∧ s.slc w ≠ Slc.RECONF ∧ (k = 1 ∨ k = 2) ∧ (k = 1 → s.fld (F.TW_INDEX.INDEX w) < s.streamEntries w) ∧ (k = 2 → s.fld (F.TW_INDEX.INDEX w) < s.clsEntries w)) ∧
    (∃ (s : State) (w : Nat) (k : BitVec 2), w < 4 ∧ s.hostOpen ∧ s.fld (F.TW_STATUS.BUSY w) = 0 ∧ s.powered w = true ∧ s.slc w ≠ Slc.RECONF ∧ (k = 0 ∨ k = 3) ∧ (k = 0 → s.fld (F.TW_INDEX.INDEX w) < 2 ^ s.fdbLg w) ∧ (k = 3 → s.fld (F.TW_INDEX.INDEX w) < 8)) ∧
    (∃ (s : State) (w : Nat), w < 4 ∧ s.hostOpen ∧ s.fld (F.TW_STATUS.BUSY w) = 0 ∧ s.powered w = true ∧ s.slc w ≠ Slc.RECONF ∧ s.slc w ≠ Slc.FAULT ∧ s.isMutable 0 = true) ∧
    (∃ (s : State) (w : Nat) (p : TwPend), w < 4 ∧ (s.slice w).tw = some p ∧ (p.active = true → s.slc w = Slc.ACTIVE) ∧ p.result < 4) ∧
    (∃ (s : State) (w : Nat) (p : TwPend), w < 4 ∧ (s.slice w).tw = some p ∧ p.active = true ∧ s.slc w ≠ Slc.ACTIVE) :=
  ⟨⟨st [(F.DEV_MODE.CUR, 5), (F.DEV_MODE.TRANS, 0), (F.slcState 3, 1), (F.SLC_CARVE.FDB_LOG2 3, 10), (F.IMG_MUT_MASK.MASK, 3), (F.DEV_SLC_STATE.POWERED, 15), (F.TW_KEY_LO.MAC_LO 3, 77), (F.TW_KEY_HI.VLAN 3, 5), (F.TW_FDB.DEST 3, 191), (F.LN_CFG.PORT 191, 191), (F.LN_CFG.MODE 191, 1)], 3, (fdbWays 10 0 (fdbKey 5 77)).headD 0, by decide +kernel⟩,
    ⟨st [(F.DEV_MODE.CUR, 5), (F.DEV_MODE.TRANS, 0), (F.slcState 3, 1), (F.SLC_CARVE.FDB_LOG2 3, 10), (F.IMG_MUT_MASK.MASK, 3), (F.DEV_SLC_STATE.POWERED, 15), (F.SLC_CARVE.STREAM_K 3, 1), (F.TW_INDEX.INDEX 3, 1023), (F.TW_DATA.DATA 3 1, 0xC0000000)], 3, by decide +kernel⟩,
    ⟨st [(F.DEV_MODE.CUR, 5), (F.DEV_MODE.TRANS, 0), (F.slcState 3, 1), (F.SLC_CARVE.FDB_LOG2 3, 10), (F.IMG_MUT_MASK.MASK, 3), (F.DEV_SLC_STATE.POWERED, 15), (F.SLC_CARVE.CLS_256 3, 4), (F.TW_INDEX.INDEX 3, 1022), (F.TW_DATA.DATA 3 0, 5), (F.TW_DATA.DATA 3 3, 10240), (F.TW_DATA.DATA 3 5, 10240)], 3, by decide +kernel⟩,
    ⟨{ st [(F.DEV_MODE.CUR, 5), (F.DEV_MODE.TRANS, 0), (F.slcState 3, 1), (F.SLC_CARVE.FDB_LOG2 3, 10), (F.IMG_MUT_MASK.MASK, 3), (F.DEV_SLC_STATE.POWERED, 15), (F.TW_KEY_LO.MAC_LO 3, 77), (F.TW_KEY_HI.VLAN 3, 5)] with slices := SMap.empty.put 3 { Slice.fresh with fdb := SMap.empty.put ((fdbWays 10 0 (fdbKey 5 77)).headD 0) ⟨fdbKey 5 77, true, false, 3⟩ } }, 3, (fdbWays 10 0 (fdbKey 5 77)).headD 0, by decide +kernel⟩,
    ⟨{ st [(F.DEV_MODE.CUR, 5), (F.DEV_MODE.TRANS, 0), (F.slcState 3, 1), (F.SLC_CARVE.FDB_LOG2 3, 10), (F.IMG_MUT_MASK.MASK, 3), (F.DEV_SLC_STATE.POWERED, 15), (F.SLC_CARVE.CLS_256 3, 1), (F.TW_INDEX.INDEX 3, 255)] with slices := SMap.empty.put 3 { Slice.fresh with cls := SMap.empty.put 255 1 } }, 3, 2, by decide +kernel⟩,
    ⟨{ st [(F.DEV_MODE.CUR, 5), (F.DEV_MODE.TRANS, 0), (F.slcState 3, 1), (F.SLC_CARVE.FDB_LOG2 3, 10), (F.IMG_MUT_MASK.MASK, 3), (F.DEV_SLC_STATE.POWERED, 15), (F.TW_KEY_LO.MAC_LO 3, 77), (F.TW_KEY_HI.VLAN 3, 5)] with slices := SMap.empty.put 3 { Slice.fresh with fdb := SMap.empty.put ((fdbWays 10 0 (fdbKey 5 77)).headD 0) ⟨fdbKey 5 77, true, false, 3⟩ } }, 3, by decide +kernel⟩,
    ⟨{ st [(F.DEV_MODE.CUR, 5), (F.DEV_MODE.TRANS, 0), (F.slcState 3, 1), (F.SLC_CARVE.FDB_LOG2 3, 10), (F.IMG_MUT_MASK.MASK, 3), (F.DEV_SLC_STATE.POWERED, 15), (F.SLC_CARVE.CLS_256 3, 1), (F.TW_INDEX.INDEX 3, 255)] with slices := SMap.empty.put 3 { Slice.fresh with cls := SMap.empty.put 255 1 } }, 3, 2, by decide +kernel⟩,
    ⟨{ st [(F.DEV_MODE.CUR, 5), (F.DEV_MODE.TRANS, 0), (F.slcState 3, 1), (F.SLC_CARVE.FDB_LOG2 3, 10), (F.IMG_MUT_MASK.MASK, 3), (F.DEV_SLC_STATE.POWERED, 15), (F.TW_INDEX.INDEX 3, 7)] with slices := SMap.empty.put 3 { Slice.fresh with fdb := SMap.empty.put 1031 ⟨fdbKey 5 77, false, false, 191⟩ } }, 3, 3, by decide +kernel⟩,
    ⟨{ st [(F.DEV_MODE.CUR, 5), (F.DEV_MODE.TRANS, 0), (F.slcState 3, 1), (F.SLC_CARVE.FDB_LOG2 3, 10), (F.IMG_MUT_MASK.MASK, 3), (F.DEV_SLC_STATE.POWERED, 15), (F.TW_FLUSH.PORT 3, 191), (F.TW_FLUSH.PORT_EN 3, 1)] with slices := SMap.empty.put 3 { Slice.fresh with fdb := (SMap.empty.put 8 ⟨5, false, false, 191⟩).put 1023 ⟨6, true, false, 191⟩ } }, 3, by decide +kernel⟩,
    ⟨{ st [(F.DEV_MODE.CUR, 5), (F.DEV_MODE.TRANS, 0), (F.slcState 3, 1), (F.SLC_CARVE.FDB_LOG2 3, 10), (F.TW_STATUS.SEQ 3, 0xFFFF), (F.TW_STATUS.BUSY 3, 1)] with slices := SMap.empty.put 3 { Slice.fresh with tw := some ⟨true, 0, none, some 5, some 3, some (16, 2 ^ 511)⟩ } }, 3, ⟨true, 0, none, some 5, some 3, some (16, 2 ^ 511)⟩, by decide +kernel⟩,
    ⟨{ st [(F.DEV_MODE.CUR, 5), (F.DEV_MODE.TRANS, 0), (F.slcState 3, 0), (F.SLC_CARVE.FDB_LOG2 3, 10)] with slices := SMap.empty.put 3 { Slice.fresh with tw := some ⟨true, 0, none, some 5, some 3, some (16, 2 ^ 511)⟩ } }, 3, ⟨true, 0, none, some 5, some 3, some (16, 2 ^ 511)⟩, by decide +kernel⟩⟩

theorem test_meets_EpochsMatchAndCross :
    (∃ (s : State), Mode.STEEP ≤ s.mode ∧ 0 < s.fab.hold) ∧
    (∃ (s : State) (i n c : Nat) (f : Frame) (x : Nat × Nat × Nat), Mode.STEEP ≤ s.mode ∧ i < 4 ∧ n < 192 ∧ c < 8 ∧ s.fab.hold = 0 ∧ s.fab.cross = [] ∧ s.fab.voq = SMap.empty.put (voqKey i n c) ⟨[f], [], 0⟩ ∧ f.slice = i ∧ f.cls = c ∧ s.fab.mc = SMap.empty ∧ s.fab.mcq = SMap.empty ∧ s.fab.res = SMap.empty ∧ bitAt s.dev.recov 4 = false ∧ s.operUp (s.lanePort n) = true ∧ s.doomed f = false ∧ s.landPlan (s.lanePort n) f.cells = some x ∧ s.cycle < f.entry + 1250000000) ∧
    (∃ (s : State) (x : Crossing), Mode.STEEP ≤ s.mode ∧ s.fab.hold = 0 ∧ s.fab.voq = SMap.empty ∧ s.fab.cross = [x] ∧ x.out < 192 ∧ x.sent + 1 < x.copy.fr.cells ∧ s.fab.mc = SMap.empty ∧ s.fab.mcq = SMap.empty ∧ s.fab.res = SMap.empty ∧ bitAt s.dev.recov 4 = false) ∧
    (∃ (s : State), s.mode < Mode.STEEP) :=
  ⟨⟨{ st [(F.DEV_MODE.CUR, 5), (F.DEV_MODE.TRANS, 0)] with fab := { Fabric.fresh with hold := 16 } }, by decide +kernel⟩,
    ⟨{ st [(F.DEV_MODE.CUR, 5), (F.DEV_MODE.TRANS, 0), (F.PRT_STATE.OPER 191, 3), (F.LN_CFG.PORT 191, 191), (F.LN_CFG.MODE 191, 1), (F.BPM_P0_SPLIT.EG_MIN, 8), (F.BPM_POOL_SIZE.COUNT 0, 9), (F.BPM_POOL_FREE.FREE 0, 9)] with fab := { Fabric.fresh with voq := SMap.empty.put (voqKey 3 191 7) ⟨[⟨9, 2, 0, List.replicate 300 0, 191, 3, 7, false, 5, 0, false, none, 5, 0, 0, none, 0, 0, []⟩], [], 0⟩ } }, 3, 191, 7, ⟨9, 2, 0, List.replicate 300 0, 191, 3, 7, false, 5, 0, false, none, 5, 0, 0, none, 0, 0, []⟩, (2, 0, 0), by decide +kernel⟩,
    ⟨{ st [(F.DEV_MODE.CUR, 5), (F.DEV_MODE.TRANS, 0)] with fab := { Fabric.fresh with cross := [⟨191, ⟨⟨9, 2, 0, List.replicate 300 0, 191, 3, 7, false, 5, 0, false, none, 5, 0, 0, none, 0, 0, []⟩, false, none, false, ⟨0, 0, 0, []⟩⟩, none, 0, none⟩] } }, ⟨191, ⟨⟨9, 2, 0, List.replicate 300 0, 191, 3, 7, false, 5, 0, false, none, 5, 0, 0, none, 0, 0, []⟩, false, none, false, ⟨0, 0, 0, []⟩⟩, none, 0, none⟩, by decide +kernel⟩,
    ⟨{ st [(F.DEV_MODE.CUR, 2), (F.DEV_MODE.TRANS, 0)] with fab := { Fabric.fresh with hold := 16 } }, by decide +kernel⟩⟩

theorem test_meets_SchedulerResetsAndSweepsBound :
    (∃ (s : State), Mode.STEEP ≤ s.mode ∧ s.dev.recov = 0 ∧ (∀ x ∈ s.fab.cross, x.mc = none)) ∧
    (∃ (s : State) (plane slice id n : Nat) (m : McFrame), plane < 4 ∧ slice < 4 ∧ id ∈ s.residue slice plane ∧ s.mcAt id = some m ∧ m.todo = [n] ∧ n < 192 ∧ n % 4 = plane ∧ m.live = 0 ∧ (m.e0.get? plane).isSome = true) :=
  ⟨⟨{ st [(F.DEV_MODE.CUR, 5), (F.DEV_MODE.TRANS, 0)] with fab := { Fabric.fresh with cross := [⟨191, ⟨⟨9, 2, 0, List.replicate 300 0, 191, 3, 7, false, 5, 0, false, none, 5, 0, 0, none, 0, 0, []⟩, false, none, false, ⟨0, 0, 0, []⟩⟩, none, 0, none⟩] } }, by decide +kernel⟩,
    ⟨{ st [(F.DEV_MODE.CUR, 5), (F.DEV_MODE.TRANS, 0), (F.LN_CFG.PORT 191, 191)] with fab := { Fabric.fresh with res := SMap.empty.put 15 [9], mc := SMap.empty.put 9 ⟨⟨9, 2, 0, List.replicate 300 0, 191, 3, 7, false, 5, 0, false, none, 5, 0, 0, none, 0, 0, []⟩, [191], [], 0, SMap.empty.put 3 0, none⟩ } }, 3, 3, 9, 191, ⟨⟨9, 2, 0, List.replicate 300 0, 191, 3, 7, false, 5, 0, false, none, 5, 0, 0, none, 0, 0, []⟩, [191], [], 0, SMap.empty.put 3 0, none⟩, by decide +kernel⟩⟩

theorem test_meets_BuffersReturnAndFrerEntriesReset :
    (∃ (s : State) (i n c : Nat) (f : Frame) (r : List (Option Nat × Frame)), i < 4 ∧ n < 192 ∧ c < 8 ∧ (s.voqAt (voqKey i n c)).sramBytes < 65536 ∧ (s.voqAt (voqKey i n c)).seg = (none, f) :: r) ∧
    (∃ (s : State) (i n c h : Nat) (f : Frame) (r : List (Option Nat × Frame)), i < 4 ∧ n < 192 ∧ c < 8 ∧ (s.voqAt (voqKey i n c)).sramBytes < 65536 ∧ (s.voqAt (voqKey i n c)).seg = (some h, f) :: r ∧ (s.bufExtents f.bytes.length f.bytes.length Own.FABRIC 3 0 []).2.isSome = true) ∧
    (∃ (s : State) (h : BitVec 32), s.hostOpen ∧ s.mode ≠ Mode.LOAD ∧ s.bufCheck h.toNat Own.HOST = 0) ∧
    (∃ (s : State), s.hostOpen) ∧
    (∃ (s : State), Mode.STEEP ≤ s.mode ∧ bitAt s.dev.recov 8 = false ∧ s.fab.snap.Nodup ∧ (∀ k ∈ s.leaked, k / 2 ^ 24 < 5)) ∧
    (∃ (s : State), s.hostOpen ∧ s.isMutable 1 = true ∧ s.fld F.FAB_FRER_IDX.INST ≠ 0 ∧ (s.fld F.FAB_FRER_CFG0.EN = 1 → s.fld F.FAB_FRER_CFG0.HIST ≠ 0) ∧ (s.fld F.FAB_FRER_CFG0.EN = 1 → s.fld F.FAB_FRER_CFG0.RCV = 1 → s.fld F.FAB_FRER_CFG1.RESET_MS ≠ 0) ∧ (s.fld F.FAB_FRER_CFG0.RCV = 1 → s.portUsed (s.fld F.FAB_FRER_CFG0.RCV_PORT) = true)) ∧
    (∃ (s : State), s.hostOpen ∧ s.fld F.FAB_FRER_IDX.INST ≠ 0) ∧
    (∃ (s : State), s.hostOpen ∧ s.isMutable 1 = true ∧ s.fld F.FAB_FRER_IDX.INST ≠ 0) ∧
    (∃ (s : State) (i : Nat), i ≠ 0 ∧ i < 1024 ∧ (s.frer i).en = true ∧ bitAt (s.frer i).cfg0 1 = true) :=
  ⟨⟨{ st [(F.DEV_MODE.CUR, 5), (F.DEV_MODE.TRANS, 0)] with fab := { Fabric.fresh with voq := SMap.empty.put (voqKey 3 191 7) ⟨[], [(none, ⟨9, 2, 0, List.replicate 300 0, 191, 3, 7, false, 5, 0, false, none, 5, 0, 0, none, 0, 0, []⟩)], 0⟩ } }, 3, 191, 7, ⟨9, 2, 0, List.replicate 300 0, 191, 3, 7, false, 5, 0, false, none, 5, 0, 0, none, 0, 0, []⟩, [], by decide +kernel⟩,
    ⟨{ st [(F.DEV_MODE.CUR, 5), (F.DEV_MODE.TRANS, 0), (F.BPM_POOL_SIZE.COUNT 0, 9), (F.BPM_POOL_SIZE.COUNT 3, 9), (F.BPM_POOL_FREE.FREE 0, 9), (F.BPM_SHARED_FREE.FREE, 9)] with fab := { Fabric.fresh with voq := SMap.empty.put (voqKey 3 191 7) ⟨[], [(some (mkHandle 3 0 4), ⟨9, 2, 0, [1, 2, 3, 4], 191, 3, 7, false, 5, 0, false, none, 5, 0, 0, none, 0, 0, []⟩)], 20⟩, alloc := SMap.empty.put (3 * 2 ^ 24) 4 } }, 3, 191, 7, mkHandle 3 0 4, ⟨9, 2, 0, [1, 2, 3, 4], 191, 3, 7, false, 5, 0, false, none, 5, 0, 0, none, 0, 0, []⟩, [], by decide +kernel, by decide +kernel, by decide +kernel, by decide +kernel, by decide +kernel, extents_small _ _ _ _ (by decide +kernel) (by decide +kernel)⟩,
    ⟨{ st [(F.DEV_MODE.CUR, 5), (F.DEV_MODE.TRANS, 0), (F.BPM_POOL_SIZE.COUNT 2, 9)] with fab := { Fabric.fresh with alloc := SMap.empty.put (2 ^ 25 + 80) 6 } }, BitVec.ofNat 32 (mkHandle 2 80 6), by decide +kernel⟩,
    ⟨st [(F.DEV_MODE.CUR, 5), (F.DEV_MODE.TRANS, 0), (F.BPM_POOL_FREE.FREE 4, 9)], by decide +kernel⟩,
    ⟨{ st [(F.DEV_MODE.CUR, 5), (F.DEV_MODE.TRANS, 0), (F.BPM_AUDIT.ROUND, 0xFFFF), (F.BPM_POOL_SIZE.COUNT 1, 9)] with fab := { Fabric.fresh with alloc := SMap.empty.put (2 ^ 24 + 8) 4, snap := [2 ^ 24 + 8] } }, by decide +kernel⟩,
    ⟨st [(F.DEV_MODE.CUR, 5), (F.DEV_MODE.TRANS, 0), (F.IMG_MUT_MASK.MASK, 2), (F.FAB_FRER_IDX.INST, 1023), (F.FAB_FRER_CFG0.EN, 1), (F.FAB_FRER_CFG0.HIST, 127), (F.FAB_FRER_CFG0.RCV, 1), (F.FAB_FRER_CFG1.RESET_MS, 1), (F.FAB_FRER_CFG0.RCV_PORT, 191), (F.LN_CFG.PORT 191, 191), (F.LN_CFG.MODE 191, 1)], by decide +kernel⟩,
    ⟨{ st [(F.DEV_MODE.CUR, 5), (F.DEV_MODE.TRANS, 0), (F.FAB_FRER_IDX.INST, 1023)] with fab := { Fabric.fresh with frer := SMap.empty.put 1023 ⟨0x80007F03, 5, 6, FrerRecov.fresh, SMap.empty⟩ } }, by decide +kernel⟩,
    ⟨{ st [(F.DEV_MODE.CUR, 5), (F.DEV_MODE.TRANS, 0), (F.IMG_MUT_MASK.MASK, 2), (F.FAB_FRER_IDX.INST, 1023)] with fab := { Fabric.fresh with frer := SMap.empty.put 1023 ⟨0x80007F03, 5, 6, ⟨5, 3, false⟩, SMap.empty⟩ } }, by decide +kernel⟩,
    ⟨{ st [(F.DEV_MODE.CUR, 5), (F.DEV_MODE.TRANS, 0)] with fab := { Fabric.fresh with frer := SMap.empty.put 1023 ⟨0x80007F03, 5, 6, ⟨5, 3, false⟩, SMap.empty⟩ } }, 1023, by decide +kernel⟩⟩

theorem test_meets_GateListsCommitSwitchAndRun :
    (∃ (s : State) (p : Nat), p < 192 ∧ s.hostOpen ∧ s.portUsed p = true ∧ s.isMutable 3 = true ∧ (s.egp p).pend = none ∧ s.fld (F.PRT_GCL_CYCLE.NS p) ≠ 0 ∧ s.gclInstant p (s.fld (F.PRT_GCL_CYCLE.NS p)) ≤ s.now16 (s.portDomain p) + 2000000000 * 2 ^ 16 ∧ s.fld (F.PRT_GCL_LEN.ENTRIES p) ≠ 0 ∧ (∀ i < (1024 : Nat), i < s.fld (F.PRT_GCL_LEN.ENTRIES p) → s.gclInterval p (s.gclStaged p) i ≠ 0) ∧ s.fld (F.PRT_GCL_LEN.ENTRIES p) ≤ 1024 ∧ (∀ c < (8 : Nat), s.fld (F.PRT_CBS.EN p c) = 0)) ∧
    (∃ (s : State) (p : Nat), p < 192 ∧ s.hostOpen ∧ s.portUsed p = true ∧ s.isMutable 3 = true ∧ (s.egp p).pend = none ∧ s.fld (F.PRT_GCL_CYCLE.NS p) ≠ 0 ∧ s.gclInstant p (s.fld (F.PRT_GCL_CYCLE.NS p)) ≤ s.now16 (s.portDomain p) + 2000000000 * 2 ^ 16) ∧
    (∃ (s : State) (p : Nat), p < 192 ∧ s.hostOpen ∧ s.portUsed p = true) ∧
    (∃ (s : State) (p : Nat) (d : GclPend), p < 192 ∧ (s.egp p).pend = some d) ∧
    (∃ (s : State) (p : Nat) (r : GclRun), p < 192 ∧ (s.egp p).run = some r ∧ r.idx + 1 < (s.runSegs p r).length ∧ r.idx < 1023) ∧
    (∃ (s : State) (p : Nat) (r : GclRun), p < 192 ∧ (s.egp p).run = some r ∧ (s.runSegs p r).length ≤ r.idx + 1) :=
  ⟨⟨st [(F.DEV_MODE.CUR, 5), (F.DEV_MODE.TRANS, 0), (F.IMG_MUT_MASK.MASK, 8), (F.PRT_GCL_CYCLE.NS 191, 1000), (F.PRT_GCL_LEN.ENTRIES 191, 2), (F.PRT_GCL_A.INTERVAL_NS 191 0, 1), (F.PRT_GCL_A.INTERVAL_NS 191 1, 1), (F.PRT_GCL_B.INTERVAL_NS 191 0, 1), (F.PRT_GCL_B.INTERVAL_NS 191 1, 1), (F.LN_CFG.PORT 191, 191), (F.LN_CFG.MODE 191, 1), (F.PRT_STATE.OPER 191, 3)], 191, by decide +kernel⟩,
    ⟨st [(F.DEV_MODE.CUR, 5), (F.DEV_MODE.TRANS, 0), (F.IMG_MUT_MASK.MASK, 8), (F.PRT_GCL_CYCLE.NS 191, 1000), (F.LN_CFG.PORT 191, 191), (F.LN_CFG.MODE 191, 1), (F.PRT_STATE.OPER 191, 3)], 191, by decide +kernel⟩,
    ⟨{ st [(F.DEV_MODE.CUR, 5), (F.DEV_MODE.TRANS, 0), (F.LN_CFG.PORT 191, 191), (F.LN_CFG.MODE 191, 1), (F.PRT_STATE.OPER 191, 3)] with fab := { Fabric.fresh with eg := SMap.empty.put 191 { EgPort.fresh with pend := some ⟨false, 1, 2, 1000, 5⟩ } } }, 191, by decide +kernel⟩,
    ⟨{ st [(F.DEV_MODE.CUR, 5), (F.DEV_MODE.TRANS, 0), (F.PRT_GCL_B.GATES 191 0, 0x81), (F.LN_CFG.PORT 191, 191), (F.LN_CFG.MODE 191, 1), (F.PRT_STATE.OPER 191, 3)] with fab := { Fabric.fresh with eg := SMap.empty.put 191 { EgPort.fresh with pend := some ⟨false, 1, 2, 1000, 5⟩ } } }, 191, ⟨false, 1, 2, 1000, 5⟩, by decide +kernel⟩,
    ⟨{ st [(F.DEV_MODE.CUR, 5), (F.DEV_MODE.TRANS, 0), (F.PRT_GCL_B.INTERVAL_NS 191 0, 500), (F.PRT_GCL_B.GATES 191 1, 0x80), (F.LN_CFG.PORT 191, 191), (F.LN_CFG.MODE 191, 1), (F.PRT_STATE.OPER 191, 3)] with fab := { Fabric.fresh with eg := SMap.empty.put 191 { EgPort.fresh with run := some ⟨1, 2, 1000, 0, 0⟩ } } }, 191, ⟨1, 2, 1000, 0, 0⟩, by decide +kernel⟩,
    ⟨{ st [(F.DEV_MODE.CUR, 5), (F.DEV_MODE.TRANS, 0), (F.PRT_GCL_B.INTERVAL_NS 191 0, 500), (F.PRT_GCL_B.GATES 191 0, 0x80), (F.LN_CFG.PORT 191, 191), (F.LN_CFG.MODE 191, 1), (F.PRT_STATE.OPER 191, 3)] with fab := { Fabric.fresh with eg := SMap.empty.put 191 { EgPort.fresh with run := some ⟨1, 2, 1000, 0, 1⟩ } } }, 191, ⟨1, 2, 1000, 0, 1⟩, by decide +kernel⟩⟩

theorem test_meets_PauseAndItsWatchdogAct :
    (∃ (s : State) (p : Nat) (enable : BitVec 8) (q : List (BitVec 16)), p < 192 ∧ s.receives p = true) ∧
    (∃ (s : State) (p : Nat), p < 192 ∧ s.receives p = true) ∧
    (∃ (s : State) (p c : Nat), p < 192 ∧ c < 8) ∧
    (∃ (s : State) (p c : Nat), p < 192 ∧ c < 8 ∧ (s.egp p).blk.contains c = true ∧ s.fldBit (F.PRT_WD.DROP p) c = false) ∧
    (∃ (s : State) (p c : Nat), p < 192 ∧ c < 8 ∧ s.pausedCls p c = false ∧ s.gateOpen p c = true) :=
  ⟨⟨st [(F.DEV_MODE.CUR, 5), (F.DEV_MODE.TRANS, 0), (F.PRT_PFC.EN 191, 0xC0), (F.LN_CFG.PORT 191, 191), (F.LN_CFG.MODE 191, 1), (F.PRT_STATE.OPER 191, 3)], 191, 0x81, [0, 0, 0, 0, 0, 0, 0, 0xFFFF], by decide +kernel⟩,
    ⟨st [(F.DEV_MODE.CUR, 5), (F.DEV_MODE.TRANS, 0), (F.LN_CFG.PORT 191, 191), (F.LN_CFG.MODE 191, 1), (F.PRT_STATE.OPER 191, 3)], 191, by decide +kernel⟩,
    ⟨{ st [(F.DEV_MODE.CUR, 5), (F.DEV_MODE.TRANS, 0), (F.PRT_WD.PAUSED 191, 0x80), (F.LN_CFG.PORT 191, 191), (F.LN_CFG.MODE 191, 1), (F.PRT_STATE.OPER 191, 3)] with fab := { Fabric.fresh with eg := SMap.empty.put 191 { EgPort.fresh with quanta := SMap.empty.put 7 3 } } }, 191, 7, by decide +kernel⟩,
    ⟨{ st [(F.DEV_MODE.CUR, 5), (F.DEV_MODE.TRANS, 0), (F.PRT_WD.PAUSED 191, 0x80), (F.LN_CFG.PORT 191, 191), (F.LN_CFG.MODE 191, 1), (F.PRT_STATE.OPER 191, 3)] with fab := { Fabric.fresh with eg := SMap.empty.put 191 { EgPort.fresh with blk := [7], q := SMap.empty.put 7 [⟨⟨9, 1, 0, List.replicate 64 0, 0xFF, 3, 7, false, 5, 0, false, none, 5, 0, 0, none, 0, 0, []⟩, false, none, false, ⟨0, 0, 0, []⟩⟩] } } }, 191, 7, by decide +kernel⟩,
    ⟨st [(F.DEV_MODE.CUR, 5), (F.DEV_MODE.TRANS, 0), (F.PRT_WD.DROP 191, 0x80), (F.PRT_GCL_STATUS.GATES 191, 0x80), (F.LN_CFG.PORT 191, 191), (F.LN_CFG.MODE 191, 1), (F.PRT_STATE.OPER 191, 3)], 191, 7, by decide +kernel⟩⟩

theorem test_meets_PortsSendTheChosenFrame :
    (∃ (s : State) (p c dep : Nat) (x : Copy) (bs : List Byte), p < 192 ∧ c < 8 ∧ s.portUsed p = true ∧ s.oper p = Oper.UP ∧ s.idling p = false ∧ s.ttFirst p = false ∧ (s.egp p).q = SMap.empty.put c [x] ∧ (s.egp p).lt = [] ∧ (s.egp p).run = none ∧ (s.egp p).pend = none ∧ (∀ d < (8 : Nat), s.fld (F.PRT_CBS.EN p d) = 0) ∧ s.gateOpen p c = true ∧ s.pausedCls p c = false ∧ s.doomed x.fr = false ∧ s.copyBytes p x = bs ∧ bs.length ≤ 10240 ∧ s.correct p x.fr bs (s.txStamp (s.txLane p) dep) = (some bs, 0)) ∧
    (∃ (s : State) (p dep : Nat), p < 192 ∧ s.portUsed p = true ∧ s.oper p = Oper.UP ∧ s.egp p = EgPort.fresh ∧ (∀ d < (8 : Nat), s.fld (F.PRT_CBS.EN p d) = 0)) :=
  ⟨⟨{ st [(F.DEV_MODE.CUR, 5), (F.DEV_MODE.TRANS, 0), (F.PRT_GCL_STATUS.GATES 191, 0x80), (F.PRT_LT_CFG.LT_CLASS 191, 0xFF), (F.LN_CFG.PORT 191, 191), (F.LN_CFG.MODE 191, 1), (F.PRT_STATE.OPER 191, 3)] with fab := { Fabric.fresh with eg := SMap.empty.put 191 { EgPort.fresh with q := SMap.empty.put 7 [⟨⟨9, 1, 0, List.replicate 64 0, 0xFF, 3, 7, false, 5, 0, false, none, 5, 0, 0, none, 0, 0, []⟩, false, none, false, ⟨0, 0, 0, []⟩⟩] } } }, 191, 7, 6553600, ⟨⟨9, 1, 0, List.replicate 64 0, 0xFF, 3, 7, false, 5, 0, false, none, 5, 0, 0, none, 0, 0, []⟩, false, none, false, ⟨0, 0, 0, []⟩⟩, List.replicate 64 0, by decide +kernel⟩,
    ⟨st [(F.DEV_MODE.CUR, 5), (F.DEV_MODE.TRANS, 0), (F.LN_CFG.PORT 191, 191), (F.LN_CFG.MODE 191, 1), (F.PRT_STATE.OPER 191, 3)], 191, 5, by decide +kernel⟩⟩

theorem test_meets_IngressJudgesAndForwardsFrames :
    (∃ (s : State) (p slots : Nat) (bs : List Byte) (ts : LineStamp), p < 192 ∧ s.receives p = false) ∧
    (∃ (s : State) (p slots : Nat) (bs : List Byte) (ts : LineStamp), p < 192 ∧ s.receives p = true ∧ bs.length < 64 ∧ s.forwards (sliceOf p) = false ∧ ((parseFrame bs (s.defVlan p) (s.cfg.defPcp.getD p 0)).ethType ≠ 0x8808 ∨ fcsGood bs = false ∨ bs.length < 64)) ∧
    (∃ (s : State) (p slots : Nat) (bs : List Byte) (ts : LineStamp), p < 192 ∧ s.receives p = true ∧ 10240 < bs.length ∧ s.forwards (sliceOf p) = false) ∧
    (∃ (s : State) (p slots : Nat) (bs : List Byte) (ts : LineStamp), p < 192 ∧ s.receives p = true ∧ 64 ≤ bs.length ∧ bs.length ≤ 10240 ∧ fcsGood bs = false ∧ s.forwards (sliceOf p) = false) ∧
    (∃ (s : State) (p slots : Nat) (bs : List Byte) (ts : LineStamp), p < 192 ∧ s.receives p = true ∧ frameGood bs = false) ∧
    (∃ (s : State) (p slots : Nat) (bs : List Byte) (ts : LineStamp), p < 192 ∧ s.receives p = true ∧ 64 ≤ bs.length ∧ bs.length ≤ 10240 ∧ fcsGood bs = true ∧ (parseFrame bs (s.defVlan p) (s.cfg.defPcp.getD p 0)).ethType ≠ 0x8808 ∧ esmcOf bs (parseFrame bs (s.defVlan p) (s.cfg.defPcp.getD p 0)) = none ∧ (parseFrame bs (s.defVlan p) (s.cfg.defPcp.getD p 0)).ptp = none ∧ s.forwards (sliceOf p) = false) ∧
    (∃ (s : State) (p slots : Nat) (bs : List Byte) (ts : LineStamp) (r : Nat), p < 192 ∧ s.receives p = true ∧ 64 ≤ bs.length ∧ bs.length ≤ 10240 ∧ fcsGood bs = true ∧ (parseFrame bs (s.defVlan p) (s.cfg.defPcp.getD p 0)).ethType ≠ 0x8808 ∧ esmcOf bs (parseFrame bs (s.defVlan p) (s.cfg.defPcp.getD p 0)) = none ∧ (parseFrame bs (s.defVlan p) (s.cfg.defPcp.getD p 0)).ptp = none ∧ s.forwards (sliceOf p) = true ∧ s.calmDiscards = false ∧ (s.decideFrame (sliceOf p) p (parseFrame bs (s.defVlan p) (s.cfg.defPcp.getD p 0))).act = 0 ∧ (s.decideFrame (sliceOf p) p (parseFrame bs (s.defVlan p) (s.cfg.defPcp.getD p 0))).stream = none ∧ (s.decideFrame (sliceOf p) p (parseFrame bs (s.defVlan p) (s.cfg.defPcp.getD p 0))).group = false ∧ (s.decideFrame (sliceOf p) p (parseFrame bs (s.defVlan p) (s.cfg.defPcp.getD p 0))).empty = false ∧ (s.decideFrame (sliceOf p) p (parseFrame bs (s.defVlan p) (s.cfg.defPcp.getD p 0))).ports = [r] ∧ r < 192 ∧ s.fourLane r = false ∧ s.operUp r = true ∧ s.voqAt (voqKey (sliceOf p) r (s.decideFrame (sliceOf p) p (parseFrame bs (s.defVlan p) (s.cfg.defPcp.getD p 0))).cls) = Voq.fresh ∧ (s.ingressExtents bs.length (sliceOf p)).2.isSome = true) :=
  ⟨⟨st [(F.DEV_MODE.CUR, 5), (F.DEV_MODE.TRANS, 0)], 191, 0, [], ⟨0⟩, by decide +kernel⟩,
    ⟨st [(F.DEV_MODE.CUR, 5), (F.DEV_MODE.TRANS, 0), (F.LN_CFG.PORT 191, 191), (F.LN_CFG.MODE 191, 1), (F.PRT_STATE.OPER 191, 3)], 191, 0, List.replicate 63 0, ⟨0⟩, by decide +kernel⟩,
    ⟨st [(F.DEV_MODE.CUR, 5), (F.DEV_MODE.TRANS, 0), (F.LN_CFG.PORT 191, 191), (F.LN_CFG.MODE 191, 1), (F.PRT_STATE.OPER 191, 3)], 191, 0, List.replicate 10241 0, ⟨0⟩, by decide +kernel⟩,
    ⟨st [(F.DEV_MODE.CUR, 5), (F.DEV_MODE.TRANS, 0), (F.LN_CFG.PORT 191, 191), (F.LN_CFG.MODE 191, 1), (F.PRT_STATE.OPER 191, 3)], 191, 0, List.replicate 64 1, ⟨0⟩, by decide +kernel⟩,
    ⟨st [(F.DEV_MODE.CUR, 5), (F.DEV_MODE.TRANS, 0), (F.slcState 3, 1), (F.DEV_SLC_STATE.POWERED, 15), (F.SLC_CARVE.FDB_LOG2 3, 10), (F.BPM_POOL_SIZE.COUNT 0, 9), (F.BPM_POOL_FREE.FREE 0, 9), (F.BPM_SHARED_FREE.FREE, 9), (F.LN_CFG.PORT 191, 191), (F.LN_CFG.MODE 191, 1), (F.PRT_STATE.OPER 191, 3)], 191, 0, List.replicate 64 1, ⟨0⟩, by decide +kernel⟩,
    ⟨st [(F.DEV_MODE.CUR, 5), (F.DEV_MODE.TRANS, 0), (F.LN_CFG.PORT 191, 191), (F.LN_CFG.MODE 191, 1), (F.PRT_STATE.OPER 191, 3)], 191, 0, withFcs ([1, 0x1B, 0x19, 0, 0, 1, 2, 0, 0, 0, 0, 9, 0x12, 0x34] ++ List.replicate 46 0), ⟨0⟩, by decide +kernel⟩,
    ⟨{ st [(F.DEV_MODE.CUR, 5), (F.DEV_MODE.TRANS, 0), (F.LN_CFG.PORT 0, 0), (F.LN_CFG.MODE 0, 1), (F.PRT_STATE.OPER 0, 3), (F.slcState 3, 1), (F.DEV_SLC_STATE.POWERED, 15), (F.SLC_CARVE.FDB_LOG2 3, 10), (F.BPM_POOL_SIZE.COUNT 0, 9), (F.BPM_POOL_FREE.FREE 0, 9), (F.BPM_SHARED_FREE.FREE, 9), (F.LN_CFG.PORT 191, 191), (F.LN_CFG.MODE 191, 1), (F.PRT_STATE.OPER 191, 3)] with slices := SMap.empty.put 3 { Slice.fresh with fdb := SMap.empty.put ((fdbWays 10 0 (fdbKey 0 0x011B19000001)).headD 0) ⟨fdbKey 0 0x011B19000001, true, false, 0⟩ } }, 191, 0, withFcs ([1, 0x1B, 0x19, 0, 0, 1, 2, 0, 0, 0, 0, 9, 0x12, 0x34] ++ List.replicate 46 0), ⟨0⟩, 0, by decide +kernel, by decide +kernel, by decide +kernel, by decide +kernel, by decide +kernel, by decide +kernel, by decide +kernel, by decide +kernel, by decide +kernel, by decide +kernel, by decide +kernel, by decide +kernel, by decide +kernel, by decide +kernel, by decide +kernel, by decide +kernel, by decide +kernel, by decide +kernel, by decide +kernel, ingress_small _ _ _ (by decide +kernel) (by decide +kernel)⟩⟩

theorem test_meets_KettleChannelsAreExcludedAndReadmitted :
    (∃ (s : State) (chs : BitVec 3) (c : Nat), Mode.LOAD ≤ s.mode ∧ s.allHealthy = true ∧ bitList 3 chs.toNat = [c]) ∧
    (∃ (s : State) (c : Nat), c < 3 ∧ Mode.LOAD ≤ s.mode ∧ s.chState c ≠ 1) ∧
    (∃ (s : State) (c : Nat), c < 3 ∧ s.chState c = 1) ∧
    (∃ (s : State) (c : Nat), c < 3 ∧ s.chState c = 2) ∧
    (∃ (s : State) (c : Nat), c < 3 ∧ s.chState c = 2 ∧ s.healthy s.lead = true) ∧
    (∃ (s : State) (c : Nat), s.fld F.KT_CH_STATUS.PENDING_HO = 1 ∧ s.lowestHealthy = some c ∧ c ≠ s.lead ∧ (∀ n < (32 : Nat), s.plsNear n = false)) ∧
    (∃ (s : State) (c : Nat), s.fld F.KT_CH_STATUS.PENDING_HO = 1 ∧ s.lowestHealthy = some c ∧ c ≠ s.lead) :=
  ⟨⟨st [(F.DEV_MODE.CUR, 5), (F.DEV_MODE.TRANS, 0)], 1, 0, by decide +kernel⟩,
    ⟨st [(F.DEV_MODE.CUR, 5), (F.DEV_MODE.TRANS, 0)], 2, by decide +kernel⟩,
    ⟨st [(F.DEV_MODE.CUR, 5), (F.DEV_MODE.TRANS, 0), (F.chState 2, 1)], 2, by decide +kernel⟩,
    ⟨st [(F.DEV_MODE.CUR, 5), (F.DEV_MODE.TRANS, 0), (F.chState 0, 2)], 0, by decide +kernel⟩,
    ⟨st [(F.DEV_MODE.CUR, 5), (F.DEV_MODE.TRANS, 0), (F.chState 0, 2), (F.KT_CH_STATUS.LEAD, 1)], 0, by decide +kernel⟩,
    ⟨st [(F.DEV_MODE.CUR, 5), (F.DEV_MODE.TRANS, 0), (F.KT_CH_STATUS.LEAD, 1), (F.KT_CH_STATUS.PENDING_HO, 1)], 0, by decide +kernel⟩,
    ⟨st [(F.DEV_MODE.CUR, 5), (F.DEV_MODE.TRANS, 0), (F.KT_CH_STATUS.LEAD, 2), (F.KT_CH_STATUS.PENDING_HO, 1)], 0, by decide +kernel⟩⟩

theorem test_meets_ServoUpdatesConsumeTheFeed :
    (∃ (s : State) (d : Nat), d < 8 ∧ s.isFree d = true ∧ s.kettleRuns = true) ∧
    (∃ (s : State) (d : Nat), d < 8 ∧ s.isFree d = true ∧ s.kettleRuns = true ∧ s.feedDue d = [] ∧ s.fld (F.KT_SERVO.MANUAL d) = 0 ∧ s.domState d = Dom.LOCKED ∧ s.pairActive (d / 2) = false) ∧
    (∃ (s : State) (d : Nat), d < 8 ∧ s.isFree d = true ∧ s.kettleRuns = true ∧ (s.domState d = Dom.LOCKED ∨ s.domState d = Dom.ACQUIRING) ∧ s.pairActive (d / 2) = false) ∧
    (∃ (s : State) (k : Nat), k < 4 ∧ s.domState (2 * k) = Dom.FOLLOW ∧ s.fld (F.KT_PAIR_STATUS.HELD k) = 0) ∧
    (∃ (s : State) (k : Nat), k < 4 ∧ s.hostOpen ∧ s.pairActive k = true ∧ s.domState (2 * k + 1) = Dom.LOCKED) ∧
    (∃ (s : State) (k : Nat), k < 4 ∧ s.hostOpen) :=
  ⟨⟨{ st [(F.DEV_MODE.CUR, 5), (F.DEV_MODE.TRANS, 0), (F.KT_DOM_CFG.KIND 7, 1), (F.KT_DOM_STATUS.STATE 7, 3)] with kettle := { Kettle.fresh with feeds := SMap.empty.put 7 { KtFeed.fresh with feed := [⟨-5, true, 0⟩, ⟨2, false, 1⟩, ⟨9, false, 2⟩] } }, cycle := 2 }, 7, by decide +kernel⟩,
    ⟨st [(F.DEV_MODE.CUR, 5), (F.DEV_MODE.TRANS, 0), (F.KT_DOM_CFG.KIND 6, 1), (F.KT_DOM_STATUS.STATE 6, 3)], 6, by decide +kernel⟩,
    ⟨st [(F.DEV_MODE.CUR, 5), (F.DEV_MODE.TRANS, 0), (F.KT_DOM_CFG.KIND 3, 1), (F.KT_DOM_STATUS.STATE 3, 3)], 3, by decide +kernel⟩,
    ⟨st [(F.DEV_MODE.CUR, 5), (F.DEV_MODE.TRANS, 0), (F.KT_DOM_STATUS.STATE 6, 5), (F.KT_PAIR_STATUS.ON_PARTNER 3, 1)], 3, by decide +kernel⟩,
    ⟨st [(F.DEV_MODE.CUR, 5), (F.DEV_MODE.TRANS, 0), (F.KT_DOM_STATUS.STATE 7, 3), (F.KT_DOM_CFG.KIND 6, 1), (F.KT_DOM_CFG.KIND 7, 1), (F.KT_PAIR_STATUS.ACTIVE 3, 1)], 3, by decide +kernel⟩,
    ⟨st [(F.DEV_MODE.CUR, 5), (F.DEV_MODE.TRANS, 0), (F.KT_PAIR_STATUS.HELD 3, 1)], 3, by decide +kernel⟩⟩

theorem test_meets_HostFeedsAndCreditsMove :
    (∃ (s : State) (d : Nat) (hi : BitVec 32), d < 8 ∧ s.hostOpen ∧ (s.freeOnly d).1 = false ∧ (signed 64 (hi.toNat * 2 ^ 32 + (s.feed d).lo)).natAbs ≤ oneSec16 ∧ 0 < s.fld (F.KT_OFS_CREDIT.HOST d)) ∧
    (∃ (s : State) (d n : Nat), d < 8 ∧ s.hostOpen ∧ (s.freeOnly d).1 = false ∧ 0 < n ∧ n ≤ 16 ∧ n ≤ s.fld (F.KT_OFS_CREDIT.HOST d) ∧ s.fld (F.KT_OFS_CREDIT.ENGINE d) + n ≤ 16) ∧
    (∃ (s : State) (d : Nat), d < 8 ∧ s.hostOpen ∧ (s.freeOnly d).1 = false ∧ s.fld (F.KT_OFS_CREDIT.HOST d) + s.fld (F.KT_OFS_CREDIT.ENGINE d) ≤ 16) ∧
    (∃ (s : State) (d : Nat) (hi : BitVec 32), d < 8 ∧ s.hostOpen ∧ (s.freeOnly d).1 = false ∧ s.isMutable 9 = true ∧ s.domState d = Dom.MANUAL ∧ hi.toNat < 2 ^ 24 ∧ incMin ≤ hi.toNat * 2 ^ 32 + (s.feed d).incLo ∧ hi.toNat * 2 ^ 32 + (s.feed d).incLo ≤ incMax) :=
  ⟨⟨st [(F.DEV_MODE.CUR, 5), (F.DEV_MODE.TRANS, 0), (F.KT_DOM_CFG.KIND 7, 1), (F.KT_OFS_CREDIT.HOST 7, 1)], 7, 0xFFFFFFFF, by decide +kernel⟩,
    ⟨st [(F.DEV_MODE.CUR, 5), (F.DEV_MODE.TRANS, 0), (F.KT_DOM_CFG.KIND 7, 1), (F.KT_OFS_CREDIT.HOST 7, 16), (F.KT_OFS_CREDIT.ENGINE 7, 0)], 7, 16, by decide +kernel⟩,
    ⟨st [(F.DEV_MODE.CUR, 5), (F.DEV_MODE.TRANS, 0), (F.KT_DOM_CFG.KIND 7, 1), (F.KT_OFS_CREDIT.HOST 7, 6), (F.KT_OFS_CREDIT.ENGINE 7, 10)], 7, by decide +kernel⟩,
    ⟨st [(F.DEV_MODE.CUR, 5), (F.DEV_MODE.TRANS, 0), (F.KT_DOM_CFG.KIND 7, 1), (F.KT_DOM_STATUS.STATE 7, 6), (F.IMG_MUT_MASK.MASK, 512)], 7, BitVec.ofNat 32 (incMax / 2 ^ 32), by decide +kernel⟩⟩

theorem test_meets_TimeBaseCapturesAlarmsAndHoldoverTests :
    (∃ (s : State) (n : Nat), s.kettleRuns = true ∧ 0 < n ∧ s.fld F.KT_TB_STATUS.ABSENT = 0) ∧
    (∃ (s : State), s.kettleRuns = true ∧ s.fld F.KT_TB_STATUS.ABSENT = 0) ∧
    (∃ (s : State), s.kettleRuns = true ∧ s.fld F.KT_TB_STATUS.ABSENT = 1) ∧
    (∃ (s : State), s.fld F.KT_TB_STATUS.TIMEBASE = 2) ∧
    (∃ (s : State), s.fld F.KT_TB_STATUS.TIMEBASE = 2) ∧
    (∃ (s : State) (i d : Nat), i < 2 ∧ d < 8 ∧ s.kettleRuns = true) ∧
    (∃ (s : State) (d : Nat), d < 8 ∧ s.hostOpen) ∧
    (∃ (s : State) (n dom : Nat) (sp : Bool), n < 8 ∧ dom < 8 ∧ s.hostOpen ∧ s.domEnabled dom = true ∧ diff48 (s.alarmTarget n) (ns48 (s.now16 dom)) ≤ 2000000000 * 2 ^ 16 ∧ -(1000000 * 2 ^ 16) ≤ diff48 (s.alarmTarget n) (ns48 (s.now16 dom))) ∧
    (∃ (s : State) (n : Nat), n < 8 ∧ s.fld (F.KT_ALM_CFG.ARM n) = 1) ∧
    (∃ (s : State) (ch d : Nat), ch < 3 ∧ s.hostOpen ∧ (s.mode = Mode.BREEZE ∨ s.mode = Mode.GALE ∨ s.mode = Mode.CALM) ∧ s.fhtDomain = some d ∧ s.fld F.KT_FHT_STATUS.RUN = 0) ∧
    (∃ (s : State), s.fld F.KT_CFG.FHT_H ≠ 0 ∧ s.fld F.KT_FHT_STATUS.RUN = 1) ∧
    (∃ (s : State) (d : Nat), s.fld F.KT_CFG.FHT_H ≠ 0 ∧ s.fld F.KT_FHT_STATUS.RUN = 0 ∧ s.fhtDomain = some d ∧ s.kettle.fht.turn < 3) ∧
    (∃ (s : State) (fault : Int), s.fld F.KT_FHT_STATUS.RUN = 1 ∧ s.kettle.fht.due = false ∧ s.fld F.KT_FHT_STATUS.CH < 3) :=
  ⟨⟨{ st [(F.DEV_MODE.CUR, 5), (F.DEV_MODE.TRANS, 0), (F.KT_TB_STATUS.ABSENT, 0)] with kettle := { Kettle.fresh with tb := ⟨List.replicate 16 9, none⟩ } }, 125000000, by decide +kernel⟩,
    ⟨st [(F.DEV_MODE.CUR, 5), (F.DEV_MODE.TRANS, 0), (F.KT_TB_STATUS.ABSENT, 0)], by decide +kernel⟩,
    ⟨st [(F.DEV_MODE.CUR, 5), (F.DEV_MODE.TRANS, 0), (F.KT_TB_STATUS.ABSENT, 1)], by decide +kernel⟩,
    ⟨st [(F.DEV_MODE.CUR, 5), (F.DEV_MODE.TRANS, 0), (F.KT_TB_STATUS.TIMEBASE, 2)], by decide +kernel⟩,
    ⟨st [(F.DEV_MODE.CUR, 3), (F.DEV_MODE.TRANS, 0), (F.KT_TB_STATUS.TIMEBASE, 2)], by decide +kernel⟩,
    ⟨{ st [(F.DEV_MODE.CUR, 5), (F.DEV_MODE.TRANS, 0), (F.KT_DOM_CFG.KIND 7, 1), (F.KT_CAP_STATUS.NEW, 7)] with kettle := { Kettle.fresh with ch := SMap.empty.put 7 ⟨2 ^ 40, 0, 0, []⟩ } }, 1, 7, by decide +kernel⟩,
    ⟨st [(F.DEV_MODE.CUR, 5), (F.DEV_MODE.TRANS, 0), (F.KT_DOM_CFG.KIND 7, 1)], 7, by decide +kernel⟩,
    ⟨st [(F.DEV_MODE.CUR, 5), (F.DEV_MODE.TRANS, 0), (F.KT_DOM_CFG.KIND 7, 1), (F.KT_ALM_NS.NS32 7, 2000000000)], 7, 7, true, by decide +kernel⟩,
    ⟨st [(F.DEV_MODE.CUR, 5), (F.DEV_MODE.TRANS, 0), (F.KT_ALM_CFG.ARM 7, 1), (F.KT_ALM_CFG.SPOUT 7, 1)], 7, by decide +kernel⟩,
    ⟨st [(F.DEV_MODE.CUR, 5), (F.DEV_MODE.TRANS, 0), (F.KT_DOM_CFG.KIND 0, 1), (F.KT_DOM_STATUS.STATE 0, 3)], 2, 0, by decide +kernel⟩,
    ⟨st [(F.DEV_MODE.CUR, 5), (F.DEV_MODE.TRANS, 0), (F.KT_CFG.FHT_H, 1), (F.KT_FHT_STATUS.RUN, 1)], by decide +kernel⟩,
    ⟨{ st [(F.DEV_MODE.CUR, 5), (F.DEV_MODE.TRANS, 0), (F.KT_CFG.FHT_H, 1), (F.KT_DOM_CFG.KIND 0, 1), (F.KT_DOM_STATUS.STATE 0, 3)] with kettle := { Kettle.fresh with fht := { Kettle.fresh.fht with turn := 2 } } }, 0, by decide +kernel⟩,
    ⟨st [(F.DEV_MODE.CUR, 5), (F.DEV_MODE.TRANS, 0), (F.KT_FHT_STATUS.RUN, 1), (F.KT_FHT_STATUS.CH, 2)], 100001, by decide +kernel⟩⟩

theorem test_meets_TimingEngineTakesMessages :
    (∃ (s : State) (p : Nat) (m : PtpMsg) (ts : LineStamp), p < 192 ∧ s.ttWorks p = true ∧ s.ttOurs p m.domain m.major = true ∧ m.short = false ∧ (s.passCells p m.frame.length).2 = true ∧ s.ttRole p = TtRole.SLAVE ∧ s.ttMaster p m.srcClock.toNat m.srcPort = true ∧ m.twoStep = true) ∧
    (∃ (s : State) (p : Nat) (m : PtpMsg) (ts : LineStamp), p < 192 ∧ s.ttWorks p = true ∧ s.ttOurs p m.domain m.major = true ∧ m.short = false ∧ (s.passCells p m.frame.length).2 = true ∧ s.ttRole p = TtRole.SLAVE ∧ s.ttMaster p m.srcClock.toNat m.srcPort = true ∧ m.twoStep = false) ∧
    (∃ (s : State) (p : Nat) (m : PtpMsg) (ts : LineStamp) (y : TtSync), p < 192 ∧ s.ttWorks p = true ∧ s.ttOurs p m.domain m.major = true ∧ m.short = false ∧ (s.passCells p m.frame.length).2 = true ∧ s.ttRole p = TtRole.SLAVE ∧ (s.ttEng p).sync = some y ∧ y.clock = m.srcClock.toNat ∧ y.port = m.srcPort ∧ y.seq = m.seq ∧ y.steps = s.ttSteps p) ∧
    (∃ (s : State) (p : Nat) (m : PtpMsg) (ts : LineStamp), p < 192 ∧ s.ttWorks p = true ∧ s.ttOurs p m.domain m.major = true ∧ m.short = false ∧ (s.passCells p m.frame.length).2 = true ∧ s.ttRole p = TtRole.MASTER ∧ s.ttMech p ≠ 1 ∧ s.ttHasId p = true) ∧
    (∃ (s : State) (p : Nat) (m : PtpMsg) (ts : LineStamp), p < 192 ∧ s.ttWorks p = true ∧ s.ttOurs p m.domain m.major = true ∧ m.short = false ∧ (s.passCells p m.frame.length).2 = true ∧ s.ttMech p = 1 ∧ s.ttHasId p = true) ∧
    (∃ (s : State) (p : Nat) (m : PtpMsg) (ts : LineStamp) (r : TtReq) (t3 : Time16) (k3 : Nat), p < 192 ∧ s.ttWorks p = true ∧ s.ttOurs p m.domain m.major = true ∧ m.short = false ∧ (s.passCells p m.frame.length).2 = true ∧ s.ttRole p = TtRole.SLAVE ∧ s.ttMech p ≠ 1 ∧ s.ttAnswers p 1 m = some (r, t3, k3)) ∧
    (∃ (s : State) (p : Nat) (m : PtpMsg) (ts : LineStamp) (r : TtReq) (t1 : Time16) (k1 : Nat), p < 192 ∧ s.ttWorks p = true ∧ s.ttOurs p m.domain m.major = true ∧ m.short = false ∧ (s.passCells p m.frame.length).2 = true ∧ s.ttMech p = 1 ∧ s.ttAnswers p 2 m = some (r, t1, k1)) ∧
    (∃ (s : State) (p : Nat) (m : PtpMsg) (ts : LineStamp) (r : TtReq) (t1 : Time16) (k1 : Nat), p < 192 ∧ s.ttWorks p = true ∧ s.ttOurs p m.domain m.major = true ∧ m.short = false ∧ (s.passCells p m.frame.length).2 = true ∧ s.ttMech p = 1 ∧ s.ttAnswers p 2 m = some (r, t1, k1) ∧ r.resp ≠ none ∧ k1 = s.ttSteps p) :=
  ⟨⟨st [(F.DEV_MODE.CUR, 5), (F.DEV_MODE.TRANS, 0), (F.LN_CFG.MODE 191, 1), (F.LN_CFG.PORT 191, 191), (F.PRT_STATE.OPER 191, 3), (F.PRT_STATE.ADMIN 191, 1), (F.PRT_TT_CFG.ROLE 191, 2), (F.PRT_TT_CFG.MECH 191, 0), (F.PRT_TT_ID_0.CLKID_0 191, 7), (F.PRT_TT_MID_2.ANY 191, 1)], 191, ⟨0, 0, 0, 0x0700000000000000, 0, 9, true, 65536, 3, 4, 0x0700000000000000, 0, false, [1, 2, 3]⟩, ⟨5⟩, by decide +kernel⟩,
    ⟨st [(F.DEV_MODE.CUR, 5), (F.DEV_MODE.TRANS, 0), (F.LN_CFG.MODE 191, 1), (F.LN_CFG.PORT 191, 191), (F.PRT_STATE.OPER 191, 3), (F.PRT_STATE.ADMIN 191, 1), (F.PRT_TT_CFG.ROLE 191, 2), (F.PRT_TT_CFG.MECH 191, 0), (F.PRT_TT_ID_0.CLKID_0 191, 7), (F.PRT_TT_MID_2.ANY 191, 1)], 191, ⟨0, 0, 0, 0x0700000000000000, 0, 9, false, 65536, 3, 4, 0x0700000000000000, 0, false, [1, 2, 3]⟩, ⟨5⟩, by decide +kernel⟩,
    ⟨{ st [(F.DEV_MODE.CUR, 5), (F.DEV_MODE.TRANS, 0), (F.LN_CFG.MODE 191, 1), (F.LN_CFG.PORT 191, 191), (F.PRT_STATE.OPER 191, 3), (F.PRT_STATE.ADMIN 191, 1), (F.PRT_TT_CFG.ROLE 191, 2), (F.PRT_TT_CFG.MECH 191, 0), (F.PRT_TT_ID_0.CLKID_0 191, 7)] with tt := SMap.empty.put 191 { TtEng.fresh with sync := some ⟨0x0700000000000000, 0, 9, 77, 5, 0⟩ } }, 191, ⟨0, 0, 0, 0x0700000000000000, 0, 9, true, 65536, 3, 4, 0x0700000000000000, 0, false, [1, 2, 3]⟩, ⟨5⟩, ⟨0x0700000000000000, 0, 9, 77, 5, 0⟩, by decide +kernel⟩,
    ⟨st [(F.DEV_MODE.CUR, 5), (F.DEV_MODE.TRANS, 0), (F.LN_CFG.MODE 191, 1), (F.LN_CFG.PORT 191, 191), (F.PRT_STATE.OPER 191, 3), (F.PRT_STATE.ADMIN 191, 1), (F.PRT_TT_CFG.ROLE 191, 1), (F.PRT_TT_CFG.MECH 191, 0), (F.PRT_TT_ID_0.CLKID_0 191, 7)], 191, ⟨0, 0, 0, 0x0700000000000000, 0, 9, true, 65536, 3, 4, 0x0700000000000000, 0, false, [1, 2, 3]⟩, ⟨5⟩, by decide +kernel⟩,
    ⟨st [(F.DEV_MODE.CUR, 5), (F.DEV_MODE.TRANS, 0), (F.LN_CFG.MODE 191, 1), (F.LN_CFG.PORT 191, 191), (F.PRT_STATE.OPER 191, 3), (F.PRT_STATE.ADMIN 191, 1), (F.PRT_TT_CFG.ROLE 191, 3), (F.PRT_TT_CFG.MECH 191, 1), (F.PRT_TT_ID_0.CLKID_0 191, 7)], 191, ⟨0, 0, 0, 0x0700000000000000, 0, 9, true, 65536, 3, 4, 0x0700000000000000, 0, false, [1, 2, 3]⟩, ⟨5⟩, by decide +kernel⟩,
    ⟨{ st [(F.DEV_MODE.CUR, 5), (F.DEV_MODE.TRANS, 0), (F.LN_CFG.MODE 191, 1), (F.LN_CFG.PORT 191, 191), (F.PRT_STATE.OPER 191, 3), (F.PRT_STATE.ADMIN 191, 1), (F.PRT_TT_CFG.ROLE 191, 2), (F.PRT_TT_CFG.MECH 191, 0), (F.PRT_TT_ID_0.CLKID_0 191, 7)] with tt := SMap.empty.put 191 { TtEng.fresh with req := some ⟨1, 9, some (5, 0), some (1, 2, 0), none⟩ } }, 191, ⟨0, 0, 0, 0x0700000000000000, 0, 9, true, 65536, 3, 4, 0x0700000000000000, 0, false, [1, 2, 3]⟩, ⟨5⟩, ⟨1, 9, some (5, 0), some (1, 2, 0), none⟩, 5, 0, by decide +kernel⟩,
    ⟨{ st [(F.DEV_MODE.CUR, 5), (F.DEV_MODE.TRANS, 0), (F.LN_CFG.MODE 191, 1), (F.LN_CFG.PORT 191, 191), (F.PRT_STATE.OPER 191, 3), (F.PRT_STATE.ADMIN 191, 1), (F.PRT_TT_CFG.ROLE 191, 3), (F.PRT_TT_CFG.MECH 191, 1), (F.PRT_TT_ID_0.CLKID_0 191, 7)] with tt := SMap.empty.put 191 { TtEng.fresh with req := some ⟨2, 9, some (5, 0), none, none⟩ } }, 191, ⟨0, 0, 0, 0x0700000000000000, 0, 9, true, 65536, 3, 4, 0x0700000000000000, 0, false, [1, 2, 3]⟩, ⟨5⟩, ⟨2, 9, some (5, 0), none, none⟩, 5, 0, by decide +kernel⟩,
    ⟨{ st [(F.DEV_MODE.CUR, 5), (F.DEV_MODE.TRANS, 0), (F.LN_CFG.MODE 191, 1), (F.LN_CFG.PORT 191, 191), (F.PRT_STATE.OPER 191, 3), (F.PRT_STATE.ADMIN 191, 1), (F.PRT_TT_CFG.ROLE 191, 3), (F.PRT_TT_CFG.MECH 191, 1), (F.PRT_TT_ID_0.CLKID_0 191, 7)] with tt := SMap.empty.put 191 { TtEng.fresh with req := some ⟨2, 9, some (5, 0), none, some (4, 6)⟩ } }, 191, ⟨0, 0, 0, 0x0700000000000000, 0, 9, true, 65536, 3, 4, 0x0700000000000000, 0, false, [1, 2, 3]⟩, ⟨5⟩, ⟨2, 9, some (5, 0), none, some (4, 6)⟩, 5, 0, by decide +kernel⟩⟩

theorem test_meets_TimingEngineSends :
    (∃ (s : State) (p : Nat), p < 192 ∧ s.ttWorks p = true ∧ s.ttRole p = TtRole.MASTER ∧ s.ttHasId p = true ∧ s.gridDue p = true) ∧
    (∃ (s : State) (p : Nat), p < 192 ∧ s.ttWorks p = true ∧ s.ttHasId p = true ∧ (s.ttMech p = 1 ∨ s.ttRole p = TtRole.SLAVE)) ∧
    (∃ (s : State) (p : Nat) (f : TtFu) (r : List TtFu), p < 192 ∧ s.ttHasId p = true ∧ (s.ttEng p).fus = f :: r) ∧
    (∃ (s : State) (p dep : Nat) (o : TtOut) (r : List TtOut), p < 192 ∧ s.ttWorks p = true ∧ s.oper p = Oper.UP ∧ s.idling p = false ∧ (s.ttEng p).queue = o :: r ∧ s.ttFirst p = true) ∧
    (∃ (s : State) (p : Nat), p < 192 ∧ (s.ttEng p).sync ≠ none) ∧
    (∃ (s : State) (p : Nat), p < 192 ∧ (s.ttEng p).req ≠ none) ∧
    (∃ (s : State) (p : Nat), p < 192) :=
  ⟨⟨{ st [(F.DEV_MODE.CUR, 5), (F.DEV_MODE.TRANS, 0), (F.LN_CFG.MODE 191, 1), (F.LN_CFG.PORT 191, 191), (F.PRT_STATE.OPER 191, 3), (F.PRT_STATE.ADMIN 191, 1), (F.PRT_TT_CFG.ROLE 191, 1), (F.PRT_TT_CFG.MECH 191, 0), (F.PRT_TT_ID_0.CLKID_0 191, 7)] with tt := SMap.empty.put 191 { TtEng.fresh with next := SMap.empty.put 0 65535 } }, 191, by decide +kernel⟩,
    ⟨{ st [(F.DEV_MODE.CUR, 5), (F.DEV_MODE.TRANS, 0), (F.LN_CFG.MODE 191, 1), (F.LN_CFG.PORT 191, 191), (F.PRT_STATE.OPER 191, 3), (F.PRT_STATE.ADMIN 191, 1), (F.PRT_TT_CFG.ROLE 191, 2), (F.PRT_TT_CFG.MECH 191, 0), (F.PRT_TT_ID_0.CLKID_0 191, 7)] with tt := SMap.empty.put 191 { TtEng.fresh with req := some ⟨1, 9, none, none, none⟩ } }, 191, by decide +kernel⟩,
    ⟨{ st [(F.DEV_MODE.CUR, 5), (F.DEV_MODE.TRANS, 0), (F.LN_CFG.MODE 191, 1), (F.LN_CFG.PORT 191, 191), (F.PRT_STATE.OPER 191, 3), (F.PRT_STATE.ADMIN 191, 1), (F.PRT_TT_CFG.ROLE 191, 1), (F.PRT_TT_CFG.MECH 191, 0), (F.PRT_TT_ID_0.CLKID_0 191, 7)] with tt := SMap.empty.put 191 { TtEng.fresh with fus := [⟨0, 4, 0, 0, 8⟩] } }, 191, ⟨0, 4, 0, 0, 8⟩, [], by decide +kernel⟩,
    ⟨{ st [(F.DEV_MODE.CUR, 5), (F.DEV_MODE.TRANS, 0), (F.LN_CFG.MODE 191, 1), (F.LN_CFG.PORT 191, 191), (F.PRT_STATE.OPER 191, 3), (F.PRT_STATE.ADMIN 191, 1), (F.PRT_TT_CFG.ROLE 191, 1), (F.PRT_TT_CFG.MECH 191, 0), (F.PRT_TT_ID_0.CLKID_0 191, 7)] with tt := SMap.empty.put 191 { TtEng.fresh with queue := [⟨8, 4, 0, 0, [1]⟩] } }, 191, 3, ⟨8, 4, 0, 0, [1]⟩, [], by decide +kernel⟩,
    ⟨{ st [(F.DEV_MODE.CUR, 5), (F.DEV_MODE.TRANS, 0), (F.LN_CFG.MODE 191, 1), (F.LN_CFG.PORT 191, 191), (F.PRT_STATE.OPER 191, 3), (F.PRT_STATE.ADMIN 191, 1)] with tt := SMap.empty.put 191 { TtEng.fresh with sync := some ⟨0, 0, 9, 77, 5, 0⟩ } }, 191, by decide +kernel⟩,
    ⟨{ st [(F.DEV_MODE.CUR, 5), (F.DEV_MODE.TRANS, 0), (F.LN_CFG.MODE 191, 1), (F.LN_CFG.PORT 191, 191), (F.PRT_STATE.OPER 191, 3), (F.PRT_STATE.ADMIN 191, 1)] with tt := SMap.empty.put 191 { TtEng.fresh with req := some ⟨1, 9, none, none, none⟩ } }, 191, by decide +kernel⟩,
    ⟨st [(F.DEV_MODE.CUR, 5), (F.DEV_MODE.TRANS, 0), (F.LN_CFG.MODE 191, 1), (F.LN_CFG.PORT 191, 191), (F.PRT_STATE.OPER 191, 3), (F.PRT_STATE.ADMIN 191, 1)], 191, by decide +kernel⟩⟩

theorem test_meets_WindowsHostMessagesAndRoles :
    (∃ (s : State) (p : Nat), p < 192 ∧ s.ttWorks p = true ∧ s.isTrunk p = true ∧ s.ttRole p = TtRole.SLAVE) ∧
    (∃ (s : State) (p : Nat) (frame : List Byte) (ts : LineStamp), p < 192 ∧ s.receives p = true ∧ (s.passCells p frame.length).2 = true) ∧
    (∃ (s : State) (p : Nat) (rx : Bool) (v : BitVec 32), p < 192 ∧ s.hostOpen ∧ s.portUsed p = true ∧ s.isMutable 16 = true) ∧
    (∃ (s : State) (p : Nat) (v : BitVec 32), p < 192 ∧ s.hostOpen ∧ s.portUsed p = true ∧ s.isMutable 15 = true ∧ v.toNat % 4 = s.ttRole p ∧ v.toNat < 2 ^ 24 ∧ -7 ≤ log4 (v.toNat / 2 ^ 4) ∧ log4 (v.toNat / 2 ^ 4) ≤ 0 ∧ -7 ≤ log4 (v.toNat / 2 ^ 8) ∧ log4 (v.toNat / 2 ^ 8) ≤ 4 ∧ v.toNat % 4 ≠ TtRole.SLAVE) ∧
    (∃ (s : State) (p : Nat) (v : BitVec 32), p < 192 ∧ s.hostOpen ∧ s.portUsed p = true ∧ s.isMutable 15 = true ∧ s.ttRole p ≠ TtRole.SLAVE ∧ v.toNat % 4 = TtRole.SLAVE ∧ s.fld (F.KT_OFS_CREDIT.RECALLED (s.portDomain p)) = 1 ∧ s.fld (F.KT_OFS_CREDIT.ENGINE (s.portDomain p)) = 0 ∧ s.otherSlave p = false ∧ s.isDerived (s.portDomain p) = false ∧ v.toNat < 2 ^ 24 ∧ -7 ≤ log4 (v.toNat / 2 ^ 4) ∧ log4 (v.toNat / 2 ^ 4) ≤ 0 ∧ -7 ≤ log4 (v.toNat / 2 ^ 8) ∧ log4 (v.toNat / 2 ^ 8) ≤ 4) :=
  ⟨⟨{ st [(F.DEV_MODE.CUR, 5), (F.DEV_MODE.TRANS, 0), (F.LN_CFG.MODE 191, 1), (F.LN_CFG.PORT 191, 191), (F.PRT_STATE.OPER 191, 3), (F.PRT_STATE.ADMIN 191, 1), (F.PRT_TT_CFG.ROLE 191, 2), (F.PRT_TT_CFG.MECH 191, 0), (F.PRT_TT_ID_0.CLKID_0 191, 7), (F.LN_CFG.MODE 191, 5)] with tt := SMap.empty.put 191 { TtEng.fresh with win := ⟨640, 64, 0, 0, 0, false⟩ } }, 191, by decide +kernel⟩,
    ⟨{ st [(F.DEV_MODE.CUR, 5), (F.DEV_MODE.TRANS, 0), (F.LN_CFG.MODE 191, 1), (F.LN_CFG.PORT 191, 191), (F.PRT_STATE.OPER 191, 3), (F.PRT_STATE.ADMIN 191, 1), (F.DEV_HRX_CTRL.EN, 1), (F.DEV_HRX_COUNT.N, 4), (F.DEV_HRX_HEAD.IDX, 3), (F.DEV_HRX_TAIL.IDX, 2)] with pcie := ⟨true, true, false, false⟩ }, 191, List.replicate 481 7, ⟨0⟩, by decide +kernel⟩,
    ⟨st [(F.DEV_MODE.CUR, 5), (F.DEV_MODE.TRANS, 0), (F.LN_CFG.MODE 191, 1), (F.LN_CFG.PORT 191, 191), (F.PRT_STATE.OPER 191, 3), (F.PRT_STATE.ADMIN 191, 1), (F.IMG_MUT_MASK.MASK, 0x10000), (F.PRT_TT_STATUS.NHIST 191, 3)], 191, true, 0x80000000, by decide +kernel⟩,
    ⟨st [(F.DEV_MODE.CUR, 5), (F.DEV_MODE.TRANS, 0), (F.LN_CFG.MODE 191, 1), (F.LN_CFG.PORT 191, 191), (F.PRT_STATE.OPER 191, 3), (F.PRT_STATE.ADMIN 191, 1), (F.PRT_TT_CFG.ROLE 191, 1), (F.PRT_TT_CFG.MECH 191, 0), (F.PRT_TT_ID_0.CLKID_0 191, 7), (F.IMG_MUT_MASK.MASK, 0x8000)], 191, 0x491, by decide +kernel⟩,
    ⟨st [(F.DEV_MODE.CUR, 5), (F.DEV_MODE.TRANS, 0), (F.LN_CFG.MODE 191, 1), (F.LN_CFG.PORT 191, 191), (F.PRT_STATE.OPER 191, 3), (F.PRT_STATE.ADMIN 191, 1), (F.IMG_MUT_MASK.MASK, 0x8000), (F.KT_OFS_CREDIT.RECALLED 0, 1)], 191, 0x492, by decide +kernel⟩⟩

theorem test_meets_StampQueuesMoveCreditsAndStamps :
    (∃ (s : State) (n : Nat) (v : BitVec 32), n < 229 ∧ s.hostOpen ∧ (s.noQueue n).1 = false ∧ (s.isMutable (if n < 192 then 15 else 12) = true) ∧ s.fld (F.PH_SQ_CFG.CONS n) ≠ 2 ∧ v.toNat < 256 ∧ v.toNat % 4 < 2 ∧ (192 ≤ n → v.toNat / 4 % 4 = 0) ∧ (n < 192 → v.toNat / 4 % 4 = 1 ∨ v.toNat / 4 % 4 = 2)) ∧
    (∃ (s : State) (n k : Nat) (bar2 : Bool), hasQueue n = true ∧ s.hostOpen ∧ s.shown n = true ∧ (bar2 = true → s.sqUser n = true) ∧ s.fld (F.PH_SQ_CFG.CONS n) = 1 ∧ 0 < k ∧ k ≤ 64 ∧ k ≤ s.fld (F.PH_SQ_CREDIT.HOST n) ∧ s.fld (F.PH_SQ_CREDIT.PROD n) + k ≤ 64) ∧
    (∃ (s : State) (n : Nat) (bar2 : Bool), hasQueue n = true ∧ s.hostOpen ∧ s.shown n = true ∧ (bar2 = true → s.sqUser n = true) ∧ s.fld (F.PH_SQ_CFG.CONS n) ≠ 2 ∧ s.fld (F.PH_SQ_CREDIT.HOST n) + s.fld (F.PH_SQ_CREDIT.PROD n) ≤ 64) ∧
    (∃ (s : State) (n e : Nat) (r : List Nat) (bar2 : Bool), hasQueue n = true ∧ s.hostOpen ∧ (bar2 = true → s.sqUser n = true) ∧ s.fld (F.PH_SQ_CFG.CONS n) = 1 ∧ (s.chan n).queue = e :: r) ∧
    (∃ (s : State) (n ui tap : Nat) (tx : Bool), n < 192 ∧ s.measures n = true ∧ (s.chan n).lin ≠ [] ∧ Mode.STEEP ≤ s.mode) :=
  ⟨⟨{ st [(F.DEV_MODE.CUR, 5), (F.DEV_MODE.TRANS, 0), (F.IMG_MUT_MASK.MASK, 0x1000)] with phase := { Phase.fresh with ch := SMap.empty.put 227 { PhChan.fresh with queue := [7, 8] } } }, 227, 0x11, by decide +kernel⟩,
    ⟨st [(F.DEV_MODE.CUR, 5), (F.DEV_MODE.TRANS, 0), (F.PH_SQ_CFG.CONS 227, 1), (F.PH_SQ_CREDIT.HOST 227, 64), (F.PH_SQ_USER.USER 7, 8)], 227, 64, true, by decide +kernel⟩,
    ⟨st [(F.DEV_MODE.CUR, 5), (F.DEV_MODE.TRANS, 0), (F.PH_SQ_CFG.CONS 227, 1), (F.PH_SQ_CREDIT.HOST 227, 60), (F.PH_SQ_CREDIT.PROD 227, 4)], 227, false, by decide +kernel⟩,
    ⟨{ st [(F.DEV_MODE.CUR, 5), (F.DEV_MODE.TRANS, 0), (F.PH_SQ_CFG.CONS 227, 1), (F.PH_SQ_CREDIT.HOST 227, 63)] with phase := { Phase.fresh with ch := SMap.empty.put 227 { PhChan.fresh with queue := [2 ^ 127 + 5, 8] } } }, 227, 2 ^ 127 + 5, [8], false, by decide +kernel⟩,
    ⟨{ st [(F.DEV_MODE.CUR, 5), (F.DEV_MODE.TRANS, 0), (F.LN_CFG.MODE 191, 1), (F.LN_STATUS.LOCK 191, 1), (F.DEV_SLC_STATE.POWERED, 15)] with phase := { Phase.fresh with ch := SMap.empty.put 191 { PhChan.fresh with lin := [1] } } }, 191, 64, 9, false, by decide +kernel⟩⟩

theorem test_meets_RotationKeepsChannelsCalibrated :
    (∃ (s : State) (n : Nat) (h1 h2 : List Nat), n < 229 ∧ s.mode = Mode.STEEP ∧ s.shown n = true ∧ inlHigh (linInl h1 h2) = true) ∧
    (∃ (s : State) (n : Nat) (h1 h2 : List Nat), n < 229 ∧ s.mode = Mode.STEEP ∧ s.shown n = true ∧ inlHigh (linInl h1 h2) = false) ∧
    (∃ (s : State) (g : Nat), g < 5 ∧ s.rotates = true ∧ s.fld (F.PH_ROT_STATUS.HELD g) = 0 ∧ (s.rot g).retry = false ∧ s.fld (F.PH_ROT_STATUS.STATE g) = 0 ∧ (∀ n < (228 : Nat), s.chanBad n = false)) ∧
    (∃ (s : State) (g u : Nat) (d : Int), g < 5 ∧ (s.rot g).cur = some u ∧ s.fld (F.PH_ROT_STATUS.STATE g) = 1 ∧ d.natAbs ≤ 40 ∧ u < 256) ∧
    (∃ (s : State) (g u : Nat) (d : Int), g < 5 ∧ (s.rot g).cur = some u ∧ s.fld (F.PH_ROT_STATUS.STATE g) = 1 ∧ 40 < d.natAbs) ∧
    (∃ (s : State) (g u : Nat) (d : Int), g < 5 ∧ (s.rot g).cur = some u ∧ s.fld (F.PH_ROT_STATUS.STATE g) = 3 ∧ d.natAbs ≤ 40) ∧
    (∃ (s : State) (g u : Nat) (d : Int), g < 5 ∧ (s.rot g).cur = some u ∧ s.fld (F.PH_ROT_STATUS.STATE g) = 3 ∧ 40 < d.natAbs ∧ (s.chan u).fails = 0) ∧
    (∃ (s : State) (n dll : Nat), n < 229 ∧ s.shown n = true ∧ Mode.STEEP ≤ s.mode) ∧
    (∃ (s : State) (i : Nat) (skew : BitVec 32), i < 4 ∧ s.skewDue i = true) ∧
    (∃ (s : State) (n : Nat), n < 229 ∧ s.hostOpen ∧ s.rotates = true ∧ s.fld (F.PH_ROT_STATUS.HELD (phGroup n)) = 0 ∧ (s.rot (phGroup n)).cur ≠ some n ∧ (s.rot (phGroup n)).req = none) :=
  ⟨⟨st [(F.DEV_MODE.CUR, 3), (F.DEV_MODE.TRANS, 0)], 228, 5 :: List.replicate 255 0, List.replicate 256 2048, by decide +kernel⟩,
    ⟨st [(F.DEV_MODE.CUR, 3), (F.DEV_MODE.TRANS, 0)], 192, List.replicate 256 2048, List.replicate 256 2048, by decide +kernel⟩,
    ⟨{ st [(F.DEV_MODE.CUR, 5), (F.DEV_MODE.TRANS, 0)] with phase := { Phase.fresh with rot := SMap.empty.put 4 { PhRot.fresh with next := 64 } } }, 4, by decide +kernel⟩,
    ⟨{ st [(F.DEV_MODE.CUR, 5), (F.DEV_MODE.TRANS, 0), (F.PH_ROT_STATUS.STATE 4, 1)] with phase := { Phase.fresh with rot := SMap.empty.put 4 { PhRot.fresh with cur := some 227 } } }, 4, 227, -40, by decide +kernel⟩,
    ⟨{ st [(F.DEV_MODE.CUR, 5), (F.DEV_MODE.TRANS, 0), (F.PH_ROT_STATUS.STATE 4, 1)] with phase := { Phase.fresh with rot := SMap.empty.put 4 { PhRot.fresh with cur := some 227 } } }, 4, 227, 41, by decide +kernel⟩,
    ⟨{ st [(F.DEV_MODE.CUR, 5), (F.DEV_MODE.TRANS, 0), (F.PH_ROT_STATUS.STATE 4, 3)] with phase := { Phase.fresh with rot := SMap.empty.put 4 { PhRot.fresh with cur := some 227 } } }, 4, 227, 40, by decide +kernel⟩,
    ⟨{ st [(F.DEV_MODE.CUR, 5), (F.DEV_MODE.TRANS, 0), (F.PH_ROT_STATUS.STATE 4, 3)] with phase := { Phase.fresh with rot := SMap.empty.put 4 { PhRot.fresh with cur := some 227 } } }, 4, 227, -41, by decide +kernel⟩,
    ⟨st [(F.DEV_MODE.CUR, 5), (F.DEV_MODE.TRANS, 0)], 228, 1024, by decide +kernel⟩,
    ⟨st [(F.DEV_MODE.CUR, 5), (F.DEV_MODE.TRANS, 0), (F.DEV_SLC_STATE.POWERED, 8), (F.PH_ROT_STATUS.HELD 3, 1)], 3, 0x80000000, by decide +kernel⟩,
    ⟨st [(F.DEV_MODE.CUR, 6), (F.DEV_MODE.TRANS, 0)], 228, by decide +kernel⟩⟩

theorem test_meets_EventInputsAndRegressions :
    (∃ (s : State) (n tap : Nat) (level : Bool), n < 32 ∧ tap < 256 ∧ s.evtStamps n = true ∧ s.fldBit F.PIN_EVT_LEVEL.LEVEL n ≠ level ∧ (s.chan (196 + n)).pend = none ∧ s.fld (F.PIN_EVT_CFG.GLITCH_NS n) ≠ 0) ∧
    (∃ (s : State) (n tap : Nat) (level : Bool), n < 32 ∧ tap < 256 ∧ s.evtStamps n = true ∧ s.fldBit F.PIN_EVT_LEVEL.LEVEL n ≠ level ∧ (s.chan (196 + n)).pend = none ∧ s.fld (F.PIN_EVT_CFG.GLITCH_NS n) = 0) ∧
    (∃ (s : State) (n tap : Nat) (level : Bool), n < 32 ∧ tap < 256 ∧ s.evtStamps n = true ∧ s.fldBit F.PIN_EVT_LEVEL.LEVEL n = level ∧ (s.chan (196 + n)).pend ≠ none) ∧
    (∃ (s : State) (n : Nat) (q : PhPend), n < 32 ∧ (s.chan (196 + n)).pend = some q) ∧
    (∃ (s : State) (e : Nat) (v : BitVec 32), e < 5 ∧ s.hostOpen ∧ Mode.STEEP ≤ s.mode ∧ s.fld (F.PH_FM_STATUS.RUN e) = 0 ∧ v.toNat / 2 ^ 9 % 2 ^ 7 = 0 ∧ bitAt v.toNat 30 = false ∧ (if e < 4 then 48 * e ≤ v.toNat % 256 ∧ v.toNat % 256 < 48 * e + 48 else 196 ≤ v.toNat % 256 ∧ v.toNat % 256 < 228 ∧ bitAt v.toNat 8 = false ∧ 0 < s.fld (F.PH_FM_NOM.NS e) ∧ s.fld (F.PH_FM_NOM.NS e) ≤ 4000000000) ∧ 0 < v.toNat / 2 ^ 16 % 2 ^ 14 ∧ v.toNat / 2 ^ 16 % 2 ^ 14 ≤ 10000) ∧
    (∃ (s : State) (e : Nat) (r : PhFm), e < 5 ∧ s.phase.fm.get? e = some r ∧ s.fmInGate r (s.cycle + 1) = false ∧ r.samples.length < 2 ^ 32) :=
  ⟨⟨st [(F.DEV_MODE.CUR, 5), (F.DEV_MODE.TRANS, 0), (F.PIN_EVT_CFG.FUNC 31, 1), (F.PH_CH_STATUS.LIN 227, 1), (F.PIN_EVT_CFG.GLITCH_NS 31, 100)], 31, 255, true, by decide +kernel⟩,
    ⟨st [(F.DEV_MODE.CUR, 5), (F.DEV_MODE.TRANS, 0), (F.PIN_EVT_CFG.FUNC 31, 1), (F.PH_CH_STATUS.LIN 227, 1), (F.PH_SQ_CFG.CONS 227, 1), (F.PH_SQ_CREDIT.PROD 227, 1)], 31, 255, true, by decide +kernel⟩,
    ⟨{ st [(F.DEV_MODE.CUR, 5), (F.DEV_MODE.TRANS, 0), (F.PIN_EVT_CFG.FUNC 31, 1), (F.PH_CH_STATUS.LIN 227, 1)] with phase := { Phase.fresh with ch := SMap.empty.put 227 { PhChan.fresh with pend := some ⟨5, 0, true, 0, 0, false, false⟩ } } }, 31, 255, false, by decide +kernel⟩,
    ⟨{ st [(F.DEV_MODE.CUR, 5), (F.DEV_MODE.TRANS, 0), (F.PIN_EVT_CFG.FUNC 31, 1), (F.PH_CH_STATUS.LIN 227, 1)] with phase := { Phase.fresh with ch := SMap.empty.put 227 { PhChan.fresh with pend := some ⟨5, 0, true, 0, 0, false, false⟩ } } }, 31, ⟨5, 0, true, 0, 0, false, false⟩, by decide +kernel⟩,
    ⟨st [(F.DEV_MODE.CUR, 5), (F.DEV_MODE.TRANS, 0), (F.PH_FM_NOM.NS 4, 4000000000)], 4, BitVec.ofNat 32 (227 + 10000 * 2 ^ 16), by decide +kernel⟩,
    ⟨{ st [(F.DEV_MODE.CUR, 5), (F.DEV_MODE.TRANS, 0), (F.PH_FM_STATUS.RUN 4, 1)] with phase := { Phase.fresh with fm := SMap.empty.put 4 ⟨227, 0, 0, 0, 0, 0, false, 0, [(1, 5)]⟩ } }, 4, ⟨227, 0, 0, 0, 0, 0, false, 0, [(1, 5)]⟩, by decide +kernel⟩⟩

theorem test_meets_PulseAndClockOutputsRun :
    (∃ (s : State) (n : Nat), n < 32 ∧ s.hostOpen ∧ s.plsFunc n = true ∧ (s.mode = Mode.BREEZE ∨ s.mode = Mode.GALE ∨ s.mode = Mode.CALM) ∧ s.plsBusy n = false ∧ s.phase.plsEnd.getD n 0 ≠ s.cycle + 1 ∧ s.fld (F.PIN_PLS_CFG.MODE n) = 1 ∧ s.plsWidth n ≠ 0 ∧ 128 * 2 ^ 16 ≤ diff48 (s.fld (F.PIN_PLS_START_NS.NS32 n) * 2 ^ 16 + s.fld (F.PIN_PLS_START_FRAC.FRAC n)) (ns48 (s.now16 (s.fld (F.PIN_PLS_STATUS.DOMAIN n)))) ∧ diff48 (s.fld (F.PIN_PLS_START_NS.NS32 n) * 2 ^ 16 + s.fld (F.PIN_PLS_START_FRAC.FRAC n)) (ns48 (s.now16 (s.fld (F.PIN_PLS_STATUS.DOMAIN n)))) ≤ 2000000000 * 2 ^ 16) ∧
    (∃ (s : State) (n k : Nat) (q : PlsProg) (e : Time16) (a : Rat), n < 32 ∧ s.phase.pls.get? n = some q ∧ s.plsNext n q = some (k, e) ∧ s.plsAhead n e (s.plsFine n q) = a ∧ s.plsDue n a = true ∧ s.overlapLag (s.fld (F.PIN_PLS_STATUS.DOMAIN n)) = none ∧ q.high = false) ∧
    (∃ (s : State) (n k : Nat) (q : PlsProg) (e : Time16) (a : Rat), n < 32 ∧ s.phase.pls.get? n = some q ∧ s.plsNext n q = some (k, e) ∧ s.plsAhead n e (s.plsFine n q) = a ∧ s.plsDue n a = true ∧ s.overlapLag (s.fld (F.PIN_PLS_STATUS.DOMAIN n)) = none ∧ q.high = true ∧ (q.stop = true ∨ s.fld (F.PIN_PLS_CFG.MODE n) = 1)) ∧
    (∃ (s : State) (n k : Nat) (q : PlsProg) (e : Time16) (a : Rat), n < 32 ∧ s.phase.pls.get? n = some q ∧ s.plsNext n q = some (k, e) ∧ s.plsAhead n e (s.plsFine n q) = a ∧ s.plsDue n a = true ∧ s.overlapLag (s.fld (F.PIN_PLS_STATUS.DOMAIN n)) = none ∧ q.high = true ∧ q.stop = false ∧ s.fld (F.PIN_PLS_CFG.MODE n) ≠ 1) ∧
    (∃ (s : State) (n : Nat) (q : PlsProg), n < 32 ∧ s.phase.pls.get? n = some q ∧ s.plsNext n q = none ∧ s.fld (F.PIN_PLS_CFG.COUNT n) ≠ 0 ∧ s.plsDue n (s.leadAhead n (s.plsSlotAt n q (s.fld (F.PIN_PLS_CFG.COUNT n)))) = true) ∧
    (∃ (s : State) (n : Nat) (q : PlsProg), n < 32 ∧ s.hostOpen ∧ s.plsFunc n = true ∧ s.phase.pls.get? n = some q) ∧
    (∃ (s : State) (k : Nat), k < 8 ∧ s.hostOpen ∧ s.clkFunc k = true ∧ s.isMutable 14 = true ∧ s.fld (F.PIN_CLK_CTRL.EN k) = 0) ∧
    (∃ (s : State) (k : Nat), k < 8 ∧ s.hostOpen ∧ s.clkFunc k = true ∧ s.isMutable 14 = true ∧ s.fld (F.PIN_CLK_CTRL.EN k) = 1) ∧
    (∃ (s : State) (k : Nat) (hz : BitVec 32), k < 8 ∧ s.hostOpen ∧ s.clkFunc k = true ∧ s.isMutable 14 = true ∧ 1000 ≤ hz.toNat ∧ hz.toNat ≤ 350000000) ∧
    (∃ (s : State) (k : Nat), k < 8 ∧ s.clkFunc k = true ∧ Mode.STEEP ≤ s.mode) ∧
    (∃ (s : State) (k : Nat), k < 8 ∧ s.clkFunc k = true) ∧
    (∃ (s : State) (k : Nat), k < 8 ∧ s.clkFunc k = true) :=
  ⟨⟨st [(F.DEV_MODE.CUR, 5), (F.DEV_MODE.TRANS, 0), (F.PIN_PLS_STATUS.FUNC 31, 1), (F.PIN_PLS_CFG.MODE 31, 1), (F.PIN_PLS_WIDTH.NS 31, 1), (F.PIN_PLS_START_NS.NS32 31, 128)], 31, by decide +kernel⟩,
    ⟨{ st [(F.DEV_MODE.CUR, 5), (F.DEV_MODE.TRANS, 0), (F.PIN_PLS_STATUS.FUNC 31, 1), (F.PIN_PLS_STATUS.STATE 31, 2), (F.PIN_PLS_CFG.MODE 31, 1), (F.PIN_PLS_WIDTH.NS 31, 2), (F.PIN_PLS_PERIOD_NS.NS 31, 10), (F.PIN_PLS_FINE.TAPS 31, 0xFF)] with phase := { Phase.fresh with pls := SMap.empty.put 31 ⟨5, 0, false, false, 0, []⟩ }, kettle := { Kettle.fresh with ch := SMap.empty.put 0 ⟨0, incNom, 0, []⟩ } }, 31, 0, ⟨5, 0, false, false, 0, []⟩, 5, 5 * 2 ^ 32 + 1024 * 2 ^ 32 / 5, by decide +kernel⟩,
    ⟨{ st [(F.DEV_MODE.CUR, 5), (F.DEV_MODE.TRANS, 0), (F.PIN_PLS_STATUS.FUNC 31, 1), (F.PIN_PLS_STATUS.STATE 31, 2), (F.PIN_PLS_CFG.MODE 31, 1), (F.PIN_PLS_WIDTH.NS 31, 2), (F.PIN_PLS_PERIOD_NS.NS 31, 10), (F.PIN_PLS_FINE.TAPS 31, 0xFF)] with phase := { Phase.fresh with pls := SMap.empty.put 31 ⟨t16Mod - 131072, 0, true, false, -1, [0, 205]⟩ }, kettle := { Kettle.fresh with ch := SMap.empty.put 0 ⟨0, incNom, 0, []⟩ } }, 31, 0, ⟨t16Mod - 131072, 0, true, false, -1, [0, 205]⟩, 0, 1024 * 2 ^ 32 / 5, by decide +kernel⟩,
    ⟨{ st [(F.DEV_MODE.CUR, 5), (F.DEV_MODE.TRANS, 0), (F.PIN_PLS_STATUS.FUNC 31, 1), (F.PIN_PLS_STATUS.STATE 31, 2), (F.PIN_PLS_CFG.MODE 31, 2), (F.PIN_PLS_WIDTH.NS 31, 2), (F.PIN_PLS_PERIOD_NS.NS 31, 10), (F.PIN_PLS_FINE.TAPS 31, 0xFF)] with phase := { Phase.fresh with pls := SMap.empty.put 31 ⟨t16Mod - 131072, 0, true, false, -1, [0, 205]⟩ }, kettle := { Kettle.fresh with ch := SMap.empty.put 0 ⟨0, incNom, 0, []⟩ } }, 31, 0, ⟨t16Mod - 131072, 0, true, false, -1, [0, 205]⟩, 0, 1024 * 2 ^ 32 / 5, by decide +kernel⟩,
    ⟨{ st [(F.DEV_MODE.CUR, 5), (F.DEV_MODE.TRANS, 0), (F.PIN_PLS_STATUS.FUNC 31, 1), (F.PIN_PLS_STATUS.STATE 31, 2), (F.PIN_PLS_CFG.MODE 31, 2), (F.PIN_PLS_WIDTH.NS 31, 2), (F.PIN_PLS_PERIOD_NS.NS 31, 10), (F.PIN_PLS_FINE.TAPS 31, 0xFF), (F.PIN_PLS_CFG.COUNT 31, 1)] with phase := { Phase.fresh with pls := SMap.empty.put 31 ⟨t16Mod - 655360, 1, false, false, 0, []⟩ }, kettle := { Kettle.fresh with ch := SMap.empty.put 0 ⟨0, incNom, 0, []⟩ } }, 31, ⟨t16Mod - 655360, 1, false, false, 0, []⟩, by decide +kernel⟩,
    ⟨{ st [(F.DEV_MODE.CUR, 5), (F.DEV_MODE.TRANS, 0), (F.PIN_PLS_STATUS.FUNC 31, 1), (F.PIN_PLS_STATUS.STATE 31, 2)] with phase := { Phase.fresh with pls := SMap.empty.put 31 ⟨2 ^ 40, 0, false, false, -1, []⟩ } }, 31, ⟨2 ^ 40, 0, false, false, -1, []⟩, by decide +kernel⟩,
    ⟨st [(F.DEV_MODE.CUR, 5), (F.DEV_MODE.TRANS, 0), (F.PIN_CLK_STATUS.FUNC 7, 1), (F.PIN_CLK_CTRL.EN 7, 0), (F.IMG_MUT_MASK.MASK, 0x4000)], 7, by decide +kernel⟩,
    ⟨st [(F.DEV_MODE.CUR, 5), (F.DEV_MODE.TRANS, 0), (F.PIN_CLK_STATUS.FUNC 7, 1), (F.PIN_CLK_CTRL.EN 7, 1), (F.IMG_MUT_MASK.MASK, 0x4000)], 7, by decide +kernel⟩,
    ⟨st [(F.DEV_MODE.CUR, 5), (F.DEV_MODE.TRANS, 0), (F.PIN_CLK_STATUS.FUNC 7, 1), (F.PIN_CLK_CTRL.EN 7, 1), (F.IMG_MUT_MASK.MASK, 0x4000)], 7, 350000000, by decide +kernel⟩,
    ⟨st [(F.DEV_MODE.CUR, 5), (F.DEV_MODE.TRANS, 0), (F.PIN_CLK_STATUS.FUNC 7, 1), (F.PIN_CLK_CTRL.EN 7, 1)], 7, by decide +kernel⟩,
    ⟨st [(F.DEV_MODE.CUR, 5), (F.DEV_MODE.TRANS, 0), (F.PIN_CLK_STATUS.FUNC 7, 1)], 7, by decide +kernel⟩,
    ⟨st [(F.DEV_MODE.CUR, 5), (F.DEV_MODE.TRANS, 0), (F.PIN_CLK_STATUS.FUNC 7, 1)], 7, by decide +kernel⟩⟩

theorem test_meets_CandidatesAndQualityLevelsFollowTheirTables :
    (∃ (s : State) (i : Nat), i < 11 ∧ s.candUsed i = true ∧ s.vane.started = true ∧ s.candHolds i ≠ some true ∧ s.candActive i = true) ∧
    (∃ (s : State) (i : Nat), i < 11 ∧ s.candUsed i = true ∧ s.vane.started = true ∧ s.candHolds i ≠ some false) ∧
    (∃ (s : State) (i v : Nat) (y : Int), i < 11 ∧ s.candUsed i = true ∧ s.vane.started = true ∧ s.windowFull i = true ∧ s.candOffset i v = y ∧ s.vane.restored.get? i ≠ some s.cycle ∧ y.natAbs ≤ s.fld F.VN_CFG.REJECT_PPB) ∧
    (∃ (s : State) (i v : Nat) (y : Int), i < 11 ∧ s.candUsed i = true ∧ s.vane.started = true ∧ s.windowFull i = true ∧ s.candOffset i v = y ∧ s.vane.restored.get? i ≠ some s.cycle ∧ s.fld F.VN_CFG.ACCEPT_PPB < y.natAbs ∧ s.fld F.VN_CFG.REJECT_PPB < y.natAbs) ∧
    (∃ (s : State) (i v : Nat) (y : Int), i < 11 ∧ s.candUsed i = true ∧ s.vane.started = true ∧ s.windowFull i = true ∧ s.candOffset i v = y ∧ s.vane.restored.get? i = some s.cycle ∧ s.candState i = 1 ∧ s.fld F.VN_CFG.ACCEPT_PPB < y.natAbs) ∧
    (∃ (s : State) (i v : Nat), i < 11 ∧ s.candUsed i = true ∧ s.vane.started = true ∧ s.windowFull i = false) ∧
    (∃ (s : State) (i : Nat), i < 11 ∧ s.candUsed i = true ∧ s.vane.started = true) ∧
    (∃ (s : State) (i : Nat), i < 11 ∧ s.candState i = 4 ∧ s.vane.wtr.getD i 0 = 0) ∧
    (∃ (s : State) (p i : Nat) (ssm : BitVec 8), p < 192 ∧ s.portUsed p = true ∧ s.vane.started = true ∧ s.oper p = Oper.UP ∧ i ∈ s.candsOfPort p) ∧
    (∃ (s : State) (i : Nat), i < 11 ∧ s.candUsed i = true ∧ s.candLane i = true ∧ s.vane.started = true) :=
  ⟨⟨{ st [(F.DEV_MODE.CUR, 5), (F.DEV_MODE.TRANS, 0), (F.VN_CAND_CFG.SOURCE 10, 200), (F.VN_CAND_STATUS.STATE 10, 1), (F.VN_CAND_STATUS.ACTIVE 10, 1), (F.VN_STATUS.STATE, 1), (F.VN_STATUS.SEL, 10), (F.VN_HO_WORD.WORD, 0x80000000), (F.VN_STATUS.HO_VALID, 1)] with vane := { Vane.fresh with started := true } }, 10, by decide +kernel⟩,
    ⟨{ st [(F.DEV_MODE.CUR, 5), (F.DEV_MODE.TRANS, 0), (F.VN_CAND_CFG.SOURCE 10, 192)] with vane := { Vane.fresh with started := true } }, 10, by decide +kernel⟩,
    ⟨{ st [(F.DEV_MODE.CUR, 5), (F.DEV_MODE.TRANS, 0), (F.VN_CAND_CFG.SOURCE 10, 192), (F.VN_CAND_CFG.FREQ 10, 0), (F.VN_CAND_STATUS.STATE 10, 3), (F.VN_CAND_STATUS.ACTIVE 10, 1), (F.VN_CFG.ACCEPT_PPB, 4600), (F.VN_CFG.REJECT_PPB, 12000)] with vane := { Vane.fresh with started := true }, cycle := 1250000000 }, 10, 655356985344, -4600, by decide +kernel⟩,
    ⟨{ st [(F.DEV_MODE.CUR, 5), (F.DEV_MODE.TRANS, 0), (F.VN_CAND_CFG.SOURCE 10, 192), (F.VN_CAND_CFG.FREQ 10, 0), (F.VN_CAND_STATUS.STATE 10, 2), (F.VN_CAND_STATUS.ACTIVE 10, 1), (F.VN_CFG.ACCEPT_PPB, 4600), (F.VN_CFG.REJECT_PPB, 12000)] with vane := { Vane.fresh with started := true }, cycle := 1250000000 }, 10, 655368192000, 12500, by decide +kernel⟩,
    ⟨{ st [(F.DEV_MODE.CUR, 5), (F.DEV_MODE.TRANS, 0), (F.VN_CAND_CFG.SOURCE 10, 192), (F.VN_CAND_CFG.FREQ 10, 0), (F.VN_CAND_STATUS.STATE 10, 1), (F.VN_CAND_STATUS.ACTIVE 10, 1), (F.VN_CFG.ACCEPT_PPB, 4600), (F.VN_CFG.REJECT_PPB, 12000)] with vane := { Vane.fresh with started := true, restored := SMap.empty.put 10 1250000000 }, cycle := 1250000000 }, 10, 655368192000, 12500, by decide +kernel⟩,
    ⟨{ st [(F.DEV_MODE.CUR, 5), (F.DEV_MODE.TRANS, 0), (F.VN_CAND_CFG.SOURCE 10, 192), (F.VN_CAND_STATUS.ACTIVE 10, 1)] with vane := { Vane.fresh with started := true }, cycle := 1249999999 }, 10, 5, by decide +kernel⟩,
    ⟨{ st [(F.DEV_MODE.CUR, 5), (F.DEV_MODE.TRANS, 0), (F.VN_CAND_CFG.SOURCE 10, 200)] with vane := { Vane.fresh with started := true } }, 10, by decide +kernel⟩,
    ⟨{ st [(F.DEV_MODE.CUR, 5), (F.DEV_MODE.TRANS, 0), (F.VN_CAND_CFG.SOURCE 10, 200), (F.VN_CAND_STATUS.STATE 10, 4)] with vane := { Vane.fresh with started := true } }, 10, by decide +kernel⟩,
    ⟨{ st [(F.DEV_MODE.CUR, 5), (F.DEV_MODE.TRANS, 0), (F.VN_CAND_CFG.SOURCE 10, 191), (F.VN_CAND_STATUS.STATE 10, 1), (F.PRT_STATE.OPER 191, 3), (F.LN_CFG.PORT 191, 191), (F.LN_CFG.MODE 191, 1)] with vane := { Vane.fresh with started := true } }, 191, 10, 0xA4, by decide +kernel⟩,
    ⟨{ st [(F.DEV_MODE.CUR, 5), (F.DEV_MODE.TRANS, 0), (F.VN_CAND_CFG.SOURCE 10, 191), (F.VN_CAND_STATUS.QL 10, 2)] with vane := { Vane.fresh with started := true } }, 10, by decide +kernel⟩⟩

theorem test_meets_DpllSelectsSwitchesAndHolds :
    (∃ (s : State) (b : Nat) (d : Int), s.vane.started = true ∧ s.bestCand = some b ∧ s.vnState = 1 ∧ s.fld F.VN_STATUS.SEL = b) ∧
    (∃ (s : State) (b : Nat) (d : Int), s.vane.started = true ∧ s.bestCand = some b ∧ s.vnState ≠ 3 ∧ (s.vnState = 1 → s.fld F.VN_STATUS.SEL ≠ b)) ∧
    (∃ (s : State) (b : Nat) (d : Int), s.vane.started = true ∧ s.bestCand = some b ∧ s.vnState = 3 ∧ s.vane.abandoned = false) ∧
    (∃ (s : State) (d : Int), s.vane.started = true ∧ s.bestCand = none ∧ s.vnState = 3 ∧ s.vane.abandoned = true) ∧
    (∃ (s : State) (d : Int), s.vane.started = true ∧ s.bestCand = none ∧ s.vnState ≠ 3) ∧
    (∃ (s : State), s.vane.started = true ∧ s.vnState = 3 ∧ s.vane.abandoned = false ∧ s.fld F.VN_PULL.REMAIN = 0 ∧ 10 ≤ s.vane.flat) ∧
    (∃ (s : State) (w : BitVec 32), s.vane.started = true ∧ s.vnState = 1) :=
  ⟨⟨{ st [(F.DEV_MODE.CUR, 5), (F.DEV_MODE.TRANS, 0), (F.VN_CAND_CFG.SOURCE 10, 200), (F.VN_CAND_STATUS.STATE 10, 2), (F.VN_CAND_STATUS.QL 10, 2), (F.VN_STATUS.STATE, 1), (F.VN_STATUS.SEL, 10)] with vane := { Vane.fresh with started := true } }, 10, 5, by decide +kernel⟩,
    ⟨{ st [(F.DEV_MODE.CUR, 5), (F.DEV_MODE.TRANS, 0), (F.VN_CAND_CFG.SOURCE 10, 200), (F.VN_CAND_STATUS.STATE 10, 2), (F.VN_CAND_STATUS.QL 10, 2)] with vane := { Vane.fresh with started := true } }, 10, -7, by decide +kernel⟩,
    ⟨{ st [(F.DEV_MODE.CUR, 5), (F.DEV_MODE.TRANS, 0), (F.VN_CAND_CFG.SOURCE 10, 200), (F.VN_CAND_STATUS.STATE 10, 2), (F.VN_CAND_STATUS.QL 10, 2), (F.VN_STATUS.STATE, 3), (F.VN_STATUS.TARGET, 10), (F.VN_PULL.REMAIN, 0x8000), (F.VN_CFG1.SLOPE, 20)] with vane := { Vane.fresh with started := true } }, 10, -7, by decide +kernel⟩,
    ⟨{ st [(F.DEV_MODE.CUR, 5), (F.DEV_MODE.TRANS, 0), (F.VN_STATUS.STATE, 3), (F.VN_STATUS.TARGET, 10)] with vane := { Vane.fresh with started := true, abandoned := true } }, 0, by decide +kernel⟩,
    ⟨{ st [(F.DEV_MODE.CUR, 5), (F.DEV_MODE.TRANS, 0), (F.VN_STATUS.STATE, 2), (F.VN_STATUS.PEND, 1)] with vane := { Vane.fresh with started := true } }, 0, by decide +kernel⟩,
    ⟨{ st [(F.DEV_MODE.CUR, 5), (F.DEV_MODE.TRANS, 0), (F.VN_STATUS.STATE, 3), (F.VN_STATUS.TARGET, 10)] with vane := { Vane.fresh with started := true, flat := 10 } }, by decide +kernel⟩,
    ⟨{ st [(F.DEV_MODE.CUR, 5), (F.DEV_MODE.TRANS, 0), (F.VN_STATUS.STATE, 1), (F.VN_STATUS.SEL, 10)] with vane := { Vane.fresh with started := true, recs := List.replicate 10 5 } }, 0x80000000, by decide +kernel⟩⟩

theorem test_meets_CaddyRingsTriggerFreezeAndRelease :
    (∃ (s : State) (n : Nat), n < 8 ∧ s.hostOpen ∧ s.ringState n = 2) ∧
    (∃ (s : State) (n : Nat), n < 8 ∧ s.hostOpen ∧ (s.ringState n = 3 ∨ s.ringState n = 4)) ∧
    (∃ (s : State) (n : Nat), n < 8 ∧ s.ringState n = 3 ∧ (s.ring n).post = 0) ∧
    (∃ (s : State) (n : Nat), n < 8 ∧ (s.mode = Mode.BREEZE ∨ s.mode = Mode.GALE ∨ s.mode = Mode.CALM) ∧ s.dev.softHold = false ∧ s.ringState n = 4 ∧ s.readingRing n = false ∧ s.replayOn n = false) :=
  ⟨⟨{ st [(F.DEV_MODE.CUR, 5), (F.DEV_MODE.TRANS, 0), (F.CD_RING_STATUS.STATE 7, 2), (F.CD_RING_POST.US 7, 100)] with caddy := { Caddy.fresh with rings := SMap.empty.put 7 { CdRing.fresh with rt := 50, chunks := [⟨5, 0, [⟨191, 3, false, 5, 0, 77, 9, [1, 2, 3], false, false⟩], false⟩] } } }, 7, by decide +kernel⟩,
    ⟨st [(F.DEV_MODE.CUR, 5), (F.DEV_MODE.TRANS, 0), (F.CD_RING_STATUS.STATE 7, 4)], 7, by decide +kernel⟩,
    ⟨{ st [(F.DEV_MODE.CUR, 5), (F.DEV_MODE.TRANS, 0), (F.CD_RING_STATUS.STATE 7, 3)] with caddy := { Caddy.fresh with rings := SMap.empty.put 7 { CdRing.fresh with rt := 50, prot := 5, chunks := ⟨4, 0, [], false⟩ :: [⟨5, 0, [⟨191, 3, false, 5, 0, 77, 9, [1, 2, 3], false, false⟩], false⟩] } } }, 7, by decide +kernel⟩,
    ⟨{ st [(F.DEV_MODE.CUR, 5), (F.DEV_MODE.TRANS, 0), (F.CD_RING_STATUS.STATE 7, 4), (F.CD_RING_STATUS.CUT 7, 1)] with caddy := { Caddy.fresh with rings := SMap.empty.put 7 { CdRing.fresh with chunks := [⟨5, 0, [⟨191, 3, false, 5, 0, 77, 9, [1, 2, 3], false, false⟩], false⟩] } } }, 7, by decide +kernel⟩⟩

theorem test_meets_CaddyWriterAndReadoutMoveRecords :
    (∃ (s : State) (sl n : Nat) (x : CdRecord), s.nextStaged = some (sl, n, x) ∧ n < 8 ∧ (s.ringState n = 2 ∨ (s.ringState n = 3 ∧ s.meetsProt n x = false))) ∧
    (∃ (s : State) (sl n : Nat) (x : CdRecord), s.nextStaged = some (sl, n, x) ∧ s.ringState n ≠ 2 ∧ s.ringState n ≠ 3 ∧ n < 8) ∧
    (∃ (s : State) (sl n : Nat) (x : CdRecord), s.nextStaged = some (sl, n, x) ∧ n < 8 ∧ s.ringState n = 3 ∧ s.meetsProt n x = true ∧ (s.unstage sl ((s.caddy.staging.getD sl []).drop 1)).stagedFor n = none) ∧
    (∃ (s : State), Mode.STEEP ≤ s.mode ∧ s.mode ≤ Mode.CALM ∧ s.mode ≠ Mode.OFF ∧ s.mode ≠ Mode.LULL ∧ s.dev.softHold = false ∧ s.fld F.CD_RD_RING.RING < 8 ∧ s.ringState (s.fld F.CD_RD_RING.RING) = 4 ∧ s.fld F.CD_RD_STATUS.STATE ≠ 1 ∧ s.fld F.CD_RD_FIRST.FIRST + s.fld F.CD_RD_COUNT.COUNT ≤ (s.ring (s.fld F.CD_RD_RING.RING)).chunks.length ∧ s.fld F.CD_RD_COUNT.COUNT ≠ 0) ∧
    (∃ (s : State), s.fld F.CD_RD_STATUS.STATE = 1 ∧ s.fld F.CD_RD_RING.RING < 8) ∧
    (∃ (s : State), s.hostOpen ∧ s.fld F.CD_RD_STATUS.STATE = 1 ∧ s.fld F.CD_RD_RING.RING < 8) :=
  ⟨⟨{ st [(F.DEV_MODE.CUR, 5), (F.DEV_MODE.TRANS, 0), (F.CD_RING_STATUS.STATE 7, 2), (F.CD_RING_CFG.CHUNKS 7, 16)] with caddy := { Caddy.fresh with staging := SMap.empty.put 3 [(7, ⟨191, 3, false, 5, 0, 77, 9, [1, 2, 3], false, false⟩)], rings := SMap.empty.put 7 { CdRing.fresh with rseq := 2 ^ 32 - 1, gap := true } } }, 3, 7, ⟨191, 3, false, 5, 0, 77, 9, [1, 2, 3], false, false⟩, by decide +kernel⟩,
    ⟨{ st [(F.DEV_MODE.CUR, 5), (F.DEV_MODE.TRANS, 0), (F.CD_RING_STATUS.STATE 7, 4)] with caddy := { Caddy.fresh with staging := SMap.empty.put 3 [(7, ⟨191, 3, false, 5, 0, 77, 9, [1, 2, 3], false, false⟩)] } }, 3, 7, ⟨191, 3, false, 5, 0, 77, 9, [1, 2, 3], false, false⟩, by decide +kernel⟩,
    ⟨{ st [(F.DEV_MODE.CUR, 5), (F.DEV_MODE.TRANS, 0), (F.CD_RING_STATUS.STATE 7, 3), (F.CD_RING_CFG.CHUNKS 7, 0)] with caddy := { Caddy.fresh with staging := SMap.empty.put 3 [(7, ⟨191, 3, false, 5, 0, 77, 9, [1, 2, 3], false, false⟩)], rings := SMap.empty.put 7 { CdRing.fresh with post := 1 } } }, 3, 7, ⟨191, 3, false, 5, 0, 77, 9, [1, 2, 3], false, false⟩, by decide +kernel⟩,
    ⟨{ st [(F.DEV_MODE.CUR, 5), (F.DEV_MODE.TRANS, 0), (F.CD_RD_RING.RING, 7), (F.CD_RD_COUNT.COUNT, 1), (F.CD_RING_STATUS.STATE 7, 4)] with caddy := { Caddy.fresh with rings := SMap.empty.put 7 { CdRing.fresh with chunks := [⟨5, 0, [⟨191, 3, false, 5, 0, 77, 9, [1, 2, 3], false, false⟩], false⟩] } } }, by decide +kernel⟩,
    ⟨{ st [(F.DEV_MODE.CUR, 5), (F.DEV_MODE.TRANS, 0), (F.CD_RD_RING.RING, 7), (F.CD_RD_COUNT.COUNT, 1), (F.CD_RD_STATUS.STATE, 1), (F.CD_RING_STATUS.READING 7, 1), (F.CD_RING_STATUS.STATE 7, 4)] with caddy := { Caddy.fresh with rings := SMap.empty.put 7 { CdRing.fresh with chunks := [⟨5, 0, [⟨191, 3, false, 5, 0, 77, 9, [1, 2, 3], false, false⟩], false⟩] } } }, by decide +kernel⟩,
    ⟨{ st [(F.DEV_MODE.CUR, 5), (F.DEV_MODE.TRANS, 0), (F.CD_RD_RING.RING, 7), (F.CD_RD_COUNT.COUNT, 1), (F.CD_RD_STATUS.STATE, 1), (F.CD_RING_STATUS.READING 7, 1), (F.CD_RING_STATUS.STATE 7, 4)] with caddy := { Caddy.fresh with rings := SMap.empty.put 7 { CdRing.fresh with chunks := [⟨5, 0, [⟨191, 3, false, 5, 0, 77, 9, [1, 2, 3], false, false⟩], false⟩] } } }, by decide +kernel⟩⟩

theorem test_meets_ReplayEnginesSendRecords :
    (∃ (s : State) (r : Nat), r < 4 ∧ s.hostOpen ∧ (s.mode = Mode.BREEZE ∨ s.mode = Mode.GALE) ∧ s.fld (F.CD_RP_CFG.RING r) < 8 ∧ s.ringState (s.fld (F.CD_RP_CFG.RING r)) = 4 ∧ s.portUsed (s.fld (F.CD_RP_CFG.PORT r)) = true ∧ s.powered (sliceOf (s.fld (F.CD_RP_CFG.PORT r))) = true ∧ s.replayBusy r = false ∧ s.replayOn (s.fld (F.CD_RP_CFG.RING r)) = false ∧ s.ltClass (s.fld (F.CD_RP_CFG.PORT r)) ≠ 0xFF ∧ 512 ≤ s.fld (F.CD_RP_CFG.SCALE r) ∧ s.fld (F.CD_RP_CFG.SCALE r) ≤ 32768 ∧ s.fld (F.CD_RP_CFG.FILTER r) ≠ 3 ∧ (s.fld (F.CD_RP_LEAD.US r) * 1000 * 2 ^ 16 : Nat) ≤ diff48 (ns48 (s.rpStart r)) (ns48 (s.now16 (s.portDomain (s.fld (F.CD_RP_CFG.PORT r))))) ∧ diff48 (ns48 (s.rpStart r)) (ns48 (s.now16 (s.portDomain (s.fld (F.CD_RP_CFG.PORT r))))) ≤ 2000000000 * 2 ^ 16) ∧
    (∃ (s : State) (r : Nat), r < 4 ∧ s.hostOpen ∧ s.replayBusy r = true ∧ s.fld (F.CD_RP_CFG.RING r) < 8) ∧
    (∃ (s : State) (r : Nat) (x : RpItem) (rest : List RpItem), r < 4 ∧ s.replayBusy r = true ∧ s.fld (F.CD_RP_STATUS.INFLIGHT r) < 512 ∧ (s.rpRecords (s.fld (F.CD_RP_CFG.RING r))).drop (s.replay r).pos = x :: rest ∧ x.hdrBad = false ∧ x.bad = false ∧ s.rpPasses r x.it = true ∧ ((s.replay r).s0.map (·.2)).getD x.it.domain = x.it.domain ∧ (s.bufAlloc x.it.bytes.length Own.CADDY).2.isSome = true ∧ s.operUp (s.fld (F.CD_RP_CFG.PORT r)) = true) ∧
    (∃ (s : State) (r : Nat), r < 4 ∧ s.replayBusy r = true ∧ s.fld (F.CD_RP_STATUS.INFLIGHT r) = 0 ∧ (s.rpRecords (s.fld (F.CD_RP_CFG.RING r))).length ≤ (s.replay r).pos ∧ s.fld (F.CD_RP_CFG.RING r) < 8) :=
  ⟨⟨st [(F.DEV_MODE.CUR, 5), (F.DEV_MODE.TRANS, 0), (F.CD_RP_CFG.RING 3, 7), (F.CD_RP_CFG.PORT 3, 191), (F.CD_RP_CFG.SCALE 3, 4096), (F.CD_RING_STATUS.STATE 7, 4), (F.LN_CFG.PORT 191, 191), (F.LN_CFG.MODE 191, 1), (F.DEV_SLC_STATE.POWERED, 15), (F.PRT_LT_CFG.LT_CLASS 191, 7), (F.CD_RING_FIRST_RSEQ.RSEQ 7, 9), (F.CD_RP_START_NS.NS 3, 900000000)], 3, by decide +kernel⟩,
    ⟨st [(F.DEV_MODE.CUR, 5), (F.DEV_MODE.TRANS, 0), (F.CD_RP_CFG.RING 3, 7), (F.CD_RP_STATUS.STATE 3, 2)], 3, by decide +kernel⟩,
    ⟨{ st [(F.DEV_MODE.CUR, 5), (F.DEV_MODE.TRANS, 0), (F.CD_RP_CFG.RING 3, 7), (F.CD_RP_CFG.PORT 3, 191), (F.CD_RP_STATUS.STATE 3, 1), (F.CD_RP_CFG.SCALE 3, 4096), (F.CD_RING_STATUS.STATE 7, 4), (F.LN_CFG.PORT 191, 191), (F.LN_CFG.MODE 191, 1), (F.PRT_LT_CFG.LT_CLASS 191, 7), (F.DEV_SLC_STATE.POWERED, 15), (F.slcState 3, 1), (F.PRT_STATE.OPER 191, 3), (F.BPM_SHARED_FREE.FREE, 5), (F.BPM_POOL_SIZE.COUNT 0, 5), (F.BPM_POOL_FREE.FREE 0, 5)] with caddy := { Caddy.fresh with rings := SMap.empty.put 7 { CdRing.fresh with chunks := [⟨5, 0, [⟨191, 3, false, 5, 0, 77, 9, [1, 2, 3], false, false⟩], false⟩] } } }, 3, ⟨⟨191, 3, false, 5, 0, 77, 9, [1, 2, 3], false, false⟩, false, false⟩, [], by decide +kernel⟩,
    ⟨st [(F.DEV_MODE.CUR, 5), (F.DEV_MODE.TRANS, 0), (F.CD_RP_CFG.RING 3, 7), (F.CD_RP_STATUS.STATE 3, 2)], 3, by decide +kernel⟩⟩

theorem test_meets_StrainerEnginesScanAndReport :
    (∃ (s : State) (k : Nat), k < 8 ∧ s.hostOpen ∧ s.mode ≠ Mode.LOAD ∧ s.scanState k = 0 ∧ (s.fld (F.ST_ENG_CFG.CONT k) = 1 → 0 < s.fld (F.ST_ENG_PERIOD.MS k) ∧ s.fld (F.ST_ENG_PERIOD.MS k) ≤ 3600000) ∧ s.scanLen k ≠ 0 ∧ s.fld (F.ST_ENG_CFG.MEM k) = 0 ∧ s.slc (s.fld (F.ST_ENG_CFG.SLICE k)) = Slc.ACTIVE ∧ s.scanLen k ≤ 3670016 ∧ s.scanStart k + s.scanLen k ≤ 8 * 2 ^ s.fdbLg (s.fld (F.ST_ENG_CFG.SLICE k)) + 16 * s.streamEntries (s.fld (F.ST_ENG_CFG.SLICE k)) + 64 * s.clsEntries (s.fld (F.ST_ENG_CFG.SLICE k)) ∧ s.scanStart k % 8 = 0 ∧ s.scanLen k % 8 = 0) ∧
    (∃ (s : State) (k : Nat), k < 8 ∧ s.hostOpen ∧ s.mode ≠ Mode.LOAD ∧ s.scanState k = 0 ∧ (s.fld (F.ST_ENG_CFG.CONT k) = 1 → 0 < s.fld (F.ST_ENG_PERIOD.MS k) ∧ s.fld (F.ST_ENG_PERIOD.MS k) ≤ 3600000) ∧ s.scanLen k ≠ 0 ∧ s.fld (F.ST_ENG_CFG.MEM k) = 1 ∧ s.scanLen k ≤ 65536 ∧ s.scanLen k % 256 = 0 ∧ s.scanLen k / 256 ≤ s.sharedFree) ∧
    (∃ (s : State) (k : Nat), k < 8 ∧ s.hostOpen ∧ s.scanState k ≠ 0 ∧ (s.scan k).cells = []) ∧
    (∃ (s : State) (k : Nat) (c : BitVec 32), k < 8 ∧ s.scanState k = 1 ∧ s.scanDirty k = true ∧ (s.scan k).cells = []) ∧
    (∃ (s : State) (k : Nat) (c : BitVec 32), k < 8 ∧ s.scanState k = 1 ∧ s.scanDirty k = false ∧ (s.scan k).noBuf = true) ∧
    (∃ (s : State) (k : Nat) (c : BitVec 32) (bs : List Byte), k < 8 ∧ s.scanState k = 1 ∧ s.scanDirty k = false ∧ (s.scan k).noBuf = false ∧ (s.scan k).ecc = false ∧ s.regionBytes k = some bs ∧ (s.scan k).d0 = true ∧ s.fld (F.ST_ENG_CFG.CAPTURE k) = 1) ∧
    (∃ (s : State) (k : Nat) (c : BitVec 32) (bs : List Byte), k < 8 ∧ s.scanState k = 1 ∧ s.scanDirty k = false ∧ (s.scan k).noBuf = false ∧ (s.scan k).ecc = false ∧ s.regionBytes k = some bs ∧ s.fld (F.ST_ENG_CFG.CAPTURE k) = 0) ∧
    (∃ (s : State) (k : Nat), k < 8 ∧ s.scanState k = 2 ∧ s.fld (F.ST_ENG_CFG.MEM k) ≠ 1) ∧
    (∃ (s : State) (k : Nat) (v : BitVec 32), k < 8 ∧ s.hostOpen ∧ 2 ^ 16 ≤ v.toNat) ∧
    (∃ (s : State) (k : Nat), k < 8 ∧ bitAt s.dev.aliveArm k = true ∧ signed 16 (s.fld (F.ST_ENG_RESULT.ALIVE k) + 2 ^ 16 - s.fld (F.ST_ENG_ALIVE_EXP.EXP k)) < 0) :=
  ⟨⟨st [(F.DEV_MODE.CUR, 5), (F.DEV_MODE.TRANS, 0), (F.ST_ENG_CFG.SLICE 7, 3), (F.slcState 3, 1), (F.SLC_CARVE.FDB_LOG2 3, 10), (F.ST_ENG_LEN.LEN 7, 8192)], 7, by decide +kernel⟩,
    ⟨st [(F.DEV_MODE.CUR, 5), (F.DEV_MODE.TRANS, 0), (F.ST_ENG_CFG.MEM 7, 1), (F.ST_ENG_LEN.LEN 7, 512), (F.BPM_SHARED_FREE.FREE, 2), (F.BPM_POOL_SIZE.COUNT 0, 9), (F.BPM_POOL_FREE.FREE 0, 9)], 7, by decide +kernel⟩,
    ⟨{ st [(F.DEV_MODE.CUR, 5), (F.DEV_MODE.TRANS, 0), (F.ST_ENG_RESULT.STATE 7, 1)] with scans := SMap.empty.put 7 { StScan.fresh with d0 := true } }, 7, by decide +kernel⟩,
    ⟨{ st [(F.DEV_MODE.CUR, 5), (F.DEV_MODE.TRANS, 0), (F.ST_ENG_RESULT.STATE 7, 1)] with scans := SMap.empty.put 7 { StScan.fresh with dirty := true } }, 7, 0, by decide +kernel⟩,
    ⟨{ st [(F.DEV_MODE.CUR, 5), (F.DEV_MODE.TRANS, 0), (F.ST_ENG_RESULT.STATE 7, 1), (F.ST_ENG_RESULT.ALIVE 7, 0xFFFF)] with scans := SMap.empty.put 7 { StScan.fresh with noBuf := true } }, 7, 0, by decide +kernel⟩,
    ⟨{ st [(F.DEV_MODE.CUR, 5), (F.DEV_MODE.TRANS, 0), (F.ST_ENG_RESULT.STATE 7, 1), (F.ST_ENG_CFG.MEM 7, 1), (F.ST_ENG_LEN.LEN 7, 4), (F.ST_ENG_CFG.CAPTURE 7, 1)] with scans := SMap.empty.put 7 { StScan.fresh with d0 := true } }, 7, 5, [0, 0, 0, 0], by decide +kernel⟩,
    ⟨{ st [(F.DEV_MODE.CUR, 5), (F.DEV_MODE.TRANS, 0), (F.ST_ENG_RESULT.STATE 7, 1), (F.ST_ENG_CFG.MEM 7, 1), (F.ST_ENG_LEN.LEN 7, 4), (F.ST_ENG_EXP.EXP 7, 5)] with scans := SMap.empty.put 7 { StScan.fresh with d0 := true } }, 7, 5, [0, 0, 0, 0], by decide +kernel⟩,
    ⟨{ st [(F.DEV_MODE.CUR, 5), (F.DEV_MODE.TRANS, 0), (F.ST_ENG_RESULT.STATE 7, 2)] with scans := SMap.empty.put 7 { StScan.fresh with dirty := true } }, 7, by decide +kernel⟩,
    ⟨st [(F.DEV_MODE.CUR, 5), (F.DEV_MODE.TRANS, 0)], 7, 0xFFFF0001, by decide +kernel⟩,
    ⟨{ st [(F.DEV_MODE.CUR, 5), (F.DEV_MODE.TRANS, 0), (F.ST_ENG_RESULT.ALIVE 7, 0xFFFF)] with dev := { State.reset.dev with aliveArm := 0xFF } }, 7, by decide +kernel⟩⟩

theorem test_meets_MemoryErrorsAndWatchdogsAreContained :
    (∃ (s : State) (m : Nat), m < 9 ∧ Mode.LOAD ≤ s.mode) ∧
    (∃ (s : State) (i w : Nat), i < 4 ∧ Mode.LOAD ≤ s.mode ∧ s.slc i = Slc.ACTIVE ∧ s.dev.recov = 0) ∧
    (∃ (s : State) (m w : Nat), m < 9 ∧ Mode.LOAD ≤ s.mode) ∧
    (∃ (s : State) (w : Nat), Mode.LOAD ≤ s.mode) ∧
    (∃ (s : State) (k w : Nat), k < 8 ∧ Mode.LOAD ≤ s.mode ∧ s.scanState k = 1 ∧ s.fld (F.ST_ENG_CFG.MEM k) = 1) ∧
    (∃ (s : State) (m : Nat), m < 9 ∧ Mode.LOAD ≤ s.mode) ∧
    (∃ (s : State) (i : Nat), i < 4 ∧ s.powered i = true ∧ s.slc i = Slc.ACTIVE ∧ s.dev.recov = 0) ∧
    (∃ (s : State) (i : Nat), i < 4 ∧ s.powered i = true ∧ (s.slc i = Slc.FAULT ∨ s.slc i = Slc.RECONF)) :=
  ⟨⟨st [(F.DEV_MODE.CUR, 5), (F.DEV_MODE.TRANS, 0)], 8, by decide +kernel⟩,
    ⟨st [(F.DEV_MODE.CUR, 5), (F.DEV_MODE.TRANS, 0), (F.slcState 3, 1)], 3, 2 ^ 32 + 5, by decide +kernel⟩,
    ⟨st [(F.DEV_MODE.CUR, 5), (F.DEV_MODE.TRANS, 0)], 8, 7, by decide +kernel⟩,
    ⟨{ st [(F.DEV_MODE.CUR, 5), (F.DEV_MODE.TRANS, 0)] with img := { State.reset.img with shadowed := true } }, 7, by decide +kernel⟩,
    ⟨{ st [(F.DEV_MODE.CUR, 5), (F.DEV_MODE.TRANS, 0), (F.ST_ENG_RESULT.STATE 7, 1), (F.ST_ENG_CFG.MEM 7, 1)] with scans := SMap.empty.put 7 { StScan.fresh with d0 := true } }, 7, 1, by decide +kernel⟩,
    ⟨st [(F.DEV_MODE.CUR, 5), (F.DEV_MODE.TRANS, 0), (F.ST_SCRUB.PASSES 8, 0xFFFF)], 8, by decide +kernel⟩,
    ⟨st [(F.DEV_MODE.CUR, 5), (F.DEV_MODE.TRANS, 0), (F.slcState 3, 1), (F.DEV_SLC_STATE.POWERED, 8)], 3, by decide +kernel⟩,
    ⟨st [(F.DEV_MODE.CUR, 5), (F.DEV_MODE.TRANS, 0), (F.slcState 3, 3), (F.DEV_SLC_STATE.POWERED, 8)], 3, by decide +kernel⟩⟩

theorem test_meets_EndpointAndSpoutMoveNotifications :
    (∃ (s : State) (v : Nat), v < 64 ∧ s.hostOpen ∧ s.pcie.msixEn = true ∧ s.pcie.funcMask = false ∧ s.irq.pba = 2 ^ v ∧ s.dmaOk = true ∧ s.vecHigh v = true) ∧
    (∃ (s : State) (v : Nat), v < 64 ∧ s.hostOpen ∧ s.irq.pba = 0) ∧
    (∃ (s : State), Mode.LOAD ≤ s.mode) ∧
    (∃ (s : State), s.mode < Mode.LOAD) ∧
    (∃ (s : State), s.pcie.linkUp = true ∧ s.dmaOk = false) ∧
    (∃ (s : State), s.pcie.linkUp = true ∧ s.dmaOk = true) ∧
    (∃ (s : State) (bme msix mask : Bool), Mode.LOAD ≤ s.mode ∧ s.dev.perstN = true ∧ s.irq.pba = 0 ∧ s.dmaOk = false) ∧
    (∃ (s : State) (b : Bool), s.dmaOk = false) ∧
    (∃ (s : State) (b : Bool), s.dmaOk = true ∧ s.fld F.CD_RD_STATUS.STATE ≠ 1 ∧ s.imgState ≠ 1) ∧
    (∃ (s : State) (c : Nat) (e : SpEntry) (r : List (Nat × SpEntry)), c < 4 ∧ s.hostOpen ∧ (s.spClass c).stages = (0, e) :: r ∧ (s.spClass c).arrived = false ∧ (∀ d < (4 : Nat), d < c → (s.spClass d).head = none)) ∧
    (∃ (s : State), s.hostOpen ∧ (∀ d < (4 : Nat), (s.spClass d).head = none)) ∧
    (∃ (s : State) (c n : Nat), c < 4 ∧ s.hostOpen ∧ n ≤ 64 ∧ n ≤ (s.spClass c).host) ∧
    (∃ (s : State) (c : Nat), c < 4 ∧ s.hostOpen) :=
  ⟨⟨{ st [(F.DEV_MODE.CUR, 5), (F.DEV_MODE.TRANS, 0), (F.DEV_IRQ_VEC.VEC 13, 63), (F.DEV_IRQ_EN.EN, 0x2000), (F.DEV_IRQ_STATUS.CAUSE, 0x2000)] with pcie := ⟨true, true, true, false⟩, irq := { State.reset.irq with pba := 2 ^ 63 } }, 63, by decide +kernel⟩,
    ⟨{ st [(F.DEV_MODE.CUR, 5), (F.DEV_MODE.TRANS, 0)] with pcie := ⟨true, true, true, false⟩ }, 63, by decide +kernel⟩,
    ⟨{ st [(F.DEV_MODE.CUR, 5), (F.DEV_MODE.TRANS, 0)] with pcie := ⟨true, true, true, false⟩, spout := SMap.empty.put 3 { SpClass.fresh with host := 60, prod := 4 } }, by decide +kernel⟩,
    ⟨{ st [(F.DEV_MODE.CUR, 1), (F.DEV_MODE.TRANS, 0)] with pcie := ⟨true, true, true, false⟩ }, by decide +kernel⟩,
    ⟨{ st [(F.DEV_MODE.CUR, 5), (F.DEV_MODE.TRANS, 0)] with pcie := ⟨true, false, true, true⟩, spout := SMap.empty.put 3 { SpClass.fresh with host := 60, prod := 4 } }, by decide +kernel⟩,
    ⟨{ st [(F.DEV_MODE.CUR, 5), (F.DEV_MODE.TRANS, 0)] with pcie := ⟨true, true, true, false⟩ }, by decide +kernel⟩,
    ⟨{ st [(F.DEV_MODE.CUR, 5), (F.DEV_MODE.TRANS, 0)] with pcie := ⟨false, false, false, false⟩ }, true, true, false, by decide +kernel⟩,
    ⟨{ st [(F.DEV_MODE.CUR, 5), (F.DEV_MODE.TRANS, 0)] with pcie := ⟨true, false, true, false⟩ }, false, by decide +kernel⟩,
    ⟨{ st [(F.DEV_MODE.CUR, 5), (F.DEV_MODE.TRANS, 0)] with pcie := ⟨true, true, true, false⟩ }, true, by decide +kernel⟩,
    ⟨{ st [(F.DEV_MODE.CUR, 5), (F.DEV_MODE.TRANS, 0)] with pcie := ⟨true, true, true, false⟩, spout := SMap.empty.put 3 ⟨60, 3, [], [(0, ⟨11, 2, 3, 2 ^ 32 + 4, 2 ^ 33 + 5⟩)], false, (0, 0)⟩ }, 3, ⟨11, 2, 3, 2 ^ 32 + 4, 2 ^ 33 + 5⟩, [], by decide +kernel⟩,
    ⟨{ st [(F.DEV_MODE.CUR, 5), (F.DEV_MODE.TRANS, 0)] with pcie := ⟨true, true, true, false⟩, spout := SMap.empty.put 3 ⟨60, 3, [], [(1, ⟨11, 2, 3, 2 ^ 32 + 4, 2 ^ 33 + 5⟩)], false, (0, 0)⟩ }, by decide +kernel⟩,
    ⟨{ st [(F.DEV_MODE.CUR, 5), (F.DEV_MODE.TRANS, 0)] with pcie := ⟨true, true, true, false⟩ }, 3, 64, by decide +kernel⟩,
    ⟨{ st [(F.DEV_MODE.CUR, 5), (F.DEV_MODE.TRANS, 0)] with pcie := ⟨true, true, true, false⟩, spout := SMap.empty.put 3 ⟨60, 4, [], [], false, (0, 0)⟩ }, 3, by decide +kernel⟩⟩

theorem test_meets_HostTransmitsAndDumps :
    (∃ (s : State) (v : BitVec 32), s.hostOpen ∧ v.toNat < 4096 ∧ v.toNat < s.fld F.DEV_HTX_COUNT.N) ∧
    (∃ (s : State) (d : TxDesc) (bs : List Byte), s.fld F.DEV_HTX_CTRL.EN = 1 ∧ s.dmaOk = true ∧ Mode.STEEP ≤ s.mode ∧ s.mode ≤ Mode.CALM ∧ s.host.htxNext ≠ s.fld F.DEV_HTX_TAIL.IDX ∧ s.host.htx.length < 256 ∧ (d.len < 60 ∨ 10236 < d.len)) ∧
    (∃ (s : State) (d : TxDesc) (bs : List Byte), s.fld F.DEV_HTX_CTRL.EN = 1 ∧ s.dmaOk = true ∧ Mode.STEEP ≤ s.mode ∧ s.mode ≤ Mode.CALM ∧ s.host.htxNext ≠ s.fld F.DEV_HTX_TAIL.IDX ∧ s.host.htx.length < 256 ∧ 60 ≤ d.len ∧ d.len ≤ 10236 ∧ s.portUsed d.port = false) ∧
    (∃ (s : State) (d : TxDesc) (bs : List Byte), s.fld F.DEV_HTX_CTRL.EN = 1 ∧ s.dmaOk = true ∧ Mode.STEEP ≤ s.mode ∧ s.mode ≤ Mode.CALM ∧ s.host.htxNext ≠ s.fld F.DEV_HTX_TAIL.IDX ∧ s.host.htx.length < 256 ∧ 60 ≤ d.len ∧ d.len ≤ 10236 ∧ s.portUsed d.port = true ∧ s.powered (sliceOf d.port) = true ∧ d.lt = false ∧ s.operUp d.port = true ∧ (s.bufAlloc (d.len + 4) Own.HOST).2.isSome = true) ∧
    (∃ (s : State) (i : Nat) (h : HtxSlot), s.host.htx = [h] ∧ h.idx = i ∧ h.ended = true ∧ s.dmaOk = true ∧ s.host.htxWrote = [] ∧ s.fld F.DEV_HTX_HEAD.IDX = i ∧ i < s.fld F.DEV_HTX_COUNT.N ∧ s.fld F.DEV_HTX_COUNT.N ≤ 4096) ∧
    (∃ (s : State) (i : Nat) (h : HtxSlot), s.host.htx = [h] ∧ h.idx = i ∧ h.ended = true ∧ s.dmaOk = false) ∧
    (∃ (s : State) (w : Bool), s.fld F.PF_DUMP_CTRL.EN = 1 ∧ (s.mode = Mode.STEEP ∨ s.mode = Mode.PROBE ∨ s.mode = Mode.CALM) ∧ (w = false ∨ s.dmaOk = false)) ∧
    (∃ (s : State), s.fld F.PF_DUMP_CTRL.EN = 1 ∧ (s.mode = Mode.STEEP ∨ s.mode = Mode.PROBE ∨ s.mode = Mode.CALM) ∧ s.dmaOk = true) :=
  ⟨⟨{ st [(F.DEV_MODE.CUR, 5), (F.DEV_MODE.TRANS, 0), (F.DEV_HTX_CTRL.EN, 1), (F.DEV_HTX_COUNT.N, 16), (F.DEV_HTX_TAIL.IDX, 5)] with pcie := ⟨true, true, true, false⟩ }, 15, by decide +kernel⟩,
    ⟨{ st [(F.DEV_MODE.CUR, 5), (F.DEV_MODE.TRANS, 0), (F.DEV_HTX_CTRL.EN, 1), (F.DEV_HTX_COUNT.N, 16), (F.DEV_HTX_TAIL.IDX, 5)] with pcie := ⟨true, true, true, false⟩ }, ⟨0x1000, 10237, 191, 5, false, 0, 0⟩, [], by decide +kernel⟩,
    ⟨{ st [(F.DEV_MODE.CUR, 5), (F.DEV_MODE.TRANS, 0), (F.DEV_HTX_CTRL.EN, 1), (F.DEV_HTX_COUNT.N, 16), (F.DEV_HTX_TAIL.IDX, 5)] with pcie := ⟨true, true, true, false⟩ }, ⟨0x1000, 60, 191, 5, false, 0, 0⟩, [], by decide +kernel⟩,
    ⟨{ st [(F.DEV_MODE.CUR, 5), (F.DEV_MODE.TRANS, 0), (F.DEV_HTX_CTRL.EN, 1), (F.DEV_HTX_COUNT.N, 16), (F.DEV_HTX_TAIL.IDX, 5), (F.LN_CFG.PORT 191, 191), (F.LN_CFG.MODE 191, 1), (F.PRT_STATE.OPER 191, 3), (F.DEV_SLC_STATE.POWERED, 8), (F.BPM_SHARED_FREE.FREE, 5), (F.BPM_POOL_SIZE.COUNT 0, 5), (F.BPM_POOL_FREE.FREE 0, 5)] with pcie := ⟨true, true, true, false⟩ }, ⟨0x1000, 60, 191, 5, false, 0, 0⟩, List.replicate 60 0, by decide +kernel⟩,
    ⟨{ st [(F.DEV_MODE.CUR, 5), (F.DEV_MODE.TRANS, 0), (F.DEV_HTX_CTRL.EN, 1), (F.DEV_HTX_COUNT.N, 16), (F.DEV_HTX_TAIL.IDX, 5), (F.DEV_HTX_HEAD.IDX, 15)] with pcie := ⟨true, true, true, false⟩, host := { State.reset.host with htx := [⟨15, ⟨0x1000, 60, 191, 5, false, 0, 0⟩, 0, 7, true⟩] } }, 15, ⟨15, ⟨0x1000, 60, 191, 5, false, 0, 0⟩, 0, 7, true⟩, by decide +kernel⟩,
    ⟨{ st [(F.DEV_MODE.CUR, 5), (F.DEV_MODE.TRANS, 0), (F.DEV_HTX_CTRL.EN, 1), (F.DEV_HTX_COUNT.N, 16), (F.DEV_HTX_TAIL.IDX, 5)] with pcie := ⟨true, false, false, false⟩, host := { State.reset.host with htx := [⟨15, ⟨0x1000, 60, 191, 5, false, 0, 0⟩, 0, 7, true⟩] } }, 15, ⟨15, ⟨0x1000, 60, 191, 5, false, 0, 0⟩, 0, 7, true⟩, by decide +kernel⟩,
    ⟨{ st [(F.DEV_MODE.CUR, 3), (F.DEV_MODE.TRANS, 0), (F.PF_DUMP_CTRL.EN, 1), (F.PF_DUMP_STATUS.MISSED, 0xFFFF)] with pcie := ⟨true, true, true, false⟩ }, false, by decide +kernel⟩,
    ⟨{ st [(F.DEV_MODE.CUR, 7), (F.DEV_MODE.TRANS, 0), (F.PF_DUMP_CTRL.EN, 1)] with pcie := ⟨true, true, true, false⟩ }, by decide +kernel⟩⟩

theorem test_meets_SerialMastersRunOneOperation :
    (∃ (s : State) (m : Nat) (a b : BitVec 5) (d : BitVec 16), m < 4 ∧ s.hostOpen ∧ s.fld (F.DEV_MDIO_STATUS.BUSY m) = 0) ∧
    (∃ (s : State) (m : Nat) (a b : BitVec 5) (d : BitVec 16), m < 4 ∧ s.hostOpen ∧ s.fld (F.DEV_MDIO_STATUS.BUSY m) = 0) ∧
    (∃ (s : State) (m : Nat) (a b : BitVec 5), m < 4 ∧ s.hostOpen ∧ s.fld (F.DEV_MDIO_STATUS.BUSY m) = 0) ∧
    (∃ (s : State) (m : Nat) (a b : BitVec 5), m < 4 ∧ s.hostOpen ∧ s.fld (F.DEV_MDIO_STATUS.BUSY m) = 0) ∧
    (∃ (s : State) (m op : Nat) (x : Nat × Nat × Nat) (d : BitVec 16), m < 4 ∧ s.host.mdioOp.get? m = some (op, x)) ∧
    (∃ (s : State) (n : BitVec 13), s.hostOpen ∧ s.fld F.DEV_FLASH_STATUS.BUSY = 0 ∧ s.flashLoading = false ∧ s.flashBeyond (s.fld F.DEV_FLASH_ADDR.ADDR) = false ∧ n ≠ 0 ∧ n.toNat ≤ 256) ∧
    (∃ (s : State) (n : BitVec 13), s.hostOpen ∧ s.fld F.DEV_FLASH_STATUS.BUSY = 0 ∧ s.flashLoading = false ∧ s.flashBeyond (s.fld F.DEV_FLASH_ADDR.ADDR) = false ∧ n ≠ 0 ∧ s.fld F.DEV_FLASH_ADDR.ADDR % 256 + n.toNat ≤ 256) ∧
    (∃ (s : State), s.hostOpen ∧ s.fld F.DEV_FLASH_STATUS.BUSY = 0 ∧ s.flashLoading = false ∧ s.flashBeyond (s.fld F.DEV_FLASH_ADDR.ADDR) = false ∧ s.fld F.DEV_FLASH_ADDR.ADDR % 4096 = 0) ∧
    (∃ (s : State), s.hostOpen ∧ s.fld F.DEV_FLASH_STATUS.BUSY = 0 ∧ s.flashLoading = false ∧ s.flashBeyond (s.fld F.DEV_FLASH_ADDR.ADDR) = false ∧ s.fld F.DEV_FLASH_ADDR.ADDR % 65536 = 0) ∧
    (∃ (s : State) (n : BitVec 13), s.hostOpen ∧ s.fld F.DEV_FLASH_STATUS.BUSY = 0 ∧ s.flashLoading = false ∧ n ≠ 0 ∧ n.toNat ≤ 256) ∧
    (∃ (s : State) (bs : List Byte) (b : Bool) (m : BitVec 32), (s.host.flashOp = 1 ∨ s.host.flashOp = 5) ∧ s.host.flashKnown = true ∧ bs.length = s.host.flashLen ∧ bs.length = 256) ∧
    (∃ (s : State) (bs : List Byte) (b : Bool) (m : BitVec 32), 2 ≤ s.host.flashOp ∧ s.host.flashOp ≤ 4 ∧ s.host.flashKnown = false) ∧
    (∃ (s : State), 2 ≤ s.host.flashOp ∧ s.host.flashOp ≤ 4) :=
  ⟨⟨{ st [(F.DEV_MODE.CUR, 5), (F.DEV_MODE.TRANS, 0)] with pcie := ⟨true, true, true, false⟩ }, 3, 31, 1, 0xFFFF, by decide +kernel⟩,
    ⟨{ st [(F.DEV_MODE.CUR, 5), (F.DEV_MODE.TRANS, 0)] with pcie := ⟨true, true, true, false⟩ }, 3, 31, 1, 0xFFFF, by decide +kernel⟩,
    ⟨{ st [(F.DEV_MODE.CUR, 5), (F.DEV_MODE.TRANS, 0)] with pcie := ⟨true, true, true, false⟩ }, 3, 31, 1, by decide +kernel⟩,
    ⟨{ st [(F.DEV_MODE.CUR, 5), (F.DEV_MODE.TRANS, 0)] with pcie := ⟨true, true, true, false⟩ }, 3, 31, 1, by decide +kernel⟩,
    ⟨{ st [(F.DEV_MODE.CUR, 5), (F.DEV_MODE.TRANS, 0), (F.DEV_MDIO_STATUS.BUSY 3, 1)] with pcie := ⟨true, true, true, false⟩, host := { State.reset.host with mdioOp := SMap.empty.put 3 (2, 1, 1, 0) } }, 3, 2, (1, 1, 0), 0xFFFF, by decide +kernel⟩,
    ⟨{ st [(F.DEV_MODE.CUR, 5), (F.DEV_MODE.TRANS, 0)] with pcie := ⟨true, true, true, false⟩ }, 256, by decide +kernel⟩,
    ⟨{ st [(F.DEV_MODE.CUR, 5), (F.DEV_MODE.TRANS, 0), (F.DEV_FLASH_ADDR.ADDR, 1)] with pcie := ⟨true, true, true, false⟩ }, 255, by decide +kernel⟩,
    ⟨{ st [(F.DEV_MODE.CUR, 5), (F.DEV_MODE.TRANS, 0), (F.DEV_FLASH_ADDR.ADDR, 4096)] with pcie := ⟨true, true, true, false⟩ }, by decide +kernel⟩,
    ⟨{ st [(F.DEV_MODE.CUR, 5), (F.DEV_MODE.TRANS, 0), (F.DEV_FLASH_ADDR.ADDR, 65536)] with pcie := ⟨true, true, true, false⟩ }, by decide +kernel⟩,
    ⟨{ st [(F.DEV_MODE.CUR, 5), (F.DEV_MODE.TRANS, 0)] with pcie := ⟨true, true, true, false⟩ }, 256, by decide +kernel⟩,
    ⟨{ st [(F.DEV_MODE.CUR, 5), (F.DEV_MODE.TRANS, 0)] with pcie := ⟨true, true, true, false⟩, host := { State.reset.host with flashOp := 1, flashLen := 256, flashKnown := true } }, List.replicate 256 0xA5, false, 0, by decide +kernel⟩,
    ⟨{ st [(F.DEV_MODE.CUR, 5), (F.DEV_MODE.TRANS, 0)] with pcie := ⟨true, true, true, false⟩, host := { State.reset.host with flashOp := 4 } }, [], true, 64, by decide +kernel⟩,
    ⟨{ st [(F.DEV_MODE.CUR, 5), (F.DEV_MODE.TRANS, 0)] with pcie := ⟨true, true, true, false⟩, host := { State.reset.host with flashOp := 4 } }, by decide +kernel⟩⟩

theorem test_meets_TestPortLoadsAndTemperaturesAreShown :
    (∃ (s : State), s.mode = Mode.PROBE) ∧
    (∃ (s : State), s.mode = Mode.PROBE) ∧
    (∃ (s : State), s.mode = Mode.PROBE) ∧
    (∃ (s : State), s.mode = Mode.PROBE) ∧
    (∃ (s : State), s.mode = Mode.PROBE) ∧
    (∃ (s : State), Mode.LOAD ≤ s.mode ∧ s.mode ≠ Mode.PROBE) ∧
    (∃ (s : State), Mode.LOAD ≤ s.mode ∧ s.mode ≠ Mode.PROBE) ∧
    (∃ (s : State), Mode.LOAD ≤ s.mode ∧ s.mode ≠ Mode.PROBE) ∧
    (∃ (s : State), Mode.LOAD ≤ s.mode ∧ s.mode ≠ Mode.PROBE) ∧
    (∃ (s : State), Mode.LOAD ≤ s.mode ∧ s.mode ≠ Mode.PROBE) ∧
    (∃ (s : State), Mode.LOAD ≤ s.mode) ∧
    (∃ (s : State), Mode.LOAD ≤ s.mode) ∧
    (∃ (s : State) (code : BitVec 8), Mode.LOAD ≤ s.mode ∧ 0x80 ≤ code.toNat ∧ code.toNat ≤ 0xFE) ∧
    (∃ (s : State) (code : BitVec 8), Mode.LOAD ≤ s.mode ∧ tapDefined code.toNat = false) ∧
    (∃ (s : State) (tj mem : List Int) (k : Nat), Mode.LOAD ≤ s.mode ∧ tj.length = 8 ∧ mem.length = 4 ∧ k < 8 ∧ (∀ j < (8 : Nat), tj.getD j 0 ≤ tj.getD k 0) ∧ (∀ j < (8 : Nat), j < k → tj.getD j 0 < tj.getD k 0)) :=
  ⟨⟨{ st [(F.DEV_MODE.CUR, 7), (F.DEV_MODE.TRANS, 0)] with pcie := ⟨true, true, true, false⟩ }, by decide +kernel⟩,
    ⟨{ st [(F.DEV_MODE.CUR, 7), (F.DEV_MODE.TRANS, 0)] with pcie := ⟨true, true, true, false⟩ }, by decide +kernel⟩,
    ⟨{ st [(F.DEV_MODE.CUR, 7), (F.DEV_MODE.TRANS, 0)] with pcie := ⟨true, true, true, false⟩ }, by decide +kernel⟩,
    ⟨{ st [(F.DEV_MODE.CUR, 7), (F.DEV_MODE.TRANS, 0)] with pcie := ⟨true, true, true, false⟩ }, by decide +kernel⟩,
    ⟨{ st [(F.DEV_MODE.CUR, 7), (F.DEV_MODE.TRANS, 0)] with pcie := ⟨true, true, true, false⟩ }, by decide +kernel⟩,
    ⟨{ st [(F.DEV_MODE.CUR, 5), (F.DEV_MODE.TRANS, 0)] with pcie := ⟨true, true, true, false⟩ }, by decide +kernel⟩,
    ⟨{ st [(F.DEV_MODE.CUR, 5), (F.DEV_MODE.TRANS, 0)] with pcie := ⟨true, true, true, false⟩ }, by decide +kernel⟩,
    ⟨{ st [(F.DEV_MODE.CUR, 5), (F.DEV_MODE.TRANS, 0)] with pcie := ⟨true, true, true, false⟩ }, by decide +kernel⟩,
    ⟨{ st [(F.DEV_MODE.CUR, 5), (F.DEV_MODE.TRANS, 0)] with pcie := ⟨true, true, true, false⟩ }, by decide +kernel⟩,
    ⟨{ st [(F.DEV_MODE.CUR, 5), (F.DEV_MODE.TRANS, 0)] with pcie := ⟨true, true, true, false⟩ }, by decide +kernel⟩,
    ⟨{ st [(F.DEV_MODE.CUR, 5), (F.DEV_MODE.TRANS, 0)] with pcie := ⟨true, true, true, false⟩ }, by decide +kernel⟩,
    ⟨{ st [(F.DEV_MODE.CUR, 5), (F.DEV_MODE.TRANS, 0)] with pcie := ⟨true, true, true, false⟩ }, by decide +kernel⟩,
    ⟨{ st [(F.DEV_MODE.CUR, 5), (F.DEV_MODE.TRANS, 0)] with pcie := ⟨true, true, true, false⟩ }, 0xFE, by decide +kernel⟩,
    ⟨{ st [(F.DEV_MODE.CUR, 5), (F.DEV_MODE.TRANS, 0)] with pcie := ⟨true, true, true, false⟩ }, 3, by decide +kernel⟩,
    ⟨{ st [(F.DEV_MODE.CUR, 5), (F.DEV_MODE.TRANS, 0)] with pcie := ⟨true, true, true, false⟩ }, [0, 1, 2, 3, 4, 5, 1001, 1001], [85, 86, 105, 106], 6, by decide +kernel⟩⟩

theorem test_meets_HostWritesReachRegisters :
    (∃ (s : State) (k : Nat) (v : BitVec 32), k < 8 ∧ s.hostOpen ∧ s.scanState k = 0) ∧
    (∃ (s : State) (l : Nat) (v : BitVec 32), l < 192 ∧ s.hostOpen ∧ v.toNat < 256) ∧
    (∃ (s : State) (i : Nat) (v : BitVec 32), i < 4 ∧ s.hostOpen ∧ s.isMutable 2 = true ∧ 1 ≤ v.toNat ∧ v.toNat ≤ 3600) ∧
    (∃ (s : State) (p : Nat) (v : BitVec 32), p < 192 ∧ s.hostOpen ∧ s.portUsed p = true ∧ s.isMutable 4 = true ∧ 1 ≤ v.toNat ∧ v.toNat ≤ 2000000) ∧
    (∃ (s : State) (p : Nat) (v : BitVec 32), p < 192 ∧ s.hostOpen ∧ s.portUsed p = true ∧ s.isMutable 4 = false ∧ v.toNat < 2 ^ 21) ∧
    (∃ (s : State) (v : BitVec 32), s.hostOpen ∧ v.toNat < 2) ∧
    (∃ (s : State) (m : Nat) (v : BitVec 32), m < 9 ∧ s.hostOpen) ∧
    (∃ (s : State) (k : Nat) (lo hi : BitVec 32), k < 8 ∧ s.hostOpen ∧ s.scanState k = 0 ∧ 1 ≤ hi.toNat ∧ hi.toNat ≤ 3600000) :=
  ⟨⟨st [(F.DEV_MODE.CUR, 5), (F.DEV_MODE.TRANS, 0)], 7, 0xFFFFFFFF, by decide +kernel⟩,
    ⟨st [(F.DEV_MODE.CUR, 5), (F.DEV_MODE.TRANS, 0)], 191, 255, by decide +kernel⟩,
    ⟨st [(F.DEV_MODE.CUR, 5), (F.DEV_MODE.TRANS, 0), (F.IMG_MUT_MASK.MASK, 4)], 3, 3600, by decide +kernel⟩,
    ⟨st [(F.DEV_MODE.CUR, 5), (F.DEV_MODE.TRANS, 0), (F.IMG_MUT_MASK.MASK, 16), (F.LN_CFG.PORT 191, 191), (F.LN_CFG.MODE 191, 1), (F.DEV_SLC_STATE.POWERED, 15)], 191, 2000000, by decide +kernel⟩,
    ⟨st [(F.DEV_MODE.CUR, 5), (F.DEV_MODE.TRANS, 0), (F.LN_CFG.PORT 191, 191), (F.LN_CFG.MODE 191, 1), (F.DEV_SLC_STATE.POWERED, 15)], 191, 0, by decide +kernel⟩,
    ⟨st [(F.DEV_MODE.CUR, 5), (F.DEV_MODE.TRANS, 0), (F.ST_HEALTH.SHADOW_BAD, 1)], 1, by decide +kernel⟩,
    ⟨st [(F.DEV_MODE.CUR, 5), (F.DEV_MODE.TRANS, 0)], 8, 5, by decide +kernel⟩,
    ⟨st [(F.DEV_MODE.CUR, 5), (F.DEV_MODE.TRANS, 0)], 7, 5, 1, by decide +kernel⟩⟩

theorem test_meets_WritesOutsideRegistersAreRecorded :
    (∃ (s : State) (p o : Nat) (v : BitVec 32), p < 192 ∧ o < 0x10000 ∧ o % 4 = 0 ∧ s.hostOpen ∧ s.portUsed p = false) ∧
    (∃ (s : State) (x : Nat) (v : BitVec 32), ((0xC00000 ≤ x ∧ x < 0x1000000) ∨ (0x3410000 ≤ x ∧ x < 0x4000000)) ∧ x % 4 = 0 ∧ s.hostOpen) ∧
    (∃ (s : State) (k d : Nat) (v : BitVec 32) (b : Bool), k < 8 ∧ 1 ≤ d ∧ d < 4 ∧ s.hostOpen ∧ s.scanState k = 0) :=
  ⟨⟨st [(F.DEV_MODE.CUR, 5), (F.DEV_MODE.TRANS, 0)], 191, 0xFFFC, 1, by decide +kernel⟩,
    ⟨st [(F.DEV_MODE.CUR, 5), (F.DEV_MODE.TRANS, 0)], 0x3FFFFFC, 1, by decide +kernel⟩,
    ⟨st [(F.DEV_MODE.CUR, 5), (F.DEV_MODE.TRANS, 0)], 7, 3, 1, true, by decide +kernel⟩⟩

theorem test_meets_AliasesReachTheirMembers :
    (∃ (s : State) (v : BitVec 32), s.hostOpen ∧ s.isMutable 4 = true ∧ 1 ≤ v.toNat ∧ v.toNat ≤ 2000000) ∧
    (∃ (s : State) (v : BitVec 32), s.hostOpen ∧ s.isMutable 2 = true ∧ 1 ≤ v.toNat ∧ v.toNat ≤ 3600) ∧
    (∃ (s : State) (o : Nat), o < 0x10000 ∧ o % 4 = 0 ∧ s.hostOpen) ∧
    (∃ (s : State) (k : Nat), k < 12 ∧ s.mode ≠ Mode.OFF ∧ s.mode ≠ Mode.LULL ∧ s.dev.softHold = false) ∧
    (∃ (s : State) (p : Nat), p < 192 ∧ s.hostOpen ∧ s.portUsed p = true) :=
  ⟨⟨st [(F.DEV_MODE.CUR, 5), (F.DEV_MODE.TRANS, 0), (F.IMG_MUT_MASK.MASK, 16), (F.LN_CFG.PORT 191, 191), (F.LN_CFG.MODE 191, 1), (F.DEV_SLC_STATE.POWERED, 15)], 1, by decide +kernel⟩,
    ⟨st [(F.DEV_MODE.CUR, 5), (F.DEV_MODE.TRANS, 0), (F.IMG_MUT_MASK.MASK, 4)], 3600, by decide +kernel⟩,
    ⟨st [(F.DEV_MODE.CUR, 5), (F.DEV_MODE.TRANS, 0)], 0x1014, by decide +kernel⟩,
    ⟨st [(F.DEV_MODE.CUR, 5), (F.DEV_MODE.TRANS, 0), (F.ERR_STATUS.CODE 0xB00000, 8)], 11, by decide +kernel⟩,
    ⟨st [(F.DEV_MODE.CUR, 5), (F.DEV_MODE.TRANS, 0), (F.LN_CFG.PORT 191, 191), (F.LN_CFG.MODE 191, 1), (F.DEV_SLC_STATE.POWERED, 15), (F.ERR_STATUS.CODE 0x2BF0000, 8)], 191, by decide +kernel⟩⟩

theorem test_meets_LullNeedsAWakeSource :
    ∃ (s : State), s.hostOpen ∧ (s.mode = Mode.BREEZE ∨ s.mode = Mode.GALE ∨ s.mode = Mode.CALM) ∧ s.trans = false ∧ s.anyReconf = false ∧ s.fld F.DEV_WAKE_CFG.LANE_EN = 0 ∧ s.fld F.DEV_WAKE_CFG.EVT_EN = 0 ∧ s.fld F.DEV_WAKE_CFG.WAKE_IN_EN = 0 ∧ s.fld F.DEV_WAKE_CFG.SUPPLY_EN = 0 :=
  ⟨st [(F.DEV_MODE.CUR, 6), (F.DEV_MODE.TRANS, 0), (F.DEV_WAKE_CFG.WAKE_IN_EN, 0), (F.DEV_WAKE_CFG.SUPPLY_EN, 0)], by decide +kernel⟩

theorem test_meets_SelectingAnEventClearsItsCounter :
    ∃ (s : State) (n : Nat) (v : BitVec 32), n < 64 ∧ s.hostOpen ∧ v.toNat / 2 ^ 12 % 16 = 0 ∧ v.toNat / 2 ^ 24 = 0 ∧ pfIllegal (v.toNat % 2 ^ 12) (v.toNat / 2 ^ 16 % 2 ^ 8) = false :=
  ⟨st [(F.DEV_MODE.CUR, 5), (F.DEV_MODE.TRANS, 0), (F.PF_CNT.COUNT 63, 5), (F.PF_CNT.OVF 63, 1)], 63, 0xFF0206, by decide +kernel⟩

theorem test_meets_LoaderAndIngressCommandsComplete :
    (∃ (s : State) (src : ImgSource) (img : List Byte) (cal : CalFlash) (f : ImgFail), s.loadAwaits src = true ∧ (src = .host ∨ s.host.flashTail = false) ∧ (imgCheck img ⟨if src = .host then s.fld F.IMG_HOST_LEN.LEN else img.length, none, []⟩ = some f)) ∧
    (∃ (s : State) (src : ImgSource), s.loadAwaits src = true) ∧
    (∃ (s : State), Mode.STEEP ≤ s.mode ∧ s.img.held ≠ []) ∧
    (∃ (s : State) (p slots : Nat) (bs : List Byte) (ts : LineStamp), p < 192 ∧ s.receives p = true ∧ frameGood bs = false) ∧
    (∃ (s : State) (p slots : Nat) (bs : List Byte) (ts : LineStamp), p < 192 ∧ s.receives p = true ∧ frameGood bs = true) :=
  ⟨⟨State.reset, .flashA, [0, 1], ⟨[], []⟩, ⟨1, 14, 0, 0, 60⟩, by decide +kernel⟩,
    ⟨State.reset, .flashA, by decide +kernel⟩,
    ⟨{ st [(F.DEV_MODE.CUR, 7), (F.DEV_MODE.TRANS, 0)] with img := { Img.fresh with held := [0] } }, by decide +kernel⟩,
    ⟨st [(F.DEV_MODE.CUR, 5), (F.DEV_MODE.TRANS, 0), (F.LN_CFG.PORT 191, 191), (F.LN_CFG.MODE 191, 1), (F.PRT_STATE.OPER 191, 3)], 191, 0, List.replicate 63 0, ⟨0⟩, by decide +kernel⟩,
    ⟨st [(F.DEV_MODE.CUR, 5), (F.DEV_MODE.TRANS, 0), (F.LN_CFG.PORT 191, 191), (F.LN_CFG.MODE 191, 1), (F.PRT_STATE.OPER 191, 3)], 191, 1, withFcs ([1, 0x1B, 0x19, 0, 0, 1, 2, 0, 0, 0, 0, 9, 0x12, 0x34] ++ List.replicate 46 0), ⟨0⟩, by decide +kernel⟩⟩

theorem test_meets_TimeBaseCommandsComplete :
    (∃ (s : State) (n : Nat), s.kettleRuns = true ∧ 0 < n ∧ s.fld F.KT_TB_STATUS.ABSENT = 0) ∧
    (∃ (s : State), s.kettleRuns = true ∧ s.fld F.KT_TB_STATUS.ABSENT = 0) ∧
    (∃ (s : State), s.kettleRuns = true ∧ s.fld F.KT_TB_STATUS.ABSENT = 1) ∧
    (∃ (s : State) (i : Nat), i < 2 ∧ s.kettleRuns = true) ∧
    (∃ (s : State), s.hostOpen) ∧
    (∃ (s : State) (n dom : Nat) (sp : Bool), n < 8 ∧ dom < 8 ∧ s.hostOpen ∧ s.domEnabled dom = true ∧ diff48 (s.alarmTarget n) (ns48 (s.now16 dom)) ≤ 2000000000 * 2 ^ 16 ∧ -(1000000 * 2 ^ 16) ≤ diff48 (s.alarmTarget n) (ns48 (s.now16 dom))) ∧
    (∃ (s : State) (n : Nat), n < 8 ∧ s.fld (F.KT_ALM_CFG.ARM n) = 1) ∧
    (∃ (s : State) (ch d : Nat), ch < 3 ∧ s.hostOpen ∧ (s.mode = Mode.BREEZE ∨ s.mode = Mode.GALE ∨ s.mode = Mode.CALM) ∧ s.fhtDomain = some d ∧ s.fld F.KT_FHT_STATUS.RUN = 0) ∧
    (∃ (s : State) (d : Nat), s.fld F.KT_CFG.FHT_H ≠ 0 ∧ s.fld F.KT_FHT_STATUS.RUN = 0 ∧ s.fhtDomain = some d) ∧
    (∃ (s : State) (fault : Int), s.fld F.KT_FHT_STATUS.RUN = 1) :=
  ⟨⟨st [(F.DEV_MODE.CUR, 4), (F.DEV_MODE.TRANS, 0), (F.KT_TB_STATUS.ABSENT, 0)], 1, by decide +kernel⟩,
    ⟨st [(F.DEV_MODE.CUR, 4), (F.DEV_MODE.TRANS, 0), (F.KT_TB_STATUS.ABSENT, 0)], by decide +kernel⟩,
    ⟨st [(F.DEV_MODE.CUR, 4), (F.DEV_MODE.TRANS, 0), (F.KT_TB_STATUS.ABSENT, 1)], by decide +kernel⟩,
    ⟨st [(F.DEV_MODE.CUR, 4), (F.DEV_MODE.TRANS, 0)], 0, by decide +kernel⟩,
    ⟨st [(F.DEV_MODE.CUR, 6), (F.DEV_MODE.TRANS, 0)], by decide +kernel⟩,
    ⟨st [(F.DEV_MODE.CUR, 5), (F.DEV_MODE.TRANS, 0), (F.KT_DOM_CFG.KIND 0, 2)], 0, 0, false, by decide +kernel⟩,
    ⟨st [(F.DEV_MODE.CUR, 5), (F.DEV_MODE.TRANS, 0), (F.KT_ALM_CFG.ARM 0, 1)], 0, by decide +kernel⟩,
    ⟨st [(F.DEV_MODE.CUR, 6), (F.DEV_MODE.TRANS, 0), (F.KT_DOM_CFG.KIND 0, 1), (F.KT_DOM_STATUS.STATE 0, 3)], 0, 0, by decide +kernel⟩,
    ⟨st [(F.DEV_MODE.CUR, 5), (F.DEV_MODE.TRANS, 0), (F.KT_CFG.FHT_H, 1), (F.KT_DOM_CFG.KIND 7, 1), (F.KT_DOM_STATUS.STATE 7, 3)], 7, by decide +kernel⟩,
    ⟨{ st [(F.DEV_MODE.CUR, 5), (F.DEV_MODE.TRANS, 0), (F.KT_FHT_STATUS.RUN, 1), (F.KT_FHT_STATUS.CH, 2)] with kettle := { Kettle.fresh with fht := { Kettle.fresh.fht with due := true } } }, 0, by decide +kernel⟩⟩

theorem test_meets_SerialCommandsComplete :
    (∃ (s : State) (m : Nat) (a b : BitVec 5) (d : BitVec 16), m < 4 ∧ s.hostOpen ∧ s.fld (F.DEV_MDIO_STATUS.BUSY m) = 0) ∧
    (∃ (s : State) (m : Nat) (a b : BitVec 5) (d : BitVec 16), m < 4 ∧ s.hostOpen ∧ s.fld (F.DEV_MDIO_STATUS.BUSY m) = 0) ∧
    (∃ (s : State) (m : Nat) (a b : BitVec 5), m < 4 ∧ s.hostOpen ∧ s.fld (F.DEV_MDIO_STATUS.BUSY m) = 0) ∧
    (∃ (s : State) (m : Nat) (a b : BitVec 5), m < 4 ∧ s.hostOpen ∧ s.fld (F.DEV_MDIO_STATUS.BUSY m) = 0) ∧
    (∃ (s : State) (m : Nat) (d : BitVec 16), m < 4 ∧ (s.host.mdioOp.get? m).isSome = true) ∧
    (∃ (s : State) (n : BitVec 13), s.hostOpen ∧ s.fld F.DEV_FLASH_STATUS.BUSY = 0 ∧ s.flashLoading = false ∧ s.flashBeyond (s.fld F.DEV_FLASH_ADDR.ADDR) = false ∧ n ≠ 0 ∧ n.toNat ≤ 256) ∧
    (∃ (s : State) (n : BitVec 13) (key : BitVec 16), s.hostOpen ∧ s.fld F.DEV_FLASH_STATUS.BUSY = 0 ∧ s.flashLoading = false ∧ s.flashBeyond (s.fld F.DEV_FLASH_ADDR.ADDR) = false ∧ n ≠ 0 ∧ s.fld F.DEV_FLASH_ADDR.ADDR % 256 + n.toNat ≤ 256 ∧ key = 0xF1A5) ∧
    (∃ (s : State) (key : BitVec 16), s.hostOpen ∧ s.fld F.DEV_FLASH_STATUS.BUSY = 0 ∧ s.flashLoading = false ∧ s.flashBeyond (s.fld F.DEV_FLASH_ADDR.ADDR) = false ∧ s.fld F.DEV_FLASH_ADDR.ADDR % 4096 = 0 ∧ key = 0xF1A5) ∧
    (∃ (s : State) (key : BitVec 16), s.hostOpen ∧ s.fld F.DEV_FLASH_STATUS.BUSY = 0 ∧ s.flashLoading = false ∧ s.flashBeyond (s.fld F.DEV_FLASH_ADDR.ADDR) = false ∧ s.fld F.DEV_FLASH_ADDR.ADDR % 65536 = 0 ∧ key = 0xF1A5) ∧
    (∃ (s : State) (n : BitVec 13), s.hostOpen ∧ s.fld F.DEV_FLASH_STATUS.BUSY = 0 ∧ s.flashLoading = false ∧ n ≠ 0 ∧ n.toNat ≤ 256) ∧
    (∃ (s : State) (bs : List Byte) (b : Bool) (m : BitVec 32), s.host.flashOp ≠ 0) ∧
    (∃ (s : State), 2 ≤ s.host.flashOp ∧ s.host.flashOp ≤ 4) :=
  ⟨⟨{ st [(F.DEV_MODE.CUR, 5), (F.DEV_MODE.TRANS, 0)] with pcie := ⟨true, true, true, false⟩ }, 0, 0, 31, 0, by decide +kernel⟩,
    ⟨{ st [(F.DEV_MODE.CUR, 5), (F.DEV_MODE.TRANS, 0)] with pcie := ⟨true, true, true, false⟩ }, 0, 0, 31, 0, by decide +kernel⟩,
    ⟨{ st [(F.DEV_MODE.CUR, 5), (F.DEV_MODE.TRANS, 0)] with pcie := ⟨true, true, true, false⟩ }, 0, 0, 31, by decide +kernel⟩,
    ⟨{ st [(F.DEV_MODE.CUR, 5), (F.DEV_MODE.TRANS, 0)] with pcie := ⟨true, true, true, false⟩ }, 0, 0, 31, by decide +kernel⟩,
    ⟨{ st [(F.DEV_MODE.CUR, 5), (F.DEV_MODE.TRANS, 0), (F.DEV_MDIO_STATUS.BUSY 0, 1)] with pcie := ⟨true, true, true, false⟩, host := { State.reset.host with mdioOp := SMap.empty.put 0 (0, 1, 1, 0) } }, 0, 0, by decide +kernel⟩,
    ⟨{ st [(F.DEV_MODE.CUR, 5), (F.DEV_MODE.TRANS, 0)] with pcie := ⟨true, true, true, false⟩ }, 1, by decide +kernel⟩,
    ⟨{ st [(F.DEV_MODE.CUR, 5), (F.DEV_MODE.TRANS, 0), (F.DEV_FLASH_ADDR.ADDR, 255)] with pcie := ⟨true, true, true, false⟩ }, 1, 0xF1A5, by decide +kernel⟩,
    ⟨{ st [(F.DEV_MODE.CUR, 5), (F.DEV_MODE.TRANS, 0)] with pcie := ⟨true, true, true, false⟩ }, 0xF1A5, by decide +kernel⟩,
    ⟨{ st [(F.DEV_MODE.CUR, 5), (F.DEV_MODE.TRANS, 0)] with pcie := ⟨true, true, true, false⟩ }, 0xF1A5, by decide +kernel⟩,
    ⟨{ st [(F.DEV_MODE.CUR, 5), (F.DEV_MODE.TRANS, 0)] with pcie := ⟨true, true, true, false⟩ }, 1, by decide +kernel⟩,
    ⟨{ st [(F.DEV_MODE.CUR, 5), (F.DEV_MODE.TRANS, 0)] with pcie := ⟨true, true, true, false⟩, host := { State.reset.host with flashOp := 5, flashLen := 1 } }, [7], false, 1, by decide +kernel⟩,
    ⟨{ st [(F.DEV_MODE.CUR, 5), (F.DEV_MODE.TRANS, 0)] with pcie := ⟨true, true, true, false⟩, host := { State.reset.host with flashOp := 2 } }, by decide +kernel⟩⟩

end Sys2Proof.Tests
end

section
/-! Which commands answer (O3): a command that names only what the device has has a next state, and any other is the fault `noSuchInstance`. -/

namespace Sys2Proof.Machine

/-! ## The two kinds of step -/

theorem step_of_nil {s : State} (h : s.pending = []) : step s = .next s.tick := by
  unfold step
  rw [h]

theorem step_of_cons {s : State} {c : Instr} {q : List Instr} (h : s.pending = c :: q) : step s = exec c { s with pending := q } := by
  unfold step
  rw [h]

/-! ## Outcomes that are next states -/

theorem Completes.next (t : State) : Completes (.next t) := ⟨t, rfl⟩

theorem Completes.ite {c : Prop} [Decidable c] {x y : Host.Outcome State Fault Refusal} (hx : Completes x) (hy : Completes y) :
    Completes (if c then x else y) := by
  split
  · exact hx
  · exact hy

/-! ## Outcomes that answer where a check holds -/

/-- The outcome is a next state where `ok` holds, and else the fault of a unit that the device does not have. -/
def Answers (ok : Bool) (o : Host.Outcome State Fault Refusal) : Prop :=
  (ok = true → Completes o) ∧ (ok = false → o = .fault .noSuchInstance)

theorem Answers.total {o : Host.Outcome State Fault Refusal} (h : Completes o) : Answers true o :=
  ⟨fun _ => h, fun h0 => by cases h0⟩

/-- A meaning that stops first where `c`, the negation of the check, holds. -/
theorem Answers.unless {ok : Bool} {c : Prop} [Decidable c] {o : Host.Outcome State Fault Refusal} (hc : c ↔ ok = false) (h : Completes o) :
    Answers ok (if c then .fault .noSuchInstance else o) := by
  refine ⟨fun ht => ?_, fun hf => if_pos (hc.mpr hf)⟩
  rw [if_neg (by simp [hc, ht])]
  exact h

/-- A meaning that acts where `c`, the check, holds and else stops. -/
theorem Answers.when {ok : Bool} {c : Prop} [Decidable c] {o : Host.Outcome State Fault Refusal} (hc : c ↔ ok = true) (h : Completes o) :
    Answers ok (if c then o else .fault .noSuchInstance) := by
  refine ⟨fun ht => ?_, fun hf => if_neg (by simp [hc, hf])⟩
  rw [if_pos (hc.mpr ht)]
  exact h

/-- The check of the number `i` of a unit that the device has `n` times. -/
theorem Answers.below {i n : Nat} {o : Host.Outcome State Fault Refusal} (h : Completes o) :
    Answers (decide (i < n)) (if n ≤ i then .fault .noSuchInstance else o) :=
  .unless (by simp) h

/-! ## Every command -/

theorem execLoaderWatchdogExpiry_completes (s : State) : Completes (execLoaderWatchdogExpiry s) := by
  unfold execLoaderWatchdogExpiry
  dsimp only
  split <;> exact .next _

theorem execPartialImageFetched_completes (img : List Byte) (s : State) : Completes (execPartialImageFetched img s) := by
  unfold execPartialImageFetched
  refine .ite ?_ (.next _)
  dsimp only
  split
  · exact .next _
  · exact .ite (.next _) (.next _)

theorem execRecordWrite_completes (s : State) : Completes (execRecordWrite s) := by
  unfold execRecordWrite
  split
  · exact .next _
  · exact .ite (.ite (.next _) (.next _)) (.next _)

theorem execHtxWriteBack_completes (idx : Nat) (s : State) : Completes (execHtxWriteBack idx s) := by
  unfold execHtxWriteBack
  split <;> exact .next _

theorem execFmGateClose_answers (e : Nat) (s : State) : Answers (decide (e < 5)) (execFmGateClose e s) := by
  refine .below ?_
  split
  · exact .next _
  · refine .ite (.next _) ?_
    dsimp only
    split <;> exact .next _

/-- The commands come in groups: those that name no unit; those that name one unit by its number; those with a check of their own. In a group,
those whose meaning is one next state stand first, then those that branch on a condition, then those that look a unit's state up. -/
theorem exec_answers (c : Instr) (s : State) : Answers c.wf (exec c s) := by
  cases c with
  | pgAonFall | softDeviceReset | perstNRelease | modeReqLull | modeReqBreeze | modeReqGale | modeReqCalm | modeReqProbe | aonClkAbsent
    | fullImageFetch | partialImageAbort | residenceSweep | hostBufferFree | poolLowClear | frerWrite | frerRead | frerReset
    | leadHandover | snapshot | readoutGo | readoutAbort | spoutPop | htxTailWrite | flashRead | flashPageProgram | flashErase4k
    | flashErase64k | flashReadSfdp | tapExtest | tapIdcode | tapSamplePreload | tapClamp | tapHighz | tapExtestPulse | tapExtestTrain
    | aonClkReturn =>
    exact .total (.next _)
  | pgCoreMemFall | resetNAssert | powerUpStart | sliceReset | perstNAssert | functionLevelReset | pcieLinkUp | pcieLinkDown
    | calmDropDone | corePllLoss | aonRateMeasure | imageFetchComplete | shadowCopy | steepPllsLocked | acquisitionLimitExpiry
    | steepExit | lullDrainDone | lullCommit | lullShutdownDone | wakeEvent | lullRailTimeout | wakeRailsGood | wakePllLocked
    | aonHandover | epochBoundary | auditRoundEnd | channelExclusion | handoverForced | timebaseGateEnd | timebaseAbsent
    | timebasePresent | ocxoWarmFall | fhtPeriodicDue | fhtComplete | selectionTick | pullComplete | holdoverRecord | readoutDone
    | htxDescriptorFetched | dumpSample | flashOpDone | flashOpTimeout | ocxoWarmRise | schedulerWatchdogExpiry =>
    refine .total ?_
    repeat' refine .ite ?_ ?_
    all_goals exact .next _
  | loaderWatchdogExpiry => exact .total (execLoaderWatchdogExpiry_completes s)
  | partialImageFetched img => exact .total (execPartialImageFetched_completes img s)
  | recordWrite => exact .total (execRecordWrite_completes s)
  | htxWriteBack idx => exact .total (execHtxWriteBack_completes idx s)
  | portReset | portAdminDown | portAdminUp | partialImageFetch | linearisationDone | laneReset | trunkIdleReq | trunkIdleExit
    | stashMove | twWrite | twDelete | twRead | twRaw | twFlush | fenceSet | gclCommit | gclCommitOff | gclAbort | offsetFeedPush
    | feedCreditGrant | feedCreditRecall | sourceLoss | pairHoldPartner | pairUsePrimary | incrementWrite | fhtStart | syncReceived
    | followUpReceived | delayReqReceived | delayRespReceived | pdelayReqReceived | pdelayRespReceived | pdelayRespFuReceived
    | delayRespTimeout | recalRequest | stampQueueConfig | fmStart | pulseArm | pulseStop | clockOutEnable | clockOutFreqWrite
    | ringHostTrigger | ringRelease | replayArm | replayStop | strainerGo | strainerStop | aliveExpWrite | msixUnmask | spoutCreditGrant
    | spoutCreditRecall | pfSelect | mdioAddress | mdioWrite | mdioReadInc | mdioRead | followUpTimeout | dlyValidExpiry | ttRoleWrite
    | laneLoopPrbsWrite =>
    exact .below (.next _)
  | supplyOutOfRange | partialImageApplied | sliceDrainDone | sliceDrainLimitExpiry | slicePowerUpDone | markerReceived
    | trunkUnitReceived | pointerReceived | reorderTimeout | capReceived | propReceived | ackReceived | nakReceived | trainReceived
    | dataMarkerReceived | idleReqReceived | idleAckReceived | idleReqSend | idleHandshakeComplete | idleActivityDetected
    | idleExitTimeout | trunkSwitchStep | capTimeout | responseTimerExpiry | trainingTimerExpiry | losAssert | losDeassert | lolAssert
    | losLolPersist | laneLockAcquired | firstAttemptTimeout | eyeMeasurement | ingressFrame | moveSecondEnd | ageingVisit | fenceDone
    | egressSelect | pfcFrameReceived | macControlReceived | kettleWatchdogExpiry | channelCopy | readmission | ppsEdge | servoUpdate
    | pairRevert | alarmFire | ptpToHost | syncGridDue | engineFrameSend | offsetWindowClose | rotationSlotBegin | skewMeasurement
    | dllErrorPersist | clockPllLock | clockPllLol | clockRefLoss | candidateInactive | candidateActive | wtrExpiry | esmcPduReceived
    | esmcTimeout | postWindowEnd | replayRecordSend | replayDone | scanEnd | scanPeriodExpiry | aliveDeadlineExpiry | eccSingleError
    | scrubPass | sliceWatchdogExpiry | sliceResetDone | lolDeassert | observeDeviation | wordClockSample =>
    refine .below ?_
    repeat' refine .ite ?_ ?_
    all_goals exact .next _
  | slicePipelineEmpty | learnRequestApply | twCommandDone | gateEntryTransition | gclSwitch | delayReqDue | followUpSend
    | glitchFilterExpiry | takeoverOverlapEnd | reconnectOverlapEnd | pulseEdge | freqMeasurement | mdioOpDone =>
    refine .below ?_
    repeat' split
    all_goals exact .next _
  | fmGateClose e => exact execFmGateClose_answers e s
  | registerWrite | unusedPortWrite | unmappedWrite | aliasWrite | aliasRead | errStatusClear =>
    exact .when Iff.rfl (.next _)
  | spillRefill | pauseExpiry | alarmArm => exact .unless (by simp [Instr.wf]; omega) (.next _)
  | residueTimeout | pauseWatchdogExpiry | wdDropClear | frerRecoveryTimeout | eventInputTransition | temperatureRead =>
    exact .unless (by simp [Instr.wf]; omega) (.ite (.next _) (.next _))
  | trimWrite => exact .below (.next _)
  | stampCreditGrant | stampCreditRecall | stampPop | tapBypass => exact .unless (by simp [Instr.wf]) (.next _)
  | eccDoubleError => exact .unless (by simp [Instr.wf]) (.ite (.next _) (.next _))
  | tapPrivateDebug => exact .when (by simp [Instr.wf]) (.next _)

/-- Settles O3: each command by its check (`exec_answers`), and a step by the command at the front of the queue. -/
theorem wellFormedCommandsComplete : Obligations.WellFormedCommandsComplete := by
  unfold Obligations.WellFormedCommandsComplete
  refine ⟨fun c s => exec_answers c s, fun s hwf => ?_⟩
  cases hq : s.pending with
  | nil =>
    rw [step_of_nil hq]
    exact .next _
  | cons c q =>
    rw [step_of_cons hq]
    exact (exec_answers c _).1 (hwf c (by simp [hq]))

end Sys2Proof.Machine
end

section
/-! What every step does (O1, O4): the law of every command, and the two kinds of step. -/

namespace Sys2Proof.Machine

/-- The mask of every register family. -/
def Mask.regs : Nat := 0x1fffffffffffffffffffffffffffffffffffffffffffffffffffffffffffffffffffffffffffffffffffffff

/-- The mask of every part. -/
def Mask.parts : Nat := 0x1fffff

/-- No command touches the queue or the cycle count, and every command keeps the register file canonical: each by the law of its meaning. -/
theorem exec_law (c : Instr) (s : State) : OutLaw Mask.regs Mask.parts s (exec c s) :=
  match c with
  | .registerWrite a v => execRegisterWrite_law s a v rfl rfl
  | .unusedPortWrite a v => execUnusedPortWrite_law s a v rfl rfl
  | .unmappedWrite a v => execUnmappedWrite_law s a v rfl rfl
  | .aliasWrite a v => execAliasWrite_law s a v rfl rfl
  | .aliasRead a => execAliasRead_law s a rfl rfl
  | .errStatusClear base => execErrStatusClear_law s base rfl rfl
  | .pgAonFall => execPgAonFall_law s rfl rfl
  | .pgCoreMemFall core mem => execPgCoreMemFall_law s core mem rfl rfl
  | .resetNAssert => execResetNAssert_law s rfl rfl
  | .powerUpStart bootSel core mem => execPowerUpStart_law s bootSel core mem rfl rfl
  | .softDeviceReset key => execSoftDeviceReset_law s key rfl rfl
  | .sliceReset mask key => execSliceReset_law s mask key rfl rfl
  | .perstNAssert => execPerstNAssert_law s rfl rfl
  | .perstNRelease => execPerstNRelease_law s rfl rfl
  | .functionLevelReset => execFunctionLevelReset_law s rfl rfl
  | .pcieLinkUp bme msixEnable funcMask => execPcieLinkUp_law s bme msixEnable funcMask rfl rfl
  | .pcieLinkDown bmeOnly => execPcieLinkDown_law s bmeOnly rfl rfl
  | .portReset p => execPortReset_law s p rfl rfl
  | .portAdminDown p => execPortAdminDown_law s p rfl rfl
  | .portAdminUp p => execPortAdminUp_law s p rfl rfl
  | .modeReqLull => execModeReqLull_law s rfl rfl
  | .modeReqBreeze => execModeReqBreeze_law s rfl rfl
  | .modeReqGale => execModeReqGale_law s rfl rfl
  | .modeReqCalm => execModeReqCalm_law s rfl rfl
  | .modeReqProbe => execModeReqProbe_law s rfl rfl
  | .calmDropDone => execCalmDropDone_law s rfl rfl
  | .corePllLoss => execCorePllLoss_law s rfl rfl
  | .supplyOutOfRange rail high => execSupplyOutOfRange_law s rail high rfl rfl
  | .aonClkAbsent => execAonClkAbsent_law s rfl rfl
  | .aonRateMeasure aonCycles => execAonRateMeasure_law s aonCycles rfl rfl
  | .imageFetchComplete src img cal => execImageFetchComplete_law s src img cal rfl rfl
  | .loaderWatchdogExpiry => execLoaderWatchdogExpiry_law s rfl rfl
  | .shadowCopy => execShadowCopy_law s rfl rfl
  | .fullImageFetch => execFullImageFetch_law s rfl rfl
  | .partialImageFetch sl => execPartialImageFetch_law s sl rfl rfl
  | .partialImageAbort => execPartialImageAbort_law s rfl rfl
  | .partialImageFetched img => execPartialImageFetched_law s img rfl rfl
  | .slicePipelineEmpty sl => execSlicePipelineEmpty_law s sl rfl rfl
  | .partialImageApplied sl => execPartialImageApplied_law s sl rfl rfl
  | .steepPllsLocked => execSteepPllsLocked_law s rfl rfl
  | .linearisationDone ch h1 h2 => execLinearisationDone_law s ch h1 h2 rfl rfl
  | .acquisitionLimitExpiry => execAcquisitionLimitExpiry_law s rfl rfl
  | .steepExit => execSteepExit_law s rfl rfl
  | .sliceDrainDone sl => execSliceDrainDone_law s sl rfl rfl
  | .sliceDrainLimitExpiry sl => execSliceDrainLimitExpiry_law s sl rfl rfl
  | .slicePowerUpDone sl cal => execSlicePowerUpDone_law s sl cal rfl rfl
  | .lullDrainDone => execLullDrainDone_law s rfl rfl
  | .lullCommit => execLullCommit_law s rfl rfl
  | .lullShutdownDone => execLullShutdownDone_law s rfl rfl
  | .wakeEvent lanes evts wakeIn supply => execWakeEvent_law s lanes evts wakeIn supply rfl rfl
  | .lullRailTimeout => execLullRailTimeout_law s rfl rfl
  | .wakeRailsGood => execWakeRailsGood_law s rfl rfl
  | .wakePllLocked => execWakePllLocked_law s rfl rfl
  | .aonHandover phi => execAonHandover_law s phi rfl rfl
  | .laneReset l => execLaneReset_law s l rfl rfl
  | .trunkIdleReq l => execTrunkIdleReq_law s l rfl rfl
  | .trunkIdleExit l => execTrunkIdleExit_law s l rfl rfl
  | .markerReceived l pre m t => execMarkerReceived_law s l pre m t rfl rfl
  | .trunkUnitReceived l hdr body t slots => execTrunkUnitReceived_law s l hdr body t slots rfl rfl
  | .pointerReceived l pre ptr => execPointerReceived_law s l pre ptr rfl rfl
  | .reorderTimeout p slots => execReorderTimeout_law s p slots rfl rfl
  | .capReceived l arg rxa => execCapReceived_law s l arg rxa rfl rfl
  | .propReceived l arg => execPropReceived_law s l arg rfl rfl
  | .ackReceived l arg => execAckReceived_law s l arg rfl rfl
  | .nakReceived l arg => execNakReceived_law s l arg rfl rfl
  | .trainReceived l arg rxa => execTrainReceived_law s l arg rxa rfl rfl
  | .dataMarkerReceived l => execDataMarkerReceived_law s l rfl rfl
  | .idleReqReceived l => execIdleReqReceived_law s l rfl rfl
  | .idleAckReceived l => execIdleAckReceived_law s l rfl rfl
  | .idleReqSend l => execIdleReqSend_law s l rfl rfl
  | .idleHandshakeComplete l => execIdleHandshakeComplete_law s l rfl rfl
  | .idleActivityDetected l => execIdleActivityDetected_law s l rfl rfl
  | .idleExitTimeout l => execIdleExitTimeout_law s l rfl rfl
  | .trunkSwitchStep l => execTrunkSwitchStep_law s l rfl rfl
  | .capTimeout l => execCapTimeout_law s l rfl rfl
  | .responseTimerExpiry l => execResponseTimerExpiry_law s l rfl rfl
  | .trainingTimerExpiry l => execTrainingTimerExpiry_law s l rfl rfl
  | .losAssert l => execLosAssert_law s l rfl rfl
  | .losDeassert l => execLosDeassert_law s l rfl rfl
  | .lolAssert l => execLolAssert_law s l rfl rfl
  | .losLolPersist l => execLosLolPersist_law s l rfl rfl
  | .laneLockAcquired l => execLaneLockAcquired_law s l rfl rfl
  | .firstAttemptTimeout l => execFirstAttemptTimeout_law s l rfl rfl
  | .eyeMeasurement l width height => execEyeMeasurement_law s l width height rfl rfl
  | .ingressFrame p bytes t slots => execIngressFrame_law s p bytes t slots rfl rfl
  | .learnRequestApply sl => execLearnRequestApply_law s sl rfl rfl
  | .stashMove sl => execStashMove_law s sl rfl rfl
  | .moveSecondEnd sl => execMoveSecondEnd_law s sl rfl rfl
  | .ageingVisit sl slot => execAgeingVisit_law s sl slot rfl rfl
  | .twWrite w table => execTwWrite_law s w table rfl rfl
  | .twDelete w table => execTwDelete_law s w table rfl rfl
  | .twRead w table => execTwRead_law s w table rfl rfl
  | .twRaw w table => execTwRaw_law s w table rfl rfl
  | .twFlush w table => execTwFlush_law s w table rfl rfl
  | .twCommandDone w => execTwCommandDone_law s w rfl rfl
  | .fenceSet sl fenceEv => execFenceSet_law s sl fenceEv rfl rfl
  | .fenceDone sl => execFenceDone_law s sl rfl rfl
  | .epochBoundary => execEpochBoundary_law s rfl rfl
  | .residueTimeout plane slice id => execResidueTimeout_law s plane slice id rfl rfl
  | .spillRefill slice n cls => execSpillRefill_law s slice n cls rfl rfl
  | .auditRoundEnd => execAuditRoundEnd_law s rfl rfl
  | .residenceSweep => execResidenceSweep_law s rfl rfl
  | .hostBufferFree handle => execHostBufferFree_law s handle rfl rfl
  | .poolLowClear => execPoolLowClear_law s rfl rfl
  | .egressSelect p dep => execEgressSelect_law s p dep rfl rfl
  | .gateEntryTransition p => execGateEntryTransition_law s p rfl rfl
  | .gclCommit p => execGclCommit_law s p rfl rfl
  | .gclCommitOff p => execGclCommitOff_law s p rfl rfl
  | .gclAbort p => execGclAbort_law s p rfl rfl
  | .gclSwitch p => execGclSwitch_law s p rfl rfl
  | .pfcFrameReceived p enable quanta => execPfcFrameReceived_law s p enable quanta rfl rfl
  | .macControlReceived p => execMacControlReceived_law s p rfl rfl
  | .pauseExpiry p c => execPauseExpiry_law s p c rfl rfl
  | .pauseWatchdogExpiry p c => execPauseWatchdogExpiry_law s p c rfl rfl
  | .wdDropClear p c => execWdDropClear_law s p c rfl rfl
  | .frerWrite => execFrerWrite_law s rfl rfl
  | .frerRead => execFrerRead_law s rfl rfl
  | .frerReset => execFrerReset_law s rfl rfl
  | .frerRecoveryTimeout inst => execFrerRecoveryTimeout_law s inst rfl rfl
  | .channelExclusion chs => execChannelExclusion_law s chs rfl rfl
  | .kettleWatchdogExpiry ch => execKettleWatchdogExpiry_law s ch rfl rfl
  | .channelCopy ch => execChannelCopy_law s ch rfl rfl
  | .readmission ch => execReadmission_law s ch rfl rfl
  | .leadHandover => execLeadHandover_law s rfl rfl
  | .handoverForced => execHandoverForced_law s rfl rfl
  | .timebaseGateEnd cycles => execTimebaseGateEnd_law s cycles rfl rfl
  | .timebaseAbsent => execTimebaseAbsent_law s rfl rfl
  | .timebasePresent => execTimebasePresent_law s rfl rfl
  | .ocxoWarmFall => execOcxoWarmFall_law s rfl rfl
  | .ppsEdge n => execPpsEdge_law s n rfl rfl
  | .offsetFeedPush d hi => execOffsetFeedPush_law s d hi rfl rfl
  | .feedCreditGrant d n => execFeedCreditGrant_law s d n rfl rfl
  | .feedCreditRecall d => execFeedCreditRecall_law s d rfl rfl
  | .servoUpdate d => execServoUpdate_law s d rfl rfl
  | .sourceLoss d => execSourceLoss_law s d rfl rfl
  | .pairRevert k => execPairRevert_law s k rfl rfl
  | .pairHoldPartner k => execPairHoldPartner_law s k rfl rfl
  | .pairUsePrimary k => execPairUsePrimary_law s k rfl rfl
  | .incrementWrite d hi => execIncrementWrite_law s d hi rfl rfl
  | .fhtStart ch => execFhtStart_law s ch rfl rfl
  | .fhtPeriodicDue => execFhtPeriodicDue_law s rfl rfl
  | .fhtComplete fault => execFhtComplete_law s fault rfl rfl
  | .alarmArm n domain spout => execAlarmArm_law s n domain spout rfl rfl
  | .alarmFire n => execAlarmFire_law s n rfl rfl
  | .snapshot => execSnapshot_law s rfl rfl
  | .syncReceived p m t => execSyncReceived_law s p m t rfl rfl
  | .followUpReceived p m t => execFollowUpReceived_law s p m t rfl rfl
  | .delayReqReceived p m t => execDelayReqReceived_law s p m t rfl rfl
  | .delayRespReceived p m t => execDelayRespReceived_law s p m t rfl rfl
  | .pdelayReqReceived p m t => execPdelayReqReceived_law s p m t rfl rfl
  | .pdelayRespReceived p m t => execPdelayRespReceived_law s p m t rfl rfl
  | .pdelayRespFuReceived p m t => execPdelayRespFuReceived_law s p m t rfl rfl
  | .ptpToHost p frame t => execPtpToHost_law s p frame t rfl rfl
  | .syncGridDue p => execSyncGridDue_law s p rfl rfl
  | .delayReqDue p => execDelayReqDue_law s p rfl rfl
  | .followUpSend p => execFollowUpSend_law s p rfl rfl
  | .engineFrameSend p dep => execEngineFrameSend_law s p dep rfl rfl
  | .delayRespTimeout p => execDelayRespTimeout_law s p rfl rfl
  | .offsetWindowClose p => execOffsetWindowClose_law s p rfl rfl
  | .trimWrite p rx v => execTrimWrite_law s p rx v rfl rfl
  | .eventInputTransition n level tap => execEventInputTransition_law s n level tap rfl rfl
  | .glitchFilterExpiry n => execGlitchFilterExpiry_law s n rfl rfl
  | .rotationSlotBegin g => execRotationSlotBegin_law s g rfl rfl
  | .takeoverOverlapEnd g meanDiff => execTakeoverOverlapEnd_law s g meanDiff rfl rfl
  | .reconnectOverlapEnd g meanDiff => execReconnectOverlapEnd_law s g meanDiff rfl rfl
  | .skewMeasurement sl skew => execSkewMeasurement_law s sl skew rfl rfl
  | .dllErrorPersist ch dll => execDllErrorPersist_law s ch dll rfl rfl
  | .recalRequest ch => execRecalRequest_law s ch rfl rfl
  | .stampQueueConfig ch v => execStampQueueConfig_law s ch v rfl rfl
  | .stampCreditGrant ch n bar2 => execStampCreditGrant_law s ch n bar2 rfl rfl
  | .stampCreditRecall ch bar2 => execStampCreditRecall_law s ch bar2 rfl rfl
  | .stampPop ch bar2 => execStampPop_law s ch bar2 rfl rfl
  | .fmStart e v => execFmStart_law s e v rfl rfl
  | .fmGateClose e => execFmGateClose_law s e rfl rfl
  | .pulseArm n => execPulseArm_law s n rfl rfl
  | .pulseStop n => execPulseStop_law s n rfl rfl
  | .pulseEdge n => execPulseEdge_law s n rfl rfl
  | .clockOutEnable k en => execClockOutEnable_law s k en rfl rfl
  | .clockOutFreqWrite k hz => execClockOutFreqWrite_law s k hz rfl rfl
  | .clockPllLock k => execClockPllLock_law s k rfl rfl
  | .clockPllLol k => execClockPllLol_law s k rfl rfl
  | .clockRefLoss k => execClockRefLoss_law s k rfl rfl
  | .candidateInactive n => execCandidateInactive_law s n rfl rfl
  | .candidateActive n => execCandidateActive_law s n rfl rfl
  | .freqMeasurement n y => execFreqMeasurement_law s n y rfl rfl
  | .wtrExpiry n => execWtrExpiry_law s n rfl rfl
  | .esmcPduReceived p ssm => execEsmcPduReceived_law s p ssm rfl rfl
  | .esmcTimeout n => execEsmcTimeout_law s n rfl rfl
  | .selectionTick delta => execSelectionTick_law s delta rfl rfl
  | .pullComplete => execPullComplete_law s rfl rfl
  | .holdoverRecord steer => execHoldoverRecord_law s steer rfl rfl
  | .recordWrite => execRecordWrite_law s rfl rfl
  | .postWindowEnd n => execPostWindowEnd_law s n rfl rfl
  | .ringHostTrigger n => execRingHostTrigger_law s n rfl rfl
  | .ringRelease n => execRingRelease_law s n rfl rfl
  | .readoutGo => execReadoutGo_law s rfl rfl
  | .readoutAbort => execReadoutAbort_law s rfl rfl
  | .readoutDone => execReadoutDone_law s rfl rfl
  | .replayArm r => execReplayArm_law s r rfl rfl
  | .replayStop r => execReplayStop_law s r rfl rfl
  | .replayRecordSend r => execReplayRecordSend_law s r rfl rfl
  | .replayDone r => execReplayDone_law s r rfl rfl
  | .strainerGo k => execStrainerGo_law s k rfl rfl
  | .strainerStop k => execStrainerStop_law s k rfl rfl
  | .scanEnd k corrupt => execScanEnd_law s k corrupt rfl rfl
  | .scanPeriodExpiry k => execScanPeriodExpiry_law s k rfl rfl
  | .aliveExpWrite k v => execAliveExpWrite_law s k v rfl rfl
  | .aliveDeadlineExpiry k => execAliveDeadlineExpiry_law s k rfl rfl
  | .eccSingleError m => execEccSingleError_law s m rfl rfl
  | .eccDoubleError hit word => execEccDoubleError_law s hit word rfl rfl
  | .scrubPass m => execScrubPass_law s m rfl rfl
  | .sliceWatchdogExpiry sl => execSliceWatchdogExpiry_law s sl rfl rfl
  | .schedulerWatchdogExpiry => execSchedulerWatchdogExpiry_law s rfl rfl
  | .msixUnmask v => execMsixUnmask_law s v rfl rfl
  | .spoutPop => execSpoutPop_law s rfl rfl
  | .spoutCreditGrant c n => execSpoutCreditGrant_law s c n rfl rfl
  | .spoutCreditRecall c => execSpoutCreditRecall_law s c rfl rfl
  | .htxTailWrite v => execHtxTailWrite_law s v rfl rfl
  | .htxDescriptorFetched d frame => execHtxDescriptorFetched_law s d frame rfl rfl
  | .htxWriteBack idx => execHtxWriteBack_law s idx rfl rfl
  | .pfSelect n v => execPfSelect_law s n v rfl rfl
  | .dumpSample prevWritten => execDumpSample_law s prevWritten rfl rfl
  | .mdioAddress m prtad devad data => execMdioAddress_law s m prtad devad data rfl rfl
  | .mdioWrite m prtad devad data => execMdioWrite_law s m prtad devad data rfl rfl
  | .mdioReadInc m prtad devad => execMdioReadInc_law s m prtad devad rfl rfl
  | .mdioRead m prtad devad => execMdioRead_law s m prtad devad rfl rfl
  | .mdioOpDone m data => execMdioOpDone_law s m data rfl rfl
  | .flashRead len => execFlashRead_law s len rfl rfl
  | .flashPageProgram len key => execFlashPageProgram_law s len key rfl rfl
  | .flashErase4k key => execFlashErase4k_law s key rfl rfl
  | .flashErase64k key => execFlashErase64k_law s key rfl rfl
  | .flashReadSfdp len => execFlashReadSfdp_law s len rfl rfl
  | .flashOpDone data failed sizeMib => execFlashOpDone_law s data failed sizeMib rfl rfl
  | .flashOpTimeout => execFlashOpTimeout_law s rfl rfl
  | .tapExtest => execTapExtest_law s rfl rfl
  | .tapIdcode => execTapIdcode_law s rfl rfl
  | .tapSamplePreload => execTapSamplePreload_law s rfl rfl
  | .tapClamp => execTapClamp_law s rfl rfl
  | .tapHighz => execTapHighz_law s rfl rfl
  | .tapExtestPulse => execTapExtestPulse_law s rfl rfl
  | .tapExtestTrain => execTapExtestTrain_law s rfl rfl
  | .tapPrivateDebug code => execTapPrivateDebug_law s code rfl rfl
  | .tapBypass code => execTapBypass_law s code rfl rfl
  | .temperatureRead tj mem => execTemperatureRead_law s tj mem rfl rfl
  | .ocxoWarmRise => execOcxoWarmRise_law s rfl rfl
  | .aonClkReturn => execAonClkReturn_law s rfl rfl
  | .sliceResetDone sl => execSliceResetDone_law s sl rfl rfl
  | .lolDeassert l => execLolDeassert_law s l rfl rfl
  | .observeDeviation ch => execObserveDeviation_law s ch rfl rfl
  | .followUpTimeout p => execFollowUpTimeout_law s p rfl rfl
  | .dlyValidExpiry p => execDlyValidExpiry_law s p rfl rfl
  | .wordClockSample ch tx ui tap => execWordClockSample_law s ch tx ui tap rfl rfl
  | .ttRoleWrite p v => execTtRoleWrite_law s p v rfl rfl
  | .laneLoopPrbsWrite l loop prbs => execLaneLoopPrbsWrite_law s l loop prbs rfl rfl

/-- A cycle without a command counts one cycle; beside it, it too leaves the queue and keeps the register file canonical. -/
theorem State.tick_law_full (s : State) : Law Mask.regs Mask.parts { s with cycle := s.cycle + 1 } s.tick := s.tick_law rfl rfl

theorem exec_next_law {c : Instr} {s t : State} (h : exec c s = .next t) : Law Mask.regs Mask.parts s t := by
  have hlaw := exec_law c s
  rwa [h] at hlaw

/-- What every step does to the queue, the cycle count and the form of the register file. -/
theorem step_next {s t : State} (h : step s = .next t) :
    t.pending = s.pending.tail ∧ t.cycle = s.cycle + (if s.pending = [] then 1 else 0) ∧ (s.regsCanonical → t.regsCanonical) := by
  cases hq : s.pending with
  | nil =>
    rw [step_of_nil hq] at h
    cases h
    have hlaw := s.tick_law_full
    exact ⟨hlaw.pending.trans hq, hlaw.cycle, hlaw.canon⟩
  | cons c q =>
    rw [step_of_cons hq] at h
    have hlaw := exec_next_law h
    exact ⟨hlaw.pending, hlaw.cycle, hlaw.canon⟩

/-- Settles O1. -/
theorem stepRunsTheFrontCommand : Obligations.StepRunsTheFrontCommand := by
  unfold Obligations.StepRunsTheFrontCommand
  refine ⟨fun s c q hq => step_of_cons hq, fun s hq => ⟨s.tick, step_of_nil hq, ?_⟩⟩
  have hlaw := s.tick_law_full
  exact ⟨hlaw.pending.trans hq, hlaw.cycle⟩

/-- Settles O4: a step leaves the tail of the queue, whose commands were waiting before. -/
theorem stepsKeepTheQueueAndTheRegisterFile : Obligations.StepsKeepTheQueueAndTheRegisterFile := by
  unfold Obligations.StepsKeepTheQueueAndTheRegisterFile
  intro s t hwf hcanon hstep
  obtain ⟨hpending, hcycle, hkeep⟩ := step_next hstep
  refine ⟨fun c hc => hwf c ?_, hkeep hcanon, hpending, hcycle⟩
  rw [hpending] at hc
  exact List.mem_of_mem_tail hc

end Sys2Proof.Machine
end

section
/-! Error registers (R8 to R11): what recording an error leaves in ERR_STATUS and ERR_OFS and what it keeps (O7), and which of the broken rules a
checked access records (O8). -/

namespace Sys2Proof.Machine

/-! ## Reports to the host -/

/-- An offset in the mask of one family is in that family. -/
theorem InMask.has {k a : Nat} {r : RegSet} (hk : k ≠ 0) (hr : families[k]? = some r) (h : InMask (2 ^ k) a) : r.Has a := by
  rcases h with h0 | ⟨j, r', hj, hr', ha⟩
  · simp [hk] at h0
  · obtain rfl : k = j := by simpa [Nat.testBit_two_pow] using hj
    obtain rfl : r = r' := Option.some.inj (hr.symm.trans hr')
    exact ha

/-- The family of DEV_IRQ_STATUS has no other register. -/
theorem eq_irqStatus_of_inMask {a : Nat} (h : InMask (2 ^ 1) a) : a = Reg.DEV_IRQ_STATUS := by
  obtain ⟨i, j, -, -, ha⟩ := InMask.has (r := ⟨0x200, 0, 1, 0, 1⟩) (by decide) rfl h
  simpa [Reg.DEV_IRQ_STATUS] using ha

theorem eq_pfCnt_of_inMask {a : Nat} (h : InMask (2 ^ 4) a) : ∃ n, a = Reg.PF_CNT n := by
  obtain ⟨i, j, hi, -, ha⟩ := InMask.has (r := ⟨0xb00200, 8, 64, 0, 1⟩) (by decide) rfl h
  dsimp only at hi ha
  exact ⟨i, by unfold Reg.PF_CNT; omega⟩

theorem reportPart_of_partIn {p : Part} (h : PartIn 0x100004 p) : p ∈ [Part.irq, .spout, .out] := by
  revert h
  unfold PartIn
  cases p <;> decide

/-! ## What stays -/

theorem Keeps.keepsRep {own : List Nat} {ps : List Part} {s t : State} (h : Keeps own ps s t) : KeepsRep own ps s t :=
  ⟨fun a ha _ => h.1 a ha, fun p hp => h.2 p fun hm => hp (List.mem_append_left _ hm)⟩

theorem KeepsRep.trans {own : List Nat} {ps : List Part} {s t u : State} (h1 : KeepsRep own ps s t) (h2 : KeepsRep own ps t u) :
    KeepsRep own ps s u :=
  ⟨fun a ha hr => (h2.1 a ha hr).trans (h1.1 a ha hr), fun p hp => (h1.2 p hp).trans (h2.2 p hp)⟩

/-- A law that names only registers and parts of the report. -/
theorem KeepsRep.of_law {W : Nat} {own : List Nat} {s t : State} (h : Law W 0x100004 s t) (hW : ∀ a, InMask W a → Reporting a) :
    KeepsRep own [] s t :=
  ⟨fun a _ hr => h.regs a fun hm => hr (hW a hm), fun p hp => h.parts p fun hm => hp (reportPart_of_partIn hm)⟩

theorem Keeps.wr (s : State) {own : List Nat} (ps : List Part) {a : Nat} (v : Reg64) (ha : a ∈ own) : Keeps own ps s (s.wr a v) :=
  ⟨fun _ hb => s.rd_wr_ne v fun he => hb (he ▸ ha), fun p _ => by cases p <;> rfl⟩

theorem Keeps.noteErr (s : State) (own : List Nat) (ps : List Part) (base v ofs : Nat) : Keeps own ps s (s.noteErr base v ofs) :=
  ⟨fun _ _ => rfl, fun p _ => by cases p <;> rfl⟩

theorem State.rd_raiseCause_ne (s : State) (c : Nat) {a : Nat} (h : a ≠ Reg.DEV_IRQ_STATUS) : (s.raiseCause c).rd a = s.rd a :=
  (State.raiseCause_law (W := 2 ^ 1) (P := 0x100004) (Law.refl _ _ s) c rfl rfl).regs a fun hm => h (eq_irqStatus_of_inMask hm)

theorem State.raiseCause_keepsRep (s : State) (own : List Nat) (c : Nat) : KeepsRep own [] s (s.raiseCause c) :=
  .of_law (State.raiseCause_law (W := 2 ^ 1) (Law.refl _ _ s) c rfl rfl) fun _ hm => .inl (eq_irqStatus_of_inMask hm)

/-- Counting a request touches no register but event counters. -/
theorem State.received_law_pfCnt (s : State) (a : Acc) : Law (2 ^ 4) 0x100004 s (s.received a) := by
  unfold State.received
  exact Law.ite (fun _ => Law.refl _ _ s) fun _ => State.pfEvent_law (Law.refl _ _ s) _ _ _ rfl rfl

theorem State.rd_received (s : State) (acc : Acc) {a : Nat} (h : ∀ n, a ≠ Reg.PF_CNT n) : (s.received acc).rd a = s.rd a :=
  (s.received_law_pfCnt acc).regs a fun hm => let ⟨n, hn⟩ := eq_pfCnt_of_inMask hm; h n hn

theorem State.received_keepsRep (s : State) (own : List Nat) (acc : Acc) : KeepsRep own [] s (s.received acc) :=
  .of_law (s.received_law_pfCnt acc) fun _ hm => .inr (.inr (.inr (eq_pfCnt_of_inMask hm)))

/-! ## Recording an error -/

/-- The word that the first error of an access leaves in ERR_STATUS. -/
def Acc.errWord (a : Acc) (code : Nat) : Nat := code + b2n a.isWrite * 2 ^ 16 + b2n a.viaAlias * 2 ^ 17 + b2n a.bar2 * 2 ^ 18

theorem b2n_lt (b : Bool) : b2n b < 2 := by cases b <;> decide

/-- The fields of the word: CODE, OVF, WR, ALIAS and BAR2. -/
theorem Acc.bitsOf_errWord (a : Acc) {code : Nat} (h : code < 256) :
    bitsOf (BitVec.ofNat 64 (a.errWord code)) 7 0 = code ∧ bitsOf (BitVec.ofNat 64 (a.errWord code)) 15 8 = 0 ∧
    bitsOf (BitVec.ofNat 64 (a.errWord code)) 16 16 = b2n a.isWrite ∧ bitsOf (BitVec.ofNat 64 (a.errWord code)) 17 17 = b2n a.viaAlias ∧
    bitsOf (BitVec.ofNat 64 (a.errWord code)) 18 18 = b2n a.bar2 := by
  have hw := b2n_lt a.isWrite
  have ha := b2n_lt a.viaAlias
  have hb := b2n_lt a.bar2
  simp only [bitsOf, Acc.errWord, BitVec.toNat_ofNat]
  omega

theorem placeOf_block {x : Nat} (h : x < 0xC00000) : placeOf x = .block (x / 0x100000) := if_pos h

/-- The error register of a device-level block stands at the block's base. -/
theorem blockBase_of_hasErrStatus {base : Nat} (h : hasErrStatus base = true) (hlt : base < 0xC00000) : base % 0x100000 = 0 := by
  simpa [hasErrStatus, placeOf_block hlt] using h

/-- No error register has the offset of DEV_IRQ_STATUS. -/
theorem errRegs_ne_irqStatus {base : Nat} (h : hasErrStatus base = true) :
    Reg.ERR_STATUS base ≠ Reg.DEV_IRQ_STATUS ∧ Reg.ERR_OFS base ≠ Reg.DEV_IRQ_STATUS := by
  have hbase := blockBase_of_hasErrStatus h
  unfold Reg.ERR_STATUS Reg.ERR_OFS Reg.DEV_IRQ_STATUS
  omega

/-- No ERR_STATUS has the offset of an event counter. -/
theorem errStatus_ne_pfCnt {base : Nat} (h : hasErrStatus base = true) (n : Nat) : Reg.ERR_STATUS base ≠ Reg.PF_CNT n := by
  have hbase := blockBase_of_hasErrStatus h
  unfold Reg.ERR_STATUS Reg.PF_CNT
  omega

theorem State.recordErr_of_clear {s : State} {a : Acc} (code : Nat) (h : s.fld (F.ERR_STATUS.CODE a.base) = 0) :
    s.recordErr a code =
      (((s.noteErr a.base (a.errWord code) (a.ofs % 2 ^ 26)).wr (Reg.ERR_STATUS a.base) (BitVec.ofNat 64 (a.errWord code))).wr
        (Reg.ERR_OFS a.base) (BitVec.ofNat 64 (a.ofs % 2 ^ 26))).raiseCause Irq.ERR :=
  if_pos h

theorem State.recordErr_of_held {s : State} {a : Acc} (code : Nat) (h : s.fld (F.ERR_STATUS.CODE a.base) ≠ 0) :
    s.recordErr a code = (s.noteErr a.base (a.errWord code) (a.ofs % 2 ^ 26)).satAdd (F.ERR_STATUS.OVF a.base) 1 :=
  if_neg h

theorem State.rd_recordErr_status {s : State} {a : Acc} (code : Nat) (hb : hasErrStatus a.base = true)
    (h : s.fld (F.ERR_STATUS.CODE a.base) = 0) : (s.recordErr a code).rd (Reg.ERR_STATUS a.base) = BitVec.ofNat 64 (a.errWord code) := by
  rw [State.recordErr_of_clear code h, State.rd_raiseCause_ne _ _ (errRegs_ne_irqStatus hb).1,
    State.rd_wr_ne _ _ (by simp [Reg.ERR_STATUS, Reg.ERR_OFS]), State.rd_wr_self]

theorem State.rd_recordErr_ofs {s : State} {a : Acc} (code : Nat) (hb : hasErrStatus a.base = true)
    (h : s.fld (F.ERR_STATUS.CODE a.base) = 0) : (s.recordErr a code).rd (Reg.ERR_OFS a.base) = BitVec.ofNat 64 (a.ofs % 2 ^ 26) := by
  rw [State.recordErr_of_clear code h, State.rd_raiseCause_ne _ _ (errRegs_ne_irqStatus hb).2, State.rd_wr_self]

/-- The first error after a clear: code, offset and flags of the access, no overflow. -/
theorem State.recordErr_first {s : State} {a : Acc} {code : Nat} (hb : hasErrStatus a.base = true) (hc : code < 256)
    (h : s.fld (F.ERR_STATUS.CODE a.base) = 0) :
    (s.recordErr a code).fld (F.ERR_STATUS.CODE a.base) = code ∧ (s.recordErr a code).fld (F.ERR_OFS.OFS a.base) = a.ofs % 2 ^ 26 ∧
    (s.recordErr a code).fld (F.ERR_STATUS.WR a.base) = b2n a.isWrite ∧ (s.recordErr a code).fld (F.ERR_STATUS.ALIAS a.base) = b2n a.viaAlias ∧
    (s.recordErr a code).fld (F.ERR_STATUS.BAR2 a.base) = b2n a.bar2 ∧ (s.recordErr a code).fld (F.ERR_STATUS.OVF a.base) = 0 := by
  have hst := State.rd_recordErr_status code hb h
  have hof := State.rd_recordErr_ofs code hb h
  obtain ⟨hcode, hovf, hwr, halias, hbar2⟩ := a.bitsOf_errWord hc
  simp only [State.fld, F.ERR_STATUS.CODE, F.ERR_STATUS.OVF, F.ERR_STATUS.WR, F.ERR_STATUS.ALIAS, F.ERR_STATUS.BAR2, F.ERR_OFS.OFS, hst, hof]
  refine ⟨hcode, ?_, hwr, halias, hbar2, hovf⟩
  simp only [bitsOf, BitVec.toNat_ofNat]
  omega

/-- A later error: only the overflow count grows, up to 255. -/
theorem State.recordErr_later {s : State} {a : Acc} (code : Nat) (h : s.fld (F.ERR_STATUS.CODE a.base) ≠ 0) :
    (s.recordErr a code).fld (F.ERR_STATUS.CODE a.base) = s.fld (F.ERR_STATUS.CODE a.base) ∧
    (s.recordErr a code).rd (Reg.ERR_OFS a.base) = s.rd (Reg.ERR_OFS a.base) ∧
    (s.recordErr a code).fld (F.ERR_STATUS.WR a.base) = s.fld (F.ERR_STATUS.WR a.base) ∧
    (s.recordErr a code).fld (F.ERR_STATUS.ALIAS a.base) = s.fld (F.ERR_STATUS.ALIAS a.base) ∧
    (s.recordErr a code).fld (F.ERR_STATUS.BAR2 a.base) = s.fld (F.ERR_STATUS.BAR2 a.base) ∧
    (s.recordErr a code).fld (F.ERR_STATUS.OVF a.base) = min (s.fld (F.ERR_STATUS.OVF a.base) + 1) 255 := by
  have hother : ∀ hi lo, lo ≤ hi → hi < 8 ∨ 15 < lo →
      (s.recordErr a code).fld ⟨Reg.ERR_STATUS a.base, hi, lo⟩ = s.fld ⟨Reg.ERR_STATUS a.base, hi, lo⟩ := by
    intro hi lo hl hd
    rw [State.recordErr_of_held code h]
    exact State.fld_setFld_bits _ _ _ _ (by decide : 15 < 64) (by decide : 8 ≤ 15) hl rfl hd
  refine ⟨hother 7 0 (by decide) (by decide), ?_, hother 16 16 le_rfl (by decide), hother 17 17 le_rfl (by decide),
    hother 18 18 le_rfl (by decide), ?_⟩
  · rw [State.recordErr_of_held code h]
    exact State.rd_setFld_ne _ _ _ (by simp [Reg.ERR_STATUS, Reg.ERR_OFS, F.ERR_STATUS.OVF])
  · rw [State.recordErr_of_held code h]
    refine (State.fld_setFld_self _ _ _ (by decide : 15 < 64) (by decide : 8 ≤ 15)).trans ?_
    change min (s.fld (F.ERR_STATUS.OVF a.base) + 1) 255 % 256 = _
    omega

/-- Beside the report to the host, recording an error changes the two error registers only. -/
theorem State.recordErr_keepsRep (s : State) (a : Acc) (code : Nat) :
    KeepsRep [Reg.ERR_STATUS a.base, Reg.ERR_OFS a.base] [] s (s.recordErr a code) := by
  have hnote := (Keeps.noteErr s [Reg.ERR_STATUS a.base, Reg.ERR_OFS a.base] [] a.base (a.errWord code) (a.ofs % 2 ^ 26)).keepsRep
  by_cases h : s.fld (F.ERR_STATUS.CODE a.base) = 0
  · rw [State.recordErr_of_clear code h]
    exact ((hnote.trans (Keeps.wr _ [] _ (by simp)).keepsRep).trans (Keeps.wr _ [] _ (by simp)).keepsRep).trans (State.raiseCause_keepsRep _ _ _)
  · rw [State.recordErr_of_held code h]
    exact hnote.trans (Keeps.wr _ [] _ (by simp [F.ERR_STATUS.OVF])).keepsRep

/-- Settles O7, by the two cases of the register's code. -/
theorem errorRegisterHoldsTheFirstError : Obligations.ErrorRegisterHoldsTheFirstError := by
  unfold Obligations.ErrorRegisterHoldsTheFirstError
  intro s a code hb _ hc
  exact ⟨State.recordErr_first hb hc, State.recordErr_later code⟩

/-! ## The rules of an access -/

theorem broke_iff {l : List (Bool × Nat)} {c : Nat} : broke l c = true ↔ (true, c) ∈ l := by
  simp [broke]

theorem broke_cons_false (x : Nat) (l : List (Bool × Nat)) : broke ((false, x) :: l) = broke l := by
  funext c
  simp [broke]

theorem pickCode_cons_false (x : Nat) (l : List (Bool × Nat)) : pickCode ((false, x) :: l) = pickCode l := by
  simp [pickCode, broke_cons_false]

/-- The code picked is the broken one before which no broken one stands in the order of R11. -/
theorem pickCode_eq {l : List (Bool × Nat)} {before after : List Nat} {c : Nat} (ho : Err.order = before ++ c :: after) (hc : (true, c) ∈ l)
    (hb : ∀ x ∈ before, (true, x) ∉ l) : pickCode l = c := by
  have hfind : Err.order.find? (broke l) = some c :=
    List.find?_eq_some_iff_append.mpr ⟨broke_iff.mpr hc, before, after, ho, fun x hx => by simpa [← broke_iff] using hb x hx⟩
  simp [pickCode, hfind]

theorem pickCode_eq_zero {l : List (Bool × Nat)} (h : ∀ k ∈ l, k.1 = false) : pickCode l = 0 := by
  have hfind : Err.order.find? (broke l) = none := by
    refine List.find?_eq_none.mpr fun c _ hc => ?_
    exact Bool.noConfusion (h _ (broke_iff.mp hc))
  simp [pickCode, hfind]

/-- No code of the order is the 0 of an access without a broken rule. -/
theorem Err.order_ne_zero {c : Nat} (h : c ∈ Err.order) : c ≠ 0 := by
  rintro rfl
  exact absurd h (by decide)

theorem Err.order_lt {c : Nat} (h : c ∈ Err.order) : c < 256 := by
  have hall : ∀ x ∈ Err.order, x < 256 := by decide
  exact hall c h

/-- The rules of an access to an open device: a reserved bit, its shape, and the checks of the register. -/
def Acc.rules (a : Acc) (checks : List (Bool × Nat)) : List (Bool × Nat) := (a.rsv, Err.RESERVED_FIELD) :: (a.badShape, Err.ALIGN) :: checks

theorem State.guard_open {s : State} (h : s.hostOpen) (a : Acc) (checks : List (Bool × Nat)) (act : State → State) :
    s.guard a checks act =
      if pickCode (a.rules checks) = 0 then act (s.received a) else (s.received a).refuse a (pickCode (a.rules checks)) := by
  obtain ⟨hoff, hlull, hsoft⟩ := h
  unfold State.guard
  rw [if_neg (by simp [hoff, hlull])]
  simp only [hsoft, Bool.false_and, Bool.false_eq_true, if_false, pickCode_cons_false]
  rfl

/-- An access that breaks no rule acts. -/
theorem State.guard_acts {s : State} (h : s.hostOpen) {a : Acc} {checks : List (Bool × Nat)} (act : State → State)
    (hr : ∀ k ∈ a.rules checks, k.1 = false) : s.guard a checks act = act (s.received a) := by
  rw [State.guard_open h, if_pos (pickCode_eq_zero hr)]

/-- An access that breaks rules is refused with the first of their codes. -/
theorem State.guard_refuses {s : State} (h : s.hostOpen) {a : Acc} {checks : List (Bool × Nat)} (act : State → State) {before after : List Nat}
    {c : Nat} (ho : Err.order = before ++ c :: after) (hc : (true, c) ∈ a.rules checks) (hb : ∀ x ∈ before, (true, x) ∉ a.rules checks) :
    s.guard a checks act = (s.received a).refuse a c := by
  have hmem : c ∈ Err.order := by simp [ho]
  rw [State.guard_open h, pickCode_eq ho hc hb, if_neg (Err.order_ne_zero hmem)]

/-- Settles O8, by the code that the check picks. -/
theorem brokenRulesAreRecordedByPrecedence : Obligations.BrokenRulesAreRecordedByPrecedence := by
  unfold Obligations.BrokenRulesAreRecordedByPrecedence
  refine fun s a checks act hopen => ⟨fun before after c ho hc hb => State.guard_refuses hopen act ho hc hb, fun hr hs hk => ?_⟩
  refine State.guard_acts hopen act fun k hmem => ?_
  rcases List.mem_cons.mp hmem with rfl | hmem
  · exact hr
  rcases List.mem_cons.mp hmem with rfl | hmem
  · exact hs
  · exact hk k hmem

end Sys2Proof.Machine
end

section
/-! Host writes by address (O53, O54): which register or gap an offset names, what a rejected write records, and a write that leaves
the bits above the width of its register. -/

namespace Sys2Proof.Machine

/-! ## A rejected write -/

/-- From `s` to `t` the write of offset `ofs` is recorded with `code` in the error registers at `base`, and beside the report nothing changes. -/
def WriteRejected (base ofs code : Nat) (s t : State) : Prop :=
  (s.fld (F.ERR_STATUS.CODE base) = 0 →
    t.fld (F.ERR_STATUS.CODE base) = code ∧ t.fld (F.ERR_OFS.OFS base) = ofs ∧ t.fld (F.ERR_STATUS.WR base) = 1) ∧
  (s.fld (F.ERR_STATUS.CODE base) ≠ 0 →
    t.fld (F.ERR_STATUS.CODE base) = s.fld (F.ERR_STATUS.CODE base) ∧
    t.fld (F.ERR_STATUS.OVF base) = min (s.fld (F.ERR_STATUS.OVF base) + 1) 255) ∧
  KeepsRep [Reg.ERR_STATUS base, Reg.ERR_OFS base] [] s t

/-- Counting a request leaves every field of an error register. -/
theorem State.fld_received_errStatus (s : State) (acc : Acc) {base : Nat} (h : hasErrStatus base = true) (hi lo : Nat) :
    (s.received acc).fld ⟨Reg.ERR_STATUS base, hi, lo⟩ = s.fld ⟨Reg.ERR_STATUS base, hi, lo⟩ :=
  State.fld_of_rd _ (s.rd_received acc (errStatus_ne_pfCnt h))

theorem State.guard_writeRejected {s : State} (h : s.hostOpen) {a : Acc} {checks : List (Bool × Nat)} (act : State → State)
    {before after : List Nat} {c : Nat} (hw : a.isWrite = true) (hb : hasErrStatus a.base = true) (hofs : a.ofs < 2 ^ 26)
    (ho : Err.order = before ++ c :: after) (hc : (true, c) ∈ a.rules checks) (hbefore : ∀ x ∈ before, (true, x) ∉ a.rules checks) :
    WriteRejected a.base a.ofs c s (s.guard a checks act) := by
  have hlt : c < 256 := Err.order_lt (by simp [ho])
  have hcode := s.fld_received_errStatus a hb 7 0
  have hovf := s.fld_received_errStatus a hb 15 8
  rw [State.guard_refuses h act ho hc hbefore, State.refuse, if_pos hw]
  refine ⟨fun h0 => ?_, fun h0 => ?_, (s.received_keepsRep _ a).trans (State.recordErr_keepsRep _ a c)⟩
  · obtain ⟨h1, h2, h3, -⟩ := State.recordErr_first (s := s.received a) hb hlt (hcode.trans h0)
    exact ⟨h1, h2.trans (Nat.mod_eq_of_lt hofs), by rw [h3, hw]; rfl⟩
  · obtain ⟨h1, -, -, -, -, h6⟩ := State.recordErr_later (s := s.received a) c (hcode ▸ h0)
    exact ⟨h1.trans hcode, h6.trans (by rw [show (s.received a).fld (F.ERR_STATUS.OVF a.base) = _ from hovf]; rfl)⟩

/-- The same for a write all of whose broken rules have one code. -/
theorem State.guard_writeRejected_single {s : State} (h : s.hostOpen) {base ofs c : Nat} {via bar2 rsv bad : Bool} {checks : List (Bool × Nat)}
    (act : State → State) (hb : hasErrStatus base = true) (hofs : ofs < 2 ^ 26) (hord : c ∈ Err.order)
    (hc : (true, c) ∈ Acc.rules ⟨base, ofs, via, bar2, true, rsv, bad⟩ checks)
    (honly : ∀ x, (true, x) ∈ Acc.rules ⟨base, ofs, via, bar2, true, rsv, bad⟩ checks → x = c) :
    WriteRejected base ofs c s (s.guard ⟨base, ofs, via, bar2, true, rsv, bad⟩ checks act) := by
  obtain ⟨before, after, ho⟩ := List.append_of_mem hord
  have hnodup : (before ++ c :: after).Nodup := ho ▸ (by decide : Err.order.Nodup)
  refine State.guard_writeRejected h act rfl hb hofs ho hc fun x hx hmem => ?_
  exact (List.nodup_append.mp hnodup).2.2 x hx c (by simp) (honly x hmem)

/-! ## Which register or gap an offset names -/

theorem placeOf_port {p o : Nat} (hp : p < 192) (ho : o < 0x10000) : placeOf (Base.PRT p + o) = .unit 1 p o := by
  have hi : (Base.PRT p + o - 0x2000000) / 0x10000 = p := by unfold Base.PRT; omega
  have hx : (Base.PRT p + o) % 0x10000 = o := by unfold Base.PRT; omega
  have hlo : 0x2000000 ≤ Base.PRT p + o := by unfold Base.PRT; omega
  have hhi : Base.PRT p + o < 0x3000000 := by unfold Base.PRT; omega
  unfold placeOf
  rw [if_neg (by omega), if_neg (by omega), if_neg (by omega), if_pos hhi]
  simp only [hi, hx, hp, if_true]

/-- The offsets between the blocks and the slice spaces, and those behind the table windows, name nothing. -/
theorem placeOf_gap {x : Nat} (h : (0xC00000 ≤ x ∧ x < 0x1000000) ∨ (0x3410000 ≤ x ∧ x < 0x4000000)) : placeOf x = .gap Base.DEV := by
  unfold placeOf
  rcases h with ⟨hlo, hhi⟩ | ⟨hlo, hhi⟩
  · rw [if_neg (by omega), if_pos hhi]
  · rw [if_neg (by omega), if_neg (by omega), if_neg (by omega), if_neg (by omega), if_neg (by omega), if_neg (by omega)]

/-! ## Writes -/

/-- The host's four kinds of write answer with `State.hostWrite` inside their window. -/
theorem nextWith_hostWrite {s : State} {a : Access} {v : BitVec 64} {P : State → Prop} (ha : accInWindow a = true) (h : P (s.hostWrite a v)) :
    NextWith (if accInWindow a then .next (s.hostWrite a v) else .fault .noSuchInstance) P :=
  ⟨_, if_pos ha, h⟩

/-- An aligned write of one double word. -/
theorem State.hostWrite_dword (s : State) {x : Nat} (v : BitVec 64) (hx : x % 4 = 0) :
    s.hostWrite ⟨false, x, 1, true⟩ v = s.write0 x (v.toNat % 2 ^ 32) false false := by
  simp [State.hostWrite, accShaped, State.writeAt, hx]

/-- A misaligned write is one of the double word that it begins in, of a shape that is rejected (R368). -/
theorem State.hostWrite_misaligned (s : State) {x : Nat} (v : BitVec 64) (b : Bool) (hx : x % 4 ≠ 0) :
    s.hostWrite ⟨false, x, 1, b⟩ v = s.write0 (x / 4 * 4) (v.toNat % 2 ^ 32) false true := by
  simp [State.hostWrite, accShaped, State.writeAt, hx]

/-- A write of a port that is not in use (R3). -/
theorem State.write0_unusedPort (s : State) {p o : Nat} (v : Nat) (wide bad : Bool) (hp : p < 192) (ho : o < 0x10000)
    (hu : s.portUsed p = false) :
    s.write0 (Base.PRT p + o) v wide bad =
      s.guard ⟨Base.DEV, Base.PRT p + o, false, false, true, false, bad⟩ [(true, Err.NOT_PERMITTED)] id := by
  unfold State.write0
  rw [placeOf_port hp ho]
  exact if_pos ⟨rfl, hu⟩

/-- A write of an offset that names nothing (R367). -/
theorem State.write0_gap (s : State) {x base : Nat} (v : Nat) (wide bad : Bool) (h : placeOf x = .gap base) :
    s.write0 x v wide bad = s.guard ⟨base, x, false, false, true, false, bad⟩ [(true, Err.RANGE)] id := by
  unfold State.write0
  rw [h]

/-- The card of ST_ENG_EXP. -/
def Card.stEngExp : Card := ⟨0x701010, 4, [(0x40, 0, 7)], 0xFFFFFFFF, 0, 0, 0⟩

theorem find_stEngExp : ∀ k < 8, Card.find cards.block (Reg.ST_ENG_EXP k) = some Card.stEngExp := by decide

theorem State.stWrite_stEngExp (s : State) (a : Acc) {k : Nat} (v : Nat) (c : Card) (hk : k < 8) :
    s.stWrite a (Reg.ST_ENG_EXP k) v c = s.plain a (Reg.ST_ENG_EXP k) v c [(s.scanState k != Scan.IDLE, Err.BUSY)] := by
  have hlo : 0x701000 ≤ Reg.ST_ENG_EXP k := by unfold Reg.ST_ENG_EXP; omega
  have hunit : (Reg.ST_ENG_EXP k - 0x701000) / 0x40 = k := by unfold Reg.ST_ENG_EXP; omega
  have hreg : Reg.ST_ENG_EXP k % 0x40 = 0x10 := by unfold Reg.ST_ENG_EXP; omega
  unfold State.stWrite
  rw [if_pos hlo]
  simp [hunit, hreg]

theorem Card.rsvHit_of_rsv_zero {c : Card} (o v : Nat) (wide : Bool) (h : c.rsv = 0) : c.rsvHit o v wide = false := by
  simp [Card.rsvHit, h]

/-- A write of a 32-bit device-level register, besides the tables of MSI-X and the error registers. -/
theorem State.write0_block (s : State) {x : Nat} {c : Card} (v : Nat) (wide bad : Bool) (hx : x < 0xC00000) (hmsix : x < 0x8000 ∨ 0x9008 ≤ x)
    (hfind : Card.find cards.block x = some c) (hbytes : c.bytes ≠ 8) (herr : x ≠ Reg.ERR_STATUS (x / 0x100000 * 0x100000)) :
    s.write0 x v wide bad = s.blockWrite ⟨x / 0x100000 * 0x100000, x, false, false, true, c.rsvHit x v wide, bad⟩ x v c := by
  unfold State.write0
  rw [placeOf_block hx]
  dsimp only
  rw [if_neg (by omega), if_neg (by omega)]
  simp only [State.unitWrite, State.cardWrite, hfind, if_true, if_neg herr, if_neg hbytes]

/-- A write of ST_ENG_EXP waits for an idle engine. -/
theorem State.write0_stEngExp (s : State) {k : Nat} (v : Nat) (wide bad : Bool) (hk : k < 8) :
    s.write0 (Reg.ST_ENG_EXP k) v wide bad =
      s.plain ⟨Base.ST, Reg.ST_ENG_EXP k, false, false, true, false, bad⟩ (Reg.ST_ENG_EXP k) v Card.stEngExp
        [(s.scanState k != Scan.IDLE, Err.BUSY)] := by
  have hlo : 0x701010 ≤ Reg.ST_ENG_EXP k := by unfold Reg.ST_ENG_EXP; omega
  have hhi : Reg.ST_ENG_EXP k < 0x701200 := by unfold Reg.ST_ENG_EXP; omega
  have hblock : Reg.ST_ENG_EXP k / 0x100000 = 7 := by omega
  rw [State.write0_block s v wide bad (by omega) (.inr (by omega)) (find_stEngExp k hk) (by decide)
    (by rw [hblock]; unfold Reg.ERR_STATUS; omega), Card.rsvHit_of_rsv_zero _ _ _ rfl, hblock]
  unfold State.blockWrite
  simp only [hblock]
  exact s.stWrite_stEngExp _ v _ hk

theorem State.unitChecks_stEngExp (s : State) {k : Nat} : s.unitChecks (Reg.ST_ENG_EXP k) = [] := by
  have hlo : 0x701010 ≤ Reg.ST_ENG_EXP k := by unfold Reg.ST_ENG_EXP; omega
  have hhi : Reg.ST_ENG_EXP k < 0x701200 := by unfold Reg.ST_ENG_EXP; omega
  unfold State.unitChecks
  rw [if_neg (by omega), if_neg (by omega), if_neg (by omega), if_neg (by omega), if_neg (by omega)]

/-! ## Writes outside the registers -/

theorem execUnusedPortWrite_rejected {s : State} (hopen : s.hostOpen) {p o : Nat} (v : BitVec 64) (hp : p < 192) (ho : o < 0x10000)
    (halign : o % 4 = 0) (hu : s.portUsed p = false) :
    NextWith (exec (.unusedPortWrite ⟨false, Base.PRT p + o, 1, true⟩ v) s) (WriteRejected Base.DEV (Base.PRT p + o) Err.NOT_PERMITTED s) := by
  have hx : (Base.PRT p + o) % 4 = 0 := by unfold Base.PRT; omega
  have hlt : Base.PRT p + o < 0x4000000 := by unfold Base.PRT; omega
  refine nextWith_hostWrite (decide_eq_true hlt) ?_
  rw [State.hostWrite_dword s v hx, State.write0_unusedPort s _ _ _ hp ho hu]
  exact State.guard_writeRejected_single hopen id (by decide) hlt (by decide) (by simp [Acc.rules]) (by simp [Acc.rules])

theorem execUnmappedWrite_rejected {s : State} (hopen : s.hostOpen) {x : Nat} (v : BitVec 64)
    (hgap : (0xC00000 ≤ x ∧ x < 0x1000000) ∨ (0x3410000 ≤ x ∧ x < 0x4000000)) (halign : x % 4 = 0) :
    NextWith (exec (.unmappedWrite ⟨false, x, 1, true⟩ v) s) (WriteRejected Base.DEV x Err.RANGE s) := by
  have hlt : x < 0x4000000 := by omega
  refine nextWith_hostWrite (decide_eq_true hlt) ?_
  rw [State.hostWrite_dword s v halign, State.write0_gap s _ _ _ (placeOf_gap hgap)]
  exact State.guard_writeRejected_single hopen id (by decide) hlt (by decide) (by simp [Acc.rules]) (by simp [Acc.rules])

theorem execRegisterWrite_misaligned_rejected {s : State} (hopen : s.hostOpen) {k d : Nat} (v : BitVec 64) (b : Bool) (hk : k < 8)
    (hd : 1 ≤ d) (hd4 : d < 4) (hidle : s.scanState k = Scan.IDLE) :
    NextWith (exec (.registerWrite ⟨false, Reg.ST_ENG_EXP k + d, 1, b⟩ v) s) (WriteRejected Base.ST (Reg.ST_ENG_EXP k) Err.ALIGN s) := by
  have hx : (Reg.ST_ENG_EXP k + d) % 4 ≠ 0 := by unfold Reg.ST_ENG_EXP; omega
  have hdw : (Reg.ST_ENG_EXP k + d) / 4 * 4 = Reg.ST_ENG_EXP k := by unfold Reg.ST_ENG_EXP; omega
  have hlt : Reg.ST_ENG_EXP k + d < 0x4000000 := by unfold Reg.ST_ENG_EXP; omega
  refine nextWith_hostWrite (decide_eq_true hlt) ?_
  rw [State.hostWrite_misaligned s v b hx, hdw, State.write0_stEngExp s _ _ _ hk]
  unfold State.plain
  rw [State.unitChecks_stEngExp, hidle]
  exact State.guard_writeRejected_single hopen _ (by decide) (by omega) (by decide) (by simp [Acc.rules]) (by simp [Acc.rules])

/-- Settles O54, clause by clause. -/
theorem writesOutsideRegistersAreRecorded : Obligations.WritesOutsideRegistersAreRecorded := by
  unfold Obligations.WritesOutsideRegistersAreRecorded
  exact ⟨fun s p o v hp ho halign hopen hu => execUnusedPortWrite_rejected hopen _ hp ho halign hu,
    fun s x v hgap halign hopen => execUnmappedWrite_rejected hopen _ hgap halign,
    fun s k d v b hk hd hd4 hopen hidle => execRegisterWrite_misaligned_rejected hopen _ b hk hd hd4 hidle⟩

/-! ## A write of a register with bits above its width

The file holds 64 bits for every register, and `State.store` keeps the bits that no mask of the register's card names. So a 32-bit register
whose stored value has a bit above its width does not read as the 32 bits just written. -/

/-- The state after reset, but with bit 32 of ST_ENG_EXP of engine 0 set. -/
def expAboveWidth : State := State.reset.wr (Reg.ST_ENG_EXP 0) (2 ^ 32)

/-- A write of zero stores the low 32 bits and keeps bit 32. -/
theorem rd_hostWrite_expAboveWidth :
    (expAboveWidth.hostWrite ⟨false, Reg.ST_ENG_EXP 0, 1, true⟩ 0).rd (Reg.ST_ENG_EXP 0) = 2 ^ 32 := by decide

/-- Refutes O53, by its first clause: in `expAboveWidth` the host is open and engine 0 idle, but a write of 0 leaves 2^32, not 0. -/
theorem not_hostWritesReachRegisters : ¬ Obligations.HostWritesReachRegisters := by
  unfold Obligations.HostWritesReachRegisters
  intro h
  obtain ⟨hexp, -⟩ := h
  obtain ⟨t, ht, hrd, -⟩ := hexp expAboveWidth 0 0 (by decide) (by decide) (by decide)
  have ht' : t = expAboveWidth.hostWrite ⟨false, Reg.ST_ENG_EXP 0, 1, true⟩ 0 := by
    injection ht.symm
  rw [ht', rd_hostWrite_expAboveWidth] at hrd
  exact absurd hrd (by decide)

end Sys2Proof.Machine
end

section
/-! Frames from laws: what a law whose mask names its families one by one says of single registers, and of the sets of registers that a
claim lists. -/

namespace Sys2Proof.Machine

/-! ## Masks that name their families -/

/-- The mask of the families with the numbers `ks`. -/
def maskOf (ks : List Nat) : Nat := ks.foldr (fun k m => 2 ^ k ||| m) 0

theorem testBit_maskOf (ks : List Nat) (j : Nat) : (maskOf ks).testBit j = decide (j ∈ ks) := by
  induction ks with
  | nil => simp [maskOf]
  | cons k ks ih =>
    change (2 ^ k ||| maskOf ks).testBit j = _
    simp [Nat.testBit_or, Nat.testBit_two_pow, ih, eq_comm (a := k)]

/-- An offset in the mask of some families is in one of them. -/
theorem InMask.mem_family {ks : List Nat} {a : Nat} (h0 : 0 ∉ ks) (h : InMask (maskOf ks) a) :
    ∃ k ∈ ks, ∃ r ∈ families[k]?, r.Has a := by
  rcases h with hz | ⟨k, r, hk, hr, ha⟩
  · rw [testBit_maskOf] at hz
    exact absurd (of_decide_eq_true hz) h0
  · rw [testBit_maskOf] at hk
    exact ⟨k, of_decide_eq_true hk, r, hr, ha⟩

/-- Offset `a` lies below or above every register of the set. -/
abbrev RegSet.Off (r : RegSet) (a : Nat) : Prop := a < r.base ∨ r.base + r.s1 * (r.n1 - 1) + r.s2 * (r.n2 - 1) < a

theorem RegSet.Off.not_has {r : RegSet} {a : Nat} (h : r.Off a) : ¬ r.Has a := by
  rintro ⟨i, j, hi, hj, rfl⟩
  have h1 : r.s1 * i ≤ r.s1 * (r.n1 - 1) := Nat.mul_le_mul_left _ (by omega)
  have h2 : r.s2 * j ≤ r.s2 * (r.n2 - 1) := Nat.mul_le_mul_left _ (by omega)
  rcases h with h | h <;> omega

/-- A register outside the families of a law reads as before. -/
theorem Law.rd_off {ks : List Nat} {P a : Nat} {s t : State} (h : Law (maskOf ks) P s t)
    (ha : 0 ∉ ks ∧ ∀ k ∈ ks, ∀ r ∈ families[k]?, r.Off a) : t.rd a = s.rd a :=
  h.regs a fun hm =>
    let ⟨k, hk, r, hr, has⟩ := hm.mem_family ha.1
    (ha.2 k hk r hr).not_has has

/-- A part outside the mask of a law is the same. -/
theorem Law.part_off {W P : Nat} {p : Part} {s t : State} (h : Law W P s t) (hp : P.testBit (Machine.parts.idxOf p) = false) : p.Same s t :=
  h.parts p (by simp [PartIn, hp])

/-! ## Frames of claims -/

/-- The families of the registers that report an event to the host: causes, pending and lost Spout events, and event counters. -/
def reportFamilies : List Nat := [1, 2, 3, 4]

theorem reporting_of_family {k a : Nat} {r : RegSet} (hk : k ∈ reportFamilies) (hr : r ∈ families[k]?) (ha : r.Has a) : Reporting a := by
  obtain ⟨i, j, hi, hj, rfl⟩ := ha
  simp only [reportFamilies, List.mem_cons, List.not_mem_nil, or_false] at hk
  rcases hk with rfl | rfl | rfl | rfl <;> obtain rfl := Option.some.inj hr <;> dsimp only at hi hj ⊢
  · exact .inl (by unfold Reg.DEV_IRQ_STATUS; omega)
  · exact .inr (.inl (by unfold Reg.SP_PEND; omega))
  · exact .inr (.inr (.inl ⟨i, by unfold Reg.SP_LOST_CNT; omega⟩))
  · exact .inr (.inr (.inr ⟨i, by unfold Reg.PF_CNT; omega⟩))

theorem mem_parts (p : Part) : p ∈ parts := by cases p <;> decide

/-- A law whose families are those of the report or listed sets, and whose parts are those of the report or listed. -/
theorem KeepsIn.of_law {ks : List Nat} {P : Nat} {own : List RegSet} {ps : List Part} {s t : State} (h : Law (maskOf ks) P s t)
    (hW : ∀ k ∈ ks, k ∈ reportFamilies ∨ k ≠ 0 ∧ ∀ r ∈ families[k]?, r ∈ own)
    (hP : ∀ p ∈ parts, P.testBit (parts.idxOf p) = true → p ∈ ps ++ [.irq, .spout, .out]) : KeepsIn own ps s t := by
  have h0 : 0 ∉ ks := fun hk => by rcases hW 0 hk with hr | ⟨hne, -⟩ <;> simp_all [reportFamilies]
  refine ⟨fun a ha hrep => h.regs a fun hm => ?_, fun p hp => h.parts p fun hm => hp (hP p (mem_parts p) hm)⟩
  obtain ⟨k, hk, r, hr, has⟩ := hm.mem_family h0
  rcases hW k hk with hk | ⟨-, hown⟩
  · exact hrep (reporting_of_family hk hr has)
  · exact ha r (hown r hr) has

theorem RegSet.has_one_iff {a b : Nat} : (RegSet.one b).Has a ↔ a = b := by
  simp [RegSet.Has, RegSet.one]

/-- Sets of one register each are a list of registers. -/
theorem KeepsIn.keepsRep {own : List Nat} {ps : List Part} {s t : State} (h : KeepsIn (own.map RegSet.one) ps s t) : KeepsRep own ps s t := by
  refine ⟨fun a ha hrep => h.1 a (fun r hr has => ?_) hrep, h.2⟩
  obtain ⟨b, hb, rfl⟩ := List.mem_map.mp hr
  exact ha (RegSet.has_one_iff.mp has ▸ hb)

theorem Keeps.keepsIn {own : List Nat} {ps : List Part} {s t : State} (h : Keeps own ps s t) : KeepsIn (own.map RegSet.one) ps s t :=
  ⟨fun a ha _ => h.1 a fun hm => ha _ (List.mem_map_of_mem hm) (RegSet.has_one_iff.mpr rfl),
    fun p hp => h.2 p fun hm => hp (List.mem_append_left _ hm)⟩

theorem KeepsIn.mono {own own' : List RegSet} {ps qs : List Part} {s t : State} (h : KeepsIn own ps s t) (ho : own ⊆ own') (hp : ps ⊆ qs) :
    KeepsIn own' qs s t :=
  ⟨fun a ha => h.1 a fun r hr => ha r (ho hr), fun p hq => h.2 p fun hm => hq (List.mem_append.mpr ((List.mem_append.mp hm).imp_left (@hp p)))⟩

theorem KeepsIn.trans {own : List RegSet} {ps : List Part} {s t u : State} (h1 : KeepsIn own ps s t) (h2 : KeepsIn own ps t u) :
    KeepsIn own ps s u :=
  ⟨fun a ha hr => (h2.1 a ha hr).trans (h1.1 a ha hr), fun p hp => (h1.2 p hp).trans (h2.2 p hp)⟩

/-- A change of the device part alone. -/
theorem Keeps.withDev (s : State) (own : List Nat) (d : Dev) : Keeps own [.dev] s { s with dev := d } := by
  refine ⟨fun _ _ => rfl, fun p hp => ?_⟩
  cases p
  case dev => exact absurd (List.mem_singleton_self _) hp
  all_goals rfl

end Sys2Proof.Machine
end

section
/-! Fatal causes (O14): marking one, entering CALM, and what each mode makes of it. -/

namespace Sys2Proof.Machine

/-! ## Bits of a field -/

theorem bitAt_eq_testBit (n i : Nat) : bitAt n i = n.testBit i := by
  unfold bitAt
  rw [Nat.testBit_eq_decide_div_mod_eq]
  rfl

theorem bitAt_setBit_self (n i : Nat) : bitAt (setBit n i true) i = true := by
  have hpos : 0 < 2 ^ i := by positivity
  cases hb : bitAt n i with
  | true =>
    have hle : 2 ^ i ≤ n := by
      by_contra hlt
      simp [bitAt, Nat.div_eq_of_lt (Nat.lt_of_not_le hlt)] at hb
    have hn : setBit n i true = n := by
      simp only [setBit, hb, b2n, if_true, one_mul]
      omega
    rw [hn, hb]
  | false =>
    have heven : n / 2 ^ i % 2 = 0 := by
      simp [bitAt] at hb
      omega
    have hn : setBit n i true = n + 2 ^ i := by simp [setBit, hb, b2n]
    rw [hn, bitAt, Nat.add_div_right _ hpos, beq_iff_eq]
    omega

/-- A bit that is set in a field reads as 1. -/
theorem State.fldBit_setFldBit_self (s : State) (f : Fld) {i : Nat} (hf : f.hi < 64) (hi : f.lo + i ≤ f.hi) :
    (s.setFldBit f i true).fldBit f i = true := by
  unfold State.fldBit State.setFldBit
  rw [State.fld_setFld_self _ _ _ hf (by omega), bitAt_eq_testBit, Nat.testBit_mod_two_pow, ← bitAt_eq_testBit, bitAt_setBit_self]
  simp
  omega

theorem State.fldBit_flagBit_self (s : State) (f : Fld) {i : Nat} (hf : f.hi < 64) (hi : f.lo + i ≤ f.hi) :
    (s.flagBit f i).fldBit f i = true := s.fldBit_setFldBit_self f hf hi

theorem State.fldBit_of_rd {s t : State} (f : Fld) (i : Nat) (h : t.rd f.ofs = s.rd f.ofs) : t.fldBit f i = s.fldBit f i := by
  unfold State.fldBit
  rw [State.fld_of_rd f h]

/-- One of the six lowest causes drives ALARM_N low. -/
theorem State.alarmLow_of_fatal {s : State} {b : Nat} (hb : b < 6) (h : s.fldBit ⟨Reg.DEV_FATAL, 31, 0⟩ b = true) : s.alarmLow = true := by
  have hbit : ∀ hi, b ≤ hi → (s.fld ⟨Reg.DEV_FATAL, hi, 0⟩).testBit b = (s.rd Reg.DEV_FATAL).toNat.testBit b := by
    intro hi hle
    simp only [State.fld, bitsOf, pow_zero, Nat.div_one, Nat.testBit_mod_two_pow]
    simp
    omega
  have h5 : (s.fld ⟨Reg.DEV_FATAL, 5, 0⟩).testBit b = true := by
    rw [hbit 5 (by omega), ← hbit 31 (by omega), ← bitAt_eq_testBit]
    exact h
  have hne : s.fld ⟨Reg.DEV_FATAL, 5, 0⟩ ≠ 0 := fun h0 => by simp [h0] at h5
  simpa [State.alarmLow] using hne

/-! ## Marking a fatal cause (R41) -/

/-- DEV_FATAL and the report to the host. -/
theorem State.markFatal_law_fatal (s : State) (b : Nat) : Law (maskOf [1, 2, 3, 5]) 0x10000c s (s.markFatal b) :=
  State.markFatal_law (Law.refl _ _ s) b (by decide) (by decide)

theorem State.markFatal_keepsIn (s : State) (b : Nat) : KeepsIn ([Reg.DEV_FATAL].map RegSet.one) [] s (s.markFatal b) :=
  .of_law (s.markFatal_law_fatal b) (by decide) (by decide)

theorem State.markFatal_dev (s : State) (b : Nat) : (s.markFatal b).dev = s.dev := (s.markFatal_law_fatal b).part_off (p := .dev) (by decide)

theorem State.markFatal_uid (s : State) (b : Nat) : (s.markFatal b).uid = s.uid := (s.markFatal_law_fatal b).part_off (p := .uid) (by decide)

theorem State.markFatal_mode (s : State) (b : Nat) : (s.markFatal b).mode = s.mode :=
  State.fld_of_rd _ ((s.markFatal_law_fatal b).rd_off (by decide))

/-- The Spout event of a fatal cause leaves DEV_FATAL. -/
theorem State.rd_fatalEvent (s : State) (arg : Nat) : ((s.spoutEvent Sp.FATAL 0 arg).irqEval).rd Reg.DEV_FATAL = s.rd Reg.DEV_FATAL := by
  have hlaw : Law (maskOf [1, 2, 3]) 0x10000c s (s.spoutEvent Sp.FATAL 0 arg).irqEval :=
    State.irqEval_law (State.spoutEvent_law (Law.refl _ _ s) _ _ _ _ (by decide) (by decide)) (by decide) (by decide)
  exact hlaw.rd_off (by decide)

theorem State.fldBit_markFatal (s : State) {b : Nat} (hb : b < 32) : (s.markFatal b).fldBit ⟨Reg.DEV_FATAL, 31, 0⟩ b = true := by
  have hflag : (s.flagBit ⟨Reg.DEV_FATAL, 31, 0⟩ b).fldBit ⟨Reg.DEV_FATAL, 31, 0⟩ b = true :=
    s.fldBit_flagBit_self _ (by decide : 31 < 64) (by dsimp only; omega)
  unfold State.markFatal
  by_cases hset : s.fldBit ⟨Reg.DEV_FATAL, 31, 0⟩ b = true
  · rw [if_pos hset]
    exact hset
  · rw [if_neg hset]
    dsimp only
    split
    · exact hflag
    · rw [State.fldBit_of_rd _ _ (State.rd_fatalEvent _ _)]
      exact hflag

/-! ## Entering CALM (R40) -/

/-- The pins that move and the Spout event of a new mode leave every register but those of the report. -/
theorem State.setMode_law_report (s : State) (m arg : Nat) :
    Law (maskOf [1, 2, 3]) 0x10000c (((s.setFld F.DEV_MODE.CUR m).setFld F.DEV_MODE.TARGET m).setFld F.DEV_MODE.TRANS 0) (s.setMode m arg) :=
  State.spoutEvent_law (State.pinsMoved_law (Law.refl _ _ _) s (by decide) (by decide)) _ _ _ _ (by decide) (by decide)

/-- The mode reached is shown, and no transition is in progress. -/
theorem State.setMode_shows (s : State) {m : Nat} (arg : Nat) (hm : m < 8) :
    (s.setMode m arg).mode = m ∧ (s.setMode m arg).fld F.DEV_MODE.TRANS = 0 := by
  have hrd := (s.setMode_law_report m arg).rd_off (a := Reg.DEV_MODE) (by decide)
  refine ⟨(State.fld_of_rd F.DEV_MODE.CUR hrd).trans ?_, (State.fld_of_rd F.DEV_MODE.TRANS hrd).trans ?_⟩
  · rw [State.fld_setFld_bits _ F.DEV_MODE.TRANS F.DEV_MODE.CUR _ (by decide) (by decide) (by decide) rfl (by decide),
      State.fld_setFld_bits _ F.DEV_MODE.TARGET F.DEV_MODE.CUR _ (by decide) (by decide) (by decide) rfl (by decide),
      State.fld_setFld_self _ F.DEV_MODE.CUR _ (by decide) (by decide)]
    exact Nat.mod_eq_of_lt hm
  · exact State.fld_setFld_self _ F.DEV_MODE.TRANS 0 (by decide) (by decide)

/-- The device part of a state that enters CALM: the frames held now are marked, a running transition is abandoned. -/
def State.calmDev (s : State) : Dev := { s.dev with calmDrop := true, calmMark := s.uid, lullStep := 0, slcPhase := SMap.empty }

/-- Beside the device part, entering CALM leaves all but learning, replays, a partial image, the mode and the report. -/
theorem State.enterCalm_law_rest (s : State) :
    Law (maskOf [1, 2, 3, 8, 26, 27, 28]) 0x10400c { s with dev := s.calmDev } s.enterCalm := by
  have hlearn : Law (maskOf [1, 2, 3, 8, 26, 27, 28]) 0x10400c { s with dev := s.calmDev }
      ((List.range 4).foldl State.learnHalt { s with dev := s.calmDev }) :=
    Law.foldl _ (Law.refl _ _ _) fun _ _ h => State.learnHalt_law h _ (by decide) (by decide)
  exact State.setMode_law (State.abandonPartial_law (State.abortReplays_law hlearn (by decide) (by decide)) (by decide) (by decide)) _ _
    (by decide) (by decide)

theorem State.enterCalm_dev (s : State) : s.enterCalm.dev = s.calmDev := s.enterCalm_law_rest.part_off (p := .dev) (by decide)

theorem State.enterCalm_shows (s : State) : s.enterCalm.mode = Mode.CALM ∧ s.enterCalm.fld F.DEV_MODE.TRANS = 0 :=
  State.setMode_shows _ _ (by decide)

theorem State.rd_enterCalm_fatal (s : State) : s.enterCalm.rd Reg.DEV_FATAL = s.rd Reg.DEV_FATAL := s.enterCalm_law_rest.rd_off (by decide)

/-! ## A fatal cause by mode (R41) -/

/-- The modes in which a fatal cause leads to CALM. -/
abbrev State.working (s : State) : Prop := s.mode = Mode.STEEP ∨ s.mode = Mode.BREEZE ∨ s.mode = Mode.GALE

theorem State.load_le_of_working {s : State} (h : s.working) : Mode.LOAD ≤ s.mode := by
  rcases h with h | h | h <;> rw [h] <;> decide

theorem State.fatal_of_working {s : State} (b : Nat) (h : s.working) (hl : s.dev.lullStep < 3) : s.fatal b = (s.markFatal b).enterCalm := by
  have hload : s.mode ≠ Mode.LOAD := by rcases h with h | h | h <;> rw [h] <;> decide
  unfold State.fatal
  dsimp only
  rw [if_neg hload, if_pos (by tauto), if_neg (by omega)]

theorem State.fatal_of_load {s : State} (b : Nat) (h : s.mode = Mode.LOAD) :
    s.fatal b = { s.markFatal b with dev := { (s.markFatal b).dev with loadHalted := true } } := if_pos h

theorem State.fatal_of_probe {s : State} (b : Nat) (h : s.mode = Mode.PROBE) : s.fatal b = s.markFatal b := by
  unfold State.fatal
  simp [h, Mode.PROBE, Mode.LOAD, Mode.STEEP, Mode.BREEZE, Mode.GALE, Mode.CALM]

/-- What a fatal cause leaves of a working device: CALM without a transition, its bit of DEV_FATAL, and the mark of the frames held. -/
theorem State.fatal_reaches_calm {s : State} {b : Nat} (hb : b < 32) (h : s.working) (hl : s.dev.lullStep < 3) :
    (s.fatal b).mode = Mode.CALM ∧ (s.fatal b).fld F.DEV_MODE.TRANS = 0 ∧ (s.fatal b).fldBit ⟨Reg.DEV_FATAL, 31, 0⟩ b = true ∧
    (s.fatal b).dev = s.calmDev := by
  rw [State.fatal_of_working b h hl]
  obtain ⟨hmode, htrans⟩ := (s.markFatal b).enterCalm_shows
  refine ⟨hmode, htrans, ?_, ?_⟩
  · rw [State.fldBit_of_rd _ _ (s.markFatal b).rd_enterCalm_fatal]
    exact s.fldBit_markFatal hb
  · rw [State.enterCalm_dev, State.calmDev, State.markFatal_dev, State.markFatal_uid]
    rfl

theorem State.fatal_law_calm (s : State) (b : Nat) : Law (maskOf [1, 2, 3, 5, 8, 26, 27, 28]) 0x10400d s (s.fatal b) :=
  State.fatal_law (Law.refl _ _ s) b (by decide) (by decide)

theorem State.fatal_keepsIn (s : State) (b : Nat) : KeepsIn Scope.calm [.dev, .slices] s (s.fatal b) :=
  .of_law (s.fatal_law_calm b) (by decide) (by decide)

/-! ## The core PLL (R30) -/

theorem exec_corePllLoss_of_powered {s : State} (h : Mode.LOAD ≤ s.mode) : exec .corePllLoss s = .next (s.fatal Fatal.CORE_PLL) :=
  if_neg (Nat.not_lt.mpr h)

theorem execCorePllLoss_reaches_calm {s : State} (h : s.working) (hl : s.dev.lullStep < 3) :
    NextWith (exec (.corePllLoss) s) fun t =>
      t.mode = Mode.CALM ∧ t.fld F.DEV_MODE.TRANS = 0 ∧ t.fldBit ⟨Reg.DEV_FATAL, 31, 0⟩ Fatal.CORE_PLL = true ∧
      t.alarmLow = true ∧ t.dev.calmDrop = true ∧ t.dev.calmMark = s.uid ∧ KeepsIn Scope.calm [.dev, .slices] s t := by
  obtain ⟨hmode, htrans, hbit, hdev⟩ := State.fatal_reaches_calm (b := Fatal.CORE_PLL) (by decide) h hl
  exact ⟨_, exec_corePllLoss_of_powered (State.load_le_of_working h), hmode, htrans, hbit, State.alarmLow_of_fatal (by decide) hbit,
    by rw [hdev]; rfl, by rw [hdev]; rfl, s.fatal_keepsIn _⟩

theorem execCorePllLoss_halts_loader {s : State} (h : s.mode = Mode.LOAD) :
    NextWith (exec (.corePllLoss) s) fun t =>
      t.mode = Mode.LOAD ∧ t.dev.loadHalted = true ∧ t.fldBit ⟨Reg.DEV_FATAL, 31, 0⟩ Fatal.CORE_PLL = true ∧
      KeepsRep [Reg.DEV_FATAL] [.dev] s t := by
  refine ⟨_, exec_corePllLoss_of_powered h.ge, ?_⟩
  rw [State.fatal_of_load _ h]
  refine ⟨(s.markFatal_mode _).trans h, rfl, s.fldBit_markFatal (by decide), ?_⟩
  exact KeepsIn.keepsRep (((s.markFatal_keepsIn _).mono (by simp) (by simp)).trans (Keeps.withDev _ _ _).keepsIn)

theorem execCorePllLoss_keeps_probe {s : State} (h : s.mode = Mode.PROBE) :
    NextWith (exec (.corePllLoss) s) fun t =>
      t.mode = Mode.PROBE ∧ t.fldBit ⟨Reg.DEV_FATAL, 31, 0⟩ Fatal.CORE_PLL = true ∧ t.alarmLow = true ∧
      KeepsRep [Reg.DEV_FATAL] [] s t := by
  refine ⟨_, exec_corePllLoss_of_powered (h ▸ by decide), ?_⟩
  rw [State.fatal_of_probe _ h]
  have hbit := s.fldBit_markFatal (b := Fatal.CORE_PLL) (by decide)
  exact ⟨(s.markFatal_mode _).trans h, hbit, State.alarmLow_of_fatal (by decide) hbit, (s.markFatal_keepsIn _).keepsRep⟩

/-! ## Supplies (R406) -/

/-- The flags of rails above or below their range. -/
def F.railFlags (high : Bool) : Fld := if high then F.DEV_PWR_FLAGS.OVER else F.DEV_PWR_FLAGS.UNDER

theorem F.railFlags_ofs (high : Bool) : (F.railFlags high).ofs = Reg.DEV_PWR_FLAGS := by cases high <;> rfl

theorem F.railFlags_width (high : Bool) : (F.railFlags high).hi < 64 ∧ (F.railFlags high).lo + 6 = (F.railFlags high).hi := by
  cases high <;> decide

/-- The state that notes rail `r` out of its range. -/
def State.railOut (s : State) (r : Nat) (high : Bool) : State :=
  { s.flagBit (F.railFlags high) r with dev := { s.dev with rails := setBit s.dev.rails r true } }

theorem exec_supplyOutOfRange_of_watched {s : State} {r : Nat} (high : Bool) (hr : r < 7) (hw : s.railWatched r = true) :
    exec (.supplyOutOfRange r high) s = .next ((s.railOut r high).fatal Fatal.SUPPLY) := by
  change execSupplyOutOfRange r high s = _
  unfold execSupplyOutOfRange
  rw [if_neg (by omega), if_pos hw]
  rfl

theorem State.railOut_keeps (s : State) (r : Nat) (high : Bool) : Keeps [Reg.DEV_PWR_FLAGS] [.dev] s (s.railOut r high) := by
  have hflag : Keeps [Reg.DEV_PWR_FLAGS] [.dev] s (s.flagBit (F.railFlags high) r) :=
    ⟨fun a ha => s.rd_setFld_ne _ _ fun h => ha (by simp [h, F.railFlags_ofs]), fun p _ => by cases p <;> rfl⟩
  have hdev := Keeps.withDev (s.flagBit (F.railFlags high) r) [Reg.DEV_PWR_FLAGS] { s.dev with rails := setBit s.dev.rails r true }
  exact ⟨fun a ha => (hdev.1 a ha).trans (hflag.1 a ha), fun p hp => (hflag.2 p hp).trans (hdev.2 p hp)⟩

theorem State.railOut_mode (s : State) (r : Nat) (high : Bool) : (s.railOut r high).mode = s.mode :=
  State.fld_of_rd _ ((s.railOut_keeps r high).1 _ (by decide))

theorem State.fldBit_railOut (s : State) {r : Nat} (high : Bool) (hr : r < 7) : (s.railOut r high).fldBit (F.railFlags high) r = true := by
  obtain ⟨hhi, hwidth⟩ := F.railFlags_width high
  exact s.fldBit_flagBit_self _ hhi (by omega)

theorem execSupplyOutOfRange_reaches_calm {s : State} {r : Nat} (high : Bool) (hr : r < 7) (hw : s.railWatched r = true) (h : s.working)
    (hl : s.dev.lullStep < 3) :
    NextWith (exec (.supplyOutOfRange r high) s) fun t =>
      t.mode = Mode.CALM ∧ t.fldBit ⟨Reg.DEV_FATAL, 31, 0⟩ Fatal.SUPPLY = true ∧
      (t.fldBit (if high then F.DEV_PWR_FLAGS.OVER else F.DEV_PWR_FLAGS.UNDER) r = true) ∧ bitAt t.dev.rails r = true ∧
      KeepsIn (Scope.calm ++ [RegSet.one Reg.DEV_PWR_FLAGS]) [.dev, .slices] s t := by
  have hworking : (s.railOut r high).working := by simpa only [State.working, State.railOut_mode] using h
  obtain ⟨hmode, -, hbit, hdev⟩ := State.fatal_reaches_calm (b := Fatal.SUPPLY) (by decide) hworking hl
  refine ⟨_, exec_supplyOutOfRange_of_watched high hr hw, hmode, hbit, ?_, ?_, ?_⟩
  · have hrd : ((s.railOut r high).fatal Fatal.SUPPLY).rd (F.railFlags high).ofs = (s.railOut r high).rd (F.railFlags high).ofs := by
      rw [F.railFlags_ofs]
      exact ((s.railOut r high).fatal_law_calm _).rd_off (by decide)
    exact (State.fldBit_of_rd _ r hrd).trans (s.fldBit_railOut high hr)
  · rw [hdev]
    exact bitAt_setBit_self _ r
  · exact ((s.railOut_keeps r high).keepsIn.mono (by simp) (by simp)).trans (((s.railOut r high).fatal_keepsIn _).mono (by simp) (by simp))

/-! ## The end of the dropping (R40, step 3) -/

/-- Dropping the frames held touches buffers, queues, the ends of replays and the counters of dropped frames. -/
theorem State.calmDropEnd_law_drop (s : State) :
    Law (maskOf [1, 2, 3, 4, 26, 53, 116, 119, 120, 123, 124, 125, 136, 139, 140, 144]) 0x10811d s (s.dropHeld s.dev.calmMark).calmDropEnd :=
  State.calmDropEnd_law (State.dropHeld_law (Law.refl _ _ s) _ (by decide) (by decide)) (by decide) (by decide)

theorem execCalmDropDone_ends_dropping {s : State} (h : s.dev.calmDrop = true) :
    NextWith (exec (.calmDropDone) s) fun t =>
      t.dev.calmDrop = false ∧ t.mode = s.mode ∧
      KeepsIn (Scope.buffers ++ Scope.queues ++ [RegSet.each (Reg.CD_RP_STATUS 0) 0x100 8, RegSet.each (Reg.PRT_FAB_CNT 0 6) 0x10000 256])
        [.dev, .host, .kettle, .fab] s t := by
  refine ⟨(s.dropHeld s.dev.calmMark).calmDropEnd, if_pos h, rfl, ?_, ?_⟩
  · exact State.fld_of_rd _ (s.calmDropEnd_law_drop.rd_off (by decide))
  · exact .of_law s.calmDropEnd_law_drop (by decide) (by decide)

/-- Settles O14, clause by clause. -/
theorem fatalCausesActByMode : Obligations.FatalCausesActByMode := by
  unfold Obligations.FatalCausesActByMode
  exact ⟨fun s h hl => execCorePllLoss_reaches_calm h hl, fun s h => execCorePllLoss_halts_loader h, fun s h => execCorePllLoss_keeps_probe h,
    fun s r high hr hw h hl => execSupplyOutOfRange_reaches_calm high hr hw h hl, fun s h => execCalmDropDone_ends_dropping h⟩

end Sys2Proof.Machine
end

section
/-! Linearisation of a BAD channel (O39): it stays BAD (R289). -/

namespace Sys2Proof.Machine

/-- Linearising a channel leaves its state. -/
theorem State.fld_linearise_state (s : State) (n : Nat) (h1 h2 : List Nat) :
    (s.linearise n h1 h2).fld (F.PH_CH_STATUS.STATE n) = s.fld (F.PH_CH_STATUS.STATE n) := by
  have hqual : Reg.PH_CH_STATUS n ≠ Reg.PH_CH_QUAL n := by unfold Reg.PH_CH_STATUS Reg.PH_CH_QUAL; omega
  have hflags : Reg.PH_CH_STATUS n ≠ Reg.PH_CH_FLAGS n := by unfold Reg.PH_CH_STATUS Reg.PH_CH_FLAGS; omega
  have hlin : ∀ (t : State), (t.setFld (F.PH_CH_STATUS.LIN n) 1).fld (F.PH_CH_STATUS.STATE n) = t.fld (F.PH_CH_STATUS.STATE n) := fun t =>
    t.fld_setFld_bits _ _ 1 (by decide : 2 < 64) (by decide : 2 ≤ 2) (by decide : 0 ≤ 1) rfl (.inl (by decide : 1 < 2))
  have hinl : ∀ (t : State) v, (t.setFld (F.PH_CH_QUAL.INL n) v).fld (F.PH_CH_STATUS.STATE n) = t.fld (F.PH_CH_STATUS.STATE n) :=
    fun t v => t.fld_setFld_ofs _ _ v hqual
  have hflag : ∀ (t : State), (t.flag (F.PH_CH_FLAGS.INL_HIGH n)).fld (F.PH_CH_STATUS.STATE n) = t.fld (F.PH_CH_STATUS.STATE n) :=
    fun t => t.fld_setFld_ofs _ _ 1 hflags
  unfold State.linearise
  dsimp only
  split
  · rw [hflag, hlin, hinl]
    rfl
  · rw [hlin, hinl]
    rfl

/-- In STEEP the end of a code-density test gives a BAD channel its new table and nothing more. -/
theorem State.lineariseDone_of_bad {s : State} {n : Nat} (h1 h2 : List Nat) (hmode : s.mode = Mode.STEEP) (hbad : s.chanBad n = true) :
    s.lineariseDone n h1 h2 = s.linearise n h1 h2 := by
  unfold State.lineariseDone
  simp [hmode, hbad]

/-- A channel that is BAD when its test ends in STEEP is BAD afterwards, whatever the table. -/
theorem State.fld_lineariseDone_of_bad {s : State} {n : Nat} (h1 h2 : List Nat) (hmode : s.mode = Mode.STEEP) (hbad : s.chanBad n = true) :
    (s.lineariseDone n h1 h2).fld (F.PH_CH_STATUS.STATE n) = 3 := by
  rw [State.lineariseDone_of_bad h1 h2 hmode hbad, State.fld_linearise_state]
  exact beq_iff_eq.mp hbad

/-- Two equal halves of a code-density test have no residual. -/
theorem linInl_self (h : List Nat) : linInl h h = 0 := by
  have hfold : ∀ l : List Nat, (l.zip l).foldl (fun m p => max m (max (p.1 - p.2) (p.2 - p.1))) 0 = 0 := by
    intro l
    induction l with
    | nil => rfl
    | cons x l ih => simpa using ih
  exact hfold (linTable 20 0 h)

/-- The device in STEEP after event channel 196 has become BAD, as a residual of its delay loop makes it (R283). -/
def steepWithBadChannel : State := (State.reset.setFld F.DEV_MODE.CUR Mode.STEEP).becomeBad 196

/-- Refutes O39, by its second clause: in `steepWithBadChannel` the test of channel 196 ends with a table without residual, 2^11 hits in each of 256
taps of either half, and the channel still reads BAD, not 0 or 1. -/
theorem not_rotationKeepsChannelsCalibrated : ¬ Obligations.RotationKeepsChannelsCalibrated := by
  unfold Obligations.RotationKeepsChannelsCalibrated
  intro h
  obtain ⟨-, hgood, -⟩ := h
  obtain ⟨t, ht, hstate, -⟩ := hgood steepWithBadChannel 196 (List.replicate 256 (2 ^ 11)) (List.replicate 256 (2 ^ 11)) (by decide) (by decide)
    (by decide) (by rw [linInl_self]; rfl)
  obtain rfl : steepWithBadChannel.lineariseDone 196 _ _ = t := by injection ht
  rw [State.fld_lineariseDone_of_bad _ _ (by decide) (by decide)] at hstate
  have hle := b2n_lt (steepWithBadChannel.measures 196 && hasQueue 196)
  omega

end Sys2Proof.Machine
end

section
/-! What reset leaves (O2), and a LULL request without a wake source (O56). -/

namespace Sys2Proof.Machine

/-! ## Reset -/

theorem State.rd_reset (a : Nat) : State.reset.rd a = Reg.por a := rfl

/-- Settles O2: every register is at its POR value, so the fields and the slice states are those of the POR words. -/
theorem resetLeavesTheResetState : Obligations.ResetLeavesTheResetState := by
  unfold Obligations.ResetLeavesTheResetState
  refine ⟨by decide, by decide, by decide, State.rd_reset, by decide, rfl, ?_, SMap.empty_canonical _, ?_⟩
  · simp [State.pendingWf, State.reset]
  · unfold State.modeSound
    decide

/-! ## A LULL request without a wake source -/

/-- Below Spout's block only DEV_IRQ_STATUS reports to the host. -/
theorem not_reporting_of_lt {a : Nat} (h : a < 0x600040) (hirq : a ≠ Reg.DEV_IRQ_STATUS) : ¬ Reporting a := by
  rintro (rfl | rfl | ⟨n, rfl⟩ | ⟨n, rfl⟩)
  · exact hirq rfl
  · exact absurd h (by decide)
  · unfold Reg.SP_LOST_CNT at h
    omega
  · unfold Reg.PF_CNT at h
    omega

/-- No enable of DEV_WAKE_CFG is set when the fields of its four sources are 0. -/
theorem State.wakeEnabled_eq_false {s : State} (hlane : s.fld F.DEV_WAKE_CFG.LANE_EN = 0) (hevt : s.fld F.DEV_WAKE_CFG.EVT_EN = 0)
    (hwake : s.fld F.DEV_WAKE_CFG.WAKE_IN_EN = 0) (hsupply : s.fld F.DEV_WAKE_CFG.SUPPLY_EN = 0) : s.wakeEnabled = false := by
  simp only [State.fld, bitsOf, F.DEV_WAKE_CFG.LANE_EN, F.DEV_WAKE_CFG.EVT_EN, F.DEV_WAKE_CFG.WAKE_IN_EN, F.DEV_WAKE_CFG.SUPPLY_EN] at *
  simp only [State.wakeEnabled, State.fld, bitsOf, Bool.or_eq_false_iff, bne_eq_false_iff_eq]
  omega

/-- The rules of a LULL request: its mode, that no transition and no reconfiguration runs, and that a wake source is enabled. -/
theorem State.modeChecks_lull {s : State} (hmode : s.mode = Mode.BREEZE ∨ s.mode = Mode.GALE ∨ s.mode = Mode.CALM) (htrans : s.trans = false)
    (hreconf : s.anyReconf = false) :
    s.modeChecks Mode.LULL false =
      [(false, Err.WRONG_MODE), (false, Err.LOCKED), (false, Err.BUSY), (false, Err.RESERVED_FIELD), (!s.wakeEnabled, Err.ILLEGAL_VALUE)] := by
  unfold State.modeChecks
  rw [htrans, hreconf]
  rcases hmode with h | h | h <;> rw [h] <;> rfl

/-- Settles O56: ILLEGAL_VALUE is the only rule that such a request breaks. -/
theorem lullNeedsAWakeSource : Obligations.LullNeedsAWakeSource := by
  unfold Obligations.LullNeedsAWakeSource
  intro s hopen hmode htrans hreconf hlane hevt hwake hsupply
  have hchecks := State.modeChecks_lull hmode htrans hreconf
  rw [State.wakeEnabled_eq_false hlane hevt hwake hsupply] at hchecks
  obtain ⟨hfirst, hlater, hkeeps⟩ := State.guard_writeRejected_single (checks := s.modeChecks Mode.LULL false) hopen
    (fun t => t.lullReq) (base := Base.DEV) (ofs := Reg.DEV_MODE_REQ) (c := Err.ILLEGAL_VALUE) (via := false) (bar2 := false) (rsv := false)
    (bad := false) (by decide) (by decide) (by decide) (by simp [hchecks, Acc.rules]) (by simp [hchecks, Acc.rules])
  have hcur : (s.modeReq (Acc.dev Reg.DEV_MODE_REQ) Mode.LULL false).rd Reg.DEV_MODE = s.rd Reg.DEV_MODE :=
    hkeeps.1 _ (by decide) (not_reporting_of_lt (by decide) (by decide))
  have htrans' := congrArg (· == 1) (State.fld_of_rd F.DEV_MODE.TRANS hcur)
  exact ⟨_, rfl, State.fld_of_rd _ hcur, htrans'.trans htrans, hfirst, hlater, hkeeps⟩

end Sys2Proof.Machine
end

section
/-! Two frames that name the registers of a slice by their offsets (O10, O15), and the AON registers through LULL (O12). -/

namespace Sys2Proof.Machine

/-! ## What lies between the words of SLC_FLAT

Filling the tables of a slice returns every offset from its first SLC_FLAT register to its last to POR, so also one between two words, which is
no register of the two frames. -/

/-- No set of registers at even offsets has an odd one. -/
theorem RegSet.not_has_of_odd {r : RegSet} {a : Nat} (hr : r.base % 2 = 0 ∧ r.s1 % 2 = 0 ∧ r.s2 % 2 = 0) (ha : a % 2 = 1) : ¬ r.Has a := by
  rintro ⟨i, j, -, -, rfl⟩
  obtain ⟨hbase, h1, h2⟩ := hr
  have hi : r.s1 * i % 2 = 0 := by simp [Nat.mul_mod, h1]
  have hj : r.s2 * j % 2 = 0 := by simp [Nat.mul_mod, h2]
  omega

/-- The register families that are sets of even offsets; the rest are ranges of bytes. -/
def Mask.even : Nat := 0x1ffffffffffffffffffffffffffffffffffffffffffffffffffffffffffffffffffffffffffffe

theorem families_even :
    (families.zipIdx.all fun e => !Mask.even.testBit e.2 || (e.1.base % 2 == 0 && e.1.s1 % 2 == 0 && e.1.s2 % 2 == 0)) = true := by
  decide +kernel

theorem InMask.even {a : Nat} (h : InMask Mask.even a) : a % 2 = 0 := by
  rcases h with hz | ⟨k, r, hk, hr, ha⟩
  · exact absurd hz (by decide)
  · have hall := List.all_eq_true.mp families_even (r, k) (List.mk_mem_zipIdx_iff_getElem?.mpr hr)
    simp only [hk, Bool.not_true, Bool.false_or, Bool.and_eq_true, beq_iff_eq, and_assoc] at hall
    by_contra hodd
    exact RegSet.not_has_of_odd hall (by omega) ha

/-- An odd offset that reports nothing stays in a frame of even sets. -/
theorem KeepsIn.rd_odd {own : List RegSet} {ps : List Part} {s t : State} (h : KeepsIn own ps s t)
    (hown : ∀ r ∈ own, r.base % 2 = 0 ∧ r.s1 % 2 = 0 ∧ r.s2 % 2 = 0) {a : Nat} (ha : a % 2 = 1) : t.rd a = s.rd a := by
  refine h.1 a (fun r hr => RegSet.not_has_of_odd (hown r hr) ha) ?_
  rintro (rfl | rfl | ⟨n, rfl⟩ | ⟨n, rfl⟩)
  · exact absurd ha (by decide)
  · exact absurd ha (by decide)
  · unfold Reg.SP_LOST_CNT at ha
    omega
  · unfold Reg.PF_CNT at ha
    omega

/-- The offset behind the first byte of SLC_FLAT_1 of slice 0. -/
def flatGap : Nat := Reg.SLC_FLAT 0 1 + 1

/-- The state after reset with slice 0 in RECONF, and a 1 listed between two words of its SLC_FLAT. -/
def reconfWithFlatGap : State := (State.reset.setFld (F.slcState 0) Slc.RECONF).wr flatGap 1

theorem reconfWithFlatGap_reset_done : ((reconfWithFlatGap.refill 0 Slc.ACTIVE).settle).rd flatGap = 0 := by decide +kernel

/-- Refutes O10, by its third clause: in `reconfWithFlatGap` the slice reset of slice 0 ends, and the 1 at `flatGap` is gone. -/
theorem not_softAndSliceResetsTakeTheirScope : ¬ Obligations.SoftAndSliceResetsTakeTheirScope := by
  unfold Obligations.SoftAndSliceResetsTakeTheirScope
  rintro ⟨-, -, hdone⟩
  obtain ⟨t, ht, -, hkeeps⟩ := hdone reconfWithFlatGap 0 (by decide) (by decide) (by decide) (by decide)
  obtain rfl : (reconfWithFlatGap.refill 0 Slc.ACTIVE).settle = t := by injection ht
  have hrd := hkeeps.rd_odd (a := flatGap) (by decide) (by decide)
  rw [reconfWithFlatGap_reset_done] at hrd
  exact absurd hrd (by decide)

/-- The state after reset in STEEP with slice 0 powered up, and a 1 listed between two words of its SLC_FLAT. -/
def steepWithFlatGap : State := ((State.reset.setFld F.DEV_MODE.CUR Mode.STEEP).powerUp 0).wr flatGap 1

/-- SLICE_POWER_UP_DONE of slice 0 in `steepWithFlatGap`, with an empty calibration flash. -/
def steepSlicePowered : State :=
  let s1 := steepWithFlatGap.refill 0 Slc.DARK
  let s2 := (s1.readCal ⟨[], []⟩ (fun l => sliceOf l == 0) false).setSlcStep 0 0
  ((s2.ports.filter fun p => sliceOf p == 0).foldl State.gclCatch (s2.portsTrain 0)).settle

theorem steepSlicePowered_flatGap : steepSlicePowered.rd flatGap = 0 := by
  have hcal : Law Mask.even Mask.parts (steepWithFlatGap.refill 0 Slc.DARK)
      (((steepWithFlatGap.refill 0 Slc.DARK).readCal ⟨[], []⟩ (fun l => sliceOf l == 0) false).setSlcStep 0 0) :=
    State.setSlcStep_law (State.readCal_law (Law.refl _ _ _) _ _ _ rfl rfl) _ _ rfl rfl
  have hlaw : Law Mask.even Mask.parts (steepWithFlatGap.refill 0 Slc.DARK) steepSlicePowered :=
    State.settle_law (Law.foldl _ (State.portsTrain_law hcal _ rfl rfl) fun _ _ h => State.gclCatch_law h _ rfl rfl) rfl rfl
  refine (hlaw.regs _ fun hm => ?_).trans (by decide +kernel : (steepWithFlatGap.refill 0 Slc.DARK).rd flatGap = 0)
  exact absurd hm.even (by decide)

/-- Refutes O15, by its last clause: in `steepWithFlatGap` slice 0 comes back, and the 1 at `flatGap` is gone. -/
theorem not_steepEndsAndSlicesDrainAndReturn : ¬ Obligations.SteepEndsAndSlicesDrainAndReturn := by
  unfold Obligations.SteepEndsAndSlicesDrainAndReturn
  rintro ⟨-, -, -, -, -, hdone⟩
  obtain ⟨t, ht, -, hkeeps⟩ := hdone steepWithFlatGap 0 ⟨[], []⟩ (by decide) (by decide) (.inl (by decide)) (by decide)
  obtain rfl : steepSlicePowered = t := by injection ht
  have hrd := hkeeps.rd_odd (a := flatGap) (by decide) (by decide)
  rw [steepSlicePowered_flatGap] at hrd
  exact absurd hrd (by decide)

/-! ## A register file with two entries of one register

LULL_SHUTDOWN_DONE writes the listed pairs of the AON registers again, so the last pair of a register stays, but a read finds the first. -/

/-- The state after reset at step 3 of an entry into LULL, with two pairs of DEV_WAKE_CFG listed. -/
def lullWithTwoWakeCfg : State :=
  { State.reset with
    regs := ⟨[(Reg.DEV_WAKE_CFG, 1), (Reg.DEV_WAKE_CFG, 2)]⟩, dev := { State.reset.dev with lullStep := 3 } }

/-- Refutes O12, by its third clause: in `lullWithTwoWakeCfg` DEV_WAKE_CFG reads 1, and 2 in LULL. -/
theorem not_lullIsEnteredAndLeft : ¬ Obligations.LullIsEnteredAndLeft := by
  unfold Obligations.LullIsEnteredAndLeft
  rintro ⟨-, -, hdown, -⟩
  obtain ⟨t, ht, -, -, -, -, hcfg, -⟩ := hdown lullWithTwoWakeCfg (by decide)
  obtain rfl : { (lullWithTwoWakeCfg.coreReset Mode.LULL) with dev := { (lullWithTwoWakeCfg.coreReset Mode.LULL).dev with wakeStep := 0 } } = t := by
    injection ht
  exact absurd hcfg (by decide)

end Sys2Proof.Machine
end

section
/-! The core at its reset values after a supply or a reset pin, and the start of LOAD (O9). -/

namespace Sys2Proof.Machine

/-! ## Frames -/

theorem Keeps.trans {own : List Nat} {ps : List Part} {s t u : State} (h1 : Keeps own ps s t) (h2 : Keeps own ps t u) : Keeps own ps s u :=
  ⟨fun a ha => (h2.1 a ha).trans (h1.1 a ha), fun p hp => (h1.2 p hp).trans (h2.2 p hp)⟩

theorem Keeps.setFld (s : State) {own : List Nat} (ps : List Part) (f : Fld) (v : Nat) (ha : f.ofs ∈ own) : Keeps own ps s (s.setFld f v) :=
  Keeps.wr s ps _ ha

theorem Keeps.mono {own own' : List Nat} {ps ps' : List Part} {s t : State} (h : Keeps own ps s t) (ho : ∀ a ∈ own, a ∈ own')
    (hp : ∀ p ∈ ps, p ∈ ps') : Keeps own' ps' s t :=
  ⟨fun a ha => h.1 a fun hm => ha (ho a hm), fun p hn => h.2 p fun hm => hn (hp p hm)⟩

/-! ## A reset of the core -/

theorem not_inMask_zero (a : Nat) : ¬ InMask 0 a := by
  rintro (h | ⟨k, r, h, -⟩) <;> simp at h

/-- A law that names no register. -/
theorem Law.rd_all {P : Nat} {s t : State} (h : Law 0 P s t) (a : Nat) : t.rd a = s.rd a := h.regs a (not_inMask_zero a)

/-- What a reset keeps of the device part: the pins, the straps and the levels of the supplies (Table 02.11). -/
def State.blankDev (s : State) : Dev :=
  { State.reset.dev with
    bootSel := s.dev.bootSel, resetN := s.dev.resetN, perstN := s.dev.perstN, ocxoWarm := s.dev.ocxoWarm, pgCore := s.dev.pgCore,
    pgMem := s.dev.pgMem }

/-- The state that a reset begins with: registers and parts at their reset values, but for the pins. -/
def State.blankBase (s : State) : State :=
  { State.reset with
    regs := s.regs.filter fun a _ => a == Reg.PIN_EVT_LEVEL, cycle := s.cycle, dev := s.blankDev, freeCtr := s.freeCtr, uid := s.uid, out := s.out,
    pending := s.pending }

/-- The mode `m` shown, with no transition. -/
def State.showMode (s : State) (m : Nat) : State := ((s.setFld F.DEV_MODE.CUR m).setFld F.DEV_MODE.TARGET m).setFld F.DEV_MODE.TRANS 0

theorem State.blank_law_pins (s : State) (m : Nat) : Law 0 0x100000 (s.blankBase.showMode m) (s.blank m) :=
  State.pinsMoved_law (Law.refl _ _ _) s rfl rfl

theorem State.rd_blankBase (s : State) (a : Nat) : s.blankBase.rd a = if a = Reg.PIN_EVT_LEVEL then s.rd a else Reg.por a := by
  change (SMap.lookup (s.regs.entries.filter fun e => e.1 == Reg.PIN_EVT_LEVEL) a).getD (Reg.por a) = _
  split
  · rw [SMap.lookup_filter _ (fun k _ => k == Reg.PIN_EVT_LEVEL) a (by simp_all)]
    rfl
  · rw [SMap.lookup_filter_out _ (fun k _ => k == Reg.PIN_EVT_LEVEL) a (by simp_all)]
    rfl

theorem State.rd_showMode_ne (s : State) (m : Nat) {a : Nat} (h : a ≠ Reg.DEV_MODE) : (s.showMode m).rd a = s.rd a := by
  unfold State.showMode
  rw [State.rd_setFld_ne _ _ _ h, State.rd_setFld_ne _ _ _ h, State.rd_setFld_ne _ _ _ h]

theorem State.showMode_shows (s : State) {m : Nat} (hm : m < 8) :
    (s.showMode m).mode = m ∧ (s.showMode m).fld F.DEV_MODE.TARGET = m ∧ (s.showMode m).fld F.DEV_MODE.TRANS = 0 := by
  refine ⟨?_, ?_, State.fld_setFld_self _ F.DEV_MODE.TRANS 0 (by decide) (by decide)⟩
  · unfold State.showMode State.mode
    rw [State.fld_setFld_bits _ F.DEV_MODE.TRANS F.DEV_MODE.CUR _ (by decide) (by decide) (by decide) rfl (by decide),
      State.fld_setFld_bits _ F.DEV_MODE.TARGET F.DEV_MODE.CUR _ (by decide) (by decide) (by decide) rfl (by decide),
      State.fld_setFld_self _ F.DEV_MODE.CUR _ (by decide) (by decide)]
    exact Nat.mod_eq_of_lt hm
  · unfold State.showMode
    rw [State.fld_setFld_bits _ F.DEV_MODE.TRANS F.DEV_MODE.TARGET _ (by decide) (by decide) (by decide) rfl (by decide),
      State.fld_setFld_self _ F.DEV_MODE.TARGET _ (by decide) (by decide)]
    exact Nat.mod_eq_of_lt hm

theorem State.rd_blank (s : State) (m : Nat) {a : Nat} (h : a ≠ Reg.DEV_MODE) :
    (s.blank m).rd a = if a = Reg.PIN_EVT_LEVEL then s.rd a else Reg.por a := by
  rw [(s.blank_law_pins m).rd_all, State.rd_showMode_ne _ _ h, State.rd_blankBase]

/-- A part but the messages on the pins is as the reset began with. -/
theorem State.blank_part (s : State) (m : Nat) {p : Part} (hp : p ≠ .out) : p.Same s.blankBase (s.blank m) := by
  have hlaw : p.Same (s.blankBase.showMode m) (s.blank m) := (s.blank_law_pins m).parts p (by revert hp; unfold PartIn; cases p <;> decide)
  refine Part.Same.trans ?_ hlaw
  cases p <;> rfl

theorem State.blank_dev (s : State) (m : Nat) : (s.blank m).dev = s.blankDev := s.blank_part m (p := .dev) (by decide)

/-- A reset leaves the core at its reset values. -/
theorem State.blank_coreAtReset (s : State) {m : Nat} (hm : m < 8) : CoreAtReset m [] s (s.blank m) := by
  have hmode : (s.blank m).rd Reg.DEV_MODE = (s.blankBase.showMode m).rd Reg.DEV_MODE := (s.blank_law_pins m).rd_all _
  obtain ⟨hcur, htarget, htrans⟩ := s.blankBase.showMode_shows hm
  refine ⟨(State.fld_of_rd F.DEV_MODE.CUR hmode).trans hcur, (State.fld_of_rd F.DEV_MODE.TARGET hmode).trans htarget,
    (State.fld_of_rd F.DEV_MODE.TRANS hmode).trans htrans, ?_, fun a ha => ?_, fun p hp => ?_⟩
  · rw [State.rd_blank s m (by decide), if_pos rfl]
  · simp only [List.mem_cons, List.not_mem_nil, or_false, not_or] at ha
    rw [State.rd_blank s m ha.1, if_neg ha.2]
  · have hsame := s.blank_part m (p := p) (by rintro rfl; simp at hp)
    revert hp hsame
    cases p <;> simp [Part.Same, State.blankBase]

/-- A change of the device part and of registers that are not spoken of. -/
theorem CoreAtReset.of_keeps {m : Nat} {kept : List Nat} {s t u : State} (h : CoreAtReset m [] s t) (hkeeps : Keeps kept [.dev] t u)
    (hmode : Reg.DEV_MODE ∉ kept) (hpin : Reg.PIN_EVT_LEVEL ∉ kept) : CoreAtReset m kept s u := by
  obtain ⟨hcur, htarget, htrans, hpins, hregs, hsame⟩ := h
  obtain ⟨hrd, hparts⟩ := hkeeps
  refine ⟨(State.fld_of_rd F.DEV_MODE.CUR (hrd _ hmode)).trans hcur, (State.fld_of_rd F.DEV_MODE.TARGET (hrd _ hmode)).trans htarget,
    (State.fld_of_rd F.DEV_MODE.TRANS (hrd _ hmode)).trans htrans, (hrd _ hpin).trans hpins, fun a ha => ?_, fun p hp => ?_⟩
  · simp only [List.mem_cons, not_or] at ha
    obtain ⟨hdm, hpl, hk⟩ := ha
    exact (hrd a hk).trans (hregs a (by simp [hdm, hpl]))
  · exact (hsame p hp).trans (hparts p (by rintro hd; obtain rfl := List.mem_singleton.mp hd; simp at hp))

/-! ## The pins -/

theorem execPgAonFall_restarts (s : State) : NextWith (exec (.pgAonFall) s) fun t => CoreAtReset Mode.OFF [] s t ∧ t.aon = Aon.fresh :=
  ⟨_, rfl, s.blank_coreAtReset (by decide), s.blank_part _ (p := .aon) (by decide)⟩

/-- The state in which the supplies of the core or of its memories have fallen. -/
def State.supplyFall (s : State) (core mem : Bool) : State :=
  { s with dev := { s.dev with pgCore := s.dev.pgCore && !core, pgMem := s.dev.pgMem && !mem } }

theorem exec_pgCoreMemFall_of_running {s : State} {core mem : Bool} (hfall : (core || mem) = true) (hoff : s.mode ≠ Mode.OFF)
    (hlull : s.mode ≠ Mode.LULL) (hstep : s.dev.lullStep ≠ 3) :
    exec (.pgCoreMemFall core mem) s = .next ((s.supplyFall core mem).blank Mode.OFF) := by
  change execPgCoreMemFall core mem s = _
  unfold execPgCoreMemFall
  have hnone : ¬ (!core && !mem) = true := by revert hfall; cases core <;> cases mem <;> decide
  rw [if_neg (by tauto), if_neg hlull]
  rfl

theorem execPgCoreMemFall_restarts {s : State} {core mem : Bool} (hfall : (core || mem) = true) (hoff : s.mode ≠ Mode.OFF)
    (hlull : s.mode ≠ Mode.LULL) (hstep : s.dev.lullStep ≠ 3) :
    NextWith (exec (.pgCoreMemFall core mem) s) fun t =>
      CoreAtReset Mode.OFF [] s t ∧ t.dev.pgCore = (s.dev.pgCore && !core) ∧ t.dev.pgMem = (s.dev.pgMem && !mem) := by
  refine ⟨_, exec_pgCoreMemFall_of_running hfall hoff hlull hstep, ?_, ?_, ?_⟩
  · exact (s.supplyFall core mem).blank_coreAtReset (by decide)
  · rw [State.blank_dev]
    rfl
  · rw [State.blank_dev]
    rfl

theorem execResetNAssert_restarts (s : State) :
    NextWith (exec (.resetNAssert) s) fun t =>
      CoreAtReset Mode.OFF [Reg.DEV_RST_CAUSE] s t ∧ t.fld F.DEV_RST_CAUSE.PIN = 1 ∧ t.dev.resetN = false := by
  refine ⟨_, rfl, ?_, ?_, rfl⟩
  · exact (s.blank_coreAtReset (by decide)).of_keeps ((Keeps.withDev _ _ _).trans (Keeps.wr _ _ _ (by simp))) (by decide) (by decide)
  · simp only [State.fld, F.DEV_RST_CAUSE.PIN, State.rd_wr_self]
    decide

/-! ## Power-up -/

/-- The state that has sampled its straps. -/
def State.strapped (s : State) (bootSel : Nat) (core mem : Bool) : State :=
  { s with dev := { s.dev with bootSel := bootSel, resetN := true, pgCore := core, pgMem := mem } }

/-- LOAD shown, in transition to the mode that the straps name. -/
def State.loadShown (s : State) : State :=
  ((s.setFld F.DEV_MODE.CUR Mode.LOAD).setFld F.DEV_MODE.TARGET (if s.dev.bootSel = 3 then Mode.PROBE else Mode.STEEP)).setFld F.DEV_MODE.TRANS 1

theorem State.loadShown_shows (s : State) :
    s.loadShown.mode = Mode.LOAD ∧ s.loadShown.fld F.DEV_MODE.TARGET = (if s.dev.bootSel = 3 then Mode.PROBE else Mode.STEEP) ∧
    s.loadShown.fld F.DEV_MODE.TRANS = 1 := by
  refine ⟨?_, ?_, State.fld_setFld_self _ F.DEV_MODE.TRANS 1 (by decide) (by decide)⟩
  · unfold State.loadShown State.mode
    rw [State.fld_setFld_bits _ F.DEV_MODE.TRANS F.DEV_MODE.CUR _ (by decide) (by decide) (by decide) rfl (by decide),
      State.fld_setFld_bits _ F.DEV_MODE.TARGET F.DEV_MODE.CUR _ (by decide) (by decide) (by decide) rfl (by decide),
      State.fld_setFld_self _ F.DEV_MODE.CUR _ (by decide) (by decide)]
    rfl
  · unfold State.loadShown
    rw [State.fld_setFld_bits _ F.DEV_MODE.TRANS F.DEV_MODE.TARGET _ (by decide) (by decide) (by decide) rfl (by decide),
      State.fld_setFld_self _ F.DEV_MODE.TARGET _ (by decide) (by decide)]
    split <;> rfl

theorem State.loadStart_of_host {s : State} (h : s.dev.bootSel = 1) :
    s.loadStart = (s.loadShown.setFld F.IMG_STATUS.SOURCE 2).setFld F.IMG_STATUS.STATE ImgSt.WAIT_HOST := if_pos h

theorem State.loadStart_of_not_host {s : State} (h : s.dev.bootSel ≠ 1) : s.loadStart = s.loadShown := if_neg h

theorem State.loadStart_devMode (s : State) : s.loadStart.rd Reg.DEV_MODE = s.loadShown.rd Reg.DEV_MODE := by
  by_cases h : s.dev.bootSel = 1
  · rw [State.loadStart_of_host h, State.rd_setFld_ne _ _ _ (by decide), State.rd_setFld_ne _ _ _ (by decide)]
  · rw [State.loadStart_of_not_host h]

/-- LOAD begins, with the target that the straps name. -/
theorem State.loadStart_shows (s : State) :
    s.loadStart.mode = Mode.LOAD ∧ s.loadStart.fld F.DEV_MODE.TARGET = (if s.dev.bootSel = 3 then Mode.PROBE else Mode.STEEP) ∧
    s.loadStart.fld F.DEV_MODE.TRANS = 1 := by
  obtain ⟨hcur, htarget, htrans⟩ := s.loadShown_shows
  have hrd := s.loadStart_devMode
  exact ⟨(State.fld_of_rd F.DEV_MODE.CUR hrd).trans hcur, (State.fld_of_rd F.DEV_MODE.TARGET hrd).trans htarget,
    (State.fld_of_rd F.DEV_MODE.TRANS hrd).trans htrans⟩

theorem State.loadShown_keeps (s : State) {own : List Nat} (ps : List Part) (h : Reg.DEV_MODE ∈ own) : Keeps own ps s s.loadShown :=
  ((Keeps.setFld s ps F.DEV_MODE.CUR _ h).trans (Keeps.setFld _ ps F.DEV_MODE.TARGET _ h)).trans (Keeps.setFld _ ps F.DEV_MODE.TRANS _ h)

theorem State.loadStart_keeps (s : State) : Keeps [Reg.DEV_MODE, Reg.IMG_STATUS] [] s s.loadStart := by
  have hshown := s.loadShown_keeps (own := [Reg.DEV_MODE, Reg.IMG_STATUS]) [] (by simp)
  by_cases h : s.dev.bootSel = 1
  · rw [State.loadStart_of_host h]
    exact (hshown.trans (Keeps.setFld _ [] F.IMG_STATUS.SOURCE _ (by decide))).trans (Keeps.setFld _ [] F.IMG_STATUS.STATE _ (by decide))
  · rw [State.loadStart_of_not_host h]
    exact hshown

theorem State.loadStart_dev (s : State) : s.loadStart.dev = s.dev := s.loadStart_keeps.2 .dev (by simp)

theorem State.loadStart_source {s : State} (h : s.dev.bootSel = 1) : s.loadStart.fld F.IMG_STATUS.SOURCE = 2 := by
  rw [State.loadStart_of_host h,
    State.fld_setFld_bits _ F.IMG_STATUS.STATE F.IMG_STATUS.SOURCE _ (by decide) (by decide) (by decide) rfl (by decide),
    State.fld_setFld_self _ F.IMG_STATUS.SOURCE _ (by decide) (by decide)]
  rfl

theorem State.strapped_keeps (s : State) (own : List Nat) (b : Nat) (core mem : Bool) : Keeps own [.dev] s (s.strapped b core mem) :=
  Keeps.withDev s own _

theorem exec_powerUpStart_loads {s : State} {b : BitVec 2} (hoff : s.mode = Mode.OFF) (hb : b ≠ 2) :
    exec (.powerUpStart b true true) s = .next (s.strapped b.toNat true true).loadStart := by
  change execPowerUpStart b true true s = _
  unfold execPowerUpStart
  rw [if_pos hoff, if_neg hb]
  rfl

theorem execPowerUpStart_loads {s : State} {b : BitVec 2} (hoff : s.mode = Mode.OFF) (hb : b ≠ 2) :
    NextWith (exec (.powerUpStart b true true) s) fun t =>
      t.mode = Mode.LOAD ∧ t.fld F.DEV_MODE.TRANS = 1 ∧ (t.fld F.DEV_MODE.TARGET = (if b = 3 then Mode.PROBE else Mode.STEEP)) ∧
      t.dev.bootSel = b.toNat ∧ (b = 1 → t.fld F.IMG_STATUS.SOURCE = 2) ∧ Keeps [Reg.DEV_MODE, Reg.IMG_STATUS] [.dev] s t := by
  obtain ⟨hmode, htarget, htrans⟩ := (s.strapped b.toNat true true).loadStart_shows
  refine ⟨_, exec_powerUpStart_loads hoff hb, hmode, htrans, htarget.trans ?_, ?_, fun h1 => ?_, ?_⟩
  · have h3 : b.toNat = 3 ↔ b = 3 := ⟨fun h => BitVec.eq_of_toNat_eq h, fun h => by rw [h]; rfl⟩
    change (if b.toNat = 3 then Mode.PROBE else Mode.STEEP) = _
    simp only [h3]
  · rw [State.loadStart_dev]
    rfl
  · exact State.loadStart_source (by rw [h1]; rfl)
  · exact (s.strapped_keeps _ _ _ _).trans ((State.loadStart_keeps _).mono (fun _ h => h) (by simp))

theorem execPowerUpStart_lulls {s : State} (core mem : Bool) (hoff : s.mode = Mode.OFF) :
    NextWith (exec (.powerUpStart 2 core mem) s) fun t =>
      t.mode = Mode.LULL ∧ t.dev.pgCore = core ∧ t.dev.pgMem = mem ∧ Keeps [Reg.DEV_MODE] [.dev] s t := by
  have hexec : exec (.powerUpStart 2 core mem) s =
      .next (((s.strapped 2 core mem).setFld F.DEV_MODE.CUR Mode.LULL).setFld F.DEV_MODE.TARGET Mode.LULL) := by
    change execPowerUpStart 2 core mem s = _
    unfold execPowerUpStart
    rw [if_pos hoff, if_pos rfl]
    rfl
  refine ⟨_, hexec, ?_, rfl, rfl, ?_⟩
  · unfold State.mode
    rw [State.fld_setFld_bits _ F.DEV_MODE.TARGET F.DEV_MODE.CUR _ (by decide) (by decide) (by decide) rfl (by decide),
      State.fld_setFld_self _ F.DEV_MODE.CUR _ (by decide) (by decide)]
    rfl
  · exact ((s.strapped_keeps _ _ _ _).trans (Keeps.setFld _ _ F.DEV_MODE.CUR _ (by decide))).trans (Keeps.setFld _ _ F.DEV_MODE.TARGET _ (by decide))

/-- Settles O9, clause by clause. -/
theorem powerAndResetPinsRestart : Obligations.PowerAndResetPinsRestart := by
  unfold Obligations.PowerAndResetPinsRestart
  exact ⟨execPgAonFall_restarts, fun s core mem hfall hoff hlull hstep => execPgCoreMemFall_restarts hfall hoff hlull hstep,
    execResetNAssert_restarts, fun s b hoff hb => execPowerUpStart_loads hoff hb, fun s core mem hoff => execPowerUpStart_lulls core mem hoff⟩

end Sys2Proof.Machine
end

section
/-! The time that the always-on domain keeps (O11). -/

namespace Sys2Proof.Machine

/-! ## The AON clock -/

/-- The state in which the AON clock is found absent. -/
def State.clkLost (s : State) : State :=
  { s with aon := { s.aon with clkAbsent := true }, dev := { s.dev with conds := setBit s.dev.conds Fatal.AON_CLK true } }

theorem State.clkAbsent_of_powered {s : State} (h : s.mode ≠ Mode.OFF) : s.clkAbsent = s.clkLost.fatal Fatal.AON_CLK := if_neg h

/-- A fatal cause marks its bit in every mode. -/
theorem State.fldBit_fatal (s : State) {b : Nat} (hb : b < 32) : (s.fatal b).fldBit ⟨Reg.DEV_FATAL, 31, 0⟩ b = true := by
  have hmark := s.fldBit_markFatal hb
  have hpart : (s.markFatal b).abandonPartial.fldBit ⟨Reg.DEV_FATAL, 31, 0⟩ b = true := by
    have hlaw : Law (maskOf [1, 2, 3, 28]) 0x10000c (s.markFatal b) (s.markFatal b).abandonPartial :=
      State.abandonPartial_law (Law.refl _ _ _) (by decide) (by decide)
    exact (State.fldBit_of_rd ⟨Reg.DEV_FATAL, 31, 0⟩ b (hlaw.rd_off (by decide))).trans hmark
  unfold State.fatal
  dsimp only
  split
  · exact hmark
  split
  · split
    · exact hmark
    · exact (State.fldBit_of_rd ⟨Reg.DEV_FATAL, 31, 0⟩ b (s.markFatal b).rd_enterCalm_fatal).trans hmark
  split
  · exact hpart
  · exact hmark

theorem State.fatal_of_lull {s : State} (b : Nat) (h : s.mode = Mode.LULL) : s.fatal b = s.markFatal b := by
  unfold State.fatal
  simp [h, Mode.LULL, Mode.LOAD, Mode.STEEP, Mode.BREEZE, Mode.GALE, Mode.CALM]

theorem State.clkLost_keepsIn (s : State) : KeepsIn Scope.calm [.dev, .aon, .slices] s s.clkLost := by
  refine ⟨fun _ _ _ => rfl, fun p hp => ?_⟩
  cases p
  case dev | aon => simp at hp
  all_goals rfl

theorem execAonClkAbsent_marks {s : State} (h : s.mode ≠ Mode.OFF) :
    NextWith (exec (.aonClkAbsent) s) fun t =>
      t.aon.clkAbsent = true ∧ t.fldBit ⟨Reg.DEV_FATAL, 31, 0⟩ Fatal.AON_CLK = true ∧
      (s.mode = Mode.LULL → t.mode = Mode.LULL) ∧ KeepsIn Scope.calm [.dev, .aon, .slices] s t := by
  have haon : (s.clkLost.fatal Fatal.AON_CLK).aon = s.clkLost.aon := (s.clkLost.fatal_law_calm _).part_off (p := .aon) (by decide)
  refine ⟨_, congrArg Host.Outcome.next (State.clkAbsent_of_powered h), ?_, s.clkLost.fldBit_fatal (by decide), fun hlull => ?_, ?_⟩
  · rw [haon]
    rfl
  · have hlost : s.clkLost.mode = Mode.LULL := hlull
    rw [State.fatal_of_lull _ hlost, State.markFatal_mode, hlost]
  · exact s.clkLost_keepsIn.trans ((s.clkLost.fatal_keepsIn _).mono (fun _ h => h) (by simp))

theorem bitAt_setBit_false (n i : Nat) : bitAt (setBit n i false) i = false := by
  unfold setBit
  cases hb : bitAt n i with
  | false => simpa [b2n] using hb
  | true =>
    have hodd : n / 2 ^ i % 2 = 1 := beq_iff_eq.mp hb
    have hdiv : (n - 2 ^ i * 1) / 2 ^ i = n / 2 ^ i - 1 := Nat.sub_mul_div _ _ _
    rw [Nat.mul_one] at hdiv
    simp only [b2n, bitAt, if_true, one_mul, Bool.false_eq_true, if_false, zero_mul, add_zero, beq_eq_false_iff_ne, hdiv]
    omega

theorem execAonClkReturn_ends (s : State) :
    NextWith (exec (.aonClkReturn) s) fun t =>
      t.aon.clkAbsent = false ∧ bitAt t.dev.conds Fatal.AON_CLK = false ∧ Keeps [] [.dev, .aon] s t := by
  refine ⟨_, rfl, rfl, bitAt_setBit_false _ _, fun _ _ => rfl, fun p hp => ?_⟩
  cases p
  case dev | aon => simp at hp
  all_goals rfl

/-! ## The measured rates -/

/-- A quotient of naturals is rounded down, or up where it is no whole number. -/
theorem State.roundOpen_div (s : State) (a b : Nat) : ∃ r < 2, (s.roundOpen ((a : Rat) / (b : Rat))).toNat = a / b + r := by
  have hfloor : ((a : Rat) / (b : Rat)).floor = ((a / b : Nat) : Int) := (Rat.floor_natCast_div_natCast a b).trans (Int.natCast_div a b).symm
  unfold State.roundOpen
  split
  case isTrue hden =>
    have hnum : ((a : Rat) / (b : Rat)).num = ((a / b : Nat) : Int) := by
      rw [← hfloor, Rat.floor_def, hden]
      simp
    exact ⟨0, by decide, by rw [hnum]; rfl⟩
  case isFalse =>
    rw [hfloor]
    split
    · exact ⟨0, by decide, rfl⟩
    · exact ⟨1, by decide, rfl⟩

/-- The state with another always-on part and another count of free values. -/
def State.timed (s : State) (a : Aon) (c : Nat) : State := { s with aon := a, freeCtr := c }

theorem State.timed_keeps (s : State) (a : Aon) (c : Nat) : Keeps [] [.aon, .freeCtr] s (s.timed a c) := by
  refine ⟨fun _ _ => rfl, fun p hp => ?_⟩
  cases p
  case aon | freeCtr => simp at hp
  all_goals rfl

/-- What domain `d` went since the window began. -/
def State.went (s : State) (d : Nat) : Nat := (s.published d + ctrMod - s.aon.win.getD d (s.published d)) % ctrMod

/-- The increment measured for domain `d` over `n` cycles of AON_CLK. -/
def State.ratedInc (s : State) (n d : Nat) : Nat := (s.roundOpen ((s.went d : Rat) / (n : Rat))).toNat % 2 ^ 56

/-- The copy of channel `ch` of domain `d` takes the measured increment. -/
def State.rateCopy (s : State) (n d : Nat) (m : SMap AonCopy) (ch : Nat) : SMap AonCopy :=
  m.put (ch * 8 + d) { m.getD (ch * 8 + d) AonCopy.fresh with inc := s.ratedInc n d, drv := none }

theorem State.aonRate_of_still {s : State} {n d : Nat} (h : (s.isDerived d || s.went d == 0) = true) : s.aonRate n d = s := if_pos h

theorem State.aonRate_of_went {s : State} {n d : Nat} (h : (s.isDerived d || s.went d == 0) = false) :
    s.aonRate n d = s.timed { s.aon with copies := [0, 1, 2].foldl (s.rateCopy n d) s.aon.copies } (s.freeCtr + 1) :=
  if_neg (by simpa [State.went] using h)

/-- A state that differs from `s` at most in the copies and the count of free values. -/
def SameWindow (s t : State) : Prop := ∃ a c, t = s.timed a c ∧ a.win = s.aon.win ∧ a.clkAbsent = s.aon.clkAbsent

theorem SameWindow.refl (s : State) : SameWindow s s := ⟨s.aon, s.freeCtr, rfl, rfl, rfl⟩

theorem State.aonRate_sameWindow {s t : State} (h : SameWindow s t) (n d : Nat) : SameWindow s (t.aonRate n d) := by
  obtain ⟨a, c, rfl, hwin, hclk⟩ := h
  cases hc : (s.timed a c).isDerived d || (s.timed a c).went d == 0 with
  | true => exact ⟨a, c, State.aonRate_of_still hc, hwin, hclk⟩
  | false => exact ⟨_, _, State.aonRate_of_went hc, hwin, hclk⟩

theorem State.aonRates_sameWindow {s t : State} (h : SameWindow s t) (n : Nat) (l : List Nat) :
    SameWindow s (l.foldl (fun t d => t.aonRate n d) t) := by
  induction l generalizing t with
  | nil => exact h
  | cons d l ih => exact ih (State.aonRate_sameWindow h n d)

/-- The copies of domain `d` hold its measured increment. -/
def State.Rated (s : State) (n d ch : Nat) : Prop :=
  (∃ r < 2, (s.aon.copies.getD (ch * 8 + d) AonCopy.fresh).inc = (s.went d / n + r) % 2 ^ 56) ∧
    (s.aon.copies.getD (ch * 8 + d) AonCopy.fresh).drv = none

theorem State.getD_rateCopies (s : State) (n d : Nat) (m : SMap AonCopy) {ch : Nat} (hch : ch < 3) :
    ∃ c : AonCopy, ([0, 1, 2].foldl (s.rateCopy n d) m).getD (ch * 8 + d) AonCopy.fresh = { c with inc := s.ratedInc n d, drv := none } := by
  simp only [List.foldl_cons, List.foldl_nil]
  generalize hm0 : s.rateCopy n d m 0 = m0
  generalize hm1 : s.rateCopy n d m0 1 = m1
  have h012 : ch = 0 ∨ ch = 1 ∨ ch = 2 := by omega
  unfold State.rateCopy at *
  rcases h012 with rfl | rfl | rfl
  · exact ⟨_, by rw [SMap.getD_put_ne _ _ _ (by omega), ← hm1, SMap.getD_put_ne _ _ _ (by omega), ← hm0, SMap.getD_put_self]⟩
  · exact ⟨_, by rw [SMap.getD_put_ne _ _ _ (by omega), ← hm1, SMap.getD_put_self]⟩
  · exact ⟨_, SMap.getD_put_self _ _ _ _⟩

theorem State.getD_rateCopies_ne (s : State) {n d k : Nat} (m : SMap AonCopy) (hk : ∀ ch < 3, k ≠ ch * 8 + d) :
    ([0, 1, 2].foldl (s.rateCopy n d) m).getD k AonCopy.fresh = m.getD k AonCopy.fresh := by
  simp only [List.foldl_cons, List.foldl_nil, State.rateCopy]
  rw [SMap.getD_put_ne _ _ _ (hk 2 (by decide)), SMap.getD_put_ne _ _ _ (hk 1 (by decide)), SMap.getD_put_ne _ _ _ (hk 0 (by decide))]

theorem State.aonRate_rated {s : State} {n d ch : Nat} (hder : s.isDerived d = false) (hwent : s.went d ≠ 0) (hch : ch < 3) :
    (s.aonRate n d).Rated n d ch := by
  rw [State.aonRate_of_went (by simp [hder, hwent])]
  obtain ⟨c, hc⟩ := s.getD_rateCopies n d s.aon.copies hch
  obtain ⟨r, hr, hround⟩ := s.roundOpen_div (s.went d) n
  have hinc : s.ratedInc n d = (s.went d / n + r) % 2 ^ 56 := congrArg (· % 2 ^ 56) hround
  refine ⟨⟨r, hr, ?_⟩, ?_⟩
  · exact (congrArg AonCopy.inc hc).trans hinc
  · exact congrArg AonCopy.drv hc

theorem State.aonRate_keepsRated {s : State} {n d e ch : Nat} (hd : d < 8) (he : e < 8) (hne : e ≠ d) (h : s.Rated n d ch) :
    (s.aonRate n e).Rated n d ch := by
  cases hc : s.isDerived e || s.went e == 0 with
  | true =>
    rw [State.aonRate_of_still hc]
    exact h
  | false =>
    rw [State.aonRate_of_went hc]
    have hkeep := s.getD_rateCopies_ne (n := n) (d := e) (k := ch * 8 + d) s.aon.copies fun c _ => by omega
    obtain ⟨⟨r, hr, hinc⟩, hdrv⟩ := h
    exact ⟨⟨r, hr, (congrArg AonCopy.inc hkeep).trans hinc⟩, (congrArg AonCopy.drv hkeep).trans hdrv⟩

theorem State.aonRates_keepRated {s : State} {n d ch : Nat} (hd : d < 8) {l : List Nat} (hl : ∀ e ∈ l, e < 8 ∧ e ≠ d) (h : s.Rated n d ch) :
    (l.foldl (fun t e => t.aonRate n e) s).Rated n d ch := by
  induction l generalizing s with
  | nil => exact h
  | cons e l ih =>
    simp only [List.mem_cons, forall_eq_or_imp] at hl
    exact ih hl.2 (State.aonRate_keepsRated hd hl.1.1 hl.1.2 h)

theorem State.domains_nodup (s : State) : s.domains.Nodup := List.nodup_range.filter _

theorem State.lt_of_mem_domains {s : State} {d : Nat} (h : d ∈ s.domains) : d < 8 := List.mem_range.mp (List.mem_filter.mp h).1

/-- Each enabled domain that is not DERIVED and has moved gets its increment, whatever the others get. -/
theorem State.aonRates_rated {s : State} {n d ch : Nat} (hmem : d ∈ s.domains) (hder : s.isDerived d = false) (hwent : s.went d ≠ 0) (hch : ch < 3) :
    (s.domains.foldl (fun t e => t.aonRate n e) s).Rated n d ch := by
  obtain ⟨l1, l2, hl⟩ := List.append_of_mem hmem
  have hlt : ∀ e ∈ s.domains, e < 8 := fun e he => State.lt_of_mem_domains he
  have hnodup := s.domains_nodup
  rw [hl] at hlt hnodup ⊢
  rw [List.foldl_append, List.foldl_cons]
  obtain ⟨a, c, hbefore, hwin, -⟩ := State.aonRates_sameWindow (.refl s) n l1
  rw [hbefore]
  have hafter : ∀ e ∈ l2, e < 8 ∧ e ≠ d := fun e he =>
    ⟨hlt e (by simp [he]), fun heq => (List.nodup_cons.mp (List.nodup_append.mp hnodup).2.1).1 (heq ▸ he)⟩
  have hsame : (s.timed a c).went d = s.went d := by
    unfold State.went State.timed
    rw [hwin]
    rfl
  exact State.aonRates_keepRated (State.lt_of_mem_domains hmem) hafter (State.aonRate_rated hder (hsame ▸ hwent) hch)

/-! ## Maps that are filled key by key -/

theorem SMap.getD_foldl_put_ne {α : Type} (f : Nat → α) {l : List Nat} (m : SMap α) {k : Nat} (e : α) (h : k ∉ l) :
    (l.foldl (fun m k => m.put k (f k)) m).getD k e = m.getD k e := by
  induction l generalizing m with
  | nil => rfl
  | cons j l ih =>
    obtain ⟨hne, hl⟩ := List.ne_and_not_mem_of_not_mem_cons h
    rw [List.foldl_cons, ih _ hl, SMap.getD_put_ne _ _ _ hne]

theorem SMap.getD_foldl_put {α : Type} (f : Nat → α) {l : List Nat} (m : SMap α) {k : Nat} (e : α) (h : k ∈ l) :
    (l.foldl (fun m k => m.put k (f k)) m).getD k e = f k := by
  induction l generalizing m with
  | nil => simp at h
  | cons j l ih =>
    rw [List.foldl_cons]
    by_cases hl : k ∈ l
    · exact ih _ hl
    · obtain rfl : k = j := by simpa [hl] using h
      rw [SMap.getD_foldl_put_ne _ _ _ hl, SMap.getD_put_self]

theorem State.winBegin_keeps (s : State) : Keeps [] [.aon] s s.winBegin := by
  refine ⟨fun _ _ => rfl, fun p hp => ?_⟩
  cases p
  case aon => simp at hp
  all_goals rfl

/-- A window begins with what each domain publishes. -/
theorem State.winBegin_win {s : State} {d : Nat} (h : d ∈ s.domains) : s.winBegin.aon.win.getD d 0 = s.published d :=
  SMap.getD_foldl_put s.published _ _ h

theorem exec_aonRateMeasure_of_present {s : State} {n : Nat} (hruns : s.kettleRuns = true) (hn : 0 < n)
    (hclk : ((n : Int) - 10000000).natAbs ≤ 2000) :
    exec (.aonRateMeasure n) s = .next (s.domains.foldl (fun t e => t.aonRate n e) s).winBegin := by
  change execAonRateMeasure n s = _
  unfold execAonRateMeasure
  rw [if_neg (by simp [hruns])]
  dsimp only
  rw [if_neg (by omega), if_neg (by omega)]

theorem execAonRateMeasure_sets {s : State} {n d ch went : Nat} (hruns : s.kettleRuns = true) (hn : 0 < n)
    (hclk : ((n : Int) - 10000000).natAbs ≤ 2000) (hmem : d ∈ s.domains) (hder : s.isDerived d = false) (hch : ch < 3)
    (hw : (s.published d + ctrMod - s.aon.win.getD d (s.published d)) % ctrMod = went) (hwent : went ≠ 0) :
    NextWith (exec (.aonRateMeasure n) s) fun t =>
      (∃ r < 2, (t.aon.copies.getD (ch * 8 + d) AonCopy.fresh).inc = (went / n + r) % 2 ^ 56) ∧
      (t.aon.copies.getD (ch * 8 + d) AonCopy.fresh).drv = none ∧ t.aon.win.getD d 0 = s.published d ∧
      t.aon.clkAbsent = s.aon.clkAbsent ∧ Keeps [] [.aon, .freeCtr] s t := by
  obtain rfl : s.went d = went := hw
  refine ⟨_, exec_aonRateMeasure_of_present hruns hn hclk, ?_⟩
  have hrated := State.aonRates_rated (n := n) hmem hder hwent hch
  obtain ⟨a, c, hu, hwin, habsent⟩ := State.aonRates_sameWindow (.refl s) n s.domains
  rw [hu] at hrated ⊢
  obtain ⟨⟨r, hr, hinc⟩, hdrv⟩ := hrated
  have hsame : (s.timed a c).went d = s.went d := by
    unfold State.went State.timed
    rw [hwin]
    rfl
  refine ⟨⟨r, hr, ?_⟩, hdrv, State.winBegin_win (s := s.timed a c) hmem, habsent, ?_⟩
  · rw [hsame] at hinc
    exact hinc
  · exact (s.timed_keeps a c).trans ((State.winBegin_keeps _).mono (fun _ h => h) (by simp))

/-! ## The copies that LULL takes -/

/-- The copy of one counter (R53): its value and increment, or its offset and ratio to domain 0 where its domain is DERIVED. -/
def State.copyOf (s : State) (k : Nat) : AonCopy :=
  let src := if s.healthy (k / 8) then k / 8 else s.lead
  let n := (s.aon.copies.getD (src * 8 + k % 8) AonCopy.fresh).inc
  let c := (s.ktDom src (k % 8)).ctr
  match s.aonRatio (k % 8) with
  | some r => ⟨0, 0, some ((c : Int) - ((s.ktDom src 0).ctr : Int), r)⟩
  | none => ⟨c, if n = 0 then aonNominal else n, none⟩

theorem State.takeCopies_of_mem {s : State} {k : Nat} (h : k ∈ s.timeKeys) :
    s.takeCopies = { s with aon := { s.aon with copies := s.timeKeys.foldl (fun m k => m.put k (s.copyOf k)) SMap.empty, holds := true } } := by
  unfold State.takeCopies
  dsimp only
  rw [if_neg]
  · rfl
  · intro he
    simp [List.isEmpty_iff.mp he] at h

theorem exec_lullCommit_of_ready {s : State} (h : s.dev.lullStep = 2) :
    exec (.lullCommit) s = .next { s.takeCopies with dev := { s.takeCopies.dev with lullStep := 3 } } := if_pos h

theorem State.takeCopies_copy {s : State} {k : Nat} (h : k ∈ s.timeKeys) : s.takeCopies.aon.copies.getD k AonCopy.fresh = s.copyOf k := by
  rw [State.takeCopies_of_mem h]
  exact SMap.getD_foldl_put s.copyOf _ _ h

theorem State.lullCommitted_keeps {s : State} {k : Nat} (h : k ∈ s.timeKeys) :
    Keeps [] [.dev, .aon] s { s.takeCopies with dev := { s.takeCopies.dev with lullStep := 3 } } := by
  rw [State.takeCopies_of_mem h]
  refine ⟨fun _ _ => rfl, fun p hp => ?_⟩
  cases p
  case dev | aon => simp at hp
  all_goals rfl

theorem execLullCommit_copies {s : State} {k : Nat} (hstep : s.dev.lullStep = 2) (hk : k ∈ s.timeKeys) (hhealthy : s.healthy (k / 8) = true)
    (hratio : s.aonRatio (k % 8) = none) :
    NextWith (exec (.lullCommit) s) fun t =>
      t.dev.lullStep = 3 ∧ t.aon.holds = true ∧ (t.aon.copies.getD k AonCopy.fresh).ctr = (s.ktDom (k / 8) (k % 8)).ctr ∧
      (t.aon.copies.getD k AonCopy.fresh).drv = none ∧ Keeps [] [.dev, .aon] s t := by
  have hcopy := State.takeCopies_copy hk
  refine ⟨_, exec_lullCommit_of_ready hstep, rfl, ?_, (congrArg AonCopy.ctr hcopy).trans ?_, (congrArg AonCopy.drv hcopy).trans ?_,
    State.lullCommitted_keeps hk⟩
  · rw [State.takeCopies_of_mem hk]
  · simp [State.copyOf, hratio, hhealthy]
  · simp [State.copyOf, hratio]

theorem execLullCommit_copies_derived {s : State} {k : Nat} {r : Int} (hstep : s.dev.lullStep = 2) (hk : k ∈ s.timeKeys)
    (hhealthy : s.healthy (k / 8) = true) (hratio : s.aonRatio (k % 8) = some r) :
    NextWith (exec (.lullCommit) s) fun t =>
      t.dev.lullStep = 3 ∧
      (t.aon.copies.getD k AonCopy.fresh).drv = some (((s.ktDom (k / 8) (k % 8)).ctr : Int) - ((s.ktDom (k / 8) 0).ctr : Int), r) ∧
      Keeps [] [.dev, .aon] s t := by
  refine ⟨_, exec_lullCommit_of_ready hstep, rfl, (congrArg AonCopy.drv (State.takeCopies_copy hk)).trans ?_, State.lullCommitted_keeps hk⟩
  simp [State.copyOf, hratio, hhealthy]

/-! ## The handover -/

/-- The counter that a copy starts: what it stands for, advanced over `phi` (R56). -/
def State.handStart (s : State) (phi : Nat) (c : Nat × Nat) : KtDom :=
  let adv := if s.aon.clkAbsent then 0 else (s.roundOpen (((c.2 * phi : Nat) : Rat) / ((100 * 2 ^ 16 : Nat) : Rat))).toNat
  ⟨(c.1 + adv) % ctrMod, (s.roundOpen ((c.2 : Rat) / 125)).toNat, 0, []⟩

theorem SMap.lookup_map {α β : Type} (f : Nat → α → β) (l : List (Nat × α)) (k : Nat) :
    SMap.lookup (l.map fun e => (e.1, f e.1 e.2)) k = (SMap.lookup l k).map (f k) := by
  induction l with
  | nil => rfl
  | cons e l ih =>
    obtain ⟨j, v⟩ := e
    simp only [List.map_cons, SMap.lookup]
    split
    · subst_vars
      rfl
    · exact ih

theorem State.handTime_ktDom {s : State} {phi k : Nat} (h : (s.aon.copies.get? k).isSome = true) :
    (s.handTime phi).ktDom (k / 8) (k % 8) = s.handStart phi (s.aon.value k (s.aon.copies.getD k AonCopy.fresh)) := by
  obtain ⟨c, hc⟩ := Option.isSome_iff_exists.mp h
  have hkey : k / 8 * 8 + k % 8 = k := by omega
  have hlookup : SMap.lookup (s.aon.copies.entries.map fun e => (e.1, s.handStart phi (s.aon.value e.1 e.2))) k =
      some (s.handStart phi (s.aon.value k c)) := by
    rw [SMap.lookup_map (fun j c => s.handStart phi (s.aon.value j c))]
    exact congrArg (Option.map _) hc
  have hcopy : s.aon.copies.getD k AonCopy.fresh = c := by
    unfold SMap.getD
    rw [hc]
    rfl
  rw [hcopy]
  unfold State.ktDom
  rw [hkey]
  exact congrArg (Option.getD · KtDom.fresh) hlookup

theorem State.handStart_ctr {s : State} (phi : Nat) (c : Nat × Nat) (h : s.aon.clkAbsent = false) :
    ∃ r < 2, (s.handStart phi c).ctr = (c.1 + c.2 * phi / (100 * 2 ^ 16) + r) % ctrMod := by
  obtain ⟨r, hr, hround⟩ := s.roundOpen_div (c.2 * phi) (100 * 2 ^ 16)
  refine ⟨r, hr, ?_⟩
  unfold State.handStart
  simp only [h, Bool.false_eq_true, if_false]
  rw [hround, Nat.add_assoc]

theorem State.handTime_keeps (s : State) (phi : Nat) : Keeps [] [.kettle, .freeCtr] s (s.handTime phi) := by
  refine ⟨fun _ _ => rfl, fun p hp => ?_⟩
  cases p
  case kettle | freeCtr => simp at hp
  all_goals rfl

theorem exec_aonHandover_of_hold {s : State} (phi : Nat) (h : s.dev.softHold = true) :
    exec (.aonHandover phi) s = .next { s.handTime phi with dev := { (s.handTime phi).dev with softHold := false } } := if_pos h

theorem execAonHandover_loads {s : State} {phi k : Nat} (hhold : s.dev.softHold = true) (hclk : s.aon.clkAbsent = false)
    (hk : (s.aon.copies.get? k).isSome = true) :
    NextWith (exec (.aonHandover phi) s) fun t =>
      t.dev.softHold = false ∧
      (∃ r < 2, (t.ktDom (k / 8) (k % 8)).ctr = ((s.aon.value k (s.aon.copies.getD k AonCopy.fresh)).1 + (s.aon.value k (s.aon.copies.getD k AonCopy.fresh)).2 * phi / (100 * 2 ^ 16) + r) % ctrMod) ∧
      Keeps [] [.dev, .kettle, .freeCtr] s t := by
  obtain ⟨r, hr, hctr⟩ := State.handStart_ctr phi (s.aon.value k (s.aon.copies.getD k AonCopy.fresh)) hclk
  refine ⟨_, exec_aonHandover_of_hold phi hhold, rfl, ⟨r, hr, ?_⟩, ?_⟩
  · exact (congrArg KtDom.ctr (State.handTime_ktDom hk)).trans hctr
  · exact ((s.handTime_keeps phi).mono (fun _ h => h) (by simp)).trans ((Keeps.withDev _ _ _).mono (fun _ h => h) (by simp))

/-- The state of a wake with its time handed over. -/
def State.woken (s : State) (phi : Nat) : State :=
  { (s.handTime phi).flag F.DEV_RST_CAUSE.WAKE with dev := { ((s.handTime phi).flag F.DEV_RST_CAUSE.WAKE).dev with wakeStep := 0 } }

theorem exec_aonHandover_of_wake {s : State} (phi : Nat) (hmode : s.mode = Mode.LULL) (hstep : s.dev.wakeStep = 3) (hhold : s.dev.softHold = false) :
    exec (.aonHandover phi) s = .next (s.woken phi).loadStart := by
  change execAonHandover phi s = _
  unfold execAonHandover
  rw [if_neg (by simp [hhold]), if_pos ⟨hmode, hstep⟩]
  rfl

theorem State.flag_keeps (s : State) (ps : List Part) (f : Fld) : Keeps [f.ofs] ps s (s.flag f) :=
  ⟨fun a ha => s.rd_setFld_ne _ _ fun h => ha (by simp [h]), fun p _ => by cases p <;> rfl⟩

theorem State.woken_keeps (s : State) (phi : Nat) : Keeps [Reg.DEV_RST_CAUSE] [.dev, .kettle, .freeCtr] s (s.woken phi) := by
  have hhand := (s.handTime_keeps phi).mono (own' := [Reg.DEV_RST_CAUSE]) (ps' := [.dev, .kettle, .freeCtr]) (by simp) (by simp)
  exact (hhand.trans (State.flag_keeps _ _ F.DEV_RST_CAUSE.WAKE)).trans ((Keeps.withDev _ _ _).mono (fun _ h => h) (by simp))

theorem execAonHandover_wakes {s : State} {phi : Nat} (hmode : s.mode = Mode.LULL) (hstep : s.dev.wakeStep = 3) (hhold : s.dev.softHold = false) :
    NextWith (exec (.aonHandover phi) s) fun t =>
      t.mode = Mode.LOAD ∧ t.fld F.DEV_MODE.TRANS = 1 ∧ t.fld F.DEV_RST_CAUSE.WAKE = 1 ∧ t.dev.wakeStep = 0 ∧
      KeepsIn (Scope.calm ++ [RegSet.one Reg.DEV_RST_CAUSE]) [.dev, .kettle, .aon, .slices, .freeCtr] s t := by
  obtain ⟨hcur, -, htrans⟩ := (s.woken phi).loadStart_shows
  have hload := (s.woken phi).loadStart_keeps
  have hwake : (s.woken phi).fld F.DEV_RST_CAUSE.WAKE = 1 := State.fld_setFld_self _ F.DEV_RST_CAUSE.WAKE 1 (by decide) (by decide)
  refine ⟨_, exec_aonHandover_of_wake phi hmode hstep hhold, hcur, htrans, ?_, ?_, ?_⟩
  · exact (State.fld_of_rd _ (hload.1 _ (by decide))).trans hwake
  · rw [State.loadStart_dev]
    rfl
  · exact ((s.woken_keeps phi).keepsIn.mono (by simp) (by simp)).trans (hload.keepsIn.mono (by simp [Scope.calm]) (by simp))

/-- Settles O11, clause by clause. -/
theorem aonTimekeeperKeepsTime : Obligations.AonTimekeeperKeepsTime := by
  unfold Obligations.AonTimekeeperKeepsTime
  exact ⟨fun s h => execAonClkAbsent_marks h, execAonClkReturn_ends,
    fun s n d ch went hruns hn hclk hmem hder hch hw hwent => execAonRateMeasure_sets hruns hn hclk hmem hder hch hw hwent,
    fun s k hstep hk hhealthy hratio => execLullCommit_copies hstep hk hhealthy hratio,
    fun s k r hstep hk hhealthy hratio => execLullCommit_copies_derived hstep hk hhealthy hratio,
    fun s phi k hhold hclk hk => execAonHandover_loads hhold hclk hk, fun s phi hmode hstep hhold => execAonHandover_wakes hmode hstep hhold⟩

end Sys2Proof.Machine
end

section
/-! MSI-X vectors, the resets and the link of the endpoint, and Spout's entries and credits (O49). -/

namespace Sys2Proof.Machine

/-! ## Frames -/

theorem KeepsRep.keepsIn {own : List Nat} {ps : List Part} {s t : State} (h : KeepsRep own ps s t) : KeepsIn (own.map RegSet.one) ps s t :=
  ⟨fun a ha hr => h.1 a (fun hm => ha _ (List.mem_map_of_mem hm) (RegSet.has_one_iff.mpr rfl)) hr, h.2⟩

/-- Counting a request touches no part of the state. -/
theorem State.received_law_still (s : State) (a : Acc) : Law (2 ^ 4) 0 s (s.received a) := by
  unfold State.received
  exact Law.ite (fun _ => Law.refl _ _ s) fun _ => State.pfEvent_law (Law.refl _ _ s) _ _ _ rfl rfl

theorem State.received_part (s : State) (a : Acc) (p : Part) : p.Same s (s.received a) :=
  (s.received_law_still a).part_off (by simp)

theorem State.received_spClass (s : State) (a : Acc) (c : Nat) : (s.received a).spClass c = s.spClass c := by
  unfold State.spClass
  rw [show (s.received a).spout = s.spout from s.received_part a .spout]

theorem Reg.MSIX_ne_PF_CNT (v w n : Nat) : Reg.MSIX v w ≠ Reg.PF_CNT n := by
  unfold Reg.MSIX Reg.PF_CNT
  omega

theorem Reg.SP_POP_ne_PF_CNT (w n : Nat) : Reg.SP_POP w ≠ Reg.PF_CNT n := by
  unfold Reg.SP_POP Reg.PF_CNT
  omega

/-- A change of the interrupt logic and the outputs is a report. -/
theorem KeepsRep.report (s : State) (own : List Nat) (i : Irq) (o : List Output) : KeepsRep own [] s { s with irq := i, out := o } := by
  refine ⟨fun _ _ _ => rfl, fun p hp => ?_⟩
  cases p
  case irq | out => simp at hp
  all_goals rfl

theorem State.emit_keepsRep (s : State) (own : List Nat) (o : Output) : KeepsRep own [] s (s.emit o) := .report s own s.irq _

theorem State.setSpClass_keepsRep (s : State) (own : List Nat) (c : Nat) (k : SpClass) : KeepsRep own [] s (s.setSpClass c k) := by
  refine ⟨fun _ _ _ => rfl, fun p hp => ?_⟩
  cases p
  case spout => simp at hp
  all_goals rfl

theorem Keeps.withPcie (s : State) (p : Pcie) : Keeps [] [.pcie] s { s with pcie := p } := by
  refine ⟨fun _ _ => rfl, fun q hq => ?_⟩
  cases q
  case pcie => simp at hq
  all_goals rfl

/-! ## MSI-X -/

theorem bitList_zero (n : Nat) : bitList n 0 = [] := by
  simp [bitList, bitAt]

theorem bitList_two_pow {n v : Nat} (h : v < n) : bitList n (2 ^ v) = [v] := by
  have hbit : bitAt (2 ^ v) = (· == v) := funext fun i => by
    rw [bitAt_eq_testBit, Nat.testBit_two_pow]
    exact decide_eq_decide.mpr eq_comm
  unfold bitList
  rw [hbit, List.filter_beq, List.nodup_range.count, if_pos (List.mem_range.mpr h)]
  rfl

theorem State.msixRelease_of_none {s : State} (h : s.irq.pba = 0) : s.msixRelease = s := by
  unfold State.msixRelease
  rw [h, bitList_zero]
  split <;> rfl

/-- The state whose pending bit of vector `v` is cleared. -/
def State.unpend (s : State) (v : Nat) : State := { s with irq := { s.irq with pba := setBit s.irq.pba v false } }

/-- The message of vector `v`: address and data of its table entry. -/
def State.msixMessage (s : State) (v : Nat) : Output :=
  .msix v ((s.rd (Reg.MSIX v 0)).toNat + (s.rd (Reg.MSIX v 1)).toNat * 2 ^ 32) (s.rd (Reg.MSIX v 2)).toNat

theorem State.sendMsix_of_open {s : State} {v : Nat} (hen : s.pcie.msixEn = true) (hmask : s.msixMasked v = false) (hdma : s.dmaOk = true) :
    s.sendMsix v = s.emit (s.msixMessage v) := by
  unfold State.sendMsix
  rw [if_neg (by simp [hen]), if_neg (by simp [hmask]), if_pos hdma]
  rfl

/-- A single pending vector that is not masked, and whose OR is 1, sends its message. -/
theorem State.msixRelease_of_one {s : State} {v : Nat} (hv : v < 64) (hen : s.pcie.msixEn = true) (hpend : s.irq.pba = 2 ^ v)
    (hmask : s.msixMasked v = false) (hdma : s.dmaOk = true) (hhigh : s.vecHigh v = true) :
    s.msixRelease = (s.unpend v).emit (s.msixMessage v) := by
  have hlist : (bitList 64 s.irq.pba).filter (fun v => !s.msixMasked v) = [v] := by
    rw [hpend, bitList_two_pow hv]
    simp [hmask]
  unfold State.msixRelease
  rw [if_neg (by simp [hen]), hlist]
  exact (if_pos (show (s.unpend v).vecHigh v = true from hhigh)).trans (State.sendMsix_of_open (s := s.unpend v) hen hmask hdma)

/-- The OR of a vector is made of registers below the vector table. -/
theorem State.vecHigh_of_rd {s t : State} (h : ∀ a < 0x8000, t.rd a = s.rd a) (v : Nat) : t.vecHigh v = s.vecHigh v := by
  have hvec : ∀ c, t.rd (Reg.DEV_IRQ_VEC c) = s.rd (Reg.DEV_IRQ_VEC c) := fun c => h _ (by unfold Reg.DEV_IRQ_VEC; omega)
  simp only [State.vecHigh, State.fldBit, State.fld, F.DEV_IRQ_STATUS.CAUSE, F.DEV_IRQ_EN.EN, F.DEV_IRQ_VEC.VEC, hvec,
    h Reg.DEV_IRQ_STATUS (by decide), h Reg.DEV_IRQ_EN (by decide)]

/-- The state in which the mask bit of vector `v` is cleared. -/
def State.unmasked (s : State) (v : Nat) : State := (s.received (Acc.dev (Reg.MSIX v 3))).wr (Reg.MSIX v 3) 0

theorem exec_msixUnmask_of_open {s : State} {v : Nat} (hv : v < 64) (h : s.hostOpen) :
    exec (.msixUnmask v) s = .next (s.unmasked v).msixRelease := by
  change execMsixUnmask v s = _
  unfold execMsixUnmask State.msixWrite
  rw [if_neg (by omega), State.guard_acts h _ (by simp [Acc.rules, Acc.dev, Acc.direct])]
  rfl

theorem State.unmasked_part (s : State) (v : Nat) (p : Part) : p.Same s (s.unmasked v) :=
  (s.received_part _ p).trans (by cases p <;> rfl)

theorem State.rd_unmasked_self (s : State) (v : Nat) : (s.unmasked v).rd (Reg.MSIX v 3) = 0 := State.rd_wr_self _ _ _

theorem State.rd_unmasked_ne (s : State) (v : Nat) {a : Nat} (ha : a ≠ Reg.MSIX v 3) (hpf : ∀ n, a ≠ Reg.PF_CNT n) :
    (s.unmasked v).rd a = s.rd a := (State.rd_wr_ne _ _ ha).trans (s.rd_received _ hpf)

theorem State.unmasked_keepsRep (s : State) (v : Nat) : KeepsRep [Reg.MSIX v 3] [] s (s.unmasked v) :=
  (s.received_keepsRep _ _).trans (Keeps.wr _ [] _ (by simp)).keepsRep

theorem State.unmasked_vecHigh (s : State) (v : Nat) : (s.unmasked v).vecHigh v = s.vecHigh v :=
  State.vecHigh_of_rd (fun a ha => s.rd_unmasked_ne v (by unfold Reg.MSIX; omega) fun n => by unfold Reg.PF_CNT; omega) v

theorem State.unmasked_msixMasked {s : State} (v : Nat) (h : s.pcie.funcMask = false) : (s.unmasked v).msixMasked v = false := by
  have hpcie : (s.unmasked v).pcie = s.pcie := s.unmasked_part v .pcie
  simp [State.msixMasked, hpcie, h, State.fld, s.rd_unmasked_self v, bitsOf]

theorem State.unmasked_msixMessage (s : State) (v : Nat) : (s.unmasked v).msixMessage v = s.msixMessage v := by
  have hrd : ∀ w < 3, (s.unmasked v).rd (Reg.MSIX v w) = s.rd (Reg.MSIX v w) := fun w hw =>
    s.rd_unmasked_ne v (by unfold Reg.MSIX; omega) (Reg.MSIX_ne_PF_CNT v w)
  unfold State.msixMessage
  rw [hrd 0 (by decide), hrd 1 (by decide), hrd 2 (by decide)]

theorem execMsixUnmask_sends {s : State} {v : Nat} (hv : v < 64) (h : s.hostOpen) (hen : s.pcie.msixEn = true) (hmask : s.pcie.funcMask = false)
    (hpend : s.irq.pba = 2 ^ v) (hdma : s.dmaOk = true) (hhigh : s.vecHigh v = true) :
    NextWith (exec (.msixUnmask v) s) fun t =>
      t.rd (Reg.MSIX v 3) = 0 ∧ bitAt t.irq.pba v = false ∧
      Output.msix v ((s.rd (Reg.MSIX v 0)).toNat + (s.rd (Reg.MSIX v 1)).toNat * 2 ^ 32) (s.rd (Reg.MSIX v 2)).toNat ∈ t.out ∧
      KeepsRep [Reg.MSIX v 3] [] s t := by
  have hpcie : (s.unmasked v).pcie = s.pcie := s.unmasked_part v .pcie
  have hirq : (s.unmasked v).irq = s.irq := s.unmasked_part v .irq
  have hdma' : (s.unmasked v).dmaOk = true := by
    unfold State.dmaOk
    rw [hpcie]
    exact hdma
  have hsent := State.msixRelease_of_one (s := s.unmasked v) hv (by rw [hpcie, hen]) (by rw [hirq, hpend]) (State.unmasked_msixMasked v hmask) hdma'
    ((s.unmasked_vecHigh v).trans hhigh)
  rw [s.unmasked_msixMessage v] at hsent
  exact ⟨_, (exec_msixUnmask_of_open hv h).trans (congrArg _ hsent), s.rd_unmasked_self v, bitAt_setBit_false _ _, List.mem_cons_self,
    (s.unmasked_keepsRep v).trans (KeepsRep.report _ _ _ _)⟩

theorem execMsixUnmask_quiet {s : State} {v : Nat} (hv : v < 64) (h : s.hostOpen) (hpend : s.irq.pba = 0) :
    NextWith (exec (.msixUnmask v) s) fun t =>
      t.rd (Reg.MSIX v 3) = 0 ∧ t.irq = s.irq ∧ t.out = s.out ∧ KeepsRep [Reg.MSIX v 3] [] s t := by
  have hirq : (s.unmasked v).irq = s.irq := s.unmasked_part v .irq
  have hquiet : (s.unmasked v).msixRelease = s.unmasked v := State.msixRelease_of_none (by rw [hirq, hpend])
  exact ⟨_, (exec_msixUnmask_of_open hv h).trans (congrArg _ hquiet), s.rd_unmasked_self v, hirq, s.unmasked_part v .out, s.unmasked_keepsRep v⟩

/-! ## The resets of the endpoint -/

/-- The state in which the DMA of the core is lost, where it ran. -/
def State.dmaEnded (s : State) : State := if s.dmaOk then s.dmaLost else s

/-- The state whose vector table is at its reset values, with the queues' producer credits taken back. -/
def State.tableReset (s : State) : State := (s.porWhere fun a => decide (0x8000 ≤ a) && decide (a < 0xA000)).sqPerst

theorem State.endpointReset_eq (s : State) (link : Bool) :
    s.endpointReset link =
      { s.dmaEnded.tableReset with
        pcie := ⟨link, false, false, false⟩, irq := { s.dmaEnded.tableReset.irq with pba := 0 },
        spout := s.dmaEnded.tableReset.spout.mapV fun _ k => k.recall } := rfl

theorem State.sqPerst_law_only (s : State) : Law (2 ^ 75) 0x1000 s s.sqPerst := State.sqPerst_law (Law.refl _ _ s) rfl rfl

theorem State.rd_tableReset_readout (s : State) : s.tableReset.rd Reg.CD_RD_STATUS = s.rd Reg.CD_RD_STATUS := by
  have hoff : ¬ InMask (2 ^ 75) Reg.CD_RD_STATUS := fun hm => by
    obtain ⟨i, j, hi, -, h⟩ := InMask.has (by decide) rfl hm
    unfold Reg.CD_RD_STATUS at h
    dsimp only at h hi
    omega
  unfold State.tableReset
  rw [(State.sqPerst_law_only _).regs _ hoff, State.rd_porWhere, if_neg (by decide)]

theorem State.rd_tableReset_msix (s : State) {v w : Nat} : s.tableReset.rd (Reg.MSIX v w) = Reg.por (Reg.MSIX v w) := by
  have hoff : ¬ InMask (2 ^ 75) (Reg.MSIX v w) := fun hm => by
    obtain ⟨i, j, hi, -, h⟩ := InMask.has (by decide) rfl hm
    unfold Reg.MSIX at h
    dsimp only at h
    omega
  unfold State.tableReset
  rw [(State.sqPerst_law_only _).regs _ hoff, State.rd_porWhere, if_pos ?_]
  unfold Reg.MSIX
  simp only [Bool.and_eq_true, decide_eq_true_eq]
  omega

theorem State.tableReset_part (s : State) {p : Part} (h : p ≠ .phase) : p.Same s s.tableReset := by
  have hsq : p.Same (s.porWhere fun a => decide (0x8000 ≤ a) && decide (a < 0xA000)) s.tableReset :=
    (State.sqPerst_law_only _).parts p (by revert h; unfold PartIn; cases p <;> decide)
  exact Part.Same.trans (by cases p <;> rfl) hsq

/-- The registers that a reset of the endpoint changes: those of a readout or an image that loses its DMA, credits, and the vector table. -/
abbrev endpointScope : List RegSet :=
  [RegSet.each (Reg.CD_RING_STATUS 0) 0x100 8, RegSet.each (Reg.CD_RING_CNT 0 7) 0x100 8, RegSet.one Reg.CD_RD_BAD,
    RegSet.one Reg.CD_RD_STATUS, RegSet.one Reg.IMG_STATUS, RegSet.each (Reg.PH_SQ_CREDIT 0) 0x80 229, RegSet.one (Reg.DEV_HI_CNT 5),
    RegSet.each 0x8000 0x1 8192]

/-- The families of `endpointScope` and of the report. -/
def endpointFamilies : List Nat := [1, 2, 3, 4, 8, 23, 24, 25, 28, 75, 264, 311]

theorem State.endpointReset_law_families (s : State) (link : Bool) : Law (maskOf endpointFamilies) 0x14100e s (s.endpointReset link) :=
  State.endpointReset_law (Law.refl _ _ s) link (by decide) (by decide)

theorem State.endpointReset_keepsIn (s : State) (link : Bool) :
    KeepsIn endpointScope [.pcie, .phase, .freeCtr] s (s.endpointReset link) :=
  .of_law (s.endpointReset_law_families link) (by decide) (by decide)

theorem State.endpointReset_mode (s : State) (link : Bool) : (s.endpointReset link).mode = s.mode :=
  State.fld_of_rd F.DEV_MODE.CUR ((s.endpointReset_law_families link).rd_off (by decide))

theorem SMap.getD_recalled (m : SMap SpClass) (c : Nat) :
    (m.mapV fun _ k => k.recall).getD c SpClass.fresh = (m.getD c SpClass.fresh).recall := by
  have hlookup := SMap.lookup_map (fun _ (k : SpClass) => k.recall) m.entries c
  change (SMap.lookup (m.entries.map fun e => (e.1, e.2.recall)) c).getD SpClass.fresh = ((SMap.lookup m.entries c).getD SpClass.fresh).recall
  rw [hlookup]
  cases SMap.lookup m.entries c <;> rfl

theorem State.endpointReset_spClass (s : State) (link : Bool) (c : Nat) :
    (s.endpointReset link).spClass c = (s.dmaEnded.spClass c).recall := by
  have hspout : s.dmaEnded.tableReset.spout = s.dmaEnded.spout := State.tableReset_part _ (p := .spout) (by decide)
  unfold State.spClass
  rw [State.endpointReset_eq, hspout, SMap.getD_recalled]

/-- The state in which PERST_N is held. -/
def State.perstHeld (s : State) : State := { s with dev := { s.dev with perstN := false } }

theorem execPerstNAssert_resets {s : State} (h : Mode.LOAD ≤ s.mode) :
    NextWith (exec (.perstNAssert) s) fun t =>
      t.pcie = ⟨false, false, false, false⟩ ∧ t.dev.perstN = false ∧ t.irq.pba = 0 ∧
      (∀ v < 64, t.rd (Reg.MSIX v 3) = Reg.por (Reg.MSIX v 3)) ∧ (∀ c < 4, (t.spClass c).prod = 0) ∧ t.mode = s.mode ∧
      KeepsIn endpointScope [.dev, .pcie, .phase, .freeCtr] s t := by
  have hexec : exec (.perstNAssert) s = .next (s.perstHeld.endpointReset false) := if_neg (Nat.not_lt.mpr h)
  have hdev : (s.perstHeld.endpointReset false).dev = s.perstHeld.dev :=
    (s.perstHeld.endpointReset_law_families false).part_off (p := .dev) (by decide)
  refine ⟨_, hexec, rfl, by rw [hdev]; rfl, rfl, fun v _ => s.perstHeld.dmaEnded.rd_tableReset_msix, fun c _ => ?_,
    s.perstHeld.endpointReset_mode false, ?_⟩
  · rw [State.endpointReset_spClass]
    rfl
  · exact ((Keeps.withDev s [] _).keepsIn.mono (by simp) (by simp)).trans ((s.perstHeld.endpointReset_keepsIn false).mono (fun _ h => h) (by simp))

theorem execPerstNAssert_of_off {s : State} (h : s.mode < Mode.LOAD) :
    NextWith (exec (.perstNAssert) s) fun t => t.dev.perstN = false ∧ Keeps [] [.dev] s t :=
  ⟨_, if_pos h, rfl, Keeps.withDev _ _ _⟩

theorem execPerstNRelease_ends (s : State) : NextWith (exec (.perstNRelease) s) fun t => t.dev.perstN = true ∧ Keeps [] [.dev] s t :=
  ⟨_, rfl, rfl, Keeps.withDev _ _ _⟩

theorem exec_functionLevelReset_of_link {s : State} (h : s.pcie.linkUp = true) : exec (.functionLevelReset) s = .next (s.endpointReset true) :=
  if_pos h

theorem execFunctionLevelReset_recalls {s : State} (hlink : s.pcie.linkUp = true) (hdma : s.dmaOk = false) :
    NextWith (exec (.functionLevelReset) s) fun t =>
      t.pcie = ⟨true, false, false, false⟩ ∧ t.irq.pba = 0 ∧
      (∀ c < 4, (t.spClass c).prod = 0 ∧ (t.spClass c).host = (s.spClass c).host + (s.spClass c).prod) ∧ t.mode = s.mode ∧
      t.dev = s.dev ∧
      KeepsIn endpointScope [.pcie, .phase, .freeCtr] s t := by
  have hended : s.dmaEnded = s := if_neg (by simp [hdma])
  refine ⟨_, exec_functionLevelReset_of_link hlink, rfl, rfl, fun c _ => ?_, s.endpointReset_mode true, ?_, s.endpointReset_keepsIn true⟩
  · rw [State.endpointReset_spClass, hended]
    exact ⟨rfl, rfl⟩
  · exact (s.endpointReset_keepsIn true).2 .dev (by decide)

/-! ## A readout that loses its DMA -/

theorem State.readoutEnd_state (s : State) (k : Nat) : (s.readoutEnd k 3).fld F.CD_RD_STATUS.STATE = 3 := by
  unfold State.readoutEnd
  dsimp only
  generalize (List.range k).foldl State.readoutChunk s = u
  generalize s.fld F.CD_RD_RING.RING = n
  have hevent : ∀ w : State, (w.spoutEvent Sp.CD_READOUT n 3 k).rd Reg.CD_RD_STATUS = w.rd Reg.CD_RD_STATUS := fun w => by
    have hlaw : Law (maskOf [1, 2, 3]) 0x10000c w (w.spoutEvent Sp.CD_READOUT n 3 k) :=
      State.spoutEvent_law (Law.refl _ _ w) _ _ _ _ (by decide) (by decide)
    exact hlaw.rd_off (by decide)
  rw [State.fld_of_rd F.CD_RD_STATUS.STATE (hevent _), State.fld_of_rd F.CD_RD_STATUS.STATE (State.rd_setFld_ne _ _ _ ?_),
    State.fld_setFld_bits _ F.CD_RD_STATUS.DONE_CH F.CD_RD_STATUS.STATE _ (by decide) (by decide) (by decide) rfl (by decide),
    State.fld_setFld_self _ F.CD_RD_STATUS.STATE _ (by decide) (by decide)]
  · rfl
  · simp only [F.CD_RD_STATUS.STATE, F.CD_RING_STATUS.READING, Reg.CD_RD_STATUS, Reg.CD_RING_STATUS]
    omega

theorem State.dmaLost_state {s : State} (h : s.fld F.CD_RD_STATUS.STATE = 1) : s.dmaLost.fld F.CD_RD_STATUS.STATE = 3 := by
  unfold State.dmaLost
  rw [if_pos h]
  generalize s.freeVal % max 1 (s.fld F.CD_RD_COUNT.COUNT) = k
  have hcount : ((s.tookFree.readoutEnd k 3).count (Reg.DEV_HI_CNT 5)).fld F.CD_RD_STATUS.STATE = 3 := by
    have hlaw : Law (maskOf [264]) 0 (s.tookFree.readoutEnd k 3) ((s.tookFree.readoutEnd k 3).count (Reg.DEV_HI_CNT 5)) :=
      State.count_law (Law.refl _ _ _) _ (InMask.mk (m := maskOf [264]) 264 (by decide) (by decide) rfl Reg.DEV_HI_CNT_has_5)
    rw [State.fld_of_rd _ (hlaw.rd_off (by decide))]
    exact State.readoutEnd_state _ k
  generalize (s.tookFree.readoutEnd k 3).count (Reg.DEV_HI_CNT 5) = u at hcount ⊢
  dsimp only
  split
  · have hlaw : Law (maskOf [1, 28]) 0x100004 u (u.imgEnd ImgSt.FAILED Err.BUSY) :=
      State.imgEnd_law (Law.refl _ _ _) _ _ (by decide) (by decide)
    rw [State.fld_of_rd _ (hlaw.rd_off (by decide))]
    exact hcount
  · exact hcount

theorem execFunctionLevelReset_losesDma {s : State} (hlink : s.pcie.linkUp = true) (hdma : s.dmaOk = true) :
    NextWith (exec (.functionLevelReset) s) fun t =>
      t.pcie = ⟨true, false, false, false⟩ ∧ t.irq.pba = 0 ∧ (∀ c < 4, (t.spClass c).prod = 0) ∧
      (s.fld F.CD_RD_STATUS.STATE = 1 → t.fld F.CD_RD_STATUS.STATE = 3) ∧ t.mode = s.mode ∧
      KeepsIn endpointScope [.pcie, .phase, .freeCtr] s t := by
  have hended : s.dmaEnded = s.dmaLost := if_pos hdma
  refine ⟨_, exec_functionLevelReset_of_link hlink, rfl, rfl, fun c _ => ?_, fun hrd => ?_, s.endpointReset_mode true, s.endpointReset_keepsIn true⟩
  · rw [State.endpointReset_spClass]
    rfl
  · refine (State.fld_of_rd F.CD_RD_STATUS.STATE ?_).trans (State.dmaLost_state hrd)
    rw [← hended]
    exact State.rd_tableReset_readout _

/-! ## The link -/

theorem execPcieLinkUp_sets {s : State} (bme msix mask : Bool) (hmode : Mode.LOAD ≤ s.mode) (hperst : s.dev.perstN = true) (hpend : s.irq.pba = 0)
    (hdma : s.dmaOk = false) :
    NextWith (exec (.pcieLinkUp bme msix mask) s) fun t => t.pcie = ⟨true, bme, msix, mask⟩ ∧ Keeps [] [.pcie] s t := by
  have hexec : exec (.pcieLinkUp bme msix mask) s = .next { s with pcie := ⟨true, bme, msix, mask⟩ } := by
    change execPcieLinkUp bme msix mask s = _
    unfold execPcieLinkUp
    rw [if_neg (by simp [hperst]; omega)]
    simp only [hdma, Bool.false_and, Bool.false_eq_true, if_false]
    exact congrArg _ (State.msixRelease_of_none hpend)
  exact ⟨_, hexec, rfl, Keeps.withPcie _ _⟩

theorem execPcieLinkDown_of_quiet {s : State} (b : Bool) (h : s.dmaOk = false) :
    NextWith (exec (.pcieLinkDown b) s) fun t =>
      t.pcie.linkUp = (s.pcie.linkUp && b) ∧ t.pcie.bme = (s.pcie.bme && !b) ∧ t.pcie.msixEn = s.pcie.msixEn ∧ Keeps [] [.pcie] s t := by
  have hended : s.dmaEnded = s := if_neg (by simp [h])
  have hexec : exec (.pcieLinkDown b) s =
      .next { s.dmaEnded with pcie := { s.dmaEnded.pcie with linkUp := s.dmaEnded.pcie.linkUp && b, bme := s.dmaEnded.pcie.bme && !b } } := rfl
  rw [hended] at hexec
  exact ⟨_, hexec, rfl, rfl, rfl, Keeps.withPcie _ _⟩

theorem execPcieLinkDown_of_idle {s : State} (b : Bool) (h : s.dmaOk = true) (hrd : s.fld F.CD_RD_STATUS.STATE ≠ 1) (himg : s.imgState ≠ 1) :
    NextWith (exec (.pcieLinkDown b) s) fun t => t.dmaOk = false ∧ t.pcie.linkUp = b ∧ Keeps [] [.pcie] s t := by
  have hended : s.dmaEnded = s := by
    unfold State.dmaEnded State.dmaLost
    rw [if_pos h, if_neg hrd]
    exact if_neg fun hc => himg hc.1
  have hexec : exec (.pcieLinkDown b) s =
      .next { s.dmaEnded with pcie := { s.dmaEnded.pcie with linkUp := s.dmaEnded.pcie.linkUp && b, bme := s.dmaEnded.pcie.bme && !b } } := rfl
  rw [hended] at hexec
  have hlink : s.pcie.linkUp = true := (Bool.and_eq_true_iff.mp h).1
  refine ⟨_, hexec, ?_, by simp [hlink], Keeps.withPcie _ _⟩
  unfold State.dmaOk
  cases b <;> simp

/-! ## Spout -/

theorem State.spClass_setSpClass_self (s : State) (c : Nat) (k : SpClass) : (s.setSpClass c k).spClass c = k := SMap.getD_setD_self _ _ _ _

theorem State.spClass_setSpClass_ne (s : State) {c d : Nat} (k : SpClass) (h : d ≠ c) : (s.setSpClass c k).spClass d = s.spClass d :=
  SMap.getD_setD_ne _ _ _ _ h

theorem State.rd_popLatch (s : State) (ws : List Nat) {w : Nat} (hw : w < 4) : (s.popLatch ws).rd (Reg.SP_POP w) = BitVec.ofNat 64 (ws.getD w 0) := by
  have hne : ∀ i < 4, i ≠ w → Reg.SP_POP w ≠ Reg.SP_POP i := fun i hi hiw => by
    unfold Reg.SP_POP
    omega
  change ((((s.wr (Reg.SP_POP 0) _).wr (Reg.SP_POP 1) _).wr (Reg.SP_POP 2) _).wr (Reg.SP_POP 3) _).rd _ = _
  interval_cases w
  · rw [State.rd_wr_ne _ _ (hne 3 (by decide) (by decide)), State.rd_wr_ne _ _ (hne 2 (by decide) (by decide)),
      State.rd_wr_ne _ _ (hne 1 (by decide) (by decide)), State.rd_wr_self]
  · rw [State.rd_wr_ne _ _ (hne 3 (by decide) (by decide)), State.rd_wr_ne _ _ (hne 2 (by decide) (by decide)), State.rd_wr_self]
  · rw [State.rd_wr_ne _ _ (hne 3 (by decide) (by decide)), State.rd_wr_self]
  · rw [State.rd_wr_self]

theorem State.popLatch_keeps (s : State) (ws : List Nat) : Keeps [Reg.SP_POP 0, Reg.SP_POP 1, Reg.SP_POP 2, Reg.SP_POP 3] [] s (s.popLatch ws) :=
  (((Keeps.wr s [] _ (by simp)).trans (Keeps.wr _ [] _ (by simp))).trans (Keeps.wr _ [] _ (by simp))).trans (Keeps.wr _ [] _ (by simp))

theorem State.popLatch_spout (s : State) (ws : List Nat) : (s.popLatch ws).spout = s.spout := (s.popLatch_keeps ws).2 .spout (by simp)
theorem State.popLatch_out (s : State) (ws : List Nat) : (s.popLatch ws).out = s.out := (s.popLatch_keeps ws).2 .out (by simp)

/-- The read of SP_POP_0. -/
def popAcc : Acc := { Acc.sp (Reg.SP_POP 0) with isWrite := false }

/-- The state in which a pop answers with the words `ws`, their first read. -/
def State.popAnswer (s : State) (ws : List Nat) : State := (s.popLatch ws).answer popAcc (ws.getD 0 0)

theorem SpClass.head_of_stages {k : SpClass} {e : SpEntry} {r : List (Nat × SpEntry)} (hst : k.stages = (0, e) :: r) (harr : k.arrived = false) :
    k.head = some e := by
  unfold SpClass.head
  simp [hst, harr]

/-- The lowest-numbered class with an entry at its head. -/
theorem exec_spoutPop_of_head {s : State} {c : Nat} {e : SpEntry} {r : List (Nat × SpEntry)} (hc : c < 4) (h : s.hostOpen)
    (hst : (s.spClass c).stages = (0, e) :: r) (harr : (s.spClass c).arrived = false) (hlow : ∀ d < 4, d < c → (s.spClass d).head = none) :
    exec (.spoutPop) s =
      .next (((s.received popAcc).setSpClass c { s.spClass c with host := (s.spClass c).host + 1, stages := r }).popAnswer e.words) := by
  have hfind : [0, 1, 2, 3].find? (fun d => (s.spClass d).head.isSome) = some c := by
    refine List.find?_range_eq_some (n := 4).mpr ⟨?_, List.mem_range.mpr hc, fun d hd => ?_⟩
    · rw [SpClass.head_of_stages hst harr]
      rfl
    · rw [hlow d (by omega) hd]
      rfl
  change Host.Outcome.next (s.popSpout popAcc) = _
  unfold State.popSpout
  rw [State.guard_acts h _ (by simp [Acc.rules, popAcc, Acc.sp, Acc.direct])]
  simp only [State.received_spClass]
  rw [hfind]
  dsimp only
  rw [hst]
  rfl

theorem exec_spoutPop_of_none {s : State} (h : s.hostOpen) (hnone : ∀ d < 4, (s.spClass d).head = none) :
    exec (.spoutPop) s = .next ((s.received popAcc).popAnswer []) := by
  have hfind : [0, 1, 2, 3].find? (fun d => (s.spClass d).head.isSome) = none :=
    List.find?_eq_none.mpr fun d hd => by
      rw [hnone d (List.mem_range.mp (show d ∈ List.range 4 from hd))]
      simp
  change Host.Outcome.next (s.popSpout popAcc) = _
  unfold State.popSpout
  rw [State.guard_acts h _ (by simp [Acc.rules, popAcc, Acc.sp, Acc.direct])]
  simp only [State.received_spClass]
  rw [hfind]
  rfl

theorem State.popAnswer_keepsRep (s : State) (ws : List Nat) :
    KeepsRep [Reg.SP_POP 0, Reg.SP_POP 1, Reg.SP_POP 2, Reg.SP_POP 3] [] s (s.popAnswer ws) :=
  (s.popLatch_keeps ws).keepsRep.trans (State.emit_keepsRep _ _ _)

theorem State.rd_popAnswer (s : State) (ws : List Nat) {w : Nat} (hw : w < 4) : (s.popAnswer ws).rd (Reg.SP_POP w) = BitVec.ofNat 64 (ws.getD w 0) :=
  s.rd_popLatch ws hw

theorem State.popAnswer_spout (s : State) (ws : List Nat) : (s.popAnswer ws).spout = s.spout := s.popLatch_spout ws

theorem State.popAnswer_out (s : State) (ws : List Nat) : (s.popAnswer ws).out = .read false (Reg.SP_POP 0) (ws.getD 0 0) :: s.out := by
  unfold State.popAnswer State.answer
  rw [State.emit, s.popLatch_out ws]
  rfl

theorem execSpoutPop_pops {s : State} {c : Nat} {e : SpEntry} {r : List (Nat × SpEntry)} (hc : c < 4) (h : s.hostOpen)
    (hst : (s.spClass c).stages = (0, e) :: r) (harr : (s.spClass c).arrived = false) (hlow : ∀ d < 4, d < c → (s.spClass d).head = none) :
    NextWith (exec (.spoutPop) s) fun t =>
      t.spClass c = { s.spClass c with host := (s.spClass c).host + 1, stages := r } ∧
      (∀ w < 4, (t.rd (Reg.SP_POP w)).toNat = e.words.getD w 0 % 2 ^ 64) ∧
      t.out = .read false (Reg.SP_POP 0) (e.words.getD 0 0) :: s.out ∧
      KeepsRep [Reg.SP_POP 0, Reg.SP_POP 1, Reg.SP_POP 2, Reg.SP_POP 3] [] s t := by
  refine ⟨_, exec_spoutPop_of_head hc h hst harr hlow, ?_, fun w hw => ?_, ?_, ?_⟩
  · unfold State.spClass
    rw [State.popAnswer_spout]
    exact State.spClass_setSpClass_self _ _ _
  · rw [State.rd_popAnswer _ _ hw, BitVec.toNat_ofNat]
  · rw [State.popAnswer_out, show ((s.received popAcc).setSpClass _ _).out = s.out from s.received_part popAcc .out]
  · exact ((s.received_keepsRep _ popAcc).trans (State.setSpClass_keepsRep _ _ _ _)).trans (State.popAnswer_keepsRep _ _)

theorem State.popAnswer_keepsIn (s : State) (ws : List Nat) : KeepsIn [RegSet.each (Reg.SP_POP 0) 0x4 4] [.host] s ((s.received popAcc).popAnswer ws) := by
  have hlaw : Law (maskOf [4, 265]) 0x100000 s (((s.received popAcc).popLatch ws).emit (.read popAcc.bar2 popAcc.ofs (ws.getD 0 0))) :=
    State.emit_law (State.popLatch_law ((s.received_law_still popAcc).mono (by decide) (by decide)) ws (by decide) (by decide)) _ (by decide) (by decide)
  exact .of_law hlaw (by decide) (by decide)

theorem execSpoutPop_empty {s : State} (h : s.hostOpen) (hnone : ∀ d < 4, (s.spClass d).head = none) :
    NextWith (exec (.spoutPop) s) fun t =>
      (∀ w < 4, t.rd (Reg.SP_POP w) = 0) ∧ t.spout = s.spout ∧ t.out = .read false (Reg.SP_POP 0) 0 :: s.out ∧
      KeepsIn [RegSet.each (Reg.SP_POP 0) 0x4 4] [.host] s t := by
  refine ⟨_, exec_spoutPop_of_none h hnone, fun w hw => ?_, ?_, ?_, s.popAnswer_keepsIn []⟩
  · exact State.rd_popAnswer _ [] hw
  · exact (State.popAnswer_spout _ _).trans (s.received_part popAcc .spout)
  · rw [State.popAnswer_out, show (s.received popAcc).out = s.out from s.received_part popAcc .out]
    rfl

/-- A class that takes the place of class `c` after a request of the host. -/
theorem State.received_setSpClass_keepsIn (s : State) (a : Acc) (c : Nat) (k : SpClass) : KeepsIn [] [] s ((s.received a).setSpClass c k) :=
  ((s.received_keepsRep [] a).trans (State.setSpClass_keepsRep _ _ _ _)).keepsIn

theorem execSpoutCreditGrant_moves {s : State} {c n : Nat} (hc : c < 4) (h : s.hostOpen) (hn : n ≤ 64) (hhost : n ≤ (s.spClass c).host) :
    NextWith (exec (.spoutCreditGrant c n) s) fun t =>
      (t.spClass c).host + n = (s.spClass c).host ∧ (t.spClass c).prod = (s.spClass c).prod + n ∧
      (t.spClass c).stages = (s.spClass c).stages ∧ (∀ d < 4, d ≠ c → t.spClass d = s.spClass d) ∧ KeepsIn [] [] s t := by
  have hexec : exec (.spoutCreditGrant c n) s = .next ((s.received (Acc.sp (Reg.SP_CREDIT c))).setSpClass c
      ((s.spClass c).grant (s.received (Acc.sp (Reg.SP_CREDIT c))).cycle n)) := by
    change execSpoutCreditGrant c n s = _
    unfold execSpoutCreditGrant State.spCredit
    dsimp only
    rw [if_neg (by omega), State.guard_acts h _ (by simp [Acc.rules, Acc.sp, Acc.direct, hn, hhost])]
    simp only [State.received_spClass, Bool.false_eq_true, if_false]
  refine ⟨_, hexec, ?_, ?_, ?_, fun d _ hd => ?_, s.received_setSpClass_keepsIn _ _ _⟩
  · rw [State.spClass_setSpClass_self]
    exact Nat.sub_add_cancel hhost
  · rw [State.spClass_setSpClass_self]
    rfl
  · rw [State.spClass_setSpClass_self]
    rfl
  · rw [State.spClass_setSpClass_ne _ _ hd, State.received_spClass]

theorem execSpoutCreditRecall_moves {s : State} {c : Nat} (hc : c < 4) (h : s.hostOpen) :
    NextWith (exec (.spoutCreditRecall c) s) fun t =>
      (t.spClass c).host = (s.spClass c).host + (s.spClass c).prod ∧ (t.spClass c).prod = 0 ∧
      (∀ d < 4, d ≠ c → t.spClass d = s.spClass d) ∧ KeepsIn [] [] s t := by
  have hexec : exec (.spoutCreditRecall c) s = .next ((s.received (Acc.sp (Reg.SP_CREDIT c))).setSpClass c (s.spClass c).recall) := by
    change execSpoutCreditRecall c s = _
    unfold execSpoutCreditRecall State.spCredit
    dsimp only
    rw [if_neg (by omega), State.guard_acts h _ (by simp [Acc.rules, Acc.sp, Acc.direct])]
    simp only [State.received_spClass, if_true]
  refine ⟨_, hexec, ?_, ?_, fun d _ hd => ?_, s.received_setSpClass_keepsIn _ _ _⟩
  · rw [State.spClass_setSpClass_self]
    rfl
  · rw [State.spClass_setSpClass_self]
    rfl
  · rw [State.spClass_setSpClass_ne _ _ hd, State.received_spClass]

/-- Settles O49, clause by clause. -/
theorem endpointAndSpoutMoveNotifications : Obligations.EndpointAndSpoutMoveNotifications := by
  unfold Obligations.EndpointAndSpoutMoveNotifications
  exact ⟨fun s v hv h hen hmask hpend hdma hhigh => execMsixUnmask_sends hv h hen hmask hpend hdma hhigh,
    fun s v hv h hpend => execMsixUnmask_quiet hv h hpend, fun s h => execPerstNAssert_resets h, fun s h => execPerstNAssert_of_off h,
    execPerstNRelease_ends, fun s hlink hdma => execFunctionLevelReset_recalls hlink hdma,
    fun s hlink hdma => execFunctionLevelReset_losesDma hlink hdma,
    fun s bme msix mask hmode hperst hpend hdma => execPcieLinkUp_sets bme msix mask hmode hperst hpend hdma,
    fun s b h => execPcieLinkDown_of_quiet b h, fun s b h hrd himg => execPcieLinkDown_of_idle b h hrd himg,
    fun s c e r hc h hst harr hlow => execSpoutPop_pops hc h hst harr hlow, fun s h hnone => execSpoutPop_empty h hnone,
    fun s c n hc h hn hhost => execSpoutCreditGrant_moves hc h hn hhost, fun s c hc h => execSpoutCreditRecall_moves hc h⟩

end Sys2Proof.Machine
end

section
/-! What a change inside a command may do to the mode and to the Strainer's engines (O5, O6): beside the few commands that set a mode or begin a
scan, the mode stays or a fatal cause leads to CALM, and a scan that runs may end. -/

namespace Sys2Proof.Machine

/-! ## Changes that touch neither -/

/-- Every register family but DEV_MODE and ST_ENG_RESULT. -/
def Mask.still : Nat := 0x1ffffffffffffffffffffffffffffffffffffffffffffffffffffffffffffffffffffffffffffffff7ffffbe

/-- Every part but the device part. -/
def Mask.noDev : Nat := 0x1ffffe

/-- An offset that is neither DEV_MODE nor an engine's ST_ENG_RESULT. -/
def Apart (a : Nat) : Prop := a ≠ Reg.DEV_MODE ∧ ∀ k, a ≠ Reg.ST_ENG_RESULT k

theorem Apart.of_lt {a : Nat} (h : a < 0x701000) (hm : a ≠ Reg.DEV_MODE) : Apart a :=
  ⟨hm, fun k => by unfold Reg.ST_ENG_RESULT; omega⟩

theorem Apart.of_le {a : Nat} (h : 0x701200 ≤ a) : Apart a :=
  ⟨by unfold Reg.DEV_MODE; omega, fun k => by unfold Reg.ST_ENG_RESULT; omega⟩

/-- Whether a set of registers has neither DEV_MODE nor an ST_ENG_RESULT: it lies beside them, or in the gaps between the engines' words. -/
def RegSet.apart (r : RegSet) : Bool :=
  decide (r.Off 0x100) &&
    (decide (0x701200 ≤ r.base) || decide (r.base + r.s1 * (r.n1 - 1) + r.s2 * (r.n2 - 1) < 0x701000) ||
      (r.s1 % 0x40 == 0 && r.s2 % 0x40 == 0 && r.base % 0x40 != 0x1c))

theorem RegSet.apart_of_has {r : RegSet} {a : Nat} (h : r.apart = true) (ha : r.Has a) : Apart a := by
  simp only [RegSet.apart, Bool.and_eq_true, Bool.or_eq_true, decide_eq_true_eq, beq_iff_eq, bne_iff_ne] at h
  obtain ⟨hmode, hplace⟩ := h
  refine ⟨fun he => hmode.not_has (he.subst (motive := r.Has) ha), fun k hk => ?_⟩
  obtain ⟨i, j, hi, hj, rfl⟩ := ha
  unfold Reg.ST_ENG_RESULT at hk
  rcases hplace with (hlo | hhi) | ⟨⟨hs1, hs2⟩, hbase⟩
  · omega
  · have h1 : r.s1 * i ≤ r.s1 * (r.n1 - 1) := Nat.mul_le_mul_left _ (by omega)
    have h2 : r.s2 * j ≤ r.s2 * (r.n2 - 1) := Nat.mul_le_mul_left _ (by omega)
    omega
  · have h1 : r.s1 * i % 0x40 = 0 := by rw [Nat.mul_mod, hs1]; simp
    have h2 : r.s2 * j % 0x40 = 0 := by rw [Nat.mul_mod, hs2]; simp
    omega

/-- The families whose registers are not apart: every offset, ST_ENG_RESULT and DEV_MODE. -/
def notApart : List Nat := [0, 6, 27]

theorem families_apart : (families.zipIdx.all fun e => e.1.apart || notApart.contains e.2) = true := by decide +kernel

/-- What a mask that does not stand for every offset can touch. -/
theorem InMask.cases {W a : Nat} (h0 : W.testBit 0 = false) (h : InMask W a) :
    Apart a ∨ (W.testBit 6 = true ∧ ∃ k, a = Reg.ST_ENG_RESULT k) ∨ (W.testBit 27 = true ∧ a = Reg.DEV_MODE) := by
  rcases h with hz | ⟨k, r, hk, hr, ha⟩
  · simp [h0] at hz
  · have hall := List.all_eq_true.mp families_apart (r, k) (List.mk_mem_zipIdx_iff_getElem?.mpr hr)
    simp only [Bool.or_eq_true, List.contains_iff_mem, notApart, List.mem_cons, List.not_mem_nil, or_false] at hall
    rcases hall with hall | rfl | rfl | rfl
    · exact .inl (RegSet.apart_of_has hall ha)
    · simp [h0] at hk
    · obtain rfl : ⟨0x70101c, 0x40, 8, 0x0, 1⟩ = r := Option.some.inj hr
      obtain ⟨i, j, hi, -, rfl⟩ := ha
      exact .inr (.inl ⟨hk, i, by dsimp only at hi ⊢; unfold Reg.ST_ENG_RESULT; omega⟩)
    · obtain rfl : ⟨0x100, 0x0, 1, 0x0, 1⟩ = r := Option.some.inj hr
      obtain ⟨i, j, -, -, rfl⟩ := ha
      exact .inr (.inr ⟨hk, by simp [Reg.DEV_MODE]⟩)

theorem InMask.apart {a : Nat} (h : InMask Mask.still a) : Apart a := by
  rcases h.cases (by decide) with h | ⟨h, -⟩ | ⟨h, -⟩
  · exact h
  · exact absurd h (by decide)
  · exact absurd h (by decide)

/-- A law that names no ST_ENG_RESULT leaves the engines' states. -/
theorem Law.scanState {W P : Nat} {s t : State} (h : Law W P s t) (h0 : W.testBit 0 = false) (h6 : W.testBit 6 = false) (k : Nat) :
    t.scanState k = s.scanState k := by
  refine State.fld_of_rd _ (h.regs _ fun hm => ?_)
  rcases hm.cases h0 with ha | ⟨ht, -⟩ | ⟨-, he⟩
  · exact ha.2 k rfl
  · simp [h6] at ht
  · exact absurd he (by simp [F.ST_ENG_RESULT.STATE, Reg.ST_ENG_RESULT, Reg.DEV_MODE]; omega)

/-- A law that does not name DEV_MODE leaves it. -/
theorem Law.devMode {W P : Nat} {s t : State} (h : Law W P s t) (h0 : W.testBit 0 = false) (h27 : W.testBit 27 = false) :
    t.rd Reg.DEV_MODE = s.rd Reg.DEV_MODE := by
  refine h.regs _ fun hm => ?_
  rcases hm.cases h0 with ha | ⟨-, k, he⟩ | ⟨ht, -⟩
  · exact ha.1 rfl
  · unfold Reg.ST_ENG_RESULT Reg.DEV_MODE at he
    omega
  · simp [h27] at ht

/-- From `s` to `t` the mode register and the steps of a LULL entry stay. -/
structure ModeStill (s t : State) : Prop where
  mode : t.rd Reg.DEV_MODE = s.rd Reg.DEV_MODE
  lullStep : t.dev.lullStep = s.dev.lullStep
  lullFrom : t.dev.lullFrom = s.dev.lullFrom

/-- From `s` to `t` the mode fields stay, and the states of the engines. -/
structure Still (s t : State) : Prop extends ModeStill s t where
  scan : ∀ k, t.scanState k = s.scanState k

section
variable {K : Nat → Prop} {s t u : State}

theorem Law.still (h : Law Mask.still Mask.noDev s t) : Still s t := by
  have hrd : ∀ a, ¬ Apart a → t.rd a = s.rd a := fun a ha => h.regs a fun hm => ha hm.apart
  have hdev : t.dev = s.dev := h.part_off (p := .dev) (by decide)
  refine ⟨⟨hrd _ fun ha => ha.1 rfl, by rw [hdev], by rw [hdev]⟩, fun k => ?_⟩
  exact State.fld_of_rd _ (hrd _ fun ha => ha.2 k rfl)

theorem Still.of_wr (s : State) {a : Nat} (v : Reg64) (ha : Apart a) : Still s (s.wr a v) :=
  ⟨⟨s.rd_wr_ne v ha.1.symm, rfl, rfl⟩, fun k => State.fld_of_rd _ (s.rd_wr_ne v (ha.2 k).symm)⟩

/-- A change of the device part that leaves the steps of a LULL entry. -/
theorem Still.of_dev (s : State) {d : Dev} (hs : d.lullStep = s.dev.lullStep) (hf : d.lullFrom = s.dev.lullFrom) :
    Still s { s with dev := d } := ⟨⟨rfl, hs, hf⟩, fun _ => rfl⟩

theorem ModeStill.refl (s : State) : ModeStill s s := ⟨rfl, rfl, rfl⟩

theorem ModeStill.comp (h1 : ModeStill s t) (h2 : ModeStill t u) : ModeStill s u :=
  ⟨h2.mode.trans h1.mode, h2.lullStep.trans h1.lullStep, h2.lullFrom.trans h1.lullFrom⟩

theorem Still.comp (h1 : Still s t) (h2 : Still t u) : Still s u :=
  ⟨h1.toModeStill.comp h2.toModeStill, fun k => (h2.scan k).trans (h1.scan k)⟩

theorem ModeStill.cur (h : ModeStill s t) : t.mode = s.mode := State.fld_of_rd _ h.mode
theorem ModeStill.trans (h : ModeStill s t) : t.trans = s.trans := congrArg (· == 1) (State.fld_of_rd F.DEV_MODE.TRANS h.mode)
theorem ModeStill.target (h : ModeStill s t) : t.fld F.DEV_MODE.TARGET = s.fld F.DEV_MODE.TARGET := State.fld_of_rd _ h.mode
theorem ModeStill.steepTarget (h : ModeStill s t) : t.fld F.DEV_MODE.STEEP_TARGET = s.fld F.DEV_MODE.STEEP_TARGET := State.fld_of_rd _ h.mode

theorem ModeStill.modeSound (h : ModeStill s t) (hs : s.modeSound) : t.modeSound := by
  unfold State.modeSound
  rw [h.cur, h.trans, h.target, h.steepTarget, h.lullStep, h.lullFrom]
  exact hs

/-! ## Changes that at most subside -/

/-- A fatal cause would lead to CALM (R41). -/
def State.calms (s : State) : Prop := s.dev.lullStep < 3 ∧ (s.working ∨ (s.mode = Mode.CALM ∧ s.trans = true))

/-- CALM, with no transition and no LULL entry. -/
def State.inCalm (s : State) : Prop := s.mode = Mode.CALM ∧ s.trans = false ∧ s.dev.lullStep = 0

/-- The mode fields stay, or the device falls to CALM. -/
def ModeSubsides (s t : State) : Prop := ModeStill s t ∨ (s.calms ∧ t.inCalm)

/-- The state of each engine of `K` stays, falls to IDLE, or goes from SCAN to WAIT. -/
def ScansSubside (K : Nat → Prop) (s t : State) : Prop :=
  ∀ k, K k → t.scanState k = s.scanState k ∨ t.scanState k = Scan.IDLE ∨ (s.scanState k = Scan.SCAN ∧ t.scanState k = Scan.WAIT)

/-- Neither a mode nor a scan of the engines `K` begins. -/
structure Subsides (K : Nat → Prop) (s t : State) : Prop where
  mode : ModeSubsides s t
  scans : ScansSubside K s t

theorem ModeStill.calms (h : ModeStill s t) (ht : t.calms) : s.calms := by
  unfold State.calms State.working at ht ⊢
  rwa [h.cur, h.trans, h.lullStep] at ht

theorem ModeStill.inCalm (h : ModeStill s t) (hs : s.inCalm) : t.inCalm := by
  unfold State.inCalm
  rw [h.cur, h.trans, h.lullStep]
  exact hs

/-- From CALM without a transition no fatal cause leads on. -/
theorem State.inCalm.not_calms (h : s.inCalm) : ¬ s.calms := by
  obtain ⟨hmode, htrans, -⟩ := h
  rintro ⟨-, hw | ⟨-, ht⟩⟩
  · simp [State.working, hmode, Mode.CALM, Mode.STEEP, Mode.BREEZE, Mode.GALE] at hw
  · simp [htrans] at ht

theorem ModeSubsides.comp (h1 : ModeSubsides s t) (h2 : ModeSubsides t u) : ModeSubsides s u := by
  rcases h1 with h1 | ⟨hs, ht⟩ <;> rcases h2 with h2 | ⟨ht', hu⟩
  · exact .inl (h1.comp h2)
  · exact .inr ⟨h1.calms ht', hu⟩
  · exact .inr ⟨hs, h2.inCalm ht⟩
  · exact absurd ht' ht.not_calms

theorem ScansSubside.comp (h1 : ScansSubside K s t) (h2 : ScansSubside K t u) : ScansSubside K s u := by
  intro k hk
  have hne : Scan.IDLE ≠ Scan.SCAN ∧ Scan.WAIT ≠ Scan.SCAN := by decide
  rcases h2 k hk with h2 | h2 | ⟨h2, h2'⟩
  · rw [h2]
    exact h1 k hk
  · exact .inr (.inl h2)
  · rcases h1 k hk with h1 | h1 | ⟨-, h1⟩
    · exact .inr (.inr ⟨h1 ▸ h2, h2'⟩)
    · exact absurd (h1.symm.trans h2) hne.1
    · exact absurd (h1.symm.trans h2) hne.2

theorem Still.subsides (h : Still s t) : Subsides K s t := ⟨.inl h.toModeStill, fun k _ => .inl (h.scan k)⟩

theorem Subsides.refl (K : Nat → Prop) (s : State) : Subsides K s s := (Law.refl _ _ s).still.subsides

theorem Subsides.comp (h1 : Subsides K s t) (h2 : Subsides K t u) : Subsides K s u := ⟨h1.mode.comp h2.mode, h1.scans.comp h2.scans⟩

/-! ## Shapes of code -/

theorem Subsides.law (h : Subsides K s t) (hl : Law Mask.still Mask.noDev t u) : Subsides K s u := h.comp hl.still.subsides

theorem Subsides.wr (h : Subsides K s t) {a : Nat} (v : Reg64) (ha : Apart a) : Subsides K s (t.wr a v) := h.comp (Still.of_wr t v ha).subsides

theorem Subsides.setFld (h : Subsides K s t) (f : Fld) (v : Nat) (ha : Apart f.ofs) : Subsides K s (t.setFld f v) := h.wr _ ha

theorem Subsides.dev (h : Subsides K s t) {d : Dev} (hs : d.lullStep = t.dev.lullStep) (hf : d.lullFrom = t.dev.lullFrom) :
    Subsides K s { t with dev := d } := h.comp (Still.of_dev t hs hf).subsides

theorem Subsides.ite {c : Prop} [Decidable c] (h1 : c → Subsides K s t) (h2 : ¬ c → Subsides K s u) : Subsides K s (if c then t else u) := by
  split <;> simp_all

theorem Subsides.foldl {α : Type} (l : List α) {f : State → α → State} (h : Subsides K s t) (hf : ∀ v x, Subsides K s v → Subsides K s (f v x)) :
    Subsides K s (l.foldl f t) := by
  induction l generalizing t with
  | nil => exact h
  | cons x l ih => exact ih (hf t x h)

end

/-! ## Fatal causes -/

theorem State.markFatal_still (s : State) (b : Nat) : Still s (s.markFatal b) :=
  Law.still (State.markFatal_law (Law.refl _ _ s) b rfl rfl)

theorem State.enterCalm_inCalm (s : State) : s.enterCalm.inCalm := by
  obtain ⟨hmode, htrans⟩ := s.enterCalm_shows
  exact ⟨hmode, by simp [State.trans, htrans], by rw [s.enterCalm_dev]; rfl⟩

theorem State.enterCalm_scanState (s : State) (k : Nat) : s.enterCalm.scanState k = s.scanState k :=
  s.enterCalm_law_rest.scanState (by decide) (by decide) k

theorem State.enterCalm_subsides {K : Nat → Prop} {s : State} (h : s.calms) : Subsides K s s.enterCalm :=
  ⟨.inr ⟨h, s.enterCalm_inCalm⟩, fun k _ => .inl (s.enterCalm_scanState k)⟩

theorem State.fatal_subsides {K : Nat → Prop} {s0 s : State} (h : Subsides K s0 s) (b : Nat) : Subsides K s0 (s.fatal b) := by
  have hmark := s.markFatal_still b
  have h1 := h.comp hmark.subsides
  unfold State.fatal
  dsimp only
  split
  · exact h1.dev rfl rfl
  · split
    · split
      · exact h1
      · refine h1.comp (State.enterCalm_subsides ?_)
        unfold State.calms State.working
        rw [hmark.lullStep, hmark.cur, hmark.trans]
        exact ⟨by omega, by tauto⟩
    · split
      · exact h1.law (State.abandonPartial_law (Law.refl _ _ _) rfl rfl)
      · exact h1

theorem State.fatalHeld_subsides {K : Nat → Prop} {s0 s : State} (h : Subsides K s0 s) (b : Nat) : Subsides K s0 (s.fatalHeld b) :=
  State.fatal_subsides (h.dev (d := { s.dev with conds := setBit s.dev.conds b true }) rfl rfl) b

theorem State.coveredFault_subsides {K : Nat → Prop} {s0 s : State} (h : Subsides K s0 s) : Subsides K s0 s.coveredFault := by
  unfold State.coveredFault
  exact .ite (fun _ => h) fun _ => State.fatal_subsides h _

/-! ## Recovery intervals -/

theorem State.setRecov_subsides {K : Nat → Prop} {s0 s : State} (h : Subsides K s0 s) (m : Nat) : Subsides K s0 (s.setRecov m) :=
  (h.dev (d := { s.dev with recov := m }) rfl rfl).setFld _ _ (.of_lt (by decide) (by decide))

theorem State.openRecov_subsides {K : Nat → Prop} {s0 s : State} (h : Subsides K s0 s) (i : Nat) : Subsides K s0 (s.openRecov i) := State.setRecov_subsides h _

theorem State.closeRecov_subsides {K : Nat → Prop} {s0 s : State} (h : Subsides K s0 s) (i : Nat) : Subsides K s0 (s.closeRecov i) := State.setRecov_subsides h _

/-! ## The end of a scan -/

theorem Reg.ST_ENG_RESULT_eq_iff {j k : Nat} : Reg.ST_ENG_RESULT j = Reg.ST_ENG_RESULT k ↔ j % 8 = k % 8 := by
  unfold Reg.ST_ENG_RESULT
  omega

end Sys2Proof.Machine
end

section
/-! The Strainer, the ring triggers and the Kettle begin neither a mode nor a scan (O5, O6). -/

namespace Sys2Proof.Machine

/-! ## Steps that touch neither -/

/-- A register of a family beside DEV_MODE and ST_ENG_RESULT. -/
theorem Apart.fam {a : Nat} (k : Nat) {r : RegSet} (hk : Mask.still.testBit k = true) (hr : families[k]? = some r) (h : r.Has a) : Apart a :=
  InMask.apart (.inr ⟨k, r, hk, hr, h⟩)

section
variable {K : Nat → Prop} {s0 s : State}

theorem Subsides.flag (h : Subsides K s0 s) (f : Fld) (ha : Apart f.ofs) : Subsides K s0 (s.flag f) :=
  (h.setFld f 1 ha).law (State.noteSet_law (.refl _ _ _) _ _)

theorem Subsides.flagBit (h : Subsides K s0 s) (f : Fld) (i : Nat) (ha : Apart f.ofs) : Subsides K s0 (s.flagBit f i) :=
  (h.wr _ ha).law (State.noteSet_law (.refl _ _ _) _ _)

theorem Subsides.count (h : Subsides K s0 s) (a : Nat) (ha : Apart a) : Subsides K s0 (s.count a) := h.wr _ ha

theorem Subsides.countN (h : Subsides K s0 s) (a n : Nat) (ha : Apart a) : Subsides K s0 (s.countN a n) := h.wr _ ha

theorem Subsides.spoutEvent (h : Subsides K s0 s) (src inst arg : Nat) (data : Nat := 0) : Subsides K s0 (s.spoutEvent src inst arg data) :=
  h.law (State.spoutEvent_law (.refl _ _ _) _ _ _ _ rfl rfl)

theorem Subsides.tookFree (h : Subsides K s0 s) : Subsides K s0 s.tookFree := h.law (State.tookFree_law (.refl _ _ _) rfl rfl)

theorem Subsides.irqEval (h : Subsides K s0 s) : Subsides K s0 s.irqEval := h.law (State.irqEval_law (.refl _ _ _) rfl rfl)

end

/-! ## The state of an engine -/

theorem Reg.DEV_MODE_ne_ST_ENG_RESULT (k : Nat) : Reg.DEV_MODE ≠ Reg.ST_ENG_RESULT k := by
  unfold Reg.DEV_MODE Reg.ST_ENG_RESULT
  omega

/-- A field of an engine's result beside its state. -/
theorem Still.of_result (s : State) (k : Nat) {hi lo : Nat} (v : Nat) (hhi : hi < 64) (hlo : lo ≤ hi) (hd : 21 < lo ∨ hi < 20) :
    Still s (s.setFld ⟨Reg.ST_ENG_RESULT k, hi, lo⟩ v) := by
  refine ⟨⟨s.rd_wr_ne _ (Reg.DEV_MODE_ne_ST_ENG_RESULT k), rfl, rfl⟩, fun j => ?_⟩
  by_cases hjk : Reg.ST_ENG_RESULT j = Reg.ST_ENG_RESULT k
  · exact State.fld_setFld_bits _ _ _ _ hhi hlo (by decide : 20 ≤ 21) hjk (by dsimp only [F.ST_ENG_RESULT.STATE]; omega)
  · exact State.fld_setFld_ofs _ _ _ _ hjk

theorem State.scanState_setState (s : State) (k j st : Nat) :
    (s.setFld (F.ST_ENG_RESULT.STATE k) st).scanState j = if j % 8 = k % 8 then st % 4 else s.scanState j := by
  split
  case isTrue h =>
    have hofs : F.ST_ENG_RESULT.STATE j = F.ST_ENG_RESULT.STATE k := by
      simp only [F.ST_ENG_RESULT.STATE, Reg.ST_ENG_RESULT_eq_iff.mpr h]
    unfold State.scanState
    rw [hofs]
    exact State.fld_setFld_self _ _ _ (by decide : 21 < 64) (by decide : 20 ≤ 21)
  case isFalse h => exact State.fld_setFld_ofs _ _ _ _ fun he => h (Reg.ST_ENG_RESULT_eq_iff.mp he)

theorem ModeStill.setState (s : State) (k st : Nat) : ModeStill s (s.setFld (F.ST_ENG_RESULT.STATE k) st) :=
  ⟨s.rd_setFld_ne _ _ (Reg.DEV_MODE_ne_ST_ENG_RESULT k), by rw [State.setFld_dev], by rw [State.setFld_dev]⟩

section
variable {K : Nat → Prop} {s0 s : State}

/-- An engine that scans goes to WAIT. -/
theorem Subsides.waits (h : Subsides K s0 s) {k : Nat} (hk : ∀ j, K j → j % 8 = k % 8 → s.scanState k = Scan.SCAN) :
    Subsides K s0 (s.setFld (F.ST_ENG_RESULT.STATE k) Scan.WAIT) := by
  refine h.comp ⟨.inl (.setState s k _), fun j hj => ?_⟩
  rw [State.scanState_setState]
  split
  case isTrue hjk =>
    have hsame : s.scanState j = s.scanState k := by
      simp only [State.scanState, F.ST_ENG_RESULT.STATE, Reg.ST_ENG_RESULT_eq_iff.mpr hjk]
    exact .inr (.inr ⟨hsame.trans (hk j hj hjk), rfl⟩)
  case isFalse => exact .inl rfl

/-- An engine goes to IDLE. -/
theorem Subsides.idles (h : Subsides K s0 s) (k : Nat) : Subsides K s0 (s.setFld (F.ST_ENG_RESULT.STATE k) Scan.IDLE) := by
  refine h.comp ⟨.inl (.setState s k _), fun j _ => ?_⟩
  rw [State.scanState_setState]
  split
  · exact .inr (.inl rfl)
  · exact .inl rfl

/-- A change of parts beside the device part. -/
theorem Still.of_parts {s t : State} (hregs : t.regs = s.regs) (hdev : t.dev = s.dev) : Still s t := by
  have hrd : ∀ a, t.rd a = s.rd a := fun a => by unfold State.rd; rw [hregs]
  exact ⟨⟨hrd _, by rw [hdev], by rw [hdev]⟩, fun k => State.fld_of_rd _ (hrd _)⟩

theorem Subsides.parts (h : Subsides K s0 s) {t : State} (hregs : t.regs = s.regs) (hdev : t.dev = s.dev) : Subsides K s0 t :=
  h.comp (Still.of_parts hregs hdev).subsides

theorem Subsides.putScans (h : Subsides K s0 s) (m : SMap StScan) : Subsides K s0 { s with scans := m } := h.parts rfl rfl

/-! ## The end of a scan -/

theorem Apart.stEngFlags (k : Nat) : Apart (Reg.ST_ENG_FLAGS k) := .fam 7 rfl rfl (Reg.ST_ENG_FLAGS_has k)

/-- The result and the flags that the end of a scan leaves. -/
def State.scanResult (s : State) (k r : Nat) : State :=
  let s1 := (s.setFld (F.ST_ENG_RESULT.RESULT k) r).setFld (F.ST_ENG_RESULT.ALIVE k) (s.fld (F.ST_ENG_RESULT.ALIVE k) + 1)
  if r = 2 then s1.flag (F.ST_ENG_FLAGS.MISMATCH k)
  else if r = 3 then s1.flag (F.ST_ENG_FLAGS.STALE k)
  else if r = 4 then s1.flag (F.ST_ENG_FLAGS.NO_BUFFER k)
  else if r = 6 then s1.flag (F.ST_ENG_FLAGS.ECC k)
  else s1

theorem State.scanClose_eq (s : State) (k r : Nat) :
    s.scanClose k r =
      if s.fld (F.ST_ENG_CFG.CONT k) = 1 then (s.scanResult k r).setFld (F.ST_ENG_RESULT.STATE k) Scan.WAIT
      else
        { (s.scanResult k r).setFld (F.ST_ENG_RESULT.STATE k) Scan.IDLE with scans := (s.scanResult k r).scans.del k } := rfl

theorem Still.flag (s : State) (f : Fld) (ha : Apart f.ofs) : Still s (s.flag f) :=
  (Still.of_wr s _ ha).comp (State.noteSet_law (.refl _ _ _) _ _).still

theorem State.scanResult_still (s : State) (k r : Nat) : Still s (s.scanResult k r) := by
  have h1 : Still s ((s.setFld (F.ST_ENG_RESULT.RESULT k) r).setFld (F.ST_ENG_RESULT.ALIVE k) (s.fld (F.ST_ENG_RESULT.ALIVE k) + 1)) :=
    (Still.of_result s k r (by decide) (by decide) (by decide)).comp (Still.of_result _ k _ (by decide) (by decide) (by decide))
  unfold State.scanResult
  dsimp only
  split
  · exact h1.comp (.flag _ _ (.stEngFlags k))
  split
  · exact h1.comp (.flag _ _ (.stEngFlags k))
  split
  · exact h1.comp (.flag _ _ (.stEngFlags k))
  split
  · exact h1.comp (.flag _ _ (.stEngFlags k))
  · exact h1

theorem State.scanClose_subsides (h : Subsides K s0 s) {k : Nat} (r : Nat) (hk : ∀ j, K j → j % 8 = k % 8 → s.scanState k = Scan.SCAN) :
    Subsides K s0 (s.scanClose k r) := by
  have hstill := s.scanResult_still k r
  have h1 := h.comp hstill.subsides
  rw [State.scanClose_eq]
  split
  · exact h1.waits fun j hj hjk => (hstill.scan k).trans (hk j hj hjk)
  · exact (h1.idles k).putScans _

theorem State.scanStale_subsides (h : Subsides K s0 s) (mem sel : Nat) : Subsides K s0 (s.scanStale mem sel) := by
  unfold State.scanStale
  refine .foldl _ h fun t k ht => ?_
  split
  case isTrue hc => exact State.scanClose_subsides ht 3 (fun _ _ _ => hc.1)
  case isFalse => exact ht

/-! ## Ring triggers -/

theorem Apart.ringStatus (n : Nat) : Apart (Reg.CD_RING_STATUS n) := .fam 8 rfl rfl (Reg.CD_RING_STATUS_has n)

theorem State.ringTrigger_subsides (h : Subsides K s0 s) (n cause index : Nat) : Subsides K s0 (s.ringTrigger n cause index) := by
  have hlatch := h.law (State.ringLatch_law (.refl _ _ _) n cause index rfl rfl)
  have hinfo : Apart (Reg.CD_RING_TRIG_INFO n) := .fam 19 rfl rfl (Reg.CD_RING_TRIG_INFO_has n)
  have hcount := h.count (Reg.CD_RING_CNT n 6) (.fam 21 rfl rfl (Reg.CD_RING_CNT_has_6 n))
  unfold State.ringTrigger
  dsimp only
  split
  · split
    · exact hlatch.law (State.ringFreeze_law (.refl _ _ _) _ _ _ rfl rfl)
    · exact State.scanStale_subsides (hlatch.setFld _ _ (.ringStatus n)) _ _
  split
  · split
    · exact (hcount.setFld _ _ hinfo).setFld _ _ hinfo
    · exact hcount
  · exact h

theorem State.offerTrigger_subsides (h : Subsides K s0 s) (enabled : State → Nat → Bool) (cause index : Nat) :
    Subsides K s0 (s.offerTrigger enabled cause index) := by
  unfold State.offerTrigger
  refine .foldl _ h fun t n ht => ?_
  split
  · exact State.ringTrigger_subsides ht _ _ _
  · exact ht

end

end Sys2Proof.Machine
end

section
/-! The Kettle begins neither a mode nor a scan (O5, O6): what it has to do with either is the fatal cause of channels that disagree. -/

namespace Sys2Proof.Machine

theorem Apart.ktChStatus : Apart Reg.KT_CH_STATUS := .fam 31 rfl rfl Reg.KT_CH_STATUS_has
theorem Apart.ktChFlags : Apart Reg.KT_CH_FLAGS := .fam 34 rfl rfl Reg.KT_CH_FLAGS_has
theorem Apart.ktCnt (n : Nat) : Apart (Reg.KT_CNT n) := .fam 35 rfl rfl (Reg.KT_CNT_has n)
theorem Apart.ktDomStatus (d : Nat) : Apart (Reg.KT_DOM_STATUS d) := .fam 36 rfl rfl (Reg.KT_DOM_STATUS_has d)
theorem Apart.ktDomFlags (d : Nat) : Apart (Reg.KT_DOM_FLAGS d) := .fam 37 rfl rfl (Reg.KT_DOM_FLAGS_has d)
theorem Apart.ktPairStatus (k : Nat) : Apart (Reg.KT_PAIR_STATUS k) := .fam 40 rfl rfl (Reg.KT_PAIR_STATUS_has k)

section
variable {K : Nat → Prop} {s0 s : State}

/-! ## Channels -/

theorem State.voteCheck_subsides (h : Subsides K s0 s) : Subsides K s0 s.voteCheck := by
  unfold State.voteCheck
  split
  · exact h
  · exact .ite (fun _ => State.fatalHeld_subsides h _) fun _ => h
  · exact State.fatalHeld_subsides h _

theorem State.exclude_subsides (h : Subsides K s0 s) (ch arg : Nat) : Subsides K s0 (s.exclude ch arg) := by
  have h1 := ((h.setFld (F.chState ch) 1 .ktChStatus).flagBit F.KT_CH_FLAGS.EXCL ch .ktChFlags).count (Reg.KT_CNT ch) (.ktCnt ch)
  have h2 := State.openRecov_subsides (h1.spoutEvent Sp.KT_CHANNEL ch arg) (5 + ch)
  exact .ite (fun _ => h2.law (State.fhtAbandon_law (.refl _ _ _) rfl rfl)) fun _ => h2

theorem State.afterExclusion_subsides (h : Subsides K s0 s) : Subsides K s0 s.afterExclusion := by
  unfold State.afterExclusion
  refine State.voteCheck_subsides ?_
  split
  · exact .ite (fun _ => h) fun _ => h.setFld _ _ .ktChStatus
  · exact h.law (State.handover_law (.refl _ _ _) rfl rfl)

theorem State.excludeAll_subsides (h : Subsides K s0 s) (arg : Nat) (l : List Nat) :
    Subsides K s0 (l.foldl (fun t c => t.exclude c arg) s) :=
  .foldl _ h fun _ _ ht => State.exclude_subsides ht _ _

/-! ## Domains -/

theorem State.holdoverMarks_subsides (h : Subsides K s0 s) (d : Nat) : Subsides K s0 (s.holdoverMarks d) := by
  have h1 := ((h.flag (F.KT_DOM_FLAGS.HOLDOVER d) (.ktDomFlags d)).count (Reg.KT_DOM_CNT d 6)
    (.fam 39 rfl rfl (Reg.KT_DOM_CNT_has_6 d))).law (State.fhtAbandon_law (.refl _ _ _) rfl rfl)
  unfold State.holdoverMarks
  dsimp only
  split
  · exact h1
  · exact State.afterExclusion_subsides (State.excludeAll_subsides h1 _ _)

theorem State.toHoldover_subsides (h : Subsides K s0 s) (d : Nat) : Subsides K s0 (s.toHoldover d) := by
  have h1 := State.holdoverMarks_subsides (h.setFld (F.KT_DOM_STATUS.STATE d) Dom.HOLDOVER (.ktDomStatus d)) d
  exact (h1.tookFree.law (State.reportFi_law (State.eachCh_law (.refl _ _ _) _ _ rfl rfl) _ rfl rfl)).spoutEvent _ _ _

theorem State.setDomState_subsides (h : Subsides K s0 s) (d st : Nat) : Subsides K s0 (s.setDomState d st) := by
  have h1 := h.setFld (F.KT_DOM_STATUS.STATE d) st (.ktDomStatus d)
  exact .ite (fun _ => State.toHoldover_subsides (h1.setFld _ _ (.ktPairStatus _)) _) fun _ => h1

theorem State.sourceLost_subsides (h : Subsides K s0 s) (d : Nat) : Subsides K s0 (s.sourceLost d) := by
  have h1 := (h.flag (F.KT_DOM_FLAGS.LOST d) (.ktDomFlags d)).law (State.setFeed_law (.refl _ _ _) d { s.feed d with lost := true } rfl rfl)
  have h2 := State.toHoldover_subsides h1 d
  unfold State.sourceLost
  refine .ite (fun _ => h) fun _ => .ite (fun _ => .ite (fun _ => ?_) fun _ => .ite (fun _ => ?_) fun _ => h2) fun _ => h1
  · exact h1.law (State.toFollow_law (.refl _ _ _) _ rfl rfl)
  · exact State.toHoldover_subsides (h2.setFld _ _ (.ktPairStatus _)) _

/-! ## The servo -/

theorem State.acquire_subsides (h : Subsides K s0 s) (d : Nat) (theta : Int) : Subsides K s0 (s.acquire d theta) := by
  have h1 : ∀ f, Subsides K s0 (s.setFeed d f) := fun f => h.law (State.setFeed_law (.refl _ _ _) _ _ rfl rfl)
  exact .ite (fun _ => State.setDomState_subsides ((h1 _).setFld (F.KT_DOM_STATUS.ACQ d) 1 (.ktDomStatus d)) _ _) fun _ => h1 _

theorem State.servoFeed_subsides (h : Subsides K s0 s) (d : Nat) (theta : Int) : Subsides K s0 (s.servoFeed d theta) := by
  unfold State.servoFeed
  dsimp only
  generalize hs1 : (if s.domState d = Dom.FREERUN ∨ s.domState d = Dom.HOLDOVER then s.setDomState d Dom.ACQUIRING else s) = s1
  have h1 : Subsides K s0 s1 := hs1 ▸ .ite (fun _ => State.setDomState_subsides h _ _) fun _ => h
  split
  · exact h1.law (State.noteStep_law (State.stepDomain_law (.refl _ _ _) _ _ rfl rfl) _ _ _ rfl rfl)
  · exact State.acquire_subsides
      (h1.tookFree.law (State.reportClamps_law (State.eachCh_law (.refl _ _ _) _ _ rfl rfl) _ _ rfl rfl)) _ _

theorem State.leaveManual_subsides (h : Subsides K s0 s) (d : Nat) : Subsides K s0 (s.leaveManual d) := by
  unfold State.leaveManual
  refine (State.holdoverMarks_subsides (State.setDomState_subsides ?_ _ _) _).law (State.reportFi_law (.refl _ _ _) _ rfl rfl)
  exact h.law (State.eachCh_law (.refl _ _ _) _ _ rfl rfl)

/-- The servo's count of its round and the offsets that it takes up. -/
theorem State.servoTake_subsides (h : Subsides K s0 s) (d : Nat) :
    Subsides K s0 (((s.count (Reg.KT_DOM_CNT d 0)).pfEvent 0x500 d 1).feedConsume d) :=
  (h.count _ (.fam 49 rfl rfl (Reg.KT_DOM_CNT_has_0 d))).law
    (State.feedConsume_law (State.pfEvent_law (.refl _ _ _) _ _ _ rfl rfl) _ rfl rfl)

theorem State.servoUpdate_subsides (h : Subsides K s0 s) (d : Nat) : Subsides K s0 (s.servoUpdate d) := by
  unfold State.servoUpdate
  dsimp only
  generalize hs2 : (if (s.feedDue d).isEmpty = true then
    (((s.count (Reg.KT_DOM_CNT d 0)).pfEvent 0x500 d 1).feedConsume d).count (Reg.KT_DOM_CNT d 1)
    else (((s.count (Reg.KT_DOM_CNT d 0)).pfEvent 0x500 d 1).feedConsume d).setPair (Reg.KT_LAST_OFS_LO d) (Reg.KT_LAST_OFS_HI d)
      (feedMean (s.feedDue d))) = s2
  have h1 := State.servoTake_subsides h d
  have h2 : Subsides K s0 s2 := by
    rw [← hs2]
    split
    · exact h1.count _ (.fam 50 rfl rfl (Reg.KT_DOM_CNT_has_1 d))
    · exact (h1.wr _ (.fam 51 rfl rfl (Reg.KT_LAST_OFS_LO_has d))).wr _ (.fam 52 rfl rfl (Reg.KT_LAST_OFS_HI_has d))
  split
  · split
    · exact h2
    · exact State.setDomState_subsides (.ite (fun _ => h2.setFld _ _ (.ktPairStatus _)) fun _ => h2) _ _
  split
  · exact State.leaveManual_subsides h2 d
  split
  · exact h2.law (State.servoFollow_law (.refl _ _ _) _ rfl rfl)
  split
  · exact h2.law (State.servoFollow_law (State.toFollow_law (.refl _ _ _) _ rfl rfl) _ rfl rfl)
  split
  · exact h2
  · exact State.servoFeed_subsides h2 d _

end

end Sys2Proof.Machine
end

section
/-! Events, the fabric, ports and trunks begin neither a mode nor a scan (O5, O6). -/

namespace Sys2Proof.Machine

theorem Apart.phCnt2 (n : Nat) : Apart (Reg.PH_CNT n 2) := .fam 88 rfl rfl (Reg.PH_CNT_has_2 n)
theorem Apart.phCnt3 (n : Nat) : Apart (Reg.PH_CNT n 3) := .fam 87 rfl rfl (Reg.PH_CNT_has_3 n)
theorem Apart.pinEvtLevel : Apart Reg.PIN_EVT_LEVEL := .fam 86 rfl rfl Reg.PIN_EVT_LEVEL_has
theorem Apart.prtState (p : Nat) : Apart (Reg.PRT_STATE p) := .fam 202 rfl rfl (Reg.PRT_STATE_has p)
theorem Apart.lnStatus (l : Nat) : Apart (Reg.LN_STATUS l) := .fam 203 rfl rfl (Reg.LN_STATUS_has l)
theorem Apart.lnTrunkStatus (p : Nat) : Apart (Reg.LN_TRUNK_STATUS p) := .fam 95 rfl rfl (Reg.LN_TRUNK_STATUS_has p)
theorem Apart.lnFlags (l : Nat) : Apart (Reg.LN_FLAGS l) := .fam 97 rfl rfl (Reg.LN_FLAGS_has l)
theorem Apart.lnCtrl (l : Nat) : Apart (Reg.LN_CTRL l) := .fam 211 rfl rfl (Reg.LN_CTRL_has l)

theorem Reg.LN_STATUS_still (l : Nat) : InMask Mask.still (Reg.LN_STATUS l) := .inr ⟨203, _, rfl, rfl, Reg.LN_STATUS_has l⟩
theorem Reg.LN_EYE_still (l : Nat) : InMask Mask.still (Reg.LN_EYE l) := .inr ⟨204, _, rfl, rfl, Reg.LN_EYE_has l⟩

section
variable {K : Nat → Prop} {s0 s : State}

/-! ## Event inputs -/

/-- The trigger of an accepted edge, and its stamp unless it comes too soon after the last. -/
theorem State.evtAccept_subsides (h : Subsides K s0 s) (n : Nat) (p : PhPend) (dead : Bool) :
    Subsides K s0 (if dead then s.count (Reg.PH_CNT (196 + n) 3)
      else (s.setChan (196 + n) { s.chan (196 + n) with last := some p.cycle }).stampEvent (196 + n) p.dom (!p.level) p.stamp p.spare p.qbad) :=
  .ite (fun _ => h.count _ (.phCnt3 _)) fun _ =>
    h.law (State.stampEvent_law (State.setChan_law (.refl _ _ _) _ _ rfl rfl) _ _ _ _ _ _ rfl rfl)

theorem State.evtQualified_subsides (h : Subsides K s0 s) (n : Nat) (p : PhPend) : Subsides K s0 (s.evtQualified n p) := by
  have hlevel : Subsides K s0 (s.setFldBit F.PIN_EVT_LEVEL.LEVEL n p.level) := h.wr _ .pinEvtLevel
  unfold State.evtQualified
  dsimp only
  generalize hs2 : (if (p.level == (p.edge != 1)) = true then
    (s.setFldBit F.PIN_EVT_LEVEL.LEVEL n p.level).fmSample (196 + n) 0 1 p.cycle p.stamp
    else s.setFldBit F.PIN_EVT_LEVEL.LEVEL n p.level) = s2
  have h2 : Subsides K s0 s2 :=
    hs2 ▸ .ite (fun _ => hlevel.law (State.fmSample_law (.refl _ _ _) _ _ _ _ _ rfl rfl)) fun _ => hlevel
  exact .ite (fun _ => State.evtAccept_subsides (State.offerTrigger_subsides h2 _ _ _) n p _) fun _ => h2

theorem State.evtTransition_subsides (h : Subsides K s0 s) (n : Nat) (level : Bool) (tap : Nat) :
    Subsides K s0 (s.evtTransition n level tap) := by
  have hpend : ∀ {t} (c : PhChan), Subsides K s0 t → Subsides K s0 (t.setChan (196 + n) c) :=
    fun c ht => ht.law (State.setChan_law (.refl _ _ _) _ c rfl rfl)
  have hflags : Apart (Reg.PH_CH_FLAGS (196 + n)) := .fam 73 rfl rfl (Reg.PH_CH_FLAGS_has _)
  unfold State.evtTransition
  refine .ite (fun _ => hpend _ (h.wr _ .pinEvtLevel)) fun _ => .ite (fun _ => .ite (fun _ => h) fun _ => ?_) fun _ =>
    .ite (fun _ => h) fun _ => .ite (fun _ => State.evtQualified_subsides h n _) fun _ => hpend _ h
  exact ((hpend _ h).count _ (.phCnt2 _)).flag _ hflags

/-! ## The fabric -/

theorem Subsides.foldl_fst {α β : Type} (l : List α) {f : State × β → α → State × β} {a : State × β} (h : Subsides K s0 a.1)
    (hf : ∀ t b x, Subsides K s0 t → Subsides K s0 (f (t, b) x).1) : Subsides K s0 (l.foldl f a).1 := by
  induction l generalizing a with
  | nil => exact h
  | cons x l ih => exact ih (hf a.1 a.2 x h)

theorem State.epochStep_subsides (h : Subsides K s0 s) : Subsides K s0 s.epochStep := by
  have hcnt : ∀ n a, a = Reg.FAB_CNT n → Apart a := fun n a ha => ha ▸ .of_le (by unfold Reg.FAB_CNT; omega)
  have hfab : ∀ {t} (f : Fabric), Subsides K s0 t → Subsides K s0 (t.setFab f) := fun f ht => ht.law (State.setFab_law (.refl _ _ _) f rfl rfl)
  unfold State.epochStep
  dsimp only
  generalize hs0 : State.countEv _ _ _ _ _ = u
  have hu : Subsides K s0 u :=
    hs0 ▸ (hfab _ h).law (State.countEv_law (.refl _ _ _) _ _ _ _ (.inr ⟨148, _, rfl, rfl, Reg.FAB_CNT_has_0⟩) rfl rfl)
  refine .ite (fun _ => hfab _ hu) fun _ => ?_
  generalize hr : List.foldl _ (_, false, false) _ = r
  have hclose : Subsides K s0 (if bitAt u.dev.recov 4 = true then u.closeRecov 4 else u) :=
    .ite (fun _ => State.closeRecov_subsides hu 4) fun _ => hu
  have hplanes : Subsides K s0 r.1 := by
    rw [← hr]
    refine .foldl_fst [0, 1, 2, 3] hclose fun t b k ht => ?_
    dsimp only
    exact ht.law (State.planeEpoch_law (.refl _ _ t) k rfl rfl)
  have hcross : Subsides K s0 (u.fab.cross.foldl State.crossCell r.1) :=
    .foldl _ hplanes fun _ _ ht => ht.law (State.crossCell_law (.refl _ _ _) _ rfl rfl)
  have hheld : Subsides K s0 (if r.2.1 = true then (u.fab.cross.foldl State.crossCell r.1).count (Reg.FAB_CNT 6)
      else u.fab.cross.foldl State.crossCell r.1) := .ite (fun _ => hcross.count _ (hcnt 6 _ rfl)) fun _ => hcross
  exact .ite (fun _ => hheld.count _ (hcnt 9 _ rfl)) fun _ => hheld

theorem State.lookups_subsides (h : Subsides K s0 s) (i p : Nat) (q : Parsed) : Subsides K s0 (s.lookups i p q) := by
  have hcounts : ∀ {t} a b c, Subsides K s0 t → Subsides K s0 (((t.pfEvent 0x100 i a).pfEvent 0x103 i b).pfEvent 0x101 i c) := fun a b c ht =>
    ht.law (State.pfEvent_law (State.pfEvent_law (State.pfEvent_law (.refl _ _ _) _ _ a rfl rfl) _ _ b rfl rfl) _ _ c rfl rfl)
  unfold State.lookups
  refine .ite (fun _ => hcounts _ _ _ ?_) fun _ => State.offerTrigger_subsides (hcounts _ _ _ ?_) _ _ _
  all_goals
    split
    · exact h.law (State.setSlice_law (.refl _ _ _) _ _ rfl rfl)
    · exact h

theorem State.ingress_subsides (h : Subsides K s0 s) (p : Nat) (bs : List Byte) (stamp : Time16) (slots : Nat) :
    Subsides K s0 (s.ingress p bs stamp slots) := by
  have hmac : ∀ {t}, Subsides K s0 t → Subsides K s0 (t.macCount p bs) := fun ht => ht.law (State.macCount_law (.refl _ _ _) _ _ rfl rfl)
  unfold State.ingress
  dsimp only
  refine .ite (fun _ => ?_) fun _ => ?_
  · exact h.law (State.macControl_law (State.rxGood_law (.refl _ _ _) _ _ rfl rfl) _ _ _ rfl rfl)
  · have htake := h.law (State.takeExtents_law (.refl _ _ s) (sliceOf p) p bs.length rfl rfl)
    generalize s.takeExtents (sliceOf p) p bs.length = r at htake
    obtain ⟨s1, _ | hs⟩ := r
    · exact hmac (.ite (fun _ => State.lookups_subsides htake _ _ _) fun _ => htake)
    · have h2 := hmac (.ite (c := s.forwards (sliceOf p) = true)
        (fun _ => State.lookups_subsides htake (sliceOf p) p (parseFrame bs (s.defVlan p) (s.cfg.defPcp.getD p 0))) fun _ => htake)
      exact .ite (fun _ => h2.law (State.ingressEnd_law (.refl _ _ _) _ _ _ _ _ _ _ rfl rfl)) fun _ =>
        h2.law (State.cutFrame_law (.refl _ _ _) _ _ rfl rfl)

/-! ## Ports -/

theorem State.portLeft_subsides (h : Subsides K s0 s) (p : Nat) : Subsides K s0 (s.portLeft p) := by
  have h1 : ∀ t, Subsides K s0 ((((s.fdbPortFlush p).portDrops p).ttPortDown p).setTrunk p t) := fun t =>
    h.law (State.setTrunk_law (State.ttPortDown_law (State.portDrops_law (State.fdbPortFlush_law (.refl _ _ _) _ rfl rfl) _ rfl rfl)
      _ rfl rfl) _ t rfl rfl)
  exact .ite (fun _ => State.sourceLost_subsides (h1 _) _) fun _ => h1 _

theorem State.setOper_subsides (h : Subsides K s0 s) (p st : Nat) : Subsides K s0 (s.setOper p st) := by
  have h1 : ∀ v, Subsides K s0 ((s.eachLane p State.fmChanged).setFld (F.PRT_STATE.OPER p) v) := fun v =>
    (h.law (State.eachLane_law (.refl _ _ _) _ _ (fun _ _ ht => State.fmChanged_law ht _ rfl rfl) rfl rfl)).setFld _ v (.prtState p)
  refine .ite (fun _ => h) fun _ => Subsides.law ?_ (State.vnPortChange_law (.refl _ _ _) _ rfl rfl)
  exact .ite (fun _ => State.portLeft_subsides (h1 _) _) fun _ => h1 _

theorem State.retrain_subsides (h : Subsides K s0 s) (p : Nat) : Subsides K s0 (s.retrain p) := by
  have h1 : Subsides K s0 ((s.rxRestart p).eachLane p fun u l => u.setFld (F.LN_EYE.VALID l) 0) :=
    h.law (State.eachLane_law (State.rxRestart_law (.refl _ _ _) _ rfl rfl) _ _ (fun _ l ht => State.setFld_law ht _ _ (Reg.LN_EYE_still l)) rfl rfl)
  refine .ite (fun _ => State.setOper_subsides (.ite (fun _ => ?_) fun _ => h1) _ _) fun _ => h
  exact h1.law (State.capState_law (.refl _ _ _) _ rfl rfl)

theorem State.portOff_subsides (h : Subsides K s0 s) (p : Nat) : Subsides K s0 (s.portOff p) := by
  have h1 : Subsides K s0 (((s.setOper p Oper.DISABLED).rxRestart p).eachLane p fun u l => u.setFld (F.LN_STATUS.LOL l) 1) :=
    (State.setOper_subsides h p _).law (State.eachLane_law (State.rxRestart_law (.refl _ _ _) _ rfl rfl) _ _
      (fun _ l ht => State.setFld_law ht _ _ (Reg.LN_STATUS_still l)) rfl rfl)
  exact .ite (fun _ => h1.law (State.txStop_law (State.setTrState_law (.refl _ _ _) _ _ rfl rfl) _ rfl rfl)) fun _ => h1

theorem State.firstAttempt_subsides (h : Subsides K s0 s) (p : Nat) : Subsides K s0 (s.firstAttempt p) :=
  h.law (State.firstAttempt_law (.refl _ _ _) _ rfl rfl)

/-- Training of several ports, each under its own condition. -/
theorem State.trainAll_subsides (h : Subsides K s0 s) (l : List Nat) (c : State → Nat → Prop) [∀ t p, Decidable (c t p)] :
    Subsides K s0 (l.foldl (fun t p => if c t p then (t.firstAttempt p).retrain p else t) s) :=
  .foldl _ h fun _ _ ht => .ite (fun _ => State.retrain_subsides (State.firstAttempt_subsides ht _) _) fun _ => ht

theorem State.portReset_subsides (h : Subsides K s0 s) (p : Nat) : Subsides K s0 (s.portReset p) := by
  have h1 : Subsides K s0 (s.resetDrops p) := h.law (State.resetDrops_law (.refl _ _ _) _ rfl rfl)
  refine State.retrain_subsides (State.firstAttempt_subsides (.ite (fun _ => State.setOper_subsides h1 _ _) fun _ => ?_) p) p
  exact h1.law (State.ttPortDown_law (State.portDrops_law (State.fdbPortFlush_law (.refl _ _ _) _ rfl rfl) _ rfl rfl) _ rfl rfl)

/-! ## Trunks -/

theorem State.goUp_subsides (h : Subsides K s0 s) (p : Nat) : Subsides K s0 (s.goUp p) := by
  have h1 := h.law (State.eachLane_law (.refl _ _ s) p
    (fun u l => (u.setFld (F.LN_STATUS.FIRST_DONE l) 1).setRx l { u.rx l with pos := none, buf := [], drop := 0 })
    (fun _ l ht => State.setRx_law (State.setFld_law ht _ _ (Reg.LN_STATUS_still l)) _ _ rfl rfl) rfl rfl)
  refine State.setOper_subsides (.ite (fun _ => ?_) fun _ => h1) _ _
  exact h1.law (State.setTrunk_law (State.setTrState_law (.refl _ _ _) _ _ rfl rfl) _ _ rfl rfl)

theorem State.trunkDown_subsides (h : Subsides K s0 s) (p : Nat) : Subsides K s0 (s.trunkDown p) :=
  (State.setOper_subsides h p _).law (State.enterCap_law (.refl _ _ _) _ rfl rfl)

theorem State.negoEnter_subsides (h : Subsides K s0 s) (p : Nat) : Subsides K s0 (s.negoEnter p) := by
  have h1 := State.setOper_subsides (h.law (State.setTrState_law (.refl _ _ _) p Tr.NEGO rfl rfl)) p Oper.TRAINING
  refine .ite (fun _ => ?_) fun _ => .ite (fun _ => ?_) fun _ => State.goUp_subsides h1 p
  · exact h1.law (State.trSend_law (.refl _ _ _) _ _ _ rfl rfl)
  · exact h1.law (State.trSend_law (.refl _ _ _) _ _ _ rfl rfl)

theorem State.ceilHere_subsides (h : Subsides K s0 s) (p : Nat) : Subsides K s0 (s.ceilHere p) :=
  State.negoEnter_subsides (h.setFld _ _ (.lnTrunkStatus p)) p

theorem State.capMsg_subsides (h : Subsides K s0 s) (p arg : Nat) (rxa : Bool) : Subsides K s0 (s.capMsg p arg rxa) := by
  have hmismatch := State.setOper_subsides (h.law (State.setTrState_law (.refl _ _ _) p Tr.MISMATCH rfl rfl)) p Oper.TRAINING
  have hstatus : ∀ a b c d, Subsides K s0 ((((s.setFld (F.LN_TRUNK_STATUS.PEER_MAX p) a).setFld (F.LN_TRUNK_STATUS.PEER_IDLE p) b).setFld
      (F.LN_TRUNK_STATUS.CEIL p) c).setFld (F.LN_TRUNK_STATUS.LEADER p) d) := fun a b c d =>
    (((h.setFld (F.LN_TRUNK_STATUS.PEER_MAX p) a (.lnTrunkStatus p)).setFld (F.LN_TRUNK_STATUS.PEER_IDLE p) b (.lnTrunkStatus p)).setFld
      (F.LN_TRUNK_STATUS.CEIL p) c (.lnTrunkStatus p)).setFld (F.LN_TRUNK_STATUS.LEADER p) d (.lnTrunkStatus p)
  unfold State.capMsg
  refine .ite (fun _ => .ite (fun _ => ?_) fun _ => h) fun _ => .ite (fun _ => ?_) fun _ => .ite (fun _ => ?_) fun _ =>
    .ite (fun _ => ?_) fun _ => h
  · exact hmismatch.law (State.trSend_law (.refl _ _ _) _ _ _ rfl rfl)
  · exact h.law (State.capState_law (.refl _ _ _) _ rfl rfl)
  · exact h.law (State.capSend_law (.refl _ _ _) _ rfl rfl)
  · exact State.negoEnter_subsides ((hstatus _ _ _ _).law (State.setTrunk_law (.refl _ _ _) _ _ rfl rfl)) p

theorem State.alignLost_subsides (h : Subsides K s0 s) (l : Nat) : Subsides K s0 (s.alignLost l) := by
  have h1 : Subsides K s0 ((((s.count (Reg.LN_CNT l 2)).flag (F.LN_FLAGS.LOCK_LOST l)).setFld (F.LN_STATUS.LOCK l) 0).setRx l TrRx.fresh) :=
    (((h.count _ (.fam 206 rfl rfl (Reg.LN_CNT_has_2 l))).flag (F.LN_FLAGS.LOCK_LOST l) (.lnFlags l)).setFld (F.LN_STATUS.LOCK l) 0
      (.lnStatus l)).law (State.setRx_law (.refl _ _ _) _ _ rfl rfl)
  refine .ite (fun _ => ?_) fun _ => .ite (fun _ => State.trunkDown_subsides h1 _) fun _ => h1
  exact h1.law (State.trainFail_law (.refl _ _ _) _ rfl rfl)

end

end Sys2Proof.Machine
end

section
/-! Lines, and what the host asks of lanes, ports and slices, begin neither a mode nor a scan (O5, O6). -/

namespace Sys2Proof.Machine

section
variable {K : Nat → Prop} {s0 s : State}

/-! ## Lines -/

theorem State.dataMarker_subsides (h : Subsides K s0 s) (l m : Nat) (t : LineStamp) : Subsides K s0 (s.dataMarker l m t) := by
  unfold State.dataMarker
  dsimp only
  generalize hs2 : (if l = s.lanePort l ∧ mkPhv m = true then _ else _) = s2
  have h2 : Subsides K s0 s2 := by
    rw [← hs2]
    have hstamp : Subsides K s0 (if s.fld (F.PH_SQ_CFG.SRC l) = 0 then
        s.stampEvent l (s.portDomain (s.lanePort l)) false (s.rxStamp l t) (s.covered l) (s.chanBad l && !s.covered l) else s) :=
      .ite (fun _ => h.law (State.stampEvent_law (.refl _ _ _) _ _ _ _ _ _ rfl rfl)) fun _ => h
    exact .ite (fun _ => hstamp.law (State.ttMarker_law (.refl _ _ _) _ _ _ rfl rfl)) fun _ => hstamp
  refine .ite (fun _ => State.setOper_subsides (h2.law ?_) _ _) fun _ => h2
  exact State.setTrState_law (State.setTrunk_law (.refl _ _ _) _ _ rfl rfl) _ _ rfl rfl

theorem State.alignedMarker_subsides (h : Subsides K s0 s) (l m : Nat) (t : LineStamp) : Subsides K s0 (s.alignedMarker l m t) := by
  have hrx : ∀ {u} r, Subsides K s0 u → Subsides K s0 (u.setRx l r) := fun r hu => hu.law (State.setRx_law (.refl _ _ _) _ r rfl rfl)
  have hbreak : ∀ {u}, Subsides K s0 u → Subsides K s0 ((u.count (Reg.LN_CNT l 4)).flag (F.LN_FLAGS.MRK_ERR l)) := fun hu =>
    (hu.count _ (.fam 207 rfl rfl (Reg.LN_CNT_has_4 l))).flag _ (.lnFlags l)
  have hbad : Subsides K s0 ((s.count (Reg.LN_CNT l 3)).flag (F.LN_FLAGS.MRK_ERR l)) :=
    (h.count _ (.fam 208 rfl rfl (Reg.LN_CNT_has_3 l))).flag _ (.lnFlags l)
  unfold State.alignedMarker
  dsimp only
  split
  · generalize hs2 : (if (match (s.rx l).seq with | some q => mkSeq m != (q + 1) % 256 | none => false) = true then _ else _) = s2
    have h2 : Subsides K s0 s2 := hs2 ▸ .ite (fun _ => hbreak (hrx _ h)) fun _ => hrx _ h
    exact .ite (fun _ => State.dataMarker_subsides h2 l m t) fun _ => h2
  · exact .ite (fun _ => State.alignLost_subsides hbad l) fun _ => hrx _ hbad

theorem State.marker_subsides (h : Subsides K s0 s) (l m : Nat) (t : LineStamp) : Subsides K s0 (s.marker l m t) := by
  have h1 := h.law (State.setRx_law (.refl _ _ s) l ((s.rx l).note m) rfl rfl)
  exact .ite (fun _ => State.alignedMarker_subsides h1 l m t) fun _ => h1.law (State.seekMarker_law (.refl _ _ _) _ _ rfl rfl)

theorem State.lineIn_subsides (h : Subsides K s0 s) (l : Nat) (line : List Bool) : Subsides K s0 (s.lineIn l line).1 :=
  h.law (State.lineIn_law (.refl _ _ _) _ _ rfl rfl)

theorem State.payIn_subsides (h : Subsides K s0 s) (l : Nat) (bits : List Bool) : Subsides K s0 (s.payIn l bits) :=
  h.law (State.payIn_law (.refl _ _ _) _ _ rfl rfl)

theorem State.markerLine_subsides (h : Subsides K s0 s) (l : Nat) (pre m : List Bool) (t : LineStamp) :
    Subsides K s0 (s.markerLine l pre m t) := by
  have h1 := State.lineIn_subsides h l pre
  exact State.marker_subsides (State.lineIn_subsides (.ite (fun _ => h1) fun _ => State.payIn_subsides h1 _ _) _ _) _ _ _

theorem State.reorderDrain_subsides (h : Subsides K s0 s) (p slots fuel : Nat) : Subsides K s0 (s.reorderDrain p slots fuel) := by
  induction fuel generalizing s with
  | zero => exact h
  | succ fuel ih =>
    unfold State.reorderDrain
    dsimp only
    split
    · exact h
    · exact ih (State.ingress_subsides (h.law (State.setTrunk_law (.refl _ _ _) _ _ rfl rfl)) _ _ _ _)

theorem State.reorder_subsides (h : Subsides K s0 s) (p q : Nat) (bs : List Byte) (stamp : Time16) (slots : Nat) :
    Subsides K s0 (s.reorder p q bs stamp slots) :=
  .ite (fun _ => State.reorderDrain_subsides (h.law (State.setTrunk_law (.refl _ _ _) _ _ rfl rfl)) _ _ _) fun _ => h

theorem State.unit_subsides (h : Subsides K s0 s) (l : Nat) (t : LineStamp) (slots : Nat) : Subsides K s0 (s.unit l t slots) := by
  have hrx : ∀ r, Subsides K s0 (s.setRx l r) := fun r => h.law (State.setRx_law (.refl _ _ _) _ r rfl rfl)
  unfold State.unit
  dsimp only
  split
  · exact h
  · refine .ite (fun _ => h) fun _ => .ite (fun _ => .ite (fun _ => h) fun _ => ?_) fun _ => ?_
    · exact .ite (fun _ => hrx _) fun _ =>
        .ite (fun _ => State.reorder_subsides (hrx _) _ _ _ _ _) fun _ => State.ingress_subsides (hrx _) _ _ _ _
    · exact ((hrx _).count _ (.fam 210 rfl rfl (Reg.LN_CNT_has_6 l))).flag _ (.lnFlags l)

theorem State.unitLine_subsides (h : Subsides K s0 s) (l : Nat) (line : List Bool) (t : LineStamp) (slots : Nat) :
    Subsides K s0 (s.unitLine l line t slots) := by
  have h1 := State.payIn_subsides (State.lineIn_subsides h l line) l (s.lineIn l line).2
  exact .ite (fun _ => State.unit_subsides h1 _ _ _) fun _ => h1

/-! ## Checked accesses -/

/-- The block of an access has its error registers beside DEV_MODE and ST_ENG_RESULT. -/
structure ErrStill (base : Nat) : Prop where
  status : InMask Mask.still (Reg.ERR_STATUS base)
  ofs : InMask Mask.still (Reg.ERR_OFS base)

theorem ErrStill.dev : ErrStill Base.DEV := ⟨.inr ⟨317, _, rfl, rfl, Reg.ERR_STATUS_has_DEV⟩, .inr ⟨318, _, rfl, rfl, Reg.ERR_OFS_has_DEV⟩⟩

theorem Subsides.received (h : Subsides K s0 s) (a : Acc) (he : ErrStill a.base) : Subsides K s0 (s.received a) :=
  h.law (State.received_law (.refl _ _ _) _ he.status he.ofs rfl rfl)

/-- A checked access subsides where its act does. -/
theorem State.guard_subsides (h : Subsides K s0 s) {a : Acc} (he : ErrStill a.base) (checks : List (Bool × Nat)) {act : State → State}
    (hact : ∀ t, Subsides K s0 t → Subsides K s0 (act t)) : Subsides K s0 (s.guard a checks act) := by
  have h1 := h.received a he
  unfold State.guard
  refine .ite (fun _ => h) fun _ => .ite (fun _ => ?_) fun _ => .ite (fun _ => hact _ h1) fun _ => ?_
  · exact h1.law (State.answer_law (.refl _ _ _) _ _ he.status he.ofs rfl rfl)
  · exact h1.law (State.refuse_law (.refl _ _ _) _ _ he.status he.ofs rfl rfl)

theorem State.guard_id_subsides (h : Subsides K s0 s) {a : Acc} (he : ErrStill a.base) (checks : List (Bool × Nat)) :
    Subsides K s0 (s.guard a checks id) := State.guard_subsides h he checks fun _ ht => ht

theorem State.portGuard_subsides (h : Subsides K s0 s) {a : Acc} (he : ErrStill a.base) (p : Nat) (checks : List (Bool × Nat))
    {act : State → State} (hact : ∀ t, Subsides K s0 t → Subsides K s0 (act t)) : Subsides K s0 (s.portGuard a p checks act) :=
  .ite (fun _ => State.guard_subsides h he checks hact) fun _ => State.guard_id_subsides h .dev _

theorem State.hostTrigger_subsides (h : Subsides K s0 s) {a : Acc} (he : ErrStill a.base) (n : Nat) : Subsides K s0 (s.hostTrigger a n) :=
  State.guard_subsides h he _ fun _ ht => State.ringTrigger_subsides ht _ _ _

theorem State.laneCtrl_subsides (h : Subsides K s0 s) {a : Acc} (he : ErrStill a.base) (l : Nat) (reset : Bool) (loop prbs : Nat)
    (rsv : Bool) : Subsides K s0 (s.laneCtrl a l reset loop prbs rsv) := by
  unfold State.laneCtrl
  refine State.guard_subsides h he _ fun t ht => ?_
  have h1 : Subsides K s0 ((t.setFld (F.LN_CTRL.LOOP l) loop).setFld (F.LN_CTRL.PRBS l) prbs) :=
    (ht.setFld _ _ (.lnCtrl l)).setFld _ _ (.lnCtrl l)
  have h2 : Subsides K s0 (if reset then (((t.setFld (F.LN_CTRL.LOOP l) loop).setFld (F.LN_CTRL.PRBS l) prbs).firstAttempt
      (s.lanePort l)).retrain (s.lanePort l) else (t.setFld (F.LN_CTRL.LOOP l) loop).setFld (F.LN_CTRL.PRBS l) prbs) :=
    .ite (fun _ => State.retrain_subsides (State.firstAttempt_subsides h1 _) _) fun _ => h1
  exact .ite (fun _ => State.setOper_subsides h2 _ _) fun _ => .ite (fun _ => State.retrain_subsides h2 _) fun _ => h2

theorem State.portState_subsides (h : Subsides K s0 s) {a : Acc} (he : ErrStill a.base) (p admin : Nat) (reset skip rsv : Bool) :
    Subsides K s0 (s.portState a p admin reset skip rsv) := by
  refine State.portGuard_subsides h he _ _ fun t ht => ?_
  have h1 : Subsides K s0 (t.setFld (F.PRT_STATE.ADMIN p) admin) := ht.setFld _ _ (.prtState p)
  have h2 : Subsides K s0 (if (reset && t.powered (sliceOf p)) = true then (t.setFld (F.PRT_STATE.ADMIN p) admin).portReset p
      else t.setFld (F.PRT_STATE.ADMIN p) admin) := .ite (fun _ => State.portReset_subsides h1 _) fun _ => h1
  exact .ite (fun _ => .ite (fun _ => h2) fun _ => State.portOff_subsides h2 _) fun _ =>
    .ite (fun _ => State.retrain_subsides h2 _) fun _ => h2

/-! ## Slices -/

theorem Apart.devSlcState : Apart Reg.DEV_SLC_STATE := .of_lt (by decide) (by decide)

theorem State.setSlc_subsides (h : Subsides K s0 s) (i st : Nat) : Subsides K s0 (s.setSlc i st) := by
  have h1 : Subsides K s0 (s.setFld (F.slcState i) st) := h.setFld _ _ .devSlcState
  exact .ite (fun _ => State.closeRecov_subsides h1 _) fun _ =>
    .ite (fun _ => (State.scanStale_subsides h1 _ _).law (State.learnHalt_law (.refl _ _ _) _ rfl rfl)) fun _ => h1

theorem State.setSlcStep_subsides (h : Subsides K s0 s) (i k : Nat) : Subsides K s0 (s.setSlcStep i k) := h.dev rfl rfl

theorem State.powerUp_subsides (h : Subsides K s0 s) (i : Nat) : Subsides K s0 (s.powerUp i) :=
  Subsides.dev (h.wr (a := Reg.DEV_SLC_STATE) _ .devSlcState) rfl rfl

theorem State.drainBegin_subsides (h : Subsides K s0 s) (i : Nat) : Subsides K s0 (s.drainBegin i) :=
  (State.setSlcStep_subsides h i 2).law (State.learnHalt_law (.refl _ _ _) _ rfl rfl)

theorem Apart.phChStatus (n : Nat) : Apart (Reg.PH_CH_STATUS n) :=
  .of_lt (by unfold Reg.PH_CH_STATUS; omega) (by unfold Reg.PH_CH_STATUS Reg.DEV_MODE; omega)

theorem State.darkNow_subsides (h : Subsides K s0 s) (i : Nat) : Subsides K s0 (s.darkNow i) := by
  have h1 : Subsides K s0 (((s.setFldBit F.DEV_SLC_STATE.POWERED i false).setSlcStep i 0).setSlc i Slc.DARK) :=
    State.setSlc_subsides (State.setSlcStep_subsides (h.wr (a := Reg.DEV_SLC_STATE) _ .devSlcState) _ _) _ _
  have h2 := Subsides.foldl (s.ports.filter fun p => sliceOf p == i) h1 (f := State.portOff)
    fun _ p ht => State.portOff_subsides ht p
  have h3 := Subsides.foldl (((List.range 48).map (48 * i + ·)) ++ [192 + i]) h2
    (f := fun t n => t.setFld (F.PH_CH_STATUS.LIN n) 0) fun _ n ht => ht.setFld _ _ (.phChStatus n)
  exact Subsides.dev (.ite (fun _ => h3) fun _ => h3.law (State.spareFree_law (.refl _ _ _) _ rfl rfl)) rfl rfl

theorem State.portsTrain_subsides (h : Subsides K s0 s) (i : Nat) : Subsides K s0 (s.portsTrain i) := State.trainAll_subsides h _ fun t p => t.oper p = Oper.DISABLED

theorem State.watchdog_subsides (h : Subsides K s0 s) (n : Nat) : Subsides K s0 (s.watchdog n) :=
  h.law (State.watchdog_law (.refl _ _ _) _ rfl rfl)

theorem State.sliceFault_subsides (h : Subsides K s0 s) (i : Nat) : Subsides K s0 (s.sliceFault i) :=
  .ite (fun _ => State.setSlc_subsides (State.openRecov_subsides (State.coveredFault_subsides h) _) _ _) fun _ => h

end

end Sys2Proof.Machine
end

section
/-! Slices that fill their tables, scans, faults and cycles begin neither a mode nor a scan (O5, O6). -/

namespace Sys2Proof.Machine

section
variable {K : Nat → Prop} {s0 s : State}

/-! ## Filling the tables of a slice -/

theorem Still.porWhere (s : State) {p : Nat → Bool} (hp : ∀ a, p a = true → Apart a) : Still s (s.porWhere p) := by
  have hrd : ∀ a, ¬ Apart a → (s.porWhere p).rd a = s.rd a := fun a ha => by
    rw [State.rd_porWhere, if_neg fun h => ha (hp a h)]
  exact ⟨⟨hrd _ fun ha => ha.1 rfl, rfl, rfl⟩, fun k => State.fld_of_rd _ (hrd _ fun ha => ha.2 k rfl)⟩

/-- The offsets of a slice's space. -/
theorem Apart.slc {a : Nat} (h : 0x1000000 ≤ a) : Apart a := .of_le (by omega)

theorem State.slcRegs_subsides (h : Subsides K s0 s) (i : Nat) (img : List Byte) (b : Nat) : Subsides K s0 (s.slcRegs i img b) := by
  have hpor : Subsides K s0 (s.porWhere fun a => decide (Reg.SLC_FLAT i 1 ≤ a) && decide (a ≤ Reg.SLC_FLAT i 255)) := by
    refine h.comp (Still.porWhere s fun a ha => .slc ?_).subsides
    simp only [Bool.and_eq_true, decide_eq_true_eq] at ha
    unfold Reg.SLC_FLAT at ha
    omega
  have hage : Apart (Reg.SLC_AGE i) := .slc (by unfold Reg.SLC_AGE; omega)
  have hmove : Apart (Reg.SLC_MOVE i) := .slc (by unfold Reg.SLC_MOVE; omega)
  have hlearn : Apart (Reg.SLC_LEARN i) := .slc (by unfold Reg.SLC_LEARN; omega)
  exact (((hpor.setFld _ _ hage).setFld _ _ hmove).setFld _ _ hlearn).setFld _ _ hlearn

theorem State.reapply_subsides (h : Subsides K s0 s) (i : Nat) : Subsides K s0 (s.reapply i).1 :=
  (State.slcRegs_subsides h _ _ _).law (State.carve_law (.refl _ _ _) _ _ _ rfl rfl)

theorem State.refill_subsides (h : Subsides K s0 s) (i st : Nat) : Subsides K s0 (s.refill i st) := by
  have hfill := State.reapply_subsides h i
  unfold State.refill
  split
  · exact State.watchdog_subsides (State.setSlc_subsides h _ _) _
  · split
    all_goals
      next heq =>
        rw [heq] at hfill
        exact State.setSlc_subsides hfill _ _

theorem State.sliceReset_subsides (h : Subsides K s0 s) {a : Acc} (he : ErrStill a.base) (mask key : Nat) (rsv : Bool) :
    Subsides K s0 (s.sliceReset a mask key rsv) := by
  unfold State.sliceReset
  exact State.guard_subsides h he _ fun _ ht =>
    .ite (fun _ => State.watchdog_subsides (State.setSlc_subsides ht _ _) _) fun _ => State.setSlc_subsides ht _ _

theorem State.commitPart_subsides (h : Subsides K s0 s) (i : Nat) : Subsides K s0 (s.commitPart i) := by
  have hserial : ∀ r, r = Reg.IMG_SLC_SERIAL_LO i ∨ r = Reg.IMG_SLC_SERIAL_HI i → Apart r := by
    rintro r (rfl | rfl)
    · exact .of_lt (by unfold Reg.IMG_SLC_SERIAL_LO; omega) (by unfold Reg.IMG_SLC_SERIAL_LO Reg.DEV_MODE; omega)
    · exact .of_lt (by unfold Reg.IMG_SLC_SERIAL_HI; omega) (by unfold Reg.IMG_SLC_SERIAL_HI Reg.DEV_MODE; omega)
  have hregs := State.slcRegs_subsides (h.law (State.commitN_law (.refl _ _ _) i 1 rfl rfl)) i s.img.part 80
  have hheld := hregs.law (State.dropPart_law (State.replaceHeld_law (State.scanTouch_law (.refl _ _ _) 3 0 (heldSlice s.img.held i) (2 ^ 40)
    rfl rfl) i rfl rfl) rfl rfl)
  exact (hheld.wr _ (hserial _ (.inl rfl))).wr _ (hserial _ (.inr rfl))

/-! ## Scans -/

theorem State.mismatch_subsides (h : Subsides K s0 s) {k : Nat} (crc : Nat) (hk : ∀ j, K j → j % 8 = k % 8 → s.scanState k = Scan.SCAN) :
    Subsides K s0 (s.mismatch k crc) := by
  have h1 := (State.scanClose_subsides h 2 hk).flagBit F.ST_IRQ.MISMATCH k (.of_lt (by decide) (by decide))
  unfold State.mismatch
  exact State.offerTrigger_subsides ((h1.spoutEvent Sp.ST_MISMATCH k 0 _).irqEval) _ _ _

theorem State.scanEnd_subsides (h : Subsides K s0 s) {k : Nat} (corrupt : Nat) (hk : ∀ j, K j → j % 8 = k % 8 → s.scanState k = Scan.SCAN) :
    Subsides K s0 (s.scanEnd k corrupt) := by
  have hcrc : InMask Mask.still (Reg.ST_ENG_CRC k) := .inr ⟨256, _, rfl, rfl, Reg.ST_ENG_CRC_has k⟩
  have hexp : InMask Mask.still (Reg.ST_ENG_EXP k) := .inr ⟨257, _, rfl, rfl, Reg.ST_ENG_EXP_has k⟩
  unfold State.scanEnd
  dsimp only
  generalize hs2 : (if (s.scan k).noBuf = true then _ else _) = s2
  have hlaw : Law Mask.still Mask.noDev s s2 := by
    rw [← hs2]
    have h0 : Law Mask.still Mask.noDev s ((s.bufFreeAll Own.STRAINER (s.scan k).cells).setScan k { s.scan k with cells := [] }) :=
      State.setScan_law (State.bufFreeAll_law (.refl _ _ _) _ _ rfl rfl) _ _ rfl rfl
    have h1 : Law Mask.still Mask.noDev s (if (s.scanKnown k || (s.scan k).noBuf) = true then
        (s.bufFreeAll Own.STRAINER (s.scan k).cells).setScan k { s.scan k with cells := [] }
        else ((s.bufFreeAll Own.STRAINER (s.scan k).cells).setScan k { s.scan k with cells := [] }).tookFree) :=
      .ite (fun _ => h0) fun _ => State.tookFree_law h0 rfl rfl
    exact .ite (fun _ => h1) fun _ => State.setFld_law h1 _ _ hcrc
  have hk2 : ∀ u, Law Mask.still Mask.noDev s2 u → ∀ j, K j → j % 8 = k % 8 → u.scanState k = Scan.SCAN := fun u hu j hj hjk =>
    ((hlaw.trans hu).still.scan k).trans (hk j hj hjk)
  have h2 := h.law hlaw
  refine .ite (fun _ => ?_) fun _ => .ite (fun _ => ?_) fun _ => .ite (fun _ => ?_) fun _ => .ite (fun _ => ?_) fun _ =>
    .ite (fun _ => ?_) fun _ => ?_
  · exact State.scanClose_subsides h2 3 (hk2 _ (.refl _ _ _))
  · exact State.scanClose_subsides h2 4 (hk2 _ (.refl _ _ _))
  · exact State.scanClose_subsides h2 6 (hk2 _ (.refl _ _ _))
  · exact State.scanClose_subsides (h2.setFld _ _ hexp.apart) 5 (hk2 _ (State.setFld_law (.refl _ _ _) _ _ hexp))
  · exact State.scanClose_subsides h2 1 (hk2 _ (.refl _ _ _))
  · exact State.mismatch_subsides h2 _ (hk2 _ (.refl _ _ _))

/-- The end of a scan that was stopped leaves its engine in IDLE, whatever it was in. -/
theorem State.scanStopped_subsides (s : State) (k corrupt : Nat) : Subsides (fun _ => True) s (s.scanStopped k corrupt) := by
  have hothers : Subsides (fun j => j % 8 ≠ k % 8) s (s.scanStopped k corrupt) :=
    Subsides.idles (Subsides.putScans (State.scanEnd_subsides (.refl _ _) corrupt fun _ hj hjk => absurd hjk hj) _) k
  refine ⟨hothers.mode, fun j _ => ?_⟩
  by_cases hjk : j % 8 = k % 8
  · refine .inr (.inl ?_)
    unfold State.scanStopped
    rw [State.scanState_setState, if_pos hjk]
    rfl
  · exact hothers.scans j hjk

theorem State.scanStop_subsides (h : Subsides K s0 s) {a : Acc} (he : ErrStill a.base) (k : Nat) (rsv : Bool) :
    Subsides K s0 (s.scanStop a k rsv) := by
  unfold State.scanStop
  refine State.guard_subsides h he _ fun t ht => .ite (fun _ => ht) fun _ => ?_
  have hfree := ht.law (State.bufFreeAll_law (.refl _ _ t) Own.STRAINER (t.scan k).cells rfl rfl)
  exact Subsides.idles (.ite (fun _ => hfree.law (State.setScan_law (.refl _ _ _) _ _ rfl rfl)) fun _ => hfree.putScans _) k

theorem State.aliveExp_subsides (h : Subsides K s0 s) {a : Acc} (he : ErrStill a.base) (k v : Nat) : Subsides K s0 (s.aliveExp a k v) := by
  unfold State.aliveExp
  refine State.guard_subsides h he _ fun t ht => ?_
  refine Subsides.wr (Subsides.dev ht (d := { t.dev with aliveArm := setBit t.dev.aliveArm k true }) rfl rfl) _ ⟨?_, fun j => ?_⟩
  · unfold Reg.ST_ENG_ALIVE_EXP Reg.DEV_MODE
    omega
  · unfold Reg.ST_ENG_ALIVE_EXP Reg.ST_ENG_RESULT
    omega

/-! ## Double-bit errors -/

theorem State.eccNote_subsides (h : Subsides K s0 s) (m w : Nat) : Subsides K s0 (s.eccNote m w) :=
  h.law (State.eccNote_law (.refl _ _ _) _ _ rfl rfl)

theorem Apart.stHealth : Apart Reg.ST_HEALTH := .of_lt (by decide) (by decide)

theorem State.scanHit_subsides (h : Subsides K s0 s) (k w : Nat) : Subsides K s0 (s.scanHit k w) := by
  have h1 : ∀ m, Subsides K s0 ((s.setScan k { s.scan k with ecc := true }).eccNote m w) := fun m =>
    State.eccNote_subsides (h.law (State.setScan_law (.refl _ _ _) _ _ rfl rfl)) m w
  unfold State.scanHit
  exact .ite (fun _ => State.sliceFault_subsides (h1 _) _) fun _ => .ite (fun _ => h1 _) fun _ => .ite (fun _ => h1 _) fun _ =>
    (h1 _).setFld _ _ .stHealth

theorem State.eccDouble_subsides (h : Subsides K s0 s) (hit : EccHit) (w : Nat) : Subsides K s0 (s.eccDouble hit w) := by
  have hnote : ∀ m, Subsides K s0 (s.eccNote m w) := fun m => State.eccNote_subsides h m w
  have hcov : ∀ m, Subsides K s0 (s.eccNote m w).coveredFault := fun m => State.coveredFault_subsides (hnote m)
  unfold State.eccDouble
  cases hit with
  | table i => exact State.sliceFault_subsides (hnote i) i
  | packetFrame p => exact (hcov 4).law (State.dropHead_law (.refl _ _ _) _ rfl rfl)
  | descriptor p => exact (State.openRecov_subsides (hcov 5) 8).law (State.loseDescriptor_law (.refl _ _ _) _ rfl rfl)
  | staging i => exact (hnote 6).law (State.loseStaged_law (.refl _ _ _) _ rfl rfl)
  | spill i p c => exact (hcov 7).law (State.loseSpilled_law (.refl _ _ _) _ _ _ rfl rfl)
  | shadow => exact .ite (fun _ => (hnote 7).setFld _ _ .stHealth) fun _ => hnote 7
  | caddyRecord n q => exact (hcov 8).law (State.mapRecord_law (.refl _ _ _) _ _ _ rfl rfl)
  | caddyHeader n q => exact (hcov 8).law (State.mapRecord_law (.refl _ _ _) _ _ _ rfl rfl)
  | caddyChunk n j => exact (hcov 8).law (State.mapChunks_law (.refl _ _ _) _ _ rfl rfl)
  | scanned k => exact .ite (fun _ => State.scanHit_subsides h k w) fun _ => h
  | quiet m => exact hnote m

/-! ## The AON clock and the cycle -/

theorem State.condEnds_subsides (h : Subsides K s0 s) (b : Nat) : Subsides K s0 (s.condEnds b) := h.dev rfl rfl

theorem State.clkAbsent_subsides (h : Subsides K s0 s) : Subsides K s0 s.clkAbsent := by
  have h1 : Subsides K s0 { s with aon := { s.aon with clkAbsent := true } } := h.parts rfl rfl
  unfold State.clkAbsent
  exact .ite (fun _ => h) fun _ => State.fatalHeld_subsides h1 _

theorem State.aonEdge_subsides (h : Subsides K s0 s) : Subsides K s0 s.aonEdge := .ite (fun _ => h.parts rfl rfl) fun _ => h

theorem State.handTime_subsides (h : Subsides K s0 s) (phi : Nat) : Subsides K s0 (s.handTime phi) := by
  unfold State.handTime
  exact h.tookFree.parts rfl rfl

/-- A cycle without a command begins neither a mode nor a scan. -/
theorem State.tick_subsides (s : State) : Subsides K s s.tick := by
  have h1 : Subsides K s { s with cycle := s.cycle + 1, setNow := SMap.empty } := (Subsides.refl K s).parts rfl rfl
  unfold State.tick
  dsimp only
  generalize hs2 : (if (s.cycle + 1) % aonCycles = 0 then _ else _) = s2
  have h2 : Subsides K s s2 := hs2 ▸ .ite (fun _ => State.aonEdge_subsides h1) fun _ => h1
  refine .ite (fun _ => h2) fun _ => ?_
  have hkettle := h2.law (State.kettleTick_law (.refl _ _ _) rfl rfl)
  have hspout : Subsides K s s2.kettleTick.spoutTick := hkettle.parts rfl rfl
  have hrings := hspout.law (State.txTicks_law (State.ringTicks_law (.refl _ _ _) s2 rfl rfl) rfl rfl)
  exact (hrings.law (State.cycleEvents_law (State.wdTicks_law (.refl _ _ _) rfl rfl) rfl rfl)).irqEval

end

end Sys2Proof.Machine
end

section
/-! Writes of registers by the host, but those of DEV_MODE_REQ, DEV_RESET and ST_ENG_CTRL, begin neither a mode nor a scan (O5, O6). -/

namespace Sys2Proof.Machine

/-! ## Stores -/

/-- A store through card `c` at offset `x` leaves DEV_MODE and the results of the engines: it is another register, or its card has no bit that
a write changes. -/
def CardStill (x : Nat) (c : Card) : Prop := Apart x ∨ (c.rw = 0 ∧ c.w1c = 0)

theorem Apart.not_iff {x : Nat} : ¬ Apart x ↔ x = Reg.DEV_MODE ∨ ∃ k < 8, x = Reg.ST_ENG_RESULT k := by
  have hmod : (∃ k, x = Reg.ST_ENG_RESULT k) ↔ ∃ k < 8, x = Reg.ST_ENG_RESULT k := by
    refine ⟨fun ⟨k, hk⟩ => ⟨k % 8, Nat.mod_lt _ (by decide), hk.trans (Reg.ST_ENG_RESULT_eq_iff.mpr (Nat.mod_mod k 8).symm)⟩, fun ⟨k, _, hk⟩ => ⟨k, hk⟩⟩
  rw [← hmod]
  simp only [Apart, ne_eq, not_and_or, not_forall, not_not]

/-- The cards of the blocks give the host no write of DEV_MODE or of an engine's result. -/
theorem CardStill.of_find {x : Nat} {c : Card} (h : Card.find cards.block x = some c) : CardStill x c := by
  by_cases hx : Apart x
  · exact .inl hx
  · have hmode : ∀ d ∈ Card.find cards.block Reg.DEV_MODE, d.rw = 0 ∧ d.w1c = 0 := by decide +kernel
    have hresult : ∀ k < 8, ∀ d ∈ Card.find cards.block (Reg.ST_ENG_RESULT k), d.rw = 0 ∧ d.w1c = 0 := by decide +kernel
    rcases Apart.not_iff.mp hx with rfl | ⟨k, hk, rfl⟩
    · exact .inr (hmode c h)
    · exact .inr (hresult k hk c h)

theorem State.store_still (s : State) {c : Card} {x : Nat} (hc : CardStill x c) (v : Nat) : Still s (s.store c x v) := by
  rcases hc with hx | ⟨hrw, hw1c⟩
  · exact Still.of_wr s _ hx
  · have hsame : ∀ a, (s.store c x v).rd a = s.rd a := fun a => by
      unfold State.store
      rw [State.rd_wr]
      split
      · subst_vars
        simp [Card.merge, hrw, hw1c]
      · rfl
    exact ⟨⟨hsame _, rfl, rfl⟩, fun k => State.fld_of_rd _ (hsame _)⟩

theorem Still.guard (s : State) {a : Acc} (he : ErrStill a.base) (checks : List (Bool × Nat)) {act : State → State}
    (hact : ∀ t, Still s t → Still s (act t)) : Still s (s.guard a checks act) := by
  have h1 : Law Mask.still Mask.noDev s (s.received a) := State.received_law (.refl _ _ _) _ he.status he.ofs rfl rfl
  unfold State.guard
  dsimp only
  split
  · exact (Law.refl _ _ _).still
  split
  · exact (State.answer_law h1 _ _ he.status he.ofs rfl rfl).still
  split
  · exact hact _ h1.still
  · exact (State.refuse_law h1 _ _ he.status he.ofs rfl rfl).still

/-- A checked store leaves the mode fields and the engines' states. -/
theorem State.plain_still (s : State) {a : Acc} (he : ErrStill a.base) {c : Card} {x : Nat} (hc : CardStill x c) (v : Nat)
    (checks : List (Bool × Nat)) : Still s (s.plain a x v c checks) :=
  Still.guard s he _ fun t ht => ht.comp (t.store_still hc v)

section
variable {K : Nat → Prop} {s0 s : State} {a : Acc} {c : Card} {x : Nat}

theorem State.plain_subsides (h : Subsides K s0 s) (he : ErrStill a.base) (hc : CardStill x c) (v : Nat) (checks : List (Bool × Nat)) :
    Subsides K s0 (s.plain a x v c checks) := h.comp (s.plain_still he hc v checks).subsides

/-- A choice between two changes that subside. -/
theorem Subsides.either {t u : State} {p : Prop} [Decidable p] (h1 : Subsides K s0 t) (h2 : Subsides K s0 u) :
    Subsides K s0 (if p then t else u) := .ite (fun _ => h1) fun _ => h2

theorem State.store_subsides (h : Subsides K s0 s) (hc : CardStill x c) (v : Nat) : Subsides K s0 (s.store c x v) :=
  h.comp (s.store_still hc v).subsides

/-! ## The device block -/

/-- A fatal cause that stands is marked again when the host clears it; at most it leads to CALM. -/
theorem State.fatalClear_subsides (h : Subsides K s0 s) (he : ErrStill a.base) (hc : CardStill Reg.DEV_FATAL c) (v : Nat) :
    Subsides K s0 (s.fatalClear a v c) := by
  unfold State.fatalClear
  exact State.guard_subsides h he _ fun _ ht => .foldl _ (State.store_subsides ht hc v) fun _ _ hu => .either (State.fatal_subsides hu _) hu

theorem State.irqWrite_subsides (h : Subsides K s0 s) (he : ErrStill a.base) (hc : CardStill x c) (v : Nat) :
    Subsides K s0 (s.irqWrite a x v c) := by
  unfold State.irqWrite
  refine State.guard_subsides h he _ fun t ht => ?_
  have h1 := State.store_subsides ht hc v
  exact Subsides.law (.either (h1.law (State.vecUpdate_law (.refl _ _ _) _ rfl rfl)) h1) (State.vecsEval_law (.refl _ _ _) rfl rfl)

theorem State.ringWrite_subsides (h : Subsides K s0 s) (he : ErrStill a.base) (hc : CardStill x c) (v : Nat) :
    Subsides K s0 (s.ringWrite a x v c) := by
  have hp := State.plain_subsides h he hc v
  have htail := h.law (State.htxTail_law (.refl _ _ _) a v he.status he.ofs rfl rfl)
  exact .either (hp _) (.either (hp _) (.either (.either (hp _) htail) (.either (hp _) (hp _))))

theorem State.devWrite_subsides (h : Subsides K s0 s) (he : ErrStill a.base) (hc : CardStill x c) (v : Nat) (hmode : x ≠ Reg.DEV_MODE_REQ)
    (hreset : x ≠ Reg.DEV_RESET) : Subsides K s0 (s.devWrite a x v c) := by
  have hp := State.plain_subsides h he hc v
  unfold State.devWrite
  refine .ite (fun he => absurd he hmode) fun _ => .ite (fun he => absurd he hreset) fun _ => .either (hp _) (.ite (fun hx => ?_) fun _ =>
    .either (State.irqWrite_subsides h he hc v) (.either (.either ?_ (.either (hp _) (hp _))) (.either ?_ (.either (hp _)
      (.either (hp _) (.either (State.ringWrite_subsides h he hc v) (hp _)))))))
  · exact State.fatalClear_subsides h he (hx ▸ hc) v
  · exact h.law (State.mdioCmd_law (.refl _ _ _) _ _ _ he.status he.ofs rfl rfl)
  · exact h.law (State.flashCmd_law (.refl _ _ _) _ _ _ _ he.status he.ofs rfl rfl)

/-! ## The other blocks -/

theorem State.imgWrite_subsides (h : Subsides K s0 s) (he : ErrStill a.base) (hc : CardStill x c) (v : Nat) :
    Subsides K s0 (s.imgWrite a x v c) := by
  have hp := State.plain_subsides h he hc v
  exact .either (h.law (State.imgCmd_law (.refl _ _ _) _ _ _ he.status he.ofs rfl rfl)) (.either (hp _) (.either (hp _) (hp _)))

theorem State.domWrite_subsides (h : Subsides K s0 s) (he : ErrStill a.base) (hc : CardStill x c) (d v : Nat) :
    Subsides K s0 (s.domWrite a x d v c) := by
  have hp := State.plain_subsides h he hc v
  have hslew : ∀ k, Apart (Reg.KT_SLEW k) := fun k => .fam 241 rfl rfl (Reg.KT_SLEW_has k)
  have hfeed : ∀ {cs} (f : State → KtFeed), Subsides K s0 (s.guard a cs fun t => t.setFeed d (f t)) := fun f =>
    State.guard_subsides h he _ fun _ ht => ht.law (State.setFeed_law (.refl _ _ _) _ _ rfl rfl)
  refine .either (hp _) (.either (hp _) (.either ?_ (.either (hp _) (.either (hfeed _) (.either ?_ (.either (hfeed _) (.either ?_
    (.either ?_ (hp _)))))))))
  · exact State.guard_subsides h he _ fun _ ht => (ht.setFld _ _ (hslew _)).setFld _ _ (hslew _)
  · exact h.law (State.incWrite_law (.refl _ _ _) _ _ _ he.status he.ofs rfl rfl)
  · exact h.law (State.hostFeedPush_law (.refl _ _ _) _ _ _ he.status he.ofs rfl rfl)
  · exact h.law (State.ofsCredit_law (.refl _ _ _) _ _ _ he.status he.ofs rfl rfl)

theorem State.ktWrite_subsides (h : Subsides K s0 s) (he : ErrStill a.base) (hc : CardStill x c) (v : Nat) :
    Subsides K s0 (s.ktWrite a x v c) := by
  have hp := State.plain_subsides h he hc v
  have hid : ∀ cs, Subsides K s0 (s.guard a cs id) := State.guard_id_subsides h he
  refine .either (State.domWrite_subsides h he hc _ v) (.either (.either ?_ (hid _)) (.either (.either ?_ (hid _)) (.either (hp _)
    (.either (.either ?_ (hp _)) (.either ?_ (hp _))))))
  · exact h.law (State.fhtHost_law (.refl _ _ _) _ _ he.status he.ofs rfl rfl)
  · exact h.law (State.snap_law (.refl _ _ _) _ he.status he.ofs rfl rfl)
  · exact h.law (State.alarmCfg_law (.refl _ _ _) _ _ _ he.status he.ofs rfl rfl)
  · exact h.law (State.pairCtrl_law (.refl _ _ _) _ _ _ he.status he.ofs rfl rfl)

theorem State.phWrite_subsides (h : Subsides K s0 s) (he : ErrStill a.base) (hc : CardStill x c) (v : Nat) :
    Subsides K s0 (s.phWrite a x v c) := by
  have hp := State.plain_subsides h he hc v
  refine .either ?_ (.either (hp _) (.either ?_ (.either (.either ?_ (.either ?_ (hp _))) (hp _))))
  · exact h.law (State.recal_law (.refl _ _ _) _ _ _ he.status he.ofs rfl rfl)
  · exact h.law (State.fmConfig_law (.refl _ _ _) _ _ _ he.status he.ofs rfl rfl)
  · exact h.law (State.sqConfig_law (.refl _ _ _) _ _ _ he.status he.ofs rfl rfl)
  · exact h.law (State.sqCredit_law (.refl _ _ _) _ _ _ _ _ he.status he.ofs rfl rfl)

theorem State.plsReg_subsides (h : Subsides K s0 s) (he : ErrStill a.base) (hc : CardStill x c) (hx : Apart x) (n v : Nat) :
    Subsides K s0 (s.plsReg a x n v c) := by
  have hw : ∀ live bad, Subsides K s0 (s.plsWrite a n x v live bad) := fun _ _ => State.guard_subsides h he _ fun _ ht => ht.wr _ hx
  refine .either (hw _ _) (.either (hw _ _) (.either (hw _ _) (.either ?_ (.either (hw _ _) (State.plain_subsides h he hc v _)))))
  exact h.law (State.plsCtrl_law (.refl _ _ _) _ _ _ he.status he.ofs rfl rfl)

theorem State.pinWrite_subsides (h : Subsides K s0 s) (he : ErrStill a.base) (hc : CardStill x c) (hx : Apart x) (v : Nat) :
    Subsides K s0 (s.pinWrite a x v c) := by
  have hp := State.plain_subsides h he hc v
  refine .either ?_ (.either (State.plsReg_subsides h he hc hx _ v) (.either (.either ?_ (.either ?_ (hp _))) (hp _)))
  · exact h.law (State.evtConfig_law (.refl _ _ _) _ _ _ he.status he.ofs rfl rfl)
  · exact h.law (State.clkFreq_law (.refl _ _ _) _ _ _ he.status he.ofs rfl rfl)
  · exact h.law (State.clkEnable_law (.refl _ _ _) _ _ _ he.status he.ofs rfl rfl)

theorem State.spWrite_subsides (h : Subsides K s0 s) (he : ErrStill a.base) (hc : CardStill x c) (v : Nat) :
    Subsides K s0 (s.spWrite a x v c) :=
  .either (h.law (State.spCredit_law (.refl _ _ _) _ _ _ _ _ he.status he.ofs rfl rfl)) (State.plain_subsides h he hc v _)

theorem State.stWrite_subsides (h : Subsides K s0 s) (he : ErrStill a.base) (hc : CardStill x c) (v : Nat)
    (hctrl : 0x701000 ≤ x → x % 0x40 ≠ 0x18) : Subsides K s0 (s.stWrite a x v c) := by
  have hp := State.plain_subsides h he hc v
  unfold State.stWrite
  refine .ite (fun hx => ?_) fun _ => hp _
  exact .either (hp _) (.either (hp _) (.ite (fun hr => absurd hr (hctrl hx)) fun _ => .either (State.aliveExp_subsides h he _ _) (hp _)))

theorem State.bpmWrite_subsides (h : Subsides K s0 s) (he : ErrStill a.base) (hc : CardStill x c) (v : Nat) :
    Subsides K s0 (s.bpmWrite a x v c) := by
  refine .either (.either ?_ (State.guard_id_subsides h he _)) (.either ?_ (State.plain_subsides h he hc v _))
  · exact h.law (State.lowClear_law (.refl _ _ _) _ _ he.status he.ofs rfl rfl)
  · exact h.law (State.hostFree_law (.refl _ _ _) _ _ he.status he.ofs rfl rfl)

theorem State.fabWrite_subsides (h : Subsides K s0 s) (he : ErrStill a.base) (hc : CardStill x c) (hx : Apart x) (v : Nat) :
    Subsides K s0 (s.fabWrite a x v c) := by
  have hp := State.plain_subsides h he hc v
  refine .either (hp _) (.either ?_ (.either ?_ (.either (hp _) (.either ?_ (hp _)))))
  · exact State.guard_subsides h he _ fun _ ht => (ht.wr _ hx).law (State.voqShow_law (.refl _ _ _) rfl rfl)
  · exact State.guard_subsides h he _ fun _ ht => (ht.wr _ hx).law (State.frerShow_law (.refl _ _ _) rfl rfl)
  · exact h.law (State.frerCmd_law (.refl _ _ _) _ _ _ he.status he.ofs rfl rfl)

theorem State.ringCtrl_subsides (h : Subsides K s0 s) (he : ErrStill a.base) (n v : Nat) : Subsides K s0 (s.ringCtrl a n v) :=
  have hid : ∀ cs, Subsides K s0 (s.guard a cs id) := State.guard_id_subsides h he
  .either (hid _) (.either (State.hostTrigger_subsides h he n)
    (.either (h.law (State.release_law (.refl _ _ _) _ _ he.status he.ofs rfl rfl)) (hid _)))

theorem State.cdRing_subsides (h : Subsides K s0 s) (he : ErrStill a.base) (hc : CardStill x c) (n v : Nat) :
    Subsides K s0 (s.cdRing a x n v c) := by
  have hp := State.plain_subsides h he hc v
  exact .either (hp _) (.either (hp _) (.either (hp _) (.either (hp _) (.either (State.ringCtrl_subsides h he n v) (hp _)))))

theorem State.cdWrite_subsides (h : Subsides K s0 s) (he : ErrStill a.base) (hc : CardStill x c) (v : Nat) :
    Subsides K s0 (s.cdWrite a x v c) := by
  have hp := State.plain_subsides h he hc v
  refine .either (.either (hp _) (.either (hp _) (.either (hp _) (.either ?_ (.either (hp _) (hp _)))))) (.either
    (State.cdRing_subsides h he hc _ v) (.either (hp _) (.either ?_ (.either (hp _) (hp _)))))
  · exact h.law (State.replayCtrl_law (.refl _ _ _) _ _ _ _ _ he.status he.ofs rfl rfl)
  · exact h.law (State.readoutCmd_law (.refl _ _ _) _ _ he.status he.ofs rfl rfl)

theorem State.pfWrite_subsides (h : Subsides K s0 s) (he : ErrStill a.base) (hc : CardStill x c) (v : Nat) :
    Subsides K s0 (s.pfWrite a x v c) := by
  have hp := State.plain_subsides h he hc v
  refine .either ?_ (.either (hp _) (.either (hp _) (.either (hp _) (.either (hp _) (.either ?_ (hp _))))))
  · exact h.law (State.pfSelect_law (.refl _ _ _) _ _ _ he.status he.ofs rfl rfl)
  · exact h.law (State.dumpCtrl_law (.refl _ _ _) _ _ he.status he.ofs rfl rfl)

/-- The registers of the blocks whose writes may set a mode or begin a scan. -/
def Commands (x : Nat) : Prop := x = Reg.DEV_MODE_REQ ∨ x = Reg.DEV_RESET ∨ (0x701000 ≤ x ∧ x < 0x800000 ∧ x % 0x40 = 0x18)

theorem State.blockWrite_subsides (h : Subsides K s0 s) (he : ErrStill a.base) (hc : CardStill x c) (v : Nat) (hx : ¬ Commands x) :
    Subsides K s0 (s.blockWrite a x v c) := by
  have hhigh : 0x800000 ≤ x → Apart x := fun hle => .of_le (by omega)
  have hlow : 0x500000 ≤ x → x < 0x600000 → Apart x := fun hle hlt => .of_lt (by omega) (by unfold Reg.DEV_MODE; omega)
  unfold Commands at hx
  unfold State.blockWrite
  dsimp only
  refine .ite (fun _ => ?_) fun _ => .either ?_ (.either ?_ (.either ?_ (.ite (fun _ => ?_) fun _ => .either ?_ (.ite (fun _ => ?_) fun _ => .either ?_
    (.ite (fun _ => ?_) fun _ => .either ?_ (.either ?_ ?_))))))
  · exact State.devWrite_subsides h he hc v (by tauto) (by tauto)
  · exact State.imgWrite_subsides h he hc v
  · exact State.ktWrite_subsides h he hc v
  · exact State.phWrite_subsides h he hc v
  · exact State.pinWrite_subsides h he hc (hlow (by omega) (by omega)) v
  · exact State.spWrite_subsides h he hc v
  · exact State.stWrite_subsides h he hc v fun hle hr => hx (.inr (.inr ⟨hle, by omega, hr⟩))
  · exact State.bpmWrite_subsides h he hc v
  · exact State.fabWrite_subsides h he hc (hhigh (by omega)) v
  · exact State.cdWrite_subsides h he hc v
  · exact State.pfWrite_subsides h he hc v
  · exact State.plain_subsides h he hc v _

end

end Sys2Proof.Machine
end

section
/-! A host write beside DEV_MODE_REQ, DEV_RESET and ST_ENG_CTRL begins neither a mode nor a scan (O5, O6). -/

namespace Sys2Proof.Machine

/-! ## The error registers of the blocks and units -/

theorem ErrStill.block {k : Nat} (hk : k < 12) : ErrStill (k * 0x100000) := by
  have hbit : ∀ k < 12, Mask.still.testBit (317 + 2 * k) = true ∧ Mask.still.testBit (318 + 2 * k) = true := by decide
  have hfam : ∀ k < 12, families[317 + 2 * k]? = some ⟨k * 0x100000 + 0xf0, 0, 1, 0, 1⟩ ∧
      families[318 + 2 * k]? = some ⟨k * 0x100000 + 0xf4, 0, 1, 0, 1⟩ := by decide +kernel
  obtain ⟨hb, hb'⟩ := hbit k hk
  obtain ⟨hf, hf'⟩ := hfam k hk
  exact ⟨.inr ⟨_, _, hb, hf, RegSet.has_of 0 0 (by omega) (by omega) rfl⟩, .inr ⟨_, _, hb', hf', RegSet.has_of 0 0 (by omega) (by omega) rfl⟩⟩

theorem ErrStill.space (sp i : Nat) : ErrStill (spaceBase sp i) := by
  unfold spaceBase
  split
  · exact ⟨.inr ⟨341, _, rfl, rfl, Reg.ERR_STATUS_has_SLC i⟩, .inr ⟨342, _, rfl, rfl, Reg.ERR_OFS_has_SLC i⟩⟩
  split
  · exact ⟨.inr ⟨343, _, rfl, rfl, Reg.ERR_STATUS_has_PRT i⟩, .inr ⟨344, _, rfl, rfl, Reg.ERR_OFS_has_PRT i⟩⟩
  split
  · exact ⟨.inr ⟨345, _, rfl, rfl, Reg.ERR_STATUS_has_LN i⟩, .inr ⟨346, _, rfl, rfl, Reg.ERR_OFS_has_LN i⟩⟩
  · exact ⟨.inr ⟨347, _, rfl, rfl, Reg.ERR_STATUS_has_TW i⟩, .inr ⟨348, _, rfl, rfl, Reg.ERR_OFS_has_TW i⟩⟩

/-- The registers of slices, ports, lanes and windows lie above the blocks. -/
theorem Apart.space (sp i o : Nat) : Apart (spaceBase sp i + o) := by
  refine .of_le ?_
  unfold spaceBase Base.SLC Base.PRT Base.LN Base.TW
  split_ifs <;> omega

theorem Apart.slcFence (i : Nat) : Apart (Reg.SLC_FENCE i) := .of_le (by unfold Reg.SLC_FENCE; omega)

section
variable {K : Nat → Prop} {s0 s : State} {a : Acc} {c : Card}

/-! ## Slices, ports, lanes and windows -/

theorem State.slcWrite_subsides (h : Subsides K s0 s) (he : ErrStill a.base) (i o v : Nat) : Subsides K s0 (s.slcWrite a i o v c) := by
  have hp := State.plain_subsides (c := c) h he (.inl (Apart.space 0 i o)) v
  refine .either (hp _) (.either (hp _) (.either (.either ?_ ?_) (.either (hp _) (hp _))))
  · exact h.law (State.fenceSet_law (.refl _ _ _) _ _ _ _ he.status he.ofs rfl rfl)
  · exact State.guard_subsides h he _ fun _ ht => ht.setFld _ _ (.slcFence i)

theorem State.ttIdWrite_subsides (h : Subsides K s0 s) (he : ErrStill a.base) (p : Nat) {x : Nat} (hx : Apart x) (v : Nat)
    (bad : List (Bool × Nat)) : Subsides K s0 (s.ttIdWrite a p x v bad) :=
  State.portGuard_subsides h he _ _ fun _ ht => (ht.wr _ hx).setFld _ _ (.fam 55 rfl rfl (Reg.PRT_TT_STATUS_has p))

theorem State.ttCalWrite_subsides (h : Subsides K s0 s) (he : ErrStill a.base) (p : Nat) {x : Nat} (hx : Apart x) (v : Nat) (trim : Bool) :
    Subsides K s0 (s.ttCalWrite a p x v trim) :=
  State.portGuard_subsides h he _ _ fun _ ht => .either ((ht.wr _ hx).law (State.ttClearHist_law (.refl _ _ _) _ rfl rfl)) (ht.wr _ hx)

theorem State.prtWrite_subsides (h : Subsides K s0 s) (he : ErrStill a.base) (p o v : Nat) : Subsides K s0 (s.prtWrite a p o v c) := by
  have hx : Apart (Base.PRT p + o) := Apart.space 1 p o
  have hp := State.plain_subsides (c := c) h he (.inl hx) v
  have hid := fun bad => State.ttIdWrite_subsides h he p hx v bad
  have hcal := fun trim => State.ttCalWrite_subsides h he p hx v trim
  refine .either (State.portState_subsides h he _ _ _ _ _) (.either (hp _) (.either (hp _) (.either (hp _) (.either ?_ (.either ?_ (.either (hp _)
    (.either (hp _) (.either (hp _) (.either (hp _) (.either (hp _) (.either ?_ (.either (hid _) (.either (hid _) (.either (hcal _)
      (.either (hcal _) (hp _))))))))))))))))
  · exact h.law (State.cbsWrite_law (.refl _ _ _) _ _ _ _ he.status he.ofs rfl rfl)
  · exact h.law (State.gclCtrl_law (.refl _ _ _) _ _ _ _ _ _ he.status he.ofs rfl rfl)
  · exact h.law (State.ttCfgWrite_law (.refl _ _ _) _ _ _ he.status he.ofs rfl rfl)

theorem State.lnWrite_subsides (h : Subsides K s0 s) (he : ErrStill a.base) (l o v : Nat) : Subsides K s0 (s.lnWrite a l o v c) := by
  refine .either (State.laneCtrl_subsides h he _ _ _ _ _) (.either ?_ (State.plain_subsides h he (.inl (Apart.space 2 l o)) v _))
  exact h.law (State.trunkCtrl_law (.refl _ _ _) _ _ _ _ _ he.status he.ofs rfl rfl)

theorem State.twWrite_subsides (h : Subsides K s0 s) (he : ErrStill a.base) (w o v : Nat) : Subsides K s0 (s.twWrite a w o v c) :=
  .either (h.law (State.twCmd_law (.refl _ _ _) _ _ _ _ _ he.status he.ofs rfl rfl)) (State.plain_subsides h he (.inl (Apart.space 3 w o)) v _)

/-! ## The decoded write -/

theorem State.cardWrite_subsides (h : Subsides K s0 s) (he : ErrStill a.base) (sp i o v : Nat) (wide : Bool)
    (hblock : sp = 4 → CardStill o c ∧ ¬ Commands o) : Subsides K s0 (s.cardWrite a sp i o v wide c) := by
  have he1 : ErrStill { a with rsv := c.rsvHit o v wide }.base := he
  unfold State.cardWrite
  dsimp only
  generalize { a with rsv := c.rsvHit o v wide } = a1 at he1
  refine .either ?_ (.either (State.guard_id_subsides h he1 _) (.ite (fun hsp => ?_) fun _ => .either (State.slcWrite_subsides h he1 _ _ _)
    (.either (State.prtWrite_subsides h he1 _ _ _) (.either (State.lnWrite_subsides h he1 _ _ _) (State.twWrite_subsides h he1 _ _ _)))))
  · exact h.law (State.errClear_law (.refl _ _ _) _ _ he1.status he1.ofs rfl rfl)
  · obtain ⟨hc, hx⟩ := hblock hsp
    simp only [hsp, if_true]
    exact State.blockWrite_subsides h he1 hc v hx

theorem State.unitWrite_subsides (h : Subsides K s0 s) (he : ErrStill a.base) (sp i o v : Nat) (wide : Bool)
    (hblock : sp = 4 → ¬ Commands o) : Subsides K s0 (s.unitWrite a sp i o v wide) := by
  unfold State.unitWrite
  split
  next c hfind =>
    refine State.cardWrite_subsides h he _ _ _ _ _ fun hsp => ⟨CardStill.of_find ?_, hblock hsp⟩
    simpa only [hsp, if_true] using hfind
  next => exact State.guard_id_subsides h he _

/-- A broadcast write reaches the members of its space. -/
theorem State.writeAlias_subsides (h : Subsides K s0 s) (he : ErrStill a.base) {sp : Nat} (hsp : sp ≠ 4) (o v : Nat) (group : Option Nat)
    (wide : Bool) : Subsides K s0 (s.writeAlias a sp o v group wide) := by
  have h1 := h.received a he
  exact .either h (.either (State.guard_id_subsides h1 .dev _) (.foldl _ h1 fun _ i ht =>
    State.unitWrite_subsides ht (.space sp i) _ _ _ _ _ fun he => absurd he hsp))

/-- What a decoded place names: a block, a unit of one of the four spaces or its members, or a gap of a block or unit. -/
def Place.Known : Place → Prop
  | .block k => k < 12
  | .unit sp _ _ => sp < 4
  | .aliased sp _ _ => sp < 4
  | .gap b => ErrStill b

theorem placeOf_known (x : Nat) : (placeOf x).Known := by
  have hunit : ∀ {sp i o}, sp < 4 → (Place.unit sp i o).Known := id
  have halias : ∀ {sp o g}, sp < 4 → (Place.aliased sp o g).Known := id
  have hgap : ∀ {b}, ErrStill b → (Place.gap b).Known := id
  unfold placeOf
  split
  case isTrue hlt => exact (show x / 0x100000 < 12 by omega)
  split
  · exact hgap .dev
  split
  · dsimp only
    split
    · exact hgap .dev
    split
    · exact hunit (by decide)
    split
    · exact halias (by decide)
    · exact hgap (.space 0 _)
  split
  · dsimp only
    split
    · exact hunit (by decide)
    split
    · exact halias (by decide)
    split
    · exact halias (by decide)
    · exact hgap .dev
  split
  · dsimp only
    split
    · exact hunit (by decide)
    split
    · exact halias (by decide)
    split
    · exact halias (by decide)
    · exact hgap .dev
  split
  · dsimp only
    split
    · exact hunit (by decide)
    split
    · exact halias (by decide)
    · exact hgap .dev
  · exact hgap .dev

theorem State.write0_subsides (h : Subsides K s0 s) (x v : Nat) (wide bad : Bool) (hx : ¬ Commands x) : Subsides K s0 (s.write0 x v wide bad) := by
  have hplace := placeOf_known x
  unfold State.write0
  dsimp only
  split
  next k hk =>
    rw [hk] at hplace
    refine .either ?_ (.either (State.guard_id_subsides h .dev _) (State.unitWrite_subsides h (.block hplace) _ _ _ _ _ fun _ => hx))
    exact h.law (State.msixWrite_law (.refl _ _ _) _ _ _ _ ErrStill.dev.status ErrStill.dev.ofs rfl rfl)
  next sp i o hk =>
    rw [hk] at hplace
    have hsp : sp ≠ 4 := Nat.ne_of_lt hplace
    exact .either (State.guard_id_subsides h .dev _) (State.unitWrite_subsides h (.space _ _) _ _ _ _ _ fun he => absurd he hsp)
  next sp o g hk =>
    rw [hk] at hplace
    exact State.writeAlias_subsides h .dev (Nat.ne_of_lt hplace) _ _ _ _
  next b hk =>
    rw [hk] at hplace
    have hb : ErrStill b := hplace
    exact State.guard_id_subsides h hb _

theorem State.write2_subsides (h : Subsides K s0 s) (o v : Nat) (bad : Bool) : Subsides K s0 (s.write2 o v bad) := by
  have hph : ErrStill Base.PH := .block (k := 4) (by decide)
  have hpf : ErrStill Base.PF := .block (k := 11) (by decide)
  refine .either (State.guard_id_subsides h hpf _) (.either (State.guard_id_subsides h hph _) (.either ?_ (State.guard_id_subsides h .dev _)))
  exact h.law (State.sqCredit_law (.refl _ _ _) _ _ _ _ _ hph.status hph.ofs rfl rfl)

theorem State.writeAt_subsides (h : Subsides K s0 s) (bar2 : Bool) (x v : Nat) (wide bad : Bool) (hx : bar2 = true ∨ ¬ Commands x) :
    Subsides K s0 (s.writeAt bar2 x v wide bad) :=
  .ite (fun _ => State.write2_subsides h _ _ _) fun hb => State.write0_subsides h _ _ _ _ (hx.resolve_left hb)

end

end Sys2Proof.Machine
end

section
/-! What the commands that set a mode do to the mode fields (O5). -/

namespace Sys2Proof.Machine

/-! ## Moves -/

/-- The engines' states change only as Table 13.3 states: to IDLE, from IDLE to SCAN, or from SCAN to WAIT. -/
def ScansMove (s t : State) : Prop :=
  ∀ k, t.scanState k = s.scanState k ∨ t.scanState k = Scan.IDLE ∨ (s.scanState k = Scan.IDLE ∧ t.scanState k = Scan.SCAN) ∨
    (s.scanState k = Scan.SCAN ∧ t.scanState k = Scan.WAIT)

/-- From sound mode fields the mode changes only as Table 02.2 states, and the mode fields are sound again. -/
def ModeMoves (s t : State) : Prop := s.modeSound → ModeNext s.mode t.mode ∧ t.modeSound

/-- What a step does to the mode and to the engines. -/
structure Moves (s t : State) : Prop where
  mode : ModeMoves s t
  scans : ScansMove s t

section
variable {s t u : State}

/-- Without a LULL entry, the fields are sound where STEEP has its target and PROBE is no transition. -/
theorem State.modeSound_of_awake (hl : t.dev.lullStep = 0) (hprobe : t.mode = Mode.PROBE → t.trans = false)
    (hsteep : t.mode = Mode.STEEP → t.fld F.DEV_MODE.STEEP_TARGET = Mode.BREEZE ∨ t.fld F.DEV_MODE.STEEP_TARGET = Mode.GALE) :
    t.modeSound := ⟨hsteep, hprobe, fun hn => absurd hl hn⟩

/-- A LULL entry that runs is a transition to LULL. -/
theorem State.modeSound.lullStep_of_trans (h : s.modeSound) (ht : s.trans = false) : s.dev.lullStep = 0 := by
  obtain ⟨-, -, hlull⟩ := h
  by_contra hn
  obtain ⟨-, -, htrans, -⟩ := hlull hn
  simp [ht] at htrans

theorem State.modeSound.lullStep_of_mode (h : s.modeSound) (hm : ¬ (s.mode = Mode.BREEZE ∨ s.mode = Mode.GALE ∨ s.mode = Mode.CALM)) :
    s.dev.lullStep = 0 := by
  obtain ⟨-, -, hlull⟩ := h
  by_contra hn
  obtain ⟨hmode, -⟩ := hlull hn
  exact hm hmode

theorem State.calms.mode_cases (h : s.calms) : s.mode = Mode.STEEP ∨ s.mode = Mode.BREEZE ∨ s.mode = Mode.GALE ∨ s.mode = Mode.CALM := by
  obtain ⟨-, hw | ⟨hc, -⟩⟩ := h
  · rcases hw with h | h | h <;> simp [h]
  · simp [hc]

theorem ModeSubsides.still (h : ModeSubsides s t) (hn : ¬ s.calms) : ModeStill s t := h.resolve_right fun hc => hn hc.1

theorem ModeSubsides.moves (h : ModeSubsides s t) : ModeMoves s t := by
  intro hs
  rcases h with h | ⟨hcalms, hmode, -, hlull⟩
  · exact ⟨.inl h.cur, h.modeSound hs⟩
  · refine ⟨?_, State.modeSound_of_awake hlull ?_ ?_⟩
    · rw [hmode]
      rcases hcalms.mode_cases with h | h | h | h <;> rw [h] <;> simp [ModeNext]
    · rw [hmode]
      exact fun he => absurd he (by decide)
    · rw [hmode]
      exact fun he => absurd he (by decide)

theorem ScansSubside.moves (h : ScansSubside (fun _ => True) s t) : ScansMove s t := fun k => by
  rcases h k trivial with h | h | h <;> tauto

theorem Subsides.moves (h : Subsides (fun _ => True) s t) : Moves s t := ⟨h.mode.moves, h.scans.moves⟩

theorem ModeStill.moves_comp (h1 : ModeStill s t) (h2 : ModeMoves t u) : ModeMoves s u := fun hs => by
  rw [← h1.cur]
  exact h2 (h1.modeSound hs)

theorem ModeMoves.comp_still (h1 : ModeMoves s t) (h2 : ModeStill t u) : ModeMoves s u := fun hs => by
  rw [h2.cur]
  exact ⟨(h1 hs).1, h2.modeSound (h1 hs).2⟩

theorem Still.moves_comp (h1 : Still s t) (h2 : Moves t u) : Moves s u :=
  ⟨h1.toModeStill.moves_comp h2.mode, fun k => by simpa only [h1.scan] using h2.scans k⟩

theorem Moves.comp_still (h1 : Moves s t) (h2 : Still t u) : Moves s u :=
  ⟨h1.mode.comp_still h2.toModeStill, fun k => by simpa only [h2.scan] using h1.scans k⟩

theorem Still.moves (h : Still s t) : Moves s t := h.subsides.moves

theorem Moves.ite {c : Prop} [Decidable c] (h1 : c → Moves s t) (h2 : ¬ c → Moves s u) : Moves s (if c then t else u) := by
  split <;> simp_all

end

/-! ## Setting a mode -/

theorem State.showMode_dev (s : State) (m : Nat) : (s.showMode m).dev = s.dev := rfl

theorem State.showMode_steepTarget (s : State) (m : Nat) : (s.showMode m).fld F.DEV_MODE.STEEP_TARGET = s.fld F.DEV_MODE.STEEP_TARGET := by
  unfold State.showMode
  rw [State.fld_setFld_bits _ F.DEV_MODE.TRANS F.DEV_MODE.STEEP_TARGET _ (by decide) (by decide) (by decide) rfl (by decide),
    State.fld_setFld_bits _ F.DEV_MODE.TARGET F.DEV_MODE.STEEP_TARGET _ (by decide) (by decide) (by decide) rfl (by decide),
    State.fld_setFld_bits _ F.DEV_MODE.CUR F.DEV_MODE.STEEP_TARGET _ (by decide) (by decide) (by decide) rfl (by decide)]

/-- After the fields have shown the mode, the pins and the Spout event follow. -/
theorem State.setMode_still (s : State) (m arg : Nat) : Still (s.showMode m) (s.setMode m arg) :=
  (State.spoutEvent_law (State.pinsMoved_law (Law.refl Mask.still Mask.noDev _) s rfl rfl) _ _ _ _ rfl rfl).still

/-- Mode `m` is shown, with no transition; the target of STEEP and the steps of a LULL entry are those of `s`. -/
structure ModeSet (m : Nat) (s t : State) : Prop where
  cur : t.mode = m
  trans : t.trans = false
  steepTarget : t.fld F.DEV_MODE.STEEP_TARGET = s.fld F.DEV_MODE.STEEP_TARGET
  lullStep : t.dev.lullStep = s.dev.lullStep

theorem State.setMode_set (s : State) {m : Nat} (hm : m < 8) (arg : Nat) : ModeSet m s (s.setMode m arg) := by
  have h := s.setMode_still m arg
  obtain ⟨hcur, -, htrans⟩ := s.showMode_shows hm
  exact ⟨h.cur.trans hcur, h.trans.trans (by simp [State.trans, htrans]), h.steepTarget.trans (s.showMode_steepTarget m), h.lullStep⟩

theorem ModeSet.comp_still {m : Nat} {s t u : State} (h : ModeSet m s t) (hu : ModeStill t u) : ModeSet m s u :=
  ⟨hu.cur.trans h.cur, hu.trans.trans h.trans, hu.steepTarget.trans h.steepTarget, hu.lullStep.trans h.lullStep⟩

theorem ModeSet.modeSound {m : Nat} {s t : State} (h : ModeSet m s t) (hl : s.dev.lullStep = 0)
    (hsteep : m = Mode.STEEP → s.fld F.DEV_MODE.STEEP_TARGET = Mode.BREEZE ∨ s.fld F.DEV_MODE.STEEP_TARGET = Mode.GALE) : t.modeSound := by
  refine State.modeSound_of_awake (h.lullStep.trans hl) (fun _ => h.trans) fun hm => ?_
  rw [h.steepTarget]
  exact hsteep (h.cur.symm.trans hm)

theorem State.setMode_scanState (s : State) (m arg k : Nat) : (s.setMode m arg).scanState k = s.scanState k :=
  (State.setMode_law (Law.refl 0x800000e 0x10000c s) m arg rfl rfl).scanState (by decide) (by decide) k

theorem ScansSubside.setMode {K : Nat → Prop} {s0 s : State} (h : ScansSubside K s0 s) (m arg : Nat) : ScansSubside K s0 (s.setMode m arg) :=
  h.comp fun k _ => .inl (s.setMode_scanState m arg k)

/-! ## The end of a transition -/

theorem State.ringsStart_still (s : State) : Still s s.ringsStart := (State.ringsStart_law (Law.refl _ _ _) rfl rfl).still

theorem State.settle_scans {K : Nat → Prop} {s0 s : State} (h : ScansSubside K s0 s) : ScansSubside K s0 s.settle := by
  unfold State.settle
  dsimp only
  split
  · exact (h.setMode _ _).comp fun k _ => .inl ((State.ringsStart_still _).scan k)
  · exact h

/-- A transition to BREEZE or GALE that ends. -/
theorem State.settle_mode {s0 s : State} (h : ModeSubsides s0 s) : ModeMoves s0 s.settle := by
  intro hs0
  have hstay := h.moves hs0
  unfold State.settle
  dsimp only
  split
  case isFalse => exact hstay
  case isTrue hc =>
    simp only [Bool.and_eq_true, Bool.or_eq_true, decide_eq_true_eq, beq_iff_eq] at hc
    obtain ⟨⟨⟨htrans, hlate⟩, htarget⟩, -⟩ := hc
    have hstill : ModeStill s0 s := h.resolve_right fun ⟨_, _, hno, _⟩ => by simp [hno] at htrans
    obtain ⟨-, hprobe, hlull⟩ := hstay.2
    have hl : s.dev.lullStep = 0 := by
      by_contra hn
      obtain ⟨-, -, -, hto⟩ := hlull hn
      rw [hto] at htarget
      exact absurd htarget (by decide)
    have hm : s.fld F.DEV_MODE.TARGET < 8 := by rcases htarget with h | h <;> rw [h] <;> decide
    have hset := (s.setMode_set hm 0).comp_still (State.ringsStart_still _).toModeStill
    refine ⟨?_, hset.modeSound hl fun he => ?_⟩
    · have hmode : s0.mode = Mode.BREEZE ∨ s0.mode = Mode.GALE ∨ s0.mode = Mode.CALM := by
        have hlt : s.mode < 8 := bitsOf_lt _ 2 0
        have hnp : s.mode ≠ Mode.PROBE := fun he => by simp [hprobe he] at htrans
        rw [← hstill.cur]
        unfold Mode.STEEP Mode.PROBE at *
        unfold Mode.BREEZE Mode.GALE Mode.CALM
        omega
      rw [hset.cur]
      rcases hmode with h | h | h <;> rcases htarget with ht | ht <;> rw [h, ht] <;> simp [ModeNext]
    · rw [he] at htarget
      exact absurd htarget (by decide)

theorem State.settle_moves {s0 s : State} (h : Subsides (fun _ => True) s0 s) : Moves s0 s.settle :=
  ⟨State.settle_mode h.mode, (State.settle_scans h.scans).moves⟩

end Sys2Proof.Machine
end

section
/-! Mode requests (O5): what a request changes where no rule refuses it. -/

namespace Sys2Proof.Machine

/-! ## Requests that no rule refuses -/

theorem pickCode_zero_of_mem {l : List (Bool × Nat)} (h : pickCode l = 0) {k : Bool × Nat} (hk : k ∈ l) (hcode : k.2 ∈ Err.order) :
    k.1 = false := by
  by_contra htrue
  have hzero : (0 : Nat) ∉ Err.order := by decide
  have hbroke : broke l k.2 = true := List.any_eq_true.mpr ⟨k, hk, by simpa using htrue⟩
  unfold pickCode at h
  cases hf : Err.order.find? (broke l) with
  | none => exact List.find?_eq_none.mp hf _ hcode hbroke
  | some c =>
    rw [hf] at h
    obtain rfl : c = 0 := h
    exact hzero (List.mem_of_find?_eq_some hf)

/-- A guarded access moves as its act does on a state where the host's access is allowed and breaks none of the rules. -/
theorem State.guard_moves {s : State} {a : Acc} (he : ErrStill a.base) (checks : List (Bool × Nat)) {act : State → State}
    (hact : ∀ t, Still s t → t.mode ≠ Mode.OFF → t.mode ≠ Mode.LULL → (∀ k ∈ checks, k.2 ∈ Err.order → k.1 = false) → Moves t (act t)) :
    Moves s (s.guard a checks act) := by
  have h1 : Law Mask.still Mask.noDev s (s.received a) := State.received_law (.refl _ _ _) _ he.status he.ofs rfl rfl
  unfold State.guard
  refine .ite (fun _ => (Law.refl _ _ _).still.moves) fun hawake => .ite (fun _ => ?_) fun _ => .ite (fun hpick => ?_) fun _ => ?_
  · exact (State.answer_law h1 _ _ he.status he.ofs rfl rfl).still.moves
  · obtain ⟨hoff, hlull⟩ := not_or.mp hawake
    rw [← h1.still.cur] at hoff hlull
    exact h1.still.moves_comp (hact _ h1.still hoff hlull fun k hk hcode => pickCode_zero_of_mem hpick (by simp [hk]) hcode)
  · exact (State.refuse_law h1 _ _ he.status he.ofs rfl rfl).still.moves

/-- The pairs of modes between which a request may ask for a transition (R40, Table 02.2). -/
def requestPairs : List (Nat × Nat) :=
  [(Mode.STEEP, Mode.BREEZE), (Mode.STEEP, Mode.GALE), (Mode.STEEP, Mode.CALM), (Mode.STEEP, Mode.PROBE),
    (Mode.BREEZE, Mode.BREEZE), (Mode.BREEZE, Mode.GALE), (Mode.BREEZE, Mode.CALM), (Mode.BREEZE, Mode.LULL),
    (Mode.GALE, Mode.BREEZE), (Mode.GALE, Mode.GALE), (Mode.GALE, Mode.CALM), (Mode.GALE, Mode.LULL),
    (Mode.CALM, Mode.BREEZE), (Mode.CALM, Mode.GALE), (Mode.CALM, Mode.CALM), (Mode.CALM, Mode.LULL), (Mode.CALM, Mode.PROBE),
    (Mode.PROBE, Mode.PROBE)]

/-- The first rule of a mode request, of the mode `c` alone. -/
def wrongMode (c m : Nat) : Bool :=
  c == Mode.LOAD || (m == Mode.LULL && (c == Mode.STEEP || c == Mode.PROBE)) ||
    (((m == Mode.BREEZE || m == Mode.GALE) || m == Mode.CALM) && c == Mode.PROBE) || (m == Mode.PROBE && (c == Mode.BREEZE || c == Mode.GALE))

theorem mem_requestPairs : ∀ m ∈ [Mode.BREEZE, Mode.GALE, Mode.LULL, Mode.CALM, Mode.PROBE], ∀ c ∈ List.range 8, wrongMode c m = false →
    c = Mode.OFF ∨ c = Mode.LULL ∨ (c, m) ∈ requestPairs := by decide

theorem State.modeChecks_open {s t : State} {m : Nat} {rsv : Bool} (ht : ModeStill s t) (hoff : t.mode ≠ Mode.OFF) (hlull : t.mode ≠ Mode.LULL)
    (hchecks : ∀ k ∈ s.modeChecks m rsv, k.2 ∈ Err.order → k.1 = false) : t.trans = false ∧ (t.mode, m) ∈ requestPairs := by
  simp only [State.modeChecks, List.mem_cons, List.not_mem_nil, or_false, forall_eq_or_imp, forall_eq] at hchecks
  obtain ⟨hmode, -, hbusy, -, hvalue⟩ := hchecks
  have hmode : wrongMode s.mode m = false := hmode (by decide)
  have hbusy := hbusy (by decide)
  have hvalue := hvalue (by decide)
  simp only [Bool.or_eq_false_iff] at hbusy
  refine ⟨ht.trans.trans hbusy.1.1, ?_⟩
  have hasked : m ∈ [Mode.BREEZE, Mode.GALE, Mode.LULL, Mode.CALM, Mode.PROBE] := by
    simp only [Bool.or_eq_false_iff, Bool.not_eq_false', Bool.or_eq_true, beq_iff_eq] at hvalue
    simp only [List.mem_cons, List.not_mem_nil, or_false]
    tauto
  rw [← ht.cur] at hmode
  have hlt : t.mode < 8 := bitsOf_lt _ 2 0
  rcases mem_requestPairs m hasked _ (List.mem_range.mpr hlt) hmode with h | h | h
  · exact absurd h hoff
  · exact absurd h hlull
  · exact h

section
variable {s : State} {m : Nat}

/-! ## Entering PROBE and CALM -/

theorem State.not_calms_of_probe (h : s.mode = Mode.PROBE) : ¬ s.calms := fun hc => by
  rcases hc.mode_cases with he | he | he | he <;> rw [h] at he <;> exact absurd he (by decide)

/-- Beyond setting the mode, entering PROBE trains ports and powers slices. -/
theorem State.enterProbe_subsides {K : Nat → Prop} (s : State) : Subsides K (s.setMode Mode.PROBE) s.enterProbe := by
  unfold State.enterProbe
  have h2 : Subsides K (s.setMode Mode.PROBE) ((List.range 4).foldl (fun t i =>
      if t.slc i ≠ Slc.DARK then t else if t.powered i then t.setSlc i Slc.ACTIVE else t.powerUp i) (s.setMode Mode.PROBE)) :=
    .foldl _ (.refl _ _) fun _ _ ht => .either ht (.either (State.setSlc_subsides ht _ _) (State.powerUp_subsides ht _))
  exact .foldl _ (.either (h2.law (State.kettleSteep_law (.refl _ _ _) _ rfl rfl)) h2) fun _ _ ht =>
    .either (State.retrain_subsides (State.firstAttempt_subsides ht _) _) ht

theorem State.enterProbe_set (s : State) : ModeSet Mode.PROBE s s.enterProbe := by
  have hset := s.setMode_set (m := Mode.PROBE) (by decide) 0
  exact hset.comp_still ((State.enterProbe_subsides (K := fun _ => True) s).mode.still (State.not_calms_of_probe hset.cur))

theorem State.enterProbe_scans {K : Nat → Prop} {s0 : State} (h : ScansSubside K s0 s) : ScansSubside K s0 s.enterProbe :=
  (h.setMode _ _).comp (State.enterProbe_subsides s).scans

theorem State.enterProbe_moves (hl : s.modeSound → s.dev.lullStep = 0) (hnext : ModeNext s.mode Mode.PROBE) : Moves s s.enterProbe := by
  have hset := s.enterProbe_set
  refine ⟨fun hs => ⟨hset.cur.symm ▸ hnext, hset.modeSound (hl hs) fun he => absurd he (by decide)⟩, ?_⟩
  exact (State.enterProbe_scans (fun k _ => .inl rfl)).moves

theorem State.calmReq_moves (hl : s.modeSound → s.dev.lullStep = 0) (hm : s.mode ≠ Mode.CALM → s.working) : Moves s s.calmReq := by
  have hmark := s.markFatal_still Fatal.HOST
  refine .ite (fun _ => (Subsides.refl _ s).moves) fun hne => ⟨fun hs => ?_, fun k => .inl ?_⟩
  · have hcalms : (s.markFatal Fatal.HOST).calms := by
      unfold State.calms State.working
      rw [hmark.lullStep, hmark.cur, hl hs]
      exact ⟨by decide, .inl (hm hne)⟩
    exact (hmark.subsides.comp (State.enterCalm_subsides (K := fun _ => True) hcalms)).moves.mode hs
  · rw [State.enterCalm_scanState, hmark.scan]

/-! ## A transition that begins -/

theorem State.beginTrans_shows (s : State) {m : Nat} (hm : m < 8) :
    (s.beginTrans m).mode = s.mode ∧ (s.beginTrans m).trans = true ∧ (s.beginTrans m).fld F.DEV_MODE.TARGET = m ∧
    (s.beginTrans m).fld F.DEV_MODE.STEEP_TARGET = s.fld F.DEV_MODE.STEEP_TARGET ∧ (s.beginTrans m).dev = s.dev := by
  have hother : ∀ f : Fld, f.ofs = Reg.DEV_MODE → f.lo ≤ f.hi → (f.hi < 4 ∨ 7 < f.lo) → (s.beginTrans m).fld f = s.fld f := fun f ho hlo hd => by
    unfold State.beginTrans
    rw [State.fld_setFld_bits _ F.DEV_MODE.TRANS f _ (by decide) (by decide) hlo ho (by simp only [F.DEV_MODE.TRANS]; omega),
      State.fld_setFld_bits _ F.DEV_MODE.TARGET f _ (by decide) (by decide) hlo ho (by simp only [F.DEV_MODE.TARGET]; omega)]
  refine ⟨hother _ rfl (by decide) (by decide), ?_, ?_, hother _ rfl (by decide) (by decide), rfl⟩
  · have h1 : (s.beginTrans m).fld F.DEV_MODE.TRANS = 1 := State.fld_setFld_self _ F.DEV_MODE.TRANS 1 (by decide) (by decide)
    simp [State.trans, h1]
  · unfold State.beginTrans
    rw [State.fld_setFld_bits _ F.DEV_MODE.TRANS F.DEV_MODE.TARGET _ (by decide) (by decide) (by decide) rfl (by decide),
      State.fld_setFld_self _ F.DEV_MODE.TARGET _ (by decide) (by decide)]
    exact Nat.mod_eq_of_lt hm

theorem State.beginTrans_scanState (s : State) (m k : Nat) : (s.beginTrans m).scanState k = s.scanState k :=
  (State.beginTrans_law (Law.refl 0x8000000 0 s) m rfl rfl).scanState (by decide) (by decide) k

theorem State.beginTrans_modeSound {m : Nat} (hm : m < 8) (hl : s.dev.lullStep = 0) (hmode : s.mode = Mode.BREEZE ∨ s.mode = Mode.GALE ∨ s.mode = Mode.CALM) :
    (s.beginTrans m).modeSound := by
  obtain ⟨hcur, -, -, -, hdev⟩ := s.beginTrans_shows hm
  refine State.modeSound_of_awake (by rw [hdev, hl]) ?_ ?_ <;> rw [hcur] <;> intro he <;> rw [he] at hmode <;> exact absurd hmode (by decide)

/-- A change that keeps the mode and the engines' states, before one that moves. -/
theorem Moves.of_same {t u : State} (hmode : t.mode = s.mode) (hsound : s.modeSound → t.modeSound) (hscan : ∀ k, t.scanState k = s.scanState k)
    (h : Moves t u) : Moves s u :=
  ⟨fun hs => hmode ▸ h.mode (hsound hs), fun k => hscan k ▸ h.scans k⟩

/-- A transition to BREEZE or GALE drains or powers the slices, and may end at once. -/
theorem State.moveTo_moves {m : Nat} (hm : m < 8) (hl : s.modeSound → s.dev.lullStep = 0)
    (hmode : s.mode = Mode.BREEZE ∨ s.mode = Mode.GALE ∨ s.mode = Mode.CALM) : Moves s (s.moveTo m) := by
  have hslices : Moves (s.beginTrans m) (s.moveTo m) := by
    unfold State.moveTo
    refine State.settle_moves (.foldl _ (.refl _ _) fun _ _ ht => ?_)
    exact .either (.either (State.powerUp_subsides ht _) ht) (.either (.either (State.darkNow_subsides ht _) ht) (State.drainBegin_subsides ht _))
  exact .of_same (s.beginTrans_shows hm).1 (fun hs => State.beginTrans_modeSound hm (hl hs) hmode) (fun k => s.beginTrans_scanState m k) hslices

/-- The first step of an entry into LULL. -/
theorem State.lullReq_moves (hmode : s.mode = Mode.BREEZE ∨ s.mode = Mode.GALE ∨ s.mode = Mode.CALM) : Moves s s.lullReq := by
  obtain ⟨hcur, htrans, htarget, -, -⟩ := s.beginTrans_shows (m := Mode.LULL) (by decide)
  refine ⟨fun _ => ⟨.inl hcur, ?_, ?_, fun _ => ⟨?_, hcur.symm, htrans, htarget⟩⟩, fun k => .inl (s.beginTrans_scanState _ k)⟩
  · intro he
    rw [hcur.symm.trans he] at hmode
    exact absurd hmode (by decide)
  · intro he
    rw [hcur.symm.trans he] at hmode
    exact absurd hmode (by decide)
  · rw [← hcur] at hmode
    exact hmode

/-- In STEEP a request for BREEZE or GALE sets the target and powers or darkens the slices. -/
theorem State.runReq_moves_of_steep {m : Nat} (hm : m = Mode.BREEZE ∨ m = Mode.GALE) (hsteep : s.mode = Mode.STEEP) : Moves s (s.runReq m) := by
  have hcur : (s.setFld F.DEV_MODE.STEEP_TARGET m).mode = Mode.STEEP :=
    (State.fld_setFld_bits _ F.DEV_MODE.STEEP_TARGET F.DEV_MODE.CUR _ (by decide) (by decide) (by decide) rfl (by decide)).trans hsteep
  have htarget : (s.setFld F.DEV_MODE.STEEP_TARGET m).fld F.DEV_MODE.STEEP_TARGET = m := by
    rw [State.fld_setFld_self _ F.DEV_MODE.STEEP_TARGET _ (by decide) (by decide)]
    rcases hm with rfl | rfl <;> decide
  have hne : s.mode ≠ m := by
    rw [hsteep]
    rcases hm with rfl | rfl <;> decide
  have hsound : s.modeSound → (s.setFld F.DEV_MODE.STEEP_TARGET m).modeSound := fun hs =>
    State.modeSound_of_awake (hs.lullStep_of_mode (by rw [hsteep]; decide)) (fun he => absurd (hcur.symm.trans he) (by decide)) fun _ => htarget.symm ▸ hm
  unfold State.runReq
  rw [if_neg hne, if_pos hsteep]
  refine .of_same (hcur.trans hsteep.symm) hsound (fun k => State.fld_of_rd _ (State.rd_setFld_ne _ _ _ (Reg.DEV_MODE_ne_ST_ENG_RESULT k).symm))
    (Subsides.foldl _ (.refl _ _) fun _ _ ht => ?_).moves
  exact .either (.either ht (State.powerUp_subsides ht _)) (.either (State.darkNow_subsides ht _) ht)

/-- A request for BREEZE or GALE. -/
theorem State.runReq_moves {m : Nat} (hm : m = Mode.BREEZE ∨ m = Mode.GALE) (hl : s.modeSound → s.dev.lullStep = 0)
    (hmode : s.mode = Mode.STEEP ∨ s.mode = Mode.BREEZE ∨ s.mode = Mode.GALE ∨ s.mode = Mode.CALM) : Moves s (s.runReq m) := by
  rcases hmode with hsteep | hmode
  · exact State.runReq_moves_of_steep hm hsteep
  · have hne : s.mode ≠ Mode.STEEP := by
      intro he
      rw [he] at hmode
      exact absurd hmode (by decide)
    unfold State.runReq
    rw [if_neg hne]
    exact .ite (fun _ => (Subsides.refl _ s).moves) fun _ => State.moveTo_moves (by rcases hm with rfl | rfl <;> decide) hl hmode

/-- Which request may follow which mode. -/
theorem requestPairs_cases : ∀ p ∈ requestPairs,
    (p.2 = Mode.LULL ∧ (p.1 = Mode.BREEZE ∨ p.1 = Mode.GALE ∨ p.1 = Mode.CALM)) ∨
    (p.2 = Mode.CALM ∧ (p.1 ≠ Mode.CALM → p.1 = Mode.STEEP ∨ p.1 = Mode.BREEZE ∨ p.1 = Mode.GALE)) ∨
    (p.2 = Mode.PROBE ∧ (p.1 ≠ Mode.PROBE → p.1 = Mode.STEEP ∨ p.1 = Mode.CALM)) ∨
    ((p.2 = Mode.BREEZE ∨ p.2 = Mode.GALE) ∧ (p.1 = Mode.STEEP ∨ p.1 = Mode.BREEZE ∨ p.1 = Mode.GALE ∨ p.1 = Mode.CALM)) := by decide

/-- A request moves between the modes of a pair that it may ask for. -/
theorem State.modeReq_moves (s : State) {a : Acc} (he : ErrStill a.base) (m : Nat) (rsv : Bool) : Moves s (s.modeReq a m rsv) := by
  unfold State.modeReq
  refine State.guard_moves he _ fun t ht hoff hlull hchecks => ?_
  obtain ⟨htrans, hpair⟩ := State.modeChecks_open ht.toModeStill hoff hlull hchecks
  have hl : t.modeSound → t.dev.lullStep = 0 := fun hs => hs.lullStep_of_trans htrans
  rcases requestPairs_cases _ hpair with ⟨rfl, hm⟩ | ⟨rfl, hm⟩ | ⟨rfl, hm⟩ | ⟨hto, hm⟩
  · rw [if_pos rfl]
    exact State.lullReq_moves hm
  · rw [if_neg (by decide), if_pos rfl]
    exact State.calmReq_moves hl hm
  · rw [if_neg (by decide), if_neg (by decide), if_pos rfl]
    refine .ite (fun _ => (Subsides.refl _ t).moves) fun hne => State.enterProbe_moves hl ?_
    dsimp only at hm
    rcases hm hne with h | h <;> rw [h] <;> simp [ModeNext]
  · have hne : m ≠ Mode.LULL ∧ m ≠ Mode.CALM ∧ m ≠ Mode.PROBE := by rcases hto with h | h <;> rw [show m = _ from h] <;> decide
    obtain ⟨h1, h2, h3⟩ := hne
    rw [if_neg h1, if_neg h2, if_neg h3]
    exact State.runReq_moves hto hl hm

end

end Sys2Proof.Machine
end

section
/-! Resets of the core and the start of LOAD (O5, O6). -/

namespace Sys2Proof.Machine

/-! ## A state after a reset -/

/-- Mode `m` with no LULL entry and with every engine idle, as a reset leaves it. -/
structure Blanked (m : Nat) (t : State) : Prop where
  cur : t.mode = m
  lullStep : t.dev.lullStep = 0
  scans : ∀ k, t.scanState k = Scan.IDLE

section
variable {m : Nat} {s t u : State}

theorem Blanked.moves (h : Blanked m t) (hnext : ModeNext s.mode m) (hm : m ≠ Mode.STEEP ∧ m ≠ Mode.PROBE) : Moves s t := by
  obtain ⟨hsteep, hprobe⟩ := hm
  rw [← h.cur] at hsteep hprobe
  exact ⟨fun _ => ⟨h.cur.symm ▸ hnext, State.modeSound_of_awake h.lullStep (fun he => absurd he hprobe) fun he => absurd he hsteep⟩,
    fun k => .inr (.inl (h.scans k))⟩

theorem Blanked.comp_still (h : Blanked m t) (hu : Still t u) : Blanked m u :=
  ⟨hu.cur.trans h.cur, hu.lullStep.trans h.lullStep, fun k => (hu.scan k).trans (h.scans k)⟩

/-- A change of the parts that leaves no LULL entry. -/
theorem Blanked.of_parts (h : Blanked m t) (hregs : u.regs = t.regs) (hl : u.dev.lullStep = t.dev.lullStep) : Blanked m u := by
  have hrd : ∀ a, u.rd a = t.rd a := fun a => by
    unfold State.rd
    rw [hregs]
  exact ⟨(State.fld_of_rd F.DEV_MODE.CUR (hrd _)).trans h.cur, hl.trans h.lullStep, fun k => (State.fld_of_rd _ (hrd _)).trans (h.scans k)⟩

/-- In LOAD what subsides stays. -/
theorem Blanked.comp_subsides (h : Blanked Mode.LOAD t) (hu : Subsides (fun _ => True) t u) : Blanked Mode.LOAD u := by
  have hcalms : ¬ t.calms := fun hc => by
    rcases hc.mode_cases with he | he | he | he <;> rw [h.cur] at he <;> exact absurd he (by decide)
  have hmode := hu.mode.still hcalms
  refine ⟨hmode.cur.trans h.cur, hmode.lullStep.trans h.lullStep, fun k => ?_⟩
  rcases hu.scans k trivial with hk | hk | ⟨hk, -⟩
  · exact hk.trans (h.scans k)
  · exact hk
  · exact absurd ((h.scans k).symm.trans hk) (by decide)

theorem Still.putRegs (s : State) {l : List (Nat × Reg64)} (h : ∀ e ∈ l, Apart e.1) : Still s (s.putRegs l) := by
  induction l generalizing s with
  | nil => exact (Law.refl _ _ s).still
  | cons e l ih =>
    simp only [List.mem_cons, forall_eq_or_imp] at h
    exact (Still.of_wr s e.2 h.1).comp (ih _ h.2)

theorem Still.putRegs_filter (s : State) (r : SMap Reg64) {p : Nat → Bool} (h : ∀ a, p a = true → Apart a) :
    Still s (s.putRegs (r.filter fun a _ => p a).entries) :=
  Still.putRegs s fun e he => h e.1 (List.mem_filter.mp he).2

/-! ## The resets -/

theorem Reg.por_ST_ENG_RESULT (k : Nat) : bitsOf (Reg.por (Reg.ST_ENG_RESULT k)) 21 20 = Scan.IDLE := by
  have hall : ∀ k < 8, bitsOf (Reg.por (Reg.ST_ENG_RESULT k)) 21 20 = Scan.IDLE := by decide +kernel
  rw [← Reg.ST_ENG_RESULT_eq_iff.mpr (Nat.mod_mod k 8)]
  exact hall _ (Nat.mod_lt _ (by decide))

theorem State.blank_blanked (s : State) {m : Nat} (hm : m < 8) : Blanked m (s.blank m) := by
  obtain ⟨hcur, -⟩ := s.blank_coreAtReset hm
  refine ⟨hcur, ?_, fun k => ?_⟩
  · rw [s.blank_dev]
    rfl
  · have hpin : Reg.ST_ENG_RESULT k ≠ Reg.PIN_EVT_LEVEL := by
      unfold Reg.ST_ENG_RESULT Reg.PIN_EVT_LEVEL
      omega
    have hrd : (s.blank m).rd (Reg.ST_ENG_RESULT k) = Reg.por (Reg.ST_ENG_RESULT k) := by
      rw [State.rd_blank s m (Reg.DEV_MODE_ne_ST_ENG_RESULT k).symm, if_neg hpin]
    exact (congrArg (bitsOf · 21 20) hrd).trans (Reg.por_ST_ENG_RESULT k)

theorem State.coreReset_blanked (s : State) {m : Nat} (hm : m < 8) : Blanked m (s.coreReset m) := by
  have hkept : ∀ a, (a == Reg.DEV_RST_CAUSE || a == Reg.DEV_WAKE_CFG || a == Reg.DEV_WAKE_SRC) = true → Apart a := fun a ha => by
    simp only [Bool.or_eq_true, beq_iff_eq] at ha
    rcases ha with (rfl | rfl) | rfl <;> exact .of_lt (by decide) (by decide)
  have hput := (s.blank_blanked hm).comp_still (Still.putRegs_filter _ s.regs hkept)
  have hparts := hput.of_parts (u := { (s.blank m).putRegs _ with aon := s.aon, dev := { (s.blank m).dev with conds := s.aonConds } }) rfl
    ((s.blank_blanked hm).lullStep.trans hput.lullStep.symm)
  exact hparts.comp_still (Still.of_wr _ _ (.of_lt (by decide) (by decide)))

theorem Blanked.loadStart (h : Blanked m s) : Blanked Mode.LOAD s.loadStart := by
  obtain ⟨hrd, -⟩ := s.loadStart_keeps
  refine ⟨s.loadStart_shows.1, by rw [s.loadStart_dev, h.lullStep], fun k => (State.fld_of_rd _ (hrd _ ?_)).trans (h.scans k)⟩
  simp only [F.ST_ENG_RESULT.STATE, List.mem_cons, List.not_mem_nil, or_false, not_or]
  exact ⟨(Reg.DEV_MODE_ne_ST_ENG_RESULT k).symm, by unfold Reg.ST_ENG_RESULT Reg.IMG_STATUS; omega⟩

theorem State.loadStart_scanState (s : State) (k : Nat) : s.loadStart.scanState k = s.scanState k :=
  (State.loadStart_law (Law.refl 0x18000000 0 s) rfl rfl).scanState (by decide) (by decide) k

/-- LOAD begins from a state without a LULL entry. -/
theorem State.loadStart_moves {s0 : State} (hl : s0.modeSound → s.dev.lullStep = 0) (hnext : ModeNext s0.mode Mode.LOAD)
    (hscan : ∀ k, s.scanState k = s0.scanState k) : Moves s0 s.loadStart := by
  have hcur := s.loadStart_shows.1
  refine ⟨fun hs => ⟨hcur.symm ▸ hnext, State.modeSound_of_awake (by rw [s.loadStart_dev, hl hs]) ?_ ?_⟩, fun k => .inl ?_⟩
  · exact fun he => absurd (hcur.symm.trans he) (by decide)
  · exact fun he => absurd (hcur.symm.trans he) (by decide)
  · rw [State.loadStart_scanState, hscan]

/-! ## The soft device reset -/

/-- What a soft reset keeps: the host's tables and the frozen rings, no mode and no engine. -/
theorem apart_of_softKept {s : State} {a : Nat} (h : ((decide (0x8000 ≤ a) && decide (a < 0xA000)) || ringKept s a) = true) : Apart a := by
  simp only [Bool.or_eq_true, Bool.and_eq_true, decide_eq_true_eq, ringKept, List.any_eq_true] at h
  rcases h with ⟨hlo, hhi⟩ | ⟨n, -, ⟨hlo, -⟩, -⟩
  · exact .of_lt (by omega) (by unfold Reg.DEV_MODE; omega)
  · exact .of_le (by unfold Reg.CD_RING_STATUS at hlo; omega)

theorem State.softGo_blanked (s : State) : Blanked Mode.LOAD s.softGo := by
  unfold State.softGo
  dsimp only
  generalize ((s.takeCopies).vaneRetain).cutRings 6 = s1
  have hload : Blanked Mode.LOAD (s1.coreReset Mode.LOAD).loadStart := (s1.coreReset_blanked (by decide)).loadStart
  have hput := hload.comp_still (Still.putRegs_filter _ s1.regs fun _ ha => apart_of_softKept (s := s1) ha)
  generalize hb : ({ State.putRegs _ _ with pcie := _, irq := _, img := _, caddy := _, host := _, dev := _ } : State) = b1
  have hb1 : Blanked Mode.LOAD b1 := by
    subst hb
    exact hput.of_parts rfl (hload.lullStep.trans hput.lullStep.symm)
  have hstatus : ∀ n, Apart (Reg.CD_RING_STATUS n) := fun n => .of_le (by unfold Reg.CD_RING_STATUS; omega)
  have hrings := Subsides.foldl (List.range 8) (Subsides.refl (fun _ => True) b1)
    (f := fun t n => (t.setFld (F.CD_RING_STATUS.READING n) 0).setFld (F.CD_RING_STATUS.REPLAYING n) 0)
    fun _ n ht => (ht.setFld _ _ (hstatus n)).setFld _ _ (hstatus n)
  have hcause := hrings.flag F.DEV_RST_CAUSE.SOFT (.of_lt (by decide) (by decide))
  exact hb1.comp_subsides (.either hcause (State.fatal_subsides hcause _))

theorem State.softReset_moves (s : State) {a : Acc} (he : ErrStill a.base) (key : Nat) (rsv : Bool) : Moves s (s.softReset a key rsv) := by
  unfold State.softReset
  refine State.guard_moves he _ fun t _ hoff hlull _ => .ite (fun _ => (Subsides.refl _ t).moves) fun _ => ?_
  have hload : Mode.LOAD ≤ t.mode := by
    unfold Mode.OFF Mode.LULL at *
    unfold Mode.LOAD
    omega
  exact t.softGo_blanked.moves (.inr (.inr (.inl ⟨rfl, hload⟩))) (by decide)

end

end Sys2Proof.Machine
end

section
/-! The end of a LOAD (O5, O6): an image that the loader accepts names a target that STEEP may exit to. -/

namespace Sys2Proof.Machine

/-! ## What the checks of an image establish -/

/-- The segments that the walk has passed stay in its list. -/
theorem mem_imgWalk {img : List Byte} {tr : Nat} {g : ImgSeg} (plan : List (Nat × Option Nat × Option Nat)) (o : Nat) {acc : List ImgSeg}
    (h : g ∈ acc) : g ∈ (imgWalk img tr plan o acc).2 := by
  induction plan generalizing o acc with
  | nil =>
    unfold imgWalk
    split <;> exact List.mem_reverse.mpr h
  | cons e rest ih =>
    obtain ⟨ty, inst, len⟩ := e
    unfold imgWalk
    dsimp only
    split
    · exact List.mem_reverse.mpr h
    split
    · split
      · exact List.mem_reverse.mpr h
      · exact ih _ (by simp [h])
    · exact ih _ (by simp [h])

/-- A walk that finds no fault has passed its first segment, where that is no slice. -/
theorem mem_imgWalk_first {img : List Byte} {tr ty o : Nat} {inst len : Option Nat} {rest : List (Nat × Option Nat × Option Nat)} (hty : ty ≠ 0x10)
    (h : (imgWalk img tr ((ty, inst, len) :: rest) o []).1 = none) :
    ImgSeg.mk ty (leAt img (o + 2) 1) o (leAt img (o + 4) 4) ∈ (imgWalk img tr ((ty, inst, len) :: rest) o []).2 := by
  unfold imgWalk at h ⊢
  dsimp only at h ⊢
  split at h
  · simp at h
  · rw [if_neg hty]
    exact mem_imgWalk _ _ (by simp)

theorem of_imgFirst_none {check code ty inst : Nat} {ts : List (Nat × Bool)} (h : imgFirst check code ty inst ts = none) {t : Nat × Bool}
    (ht : t ∈ ts) : t.2 = false := by
  have hnone := Option.map_eq_none_iff.mp h
  simpa using List.find?_eq_none.mp hnone t ht

theorem of_imgEach_none {gs : List ImgSeg} {check : Nat} {tests : ImgSeg → List (Nat × Bool)} (h : imgEach gs check tests = none) {g : ImgSeg}
    (hg : g ∈ gs) {t : Nat × Bool} (ht : t ∈ tests g) : t.2 = false :=
  of_imgFirst_none (List.findSome?_eq_none_iff.mp h g hg) ht

/-- An accepted full image names BREEZE or GALE as the target of STEEP. -/
theorem imgCheck_steepTarget {img : List Byte} {fetched : Nat} (h : imgCheck img ⟨fetched, none, []⟩ = none) :
    leAt img ImgAt.STRUCT 1 = Mode.BREEZE ∨ leAt img ImgAt.STRUCT 1 = Mode.GALE := by
  have hbody : imgBody img ⟨fetched, none, []⟩ = none := (Option.orElse_eq_none _ _ |>.mp h).2
  unfold imgBody at hbody
  simp only [Option.orElse_eq_none] at hbody
  obtain ⟨hwalk, -, -, -, -, hranges, -⟩ := hbody
  have hmem := mem_imgWalk_first (by decide : 1 ≠ 0x10) hwalk
  have hrange := of_imgEach_none hranges hmem (t := imgRange img ImgAt.STRUCT 1 4 5) (List.mem_cons_of_mem _ List.mem_cons_self)
  simp only [imgRange, Bool.or_eq_false_iff, decide_eq_false_iff_not, not_lt] at hrange
  unfold Mode.BREEZE Mode.GALE
  omega

/-! ## The image that is applied -/

section
variable {K : Nat → Prop} {s0 s : State}

theorem Apart.caddy {a : Nat} (h : 0xA00000 ≤ a) : Apart a := .of_le (by omega)

theorem State.applyCaddy_subsides (h : Subsides K s0 s) (img : List Byte) : Subsides K s0 (s.applyCaddy img) := by
  have hcfg : ∀ n, Apart (Reg.CD_RING_CFG n) := fun n => .caddy (by unfold Reg.CD_RING_CFG; omega)
  have hpre : ∀ n, Apart (Reg.CD_RING_PRE n) := fun n => .caddy (by unfold Reg.CD_RING_PRE; omega)
  have hpost : ∀ n, Apart (Reg.CD_RING_POST n) := fun n => .caddy (by unfold Reg.CD_RING_POST; omega)
  have hstatus : ∀ n, Apart (Reg.CD_RING_STATUS n) := fun n => .caddy (by unfold Reg.CD_RING_STATUS; omega)
  have hlead : ∀ r, Apart (Reg.CD_RP_LEAD r) := fun r => .caddy (by unfold Reg.CD_RP_LEAD; omega)
  unfold State.applyCaddy
  refine .foldl _ (.foldl _ h fun t n ht => ?_) fun _ r ht => ht.setFld _ _ (hlead r)
  dsimp only
  have hpor : Subsides K s0 (t.porWhere fun a => decide (Reg.CD_RING_CFG n ≤ a) && decide (a ≤ Reg.CD_RING_CNT n 7)) := by
    refine ht.comp (Still.porWhere t fun a ha => .caddy ?_).subsides
    simp only [Bool.and_eq_true, decide_eq_true_eq] at ha
    unfold Reg.CD_RING_CFG at ha
    omega
  generalize hu : (if s.ringSurvives img n = true then t else _) = u
  have h1 : Subsides K s0 u := hu ▸ .either ht (hpor.parts rfl rfl)
  have h2 := ((h1.wr (a := Reg.CD_RING_CFG n) (BitVec.ofNat 64 (imgChunks img n + if imgChunks img n = 0 then 0 else 2 ^ 20)) (hcfg n)).setFld
    (F.CD_RING_PRE.US n) (leAt img (ImgAt.CADDY + 16 * n + 4) 4) (hpre n)).setFld (F.CD_RING_POST.US n)
    (leAt img (ImgAt.CADDY + 16 * n + 8) 4) (hpost n)
  exact .either h2 (h2.setFld _ _ (hstatus n))

/-- Beyond the target of STEEP, an applied image sets no mode. -/
theorem State.applyImage_subsides (s : State) (img : List Byte) (cal : CalFlash) :
    Subsides K ({ s with cfg := ImgCfg.fresh }.applyStruct img) (s.applyImage img cal).1 := by
  unfold State.applyImage
  dsimp only
  generalize { s with cfg := ImgCfg.fresh }.applyStruct img = s1
  have h1 := (Subsides.refl K s1).law (State.applyLanes_law (.refl _ _ _) img rfl rfl)
  have hports : Subsides K s1 ((s1.applyLanes img).ports.foldl (fun t p => t.applyPort img p) (s1.applyLanes img)) :=
    .foldl _ h1 fun _ _ ht => ht.law (State.applyPort_law (.refl _ _ _) _ _ rfl rfl)
  have hpool := hports.law (State.applyPool_law (.refl _ _ _) img rfl rfl)
  have hpins := (State.applyCaddy_subsides hpool img).law
    (State.applyPins_law (State.applyVane_law (State.applyTime_law (.refl _ _ _) img rfl rfl) img rfl rfl) img rfl rfl)
  have hserial := hpins.law (State.applySerial_law (.refl _ _ _) img rfl rfl)
  generalize State.applySerial _ img = s4 at hserial
  generalize hs5 : (State.mk _ _ _ _ _ _ _ _ _ _ _ _ _ _ _ _ _ _ _ _ _ _ _ _ _) = s5
  have h5 : Subsides K s1 s5 := hs5 ▸ hserial.parts rfl rfl
  refine .foldl _ (Subsides.law (Subsides.foldl_fst _ h5 fun t b i ht => ?_) (State.readCal_law (.refl _ _ _) _ _ _ rfl rfl)) fun _ _ ht =>
    ht.law (State.ttConsumer_law (.refl _ _ _) _ rfl rfl)
  have hfill := State.reapply_subsides ht i
  dsimp only
  split
  · exact ht
  split
  · split
    all_goals
      next heq =>
        rw [heq] at hfill
        exact hfill
  · exact ht

/-! ## The target of STEEP -/

/-- The target of STEEP is one of the modes that it may exit to. -/
def State.steepAims (s : State) : Prop := s.fld F.DEV_MODE.STEEP_TARGET = Mode.BREEZE ∨ s.fld F.DEV_MODE.STEEP_TARGET = Mode.GALE

/-- A change of the target of STEEP alone. -/
theorem State.steepTarget_keeps (s : State) (v : Nat) :
    (s.setFld F.DEV_MODE.STEEP_TARGET v).mode = s.mode ∧ (s.setFld F.DEV_MODE.STEEP_TARGET v).trans = s.trans ∧
    ∀ k, (s.setFld F.DEV_MODE.STEEP_TARGET v).scanState k = s.scanState k := by
  refine ⟨State.fld_setFld_bits _ F.DEV_MODE.STEEP_TARGET F.DEV_MODE.CUR _ (by decide) (by decide) (by decide) rfl (by decide), ?_, fun k => ?_⟩
  · exact congrArg (· == 1) (State.fld_setFld_bits _ F.DEV_MODE.STEEP_TARGET F.DEV_MODE.TRANS _ (by decide) (by decide) (by decide) rfl (by decide))
  · exact State.fld_of_rd _ (State.rd_setFld_ne _ _ _ (Reg.DEV_MODE_ne_ST_ENG_RESULT k).symm)

theorem State.steepTarget_aims (s : State) {v : Nat} (hv : v = Mode.BREEZE ∨ v = Mode.GALE) : (s.setFld F.DEV_MODE.STEEP_TARGET v).steepAims := by
  unfold State.steepAims
  rw [State.fld_setFld_self _ F.DEV_MODE.STEEP_TARGET _ (by decide) (by decide)]
  rcases hv with rfl | rfl <;> decide

theorem ModeStill.steepAims {s t : State} (h : ModeStill s t) (hs : s.steepAims) : t.steepAims := by
  unfold State.steepAims
  rw [h.steepTarget]
  exact hs

theorem State.applyStruct_still (s : State) (img : List Byte) :
    Still (s.setFld F.DEV_MODE.STEEP_TARGET (leAt img ImgAt.STRUCT 1)) (s.applyStruct img) := by
  have hslc : Apart Reg.DEV_SLC_STATE := .devSlcState
  have hmask : Apart Reg.IMG_MUT_MASK := .of_lt (by decide) (by decide)
  exact (((Still.of_wr _ _ hslc).comp (Still.of_wr _ _ hslc)).comp (Still.of_wr _ _ hmask)).comp (.of_parts rfl rfl)

/-- LOAD without a LULL entry, with the engines of `s`. -/
structure Loading (s t : State) : Prop where
  cur : t.mode = Mode.LOAD
  lullStep : t.dev.lullStep = s.dev.lullStep
  scans : ScansSubside (fun _ => True) s t

theorem State.not_calms_of_load {s : State} (h : s.mode = Mode.LOAD) : ¬ s.calms := fun hc => by
  rcases hc.mode_cases with he | he | he | he <;> rw [h] at he <;> exact absurd he (by decide)

theorem Loading.comp {s t u : State} (h : Loading s t) (hu : Subsides (fun _ => True) t u) : Loading s u := by
  have hmode := hu.mode.still (State.not_calms_of_load h.cur)
  exact ⟨hmode.cur.trans h.cur, hmode.lullStep.trans h.lullStep, h.scans.comp hu.scans⟩

theorem Loading.moves {s t : State} (hs : s.mode = Mode.LOAD) (h : Loading s t) : Moves s t := by
  refine ⟨fun hsound => ⟨.inl (h.cur.trans hs.symm), State.modeSound_of_awake ?_ ?_ ?_⟩, h.scans.moves⟩
  · exact h.lullStep.trans (hsound.lullStep_of_mode (by rw [hs]; decide))
  · exact fun he => absurd (h.cur.symm.trans he) (by decide)
  · exact fun he => absurd (h.cur.symm.trans he) (by decide)

theorem State.applyImage_loading {s : State} (hs : s.mode = Mode.LOAD) (img : List Byte) (cal : CalFlash) : Loading s (s.applyImage img cal).1 := by
  obtain ⟨hcur, -, hscan⟩ := State.steepTarget_keeps { s with cfg := ImgCfg.fresh } (leAt img ImgAt.STRUCT 1)
  have h0 : Loading s (State.setFld { s with cfg := ImgCfg.fresh } F.DEV_MODE.STEEP_TARGET (leAt img ImgAt.STRUCT 1)) :=
    ⟨hcur.trans hs, rfl, fun k _ => .inl (hscan k)⟩
  exact (h0.comp (State.applyStruct_still _ img).subsides).comp (State.applyImage_subsides s img cal)

theorem State.applyImage_aims {s : State} (hs : s.mode = Mode.LOAD) {img : List Byte} (cal : CalFlash)
    (himg : leAt img ImgAt.STRUCT 1 = Mode.BREEZE ∨ leAt img ImgAt.STRUCT 1 = Mode.GALE) : (s.applyImage img cal).1.steepAims := by
  have hstruct := State.applyStruct_still { s with cfg := ImgCfg.fresh } img
  have hload : (State.applyStruct { s with cfg := ImgCfg.fresh } img).mode = Mode.LOAD :=
    (hstruct.cur.trans (State.steepTarget_keeps _ _).1).trans hs
  have himage := (State.applyImage_subsides (K := fun _ => True) s img cal).mode.still (State.not_calms_of_load hload)
  exact himage.steepAims (hstruct.steepAims (State.steepTarget_aims _ himg))

/-! ## LOAD ends -/

theorem State.enterSteep_set (s : State) : ModeSet Mode.STEEP s s.enterSteep := by
  have hset := State.setMode_set { s with dev := { s.dev with steepPlls := false, skewOk := 0, acqExpired := false } } (m := Mode.STEEP) (by decide) 0
  have hsteep := hset.comp_still (State.kettleSteep_law (Law.refl Mask.still Mask.noDev _) (!s.aon.holds) rfl rfl).still.toModeStill
  exact ⟨hsteep.cur, hsteep.trans, hsteep.steepTarget, hsteep.lullStep⟩

theorem State.enterSteep_scanState (s : State) (k : Nat) : s.enterSteep.scanState k = s.scanState k :=
  (State.enterSteep_law (Law.refl 0x4000700800000e 0x14030d s) rfl rfl).scanState (by decide) (by decide) k

/-- A loaded image leads to STEEP, or to PROBE by the straps. -/
theorem Loading.ends {s t : State} (hs : s.mode = Mode.LOAD) (h : Loading s t) (haims : t.steepAims) (probe : Prop) [Decidable probe] :
    Moves s (if probe then t.enterProbe else t.enterSteep) := by
  have hl : s.modeSound → t.dev.lullStep = 0 := fun hsound => h.lullStep.trans (hsound.lullStep_of_mode (by rw [hs]; decide))
  have hprobe := t.enterProbe_set
  have hsteep := t.enterSteep_set
  refine .ite (fun _ => ⟨fun hsound => ⟨?_, hprobe.modeSound (hl hsound) fun he => absurd he (by decide)⟩, (State.enterProbe_scans h.scans).moves⟩) fun _ =>
    ⟨fun hsound => ⟨?_, hsteep.modeSound (hl hsound) fun _ => haims⟩, (h.scans.comp fun k _ => .inl (t.enterSteep_scanState k)).moves⟩
  · rw [hs, hprobe.cur]
    simp [ModeNext]
  · rw [hs, hsteep.cur]
    simp [ModeNext]

theorem Loading.law {s t u : State} (h : Loading s t) (hu : Law Mask.still Mask.noDev t u) : Loading s u := h.comp hu.still.subsides

theorem Loading.fails {s t : State} (h : Loading s t) (source : Nat) (f : ImgFail) : Loading s (t.loadFails source f) :=
  h.law (State.loadFails_law (.refl _ _ _) _ _ rfl rfl)

theorem State.loadImage_moves {s : State} (hs : s.mode = Mode.LOAD) (source fetched : Nat) (img : List Byte) (cal : CalFlash) :
    Moves s (s.loadImage source fetched img cal) := by
  have hkey : Loading s ((s.setFld F.IMG_STATUS.SOURCE source).setFld F.IMG_STATUS.DEV_KEY (b2n (Config.keyHash == 0))) :=
    Loading.comp ⟨hs, rfl, fun _ _ => .inl rfl⟩ (((Subsides.refl _ s).setFld _ _ (.of_lt (by decide) (by decide))).setFld _ _ (.of_lt (by decide) (by decide)))
  unfold State.loadImage
  dsimp only
  generalize (s.setFld F.IMG_STATUS.SOURCE source).setFld F.IMG_STATUS.DEV_KEY (b2n (Config.keyHash == 0)) = s0 at hkey
  split
  · exact (hkey.fails _ _).moves hs
  next himg =>
    refine .ite (fun _ => (hkey.comp ?_).moves hs) fun _ => ?_
    · have h1 : Subsides (fun _ => True) s0 { s0 with dev := { s0.dev with lockedLoad := true } } := (Subsides.refl _ s0).dev rfl rfl
      have h2 := h1.wr (a := Reg.IMG_DETAIL) 0 (.of_lt (by decide) (by decide))
      exact h2.law (State.recordErr_law (State.imgEnd_law (.refl _ _ _) _ _ rfl rfl) _ _ ErrStill.dev.status ErrStill.dev.ofs rfl rfl)
    · have hload := State.applyImage_loading hkey.cur img cal
      have haims := State.applyImage_aims hkey.cur cal (imgCheck_steepTarget himg)
      have hboth : Loading s (s0.applyImage img cal).1 := ⟨hload.cur, hload.lullStep.trans hkey.lullStep, hkey.scans.comp hload.scans⟩
      split
      · exact (hkey.fails _ _).moves hs
      next t heq =>
        rw [heq] at hboth haims
        have hend := (State.imgEnd_law (Law.refl Mask.still Mask.noDev t) ImgSt.DONE 0 rfl rfl).still
        exact (hboth.comp hend.subsides).ends hs (hend.toModeStill.steepAims haims) _

end

end Sys2Proof.Machine
end

section
/-! The commands that set a mode (O5, O6). -/

namespace Sys2Proof.Machine

/-! ## Outcomes -/

/-- What a next state does to the mode and to the engines. -/
def OutMoves (s : State) : Host.Outcome State Fault Refusal → Prop
  | .next t => Moves s t
  | _ => True

section
variable {s t : State}

theorem OutMoves.next (h : Moves s t) : OutMoves s (.next t) := h

/-- A command that changes the device part and leaves the steps of a LULL entry. -/
theorem OutMoves.dev {d : Dev} (hs : d.lullStep = s.dev.lullStep) (hf : d.lullFrom = s.dev.lullFrom) : OutMoves s (.next { s with dev := d }) :=
  (Still.of_dev s hs hf).moves

theorem OutMoves.fault (r : Fault) : OutMoves s (.fault r) := trivial

theorem OutMoves.ite {c : Prop} [Decidable c] {x y : Host.Outcome State Fault Refusal} (hx : c → OutMoves s x) (hy : ¬ c → OutMoves s y) :
    OutMoves s (if c then x else y) := by
  split <;> simp_all

/-- A command that names a unit outside the device stops. -/
theorem OutMoves.named {c : Prop} [Decidable c] {r : Fault} {y : Host.Outcome State Fault Refusal} (hy : OutMoves s y) :
    OutMoves s (if c then .fault r else y) := .ite (fun _ => .fault r) fun _ => hy

theorem OutMoves.stays : OutMoves s (.next s) := (Subsides.refl _ s).moves

/-- A command that acts in some states. -/
theorem OutMoves.acts {c : Prop} [Decidable c] (h : c → Moves s t) : OutMoves s (if c then .next t else .next s) := .ite h fun _ => .stays

/-- A command that acts in some states, and there begins neither a mode nor a scan. -/
theorem OutMoves.subsides {c : Prop} [Decidable c] (h : Subsides (fun _ => True) s t) : OutMoves s (if c then .next t else .next s) :=
  .acts fun _ => h.moves

theorem OutLaw.moves {o : Host.Outcome State Fault Refusal} (h : OutLaw Mask.still Mask.noDev s o) : OutMoves s o := by
  cases o with
  | next t => exact (Law.still h).moves
  | refused r => trivial
  | fault r => trivial

end

section
variable (s : State)

/-! ## Supplies and resets -/

theorem execPgAonFall_moves : OutMoves s (execPgAonFall s) := (s.blank_blanked (by decide)).moves (.inr (.inl rfl)) (by decide)

theorem execPgCoreMemFall_moves (core mem : Bool) : OutMoves s (execPgCoreMemFall core mem s) := by
  unfold execPgCoreMemFall
  exact .ite (fun _ => .dev rfl rfl) fun _ => .ite (fun _ => .dev rfl rfl) fun _ =>
    (State.blank_blanked _ (by decide)).moves (.inr (.inl rfl)) (by decide)

theorem execResetNAssert_moves : OutMoves s (execResetNAssert s) := by
  have hoff : Moves s (s.blank Mode.OFF) := (s.blank_blanked (by decide)).moves (.inr (.inl rfl)) (by decide)
  have hdev := hoff.comp_still (Still.of_dev _ (d := { (s.blank Mode.OFF).dev with resetN := false }) rfl rfl)
  exact .next (hdev.comp_still (Still.of_wr _ (a := Reg.DEV_RST_CAUSE) 2 (.of_lt (by decide) (by decide))))

/-- The mode that the straps ask for, shown. -/
theorem State.showLull_shows (s : State) :
    ((s.setFld F.DEV_MODE.CUR Mode.LULL).setFld F.DEV_MODE.TARGET Mode.LULL).mode = Mode.LULL ∧
    ∀ k, ((s.setFld F.DEV_MODE.CUR Mode.LULL).setFld F.DEV_MODE.TARGET Mode.LULL).scanState k = s.scanState k := by
  refine ⟨?_, fun k => State.fld_of_rd _ ?_⟩
  · unfold State.mode
    rw [State.fld_setFld_bits _ F.DEV_MODE.TARGET F.DEV_MODE.CUR _ (by decide) (by decide) (by decide) rfl (by decide),
      State.fld_setFld_self _ F.DEV_MODE.CUR _ (by decide) (by decide)]
    rfl
  · have hne := (Reg.DEV_MODE_ne_ST_ENG_RESULT k).symm
    rw [State.rd_setFld_ne _ _ _ hne, State.rd_setFld_ne _ _ _ hne]

theorem execPowerUpStart_moves (bootSel : BitVec 2) (core mem : Bool) : OutMoves s (execPowerUpStart bootSel core mem s) := by
  unfold execPowerUpStart
  refine .ite (fun hoff => ?_) fun _ => .stays
  have hl : s.modeSound → s.dev.lullStep = 0 := fun hs => hs.lullStep_of_mode (by rw [hoff]; decide)
  have hload : ModeNext s.mode Mode.LOAD := by simp [hoff, ModeNext]
  have hlull : ModeNext s.mode Mode.LULL := by simp [hoff, ModeNext]
  obtain ⟨hcur, hscan⟩ := (s.strapped bootSel.toNat core mem).showLull_shows
  refine .ite (fun _ => .next ⟨fun hs => ⟨hcur.symm ▸ hlull, State.modeSound_of_awake (hl hs) ?_ ?_⟩, fun k => .inl (hscan k)⟩) fun _ =>
    .ite (fun _ => .next ?_) fun _ => .dev rfl rfl
  · exact fun he => absurd (hcur.symm.trans he) (by decide)
  · exact fun he => absurd (hcur.symm.trans he) (by decide)
  · exact State.loadStart_moves (s := s.strapped bootSel.toNat core mem) hl hload fun _ => rfl

theorem State.not_calms_of_lull {s : State} (h : s.mode = Mode.LULL) : ¬ s.calms := fun hc => by
  rcases hc.mode_cases with he | he | he | he <;> rw [h] at he <;> exact absurd he (by decide)

theorem State.handTime_still (s : State) (phi : Nat) : Still s (s.handTime phi) :=
  ((State.tookFree_law (Law.refl Mask.still Mask.noDev s) rfl rfl).still).comp (Still.of_parts rfl rfl)

theorem execAonHandover_moves (phi : Nat) : OutMoves s (execAonHandover phi s) := by
  have hhand := s.handTime_still phi
  unfold execAonHandover
  refine .ite (fun _ => .next (.comp_still hhand.moves (Still.of_dev _ rfl rfl))) fun _ => .ite (fun ⟨hlull, _⟩ => .next ?_) fun _ => .stays
  have hflag := hhand.comp (Still.flag _ F.DEV_RST_CAUSE.WAKE (.of_lt (by decide) (by decide)))
  have hdev := hflag.comp (Still.of_dev _ (d := { ((s.handTime phi).flag F.DEV_RST_CAUSE.WAKE).dev with wakeStep := 0 }) rfl rfl)
  refine State.loadStart_moves (fun hs => hdev.lullStep.trans (hs.lullStep_of_mode (by rw [hlull]; decide))) ?_ hdev.scan
  simp [hlull, ModeNext]

theorem execSoftDeviceReset_moves (key : BitVec 16) : OutMoves s (execSoftDeviceReset key s) := s.softReset_moves .dev _ _

/-! ## LULL -/

/-- An entry into LULL that runs goes on by a step. -/
theorem State.lullGoesOn_moves {t : State} {d : Dev} (hstep : s.dev.lullStep ≠ 0) (h : Still s t) (hd : d.lullFrom = t.dev.lullFrom) :
    Moves s { t with dev := d } := by
  refine ⟨fun ⟨hsteep, hprobe, hlull⟩ => ⟨.inl h.cur, ?_, ?_, fun _ => ?_⟩, fun k => .inl (h.scan k)⟩
  · intro hm
    change t.steepAims
    exact h.toModeStill.steepAims (hsteep (h.cur.symm.trans hm))
  · intro hm
    exact h.trans.trans (hprobe (h.cur.symm.trans hm))
  · obtain ⟨hmode, hfrom, htrans, htarget⟩ := hlull hstep
    exact ⟨h.cur.symm ▸ hmode, hd.trans (h.lullFrom.trans (hfrom.trans h.cur.symm)), h.trans.trans htrans, h.target.trans htarget⟩

theorem execLullDrainDone_moves : OutMoves s (execLullDrainDone s) := by
  have hdrain : Still s ((s.dropHeld s.uid).cutRings 7).vaneRetain :=
    (State.vaneRetain_law (State.cutRings_law (State.dropHeld_law (.refl _ _ s) _ rfl rfl) _ rfl rfl) rfl rfl).still
  unfold execLullDrainDone
  exact .ite (fun h => .next (State.lullGoesOn_moves s (by omega) hdrain rfl)) fun _ => .stays

theorem execLullCommit_moves : OutMoves s (execLullCommit s) := by
  have hcopies : Still s s.takeCopies := (State.takeCopies_law (.refl _ _ s) rfl rfl).still
  unfold execLullCommit
  exact .ite (fun h => .next (State.lullGoesOn_moves s (by omega) hcopies rfl)) fun _ => .stays

theorem execLullShutdownDone_moves : OutMoves s (execLullShutdownDone s) := by
  unfold execLullShutdownDone
  refine .ite (fun h => .next ?_) fun _ => .stays
  have hreset := s.coreReset_blanked (m := Mode.LULL) (by decide)
  have hcause : Blanked Mode.LULL (if (s.coreReset Mode.LULL).dev.conds = 0 then s.coreReset Mode.LULL else (s.coreReset Mode.LULL).flag F.DEV_FATAL.AON_CLK) := by
    split
    · exact hreset
    · exact hreset.comp_still (Still.flag _ _ (.of_lt (by decide) (by decide)))
  have hend := hcause.comp_still (Still.of_dev _ (d := { (if (s.coreReset Mode.LULL).dev.conds = 0 then s.coreReset Mode.LULL else
    (s.coreReset Mode.LULL).flag F.DEV_FATAL.AON_CLK).dev with wakeStep := b2n s.dev.wakeLatched }) rfl rfl)
  refine ⟨fun hs => (hend.moves ?_ (by decide)).mode hs, fun k => .inr (.inl (hend.scans k))⟩
  obtain ⟨-, -, hlull⟩ := hs
  obtain ⟨hmode, -⟩ := hlull (by omega)
  rcases hmode with hm | hm | hm <;> rw [hm] <;> simp [ModeNext]

theorem execWakeEvent_moves (lanes : BitVec 8) (evts : BitVec 4) (wakeIn supply : Bool) : OutMoves s (execWakeEvent lanes evts wakeIn supply s) := by
  unfold execWakeEvent
  dsimp only
  generalize hs1 : s.flagBits _ _ = s1
  have h1 : Still s s1 := by
    subst hs1
    exact (Still.of_wr s (a := Reg.DEV_WAKE_SRC) _ (.of_lt (by decide) (by decide))).comp (State.noteSet_law (.refl _ _ _) _ _).still
  refine .ite (fun hfires => .ite (fun _ => .next (.comp_still h1.moves (Still.of_dev _ rfl rfl))) fun hne => .ite (fun _ => .next ?_) fun _ =>
    .next (.comp_still h1.moves (Still.of_dev _ rfl rfl))) fun _ => .stays
  have hstep : s.dev.lullStep ≠ 0 := by
    simp only [Bool.and_eq_true, Bool.or_eq_true, bne_iff_ne, beq_iff_eq] at hfires
    exact hfires.2.resolve_left hne
  refine ⟨fun ⟨_, _, hlull⟩ => ?_, fun k => .inl (((State.setMode_scanState _ _ _ _).trans rfl).trans (h1.scan k))⟩
  obtain ⟨hmode, hfrom, -⟩ := hlull hstep
  have hset := State.setMode_set { s1 with dev := { s1.dev with lullStep := 0 } } (m := s.dev.lullFrom) (by rw [hfrom]; exact bitsOf_lt _ 2 0) 1
  refine ⟨.inl (hset.cur.trans hfrom), hset.modeSound rfl fun hm => ?_⟩
  rw [hfrom.symm.trans hm] at hmode
  exact absurd hmode (by decide)

/-! ## LOAD and STEEP -/

theorem execImageFetchComplete_moves (src : ImgSource) (img : List Byte) (cal : CalFlash) : OutMoves s (execImageFetchComplete src img cal s) := by
  have hfound : Still s (s.discover src) := (State.discover_law (.refl _ _ s) src rfl rfl).still
  unfold execImageFetchComplete
  refine .ite (fun h => .next ?_) fun _ => .stays
  have hload : s.mode = Mode.LOAD := by
    simp only [Bool.and_eq_true] at h
    have hwaits := h.1
    cases src <;> simp only [State.loadAwaits, State.flashLoading, Bool.and_eq_true, beq_iff_eq] at hwaits <;> tauto
  exact hfound.moves_comp (State.loadImage_moves (hfound.cur.trans hload) _ _ _ _)

/-- STEEP ends in its target, and its dark powered slices become ACTIVE. -/
theorem execSteepExit_moves : OutMoves s (execSteepExit s) := by
  unfold execSteepExit
  refine .acts fun ⟨hsteep, _⟩ => ?_
  have hslices : Subsides (fun _ => True) s ((List.range 4).foldl (fun t i =>
      if s.powered i && s.slc i == Slc.DARK then t.setSlc i Slc.ACTIVE else t) s) :=
    .foldl _ (.refl _ s) fun _ _ ht => .either (State.setSlc_subsides ht _ _) ht
  generalize (List.range 4).foldl (fun t i => if s.powered i && s.slc i == Slc.DARK then t.setSlc i Slc.ACTIVE else t) s = s1 at hslices
  have hrings := State.ringsStart_still (s1.setMode (s.fld F.DEV_MODE.STEEP_TARGET))
  refine ⟨fun hs => ?_, ((hslices.scans.setMode _ _).comp fun k _ => .inl (hrings.scan k)).moves⟩
  have hl : s1.dev.lullStep = 0 := by
    rcases hslices.mode with h | ⟨-, -, -, h⟩
    · exact h.lullStep.trans (hs.lullStep_of_mode (by rw [hsteep]; decide))
    · exact h
  obtain ⟨haims, -⟩ := hs
  have haims := haims hsteep
  have hm : s.fld F.DEV_MODE.STEEP_TARGET < 8 := bitsOf_lt _ 10 8
  have hset := (s1.setMode_set hm 0).comp_still hrings.toModeStill
  refine ⟨?_, hset.modeSound hl fun he => ?_⟩
  · rw [hset.cur, hsteep]
    rcases haims with h | h <;> rw [h] <;> simp [ModeNext]
  · rw [he] at haims
    exact absurd haims (by decide)

/-! ## The requests and the ends of transitions -/

theorem execSliceDrainDone_moves (i : Nat) : OutMoves s (execSliceDrainDone i s) := by
  unfold execSliceDrainDone
  exact .named (.acts fun _ => State.settle_moves (State.darkNow_subsides (.refl _ s) i))

theorem execSliceDrainLimitExpiry_moves (i : Nat) : OutMoves s (execSliceDrainLimitExpiry i s) := by
  unfold execSliceDrainLimitExpiry
  refine .named (.acts fun _ => State.settle_moves (State.darkNow_subsides (.law (.refl _ s) ?_) i))
  refine State.purge_law (.refl _ _ _) _ _ (fun f p _ landed c hc => ?_) rfl rfl
  split at hc
  · obtain rfl := Option.some.inj hc
    exact .inr ⟨136, _, rfl, rfl, Reg.PRT_FAB_CNT_has_6 p⟩
  · cases hc

theorem execSlicePowerUpDone_moves (i : Nat) (cal : CalFlash) : OutMoves s (execSlicePowerUpDone i cal s) := by
  unfold execSlicePowerUpDone
  refine .named (.acts fun _ => State.settle_moves (.foldl _ (State.portsTrain_subsides ?_ i) fun _ _ ht => ?_))
  · have hfill := State.refill_subsides (.refl (fun _ => True) s) i (if s.mode = Mode.STEEP then Slc.DARK else Slc.ACTIVE)
    exact State.setSlcStep_subsides (hfill.law (State.readCal_law (.refl _ _ _) _ _ _ rfl rfl)) i 0
  · exact ht.law (State.gclCatch_law (.refl _ _ _) _ rfl rfl)

theorem execSliceResetDone_moves (i : Nat) : OutMoves s (execSliceResetDone i s) := by
  unfold execSliceResetDone
  exact .named (.acts fun _ => State.settle_moves (State.refill_subsides (.refl _ s) i _))

theorem execPartialImageApplied_moves (i : Nat) : OutMoves s (execPartialImageApplied i s) := by
  unfold execPartialImageApplied
  refine .named (.ite (fun _ => .ite (fun _ => .next (State.settle_moves ?_)) fun _ => .next (State.settle_moves ?_)) fun _ => .stays)
  · have hfault := State.setSlc_subsides (.refl (fun _ => True) s) i Slc.FAULT
    exact hfault.law (State.imgEnd_law (State.imgDetail_law (State.dropPart_law (.refl _ _ _) rfl rfl) _ rfl rfl) _ _ rfl rfl)
  · have hactive := State.setSlc_subsides (State.commitPart_subsides (.refl (fun _ => True) s) i) i Slc.ACTIVE
    exact hactive.law (State.imgEnd_law (.refl _ _ _) _ _ rfl rfl)

end

end Sys2Proof.Machine
end

section
/-! Host writes and the engines' commands (O5, O6). -/

namespace Sys2Proof.Machine

/-! ## The start of a scan -/

/-- An engine that leaves its state for SCAN. -/
theorem State.scanBegin_still (s : State) (k : Nat) : Still (s.setFld (F.ST_ENG_RESULT.STATE k) Scan.SCAN) (s.scanBegin k) := by
  have hset : ∀ {t}, Still (s.setFld (F.ST_ENG_RESULT.STATE k) Scan.SCAN) t → ∀ x, Still (s.setFld (F.ST_ENG_RESULT.STATE k) Scan.SCAN) (t.setScan k x) :=
    fun h x => h.comp (State.setScan_law (.refl _ _ _) _ _ rfl rfl).still
  have h0 : Still (s.setFld (F.ST_ENG_RESULT.STATE k) Scan.SCAN) (s.setFld (F.ST_ENG_RESULT.STATE k) Scan.SCAN) := (Law.refl _ _ _).still
  unfold State.scanBegin
  dsimp only
  split
  · have hcells : Still (s.setFld (F.ST_ENG_RESULT.STATE k) Scan.SCAN)
        ((s.setFld (F.ST_ENG_RESULT.STATE k) Scan.SCAN).pktCells (ceilDiv (s.scanLen k) 256)).1 :=
      (State.pktCells_law (.refl Mask.still Mask.noDev _) _ rfl rfl).still
    split
    · exact hset hcells _
    · exact hset (hcells.comp (State.bufFreeAll_law (.refl _ _ _) _ _ rfl rfl).still) _
  · exact hset h0 _

theorem State.scanBegin_modeStill (s : State) (k : Nat) : ModeStill s (s.scanBegin k) :=
  (ModeStill.setState s k Scan.SCAN).comp (s.scanBegin_still k).toModeStill

theorem State.scanState_scanBegin (s : State) (k j : Nat) : (s.scanBegin k).scanState j = if j % 8 = k % 8 then Scan.SCAN else s.scanState j := by
  rw [(s.scanBegin_still k).scan, State.scanState_setState]
  rfl

/-- The engines are numbered modulo 8. -/
theorem State.scanState_congr (s : State) {j k : Nat} (h : j % 8 = k % 8) : s.scanState j = s.scanState k := by
  unfold State.scanState F.ST_ENG_RESULT.STATE
  rw [Reg.ST_ENG_RESULT_eq_iff.mpr h]

theorem State.scanBegin_moves {s : State} {k : Nat} (h : s.scanState k = Scan.IDLE) : Moves s (s.scanBegin k) := by
  refine ⟨ModeSubsides.moves (.inl (s.scanBegin_modeStill k)), fun j => ?_⟩
  rw [State.scanState_scanBegin]
  split
  case isTrue hj => exact .inr (.inr (.inl ⟨(s.scanState_congr hj).trans h, rfl⟩))
  case isFalse => exact .inl rfl

theorem State.scanGo_moves (s : State) {a : Acc} (he : ErrStill a.base) (k : Nat) (rsv : Bool) : Moves s (s.scanGo a k rsv) := by
  unfold State.scanGo
  refine State.guard_moves he _ fun t ht _ _ hchecks => ?_
  have hbusy : s.scanState k = Scan.IDLE := by
    have h := hchecks (s.scanState k != Scan.IDLE || (s.fld (F.ST_ENG_CFG.MEM k) == 3 && !s.img.shadowed), Err.BUSY)
      (by simp [State.goChecks]) (show Err.BUSY ∈ Err.order by decide)
    simp only [Bool.or_eq_false_iff, bne_eq_false_iff_eq] at h
    exact h.1
  have hdirty : Still t (t.setScan k { t.scan k with dirty := true }) := (State.setScan_law (.refl _ _ _) _ _ rfl rfl).still
  exact hdirty.moves_comp (State.scanBegin_moves ((hdirty.scan k).trans ((ht.scan k).trans hbusy)))

theorem State.scanCtrl_moves (s : State) {a : Acc} (he : ErrStill a.base) (k v : Nat) (rsv : Bool) : Moves s (s.scanCtrl a k v rsv) := by
  have hid : ∀ cs, Moves s (s.guard a cs id) := fun _ => (State.guard_id_subsides (.refl _ s) he _).moves
  unfold State.scanCtrl
  exact .ite (fun _ => hid _) fun _ => .ite (fun _ => s.scanGo_moves he _ _) fun _ =>
    .ite (fun _ => (State.scanStop_subsides (.refl _ s) he _ _).moves) fun _ => hid _

/-! ## The decoded write of a block -/

/-- A write of a block's register is checked and then handed to the block; beside that it leaves the mode fields and the engines. -/
theorem State.write0_block_cases {R : State → Prop} {s : State} {x : Nat} (hx : x < 0xC00000) (hmsix : x < 0x8000 ∨ 0x9008 ≤ x) (v : Nat)
    (wide bad : Bool) (hstill : ∀ t, Still s t → R t) (hact : ∀ a c, ErrStill a.base → CardStill x c → R (s.blockWrite a x v c)) :
    R (s.write0 x v wide bad) := by
  have hbase : ErrStill (x / 0x100000 * 0x100000) := .block (by omega)
  have hrefl : ∀ t, Still t t := fun t => (Law.refl _ _ t).still
  unfold State.write0
  rw [placeOf_block hx]
  dsimp only
  rw [if_neg (by omega), if_neg (by omega)]
  unfold State.unitWrite
  split
  next c hfind =>
    have hcard : CardStill x c := .of_find hfind
    have hacc : ErrStill (Acc.mk (x / 0x100000 * 0x100000) x false false true (c.rsvHit x v wide) bad).base := hbase
    unfold State.cardWrite
    simp only [if_true]
    generalize Acc.mk (x / 0x100000 * 0x100000) x false false true (c.rsvHit x v wide) bad = a at hacc
    split
    · exact hstill _ (State.errClear_law (.refl _ _ _) _ _ hacc.status hacc.ofs rfl rfl).still
    split
    · exact hstill _ (Still.guard s hacc _ fun _ ht => ht)
    · exact hact a c hacc hcard
  next =>
    have hacc : ErrStill (Acc.mk (x / 0x100000 * 0x100000) x false false true false bad).base := hbase
    exact hstill _ (Still.guard s hacc _ fun _ ht => ht)

/-- The words beside the commands in their double words: DEV_MODE, the word after DEV_RESET, and the results of the engines. -/
def BesideCommand (x : Nat) : Prop := x = 0x100 ∨ x = 0x114 ∨ (0x701000 ≤ x ∧ x < 0x800000 ∧ x % 0x40 = 0x1C)

theorem State.blockWrite_besideCommand {s : State} {a : Acc} {c : Card} {x : Nat} (he : ErrStill a.base) (hc : CardStill x c) (v : Nat)
    (hx : BesideCommand x) : Still s (s.blockWrite a x v c) := by
  have hp := s.plain_still he hc v
  unfold State.blockWrite
  rcases hx with rfl | rfl | ⟨hlo, hhi, hr⟩
  · exact hp _
  · exact hp _
  · have hblock : x / 0x100000 = 7 := by omega
    simp only [hblock]
    unfold State.stWrite
    rw [if_pos hlo]
    simpa [hr] using hp []

theorem State.blockWrite_modeReq (s : State) (a : Acc) (v : Nat) (c : Card) : s.blockWrite a Reg.DEV_MODE_REQ v c = s.modeReq a (v % 8) false := by
  unfold State.blockWrite
  dsimp only
  rw [if_pos (by decide)]
  exact if_pos rfl

theorem State.blockWrite_devReset (s : State) (a : Acc) (v : Nat) (c : Card) : s.blockWrite a Reg.DEV_RESET v c = s.devReset a v false := by
  unfold State.blockWrite
  dsimp only
  rw [if_pos (by decide)]
  unfold State.devWrite
  rw [if_neg (by decide), if_pos rfl]

theorem State.blockWrite_moves {s : State} {a : Acc} {c : Card} {x : Nat} (he : ErrStill a.base) (v : Nat) (hx : Commands x) :
    Moves s (s.blockWrite a x v c) := by
  rcases hx with rfl | rfl | ⟨hlo, hhi, hr⟩
  · rw [State.blockWrite_modeReq]
    exact s.modeReq_moves he _ _
  · rw [State.blockWrite_devReset]
    unfold State.devReset
    exact .ite (fun _ => s.softReset_moves he _ _) fun _ => .ite (fun _ => (State.guard_id_subsides (.refl _ s) he _).moves) fun _ =>
      (State.sliceReset_subsides (.refl _ s) he _ _ _).moves
  · have hblock : x / 0x100000 = 7 := by omega
    unfold State.blockWrite
    simp only [hblock]
    unfold State.stWrite
    rw [if_pos hlo]
    simpa [hr] using s.scanCtrl_moves he _ v false

theorem State.write0_besideCommand (s : State) {x : Nat} (v : Nat) (wide bad : Bool) (hx : BesideCommand x) : Still s (s.write0 x v wide bad) :=
  State.write0_block_cases (R := Still s) (by unfold BesideCommand at hx; omega) (by unfold BesideCommand at hx; omega) v wide bad
    (fun _ ht => ht) fun _ _ he hc => State.blockWrite_besideCommand he hc v hx

theorem State.write0_moves (s : State) (x v : Nat) (wide bad : Bool) : Moves s (s.write0 x v wide bad) := by
  by_cases hx : Commands x
  · have hlt : x < 0xC00000 ∧ (x < 0x8000 ∨ 0x9008 ≤ x) := by
      unfold Commands Reg.DEV_MODE_REQ Reg.DEV_RESET at hx
      omega
    exact State.write0_block_cases (R := Moves s) hlt.1 hlt.2 v wide bad (fun _ ht => ht.moves) fun _ _ he _ => State.blockWrite_moves he v hx
  · exact (State.write0_subsides (.refl _ s) x v wide bad hx).moves

/-! ## Host writes -/

theorem State.writeAt_moves (s : State) (bar2 : Bool) (x v : Nat) (wide bad : Bool) : Moves s (s.writeAt bar2 x v wide bad) :=
  .ite (fun _ => (State.write2_subsides (.refl _ s) _ _ _).moves) fun _ => s.write0_moves _ _ _ _

/-- The two words of a 64-bit write: at most one of them commands, and the other is then beside it. -/
theorem State.twoWrites_moves (s : State) (bar2 : Bool) {x : Nat} (lo hi : Nat) (hx : x % 8 = 0) :
    Moves s ((s.writeAt bar2 x lo false false).writeAt bar2 (x + 4) hi false false) := by
  cases bar2 with
  | true => exact (State.writeAt_subsides (State.writeAt_subsides (.refl _ s) true x lo false false (.inl rfl)) true (x + 4) hi false false (.inl rfl)).moves
  | false =>
    by_cases hlo : Commands x
    · have hbeside : BesideCommand (x + 4) := by
        unfold Commands Reg.DEV_MODE_REQ Reg.DEV_RESET at hlo
        unfold BesideCommand
        omega
      exact (s.write0_moves x lo false false).comp_still (State.write0_besideCommand _ _ _ _ hbeside)
    by_cases hhi : Commands (x + 4)
    · have hbeside : BesideCommand x := by
        unfold Commands Reg.DEV_MODE_REQ Reg.DEV_RESET at hhi
        unfold BesideCommand
        omega
      exact (State.write0_besideCommand s _ _ _ hbeside).moves_comp (State.write0_moves _ _ _ _ _)
    · exact (State.writeAt_subsides (State.writeAt_subsides (.refl _ s) false x lo false false (.inr hlo)) false (x + 4) hi false false (.inr hhi)).moves

theorem State.hostWrite_moves (s : State) (a : Access) (v : BitVec 64) : Moves s (s.hostWrite a v) := by
  unfold State.hostWrite
  refine .ite (fun _ => s.writeAt_moves _ _ _ _ _) fun hshape => .ite (fun _ => s.writeAt_moves _ _ _ _ _) fun hone =>
    .ite (fun _ => s.writeAt_moves _ _ _ _ _) fun _ => s.twoWrites_moves _ _ _ ?_
  simp only [accShaped, Bool.not_eq_true', Bool.and_eq_false_iff, not_or, Bool.not_eq_false, Bool.or_eq_true, Bool.and_eq_true, beq_iff_eq] at hshape
  obtain ⟨-, ⟨h1, -⟩ | ⟨-, h2⟩⟩ := hshape
  · exact absurd h1 hone
  · exact h2

end Sys2Proof.Machine
end

section
/-! The commands that begin neither a mode nor a scan (O5, O6). -/

namespace Sys2Proof.Machine

section
variable (s : State)

/-- Neither a mode nor a scan of any engine begins. -/
abbrev SubsidesAll (s t : State) : Prop := Subsides (fun _ => True) s t

theorem SubsidesAll.refl : SubsidesAll s s := Subsides.refl _ s

theorem Subsides.wrapAdd {K : Nat → Prop} {s t : State} (h : Subsides K s t) (f : Fld) (n : Nat) (ha : Apart f.ofs) :
    Subsides K s (t.wrapAdd f n) := h.wr _ ha

theorem Subsides.eachLane {K : Nat → Prop} {s t : State} (h : Subsides K s t) (p : Nat) {f : State → Nat → State}
    (hf : ∀ u l, Subsides K s u → Subsides K s (f u l)) : Subsides K s (t.eachLane p f) := .foldl _ h hf

theorem ErrStill.prt (p : Nat) : ErrStill (Base.PRT p) := .space 1 p
theorem ErrStill.lane (l : Nat) : ErrStill (Base.LN l) := .space 2 l
theorem ErrStill.cd : ErrStill Base.CD := .block (k := 10) (by decide)
theorem ErrStill.st : ErrStill Base.ST := .block (k := 7) (by decide)

/-! ## Triggers -/

theorem execRingHostTrigger_moves (n : Nat) : OutMoves s (execRingHostTrigger n s) :=
  .named (.next (State.hostTrigger_subsides (SubsidesAll.refl s) .cd n).moves)

theorem execAlarmFire_moves (n : Nat) : OutMoves s (execAlarmFire n s) := by
  have hstatus : Apart Reg.KT_ALM_STATUS := .of_lt (by decide) (by decide)
  have hcfg : Apart (Reg.KT_ALM_CFG n) := .of_lt (by unfold Reg.KT_ALM_CFG; omega) (by unfold Reg.KT_ALM_CFG Reg.DEV_MODE; omega)
  have hfire : SubsidesAll s ((s.flagBit F.KT_ALM_STATUS.FIRED n).setFld (F.KT_ALM_CFG.ARM n) 0) := ((SubsidesAll.refl s).flagBit _ _ hstatus).setFld _ _ hcfg
  unfold execAlarmFire
  exact .named (.subsides (State.offerTrigger_subsides (.either (hfire.spoutEvent _ _ _) hfire) _ _ _))

theorem execEventInputTransition_moves (n : Nat) (level : Bool) (tap : Nat) : OutMoves s (execEventInputTransition n level tap s) :=
  .named (.subsides (State.evtTransition_subsides (SubsidesAll.refl s) _ _ _))

theorem execGlitchFilterExpiry_moves (n : Nat) : OutMoves s (execGlitchFilterExpiry n s) := by
  unfold execGlitchFilterExpiry
  refine .named ?_
  split
  · exact .stays
  · exact .next (State.evtQualified_subsides ((SubsidesAll.refl s).law (State.setChan_law (.refl _ _ _) _ _ rfl rfl)) _ _).moves

/-! ## Kettle -/

theorem execChannelExclusion_moves (chs : BitVec 3) : OutMoves s (execChannelExclusion chs s) := by
  unfold execChannelExclusion
  refine .ite (fun _ => .stays) fun _ => ?_
  dsimp only
  have hall := State.excludeAll_subsides (SubsidesAll.refl s) 0 ((bitList 3 chs.toNat).filter fun c => s.allHealthy || s.chState c == 2)
  have hafter := Subsides.either (p := ((bitList 3 chs.toNat).filter fun c => s.allHealthy || s.chState c == 2).isEmpty = true) hall
    (State.afterExclusion_subsides hall)
  exact .ite (fun _ => .next (State.fatalHeld_subsides hafter _).moves) fun _ => .next hafter.moves

theorem execKettleWatchdogExpiry_moves (ch : Nat) : OutMoves s (execKettleWatchdogExpiry ch s) := by
  unfold execKettleWatchdogExpiry
  refine .named (.ite (fun _ => .stays) fun _ => .next ?_)
  have hwd := (State.watchdog_subsides (SubsidesAll.refl s) (5 + ch)).flagBit F.KT_CH_FLAGS.WD ch .ktChFlags
  exact (State.afterExclusion_subsides (State.exclude_subsides hwd _ _)).moves

theorem execReadmission_moves (ch : Nat) : OutMoves s (execReadmission ch s) := by
  unfold execReadmission
  refine .named (.acts fun _ => Subsides.moves ?_)
  have hback : SubsidesAll s ((s.setFld (F.chState ch) 0).count (Reg.KT_CNT 3)) := ((SubsidesAll.refl s).setFld _ _ .ktChStatus).count _ (.ktCnt 3)
  have hobs : SubsidesAll s { (s.setFld (F.chState ch) 0).count (Reg.KT_CNT 3) with kettle := { ((s.setFld (F.chState ch) 0).count (Reg.KT_CNT 3)).kettle with
      obs := ((s.setFld (F.chState ch) 0).count (Reg.KT_CNT 3)).kettle.obs.del ch } } := hback.parts rfl rfl
  have hend := State.condEnds_subsides (State.closeRecov_subsides (hobs.spoutEvent Sp.KT_CHANNEL ch 2) (5 + ch)) Fatal.KT_DISAGREE
  exact .either (hend.law (State.handover_law (.refl _ _ _) rfl rfl)) (.either (hend.setFld _ _ .ktChStatus) hend)

theorem execSourceLoss_moves (d : Nat) : OutMoves s (execSourceLoss d s) := .named (.next (State.sourceLost_subsides (SubsidesAll.refl s) d).moves)

theorem execServoUpdate_moves (d : Nat) : OutMoves s (execServoUpdate d s) := .named (.subsides (State.servoUpdate_subsides (SubsidesAll.refl s) d))

theorem Apart.ktTb {a : Nat} (h : a = Reg.KT_TB_STATUS ∨ a = Reg.KT_TB_FLAGS) : Apart a := by
  rcases h with rfl | rfl <;> exact .of_lt (by decide) (by decide)

theorem execOcxoWarmFall_moves : OutMoves s (execOcxoWarmFall s) := by
  have h0 : SubsidesAll s { s with dev := { s.dev with ocxoWarm := false } } := (SubsidesAll.refl s).dev rfl rfl
  have h1 := h0.setFld F.KT_TB_STATUS.WARM 0 (.ktTb (.inl rfl))
  unfold execOcxoWarmFall
  exact .ite (fun _ => .ite (fun _ => .next ((h1.flag F.KT_TB_FLAGS.WARM_LOST (.ktTb (.inr rfl))).spoutEvent _ _ _).moves) fun _ => .next h1.moves)
    fun _ => .next h0.moves

theorem execOcxoWarmRise_moves : OutMoves s (execOcxoWarmRise s) := by
  have h0 : SubsidesAll s { s with dev := { s.dev with ocxoWarm := true } } := (SubsidesAll.refl s).dev rfl rfl
  unfold execOcxoWarmRise
  exact .ite (fun _ => .next (h0.setFld F.KT_TB_STATUS.WARM 1 (.ktTb (.inl rfl))).moves) fun _ => .next h0.moves

theorem execSkewMeasurement_moves (sl : Nat) (skew : BitVec 32) : OutMoves s (execSkewMeasurement sl skew s) := by
  have hskew : Apart (Reg.PH_SKEW sl) := .of_lt (by unfold Reg.PH_SKEW; omega) (by unfold Reg.PH_SKEW Reg.DEV_MODE; omega)
  unfold execSkewMeasurement
  refine .named (.subsides ?_)
  have h1 : SubsidesAll s (s.setFld (F.PH_SKEW.SKEW sl) skew.toNat) := (SubsidesAll.refl s).setFld _ _ hskew
  have h2 : SubsidesAll s { s.setFld (F.PH_SKEW.SKEW sl) skew.toNat with dev := { (s.setFld (F.PH_SKEW.SKEW sl) skew.toNat).dev with
      skewOk := setBit (s.setFld (F.PH_SKEW.SKEW sl) skew.toNat).dev.skewOk sl true } } := h1.dev rfl rfl
  exact .either (h2.law (State.setRot_law (.refl _ _ _) _ _ rfl rfl)) h2

/-! ## The fabric -/

theorem execEpochBoundary_moves : OutMoves s (execEpochBoundary s) := .ite (fun _ => .stays) fun _ => .next (State.epochStep_subsides (SubsidesAll.refl s)).moves

theorem execSchedulerWatchdogExpiry_moves : OutMoves s (execSchedulerWatchdogExpiry s) := by
  have hcnt : Apart (Reg.FAB_CNT 7) := .of_le (by unfold Reg.FAB_CNT; omega)
  unfold execSchedulerWatchdogExpiry
  refine .ite (fun _ => .stays) fun _ => .next (Subsides.moves ?_)
  have hopen := State.openRecov_subsides (State.coveredFault_subsides ((State.watchdog_subsides (SubsidesAll.refl s) 4).count _ hcnt)) 4
  refine .foldl _ (hopen.law (State.setFab_law (.refl _ _ _) _ rfl rfl)) fun t x ht => ?_
  have hdrop := ht.law (State.copyDrop_law (.refl _ _ _) (t.lanePort x.out) x.copy (Reg.FAB_CNT 8) Htx.EGRESS_DROP
    (.inr ⟨295, _, rfl, rfl, Reg.FAB_CNT_has_8⟩) rfl rfl)
  dsimp only
  split
  · exact hdrop
  · split
    · exact hdrop
    · exact .either (hdrop.law (State.setFab_law (.refl _ _ _) _ rfl rfl)) (hdrop.law (State.setMc_law (.refl _ _ _) _ _ rfl rfl))

theorem execAuditRoundEnd_moves : OutMoves s (execAuditRoundEnd s) := by
  have hcnt : Apart (Reg.BPM_CNT 9) := .of_le (by unfold Reg.BPM_CNT; omega)
  have haudit : Apart Reg.BPM_AUDIT := .of_le (by decide)
  unfold execAuditRoundEnd
  refine .ite (fun _ => .stays) fun _ => .next (Subsides.moves ?_)
  have hleaks := Subsides.foldl s.leaked (SubsidesAll.refl s) (f := State.leakReturn) fun _ k ht => ht.law (State.leakReturn_law (.refl _ _ _) k rfl rfl)
  have hclose : SubsidesAll s (if s.leaked.isEmpty then s.leaked.foldl State.leakReturn s else (s.leaked.foldl State.leakReturn s).closeRecov 8) :=
    .either hleaks (State.closeRecov_subsides hleaks 8)
  have hround := ((hclose.count _ hcnt).wrapAdd F.BPM_AUDIT.ROUND 1 haudit).setFld F.BPM_AUDIT.LAST_LEAKS (min s.leaked.length 65535) haudit
  exact hround.law (State.setFab_law (.refl _ _ _) _ rfl rfl)

/-! ## Ports and lanes -/

theorem execIngressFrame_moves (p : Nat) (bs : List Byte) (t : LineStamp) (slots : Nat) : OutMoves s (execIngressFrame p bs t slots s) :=
  .named (.subsides (State.ingress_subsides (SubsidesAll.refl s) _ _ _ _))

theorem execCapReceived_moves (l : Nat) (arg : BitVec 24) (rxa : Bool) : OutMoves s (execCapReceived l arg rxa s) :=
  .named (.subsides (State.capMsg_subsides (SubsidesAll.refl s) _ _ _))

theorem execCapTimeout_moves (l : Nat) : OutMoves s (execCapTimeout l s) := .named (.subsides (State.setOper_subsides (SubsidesAll.refl s) _ _))

theorem execNakReceived_moves (l : Nat) (arg : BitVec 24) : OutMoves s (execNakReceived l arg s) := by
  have h1 : SubsidesAll s (s.setFld (F.LN_TRUNK_STATUS.NAK l) arg.toNat) := (SubsidesAll.refl s).setFld _ _ (.lnTrunkStatus l)
  unfold execNakReceived
  exact .named (.ite (fun _ => .ite (fun _ => .next (State.ceilHere_subsides h1 l).moves) fun _ =>
    .ite (fun _ => .next (h1.law (State.setTrunk_law (.refl _ _ _) _ _ rfl rfl)).moves) fun _ => .next h1.moves) fun _ => .stays)

theorem execResponseTimerExpiry_moves (l : Nat) : OutMoves s (execResponseTimerExpiry l s) := by
  have htries : ∀ x, SubsidesAll s (s.setTrunk l x) := fun x => (SubsidesAll.refl s).law (State.setTrunk_law (.refl _ _ _) _ x rfl rfl)
  unfold execResponseTimerExpiry
  exact .named (.ite (fun _ => .ite (fun _ => .next (State.ceilHere_subsides (htries _) l).moves) fun _ =>
    .next (State.negoEnter_subsides (htries _) l).moves) fun _ => .stays)

theorem execTrainReceived_moves (l : Nat) (arg : BitVec 24) (rxa : Bool) : OutMoves s (execTrainReceived l arg rxa s) := by
  unfold execTrainReceived
  exact .named (.subsides (State.negoEnter_subsides ((SubsidesAll.refl s).law (State.setTrunk_law (State.setStep_law (.refl _ _ _) _ _ rfl rfl) _ _ rfl rfl)) l))

theorem execDataMarkerReceived_moves (l : Nat) : OutMoves s (execDataMarkerReceived l s) := .named (.subsides (State.goUp_subsides (SubsidesAll.refl s) l))

theorem execMarkerReceived_moves (l : Nat) (pre m : List Bool) (t : LineStamp) : OutMoves s (execMarkerReceived l pre m t s) :=
  .named (.subsides (State.markerLine_subsides (SubsidesAll.refl s) _ _ _ _))

theorem execTrunkUnitReceived_moves (l : Nat) (hdr body : List Bool) (t : LineStamp) (slots : Nat) :
    OutMoves s (execTrunkUnitReceived l hdr body t slots s) := .named (.subsides (State.unitLine_subsides (SubsidesAll.refl s) _ _ _ _))

theorem Apart.lane {a : Nat} (h : 0x3000000 ≤ a) : Apart a := .of_le (by omega)

theorem Apart.lnCnt (l n : Nat) : Apart (Reg.LN_CNT l n) := .lane (by unfold Reg.LN_CNT; omega)

theorem execReorderTimeout_moves (p slots : Nat) : OutMoves s (execReorderTimeout p slots s) := by
  unfold execReorderTimeout
  refine .named (.subsides (State.reorderDrain_subsides (.law ?_ (State.setTrunk_law (.refl _ _ _) _ _ rfl rfl)) _ _ _))
  exact ((SubsidesAll.refl s).countN _ _ (.lnCnt p 6)).flag (F.LN_FLAGS.UNIT_ERR p) (.lnFlags p)

theorem execIdleHandshakeComplete_moves (l : Nat) : OutMoves s (execIdleHandshakeComplete l s) := by
  unfold execIdleHandshakeComplete
  refine .named (.subsides ?_)
  have h1 : SubsidesAll s (((s.txFinish l).setTrState l Tr.IDLE).setTrunk l { s.trunk l with idleTx := false, idleRx := false, exiting := false }) :=
    (SubsidesAll.refl s).law (State.setTrunk_law (State.setTrState_law (State.txFinish_law (.refl _ _ _) _ rfl rfl) _ _ rfl rfl) _ _ rfl rfl)
  have h2 := State.setOper_subsides (h1.eachLane l (f := fun u k => u.count (Reg.LN_CNT k 12)) fun _ k ht => ht.count _ (.lnCnt k 12)) l Oper.IDLE
  exact .either h2 (h2.law (State.trunkWake_law (.refl _ _ _) _ rfl rfl))

theorem execIdleExitTimeout_moves (l : Nat) : OutMoves s (execIdleExitTimeout l s) :=
  .named (.subsides (State.trunkDown_subsides ((SubsidesAll.refl s).count _ (.lnCnt l 13)) l))

theorem execLaneReset_moves (l : Nat) : OutMoves s (execLaneReset l s) := .named (.next (State.laneCtrl_subsides (SubsidesAll.refl s) (.lane l) _ _ _ _ _).moves)

theorem execLaneLoopPrbsWrite_moves (l : Nat) (loop prbs : BitVec 2) : OutMoves s (execLaneLoopPrbsWrite l loop prbs s) :=
  .named (.next (State.laneCtrl_subsides (SubsidesAll.refl s) (.lane l) _ _ _ _ _).moves)

theorem execLosDeassert_moves (l : Nat) : OutMoves s (execLosDeassert l s) := by
  have h1 : SubsidesAll s (s.setFld (F.LN_STATUS.LOS l) 0) := (SubsidesAll.refl s).setFld _ _ (.lnStatus l)
  unfold execLosDeassert
  exact .named (.ite (fun _ => .ite (fun _ => .next (State.setOper_subsides h1 _ _).moves) fun _ => .next h1.moves) fun _ => .stays)

theorem execLosLolPersist_moves (l : Nat) : OutMoves s (execLosLolPersist l s) := by
  have h1 : ∀ p, SubsidesAll s (((s.count (Reg.LN_CNT p 15)).flag (F.LN_FLAGS.DOWN p)).locksLost p) := fun p =>
    (((SubsidesAll.refl s).count _ (.lnCnt p 15)).flag (F.LN_FLAGS.DOWN p) (.lnFlags p)).law (State.locksLost_law (.refl _ _ _) _ rfl rfl)
  unfold execLosLolPersist
  exact .named (.ite (fun _ => .ite (fun _ => .next (State.trunkDown_subsides (h1 _) _).moves) fun _ =>
    .next (State.setOper_subsides (h1 _) _ _).moves) fun _ => .stays)

theorem execLaneLockAcquired_moves (l : Nat) : OutMoves s (execLaneLockAcquired l s) := by
  have h1 : SubsidesAll s (s.setFld (F.LN_STATUS.LOCK l) 1) := (SubsidesAll.refl s).setFld _ _ (.lnStatus l)
  unfold execLaneLockAcquired
  exact .named (.ite (fun _ => .ite (fun _ => .next (State.goUp_subsides h1 _).moves) fun _ => .next h1.moves) fun _ => .stays)

theorem execFirstAttemptTimeout_moves (l : Nat) : OutMoves s (execFirstAttemptTimeout l s) := by
  have h1 : SubsidesAll s (s.setFld (F.LN_STATUS.FIRST_DONE l) 1) := (SubsidesAll.refl s).setFld _ _ (.lnStatus l)
  unfold execFirstAttemptTimeout
  exact .named (.ite (fun _ => .ite (fun _ => .next (State.setOper_subsides h1 _ _).moves) fun _ => .next h1.moves) fun _ => .stays)

theorem execPortReset_moves (p : Nat) : OutMoves s (execPortReset p s) := .named (.next (State.portState_subsides (SubsidesAll.refl s) (.prt p) _ _ _ _ _).moves)

theorem execPortAdminDown_moves (p : Nat) : OutMoves s (execPortAdminDown p s) :=
  .named (.next (State.portState_subsides (SubsidesAll.refl s) (.prt p) _ _ _ _ _).moves)

theorem execPortAdminUp_moves (p : Nat) : OutMoves s (execPortAdminUp p s) :=
  .named (.next (State.portState_subsides (SubsidesAll.refl s) (.prt p) _ _ _ _ _).moves)

/-! ## Images -/

theorem execLoaderWatchdogExpiry_moves : OutMoves s (execLoaderWatchdogExpiry s) := by
  unfold execLoaderWatchdogExpiry
  dsimp only
  split
  · exact .stays
  next x _ =>
    have hfail := (SubsidesAll.refl s).law (State.loadFails_law (.refl _ _ _) (imgSourceCode x) ⟨0, Err.IMAGE_CHECK, 0, 0, 0⟩ rfl rfl)
    exact .next (State.coveredFault_subsides (State.watchdog_subsides hfail 8)).moves

theorem Subsides.withImg {K : Nat → Prop} {s0 s : State} (h : Subsides K s0 s) (g : Img) : Subsides K s0 { s with img := g } := h.parts rfl rfl

theorem execPartialImageFetched_moves (img : List Byte) : OutMoves s (execPartialImageFetched img s) := by
  have hstatus : Apart Reg.IMG_STATUS := .of_lt (by decide) (by decide)
  unfold execPartialImageFetched
  refine .ite (fun _ => ?_) fun _ => .stays
  dsimp only
  have hany : SubsidesAll s { s with img := { s.img with anySlice := false } } := (SubsidesAll.refl s).parts rfl rfl
  have h0 := hany.setFld F.IMG_STATUS.SLICE (s.partSlice img) hstatus
  generalize State.setFld { s with img := { s.img with anySlice := false } } F.IMG_STATUS.SLICE (s.partSlice img) = s0 at h0
  split
  · exact .next (h0.law (State.imgEnd_law (State.imgDetail_law (.refl _ _ _) _ rfl rfl) _ _ rfl rfl)).moves
  · refine .ite (fun _ => .next (Subsides.moves ?_)) fun _ => .next (h0.law (State.imgEnd_law (.refl _ _ _) _ _ rfl rfl)).moves
    exact ((State.setSlc_subsides h0 _ _).setFld F.IMG_STATUS.STATE ImgSt.APPLY hstatus).withImg _

/-! ## Power, clocks and slices -/

theorem execAonClkAbsent_moves : OutMoves s (execAonClkAbsent s) := .next (State.clkAbsent_subsides (SubsidesAll.refl s)).moves

theorem execAonClkReturn_moves : OutMoves s (execAonClkReturn s) := by
  have h1 : SubsidesAll s { s with aon := { s.aon with clkAbsent := false } } := (SubsidesAll.refl s).parts rfl rfl
  exact .next (State.condEnds_subsides h1 _).moves

theorem execAonRateMeasure_moves (n : Nat) : OutMoves s (execAonRateMeasure n s) := by
  unfold execAonRateMeasure
  refine .ite (fun _ => .stays) fun _ => .next (Subsides.moves ?_)
  have hrates : SubsidesAll s (if n = 0 then s else s.domains.foldl (fun t d => t.aonRate n d) s) :=
    .either (SubsidesAll.refl s) (.foldl _ (SubsidesAll.refl s) fun _ d ht => ht.law (State.aonRate_law (.refl _ _ _) n d rfl rfl))
  have hwin := hrates.law (State.winBegin_law (.refl _ _ _) rfl rfl)
  exact .either (State.clkAbsent_subsides hwin) hwin

theorem execSliceReset_moves (mask : BitVec 4) (key : BitVec 16) : OutMoves s (execSliceReset mask key s) := by
  unfold execSliceReset
  exact .ite (fun _ => .stays) fun _ => .next (State.sliceReset_subsides (SubsidesAll.refl s) .dev _ _ _).moves

theorem execSliceWatchdogExpiry_moves (i : Nat) : OutMoves s (execSliceWatchdogExpiry i s) :=
  .named (.subsides (State.sliceFault_subsides (State.watchdog_subsides (SubsidesAll.refl s) i) i))

theorem execSupplyOutOfRange_moves (r : Nat) (high : Bool) : OutMoves s (execSupplyOutOfRange r high s) := by
  unfold execSupplyOutOfRange
  refine .named (.subsides ?_)
  have hflag : SubsidesAll s (s.flagBit (if high then F.DEV_PWR_FLAGS.OVER else F.DEV_PWR_FLAGS.UNDER) r) :=
    (SubsidesAll.refl s).flagBit _ _ (by split <;> exact .of_lt (by decide) (by decide))
  dsimp only
  generalize s.flagBit (if high then F.DEV_PWR_FLAGS.OVER else F.DEV_PWR_FLAGS.UNDER) r = s1 at hflag
  have hrail : SubsidesAll s { s1 with dev := { s1.dev with rails := setBit s1.dev.rails r true } } := hflag.dev rfl rfl
  exact State.fatal_subsides hrail _

theorem execCorePllLoss_moves : OutMoves s (execCorePllLoss s) := .ite (fun _ => .stays) fun _ => .next (State.fatal_subsides (SubsidesAll.refl s) _).moves

theorem execCalmDropDone_moves : OutMoves s (execCalmDropDone s) := by
  have hdrop : SubsidesAll s (s.dropHeld s.dev.calmMark) := (SubsidesAll.refl s).law (State.dropHeld_law (.refl _ _ s) _ rfl rfl)
  unfold execCalmDropDone State.calmDropEnd
  exact .subsides (hdrop.dev rfl rfl)

theorem execPerstNAssert_moves : OutMoves s (execPerstNAssert s) := by
  have h1 : SubsidesAll s { s with dev := { s.dev with perstN := false } } := (SubsidesAll.refl s).dev rfl rfl
  unfold execPerstNAssert
  exact .ite (fun _ => .next h1.moves) fun _ => .next (h1.law (State.endpointReset_law (.refl _ _ _) _ rfl rfl)).moves

theorem execPerstNRelease_moves : OutMoves s (execPerstNRelease s) := .dev rfl rfl

/-! ## Modes -/

theorem execSteepPllsLocked_moves : OutMoves s (execSteepPllsLocked s) := by
  have hplls : SubsidesAll s { s with dev := { s.dev with steepPlls := true } } := (SubsidesAll.refl s).dev rfl rfl
  unfold execSteepPllsLocked
  refine .subsides (.foldl _ (hplls.law (State.vaneStart_law (.refl _ _ _) rfl rfl)) fun _ _ ht => ?_)
  exact State.retrain_subsides (State.firstAttempt_subsides ht _) _

theorem execAcquisitionLimitExpiry_moves : OutMoves s (execAcquisitionLimitExpiry s) := by
  unfold execAcquisitionLimitExpiry
  exact .ite (fun _ => .dev rfl rfl) fun _ => .stays

theorem execLullRailTimeout_moves : OutMoves s (execLullRailTimeout s) := by
  have h1 : SubsidesAll s { s with dev := { s.dev with wakeStep := 0 } } := (SubsidesAll.refl s).dev rfl rfl
  unfold execLullRailTimeout
  exact .subsides (h1.flag _ (.of_lt (by decide) (by decide)))

theorem execWakeRailsGood_moves : OutMoves s (execWakeRailsGood s) := by
  unfold execWakeRailsGood
  exact .ite (fun _ => .dev rfl rfl) fun _ => .stays

theorem execWakePllLocked_moves : OutMoves s (execWakePllLocked s) := by
  unfold execWakePllLocked
  exact .ite (fun _ => .dev rfl rfl) fun _ => .stays

/-! ## The Strainer -/

theorem execStrainerGo_moves (k : Nat) : OutMoves s (execStrainerGo k s) := .named (.next (s.scanGo_moves .st k false))

theorem execStrainerStop_moves (k : Nat) : OutMoves s (execStrainerStop k s) :=
  .named (.next (State.scanStop_subsides (SubsidesAll.refl s) .st k false).moves)

theorem execScanEnd_moves (k : Nat) (corrupt : BitVec 32) : OutMoves s (execScanEnd k corrupt s) := by
  unfold execScanEnd
  exact .named (.ite (fun h => .next (State.scanEnd_subsides (SubsidesAll.refl s) _ fun _ _ _ => h).moves) fun _ =>
    .subsides (s.scanStopped_subsides k _))

theorem execAliveExpWrite_moves (k : Nat) (v : BitVec 32) : OutMoves s (execAliveExpWrite k v s) :=
  .named (.next (State.aliveExp_subsides (SubsidesAll.refl s) .st k _).moves)

theorem execAliveDeadlineExpiry_moves (k : Nat) : OutMoves s (execAliveDeadlineExpiry k s) := by
  have hirq : Apart Reg.ST_IRQ := .of_lt (by decide) (by decide)
  have h0 : SubsidesAll s { s with dev := { s.dev with aliveArm := setBit s.dev.aliveArm k false } } := (SubsidesAll.refl s).dev rfl rfl
  unfold execAliveDeadlineExpiry
  refine .named (.ite (fun _ => .stays) fun _ => .ite (fun _ => .next (Subsides.moves ?_)) fun _ => .next h0.moves)
  exact (((h0.flag (F.ST_ENG_FLAGS.STUCK k) (.stEngFlags k)).flagBit F.ST_IRQ.STUCK k hirq).spoutEvent _ _ _ _).irqEval

theorem execEccDoubleError_moves (hit : EccHit) (w : Nat) : OutMoves s (execEccDoubleError hit w s) := by
  unfold execEccDoubleError
  exact .named (.ite (fun _ => .stays) fun _ => .next (State.eccDouble_subsides (SubsidesAll.refl s) hit w).moves)

/-! ## Accesses of the host -/

/-- A host write through either window. -/
theorem OutMoves.hostWrite (a : Access) (v : BitVec 64) : OutMoves s (if accInWindow a then .next (s.hostWrite a v) else .fault .noSuchInstance) :=
  .ite (fun _ => .next (s.hostWrite_moves a v)) fun _ => .fault _

theorem execErrStatusClear_moves (base : Nat) : OutMoves s (execErrStatusClear base s) :=
  .ite (fun _ => .next (s.write0_moves _ _ _ _)) fun _ => .fault _

end

end Sys2Proof.Machine
end

section
/-! What every step does to the mode and to the engines (O5, O6). -/

namespace Sys2Proof.Machine

/-- Every command but SCAN_PERIOD_EXPIRY moves the mode as Table 02.2 and the engines as Table 13.3 state: most by the law of their meaning, which
names neither DEV_MODE nor an engine's result. -/
theorem exec_moves (c : Instr) (s : State) (hc : ∀ k, c ≠ .scanPeriodExpiry k) : OutMoves s (exec c s) :=
  match c with
  | .registerWrite a v => OutMoves.hostWrite s a v
  | .unusedPortWrite a v => OutMoves.hostWrite s a v
  | .unmappedWrite a v => OutMoves.hostWrite s a v
  | .aliasWrite a v => OutMoves.hostWrite s a v
  | .aliasRead a => (execAliasRead_law s a rfl rfl).moves
  | .errStatusClear base => execErrStatusClear_moves s base
  | .pgAonFall => execPgAonFall_moves s
  | .pgCoreMemFall core mem => execPgCoreMemFall_moves s core mem
  | .resetNAssert => execResetNAssert_moves s
  | .powerUpStart bootSel core mem => execPowerUpStart_moves s bootSel core mem
  | .softDeviceReset key => execSoftDeviceReset_moves s key
  | .sliceReset mask key => execSliceReset_moves s mask key
  | .perstNAssert => execPerstNAssert_moves s
  | .perstNRelease => execPerstNRelease_moves s
  | .functionLevelReset => (execFunctionLevelReset_law s rfl rfl).moves
  | .pcieLinkUp bme msixEnable funcMask => (execPcieLinkUp_law s bme msixEnable funcMask rfl rfl).moves
  | .pcieLinkDown bmeOnly => (execPcieLinkDown_law s bmeOnly rfl rfl).moves
  | .portReset p => execPortReset_moves s p
  | .portAdminDown p => execPortAdminDown_moves s p
  | .portAdminUp p => execPortAdminUp_moves s p
  | .modeReqLull => s.modeReq_moves .dev Mode.LULL false
  | .modeReqBreeze => s.modeReq_moves .dev Mode.BREEZE false
  | .modeReqGale => s.modeReq_moves .dev Mode.GALE false
  | .modeReqCalm => s.modeReq_moves .dev Mode.CALM false
  | .modeReqProbe => s.modeReq_moves .dev Mode.PROBE false
  | .calmDropDone => execCalmDropDone_moves s
  | .corePllLoss => execCorePllLoss_moves s
  | .supplyOutOfRange rail high => execSupplyOutOfRange_moves s rail high
  | .aonClkAbsent => execAonClkAbsent_moves s
  | .aonRateMeasure aonCycles => execAonRateMeasure_moves s aonCycles
  | .imageFetchComplete src img cal => execImageFetchComplete_moves s src img cal
  | .loaderWatchdogExpiry => execLoaderWatchdogExpiry_moves s
  | .shadowCopy => (execShadowCopy_law s rfl rfl).moves
  | .fullImageFetch => (execFullImageFetch_law s rfl rfl).moves
  | .partialImageFetch sl => (execPartialImageFetch_law s sl rfl rfl).moves
  | .partialImageAbort => (execPartialImageAbort_law s rfl rfl).moves
  | .partialImageFetched img => execPartialImageFetched_moves s img
  | .slicePipelineEmpty sl => (execSlicePipelineEmpty_law s sl rfl rfl).moves
  | .partialImageApplied sl => execPartialImageApplied_moves s sl
  | .steepPllsLocked => execSteepPllsLocked_moves s
  | .linearisationDone ch h1 h2 => (execLinearisationDone_law s ch h1 h2 rfl rfl).moves
  | .acquisitionLimitExpiry => execAcquisitionLimitExpiry_moves s
  | .steepExit => execSteepExit_moves s
  | .sliceDrainDone sl => execSliceDrainDone_moves s sl
  | .sliceDrainLimitExpiry sl => execSliceDrainLimitExpiry_moves s sl
  | .slicePowerUpDone sl cal => execSlicePowerUpDone_moves s sl cal
  | .lullDrainDone => execLullDrainDone_moves s
  | .lullCommit => execLullCommit_moves s
  | .lullShutdownDone => execLullShutdownDone_moves s
  | .wakeEvent lanes evts wakeIn supply => execWakeEvent_moves s lanes evts wakeIn supply
  | .lullRailTimeout => execLullRailTimeout_moves s
  | .wakeRailsGood => execWakeRailsGood_moves s
  | .wakePllLocked => execWakePllLocked_moves s
  | .aonHandover phi => execAonHandover_moves s phi
  | .laneReset l => execLaneReset_moves s l
  | .trunkIdleReq l => (execTrunkIdleReq_law s l rfl rfl).moves
  | .trunkIdleExit l => (execTrunkIdleExit_law s l rfl rfl).moves
  | .markerReceived l pre m t => execMarkerReceived_moves s l pre m t
  | .trunkUnitReceived l hdr body t slots => execTrunkUnitReceived_moves s l hdr body t slots
  | .pointerReceived l pre ptr => (execPointerReceived_law s l pre ptr rfl rfl).moves
  | .reorderTimeout p slots => execReorderTimeout_moves s p slots
  | .capReceived l arg rxa => execCapReceived_moves s l arg rxa
  | .propReceived l arg => (execPropReceived_law s l arg rfl rfl).moves
  | .ackReceived l arg => (execAckReceived_law s l arg rfl rfl).moves
  | .nakReceived l arg => execNakReceived_moves s l arg
  | .trainReceived l arg rxa => execTrainReceived_moves s l arg rxa
  | .dataMarkerReceived l => execDataMarkerReceived_moves s l
  | .idleReqReceived l => (execIdleReqReceived_law s l rfl rfl).moves
  | .idleAckReceived l => (execIdleAckReceived_law s l rfl rfl).moves
  | .idleReqSend l => (execIdleReqSend_law s l rfl rfl).moves
  | .idleHandshakeComplete l => execIdleHandshakeComplete_moves s l
  | .idleActivityDetected l => (execIdleActivityDetected_law s l rfl rfl).moves
  | .idleExitTimeout l => execIdleExitTimeout_moves s l
  | .trunkSwitchStep l => (execTrunkSwitchStep_law s l rfl rfl).moves
  | .capTimeout l => execCapTimeout_moves s l
  | .responseTimerExpiry l => execResponseTimerExpiry_moves s l
  | .trainingTimerExpiry l => (execTrainingTimerExpiry_law s l rfl rfl).moves
  | .losAssert l => (execLosAssert_law s l rfl rfl).moves
  | .losDeassert l => execLosDeassert_moves s l
  | .lolAssert l => (execLolAssert_law s l rfl rfl).moves
  | .losLolPersist l => execLosLolPersist_moves s l
  | .laneLockAcquired l => execLaneLockAcquired_moves s l
  | .firstAttemptTimeout l => execFirstAttemptTimeout_moves s l
  | .eyeMeasurement l width height => (execEyeMeasurement_law s l width height rfl rfl).moves
  | .ingressFrame p bytes t slots => execIngressFrame_moves s p bytes t slots
  | .learnRequestApply sl => (execLearnRequestApply_law s sl rfl rfl).moves
  | .stashMove sl => (execStashMove_law s sl rfl rfl).moves
  | .moveSecondEnd sl => (execMoveSecondEnd_law s sl rfl rfl).moves
  | .ageingVisit sl slot => (execAgeingVisit_law s sl slot rfl rfl).moves
  | .twWrite w table => (execTwWrite_law s w table rfl rfl).moves
  | .twDelete w table => (execTwDelete_law s w table rfl rfl).moves
  | .twRead w table => (execTwRead_law s w table rfl rfl).moves
  | .twRaw w table => (execTwRaw_law s w table rfl rfl).moves
  | .twFlush w table => (execTwFlush_law s w table rfl rfl).moves
  | .twCommandDone w => (execTwCommandDone_law s w rfl rfl).moves
  | .fenceSet sl fenceEv => (execFenceSet_law s sl fenceEv rfl rfl).moves
  | .fenceDone sl => (execFenceDone_law s sl rfl rfl).moves
  | .epochBoundary => execEpochBoundary_moves s
  | .residueTimeout plane slice id => (execResidueTimeout_law s plane slice id rfl rfl).moves
  | .spillRefill slice n cls => (execSpillRefill_law s slice n cls rfl rfl).moves
  | .auditRoundEnd => execAuditRoundEnd_moves s
  | .residenceSweep => (execResidenceSweep_law s rfl rfl).moves
  | .hostBufferFree handle => (execHostBufferFree_law s handle rfl rfl).moves
  | .poolLowClear => (execPoolLowClear_law s rfl rfl).moves
  | .egressSelect p dep => (execEgressSelect_law s p dep rfl rfl).moves
  | .gateEntryTransition p => (execGateEntryTransition_law s p rfl rfl).moves
  | .gclCommit p => (execGclCommit_law s p rfl rfl).moves
  | .gclCommitOff p => (execGclCommitOff_law s p rfl rfl).moves
  | .gclAbort p => (execGclAbort_law s p rfl rfl).moves
  | .gclSwitch p => (execGclSwitch_law s p rfl rfl).moves
  | .pfcFrameReceived p enable quanta => (execPfcFrameReceived_law s p enable quanta rfl rfl).moves
  | .macControlReceived p => (execMacControlReceived_law s p rfl rfl).moves
  | .pauseExpiry p c => (execPauseExpiry_law s p c rfl rfl).moves
  | .pauseWatchdogExpiry p c => (execPauseWatchdogExpiry_law s p c rfl rfl).moves
  | .wdDropClear p c => (execWdDropClear_law s p c rfl rfl).moves
  | .frerWrite => (execFrerWrite_law s rfl rfl).moves
  | .frerRead => (execFrerRead_law s rfl rfl).moves
  | .frerReset => (execFrerReset_law s rfl rfl).moves
  | .frerRecoveryTimeout inst => (execFrerRecoveryTimeout_law s inst rfl rfl).moves
  | .channelExclusion chs => execChannelExclusion_moves s chs
  | .kettleWatchdogExpiry ch => execKettleWatchdogExpiry_moves s ch
  | .channelCopy ch => (execChannelCopy_law s ch rfl rfl).moves
  | .readmission ch => execReadmission_moves s ch
  | .leadHandover => (execLeadHandover_law s rfl rfl).moves
  | .handoverForced => (execHandoverForced_law s rfl rfl).moves
  | .timebaseGateEnd cycles => (execTimebaseGateEnd_law s cycles rfl rfl).moves
  | .timebaseAbsent => (execTimebaseAbsent_law s rfl rfl).moves
  | .timebasePresent => (execTimebasePresent_law s rfl rfl).moves
  | .ocxoWarmFall => execOcxoWarmFall_moves s
  | .ppsEdge n => (execPpsEdge_law s n rfl rfl).moves
  | .offsetFeedPush d hi => (execOffsetFeedPush_law s d hi rfl rfl).moves
  | .feedCreditGrant d n => (execFeedCreditGrant_law s d n rfl rfl).moves
  | .feedCreditRecall d => (execFeedCreditRecall_law s d rfl rfl).moves
  | .servoUpdate d => execServoUpdate_moves s d
  | .sourceLoss d => execSourceLoss_moves s d
  | .pairRevert k => (execPairRevert_law s k rfl rfl).moves
  | .pairHoldPartner k => (execPairHoldPartner_law s k rfl rfl).moves
  | .pairUsePrimary k => (execPairUsePrimary_law s k rfl rfl).moves
  | .incrementWrite d hi => (execIncrementWrite_law s d hi rfl rfl).moves
  | .fhtStart ch => (execFhtStart_law s ch rfl rfl).moves
  | .fhtPeriodicDue => (execFhtPeriodicDue_law s rfl rfl).moves
  | .fhtComplete fault => (execFhtComplete_law s fault rfl rfl).moves
  | .alarmArm n domain spout => (execAlarmArm_law s n domain spout rfl rfl).moves
  | .alarmFire n => execAlarmFire_moves s n
  | .snapshot => (execSnapshot_law s rfl rfl).moves
  | .syncReceived p m t => (execSyncReceived_law s p m t rfl rfl).moves
  | .followUpReceived p m t => (execFollowUpReceived_law s p m t rfl rfl).moves
  | .delayReqReceived p m t => (execDelayReqReceived_law s p m t rfl rfl).moves
  | .delayRespReceived p m t => (execDelayRespReceived_law s p m t rfl rfl).moves
  | .pdelayReqReceived p m t => (execPdelayReqReceived_law s p m t rfl rfl).moves
  | .pdelayRespReceived p m t => (execPdelayRespReceived_law s p m t rfl rfl).moves
  | .pdelayRespFuReceived p m t => (execPdelayRespFuReceived_law s p m t rfl rfl).moves
  | .ptpToHost p frame t => (execPtpToHost_law s p frame t rfl rfl).moves
  | .syncGridDue p => (execSyncGridDue_law s p rfl rfl).moves
  | .delayReqDue p => (execDelayReqDue_law s p rfl rfl).moves
  | .followUpSend p => (execFollowUpSend_law s p rfl rfl).moves
  | .engineFrameSend p dep => (execEngineFrameSend_law s p dep rfl rfl).moves
  | .delayRespTimeout p => (execDelayRespTimeout_law s p rfl rfl).moves
  | .offsetWindowClose p => (execOffsetWindowClose_law s p rfl rfl).moves
  | .trimWrite p rx v => (execTrimWrite_law s p rx v rfl rfl).moves
  | .eventInputTransition n level tap => execEventInputTransition_moves s n level tap
  | .glitchFilterExpiry n => execGlitchFilterExpiry_moves s n
  | .rotationSlotBegin g => (execRotationSlotBegin_law s g rfl rfl).moves
  | .takeoverOverlapEnd g meanDiff => (execTakeoverOverlapEnd_law s g meanDiff rfl rfl).moves
  | .reconnectOverlapEnd g meanDiff => (execReconnectOverlapEnd_law s g meanDiff rfl rfl).moves
  | .skewMeasurement sl skew => execSkewMeasurement_moves s sl skew
  | .dllErrorPersist ch dll => (execDllErrorPersist_law s ch dll rfl rfl).moves
  | .recalRequest ch => (execRecalRequest_law s ch rfl rfl).moves
  | .stampQueueConfig ch v => (execStampQueueConfig_law s ch v rfl rfl).moves
  | .stampCreditGrant ch n bar2 => (execStampCreditGrant_law s ch n bar2 rfl rfl).moves
  | .stampCreditRecall ch bar2 => (execStampCreditRecall_law s ch bar2 rfl rfl).moves
  | .stampPop ch bar2 => (execStampPop_law s ch bar2 rfl rfl).moves
  | .fmStart e v => (execFmStart_law s e v rfl rfl).moves
  | .fmGateClose e => (execFmGateClose_law s e rfl rfl).moves
  | .pulseArm n => (execPulseArm_law s n rfl rfl).moves
  | .pulseStop n => (execPulseStop_law s n rfl rfl).moves
  | .pulseEdge n => (execPulseEdge_law s n rfl rfl).moves
  | .clockOutEnable k en => (execClockOutEnable_law s k en rfl rfl).moves
  | .clockOutFreqWrite k hz => (execClockOutFreqWrite_law s k hz rfl rfl).moves
  | .clockPllLock k => (execClockPllLock_law s k rfl rfl).moves
  | .clockPllLol k => (execClockPllLol_law s k rfl rfl).moves
  | .clockRefLoss k => (execClockRefLoss_law s k rfl rfl).moves
  | .candidateInactive n => (execCandidateInactive_law s n rfl rfl).moves
  | .candidateActive n => (execCandidateActive_law s n rfl rfl).moves
  | .freqMeasurement n y => (execFreqMeasurement_law s n y rfl rfl).moves
  | .wtrExpiry n => (execWtrExpiry_law s n rfl rfl).moves
  | .esmcPduReceived p ssm => (execEsmcPduReceived_law s p ssm rfl rfl).moves
  | .esmcTimeout n => (execEsmcTimeout_law s n rfl rfl).moves
  | .selectionTick delta => (execSelectionTick_law s delta rfl rfl).moves
  | .pullComplete => (execPullComplete_law s rfl rfl).moves
  | .holdoverRecord steer => (execHoldoverRecord_law s steer rfl rfl).moves
  | .recordWrite => (execRecordWrite_law s rfl rfl).moves
  | .postWindowEnd n => (execPostWindowEnd_law s n rfl rfl).moves
  | .ringHostTrigger n => execRingHostTrigger_moves s n
  | .ringRelease n => (execRingRelease_law s n rfl rfl).moves
  | .readoutGo => (execReadoutGo_law s rfl rfl).moves
  | .readoutAbort => (execReadoutAbort_law s rfl rfl).moves
  | .readoutDone => (execReadoutDone_law s rfl rfl).moves
  | .replayArm r => (execReplayArm_law s r rfl rfl).moves
  | .replayStop r => (execReplayStop_law s r rfl rfl).moves
  | .replayRecordSend r => (execReplayRecordSend_law s r rfl rfl).moves
  | .replayDone r => (execReplayDone_law s r rfl rfl).moves
  | .strainerGo k => execStrainerGo_moves s k
  | .strainerStop k => execStrainerStop_moves s k
  | .scanEnd k corrupt => execScanEnd_moves s k corrupt
  | .scanPeriodExpiry k => absurd rfl (hc k)
  | .aliveExpWrite k v => execAliveExpWrite_moves s k v
  | .aliveDeadlineExpiry k => execAliveDeadlineExpiry_moves s k
  | .eccSingleError m => (execEccSingleError_law s m rfl rfl).moves
  | .eccDoubleError hit word => execEccDoubleError_moves s hit word
  | .scrubPass m => (execScrubPass_law s m rfl rfl).moves
  | .sliceWatchdogExpiry sl => execSliceWatchdogExpiry_moves s sl
  | .schedulerWatchdogExpiry => execSchedulerWatchdogExpiry_moves s
  | .msixUnmask v => (execMsixUnmask_law s v rfl rfl).moves
  | .spoutPop => (execSpoutPop_law s rfl rfl).moves
  | .spoutCreditGrant c n => (execSpoutCreditGrant_law s c n rfl rfl).moves
  | .spoutCreditRecall c => (execSpoutCreditRecall_law s c rfl rfl).moves
  | .htxTailWrite v => (execHtxTailWrite_law s v rfl rfl).moves
  | .htxDescriptorFetched d frame => (execHtxDescriptorFetched_law s d frame rfl rfl).moves
  | .htxWriteBack idx => (execHtxWriteBack_law s idx rfl rfl).moves
  | .pfSelect n v => (execPfSelect_law s n v rfl rfl).moves
  | .dumpSample prevWritten => (execDumpSample_law s prevWritten rfl rfl).moves
  | .mdioAddress m prtad devad data => (execMdioAddress_law s m prtad devad data rfl rfl).moves
  | .mdioWrite m prtad devad data => (execMdioWrite_law s m prtad devad data rfl rfl).moves
  | .mdioReadInc m prtad devad => (execMdioReadInc_law s m prtad devad rfl rfl).moves
  | .mdioRead m prtad devad => (execMdioRead_law s m prtad devad rfl rfl).moves
  | .mdioOpDone m data => (execMdioOpDone_law s m data rfl rfl).moves
  | .flashRead len => (execFlashRead_law s len rfl rfl).moves
  | .flashPageProgram len key => (execFlashPageProgram_law s len key rfl rfl).moves
  | .flashErase4k key => (execFlashErase4k_law s key rfl rfl).moves
  | .flashErase64k key => (execFlashErase64k_law s key rfl rfl).moves
  | .flashReadSfdp len => (execFlashReadSfdp_law s len rfl rfl).moves
  | .flashOpDone data failed sizeMib => (execFlashOpDone_law s data failed sizeMib rfl rfl).moves
  | .flashOpTimeout => (execFlashOpTimeout_law s rfl rfl).moves
  | .tapExtest => (execTapExtest_law s rfl rfl).moves
  | .tapIdcode => (execTapIdcode_law s rfl rfl).moves
  | .tapSamplePreload => (execTapSamplePreload_law s rfl rfl).moves
  | .tapClamp => (execTapClamp_law s rfl rfl).moves
  | .tapHighz => (execTapHighz_law s rfl rfl).moves
  | .tapExtestPulse => (execTapExtestPulse_law s rfl rfl).moves
  | .tapExtestTrain => (execTapExtestTrain_law s rfl rfl).moves
  | .tapPrivateDebug code => (execTapPrivateDebug_law s code rfl rfl).moves
  | .tapBypass code => (execTapBypass_law s code rfl rfl).moves
  | .temperatureRead tj mem => (execTemperatureRead_law s tj mem rfl rfl).moves
  | .ocxoWarmRise => execOcxoWarmRise_moves s
  | .aonClkReturn => execAonClkReturn_moves s
  | .sliceResetDone sl => execSliceResetDone_moves s sl
  | .lolDeassert l => (execLolDeassert_law s l rfl rfl).moves
  | .observeDeviation ch => (execObserveDeviation_law s ch rfl rfl).moves
  | .followUpTimeout p => (execFollowUpTimeout_law s p rfl rfl).moves
  | .dlyValidExpiry p => (execDlyValidExpiry_law s p rfl rfl).moves
  | .wordClockSample ch tx ui tap => (execWordClockSample_law s ch tx ui tap rfl rfl).moves
  | .ttRoleWrite p v => (execTtRoleWrite_law s p v rfl rfl).moves
  | .laneLoopPrbsWrite l loop prbs => execLaneLoopPrbsWrite_moves s l loop prbs

theorem execScanPeriodExpiry_outcome {k : Nat} {s t : State} (h : execScanPeriodExpiry k s = .next t) :
    t = s ∨ (k < 8 ∧ s.scanState k = Scan.WAIT ∧ t = s.scanBegin k) := by
  unfold execScanPeriodExpiry at h
  split at h
  · cases h
  next hk =>
  split at h
  next hwait => exact .inr ⟨by omega, hwait, (Host.Outcome.next.inj h).symm⟩
  · exact .inl (Host.Outcome.next.inj h).symm

/-! ## Steps -/

/-- A step moves the mode and the engines, or it is SCAN_PERIOD_EXPIRY of a waiting engine. -/
theorem step_moves {s t : State} (h : step s = .next t) :
    Moves s t ∨ ∃ k q, s.pending = .scanPeriodExpiry k :: q ∧ k < 8 ∧ s.scanState k = Scan.WAIT ∧ ModeStill s t ∧
      ∀ j, t.scanState j = if j % 8 = k % 8 then Scan.SCAN else s.scanState j := by
  cases hq : s.pending with
  | nil =>
    rw [step_of_nil hq] at h
    obtain rfl := Host.Outcome.next.inj h
    exact .inl s.tick_subsides.moves
  | cons c q =>
    rw [step_of_cons hq] at h
    have htaken : Still s { s with pending := q } := Still.of_parts rfl rfl
    by_cases hc : ∃ k, c = .scanPeriodExpiry k
    · obtain ⟨k, rfl⟩ := hc
      rcases execScanPeriodExpiry_outcome h with rfl | ⟨hk, hwait, rfl⟩
      · exact .inl htaken.moves
      · refine .inr ⟨k, q, rfl, hk, hwait, htaken.toModeStill.comp (State.scanBegin_modeStill _ k), fun j => ?_⟩
        rw [State.scanState_scanBegin]
        rfl
    · have hmoves := exec_moves c { s with pending := q } fun k he => hc ⟨k, he⟩
      rw [h] at hmoves
      exact .inl (htaken.moves_comp hmoves)

/-- Settles O5: a step moves the mode as the table states, and SCAN_PERIOD_EXPIRY leaves it. -/
theorem modeChangesOnlyByTable : Obligations.ModeChangesOnlyByTable := by
  unfold Obligations.ModeChangesOnlyByTable
  intro s t hs h
  rcases step_moves h with hmoves | ⟨-, -, -, -, -, hstill, -⟩
  · exact hmoves.mode hs
  · exact ModeSubsides.moves (.inl hstill) hs

/-- Settles O6: only SCAN_PERIOD_EXPIRY of the engine itself leads from WAIT to SCAN. -/
theorem strainerStateChangesOnlyByTable : Obligations.StrainerStateChangesOnlyByTable := by
  unfold Obligations.StrainerStateChangesOnlyByTable
  intro s t k hk h hne
  rcases step_moves h with hmoves | ⟨j, q, hq, hj, hwait, -, hscan⟩
  · rcases hmoves.scans k with hsame | hidle | hgo | hwait
    · exact absurd hsame hne
    · exact .inl hidle
    · exact .inr (.inl hgo.symm)
    · exact .inr (.inr (.inr hwait.symm))
  · have hk' := hscan k
    by_cases he : k % 8 = j % 8
    · obtain rfl : k = j := by omega
      rw [if_pos rfl] at hk'
      exact .inr (.inr (.inl ⟨hk', hwait, by rw [hq]; rfl⟩))
    · rw [if_neg he] at hk'
      exact absurd hk' hne

end Sys2Proof.Machine
end

section
/-! The operational state of a port, and the forwarding entries that a port leaves (O21). -/

namespace Sys2Proof.Machine

/-! ## Registers beside a law -/

/-- Whether a set has none of the registers `b + m * i` with `i < n`: it lies below them, above them, or in their gaps. -/
def RegSet.misses (r : RegSet) (b m n : Nat) : Bool :=
  decide (r.base + r.s1 * (r.n1 - 1) + r.s2 * (r.n2 - 1) < b) || decide (b + m * (n - 1) < r.base) ||
    (r.s1 % m == 0 && (List.range r.n2).all fun j => (r.base + r.s2 * j) % m != b % m)

theorem RegSet.ne_of_misses {r : RegSet} {b m n a i : Nat} (h : r.misses b m n = true) (ha : r.Has a) (hi : i < n) : a ≠ b + m * i := by
  obtain ⟨k, j, hk, hj, rfl⟩ := ha
  simp only [RegSet.misses, Bool.or_eq_true, Bool.and_eq_true, decide_eq_true_eq, beq_iff_eq, List.all_eq_true, List.mem_range,
    bne_iff_ne] at h
  intro he
  have h1 : r.s1 * k ≤ r.s1 * (r.n1 - 1) := Nat.mul_le_mul_left _ (by omega)
  have h2 : r.s2 * j ≤ r.s2 * (r.n2 - 1) := Nat.mul_le_mul_left _ (by omega)
  have h3 : m * i ≤ m * (n - 1) := Nat.mul_le_mul_left _ (by omega)
  rcases h with (hlo | hhi) | ⟨hs1, hgap⟩
  · omega
  · omega
  · have hrest := congrArg (· % m) he
    have hk0 : r.s1 * k % m = 0 := by simp [Nat.mul_mod, hs1]
    refine hgap j hj ?_
    calc (r.base + r.s2 * j) % m = (r.base + r.s2 * j + r.s1 * k) % m := by rw [Nat.add_mod _ (r.s1 * k), hk0, Nat.add_zero, Nat.mod_mod]
      _ = (b + m * i) % m := by rw [← hrest, Nat.add_right_comm]
      _ = b % m := Nat.add_mul_mod_self_left _ _ _

/-- The registers `b + m * i` lie beside the families `ks`. -/
abbrev Beside (ks : List Nat) (b m : Nat) : Prop := 0 ∉ ks ∧ ∀ k ∈ ks, ∀ r ∈ families[k]?, r.misses b m 256 = true

section
variable {ks : List Nat} {P : Nat} {s t : State}

theorem Law.rd_beside {b m i : Nat} (h : Law (maskOf ks) P s t) (hks : Beside ks b m) : t.rd (b + m * (i % 256)) = s.rd (b + m * (i % 256)) :=
  h.regs _ fun hm =>
    let ⟨k, hk, r, hr, has⟩ := hm.mem_family hks.1
    RegSet.ne_of_misses (hks.2 k hk r hr) has (Nat.mod_lt i (by decide)) rfl

theorem Law.rd_prtState (h : Law (maskOf ks) P s t) (hks : Beside ks 0x2000000 0x10000) (p : Nat) : t.rd (Reg.PRT_STATE p) = s.rd (Reg.PRT_STATE p) :=
  h.rd_beside hks

theorem Law.rd_lnCfg (h : Law (maskOf ks) P s t) (hks : Beside ks 0x3000000 0x4000) (l : Nat) : t.rd (Reg.LN_CFG l) = s.rd (Reg.LN_CFG l) :=
  h.rd_beside hks

theorem Law.rd_lnCtrl (h : Law (maskOf ks) P s t) (hks : Beside ks 0x3000004 0x4000) (l : Nat) : t.rd (Reg.LN_CTRL l) = s.rd (Reg.LN_CTRL l) :=
  h.rd_beside hks

theorem Law.rd_lnStatus (h : Law (maskOf ks) P s t) (hks : Beside ks 0x3000008 0x4000) (l : Nat) : t.rd (Reg.LN_STATUS l) = s.rd (Reg.LN_STATUS l) :=
  h.rd_beside hks

theorem Law.rd_lnEye (h : Law (maskOf ks) P s t) (hks : Beside ks 0x3000010 0x4000) (l : Nat) : t.rd (Reg.LN_EYE l) = s.rd (Reg.LN_EYE l) :=
  h.rd_beside hks

theorem Law.rd_trunkStatus (h : Law (maskOf ks) P s t) (hks : Beside ks 0x3000020 0x4000) (l : Nat) :
    t.rd (Reg.LN_TRUNK_STATUS l) = s.rd (Reg.LN_TRUNK_STATUS l) := h.rd_beside hks

/-! ### What the registers of a lane and a port say -/

theorem State.oper_of_rd (h : t.rd (Reg.PRT_STATE p) = s.rd (Reg.PRT_STATE p)) : t.oper p = s.oper p := State.fld_of_rd (F.PRT_STATE.OPER p) h

theorem Law.laneMode (h : Law (maskOf ks) P s t) (hks : Beside ks 0x3000000 0x4000) (l : Nat) : t.laneMode l = s.laneMode l :=
  State.fld_of_rd (F.LN_CFG.MODE l) (h.rd_lnCfg hks l)

theorem Law.portLanes (h : Law (maskOf ks) P s t) (hks : Beside ks 0x3000000 0x4000) (p : Nat) : t.portLanes p = s.portLanes p := by
  unfold State.portLanes State.fourLane
  rw [h.laneMode hks]

theorem Law.isTrunk (h : Law (maskOf ks) P s t) (hks : Beside ks 0x3000000 0x4000) (p : Nat) : t.isTrunk p = s.isTrunk p := by
  unfold State.isTrunk
  rw [h.laneMode hks]

/-- A port's loopbacks are as before where its lanes and their control words are. -/
theorem Law.looped (h : Law (maskOf ks) P s t) (hcfg : Beside ks 0x3000000 0x4000) (hctrl : Beside ks 0x3000004 0x4000) (p : Nat) :
    t.looped p = s.looped p := by
  unfold State.looped
  rw [h.portLanes hcfg]
  congr 1
  funext l
  rw [State.fld_of_rd (F.LN_CTRL.LOOP l) (h.rd_lnCtrl hctrl l)]

end

/-! ## The operational state -/

/-- The families that a port which leaves the link changes, and the candidates that follow it. -/
def leaveFamilies : List Nat :=
  [1, 2, 3, 4, 5, 8, 26, 27, 28, 29, 31, 32, 33, 34, 35, 36, 37, 38, 39, 40, 41, 53, 55, 56, 57, 59, 60, 61, 62, 64, 65, 66, 67, 98, 101, 116, 119,
    120, 123, 124, 125, 133, 134, 135, 139, 140, 144]

/-- The operational state that `st` becomes on port `p` (R49). -/
def State.operOf (s : State) (p st : Nat) : Nat := if s.looped p && st != Oper.DISABLED then Oper.LOOPBACK else st

theorem State.operOf_of_not_looped {s : State} {p : Nat} (st : Nat) (h : s.looped p = false) : s.operOf p st = st := by
  unfold State.operOf
  rw [h]
  rfl

theorem State.operOf_disabled (s : State) (p : Nat) : s.operOf p Oper.DISABLED = Oper.DISABLED := by
  unfold State.operOf
  simp

theorem State.operOf_loopback (s : State) (p : Nat) : s.operOf p Oper.LOOPBACK = Oper.LOOPBACK := ite_self _

/-- The state that shows the operational state `st` of port `p`. -/
def State.operShown (s : State) (p st : Nat) : State := (s.eachLane p State.fmChanged).setFld (F.PRT_STATE.OPER p) st

theorem State.lanesMarked_law (s : State) (p : Nat) : Law 0 0x1000 s (s.eachLane p State.fmChanged) :=
  State.eachLane_law (Law.refl _ _ s) p _ (fun _ l h => State.fmChanged_law h l rfl rfl) rfl rfl

theorem State.operShown_slices (s : State) (p st : Nat) : (s.operShown p st).slices = s.slices := (s.lanesMarked_law p).part_off (p := .slices) (by decide)

theorem State.oper_operShown (s : State) (p : Nat) {st : Nat} (h : st < 8) : (s.operShown p st).oper p = st :=
  (State.fld_setFld_self _ (F.PRT_STATE.OPER p) st (by decide : 6 < 64) (by decide : 4 ≤ 6)).trans (Nat.mod_eq_of_lt h)

theorem State.admin_operShown (s : State) (p st : Nat) : (s.operShown p st).fld (F.PRT_STATE.ADMIN p) = s.fld (F.PRT_STATE.ADMIN p) := by
  unfold State.operShown
  rw [State.fld_setFld_bits _ (F.PRT_STATE.OPER p) (F.PRT_STATE.ADMIN p) st (by decide : 6 < 64) (by decide : 4 ≤ 6) (by decide : 0 ≤ 1) rfl
    (.inl (by decide : 1 < 4)), State.fld_of_rd _ ((s.lanesMarked_law p).rd_all _)]

theorem State.setOper_of_same {s : State} {p st : Nat} (h : s.oper p = s.operOf p st) : s.setOper p st = s := if_pos h

/-- Port `p` leaves the link where it was up and is no more. -/
def State.linkLeft (s : State) (p st : Nat) : State :=
  if s.operUp p && !(s.operShown p st).operUp p then (s.operShown p st).portLeft p else s.operShown p st

theorem State.setOper_of_new {s : State} {p st : Nat} (h : s.oper p ≠ s.operOf p st) :
    s.setOper p st = (s.linkLeft p (s.operOf p st)).vnPortChange p := if_neg h

theorem State.setOper_law_leave {s : State} {p st : Nat} (h : s.oper p ≠ s.operOf p st) :
    Law (maskOf leaveFamilies) 0x17d59d (s.operShown p (s.operOf p st)) (s.setOper p st) := by
  rw [State.setOper_of_new h]
  refine State.vnPortChange_law ?_ p (by decide) (by decide)
  exact .ite (fun _ => State.portLeft_law (Law.refl _ _ _) p (by decide) (by decide)) fun _ => Law.refl _ _ _

theorem leaveFamilies_beside_prtState : Beside leaveFamilies 0x2000000 0x10000 := by decide

theorem State.setOper_rd_prtState {s : State} {p st : Nat} (h : s.oper p ≠ s.operOf p st) :
    (s.setOper p st).rd (Reg.PRT_STATE p) = (s.operShown p (s.operOf p st)).rd (Reg.PRT_STATE p) :=
  (State.setOper_law_leave h).rd_prtState leaveFamilies_beside_prtState p

theorem State.oper_setOper (s : State) (p : Nat) {st : Nat} (hst : st < 8) : (s.setOper p st).oper p = s.operOf p st := by
  by_cases h : s.oper p = s.operOf p st
  · rw [State.setOper_of_same h, h]
  · rw [State.oper_of_rd (State.setOper_rd_prtState h), State.oper_operShown]
    unfold State.operOf
    split
    · decide
    · exact hst

theorem State.admin_setOper (s : State) (p st : Nat) : (s.setOper p st).fld (F.PRT_STATE.ADMIN p) = s.fld (F.PRT_STATE.ADMIN p) := by
  by_cases h : s.oper p = s.operOf p st
  · rw [State.setOper_of_same h]
  · rw [State.fld_of_rd (F.PRT_STATE.ADMIN p) (State.setOper_rd_prtState h), State.admin_operShown]

/-- The families of a change of an operational state. -/
def operFamilies : List Nat := 202 :: leaveFamilies

theorem State.setOper_law_oper (s : State) (p st : Nat) : Law (maskOf operFamilies) 0x17d59d s (s.setOper p st) :=
  State.setOper_law (Law.refl _ _ s) p st (by decide) (by decide)

/-! ## Forwarding entries -/

/-- From `s` to `t` the forwarding entries of every slice stay. -/
def FdbKept (s t : State) : Prop := ∀ i, (t.slice i).fdb = (s.slice i).fdb

theorem FdbKept.refl (s : State) : FdbKept s s := fun _ => rfl

section
variable {s t u : State}

theorem FdbKept.trans (h1 : FdbKept s t) (h2 : FdbKept t u) : FdbKept s u := fun i => (h2 i).trans (h1 i)

theorem FdbKept.of_slices (h : t.slices = s.slices) : FdbKept s t := fun i => by
  unfold State.slice
  rw [h]

theorem FdbKept.law {W P : Nat} (h : FdbKept s t) (hl : Law W P t u) (hP : P.testBit 14 = false) : FdbKept s u :=
  h.trans (.of_slices (hl.part_off (p := .slices) hP))

theorem FdbKept.ite {c : Prop} [Decidable c] (ht : FdbKept s t) (hu : FdbKept s u) : FdbKept s (if c then t else u) := by
  split
  · exact ht
  · exact hu

theorem FdbKept.foldl {α : Type} {f : State → α → State} (hf : ∀ t x, FdbKept t (f t x)) (l : List α) (h : FdbKept s t) : FdbKept s (l.foldl f t) := by
  induction l generalizing t with
  | nil => exact h
  | cons x l ih => exact ih (h.trans (hf t x))

end

theorem State.learnHalt_fdbKept (s : State) (i : Nat) : FdbKept s (s.learnHalt i) := fun j => by
  unfold State.learnHalt State.setSlice State.slice
  by_cases hj : j = i
  · rw [hj]
    dsimp only
    rw [SMap.getD_setD_self]
  · dsimp only
    rw [SMap.getD_setD_ne _ _ _ _ hj]

theorem State.enterCalm_fdbKept (s : State) : FdbKept s s.enterCalm := by
  unfold State.enterCalm
  dsimp only
  generalize hs1 : ({ s with dev := _ } : State) = s1
  have h1 : FdbKept s s1 := .of_slices (by rw [← hs1])
  have hhalt : FdbKept s ((List.range 4).foldl State.learnHalt s1) := .foldl State.learnHalt_fdbKept _ h1
  exact hhalt.law (W := maskOf [1, 2, 3, 8, 26, 27, 28]) (P := 0x10000c)
    (State.setMode_law (State.abandonPartial_law (State.abortReplays_law (Law.refl _ _ _) (by decide) (by decide)) (by decide) (by decide)) _ _
      (by decide) (by decide)) (by decide)

theorem State.fatal_fdbKept (s : State) (b : Nat) : FdbKept s (s.fatal b) := by
  have hmark : FdbKept s (s.markFatal b) :=
    (FdbKept.refl s).law (W := maskOf [1, 2, 3, 5]) (P := 0x10000c) (State.markFatal_law (Law.refl _ _ s) b (by decide) (by decide)) (by decide)
  unfold State.fatal
  refine .ite (hmark.trans (.of_slices rfl)) (.ite (.ite hmark (hmark.trans (State.enterCalm_fdbKept _))) (.ite ?_ hmark))
  exact hmark.law (W := maskOf [1, 28]) (P := 0x100004) (State.abandonPartial_law (Law.refl _ _ _) (by decide) (by decide)) (by decide)

theorem State.fatalHeld_fdbKept (s : State) (b : Nat) : FdbKept s (s.fatalHeld b) := by
  unfold State.fatalHeld
  generalize hs1 : ({ s with dev := _ } : State) = s1
  have h1 : FdbKept s s1 := .of_slices (by rw [← hs1])
  exact h1.trans (s1.fatal_fdbKept b)

theorem State.voteCheck_fdbKept (s : State) : FdbKept s s.voteCheck := by
  unfold State.voteCheck
  split
  · exact .refl s
  · exact .ite (s.fatalHeld_fdbKept _) (.refl s)
  · exact s.fatalHeld_fdbKept _

theorem State.afterExclusion_fdbKept (s : State) : FdbKept s s.afterExclusion := by
  unfold State.afterExclusion
  dsimp only
  generalize ht : (if s.healthy s.lead = true then _ else _ : State) = t
  have hset : FdbKept s (s.setFld F.KT_CH_STATUS.PENDING_HO 0) := .of_slices rfl
  have hover : FdbKept s s.handover :=
    (FdbKept.refl s).law (W := maskOf [31, 32]) (P := 0x100) (State.handover_law (Law.refl _ _ s) (by decide) (by decide)) (by decide)
  have hlead : FdbKept s t := ht ▸ .ite (.ite (.refl s) hset) hover
  exact hlead.trans t.voteCheck_fdbKept

theorem State.exclude_fdbKept (s : State) (ch arg : Nat) : FdbKept s (s.exclude ch arg) :=
  (FdbKept.refl s).law (W := maskOf [1, 2, 3, 29, 31, 33, 34, 35]) (P := 0x14010d)
    (State.exclude_law (Law.refl _ _ s) ch arg (by decide) (by decide)) (by decide)

theorem State.holdoverMarks_fdbKept (s : State) (d : Nat) : FdbKept s (s.holdoverMarks d) := by
  unfold State.holdoverMarks
  dsimp only
  generalize hs1 : State.fhtAbandon _ = s1
  have hcount : FdbKept s ((s.flag (F.KT_DOM_FLAGS.HOLDOVER d)).count (Reg.KT_DOM_CNT d 6)) := .of_slices (by simp)
  have habandon := State.fhtAbandon_law (Law.refl (maskOf [1, 2, 3, 33]) 0x14010c ((s.flag (F.KT_DOM_FLAGS.HOLDOVER d)).count (Reg.KT_DOM_CNT d 6)))
    (by decide) (by decide)
  have h1 : FdbKept s s1 := hs1 ▸ hcount.law habandon (by decide)
  split
  · exact h1
  · exact (FdbKept.foldl (fun t c => t.exclude_fdbKept c 0) _ h1).trans (State.afterExclusion_fdbKept _)

theorem State.toHoldover_fdbKept (s : State) (d : Nat) : FdbKept s (s.toHoldover d) := by
  unfold State.toHoldover
  dsimp only
  generalize hs1 : State.holdoverMarks _ d = s1
  have hset : FdbKept s (s.setFld (F.KT_DOM_STATUS.STATE d) Dom.HOLDOVER) := .of_slices rfl
  have h1 : FdbKept s s1 := hs1 ▸ hset.trans (State.holdoverMarks_fdbKept _ d)
  have htook : FdbKept s s1.tookFree := h1.trans (.of_slices rfl)
  exact htook.law (W := Mask.still) (P := 0x1fbfff)
    (State.spoutEvent_law (State.reportFi_law (State.eachCh_law (Law.refl _ _ _) _ _ rfl rfl) _ rfl rfl) _ _ _ _ rfl rfl) (by decide)

theorem State.sourceLost_fdbKept (s : State) (d : Nat) : FdbKept s (s.sourceLost d) := by
  unfold State.sourceLost
  refine .ite (.refl s) ?_
  dsimp only
  generalize hs1 : State.setFeed _ d _ = s1
  have h1 : FdbKept s s1 := .of_slices (by rw [← hs1]; rfl)
  have h2 : FdbKept s (s1.toHoldover d) := h1.trans (s1.toHoldover_fdbKept d)
  refine .ite (.ite ?_ (.ite ?_ h2)) h1
  · exact h1.law (W := Mask.still) (P := 0x14010c) (State.toFollow_law (Law.refl _ _ _) _ rfl rfl) (by decide)
  · generalize s1.toHoldover d = s2 at h2 ⊢
    have hset : FdbKept s2 (s2.setFld (F.KT_PAIR_STATUS.ON_PARTNER (d / 2)) 0) := .of_slices rfl
    exact (h2.trans hset).trans (State.toHoldover_fdbKept _ _)

/-! ## Entries that a port leaves -/

/-- The entries that leave with port `p` (R123): learned ones that point to it. -/
def FdbEntry.leaves (p : Nat) (e : FdbEntry) : Bool := !e.isStatic && !e.group && e.dest == p

/-- Slice `i` has no learned entry that points to port `p`. -/
def FlushedAt (p i : Nat) (s : State) : Prop := ∀ e ∈ (s.slice i).fdb.entries, e.2.leaves p = false

theorem FlushedAt.kept {p i : Nat} {s t : State} (h : FlushedAt p i s) (hk : FdbKept s t) : FlushedAt p i t := by
  unfold FlushedAt
  rw [hk i]
  exact h

/-- The removal of entries of slice `i`. -/
theorem State.fdbRemove_fdb (s : State) (i : Nat) (q : Nat → FdbEntry → Bool) (j : Nat) :
    ((s.fdbRemove i q).1.slice j).fdb = if j = i then (s.slice i).fdb.filter fun n e => !q n e else (s.slice j).fdb := by
  unfold State.fdbRemove
  dsimp only
  generalize ((s.slice i).fdb.filter q).keys = gone
  generalize hs1 : s.setSlice i _ = s1
  have hrest : FdbKept s1 ((s1.touchSlots i gone).commitN i gone.length) :=
    (FdbKept.refl s1).law (W := maskOf [4, 98]) (P := 0x80)
      (State.commitN_law (State.touchSlots_law (Law.refl _ _ s1) i gone (by decide) (by decide)) i gone.length (by decide) (by decide)) (by decide)
  rw [hrest j, ← hs1]
  unfold State.setSlice State.slice
  dsimp only
  split
  · subst_vars
    rw [SMap.getD_setD_self]
  · rw [SMap.getD_setD_ne _ _ _ _ (by assumption)]

/-- One slice of a flush. -/
def State.flushSlice (p : Nat) (s : State) (i : Nat) : State :=
  (s.fdbRemove i fun _ e => e.leaves p).1.countN (Reg.SLC_CNT i 6) (s.fdbRemove i fun _ e => e.leaves p).2

theorem State.fdbPortFlush_eq (s : State) (p : Nat) : s.fdbPortFlush p = (List.range 4).foldl (State.flushSlice p) s := rfl

theorem State.flushSlice_self (p : Nat) (s : State) (i : Nat) : FlushedAt p i (s.flushSlice p i) := by
  have hfdb : ((s.flushSlice p i).slice i).fdb = (s.slice i).fdb.filter fun _ e => !e.leaves p :=
    (s.fdbRemove_fdb i _ i).trans (if_pos rfl)
  unfold FlushedAt
  rw [hfdb]
  intro e he
  simpa using (List.mem_filter.mp he).2

theorem State.flushSlice_keeps {p i : Nat} {s : State} (j : Nat) (h : FlushedAt p i s) : FlushedAt p i (s.flushSlice p j) := by
  by_cases hij : i = j
  · exact hij ▸ State.flushSlice_self p s i
  · have hfdb : ((s.flushSlice p j).slice i).fdb = (s.slice i).fdb := (s.fdbRemove_fdb j _ i).trans (if_neg hij)
    unfold FlushedAt
    rw [hfdb]
    exact h

theorem State.flushSlices_keep {p i : Nat} {s : State} (l : List Nat) (h : FlushedAt p i s) : FlushedAt p i (l.foldl (State.flushSlice p) s) := by
  induction l generalizing s with
  | nil => exact h
  | cons j l ih => exact ih (State.flushSlice_keeps j h)

theorem State.flushSlices_flush {p i : Nat} (s : State) {l : List Nat} (hi : i ∈ l) : FlushedAt p i (l.foldl (State.flushSlice p) s) := by
  induction l generalizing s with
  | nil => simp at hi
  | cons j l ih =>
    by_cases hij : i = j
    · exact State.flushSlices_keep l (hij ▸ State.flushSlice_self p s i)
    · exact ih _ (by simpa [hij] using hi)

/-- No slice has a learned entry that points to port `p`. -/
def Flushed (p : Nat) (s : State) : Prop := ∀ i < 4, FlushedAt p i s

theorem Flushed.kept {p : Nat} {s t : State} (h : Flushed p s) (hk : FdbKept s t) : Flushed p t := fun i hi => (h i hi).kept hk

theorem Flushed.law {p W P : Nat} {s t : State} (h : Flushed p s) (hl : Law W P s t) (hP : P.testBit 14 = false) : Flushed p t :=
  h.kept ((FdbKept.refl s).law hl hP)

theorem Flushed.dest_ne {p : Nat} {s : State} (h : Flushed p s) :
    ∀ i < 4, ∀ e ∈ (s.slice i).fdb.entries, e.2.isStatic = false → e.2.group = false → e.2.dest ≠ p := by
  intro i hi e he hst hgr hd
  have := h i hi e he
  simp [FdbEntry.leaves, hst, hgr, hd] at this

theorem State.fdbPortFlush_flushed (s : State) (p : Nat) : Flushed p (s.fdbPortFlush p) := fun _ hi => by
  rw [State.fdbPortFlush_eq]
  exact State.flushSlices_flush s (List.mem_range.mpr hi)

/-- A port whose entries are flushed, whose frames are dropped and whose timing engine is stopped. -/
def State.portCut (s : State) (p : Nat) : State := ((s.fdbPortFlush p).portDrops p).ttPortDown p

theorem State.portCut_flushed (s : State) (p : Nat) : Flushed p (s.portCut p) :=
  (s.fdbPortFlush_flushed p).law (W := Mask.still) (P := 0x1fbfff)
    (State.ttPortDown_law (State.portDrops_law (Law.refl _ _ _) p rfl rfl) p rfl rfl) (by decide)

/-- A port that leaves: it is cut, its waiting frames go, and the domain it feeds loses its source. -/
theorem State.portLeft_eq (s : State) (p : Nat) :
    s.portLeft p =
      let t := (s.portCut p).setTrunk p { (s.portCut p).trunk p with waiting := [] }
      if s.ttRole p = TtRole.SLAVE then t.sourceLost (s.portDomain p) else t := rfl

theorem State.portLeft_flushed (s : State) (p : Nat) : Flushed p (s.portLeft p) := by
  have hcut : Flushed p ((s.portCut p).setTrunk p { (s.portCut p).trunk p with waiting := [] }) :=
    (s.portCut_flushed p).law (W := 0) (P := 0x10000) (State.setTrunk_law (Law.refl _ _ _) p _ (by decide) (by decide)) (by decide)
  rw [State.portLeft_eq]
  dsimp only
  generalize (s.portCut p).setTrunk p _ = t at hcut ⊢
  split
  · exact hcut.kept (State.sourceLost_fdbKept _ _)
  · exact hcut

theorem State.vnPortChange_fdbKept (s : State) (p : Nat) : FdbKept s (s.vnPortChange p) :=
  (FdbKept.refl s).law (W := Mask.still) (P := 0x10040c) (State.vnPortChange_law (Law.refl _ _ s) p rfl rfl) (by decide)

/-- A port that goes down leaves no learned entry that points to it. -/
theorem State.setOper_flushes {s : State} {p st : Nat} (hup : s.operUp p = true) (hdown : (s.operShown p (s.operOf p st)).operUp p = false)
    (hnew : s.oper p ≠ s.operOf p st) : Flushed p (s.setOper p st) := by
  rw [State.setOper_of_new hnew]
  refine Flushed.kept ?_ (State.vnPortChange_fdbKept _ p)
  unfold State.linkLeft
  rw [if_pos (by simp [hup, hdown])]
  exact State.portLeft_flushed _ p

/-- A port that is down learns nothing from a change of its operational state. -/
theorem State.setOper_fdbKept {s : State} {p : Nat} (st : Nat) (h : s.operUp p = false) : FdbKept s (s.setOper p st) := by
  by_cases hnew : s.oper p = s.operOf p st
  · rw [State.setOper_of_same hnew]
    exact .refl s
  · rw [State.setOper_of_new hnew]
    refine FdbKept.trans ?_ (State.vnPortChange_fdbKept _ p)
    unfold State.linkLeft
    rw [if_neg (by simp [h])]
    exact .of_slices (s.operShown_slices p _)

end Sys2Proof.Machine
end

section
/-! A port that trains again, and what the host asks of lanes and ports (O21). -/

namespace Sys2Proof.Machine

/-! ## The lanes of a port -/

theorem State.eachLane_single {s : State} {p : Nat} (h : s.portLanes p = [p]) (f : State → Nat → State) : s.eachLane p f = f s p := by
  unfold State.eachLane
  rw [h]
  rfl

/-- A port with one lane is that lane. -/
theorem State.eq_of_portLanes {s : State} {p l : Nat} (h : s.portLanes p = [l]) : p = l := by
  unfold State.portLanes at h
  split at h
  · simp at h
  · simpa using h

theorem State.looped_single {s : State} {p : Nat} (h : s.portLanes p = [p]) : s.looped p = (s.fld (F.LN_CTRL.LOOP p) != 0) := by
  unfold State.looped
  rw [h]
  simp

theorem State.rxRestart_law_families (s : State) (p : Nat) : Law (maskOf [203]) 0x10000 s (s.rxRestart p) :=
  State.rxRestart_law (Law.refl _ _ s) p (by decide) (by decide)

/-! ## Training -/

/-- A port whose receivers start again, with no valid eye. -/
def State.eyesLost (s : State) (p : Nat) : State := (s.rxRestart p).eachLane p fun u l => u.setFld (F.LN_EYE.VALID l) 0

/-- A port that is about to train: its receivers start again, and a trunk asks for capabilities. -/
def State.restarted (s : State) (p : Nat) : State := if s.isTrunk p then (s.eyesLost p).capState p else s.eyesLost p

theorem State.retrain_of_trains {s : State} {p : Nat} (h : s.trains p = true) : s.retrain p = (s.restarted p).setOper p Oper.TRAINING := if_pos h

theorem State.retrain_of_still {s : State} {p : Nat} (h : s.trains p = false) : s.retrain p = s := if_neg (by simp [h])

theorem State.eyesLost_law_rx (s : State) (p : Nat) : Law (maskOf [204]) 0 (s.rxRestart p) (s.eyesLost p) :=
  State.eachLane_law (Law.refl _ _ _) p _ (fun _ l h => State.setFld_law h _ _ (InMask.mk (m := maskOf [204]) 204 (by decide) (by decide) rfl
    (Reg.LN_EYE_has l))) (by decide) (by decide)

theorem State.eyesLost_law (s : State) (p : Nat) : Law (maskOf [203, 204]) 0x10000 s (s.eyesLost p) :=
  ((s.rxRestart_law_families p).mono (by decide) (by decide)).trans ((s.eyesLost_law_rx p).mono (by decide) (by decide))

theorem State.restarted_law_eyes (s : State) (p : Nat) : Law (maskOf [55, 95]) 0x71000 (s.eyesLost p) (s.restarted p) :=
  .ite (fun _ => State.capState_law (Law.refl _ _ _) p (by decide) (by decide)) fun _ => Law.refl _ _ _

theorem State.restarted_law (s : State) (p : Nat) : Law (maskOf [55, 95, 203, 204]) 0x71000 s (s.restarted p) :=
  ((s.eyesLost_law p).mono (by decide) (by decide)).trans ((s.restarted_law_eyes p).mono (by decide) (by decide))

theorem State.restarted_looped (s : State) (p : Nat) : (s.restarted p).looped p = s.looped p :=
  (s.restarted_law p).looped (by decide) (by decide) p

theorem State.restarted_operUp (s : State) (p : Nat) : (s.restarted p).operUp p = s.operUp p := by
  unfold State.operUp
  rw [State.oper_of_rd ((s.restarted_law p).rd_prtState (by decide) p)]

/-- A port that trains shows TRAINING unless a lane is looped. -/
theorem State.oper_retrain {s : State} {p : Nat} (h : s.trains p = true) (hl : s.looped p = false) : (s.retrain p).oper p = Oper.TRAINING := by
  rw [State.retrain_of_trains h, State.oper_setOper _ _ (by decide), State.operOf_of_not_looped _ ((s.restarted_looped p).trans hl)]

theorem State.admin_retrain (s : State) (p : Nat) : (s.retrain p).fld (F.PRT_STATE.ADMIN p) = s.fld (F.PRT_STATE.ADMIN p) := by
  cases h : s.trains p with
  | false => rw [State.retrain_of_still h]
  | true =>
    rw [State.retrain_of_trains h, State.admin_setOper]
    exact State.fld_of_rd (F.PRT_STATE.ADMIN p) ((s.restarted_law p).rd_prtState (by decide) p)

/-- A training of a port that is down keeps the forwarding entries. -/
theorem State.retrain_fdbKept {s : State} {p : Nat} (h : s.operUp p = false) : FdbKept s (s.retrain p) := by
  cases ht : s.trains p with
  | false =>
    rw [State.retrain_of_still ht]
    exact .refl s
  | true =>
    rw [State.retrain_of_trains ht]
    exact ((FdbKept.refl s).law (s.restarted_law p) (by decide)).trans (State.setOper_fdbKept _ ((s.restarted_operUp p).trans h))

/-! ### The registers of a lane that trains -/

theorem State.rd_setOper_status (s : State) (p st l : Nat) : (s.setOper p st).rd (Reg.LN_STATUS l) = s.rd (Reg.LN_STATUS l) :=
  (s.setOper_law_oper p st).rd_lnStatus (by decide) l

theorem State.rd_setOper_eye (s : State) (p st l : Nat) : (s.setOper p st).rd (Reg.LN_EYE l) = s.rd (Reg.LN_EYE l) :=
  (s.setOper_law_oper p st).rd_lnEye (by decide) l

theorem State.rd_setOper_trunk (s : State) (p st l : Nat) : (s.setOper p st).rd (Reg.LN_TRUNK_STATUS l) = s.rd (Reg.LN_TRUNK_STATUS l) :=
  (s.setOper_law_oper p st).rd_trunkStatus (by decide) l

theorem State.rd_setOper_ctrl (s : State) (p st l : Nat) : (s.setOper p st).rd (Reg.LN_CTRL l) = s.rd (Reg.LN_CTRL l) :=
  (s.setOper_law_oper p st).rd_lnCtrl (by decide) l

theorem State.rd_restarted_status (s : State) (p l : Nat) : (s.restarted p).rd (Reg.LN_STATUS l) = (s.rxRestart p).rd (Reg.LN_STATUS l) :=
  ((s.restarted_law_eyes p).rd_lnStatus (by decide) l).trans ((s.eyesLost_law_rx p).rd_lnStatus (by decide) l)

section
variable {s : State} {p : Nat} (h : s.portLanes p = [p])
include h

theorem State.rxRestart_single : s.rxRestart p = (s.setRx p TrRx.fresh).setFld (F.LN_STATUS.LOCK p) 0 := State.eachLane_single h _

theorem State.firstDone_rxRestart : (s.rxRestart p).fld (F.LN_STATUS.FIRST_DONE p) = s.fld (F.LN_STATUS.FIRST_DONE p) := by
  rw [State.rxRestart_single h]
  exact State.fld_setFld_bits (s.setRx p TrRx.fresh) (F.LN_STATUS.LOCK p) (F.LN_STATUS.FIRST_DONE p) 0 (by decide : 2 < 64) (by decide : 2 ≤ 2)
    (by decide : 4 ≤ 4) rfl (.inr (by decide : 2 < 4))

theorem State.lock_rxRestart : (s.rxRestart p).fld (F.LN_STATUS.LOCK p) = 0 := by
  rw [State.rxRestart_single h]
  exact State.fld_setFld_self _ (F.LN_STATUS.LOCK p) 0 (by decide : 2 < 64) (by decide : 2 ≤ 2)

theorem State.firstDone_retrain : (s.retrain p).fld (F.LN_STATUS.FIRST_DONE p) = s.fld (F.LN_STATUS.FIRST_DONE p) := by
  cases ht : s.trains p with
  | false => rw [State.retrain_of_still ht]
  | true =>
    rw [State.retrain_of_trains ht, State.fld_of_rd (F.LN_STATUS.FIRST_DONE p) (State.rd_setOper_status _ p _ p),
      State.fld_of_rd (F.LN_STATUS.FIRST_DONE p) (s.rd_restarted_status p p), State.firstDone_rxRestart h]

theorem State.lock_retrain (ht : s.trains p = true) : (s.retrain p).fld (F.LN_STATUS.LOCK p) = 0 := by
  rw [State.retrain_of_trains ht, State.fld_of_rd (F.LN_STATUS.LOCK p) (State.rd_setOper_status _ p _ p),
    State.fld_of_rd (F.LN_STATUS.LOCK p) (s.rd_restarted_status p p), State.lock_rxRestart h]

theorem State.eyeValid_retrain (ht : s.trains p = true) : (s.retrain p).fld (F.LN_EYE.VALID p) = 0 := by
  have hlanes : (s.rxRestart p).portLanes p = [p] := ((s.rxRestart_law_families p).portLanes (by decide) p).trans h
  have heye : s.eyesLost p = (s.rxRestart p).setFld (F.LN_EYE.VALID p) 0 := State.eachLane_single hlanes _
  rw [State.retrain_of_trains ht, State.fld_of_rd (F.LN_EYE.VALID p) (State.rd_setOper_eye _ p _ p),
    State.fld_of_rd (F.LN_EYE.VALID p) ((s.restarted_law_eyes p).rd_lnEye (by decide) p), heye]
  exact State.fld_setFld_self _ (F.LN_EYE.VALID p) 0 (by decide : 31 < 64) (by decide : 31 ≤ 31)

theorem State.firstDone_firstAttempt : (s.firstAttempt p).fld (F.LN_STATUS.FIRST_DONE p) = 0 := by
  unfold State.firstAttempt
  rw [State.eachLane_single h, State.fld_setFld_ofs _ _ (F.LN_STATUS.FIRST_DONE p) _ ?_]
  · exact State.fld_setFld_self _ (F.LN_STATUS.FIRST_DONE p) 0 (by decide : 4 < 64) (by decide : 4 ≤ 4)
  · simp only [F.LN_STATUS.FIRST_DONE, F.LN_TRUNK_STATUS.IDLE_HELD, Reg.LN_STATUS, Reg.LN_TRUNK_STATUS]
    omega

end

theorem State.firstAttempt_law_families (s : State) (p : Nat) : Law (maskOf [95, 203]) 0 s (s.firstAttempt p) :=
  State.firstAttempt_law (Law.refl _ _ s) p (by decide) (by decide)

/-! ### A trunk that asks for capabilities -/

theorem State.setStep_zero (s : State) (p : Nat) :
    (s.setStep p 0).trunkStep p = 0 ∧ (s.setStep p 0).trState p = s.trState p := by
  unfold State.setStep
  split
  · exact ⟨‹_›, rfl⟩
  · generalize hu : s.setFld (F.LN_TRUNK_STATUS.STEP p) 0 = u
    have hlaw : Law (maskOf [55]) 0x21000 u ((u.ttStepChange p).eachLane p State.fmChanged) :=
      State.eachLane_law (State.ttStepChange_law (Law.refl _ _ u) p (by decide) (by decide)) p _ (fun _ l h => State.fmChanged_law h l (by decide)
        (by decide)) (by decide) (by decide)
    have hrd := hlaw.rd_trunkStatus (by decide) p
    refine ⟨(State.fld_of_rd (F.LN_TRUNK_STATUS.STEP p) hrd).trans ?_, (State.fld_of_rd (F.LN_TRUNK_STATUS.STATE p) hrd).trans ?_⟩
    · rw [← hu]
      exact State.fld_setFld_self _ (F.LN_TRUNK_STATUS.STEP p) 0 (by decide : 6 < 64) (by decide : 4 ≤ 6)
    · rw [← hu]
      exact State.fld_setFld_bits s (F.LN_TRUNK_STATUS.STEP p) (F.LN_TRUNK_STATUS.STATE p) 0 (by decide : 6 < 64) (by decide : 4 ≤ 6)
        (by decide : 0 ≤ 3) rfl (.inl (by decide : 3 < 4))

theorem State.capState_shows (s : State) (p : Nat) : (s.capState p).trState p = Tr.CAP ∧ (s.capState p).trunkStep p = 0 := by
  unfold State.capState
  dsimp only
  generalize hu : ((s.setTrState p Tr.CAP).setFld (F.LN_TRUNK_STATUS.FAIL_STEP p) 7).setFld (F.LN_TRUNK_STATUS.IDLE_HELD p) 0 = u
  have hcap : u.trState p = Tr.CAP := by
    rw [← hu]
    unfold State.trState State.setTrState
    rw [State.fld_setFld_bits _ (F.LN_TRUNK_STATUS.IDLE_HELD p) (F.LN_TRUNK_STATUS.STATE p) 0 (by decide : 19 < 64) (by decide : 19 ≤ 19)
        (by decide : 0 ≤ 3) rfl (.inl (by decide : 3 < 19)),
      State.fld_setFld_bits _ (F.LN_TRUNK_STATUS.FAIL_STEP p) (F.LN_TRUNK_STATUS.STATE p) 7 (by decide : 14 < 64) (by decide : 12 ≤ 14)
        (by decide : 0 ≤ 3) rfl (.inl (by decide : 3 < 12))]
    exact State.fld_setFld_self _ (F.LN_TRUNK_STATUS.STATE p) Tr.CAP (by decide : 3 < 64) (by decide : 0 ≤ 3)
  obtain ⟨hstep, hstate⟩ := u.setStep_zero p
  have hsend : Law 0 0x50000 (u.setStep p 0) (((u.setStep p 0).txBegin p).capSend p) :=
    State.capSend_law (State.txBegin_law (Law.refl _ _ _) p (by decide) (by decide)) p (by decide) (by decide)
  exact ⟨((State.fld_of_rd (F.LN_TRUNK_STATUS.STATE p) (hsend.rd_all _)).trans hstate).trans hcap,
    (State.fld_of_rd (F.LN_TRUNK_STATUS.STEP p) (hsend.rd_all _)).trans hstep⟩

theorem State.retrain_trunk {s : State} {p : Nat} (ht : s.trains p = true) (htr : s.isTrunk p = true) :
    (s.retrain p).trState p = Tr.CAP ∧ (s.retrain p).trunkStep p = 0 := by
  have hcap : s.restarted p = (s.eyesLost p).capState p := if_pos htr
  obtain ⟨hstate, hstep⟩ := (s.eyesLost p).capState_shows p
  rw [State.retrain_of_trains ht, hcap]
  have hrd := ((s.eyesLost p).capState p).rd_setOper_trunk p Oper.TRAINING p
  exact ⟨(State.fld_of_rd (F.LN_TRUNK_STATUS.STATE p) hrd).trans hstate, (State.fld_of_rd (F.LN_TRUNK_STATUS.STEP p) hrd).trans hstep⟩

/-! ## Whether a port trains -/

/-- The registers that decide whether a port trains, beside its administrative state. -/
theorem Law.portTrains {ks : List Nat} {P : Nat} {s t : State} (h : Law (maskOf ks) P s t) (hcfg : Beside ks 0x3000000 0x4000)
    (hdev : 0 ∉ ks ∧ ∀ k ∈ ks, ∀ r ∈ families[k]?, r.Off Reg.DEV_MODE ∧ r.Off Reg.DEV_SLC_STATE) (hP : P.testBit 0 = false) (p : Nat) :
    t.portUsed p = s.portUsed p ∧ ∀ i, t.lanesRun i = s.lanesRun i := by
  have hmode : t.mode = s.mode := State.fld_of_rd F.DEV_MODE.CUR (h.rd_off ⟨hdev.1, fun k hk r hr => (hdev.2 k hk r hr).1⟩)
  have hslc : t.rd Reg.DEV_SLC_STATE = s.rd Reg.DEV_SLC_STATE := h.rd_off ⟨hdev.1, fun k hk r hr => (hdev.2 k hk r hr).2⟩
  have hpart : t.dev = s.dev := h.part_off (p := .dev) hP
  refine ⟨?_, fun i => ?_⟩
  · unfold State.portUsed
    rw [h.laneMode hcfg, State.fld_of_rd (F.LN_CFG.PORT p) (h.rd_lnCfg hcfg p)]
  · have hstate : t.slc i = s.slc i := State.fld_of_rd (F.slcState i) hslc
    have hpower : t.powered i = s.powered i := State.fldBit_of_rd F.DEV_SLC_STATE.POWERED i hslc
    unfold State.lanesRun
    rw [hmode, hpart, hstate, hpower]

theorem Law.trains {ks : List Nat} {P : Nat} {s t : State} (h : Law (maskOf ks) P s t) (hcfg : Beside ks 0x3000000 0x4000)
    (hdev : 0 ∉ ks ∧ ∀ k ∈ ks, ∀ r ∈ families[k]?, r.Off Reg.DEV_MODE ∧ r.Off Reg.DEV_SLC_STATE) (hP : P.testBit 0 = false) {p : Nat}
    (hadmin : t.fld (F.PRT_STATE.ADMIN p) = s.fld (F.PRT_STATE.ADMIN p)) : t.trains p = s.trains p := by
  obtain ⟨hused, hrun⟩ := h.portTrains hcfg hdev hP p
  unfold State.trains
  rw [hused, hadmin, hrun]

end Sys2Proof.Machine
end

section
/-! Lane resets, loopbacks, port resets and administrative states (O21). -/

namespace Sys2Proof.Machine

/-! ## The control word of a lane -/

/-- The state that has stored a lane's control word. -/
def State.laneSet (s : State) (l loop prbs : Nat) : State :=
  ((s.received (Acc.lane l (Reg.LN_CTRL l))).setFld (F.LN_CTRL.LOOP l) loop).setFld (F.LN_CTRL.PRBS l) prbs

/-- Port `p` shows LOOPBACK while a lane of it is looped, and trains when its loopback has ended. -/
def State.loopShown (s : State) (p : Nat) (was : Bool) : State :=
  if s.looped p && s.oper p != Oper.DISABLED then s.setOper p Oper.LOOPBACK
  else if was && !s.looped p && s.oper p == Oper.LOOPBACK then s.retrain p
  else s

section
variable {s : State} {l : Nat}

theorem State.laneSet_law (s : State) (l loop prbs : Nat) : Law (maskOf [4, 211]) 0 s (s.laneSet l loop prbs) := by
  have hctrl : InMask (maskOf [4, 211]) (Reg.LN_CTRL l) := InMask.mk (m := maskOf [4, 211]) 211 (by decide) (by decide) rfl (Reg.LN_CTRL_has l)
  exact State.setFld_law (State.setFld_law ((s.received_law_still _).mono (by decide) (by decide)) _ _ hctrl) _ _ hctrl

theorem State.loop_laneSet (s : State) (l prbs : Nat) {loop : Nat} (h : loop < 4) : (s.laneSet l loop prbs).fld (F.LN_CTRL.LOOP l) = loop := by
  unfold State.laneSet
  rw [State.fld_setFld_bits _ (F.LN_CTRL.PRBS l) (F.LN_CTRL.LOOP l) _ (by decide : 4 < 64) (by decide : 3 ≤ 4) (by decide : 1 ≤ 2) rfl
      (.inl (by decide : 2 < 3)), State.fld_setFld_self _ (F.LN_CTRL.LOOP l) _ (by decide : 2 < 64) (by decide : 1 ≤ 2)]
  exact Nat.mod_eq_of_lt h

theorem State.prbs_laneSet (s : State) (l loop : Nat) {prbs : Nat} (h : prbs < 4) : (s.laneSet l loop prbs).fld (F.LN_CTRL.PRBS l) = prbs :=
  (State.fld_setFld_self _ (F.LN_CTRL.PRBS l) prbs (by decide : 4 < 64) (by decide : 3 ≤ 4)).trans (Nat.mod_eq_of_lt h)

theorem State.oper_laneSet (s : State) (l loop prbs p : Nat) : (s.laneSet l loop prbs).oper p = s.oper p :=
  State.oper_of_rd ((s.laneSet_law l loop prbs).rd_prtState (by decide) p)

theorem State.laneSet_portLanes (s : State) (l loop prbs p : Nat) : (s.laneSet l loop prbs).portLanes p = s.portLanes p :=
  (s.laneSet_law l loop prbs).portLanes (by decide) p

theorem State.laneSet_looped {p : Nat} (s : State) {loop : Nat} (prbs : Nat) (hp : s.portLanes p = [p]) (h : loop < 4) :
    (s.laneSet p loop prbs).looped p = (loop != 0) := by
  rw [State.looped_single ((s.laneSet_portLanes p loop prbs p).trans hp), s.loop_laneSet p prbs h]

theorem State.laneSet_trains (s : State) (l loop prbs p : Nat) : (s.laneSet l loop prbs).trains p = s.trains p := by
  have hlaw := s.laneSet_law l loop prbs
  exact hlaw.trains (by decide) (by decide) (by decide)
    (State.fld_of_rd (F.PRT_STATE.ADMIN p) (hlaw.rd_prtState (by decide) p))

/-- A write of a lane's control word that breaks no rule. -/
theorem State.laneCtrl_acts (h : s.hostOpen) (hmode : s.laneMode l ≠ 0) (hpow : s.powered (sliceOf l) = true) (hport : s.lanePort l = l)
    (reset : Bool) {loop prbs : Nat} (hprobe : loop = 0 ∧ prbs = 0 ∨ s.mode = Mode.PROBE) (hloop : loop ≠ 3) (hprbs : prbs < 2) :
    s.laneCtrl (Acc.lane l (Reg.LN_CTRL l)) l reset loop prbs false =
      (if reset then ((s.laneSet l loop prbs).firstAttempt l).retrain l else s.laneSet l loop prbs).loopShown l
        ((s.received (Acc.lane l (Reg.LN_CTRL l))).looped l) := by
  have hallowed : ((loop != 0 || prbs != 0) && s.mode != Mode.PROBE) = false := by
    rcases hprobe with ⟨rfl, rfl⟩ | hm
    · rfl
    · simp [hm]
  unfold State.laneCtrl
  rw [hport]
  exact State.guard_acts h _ (by simp [Acc.rules, Acc.lane, Acc.direct, State.laneChecks, hmode, hpow, hallowed, hloop, hprbs])

end

theorem State.loopShown_of_plain {s : State} {p : Nat} (h : s.looped p = false) : s.loopShown p false = s := by
  unfold State.loopShown
  rw [h]
  rfl

theorem State.loopShown_of_looped {s : State} {p : Nat} (was : Bool) (h : s.looped p = true) (ho : s.oper p ≠ Oper.DISABLED) :
    s.loopShown p was = s.setOper p Oper.LOOPBACK := if_pos (by simp [h, ho])

/-- The families that a lane or a port which trains changes. -/
def trainFamilies : List Nat := [95, 202, 203, 204] ++ leaveFamilies

theorem State.retrain_law_train (s : State) (p : Nat) : Law (maskOf trainFamilies) 0x17d59d s (s.retrain p) :=
  State.retrain_law (Law.refl _ _ s) p (by decide) (by decide)

theorem State.freshTrain_law (s : State) (p : Nat) : Law (maskOf trainFamilies) 0x17d59d s ((s.firstAttempt p).retrain p) :=
  State.retrain_law ((s.firstAttempt_law_families p).mono (by decide) (by decide)) p (by decide) (by decide)

section
variable {s : State} {p : Nat}

theorem State.firstAttempt_looped (s : State) (p : Nat) : (s.firstAttempt p).looped p = s.looped p :=
  (s.firstAttempt_law_families p).looped (by decide) (by decide) p

theorem State.firstAttempt_portLanes (s : State) (p : Nat) : (s.firstAttempt p).portLanes p = s.portLanes p :=
  (s.firstAttempt_law_families p).portLanes (by decide) p

theorem State.rd_firstAttempt_prtState (s : State) (p : Nat) : (s.firstAttempt p).rd (Reg.PRT_STATE p) = s.rd (Reg.PRT_STATE p) :=
  (s.firstAttempt_law_families p).rd_prtState (by decide) p

theorem State.firstAttempt_trains (s : State) (p : Nat) : (s.firstAttempt p).trains p = s.trains p :=
  (s.firstAttempt_law_families p).trains (by decide) (by decide) (by decide)
    (State.fld_of_rd (F.PRT_STATE.ADMIN p) (s.rd_firstAttempt_prtState p))

/-- A port with a new first attempt has not done it. -/
theorem State.freshTrain_firstDone (h : s.portLanes p = [p]) : ((s.firstAttempt p).retrain p).fld (F.LN_STATUS.FIRST_DONE p) = 0 := by
  rw [State.firstDone_retrain ((s.firstAttempt_portLanes p).trans h), State.firstDone_firstAttempt h]

theorem State.freshTrain_oper (ht : s.trains p = true) (hl : s.looped p = false) : ((s.firstAttempt p).retrain p).oper p = Oper.TRAINING :=
  State.oper_retrain ((s.firstAttempt_trains p).trans ht) ((s.firstAttempt_looped p).trans hl)

theorem State.freshTrain_looped (s : State) (p : Nat) : ((s.firstAttempt p).retrain p).looped p = s.looped p :=
  (s.freshTrain_law p).looped (by decide) (by decide) p

end

/-- The registers that a command on a lane may change. -/
abbrev laneScope : List RegSet :=
  Scope.link ++ Scope.lanes ++
    [RegSet.each (Reg.KT_FREQ 0) 0x100 8, RegSet.each (Reg.LN_EYE 0) 0x4000 256, RegSet.each (Reg.LN_CTRL 0) 0x4000 256]

/-- The registers that a command on a port may change. -/
abbrev portScope : List RegSet :=
  Scope.link ++ Scope.lanes ++
    [RegSet.each (Reg.KT_FREQ 0) 0x100 8, RegSet.each (Reg.PRT_FAB_CNT 0 6) 0x10000 256, RegSet.each (Reg.LN_EYE 0) 0x4000 256]

/-- The parts that a port which comes or goes may change. -/
abbrev linkParts : List Part := [.dev, .host, .scans, .kettle, .vane, .phase, .slices, .fab, .lines, .tt, .freeCtr]

/-- What a command on a lane may change. -/
theorem Law.lane_keepsIn {s t : State} (h : Law (maskOf (4 :: 211 :: trainFamilies)) 0x17d59d s t) :
    KeepsIn laneScope linkParts s t :=
  .of_law h (by decide) (by decide)

theorem execLaneReset_retrains {s : State} {l : Nat} (hl : l < 192) (h : s.hostOpen) (hmode : s.laneMode l ≠ 0)
    (hpow : s.powered (sliceOf l) = true) (hloop : s.fld (F.LN_CTRL.LOOP l) = 0) (hprbs : s.fld (F.LN_CTRL.PRBS l) = 0)
    (ht : s.trains (s.lanePort l) = true) (hlanes : s.portLanes (s.lanePort l) = [l]) :
    NextWith (exec (.laneReset l) s) fun t =>
      t.oper (s.lanePort l) = 2 ∧ t.fld (F.LN_STATUS.FIRST_DONE l) = 0 ∧ t.fld (F.LN_STATUS.LOCK l) = 0 ∧
      t.fld (F.LN_EYE.VALID l) = 0 ∧
      KeepsIn laneScope linkParts s t := by
  have hport : s.lanePort l = l := State.eq_of_portLanes hlanes
  rw [hport] at ht hlanes ⊢
  generalize hu : s.laneSet l 0 0 = u
  have hlooped : u.looped l = false := hu ▸ s.laneSet_looped 0 hlanes (by decide)
  have hwas : (s.received (Acc.lane l (Reg.LN_CTRL l))).looped l = false := by
    rw [Law.looped (ks := [4]) (s.received_law_still _) (by decide) (by decide), State.looped_single hlanes, hloop]
    rfl
  have hlu : u.portLanes l = [l] := hu ▸ (s.laneSet_portLanes l 0 0 l).trans hlanes
  have htu : u.trains l = true := hu ▸ (s.laneSet_trains l 0 0 l).trans ht
  have hexec : exec (.laneReset l) s = .next ((u.firstAttempt l).retrain l) := by
    change execLaneReset l s = _
    unfold execLaneReset
    rw [if_neg (by omega), hloop, hprbs, State.laneCtrl_acts h hmode hpow hport true (.inl ⟨rfl, rfl⟩) (by decide) (by decide), hwas, hu, if_pos rfl,
      State.loopShown_of_plain ((u.freshTrain_looped l).trans hlooped)]
  have hlanesF := (u.firstAttempt_portLanes l).trans hlu
  have htF := (u.firstAttempt_trains l).trans htu
  refine ⟨_, hexec, State.freshTrain_oper htu hlooped, State.freshTrain_firstDone hlu, State.lock_retrain hlanesF htF,
    State.eyeValid_retrain hlanesF htF, Law.lane_keepsIn ?_⟩
  have hset : Law (maskOf [4, 211]) 0 s u := hu ▸ s.laneSet_law l 0 0
  exact (hset.mono (by decide) (by decide)).trans ((u.freshTrain_law l).mono (by decide) (by decide))

theorem execLaneLoopPrbsWrite_loops {s : State} {l : Nat} {loop prbs : BitVec 2} (hl : l < 192) (h : s.hostOpen) (hmode : s.laneMode l ≠ 0)
    (hpow : s.powered (sliceOf l) = true) (hprobe : s.mode = Mode.PROBE) (hloop0 : loop ≠ 0) (hloop3 : loop ≠ 3) (hprbs : prbs.toNat < 2)
    (hlanes : s.portLanes (s.lanePort l) = [l]) (hoper : s.oper (s.lanePort l) ≠ 0) :
    NextWith (exec (.laneLoopPrbsWrite l loop prbs) s) fun t =>
      t.fld (F.LN_CTRL.LOOP l) = loop.toNat ∧ t.fld (F.LN_CTRL.PRBS l) = prbs.toNat ∧ t.oper (s.lanePort l) = 5 ∧
      KeepsIn laneScope linkParts s t := by
  have hport : s.lanePort l = l := State.eq_of_portLanes hlanes
  rw [hport] at hlanes hoper ⊢
  have hne0 : loop.toNat ≠ 0 := fun he => hloop0 (BitVec.eq_of_toNat_eq he)
  have hne3 : loop.toNat ≠ 3 := fun he => hloop3 (BitVec.eq_of_toNat_eq he)
  generalize hu : s.laneSet l loop.toNat prbs.toNat = u
  have hlooped : u.looped l = true := by
    rw [← hu, s.laneSet_looped _ hlanes loop.isLt]
    simpa using hne0
  have hou : u.oper l ≠ Oper.DISABLED := by
    rw [← hu, State.oper_laneSet]
    exact hoper
  have hexec : exec (.laneLoopPrbsWrite l loop prbs) s = .next (u.setOper l Oper.LOOPBACK) := by
    change execLaneLoopPrbsWrite l loop prbs s = _
    unfold execLaneLoopPrbsWrite
    rw [if_neg (by omega), State.laneCtrl_acts h hmode hpow hport false (.inr hprobe) hne3 hprbs, if_neg (by decide), hu,
      State.loopShown_of_looped _ hlooped hou]
  have hctrl := u.rd_setOper_ctrl l Oper.LOOPBACK l
  refine ⟨_, hexec, (State.fld_of_rd (F.LN_CTRL.LOOP l) hctrl).trans ?_, (State.fld_of_rd (F.LN_CTRL.PRBS l) hctrl).trans ?_, ?_,
    Law.lane_keepsIn ?_⟩
  · rw [← hu]
    exact s.loop_laneSet l _ loop.isLt
  · rw [← hu]
    exact s.prbs_laneSet l _ prbs.isLt
  · rw [State.oper_setOper _ _ (by decide), State.operOf_loopback]
    rfl
  · have hset : Law (maskOf [4, 211]) 0 s u := hu ▸ s.laneSet_law l _ _
    exact (hset.mono (by decide) (by decide)).trans ((u.setOper_law_oper l _).mono (by decide) (by decide))

/-! ## The administrative state of a port -/

/-- The state that has stored a port's administrative state. -/
def State.portSet (s : State) (p admin : Nat) : State := (s.received (Acc.prt p (Reg.PRT_STATE p))).setFld (F.PRT_STATE.ADMIN p) admin

theorem State.portSet_law (s : State) (p admin : Nat) : Law (maskOf [4, 202]) 0 s (s.portSet p admin) :=
  State.setFld_law ((s.received_law_still _).mono (by decide) (by decide)) _ _
    (InMask.mk (m := maskOf [4, 202]) 202 (by decide) (by decide) rfl (Reg.PRT_STATE_has p))

theorem State.admin_portSet (s : State) (p : Nat) {admin : Nat} (h : admin < 4) : (s.portSet p admin).fld (F.PRT_STATE.ADMIN p) = admin :=
  (State.fld_setFld_self _ (F.PRT_STATE.ADMIN p) admin (by decide : 1 < 64) (by decide : 0 ≤ 1)).trans (Nat.mod_eq_of_lt h)

theorem State.portSet_looped (s : State) (p admin : Nat) : (s.portSet p admin).looped p = s.looped p :=
  (s.portSet_law p admin).looped (by decide) (by decide) p

theorem State.portSet_portLanes (s : State) (p admin : Nat) : (s.portSet p admin).portLanes p = s.portLanes p :=
  (s.portSet_law p admin).portLanes (by decide) p

theorem State.portSet_isTrunk (s : State) (p admin : Nat) : (s.portSet p admin).isTrunk p = s.isTrunk p :=
  (s.portSet_law p admin).isTrunk (by decide) p

/-- A port that is set up trains where its lanes run. -/
theorem State.portSet_trains (s : State) (p : Nat) : (s.portSet p 1).trains p = (s.portUsed p && s.lanesRun (sliceOf p)) := by
  obtain ⟨hused, hrun⟩ := (s.portSet_law p 1).portTrains (by decide) (by decide) (by decide) p
  unfold State.trains
  rw [hused, hrun, s.admin_portSet p (by decide)]
  simp

/-- A write of a port's administrative state that breaks no rule. -/
theorem State.portState_acts {s : State} {p admin : Nat} {reset : Bool} (h : s.hostOpen) (hused : s.portUsed p = true)
    (hpow : reset = true → s.powered (sliceOf p) = true) (hadmin : admin < 2) :
    s.portState (Acc.prt p (Reg.PRT_STATE p)) p admin reset false false =
      let t := if reset then (s.portSet p admin).portReset p else s.portSet p admin
      if admin = 0 then (if s.fld (F.PRT_STATE.ADMIN p) = 0 then t else t.portOff p)
      else if s.fld (F.PRT_STATE.ADMIN p) = 0 then t.retrain p
      else t := by
  have hrecv : Law (maskOf [4]) 0 s (s.received (Acc.prt p (Reg.PRT_STATE p))) := s.received_law_still _
  have hpow' : (s.received (Acc.prt p (Reg.PRT_STATE p))).powered (sliceOf p) = s.powered (sliceOf p) :=
    State.fldBit_of_rd F.DEV_SLC_STATE.POWERED _ (hrecv.rd_off (by decide))
  have hwas : (s.received (Acc.prt p (Reg.PRT_STATE p))).fld (F.PRT_STATE.ADMIN p) = s.fld (F.PRT_STATE.ADMIN p) :=
    State.fld_of_rd (F.PRT_STATE.ADMIN p) (hrecv.rd_prtState (by decide) p)
  have hand : (reset && s.powered (sliceOf p)) = reset := by
    cases reset
    · rfl
    · simp [hpow rfl]
  have hrule : (reset && !s.powered (sliceOf p)) = false := by
    cases reset
    · rfl
    · simp [hpow rfl]
  unfold State.portState State.portGuard
  rw [if_pos hused, State.guard_acts h _ (by simp [Acc.rules, Acc.prt, Acc.direct, hrule, hadmin])]
  dsimp only
  rw [hpow', hwas, hand]
  rfl

/-- What a command on a port may change. -/
theorem Law.port_keepsIn {s t : State} (h : Law (maskOf (4 :: 136 :: trainFamilies)) 0x17d59d s t) :
    KeepsIn portScope linkParts s t :=
  .of_law h (by decide) (by decide)

theorem State.portSet_law_port (s : State) (p admin : Nat) : Law (maskOf (4 :: 136 :: trainFamilies)) 0x17d59d s (s.portSet p admin) :=
  (s.portSet_law p admin).mono (by decide) (by decide)

/-! ### A reset -/

/-- A port that is reset: one that is up trains, and one that is down is cut all the same. -/
def State.portCleared (s : State) (p : Nat) : State := if s.operUp p then s.setOper p Oper.TRAINING else s.portCut p

theorem State.portReset_eq (s : State) (p : Nat) : s.portReset p = (((s.resetDrops p).portCleared p).firstAttempt p).retrain p := rfl

/-- The families that a reset's dropped frames change. -/
def dropFamilies : List Nat := [1, 2, 3, 4, 26, 53, 116, 119, 120, 123, 124, 125, 136, 139, 140, 144]

theorem State.resetDrops_law_families (s : State) (p : Nat) : Law (maskOf dropFamilies) 0x10811c s (s.resetDrops p) :=
  State.resetDrops_law (Law.refl _ _ s) p (by decide) (by decide)

/-- The families that a port which is cut changes. -/
def cutFamilies : List Nat := [1, 2, 3, 4, 26, 53, 55, 98, 101, 116, 119, 120, 123, 124, 125, 133, 134, 135, 139, 140, 144]

theorem State.portCut_law (s : State) (p : Nat) : Law (maskOf cutFamilies) 0x12c19c s (s.portCut p) :=
  State.ttPortDown_law (State.portDrops_law (State.fdbPortFlush_law (Law.refl _ _ s) p (by decide) (by decide)) p (by decide) (by decide)) p
    (by decide) (by decide)

theorem State.portCleared_law (s : State) (p : Nat) : Law (maskOf operFamilies) 0x17d59d s (s.portCleared p) :=
  .ite (fun _ => s.setOper_law_oper p _) fun _ => (s.portCut_law p).mono (by decide) (by decide)

section
variable {s : State} {p : Nat}

theorem State.operUp_of_training {s : State} {p : Nat} (h : s.oper p = Oper.TRAINING) : s.operUp p = false := by
  unfold State.operUp
  rw [h]
  rfl

theorem State.portCut_rd_prtState (s : State) (p : Nat) : (s.portCut p).rd (Reg.PRT_STATE p) = s.rd (Reg.PRT_STATE p) :=
  (s.portCut_law p).rd_prtState (by decide) p

/-- A cleared port that was up trains. -/
theorem State.portCleared_of_up (hup : s.operUp p = true) (hl : s.looped p = false) : (s.portCleared p).oper p = Oper.TRAINING := by
  unfold State.portCleared
  rw [if_pos hup, State.oper_setOper _ _ (by decide), State.operOf_of_not_looped _ hl]

theorem State.portCleared_operUp (hl : s.looped p = false) : (s.portCleared p).operUp p = false := by
  cases hup : s.operUp p with
  | true => exact State.operUp_of_training (State.portCleared_of_up hup hl)
  | false =>
    unfold State.portCleared
    rw [if_neg (by simp [hup])]
    unfold State.operUp at hup ⊢
    rw [State.oper_of_rd (s.portCut_rd_prtState p)]
    exact hup

theorem State.admin_portCleared (s : State) (p : Nat) : (s.portCleared p).fld (F.PRT_STATE.ADMIN p) = s.fld (F.PRT_STATE.ADMIN p) := by
  unfold State.portCleared
  split
  · exact s.admin_setOper p _
  · exact State.fld_of_rd (F.PRT_STATE.ADMIN p) (s.portCut_rd_prtState p)

theorem State.portCleared_flushed (hl : s.looped p = false) : Flushed p (s.portCleared p) := by
  unfold State.portCleared
  split
  · rename_i hup
    have hof : s.operOf p Oper.TRAINING = Oper.TRAINING := State.operOf_of_not_looped _ hl
    have hdown : (s.operShown p (s.operOf p Oper.TRAINING)).operUp p = false := by
      rw [hof]
      exact State.operUp_of_training (s.oper_operShown p (by decide))
    refine State.setOper_flushes hup hdown fun he => ?_
    rw [State.operUp_of_training (he.trans hof)] at hup
    exact Bool.false_ne_true hup
  · exact s.portCut_flushed p

/-- A reset port trains: one that was up shows it already, and the lanes of one that was down still run. -/
theorem State.oper_resetTrain (ht : s.trains p = true) (hl : s.looped p = false) :
    (((s.portCleared p).firstAttempt p).retrain p).oper p = Oper.TRAINING := by
  have hlc : (s.portCleared p).looped p = false := ((s.portCleared_law p).looped (by decide) (by decide) p).trans hl
  cases htc : (s.portCleared p).trains p with
  | true => exact State.freshTrain_oper htc hlc
  | false =>
    rw [State.retrain_of_still ((State.firstAttempt_trains _ p).trans htc), State.oper_of_rd (State.rd_firstAttempt_prtState _ p)]
    cases hup : s.operUp p with
    | true => exact State.portCleared_of_up hup hl
    | false =>
      have hcut : s.portCleared p = s.portCut p := if_neg (by simp [hup])
      have hrun : (s.portCut p).trains p = s.trains p := (s.portCut_law p).trains (by decide) (by decide) (by decide)
        (State.fld_of_rd (F.PRT_STATE.ADMIN p) (s.portCut_rd_prtState p))
      rw [hcut, hrun, ht] at htc
      exact absurd htc (by decide)

end

theorem State.resetDrops_rd_prtState (s : State) (p : Nat) : (s.resetDrops p).rd (Reg.PRT_STATE p) = s.rd (Reg.PRT_STATE p) :=
  (s.resetDrops_law_families p).rd_prtState (by decide) p

/-- What a reset leaves of a port with one lane that trains. -/
theorem State.portReset_shows {s : State} {p : Nat} (ht : s.trains p = true) (hl : s.looped p = false) (hlanes : s.portLanes p = [p]) :
    (s.portReset p).oper p = Oper.TRAINING ∧ (s.portReset p).fld (F.LN_STATUS.FIRST_DONE p) = 0 ∧
      (s.portReset p).fld (F.PRT_STATE.ADMIN p) = s.fld (F.PRT_STATE.ADMIN p) ∧ Flushed p (s.portReset p) := by
  have hdrops := s.resetDrops_law_families p
  have hadmin := State.fld_of_rd (F.PRT_STATE.ADMIN p) (s.resetDrops_rd_prtState p)
  have htd := (hdrops.trains (by decide) (by decide) (by decide) hadmin).trans ht
  have hld := (hdrops.looped (by decide) (by decide) p).trans hl
  have hlanesd := (hdrops.portLanes (by decide) p).trans hlanes
  rw [State.portReset_eq]
  generalize s.resetDrops p = w at hadmin htd hld hlanesd ⊢
  have hlanesc := ((w.portCleared_law p).portLanes (by decide) p).trans hlanesd
  refine ⟨State.oper_resetTrain htd hld, State.freshTrain_firstDone hlanesc, ?_, ?_⟩
  · rw [State.admin_retrain, State.fld_of_rd (F.PRT_STATE.ADMIN p) (State.rd_firstAttempt_prtState _ p), State.admin_portCleared, hadmin]
  · have hdown : ((w.portCleared p).firstAttempt p).operUp p = false := by
      unfold State.operUp
      rw [State.oper_of_rd (State.rd_firstAttempt_prtState _ p)]
      exact State.portCleared_operUp hld
    exact ((State.portCleared_flushed hld).law (State.firstAttempt_law_families _ p) (by decide)).kept (State.retrain_fdbKept hdown)

theorem execPortReset_retrains {s : State} {p : Nat} (hp : p < 192) (h : s.hostOpen) (hused : s.portUsed p = true)
    (hpow : s.powered (sliceOf p) = true) (hadmin : s.fld (F.PRT_STATE.ADMIN p) = 1) (ht : s.trains p = true) (hlanes : s.portLanes p = [p])
    (hl : s.looped p = false) :
    NextWith (exec (.portReset p) s) fun t =>
      t.oper p = 2 ∧ t.fld (F.LN_STATUS.FIRST_DONE p) = 0 ∧ t.fld (F.PRT_STATE.ADMIN p) = 1 ∧
      (∀ i < 4, ∀ e ∈ (t.slice i).fdb.entries, e.2.isStatic = false → e.2.group = false → e.2.dest ≠ p) ∧
      KeepsIn portScope linkParts s t := by
  have hexec : exec (.portReset p) s = .next ((s.portSet p 1).portReset p) := by
    change execPortReset p s = _
    unfold execPortReset
    rw [if_neg (by omega), hadmin, State.portState_acts h hused (fun _ => hpow) (by decide), hadmin]
    dsimp only
    rw [if_neg (by decide), if_neg (by decide), if_pos rfl]
  have hrun : s.lanesRun (sliceOf p) = true := by
    unfold State.trains at ht
    exact (Bool.and_eq_true_iff.mp ht).2
  have htu : (s.portSet p 1).trains p = true := by rw [s.portSet_trains p, hused, hrun]; rfl
  obtain ⟨hoper, hfirst, hkept, hflushed⟩ :=
    State.portReset_shows htu ((s.portSet_looped p 1).trans hl) ((s.portSet_portLanes p 1).trans hlanes)
  refine ⟨_, hexec, hoper, hfirst, hkept.trans (s.admin_portSet p (by decide)), hflushed.dest_ne, Law.port_keepsIn ?_⟩
  exact State.portReset_law (s.portSet_law_port p 1) p (by decide) (by decide)

/-! ### A port that goes down, and one that comes up -/

/-- A port that is switched off: its lanes have lost their lock. -/
def State.lanesOff (s : State) (p : Nat) : State :=
  ((s.setOper p Oper.DISABLED).rxRestart p).eachLane p fun u l => u.setFld (F.LN_STATUS.LOL l) 1

theorem State.lanesOff_law (s : State) (p : Nat) : Law (maskOf [203]) 0x10000 (s.setOper p Oper.DISABLED) (s.lanesOff p) :=
  State.eachLane_law (State.rxRestart_law_families _ p) p _ (fun _ l h => State.setFld_law h _ _ (InMask.mk (m := maskOf [203]) 203 (by decide) (by decide)
    rfl (Reg.LN_STATUS_has l))) (by decide) (by decide)

theorem State.portOff_of_trunk {s : State} {p : Nat} (h : s.isTrunk p = true) : s.portOff p = ((s.lanesOff p).setTrState p Tr.OFF).txStop p :=
  if_pos h

theorem State.portOff_law_off (s : State) (p : Nat) : Law (maskOf [95]) 0x10000 (s.lanesOff p) (s.portOff p) :=
  .ite (fun _ => State.txStop_law (State.setTrState_law (Law.refl _ _ _) p _ (by decide) (by decide)) p (by decide) (by decide))
    fun _ => Law.refl _ _ _

theorem State.portOff_shows (s : State) (p : Nat) :
    (s.portOff p).oper p = Oper.DISABLED ∧ (s.portOff p).fld (F.PRT_STATE.ADMIN p) = s.fld (F.PRT_STATE.ADMIN p) ∧
      (s.isTrunk p = true → (s.portOff p).trState p = Tr.OFF) := by
  have hrd : (s.portOff p).rd (Reg.PRT_STATE p) = (s.setOper p Oper.DISABLED).rd (Reg.PRT_STATE p) :=
    ((s.portOff_law_off p).rd_prtState (by decide) p).trans ((s.lanesOff_law p).rd_prtState (by decide) p)
  refine ⟨?_, ?_, fun htr => ?_⟩
  · rw [State.oper_of_rd hrd, State.oper_setOper _ _ (by decide), State.operOf_disabled]
  · rw [State.fld_of_rd (F.PRT_STATE.ADMIN p) hrd, State.admin_setOper]
  · have hstop : Law 0 0x10000 ((s.lanesOff p).setTrState p Tr.OFF) (((s.lanesOff p).setTrState p Tr.OFF).txStop p) :=
      State.txStop_law (Law.refl _ _ _) p (by decide) (by decide)
    rw [State.portOff_of_trunk htr]
    refine (State.fld_of_rd (F.LN_TRUNK_STATUS.STATE p) (hstop.rd_all _)).trans ?_
    exact State.fld_setFld_self _ (F.LN_TRUNK_STATUS.STATE p) Tr.OFF (by decide : 3 < 64) (by decide : 0 ≤ 3)

theorem execPortAdminDown_disables {s : State} {p : Nat} (hp : p < 192) (h : s.hostOpen) (hused : s.portUsed p = true)
    (hadmin : s.fld (F.PRT_STATE.ADMIN p) ≠ 0) :
    NextWith (exec (.portAdminDown p) s) fun t =>
      t.fld (F.PRT_STATE.ADMIN p) = 0 ∧ t.oper p = 0 ∧ (s.isTrunk p = true → t.trState p = 0) ∧
      KeepsIn portScope linkParts s t := by
  have hexec : exec (.portAdminDown p) s = .next ((s.portSet p 0).portOff p) := by
    change execPortAdminDown p s = _
    unfold execPortAdminDown
    rw [if_neg (by omega), State.portState_acts h hused (fun hr => absurd hr (by decide)) (by decide)]
    dsimp only
    rw [if_pos rfl, if_neg hadmin]
    rfl
  obtain ⟨hoper, hkept, htrunk⟩ := (s.portSet p 0).portOff_shows p
  refine ⟨_, hexec, hkept.trans (s.admin_portSet p (by decide)), hoper, fun htr => htrunk ((s.portSet_isTrunk p 0).trans htr), Law.port_keepsIn ?_⟩
  exact State.portOff_law (s.portSet_law_port p 0) p (by decide) (by decide)

theorem execPortAdminUp_trains {s : State} {p : Nat} (hp : p < 192) (h : s.hostOpen) (hused : s.portUsed p = true)
    (hadmin : s.fld (F.PRT_STATE.ADMIN p) = 0) (hpow : s.powered (sliceOf p) = true) (hslc : s.slc (sliceOf p) ≠ Slc.DARK)
    (hphase : s.dev.slcPhase.getD (sliceOf p) 0 ≠ 1) (hmode : Mode.STEEP < s.mode) (hl : s.looped p = false) :
    NextWith (exec (.portAdminUp p) s) fun t =>
      t.fld (F.PRT_STATE.ADMIN p) = 1 ∧ t.oper p = 2 ∧ (s.isTrunk p = true → t.trState p = 1 ∧ t.trunkStep p = 0) ∧
      KeepsIn portScope linkParts s t := by
  have hexec : exec (.portAdminUp p) s = .next ((s.portSet p 1).retrain p) := by
    change execPortAdminUp p s = _
    unfold execPortAdminUp
    rw [if_neg (by omega), State.portState_acts h hused (fun hr => absurd hr (by decide)) (by decide)]
    dsimp only
    rw [if_neg (by decide), if_pos hadmin]
    rfl
  have hrun : s.lanesRun (sliceOf p) = true := by
    unfold State.lanesRun
    simp [hpow, hphase, hmode, hslc]
  have htu : (s.portSet p 1).trains p = true := by
    rw [s.portSet_trains p, hused, hrun]
    rfl
  refine ⟨_, hexec, (State.admin_retrain _ p).trans (s.admin_portSet p (by decide)), State.oper_retrain htu ((s.portSet_looped p 1).trans hl),
    fun htr => State.retrain_trunk htu ((s.portSet_isTrunk p 1).trans htr), Law.port_keepsIn ?_⟩
  exact State.retrain_law (s.portSet_law_port p 1) p (by decide) (by decide)

/-- Settles O21, clause by clause. -/
theorem hostControlsLanesAndPorts : Obligations.HostControlsLanesAndPorts := by
  unfold Obligations.HostControlsLanesAndPorts
  exact ⟨fun s l hl h hmode hpow hloop hprbs ht _ hlanes _ => execLaneReset_retrains hl h hmode hpow hloop hprbs ht hlanes,
    fun s l loop prbs hl h hmode hpow hprobe h0 h3 hprbs hlanes hoper =>
      execLaneLoopPrbsWrite_loops hl h hmode hpow hprobe h0 h3 hprbs hlanes hoper,
    fun s p hp h hused hpow hadmin ht hlanes hl => execPortReset_retrains hp h hused hpow hadmin ht hlanes hl,
    fun s p hp h hused hadmin => execPortAdminDown_disables hp h hused hadmin,
    fun s p hp h hused hadmin hpow hslc hphase hmode hl => execPortAdminUp_trains hp h hused hadmin hpow hslc hphase hmode hl⟩

end Sys2Proof.Machine
end

section
/-! A partial image that takes its slice's place (O17): its frame names the words of SLC_FLAT, and leaves out what lies between them. -/

namespace Sys2Proof.Machine

/-- The state after reset with a placed partial image of slice 0, and a 1 listed between two words of its SLC_FLAT. -/
def partialWithFlatGap : State :=
  { ((State.reset.setFld F.IMG_STATUS.PARTIAL 1).setFld F.IMG_STATUS.STATE ImgSt.APPLY).wr flatGap 1 with
    img := { State.reset.img with placed := 2 } }

/-- PARTIAL_IMAGE_APPLIED of slice 0 in `partialWithFlatGap`. -/
def partialApplied : State := (((partialWithFlatGap.commitPart 0).setSlc 0 Slc.ACTIVE).imgEnd ImgSt.DONE 0).settle

theorem partialApplied_flatGap : partialApplied.rd flatGap = 0 := by decide +kernel

/-- Refutes O17, by its sixth clause: in `partialWithFlatGap` the partial image is applied, and the 1 at `flatGap` is gone. -/
theorem not_imageCommandsActAndPartialImagesApply : ¬ Obligations.ImageCommandsActAndPartialImagesApply := by
  unfold Obligations.ImageCommandsActAndPartialImagesApply
  rintro ⟨-, -, -, -, -, happlied, -⟩
  obtain ⟨t, ht, -, -, -, -, -, -, -, hkeeps⟩ := happlied partialWithFlatGap 0 (by decide) (by decide) (by decide)
  obtain rfl : partialApplied = t := by injection ht
  have hrd := hkeeps.rd_odd (a := flatGap) (by decide) (by decide)
  rw [partialApplied_flatGap] at hrd
  exact absurd hrd (by decide)

end Sys2Proof.Machine
end

section
/-! The loader (O16, O58): how an operation ends, what a failed attempt leaves by its source, and the watchdog of a fetch. -/

namespace Sys2Proof.Machine

theorem KeepsRep.mono {own own' : List Nat} {ps qs : List Part} {s t : State} (h : KeepsRep own ps s t) (ho : own ⊆ own') (hp : ps ⊆ qs) :
    KeepsRep own' qs s t :=
  (h.keepsIn.mono (List.map_subset _ ho) hp).keepsRep

/-! ## The end of an operation -/

/-- The state and the code of an operation that ends, before its interrupt. -/
def State.imgShown (s : State) (st code : Nat) : State := (s.setFld F.IMG_STATUS.STATE st).setFld F.IMG_STATUS.CODE code

theorem State.rd_imgEnd (s : State) (st code : Nat) : (s.imgEnd st code).rd Reg.IMG_STATUS = (s.imgShown st code).rd Reg.IMG_STATUS :=
  State.rd_raiseCause_ne _ _ (by decide)

theorem State.state_imgEnd (s : State) {st : Nat} (code : Nat) (hst : st < 8) : (s.imgEnd st code).fld F.IMG_STATUS.STATE = st := by
  rw [State.fld_of_rd F.IMG_STATUS.STATE (s.rd_imgEnd st code), State.imgShown,
    State.fld_setFld_bits _ F.IMG_STATUS.CODE F.IMG_STATUS.STATE _ (by decide) (by decide) (by decide) rfl (by decide),
    State.fld_setFld_self _ F.IMG_STATUS.STATE _ (by decide) (by decide)]
  exact Nat.mod_eq_of_lt hst

theorem State.code_imgEnd (s : State) (st code : Nat) : (s.imgEnd st code).fld F.IMG_STATUS.CODE = code % 256 := by
  rw [State.fld_of_rd F.IMG_STATUS.CODE (s.rd_imgEnd st code)]
  exact State.fld_setFld_self _ F.IMG_STATUS.CODE code (by decide) (by decide)

theorem State.source_imgEnd (s : State) (st code : Nat) : (s.imgEnd st code).fld F.IMG_STATUS.SOURCE = s.fld F.IMG_STATUS.SOURCE := by
  rw [State.fld_of_rd F.IMG_STATUS.SOURCE (s.rd_imgEnd st code), State.imgShown,
    State.fld_setFld_bits _ F.IMG_STATUS.CODE F.IMG_STATUS.SOURCE _ (by decide) (by decide) (by decide) rfl (by decide),
    State.fld_setFld_bits _ F.IMG_STATUS.STATE F.IMG_STATUS.SOURCE _ (by decide) (by decide) (by decide) rfl (by decide)]

/-- The check number of a failure in the detail registers, cut to its eight bits. -/
theorem State.check_imgDetail (s : State) (f : ImgFail) : (s.imgDetail f).fld F.IMG_DETAIL.CHECK = f.check % 256 := by
  unfold State.imgDetail State.fld
  rw [State.rd_wr_ne _ _ (by decide), show F.IMG_DETAIL.CHECK.ofs = Reg.IMG_DETAIL from rfl, State.rd_wr_self]
  simp only [bitsOf, F.IMG_DETAIL.CHECK, BitVec.toNat_ofNat]
  omega

theorem State.source_imgDetail (s : State) (f : ImgFail) : (s.imgDetail f).fld F.IMG_STATUS.SOURCE = s.fld F.IMG_STATUS.SOURCE :=
  State.fld_of_rd _ ((State.rd_wr_ne _ _ (by decide)).trans (State.rd_wr_ne _ _ (by decide)))

theorem State.rd_imgEnd_detail (s : State) (st code : Nat) : (s.imgEnd st code).rd Reg.IMG_DETAIL = s.rd Reg.IMG_DETAIL :=
  (State.rd_raiseCause_ne _ _ (by decide)).trans ((State.rd_setFld_ne _ _ _ (by decide)).trans (State.rd_setFld_ne _ _ _ (by decide)))

/-! ## A failed attempt (R80) -/

/-- The state of IMG_STATUS after a failed attempt to load from a source. -/
def imgFailState (src : ImgSource) : Nat :=
  if src = .flashA then ImgSt.FETCH else if src = .flashB then ImgSt.WAIT_HOST else ImgSt.FAILED

/-- After flash copy A, copy B is fetched. -/
theorem State.loadFails_flashA (s : State) (f : ImgFail) :
    (s.loadFails 0 f).fld F.IMG_STATUS.STATE = ImgSt.FETCH ∧ (s.loadFails 0 f).fld F.IMG_STATUS.FALLBACK = 1 ∧
    (s.loadFails 0 f).fld F.IMG_STATUS.SOURCE = 1 ∧ (s.loadFails 0 f).fld F.IMG_DETAIL.CHECK = f.check % 256 := by
  have hfails : s.loadFails 0 f =
      (((s.imgDetail f).setFld F.IMG_STATUS.FALLBACK 1).setFld F.IMG_STATUS.STATE ImgSt.FETCH).setFld F.IMG_STATUS.SOURCE 1 := rfl
  rw [hfails]
  refine ⟨?_, ?_, ?_, ?_⟩
  · rw [State.fld_setFld_bits _ F.IMG_STATUS.SOURCE F.IMG_STATUS.STATE _ (by decide) (by decide) (by decide) rfl (by decide)]
    exact State.fld_setFld_self _ F.IMG_STATUS.STATE _ (by decide) (by decide)
  · rw [State.fld_setFld_bits _ F.IMG_STATUS.SOURCE F.IMG_STATUS.FALLBACK _ (by decide) (by decide) (by decide) rfl (by decide),
      State.fld_setFld_bits _ F.IMG_STATUS.STATE F.IMG_STATUS.FALLBACK _ (by decide) (by decide) (by decide) rfl (by decide)]
    exact State.fld_setFld_self _ F.IMG_STATUS.FALLBACK _ (by decide) (by decide)
  · exact State.fld_setFld_self _ F.IMG_STATUS.SOURCE _ (by decide) (by decide)
  · rw [State.fld_setFld_ofs _ _ _ _ (by decide), State.fld_setFld_ofs _ _ _ _ (by decide), State.fld_setFld_ofs _ _ _ _ (by decide)]
    exact s.check_imgDetail f

/-- After flash copy B, the host is awaited. -/
theorem State.loadFails_flashB (s : State) (f : ImgFail) :
    (s.loadFails 1 f).fld F.IMG_STATUS.STATE = ImgSt.WAIT_HOST ∧ (s.loadFails 1 f).fld F.IMG_STATUS.CODE = f.code % 256 ∧
    (s.loadFails 1 f).fld F.IMG_STATUS.SOURCE = s.fld F.IMG_STATUS.SOURCE :=
  ⟨s.state_imgEnd f.code (by decide), s.code_imgEnd ImgSt.WAIT_HOST f.code, s.source_imgEnd ImgSt.WAIT_HOST f.code⟩

/-- A host load ends in FAILED. -/
theorem State.loadFails_host (s : State) (f : ImgFail) :
    (s.loadFails 2 f).fld F.IMG_STATUS.STATE = ImgSt.FAILED ∧ (s.loadFails 2 f).fld F.IMG_STATUS.CODE = f.code % 256 ∧
    (s.loadFails 2 f).fld F.IMG_STATUS.SOURCE = s.fld F.IMG_STATUS.SOURCE ∧ (s.loadFails 2 f).fld F.IMG_DETAIL.CHECK = f.check % 256 :=
  ⟨State.state_imgEnd _ f.code (by decide), State.code_imgEnd _ ImgSt.FAILED f.code,
    (State.source_imgEnd _ ImgSt.FAILED f.code).trans (s.source_imgDetail f),
    (State.fld_of_rd F.IMG_DETAIL.CHECK (State.rd_imgEnd_detail _ ImgSt.FAILED f.code)).trans (s.check_imgDetail f)⟩

theorem State.state_loadFails (s : State) (src : ImgSource) (f : ImgFail) :
    (s.loadFails (imgSourceCode src) f).fld F.IMG_STATUS.STATE = imgFailState src := by
  cases src with
  | flashA => exact (s.loadFails_flashA f).1
  | flashB => exact (s.loadFails_flashB f).1
  | host => exact (s.loadFails_host f).1

/-- Beside the interrupt, a failed attempt changes the status of the image and its detail registers only. -/
theorem State.loadFails_law_img (s : State) (source : Nat) (f : ImgFail) : Law (maskOf [1, 28, 251, 252]) 0x100004 s (s.loadFails source f) :=
  State.loadFails_law (Law.refl _ _ s) source f (by decide) (by decide)

theorem State.loadFails_keepsRep (s : State) (source : Nat) (f : ImgFail) :
    KeepsRep [Reg.IMG_STATUS, Reg.IMG_DETAIL, Reg.IMG_DETAIL_OFS] [] s (s.loadFails source f) :=
  KeepsIn.keepsRep (.of_law (s.loadFails_law_img source f) (by decide) (by decide))

theorem State.loadFails_mode (s : State) (source : Nat) (f : ImgFail) : (s.loadFails source f).mode = s.mode :=
  State.fld_of_rd _ ((s.loadFails_law_img source f).rd_off (by decide))

/-! ## The watchdog of a fetch (R82, R359) -/

theorem State.loading_of_awaits {s : State} {src : ImgSource} (h : s.loadAwaits src = true) : s.mode = Mode.LOAD := by
  cases src <;> simp only [State.loadAwaits, State.flashLoading, Bool.and_eq_true, beq_iff_eq] at h <;> tauto

/-- LOAD awaits one source at a time. -/
theorem State.find_awaits {s : State} {src : ImgSource} (h : s.loadAwaits src = true) :
    [ImgSource.flashA, .flashB, .host].find? s.loadAwaits = some src := by
  cases src with
  | flashA => simp [h]
  | flashB =>
    have hA : s.loadAwaits .flashA = false := by
      simp only [State.loadAwaits, Bool.and_eq_true, beq_iff_eq] at h
      simp [State.loadAwaits, h.2]
    simp [hA, h]
  | host =>
    have hflash : s.flashLoading = false := by
      simp only [State.loadAwaits, Bool.and_eq_true, beq_iff_eq] at h
      simp [State.flashLoading, h.1.2, h.2, ImgSt.FETCH]
    have hA : s.loadAwaits .flashA = false := by simp [State.loadAwaits, hflash]
    have hB : s.loadAwaits .flashB = false := by simp [State.loadAwaits, hflash]
    simp [hA, hB, h]

/-- The failure of a fetch that its watchdog ends: check number 0. -/
def ImgFail.timeout : ImgFail := ⟨0, Err.IMAGE_CHECK, 0, 0, 0⟩

theorem exec_loaderWatchdogExpiry_of_awaited {s : State} {src : ImgSource} (h : s.loadAwaits src = true) :
    exec (.loaderWatchdogExpiry) s = .next ((s.loadFails (imgSourceCode src) .timeout).watchdog 8).coveredFault := by
  change execLoaderWatchdogExpiry s = _
  unfold execLoaderWatchdogExpiry
  rw [State.find_awaits h]
  rfl

theorem State.spoutEvent_keepsIn (s : State) (src inst arg data : Nat) : KeepsIn [] [] s (s.spoutEvent src inst arg data) :=
  .of_law (State.spoutEvent_law (W := maskOf [1, 2, 3]) (P := 0x10000c) (Law.refl _ _ s) _ _ _ _ (by decide) (by decide)) (by decide) (by decide)

theorem State.watchdog_keepsRep (s : State) (n : Nat) : KeepsRep [Reg.ST_WD_CNT n] [] s (s.watchdog n) :=
  (Keeps.wr s [] _ (List.mem_singleton_self _)).keepsRep.trans ((State.spoutEvent_keepsIn _ Sp.WD n 0 0).mono (by simp) (by simp)).keepsRep

theorem Reg.ST_WD_CNT_not_reporting (n : Nat) : ¬ Reporting (Reg.ST_WD_CNT n) := by
  unfold Reporting Reg.ST_WD_CNT Reg.DEV_IRQ_STATUS Reg.SP_PEND Reg.SP_LOST_CNT Reg.PF_CNT
  rintro (h | h | ⟨m, h⟩ | ⟨m, h⟩) <;> omega

theorem State.rd_watchdog (s : State) (n : Nat) : (s.watchdog n).rd (Reg.ST_WD_CNT n) = s.rd (Reg.ST_WD_CNT n) + 1 := by
  unfold State.watchdog
  rw [(State.spoutEvent_keepsIn _ Sp.WD n 0 0).1 _ (by simp) (Reg.ST_WD_CNT_not_reporting n), State.rd_count_self]

/-- A covered fault during LOAD marks DEV_FATAL and halts the loader, where another fault is being recovered from. -/
theorem State.coveredFault_keepsRep {s : State} (h : s.mode = Mode.LOAD) : KeepsRep [Reg.DEV_FATAL] [.dev] s s.coveredFault := by
  unfold State.coveredFault
  split
  · exact ⟨fun _ _ _ => rfl, fun p _ => by cases p <;> rfl⟩
  · rw [State.fatal_of_load _ h]
    exact ((s.markFatal_keepsIn _).mono (List.Subset.refl _) (List.nil_subset _)).keepsRep.trans (Keeps.withDev _ _ _).keepsRep

theorem State.coveredFault_of_none {s : State} (h : s.dev.recov = 0) : s.coveredFault = s := if_pos h

/-- What the expiry of the watchdog of an awaited fetch changes: the attempt fails, the expiry is counted, and a fault within a recovery
interval is a second one. -/
theorem State.loaderTimeout_shows {s : State} {src : ImgSource} (h : s.loadAwaits src = true) :
    NextWith (exec (.loaderWatchdogExpiry) s) fun t =>
      t.rd (Reg.ST_WD_CNT 8) = s.rd (Reg.ST_WD_CNT 8) + 1 ∧ t.mode = s.mode ∧
      t.rd Reg.IMG_STATUS = (s.loadFails (imgSourceCode src) .timeout).rd Reg.IMG_STATUS ∧
      t.rd Reg.IMG_DETAIL = (s.loadFails (imgSourceCode src) .timeout).rd Reg.IMG_DETAIL ∧
      (s.dev.recov = 0 → KeepsRep [Reg.IMG_STATUS, Reg.IMG_DETAIL, Reg.IMG_DETAIL_OFS, Reg.ST_WD_CNT 8] [] s t) ∧
      (s.dev.recov ≠ 0 → KeepsRep [Reg.IMG_STATUS, Reg.IMG_DETAIL, Reg.IMG_DETAIL_OFS, Reg.ST_WD_CNT 8, Reg.DEV_FATAL] [.dev] s t) := by
  have hexec := exec_loaderWatchdogExpiry_of_awaited h
  have hfail := s.loadFails_keepsRep (imgSourceCode src) .timeout
  have hmode := s.loadFails_mode (imgSourceCode src) .timeout
  generalize s.loadFails (imgSourceCode src) .timeout = u at hexec hfail hmode ⊢
  have hdog := u.watchdog_keepsRep 8
  have hmode8 : (u.watchdog 8).mode = u.mode := State.fld_of_rd _ (hdog.1 _ (by decide) (not_reporting_of_lt (by decide) (by decide)))
  have hdev : (u.watchdog 8).dev = s.dev := Eq.trans (hdog.2 .dev (by decide)) (hfail.2 .dev (by decide))
  have hfault := State.coveredFault_keepsRep (hmode8.trans (hmode.trans (State.loading_of_awaits h)))
  have hlate : ∀ a < 0x600040, a ≠ Reg.DEV_IRQ_STATUS → a ≠ Reg.DEV_FATAL → (u.watchdog 8).coveredFault.rd a = u.rd a :=
    fun a ha hirq hfatal => (hfault.1 a (by simpa using hfatal) (not_reporting_of_lt ha hirq)).trans
      (hdog.1 a (by simp only [List.mem_singleton]; rintro rfl; exact absurd ha (by decide)) (not_reporting_of_lt ha hirq))
  refine ⟨_, hexec, ?_, ?_, hlate _ (by decide) (by decide) (by decide), hlate _ (by decide) (by decide) (by decide), fun hrec => ?_, fun _ => ?_⟩
  · rw [hfault.1 _ (by decide) (Reg.ST_WD_CNT_not_reporting 8), State.rd_watchdog, hfail.1 _ (by decide) (Reg.ST_WD_CNT_not_reporting 8)]
  · exact (State.fld_of_rd _ (hlate _ (by decide) (by decide) (by decide))).trans hmode
  · rw [State.coveredFault_of_none (hdev ▸ hrec)]
    exact (hfail.mono (by decide) (by decide)).trans (hdog.mono (by decide) (by decide))
  · exact ((hfail.mono (by decide) (by decide)).trans (hdog.mono (by decide) (by decide))).trans (hfault.mono (by decide) (by decide))

end Sys2Proof.Machine
end

section
/-! A fetched image (O16, O58): it is rejected, locked, not placed, or placed, and where it is placed LOAD ends in STEEP or PROBE. -/

namespace Sys2Proof.Machine

/-! ## Entering PROBE with ports that are down -/

/-- A port that is down trains without leaving a link. -/
theorem State.retrain_law_down {s : State} {p : Nat} (h : s.operUp p = false) :
    Law (maskOf [1, 2, 3, 55, 56, 57, 59, 60, 61, 62, 64, 65, 66, 67, 95, 202, 203, 204]) 0x17140c s (s.retrain p) := by
  cases ht : s.trains p with
  | false =>
    rw [State.retrain_of_still ht]
    exact Law.refl _ _ s
  | true =>
    rw [State.retrain_of_trains ht]
    have hup := (s.restarted_operUp p).trans h
    have hlaw := s.restarted_law p
    generalize s.restarted p = u at hup hlaw ⊢
    refine (hlaw.mono (by decide) (by decide)).trans ?_
    by_cases hnew : u.oper p = u.operOf p Oper.TRAINING
    · rw [State.setOper_of_same hnew]
      exact Law.refl _ _ u
    · rw [State.setOper_of_new hnew]
      unfold State.linkLeft
      rw [hup, Bool.false_and, if_neg Bool.false_ne_true]
      refine State.vnPortChange_law ?_ p (by decide) (by decide)
      refine State.setFld_law ((u.lanesMarked_law p).mono (by decide) (by decide)) _ _ ?_
      exact InMask.mk (m := maskOf [202]) 202 (by decide) (by decide) rfl (Reg.PRT_STATE_has p)

/-- The families that entering PROBE changes; the ports that it trains are down, so no link is left. -/
def probeFamilies : List Nat :=
  [1, 2, 3, 6, 7, 27, 29, 36, 37, 38, 54, 55, 56, 57, 59, 60, 61, 62, 64, 65, 66, 67, 95, 202, 203, 204, 223]

theorem State.enterProbe_law_probe (s : State) : Law (maskOf probeFamilies) 0x17578d s s.enterProbe := by
  unfold State.enterProbe
  extract_lets s1 s2 s3
  have h1 : Law (maskOf probeFamilies) 0x17578d s s1 := State.setMode_law (Law.refl _ _ s) _ _ (by decide) (by decide)
  have h2 : Law (maskOf probeFamilies) 0x17578d s s2 := Law.foldl _ h1 fun t i ht =>
    .ite (fun _ => ht) fun _ => .ite (fun _ => State.setSlc_law ht _ _ (by decide) (by decide))
      fun _ => State.powerUp_law ht _ (by decide) (by decide)
  have h3 : Law (maskOf probeFamilies) 0x17578d s s3 := .ite (fun _ => State.kettleSteep_law h2 _ (by decide) (by decide)) fun _ => h2
  refine Law.foldl _ h3 fun t p ht => .ite (fun hdown => ?_) fun _ => ht
  have hfirst : (t.firstAttempt p).operUp p = false := by
    simp [State.operUp, State.oper_of_rd (t.rd_firstAttempt_prtState p), hdown, Oper.DISABLED, Oper.UP, Oper.IDLE]
  exact (ht.trans ((t.firstAttempt_law_families p).mono (by decide) (by decide))).trans
    ((State.retrain_law_down hfirst).mono (by decide) (by decide))

/-! ## Placing an image -/

/-- An image that is applied is the one held: filling tables and reading calibration leave it. -/
theorem State.applyImage_held (s : State) (img : List Byte) (cal : CalFlash) : (s.applyImage img cal).1.img.held = img := by
  unfold State.applyImage
  extract_lets s1 s2 s3 serial old s4 r s5
  have hr : Law Mask.regs 0x107cac s4 r.1 := Law.foldl_fst _ (Law.refl _ _ s4) fun t b i ht => by
    dsimp only
    split
    · exact ht
    · split
      · split <;> rename_i heq <;> exact Law.of_fst heq (State.reapply_law ht i rfl (by decide))
      · exact ht
  have h5 : Law Mask.regs 0x107cac s4 s5 := State.readCal_law hr cal _ _ rfl (by decide)
  have hend : Law Mask.regs 0x107cac s4 (s5.ports.foldl State.ttConsumer s5) :=
    Law.foldl _ h5 fun _ _ ht => State.ttConsumer_law ht _ rfl (by decide)
  exact congrArg Img.held (hend.part_off (p := .img) (by decide))

/-! ## The cases of a fetched image -/

/-- A state that shows where the image came from. -/
def State.sourced (s : State) (source : Nat) : State := (s.setFld F.IMG_STATUS.SOURCE source).setFld F.IMG_STATUS.DEV_KEY (b2n (Config.keyHash == 0))

/-- The state in which an image of source `src` has been fetched. -/
def State.fetched (s : State) (src : ImgSource) : State := (s.discover src).sourced (imgSourceCode src)

/-- What the checks find in an image of source `src`; a host image has the length that its register gives. -/
def State.judge (s : State) (src : ImgSource) (img : List Byte) : Option ImgFail :=
  imgCheck img ⟨if src = .host then s.fld F.IMG_HOST_LEN.LEN else img.length, none, []⟩

/-- The state that LOAD leaves with an image of source `src`. -/
def State.loaded (s : State) (src : ImgSource) (img : List Byte) (cal : CalFlash) : State :=
  (s.discover src).loadImage (imgSourceCode src) (if src = .host then s.fld F.IMG_HOST_LEN.LEN else img.length) img cal

theorem exec_imageFetchComplete_of_awaited {s : State} {src : ImgSource} (img : List Byte) (cal : CalFlash) (h : s.loadAwaits src = true)
    (htail : src = .host ∨ s.host.flashTail = false) : exec (.imageFetchComplete src img cal) s = .next (s.loaded src img cal) := by
  refine if_pos ?_
  rcases htail with rfl | htail
  · simp [h]
  · simp [h, htail]

section
variable (s : State) (src : ImgSource) (img : List Byte) (cal : CalFlash)

theorem State.fetched_law : Law (maskOf [28, 253]) 0x40010 s (s.fetched src) := by
  have himg : InMask (maskOf [28, 253]) Reg.IMG_STATUS := InMask.mk (m := maskOf [28]) 28 (by decide) (by decide) rfl Reg.IMG_STATUS_has
  exact State.setFld_law (State.setFld_law (State.discover_law (Law.refl _ _ s) src (by decide) (by decide)) _ _ himg) _ _ himg

theorem State.fetched_mode : (s.fetched src).mode = s.mode := State.fld_of_rd _ ((s.fetched_law src).rd_off (by decide))

theorem State.discover_dev : (s.discover src).dev = s.dev :=
  (State.discover_law (Law.refl (maskOf [253]) 0x40010 s) src (by decide) (by decide)).part_off (p := .dev) (by decide)

theorem State.fetched_source : (s.fetched src).fld F.IMG_STATUS.SOURCE = imgSourceCode src := by
  unfold State.fetched State.sourced
  rw [State.fld_setFld_bits _ F.IMG_STATUS.DEV_KEY F.IMG_STATUS.SOURCE _ (by decide) (by decide) (by decide) rfl (by decide),
    State.fld_setFld_self _ F.IMG_STATUS.SOURCE _ (by decide) (by decide)]
  cases src <;> rfl

theorem State.loaded_of_rejected {f : ImgFail} (h : s.judge src img = some f) :
    s.loaded src img cal = (s.fetched src).loadFails (imgSourceCode src) f := by
  unfold State.judge at h
  unfold State.loaded State.loadImage
  rw [h]
  rfl

/-- An image that passes its checks, with the straps of PROBE and the fuse that forbids it. -/
def State.lockedOut : State :=
  (({ s with dev := { s.dev with lockedLoad := true } }.wr Reg.IMG_DETAIL 0).imgEnd ImgSt.FAILED Err.LOCKED).recordErr
    ⟨Base.DEV, Reg.DEV_MODE, false, false, false, false, false⟩ Err.LOCKED

theorem State.loaded_of_locked (h : s.judge src img = none) (hboot : s.dev.bootSel = 3) (hlock : Config.dbgLock = true) :
    s.loaded src img cal = (s.fetched src).lockedOut := by
  unfold State.judge at h
  unfold State.loaded State.loadImage
  rw [h]
  exact if_pos ⟨(congrArg Dev.bootSel (s.discover_dev src)).trans hboot, hlock⟩

/-- An image that passes its checks and that nothing locks out is placed. -/
theorem State.loaded_of_open (h : s.judge src img = none) (hopen : s.dev.bootSel ≠ 3 ∨ Config.dbgLock = false) :
    s.loaded src img cal =
      match (s.fetched src).applyImage img cal with
      | (_, some i) => (s.fetched src).loadFails (imgSourceCode src) ⟨15, Err.IMAGE_CHECK, 0x20, 0, heldSlice img i + 48⟩
      | (t, none) => if s.dev.bootSel = 3 then (t.imgEnd ImgSt.DONE 0).enterProbe else (t.imgEnd ImgSt.DONE 0).enterSteep := by
  have hdev := s.discover_dev src
  unfold State.judge at h
  unfold State.loaded State.loadImage
  rw [h, hdev]
  refine if_neg ?_
  rintro ⟨hboot, hlock⟩
  rcases hopen with hne | hfree
  · exact hne hboot
  · simp [hfree] at hlock

theorem State.loaded_of_unplaced (h : s.judge src img = none) (hopen : s.dev.bootSel ≠ 3 ∨ Config.dbgLock = false)
    (hplace : ((s.fetched src).applyImage img cal).2 ≠ none) : ∃ f, s.loaded src img cal = (s.fetched src).loadFails (imgSourceCode src) f := by
  rw [State.loaded_of_open s src img cal h hopen]
  generalize (s.fetched src).applyImage img cal = r at hplace ⊢
  obtain ⟨t, _ | i⟩ := r
  · exact absurd rfl hplace
  · exact ⟨_, rfl⟩

theorem State.loaded_of_placed (h : s.judge src img = none) (hopen : s.dev.bootSel ≠ 3 ∨ Config.dbgLock = false)
    (hplace : ((s.fetched src).applyImage img cal).2 = none) :
    ∃ t : State, t.img.held = img ∧
      s.loaded src img cal = if s.dev.bootSel = 3 then (t.imgEnd ImgSt.DONE 0).enterProbe else (t.imgEnd ImgSt.DONE 0).enterSteep := by
  rw [State.loaded_of_open s src img cal h hopen]
  have hheld := (s.fetched src).applyImage_held img cal
  generalize (s.fetched src).applyImage img cal = r at hplace hheld ⊢
  obtain ⟨t, _ | i⟩ := r
  · exact ⟨t, hheld, rfl⟩
  · exact absurd hplace (Option.some_ne_none i)

end

/-! ## What each case shows -/

theorem State.imgEnd_img (s : State) (st code : Nat) : (s.imgEnd st code).img = s.img :=
  (State.imgEnd_law (Law.refl (maskOf [1, 28]) 0x100004 s) st code (by decide) (by decide)).part_off (p := .img) (by decide)

/-- A placed image is held in STEEP, and the load is done. -/
theorem State.doneSteep_shows (s : State) :
    (s.imgEnd ImgSt.DONE 0).enterSteep.mode = Mode.STEEP ∧ (s.imgEnd ImgSt.DONE 0).enterSteep.img = s.img ∧
    (s.imgEnd ImgSt.DONE 0).enterSteep.fld F.IMG_STATUS.STATE = ImgSt.DONE ∧ (s.imgEnd ImgSt.DONE 0).enterSteep.fld F.IMG_STATUS.CODE = 0 := by
  have hlaw : Law (maskOf [1, 2, 3, 27, 36, 37, 38, 54]) 0x14030d (s.imgEnd ImgSt.DONE 0) (s.imgEnd ImgSt.DONE 0).enterSteep :=
    State.enterSteep_law (Law.refl _ _ _) (by decide) (by decide)
  have hrd := hlaw.rd_off (a := Reg.IMG_STATUS) (by decide)
  exact ⟨(State.enterSteep_set _).cur, Eq.trans (hlaw.part_off (p := .img) (by decide)) (s.imgEnd_img _ _),
    (State.fld_of_rd _ hrd).trans (s.state_imgEnd 0 (by decide)), (State.fld_of_rd _ hrd).trans (s.code_imgEnd _ 0)⟩

/-- A placed image is held in PROBE, and the load is done. -/
theorem State.doneProbe_shows (s : State) :
    (s.imgEnd ImgSt.DONE 0).enterProbe.mode = Mode.PROBE ∧ (s.imgEnd ImgSt.DONE 0).enterProbe.img = s.img ∧
    (s.imgEnd ImgSt.DONE 0).enterProbe.fld F.IMG_STATUS.STATE = ImgSt.DONE := by
  have hlaw := (s.imgEnd ImgSt.DONE 0).enterProbe_law_probe
  exact ⟨(State.enterProbe_set _).cur, Eq.trans (hlaw.part_off (p := .img) (by decide)) (s.imgEnd_img _ _),
    (State.fld_of_rd _ (hlaw.rd_off (by decide))).trans (s.state_imgEnd 0 (by decide))⟩

theorem State.lockedOut_shows (s : State) :
    s.lockedOut.mode = s.mode ∧ s.lockedOut.fld F.IMG_STATUS.STATE = ImgSt.FAILED ∧ s.lockedOut.fld F.IMG_STATUS.CODE = Err.LOCKED := by
  unfold State.lockedOut
  generalize hu : State.wr { s with dev := _ } Reg.IMG_DETAIL 0 = u
  have hmode : u.mode = s.mode := hu ▸ State.fld_of_rd _ (State.rd_wr_ne _ _ (by decide))
  generalize hacc : (⟨Base.DEV, Reg.DEV_MODE, false, false, false, false, false⟩ : Acc) = acc
  have hrec : ∀ a < 0x600040, a ≠ Reg.DEV_IRQ_STATUS → a ∉ [Reg.ERR_STATUS acc.base, Reg.ERR_OFS acc.base] →
      ((u.imgEnd ImgSt.FAILED Err.LOCKED).recordErr acc Err.LOCKED).rd a = (u.imgEnd ImgSt.FAILED Err.LOCKED).rd a := fun a ha hirq herr =>
    (State.recordErr_keepsRep _ acc _).1 a herr (not_reporting_of_lt ha hirq)
  subst hacc
  refine ⟨(State.fld_of_rd _ (hrec _ (by decide) (by decide) (by decide))).trans (Eq.trans ?_ hmode),
    (State.fld_of_rd _ (hrec _ (by decide) (by decide) (by decide))).trans (u.state_imgEnd _ (by decide)),
    (State.fld_of_rd _ (hrec _ (by decide) (by decide) (by decide))).trans (u.code_imgEnd _ _)⟩
  exact State.fld_of_rd _ ((State.imgEnd_law (Law.refl (maskOf [1, 28]) 0x100004 u) _ _ (by decide) (by decide)).rd_off (by decide))

/-- A rejected image leaves the mode and the image held, and changes the status of the image, its detail and what the flash shows only. -/
theorem State.rejected_keeps (s : State) (src : ImgSource) (f : ImgFail) :
    KeepsIn [RegSet.one Reg.IMG_STATUS, RegSet.one Reg.IMG_DETAIL, RegSet.one Reg.IMG_DETAIL_OFS, RegSet.one Reg.DEV_FLASH_INFO] [.host, .freeCtr] s
      ((s.fetched src).loadFails (imgSourceCode src) f) :=
  .of_law (ks := [1, 28, 251, 252, 253]) (P := 0x140014)
    (((s.fetched_law src).mono (by decide) (by decide)).trans (((s.fetched src).loadFails_law_img _ f).mono (by decide) (by decide)))
    (by decide) (by decide)

theorem State.rejected_mode (s : State) (src : ImgSource) (f : ImgFail) : ((s.fetched src).loadFails (imgSourceCode src) f).mode = s.mode :=
  (State.loadFails_mode _ _ f).trans (s.fetched_mode src)

end Sys2Proof.Machine
end

section
/-! The loader's commands (O16): an image judged, a fetch that times out, and the copy into the shadow. -/

namespace Sys2Proof.Machine

/-! ## IMAGE_FETCH_COMPLETE (R80 to R82) -/

section
variable {s : State} {src : ImgSource} (img : List Byte) (cal : CalFlash)

/-- A rejected image falls back by its source. -/
theorem State.loaded_rejected {f : ImgFail} (h : s.judge src img = some f) :
    (s.loaded src img cal).fld F.IMG_STATUS.STATE = imgFailState src ∧ (s.loaded src img cal).mode = s.mode ∧
    (s.loaded src img cal).img = s.img := by
  rw [State.loaded_of_rejected s src img cal h]
  exact ⟨State.state_loadFails _ src f, s.rejected_mode src f, (s.rejected_keeps src f).2 .img (by decide)⟩

/-- An image whose records are all placed is held in STEEP, or in PROBE by the straps. -/
theorem State.loaded_placed (h : s.judge src img = none) (hopen : s.dev.bootSel ≠ 3 ∨ Config.dbgLock = false)
    (hplace : ((s.fetched src).applyImage img cal).2 = none) :
    (s.dev.bootSel ≠ 3 → (s.loaded src img cal).mode = Mode.STEEP ∧ (s.loaded src img cal).img.held = img ∧
      (s.loaded src img cal).fld F.IMG_STATUS.STATE = ImgSt.DONE ∧ (s.loaded src img cal).fld F.IMG_STATUS.CODE = 0) ∧
    (s.dev.bootSel = 3 → (s.loaded src img cal).mode = Mode.PROBE ∧ (s.loaded src img cal).img.held = img ∧
      (s.loaded src img cal).fld F.IMG_STATUS.STATE = ImgSt.DONE) := by
  obtain ⟨t, rfl, hload⟩ := State.loaded_of_placed s src img cal h hopen hplace
  constructor
  · intro hboot
    rw [hload, if_neg hboot]
    obtain ⟨hmode, himg, hstate, hcode⟩ := t.doneSteep_shows
    exact ⟨hmode, congrArg Img.held himg, hstate, hcode⟩
  · intro hboot
    rw [hload, if_pos hboot]
    obtain ⟨hmode, himg, hstate⟩ := t.doneProbe_shows
    exact ⟨hmode, congrArg Img.held himg, hstate⟩

/-- An image that passes every check up to 14, and of which a record is not placed, fails. -/
theorem State.loaded_unplaced (h : s.judge src img = none) (hboot : s.dev.bootSel ≠ 3) (hplace : ((s.fetched src).applyImage img cal).2 ≠ none) :
    (s.loaded src img cal).mode = s.mode ∧ (s.loaded src img cal).fld F.IMG_STATUS.STATE = imgFailState src := by
  obtain ⟨f, hload⟩ := State.loaded_of_unplaced s src img cal h (.inl hboot) hplace
  rw [hload]
  exact ⟨s.rejected_mode src f, State.state_loadFails _ src f⟩

theorem State.loaded_locked (h : s.judge src img = none) (hboot : s.dev.bootSel = 3) (hlock : Config.dbgLock = true) :
    (s.loaded src img cal).mode = s.mode ∧ (s.loaded src img cal).fld F.IMG_STATUS.STATE = ImgSt.FAILED ∧
    (s.loaded src img cal).fld F.IMG_STATUS.CODE = Err.LOCKED := by
  rw [State.loaded_of_locked s src img cal h hboot hlock]
  obtain ⟨hmode, hstate, hcode⟩ := (s.fetched src).lockedOut_shows
  exact ⟨hmode.trans (s.fetched_mode src), hstate, hcode⟩

end

/-! ## SHADOW_COPY (R82, step 6) -/

/-- The state with its held image copied. -/
def State.shadowCopied (s : State) : State := { s with img := { s.img with shadowed := true } }

theorem Keeps.shadowCopied (s : State) : Keeps [] [.img] s s.shadowCopied := by
  refine ⟨fun _ _ => rfl, fun p hp => ?_⟩
  cases p
  case img => exact absurd (List.mem_singleton_self _) hp
  all_goals rfl

theorem exec_shadowCopy_of_held {s : State} (hmode : Mode.STEEP ≤ s.mode) (hheld : s.img.held ≠ []) (hnew : s.img.shadowed = false) :
    exec (.shadowCopy) s = .next s.shadowCopied :=
  if_pos (by simp [hmode, hheld, hnew])

theorem exec_shadowCopy_of_none {s : State} (h : s.mode < Mode.STEEP ∨ s.img.held = [] ∨ s.img.shadowed = true) :
    exec (.shadowCopy) s = .next s := by
  refine if_neg ?_
  simp only [Bool.and_eq_true, decide_eq_true_eq, Bool.not_eq_true', List.isEmpty_eq_false_iff, not_and, Bool.not_eq_false]
  intro hb
  rcases h with h | h | h
  · exact absurd hb.1 (Nat.not_le.mpr h)
  · exact absurd h hb.2
  · exact h

/-- Settles O16, clause by clause. -/
theorem loaderJudgesAndPlacesImages : Obligations.LoaderJudgesAndPlacesImages := by
  unfold Obligations.LoaderJudgesAndPlacesImages
  refine ⟨fun s src img cal h htail => ⟨_, exec_imageFetchComplete_of_awaited img cal h htail, ?_, ?_, ?_, ?_, ?_, ?_, ?_, ?_⟩,
    fun s h => ?_, fun s h => ?_, fun s h => ?_, fun s hmode hheld hnew => ?_, fun s h => ⟨s, exec_shadowCopy_of_none h, rfl⟩⟩
  · rintro f hf rfl
    rw [State.loaded_of_rejected s .flashA img cal hf]
    obtain ⟨hstate, hback, hsource, -⟩ := (s.fetched .flashA).loadFails_flashA f
    exact ⟨hback, hsource, hstate, s.rejected_mode .flashA f⟩
  · rintro f hf rfl
    rw [State.loaded_of_rejected s .flashB img cal hf]
    obtain ⟨hstate, hcode, -⟩ := (s.fetched .flashB).loadFails_flashB f
    exact ⟨hstate, hcode, s.rejected_mode .flashB f⟩
  · rintro f hf rfl
    rw [State.loaded_of_rejected s .host img cal hf]
    obtain ⟨hstate, hcode, -, hcheck⟩ := (s.fetched .host).loadFails_host f
    exact ⟨hstate, hcode, hcheck, s.rejected_mode .host f⟩
  · exact fun hpass hboot hplace => (State.loaded_placed img cal hpass (.inl hboot) hplace).1 hboot
  · exact fun hpass hboot hplace => State.loaded_unplaced img cal hpass hboot hplace
  · exact fun hpass hboot hlock => State.loaded_locked img cal hpass hboot hlock
  · exact fun hpass hboot hfree hplace => (State.loaded_placed img cal hpass (.inr hfree) hplace).2 hboot
  · intro f hf
    rw [State.loaded_of_rejected s src img cal hf]
    exact s.rejected_keeps src f
  · obtain ⟨t, ht, hcount, hmode, hstatus, hdetail, hkeeps⟩ := State.loaderTimeout_shows h
    obtain ⟨hstate, hback, hsource, hcheck⟩ := s.loadFails_flashA .timeout
    exact ⟨t, ht, hcount, hmode, (State.fld_of_rd _ hstatus).trans hback, (State.fld_of_rd _ hstatus).trans hsource,
      (State.fld_of_rd _ hstatus).trans hstate, (State.fld_of_rd _ hdetail).trans hcheck, hkeeps⟩
  · obtain ⟨t, ht, hcount, hmode, hstatus, -, hkeeps⟩ := State.loaderTimeout_shows h
    obtain ⟨hstate, hcode, -⟩ := s.loadFails_flashB .timeout
    exact ⟨t, ht, hcount, hmode, (State.fld_of_rd _ hstatus).trans hstate, (State.fld_of_rd _ hstatus).trans hcode, hkeeps⟩
  · obtain ⟨t, ht, hcount, hmode, hstatus, hdetail, hkeeps⟩ := State.loaderTimeout_shows h
    obtain ⟨hstate, hcode, -, hcheck⟩ := s.loadFails_host .timeout
    exact ⟨t, ht, hcount, hmode, (State.fld_of_rd _ hstatus).trans hstate, (State.fld_of_rd _ hstatus).trans hcode,
      (State.fld_of_rd _ hdetail).trans hcheck, hkeeps⟩
  · exact ⟨_, exec_shadowCopy_of_held hmode hheld hnew, rfl, rfl, Keeps.shadowCopied s⟩

end Sys2Proof.Machine
end

section
/-! Received frames counted by the MAC (O58): what comes before the count and after it leaves the counters of the check. -/

namespace Sys2Proof.Machine

/-! ## The counters of received frames (Table 05.15) -/

/-- Counter `n` of received frames of each port lies beside the families `ks`. -/
abbrev BesideRx (ks : List Nat) (n : Nat) : Prop := Beside ks (0x2000200 + 0x8 * (n % 7)) 0x10000

theorem Law.rd_rxCnt {ks : List Nat} {P n : Nat} {s t : State} (h : Law (maskOf ks) P s t) (hks : BesideRx ks n) (p : Nat) :
    t.rd (Reg.PRT_RX_CNT p n) = s.rd (Reg.PRT_RX_CNT p n) := by
  rw [Reg.PRT_RX_CNT, Nat.add_right_comm]
  exact h.rd_beside hks

theorem Reg.PRT_RX_CNT_ne {m n : Nat} (p : Nat) (h : m % 7 ≠ n % 7) : Reg.PRT_RX_CNT p m ≠ Reg.PRT_RX_CNT p n := by
  unfold Reg.PRT_RX_CNT
  omega

/-- The counter of the check that a frame of a port fails. -/
def badCounter (bs : List Byte) : Nat := if bs.length < 64 then 3 else if 10240 < bs.length then 4 else 2

theorem State.macCount_of_bad (s : State) (p : Nat) {bs : List Byte} (h : frameGood bs = false) :
    s.macCount p bs = s.count (Reg.PRT_RX_CNT p (badCounter bs)) := by
  unfold State.macCount badCounter
  split
  · rfl
  · split
    · rfl
    · have hfcs : fcsGood bs = false := by
        simp only [frameGood, Bool.and_eq_false_iff, decide_eq_false_iff_not] at h
        rcases h with (h | h) | h
        · omega
        · omega
        · exact h
      rw [hfcs]
      rfl

theorem State.macCount_of_good (s : State) (p : Nat) {bs : List Byte} (h : frameGood bs = true) : s.macCount p bs = s.rxGood p bs.length := by
  simp only [frameGood, Bool.and_eq_true, decide_eq_true_eq] at h
  obtain ⟨⟨hmin, hmax⟩, hfcs⟩ := h
  unfold State.macCount
  rw [if_neg (by omega), if_neg (by omega), if_neg (by simp [hfcs])]

/-- An event counter beside a counter of received frames. -/
theorem State.rd_countEv_rx (s : State) (p m n ev inst k : Nat) (hm : BesideRx [4] m) :
    (s.countEv (Reg.PRT_RX_CNT p n) ev inst k).rd (Reg.PRT_RX_CNT p m) = (s.countN (Reg.PRT_RX_CNT p n) k).rd (Reg.PRT_RX_CNT p m) :=
  (State.pfEvent_law (W := maskOf [4]) (P := 0) (Law.refl _ _ _) ev inst k (by decide) (by decide)).rd_rxCnt hm p

/-- A good frame counts once, and its bytes. -/
theorem State.rxGood_shows (s : State) (p len : Nat) :
    (s.rxGood p len).rd (Reg.PRT_RX_CNT p 0) = s.rd (Reg.PRT_RX_CNT p 0) + 1 ∧
    (s.rxGood p len).rd (Reg.PRT_RX_CNT p 1) = s.rd (Reg.PRT_RX_CNT p 1) + BitVec.ofNat 64 len := by
  unfold State.rxGood
  constructor
  · rw [State.rd_countEv_rx _ _ _ _ _ _ _ (by decide), State.countN, State.rd_wr_ne _ _ (Reg.PRT_RX_CNT_ne p (by decide)),
      State.rd_countEv_rx _ _ _ _ _ _ _ (by decide), State.rd_countN_self]
    rfl
  · rw [State.rd_countEv_rx _ _ _ _ _ _ _ (by decide), State.rd_countN_self, State.rd_countEv_rx _ _ _ _ _ _ _ (by decide), State.countN,
      State.rd_wr_ne _ _ (Reg.PRT_RX_CNT_ne p (by decide))]

/-! ## Reception around the count -/

/-- The families that extents and lookups change before the MAC counts a frame. -/
def earlyFamilies : List Nat :=
  [1, 2, 3, 4, 6, 7, 8, 9, 10, 11, 12, 13, 14, 15, 16, 17, 18, 19, 20, 21, 53, 116, 117, 118, 119, 120, 121, 122]

/-- The families that a counted frame changes: where it goes, and the counters of what discards it. -/
def lateFamilies : List Nat :=
  [1, 2, 3, 4, 11, 22, 26, 37, 42, 44, 45, 47, 48, 53, 55, 56, 57, 59, 60, 61, 62, 64, 65, 66, 70, 103, 104, 116, 117, 119, 120, 124, 125, 133, 134,
    135, 139, 140, 141, 142, 155, 156, 159, 168, 169, 170, 171, 173, 175, 176, 177, 178, 179, 180, 181, 182, 183, 184, 185, 186, 192, 193, 194,
    195, 196, 197, 198, 314, 316]

/-- The counters of frames that pass or fail a check lie beside both. -/
theorem rxCnt_beside : ∀ n < 5, BesideRx earlyFamilies n ∧ BesideRx lateFamilies n := by decide +kernel

theorem badCounter_lt (bs : List Byte) : badCounter bs < 5 := by
  unfold badCounter
  split
  · decide
  · split <;> decide

/-- A frame is counted by the MAC in a state `u`: its extents are taken and its lookups made before, and it is dropped or goes on after. -/
theorem State.ingress_counts (s : State) (p : Nat) (bs : List Byte) (stamp : Time16) (slots : Nat) :
    ∃ u, Law (maskOf earlyFamilies) 0x14c98c s u ∧ Law (maskOf lateFamilies) 0x1fcf1c (u.macCount p bs) (s.ingress p bs stamp slots) ∧
      (frameGood bs = false → (s.ingress p bs stamp slots).uid = (u.macCount p bs).uid) := by
  have hlook : ∀ t i q, Law (maskOf earlyFamilies) 0x14c98c s t → Law (maskOf earlyFamilies) 0x14c98c s (t.lookups i p q) :=
    fun t i q ht => State.lookups_law ht i p q (by decide) (by decide)
  unfold State.ingress
  extract_lets i q d
  split
  next hmac =>
    have hgood : frameGood bs = true := (Bool.and_eq_true_iff.mp hmac).1
    refine ⟨s, Law.refl _ _ s, ?_, fun hbad => by rw [hgood] at hbad; exact absurd hbad (by decide)⟩
    rw [s.macCount_of_good p hgood]
    exact State.macControl_law (Law.refl _ _ _) p bs q.l3 (by decide) (by decide)
  next =>
    have htake : Law (maskOf earlyFamilies) 0x14c98c s (s.takeExtents i p bs.length).1 :=
      State.takeExtents_law (Law.refl _ _ s) _ _ _ (by decide) (by decide)
    generalize s.takeExtents i p bs.length = r at htake ⊢
    obtain ⟨t, _ | hs⟩ := r
    · exact ⟨_, .ite (fun _ => hlook t i q htake) fun _ => htake, Law.refl _ _ _, fun _ => rfl⟩
    · refine ⟨if s.forwards i = true then t.lookups i p q else t, .ite (fun _ => hlook t i q htake) fun _ => htake, ?_, fun hbad => ?_⟩
      · exact .ite (fun _ => State.ingressEnd_law (Law.refl _ _ _) _ _ _ _ _ _ _ (by decide) (by decide))
          fun _ => State.cutFrame_law (Law.refl _ _ _) _ _ (by decide) (by decide)
      · dsimp only
        rw [hbad, if_neg Bool.false_ne_true]
        exact (State.cutFrame_law (Law.refl (maskOf lateFamilies) 0x14811c _) i hs (by decide) (by decide)).part_off (p := .uid) (by decide)

theorem exec_ingressFrame_of_receives {s : State} {p : Nat} (bs : List Byte) (ts : LineStamp) (slots : Nat) (hp : p < 192) (h : s.receives p = true) :
    exec (.ingressFrame p bs ts slots) s = .next (s.ingress p bs (s.rxStamp p ts) slots) :=
  (if_neg (Nat.not_le.mpr hp)).trans (if_pos h)

/-- A frame that fails a check is counted by it, and takes no number. -/
theorem State.ingress_of_bad (s : State) (p : Nat) {bs : List Byte} (stamp : Time16) (slots : Nat) (h : frameGood bs = false) :
    (s.ingress p bs stamp slots).rd (Reg.PRT_RX_CNT p (badCounter bs)) = s.rd (Reg.PRT_RX_CNT p (badCounter bs)) + 1 ∧
    (s.ingress p bs stamp slots).uid = s.uid := by
  obtain ⟨u, hearly, hlate, huid⟩ := s.ingress_counts p bs stamp slots
  obtain ⟨hbefore, hafter⟩ := rxCnt_beside _ (badCounter_lt bs)
  have huid' := huid h
  rw [State.macCount_of_bad u p h] at hlate huid'
  constructor
  · rw [hlate.rd_rxCnt hafter p, State.rd_count_self, hearly.rd_rxCnt hbefore p]
  · exact huid'.trans (hearly.part_off (p := .uid) (by decide))

/-- A good frame is counted with its bytes. -/
theorem State.ingress_of_good (s : State) (p : Nat) {bs : List Byte} (stamp : Time16) (slots : Nat) (h : frameGood bs = true) :
    (s.ingress p bs stamp slots).rd (Reg.PRT_RX_CNT p 0) = s.rd (Reg.PRT_RX_CNT p 0) + 1 ∧
    (s.ingress p bs stamp slots).rd (Reg.PRT_RX_CNT p 1) = s.rd (Reg.PRT_RX_CNT p 1) + BitVec.ofNat 64 bs.length := by
  obtain ⟨u, hearly, hlate, -⟩ := s.ingress_counts p bs stamp slots
  rw [State.macCount_of_good u p h] at hlate
  obtain ⟨hframes, hbytes⟩ := u.rxGood_shows p bs.length
  constructor
  · obtain ⟨hbefore, hafter⟩ := rxCnt_beside 0 (by decide)
    rw [hlate.rd_rxCnt hafter p, hframes, hearly.rd_rxCnt hbefore p]
  · obtain ⟨hbefore, hafter⟩ := rxCnt_beside 1 (by decide)
    rw [hlate.rd_rxCnt hafter p, hbytes, hearly.rd_rxCnt hbefore p]

/-! ## The commands complete -/

/-- The source that IMG_STATUS shows after a failed attempt. -/
theorem State.source_loadFails {s : State} {src : ImgSource} (f : ImgFail) (h : s.fld F.IMG_STATUS.SOURCE = imgSourceCode src) :
    (s.loadFails (imgSourceCode src) f).fld F.IMG_STATUS.SOURCE = if src = .flashA then 1 else imgSourceCode src := by
  cases src with
  | flashA => exact (s.loadFails_flashA f).2.2.1
  | flashB => exact (s.loadFails_flashB f).2.2.trans h
  | host => exact (s.loadFails_host f).2.2.1.trans h

/-- A held image is in the shadow after SHADOW_COPY, whether or not it was there before. -/
theorem execShadowCopy_shadows {s : State} (hmode : Mode.STEEP ≤ s.mode) (hheld : s.img.held ≠ []) :
    NextWith (exec (.shadowCopy) s) fun t => t.img.shadowed = true ∧ t.img.held = s.img.held ∧ Keeps [] [.img] s t := by
  cases hnew : s.img.shadowed with
  | false => exact ⟨_, exec_shadowCopy_of_held hmode hheld hnew, rfl, rfl, Keeps.shadowCopied s⟩
  | true => exact ⟨s, exec_shadowCopy_of_none (.inr (.inr hnew)), hnew, rfl, fun _ _ => rfl, fun p _ => by cases p <;> rfl⟩

/-- Settles O58, clause by clause. -/
theorem loaderAndIngressCommandsComplete : Obligations.LoaderAndIngressCommandsComplete := by
  unfold Obligations.LoaderAndIngressCommandsComplete
  refine ⟨fun s src img cal f h htail hf => ?_, fun s src h => ?_, fun s hmode hheld => execShadowCopy_shadows hmode hheld,
    fun s p slots bs ts hp h hbad => ?_, fun s p slots bs ts hp h hgood => ?_⟩
  · obtain ⟨hstate, hmode, himg⟩ := State.loaded_rejected (src := src) img cal hf
    refine ⟨_, exec_imageFetchComplete_of_awaited img cal h htail, hstate, ?_, hmode, himg⟩
    rw [State.loaded_of_rejected s src img cal hf]
    exact State.source_loadFails f (s.fetched_source src)
  · obtain ⟨t, ht, hcount, hmode, hstatus, -⟩ := State.loaderTimeout_shows h
    exact ⟨t, ht, hcount, (State.fld_of_rd _ hstatus).trans (State.state_loadFails s src .timeout), hmode⟩
  · exact ⟨_, exec_ingressFrame_of_receives bs ts slots hp h, s.ingress_of_bad p _ slots hbad⟩
  · exact ⟨_, exec_ingressFrame_of_receives bs ts slots hp h, s.ingress_of_good p _ slots hgood⟩

end Sys2Proof.Machine
end

section
/-! An idle handshake on a port that trains (O20): the port is quiet while its timing engine does not work, and in electrical idle the engine
works, with a request that is due. -/

namespace Sys2Proof.Machine

/-- The state in which trunk `l` has entered electrical idle (R118). -/
def State.idleEntered (s : State) (l : Nat) : State :=
  ((((s.txFinish l).setTrState l Tr.IDLE).setTrunk l { s.trunk l with idleTx := false, idleRx := false, exiting := false }).eachLane l fun u k =>
    u.count (Reg.LN_CNT k 12)).setOper l Oper.IDLE

/-- A port that is not quiet once it is in electrical idle leaves it at once (R119). -/
theorem exec_idleHandshakeComplete_of_busy {s : State} {l : Nat} (hl : l < 192) (htrunk : s.trunkFirst l = true) (hup : s.trState l = Tr.UP)
    (htx : (s.trunk l).idleTx = true) (hrx : (s.trunk l).idleRx = true) (hleft : (s.trunk l).left = 0) (hbusy : (s.idleEntered l).quiet l = false) :
    exec (.idleHandshakeComplete l) s = .next ((s.idleEntered l).trunkWake l) := by
  change execIdleHandshakeComplete l s = _
  unfold execIdleHandshakeComplete
  rw [if_neg (by omega), if_pos (by simp [htrunk, hup, State.idling, htx, hrx, hleft])]
  exact congrArg _ (if_neg (Bool.eq_false_iff.mp hbusy))

/-- The device in GALE with lane 0 as a trunk in state UP, whose port shows TRAINING and is a SLAVE with a request due in this cycle; the idle
handshake is through on both sides. -/
def idlingWhileTraining : State :=
  { ((((((State.reset.setFld F.DEV_MODE.CUR Mode.GALE).setFld (F.LN_CFG.MODE 0) 5).setFld (F.LN_TRUNK_STATUS.STATE 0) Tr.UP).setFld
      (F.PRT_STATE.OPER 0) Oper.TRAINING).setFld (F.PRT_TT_CFG.ROLE 0) TtRole.SLAVE).setFld (F.PRT_TT_ID_0.CLKID_0 0) 1) with
    lines := { Lines.fresh with trunk := SMap.empty.put 0 { Trunk.fresh with idleTx := true, idleRx := true } } }

/-- Refutes O20, by its sixth clause: `idlingWhileTraining` enters electrical idle, where the request that is due begins the exit. -/
theorem not_laneSignalsAndElectricalIdleAct : ¬ Obligations.LaneSignalsAndElectricalIdleAct := by
  unfold Obligations.LaneSignalsAndElectricalIdleAct
  rintro ⟨-, -, -, -, -, hidle, -⟩
  obtain ⟨t, ht, -, -, -, hexit, -⟩ := hidle idlingWhileTraining 0 (by decide) (by decide) (by decide) (by decide) (by decide) (by decide)
    (by decide) (by decide) (by decide)
  rw [exec_idleHandshakeComplete_of_busy (by decide) (by decide) (by decide) (by decide) (by decide) (by decide) (by decide)] at ht
  obtain rfl := Host.Outcome.next.inj ht
  exact absurd hexit (by decide +kernel)

end Sys2Proof.Machine
end

section
/-! Trunks through a change of their port's operational state (O18): registers of the trunk stay, and of the trunk itself all but the frames
that wait for reorder. -/

namespace Sys2Proof.Machine

/-! ## Trunks and receivers -/

theorem State.trunk_of_lines {s t : State} (h : t.lines = s.lines) (p : Nat) : t.trunk p = s.trunk p := by
  unfold State.trunk
  rw [h]

@[simp] theorem State.trunk_setFld (s : State) (f : Fld) (v p : Nat) : (s.setFld f v).trunk p = s.trunk p := rfl
@[simp] theorem State.trunk_setTrState (s : State) (q st p : Nat) : (s.setTrState q st).trunk p = s.trunk p := rfl
@[simp] theorem State.trunk_setRx (s : State) (l : Nat) (r : TrRx) (p : Nat) : (s.setRx l r).trunk p = s.trunk p := rfl
@[simp] theorem State.trunk_setTrunk_self (s : State) (p : Nat) (t : Trunk) : (s.setTrunk p t).trunk p = t := SMap.getD_setD_self _ _ _ _

theorem State.trunk_setTrunk_ne (s : State) {p q : Nat} (t : Trunk) (h : q ≠ p) : (s.setTrunk p t).trunk q = s.trunk q :=
  SMap.getD_setD_ne _ _ _ _ h

@[simp] theorem State.rx_setFld (s : State) (f : Fld) (v l : Nat) : (s.setFld f v).rx l = s.rx l := rfl
@[simp] theorem State.rx_setRx_self (s : State) (l : Nat) (r : TrRx) : (s.setRx l r).rx l = r := SMap.getD_setD_self _ _ _ _
@[simp] theorem State.fld_setTrunk (s : State) (p : Nat) (t : Trunk) (f : Fld) : (s.setTrunk p t).fld f = s.fld f := rfl
@[simp] theorem State.fld_trSend (s : State) (p mt arg : Nat) (f : Fld) : (s.trSend p mt arg).fld f = s.fld f := rfl

/-- What a change of each lane of a port keeps, the change of the port keeps. -/
theorem State.eachLane_keeps {α : Type} (g : State → α) {f : State → Nat → State} (h : ∀ t l, g (f t l) = g t) (s : State) (p : Nat) :
    g (s.eachLane p f) = g s := by
  unfold State.eachLane
  induction s.portLanes p generalizing s with
  | nil => rfl
  | cons l ls ih => exact (ih _).trans (h s l)

/-! ## The operational state -/

/-- A trunk but for the frames that wait for reorder. -/
def Trunk.unqueued (t : Trunk) : Trunk := { t with waiting := [] }

theorem State.trunk_portLeft (s : State) (p q : Nat) : ((s.portLeft p).trunk q).unqueued = (s.trunk q).unqueued := by
  have hcut : (s.portCut p).lines = s.lines := (s.portCut_law p).part_off (p := .lines) (by decide)
  have hclear : (((s.portCut p).setTrunk p { (s.portCut p).trunk p with waiting := [] }).trunk q).unqueued = (s.trunk q).unqueued := by
    by_cases hq : q = p
    · subst hq
      rw [State.trunk_setTrunk_self, State.trunk_of_lines hcut]
      rfl
    · rw [State.trunk_setTrunk_ne _ _ hq, State.trunk_of_lines hcut]
  rw [State.portLeft_eq]
  dsimp only
  generalize (s.portCut p).setTrunk p _ = t at hclear ⊢
  split
  · have hlost : (t.sourceLost (s.portDomain p)).lines = t.lines :=
      (State.sourceLost_law (Law.refl (maskOf leaveFamilies) 0x14410d t) _ (by decide) (by decide)).part_off (p := .lines) (by decide)
    rw [State.trunk_of_lines hlost, hclear]
  · exact hclear

theorem State.trunk_setOper (s : State) (p st q : Nat) : ((s.setOper p st).trunk q).unqueued = (s.trunk q).unqueued := by
  by_cases h : s.oper p = s.operOf p st
  · rw [State.setOper_of_same h]
  · have hshown : (s.operShown p (s.operOf p st)).lines = s.lines := (s.lanesMarked_law p).part_off (p := .lines) (by decide)
    have hvane : ((s.linkLeft p (s.operOf p st)).vnPortChange p).lines = (s.linkLeft p (s.operOf p st)).lines :=
      (State.vnPortChange_law (Law.refl (maskOf leaveFamilies) 0x10040c _) p (by decide) (by decide)).part_off (p := .lines) (by decide)
    rw [State.setOper_of_new h, State.trunk_of_lines hvane]
    unfold State.linkLeft
    split
    · rw [State.trunk_portLeft, State.trunk_of_lines hshown]
    · rw [State.trunk_of_lines hshown]

section
variable (s : State) (p st q : Nat)

@[simp] theorem State.nonce_setOper : ((s.setOper p st).trunk q).nonce = (s.trunk q).nonce := (congrArg Trunk.nonce (s.trunk_setOper p st q) :)
@[simp] theorem State.left_setOper : ((s.setOper p st).trunk q).left = (s.trunk q).left := (congrArg Trunk.left (s.trunk_setOper p st q) :)
@[simp] theorem State.target_setOper : ((s.setOper p st).trunk q).target = (s.trunk q).target := (congrArg Trunk.target (s.trunk_setOper p st q) :)
@[simp] theorem State.tries_setOper : ((s.setOper p st).trunk q).tries = (s.trunk q).tries := (congrArg Trunk.tries (s.trunk_setOper p st q) :)

@[simp] theorem State.fld_setOper_trunk (f : Fld) (l : Nat) (hf : f.ofs = Reg.LN_TRUNK_STATUS l) : (s.setOper p st).fld f = s.fld f :=
  State.fld_of_rd f (hf ▸ s.rd_setOper_trunk p st l)

theorem State.isTrunk_setOper : (s.setOper p st).isTrunk q = s.isTrunk q := (s.setOper_law_oper p st).isTrunk (by decide) q

end

end Sys2Proof.Machine
end

section
/-! Negotiation of trunks (O18): what a trunk shows once it is UP, and once it has entered NEGO (Table 04.9). -/

namespace Sys2Proof.Machine

/-! ## The status word of a trunk -/

/-- A field of the status word of trunk `p` above its state. -/
def Fld.AboveState (f : Fld) (p : Nat) : Prop := f.ofs = Reg.LN_TRUNK_STATUS p ∧ 3 < f.lo ∧ f.lo ≤ f.hi

theorem aboveState_step (p : Nat) : (F.LN_TRUNK_STATUS.STEP p).AboveState p := ⟨rfl, (by decide : 3 < 4), (by decide : 4 ≤ 6)⟩
theorem aboveState_leader (p : Nat) : (F.LN_TRUNK_STATUS.LEADER p).AboveState p := ⟨rfl, (by decide : 3 < 7), (by decide : 7 ≤ 7)⟩
theorem aboveState_ceil (p : Nat) : (F.LN_TRUNK_STATUS.CEIL p).AboveState p := ⟨rfl, (by decide : 3 < 8), (by decide : 8 ≤ 10)⟩
theorem aboveState_peerIdle (p : Nat) : (F.LN_TRUNK_STATUS.PEER_IDLE p).AboveState p := ⟨rfl, (by decide : 3 < 15), (by decide : 15 ≤ 15)⟩
theorem aboveState_peerMax (p : Nat) : (F.LN_TRUNK_STATUS.PEER_MAX p).AboveState p := ⟨rfl, (by decide : 3 < 16), (by decide : 16 ≤ 18)⟩
theorem aboveState_nak (p : Nat) : (F.LN_TRUNK_STATUS.NAK p).AboveState p := ⟨rfl, (by decide : 3 < 24), (by decide : 24 ≤ 31)⟩

theorem State.trState_setTrState (s : State) (p : Nat) {st : Nat} (h : st < 16) : (s.setTrState p st).trState p = st :=
  (State.fld_setFld_self s (F.LN_TRUNK_STATUS.STATE p) st (by decide : 3 < 64) (by decide : 0 ≤ 3)).trans (Nat.mod_eq_of_lt h)

theorem State.fld_setTrState (s : State) {p : Nat} (st : Nat) {f : Fld} (h : f.AboveState p) : (s.setTrState p st).fld f = s.fld f :=
  State.fld_setFld_bits s (F.LN_TRUNK_STATUS.STATE p) f st (by decide : 3 < 64) (by decide : 0 ≤ 3) h.2.2 h.1 (.inr h.2.1)

@[simp] theorem State.trState_setOper (s : State) (p st q : Nat) : (s.setOper p st).trState q = s.trState q :=
  s.fld_setOper_trunk p st (F.LN_TRUNK_STATUS.STATE q) q rfl

@[simp] theorem State.trunk_trSend_self (s : State) (p mt arg : Nat) : (s.trSend p mt arg).trunk p = { s.trunk p with msg := (mt, arg), left := 3 } :=
  State.trunk_setTrunk_self _ _ _

/-- A trunk that is UP, or in electrical idle, with no message to end sends DATA. -/
theorem State.markerMsg_of_up {s : State} {p : Nat} (hleft : (s.trunk p).left = 0) (hup : s.trState p = Tr.UP) : s.markerMsg p = (0, 0) := by
  simp [State.markerMsg, hleft, hup, Tr.UP, Tr.CAP, Tr.MISMATCH, Tr.SWITCH, Mt.DATA]

/-! ## UP -/

/-- The lanes of a port that goes UP: their first attempt is done, and their unit streams start again. -/
def State.lanesUp (s : State) (p : Nat) : State :=
  s.eachLane p fun u l => (u.setFld (F.LN_STATUS.FIRST_DONE l) 1).setRx l { u.rx l with pos := none, buf := [], drop := 0 }

/-- Trunk `p` is UP: no message, idle handshake or waiting frame is left. -/
def State.trunkUp (s : State) (p : Nat) : State :=
  (s.setTrState p Tr.UP).setTrunk p
    { s.trunk p with left := 0, idleTx := false, idleRx := false, exiting := false, waiting := [], useqRx := 0 }

theorem State.goUp_of_trunk {s : State} {p : Nat} (h : s.isTrunk p = true) : s.goUp p = ((s.lanesUp p).trunkUp p).setOper p Oper.UP :=
  congrArg (State.setOper · p Oper.UP) (if_pos h)

theorem State.lanesUp_law (s : State) (p : Nat) : Law (maskOf [203]) 0x10000 s (s.lanesUp p) :=
  State.eachLane_law (Law.refl _ _ s) p _ (fun _ l h => State.setRx_law (State.setFld_law h _ _ (InMask.mk (m := maskOf [203]) 203 (by decide) (by decide)
    rfl (Reg.LN_STATUS_has l))) _ _ (by decide) (by decide)) (by decide) (by decide)

theorem State.trunk_lanesUp (s : State) (p q : Nat) : (s.lanesUp p).trunk q = s.trunk q :=
  State.eachLane_keeps (State.trunk · q) (fun t l => (State.trunk_setRx _ l _ q).trans (t.trunk_setFld _ 1 q)) s p

theorem State.fld_lanesUp (s : State) (p : Nat) {q : Nat} {f : Fld} (hf : f.ofs = Reg.LN_TRUNK_STATUS q) : (s.lanesUp p).fld f = s.fld f :=
  State.fld_of_rd f (hf ▸ (s.lanesUp_law p).rd_trunkStatus (by decide) q)

/-- What a trunk that goes UP shows and keeps. -/
theorem State.goUp_shows {s : State} {p : Nat} (h : s.isTrunk p = true) :
    (s.goUp p).trState p = Tr.UP ∧ (s.goUp p).markerMsg p = (0, 0) ∧ ((s.goUp p).trunk p).target = (s.trunk p).target ∧
      ((s.goUp p).trunk p).tries = (s.trunk p).tries ∧ ∀ f, Fld.AboveState f p → (s.goUp p).fld f = s.fld f := by
  have hup : (s.goUp p).trState p = Tr.UP := by
    rw [State.goUp_of_trunk h, State.trState_setOper]
    exact State.trState_setTrState _ p (by decide)
  refine ⟨hup, State.markerMsg_of_up ?_ hup, ?_, ?_, fun f hf => ?_⟩
  · simp [State.goUp_of_trunk h, State.trunkUp]
  · simp [State.goUp_of_trunk h, State.trunkUp, State.trunk_lanesUp]
  · simp [State.goUp_of_trunk h, State.trunkUp, State.trunk_lanesUp]
  · rw [State.goUp_of_trunk h, State.fld_setOper_trunk _ _ _ f p hf.1]
    exact (State.fld_setTrState (s.lanesUp p) Tr.UP hf).trans (s.fld_lanesUp p hf.1)

theorem State.oper_goUp {s : State} {p : Nat} (h : s.isTrunk p = true) (hl : s.looped p = false) : (s.goUp p).oper p = Oper.UP := by
  have hlaw : Law (maskOf [95, 203]) 0x10000 s ((s.lanesUp p).trunkUp p) :=
    State.setTrunk_law (State.setTrState_law ((s.lanesUp_law p).mono (by decide) (by decide)) p _ (by decide) (by decide)) p _ (by decide) (by decide)
  rw [State.goUp_of_trunk h, State.oper_setOper _ _ (by decide),
    State.operOf_of_not_looped _ ((hlaw.looped (by decide) (by decide) p).trans hl)]

/-! ## NEGO -/

/-- Trunk `p` has begun to negotiate, and its port trains. -/
def State.negoBegun (s : State) (p : Nat) : State := (s.setTrState p Tr.NEGO).setOper p Oper.TRAINING

theorem State.trState_negoBegun (s : State) (p : Nat) : (s.negoBegun p).trState p = Tr.NEGO :=
  (State.trState_setOper _ p _ p).trans (State.trState_setTrState s p (by decide))

theorem State.fld_negoBegun (s : State) {p : Nat} {f : Fld} (h : f.AboveState p) : (s.negoBegun p).fld f = s.fld f :=
  (State.fld_setOper_trunk _ p _ f p h.1).trans (s.fld_setTrState _ h)

theorem State.trunkStep_negoBegun (s : State) (p : Nat) : (s.negoBegun p).trunkStep p = s.trunkStep p := s.fld_negoBegun (aboveState_step p)

theorem State.trCeil_negoBegun (s : State) (p : Nat) : (s.negoBegun p).trCeil p = s.trCeil p := s.fld_negoBegun (aboveState_ceil p)

theorem State.leads_negoBegun (s : State) (p : Nat) : (s.negoBegun p).leads p = s.leads p := by
  unfold State.leads
  rw [s.fld_negoBegun (aboveState_leader p)]

theorem State.isTrunk_negoBegun (s : State) (p : Nat) : (s.negoBegun p).isTrunk p = s.isTrunk p :=
  (State.isTrunk_setOper _ p _ p).trans
    ((State.setTrState_law (Law.refl (maskOf [95]) 0 s) p _ (by decide) (by decide)).isTrunk (by decide) p)

theorem State.negoEnter_eq (s : State) (p : Nat) :
    s.negoEnter p =
      if !s.leads p then (s.negoBegun p).trSend p Mt.TRAIN (s.trunkStep p)
      else if s.trunkStep p < s.trCeil p then (s.negoBegun p).trSend p Mt.PROP (s.trunkStep p + 1 + (s.trunk p).nonce * 2 ^ 8)
      else (s.negoBegun p).goUp p := by
  have hnonce : ((s.negoBegun p).trunk p).nonce = (s.trunk p).nonce := State.nonce_setOper _ p _ p
  rw [← s.leads_negoBegun, ← s.trunkStep_negoBegun, ← s.trCeil_negoBegun, ← hnonce]
  rfl

theorem State.negoEnter_of_follower {s : State} {p : Nat} (h : s.leads p = false) :
    s.negoEnter p = (s.negoBegun p).trSend p Mt.TRAIN (s.trunkStep p) := by
  rw [s.negoEnter_eq, if_pos (by simp [h])]

theorem State.negoEnter_of_below {s : State} {p : Nat} (h : s.leads p = true) (hlt : s.trunkStep p < s.trCeil p) :
    s.negoEnter p = (s.negoBegun p).trSend p Mt.PROP (s.trunkStep p + 1 + (s.trunk p).nonce * 2 ^ 8) := by
  rw [s.negoEnter_eq, if_neg (by simp [h]), if_pos hlt]

theorem State.negoEnter_of_ceil {s : State} {p : Nat} (h : s.leads p = true) (hge : s.trCeil p ≤ s.trunkStep p) :
    s.negoEnter p = (s.negoBegun p).goUp p := by
  rw [s.negoEnter_eq, if_neg (by simp [h]), if_neg (by omega)]

/-- What a trunk that enters NEGO shows and keeps: a leader at its ceiling is UP at once. -/
theorem State.negoEnter_shows {s : State} {p : Nat} (h : s.isTrunk p = true) :
    ((s.negoEnter p).trState p = if s.leads p = true ∧ s.trCeil p ≤ s.trunkStep p then Tr.UP else Tr.NEGO) ∧
      ((s.negoEnter p).trunk p).target = (s.trunk p).target ∧ ((s.negoEnter p).trunk p).tries = (s.trunk p).tries ∧
      ∀ f, Fld.AboveState f p → (s.negoEnter p).fld f = s.fld f := by
  have hsent : ∀ mt arg, ((s.negoBegun p).trSend p mt arg).trState p = Tr.NEGO ∧
      (((s.negoBegun p).trSend p mt arg).trunk p).target = (s.trunk p).target ∧
      (((s.negoBegun p).trSend p mt arg).trunk p).tries = (s.trunk p).tries ∧
      ∀ f, Fld.AboveState f p → ((s.negoBegun p).trSend p mt arg).fld f = s.fld f := fun mt arg =>
    ⟨s.trState_negoBegun p, by simp [State.negoBegun], by simp [State.negoBegun], fun f hf => s.fld_negoBegun hf⟩
  cases hlead : s.leads p with
  | false =>
    rw [State.negoEnter_of_follower hlead, if_neg (by simp)]
    exact hsent _ _
  | true =>
    by_cases hge : s.trCeil p ≤ s.trunkStep p
    · obtain ⟨hup, -, htarget, htries, hkept⟩ := State.goUp_shows ((s.isTrunk_negoBegun p).trans h)
      rw [State.negoEnter_of_ceil hlead hge, if_pos ⟨rfl, hge⟩]
      exact ⟨hup, htarget.trans (by simp [State.negoBegun]), htries.trans (by simp [State.negoBegun]),
        fun f hf => (hkept f hf).trans (s.fld_negoBegun hf)⟩
    · rw [State.negoEnter_of_below hlead (by omega), if_neg (fun hand => hge hand.2)]
      exact hsent _ _

/-- A leader at its ceiling that enters NEGO sends DATA. -/
theorem State.markerMsg_negoEnter {s : State} {p : Nat} (h : s.isTrunk p = true) (hlead : s.leads p = true) (hge : s.trCeil p ≤ s.trunkStep p) :
    (s.negoEnter p).markerMsg p = (0, 0) := by
  rw [State.negoEnter_of_ceil hlead hge]
  exact (State.goUp_shows ((s.isTrunk_negoBegun p).trans h)).2.1

end Sys2Proof.Machine
end

section
/-! The capabilities of a trunk's peer (O18): CAP_RECEIVED and CAP_TIMEOUT. -/

namespace Sys2Proof.Machine

/-! ## Frames -/

/-- The families that a trunk which negotiates changes. -/
def negoFamilies : List Nat := [95, 203] ++ operFamilies

/-- The registers that a trunk which negotiates may change. -/
abbrev negoScope : List RegSet := Scope.link ++ Scope.lanes ++ [RegSet.each (Reg.KT_FREQ 0) 0x100 8]

/-- What a command on a trunk which negotiates may change. -/
theorem OutLaw.nego_keepsIn {o : Host.Outcome State Fault Refusal} {s t : State} (h : OutLaw (maskOf negoFamilies) 0x17d59d s o) (ho : o = .next t) :
    KeepsIn negoScope linkParts s t := by
  subst ho
  have hlaw : Law (maskOf negoFamilies) 0x17d59d s t := h
  exact .of_law hlaw (by decide) (by decide)

/-- A change of the line state alone. -/
theorem Keeps.lines (s : State) (own : List Nat) (ps : List Part) (ls : Lines) : Keeps own (.lines :: ps) s { s with lines := ls } := by
  refine ⟨fun _ _ => rfl, fun p hp => ?_⟩
  cases p
  case lines => exact absurd (List.mem_cons_self ..) hp
  all_goals rfl

/-! ## The peer's capabilities -/

section
variable (s : State) (p arg : Nat)

/-- The highest step that both sides of trunk `p` allow. -/
def State.capTop : Nat := min (s.fld (F.LN_CFG.TRUNK_MAX p)) (arg % 8)

/-- Whether this side of trunk `p` leads a peer that sends `arg`: its nonce is the greater. -/
def State.capLeads : Bool := decide (arg / 2 ^ 8 % 65536 < (s.trunk p).nonce)

/-- Trunk `p` has noted its peer's capabilities. -/
def State.capAgreed : State :=
  (((((s.setFld (F.LN_TRUNK_STATUS.PEER_MAX p) (arg % 8)).setFld (F.LN_TRUNK_STATUS.PEER_IDLE p) (arg / 2 ^ 3)).setFld (F.LN_TRUNK_STATUS.CEIL p)
    (s.capTop p arg)).setFld (F.LN_TRUNK_STATUS.LEADER p) (b2n (s.capLeads p arg))).setTrunk p
      { s.trunk p with target := s.capTop p arg, tries := 0 })

theorem State.trCeil_capAgreed : (s.capAgreed p arg).trCeil p = s.capTop p arg := by
  have htop : s.capTop p arg < 8 := lt_of_le_of_lt (Nat.min_le_right _ _) (Nat.mod_lt _ (by decide))
  simp [State.trCeil, State.capAgreed, State.fld_setFld_bits, State.fld_setFld_self, F.LN_TRUNK_STATUS.CEIL, F.LN_TRUNK_STATUS.LEADER]
  omega

theorem State.leads_capAgreed : (s.capAgreed p arg).leads p = s.capLeads p arg := by
  cases h : s.capLeads p arg <;>
    simp [State.leads, State.capAgreed, State.fld_setFld_self, F.LN_TRUNK_STATUS.LEADER, h, b2n]

theorem State.trunkStep_capAgreed : (s.capAgreed p arg).trunkStep p = s.trunkStep p := by
  simp [State.trunkStep, State.capAgreed, State.fld_setFld_bits, F.LN_TRUNK_STATUS.CEIL, F.LN_TRUNK_STATUS.LEADER, F.LN_TRUNK_STATUS.STEP,
    F.LN_TRUNK_STATUS.PEER_MAX, F.LN_TRUNK_STATUS.PEER_IDLE]

theorem State.peer_capAgreed : (s.capAgreed p arg).fld (F.LN_TRUNK_STATUS.PEER_MAX p) = arg % 8 ∧
    (s.capAgreed p arg).fld (F.LN_TRUNK_STATUS.PEER_IDLE p) = arg / 2 ^ 3 % 2 := by
  simp [State.capAgreed, State.fld_setFld_bits, State.fld_setFld_self, F.LN_TRUNK_STATUS.CEIL, F.LN_TRUNK_STATUS.LEADER,
    F.LN_TRUNK_STATUS.PEER_MAX, F.LN_TRUNK_STATUS.PEER_IDLE]

end

/-- A NAK that leaves once a trunk has entered MISMATCH. -/
theorem State.mismatched_shows (s : State) (p arg : Nat) :
    (((s.setTrState p Tr.MISMATCH).setOper p Oper.TRAINING).trSend p Mt.NAK arg).trState p = Tr.MISMATCH ∧
      ((((s.setTrState p Tr.MISMATCH).setOper p Oper.TRAINING).trSend p Mt.NAK arg).trunk p).msg = (Mt.NAK, arg) :=
  ⟨(State.trState_setOper _ p _ p).trans (State.trState_setTrState s p (by decide)), by rw [State.trunk_trSend_self]⟩

section
variable {s : State} {p arg : Nat} {rxa : Bool}

theorem State.capMsg_of_agreed (hx4 : bitAt arg 4 = (s.laneMode p == 6)) (hver : arg / 2 ^ 5 % 8 = 1)
    (hnonce : arg / 2 ^ 8 % 65536 ≠ (s.trunk p).nonce) (hcap : s.trState p = Tr.CAP) (hrxa : s.allRxa p = true) (hlock : s.allLocked p = true) :
    s.capMsg p arg true = (s.capAgreed p arg).negoEnter p := by
  unfold State.capMsg
  dsimp only
  rw [if_neg (not_or.mpr ⟨not_not.mpr hx4, not_not.mpr hver⟩), if_neg (by simp [hcap, Tr.CAP, Tr.MISMATCH]), if_neg hnonce, if_pos (by simp [hrxa, hlock])]
  rfl

theorem State.capMsg_of_apart (hx4 : bitAt arg 4 ≠ (s.laneMode p == 6)) (hcap : s.trState p = Tr.CAP) :
    s.capMsg p arg rxa = ((s.setTrState p Tr.MISMATCH).setOper p Oper.TRAINING).trSend p Mt.NAK 1 := by
  unfold State.capMsg
  dsimp only
  rw [if_pos (.inl hx4), if_pos hcap, if_pos hx4]

theorem State.capMsg_of_tie (hx4 : bitAt arg 4 = (s.laneMode p == 6)) (hver : arg / 2 ^ 5 % 8 = 1)
    (hnonce : arg / 2 ^ 8 % 65536 = (s.trunk p).nonce) (hcap : s.trState p = Tr.CAP) : s.capMsg p arg rxa = s.capSend p := by
  unfold State.capMsg
  dsimp only
  rw [if_neg (not_or.mpr ⟨not_not.mpr hx4, not_not.mpr hver⟩), if_neg (by simp [hcap, Tr.CAP, Tr.MISMATCH]), if_pos hnonce]

end

theorem State.msg_capSend (s : State) (p : Nat) : ((s.capSend p).trunk p).msg.1 = Mt.CAP := by
  unfold State.capSend
  rw [State.trunk_trSend_self]

theorem State.freeCtr_capSend (s : State) (p : Nat) : (s.capSend p).freeCtr = s.freeCtr + 1 := rfl

theorem Keeps.capSend (s : State) (p : Nat) : Keeps [] [.lines, .freeCtr, .out] s (s.capSend p) := by
  have hlaw : Law (maskOf []) 0x50000 s (s.capSend p) := State.capSend_law (Law.refl _ _ s) p (by decide) (by decide)
  refine ⟨fun a _ => hlaw.rd_all a, fun q hq => hlaw.parts q fun hin => ?_⟩
  revert hin hq
  unfold PartIn
  cases q <;> decide

/-! ## The commands -/

section
variable {s : State} {l : Nat} (hl : l < 192) (hfirst : s.trunkFirst l = true) (hcap : s.trState l = Tr.CAP)
include hl hfirst hcap

theorem exec_capReceived_of_cap {arg : BitVec 24} (rxa : Bool) (hheard : s.heard l Mt.CAP arg.toNat = true) :
    exec (.capReceived l arg rxa) s = .next (s.capMsg l arg.toNat rxa) := by
  change execCapReceived l arg rxa s = _
  unfold execCapReceived
  rw [if_neg (by omega), if_pos (by simp [hfirst, hheard, hcap])]

theorem exec_capTimeout_of_cap : exec (.capTimeout l) s = .next (s.setOper l Oper.DOWN) := by
  change execCapTimeout l s = _
  unfold execCapTimeout
  rw [if_neg (by omega), if_pos (by simp [hfirst, hcap])]

end

theorem State.isTrunk_of_first {s : State} {l : Nat} (h : s.trunkFirst l = true) : s.isTrunk l = true := (Bool.and_eq_true_iff.mp h).2

end Sys2Proof.Machine
end

section
/-! Steps of a trunk (O18): what PROP, ACK, NAK and TRAIN messages, DATA markers, the timers and the switch do (Table 04.9). -/

namespace Sys2Proof.Machine

/-! ## Registers beside the status word -/

theorem Law.rd_lnCnt {ks : List Nat} {P n : Nat} {s t : State} (h : Law (maskOf ks) P s t) (hn : n < 16) (hks : Beside ks (0x3000100 + 8 * n) 0x4000)
    (l : Nat) : t.rd (Reg.LN_CNT l n) = s.rd (Reg.LN_CNT l n) := by
  have ha : Reg.LN_CNT l n = 0x3000100 + 8 * n + 0x4000 * (l % 256) := by
    unfold Reg.LN_CNT
    omega
  rw [ha]
  exact h.rd_beside hks

theorem Law.rd_lnFlags {ks : List Nat} {P : Nat} {s t : State} (h : Law (maskOf ks) P s t) (hks : Beside ks 0x300000c 0x4000) (l : Nat) :
    t.rd (Reg.LN_FLAGS l) = s.rd (Reg.LN_FLAGS l) := h.rd_beside hks

theorem Reg.lnCnt_ne_lnFlags (l n k : Nat) : Reg.LN_CNT l n ≠ Reg.LN_FLAGS k := by
  unfold Reg.LN_CNT Reg.LN_FLAGS
  omega

theorem State.fld_flag_self (s : State) (f : Fld) (h : f.hi < 64) (hl : f.lo ≤ f.hi) : (s.flag f).fld f = 1 :=
  (State.fld_setFld_self s f 1 h hl).trans (Nat.mod_eq_of_lt (Nat.one_lt_two_pow (by omega)))

theorem State.rd_flag_ne (s : State) (f : Fld) {a : Nat} (h : a ≠ f.ofs) : (s.flag f).rd a = s.rd a := s.rd_setFld_ne f 1 h

theorem State.trunkStep_lt (s : State) (p : Nat) : s.trunkStep p < 8 := bitsOf_lt (s.rd (Reg.LN_TRUNK_STATUS p)) 6 4

theorem State.isTrunk_setFld (s : State) {p q : Nat} {f : Fld} (v : Nat) (hf : f.ofs = Reg.LN_TRUNK_STATUS q) : (s.setFld f v).isTrunk p = s.isTrunk p :=
  (State.setFld_law (Law.refl (maskOf [95]) 0 s) f v (hf ▸ InMask.mk (m := maskOf [95]) 95 (by decide) (by decide) rfl
    (Reg.LN_TRUNK_STATUS_has q))).isTrunk (by decide) p

/-! ## A leader gives up the next step -/

section
variable {s : State} {p : Nat}

/-- A leader that gives up the next step is UP. -/
theorem State.ceilHere_shows (h : s.isTrunk p = true) (hlead : s.leads p = true) :
    (s.ceilHere p).trState p = Tr.UP ∧ (s.ceilHere p).markerMsg p = (0, 0) ∧ (s.ceilHere p).trCeil p = s.trunkStep p ∧
      ((s.ceilHere p).trunk p).tries = (s.trunk p).tries ∧
      (s.ceilHere p).fld (F.LN_TRUNK_STATUS.NAK p) = s.fld (F.LN_TRUNK_STATUS.NAK p) := by
  unfold State.ceilHere
  generalize hu : s.setFld (F.LN_TRUNK_STATUS.CEIL p) (s.trunkStep p) = u
  have htrunk : u.isTrunk p = true := hu ▸ (s.isTrunk_setFld _ rfl).trans h
  have hceil : u.trCeil p = s.trunkStep p := by
    rw [← hu]
    exact (State.fld_setFld_self s (F.LN_TRUNK_STATUS.CEIL p) _ (by decide : 10 < 64) (by decide : 8 ≤ 10)).trans
      (Nat.mod_eq_of_lt (s.trunkStep_lt p))
  have hkept : ∀ f : Fld, f.ofs = Reg.LN_TRUNK_STATUS p → f.lo ≤ f.hi → (f.hi < 8 ∨ 10 < f.lo) → u.fld f = s.fld f := fun f ho hf hd =>
    hu ▸ State.fld_setFld_bits s (F.LN_TRUNK_STATUS.CEIL p) f _ (by decide : 10 < 64) (by decide : 8 ≤ 10) hf ho hd
  have hstep : u.trunkStep p = s.trunkStep p := hkept (F.LN_TRUNK_STATUS.STEP p) rfl (by decide : 4 ≤ 6) (.inl (by decide : 6 < 8))
  have hleads : u.leads p = true := by
    rw [← hlead]
    exact congrArg (· == 1) (hkept (F.LN_TRUNK_STATUS.LEADER p) rfl (by decide : 7 ≤ 7) (.inl (by decide : 7 < 8)))
  have htop : u.trCeil p ≤ u.trunkStep p := by omega
  obtain ⟨hstate, -, htries, habove⟩ := State.negoEnter_shows htrunk
  refine ⟨hstate.trans (if_pos ⟨hleads, htop⟩), State.markerMsg_negoEnter htrunk hleads htop,
    (habove _ (aboveState_ceil p)).trans hceil, htries.trans (hu ▸ rfl), (habove _ (aboveState_nak p)).trans ?_⟩
  exact hkept (F.LN_TRUNK_STATUS.NAK p) rfl (by decide : 24 ≤ 31) (.inr (by decide : 10 < 24))

end

/-! ## The current step -/

/-- A trunk whose step changes shows it, and shows all else as before. -/
theorem State.setStep_shows (s : State) (p : Nat) {k : Nat} (hk : k < 8) :
    (s.setStep p k).trunkStep p = k ∧ (s.setStep p k).leads p = s.leads p ∧ (s.setStep p k).trCeil p = s.trCeil p ∧
      (s.setStep p k).isTrunk p = s.isTrunk p := by
  unfold State.setStep
  split
  · exact ⟨‹_›, rfl, rfl, rfl⟩
  · generalize hu : s.setFld (F.LN_TRUNK_STATUS.STEP p) k = u
    have hlaw : Law (maskOf [55]) 0x21000 u ((u.ttStepChange p).eachLane p State.fmChanged) :=
      State.eachLane_law (State.ttStepChange_law (Law.refl _ _ u) p (by decide) (by decide)) p _ (fun _ l h => State.fmChanged_law h l (by decide)
        (by decide)) (by decide) (by decide)
    have hrd := hlaw.rd_trunkStatus (by decide) p
    have hkept : ∀ f : Fld, f.ofs = Reg.LN_TRUNK_STATUS p → f.lo ≤ f.hi → 6 < f.lo →
        ((u.ttStepChange p).eachLane p State.fmChanged).fld f = s.fld f := fun f ho hf hd => by
      rw [State.fld_of_rd f (ho ▸ hrd), ← hu]
      exact State.fld_setFld_bits s (F.LN_TRUNK_STATUS.STEP p) f _ (by decide : 6 < 64) (by decide : 4 ≤ 6) hf ho (.inr hd)
    refine ⟨(State.fld_of_rd (F.LN_TRUNK_STATUS.STEP p) hrd).trans ?_,
      congrArg (· == 1) (hkept (F.LN_TRUNK_STATUS.LEADER p) rfl (by decide : 7 ≤ 7) (by decide : 6 < 7)),
      hkept (F.LN_TRUNK_STATUS.CEIL p) rfl (by decide : 8 ≤ 10) (by decide : 6 < 8), (hlaw.isTrunk (by decide) p).trans (hu ▸ s.isTrunk_setFld k rfl)⟩
    rw [← hu]
    exact (State.fld_setFld_self s (F.LN_TRUNK_STATUS.STEP p) k (by decide : 6 < 64) (by decide : 4 ≤ 6)).trans (Nat.mod_eq_of_lt hk)

/-! ## A step that fails -/

/-- Trunk `p`, whose failed step has been counted, trains at the step below that of `t`. -/
def State.fallBack (s : State) (p : Nat) (t : Trunk) : State :=
  (((((s.setFld (F.LN_TRUNK_STATUS.CEIL p) (t.train - 1)).setFld (F.LN_TRUNK_STATUS.FAIL_STEP p) t.train).setTrunk p
    { t with train := t.train - 1 }).rxRestart p).setTrState p Tr.FALLBACK).trSend p Mt.TRAIN (t.train - 1)

theorem State.trainFail_eq (s : State) (p : Nat) : s.trainFail p = (s.stepFail p).fallBack p (s.trunk p) := rfl

theorem State.stepFail_shows (s : State) (p : Nat) :
    (s.stepFail p).rd (Reg.LN_CNT p 11) = s.rd (Reg.LN_CNT p 11) + 1 ∧ (s.stepFail p).fld (F.LN_FLAGS.STEP_FAIL p) = 1 := by
  unfold State.stepFail
  exact ⟨(State.rd_flag_ne _ (F.LN_FLAGS.STEP_FAIL p) (Reg.lnCnt_ne_lnFlags p 11 p)).trans (s.rd_count_self _),
    State.fld_flag_self _ _ (by decide : 9 < 64) (by decide : 9 ≤ 9)⟩

theorem State.trunk_rxRestart (s : State) (p q : Nat) : (s.rxRestart p).trunk q = s.trunk q :=
  State.eachLane_keeps (f := fun u l => (u.setRx l TrRx.fresh).setFld (F.LN_STATUS.LOCK l) 0) (State.trunk · q)
    (fun t l => (State.trunk_setFld _ _ 0 q).trans (t.trunk_setRx l _ q)) s p

theorem State.fallBack_law (s : State) (p : Nat) (t : Trunk) : Law (maskOf [95, 203]) 0x10000 s (s.fallBack p t) := by
  have hstatus : InMask (maskOf [95, 203]) (Reg.LN_TRUNK_STATUS p) := InMask.mk (m := maskOf [95, 203]) 95 (by decide) (by decide) rfl
    (Reg.LN_TRUNK_STATUS_has p)
  refine State.trSend_law (State.setTrState_law (State.rxRestart_law (State.setTrunk_law ?_ p _ (by decide) (by decide)) p (by decide) (by decide)) p _
    (by decide) (by decide)) p _ _ (by decide) (by decide)
  exact State.setFld_law (State.setFld_law (Law.refl _ _ s) (F.LN_TRUNK_STATUS.CEIL p) _ hstatus) (F.LN_TRUNK_STATUS.FAIL_STEP p) _ hstatus

/-- What a trunk that falls back shows. -/
theorem State.fallBack_shows (s : State) (p : Nat) {t : Trunk} (h : t.train < 8) :
    (s.fallBack p t).trState p = Tr.FALLBACK ∧ (s.fallBack p t).trCeil p = t.train - 1 ∧
      (s.fallBack p t).fld (F.LN_TRUNK_STATUS.FAIL_STEP p) = t.train ∧ ((s.fallBack p t).trunk p).train = t.train - 1 := by
  unfold State.fallBack
  generalize hu : ((s.setFld (F.LN_TRUNK_STATUS.CEIL p) (t.train - 1)).setFld (F.LN_TRUNK_STATUS.FAIL_STEP p) t.train).setTrunk p
    { t with train := t.train - 1 } = u
  have hkept : ∀ f, Fld.AboveState f p → (((u.rxRestart p).setTrState p Tr.FALLBACK).trSend p Mt.TRAIN (t.train - 1)).fld f = u.fld f := fun f hf => by
    rw [State.fld_trSend, State.fld_setTrState _ _ hf]
    exact State.fld_of_rd f (hf.1 ▸ (u.rxRestart_law_families p).rd_trunkStatus (by decide) p)
  have hfail : (F.LN_TRUNK_STATUS.FAIL_STEP p).AboveState p := ⟨rfl, (by decide : 3 < 12), (by decide : 12 ≤ 14)⟩
  refine ⟨State.trState_setTrState (u.rxRestart p) p (by decide), (hkept _ (aboveState_ceil p)).trans ?_, (hkept _ hfail).trans ?_, ?_⟩
  · simp [← hu, State.fld_setFld_bits, State.fld_setFld_self, F.LN_TRUNK_STATUS.CEIL, F.LN_TRUNK_STATUS.FAIL_STEP]
    omega
  · simp [← hu, State.fld_setFld_self, F.LN_TRUNK_STATUS.FAIL_STEP]
    omega
  · rw [State.trunk_trSend_self, State.trunk_setTrState, State.trunk_rxRestart, ← hu, State.trunk_setTrunk_self]

/-- What a trunk that enters CAP shows: it is at step 0 and sends CAP. -/
theorem State.enterCap_shows (s : State) (p : Nat) :
    (s.enterCap p).trState p = Tr.CAP ∧ (s.enterCap p).trunkStep p = 0 ∧ ((s.enterCap p).trunk p).msg.1 = Mt.CAP := by
  obtain ⟨hstate, hstep⟩ := (s.rxRestart p).capState_shows p
  exact ⟨hstate, hstep, State.msg_capSend _ p⟩

/-- The registers that a training timer may change. -/
abbrev trainScope : List RegSet :=
  Scope.lanes ++ [RegSet.each (Reg.PRT_TT_STATUS 0) 0x10000 256, RegSet.each (Reg.LN_FLAGS 0) 0x4000 256, RegSet.each (Reg.LN_CNT 0 11) 0x4000 256]

theorem OutLaw.train_keepsIn {o : Host.Outcome State Fault Refusal} {s t : State} (h : OutLaw (maskOf [55, 95, 97, 203, 205]) 0x71000 s o)
    (ho : o = .next t) : KeepsIn trainScope [.phase, .lines, .tt, .freeCtr] s t := by
  subst ho
  have hlaw : Law (maskOf [55, 95, 97, 203, 205]) 0x71000 s t := h
  exact .of_law hlaw (by decide) (by decide)

/-! ## The switch of the step -/

theorem State.switchTo_shows (s : State) (p k nonce : Nat) :
    (s.switchTo p k nonce).trState p = Tr.SWITCH ∧ ((s.switchTo p k nonce).trunk p).train = k ∧
      ((s.switchTo p k nonce).trunk p).msg = (Mt.ACK, k + nonce * 2 ^ 8) := by
  refine ⟨State.trState_setTrState _ p (by decide), ?_, ?_⟩ <;>
    simp only [State.switchTo, State.trunk_setTrState, State.trunk_trSend_self, State.trunk_setTrunk_self]

theorem Keeps.switchTo (s : State) (p k nonce : Nat) : Keeps [Reg.LN_TRUNK_STATUS p] [.lines, .out] s (s.switchTo p k nonce) :=
  (Keeps.lines s _ [.out] _).trans (Keeps.setFld _ _ (F.LN_TRUNK_STATUS.STATE p) _ (List.mem_singleton_self _))

/-- A trunk of one lane that runs at the new step. -/
theorem State.switched_shows {s : State} {l : Nat} (h : s.portLanes l = [l]) (k : Nat) :
    let t := ((s.rxRestart l).setTrState l Tr.TRAIN).trSend l Mt.TRAIN k
    t.trState l = Tr.TRAIN ∧ (t.trunk l).msg = (Mt.TRAIN, k) ∧ t.fld (F.LN_STATUS.LOCK l) = 0 ∧ t.rx l = TrRx.fresh ∧
      Keeps [Reg.LN_TRUNK_STATUS l, Reg.LN_STATUS l] [.lines, .out] s t := by
  have hstate : (F.LN_STATUS.LOCK l).ofs ≠ (F.LN_TRUNK_STATUS.STATE l).ofs := by
    simp only [F.LN_STATUS.LOCK, F.LN_TRUNK_STATUS.STATE, Reg.LN_STATUS, Reg.LN_TRUNK_STATUS]
    omega
  refine ⟨State.trState_setTrState (s.rxRestart l) l (by decide), congrArg Trunk.msg (State.trunk_trSend_self _ l _ _), ?_, ?_, ?_⟩
  · exact (State.fld_setFld_ofs (s.rxRestart l) _ _ _ hstate).trans (State.lock_rxRestart h)
  · change (s.rxRestart l).rx l = _
    rw [State.rxRestart_single h, State.rx_setFld, State.rx_setRx_self]
  · rw [State.rxRestart_single h]
    exact (((Keeps.lines s _ [.out] _).trans (Keeps.setFld _ _ (F.LN_STATUS.LOCK l) 0 (by simp [F.LN_STATUS.LOCK]))).trans
      (Keeps.setFld _ _ (F.LN_TRUNK_STATUS.STATE l) _ (by simp [F.LN_TRUNK_STATUS.STATE]))).trans (Keeps.lines _ _ [.out] _)

/-! ## The commands -/

section
variable {s : State} {l : Nat} {arg : BitVec 24} (hl : l < 192) (hfirst : s.trunkFirst l = true)
include hl hfirst

section
variable (hnego : s.trState l = Tr.NEGO)
include hnego

theorem exec_propReceived_of_follower (hheard : s.heard l Mt.PROP arg.toNat = true) (hlead : s.leads l = false) :
    exec (.propReceived l arg) s = .next (if arg.toNat % 8 = s.trunkStep l + 1 ∧ arg.toNat % 8 ≤ (s.trunk l).target then
      s.switchTo l (arg.toNat % 8) (arg.toNat / 2 ^ 8) else s.trSend l Mt.NAK 3) := by
  change execPropReceived l arg s = _
  unfold execPropReceived
  rw [if_neg (by omega), if_pos (by simp [hfirst, hheard, hnego, hlead])]
  exact (apply_ite Host.Outcome.next _ _ _).symm

theorem exec_ackReceived_of_leader (hheard : s.heard l Mt.ACK arg.toNat = true) (hlead : s.leads l = true)
    (hstep : arg.toNat % 8 = s.trunkStep l + 1) :
    exec (.ackReceived l arg) s = .next (s.switchTo l (arg.toNat % 8) (s.trunk l).nonce) := by
  change execAckReceived l arg s = _
  unfold execAckReceived
  rw [if_neg (by omega), if_pos (by simp [hfirst, hheard, hnego, hlead, hstep])]

theorem exec_nakReceived_of_leader (hheard : s.heard l Mt.NAK arg.toNat = true) (hlead : s.leads l = true) :
    exec (.nakReceived l arg) s = .next ((s.setFld (F.LN_TRUNK_STATUS.NAK l) arg.toNat).ceilHere l) := by
  change execNakReceived l arg s = _
  unfold execNakReceived
  rw [if_neg (by omega), if_pos (by simp [hfirst, hheard, hnego, Tr.NEGO, Tr.OFF])]
  exact if_pos ⟨hnego, hlead⟩

theorem exec_responseTimerExpiry_of_leader (hlead : s.leads l = true) :
    exec (.responseTimerExpiry l) s = .next (if 2 ≤ (s.trunk l).tries then (s.setTrunk l { s.trunk l with tries := 0 }).ceilHere l
      else (s.setTrunk l { s.trunk l with tries := (s.trunk l).tries + 1 }).negoEnter l) := by
  change execResponseTimerExpiry l s = _
  unfold execResponseTimerExpiry
  rw [if_neg (by omega), if_pos (by simp [hfirst, hnego, hlead])]
  exact (apply_ite Host.Outcome.next _ _ _).symm

theorem exec_dataMarkerReceived_of_follower (hdata : (s.rx l).msg.1 = Mt.DATA) (hgood : (s.rx l).msg.2.2 ≠ 0) (hlead : s.leads l = false) :
    exec (.dataMarkerReceived l) s = .next (s.goUp l) := by
  change execDataMarkerReceived l s = _
  unfold execDataMarkerReceived
  rw [if_neg (by omega), if_pos (by simp [hfirst, hnego, hdata, hgood, hlead])]

end

theorem exec_trunkSwitchStep_of_sent (hswitch : s.trState l = Tr.SWITCH) (hleft : (s.trunk l).left = 0) :
    exec (.trunkSwitchStep l) s = .next (((s.rxRestart l).setTrState l Tr.TRAIN).trSend l Mt.TRAIN (s.trunk l).train) := by
  change execTrunkSwitchStep l s = _
  unfold execTrunkSwitchStep
  rw [if_neg (by omega), if_pos (by simp [hfirst, hswitch, hleft])]

theorem exec_trainReceived_of_trained (htrain : s.trState l = Tr.TRAIN ∨ s.trState l = Tr.FALLBACK) (hheard : s.heard l Mt.TRAIN arg.toNat = true)
    (hrxa : s.allRxa l = true) (hlock : s.allLocked l = true) (hstep : arg.toNat % 8 = (s.trunk l).train) :
    exec (.trainReceived l arg true) s =
      .next (((s.setStep l (s.trunk l).train).setTrunk l { s.trunk l with tries := 0 }).negoEnter l) := by
  change execTrainReceived l arg true s = _
  unfold execTrainReceived
  rw [if_neg (by omega)]
  exact if_pos (by rcases htrain with h | h <;> simp [hfirst, hheard, h, hrxa, hlock, hstep])

theorem exec_trainingTimerExpiry_of_train (htrain : s.trState l = Tr.TRAIN) : exec (.trainingTimerExpiry l) s = .next (s.trainFail l) := by
  change execTrainingTimerExpiry l s = _
  unfold execTrainingTimerExpiry
  rw [if_neg (by omega), if_pos (by simp [hfirst, htrain])]

theorem exec_trainingTimerExpiry_of_fallback (hback : s.trState l = Tr.FALLBACK) :
    exec (.trainingTimerExpiry l) s = .next ((s.stepFail l).enterCap l) := by
  change execTrainingTimerExpiry l s = _
  unfold execTrainingTimerExpiry
  rw [if_neg (by omega), if_neg (by simp [hback, Tr.TRAIN, Tr.FALLBACK]), if_pos (by simp [hfirst, hback])]

end

end Sys2Proof.Machine
end

section
/-! The obligation O18, clause by clause. -/

namespace Sys2Proof.Machine

section
variable {s : State} {l : Nat} {arg : BitVec 24} (hl : l < 192) (hfirst : s.trunkFirst l = true)
include hl hfirst

theorem execCapReceived_agrees (hcap : s.trState l = Tr.CAP) (hheard : s.heard l Mt.CAP arg.toNat = true)
    (hx4 : bitAt arg.toNat 4 = (s.laneMode l == 6)) (hver : arg.toNat / 2 ^ 5 % 8 = 1) (hnonce : arg.toNat / 2 ^ 8 % 65536 ≠ (s.trunk l).nonce)
    (hrxa : s.allRxa l = true) (hlock : s.allLocked l = true) :
    NextWith (exec (.capReceived l arg true) s) fun t =>
      t.trCeil l = s.capTop l arg.toNat ∧
      t.fld (F.LN_TRUNK_STATUS.PEER_MAX l) = arg.toNat % 8 ∧ t.fld (F.LN_TRUNK_STATUS.PEER_IDLE l) = arg.toNat / 2 ^ 3 % 2 ∧
      t.leads l = s.capLeads l arg.toNat ∧
      t.trState l = (if arg.toNat / 2 ^ 8 % 65536 < (s.trunk l).nonce ∧ s.capTop l arg.toNat ≤ s.trunkStep l then Tr.UP else Tr.NEGO) ∧
      (t.trunk l).target = s.capTop l arg.toNat ∧ t.trunkStep l = s.trunkStep l ∧
      KeepsIn negoScope linkParts s t := by
  have hexec := (exec_capReceived_of_cap hl hfirst hcap true hheard).trans
    (congrArg _ (State.capMsg_of_agreed hx4 hver hnonce hcap hrxa hlock))
  have hceil := s.trCeil_capAgreed l arg.toNat
  have hleads := s.leads_capAgreed l arg.toNat
  have hstep := s.trunkStep_capAgreed l arg.toNat
  obtain ⟨hmax, hidle⟩ := s.peer_capAgreed l arg.toNat
  have htarget : ((s.capAgreed l arg.toNat).trunk l).target = s.capTop l arg.toNat := by
    unfold State.capAgreed
    rw [State.trunk_setTrunk_self]
  have htrunk : (s.capAgreed l arg.toNat).isTrunk l = true := by
    rw [← State.isTrunk_of_first hfirst]
    simp only [State.capAgreed]
    exact (State.isTrunk_setFld _ _ rfl).trans ((State.isTrunk_setFld _ _ rfl).trans ((State.isTrunk_setFld _ _ rfl).trans (State.isTrunk_setFld _ _ rfl)))
  obtain ⟨hstate, hto, -, hkept⟩ := State.negoEnter_shows htrunk
  refine ⟨_, hexec, (hkept _ (aboveState_ceil l)).trans hceil, (hkept _ (aboveState_peerMax l)).trans hmax,
    (hkept _ (aboveState_peerIdle l)).trans hidle, ?_, ?_, hto.trans htarget, (hkept _ (aboveState_step l)).trans hstep,
    (execCapReceived_law s l arg true (by decide) (by decide)).nego_keepsIn hexec⟩
  · exact (congrArg (· == 1) (hkept _ (aboveState_leader l))).trans hleads
  · rw [hstate, hleads, hceil, hstep]
    exact if_congr (and_congr_left' decide_eq_true_iff) rfl rfl

theorem execCapReceived_mismatches {rxa : Bool} (hcap : s.trState l = Tr.CAP) (hheard : s.heard l Mt.CAP arg.toNat = true)
    (hx4 : bitAt arg.toNat 4 ≠ (s.laneMode l == 6)) :
    NextWith (exec (.capReceived l arg rxa) s) fun t =>
      t.trState l = Tr.MISMATCH ∧ (t.trunk l).msg = (Mt.NAK, 1) ∧ KeepsIn negoScope linkParts s t := by
  have hexec := (exec_capReceived_of_cap hl hfirst hcap rxa hheard).trans (congrArg _ (State.capMsg_of_apart hx4 hcap))
  obtain ⟨hstate, hmsg⟩ := s.mismatched_shows l 1
  exact ⟨_, hexec, hstate, hmsg, (execCapReceived_law s l arg rxa (by decide) (by decide)).nego_keepsIn hexec⟩

theorem execCapReceived_ties {rxa : Bool} (hcap : s.trState l = Tr.CAP) (hheard : s.heard l Mt.CAP arg.toNat = true)
    (hx4 : bitAt arg.toNat 4 = (s.laneMode l == 6)) (hver : arg.toNat / 2 ^ 5 % 8 = 1) (hnonce : arg.toNat / 2 ^ 8 % 65536 = (s.trunk l).nonce) :
    NextWith (exec (.capReceived l arg rxa) s) fun t =>
      t.trState l = Tr.CAP ∧ (t.trunk l).msg.1 = Mt.CAP ∧ t.freeCtr = s.freeCtr + 1 ∧ Keeps [] [.lines, .freeCtr, .out] s t := by
  have hexec := (exec_capReceived_of_cap hl hfirst hcap rxa hheard).trans (congrArg _ (State.capMsg_of_tie hx4 hver hnonce hcap))
  have hkeeps := Keeps.capSend s l
  exact ⟨_, hexec, (State.fld_of_rd (F.LN_TRUNK_STATUS.STATE l) (hkeeps.1 _ List.not_mem_nil)).trans hcap, s.msg_capSend l, s.freeCtr_capSend l, hkeeps⟩

theorem execCapTimeout_downs (hcap : s.trState l = Tr.CAP) (hloop : s.looped l = false) :
    NextWith (exec (.capTimeout l) s) fun t =>
      t.oper l = Oper.DOWN ∧ t.trState l = Tr.CAP ∧ KeepsIn (Scope.link ++ [RegSet.each (Reg.KT_FREQ 0) 0x100 8]) linkParts s t := by
  refine ⟨_, exec_capTimeout_of_cap hl hfirst hcap, ?_, (State.trState_setOper s l _ l).trans hcap, .of_law (s.setOper_law_oper l _) (by decide) (by decide)⟩
  rw [State.oper_setOper s l (by decide), State.operOf_of_not_looped _ hloop]

theorem execNakReceived_ceils (hnego : s.trState l = Tr.NEGO) (hheard : s.heard l Mt.NAK arg.toNat = true) (hlead : s.leads l = true) :
    NextWith (exec (.nakReceived l arg) s) fun t =>
      t.fld (F.LN_TRUNK_STATUS.NAK l) = arg.toNat % 2 ^ 8 ∧ t.trCeil l = s.trunkStep l ∧ t.trState l = Tr.UP ∧
      t.markerMsg l = (0, 0) ∧ KeepsIn negoScope linkParts s t := by
  have hexec := exec_nakReceived_of_leader hl hfirst hnego hheard hlead
  generalize hu : s.setFld (F.LN_TRUNK_STATUS.NAK l) arg.toNat = u at hexec
  have hkept : ∀ f : Fld, f.ofs = Reg.LN_TRUNK_STATUS l → f.lo ≤ f.hi → f.hi < 24 → u.fld f = s.fld f := fun f ho hf hd =>
    hu ▸ State.fld_setFld_bits s (F.LN_TRUNK_STATUS.NAK l) f _ (by decide : 31 < 64) (by decide : 24 ≤ 31) hf ho (.inl hd)
  have hnak : u.fld (F.LN_TRUNK_STATUS.NAK l) = arg.toNat % 2 ^ 8 :=
    hu ▸ State.fld_setFld_self s (F.LN_TRUNK_STATUS.NAK l) _ (by decide : 31 < 64) (by decide : 24 ≤ 31)
  have hleads : u.leads l = true :=
    (congrArg (· == 1) (hkept (F.LN_TRUNK_STATUS.LEADER l) rfl (by decide : 7 ≤ 7) (by decide : 7 < 24))).trans hlead
  obtain ⟨hstate, hmsg, hceil, -, hshown⟩ := State.ceilHere_shows
    (hu ▸ (s.isTrunk_setFld _ rfl).trans (State.isTrunk_of_first hfirst) : u.isTrunk l = true) hleads
  exact ⟨_, hexec, hshown.trans hnak, hceil.trans (hkept (F.LN_TRUNK_STATUS.STEP l) rfl (by decide : 4 ≤ 6) (by decide : 6 < 24)), hstate, hmsg,
    (execNakReceived_law s l arg (by decide) (by decide)).nego_keepsIn hexec⟩

theorem execResponseTimerExpiry_retries (hnego : s.trState l = Tr.NEGO) (hlead : s.leads l = true) (htries : (s.trunk l).tries < 2)
    (hstep : s.trunkStep l < s.trCeil l) :
    NextWith (exec (.responseTimerExpiry l) s) fun t =>
      (t.trunk l).tries = (s.trunk l).tries + 1 ∧ t.trState l = Tr.NEGO ∧
      (t.trunk l).msg = (Mt.PROP, s.trunkStep l + 1 + (s.trunk l).nonce * 2 ^ 8) ∧ t.trCeil l = s.trCeil l ∧ KeepsIn negoScope linkParts s t := by
  have hexec := (exec_responseTimerExpiry_of_leader hl hfirst hnego hlead).trans (congrArg _ (if_neg (by omega)))
  generalize hu : s.setTrunk l { s.trunk l with tries := (s.trunk l).tries + 1 } = u at hexec
  have hfld : ∀ f, u.fld f = s.fld f := fun f => hu ▸ s.fld_setTrunk l _ f
  have hceil : u.trCeil l = s.trCeil l := hfld _
  have hcur : u.trunkStep l = s.trunkStep l := hfld _
  have hleads : u.leads l = true := (congrArg (· == 1) (hfld (F.LN_TRUNK_STATUS.LEADER l))).trans hlead
  have hown : u.trunk l = { s.trunk l with tries := (s.trunk l).tries + 1 } := hu ▸ s.trunk_setTrunk_self l _
  obtain ⟨hstate, -, htried, habove⟩ := State.negoEnter_shows (hu ▸ State.isTrunk_of_first hfirst : u.isTrunk l = true)
  refine ⟨_, hexec, htried.trans (by rw [hown]), hstate.trans (if_neg (by omega)), ?_, (habove _ (aboveState_ceil l)).trans hceil,
    (execResponseTimerExpiry_law s l (by decide) (by decide)).nego_keepsIn hexec⟩
  rw [State.negoEnter_of_below hleads (by omega), State.trunk_trSend_self, hcur, hown]

theorem execResponseTimerExpiry_ceils (hnego : s.trState l = Tr.NEGO) (hlead : s.leads l = true) (htries : 2 ≤ (s.trunk l).tries) :
    NextWith (exec (.responseTimerExpiry l) s) fun t =>
      (t.trunk l).tries = 0 ∧ t.trState l = Tr.UP ∧ t.trCeil l = s.trunkStep l ∧ KeepsIn negoScope linkParts s t := by
  have hexec := (exec_responseTimerExpiry_of_leader hl hfirst hnego hlead).trans (congrArg _ (if_pos htries))
  generalize hu : s.setTrunk l { s.trunk l with tries := 0 } = u at hexec
  have hfld : ∀ f, u.fld f = s.fld f := fun f => hu ▸ s.fld_setTrunk l _ f
  have hleads : u.leads l = true := (congrArg (· == 1) (hfld (F.LN_TRUNK_STATUS.LEADER l))).trans hlead
  have hown : u.trunk l = { s.trunk l with tries := 0 } := hu ▸ s.trunk_setTrunk_self l _
  obtain ⟨hstate, -, hceil, htried, -⟩ := State.ceilHere_shows (hu ▸ State.isTrunk_of_first hfirst : u.isTrunk l = true) hleads
  exact ⟨_, hexec, htried.trans (by rw [hown]), hstate, hceil.trans (hfld (F.LN_TRUNK_STATUS.STEP l)),
    (execResponseTimerExpiry_law s l (by decide) (by decide)).nego_keepsIn hexec⟩

theorem execTrainReceived_advances (htrain : s.trState l = Tr.TRAIN ∨ s.trState l = Tr.FALLBACK) (hheard : s.heard l Mt.TRAIN arg.toNat = true)
    (hrxa : s.allRxa l = true) (hlock : s.allLocked l = true) (hstep : arg.toNat % 8 = (s.trunk l).train) :
    NextWith (exec (.trainReceived l arg true) s) fun t =>
      t.trunkStep l = (s.trunk l).train ∧ (t.trunk l).tries = 0 ∧
      t.trState l = (if s.leads l = true ∧ s.trCeil l ≤ (s.trunk l).train then Tr.UP else Tr.NEGO) ∧ KeepsIn negoScope linkParts s t := by
  have hexec := exec_trainReceived_of_trained hl hfirst htrain hheard hrxa hlock hstep
  obtain ⟨hcur, hleads, hceil, htrunk⟩ := s.setStep_shows l (hstep ▸ Nat.mod_lt _ (by decide) : (s.trunk l).train < 8)
  generalize hu : (s.setStep l (s.trunk l).train).setTrunk l { s.trunk l with tries := 0 } = u at hexec
  have hcur' : u.trunkStep l = (s.trunk l).train := hu ▸ hcur
  have hleads' : u.leads l = s.leads l := hu ▸ hleads
  have hceil' : u.trCeil l = s.trCeil l := hu ▸ hceil
  obtain ⟨hstate, -, htries, habove⟩ := State.negoEnter_shows (hu ▸ htrunk.trans (State.isTrunk_of_first hfirst) : u.isTrunk l = true)
  refine ⟨_, hexec, (habove _ (aboveState_step l)).trans hcur', ?_, ?_, (execTrainReceived_law s l arg true (by decide) (by decide)).nego_keepsIn hexec⟩
  · rw [htries, ← hu, State.trunk_setTrunk_self]
  · rw [hstate, hleads', hceil', hcur']

theorem execDataMarkerReceived_ups (hnego : s.trState l = Tr.NEGO) (hdata : (s.rx l).msg.1 = Mt.DATA) (hgood : (s.rx l).msg.2.2 ≠ 0)
    (hlead : s.leads l = false) (hloop : s.looped l = false) :
    NextWith (exec (.dataMarkerReceived l) s) fun t =>
      t.trState l = Tr.UP ∧ t.oper l = Oper.UP ∧ t.markerMsg l = (0, 0) ∧ KeepsIn negoScope linkParts s t := by
  have hexec := exec_dataMarkerReceived_of_follower hl hfirst hnego hdata hgood hlead
  have htrunk := State.isTrunk_of_first hfirst
  obtain ⟨hstate, hmsg, -⟩ := State.goUp_shows htrunk
  exact ⟨_, hexec, hstate, State.oper_goUp htrunk hloop, hmsg, (execDataMarkerReceived_law s l (by decide) (by decide)).nego_keepsIn hexec⟩

theorem execTrainingTimerExpiry_fallsBack (htrain : s.trState l = Tr.TRAIN) (hk : (s.trunk l).train < 8) :
    NextWith (exec (.trainingTimerExpiry l) s) fun t =>
      t.trState l = Tr.FALLBACK ∧ t.trCeil l = (s.trunk l).train - 1 ∧ t.fld (F.LN_TRUNK_STATUS.FAIL_STEP l) = (s.trunk l).train ∧
      (t.trunk l).train = (s.trunk l).train - 1 ∧ t.rd (Reg.LN_CNT l 11) = s.rd (Reg.LN_CNT l 11) + 1 ∧
      t.fld (F.LN_FLAGS.STEP_FAIL l) = 1 ∧ KeepsIn trainScope [.phase, .lines, .tt, .freeCtr] s t := by
  have hexec := (exec_trainingTimerExpiry_of_train hl hfirst htrain).trans (congrArg _ (s.trainFail_eq l))
  obtain ⟨hcount, hflag⟩ := s.stepFail_shows l
  obtain ⟨hstate, hceil, hfail, hk1⟩ := (s.stepFail l).fallBack_shows l hk
  have hlaw := (s.stepFail l).fallBack_law l (s.trunk l)
  exact ⟨_, hexec, hstate, hceil, hfail, hk1, (hlaw.rd_lnCnt (by decide) (by decide) l).trans hcount,
    (State.fld_of_rd (F.LN_FLAGS.STEP_FAIL l) (hlaw.rd_lnFlags (by decide) l)).trans hflag,
    (execTrainingTimerExpiry_law s l (by decide) (by decide)).train_keepsIn hexec⟩

theorem execTrainingTimerExpiry_restarts (hback : s.trState l = Tr.FALLBACK) :
    NextWith (exec (.trainingTimerExpiry l) s) fun t =>
      t.trState l = Tr.CAP ∧ t.trunkStep l = 0 ∧ t.rd (Reg.LN_CNT l 11) = s.rd (Reg.LN_CNT l 11) + 1 ∧ (t.trunk l).msg.1 = Mt.CAP ∧
      KeepsIn trainScope [.phase, .lines, .tt, .freeCtr] s t := by
  have hexec := exec_trainingTimerExpiry_of_fallback hl hfirst hback
  obtain ⟨hstate, hstep, hmsg⟩ := (s.stepFail l).enterCap_shows l
  have hlaw : Law (maskOf [55, 95, 203]) 0x71000 (s.stepFail l) ((s.stepFail l).enterCap l) :=
    State.enterCap_law (Law.refl _ _ _) l (by decide) (by decide)
  exact ⟨_, hexec, hstate, hstep, (hlaw.rd_lnCnt (by decide) (by decide) l).trans (s.stepFail_shows l).1, hmsg,
    (execTrainingTimerExpiry_law s l (by decide) (by decide)).train_keepsIn hexec⟩

end

/-- Settles O18, clause by clause. -/
theorem trunksNegotiateByTable : Obligations.TrunksNegotiateByTable := by
  unfold Obligations.TrunksNegotiateByTable
  refine ⟨fun s l arg hl hfirst hcap hheard hx4 hver hnonce hrxa hlock => execCapReceived_agrees hl hfirst hcap hheard hx4 hver hnonce hrxa hlock,
    fun s l arg rxa hl hfirst hcap hheard hx4 => execCapReceived_mismatches hl hfirst hcap hheard hx4,
    fun s l arg rxa hl hfirst hcap hheard hx4 hver hnonce => execCapReceived_ties hl hfirst hcap hheard hx4 hver hnonce,
    fun s l hl hfirst hcap hloop => execCapTimeout_downs hl hfirst hcap hloop,
    fun s l arg hl hfirst hnego hheard hlead hstep htarget => ?_, fun s l arg hl hfirst hnego hheard hlead hbad => ?_,
    fun s l arg hl hfirst hnego hheard hlead hstep => ?_,
    fun s l arg hl hfirst hnego hheard hlead => execNakReceived_ceils hl hfirst hnego hheard hlead,
    fun s l hl hfirst hnego hlead htries hstep => execResponseTimerExpiry_retries hl hfirst hnego hlead htries hstep,
    fun s l hl hfirst hnego hlead htries => execResponseTimerExpiry_ceils hl hfirst hnego hlead htries,
    fun s l hl hfirst hswitch hleft hlanes => ⟨_, exec_trunkSwitchStep_of_sent hl hfirst hswitch hleft, State.switched_shows hlanes _⟩,
    fun s l arg hl hfirst htrain hheard hrxa hlock hstep => execTrainReceived_advances hl hfirst htrain hheard hrxa hlock hstep,
    fun s l hl hfirst hnego hdata hgood hlead hloop => execDataMarkerReceived_ups hl hfirst hnego hdata hgood hlead hloop,
    fun s l hl hfirst htrain hk => execTrainingTimerExpiry_fallsBack hl hfirst htrain hk,
    fun s l hl hfirst hback => execTrainingTimerExpiry_restarts hl hfirst hback⟩
  · obtain ⟨hstate, htrain, hmsg⟩ := s.switchTo_shows l (arg.toNat % 8) (arg.toNat / 2 ^ 8)
    exact ⟨_, (exec_propReceived_of_follower hl hfirst hnego hheard hlead).trans (congrArg _ (if_pos ⟨hstep, htarget⟩)), hstate, htrain, hmsg,
      Keeps.switchTo ..⟩
  · exact ⟨_, (exec_propReceived_of_follower hl hfirst hnego hheard hlead).trans (congrArg _ (if_neg (by omega))), hnego,
      congrArg Trunk.msg (s.trunk_trSend_self l _ _), Keeps.lines s [] [.out] _⟩
  · obtain ⟨hstate, htrain, hmsg⟩ := s.switchTo_shows l (arg.toNat % 8) (s.trunk l).nonce
    exact ⟨_, exec_ackReceived_of_leader hl hfirst hnego hheard hlead hstep, hstate, htrain, congrArg Prod.fst hmsg, Keeps.switchTo ..⟩

end Sys2Proof.Machine
end

section
/-! Line bits that a trunk's receiver takes (O19): the stuff bits are removed and their violations counted, and the receiver stays as it is but for
its bit stream. -/

namespace Sys2Proof.Machine

/-! ## Stuff bits -/

/-- Line bits are destuffed piece by piece. -/
theorem destuff_append (r : LineRun) (a b : List Bool) :
    destuff r (a ++ b) = ((destuff (destuff r a).1 b).1, (destuff r a).2.1 ++ (destuff (destuff r a).1 b).2.1,
      (destuff r a).2.2 + (destuff (destuff r a).1 b).2.2) := by
  induction a generalizing r with
  | nil => simp [destuff]
  | cons x a ih =>
    simp only [List.cons_append, destuff]
    split
    · simp [ih, Nat.add_assoc]
    · simp [ih]

/-- Line bits of lane `l` without their stuff bits: the run after them, the bits that stay, and the violations. -/
def State.unstuffed (s : State) (l : Nat) (line : List Bool) : LineRun × List Bool × Nat :=
  destuff (s.rx l).run (line.map (· != s.fldBit (F.LN_CFG.POLARITY l) 1))

/-! ## What a lane that takes bits keeps -/

theorem Keeps.flag (s : State) {own : List Nat} (ps : List Part) (f : Fld) (ha : f.ofs ∈ own) : Keeps own ps s (s.flag f) :=
  (Keeps.setFld s ps f 1 ha).trans ⟨fun _ _ => rfl, fun p _ => by cases p <;> rfl⟩

theorem Keeps.count (s : State) {own : List Nat} (ps : List Part) {a : Nat} (ha : a ∈ own) : Keeps own ps s (s.count a) := Keeps.wr s ps _ ha

/-- From `s` to `t` lane `l` has counted `n` stuff bit violations, flagged them, and changed nothing else but its line state. -/
structure State.Took (l n : Nat) (s t : State) : Prop where
  kept : Keeps [Reg.LN_CNT l 5, Reg.LN_FLAGS l] [.lines] s t
  counted : t.rd (Reg.LN_CNT l 5) = s.rd (Reg.LN_CNT l 5) + BitVec.ofNat 64 n
  flagged : n ≠ 0 ∨ s.fld (F.LN_FLAGS.STUFF_ERR l) = 1 → t.fld (F.LN_FLAGS.STUFF_ERR l) = 1

namespace State.Took
variable {l m n : Nat} {s t u : State}

theorem trans (h : State.Took l n s t) (h' : State.Took l m t u) : State.Took l (n + m) s u where
  kept := h.kept.trans h'.kept
  counted := by rw [h'.counted, h.counted, BitVec.add_assoc, ← BitVec.ofNat_add]
  flagged hn := h'.flagged (by
    by_cases hm : m = 0
    · exact .inr (h.flagged (hn.imp_left (by omega)))
    · exact .inl hm)

theorem refl (l : Nat) (s : State) : State.Took l 0 s s where
  kept := ⟨fun _ _ => rfl, fun p _ => by cases p <;> rfl⟩
  counted := by simp
  flagged hn := hn.resolve_left (fun h => h rfl)

theorem setRx (s : State) (l k : Nat) (r : TrRx) : State.Took l 0 s (s.setRx k r) where
  kept := Keeps.lines s _ [] _
  counted := by simp [State.setRx, State.rd]
  flagged hn := hn.resolve_left (fun h => h rfl)

/-- A register of no lane's violation counter and flags reads as before. -/
theorem rd (h : State.Took l n s t) {a : Nat} (hcnt : a % 0x4000 ≠ 0x128) (hflags : a % 0x4000 ≠ 0xc) : t.rd a = s.rd a := by
  refine h.kept.1 a fun hm => ?_
  rcases List.mem_pair.mp hm with rfl | rfl
  · unfold Reg.LN_CNT at hcnt
    omega
  · unfold Reg.LN_FLAGS at hflags
    omega

theorem rd_lnCfg (h : State.Took l n s t) (k : Nat) : t.rd (Reg.LN_CFG k) = s.rd (Reg.LN_CFG k) := by
  apply h.rd <;> (unfold Reg.LN_CFG; omega)

theorem lock (h : State.Took l n s t) : t.fld (F.LN_STATUS.LOCK l) = s.fld (F.LN_STATUS.LOCK l) := by
  refine State.fld_of_rd (F.LN_STATUS.LOCK l) ?_
  apply h.rd <;> (unfold F.LN_STATUS.LOCK Reg.LN_STATUS; dsimp only; omega)

theorem trState (h : State.Took l n s t) (p : Nat) : t.trState p = s.trState p := by
  refine State.fld_of_rd (F.LN_TRUNK_STATUS.STATE p) ?_
  apply h.rd <;> (unfold F.LN_TRUNK_STATUS.STATE Reg.LN_TRUNK_STATUS; dsimp only; omega)

theorem polarity (h : State.Took l n s t) : t.fldBit (F.LN_CFG.POLARITY l) 1 = s.fldBit (F.LN_CFG.POLARITY l) 1 :=
  State.fldBit_of_rd (F.LN_CFG.POLARITY l) 1 (h.rd_lnCfg l)

theorem lanePort (h : State.Took l n s t) : t.lanePort l = s.lanePort l := State.fld_of_rd (F.LN_CFG.PORT l) (h.rd_lnCfg l)

theorem laneMode (h : State.Took l n s t) : t.laneMode l = s.laneMode l := State.fld_of_rd (F.LN_CFG.MODE l) (h.rd_lnCfg l)

end State.Took

/-! ## Line bits and payload bits -/

/-- A receiver but for its bit stream. -/
def TrRx.still (r : TrRx) : TrRx := { r with scr := 0, run := ⟨false, 0⟩, buf := [], drop := 0 }

section
variable (s : State) (l : Nat) (line : List Bool)

theorem State.lineIn_fst : (s.lineIn l line).1 =
    if (s.unstuffed l line).2.2 = 0 then s.setRx l { s.rx l with run := (s.unstuffed l line).1 }
    else ((s.setRx l { s.rx l with run := (s.unstuffed l line).1 }).countN (Reg.LN_CNT l 5) (s.unstuffed l line).2.2).flag
      (F.LN_FLAGS.STUFF_ERR l) := rfl

theorem State.rx_lineIn : (s.lineIn l line).1.rx l = { s.rx l with run := (s.unstuffed l line).1 } := by
  rw [State.lineIn_fst]
  split
  · exact State.rx_setRx_self _ _ _
  · exact State.rx_setRx_self _ _ _

theorem State.took_lineIn : State.Took l (s.unstuffed l line).2.2 s (s.lineIn l line).1 := by
  rw [State.lineIn_fst]
  generalize s.unstuffed l line = o
  have hrx := State.Took.setRx s l l { s.rx l with run := o.1 }
  split
  next hn =>
    rw [hn]
    exact hrx
  next hn =>
    generalize s.setRx l { s.rx l with run := o.1 } = u at hrx ⊢
    have hnew : State.Took l o.2.2 u ((u.countN (Reg.LN_CNT l 5) o.2.2).flag (F.LN_FLAGS.STUFF_ERR l)) :=
      { kept := (Keeps.wr u _ _ (List.mem_cons_self ..)).trans (Keeps.flag _ _ _ (by simp [F.LN_FLAGS.STUFF_ERR]))
        counted := (State.rd_flag_ne _ (F.LN_FLAGS.STUFF_ERR l) (Reg.lnCnt_ne_lnFlags l 5 l)).trans (u.rd_countN_self _ _)
        flagged := fun _ => State.fld_flag_self _ (F.LN_FLAGS.STUFF_ERR l) (by decide : 4 < 64) (by decide : 4 ≤ 4) }
    simpa using hrx.trans hnew

theorem State.rx_payIn : (s.payIn l line).rx l = ({ s.rx l with scr := (descramble (s.rx l).scr line).1 } : TrRx).keep (descramble (s.rx l).scr line).2 :=
  State.rx_setRx_self _ _ _

theorem State.took_payIn : State.Took l 0 s (s.payIn l line) := State.Took.setRx s l l _

theorem TrRx.run_keep (r : TrRx) (d : List Bool) : (r.keep d).run = r.run := by
  unfold TrRx.keep
  split <;> rfl

theorem TrRx.still_keep (r : TrRx) (d : List Bool) : (r.keep d).still = r.still := by
  unfold TrRx.keep
  split <;> rfl

theorem State.run_payIn : ((s.payIn l line).rx l).run = (s.rx l).run := by
  rw [State.rx_payIn, TrRx.run_keep]

theorem State.still_payIn : ((s.payIn l line).rx l).still = (s.rx l).still := by
  rw [State.rx_payIn, TrRx.still_keep]
  rfl

theorem State.still_lineIn : ((s.lineIn l line).1.rx l).still = (s.rx l).still := by
  rw [State.rx_lineIn]
  rfl

end

/-! ## Two pieces of line bits -/

section
variable {s u : State} {l n : Nat}

/-- The bits that a lane takes depend on its run and its polarity alone. -/
theorem State.unstuffed_of_run (hrun : (u.rx l).run = (s.rx l).run) (htook : State.Took l n s u) (line : List Bool) :
    u.unstuffed l line = s.unstuffed l line := by
  unfold State.unstuffed
  rw [hrun, htook.polarity]

/-- Line bits that arrive after others, with payload taken in between or not, are counted with them. -/
theorem State.took_lineIn_lineIn (pre m : List Bool) (hrun : (u.rx l).run = ((s.lineIn l pre).1.rx l).run)
    (htook : State.Took l (s.unstuffed l pre).2.2 s u) : State.Took l (s.unstuffed l (pre ++ m)).2.2 s (u.lineIn l m).1 := by
  have hadd : (s.unstuffed l (pre ++ m)).2.2 = (s.unstuffed l pre).2.2 + (u.unstuffed l m).2.2 := by
    rw [State.rx_lineIn] at hrun
    unfold State.unstuffed at hrun ⊢
    rw [List.map_append, destuff_append, hrun, htook.polarity]
  rw [hadd]
  exact htook.trans (u.took_lineIn l m)

end

end Sys2Proof.Machine
end

section
/-! Markers, pointers and units that a trunk's receiver takes (O19). -/

namespace Sys2Proof.Machine

/-! ## Reception up to a marker, a pointer or the end of a unit -/

namespace State.Took
variable {l n : Nat} {s t : State}

theorem setRx_right (h : State.Took l n s t) (r : TrRx) : State.Took l n s (t.setRx l r) := h.trans (State.Took.setRx t l l r)

theorem payIn_right (h : State.Took l n s t) (bits : List Bool) : State.Took l n s (t.payIn l bits) := h.setRx_right _

theorem keepsIn (h : State.Took l n s t) : KeepsIn [RegSet.one (Reg.LN_CNT l 5), RegSet.one (Reg.LN_FLAGS l)] [.lines] s t := h.kept.keepsIn

end State.Took

theorem State.takesMarkers_of_delivers {s : State} {l : Nat} (h : s.delivers l = true) : s.takesMarkers l = true := by
  simp only [State.delivers, Bool.and_eq_true, beq_iff_eq] at h
  obtain ⟨⟨⟨htrunk, hup⟩, -⟩, -⟩ := h
  simp [State.takesMarkers, htrunk, hup, Tr.UP, Tr.OFF, Tr.IDLE]

section
variable (s : State) (l : Nat)

theorem State.markerLine_shows (pre m : List Bool) (ts : LineStamp) :
    ∃ k, s.markerLine l pre m ts = k.marker l (ofBits ((s.lineIn l pre).1.lineIn l m).2) ts ∧
      State.Took l (s.unstuffed l (pre ++ m)).2.2 s k ∧ (k.rx l).still = (s.rx l).still := by
  generalize hu : (if s.trState (s.lanePort l) = Tr.IDLE then (s.lineIn l pre).1 else (s.lineIn l pre).1.payIn l (s.lineIn l pre).2) = u
  obtain ⟨htook, hrun, hstill⟩ : State.Took l 0 (s.lineIn l pre).1 u ∧ (u.rx l).run = ((s.lineIn l pre).1.rx l).run ∧
      (u.rx l).still = ((s.lineIn l pre).1.rx l).still := by
    rw [← hu]
    split
    · exact ⟨State.Took.refl l _, rfl, rfl⟩
    · exact ⟨State.took_payIn _ l _, State.run_payIn _ l _, State.still_payIn _ l _⟩
  have hbits : (u.lineIn l m).2 = ((s.lineIn l pre).1.lineIn l m).2 := congrArg (·.2.1) (State.unstuffed_of_run hrun htook m)
  refine ⟨(u.lineIn l m).1, ?_, State.took_lineIn_lineIn pre m hrun ((s.took_lineIn l pre).trans htook),
    (u.still_lineIn l m).trans (hstill.trans (s.still_lineIn l pre))⟩
  rw [← hbits, ← hu]
  rfl

/-- Lane `l` has taken line bits and their payload. -/
def State.lineTaken (line : List Bool) : State := (s.lineIn l line).1.payIn l (s.lineIn l line).2

theorem State.took_lineTaken (line : List Bool) : State.Took l (s.unstuffed l line).2.2 s (s.lineTaken l line) :=
  (s.took_lineIn l line).payIn_right _

theorem State.still_lineTaken (line : List Bool) : ((s.lineTaken l line).rx l).still = (s.rx l).still :=
  (State.still_payIn _ l _).trans (s.still_lineIn l line)

theorem State.pointerLine_shows (pre ptr : List Bool) (h : s.delivers l = true) :
    ∃ k, s.pointerLine l pre ptr =
        k.pointer l (ofBits (descramble ((s.lineTaken l pre).rx l).scr ((s.lineTaken l pre).lineIn l ptr).2).2) ∧
      State.Took l (s.unstuffed l (pre ++ ptr)).2.2 s k ∧ (k.rx l).still = (s.rx l).still := by
  generalize hu : s.lineTaken l pre = u
  have hscr : ((u.lineIn l ptr).1.rx l).scr = (u.rx l).scr := by rw [State.rx_lineIn]
  have hline : s.pointerLine l pre ptr =
      ((u.lineIn l ptr).1.setRx l { (u.lineIn l ptr).1.rx l with scr := (descramble ((u.lineIn l ptr).1.rx l).scr (u.lineIn l ptr).2).1 }).pointer l
        (ofBits (descramble ((u.lineIn l ptr).1.rx l).scr (u.lineIn l ptr).2).2) := by
    rw [← hu]
    exact if_pos h
  refine ⟨_, hscr ▸ hline, ?_, ?_⟩
  · refine State.Took.setRx_right ?_ _
    exact State.took_lineIn_lineIn pre ptr (hu ▸ State.run_payIn _ l _) (hu ▸ s.took_lineTaken l pre)
  · rw [State.rx_setRx_self]
    exact (u.still_lineIn l ptr).trans (hu ▸ s.still_lineTaken l pre)

end

/-! ## Markers -/

theorem TrRx.note_of_good {m : Nat} (r : TrRx) (h : mkGood m = true) : r.note m =
    { r with rxa := mkRxa m, msg := (mkType m, mkArg m, if r.msg.1 = mkType m ∧ r.msg.2.1 = mkArg m then min 3 (r.msg.2.2 + 1) else 1) } := if_pos h

theorem TrRx.note_of_bad {m : Nat} (r : TrRx) (h : mkGood m = false) : r.note m = { r with msg := (r.msg.1, r.msg.2.1, 0) } :=
  if_neg (Bool.eq_false_iff.mp h)

section
variable {s : State} {l m : Nat}

theorem State.marker_of_seeking (ts : LineStamp) (h : s.fld (F.LN_STATUS.LOCK l) = 0) :
    s.marker l m ts = (s.setRx l ((s.rx l).note m)).seekMarker l m :=
  if_neg (fun h1 => absurd (h.symm.trans h1) (by decide))

theorem State.marker_of_aligned (ts : LineStamp) (h : s.fld (F.LN_STATUS.LOCK l) = 1) :
    s.marker l m ts = (s.setRx l ((s.rx l).note m)).alignedMarker l m ts := if_pos h

theorem State.seekMarker_of_fourth (hgood : mkGood m = true) (h : 3 ≤ (s.rx l).good) :
    s.seekMarker l m = (s.setRx l { s.rx l with good := 0, bad := 0, seq := some (mkSeq m), skip := true, pos := none, buf := [], drop := 0 }).setFld
      (F.LN_STATUS.LOCK l) 1 := (if_pos hgood).trans (if_pos h)

theorem State.seekMarker_of_bad (hbad : mkGood m = false) : s.seekMarker l m = s.setRx l { s.rx l with good := 0 } :=
  if_neg (Bool.eq_false_iff.mp hbad)

/-- A good marker with the expected SEQ, and no DATA, changes the receiver alone. -/
theorem State.alignedMarker_of_next (ts : LineStamp) (hgood : mkGood m = true) (htype : mkType m ≠ Mt.DATA)
    (hseq : ∀ q, (s.rx l).seq = some q → mkSeq m = (q + 1) % 256) :
    s.alignedMarker l m ts = s.setRx l { s.rx l with bad := 0, seq := some (mkSeq m), skip := false } := by
  unfold State.alignedMarker
  rw [if_pos hgood]
  dsimp only
  rw [if_neg htype]
  refine if_neg ?_
  split
  next q hq => simp [hseq q hq]
  next => exact Bool.false_ne_true

/-- Lane `l` is out of lock. -/
def State.unlocked (s : State) (l : Nat) : State :=
  (((s.count (Reg.LN_CNT l 2)).flag (F.LN_FLAGS.LOCK_LOST l)).setFld (F.LN_STATUS.LOCK l) 0).setRx l TrRx.fresh

theorem Keeps.unlocked (s : State) (l : Nat) : Keeps [Reg.LN_CNT l 2, Reg.LN_FLAGS l, Reg.LN_STATUS l] [.lines] s (s.unlocked l) :=
  (((Keeps.count s _ (by simp)).trans (Keeps.flag _ _ (F.LN_FLAGS.LOCK_LOST l) (by simp [F.LN_FLAGS.LOCK_LOST]))).trans
    (Keeps.setFld _ _ (F.LN_STATUS.LOCK l) 0 (by simp [F.LN_STATUS.LOCK]))).trans (Keeps.lines _ _ [] _)

theorem State.unlocked_shows (s : State) (l : Nat) :
    (s.unlocked l).fld (F.LN_STATUS.LOCK l) = 0 ∧ (s.unlocked l).rx l = TrRx.fresh ∧
      (s.unlocked l).rd (Reg.LN_CNT l 2) = s.rd (Reg.LN_CNT l 2) + 1 ∧ (s.unlocked l).fld (F.LN_FLAGS.LOCK_LOST l) = 1 := by
  have hcnt : Reg.LN_CNT l 2 ≠ Reg.LN_STATUS l := by
    unfold Reg.LN_CNT Reg.LN_STATUS
    omega
  have hflags : Reg.LN_FLAGS l ≠ Reg.LN_STATUS l := by
    unfold Reg.LN_FLAGS Reg.LN_STATUS
    omega
  refine ⟨State.fld_setFld_self _ (F.LN_STATUS.LOCK l) 0 (by decide : 2 < 64) (by decide : 2 ≤ 2), State.rx_setRx_self _ _ _, ?_, ?_⟩
  · exact (State.rd_setFld_ne _ (F.LN_STATUS.LOCK l) 0 hcnt).trans
      ((State.rd_flag_ne _ (F.LN_FLAGS.LOCK_LOST l) (Reg.lnCnt_ne_lnFlags l 2 l)).trans (s.rd_count_self _))
  · exact (State.fld_setFld_ofs _ (F.LN_STATUS.LOCK l) (F.LN_FLAGS.LOCK_LOST l) 0 hflags).trans
      (State.fld_flag_self _ (F.LN_FLAGS.LOCK_LOST l) (by decide : 2 < 64) (by decide : 2 ≤ 2))

/-- Outside TRAIN and UP the lane alone loses its alignment. -/
theorem State.alignLost_of_other (htrain : s.trState (s.lanePort l) ≠ Tr.TRAIN) (hup : s.trState (s.lanePort l) ≠ Tr.UP) :
    s.alignLost l = s.unlocked l := by
  unfold State.alignLost
  dsimp only
  rw [if_neg htrain, if_neg hup]
  rfl

/-- Lane `l` has counted and flagged a bad marker. -/
def State.markerMissed (s : State) (l : Nat) : State := (s.count (Reg.LN_CNT l 3)).flag (F.LN_FLAGS.MRK_ERR l)

theorem Keeps.markerMissed (s : State) (l : Nat) : Keeps [Reg.LN_CNT l 3, Reg.LN_FLAGS l] [.lines] s (s.markerMissed l) :=
  (Keeps.count s _ (by simp)).trans (Keeps.flag _ _ (F.LN_FLAGS.MRK_ERR l) (by simp [F.LN_FLAGS.MRK_ERR]))

theorem State.rd_markerMissed (s : State) (l : Nat) : (s.markerMissed l).rd (Reg.LN_CNT l 3) = s.rd (Reg.LN_CNT l 3) + 1 :=
  (State.rd_flag_ne _ (F.LN_FLAGS.MRK_ERR l) (Reg.lnCnt_ne_lnFlags l 3 l)).trans (s.rd_count_self _)

theorem State.alignedMarker_of_fourthBad (ts : LineStamp) (hbad : mkGood m = false) (h : 3 ≤ (s.rx l).bad)
    (htrain : s.trState (s.lanePort l) ≠ Tr.TRAIN) (hup : s.trState (s.lanePort l) ≠ Tr.UP) :
    s.alignedMarker l m ts = (s.markerMissed l).unlocked l := by
  have hport : (s.markerMissed l).lanePort l = s.lanePort l := State.fld_of_rd (F.LN_CFG.PORT l) ((Keeps.markerMissed s l).1 _ (by
    simp only [F.LN_CFG.PORT, Reg.LN_CFG, Reg.LN_CNT, Reg.LN_FLAGS, List.mem_pair]
    omega))
  have hstate : ∀ p, (s.markerMissed l).trState p = s.trState p := fun p => State.fld_of_rd (F.LN_TRUNK_STATUS.STATE p)
    ((Keeps.markerMissed s l).1 _ (by
      simp only [F.LN_TRUNK_STATUS.STATE, Reg.LN_TRUNK_STATUS, Reg.LN_CNT, Reg.LN_FLAGS, List.mem_pair]
      omega))
  rw [← State.alignLost_of_other (by rwa [hport, hstate]) (by rwa [hport, hstate])]
  exact (if_neg (Bool.eq_false_iff.mp hbad)).trans (if_pos h)

/-- What a lane that has missed its fourth marker shows, and what it keeps. -/
theorem State.unlocked_markerMissed_shows (s : State) (l : Nat) :
    ((s.markerMissed l).unlocked l).rd (Reg.LN_CNT l 2) = s.rd (Reg.LN_CNT l 2) + 1 ∧
      ((s.markerMissed l).unlocked l).rd (Reg.LN_CNT l 3) = s.rd (Reg.LN_CNT l 3) + 1 ∧
      ((s.markerMissed l).unlocked l).rd (Reg.LN_CNT l 5) = s.rd (Reg.LN_CNT l 5) := by
  have hlost : ∀ n < 16, n ≠ 2 → ((s.markerMissed l).unlocked l).rd (Reg.LN_CNT l n) = (s.markerMissed l).rd (Reg.LN_CNT l n) := fun n hn h2 =>
    (Keeps.unlocked (s.markerMissed l) l).1 _ (by
      simp only [Reg.LN_CNT, Reg.LN_FLAGS, Reg.LN_STATUS, List.mem_cons, List.not_mem_nil, or_false]
      omega)
  have hmissed : ∀ n < 16, n ≠ 3 → (s.markerMissed l).rd (Reg.LN_CNT l n) = s.rd (Reg.LN_CNT l n) := fun n hn h3 =>
    (Keeps.markerMissed s l).1 _ (by
      simp only [Reg.LN_CNT, Reg.LN_FLAGS, List.mem_pair]
      omega)
  obtain ⟨-, -, hcount, -⟩ := (s.markerMissed l).unlocked_shows l
  refine ⟨?_, ?_, ?_⟩
  · rw [hcount, hmissed 2 (by decide) (by decide)]
  · rw [hlost 3 (by decide) (by decide), s.rd_markerMissed]
  · rw [hlost 5 (by decide) (by decide), hmissed 5 (by decide) (by decide)]

theorem Keeps.unlocked_markerMissed (s : State) (l : Nat) :
    Keeps [Reg.LN_CNT l 2, Reg.LN_CNT l 3, Reg.LN_CNT l 5, Reg.LN_FLAGS l, Reg.LN_STATUS l] [.lines] s ((s.markerMissed l).unlocked l) :=
  ((Keeps.markerMissed s l).mono (by simp) (by simp)).trans ((Keeps.unlocked _ l).mono (by simp) (by simp))

end

/-! ## Pointers and units -/

section
variable {s : State} {l v : Nat}

/-- A valid pointer gives the position of a lane that has none. -/
theorem State.pointer_of_lost (hok : ptrOk v = true) (hpos : (s.rx l).pos = none) :
    s.pointer l v = s.setRx l ((s.rx l).resume (if v % 2 ^ 10 = 0x3FF then none else some (v % 2 ^ 10 - 2))) := by
  unfold State.pointer
  rw [if_neg (by simp [hok]), hpos]
  rfl

theorem State.pointer_of_bad (hbad : ptrOk v = false) :
    s.pointer l v = ((s.setRx l { s.rx l with pos := (s.rx l).pos.map (· - 510) }).count (Reg.LN_CNT l 7)).flag (F.LN_FLAGS.UNIT_ERR l) :=
  if_pos (by simp [hbad])

/-- A lane's error counter `n` with its flag: what it shows, and what it keeps. -/
theorem State.unitErr_shows (s : State) (l n : Nat) :
    ((s.count (Reg.LN_CNT l n)).flag (F.LN_FLAGS.UNIT_ERR l)).rd (Reg.LN_CNT l n) = s.rd (Reg.LN_CNT l n) + 1 ∧
      ((s.count (Reg.LN_CNT l n)).flag (F.LN_FLAGS.UNIT_ERR l)).fld (F.LN_FLAGS.UNIT_ERR l) = 1 :=
  ⟨(State.rd_flag_ne _ (F.LN_FLAGS.UNIT_ERR l) (Reg.lnCnt_ne_lnFlags l n l)).trans (s.rd_count_self _),
    State.fld_flag_self _ (F.LN_FLAGS.UNIT_ERR l) (by decide : 5 < 64) (by decide : 5 ≤ 5)⟩

theorem Keeps.unitErr (s : State) (l n : Nat) :
    Keeps [Reg.LN_CNT l n, Reg.LN_FLAGS l] [.lines] s ((s.count (Reg.LN_CNT l n)).flag (F.LN_FLAGS.UNIT_ERR l)) :=
  (Keeps.count s _ (by simp)).trans (Keeps.flag _ _ (F.LN_FLAGS.UNIT_ERR l) (by simp [F.LN_FLAGS.UNIT_ERR]))

theorem two_le_of_ptrOk (hok : ptrOk v = true) : 2 ≤ v % 2 ^ 10 := by
  simp only [ptrOk, Bool.and_eq_true, Bool.or_eq_true, decide_eq_true_eq, beq_iff_eq] at hok
  omega

/-- Lane `l`, `x` unit bytes after its reference, has moved past the unit with header `h`. -/
def State.unitPassed (s : State) (l : Nat) (x : Int) (h : Nat) : State :=
  s.setRx l { s.rx l with pos := some (x + 4 + (unitLen h : Int)), buf := (s.rx l).buf.drop (32 + 8 * unitLen h) }

/-- The unit in progress, with a right header, complete, and no padding is a frame. -/
theorem State.unit_of_whole {x : Int} {h : Nat} (ts : LineStamp) (slots : Nat) (hpos : (s.rx l).pos = some x) (hhdr : 32 ≤ (s.rx l).buf.length)
    (hh : ofBits ((s.rx l).buf.take 32) = h) (hok : unitOk h = true) (hall : 32 + 8 * unitLen h ≤ (s.rx l).buf.length) :
    s.unit l ts slots =
      if unitKind h = 0 then s.unitPassed l x h
      else if s.laneMode l = 6 then
        (s.unitPassed l x h).reorder (s.lanePort l) (unitSeq h) (bitBytes (unitLen h) ((s.rx l).buf.drop 32)) (s.rxStamp l ts) slots
      else (s.unitPassed l x h).ingress (s.lanePort l) (bitBytes (unitLen h) ((s.rx l).buf.drop 32)) (s.rxStamp l ts) slots := by
  subst hh
  unfold State.unit
  dsimp only
  rw [hpos]
  dsimp only
  rw [if_neg (Nat.not_lt.mpr hhdr), if_pos hok, if_neg (Nat.not_lt.mpr hall)]
  rfl

theorem State.unit_of_bad {x : Int} {h : Nat} (ts : LineStamp) (slots : Nat) (hpos : (s.rx l).pos = some x) (hhdr : 32 ≤ (s.rx l).buf.length)
    (hh : ofBits ((s.rx l).buf.take 32) = h) (hbad : unitOk h = false) :
    s.unit l ts slots =
      ((s.setRx l { s.rx l with pos := none, buf := [], drop := 0 }).count (Reg.LN_CNT l 6)).flag (F.LN_FLAGS.UNIT_ERR l) := by
  subst hh
  unfold State.unit
  dsimp only
  rw [hpos]
  dsimp only
  rw [if_neg (Nat.not_lt.mpr hhdr), if_neg (Bool.eq_false_iff.mp hbad)]

end

/-! ## The commands -/

section
variable {s : State} {l : Nat} (hl : l < 192)
include hl

theorem exec_markerReceived_of_taken (pre m : List Bool) (ts : LineStamp) (h : s.takesMarkers l = true) :
    exec (.markerReceived l pre m ts) s = .next (s.markerLine l pre m ts) :=
  (if_neg (Nat.not_le.mpr hl)).trans (if_pos h)

theorem exec_pointerReceived_of_taken (pre ptr : List Bool) (h : s.takesMarkers l = true) :
    exec (.pointerReceived l pre ptr) s = .next (s.pointerLine l pre ptr) :=
  (if_neg (Nat.not_le.mpr hl)).trans (if_pos h)

theorem exec_trunkUnitReceived_of_delivers (hdr body : List Bool) (ts : LineStamp) (slots : Nat) (h : s.delivers l = true) :
    exec (.trunkUnitReceived l hdr body ts slots) s = .next ((s.lineTaken l (hdr ++ body)).unit l ts slots) :=
  (if_neg (Nat.not_le.mpr hl)).trans ((if_pos (State.takesMarkers_of_delivers h)).trans (congrArg _ (if_pos h)))

end

end Sys2Proof.Machine
end

section
/-! What markers, pointers and units leave behind (O19): the clauses but the last. -/

namespace Sys2Proof.Machine

section
variable {s : State} {l w : Nat} {pre m : List Bool} (ts : LineStamp) (hl : l < 192) (htakes : s.takesMarkers l = true)
    (hw : ofBits ((s.lineIn l pre).1.lineIn l m).2 = w)
include hl htakes hw

/-- The fourth good marker in succession gives alignment. -/
theorem execMarkerReceived_aligns (hlock : s.fld (F.LN_STATUS.LOCK l) = 0) (hgood : mkGood w = true) (hfourth : 3 ≤ (s.rx l).good) :
    NextWith (exec (.markerReceived l pre m ts) s) fun t =>
      t.fld (F.LN_STATUS.LOCK l) = 1 ∧ (t.rx l).seq = some (mkSeq w) ∧ (t.rx l).rxa = mkRxa w ∧ (t.rx l).pos = none ∧
      (t.rx l).skip = true ∧
      t.rd (Reg.LN_CNT l 5) = s.rd (Reg.LN_CNT l 5) + BitVec.ofNat 64 (s.unstuffed l (pre ++ m)).2.2 ∧
      KeepsIn [RegSet.one (Reg.LN_STATUS l), RegSet.one (Reg.LN_CNT l 5), RegSet.one (Reg.LN_FLAGS l)] [.lines] s t := by
  obtain ⟨k, hk, htook, hstill⟩ := s.markerLine_shows l pre m ts
  have hcount : (k.rx l).good = (s.rx l).good := (congrArg TrRx.good hstill :)
  have htook' := htook.setRx_right ((k.rx l).note w)
  rw [hw, State.marker_of_seeking ts (htook.lock.trans hlock), TrRx.note_of_good _ hgood] at hk
  rw [TrRx.note_of_good _ hgood] at htook'
  generalize hu : k.setRx l { k.rx l with rxa := mkRxa w, msg := _ } = u at hk htook'
  have hrx : u.rx l = _ := hu ▸ State.rx_setRx_self ..
  rw [State.seekMarker_of_fourth hgood (by rw [hrx]; exact hfourth.trans_eq hcount.symm)] at hk
  have hfinal := htook'.setRx_right { u.rx l with good := 0, bad := 0, seq := some (mkSeq w), skip := true, pos := none, buf := [], drop := 0 }
  refine ⟨_, (exec_markerReceived_of_taken hl pre m ts htakes).trans (congrArg _ hk),
    State.fld_setFld_self _ (F.LN_STATUS.LOCK l) 1 (by decide : 2 < 64) (by decide : 2 ≤ 2), ?_, ?_, ?_, ?_, ?_, ?_⟩
  · rw [State.rx_setFld, State.rx_setRx_self]
  · rw [State.rx_setFld, State.rx_setRx_self, hrx]
  · rw [State.rx_setFld, State.rx_setRx_self]
  · rw [State.rx_setFld, State.rx_setRx_self]
  · refine (State.rd_setFld_ne _ (F.LN_STATUS.LOCK l) 1 ?_).trans hfinal.counted
    unfold F.LN_STATUS.LOCK Reg.LN_CNT Reg.LN_STATUS
    dsimp only
    omega
  · exact ((hfinal.kept.mono (by simp) (by simp)).trans (Keeps.setFld _ _ (F.LN_STATUS.LOCK l) 1 (by simp [F.LN_STATUS.LOCK]))).keepsIn
      (own := [Reg.LN_STATUS l, Reg.LN_CNT l 5, Reg.LN_FLAGS l])

/-- A bad marker ends the succession of a lane that seeks alignment. -/
theorem execMarkerReceived_seeksOn (hlock : s.fld (F.LN_STATUS.LOCK l) = 0) (hbad : mkGood w = false) :
    NextWith (exec (.markerReceived l pre m ts) s) fun t =>
      (t.rx l).good = 0 ∧ (t.rx l).msg.2.2 = 0 ∧
      t.rd (Reg.LN_CNT l 5) = s.rd (Reg.LN_CNT l 5) + BitVec.ofNat 64 (s.unstuffed l (pre ++ m)).2.2 ∧
      ((s.unstuffed l (pre ++ m)).2.2 ≠ 0 → t.fld (F.LN_FLAGS.STUFF_ERR l) = 1) ∧
      KeepsIn [RegSet.one (Reg.LN_CNT l 5), RegSet.one (Reg.LN_FLAGS l)] [.lines] s t := by
  obtain ⟨k, hk, htook, -⟩ := s.markerLine_shows l pre m ts
  rw [hw, State.marker_of_seeking ts (htook.lock.trans hlock), State.seekMarker_of_bad hbad, State.rx_setRx_self, TrRx.note_of_bad _ hbad] at hk
  have hfinal := (htook.setRx_right ((k.rx l).note w)).setRx_right { (k.rx l).note w with good := 0 }
  rw [TrRx.note_of_bad _ hbad] at hfinal
  refine ⟨_, (exec_markerReceived_of_taken hl pre m ts htakes).trans (congrArg _ hk), ?_, ?_, hfinal.counted, fun hn => hfinal.flagged (.inl hn),
    hfinal.keepsIn⟩
  · rw [State.rx_setRx_self]
  · rw [State.rx_setRx_self]

/-- An aligned lane follows SEQ, and repeats of a message count up to three. -/
theorem execMarkerReceived_follows (hlock : s.fld (F.LN_STATUS.LOCK l) = 1) (hgood : mkGood w = true) (htype : mkType w ≠ Mt.DATA)
    (hseq : ∀ q, (s.rx l).seq = some q → mkSeq w = (q + 1) % 256) :
    NextWith (exec (.markerReceived l pre m ts) s) fun t =>
      (t.rx l).bad = 0 ∧ (t.rx l).seq = some (mkSeq w) ∧
      (t.rx l).msg = (mkType w, mkArg w, if (s.rx l).msg.1 = mkType w ∧ (s.rx l).msg.2.1 = mkArg w then min 3 ((s.rx l).msg.2.2 + 1) else 1) ∧
      (t.rx l).pos = (s.rx l).pos ∧
      t.rd (Reg.LN_CNT l 5) = s.rd (Reg.LN_CNT l 5) + BitVec.ofNat 64 (s.unstuffed l (pre ++ m)).2.2 ∧
      ((s.unstuffed l (pre ++ m)).2.2 ≠ 0 → t.fld (F.LN_FLAGS.STUFF_ERR l) = 1) ∧
      KeepsIn [RegSet.one (Reg.LN_CNT l 5), RegSet.one (Reg.LN_FLAGS l)] [.lines] s t := by
  obtain ⟨k, hk, htook, hstill⟩ := s.markerLine_shows l pre m ts
  have hseq' : (k.rx l).seq = (s.rx l).seq := (congrArg TrRx.seq hstill :)
  have hmsg : (k.rx l).msg = (s.rx l).msg := (congrArg TrRx.msg hstill :)
  have hpos : (k.rx l).pos = (s.rx l).pos := (congrArg TrRx.pos hstill :)
  rw [hw, State.marker_of_aligned ts (htook.lock.trans hlock)] at hk
  have htook' := htook.setRx_right ((k.rx l).note w)
  rw [TrRx.note_of_good _ hgood] at hk htook'
  generalize hu : k.setRx l { k.rx l with rxa := mkRxa w, msg := _ } = u at hk htook'
  have hrx : u.rx l = _ := hu ▸ State.rx_setRx_self ..
  rw [State.alignedMarker_of_next ts hgood htype (fun q hq => hseq q (by rw [← hq, hrx, ← hseq']))] at hk
  have hfinal := htook'.setRx_right { u.rx l with bad := 0, seq := some (mkSeq w), skip := false }
  refine ⟨_, (exec_markerReceived_of_taken hl pre m ts htakes).trans (congrArg _ hk), ?_, ?_, ?_, ?_, hfinal.counted,
    fun hn => hfinal.flagged (.inl hn), hfinal.keepsIn⟩
  · rw [State.rx_setRx_self]
  · rw [State.rx_setRx_self]
  · rw [State.rx_setRx_self, hrx, ← hmsg]
  · rw [State.rx_setRx_self, hrx, ← hpos]

/-- The fourth bad marker in succession ends the alignment. -/
theorem execMarkerReceived_unlocks (hlock : s.fld (F.LN_STATUS.LOCK l) = 1) (hbad : mkGood w = false) (hfourth : 3 ≤ (s.rx l).bad)
    (htrain : s.trState (s.lanePort l) ≠ Tr.TRAIN) (hup : s.trState (s.lanePort l) ≠ Tr.UP) :
    NextWith (exec (.markerReceived l pre m ts) s) fun t =>
      t.fld (F.LN_STATUS.LOCK l) = 0 ∧ t.rx l = TrRx.fresh ∧ t.rd (Reg.LN_CNT l 2) = s.rd (Reg.LN_CNT l 2) + 1 ∧
      t.rd (Reg.LN_CNT l 3) = s.rd (Reg.LN_CNT l 3) + 1 ∧ t.fld (F.LN_FLAGS.LOCK_LOST l) = 1 ∧
      t.rd (Reg.LN_CNT l 5) = s.rd (Reg.LN_CNT l 5) + BitVec.ofNat 64 (s.unstuffed l (pre ++ m)).2.2 ∧
      KeepsIn [RegSet.one (Reg.LN_CNT l 2), RegSet.one (Reg.LN_CNT l 3), RegSet.one (Reg.LN_CNT l 5), RegSet.one (Reg.LN_FLAGS l),
        RegSet.one (Reg.LN_STATUS l)] [.lines] s t := by
  obtain ⟨k, hk, htook, hstill⟩ := s.markerLine_shows l pre m ts
  have hbads : (k.rx l).bad = (s.rx l).bad := (congrArg TrRx.bad hstill :)
  have htook' := htook.setRx_right ((k.rx l).note w)
  rw [hw, State.marker_of_aligned ts (htook.lock.trans hlock)] at hk
  rw [TrRx.note_of_bad _ hbad] at hk htook'
  generalize hu : k.setRx l { k.rx l with msg := _ } = u at hk htook'
  have hrx : u.rx l = _ := hu ▸ State.rx_setRx_self ..
  rw [State.alignedMarker_of_fourthBad ts hbad (by rw [hrx]; exact hfourth.trans_eq hbads.symm) (by rwa [htook'.lanePort, htook'.trState])
    (by rwa [htook'.lanePort, htook'.trState])] at hk
  obtain ⟨hnolock, hfresh, -, hflag⟩ := (u.markerMissed l).unlocked_shows l
  obtain ⟨hlost, hmissed, hviolations⟩ := u.unlocked_markerMissed_shows l
  have hold : ∀ n < 16, n ≠ 5 → u.rd (Reg.LN_CNT l n) = s.rd (Reg.LN_CNT l n) := fun n hn h5 =>
    htook'.rd (by unfold Reg.LN_CNT; omega) (by unfold Reg.LN_CNT; omega)
  refine ⟨_, (exec_markerReceived_of_taken hl pre m ts htakes).trans (congrArg _ hk), hnolock, hfresh, ?_, ?_, hflag, ?_, ?_⟩
  · rw [hlost, hold 2 (by decide) (by decide)]
  · rw [hmissed, hold 3 (by decide) (by decide)]
  · rw [hviolations, htook'.counted]
  · exact ((htook'.kept.mono (by simp) (by simp)).trans (Keeps.unlocked_markerMissed u l)).keepsIn
      (own := [Reg.LN_CNT l 2, Reg.LN_CNT l 3, Reg.LN_CNT l 5, Reg.LN_FLAGS l, Reg.LN_STATUS l])

end

/-! ## Pointers -/

section
variable {s : State} {l v : Nat} {pre ptr : List Bool} (hl : l < 192) (hdel : s.delivers l = true)
    (hv : ofBits (descramble ((s.lineTaken l pre).rx l).scr ((s.lineTaken l pre).lineIn l ptr).2).2 = v)
include hl hdel hv

theorem execPointerReceived_resumes (hok : ptrOk v = true) (hpos : (s.rx l).pos = none) :
    NextWith (exec (.pointerReceived l pre ptr) s) fun t =>
      (t.rx l).pos = (if v % 2 ^ 10 = 0x3FF then none else some ((v % 2 ^ 10 : Nat) - 2 : Int)) ∧
      t.rd (Reg.LN_CNT l 5) = s.rd (Reg.LN_CNT l 5) + BitVec.ofNat 64 (s.unstuffed l (pre ++ ptr)).2.2 ∧
      KeepsIn [RegSet.one (Reg.LN_CNT l 5), RegSet.one (Reg.LN_FLAGS l)] [.lines] s t := by
  obtain ⟨k, hk, htook, hstill⟩ := s.pointerLine_shows l pre ptr hdel
  have hpos' : (k.rx l).pos = none := (congrArg TrRx.pos hstill :).trans hpos
  rw [hv, State.pointer_of_lost hok hpos'] at hk
  have hfinal := htook.setRx_right ((k.rx l).resume (if v % 2 ^ 10 = 0x3FF then none else some (v % 2 ^ 10 - 2)))
  refine ⟨_, (exec_pointerReceived_of_taken hl pre ptr (State.takesMarkers_of_delivers hdel)).trans (congrArg _ hk), ?_, hfinal.counted,
    hfinal.keepsIn⟩
  rw [State.rx_setRx_self]
  have hlow := two_le_of_ptrOk hok
  unfold TrRx.resume
  split
  · rfl
  · exact congrArg some (show ((v % 2 ^ 10 - 2 : Nat) : Int) = _ by omega)

theorem execPointerReceived_errs (hbad : ptrOk v = false) :
    NextWith (exec (.pointerReceived l pre ptr) s) fun t =>
      (t.rx l).pos = (s.rx l).pos.map (· - 510) ∧ t.rd (Reg.LN_CNT l 7) = s.rd (Reg.LN_CNT l 7) + 1 ∧
      t.fld (F.LN_FLAGS.UNIT_ERR l) = 1 ∧
      KeepsIn [RegSet.one (Reg.LN_CNT l 5), RegSet.one (Reg.LN_CNT l 7), RegSet.one (Reg.LN_FLAGS l)] [.lines] s t := by
  obtain ⟨k, hk, htook, hstill⟩ := s.pointerLine_shows l pre ptr hdel
  have hpos : (k.rx l).pos = (s.rx l).pos := (congrArg TrRx.pos hstill :)
  rw [hv, State.pointer_of_bad hbad] at hk
  have htook' := htook.setRx_right { k.rx l with pos := (k.rx l).pos.map (· - 510) }
  have hrx : (k.setRx l { k.rx l with pos := (k.rx l).pos.map (· - 510) }).rx l = _ := State.rx_setRx_self ..
  generalize k.setRx l { k.rx l with pos := (k.rx l).pos.map (· - 510) } = u at hk htook' hrx
  obtain ⟨hcount, hflag⟩ := u.unitErr_shows l 7
  refine ⟨_, (exec_pointerReceived_of_taken hl pre ptr (State.takesMarkers_of_delivers hdel)).trans (congrArg _ hk), ?_, ?_, hflag, ?_⟩
  · exact (congrArg TrRx.pos hrx).trans (congrArg (Option.map (· - 510)) hpos)
  · rw [hcount, htook'.rd (by unfold Reg.LN_CNT; omega) (by unfold Reg.LN_CNT; omega)]
  · exact ((htook'.kept.mono (by simp) (by simp)).trans ((Keeps.unitErr u l 7).mono (by simp) (by simp))).keepsIn
      (own := [Reg.LN_CNT l 5, Reg.LN_CNT l 7, Reg.LN_FLAGS l])

end

/-! ## Units -/

section
variable {s : State} {l h : Nat} {hdr body : List Bool} {x : Int} (ts : LineStamp) (slots : Nat) (hl : l < 192) (hdel : s.delivers l = true)
    (hpos : (s.rx l).pos = some x) (hlong : 32 ≤ ((s.lineTaken l (hdr ++ body)).rx l).buf.length)
    (hh : ofBits (((s.lineTaken l (hdr ++ body)).rx l).buf.take 32) = h)
include hl hdel hpos hlong hh

theorem execTrunkUnitReceived_errs (hbad : unitOk h = false) :
    NextWith (exec (.trunkUnitReceived l hdr body ts slots) s) fun t =>
      (t.rx l).pos = none ∧ t.rd (Reg.LN_CNT l 6) = s.rd (Reg.LN_CNT l 6) + 1 ∧ t.fld (F.LN_FLAGS.UNIT_ERR l) = 1 ∧
      t.rd (Reg.LN_CNT l 5) = s.rd (Reg.LN_CNT l 5) + BitVec.ofNat 64 (s.unstuffed l (hdr ++ body)).2.2 ∧
      KeepsIn [RegSet.one (Reg.LN_CNT l 5), RegSet.one (Reg.LN_CNT l 6), RegSet.one (Reg.LN_FLAGS l)] [.lines] s t := by
  have htook := s.took_lineTaken l (hdr ++ body)
  have hpos' : ((s.lineTaken l (hdr ++ body)).rx l).pos = some x := (congrArg TrRx.pos (s.still_lineTaken l (hdr ++ body)) :).trans hpos
  have hexec := exec_trunkUnitReceived_of_delivers hl hdr body ts slots hdel
  rw [State.unit_of_bad ts slots hpos' hlong hh hbad] at hexec
  generalize s.lineTaken l (hdr ++ body) = k at hexec htook
  have htook' := htook.setRx_right { k.rx l with pos := none, buf := [], drop := 0 }
  have hrx : (k.setRx l { k.rx l with pos := none, buf := [], drop := 0 }).rx l = _ := State.rx_setRx_self ..
  generalize k.setRx l { k.rx l with pos := none, buf := [], drop := 0 } = u at hexec htook' hrx
  obtain ⟨hcount, hflag⟩ := u.unitErr_shows l 6
  have hkeep := Keeps.unitErr u l 6
  refine ⟨_, hexec, congrArg TrRx.pos hrx, ?_, hflag, ?_, ?_⟩
  · rw [hcount, htook'.rd (by unfold Reg.LN_CNT; omega) (by unfold Reg.LN_CNT; omega)]
  · refine (hkeep.1 _ ?_).trans htook'.counted
    simp only [Reg.LN_CNT, Reg.LN_FLAGS, List.mem_pair]
    omega
  · exact ((htook'.kept.mono (by simp) (by simp)).trans (hkeep.mono (by simp) (by simp))).keepsIn
      (own := [Reg.LN_CNT l 5, Reg.LN_CNT l 6, Reg.LN_FLAGS l])

/-- A whole unit is passed: padding ends there, and a frame goes to the reorder stage of a four-lane trunk, or to the parser. -/
theorem exec_trunkUnitReceived_of_whole (hok : unitOk h = true) (hall : 32 + 8 * unitLen h ≤ ((s.lineTaken l (hdr ++ body)).rx l).buf.length) :
    exec (.trunkUnitReceived l hdr body ts slots) s = .next
      (if unitKind h = 0 then (s.lineTaken l (hdr ++ body)).unitPassed l x h
      else if s.laneMode l = 6 then
        ((s.lineTaken l (hdr ++ body)).unitPassed l x h).reorder (s.lanePort l) (unitSeq h)
          (bitBytes (unitLen h) (((s.lineTaken l (hdr ++ body)).rx l).buf.drop 32)) ((s.lineTaken l (hdr ++ body)).rxStamp l ts) slots
      else ((s.lineTaken l (hdr ++ body)).unitPassed l x h).ingress (s.lanePort l)
        (bitBytes (unitLen h) (((s.lineTaken l (hdr ++ body)).rx l).buf.drop 32)) ((s.lineTaken l (hdr ++ body)).rxStamp l ts) slots) := by
  have htook := s.took_lineTaken l (hdr ++ body)
  have hpos' : ((s.lineTaken l (hdr ++ body)).rx l).pos = some x := (congrArg TrRx.pos (s.still_lineTaken l (hdr ++ body)) :).trans hpos
  rw [exec_trunkUnitReceived_of_delivers hl hdr body ts slots hdel, State.unit_of_whole ts slots hpos' hlong hh hok hall, htook.laneMode,
    htook.lanePort]

theorem execTrunkUnitReceived_pads (hok : unitOk h = true) (hkind : unitKind h = 0)
    (hall : 32 + 8 * unitLen h ≤ ((s.lineTaken l (hdr ++ body)).rx l).buf.length) :
    NextWith (exec (.trunkUnitReceived l hdr body ts slots) s) fun t =>
      (t.rx l).pos = some (x + 4 + (unitLen h : Int)) ∧
      (t.rx l).buf = ((s.lineTaken l (hdr ++ body)).rx l).buf.drop (32 + 8 * unitLen h) ∧
      t.rd (Reg.LN_CNT l 5) = s.rd (Reg.LN_CNT l 5) + BitVec.ofNat 64 (s.unstuffed l (hdr ++ body)).2.2 ∧
      KeepsIn [RegSet.one (Reg.LN_CNT l 5), RegSet.one (Reg.LN_FLAGS l)] [.lines] s t := by
  have hexec := exec_trunkUnitReceived_of_whole ts slots hl hdel hpos hlong hh hok hall
  rw [if_pos hkind] at hexec
  have hpassed : State.Took l (s.unstuffed l (hdr ++ body)).2.2 s ((s.lineTaken l (hdr ++ body)).unitPassed l x h) :=
    (s.took_lineTaken l (hdr ++ body)).setRx_right _
  have hrx : ((s.lineTaken l (hdr ++ body)).unitPassed l x h).rx l = _ := State.rx_setRx_self ..
  exact ⟨_, hexec, congrArg TrRx.pos hrx, congrArg TrRx.buf hrx, hpassed.counted, hpassed.keepsIn⟩

end

end Sys2Proof.Machine
end

section
/-! Frames that wait for reorder (O19): a frame that is delivered leaves the reorder stages of all trunks as they are. -/

namespace Sys2Proof.Machine

/-! ## What a delivered frame keeps -/

/-- From `s` to `t` the frames that wait for reorder and the number of the next stay, for every trunk. -/
def ReorderKept (s t : State) : Prop := ∀ q, (t.trunk q).waiting = (s.trunk q).waiting ∧ (t.trunk q).useqRx = (s.trunk q).useqRx

namespace ReorderKept

theorem refl (s : State) : ReorderKept s s := fun _ => ⟨rfl, rfl⟩

theorem trans {s t u : State} (h : ReorderKept s t) (h' : ReorderKept t u) : ReorderKept s u := fun q =>
  ⟨(h' q).1.trans (h q).1, (h' q).2.trans (h q).2⟩

theorem of_trunk {s t : State} (h : ∀ q, t.trunk q = s.trunk q) : ReorderKept s t := fun q => ⟨by rw [h q], by rw [h q]⟩

theorem of_law {W P : Nat} {s t : State} (h : Law W P s t) (hP : P.testBit (parts.idxOf Part.lines) = false) : ReorderKept s t :=
  of_trunk (State.trunk_of_lines (h.part_off (p := .lines) hP))

theorem ite {s t u : State} {c : Prop} [Decidable c] (h1 : c → ReorderKept s t) (h2 : ¬ c → ReorderKept s u) : ReorderKept s (if c then t else u) := by
  split
  next h => exact h1 h
  next h => exact h2 h

end ReorderKept

/-! ## A trunk that wakes -/

@[simp] theorem State.trunk_lineOut (s : State) (l : Nat) (bits : List Bool) (q : Nat) : (s.lineOut l bits).trunk q = s.trunk q := rfl

@[simp] theorem State.trunk_setTx (s : State) (l : Nat) (x : TrTx) (q : Nat) : (s.setTx l x).trunk q = s.trunk q := rfl

theorem State.trunk_txBurst (s : State) (p q : Nat) : (s.txBurst p).trunk q = s.trunk q := by
  unfold State.txBurst
  exact State.eachLane_keeps (State.trunk · q) (fun t l => by simp) s p

theorem State.trunkWake_reorderKept (s : State) (p : Nat) : ReorderKept s (s.trunkWake p) := by
  refine .ite (fun _ q => ?_) (fun _ => .refl s)
  rw [State.trunk_txBurst]
  by_cases hq : q = p
  · subst hq
    rw [State.trunk_setTrunk_self]
    exact ⟨rfl, rfl⟩
  · rw [State.trunk_setTrunk_ne _ _ hq]
    exact ⟨rfl, rfl⟩

theorem State.ttQueue_reorderKept (s : State) (p : Nat) (o : TtOut) : ReorderKept s (s.ttQueue p o) :=
  ReorderKept.trans (.of_trunk (t := s.setTt p _) fun _ => rfl) (State.trunkWake_reorderKept _ p)

theorem State.ttAnswerDelay_reorderKept (s : State) (p : Nat) (m : PtpMsg) (t4 : Time16) : ReorderKept s (s.ttAnswerDelay p m t4) :=
  .ite (fun _ => s.ttQueue_reorderKept p _) (fun _ => .refl s)

theorem State.ttAnswerPdelay_reorderKept (s : State) (p : Nat) (m : PtpMsg) (t2 : Time16) : ReorderKept s (s.ttAnswerPdelay p m t2) :=
  .ite (fun _ => s.ttQueue_reorderKept p _) (fun _ => .refl s)

/-! ## Messages and frames -/

/-- The parts that a received frame may change, but for the lines. -/
def offLines : Nat := 0x1ecf9c

/-- Only an answer, which may wake a trunk, changes the lines. -/
theorem State.ttMessage_reorderKept (s : State) (p : Nat) (m : PtpMsg) (t : Time16) : ReorderKept s (s.ttMessage p m t) := by
  have hself := Law.refl (maskOf lateFamilies) offLines s
  have hhost : ReorderKept s (s.ttToHost p m.frame t) := .of_law (State.ttToHost_law hself p _ t (by decide +kernel) (by decide)) (by decide)
  refine .ite (fun _ => .of_trunk fun _ => rfl) fun _ => ?_
  refine .ite (fun _ => .of_law (State.ttSync_law hself p m t (by decide +kernel) (by decide)) (by decide)) fun _ => ?_
  refine .ite (fun _ => .of_law (State.ttFollowUp_law hself p m (by decide +kernel) (by decide)) (by decide)) fun _ => ?_
  refine .ite (fun _ => s.ttAnswerDelay_reorderKept p m t) fun _ => .ite (fun _ => s.ttAnswerPdelay_reorderKept p m t) fun _ => ?_
  refine .ite (fun _ => ?_) fun _ => .ite (fun _ => ?_) fun _ => .ite (fun _ => ?_) fun _ => hhost
  · split
    · exact .of_law (State.ttPdelayResp_law hself p m _ t (by decide +kernel) (by decide)) (by decide)
    · exact .refl s
  · split
    · exact .of_law (State.ttPdelayFu_law hself p m _ _ _ (by decide +kernel) (by decide)) (by decide)
    · exact .refl s
  · split
    · exact .of_law (State.ttDelayResp_law hself p m _ _ _ (by decide +kernel) (by decide)) (by decide)
    · exact hhost

theorem State.ingressEnd_reorderKept (s : State) (p : Nat) (bs : List Byte) (q : Parsed) (d : Decision) (stamp : Time16) (slots : Nat) (hs : List Nat) :
    ReorderKept s (s.ingressEnd p bs q d stamp slots hs) := by
  unfold State.ingressEnd
  extract_lets i s1
  have hesmc : Law (maskOf lateFamilies) offLines s s1 := by
    dsimp only [s1]
    split
    · exact State.esmcPdu_law (Law.refl _ _ s) p _ (by decide +kernel) (by decide)
    · exact Law.refl _ _ s
  have hcut : Law (maskOf lateFamilies) offLines s (s1.cutFrame i hs) := State.cutFrame_law hesmc i hs (by decide +kernel) (by decide)
  split
  · exact ReorderKept.trans (.of_law hcut (by decide)) (State.ttMessage_reorderKept _ p _ stamp)
  · refine .ite (fun _ => .of_law (State.ttToHost_law hcut p bs stamp (by decide +kernel) (by decide)) (by decide)) fun _ => ?_
    exact .of_law (State.goodFrame_law hesmc p bs q d stamp slots hs (by decide +kernel) (by decide)) (by decide)

/-- The families that a received frame changes. -/
def ingressFamilies : List Nat := [157, 158, 199, 200, 201] ++ earlyFamilies ++ lateFamilies

theorem State.ingress_reorderKept (s : State) (p : Nat) (bs : List Byte) (stamp : Time16) (slots : Nat) :
    ReorderKept s (s.ingress p bs stamp slots) := by
  have hcounted : ∀ {t : State} {c : Prop} [Decidable c] (i : Nat) (q : Parsed), Law (maskOf ingressFamilies) offLines s t →
      Law (maskOf ingressFamilies) offLines s ((if c then t.lookups i p q else t).macCount p bs) := fun i q ht =>
    State.macCount_law (.ite (fun _ => State.lookups_law ht i p q (by decide +kernel) (by decide)) fun _ => ht) p bs (by decide +kernel) (by decide)
  unfold State.ingress
  extract_lets i q d
  split
  next =>
    refine .of_law (W := maskOf ingressFamilies) (P := offLines) ?_ (by decide)
    exact State.macControl_law (State.rxGood_law (Law.refl _ _ s) p _ (by decide +kernel) (by decide)) p bs q.l3 (by decide +kernel) (by decide)
  next =>
    have htake : Law (maskOf ingressFamilies) offLines s (s.takeExtents i p bs.length).1 :=
      State.takeExtents_law (Law.refl _ _ s) _ _ _ (by decide +kernel) (by decide)
    generalize s.takeExtents i p bs.length = r at htake ⊢
    obtain ⟨t, _ | hs⟩ := r
    · exact .of_law (hcounted i q htake) (by decide)
    · refine .ite (fun _ => ReorderKept.trans (.of_law (hcounted i q htake) (by decide)) (State.ingressEnd_reorderKept _ p bs q d stamp slots hs)) fun _ => ?_
      exact .of_law (State.cutFrame_law (hcounted i q htake) i hs (by decide +kernel) (by decide)) (by decide)

theorem State.ingress_law_families (s : State) (p : Nat) (bs : List Byte) (stamp : Time16) (slots : Nat) :
    Law (maskOf ingressFamilies) 0x1fcf9c s (s.ingress p bs stamp slots) :=
  State.ingress_law (Law.refl _ _ s) p bs stamp slots (by decide +kernel) (by decide)

/-- The counter of lost frames and the flags of a lane lie beside what a received frame changes. -/
theorem ingressFamilies_beside : Beside ingressFamilies 0x3000130 0x4000 ∧ Beside ingressFamilies 0x300000c 0x4000 := by decide +kernel

end Sys2Proof.Machine
end

section
/-! Frames in wider sets of registers (O19). -/

namespace Sys2Proof.Machine

/-- Whether the registers of `r` are a column of `r'`, or one register of its first column. -/
def RegSet.within (r r' : RegSet) : Bool :=
  let d := r.base - r'.base
  decide (r'.base ≤ r.base) && r.n2 == 1 &&
    ((r.s1 == r'.s1 && decide (r.n1 ≤ r'.n1) && d == r'.s2 * (d / r'.s2) && decide (d / r'.s2 < r'.n2)) ||
      (r.n1 == 1 && d == r'.s1 * (d / r'.s1) && decide (d / r'.s1 < r'.n1) && decide (0 < r'.n2)))

theorem RegSet.has_of_within {r r' : RegSet} {a : Nat} (h : r.within r' = true) (ha : r.Has a) : r'.Has a := by
  obtain ⟨i, j, hi, hj, rfl⟩ := ha
  simp only [RegSet.within, Bool.and_eq_true, Bool.or_eq_true, decide_eq_true_eq, beq_iff_eq] at h
  obtain ⟨⟨hbase, hn2⟩, ⟨⟨⟨hs1, hn1⟩, hd⟩, hcol⟩ | ⟨⟨⟨hn1, hd⟩, hrow⟩, hpos⟩⟩ := h
  · obtain rfl : j = 0 := by omega
    refine RegSet.has_of i _ (by omega) hcol ?_
    rw [← hs1, ← hd]
    omega
  · obtain rfl : j = 0 := by omega
    obtain rfl : i = 0 := by omega
    refine RegSet.has_of _ 0 hrow hpos ?_
    rw [← hd]
    omega

/-- Sets that lie in other sets. -/
theorem KeepsIn.widen {own own' : List RegSet} {ps : List Part} {s t : State} (h : KeepsIn own ps s t)
    (ho : ∀ r ∈ own, r ∈ own' ∨ ∃ r' ∈ own', r.within r' = true) : KeepsIn own' ps s t := by
  refine ⟨fun a ha => h.1 a fun r hr has => ?_, h.2⟩
  rcases ho r hr with hm | ⟨r', hr', hin⟩
  · exact ha r hm has
  · exact ha r' hr' (RegSet.has_of_within hin has)

/-- The sets of the families `ks`, but for those of the report. -/
def setsOf (ks : List Nat) : List RegSet := (ks.filter fun k => !reportFamilies.contains k).filterMap (families[·]?)

theorem mem_setsOf {ks : List Nat} {k : Nat} (hk : k ∈ ks) (h0 : 0 ∉ ks) :
    k ∈ reportFamilies ∨ k ≠ 0 ∧ ∀ r ∈ families[k]?, r ∈ setsOf ks := by
  by_cases hr : k ∈ reportFamilies
  · exact .inl hr
  · refine .inr ⟨fun he => h0 (he ▸ hk), fun r hm => List.mem_filterMap.mpr ⟨k, List.mem_filter.mpr ⟨hk, ?_⟩, hm⟩⟩
    simpa using hr

/-- A law whose families are those of the report or lie in listed sets. -/
theorem KeepsIn.of_law_within {ks : List Nat} {P : Nat} {own : List RegSet} {ps : List Part} {s t : State} (h : Law (maskOf ks) P s t) (h0 : 0 ∉ ks)
    (hW : ∀ r ∈ setsOf ks, r ∈ own ∨ ∃ r' ∈ own, r.within r' = true)
    (hP : ∀ p ∈ parts, P.testBit (parts.idxOf p) = true → p ∈ ps ++ [.irq, .spout, .out]) : KeepsIn own ps s t :=
  (KeepsIn.of_law h (fun _ hk => mem_setsOf hk h0) hP).widen hW

end Sys2Proof.Machine
end

section
/-! REORDER_TIMEOUT, and the obligation O19. -/

namespace Sys2Proof.Machine

/-! ## The reorder stage -/

/-- The families that a reorder timeout changes. -/
def reorderFamilies : List Nat := [97, 210] ++ ingressFamilies

/-- Trunk `p` has declared the `n` frames before the first that waits lost. -/
def State.declaredLost (s : State) (p n : Nat) : State :=
  ((s.countN (Reg.LN_CNT p 6) n).flag (F.LN_FLAGS.UNIT_ERR p)).setTrunk p { s.trunk p with useqRx := ((s.trunk p).useqRx + n) % 256 }

theorem State.rd_setTrunk (s : State) (p : Nat) (t : Trunk) (b : Nat) : (s.setTrunk p t).rd b = s.rd b := rfl

theorem State.declaredLost_shows (s : State) (p n : Nat) :
    (s.declaredLost p n).rd (Reg.LN_CNT p 6) = s.rd (Reg.LN_CNT p 6) + BitVec.ofNat 64 n ∧ (s.declaredLost p n).fld (F.LN_FLAGS.UNIT_ERR p) = 1 := by
  unfold State.declaredLost
  constructor
  · rw [State.rd_setTrunk, State.rd_flag_ne _ (F.LN_FLAGS.UNIT_ERR p) (Reg.lnCnt_ne_lnFlags p 6 p), State.rd_countN_self]
  · rw [State.fld_setTrunk]
    exact State.fld_flag_self _ (F.LN_FLAGS.UNIT_ERR p) (by decide : 5 < 64) (by decide : 5 ≤ 5)

theorem State.reorderDrain_of_empty {s : State} {p : Nat} (slots fuel : Nat) (h : (s.trunk p).waiting = []) : s.reorderDrain p slots fuel = s := by
  cases fuel with
  | zero => rfl
  | succ fuel => simp [State.reorderDrain, h]

section
variable {s : State} {p q : Nat} {bs : List Byte} {a : Time16} (h : (s.trunk p).waiting = [(q, bs, a)])
include h

/-- The one frame that waits is delivered when its number is next. -/
theorem State.reorderDrain_of_next (slots fuel : Nat) (hq : (s.trunk p).useqRx = q) :
    s.reorderDrain p slots (fuel + 1) = (s.setTrunk p { s.trunk p with useqRx := (q + 1) % 256, waiting := [] }).ingress p bs a slots := by
  have hempty : ∀ t : Trunk, t.waiting = [] → (((s.setTrunk p t).ingress p bs a slots).trunk p).waiting = [] := fun t ht =>
    ((s.setTrunk p t).ingress_reorderKept p bs a slots p).1.trans ((congrArg Trunk.waiting (s.trunk_setTrunk_self p t)).trans ht)
  simp only [State.reorderDrain, h, hq, List.find?_cons, beq_self_eq_true, List.filter_cons, bne_self_eq_false, List.filter_nil, Bool.false_eq_true,
    if_false]
  exact State.reorderDrain_of_empty slots fuel (hempty _ rfl)

/-- The frames before the one that waits are lost, and it is delivered. -/
theorem exec_reorderTimeout_of_one (slots : Nat) (hp : p < 192) (hused : s.portUsed p = true) (hmode : s.laneMode p = 6)
    (hstate : s.trState p = Tr.UP ∨ s.trState p = Tr.IDLE) (hq : q < 256) (hr : (s.trunk p).useqRx < 256) :
    exec (.reorderTimeout p slots) s = .next (((s.declaredLost p ((q + 256 - (s.trunk p).useqRx) % 256)).setTrunk p
      { s.trunk p with useqRx := (q + 1) % 256, waiting := [] }).ingress p bs a slots) := by
  generalize hn : (q + 256 - (s.trunk p).useqRx) % 256 = n
  have hlost : ((s.trunk p).waiting.map fun x => (x.1 + 256 - (s.trunk p).useqRx) % 256).foldl min 255 = n := by
    rw [h]
    simp only [List.map_cons, List.map_nil, List.foldl_cons, List.foldl_nil, hn]
    omega
  have hown : (s.declaredLost p n).trunk p = { s.trunk p with useqRx := ((s.trunk p).useqRx + n) % 256 } := State.trunk_setTrunk_self _ _ _
  have hfirst : ((s.declaredLost p n).trunk p).useqRx = q := by
    rw [hown]
    dsimp only
    omega
  have hdrain := State.reorderDrain_of_next (s := s.declaredLost p n) (by rw [hown]; exact h) slots 1 hfirst
  rw [hown] at hdrain
  have hlen : (s.trunk p).waiting.length + 1 = 2 := by simp [h]
  refine (if_neg (Nat.not_le.mpr hp)).trans ((if_pos ?_).trans (congrArg _ ?_))
  · rcases hstate with hs | hs <;> simp [hused, hmode, hs, h]
  · rw [hlost, hlen]
    exact hdrain

end

/-- What the frame that is delivered after `n` lost ones leaves behind. -/
theorem State.delivered_shows (s : State) (p n slots : Nat) (bs : List Byte) (a : Time16) {t : Trunk} (ht : t.waiting = []) :
    let u := ((s.declaredLost p n).setTrunk p t).ingress p bs a slots
    (u.trunk p).waiting = [] ∧ (u.trunk p).useqRx = t.useqRx ∧ u.rd (Reg.LN_CNT p 6) = s.rd (Reg.LN_CNT p 6) + BitVec.ofNat 64 n ∧
      u.fld (F.LN_FLAGS.UNIT_ERR p) = 1 := by
  obtain ⟨hcount, hflag⟩ := s.declaredLost_shows p n
  generalize s.declaredLost p n = v at hcount hflag ⊢
  obtain ⟨hwait, hnext⟩ := (v.setTrunk p t).ingress_reorderKept p bs a slots p
  have hlaw := (v.setTrunk p t).ingress_law_families p bs a slots
  rw [State.trunk_setTrunk_self] at hwait hnext
  obtain ⟨hcnt, hflags⟩ := ingressFamilies_beside
  refine ⟨hwait.trans ht, hnext, ?_, ?_⟩
  · rw [hlaw.rd_lnCnt (by decide) hcnt p, State.rd_setTrunk, hcount]
  · rw [State.fld_of_rd (F.LN_FLAGS.UNIT_ERR p) (hlaw.rd_lnFlags hflags p), State.fld_setTrunk, hflag]

theorem Law.of_outLaw {W P : Nat} {o : Host.Outcome State Fault Refusal} {s t : State} (h : OutLaw W P s o) (ho : o = .next t) : Law W P s t := by
  subst ho
  exact h

/-- Settles O19, clause by clause. -/
theorem markersPointersAndUnitsAreReceived : Obligations.MarkersPointersAndUnitsAreReceived := by
  unfold Obligations.MarkersPointersAndUnitsAreReceived
  refine ⟨fun s l w pre m ts hl htakes hw hlock hgood hfourth => execMarkerReceived_aligns ts hl htakes hw hlock hgood hfourth,
    fun s l w pre m ts hl htakes hw hlock hbad => execMarkerReceived_seeksOn ts hl htakes hw hlock hbad,
    fun s l w pre m ts hl htakes hw hlock hgood htype hseq hlt => execMarkerReceived_follows ts hl htakes hw hlock hgood htype
      (fun q hq => hseq q (hlt q hq) hq),
    fun s l w pre m ts hl htakes hw hlock hbad hfourth htrain hup => execMarkerReceived_unlocks ts hl htakes hw hlock hbad hfourth htrain hup,
    fun s l v u pre ptr hl hdel hu hv hok hpos => execPointerReceived_resumes hl hdel (by subst hu; exact hv) hok hpos,
    fun s l v u pre ptr hl hdel hu hv hbad => execPointerReceived_errs hl hdel (by subst hu; exact hv) hbad,
    fun s l slots h u hdr body ts x hl hdel hpos hu hlong hh hbad => ?_, fun s l slots h u hdr body ts x hl hdel hpos hu hlong hh hok hkind hall => ?_,
    fun s l slots h u hdr body ts x hl hdel hpos hu hlong hh hok hkind hall hmode => ?_,
    fun s l slots h u hdr body ts x hl hdel hpos hu hlong hh hok hkind hall hmode => ?_,
    fun s p slots q bs a hp hused hmode hstate hwait hq hr => ?_⟩
  · subst hu
    exact execTrunkUnitReceived_errs ts slots hl hdel hpos hlong hh hbad
  · subst hu
    exact execTrunkUnitReceived_pads ts slots hl hdel hpos hlong hh hok hkind hall
  · subst hu
    refine ⟨_, exec_trunkUnitReceived_of_whole ts slots hl hdel hpos hlong hh hok hall, ?_⟩
    rw [if_neg (by rw [hkind]; decide), if_neg hmode]
    rfl
  · subst hu
    refine ⟨_, exec_trunkUnitReceived_of_whole ts slots hl hdel hpos hlong hh hok hall, ?_⟩
    rw [if_neg (by rw [hkind]; decide), if_pos hmode]
    rfl
  · have hexec := exec_reorderTimeout_of_one hwait slots hp hused hmode hstate hq hr
    obtain ⟨hempty, hnext, hcount, hflag⟩ := s.delivered_shows p ((q + 256 - (s.trunk p).useqRx) % 256) slots bs a
      (t := { s.trunk p with useqRx := (q + 1) % 256, waiting := [] }) rfl
    have hlaw : Law (maskOf reorderFamilies) 0x1fcf9c s _ :=
      .of_outLaw (execReorderTimeout_law s p slots (by decide +kernel) (by decide)) hexec
    exact ⟨_, hexec, hempty, hnext, hcount, hflag, .of_law_within hlaw (by decide) (by decide +kernel) (by decide)⟩

end Sys2Proof.Machine
end

section
/-! The tables of a slice (O22, O23): what a slice is after each update, what a commit, an insertion and a removal of forwarding entries
change, and the frames of these updates. -/

namespace Sys2Proof.Machine

/-- The next state of a command, and what is claimed of it. -/
theorem NextWith.of_eq {o : Host.Outcome State Fault Refusal} {P : State → Prop} {t : State} (h : o = .next t) (ht : P t) : NextWith o P := ⟨t, h, ht⟩

/-! ## Slices -/

@[simp] theorem State.slice_setSlice_self (s : State) (i : Nat) (t : Slice) : (s.setSlice i t).slice i = t := SMap.getD_setD_self _ _ _ _

@[simp] theorem State.rd_setSlice (s : State) (i : Nat) (t : Slice) (a : Nat) : (s.setSlice i t).rd a = s.rd a := rfl
@[simp] theorem State.slice_setFld (s : State) (f : Fld) (v i : Nat) : (s.setFld f v).slice i = s.slice i := rfl
@[simp] theorem State.slice_countN (s : State) (a n i : Nat) : (s.countN a n).slice i = s.slice i := rfl
@[simp] theorem State.slice_count (s : State) (a i : Nat) : (s.count a).slice i = s.slice i := rfl

/-- A change that leaves the part of the slices leaves each slice. -/
theorem Law.slice {W P : Nat} {s t : State} (h : Law W P s t) (hP : P.testBit 14 = false) (i : Nat) : t.slice i = s.slice i :=
  congrArg (SMap.getD · i Slice.fresh) (h.part_off (p := .slices) hP)

@[simp] theorem State.slice_pfEvent (s : State) (ev inst k i : Nat) : (s.pfEvent ev inst k).slice i = s.slice i :=
  (State.pfEvent_law (W := maskOf [4]) (P := 0) (Law.refl _ _ s) ev inst k (by decide) (by decide)).slice (by decide) i

@[simp] theorem State.slice_countEv (s : State) (a ev inst k i : Nat) : (s.countEv a ev inst k).slice i = s.slice i :=
  (s.countN a k).slice_pfEvent ev inst k i

@[simp] theorem State.slice_scanTouch (s : State) (mem sel lo len i : Nat) : (s.scanTouch mem sel lo len).slice i = s.slice i := rfl

theorem State.touchSlots_law_scans (s : State) (i : Nat) (slots : List Nat) : Law 0 0x80 s (s.touchSlots i slots) :=
  State.touchSlots_law (Law.refl _ _ s) i slots (by decide) (by decide)

@[simp] theorem State.slice_touchSlots (s : State) (i : Nat) (slots : List Nat) (j : Nat) : (s.touchSlots i slots).slice j = s.slice j :=
  (s.touchSlots_law_scans i slots).slice (by decide) j

@[simp] theorem State.rd_touchSlots (s : State) (i : Nat) (slots : List Nat) (a : Nat) : (s.touchSlots i slots).rd a = s.rd a :=
  (s.touchSlots_law_scans i slots).rd_all a

/-! ## Frames of the updates -/

/-- The registers of slices, ports, lanes and windows lie above every register of the report. -/
theorem not_reporting_of_ge {a : Nat} (h : 0xC00000 ≤ a) : ¬ Reporting a := by
  rintro (rfl | rfl | ⟨n, rfl⟩ | ⟨n, rfl⟩)
  · exact absurd h (by decide)
  · exact absurd h (by decide)
  · unfold Reg.SP_LOST_CNT at h
    omega
  · unfold Reg.PF_CNT at h
    omega

/-- A change of parts alone. -/
theorem Keeps.of_law {P : Nat} {ps : List Part} {s t : State} (own : List Nat) (h : Law 0 P s t)
    (hP : ∀ p ∈ parts, P.testBit (parts.idxOf p) = true → p ∈ ps) : Keeps own ps s t :=
  ⟨fun a _ => h.rd_all a, fun p hp => h.parts p fun hm => hp (hP p (mem_parts p) hm)⟩

theorem Keeps.refl (s : State) (own : List Nat) (ps : List Part) : Keeps own ps s s := .of_law (P := 0) own (Law.refl 0 0 s) (by simp)

theorem KeepsRep.refl (s : State) (own : List Nat) (ps : List Part) : KeepsRep own ps s s := (Keeps.refl s own ps).keepsRep

section
variable (s : State) {own : List Nat} {ps : List Part}

theorem Keeps.setSlice (i : Nat) (t : Slice) (h : Part.slices ∈ ps) : Keeps own ps s (s.setSlice i t) :=
  (Keeps.of_law own (State.setSlice_law (Law.refl 0 0x4000 s) i t (by decide) (by decide)) (ps := [.slices]) (by decide)).mono (by simp) (by simpa)

theorem Keeps.scanTouch (mem sel lo len : Nat) (h : Part.scans ∈ ps) : Keeps own ps s (s.scanTouch mem sel lo len) :=
  (Keeps.of_law own (State.scanTouch_law (Law.refl 0 0x80 s) mem sel lo len (by decide) (by decide)) (ps := [.scans]) (by decide)).mono (by simp) (by simpa)

theorem Keeps.touchSlots (i : Nat) (slots : List Nat) (h : Part.scans ∈ ps) : Keeps own ps s (s.touchSlots i slots) :=
  (Keeps.of_law own (s.touchSlots_law_scans i slots) (ps := [.scans]) (by decide)).mono (by simp) (by simpa)

theorem KeepsRep.pfEvent (ev inst k : Nat) : KeepsRep own ps s (s.pfEvent ev inst k) :=
  (KeepsIn.of_law (own := []) (ps := []) (State.pfEvent_law (W := maskOf [4]) (P := 0) (Law.refl _ _ s) ev inst k (by decide) (by decide))
    (by decide) (by simp)).keepsRep (own := []) |>.mono (by simp) (by simp)

theorem KeepsRep.countEv {a : Nat} (ev inst k : Nat) (h : a ∈ own) : KeepsRep own ps s (s.countEv a ev inst k) :=
  (Keeps.wr s ps _ h).keepsRep.trans (.pfEvent _ ev inst k)

theorem KeepsRep.spoutEvent (src inst arg data : Nat) : KeepsRep own ps s (s.spoutEvent src inst arg data) :=
  (s.spoutEvent_keepsIn src inst arg data).keepsRep (own := []) |>.mono (by simp) (by simp)

theorem KeepsRep.received (a : Acc) : KeepsRep own ps s (s.received a) := (s.received_keepsRep own a).mono (by simp) (by simp)

end

/-- A register outside the frame reads as before. -/
theorem KeepsRep.rd {own : List Nat} {ps : List Part} {s t : State} {a : Nat} (h : KeepsRep own ps s t) (ha : a ∉ own) (hge : 0xC00000 ≤ a) :
    t.rd a = s.rd a := h.1 a ha (not_reporting_of_ge hge)

theorem KeepsRep.fld {own : List Nat} {ps : List Part} {s t : State} (h : KeepsRep own ps s t) (f : Fld) (ha : f.ofs ∉ own) (hge : 0xC00000 ≤ f.ofs) :
    t.fld f = s.fld f := State.fld_of_rd f (h.rd ha hge)

theorem State.rd_pfEvent (s : State) (ev inst k : Nat) {a : Nat} (h : 0xC00000 ≤ a) : (s.pfEvent ev inst k).rd a = s.rd a :=
  (KeepsRep.pfEvent s (own := []) (ps := []) ev inst k).rd (by simp) h

/-! ## Commits (R157) -/

theorem KeepsRep.commitN (s : State) {own : List Nat} {ps : List Part} (i n : Nat) (h : Reg.SLC_TBL_VER i ∈ own) : KeepsRep own ps s (s.commitN i n) := by
  unfold State.commitN
  split
  · exact .refl s own ps
  · exact (Keeps.setFld s ps _ _ h).keepsRep.trans (.pfEvent _ _ i n)

@[simp] theorem State.slice_commitN (s : State) (i n j : Nat) : (s.commitN i n).slice j = s.slice j :=
  (State.commitN_law (W := maskOf [4, 98]) (P := 0) (Law.refl _ _ s) i n (by decide) (by decide)).slice (by decide) j

theorem Reg.SLC_TBL_VER_ge (i : Nat) : 0xC00000 ≤ Reg.SLC_TBL_VER i := by
  unfold Reg.SLC_TBL_VER
  omega

/-- One committed change is the next version. -/
theorem State.version_commitN_one (s : State) (i : Nat) :
    (s.commitN i 1).fld (F.SLC_TBL_VER.VER i) = (s.fld (F.SLC_TBL_VER.VER i) + 1) % 2 ^ 32 := by
  unfold State.commitN
  rw [if_neg (by decide), State.fld_of_rd (F.SLC_TBL_VER.VER i) (State.rd_pfEvent _ _ _ _ (Reg.SLC_TBL_VER_ge i))]
  exact State.fld_setFld_self s (F.SLC_TBL_VER.VER i) _ (by decide : 31 < 64) (by decide : 0 ≤ 31)

/-! ## Insertion and removal of forwarding entries (R144, R156) -/

section
variable {t : Slice} {lg n : Nat} {e : FdbEntry} (hlg : 3 ≤ lg)
include hlg

theorem Slice.fdbPlace_of_found (h : t.fdbFind lg e.key = some n) : t.fdbPlace lg e = ({ t with fdb := t.fdb.put n e }, some (0, false)) := by
  unfold Slice.fdbPlace
  rw [if_neg (Nat.not_lt.mpr hlg), h]

theorem Slice.fdbPlace_of_free (h : t.fdbFind lg e.key = none) (hfree : t.freeOf (fdbWays lg 0 e.key ++ fdbWays lg 1 e.key) = some n) :
    t.fdbPlace lg e = ({ t with fdb := t.fdb.put n e, marks := t.marks.del n }, some (0, false)) := by
  unfold Slice.fdbPlace
  rw [if_neg (Nat.not_lt.mpr hlg), h]
  dsimp only
  rw [hfree]

end

/-- A counter that counts no event stays. -/
theorem State.rd_countN_zero (s : State) (a b : Nat) : (s.countN a 0).rd b = s.rd b := by
  unfold State.countN
  rw [State.rd_wr]
  split
  · subst_vars
    exact BitVec.add_zero _
  · rfl

theorem Keeps.countN_zero (s : State) (own : List Nat) (ps : List Part) (a : Nat) : Keeps own ps s (s.countN a 0) :=
  ⟨fun b _ => s.rd_countN_zero a b, fun p _ => by cases p <;> rfl⟩

/-- An insertion that moves no entry and leaves the stash alone: one committed change. -/
theorem State.fdbInsert_of_placed {s : State} {i : Nat} {e : FdbEntry} {t : Slice} (h : (s.slice i).fdbPlace (s.fdbLg i) e = (t, some (0, false))) :
    ∃ u, s.fdbInsert i e = (u, some (0, false)) ∧ u.slice i = t ∧
      u.fld (F.SLC_TBL_VER.VER i) = (s.fld (F.SLC_TBL_VER.VER i) + 1) % 2 ^ 32 ∧ KeepsRep [Reg.SLC_TBL_VER i] [.slices, .scans] s u := by
  unfold State.fdbInsert
  rw [h]
  simp only [Bool.false_eq_true, if_false]
  generalize hs0 : (if s.scans.entries.isEmpty = true then s.setSlice i t else (s.setSlice i t).touchSlots i ((s.slice i).written t e.key)) = s0
  have hput : Keeps [Reg.SLC_TBL_VER i] [.slices, .scans] s (s.setSlice i t) := .setSlice s i t (by decide)
  obtain ⟨hslice, hkeeps⟩ : s0.slice i = t ∧ Keeps [Reg.SLC_TBL_VER i] [.slices, .scans] s s0 := by
    rw [← hs0]
    split
    · exact ⟨s.slice_setSlice_self i t, hput⟩
    · exact ⟨by simp, hput.trans (.touchSlots _ i _ (by decide))⟩
  have hver : s0.fld (F.SLC_TBL_VER.VER i) = s.fld (F.SLC_TBL_VER.VER i) := by
    rw [← hs0]
    split
    · rfl
    · exact State.fld_of_rd (F.SLC_TBL_VER.VER i) (State.rd_touchSlots _ i _ _)
  refine ⟨_, rfl, by simpa using hslice, ?_, ?_⟩
  · have hcount : (s0.countN (Reg.SLC_CNT i 13) 0).fld (F.SLC_TBL_VER.VER i) = s0.fld (F.SLC_TBL_VER.VER i) :=
      State.fld_of_rd (F.SLC_TBL_VER.VER i) (s0.rd_countN_zero _ _)
    exact (State.version_commitN_one _ i).trans (by rw [hcount, hver])
  · exact (hkeeps.trans (.countN_zero _ _ _ _)).keepsRep.trans (.commitN _ i 1 (by simp))

theorem KeepsRep.fdbRemove (s : State) {own : List Nat} {ps : List Part} (i : Nat) (p : Nat → FdbEntry → Bool) (h : Reg.SLC_TBL_VER i ∈ own)
    (hslices : Part.slices ∈ ps) (hscans : Part.scans ∈ ps) : KeepsRep own ps s (s.fdbRemove i p).1 := by
  unfold State.fdbRemove
  exact ((Keeps.setSlice s i _ hslices).trans (.touchSlots _ i _ hscans)).keepsRep.trans (.commitN _ i _ h)

theorem State.fdb_fdbRemove (s : State) (i : Nat) (p : Nat → FdbEntry → Bool) :
    ((s.fdbRemove i p).1.slice i).fdb = (s.slice i).fdb.filter fun n e => !p n e := (s.fdbRemove_fdb i p i).trans (if_pos rfl)

/-- An entry that a filter by its slot removes. -/
theorem SMap.get?_filter_ne_self {α : Type} (m : SMap α) (n : Nat) : (m.filter fun k _ => !(k == n)).get? n = none :=
  SMap.lookup_filter_out m.entries (fun k _ => !(k == n)) n (by simp)

theorem SMap.get?_filter_ne {α : Type} (m : SMap α) {n k : Nat} (h : k ≠ n) : (m.filter fun j _ => !(j == n)).get? k = m.get? k :=
  SMap.lookup_filter m.entries (fun j _ => !(j == n)) k (by simp [h])

end Sys2Proof.Machine
end

section
/-! Learning, ageing, the stash, station moves and fences (O22). -/

namespace Sys2Proof.Machine

/-! ## Counters of a slice -/

theorem Reg.SLC_CNT_ge (i n : Nat) : 0xC00000 ≤ Reg.SLC_CNT i n := by
  unfold Reg.SLC_CNT
  omega

theorem Reg.SLC_CNT_ne (i : Nat) {m n : Nat} (h : m % 16 ≠ n % 16) : Reg.SLC_CNT i m ≠ Reg.SLC_CNT i n := by
  unfold Reg.SLC_CNT
  omega

theorem Reg.SLC_CNT_ne_TBL_VER (i n : Nat) : Reg.SLC_CNT i n ≠ Reg.SLC_TBL_VER i := by
  unfold Reg.SLC_CNT Reg.SLC_TBL_VER
  omega

theorem State.rd_countEv_self (s : State) {a : Nat} (ev inst k : Nat) (h : 0xC00000 ≤ a) : (s.countEv a ev inst k).rd a = s.rd a + BitVec.ofNat 64 k :=
  (State.rd_pfEvent _ ev inst k h).trans (s.rd_countN_self a k)

theorem State.rd_countEv_ne (s : State) {a b : Nat} (ev inst k : Nat) (h : 0xC00000 ≤ b) (hne : b ≠ a) : (s.countEv a ev inst k).rd b = s.rd b :=
  (State.rd_pfEvent _ ev inst k h).trans (s.rd_wr_ne _ hne)

/-! ## Learning (R152, R153) -/

/-- The state with the requests `rest` left in the learning queue of slice `i`. -/
def State.learnLeft (s : State) (i : Nat) (rest : List LearnReq) : State := s.setSlice i { s.slice i with learn := rest }

/-- The entry that a learning request asks for. -/
def LearnReq.entry (r : LearnReq) : FdbEntry := ⟨r.key, false, false, r.port⟩

theorem Keeps.learnLeft (s : State) (own : List Nat) (i : Nat) (rest : List LearnReq) : Keeps own [.slices] s (s.learnLeft i rest) :=
  .setSlice s i _ (by simp)

theorem State.slice_learnLeft (s : State) (i : Nat) (rest : List LearnReq) : (s.learnLeft i rest).slice i = { s.slice i with learn := rest } :=
  s.slice_setSlice_self i _

section
variable {s : State} {i : Nat} {r : LearnReq} {rest : List LearnReq} (hi : i < 4) (hq : (s.slice i).learn = r :: rest)
include hi hq

theorem exec_learnRequestApply_of_on (h : s.learns i = true) : exec (.learnRequestApply i) s = .next ((s.learnLeft i rest).learnApply i r) := by
  change execLearnRequestApply i s = _
  unfold execLearnRequestApply
  rw [if_neg (Nat.not_le.mpr hi), hq]
  exact congrArg _ (if_pos h)

theorem exec_learnRequestApply_of_off (h : s.learns i = false) : exec (.learnRequestApply i) s = .next (s.learnLeft i rest) := by
  change execLearnRequestApply i s = _
  unfold execLearnRequestApply
  rw [if_neg (Nat.not_le.mpr hi), hq]
  exact congrArg _ (if_neg (by simp [h]))

end

section
variable {s u : State} {i n : Nat} {r : LearnReq} {e : FdbEntry} {x : Nat × Bool}

theorem State.learnApply_of_new (h : (s.slice i).fdbFind (s.fdbLg i) r.key = none) (hins : s.fdbInsert i r.entry = (u, some x)) :
    s.learnApply i r = u.countEv (Reg.SLC_CNT i 0) 0x102 i 1 := by
  unfold LearnReq.entry at hins
  unfold State.learnApply
  simp only [h, Option.bind_none, hins]

variable (h : (s.slice i).fdbFind (s.fdbLg i) r.key = some n) (he : (s.slice i).fdb.get? n = some e)
include h he

theorem State.learnApply_of_static (hst : e.isStatic = true) : s.learnApply i r = s.count (Reg.SLC_CNT i 4) := by
  unfold State.learnApply
  simp only [h, Option.bind_some, he, hst, if_true]

theorem State.learnApply_of_same (hst : e.isStatic = false) (hgroup : e.group = false) (hdest : e.dest = r.port) : s.learnApply i r = s := by
  unfold State.learnApply
  simp [h, he, hst, hgroup, hdest]

theorem State.learnApply_of_moved (hst : e.isStatic = false) (hdest : e.group = true ∨ e.dest ≠ r.port) (hins : s.fdbInsert i r.entry = (u, some x)) :
    s.learnApply i r = (u.countEv (Reg.SLC_CNT i 0) 0x102 i 1).stationMove i := by
  have hother : (!e.group && e.dest == r.port) = false := by rcases hdest with hg | hd <;> simp [*]
  unfold LearnReq.entry at hins
  unfold State.learnApply
  simp only [h, Option.bind_some, he, hst, hother, hins, Bool.false_eq_true, if_false]

end

section
variable {s : State} {i n : Nat} {r : LearnReq} {rest : List LearnReq} (hi : i < 4) (hq : (s.slice i).learn = r :: rest)
include hi hq

section
variable (hon : s.learns i = true) (hlg : 3 ≤ s.fdbLg i)
include hon hlg

/-- A new key is placed in a free way and counted. -/
theorem execLearnRequestApply_places (hnone : (s.slice i).fdbFind (s.fdbLg i) r.key = none)
    (hfree : (s.slice i).freeOf (fdbWays (s.fdbLg i) 0 r.key ++ fdbWays (s.fdbLg i) 1 r.key) = some n) :
    NextWith (exec (.learnRequestApply i) s) fun t =>
      (t.slice i).fdb.get? n = some r.entry ∧ (t.slice i).marks.get? n = none ∧ (t.slice i).learn = rest ∧
      t.rd (Reg.SLC_CNT i 0) = s.rd (Reg.SLC_CNT i 0) + 1 ∧
      t.fld (F.SLC_TBL_VER.VER i) = (s.fld (F.SLC_TBL_VER.VER i) + 1) % 2 ^ 32 ∧
      KeepsRep [Reg.SLC_CNT i 0, Reg.SLC_TBL_VER i] [.slices, .scans] s t := by
  have hslice := s.slice_learnLeft i rest
  have hplace := Slice.fdbPlace_of_free (t := (s.learnLeft i rest).slice i) (e := r.entry) (n := n) hlg (by rw [hslice]; exact hnone)
    (by rw [hslice]; exact hfree)
  obtain ⟨u, hins, hu, hver, hkeeps⟩ := State.fdbInsert_of_placed hplace
  have happly := State.learnApply_of_new (r := r) (by rw [hslice]; exact hnone) hins
  refine .of_eq (exec_learnRequestApply_of_on hi hq hon) ?_
  rw [happly, State.slice_countEv, hu, hslice, State.rd_countEv_self _ _ _ _ (Reg.SLC_CNT_ge i 0),
    State.fld_of_rd (F.SLC_TBL_VER.VER i) (State.rd_countEv_ne _ _ _ _ (Reg.SLC_TBL_VER_ge i) (Reg.SLC_CNT_ne_TBL_VER i 0).symm)]
  refine ⟨SMap.get?_put_self _ _ _, SMap.get?_del_self _ _, rfl, ?_, hver, ?_⟩
  · rw [hkeeps.rd (by simpa using Reg.SLC_CNT_ne_TBL_VER i 0) (Reg.SLC_CNT_ge i 0)]
    rfl
  · exact ((Keeps.learnLeft s [] i rest).keepsRep.mono (by simp) (by simp)).trans
      ((hkeeps.mono (by simp) (by simp)).trans (.countEv u _ _ _ (by simp)))

/-- An entry to another destination is replaced: a station move. -/
theorem execLearnRequestApply_moves {e : FdbEntry} (hfind : (s.slice i).fdbFind (s.fdbLg i) r.key = some n)
    (he : (s.slice i).fdb.get? n = some e) (hst : e.isStatic = false) (hdest : e.group = true ∨ e.dest ≠ r.port) :
    NextWith (exec (.learnRequestApply i) s) fun t =>
      (t.slice i).fdb.get? n = some r.entry ∧ (t.slice i).moves = (s.slice i).moves + 1 ∧ (t.slice i).learn = rest ∧
      t.rd (Reg.SLC_CNT i 0) = s.rd (Reg.SLC_CNT i 0) + 1 ∧ t.rd (Reg.SLC_CNT i 3) = s.rd (Reg.SLC_CNT i 3) + 1 ∧
      t.fld (F.SLC_TBL_VER.VER i) = (s.fld (F.SLC_TBL_VER.VER i) + 1) % 2 ^ 32 ∧
      KeepsRep [Reg.SLC_CNT i 0, Reg.SLC_CNT i 3, Reg.SLC_TBL_VER i] [.slices, .scans] s t := by
  have hslice := s.slice_learnLeft i rest
  have hplace := Slice.fdbPlace_of_found (t := (s.learnLeft i rest).slice i) (e := r.entry) (n := n) hlg (by rw [hslice]; exact hfind)
  obtain ⟨u, hins, hu, hver, hkeeps⟩ := State.fdbInsert_of_placed hplace
  have happly := State.learnApply_of_moved (r := r) (by rw [hslice]; exact hfind) (by rw [hslice]; exact he) hst hdest hins
  have hcnt : ∀ k, u.rd (Reg.SLC_CNT i k) = s.rd (Reg.SLC_CNT i k) := fun k =>
    hkeeps.rd (by simpa using Reg.SLC_CNT_ne_TBL_VER i k) (Reg.SLC_CNT_ge i k)
  refine .of_eq (exec_learnRequestApply_of_on hi hq hon) ?_
  rw [happly]
  unfold State.stationMove
  rw [State.slice_count, State.slice_setSlice_self, State.slice_countEv, hu, hslice]
  refine ⟨SMap.get?_put_self _ _ _, rfl, rfl, ?_, ?_, ?_, ?_⟩
  · rw [State.rd_count_ne _ (Reg.SLC_CNT_ne i (by decide)), State.rd_setSlice, State.rd_countEv_self _ _ _ _ (Reg.SLC_CNT_ge i 0), hcnt]
    rfl
  · rw [State.rd_count_self, State.rd_setSlice, State.rd_countEv_ne _ _ _ _ (Reg.SLC_CNT_ge i 3) (Reg.SLC_CNT_ne i (by decide)), hcnt]
  · refine Eq.trans (State.fld_of_rd (F.SLC_TBL_VER.VER i) ?_) hver
    exact (State.rd_count_ne _ (Reg.SLC_CNT_ne_TBL_VER i 3).symm).trans
      (State.rd_countEv_ne _ _ _ _ (Reg.SLC_TBL_VER_ge i) (Reg.SLC_CNT_ne_TBL_VER i 0).symm)
  · exact ((Keeps.learnLeft s [] i rest).keepsRep.mono (by simp) (by simp)).trans ((hkeeps.mono (by simp) (by simp)).trans
      ((KeepsRep.countEv u _ _ _ (by simp)).trans ((Keeps.setSlice _ i _ (by simp)).trans (.count _ _ (by simp))).keepsRep))

end

variable {e : FdbEntry} (hfind : (s.slice i).fdbFind (s.fdbLg i) r.key = some n) (he : (s.slice i).fdb.get? n = some e)
include hfind he

/-- A static entry stays. -/
theorem execLearnRequestApply_meetsStatic (hon : s.learns i = true) (hst : e.isStatic = true) :
    NextWith (exec (.learnRequestApply i) s) fun t =>
      (t.slice i).fdb = (s.slice i).fdb ∧ (t.slice i).learn = rest ∧ t.rd (Reg.SLC_CNT i 4) = s.rd (Reg.SLC_CNT i 4) + 1 ∧
      Keeps [Reg.SLC_CNT i 4] [.slices] s t := by
  have hslice := s.slice_learnLeft i rest
  refine .of_eq (exec_learnRequestApply_of_on hi hq hon) ?_
  rw [State.learnApply_of_static (n := n) (e := e) (by rw [hslice]; exact hfind) (by rw [hslice]; exact he) hst, State.slice_count, hslice]
  exact ⟨rfl, rfl, State.rd_count_self _ _, (Keeps.learnLeft s _ i rest).trans (.count _ _ (by simp))⟩

/-- An entry to the same port stays. -/
theorem execLearnRequestApply_meetsSame (hst : e.isStatic = false) (hgroup : e.group = false) (hdest : e.dest = r.port) :
    NextWith (exec (.learnRequestApply i) s) fun t => t = s.learnLeft i rest := by
  have hslice := s.slice_learnLeft i rest
  cases hon : s.learns i with
  | false => exact ⟨_, exec_learnRequestApply_of_off hi hq hon, rfl⟩
  | true =>
    refine .of_eq (exec_learnRequestApply_of_on hi hq hon) ?_
    exact State.learnApply_of_same (n := n) (e := e) (by rw [hslice]; exact hfind) (by rw [hslice]; exact he) hst hgroup hdest

end

/-- A request that changes nothing leaves the queue. -/
theorem State.learnLeft_shows (s : State) (i : Nat) (rest : List LearnReq) :
    ((s.learnLeft i rest).slice i).fdb = (s.slice i).fdb ∧ ((s.learnLeft i rest).slice i).learn = rest ∧ Keeps [] [.slices] s (s.learnLeft i rest) := by
  rw [State.slice_learnLeft]
  exact ⟨rfl, rfl, Keeps.learnLeft s [] i rest⟩

/-! ## The stash (R146) -/

theorem fdbBucket_lt {lg : Nat} (bank k : Nat) (hlg : 3 ≤ lg) (hmax : lg < 32) : fdbBucket lg bank k < 2 ^ (lg - 3) := by
  unfold fdbBucket fdbHash
  have hsplit : 2 ^ (60 - (lg - 3)) * 2 ^ (lg - 3) = 2 ^ 60 := by rw [← pow_add]; congr 1; omega
  rw [Nat.div_lt_iff_lt_mul (by positivity), Nat.mul_comm (2 ^ (lg - 3)), hsplit]
  exact Nat.mod_lt _ (by positivity)

/-- The ways of a key are slots of the two banks. -/
theorem fdbWays_lt {lg bank k v : Nat} (hlg : 3 ≤ lg) (hmax : lg < 32) (hbank : bank < 2) (h : v ∈ fdbWays lg bank k) : v < 2 ^ lg := by
  obtain ⟨w, hw, rfl⟩ := List.mem_map.mp h
  have hway : w < 4 := List.mem_range.mp hw
  have hbucket := fdbBucket_lt bank k hlg hmax
  have hhalf : 2 ^ (lg - 1) = 4 * 2 ^ (lg - 3) := by rw [show lg - 1 = lg - 3 + 2 by omega, pow_add]; ring
  have hall : 2 ^ lg = 8 * 2 ^ (lg - 3) := by rw [show lg = lg - 3 + 3 by omega, pow_add]; simp; ring
  have hb : bank = 0 ∨ bank = 1 := by omega
  unfold fdbSlot
  rw [hhalf, hall]
  rcases hb with rfl | rfl <;> omega

theorem fdbStash_ge {lg n : Nat} (h : n ∈ fdbStash lg) : 2 ^ lg ≤ n := by
  obtain ⟨k, -, rfl⟩ := List.mem_map.mp h
  omega

theorem State.fdbLg_lt (s : State) (i : Nat) : s.fdbLg i < 32 := bitsOf_lt (s.rd (Reg.SLC_CARVE i)) 4 0

/-- The entry of stash slot `n` moves to slot `v`. -/
def State.stashMoved (s : State) (i n v : Nat) : State :=
  ((s.setSlice i ((s.slice i).fdbMove n v)).touchSlots i [v]).count (Reg.SLC_CNT i 8)

/-- One stash slot of STASH_MOVE. -/
def State.stashStep (i lg : Nat) (s : State) (n : Nat) : State :=
  match (s.slice i).fdb.get? n with
  | none => s
  | some e =>
    match (s.slice i).freeOf (fdbWays lg 0 e.key ++ fdbWays lg 1 e.key) with
    | some v => s.stashMoved i n v
    | none => s

theorem State.stashMove_eq (s : State) (i : Nat) : s.stashMove i = (fdbStash (s.fdbLg i)).foldl (State.stashStep i (s.fdbLg i)) s := rfl

theorem State.stashStep_of_empty {s : State} {i lg n : Nat} (h : (s.slice i).fdb.get? n = none) : s.stashStep i lg n = s := by
  unfold State.stashStep
  rw [h]

theorem State.stashSteps_of_empty {s : State} {i lg : Nat} {l : List Nat} (h : ∀ m ∈ l, (s.slice i).fdb.get? m = none) :
    l.foldl (State.stashStep i lg) s = s := by
  induction l with
  | nil => rfl
  | cons m l ih =>
    rw [List.foldl_cons, State.stashStep_of_empty (h m (by simp))]
    exact ih fun k hk => h k (by simp [hk])

/-- The entries of a slice after a relocation (R145). -/
theorem Slice.fdb_fdbMove {t : Slice} {u : Nat} (v : Nat) {e : FdbEntry} (h : t.fdb.get? u = some e) : (t.fdbMove u v).fdb = (t.fdb.put v e).del u := by
  unfold Slice.fdbMove
  rw [h]

section
variable {s : State} {i n v : Nat} {e : FdbEntry} (he : (s.slice i).fdb.get? n = some e)
include he

theorem State.fdb_stashMoved : ((s.stashMoved i n v).slice i).fdb = ((s.slice i).fdb.put v e).del n := by
  unfold State.stashMoved
  rw [State.slice_count, State.slice_touchSlots, State.slice_setSlice_self, Slice.fdb_fdbMove v he]

/-- With one entry in the listed slots, its move is the whole of the steps. -/
theorem State.stashSteps_of_one {lg : Nat} {l : List Nat} (hn : n ∈ l) (hv : v ∉ l) (hrest : ∀ m ∈ l, m ≠ n → (s.slice i).fdb.get? m = none)
    (hfree : (s.slice i).freeOf (fdbWays lg 0 e.key ++ fdbWays lg 1 e.key) = some v) :
    l.foldl (State.stashStep i lg) s = s.stashMoved i n v := by
  induction l with
  | nil => simp at hn
  | cons m l ih =>
    rw [List.mem_cons, not_or] at hv
    rw [List.foldl_cons]
    by_cases hm : m = n
    · subst hm
      have hstep : s.stashStep i lg m = s.stashMoved i m v := by
        unfold State.stashStep
        rw [he]
        dsimp only
        rw [hfree]
      rw [hstep]
      refine State.stashSteps_of_empty fun k hk => ?_
      rw [State.fdb_stashMoved he]
      by_cases hkm : k = m
      · exact hkm ▸ SMap.get?_del_self _ _
      · rw [SMap.get?_del_ne _ hkm, SMap.get?_put_ne _ _ (fun hkv : k = v => hv.2 (hkv ▸ hk))]
        exact hrest k (by simp [hk]) hkm
    · rw [State.stashStep_of_empty (hrest m (by simp) hm)]
      exact ih (by simpa [Ne.symm hm] using hn) hv.2 fun k hk => hrest k (by simp [hk])

theorem execStashMove_moves (hi : i < 4) (hlg : 3 ≤ s.fdbLg i) (hn : n ∈ fdbStash (s.fdbLg i))
    (hrest : ∀ m ∈ fdbStash (s.fdbLg i), m ≠ n → (s.slice i).fdb.get? m = none)
    (hfree : (s.slice i).freeOf (fdbWays (s.fdbLg i) 0 e.key ++ fdbWays (s.fdbLg i) 1 e.key) = some v) :
    NextWith (exec (.stashMove i) s) fun t =>
      (t.slice i).fdb.get? v = some e ∧ (t.slice i).fdb.get? n = none ∧ t.rd (Reg.SLC_CNT i 8) = s.rd (Reg.SLC_CNT i 8) + 1 ∧
      Keeps [Reg.SLC_CNT i 8] [.slices, .scans] s t := by
  have hway : v < 2 ^ s.fdbLg i := by
    rcases List.mem_append.mp (List.mem_of_find?_eq_some hfree) with h | h
    · exact fdbWays_lt hlg (s.fdbLg_lt i) (by decide) h
    · exact fdbWays_lt hlg (s.fdbLg_lt i) (by decide) h
  have hv : v ∉ fdbStash (s.fdbLg i) := fun h => absurd (fdbStash_ge h) (Nat.not_le.mpr hway)
  have hexec : exec (.stashMove i) s = .next (s.stashMove i) := if_neg (Nat.not_le.mpr hi)
  refine .of_eq hexec ?_
  rw [State.stashMove_eq, State.stashSteps_of_one he hn hv hrest hfree, State.fdb_stashMoved he]
  refine ⟨?_, SMap.get?_del_self _ _, ?_, ?_⟩
  · rw [SMap.get?_del_ne _ (fun h : v = n => hv (h ▸ hn)), SMap.get?_put_self]
  · exact (State.rd_count_self _ _).trans (by rw [State.rd_touchSlots, State.rd_setSlice])
  · exact ((Keeps.setSlice s i _ (by simp)).trans (.touchSlots _ i _ (by simp))).trans (.count _ _ (by simp))

end

/-! ## Ageing (R156) -/

theorem State.sweeps_of_learns {s : State} {i : Nat} (h : s.learns i = true) : s.sweeps i = true := by
  unfold State.learns at h
  unfold State.sweeps
  simp only [Bool.and_eq_true] at h ⊢
  obtain ⟨⟨hslc, hmode⟩, hcalm⟩ := h
  exact ⟨⟨by rw [hslc]; rfl, hmode⟩, hcalm⟩

theorem exec_ageingVisit_of_sweeps {s : State} {i : Nat} (n : Nat) (hi : i < 4) (h : s.sweeps i = true) :
    exec (.ageingVisit i n) s = .next (s.ageingVisit i n) := (if_neg (Nat.not_le.mpr hi)).trans (if_pos h)

section
variable {s : State} {i n : Nat} {e : FdbEntry} (he : (s.slice i).fdb.get? n = some e)
include he

theorem State.ageingVisit_of_static (hst : e.isStatic = true) : s.ageingVisit i n = s := by
  unfold State.ageingVisit
  simp only [he, hst, if_true]

theorem execAgeingVisit_passesStatic (hi : i < 4) (hst : e.isStatic = true) : exec (.ageingVisit i n) s = .next s := by
  cases h : s.sweeps i with
  | false => exact (if_neg (Nat.not_le.mpr hi)).trans (if_neg (by simp [h]))
  | true => rw [exec_ageingVisit_of_sweeps n hi h, State.ageingVisit_of_static he hst]

variable (hst : e.isStatic = false)
include hst

theorem State.ageingVisit_of_hit (hhit : bitAt ((s.slice i).marks.getD n 0) 0 = true) :
    s.ageingVisit i n = s.setSlice i { s.slice i with marks := (s.slice i).marks.del n } := by
  unfold State.ageingVisit
  simp only [he, hst, hhit, if_true, Bool.false_eq_true, if_false]

variable (hhit : bitAt ((s.slice i).marks.getD n 0) 0 = false)
include hhit

theorem State.ageingVisit_of_young (hage : bitAt ((s.slice i).marks.getD n 0) 1 = false) :
    s.ageingVisit i n = s.setSlice i { s.slice i with marks := (s.slice i).marks.put n 2 } := by
  unfold State.ageingVisit
  simp only [he, hst, hhit, hage, Bool.false_eq_true, if_false]

theorem State.ageingVisit_of_old (hage : bitAt ((s.slice i).marks.getD n 0) 1 = true) :
    s.ageingVisit i n = (s.fdbRemove i fun k _ => k == n).1.count (Reg.SLC_CNT i 5) := by
  unfold State.ageingVisit
  simp only [he, hst, hhit, hage, if_true, Bool.false_eq_true, if_false]

theorem execAgeingVisit_removes (hi : i < 4) (hon : s.learns i = true) (hage : bitAt ((s.slice i).marks.getD n 0) 1 = true) :
    NextWith (exec (.ageingVisit i n) s) fun t =>
      (t.slice i).fdb.get? n = none ∧ (∀ m, m ≠ n → (t.slice i).fdb.get? m = (s.slice i).fdb.get? m) ∧
      t.rd (Reg.SLC_CNT i 5) = s.rd (Reg.SLC_CNT i 5) + 1 ∧ KeepsRep [Reg.SLC_CNT i 5, Reg.SLC_TBL_VER i] [.slices, .scans] s t := by
  refine .of_eq (exec_ageingVisit_of_sweeps n hi (State.sweeps_of_learns hon)) ?_
  rw [State.ageingVisit_of_old he hst hhit hage, State.slice_count, State.fdb_fdbRemove]
  refine ⟨SMap.get?_filter_ne_self _ n, fun m hm => SMap.get?_filter_ne _ hm, ?_, ?_⟩
  · rw [State.rd_count_self, (KeepsRep.fdbRemove s (own := [Reg.SLC_TBL_VER i]) (ps := [.slices, .scans]) i _ (by simp) (by simp) (by simp)).rd
      (by simpa using Reg.SLC_CNT_ne_TBL_VER i 5) (Reg.SLC_CNT_ge i 5)]
  · exact (KeepsRep.fdbRemove s i _ (by simp) (by simp) (by simp)).trans (Keeps.count _ _ (by simp)).keepsRep

end

/-! ## The second of station moves (R154) -/

/-- The moves of the second are shown, and the next begins at zero. -/
def State.movesShown (s : State) (i : Nat) : State :=
  (s.setSlice i { s.slice i with moves := 0 }).setFld (F.SLC_MOVE.LAST i) (min (s.slice i).moves 0xFFFF)

theorem exec_moveSecondEnd {s : State} {i : Nat} (hi : i < 4) :
    exec (.moveSecondEnd i) s = .next (if s.fld (F.SLC_MOVE.THRESH i) < (s.slice i).moves then
      (s.movesShown i).spoutEvent Sp.FDB_MOVE i 0 (s.slice i).moves else s.movesShown i) := if_neg (Nat.not_le.mpr hi)

theorem Reg.SLC_MOVE_ge (i : Nat) : 0xC00000 ≤ Reg.SLC_MOVE i := by
  unfold Reg.SLC_MOVE
  omega

/-- An event of Spout touches no slice. -/
theorem State.slice_spoutEvent (s : State) (src inst arg data i : Nat) : (s.spoutEvent src inst arg data).slice i = s.slice i :=
  (State.spoutEvent_law (W := maskOf [1, 2, 3]) (P := 0x10000c) (Law.refl _ _ s) src inst arg data (by decide) (by decide)).slice (by decide) i

/-- A report that may follow a change: an event of Spout, where `c` holds. -/
theorem State.reported_shows (s : State) {c : Prop} [Decidable c] (src inst arg data : Nat) {own : List Nat} {ps : List Part} :
    let t := if c then s.spoutEvent src inst arg data else s
    KeepsRep own ps s t ∧ (∀ i, t.slice i = s.slice i) ∧ (¬ c → t = s) := by
  dsimp only
  split
  · exact ⟨.spoutEvent s src inst arg data, s.slice_spoutEvent src inst arg data, fun h => absurd ‹c› h⟩
  · exact ⟨.refl s own ps, fun _ => rfl, fun _ => rfl⟩

theorem execMoveSecondEnd_shows (s : State) {i : Nat} (hi : i < 4) :
    NextWith (exec (.moveSecondEnd i) s) fun t =>
      (t.slice i).moves = 0 ∧ t.fld (F.SLC_MOVE.LAST i) = min (s.slice i).moves 0xFFFF ∧ (t.slice i).fdb = (s.slice i).fdb ∧
      ((s.slice i).moves ≤ s.fld (F.SLC_MOVE.THRESH i) → t.irq = s.irq ∧ t.spout = s.spout) ∧ KeepsRep [Reg.SLC_MOVE i] [.slices] s t := by
  obtain ⟨hkeeps, hslice, hquiet⟩ := (s.movesShown i).reported_shows (c := s.fld (F.SLC_MOVE.THRESH i) < (s.slice i).moves) Sp.FDB_MOVE i 0
    (s.slice i).moves (own := []) (ps := [])
  refine ⟨_, exec_moveSecondEnd hi, ?_⟩
  generalize (if s.fld (F.SLC_MOVE.THRESH i) < (s.slice i).moves then _ else _ : State) = t at hkeeps hslice hquiet ⊢
  have hshown : (s.movesShown i).slice i = { s.slice i with moves := 0 } := s.slice_setSlice_self i _
  rw [hslice, hshown]
  refine ⟨rfl, ?_, rfl, fun h => ?_, ?_⟩
  · rw [hkeeps.fld (F.SLC_MOVE.LAST i) (by simp) (Reg.SLC_MOVE_ge i)]
    refine (State.fld_setFld_self _ (F.SLC_MOVE.LAST i) _ (by decide : 31 < 64) (by decide : 16 ≤ 31)).trans (Nat.mod_eq_of_lt ?_)
    change min _ _ < 65536
    omega
  · rw [hquiet (Nat.not_lt.mpr h)]
    exact ⟨rfl, rfl⟩
  · exact ((Keeps.setSlice s i _ (by simp)).trans (.setFld _ _ _ _ (List.mem_singleton_self _))).keepsRep.trans (hkeeps.mono (by simp) (by simp))

/-! ## Fences (R159) -/

/-- The state in which a fence is set at the version of the tables. -/
def State.fenced (s : State) (i : Nat) (ev : Bool) : State :=
  ((s.setFld (F.SLC_FENCE_VER.F i) (s.fld (F.SLC_TBL_VER.VER i))).setFld (F.SLC_FENCE.DONE i) 0).setFld (F.SLC_FENCE.FENCE_EV i) (b2n ev)

theorem exec_fenceSet_of_lit {s : State} {i : Nat} (ev : Bool) (hi : i < 4) (hopen : s.hostOpen) (hlit : s.slc i ≠ Slc.DARK) :
    exec (.fenceSet i ev) s = .next ((s.received (Acc.direct (Base.SLC i) (Reg.SLC_FENCE i))).fenced i ev) := by
  refine (if_neg (Nat.not_le.mpr hi)).trans (congrArg _ (State.guard_acts hopen _ fun k hk => ?_))
  have hslc : (s.slc i == Slc.DARK) = false := by simpa using hlit
  rw [hslc] at hk
  simp only [Acc.rules, Acc.direct, List.mem_cons, List.not_mem_nil, or_false] at hk
  rcases hk with rfl | rfl | rfl | rfl <;> rfl

theorem Reg.SLC_FENCE_ge (i : Nat) : 0xC00000 ≤ Reg.SLC_FENCE i := by
  unfold Reg.SLC_FENCE
  omega

theorem Reg.SLC_FENCE_ne_VER (i : Nat) : Reg.SLC_FENCE_VER i ≠ Reg.SLC_FENCE i := by
  unfold Reg.SLC_FENCE Reg.SLC_FENCE_VER
  omega

theorem State.fenced_shows (s : State) (i : Nat) (ev : Bool) :
    (s.fenced i ev).fld (F.SLC_FENCE_VER.F i) = s.fld (F.SLC_TBL_VER.VER i) ∧ (s.fenced i ev).fld (F.SLC_FENCE.DONE i) = 0 ∧
      (s.fenced i ev).fld (F.SLC_FENCE.FENCE_EV i) = b2n ev ∧ Keeps [Reg.SLC_FENCE_VER i, Reg.SLC_FENCE i] [] s (s.fenced i ev) := by
  unfold State.fenced
  refine ⟨?_, ?_, ?_, ?_⟩
  · rw [State.fld_setFld_ofs _ (F.SLC_FENCE.FENCE_EV i) (F.SLC_FENCE_VER.F i) _ (Reg.SLC_FENCE_ne_VER i),
      State.fld_setFld_ofs _ (F.SLC_FENCE.DONE i) (F.SLC_FENCE_VER.F i) _ (Reg.SLC_FENCE_ne_VER i)]
    refine (State.fld_setFld_self _ (F.SLC_FENCE_VER.F i) _ (by decide : 31 < 64) (by decide : 0 ≤ 31)).trans (Nat.mod_eq_of_lt ?_)
    exact bitsOf_lt (s.rd (Reg.SLC_TBL_VER i)) 31 0
  · rw [State.fld_setFld_bits _ (F.SLC_FENCE.FENCE_EV i) (F.SLC_FENCE.DONE i) _ (by decide : 2 < 64) (by decide : 2 ≤ 2) (by decide : 1 ≤ 1) rfl
      (.inl (by decide : 1 < 2))]
    exact State.fld_setFld_self _ (F.SLC_FENCE.DONE i) _ (by decide : 1 < 64) (by decide : 1 ≤ 1)
  · refine (State.fld_setFld_self _ (F.SLC_FENCE.FENCE_EV i) _ (by decide : 2 < 64) (by decide : 2 ≤ 2)).trans (Nat.mod_eq_of_lt ?_)
    exact b2n_lt ev
  · exact ((Keeps.setFld s [] (F.SLC_FENCE_VER.F i) _ (List.mem_cons_self ..)).trans (.setFld _ _ (F.SLC_FENCE.DONE i) _ (by simp [F.SLC_FENCE.DONE]))).trans
      (.setFld _ _ (F.SLC_FENCE.FENCE_EV i) _ (by simp [F.SLC_FENCE.FENCE_EV]))

theorem execFenceSet_sets (s : State) {i : Nat} (ev : Bool) (hi : i < 4) (hopen : s.hostOpen) (hlit : s.slc i ≠ Slc.DARK) :
    NextWith (exec (.fenceSet i ev) s) fun t =>
      t.fld (F.SLC_FENCE_VER.F i) = s.fld (F.SLC_TBL_VER.VER i) ∧ t.fld (F.SLC_FENCE.DONE i) = 0 ∧ t.fld (F.SLC_FENCE.FENCE_EV i) = b2n ev ∧
      KeepsRep [Reg.SLC_FENCE_VER i, Reg.SLC_FENCE i] [] s t := by
  refine ⟨_, exec_fenceSet_of_lit ev hi hopen hlit, ?_⟩
  have hreceived := KeepsRep.received s (own := [Reg.SLC_FENCE_VER i, Reg.SLC_FENCE i]) (ps := []) (Acc.direct (Base.SLC i) (Reg.SLC_FENCE i))
  have hver : (s.received (Acc.direct (Base.SLC i) (Reg.SLC_FENCE i))).fld (F.SLC_TBL_VER.VER i) = s.fld (F.SLC_TBL_VER.VER i) :=
    (KeepsRep.received s (own := []) (ps := []) _).fld (F.SLC_TBL_VER.VER i) (by simp) (Reg.SLC_TBL_VER_ge i)
  obtain ⟨hfence, hdone, hev, hkeeps⟩ := (s.received (Acc.direct (Base.SLC i) (Reg.SLC_FENCE i))).fenced_shows i ev
  exact ⟨hfence.trans hver, hdone, hev, hreceived.trans hkeeps.keepsRep⟩

theorem exec_fenceDone_of_clear {s : State} {i : Nat} (hi : i < 4) (hdone : s.fld (F.SLC_FENCE.DONE i) = 0)
    (hclear : s.fenceClear i (s.fld (F.SLC_FENCE_VER.F i)) = true) :
    exec (.fenceDone i) s = .next (if s.fld (F.SLC_FENCE.FENCE_EV i) = 1 then
      (s.setFld (F.SLC_FENCE.DONE i) 1).spoutEvent Sp.FENCE_DONE i 0 (s.fld (F.SLC_FENCE_VER.F i)) else s.setFld (F.SLC_FENCE.DONE i) 1) :=
  (if_neg (Nat.not_le.mpr hi)).trans (if_neg (by simp [hdone, hclear]))

theorem execFenceDone_sets {s : State} {i : Nat} (hi : i < 4) (hdone : s.fld (F.SLC_FENCE.DONE i) = 0)
    (hclear : s.fenceClear i (s.fld (F.SLC_FENCE_VER.F i)) = true) :
    NextWith (exec (.fenceDone i) s) fun t =>
      t.fld (F.SLC_FENCE.DONE i) = 1 ∧ (s.fld (F.SLC_FENCE.FENCE_EV i) = 0 → t.irq = s.irq ∧ t.spout = s.spout) ∧
      KeepsRep [Reg.SLC_FENCE i] [] s t := by
  obtain ⟨hkeeps, -, hquiet⟩ := (s.setFld (F.SLC_FENCE.DONE i) 1).reported_shows (c := s.fld (F.SLC_FENCE.FENCE_EV i) = 1) Sp.FENCE_DONE i 0
    (s.fld (F.SLC_FENCE_VER.F i)) (own := []) (ps := [])
  refine ⟨_, exec_fenceDone_of_clear hi hdone hclear, ?_⟩
  generalize (if s.fld (F.SLC_FENCE.FENCE_EV i) = 1 then _ else _ : State) = t at hkeeps hquiet ⊢
  refine ⟨?_, fun h => ?_, (Keeps.setFld s _ _ _ (List.mem_singleton_self _)).keepsRep.trans (hkeeps.mono (by simp) (by simp))⟩
  · rw [hkeeps.fld (F.SLC_FENCE.DONE i) (by simp) (Reg.SLC_FENCE_ge i)]
    exact State.fld_setFld_self s (F.SLC_FENCE.DONE i) 1 (by decide : 1 < 64) (by decide : 1 ≤ 1)
  · rw [hquiet (by rw [h]; decide)]
    exact ⟨rfl, rfl⟩

theorem execFenceDone_waits {s : State} {i : Nat} (hi : i < 4) (h : s.fenceClear i (s.fld (F.SLC_FENCE_VER.F i)) = false) :
    exec (.fenceDone i) s = .next s := (if_neg (Nat.not_le.mpr hi)).trans (if_pos (.inr h))

/-- Settles O22, clause by clause. -/
theorem stashLearningAgeingAndFences : Obligations.StashLearningAgeingAndFences := by
  unfold Obligations.StashLearningAgeingAndFences
  refine ⟨fun s i n r rest hi hq hon hlg hnone hfree => execLearnRequestApply_places hi hq hon hlg hnone hfree,
    fun s i n e r rest hi hq hon hlg hfind he hst hdest => execLearnRequestApply_moves hi hq hon hlg hfind he hst hdest,
    fun s i n e r rest hi hq hon hfind he hst => execLearnRequestApply_meetsStatic hi hq hfind he hon hst,
    fun s i n e r rest hi hq hfind he hst hgroup hdest => ?_,
    fun s i r rest hi hq hoff => ⟨_, exec_learnRequestApply_of_off hi hq hoff, s.learnLeft_shows i rest⟩,
    fun s i n v e hi hlg hn he hrest hfree => execStashMove_moves he hi hlg hn hrest hfree,
    fun s i n e hi hon he hst hhit => .of_eq (exec_ageingVisit_of_sweeps n hi (State.sweeps_of_learns hon)) ?_,
    fun s i n e hi hon he hst hhit hage => .of_eq (exec_ageingVisit_of_sweeps n hi (State.sweeps_of_learns hon)) ?_,
    fun s i n e hi hon he hst hhit hage => ?_, fun s i n e hi he hst => ⟨s, execAgeingVisit_passesStatic he hi hst, rfl⟩,
    fun s i hi => execMoveSecondEnd_shows s hi, fun s i ev hi hopen hlit => execFenceSet_sets s ev hi hopen hlit,
    fun s i hi hdone hclear => execFenceDone_sets hi hdone hclear, fun s i hi h => ⟨s, execFenceDone_waits hi h, rfl⟩⟩
  · obtain ⟨t, ht, rfl⟩ := execLearnRequestApply_meetsSame hi hq hfind he hst hgroup hdest
    exact ⟨_, ht, s.learnLeft_shows i rest⟩
  · rw [State.ageingVisit_of_hit he hst hhit, State.slice_setSlice_self]
    exact ⟨SMap.get?_del_self _ _, rfl, .setSlice s i _ (by simp)⟩
  · rw [State.ageingVisit_of_young he hst hhit hage, State.slice_setSlice_self]
    exact ⟨SMap.get?_put_self _ _ _, rfl, .setSlice s i _ (by simp)⟩
  · obtain ⟨t, ht, hgone, hothers, hcount, hkeeps⟩ := execAgeingVisit_removes he hst hhit hi hon hage
    exact ⟨t, ht, hgone, fun m _ hm => hothers m hm, hcount, hkeeps⟩

end Sys2Proof.Machine
end

section
/-! The commands of the table access windows (O23): what a counted request leaves of a window and its tables, and what each command does to the
tables and reports. -/

namespace Sys2Proof.Machine

/-! ## Registers of a window -/

theorem Reg.TW_STATUS_ne_TBL_VER (w : Nat) : Reg.TW_STATUS w ≠ Reg.SLC_TBL_VER w := by
  unfold Reg.TW_STATUS Reg.SLC_TBL_VER
  omega

theorem Reg.TW_STATUS_ne_SLC_CNT (w n : Nat) : Reg.TW_STATUS w ≠ Reg.SLC_CNT w n := by
  unfold Reg.TW_STATUS Reg.SLC_CNT
  omega

/-! ## What a counted request leaves -/

section
variable (s : State) (a : Acc) (w : Nat)

theorem State.fld_received (f : Fld) (h : f.ofs < 0xb00200 ∨ 0xC00000 ≤ f.ofs) : (s.received a).fld f = s.fld f :=
  State.fld_of_rd f (s.rd_received a fun n => by unfold Reg.PF_CNT; omega)

@[simp] theorem State.slice_received : (s.received a).slice w = s.slice w := (s.received_law_still a).slice (by decide) w

@[simp] theorem State.cycle_received : (s.received a).cycle = s.cycle := (s.received_law_still a).cycle

@[simp] theorem State.slc_received : (s.received a).slc w = s.slc w := s.fld_received a (F.slcState w) (.inl (by decide : 0x108 < 0xb00200))

@[simp] theorem State.fdbLg_received : (s.received a).fdbLg w = s.fdbLg w :=
  s.fld_received a (F.SLC_CARVE.FDB_LOG2 w) (.inr (by change 0xC00000 ≤ 0x1000220 + 0x400000 * (w % 4); omega))

@[simp] theorem State.version_received : (s.received a).fld (F.SLC_TBL_VER.VER w) = s.fld (F.SLC_TBL_VER.VER w) :=
  s.fld_received a _ (.inr (Reg.SLC_TBL_VER_ge w))

@[simp] theorem State.twIndex_received : (s.received a).fld (F.TW_INDEX.INDEX w) = s.fld (F.TW_INDEX.INDEX w) :=
  s.fld_received a _ (.inr (by change 0xC00000 ≤ 0x3400008 + 0x1000 * (w % 4); omega))

theorem State.twFdb_received {hi lo : Nat} : (s.received a).fld ⟨Reg.TW_FDB w, hi, lo⟩ = s.fld ⟨Reg.TW_FDB w, hi, lo⟩ :=
  s.fld_received a _ (.inr (by change 0xC00000 ≤ 0x3400018 + 0x1000 * (w % 4); omega))

@[simp] theorem State.twGroup_received : (s.received a).fld (F.TW_FDB.GROUP w) = s.fld (F.TW_FDB.GROUP w) := s.twFdb_received a w
@[simp] theorem State.twDest_received : (s.received a).fld (F.TW_FDB.DEST w) = s.fld (F.TW_FDB.DEST w) := s.twFdb_received a w

theorem State.twFlush_received {hi lo : Nat} : (s.received a).fld ⟨Reg.TW_FLUSH w, hi, lo⟩ = s.fld ⟨Reg.TW_FLUSH w, hi, lo⟩ :=
  s.fld_received a _ (.inr (by change 0xC00000 ≤ 0x340001C + 0x1000 * (w % 4); omega))

@[simp] theorem State.twKey_received : (s.received a).twKey w = s.twKey w := by
  unfold State.twKey
  rw [s.fld_received a (F.TW_KEY_HI.VLAN w) (.inr (by change 0xC00000 ≤ 0x3400014 + 0x1000 * (w % 4); omega)),
    s.fld_received a (F.TW_KEY_HI.MAC_HI w) (.inr (by change 0xC00000 ≤ 0x3400014 + 0x1000 * (w % 4); omega)),
    s.fld_received a (F.TW_KEY_LO.MAC_LO w) (.inr (by change 0xC00000 ≤ 0x3400010 + 0x1000 * (w % 4); omega))]

@[simp] theorem State.twData_received (n : Nat) : (s.received a).twData w n = s.twData w n := by
  unfold State.twData
  congr 2
  funext i
  rw [s.fld_received a (F.TW_DATA.DATA w i) (.inr (by change 0xC00000 ≤ 0x3400040 + 0x1000 * (w % 4) + 0x4 * (i % 16); omega))]

end

/-! ## Commands that are checked (R161) -/

/-- Window `w` takes a command: the host reaches it, it is not busy, and its slice is powered and not in RECONF. -/
def State.twOpen (s : State) (w : Nat) : Prop := s.hostOpen ∧ s.fld (F.TW_STATUS.BUSY w) = 0 ∧ s.powered w = true ∧ s.slc w ≠ Slc.RECONF

/-- Its slice may be changed in the class of parameters `c`. -/
def State.twMutable (s : State) (w c : Nat) : Prop := s.slc w ≠ Slc.FAULT ∧ s.isMutable c = true

section
variable {s : State} {w : Nat} (hopen : s.twOpen w)
include hopen

theorem State.twCmd_acts {op table : Nat} (h : ∀ k ∈ s.twChecks w op table false, k.1 = false) :
    s.twCmd (Acc.tw w) w op table false =
      if op = 1 then (s.received (Acc.tw w)).twDoWrite w table else if op = 2 then (s.received (Acc.tw w)).twDoDelete w table
      else if op = 3 then (s.received (Acc.tw w)).twDoRead w table else if op = 4 then (s.received (Acc.tw w)).twDoRaw w table
      else (s.received (Acc.tw w)).twDoFlush w := by
  refine State.guard_acts hopen.1 _ fun k hk => ?_
  simp only [Acc.rules, Acc.tw, Acc.direct, List.mem_cons] at hk
  rcases hk with rfl | rfl | hk
  · rfl
  · rfl
  · exact h k hk

/-- The rules that remain for an open window: the class of the change, its value, its range and its legality. -/
theorem State.twChecks_pass {op table : Nat} (hchange : op = 1 ∨ op = 2 ∨ op = 5 → s.twMutable w (if table = 0 ∨ table = 3 then 0 else 1))
    (hrest : ∀ k ∈ (s.twChecks w op table false).drop 4, k.1 = false) : ∀ k ∈ s.twChecks w op table false, k.1 = false := by
  obtain ⟨-, hbusy, hpower, hslc⟩ := hopen
  intro k hk
  rw [← List.take_append_drop 4 (s.twChecks w op table false), List.mem_append] at hk
  rcases hk with hk | hk
  · by_cases hop : op = 1 ∨ op = 2 ∨ op = 5
    · obtain ⟨hfault, hmut⟩ := hchange hop
      simp only [State.twChecks, List.take_succ_cons, List.take_zero, List.mem_cons, List.not_mem_nil, or_false] at hk
      rcases hk with rfl | rfl | rfl | rfl <;> simp [hbusy, hpower, hslc, hfault, hmut]
    · simp only [not_or] at hop
      simp only [State.twChecks, List.take_succ_cons, List.take_zero, List.mem_cons, List.not_mem_nil, or_false] at hk
      rcases hk with rfl | rfl | rfl | rfl <;> simp [hbusy, hpower, hslc, hop]
  · exact hrest k hk

variable (hw : w < 4)
include hw

theorem exec_twWrite_acts (k : BitVec 2) (hmut : s.twMutable w (if k.toNat = 0 ∨ k.toNat = 3 then 0 else 1))
    (h : ∀ x ∈ (s.twChecks w 1 k.toNat false).drop 4, x.1 = false) :
    exec (.twWrite w k) s = .next ((s.received (Acc.tw w)).twDoWrite w k.toNat) := by
  have hexec : exec (.twWrite w k) s = .next (s.twCmd (Acc.tw w) w 1 k.toNat false) := if_neg (Nat.not_le.mpr hw)
  rw [hexec, State.twCmd_acts hopen (State.twChecks_pass hopen (fun _ => hmut) h), if_pos rfl]

theorem exec_twDelete_acts (k : BitVec 2) (hmut : s.twMutable w (if k.toNat = 0 ∨ k.toNat = 3 then 0 else 1))
    (h : ∀ x ∈ (s.twChecks w 2 k.toNat false).drop 4, x.1 = false) :
    exec (.twDelete w k) s = .next ((s.received (Acc.tw w)).twDoDelete w k.toNat) := by
  have hexec : exec (.twDelete w k) s = .next (s.twCmd (Acc.tw w) w 2 k.toNat false) := if_neg (Nat.not_le.mpr hw)
  rw [hexec, State.twCmd_acts hopen (State.twChecks_pass hopen (fun _ => hmut) h), if_neg (by decide), if_pos rfl]

theorem exec_twRead_acts (k : BitVec 2) (h : ∀ x ∈ (s.twChecks w 3 k.toNat false).drop 4, x.1 = false) :
    exec (.twRead w k) s = .next ((s.received (Acc.tw w)).twDoRead w k.toNat) := by
  have hexec : exec (.twRead w k) s = .next (s.twCmd (Acc.tw w) w 3 k.toNat false) := if_neg (Nat.not_le.mpr hw)
  rw [hexec, State.twCmd_acts hopen (State.twChecks_pass hopen (fun hc => absurd hc (by decide)) h), if_neg (by decide), if_neg (by decide), if_pos rfl]

theorem exec_twRaw_acts (k : BitVec 2) (h : ∀ x ∈ (s.twChecks w 4 k.toNat false).drop 4, x.1 = false) :
    exec (.twRaw w k) s = .next ((s.received (Acc.tw w)).twDoRaw w k.toNat) := by
  have hexec : exec (.twRaw w k) s = .next (s.twCmd (Acc.tw w) w 4 k.toNat false) := if_neg (Nat.not_le.mpr hw)
  rw [hexec, State.twCmd_acts hopen (State.twChecks_pass hopen (fun hc => absurd hc (by decide)) h), if_neg (by decide), if_neg (by decide),
    if_neg (by decide), if_pos rfl]

theorem exec_twFlush_acts (hmut : s.twMutable w 0) : exec (.twFlush w 0) s = .next ((s.received (Acc.tw w)).twDoFlush w) := by
  have hexec : exec (.twFlush w 0) s = .next (s.twCmd (Acc.tw w) w 5 0 false) := if_neg (Nat.not_le.mpr hw)
  have hpass : ∀ x ∈ (s.twChecks w 5 0 false).drop 4, x.1 = false := by simp [State.twChecks]
  rw [hexec, State.twCmd_acts hopen (State.twChecks_pass hopen (table := 0) (fun _ => hmut) hpass), if_neg (by decide), if_neg (by decide), if_neg (by decide),
    if_neg (by decide)]

end

/-! ## The report of a command (R162) -/

section
variable (s : State) (w : Nat) (p : TwPend)

theorem State.slice_twPend : (s.twPend w p).slice w = { s.slice w with tw := some p } := s.slice_setSlice_self w _

theorem State.busy_twPend : (s.twPend w p).fld (F.TW_STATUS.BUSY w) = 1 :=
  State.fld_setFld_self _ (F.TW_STATUS.BUSY w) 1 (by decide : 0 < 64) (by decide : 0 ≤ 0)

theorem State.rd_twPend {a : Nat} (h : a ≠ Reg.TW_STATUS w) : (s.twPend w p).rd a = s.rd a := State.rd_setFld_ne _ (F.TW_STATUS.BUSY w) 1 h

theorem Keeps.twPend {own : List Nat} {ps : List Part} (h : Reg.TW_STATUS w ∈ own) (hs : Part.slices ∈ ps) : Keeps own ps s (s.twPend w p) :=
  (Keeps.setSlice s w _ hs).trans (.setFld _ _ _ _ h)

/-- The report of a command that reads nothing. -/
def TwPend.plain (active : Bool) (result : Nat) : TwPend := ⟨active, result, none, none, none, none⟩

theorem State.twPlain_eq (result : Nat) : s.twPlain w result = s.twPend w (.plain (s.slc w == Slc.ACTIVE) result) := rfl

end

/-- A frame of the tables leaves the state of each slice. -/
theorem KeepsRep.slc {own : List Nat} {ps : List Part} {s t : State} (h : KeepsRep own ps s t) (ho : ∀ a ∈ own, 0xC00000 ≤ a) (i : Nat) :
    t.slc i = s.slc i :=
  State.fld_of_rd (F.slcState i) (h.1 Reg.DEV_SLC_STATE (fun hm => absurd (ho _ hm) (by decide)) (not_reporting_of_lt (by decide) (by decide)))

/-- A change of the tables of slice `w` as one commit, and its report. -/
def State.twCommitted (s : State) (w : Nat) (t : Slice) (ofs len : Nat) : State :=
  (((s.setSlice w t).scanTouch 0 w ofs len).commitN w 1).twPlain w 0

theorem State.twCommitted_shows (s : State) (w : Nat) (t : Slice) (ofs len : Nat) :
    (s.twCommitted w t ofs len).slice w = { t with tw := some (.plain (s.slc w == Slc.ACTIVE) 0) } ∧
      (s.twCommitted w t ofs len).fld (F.TW_STATUS.BUSY w) = 1 ∧
      (s.twCommitted w t ofs len).fld (F.SLC_TBL_VER.VER w) = (s.fld (F.SLC_TBL_VER.VER w) + 1) % 2 ^ 32 ∧
      KeepsRep [Reg.TW_STATUS w, Reg.SLC_TBL_VER w] [.slices, .scans] s (s.twCommitted w t ofs len) := by
  have hcommit : KeepsRep [Reg.SLC_TBL_VER w] [.slices, .scans] s (((s.setSlice w t).scanTouch 0 w ofs len).commitN w 1) :=
    ((Keeps.setSlice s w t (by simp)).trans (.scanTouch _ 0 w ofs len (by simp))).keepsRep.trans (.commitN _ w 1 (by simp))
  unfold State.twCommitted
  rw [State.twPlain_eq, State.slice_twPend, State.slice_commitN, State.slice_scanTouch, State.slice_setSlice_self,
    hcommit.slc (by simpa using Reg.SLC_TBL_VER_ge w)]
  refine ⟨rfl, State.busy_twPend _ w _, ?_, (hcommit.mono (by simp) (by simp)).trans (Keeps.twPend _ w _ (by simp) (by simp)).keepsRep⟩
  exact (State.fld_of_rd (F.SLC_TBL_VER.VER w) (State.rd_twPend _ w _ (Reg.TW_STATUS_ne_TBL_VER w).symm)).trans (State.version_commitN_one _ w)

/-! ## What the commands do -/

section
variable {s : State} {w n : Nat}

/-- The entry that a WRITE asks for. -/
def State.twEntry (s : State) (w : Nat) : FdbEntry := ⟨s.twKey w, true, s.fld (F.TW_FDB.GROUP w) == 1, s.fld (F.TW_FDB.DEST w)⟩

theorem State.twDoWrite_fdb (hlg : 3 ≤ s.fdbLg w)
    (h : (s.slice w).fdbFind (s.fdbLg w) (s.twKey w) = some n ∨ ((s.slice w).fdbFind (s.fdbLg w) (s.twKey w) = none ∧
      (s.slice w).freeOf (fdbWays (s.fdbLg w) 0 (s.twKey w) ++ fdbWays (s.fdbLg w) 1 (s.twKey w)) = some n)) :
    ((s.twDoWrite w 0).slice w).fdb.get? n = some (s.twEntry w) ∧ (s.twDoWrite w 0).fld (F.TW_STATUS.BUSY w) = 1 ∧
      ((s.twDoWrite w 0).slice w).tw = some ⟨s.slc w == Slc.ACTIVE, 0, some (0, false), none, none, none⟩ ∧
      (s.twDoWrite w 0).fld (F.SLC_TBL_VER.VER w) = (s.fld (F.SLC_TBL_VER.VER w) + 1) % 2 ^ 32 ∧
      KeepsRep [Reg.TW_STATUS w, Reg.SLC_TBL_VER w] [.slices, .scans] s (s.twDoWrite w 0) := by
  obtain ⟨t, hplace, hentry⟩ : ∃ t, (s.slice w).fdbPlace (s.fdbLg w) (s.twEntry w) = (t, some (0, false)) ∧ t.fdb.get? n = some (s.twEntry w) := by
    rcases h with hfind | ⟨hnone, hfree⟩
    · exact ⟨_, Slice.fdbPlace_of_found hlg hfind, SMap.get?_put_self _ _ _⟩
    · exact ⟨_, Slice.fdbPlace_of_free hlg hnone hfree, SMap.get?_put_self _ _ _⟩
  obtain ⟨u, hins, hu, hver, hkeeps⟩ := State.fdbInsert_of_placed hplace
  have hdo : s.twDoWrite w 0 = u.twPend w ⟨s.slc w == Slc.ACTIVE, 0, some (0, false), none, none, none⟩ := by
    unfold State.twEntry at hins
    unfold State.twDoWrite
    simp only [if_true, hins]
  rw [hdo, State.slice_twPend, hu]
  refine ⟨hentry, State.busy_twPend u w _, rfl, ?_, ?_⟩
  · exact (State.fld_of_rd (F.SLC_TBL_VER.VER w) (u.rd_twPend w _ (Reg.TW_STATUS_ne_TBL_VER w).symm)).trans hver
  · exact (hkeeps.mono (by simp) (by simp)).trans (Keeps.twPend u w _ (by simp) (by simp)).keepsRep

theorem State.twDoWrite_stream (s : State) (w : Nat) :
    s.twDoWrite w 1 = s.twCommitted w { s.slice w with streams := (s.slice w).streams.setD (s.fld (F.TW_INDEX.INDEX w)) (s.twData w 4) 0 }
      (s.streamOfs w (s.fld (F.TW_INDEX.INDEX w))) 16 := rfl

theorem State.twDoWrite_cls (s : State) (w : Nat) :
    s.twDoWrite w 2 = s.twCommitted w ((s.slice w).clsPut (s.fld (F.TW_INDEX.INDEX w)) (s.twData w 16) s.cycle)
      (s.clsOfs w (s.fld (F.TW_INDEX.INDEX w))) 64 := rfl

theorem State.twDoDelete_stream (s : State) (w : Nat) :
    s.twDoDelete w 1 = s.twCommitted w { s.slice w with streams := (s.slice w).streams.del (s.fld (F.TW_INDEX.INDEX w)) }
      (s.streamOfs w (s.fld (F.TW_INDEX.INDEX w))) 16 := rfl

theorem State.twDoDelete_cls (s : State) (w : Nat) :
    s.twDoDelete w 2 = s.twCommitted w ((s.slice w).clsPut (s.fld (F.TW_INDEX.INDEX w)) 0 s.cycle) (s.clsOfs w (s.fld (F.TW_INDEX.INDEX w))) 64 := rfl

/-- A record that is no FILTER is put as it is. -/
theorem Slice.clsPut_of_other (t : Slice) (m cycle : Nat) {v : Nat} (h : clsType v ≠ 4) :
    t.clsPut m v cycle = { t with cls := t.cls.setD m v 0, meters := if clsType v = 5 then t.meters.put m (meterFull v cycle) else t.meters.del m } := by
  unfold Slice.clsPut
  simp only [h, false_and, if_false]

theorem State.twDoDelete_fdb (h : (s.slice w).fdbFind (s.fdbLg w) (s.twKey w) = some n) :
    ((s.twDoDelete w 0).slice w).fdb.get? n = none ∧ (s.twDoDelete w 0).fld (F.TW_STATUS.BUSY w) = 1 ∧
      ((s.twDoDelete w 0).slice w).tw = some (.plain (s.slc w == Slc.ACTIVE) 0) ∧
      KeepsRep [Reg.TW_STATUS w, Reg.SLC_TBL_VER w] [.slices, .scans] s (s.twDoDelete w 0) := by
  have hdo : s.twDoDelete w 0 = (s.fdbRemove w fun k _ => k == n).1.twPlain w 0 := by
    unfold State.twDoDelete
    simp only [if_true, h]
  have hremove : KeepsRep [Reg.SLC_TBL_VER w] [.slices, .scans] s (s.fdbRemove w fun k _ => k == n).1 := .fdbRemove s w _ (by simp) (by simp) (by simp)
  rw [hdo, State.twPlain_eq, State.slice_twPend, hremove.slc (by simpa using Reg.SLC_TBL_VER_ge w), State.fdb_fdbRemove]
  exact ⟨SMap.get?_filter_ne_self _ n, State.busy_twPend _ w _, rfl,
    (hremove.mono (by simp) (by simp)).trans (Keeps.twPend _ w _ (by simp) (by simp)).keepsRep⟩

/-- The report of an FDB read by key. -/
def State.twFound (s : State) (w : Nat) : TwPend :=
  match (s.slice w).fdbFind (s.fdbLg w) (s.twKey w) with
  | none => ⟨s.slc w == Slc.ACTIVE, 1, none, none, some 0, none⟩
  | some n => ⟨s.slc w == Slc.ACTIVE, 0, none, none, ((s.slice w).fdb.get? n).map ((s.slice w).twFdb (s.fdbLg w) n), none⟩

theorem State.twDoRead_fdb (s : State) (w : Nat) : s.twDoRead w 0 = s.twPend w (s.twFound w) := by
  unfold State.twDoRead State.twFound
  rw [if_pos rfl]
  cases (s.slice w).fdbFind (s.fdbLg w) (s.twKey w) <;> rfl

/-- The report of a raw read of slot `m`. -/
def State.twRawRead (s : State) (w m : Nat) : TwPend :=
  match (s.slice w).fdb.get? m with
  | none => ⟨s.slc w == Slc.ACTIVE, 0, none, some 0, some 0, none⟩
  | some e => ⟨s.slc w == Slc.ACTIVE, 0, none, some e.key, some ((s.slice w).twFdb (s.fdbLg w) m e), none⟩

/-- The slot that RAW reads. -/
def State.twSlot (s : State) (w table : Nat) : Nat :=
  if table = 3 then 2 ^ s.fdbLg w + s.fld (F.TW_INDEX.INDEX w) else s.fld (F.TW_INDEX.INDEX w)

theorem State.twDoRaw_eq (s : State) (w table : Nat) : s.twDoRaw w table = s.twPend w (s.twRawRead w (s.twSlot w table)) := by
  unfold State.twDoRaw State.twRawRead State.twSlot
  dsimp only
  generalize (if table = 3 then 2 ^ s.fdbLg w + s.fld (F.TW_INDEX.INDEX w) else s.fld (F.TW_INDEX.INDEX w)) = m
  cases (s.slice w).fdb.get? m <;> rfl

theorem State.key_twRawRead (s : State) (w m : Nat) : (s.twRawRead w m).key = some ((((s.slice w).fdb.get? m).map (·.key)).getD 0) := by
  unfold State.twRawRead
  split <;> simp [*]

/-- A command that only reads. -/
theorem State.twPend_shows (s : State) (w : Nat) (p : TwPend) :
    ((s.twPend w p).slice w).tw = some p ∧ (s.twPend w p).fld (F.TW_STATUS.BUSY w) = 1 ∧ ((s.twPend w p).slice w).fdb = (s.slice w).fdb ∧
      Keeps [Reg.TW_STATUS w] [.slices] s (s.twPend w p) := by
  rw [State.slice_twPend]
  exact ⟨rfl, s.busy_twPend w p, rfl, .twPend s w p (by simp) (by simp)⟩

/-! ### FLUSH -/

/-- Whether FLUSH selects an entry: by port, by VLAN or both, and static ones only with STATIC_TOO. -/
def State.twSelects (s : State) (w : Nat) (e : FdbEntry) : Bool :=
  (!e.isStatic || s.fld (F.TW_FLUSH.STATIC_TOO w) == 1) &&
    (s.fld (F.TW_FLUSH.PORT_EN w) == 0 || (!e.group && e.dest == s.fld (F.TW_FLUSH.PORT w))) &&
    (s.fld (F.TW_FLUSH.VLAN_EN w) == 0 || e.key / 2 ^ 48 == s.fld (F.TW_FLUSH.VLAN w))

theorem State.twDoFlush_eq (s : State) (w : Nat) :
    s.twDoFlush w = ((s.fdbRemove w fun _ e => s.twSelects w e).1.countN (Reg.SLC_CNT w 6) (s.fdbRemove w fun _ e => s.twSelects w e).2).twPlain w 0 := rfl

theorem State.fld_lt_two (s : State) (a k : Nat) : s.fld ⟨a, k, k⟩ = 0 ∨ s.fld ⟨a, k, k⟩ = 1 := by
  have h : s.fld ⟨a, k, k⟩ < 2 ^ (k + 1 - k) := bitsOf_lt _ k k
  rw [Nat.add_sub_cancel_left] at h
  omega

/-- An entry that FLUSH leaves. -/
theorem State.left_of_not_twSelects {e : FdbEntry} (h : s.twSelects w e = false) :
    (e.isStatic = true ∧ s.fld (F.TW_FLUSH.STATIC_TOO w) = 0) ∨
      (s.fld (F.TW_FLUSH.PORT_EN w) = 1 ∧ (e.group = true ∨ e.dest ≠ s.fld (F.TW_FLUSH.PORT w))) ∨
      (s.fld (F.TW_FLUSH.VLAN_EN w) = 1 ∧ e.key / 2 ^ 48 ≠ s.fld (F.TW_FLUSH.VLAN w)) := by
  unfold State.twSelects at h
  simp only [Bool.and_eq_false_iff, Bool.or_eq_false_iff, Bool.not_eq_false', beq_eq_false_iff_ne] at h
  rcases h with (⟨hst, htoo⟩ | ⟨hen, hport⟩) | ⟨hen, hvlan⟩
  · exact .inl ⟨hst, (s.fld_lt_two _ 22).resolve_right htoo⟩
  · exact .inr (.inl ⟨(s.fld_lt_two _ 8).resolve_left hen, hport⟩)
  · exact .inr (.inr ⟨(s.fld_lt_two _ 21).resolve_left hen, hvlan⟩)

/-- The number of entries that a removal reports. -/
theorem State.fdbRemove_count (s : State) (i : Nat) (p : Nat → FdbEntry → Bool) :
    (s.fdbRemove i p).2 = (s.slice i).fdb.entries.length - ((s.slice i).fdb.filter fun n e => !p n e).entries.length := by
  change ((s.slice i).fdb.filter p).keys.length = _
  have hsplit := List.length_eq_length_filter_add (l := (s.slice i).fdb.entries) fun e => p e.1 e.2
  simp only [SMap.keys, SMap.filter, List.length_map]
  omega

theorem State.twDoFlush_shows (s : State) (w : Nat) :
    (∀ e ∈ ((s.twDoFlush w).slice w).fdb.entries, e ∈ (s.slice w).fdb.entries ∧ s.twSelects w e.2 = false) ∧
      (s.twDoFlush w).fld (F.TW_STATUS.BUSY w) = 1 ∧
      (s.twDoFlush w).rd (Reg.SLC_CNT w 6) = s.rd (Reg.SLC_CNT w 6) +
        BitVec.ofNat 64 ((s.slice w).fdb.entries.length - ((s.twDoFlush w).slice w).fdb.entries.length) ∧
      KeepsRep [Reg.TW_STATUS w, Reg.SLC_TBL_VER w, Reg.SLC_CNT w 6] [.slices, .scans] s (s.twDoFlush w) := by
  have hremove : KeepsRep [Reg.SLC_TBL_VER w] [.slices, .scans] s (s.fdbRemove w fun _ e => s.twSelects w e).1 := .fdbRemove s w _ (by simp) (by simp) (by simp)
  rw [State.twDoFlush_eq, State.twPlain_eq, State.slice_twPend, State.slice_countN, State.fdb_fdbRemove,
    State.rd_twPend _ _ _ (Reg.TW_STATUS_ne_SLC_CNT w 6).symm, State.rd_countN_self, State.fdbRemove_count,
    hremove.rd (by simpa using Reg.SLC_CNT_ne_TBL_VER w 6) (Reg.SLC_CNT_ge w 6)]
  refine ⟨fun e he => ?_, State.busy_twPend _ w _, rfl, ?_⟩
  · obtain ⟨hmem, hsel⟩ := List.mem_filter.mp he
    exact ⟨hmem, by simpa using hsel⟩
  · exact (hremove.mono (by simp) (by simp)).trans ((Keeps.wr _ _ _ (by simp)).trans (Keeps.twPend _ w _ (by simp) (by simp))).keepsRep

end

end Sys2Proof.Machine
end

section
/-! The table access windows (O23): the commands of an open window, clause by clause, and the end of a command. -/

namespace Sys2Proof.Machine

/-! ## Commands that act (R161) -/

/-- A command whose effect is one commit. -/
theorem NextWith.of_committed {s : State} {w : Nat} {o : Host.Outcome State Fault Refusal} {a : Acc} {t : Slice} {ofs len : Nat}
    (h : o = .next ((s.received a).twCommitted w t ofs len)) :
    NextWith o fun u => u.slice w = { t with tw := some (.plain (s.slc w == Slc.ACTIVE) 0) } ∧ u.fld (F.TW_STATUS.BUSY w) = 1 ∧
      u.fld (F.SLC_TBL_VER.VER w) = (s.fld (F.SLC_TBL_VER.VER w) + 1) % 2 ^ 32 ∧
      KeepsRep [Reg.TW_STATUS w, Reg.SLC_TBL_VER w] [.slices, .scans] s u := by
  obtain ⟨hslice, hbusy, hver, hkeeps⟩ := (s.received a).twCommitted_shows w t ofs len
  rw [State.slc_received] at hslice
  rw [State.version_received] at hver
  exact .of_eq h ⟨hslice, hbusy, hver, (KeepsRep.received s a).trans hkeeps⟩

/-- A command whose effect is its report. -/
theorem NextWith.of_report {s : State} {w : Nat} {o : Host.Outcome State Fault Refusal} {a : Acc} {p : TwPend} (h : o = .next ((s.received a).twPend w p)) :
    NextWith o fun t => (t.slice w).tw = some p ∧ t.fld (F.TW_STATUS.BUSY w) = 1 ∧ (t.slice w).fdb = (s.slice w).fdb ∧
      KeepsRep [Reg.TW_STATUS w] [.slices] s t := by
  obtain ⟨htw, hbusy, hfdb, hkeeps⟩ := (s.received a).twPend_shows w p
  exact .of_eq h ⟨htw, hbusy, hfdb.trans (congrArg Slice.fdb (s.slice_received a w)), (KeepsRep.received s a).trans hkeeps.keepsRep⟩

section
variable {s : State} {w n : Nat} (hopen : s.twOpen w) (hw : w < 4)
include hopen hw

theorem execTwWrite_fdb (hmut : s.twMutable w 0) (hlg : 3 ≤ s.fdbLg w) (hdest : s.fld (F.TW_FDB.GROUP w) = 1 ∨ s.portUsed (s.fld (F.TW_FDB.DEST w)) = true)
    (hslot : (s.slice w).fdbFind (s.fdbLg w) (s.twKey w) = some n ∨ ((s.slice w).fdbFind (s.fdbLg w) (s.twKey w) = none ∧
      (s.slice w).freeOf (fdbWays (s.fdbLg w) 0 (s.twKey w) ++ fdbWays (s.fdbLg w) 1 (s.twKey w)) = some n)) :
    NextWith (exec (.twWrite w 0) s) fun t =>
      (t.slice w).fdb.get? n = some (s.twEntry w) ∧ t.fld (F.TW_STATUS.BUSY w) = 1 ∧
      (t.slice w).tw = some ⟨s.slc w == Slc.ACTIVE, 0, some (0, false), none, none, none⟩ ∧
      t.fld (F.SLC_TBL_VER.VER w) = (s.fld (F.SLC_TBL_VER.VER w) + 1) % 2 ^ 32 ∧
      KeepsRep [Reg.TW_STATUS w, Reg.SLC_TBL_VER w] [.slices, .scans] s t := by
  have hlegal : ∀ x ∈ (s.twChecks w 1 (0 : BitVec 2).toNat false).drop 4, x.1 = false := by
    rcases hdest with h | h <;> simp [State.twChecks, h]
  obtain ⟨hentry, hbusy, htw, hver, hkeeps⟩ :=
    State.twDoWrite_fdb (s := s.received (Acc.tw w)) (w := w) (n := n) (by simpa using hlg) (by simpa using hslot)
  refine .of_eq (exec_twWrite_acts hopen hw 0 hmut hlegal) ⟨?_, hbusy, ?_, ?_, (KeepsRep.received s _).trans hkeeps⟩
  · simpa [State.twEntry] using hentry
  · simpa using htw
  · simpa using hver

theorem execTwWrite_stream (hmut : s.twMutable w 1) (hrange : s.fld (F.TW_INDEX.INDEX w) < s.streamEntries w)
    (hvalue : strIllegal (s.streamEntries w) (s.fld (F.TW_INDEX.INDEX w)) (s.twData w 4) = false) :
    NextWith (exec (.twWrite w 1) s) fun t =>
      (t.slice w).streams.getD (s.fld (F.TW_INDEX.INDEX w)) 0 = s.twData w 4 ∧ (t.slice w).fdb = (s.slice w).fdb ∧
      t.fld (F.TW_STATUS.BUSY w) = 1 ∧ t.fld (F.SLC_TBL_VER.VER w) = (s.fld (F.SLC_TBL_VER.VER w) + 1) % 2 ^ 32 ∧
      KeepsRep [Reg.TW_STATUS w, Reg.SLC_TBL_VER w] [.slices, .scans] s t := by
  have hlegal : ∀ x ∈ (s.twChecks w 1 (1 : BitVec 2).toNat false).drop 4, x.1 = false := by simp [State.twChecks, hrange, hvalue]
  obtain ⟨u, hu, hslice, hrest⟩ :=
    NextWith.of_committed ((exec_twWrite_acts hopen hw 1 hmut hlegal).trans (congrArg _ (State.twDoWrite_stream _ w)))
  refine ⟨u, hu, ?_⟩
  simp only [hslice, State.slice_received, State.twIndex_received, State.twData_received]
  exact ⟨SMap.getD_setD_self _ _ _ _, trivial, hrest⟩

theorem execTwWrite_cls (hmut : s.twMutable w 1)
    (hlimit : s.fld (F.TW_INDEX.INDEX w) < clsLimit (s.clsEntries w) (clsType (s.twData w 16))) (hrange : s.fld (F.TW_INDEX.INDEX w) < s.clsEntries w)
    (hzero : clsZero (s.twData w 16) = false) (hvalue : s.clsIllegal w (s.twData w 16) = false) (htype : clsType (s.twData w 16) ≠ 4) :
    NextWith (exec (.twWrite w 2) s) fun t =>
      (t.slice w).cls.getD (s.fld (F.TW_INDEX.INDEX w)) 0 = s.twData w 16 ∧
      (clsType (s.twData w 16) = 5 → (t.slice w).meters.get? (s.fld (F.TW_INDEX.INDEX w)) = some (meterFull (s.twData w 16) s.cycle)) ∧
      (t.slice w).fdb = (s.slice w).fdb ∧ t.fld (F.TW_STATUS.BUSY w) = 1 ∧
      KeepsRep [Reg.TW_STATUS w, Reg.SLC_TBL_VER w] [.slices, .scans] s t := by
  have hlegal : ∀ x ∈ (s.twChecks w 1 (2 : BitVec 2).toNat false).drop 4, x.1 = false := by simp [State.twChecks, hrange, hlimit, hzero, hvalue]
  obtain ⟨u, hu, hslice, hbusy, -, hkeeps⟩ :=
    NextWith.of_committed ((exec_twWrite_acts hopen hw 2 hmut hlegal).trans (congrArg _ (State.twDoWrite_cls _ w)))
  refine ⟨u, hu, ?_⟩
  simp only [hslice, State.twData_received, State.twIndex_received, State.cycle_received, State.slice_received, Slice.clsPut_of_other _ _ _ htype]
  refine ⟨?_, fun h => ?_, trivial, hbusy, hkeeps⟩
  · simp only [SMap.getD_setD_self]
  · simp only [if_pos h, SMap.get?_put_self]

theorem execTwDelete_fdb (hmut : s.twMutable w 0) (hfind : (s.slice w).fdbFind (s.fdbLg w) (s.twKey w) = some n) :
    NextWith (exec (.twDelete w 0) s) fun t =>
      (t.slice w).fdb.get? n = none ∧ t.fld (F.TW_STATUS.BUSY w) = 1 ∧ (t.slice w).tw = some (.plain (s.slc w == Slc.ACTIVE) 0) ∧
      KeepsRep [Reg.TW_STATUS w, Reg.SLC_TBL_VER w] [.slices, .scans] s t := by
  have hlegal : ∀ x ∈ (s.twChecks w 2 (0 : BitVec 2).toNat false).drop 4, x.1 = false := by simp [State.twChecks]
  obtain ⟨hgone, hbusy, htw, hkeeps⟩ := State.twDoDelete_fdb (s := s.received (Acc.tw w)) (w := w) (n := n) (by simpa using hfind)
  exact .of_eq (exec_twDelete_acts hopen hw 0 hmut hlegal) ⟨hgone, hbusy, by simpa using htw, (KeepsRep.received s _).trans hkeeps⟩

theorem execTwDelete_stream (hmut : s.twMutable w 1) (hrange : s.fld (F.TW_INDEX.INDEX w) < s.streamEntries w) :
    NextWith (exec (.twDelete w 1) s) fun t =>
      (t.slice w).streams.getD (s.fld (F.TW_INDEX.INDEX w)) 0 = 0 ∧ t.fld (F.TW_STATUS.BUSY w) = 1 ∧ (t.slice w).fdb = (s.slice w).fdb ∧
      KeepsRep [Reg.TW_STATUS w, Reg.SLC_TBL_VER w] [.slices, .scans] s t := by
  have hlegal : ∀ x ∈ (s.twChecks w 2 (1 : BitVec 2).toNat false).drop 4, x.1 = false := by simp [State.twChecks, hrange]
  obtain ⟨u, hu, hslice, hbusy, -, hkeeps⟩ :=
    NextWith.of_committed ((exec_twDelete_acts hopen hw 1 hmut hlegal).trans (congrArg _ (State.twDoDelete_stream _ w)))
  refine ⟨u, hu, ?_⟩
  simp only [hslice, State.slice_received, State.twIndex_received]
  exact ⟨by simp [SMap.getD], hbusy, trivial, hkeeps⟩

theorem execTwDelete_cls (hmut : s.twMutable w 1) (hrange : s.fld (F.TW_INDEX.INDEX w) < s.clsEntries w) :
    NextWith (exec (.twDelete w 2) s) fun t =>
      (t.slice w).cls.getD (s.fld (F.TW_INDEX.INDEX w)) 0 = 0 ∧ t.fld (F.TW_STATUS.BUSY w) = 1 ∧ (t.slice w).fdb = (s.slice w).fdb ∧
      KeepsRep [Reg.TW_STATUS w, Reg.SLC_TBL_VER w] [.slices, .scans] s t := by
  have hlegal : ∀ x ∈ (s.twChecks w 2 (2 : BitVec 2).toNat false).drop 4, x.1 = false := by simp [State.twChecks, hrange]
  obtain ⟨u, hu, hslice, hbusy, -, hkeeps⟩ :=
    NextWith.of_committed ((exec_twDelete_acts hopen hw 2 hmut hlegal).trans (congrArg _ (State.twDoDelete_cls _ w)))
  refine ⟨u, hu, ?_⟩
  simp only [hslice, State.slice_received, State.twIndex_received, Slice.clsPut_of_other _ _ _ (by decide : clsType 0 ≠ 4)]
  exact ⟨SMap.getD_setD_self _ _ _ _, hbusy, trivial, hkeeps⟩

/-! ## Commands that report (R162) -/

theorem execTwRead_fdb :
    NextWith (exec (.twRead w 0) s) fun t => (t.slice w).tw = some (s.twFound w) ∧ t.fld (F.TW_STATUS.BUSY w) = 1 ∧
      (t.slice w).fdb = (s.slice w).fdb ∧ KeepsRep [Reg.TW_STATUS w] [.slices] s t := by
  have hlegal : ∀ x ∈ (s.twChecks w 3 (0 : BitVec 2).toNat false).drop 4, x.1 = false := by simp [State.twChecks]
  have hfound : (s.received (Acc.tw w)).twFound w = s.twFound w := by
    unfold State.twFound
    simp only [State.slice_received, State.fdbLg_received, State.twKey_received, State.slc_received]
  exact .of_report ((exec_twRead_acts hopen hw 0 hlegal).trans (congrArg _ ((State.twDoRead_fdb _ w).trans (by rw [hfound]))))

theorem execTwRead_record (k : BitVec 2) (hk : k = 1 ∨ k = 2) (hstream : k = 1 → s.fld (F.TW_INDEX.INDEX w) < s.streamEntries w)
    (hcls : k = 2 → s.fld (F.TW_INDEX.INDEX w) < s.clsEntries w) :
    NextWith (exec (.twRead w k) s) fun t =>
      (t.slice w).tw = some ⟨s.slc w == Slc.ACTIVE, 0, none, none, none, some (if k = 1 then (4, s.streamEntry w (s.fld (F.TW_INDEX.INDEX w)))
        else (16, s.clsRecord w (s.fld (F.TW_INDEX.INDEX w))))⟩ ∧ t.fld (F.TW_STATUS.BUSY w) = 1 ∧ (t.slice w).fdb = (s.slice w).fdb ∧
      KeepsRep [Reg.TW_STATUS w] [.slices] s t := by
  have hlegal : ∀ x ∈ (s.twChecks w 3 k.toNat false).drop 4, x.1 = false := by
    rcases hk with rfl | rfl
    · simp [State.twChecks, hstream rfl]
    · simp [State.twChecks, hcls rfl]
  refine .of_report (a := Acc.tw w) ((exec_twRead_acts hopen hw k hlegal).trans (congrArg _ ?_))
  rcases hk with rfl | rfl <;> simp [State.twDoRead, State.streamEntry, State.clsRecord]

theorem execTwRaw_shows (k : BitVec 2) (hk : k = 0 ∨ k = 3) (hslot : k = 0 → s.fld (F.TW_INDEX.INDEX w) < 2 ^ s.fdbLg w)
    (hstash : k = 3 → s.fld (F.TW_INDEX.INDEX w) < 8) :
    NextWith (exec (.twRaw w k) s) fun t =>
      t.fld (F.TW_STATUS.BUSY w) = 1 ∧
      (t.slice w).tw.map (·.key) = some (some ((((s.slice w).fdb.get? (s.twSlot w k.toNat)).map (·.key)).getD 0)) ∧
      (t.slice w).fdb = (s.slice w).fdb ∧ KeepsRep [Reg.TW_STATUS w] [.slices] s t := by
  have hlegal : ∀ x ∈ (s.twChecks w 4 k.toNat false).drop 4, x.1 = false := by
    rcases hk with rfl | rfl
    · simp [State.twChecks, hslot rfl]
    · simp [State.twChecks, hstash rfl]
  have hread : (s.received (Acc.tw w)).twSlot w k.toNat = s.twSlot w k.toNat := by
    unfold State.twSlot
    rw [State.fdbLg_received, State.twIndex_received]
  obtain ⟨t, ht, htw, hbusy, hrest⟩ := NextWith.of_report ((exec_twRaw_acts hopen hw k hlegal).trans (congrArg _ (State.twDoRaw_eq _ w k.toNat)))
  refine ⟨t, ht, hbusy, ?_, hrest⟩
  rw [htw, Option.map_some, State.key_twRawRead, hread, State.slice_received]

theorem execTwFlush_shows (hmut : s.twMutable w 0) :
    NextWith (exec (.twFlush w 0) s) fun t =>
      (∀ e ∈ (t.slice w).fdb.entries, e ∈ (s.slice w).fdb.entries ∧ s.twSelects w e.2 = false) ∧ t.fld (F.TW_STATUS.BUSY w) = 1 ∧
      t.rd (Reg.SLC_CNT w 6) = s.rd (Reg.SLC_CNT w 6) + BitVec.ofNat 64 ((s.slice w).fdb.entries.length - (t.slice w).fdb.entries.length) ∧
      KeepsRep [Reg.TW_STATUS w, Reg.SLC_TBL_VER w, Reg.SLC_CNT w 6] [.slices, .scans] s t := by
  obtain ⟨hleft, hbusy, hcount, hkeeps⟩ := (s.received (Acc.tw w)).twDoFlush_shows w
  have hreceived := KeepsRep.received s (own := []) (ps := []) (Acc.tw w)
  have hsel : ∀ e, (s.received (Acc.tw w)).twSelects w e = s.twSelects w e := fun e => by
    unfold State.twSelects
    simp only [F.TW_FLUSH.STATIC_TOO, F.TW_FLUSH.PORT_EN, F.TW_FLUSH.PORT, F.TW_FLUSH.VLAN_EN, F.TW_FLUSH.VLAN, State.twFlush_received]
  rw [State.slice_received, hreceived.rd (by simp) (Reg.SLC_CNT_ge w 6)] at hcount
  refine .of_eq (exec_twFlush_acts hopen hw hmut) ⟨fun e he => ?_, hbusy, hcount, (KeepsRep.received s _).trans hkeeps⟩
  obtain ⟨hmem, hnot⟩ := hleft e he
  exact ⟨by simpa using hmem, (hsel e.2).symm.trans hnot⟩

end

end Sys2Proof.Machine
end

section
/-! The end of a window command (O23): what it ends, and what of its report each register of the window shows. -/

namespace Sys2Proof.Machine

section
variable {own : List Nat} {ps : List Part} {s t : State}

theorem Keeps.fld (h : Keeps own ps s t) (f : Fld) (hf : f.ofs ∉ own) : t.fld f = s.fld f := State.fld_of_rd f (h.1 f.ofs hf)

theorem Keeps.slice (h : Keeps own ps s t) (hs : Part.slices ∉ ps) (i : Nat) : t.slice i = s.slice i := congrArg (SMap.getD · i Slice.fresh) (h.2 .slices hs)

end

/-! ## The end of a command, part by part (R162) -/

/-- Window `w` is free again. -/
def State.twEnded (s : State) (w : Nat) : State :=
  ((s.setSlice w { s.slice w with tw := none }).setFld (F.TW_STATUS.BUSY w) 0).wrapAdd (F.TW_STATUS.SEQ w) 1

/-- Its status shows the moves of an insertion. -/
def State.twInsShown (s : State) (w : Nat) : Option (Nat × Bool) → State
  | none => s
  | some (m, st) => (s.setFld (F.TW_STATUS.MOVES w) m).setFld (F.TW_STATUS.STASHED w) (b2n st)

/-- Its registers show a key. -/
def State.twKeyShown (s : State) (w : Nat) : Option Nat → State
  | none => s
  | some k => ((s.setFld (F.TW_KEY_LO.MAC_LO w) k).setFld (F.TW_KEY_HI.MAC_HI w) (k / 2 ^ 32)).setFld (F.TW_KEY_HI.VLAN w) (k / 2 ^ 48)

/-- Its register shows the fields of an entry. -/
def State.twFdbShown (s : State) (w : Nat) : Option Nat → State
  | none => s
  | some v => s.wr (Reg.TW_FDB w) (BitVec.ofNat 64 v)

/-- Its data registers show the image `v` of `n` double words. -/
def State.twWordsShown (s : State) (w n v : Nat) : State :=
  (List.range n).foldl (fun t i => t.setFld (F.TW_DATA.DATA w i) (v / 2 ^ (32 * i))) s

/-- Its data registers show a record. -/
def State.twDataShown (s : State) (w : Nat) : Option (Nat × Nat) → State
  | none => s
  | some (n, v) => s.twWordsShown w n v

/-- The status of a command that is not aborted. -/
def State.twStatusShown (s : State) (w : Nat) (p : TwPend) : State := ((s.twEnded w).setFld (F.TW_STATUS.RESULT w) p.result).twInsShown w p.ins

/-- The registers that show what it reports. -/
def State.twReportShown (s : State) (w : Nat) (p : TwPend) : State := ((s.twKeyShown w p.key).twFdbShown w p.fdb).twDataShown w p.data

theorem State.twDone_aborted (s : State) {w : Nat} {p : TwPend} (hactive : p.active = true) (hslc : s.slc w ≠ Slc.ACTIVE) :
    s.twDone w p = (s.twEnded w).setFld (F.TW_STATUS.RESULT w) 3 := if_pos (by simp [hactive, hslc])

theorem State.twDone_kept (s : State) {w : Nat} {p : TwPend} (h : p.active = true → s.slc w = Slc.ACTIVE) :
    s.twDone w p = (s.twStatusShown w p).twReportShown w p := (if_neg (by simpa using h)).trans rfl

theorem exec_twCommandDone_of {s : State} {w : Nat} {p : TwPend} (hw : w < 4) (h : (s.slice w).tw = some p) :
    exec (.twCommandDone w) s = .next (s.twDone w p) := by
  change execTwCommandDone w s = _
  unfold execTwCommandDone
  rw [if_neg (Nat.not_le.mpr hw), h]

/-! ## What each part shows -/

section
variable (s : State) (w : Nat)

theorem State.result_setFld {n : Nat} (h : n < 4) : (s.setFld (F.TW_STATUS.RESULT w) n).fld (F.TW_STATUS.RESULT w) = n :=
  (State.fld_setFld_self _ (F.TW_STATUS.RESULT w) n (by decide : 6 < 64) (by decide : 4 ≤ 6)).trans
    (Nat.mod_eq_of_lt (show n < 2 ^ (6 + 1 - 4) by omega))

theorem State.busy_freed (n : Nat) : ((s.setFld (F.TW_STATUS.BUSY w) 0).setFld (F.TW_STATUS.SEQ w) n).fld (F.TW_STATUS.BUSY w) = 0 :=
  (State.fld_setFld_bits _ (F.TW_STATUS.SEQ w) (F.TW_STATUS.BUSY w) _ (by decide : 31 < 64) (by decide : 16 ≤ 31) (by decide : 0 ≤ 0) rfl
    (.inl (by decide : 0 < 16))).trans (State.fld_setFld_self _ (F.TW_STATUS.BUSY w) 0 (by decide : 0 < 64) (by decide : 0 ≤ 0))

theorem State.seq_freed : (s.setFld (F.TW_STATUS.BUSY w) 0).fld (F.TW_STATUS.SEQ w) = s.fld (F.TW_STATUS.SEQ w) :=
  State.fld_setFld_bits _ (F.TW_STATUS.BUSY w) (F.TW_STATUS.SEQ w) 0 (by decide : 0 < 64) (by decide : 0 ≤ 0) (by decide : 16 ≤ 31) rfl
    (.inr (by decide : 0 < 16))

theorem State.twEnded_shows :
    (s.twEnded w).slice w = { s.slice w with tw := none } ∧ (s.twEnded w).fld (F.TW_STATUS.BUSY w) = 0 ∧
      (s.twEnded w).fld (F.TW_STATUS.SEQ w) = (s.fld (F.TW_STATUS.SEQ w) + 1) % 2 ^ 16 ∧ Keeps [Reg.TW_STATUS w] [.slices] s (s.twEnded w) := by
  have hset := Keeps.setSlice s (own := []) (ps := [.slices]) w { s.slice w with tw := none } (by simp)
  unfold State.twEnded State.wrapAdd
  refine ⟨?_, State.busy_freed _ w _, ?_, ?_⟩
  · rw [State.slice_setFld, State.slice_setFld, State.slice_setSlice_self]
  · rw [State.seq_freed, hset.fld (F.TW_STATUS.SEQ w) (by simp)]
    exact State.fld_setFld_self _ (F.TW_STATUS.SEQ w) _ (by decide : 31 < 64) (by decide : 16 ≤ 31)
  · exact (hset.mono (by simp) (by simp)).trans ((Keeps.setFld _ _ _ _ (by simp [F.TW_STATUS.BUSY])).trans
      (.setFld _ _ _ _ (by simp [F.TW_STATUS.SEQ])))

theorem State.twInsShown_kept (ins : Option (Nat × Bool)) : Keeps [Reg.TW_STATUS w] [] s (s.twInsShown w ins) := by
  cases ins with
  | none => exact .refl s _ _
  | some x => exact (Keeps.setFld s _ (F.TW_STATUS.MOVES w) _ (by simp [F.TW_STATUS.MOVES])).trans (.setFld _ _ _ _ (by simp [F.TW_STATUS.STASHED]))

/-- The moves of an insertion stand in bits 13:7 of the status. -/
theorem State.fld_twInsShown (ins : Option (Nat × Bool)) {hi lo : Nat} (h : lo ≤ hi) (hoff : hi < 7 ∨ 13 < lo) :
    (s.twInsShown w ins).fld ⟨Reg.TW_STATUS w, hi, lo⟩ = s.fld ⟨Reg.TW_STATUS w, hi, lo⟩ := by
  cases ins with
  | none => rfl
  | some x =>
    exact (State.fld_setFld_bits _ (F.TW_STATUS.STASHED w) ⟨Reg.TW_STATUS w, hi, lo⟩ _ (by decide : 7 < 64) (by decide : 7 ≤ 7) h rfl
        (show hi < 7 ∨ 7 < lo by omega)).trans
      (State.fld_setFld_bits _ (F.TW_STATUS.MOVES w) ⟨Reg.TW_STATUS w, hi, lo⟩ _ (by decide : 13 < 64) (by decide : 8 ≤ 13) h rfl
        (show hi < 8 ∨ 13 < lo by omega))

theorem State.twKeyShown_kept (key : Option Nat) : Keeps [Reg.TW_KEY_LO w, Reg.TW_KEY_HI w] [] s (s.twKeyShown w key) := by
  cases key with
  | none => exact .refl s _ _
  | some k =>
    exact (Keeps.setFld s _ (F.TW_KEY_LO.MAC_LO w) _ (by simp [F.TW_KEY_LO.MAC_LO])).trans
      ((Keeps.setFld _ _ (F.TW_KEY_HI.MAC_HI w) _ (by simp [F.TW_KEY_HI.MAC_HI])).trans (.setFld _ _ _ _ (by simp [F.TW_KEY_HI.VLAN])))

theorem State.twKey_twKeyShown (k : Nat) : (s.twKeyShown w (some k)).twKey w = k % 2 ^ 60 := by
  have hofs : Reg.TW_KEY_LO w ≠ Reg.TW_KEY_HI w := by
    unfold Reg.TW_KEY_LO Reg.TW_KEY_HI
    omega
  have hvlan : (s.twKeyShown w (some k)).fld (F.TW_KEY_HI.VLAN w) = k / 2 ^ 48 % 2 ^ 12 :=
    State.fld_setFld_self _ (F.TW_KEY_HI.VLAN w) _ (by decide : 27 < 64) (by decide : 16 ≤ 27)
  have hhi : (s.twKeyShown w (some k)).fld (F.TW_KEY_HI.MAC_HI w) = k / 2 ^ 32 % 2 ^ 16 :=
    (State.fld_setFld_bits _ (F.TW_KEY_HI.VLAN w) (F.TW_KEY_HI.MAC_HI w) _ (by decide : 27 < 64) (by decide : 16 ≤ 27) (by decide : 0 ≤ 15) rfl
      (.inl (by decide : 15 < 16))).trans (State.fld_setFld_self _ (F.TW_KEY_HI.MAC_HI w) _ (by decide : 15 < 64) (by decide : 0 ≤ 15))
  have hlo : (s.twKeyShown w (some k)).fld (F.TW_KEY_LO.MAC_LO w) = k % 2 ^ 32 :=
    (State.fld_setFld_ofs _ (F.TW_KEY_HI.VLAN w) (F.TW_KEY_LO.MAC_LO w) _ hofs).trans
      ((State.fld_setFld_ofs _ (F.TW_KEY_HI.MAC_HI w) (F.TW_KEY_LO.MAC_LO w) _ hofs).trans
        (State.fld_setFld_self _ (F.TW_KEY_LO.MAC_LO w) _ (by decide : 31 < 64) (by decide : 0 ≤ 31)))
  unfold State.twKey fdbKey
  rw [hvlan, hhi, hlo]
  omega

theorem State.twFdbShown_kept (fdb : Option Nat) : Keeps [Reg.TW_FDB w] [] s (s.twFdbShown w fdb) := by
  cases fdb with
  | none => exact .refl s _ _
  | some v => exact .wr s _ _ (by simp)

/-- The data registers of window `w`. -/
def Reg.twDataRegs (w : Nat) : List Nat := (List.range 16).map (Reg.TW_DATA w)

theorem Reg.TW_DATA_mem (w i : Nat) : Reg.TW_DATA w i ∈ Reg.twDataRegs w :=
  List.mem_map.mpr ⟨i % 16, List.mem_range.mpr (Nat.mod_lt _ (by decide)), by unfold Reg.TW_DATA; rw [Nat.mod_mod]⟩

theorem State.twWordsShown_succ (n v : Nat) :
    s.twWordsShown w (n + 1) v = (s.twWordsShown w n v).setFld (F.TW_DATA.DATA w n) (v / 2 ^ (32 * n)) := by
  simp only [State.twWordsShown, List.range_succ, List.foldl_append, List.foldl_cons, List.foldl_nil]

theorem State.twWordsShown_kept (n v : Nat) : Keeps (Reg.twDataRegs w) [] s (s.twWordsShown w n v) := by
  induction n with
  | zero => exact .refl s _ _
  | succ n ih =>
    rw [State.twWordsShown_succ]
    exact ih.trans (.setFld _ _ _ _ (Reg.TW_DATA_mem w n))

theorem State.twDataShown_kept (data : Option (Nat × Nat)) : Keeps (Reg.twDataRegs w) [] s (s.twDataShown w data) := by
  cases data with
  | none => exact .refl s _ _
  | some x => exact s.twWordsShown_kept w x.1 x.2

/-- Each double word of the image stands in its register. -/
theorem State.fld_twWordsShown (v : Nat) {n i : Nat} (hn : n ≤ 16) (hi : i < n) :
    (s.twWordsShown w n v).fld (F.TW_DATA.DATA w i) = v / 2 ^ (32 * i) % 2 ^ 32 := by
  induction n with
  | zero => exact absurd hi (Nat.not_lt_zero i)
  | succ n ih =>
    rw [State.twWordsShown_succ]
    rcases Nat.lt_succ_iff_lt_or_eq.mp hi with hlt | rfl
    · refine (State.fld_setFld_ofs _ _ _ _ ?_).trans (ih (by omega) hlt)
      change Reg.TW_DATA w i ≠ Reg.TW_DATA w n
      unfold Reg.TW_DATA
      omega
    · exact State.fld_setFld_self _ _ _ (by decide : 31 < 64) (by decide : 0 ≤ 31)

/-- A number is the sum of its double words. -/
theorem sum_words (v n : Nat) : ((List.range n).map fun i => v / 2 ^ (32 * i) % 2 ^ 32 * 2 ^ (32 * i)).sum = v % 2 ^ (32 * n) := by
  induction n with
  | zero => simp [Nat.mod_one]
  | succ n ih =>
    rw [List.range_succ, List.map_append, List.sum_append, ih, List.map_singleton, List.sum_singleton, Nat.mul_succ, Nat.pow_add,
      Nat.mod_mul, Nat.mul_comm (_ % _)]

theorem State.twData_twWordsShown (v : Nat) {n : Nat} (hn : n ≤ 16) : (s.twWordsShown w n v).twData w n = v % 2 ^ (32 * n) := by
  rw [← sum_words v n]
  unfold State.twData
  exact congrArg List.sum (List.map_congr_left fun i hi => by rw [s.fld_twWordsShown w v hn (List.mem_range.mp hi)])

/-- The record that a report holds. -/
theorem State.twData_twDataShown {data : Option (Nat × Nat)} {n : Nat} (hn : n ≤ 16) (h : data.map Prod.fst = some n) :
    (s.twDataShown w data).twData w n = (data.map Prod.snd).getD 0 % 2 ^ (32 * n) := by
  obtain ⟨⟨m, v⟩, rfl, rfl⟩ := Option.map_eq_some_iff.mp h
  exact s.twData_twWordsShown w v hn

end

end Sys2Proof.Machine
end

section
/-! The end of a window command as a whole, and the settling of O23. -/

namespace Sys2Proof.Machine

/-! ## TW_COMMAND_DONE (R162) -/

theorem Reg.not_mem_twDataRegs {a w : Nat} (h : a < Reg.TW_DATA w 0) : a ∉ Reg.twDataRegs w := by
  rintro hmem
  obtain ⟨i, -, rfl⟩ := List.mem_map.mp hmem
  unfold Reg.TW_DATA at h
  omega

/-- The data registers as one set. -/
theorem Reg.has_of_mem_twDataRegs {a w : Nat} (h : a ∈ Reg.twDataRegs w) : (RegSet.each (Reg.TW_DATA w 0) 0x4 16).Has a := by
  obtain ⟨i, hi, rfl⟩ := List.mem_map.mp h
  refine RegSet.has_of i 0 (List.mem_range.mp hi) Nat.zero_lt_one ?_
  have hmod : i % 16 = i := Nat.mod_eq_of_lt (List.mem_range.mp hi)
  simp only [Reg.TW_DATA, hmod]
  omega

/-- The registers of window `w` that show what a command reports. -/
def Reg.twReportRegs (w : Nat) : List Nat := [Reg.TW_KEY_LO w, Reg.TW_KEY_HI w, Reg.TW_FDB w] ++ Reg.twDataRegs w

theorem Reg.TW_STATUS_not_mem (w : Nat) : Reg.TW_STATUS w ∉ Reg.twReportRegs w := by
  have hdata : Reg.TW_STATUS w ∉ Reg.twDataRegs w := Reg.not_mem_twDataRegs (by unfold Reg.TW_STATUS Reg.TW_DATA; omega)
  simp only [Reg.twReportRegs, List.mem_append, List.mem_cons, List.not_mem_nil, or_false, hdata]
  unfold Reg.TW_STATUS Reg.TW_KEY_LO Reg.TW_KEY_HI Reg.TW_FDB
  omega

/-- The frame of a window command's end, as the statement lists it. -/
theorem KeepsIn.of_twReport {s t : State} {w : Nat} {ps : List Part} (h : Keeps (Reg.TW_STATUS w :: Reg.twReportRegs w) ps s t) :
    KeepsIn [RegSet.one (Reg.TW_STATUS w), RegSet.one (Reg.TW_KEY_LO w), RegSet.one (Reg.TW_KEY_HI w), RegSet.one (Reg.TW_FDB w),
      RegSet.each (Reg.TW_DATA w 0) 0x4 16] ps s t := by
  refine ⟨fun a ha _ => h.1 a fun hm => ?_, fun p hp => h.2 p fun hm => hp (List.mem_append_left _ hm)⟩
  simp only [List.mem_cons, List.not_mem_nil, or_false, forall_eq_or_imp, forall_eq, RegSet.has_one_iff] at ha
  obtain ⟨hstatus, hlo, hhi, hfdb, hdata⟩ := ha
  simp only [Reg.twReportRegs, List.mem_append, List.mem_cons, List.not_mem_nil, or_false, hstatus, hlo, hhi, hfdb, false_or] at hm
  exact hdata (Reg.has_of_mem_twDataRegs hm)

section
variable (s : State) (w : Nat) (p : TwPend)

theorem State.twStatusShown_shows (hresult : p.result < 4) :
    (s.twStatusShown w p).fld (F.TW_STATUS.BUSY w) = 0 ∧ (s.twStatusShown w p).fld (F.TW_STATUS.RESULT w) = p.result ∧
      (s.twStatusShown w p).fld (F.TW_STATUS.SEQ w) = (s.fld (F.TW_STATUS.SEQ w) + 1) % 2 ^ 16 ∧
      (s.twStatusShown w p).slice w = { s.slice w with tw := none } ∧ Keeps [Reg.TW_STATUS w] [.slices] s (s.twStatusShown w p) := by
  obtain ⟨hslice, hbusy, hseq, hkeeps⟩ := s.twEnded_shows w
  have hins := State.twInsShown_kept ((s.twEnded w).setFld (F.TW_STATUS.RESULT w) p.result) w p.ins
  unfold State.twStatusShown
  refine ⟨?_, ?_, ?_, (hins.slice (by simp) w).trans ((State.slice_setFld _ _ _ w).trans hslice),
    hkeeps.trans ((Keeps.setFld _ _ _ _ (by simp [F.TW_STATUS.RESULT])).trans (hins.mono (by simp) (by simp)))⟩
  · exact ((State.fld_twInsShown _ w p.ins (by decide : 0 ≤ 0) (.inl (by decide : 0 < 7))).trans
      (State.fld_setFld_bits _ (F.TW_STATUS.RESULT w) (F.TW_STATUS.BUSY w) _ (by decide : 6 < 64) (by decide : 4 ≤ 6) (by decide : 0 ≤ 0) rfl
        (.inl (by decide : 0 < 4)))).trans hbusy
  · exact (State.fld_twInsShown _ w p.ins (by decide : 4 ≤ 6) (.inl (by decide : 6 < 7))).trans (State.result_setFld _ w hresult)
  · exact ((State.fld_twInsShown _ w p.ins (by decide : 16 ≤ 31) (.inr (by decide : 13 < 16))).trans
      (State.fld_setFld_bits _ (F.TW_STATUS.RESULT w) (F.TW_STATUS.SEQ w) _ (by decide : 6 < 64) (by decide : 4 ≤ 6) (by decide : 16 ≤ 31) rfl
        (.inr (by decide : 6 < 16)))).trans hseq

/-- What follows the key leaves it. -/
theorem State.twKey_of_keeps {t : State} {own : List Nat} {ps : List Part} (h : Keeps own ps s t) (hlo : Reg.TW_KEY_LO w ∉ own)
    (hhi : Reg.TW_KEY_HI w ∉ own) : t.twKey w = s.twKey w := by
  unfold State.twKey
  rw [h.fld (F.TW_KEY_HI.VLAN w) hhi, h.fld (F.TW_KEY_HI.MAC_HI w) hhi, h.fld (F.TW_KEY_LO.MAC_LO w) hlo]

theorem State.twReportShown_shows :
    (∀ v, p.fdb = some v → (s.twReportShown w p).rd (Reg.TW_FDB w) = BitVec.ofNat 64 v) ∧
      (∀ k, p.key = some k → (s.twReportShown w p).twKey w = k % 2 ^ 60) ∧
      (∀ n ≤ 16, p.data.map Prod.fst = some n → (s.twReportShown w p).twData w n = (p.data.map Prod.snd).getD 0 % 2 ^ (32 * n)) ∧
      Keeps (Reg.twReportRegs w) [] s (s.twReportShown w p) := by
  have hkey := s.twKeyShown_kept w p.key
  have hfdb := (s.twKeyShown w p.key).twFdbShown_kept w p.fdb
  have hdata := ((s.twKeyShown w p.key).twFdbShown w p.fdb).twDataShown_kept w p.data
  have hoff : ∀ {a : Nat}, a < Reg.TW_DATA w 0 → a ∉ Reg.twDataRegs w := Reg.not_mem_twDataRegs
  unfold State.twReportShown
  refine ⟨fun v hv => ?_, fun k hk => ?_, fun n hn h => State.twData_twDataShown _ w hn h, ?_⟩
  · rw [hdata.1 _ (hoff (by unfold Reg.TW_FDB Reg.TW_DATA; omega)), hv]
    exact State.rd_wr_self _ _ _
  · rw [State.twKey_of_keeps _ w hdata (hoff (by unfold Reg.TW_KEY_LO Reg.TW_DATA; omega)) (hoff (by unfold Reg.TW_KEY_HI Reg.TW_DATA; omega)),
      State.twKey_of_keeps _ w hfdb (by simp [Reg.TW_KEY_LO, Reg.TW_FDB]) (by simp [Reg.TW_KEY_HI, Reg.TW_FDB]), hk]
    exact s.twKey_twKeyShown w k
  · exact (hkey.mono (by simp [Reg.twReportRegs]) (by simp)).trans ((hfdb.mono (by simp [Reg.twReportRegs]) (by simp)).trans
      (hdata.mono (by simp only [Reg.twReportRegs, List.mem_append]; exact fun a ha => .inr ha) (by simp)))

end

section
variable {s : State} {w : Nat} {p : TwPend} (hw : w < 4) (hpend : (s.slice w).tw = some p)
include hw hpend

theorem execTwCommandDone_kept (hactive : p.active = true → s.slc w = Slc.ACTIVE) (hresult : p.result < 4) :
    NextWith (exec (.twCommandDone w) s) fun t =>
      t.fld (F.TW_STATUS.BUSY w) = 0 ∧ t.fld (F.TW_STATUS.RESULT w) = p.result ∧
      t.fld (F.TW_STATUS.SEQ w) = (s.fld (F.TW_STATUS.SEQ w) + 1) % 2 ^ 16 ∧ (t.slice w).tw = none ∧ (t.slice w).fdb = (s.slice w).fdb ∧
      (∀ v, p.fdb = some v → t.rd (Reg.TW_FDB w) = BitVec.ofNat 64 v) ∧ (∀ k, p.key = some k → t.twKey w = k % 2 ^ 60) ∧
      (∀ n ≤ 16, p.data.map Prod.fst = some n → t.twData w n = (p.data.map Prod.snd).getD 0 % 2 ^ (32 * n)) ∧
      Keeps (Reg.TW_STATUS w :: Reg.twReportRegs w) [.slices] s t := by
  obtain ⟨hbusy, hres, hseq, hslice, hstatus⟩ := s.twStatusShown_shows w p hresult
  obtain ⟨hfdb, hkey, hdata, hkeeps⟩ := (s.twStatusShown w p).twReportShown_shows w p
  have hoff := Reg.TW_STATUS_not_mem w
  have hend := (hkeeps.slice (by simp) w).trans hslice
  exact .of_eq ((exec_twCommandDone_of hw hpend).trans (congrArg Host.Outcome.next (s.twDone_kept hactive)))
    ⟨(hkeeps.fld (F.TW_STATUS.BUSY w) hoff).trans hbusy, (hkeeps.fld (F.TW_STATUS.RESULT w) hoff).trans hres,
      (hkeeps.fld (F.TW_STATUS.SEQ w) hoff).trans hseq, by rw [hend], by rw [hend], hfdb, hkey, hdata,
      (hstatus.mono (by simp) (by simp)).trans (hkeeps.mono (fun _ => List.mem_cons_of_mem _) (by simp))⟩

theorem execTwCommandDone_aborted (hactive : p.active = true) (hslc : s.slc w ≠ Slc.ACTIVE) :
    NextWith (exec (.twCommandDone w) s) fun t =>
      t.fld (F.TW_STATUS.BUSY w) = 0 ∧ t.fld (F.TW_STATUS.RESULT w) = 3 ∧ (t.slice w).tw = none ∧ Keeps [Reg.TW_STATUS w] [.slices] s t := by
  obtain ⟨hslice, hbusy, -, hkeeps⟩ := s.twEnded_shows w
  refine .of_eq ((exec_twCommandDone_of hw hpend).trans (congrArg Host.Outcome.next (s.twDone_aborted hactive hslc))) ⟨?_, ?_, ?_, ?_⟩
  · exact (State.fld_setFld_bits _ (F.TW_STATUS.RESULT w) (F.TW_STATUS.BUSY w) _ (by decide : 6 < 64) (by decide : 4 ≤ 6) (by decide : 0 ≤ 0) rfl
      (.inl (by decide : 0 < 4))).trans hbusy
  · exact State.result_setFld _ w (by decide)
  · rw [State.slice_setFld, hslice]
  · exact hkeeps.trans (.setFld _ _ _ _ (by simp [F.TW_STATUS.RESULT]))

end

/-! ## The obligation -/

/-- Settles O23: each window command by what it does to the tables and what it reports, then its end part by part. -/
theorem tableWindowsRunTheirCommands : Obligations.TableWindowsRunTheirCommands := by
  unfold Obligations.TableWindowsRunTheirCommands
  refine ⟨?_, ?_, ?_, ?_, ?_, ?_, ?_, ?_, ?_, ?_, ?_⟩
  case refine_1 =>
    intro s w n hw hhost hbusy hpower hreconf hfault hmut hlg hdest hslot
    exact execTwWrite_fdb ⟨hhost, hbusy, hpower, hreconf⟩ hw ⟨hfault, hmut⟩ hlg hdest hslot
  case refine_2 =>
    intro s w hw hhost hbusy hpower hreconf hfault hmut hrange hvalue
    exact execTwWrite_stream ⟨hhost, hbusy, hpower, hreconf⟩ hw ⟨hfault, hmut⟩ hrange hvalue
  case refine_3 =>
    intro s w hw hhost hbusy hpower hreconf hfault hmut hlimit hrange hzero hvalue htype
    exact execTwWrite_cls ⟨hhost, hbusy, hpower, hreconf⟩ hw ⟨hfault, hmut⟩ hlimit hrange hzero hvalue htype
  case refine_4 =>
    intro s w n hw hhost hbusy hpower hreconf hfault hmut hfind
    exact execTwDelete_fdb ⟨hhost, hbusy, hpower, hreconf⟩ hw ⟨hfault, hmut⟩ hfind
  case refine_5 =>
    intro s w k hw hhost hbusy hpower hreconf hfault hmut hstream hcls hk
    have hopen : s.twOpen w := ⟨hhost, hbusy, hpower, hreconf⟩
    rcases hk with rfl | rfl
    · obtain ⟨t, ht, hgone, hrest⟩ := execTwDelete_stream hopen hw ⟨hfault, hmut⟩ (hstream rfl)
      exact ⟨t, ht, fun _ => hgone, fun h => absurd h (by decide), hrest⟩
    · obtain ⟨t, ht, hgone, hrest⟩ := execTwDelete_cls hopen hw ⟨hfault, hmut⟩ (hcls rfl)
      exact ⟨t, ht, fun h => absurd h (by decide), fun _ => hgone, hrest⟩
  case refine_6 =>
    intro s w hw hhost hbusy hpower hreconf
    exact execTwRead_fdb ⟨hhost, hbusy, hpower, hreconf⟩ hw
  case refine_7 =>
    intro s w k hw hhost hbusy hpower hreconf hk hstream hcls
    obtain ⟨t, ht, htw, hend, -, hkeeps⟩ := execTwRead_record ⟨hhost, hbusy, hpower, hreconf⟩ hw k hk hstream hcls
    exact ⟨t, ht, htw, hend, hkeeps⟩
  case refine_8 =>
    intro s w k hw hhost hbusy hpower hreconf hk hslot hstash
    have hm : s.twSlot w k.toNat = if k = 3 then 2 ^ s.fdbLg w + s.fld (F.TW_INDEX.INDEX w) else s.fld (F.TW_INDEX.INDEX w) := by
      rcases hk with rfl | rfl <;> rfl
    obtain ⟨t, ht, hshown⟩ := execTwRaw_shows ⟨hhost, hbusy, hpower, hreconf⟩ hw k hk hslot hstash
    exact ⟨t, ht, hm ▸ hshown⟩
  case refine_9 =>
    intro s w hw hhost hbusy hpower hreconf hfault hmut
    obtain ⟨t, ht, hleft, hrest⟩ := execTwFlush_shows ⟨hhost, hbusy, hpower, hreconf⟩ hw ⟨hfault, hmut⟩
    exact ⟨t, ht, fun e he => ⟨(hleft e he).1, State.left_of_not_twSelects (hleft e he).2⟩, hrest⟩
  case refine_10 =>
    intro s w p hw hpend hactive hresult
    obtain ⟨t, ht, hend, hres, hseq, htw, hkept, hfdb, hkey, hdata, hkeeps⟩ := execTwCommandDone_kept hw hpend hactive hresult
    exact ⟨t, ht, hend, hres, hseq, htw, hkept, hfdb, hkey, hdata 16 (by decide), hdata 4 (by decide), .of_twReport hkeeps⟩
  case refine_11 =>
    intro s w p hw hpend hactive hslc
    exact execTwCommandDone_aborted hw hpend hactive hslc

end Sys2Proof.Machine
end

section
/-! Received frames (O30): extents are taken and given back beside the virtual output queues, and a frame that is not forwarded is only counted. -/

namespace Sys2Proof.Machine

/-! ## The virtual output queues while buffers move -/

section
variable (s : State)

@[simp] theorem State.fab_pfEvent (ev inst k : Nat) : (s.pfEvent ev inst k).fab = s.fab :=
  (State.pfEvent_law (W := maskOf [4]) (P := 0) (Law.refl _ _ s) ev inst k (by decide) (by decide)).part_off (p := .fab) (by decide)

@[simp] theorem State.fab_spoutEvent (src inst arg data : Nat) : (s.spoutEvent src inst arg data).fab = s.fab :=
  (s.spoutEvent_keepsIn src inst arg data).2 .fab (by decide)

@[simp] theorem State.fab_bufLost (k tag : Nat) : (s.bufLost k tag).fab = s.fab := by
  unfold State.bufLost
  split
  · split <;> simp
  · rfl

@[simp] theorem State.fab_setPoolFree (k v : Nat) : (s.setPoolFree k v).fab = s.fab := by
  unfold State.setPoolFree
  dsimp only
  split <;> rfl

@[simp] theorem State.voq_bufTake (pool tag : Nat) : (s.bufTake pool tag).1.fab.voq = s.fab.voq := by
  unfold State.bufTake
  simp only [State.fab_pfEvent, State.fab_setPoolFree]
  rfl

@[simp] theorem State.voq_bufTakeFrame (k tag : Nat) : (s.bufTakeFrame k tag).1.fab.voq = s.fab.voq := by
  unfold State.bufTakeFrame
  rw [State.voq_bufTake]
  split <;> rfl

@[simp] theorem State.fab_bufEmpty (k : Nat) : (s.bufEmpty k).fab = s.fab := s.fab_pfEvent _ _ _

@[simp] theorem State.fab_bufFallback (k : Nat) : (s.bufFallback k).fab = s.fab := State.fab_pfEvent _ _ _ _

@[simp] theorem State.voq_bufAlloc (need tag : Nat) : (s.bufAlloc need tag).1.fab.voq = s.fab.voq := by
  unfold State.bufAlloc
  dsimp only
  generalize (if need ≤ 256 then 0 else if need ≤ 2048 then 1 else 2) = k
  split
  · simp
  · split
    · simp
    · split
      · simp
      · split <;> split <;> simp

@[simp] theorem State.voq_bufReturn (key : Nat) : (s.bufReturn key).fab.voq = s.fab.voq := by
  unfold State.bufReturn
  simp only [State.fab_pfEvent]
  rfl

@[simp] theorem State.voq_bufFails (tag h code : Nat) : (s.bufFails tag h code).fab.voq = s.fab.voq := by
  unfold State.bufFails
  simp

@[simp] theorem State.voq_bufFree (tag h : Nat) : (s.bufFree tag h).fab.voq = s.fab.voq := by
  unfold State.bufFree
  dsimp only
  split
  · rw [State.voq_bufReturn]
    split <;> rfl
  · exact s.voq_bufFails _ _ _

@[simp] theorem State.voq_bufFreeAll (tag : Nat) (hs : List Nat) : (s.bufFreeAll tag hs).fab.voq = s.fab.voq := by
  unfold State.bufFreeAll
  induction hs generalizing s with
  | nil => rfl
  | cons h hs ih => rw [List.foldl_cons, ih, State.voq_bufFree]

@[simp] theorem State.voq_bufMove (src dst h : Nat) : (s.bufMove src dst h).1.fab.voq = s.fab.voq := by
  unfold State.bufMove
  dsimp only
  split
  · rfl
  · exact s.voq_bufFails _ _ _

@[simp] theorem State.voq_bufMoveAll (src dst : Nat) (hs : List Nat) : (s.bufMoveAll src dst hs).1.fab.voq = s.fab.voq := by
  induction hs generalizing s with
  | nil => rfl
  | cons h hs ih => exact (ih _).trans (s.voq_bufMove src dst h)

@[simp] theorem State.voq_bufExtents (top len tag fuel held : Nat) (hs : List Nat) :
    (s.bufExtents top len tag fuel held hs).1.fab.voq = s.fab.voq := by
  induction fuel generalizing s held hs with
  | zero => rfl
  | succ fuel ih =>
    unfold State.bufExtents
    split
    · rfl
    · dsimp only
      generalize (if hs.length = 0 then 256 else if hs.length = 1 then 2048 else 10240) = lim
      have halloc := s.voq_bufAlloc (min (top - held) lim) tag
      generalize s.bufAlloc (min (top - held) lim) tag = r at halloc ⊢
      obtain ⟨t, _ | h⟩ := r
      · exact (t.voq_bufFreeAll tag hs).trans halloc
      · exact (ih t _ _).trans halloc

@[simp] theorem State.voq_takeExtents (i p len : Nat) : (s.takeExtents i p len).1.fab.voq = s.fab.voq := by
  unfold State.takeExtents
  split
  · rfl
  · have hextents : (s.ingressExtents (min len 10240) i).1.fab.voq = s.fab.voq := s.voq_bufExtents _ _ _ _ _ _
    generalize s.ingressExtents (min len 10240) i = r at hextents ⊢
    obtain ⟨t, _ | hs⟩ := r <;> exact hextents

end

theorem State.voqAt_of_voq {s t : State} (h : t.fab.voq = s.fab.voq) (key : Nat) : t.voqAt key = s.voqAt key := congrArg (SMap.getD · key Voq.fresh) h

/-! ## A received frame after its extents (R126 to R129, R168) -/

/-- A frame of port `p` as it is parsed. -/
def State.parsed (s : State) (p : Nat) (bs : List Byte) : Parsed := parseFrame bs (s.defVlan p) (s.cfg.defPcp.getD p 0)

section
variable {s t : State} {p : Nat} {bs : List Byte} (stamp : Time16) (slots : Nat)

/-- The frame that is no MAC control frame and has its extents. -/
theorem State.ingress_of_extents {hs : List Nat} (h : (frameGood bs && (s.parsed p bs).ethType == 0x8808) = false)
    (ht : s.takeExtents (sliceOf p) p bs.length = (t, some hs)) :
    s.ingress p bs stamp slots =
      if frameGood bs then ((if s.forwards (sliceOf p) then t.lookups (sliceOf p) p (s.parsed p bs) else t).macCount p bs).ingressEnd p bs
        (s.parsed p bs) (s.decideFrame (sliceOf p) p (s.parsed p bs)) stamp slots hs
      else ((if s.forwards (sliceOf p) then t.lookups (sliceOf p) p (s.parsed p bs) else t).macCount p bs).cutFrame (sliceOf p) hs := by
  unfold State.parsed at h ⊢
  unfold State.ingress
  dsimp only
  rw [if_neg (Bool.eq_false_iff.mp h), ht]

/-- The frame that is no MAC control frame and finds no extents. -/
theorem State.ingress_of_empty (h : (frameGood bs && (s.parsed p bs).ethType == 0x8808) = false)
    (ht : s.takeExtents (sliceOf p) p bs.length = (t, none)) :
    s.ingress p bs stamp slots =
      (if (s.bufAlloc 256 (sliceOf p)).2.isSome then t.lookups (sliceOf p) p (s.parsed p bs) else t).macCount p bs := by
  unfold State.parsed at h ⊢
  unfold State.ingress
  dsimp only
  rw [if_neg (Bool.eq_false_iff.mp h), ht]

/-! ## Frames of a slice that does not forward (R126, R127) -/

theorem State.takeExtents_of_idle {i : Nat} (len : Nat) (h : s.forwards i = false) : s.takeExtents i p len = (s, some []) :=
  if_pos (by rw [h]; rfl)

theorem State.ingress_bad_idle (hbad : frameGood bs = false) (h : s.forwards (sliceOf p) = false) :
    s.ingress p bs stamp slots = s.count (Reg.PRT_RX_CNT p (badCounter bs)) := by
  rw [State.ingress_of_extents stamp slots (by simp [hbad]) (State.takeExtents_of_idle _ h), hbad, h]
  exact s.macCount_of_bad p hbad

theorem execIngressFrame_bad_idle (ts : LineStamp) (hp : p < 192) (hrec : s.receives p = true) (hbad : frameGood bs = false)
    (h : s.forwards (sliceOf p) = false) {n : Nat} (hn : badCounter bs = n) :
    NextWith (exec (.ingressFrame p bs ts slots) s) fun t =>
      t.rd (Reg.PRT_RX_CNT p n) = s.rd (Reg.PRT_RX_CNT p n) + 1 ∧ Keeps [Reg.PRT_RX_CNT p n] [] s t := by
  subst hn
  exact .of_eq ((exec_ingressFrame_of_receives bs ts slots hp hrec).trans (congrArg Host.Outcome.next (State.ingress_bad_idle _ _ hbad h)))
    ⟨s.rd_count_self _, .count s [] (by simp)⟩

/-! ## Frames that fail a check, in any slice -/

theorem State.fab_lookups (i : Nat) (q : Parsed) : (t.lookups i p q).fab = t.fab :=
  (State.lookups_law (Law.refl (maskOf earlyFamilies) 0x10488c t) i p q (by decide) (by decide)).part_off (p := .fab) (by decide)

/-- A bad frame is counted, and the extents that it took are given back. -/
theorem State.ingress_bad (hbad : frameGood bs = false) :
    ∃ u hs, Law (maskOf earlyFamilies) 0x14c98c s u ∧ u.fab.voq = s.fab.voq ∧
      s.ingress p bs stamp slots = (u.count (Reg.PRT_RX_CNT p (badCounter bs))).cutFrame (sliceOf p) hs := by
  have htake : Law (maskOf earlyFamilies) 0x14c98c s (s.takeExtents (sliceOf p) p bs.length).1 :=
    State.takeExtents_law (Law.refl _ _ s) _ _ _ (by decide) (by decide)
  have hqueues := s.voq_takeExtents (sliceOf p) p bs.length
  have hother : (frameGood bs && (s.parsed p bs).ethType == 0x8808) = false := by rw [hbad, Bool.false_and]
  generalize hr : s.takeExtents (sliceOf p) p bs.length = r at htake hqueues
  obtain ⟨t, hs⟩ := r
  have hlook : ∀ c : Bool, Law (maskOf earlyFamilies) 0x14c98c s (if c then t.lookups (sliceOf p) p (s.parsed p bs) else t) ∧
      (if c then t.lookups (sliceOf p) p (s.parsed p bs) else t).fab.voq = s.fab.voq := by
    rintro (_ | _)
    · exact ⟨htake, hqueues⟩
    · exact ⟨State.lookups_law htake _ _ _ (by decide) (by decide), (congrArg Fabric.voq (State.fab_lookups _ _)).trans hqueues⟩
  cases hs with
  | none => exact ⟨_, [], (hlook _).1, (hlook _).2, (State.ingress_of_empty stamp slots hother hr).trans (State.macCount_of_bad _ p hbad)⟩
  | some hs =>
    refine ⟨_, hs, (hlook (s.forwards (sliceOf p))).1, (hlook _).2, ?_⟩
    rw [State.ingress_of_extents stamp slots hother hr, hbad, if_neg Bool.false_ne_true, State.macCount_of_bad _ p hbad]

/-- What a bad frame may change, beside the counter of its check. -/
def badFrameSets : List RegSet :=
  Scope.buffers ++ Scope.scans ++ Scope.freeze ++ [⟨Reg.CD_RING_CNT 0 0, 0x100, 8, 0x8, 8⟩, RegSet.each (Reg.BPM_POOL_LOW 0) 0x4 5,
    RegSet.each (Reg.PRT_FAB_CNT 0 0) 0x10000 256]

theorem KeepsIn.of_early {s t : State} (h : Law (maskOf earlyFamilies) 0x14c98c s t) :
    KeepsIn badFrameSets [.scans, .kettle, .caddy, .slices, .fab, .freeCtr] s t :=
  .of_law_within h (by decide) (by decide +kernel) (by decide)

theorem State.ingress_bad_shows (hbad : frameGood bs = false) :
    (∀ k, (s.ingress p bs stamp slots).voqAt k = s.voqAt k) ∧ (s.ingress p bs stamp slots).mode = s.mode ∧
      KeepsIn (badFrameSets ++ [RegSet.one (Reg.PRT_RX_CNT p (badCounter bs))]) [.scans, .kettle, .caddy, .slices, .fab, .freeCtr] s
        (s.ingress p bs stamp slots) := by
  obtain ⟨u, hs, hearly, hvoq, he⟩ := State.ingress_bad (s := s) (p := p) stamp slots hbad
  have hcut : Law (maskOf earlyFamilies) 0x14c98c (u.count (Reg.PRT_RX_CNT p (badCounter bs))) (s.ingress p bs stamp slots) :=
    he ▸ State.cutFrame_law (Law.refl _ _ _) (sliceOf p) hs (by decide) (by decide)
  have hcount : Keeps [Reg.PRT_RX_CNT p (badCounter bs)] [] u (u.count (Reg.PRT_RX_CNT p (badCounter bs))) := .count u [] (by simp)
  refine ⟨fun k => State.voqAt_of_voq ?_ k, State.fld_of_rd F.DEV_MODE.CUR ?_, ?_⟩
  · rw [he]
    exact (State.voq_bufFreeAll _ _ _).trans hvoq
  · have hne : F.DEV_MODE.CUR.ofs ∉ [Reg.PRT_RX_CNT p (badCounter bs)] := by
      rw [List.mem_singleton]
      change 0x100 ≠ Reg.PRT_RX_CNT p _
      unfold Reg.PRT_RX_CNT
      omega
    exact (hcut.devMode (by decide +kernel) (by decide +kernel)).trans ((hcount.1 _ hne).trans (hearly.devMode (by decide +kernel) (by decide +kernel)))
  · exact ((KeepsIn.of_early hearly).mono (List.subset_append_left _ _) (List.Subset.refl _)).trans
      ((hcount.keepsIn.mono (List.subset_append_right _ _) (List.nil_subset _)).trans
        ((KeepsIn.of_early hcut).mono (List.subset_append_left _ _) (List.Subset.refl _)))

end

end Sys2Proof.Machine
end

section
/-! Good frames (O30): what the lookups and the count before leave to decide, a frame that is discarded, and one that enters its queue. -/

namespace Sys2Proof.Machine

/-! ## The mode that a frame meets -/

/-- Two states agree on the mode, the states of the slices and the device part. -/
def SameMode (s t : State) : Prop := t.rd Reg.DEV_MODE = s.rd Reg.DEV_MODE ∧ t.rd Reg.DEV_SLC_STATE = s.rd Reg.DEV_SLC_STATE ∧ t.dev = s.dev

theorem Law.sameMode {ks : List Nat} {P : Nat} {s t : State} (h : Law (maskOf ks) P s t)
    (hks : 0 ∉ ks ∧ ∀ k ∈ ks, ∀ r ∈ families[k]?, r.Off Reg.DEV_MODE ∧ r.Off Reg.DEV_SLC_STATE) (hP : P.testBit 0 = false) : SameMode s t :=
  ⟨h.rd_off ⟨hks.1, fun k hk r hr => (hks.2 k hk r hr).1⟩, h.rd_off ⟨hks.1, fun k hk r hr => (hks.2 k hk r hr).2⟩, h.part_off (p := .dev) hP⟩

section
variable {s t : State} (h : SameMode s t)
include h

theorem SameMode.calmDiscards : t.calmDiscards = s.calmDiscards := by
  obtain ⟨hmode, -, -⟩ := h
  unfold State.calmDiscards State.mode State.trans
  rw [State.fld_of_rd F.DEV_MODE.CUR hmode, State.fld_of_rd F.DEV_MODE.TARGET hmode, State.fld_of_rd F.DEV_MODE.TRANS hmode]

theorem SameMode.forwards (i : Nat) : t.forwards i = s.forwards i := by
  obtain ⟨hmode, hslc, hdev⟩ := h
  unfold State.forwards State.resuming State.inMode State.fldBit State.slc State.mode State.trans
  rw [State.fld_of_rd F.DEV_MODE.CUR hmode, State.fld_of_rd F.DEV_MODE.TARGET hmode, State.fld_of_rd F.DEV_MODE.TRANS hmode,
    State.fld_of_rd (F.slcState i) hslc, State.fld_of_rd F.DEV_SLC_STATE.BREEZE_SET hslc, hdev]

end

/-! ## A good frame that is for no engine (R127) -/

section
variable {u : State} {p : Nat} {bs : List Byte} {q : Parsed} (d : Decision) (stamp : Time16) (slots : Nat) (hs : List Nat)

theorem State.ingressEnd_of_plain (hesmc : esmcOf bs q = none) (hptp : q.ptp = none) :
    u.ingressEnd p bs q d stamp slots hs = u.goodFrame p bs q d stamp slots hs := by
  unfold State.ingressEnd State.ttTakes
  rw [hesmc, hptp]
  rfl

/-- A slice that does not forward discards it, and counts it as CALM discards where the mode does. -/
theorem State.goodFrame_of_idle (h : u.forwards (sliceOf p) = false) :
    u.goodFrame p bs q d stamp slots hs = u.count (Reg.PRT_RX_CNT p (if u.calmDiscards then 6 else 5)) := by
  unfold State.goodFrame
  dsimp only
  rw [h]
  cases u.calmDiscards <;> rfl

theorem State.goodFrame_of_forwards (hcalm : u.calmDiscards = false) (h : u.forwards (sliceOf p) = true) :
    u.goodFrame p bs q d stamp slots hs = u.forward (sliceOf p) p bs q d stamp slots hs := by
  unfold State.goodFrame
  dsimp only
  rw [h, hcalm]
  rfl

end

/-- The families of the counters of good frames. -/
def rxGoodFamilies : List Nat := [4, 157, 158]

theorem State.rxGood_sameMode (s : State) (p len : Nat) : SameMode s (s.rxGood p len) :=
  (State.rxGood_law (Law.refl (maskOf rxGoodFamilies) 0 s) p len (by decide +kernel) (by decide)).sameMode (by decide +kernel) (by decide)

theorem KeepsRep.rxGood (s : State) (p len : Nat) : KeepsRep [Reg.PRT_RX_CNT p 0, Reg.PRT_RX_CNT p 1] [] s (s.rxGood p len) :=
  (KeepsRep.countEv s _ p 1 (by simp)).trans (.countEv _ _ p len (by simp))

theorem Reg.PRT_RX_CNT_ge (p n : Nat) : 0xC00000 ≤ Reg.PRT_RX_CNT p n := by
  unfold Reg.PRT_RX_CNT
  omega

theorem frameGood_of {bs : List Byte} (hmin : 64 ≤ bs.length) (hmax : bs.length ≤ 10240) (hfcs : fcsGood bs = true) : frameGood bs = true := by
  simp [frameGood, hmin, hmax, hfcs]

section
variable {s : State} {p : Nat} {bs : List Byte} (hgood : frameGood bs = true) (htype : (s.parsed p bs).ethType ≠ 0x8808)
include hgood htype

theorem State.parsed_passes : (frameGood bs && (s.parsed p bs).ethType == 0x8808) = false := by simp [hgood, htype]

theorem State.ingress_good_idle (stamp : Time16) (slots : Nat) (hesmc : esmcOf bs (s.parsed p bs) = none) (hptp : (s.parsed p bs).ptp = none)
    (h : s.forwards (sliceOf p) = false) :
    s.ingress p bs stamp slots = (s.rxGood p bs.length).count (Reg.PRT_RX_CNT p (if s.calmDiscards then 6 else 5)) := by
  have hmode := s.rxGood_sameMode p bs.length
  rw [State.ingress_of_extents stamp slots (State.parsed_passes hgood htype) (State.takeExtents_of_idle _ h), if_pos hgood, h, if_neg Bool.false_ne_true,
    State.macCount_of_good s p hgood, State.ingressEnd_of_plain _ _ _ _ hesmc hptp, State.goodFrame_of_idle _ _ _ _ ((hmode.forwards _).trans h),
    hmode.calmDiscards]

theorem execIngressFrame_good_idle (ts : LineStamp) (slots : Nat) (hp : p < 192) (hrec : s.receives p = true)
    (hesmc : esmcOf bs (s.parsed p bs) = none) (hptp : (s.parsed p bs).ptp = none) (h : s.forwards (sliceOf p) = false) {n : Nat}
    (hn : (if s.calmDiscards then 6 else 5) = n) :
    NextWith (exec (.ingressFrame p bs ts slots) s) fun t =>
      t.rd (Reg.PRT_RX_CNT p 0) = s.rd (Reg.PRT_RX_CNT p 0) + 1 ∧
      t.rd (Reg.PRT_RX_CNT p 1) = s.rd (Reg.PRT_RX_CNT p 1) + BitVec.ofNat 64 bs.length ∧
      t.rd (Reg.PRT_RX_CNT p n) = s.rd (Reg.PRT_RX_CNT p n) + 1 ∧
      KeepsRep [Reg.PRT_RX_CNT p 0, Reg.PRT_RX_CNT p 1, Reg.PRT_RX_CNT p n] [] s t := by
  obtain ⟨hframes, hbytes⟩ := s.ingress_of_good p (s.rxStamp p ts) slots hgood
  refine ⟨_, exec_ingressFrame_of_receives bs ts slots hp hrec, hframes, hbytes, ?_⟩
  have hkeeps := KeepsRep.rxGood s p bs.length
  have hoff : Reg.PRT_RX_CNT p n ∉ [Reg.PRT_RX_CNT p 0, Reg.PRT_RX_CNT p 1] := by
    have hn : n % 7 ≠ 0 ∧ n % 7 ≠ 1 := by
      subst hn
      split <;> decide
    simp only [List.mem_cons, List.not_mem_nil, or_false, not_or]
    exact ⟨Reg.PRT_RX_CNT_ne p hn.1, Reg.PRT_RX_CNT_ne p hn.2⟩
  rw [State.ingress_good_idle hgood htype _ _ hesmc hptp h, hn]
  exact ⟨by rw [State.rd_count_self, hkeeps.rd hoff (Reg.PRT_RX_CNT_ge p n)],
    (hkeeps.mono (by simp) (by simp)).trans (Keeps.count _ _ (by simp)).keepsRep⟩

end

/-! ## The lookups and learning of a forwarded frame (R127, R150, R152) -/

section
variable (s : State) (i p : Nat) (q : Parsed)

/-- The action word of the rule that a frame meets. -/
def State.ruleWord : Nat := match s.clsMatch i (q.keyL2 p) (q.keyL3 p) with | some v => ruleAct v | none => 0

/-- A decision holds the action word, and only a group floods. -/
theorem State.decideFrame_shows :
    (s.decideFrame i p q).act = s.ruleWord i p q ∧ ((s.decideFrame i p q).group = false → (s.decideFrame i p q).flood = false) := by
  unfold State.decideFrame
  cases ((s.slice i).fdbFind (s.fdbLg i) (fdbKey q.vlan q.da)).bind (s.slice i).fdb.get? with
  | some x =>
    dsimp only
    cases x.group
    · exact ⟨rfl, fun _ => rfl⟩
    · exact ⟨rfl, fun _ => rfl⟩
  | none =>
    have hrule : ∀ d e : Decision, d.act = s.ruleWord i p q ∧ d.group = true → e.act = s.ruleWord i p q ∧ e.group = true → ∀ c : Bool,
        (if c then d else e).act = s.ruleWord i p q ∧ ((if c then d else e).group = false → (if c then d else e).flood = false) := by
      rintro d e ⟨hd, hdg⟩ ⟨he, heg⟩ (_ | _)
      · exact ⟨he, fun h => absurd (heg.symm.trans h) (by decide)⟩
      · exact ⟨hd, fun h => absurd (hdg.symm.trans h) (by decide)⟩
    exact hrule _ _ ⟨rfl, rfl⟩ ⟨rfl, rfl⟩ _

/-- The hit mark of the source and the performance events of the lookups. -/
def State.hitMarked : State :=
  let s1 := match (s.slice i).fdbFind (s.fdbLg i) (fdbKey q.vlan q.sa) with | some n => s.setSlice i ((s.slice i).hit n) | none => s
  ((s1.pfEvent 0x100 i 1).pfEvent 0x103 i (b2n (s.clsMatch i (q.keyL2 p) (q.keyL3 p)).isSome)).pfEvent 0x101 i
    (b2n ((s.slice i).fdbFind (s.fdbLg i) (fdbKey q.vlan q.da)).isNone)

/-- A frame whose rule names no ring. -/
theorem State.lookups_of_quiet (h : s.ruleWord i p q = 0) : s.lookups i p q = s.hitMarked i p q := if_pos (by
  change nbits (s.ruleWord i p q) 43 36 = 0
  rw [h]
  rfl)

theorem KeepsRep.hitMarked : KeepsRep [] [.slices] s (s.hitMarked i p q) := by
  unfold State.hitMarked
  refine KeepsRep.trans (t := match (s.slice i).fdbFind (s.fdbLg i) (fdbKey q.vlan q.sa) with | some n => s.setSlice i ((s.slice i).hit n) | none => s) ?_
    ((KeepsRep.pfEvent _ _ _ _).trans ((KeepsRep.pfEvent _ _ _ _).trans (.pfEvent _ _ _ _)))
  split
  · exact (Keeps.setSlice s i _ (by simp)).keepsRep
  · exact .refl s _ _

theorem Keeps.learnRequest (k port : Nat) : Keeps [Reg.SLC_CNT i 1, Reg.SLC_CNT i 3] [.slices] s (s.learnRequest i k port) := by
  unfold State.learnRequest State.stationMove
  dsimp only
  split
  · split
    · exact .setSlice s i _ (by simp)
    · exact (Keeps.setSlice s i _ (by simp)).trans ((Keeps.setSlice _ i _ (by simp)).trans (.count _ _ (by simp)))
  · split
    · exact .count s _ (by simp)
    · exact .setSlice s i _ (by simp)

theorem Keeps.ingressLearn (act : Nat) : Keeps [Reg.SLC_CNT i 1, Reg.SLC_CNT i 3] [.slices] s (s.ingressLearn i p q act) := by
  unfold State.ingressLearn
  dsimp only
  split
  · split
    · exact .learnRequest s i _ p
    · split
      · exact .refl s _ _
      · exact .learnRequest s i _ p
  · exact .refl s _ _

end

/-! ## Entry into a queue (R174, R177) -/

section
variable {s : State} {key : Nat}

theorem State.voqPush_of_fresh (f : Frame) (h : s.voqAt key = Voq.fresh) : s.voqPush key f = s.setVoq key ⟨[f], [], 0⟩ := by
  unfold State.voqPush
  dsimp only
  rw [h]
  rfl

theorem State.voqAt_setVoq (l : List Frame) : (s.setVoq key ⟨l, [], 0⟩).voqAt key = ⟨l, [], 0⟩ := by
  unfold State.setVoq State.voqAt
  dsimp only
  split
  · exact SMap.getD_setD_self _ _ _ _
  · exact SMap.getD_setD_self _ _ _ _

theorem Keeps.setFab (s : State) (own : List Nat) (f : Fabric) : Keeps own [.fab] s (s.setFab f) := by
  refine ⟨fun _ _ => rfl, fun p hp => ?_⟩
  cases p
  case fab => exact absurd (List.mem_singleton_self _) hp
  all_goals rfl

theorem Keeps.setVoq (s : State) (key : Nat) (v : Voq) : Keeps [Reg.FAB_VOQ_OCC, Reg.FAB_VOQ_SPILL] [.fab] s (s.setVoq key v) := by
  unfold State.setVoq
  dsimp only
  split
  · exact (Keeps.setFab s _ _).trans ((Keeps.setFld _ _ _ _ (by simp [F.FAB_VOQ_OCC.SRAM_CELLS])).trans
      (.setFld _ _ _ _ (by simp [F.FAB_VOQ_SPILL.BLOCKS])))
  · exact .setFab s _ _

/-- A frame towards a single-lane port that is UP, into a queue that is empty. -/
theorem State.enqueue_of_fresh {own r : Nat} {f : Frame} (hup : s.operUp r = true) (hlane : s.fourLane r = false)
    (h : s.voqAt (voqKey f.slice r f.cls) = Voq.fresh) :
    s.enqueue own f r = (s.bufMoveAll own Own.FABRIC f.bufs).1.setVoq (voqKey f.slice r f.cls)
      ⟨[s.enterStamp { f with bufs := (s.bufMoveAll own Own.FABRIC f.bufs).2 }], [], 0⟩ := by
  have hout : s.outputOf f r = r := if_neg (by simp [hlane])
  have hfresh : (s.bufMoveAll own Own.FABRIC f.bufs).1.voqAt (voqKey f.slice r f.cls) = Voq.fresh :=
    (State.voqAt_of_voq (s.voq_bufMoveAll _ _ _) _).trans h
  unfold State.enqueue
  rw [if_neg (by simp [hup]), hout]
  exact State.voqPush_of_fresh _ hfresh

end

end Sys2Proof.Machine
end

section
/-! A frame that is forwarded to one port (O30), step by step, and the settling of O30. -/

namespace Sys2Proof.Machine

/-! ## Step 5 of Table 05.1 for one destination -/

/-- What the slice counts and learns of a frame without a stream. -/
def State.learned (u : State) (i p : Nat) (q : Parsed) : State := (u.count (Reg.SLC_CNT i 15)).ingressLearn i p q 0

/-- The frame of bytes `bs` that leaves the ingress of state `u`; `w` is the state in which it takes its number. -/
def State.newFrame (u w : State) (i p : Nat) (bs : List Byte) (q : Parsed) (d : Decision) (stamp : Time16) (hs : List Nat) : Frame :=
  ⟨w.uid, 0, 0, bs, p, i, d.cls, q.dei || false, q.vlan, q.pcp, q.tagged, none, q.flow, u.fld (F.SLC_TBL_VER.VER i), stamp,
    w.flatLaunch i d.entry stamp, 0, 0, hs⟩

/-- A decision for one port, of no stream and no action. -/
structure Decision.Unicast (d : Decision) (r : Nat) : Prop where
  act : d.act = 0
  stream : d.stream = none
  group : d.group = false
  flood : d.flood = false
  empty : d.empty = false
  ports : d.ports = [r]

theorem State.forward_of_unicast (u : State) {i p r : Nat} {q : Parsed} {d : Decision} (bs : List Byte) (stamp : Time16) (slots : Nat) (hs : List Nat)
    (h : d.Unicast r) :
    u.forward i p bs q d stamp slots hs = State.enqueue { u.learned i p q with uid := (u.learned i p q).uid + 1 } i
      (u.newFrame (u.learned i p q) i p bs q d stamp hs) r := by
  obtain ⟨act, stream, entry, cls, flood, group, empty, ports⟩ := d
  obtain ⟨rfl, rfl, rfl, rfl, rfl, rfl⟩ := h
  unfold State.forward State.forwardTo
  dsimp only
  rw [if_neg (by decide : ¬ bitAt 0 0 = true)]
  rfl

section
variable (u : State) (i p : Nat) (q : Parsed)

theorem State.learned_shows :
    (u.learned i p q).rd (Reg.SLC_CNT i 15) = u.rd (Reg.SLC_CNT i 15) + 1 ∧ (u.learned i p q).uid = u.uid ∧ (u.learned i p q).cycle = u.cycle ∧
      Keeps [Reg.SLC_CNT i 1, Reg.SLC_CNT i 3, Reg.SLC_CNT i 15] [.slices] u (u.learned i p q) := by
  have hlearn := Keeps.ingressLearn (u.count (Reg.SLC_CNT i 15)) i p q 0
  have hlaw := State.ingressLearn_law (Law.refl (maskOf [103, 104]) 0x4000 (u.count (Reg.SLC_CNT i 15))) i p q 0 (by decide +kernel) (by decide)
  refine ⟨?_, hlearn.2 .uid (by decide), hlaw.cycle, (Keeps.count u _ (by simp)).trans (hlearn.mono (by simp) (by simp))⟩
  unfold State.learned
  rw [hlearn.1 _ (by simp [Reg.SLC_CNT_ne i (m := 15) (n := 1) (by decide), Reg.SLC_CNT_ne i (m := 15) (n := 3) (by decide)]), State.rd_count_self]

end

/-! ## The state in which a forwarded frame is decided -/

/-- The families that extents, lookups and the count of a good frame change. -/
def countedFamilies : List Nat := earlyFamilies ++ [157, 158]

/-- The families that the extents of a frame change. -/
def extentFamilies : List Nat := [1, 2, 3, 4, 53, 116, 117, 118, 119, 120, 121, 122]

/-- The families that a transfer of buffers changes. -/
def moveFamilies : List Nat := [1, 2, 3, 4, 53, 120]

/-- A counter of one slice lies beside the families of a law. -/
theorem Law.rd_slcCnt {ks : List Nat} {P n : Nat} {s t : State} (h : Law (maskOf ks) P s t)
    (hks : 0 ∉ ks ∧ ∀ k ∈ ks, ∀ r ∈ families[k]?, r.misses (0x1000400 + 0x8 * (n % 16)) 0x400000 4 = true) (i : Nat) :
    t.rd (Reg.SLC_CNT i n) = s.rd (Reg.SLC_CNT i n) :=
  h.regs _ fun hm =>
    let ⟨k, hk, r, hr, has⟩ := hm.mem_family hks.1
    RegSet.ne_of_misses (hks.2 k hk r hr) has (Nat.mod_lt i (by decide)) (by unfold Reg.SLC_CNT; omega)

/-- What a forwarded frame may change, as the statement lists it. -/
def forwardSets (i p : Nat) : List RegSet :=
  Scope.buffers ++ [RegSet.each (Reg.CD_RP_STATUS 0) 0x100 8, RegSet.one (Reg.SLC_CNT i 3), RegSet.one (Reg.SLC_CNT i 1),
    RegSet.each (Reg.BPM_POOL_LOW 0) 0x4 5, RegSet.each (Reg.PRT_FAB_CNT 0 0) 0x10000 256, RegSet.each (Reg.PRT_FAB_CNT 0 3) 0x10000 256,
    RegSet.each (Reg.PRT_FAB_CNT 0 2) 0x10000 256, RegSet.one (Reg.SLC_CNT i 14), RegSet.one Reg.FAB_VOQ_OCC, RegSet.one Reg.FAB_VOQ_SPILL,
    RegSet.one (Reg.PRT_RX_CNT p 0), RegSet.one (Reg.PRT_RX_CNT p 1), RegSet.one (Reg.SLC_CNT i 15)]

/-- The parts that a forwarded frame may change. -/
def forwardParts : List Part := [.host, .kettle, .slices, .fab, .freeCtr, .uid]

/-- The sets of extents, as they stand in the statement. -/
def extentSets : List RegSet := Scope.buffers ++ [RegSet.each (Reg.BPM_POOL_LOW 0) 0x4 5, RegSet.each (Reg.PRT_FAB_CNT 0 0) 0x10000 256]

theorem extentSets_subset (i p : Nat) : extentSets ⊆ forwardSets i p := by
  intro r hr
  simp only [extentSets, List.mem_append, List.mem_cons, List.not_mem_nil, or_false] at hr
  simp only [forwardSets, List.mem_append, List.mem_cons, List.not_mem_nil, or_false]
  rcases hr with h | rfl | rfl
  · exact .inl h
  · simp
  · simp

section
variable {s t : State} {p : Nat} {bs : List Byte} {hs : List Nat}

/-- The state of a good frame after its extents, its lookups and its count. -/
def State.counted (s t : State) (p : Nat) (bs : List Byte) : State := (t.lookups (sliceOf p) p (s.parsed p bs)).rxGood p bs.length

section
variable (htake : s.takeExtents (sliceOf p) p bs.length = (t, some hs))
include htake

theorem Law.counted : Law (maskOf countedFamilies) 0x14c98c s (s.counted t p bs) := by
  have hextents : Law (maskOf countedFamilies) 0x14c98c s t :=
    .of_fst htake (State.takeExtents_law (Law.refl _ _ s) (sliceOf p) p bs.length (by decide) (by decide))
  exact State.rxGood_law (State.lookups_law hextents _ _ _ (by decide) (by decide)) _ _ (by decide +kernel) (by decide)

theorem State.voq_counted : (s.counted t p bs).fab.voq = s.fab.voq := by
  have hextents := s.voq_takeExtents (sliceOf p) p bs.length
  rw [htake] at hextents
  have hcount : (s.counted t p bs).fab = (t.lookups (sliceOf p) p (s.parsed p bs)).fab := (KeepsRep.rxGood _ p bs.length).2 .fab (by decide)
  rw [hcount, State.fab_lookups]
  exact hextents

theorem KeepsIn.counted (hquiet : s.ruleWord (sliceOf p) p (s.parsed p bs) = 0) :
    KeepsIn (forwardSets (sliceOf p) p) forwardParts s (s.counted t p bs) := by
  have hlaw : Law (maskOf extentFamilies) 0x14810c s t :=
    .of_fst htake (State.takeExtents_law (Law.refl _ _ s) (sliceOf p) p bs.length (by decide) (by decide))
  have hextents : KeepsIn extentSets [.kettle, .fab, .freeCtr] s t := .of_law_within hlaw (by decide) (by decide +kernel) (by decide)
  have hrule : t.ruleWord (sliceOf p) p (s.parsed p bs) = 0 := by
    unfold State.ruleWord State.clsMatch at hquiet ⊢
    rwa [hlaw.slice (by decide)]
  have hlookups : KeepsRep [] [.slices] t (t.lookups (sliceOf p) p (s.parsed p bs)) :=
    State.lookups_of_quiet t _ _ _ hrule ▸ KeepsRep.hitMarked t (sliceOf p) p (s.parsed p bs)
  exact (hextents.mono (extentSets_subset _ _) (by decide)).trans ((hlookups.keepsIn.mono (by simp) (by decide)).trans
    ((KeepsRep.rxGood _ p bs.length).keepsIn.mono (by simp [forwardSets]) (by decide)))

theorem State.ingress_forwarded (stamp : Time16) (slots : Nat) (hgood : frameGood bs = true) (htype : (s.parsed p bs).ethType ≠ 0x8808)
    (hesmc : esmcOf bs (s.parsed p bs) = none) (hptp : (s.parsed p bs).ptp = none) (hcalm : s.calmDiscards = false)
    (h : s.forwards (sliceOf p) = true) :
    s.ingress p bs stamp slots = (s.counted t p bs).forward (sliceOf p) p bs (s.parsed p bs) (s.decideFrame (sliceOf p) p (s.parsed p bs)) stamp slots hs := by
  have hmode : SameMode s (s.counted t p bs) := (Law.counted htake).sameMode (by decide +kernel) (by decide)
  rw [State.ingress_of_extents stamp slots (State.parsed_passes hgood htype) htake, if_pos hgood, if_pos h, State.macCount_of_good _ p hgood,
    State.ingressEnd_of_plain _ _ _ _ hesmc hptp]
  exact State.goodFrame_of_forwards _ _ _ _ (hmode.calmDiscards.trans hcalm) ((hmode.forwards _).trans h)

end

/-- The extents of a frame that the slice forwards. -/
theorem State.takeExtents_of_some (h : s.forwards (sliceOf p) = true) (hmax : bs.length ≤ 10240)
    (hsome : (s.ingressExtents bs.length (sliceOf p)).2.isSome = true) : ∃ t hs, s.takeExtents (sliceOf p) p bs.length = (t, some hs) := by
  unfold State.takeExtents
  rw [if_neg (by simp [h]), Nat.min_eq_left hmax]
  generalize s.ingressExtents bs.length (sliceOf p) = r at hsome
  obtain ⟨t, _ | hs⟩ := r
  · exact absurd hsome Bool.false_ne_true
  · exact ⟨t, hs, rfl⟩

end

end Sys2Proof.Machine
end

section
/-! The queue entry of a forwarded frame, and the settling of O30. -/

namespace Sys2Proof.Machine

/-! ## A frame enters the queue of its one destination -/

/-- Two states agree on what decides whether a port takes a frame. -/
theorem State.takes_of_rd {s t : State} {r : Nat} (hstate : t.rd (Reg.PRT_STATE r) = s.rd (Reg.PRT_STATE r))
    (hcfg : t.rd (Reg.LN_CFG r) = s.rd (Reg.LN_CFG r)) : t.operUp r = s.operUp r ∧ t.fourLane r = s.fourLane r := by
  unfold State.operUp State.oper State.fourLane State.laneMode
  rw [State.fld_of_rd (F.PRT_STATE.OPER r) hstate, State.fld_of_rd (F.LN_CFG.MODE r) hcfg]
  exact ⟨rfl, rfl⟩

theorem KeepsIn.bufMoveAll (s : State) (src dst : Nat) (hs : List Nat) : KeepsIn Scope.buffers [.kettle, .fab] s (s.bufMoveAll src dst hs).1 :=
  .of_law_within (ks := moveFamilies) (State.bufMoveAll_law (Law.refl (maskOf moveFamilies) 0x10810c s) src dst hs (by decide) (by decide)) (by decide)
    (by decide +kernel) (by decide)

theorem Keeps.numbered (s : State) (n : Nat) : Keeps [] [.uid] s { s with uid := n } := by
  refine ⟨fun _ _ => rfl, fun p hp => ?_⟩
  cases p
  case uid => exact absurd (List.mem_singleton_self _) hp
  all_goals rfl

section
variable (u : State) {i p r : Nat} (bs : List Byte) (q : Parsed) {d : Decision} (stamp : Time16) (slots : Nat) (hs : List Nat)

/-- The state in which a forwarded frame has taken its number. -/
def State.numbered (i p : Nat) (q : Parsed) : State := { u.learned i p q with uid := (u.learned i p q).uid + 1 }

theorem State.numbered_shows :
    (u.numbered i p q).rd (Reg.SLC_CNT i 15) = u.rd (Reg.SLC_CNT i 15) + 1 ∧ (u.numbered i p q).uid = u.uid + 1 ∧ (u.numbered i p q).cycle = u.cycle ∧
      Keeps [Reg.SLC_CNT i 1, Reg.SLC_CNT i 3, Reg.SLC_CNT i 15] [.slices, .uid] u (u.numbered i p q) := by
  obtain ⟨hcount, huid, hcycle, hkeeps⟩ := u.learned_shows i p q
  exact ⟨hcount, congrArg (· + 1) huid, hcycle, (hkeeps.mono (by simp) (by simp)).trans ((Keeps.numbered _ _).mono (by simp) (by simp))⟩

theorem State.forward_shows (h : d.Unicast r) (hup : u.operUp r = true) (hlane : u.fourLane r = false)
    (hfresh : u.voqAt (voqKey i r d.cls) = Voq.fresh) :
    (u.forward i p bs q d stamp slots hs).rd (Reg.SLC_CNT i 15) = u.rd (Reg.SLC_CNT i 15) + 1 ∧
      ((u.forward i p bs q d stamp slots hs).voqAt (voqKey i r d.cls)).sram.map (fun f => (f.bytes, f.inPort, f.stamp, f.entry)) =
        [(bs, p, stamp, u.cycle)] ∧
      (u.forward i p bs q d stamp slots hs).uid = u.uid + 1 ∧
      KeepsIn (forwardSets i p) forwardParts u (u.forward i p bs q d stamp slots hs) := by
  obtain ⟨hcount, huid, hcycle, hkeeps⟩ := u.numbered_shows (i := i) (p := p) q
  have hports := State.takes_of_rd (s := u) (t := u.numbered i p q) (r := r)
    (hkeeps.1 _ (by simp only [List.mem_cons, List.not_mem_nil, or_false, Reg.PRT_STATE, Reg.SLC_CNT]; omega))
    (hkeeps.1 _ (by simp only [List.mem_cons, List.not_mem_nil, or_false, Reg.LN_CFG, Reg.SLC_CNT]; omega))
  have hqueue : (u.numbered i p q).voqAt (voqKey i r d.cls) = Voq.fresh :=
    (State.voqAt_of_voq (congrArg Fabric.voq (hkeeps.2 .fab (by decide))) _).trans hfresh
  have hforward := (u.forward_of_unicast bs stamp slots hs (p := p) (q := q) h).trans
    (State.enqueue_of_fresh (s := u.numbered i p q) (hports.1.trans hup) (hports.2.trans hlane) hqueue)
  have hmove := State.bufMoveAll_law (Law.refl (maskOf moveFamilies) 0x10810c (u.numbered i p q)) i Own.FABRIC hs (by decide) (by decide)
  have hmoved := KeepsIn.bufMoveAll (u.numbered i p q) i Own.FABRIC hs
  rw [hforward]
  refine ⟨?_, ?_, ?_, ?_⟩
  · rw [(Keeps.setVoq _ _ _).1 _ (by simp only [List.mem_cons, List.not_mem_nil, or_false, Reg.FAB_VOQ_OCC, Reg.FAB_VOQ_SPILL, Reg.SLC_CNT]; omega)]
    exact (hmove.rd_slcCnt (by decide +kernel) i).trans hcount
  · refine (congrArg (fun v : Voq => v.sram.map fun f => (f.bytes, f.inPort, f.stamp, f.entry)) (State.voqAt_setVoq _)).trans ?_
    rw [← hcycle]
    rfl
  · exact Eq.trans ((Keeps.setVoq _ _ _).2 .uid (by decide)) (Eq.trans (hmoved.2 .uid (by decide)) huid)
  · exact (hkeeps.keepsRep.keepsIn.mono (by simp [forwardSets]) (by decide)).trans
      ((hmoved.mono (List.subset_append_left _ _) (by decide)).trans
        ((Keeps.setVoq _ _ _).keepsIn.mono (by simp) (by decide)))

end

/-! ## Forwarded frames from reception to their queue -/

theorem execIngressFrame_forwarded {s : State} {p slots r : Nat} {bs : List Byte} (ts : LineStamp) (hp : p < 192) (hrec : s.receives p = true)
    (hmax : bs.length ≤ 10240) (hgood : frameGood bs = true) (htype : (s.parsed p bs).ethType ≠ 0x8808)
    (hesmc : esmcOf bs (s.parsed p bs) = none) (hptp : (s.parsed p bs).ptp = none) (hforwards : s.forwards (sliceOf p) = true)
    (hcalm : s.calmDiscards = false) (h : (s.decideFrame (sliceOf p) p (s.parsed p bs)).Unicast r) (hlane : s.fourLane r = false)
    (hup : s.operUp r = true)
    (hfresh : s.voqAt (voqKey (sliceOf p) r (s.decideFrame (sliceOf p) p (s.parsed p bs)).cls) = Voq.fresh)
    (hsome : (s.ingressExtents bs.length (sliceOf p)).2.isSome = true) :
    NextWith (exec (.ingressFrame p bs ts slots) s) fun t =>
      t.rd (Reg.PRT_RX_CNT p 0) = s.rd (Reg.PRT_RX_CNT p 0) + 1 ∧
      t.rd (Reg.PRT_RX_CNT p 1) = s.rd (Reg.PRT_RX_CNT p 1) + BitVec.ofNat 64 bs.length ∧
      t.rd (Reg.SLC_CNT (sliceOf p) 15) = s.rd (Reg.SLC_CNT (sliceOf p) 15) + 1 ∧
      (t.voqAt (voqKey (sliceOf p) r (s.decideFrame (sliceOf p) p (s.parsed p bs)).cls)).sram.map (fun f => (f.bytes, f.inPort, f.stamp, f.entry)) =
        [(bs, p, s.rxStamp p ts, s.cycle)] ∧
      t.uid = s.uid + 1 ∧ KeepsIn (forwardSets (sliceOf p) p) forwardParts s t := by
  obtain ⟨hframes, hbytes⟩ := s.ingress_of_good p (s.rxStamp p ts) slots hgood
  obtain ⟨t, hs, htake⟩ := State.takeExtents_of_some hforwards hmax hsome
  have hlaw := Law.counted htake
  have hports := State.takes_of_rd (r := r) (hlaw.rd_prtState (by decide +kernel) r) (hlaw.rd_lnCfg (by decide +kernel) r)
  obtain ⟨hcount, hqueue, huid, hkeeps⟩ := (s.counted t p bs).forward_shows (p := p) bs (s.parsed p bs) (s.rxStamp p ts) slots hs h (hports.1.trans hup)
    (hports.2.trans hlane) ((State.voqAt_of_voq (State.voq_counted htake) _).trans hfresh)
  refine ⟨_, exec_ingressFrame_of_receives bs ts slots hp hrec, hframes, hbytes, ?_⟩
  rw [State.ingress_forwarded htake _ _ hgood htype hesmc hptp hcalm hforwards]
  refine ⟨hcount.trans (congrArg (· + 1) (hlaw.rd_slcCnt (by decide +kernel) _)), ?_, huid.trans (congrArg (· + 1) (hlaw.part_off (p := .uid) (by decide))),
    (KeepsIn.counted htake ((s.decideFrame_shows _ _ _).1.symm.trans h.act)).trans hkeeps⟩
  rw [hqueue, hlaw.cycle]

/-! ## The obligation -/

/-- Settles O30: a frame is counted by its check whatever becomes of it; one that the slice forwards is followed from its extents through the lookups
to its queue. -/
theorem ingressJudgesAndForwardsFrames : Obligations.IngressJudgesAndForwardsFrames := by
  unfold Obligations.IngressJudgesAndForwardsFrames
  refine ⟨?_, ?_, ?_, ?_, ?_, ?_, ?_⟩
  case refine_1 =>
    intro s p slots bs ts hp hrec
    exact ⟨s, (if_neg (Nat.not_le.mpr hp)).trans (if_neg (by simp [hrec])), rfl⟩
  case refine_2 =>
    intro s p slots bs ts hp hrec hlen hidle _
    exact execIngressFrame_bad_idle slots ts hp hrec (by simp [frameGood]; omega) hidle (if_pos hlen)
  case refine_3 =>
    intro s p slots bs ts hp hrec hlen hidle
    exact execIngressFrame_bad_idle slots ts hp hrec (by simp [frameGood]; omega) hidle ((if_neg (by omega)).trans (if_pos hlen))
  case refine_4 =>
    intro s p slots bs ts hp hrec hmin hmax hfcs hidle
    exact execIngressFrame_bad_idle slots ts hp hrec (by simp [frameGood, hfcs]) hidle ((if_neg (by omega)).trans (if_neg (by omega)))
  case refine_5 =>
    intro s p slots bs ts hp hrec hbad
    obtain ⟨hcount, huid⟩ := s.ingress_of_bad p (s.rxStamp p ts) slots hbad
    obtain ⟨hqueues, hmode, hkeeps⟩ := State.ingress_bad_shows (s := s) (p := p) (s.rxStamp p ts) slots hbad
    exact ⟨_, exec_ingressFrame_of_receives bs ts slots hp hrec, hcount, hqueues, huid, hmode,
      hkeeps.mono (by intro x hx; simpa [badFrameSets, or_assoc, badCounter] using hx) (List.Subset.refl _)⟩
  case refine_6 =>
    intro s p slots bs ts hp hrec hmin hmax hfcs htype hesmc hptp hidle
    exact execIngressFrame_good_idle (frameGood_of hmin hmax hfcs) htype ts slots hp hrec hesmc hptp hidle rfl
  case refine_7 =>
    intro s p slots bs ts r hp hrec hmin hmax hfcs htype hesmc hptp hforwards hcalm hact hstream hgroup hempty hports _ hlane hup hfresh hsome
    have hflood := (s.decideFrame_shows (sliceOf p) p (s.parsed p bs)).2 hgroup
    exact execIngressFrame_forwarded ts hp hrec hmax (frameGood_of hmin hmax hfcs) htype hesmc hptp hforwards hcalm
      ⟨hact, hstream, hgroup, hflood, hempty, hports⟩ hlane hup hfresh hsome

end Sys2Proof.Machine
end
